-- ==== Sys2Proof/Word.lean ====
section
/-! DEFINITION. Words of the object dictionary: 64-bit registers, bytes, and the plain reading and writing of a
bit field. -/
namespace Sys2Proof

/-- A register word. The dictionary holds narrower scalars right-aligned in one (R341). -/
abbrev W := BitVec 64

/-- A byte of a BLOB, of a frame or of the boot flash. -/
abbrev Byte := BitVec 8

/-- The `len` bits of `w` from bit `lo` up, as a number. -/
def getBits (w : W) (lo len : Nat) : Nat := (w >>> lo).toNat % 2 ^ len

/-- `w` with its `len` bits from bit `lo` up replaced by the low bits of `v`. -/
def putBits (w : W) (lo len v : Nat) : W :=
  let m : W := BitVec.ofNat 64 (2 ^ len - 1) <<< lo
  (w &&& ~~~m) ||| (BitVec.ofNat 64 (v % 2 ^ len) <<< lo)

/-- `v`, an `n`-bit number, read as a signed one. -/
def signed (n v : Nat) : Int := if v % 2 ^ n < 2 ^ (n - 1) then (v % 2 ^ n : Nat) else (v % 2 ^ n : Nat) - (2 ^ n : Nat)

/-- The `n`-bit pattern of a signed number. -/
def unsigned (n : Nat) (i : Int) : Nat := (i % (2 ^ n : Nat)).toNat

/-- Comparison by signed difference (R255): `x` is later than `y` among `n`-bit values. -/
def later (n x y : Nat) : Bool :=
  let d := (x + (2 ^ n - y % 2 ^ n)) % 2 ^ n
  0 < d && d < 2 ^ (n - 1)

end Sys2Proof
end

