-- ==== Sys2Proof/Syntax.lean ====
section
/-! DEFINITION. The commands the block takes: one constructor of `Instr` for each row of spec/opcode_table.json.
A host's request carries the `Req` in whose name it is made; an event carries what the outside supplies with it
(the sample, the header, the reading), and the unit on which it falls. -/
namespace Sys2Proof

/-- The four access classes (R312 byte 6, R318). -/
inductive Cls where
  | operate | configure | maintain | secure
deriving DecidableEq, Repr

/-- The path by which a request reached the mast (R322 VIA, R337 VIA). -/
inductive Path where
  | busA | busB | media | pcie
deriving DecidableEq, Repr

/-- A host's request, as the mast judges it (R335): its context, the class it acts in, the ceiling of its session or
function, the path, the session and the NCP SEQUENCE. -/
structure Req where
  ctx     : Fin 4
  cls     : Cls
  ceil    : Cls
  path    : Path
  session : Nat
  seq     : Nat
deriving DecidableEq, Repr

/-- An object address (R313): index, subindex, element (for STR and BLOB, the byte offset). -/
structure Addr where
  ix  : Nat
  sub : Nat
  e   : Nat
deriving DecidableEq, Repr

/-- Where an NCP message or a frame enters and leaves: one of the four control-bus attachments (R307) or a media MAC
(die × 16 + MAC), with the VLAN that the frame is tagged with (R311). -/
inductive Att where
  | bus (a : Fin 4)
  | mac (m vid : Nat)
deriving DecidableEq, Repr

/-- The header fields of an NCP request that the part accepts (R312), with the sender it came from. -/
structure Ncp where
  att     : Att
  ip      : Nat
  udp     : Nat
  session : Nat
  cls     : Cls
  seq     : Nat
deriving DecidableEq, Repr

/-- An object address as a message carries it (R313), with its byte 3, which is reserved. -/
structure WireAddr where
  addr : Addr
  res  : Nat
deriving DecidableEq, Repr

/-- One item of a WRITE (R314): the address, its bytes 8 and 9 as one number (the reserved byte, then TYPE), and the value's bytes, most
significant first (R311, R313). -/
structure WItem where
  at_ : WireAddr
  typ : Nat
  val : List Byte
deriving DecidableEq, Repr

/-- The last four bytes of a SUBSCRIBE (R314): PERIOD in ms, ACTION, the reserved byte. -/
structure SubTail where
  period : Nat
  action : Nat
  res    : Nat
deriving DecidableEq, Repr

/-- A frame on a control-bus segment (R308): addressed to the attachment or broadcast, untagged, its length, whether
its FCS is right, and what it is. -/
inductive BusPayload where
  | arp | icmp
  | ncp (ip udp : Nat) (msg : List Byte)
  | twin (msg : List Byte)
  | other
deriving DecidableEq, Repr

structure BusFrame where
  toMe   : Bool
  tagged : Bool
  len    : Nat
  fcsOk  : Bool
  /-- The carrier lasted more than 2 ms. -/
  jabber : Bool
  body   : BusPayload
deriving DecidableEq, Repr

/-- What an Announce carries of its grandmaster (IEEE 1588, R266). -/
structure GmData where
  prio1 : Nat
  cls   : Nat
  acc   : Nat
  var   : Nat
  prio2 : Nat
  ident : Nat
  steps : Nat
deriving DecidableEq, Repr

/-- PTP messages a port receives (R264), from a sender by its port identity (clockIdentity × 65,536 + port number); times in ps. Of an event
message the MAC has the stamp (R228). -/
inductive PtpMsg where
  | announce (domain src : Nat) (gm : GmData)
  | sync (domain src seq : Nat) (twoStep : Bool) (t1 corr : Int)
  | followUp (domain src seq : Nat) (t1 corr : Int)
  | delayResp (domain src seq : Nat) (t4 corr : Int)
  | delayReq (domain src seq : Nat)
deriving DecidableEq, Repr

/-- The message intervals of a port (R262). -/
inductive PtpTx where
  | announce | sync | delayReq
deriving DecidableEq, Repr

/-- What the start sequence of LOAD finds outside the model's own tables (R33, R417): a lane or DRAM training failure that
ends LOAD, ranks that fail training (R379), ranks that fail the DRAM wipe (R389), engines that fail self-test (R362), dies that
fail the test of R393, images of the half booted that the flash could not give, whether a staged bundle's import converts every SAVED value (R428), and the
process monitors' readings (R444). -/
structure LoadReport where
  trained   : Bool
  ranksFail : List Nat
  wipeFail  : List Nat
  engFail   : List Nat
  diesFail  : List Nat
  flashOk   : Bool
  converts  : Bool
  mons      : List (Nat × Nat)
deriving DecidableEq, Repr

/-- A second's pace figures of one die (R447, R448). -/
structure PaceReading where
  die    : Nat
  rated  : Nat
  config : Nat
  region : Nat
  load   : Nat
deriving DecidableEq, Repr

/-- The ageing model's inputs for one die (R452, R460). -/
structure AgeInput where
  die    : Nat
  tj     : Nat
  shift  : Nat
  hours  : Nat
  margin : Nat
deriving DecidableEq, Repr

/-- What a salvo or a hold is made of (R83, R85): takes, audio changes, head commits; or a whole salvo. -/
inductive MemberKind where
  | take | audio | head | salvo
deriving DecidableEq, Repr

/-- A take, audio change or head commit in progress (R74 codes 0x01–0x03, R122, R182). -/
structure Work where
  kind     : MemberKind
  elem     : Nat
  /-- 1 STAGED, 2 PENDING, 3 HELD. -/
  state    : Nat
  ctx      : Nat
  salvo    : Nat
  /-- The command words as committed. -/
  w0       : W
  w1       : W
  /-- Acceptance order (R76). -/
  order    : Nat
  /-- The counts are field counts (R69). -/
  field    : Bool
  /-- The format whose switch lines time it. -/
  fmt      : Nat
  /-- F+0, and the frame or field decided, as full counts (R68, R90). -/
  due      : Nat
  land     : Nat
  late     : Bool
  /-- MARGIN at acceptance (R73). -/
  margin   : Int
  /-- It needs tables still being rebuilt (R88), and its deadline on H (R90). -/
  needs    : Bool
  deadline : Nat
  /-- The switch instant was decided before a jump of H and no longer lies ahead (R276). -/
  jumped   : Bool
deriving DecidableEq, Repr

/-- A destination that has left its reset source (R62). -/
structure Dest where
  live   : Nat
  entry  : Nat
  landed : Nat
  /-- The audio-follow source (R124). -/
  follow : Nat
  /-- It parks at its next switch line (R91). -/
  park   : Bool
  /-- It carries black and silence for a source that has failed, since its last switch line (R105). -/
  black  : Bool
  /-- What it carried before it last turned (PARK: black), and the line at which it turned, counted from line 1 of frame 0 (R81). -/
  prev   : Nat
  turned : Nat
deriving DecidableEq, Repr

/-! ### What the twin sends (chapter 11) -/

/-- A decision, or another message of the twin link (R283): a commit forwarded (R93); a take, audio change or head commit
decided; a cancel, a discard; a picture decision of a frame synchroniser (R104: 0 as in R101, 1 a repeat, 2 a drop, 3 a discard), and an audio slip; a reservation
(R125); a gain or delay written (R129); an ASRC channel's ratio (R161); a layer's repeat or fallback, word 1 and descriptors of a head, and FLAT READY (R191); a hold
of an item and its release (R383: kind and owner as `Item` has them); a health report (R303); the response to a commit sent on
(R93). -/
inductive DecBody where
  | forward (kind : MemberKind) (e : Nat) (w0 w1 : W) (ctx : Fin 4)
  | work (x : Work)
  | cancel (kind : MemberKind) (e : Nat)
  | discard (n : Nat)
  | fsync (p act : Nat)
  | reserve (p : Nat) (elems : List Nat)
  | gain (e : Nat) (v : W) (start : Nat)
  | delay (e : Nat) (w1 : W) (start : Nat)
  | asrc (e state : Nat) (ratio : Int) (phase : Nat)
  | asrcStop (e : Nat)
  | headRepeat (h layer : Nat)
  | headFallback (h layer : Nat)
  | headWords (h : Nat) (w1 : W) (layers : List (Nat × List W))
  | flatReady (h : Nat)
  | slip (p : Nat) (rep : Bool)
  | hold (kind owner : Nat)
  | release (kind owner : Nat)
  | report (words : List W)
  | response (a : Addr) (status : Nat)
  | ack (seq : Nat)
deriving DecidableEq, Repr

/-- A message of the twin: its decision number, and whether it came over the control bus. -/
structure Decision where
  seq  : Nat
  bus  : Bool
  body : DecBody
deriving DecidableEq, Repr

/-- A snapshot (R304): register words (index, element, word, value), live and shadow; the crosspoint bank; work in progress. -/
structure Snapshot where
  words  : List (Nat × Nat × Nat × W)
  shadow : List (Nat × Nat × Nat × W)
  dests  : List (Nat × Dest)
  work   : List Work
  ident  : BitVec 512
deriving DecidableEq, Repr

/-- One copy of a sheet at a pair's release (R295): its descrambled header and its arrival offset in 1/16 block. -/
structure PairCopy where
  header  : W
  arrival : Int
deriving DecidableEq, Repr

/-- The two copies of one slot (R296). -/
structure PairSlot where
  passA : Bool
  passB : Bool
  sameCrc : Bool
  sameWords : Bool
deriving DecidableEq, Repr

/-- A rank's failure (R382): cause 1 an uncorrectable data error, 2 a command/address error; the item of the line that failed, its kind and
owner as `Item` has them; and where in it the line lies: of an accord image, the tile's column and row; of a frame store, the picture, that
being read first and then the unread ones, oldest first, and the picture's line. -/
structure RankFault where
  cause : Nat
  item  : Option (Nat × Nat)
  spot  : Nat × Nat
deriving DecidableEq, Repr

/-! ### Lanes (chapter 8) -/

/-- A sheet as a lane's receive buffer holds it: the descrambled header block, its slots with their CRC-16 results, and the PRBS31
errors where it is a test sheet. -/
structure SheetCopy where
  header  : W
  slots   : List (Nat × Bool)
  testErr : Nat
deriving DecidableEq, Repr

/-- What a sheet instant meets (R204, R289, R302): whether the twin's digest of any lane that carries ports differed (none: no
digest came), and the deciding twin's arrival offset in 1/16 block. -/
structure SheetIn where
  digest  : Option Bool
  offTwin : Option Int
  /-- Bits that arrived in the sheet's time on receive lanes under a raw pattern (R214), by lane element. -/
  prbs    : List (Nat × List Bool)
  /-- Slots whose self-test stream failed in the sheet: (die × 64 + lane) × 24 + slot. -/
  stFail  : List Nat
  /-- Accord tiles whose DRAM read missed its line (R186): layer element, tile column and row. -/
  late    : List (Nat × Nat × Nat)
deriving DecidableEq, Repr

/-- A lane at the end of its shroud's training (R207): position, peaking, eye height, the header it locked to, arrival. -/
structure Trained where
  pos     : Nat
  ctle    : Nat
  eye     : Nat
  header  : W
  arrival : Int
  /-- The rate that a lane in SDI mode found, as `LK_STAT` codes it; 0: none. -/
  rate    : Nat
  /-- The DFE taps to which it adapted, tap 1 first, in thousandths of the main cursor (R208). -/
  dfe     : List Int
deriving DecidableEq, Repr

/-! ### Media (chapter 9) -/

/-- A flow of the part: a port's (k: 0 video, 1 ANC, 2 audio) or a crosspoint flow (R239). -/
structure FlowId where
  cross : Bool
  idx   : Nat
  k     : Nat
deriving DecidableEq, Repr

/-- An ANC packet as a transport brings it (R238, R246), or as egress places it: its line, DID, SDID and DC as 10-bit words, the horizontal
offset, the stream (1: colour difference), its user data words, and whether its checksum passes. -/
structure Anc where
  line   : Nat
  did    : Nat
  sdid   : Nat
  dc     : Nat
  off    : Nat
  stream : Nat
  words  : List Nat
  sumOk  : Bool
deriving DecidableEq, Repr

/-- What an RTP packet carries: video, whether its picture passes the format checks and is not compressed (R237), and its runs of pixels
(the carried line of the picture or field, from 0; how many pixels of it); ANC packets, the last of their picture or not (R238); audio, as
L16 or L24, by sample periods and in each of them the channels in order (R239). -/
inductive RtpBody where
  | video (good : Bool) (runs : List (Nat × Nat))
  | anc (l : List Anc) (last : Bool)
  | audio (l16 : Bool) (periods : List (List Int))
deriving DecidableEq, Repr

/-- A packet of a flow (R243): its extended RTP sequence number, its RTP timestamp, and what it carries. -/
structure RtpPacket where
  seq   : Nat
  stamp : Nat
  body  : RtpBody
deriving DecidableEq, Repr

/-- What a received frame is beyond its addresses (R220). A PAUSE frame that comes while the transmitter is paused tells besides the bytes of
each essence packet that came for the transmitter meanwhile. -/
inductive MacBody where
  | pause (quanta : Nat) (packets : List Nat)
  | control
  | rtp (group udp : Nat) (x : RtpPacket)
  | ptp (event : Bool) (domain src seq msgType : Nat)
  | ncp (ip udp : Nat) (msg : List Byte)
  | igmpQuery
  | arp | icmp
  | other
deriving DecidableEq, Repr

/-- A frame a media MAC receives: length with FCS, a fragment, FCS right, its tag, its destination address, corrected and
uncorrectable codewords, descriptors as the ring holds them from NEXT on. -/
structure MacFrame where
  len   : Nat
  frag  : Bool
  fcsOk : Bool
  vid   : Option Nat
  da    : Nat
  fec   : Nat × Nat
  body  : MacBody
  ring  : List (W × W)
deriving DecidableEq, Repr

/-- A received SDI line (R244–R248): the rate code of `LK_STAT`, line number at its position, CRC and number right, payload ID
(ST 352 bytes 1 to 4, byte 1 highest), samples on the line, audio packets that ECC could not correct, ANC packets; the last line
of its picture. -/
structure SdiLine where
  rate   : Nat
  line   : Nat
  crcOk  : Bool
  numOk  : Bool
  pid    : Option Nat
  samples : Nat
  audErr : Nat
  anc    : List Anc
  last   : Bool
deriving DecidableEq, Repr

/-! ### Crossbar, CRC units, memory (chapters 14, 15) -/

/-- A burst that is cut short (R357): beats done and in all; the target failed, or the master was reset. -/
structure Burst where
  master : Nat
  target : Nat
  write  : Bool
  done   : Nat
  total  : Nat
  addr   : Nat
  failed : Bool
  /-- Of a write, the bytes of those beats. -/
  data   : List Byte
deriving DecidableEq, Repr

/-- A control-plane access (R350–R355); of a write, its bytes. -/
structure Access where
  addr  : Nat
  len   : Nat
  write : Bool
  excl  : Bool
  data  : List Byte
deriving DecidableEq, Repr

/-- What a CRC job meets (R370): DRAM bytes where it reads DRAM, EXPECT's parity, the bytes done before a read error, and for a
unit of the part whether its result matched. -/
structure CrcEnd where
  dram    : List Byte
  parity  : Bool
  readErr : Option Nat
  part    : Bool
deriving DecidableEq, Repr

/-- The commands: one constructor for each row of the table, in its order. -/
inductive Instr where
  /-- POWER_ON (R464). VAON rises: the always-on domain starts, the counter starts at 0 and the epoch advances. Operands: the TSENSOR reading in 0.001 °C (R252). -/
  | powerOn (temp : Int)
  /-- PACKAGE_RESET (R417). A package reset (RESET_N, undervoltage or lifecycle change) wipes SRAM, closes sessions, runs mast election and starts the boot ROM in SAFE. Operands: whether SP0 and the keeper of dies 0 and 1 pass (R24); the dies whose sillage region fails its wipe (R405). -/
  | packageReset (die0 die1 : Bool) (badRegions : List Nat)
  /-- REQUEST_SAFE (R32). A host requests SAFE through SY_MODE.02; any transition in progress is abandoned and outputs idle within 1 ms. -/
  | requestSafe (rq : Req)
  /-- REQUEST_LOAD (R32). A host requests LOAD from SAFE; if the condition holds, the start sequence begins. -/
  | requestLoad (rq : Req)
  /-- REQUEST_STANDBY (R32). A host requests STANDBY from LOAD, ACTIVE, SERVICE or HOLD, judged against the legal transitions. -/
  | requestStandby (rq : Req)
  /-- REQUEST_ACTIVE (R32). A host requests ACTIVE from STANDBY; a new claim epoch is set and the claim is raised within 4 sheets. -/
  | requestActive (rq : Req)
  /-- REQUEST_HOLD (R34). A host requests HOLD; takes are discarded, DRAM goes to self-refresh and only the retained regions stay powered. -/
  | requestHold (rq : Req)
  /-- REQUEST_SERVICE (R32). A host requests SERVICE from STANDBY; test sheets replace live sheets at the next sheet boundary. -/
  | requestService (rq : Req)
  /-- LOAD_COMPLETE (R33). The LOAD start sequence finishes, and PHASE becomes 0x2 or, on a failure, 0x3. -/
  | loadComplete (rep : LoadReport)
  /-- LOAD_TIMEOUT (R32). LOAD has not succeeded within 60 s, and PHASE becomes 0x3. -/
  | loadTimeout
  /-- MODE_TRANSITION_COMPLETE (R32). A timed mode transition (claim change, HOLD or SERVICE entry or return) completes, and PHASE settles. -/
  | modeTransitionComplete
  /-- THERMAL_TRIP (R35). A die's thermal comparator reads Tj at or above 125 °C: outputs stop within 20 µs, SAFE is entered and a last-gasp record is written. -/
  | thermalTrip (d tj : Nat)
  /-- UNDERVOLTAGE (R35). The core supply stays below 0.62 V for more than 2 µs: a last-gasp record is written and the package is reset. -/
  | undervoltage (d mv : Nat)
  /-- SHEET_START (R204). A house sheet instant: transmit lanes send sheet N, and per-sheet counting of claims, digests and trim runs. -/
  | sheetStart (inp : SheetIn)
  /-- RX_HEADER_BLOCK (R201). A receive lane examines a header block position to hunt for, gain or keep sheet lock. Operands: lane element, bit position modulo the 12,738 bits of a sheet, sync header, descrambled payload, arrival offset in 1/16 block. -/
  | rxHeaderBlock (e pos sync : Nat) (payload : W) (arrival : Int)
  /-- LANE_SIGNAL_LOSS (R201). A receive lane sees no signal energy for one block, counts a loss and enters LOS. Operands: the lane element. -/
  | laneSignalLoss (e : Nat)
  /-- LANE_SIGNAL_RETURN (R201). Signal energy returns on a lane in LOS, and the lane starts to hunt. -/
  | laneSignalReturn (e : Nat)
  /-- RX_SHEET (R58). A live sheet of a locked lane is decoded with the calendar bank that its CBANK names, or with the live bank, counting CAL-SKEW. Operands: the receive data lane, and the copies of the sheet that its own lane and its shroud's spare brought. -/
  | rxSheet (d lane : Nat) (data spare : Option SheetCopy)
  /-- RX_ESSENCE_FRAME (R50). A receiver takes an essence frame of a port stream and checks its header, TAG, FORMAT and LINE. Operands: the source port whose stream it is, the header word, the payload words. -/
  | rxEssenceFrame (p : Nat) (header : W) (payload : List W)
  /-- RX_OVERRUN (R16). A lane receive buffer overruns and the newest sheet is discarded whole. -/
  | rxOverrun (d lane : Nat)
  /-- TX_STARVE (R451). A transmit lead runs out and the essence frames that miss their transmit time are not sent. Operands: the transmit lane and the essence frames not sent. -/
  | txStarve (d lane frames : Nat)
  /-- MESH_GROUP_FAIL (R19). A mesh link group fails and is replaced by the spare, or the link is declared failed and a die is isolated. Operands: the dies of the link. -/
  | meshGroupFail (d1 d2 : Nat)
  /-- PORT_TABLE_WRITE (R54). A write to ES_PORT_SRC or ES_PORT_DST goes to the shadow entry after its self-consistency checks. Operands: dst: `ES_PORT_DST`, else `ES_PORT_SRC`. -/
  | portTableWrite (rq : Req) (dst : Bool) (p : Nat) (v : W)
  /-- CAL_COMMIT (R57). COMMIT to ES_CAL_CTRL freezes the shadow tables and starts the rebuild. -/
  | calCommit (rq : Req)
  /-- CAL_ABANDON (R57). ABANDON to ES_CAL_CTRL copies the live port tables over the shadow, stopping any build and ending held commits REBUILD. -/
  | calAbandon (rq : Req)
  /-- REBUILD_DONE (R57). The rebuild's checks and calendar build end, and STATE becomes READY or FAILED. -/
  | rebuildDone
  /-- CALENDAR_PUBLISH (R57). At the sheet boundary after READY every die swaps port tables and calendars, toggles CBANK and rechecks held work. -/
  | calendarPublish
  /-- TAKE_COMMIT (R75). A COMMIT in XP_TAKE word 0 is checked and accepted as STAGED, PENDING or HELD, or fails with a status. Operands: words 0 and 1 of the entry; OP of word 0 is the row's. -/
  | takeCommit (rq : Req) (e : Nat) (w0 w1 : W)
  /-- TAKE_CANCEL (R77). A CANCEL in XP_TAKE word 0 withdraws a staged, held or early pending take, or is refused. -/
  | takeCancel (rq : Req) (e : Nat) (w0 : W)
  /-- TWIN_DECISION_RECEIVED (R291). A twin that does not decide receives a mirrored decision and places it on its decided frame or the next it can meet. -/
  | twinDecisionReceived (d : Decision)
  /-- DECISION_ACK_TIMEOUT (R289). A decision is not acknowledged by the twin within 12 µs, and the other twin becomes DIVERGED. Operands: the decision's number. -/
  | decisionAckTimeout (seq : Nat)
  /-- SWITCH_LINE (R81). At a destination's switch line its die swaps live and shadow entries, and takes, audio changes and head commits land. Operands: the destination port; from 16384 on, the switch line that times die `p - 16384`'s endpoint changes (`AU_CTRL` TFMT). -/
  | switchLine (p : Nat)
  /-- SALVO_ARM (R85). An ARM in XP_SALVO word 0 makes one decision for the whole salvo and sends the go. -/
  | salvoArm (rq : Req) (n : Nat) (w0 w1 : W)
  /-- SALVO_DISCARD (R87). A DISCARD in XP_SALVO word 0 cancels an open or held salvo, or an armed one still outside the lead. -/
  | salvoDiscard (rq : Req) (n : Nat) (w0 : W)
  /-- SALVO_TIMEOUT (R83). An open salvo passes 60 s after its last staging without an ARM and ends CANCELLED. -/
  | salvoTimeout (n : Nat)
  /-- HOLD_DEADLINE (R90). No publication arrives by the held take's or salvo's deadline, and it ends REBUILD. Operands: the held take, audio change, head commit or salvo. -/
  | holdDeadline (kind : MemberKind) (e : Nat)
  /-- ES_ALIGN_WRITE (R107). A write to ES_ALIGN is judged and applied from the source's next picture boundary. -/
  | esAlignWrite (rq : Req) (p : Nat) (v : W)
  /-- SOURCE_PICTURE (R100). A SYNC source's picture offset is measured and its alignment state advances. Operands: the capture time of its first carried line in ns of PTP time, where no FRAME frame gives it (R97), carried lines missing, and the format ID received where every frame of the picture failed the FORMAT check. -/
  | sourcePicture (p capture missing : Nat) (alien : Option Nat)
  /-- SOURCE_LOST (R105). No essence frame of a source arrives for two line periods at its alignment point, and the source enters LOST. -/
  | sourceLost (p : Nat)
  /-- FSYNC_PICTURE_START (R101). A source picture starts, and the frame store chooses a buffer or drops the oldest unread picture. Operands: the picture's frame count, and the capture time of its first carried line in ns of PTP time, where no FRAME frame gives them. -/
  | fsyncPictureStart (p count capture : Nat)
  /-- FSYNC_PICTURE_END (R101). A source picture ends, and it is marked complete under the 16-line rule or discarded. Operands: the carried lines missing. -/
  | fsyncPictureEnd (p : Nat) (missing : List Nat)
  /-- FSYNC_READ_INSTANT (R101). At house line 1 the store reads the oldest unread picture or repeats the last one with RPT. -/
  | fsyncReadInstant (p : Nat)
  /-- FSYNC_AUDIO_SLIP (R103). The SLIP audio fill drifts one whole sample and one sample is repeated or dropped on all channels. Operands: repeated, or dropped. -/
  | fsyncAudioSlip (p : Nat) (rep : Bool)
  /-- LOSSHOLD_EXPIRE (R105). An FSYNC source has repeated for LOSSHOLD frames, and its destinations go to black unless FREEZE is set. -/
  | lossholdExpire (p : Nat)
  /-- AU_SRC_WRITE (R118). A write to AU_SRC takes effect from the next sample. -/
  | auSrcWrite (rq : Req) (e : Nat) (v : W)
  /-- AU_DST_TARGET_WRITE (R123). A write of AU_DST word 1 sets the target, gain, method and delay of a destination channel. Operands: word 1. -/
  | auDstTargetWrite (rq : Req) (e : Nat) (v : W)
  /-- AUDIO_CHANGE_COMMIT (R126). A COMMIT in AU_DST word 0 is judged and accepted as staged, pending or held. -/
  | audioChangeCommit (rq : Req) (e : Nat) (w0 : W)
  /-- AUDIO_CHANGE_CANCEL (R127). A CANCEL in AU_DST word 0 withdraws an audio change under the take cancel rules. -/
  | audioChangeCancel (rq : Req) (e : Nat) (w0 : W)
  /-- AUDIO_SAMPLE (R130). Each house sample advances running transitions, detecting zero crossings, fades and gain ramps. Operands: the house sample's value of each embedded reference that is not silent (R119; a FEED channel of a destination as 2^32 + port × 32 + k), behind stores and slips, and of each receive endpoint as 2^33 + die × 16,384 + endpoint: of a serial port the sample of each frame that its stream maps to this index, which is one but at a slip, none or two; V, U, C, BLK and NPCM (bits 4 to 0) of receive endpoints with channel status, by die × 16,384 + endpoint; AES3 errors by `AU_PORT_STAT` element (R144). -/
  | audioSample (vals : List (Nat × Int)) (status : List (Nat × Nat)) (codeErr : List (Nat × Nat))
  /-- AUDIO_TRANSITION_TIMEOUT (R130). A ZC transition reaches its timeout without a zero crossing and crossfades or fades in. Operands: the channel. -/
  | audioTransitionTimeout (id : Nat)
  /-- AU_GAIN_WRITE (R134). A write to AU_GAIN starts a 64-sample ramp on every channel using the entry. -/
  | auGainWrite (rq : Req) (e : Nat) (v : W)
  /-- AUDIO_PORT_CONFIG_WRITE (R145). A write to AU_TDM or AU_AES is judged and applied to stopped directions. Operands: aes: `AU_AES`, else `AU_TDM`. -/
  | audioPortConfigWrite (rq : Req) (aes : Bool) (e : Nat) (v : W)
  /-- MASK_WRITE (R148). A write to AU_TDM_MASK is staged and committed to the port's clock island within 2 µs. -/
  | maskWrite (rq : Req) (e : Nat) (v : W)
  /-- MASK_APPLY (R148). A committed mask applies from the first frame-sync edge at least two bit clocks after the commit. Operands: the frame count at the frame-sync edge where an external clock gives it (ignored for MASTER). -/
  | maskApply (e frame : Nat)
  /-- START_TRIGGER (R151). A START in AU_START decides one house index S for its ports and arms the trigger. Operands: words 0–2; OP of word 0 is the row's. -/
  | startTrigger (rq : Req) (n : Nat) (w0 w1 w2 : W)
  /-- STOP_TRIGGER (R152). A STOP in AU_START decides an index S at which its streams end. -/
  | stopTrigger (rq : Req) (n : Nat) (w0 w1 w2 : W)
  /-- ABORT_TRIGGER (R152). An ABORT in AU_START withdraws an armed trigger. -/
  | abortTrigger (rq : Req) (n : Nat) (w0 w1 w2 : W)
  /-- TRIGGER_ACT (R151). An armed trigger reaches its index S and starts or stops every named enabled direction. -/
  | triggerAct (n : Nat)
  /-- STREAM_UNDERRUN (R153). A running stream loses its clock or samples and gives zeros while it keeps counting frames. Operands: the `AU_PORT_STAT` element and direction; clock: for want of the external clock or preamble. -/
  | streamUnderrun (e : Nat) (tx clock : Bool)
  /-- STREAM_REJOIN (R153). An underrun stream's data returns and it rejoins on the grid with a 64-sample fade-in. -/
  | streamRejoin (e : Nat) (tx : Bool)
  /-- STREAM_PHASE_SLIP (R154). A LOCKED stream's frame phase moves more than half a sample, is recaptured and one sample slips. Operands: rep: a sample is repeated, else dropped. -/
  | streamPhaseSlip (e : Nat) (tx rep : Bool)
  /-- STREAM_OFFRATE (R154). An external clock differs from house by more than 10 ppm over 1 s and CLKSTATE reads OFFRATE. Operands: the rate against house in 0.01 ppm. -/
  | streamOffrate (e : Nat) (off : Int)
  /-- AU_ASRC_WRITE (R158). A write of AU_ASRC word 0 rebinds an ASRC channel, fading the old binding and entering ACQUIRE. Operands: word 0. -/
  | auAsrcWrite (rq : Req) (e : Nat) (v : W)
  /-- ASRC_LOCK (R159). An acquiring ASRC channel becomes LOCKED and fades its output in. Operands: the tracked ratio's departure from nominal in 0.001 ppm. -/
  | asrcLock (e : Nat) (ratio : Int)
  /-- ASRC_UNLOCK (R160). An ASRC channel's input stops or leaves range, it becomes UNLOCKED and its output fades out. -/
  | asrcUnlock (e : Nat)
  /-- CM_LAYER_WRITE (R171). A write of a CM_LAYER descriptor goes to the shadow after its range checks. -/
  | cmLayerWrite (rq : Req) (e w : Nat) (v : W)
  /-- CM_IMAGE_WRITE (R178). A write to CM_IMAGE defines or changes an image of the image store. -/
  | cmImageWrite (rq : Req) (e : Nat) (v : W)
  /-- CM_PIXELS_WRITE (R179). A write to CM_PIXELS stores a word of the image store unless the image is in use. -/
  | cmPixelsWrite (rq : Req) (e : Nat) (v : W)
  /-- CM_PALETTE_WRITE (R180). A write to CM_PALETTE sets a palette entry unless a layer names it. -/
  | cmPaletteWrite (rq : Req) (e : Nat) (v : W)
  /-- HEAD_COMMIT (R182). A COMMIT in CM_HEAD word 0 is judged and accepted as held, staged or pending. Operands: words 0 and 1; OP of word 0 is the row's. -/
  | headCommit (rq : Req) (h : Nat) (w0 w1 : W)
  /-- HEAD_CANCEL (R183). A CANCEL in CM_HEAD word 0 withdraws a head commit under the take cancel rules. -/
  | headCancel (rq : Req) (h : Nat) (w0 : W)
  /-- FLATTEN_DONE (R183). Flattening of a commit's accord images ends and FLAT reads READY, or FAILED on a DRAM fault. Operands: good: no DRAM fault. -/
  | flattenDone (h : Nat) (good : Bool)
  /-- LK_LANE_WRITE (R198). A write to LK_LANE changes a lane's mode, sleep depth, loopback or peer check. -/
  | lkLaneWrite (rq : Req) (e : Nat) (v : W)
  /-- LANE_TRAINING_DONE (R207). A shroud's receive lanes finish training and sheet lock, and decoding starts. Operands: the receive shroud and its lanes that trained. -/
  | laneTrainingDone (d shroud : Nat) (lanes : List Trained)
  /-- LK_TXEQ_WRITE (R209). A write to LK_TXEQ sets new transmit taps, applied at once or walked step by step. -/
  | lkTxeqWrite (rq : Req) (e : Nat) (v : W)
  /-- TXEQ_STEP (R209). Every 64 sheets a sending lane's taps move one step towards the written values. Operands: the lane element. -/
  | txeqStep (e : Nat)
  /-- STAY_LOS (R203). A shroud's stay is lost and its PLL switches to the timing plane's lane clock. Operands: the stay's lane element. -/
  | stayLos (e : Nat)
  /-- STAY_RETURN (R203). After 1 ms of steady lock on a returned stay the PLL moves back to it. -/
  | stayReturn (e : Nat)
  /-- SPARE_COVER (R212). A COVER in LK_SPARE makes a transmit spare mirror a data lane from a decided sheet. Operands: word 0 of the `LK_SPARE` element; OP is the row's. -/
  | spareCover (rq : Req) (e : Nat) (v : W)
  /-- SPARE_RELEASE (R212). A RELEASE in LK_SPARE returns a mirroring spare to test sheets after 64 sheets. -/
  | spareRelease (rq : Req) (e : Nat) (v : W)
  /-- PRBS_PATTERN_WRITE (R214). A write of LK_PRBS enables or changes a raw test pattern or error injection on a lane. Operands: word 0 (GO and SLIP 0) or word 1. -/
  | prbsPatternWrite (rq : Req) (e w : Nat) (v : W)
  /-- PRBS_INJECT (R214). GO in LK_PRBS injects a single bit error or burst once. Operands: word 0 with GO set. -/
  | prbsInject (rq : Req) (e : Nat) (v : W)
  /-- PRBS_SLIP (R214). SLIP in LK_PRBS moves the receive word boundary one bit later. Operands: word 0 with SLIP set; the bits that the checker takes next. -/
  | prbsSlip (rq : Req) (e : Nat) (v : W) (bits : List Bool)
  /-- LANE_ERROR_SECOND (R216). Each PTP second, lanes whose DATA-CRC count exceeds LK_ERR_LIMIT produce a LANE-ERRORS record. -/
  | laneErrorSecond
  /-- MX_MAC_WRITE (R219). A write to MX_MAC enables or configures a media MAC, which brings its link up. Operands: word `w` of the element. -/
  | mxMacWrite (rq : Req) (m w : Nat) (v : W)
  /-- MAC_RX_FRAME (R220). A media MAC receives a frame and passes it through the claim steps to NCP, an engine, PTP, IGMP or the ring. -/
  | macRxFrame (m : Nat) (f : MacFrame)
  /-- PAUSE_EXPIRE (R222). A PAUSE timer runs out and the MAC's transmitter resumes. Operands: the bytes of each essence packet that came for the transmitter since it was paused, or since the last PAUSE (R222). -/
  | pauseExpire (m : Nat) (packets : List Nat)
  /-- MX_RING_WRITE (R223). A write to MX_RING sets up, enables or stops a descriptor ring. -/
  | mxRingWrite (rq : Req) (e w : Nat) (v : W)
  /-- RING_TX_FRAME (R225). The part finds descriptors owned by it on a transmit ring, sends the frame and returns them. Operands: the descriptors of the frame from NEXT on, SOP to EOP; sequenceId and messageType of a PTP frame. -/
  | ringTxFrame (m : Nat) (descs : List (W × W)) (ptp : Option (Nat × Nat))
  /-- TSQ_READ (R230). A read of MX_TSQ word 0 removes the oldest time-stamp entry and latches it. -/
  | tsqRead (rq : Req) (e : Nat)
  /-- MX_STATS_READ (R232). A read of MX_STATS returns all 16 counters from one instant and clears them. -/
  | mxStatsRead (rq : Req) (m : Nat)
  /-- XPORT_WRITE (R234). A write to MX_XPORT_SRC or MX_XPORT_DST sets a port's transport in the shadow. Operands: dst: `MX_XPORT_DST`, else `MX_XPORT_SRC`. -/
  | xportWrite (rq : Req) (dst : Bool) (p w : Nat) (v : W)
  /-- AFLOW_WRITE (R239). A write to MX_AFLOW_RX or MX_AFLOW_TX configures a crosspoint audio flow. Operands: tx: `MX_AFLOW_TX`, else `MX_AFLOW_RX`. -/
  | aflowWrite (rq : Req) (tx : Bool) (e w : Nat) (v : W)
  /-- ST2110_RELEASE (R243). A received line or audio packet period reaches its nominal time plus HOLD and is released to the rigging. Operands: the flow, and the sequence number of the last packet released. -/
  | st2110Release (f : FlowId) (last : Nat)
  /-- SDI_RX_LINE (R245). An SDI line is received: CRC and line number checked, ANC and audio extracted. -/
  | sdiRxLine (p : Nat) (x : SdiLine)
  /-- SDI_TX_LINE (R244). An SDI line is built with payload ID, ANC placement, audio packets and line CRC. Operands: where ST 299 sets the line's audio packets (stream, offset, words; R248); gap: the line's data is missing. -/
  | sdiTxLine (p line : Nat) (audio : List (Nat × Nat × Nat)) (anc : List Anc) (gap : Bool)
  /-- MAC_LINK_CHANGE (R219). A media MAC's link goes down or comes up. Operands: PRE and POST trained on the four transmit lanes, in ETH-KR4. -/
  | macLinkChange (m : Nat) (up : Bool) (taps : List (Nat × Nat))
  /-- TM_REF_WRITE (R258). A write to TM_REF enables or configures a timing reference. Operands: word `w` of `TM_REF`[r]. -/
  | tmRefWrite (rq : Req) (r w : Nat) (v : W)
  /-- REF_MEASUREMENT (R259). A reference gives an offset or frequency measurement that feeds the servo or is refused. Operands: of a pulse: how far each edge of the interval lies after the nearest expected instant, in ps, DELAY not taken off (of a stay the state gives the offset; a PTP port measures at each Sync); the frequency over the interval in ppb (local less reference); the interval in ns. -/
  | refMeasurement (r : Nat) (edges : List Int) (freq : Int) (interval : Nat)
  /-- REF_QUALIFY (R260). A reference has stayed good for QUALTIME seconds and qualifies. -/
  | refQualify (r : Nat)
  /-- REF_LOS (R260). A reference loses its signal and is disqualified. -/
  | refLos (r : Nat)
  /-- SELECTION_EVAL (R267). Every 125 ms the part re-evaluates reference selection and the timing state. -/
  | selectionEval
  /-- AGREEMENT_CHECK (R268). Once a second the part flags SPLIT or DISAGREE on pairs of equal-rank references that differ. Operands: the TSENSOR reading in 0.001 °C, kept with the second's servo frequency. -/
  | agreementCheck (temp : Int)
  /-- REF_ACCEPT (R269). ACCEPT in TM_REF_CMD clears SPLIT on a reference and sets DISAGREE on its partner. -/
  | refAccept (rq : Req) (r : Nat)
  /-- REF_REQUALIFY (R269). REQUALIFY in TM_REF_CMD clears DISAGREE and STEPREF and restarts qualification. -/
  | refRequalify (rq : Req) (r : Nat)
  /-- PTP_MESSAGE_RX (R264). A PTP port receives a message and updates its state machine, path delay and offset. -/
  | ptpMessageRx (p : Nat) (m : PtpMsg)
  /-- ANNOUNCE_TIMEOUT (R262). A PTP port's announce receipt timeout expires. -/
  | announceTimeout (p : Nat)
  /-- PTP_TX_INTERVAL (R265). A master or slave PTP port's message interval expires and it sends Announce, Sync or Delay_Req. Operands: ps from the interval to the first bit at the lane balls, behind a frame in progress. -/
  | ptpTxInterval (p : Nat) (k : PtpTx) (late : Nat)
  /-- STEP_ABSOLUTE (R275). An ABSOLUTE step in TM_STEP sets the counter to a given time. Operands: the three words of `TM_STEP`; OP of word 0 is the row's. -/
  | stepAbsolute (rq : Req) (w0 w1 w2 : W)
  /-- STEP_RELATIVE (R275). A RELATIVE step in TM_STEP moves the counter by a given amount. -/
  | stepRelative (rq : Req) (w0 w1 w2 : W)
  /-- STEP_TOREF (R275). A TOREF step in TM_STEP moves the counter by minus a reference's offset. -/
  | stepToref (rq : Req) (w0 w1 w2 : W)
  /-- STEP_APPLY (R276). A pending step reaches its time: the counter moves, the epoch advances and H slews or jumps. -/
  | stepApply
  /-- SLEW_DONE (R276). H meets the counter after absorbing a step and SLEWING clears. -/
  | slewDone
  /-- HOLDOVER_UPDATE (R277). Every second in HOLDOVER the counter's rate is set from the history, temperature and ageing. Operands: the TSENSOR reading in 0.001 °C. -/
  | holdoverUpdate (temp : Int)
  /-- HOLDOVER_LEARN_SAVE (R278). Every hour the learned temperature curve and ageing rate are written to saved settings. -/
  | holdoverLearnSave
  /-- HOLDOVER_FORGET (R278). FORGET in TM_HOLDOVER clears the learned curve, ageing and hours. -/
  | holdoverForget (rq : Req)
  /-- TM_OUT_WRITE (R281). A write to TM_OUT configures a timing output and takes its phase. -/
  | tmOutWrite (rq : Req) (o w : Nat) (v : W)
  /-- TW_PAIR_WRITE (R293). A write to TW_PAIR pairs a twin-A lane with a twin-B lane. -/
  | twPairWrite (rq : Req) (e : Nat) (v : W)
  /-- PAIR_SHEET_RELEASE (R295). At a pair's release instant the arbiter selects the eligible copy with the higher claim and resolves each slot. Operands: the `TW_PAIR_STAT` element, the copies present, the 24 slots. -/
  | pairSheetRelease (e : Nat) (a b : Option PairCopy) (slots : List PairSlot)
  /-- TWIN_SILENT_SHEETS (R289). The twin sends no live sheet on the twin link for 16 sheets and SYNC becomes SEEKING. -/
  | twinSilentSheets
  /-- HEALTH_REPORT (R303). Every 100 ms a CORE part publishes its health report to its twin and subscribers. -/
  | healthReport
  /-- TWIN_REPORT_TIMEOUT (R303). No twin health report arrives for 300 ms and a TWIN-SILENT record is written. -/
  | twinReportTimeout
  /-- SNAPSHOT_REQUEST (R304). A returning twin requests a snapshot and the deciding twin sends its state. Operands: mine: this part asks, else its twin does. -/
  | snapshotRequest (mine : Bool)
  /-- SNAPSHOT_RECEIVED (R304). The returning twin installs the snapshot and starts mirroring and refilling. -/
  | snapshotReceived (snap : Snapshot)
  /-- MIRROR_STORES_FULL (R304). Every store and delay line of a returning twin is full and heads are ready, so digest comparison starts. -/
  | mirrorStoresFull
  /-- SELFTEST_ENGINE (R302). Every 100 ms in STANDBY each spare essence engine runs its test vectors. Operands: the spare essence engines that failed. -/
  | selftestEngine (fails : List Nat)
  /-- BUS_FRAME_RX (R308). A control-bus attachment receives a frame and takes ARP, ICMP or NCP, or drops it. -/
  | busFrameRx (a : Fin 4) (f : BusFrame)
  /-- BUS_BACKOFF_EXPIRE (R308). A collision backoff ends and the attachment retries the frame, discarding it after 16 attempts. -/
  | busBackoffExpire (a : Fin 4)
  /-- CT_BUS_WRITE (R307). A write to CT_BUS sets an attachment's IPv4 address, which applies within 1 ms. -/
  | ctBusWrite (rq : Req) (a : Nat) (v : W)
  /-- NCP_READ (R314). An NCP READ request returns the values of 1 to 64 object items. -/
  | ncpRead (h : Ncp) (items : List WireAddr)
  /-- NCP_WRITE (R314). An NCP WRITE request writes 1 to 64 object items in order, each judged on its own. -/
  | ncpWrite (h : Ncp) (items : List WItem)
  /-- NCP_BLOCK_READ (R314). An NCP BLOCK-READ returns as many whole elements as fit, setting MORE. -/
  | ncpBlockRead (h : Ncp) (a : WireAddr) (count : Nat)
  /-- NCP_BLOCK_WRITE (R314). An NCP BLOCK-WRITE writes elements in order, stopping at the first failure. Operands: typ: bytes 8 and 9, the reserved byte and TYPE. -/
  | ncpBlockWrite (h : Ncp) (a : WireAddr) (typ : Nat) (elems : List (List Byte))
  /-- NCP_SUBSCRIBE (R323). A SUBSCRIBE with ACTION 0x01 creates a subscription and returns its SUBID. Operands: tail: PERIOD, an ACTION other than 2, the reserved byte. -/
  | ncpSubscribe (h : Ncp) (a : WireAddr) (count : Nat) (tail : SubTail)
  /-- NCP_UNSUBSCRIBE (R323). A SUBSCRIBE with ACTION 0x02 ends the named subscription. Operands: x: ADDRESS, COUNT with the SUBID in its low 16 bits, and the rest, whose ACTION is 2. -/
  | ncpUnsubscribe (h : Ncp) (x : WireAddr × Nat × SubTail)
  /-- CHALLENGE_READ (R320). A read of CT_SESSION.03 returns a new random challenge valid for 10 s. -/
  | challengeRead (h : Ncp)
  /-- SESSION_OPEN (R320). A write of CT_SESSION.01 on session 0 opens a session for a context. -/
  | sessionOpen (h : Ncp) (blob : List Byte)
  /-- SESSION_CLOSE (R321). A write of CT_SESSION.02 closes a session, its subscriptions and open salvos. -/
  | sessionClose (h : Ncp) (n : Nat)
  /-- SESSION_TIMEOUT (R321). A session has no request for its TIMEOUT and closes. -/
  | sessionTimeout (c : Fin 4)
  /-- NOTIFY_PERIOD (R323). A periodic subscription's PERIOD expires and the element's value is queued as a NOTIFY. -/
  | notifyPeriod (c : Fin 4) (pcie : Bool) (id : Nat)
  /-- NOTIFY_SEND (R327). A queued NOTIFY is sent when the path to the session has room. -/
  | notifySend (c : Fin 4) (pcie : Bool)
  /-- NOTIFY_OVERFLOW (R327). A session's queue drains below 256 after overflow and an OVERFLOW notify is queued. -/
  | notifyOverflow (c : Fin 4) (pcie : Bool)
  /-- EMERGENCY_SEND (R328). An ISOLATE, sillage failure or unsent last-gasp record is sent as an EMERGENCY. -/
  | emergencySend
  /-- EMERGENCY_REPEAT (R328). 10 ms after an EMERGENCY it is sent again, three times in all. -/
  | emergencyRepeat
  /-- LEASE_TAKE (R336). TAKE in CT_LEASE leases a resource to the writer's context. -/
  | leaseTake (rq : Req) (e : Nat)
  /-- LEASE_RELEASE (R336). RELEASE in CT_LEASE ends the writer's own lease. -/
  | leaseRelease (rq : Req) (e : Nat)
  /-- LEASE_BREAK (R336). BREAK in CT_LEASE ends any lease. -/
  | leaseBreak (rq : Req) (e : Nat)
  /-- CT_CONTEXT_WRITE (R320). A write to CT_CONTEXT sets a context's enables, ceiling or key. -/
  | ctContextWrite (rq : Req) (c w : Nat) (v : W)
  /-- PCIE_WINDOW_READ (R331). A PCIe read of an object window returns the value or completes with Completer Abort. Operands: wide: 8 bytes, else 4. -/
  | pcieWindowRead (f : Fin 4) (bar2 : Bool) (off : Nat) (wide : Bool)
  /-- PCIE_WINDOW_WRITE (R331). A PCIe write to an object window writes the value, word by word or as a commit. -/
  | pcieWindowWrite (f : Fin 4) (bar2 : Bool) (off : Nat) (wide : Bool) (v : W)
  /-- PCIE_CLASS_WRITE (R332). A write of the control block CLASS sets the class in which a function acts. -/
  | pcieClassWrite (f : Fin 4) (v : W)
  /-- PCIE_AUTH_SUBMIT (R332). A write at AUTH offset 0x150 submits a signed open that allows SECURE on the function. -/
  | pcieAuthSubmit (f : Fin 4) (blob : List Byte)
  /-- PCIE_SUBREQ_SUBMIT (R332). A write at offset 0x048 submits a SUBSCRIBE request from the control block. -/
  | pcieSubreqSubmit (f : Fin 4) (lo hi : W)
  /-- PCIE_FLR (R333). A Function Level Reset or entry to D3hot closes the function's use as a session would close. -/
  | pcieFlr (f : Fin 4)
  /-- SY_ROLE_WRITE (R346). A write to SY_ROLE accepts a role for the next LOAD. -/
  | syRoleWrite (rq : Req) (v : W)
  /-- SETTINGS_FLUSH (R348). FLUSH in SY_SAVE starts a settings generation now. -/
  | settingsFlush (rq : Req)
  /-- SETTINGS_DEFAULTS (R348). DEFAULTS in SY_SAVE makes the next LOAD restore defaults. -/
  | settingsDefaults (rq : Req)
  /-- SETTINGS_KEEP (R348). KEEP in SY_SAVE withdraws a pending DEFAULTS. -/
  | settingsKeep (rq : Req)
  /-- SETTINGS_TIMER (R347). The 2 s dirty timer ends and a new settings generation is written. -/
  | settingsTimer
  /-- SETTINGS_WRITE_DONE (R347). A settings generation is written and read back, and becomes the newest if its CRC passes. Operands: good: the copy's CRC-32C passes on the read back. -/
  | settingsWriteDone (good : Bool)
  /-- BURST_ABORT (R357). A master is reset or a target fails mid-burst, and the crossbar completes and logs the burst. -/
  | burstAbort (d : Nat) (b : Burst)
  /-- DECODE_ERROR (R351). A control-plane access hits no target or a forbidden window and is answered with a decode error. Operands: the die and the master (R349) whose access it is. -/
  | decodeError (d master : Nat) (x : Access)
  /-- EXCL_MONITOR_EXPIRE (R355). An exclusive monitor clears 256 ns after it was set. -/
  | exclMonitorExpire (d master target : Nat)
  /-- ENGINE_FAIL (R362). An engine misses its heartbeat, meets an uncorrectable error or fails self-test, and its work moves. Operands: cause: 1 heartbeat, 2 memory, 3 self-test. -/
  | engineFail (e cause : Nat)
  /-- ENGINE_MOVE (R363). MOVE in IC_ENG_CMD hands an essence engine's ports to a spare without a hit. Operands: the value written to `IC_ENG_CMD`; its command is the row's. -/
  | engineMove (rq : Req) (e : Nat) (v : W)
  /-- ENGINE_RETIRE (R363). RETIRE in IC_ENG_CMD moves an engine's work and marks it FAILED and RETAINED. -/
  | engineRetire (rq : Req) (e : Nat) (v : W)
  /-- ENGINE_RESTORE (R363). RESTORE in IC_ENG_CMD tests a failed engine to return it to service. -/
  | engineRestore (rq : Req) (e : Nat) (v : W)
  /-- ENGINE_TEST (R363). TEST in IC_ENG_CMD runs the test vectors once on a spare engine. -/
  | engineTest (rq : Req) (e : Nat) (v : W)
  /-- ENGINE_TEST_DONE (R363). An engine's test vectors end and it becomes SPARE, ACTIVE or FAILED. -/
  | engineTestDone (e : Nat) (pass : Bool)
  /-- CRC_START (R369). START in IC_CRC word 0 starts a host CRC job. Operands: words 0–6; OP of word 0 is the row's. -/
  | crcStart (rq : Req) (u : Nat) (ws : List W)
  /-- CRC_ABORT (R369). ABORT in IC_CRC word 0 stops a running CRC job. -/
  | crcAbort (rq : Req) (u : Nat) (w0 : W)
  /-- CRC_JOB_DONE (R370). A CRC job reaches its end and reports MATCH, MISMATCH, EXPECTED-DAMAGED, READERR or NOCOMPARE. Operands: the CRC unit, 0–7: 0–3 the part's, 4–7 the host's. -/
  | crcJobDone (d unit : Nat) (x : CrcEnd)
  /-- MM_CHANNEL_WRITE (R375). A write to MM_CHANNEL configures a DRAM channel for the next LOAD, or the scrub period at once. -/
  | mmChannelWrite (rq : Req) (e : Nat) (v : W)
  /-- SRAM_SCRUB (R373). The keeper reads every SRAM word of the die every 10 minutes and corrects what it finds. Operands: the errors corrected, all in all and in the local memory of which engines (number, count); the uncorrectable words found: region, word address, unit affected. -/
  | sramScrub (d : Nat) (corrected : Nat × List (Nat × Nat)) (ue : List (Nat × Nat × Nat))
  /-- SRAM_UE (R372). An uncorrectable SRAM error is handled by the rule of its region. Operands: unit: the engine, the accord image as head × 8 + layer, or the channel affected. -/
  | sramUe (d region addr unit : Nat)
  /-- DRAM_RECAL (R379). The DQS oscillator is read every 64 ms and ZQ calibration runs every 128 ms. -/
  | dramRecal (ch : Nat)
  /-- REFRESH_RATE_CHECK (R380). Every 16 ms MR4 is read and the refresh interval is halved or restored. Operands: the hottest temperature the ranks report, °C. -/
  | refreshRateCheck (ch t : Nat)
  /-- SCRUB_PASS_DONE (R381). A patrol scrub pass over the accord ends and each accord image is audited by CRC. Operands: lines corrected by the pass on ranks 0–3, and the accord images (head × 8 + layer) whose CRC differs. -/
  | scrubPassDone (ch : Nat) (corrected : List Nat) (bad : List Nat)
  /-- RANK_FAIL (R382). A rank meets an uncorrectable or command/address error and is migrated to the spare or lost. Operands: the fault: 1 data, 2 command/address, and the item of the line that failed (kind and owner as `Item` has them). -/
  | rankFail (e : Nat) (cause : RankFault)
  /-- RANK_MIGRATE (R385). MIGRATE in MM_CMD empties a data rank into the spare. Operands: the value written to `MM_CMD`; its command is the row's. -/
  | rankMigrate (rq : Req) (e : Nat) (v : W)
  /-- RANK_RETIRE (R385). RETIRE in MM_CMD marks a rank RETIRED for the next LOAD. -/
  | rankRetire (rq : Req) (e : Nat) (v : W)
  /-- RANK_RESTORE (R385). RESTORE in MM_CMD clears RETIRED or LOST on a rank. -/
  | rankRestore (rq : Req) (e : Nat) (v : W)
  /-- RANK_REPLAN (R385). REPLAN in MM_CMD re-places lost items of a channel on ranks in service. -/
  | rankReplan (rq : Req) (e : Nat) (v : W)
  /-- MIGRATION_HELD_ITEM_COPIED (R382). A held item's last line is copied and it is released at its next read instant. Operands: the channel and the item. -/
  | migrationHeldItemCopied (ch kind owner buf : Nat)
  /-- MIGRATION_DONE (R382). A rank copy completes, the spare answers as the rank and the rank is RETIRED. -/
  | migrationDone (ch : Nat)
  /-- FAULT_RAISED (R394). A unit reports a fault: the record is written or merged and the handler runs, pre-empts or queues. Operands: byHandler: raised by the running handler of the unit. -/
  | faultRaised (code die p1 p2 p3 : Nat) (byHandler : Bool)
  /-- HANDLER_END (R394). A fault handler ends and the suspended or highest queued handler runs. -/
  | handlerEnd (d : Nat)
  /-- FAULT_ACK (R397). ACK in EV_CMD closes open DEGRADE faults and CONTAIN faults whose unit is back. -/
  | faultAck (rq : Req) (d : Nat)
  /-- SILLAGE_RETEST (R397). RETEST in EV_CMD wipes and tests a degraded sillage region. -/
  | sillageRetest (rq : Req) (d : Nat) (pass : Bool)
  /-- RECORD_CLOSE (R400). A sillage record passes 10 s without a merge and stops reading OPEN. -/
  | recordClose (d seq : Nat)
  /-- EV_CURSOR_WRITE (R401). A write to EV_CURSOR moves a context's window and clears MISSED. -/
  | evCursorWrite (rq : Req) (c : Nat) (v : W)
  /-- CLEAR_CHALLENGE_READ (R404). A read of EV_CLEAR.01 returns a new random challenge. -/
  | clearChallengeRead (rq : Req)
  /-- SILLAGE_CLEAR (R404). A signed write of EV_CLEAR.02 removes the records of its scope and writes SILLAGE-CLEARED. -/
  | sillageClear (rq : Req) (blob : List Byte)
  /-- SILLAGE_FAIL (R405). A die's sillage region fails and its later records are relayed to another die. Operands: lost: sequence numbers of the records that cannot be read. -/
  | sillageFail (d addr : Nat) (lost : List Nat)
  /-- GPI_RAW_EDGE (R407). A raw edge on a GPI or pulse input starts qualification and counts towards chatter. -/
  | gpiRawEdge (n : Nat)
  /-- GPI_QUALIFY (R407). A level holds for MINW and a qualified edge is delivered, arming a salvo where ACTION is ARM. -/
  | gpiQualify (n : Nat)
  /-- GPI_STUCK (R407). An input stays active longer than STUCK and is flagged STUCK. -/
  | gpiStuck (n : Nat)
  /-- GPI_UNMASK (R407). A chattering input has been quiet for HOLD and is unmasked with one NOTIFY. -/
  | gpiUnmask (n : Nat)
  /-- EV_GPI_WRITE (R408). A write to EV_GPI configures an input's qualification and action and clears its flags. -/
  | evGpiWrite (rq : Req) (n : Nat) (v : W)
  /-- SIG_POLICY_WRITE (R416). A write to FW_SIG_POLICY changes the signature policy with a record and an attestation entry. -/
  | sigPolicyWrite (rq : Req) (v : W)
  /-- QUOTE_REQUEST (R421). A nonce written to FW_QUOTE.01 starts a signed quote. -/
  | quoteRequest (rq : Req) (nonce : List Byte)
  /-- QUOTE_READY (R421). The signed quote is ready in FW_QUOTE.02. -/
  | quoteReady
  /-- FW_FLASH_WRITE (R424). A write to FW_FLASH writes bytes into the writable half, erasing each sector first. -/
  | fwFlashWrite (rq : Req) (off : Nat) (bytes : List Byte)
  /-- FW_STAGE (R425). STAGE in FW_CMD checks the writable half's bundle. Operands: the three words of `FW_CMD`; OP of word 0 is the row's. -/
  | fwStage (rq : Req) (w0 w1 w2 : W)
  /-- STAGE_DONE (R425). Staging ends and STATE reads STAGED or REJECTED. Operands: flashOk: every byte of the half could be read. -/
  | stageDone (flashOk : Bool)
  /-- FW_ACTIVATE (R427). ACTIVATE in FW_CMD prepares the staged bundle, or sets TRYBOOT in SAFE. -/
  | fwActivate (rq : Req) (w0 w1 w2 : W)
  /-- ACTIVATION_READY (R427). Preparation of an activation completes and STATE reads READY. Operands: converts: every SAVED value passes conversion and the new checks (R428). -/
  | activationReady (converts : Bool)
  /-- ACTIVATION_TWIN_CHECK (R427). 100 ms before the instant, lockstepped twins exchange state and abandon unless both are ready alike. Operands: the twin's state, staged bundle ID and instant. -/
  | activationTwinCheck (ready : Bool) (ident : BitVec 512) (at_ : Nat)
  /-- ACTIVATION_INSTANT (R427). At the activation sheet all engines swap code banks and the mast hands back to SP0 on the new code. Operands: the engine elements that do not resume within one sheet. -/
  | activationInstant (stuck : List Nat)
  /-- FW_COMMIT (R429). COMMIT in FW_CMD advances counters, writes the new schema and makes the new half ACTIVE. -/
  | fwCommit (rq : Req) (w0 w1 w2 : W)
  /-- FW_ROLLBACK (R429). ROLLBACK in FW_CMD reverses an activation at its instant. -/
  | fwRollback (rq : Req) (w0 w1 w2 : W)
  /-- FW_ABANDON (R425). ABANDON in FW_CMD returns STATE to IDLE without touching running banks. -/
  | fwAbandon (rq : Req) (w0 w1 w2 : W)
  /-- LIFECYCLE_CHALLENGE_READ (R431). A read of FW_LIFECYCLE.03 returns a new challenge. -/
  | lifecycleChallengeRead (rq : Req)
  /-- LIFECYCLE_REQUEST (R432). The last byte of a FW_LIFECYCLE.02 request is written and the life-cycle change is judged and carried out. Operands: the last write of the request's bytes. -/
  | lifecycleRequest (rq : Req) (off : Nat) (bytes : List Byte)
  /-- PW_DOMAIN_WRITE (R438). A write of CMD in PW_DOMAIN turns a switched domain on or off. -/
  | pwDomainWrite (rq : Req) (e : Nat) (v : W)
  /-- DOMAIN_ON_DONE (R439). A rising domain reaches ON and the next waiting domain may rise. -/
  | domainOnDone (e : Nat)
  /-- DOMAIN_FAULT (R439). A domain fails to reach ON within 200 µs and reads FAULT. -/
  | domainFault (e : Nat)
  /-- HOLD_WAKE (R440). A request in HOLD wakes the retained control planes within 5 ms. -/
  | holdWake
  /-- HOLD_RETENTION (R440). After 1 s without a request in HOLD the control planes return to retention. -/
  | holdRetention
  /-- SUPPLY_LOW (R441). A SerDes, DRAM or auxiliary supply stays below its threshold for 10 µs and a record is written. Operands: comparator 2–5, lowest mV seen, µs below the threshold. -/
  | supplyLow (c mv us : Nat)
  /-- CORE_DIP (R441). The core supply falls below 0.62 V, setting SEEN; it is handled as a droop unless it lasts 2 µs. Operands: a supply comparator (R441) falls below its threshold, or returns. -/
  | coreDip (c : Nat) (below : Bool)
  /-- THERMAL_WARN (R443). The hottest die crosses the PW_THERM threshold and a THERMAL-WARN record is written. Operands: the hottest die and its Tj in °C. -/
  | thermalWarn (d tj : Nat)
  /-- MONITOR_FAIL (R446). A monitor reading leaves range or departs from its peers and the monitor is excluded. -/
  | monitorFail (e : Nat) (value : Nat)
  /-- DROOP_START (R449). A die's pace rings run below 0.9 of their mean for 50 ns and transmit leads start to drain. -/
  | droopStart (d : Nat)
  /-- DROOP_END (R451). A droop ends, leads refill and DROOP or DROOP-LOSS records are written. Operands: depth in 0.001, duration in ns, the die's configured margin then in 0.001, transmit lanes that carried essence. -/
  | droopEnd (d depth ns margin lanes : Nat)
  /-- PACE_UPDATE (R448). Every second the rated and configured margins and projections are updated. -/
  | paceUpdate (readings : List (Nat × Nat)) (pace : List PaceReading)
  /-- PLANNER_EVAL (R453). Every second the planner compares margins with WARN and PROPOSE thresholds and builds a proposal. -/
  | plannerEval
  /-- AGEING_UPDATE (R452). The ageing model takes its inputs and updates projections and trend records. -/
  | ageingUpdate (inp : List AgeInput)
  /-- VCORE_TARGET_WRITE (R458). A write of PW_VCORE TARGET starts a walk of the core voltage. -/
  | vcoreTargetWrite (rq : Req) (v : W)
  /-- VCORE_STEP (R458). Every 100 µs while slewing the part writes the next 5 mV step to the regulator. -/
  | vcoreStep (ack : Bool)
  /-- VCORE_SETTLE_CHECK (R458). 1 ms after the last write the part compares NOW with TARGET and reads SETTLED or MISMATCH. -/
  | vcoreSettleCheck (now : Nat) (ack : Bool)
  /-- VCORE_RETRY (R458). Once a second in MISMATCH or NOREG the part repeats its last regulator write. -/
  | vcoreRetry (ack : Bool)
  /-- REGISTER_WRITE (R335). A write to an object with no step of its own is judged under the common checks and stored. -/
  | registerWrite (rq : Req) (a : Addr) (w : Nat) (v : W)
  /-- POWER_LOSS (R464). VAON falls below 0.68 V for more than 1 µs: the always-on domain loses its time-keeping and sequence counter, and an interrupted settings write leaves the older copy newest. Operands: mirror: VAON of the other die held. -/
  | powerLoss (mirror : Bool)
  /-- BUS_COLLISION (R308). A control-bus attachment sees a collision or late collision while sending, sets COLL or LATECOLL and starts its backoff. -/
  | busCollision (a : Fin 4) (late : Bool)
  /-- ROLLBACK_INSTANT (R429). A ROLLBACK with WHEN PTP reaches its instant, and the engines swap back to the old code with the mast hand-over. -/
  | rollbackInstant
  /-- DOMAIN_OFF_DONE (R439). A domain that is FALLING completes its turn-off within 10 µs and reads OFF. -/
  | domainOffDone (e : Nat)
deriving DecidableEq, Repr

end Sys2Proof
end

