-- ==== Sys2Proof/Decode.lean ====
section
/-! DEFINITION. The table of commands gives no row a word: no word spells a command. -/
namespace Sys2Proof

/-- The command that a word spells by the table's bits. No row of the table gives bits. -/
def decodeTableWord (_nbits _w : Nat) : Option Instr := none

end Sys2Proof
end

