-- ==== Sys2Proof/Config.lean ====
section
/-! DEFINITION. What an implementation, the fuses or a keyed function fixes and the spec leaves open: opaque constants, so that
no proof can see a value of theirs. -/
namespace Sys2Proof

/-- The `n`-th free value: what the spec leaves undefined or does not state. -/
opaque Config.free : Nat → W

/-- The `n`-th draw of the on-die random source: challenges (R320, R404, R431). -/
opaque Config.random : Nat → BitVec 128

/-- The backoff drawn after a collision, uniform below its bound (R308): the `n`-th draw. -/
opaque Config.backoff : Nat → Nat

/-- Ed25519 verification (RFC 8032): key, message, signature (R320). -/
opaque Config.ed25519 : BitVec 256 → List Byte → List Byte → Bool

/-- SHA-512 (R414). -/
opaque Config.sha512 : List Byte → BitVec 512

/-- RSASSA-PSS by a key slot over a header's first 256 bytes (R414). -/
opaque Config.rsaPss : Nat → List Byte → List Byte → Bool

/-- ML-DSA-87 by a key slot over a header's first 256 bytes (R414). -/
opaque Config.mldsa : Nat → List Byte → List Byte → Bool

/-- The signatures of a quote under an identity key pair (R421): 96 bytes of ECDSA and 4,627 of ML-DSA. -/
opaque Config.quoteSign : Nat → List Byte → List Byte

/-- The public identity keys of a key pair (R422): 2,689 bytes. -/
opaque Config.idKeyBytes : Nat → List Byte

/-- Whether the bytes of a boot record are whole (R413, R425): their layout is not given. -/
opaque Config.bootRecordGood : List Byte → Bool

/-- The fused MAC address of control-bus attachment `a` (R307), and of media MAC `m` (R218, R344). -/
opaque Config.busMac : Nat → BitVec 48
opaque Config.mediaMac : Nat → BitVec 48

/-- The link-local address of control-bus attachment `a` (R307, RFC 3927). -/
opaque Config.linkLocal : Nat → Nat

/-- The package serial number (R344). -/
opaque Config.serial : BitVec 64

/-- The frames that the external clock of a FREE port has counted (R143, R151): `AU_PORT_STAT` element, START, house index now. -/
opaque Config.freeFrames : Nat → Nat → Nat → Nat

/-- A byte of a memory of the control-plane address space, or of the boot ROM, that no master has written (R350). -/
opaque Config.ramByte : Nat → Byte

/-- Progress of the patrol pass of a channel at a time (R387): the rule gives what it counts and no pace within the period. -/
opaque Config.scrubPct : Nat → Nat → Nat

/-- The BAR2 offset at which the part places a window (R343): index and subindex. -/
opaque Config.winBase : Nat → Nat → Nat

/-- The store that holds a window (R343). -/
opaque Config.winStore : Nat → Nat → Nat

/-- The margin a die is predicted to reach (R454): die, configured margin now, TARGET now, voltage, items taken on the die (kind, ident). -/
opaque Config.predict : Nat → Nat → Nat → Nat → List (Nat × Nat) → Nat

/-- The ageing model of the firmware bundle (R452): its whole input history for one die (Tj, shift, hours, margin), and the
core voltage; its outputs PROJ10, PROJ30, YEARS125, YEARS110, LIFEH, SHIFT, RATE, POWERH, HOTH. -/
opaque Config.ageing : List (Nat × Nat × Nat × Nat) → Nat → List Nat

/-- The phase of a 1 kHz generator at house sample 0, in parts of its period (48 × 2³² of them), and whether a sample of it is rounded up (R117): endpoint 0x2401 or
0x2402, and the place in the period of 48 samples. The rule gives frequency and level only. -/
opaque Config.tonePhase : Nat → Nat
opaque Config.toneUp : Nat → Nat → Bool

end Sys2Proof
end

