-- ==== Sys2Proof/Machine/State.lean ====
section
/-! DEFINITION. The state of the part: plain data. Every word of the object dictionary stands in `regs` under its name
(`Key`), with the shadow copies of the objects that have one in `shadow`; the structures hold what the spec gives the
machine beside the dictionary. -/
namespace Sys2Proof.Machine

/-! ### The dictionary's registers -/

/-- The name of one word of the dictionary: the object's index, the element, and the word. A scalar's word is its
subindex; a block's word is its place in the block, under subindex 0 (R341). -/
structure Key where
  ix : Nat
  e  : Nat
  w  : Nat
deriving DecidableEq, Repr

/-- Register words by name, sparse: an unlisted word reads as its default (`dflt`). -/
abbrev Table := List (Key × W)

/-! ### Members -/

/-- The four members (R2). -/
inductive Member where
  | sc8f | sc8x | sc4f | sc2e
deriving DecidableEq, Repr

/-- What the fuses give (R4–R6, R345): the member, and whether the media MACs are enabled. -/
structure Caps where
  member : Member
  media  : Bool
deriving DecidableEq, Repr

/-! ### Time -/

/-- The always-on clock (R251–R253). Times are in units of 2⁻³²/65 ns, in which a block, a sheet and a tick are whole. -/
structure Clk where
  /-- Time since power-on, never stepped. -/
  mono  : Nat
  /-- The PTP counter since 0:000000000. -/
  count : Nat
  /-- H minus the counter (R276). -/
  hlag  : Int
  /-- The increment fraction FRAC (R251). -/
  frac  : Int
  /-- The time epoch (R276). -/
  epoch : Nat
  /-- The package sequence counter of sillage records (R399). -/
  pseq  : Nat
deriving DecidableEq, Repr

/-! ### Answers and notifications -/

/-- One item of a response (R314). -/
structure RespItem where
  addr   : Addr
  status : Nat
  count  : Nat
  data   : List W
deriving DecidableEq, Repr

/-- A response: the header STATUS, MORE, and the items. -/
structure Resp where
  status : Nat
  more   : Bool
  items  : List RespItem
deriving DecidableEq, Repr

/-- A subscription (R323). -/
structure Sub where
  id     : Nat
  addr   : Addr
  count  : Nat
  period : Nat
  /-- When the last periodic value was queued. -/
  last   : Nat
deriving DecidableEq, Repr

/-- A queued NOTIFY (R325): CAUSE 1 EVENT, 2 PERIOD, 3 OVERFLOW, 4 ENDED, 5 EMERGENCY (R333). -/
structure Note where
  sub   : Nat
  cause : Nat
  addr  : Addr
  data  : List W
  /-- The time of the first event it stands for. -/
  born  : Nat
deriving DecidableEq, Repr

/-- A kept response (R316). -/
structure Kept where
  ip   : Nat
  udp  : Nat
  seq  : Nat
  born : Nat
  resp : Resp
deriving DecidableEq, Repr

/-- An open NCP session (R320–R322). -/
structure Session where
  number  : Nat
  ceil    : Cls
  timeout : Nat
  att     : Att
  ip      : Nat
  udp     : Nat
  /-- Time of the last request, and the path it came by (R321, R328). -/
  lastReq : Nat
  lastAtt : Att
  subs    : List Sub
  nextSub : Nat
  /-- SEQUENCE of the last NOTIFY (R325). -/
  nseq    : Nat
  notes   : List Note
  /-- NOTIFYs were dropped and no OVERFLOW is queued yet (R327). -/
  spilt   : Bool
  kept    : List Kept
deriving DecidableEq, Repr

/-- The control block of one PCIe function (R332) and what it holds. -/
structure PcieFn where
  cls        : Cls
  lastStatus : W
  vcount     : Nat
  irqCause   : Nat
  nqBase     : W
  nqCtrl     : W
  nqHead     : Nat
  nqTail     : Nat
  subReq     : W
  subResp    : W
  /-- SECURE allowed by a signed open (R332). -/
  authed     : Bool
  subs       : List Sub
  nextSub    : Nat
  /-- NOTIFYs that wait for their entry in the notification queue. -/
  notes      : List Note
  spilt      : Bool
  /-- EMERGENCY records that wait for a free entry (R338). -/
  waiting    : List (List W)
  /-- Entries of the notification queue that the part has written and host software has not read: where each stands, and its 64 bytes
  (R332). -/
  queue      : List (Nat × List Byte)
  /-- The values latched by reads longer than 8 bytes (R331). -/
  latches    : List (Addr × List W)
  /-- The MSI-X table, two words a vector, and the pending bits (R329). -/
  msix       : List W
  pba        : Nat
  /-- A BLOB that arrives in pieces: where it starts, and what has come. -/
  blobAt     : Addr
  blob       : List Byte
deriving DecidableEq, Repr

/-- A frame held by a control-bus attachment (R308). -/
structure HeldFrame where
  ip  : Nat
  udp : Nat
  msg : List Byte
deriving DecidableEq, Repr

/-- One control-bus attachment (R307, R308). -/
structure BusAtt where
  held     : List HeldFrame
  /-- Attempts made at the frame being sent; 0 when none waits. -/
  attempts : Nat
  /-- When the last attempt began. -/
  since    : Nat
  /-- The backoff in force, in slot times. -/
  backoff  : Nat
  /-- Replies of ARP and ICMP sent. -/
  replies  : Nat
  /-- The address the attachment acts under (R307). -/
  ip       : Nat
deriving DecidableEq, Repr

/-- A challenge given out and not used (R320, R404, R431). -/
structure Challenge where
  value : BitVec 128
  born  : Nat
deriving DecidableEq, Repr

/-- A message whose answer waits for the deciding twin's responses to items sent on (R93): from whom it came, the answer so far, the items
that are missing. -/
structure Waiting where
  ncp  : Ncp
  resp : Resp
  left : List Addr
deriving DecidableEq, Repr

/-- The host side of the mast (chapter 12). -/
structure HostState where
  /-- The answer to the last request. -/
  resp      : Option Resp
  sessions  : List (Option Session)
  kept0     : List Kept
  pcie      : List PcieFn
  bus       : List BusAtt
  challenge : List Challenge
  /-- The `CT_VIOLATION` element the next violation takes (R337). -/
  violNext  : Nat
  /-- EMERGENCYs to send or repeat (R328): the record, how often it was sent, and when last. -/
  emerg     : List (List W × Nat × Nat)
  /-- Answers that wait for the deciding twin (R93). -/
  waiting   : List Waiting
deriving DecidableEq, Repr

/-! ### Faults -/

/-- Fault levels (R391). -/
inductive Level where
  | notice | degrade | contain | isolate
deriving DecidableEq, Repr

/-- Unit classes of fault codes (R392, R412). -/
inductive UnitCls where
  | none | lane | engine | rank | channel | mac | port | stream | ref | sillage | die | package
deriving DecidableEq, Repr

/-- A sillage record (R398). -/
structure Rec where
  code    : Nat
  die     : Nat
  level   : Level
  opened  : Bool
  merged  : Bool
  lg      : Bool
  emerg   : Bool
  esc     : Bool
  preempt : Bool
  relayed : Bool
  seq     : Nat
  secs    : Nat
  nanos   : Nat
  epoch   : Nat
  rep     : Nat
  p1      : Nat
  p2      : Nat
  p3      : Nat
  /-- When the last event merged, for the 10 s of R400. -/
  touched : Nat
deriving DecidableEq, Repr

/-- A fault as the manager handles it (R394). -/
structure FaultRun where
  code  : Nat
  level : Level
  ucls  : UnitCls
  p1    : Nat
  seq   : Nat
  /-- The die whose sillage took in its new record, of which subscribers learn when it runs (R391, R394); none of a merged event. -/
  told  : Option Nat
deriving DecidableEq, Repr

/-- The fault manager of one die (R394, R395). -/
structure FaultMgr where
  running   : Option FaultRun
  suspended : List FaultRun
  queue     : List FaultRun
  /-- DEGRADE, CONTAIN and ISOLATE faults not closed (R395). -/
  opened    : List FaultRun
deriving DecidableEq, Repr

/-- One qualified input (R407). -/
structure GpiIn where
  raw      : Bool
  /-- When the raw level last changed. -/
  since    : Nat
  /-- Counter nanoseconds of that raw edge. -/
  edgeNs   : Nat
  /-- Qualified level: active? -/
  active   : Bool
  /-- When the qualified active level began. -/
  actSince : Nat
  /-- Raw edges within the window, newest first. -/
  edges    : List Nat
  /-- Raw edges of the masked episode in force, and when it began. -/
  masked   : Nat
  maskFrom : Nat
  /-- Raw edges of the previous masked episode, and its length in ms (GPI-CHATTER P2, P3). -/
  prevN    : Nat
  prevMs   : Nat
deriving DecidableEq, Repr

/-- Faults, the sillage, the last-gasp store, the inputs (chapter 16). -/
structure EvState where
  mgr      : List FaultMgr
  /-- The records each die's sillage holds, oldest first (R399). -/
  sillage  : List (List Rec)
  lastGasp : List Rec
  clearCh  : List Challenge
  gpi      : List GpiIn
  /-- Units out of service under R392: class, die, first parameter. -/
  out      : List (UnitCls × Nat × Nat)
  /-- Regions that have failed, by a wipe's read-back or since, and have passed no test: DEGRADED (R405), also behind ISOLATED. -/
  badRegion : List Nat
deriving DecidableEq, Repr

/-! ### Timing -/

/-- What the part keeps of one reference beside its registers (chapter 10). -/
structure RefState where
  /-- The signal is present (R260). -/
  signal   : Bool
  /-- When the reference last became good. -/
  goodFrom : Option Nat
  /-- The last offset, in ps, where one has been measured. -/
  offset   : Option Int
  /-- The 10-s frequency, in ppb. -/
  freq     : Int
  /-- Successive refused offsets (R274); of the selected reference, successive offsets inside and outside LOCKTHR (R270). -/
  refused  : Nat
  inside   : Nat
  outside  : Nat
  /-- The partners in split pairs (R268). -/
  partners : List Nat
  /-- Since when a DISAGREE reference has agreed with the selected one (R268). -/
  agreeFrom : Option Nat
  /-- The frequencies of the last 10 s, newest first: when each was measured, over how many ns, ppb (R259). -/
  freqs    : List (Nat × Nat × Int)
  /-- When an offset was last accepted (R272). -/
  lastAt   : Option Nat
deriving DecidableEq, Repr

/-- What a PTP port keeps (R262–R265). -/
structure PtpState where
  /-- The master followed, by its port identity, and the best Announce seen of each sender. -/
  parent  : Option Nat
  foreign : List (Nat × GmData)
  /-- The Sync waiting for its Follow_Up: sender, sequence, receive stamp, correction. -/
  waiting : Option (Nat × Nat × Option Int × Int)
  /-- t1, t2 and correction of the last Sync, t3 of the Delay_Req outstanding with its sequence. -/
  t12     : Option (Int × Int × Int)
  t3      : Option Int
  seqDr   : Nat
  /-- The last 15 path delays, newest first. -/
  delays  : List Int
  /-- The epochs in which t2 and t3, and the stamp of the Sync waiting, were taken (R264). -/
  epoch   : Nat
  t3Epoch : Nat
  waitEpoch : Nat
  /-- Announce, Sync, Delay_Req and Delay_Resp messages sent. -/
  sent    : Nat
  /-- The MAC's stamps of event messages on their way to the port: messageType, sender, sequenceId, ns; none where it got none (R231). -/
  rx      : List (Nat × Nat × Nat × Option Nat)
deriving DecidableEq, Repr

/-- The phase of an output, in ps, and the one it takes next with the instant of H at which it does (R281). -/
structure OutRun where
  phase : Int
  next  : Option (Int × Nat)
deriving DecidableEq, Repr

/-- The timing plane (chapter 10). -/
structure TimeState where
  refs      : List RefState
  ptp       : List PtpState
  /-- The frequency integrator I of R272, in 2⁻¹⁶ · 10⁻¹² ns/s. -/
  integ     : Int
  /-- A reference has been LOCKED since power-on (R270). -/
  everLocked : Bool
  /-- Since when the state has been LOCKED without a break (R277). -/
  lockedFrom : Option Nat
  /-- One entry for each second LOCKED: when, servo frequency in 0.001 ppb, temperature in 0.001 °C, newest first, up to 1,000
  (R277). -/
  history   : List (Nat × Int × Int)
  /-- When the state last became LOCKED (R277). -/
  lockedAt  : Nat
  /-- The TSENSOR reading last taken, in 0.001 °C. -/
  temp      : Int
  /-- When the selection last changed (R270). -/
  selAt     : Nat
  /-- f_avg, T_avg, and t_mid as time, fixed on entry to HOLDOVER (R277). -/
  hoFrom    : Option (Int × Int × Nat)
  /-- Learning (R278): for each hour LOCKED, newest first, up to 168, the sums of the least-squares fit (n, Σt, Σf, Σtt, Σtf), t in
  seconds of learning; the seconds learned; the curve in 2⁻³² · 0.001 ppb. -/
  learn     : List (Nat × Int × Int × Int × Int)
  /-- The ageing rate that a host wrote, in 0.001 ppb a day, from which learning goes on (R278). -/
  ageBase   : Int
  learnt    : Nat
  curve     : List Int
  /-- The step committed and pending: words 0, 1 and 2 of `TM_STEP` (R275). -/
  step_     : Option (W × W × W)
  /-- The phase of each output against H, in ps, and the last edge of each pulse input against H (R281). -/
  outs      : List OutRun
  edges     : List (Option Int)
  /-- Words 1 and 2 of `TM_TIME` latched by a read of word 0 (R255). -/
  timeLatch : W × W
deriving DecidableEq, Repr

/-! ### Mode, firmware, settings, power -/

/-- The mast's view of the package beside `SY_MODE` (chapter 1). -/
structure SysState where
  /-- The package is held in reset; why the next reset comes: power-on, undervoltage, host (life cycle). -/
  held      : Bool
  porNext   : Bool
  uvNext    : Bool
  hostNext  : Bool
  /-- The mast die (R24); none: neither die qualifies. -/
  mast      : Option Nat
  /-- The dies isolated (R393). -/
  isolated  : List Nat
  /-- The role in force; `SY_ROLE` holds the one accepted for the next LOAD (R346). -/
  role      : Nat
  /-- When the mode was entered, and when the transition in progress was asked for. -/
  entered   : Nat
  asked     : Nat
  /-- The claim word of R285: high bit, and the epoch set on each entry to ACTIVE. -/
  claimHigh : Bool
  claimEpoch : Nat
  /-- Every Isarsal transmit lane sends idle sheets, because a die is isolated and the twin serves (R393). -/
  handed    : Bool
  /-- FAULT_N is driven low. -/
  faultN    : Bool
  /-- The life-cycle test port (R349, R432). -/
  testPort  : Bool
  /-- Dies whose thermal comparator has tripped and whose monitors have not read 110 °C or less since (R35). -/
  tripped   : List Nat
  /-- No LOAD has wiped memory since the last package reset (R389). -/
  afterReset : Bool
  /-- No LOAD has wiped memory since the last life-cycle change (R33, R389). -/
  lifeChanged : Bool
deriving DecidableEq, Repr

/-- One generation of the settings store (R347). -/
structure SavedImage where
  gen    : Nat
  schema : Nat
  table  : Table
  epoch  : Nat
  pseq   : Nat
  /-- The FAILED marks of engines (R364) and the RETIRED marks of ranks (R382), kept with the saved settings. -/
  retained : List Nat
  retired  : List Nat
deriving DecidableEq, Repr

/-- The settings store (R347, R348). -/
structure SaveState where
  /-- The two copies; none: blank or failing its CRC. -/
  copies  : List (Option SavedImage)
  /-- The end of the dirty timer, while one runs. -/
  timer   : Option Nat
  /-- The generation being written. -/
  writing : Option SavedImage
  /-- Changes arrived while a generation was being written. -/
  again   : Bool
  /-- When the last generation was completed. -/
  lastGen : Nat
  /-- Port tables and transports that the store goes on holding while LOAD has left every live entry unused (R478). -/
  kept    : Table
deriving DecidableEq, Repr

/-- An image as its header gives it (R414), and what its checks find (R415): the form of the header, the body's SHA-512, the two
signatures, the body's CRC. -/
structure Image where
  typ       : Nat
  svn       : Nat
  schema    : Nat
  schemaMin : Nat
  members   : Nat
  keys      : Nat
  revoke    : Nat
  version   : Nat
  hash      : BitVec 512
  form      : Bool
  hashOk    : Bool
  rsaOk     : Bool
  pqOk      : Bool
  crcOk     : Bool
deriving DecidableEq, Repr

/-- One half of the boot flash (R413). -/
structure FlashHalf where
  /-- Boot record: 0 EMPTY, 1 STAGED, 2 ACTIVE, 3 RETIRED; generation; bundle ID. -/
  state : Nat
  gen   : Nat
  ident : BitVec 512
  /-- What the factory left in a half that has not been written since: its images, loader first. -/
  kept  : Option (List Image)
  /-- The half's bytes by offset, sparse: an unlisted byte is erased. -/
  bytes : List Host.Cell
  /-- The 64 KiB sectors erased since STATE left STAGED (R424). -/
  fresh : List Nat
deriving DecidableEq, Repr

/-- Firmware, security and the life cycle (chapter 17). -/
structure FwState where
  halves    : List FlashHalf
  /-- The instant of the activation or rollback decided, on H. -/
  actAt     : Option Nat
  autoCommit : Bool
  /-- The twin was found ready alike for the activation prepared (R427). -/
  twinOk    : Bool
  /-- The old half's identity and version while TRIAL lasts. -/
  oldVer    : Nat
  oldIdent  : BitVec 512
  oldSchema : Nat
  /-- Changes the part made during TRIAL, held until COMMIT, and the SAVED values as they stood (R429). -/
  held      : Option Table
  /-- The running digest and the entries made since package reset (R420). -/
  digest    : BitVec 512
  entries   : Nat
  /-- The nonce of the quote being made, and the last quote (R421). -/
  nonce     : Option (List Byte)
  quote     : List Byte
  /-- Which identity key pair is in force; none: zeroised (R422). -/
  idKey     : Option Nat
  keyGen    : Nat
  returns   : Nat
  lifeCh    : List Challenge
  lifeBuf   : List Byte
deriving DecidableEq, Repr

/-- One die's droops (R449–R451): whether one runs and when the last began; when the last ended, and the time by which its transmit lanes' lead
then lay below its full length. -/
structure Droop where
  active : Bool
  since  : Nat
  ended  : Nat
  short  : Nat
deriving DecidableEq, Repr

/-- Power and health (chapter 18). -/
structure PowerState where
  /-- Domains waiting to rise, in order, and those rising now (R439). -/
  waiting  : List Nat
  rising   : List Nat
  droop    : List Droop
  /-- WARN of R443 is armed. -/
  warnArmed : Bool
  /-- Dies in WARN and in PROPOSE (R453). -/
  warn     : List Nat
  propose  : List Nat
  /-- When the last MARGIN-TREND record was written. -/
  trendAt  : Option Nat
  /-- The ageing model's history, newest first (R452). -/
  history  : List (List AgeInput)
  /-- The voltage last written to the regulator, and when (R458). -/
  written  : Nat
  writeAt  : Nat
  /-- The retained control planes are awake, and when the last request came (R440). -/
  awake    : Bool
  lastReq  : Nat
  /-- Monitors that have a reading (R445). -/
  read     : List Nat
deriving DecidableEq, Repr

/-! ### Takes, audio changes, head commits and salvos -/

/-- A salvo that is not final (R83–R86): when it was last staged into; whether a member has landed LATE; status and CULPRIT of the
first member that failed after the go; the order of its ARM. -/
structure Salvo where
  n     : Nat
  last  : Nat
  late  : Bool
  fail  : Option (Nat × Nat)
  /-- Acceptance order of its ARM (R76, R85). -/
  order : Nat
deriving DecidableEq, Repr

/-- The crosspoint (chapter 3). -/
structure XpState where
  work   : List Work
  dests  : List (Nat × Dest)
  order  : Nat
  salvos : List Salvo
  /-- The last switch line at which each destination swapped, counted from line 1 of frame 0. -/
  swaps  : List (Nat × Nat)
deriving DecidableEq, Repr

/-! ### Audio -/

/-- One transition of a channel (R130). -/
structure Trans where
  new    : Nat
  /-- ZC 0, CUT 1, FADE 2. -/
  method : Nat
  /-- The switch sample, and T. -/
  t0     : Nat
  limit  : Nat
  /-- 0: the old signal, waiting for its crossing; 1: silence, waiting for the new signal's; 2: crossfading from the old;
  3: fading in from silence; 4: ended. -/
  phase  : Nat
  fade   : Nat
  /-- The last samples of the old and the new signal. -/
  prevOld : Option Int
  prevNew : Option Int
deriving DecidableEq, Repr

/-- A destination channel that has left silence: an `AU_DST` element, or 65,536 + port × 32 + k for an embedded channel that
follows its port (R124). -/
structure Chan where
  id     : Nat
  /-- The reference carried before the transitions running, oldest first. -/
  base   : Nat
  trs    : List Trans
  /-- Gain ramp (R134): the amplitude before and now, in 2⁻⁶⁴, and the samples done; 64: none running; above: samples until it
  starts, plus 64. -/
  gain0  : Int
  gain1  : Int
  ramp   : Nat
  /-- The delay (R135), and the delays that it crossfades to, oldest first, each with the samples done, as for the ramp. -/
  delay0 : Nat
  delays : List (Nat × Nat)
  /-- The last sample ahead of the gain. -/
  raw    : Int
  /-- The delay line, newest first: samples, and the bits of their channel words as `cs` has them; bit 6: CONC. -/
  line   : List (Int × Nat)
  /-- The sample delivered, and whether the part synthesised it; the last four, newest first, with bits as in `line`. -/
  sent   : List (Int × Nat)
  out    : Int
  conc   : Bool
  /-- V, U, C, BLK and NPCM of the sample delivered, bits 4 to 0 (R115); bit 5: its source carries channel status (R136). -/
  cs     : Nat
  /-- DATA of word 1 as it stood at the last transition (R123). -/
  data   : Bool
  /-- Zeros that the part gives at the output, and the fade after them (R362, R372, R383), as for the ramp. -/
  hush   : Nat
deriving DecidableEq, Repr

/-- SLIP corrections of an FSYNC source's embedded audio (R103): samples repeated less those dropped, now and before the last slip, and
the house sample of that slip. -/
structure Slip where
  p     : Nat
  net   : Int
  old   : Int
  from_ : Nat
deriving DecidableEq, Repr

/-- The audio crosspoint (chapter 5). -/
structure AuState where
  chans    : List Chan
  /-- Elements reserved for a destination port (R125): port, elements. -/
  reserved : List (Nat × List Nat)
  /-- The take that made each reservation and has not ended: port, `XP_TAKE` element. -/
  makers   : List (Nat × Nat)
  /-- The last 48 kHz sample given, by receive reference. -/
  sample   : Nat
  /-- The last sample's values (R119). -/
  last     : List (Nat × Int)
  /-- SLIP corrections of FSYNC sources' embedded audio (R103), by source port. -/
  slips    : List Slip
  /-- Channels that a publication silences at their next switch line (R137). -/
  grace    : List Nat
deriving DecidableEq, Repr

/-! ### Composition -/

/-- One layer of a head beside its descriptor (R184, R186). -/
structure LayerRun where
  layer  : Nat
  /-- The ramp running: from, to, frames done of so many; and the words published as OFF, where the layer turns off at its end. -/
  opac0  : Nat
  opac1  : Nat
  done   : Nat
  frames : Nat
  offTo  : List W
  /-- Pictures repeated since the last good one, and whether there was one (R186, R192). -/
  rep    : Nat
  good   : Bool
  /-- Its source lost VALID, or changed rate or scan, at a publication (R190). -/
  broken : Bool
  /-- Frames since it landed (R164: a sequence of images steps once a frame). -/
  age    : Nat
deriving DecidableEq, Repr

/-- An image placed on a raster: its crop and its rectangle, clipped. -/
structure Placed where
  image : Nat
  cl    : Nat
  ct    : Nat
  x0    : Nat
  y0    : Nat
  x1    : Nat
  y1    : Nat
deriving DecidableEq, Repr

/-- One accord image (R175): the head, the layer, whether it is the fallback's, whether it is in live service, its STORED,
UNIFORM and directory tiles, its read cost, and what was flattened: the image's descriptor and place, the head's MATRIX, and the
words of the image store that are not 0, by offset from the image's BASE. -/
structure AccordImg where
  head    : Nat
  layer   : Nat
  fb      : Bool
  live    : Bool
  image   : Nat
  stored  : Nat
  uniform : Nat
  entries : Nat
  cost    : Nat
  desc    : W
  place   : Placed
  matrix  : Nat
  words   : List (Nat × W)
deriving DecidableEq, Repr

/-- The composition unit (chapter 7). -/
structure CmState where
  runs   : List (Nat × LayerRun)
  accord : List AccordImg
  /-- Heads whose twin has reported FLAT READY (R191). -/
  twinReady : List Nat
  /-- What the deciding twin has told of STORED layers for their next switch line (R191): the layer; a fallback, else a repeat. -/
  told   : List (Nat × Bool)
  /-- Accord tiles drawn transparent in the frame running (R186): layer, tile column and row. -/
  late   : List (Nat × Nat × Nat)
  /-- Layers whose accord images are being flattened again, until their head's next switch line (R372, R381). -/
  redo   : List Nat
deriving DecidableEq, Repr

/-! ### Alignment -/

/-- A picture in a frame store (R101): its frame count and when its first carried line was captured. -/
structure Pic where
  count   : Nat
  capture : Nat
  /-- The lines that were missing: each holds the previous line, with CONC. -/
  conc    : List Nat
deriving DecidableEq, Repr

/-- What the part keeps of one source beside its registers (chapter 4). -/
structure Src where
  port    : Nat
  /-- The `ES_ALIGN` entry in force: a write applies from the next picture boundary (R107). -/
  entry   : W
  /-- Consecutive pictures inside the window (R100), and complete ones since its return (R105). -/
  inside  : Nat
  whole   : Nat
  /-- The frame store (R101): unread complete pictures, oldest first; the picture last read; the one being written. -/
  unread  : List Pic
  reading : Option Pic
  writing : Option Pic
  /-- Pictures repeated since the source was lost (R105), and whether destinations carry black. -/
  lossRep : Nat
  black   : Bool
  /-- The last picture was complete under the 16-line rule. -/
  good    : Bool
  /-- The audio delay held at entry to ALIGNED, in samples (R103). -/
  audio   : Int
  /-- The picture being read is sent once more (R101). -/
  again   : Bool
  /-- Read instants for which the store still fills after HOLD (R34). -/
  wait    : Nat
  /-- Audio of the source (R105): it fades in, or out, from a house sample on. -/
  heard   : Bool
  fadeAt  : Nat
  /-- Capture times of the last two pictures, ns (R159). -/
  cap0    : Nat
  cap1    : Nat
deriving DecidableEq, Repr

/-- Alignment (chapter 4). -/
structure AlState where
  srcs : List Src
  /-- Dies whose store budget lies above its limit (R110), and 8 + those whose read cost does (R177). -/
  above : List Nat
  /-- Lines lost to an uncorrectable error (R372, R382): source port, the stored picture's count plus 1, or 0 where the line is of the
  picture that a SYNC source's line buffers hold, and the line. -/
  hurt  : List (Nat × Nat × Nat)
deriving DecidableEq, Repr

/-! ### Audio ports and rate conversion (chapter 6) -/

/-- A running stream (R153): direction × 65,536 + `AU_PORT_STAT` element; the house index it started at; the first zeroed index
while it underruns; samples faded in since it rejoined (64: none running). -/
structure Stream where
  id    : Nat
  start : Nat
  lost  : Option Nat
  fade  : Nat
  /-- The last slip (R154): how far ahead, in samples, the mapping before it reads (1: a sample was repeated; −1: dropped; 0: none yet),
  and its house sample; and the phase of the frame sync in the house sample period as last captured, in units of house time. -/
  old    : Int
  slipAt : Nat
  phase  : Nat
deriving DecidableEq, Repr

/-- What the frames of a receive slot or subframe brought (R146), newest first: the sample, the level in 64ths at which the crosspoint takes
it (R149, R153), its channel status bits. -/
structure RxLine where
  /-- Die × 16,384 + endpoint. -/
  key  : Nat
  line : List (Int × Nat × Nat)
deriving DecidableEq, Repr

/-- An armed trigger (R150): its words 0 and 2, and the index decided (none: it waits for a GPI edge). -/
structure Trig where
  n    : Nat
  w0   : W
  w2   : W
  at_  : Option Nat
  late : Bool
deriving DecidableEq, Repr

/-- A TDM port's mask in force, and the one staged with the time of its commit (R148). -/
structure MaskRun where
  e      : Nat
  live   : W
  staged : Option (W × Nat)
deriving DecidableEq, Repr

/-- An ASRC channel's fade (R158, R160): the level in 64ths; 0 steady, 1 rising, 2 falling; the binding, a word 0, that goes on until the
fall ends and the one in `AU_ASRC` takes its place. -/
structure AsrcRun where
  e     : Nat
  level : Nat
  dir   : Nat
  bound : Option W
deriving DecidableEq, Repr

structure ApState where
  streams : List Stream
  trigs   : List Trig
  masks   : List MaskRun
  asrc    : List AsrcRun
  /-- The last 64 samples at the input of each MATCH channel, newest first (R156, R159). -/
  lines   : List (Nat × List Int)
  /-- Phase of each FSYNC channel, as the deciding twin last gave it (R161). -/
  phases  : List (Nat × Nat)
  rx      : List RxLine
deriving DecidableEq, Repr

/-! ### Lanes (chapter 8) -/

/-- A candidate of the hunt (R201): bit position, passes in a row with SHEET advancing by 1, the last SHEET. -/
structure Cand where
  pos   : Nat
  count : Nat
  sheet : Nat
deriving DecidableEq, Repr

/-- The checker of a lane's pattern (R214): the register it has seeded, how many bits it has taken, error-free bits in a row, the errors
among its last 64 bits, the newest first. -/
structure Checker where
  reg    : Nat
  taken  : Nat
  clean  : Nat
  recent : List Bool
deriving DecidableEq, Repr

/-- What a lane keeps beside its registers. -/
structure LaneRun where
  e     : Nat
  cands : List Cand
  /-- LOCKED: the header's bit position, successive failures, mismatches and matches of the peer check. -/
  pos   : Nat
  fails : Nat
  mism  : Nat
  mtch  : Nat
  /-- The last passing header (R42). -/
  last  : Option W
  /-- Taps in effect while they differ from `LK_TXEQ` (R209). -/
  taps  : Option W
  /-- Single bits and bursts injected, and word slips made (R214). -/
  injected : Nat
  slips : Nat
  /-- Bits checked beyond the whole units of 2^20 counted (R214). -/
  bits  : Nat
  chk   : Checker
  /-- When the pattern set began; the injected runs, by their first bit counted from there and their length; the place of the errors of
  INJECT 3 in their period (R214). -/
  began  : Nat
  inject : List (Nat × Nat)
  phase  : Nat
  /-- The eight DFE taps of a receiver, in thousandths of the main cursor (R208). -/
  dfe    : List Int
deriving DecidableEq, Repr

/-- A spare's run (R212): the `LK_SPARE` element, the position mirrored, first sheet and end of mirroring; or, received, copies
that passed in a row. -/
structure SpareRun where
  e      : Nat
  pos    : Nat
  from_  : Nat
  until_ : Option Nat
  copies : Nat
deriving DecidableEq, Repr

/-- A port stream as its receiver follows it (R50): a hunt runs; words of the frame begun still to come; the last FRAME frame taken
(R46): source frame count, seconds and nanoseconds of capture. -/
structure RxStream where
  p     : Nat
  hunt  : Bool
  skip  : Nat
  /-- The header of the frame begun, and the payload words of it that have come: the first two. -/
  head  : W
  body  : List W
  frame : Option (Nat × Nat × Nat)
deriving DecidableEq, Repr

structure LkState where
  lanes  : List LaneRun
  spares : List SpareRun
  /-- The last sheet started (R204). -/
  sheet  : Nat
  /-- DATA-CRC slots of this PTP second by receive data lane (R216). -/
  crcSec : List (Nat × Nat)
  /-- Failed groups of each mesh link (R19). -/
  mesh   : List (Nat × Nat × Nat)
  /-- CBANK of each receive lane's last sheet, of any type, whose header passed: die × 64 + lane (R50). -/
  bank   : List (Nat × Nat)
  /-- The port tables and transports of the calendar bank that is not live (R58). -/
  other  : Table
  /-- That bank holds a calendar that was published: no rebuild has been at work in it since (R58). -/
  otherOk : Bool
  /-- Receive lanes that have named the live bank since it was published: a sender that names the other one is ahead (R58). -/
  caught : List Nat
  /-- The port streams received (R44, R50). -/
  streams : List RxStream
deriving DecidableEq, Repr

/-! ### Media Ethernet and SDI (chapter 9) -/

/-- A media MAC: its link, and the pause running (since, until) (R222); frames of a PTP port, and others of the part's own, that wait for its
end. -/
structure MacRun where
  m       : Nat
  link    : Bool
  paused  : Option (Nat × Nat)
  waiting : List (Nat × PtpTx)
  own     : Nat
  /-- Bytes of each essence packet that waits in the transmit buffer (R222). -/
  buf     : List Nat
deriving DecidableEq, Repr

/-- A time-stamp (R230): seconds, nanoseconds, tag, sequenceId, messageType. -/
structure Stamp where
  secs  : Nat
  nanos : Nat
  tag   : Nat
  seqid : Nat
  mtype : Nat
deriving DecidableEq, Repr

/-- A time-stamp queue (R229): its `MX_TSQ` element, the tag counter, the entries oldest first. -/
structure TsQueue where
  e   : Nat
  tag : Nat
  q   : List Stamp
deriving DecidableEq, Repr

/-- A packet that waits for its release (R243): whether path B brought it, its sequence number, the PTP time at which it is due, its RTP
timestamp, and what it carries. -/
structure HeldPacket where
  pathB : Bool
  seq   : Nat
  due   : Nat
  stamp : Nat
  body  : RtpBody
deriving DecidableEq, Repr

/-- A receive flow (R243): packets that arrived and wait, the newest first; the next sequence number to release; when each path last
brought one; when the picture's first packet arrived, its nominal time and its RTP timestamp (TIMING ARRIVAL); the line that the last
release reached: its picture's timestamp, its number, the pixels of it so far. -/
structure RxFlow where
  id    : FlowId
  next  : Nat
  got   : List HeldPacket
  lastA : Option Nat
  lastB : Option Nat
  base  : Option (Nat × Nat × Nat)
  row   : Option (Nat × Nat × Nat)
deriving DecidableEq, Repr

/-- An SDI source's picture in progress (R244): payload IDs that agreed and that disagreed, lines whose samples are not
the format's, and a last line that is not. -/
structure SdiRun where
  p     : Nat
  agree : Nat
  clash : Nat
  off   : Nat
deriving DecidableEq, Repr

/-- A port's ANC in its picture (R51, R246, R247): the line reached (0: a picture is to begin), words that the picture's ANC has used, and the
rules of its recipe as they stood at the picture's start. -/
structure AncRun where
  dst   : Bool
  p     : Nat
  line  : Nat
  used  : Nat
  rules : List W
deriving DecidableEq, Repr

structure MxState where
  macs  : List MacRun
  tsq   : List TsQueue
  flows : List RxFlow
  sdi   : List SdiRun
  /-- ANC by port, and the ANC frames last given to a port's stream: the port, the line, the payload. -/
  ancs  : List AncRun
  anc   : List (Nat × Nat × List W)
  /-- The samples that the last release of an audio flow gave, by sample periods, channels in order (R239). -/
  audio : Option (FlowId × List (List Int))
  /-- The counters latched by a read of offset 0 over PCIe (R232), by MAC. -/
  stats : List (Nat × List W)
  /-- The descriptors last handed back: address and words (R225, R226). -/
  back  : List (Nat × W × W)
  /-- What the last SDI line sent holds in its ANC spaces, its payload ID and audio packets first: stream, offset, words (R246). -/
  placed : List (Nat × Nat × Nat)
  /-- Group queries answered by MAC (R242). -/
  igmp  : List (Nat × Nat)
  /-- The context that last wrote word 1 of a ring's `MX_RING` element (R333). -/
  owner : List (Nat × Nat)
deriving DecidableEq, Repr

/-! ### Twin operation (chapter 11) -/

/-- An edge's receive pair beside its registers (R294, R297): the twin last selected (0 none, 1 A, 2 B); for each slot, sheets since its
last `TW_CMP` mismatch, up to 16; the number of the sheet last released. -/
structure PairRun where
  e     : Nat
  last  : Nat
  cmp   : List (Nat × Nat)
  sheet : Nat
deriving DecidableEq, Repr

structure TwState where
  /-- The number of the last decision sent, and those not acknowledged yet with the time each was sent (R291). -/
  sent     : Nat
  unacked  : List (Nat × Nat)
  /-- Successive sheets with equal and with differing digests (R289, R304). -/
  equal    : Nat
  differ   : Nat
  /-- The highest epoch seen in a claim of the twin (R286). -/
  epochSeen : Option Nat
  /-- The twin link is up in both directions; the twin is silent on it. -/
  silent   : Bool
  /-- When the last report came (or, before any, this part's first report), and TWIN-SILENT written since (R303). -/
  reportAt : Option Nat
  silentNoted : Bool
  /-- Re-mirror (R304): snapshot asked for, installed, stores full. -/
  asked    : Bool
  installed : Bool
  full     : Bool
  /-- The twin's bundle ID, from its snapshot (R427). -/
  ident    : Option (BitVec 512)
  /-- Snapshots sent to the twin. -/
  gave     : Nat
  /-- Both ACTIVE already noted (R306). -/
  dual     : Bool
  /-- Items that the twin holds while it migrates them: kind and owner (R383). -/
  held     : List (Nat × Nat)
  stErr    : Nat
  stWords  : Nat
  pairs    : List PairRun
  /-- Commits sent on to the deciding twin, or decided here, and not answered yet: the element, and in whose name (R93, R291). -/
  fwd      : List (Addr × Req)
  /-- Commits decided here whose answer waits for the other twin's acknowledgement: the decision's number, the element, the status (R291). -/
  acks     : List (Nat × Addr × Nat)
  /-- The snapshot last sent (R304). -/
  given    : Option Snapshot
deriving DecidableEq, Repr

/-! ### Crossbar, engines, CRC units (chapter 14) -/

/-- An exclusive monitor (R355). -/
structure Monitor where
  die     : Nat
  master  : Nat
  target  : Nat
  granule : Nat
  set_    : Nat
deriving DecidableEq, Repr

/-- A piece of a burst that waits at its target's port (R352, R354): the die whose crossbar carries it, its master, the master's QOS and AGE
when it issued the piece (R353), since when it waits, where its burst starts and how long that is, its own bytes, and whether it is the burst's
last. -/
structure Piece where
  die    : Nat
  master : Nat
  qos    : Nat
  age    : Nat
  since  : Nat
  start  : Nat
  total  : Nat
  addr   : Nat
  len    : Nat
  write  : Bool
  excl   : Bool
  last   : Bool
  data   : List Byte
deriving DecidableEq, Repr

/-- A target port (die × 10 + target): the master granted last, and until when the piece granted last takes it. -/
structure PortRun where
  port  : Nat
  last  : Nat
  until_ : Nat
deriving DecidableEq, Repr

structure IcState where
  monitors : List Monitor
  /-- Pieces not yet granted, in the order in which they were issued, and the target ports that have granted any. -/
  pieces   : List Piece
  ports    : List PortRun
  /-- The `IC_ABORT_LOG` entry each die writes next (R358). -/
  abortNext : List Nat
  /-- Placement: destination?, port, the `IC_ENGINE` element that carries it (R360). -/
  place    : List (Bool × Nat × Nat)
  /-- Engines that keep their FAILED mark (R364). -/
  retained : List Nat
  /-- Engines under RESTORE, TEST. -/
  restoring : List Nat
  /-- How the crossbar answered the last access that it carried to its end: 0 done, 1 an error, 2 EXFAIL; and the bytes of a read (R351, R355,
  R357). -/
  answer   : Option (Nat × List Byte)
  /-- What the pieces granted of a read burst gave: die, master, where the burst starts, the bytes. -/
  got      : List (Nat × Nat × Nat × List Byte)
  /-- Bytes that masters have written into the memories of the control-plane address space (R350), each under die × 2^40 + address. -/
  ram      : List Host.Cell
  /-- Engines that hand their work over at the next sheet boundary (R363): the engine, the one that takes over (a mix engine: itself), whether it
  retires. -/
  moving   : List (Nat × Nat × Bool)
deriving DecidableEq, Repr

/-! ### Memory (chapter 15) -/

/-- An item placed in DRAM (R378): 0 frame store buffer, 1 heart store buffer, 2 accord image, 3 image, 4 delay line; its owner
(source; die × 16,384 + source; head × 8 + layer; `CM_IMAGE` element; `AU_DST` element); which buffer; bytes; the `MM_RANK` element that holds it; lost (R384); held (R383);
copied by the migration running. -/
structure Item where
  kind   : Nat
  owner  : Nat
  buf    : Nat
  size   : Nat
  rank   : Nat
  lost   : Bool
  held   : Bool
  copied : Bool
deriving DecidableEq, Repr

/-- A migration running (R382): channel, source and target rank elements, poisoned lines, when its copy began. -/
structure Migr where
  ch     : Nat
  src    : Nat
  dst    : Nat
  poison : Nat
  since  : Nat
deriving DecidableEq, Repr

structure MmState where
  /-- `MM_CHANNEL` as the last LOAD applied it (R375). -/
  conf    : List (Nat × W)
  items   : List Item
  migr    : List Migr
  /-- RETIRED marks (R382, R385). -/
  retired : List Nat
  /-- Readings of the DQS oscillator, by channel (R379). -/
  recals  : List (Nat × Nat)
  /-- The last report was above 95 °C and has its record (R380). -/
  hot     : List Nat
deriving DecidableEq, Repr

/-! ### The state -/

/-- The state of one package. -/
structure State where
  /-- The commands that wait, first in, first out. -/
  pending : List Instr
  /-- The fused capabilities. -/
  caps    : Caps
  /-- The dictionary's words, live. -/
  regs    : Table
  /-- The shadow copies: port tables (R54), transports (R234), layers (R171). -/
  shadow  : Table
  clk     : Clk
  sys     : SysState
  host    : HostState
  ev      : EvState
  tm      : TimeState
  save    : SaveState
  fw      : FwState
  pw      : PowerState
  xp      : XpState
  au      : AuState
  cm      : CmState
  al      : AlState
  ap      : ApState
  lk      : LkState
  mx      : MxState
  tw      : TwState
  ic      : IcState
  mm      : MmState
  /-- The MODEL's own: the number of free values taken so far (a fresh one is `Config.free` of it). -/
  fresh   : Nat
deriving DecidableEq, Repr

/-- The spec gives the block no condition that stops it: what goes wrong is answered with a status, recorded in the
sillage or changes a mode. So there is no fault. -/
inductive Fault
deriving DecidableEq, Repr

/-- Why a command has no meaning here. -/
inductive Refusal where
  /-- Raised by the arm of a command not modelled yet; safe. -/
  | notModelled (mnemonic : String)
deriving DecidableEq, Repr

/-! ### Reset

The machine right after the package reset that follows the first power-on (R252, R399, R417): SAFE, every word of the
dictionary at its default, blank settings. DESIGN CHOICE of the part: a DY-SC8F with its media MACs, die 0 holding the mast,
half A of the boot flash ACTIVE. -/

/-- No flag or list set: a fault manager at rest, a channel of the host at rest, a reference not yet measured. -/
def FaultMgr.rest : FaultMgr := ⟨none, [], [], []⟩

def PcieFn.rest : PcieFn :=
  ⟨.operate, 0, 0, 0, 0, 0, 0, 0, 0, 0, false, [], 1, [], false, [], [], [],
    (List.replicate 8 [0, 0x100000000]).flatten, 0, ⟨0, 0, 0⟩, []⟩

/-- An attachment that has its link-local address, IPADDR being 0 (R307). -/
def BusAtt.rest (a : Nat) : BusAtt := ⟨[], 0, 0, 0, 0, Config.linkLocal a⟩

def GpiIn.rest : GpiIn := ⟨false, 0, 0, false, 0, [], 0, 0, 0, 0⟩

def RefState.rest : RefState := ⟨false, none, none, 0, 0, 0, 0, [], none, [], none⟩

def PtpState.rest : PtpState := ⟨none, [], none, none, none, 0, [], 0, 0, 0, 0, []⟩

def HostState.rest : HostState :=
  ⟨none, [none, none, none, none], [], List.replicate 4 .rest, (List.range 4).map BusAtt.rest, [], 0, [], []⟩

def EvState.rest : EvState :=
  ⟨List.replicate 8 .rest, List.replicate 8 [], [], [], List.replicate 36 .rest, [], []⟩

def TimeState.rest : TimeState :=
  ⟨List.replicate 14 .rest, List.replicate 4 .rest, 0, false, none, [], 0, 0, 0, none, [], 0, 0, List.replicate 16 0, none,
    List.replicate 8 ⟨0, none⟩, List.replicate 4 none, (0, 0)⟩

/-- The bundle that the factory leaves in half A (DESIGN CHOICE): VERSION 1.0.0, schema 1, SVN 0, slots 0, for every member. -/
def factoryImages : List Image :=
  [1, 2, 3, 4, 5, 6].map fun t => ⟨t, 0, if t = 6 then 1 else 0, if t = 6 then 1 else 0, 15, 0, 0, 0x01000000, 0, true, true, true, true, true⟩

def FwState.rest : FwState :=
  ⟨[⟨2, 1, 0, some factoryImages, [], []⟩, ⟨0, 0, 0, none, [], []⟩], none, false, false, 0, 0, 0, none, 0, 0, none, [], none, 0, 0,
    [], []⟩

def PowerState.rest : PowerState := ⟨[], [], List.replicate 8 ⟨false, 0, 0, 0⟩, true, [], [], none, [], 740, 0, true, 0, []⟩

def ApState.rest : ApState := ⟨[], [], [], [], [], [], []⟩
def LkState.rest : LkState := ⟨[], [], 0, [], [], [], [], false, [], []⟩
def MxState.rest : MxState := ⟨[], [], [], [], [], [], none, [], [], [], [], []⟩
def TwState.rest : TwState := ⟨0, [], 0, 0, none, true, none, false, false, false, false, none, 0, false, [], 0, 0, [], [], [], none⟩
def IcState.rest : IcState := ⟨[], [], [], List.replicate 8 0, [], [], [], none, [], [], []⟩
def MmState.rest : MmState := ⟨[], [], [], [], [], []⟩

/-- The machine right after reset. -/
def State.reset : State := {
  pending := []
  caps := ⟨.sc8f, true⟩
  regs := [(⟨0x1018, 0, 0⟩, 1)]
  shadow := []
  clk := ⟨0, 0, 0, 0, 1, 0⟩
  sys := ⟨false, false, false, false, some 0, [], 1, 0, 0, false, 0, false, false, true, [], true, false⟩
  host := .rest
  ev := .rest
  tm := .rest
  save := ⟨[none, none], none, none, false, 0, []⟩
  fw := .rest
  pw := .rest
  xp := ⟨[], [], 0, [], []⟩
  au := ⟨[], [], [], 0, [], [], []⟩
  cm := ⟨[], [], [], [], [], []⟩
  al := ⟨[], [], []⟩
  ap := .rest
  lk := .rest
  mx := .rest
  tw := .rest
  ic := .rest
  mm := .rest
  fresh := 0
}

end Sys2Proof.Machine
end

