-- ==== Sys2Proof/Machine/Sparse.lean ====
section
/-! DEFINITION. The sparse table of register words: reading, writing, and its one canonical form. -/
namespace Sys2Proof.Machine

/-- The order of register names: by index, then element, then word. -/
def keyLt (a b : Key) : Bool :=
  a.ix < b.ix || (a.ix == b.ix && (a.e < b.e || (a.e == b.e && a.w < b.w)))

/-- The word under `k`, the default `d k` where none is listed. -/
def tget (d : Key → W) (t : Table) (k : Key) : W :=
  match t with
  | [] => d k
  | (k', v) :: r => if k = k' then v else tget d r k

/-- The table with `v` listed under `k`. -/
def tput (t : Table) (k : Key) (v : W) : Table :=
  match t with
  | [] => [(k, v)]
  | (k', v') :: r =>
    if keyLt k k' then (k, v) :: (k', v') :: r
    else if k = k' then (k, v) :: r
    else (k', v') :: tput r k v

/-- The table with nothing listed under `k`. -/
def tdrop (t : Table) (k : Key) : Table := t.filter fun x => !(x.1 == k)

/-- The table after `v` is written under `k`: a word equal to its default is not listed. -/
def tset (d : Key → W) (t : Table) (k : Key) (v : W) : Table :=
  if v = d k then tdrop t k else tput t k v

/-- The canonical form: names strictly rising, and no word listed that equals its default. -/
abbrev tableWf (d : Key → W) (t : Table) : Prop :=
  t.Pairwise (fun a b => keyLt a.1 b.1 = true) ∧ ∀ x ∈ t, x.2 ≠ d x.1

/-- Every word of `src` written into `t`. -/
def tmerge (d : Key → W) (t src : Table) : Table := src.foldl (fun t x => tset d t x.1 x.2) t

/-- One cell of a byte space, `0xFF` where none is listed (erased flash). -/
def cellGet (m : List Host.Cell) (a : Nat) : Byte :=
  match m with
  | [] => 0xFF
  | (a', v) :: r => if a = a' then v else cellGet r a

/-- A cell listed. -/
def cellPut (m : List Host.Cell) (a : Nat) (v : Byte) : List Host.Cell :=
  match m with
  | [] => [(a, v)]
  | (a', v') :: r => if a < a' then (a, v) :: (a', v') :: r else if a = a' then (a, v) :: r else (a', v') :: cellPut r a v

/-- A byte written; an erased byte is not listed. -/
def cellSet (m : List Host.Cell) (a : Nat) (v : Byte) : List Host.Cell :=
  if v = 0xFF then m.filter fun x => !(x.1 == a) else cellPut m a v

/-- The canonical form of a byte space. -/
abbrev cellsWf (m : List Host.Cell) : Prop :=
  m.Pairwise (fun a b => a.1 < b.1) ∧ ∀ x ∈ m, x.2 ≠ 0xFF

/-- Element `i` of a list replaced. -/
def lset {α : Type} (l : List α) (i : Nat) (v : α) : List α := l.set i v

/-- Element `i` of a list changed. -/
def lmod {α : Type} (l : List α) (i : Nat) (f : α → α) : List α := l.modify i f

end Sys2Proof.Machine
end

