-- ==== Sys2Proof/Machine/Flags.lean ====
section
/-! DEFINITION. The bit fields of the dictionary's words, under the names and places the spec's field tables give them, and
the plain flag computations. -/
namespace Sys2Proof.Machine

/-- A bit field: the object, the word, the lowest bit, the number of bits. -/
structure Fld where
  ix  : Nat
  w   : Nat
  lo  : Nat
  len : Nat
deriving DecidableEq, Repr

/-- `SY_CAPS` word 1 bits 31:28: DIES. -/
@[reducible] def F.SY_CAPS_DIES : Fld := ⟨0x1010, 1, 28, 4⟩
/-- `SY_CAPS` word 1 bits 27:24: LAYERS. -/
@[reducible] def F.SY_CAPS_LAYERS : Fld := ⟨0x1010, 1, 24, 4⟩
/-- `SY_CAPS` word 1 bits 22: ROLE_GATEWAY. -/
@[reducible] def F.SY_CAPS_ROLE_GATEWAY : Fld := ⟨0x1010, 1, 22, 1⟩
/-- `SY_CAPS` word 1 bits 21: ROLE_EDGE. -/
@[reducible] def F.SY_CAPS_ROLE_EDGE : Fld := ⟨0x1010, 1, 21, 1⟩
/-- `SY_CAPS` word 1 bits 20: ROLE_CORE. -/
@[reducible] def F.SY_CAPS_ROLE_CORE : Fld := ⟨0x1010, 1, 20, 1⟩
/-- `SY_CAPS` word 1 bits 3: MEDIA. -/
@[reducible] def F.SY_CAPS_MEDIA : Fld := ⟨0x1010, 1, 3, 1⟩
/-- `SY_CAPS` word 1 bits 2: FSYNC. -/
@[reducible] def F.SY_CAPS_FSYNC : Fld := ⟨0x1010, 1, 2, 1⟩
/-- `SY_CAPS` word 1 bits 1: AUPORT. -/
@[reducible] def F.SY_CAPS_AUPORT : Fld := ⟨0x1010, 1, 1, 1⟩
/-- `SY_CAPS` word 1 bits 0: COMP. -/
@[reducible] def F.SY_CAPS_COMP : Fld := ⟨0x1010, 1, 0, 1⟩
/-- `SY_IDENTITY` word 2 bits 2:0: MAST. -/
@[reducible] def F.SY_IDENTITY_MAST : Fld := ⟨0x1000, 2, 0, 3⟩
/-- `SY_IDENTITY` word 2 bits 7: HANDOVER. -/
@[reducible] def F.SY_IDENTITY_HANDOVER : Fld := ⟨0x1000, 2, 7, 1⟩
/-- `SY_MODE` word 1 bits 31:24: LAST_REFUSED. -/
@[reducible] def F.SY_MODE_LAST_REFUSED : Fld := ⟨0x1020, 1, 24, 8⟩
/-- `SY_MODE` word 1 bits 15:12: CAUSE. -/
@[reducible] def F.SY_MODE_CAUSE : Fld := ⟨0x1020, 1, 12, 4⟩
/-- `SY_MODE` word 1 bits 11:8: PHASE. -/
@[reducible] def F.SY_MODE_PHASE : Fld := ⟨0x1020, 1, 8, 4⟩
/-- `SY_MODE` word 1 bits 7:4: TARGET. -/
@[reducible] def F.SY_MODE_TARGET : Fld := ⟨0x1020, 1, 4, 4⟩
/-- `SY_MODE` word 1 bits 3:0: MODE. -/
@[reducible] def F.SY_MODE_MODE : Fld := ⟨0x1020, 1, 0, 4⟩
/-- `SY_ROLE` word 0 bits 7:0: ROLE. -/
@[reducible] def F.SY_ROLE_ROLE : Fld := ⟨0x1018, 0, 0, 8⟩
/-- `SY_SAVE` word 1 bits 63:32: GEN. -/
@[reducible] def F.SY_SAVE_GEN : Fld := ⟨0x1028, 1, 32, 32⟩
/-- `SY_SAVE` word 1 bits 31: DIRTY. -/
@[reducible] def F.SY_SAVE_DIRTY : Fld := ⟨0x1028, 1, 31, 1⟩
/-- `SY_SAVE` word 1 bits 30: WRITING. -/
@[reducible] def F.SY_SAVE_WRITING : Fld := ⟨0x1028, 1, 30, 1⟩
/-- `SY_SAVE` word 1 bits 29: COPY. -/
@[reducible] def F.SY_SAVE_COPY : Fld := ⟨0x1028, 1, 29, 1⟩
/-- `SY_SAVE` word 1 bits 28: DEFAULTS. -/
@[reducible] def F.SY_SAVE_DEFAULTS : Fld := ⟨0x1028, 1, 28, 1⟩
/-- `SY_SAVE` word 1 bits 27:0: AGE. -/
@[reducible] def F.SY_SAVE_AGE : Fld := ⟨0x1028, 1, 0, 28⟩
/-- `CT_BUS` word 0 bits 63:32: IPADDR. -/
@[reducible] def F.CT_BUS_IPADDR : Fld := ⟨0x6020, 0, 32, 32⟩
/-- `CT_BUS` word 0 bits 31:26: PREFIX. -/
@[reducible] def F.CT_BUS_PREFIX : Fld := ⟨0x6020, 0, 26, 6⟩
/-- `CT_BUS` word 1 bits 63:16: MACADDR. -/
@[reducible] def F.CT_BUS_MACADDR : Fld := ⟨0x6020, 1, 16, 48⟩
/-- `CT_BUS_STAT` word 0 bits 4: COLL. -/
@[reducible] def F.CT_BUS_STAT_COLL : Fld := ⟨0x6028, 0, 4, 1⟩
/-- `CT_BUS_STAT` word 0 bits 3: EXCESS. -/
@[reducible] def F.CT_BUS_STAT_EXCESS : Fld := ⟨0x6028, 0, 3, 1⟩
/-- `CT_BUS_STAT` word 0 bits 2: LATECOLL. -/
@[reducible] def F.CT_BUS_STAT_LATECOLL : Fld := ⟨0x6028, 0, 2, 1⟩
/-- `CT_BUS_STAT` word 0 bits 1: JABBER. -/
@[reducible] def F.CT_BUS_STAT_JABBER : Fld := ⟨0x6028, 0, 1, 1⟩
/-- `CT_BUS_STAT` word 0 bits 0: FCS. -/
@[reducible] def F.CT_BUS_STAT_FCS : Fld := ⟨0x6028, 0, 0, 1⟩
/-- `CT_NODE` word 0 bits 11:0: ID. -/
@[reducible] def F.CT_NODE_ID : Fld := ⟨0x6008, 0, 0, 12⟩
/-- `CT_NCP_STAT` word 0 bits 31:0: RXMSG. -/
@[reducible] def F.CT_NCP_STAT_RXMSG : Fld := ⟨0x6048, 0, 0, 32⟩
/-- `CT_NCP_STAT` word 1 bits 31:0: TXMSG. -/
@[reducible] def F.CT_NCP_STAT_TXMSG : Fld := ⟨0x6048, 1, 0, 32⟩
/-- `CT_NCP_STAT` word 2 bits 31:0: MALFORMED. -/
@[reducible] def F.CT_NCP_STAT_MALFORMED : Fld := ⟨0x6048, 2, 0, 32⟩
/-- `CT_NCP_STAT` word 3 bits 31:0: WRONGNODE. -/
@[reducible] def F.CT_NCP_STAT_WRONGNODE : Fld := ⟨0x6048, 3, 0, 32⟩
/-- `CT_NCP_STAT` word 4 bits 31:0: NOSESSION. -/
@[reducible] def F.CT_NCP_STAT_NOSESSION : Fld := ⟨0x6048, 4, 0, 32⟩
/-- `CT_NCP_STAT` word 5 bits 31:0: DUPLICATE. -/
@[reducible] def F.CT_NCP_STAT_DUPLICATE : Fld := ⟨0x6048, 5, 0, 32⟩
/-- `CT_NCP_STAT` word 6 bits 31:0: NOTIFYDROP. -/
@[reducible] def F.CT_NCP_STAT_NOTIFYDROP : Fld := ⟨0x6048, 6, 0, 32⟩
/-- `CT_NCP_STAT` word 7 bits 31:0: BUSDROP. -/
@[reducible] def F.CT_NCP_STAT_BUSDROP : Fld := ⟨0x6048, 7, 0, 32⟩
/-- `CT_CONTEXT` word 0 bits 63: EN. -/
@[reducible] def F.CT_CONTEXT_EN : Fld := ⟨0x6018, 0, 63, 1⟩
/-- `CT_CONTEXT` word 0 bits 62: NCP. -/
@[reducible] def F.CT_CONTEXT_NCP : Fld := ⟨0x6018, 0, 62, 1⟩
/-- `CT_CONTEXT` word 0 bits 61: PCIE. -/
@[reducible] def F.CT_CONTEXT_PCIE : Fld := ⟨0x6018, 0, 61, 1⟩
/-- `CT_CONTEXT` word 0 bits 60:59: CEILING. -/
@[reducible] def F.CT_CONTEXT_CEILING : Fld := ⟨0x6018, 0, 59, 2⟩
/-- `CT_SESSION_STAT` word 0 bits 63: OPEN. -/
@[reducible] def F.CT_SESSION_STAT_OPEN : Fld := ⟨0x6050, 0, 63, 1⟩
/-- `CT_SESSION_STAT` word 0 bits 62:61: VIA. -/
@[reducible] def F.CT_SESSION_STAT_VIA : Fld := ⟨0x6050, 0, 61, 2⟩
/-- `CT_SESSION_STAT` word 0 bits 60:59: CEILING. -/
@[reducible] def F.CT_SESSION_STAT_CEILING : Fld := ⟨0x6050, 0, 59, 2⟩
/-- `CT_SESSION_STAT` word 0 bits 47:32: SESSION. -/
@[reducible] def F.CT_SESSION_STAT_SESSION : Fld := ⟨0x6050, 0, 32, 16⟩
/-- `CT_SESSION_STAT` word 0 bits 31:16: SUBS. -/
@[reducible] def F.CT_SESSION_STAT_SUBS : Fld := ⟨0x6050, 0, 16, 16⟩
/-- `CT_SESSION_STAT` word 0 bits 15:0: IDLE. -/
@[reducible] def F.CT_SESSION_STAT_IDLE : Fld := ⟨0x6050, 0, 0, 16⟩
/-- `CT_SESSION_STAT` word 1 bits 63:32: IPADDR. -/
@[reducible] def F.CT_SESSION_STAT_IPADDR : Fld := ⟨0x6050, 1, 32, 32⟩
/-- `CT_SESSION_STAT` word 1 bits 31:16: UDP. -/
@[reducible] def F.CT_SESSION_STAT_UDP : Fld := ⟨0x6050, 1, 16, 16⟩
/-- `CT_EMERG` word 0 bits 63:32: IPADDR. -/
@[reducible] def F.CT_EMERG_IPADDR : Fld := ⟨0x6038, 0, 32, 32⟩
/-- `CT_EMERG` word 0 bits 31:16: UDP. -/
@[reducible] def F.CT_EMERG_UDP : Fld := ⟨0x6038, 0, 16, 16⟩
/-- `CT_EMERG` word 0 bits 15: EN. -/
@[reducible] def F.CT_EMERG_EN : Fld := ⟨0x6038, 0, 15, 1⟩
/-- `CT_LEASE` word 0 bits 7: HELD. -/
@[reducible] def F.CT_LEASE_HELD : Fld := ⟨0x6030, 0, 7, 1⟩
/-- `CT_LEASE` word 0 bits 1:0: CTX. -/
@[reducible] def F.CT_LEASE_CTX : Fld := ⟨0x6030, 0, 0, 2⟩
/-- `CT_VIOLATION` word 0 bits 63:62: CTX. -/
@[reducible] def F.CT_VIOLATION_CTX : Fld := ⟨0x6040, 0, 62, 2⟩
/-- `CT_VIOLATION` word 0 bits 61:60: VIA. -/
@[reducible] def F.CT_VIOLATION_VIA : Fld := ⟨0x6040, 0, 60, 2⟩
/-- `CT_VIOLATION` word 0 bits 59:56: CAUSE. -/
@[reducible] def F.CT_VIOLATION_CAUSE : Fld := ⟨0x6040, 0, 56, 4⟩
/-- `CT_VIOLATION` word 0 bits 55:54: CLASS. -/
@[reducible] def F.CT_VIOLATION_CLASS : Fld := ⟨0x6040, 0, 54, 2⟩
/-- `CT_VIOLATION` word 0 bits 47:32: INDEX. -/
@[reducible] def F.CT_VIOLATION_INDEX : Fld := ⟨0x6040, 0, 32, 16⟩
/-- `CT_VIOLATION` word 0 bits 31:24: SUBINDEX. -/
@[reducible] def F.CT_VIOLATION_SUBINDEX : Fld := ⟨0x6040, 0, 24, 8⟩
/-- `CT_VIOLATION` word 1 bits 63:0: ADDRESS. -/
@[reducible] def F.CT_VIOLATION_ADDRESS : Fld := ⟨0x6040, 1, 0, 64⟩
/-- `CT_VIOLATION` word 2 bits 63:32: PSEQ. -/
@[reducible] def F.CT_VIOLATION_PSEQ : Fld := ⟨0x6040, 2, 32, 32⟩
/-- `CT_VIOLATION` word 2 bits 31:0: NSEQ. -/
@[reducible] def F.CT_VIOLATION_NSEQ : Fld := ⟨0x6040, 2, 0, 32⟩
/-- `EV_FAULT` word 0 bits 63:60: LEVEL. -/
@[reducible] def F.EV_FAULT_LEVEL : Fld := ⟨0x7808, 0, 60, 4⟩
/-- `EV_FAULT` word 0 bits 59:56: QUEUED. -/
@[reducible] def F.EV_FAULT_QUEUED : Fld := ⟨0x7808, 0, 56, 4⟩
/-- `EV_FAULT` word 0 bits 55:52: RUNLVL. -/
@[reducible] def F.EV_FAULT_RUNLVL : Fld := ⟨0x7808, 0, 52, 4⟩
/-- `EV_FAULT` word 0 bits 47:32: RUNCODE. -/
@[reducible] def F.EV_FAULT_RUNCODE : Fld := ⟨0x7808, 0, 32, 16⟩
/-- `EV_FAULT` word 0 bits 31:0: RUNSEQ. -/
@[reducible] def F.EV_FAULT_RUNSEQ : Fld := ⟨0x7808, 0, 0, 32⟩
/-- `EV_FAULT` word 1 bits 63:48: OPENDEG. -/
@[reducible] def F.EV_FAULT_OPENDEG : Fld := ⟨0x7808, 1, 48, 16⟩
/-- `EV_FAULT` word 1 bits 47:32: OPENCON. -/
@[reducible] def F.EV_FAULT_OPENCON : Fld := ⟨0x7808, 1, 32, 16⟩
/-- `EV_FAULT` word 2 bits 63:48: MERGEDN. -/
@[reducible] def F.EV_FAULT_MERGEDN : Fld := ⟨0x7808, 2, 48, 16⟩
/-- `EV_FAULT` word 2 bits 47:32: ESCALATED. -/
@[reducible] def F.EV_FAULT_ESCALATED : Fld := ⟨0x7808, 2, 32, 16⟩
/-- `EV_CURSOR` word 0 bits 63:32: CURSOR. -/
@[reducible] def F.EV_CURSOR_CURSOR : Fld := ⟨0x7820, 0, 32, 32⟩
/-- `EV_CURSOR` word 0 bits 31:0: MISSED. -/
@[reducible] def F.EV_CURSOR_MISSED : Fld := ⟨0x7820, 0, 0, 32⟩
/-- `EV_SILLAGE` word 0 bits 63:60: STATE. -/
@[reducible] def F.EV_SILLAGE_STATE : Fld := ⟨0x7810, 0, 60, 4⟩
/-- `EV_SILLAGE` word 0 bits 59:57: RELAYTO. -/
@[reducible] def F.EV_SILLAGE_RELAYTO : Fld := ⟨0x7810, 0, 57, 3⟩
/-- `EV_SILLAGE` word 0 bits 44:32: HELD. -/
@[reducible] def F.EV_SILLAGE_HELD : Fld := ⟨0x7810, 0, 32, 13⟩
/-- `EV_SILLAGE` word 0 bits 31:0: OLDEST. -/
@[reducible] def F.EV_SILLAGE_OLDEST : Fld := ⟨0x7810, 0, 0, 32⟩
/-- `EV_SILLAGE` word 1 bits 63:32: NEWEST. -/
@[reducible] def F.EV_SILLAGE_NEWEST : Fld := ⟨0x7810, 1, 32, 32⟩
/-- `EV_SILLAGE` word 1 bits 31:30: LGCOPY. -/
@[reducible] def F.EV_SILLAGE_LGCOPY : Fld := ⟨0x7810, 1, 30, 2⟩
/-- `EV_SILLAGE` word 1 bits 29:25: LGUNSENT. -/
@[reducible] def F.EV_SILLAGE_LGUNSENT : Fld := ⟨0x7810, 1, 25, 5⟩
/-- `EV_GPI` word 0 bits 63:62: ACTION. -/
@[reducible] def F.EV_GPI_ACTION : Fld := ⟨0x7848, 0, 62, 2⟩
/-- `EV_GPI` word 0 bits 61: POL. -/
@[reducible] def F.EV_GPI_POL : Fld := ⟨0x7848, 0, 61, 1⟩
/-- `EV_GPI` word 0 bits 60:49: SALVO. -/
@[reducible] def F.EV_GPI_SALVO : Fld := ⟨0x7848, 0, 49, 12⟩
/-- `EV_GPI` word 0 bits 48:37: MINW. -/
@[reducible] def F.EV_GPI_MINW : Fld := ⟨0x7848, 0, 37, 12⟩
/-- `EV_GPI` word 0 bits 36:25: STUCK. -/
@[reducible] def F.EV_GPI_STUCK : Fld := ⟨0x7848, 0, 25, 12⟩
/-- `EV_GPI` word 0 bits 24:17: EDGES. -/
@[reducible] def F.EV_GPI_EDGES : Fld := ⟨0x7848, 0, 17, 8⟩
/-- `EV_GPI` word 0 bits 16:13: WIN. -/
@[reducible] def F.EV_GPI_WIN : Fld := ⟨0x7848, 0, 13, 4⟩
/-- `EV_GPI` word 0 bits 12:3: HOLD. -/
@[reducible] def F.EV_GPI_HOLD : Fld := ⟨0x7848, 0, 3, 10⟩
/-- `EV_GPI` word 0 bits 2:0: RESERVED. -/
@[reducible] def F.EV_GPI_RESERVED : Fld := ⟨0x7848, 0, 0, 3⟩
/-- `EV_GPI_STAT` word 0 bits 63:60: STATE. -/
@[reducible] def F.EV_GPI_STAT_STATE : Fld := ⟨0x7850, 0, 60, 4⟩
/-- `EV_GPI_STAT` word 0 bits 59: LEVEL. -/
@[reducible] def F.EV_GPI_STAT_LEVEL : Fld := ⟨0x7850, 0, 59, 1⟩
/-- `EV_GPI_STAT` word 0 bits 31:0: EDGETIME. -/
@[reducible] def F.EV_GPI_STAT_EDGETIME : Fld := ⟨0x7850, 0, 0, 32⟩
/-- `EV_GPI_STAT` word 1 bits 63:32: QEDGES. -/
@[reducible] def F.EV_GPI_STAT_QEDGES : Fld := ⟨0x7850, 1, 32, 32⟩
/-- `EV_GPI_STAT` word 1 bits 31:16: STUCKS. -/
@[reducible] def F.EV_GPI_STAT_STUCKS : Fld := ⟨0x7850, 1, 16, 16⟩
/-- `EV_GPI_STAT` word 1 bits 15:0: CHATTERS. -/
@[reducible] def F.EV_GPI_STAT_CHATTERS : Fld := ⟨0x7850, 1, 0, 16⟩
/-- `TM_STATE` word 1 bits 31:28: STATE. -/
@[reducible] def F.TM_STATE_STATE : Fld := ⟨0x5000, 1, 28, 4⟩
/-- `TM_STATE` word 1 bits 27:24: SEL. -/
@[reducible] def F.TM_STATE_SEL : Fld := ⟨0x5000, 1, 24, 4⟩
/-- `TM_STATE` word 1 bits 23: FREQONLY. -/
@[reducible] def F.TM_STATE_FREQONLY : Fld := ⟨0x5000, 1, 23, 1⟩
/-- `TM_STATE` word 1 bits 22: SLEWING. -/
@[reducible] def F.TM_STATE_SLEWING : Fld := ⟨0x5000, 1, 22, 1⟩
/-- `TM_STATE` word 1 bits 21: HOVALID. -/
@[reducible] def F.TM_STATE_HOVALID : Fld := ⟨0x5000, 1, 21, 1⟩
/-- `TM_STATE` word 1 bits 20: AGEVALID. -/
@[reducible] def F.TM_STATE_AGEVALID : Fld := ⟨0x5000, 1, 20, 1⟩
/-- `TM_STATE` word 2 bits 10:0: HIST. -/
@[reducible] def F.TM_STATE_HIST : Fld := ⟨0x5000, 2, 0, 11⟩
/-- `TM_STATE` word 3 bits 10:0: IRQEN. -/
@[reducible] def F.TM_STATE_IRQEN : Fld := ⟨0x5000, 3, 0, 11⟩
/-- `TM_REF` word 0 bits 63: EN. -/
@[reducible] def F.TM_REF_EN : Fld := ⟨0x5010, 0, 63, 1⟩
/-- `TM_REF` word 0 bits 62:59: RANK. -/
@[reducible] def F.TM_REF_RANK : Fld := ⟨0x5010, 0, 59, 4⟩
/-- `TM_REF` word 0 bits 58:51: CLASS. -/
@[reducible] def F.TM_REF_CLASS : Fld := ⟨0x5010, 0, 51, 8⟩
/-- `TM_REF` word 0 bits 50:43: QUALTIME. -/
@[reducible] def F.TM_REF_QUALTIME : Fld := ⟨0x5010, 0, 43, 8⟩
/-- `TM_REF` word 0 bits 42:35: FREQWIN. -/
@[reducible] def F.TM_REF_FREQWIN : Fld := ⟨0x5010, 0, 35, 8⟩
/-- `TM_REF` word 0 bits 34:0: RESERVED. -/
@[reducible] def F.TM_REF_RESERVED : Fld := ⟨0x5010, 0, 0, 35⟩
/-- `TM_REF` word 1 bits 63:62: TYPE. -/
@[reducible] def F.TM_REF_TYPE : Fld := ⟨0x5010, 1, 62, 2⟩
/-- `TM_REF` word 1 bits 61: POL. -/
@[reducible] def F.TM_REF_POL : Fld := ⟨0x5010, 1, 61, 1⟩
/-- `TM_REF` word 1 bits 60:53: FORMAT. -/
@[reducible] def F.TM_REF_FORMAT : Fld := ⟨0x5010, 1, 53, 8⟩
/-- `TM_REF` word 1 bits 63:36: FHZ. -/
@[reducible] def F.TM_REF_FHZ : Fld := ⟨0x5010, 1, 36, 28⟩
/-- `TM_REF` word 1 bits 35: M1001. -/
@[reducible] def F.TM_REF_M1001 : Fld := ⟨0x5010, 1, 35, 1⟩
/-- `TM_REF` word 1 bits 63:61: DIE. -/
@[reducible] def F.TM_REF_DIE : Fld := ⟨0x5010, 1, 61, 3⟩
/-- `TM_REF` word 1 bits 60:58: SHROUD. -/
@[reducible] def F.TM_REF_SHROUD : Fld := ⟨0x5010, 1, 58, 3⟩
/-- `TM_REF` word 1 bits 31:0: DELAY. -/
@[reducible] def F.TM_REF_DELAY : Fld := ⟨0x5010, 1, 0, 32⟩
/-- `TM_REF_STAT` word 0 bits 63:60: QSTATE. -/
@[reducible] def F.TM_REF_STAT_QSTATE : Fld := ⟨0x5018, 0, 60, 4⟩
/-- `TM_REF_STAT` word 0 bits 59:56: CAUSE. -/
@[reducible] def F.TM_REF_STAT_CAUSE : Fld := ⟨0x5018, 0, 56, 4⟩
/-- `TM_REF_STAT` word 0 bits 55: SPLIT. -/
@[reducible] def F.TM_REF_STAT_SPLIT : Fld := ⟨0x5018, 0, 55, 1⟩
/-- `TM_REF_STAT` word 0 bits 54: STEPREF. -/
@[reducible] def F.TM_REF_STAT_STEPREF : Fld := ⟨0x5018, 0, 54, 1⟩
/-- `TM_REF_STAT` word 0 bits 53: DISAGREE. -/
@[reducible] def F.TM_REF_STAT_DISAGREE : Fld := ⟨0x5018, 0, 53, 1⟩
/-- `TM_REF_STAT` word 0 bits 52:45: QUALITY. -/
@[reducible] def F.TM_REF_STAT_QUALITY : Fld := ⟨0x5018, 0, 45, 8⟩
/-- `TM_REF_STAT` word 0 bits 31:0: FREQ. -/
@[reducible] def F.TM_REF_STAT_FREQ : Fld := ⟨0x5018, 0, 0, 32⟩
/-- `TM_REF_STAT` word 1 bits 63:32: OFFSET. -/
@[reducible] def F.TM_REF_STAT_OFFSET : Fld := ⟨0x5018, 1, 32, 32⟩
/-- `TM_REF_STAT` word 1 bits 31:16: REFUSED. -/
@[reducible] def F.TM_REF_STAT_REFUSED : Fld := ⟨0x5018, 1, 16, 16⟩
/-- `TM_REF_STAT` word 1 bits 15:0: DISQUALS. -/
@[reducible] def F.TM_REF_STAT_DISQUALS : Fld := ⟨0x5018, 1, 0, 16⟩
/-- `TM_PTP_PORT` word 0 bits 63:57: MAC. -/
@[reducible] def F.TM_PTP_PORT_MAC : Fld := ⟨0x5028, 0, 57, 7⟩
/-- `TM_PTP_PORT` word 0 bits 56:55: ROLE. -/
@[reducible] def F.TM_PTP_PORT_ROLE : Fld := ⟨0x5028, 0, 55, 2⟩
/-- `TM_PTP_PORT` word 0 bits 54:47: DOMAIN. -/
@[reducible] def F.TM_PTP_PORT_DOMAIN : Fld := ⟨0x5028, 0, 47, 8⟩
/-- `TM_PTP_PORT` word 0 bits 46: ONESTEP. -/
@[reducible] def F.TM_PTP_PORT_ONESTEP : Fld := ⟨0x5028, 0, 46, 1⟩
/-- `TM_PTP_PORT` word 0 bits 45: DREQUNI. -/
@[reducible] def F.TM_PTP_PORT_DREQUNI : Fld := ⟨0x5028, 0, 45, 1⟩
/-- `TM_PTP_PORT` word 0 bits 44:37: PRIO1. -/
@[reducible] def F.TM_PTP_PORT_PRIO1 : Fld := ⟨0x5028, 0, 37, 8⟩
/-- `TM_PTP_PORT` word 0 bits 36:29: PRIO2. -/
@[reducible] def F.TM_PTP_PORT_PRIO2 : Fld := ⟨0x5028, 0, 29, 8⟩
/-- `TM_PTP_PORT` word 0 bits 28:0: RESERVED. -/
@[reducible] def F.TM_PTP_PORT_RESERVED : Fld := ⟨0x5028, 0, 0, 29⟩
/-- `TM_PTP_STAT` word 0 bits 63:60: PSTATE. -/
@[reducible] def F.TM_PTP_STAT_PSTATE : Fld := ⟨0x5030, 0, 60, 4⟩
/-- `TM_PTP_STAT` word 0 bits 59:52: GMCLASS. -/
@[reducible] def F.TM_PTP_STAT_GMCLASS : Fld := ⟨0x5030, 0, 52, 8⟩
/-- `TM_PTP_STAT` word 0 bits 51:44: GMACC. -/
@[reducible] def F.TM_PTP_STAT_GMACC : Fld := ⟨0x5030, 0, 44, 8⟩
/-- `TM_PTP_STAT` word 0 bits 43:28: GMVAR. -/
@[reducible] def F.TM_PTP_STAT_GMVAR : Fld := ⟨0x5030, 0, 28, 16⟩
/-- `TM_PTP_STAT` word 0 bits 27:20: STEPS. -/
@[reducible] def F.TM_PTP_STAT_STEPS : Fld := ⟨0x5030, 0, 20, 8⟩
/-- `TM_PTP_STAT` word 0 bits 19:12: GMPRIO1. -/
@[reducible] def F.TM_PTP_STAT_GMPRIO1 : Fld := ⟨0x5030, 0, 12, 8⟩
/-- `TM_PTP_STAT` word 0 bits 11:4: GMPRIO2. -/
@[reducible] def F.TM_PTP_STAT_GMPRIO2 : Fld := ⟨0x5030, 0, 4, 8⟩
/-- `TM_PTP_STAT` word 1 bits 63:0: GMID. -/
@[reducible] def F.TM_PTP_STAT_GMID : Fld := ⟨0x5030, 1, 0, 64⟩
/-- `TM_PTP_STAT` word 2 bits 63:32: MPD. -/
@[reducible] def F.TM_PTP_STAT_MPD : Fld := ⟨0x5030, 2, 32, 32⟩
/-- `TM_PTP_STAT` word 2 bits 31:16: NOSTAMP. -/
@[reducible] def F.TM_PTP_STAT_NOSTAMP : Fld := ⟨0x5030, 2, 16, 16⟩
/-- `TM_PTP_STAT` word 2 bits 15:0: ANNTIMEOUT. -/
@[reducible] def F.TM_PTP_STAT_ANNTIMEOUT : Fld := ⟨0x5030, 2, 0, 16⟩
/-- `TM_SERVO` word 1 bits 31:16: KP. -/
@[reducible] def F.TM_SERVO_KP : Fld := ⟨0x5038, 1, 16, 16⟩
/-- `TM_SERVO` word 1 bits 15:0: KI. -/
@[reducible] def F.TM_SERVO_KI : Fld := ⟨0x5038, 1, 0, 16⟩
/-- `TM_SERVO` word 2 bits 31:0: STEPTHR. -/
@[reducible] def F.TM_SERVO_STEPTHR : Fld := ⟨0x5038, 2, 0, 32⟩
/-- `TM_SERVO` word 3 bits 31:0: LOCKTHR. -/
@[reducible] def F.TM_SERVO_LOCKTHR : Fld := ⟨0x5038, 3, 0, 32⟩
/-- `TM_SERVO` word 4 bits 15:0: AGREE. -/
@[reducible] def F.TM_SERVO_AGREE : Fld := ⟨0x5038, 4, 0, 16⟩
/-- `TM_SERVO` word 5 bits 15:0: SLEW. -/
@[reducible] def F.TM_SERVO_SLEW : Fld := ⟨0x5038, 5, 0, 16⟩
/-- `TM_SERVO` word 6 bits 31:0: JUMP. -/
@[reducible] def F.TM_SERVO_JUMP : Fld := ⟨0x5038, 6, 0, 32⟩
/-- `TM_HOLDOVER` word 1 bits 15:0: AVG. -/
@[reducible] def F.TM_HOLDOVER_AVG : Fld := ⟨0x5040, 1, 0, 16⟩
/-- `TM_HOLDOVER` word 2 bits 7:0: TSENSOR. -/
@[reducible] def F.TM_HOLDOVER_TSENSOR : Fld := ⟨0x5040, 2, 0, 8⟩
/-- `TM_HOLDOVER` word 3 bits 31:0: AGEING. -/
@[reducible] def F.TM_HOLDOVER_AGEING : Fld := ⟨0x5040, 3, 0, 32⟩
/-- `TM_HOLDOVER` word 4 bits 31:0: LEARNT. -/
@[reducible] def F.TM_HOLDOVER_LEARNT : Fld := ⟨0x5040, 4, 0, 32⟩
/-- `TM_HO_CURVE` word 0 bits 31:0: C. -/
@[reducible] def F.TM_HO_CURVE_C : Fld := ⟨0x5048, 0, 0, 32⟩
/-- `TM_STEP` word 0 bits 63:62: OP. -/
@[reducible] def F.TM_STEP_OP : Fld := ⟨0x5050, 0, 62, 2⟩
/-- `TM_STEP` word 0 bits 61:60: WHEN. -/
@[reducible] def F.TM_STEP_WHEN : Fld := ⟨0x5050, 0, 60, 2⟩
/-- `TM_STEP` word 0 bits 59:56: REF. -/
@[reducible] def F.TM_STEP_REF : Fld := ⟨0x5050, 0, 56, 4⟩
/-- `TM_STEP` word 0 bits 55:32: RESERVED. -/
@[reducible] def F.TM_STEP_RESERVED : Fld := ⟨0x5050, 0, 32, 24⟩
/-- `TM_STEP` word 0 bits 31:0: AMOUNT. -/
@[reducible] def F.TM_STEP_AMOUNT : Fld := ⟨0x5050, 0, 0, 32⟩
/-- `TM_STEP` word 1 bits 63:48: RESERVED1. -/
@[reducible] def F.TM_STEP_RESERVED1 : Fld := ⟨0x5050, 1, 48, 16⟩
/-- `TM_STEP` word 1 bits 47:0: SECONDS. -/
@[reducible] def F.TM_STEP_SECONDS : Fld := ⟨0x5050, 1, 0, 48⟩
/-- `TM_STEP` word 2 bits 63:30: RESERVED2. -/
@[reducible] def F.TM_STEP_RESERVED2 : Fld := ⟨0x5050, 2, 30, 34⟩
/-- `TM_STEP` word 2 bits 29:0: NANOSECONDS. -/
@[reducible] def F.TM_STEP_NANOSECONDS : Fld := ⟨0x5050, 2, 0, 30⟩
/-- `TM_STEP` word 3 bits 63:56: STATUS. -/
@[reducible] def F.TM_STEP_STATUS : Fld := ⟨0x5050, 3, 56, 8⟩
/-- `TM_STEP` word 3 bits 55:40: EPOCH. -/
@[reducible] def F.TM_STEP_EPOCH : Fld := ⟨0x5050, 3, 40, 16⟩
/-- `TM_OUT` word 0 bits 63:61: MODE. -/
@[reducible] def F.TM_OUT_MODE : Fld := ⟨0x5058, 0, 61, 3⟩
/-- `TM_OUT` word 0 bits 60: POL. -/
@[reducible] def F.TM_OUT_POL : Fld := ⟨0x5058, 0, 60, 1⟩
/-- `TM_OUT` word 0 bits 59:52: FORMAT. -/
@[reducible] def F.TM_OUT_FORMAT : Fld := ⟨0x5058, 0, 52, 8⟩
/-- `TM_OUT` word 0 bits 51:48: ALIGN. -/
@[reducible] def F.TM_OUT_ALIGN : Fld := ⟨0x5058, 0, 48, 4⟩
/-- `TM_OUT` word 0 bits 47:20: FHZ. -/
@[reducible] def F.TM_OUT_FHZ : Fld := ⟨0x5058, 0, 20, 28⟩
/-- `TM_OUT` word 0 bits 19: M1001. -/
@[reducible] def F.TM_OUT_M1001 : Fld := ⟨0x5058, 0, 19, 1⟩
/-- `TM_OUT` word 0 bits 18:11: WIDTH. -/
@[reducible] def F.TM_OUT_WIDTH : Fld := ⟨0x5058, 0, 11, 8⟩
/-- `TM_OUT` word 0 bits 10:0: RESERVED. -/
@[reducible] def F.TM_OUT_RESERVED : Fld := ⟨0x5058, 0, 0, 11⟩
/-- `TM_OUT` word 1 bits 63:32: OFFSET. -/
@[reducible] def F.TM_OUT_OFFSET : Fld := ⟨0x5058, 1, 32, 32⟩
/-- `TM_OUT` word 1 bits 31:0: RESERVED1. -/
@[reducible] def F.TM_OUT_RESERVED1 : Fld := ⟨0x5058, 1, 0, 32⟩
/-- `FW_STATE` word 0 bits 63:60: STATE. -/
@[reducible] def F.FW_STATE_STATE : Fld := ⟨0x8008, 0, 60, 4⟩
/-- `FW_STATE` word 0 bits 59: RUNHALF. -/
@[reducible] def F.FW_STATE_RUNHALF : Fld := ⟨0x8008, 0, 59, 1⟩
/-- `FW_STATE` word 0 bits 58: BOOTHALF. -/
@[reducible] def F.FW_STATE_BOOTHALF : Fld := ⟨0x8008, 0, 58, 1⟩
/-- `FW_STATE` word 0 bits 57: FALLBACK. -/
@[reducible] def F.FW_STATE_FALLBACK : Fld := ⟨0x8008, 0, 57, 1⟩
/-- `FW_STATE` word 0 bits 56: TRYBOOT. -/
@[reducible] def F.FW_STATE_TRYBOOT : Fld := ⟨0x8008, 0, 56, 1⟩
/-- `FW_STATE` word 0 bits 55:48: CAUSE. -/
@[reducible] def F.FW_STATE_CAUSE : Fld := ⟨0x8008, 0, 48, 8⟩
/-- `FW_STATE` word 0 bits 47:32: SCHEMA. -/
@[reducible] def F.FW_STATE_SCHEMA : Fld := ⟨0x8008, 0, 32, 16⟩
/-- `FW_STATE` word 0 bits 31:0: VERSION. -/
@[reducible] def F.FW_STATE_VERSION : Fld := ⟨0x8008, 0, 0, 32⟩
/-- `FW_STATE` word 1 bits 63:32: STAGEDVER. -/
@[reducible] def F.FW_STATE_STAGEDVER : Fld := ⟨0x8008, 1, 32, 32⟩
/-- `FW_STATE` word 1 bits 31:16: STAGEDSCHEMA. -/
@[reducible] def F.FW_STATE_STAGEDSCHEMA : Fld := ⟨0x8008, 1, 16, 16⟩
/-- `FW_STATE` word 2 bits 63:32: ACTSEC. -/
@[reducible] def F.FW_STATE_ACTSEC : Fld := ⟨0x8008, 2, 32, 32⟩
/-- `FW_STATE` word 2 bits 31:0: ACTNS. -/
@[reducible] def F.FW_STATE_ACTNS : Fld := ⟨0x8008, 2, 0, 32⟩
/-- `FW_CMD` word 0 bits 63:60: OP. -/
@[reducible] def F.FW_CMD_OP : Fld := ⟨0x8010, 0, 60, 4⟩
/-- `FW_CMD` word 0 bits 59:58: WHEN. -/
@[reducible] def F.FW_CMD_WHEN : Fld := ⟨0x8010, 0, 58, 2⟩
/-- `FW_CMD` word 0 bits 57: AUTOCOMMIT. -/
@[reducible] def F.FW_CMD_AUTOCOMMIT : Fld := ⟨0x8010, 0, 57, 1⟩
/-- `FW_CMD` word 0 bits 56:49: FMT. -/
@[reducible] def F.FW_CMD_FMT : Fld := ⟨0x8010, 0, 49, 8⟩
/-- `FW_CMD` word 0 bits 48:0: RESERVED. -/
@[reducible] def F.FW_CMD_RESERVED : Fld := ⟨0x8010, 0, 0, 49⟩
/-- `FW_CMD` word 1 bits 63:48: RESERVED1. -/
@[reducible] def F.FW_CMD_RESERVED1 : Fld := ⟨0x8010, 1, 48, 16⟩
/-- `FW_CMD` word 1 bits 47:0: SECONDS. -/
@[reducible] def F.FW_CMD_SECONDS : Fld := ⟨0x8010, 1, 0, 48⟩
/-- `FW_CMD` word 2 bits 63:30: RESERVED2. -/
@[reducible] def F.FW_CMD_RESERVED2 : Fld := ⟨0x8010, 2, 30, 34⟩
/-- `FW_CMD` word 2 bits 29:0: NANOSECONDS. -/
@[reducible] def F.FW_CMD_NANOSECONDS : Fld := ⟨0x8010, 2, 0, 30⟩
/-- `FW_SIG_POLICY` word 0 bits 7:0: POLICY. -/
@[reducible] def F.FW_SIG_POLICY_POLICY : Fld := ⟨0x8018, 0, 0, 8⟩
/-- `FW_COUNTERS` word 0 bits 31:28: RSAREV. -/
@[reducible] def F.FW_COUNTERS_RSAREV : Fld := ⟨0x8020, 0, 28, 4⟩
/-- `FW_COUNTERS` word 0 bits 27:24: PQREV. -/
@[reducible] def F.FW_COUNTERS_PQREV : Fld := ⟨0x8020, 0, 24, 4⟩
/-- `FW_COUNTERS` word 0 bits 23:16: LOADER. -/
@[reducible] def F.FW_COUNTERS_LOADER : Fld := ⟨0x8020, 0, 16, 8⟩
/-- `FW_COUNTERS` word 0 bits 15:8: MAIN. -/
@[reducible] def F.FW_COUNTERS_MAIN : Fld := ⟨0x8020, 0, 8, 8⟩
/-- `FW_COUNTERS` word 0 bits 7:0: ENGINES. -/
@[reducible] def F.FW_COUNTERS_ENGINES : Fld := ⟨0x8020, 0, 0, 8⟩
/-- `FW_ATTEST` word 0 bits 63:56: TYPE. -/
@[reducible] def F.FW_ATTEST_TYPE : Fld := ⟨0x8038, 0, 56, 8⟩
/-- `FW_ATTEST` word 0 bits 55:48: SVN. -/
@[reducible] def F.FW_ATTEST_SVN : Fld := ⟨0x8038, 0, 48, 8⟩
/-- `FW_ATTEST` word 0 bits 47: HALF. -/
@[reducible] def F.FW_ATTEST_HALF : Fld := ⟨0x8038, 0, 47, 1⟩
/-- `FW_ATTEST` word 0 bits 46:44: EVENT. -/
@[reducible] def F.FW_ATTEST_EVENT : Fld := ⟨0x8038, 0, 44, 3⟩
/-- `FW_ATTEST` word 0 bits 31:0: VERSION. -/
@[reducible] def F.FW_ATTEST_VERSION : Fld := ⟨0x8038, 0, 0, 32⟩
/-- `FW_ATTEST` word 1 bits 63:32: SECONDS. -/
@[reducible] def F.FW_ATTEST_SECONDS : Fld := ⟨0x8038, 1, 32, 32⟩
/-- `FW_ATTEST` word 1 bits 31:0: NANOSECONDS. -/
@[reducible] def F.FW_ATTEST_NANOSECONDS : Fld := ⟨0x8038, 1, 0, 32⟩
/-- `FW_LIFECYCLE` word 1 bits 7:0: STATE. -/
@[reducible] def F.FW_LIFECYCLE_STATE : Fld := ⟨0x8050, 1, 0, 8⟩
/-- `PW_DOMAIN` word 0 bits 15:14: CMD. -/
@[reducible] def F.PW_DOMAIN_CMD : Fld := ⟨0x8810, 0, 14, 2⟩
/-- `PW_DOMAIN` word 0 bits 11:8: STATE. -/
@[reducible] def F.PW_DOMAIN_STATE : Fld := ⟨0x8810, 0, 8, 4⟩
/-- `PW_SUPPLY` word 0 bits 13:8: NOW. -/
@[reducible] def F.PW_SUPPLY_NOW : Fld := ⟨0x8808, 0, 8, 6⟩
/-- `PW_SUPPLY` word 0 bits 5:0: SEEN. -/
@[reducible] def F.PW_SUPPLY_SEEN : Fld := ⟨0x8808, 0, 0, 6⟩
/-- `PW_THERM` word 0 bits 7:0: THRESHOLD. -/
@[reducible] def F.PW_THERM_THRESHOLD : Fld := ⟨0x8820, 0, 0, 8⟩
/-- `PW_MON` word 0 bits 63:60: KIND. -/
@[reducible] def F.PW_MON_KIND : Fld := ⟨0x8818, 0, 60, 4⟩
/-- `PW_MON` word 0 bits 59:56: STATUS. -/
@[reducible] def F.PW_MON_STATUS : Fld := ⟨0x8818, 0, 56, 4⟩
/-- `PW_MON` word 0 bits 47:32: VALUE. -/
@[reducible] def F.PW_MON_VALUE : Fld := ⟨0x8818, 0, 32, 16⟩
/-- `PW_MON` word 0 bits 31:16: LOW. -/
@[reducible] def F.PW_MON_LOW : Fld := ⟨0x8818, 0, 16, 16⟩
/-- `PW_MON` word 0 bits 15:0: HIGH. -/
@[reducible] def F.PW_MON_HIGH : Fld := ⟨0x8818, 0, 0, 16⟩
/-- `PW_PACE` word 0 bits 63:48: RATED. -/
@[reducible] def F.PW_PACE_RATED : Fld := ⟨0x8828, 0, 48, 16⟩
/-- `PW_PACE` word 0 bits 47:32: CONFIG. -/
@[reducible] def F.PW_PACE_CONFIG : Fld := ⟨0x8828, 0, 32, 16⟩
/-- `PW_PACE` word 0 bits 31:29: REGION. -/
@[reducible] def F.PW_PACE_REGION : Fld := ⟨0x8828, 0, 29, 3⟩
/-- `PW_PACE` word 0 bits 28: ESTIMATED. -/
@[reducible] def F.PW_PACE_ESTIMATED : Fld := ⟨0x8828, 0, 28, 1⟩
/-- `PW_PACE` word 0 bits 23:16: LOAD. -/
@[reducible] def F.PW_PACE_LOAD : Fld := ⟨0x8828, 0, 16, 8⟩
/-- `PW_PACE` word 1 bits 63:48: PROJ10. -/
@[reducible] def F.PW_PACE_PROJ10 : Fld := ⟨0x8828, 1, 48, 16⟩
/-- `PW_PACE` word 1 bits 47:32: PROJ30. -/
@[reducible] def F.PW_PACE_PROJ30 : Fld := ⟨0x8828, 1, 32, 16⟩
/-- `PW_PACE` word 1 bits 31:16: YEARS125. -/
@[reducible] def F.PW_PACE_YEARS125 : Fld := ⟨0x8828, 1, 16, 16⟩
/-- `PW_PACE` word 1 bits 15:0: YEARS110. -/
@[reducible] def F.PW_PACE_YEARS110 : Fld := ⟨0x8828, 1, 0, 16⟩
/-- `PW_DROOP` word 0 bits 63:48: MINS. -/
@[reducible] def F.PW_DROOP_MINS : Fld := ⟨0x8830, 0, 48, 16⟩
/-- `PW_DROOP` word 0 bits 47:32: MINLEAD. -/
@[reducible] def F.PW_DROOP_MINLEAD : Fld := ⟨0x8830, 0, 32, 16⟩
/-- `PW_DROOP` word 0 bits 31:16: LONGEST. -/
@[reducible] def F.PW_DROOP_LONGEST : Fld := ⟨0x8830, 0, 16, 16⟩
/-- `PW_DROOP` word 1 bits 63:48: DROOPS. -/
@[reducible] def F.PW_DROOP_DROOPS : Fld := ⟨0x8830, 1, 48, 16⟩
/-- `PW_DROOP` word 1 bits 47:32: LOSSES. -/
@[reducible] def F.PW_DROOP_LOSSES : Fld := ⟨0x8830, 1, 32, 16⟩
/-- `PW_PLAN` word 0 bits 63:60: STATE. -/
@[reducible] def F.PW_PLAN_STATE : Fld := ⟨0x8838, 0, 60, 4⟩
/-- `PW_PLAN` word 0 bits 59:56: RESULT. -/
@[reducible] def F.PW_PLAN_RESULT : Fld := ⟨0x8838, 0, 56, 4⟩
/-- `PW_PLAN` word 0 bits 55:53: DIE. -/
@[reducible] def F.PW_PLAN_DIE : Fld := ⟨0x8838, 0, 53, 3⟩
/-- `PW_PLAN` word 0 bits 52:46: ITEMS. -/
@[reducible] def F.PW_PLAN_ITEMS : Fld := ⟨0x8838, 0, 46, 7⟩
/-- `PW_PLAN` word 0 bits 31:16: PLAN. -/
@[reducible] def F.PW_PLAN_PLAN : Fld := ⟨0x8838, 0, 16, 16⟩
/-- `PW_PLAN` word 0 bits 15:0: MARGIN. -/
@[reducible] def F.PW_PLAN_MARGIN : Fld := ⟨0x8838, 0, 0, 16⟩
/-- `PW_SHED` word 0 bits 31: LAYERS. -/
@[reducible] def F.PW_SHED_LAYERS : Fld := ⟨0x8848, 0, 31, 1⟩
/-- `PW_SHED` word 0 bits 30: FSYNC. -/
@[reducible] def F.PW_SHED_FSYNC : Fld := ⟨0x8848, 0, 30, 1⟩
/-- `PW_KEEP` word 0 bits 0: KEEP. -/
@[reducible] def F.PW_KEEP_KEEP : Fld := ⟨0x884C, 0, 0, 1⟩
/-- `PW_VCORE` word 1 bits 15:0: SETPOINT. -/
@[reducible] def F.PW_VCORE_SETPOINT : Fld := ⟨0x8840, 1, 0, 16⟩
/-- `PW_VCORE` word 2 bits 15:0: TARGET. -/
@[reducible] def F.PW_VCORE_TARGET : Fld := ⟨0x8840, 2, 0, 16⟩
/-- `PW_VCORE` word 3 bits 15:0: NOW. -/
@[reducible] def F.PW_VCORE_NOW : Fld := ⟨0x8840, 3, 0, 16⟩
/-- `PW_VCORE` word 4 bits 7:0: STATE. -/
@[reducible] def F.PW_VCORE_STATE : Fld := ⟨0x8840, 4, 0, 8⟩
/-- `PW_VCORE` word 5 bits 7:0: PMBADDR. -/
@[reducible] def F.PW_VCORE_PMBADDR : Fld := ⟨0x8840, 5, 0, 8⟩
/-- `PW_AGE` word 0 bits 63:32: LIFEH. -/
@[reducible] def F.PW_AGE_LIFEH : Fld := ⟨0x8850, 0, 32, 32⟩
/-- `PW_AGE` word 0 bits 31:16: SHIFT. -/
@[reducible] def F.PW_AGE_SHIFT : Fld := ⟨0x8850, 0, 16, 16⟩
/-- `PW_AGE` word 0 bits 15:0: RATE. -/
@[reducible] def F.PW_AGE_RATE : Fld := ⟨0x8850, 0, 0, 16⟩
/-- `PW_AGE` word 1 bits 63:32: POWERH. -/
@[reducible] def F.PW_AGE_POWERH : Fld := ⟨0x8850, 1, 32, 32⟩
/-- `PW_AGE` word 1 bits 31:0: HOTH. -/
@[reducible] def F.PW_AGE_HOTH : Fld := ⟨0x8850, 1, 0, 32⟩
/-- `MM_WIPE_POLICY` word 0 bits 7:0: POLICY. -/
@[reducible] def F.MM_WIPE_POLICY_POLICY : Fld := ⟨0x7030, 0, 0, 8⟩
/-- `IC_TX_LEAD` word 0 bits 7:0: LEAD. -/
@[reducible] def F.IC_TX_LEAD_LEAD : Fld := ⟨0x6840, 0, 0, 8⟩
/-- `XP_QUEUE` word 0 bits 31:0: FREE. -/
@[reducible] def F.XP_QUEUE_FREE : Fld := ⟨0x2008, 0, 0, 32⟩
/-- `XP_QUEUE` word 1 bits 31:0: OPEN. -/
@[reducible] def F.XP_QUEUE_OPEN : Fld := ⟨0x2008, 1, 0, 32⟩
/-- `XP_QUEUE` word 2 bits 31:0: HELD. -/
@[reducible] def F.XP_QUEUE_HELD : Fld := ⟨0x2008, 2, 0, 32⟩
/-- `XP_QUEUE` word 3 bits 31:0: NEXT_FREE. -/
@[reducible] def F.XP_QUEUE_NEXT_FREE : Fld := ⟨0x2008, 3, 0, 32⟩
/-- `XP_QUEUE` word 4 bits 31:0: DONE. -/
@[reducible] def F.XP_QUEUE_DONE : Fld := ⟨0x2008, 4, 0, 32⟩
/-- `XP_QUEUE` word 5 bits 31:0: LATE. -/
@[reducible] def F.XP_QUEUE_LATE : Fld := ⟨0x2008, 5, 0, 32⟩
/-- `XP_QUEUE` word 6 bits 31:0: FAILED. -/
@[reducible] def F.XP_QUEUE_FAILED : Fld := ⟨0x2008, 6, 0, 32⟩
/-- `XP_REFUSED` word 0 bits 63:56: STATUS. -/
@[reducible] def F.XP_REFUSED_STATUS : Fld := ⟨0x2009, 0, 56, 8⟩
/-- `XP_REFUSED` word 0 bits 55:52: OBJ. -/
@[reducible] def F.XP_REFUSED_OBJ : Fld := ⟨0x2009, 0, 52, 4⟩
/-- `XP_REFUSED` word 0 bits 47:32: COUNT. -/
@[reducible] def F.XP_REFUSED_COUNT : Fld := ⟨0x2009, 0, 32, 16⟩
/-- `XP_REFUSED` word 0 bits 31:0: ELEMENT. -/
@[reducible] def F.XP_REFUSED_ELEMENT : Fld := ⟨0x2009, 0, 0, 32⟩
/-- `XP_TAKE` word 0 bits 63:62: OP. -/
@[reducible] def F.XP_TAKE_OP : Fld := ⟨0x2010, 0, 62, 2⟩
/-- `XP_TAKE` word 0 bits 61:48: DEST. -/
@[reducible] def F.XP_TAKE_DEST : Fld := ⟨0x2010, 0, 48, 14⟩
/-- `XP_TAKE` word 0 bits 47:34: SRC. -/
@[reducible] def F.XP_TAKE_SRC : Fld := ⟨0x2010, 0, 34, 14⟩
/-- `XP_TAKE` word 0 bits 33:22: SALVO. -/
@[reducible] def F.XP_TAKE_SALVO : Fld := ⟨0x2010, 0, 22, 12⟩
/-- `XP_TAKE` word 0 bits 21:20: WHEN. -/
@[reducible] def F.XP_TAKE_WHEN : Fld := ⟨0x2010, 0, 20, 2⟩
/-- `XP_TAKE` word 0 bits 19: AFOLLOW. -/
@[reducible] def F.XP_TAKE_AFOLLOW : Fld := ⟨0x2010, 0, 19, 1⟩
/-- `XP_TAKE` word 0 bits 18: GANG. -/
@[reducible] def F.XP_TAKE_GANG : Fld := ⟨0x2010, 0, 18, 1⟩
/-- `XP_TAKE` word 0 bits 17: FIELD. -/
@[reducible] def F.XP_TAKE_FIELD : Fld := ⟨0x2010, 0, 17, 1⟩
/-- `XP_TAKE` word 0 bits 16: RESERVED. -/
@[reducible] def F.XP_TAKE_RESERVED : Fld := ⟨0x2010, 0, 16, 1⟩
/-- `XP_TAKE` word 0 bits 15:0: HTAG. -/
@[reducible] def F.XP_TAKE_HTAG : Fld := ⟨0x2010, 0, 0, 16⟩
/-- `XP_TAKE` word 1 bits 63:32: WHEN_HI. -/
@[reducible] def F.XP_TAKE_WHEN_HI : Fld := ⟨0x2010, 1, 32, 32⟩
/-- `XP_TAKE` word 1 bits 31:0: WHEN_LO. -/
@[reducible] def F.XP_TAKE_WHEN_LO : Fld := ⟨0x2010, 1, 0, 32⟩
/-- `XP_TAKE` word 2 bits 63:56: STATUS. -/
@[reducible] def F.XP_TAKE_STATUS : Fld := ⟨0x2010, 2, 56, 8⟩
/-- `XP_TAKE` word 2 bits 51:48: CTX. -/
@[reducible] def F.XP_TAKE_CTX : Fld := ⟨0x2010, 2, 48, 4⟩
/-- `XP_TAKE` word 2 bits 47:16: LANDED. -/
@[reducible] def F.XP_TAKE_LANDED : Fld := ⟨0x2010, 2, 16, 32⟩
/-- `XP_TAKE` word 2 bits 15:0: MARGIN. -/
@[reducible] def F.XP_TAKE_MARGIN : Fld := ⟨0x2010, 2, 0, 16⟩
/-- `XP_SALVO` word 0 bits 63:62: OP. -/
@[reducible] def F.XP_SALVO_OP : Fld := ⟨0x2020, 0, 62, 2⟩
/-- `XP_SALVO` word 0 bits 61:60: WHEN. -/
@[reducible] def F.XP_SALVO_WHEN : Fld := ⟨0x2020, 0, 60, 2⟩
/-- `XP_SALVO` word 0 bits 59: FIELD. -/
@[reducible] def F.XP_SALVO_FIELD : Fld := ⟨0x2020, 0, 59, 1⟩
/-- `XP_SALVO` word 0 bits 58:16: RESERVED. -/
@[reducible] def F.XP_SALVO_RESERVED : Fld := ⟨0x2020, 0, 16, 43⟩
/-- `XP_SALVO` word 0 bits 15:0: COUNT. -/
@[reducible] def F.XP_SALVO_COUNT : Fld := ⟨0x2020, 0, 0, 16⟩
/-- `XP_SALVO` word 2 bits 63:60: STATE. -/
@[reducible] def F.XP_SALVO_STATE : Fld := ⟨0x2020, 2, 60, 4⟩
/-- `XP_SALVO` word 2 bits 59:56: OWNER. -/
@[reducible] def F.XP_SALVO_OWNER : Fld := ⟨0x2020, 2, 56, 4⟩
/-- `XP_SALVO` word 2 bits 55:48: RESULT. -/
@[reducible] def F.XP_SALVO_RESULT : Fld := ⟨0x2020, 2, 48, 8⟩
/-- `XP_SALVO` word 2 bits 47:32: STAGED. -/
@[reducible] def F.XP_SALVO_STAGED : Fld := ⟨0x2020, 2, 32, 16⟩
/-- `XP_SALVO` word 2 bits 31:16: LANDED. -/
@[reducible] def F.XP_SALVO_LANDED : Fld := ⟨0x2020, 2, 16, 16⟩
/-- `XP_SALVO` word 2 bits 15:0: CULPRIT. -/
@[reducible] def F.XP_SALVO_CULPRIT : Fld := ⟨0x2020, 2, 0, 16⟩
/-- `XP_DST` word 0 bits 63: VALID. -/
@[reducible] def F.XP_DST_VALID : Fld := ⟨0x2030, 0, 63, 1⟩
/-- `XP_DST` word 0 bits 62: SCHED. -/
@[reducible] def F.XP_DST_SCHED : Fld := ⟨0x2030, 0, 62, 1⟩
/-- `XP_DST` word 0 bits 61:48: LIVE. -/
@[reducible] def F.XP_DST_LIVE : Fld := ⟨0x2030, 0, 48, 14⟩
/-- `XP_DST` word 0 bits 47:34: NEXT. -/
@[reducible] def F.XP_DST_NEXT : Fld := ⟨0x2030, 0, 34, 14⟩
/-- `XP_DST` word 0 bits 33:18: ENTRY. -/
@[reducible] def F.XP_DST_ENTRY : Fld := ⟨0x2030, 0, 18, 16⟩
/-- `XP_DST` word 0 bits 15:0: LANDED. -/
@[reducible] def F.XP_DST_LANDED : Fld := ⟨0x2030, 0, 0, 16⟩
/-- `XP_REBUILD_WAIT` word 0 bits 7:0: FRAMES. -/
@[reducible] def F.XP_REBUILD_WAIT_FRAMES : Fld := ⟨0x2038, 0, 0, 8⟩
/-- `ES_PORT` word 0 bits 63: VALID. -/
@[reducible] def F.ES_PORT_VALID : Fld := ⟨0x2810, 0, 63, 1⟩
/-- `ES_PORT` word 0 bits 62: GANG. -/
@[reducible] def F.ES_PORT_GANG : Fld := ⟨0x2810, 0, 62, 1⟩
/-- `ES_PORT` word 0 bits 61:60: DIV. -/
@[reducible] def F.ES_PORT_DIV : Fld := ⟨0x2810, 0, 60, 2⟩
/-- `ES_PORT` word 0 bits 59:56: ACH. -/
@[reducible] def F.ES_PORT_ACH : Fld := ⟨0x2810, 0, 56, 4⟩
/-- `ES_PORT` word 0 bits 55:48: FORMAT. -/
@[reducible] def F.ES_PORT_FORMAT : Fld := ⟨0x2810, 0, 48, 8⟩
/-- `ES_PORT` word 0 bits 47:45: DIE. -/
@[reducible] def F.ES_PORT_DIE : Fld := ⟨0x2810, 0, 45, 3⟩
/-- `ES_PORT` word 0 bits 44:39: LANE. -/
@[reducible] def F.ES_PORT_LANE : Fld := ⟨0x2810, 0, 39, 6⟩
/-- `ES_PORT` word 0 bits 38: LOCAL. -/
@[reducible] def F.ES_PORT_LOCAL : Fld := ⟨0x2810, 0, 38, 1⟩
/-- `ES_PORT` word 0 bits 37:24: TAG. -/
@[reducible] def F.ES_PORT_TAG : Fld := ⟨0x2810, 0, 24, 14⟩
/-- `ES_PORT` word 0 bits 23:0: SLOTMASK. -/
@[reducible] def F.ES_PORT_SLOTMASK : Fld := ⟨0x2810, 0, 0, 24⟩
/-- `ES_CAL_CTRL` word 1 bits 31:28: STATE. -/
@[reducible] def F.ES_CAL_CTRL_STATE : Fld := ⟨0x2848, 1, 28, 4⟩
/-- `ES_CAL_CTRL` word 1 bits 23:16: CAUSE. -/
@[reducible] def F.ES_CAL_CTRL_CAUSE : Fld := ⟨0x2848, 1, 16, 8⟩
/-- `ES_CAL_CTRL` word 1 bits 15:0: PUBLISHED. -/
@[reducible] def F.ES_CAL_CTRL_PUBLISHED : Fld := ⟨0x2848, 1, 0, 16⟩
/-- `ES_CAL_CTRL` word 3 bits 31:0: ELEMENT. -/
@[reducible] def F.ES_CAL_CTRL_ELEMENT : Fld := ⟨0x2848, 3, 0, 32⟩
/-- `ES_CALENDAR` word 0 bits 31: VALID. -/
@[reducible] def F.ES_CALENDAR_VALID : Fld := ⟨0x2840, 0, 31, 1⟩
/-- `ES_CALENDAR` word 0 bits 28:24: ORDINAL. -/
@[reducible] def F.ES_CALENDAR_ORDINAL : Fld := ⟨0x2840, 0, 24, 5⟩
/-- `ES_CALENDAR` word 0 bits 13:0: PORT. -/
@[reducible] def F.ES_CALENDAR_PORT : Fld := ⟨0x2840, 0, 0, 14⟩
/-- `ES_RX_COUNTS` word 0 bits 31:0: DATA_CRC. -/
@[reducible] def F.ES_RX_COUNTS_DATA_CRC : Fld := ⟨0x2858, 0, 0, 32⟩
/-- `ES_RX_COUNTS` word 1 bits 31:0: SHEET_HEADER. -/
@[reducible] def F.ES_RX_COUNTS_SHEET_HEADER : Fld := ⟨0x2858, 1, 0, 32⟩
/-- `ES_RX_COUNTS` word 2 bits 31:0: HDR_CHECK. -/
@[reducible] def F.ES_RX_COUNTS_HDR_CHECK : Fld := ⟨0x2858, 2, 0, 32⟩
/-- `ES_RX_COUNTS` word 3 bits 31:0: HUNT. -/
@[reducible] def F.ES_RX_COUNTS_HUNT : Fld := ⟨0x2858, 3, 0, 32⟩
/-- `ES_RX_COUNTS` word 4 bits 31:0: WORDS_HUNTED. -/
@[reducible] def F.ES_RX_COUNTS_WORDS_HUNTED : Fld := ⟨0x2858, 4, 0, 32⟩
/-- `ES_RX_COUNTS` word 5 bits 31:0: TAG_MISMATCH. -/
@[reducible] def F.ES_RX_COUNTS_TAG_MISMATCH : Fld := ⟨0x2858, 5, 0, 32⟩
/-- `ES_RX_COUNTS` word 6 bits 31:0: FORMAT_MISMATCH. -/
@[reducible] def F.ES_RX_COUNTS_FORMAT_MISMATCH : Fld := ⟨0x2858, 6, 0, 32⟩
/-- `ES_RX_COUNTS` word 7 bits 31:0: CAL_SKEW. -/
@[reducible] def F.ES_RX_COUNTS_CAL_SKEW : Fld := ⟨0x2858, 7, 0, 32⟩
/-- `AU_SRC` word 0 bits 31: VALID. -/
@[reducible] def F.AU_SRC_VALID : Fld := ⟨0x3010, 0, 31, 1⟩
/-- `AU_SRC` word 0 bits 30: NPCM. -/
@[reducible] def F.AU_SRC_NPCM : Fld := ⟨0x3010, 0, 30, 1⟩
/-- `AU_SRC` word 0 bits 29:14: RESERVED. -/
@[reducible] def F.AU_SRC_RESERVED : Fld := ⟨0x3010, 0, 14, 16⟩
/-- `AU_SRC` word 0 bits 13:0: ENDPOINT. -/
@[reducible] def F.AU_SRC_ENDPOINT : Fld := ⟨0x3010, 0, 0, 14⟩
/-- `AU_DST` word 0 bits 63:62: OP. -/
@[reducible] def F.AU_DST_OP : Fld := ⟨0x3020, 0, 62, 2⟩
/-- `AU_DST` word 0 bits 61:50: SALVO. -/
@[reducible] def F.AU_DST_SALVO : Fld := ⟨0x3020, 0, 50, 12⟩
/-- `AU_DST` word 0 bits 49:32: RESERVED. -/
@[reducible] def F.AU_DST_RESERVED : Fld := ⟨0x3020, 0, 32, 18⟩
/-- `AU_DST` word 0 bits 31:0: AREF. -/
@[reducible] def F.AU_DST_AREF : Fld := ⟨0x3020, 0, 0, 32⟩
/-- `AU_DST` word 1 bits 63:62: TTYPE. -/
@[reducible] def F.AU_DST_TTYPE : Fld := ⟨0x3020, 1, 62, 2⟩
/-- `AU_DST` word 1 bits 61:48: TPORT. -/
@[reducible] def F.AU_DST_TPORT : Fld := ⟨0x3020, 1, 48, 14⟩
/-- `AU_DST` word 1 bits 47:34: TINDEX. -/
@[reducible] def F.AU_DST_TINDEX : Fld := ⟨0x3020, 1, 34, 14⟩
/-- `AU_DST` word 1 bits 33:26: GIDX. -/
@[reducible] def F.AU_DST_GIDX : Fld := ⟨0x3020, 1, 26, 8⟩
/-- `AU_DST` word 1 bits 25:24: METHOD. -/
@[reducible] def F.AU_DST_METHOD : Fld := ⟨0x3020, 1, 24, 2⟩
/-- `AU_DST` word 1 bits 23: DATA. -/
@[reducible] def F.AU_DST_DATA : Fld := ⟨0x3020, 1, 23, 1⟩
/-- `AU_DST` word 1 bits 22:17: RESERVED1. -/
@[reducible] def F.AU_DST_RESERVED1 : Fld := ⟨0x3020, 1, 17, 6⟩
/-- `AU_DST` word 1 bits 16:0: DELAY. -/
@[reducible] def F.AU_DST_DELAY : Fld := ⟨0x3020, 1, 0, 17⟩
/-- `AU_DST` word 2 bits 63:56: STATUS. -/
@[reducible] def F.AU_DST_STATUS : Fld := ⟨0x3020, 2, 56, 8⟩
/-- `AU_DST` word 2 bits 55: AUTO. -/
@[reducible] def F.AU_DST_AUTO : Fld := ⟨0x3020, 2, 55, 1⟩
/-- `AU_DST` word 2 bits 51:48: CTX. -/
@[reducible] def F.AU_DST_CTX : Fld := ⟨0x3020, 2, 48, 4⟩
/-- `AU_DST` word 2 bits 47:32: LANDED. -/
@[reducible] def F.AU_DST_LANDED : Fld := ⟨0x3020, 2, 32, 16⟩
/-- `AU_DST` word 2 bits 31:0: LIVE. -/
@[reducible] def F.AU_DST_LIVE : Fld := ⟨0x3020, 2, 0, 32⟩
/-- `AU_CTRL` word 0 bits 31:24: TFMT. -/
@[reducible] def F.AU_CTRL_TFMT : Fld := ⟨0x3008, 0, 24, 8⟩
/-- `AU_CTRL` word 0 bits 23:16: RESERVED. -/
@[reducible] def F.AU_CTRL_RESERVED : Fld := ⟨0x3008, 0, 16, 8⟩
/-- `AU_CTRL` word 0 bits 15:8: TIMEOUT. -/
@[reducible] def F.AU_CTRL_TIMEOUT : Fld := ⟨0x3008, 0, 8, 8⟩
/-- `AU_CTRL` word 0 bits 7:0: RESERVED2. -/
@[reducible] def F.AU_CTRL_RESERVED2 : Fld := ⟨0x3008, 0, 0, 8⟩
/-- `AU_EMB_DATA` word 0 bits 31:0: MASK. -/
@[reducible] def F.AU_EMB_DATA_MASK : Fld := ⟨0x3030, 0, 0, 32⟩
/-- `AU_GAIN` word 0 bits 15:0: GAIN. -/
@[reducible] def F.AU_GAIN_GAIN : Fld := ⟨0x3028, 0, 0, 16⟩
/-- `AU_USE` word 4 bits 31:0: ZC. -/
@[reducible] def F.AU_USE_ZC : Fld := ⟨0x3038, 4, 0, 32⟩
/-- `AU_USE` word 5 bits 31:0: TIMEOUT. -/
@[reducible] def F.AU_USE_TIMEOUT : Fld := ⟨0x3038, 5, 0, 32⟩
/-- `AU_USE` word 6 bits 31:0: CUTS. -/
@[reducible] def F.AU_USE_CUTS : Fld := ⟨0x3038, 6, 0, 32⟩
/-- `AU_USE` word 7 bits 31:0: SATURATED. -/
@[reducible] def F.AU_USE_SATURATED : Fld := ⟨0x3038, 7, 0, 32⟩
/-- `CM_LAYER` word 0 bits 63:62: CLASS. -/
@[reducible] def F.CM_LAYER_CLASS : Fld := ⟨0x3820, 0, 62, 2⟩
/-- `CM_LAYER` word 0 bits 61: STATIC. -/
@[reducible] def F.CM_LAYER_STATIC : Fld := ⟨0x3820, 0, 61, 1⟩
/-- `CM_LAYER` word 0 bits 60: STORE. -/
@[reducible] def F.CM_LAYER_STORE : Fld := ⟨0x3820, 0, 60, 1⟩
/-- `CM_LAYER` word 0 bits 59:58: REDUCE. -/
@[reducible] def F.CM_LAYER_REDUCE : Fld := ⟨0x3820, 0, 58, 2⟩
/-- `CM_LAYER` word 0 bits 57: COLOUR. -/
@[reducible] def F.CM_LAYER_COLOUR : Fld := ⟨0x3820, 0, 57, 1⟩
/-- `CM_LAYER` word 0 bits 56: RESERVED. -/
@[reducible] def F.CM_LAYER_RESERVED : Fld := ⟨0x3820, 0, 56, 1⟩
/-- `CM_LAYER` word 0 bits 55:42: SRC. -/
@[reducible] def F.CM_LAYER_SRC : Fld := ⟨0x3820, 0, 42, 14⟩
/-- `CM_LAYER` word 0 bits 41:32: OPAC. -/
@[reducible] def F.CM_LAYER_OPAC : Fld := ⟨0x3820, 0, 32, 10⟩
/-- `CM_LAYER` word 0 bits 31:24: RAMP. -/
@[reducible] def F.CM_LAYER_RAMP : Fld := ⟨0x3820, 0, 24, 8⟩
/-- `CM_LAYER` word 0 bits 23:16: SEQ. -/
@[reducible] def F.CM_LAYER_SEQ : Fld := ⟨0x3820, 0, 16, 8⟩
/-- `CM_LAYER` word 0 bits 15:12: REPEAT. -/
@[reducible] def F.CM_LAYER_REPEAT : Fld := ⟨0x3820, 0, 12, 4⟩
/-- `CM_LAYER` word 0 bits 11:10: FALLBACK. -/
@[reducible] def F.CM_LAYER_FALLBACK : Fld := ⟨0x3820, 0, 10, 2⟩
/-- `CM_LAYER` word 0 bits 9:0: FBREF. -/
@[reducible] def F.CM_LAYER_FBREF : Fld := ⟨0x3820, 0, 0, 10⟩
/-- `CM_LAYER` word 1 bits 63:51: X0. -/
@[reducible] def F.CM_LAYER_X0 : Fld := ⟨0x3820, 1, 51, 13⟩
/-- `CM_LAYER` word 1 bits 50:39: Y0. -/
@[reducible] def F.CM_LAYER_Y0 : Fld := ⟨0x3820, 1, 39, 12⟩
/-- `CM_LAYER` word 1 bits 38:26: WIDTH. -/
@[reducible] def F.CM_LAYER_WIDTH : Fld := ⟨0x3820, 1, 26, 13⟩
/-- `CM_LAYER` word 1 bits 25:14: HEIGHT. -/
@[reducible] def F.CM_LAYER_HEIGHT : Fld := ⟨0x3820, 1, 14, 12⟩
/-- `CM_LAYER` word 1 bits 13:0: RESERVED1. -/
@[reducible] def F.CM_LAYER_RESERVED1 : Fld := ⟨0x3820, 1, 0, 14⟩
/-- `CM_LAYER` word 2 bits 63:51: CL. -/
@[reducible] def F.CM_LAYER_CL : Fld := ⟨0x3820, 2, 51, 13⟩
/-- `CM_LAYER` word 2 bits 50:39: CT. -/
@[reducible] def F.CM_LAYER_CT : Fld := ⟨0x3820, 2, 39, 12⟩
/-- `CM_LAYER` word 2 bits 38:0: RESERVED2. -/
@[reducible] def F.CM_LAYER_RESERVED2 : Fld := ⟨0x3820, 2, 0, 39⟩
/-- `CM_LAYER` word 3 bits 63:60: STATE. -/
@[reducible] def F.CM_LAYER_STATE : Fld := ⟨0x3820, 3, 60, 4⟩
/-- `CM_LAYER` word 3 bits 59:58: PATH. -/
@[reducible] def F.CM_LAYER_PATH : Fld := ⟨0x3820, 3, 58, 2⟩
/-- `CM_LAYER` word 3 bits 57:48: OPACNOW. -/
@[reducible] def F.CM_LAYER_OPACNOW : Fld := ⟨0x3820, 3, 48, 10⟩
/-- `CM_LAYER` word 3 bits 47:32: COST. -/
@[reducible] def F.CM_LAYER_COST : Fld := ⟨0x3820, 3, 32, 16⟩
/-- `CM_LAYER` word 3 bits 31:16: TILES_STORED. -/
@[reducible] def F.CM_LAYER_TILES_STORED : Fld := ⟨0x3820, 3, 16, 16⟩
/-- `CM_LAYER` word 3 bits 15:0: TILES_UNIFORM. -/
@[reducible] def F.CM_LAYER_TILES_UNIFORM : Fld := ⟨0x3820, 3, 0, 16⟩
/-- `CM_LAYER` word 4 bits 63:48: REPEATS. -/
@[reducible] def F.CM_LAYER_REPEATS : Fld := ⟨0x3820, 4, 48, 16⟩
/-- `CM_LAYER` word 4 bits 47:32: FALLBACKS. -/
@[reducible] def F.CM_LAYER_FALLBACKS : Fld := ⟨0x3820, 4, 32, 16⟩
/-- `CM_LAYER` word 4 bits 31:16: LATETILES. -/
@[reducible] def F.CM_LAYER_LATETILES : Fld := ⟨0x3820, 4, 16, 16⟩
/-- `CM_IMAGE` word 0 bits 63: VALID. -/
@[reducible] def F.CM_IMAGE_VALID : Fld := ⟨0x3830, 0, 63, 1⟩
/-- `CM_IMAGE` word 0 bits 62:61: PIXFMT. -/
@[reducible] def F.CM_IMAGE_PIXFMT : Fld := ⟨0x3830, 0, 61, 2⟩
/-- `CM_IMAGE` word 0 bits 60:48: WIDTH. -/
@[reducible] def F.CM_IMAGE_WIDTH : Fld := ⟨0x3830, 0, 48, 13⟩
/-- `CM_IMAGE` word 0 bits 47:36: HEIGHT. -/
@[reducible] def F.CM_IMAGE_HEIGHT : Fld := ⟨0x3830, 0, 36, 12⟩
/-- `CM_IMAGE` word 0 bits 35:20: BASE. -/
@[reducible] def F.CM_IMAGE_BASE : Fld := ⟨0x3830, 0, 20, 16⟩
/-- `CM_IMAGE` word 0 bits 19:0: RESERVED. -/
@[reducible] def F.CM_IMAGE_RESERVED : Fld := ⟨0x3830, 0, 0, 20⟩
/-- `CM_PALETTE` word 0 bits 63:52: Y. -/
@[reducible] def F.CM_PALETTE_Y : Fld := ⟨0x3828, 0, 52, 12⟩
/-- `CM_PALETTE` word 0 bits 51:40: CB. -/
@[reducible] def F.CM_PALETTE_CB : Fld := ⟨0x3828, 0, 40, 12⟩
/-- `CM_PALETTE` word 0 bits 39:28: CR. -/
@[reducible] def F.CM_PALETTE_CR : Fld := ⟨0x3828, 0, 28, 12⟩
/-- `CM_PALETTE` word 0 bits 27:18: ALPHA. -/
@[reducible] def F.CM_PALETTE_ALPHA : Fld := ⟨0x3828, 0, 18, 10⟩
/-- `CM_PALETTE` word 0 bits 17:0: RESERVED. -/
@[reducible] def F.CM_PALETTE_RESERVED : Fld := ⟨0x3828, 0, 0, 18⟩
/-- `CM_HEAD` word 0 bits 63:62: OP. -/
@[reducible] def F.CM_HEAD_OP : Fld := ⟨0x3810, 0, 62, 2⟩
/-- `CM_HEAD` word 0 bits 61:50: SALVO. -/
@[reducible] def F.CM_HEAD_SALVO : Fld := ⟨0x3810, 0, 50, 12⟩
/-- `CM_HEAD` word 0 bits 49:9: RESERVED. -/
@[reducible] def F.CM_HEAD_RESERVED : Fld := ⟨0x3810, 0, 9, 41⟩
/-- `CM_HEAD` word 0 bits 8: CFG. -/
@[reducible] def F.CM_HEAD_CFG : Fld := ⟨0x3810, 0, 8, 1⟩
/-- `CM_HEAD` word 0 bits 7:0: LMASK. -/
@[reducible] def F.CM_HEAD_LMASK : Fld := ⟨0x3810, 0, 0, 8⟩
/-- `CM_HEAD` word 1 bits 63: ATTACH. -/
@[reducible] def F.CM_HEAD_ATTACH : Fld := ⟨0x3810, 1, 63, 1⟩
/-- `CM_HEAD` word 1 bits 62:49: DEST. -/
@[reducible] def F.CM_HEAD_DEST : Fld := ⟨0x3810, 1, 49, 14⟩
/-- `CM_HEAD` word 1 bits 48:47: METHOD. -/
@[reducible] def F.CM_HEAD_METHOD : Fld := ⟨0x3810, 1, 47, 2⟩
/-- `CM_HEAD` word 1 bits 46: OUT8. -/
@[reducible] def F.CM_HEAD_OUT8 : Fld := ⟨0x3810, 1, 46, 1⟩
/-- `CM_HEAD` word 1 bits 45: MATRIX. -/
@[reducible] def F.CM_HEAD_MATRIX : Fld := ⟨0x3810, 1, 45, 1⟩
/-- `CM_HEAD` word 1 bits 44:0: RESERVED1. -/
@[reducible] def F.CM_HEAD_RESERVED1 : Fld := ⟨0x3810, 1, 0, 45⟩
/-- `CM_HEAD` word 2 bits 63:56: STATUS. -/
@[reducible] def F.CM_HEAD_STATUS : Fld := ⟨0x3810, 2, 56, 8⟩
/-- `CM_HEAD` word 2 bits 55:52: FLAT. -/
@[reducible] def F.CM_HEAD_FLAT : Fld := ⟨0x3810, 2, 52, 4⟩
/-- `CM_HEAD` word 2 bits 51:48: CTX. -/
@[reducible] def F.CM_HEAD_CTX : Fld := ⟨0x3810, 2, 48, 4⟩
/-- `CM_HEAD` word 2 bits 47:32: LANDED. -/
@[reducible] def F.CM_HEAD_LANDED : Fld := ⟨0x3810, 2, 32, 16⟩
/-- `ES_ALIGN` word 0 bits 31:30: MODE. -/
@[reducible] def F.ES_ALIGN_MODE : Fld := ⟨0x2860, 0, 30, 2⟩
/-- `ES_ALIGN` word 0 bits 29:28: AUDIO. -/
@[reducible] def F.ES_ALIGN_AUDIO : Fld := ⟨0x2860, 0, 28, 2⟩
/-- `ES_ALIGN` word 0 bits 27:25: DEPTH. -/
@[reducible] def F.ES_ALIGN_DEPTH : Fld := ⟨0x2860, 0, 25, 3⟩
/-- `ES_ALIGN` word 0 bits 24: FREEZE. -/
@[reducible] def F.ES_ALIGN_FREEZE : Fld := ⟨0x2860, 0, 24, 1⟩
/-- `ES_ALIGN` word 0 bits 23:16: LOSSHOLD. -/
@[reducible] def F.ES_ALIGN_LOSSHOLD : Fld := ⟨0x2860, 0, 16, 8⟩
/-- `ES_ALIGN` word 0 bits 15:7: RESERVED. -/
@[reducible] def F.ES_ALIGN_RESERVED : Fld := ⟨0x2860, 0, 7, 9⟩
/-- `ES_ALIGN` word 0 bits 6:0: WIN. -/
@[reducible] def F.ES_ALIGN_WIN : Fld := ⟨0x2860, 0, 0, 7⟩
/-- `ES_ALIGN_STAT` word 0 bits 63:60: STATE. -/
@[reducible] def F.ES_ALIGN_STAT_STATE : Fld := ⟨0x2864, 0, 60, 4⟩
/-- `ES_ALIGN_STAT` word 0 bits 55:32: OFFSET. -/
@[reducible] def F.ES_ALIGN_STAT_OFFSET : Fld := ⟨0x2864, 0, 32, 24⟩
/-- `ES_ALIGN_STAT` word 0 bits 31:28: UNREAD. -/
@[reducible] def F.ES_ALIGN_STAT_UNREAD : Fld := ⟨0x2864, 0, 28, 4⟩
/-- `ES_ALIGN_STAT` word 0 bits 27:16: DELAY. -/
@[reducible] def F.ES_ALIGN_STAT_DELAY : Fld := ⟨0x2864, 0, 16, 12⟩
/-- `ES_ALIGN_STAT` word 0 bits 15:0: PICTURES. -/
@[reducible] def F.ES_ALIGN_STAT_PICTURES : Fld := ⟨0x2864, 0, 0, 16⟩
/-- `ES_ALIGN_STAT` word 1 bits 63:48: REPEATS. -/
@[reducible] def F.ES_ALIGN_STAT_REPEATS : Fld := ⟨0x2864, 1, 48, 16⟩
/-- `ES_ALIGN_STAT` word 1 bits 47:32: DROPS. -/
@[reducible] def F.ES_ALIGN_STAT_DROPS : Fld := ⟨0x2864, 1, 32, 16⟩
/-- `ES_ALIGN_STAT` word 1 bits 31:16: SLIPS. -/
@[reducible] def F.ES_ALIGN_STAT_SLIPS : Fld := ⟨0x2864, 1, 16, 16⟩
/-- `ES_ALIGN_STAT` word 1 bits 15:0: CONCEALED. -/
@[reducible] def F.ES_ALIGN_STAT_CONCEALED : Fld := ⟨0x2864, 1, 0, 16⟩
/-- `ES_ALIGN_GUARD` word 0 bits 7:0: GUARD. -/
@[reducible] def F.ES_ALIGN_GUARD_GUARD : Fld := ⟨0x286C, 0, 0, 8⟩
/-- `AU_TDM` word 0 bits 31: RXEN. -/
@[reducible] def F.AU_TDM_RXEN : Fld := ⟨0x3040, 0, 31, 1⟩
/-- `AU_TDM` word 0 bits 30: TXEN. -/
@[reducible] def F.AU_TDM_TXEN : Fld := ⟨0x3040, 0, 30, 1⟩
/-- `AU_TDM` word 0 bits 29:28: MODE. -/
@[reducible] def F.AU_TDM_MODE : Fld := ⟨0x3040, 0, 28, 2⟩
/-- `AU_TDM` word 0 bits 27:26: CLK. -/
@[reducible] def F.AU_TDM_CLK : Fld := ⟨0x3040, 0, 26, 2⟩
/-- `AU_TDM` word 0 bits 25: RATE. -/
@[reducible] def F.AU_TDM_RATE : Fld := ⟨0x3040, 0, 25, 1⟩
/-- `AU_TDM` word 0 bits 24:22: SLOTS. -/
@[reducible] def F.AU_TDM_SLOTS : Fld := ⟨0x3040, 0, 22, 3⟩
/-- `AU_TDM` word 0 bits 21:20: WIDTH. -/
@[reducible] def F.AU_TDM_WIDTH : Fld := ⟨0x3040, 0, 20, 2⟩
/-- `AU_TDM` word 0 bits 19: DLY. -/
@[reducible] def F.AU_TDM_DLY : Fld := ⟨0x3040, 0, 19, 1⟩
/-- `AU_TDM` word 0 bits 18: FSPOL. -/
@[reducible] def F.AU_TDM_FSPOL : Fld := ⟨0x3040, 0, 18, 1⟩
/-- `AU_TDM` word 0 bits 17: EDGE. -/
@[reducible] def F.AU_TDM_EDGE : Fld := ⟨0x3040, 0, 17, 1⟩
/-- `AU_TDM` word 0 bits 16: TRI. -/
@[reducible] def F.AU_TDM_TRI : Fld := ⟨0x3040, 0, 16, 1⟩
/-- `AU_TDM` word 0 bits 15:0: RESERVED. -/
@[reducible] def F.AU_TDM_RESERVED : Fld := ⟨0x3040, 0, 0, 16⟩
/-- `AU_AES` word 0 bits 31: RXEN. -/
@[reducible] def F.AU_AES_RXEN : Fld := ⟨0x3050, 0, 31, 1⟩
/-- `AU_AES` word 0 bits 30: TXEN. -/
@[reducible] def F.AU_AES_TXEN : Fld := ⟨0x3050, 0, 30, 1⟩
/-- `AU_AES` word 0 bits 29: RXFREE. -/
@[reducible] def F.AU_AES_RXFREE : Fld := ⟨0x3050, 0, 29, 1⟩
/-- `AU_AES` word 0 bits 28:0: RESERVED. -/
@[reducible] def F.AU_AES_RESERVED : Fld := ⟨0x3050, 0, 0, 29⟩
/-- `AU_TDM_MASK` word 0 bits 63:32: TXMASK. -/
@[reducible] def F.AU_TDM_MASK_TXMASK : Fld := ⟨0x3048, 0, 32, 32⟩
/-- `AU_TDM_MASK` word 0 bits 31:0: RXMASK. -/
@[reducible] def F.AU_TDM_MASK_RXMASK : Fld := ⟨0x3048, 0, 0, 32⟩
/-- `AU_START` word 0 bits 63:62: OP. -/
@[reducible] def F.AU_START_OP : Fld := ⟨0x3058, 0, 62, 2⟩
/-- `AU_START` word 0 bits 61:60: WHEN. -/
@[reducible] def F.AU_START_WHEN : Fld := ⟨0x3058, 0, 60, 2⟩
/-- `AU_START` word 0 bits 59:58: DIR. -/
@[reducible] def F.AU_START_DIR : Fld := ⟨0x3058, 0, 58, 2⟩
/-- `AU_START` word 0 bits 57:53: GPI. -/
@[reducible] def F.AU_START_GPI : Fld := ⟨0x3058, 0, 53, 5⟩
/-- `AU_START` word 0 bits 52:32: RESERVED. -/
@[reducible] def F.AU_START_RESERVED : Fld := ⟨0x3058, 0, 32, 21⟩
/-- `AU_START` word 0 bits 31:0: AESSET. -/
@[reducible] def F.AU_START_AESSET : Fld := ⟨0x3058, 0, 0, 32⟩
/-- `AU_START` word 3 bits 63:60: STATE. -/
@[reducible] def F.AU_START_STATE : Fld := ⟨0x3058, 3, 60, 4⟩
/-- `AU_START` word 3 bits 59:52: RESULT. -/
@[reducible] def F.AU_START_RESULT : Fld := ⟨0x3058, 3, 52, 8⟩
/-- `AU_START` word 3 bits 51:0: INDEX. -/
@[reducible] def F.AU_START_INDEX : Fld := ⟨0x3058, 3, 0, 52⟩
/-- `AU_PORT_STAT` word 0 bits 63:60: RXSTATE. -/
@[reducible] def F.AU_PORT_STAT_RXSTATE : Fld := ⟨0x3068, 0, 60, 4⟩
/-- `AU_PORT_STAT` word 0 bits 59:56: TXSTATE. -/
@[reducible] def F.AU_PORT_STAT_TXSTATE : Fld := ⟨0x3068, 0, 56, 4⟩
/-- `AU_PORT_STAT` word 0 bits 55:52: CLKSTATE. -/
@[reducible] def F.AU_PORT_STAT_CLKSTATE : Fld := ⟨0x3068, 0, 52, 4⟩
/-- `AU_PORT_STAT` word 0 bits 51:48: MASKSTATE. -/
@[reducible] def F.AU_PORT_STAT_MASKSTATE : Fld := ⟨0x3068, 0, 48, 4⟩
/-- `AU_PORT_STAT` word 0 bits 47:32: OFFSET. -/
@[reducible] def F.AU_PORT_STAT_OFFSET : Fld := ⟨0x3068, 0, 32, 16⟩
/-- `AU_PORT_STAT` word 1 bits 63:0: START. -/
@[reducible] def F.AU_PORT_STAT_START : Fld := ⟨0x3068, 1, 0, 64⟩
/-- `AU_PORT_STAT` word 2 bits 63:32: APPLIED. -/
@[reducible] def F.AU_PORT_STAT_APPLIED : Fld := ⟨0x3068, 2, 32, 32⟩
/-- `AU_PORT_STAT` word 2 bits 31:0: FRAMES. -/
@[reducible] def F.AU_PORT_STAT_FRAMES : Fld := ⟨0x3068, 2, 0, 32⟩
/-- `AU_PORT_STAT` word 3 bits 63:48: UNDERRUNS. -/
@[reducible] def F.AU_PORT_STAT_UNDERRUNS : Fld := ⟨0x3068, 3, 48, 16⟩
/-- `AU_PORT_STAT` word 3 bits 47:32: SLIPS. -/
@[reducible] def F.AU_PORT_STAT_SLIPS : Fld := ⟨0x3068, 3, 32, 16⟩
/-- `AU_PORT_STAT` word 3 bits 31:16: CODEERR. -/
@[reducible] def F.AU_PORT_STAT_CODEERR : Fld := ⟨0x3068, 3, 16, 16⟩
/-- `AU_PORT_STAT` word 3 bits 15:0: SUPERSEDED. -/
@[reducible] def F.AU_PORT_STAT_SUPERSEDED : Fld := ⟨0x3068, 3, 0, 16⟩
/-- `AU_ASRC` word 0 bits 63:62: KIND. -/
@[reducible] def F.AU_ASRC_KIND : Fld := ⟨0x3060, 0, 62, 2⟩
/-- `AU_ASRC` word 0 bits 61: DIR. -/
@[reducible] def F.AU_ASRC_DIR : Fld := ⟨0x3060, 0, 61, 1⟩
/-- `AU_ASRC` word 0 bits 60:57: PORT. -/
@[reducible] def F.AU_ASRC_PORT : Fld := ⟨0x3060, 0, 57, 4⟩
/-- `AU_ASRC` word 0 bits 56:52: SLOT. -/
@[reducible] def F.AU_ASRC_SLOT : Fld := ⟨0x3060, 0, 52, 5⟩
/-- `AU_ASRC` word 0 bits 51:0: RESERVED. -/
@[reducible] def F.AU_ASRC_RESERVED : Fld := ⟨0x3060, 0, 0, 52⟩
/-- `AU_ASRC` word 1 bits 63:60: STATE. -/
@[reducible] def F.AU_ASRC_STATE : Fld := ⟨0x3060, 1, 60, 4⟩
/-- `AU_ASRC` word 1 bits 59:46: FSRC. -/
@[reducible] def F.AU_ASRC_FSRC : Fld := ⟨0x3060, 1, 46, 14⟩
/-- `AU_ASRC` word 1 bits 45:41: FCHAN. -/
@[reducible] def F.AU_ASRC_FCHAN : Fld := ⟨0x3060, 1, 41, 5⟩
/-- `AU_ASRC` word 1 bits 31:0: RATIO. -/
@[reducible] def F.AU_ASRC_RATIO : Fld := ⟨0x3060, 1, 0, 32⟩
/-- `LK_SHEET` word 1 bits 31:0: TRIM. -/
@[reducible] def F.LK_SHEET_TRIM : Fld := ⟨0x4008, 1, 0, 32⟩
/-- `LK_LANE` word 0 bits 31:28: MODE. -/
@[reducible] def F.LK_LANE_MODE : Fld := ⟨0x4010, 0, 28, 4⟩
/-- `LK_LANE` word 0 bits 27: INV. -/
@[reducible] def F.LK_LANE_INV : Fld := ⟨0x4010, 0, 27, 1⟩
/-- `LK_LANE` word 0 bits 26:25: SLEEP. -/
@[reducible] def F.LK_LANE_SLEEP : Fld := ⟨0x4010, 0, 25, 2⟩
/-- `LK_LANE` word 0 bits 24:23: LOOP. -/
@[reducible] def F.LK_LANE_LOOP : Fld := ⟨0x4010, 0, 23, 2⟩
/-- `LK_LANE` word 0 bits 22: PEERCHK. -/
@[reducible] def F.LK_LANE_PEERCHK : Fld := ⟨0x4010, 0, 22, 1⟩
/-- `LK_LANE` word 0 bits 21:19: PEERDIE. -/
@[reducible] def F.LK_LANE_PEERDIE : Fld := ⟨0x4010, 0, 19, 3⟩
/-- `LK_LANE` word 0 bits 18:13: PEERLANE. -/
@[reducible] def F.LK_LANE_PEERLANE : Fld := ⟨0x4010, 0, 13, 6⟩
/-- `LK_LANE` word 0 bits 12:0: RESERVED. -/
@[reducible] def F.LK_LANE_RESERVED : Fld := ⟨0x4010, 0, 0, 13⟩
/-- `LK_TXEQ` word 0 bits 31:28: AMP. -/
@[reducible] def F.LK_TXEQ_AMP : Fld := ⟨0x4018, 0, 28, 4⟩
/-- `LK_TXEQ` word 0 bits 27:24: PRE. -/
@[reducible] def F.LK_TXEQ_PRE : Fld := ⟨0x4018, 0, 24, 4⟩
/-- `LK_TXEQ` word 0 bits 23:19: POST. -/
@[reducible] def F.LK_TXEQ_POST : Fld := ⟨0x4018, 0, 19, 5⟩
/-- `LK_TXEQ` word 0 bits 18:0: RESERVED. -/
@[reducible] def F.LK_TXEQ_RESERVED : Fld := ⟨0x4018, 0, 0, 19⟩
/-- `LK_RXEQ` word 0 bits 31: ADAPT. -/
@[reducible] def F.LK_RXEQ_ADAPT : Fld := ⟨0x4020, 0, 31, 1⟩
/-- `LK_RXEQ` word 0 bits 30:26: CTLE. -/
@[reducible] def F.LK_RXEQ_CTLE : Fld := ⟨0x4020, 0, 26, 5⟩
/-- `LK_RXEQ` word 0 bits 25:22: VGA. -/
@[reducible] def F.LK_RXEQ_VGA : Fld := ⟨0x4020, 0, 22, 4⟩
/-- `LK_RXEQ` word 0 bits 21:0: RESERVED. -/
@[reducible] def F.LK_RXEQ_RESERVED : Fld := ⟨0x4020, 0, 0, 22⟩
/-- `LK_STAT` word 0 bits 63:60: STATE. -/
@[reducible] def F.LK_STAT_STATE : Fld := ⟨0x4028, 0, 60, 4⟩
/-- `LK_STAT` word 0 bits 59:58: DEPTH. -/
@[reducible] def F.LK_STAT_DEPTH : Fld := ⟨0x4028, 0, 58, 2⟩
/-- `LK_STAT` word 0 bits 57:53: CTLENOW. -/
@[reducible] def F.LK_STAT_CTLENOW : Fld := ⟨0x4028, 0, 53, 5⟩
/-- `LK_STAT` word 0 bits 52:49: SDIRATE. -/
@[reducible] def F.LK_STAT_SDIRATE : Fld := ⟨0x4028, 0, 49, 4⟩
/-- `LK_STAT` word 0 bits 48:46: SEENDIE. -/
@[reducible] def F.LK_STAT_SEENDIE : Fld := ⟨0x4028, 0, 46, 3⟩
/-- `LK_STAT` word 0 bits 45:40: SEENLANE. -/
@[reducible] def F.LK_STAT_SEENLANE : Fld := ⟨0x4028, 0, 40, 6⟩
/-- `LK_STAT` word 0 bits 39: SEENSPARE. -/
@[reducible] def F.LK_STAT_SEENSPARE : Fld := ⟨0x4028, 0, 39, 1⟩
/-- `LK_STAT` word 0 bits 38:32: EYEH. -/
@[reducible] def F.LK_STAT_EYEH : Fld := ⟨0x4028, 0, 32, 7⟩
/-- `LK_STAT` word 0 bits 31:16: ARRIVAL. -/
@[reducible] def F.LK_STAT_ARRIVAL : Fld := ⟨0x4028, 0, 16, 16⟩
/-- `LK_STAT` word 1 bits 63:48: LOSSES. -/
@[reducible] def F.LK_STAT_LOSSES : Fld := ⟨0x4028, 1, 48, 16⟩
/-- `LK_STAT` word 1 bits 47:32: SHEETSLIP. -/
@[reducible] def F.LK_STAT_SHEETSLIP : Fld := ⟨0x4028, 1, 32, 16⟩
/-- `LK_STAT` word 1 bits 31:16: OVERRUN. -/
@[reducible] def F.LK_STAT_OVERRUN : Fld := ⟨0x4028, 1, 16, 16⟩
/-- `LK_STAT` word 1 bits 15:0: MISWIRE. -/
@[reducible] def F.LK_STAT_MISWIRE : Fld := ⟨0x4028, 1, 0, 16⟩
/-- `LK_PRBS` word 0 bits 63:61: PATTERN. -/
@[reducible] def F.LK_PRBS_PATTERN : Fld := ⟨0x4030, 0, 61, 3⟩
/-- `LK_PRBS` word 0 bits 60: PINV. -/
@[reducible] def F.LK_PRBS_PINV : Fld := ⟨0x4030, 0, 60, 1⟩
/-- `LK_PRBS` word 0 bits 59:58: INJECT. -/
@[reducible] def F.LK_PRBS_INJECT : Fld := ⟨0x4030, 0, 58, 2⟩
/-- `LK_PRBS` word 0 bits 57:52: BURSTLEN. -/
@[reducible] def F.LK_PRBS_BURSTLEN : Fld := ⟨0x4030, 0, 52, 6⟩
/-- `LK_PRBS` word 0 bits 51:46: RATEEXP. -/
@[reducible] def F.LK_PRBS_RATEEXP : Fld := ⟨0x4030, 0, 46, 6⟩
/-- `LK_PRBS` word 0 bits 45: GO. -/
@[reducible] def F.LK_PRBS_GO : Fld := ⟨0x4030, 0, 45, 1⟩
/-- `LK_PRBS` word 0 bits 44: SLIP. -/
@[reducible] def F.LK_PRBS_SLIP : Fld := ⟨0x4030, 0, 44, 1⟩
/-- `LK_PRBS` word 0 bits 43:0: RESERVED. -/
@[reducible] def F.LK_PRBS_RESERVED : Fld := ⟨0x4030, 0, 0, 44⟩
/-- `LK_PRBS` word 2 bits 63: PLOCK. -/
@[reducible] def F.LK_PRBS_PLOCK : Fld := ⟨0x4030, 2, 63, 1⟩
/-- `LK_PRBS` word 2 bits 62:32: ERRORS. -/
@[reducible] def F.LK_PRBS_ERRORS : Fld := ⟨0x4030, 2, 32, 31⟩
/-- `LK_PRBS` word 2 bits 31:0: BITS. -/
@[reducible] def F.LK_PRBS_BITS : Fld := ⟨0x4030, 2, 0, 32⟩
/-- `LK_SPARE` word 0 bits 31:30: OP. -/
@[reducible] def F.LK_SPARE_OP : Fld := ⟨0x4038, 0, 30, 2⟩
/-- `LK_SPARE` word 0 bits 29:27: LANE. -/
@[reducible] def F.LK_SPARE_LANE : Fld := ⟨0x4038, 0, 27, 3⟩
/-- `LK_SPARE` word 0 bits 26:24: RESERVED. -/
@[reducible] def F.LK_SPARE_RESERVED : Fld := ⟨0x4038, 0, 24, 3⟩
/-- `LK_SPARE` word 0 bits 23: ATSHEET. -/
@[reducible] def F.LK_SPARE_ATSHEET : Fld := ⟨0x4038, 0, 23, 1⟩
/-- `LK_SPARE` word 0 bits 22:0: START. -/
@[reducible] def F.LK_SPARE_START : Fld := ⟨0x4038, 0, 0, 23⟩
/-- `LK_SPARE` word 1 bits 31:28: STATE. -/
@[reducible] def F.LK_SPARE_STATE : Fld := ⟨0x4038, 1, 28, 4⟩
/-- `LK_SPARE` word 1 bits 27:25: SLANE. -/
@[reducible] def F.LK_SPARE_SLANE : Fld := ⟨0x4038, 1, 25, 3⟩
/-- `LK_SPARE` word 1 bits 22:0: SHEET. -/
@[reducible] def F.LK_SPARE_SHEET : Fld := ⟨0x4038, 1, 0, 23⟩
/-- `LK_SPARE` word 2 bits 31:0: TESTERR. -/
@[reducible] def F.LK_SPARE_TESTERR : Fld := ⟨0x4038, 2, 0, 32⟩
/-- `LK_SPARE` word 3 bits 31:16: OTHERERR. -/
@[reducible] def F.LK_SPARE_OTHERERR : Fld := ⟨0x4038, 3, 16, 16⟩
/-- `LK_SPARE` word 3 bits 15:0: FALLBACKS. -/
@[reducible] def F.LK_SPARE_FALLBACKS : Fld := ⟨0x4038, 3, 0, 16⟩
/-- `LK_ERR_LIMIT` word 0 bits 15:0: LIMIT. -/
@[reducible] def F.LK_ERR_LIMIT_LIMIT : Fld := ⟨0x4040, 0, 0, 16⟩
/-- `MX_MAC` word 0 bits 63: EN. -/
@[reducible] def F.MX_MAC_EN : Fld := ⟨0x4810, 0, 63, 1⟩
/-- `MX_MAC` word 0 bits 62: PAUSEOBEY. -/
@[reducible] def F.MX_MAC_PAUSEOBEY : Fld := ⟨0x4810, 0, 62, 1⟩
/-- `MX_MAC` word 0 bits 61:48: MTU. -/
@[reducible] def F.MX_MAC_MTU : Fld := ⟨0x4810, 0, 48, 14⟩
/-- `MX_MAC` word 0 bits 47:36: MGMTVID. -/
@[reducible] def F.MX_MAC_MGMTVID : Fld := ⟨0x4810, 0, 36, 12⟩
/-- `MX_MAC` word 0 bits 35:24: VID. -/
@[reducible] def F.MX_MAC_VID : Fld := ⟨0x4810, 0, 24, 12⟩
/-- `MX_MAC` word 0 bits 23:21: PCP. -/
@[reducible] def F.MX_MAC_PCP : Fld := ⟨0x4810, 0, 21, 3⟩
/-- `MX_MAC` word 0 bits 20:0: RESERVED. -/
@[reducible] def F.MX_MAC_RESERVED : Fld := ⟨0x4810, 0, 0, 21⟩
/-- `MX_MAC` word 1 bits 63:16: MACADDR. -/
@[reducible] def F.MX_MAC_MACADDR : Fld := ⟨0x4810, 1, 16, 48⟩
/-- `MX_MAC` word 1 bits 15:0: RESERVED1. -/
@[reducible] def F.MX_MAC_RESERVED1 : Fld := ⟨0x4810, 1, 0, 16⟩
/-- `MX_MAC` word 2 bits 63:32: IPADDR. -/
@[reducible] def F.MX_MAC_IPADDR : Fld := ⟨0x4810, 2, 32, 32⟩
/-- `MX_MAC` word 2 bits 31:26: PREFIX. -/
@[reducible] def F.MX_MAC_PREFIX : Fld := ⟨0x4810, 2, 26, 6⟩
/-- `MX_MAC` word 2 bits 25:0: RESERVED2. -/
@[reducible] def F.MX_MAC_RESERVED2 : Fld := ⟨0x4810, 2, 0, 26⟩
/-- `MX_RING` word 0 bits 63:0: BASE. -/
@[reducible] def F.MX_RING_BASE : Fld := ⟨0x4840, 0, 0, 64⟩
/-- `MX_RING` word 1 bits 63: EN. -/
@[reducible] def F.MX_RING_EN : Fld := ⟨0x4840, 1, 63, 1⟩
/-- `MX_RING` word 1 bits 62: SERVICER. -/
@[reducible] def F.MX_RING_SERVICER : Fld := ⟨0x4840, 1, 62, 1⟩
/-- `MX_RING` word 1 bits 61:59: SIZE. -/
@[reducible] def F.MX_RING_SIZE : Fld := ⟨0x4840, 1, 59, 3⟩
/-- `MX_RING` word 1 bits 58:55: BUFSIZE. -/
@[reducible] def F.MX_RING_BUFSIZE : Fld := ⟨0x4840, 1, 55, 4⟩
/-- `MX_RING` word 1 bits 54:0: RESERVED. -/
@[reducible] def F.MX_RING_RESERVED : Fld := ⟨0x4840, 1, 0, 55⟩
/-- `MX_RING` word 2 bits 63:52: NEXT. -/
@[reducible] def F.MX_RING_NEXT : Fld := ⟨0x4840, 2, 52, 12⟩
/-- `MX_RX_NOBUF` word 0 bits 31:0: DROPS. -/
@[reducible] def F.MX_RX_NOBUF_DROPS : Fld := ⟨0x4848, 0, 0, 32⟩
/-- `MX_TSQ` word 0 bits 63:32: SECONDS. -/
@[reducible] def F.MX_TSQ_SECONDS : Fld := ⟨0x4850, 0, 32, 32⟩
/-- `MX_TSQ` word 0 bits 29:0: NANOSECONDS. -/
@[reducible] def F.MX_TSQ_NANOSECONDS : Fld := ⟨0x4850, 0, 0, 30⟩
/-- `MX_TSQ` word 1 bits 63: VALID. -/
@[reducible] def F.MX_TSQ_VALID : Fld := ⟨0x4850, 1, 63, 1⟩
/-- `MX_TSQ` word 1 bits 59:48: TAG. -/
@[reducible] def F.MX_TSQ_TAG : Fld := ⟨0x4850, 1, 48, 12⟩
/-- `MX_TSQ` word 1 bits 47:32: SEQID. -/
@[reducible] def F.MX_TSQ_SEQID : Fld := ⟨0x4850, 1, 32, 16⟩
/-- `MX_TSQ` word 1 bits 31:28: MSGTYPE. -/
@[reducible] def F.MX_TSQ_MSGTYPE : Fld := ⟨0x4850, 1, 28, 4⟩
/-- `MX_TSQ` word 1 bits 27:16: FILL. -/
@[reducible] def F.MX_TSQ_FILL : Fld := ⟨0x4850, 1, 16, 12⟩
/-- `MX_STATS` word 0 bits 63:0: RXOK. -/
@[reducible] def F.MX_STATS_RXOK : Fld := ⟨0x4860, 0, 0, 64⟩
/-- `MX_STATS` word 1 bits 63:0: RXBYTES. -/
@[reducible] def F.MX_STATS_RXBYTES : Fld := ⟨0x4860, 1, 0, 64⟩
/-- `MX_STATS` word 2 bits 63:0: FCS. -/
@[reducible] def F.MX_STATS_FCS : Fld := ⟨0x4860, 2, 0, 64⟩
/-- `MX_STATS` word 3 bits 63:0: RUNT. -/
@[reducible] def F.MX_STATS_RUNT : Fld := ⟨0x4860, 3, 0, 64⟩
/-- `MX_STATS` word 4 bits 63:0: OVERSIZE. -/
@[reducible] def F.MX_STATS_OVERSIZE : Fld := ⟨0x4860, 4, 0, 64⟩
/-- `MX_STATS` word 5 bits 63:0: PAUSE. -/
@[reducible] def F.MX_STATS_PAUSE : Fld := ⟨0x4860, 5, 0, 64⟩
/-- `MX_STATS` word 6 bits 63:0: CTRLOTHER. -/
@[reducible] def F.MX_STATS_CTRLOTHER : Fld := ⟨0x4860, 6, 0, 64⟩
/-- `MX_STATS` word 7 bits 63:0: UNCLAIMED. -/
@[reducible] def F.MX_STATS_UNCLAIMED : Fld := ⟨0x4860, 7, 0, 64⟩
/-- `MX_STATS` word 8 bits 63:0: FECCORR. -/
@[reducible] def F.MX_STATS_FECCORR : Fld := ⟨0x4860, 8, 0, 64⟩
/-- `MX_STATS` word 9 bits 63:0: FECUNCORR. -/
@[reducible] def F.MX_STATS_FECUNCORR : Fld := ⟨0x4860, 9, 0, 64⟩
/-- `MX_STATS` word 10 bits 63:0: TXOK. -/
@[reducible] def F.MX_STATS_TXOK : Fld := ⟨0x4860, 10, 0, 64⟩
/-- `MX_STATS` word 11 bits 63:0: TXBYTES. -/
@[reducible] def F.MX_STATS_TXBYTES : Fld := ⟨0x4860, 11, 0, 64⟩
/-- `MX_STATS` word 12 bits 63:0: PAUSEQ. -/
@[reducible] def F.MX_STATS_PAUSEQ : Fld := ⟨0x4860, 12, 0, 64⟩
/-- `MX_STATS` word 13 bits 63:0: TXPAUSEDROP. -/
@[reducible] def F.MX_STATS_TXPAUSEDROP : Fld := ⟨0x4860, 13, 0, 64⟩
/-- `MX_STATS` word 14 bits 63:0: TSOVF_RX. -/
@[reducible] def F.MX_STATS_TSOVF_RX : Fld := ⟨0x4860, 14, 0, 64⟩
/-- `MX_STATS` word 15 bits 63:0: TSOVF_TX. -/
@[reducible] def F.MX_STATS_TSOVF_TX : Fld := ⟨0x4860, 15, 0, 64⟩
/-- `MX_XPORT` word 0 bits 63:62: TYPE. -/
@[reducible] def F.MX_XPORT_TYPE : Fld := ⟨0x4818, 0, 62, 2⟩
/-- `MX_XPORT` word 0 bits 61: RGB. -/
@[reducible] def F.MX_XPORT_RGB : Fld := ⟨0x4818, 0, 61, 1⟩
/-- `MX_XPORT` word 0 bits 60: DUAL. -/
@[reducible] def F.MX_XPORT_DUAL : Fld := ⟨0x4818, 0, 60, 1⟩
/-- `MX_XPORT` word 0 bits 59:56: MACA. -/
@[reducible] def F.MX_XPORT_MACA : Fld := ⟨0x4818, 0, 56, 4⟩
/-- `MX_XPORT` word 0 bits 55:52: MACB. -/
@[reducible] def F.MX_XPORT_MACB : Fld := ⟨0x4818, 0, 52, 4⟩
/-- `MX_XPORT` word 0 bits 51:46: LANE. -/
@[reducible] def F.MX_XPORT_LANE : Fld := ⟨0x4818, 0, 46, 6⟩
/-- `MX_XPORT` word 0 bits 45:40: RECIPE. -/
@[reducible] def F.MX_XPORT_RECIPE : Fld := ⟨0x4818, 0, 40, 6⟩
/-- `MX_XPORT` word 0 bits 39: PIDREQ. -/
@[reducible] def F.MX_XPORT_PIDREQ : Fld := ⟨0x4818, 0, 39, 1⟩
/-- `MX_XPORT` word 0 bits 38: BPM. -/
@[reducible] def F.MX_XPORT_BPM : Fld := ⟨0x4818, 0, 38, 1⟩
/-- `MX_XPORT` word 0 bits 37:28: HOLD. -/
@[reducible] def F.MX_XPORT_HOLD : Fld := ⟨0x4818, 0, 28, 10⟩
/-- `MX_XPORT` word 0 bits 27:21: PTV. -/
@[reducible] def F.MX_XPORT_PTV : Fld := ⟨0x4818, 0, 21, 7⟩
/-- `MX_XPORT` word 0 bits 20:14: PTA. -/
@[reducible] def F.MX_XPORT_PTA : Fld := ⟨0x4818, 0, 14, 7⟩
/-- `MX_XPORT` word 0 bits 13:7: PTN. -/
@[reducible] def F.MX_XPORT_PTN : Fld := ⟨0x4818, 0, 7, 7⟩
/-- `MX_XPORT` word 0 bits 6: TIMING. -/
@[reducible] def F.MX_XPORT_TIMING : Fld := ⟨0x4818, 0, 6, 1⟩
/-- `MX_XPORT` word 0 bits 5:0: RESERVED. -/
@[reducible] def F.MX_XPORT_RESERVED : Fld := ⟨0x4818, 0, 0, 6⟩
/-- `MX_XPORT` word 1 bits 63:32: GROUP. -/
@[reducible] def F.MX_XPORT_GROUP : Fld := ⟨0x4818, 1, 32, 32⟩
/-- `MX_XPORT` word 1 bits 31:16: UDP. -/
@[reducible] def F.MX_XPORT_UDP : Fld := ⟨0x4818, 1, 16, 16⟩
/-- `MX_XPORT` word 1 bits 15: FEN. -/
@[reducible] def F.MX_XPORT_FEN : Fld := ⟨0x4818, 1, 15, 1⟩
/-- `MX_XPORT` word 1 bits 14:0: FRESERVED. -/
@[reducible] def F.MX_XPORT_FRESERVED : Fld := ⟨0x4818, 1, 0, 15⟩
/-- `MX_AFLOW` word 1 bits 63: KIND. -/
@[reducible] def F.MX_AFLOW_KIND : Fld := ⟨0x4828, 1, 63, 1⟩
/-- `MX_AFLOW` word 1 bits 62: DUAL. -/
@[reducible] def F.MX_AFLOW_DUAL : Fld := ⟨0x4828, 1, 62, 1⟩
/-- `MX_AFLOW` word 1 bits 61:58: MACA. -/
@[reducible] def F.MX_AFLOW_MACA : Fld := ⟨0x4828, 1, 58, 4⟩
/-- `MX_AFLOW` word 1 bits 57:54: MACB. -/
@[reducible] def F.MX_AFLOW_MACB : Fld := ⟨0x4828, 1, 54, 4⟩
/-- `MX_AFLOW` word 1 bits 53:47: CHANNELS. -/
@[reducible] def F.MX_AFLOW_CHANNELS : Fld := ⟨0x4828, 1, 47, 7⟩
/-- `MX_AFLOW` word 1 bits 46: PTIME. -/
@[reducible] def F.MX_AFLOW_PTIME : Fld := ⟨0x4828, 1, 46, 1⟩
/-- `MX_AFLOW` word 1 bits 45:39: PT. -/
@[reducible] def F.MX_AFLOW_PT : Fld := ⟨0x4828, 1, 39, 7⟩
/-- `MX_AFLOW` word 1 bits 38:29: HOLD. -/
@[reducible] def F.MX_AFLOW_HOLD : Fld := ⟨0x4828, 1, 29, 10⟩
/-- `MX_AFLOW` word 1 bits 28:0: RESERVED. -/
@[reducible] def F.MX_AFLOW_RESERVED : Fld := ⟨0x4828, 1, 0, 29⟩
/-- `MX_ANC_RECIPE` word 0 bits 31: VALID. -/
@[reducible] def F.MX_ANC_RECIPE_VALID : Fld := ⟨0x4868, 0, 31, 1⟩
/-- `MX_ANC_RECIPE` word 0 bits 30: PASS. -/
@[reducible] def F.MX_ANC_RECIPE_PASS : Fld := ⟨0x4868, 0, 30, 1⟩
/-- `MX_ANC_RECIPE` word 0 bits 29:24: RESERVED. -/
@[reducible] def F.MX_ANC_RECIPE_RESERVED : Fld := ⟨0x4868, 0, 24, 6⟩
/-- `MX_ANC_RECIPE` word 0 bits 23:16: DID. -/
@[reducible] def F.MX_ANC_RECIPE_DID : Fld := ⟨0x4868, 0, 16, 8⟩
/-- `MX_ANC_RECIPE` word 0 bits 15:8: SDID. -/
@[reducible] def F.MX_ANC_RECIPE_SDID : Fld := ⟨0x4868, 0, 8, 8⟩
/-- `MX_ANC_RECIPE` word 0 bits 7:0: SMASK. -/
@[reducible] def F.MX_ANC_RECIPE_SMASK : Fld := ⟨0x4868, 0, 0, 8⟩
/-- `MX_PORT_STAT` word 0 bits 63:60: LINK. -/
@[reducible] def F.MX_PORT_STAT_LINK : Fld := ⟨0x4870, 0, 60, 4⟩
/-- `MX_PORT_STAT` word 0 bits 59:58: PATHS. -/
@[reducible] def F.MX_PORT_STAT_PATHS : Fld := ⟨0x4870, 0, 58, 2⟩
/-- `MX_PORT_STAT` word 0 bits 31:0: PID. -/
@[reducible] def F.MX_PORT_STAT_PID : Fld := ⟨0x4870, 0, 0, 32⟩
/-- `MX_PORT_STAT` word 1 bits 63:48: LINECRC. -/
@[reducible] def F.MX_PORT_STAT_LINECRC : Fld := ⟨0x4870, 1, 48, 16⟩
/-- `MX_PORT_STAT` word 1 bits 47:32: LOSTLINES. -/
@[reducible] def F.MX_PORT_STAT_LOSTLINES : Fld := ⟨0x4870, 1, 32, 16⟩
/-- `MX_PORT_STAT` word 1 bits 31:16: ANCDROP. -/
@[reducible] def F.MX_PORT_STAT_ANCDROP : Fld := ⟨0x4870, 1, 16, 16⟩
/-- `MX_PORT_STAT` word 1 bits 15:0: FORMAT. -/
@[reducible] def F.MX_PORT_STAT_FORMAT : Fld := ⟨0x4870, 1, 0, 16⟩
/-- `MX_PORT_STAT` word 2 bits 63:32: MISSA. -/
@[reducible] def F.MX_PORT_STAT_MISSA : Fld := ⟨0x4870, 2, 32, 32⟩
/-- `MX_PORT_STAT` word 2 bits 31:0: MISSB. -/
@[reducible] def F.MX_PORT_STAT_MISSB : Fld := ⟨0x4870, 2, 0, 32⟩
/-- `TW_CONFIG` word 0 bits 63: EN. -/
@[reducible] def F.TW_CONFIG_EN : Fld := ⟨0x5808, 0, 63, 1⟩
/-- `TW_CONFIG` word 0 bits 62: UNIT. -/
@[reducible] def F.TW_CONFIG_UNIT : Fld := ⟨0x5808, 0, 62, 1⟩
/-- `TW_CONFIG` word 0 bits 61:59: LDIE. -/
@[reducible] def F.TW_CONFIG_LDIE : Fld := ⟨0x5808, 0, 59, 3⟩
/-- `TW_CONFIG` word 0 bits 58:56: LSHROUD. -/
@[reducible] def F.TW_CONFIG_LSHROUD : Fld := ⟨0x5808, 0, 56, 3⟩
/-- `TW_CONFIG` word 0 bits 55:44: TWINNODE. -/
@[reducible] def F.TW_CONFIG_TWINNODE : Fld := ⟨0x5808, 0, 44, 12⟩
/-- `TW_CONFIG` word 0 bits 43: STSLOT. -/
@[reducible] def F.TW_CONFIG_STSLOT : Fld := ⟨0x5808, 0, 43, 1⟩
/-- `TW_CONFIG` word 0 bits 42: STENG. -/
@[reducible] def F.TW_CONFIG_STENG : Fld := ⟨0x5808, 0, 42, 1⟩
/-- `TW_CONFIG` word 0 bits 41:0: RESERVED. -/
@[reducible] def F.TW_CONFIG_RESERVED : Fld := ⟨0x5808, 0, 0, 42⟩
/-- `TW_PAIR` word 0 bits 31: VALID. -/
@[reducible] def F.TW_PAIR_VALID : Fld := ⟨0x5810, 0, 31, 1⟩
/-- `TW_PAIR` word 0 bits 30:28: BDIE. -/
@[reducible] def F.TW_PAIR_BDIE : Fld := ⟨0x5810, 0, 28, 3⟩
/-- `TW_PAIR` word 0 bits 27:22: BLANE. -/
@[reducible] def F.TW_PAIR_BLANE : Fld := ⟨0x5810, 0, 22, 6⟩
/-- `TW_PAIR` word 0 bits 21:0: RESERVED. -/
@[reducible] def F.TW_PAIR_RESERVED : Fld := ⟨0x5810, 0, 0, 22⟩
/-- `TW_STATE` word 0 bits 63:60: SYNC. -/
@[reducible] def F.TW_STATE_SYNC : Fld := ⟨0x5818, 0, 60, 4⟩
/-- `TW_STATE` word 0 bits 59: DECIDING. -/
@[reducible] def F.TW_STATE_DECIDING : Fld := ⟨0x5818, 0, 59, 1⟩
/-- `TW_STATE` word 0 bits 58: LINK. -/
@[reducible] def F.TW_STATE_LINK : Fld := ⟨0x5818, 0, 58, 1⟩
/-- `TW_STATE` word 0 bits 47:32: OWNCLAIM. -/
@[reducible] def F.TW_STATE_OWNCLAIM : Fld := ⟨0x5818, 0, 32, 16⟩
/-- `TW_STATE` word 0 bits 31:16: TWINCLAIM. -/
@[reducible] def F.TW_STATE_TWINCLAIM : Fld := ⟨0x5818, 0, 16, 16⟩
/-- `TW_STATE` word 0 bits 15:0: EDGECLAIM. -/
@[reducible] def F.TW_STATE_EDGECLAIM : Fld := ⟨0x5818, 0, 0, 16⟩
/-- `TW_STATE` word 1 bits 63:48: EDGEOWN. -/
@[reducible] def F.TW_STATE_EDGEOWN : Fld := ⟨0x5818, 1, 48, 16⟩
/-- `TW_STATE` word 1 bits 47:32: EDGETWIN. -/
@[reducible] def F.TW_STATE_EDGETWIN : Fld := ⟨0x5818, 1, 32, 16⟩
/-- `TW_STATE` word 1 bits 31:16: DIVERGES. -/
@[reducible] def F.TW_STATE_DIVERGES : Fld := ⟨0x5818, 1, 16, 16⟩
/-- `TW_STATE` word 1 bits 15:0: DIGESTERR. -/
@[reducible] def F.TW_STATE_DIGESTERR : Fld := ⟨0x5818, 1, 0, 16⟩
/-- `TW_PAIR_STAT` word 0 bits 63:62: SEL. -/
@[reducible] def F.TW_PAIR_STAT_SEL : Fld := ⟨0x5820, 0, 62, 2⟩
/-- `TW_PAIR_STAT` word 0 bits 61:60: ALIGN. -/
@[reducible] def F.TW_PAIR_STAT_ALIGN : Fld := ⟨0x5820, 0, 60, 2⟩
/-- `TW_PAIR_STAT` word 0 bits 59:44: CLAIMA. -/
@[reducible] def F.TW_PAIR_STAT_CLAIMA : Fld := ⟨0x5820, 0, 44, 16⟩
/-- `TW_PAIR_STAT` word 0 bits 43:28: CLAIMB. -/
@[reducible] def F.TW_PAIR_STAT_CLAIMB : Fld := ⟨0x5820, 0, 28, 16⟩
/-- `TW_PAIR_STAT` word 0 bits 27:16: SKEW. -/
@[reducible] def F.TW_PAIR_STAT_SKEW : Fld := ⟨0x5820, 0, 16, 12⟩
/-- `TW_PAIR_STAT` word 0 bits 15:0: HOLD. -/
@[reducible] def F.TW_PAIR_STAT_HOLD : Fld := ⟨0x5820, 0, 0, 16⟩
/-- `TW_PAIR_STAT` word 1 bits 63:48: CHANGES. -/
@[reducible] def F.TW_PAIR_STAT_CHANGES : Fld := ⟨0x5820, 1, 48, 16⟩
/-- `TW_PAIR_STAT` word 1 bits 47:32: GAPS. -/
@[reducible] def F.TW_PAIR_STAT_GAPS : Fld := ⟨0x5820, 1, 32, 16⟩
/-- `TW_PAIR_STAT` word 1 bits 31:16: SUBST. -/
@[reducible] def F.TW_PAIR_STAT_SUBST : Fld := ⟨0x5820, 1, 16, 16⟩
/-- `TW_PAIR_STAT` word 1 bits 15:0: NONE. -/
@[reducible] def F.TW_PAIR_STAT_NONE : Fld := ⟨0x5820, 1, 0, 16⟩
/-- `TW_PAIR_STAT` word 2 bits 63:48: CHKA. -/
@[reducible] def F.TW_PAIR_STAT_CHKA : Fld := ⟨0x5820, 2, 48, 16⟩
/-- `TW_PAIR_STAT` word 2 bits 47:32: CHKB. -/
@[reducible] def F.TW_PAIR_STAT_CHKB : Fld := ⟨0x5820, 2, 32, 16⟩
/-- `TW_PAIR_STAT` word 2 bits 31:16: DCRCA. -/
@[reducible] def F.TW_PAIR_STAT_DCRCA : Fld := ⟨0x5820, 2, 16, 16⟩
/-- `TW_PAIR_STAT` word 2 bits 15:0: DCRCB. -/
@[reducible] def F.TW_PAIR_STAT_DCRCB : Fld := ⟨0x5820, 2, 0, 16⟩
/-- `TW_CMP` word 0 bits 15:0: COUNT. -/
@[reducible] def F.TW_CMP_COUNT : Fld := ⟨0x5828, 0, 0, 16⟩
/-- `TW_HEALTH` word 0 bits 63:48: SEQ. -/
@[reducible] def F.TW_HEALTH_SEQ : Fld := ⟨0x5830, 0, 48, 16⟩
/-- `TW_HEALTH` word 0 bits 47:32: CLAIM. -/
@[reducible] def F.TW_HEALTH_CLAIM : Fld := ⟨0x5830, 0, 32, 16⟩
/-- `TW_HEALTH` word 0 bits 31:28: MODE. -/
@[reducible] def F.TW_HEALTH_MODE : Fld := ⟨0x5830, 0, 28, 4⟩
/-- `TW_HEALTH` word 0 bits 27:24: SYNC. -/
@[reducible] def F.TW_HEALTH_SYNC : Fld := ⟨0x5830, 0, 24, 4⟩
/-- `TW_HEALTH` word 0 bits 23:16: DIESOK. -/
@[reducible] def F.TW_HEALTH_DIESOK : Fld := ⟨0x5830, 0, 16, 8⟩
/-- `TW_HEALTH` word 0 bits 15:0: EDGEOWN. -/
@[reducible] def F.TW_HEALTH_EDGEOWN : Fld := ⟨0x5830, 0, 0, 16⟩
/-- `TW_HEALTH` word 1 bits 63:48: MARGIN. -/
@[reducible] def F.TW_HEALTH_MARGIN : Fld := ⟨0x5830, 1, 48, 16⟩
/-- `TW_HEALTH` word 1 bits 47:40: TJMAX. -/
@[reducible] def F.TW_HEALTH_TJMAX : Fld := ⟨0x5830, 1, 40, 8⟩
/-- `TW_HEALTH` word 1 bits 39:32: FAULT. -/
@[reducible] def F.TW_HEALTH_FAULT : Fld := ⟨0x5830, 1, 32, 8⟩
/-- `TW_HEALTH` word 1 bits 31:16: LANESDOWN. -/
@[reducible] def F.TW_HEALTH_LANESDOWN : Fld := ⟨0x5830, 1, 16, 16⟩
/-- `TW_HEALTH` word 1 bits 15:0: STERR. -/
@[reducible] def F.TW_HEALTH_STERR : Fld := ⟨0x5830, 1, 0, 16⟩
/-- `TW_HEALTH` word 2 bits 63:0: STWORDS. -/
@[reducible] def F.TW_HEALTH_STWORDS : Fld := ⟨0x5830, 2, 0, 64⟩
/-- `TW_HEALTH` word 3 bits 63:32: SECONDS. -/
@[reducible] def F.TW_HEALTH_SECONDS : Fld := ⟨0x5830, 3, 32, 32⟩
/-- `TW_HEALTH` word 3 bits 31:0: NANOSECONDS. -/
@[reducible] def F.TW_HEALTH_NANOSECONDS : Fld := ⟨0x5830, 3, 0, 32⟩
/-- `IC_QOS` word 0 bits 7:4: QOS. -/
@[reducible] def F.IC_QOS_QOS : Fld := ⟨0x6808, 0, 4, 4⟩
/-- `IC_QOS` word 0 bits 3:0: RESERVED. -/
@[reducible] def F.IC_QOS_RESERVED : Fld := ⟨0x6808, 0, 0, 4⟩
/-- `IC_AGE` word 0 bits 15:0: AGE. -/
@[reducible] def F.IC_AGE_AGE : Fld := ⟨0x680C, 0, 0, 16⟩
/-- `IC_REMAP` word 0 bits 0: REMAP. -/
@[reducible] def F.IC_REMAP_REMAP : Fld := ⟨0x6810, 0, 0, 1⟩
/-- `IC_ABORT_LOG` word 0 bits 63:60: MASTER. -/
@[reducible] def F.IC_ABORT_LOG_MASTER : Fld := ⟨0x6818, 0, 60, 4⟩
/-- `IC_ABORT_LOG` word 0 bits 59:56: TARGET. -/
@[reducible] def F.IC_ABORT_LOG_TARGET : Fld := ⟨0x6818, 0, 56, 4⟩
/-- `IC_ABORT_LOG` word 0 bits 55: WRITE. -/
@[reducible] def F.IC_ABORT_LOG_WRITE : Fld := ⟨0x6818, 0, 55, 1⟩
/-- `IC_ABORT_LOG` word 0 bits 54: EXCL. -/
@[reducible] def F.IC_ABORT_LOG_EXCL : Fld := ⟨0x6818, 0, 54, 1⟩
/-- `IC_ABORT_LOG` word 0 bits 53:49: DONE. -/
@[reducible] def F.IC_ABORT_LOG_DONE : Fld := ⟨0x6818, 0, 49, 5⟩
/-- `IC_ABORT_LOG` word 0 bits 48:44: TOTAL. -/
@[reducible] def F.IC_ABORT_LOG_TOTAL : Fld := ⟨0x6818, 0, 44, 5⟩
/-- `IC_ABORT_LOG` word 0 bits 43:42: CAUSE. -/
@[reducible] def F.IC_ABORT_LOG_CAUSE : Fld := ⟨0x6818, 0, 42, 2⟩
/-- `IC_ABORT_LOG` word 0 bits 39:0: ADDRESS. -/
@[reducible] def F.IC_ABORT_LOG_ADDRESS : Fld := ⟨0x6818, 0, 0, 40⟩
/-- `IC_ABORT_LOG` word 1 bits 63:32: PSEQ. -/
@[reducible] def F.IC_ABORT_LOG_PSEQ : Fld := ⟨0x6818, 1, 32, 32⟩
/-- `IC_XBAR_STAT` word 0 bits 31:0: PIECES. -/
@[reducible] def F.IC_XBAR_STAT_PIECES : Fld := ⟨0x681C, 0, 0, 32⟩
/-- `IC_XBAR_STAT` word 1 bits 31:0: MAXWAIT. -/
@[reducible] def F.IC_XBAR_STAT_MAXWAIT : Fld := ⟨0x681C, 1, 0, 32⟩
/-- `IC_XBAR_STAT` word 2 bits 31:0: AGED. -/
@[reducible] def F.IC_XBAR_STAT_AGED : Fld := ⟨0x681C, 2, 0, 32⟩
/-- `IC_XBAR_STAT` word 3 bits 31:0: ERRORS. -/
@[reducible] def F.IC_XBAR_STAT_ERRORS : Fld := ⟨0x681C, 3, 0, 32⟩
/-- `IC_ENGINE` word 0 bits 63:60: STATE. -/
@[reducible] def F.IC_ENGINE_STATE : Fld := ⟨0x6820, 0, 60, 4⟩
/-- `IC_ENGINE` word 0 bits 59:58: CLASS. -/
@[reducible] def F.IC_ENGINE_CLASS : Fld := ⟨0x6820, 0, 58, 2⟩
/-- `IC_ENGINE` word 0 bits 57: BANK. -/
@[reducible] def F.IC_ENGINE_BANK : Fld := ⟨0x6820, 0, 57, 1⟩
/-- `IC_ENGINE` word 0 bits 56: RETAINED. -/
@[reducible] def F.IC_ENGINE_RETAINED : Fld := ⟨0x6820, 0, 56, 1⟩
/-- `IC_ENGINE` word 0 bits 55:48: RXSLOTS. -/
@[reducible] def F.IC_ENGINE_RXSLOTS : Fld := ⟨0x6820, 0, 48, 8⟩
/-- `IC_ENGINE` word 0 bits 47:40: TXSLOTS. -/
@[reducible] def F.IC_ENGINE_TXSLOTS : Fld := ⟨0x6820, 0, 40, 8⟩
/-- `IC_ENGINE` word 0 bits 39:26: CHANNELS. -/
@[reducible] def F.IC_ENGINE_CHANNELS : Fld := ⟨0x6820, 0, 26, 14⟩
/-- `IC_ENGINE` word 0 bits 15:0: FWVER. -/
@[reducible] def F.IC_ENGINE_FWVER : Fld := ⟨0x6820, 0, 0, 16⟩
/-- `IC_ENGINE` word 1 bits 63:48: ECCCORR. -/
@[reducible] def F.IC_ENGINE_ECCCORR : Fld := ⟨0x6820, 1, 48, 16⟩
/-- `IC_ENGINE` word 1 bits 47:32: MOVES. -/
@[reducible] def F.IC_ENGINE_MOVES : Fld := ⟨0x6820, 1, 32, 16⟩
/-- `IC_ENGINE` word 1 bits 31:16: STFAIL. -/
@[reducible] def F.IC_ENGINE_STFAIL : Fld := ⟨0x6820, 1, 16, 16⟩
/-- `IC_CRC` word 0 bits 63:62: OP. -/
@[reducible] def F.IC_CRC_OP : Fld := ⟨0x6830, 0, 62, 2⟩
/-- `IC_CRC` word 0 bits 61: SRC. -/
@[reducible] def F.IC_CRC_SRC : Fld := ⟨0x6830, 0, 61, 1⟩
/-- `IC_CRC` word 0 bits 60: CMP. -/
@[reducible] def F.IC_CRC_CMP : Fld := ⟨0x6830, 0, 60, 1⟩
/-- `IC_CRC` word 0 bits 59:44: INDEX. -/
@[reducible] def F.IC_CRC_INDEX : Fld := ⟨0x6830, 0, 44, 16⟩
/-- `IC_CRC` word 0 bits 43:0: RESERVED. -/
@[reducible] def F.IC_CRC_RESERVED : Fld := ⟨0x6830, 0, 0, 44⟩
/-- `IC_CRC` word 1 bits 63:57: WIDTH. -/
@[reducible] def F.IC_CRC_WIDTH : Fld := ⟨0x6830, 1, 57, 7⟩
/-- `IC_CRC` word 1 bits 56: REFIN. -/
@[reducible] def F.IC_CRC_REFIN : Fld := ⟨0x6830, 1, 56, 1⟩
/-- `IC_CRC` word 1 bits 55: REFOUT. -/
@[reducible] def F.IC_CRC_REFOUT : Fld := ⟨0x6830, 1, 55, 1⟩
/-- `IC_CRC` word 1 bits 54: FINV. -/
@[reducible] def F.IC_CRC_FINV : Fld := ⟨0x6830, 1, 54, 1⟩
/-- `IC_CRC` word 1 bits 53:0: RESERVED1. -/
@[reducible] def F.IC_CRC_RESERVED1 : Fld := ⟨0x6830, 1, 0, 54⟩
/-- `IC_CRC` word 7 bits 63:60: STATE. -/
@[reducible] def F.IC_CRC_STATE : Fld := ⟨0x6830, 7, 60, 4⟩
/-- `IC_CRC` word 7 bits 59:56: RESULT. -/
@[reducible] def F.IC_CRC_RESULT : Fld := ⟨0x6830, 7, 56, 4⟩
/-- `IC_CRC` word 7 bits 47:0: DONEBYTES. -/
@[reducible] def F.IC_CRC_DONEBYTES : Fld := ⟨0x6830, 7, 0, 48⟩
/-- `IC_CRC_USE` word 0 bits 31:0: JOBS. -/
@[reducible] def F.IC_CRC_USE_JOBS : Fld := ⟨0x6838, 0, 0, 32⟩
/-- `IC_CRC_USE` word 1 bits 31:0: MISMATCH. -/
@[reducible] def F.IC_CRC_USE_MISMATCH : Fld := ⟨0x6838, 1, 0, 32⟩
/-- `IC_CRC_USE` word 2 bits 31:0: DAMAGED. -/
@[reducible] def F.IC_CRC_USE_DAMAGED : Fld := ⟨0x6838, 2, 0, 32⟩
/-- `IC_CRC_USE` word 3 bits 31:0: READERR. -/
@[reducible] def F.IC_CRC_USE_READERR : Fld := ⟨0x6838, 3, 0, 32⟩
/-- `IC_ENG_CMD` word 0 bits 15:12: COMMAND. -/
@[reducible] def F.IC_ENG_CMD_COMMAND : Fld := ⟨0x6828, 0, 12, 4⟩
/-- `IC_ENG_CMD` word 0 bits 11:0: RESERVED. -/
@[reducible] def F.IC_ENG_CMD_RESERVED : Fld := ⟨0x6828, 0, 0, 12⟩
/-- `MM_SRAM_STAT` word 5 bits 31:0: CORRECTED. -/
@[reducible] def F.MM_SRAM_STAT_CORRECTED : Fld := ⟨0x7008, 5, 0, 32⟩
/-- `MM_CHANNEL` word 0 bits 63:61: RATE. -/
@[reducible] def F.MM_CHANNEL_RATE : Fld := ⟨0x7010, 0, 61, 3⟩
/-- `MM_CHANNEL` word 0 bits 60: EN. -/
@[reducible] def F.MM_CHANNEL_EN : Fld := ⟨0x7010, 0, 60, 1⟩
/-- `MM_CHANNEL` word 0 bits 59:58: RANKS. -/
@[reducible] def F.MM_CHANNEL_RANKS : Fld := ⟨0x7010, 0, 58, 2⟩
/-- `MM_CHANNEL` word 0 bits 57:56: WIDTH. -/
@[reducible] def F.MM_CHANNEL_WIDTH : Fld := ⟨0x7010, 0, 56, 2⟩
/-- `MM_CHANNEL` word 0 bits 55:54: DENS. -/
@[reducible] def F.MM_CHANNEL_DENS : Fld := ⟨0x7010, 0, 54, 2⟩
/-- `MM_CHANNEL` word 0 bits 53:52: ORDER. -/
@[reducible] def F.MM_CHANNEL_ORDER : Fld := ⟨0x7010, 0, 52, 2⟩
/-- `MM_CHANNEL` word 0 bits 51: SPAREEN. -/
@[reducible] def F.MM_CHANNEL_SPAREEN : Fld := ⟨0x7010, 0, 51, 1⟩
/-- `MM_CHANNEL` word 0 bits 50:49: SPARE. -/
@[reducible] def F.MM_CHANNEL_SPARE : Fld := ⟨0x7010, 0, 49, 2⟩
/-- `MM_CHANNEL` word 0 bits 48:41: SCRUB. -/
@[reducible] def F.MM_CHANNEL_SCRUB : Fld := ⟨0x7010, 0, 41, 8⟩
/-- `MM_CHANNEL` word 0 bits 40:0: RESERVED. -/
@[reducible] def F.MM_CHANNEL_RESERVED : Fld := ⟨0x7010, 0, 0, 41⟩
/-- `MM_CHAN_STAT` word 0 bits 63:60: STATE. -/
@[reducible] def F.MM_CHAN_STAT_STATE : Fld := ⟨0x7018, 0, 60, 4⟩
/-- `MM_CHAN_STAT` word 0 bits 59: REFX2. -/
@[reducible] def F.MM_CHAN_STAT_REFX2 : Fld := ⟨0x7018, 0, 59, 1⟩
/-- `MM_CHAN_STAT` word 0 bits 58:57: TBAND. -/
@[reducible] def F.MM_CHAN_STAT_TBAND : Fld := ⟨0x7018, 0, 57, 2⟩
/-- `MM_CHAN_STAT` word 0 bits 56:50: SCRUBPCT. -/
@[reducible] def F.MM_CHAN_STAT_SCRUBPCT : Fld := ⟨0x7018, 0, 50, 7⟩
/-- `MM_CHAN_STAT` word 0 bits 49:43: COPYPCT. -/
@[reducible] def F.MM_CHAN_STAT_COPYPCT : Fld := ⟨0x7018, 0, 43, 7⟩
/-- `MM_CHAN_STAT` word 0 bits 39:0: FREE. -/
@[reducible] def F.MM_CHAN_STAT_FREE : Fld := ⟨0x7018, 0, 0, 40⟩
/-- `MM_CHAN_STAT` word 1 bits 63:48: CE. -/
@[reducible] def F.MM_CHAN_STAT_CE : Fld := ⟨0x7018, 1, 48, 16⟩
/-- `MM_CHAN_STAT` word 1 bits 47:32: UE. -/
@[reducible] def F.MM_CHAN_STAT_UE : Fld := ⟨0x7018, 1, 32, 16⟩
/-- `MM_CHAN_STAT` word 1 bits 31:16: CAERR. -/
@[reducible] def F.MM_CHAN_STAT_CAERR : Fld := ⟨0x7018, 1, 16, 16⟩
/-- `MM_CHAN_STAT` word 1 bits 15:0: AUDIT. -/
@[reducible] def F.MM_CHAN_STAT_AUDIT : Fld := ⟨0x7018, 1, 0, 16⟩
/-- `MM_RANK` word 0 bits 31:28: STATE. -/
@[reducible] def F.MM_RANK_STATE : Fld := ⟨0x7020, 0, 28, 4⟩
/-- `MM_RANK` word 0 bits 27:16: ITEMS. -/
@[reducible] def F.MM_RANK_ITEMS : Fld := ⟨0x7020, 0, 16, 12⟩
/-- `MM_RANK` word 0 bits 15:0: CE. -/
@[reducible] def F.MM_RANK_CE : Fld := ⟨0x7020, 0, 0, 16⟩
/-- `MM_CMD` word 0 bits 15:12: COMMAND. -/
@[reducible] def F.MM_CMD_COMMAND : Fld := ⟨0x7028, 0, 12, 4⟩
/-- `MM_CMD` word 0 bits 11:0: RESERVED. -/
@[reducible] def F.MM_CMD_RESERVED : Fld := ⟨0x7028, 0, 0, 12⟩

/-- A counter that saturates at `top` (R319, R396 and the counters of the other chapters). -/
def satAdd (top a b : Nat) : Nat := min top (a + b)

/-- The flag of a condition, as a field's value. -/
def flag (b : Bool) : Nat := if b then 1 else 0

end Sys2Proof.Machine
end

