-- ==== Sys2Proof/Machine/Catalogue.lean ====
section
/-! DEFINITION. The object dictionary (R339–R341): every object of every member, with its type, the access code, persistence
and default of each word, its rights, its unit, its element range and whether it is leased, as the defining chapters give
them. -/
namespace Sys2Proof.Machine

/-- Type codes (R313). -/
inductive OType where
  | u8 | u16 | u32 | u64 | i32 | str | blob
deriving DecidableEq, Repr

/-- Access codes (R341). -/
inductive Acc where
  | ro | rw | wo | w1c | rc
deriving DecidableEq, Repr

/-- Persistence (R341). -/
inductive Persist where
  | volatile | saved | factory
deriving DecidableEq, Repr

/-- The unit an object belongs to (R8). -/
inductive OUnit where
  | base | comp | auport | fsync | media
deriving DecidableEq, Repr

/-- How an object's elements are numbered. -/
inductive Dim where
  | scalar
  | const (n : Nat)
  | perDie (n : Nat)
  | from1 (n : Nat)
  | noStay (n : Nat)
  | ports | twoPorts | lease | domains | monitors | keep | dict
deriving DecidableEq, Repr

/-- One subindex of one object. -/
structure Obj where
  ix    : Nat
  sub   : Nat
  typ   : OType
  acc   : List Acc
  rd    : Nat
  wr    : Nat
  per   : List Persist
  unit_ : OUnit
  dim   : Dim
  dflt  : List Nat
  lease : Bool
deriving DecidableEq, Repr

/-- Objects SY_IDENTITY.01–AU_TDM_MASK. -/
def dictionary1 : List Obj := [
  -- `SY_IDENTITY.01` (R344)
  ⟨0x1000, 1, .u32, [.ro], 15, 0, [.factory], .base, .scalar, [0], false⟩,
  -- `SY_IDENTITY.02` (R344)
  ⟨0x1000, 2, .u8, [.ro], 15, 0, [.volatile], .base, .scalar, [0], false⟩,
  -- `SY_IDENTITY.04` (R344)
  ⟨0x1000, 4, .u64, [.ro], 15, 0, [.factory], .base, .scalar, [0], false⟩,
  -- `SY_IDENTITY.06` (R344)
  ⟨0x1000, 6, .u64, [.ro], 15, 0, [.factory], .base, .scalar, [0], false⟩,
  -- `SY_IDENTITY.08` (R344)
  ⟨0x1000, 8, .str, [.ro], 15, 0, [.factory], .base, .scalar, [0], false⟩,
  -- `SY_CAPS.01` (R4)
  ⟨0x1010, 1, .u32, [.ro], 15, 0, [.factory], .base, .scalar, [0], false⟩,
  -- `SY_CAPS.02` (R345)
  ⟨0x1010, 2, .u16, [.ro], 15, 0, [.factory], .base, .scalar, [0], false⟩,
  -- `SY_CAPS.03` (R345)
  ⟨0x1010, 3, .u32, [.ro], 15, 0, [.factory], .base, .scalar, [0], false⟩,
  -- `SY_CAPS.04` (R345)
  ⟨0x1010, 4, .u32, [.ro], 15, 0, [.factory], .base, .scalar, [0], false⟩,
  -- `SY_ROLE` (R346)
  ⟨0x1018, 0, .u8, [.rw], 15, 6, [.saved], .base, .scalar, [0], false⟩,
  -- `SY_MODE.01` (R29)
  ⟨0x1020, 1, .u32, [.ro], 15, 0, [.volatile], .base, .scalar, [0xff003000], false⟩,
  -- `SY_MODE.02` (R30)
  ⟨0x1020, 2, .u8, [.wo], 0, 7, [.volatile], .base, .scalar, [0], false⟩,
  -- `SY_SAVE.01` (R348)
  ⟨0x1028, 1, .u64, [.ro], 15, 0, [.volatile], .base, .scalar, [0], false⟩,
  -- `SY_SAVE.03` (R348)
  ⟨0x1028, 3, .u8, [.wo], 0, 14, [.volatile], .base, .scalar, [0], false⟩,
  -- `SY_DICT` (R342)
  ⟨0x1030, 0, .u64, [.ro, .ro, .ro], 15, 0, [.volatile, .volatile, .volatile], .base, .dict, [0, 0, 0], false⟩,
  -- `XP_QUEUE` (R78)
  ⟨0x2008, 0, .u32, [.ro, .ro, .ro, .ro, .rc, .rc, .rc], 15, 0, [.volatile, .volatile, .volatile, .volatile, .volatile, .volatile, .volatile], .base, (.perDie 1), [0, 0, 0, 0, 0, 0, 0], false⟩,
  -- `XP_REFUSED` (R79)
  ⟨0x2009, 0, .u64, [.ro], 15, 0, [.volatile], .base, (.const 4), [0], false⟩,
  -- `XP_TAKE` (R70)
  ⟨0x2010, 0, .u64, [.rw, .rw, .ro], 15, 7, [.volatile, .volatile, .volatile], .base, (.perDie 6144), [0, 0, 0], true⟩,
  -- `XP_SALVO` (R84)
  ⟨0x2020, 0, .u64, [.rw, .rw, .ro], 15, 7, [.volatile, .volatile, .volatile], .base, (.from1 4095), [0, 0, 0xffff], false⟩,
  -- `XP_DST` (R62)
  ⟨0x2030, 0, .u64, [.ro], 15, 0, [.volatile], .base, .ports, [0], false⟩,
  -- `XP_REBUILD_WAIT` (R89)
  ⟨0x2038, 0, .u8, [.rw], 15, 6, [.saved], .base, .scalar, [4], false⟩,
  -- `ES_PORT_SRC` (R53)
  ⟨0x2810, 0, .u64, [.rw], 15, 6, [.saved], .base, .ports, [0], false⟩,
  -- `ES_PORT_DST` (R53)
  ⟨0x2818, 0, .u64, [.rw], 15, 6, [.saved], .base, .ports, [0], false⟩,
  -- `ES_CALENDAR` (R55)
  ⟨0x2840, 0, .u32, [.ro], 15, 0, [.volatile], .base, (.perDie 4096), [0], false⟩,
  -- `ES_CAL_CTRL.01` (R56)
  ⟨0x2848, 1, .u32, [.ro], 15, 0, [.volatile], .base, .scalar, [0], false⟩,
  -- `ES_CAL_CTRL.02` (R56)
  ⟨0x2848, 2, .u8, [.wo], 0, 6, [.volatile], .base, .scalar, [0], false⟩,
  -- `ES_CAL_CTRL.03` (R56)
  ⟨0x2848, 3, .u32, [.ro], 15, 0, [.volatile], .base, .scalar, [0], false⟩,
  -- `ES_RX_COUNTS` (R60)
  ⟨0x2858, 0, .u32, [.rc, .rc, .rc, .rc, .rc, .rc, .rc, .rc], 15, 0, [.volatile, .volatile, .volatile, .volatile, .volatile, .volatile, .volatile, .volatile], .base, (.perDie 64), [0, 0, 0, 0, 0, 0, 0, 0], false⟩,
  -- `ES_ALIGN` (R106)
  ⟨0x2860, 0, .u32, [.rw], 15, 6, [.saved], .base, .ports, [0x40a0000], false⟩,
  -- `ES_ALIGN_STAT` (R109)
  ⟨0x2864, 0, .u64, [.ro, .rc], 15, 0, [.volatile, .volatile], .base, .ports, [0, 0], false⟩,
  -- `ES_ALIGN_POOL` (R110)
  ⟨0x2868, 0, .u32, [.ro, .ro, .ro, .ro], 15, 0, [.volatile, .volatile, .volatile, .volatile], .base, (.perDie 1), [0, 0, 0, 0], false⟩,
  -- `ES_ALIGN_GUARD` (R111)
  ⟨0x286C, 0, .u8, [.rw], 15, 6, [.saved], .base, .scalar, [0x10], false⟩,
  -- `AU_CTRL` (R132)
  ⟨0x3008, 0, .u32, [.rw], 15, 6, [.saved], .base, (.perDie 1), [0x41003000], false⟩,
  -- `AU_SRC` (R118)
  ⟨0x3010, 0, .u32, [.rw], 15, 6, [.saved], .base, (.perDie 8192), [0], false⟩,
  -- `AU_DST` (R120)
  ⟨0x3020, 0, .u64, [.rw, .rw, .ro], 15, 7, [.volatile, .saved, .volatile], .base, (.perDie 8192), [0, 0, 0], true⟩,
  -- `AU_GAIN` (R134)
  ⟨0x3028, 0, .u16, [.rw], 15, 7, [.saved], .base, (.perDie 256), [0], false⟩,
  -- `AU_EMB_DATA` (R133)
  ⟨0x3030, 0, .u32, [.rw], 15, 6, [.saved], .base, .ports, [0], false⟩,
  -- `AU_USE` (R138)
  ⟨0x3038, 0, .u32, [.ro, .ro, .ro, .ro, .rc, .rc, .rc, .rc], 15, 0, [.volatile, .volatile, .volatile, .volatile, .volatile, .volatile, .volatile, .volatile], .base, (.perDie 1), [0, 0, 0, 0, 0, 0, 0, 0], false⟩,
  -- `AU_TDM` (R141)
  ⟨0x3040, 0, .u32, [.rw], 15, 6, [.saved], .auport, (.perDie 8), [0], false⟩,
  -- `AU_TDM_MASK` (R147)
  ⟨0x3048, 0, .u64, [.rw], 15, 6, [.saved], .auport, (.perDie 8), [0xffffffffffffffff], false⟩]

/-- Objects AU_AES–TM_SERVO.01. -/
def dictionary2 : List Obj := [
  -- `AU_AES` (R144)
  ⟨0x3050, 0, .u32, [.rw], 15, 6, [.saved], .auport, (.perDie 4), [0], false⟩,
  -- `AU_START` (R150)
  ⟨0x3058, 0, .u64, [.rw, .rw, .rw, .ro], 15, 6, [.volatile, .volatile, .volatile, .volatile], .auport, (.const 8), [0, 0, 0, 0], false⟩,
  -- `AU_ASRC` (R157)
  ⟨0x3060, 0, .u64, [.rw, .ro], 15, 6, [.saved, .volatile], .base, (.perDie 64), [0, 0], false⟩,
  -- `AU_PORT_STAT` (R155)
  ⟨0x3068, 0, .u64, [.ro, .ro, .ro, .rc], 15, 0, [.volatile, .volatile, .volatile, .volatile], .auport, (.perDie 12), [0, 0, 0, 0], false⟩,
  -- `CM_HEAD` (R181)
  ⟨0x3810, 0, .u64, [.rw, .rw, .ro], 15, 7, [.volatile, .saved, .volatile], .comp, (.perDie 32), [0, 0, 0], true⟩,
  -- `CM_LAYER` (R170)
  ⟨0x3820, 0, .u64, [.rw, .rw, .rw, .ro, .rc], 15, 7, [.saved, .saved, .saved, .volatile, .volatile], .comp, (.perDie 256), [0x2000, 0, 0, 0, 0], true⟩,
  -- `CM_PALETTE` (R180)
  ⟨0x3828, 0, .u64, [.rw], 15, 7, [.saved], .comp, (.perDie 256), [0x100800800ffc0000], false⟩,
  -- `CM_IMAGE` (R178)
  ⟨0x3830, 0, .u64, [.rw], 15, 6, [.volatile], .comp, (.perDie 1024), [0], false⟩,
  -- `CM_PIXELS` (R179)
  ⟨0x3838, 0, .u64, [.rw], 15, 6, [.volatile], .comp, (.perDie 536870912), [0], false⟩,
  -- `CM_POOL` (R189)
  ⟨0x3848, 0, .u32, [.ro, .ro, .ro, .ro, .ro, .ro, .ro, .ro], 15, 0, [.volatile, .volatile, .volatile, .volatile, .volatile, .volatile, .volatile, .volatile], .comp, (.perDie 1), [0, 0, 0, 0, 0, 0, 0, 0], false⟩,
  -- `LK_SHEET` (R206)
  ⟨0x4008, 0, .u32, [.ro, .ro], 15, 0, [.volatile, .volatile], .base, .scalar, [0, 0], false⟩,
  -- `LK_LANE` (R197)
  ⟨0x4010, 0, .u32, [.rw], 15, 6, [.saved], .base, (.perDie 160), [0], false⟩,
  -- `LK_TXEQ` (R209)
  ⟨0x4018, 0, .u32, [.rw], 15, 6, [.saved], .base, (.perDie 160), [0xc4500000], false⟩,
  -- `LK_RXEQ` (R210)
  ⟨0x4020, 0, .u32, [.rw], 15, 6, [.saved], .base, (.perDie 160), [0x80000000], false⟩,
  -- `LK_STAT` (R215)
  ⟨0x4028, 0, .u64, [.ro, .rc], 15, 0, [.volatile, .volatile], .base, (.perDie 160), [0xc00000000000000, 0], false⟩,
  -- `LK_PRBS` (R214)
  ⟨0x4030, 0, .u64, [.rw, .rw, .rc], 15, 4, [.volatile, .volatile, .volatile], .base, (.noStay 160), [0, 0, 0], false⟩,
  -- `LK_SPARE` (R213)
  ⟨0x4038, 0, .u32, [.rw, .ro, .rc, .rc], 15, 4, [.volatile, .volatile, .volatile, .volatile], .base, (.perDie 16), [0, 0, 0, 0], false⟩,
  -- `LK_ERR_LIMIT` (R216)
  ⟨0x4040, 0, .u16, [.rw], 15, 6, [.saved], .base, .scalar, [0x10], false⟩,
  -- `MX_MAC` (R218)
  ⟨0x4810, 0, .u64, [.rw, .rw, .rw], 15, 6, [.saved, .saved, .saved], .media, (.perDie 16), [0x45ee000000000000, 0, 0], false⟩,
  -- `MX_XPORT_SRC` (R233)
  ⟨0x4818, 0, .u64, [.rw, .rw, .rw, .rw], 15, 6, [.saved, .saved, .saved, .saved], .base, .ports, [0, 0, 0, 0], false⟩,
  -- `MX_XPORT_DST` (R233)
  ⟨0x4820, 0, .u64, [.rw, .rw, .rw, .rw], 15, 6, [.saved, .saved, .saved, .saved], .base, .ports, [0, 0, 0, 0], false⟩,
  -- `MX_AFLOW_RX` (R239)
  ⟨0x4828, 0, .u64, [.rw, .rw], 15, 6, [.saved, .saved], .media, (.perDie 128), [0, 0], false⟩,
  -- `MX_AFLOW_TX` (R239)
  ⟨0x4830, 0, .u64, [.rw, .rw], 15, 6, [.saved, .saved], .media, (.perDie 128), [0, 0], false⟩,
  -- `MX_RING` (R223)
  ⟨0x4840, 0, .u64, [.rw, .rw, .ro], 15, 6, [.volatile, .volatile, .volatile], .media, (.perDie 32), [0, 0x100000000000000, 0], false⟩,
  -- `MX_RX_NOBUF` (R227)
  ⟨0x4848, 0, .u32, [.rc], 15, 0, [.volatile], .media, (.perDie 16), [0], false⟩,
  -- `MX_TSQ` (R230)
  ⟨0x4850, 0, .u64, [.rc, .ro], 15, 0, [.volatile, .volatile], .media, (.perDie 32), [0, 0], false⟩,
  -- `MX_TS_OVF` (R231)
  ⟨0x4858, 0, .u64, [.rc], 15, 0, [.volatile], .media, (.perDie 2048), [0], false⟩,
  -- `MX_STATS` (R232)
  ⟨0x4860, 0, .u64, [.rc, .rc, .rc, .rc, .rc, .rc, .rc, .rc, .rc, .rc, .rc, .rc, .rc, .rc, .rc, .rc], 15, 0, [.volatile, .volatile, .volatile, .volatile, .volatile, .volatile, .volatile, .volatile, .volatile, .volatile, .volatile, .volatile, .volatile, .volatile, .volatile, .volatile], .media, (.perDie 16), [0, 0, 0, 0, 0, 0, 0, 0, 0, 0, 0, 0, 0, 0, 0, 0], false⟩,
  -- `MX_ANC_RECIPE` (R247)
  ⟨0x4868, 0, .u32, [.rw], 15, 6, [.saved], .base, (.const 2048), [0], false⟩,
  -- `MX_PORT_STAT` (R249)
  ⟨0x4870, 0, .u64, [.ro, .rc, .rc], 15, 0, [.volatile, .volatile, .volatile], .base, .twoPorts, [0, 0, 0], false⟩,
  -- `TM_STATE.01` (R271)
  ⟨0x5000, 1, .u32, [.ro], 15, 0, [.volatile], .base, .scalar, [0xf000000], false⟩,
  -- `TM_STATE.02` (R271)
  ⟨0x5000, 2, .u32, [.w1c], 15, 6, [.volatile], .base, .scalar, [0], false⟩,
  -- `TM_STATE.03` (R271)
  ⟨0x5000, 3, .u32, [.rw], 15, 6, [.saved], .base, .scalar, [0x7ff], false⟩,
  -- `TM_TIME` (R255)
  ⟨0x5008, 0, .u64, [.ro, .ro, .ro], 15, 0, [.volatile, .volatile, .volatile], .base, .scalar, [0, 0, 0], false⟩,
  -- `TM_REF` (R257)
  ⟨0x5010, 0, .u64, [.rw, .rw], 15, 6, [.saved, .saved], .base, (.const 14), [0x7c050a000000000, 0], false⟩,
  -- `TM_REF_STAT` (R261)
  ⟨0x5018, 0, .u64, [.ro, .rc], 15, 0, [.volatile, .volatile], .base, (.const 14), [0x1fe00000000000, 0], false⟩,
  -- `TM_REF_CMD` (R269)
  ⟨0x5020, 0, .u8, [.wo], 0, 4, [.volatile], .base, (.const 14), [0], false⟩,
  -- `TM_PTP_PORT` (R263)
  ⟨0x5028, 0, .u64, [.rw], 15, 6, [.saved], .base, (.const 4), [0x3f901000000000], false⟩,
  -- `TM_PTP_STAT` (R266)
  ⟨0x5030, 0, .u64, [.ro, .ro, .rc], 15, 0, [.volatile, .volatile, .volatile], .base, (.const 4), [0xfffeffff00ffff0, 0, 0], false⟩,
  -- `TM_SERVO.01` (R273)
  ⟨0x5038, 1, .u32, [.rw], 15, 6, [.saved], .base, .scalar, [0x80001000], false⟩]

/-- Objects TM_SERVO.02–IC_CRC_USE. -/
def dictionary3 : List Obj := [
  -- `TM_SERVO.02` (R273)
  ⟨0x5038, 2, .u32, [.rw], 15, 6, [.saved], .base, .scalar, [0x3e8], false⟩,
  -- `TM_SERVO.03` (R273)
  ⟨0x5038, 3, .u32, [.rw], 15, 6, [.saved], .base, .scalar, [0x64], false⟩,
  -- `TM_SERVO.04` (R273)
  ⟨0x5038, 4, .u16, [.rw], 15, 6, [.saved], .base, .scalar, [0x32], false⟩,
  -- `TM_SERVO.05` (R273)
  ⟨0x5038, 5, .u16, [.rw], 15, 6, [.saved], .base, .scalar, [0x64], false⟩,
  -- `TM_SERVO.06` (R273)
  ⟨0x5038, 6, .u32, [.rw], 15, 6, [.saved], .base, .scalar, [0x186a0], false⟩,
  -- `TM_HOLDOVER.01` (R278)
  ⟨0x5040, 1, .u16, [.rw], 15, 6, [.saved], .base, .scalar, [0x12c], false⟩,
  -- `TM_HOLDOVER.02` (R278)
  ⟨0x5040, 2, .u8, [.rw], 15, 6, [.saved], .base, .scalar, [0], false⟩,
  -- `TM_HOLDOVER.03` (R278)
  ⟨0x5040, 3, .i32, [.rw], 15, 6, [.saved], .base, .scalar, [0], false⟩,
  -- `TM_HOLDOVER.04` (R278)
  ⟨0x5040, 4, .u32, [.ro], 15, 0, [.saved], .base, .scalar, [0], false⟩,
  -- `TM_HOLDOVER.05` (R278)
  ⟨0x5040, 5, .u8, [.wo], 0, 6, [.volatile], .base, .scalar, [0], false⟩,
  -- `TM_HO_CURVE` (R278)
  ⟨0x5048, 0, .i32, [.rw], 15, 6, [.saved], .base, (.const 16), [0], false⟩,
  -- `TM_STEP` (R275)
  ⟨0x5050, 0, .u64, [.rw, .rw, .rw, .ro], 15, 4, [.volatile, .volatile, .volatile, .volatile], .base, .scalar, [0, 0, 0, 0], false⟩,
  -- `TM_OUT` (R280)
  ⟨0x5058, 0, .u64, [.rw, .rw], 15, 6, [.saved, .saved], .base, (.const 8), [0, 0], false⟩,
  -- `TW_CONFIG` (R282)
  ⟨0x5808, 0, .u64, [.rw], 15, 6, [.saved], .base, .scalar, [0], false⟩,
  -- `TW_PAIR` (R293)
  ⟨0x5810, 0, .u32, [.rw], 15, 6, [.saved], .base, (.perDie 128), [0], false⟩,
  -- `TW_STATE` (R292)
  ⟨0x5818, 0, .u64, [.ro, .rc], 15, 0, [.volatile, .volatile], .base, .scalar, [0, 0], false⟩,
  -- `TW_PAIR_STAT` (R299)
  ⟨0x5820, 0, .u64, [.ro, .rc, .rc], 15, 0, [.volatile, .volatile, .volatile], .base, (.perDie 64), [0x3000000000000000, 0, 0], false⟩,
  -- `TW_CMP` (R300)
  ⟨0x5828, 0, .u16, [.rc], 15, 0, [.volatile], .base, (.perDie 1536), [0], false⟩,
  -- `TW_HEALTH` (R303)
  ⟨0x5830, 0, .u64, [.ro, .ro, .ro, .ro], 15, 0, [.volatile, .volatile, .volatile, .volatile], .base, (.const 2), [0, 0, 0, 0], false⟩,
  -- `CT_NODE` (R310)
  ⟨0x6008, 0, .u16, [.rw], 15, 6, [.saved], .base, .scalar, [0], false⟩,
  -- `CT_SESSION.01` (R320)
  ⟨0x6010, 1, .blob, [.wo], 0, 15, [.volatile], .base, .scalar, [0], false⟩,
  -- `CT_SESSION.02` (R321)
  ⟨0x6010, 2, .u16, [.wo], 0, 15, [.volatile], .base, .scalar, [0], false⟩,
  -- `CT_SESSION.03` (R320)
  ⟨0x6010, 3, .blob, [.ro], 15, 0, [.volatile], .base, .scalar, [0], false⟩,
  -- `CT_CONTEXT` (R320)
  ⟨0x6018, 0, .u64, [.rw, .rw, .rw, .rw, .rw], 15, 12, [.saved, .saved, .saved, .saved, .saved], .base, (.const 4), [0, 0, 0, 0, 0], false⟩,
  -- `CT_BUS` (R307)
  ⟨0x6020, 0, .u64, [.rw, .ro], 15, 6, [.saved, .saved], .base, (.const 4), [0, 0], false⟩,
  -- `CT_BUS_STAT` (R309)
  ⟨0x6028, 0, .u8, [.w1c], 15, 6, [.volatile], .base, (.const 4), [0], false⟩,
  -- `CT_LEASE` (R336)
  ⟨0x6030, 0, .u8, [.rw], 15, 7, [.saved], .base, .lease, [0], false⟩,
  -- `CT_EMERG` (R328)
  ⟨0x6038, 0, .u64, [.rw], 15, 6, [.saved], .base, (.const 4), [0], false⟩,
  -- `CT_VIOLATION` (R337)
  ⟨0x6040, 0, .u64, [.ro, .ro, .ro], 15, 0, [.volatile, .volatile, .volatile], .base, (.const 16), [0, 0, 0], false⟩,
  -- `CT_NCP_STAT` (R319)
  ⟨0x6048, 0, .u32, [.rc, .rc, .rc, .rc, .rc, .rc, .rc, .rc], 15, 0, [.volatile, .volatile, .volatile, .volatile, .volatile, .volatile, .volatile, .volatile], .base, .scalar, [0, 0, 0, 0, 0, 0, 0, 0], false⟩,
  -- `CT_SESSION_STAT` (R322)
  ⟨0x6050, 0, .u64, [.ro, .ro], 15, 0, [.volatile, .volatile], .base, (.const 4), [0, 0], false⟩,
  -- `IC_QOS` (R353)
  ⟨0x6808, 0, .u8, [.rw], 15, 4, [.saved], .base, (.perDie 12), [0], false⟩,
  -- `IC_AGE` (R353)
  ⟨0x680C, 0, .u16, [.rw], 15, 4, [.saved], .base, .scalar, [0x40], false⟩,
  -- `IC_REMAP` (R356)
  ⟨0x6810, 0, .u8, [.ro], 15, 0, [.volatile], .base, (.perDie 1), [0], false⟩,
  -- `IC_ABORT_LOG` (R358)
  ⟨0x6818, 0, .u64, [.ro, .ro], 15, 0, [.volatile, .volatile], .base, (.perDie 8), [0, 0], false⟩,
  -- `IC_XBAR_STAT` (R359)
  ⟨0x681C, 0, .u32, [.rc, .rc, .rc, .rc], 15, 0, [.volatile, .volatile, .volatile, .volatile], .base, (.perDie 10), [0, 0, 0, 0], false⟩,
  -- `IC_ENGINE` (R361)
  ⟨0x6820, 0, .u64, [.ro, .rc], 15, 0, [.volatile, .volatile], .base, (.perDie 24), [0x5000000000000000, 0], false⟩,
  -- `IC_ENG_CMD` (R363)
  ⟨0x6828, 0, .u16, [.wo], 0, 4, [.volatile], .base, (.perDie 24), [0], false⟩,
  -- `IC_CRC` (R368)
  ⟨0x6830, 0, .u64, [.rw, .rw, .rw, .rw, .rw, .rw, .rw, .ro, .ro], 15, 6, [.volatile, .volatile, .volatile, .volatile, .volatile, .volatile, .volatile, .volatile, .volatile], .base, (.perDie 4), [0, 0, 0, 0, 0, 0, 0, 0, 0], false⟩,
  -- `IC_CRC_USE` (R371)
  ⟨0x6838, 0, .u32, [.rc, .rc, .rc, .rc], 15, 0, [.volatile, .volatile, .volatile, .volatile], .base, (.perDie 1), [0, 0, 0, 0], false⟩]

/-- Objects IC_TX_LEAD–PW_VCORE.04. -/
def dictionary4 : List Obj := [
  -- `IC_TX_LEAD` (R17)
  ⟨0x6840, 0, .u8, [.rw], 15, 6, [.saved], .base, (.perDie 1), [4], false⟩,
  -- `MM_SRAM_STAT` (R373)
  ⟨0x7008, 0, .u32, [.rc, .rc, .rc, .rc, .rc, .rc], 15, 0, [.volatile, .volatile, .volatile, .volatile, .volatile, .volatile], .base, (.perDie 1), [0, 0, 0, 0, 0, 0], false⟩,
  -- `MM_CHANNEL` (R375)
  ⟨0x7010, 0, .u64, [.rw], 15, 6, [.saved], .fsync, (.perDie 4), [0x8000300000000000], false⟩,
  -- `MM_CHAN_STAT` (R387)
  ⟨0x7018, 0, .u64, [.ro, .rc], 15, 0, [.volatile, .volatile], .fsync, (.perDie 4), [0, 0], false⟩,
  -- `MM_RANK` (R388)
  ⟨0x7020, 0, .u32, [.ro], 15, 0, [.volatile], .fsync, (.perDie 16), [0], false⟩,
  -- `MM_CMD` (R385)
  ⟨0x7028, 0, .u16, [.wo], 0, 4, [.volatile], .fsync, (.perDie 16), [0], false⟩,
  -- `MM_WIPE_POLICY` (R389)
  ⟨0x7030, 0, .u8, [.rw], 15, 8, [.saved], .fsync, .scalar, [0], false⟩,
  -- `EV_FAULT` (R396)
  ⟨0x7808, 0, .u64, [.ro, .ro, .rc], 15, 0, [.volatile, .volatile, .volatile], .base, (.perDie 1), [0, 0, 0], false⟩,
  -- `EV_SILLAGE` (R403)
  ⟨0x7810, 0, .u64, [.ro, .ro], 15, 0, [.volatile, .volatile], .base, (.perDie 1), [0, 0xc0000000], false⟩,
  -- `EV_CURSOR` (R401)
  ⟨0x7820, 0, .u64, [.rw], 15, 15, [.volatile], .base, (.const 4), [0], false⟩,
  -- `EV_WINDOW` (R402)
  ⟨0x7828, 0, .u64, [.ro, .ro, .ro, .ro], 15, 0, [.volatile, .volatile, .volatile, .volatile], .base, (.const 1024), [0, 0, 0, 0], false⟩,
  -- `EV_CLEAR.01` (R404)
  ⟨0x7830, 1, .blob, [.ro], 8, 0, [.volatile], .base, .scalar, [0], false⟩,
  -- `EV_CLEAR.02` (R404)
  ⟨0x7830, 2, .blob, [.wo], 0, 8, [.volatile], .base, .scalar, [0], false⟩,
  -- `EV_LASTGASP` (R406)
  ⟨0x7838, 0, .u64, [.ro, .ro, .ro, .ro], 15, 0, [.volatile, .volatile, .volatile, .volatile], .base, (.const 16), [0, 0, 0, 0], false⟩,
  -- `EV_CMD` (R397)
  ⟨0x7840, 0, .u8, [.wo], 0, 4, [.volatile], .base, (.perDie 1), [0], false⟩,
  -- `EV_GPI` (R408)
  ⟨0x7848, 0, .u64, [.rw], 15, 6, [.saved], .base, (.const 36), [0x7d0014202320], false⟩,
  -- `EV_GPI_STAT` (R410)
  ⟨0x7850, 0, .u64, [.ro, .rc], 15, 0, [.volatile, .volatile], .base, (.const 36), [0, 0], false⟩,
  -- `FW_STATE` (R430)
  ⟨0x8008, 0, .u64, [.ro, .ro, .ro, .ro, .ro, .ro, .ro, .ro, .ro, .ro, .ro, .ro, .ro, .ro, .ro, .ro, .ro, .ro, .ro, .ro], 15, 0, [.volatile, .volatile, .volatile, .volatile, .volatile, .volatile, .volatile, .volatile, .volatile, .volatile, .volatile, .volatile, .volatile, .volatile, .volatile, .volatile, .volatile, .volatile, .volatile, .volatile], .base, .scalar, [0, 0, 0, 0, 0, 0, 0, 0, 0, 0, 0, 0, 0, 0, 0, 0, 0, 0, 0, 0], false⟩,
  -- `FW_CMD` (R425)
  ⟨0x8010, 0, .u64, [.rw, .rw, .rw], 15, 4, [.volatile, .volatile, .volatile], .base, .scalar, [0, 0, 0], false⟩,
  -- `FW_SIG_POLICY` (R416)
  ⟨0x8018, 0, .u8, [.rw], 15, 12, [.saved], .base, .scalar, [0], false⟩,
  -- `FW_COUNTERS` (R423)
  ⟨0x8020, 0, .u32, [.ro], 15, 0, [.factory], .base, .scalar, [0], false⟩,
  -- `FW_FLASH` (R424)
  ⟨0x8030, 0, .blob, [.wo], 0, 4, [.volatile], .base, .scalar, [0], false⟩,
  -- `FW_ATTEST` (R419)
  ⟨0x8038, 0, .u64, [.ro, .ro, .ro, .ro, .ro, .ro, .ro, .ro, .ro, .ro], 15, 0, [.volatile, .volatile, .volatile, .volatile, .volatile, .volatile, .volatile, .volatile, .volatile, .volatile], .base, (.const 64), [0, 0, 0, 0, 0, 0, 0, 0, 0, 0], false⟩,
  -- `FW_QUOTE.01` (R421)
  ⟨0x8040, 1, .blob, [.wo], 0, 14, [.volatile], .base, .scalar, [0], false⟩,
  -- `FW_QUOTE.02` (R421)
  ⟨0x8040, 2, .blob, [.ro], 15, 0, [.volatile], .base, .scalar, [0], false⟩,
  -- `FW_IDKEY` (R422)
  ⟨0x8048, 0, .blob, [.ro], 15, 0, [.factory], .base, .scalar, [0], false⟩,
  -- `FW_LIFECYCLE.01` (R431)
  ⟨0x8050, 1, .u8, [.ro], 15, 0, [.factory], .base, .scalar, [1], false⟩,
  -- `FW_LIFECYCLE.02` (R431)
  ⟨0x8050, 2, .blob, [.wo], 0, 12, [.volatile], .base, .scalar, [0], false⟩,
  -- `FW_LIFECYCLE.03` (R431)
  ⟨0x8050, 3, .blob, [.ro], 12, 0, [.volatile], .base, .scalar, [0], false⟩,
  -- `PW_SUPPLY` (R442)
  ⟨0x8808, 0, .u16, [.w1c], 15, 6, [.volatile], .base, .scalar, [0], false⟩,
  -- `PW_DOMAIN` (R437)
  ⟨0x8810, 0, .u16, [.rw], 15, 6, [.saved], .base, .domains, [0x4400], false⟩,
  -- `PW_MON` (R445)
  ⟨0x8818, 0, .u64, [.rc], 15, 0, [.volatile], .base, .monitors, [0], false⟩,
  -- `PW_THERM` (R443)
  ⟨0x8820, 0, .u8, [.rw], 15, 6, [.saved], .base, .scalar, [0x6e], false⟩,
  -- `PW_PACE` (R448)
  ⟨0x8828, 0, .u64, [.ro, .ro], 15, 0, [.volatile, .volatile], .base, (.perDie 1), [0, 0xffffffff], false⟩,
  -- `PW_DROOP` (R451)
  ⟨0x8830, 0, .u64, [.rc, .rc], 15, 0, [.volatile, .volatile], .base, (.perDie 1), [0x3e8ffff00000000, 0], false⟩,
  -- `PW_PLAN` (R456)
  ⟨0x8838, 0, .u64, [.ro], 15, 0, [.volatile], .base, (.const 65), [0], false⟩,
  -- `PW_VCORE.01` (R457)
  ⟨0x8840, 1, .u16, [.ro], 15, 0, [.factory], .base, .scalar, [0x2e4], false⟩,
  -- `PW_VCORE.02` (R457)
  ⟨0x8840, 2, .u16, [.rw], 15, 4, [.saved], .base, .scalar, [0x2e4], false⟩,
  -- `PW_VCORE.03` (R457)
  ⟨0x8840, 3, .u16, [.ro], 15, 0, [.volatile], .base, .scalar, [0], false⟩,
  -- `PW_VCORE.04` (R457)
  ⟨0x8840, 4, .u8, [.ro], 15, 0, [.volatile], .base, .scalar, [0], false⟩]

/-- Objects PW_VCORE.05–PW_AGE. -/
def dictionary5 : List Obj := [
  -- `PW_VCORE.05` (R457)
  ⟨0x8840, 5, .u8, [.rw], 15, 6, [.saved], .base, .scalar, [0x40], false⟩,
  -- `PW_SHED` (R455)
  ⟨0x8848, 0, .u32, [.rw], 15, 6, [.saved], .base, .scalar, [0xc0000000], false⟩,
  -- `PW_KEEP` (R455)
  ⟨0x884C, 0, .u8, [.rw], 15, 6, [.saved], .base, .keep, [0], false⟩,
  -- `PW_AGE` (R460)
  ⟨0x8850, 0, .u64, [.ro, .ro], 15, 0, [.volatile, .volatile], .base, (.perDie 1), [0, 0], false⟩]

/-- The whole dictionary, sorted by index and then by subindex (R342). -/
def dictionary : List Obj := dictionary1 ++ dictionary2 ++ dictionary3 ++ dictionary4 ++ dictionary5

/-- The object of an index and subindex, where one exists in some member. -/
def findObj (ix sub : Nat) : Option Obj := dictionary.find? fun o => o.ix == ix && o.sub == sub

/-- The words that do not default to zero: object, word (a scalar's subindex), default. -/
def defaults : List (Nat × Nat × Nat) := [
  (0x1020, 1, 0xff003000),
  (0x2020, 2, 0xffff),
  (0x2038, 0, 4),
  (0x2860, 0, 0x40a0000),
  (0x286C, 0, 0x10),
  (0x3008, 0, 0x41003000),
  (0x3048, 0, 0xffffffffffffffff),
  (0x3820, 0, 0x2000),
  (0x3828, 0, 0x100800800ffc0000),
  (0x4018, 0, 0xc4500000),
  (0x4020, 0, 0x80000000),
  (0x4028, 0, 0xc00000000000000),
  (0x4040, 0, 0x10),
  (0x4810, 0, 0x45ee000000000000),
  (0x4840, 1, 0x100000000000000),
  (0x5000, 1, 0xf000000),
  (0x5000, 3, 0x7ff),
  (0x5010, 0, 0x7c050a000000000),
  (0x5018, 0, 0x1fe00000000000),
  (0x5028, 0, 0x3f901000000000),
  (0x5030, 0, 0xfffeffff00ffff0),
  (0x5038, 1, 0x80001000),
  (0x5038, 2, 0x3e8),
  (0x5038, 3, 0x64),
  (0x5038, 4, 0x32),
  (0x5038, 5, 0x64),
  (0x5038, 6, 0x186a0),
  (0x5040, 1, 0x12c),
  (0x5820, 0, 0x3000000000000000),
  (0x680C, 0, 0x40),
  (0x6820, 0, 0x5000000000000000),
  (0x6840, 0, 4),
  (0x7010, 0, 0x8000300000000000),
  (0x7810, 1, 0xc0000000),
  (0x7848, 0, 0x7d0014202320),
  (0x8050, 1, 1),
  (0x8810, 0, 0x4400),
  (0x8820, 0, 0x6e),
  (0x8828, 1, 0xffffffff),
  (0x8830, 0, 0x3e8ffff00000000),
  (0x8840, 1, 0x2e4),
  (0x8840, 2, 0x2e4),
  (0x8840, 5, 0x40),
  (0x8848, 0, 0xc0000000)]

/-- The default QoS of a master (R349). -/
def masterQos (m : Nat) : Nat := [8, 8, 12, 10, 10, 10, 4, 2, 6, 9, 8, 1].getD m 0

/-- CLASS of an engine, by its number (R21, R361). -/
def engineClass (e : Nat) : Nat := if e % 24 < 18 then 0 else if e % 24 < 21 then 1 else if e % 24 < 23 then 2 else 3

/-- The lane element is a transmit one (R195). -/
def laneIsTx (e : Nat) : Bool := 80 ≤ e % 160

/-- A fused MAC address: unicast and universally administered, whatever else the fuses hold (R344). -/
def fusedMac (v : BitVec 48) : BitVec 48 := v &&& 0xFCFFFFFFFFFF

/-- What a word reads as where none is listed: its value at reset and after the first LOAD from blank saved settings. The pulse
inputs' elements of `EV_GPI` (R408), context 0's word 0 of `CT_CONTEXT` (R320), the masters' elements of `IC_QOS` (R349), CLASS
of `IC_ENGINE` (R361), the half of `LK_TXEQ` and `LK_RXEQ` that reads 0 (R209, R210) and the fused MACADDR (R218) have
defaults of their own. -/
def dflt (k : Key) : W :=
  if k.ix = 0x7848 ∧ 32 ≤ k.e then 0x14202320
  else if k.ix = 0x6018 ∧ k.e = 0 ∧ k.w = 0 then 0xF000000000000000
  else if k.ix = 0x6808 then BitVec.ofNat 64 (masterQos (k.e % 12) * 16)
  else if k.ix = 0x6820 ∧ k.w = 0 then BitVec.ofNat 64 (5 * 2 ^ 60 + engineClass k.e * 2 ^ 58)
  else if k.ix = 0x4018 ∧ laneIsTx k.e = false then 0
  else if k.ix = 0x4020 ∧ laneIsTx k.e = true then 0
  else if k.ix = 0x4810 ∧ k.w = 1 then (fusedMac (Config.mediaMac k.e)).zeroExtend 64 <<< 16
  else match defaults.find? fun x => x.1 == k.ix && x.2.1 == k.w with
    | some x => BitVec.ofNat 64 x.2.2
    | none => 0

end Sys2Proof.Machine
end

