-- ==== Sys2Proof/Machine/Ops.lean ====
section
/-! DEFINITION. The named operations over the registers, the capabilities and the clock. -/
namespace Sys2Proof.Machine

/-! ### Registers -/

/-- A word of the dictionary as it stands. -/
def State.word (s : State) (ix e w : Nat) : W := tget dflt s.regs ⟨ix, e, w⟩

/-- A word of the dictionary set. -/
def State.setWord (s : State) (ix e w : Nat) (v : W) : State := { s with regs := tset dflt s.regs ⟨ix, e, w⟩ v }

/-- The shadow copy of a word. -/
def State.shadowWord (s : State) (ix e w : Nat) : W := tget dflt s.shadow ⟨ix, e, w⟩

/-- The shadow copy of a word set. -/
def State.setShadow (s : State) (ix e w : Nat) (v : W) : State := { s with shadow := tset dflt s.shadow ⟨ix, e, w⟩ v }

/-- A field of element `e`. -/
def State.fld (s : State) (f : Fld) (e : Nat) : Nat := getBits (s.word f.ix e f.w) f.lo f.len

/-- A field of element `e` set. -/
def State.setFld (s : State) (f : Fld) (e v : Nat) : State :=
  s.setWord f.ix e f.w (putBits (s.word f.ix e f.w) f.lo f.len v)

/-- A saturating counter field of element `e` advanced by `n`. -/
def State.bump (s : State) (f : Fld) (e n : Nat) : State := s.setFld f e (satAdd (2 ^ f.len - 1) (s.fld f e) n)

/-- A field of a word that is being written. -/
def Fld.of (f : Fld) (v : W) : Nat := getBits v f.lo f.len

/-- A word with a field replaced. -/
def Fld.put (f : Fld) (v : W) (n : Nat) : W := putBits v f.lo f.len n

/-! ### Capabilities (R2–R6, R345) -/

def Caps.dies (c : Caps) : Nat :=
  match c.member with | .sc8f => 8 | .sc8x => 8 | .sc4f => 4 | .sc2e => 2

def Caps.layers (c : Caps) : Nat :=
  match c.member with | .sc8f => 8 | .sc4f => 4 | _ => 0

def Caps.comp (c : Caps) : Bool := c.layers != 0

def Caps.fsync (c : Caps) : Bool := !(c.member == .sc2e)

def Caps.auport (c : Caps) : Bool := !(c.member == .sc2e)

def Caps.ports (c : Caps) : Nat := c.dies * 1536

/-- Whether the member accepts a role (R3). -/
def Caps.accepts (c : Caps) (role : Nat) : Bool := role == 2 || role == 3 || (role == 1 && !(c.member == .sc2e))

/-- The default role (R346). -/
def Caps.defaultRole (c : Caps) : Nat := if c.accepts 1 then 1 else 2

/-- `SY_CAPS.01` (R4). -/
def Caps.word (c : Caps) : Nat :=
  c.dies * 2 ^ 28 + c.layers * 2 ^ 24 + 2 ^ 22 + 2 ^ 21 + flag (c.accepts 1) * 2 ^ 20
    + flag c.media * 8 + flag c.fsync * 4 + flag c.auport * 2 + flag c.comp

/-- Whether a unit is present (R8). -/
def Caps.has (c : Caps) : OUnit → Bool
  | .base => true
  | .comp => c.comp
  | .auport => c.auport
  | .fsync => c.fsync
  | .media => c.media

/-! ### Modes and roles -/

def SAFE : Nat := 0
def LOAD : Nat := 1
def STANDBY : Nat := 2
def ACTIVE : Nat := 3
def HOLD : Nat := 4
def SERVICE : Nat := 5

def CORE : Nat := 1
def EDGE : Nat := 2
def GATEWAY : Nat := 3

def State.mode (s : State) : Nat := s.fld F.SY_MODE_MODE 0

def State.phase (s : State) : Nat := s.fld F.SY_MODE_PHASE 0

/-- The essence engines run (R31): they take what links and transports bring, and the stores, the audio crosspoint and the heads turn. -/
def State.enginesRun (s : State) : Bool := s.mode == STANDBY || s.mode == ACTIVE

/-- An event of the essence plane: nothing of it happens in a mode in which the engines do not run (R31). -/
def State.whileRunning (s : State) (k : State → State) : State := if s.enginesRun then k s else s

/-- Transports send essence (R31): in ACTIVE, and on a CORE in STANDBY; else SDI outputs are static low and MACs send no essence. -/
def State.essenceOut (s : State) : Bool := s.mode == ACTIVE || (s.mode == STANDBY && s.sys.role == CORE)

def State.dies (s : State) : Nat := s.caps.dies

/-- The mast answers requests: it exists, the package is not held in reset and the mast die is not isolated (R24, R393). -/
def State.alive (s : State) : Bool :=
  match s.sys.mast with
  | none => false
  | some m => !s.sys.held && !s.sys.isolated.contains m

def State.mastDie (s : State) : Nat := s.sys.mast.getD 0

/-! ### Time (R251, R253, R255, R276) -/

/-- Units of time in a nanosecond: 65 · 2³². -/
def nsUnits : Nat := 279172874240

/-- A sheet, 193 blocks of 132/65 ns (R204), in units. -/
def sheetUnits : Nat := 109418586832896

/-- One tick of the 250 MHz clock as it is told off by the timebase. -/
def tickUnits : Nat := 1116691496960

def secUnits : Nat := 1000000000 * nsUnits

/-- Time since power-on. -/
def State.now (s : State) : Nat := s.clk.mono

/-- House time H (R253). -/
def State.house (s : State) : Nat := (Int.ofNat s.clk.count + s.clk.hlag).toNat

/-- What one tick adds to the counter (R251). -/
def State.tickStep (s : State) : Nat := (65 * (17179869184 + s.clk.frac)).toNat

/-- How far H moves towards the counter in `n` ticks of slewing at SLEW (R276). -/
def State.slewStep (s : State) (n : Nat) : Nat := n * tickUnits * s.fld F.TM_SERVO_SLEW 0 / 100000000

/-- `n` ticks pass: the counter counts and H slews (R251, R276). -/
def State.ticks (s : State) (n : Nat) : State :=
  let d := s.slewStep n
  let h := if s.fld F.TM_STATE_SLEWING 0 = 0 then s.clk.hlag
    else if s.clk.hlag.natAbs ≤ d then 0
    else if s.clk.hlag < 0 then s.clk.hlag + d else s.clk.hlag - d
  { s with clk := { s.clk with mono := s.clk.mono + n * tickUnits, count := s.clk.count + n * s.tickStep, hlag := h } }

/-- Time passes until `t` since power-on, if it lies ahead. -/
def State.waitUntil (s : State) (t : Nat) : State := s.ticks ((t - s.now + tickUnits - 1) / tickUnits)

/-- Time passes until H reads `t`, if it lies ahead. -/
def State.waitHouse (s : State) (t : Nat) : State := s.ticks ((t - s.house + s.tickStep - 1) / s.tickStep)

/-- Time passes until the counter reads `t`, if it lies ahead. -/
def State.waitCount (s : State) (t : Nat) : State := s.ticks ((t - s.clk.count + s.tickStep - 1) / s.tickStep)

def ms (n : Nat) : Nat := n * 1000000 * nsUnits
def us (n : Nat) : Nat := n * 1000 * nsUnits
def secs (n : Nat) : Nat := n * secUnits

/-- Seconds and nanoseconds of a time (R251). -/
def secsOf (t : Nat) : Nat := t / secUnits % 2 ^ 48
def nanosOf (t : Nat) : Nat := t / nsUnits % 1000000000

/-- A time from seconds and nanoseconds. -/
def timeOf (sec ns : Nat) : Nat := sec * secUnits + ns * nsUnits

/-- The sheet boundary index at or after `t` of H (R204). -/
def sheetAtOrAfter (t : Nat) : Nat := (t + sheetUnits - 1) / sheetUnits

/-- A block, 132/65 ns (R204), in units. -/
def blockUnits : Nat := 566935683072

/-- The trim of R204, in 1/16 block. -/
def State.trim (s : State) : Int := signed 32 (s.fld F.LK_SHEET_TRIM 0)

/-- The instant on H at which sheet `n` starts (R204). -/
def State.sheetInstant (s : State) (n : Nat) : Nat := (Int.ofNat (n * sheetUnits) + s.trim * Int.ofNat (blockUnits / 16)).toNat

/-- The local sheet number: the last sheet whose instant has come. -/
def State.sheetNow (s : State) : Nat := (Int.ofNat s.house - s.trim * Int.ofNat (blockUnits / 16)).toNat / sheetUnits

/-! ### Parts of the state changed -/

def State.withSys (s : State) (f : SysState → SysState) : State := { s with sys := f s.sys }
def State.withHost (s : State) (f : HostState → HostState) : State := { s with host := f s.host }
def State.withEv (s : State) (f : EvState → EvState) : State := { s with ev := f s.ev }
def State.withTm (s : State) (f : TimeState → TimeState) : State := { s with tm := f s.tm }
def State.withSave (s : State) (f : SaveState → SaveState) : State := { s with save := f s.save }
def State.withFw (s : State) (f : FwState → FwState) : State := { s with fw := f s.fw }
def State.withPw (s : State) (f : PowerState → PowerState) : State := { s with pw := f s.pw }

/-- A free value taken: the state that has used it, and the value. -/
def State.takeFree (s : State) : State × W := ({ s with fresh := s.fresh + 1 }, Config.free s.fresh)

end Sys2Proof.Machine
end

