-- ==== Sys2Proof/Machine/Formats.lean ====
section
/-! DEFINITION. Picture formats (R38), their line systems and switch lines (R66), frame and field counts (R67), and the
judgement of a when-clause (R68, R69). Instants are compared exactly, as multiples of a line period. -/
namespace Sys2Proof.Machine

/-- A picture format: frame rate `num/den`, total lines, carried lines of each field, words of a VIDEO payload, slots, the
most embedded channels ÷ 4, the switch lines, and the first line of field 2 (0: progressive). -/
structure Format where
  num    : Nat
  den    : Nat
  lines  : Nat
  first1 : Nat
  last1  : Nat
  first2 : Nat
  last2  : Nat
  words  : Nat
  slots  : Nat
  ach    : Nat
  sw1    : Nat
  sw2    : Nat
  field2 : Nat
deriving DecidableEq, Repr

/-- The formats of R38; an identifier not listed is reserved. -/
def format (id : Nat) : Option Format :=
  match id with
  | 0x01 => some ⟨30000, 1001, 525, 21, 263, 283, 525, 225, 1, 4, 10, 273, 264⟩
  | 0x02 => some ⟨25, 1, 625, 23, 310, 336, 623, 225, 1, 4, 6, 319, 313⟩
  | 0x10 => some ⟨50, 1, 750, 26, 745, 1, 0, 400, 1, 4, 7, 0, 0⟩
  | 0x11 => some ⟨60000, 1001, 750, 26, 745, 1, 0, 400, 1, 4, 7, 0, 0⟩
  | 0x12 => some ⟨60, 1, 750, 26, 745, 1, 0, 400, 1, 4, 7, 0, 0⟩
  | 0x20 => some ⟨25, 1, 1125, 21, 560, 584, 1123, 600, 1, 4, 7, 569, 564⟩
  | 0x21 => some ⟨30000, 1001, 1125, 21, 560, 584, 1123, 600, 1, 4, 7, 569, 564⟩
  | 0x22 => some ⟨30, 1, 1125, 21, 560, 584, 1123, 600, 1, 4, 7, 569, 564⟩
  | 0x30 => some ⟨50, 1, 1125, 42, 1121, 1, 0, 600, 2, 8, 7, 0, 0⟩
  | 0x31 => some ⟨60000, 1001, 1125, 42, 1121, 1, 0, 600, 2, 8, 7, 0, 0⟩
  | 0x32 => some ⟨60, 1, 1125, 42, 1121, 1, 0, 600, 2, 8, 7, 0, 0⟩
  | 0x40 => some ⟨50, 1, 2250, 42, 2201, 1, 0, 1200, 7, 8, 7, 0, 0⟩
  | 0x41 => some ⟨60000, 1001, 2250, 42, 2201, 1, 0, 1200, 8, 8, 7, 0, 0⟩
  | 0x42 => some ⟨60, 1, 2250, 42, 2201, 1, 0, 1200, 8, 8, 7, 0, 0⟩
  | 0x48 => some ⟨50, 1, 2250, 42, 2201, 1, 0, 2160, 12, 8, 7, 0, 0⟩
  | 0x49 => some ⟨60000, 1001, 2250, 42, 2201, 1, 0, 2160, 14, 8, 7, 0, 0⟩
  | 0x4A => some ⟨60, 1, 2250, 42, 2201, 1, 0, 2160, 14, 8, 7, 0, 0⟩
  | _ => none

def Format.interlaced (f : Format) : Bool := f.field2 != 0

/-- A line of the format that is carried (R38). -/
def Format.carried (f : Format) (line : Nat) : Bool :=
  (f.first1 ≤ line && line ≤ f.last1) || (f.first2 ≤ line && line ≤ f.last2)

/-- The last carried line of a picture. -/
def Format.lastLine (f : Format) : Nat := max f.last1 f.last2

/-- Picture lines carried. -/
def Format.carriedLines (f : Format) : Nat := (f.last1 + 1 - f.first1) + (f.last2 + 1 - f.first2)

def Format.is2160 (id : Nat) : Bool := 0x40 ≤ id && id ≤ 0x4A

/-- A time scaled so that a line period is `lineD`. -/
def Format.scale (f : Format) (t : Nat) : Nat := t * (f.num * f.lines)
def Format.lineD (f : Format) : Nat := f.den * secUnits

/-- The line running at time `t`, counted from line 1 of frame 0. -/
def Format.lineAt (f : Format) (t : Nat) : Nat := f.scale t / f.lineD

/-- The first instant at or after the start of line `n`, so counted. -/
def Format.lineStart (f : Format) (n : Nat) : Nat := (n * f.lineD + f.num * f.lines - 1) / (f.num * f.lines)

/-- The ST 2059-1 frame count at `t` (R67), not reduced. -/
def Format.frameAt (f : Format) (t : Nat) : Nat := f.lineAt t / f.lines

/-- The field count at `t` (R67), not reduced. -/
def Format.fieldAt (f : Format) (t : Nat) : Nat :=
  2 * f.frameAt t + (if f.interlaced && f.field2 ≤ f.lineAt t % f.lines + 1 then 1 else 0)

/-- The line on which the switch of frame (or field) `k` falls (R66). -/
def Format.switchLine (f : Format) (field : Bool) (k : Nat) : Nat :=
  if field then (k / 2) * f.lines + (if k % 2 = 0 then f.sw1 else f.sw2) - 1
  else k * f.lines + f.sw1 - 1

/-- The first frame whose switch line is numbered `n` or later. -/
def Format.frameFrom (f : Format) (sw n : Nat) : Nat := (n + f.lines - sw) / f.lines

/-- The first frame (or field) whose switch line is numbered `n` or later. -/
def Format.countFrom (f : Format) (field : Bool) (n : Nat) : Nat :=
  if field then
    let a := f.frameFrom f.sw1 n
    let b := f.frameFrom f.sw2 n
    if a ≤ b then 2 * a else 2 * b + 1
  else f.frameFrom f.sw1 n

/-- The first switch line that falls after `t` (R68 NEXT). -/
def Format.nextCount (f : Format) (field : Bool) (t : Nat) : Nat := f.countFrom field (f.scale t / f.lineD + 1)

/-- The first switch line at or after `t` (R68 PTP). -/
def Format.countAt (f : Format) (field : Bool) (t : Nat) : Nat := f.countFrom field ((f.scale t + f.lineD - 1) / f.lineD)

/-- The count running at `t`: frames, or fields. -/
def Format.count (f : Format) (field : Bool) (t : Nat) : Nat := if field then f.fieldAt t else f.frameAt t

/-- The full count that a 32-bit count names, by signed difference from the one running (R255). -/
def nearest (bits now v : Nat) : Nat := (Int.ofNat now + signed bits ((v + (2 ^ bits - now % 2 ^ bits)) % 2 ^ bits)).toNat

/-- A when-clause as words 0 and 1 give it (R71, R72): WHEN, the word 1 fields. -/
structure When where
  kind : Nat
  hi   : Nat
  lo   : Nat
deriving DecidableEq, Repr

/-- F+0 of a when-clause judged at `t` (R68, R69), as a full count. -/
def When.due (c : When) (f : Format) (field : Bool) (t : Nat) : Nat :=
  match c.kind with
  | 0 => f.nextCount field t
  | 1 => nearest 32 (f.count field t) c.lo
  | _ => f.countAt field (timeOf (nearest 32 (t / secUnits) c.hi) c.lo)

/-- How an acceptance at `t` falls against F+0 (R68). -/
inductive Judged where
  | onTime | late | expired
deriving DecidableEq, Repr

/-- Acceptance at `t` leaves the lead of two lines before the switch line of `k`. -/
def Format.inTime (f : Format) (field : Bool) (k t : Nat) : Bool :=
  f.scale t + 2 * f.lineD ≤ f.switchLine field k * f.lineD

def Format.judge (f : Format) (field : Bool) (k t : Nat) : Judged :=
  if f.inTime field k t then .onTime else if f.inTime field (k + 1) t then .late else .expired

/-- MARGIN (R73): whole lines from `t` to the switch line of `k`, rounded towards minus infinity, saturating. -/
def Format.margin (f : Format) (field : Bool) (k t : Nat) : Int :=
  let d : Int := (Int.ofNat (f.switchLine field k * f.lineD) - Int.ofNat (f.scale t)).fdiv f.lineD
  max (-32767) (min 32767 d)

/-- Two formats of one frame rate (R84 RATE). -/
def Format.sameRate (f g : Format) : Bool := f.num * g.den == g.num * f.den

end Sys2Proof.Machine
end

