-- ==== Sys2Proof/Machine/PortViews.lean ====
section
/-! DEFINITION. Check codes (R49), the port tables as they stand and what is derived from them: calendars (R55), the rebuild's
checks (R57), the engines that ports are placed on (R21, R360); destinations and their work (R61–R63, R80). -/
namespace Sys2Proof.Machine

/-! ### Check codes (R49) -/

/-- One bit into the CRC-12 of x^12 + x^11 + x^3 + x^2 + x + 1. -/
def crc12Bit (r : Nat) (b : Bool) : Nat :=
  let top := (r / 2048 % 2 == 1) != b
  let r := r * 2 % 4096
  if top then r ^^^ 0x80F else r

/-- The bits of a word from bit `n` − 1 down to bit 0. -/
def bitsDown (w : W) : Nat → List Bool
  | 0 => []
  | n + 1 => w.getLsbD n :: bitsDown w n

/-- The header check over bits 63:12 of a word. -/
def hdrCheck (w : W) : Nat := (bitsDown (w >>> 12) 52).foldl crc12Bit 0xFFF

/-- A header passes its check. -/
def hdrOk (w : W) : Bool := getBits w 0 12 == hdrCheck w

/-- One bit into the CRC-16 of x^16 + x^12 + x^5 + 1. -/
def crc16Bit (r : Nat) (b : Bool) : Nat :=
  let top := (r / 32768 % 2 == 1) != b
  let r := r * 2 % 65536
  if top then r ^^^ 0x1021 else r

/-- The slot check over the eight words of a slot. -/
def slotCheck (ws : List W) : Nat := ws.foldl (fun r w => (bitsDown w 64).foldl crc16Bit r) 0xFFFF

/-! ### Port entries (R53) -/

def ixSRC : Nat := 0x2810
def ixDST : Nat := 0x2818
def portIx (dst : Bool) : Nat := if dst then ixDST else ixSRC

def pValid (v : W) : Bool := F.ES_PORT_VALID.of v == 1
def pGang (v : W) : Bool := F.ES_PORT_GANG.of v == 1
def pFormat (v : W) : Nat := F.ES_PORT_FORMAT.of v
def pDie (v : W) : Nat := F.ES_PORT_DIE.of v
def pLane (v : W) : Nat := F.ES_PORT_LANE.of v
def pLocal (v : W) : Bool := F.ES_PORT_LOCAL.of v == 1
def pMask (v : W) : Nat := F.ES_PORT_SLOTMASK.of v
def pTag (v : W) : Nat := F.ES_PORT_TAG.of v
def pDiv (v : W) : Nat := F.ES_PORT_DIV.of v
def pAch (v : W) : Nat := F.ES_PORT_ACH.of v

/-- The slots that an entry's format costs. -/
def pSlots (v : W) : Nat := match format (pFormat v) with | some f => f.slots | none => 0

/-- Bits set among the low `n`. -/
def popCount (v : Nat) : Nat → Nat
  | 0 => 0
  | n + 1 => v / 2 ^ n % 2 + popCount v n

/-- A port's entry, live or as the shadow has it. -/
def State.port (s : State) (dst : Bool) (p : Nat) : W := s.word (portIx dst) p 0
def State.portShadow (s : State) (dst : Bool) (p : Nat) : W := s.shadowWord (portIx dst) p 0

/-- The entries of an object that a table lists, in ascending element. -/
def entriesOf (t : Table) (ix : Nat) : List (Nat × W) :=
  t.filterMap fun x => if x.1.ix = ix ∧ x.1.w = 0 then some (x.1.e, x.2) else none

/-- The valid entries of a port table. -/
def validPorts (t : Table) (dst : Bool) : List (Nat × W) := (entriesOf t (portIx dst)).filter fun x => pValid x.2

/-- An entry consistent in itself (R54). -/
def portEntryOk (s : State) (p : Nat) (v : W) : Bool :=
  !pValid v ||
    match format (pFormat v) with
    | none => false
    | some f =>
      pDiv v < 2 && pDie v < s.dies && pAch v ≤ f.ach
        && (if pLocal v then pLane v == 0 && pMask v == 0 else popCount (pMask v) 24 == f.slots)
        && (s.sys.role != CORE || pTag v == p)

/-! ### Lanes as the port tables name them (R53, R195, R293) -/

/-- The `LK_LANE` element of a data lane. -/
def laneElem (rx : Bool) (d l : Nat) : Nat := d * 160 + (if rx then 0 else 80) + l / 8 * 10 + l % 8

/-- The direction of the lanes of a port table: receive for a CORE source and an EDGE or GATEWAY destination. -/
def State.tableRx (s : State) (dst : Bool) : Bool := if s.sys.role = CORE then !dst else dst

/-- The twin-B lane paired with a lane towards or from twin A (R293). -/
def State.pairOf (s : State) (rx : Bool) (d l : Nat) : Option (Nat × Nat) :=
  let v := s.word 0x5810 (d * 128 + (if rx then 0 else 64) + l) 0
  if s.sys.role != CORE && F.TW_PAIR_VALID.of v == 1 then some (F.TW_PAIR_BDIE.of v, F.TW_PAIR_BLANE.of v) else none

/-- The twin-A lane that lane `l` stands for: its own, or that of the pair whose twin-B lane it is. -/
def State.laneA (s : State) (rx : Bool) (d l : Nat) : Nat × Nat :=
  if s.sys.role = CORE then (d, l)
  else
    let hit := (entriesOf s.regs 0x5810).find? fun x =>
      (x.1 % 128 < 64) == rx && s.pairOf rx (x.1 / 128) (x.1 % 64) == some (d, l)
    match hit with
    | some x => (x.1 / 128, x.1 % 64)
    | none => (d, l)

/-- The live owner of slot `sl` of a lane (R55). -/
def State.slotOwner (s : State) (rx : Bool) (d l sl : Nat) : Option (Nat × W) :=
  let a := s.laneA rx d l
  (validPorts s.regs (s.tableRx true == rx)).find? fun x =>
    !pLocal x.2 && pDie x.2 == a.1 && pLane x.2 == a.2 && (pMask x.2).testBit sl

/-- The word of `ES_CALENDAR` (R55). -/
def State.calWord (s : State) (e : Nat) : W :=
  let rx := e / 2048 % 2 == 0
  let sl := e % 32
  match s.slotOwner rx (e / 4096) (e / 32 % 64) sl with
  | none => 0
  | some x => F.ES_CALENDAR_PORT.put (F.ES_CALENDAR_ORDINAL.put (F.ES_CALENDAR_VALID.put 0 1) (popCount (pMask x.2) sl)) (pTag x.2)

/-! ### Engines that carry ports (R21, R360, R361) -/

def engSPARE : Nat := 0
def engACTIVE : Nat := 1
def engMOVING : Nat := 2
def engTESTING : Nat := 3
def engFAILED : Nat := 4
def engLOADING : Nat := 5

def State.engine (s : State) (e : Nat) : Nat := s.fld F.IC_ENGINE_STATE e

def engDie (e : Nat) : Nat := e / 24
def engNo (e : Nat) : Nat := e % 24
def isEssence (e : Nat) : Bool := engNo e < 18
def isMix (e : Nat) : Bool := 18 ≤ engNo e && engNo e < 21
def isSpar (e : Nat) : Bool := engNo e == 21 || engNo e == 22

/-- The essence engines of a die in service, those ACTIVE first. -/
def State.healthyEngines (s : State) (d : Nat) : List Nat :=
  let l := (List.range 18).map (d * 24 + ·)
  l.filter (fun e => s.engine e == engACTIVE || s.engine e == engMOVING) ++ l.filter (fun e => s.engine e == engSPARE)

/-- Slots that a placement gives an engine in a direction, by the port tables of `t`. -/
def placedSlots (t : Table) (pl : List (Bool × Nat × Nat)) (dst : Bool) (e : Nat) : Nat :=
  (pl.map fun x => if x.1 == dst && x.2.2 == e then pSlots (tget dflt t ⟨portIx dst, x.2.1, 0⟩) else 0).sum

/-- One port placed on the first engine with room for it at 96 slots (DESIGN CHOICE: the spec leaves the choice of engine to the
part). -/
def placeOne (s : State) (x : Nat × W) (used : List (Nat × Nat)) : Option (Nat × List (Nat × Nat)) :=
  let load := fun e => ((used.find? fun u => u.1 == e).map (·.2)).getD 0
  match (s.healthyEngines (pDie x.2)).find? fun e => load e + pSlots x.2 ≤ 96 with
  | none => none
  | some e => some (e, (e, load e + pSlots x.2) :: used.filter fun u => !(u.1 == e))

/-- The ports of one direction placed in ascending element; or the first that cannot be. -/
def placeAll (s : State) (dst : Bool) : List (Nat × W) → List (Nat × Nat) → List (Bool × Nat × Nat) →
    Except Nat (List (Bool × Nat × Nat))
  | [], _, acc => .ok acc.reverse
  | x :: l, used, acc =>
    match placeOne s x used with
    | none => .error x.1
    | some (e, used) => placeAll s dst l used ((dst, x.1, e) :: acc)

/-- The placement of the port tables of `t` (R56 ENGINE): or whether a destination, and the element, that has no place. -/
def State.placement (s : State) (t : Table) : Except (Bool × Nat) (List (Bool × Nat × Nat)) :=
  match placeAll s false (validPorts t false) [] [], placeAll s true (validPorts t true) [] [] with
  | .error p, _ => .error (false, p)
  | _, .error p => .error (true, p)
  | .ok a, .ok b => .ok (a ++ b)

/-! ### The rebuild's checks (R56, R57) -/

/-- A failed check: CAUSE and the element, bit 31 for a destination. -/
abbrev CalFail := Nat × Nat

def calElem (dst : Bool) (p : Nat) : Nat := (if dst then 2 ^ 31 else 0) + p

/-- The lanes whose slots an entry takes: its own, and the twin-B lane of the pair. -/
def State.lanesOf (s : State) (dst : Bool) (v : W) : List (Nat × Nat) :=
  if pLocal v then [] else (pDie v, pLane v) :: (s.pairOf (s.tableRx dst) (pDie v) (pLane v)).toList

/-- The first entry of a scan that fails a check against those before it. -/
def scanPorts (f : List (Nat × W) → Nat × W → Bool) : List (Nat × W) → List (Nat × W) → Option Nat
  | [], _ => none
  | x :: l, seen => if f seen x then some x.1 else scanPorts f l (x :: seen)

def State.overlapAt (s : State) (dst : Bool) (seen : List (Nat × W)) (x : Nat × W) : Bool :=
  seen.any fun y => pMask y.2 &&& pMask x.2 != 0 && (s.lanesOf dst x.2).any fun a => (s.lanesOf dst y.2).contains a

def dieLimitAt (seen : List (Nat × W)) (x : Nat × W) : Bool :=
  1536 < ((x :: seen).map fun y => if pDie y.2 == pDie x.2 then pSlots y.2 else 0).sum

/-- The gang rules of R59 as they bear on one member. -/
def gangBad (t : Table) (dst : Bool) (x : Nat × W) : Bool :=
  let m := (List.range 4).map fun q => tget dflt t ⟨portIx dst, x.1 / 4 * 4 + q, 0⟩
  let h := m.headD 0
  pGang x.2 &&
    (!(m.all fun v => pValid v && pGang v) || !Format.is2160 (pFormat x.2)
      || !(pFormat x.2 == pFormat h && pDiv x.2 == pDiv h && pDie x.2 == pDie h)
      || (x.1 % 4 != 0 && pAch x.2 != 0))

/-- The twin link's lanes: the receive and transmit data lanes of a shroud (R27, R282). -/
def State.inTwinShroud (s : State) (d l : Nat) : Bool :=
  s.sys.role == CORE && s.fld F.TW_CONFIG_EN 0 == 1 && s.fld F.TW_CONFIG_LDIE 0 == d && s.fld F.TW_CONFIG_LSHROUD 0 == l / 8

def State.laneModeBad (s : State) (dst : Bool) (x : Nat × W) : Bool :=
  (s.lanesOf dst x.2).any fun a =>
    s.fld F.LK_LANE_MODE (laneElem (s.tableRx dst) a.1 a.2) != 0 || s.inTwinShroud a.1 a.2

def State.tagDupAt (s : State) (dst : Bool) (seen : List (Nat × W)) (x : Nat × W) : Bool :=
  seen.any fun y => pTag y.2 == pTag x.2 && (s.lanesOf dst x.2).any fun a => (s.lanesOf dst y.2).contains a

/-- One check over the sources, then over the destinations. -/
def scanBoth (t : Table) (cause : Nat) (f : Bool → List (Nat × W) → Nat × W → Bool) : Option CalFail :=
  match scanPorts (f false) (validPorts t false) [] with
  | some p => some (cause, calElem false p)
  | none => (scanPorts (f true) (validPorts t true) []).map fun p => (cause, calElem true p)

/-- The checks of a rebuild over the port tables of `t`, in ascending CAUSE: the first failure, or the placement. -/
def State.rebuild (s : State) (t : Table) : Except CalFail (List (Bool × Nat × Nat)) :=
  match scanBoth t 1 (fun dst seen x => s.overlapAt dst seen x) with
  | some f => .error f
  | none => match scanBoth t 2 (fun _ seen x => dieLimitAt seen x) with
    | some f => .error f
    | none => match scanBoth t 3 (fun dst _ x => gangBad t dst x) with
      | some f => .error f
      | none => match scanBoth t 4 (fun dst _ x => s.laneModeBad dst x) with
        | some f => .error f
        | none => match scanBoth t 5 (fun dst seen x => s.tagDupAt dst seen x) with
          | some f => .error f
          | none => match s.placement t with
            | .error (dst, p) => .error (6, calElem dst p)
            | .ok pl => .ok pl

/-! ### Destinations (R62, R63) -/

def srcPARK : Nat := 0x3FFF
def srcFEED : Nat := 0x3FFE

/-- The reset source of every destination (R62). -/
def State.resetSource (s : State) : Nat := if s.sys.role = CORE then srcPARK else srcFEED

/-- A destination as it stands. -/
def State.dest (s : State) (p : Nat) : Dest :=
  ((s.xp.dests.find? fun x => x.1 == p).map (·.2)).getD
    ⟨s.resetSource, 0xFFFF, 0, s.resetSource, false, false, s.resetSource, 0⟩

def State.setDest (s : State) (p : Nat) (d : Dest) : State :=
  { s with xp := { s.xp with dests := (p, d) :: s.xp.dests.filter fun x => !(x.1 == p) } }

/-- The destinations on which a source is live. -/
def State.destsOf (s : State) (src : Nat) : List Nat := (s.xp.dests.filter fun x => x.2.live == src).map (·.1)

/-! ### Takes in progress -/

end Sys2Proof.Machine

namespace Sys2Proof

def Work.dest (x : Work) : Nat := Machine.Fld.of Machine.F.XP_TAKE_DEST x.w0
def Work.src (x : Work) : Nat := Machine.Fld.of Machine.F.XP_TAKE_SRC x.w0
def Work.gang (x : Work) : Bool := Machine.Fld.of Machine.F.XP_TAKE_GANG x.w0 == 1
def Work.afollow (x : Work) : Bool := Machine.Fld.of Machine.F.XP_TAKE_AFOLLOW x.w0 == 1
def Work.isTake (x : Work) : Bool := x.kind == .take

/-- A take switches destination `p`: its own, or a gang's member (R82). -/
def Work.hits (x : Work) (p : Nat) : Bool :=
  x.isTake && (x.dest == p || (x.gang && x.dest ≤ p && p < x.dest + 4))

/-- The destinations that a take switches. -/
def Work.targets (x : Work) : List Nat := if x.gang then [x.dest, x.dest + 1, x.dest + 2, x.dest + 3] else [x.dest]

/-- The source that a take gives destination `p`: member q takes member q, and PARK and FEED go to every member (R82). -/
def Work.srcFor (x : Work) (p : Nat) : Nat := if 0x3000 ≤ x.src then x.src else x.src + (p - x.dest)

end Sys2Proof

namespace Sys2Proof.Machine

/-- The number of the next switch line of a destination in a format after `t`: of either field where it is interlaced. -/
def Format.nextLine (f : Format) (t : Nat) : Nat := f.switchLine f.interlaced (f.nextCount f.interlaced t)

/-- A pending take lands at or before the next switch line: it stands in the shadow entry (R80). -/
def State.placedNow (s : State) (x : Work) : Bool :=
  match format x.fmt with
  | some f => x.state == 2 && (x.jumped || f.switchLine x.field x.land ≤ f.nextLine s.house)
  | none => false

/-- The take placed in the shadow entry of destination `p`. -/
def State.placedTake (s : State) (p : Nat) : Option Work := s.xp.work.find? fun x => x.hits p && s.placedNow x

/-- `XP_DST` (R62). -/
def State.dstWord (s : State) (p : Nat) : W :=
  let d := s.dest p
  let x := s.placedTake p
  let n := match x with | some x => x.srcFor p | none => d.live
  F.XP_DST_LANDED.put (F.XP_DST_ENTRY.put (F.XP_DST_NEXT.put (F.XP_DST_LIVE.put (F.XP_DST_SCHED.put (F.XP_DST_VALID.put 0
    (flag (pValid (s.port true p)))) (flag x.isSome)) d.live) n) d.entry) d.landed

/-- A source is LIVE or NEXT on a destination (R107). -/
def State.sourceInUse (s : State) (p : Nat) : Bool :=
  !(s.destsOf p).isEmpty || s.xp.work.any fun x => x.isTake && s.placedNow x && x.targets.any fun d => x.srcFor d == p

/-- The least number of a run of `n` from `b` that does not stand in a list. -/
def firstFree (used : List Nat) : Nat → Nat → Option Nat
  | _, 0 => none
  | b, n + 1 => if used.contains b then firstFree used (b + 1) n else some b

/-- `XP_QUEUE` (R78). -/
def State.queueWord (s : State) (d w : Nat) : W :=
  let l := s.xp.work.filter fun x => x.isTake && x.elem / 6144 == d
  match w with
  | 0 => BitVec.ofNat 64 (6144 - l.length)
  | 1 => BitVec.ofNat 64 l.length
  | 2 => BitVec.ofNat 64 (l.countP fun x => x.state == 3)
  | 3 => BitVec.ofNat 64 ((firstFree (l.map (·.elem)) (d * 6144) 6144).getD 0xFFFFFFFF)
  | _ => s.word 0x2008 d w

end Sys2Proof.Machine
end

