-- ==== Sys2Proof/Machine/AlignViews.lean ====
section
/-! DEFINITION. What a die's alignment takes and has: line-buffer pool (R99), frame and heart stores (R101, R110, R173), ASRC
channels (R103, R156); the audio crosspoint's use (R138). -/
namespace Sys2Proof.Machine

/-! ### Line buffers (R99) -/

/-- C in bytes and the default W of a format. -/
def lineCost (fmt : Nat) : Nat × Nat :=
  match fmt with
  | 0x01 => (1344, 1) | 0x02 => (1344, 1)
  | 0x10 => (576, 4) | 0x11 => (512, 5) | 0x12 => (512, 5)
  | 0x20 => (768, 3) | 0x21 => (640, 4) | 0x22 => (640, 4)
  | 0x30 => (768, 6) | 0x31 => (640, 8) | 0x32 => (640, 8)
  | 0x40 => (1280, 14) | 0x41 => (1216, 16) | 0x42 => (1216, 16)
  | 0x48 => (2240, 13) | 0x49 => (2176, 16) | 0x4A => (2176, 16)
  | _ => (0, 0)

def poolBytes : Nat := 3932160

def alFSYNC (v : W) : Bool := F.ES_ALIGN_MODE.of v == 1
def alASRC (v : W) : Bool := F.ES_ALIGN_AUDIO.of v == 1

/-- W of an entry for a format. -/
def windowOf (v : W) (fmt : Nat) : Nat := if F.ES_ALIGN_WIN.of v = 0 then (lineCost fmt).2 else F.ES_ALIGN_WIN.of v

/-- The pool bytes that an entry takes for a port. -/
def poolCost (v port : W) : Nat := if alFSYNC v then 0 else windowOf v (pFormat port) * (lineCost (pFormat port)).1

def State.align (s : State) (p : Nat) : W := s.word 0x2860 p 0

/-- The valid sources that a die terminates. -/
def State.dieSources (s : State) (d : Nat) : List (Nat × W) := (validPorts s.regs false).filter fun x => pDie x.2 == d

/-- Pool bytes in use on a die. -/
def State.poolUse (s : State) (d : Nat) : Nat := ((s.dieSources d).map fun x => poolCost (s.align x.1) x.2).sum

/-! ### Stores (R101, R110, R173) -/

/-- A heart layer takes the STORED path. -/
def heartStored (w0 w1 w2 : W) : Bool :=
  F.CM_LAYER_CLASS.of w0 == 2
    && !(F.CM_LAYER_REDUCE.of w0 == 0 && F.CM_LAYER_Y0.of w1 == F.CM_LAYER_CT.of w2 && F.CM_LAYER_STORE.of w0 == 0)

/-- A source at house timing from its frame store (R101). -/
def State.isFsync (s : State) (p : Nat) : Bool := alFSYNC (s.align p)

def dedup (l : List Nat) : List Nat := l.foldr (fun x r => if r.contains x then r else x :: r) []

/-- The sources in heart stores of a die, by the descriptors that `lay` gives: live ones of the attached heads, each source once. -/
def State.heartStores (s : State) (d : Nat) (lay : Nat → Nat → W) (attached : Nat → Bool) : List Nat :=
  dedup ((List.range 256).filterMap fun k =>
    let e := d * 256 + k
    if attached (e / 8) && heartStored (lay e 0) (lay e 1) (lay e 2) && !s.isFsync (F.CM_LAYER_SRC.of (lay e 0)) then
      some (F.CM_LAYER_SRC.of (lay e 0)) else none)

def State.attached (s : State) (h : Nat) : Bool := s.fld F.CM_HEAD_ATTACH h == 1

/-- The sources of the live heart stores of a die. -/
def State.liveStores (s : State) (d : Nat) : List Nat :=
  if s.caps.comp then s.heartStores d (fun e w => s.word 0x3820 e w) s.attached else []

/-- The slot cost of a source. -/
def State.srcSlots (s : State) (p : Nat) : Nat := if pValid (s.port false p) then pSlots (s.port false p) else 0

/-- Eighths that a list of heart stores costs. -/
def State.heartCost (s : State) (l : List Nat) : Nat := (l.map s.srcSlots).sum

/-- Eighths that the frame-synchronised sources of a die cost. -/
def State.fsyncCost (s : State) (d : Nat) : Nat :=
  ((s.dieSources d).map fun x => if s.isFsync x.1 then pSlots x.2 else 0).sum

/-- The store budget in use (R110). -/
def State.storeUse (s : State) (d : Nat) : Nat := if s.caps.fsync then s.fsyncCost d + s.heartCost (s.liveStores d) else 0

/-- A DRAM channel counts as in service (R376). -/
def State.chanServes (s : State) (c : Nat) : Bool :=
  let x := s.fld F.MM_CHAN_STAT_STATE c
  x == 2 || x == 3 || x == 4

/-- `MM_CHANNEL` as the last LOAD applied it (R375). -/
def State.chanConf (s : State) (c : Nat) : W := ((s.mm.conf.find? fun x => x.1 == c).map (·.2)).getD (dflt ⟨0x7010, c, 0⟩)

/-- The data rate in MT/s (R375). -/
def rateMT (v : W) : Nat := 4000 + 400 * F.MM_CHANNEL_RATE.of v

/-- Ranks that hold data when none is lost (R375). -/
def dataRanks (v : W) : Nat := F.MM_CHANNEL_RANKS.of v + 1 - F.MM_CHANNEL_SPAREEN.of v

/-- The data rate of a channel less the share of its lost ranks (R384). -/
def State.chanRate (s : State) (c : Nat) : Nat :=
  let v := s.chanConf c
  let lost := (List.range 4).countP fun r => s.fld F.MM_RANK_STATE (c * 4 + r) == 6
  rateMT v * (dataRanks v - lost) / max 1 (dataRanks v)

/-- The sum of the data rates of a die's channels in service. -/
def State.rateSum (s : State) (d : Nat) : Nat :=
  ((List.range 4).map fun k => if s.chanServes (d * 4 + k) then s.chanRate (d * 4 + k) else 0).sum

/-- The store budget's limit, in eighths (R110). -/
def State.storeLimit (s : State) (d : Nat) : Nat := if s.caps.fsync then 384 * s.rateSum d / 22400 else 0

/-- `ES_ALIGN_POOL` (R110). -/
def State.poolWord (s : State) (d w : Nat) : W :=
  BitVec.ofNat 64 (match w with
  | 0 => s.poolUse d
  | 1 => poolBytes - s.poolUse d
  | 2 => s.storeUse d
  | _ => s.storeLimit d)

/-! ### References and channels of the audio crosspoint (R117–R121) -/

def refType (r : Nat) : Nat := r / 2 ^ 30 % 4
def refPort (r : Nat) : Nat := r / 2 ^ 16 % 2 ^ 14
def refIndex (r : Nat) : Nat := r % 2 ^ 16

def rNONE : Nat := 0
def rCHAN : Nat := 1
def rEMB : Nat := 2
def rFOLLOW : Nat := 3

/-- A reference from its parts. -/
def mkRef (t p i : Nat) : Nat := t * 2 ^ 30 + p * 2 ^ 16 + i

def tEMB : Nat := 1
def tENDPOINT : Nat := 2

def auTType (v : W) : Nat := F.AU_DST_TTYPE.of v
def auTPort (v : W) : Nat := F.AU_DST_TPORT.of v
def auTIndex (v : W) : Nat := F.AU_DST_TINDEX.of v

/-- The `AU_DST` elements whose word 1 is listed, with it. -/
def State.auWords (s : State) : List (Nat × W) :=
  s.regs.filterMap fun x => if x.1.ix = 0x3020 ∧ x.1.w = 1 then some (x.1.e, x.2) else none

def State.auTarget (s : State) (e : Nat) : W := s.word 0x3020 e 1

def State.auAuto (s : State) (e : Nat) : Bool := s.fld F.AU_DST_AUTO e == 1

/-- Elements of a die that no host or reservation uses. -/
def State.auFree (s : State) (d : Nat) : Nat :=
  8192 - (s.auWords.filter fun x => x.1 / 8192 == d && (auTType x.2 != 0 || s.auAuto x.1)).length

/-- KiB of DRAM that a delay line holds (R135). -/
def delayKiB (n : Nat) : Nat := if n ≤ 64 then 0 else (n * 4 + 65535) / 65536 * 64

/-- `AU_USE` (R138). -/
def State.auUseWord (s : State) (d w : Nat) : W :=
  let l := s.auWords.filter fun x => x.1 / 8192 == d
  match w with
  | 0 => BitVec.ofNat 64 ((entriesOf s.regs 0x3010).countP fun x => x.1 / 8192 == d && F.AU_SRC_VALID.of x.2 == 1)
  | 1 => BitVec.ofNat 64 (l.countP fun x => auTType x.2 != 0 && !s.auAuto x.1)
  | 2 => BitVec.ofNat 64 (l.countP fun x => s.auAuto x.1)
  | 3 => BitVec.ofNat 64 (if s.caps.fsync then (l.map fun x => delayKiB (F.AU_DST_DELAY.of x.2)).sum else 0)
  | _ => s.word 0x3038 d w

/-! ### ASRC channels (R156) -/

/-- A route stands on ASRC endpoint `n` of a die, on either side. -/
def State.asrcRouted (s : State) (d n : Nat) : Bool :=
  ((entriesOf s.regs 0x3010).any fun x =>
      x.1 / 8192 == d && F.AU_SRC_VALID.of x.2 == 1 && F.AU_SRC_ENDPOINT.of x.2 == 0x2300 + n)
    || s.auWords.any fun x => x.1 / 8192 == d && auTType x.2 == tENDPOINT && auTIndex x.2 == 0x2300 + n

/-- The MATCH channels that the part may take for FSYNC use, the highest first. -/
def State.asrcFree (s : State) (d : Nat) : List Nat :=
  ((List.range 64).reverse.filter fun n => s.fld F.AU_ASRC_KIND (d * 64 + n) == 0 && !s.asrcRouted d n).map (d * 64 + ·)

/-- The FSYNC channels of a source. -/
def State.asrcOf (s : State) (p : Nat) : List Nat :=
  (entriesOf s.regs 0x3060).filterMap fun x =>
    if F.AU_ASRC_KIND.of x.2 = 2 ∧ s.fld F.AU_ASRC_FSRC x.1 = p then some x.1 else none

end Sys2Proof.Machine
end

