-- ==== Sys2Proof/Machine/CompViews.lean ====
section
/-! DEFINITION. What composition heads take and have (R163, R166, R172–R178, R189): rasters, paths, images, accord tiles, read
cost. -/
namespace Sys2Proof.Machine

/-! ### Rasters (R172) -/

/-- Width and height of a format's raster. -/
def rasterOf (fmt : Nat) : Nat × Nat :=
  if fmt = 0x01 then (720, 486) else if fmt = 0x02 then (720, 576)
  else if fmt < 0x20 then (1280, 720) else if fmt < 0x40 then (1920, 1080) else (3840, 2160)

/-! ### Descriptors (R170, R173) -/

def lClass (w0 : W) : Nat := F.CM_LAYER_CLASS.of w0
def lOFF : Nat := 0
def lBASE : Nat := 1
def lHEART : Nat := 2
def lTOP : Nat := 3

def lColour (w0 : W) : Bool := lClass w0 == lBASE && F.CM_LAYER_COLOUR.of w0 == 1
def lDynamic (w0 : W) : Bool := lClass w0 == lTOP && F.CM_LAYER_STATIC.of w0 == 0

/-- A layer whose image is flattened: a BASE image plate, a STATIC top note (R164). -/
def lStatic (w0 : W) : Bool := (lClass w0 == lBASE && !lColour w0) || (lClass w0 == lTOP && F.CM_LAYER_STATIC.of w0 == 1)

def lFbImage (w0 : W) : Bool := lClass w0 != lOFF && F.CM_LAYER_FALLBACK.of w0 == 2
def lFbColour (w0 : W) : Bool := lClass w0 != lOFF && F.CM_LAYER_FALLBACK.of w0 == 1

/-- The reduction divisor. -/
def lDiv (w0 : W) : Nat := if lClass w0 = lHEART then F.CM_LAYER_REDUCE.of w0 + 1 else 1

/-- Images of a layer: of a dynamic top note its whole sequence. -/
def lImages (w0 : W) : List Nat :=
  if lDynamic w0 then (List.range (max 1 (F.CM_LAYER_SEQ.of w0))).map (F.CM_LAYER_SRC.of w0 + ·)
  else if lStatic w0 then [F.CM_LAYER_SRC.of w0] else []

/-- Images that a layer names, its fallback's among them. -/
def lNames (w0 : W) : List Nat := lImages w0 ++ (if lFbImage w0 then [F.CM_LAYER_FBREF.of w0] else [])

/-- Palette entries that a layer names. -/
def lPalette (w0 : W) : List Nat :=
  (if lColour w0 then [F.CM_LAYER_SRC.of w0] else []) ++ (if lFbColour w0 then [F.CM_LAYER_FBREF.of w0] else [])

/-- PATH (R188). -/
def lPath (w0 w1 w2 : W) : Nat :=
  if lClass w0 = lHEART then (if heartStored w0 w1 w2 then 2 else 1)
  else if lStatic w0 || lDynamic w0 then 3 else 0

/-- A head's layers as a commit would leave them: descriptors by `CM_LAYER` element and word. -/
abbrev Layers := Nat → Nat → W

def State.liveLayers (s : State) : Layers := fun e w => s.word 0x3820 e w

/-! ### Images (R178) -/

def imgBits (v : W) : Nat := if F.CM_IMAGE_PIXFMT.of v % 2 = 1 then 40 else 32

/-- Words of an image line. -/
def imgStride (v : W) : Nat := (F.CM_IMAGE_WIDTH.of v * imgBits v + 63) / 64

/-- 64 KiB units of an image. -/
def imgUnits (v : W) : Nat := (F.CM_IMAGE_HEIGHT.of v * imgStride v * 8 + 65535) / 65536

def State.image (s : State) (d i : Nat) : W := s.word 0x3830 (d * 1024 + i) 0

/-- A pixel of an image as stored, its four components MSB first; `word` gives the image's words from its BASE. -/
def pixelIn (word : Nat → W) (img : W) (x y : Nat) : Nat :=
  let b := imgBits img
  let at_ := x * b
  let w := fun k => (word (y * imgStride img + at_ / 64 + k)).toNat
  (w 0 * 2 ^ 64 + w 1) / 2 ^ (128 - at_ % 64 - b) % 2 ^ b

/-- The word of `CM_PIXELS` at which an image of a die begins. -/
def imgStart (d : Nat) (img : W) : Nat := d * 2 ^ 29 + F.CM_IMAGE_BASE.of img * 8192

/-- A pixel of an image in a die's image store. -/
def State.pixel (s : State) (d : Nat) (img : W) (x y : Nat) : Nat := pixelIn (fun k => s.word 0x3838 (imgStart d img + k) 0) img x y

/-- An image's words that are not 0, by offset from its BASE. -/
def State.imageWords (s : State) (d : Nat) (img : W) : List (Nat × W) :=
  let a := imgStart d img
  s.regs.filterMap fun x =>
    if x.1.ix = 0x3838 ∧ a ≤ x.1.e ∧ x.1.e < a + F.CM_IMAGE_HEIGHT.of img * imgStride img then some (x.1.e - a, x.2) else none

/-- A pixel's alpha is 0. -/
def clearPixel (img : W) (v : Nat) : Bool := v % (if imgBits img = 40 then 1024 else 256) == 0

/-! ### Flattening (R175) -/

/-- Raster of a head's destination. -/
def State.headRaster (s : State) (w1 : W) : Nat × Nat := rasterOf (pFormat (s.port true (F.CM_HEAD_DEST.of w1)))

/-- The same by the shadow tables, for a commit that waits for their publication. -/
def State.rasterIn (s : State) (shadow : Bool) (w1 : W) : Nat × Nat :=
  if shadow then rasterOf (pFormat (s.portShadow true (F.CM_HEAD_DEST.of w1))) else s.headRaster w1

/-- A static layer's own image as it lies on the raster. -/
def layerPlace (w0 w1 w2 : W) : Placed :=
  let x := F.CM_LAYER_X0.of w1
  let y := F.CM_LAYER_Y0.of w1
  ⟨F.CM_LAYER_SRC.of w0, F.CM_LAYER_CL.of w2, F.CM_LAYER_CT.of w2, x, y, x + F.CM_LAYER_WIDTH.of w1, y + F.CM_LAYER_HEIGHT.of w1⟩

/-- A fallback image, placed at (X0, Y0) and clipped to the raster (R186). -/
def fbPlace (img w0 w1 : W) (raster : Nat × Nat) : Placed :=
  let x := F.CM_LAYER_X0.of w1
  let y := F.CM_LAYER_Y0.of w1
  ⟨F.CM_LAYER_FBREF.of w0, 0, 0, x, y, min raster.1 (x + F.CM_IMAGE_WIDTH.of img), min raster.2 (y + F.CM_IMAGE_HEIGHT.of img)⟩

/-- The raster pixels of a tile. -/
def tilePixels (raster : Nat × Nat) (tx ty : Nat) : List (Nat × Nat) :=
  (List.range (min 32 (raster.2 - ty * 32))).flatMap fun j =>
    (List.range (min 64 (raster.1 - tx * 64))).map fun i => (tx * 64 + i, ty * 32 + j)

/-- A pixel of a placed image at a raster point; none outside it. -/
def State.placedPixel (s : State) (d : Nat) (img : W) (p : Placed) (x y : Nat) : Option Nat :=
  if p.x0 ≤ x && x < p.x1 && p.y0 ≤ y && y < p.y1 then some (s.pixel d img (p.cl + (x - p.x0)) (p.ct + (y - p.y0))) else none

/-- A tile's case: 0 EMPTY, 1 UNIFORM, 2 STORED. Pixels are compared as the image stores them (DEDUCED: the conversion of R166
keeps unequal ones apart). -/
def State.tileCase (s : State) (d : Nat) (img : W) (raster : Nat × Nat) (p : Placed) (tx ty : Nat) : Nat :=
  let l := (tilePixels raster tx ty).map fun q => s.placedPixel d img p q.1 q.2
  if l.all (fun v => match v with | some v => clearPixel img v | none => true) then 0
  else match l.headD none with
    | some v => if l.all (· == some v) then 1 else 2
    | none => 2

/-- The cases of a placed image's tiles, by tile row. -/
def State.tileRows (s : State) (d : Nat) (raster : Nat × Nat) (p : Placed) : List (List Nat) :=
  let img := s.image d p.image
  if p.x1 ≤ p.x0 ∨ p.y1 ≤ p.y0 then []
  else
    let c0 := p.x0 / 64
    let r0 := p.y0 / 32
    (List.range ((p.y1 - 1) / 32 + 1 - r0)).map fun r =>
      (List.range ((p.x1 - 1) / 64 + 1 - c0)).map fun c => s.tileCase d img raster p (c0 + c) (r0 + r)

/-- UNIFORM tiles turned STORED where the table has no room for them. -/
def spill (room : Nat) : List (List Nat) → List (List Nat)
  | [] => []
  | r :: l =>
    let x := r.foldl (fun (a : List Nat × Nat) c =>
      if c = 1 then (if a.2 = 0 then (2 :: a.1, 0) else (1 :: a.1, a.2 - 1)) else (c :: a.1, a.2)) ([], room)
    x.1.reverse :: spill x.2 l

/-- The accord image of a placed image on a raster, of a head configured by `w1`; `room` uniform entries are left on the die. -/
def State.flattened (s : State) (head layer : Nat) (fb : Bool) (raster : Nat × Nat) (w1 : W) (p : Placed) (room : Nat) : AccordImg :=
  let rows := spill room (s.tileRows (head / 32) raster p)
  let img := s.image (head / 32) p.image
  ⟨head, layer, fb, false, p.image, (rows.map fun r => r.countP (· == 2)).sum, (rows.map fun r => r.countP (· == 1)).sum,
    (rows.map (·.length)).sum, (rows.map fun r => r.countP (· == 2)).foldl max 0,
    img, p, F.CM_HEAD_MATRIX.of w1, s.imageWords (head / 32) img⟩

/-- Accord images of a die. -/
def State.accordOf (s : State) (d : Nat) : List AccordImg := s.cm.accord.filter fun x => x.head / 32 == d

/-- Uniform entries left on a die. -/
def State.uniformRoom (s : State) (d : Nat) : Nat := 4096 - ((s.accordOf d).map (·.uniform)).sum

/-! ### Read cost and line memory (R174, R177) -/

/-- Read cost of a dynamic top note: over the largest image of its sequence. -/
def State.dynamicCost (s : State) (d : Nat) (w0 : W) : Nat :=
  ((lImages w0).map fun i => (imgStride (s.image d i) * 8 + 383) / 384).foldl max 0

/-- Read cost of a layer, its accord images given. -/
def State.layerCost (s : State) (d : Nat) (w0 : W) (imgs : List AccordImg) : Nat :=
  (if lDynamic w0 then s.dynamicCost d w0 else 0) + (imgs.map (·.cost)).sum

/-- The live accord images of a layer. -/
def State.liveImages (s : State) (e : Nat) : List AccordImg :=
  s.cm.accord.filter fun x => x.head == e / 8 && x.layer == e % 8 && x.live

/-- A die's read cost in use. -/
def State.costUse (s : State) (d : Nat) : Nat :=
  ((List.range 256).map fun k =>
    let e := d * 256 + k
    if s.attached (e / 8) then s.layerCost d (s.word 0x3820 e 0) (s.liveImages e) else 0).sum

/-- A die's read cost limit (R177). -/
def State.costLimit (s : State) (d : Nat) : Nat := 512 * s.rateSum d / 22400

/-- Line memory of a die (R174), by the descriptors, the configurations and the raster widths of its heads. -/
def lineUse (d : Nat) (lay : Layers) (conf : Nat → W) (width : Nat → W → Nat) : Nat :=
  ((List.range 32).map fun k =>
    let h := d * 32 + k
    if F.CM_HEAD_ATTACH.of (conf h) = 1 then
      2 * width h (conf h) + ((List.range 8).map fun n =>
        let e := h * 8 + n
        if lPath (lay e 0) (lay e 1) (lay e 2) = 1 then 2 * F.CM_LAYER_WIDTH.of (lay e 1) else 0).sum
    else 0).sum

def State.liveConf (s : State) : Nat → W := fun h => s.word 0x3810 h 1

/-- `CM_POOL` (R189). -/
def State.cmPoolWord (s : State) (d w : Nat) : W :=
  BitVec.ofNat 64 (match w with
  | 0 => lineUse d s.liveLayers s.liveConf fun _ c => (s.headRaster c).1
  | 1 => 737280
  | 2 => ((s.accordOf d).map (·.stored)).sum
  | 3 => 98304
  | 4 => ((s.accordOf d).map (·.entries)).sum
  | 5 => 524288
  | 6 => s.costUse d
  | _ => s.costLimit d)

end Sys2Proof.Machine
end

