-- ==== Sys2Proof/Machine/ApViews.lean ====
section
/-! DEFINITION. Audio ports as they stand (chapter 6): their elements, directions, clocks, slots, streams and frame counts. -/
namespace Sys2Proof.Machine

/-! ### Ports (R141, R144, R155): `AU_PORT_STAT` element `q` is die × 12 + n -/

def isAes (q : Nat) : Bool := 8 ≤ q % 12
def tdmOf (q : Nat) : Nat := q / 12 * 8 + q % 12
def aesOf (q : Nat) : Nat := q / 12 * 4 + (q % 12 - 8)
def qOfTdm (e : Nat) : Nat := e / 8 * 12 + e % 8
def qOfAes (e : Nat) : Nat := e / 4 * 12 + 8 + e % 4

def apSTOPPED : Nat := 0
def apARMED : Nat := 1
def apRUNNING : Nat := 2
def apUNDERRUN : Nat := 3

def apField (tx : Bool) : Fld := if tx then F.AU_PORT_STAT_TXSTATE else F.AU_PORT_STAT_RXSTATE

def State.dirState (s : State) (q : Nat) (tx : Bool) : Nat := s.fld (apField tx) q

/-- A direction is enabled. -/
def State.dirOn (s : State) (q : Nat) (tx : Bool) : Bool :=
  if isAes q then s.fld (if tx then F.AU_AES_TXEN else F.AU_AES_RXEN) (aesOf q) == 1
  else s.fld (if tx then F.AU_TDM_TXEN else F.AU_TDM_RXEN) (tdmOf q) == 1

def clkMASTER : Nat := 0
def clkLOCKED : Nat := 1
def clkFREE : Nat := 2

/-- The clock mode of a direction (R143, R144). -/
def State.dirClock (s : State) (q : Nat) (tx : Bool) : Nat :=
  if isAes q then (if tx then clkMASTER else if s.fld F.AU_AES_RXFREE (aesOf q) = 1 then clkFREE else clkLOCKED)
  else s.fld F.AU_TDM_CLK (tdmOf q)

/-- Slots of a frame; I²S always has two (R141). -/
def tdmSlots (v : W) : Nat := if F.AU_TDM_MODE.of v = 0 then 2 else 2 ^ (F.AU_TDM_SLOTS.of v + 1)

/-- Bits of a slot. -/
def tdmWidth (v : W) : Nat := 16 + 8 * F.AU_TDM_WIDTH.of v

/-- Frames in a house sample. -/
def State.framesPer (s : State) (q : Nat) : Nat := if !isAes q && s.fld F.AU_TDM_RATE (tdmOf q) == 1 then 2 else 1

def streamId (q : Nat) (tx : Bool) : Nat := (if tx then 65536 else 0) + q

def State.stream (s : State) (q : Nat) (tx : Bool) : Option Stream := s.ap.streams.find? fun x => x.id == streamId q tx

def State.setStream (s : State) (x : Stream) : State :=
  { s with ap := { s.ap with streams := x :: s.ap.streams.filter fun y => !(y.id == x.id) } }

def State.dropStream (s : State) (q : Nat) (tx : Bool) : State :=
  { s with ap := { s.ap with streams := s.ap.streams.filter fun y => !(y.id == streamId q tx) } }

/-- A stream of the port runs. -/
def State.portRuns (s : State) (q : Nat) : Bool := (s.stream q false).isSome || (s.stream q true).isSome

/-- The frame count of a port at a house index (R140). -/
def State.frameCount (s : State) (q n : Nat) : Nat :=
  let start := (s.word 0x3068 q 1).toNat
  (if s.dirClock q false = clkFREE ∧ isAes q = false then Config.freeFrames q start n else (n - start) * s.framesPer q) % 2 ^ 32

/-! ### Slot masks (R148) and ASRC channels (R157, R160) -/

def State.maskRun (s : State) (e : Nat) : Option MaskRun := s.ap.masks.find? fun x => x.e == e

/-- The mask in force. -/
def State.maskLive (s : State) (e : Nat) : W := match s.maskRun e with | some x => x.live | none => s.word 0x3048 e 0

def srIDLE : Nat := 0
def srACQUIRE : Nat := 1
def srLOCKED : Nat := 2
def srUNLOCKED : Nat := 3
def srDATA : Nat := 4

/-- The binding that a channel converts by: the old one while it fades out (R158). -/
def State.asrcWord (s : State) (e : Nat) : W := ((s.ap.asrc.find? fun x => x.e == e).bind (·.bound)).getD (s.word 0x3060 e 0)

/-- Fixed delay of a port in house samples: of a frame to the crosspoint, of the crosspoint to a frame (R146). -/
def portDelay (aes tx : Bool) : Nat := (if tx then 1 else 2) + flag aes

/-- A receive or transmit endpoint of a serial port, and its `AU_PORT_STAT` element (R117). -/
def isPortEp (n : Nat) : Bool := 0x2000 ≤ n && n < 0x2208

def epPort (d n : Nat) : Nat := if n < 0x2200 then d * 12 + (n - 0x2000) / 64 else d * 12 + 8 + (n - 0x2200) / 2

/-- What the frames of a receive slot or subframe brought. -/
def State.rxLine (s : State) (d n : Nat) : List (Int × Nat × Nat) :=
  ((s.ap.rx.find? fun x => x.key == d * 16384 + n).map (·.line)).getD []

/-- The frame whose sample is due on the crosspoint (R146). -/
def State.rxDue (s : State) (d n : Nat) : Int × Nat × Nat := (s.rxLine d n).getD (portDelay (0x2200 ≤ n) false) (0, 0, 0)

/-- The level at which a channel's output stands: full where no fade runs and it is not silent. -/
def State.asrcLevel (s : State) (e : Nat) : Nat :=
  if s.fld F.AU_ASRC_STATE e = srDATA then 0
  else match s.ap.asrc.find? fun x => x.e == e with
  | some x => x.level
  | none =>
    let st := s.fld F.AU_ASRC_STATE e
    if st = srLOCKED ∨ (st = srIDLE ∧ s.fld F.AU_ASRC_KIND e = 0) then 64 else 0

/-! ### Engines (R360, R361) -/

/-- Mix engines of a die in service. -/
def State.mixes (s : State) (d : Nat) : List Nat := ([18, 19, 20].map (d * 24 + ·)).filter fun e => s.engine e == engACTIVE || s.engine e == engMOVING

/-- The destination channels of a die: elements with a target. -/
def State.dieChannels (s : State) (d : Nat) : List Nat :=
  (s.auWords.filter fun x => x.1 / 8192 == d && auTType x.2 != 0).map (·.1)

/-- The channels that a mix engine carries: the part deals them out in turn (DESIGN CHOICE, as R360 leaves placement open). -/
def State.mixChannels (s : State) (e : Nat) : List Nat :=
  let l := s.mixes (engDie e)
  match l.findIdx? (· == e) with
  | none => []
  | some i => (s.dieChannels (engDie e)).filter fun c => c % l.length == i

/-- `IC_ENGINE` (R361): class and load beside the stored word. -/
def State.engineWord (s : State) (e w : Nat) : W :=
  let v := s.word 0x6820 e w
  if w = 0 then
    let c := if isEssence e then 0 else if isMix e then 1 else if isSpar e then 2 else 3
    let v := F.IC_ENGINE_CLASS.put v c
    if isEssence e then
      F.IC_ENGINE_TXSLOTS.put (F.IC_ENGINE_RXSLOTS.put v (placedSlots s.regs s.ic.place false e)) (placedSlots s.regs s.ic.place true e)
    else if isMix e then F.IC_ENGINE_CHANNELS.put v (s.mixChannels e).length
    else v
  else v

/-! ### Items in DRAM (R375, R378) -/

/-- Bytes of one rank of a channel. -/
def rankBytes (v : W) : Nat := (if F.MM_CHANNEL_WIDTH.of v = 0 then 16 else 8) * 2 ^ (30 + F.MM_CHANNEL_DENS.of v)

/-- A format at the slowest rate of its family (R101). -/
def slowest (fmt : Nat) : Nat :=
  if fmt = 0x12 then 0x11 else if fmt = 0x22 then 0x21 else if fmt = 0x32 then 0x31 else if fmt = 0x42 then 0x41
  else if fmt = 0x4A then 0x49 else fmt

/-- Bytes of a picture buffer (R101): the slots of one picture period, rounded up to 2 MiB. -/
def bufferBytes (fmt : Nat) : Nat :=
  match format (slowest fmt) with
  | some f => (f.slots * 64 * f.den * secUnits + f.num * sheetUnits * 2097152 - 1) / (f.num * sheetUnits * 2097152) * 2097152
  | none => 0

/-- What a die has to place: the buffers of its stores, its accord images, its images and its delay lines. -/
def State.wantedItems (s : State) (d : Nat) : List Item :=
  let one := fun (k o b n : Nat) => (⟨k, o, b, n, 0, false, false, false⟩ : Item)
  if !s.caps.fsync then []
  else
    ((s.dieSources d).filter fun x => s.isFsync x.1).flatMap (fun x =>
        (List.range (F.ES_ALIGN_DEPTH.of (s.align x.1))).map fun b => one 0 x.1 b (bufferBytes (pFormat x.2)))
      ++ (s.liveStores d).flatMap (fun p => [0, 1].map fun b => one 1 (d * 16384 + p) b (bufferBytes (pFormat (s.port false p))))
      ++ (s.accordOf d).map (fun x => one 2 (x.head * 8 + x.layer) (flag x.fb * 2 + flag x.live) (x.stored * 12288))
      ++ ((entriesOf s.regs 0x3830).filter fun x => x.1 / 1024 == d && F.CM_IMAGE_VALID.of x.2 == 1).map
          (fun x => one 3 x.1 (F.CM_IMAGE_BASE.of x.2 / 16384 % 4) (imgUnits x.2 * 65536))
      ++ (s.auWords.filter fun x => x.1 / 8192 == d && 64 < F.AU_DST_DELAY.of x.2).map
          (fun x => one 4 x.1 0 (delayKiB (F.AU_DST_DELAY.of x.2) * 1024))

def Item.same (a b : Item) : Bool := a.kind == b.kind && a.owner == b.owner && a.buf == b.buf && a.size == b.size

/-- A rank holds data: it reads DATA or SOURCE. -/
def State.rankServes (s : State) (e : Nat) : Bool :=
  let x := s.fld F.MM_RANK_STATE e
  s.chanServes (e / 4) && (x == 1 || x == 3)

/-- Bytes free on a rank. -/
def State.rankFree (s : State) (l : List Item) (e : Nat) : Nat :=
  rankBytes (s.chanConf (e / 4)) - ((l.filter fun x => x.rank == e && !x.lost).map (·.size)).sum

/-- Bytes that a die reserves for delay lines (R135). -/
def delayReserve : Nat := 3072 * 1048576

/-- An item other than a delay line leaves room for the die's delay lines. -/
def State.leavesDelays (s : State) (d : Nat) (l : List Item) (x : Item) : Bool :=
  let free := ((List.range 16).map fun r => if s.rankServes (d * 16 + r) then s.rankFree l (d * 16 + r) else 0).sum
  let used := ((l.filter fun y => y.kind == 4 && y.rank / 16 == d && !y.lost).map (·.size)).sum
  x.kind == 4 || delayReserve ≤ free - x.size + used

/-- The rank on which an item is placed: an image on its quarter's channel, the buffers of a store on successive channels in service;
there the lowest rank with room (DESIGN CHOICE: R378 leaves the rank to the part). -/
def State.rankFor (s : State) (d : Nat) (l : List Item) (x : Item) : Option Nat :=
  let chans := if x.kind = 3 then [d * 4 + x.buf] else (List.range 4).map fun k => d * 4 + (x.owner + x.buf + k) % 4
  (chans.flatMap fun c => (List.range 4).map fun r => c * 4 + r).find? fun e =>
    s.rankServes e && x.size ≤ s.rankFree l e && s.leavesDelays d l x

/-- The items of a die as they now stand: those placed that are still wanted, and the others placed. -/
def State.placedItems (s : State) (d : Nat) : List Item :=
  let want := s.wantedItems d
  let kept := s.mm.items.filter fun x => want.any fun y => y.same x
  (want.filter fun x => !kept.any fun y => y.same x).foldl (fun l x =>
    match s.rankFor d l x with
    | some e => l ++ [{ x with rank := e }]
    | none => l) kept

/-- `MM_RANK` (R388): ITEMS beside the stored word. -/
def State.rankWord (s : State) (e : Nat) : W :=
  F.MM_RANK_ITEMS.put (s.word 0x7020 e 0) (min 4095 ((s.placedItems (e / 16)).countP fun x => x.rank == e && !x.lost))

/-- Progress of the copy of a channel's rank, at 4 GB/s from its first line on (R382, R387). -/
def State.copyPct (s : State) (c : Nat) : Nat :=
  match s.mm.migr.find? fun x => x.ch == c with
  | some m => if s.fld F.MM_CHAN_STAT_STATE c = 3 then min 100 ((s.now - m.since) / nsUnits * 400 / rankBytes (s.chanConf c)) else 0
  | none => 0

/-- `MM_CHAN_STAT` (R387): FREE and the progress of copy and patrol beside the stored word. -/
def State.chanWord (s : State) (c w : Nat) : W :=
  let v := s.word 0x7018 c w
  if w = 0 then
    let l := s.placedItems (c / 4)
    let v := F.MM_CHAN_STAT_COPYPCT.put v (s.copyPct c)
    let v := if s.chanServes c then F.MM_CHAN_STAT_SCRUBPCT.put v (Config.scrubPct c s.now % 101) else v
    F.MM_CHAN_STAT_FREE.put v ((List.range 4).map fun r => if s.rankServes (c * 4 + r) then s.rankFree l (c * 4 + r) else 0).sum
  else v

end Sys2Proof.Machine
end

