-- ==== Sys2Proof/Machine/Operands.lean ====
section
/-! DEFINITION. The operand forms of a host's request: statuses (R318), object addresses and their elements (R340), rights,
ranges and leases (R335, R336). -/
namespace Sys2Proof.Machine

/-- NCP statuses (R318, R74). -/
inductive Status where
  | ok | late | format | port | die | gang | field | audio | rebuild | expired | conflict | mode | owner | rate | geometry
  | count | capacity | noref | twinlink | absent | busy | transition | target
  | rights | lease | index | range | nosession | auth | toobig | limit
  /-- A commit sent on to the deciding twin, whose answer it will have (R93). -/
  | forwarded
deriving DecidableEq, Repr

/-- The codes of R318 and R74. -/
def Status.code : Status → Nat
  | .ok => 0x00 | .late => 0x11
  | .format => 0x20 | .port => 0x21 | .die => 0x22 | .gang => 0x23 | .field => 0x24 | .audio => 0x25 | .rebuild => 0x26
  | .expired => 0x27 | .conflict => 0x29 | .mode => 0x2C | .owner => 0x2D | .rate => 0x2E | .geometry => 0x2F
  | .count => 0x31 | .capacity => 0x32 | .noref => 0x33 | .twinlink => 0x34
  | .absent => 0x40 | .busy => 0x41 | .transition => 0x42 | .target => 0x43
  | .rights => 0x50 | .lease => 0x51 | .index => 0x52 | .range => 0x53
  | .nosession => 0x60 | .auth => 0x61 | .toobig => 0x62 | .limit => 0x63
  | .forwarded => 0x00

/-- Codes 0x50–0x53 are violations (R318). -/
def Status.violation : Status → Bool
  | .rights => true | .lease => true | .index => true | .range => true | _ => false

end Sys2Proof.Machine

namespace Sys2Proof

/-- The bit of a class in a rights mask (R342 READ, WRITE). -/
def Cls.bit : Cls → Nat
  | .operate => 1 | .configure => 2 | .maintain => 4 | .secure => 8

/-- The class's number (R312), which orders the ceilings. -/
def Cls.num : Cls → Nat
  | .operate => 0 | .configure => 1 | .maintain => 2 | .secure => 3

def Cls.ofNum (n : Nat) : Cls := if n = 0 then .operate else if n = 1 then .configure else if n = 2 then .maintain else .secure

/-- The class holds a right of the mask. -/
def Cls.within (c : Cls) (mask : Nat) : Bool := mask &&& c.bit != 0

/-- The CM of the rights "CONFIGURE and MAINTAIN". -/
def Cls.isMaintain (c : Cls) : Bool := c == .maintain

/-- VIA as `CT_VIOLATION` codes it (R337). -/
def Path.via : Path → Nat
  | .busA => 0 | .busB => 0 | .media => 1 | .pcie => 2

/-- VIA as `CT_SESSION_STAT` codes it (R322). -/
def Att.via : Att → Nat
  | .bus a => if a.val % 2 = 0 then 0 else 1
  | .mac _ _ => 2

def Att.path : Att → Path
  | .bus a => if a.val % 2 = 0 then .busA else .busB
  | .mac _ _ => .media

/-- The object address as NCP sends it (R313), with its reserved byte. -/
def WireAddr.wire (x : WireAddr) : Nat := x.addr.ix * 2 ^ 48 + x.addr.sub * 2 ^ 40 + x.res % 256 * 2 ^ 32 + x.addr.e % 2 ^ 32

/-- An address whose reserved byte is 0. -/
def Addr.sent (a : Addr) : WireAddr := ⟨a, 0⟩

end Sys2Proof

namespace Sys2Proof.Machine

/-- The type codes of R313. -/
def OType.code : OType → Nat
  | .u8 => 1 | .u16 => 2 | .u32 => 3 | .u64 => 4 | .i32 => 5 | .str => 9 | .blob => 10

/-- Bytes of one word of a type on the wire. -/
def OType.bytes : OType → Nat
  | .u8 => 1 | .u16 => 2 | .u32 => 4 | .u64 => 8 | .i32 => 4 | .str => 1 | .blob => 1

def OType.isBytes (t : OType) : Bool := t == .str || t == .blob

/-- Lane element `e` of a die's 160: receive lanes 0–79 and transmit lanes 80–159, ten to a shroud, the stay last (R195). -/
def laneIsStay (e : Nat) : Bool := e % 160 % 10 == 9

/-- Elements of `PW_DOMAIN` that exist for a die count (R435). -/
def domainExists (dies e : Nat) : Bool := (e < dies * 32 && e % 32 < 27) || e == 256 || e == 257

/-- Elements of `PW_MON` that exist (R444, R445). -/
def monitorExists (dies e : Nat) : Bool :=
  e < dies * 128 && (e % 128 < 12 || (16 ≤ e % 128 && e % 128 < 40) || (64 ≤ e % 128 && e % 128 < 104))

/-- The number of bytes of a STR or BLOB (R320, R344, R404, R421, R422, R424, R431). -/
def blobSize (ix sub : Nat) : Nat :=
  match ix, sub with
  | 0x1000, 8 => 24
  | 0x6010, 1 => 88
  | 0x6010, 3 => 16
  | 0x7830, 1 => 16
  | 0x7830, 2 => 88
  | 0x8030, 0 => 50331648
  | 0x8040, 1 => 32
  | 0x8040, 2 => 4915
  | 0x8048, 0 => 2689
  | 0x8050, 2 => 8632
  | 0x8050, 3 => 16
  | _, _ => 0

/-- Whether element `e` exists on a part of capabilities `c` (R340). -/
def elemExists (c : Caps) (o : Obj) (e : Nat) : Bool :=
  if o.typ.isBytes then e < blobSize o.ix o.sub
  else match o.dim with
    | .scalar => e == 0
    | .const n => e < n
    | .perDie n => e < c.dies * n
    | .from1 n => 1 ≤ e && e ≤ n
    | .noStay n => e < c.dies * n && !laneIsStay e
    | .ports => e < c.ports
    | .twoPorts => e < c.ports || (16384 ≤ e && e < 16384 + c.ports)
    | .lease => e < c.ports || (16384 ≤ e && e < 16384 + c.dies * 8192) || (81920 ≤ e && e < 81920 + c.dies * 32)
    | .domains => domainExists c.dies e
    | .monitors => monitorExists c.dies e
    | .keep => e < c.ports || (16384 ≤ e && e < 16384 + c.dies * 32)
    | .dict => e < dictionary.length

/-- The largest member, by which an absent unit's elements are judged to exist (R340). -/
def largest : Caps := ⟨.sc8f, true⟩

/-- The heads of `CT_LEASE` and of `PW_KEEP` on a part without composition answer ABSENT (R336, R340). -/
def elemAbsent (c : Caps) (o : Obj) (e : Nat) : Bool :=
  !c.has o.unit_ || (!c.comp && ((o.ix == 0x6030 && 81920 ≤ e) || (o.ix == 0x884C && 16384 ≤ e)))

/-- Check 1 of R335 and R8: the object, or the status that answers the address at once. -/
def findElem (c : Caps) (a : Addr) : Except Status Obj :=
  match findObj a.ix a.sub with
  | none => .error .index
  | some o =>
    if elemAbsent c o a.e then
      if elemExists largest o a.e then .error .absent else .error .index
    else if elemExists c o a.e then .ok o else .error .index

/-- An object of the dictionary is an array: it has more than one element (R342). -/
def Obj.isArray (o : Obj) : Bool := !(o.dim == .scalar)

/-- The object's words that a host may write. -/
def Obj.lastRw (o : Obj) : Nat :=
  (o.acc.zipIdx.foldl (fun n x => if x.1 == .rw || x.1 == .wo || x.1 == .w1c then x.2 + 1 else n) 0)

/-- Access code of `SY_DICT` (R342). -/
def Obj.accessCode (o : Obj) : Nat :=
  match o.acc with
  | [] => 0
  | a :: r => if r.all (· == a) then
      match a with | .ro => 0 | .rw => 1 | .wo => 2 | .w1c => 3 | .rc => 4
    else 5

/-- Persistence code of `SY_DICT` (R342). -/
def Obj.persistCode (o : Obj) : Nat :=
  match o.per with
  | [] => 0
  | a :: r => if r.all (· == a) then
      match a with | .volatile => 0 | .saved => 1 | .factory => 2
    else 3

/-- The persistence of a word under its register name. -/
def wordPersist (k : Key) : Persist :=
  match findObj k.ix 0 with
  | some o => o.per.getD k.w .volatile
  | none => match findObj k.ix k.w with
    | some o => o.per.getD 0 .volatile
    | none => .volatile

/-- The access code of a word under its register name. -/
def wordAcc (k : Key) : Acc :=
  match findObj k.ix 0 with
  | some o => o.acc.getD k.w .ro
  | none => match findObj k.ix k.w with
    | some o => o.acc.getD 0 .ro
    | none => .ro

/-- The register word of word `w` of a subindex: a scalar's word is its subindex. -/
def regWord (sub w : Nat) : Nat := if sub = 0 then w else sub

/-- A value fits a type. -/
def OType.fits (t : OType) (v : W) : Bool := v.toNat < 2 ^ (8 * t.bytes)

end Sys2Proof.Machine
end

