-- ==== Sys2Proof/Machine/Reads.lean ====
section
/-! DEFINITION. What a read of an object returns: the stored words, and the views that the part composes from the rest of the
state. -/
namespace Sys2Proof.Machine

/-! ### Sillage records (R398) -/

def Level.num : Level → Nat
  | .notice => 0 | .degrade => 1 | .contain => 2 | .isolate => 3

def Level.ofNum (n : Nat) : Level :=
  if n = 0 then .notice else if n = 1 then .degrade else if n = 2 then .contain else .isolate

/-- Word `w` of a record as R398 lays it out. -/
def Rec.word (r : Rec) (w : Nat) : W :=
  BitVec.ofNat 64 (match w with
  | 0 => r.code * 2 ^ 48 + r.die * 2 ^ 45 + r.level.num * 2 ^ 43 + flag r.opened * 2 ^ 42 + flag r.merged * 2 ^ 41
      + flag r.lg * 2 ^ 40 + flag r.emerg * 2 ^ 39 + flag r.esc * 2 ^ 38 + flag r.preempt * 2 ^ 37
      + flag r.relayed * 2 ^ 36 + r.seq
  | 1 => r.secs * 2 ^ 32 + r.nanos
  | 2 => r.epoch * 2 ^ 48 + r.rep * 2 ^ 32 + r.p1
  | _ => r.p2 * 2 ^ 32 + r.p3)

def Rec.words (r : Rec) : List W := [r.word 0, r.word 1, r.word 2, r.word 3]

/-- Records put in sequence order, by signed difference (R399). -/
def insertRec (r : Rec) : List Rec → List Rec
  | [] => [r]
  | x :: l => if later 32 x.seq r.seq then r :: x :: l else x :: insertRec r l

/-- Every record that any die's sillage holds, in sequence order (R402). -/
def State.records (s : State) : List Rec := s.ev.sillage.flatten.foldl (fun l r => insertRec r l) []

/-- A sequence number at or after another (R255). -/
def seqFrom (x y : Nat) : Bool := x == y || later 32 x y

/-- The `k`-th record of a context's window (R402). -/
def State.windowRec (s : State) (c k : Nat) : Option Rec :=
  (s.records.filter fun r => seqFrom r.seq (s.fld F.EV_CURSOR_CURSOR c))[k]?

/-- The last-gasp store in sequence order (R406). -/
def State.lastGaspRec (s : State) (i : Nat) : Option Rec := (s.ev.lastGasp.foldl (fun l r => insertRec r l) [])[i]?

/-! ### The fault manager's view (R396) -/

def FaultMgr.level (m : FaultMgr) : Nat := m.opened.foldl (fun n f => max n (f.level.num + 1)) 0

def State.faultMgr (s : State) (d : Nat) : FaultMgr := s.ev.mgr.getD d ⟨none, [], [], []⟩

/-- The highest open level of a die (R396 LEVEL): open faults, and the NOTICEs whose handlers run or wait. -/
def State.faultLevel (s : State) (d : Nat) : Nat :=
  let m := s.faultMgr d
  max m.level (flag ((m.running.toList ++ m.suspended ++ m.queue).any (·.level == .notice)))

def State.faultWord (s : State) (d w : Nat) : W :=
  let m := s.faultMgr d
  match w with
  | 0 =>
    let v := F.EV_FAULT_QUEUED.put (F.EV_FAULT_LEVEL.put 0 (s.faultLevel d)) m.queue.length
    match m.running with
    | none => v
    | some f => F.EV_FAULT_RUNSEQ.put (F.EV_FAULT_RUNCODE.put (F.EV_FAULT_RUNLVL.put v (f.level.num + 1)) f.code) f.seq
  | 1 => F.EV_FAULT_OPENCON.put (F.EV_FAULT_OPENDEG.put 0 (m.opened.countP (·.level == .degrade)))
      (m.opened.countP (·.level == .contain))
  | _ => s.word 0x7808 d w

def State.sillageOf (s : State) (d : Nat) : List Rec := s.ev.sillage.getD d []

/-- `EV_SILLAGE` (R403): HELD, OLDEST, NEWEST and LGUNSENT are those of the records held. -/
def State.sillageWord (s : State) (d w : Nat) : W :=
  let l := s.sillageOf d
  let v := s.word 0x7810 d w
  match w with
  | 0 => F.EV_SILLAGE_OLDEST.put (F.EV_SILLAGE_HELD.put v l.length) ((l.head?.map (·.seq)).getD 0)
  | _ => F.EV_SILLAGE_LGUNSENT.put (F.EV_SILLAGE_NEWEST.put v ((l.getLast?.map (·.seq)).getD 0))
      (s.ev.lastGasp.countP (fun r => !r.emerg))

/-! ### Sessions (R322) -/

def State.session (s : State) (c : Nat) : Option Session := (s.host.sessions.getD c none)

def State.sessionWord (s : State) (c w : Nat) : W :=
  match s.session c with
  | none => 0
  | some x =>
    match w with
    | 0 => F.CT_SESSION_STAT_IDLE.put (F.CT_SESSION_STAT_SUBS.put (F.CT_SESSION_STAT_SESSION.put
        (F.CT_SESSION_STAT_CEILING.put (F.CT_SESSION_STAT_VIA.put (F.CT_SESSION_STAT_OPEN.put 0 1) x.att.via) x.ceil.num)
          x.number) x.subs.length) (min 65535 ((s.now - x.lastReq) / secUnits))
    | _ => F.CT_SESSION_STAT_UDP.put (F.CT_SESSION_STAT_IPADDR.put 0 x.ip) x.udp

/-! ### Identity, time, dictionary -/

def Member.code : Member → Nat
  | .sc8f => 0x81 | .sc8x => 0x82 | .sc4f => 0x41 | .sc2e => 0x21

def Member.order : Member → List Byte
  | .sc8f => [0x44, 0x59, 0x2D, 0x53, 0x43, 0x38, 0x46]
  | .sc8x => [0x44, 0x59, 0x2D, 0x53, 0x43, 0x38, 0x58]
  | .sc4f => [0x44, 0x59, 0x2D, 0x53, 0x43, 0x34, 0x46]
  | .sc2e => [0x44, 0x59, 0x2D, 0x53, 0x43, 0x32, 0x45]

/-- STEPPING of a B0 package (R344): 0x10 for each die, 0xFF beyond. -/
def Caps.stepping (c : Caps) : Nat :=
  if c.dies = 8 then 0x1010101010101010 else if c.dies = 4 then 0xFFFFFFFF10101010 else 0xFFFFFFFFFFFF1010

def State.identityWord (s : State) (sub : Nat) : W :=
  match sub with
  | 1 => BitVec.ofNat 64 (s.caps.member.code * 2 ^ 24 + 0x420000)
  | 2 => F.SY_IDENTITY_MAST.put (s.word 0x1000 0 2) s.mastDie
  | 4 => Config.serial
  | _ => BitVec.ofNat 64 s.caps.stepping

def State.capsWord (s : State) (sub : Nat) : W :=
  BitVec.ofNat 64 (match sub with
  | 1 => s.caps.word
  | 2 => s.caps.ports
  | 3 => s.caps.dies * 6144
  | _ => s.caps.dies * 8192)

/-- `TM_TIME` (R255). -/
def State.timeWord (s : State) (w : Nat) : W :=
  match w with
  | 0 => BitVec.ofNat 64 (s.clk.epoch * 2 ^ 48 + secsOf s.clk.count)
  | 1 => BitVec.ofNat 64 (nanosOf s.clk.count * 2 ^ 32 + s.clk.count / 65 % 2 ^ 32)
  | _ =>
    let lag : Int := max (-(2 ^ 31 : Int)) (min (2 ^ 31 - 1 : Int) (s.clk.hlag.tdiv nsUnits))
    BitVec.ofNat 64 (unsigned 32 s.clk.frac * 2 ^ 32 + unsigned 32 lag)

/-- The window stride of R343: the least power of two that holds the element's words, from 8 bytes. -/
def strideShift (words : Nat) : Nat := if words ≤ 1 then 3 else if words ≤ 2 then 4 else if words ≤ 4 then 5 else if words ≤ 8 then 6 else 7

/-- Tables that stand in SRAM (R12, R343, R372): the take queues, the crosspoint banks, the port tables, the calendars, the head and layer
words, the sillage. -/
def inSram (ix : Nat) : Bool :=
  ix == 0x2010 || ix == 0x2030 || ix == 0x2810 || ix == 0x2818 || ix == 0x2840 || ix == 0x3810 || ix == 0x3820 || ix == 0x7828

/-- The store of a window (R343): SRAM, DRAM for `CM_PIXELS` (R179), elsewhere the part's own. -/
def storeOf (o : Obj) : Nat := if inSram o.ix then 1 else if o.ix = 0x3838 then 2 else Config.winStore o.ix o.sub % 3

/-- BAR2 offset of a window, a multiple of 4,096 of 36 bits; that of `SY_DICT` is 0 (R343). -/
def winBase (o : Obj) : Nat := if o.ix = 0x1030 then 0 else Config.winBase o.ix o.sub % 2 ^ 24 * 4096

/-- The highest element or byte of a window (R343). -/
def lastElem (c : Caps) (o : Obj) : Nat :=
  if o.typ.isBytes then blobSize o.ix o.sub - 1
  else match o.dim with
    | .scalar => 0
    | .const n => n - 1
    | .perDie n => c.dies * n - 1
    | .from1 n => n
    | .noStay n => c.dies * n - 2
    | .ports => c.ports - 1
    | .twoPorts => 16384 + c.ports - 1
    | .lease => if c.comp then 81920 + c.dies * 32 - 1 else 16384 + c.dies * 8192 - 1
    | .domains => 257
    | .monitors => c.dies * 128 - 25
    | .keep => 16384 + c.dies * 32 - 1
    | .dict => dictionary.length - 1

def perDieOf (o : Obj) : Nat :=
  match o.dim with
  | .perDie n => n
  | .noStay n => n
  | .monitors => 128
  | .domains => 32
  | _ => if o.ix = 0x6020 ∨ o.ix = 0x6028 then 2 else 0

/-- The objects the boot ROM serves in SAFE (R418). -/
def servedInSafe (o : Obj) : Bool :=
  o.ix == 0x1000 || o.ix == 0x1010 || o.ix == 0x1020 || o.ix == 0x1018 || o.ix == 0x1028 || o.ix == 0x1030
    || (0x6000 ≤ o.ix && o.ix ≤ 0x67FF) || (0x7800 ≤ o.ix && o.ix ≤ 0x7FFF) || (0x8000 ≤ o.ix && o.ix ≤ 0x87FF)
    || o.ix == 0x5008 || o.ix == 0x5000 || o.ix == 0x7028 || o.per.contains .saved

/-- The dictionary as the part lists it: in SAFE the objects that it serves there only (R418). -/
def State.listed (s : State) : List Obj := if s.mode = SAFE then dictionary.filter servedInSafe else dictionary

/-- `SY_DICT` (R342, R343). -/
def State.dictWord (s : State) (e w : Nat) : W :=
  match s.listed[e]? with
  | none => 0
  | some o =>
    let window := o.isArray || o.typ.isBytes
    BitVec.ofNat 64 (match w with
    | 0 => o.ix * 2 ^ 48 + o.sub * 2 ^ 40 + (if o.isArray then 0x0B else o.typ.code) * 2 ^ 32 + o.accessCode * 2 ^ 28
        + o.rd * 2 ^ 24 + o.wr * 2 ^ 20 + o.persistCode * 2 ^ 18 + flag (s.caps.has o.unit_) * 2 ^ 17 + flag o.lease * 2 ^ 16
    | 1 =>
      if window then
        o.typ.code * 2 ^ 56 + (if o.typ.isBytes then 0 else o.acc.length) * 2 ^ 48 + storeOf o * 2 ^ 44
          + (if o.typ.isBytes then 0 else strideShift o.acc.length) * 2 ^ 40 + winBase o
      else if o.per.contains .factory then 0
      else if o.ix = 0x1018 then s.caps.defaultRole
      else o.dflt.headD 0
    | _ => if window then lastElem s.caps o * 2 ^ 32 + perDieOf o else 0)

/-- KIND of a monitor (R445). -/
def monKind (e : Nat) : Nat :=
  let m := e % 128
  if m < 12 then 0 else if m < 32 then 1 else if m < 40 then 2 else if m < 96 then 3 else 4

/-- The unit of a switched domain is present (R9, R435). -/
def domainPresent (c : Caps) (e : Nat) : Bool :=
  if 256 ≤ e then true
  else
    let k := e % 32
    if 16 ≤ k && k < 20 then c.fsync else if k == 20 || k == 21 then c.comp else if k == 22 then c.auport else true

/-- `LK_TXEQ` (R209): in ETH-KR4 the trained PRE and POST, in SDI none. -/
def State.txeqWord (s : State) (e : Nat) : W :=
  let v := s.word 0x4018 e 0
  if e % 10 < 8 ∧ laneIsTx e = true then
    let m := s.fld F.LK_LANE_MODE e
    if m = 1 then
      match (s.lk.lanes.find? fun x => x.e == e).bind (·.taps) with
      | some t => F.LK_TXEQ_PRE.put (F.LK_TXEQ_POST.put v (F.LK_TXEQ_POST.of t)) (F.LK_TXEQ_PRE.of t)
      | none => v
    else if m = 3 then F.LK_TXEQ_PRE.put (F.LK_TXEQ_POST.put v 0) 0
    else v
  else v

/-- QUALITY (R261): the grandmaster's clockClass for PTP, CLASS for the others. -/
def State.refQuality (s : State) (r : Nat) : Nat :=
  if 6 ≤ r && r < 10 then s.fld F.TM_PTP_STAT_GMCLASS (r - 6) else s.fld F.TM_REF_CLASS r

/-- `TM_REF_STAT` (R261): QUALITY of a reference in use is what R267 orders by. -/
def State.refStatWord (s : State) (r w : Nat) : W :=
  if w = 0 ∧ s.fld F.TM_REF_EN r = 1 then F.TM_REF_STAT_QUALITY.put (s.word 0x5018 r 0) (s.refQuality r) else s.word 0x5018 r w

/-- PATHS: packets in the last 1 ms. -/
def State.paths (s : State) (x : RxFlow) : Nat :=
  let on := fun (t : Option Nat) => match t with | some t => flag (s.now ≤ t + ms 1) | none => 0
  on x.lastA + 2 * on x.lastB

/-- `MX_PORT_STAT` (R249): PATHS of a source's video flow are those of the last 1 ms. -/
def State.portStatWord (s : State) (e w : Nat) : W :=
  let id : FlowId := ⟨false, e, 0⟩
  match s.mx.flows.find? fun x => x.id == id with
  | some x => if w = 0 then F.MX_PORT_STAT_PATHS.put (s.word 0x4870 e 0) (s.paths x) else s.word 0x4870 e w
  | none => if w = 0 then F.MX_PORT_STAT_PATHS.put (s.word 0x4870 e 0) 0 else s.word 0x4870 e w

/-! ### The composed read -/

/-- What word `w` of element `e` of object `ix` reads as: a scalar's word is its subindex. Clear-on-read is the reader's
(`State.cleared`). -/
def State.read (s : State) (ix e w : Nat) : W :=
  match ix with
  | 0x1000 => s.identityWord w
  | 0x1010 => s.capsWord w
  | 0x1028 => F.SY_SAVE_AGE.put (s.word ix e w) (min (2 ^ 28 - 1) ((s.now - s.save.lastGen) / secUnits))
  | 0x1030 => s.dictWord e w
  | 0x5008 => s.timeWord w
  | 0x6020 => if w = 1 then F.CT_BUS_MACADDR.put 0 (fusedMac (Config.busMac e)).toNat else s.word ix e w
  | 0x6050 => s.sessionWord e w
  | 0x7808 => s.faultWord e w
  | 0x7810 => s.sillageWord e w
  | 0x7828 => ((s.windowRec (e / 256) (e % 256)).map (·.word w)).getD 0
  | 0x7838 => ((s.lastGaspRec e).map (·.word w)).getD 0
  | 0x8810 => if domainPresent s.caps e then s.word ix e w else 0
  | 0x8818 => F.PW_MON_KIND.put (s.word ix e w) (monKind e)
  | 0x2008 => s.queueWord e w
  | 0x2030 => s.dstWord e
  | 0x2840 => s.calWord e
  | 0x2868 => s.poolWord e w
  | 0x3038 => s.auUseWord e w
  | 0x3820 => if s.caps.layers ≤ e % 8 then 0 else s.word ix e w
  | 0x3848 => s.cmPoolWord e w
  | 0x3068 =>
    if w = 2 ∧ s.portRuns e = true then F.AU_PORT_STAT_FRAMES.put (s.word ix e w) (s.frameCount e (s.house * 48000 / secUnits))
    else s.word ix e w
  | 0x4008 => if w = 0 then BitVec.ofNat 64 (s.sheetNow % 2 ^ 23) else s.word ix e w
  | 0x4018 => s.txeqWord e
  | 0x4870 => s.portStatWord e w
  | 0x5018 => s.refStatWord e w
  | 0x6820 => s.engineWord e w
  | 0x7018 => s.chanWord e w
  | 0x7020 => s.rankWord e
  | _ => s.word ix e w

/-- The words of an element. -/
def State.readElem (s : State) (o : Obj) (e : Nat) : List W :=
  (List.range o.acc.length).map fun w => s.read o.ix e (regWord o.sub w)

end Sys2Proof.Machine
end

