-- ==== Sys2Proof/Machine/Events.lean ====
section
/-! DEFINITION. What the part tells the outside unasked: NOTIFYs to subscribers (R323–R327), sillage records and their
handling (R391–R406), EMERGENCYs (R328). -/
namespace Sys2Proof.Machine

/-! ### NOTIFY -/

/-- A subscription covers an element (R323). -/
def Sub.covers (x : Sub) (ix sub e : Nat) : Bool :=
  x.addr.ix == ix && x.addr.sub == sub && x.addr.e ≤ e && e < x.addr.e + x.count

/-- A NOTIFY queued for one subscription: events on one element within 1 ms of the first give one NOTIFY (R325), a full queue
drops it (R327). The new queue, and whether it was dropped. -/
def queueNote (l : List Note) (n : Note) : List Note × Bool :=
  if n.cause == 1 && l.any (fun x => x.cause == 1 && x.sub == n.sub && x.addr == n.addr && n.born < x.born + ms 1) then
    (l.map fun x => if x.cause == 1 && x.sub == n.sub && x.addr == n.addr && n.born < x.born + ms 1
      then { x with data := n.data } else x, false)
  else if l.length < 512 then (l ++ [n], false)
  else (l, true)

/-- The notes of every covering subscription queued: the queue, whether any was dropped, and how many. -/
def queueNotes (subs : List Sub) (l : List Note) (cause ix sub e : Nat) (data : List W) (now : Nat) : List Note × Nat :=
  subs.foldl (fun acc x =>
    if x.covers ix sub e then
      let r := queueNote acc.1 ⟨x.id, cause, ⟨ix, sub, e⟩, data, now⟩
      (r.1, acc.2 + flag r.2)
    else acc) (l, 0)

def Session.note (x : Session) (cause ix sub e : Nat) (data : List W) (now : Nat) : Session × Nat :=
  let r := queueNotes x.subs x.notes cause ix sub e data now
  ({ x with notes := r.1, spilt := x.spilt || r.2 != 0 }, r.2)

def PcieFn.note (x : PcieFn) (cause ix sub e : Nat) (data : List W) (now : Nat) : PcieFn × Nat :=
  let r := queueNotes x.subs x.notes cause ix sub e data now
  ({ x with notes := r.1, spilt := x.spilt || r.2 != 0 }, r.2)

/-- Vector `v` is masked (the MSI-X table's vector control, PRESUMED of the PCI Express specification). -/
def PcieFn.masked (x : PcieFn) (v : Nat) : Bool := getBits (x.msix.getD (2 * v + 1) 0) 32 1 == 1

/-- Vector `v` raised (R333): its cause bit; a masked one is pending. -/
def PcieFn.raise (x : PcieFn) (v : Nat) : PcieFn :=
  { x with irqCause := x.irqCause ||| 2 ^ v, pba := if x.masked v then x.pba ||| 2 ^ v else x.pba }

/-- Subscribers of element `e` of an object are notified with the element's value now (R323, R325). -/
def State.notifySub (s : State) (ix sub e : Nat) : State :=
  match findObj ix sub with
  | none => s
  | some o =>
    let data := s.readElem o e
    let ss := s.host.sessions.map fun x => x.map fun y => y.note 1 ix sub e data s.now
    let ps := s.host.pcie.map fun y => y.note 1 ix sub e data s.now
    let drops := (ss.map fun x => match x with | some y => y.2 | none => 0).sum + (ps.map (·.2)).sum
    let s := s.withHost fun h => { h with sessions := ss.map (·.map (·.1)), pcie := ps.map (·.1) }
    if drops = 0 then s else s.bump F.CT_NCP_STAT_NOTIFYDROP 0 drops

/-- Subscribers of an array's element are notified. -/
def State.notify (s : State) (ix e : Nat) : State := s.notifySub ix 0 e

/-- A field set, and its element's subscribers notified where the value changed. -/
def State.setNotify (s : State) (f : Fld) (e v : Nat) : State :=
  if s.fld f e = v then s else (s.setFld f e v).notify f.ix e

/-! ### Codes (R412, R434, R462) -/

/-- The level of a code. SRAM-UE takes the level of R372 from its raiser. -/
def codeLevel (c : Nat) : Level :=
  if c = 0x1002 ∨ c = 0x1003 ∨ c = 0x4005 ∨ c = 0x7804 then .isolate
  else if c = 0x7005 ∨ c = 0x7801 then .contain
  else if c = 0x1004 ∨ c = 0x2805 ∨ c = 0x4001 ∨ c = 0x4002 ∨ c = 0x4003 ∨ c = 0x4004 ∨ c = 0x5002 ∨ c = 0x5801
      ∨ c = 0x5804 ∨ c = 0x6803 ∨ c = 0x7002 ∨ c = 0x7004 ∨ c = 0x7006 ∨ c = 0x8001 ∨ c = 0x8002 ∨ c = 0x8005
      ∨ c = 0x8801 ∨ c = 0x8802 ∨ c = 0x8804 ∨ c = 0x8805 ∨ c = 0x8806 ∨ c = 0x8809 ∨ c = 0x880A ∨ c = 0x880B then .degrade
  else .notice

/-- The unit class of a code (R392). -/
def codeUnit (c : Nat) : UnitCls :=
  if c = 0x1002 ∨ c = 0x1003 then .package
  else if c = 0x2801 ∨ c = 0x2802 ∨ c = 0x2803 then .port
  else if c = 0x3002 ∨ c = 0x3003 then .stream
  else if c = 0x4001 ∨ c = 0x4002 ∨ c = 0x4003 then .lane
  else if c = 0x4005 ∨ c = 0x7804 then .die
  else if c = 0x5003 ∨ c = 0x5004 ∨ c = 0x5005 then .ref
  else if c = 0x6803 then .engine
  else if c = 0x7002 ∨ c = 0x7004 then .rank
  else if c = 0x7005 then .channel
  else if c = 0x7801 then .sillage
  else .none

/-! ### The sillage -/

/-- A die's sillage takes records: it reads OK (R403, R405). -/
def State.sillageOk (s : State) (d : Nat) : Bool := s.fld F.EV_SILLAGE_STATE d == 0 && d < s.dies

/-- The next die upward, modulo the die count, whose sillage reads OK (R405). -/
def State.nextSillage (s : State) (d : Nat) : Option Nat :=
  (List.range s.dies).map (fun k => (d + k) % s.dies) |>.find? fun x => s.sillageOk x

/-- The die whose sillage takes a record with `d` in DIE, and whether it is relayed (R405, R411). -/
def State.holder (s : State) (d : Nat) : Option (Nat × Bool) :=
  let first := if s.sys.isolated.contains d then s.mastDie else d
  (s.nextSillage first).map fun h => (h, h != d)

/-- RELAYTO of every sillage that does not read OK: the die that now holds its later records (R403). -/
def State.relays (s : State) : State :=
  (List.range s.dies).foldl (fun (s : State) d =>
    if s.fld F.EV_SILLAGE_STATE d = 0 then s
    else match s.holder d with | some h => s.setFld F.EV_SILLAGE_RELAYTO d h.1 | none => s) s

/-- A record's place in the last-gasp store: 16 records, a new one over the oldest with EMERG set, else over the oldest
(R406). -/
def lastGaspPut (l : List Rec) (r : Rec) : List Rec :=
  if l.length < 16 then l ++ [r]
  else match l.findIdx? (·.emerg) with
    | some i => l.eraseIdx i ++ [r]
    | none => l.eraseIdx 0 ++ [r]

/-- A record added to a ring of 4,096: the ring, and the record overwritten (R399). -/
def ringPut (l : List Rec) (r : Rec) : List Rec × Option Rec :=
  if l.length < 4096 then (l ++ [r], none) else (l.drop 1 ++ [r], l.head?)

/-- A context whose CURSOR had not passed an overwritten record counts it in MISSED (R401). -/
def State.missed (s : State) (r : Rec) : State :=
  (List.range 4).foldl (fun s c =>
    if seqFrom r.seq (s.fld F.EV_CURSOR_CURSOR c) then s.bump F.EV_CURSOR_MISSED c 1 else s) s

/-- An EMERGENCY to be sent three times (R328). -/
def State.emergency (s : State) (r : Rec) : State := s.withHost fun h => { h with emerg := h.emerg ++ [(r.words, 0, 0)] }

/-- A new record stored under R399, R405 and R406. -/
def State.store (s : State) (r : Rec) (lg : Bool) : State :=
  let h := s.holder r.die
  let lg := lg || h.isNone
  let r := { r with lg := lg, relayed := (h.map (·.2)).getD false }
  let s := if lg then s.withEv fun e => { e with lastGasp := lastGaspPut e.lastGasp r } else s
  match h with
  | none => s
  | some (d, _) =>
    if r.code = 0x7801 then s else
    let x := ringPut (s.sillageOf d) r
    let s := s.withEv fun e => { e with sillage := e.sillage.set d x.1 }
    match x.2 with | some old => s.missed old | none => s

/-- Parameters and flags of a record as it is written. -/
structure NewRec where
  code  : Nat
  level : Level
  die   : Nat
  p1    : Nat
  p2    : Nat
  p3    : Nat
  esc   : Bool
  pre   : Bool
  lg    : Bool

/-- The open record that an event merges into (R400): the newest of its die with the same CODE and P1, merged into less than 10 s ago. -/
def State.mergeable (s : State) (n : NewRec) (d : Nat) : Option Nat :=
  let l := s.sillageOf d
  (List.range l.length).reverse.find? fun i =>
    match l[i]? with
    | some r => r.opened && s.now < r.touched + secs 10 && r.code == n.code && r.p1 == n.p1 % 2 ^ 32 && r.die == n.die
    | none => false

/-- An event merged (R400): REPEAT counts, P2 and P3 are the latest, and a full REPEAT closes the record. -/
def Rec.merge (r : Rec) (n : NewRec) (now : Nat) : Rec :=
  { r with rep := satAdd 65535 r.rep 1, p2 := n.p2 % 2 ^ 32, p3 := n.p3 % 2 ^ 32, merged := true, touched := now,
           esc := r.esc || n.esc, preempt := r.preempt || n.pre
           level := if r.level.num < n.level.num then n.level else r.level
           opened := r.rep + 1 < 65535 && n.level.num < 2 }

/-- A record written or merged (R399, R400); the sequence number it stands under. One of level ISOLATE, also where a merge raises it, goes to the
last-gasp store and is sent as an EMERGENCY (R328, R406). -/
def State.writeRec (s : State) (n : NewRec) : State × Nat :=
  let merge := match s.holder n.die with
    | some (d, _) => (s.mergeable n d).map fun i => (d, i)
    | none => none
  match merge with
  | some (d, i) =>
    match (s.sillageOf d)[i]? with
    | none => (s, 0)
    | some old =>
      let r := old.merge n s.now
      let s := s.withEv fun e => { e with sillage := e.sillage.modify d fun l => l.modify i fun _ => r }
      (if r.level == .isolate && old.level != .isolate then
        (s.withEv fun e => { e with lastGasp := lastGaspPut e.lastGasp { r with lg := true } }).emergency r
      else s, r.seq)
  | none =>
    let seq := s.clk.pseq
    let r : Rec := {
      code := n.code, die := n.die, level := n.level, opened := n.level == .notice || n.level == .degrade,
      merged := false, lg := n.lg, emerg := false, esc := n.esc, preempt := n.pre, relayed := false, seq := seq,
      secs := secsOf s.clk.count % 2 ^ 32, nanos := nanosOf s.clk.count, epoch := s.clk.epoch, rep := 0,
      p1 := n.p1 % 2 ^ 32, p2 := n.p2 % 2 ^ 32, p3 := n.p3 % 2 ^ 32, touched := s.now }
    let s := { s with clk := { s.clk with pseq := (seq + 1) % 2 ^ 32 } }
    let s := s.store r (n.lg || n.level == .isolate)
    (if n.level == .isolate || n.code == 0x7801 then s.emergency r else s, seq)

/-! ### The fault manager (R394) -/

def Level.up : Level → Level
  | .notice => .degrade | .degrade => .contain | _ => .isolate

/-- A unit is taken out of service under R392. -/
def State.takeOut (s : State) (u : UnitCls) (d p : Nat) : State :=
  if u == .none || s.ev.out.contains (u, d, p) then s else s.withEv fun e => { e with out := (u, d, p) :: e.out }

/-- A unit is back in service (R392). -/
def State.putBack (s : State) (u : UnitCls) (d p : Nat) : State :=
  s.withEv fun e => { e with out := e.out.filter fun x => !(x == (u, d, p)) }

def State.isOut (s : State) (u : UnitCls) (d p : Nat) : Bool := s.ev.out.contains (u, d, p)

/-- FAULT_N is low while any ISOLATE is open (R393, R477), or no mast runs (R24). -/
def State.driveFault (s : State) : State :=
  let low := s.ev.mgr.any fun m => (m.opened.any (·.level == .isolate))
  s.withSys fun y => { y with faultN := low || y.mast.isNone || y.held }

def State.withMgr (s : State) (d : Nat) (f : FaultMgr → FaultMgr) : State :=
  s.withEv fun e => { e with mgr := e.mgr.modify d f }

/-- A fault is handled: subscribers learn of its new record (R391). A NOTICE that R394 drops is never handled, so `MERGEDN` stands in place of
its notification (DEDUCED, log 207). -/
def State.tellRecord (s : State) (f : FaultRun) : State := match f.told with | some d => s.notify 0x7810 d | none => s

/-- How the manager takes a fault of level `l` (R394): the level it ends with, whether it was escalated, whether it
pre-empts, whether it runs, is queued, drops the oldest queued NOTICE, or is only counted. -/
inductive Taken where
  | run | preempt | queue | dropOldest | counted | escalate
deriving DecidableEq, Repr

def FaultMgr.taken (m : FaultMgr) (l : Level) : Taken :=
  match m.running with
  | none => .run
  | some r =>
    if r.level.num < l.num then .preempt
    else if m.queue.length < 8 then .queue
    else if m.queue.any (·.level == .notice) then .dropOldest
    else if l == .notice then .counted
    else .escalate

/-- The queue less its oldest NOTICE. -/
def dropNotice : List FaultRun → List FaultRun
  | [] => []
  | f :: l => if f.level == .notice then l else f :: dropNotice l

/-- A fault put to its manager. An event merged into the record of an open fault opens no second one. -/
def FaultMgr.accept (m : FaultMgr) (t : Taken) (f : FaultRun) : FaultMgr :=
  let rest := m.opened.filter fun x => !(x.code == f.code && x.seq == f.seq && x.level.num ≤ f.level.num)
  let m := if f.level == .notice then m else { m with opened := rest ++ [f] }
  match t with
  | .run => { m with running := some f }
  | .preempt => { m with running := some f, suspended := m.running.toList ++ m.suspended }
  | .queue => { m with queue := m.queue ++ [f] }
  | .dropOldest => { m with queue := dropNotice m.queue ++ [f] }
  | .counted => m
  | .escalate => { m with running := some f, suspended := m.running.toList ++ m.suspended }

/-- ISOLATE of a die (R393): its engines stop, its lanes idle, its sources are lost; the fault manager's queue for it is
discarded; a CORE whose twin serves hands over. `State.serving` of chapter 11 decides the last. -/
def State.isolateDie (s : State) (d code seq : Nat) (handed : Bool) : State :=
  if s.sys.isolated.contains d then s
  else
    let q := (s.faultMgr d).queue.length
    let s := s.withMgr d fun m => { m with queue := [], suspended := [] }
    let s := s.bump F.EV_FAULT_MERGEDN d q
    let s := s.withSys fun y => { y with isolated := y.isolated ++ [d], handed := y.handed || handed }
    let s := ((s.setFld F.EV_SILLAGE_STATE d 2).relays).notify 0x7810 d
    let w := s.writeRec ⟨0x7804, .isolate, d, code, seq, flag handed, false, false, true⟩
    let f : FaultRun := ⟨0x7804, .isolate, .die, d, w.2, (s.holder d).map (·.1)⟩
    let s := (w.1.withMgr s.mastDie fun m => { m with opened := m.opened ++ [f] }).tellRecord f
    s.driveFault

/-- The twin's last report is under 300 ms old and reads MODE STANDBY or ACTIVE (R393). -/
def State.twinFresh (s : State) : Bool :=
  let m := s.fld F.TW_HEALTH_MODE 1
  (match s.tw.reportAt with | some t => s.now < t + ms 300 | none => false) && (m == STANDBY || m == ACTIVE)

/-- The last report of a twin allows a hand-over (R393): under 300 ms old, MODE STANDBY or ACTIVE. -/
def State.twinServes (s : State) : Bool :=
  s.sys.role == CORE && !s.sys.handed && s.twinFresh

/-- A fault reported (R394): its record, its handling, and what its level does. The sequence number of its record. -/
def State.raiseSeq (s : State) (code : Nat) (l : Level) (die p1 p2 p3 : Nat) (byHandler : Bool) : State × Nat :=
  let u := codeUnit code
  let l1 := if byHandler then l.up else l
  let m := s.faultMgr die
  let t := m.taken l1
  let l2 := if t == .escalate then .isolate else l1
  let esc := byHandler || t == .escalate
  let old := s.faultLevel die
  let w := s.writeRec ⟨code, l2, die, p1, p2, p3, esc, t == .preempt || t == .escalate, code == 0x7801 || code == 0x800A⟩
  let told := if w.1.clk.pseq = s.clk.pseq ∨ code = 0x7801 then none else (s.holder die).map (·.1)
  let s := w.1
  let f : FaultRun := ⟨code, l2, u, p1 % 2 ^ 32, w.2, told⟩
  let s := s.withMgr die fun m => m.accept t f
  let s := if t == .run || t == .preempt || t == .escalate then s.tellRecord f else s
  let s := if esc then s.bump F.EV_FAULT_ESCALATED die 1 else s
  let s := if t == .dropOldest || t == .counted then s.bump F.EV_FAULT_MERGEDN die 1 else s
  let s := if l2 == .contain then s.takeOut u die (p1 % 2 ^ 32) else s
  let s := if l2 == .isolate && !(code == 0x1002 || code == 0x1003) then s.isolateDie die code w.2 s.twinServes else s
  let s := s.driveFault
  (if s.faultLevel die = old then s else s.notify 0x7808 die, w.2)

/-- A fault reported at a level. -/
def State.raiseAt (s : State) (code : Nat) (l : Level) (die p1 p2 p3 : Nat) (byHandler : Bool) : State :=
  (s.raiseSeq code l die p1 p2 p3 byHandler).1

/-- A fault of a code at the code's own level. -/
def State.raise (s : State) (code die p1 p2 p3 : Nat) : State := s.raiseAt code (codeLevel code) die p1 p2 p3 false

/-- An event of the package as a whole carries the mast die (R398). -/
def State.note (s : State) (code p1 p2 p3 : Nat) : State := s.raise code s.mastDie p1 p2 p3

end Sys2Proof.Machine
end

