-- ==== Sys2Proof/Machine/Access.lean ====
section
/-! DEFINITION. How a host's access is judged (R8, R335, R340, R418, R429), what an answer and a violation leave (R334, R337),
and how a SAVED value is marked for the settings store (R347). -/
namespace Sys2Proof.Machine

/-! ### Settings -/

/-- FW_STATE's STATE codes (R430). -/
def fwTRIAL : Nat := 5

def State.inTrial (s : State) : Bool := s.fld F.FW_STATE_STATE 0 == fwTRIAL

/-- The store is dirty: a 2 s timer starts unless one runs; what comes while a generation is written goes into the next; what the
part changes in TRIAL is held until COMMIT (R429). -/
def State.markDirty (s : State) : State :=
  let s := s.setFld F.SY_SAVE_DIRTY 0 1
  if s.inTrial then s
  else s.withSave fun x => { x with timer := some (x.timer.getD (s.now + secs 2)), again := x.again || x.writing.isSome }

/-- The newest good copy: which, and what it holds. -/
def State.newest (s : State) : Option (Nat × SavedImage) :=
  match s.save.copies.getD 0 none, s.save.copies.getD 1 none with
  | some a, some b => if b.gen ≤ a.gen then some (0, a) else some (1, b)
  | some a, none => some (0, a)
  | none, some b => some (1, b)
  | none, none => none

/-- Objects whose SAVED words stand in the shadow (R347): layer descriptors and a head's configuration word. -/
def savedInShadow (ix w : Nat) : Bool := (ix == 0x3820 && w < 3) || (ix == 0x3810 && w == 1)

/-- A SAVED word as it will be saved; the domain of an absent unit reads OFF (R9). -/
def State.savedWord (s : State) (ix e w : Nat) : W :=
  if ix = 0x8810 ∧ domainPresent s.caps e = false then 0
  else if savedInShadow ix w then s.shadowWord ix e w else s.word ix e w

/-- A SAVED word of the newest settings generation, which is what SAFE reads of an object that it does not serve whole (R418). -/
def State.storedWord (s : State) (ix e w : Nat) : W :=
  if ix = 0x8810 ∧ domainPresent s.caps e = false then 0
  else match s.newest with
    | some x => tget dflt x.2.table ⟨ix, e, w⟩
    | none => dflt ⟨ix, e, w⟩

/-- A word of a register written: a SAVED one that changes marks the store. -/
def State.putWord (s : State) (ix e w : Nat) (v : W) : State :=
  if s.word ix e w = v then s
  else
    let s := s.setWord ix e w v
    if wordPersist ⟨ix, e, w⟩ == .saved then s.markDirty else s

/-- A word of a shadow that is itself SAVED written. -/
def State.putShadow (s : State) (ix e w : Nat) (v : W) : State :=
  if s.shadowWord ix e w = v then s
  else
    let s := s.setShadow ix e w v
    if savedInShadow ix w then s.markDirty else s

/-- A field of a register written. -/
def State.putFld (s : State) (f : Fld) (e v : Nat) : State :=
  s.putWord f.ix e f.w (putBits (s.word f.ix e f.w) f.lo f.len v)

/-! ### Violations (R334, R337) -/

/-- The BAR2 or BAR0 offset of a word of an object (R330, R343): whether it stands in BAR2, and where. -/
def pcieOffset (a : Addr) (w : Nat) : Bool × Nat :=
  match findObj a.ix a.sub with
  | some o =>
    if o.isArray || o.typ.isBytes then
      (true, (winBase o + a.e * 2 ^ (if o.typ.isBytes then 0 else strideShift o.acc.length) + 8 * w) % 2 ^ 36)
    else (false, 0x2000000 + a.ix * 0x400 + a.sub * 4)
  | none => (false, 0x2000000 + a.ix * 0x400 + a.sub * 4)

/-- CAUSE of a violation (R337). -/
def Status.cause : Status → Nat
  | .rights => 1 | .lease => 2 | .index => 3 | .range => 4 | _ => 0

def State.withPcie (s : State) (c : Nat) (f : PcieFn → PcieFn) : State :=
  s.withHost fun h => { h with pcie := h.pcie.modify c f }

/-- An access over PCIe that was not OK (R332, R334): LASTSTATUS, the violation count, vector 0. -/
def State.pcieFail (s : State) (c : Nat) (st : Status) (bar2 : Bool) (off : Nat) : State :=
  s.withPcie c fun x => { x.raise 0 with
    lastStatus := BitVec.ofNat 64 (st.code * 2 ^ 56 + flag bar2 * 2 ^ 55 + off % 2 ^ 36)
    vcount := satAdd 4294967295 x.vcount (flag st.violation) }

/-- A violation recorded (R335, R337): INDEX and SUBINDEX, the address word. -/
def State.recordViolation (s : State) (rq : Req) (st : Status) (ix sub addr : Nat) : State :=
  let n := s.host.violNext
  let w0 := rq.ctx.val * 2 ^ 62 + rq.path.via * 2 ^ 60 + st.cause * 2 ^ 56 + rq.cls.num * 2 ^ 54 + ix * 2 ^ 32 + sub * 2 ^ 24
  let r := s.raiseSeq 0x6001 .notice s.mastDie (w0 / 2 ^ 32) (addr / 2 ^ 32) (addr % 2 ^ 32) false
  let s := r.1.setWord 0x6040 n 0 (BitVec.ofNat 64 w0)
  let s := s.setWord 0x6040 n 1 (BitVec.ofNat 64 addr)
  let s := s.setWord 0x6040 n 2 (BitVec.ofNat 64 (r.2 * 2 ^ 32 + rq.seq % 2 ^ 32))
  s.withHost fun h => { h with violNext := (n + 1) % 16 }

/-- What an outcome leaves beyond the object: a violation's record under the address as sent, and over PCIe the function's own registers. -/
def State.settleAs (s : State) (rq : Req) (x : WireAddr) (w : Nat) (st : Status) : State :=
  let o := pcieOffset x.addr w
  let s := if st.violation then
      s.recordViolation rq st x.addr.ix x.addr.sub (if rq.path == .pcie then flag o.1 * 2 ^ 63 + o.2 else x.wire)
    else s
  if rq.path == .pcie && st.code != 0 then s.pcieFail rq.ctx.val st o.1 o.2 else s

def State.settle (s : State) (rq : Req) (a : Addr) (w : Nat) (st : Status) : State := s.settleAs rq a.sent w st

/-- NCP messages of requests and responses are counted (R319). -/
def State.countMsg (s : State) (rq : Req) (sent : Bool) : State :=
  if rq.path == .pcie then s else if sent then s.bump F.CT_NCP_STAT_TXMSG 0 1 else s.bump F.CT_NCP_STAT_RXMSG 0 1

/-- The answer to a request that names one object (R314); a commit sent on has none yet (R93). -/
def State.answer (s : State) (rq : Req) (a : Addr) (st : Status) : State :=
  if st == .forwarded then s.withHost fun h => { h with resp := none }
  else (s.withHost fun h => { h with resp := some ⟨st.code, false, [⟨a, st.code, 0, []⟩]⟩ }).countMsg rq true

/-! ### The judgement -/

/-- Elements that only their own context may name (R341): the context that owns the element. -/
def ownElement (ix e : Nat) : Option Nat :=
  if ix = 0x2009 then some e else if ix = 0x7820 then some e else if ix = 0x7828 then some (e / 256) else none

/-- Check 2 of R335. -/
def rightsOk (rq : Req) (o : Obj) (e : Nat) (write : Bool) : Bool :=
  rq.cls.num ≤ rq.ceil.num && rq.cls.within (if write then o.wr else o.rd)
    && (match ownElement o.ix e with | some c => c == rq.ctx.val | none => true)

/-- Rights stated word by word, value by value or element by element narrow the write mask (R341): word 1 of `AU_DST` and of `CM_HEAD` needs
CONFIGURE or MAINTAIN (R120, R181), a single-signature policy MAINTAIN (R416), FLUSH not SECURE, DEFAULTS and KEEP SECURE (R348), a BREAK
MAINTAIN (R336); MAINTAIN writes `CT_CONTEXT` in MANUFACTURE alone (R320); entries 0 of `AU_GAIN` and the built-in recipes are RO (R129, R247). -/
def State.wordRights (s : State) (rq : Req) (ix e : Nat) (words : List (Nat × W)) : Bool :=
  (!((ix == 0x3020 || ix == 0x3810) && words.any fun x => x.1 == 1) || rq.cls == .configure || rq.cls == .maintain)
    && (ix != 0x8018 || rq.cls == .maintain || words.all fun x => x.2 == 0)
    && (ix != 0x6018 || rq.cls != .maintain || s.fld F.FW_LIFECYCLE_STATE 0 == 1)
    && (ix != 0x6030 || rq.cls == .maintain || words.all fun x => x.2 != 3)
    && (ix != 0x3028 || e % 256 != 0) && (ix != 0x4868 || 32 ≤ e)
    && (ix != 0x1028 || words.all fun x =>
      (x.2 != 1 || rq.cls != .secure) && ((x.2 != 2 && x.2 != 3) || rq.cls == .secure))

/-- The objects that SAFE serves as in every mode (R418); a SAVED object beyond them is served in its SAVED words. -/
def safeFull (ix : Nat) : Bool :=
  ix == 0x1000 || ix == 0x1010 || ix == 0x1020 || ix == 0x1018 || ix == 0x1028 || ix == 0x1030
    || (0x6000 ≤ ix && ix ≤ 0x67FF) || (0x7800 ≤ ix && ix ≤ 0x7FFF) || (0x8000 ≤ ix && ix ≤ 0x87FF)
    || ix == 0x5008 || ix == 0x5000 || ix == 0x7028

/-- A SCRAPPED part answers only `SY_IDENTITY` and `FW_LIFECYCLE.01` (R432). -/
def State.scrapped (s : State) : Bool := s.fld F.FW_LIFECYCLE_STATE 0 == 5

/-- The objects that SAFE serves whole. -/
def State.servesWhole (s : State) (o : Obj) : Bool :=
  if s.scrapped then o.ix == 0x1000 || (o.ix == 0x8050 && o.sub == 1) else safeFull o.ix

/-- A write as it reaches the mast: the element, the words it carries, OP where word 0 commits (else 0), and whether every
value lies in range. -/
structure HostWrite where
  addr  : Addr
  words : List (Nat × W)
  op    : Nat
  range : Bool

/-! ### Leases (R336) -/

/-- A resource is leased to a context other than `c`: its `CT_LEASE` element. -/
def State.leasedAway (s : State) (e c : Nat) : Bool := s.fld F.CT_LEASE_HELD e == 1 && s.fld F.CT_LEASE_CTX e != c

def leaseOfDst (p : Nat) : Nat := p
def leaseOfChan (c : Nat) : Nat := 16384 + c
def leaseOfHead (h : Nat) : Nat := 81920 + h

/-- The word that a write carries, or the one that stands. -/
def newWord (ws : List (Nat × W)) (w : Nat) (old : W) : W := ((ws.find? fun x => x.1 == w).map (·.2)).getD old

/-- Check 4 of R335: the write is one that a lease of another context restricts. A take's destination, or that of the take which a CANCEL
names; an `AU_DST` element and the port of its EMB target; a head with its layers. A word 0 with OP 0 alone changes nothing. -/
def State.leaseStops (s : State) (rq : Req) (hw : HostWrite) : Bool :=
  let c := rq.ctx.val
  let e := hw.addr.e
  let acts := hw.op != 0 || hw.words.any fun x => x.1 != 0
  match hw.addr.ix with
  | 0x2010 =>
    if hw.op = 1 then s.leasedAway (leaseOfDst (F.XP_TAKE_DEST.of (newWord hw.words 0 0))) c
    else hw.op == 2 && s.fld F.XP_TAKE_STATUS e != 0 && s.leasedAway (leaseOfDst (s.fld F.XP_TAKE_DEST e)) c
  | 0x3020 =>
    let v := if hw.op = 2 then s.word 0x3020 e 1 else newWord hw.words 1 (s.word 0x3020 e 1)
    acts && (s.leasedAway (leaseOfChan e) c || (F.AU_DST_TTYPE.of v == 1 && s.leasedAway (leaseOfDst (F.AU_DST_TPORT.of v)) c))
  | 0x3820 => s.leasedAway (leaseOfHead (e / 8)) c
  | 0x3810 => acts && s.leasedAway (leaseOfHead e) c
  | _ => false

/-- A SAVED word saved in SAFE without the object's own checks (R418). -/
def State.saveWord (s : State) (a : Addr) (x : Nat × W) : State :=
  if wordPersist ⟨a.ix, a.e, x.1⟩ == .saved then
    if savedInShadow a.ix x.1 then s.putShadow a.ix a.e x.1 x.2 else s.putWord a.ix a.e x.1 x.2
  else s

/-- The write touches SAVED words: any word of an object that is SAVED whole; of a mixed one, a SAVED word that changes. -/
def State.touchesSaved (s : State) (o : Obj) (hw : HostWrite) : Bool :=
  if o.per.all (· == .saved) then true
  else hw.words.any fun x => wordPersist ⟨o.ix, hw.addr.e, x.1⟩ == .saved && s.savedWord o.ix hw.addr.e x.1 != x.2

/-- A write judged (R335) and, where the common checks pass, put to the object's own checks. -/
def State.judgeWrite (s : State) (rq : Req) (hw : HostWrite) (own : State → Status × State) : Status × State :=
  match findElem s.caps hw.addr with
  | .error st => (st, s)
  | .ok o =>
    if !rightsOk rq o hw.addr.e true || !s.wordRights rq o.ix hw.addr.e hw.words then (.rights, s)
    else if !hw.range then (.range, s)
    else if s.leaseStops rq hw then (.lease, s)
    else if s.mode = SAFE ∧ s.servesWhole o = false then
      if s.scrapped || !o.per.contains .saved || hw.op != 0 then (.mode, s)
      else if o.ix = 0x8810 ∧ domainPresent s.caps hw.addr.e = false then
        (if hw.words.any fun x => F.PW_DOMAIN_CMD.of x.2 == 1 then .absent else .ok, s)
      else (.ok, hw.words.foldl (fun s x => s.saveWord hw.addr x) s)
    else if s.inTrial && s.touchesSaved o hw then (.busy, s)
    else own s

/-- A write carried out and settled: its status, and the state with its violation recorded. -/
def State.hostWrite (s : State) (rq : Req) (hw : HostWrite) (own : State → Status × State) : Status × State :=
  let r := s.judgeWrite rq hw own
  (r.1, r.2.settle rq hw.addr ((hw.words.head?.map (·.1)).getD 0) r.1)

/-- A request in HOLD wakes the retained control planes (R440). -/
def State.stir (s : State) : State :=
  if s.mode = HOLD then s.withPw fun x => { x with awake := true, lastReq := s.now } else s

/-- A host's request as a command: nothing answers while the mast does not run (R24, R393). -/
def State.request (s : State) (rq : Req) (hw : HostWrite) (own : State → Status × State) : State :=
  if !s.alive then s
  else
    let r := s.stir.hostWrite rq hw own
    (r.2.countMsg rq false).answer rq hw.addr r.1

/-! ### Reads -/

/-- A read judged (R335, R418): the object, or the status that answers it. -/
def State.judgeWire (s : State) (rq : Req) (x : WireAddr) : Except Status Obj :=
  let a := x.addr
  match findElem s.caps a with
  | .error st => .error st
  | .ok o =>
    if !rightsOk rq o a.e false || o.acc.all (· == .wo) then .error .rights
    else if x.res != 0 then .error .range
    else if s.mode = SAFE ∧ s.servesWhole o = false ∧ (s.scrapped || !o.per.contains .saved) = true then .error .mode
    else .ok o

def State.judgeRead (s : State) (rq : Req) (a : Addr) : Except Status Obj := s.judgeWire rq a.sent

/-- The answer to a request that read one element. -/
def State.answerData (s : State) (rq : Req) (a : Addr) (data : List W) : State :=
  (s.withHost fun h => { h with resp := some ⟨0, false, [⟨a, 0, 1, data⟩]⟩ }).countMsg rq true

/-- A read as a command: `k` gives the words and what the read changes. -/
def State.hostRead (s : State) (rq : Req) (a : Addr) (k : State → List W × State) : State :=
  if !s.alive then s
  else match s.judgeRead rq a with
    | .error st => ((s.stir.settle rq a 0 st).countMsg rq false).answer rq a st
    | .ok _ =>
      let r := k (s.stir.countMsg rq false)
      r.2.answerData rq a r.1

/-- A refusal that no entry could hold (R79): OBJ 1 `XP_TAKE`, 2 `XP_SALVO`, 3 `AU_DST`, 4 `CM_LAYER`, 5 `CM_HEAD`. -/
def State.refuse (s : State) (c obj e : Nat) (st : Status) : State :=
  let s := s.bump F.XP_REFUSED_COUNT c 1
  s.setWord 0x2009 c 0 (F.XP_REFUSED_ELEMENT.put (F.XP_REFUSED_OBJ.put (F.XP_REFUSED_STATUS.put (s.word 0x2009 c 0) st.code) obj) e)

/-! ### Common shapes -/

/-- A quotient rounded to the nearest integer, ties away from zero (DEDUCED: R272 says `round` and no more). -/
def roundDiv (n : Int) (d : Nat) : Int := if 0 ≤ n then (2 * n + d) / (2 * d) else -((2 * (-n) + d) / (2 * d))

/-- An I32 that saturates. -/
def sat32 (v : Int) : Nat := unsigned 32 (max (-2147483648) (min 2147483647 v))

/-- A row's own OP in the commit word. -/
def withOp (f : Fld) (w0 : W) (op : Nat) : W := f.put w0 op

/-- The write of one plain register word: in range, else stored. -/
def State.plain (s : State) (ix sub e w : Nat) (v : W) : Status × State := (.ok, s.putWord ix e (regWord sub w) v)

/-- A write refused outside SAFE and LOAD (R17, R282, R310). -/
def State.configOnly (s : State) (k : State → Status × State) : Status × State :=
  if s.mode = SAFE ∨ s.mode = LOAD then k s else (.mode, s)

/-- Bits of a value that must be 0 are 0. -/
def zeros (fs : List Fld) (v : W) : Bool := fs.all fun f => f.of v == 0

end Sys2Proof.Machine
end

