-- ==== Sys2Proof/Machine/Answers.lean ====
section
/-! DEFINITION. Frames of the part's own on a media MAC (R222, R232), sessions by their numbers, responses sent and kept (R314–R316), and
the answers to commits sent on to the deciding twin (R93). -/
namespace Sys2Proof.Machine

/-! ### A media MAC beside its registers: its link and its pause (R219, R222) -/

def State.macOn (s : State) (m : Nat) : Bool := s.fld F.MX_MAC_EN m == 1

def macDie (m : Nat) : Nat := m / 16

def State.macRun (s : State) (m : Nat) : MacRun := (s.mx.macs.find? fun x => x.m == m).getD ⟨m, false, none, [], 0, []⟩

def State.setMacRun (s : State) (x : MacRun) : State :=
  { s with mx := { s.mx with macs := x :: s.mx.macs.filter fun y => !(y.m == x.m) } }

/-- The MAC is enabled, its link is up and no fault holds it down (R392), in a mode in which MACs run (R31). -/
def State.macUp (s : State) (m : Nat) : Bool :=
  s.macOn m && (s.macRun m).link && !s.isOut .mac (macDie m) m && (s.mode == STANDBY || s.mode == ACTIVE || s.mode == SERVICE)

/-! ### Frames of the part's own -/

/-- A frame of the part's own leaves: its length is not stated. -/
def State.ownLeaves (s : State) (m : Nat) : State :=
  let f := s.takeFree
  (f.1.bump F.MX_STATS_TXOK m 1).bump F.MX_STATS_TXBYTES m (f.2.toNat % 2 ^ 14)

/-- A frame that the part sends of itself; while the transmitter is paused it waits (R222). -/
def State.sendOwn (s : State) (m : Nat) : State :=
  let x := s.macRun m
  if x.paused.isSome then s.setMacRun { x with own := x.own + 1 } else s.ownLeaves m

/-- A message sent by an attachment or a MAC (R232, R319). -/
def State.sendMsg (s : State) (a : Att) : State :=
  let s := s.bump F.CT_NCP_STAT_TXMSG 0 1
  match a with
  | .bus _ => s
  | .mac m _ => if s.macUp m then s.sendOwn m else s

/-! ### Sessions (R320) -/

/-- The context whose session has a number. -/
def State.sessionOf (s : State) (n : Nat) : Option (Fin 4 × Session) :=
  ([0, 1, 2, 3] : List (Fin 4)).findSome? fun c => match s.session c.val with
    | some x => if x.number = n then some (c, x) else none
    | none => none

def State.setSession (s : State) (c : Nat) (x : Option Session) : State :=
  s.withHost fun h => { h with sessions := h.sessions.set c x }

/-- A session changed, where one is open. -/
def State.modSession (s : State) (c : Nat) (f : Session → Session) : State :=
  s.withHost fun h => { h with sessions := h.sessions.modify c fun x => x.map f }

/-! ### Responses (R314–R316) -/

/-- A response sent. -/
def State.respond (s : State) (h : Ncp) (r : Resp) : State := (s.withHost fun h => { h with resp := some r }).sendMsg h.att

/-- A response of items: STATUS is that of the first that failed. -/
def itemsResp (l : List RespItem) : Resp := ⟨((l.find? fun x => x.status != 0).map (·.status)).getD 0, false, l⟩

/-- An answer with NOSESSION anywhere in it is counted (R319). -/
def State.countNoSession (s : State) (r : Resp) : State :=
  if r.status == Status.nosession.code || r.items.any fun x => x.status == Status.nosession.code then s.bump F.CT_NCP_STAT_NOSESSION 0 1 else s

/-- The last 64 kept responses. -/
def keep64 (l : List Kept) (k : Kept) : List Kept := (k :: l).take 64

/-- A response kept for 10 s (R316); session 0 keeps 64 for each sender. -/
def State.keepResp (s : State) (h : Ncp) (r : Resp) : State :=
  let k : Kept := ⟨h.ip, h.udp, h.seq, s.now, r⟩
  if h.session = 0 then
    s.withHost fun x =>
      let mine := x.kept0.filter fun y => y.ip == h.ip && y.udp == h.udp
      let others := x.kept0.filter fun y => !(y.ip == h.ip && y.udp == h.udp)
      { x with kept0 := keep64 mine k ++ others }
  else match s.sessionOf h.session with
    | some x => s.modSession x.1.val fun y => { y with kept := keep64 y.kept k }
    | none => s

/-! ### Commits sent on (R93) -/

/-- Every status. -/
def statuses : List Status :=
  [.ok, .late, .format, .port, .die, .gang, .field, .audio, .rebuild, .expired, .conflict, .mode, .owner, .rate, .geometry, .count,
    .capacity, .noref, .twinlink, .absent, .busy, .transition, .target, .rights, .lease, .index, .range, .nosession, .auth, .toobig, .limit]

/-- The status of a code. -/
def Status.ofCode (n : Nat) : Status := (statuses.find? fun st => st.code == n).getD .ok

/-- A commit sent on waits for its answer. -/
def State.sendOn (s : State) (a : Addr) (rq : Req) : State := { s with tw := { s.tw with fwd := s.tw.fwd ++ [(a, rq)] } }

/-- A message is answered, unless some of its items were sent on. -/
def State.answerMsg (s : State) (h : Ncp) (r : Resp) (on : List (Addr × Req)) : State :=
  if on.isEmpty then ((s.countNoSession r).keepResp h r).respond h r
  else s.withHost fun x => { x with resp := none, waiting := x.waiting ++ [⟨h, r, on.map (·.1)⟩] }

/-- An item's answer filled in. -/
def Waiting.fill (x : Waiting) (a : Addr) (st : Nat) : Waiting :=
  { x with left := x.left.erase a, resp := itemsResp (x.resp.items.map fun i => if i.addr = a then { i with status := st } else i) }

/-- The deciding twin's response to a commit sent on comes: a host's own request is answered with it, a message once nothing is
missing. -/
def State.fwdAnswer (s : State) (a : Addr) (st : Nat) : State :=
  match s.tw.fwd.find? fun x => x.1 == a with
  | none => s
  | some x =>
    let s := { s with tw := { s.tw with fwd := s.tw.fwd.erase x } }
    match s.host.waiting.find? fun y => y.left.contains a with
    | none => (s.settle x.2 a 0 (Status.ofCode st)).answer x.2 a (Status.ofCode st)
    | some y =>
      let z := y.fill a st
      let s := s.withHost fun h => { h with waiting := (h.waiting.erase y) ++ (if z.left.isEmpty then [] else [z]) }
      if z.left.isEmpty then s.answerMsg z.ncp z.resp [] else s

end Sys2Proof.Machine
end

