-- ==== Sys2Proof/Machine/Ports.lean ====
section
/-! DEFINITION. Writing the port tables (R53, R54), the rebuild's state (R56, R57), and an engine's state (R361). -/
namespace Sys2Proof.Machine

/-! ### The rebuild's state (R56, R57) -/

def calIDLE : Nat := 0
def calEDITING : Nat := 1
def calREBUILDING : Nat := 2
def calREADY : Nat := 3
def calFAILED : Nat := 4

def State.calState (s : State) : Nat := s.fld F.ES_CAL_CTRL_STATE 0

def State.setCal (s : State) (n : Nat) : State :=
  if s.calState = n then s else (s.setFld F.ES_CAL_CTRL_STATE 0 n).notifySub 0x2848 1 0

/-- The tables that a publication swaps: port tables (R57) and transports (R234). -/
def swapped (k : Key) : Bool := k.ix == 0x2810 || k.ix == 0x2818 || k.ix == 0x4818 || k.ix == 0x4820

/-- The words under the names `p` picks taken over from `src` into `t`. -/
def takeOver (p : Key → Bool) (t src : Table) : Table := tmerge dflt (t.filter fun x => !p x.1) (src.filter fun x => p x.1)

/-- A shadow write is refused while a rebuild runs; it starts EDITING (R57). -/
def State.editShadow (s : State) (k : State → State) : Status × State :=
  let c := s.calState
  if c = calREBUILDING ∨ c = calREADY then (.busy, s)
  else
    let s := k s
    (.ok, if c = calIDLE ∨ c = calFAILED then s.setCal calEDITING else s)

/-- A write of a port table (R53, R54, R57). -/
def putPort (s : State) (dst : Bool) (p : Nat) (v : W) : HostWrite × (State → Status × State) :=
  (⟨⟨portIx dst, 0, p⟩, [(0, v)], 0, portEntryOk s p v⟩, fun s => s.editShadow fun s => s.setShadow (portIx dst) p 0 v)

/-- The rebuild failed: CAUSE and the element stand in `ES_CAL_CTRL`. -/
def State.calFailed (s : State) (f : CalFail) : State :=
  ((s.setFld F.ES_CAL_CTRL_CAUSE 0 f.1).setFld F.ES_CAL_CTRL_ELEMENT 0 f.2).setCal calFAILED

/-! ### Engines -/

def State.setEngine (s : State) (e n : Nat) : State := s.setNotify F.IC_ENGINE_STATE e n

/-- A placement in force: the essence engines of it read ACTIVE, the other healthy ones SPARE. -/
def State.setPlacement (s : State) (pl : List (Bool × Nat × Nat)) : State :=
  let s := { s with ic := { s.ic with place := pl } }
  (List.range (s.dies * 24)).foldl (fun s e =>
    if isEssence e && (s.engine e == engACTIVE || s.engine e == engSPARE) then
      s.setEngine e (if pl.any fun x => x.2.2 == e then engACTIVE else engSPARE)
    else s) s

/-! ### Port streams as the part receives them (R44) -/

def State.rxStream (s : State) (p : Nat) : RxStream := (s.lk.streams.find? fun x => x.p == p).getD ⟨p, false, 0, 0, [], none⟩

def State.setRxStream (s : State) (x : RxStream) : State :=
  { s with lk := { s.lk with streams := x :: s.lk.streams.filter fun y => !(y.p == x.p) } }

/-- The table of the ports whose streams the part receives on lanes: sources of a CORE, destinations of an EDGE or GATEWAY. -/
def State.rxTable (s : State) : Bool := s.sys.role != CORE

end Sys2Proof.Machine
end

