-- ==== Sys2Proof/Machine/Mirror.lean ====
section
/-! DEFINITION. The pair of twins as every decision meets it (R282–R292): SYNC, claims, who decides, and what is sent to the
twin. -/
namespace Sys2Proof.Machine

def syncSOLO : Nat := 0
def syncSEEKING : Nat := 1
def syncMIRRORING : Nat := 2
def syncLOCKSTEP : Nat := 3
def syncDIVERGED : Nat := 4

def State.sync (s : State) : Nat := s.fld F.TW_STATE_SYNC 0

/-- A CORE part with a twin configured (R282). -/
def State.paired (s : State) : Bool := s.sys.role == CORE && s.fld F.TW_CONFIG_EN 0 == 1

/-- The part decides: alone, or as the deciding twin (R93, R290). -/
def State.decides (s : State) : Bool := !s.paired || s.fld F.TW_STATE_DECIDING 0 == 1

/-- The part's decisions go to its twin (R283, R304). -/
def State.mirrors (s : State) : Bool :=
  s.paired && s.decides && s.fld F.TW_STATE_LINK 0 == 1

/-- The part decides its own frame stores and layers (R104, R191): it decides, or it is not mirrored, or it still refills. -/
def State.ownStores (s : State) : Bool := s.decides || !(s.sync == syncLOCKSTEP || (s.sync == syncMIRRORING && s.tw.full))

/-- An item is held (R383): by this part's migration, or by the twin's. -/
def State.itemHeld (s : State) (kind owner : Nat) : Bool :=
  s.mm.items.any (fun x => x.kind == kind && x.owner == owner && x.held) || s.tw.held.contains (kind, owner)

/-- An item of DRAM is lost (R384). -/
def State.itemLost (s : State) (kind owner : Nat) : Bool := s.mm.items.any fun x => x.kind == kind && x.owner == owner && x.lost

/-- A live accord image of a layer lies on a LOST rank (R384). -/
def State.accordLost (s : State) (e : Nat) (fb : Bool) : Bool :=
  s.mm.items.any fun x => x.kind == 2 && x.owner == e && x.buf == flag fb * 2 + 1 && x.lost

/-- The lost buffers of a source's store are placed again by the next placing of items (R385: a write of its `ES_ALIGN` entry). -/
def State.replaceStore (s : State) (p : Nat) : State :=
  { s with mm := { s.mm with items := s.mm.items.filter fun x => !(x.kind == 0 && x.owner == p && x.lost) } }

/-! ### Claims (R284–R287) -/

def mkClaim (prio epoch unit : Nat) : Nat := prio * 4096 + epoch % 2048 * 2 + unit

/-- PRIO (R285). -/
def State.prio (s : State) : Nat :=
  if s.mode == STANDBY || s.mode == ACTIVE || s.mode == SERVICE then
    if s.sys.claimHigh then 0xC
    else if !s.paired || s.sync == syncLOCKSTEP then 4 else 2
  else 0

/-- One claim is higher than another (R287). -/
def claimAbove (a b : Nat) : Bool :=
  let pa := a / 4096
  let pb := b / 4096
  let ea := a / 2 % 2048
  let eb := b / 2 % 2048
  if a = 0 then false
  else if b = 0 then true
  else pb < pa || (pa == pb && (later 11 ea eb || (ea == eb && a % 2 == 1 && b % 2 == 0)))

/-- The claim that stands most often in a list, the higher one where two stand equally often (R288, R292). -/
def mostClaimed (l : List Nat) : Nat :=
  l.foldl (fun (best : Nat) (c : Nat) =>
    if best = 0 ∨ l.count best < l.count c ∨ (l.count best = l.count c ∧ claimAbove c best = true) then c else best) 0

/-- The claims selected on the receive pairs of an EDGE or GATEWAY (R295). -/
def State.pairClaims (s : State) : List Nat :=
  (entriesOf s.regs 0x5820).filterMap fun x =>
    let n := F.TW_PAIR_STAT_SEL.of x.2
    if n = 1 then some (F.TW_PAIR_STAT_CLAIMA.of x.2) else if n = 2 then some (F.TW_PAIR_STAT_CLAIMB.of x.2) else none

/-- The claim in the part's sheets: a CORE's own, 0 in idle sheets (R42, R284); that which an EDGE or GATEWAY reflects in its live
sheets (R31, R288). -/
def State.ownClaim (s : State) : Nat :=
  if s.sys.role = CORE then
    if s.prio ≠ 0 ∧ s.sys.handed = false then mkClaim s.prio s.sys.claimEpoch (s.fld F.TW_CONFIG_UNIT 0) else 0
  else if s.mode = ACTIVE then mostClaimed s.pairClaims else 0

/-- `TW_STATE` reports the claim sent. -/
def State.refreshClaim (s : State) : State := s.setFld F.TW_STATE_OWNCLAIM 0 s.ownClaim

/-- SYNC changes (R289, R292). -/
def State.setSync (s : State) (n : Nat) : State :=
  let o := s.sync
  if o = n then s
  else
    let s := { s with tw := { s.tw with equal := 0, differ := 0 } }
    let s := if n = syncSEEKING ∨ n = syncDIVERGED then { s with tw := { s.tw with held := [], fwd := s.tw.fwd.filter fun x => s.tw.acks.any fun y => y.2.1 == x.1 } } else s
    let s := s.setNotify F.TW_STATE_SYNC 0 n
    let s := if n = syncDIVERGED then s.bump F.TW_STATE_DIVERGES 0 1 else s
    let s := if o = syncLOCKSTEP ∧ (n = syncDIVERGED ∨ n = syncSEEKING) then
        s.note 0x5801 n (s.fld F.TW_STATE_TWINCLAIM 0) 0 else s
    s.refreshClaim

/-! ### Decisions (R283, R291) -/

/-- A decision goes to the twin and waits for its acknowledgement. -/
def State.tellTwin (s : State) : State :=
  if s.mirrors then
    { s with tw := { s.tw with sent := s.tw.sent + 1, unacked := s.tw.unacked ++ [(s.tw.sent + 1, s.now)] } }
  else s

/-- The object that a number of `XP_REFUSED` names (R79); 0 stands for `AU_GAIN`. -/
def objIx (obj : Nat) : Nat :=
  if obj = 1 then 0x2010 else if obj = 2 then 0x2020 else if obj = 3 then 0x3020 else if obj = 5 then 0x3810 else 0x3028

/-- The answer to a commit or an ARM decided here: where the pair is in LOCKSTEP and the decision has gone to the other twin, it waits for the
acknowledgement (R291; that the other reads LOCKSTEP too is DEDUCED, log 201). -/
def State.afterAck (s : State) (rq : Req) (a : Addr) (r : Status × State) : Status × State :=
  if s.sync == syncLOCKSTEP && s.tw.sent < r.2.tw.sent then
    let t := r.2.sendOn a rq
    (.forwarded, { t with tw := { t.tw with acks := t.tw.acks ++ [(t.tw.sent, a, r.1.code)] } })
  else r

/-- A commit or an ARM on a part that does not decide: sent on over the twin link, else TWINLINK (R93, R291). `obj` and `e` name
the element for `XP_REFUSED`. -/
def State.decideHere (s : State) (rq : Req) (obj e : Nat) (k : State → Status × State) : Status × State :=
  if s.decides then k s
  else if s.fld F.TW_STATE_LINK 0 = 1 then (.forwarded, s.sendOn ⟨objIx obj, 0, e⟩ rq)
  else (.twinlink, s.refuse rq.ctx.val obj e .twinlink)

/-- A commit or an ARM where `commits`, else a CANCEL or a DISCARD, which no acknowledgement delays. -/
def State.commitHere (s : State) (rq : Req) (obj e : Nat) (commits : Bool) (k : State → Status × State) : Status × State :=
  let r := s.decideHere rq obj e k
  if commits && s.decides then s.afterAck rq ⟨objIx obj, 0, e⟩ r else r

end Sys2Proof.Machine
end

