-- ==== Sys2Proof/Machine/Align.lean ====
section
/-! DEFINITION. Alignment and frame synchronisation (chapter 4): the states of SYNC and FSYNC sources, the frame stores, and
`ES_ALIGN`. -/
namespace Sys2Proof.Machine

/-! ### States (R109) -/

def alUNUSED : Nat := 0
def alSEEKING : Nat := 1
def alALIGNED : Nat := 2
def alOUTSIDE : Nat := 3
def alLOST : Nat := 4
def alFILLING : Nat := 5
def alFORMAT : Nat := 6

def State.alState (s : State) (p : Nat) : Nat := s.fld F.ES_ALIGN_STAT_STATE p

def State.setAl (s : State) (p n : Nat) : State := s.setNotify F.ES_ALIGN_STAT_STATE p n

def Src.rest (p : Nat) (entry : W) : Src := ⟨p, entry, 0, 0, [], none, none, 0, false, false, 0, false, 0, true, 0, 0, 0⟩

def State.src (s : State) (p : Nat) : Src := (s.al.srcs.find? fun x => x.port == p).getD (Src.rest p (s.align p))

def State.setSrc (s : State) (x : Src) : State :=
  { s with al := { s.al with srcs := x :: s.al.srcs.filter fun y => !(y.port == x.port) } }

def State.dropSrc (s : State) (p : Nat) : State :=
  { s with al := { s.al with srcs := s.al.srcs.filter fun y => !(y.port == p) } }

/-- The die that terminates a source. -/
def State.srcDie (s : State) (p : Nat) : Nat := pDie (s.port false p)

/-- The audio slips of a source forgotten: its audio delay is set anew (R103). -/
def State.dropSlips (s : State) (p : Nat) : State :=
  { s with au := { s.au with slips := s.au.slips.filter fun x => !(x.p == p) } }

/-- A source starts from the beginning: SEEKING, or FILLING with an empty store (R100, R105). A picture read before is not repeated while
the store fills (DESIGN CHOICE, log 149: R105 does not say what a source that returns before LOSSHOLD ends shows meanwhile). -/
def State.alignStart (s : State) (p : Nat) : State :=
  let v := s.align p
  let x := s.src p
  let s := s.setSrc { Src.rest p v with black := x.black, heard := !alFSYNC v, wait := x.wait }
  let s := ((s.setFld F.ES_ALIGN_STAT_UNREAD p 0).setFld F.ES_ALIGN_STAT_DELAY p 0).dropSlips p
  let s := if alFSYNC v then s.setFld F.ES_ALIGN_STAT_OFFSET p 0 else s
  s.setAl p (if alFSYNC v then alFILLING else alSEEKING)

/-- A source's entry changed at a publication: it starts where it became valid or changed, and ends where it no longer is (R100). -/
def State.alignPort (s : State) (p : Nat) : State :=
  if pValid (s.port false p) then (s.setSrc (Src.rest p (s.align p))).alignStart p
  else (s.dropSrc p).setAl p alUNUSED

/-- At a picture boundary the entry last written applies; a change of timing starts the source again (R107). Where DEPTH or AUDIO of an FSYNC
source changes, the pictures held and STATE stay (DESIGN CHOICE, log 176: the rule does not say what becomes of them). -/
def State.alignBoundary (s : State) (p : Nat) : State :=
  let s := { s with al := { s.al with hurt := s.al.hurt.filter fun y => !(y.1 == p && y.2.1 == 0) } }
  let x := s.src p
  let v := s.align p
  if x.entry = v then s
  else if alFSYNC x.entry != alFSYNC v then s.alignStart p
  else s.setSrc { x with entry := v }

/-! ### Locked sources (R97–R100) -/

/-- An offset lies in the window of `entry`: from −W/8 lines to +G blocks (R98). -/
def State.inWindow (s : State) (entry : W) (fmt : Nat) (offset : Int) : Bool :=
  match format fmt with
  | none => false
  | some f =>
    offset ≤ s.fld F.ES_ALIGN_GUARD_GUARD 0
      && -(offset * blockUnits * (f.num * f.lines * 8 : Nat)) ≤ (windowOf entry fmt * f.lineD : Nat)

/-- A source enters LOST or FORMAT (R105): its record; a SYNC source goes to black at the next switch line, an FSYNC one repeats
its last complete picture. -/
def State.alignFail (s : State) (p st code p2 : Nat) : State :=
  if s.alState p = st then s
  else
    let x := s.src p
    let x := if alFSYNC x.entry then
        { x with reading := x.unread.getLast?.orElse fun _ => x.reading, unread := [], lossRep := 0, inside := 0, whole := 0, good := false }
      else { x with black := true, inside := 0, whole := 0, good := false }
    let s := (s.setSrc x).setAl p st
    s.raise code (s.srcDie p) p p2 0

/-- The house sample at which a fade that begins now starts (R105). -/
def State.sampleNow (s : State) : Nat := s.house * 48000 / secUnits

/-- A source's audio begins to fade in, or out, unless it does already. -/
def State.hearSrc (s : State) (p : Nat) (on : Bool) : State :=
  let x := s.src p
  if x.heard = on then s else s.setSrc { x with heard := on, fadeAt := s.sampleNow }

/-- How much of a source's embedded audio is heard at a house sample, in 64ths (R105): a SYNC source's none while it is lost. -/
def State.srcLevel (s : State) (p n : Nat) : Nat :=
  let x := s.src p
  if alFSYNC x.entry then (if x.heard then min 64 (n + 1 - x.fadeAt) else 64 - min 64 (n + 1 - x.fadeAt))
  else if s.alState p = alLOST ∨ s.alState p = alFORMAT then 0 else 64

/-- The FRAME frame last received of a source gives the capture time in units of house time (R97); none: the source comes in on a
transport of this part. -/
def State.frameCapture (s : State) (p : Nat) : Option (Nat × Nat) :=
  if s.rxTable || pLocal (s.port false p) then none
  else (s.rxStream p).frame.map fun x => (x.1, (x.2.1 * 1000000000 + x.2.2) * nsUnits)

/-- The offset of a source (R97): the capture time of its first carried line less the house time of that line in the nearest frame, in
blocks to the nearest whole one (DEDUCED, log 155). -/
def captureOffset (f : Format) (capture : Nat) : Int :=
  let at_ := fun n => (f.lineStart (n * f.lines + f.first1 - 1) : Int)
  let n := f.lineAt capture / f.lines
  let far := fun m => ((capture : Int) - at_ m).natAbs
  let m := [n - 1, n, n + 1].foldl (fun b m => if far m < far b then m else b) n
  roundDiv ((capture : Int) - at_ m) blockUnits

/-- The offset that a picture of a source has (R97): by its FRAME frame's capture time; `capture`, in ns, is that time where the source comes in
on a transport of this part, which stamps it (R46). -/
def State.pictureOffset (s : State) (p capture : Nat) : Int :=
  match format (pFormat (s.port false p)) with
  | some f => captureOffset f (((s.frameCapture p).map (·.2)).getD (capture * nsUnits))
  | none => 0

/-- I24, saturating. -/
def sat24 (v : Int) : Nat := unsigned 24 (max (-8388608) (min 8388607 v))

/-- A picture of a SYNC source measured (R97, R100, R105). -/
def State.syncPicture (s : State) (p : Nat) (offset : Int) (missing : Nat) : State :=
  let s := if s.alState p = alLOST ∨ s.alState p = alFORMAT then s.setAl p alSEEKING else s
  let s := s.setFld F.ES_ALIGN_STAT_OFFSET p (sat24 offset)
  let s := s.bump F.ES_ALIGN_STAT_CONCEALED p missing
  let x := s.src p
  let inn := s.inWindow x.entry (pFormat (s.port false p)) offset
  let inside := if inn then min 2 (x.inside + 1) else 0
  let whole := if inn && missing == 0 then min 2 (x.whole + 1) else 0
  let s := s.setSrc { x with inside := inside, whole := whole, black := x.black && whole < 2, good := missing ≤ 16 }
  let st := s.alState p
  if !inn then
    if st = alOUTSIDE then s
    else (s.setAl p alOUTSIDE).raise 0x2801 (s.srcDie p) p (unsigned 32 offset) 0
  else if st = alOUTSIDE then (if 2 ≤ inside then s.setAl p alALIGNED else s)
  else s.setAl p alALIGNED

/-- PICTURES (R109). -/
def State.countPicture (s : State) (p : Nat) : State :=
  s.setFld F.ES_ALIGN_STAT_PICTURES p ((s.fld F.ES_ALIGN_STAT_PICTURES p + 1) % 65536)

/-- SOURCE_PICTURE: a picture of a source has been received. -/
def State.sourcePicture (s : State) (p capture missing : Nat) (alien : Option Nat) : State :=
  if !pValid (s.port false p) then s
  else if s.isOut .port (s.srcDie p) p then s.countPicture p
  else
    let s := s.alignBoundary p
    match alien with
    | some f => (s.countPicture p).alignFail p alFORMAT 0x2803 f
    | none => if alFSYNC (s.src p).entry then s else (s.countPicture p).syncPicture p (s.pictureOffset p capture) missing

/-- No essence frame of a source for two line periods (R105). -/
def State.sourceLost (s : State) (p : Nat) : State :=
  if !pValid (s.port false p) then s else s.alignFail p alLOST 0x2802 0

/-! ### Frame stores (R101–R105) -/

/-- A valid FSYNC source. -/
def State.storeRuns (s : State) (p : Nat) : Bool := pValid (s.port false p) && alFSYNC (s.src p).entry

def Src.depth (x : Src) : Nat := F.ES_ALIGN_DEPTH.of x.entry

/-- The oldest unread picture is discarded (R101). -/
def State.dropOldest (s : State) (p : Nat) : State :=
  let x := s.src p
  (s.setSrc { x with unread := x.unread.drop 1 }).bump F.ES_ALIGN_STAT_DROPS p 1

/-- FSYNC_PICTURE_START (R101): a buffer is taken, or the oldest unread picture dropped for one. The FRAME frame gives count and capture
time (R46). -/
def State.storeStart (s : State) (p count capture : Nat) : State :=
  if !pValid (s.port false p) then s
  else
    let s := s.alignBoundary p
    if !alFSYNC (s.src p).entry then s
    else
      let lost := s.itemLost 0 p
      let s := if (s.alState p = alLOST ∨ s.alState p = alFORMAT) ∧ lost = false then s.alignStart p else s
      let x := s.src p
      let used := x.unread.length + flag x.reading.isSome
      let s := if used < x.depth then s
        else if s.ownStores then (s.dropOldest p).tellTwin else s
      let c := (s.frameCapture p).getD (count, capture * nsUnits)
      let s := s.setSrc { s.src p with cap0 := (s.src p).cap1, cap1 := c.2 / nsUnits }
      if lost then s else s.setSrc { s.src p with writing := some ⟨c.1, c.2 / nsUnits, []⟩ }

/-- The picture being written, or the newest one, is discarded (R101). -/
def State.discardPicture (s : State) (p : Nat) : State :=
  let x := s.src p
  let unread := if x.writing.isSome then x.unread else x.unread.dropLast
  (s.setSrc { x with writing := none, unread := unread, good := false }).bump F.ES_ALIGN_STAT_CONCEALED p 1

/-- FSYNC_PICTURE_END: complete with at most 16 lines missing, each filled with the previous line; else discarded, where this part
decides (R104). -/
def State.storeEnd (s : State) (p : Nat) (missing : List Nat) : State :=
  if !s.storeRuns p then s
  else
    let s := s.countPicture p
    let x := s.src p
    match x.writing with
    | none => s
    | some pic =>
      if 16 < missing.length ∧ s.ownStores = true then (s.discardPicture p).tellTwin
      else
        (s.setSrc { x with writing := none, unread := x.unread ++ [{ pic with conc := missing }], good := true }).bump
          F.ES_ALIGN_STAT_CONCEALED p (if 16 < missing.length then 0 else missing.length)

/-- DELAY: from capture to the read instant, in 1/256 frame (R109), rounded down and held at 4,095 from 16 frames on (DESIGN CHOICE, log
148: the rule gives neither). -/
def storeDelay (f : Format) (instant capture : Nat) : Nat :=
  min 4095 ((instant - capture * nsUnits) * 256 * f.num / (f.den * secUnits))

/-- The audio delay of R103 in samples: the store's video delay, rounded down (DESIGN CHOICE, log 148). -/
def audioDelay (instant capture : Nat) : Int := (((instant - capture * nsUnits) * 48000 / secUnits : Nat) : Int)

/-- A read: the oldest unread picture, with the delay it is read at. One with more than 16 lines missing, which the deciding twin did not discard,
counts its concealed lines now (R109). -/
def State.readPicture (s : State) (p : Nat) (f : Format) (instant : Nat) (start : Bool) : State :=
  let x := s.src p
  match x.unread with
  | [] => s
  | pic :: rest =>
    let x := { x with reading := some pic, unread := rest, lossRep := 0, black := false, again := false,
                      audio := if start then audioDelay instant pic.capture else x.audio }
    let s := if start then s.dropSlips p else s
    let s := if 16 < pic.conc.length then s.bump F.ES_ALIGN_STAT_CONCEALED p pic.conc.length else s
    let held := (pic :: rest).map (·.count + 1)
    let s := { s with al := { s.al with hurt := s.al.hurt.filter fun y => !(y.1 == p && y.2.1 != 0 && !held.contains y.2.1) } }
    ((s.setSrc x).setFld F.ES_ALIGN_STAT_DELAY p (storeDelay f instant pic.capture)).hearSrc p true

/-- A repeat of the picture last read. -/
def State.repeatPicture (s : State) (p : Nat) (f : Format) (instant : Nat) : State :=
  let x := s.src p
  let s := (s.setSrc { x with again := true }).bump F.ES_ALIGN_STAT_REPEATS p 1
  match x.reading with
  | some pic => s.setFld F.ES_ALIGN_STAT_DELAY p (storeDelay f instant pic.capture)
  | none => s

/-- A read instant (R101): the picture last read is repeated where none is unread, and where `rep`. In LOST and FORMAT it is repeated until
the destination carries black, with the audio faded out from the first repeat (R105). -/
def State.storeStep (s : State) (p : Nat) (f : Format) (instant : Nat) (rep : Bool) : State :=
  let x := s.src p
  let n := x.unread.length
  let s := s.setFld F.ES_ALIGN_STAT_UNREAD p n
  let start := s.alState p == alFILLING && max 1 (x.depth - 2) ≤ n && x.wait == 0
  let s := s.setSrc { x with wait := x.wait - 1 }
  let x := s.src p
  let s := if start then s.setAl p alALIGNED else s
  if s.alState p = alALIGNED then
    if n = 0 ∨ rep = true then s.repeatPicture p f instant else s.readPicture p f instant start
  else if (s.alState p = alLOST ∨ s.alState p = alFORMAT) ∧ x.black = false ∧ x.reading.isSome then
    ((s.repeatPicture p f instant).setSrc { x with lossRep := x.lossRep + 1, again := true }).hearSrc p false
  else s

/-- A read instant as the deciding twin decides it: a store whose rank is migrated repeats (R105, R383). -/
def State.storeRead (s : State) (p : Nat) (f : Format) (instant : Nat) : State := s.storeStep p f instant (s.itemHeld 0 p)

/-- The read instant: house line 1 of the next frame. -/
def State.readInstant (s : State) (f : Format) : Nat := f.lineStart ((f.lineAt (s.house - 1) / f.lines + 1) * f.lines)

/-- FSYNC_READ_INSTANT: the deciding twin chooses, and the other carries its decision out (R104). -/
def State.fsyncRead (s : State) (p : Nat) : State :=
  if !s.storeRuns p then s
  else match format (pFormat (s.port false p)) with
    | none => s
    | some f =>
      let t := s.readInstant f
      let s := s.waitHouse t
      if s.ownStores then (s.storeRead p f t).tellTwin else s

/-- A picture decision of the deciding twin carried out (R104): 0 read, 1 repeat, 2 drop, 3 discard. -/
def State.fsyncDecided (s : State) (p act : Nat) : State :=
  if !s.storeRuns p then s
  else match format (pFormat (s.port false p)) with
    | none => s
    | some f =>
      if act = 2 then s.dropOldest p
      else if act = 3 then s.discardPicture p
      else
        let t := s.readInstant f
        let s := s.waitHouse t
        s.storeStep p f t (act == 1)

/-- Samples repeated less those dropped on a source since its store started. -/
def State.slipped (s : State) (p : Nat) : Int := ((s.au.slips.find? fun x => x.p == p).map (·.net)).getD 0

/-- A sample read behind slips: `at_ k` is the one `k` samples late; `i` samples after the last slip, which crossfades over 32 (R103, R154; rounded
to nearest: DEDUCED, log 49). -/
def slipRead (net old : Int) (i : Nat) (at_ : Int → Int) : Int :=
  if i < 32 then roundDiv (at_ old * (31 - i : Nat) + at_ net * (i + 1 : Nat)) 32 else at_ net

/-- The sample of a source's embedded channel that its store gives at house sample `n` (R103, SLIP); `buf` holds the samples as the source
brought them, by house sample. A slip crossfades over 32 samples. -/
def State.storeAudio (s : State) (p n : Nat) (buf : Int → Int) : Int :=
  let x := s.src p
  let at_ := fun (k : Int) => buf ((n : Int) - x.audio - k)
  match s.au.slips.find? fun y => y.p == p with
  | none => at_ 0
  | some y => slipRead y.net y.old (n - y.from_) at_

/-- One sample repeated or dropped on every channel of a source's port (R103). -/
def State.slipNow (s : State) (p : Nat) (rep : Bool) : State :=
  if s.storeRuns p && s.alState p == alALIGNED && !alASRC (s.src p).entry then
    let n := s.slipped p
    let s := { s with au := { s.au with
      slips := ⟨p, if rep then n + 1 else n - 1, n, s.sampleNow⟩ :: s.au.slips.filter fun x => !(x.p == p) } }
    s.bump F.ES_ALIGN_STAT_SLIPS p 1
  else s

/-- FSYNC_AUDIO_SLIP (R103, R104). -/
def State.audioSlip (s : State) (p : Nat) (rep : Bool) : State := if s.ownStores then (s.slipNow p rep).tellTwin else s

/-- LOSSHOLD_EXPIRE (R105). -/
def State.lossholdExpire (s : State) (p : Nat) : State :=
  let x := s.src p
  if s.storeRuns p && (s.alState p == alLOST || s.alState p == alFORMAT) && F.ES_ALIGN_FREEZE.of x.entry == 0
      && F.ES_ALIGN_LOSSHOLD.of x.entry ≤ x.lossRep then s.setSrc { x with black := true }
  else s

/-! ### `ES_ALIGN` (R106–R108, R110) -/

def alignRange (v : W) : Bool :=
  F.ES_ALIGN_MODE.of v < 2 && F.ES_ALIGN_AUDIO.of v < 2 && 2 ≤ F.ES_ALIGN_DEPTH.of v && F.ES_ALIGN_DEPTH.of v ≤ 4
    && F.ES_ALIGN_WIN.of v ≤ 64 && F.ES_ALIGN_RESERVED.of v == 0

/-- The ASRC channels that an entry takes for a port: each embedded channel one (R103). -/
def asrcNeed (v port : W) : Nat := if alFSYNC v && alASRC v then pAch port * 4 else 0

/-- FSYNC channels of a source released, to MATCH (R156). -/
def State.asrcRelease (s : State) (p : Nat) : State :=
  (s.asrcOf p).foldl (fun s e => (s.setWord 0x3060 e 0 0).setWord 0x3060 e 1 0) s

/-- The part binds channel `e` to embedded channel `k` of source `p` (R156, R159): it acquires. -/
def State.asrcBindFsync (s : State) (p e k : Nat) : State :=
  let s := s.setWord 0x3060 e 0 (F.AU_ASRC_KIND.put 0 2)
  s.setWord 0x3060 e 1 (F.AU_ASRC_FCHAN.put (F.AU_ASRC_FSRC.put (F.AU_ASRC_STATE.put 0 1) p) k)

/-- ASRC channels that a source is to have. -/
def State.asrcWant (s : State) (p : Nat) : Nat :=
  if pValid (s.port false p) then asrcNeed (s.align p) (s.port false p) else 0

/-- A source's ASRC channels are not those that its entry asks for, on its die. -/
def State.asrcStale (s : State) (p : Nat) : Bool :=
  (s.asrcOf p).length != s.asrcWant p || (s.asrcOf p).any fun e => e / 64 != s.srcDie p

/-- The ASRC channels of a source as its entry asks. -/
def State.asrcFit (s : State) (p : Nat) : State :=
  if !s.asrcStale p then s
  else
    let s := s.asrcRelease p
    (((s.asrcFree (s.srcDie p)).take (s.asrcWant p)).zipIdx).foldl (fun s x => s.asrcBindFsync p x.1 x.2) s

/-- The entry changes what the store budget or the pool or the ASRC channels carry so that they fall short (R107 check 4). -/
def State.alignShort (s : State) (p : Nat) (v : W) : Bool :=
  let port := s.port false p
  if !pValid port then false
  else
    let d := pDie port
    let t := s.putWord 0x2860 p 0 v
    (s.poolUse d < t.poolUse d && poolBytes < t.poolUse d) || (s.storeUse d < t.storeUse d && s.storeLimit d < t.storeUse d)
      || (s.asrcFree d).length + (s.asrcOf p).length < asrcNeed v port

/-- A budget in use against its limit: one DEGRADE record as it comes to lie above. `which`: 0 the store budget, 1 the read cost. -/
def State.checkOne (s : State) (which d use limit : Nat) : State :=
  let k := which * 8 + d
  let above := limit < use
  if above = s.al.above.contains k then s
  else if above then ({ s with al := { s.al with above := k :: s.al.above } }).raise 0x2805 d which use limit
  else { s with al := { s.al with above := s.al.above.filter (· != k) } }

/-- A die's store budget and read cost checked against their limits (R110, R177). -/
def State.checkBudget (s : State) (d : Nat) : State :=
  let s := s.checkOne 0 d (s.storeUse d) (s.storeLimit d)
  if s.caps.comp then s.checkOne 1 d (s.costUse d) (s.costLimit d) else s

/-- A write of `ES_ALIGN` (R107). -/
def putAlign (p : Nat) (v : W) : HostWrite × (State → Status × State) :=
  (⟨⟨0x2860, 0, p⟩, [(0, v)], 0, alignRange v⟩, fun s =>
    let o := s.align p
    if alFSYNC v && !s.caps.fsync then (.absent, s)
    else if (F.ES_ALIGN_MODE.of v != F.ES_ALIGN_MODE.of o || F.ES_ALIGN_DEPTH.of v != F.ES_ALIGN_DEPTH.of o
        || F.ES_ALIGN_AUDIO.of v != F.ES_ALIGN_AUDIO.of o) && s.sourceInUse p then (.busy, s)
    else if s.alignShort p v then (.capacity, s)
    else (.ok, (((s.putWord 0x2860 p 0 v).asrcFit p).replaceStore p).checkBudget (s.srcDie p)))

/-! ### Fitting at a publication (R108) -/

/-- What a die has left as its entries are taken in ascending port: pool, store budget, ASRC channels. -/
structure FitLeft where
  pool  : Nat
  store : Nat
  asrc  : Nat

def fits (l : FitLeft) (v port : W) : Bool :=
  poolCost v port ≤ l.pool && (!alFSYNC v || pSlots port ≤ l.store) && asrcNeed v port ≤ l.asrc

/-- An entry changed until it fits (R108). -/
def fitEntry (l : FitLeft) (v port : W) : W :=
  if fits l v port then v
  else
    let v := F.ES_ALIGN_WIN.put v 0
    if fits l v port then v
    else
      let v := F.ES_ALIGN_AUDIO.put v 0
      if fits l v port then v else F.ES_ALIGN_MODE.put v 0

/-- FSYNC channels of a die. -/
def State.asrcHeld (s : State) (d : Nat) : Nat :=
  (entriesOf s.regs 0x3060).countP fun x => F.AU_ASRC_KIND.of x.2 == 2 && x.1 / 64 == d

/-- One die's entries fitted: the ASRC channels of the die that FSYNC sources hold are shared out anew. -/
def State.fitDie (s : State) (d : Nat) : State :=
  let start : FitLeft := ⟨poolBytes, s.storeLimit d - s.heartCost (s.liveStores d), (s.asrcFree d).length + s.asrcHeld d⟩
  let r := (s.dieSources d).foldl (fun (a : State × FitLeft) x =>
    let o := a.1.align x.1
    let v := fitEntry a.2 o x.2
    let s := if v = o then a.1 else (a.1.putWord 0x2860 x.1 0 v).raise 0x2804 d x.1 o.toNat v.toNat
    (s, ⟨a.2.pool - poolCost v x.2, a.2.store - (if alFSYNC v then pSlots x.2 else 0), a.2.asrc - asrcNeed v x.2⟩)) (s, start)
  r.1

/-- Sources that hold FSYNC channels. -/
def State.asrcHolders (s : State) : List Nat :=
  dedup ((entriesOf s.regs 0x3060).filterMap fun x => if F.AU_ASRC_KIND.of x.2 = 2 then some (s.fld F.AU_ASRC_FSRC x.1) else none)

/-- Every die's entries fitted to the published ports; then ASRC channels that no longer fit are given back, and each source takes its
own. -/
def State.fitAll (s : State) : State :=
  let s := (List.range s.dies).foldl (fun s d => s.fitDie d) s
  let s := s.asrcHolders.foldl (fun s p => if s.asrcStale p then s.asrcRelease p else s) s
  let s := (validPorts s.regs false).foldl (fun s x => s.asrcFit x.1) s
  (List.range s.dies).foldl (fun s d => s.checkBudget d) s

/-! ### `ES_ALIGN_GUARD` (R111) -/

/-- A write of `ES_ALIGN_GUARD`. -/
def putGuard (v : W) : HostWrite × (State → Status × State) :=
  (⟨⟨0x286C, 0, 0⟩, [(0, v)], 0, v.toNat ≤ 128⟩, fun s => s.configOnly fun s => (.ok, s.putWord 0x286C 0 0 v))

end Sys2Proof.Machine
end

