-- ==== Sys2Proof/Machine/Audio.lean ====
section
/-! DEFINITION. The audio crosspoint (chapter 5): references and what they carry, channel transitions, gain and delay, and the
writes of its objects. Audio changes are committed in `Takes`. -/
namespace Sys2Proof.Machine

/-! ### Sample time -/

/-- The house sample index at a time (R114). -/
def sampleAt (t : Nat) : Nat := t * 48000 / secUnits

/-- The instant at which a sample begins. -/
def sampleStart (n : Nat) : Nat := (n * secUnits + 47999) / 48000

/-! ### What references carry (R119, R124) -/

/-- Embedded channels of a port entry. -/
def channelsOf (v : W) : Nat := if pValid v then pAch v * 4 else 0

/-- The reference of channel `k` of destination `p`'s FEED (R63): each destination has its own, beyond the references of hosts. -/
def feedRef (p k : Nat) : Nat := 2 ^ 32 + p * 32 + k

def isFeedRef (r : Nat) : Bool := 2 ^ 32 ≤ r

/-- The reference of embedded channel `k` of a source `f` that destination `p` follows. -/
def State.followRef (s : State) (p f k : Nat) : Nat :=
  if f = srcPARK then 0
  else if f = srcFEED then feedRef p k
  else if k < channelsOf (s.port false f) then mkRef rEMB f k else 0

/-- A reference of element `e` with FOLLOW and FEED resolved to the channel that it now means, or NONE; one to a channel beyond its
destination's ACH means none (R137). -/
def State.resolve (s : State) (e r : Nat) : Nat :=
  if refType r = rFOLLOW then
    if channelsOf (s.port true (refPort r)) ≤ refIndex r then 0
    else s.followRef (refPort r) (s.dest (refPort r)).follow (refIndex r)
  else if refType r = rEMB ∧ refPort r = srcFEED then feedRef (auTPort (s.auTarget e)) (refIndex r)
  else r

/-- A reference named by no valid port or channel carries silence (R137). -/
def State.refLive (s : State) (r : Nat) : Bool :=
  if isFeedRef r then true
  else if refType r = rEMB then refIndex r < channelsOf (s.port false (refPort r))
  else if refType r = rCHAN then s.fld F.AU_SRC_VALID (refIndex r) == 1
  else false

/-- The value of a reference in a list of values. -/
def valueIn (l : List (Nat × Int)) (r : Nat) : Int := ((l.find? fun x => x.1 == r).map (·.2)).getD 0

/-- A value rounded to nearest after division. -/
def nearDiv (n : Int) (d : Nat) : Int := if 0 ≤ n then (2 * n + d) / (2 * d) else -((2 * (-n) + d) / (2 * d))

/-- A receive endpoint carries channel status (R118, R136): an AES3 port's, or an ST 2110-31 flow's. -/
def State.hasStatus (s : State) (d n : Nat) : Bool :=
  if n < 0x2000 then s.fld F.MX_AFLOW_KIND (d * 128 + n / 64) == 1 else 0x2200 ≤ n && n < 0x2208

/-- How much of the frame that a receive slot or subframe brings now the crosspoint is to take, in 64ths (R117): none of a port that is not
configured or FREE (R143, R144), of a slot that its frame does not have or its mask leaves out (R147, R149), of a stream that does not run or
underruns; a part while a stream fades in, data apart (R153). -/
def State.frameLevel (s : State) (d n : Nat) (data : Bool) : Nat :=
  let q := epPort d n
  let slot := n % 64 / s.framesPer q
  let taken := 0x2200 ≤ n
    || (slot < tdmSlots (s.word 0x3040 (tdmOf q) 0) && (F.AU_TDM_MASK_RXMASK.of (s.maskLive (tdmOf q))).testBit slot)
  if !taken || s.dirState q false != apRUNNING || s.dirClock q false == clkFREE then 0
  else match s.stream q false with
    | some x => if x.fade < 64 && !data then x.fade + 1 else 64
    | none => 0

/-- How much of what arrives at a receive endpoint the crosspoint takes, in 64ths: none of a flow that is not configured; of a port, as it
was taken of the frame now due (R146); a part while an ASRC channel fades (R160). -/
def State.endpointLevel (s : State) (d n : Nat) : Nat :=
  if n < 0x2000 then
    let v := s.word 0x4828 (d * 128 + n / 64) 1
    if F.MX_XPORT_FEN.of (s.word 0x4828 (d * 128 + n / 64) 0) = 1 ∧ n % 64 < F.MX_AFLOW_CHANNELS.of v then 64 else 0
  else if isPortEp n then (s.rxDue d n).2.1
  else if 0x2300 ≤ n ∧ n < 0x2340 then s.asrcLevel (d * 64 + (n - 0x2300))
  else if n = 0x2401 ∨ n = 0x2402 then 64 else 0

/-- The sample of a receive slot or subframe that is due on the crosspoint, behind its stream's last slip, which crossfades over 32 samples
(R154), data apart (R131). -/
def State.portRaw (s : State) (d n : Nat) : Int :=
  let l := s.rxLine d n
  let at_ := fun (k : Int) => (l.getD ((portDelay (0x2200 ≤ n) false : Nat) - k).toNat (0, 0, 0)).1
  match s.stream (epPort d n) false with
  | some x => if (s.rxDue d n).2.2 % 2 = 1 then at_ 0 else slipRead 0 x.old (s.au.sample - x.slipAt) at_
  | none => at_ 0

/-- The name under which AUDIO_SAMPLE gives what arrives at a receive endpoint. -/
def epKey (d n : Nat) : Nat := 2 ^ 33 + d * 16384 + n

/-- The frames of this house sample taken into the receive lines. A LOCKED stream that brings none repeats its sample: it slips (R154). -/
def State.takeFrames (s : State) (vals : List (Nat × Int)) (status : List (Nat × Nat)) : State :=
  let named := (vals.filter fun x => 2 ^ 33 ≤ x.1 && isPortEp ((x.1 - 2 ^ 33) % 16384)).map fun x => x.1 - 2 ^ 33
  let rx := (dedup (named ++ s.ap.rx.map (·.key))).filterMap fun k =>
    let d := k / 16384
    let n := k % 16384
    let bits := ((status.find? fun y => y.1 == k).map (·.2)).getD 0 % 32
    let level := s.frameLevel d n (0x2200 ≤ n && bits % 2 == 1)
    let got := (vals.filter fun x => x.1 == epKey d n).map (·.2)
    let new := if level = 0 then [0] else if got.isEmpty && s.dirClock (epPort d n) false != clkLOCKED then [0] else got
    let line := (new.foldl (fun l v => (v, level, bits) :: l) (s.rxLine d n)).take 6
    if line.all fun x => x.2.1 == 0 then none else some ⟨k, line⟩
  { s with ap := { s.ap with rx := rx } }

/-- The endpoint of a CHAN reference: die, number. -/
def State.refEndpoint (s : State) (r : Nat) : Nat × Nat := (refIndex r / 8192, s.fld F.AU_SRC_ENDPOINT (refIndex r))

/-- The level of embedded channel `k` of a source: that of the source (R105), and of the ASRC channel that converts it (R103, R160). -/
def State.embLevel (s : State) (p k : Nat) : Nat :=
  let v := (s.src p).entry
  let conv := if alFSYNC v && alASRC v then
      match (s.asrcOf p).find? fun e => s.fld F.AU_ASRC_FCHAN e == k with
      | some e => s.asrcLevel e
      | none => 0
    else 64
  min conv (s.srcLevel p s.au.sample)

/-- How much of a resolved reference's signal the crosspoint takes, in 64ths; `keep`: it is heard until its switch line, whatever a
publication has taken away (R137). -/
def State.refLevel (s : State) (keep : Bool) (r : Nat) : Nat :=
  if !keep && !s.refLive r then 0
  else if isFeedRef r then 64
  else if refType r = rCHAN then
    let x := s.refEndpoint r
    s.endpointLevel x.1 x.2
  else if refType r = rEMB then s.embLevel (refPort r) (refIndex r)
  else 0

/-- `b ^ n ≤ m`, and so downwards from bit `k`: the greatest number whose 320th power is at most `m`. -/
def root320 (m : Nat) : Nat → Nat → Nat
  | 0, r => r
  | k + 1, r => if (r + 2 ^ k) ^ 320 ≤ m then root320 m k (r + 2 ^ k) else root320 m k r

/-- The amplitude of a gain entry in 2⁻⁶⁴: 10 to the power of its sixteenths of a dB over 320, rounded down; the mute value
gives 0. -/
def ampOf (g : Nat) : Int :=
  if g = 0x8000 then 0
  else if g = 0 then 2 ^ 64
  else if g < 0x8000 then (root320 (10 ^ g * 2 ^ 20480) 70 0 : Nat)
  else (root320 (2 ^ 20480 / 10 ^ (65536 - g)) 70 0 : Nat)

/-- The parts of a turn in which the generators' angles are counted. -/
def turnParts : Nat := 48 * 2 ^ 32

/-- The sine of an angle in parts of a turn, in 2⁻⁶⁴: the first 20 terms of its series, for the angle between −1/2 and 1/2 turn; 2π in 2⁻⁶⁴ is
115904311329233965478. -/
def sineOf (angle : Nat) : Int :=
  let a := angle % turnParts
  let n : Int := if 2 * a < turnParts then a else a - turnParts
  let x := n * 115904311329233965478 / turnParts
  ((List.range 20).foldl (fun (a : Int × Int) k =>
    (a.1 + a.2, -(a.2 * x / 2 ^ 64 * x / 2 ^ 64) / ((2 * k + 2) * (2 * k + 3) : Nat))) (0, x)).1

/-- The 1 kHz sine of a generator at house sample `n` (R117): −18 dBFS at 0x2401, −20 dBFS at 0x2402; 0 dBFS is the sine whose peak is full
scale (PRESUMED, log 169). -/
def toneAt (endpoint n : Nat) : Int :=
  let amp := ampOf (65536 - (if endpoint = 0x2401 then 18 else 20) * 16)
  let v := 8388608 * amp * sineOf (Config.tonePhase endpoint + n % 48 * 2 ^ 32)
  v / 2 ^ 128 + (flag (Config.toneUp endpoint (n % 48)) : Nat)

/-- What stands at a resolved reference ahead of its level: the generators' signal, what a port's frames brought, what left a MATCH channel's
line, else the value given. -/
def State.refRaw (s : State) (l : List (Nat × Int)) (r : Nat) : Int :=
  if !isFeedRef r && refType r == rCHAN then
    let x := s.refEndpoint r
    let e := x.1 * 64 + (x.2 - 0x2300)
    if x.2 = 0x2401 ∨ x.2 = 0x2402 then toneAt x.2 s.au.sample
    else if isPortEp x.2 then s.portRaw x.1 x.2
    else if 0x2300 ≤ x.2 ∧ x.2 < 0x2340 ∧ F.AU_ASRC_KIND.of (s.asrcWord e) = 0 then
      (((s.ap.lines.find? fun y => y.1 == e).map (·.2)).getD []).getD 63 0
    else valueIn l (epKey x.1 x.2)
  else valueIn l r

/-- The sample that a resolved reference carries. -/
def State.refValue (s : State) (l : List (Nat × Int)) (keep : Bool) (r : Nat) : Int :=
  if s.refLevel keep r = 64 then s.refRaw l r else nearDiv (s.refRaw l r * s.refLevel keep r) 64

/-- The bits that a resolved reference's channel word carries beside its sample, as `Chan.cs` has them. -/
def State.refStatus (s : State) (status : List (Nat × Nat)) (r : Nat) : Nat :=
  if !isFeedRef r && refType r == rCHAN && s.refLive r then
    let x := s.refEndpoint r
    if !s.hasStatus x.1 x.2 then 0
    else if isPortEp x.2 then 32 + (s.rxDue x.1 x.2).2.2
    else 32 + ((status.find? fun y => y.1 == x.1 * 16384 + x.2).map (·.2)).getD 0 % 32
  else 0

/-! ### Transitions (R130, R131) -/

/-- A zero crossing at a sample, after the one before. -/
def crosses (prev : Option Int) (x : Int) : Bool :=
  x == 0 || match prev with | some p => (p < 0 && 0 < x) || (0 < p && x < 0) | none => false

/-- A fade's sample: `i + 1` parts of the new signal and `63 − i` of the old, rounded to nearest (DEDUCED, log 49: the rule gives
no rounding). -/
def fadeMix (i : Nat) (old new : Int) : Int :=
  let n := old * (63 - i) + new * (i + 1)
  if 0 ≤ n then (n + 32) / 64 else -((-n + 32) / 64)

/-- One sample of a transition: what it gives; whether that is the new signal, the old one, or none of them: the part made it; and the
transition after it. -/
def Trans.sample (t : Trans) (n : Nat) (old new : Int) : Int × Option Bool × Trans :=
  let keep := fun (t : Trans) => { t with prevOld := some old, prevNew := some new }
  if n < t.t0 then (old, some false, keep t)
  else if t.method = 1 then (new, some true, keep { t with phase := 4 })
  else
    let p := if t.t0 + t.limit ≤ n then (if t.phase = 0 then 2 else if t.phase = 1 then 3 else t.phase) else t.phase
    match p with
    | 0 =>
      if crosses t.prevOld old then
        if crosses t.prevNew new then (new, some true, keep { t with phase := 4 }) else (0, none, keep { t with phase := 1 })
      else (old, some false, keep t)
    | 1 => if crosses t.prevNew new then (new, some true, keep { t with phase := 4 }) else (0, none, keep t)
    | 2 => (fadeMix t.fade old new, none, keep { t with fade := t.fade + 1, phase := if t.fade = 63 then 4 else 2 })
    | 3 => (fadeMix t.fade 0 new, none, keep { t with fade := t.fade + 1, phase := if t.fade = 63 then 4 else 3 })
    | _ => (new, some true, keep t)

/-- The `AU_USE` word that counts a transition as it ends. -/
def Trans.counted (t : Trans) : Nat := if t.method != 0 then 6 else if t.fade = 0 then 4 else 5

/-! ### Gain (R134) -/

def unityAmp : Int := 2 ^ 64

/-- 24-bit full scale: the value held, and whether it was saturated. -/
def fullScale (v : Int) : Int × Bool :=
  if 8388607 < v then (8388607, true) else if v < -8388608 then (-8388608, true) else (v, false)

/-- A ramp's or a crossfade's progress by one sample: below 64 running, 64 ended, above it waiting to start. -/
def rampNext (n : Nat) : Nat := if n < 64 then n + 1 else if n = 64 then 64 else if n = 65 then 0 else n - 1

/-- The gain stage: the sample given, saturated or not. -/
def Chan.gain (c : Chan) (x : Int) : Int × Bool :=
  if c.ramp < 64 then fullScale (nearDiv (x * (c.gain0 * (63 - c.ramp) + c.gain1 * (c.ramp + 1))) (64 * 2 ^ 64))
  else
    let a := if c.ramp = 64 then c.gain1 else c.gain0
    if a = unityAmp then (x, false) else fullScale (nearDiv (x * a) (2 ^ 64))

/-- The amplitude that a channel applies now, from which a new ramp starts. -/
def Chan.ampNow (c : Chan) : Int :=
  if c.ramp < 64 then nearDiv (c.gain0 * (64 - c.ramp) + c.gain1 * c.ramp) 64 else if c.ramp = 64 then c.gain1 else c.gain0

/-- The delay that a channel goes to. -/
def Chan.delayGoal (c : Chan) : Nat := ((c.delays.getLast?).map (·.1)).getD c.delay0

/-- The delay stage: the line with the new sample on it, and what is read; data changes over without a crossfade (R131). A change that comes
while another waits or crossfades fades from what that one gives (DESIGN CHOICE, log 186: R135 does not say). -/
def Chan.delayed (c : Chan) (data : Bool) (x : Int × Nat) : List (Int × Nat) × Int × Nat :=
  let line := (x :: c.line).take (c.delays.foldl (fun m d => max m d.1) c.delay0 + 1)
  let read := fun (n : Nat) => line.getD n (0, 64)
  (line, if data then read c.delayGoal
    else c.delays.foldl (fun v d => if d.2 < 64 then (fadeMix d.2 v.1 (read d.1).1, (read d.1).2) else v) (read c.delay0))

/-- The delay crossfades one sample on: one that has ended leaves its delay alone. -/
def Chan.stepDelays (c : Chan) : Chan :=
  let r := c.delays.foldl (fun (a : Nat × List (Nat × Nat)) d =>
    if rampNext d.2 = 64 then (d.1, []) else (a.1, a.2 ++ [(d.1, rampNext d.2)])) (c.delay0, [])
  { c with delay0 := r.1, delays := r.2 }

/-- What a channel delivers of the sample and bits read from its line: zeros that the part gives, the fade after them, which data does not
have (R131), else the sample itself. -/
def Chan.deliver (c : Chan) (mute data : Bool) (x : Int × Nat) : Chan :=
  let o := if mute || 64 < c.hush then (0, 64)
    else if c.hush < 64 && !data then (nearDiv (x.1 * (c.hush + 1)) 64, x.2 % 64 + 64)
    else x
  { c with sent := (o :: c.sent).take 4, out := o.1, conc := o.2.testBit 6, cs := o.2 % 64, hush := rampNext c.hush }

/-! ### Channels -/

/-- An embedded channel that follows its port (R124). -/
def embId (p k : Nat) : Nat := 65536 + p * 32 + k

def isEmbId (id : Nat) : Bool := 65536 ≤ id

/-- The die whose `AU_CTRL` and `AU_USE` a channel comes under. -/
def State.chanDie (s : State) (id : Nat) : Nat :=
  if isEmbId id then pDie (s.port true ((id - 65536) / 32)) else id / 8192

/-- The gain code of a channel: unity for one that follows its port. -/
def State.gainCode (s : State) (id : Nat) : Nat :=
  if isEmbId id then 0 else s.fld F.AU_GAIN_GAIN (id / 8192 * 256 + s.fld F.AU_DST_GIDX id)

/-- A channel carries data (R131): DATA as it stood at the last transition (R123), a mark in `AU_EMB_DATA`, or samples marked NPCM. -/
def State.isData (s : State) (id : Nat) (mark npcm : Bool) : Bool :=
  npcm ||
    if isEmbId id then (s.fld F.AU_EMB_DATA_MASK ((id - 65536) / 32)).testBit ((id - 65536) % 32)
    else
      let v := s.auTarget id
      mark || (auTType v == tEMB && (s.fld F.AU_EMB_DATA_MASK (auTPort v)).testBit (auTIndex v))

def State.chan (s : State) (id base : Nat) : Chan :=
  (s.au.chans.find? fun c => c.id == id).getD
    ⟨id, base, [], ampOf (s.gainCode id), ampOf (s.gainCode id), 64,
      if isEmbId id then 0 else s.fld F.AU_DST_DELAY id, [], s.refValue s.au.last false base, [], [], 0, false, 0, false, 64⟩

def State.setChan (s : State) (c : Chan) : State :=
  { s with au := { s.au with chans := c :: s.au.chans.filter fun x => !(x.id == c.id) } }

/-- The reference that a channel goes to: that of its last transition. -/
def Chan.goal (c : Chan) : Nat := match c.trs.getLast? with | some t => t.new | none => c.base

/-- A channel of samples marked NPCM: its resolved reference is an `AU_SRC` element that reads NPCM. -/
def State.refNpcm (s : State) (r : Nat) : Bool := !isFeedRef r && refType r == rCHAN && s.fld F.AU_SRC_NPCM (refIndex r) == 1

/-- A transition of channel `id` to resolved reference `new` at sample `t0` (R130): none where the signal stays the same; one that
falls on the sample of another takes its place, and none is left where it takes that one back. -/
def State.startTrans (s : State) (id old new t0 : Nat) : State :=
  let c := s.chan id old
  let c := { c with data := !isEmbId id && s.fld F.AU_DST_DATA id == 1 }
  if c.goal = new then s
  else
    let data := s.isData id c.data (s.refNpcm c.goal || s.refNpcm new)
    let m := if data then 1 else if isEmbId id then 0 else s.fld F.AU_DST_METHOD id
    let limit := if m = 0 then s.fld F.AU_CTRL_TIMEOUT (s.chanDie id) else 0
    let t : Trans := ⟨new, m, t0, limit, 0, 0, some c.raw, some (s.refValue s.au.last false new)⟩
    let kept := match c.trs.getLast? with
      | some l => if l.t0 = t0 then c.trs.dropLast else c.trs
      | none => []
    let back := { c with trs := kept }
    s.setChan (if back.goal = new then back else { c with trs := kept ++ [t] })

/-- The bits of a resolved reference's channel word beside its sample, as `Chan.line` has them: CONC where the crosspoint takes its signal in
part or not at all (R117). -/
def State.refBits (s : State) (status : List (Nat × Nat)) (keep : Bool) (r : Nat) : Nat :=
  s.refStatus status r + (if s.refLevel keep r = 64 then 0 else 64)

/-- The transitions of one sample, oldest first: value, bits, what is left of them, the base after them, the ended ones. -/
def runTrans (s : State) (vals : List (Nat × Int)) (status : List (Nat × Nat)) (keep : Bool) (n : Nat) :
    List Trans → Nat → List Trans → Int → Nat → List Trans → Int × Nat × List Trans × Nat × List Trans
  | [], base, kept, v, bits, ended => (v, bits, kept, base, ended)
  | t :: l, base, kept, v, bits, ended =>
    let r := t.sample n v (s.refValue vals keep t.new)
    let b := match r.2.1 with
      | none => 64
      | some new => if new then s.refBits status keep t.new else bits
    if r.2.2.phase = 4 then runTrans s vals status keep n l t.new [] r.1 b (ended ++ [r.2.2])
    else runTrans s vals status keep n l base (kept ++ [r.2.2]) r.1 b ended

/-- An element's reference, or its target, names no valid port or channel (R137). -/
def State.badRef (s : State) (e : Nat) : Bool :=
  let r := s.fld F.AU_DST_LIVE e
  (refType r == rEMB && refPort r != srcFEED && channelsOf (s.port false (refPort r)) ≤ refIndex r)
    || (refType r == rFOLLOW && channelsOf (s.port true (refPort r)) ≤ refIndex r)

def State.badTarget (s : State) (v : W) : Bool := auTType v == tEMB && channelsOf (s.port true (auTPort v)) ≤ auTIndex v

/-- A publication has left a channel nothing to carry, or nothing to deliver to. -/
def State.chanDead (s : State) (c : Chan) : Bool :=
  if isEmbId c.id then
    channelsOf (s.port true ((c.id - 65536) / 32)) ≤ (c.id - 65536) % 32 || (c.goal != 0 && !s.refLive c.goal)
  else s.badRef c.id || s.badTarget (s.auTarget c.id)

/-- An embedded channel's destination carries silence for a source that has failed (R105). -/
def State.blackAt (s : State) (id : Nat) : Bool := isEmbId id && (s.dest ((id - 65536) / 32)).black

/-- One sample of one channel. -/
def State.chanSample (s : State) (vals : List (Nat × Int)) (status : List (Nat × Nat)) (n : Nat) (c : Chan) : State :=
  let keep := s.au.grace.contains c.id
  let mute := (!keep && s.chanDead c) || s.blackAt c.id || s.itemLost 4 c.id
  let r := runTrans s vals status keep n c.trs c.base [] (s.refValue vals keep c.base) (s.refBits status keep c.base) []
  let base := r.2.2.2.1
  let data := s.isData c.id c.data (s.refNpcm base)
  let g := if data then (if s.gainCode c.id = 0x8000 then (0, false) else (r.1, false)) else c.gain r.1
  let d := c.delayed data (g.1, r.2.1)
  let die := s.chanDie c.id
  let c := ({ c with base := base, trs := r.2.2.1, ramp := rampNext c.ramp, raw := r.1, line := d.1 }.stepDelays).deliver mute data d.2
  let s := r.2.2.2.2.foldl (fun s t => s.setWord 0x3038 die t.counted
    (BitVec.ofNat 64 (satAdd 4294967295 (s.word 0x3038 die t.counted).toNat 1))) s
  let s := if g.2 then s.bump F.AU_USE_SATURATED die 1 else s
  if isEmbId c.id && c.trs.isEmpty then
    { s with au := { s.au with chans := s.au.chans.filter fun x => !(x.id == c.id) } }
  else s.setChan c

/-- NPCM of every source channel in use, as this sample's channel status has it; 0 where the endpoint carries none (R118). -/
def State.markNpcm (s : State) (status : List (Nat × Nat)) : State :=
  (entriesOf s.regs 0x3010).foldl (fun s x =>
    if F.AU_SRC_VALID.of x.2 = 1 then s.setFld F.AU_SRC_NPCM x.1 (s.refStatus status (mkRef rCHAN 0 x.1) % 2) else s) s

/-- Time passes to the next house sample. -/
def State.nextSample (s : State) : State :=
  let s := s.waitHouse (sampleStart (s.au.sample + 1))
  { s with au := { s.au with sample := max (s.au.sample + 1) (sampleAt s.house) } }

/-- A house sample on the crosspoint: every channel beyond silence and the straight paths. -/
def State.crossSample (s : State) (vals : List (Nat × Int)) (status : List (Nat × Nat)) : State :=
  let s := s.nextSample.takeFrames vals status
  let s := s.markNpcm status
  let s := s.au.chans.foldl (fun s c => s.chanSample vals status s.au.sample c) s
  { s with au := { s.au with last := vals } }

/-- AUDIO_TRANSITION_TIMEOUT: the transition that waits for a crossing reaches t0 + T. -/
def State.transTimeout (s : State) (id : Nat) : State :=
  match s.au.chans.find? fun c => c.id == id with
  | none => s
  | some c =>
    match c.trs.find? fun t => t.method == 0 && t.phase < 2 with
    | none => s
    | some t =>
      let s := s.waitHouse (sampleStart (t.t0 + t.limit))
      let s := { s with au := { s.au with sample := max s.au.sample (t.t0 + t.limit - 1) } }
      s.setChan { c with trs := c.trs.map fun x => if x = t then { x with phase := if x.phase = 0 then 2 else 3 } else x }

/-! ### Landing on channels (R124, R130) -/

/-- An `AU_DST` element targets channel `k` of a destination, the part's own reservations apart. -/
def State.hostTargets (s : State) (p k : Nat) : Bool :=
  s.auWords.any fun x => auTType x.2 == tEMB && auTPort x.2 == p && auTIndex x.2 == k && !s.auAuto x.1

/-- The audio-follow source of destination `p` moves from `f0` to `f1` at sample `t0`: its embedded channels, and FOLLOW references
to it, change. -/
def State.followMove (s : State) (p f0 f1 t0 : Nat) : State :=
  let n := channelsOf (s.port true p)
  let s := (List.range n).foldl (fun s k =>
    if s.hostTargets p k then s else s.startTrans (embId p k) (s.followRef p f0 k) (s.followRef p f1 k) t0) s
  s.auWords.foldl (fun s x =>
    let r := s.fld F.AU_DST_LIVE x.1
    if refType r = rFOLLOW ∧ refPort r = p then
      s.startTrans x.1 (s.followRef p f0 (refIndex r)) (s.followRef p f1 (refIndex r)) t0
    else s) s

/-! ### Breakaway reservations (R125) -/

def State.reservedFor (s : State) (p : Nat) : Option (List Nat) := (s.au.reserved.find? fun x => x.1 == p).map (·.2)

/-- The highest elements of a die that no one uses, `n` of them. -/
def State.auHighest (s : State) (d n : Nat) : List Nat :=
  let used := (s.auWords.filter fun x => auTType x.2 != 0 || s.auAuto x.1).map (·.1)
  (((List.range 8192).reverse.map (d * 8192 + ·)).filter fun e => !used.contains e).take n

/-- One element taken for channel `k` of destination `p`: it goes on with what the channel carries, with any transition that runs (R125,
R130). -/
def State.takeElement (s : State) (p k e : Nat) : State :=
  let r := mkRef rEMB (s.dest p).follow k
  let c := s.chan (embId p k) (s.followRef p (s.dest p).follow k)
  let s := { s with au := { s.au with chans := { c with id := e } :: s.au.chans.filter fun x => !(x.id == e || x.id == embId p k) } }
  let s := s.setWord 0x3020 e 0 (BitVec.ofNat 64 r)
  let s := s.setWord 0x3020 e 1 (F.AU_DST_TINDEX.put (F.AU_DST_TPORT.put (F.AU_DST_TTYPE.put 0 tEMB) p) k)
  s.setWord 0x3020 e 2 (F.AU_DST_LIVE.put (F.AU_DST_AUTO.put 0 1) r)

/-- One element given back: the channel that follows its port again goes on with the transition that runs, if any (R130). -/
def State.freeElement (s : State) (e : Nat) : State :=
  let p := auTPort (s.auTarget e)
  let k := auTIndex (s.auTarget e)
  let on := if pValid (s.port true p) && !s.hostTargets p k then s.au.chans.filter fun c => c.id == e && !c.trs.isEmpty else []
  let s := (s.setWord 0x3020 e 0 0).setWord 0x3020 e 1 0
  let s := s.setWord 0x3020 e 2 0
  { s with au := { s.au with chans := on.map (fun c => { c with id := embId p k }) ++ s.au.chans.filter fun c => !(c.id == e) } }

/-- A destination's reservation given back. -/
def State.releaseAudio (s : State) (p : Nat) : State :=
  match s.reservedFor p with
  | none => s
  | some l =>
    let s := l.foldl (fun s e => s.freeElement e) s
    { s with au := { s.au with reserved := s.au.reserved.filter fun x => !(x.1 == p) } }

/-- The elements that destination `p` needs beyond those it holds. -/
def State.audioNeed (s : State) (p n : Nat) : Nat := if (s.reservedFor p).isSome then 0 else n

/-- The elements for a destination's breakaway taken, `n` of those of die `d`; none where too few are free. The highest one takes (D, 0)
(DESIGN CHOICE, log 151: R125 gives the elements and the targets, not which goes to which). -/
def State.reserveAudio (s : State) (p d n : Nat) : Option State :=
  if (s.reservedFor p).isSome ∨ n = 0 then some s
  else
    let l := s.auHighest d n
    if l.length < n then none
    else
      let s := l.zipIdx.foldl (fun s x => s.takeElement p x.2 x.1) s
      some { s with au := { s.au with reserved := (p, l) :: s.au.reserved } }

/-! ### Words that hosts write (R118, R121, R123, R132–R135) -/

/-- Receive endpoints (R117). -/
def rxEndpoint (n : Nat) : Bool := n ≤ 0x2207 || (0x2300 ≤ n && n ≤ 0x233F) || (0x2400 ≤ n && n ≤ 0x2402)

/-- Transmit endpoints. -/
def txEndpoint (n : Nat) : Bool := n ≤ 0x2207 || (0x2300 ≤ n && n ≤ 0x233F)

/-- The unit of an endpoint is absent (R139). -/
def State.endpointAbsent (s : State) (n : Nat) : Bool :=
  (0x2000 ≤ n && n ≤ 0x2207 && !s.caps.auport) || (n < 0x2000 && !s.caps.media)

/-- A write of `AU_SRC` (R118). -/
def putAuSrc (s : State) (e : Nat) (v : W) : HostWrite × (State → Status × State) :=
  let o := s.word 0x3010 e 0
  let same := F.AU_SRC_VALID.of v == 1 && F.AU_SRC_ENDPOINT.of v == F.AU_SRC_ENDPOINT.of o
  let w := F.AU_SRC_NPCM.put v (if same then F.AU_SRC_NPCM.of o else 0)
  (⟨⟨0x3010, 0, e⟩, [(0, w)], 0, F.AU_SRC_RESERVED.of v == 0 && rxEndpoint (F.AU_SRC_ENDPOINT.of v)⟩, fun s =>
    if s.endpointAbsent (F.AU_SRC_ENDPOINT.of v) then (.absent, s)
    else (.ok, s.putWord 0x3010 e 0 w))

/-- Word 1 of `AU_DST` in range (R123 check 1). -/
def auTargetOk (s : State) (v : W) : Bool :=
  let t := auTType v
  t < 3 && F.AU_DST_METHOD.of v < 3 && F.AU_DST_DELAY.of v ≤ 96000 && F.AU_DST_RESERVED1.of v == 0
    && (if t = tEMB then auTPort v < s.caps.ports && auTIndex v < 32
        else if t = tENDPOINT then auTPort v == 0 && txEndpoint (auTIndex v) else true)

/-- A take, audio change or head commit in progress on an element. -/
def State.workOn (s : State) (k : MemberKind) (e : Nat) : Option Work := s.xp.work.find? fun x => x.kind == k && x.elem == e

/-- Samples until a ramp starts: at the sample that the deciding twin gives (R129), else within 12 samples of acceptance, which of them the
rules leave open (R134, R135). -/
def State.rampStart (s : State) (at_ : Option Nat) : State × Nat :=
  match at_ with
  | some n => (s, 65 + (n - (s.au.sample + 1)))
  | none =>
    let f := s.takeFree
    (f.1, 65 + f.2.toNat % 12)

/-- A new gain of a channel ramps from what it applies. -/
def State.rampTo (s : State) (id g start : Nat) : State :=
  match s.au.chans.find? fun c => c.id == id with
  | none => s
  | some c => s.setChan { c with gain0 := c.ampNow, gain1 := ampOf g, ramp := start }

/-- A channel delivers zeros with CONC, for `n` samples, and then fades in over 64 (R362, R372, R383). -/
def State.silence (s : State) (id n : Nat) : State :=
  match s.au.chans.find? fun c => c.id == id with
  | none => s
  | some c => s.setChan { c with hush := if n = 0 then 0 else 64 + n, out := 0, conc := true }

/-- A new delay of a channel crossfades (R135). -/
def State.delayTo (s : State) (id n start : Nat) : State :=
  match s.au.chans.find? fun c => c.id == id with
  | none => s
  | some c => s.setChan { c with delays := c.delays ++ [(n, start)] }

/-- Word 1 accepted (R123): GIDX and DELAY apply. -/
def State.auDstAccept (s : State) (e : Nat) (v : W) (at_ : Option Nat) : State :=
  let o := s.auTarget e
  let g0 := s.gainCode e
  let x := s.rampStart at_
  let s := x.1.putWord 0x3020 e 1 v
  let s := if s.gainCode e = g0 then s else s.rampTo e (s.gainCode e) x.2
  let s := if F.AU_DST_DELAY.of v = F.AU_DST_DELAY.of o then s else s.delayTo e (F.AU_DST_DELAY.of v) x.2
  s.tellTwin

/-- A write of `AU_DST` word 1 (R123). -/
def putAuDst1 (s : State) (rq : Req) (e : Nat) (v : W) : HostWrite × (State → Status × State) :=
  (⟨⟨0x3020, 0, e⟩, [(1, v)], 0, auTargetOk s v⟩, fun s =>
    let o := s.auTarget e
    let moved := auTType v != auTType o || auTPort v != auTPort o || auTIndex v != auTIndex o
    if s.auAuto e || (moved && (s.fld F.AU_DST_LIVE e != 0 || (s.workOn .audio e).isSome)) then (.busy, s)
    else if (auTType v == tENDPOINT && s.endpointAbsent (auTIndex v)) || (64 < F.AU_DST_DELAY.of v && !s.caps.fsync) then
      (.absent, s)
    else if auTType v == tEMB && channelsOf (s.port true (auTPort v)) ≤ auTIndex v then (.port, s)
    else if auTType v != 0 && s.auWords.any (fun x => x.1 != e && !s.auAuto x.1 && auTType x.2 == auTType v
        && auTIndex x.2 == auTIndex v && (if auTType v = tEMB then auTPort x.2 == auTPort v else x.1 / 8192 == e / 8192)) then
      (.target, s)
    else s.decideHere rq 3 e fun s => (.ok, s.auDstAccept e v none))

/-- A gain in range (R134). -/
def gainOk (v : W) : Bool :=
  v.toNat < 65536 && (v.toNat == 0x8000 || (let g := signed 16 v.toNat; -1536 ≤ g && g ≤ 384))

/-- A gain entry accepted: every channel that uses it ramps. -/
def State.gainAccept (s : State) (e : Nat) (v : W) (at_ : Option Nat) : State :=
  if s.word 0x3028 e 0 = v then s
  else
    let x := s.rampStart at_
    let s := x.1.putWord 0x3028 e 0 v
    let s := (s.au.chans.filter fun c => !isEmbId c.id && c.id / 8192 == e / 256 && s.fld F.AU_DST_GIDX c.id == e % 256).foldl
      (fun s c => s.rampTo c.id v.toNat x.2) s
    s.tellTwin

/-- A write of `AU_GAIN` (R134): entry 0 of each die is read-only. -/
def putAuGain (rq : Req) (e : Nat) (v : W) : HostWrite × (State → Status × State) :=
  (⟨⟨0x3028, 0, e⟩, [(0, v)], 0, gainOk v⟩, fun s => s.decideHere rq 0 e fun s => (.ok, s.gainAccept e v none))

/-- A write of `AU_CTRL` (R132). -/
def putAuCtrl (e : Nat) (v : W) : HostWrite × (State → Status × State) :=
  (⟨⟨0x3008, 0, e⟩, [(0, v)], 0, (format (F.AU_CTRL_TFMT.of v)).isSome && F.AU_CTRL_TIMEOUT.of v ≤ 240
      && zeros [F.AU_CTRL_RESERVED, F.AU_CTRL_RESERVED2] v && v.toNat < 2 ^ 32⟩, fun s => (.ok, s.putWord 0x3008 e 0 v))

/-- A write of `AU_EMB_DATA` (R133). -/
def putEmbData (p : Nat) (v : W) : HostWrite × (State → Status × State) :=
  (⟨⟨0x3030, 0, p⟩, [(0, v)], 0, true⟩, fun s => (.ok, s.putWord 0x3030 p 0 v))

/-! ### Publication (R137) -/

/-- A reference or a target names no valid port or channel. -/
def State.auSilent (s : State) (e : Nat) (v : W) : Bool := s.badRef e || s.badTarget v

/-- A channel has a switch line to come: not one whose target's port is no longer valid. -/
def State.chanTimed (s : State) (id : Nat) : Bool :=
  if isEmbId id then pValid (s.port true ((id - 65536) / 32))
  else auTType (s.auTarget id) != tEMB || pValid (s.port true (auTPort (s.auTarget id)))

/-- A publication silences channels from their next switch lines on, and at once where the target's port has none any more (DESIGN CHOICE,
log 187). Its record counts the elements newly silenced, and there is none where it
silences none (DESIGN CHOICE, log 152). -/
def State.auPublish (s before : State) : State :=
  let n := (s.auWords.filter fun x => s.auSilent x.1 x.2 && !before.auSilent x.1 x.2).length
  let ids := (s.au.chans.filter fun c => s.chanDead c && !before.chanDead c).map (·.id)
  let s := { s with au := { s.au with grace := (s.au.grace ++ ids).filter s.chanTimed } }
  if n = 0 then s else s.note 0x3001 n 0 0

/-- The channels of switch line `p`, whose silence begins (R137). -/
def State.endGrace (s : State) (p : Nat) : State :=
  let here := fun (id : Nat) =>
    if isEmbId id then (id - 65536) / 32 == p
    else
      let v := s.auTarget id
      if auTType v == tEMB then auTPort v == p else id / 8192 + 16384 == p
  { s with au := { s.au with grace := s.au.grace.filter fun id => !here id } }

end Sys2Proof.Machine
end

