-- ==== Sys2Proof/Machine/Compose.lean ====
section
/-! DEFINITION. Composition heads (chapter 7): the writes of layers, images, palette and head configuration, what a commit is
checked against, and what a head does at a switch line. Head commits themselves are in `Takes`. -/
namespace Sys2Proof.Machine

/-! ### Layers and heads as the shadow has them -/

def State.shadowLayer (s : State) (e w : Nat) : W := s.shadowWord 0x3820 e w

/-- A word of `CM_LAYER` or `CM_HEAD` that some live or shadow descriptor of a die lists. -/
def State.layerWords (s : State) (d : Nat) : List W :=
  let pick := fun (t : Table) => t.filterMap fun x =>
    if x.1.ix = 0x3820 ∧ x.1.w = 0 ∧ x.1.e / 256 = d then some x.2 else none
  pick s.regs ++ pick s.shadow

/-- A head has a commit in progress. -/
def State.headWork (s : State) (h : Nat) : Option Work := s.workOn .head h

/-- A head's images are being flattened. -/
def State.flattening (s : State) (h : Nat) : Bool := s.fld F.CM_HEAD_FLAT h == 1

/-! ### Layer descriptors (R170, R171) -/

/-- The values of a layer descriptor (R171). A STATIC TOP does not use SEQ (DESIGN CHOICE, log 180: the rule asks of each class that it use what is
set, and does not say that of a STATIC TOP). -/
def layerRange (s : State) (e : Nat) (w0 w1 w2 : W) : Bool :=
  let c := lClass w0
  let r := lDiv w0
  e % 8 < s.caps.layers
    && F.CM_LAYER_FALLBACK.of w0 != 3
    && F.CM_LAYER_RESERVED.of w0 == 0 && F.CM_LAYER_RESERVED1.of w1 == 0 && F.CM_LAYER_RESERVED2.of w2 == 0
    && (c == lHEART || (F.CM_LAYER_REDUCE.of w0 == 0 && F.CM_LAYER_STORE.of w0 == 0))
    && (lDynamic w0 || F.CM_LAYER_SEQ.of w0 == 0)
    && (c == lBASE || F.CM_LAYER_COLOUR.of w0 == 0)
    && (if lColour w0 then F.CM_LAYER_SRC.of w0 ≤ 255 else if c == lBASE || c == lTOP then F.CM_LAYER_SRC.of w0 ≤ 1023 else true)
    && (F.CM_LAYER_FALLBACK.of w0 != 1 || F.CM_LAYER_FBREF.of w0 ≤ 255)
    && F.CM_LAYER_X0.of w1 % 2 == 0 && F.CM_LAYER_CL.of w2 % 2 == 0 && F.CM_LAYER_WIDTH.of w1 % 2 == 0
    && F.CM_LAYER_WIDTH.of w1 % r == 0 && F.CM_LAYER_HEIGHT.of w1 % r == 0
    && (c == lOFF || (F.CM_LAYER_WIDTH.of w1 != 0 && F.CM_LAYER_HEIGHT.of w1 != 0))

/-- A commit in progress names layer `e`. -/
def State.layerHeld (s : State) (e : Nat) : Bool :=
  match s.headWork (e / 8) with
  | some x => (F.CM_HEAD_LMASK.of x.w0).testBit (e % 8)
  | none => false

/-- A write of `CM_LAYER` (R171). -/
def putLayer (s : State) (rq : Req) (e : Nat) (ws : List (Nat × W)) : HostWrite × (State → Status × State) :=
  let at_ := fun w => newWord ws w (s.shadowLayer e w)
  (⟨⟨0x3820, 0, e⟩, ws, 0, layerRange s e (at_ 0) (at_ 1) (at_ 2)⟩, fun s =>
    if s.layerHeld e then (.busy, s.refuse rq.ctx.val 4 e .busy)
    else (.ok, ((s.putShadow 0x3820 e 0 (at_ 0)).putShadow 0x3820 e 1 (at_ 1)).putShadow 0x3820 e 2 (at_ 2)))

/-! ### Images, pixels, palette (R178–R180) -/

/-- The values of an image entry (R178). Size and store are judged of an image that is defined, VALID 1 (DESIGN CHOICE, log 181: the rule does
not say whether of another). -/
def imageRange (v : W) : Bool :=
  F.CM_IMAGE_RESERVED.of v == 0 &&
    (F.CM_IMAGE_VALID.of v == 0
      || (1 ≤ F.CM_IMAGE_WIDTH.of v && F.CM_IMAGE_WIDTH.of v ≤ 4096 && 1 ≤ F.CM_IMAGE_HEIGHT.of v && F.CM_IMAGE_HEIGHT.of v ≤ 2160
        && F.CM_IMAGE_BASE.of v + imgUnits v ≤ 65536))

/-- Two images share store. -/
def imageMeets (a b : W) : Bool :=
  F.CM_IMAGE_VALID.of a == 1 && F.CM_IMAGE_VALID.of b == 1
    && F.CM_IMAGE_BASE.of a < F.CM_IMAGE_BASE.of b + imgUnits b && F.CM_IMAGE_BASE.of b < F.CM_IMAGE_BASE.of a + imgUnits a

/-- Images of a die being flattened: those of commits whose flattening runs. -/
def State.imagesFlattening (s : State) (d : Nat) : List Nat :=
  s.cm.accord.filterMap fun x => if x.head / 32 = d ∧ x.live = false ∧ s.flattening x.head then some x.image else none

/-- An image is named by a live or shadow layer or fallback, or is being flattened. -/
def State.imageBusy (s : State) (d i : Nat) : Bool :=
  (s.layerWords d).any (fun w0 => (lNames w0).contains i) || (s.imagesFlattening d).contains i

/-- A write of `CM_IMAGE` (R178). -/
def putImage (e : Nat) (v : W) : HostWrite × (State → Status × State) :=
  (⟨⟨0x3830, 0, e⟩, [(0, v)], 0, imageRange v⟩, fun s =>
    let d := e / 1024
    if (entriesOf s.regs 0x3830).any (fun x => x.1 != e && x.1 / 1024 == d && imageMeets v x.2) then (.target, s)
    else if s.imageBusy d (e % 1024) then (.busy, s)
    else (.ok, s.putWord 0x3830 e 0 v))

/-- A word of the image store lies in a valid image. -/
def imageHolds (img : W) (word : Nat) : Bool :=
  F.CM_IMAGE_VALID.of img == 1 && F.CM_IMAGE_BASE.of img * 8192 ≤ word && word < (F.CM_IMAGE_BASE.of img + imgUnits img) * 8192

/-- Images that live dynamic top notes of a die name. -/
def State.imagesDynamic (s : State) (d : Nat) : List Nat :=
  (s.regs.filterMap fun x => if x.1.ix = 0x3820 ∧ x.1.w = 0 ∧ x.1.e / 256 = d ∧ lDynamic x.2 then some (lImages x.2) else none).flatten

/-- A write of `CM_PIXELS` (R179). -/
def putPixels (e : Nat) (v : W) : HostWrite × (State → Status × State) :=
  (⟨⟨0x3838, 0, e⟩, [(0, v)], 0, true⟩, fun s =>
    let d := e / 2 ^ 29
    let busy := s.imagesFlattening d ++ s.imagesDynamic d
    if busy.any fun i => imageHolds (s.image d i) (e % 2 ^ 29) then (.busy, s) else (.ok, s.putWord 0x3838 e 0 v))

/-- A write of `CM_PALETTE` (R180). -/
def putPalette (e : Nat) (v : W) : HostWrite × (State → Status × State) :=
  (⟨⟨0x3828, 0, e⟩, [(0, v)], 0, F.CM_PALETTE_RESERVED.of v == 0⟩, fun s =>
    if (s.layerWords (e / 256)).any fun w0 => (lPalette w0).contains (e % 256) then (.busy, s)
    else (.ok, s.putWord 0x3828 e 0 v))

/-! ### Head configuration (R181) -/

def hDest (w1 : W) : Nat := F.CM_HEAD_DEST.of w1
def hAttach (w1 : W) : Bool := F.CM_HEAD_ATTACH.of w1 == 1

/-- A write of `CM_HEAD` word 1: the shadow. A DEST beyond the member's ports is out of range here (DESIGN CHOICE, log 182: R181 gives word 1 no
range check of its own, and R182 checks DEST at the commit). -/
def putHead1 (s : State) (_rq : Req) (h : Nat) (v : W) : HostWrite × (State → Status × State) :=
  (⟨⟨0x3810, 0, h⟩, [(1, v)], 0, F.CM_HEAD_RESERVED1.of v == 0 && hDest v < s.caps.ports⟩, fun s =>
    (.ok, s.putShadow 0x3810 h 1 v))

/-! ### What a commit is checked against (R163, R172, R182) -/

/-- The head's configuration as a commit leaves it. -/
def State.headConf (s : State) (h : Nat) (w0 : W) : W :=
  if F.CM_HEAD_CFG.of w0 = 1 then s.shadowWord 0x3810 h 1 else s.word 0x3810 h 1

/-- Descriptors as a commit leaves them. -/
def State.headLayers (s : State) (h : Nat) (w0 : W) : Layers := fun e w =>
  if e / 8 = h ∧ (F.CM_HEAD_LMASK.of w0).testBit (e % 8) then s.shadowLayer e w else s.word 0x3820 e w

/-- The port tables to check against: the shadow for work that is held, else the live ones. -/
def State.portIn (s : State) (shadow dst : Bool) (p : Nat) : W := if shadow then s.portShadow dst p else s.port dst p

/-- A head serves a destination's format (R163). -/
def State.headServes (s : State) (p : Nat) (v : W) : Bool :=
  0x10 ≤ pFormat v && (format (pFormat v)).isSome
    && !(0x48 ≤ pFormat v && F.MX_XPORT_RGB.of (s.word 0x4820 p 0) == 1)

/-- Order 5 of R182. CONFLICT is asked of a head that is attached, or is being attached (DESIGN CHOICE, log 183: the rule does not say so). -/
def State.headDestBad (s : State) (shadow : Bool) (h : Nat) (w1 : W) : Option Status :=
  let v := s.portIn shadow true (hDest w1)
  if !pValid v then some .port
  else if pDie v != h / 32 then some .die
  else if !s.headServes (hDest w1) v then some .format
  else if hAttach w1 && (List.range (s.dies * 32)).any (fun k => k != h && s.attached k && s.fld F.CM_HEAD_DEST k == hDest w1) then
    some .conflict
  else none

/-- Order 6 of R182 for a layer. -/
def State.layerPortBad (s : State) (shadow : Bool) (d : Nat) (w0 : W) : Bool :=
  (lClass w0 == lHEART && !pValid (s.portIn shadow false (F.CM_LAYER_SRC.of w0)))
    || (lNames w0).any fun i => 1024 ≤ i || F.CM_IMAGE_VALID.of (s.image d i) == 0

/-- Order 7: rate, scan and interlace rules of a heart layer. -/
def State.layerFormatBad (s : State) (shadow : Bool) (dfmt : Nat) (w0 w1 w2 : W) : Bool :=
  lClass w0 == lHEART &&
    match format (pFormat (s.portIn shadow false (F.CM_LAYER_SRC.of w0))), format dfmt with
    | some f, some g =>
      !f.sameRate g || f.interlaced != g.interlaced
        || (g.interlaced && !(F.CM_LAYER_REDUCE.of w0 == 0 && F.CM_LAYER_Y0.of w1 % 2 == 0 && F.CM_LAYER_CT.of w2 % 2 == 0
              && F.CM_LAYER_HEIGHT.of w1 % 2 == 0))
    | _, _ => true

/-- The picture that a layer's crop is cut from; none: it has no crop. -/
def State.cropSource (s : State) (shadow : Bool) (d : Nat) (w0 : W) : List (Nat × Nat) :=
  if lClass w0 = lHEART then [rasterOf (pFormat (s.portIn shadow false (F.CM_LAYER_SRC.of w0)))]
  else (lImages w0).map fun i => (F.CM_IMAGE_WIDTH.of (s.image d i), F.CM_IMAGE_HEIGHT.of (s.image d i))

/-- Order 7: the layer does not fit (R172). -/
def State.layerGeomBad (s : State) (shadow : Bool) (d dfmt : Nat) (w0 w1 w2 : W) : Bool :=
  let r := rasterOf dfmt
  let q := lDiv w0
  let w := F.CM_LAYER_WIDTH.of w1
  let h := F.CM_LAYER_HEIGHT.of w1
  r.1 < F.CM_LAYER_X0.of w1 + w / q || r.2 < F.CM_LAYER_Y0.of w1 + h / q
    || (s.cropSource shadow d w0).any fun c => c.1 < F.CM_LAYER_CL.of w2 + w || c.2 < F.CM_LAYER_CT.of w2 + h

/-- The layers of a head that are not OFF, by their three words. -/
def headOn (lay : Layers) (h : Nat) : List (W × W × W) :=
  ((List.range 8).map fun n => (lay (h * 8 + n) 0, lay (h * 8 + n) 1, lay (h * 8 + n) 2)).filter fun x => lClass x.1 != lOFF

/-- Orders 5 to 7 of R182. -/
def State.headCheck (s : State) (shadow : Bool) (h : Nat) (w0 : W) : Option Status :=
  let w1 := s.headConf h w0
  let l := headOn (s.headLayers h w0) h
  let fmt := pFormat (s.portIn shadow true (hDest w1))
  match s.headDestBad shadow h w1 with
  | some st => some st
  | none =>
    if l.any fun x => s.layerPortBad shadow (h / 32) x.1 then some .port
    else if l.any fun x => s.layerFormatBad shadow fmt x.1 x.2.1 x.2.2 then some .format
    else if l.any fun x => s.layerGeomBad shadow (h / 32) fmt x.1 x.2.1 x.2.2 then some .geometry
    else none

/-! ### Flattening and capacity (R175–R177, R182 order 9) -/

/-- The accord images that a commit makes: of each published static layer, and of each published fallback image. -/
def State.commitImages (s : State) (shadow : Bool) (h : Nat) (w0 : W) : List AccordImg :=
  let w1 := s.headConf h w0
  let raster := s.rasterIn shadow w1
  let d := h / 32
  ((List.range 8).foldl (fun (a : List AccordImg × Nat) n =>
    if (F.CM_HEAD_LMASK.of w0).testBit n then
      let e := h * 8 + n
      let l0 := s.shadowLayer e 0
      let l1 := s.shadowLayer e 1
      let a := if lStatic l0 then
          let x := s.flattened h n false raster w1 (layerPlace l0 l1 (s.shadowLayer e 2)) a.2
          (a.1 ++ [x], a.2 - x.uniform) else a
      if lFbImage l0 then
        let x := s.flattened h n true raster w1 (fbPlace (s.image d (F.CM_LAYER_FBREF.of l0)) l0 l1 raster) a.2
        (a.1 ++ [x], a.2 - x.uniform)
      else a
    else a) ([], s.uniformRoom d)).1

/-- A die's read cost as a commit leaves it. -/
def State.costAfter (s : State) (h : Nat) (w0 : W) (imgs : List AccordImg) : Nat :=
  let d := h / 32
  let lay := s.headLayers h w0
  ((List.range 256).map fun k =>
    let e := d * 256 + k
    let on := if e / 8 = h then hAttach (s.headConf h w0) else s.attached (e / 8)
    if on then
      let own := if e / 8 = h ∧ (F.CM_HEAD_LMASK.of w0).testBit (e % 8) then imgs.filter fun x => x.layer == e % 8 else s.liveImages e
      s.layerCost d (lay e 0) own
    else 0).sum

/-- Order 9 of R182: what a commit would take on its die is not there. -/
def State.headShort (s : State) (shadow : Bool) (h : Nat) (w0 : W) (imgs : List AccordImg) : Bool :=
  let d := h / 32
  let lay := s.headLayers h w0
  let conf := fun k => if k = h then s.headConf h w0 else s.word 0x3810 k 1
  let line := lineUse d lay conf fun k c => (s.rasterIn (shadow && k == h) c).1
  let cost := s.costAfter h w0 imgs
  let stores := s.heartCost (s.heartStores d lay fun k => hAttach (conf k))
  let storeNow := s.heartCost (s.liveStores d)
  737280 < line
    || 98304 < ((s.accordOf d).map (·.stored)).sum + (imgs.map (·.stored)).sum
    || 524288 < ((s.accordOf d).map (·.entries)).sum + (imgs.map (·.entries)).sum
    || (s.costUse d < cost && s.costLimit d < cost)
    || (storeNow < stores && s.storeLimit d < s.fsyncCost d + stores)

/-- The accord images of a commit that does not land are given up. -/
def State.dropImages (s : State) (h : Nat) : State :=
  { s with cm := { s.cm with accord := s.cm.accord.filter fun x => !(x.head == h && !x.live) } }

/-! ### A head at its switch line (R183, R184, R186, R187) -/

def laOFF : Nat := 0
def laREADY : Nat := 1
def laREPEAT : Nat := 2
def laFALLBACK : Nat := 3
def laRAMPING : Nat := 4

def LayerRun.rest (n : Nat) : LayerRun := ⟨n, 0, 0, 0, 0, [], 0, false, false, 0⟩

def State.run (s : State) (h n : Nat) : LayerRun :=
  ((s.cm.runs.find? fun x => x.1 == h && x.2.layer == n).map (·.2)).getD (.rest n)

def State.setRun (s : State) (h : Nat) (x : LayerRun) : State :=
  { s with cm := { s.cm with runs := (h, x) :: s.cm.runs.filter fun y => !(y.1 == h && y.2.layer == x.layer) } }

/-- The opacity after `j` frames of a ramp (R184). -/
def LayerRun.opac (x : LayerRun) (j : Nat) : Nat :=
  if x.frames ≤ j then x.opac1
  else
    let d : Int := Int.ofNat x.opac1 - Int.ofNat x.opac0
    (Int.ofNat x.opac0 + nearDiv (d * j) x.frames).toNat

/-- PATH, COST and TILES of a layer as its live words and images make them. -/
def State.layerFacts (s : State) (e : Nat) : State :=
  let w0 := s.word 0x3820 e 0
  let imgs := s.liveImages e
  let s := s.setFld F.CM_LAYER_PATH e (lPath w0 (s.word 0x3820 e 1) (s.word 0x3820 e 2))
  let s := s.setFld F.CM_LAYER_COST e (s.layerCost (e / 256) w0 imgs)
  let s := s.setFld F.CM_LAYER_TILES_STORED e (imgs.map (·.stored)).sum
  s.setFld F.CM_LAYER_TILES_UNIFORM e (imgs.map (·.uniform)).sum

/-- A layer's live words replaced. -/
def State.setLayer (s : State) (e : Nat) (ws : List W) : State :=
  ((s.setWord 0x3820 e 0 (ws.getD 0 0)).setWord 0x3820 e 1 (ws.getD 1 0)).setWord 0x3820 e 2 (ws.getD 2 0)

/-- The live accord images of a layer given up. -/
def State.dropLive (s : State) (e : Nat) : State :=
  { s with cm := { s.cm with accord := s.cm.accord.filter fun x => !(x.head == e / 8 && x.layer == e % 8 && x.live) } }

/-- A layer turned off with the words published; what it stored leaves the store budget (R110). -/
def State.layerOff (s : State) (e : Nat) (ws : List W) : State :=
  let s := (s.setLayer e ws).dropLive e
  let s := { s with cm := { s.cm with runs := s.cm.runs.filter fun y => !(y.1 == e / 8 && y.2.layer == e % 8) } }
  (((s.setFld F.CM_LAYER_OPACNOW e 0).setNotify F.CM_LAYER_STATE e laOFF).layerFacts e).checkBudget (e / 256)

/-- One published layer goes live (R184). -/
def State.landLayer (s : State) (e : Nat) (ws : List W) : State :=
  let old := s.word 0x3820 e 0
  let n0 := ws.getD 0 0
  let ramp := F.CM_LAYER_RAMP.of n0
  let x := s.run (e / 8) (e % 8)
  let o := if lClass old = lOFF then 0 else s.fld F.CM_LAYER_OPACNOW e
  if lClass n0 = lOFF then
    if ramp = 0 ∨ lClass old = lOFF then s.layerOff e ws
    else s.setRun (e / 8) { x with opac0 := o, opac1 := 0, done := 0, frames := ramp, offTo := ws }
  else
    let s := (s.setLayer e ws).dropLive e
    let go := fun (y : AccordImg) => if y.head = e / 8 ∧ y.layer = e % 8 then { y with live := true } else y
    let s := { s with cm := { s.cm with accord := s.cm.accord.map go } }
    let same := lClass old == lHEART && lClass n0 == lHEART && F.CM_LAYER_SRC.of old == F.CM_LAYER_SRC.of n0
    let s := s.setRun (e / 8) { x with opac0 := o, opac1 := F.CM_LAYER_OPAC.of n0, done := 0, frames := ramp, offTo := [],
                                       rep := 0, good := x.good && same, broken := false, age := 0 }
    s.layerFacts e

/-- A head commit lands (R183): the published words go live. -/
def State.landHead (s : State) (h : Nat) (w0 : W) : State :=
  let s := if F.CM_HEAD_CFG.of w0 = 1 then s.setWord 0x3810 h 1 (s.shadowWord 0x3810 h 1) else s
  let s := (List.range 8).foldl (fun s n =>
    if (F.CM_HEAD_LMASK.of w0).testBit n then
      let e := h * 8 + n
      s.landLayer e [s.shadowLayer e 0, s.shadowLayer e 1, s.shadowLayer e 2]
    else s) s
  ({ s with cm := { s.cm with twinReady := s.cm.twinReady.filter (· != h) } }).checkBudget (h / 32)

/-- A heart layer has its picture (R186). -/
def State.heartReady (s : State) (w0 w1 w2 : W) : Bool :=
  let p := F.CM_LAYER_SRC.of w0
  let st := s.alState p
  if heartStored w0 w1 w2 then st != alUNUSED && st != alLOST && st != alFORMAT && (s.src p).good else st == alALIGNED

/-- A DRAM copy holds the layer's heart store (R383). -/
def State.heartHeld (s : State) (e : Nat) : Bool := s.itemHeld 1 (e / 256 * 16384 + s.fld F.CM_LAYER_SRC e)

/-- A buffer of the layer's heart store is lost (R384). -/
def State.heartLost (s : State) (e : Nat) : Bool := s.itemLost 1 (e / 256 * 16384 + s.fld F.CM_LAYER_SRC e)

/-- A layer enters its fallback (R187). -/
def State.toFallback (s : State) (e : Nat) : State :=
  if s.fld F.CM_LAYER_STATE e = laFALLBACK then s
  else
    let s := s.setNotify F.CM_LAYER_STATE e laFALLBACK
    let s := s.bump F.CM_LAYER_FALLBACKS e 1
    s.raise 0x3801 (e / 256) (e / 8) (e % 8) (s.fld F.CM_LAYER_SRC e)

/-- A layer repeats its last good picture. -/
def State.toRepeat (s : State) (e : Nat) (counted : Bool) : State :=
  let x := s.run (e / 8) (e % 8)
  let s := s.setRun (e / 8) { x with rep := if counted then x.rep + 1 else x.rep }
  (s.bump F.CM_LAYER_REPEATS e 1).setNotify F.CM_LAYER_STATE e laREPEAT

/-- A STORED layer whose twin decides follows what the twin has told for this switch line (R191): a repeat, the fallback, or nothing, which is
its picture. -/
def State.judgeTold (s : State) (e st : Nat) : State :=
  let told := s.cm.told.find? fun y => y.1 == e
  let s := { s with cm := { s.cm with told := s.cm.told.filter fun y => !(y.1 == e) } }
  match told with
  | some y => if y.2 then s.toFallback e else s.toRepeat e true
  | none => (s.setRun (e / 8) { s.run (e / 8) (e % 8) with rep := 0, good := true }).setNotify F.CM_LAYER_STATE e st

/-- A layer judged at a switch line (R186). A DIRECT layer has no store to hold or to lose. -/
def State.judgeLayer (s : State) (e : Nat) : State :=
  let w0 := s.word 0x3820 e 0
  let w1 := s.word 0x3820 e 1
  let w2 := s.word 0x3820 e 2
  let x := s.run (e / 8) (e % 8)
  let st := if x.done < x.frames then laRAMPING else laREADY
  if lClass w0 = lOFF then s
  else if lClass w0 != lHEART then s.setNotify F.CM_LAYER_STATE e st
  else if heartStored w0 w1 w2 then
    if !s.ownStores then s.judgeTold e st
    else if s.heartHeld e then (s.toRepeat e false).tellTwin
    else if s.heartReady w0 w1 w2 && !x.broken && !s.heartLost e then
      (s.setRun (e / 8) { x with rep := 0, good := true }).setNotify F.CM_LAYER_STATE e st
    else if x.good && !s.heartLost e && x.rep < F.CM_LAYER_REPEAT.of w0 then (s.toRepeat e true).tellTwin
    else (s.toFallback e).tellTwin
  else if s.heartReady w0 w1 w2 && !x.broken then s.setNotify F.CM_LAYER_STATE e st
  else s.toFallback e

/-- One frame of a layer's ramp (R184). -/
def State.rampLayer (s : State) (e : Nat) : State :=
  let x := s.run (e / 8) (e % 8)
  if lClass (s.word 0x3820 e 0) = lOFF then s
  else if x.done < x.frames then
    let j := x.done + 1
    let s := s.setFld F.CM_LAYER_OPACNOW e (x.opac j)
    let s := s.setRun (e / 8) { x with done := j }
    s
  else if x.offTo.isEmpty then s.setFld F.CM_LAYER_OPACNOW e x.opac1
  else s.layerOff e x.offTo

/-- A dynamic top note's sequence moves on (R164). -/
def State.ageLayer (s : State) (e : Nat) : State :=
  let x := s.run (e / 8) (e % 8)
  if lDynamic (s.word 0x3820 e 0) then s.setRun (e / 8) { x with age := x.age + 1 } else s

/-- A head's frame: ramps and sequences move on and layers are judged. -/
def State.headFrame (s : State) (h : Nat) : State :=
  let s := { s with cm := { s.cm with late := s.cm.late.filter (fun x => x.1 / 8 != h), redo := s.cm.redo.filter fun e => e / 8 != h } }
  (List.range 8).foldl (fun s n => ((s.rampLayer (h * 8 + n)).ageLayer (h * 8 + n)).judgeLayer (h * 8 + n)) s

/-- Accord tiles whose read missed their line: drawn transparent for this frame, and counted (R186, R188). -/
def State.lateTiles (s : State) (l : List (Nat × Nat × Nat)) : State :=
  let s := { s with cm := { s.cm with late := s.cm.late ++ l } }
  l.foldl (fun s x => s.bump F.CM_LAYER_LATETILES x.1 1) s

/-- The head attached to a destination. -/
def State.headOf (s : State) (p : Nat) : Option Nat :=
  (s.regs.find? fun x => x.1.ix == 0x3810 && x.1.w == 1 && hAttach x.2 && hDest x.2 == p).map (·.1.e)

/-! ### Publications and LOAD (R190, R192) -/

/-- A layer's source lost VALID or changed rate or scan, by the state before the publication. -/
def State.layerBroken (s before : State) (w0 : W) : Bool :=
  lClass w0 == lHEART &&
    (let p := F.CM_LAYER_SRC.of w0
     let o := before.port false p
     let n := s.port false p
     pValid o && (!pValid n || match format (pFormat o), format (pFormat n) with
       | some f, some g => !f.sameRate g || f.interlaced != g.interlaced
       | _, _ => true))

/-- What a publication does to the layers of a head; how many it affected. A DEST that has lost VALID parks at once (DESIGN CHOICE, log 159: it
has no switch line any more). -/
def State.publishHead (s before : State) (h : Nat) : State × Nat :=
  let gone := s.attached h && pValid (before.port true (s.fld F.CM_HEAD_DEST h)) && !pValid (s.port true (s.fld F.CM_HEAD_DEST h))
  let p := s.fld F.CM_HEAD_DEST h
  let s := if gone then s.setDest p { s.dest p with live := srcPARK, park := false } else s
  (List.range 8).foldl (fun (a : State × Nat) n =>
    let e := h * 8 + n
    let w0 := a.1.word 0x3820 e 0
    if lClass w0 = lOFF then a
    else if gone then (a.1.layerOff e [F.CM_LAYER_CLASS.put w0 0, a.1.word 0x3820 e 1, a.1.word 0x3820 e 2], a.2 + 1)
    else if a.1.layerBroken before w0 then (a.1.setRun h { a.1.run h n with broken := true }, a.2 + 1)
    else a) (s, 0)

/-- What a publication does to composition (R190). One that affects no layer writes no record (DESIGN CHOICE, log 184: the rule says one record
per publication). -/
def State.cmPublish (s before : State) : State :=
  if !s.caps.comp then s
  else
    let r := (List.range (s.dies * 32)).foldl (fun (a : State × Nat) h =>
      let x := a.1.publishHead before h
      (x.1, a.2 + x.2)) (s, 0)
    let s := (List.range s.dies).foldl (fun s d => s.checkBudget d) r.1
    if r.2 = 0 then s else s.note 0x3802 r.2 0 0

/-- LOAD turns every live layer OFF (R192): the NOTIFY of each change of STATE (R188), ahead of the wipe. -/
def State.layersGone (s : State) : State :=
  let on := (s.regs.filter fun x => x.1.ix == 0x3820 && x.1.w == 3 && F.CM_LAYER_STATE.of x.2 != 0).map (·.1.e)
  on.foldl (fun (s : State) e => s.notify 0x3820 e) s

/-- LOAD turns every live layer OFF, empties the accord and clears VALID on every image; live and shadow head words are the saved
ones (R192). -/
def State.cmLoad (s : State) : State :=
  let off := fun (k : Key) => k.ix == 0x3820 || (k.ix == 0x3830 && k.w == 0)
  let heads := fun (k : Key) => k.ix == 0x3810 && k.w == 1
  let s := { s with regs := s.regs.filter fun x => !off x.1, cm := ⟨[], [], [], [], [], []⟩ }
  { s with regs := takeOver heads s.regs s.shadow }

end Sys2Proof.Machine
end

