-- ==== Sys2Proof/Machine/Takes.lean ====
section
/-! DEFINITION. Takes, audio changes and head commits in progress (chapter 3, R126–R128, R181–R185): how each is checked, timed,
held, cancelled and ended; salvos; what an isolated die loses. -/
namespace Sys2Proof.Machine

/-! ### Statuses beside those of a refusal (R74) -/

def tsSTAGED : Nat := 1
def tsPENDING : Nat := 2
def tsHELD : Nat := 3
def tsDONE : Nat := 0x10
def tsLATE : Nat := 0x11
def tsSUPERSEDED : Nat := 0x28
def tsCANCELLED : Nat := 0x2A
def tsSALVO : Nat := 0x2B
def tsLOST : Nat := 0x30

/-! ### Salvo states (R84) -/

def saIDLE : Nat := 0
def saOPEN : Nat := 1
def saARMED : Nat := 2
def saHELD : Nat := 3
def saDONE : Nat := 4
def saFAILED : Nat := 5

def State.salvoState (s : State) (n : Nat) : Nat := s.fld F.XP_SALVO_STATE n

end Sys2Proof.Machine

namespace Sys2Proof

/-- The object, as `XP_REFUSED` names it (R79). -/
def MemberKind.obj : MemberKind → Nat
  | .take => 1 | .salvo => 2 | .audio => 3 | .head => 5

def MemberKind.num : MemberKind → Nat
  | .take => 0 | .audio => 1 | .head => 2 | .salvo => 3

/-- CULPRIT of a member (R84, R128, R185). -/
def Work.culprit (x : Work) : Nat :=
  match x.kind with | .take => x.elem % 65536 | .audio => 0xFFFE | _ => 0xFFFD

def Work.aref (x : Work) : Nat := Machine.Fld.of Machine.F.AU_DST_AREF x.w0

/-- The line of a work's landing, counted from line 1 of frame 0. -/
def Work.line (x : Work) (f : Machine.Format) : Nat := f.switchLine x.field x.land

/-- Two works switch the same thing (R76, R127). -/
def Work.meets (x y : Work) : Bool :=
  x.kind == y.kind && if x.isTake then x.targets.any fun p => y.hits p else x.elem == y.elem

/-- The die to which an element belongs. -/
def MemberKind.die (k : MemberKind) (e : Nat) : Nat :=
  match k with | .take => e / 6144 | .audio => e / 8192 | _ => e / 32

end Sys2Proof

namespace Sys2Proof.Machine

/-! ### The list of work -/

def State.dropWork (s : State) (k : MemberKind) (e : Nat) : State :=
  { s with xp := { s.xp with work := s.xp.work.filter fun x => !(x.kind == k && x.elem == e) } }

def State.putWork (s : State) (x : Work) : State :=
  let s := s.dropWork x.kind x.elem
  { s with xp := { s.xp with work := s.xp.work ++ [x] } }

/-- Members in ascending element; of one element, takes, audio changes, head commits. -/
def insertWork (x : Work) : List Work → List Work
  | [] => [x]
  | y :: l => if x.elem < y.elem || (x.elem == y.elem && x.kind.num ≤ y.kind.num) then x :: y :: l else y :: insertWork x l

/-- The members of a salvo that are not final. -/
def State.members (s : State) (n : Nat) : List Work :=
  (s.xp.work.filter fun x => x.salvo == n).foldl (fun l x => insertWork x l) []

/-! ### Timing of a work -/

/-- The format that times a work: of the destination, of `AU_CTRL`, of the head's DEST (R66, R127, R183). -/
def State.workFormat (s : State) (sh : Bool) (k : MemberKind) (e : Nat) (w0 : W) : Nat :=
  match k with
  | .take => pFormat (s.portIn sh true (F.XP_TAKE_DEST.of w0))
  | .audio =>
    let v := s.auTarget e
    if auTType v = tEMB then pFormat (s.portIn sh true (auTPort v)) else s.fld F.AU_CTRL_TFMT (e / 8192)
  | _ => pFormat (s.portIn sh true (hDest (s.headConf e w0)))

/-- Two works land on one switch line: they have one timing format. -/
def sameLine (f : Format) (x y : Work) : Bool := x.fmt == y.fmt && x.line f == y.line f

/-! ### Outcomes (R73, R122, R181) -/

/-- Word 2 of a work's element: the status, the context, the count (and the margin). -/
def State.setOutcome (s : State) (x : Work) (st n : Nat) : State :=
  let s := match x.kind with
    | .take => s.setWord 0x2010 x.elem 2 (F.XP_TAKE_MARGIN.put (F.XP_TAKE_LANDED.put (F.XP_TAKE_CTX.put (F.XP_TAKE_STATUS.put 0 st)
        x.ctx) n) (unsigned 16 x.margin))
    | .audio => ((s.setFld F.AU_DST_STATUS x.elem st).setFld F.AU_DST_CTX x.elem x.ctx).setFld F.AU_DST_LANDED x.elem n
    | .head => ((s.setFld F.CM_HEAD_STATUS x.elem st).setFld F.CM_HEAD_CTX x.elem x.ctx).setFld F.CM_HEAD_LANDED x.elem n
    | .salvo => s
  if st < 16 then s
  else match x.kind with
    | .take => s.notify 0x2010 x.elem
    | .audio => s.notify 0x3020 x.elem
    | .head => s.notify 0x3810 x.elem
    | .salvo => s

/-- The outcome of a work for which no F+0 has been found: LANDED and MARGIN are left open. -/
def State.openOutcome (s : State) (x : Work) (st : Nat) : State :=
  let f := s.takeFree
  f.1.setOutcome { x with margin := signed 16 (f.2.toNat / 2 ^ 32) } st f.2.toNat

/-- `XP_QUEUE` counts a final status (R78). -/
def State.countTake (s : State) (x : Work) (st : Nat) : State :=
  if !x.isTake then s
  else if st = tsDONE then s.bump F.XP_QUEUE_DONE (x.elem / 6144) 1
  else if st = tsLATE then s.bump F.XP_QUEUE_LATE (x.elem / 6144) 1
  else s.bump F.XP_QUEUE_FAILED (x.elem / 6144) 1

/-! ### Breakaway reservations of takes (R125) -/

def State.setMaker (s : State) (p : Nat) (e : Option Nat) : State :=
  { s with au := { s.au with makers := (e.toList.map fun e => (p, e)) ++ s.au.makers.filter fun x => !(x.1 == p) } }

/-- A reservation given back, with its maker. -/
def State.unreserve (s : State) (p : Nat) : State := (s.setMaker p none).releaseAudio p

/-- The channels for a take with AFOLLOW clear reserved at its acceptance; none: too few are free (R92). -/
def State.reserveFor (s : State) (sh : Bool) (x : Work) : Option State :=
  if x.afollow then some s
  else
    let had := (s.reservedFor x.dest).isSome
    match s.reserveAudio x.dest (pDie (s.portIn sh true x.dest)) (channelsOf (s.portIn sh true x.dest)) with
    | none => none
    | some s => some (if had || (s.reservedFor x.dest).isNone then s else s.setMaker x.dest (some x.elem))

/-- A take that has ended without landing gives its reservation up. DESIGN CHOICE (log 151): where another take with AFOLLOW clear stands
on the same destination, the reservation stays and that take becomes its maker. -/
def State.unmake (s : State) (x : Work) : State :=
  if x.isTake && !x.afollow && s.au.makers.any (fun m => m.1 == x.dest && m.2 == x.elem) then
    match s.xp.work.find? fun y => y.isTake && !y.afollow && y.dest == x.dest with
    | some y => s.setMaker x.dest (some y.elem)
    | none => s.unreserve x.dest
  else s

/-- A reservation brought to the destination's published ACH (R90); none: too few channels are free. -/
def State.resizeAudio (s : State) (p : Nat) : Option State :=
  let n := channelsOf (s.port true p)
  match s.reservedFor p with
  | none => s.reserveAudio p (pDie (s.port true p)) n
  | some l => if l.length = n && l.all (fun e => e / 8192 == pDie (s.port true p)) then some s
    else (s.releaseAudio p).reserveAudio p (pDie (s.port true p)) n

/-! ### The end of a work -/

/-- A work ends with a final status, on the count given (R74). -/
def State.finishAs (s : State) (x : Work) (st : Nat) (out : State → State) : State :=
  let s := out (s.dropWork x.kind x.elem)
  let s := s.countTake x st
  let s := if x.kind == .head then
      let s := if st < 0x20 then s else s.dropImages x.elem
      if s.fld F.CM_HEAD_FLAT x.elem = 3 then s else s.setFld F.CM_HEAD_FLAT x.elem 0
    else s
  let s := if st < 0x20 then s else s.unmake x
  if x.isTake && st == Status.rebuild.code then s.raise 0x2002 (x.elem / 6144) x.elem x.dest x.due
  else if x.isTake && st == tsLOST then s.raise 0x2003 (x.elem / 6144) x.elem x.dest x.due
  else s

def State.finish (s : State) (x : Work) (st n : Nat) : State := s.finishAs x st fun s => s.setOutcome x st n

/-- The end of a work that has not landed: a STAGED one has no F+0 yet. -/
def State.fail (s : State) (x : Work) (st : Nat) : State :=
  if x.state = tsSTAGED then s.finishAs x st fun s => s.openOutcome x st else s.finish x st x.due

/-! ### Checks (R75, R126, R182) -/

/-- A rebuild is being edited for, runs or is about to publish (R88). -/
def State.rebuilding (s : State) : Bool :=
  s.calState == calEDITING || s.calState == calREBUILDING || s.calState == calREADY

def State.edited (s : State) (dst : Bool) (p : Nat) : Bool := s.port dst p != s.portShadow dst p

/-- A work needs tables that are being rebuilt (R88). -/
def State.workNeeds (s : State) (k : MemberKind) (e : Nat) (w0 : W) : Bool :=
  s.rebuilding &&
    match k with
    | .take =>
      let p := F.XP_TAKE_DEST.of w0
      let q := F.XP_TAKE_SRC.of w0
      let n := if F.XP_TAKE_GANG.of w0 = 1 then 4 else 1
      (List.range n).any fun i => s.edited true (p + i) || (q < 0x3000 && s.edited false (q + i))
    | .audio =>
      let r := F.AU_DST_AREF.of w0
      let v := s.auTarget e
      (refType r == rEMB && refPort r < 0x3000 && s.edited false (refPort r)) || (refType r == rFOLLOW && s.edited true (refPort r))
        || (auTType v == tEMB && s.edited true (auTPort v))
    | _ =>
      s.edited true (hDest (s.headConf e w0))
        || (headOn (s.headLayers e w0) e).any fun x => lClass x.1 == lHEART && s.edited false (F.CM_LAYER_SRC.of x.1)

/-- Check 5 of R75: PORT, DIE, GANG, FORMAT, FIELD. -/
def State.takeCheck (s : State) (sh : Bool) (e : Nat) (w0 : W) (field : Bool) : Option Status :=
  let p := F.XP_TAKE_DEST.of w0
  let q := F.XP_TAKE_SRC.of w0
  let d := s.portIn sh true p
  let v := s.portIn sh false q
  let isPort := q < 0x3000
  let gang := F.XP_TAKE_GANG.of w0 == 1
  if !pValid d || (isPort && !pValid v) || (q == srcFEED && s.sys.role == CORE) then some .port
  else if pDie d != e / 6144 then some .die
  else if (if gang then p % 4 != 0 || !pGang d || (isPort && (q % 4 != 0 || !pGang v)) else pGang d || (isPort && pGang v)) then
    some .gang
  else if isPort && (pFormat d != pFormat v || (gang && pDiv d != pDiv v)) then some .format
  else if field && !(match format (pFormat d) with | some f => f.interlaced | none => false) then some .field
  else none

/-- Check 5 of R126. -/
def State.audioCheck (s : State) (sh : Bool) (e : Nat) (w0 : W) : Option Status :=
  let r := F.AU_DST_AREF.of w0
  let v := s.auTarget e
  let bad :=
    auTType v == 0
      || (auTType v == tEMB && !pValid (s.portIn sh true (auTPort v)))
      || (refType r == rEMB && channelsOf (s.portIn sh false (refPort r)) ≤ refIndex r)
      || (refType r == rFOLLOW && channelsOf (s.portIn sh true (refPort r)) ≤ refIndex r)
      || (refType r == rCHAN && s.fld F.AU_SRC_VALID (refIndex r) == 0)
  if bad then some .port else none

/-- The accord images of a head's commit. -/
def State.ownImages (s : State) (h : Nat) : List AccordImg := s.cm.accord.filter fun x => x.head == h && !x.live

/-- Order 9 of R182 asked again, with the commit's images made. -/
def State.headShortNow (s : State) (sh : Bool) (h : Nat) (w0 : W) : Bool :=
  (s.dropImages h).headShort sh h w0 (s.ownImages h)

/-- The checks of a work asked again against the published entries (R90, R85). -/
def State.recheck (s : State) (sh : Bool) (x : Work) : Option Status :=
  match x.kind with
  | .take => s.takeCheck sh x.elem x.w0 (x.field && x.salvo == 0)
  | .audio => s.audioCheck sh x.elem x.w0
  | .head =>
    match s.headCheck sh x.elem x.w0 with
    | some st => some st
    | none => if s.headShortNow sh x.elem x.w0 then some .capacity else none
  | .salvo => none

/-! ### Placing (R76, R80) -/

def State.setSalvo (s : State) (x : Salvo) : State :=
  { s with xp := { s.xp with salvos := x :: s.xp.salvos.filter fun y => !(y.n == x.n) } }

def State.salvo (s : State) (n : Nat) : Salvo := (s.xp.salvos.find? fun x => x.n == n).getD ⟨n, 0, false, none, 0⟩

/-- Another work is PENDING for the same thing on the same line. -/
def rivals (x y : Work) (f : Format) : Bool :=
  y.state == tsPENDING && !(y.kind == x.kind && y.elem == x.elem) && x.meets y && sameLine f x y

/-- Single works that `x`, accepted as `order`, meets end: those accepted before it SUPERSEDED; a later one, where `x` belongs to an
armed salvo, CONFLICT. -/
def State.supersede (s : State) (x : Work) (order : Nat) (f : Format) : State :=
  (s.xp.work.filter fun y => y.salvo == 0 && rivals x y f).foldl (fun s y =>
    s.fail y (if y.order < order then tsSUPERSEDED else Status.conflict.code)) s

/-- A take of another armed salvo stands on the same destination and line. -/
def State.armedMeets (s : State) (x : Work) (f : Format) : Option Work :=
  s.xp.work.find? fun y => y.salvo != 0 && y.salvo != x.salvo && rivals x y f

/-- A single work placed for its landing (R76): of two on one line the later accepted stays; a take of an armed salvo, accepted as its
ARM, always does. -/
def State.place (s : State) (x : Work) (f : Format) : State :=
  match s.armedMeets x f with
  | some y => s.finish x (if x.order < (s.salvo y.salvo).order then tsSUPERSEDED else Status.conflict.code) x.due
  | none =>
    if s.xp.work.any fun y => y.salvo == 0 && rivals x y f && x.order < y.order then s.finish x tsSUPERSEDED x.due
    else ((s.supersede x x.order f).putWork { x with state := tsPENDING }).setOutcome x tsPENDING x.due

/-- The instant on H by which a publication must come (R90): the switch line of F+k less the lead. -/
def State.holdUntil (s : State) (x : Work) (f : Format) : Nat :=
  f.lineStart (f.switchLine x.field (x.due + s.fld F.XP_REBUILD_WAIT_FRAMES 0) - 2)

/-- A single work accepted: held, or judged by its when-clause (R68). -/
def State.acceptSingle (s : State) (x : Work) (c : When) (held : Bool) : State :=
  match format x.fmt with
  | none => s
  | some f =>
    let t := s.house
    let due := c.due f x.field t
    let x := { x with due := due, land := due, margin := f.margin x.field due t }
    if held then
      let x := { x with state := tsHELD, deadline := s.holdUntil x f }
      (s.putWork x).setOutcome x tsHELD due
    else
      match f.judge x.field due t with
      | .onTime => s.place x f
      | .late => s.place { x with land := due + 1 } f
      | .expired => s.finish x Status.expired.code due

/-- The acceptance order of the next work (R76). -/
def State.nextOrder (s : State) : State × Nat := ({ s with xp := { s.xp with order := s.xp.order + 1 } }, s.xp.order)

/-! ### Staging (R83) -/

def State.dropSalvo (s : State) (n : Nat) : State :=
  { s with xp := { s.xp with salvos := s.xp.salvos.filter fun y => !(y.n == n) } }

/-- A work joins its salvo: the first one opens it and makes its context the owner. -/
def State.stage (s : State) (n ctx : Nat) : State :=
  let open_ := s.salvoState n == saOPEN
  let s := if open_ then s
    else s.setWord 0x2020 n 2 (F.XP_SALVO_CULPRIT.put (F.XP_SALVO_OWNER.put (F.XP_SALVO_STATE.put 0 saOPEN) ctx) 0xFFFF)
  let s := (s.bump F.XP_SALVO_STAGED n 1).setSalvo ⟨n, s.now, false, none, 0⟩
  if open_ then s else s.notify 0x2020 n

/-- Check 6 of R75: the owner, then the state. -/
def State.salvoBars (s : State) (n ctx : Nat) : Option Status :=
  let st := s.salvoState n
  if n = 0 ∨ st = saIDLE ∨ st = saDONE ∨ st = saFAILED then none
  else if s.fld F.XP_SALVO_OWNER n != ctx then some .owner
  else if st = saOPEN then none
  else some .busy

/-- A work accepted into its salvo. -/
def State.acceptStaged (s : State) (x : Work) : State :=
  let x := { x with state := tsSTAGED }
  ((s.putWork x).stage x.salvo x.ctx).openOutcome x tsSTAGED

/-! ### Commits -/

/-- The words of an element as committed. -/
def State.storeCommit (s : State) (k : MemberKind) (e : Nat) (w0 w1 : W) : State :=
  match k with
  | .take => (s.setWord 0x2010 e 0 w0).setWord 0x2010 e 1 w1
  | .audio => s.setWord 0x3020 e 0 (F.AU_DST_OP.put w0 0)
  | .head => s.setWord 0x3810 e 0 (F.CM_HEAD_OP.put w0 0)
  | .salvo => (s.setWord 0x2020 e 0 w0).setWord 0x2020 e 1 w1

/-- A work from its committed words. -/
def mkWork (k : MemberKind) (e ctx salvo : Nat) (w0 w1 : W) (order : Nat) (field : Bool) (fmt : Nat) (needs : Bool) : Work :=
  ⟨k, e, 0, ctx, salvo, w0, w1, order, field, fmt, 0, 0, false, 0, needs, 0, false⟩

/-- A commit refused because its element or its salvo is busy: nothing changes but `XP_REFUSED`. -/
def State.busyCommit (s : State) (k : MemberKind) (e ctx : Nat) : Status × State := (.busy, s.refuse ctx k.obj e .busy)

/-- A failure written into word 2. -/
def State.failCommit (s : State) (x : Work) (st : Status) : Status × State :=
  (st, (s.finishAs x st.code fun s => s.openOutcome x st.code).tellTwin)

/-- Takes are admitted in STANDBY and ACTIVE (R31). -/
def State.admits (s : State) : Bool := s.mode == STANDBY || s.mode == ACTIVE

/-- A commit as it stands after its own check: `pre` are the checks ahead of the salvo's, `post` those after it, which leave the
state to go on from; `held` as R88 and R182 have it. -/
def State.commitWork (s : State) (k : MemberKind) (e ctx salvo : Nat) (w0 w1 : W) (field : Bool) (c : When) (held : Bool)
    (pre : State → Option Status) (post : State → Work → Except Status State) : Status × State :=
  if (s.workOn k e).isSome then s.busyCommit k e ctx
  else
    let needs := s.workNeeds k e w0
    let o := s.nextOrder
    let x := mkWork k e ctx salvo w0 w1 o.2 field (s.workFormat needs k e w0) needs
    if !s.admits then (o.1.storeCommit k e w0 w1).failCommit x .mode
    else match pre s with
      | some st => (o.1.storeCommit k e w0 w1).failCommit x st
      | none =>
        match s.salvoBars salvo ctx with
        | some .busy => s.busyCommit k e ctx
        | some st => (o.1.storeCommit k e w0 w1).failCommit x st
        | none =>
          let s := o.1.storeCommit k e w0 w1
          match post s x with
          | .error st => s.failCommit x st
          | .ok s => (.ok, (if salvo = 0 then s.acceptSingle x c (needs || held) else s.acceptStaged x).tellTwin)

/-! #### Takes (R70–R75) -/

/-- Word 0 in range, DEST apart (R75 check 1). -/
def takeWordOk (s : State) (w0 : W) : Bool :=
  let q := F.XP_TAKE_SRC.of w0
  (q < s.caps.ports || q == srcFEED || q == srcPARK) && F.XP_TAKE_RESERVED.of w0 == 0
    && (F.XP_TAKE_SALVO.of w0 != 0 || F.XP_TAKE_WHEN.of w0 < 3)

/-- The when-value of a PTP clause in range (R72). -/
def whenOk (kind : Nat) (w1 : W) : Bool := kind != 2 || F.XP_TAKE_WHEN_LO.of w1 < 1000000000

def takeWhen (w0 w1 : W) : When := ⟨F.XP_TAKE_WHEN.of w0, F.XP_TAKE_WHEN_HI.of w1, F.XP_TAKE_WHEN_LO.of w1⟩

def whenNEXT : When := ⟨0, 0, 0⟩

/-- Checks 3 to 9 of R75. -/
def State.takeCommit (s : State) (ctx e : Nat) (w0 w1 : W) : Status × State :=
  let salvo := F.XP_TAKE_SALVO.of w0
  let field := F.XP_TAKE_FIELD.of w0 == 1 && salvo == 0
  let needs := s.workNeeds .take e w0
  s.commitWork .take e ctx salvo w0 w1 field (takeWhen w0 w1) false
    (fun s => s.takeCheck needs e w0 field)
    (fun s x => match s.reserveFor needs x with | some s => .ok s | none => .error .audio)

/-! #### Audio changes (R120, R126) -/

/-- AREF in range for its TYPE (R119). NONE with PORT or INDEX not 0 is out of range (DESIGN CHOICE, log 150: the rule gives INDEX no meaning
there). -/
def arefOk (s : State) (r : Nat) : Bool :=
  match refType r with
  | 0 => refPort r == 0 && refIndex r == 0
  | 1 => refPort r == 0 && refIndex r < s.dies * 8192
  | _ => refPort r < s.caps.ports && refIndex r < 32

/-- Checks 3 to 8 of R126. -/
def State.audioCommit (s : State) (ctx e : Nat) (w0 : W) : Status × State :=
  if s.auAuto e then s.busyCommit .audio e ctx
  else
    let needs := s.workNeeds .audio e w0
    s.commitWork .audio e ctx (F.AU_DST_SALVO.of w0) w0 0 false whenNEXT false
      (fun s => s.audioCheck needs e w0) (fun s _ => .ok s)

/-! #### Head commits (R181, R182) -/

/-- Checks 3 to 11 of R182. -/
def State.headCommit (s : State) (ctx h : Nat) (w0 : W) : Status × State :=
  let needs := s.workNeeds .head h w0
  let imgs := s.commitImages needs h w0
  s.commitWork .head h ctx (F.CM_HEAD_SALVO.of w0) w0 0 false whenNEXT (!imgs.isEmpty)
    (fun s => s.headCheck needs h w0)
    (fun s _ =>
      if s.headShort needs h w0 imgs then .error .capacity
      else .ok (({ s with cm := { s.cm with accord := s.cm.accord ++ imgs, twinReady := s.cm.twinReady.filter (· != h) } }).setFld
        F.CM_HEAD_FLAT h (if imgs.isEmpty then 0 else 1)))

/-! ### Cancel (R77, R127, R183) -/

def State.refuseWork (s : State) (k : MemberKind) (e ctx : Nat) (st : Status) : Status × State :=
  (st, s.refuse ctx k.obj e st)

/-- A STAGED work leaves its salvo. -/
def State.unstage (s : State) (n : Nat) : State := s.setFld F.XP_SALVO_STAGED n (s.fld F.XP_SALVO_STAGED n - 1)

/-- A CANCEL beyond checks 1 and 2. -/
def State.cancelWork (s : State) (k : MemberKind) (e ctx : Nat) : Status × State :=
  match s.workOn k e with
  | none => s.refuseWork k e ctx .busy
  | some x =>
    let gone := fun (s : State) => (Status.ok, ((s.fail x tsCANCELLED).tellTwin : State))
    if x.state = tsSTAGED then
      if s.fld F.XP_SALVO_OWNER x.salvo != ctx then s.refuseWork k e ctx .owner else gone (s.unstage x.salvo)
    else if x.salvo != 0 then s.refuseWork k e ctx .conflict
    else if x.state = tsHELD then gone s
    else if (match format x.fmt with | some f => f.inTime x.field x.land s.house | none => true) && !x.jumped then gone s
    else s.refuseWork k e ctx .late

/-! ### Salvos (R85, R86, R90) -/

/-- A salvo's when-clause. -/
def salvoWhen (w0 w1 : W) : When := ⟨F.XP_SALVO_WHEN.of w0, F.XP_TAKE_WHEN_HI.of w1, F.XP_TAKE_WHEN_LO.of w1⟩

/-- A salvo reads a final state. -/
def State.endSalvo (s : State) (n st result culprit : Nat) : State :=
  let s := ((s.setFld F.XP_SALVO_STATE n st).setFld F.XP_SALVO_RESULT n result).setFld F.XP_SALVO_CULPRIT n culprit
  let s := (s.dropSalvo n).notify 0x2020 n
  if st = saFAILED then s.note 0x2001 n result culprit else s

/-- A salvo fails as a whole: the members that `own` names carry their own status, the others `rest`. -/
def State.failSalvo (s : State) (n result : Nat) (own : Work → Option Nat) (rest : Nat) : State :=
  let l := s.members n
  let culprit := match l.find? fun x => (own x).isSome with | some x => x.culprit | none => 0xFFFF
  let s := l.foldl (fun s x => s.fail x ((own x).getD rest)) s
  s.endSalvo n saFAILED result culprit

/-- A salvo fails on one member. -/
def State.failOn (s : State) (n : Nat) (y : Work) (st : Nat) : State :=
  s.failSalvo n st (fun x => if x.kind == y.kind && x.elem == y.elem then some st else none) tsSALVO

/-- A member of an armed salvo has landed or failed; the last one ends the salvo (R86). -/
def State.memberEnded (s : State) (n : Nat) (late : Bool) (bad : Option (Nat × Nat)) : State :=
  if n = 0 then s
  else
    let y := s.salvo n
    let s := if bad.isNone then s.bump F.XP_SALVO_LANDED n 1 else s
    let y := { y with late := y.late || late, fail := y.fail.orElse fun _ => bad }
    let s := s.setSalvo y
    if !(s.members n).isEmpty then
      match bad with
      | some b => if y.fail == some b && s.fld F.XP_SALVO_CULPRIT n == 0xFFFF then s.setFld F.XP_SALVO_CULPRIT n b.2 else s
      | none => s
    else match y.fail with
      | some b => s.endSalvo n saFAILED b.1 b.2
      | none => s.endSalvo n saDONE (if y.late then tsLATE else tsDONE) 0xFFFF

/-- The later-staged of the first two takes that switch one destination. -/
def doubled : List Work → List Work → Option Work
  | [], _ => none
  | x :: l, seen => if x.isTake && seen.any (fun y => x.meets y) then some x else doubled l (x :: seen)

/-- Works in the order of their staging. -/
def byOrder (l : List Work) : List Work :=
  l.foldl (fun a x =>
    a.takeWhile (fun y => y.order < x.order) ++ [x] ++ a.dropWhile (fun y => y.order < x.order)) []

/-- Flattening still runs for a head's commit, or its twin has not reported FLAT READY (R183, R191). -/
def State.flatWaits (s : State) (x : Work) : Bool :=
  x.kind == .head && (s.fld F.CM_HEAD_FLAT x.elem == 1
    || (s.fld F.CM_HEAD_FLAT x.elem == 2 && s.mirrors && !s.cm.twinReady.contains x.elem))

/-- FIELD suits a member: no head, and an interlaced format (R85, R128, R185). -/
def fieldSuits (x : Work) : Bool :=
  x.kind != .head && match format x.fmt with | some f => f.interlaced | none => false

/-- A member's F+0 for the salvo's clause at `t`. -/
def dueOf (c : When) (field : Bool) (t : Nat) (x : Work) : Work :=
  match format x.fmt with
  | some f =>
    let due := c.due f field t
    { x with field := field, due := due, land := due, margin := f.margin field due t }
  | none => x

def judgedAs (t : Nat) (j : Judged) (x : Work) : Bool :=
  match format x.fmt with | some f => f.judge x.field x.due t == j | none => false

/-- The first frame (or field) whose switch line is at least the lead after `t` (R90). -/
def Format.firstMet (f : Format) (field : Bool) (t : Nat) : Nat := f.countFrom field ((f.scale t + f.lineD - 1) / f.lineD + 2)

/-- Landing frames of a salvo: at its ARM, F+0, or F+1 for all; at a publication, the first that is still met. -/
def salvoLand (again late : Bool) (t : Nat) (x : Work) : Work :=
  match format x.fmt with
  | some f => { x with land := if again then max x.due (f.firstMet x.field t) else if late then x.due + 1 else x.due }
  | none => x

/-- The members of a salvo go (R85): single works on their lines are superseded. -/
def State.goSalvo (s : State) (n : Nat) (l : List Work) : State :=
  match l.find? fun x => match format x.fmt with | some f => (s.armedMeets x f).isSome | none => false with
  | some x => s.failOn n x Status.conflict.code
  | none =>
    let s := l.foldl (fun s x =>
      let s := match format x.fmt with | some f => s.supersede x (s.salvo n).order f | none => s
      (s.putWork { x with state := tsPENDING, needs := false }).setOutcome x tsPENDING x.due) s
    (s.setFld F.XP_SALVO_STATE n saARMED).notify 0x2020 n

/-- A work checked again (R85, R90); for a take with AFOLLOW clear, also its breakaway channels, where the ACH of its destination has
changed. -/
def State.recheckWork (s : State) (x : Work) : Except Status State :=
  match s.recheck false x with
  | some st => .error st
  | none =>
    if x.isTake && !x.afollow then (match s.resizeAudio x.dest with | some s => .ok s | none => .error .audio) else .ok s

/-- The members whose tables are not being rebuilt checked again in turn: the first that fails, with its status. -/
def State.recheckMembers (s : State) : List Work → Except (Work × Status) State
  | [] => .ok s
  | x :: l =>
    if x.needs then s.recheckMembers l
    else match s.recheckWork x with
      | .ok s => s.recheckMembers l
      | .error st => .error (x, st)

/-- The decision of R85 beyond its count, at the ARM or again at a publication (R90). DESIGN CHOICE (log 147): where RATE ends it,
every member carries RATE; where FIELD does, the members to which FIELD does not suit carry it, and the others SALVO. -/
def State.decideSalvo (s : State) (n : Nat) (again : Bool) : State :=
  let w0 := s.word 0x2020 n 0
  let c := salvoWhen w0 (s.word 0x2020 n 1)
  let field := F.XP_SALVO_FIELD.of w0 == 1
  let t := s.house
  let l := (s.members n).map fun x =>
    let needs := s.workNeeds x.kind x.elem x.w0
    { x with needs := needs, fmt := s.workFormat needs x.kind x.elem x.w0 }
  match s.recheckMembers l with
  | .error (x, st) => s.failOn n x st.code
  | .ok s =>
    match doubled (byOrder l) [] with
    | some x => s.failOn n x Status.conflict.code
    | none =>
      match l.find? fun x => (format x.fmt).isNone with
      | some x => s.failOn n x Status.port.code
      | none =>
        let rates := l.filterMap fun x => format x.fmt
        if c.kind == 1 && (match rates with | [] => false | f :: r => r.any fun g => !f.sameRate g) then
          s.failSalvo n Status.rate.code (fun _ => some Status.rate.code) tsSALVO
        else if field && l.any (fun x => !fieldSuits x) then
          let bad := l.filter fun x => !fieldSuits x
          s.failSalvo n Status.field.code (fun x => if bad.any fun y => y.kind == x.kind && y.elem == x.elem then
            some Status.field.code else none) tsSALVO
        else
          let l := if again then l else l.map fun x => dueOf c field t x
          if l.any fun x => x.needs || s.flatWaits x then
            let s := l.foldl (fun s x =>
              let x := { x with state := tsHELD, deadline := match format x.fmt with | some f => s.holdUntil x f | none => 0 }
              (s.putWork x).setOutcome x tsHELD x.due) s
            if s.salvoState n = saHELD then s else (s.setFld F.XP_SALVO_STATE n saHELD).notify 0x2020 n
          else
            let put := fun (s : State) => l.foldl (fun s x => s.putWork { x with state := tsHELD }) s
            if !again && l.any (fun x => judgedAs t .expired x) then
              (put s).failSalvo n Status.expired.code (fun _ => some Status.expired.code) tsSALVO
            else
              let late := l.any fun x => judgedAs t .late x
              (put s).goSalvo n (l.map fun x => salvoLand again late t x)

/-- An ARM beyond its own range checks (R84, R85). -/
def State.salvoArm (s : State) (ctx n : Nat) (w0 w1 : W) : Status × State :=
  let st := s.salvoState n
  if st != saIDLE && s.fld F.XP_SALVO_OWNER n != ctx then s.refuseWork .salvo n ctx .owner
  else if st != saOPEN then s.refuseWork .salvo n ctx .busy
  else
    let s := s.storeCommit .salvo n w0 w1
    let o := s.nextOrder
    let s := o.1.setSalvo { o.1.salvo n with order := o.2 }
    let s := if s.fld F.XP_SALVO_STAGED n != F.XP_SALVO_COUNT.of w0 then
        s.failSalvo n Status.count.code (fun _ => none) tsSALVO
      else s.decideSalvo n false
    (.ok, s.tellTwin)

/-- A DISCARD (R84, R87). -/
def State.salvoDiscard (s : State) (ctx n : Nat) : Status × State :=
  let st := s.salvoState n
  if st != saIDLE && s.fld F.XP_SALVO_OWNER n != ctx then s.refuseWork .salvo n ctx .owner
  else if !(st == saOPEN || st == saARMED || st == saHELD) then s.refuseWork .salvo n ctx .busy
  else if st == saARMED && (s.fld F.XP_SALVO_LANDED n != 0 || (s.members n).any fun x =>
      x.jumped || !(match format x.fmt with | some f => f.inTime x.field x.land s.house | none => true)) then
    s.refuseWork .salvo n ctx .late
  else (.ok, (s.failSalvo n tsCANCELLED (fun _ => none) tsCANCELLED).tellTwin)

/-- A held salvo ends REBUILD: the members that needed the rebuild carry it (R90). -/
def State.salvoRebuild (s : State) (n : Nat) : State :=
  let waits := (s.members n).filter fun x => x.needs || s.flatWaits x
  s.failSalvo n Status.rebuild.code (fun x => if waits.any fun y => y.kind == x.kind && y.elem == x.elem then
    some Status.rebuild.code else none) tsSALVO

/-- Salvos that read a state. -/
def State.salvosIn (s : State) (st : Nat) : List Nat := (s.xp.salvos.map (·.n)).filter fun n => s.salvoState n == st

/-- The open salvos of a context whose session closes (R83). -/
def State.closeSalvos (s : State) (ctx : Nat) : State :=
  ((s.salvosIn saOPEN).filter fun n => s.fld F.XP_SALVO_OWNER n == ctx).foldl (fun s n =>
    (s.failSalvo n tsCANCELLED (fun _ => none) tsCANCELLED).tellTwin) s

/-! ### Held work at a publication (R90) -/

/-- A single held work whose tables are published is checked again and placed; `after`: at the instant `t` on H. -/
def State.releaseHeld (s : State) (x : Work) : State :=
  let t := s.house
  let x := { x with fmt := s.workFormat false x.kind x.elem x.w0 }
  if x.deadline < t then s.finish x Status.rebuild.code x.due
  else match s.recheckWork x, format x.fmt with
    | .error st, _ => s.finish x st.code x.due
    | .ok _, none => s.finish x Status.port.code x.due
    | .ok s, some f => s.place { x with land := max x.due (f.firstMet x.field t), needs := false } f

/-- A held work's wait is over: its entries are published, its images flattened. -/
def State.waitOver (s : State) (x : Work) : Bool := !(s.rebuilding && s.workNeeds x.kind x.elem x.w0) && !s.flatWaits x

/-- The accord images of a head commit that waited for a publication are made again where the published raster gives others (R175). -/
def State.remakeImages (s : State) (x : Work) : State :=
  let old := s.ownImages x.elem
  let new := (s.dropImages x.elem).commitImages false x.elem x.w0
  if old = new then s
  else
    let s := s.dropImages x.elem
    ({ s with cm := { s.cm with accord := s.cm.accord ++ new, twinReady := s.cm.twinReady.filter (· != x.elem) } }).setFld F.CM_HEAD_FLAT
      x.elem (if new.isEmpty then 0 else 1)

/-- Held work and held salvos whose wait is over go on; only a part that decides does so. -/
def State.releaseAll (s : State) : State :=
  if !s.decides then s
  else
    let l := s.xp.work.filter fun x => x.state == tsHELD && x.salvo == 0 && s.waitOver x
    let s := l.foldl (fun s x => (s.releaseHeld x).tellTwin) s
    (s.salvosIn saHELD).foldl (fun s n =>
      if (s.members n).all fun x => s.waitOver x then
        if (s.members n).any fun x => x.deadline < s.house then (s.salvoRebuild n).tellTwin else (s.decideSalvo n true).tellTwin
      else s) s

/-- A PENDING work checked again at a publication (R90). DESIGN CHOICE (log 174): of an ARMED salvo a member that fails so ends with its own
status, the others land, and the salvo then ends FAILED with that status. -/
def State.recheckPending (s : State) (x : Work) : State :=
  match s.recheckWork x with
  | .error st => ((s.finish x st.code x.due).memberEnded x.salvo false (some (st.code, x.culprit))).tellTwin
  | .ok s => s.putWork { x with fmt := s.workFormat false x.kind x.elem x.w0 }

/-- Work that waits for a rebuild which has failed or was abandoned ends REBUILD (R90). -/
def State.rebuildGone (s : State) : State :=
  if !s.decides then s
  else
    let s := (s.xp.work.filter fun x => x.state == tsHELD && x.salvo == 0 && x.needs).foldl
      (fun s x => (s.finish x Status.rebuild.code x.due).tellTwin) s
    ((s.salvosIn saHELD).filter fun n => (s.members n).any (·.needs)).foldl (fun s n => (s.salvoRebuild n).tellTwin) s

/-! ### Modes and isolated dies (R86, R94) -/

/-- On entry to SAFE, LOAD, HOLD or SERVICE everything in progress ends MODE (R94, R129, R192). -/
def State.endAllWork (s : State) : State :=
  let m := Status.mode.code
  let s := ((s.xp.salvos.map (·.n)).filter fun n => let st := s.salvoState n; st == saOPEN || st == saARMED || st == saHELD).foldl
    (fun s n => s.failSalvo n m (fun _ => some m) m) s
  s.xp.work.foldl (fun s x => s.fail x m) s

/-- A salvo of which a member stands on an isolated die (R86). -/
def State.salvoLost (s : State) (n : Nat) (d : Nat) : State :=
  let on := fun (x : Work) => x.kind.die x.elem == d
  if s.salvoState n = saARMED then
    ((s.members n).filter on).foldl (fun s x =>
      (s.finish x tsLOST x.due).memberEnded n false (some (tsLOST, x.culprit))) s
  else s.failSalvo n tsLOST (fun x => if on x then some tsLOST else none) tsSALVO

/-- Work of isolated dies ends LOST (R74, R86), and their sources enter LOST (R393). -/
def State.settleIsolated (s : State) : State :=
  s.sys.isolated.foldl (fun s d =>
    let on := fun (x : Work) => x.kind.die x.elem == d
    let s := (s.dieSources d).foldl (fun (s : State) x => if s.alState x.1 = alLOST then s else s.sourceLost x.1) s
    if !s.xp.work.any on then s
    else
      let ns := (s.xp.salvos.map (·.n)).filter fun n => (s.members n).any on
      let s := ns.foldl (fun s n => s.salvoLost n d) s
      (s.xp.work.filter fun x => on x && x.salvo == 0).foldl (fun s x => s.finish x tsLOST x.due) s) s

/-- The outcome of a command: its next state, with what isolated dies held ended. -/
def done (s : State) : Host.Outcome State Fault Refusal := .next s.settleIsolated

end Sys2Proof.Machine
end

