-- ==== Sys2Proof/Machine/Transport.lean ====
section
/-! DEFINITION. Port transports (R233–R235): what a transport names, whether it can run, the groups a MAC joins (R242), and a
publication's effect on `MX_PORT_STAT`. -/
namespace Sys2Proof.Machine

/-- LINK (R249). -/
def lkUNUSED : Nat := 0
def lkNOSIGNAL : Nat := 1
def lkLOCKED : Nat := 2
def lkFORMAT : Nat := 3
def lkNOTRANSPORT : Nat := 4

def xportIx (dst : Bool) : Nat := if dst then 0x4820 else 0x4818

/-- A word of a port's transport in a table. -/
def xportIn (t : Table) (dst : Bool) (p w : Nat) : W := tget dflt t ⟨xportIx dst, p, w⟩

def State.xport (s : State) (dst : Bool) (p w : Nat) : W := xportIn s.regs dst p w

def xType (v : W) : Nat := F.MX_XPORT_TYPE.of v
def xSDI : Nat := 1
def xST2110 : Nat := 2

/-- A port uses its transport (R233). -/
def xportUsed (role : Nat) (v : W) : Bool := pValid v && (role != CORE || pLocal v)

/-- The MACs of a transport word on a die: path A, and path B with DUAL. -/
def xMacs (d : Nat) (v : W) : List Nat :=
  (d * 16 + F.MX_XPORT_MACA.of v) :: (if F.MX_XPORT_DUAL.of v = 1 then [d * 16 + F.MX_XPORT_MACB.of v] else [])

/-- Formats that SDI carries (R235). -/
def sdiCarries (fmt : Nat) : Bool := 0x10 ≤ fmt && fmt ≤ 0x42 && (format fmt).isSome

/-- A transport that cannot run (R234). A port whose video flow is not enabled, or whose audio flow is enabled with ACH 0, has no transport that
R233 allows (DEDUCED, log 76). -/
def State.xportFails (s : State) (dst : Bool) (p : Nat) : Bool :=
  let v := s.port dst p
  let x := s.xport dst p 0
  if xType x = xSDI then s.fld F.LK_LANE_MODE (laneElem (!dst) (pDie v) (F.MX_XPORT_LANE.of x)) != 3 || !sdiCarries (pFormat v)
  else if xType x = xST2110 then ((xMacs (pDie v) x).any fun m => !s.macOn m)
    || F.MX_XPORT_FEN.of (s.xport dst p 1) == 0 || (F.MX_XPORT_FEN.of (s.xport dst p 3) == 1 && pAch v == 0)
  else false

/-! ### Multicast groups (R242) -/

def isMulticast (group : Nat) : Bool := group / 2 ^ 28 == 14

/-- The groups of a flow word. -/
def flowGroup (v : W) : List Nat :=
  if F.MX_XPORT_FEN.of v = 1 ∧ isMulticast (F.MX_XPORT_GROUP.of v) then [F.MX_XPORT_GROUP.of v] else []

/-- An audio flow's MACs. -/
def aMacs (d : Nat) (v : W) : List Nat :=
  (d * 16 + F.MX_AFLOW_MACA.of v) :: (if F.MX_AFLOW_DUAL.of v = 1 then [d * 16 + F.MX_AFLOW_MACB.of v] else [])

/-- The groups that MAC `m` joins for the source ports of a table. -/
def portGroups (role : Nat) (t : Table) (m : Nat) : List Nat :=
  (validPorts t false).flatMap fun x =>
    let w := xportIn t false x.1 0
    if xportUsed role x.2 && xType w == xST2110 && (xMacs (pDie x.2) w).contains m then
      [1, 2, 3].flatMap fun k => flowGroup (xportIn t false x.1 k)
    else []

/-- The groups that MAC `m` joins for crosspoint receive flows. -/
def flowGroups (t : Table) (m : Nat) : List Nat :=
  (entriesOf t 0x4828).flatMap fun x =>
    if (aMacs (x.1 / 128) (tget dflt t ⟨0x4828, x.1, 1⟩)).contains m then flowGroup x.2 else []

/-- Groups joined on a MAC, by the port tables and transports of `t`. -/
def State.groupsOn (s : State) (t : Table) (m : Nat) : Nat := (dedup (portGroups s.sys.role t m ++ flowGroups s.regs m)).length

/-- Some MAC would join more than 1,024 groups. -/
def State.groupsOver (s : State) (t : Table) : Bool := (List.range (s.dies * 16)).any fun m => 1024 < s.groupsOn t m

/-- Ports of a direction whose transport differs between two tables. -/
def movedXports (old new : Table) (dst : Bool) : List Nat :=
  let ps := fun (t : Table) => (t.filter fun x => x.1.ix == xportIx dst).map (·.1.e)
  (dedup (ps old ++ ps new)).filter fun p => (List.range 4).any fun w => xportIn old dst p w != xportIn new dst p w

/-- The receive flows of source ports that a publication has changed start anew (R242, R243). -/
def State.dropFlows (s : State) (ports : List Nat) : State :=
  { s with mx := { s.mx with flows := s.mx.flows.filter fun x => x.id.cross || !ports.contains x.id.idx } }

/-! ### Recipes of ANC (R247) -/

/-- The rules of a recipe, in order. -/
def State.recipeRules (s : State) (recipe : Nat) : List W := (List.range 32).map fun k => s.word 0x4868 (recipe * 32 + k) 0

def State.ancRun (s : State) (dst : Bool) (p : Nat) : AncRun :=
  (s.mx.ancs.find? fun x => x.dst == dst && x.p == p).getD ⟨dst, p, 0, 0, []⟩

def State.setAncRun (s : State) (x : AncRun) : State :=
  { s with mx := { s.mx with ancs := x :: s.mx.ancs.filter fun y => !(y.dst == x.dst && y.p == x.p) } }

/-- A port's ANC as it goes on: `line` is the line reached, and `fresh` begins a picture, with the whole room of R51 and the recipe as it now
stands (R247; where a picture begins, log 165). -/
def State.ancBegin (s : State) (dst : Bool) (p line recipe : Nat) (fresh : Bool) : AncRun :=
  let x := s.ancRun dst p
  if fresh then ⟨dst, p, line, 0, s.recipeRules recipe⟩ else { x with line := line }

/-! ### Publication (R234) -/

def statElem (dst : Bool) (p : Nat) : Nat := (if dst then 16384 else 0) + p

def State.link (s : State) (dst : Bool) (p : Nat) : Nat := s.fld F.MX_PORT_STAT_LINK (statElem dst p)

def State.setLink (s : State) (dst : Bool) (p n : Nat) : State := s.setNotify F.MX_PORT_STAT_LINK (statElem dst p) n

/-- A port's LINK as its entry and transport now have it; whether it enters NOTRANSPORT. -/
def State.fitTransport (s : State) (dst : Bool) (p : Nat) : State × Bool :=
  let x := s.xport dst p 0
  if !xportUsed s.sys.role (s.port dst p) || xType x == 0 then (s.setLink dst p lkUNUSED, false)
  else if s.xportFails dst p then
    let s := s.setLink dst p lkNOTRANSPORT
    (if dst then s else s.sourceLost p, true)
  else if dst then (s.setLink dst p lkLOCKED, false)
  else (if s.link dst p = lkUNUSED ∨ s.link dst p = lkNOTRANSPORT then s.setLink dst p lkNOSIGNAL else s, false)

/-- Every port's transport at a publication. -/
def State.fitTransports (s : State) : State :=
  let one := fun (dst : Bool) (a : State × Nat) (p : Nat) =>
    let r := a.1.fitTransport dst p
    (r.1, a.2 + flag r.2)
  let was := (entriesOf s.regs 0x4870).map (·.1)
  let src := dedup ((validPorts s.regs false).map (·.1) ++ was.filter (· < 16384))
  let dst := dedup ((validPorts s.regs true).map (·.1) ++ (was.filter (16384 ≤ ·)).map (· - 16384))
  let a := dst.foldl (one true) (src.foldl (one false) (s, 0))
  if a.2 = 0 then a.1 else a.1.note 0x4801 a.2 0 0

end Sys2Proof.Machine
end

