-- ==== Sys2Proof/Machine/Switching.lean ====
section
/-! DEFINITION. The commands of the port tables, the crosspoint, alignment, the audio crosspoint and composition (chapters 2–5 and
7): their writes, the rebuild and its publication, and what happens at a switch line. -/
namespace Sys2Proof.Machine

/-! ### Port tables (R54) -/

def execPortTableWrite (rq : Req) (dst : Bool) (p : Nat) (v : W) (s : State) : Host.Outcome State Fault Refusal :=
  let x := putPort s dst p v
  done (s.request rq x.1 x.2)

/-! ### Alignment (chapter 4) -/

def execSourcePicture (p capture missing : Nat) (alien : Option Nat) (s : State) : Host.Outcome State Fault Refusal :=
  done (s.whileRunning (·.sourcePicture p capture missing alien))

def execSourceLost (p : Nat) (s : State) : Host.Outcome State Fault Refusal := done (s.whileRunning (·.sourceLost p))

def execFsyncPictureEnd (p : Nat) (missing : List Nat) (s : State) : Host.Outcome State Fault Refusal := 
  done (s.whileRunning (·.storeEnd p missing))

def execFsyncReadInstant (p : Nat) (s : State) : Host.Outcome State Fault Refusal := done (s.whileRunning (·.fsyncRead p))

def execFsyncAudioSlip (p : Nat) (rep : Bool) (s : State) : Host.Outcome State Fault Refusal := 
  done (s.whileRunning (·.audioSlip p rep))

def execLossholdExpire (p : Nat) (s : State) : Host.Outcome State Fault Refusal := 
  done (s.whileRunning (·.lossholdExpire p))

def execEsAlignWrite (rq : Req) (p : Nat) (v : W) (s : State) : Host.Outcome State Fault Refusal :=
  let x := putAlign p v
  done (s.request rq x.1 x.2)

/-! ### The audio crosspoint (chapter 5) -/

def execAudioTransitionTimeout (id : Nat) (s : State) : Host.Outcome State Fault Refusal := 
  done (s.whileRunning (·.transTimeout id))

def execAuSrcWrite (rq : Req) (e : Nat) (v : W) (s : State) : Host.Outcome State Fault Refusal :=
  let x := putAuSrc s e v
  done (s.request rq x.1 x.2)

def execAuDstTargetWrite (rq : Req) (e : Nat) (v : W) (s : State) : Host.Outcome State Fault Refusal :=
  let x := putAuDst1 s rq e v
  done (s.request rq x.1 x.2)

def execAuGainWrite (rq : Req) (e : Nat) (v : W) (s : State) : Host.Outcome State Fault Refusal :=
  let x := putAuGain rq e v
  done (s.request rq x.1 x.2)

/-! ### Composition (chapter 7) -/

def execCmLayerWrite (rq : Req) (e w : Nat) (v : W) (s : State) : Host.Outcome State Fault Refusal :=
  let x := putLayer s rq e [(w, v)]
  done (s.request rq x.1 x.2)

def execCmImageWrite (rq : Req) (e : Nat) (v : W) (s : State) : Host.Outcome State Fault Refusal :=
  let x := putImage e v
  done (s.request rq x.1 x.2)

def execCmPixelsWrite (rq : Req) (e : Nat) (v : W) (s : State) : Host.Outcome State Fault Refusal :=
  let x := putPixels e v
  done (s.request rq x.1 x.2)

def execCmPaletteWrite (rq : Req) (e : Nat) (v : W) (s : State) : Host.Outcome State Fault Refusal :=
  let x := putPalette e v
  done (s.request rq x.1 x.2)

/-! ### Takes, audio changes and head commits (R70, R120, R181) -/

/-- A write of `XP_TAKE`: words 0 and 1. A CANCEL is judged under check 1 of R75 too, but for the DEST it writes: R77 names the
destination that the element holds (log 42). -/
def putTake (s : State) (rq : Req) (e : Nat) (w0 w1 : W) : HostWrite × (State → Status × State) :=
  let op := F.XP_TAKE_OP.of w0
  let ctx := rq.ctx.val
  let ok := if op = 0 then true else if op = 3 then false
    else takeWordOk s w0 && (op == 2 || F.XP_TAKE_DEST.of w0 < s.caps.ports)
      && (F.XP_TAKE_SALVO.of w0 != 0 || whenOk (F.XP_TAKE_WHEN.of w0) w1)
  (⟨⟨0x2010, 0, e⟩, [(0, w0), (1, w1)], op, ok⟩, fun s =>
    if op = 0 then (.ok, s.setWord 0x2010 e 1 w1)
    else s.commitHere rq 1 e (op == 1) fun s => if op = 1 then s.takeCommit ctx e w0 w1 else s.cancelWork .take e ctx)

def execTakeCommit (rq : Req) (e : Nat) (w0 w1 : W) (s : State) : Host.Outcome State Fault Refusal :=
  let x := putTake s rq e (withOp F.XP_TAKE_OP w0 1) w1
  done (s.request rq x.1 x.2)

def execTakeCancel (rq : Req) (e : Nat) (w0 : W) (s : State) : Host.Outcome State Fault Refusal :=
  let x := putTake s rq e (withOp F.XP_TAKE_OP w0 2) (s.word 0x2010 e 1)
  done (s.request rq x.1 x.2)

/-- A word 1 that travels with a COMMIT (R70): where it differs from what stands, it is written under its own rules first
(DEDUCED). -/
def withWord1 (a : HostWrite × (State → Status × State)) (commit : Bool) (old : W) (w1 : Option W)
    (b : W → HostWrite × (State → Status × State)) : HostWrite × (State → Status × State) :=
  match w1 with
  | none => a
  | some v =>
    if !commit || v == old then a
    else
      let b := b v
      (⟨a.1.addr, a.1.words ++ b.1.words, a.1.op, a.1.range && b.1.range⟩, fun s =>
        let r := b.2 s
        if r.1 == .ok then a.2 r.2 else r)

/-- A write of `AU_DST` word 0 with OP set. -/
def putAuDst0 (s : State) (rq : Req) (e : Nat) (w0 : W) : HostWrite × (State → Status × State) :=
  let op := F.AU_DST_OP.of w0
  let ctx := rq.ctx.val
  (⟨⟨0x3020, 0, e⟩, [(0, w0)], op, op != 3 && F.AU_DST_RESERVED.of w0 == 0 && arefOk s (F.AU_DST_AREF.of w0)⟩, fun s =>
    s.commitHere rq 3 e (op == 1) fun s => if op = 1 then s.audioCommit ctx e w0 else s.cancelWork .audio e ctx)

def execAudioChangeCommit (rq : Req) (e : Nat) (w0 : W) (s : State) : Host.Outcome State Fault Refusal :=
  let x := putAuDst0 s rq e (withOp F.AU_DST_OP w0 1)
  done (s.request rq x.1 x.2)

def execAudioChangeCancel (rq : Req) (e : Nat) (w0 : W) (s : State) : Host.Outcome State Fault Refusal :=
  let x := putAuDst0 s rq e (withOp F.AU_DST_OP w0 2)
  done (s.request rq x.1 x.2)

/-- A write of `AU_DST`: word 0, word 1, or both (R70, R120). With OP 0 only word 1 is written. -/
def putAuDst (s : State) (rq : Req) (e : Nat) (w0 : W) (w1 : Option W) : HostWrite × (State → Status × State) :=
  if F.AU_DST_OP.of w0 = 0 then
    match w1 with
    | some v => putAuDst1 s rq e v
    | none => (⟨⟨0x3020, 0, e⟩, [(0, w0)], 0, true⟩, fun s => (.ok, s))
  else withWord1 (putAuDst0 s rq e w0) (F.AU_DST_OP.of w0 == 1) (s.auTarget e) w1 fun v => putAuDst1 s rq e v

/-- A write of `CM_HEAD` word 0 with OP set. -/
def putHead0 (s : State) (rq : Req) (h : Nat) (w0 : W) : HostWrite × (State → Status × State) :=
  let op := F.CM_HEAD_OP.of w0
  let ctx := rq.ctx.val
  (⟨⟨0x3810, 0, h⟩, [(0, w0)], op, op != 3 && F.CM_HEAD_RESERVED.of w0 == 0 && F.CM_HEAD_LMASK.of w0 < 2 ^ s.caps.layers⟩, fun s =>
    s.commitHere rq 5 h (op == 1) fun s => if op = 1 then s.headCommit ctx h w0 else s.cancelWork .head h ctx)

def execHeadCancel (rq : Req) (h : Nat) (w0 : W) (s : State) : Host.Outcome State Fault Refusal :=
  let x := putHead0 s rq h (withOp F.CM_HEAD_OP w0 2)
  done (s.request rq x.1 x.2)

/-- A write of `CM_HEAD` (R70, R181): with OP 0 only word 1 is written. -/
def putHead (s : State) (rq : Req) (h : Nat) (w0 : W) (w1 : Option W) : HostWrite × (State → Status × State) :=
  if F.CM_HEAD_OP.of w0 = 0 then
    match w1 with
    | some v => putHead1 s rq h v
    | none => (⟨⟨0x3810, 0, h⟩, [(0, w0)], 0, true⟩, fun s => (.ok, s))
  else withWord1 (putHead0 s rq h w0) (F.CM_HEAD_OP.of w0 == 1) (s.shadowWord 0x3810 h 1) w1 fun v => putHead1 s rq h v

def execHeadCommit (rq : Req) (h : Nat) (w0 w1 : W) (s : State) : Host.Outcome State Fault Refusal :=
  let x := putHead s rq h (withOp F.CM_HEAD_OP w0 1) (some w1)
  done (s.request rq x.1 x.2)

/-! ### Salvos (R84–R87) -/

/-- A write of `XP_SALVO`: words 0 and 1. -/
def putSalvo (s : State) (rq : Req) (n : Nat) (w0 w1 : W) : HostWrite × (State → Status × State) :=
  let op := F.XP_SALVO_OP.of w0
  let count := F.XP_SALVO_COUNT.of w0
  let ok := if op = 0 then true else if op = 3 then false
    else F.XP_SALVO_RESERVED.of w0 == 0 && F.XP_SALVO_WHEN.of w0 < 3
      && (op == 2 || (1 ≤ count && count ≤ s.dies * 6144 && whenOk (F.XP_SALVO_WHEN.of w0) w1))
  (⟨⟨0x2020, 0, n⟩, [(0, w0), (1, w1)], op, ok⟩, fun s =>
    if op = 0 then (.ok, s.setWord 0x2020 n 1 w1)
    else s.commitHere rq 2 n (op == 1) fun s => if op = 1 then s.salvoArm rq.ctx.val n w0 w1 else s.salvoDiscard rq.ctx.val n)

def execSalvoArm (rq : Req) (n : Nat) (w0 w1 : W) (s : State) : Host.Outcome State Fault Refusal :=
  let x := putSalvo s rq n (withOp F.XP_SALVO_OP w0 1) w1
  done (s.request rq x.1 x.2)

def execSalvoDiscard (rq : Req) (n : Nat) (w0 : W) (s : State) : Host.Outcome State Fault Refusal :=
  let x := putSalvo s rq n (withOp F.XP_SALVO_OP w0 2) 0
  done (s.request rq x.1 x.2)

/-- 60 s after its last staging an open salvo ends CANCELLED (R83). -/
def State.salvoTimeout (s : State) (n : Nat) : State :=
  if s.salvoState n = saOPEN ∧ s.decides = true then
    let s := s.waitUntil ((s.salvo n).last + secs 60)
    (s.failSalvo n tsCANCELLED (fun _ => none) tsCANCELLED).tellTwin
  else s

def execSalvoTimeout (n : Nat) (s : State) : Host.Outcome State Fault Refusal := done (s.salvoTimeout n)

/-- No publication has come by the deadline (R90). -/
def State.holdDeadline (s : State) (k : MemberKind) (e : Nat) : State :=
  if !s.decides then s
  else if k = .salvo then
    if s.salvoState e = saHELD then
      let t := (s.members e).foldl (fun t x => match t with | none => some x.deadline | some t => some (min t x.deadline)) none
      let s := s.waitHouse (t.getD 0)
      (s.salvoRebuild e).tellTwin
    else s
  else match s.workOn k e with
    | none => s
    | some x =>
      if x.state = tsHELD ∧ x.salvo = 0 then
        ((s.waitHouse x.deadline).finish x Status.rebuild.code x.due).tellTwin
      else s

def execHoldDeadline (kind : MemberKind) (e : Nat) (s : State) : Host.Outcome State Fault Refusal := done (s.holdDeadline kind e)

/-- A head's accord images are made, or a DRAM fault ends its commit REBUILD (R183). -/
def State.flattenDone (s : State) (h : Nat) (good : Bool) : State :=
  if s.fld F.CM_HEAD_FLAT h != 1 then s
  else if good then (s.setFld F.CM_HEAD_FLAT h 2).releaseAll
  else
    let s := s.setFld F.CM_HEAD_FLAT h 3
    match s.workOn .head h with
    | none => s
    | some x =>
      if !s.decides then s
      else if x.salvo = 0 then (s.finish x Status.rebuild.code x.due).tellTwin
      else if x.state = tsHELD then (s.failOn x.salvo x Status.rebuild.code).tellTwin
      else ((s.unstage x.salvo).fail x Status.rebuild.code).tellTwin

def execFlattenDone (h : Nat) (good : Bool) (s : State) : Host.Outcome State Fault Refusal := done (s.flattenDone h good)

/-! ### The rebuild (R56, R57) -/

/-- A write of `ES_CAL_CTRL.02`. -/
def putCal (v : W) : HostWrite × (State → Status × State) :=
  (⟨⟨0x2848, 2, 0⟩, [(0, v)], 0, v == 1 || v == 2⟩, fun s =>
    let c := s.calState
    if v = 1 then
      if c = calEDITING ∨ c = calFAILED then
        if s.groupsOver s.shadow then (.capacity, s)
        else (.ok, { s with lk := { s.lk with otherOk := false } }.setCal calREBUILDING)
      else (.busy, s)
    else if c = calIDLE ∨ c = calREADY then (.busy, s)
    else (.ok, ({ s with shadow := takeOver swapped s.shadow s.regs }.setCal calIDLE).rebuildGone))

def execCalCommit (rq : Req) (s : State) : Host.Outcome State Fault Refusal :=
  let x := putCal 1
  done (s.request rq x.1 x.2)

def execCalAbandon (rq : Req) (s : State) : Host.Outcome State Fault Refusal :=
  let x := putCal 2
  done (s.request rq x.1 x.2)

/-- The rebuild's checks and its build end. -/
def State.rebuildDone (s : State) : State :=
  if s.calState != calREBUILDING then s
  else match s.rebuild s.shadow with
    | .error f => (s.calFailed f).rebuildGone
    | .ok _ => s.setCal calREADY

def execRebuildDone (s : State) : Host.Outcome State Fault Refusal := done s.rebuildDone

/-- Ports of a direction whose entries a publication changed. -/
def changedPorts (a b : Table) (dst : Bool) : List Nat :=
  (dedup ((entriesOf a (portIx dst)).map (·.1) ++ (entriesOf b (portIx dst)).map (·.1))).filter fun p =>
    tget dflt a ⟨portIx dst, p, 0⟩ != tget dflt b ⟨portIx dst, p, 0⟩

/-! ### Switch lines (R66, R81, R127) -/

/-- The switch line at which destination `p` swaps now: the one running, where it has not swapped at it yet, else the next. -/
def State.swapLine (s : State) (p : Nat) (f : Format) : Nat :=
  let n := f.lineAt s.house
  let here := n % f.lines + 1 == f.sw1 || (f.interlaced && n % f.lines + 1 == f.sw2)
  if here && ((s.xp.swaps.find? fun x => x.1 == p).map (·.2)) != some n then n else f.nextLine s.house

/-- A pending work lands by the instant `t` of H. -/
def Format.landsBy (t : Nat) (x : Work) : Bool :=
  x.state == tsPENDING && (x.jumped || match format x.fmt with | some f => f.lineStart (x.line f) ≤ t | none => true)

/-- Works in the order in which they land. -/
def insertLanding (x : Work) : List Work → List Work
  | [] => [x]
  | y :: l => if x.land < y.land || (x.land == y.land && x.order < y.order) then x :: y :: l else y :: insertLanding x l

/-- The switch lines of `AU_CTRL` TFMT are numbered from here on by die (DESIGN CHOICE: they belong to no destination port). -/
def endpointLines : Nat := 16384

/-- The works that land with switch line `p` at `t`: a destination's takes, the audio changes to it, the commits of heads whose DEST
it is; for a number from `endpointLines` on, the die's audio changes to endpoints (R127). -/
def State.landing (s : State) (p t : Nat) : List Work :=
  (s.xp.work.filter fun x => Format.landsBy t x && match x.kind with
    | .take => x.hits p
    | .audio => let v := s.auTarget x.elem; if auTType v == tEMB then auTPort v == p else x.elem / 8192 + endpointLines == p
    | .head => hDest (s.headConf x.elem x.w0) == p
    | .salvo => false).foldl (fun l x => insertLanding x l) []

/-- The timing format of switch line `p`: its valid destination's, or the die's `AU_CTRL` TFMT (R127). -/
def State.lineFormat (s : State) (p : Nat) : Option Format :=
  if endpointLines ≤ p then (if p - endpointLines < s.dies then format (s.fld F.AU_CTRL_TFMT (p - endpointLines)) else none)
  else if pValid (s.port true p) then format (pFormat (s.port true p)) else none

/-! ### Publication (R57, R91) -/

/-- A take is due on destination `p`'s next switch line. -/
def State.takeDue (s : State) (p : Nat) : Bool :=
  match s.lineFormat p with
  | some f => (s.landing p (f.lineStart (s.swapLine p f))).any (·.isTake)
  | none => false

/-- The destinations of a source that has lost VALID park at their next switch lines, save where a take due on that line lands
(R91); the record counts those that park. -/
def State.parkFrom (s : State) (q : Nat) : State :=
  let l := s.destsOf q
  let n := l.countP fun p => !s.takeDue p
  let s := l.foldl (fun (s : State) p => s.setDest p { s.dest p with park := true }) s
  if n = 0 then s else s.note 0x2004 q n 0

/-- Every die swaps its port tables, transports and calendars (R57, R91, R100, R108, R137, R190, R234). -/
def State.publish (s : State) : State :=
  let before := s
  let src := changedPorts s.regs s.shadow false
  let dst := changedPorts s.regs s.shadow true
  let s := s.withEv fun e => { e with out := e.out.filter fun x => !(x.1 == .port && pValid (s.portShadow false x.2.2)) }
  let old : Table := s.regs.filter fun x => swapped x.1
  let moved := fun (p : Nat) => (if s.sys.role == CORE then src else dst).contains p
  let s := { s with
    regs := takeOver swapped s.regs s.shadow
    lk := { s.lk with other := old, otherOk := true, caught := [], streams := s.lk.streams.filter fun x => !moved x.p } }
  let s := if (s.regs.filter fun x => swapped x.1) = old ∧ s.save.kept = [] then s else s.markDirty
  let s := s.withSave fun x => { x with kept := [] }
  let s := s.setFld F.ES_CAL_CTRL_PUBLISHED 0 ((s.fld F.ES_CAL_CTRL_PUBLISHED 0 + 1) % 65536)
  let s := s.setCal calIDLE
  let s := match s.rebuild s.regs with | .ok pl => s.setPlacement pl | .error _ => s
  let s := src.foldl (fun s p => s.alignPort p) s
  let s := (s.fitAll.fitTransports).dropFlows (src ++ movedXports before.regs s.regs false)
  let s := dst.foldl (fun s p => if pValid (s.port true p) then s else s.unreserve p) s
  let s := (s.xp.work.filter fun x => x.state == tsPENDING).foldl (fun s x => if s.decides then s.recheckPending x else s) s
  let s := (s.xp.work.filter fun x => x.kind == .head && x.needs).foldl (fun s x => s.remakeImages x) s
  let s := s.releaseAll
  let s := (src.filter fun p => pValid (before.port false p) && !pValid (s.port false p)).foldl (fun s p => s.parkFrom p) s
  ((s.auPublish before).cmPublish before)

/-- The publication at the sheet boundary after READY. -/
def State.calendarPublish (s : State) : State :=
  if s.calState != calREADY then s
  else (s.waitHouse ((s.house / sheetUnits + 1) * sheetUnits)).publish

def execCalendarPublish (s : State) : Host.Outcome State Fault Refusal := done s.calendarPublish

/-! ### At a switch line (R80, R81) -/

/-- The count of line `n` that a work lands on: its decided one, save after a jump of H (R276). -/
def landCount (f : Format) (n : Nat) (x : Work) : Nat :=
  if x.jumped then
    if x.field then 2 * (n / f.lines) + (if f.interlaced && f.field2 ≤ n % f.lines + 1 then 1 else 0) else n / f.lines
  else x.land

/-- What a destination carries: its LIVE source, or black in its place. -/
def destShown (d : Dest) : Nat := if d.black then srcPARK else d.live

/-- A destination changed at line `n`: what it carried before stays for the frames of earlier lines (R81). -/
def destTurn (d : Dest) (n : Nat) (k : Dest → Dest) : Dest :=
  let e := k d
  if destShown e = destShown d ∨ d.turned = n then e else { e with prev := destShown d, turned := n }

/-- A take switches destination `p` at line `n` (R81, R124, R125). DESIGN CHOICE (log 175): where a take with AFOLLOW clear lands and an
earlier landing has given its breakaway reservation up, the channels are reserved again; where too few are free it goes on with none. -/
def State.swapOne (s : State) (x : Work) (n cnt t0 p : Nat) : State :=
  let d := s.dest p
  let src := x.srcFor p
  let frame := if x.field then cnt / 2 else cnt
  let follow := if x.afollow then src else d.follow
  let s := s.setDest p (destTurn d n fun d =>
    { d with live := src, entry := x.elem % 65536, landed := frame % 65536, follow := follow, park := false })
  if x.afollow then (s.unreserve p).followMove p d.follow src t0
  else if src = d.follow then s.unreserve p
  else
    let s := s.setMaker p none
    (s.reserveAudio p (pDie (s.port true p)) (channelsOf (s.port true p))).getD s

/-- A landed work's status: DONE on F+0, LATE after it. -/
def landStatus (x : Work) (cnt : Nat) : Nat := if x.late || cnt != x.due then tsLATE else tsDONE

/-- A work lands at line `n` on the count `cnt`, at the switch sample `t0`. -/
def State.landWork (s : State) (x : Work) (n cnt t0 : Nat) : State :=
  let s := match x.kind with
    | .take => x.targets.foldl (fun (s : State) p => s.swapOne x n cnt t0 p) s
    | .audio =>
      let s := s.startTrans x.elem (s.resolve x.elem (s.fld F.AU_DST_LIVE x.elem)) (s.resolve x.elem x.aref) t0
      s.setFld F.AU_DST_LIVE x.elem x.aref
    | .head => s.landHead x.elem x.w0
    | .salvo => s
  let st := landStatus x cnt
  (s.finish x st cnt).memberEnded x.salvo (st == tsLATE) none

/-- A source that has failed is shown as black (R105). -/
def State.srcBlack (s : State) (q : Nat) : Bool := pValid (s.port false q) && (s.src q).black

/-- A destination's own switch line: it parks where a publication took its source (R91), it goes to black for a source that has failed or
returns from it (R105), and its head moves on by a frame. -/
def State.destLine (s : State) (p n : Nat) (f : Format) : State :=
  let d := s.dest p
  let s := s.setDest p (destTurn d n fun d =>
    let d := if d.park then { d with live := srcPARK, landed := n / f.lines % 65536, park := false } else d
    { d with black := s.srcBlack d.live })
  match s.headOf p with
  | some h => if n % f.lines + 1 = f.sw1 then s.headFrame h else s
  | none => s

/-- SWITCH_LINE. -/
def State.switchLine (s : State) (p : Nat) : State :=
  match s.lineFormat p with
  | none => s
  | some f =>
    let n := s.swapLine p f
    let t := f.lineStart n
    let s := s.waitHouse t
    let t0 := sampleAt t
    let s := { s with xp := { s.xp with swaps := (p, n) :: s.xp.swaps.filter fun x => !(x.1 == p) } }
    let s := (s.landing p t).foldl (fun (s : State) x => s.landWork x n (landCount f n x) t0) s
    let s := s.endGrace p
    if endpointLines ≤ p then s
    else
      let w := s.xport true p 0
      let s := if xType w = xST2110 then s.setAncRun (s.ancBegin true p 1 (F.MX_XPORT_RECIPE.of w) true) else s
      s.destLine p n f

def execSwitchLine (p : Nat) (s : State) : Host.Outcome State Fault Refusal := done (s.whileRunning (·.switchLine p))

end Sys2Proof.Machine
end

