-- ==== Sys2Proof/Machine/AudioPorts.lean ====
section
/-! DEFINITION. Audio serial ports and rate conversion (chapter 6): port configuration, slot masks, start triggers, streams and
their losses, ASRC channels, and the house sample. -/
namespace Sys2Proof.Machine

/-! ### Ports -/

def State.setDir (s : State) (q : Nat) (tx : Bool) (n : Nat) : State := s.setNotify (apField tx) q n

/-! ### ASRC channels bound to a port (R157) -/

/-- The PORT bindings of a die, with their channels. -/
def State.asrcBound (s : State) (d : Nat) : List (Nat × W) :=
  (entriesOf s.regs 0x3060).filter fun x => x.1 / 64 == d && F.AU_ASRC_KIND.of x.2 == 1

/-! ### Port configuration (R145) -/

/-- Fields of `AU_TDM` that both directions share. -/
def tdmShared : List Fld :=
  [F.AU_TDM_MODE, F.AU_TDM_CLK, F.AU_TDM_RATE, F.AU_TDM_SLOTS, F.AU_TDM_WIDTH, F.AU_TDM_DLY, F.AU_TDM_FSPOL, F.AU_TDM_EDGE]

def differs (fs : List Fld) (a b : W) : Bool := fs.any fun f => f.of a != f.of b

/-- A write changes a field of a direction that is not STOPPED. -/
def State.portBusy (s : State) (q : Nat) (o v : W) : Bool :=
  let rx := if isAes q then [F.AU_AES_RXEN, F.AU_AES_RXFREE] else F.AU_TDM_RXEN :: tdmShared
  let tx := if isAes q then [F.AU_AES_TXEN] else F.AU_TDM_TXEN :: F.AU_TDM_TRI :: tdmShared
  (s.dirState q false != apSTOPPED && differs rx o v) || (s.dirState q true != apSTOPPED && differs tx o v)

/-- A write moves a port out of FREE while an ASRC channel is bound to it. -/
def State.portUnfree (s : State) (q : Nat) (o v : W) : Bool :=
  let out := if isAes q then F.AU_AES_RXFREE.of o == 1 && F.AU_AES_RXFREE.of v == 0
    else F.AU_TDM_CLK.of o == clkFREE && F.AU_TDM_CLK.of v != clkFREE
  out && (s.asrcBound (q / 12)).any fun x => F.AU_ASRC_PORT.of x.2 == q % 12

def tdmRange (v : W) : Bool :=
  F.AU_TDM_MODE.of v < 3 && F.AU_TDM_CLK.of v < 3 && F.AU_TDM_SLOTS.of v < 5 && F.AU_TDM_WIDTH.of v < 3
    && F.AU_TDM_RESERVED.of v == 0 && v.toNat < 2 ^ 32

/-- OFFSET reads 0 on a MASTER port, whose clock is the part's own (R155). -/
def State.clockSet (s : State) (q : Nat) : State :=
  if s.dirClock q false = clkMASTER then (s.setFld F.AU_PORT_STAT_OFFSET q 0).setNotify F.AU_PORT_STAT_CLKSTATE q 0 else s

/-- A write of `AU_TDM` or `AU_AES`. -/
def putAudioPort (aes : Bool) (e : Nat) (v : W) : HostWrite × (State → Status × State) :=
  let ix := if aes then 0x3050 else 0x3040
  let q := if aes then qOfAes e else qOfTdm e
  (⟨⟨ix, 0, e⟩, [(0, v)], 0, if aes then F.AU_AES_RESERVED.of v == 0 && v.toNat < 2 ^ 32 else tdmRange v⟩, fun s =>
    let o := s.word ix e 0
    if s.portBusy q o v || s.portUnfree q o v then (.busy, s) else (.ok, (s.putWord ix e 0 v).clockSet q))

def execAudioPortConfigWrite (rq : Req) (aes : Bool) (e : Nat) (v : W) (s : State) : Host.Outcome State Fault Refusal :=
  let x := putAudioPort aes e v
  done (s.request rq x.1 x.2)

/-! ### Slot masks (R147, R148) -/

def State.dropMask (s : State) (e : Nat) : State := { s with ap := { s.ap with masks := s.ap.masks.filter fun x => !(x.e == e) } }

/-- A mask clears a slot that an ASRC channel is bound to in that direction. -/
def State.maskUnbinds (s : State) (e : Nat) (v : W) : Bool :=
  (s.asrcBound (e / 8)).any fun x =>
    F.AU_ASRC_PORT.of x.2 == e % 8
      && !((if F.AU_ASRC_DIR.of x.2 = 0 then F.AU_TDM_MASK_RXMASK.of v else F.AU_TDM_MASK_TXMASK.of v).testBit (F.AU_ASRC_SLOT.of x.2))

/-- A mask staged; one that was staged and never applied is superseded. The commit is the acceptance itself (DESIGN CHOICE, log 177: R148 puts
it at most 2 µs after). -/
def State.stageMask (s : State) (e : Nat) (v : W) : State :=
  let live := s.maskLive e
  let again := (s.maskRun e).isSome
  let s := (s.dropMask e).putWord 0x3048 e 0 v
  let s := { s with ap := { s.ap with masks := ⟨e, live, some (v, s.house)⟩ :: s.ap.masks } }
  let s := if again then s.bump F.AU_PORT_STAT_SUPERSEDED (qOfTdm e) 1 else s
  s.setNotify F.AU_PORT_STAT_MASKSTATE (qOfTdm e) 1

/-- A write of `AU_TDM_MASK`. -/
def putMask (e : Nat) (v : W) : HostWrite × (State → Status × State) :=
  (⟨⟨0x3048, 0, e⟩, [(0, v)], 0, true⟩, fun s => if s.maskUnbinds e v then (.busy, s) else (.ok, s.stageMask e v))

def execMaskWrite (rq : Req) (e : Nat) (v : W) (s : State) : Host.Outcome State Fault Refusal :=
  let x := putMask e v
  done (s.request rq x.1 x.2)

/-- The staged mask applies from a frame. -/
def State.applyMask (s : State) (e frame : Nat) : State :=
  match s.maskRun e with
  | none => s
  | some _ => ((s.dropMask e).setFld F.AU_PORT_STAT_APPLIED (qOfTdm e) frame).setNotify F.AU_PORT_STAT_MASKSTATE (qOfTdm e) 0

/-- The first frame, counted from the PTP epoch, that begins at least two bit clocks after `t`. -/
def maskFrame (rate bits t : Nat) : Nat := (t * rate * bits + 2 * secUnits + secUnits * bits - 1) / (secUnits * bits)

/-- MASK_APPLY: the first frame-sync edge two bit clocks after the commit. -/
def State.maskApply (s : State) (e frame : Nat) : State :=
  let q := qOfTdm e
  match (s.maskRun e).bind (·.staged) with
  | none => s
  | some (_, t) =>
    if !s.portRuns q then s
    else
      let v := s.word 0x3040 e 0
      let bits := tdmSlots v * tdmWidth v
      let rate := 48000 * s.framesPer q
      if s.dirClock q false = clkMASTER then
        let a := maskFrame rate bits t
        let s := s.waitHouse ((a * secUnits + rate - 1) / rate)
        s.applyMask e ((a - (s.word 0x3068 q 1).toNat * s.framesPer q) % 2 ^ 32)
      else
        let s := s.waitHouse (t + (2 * secUnits + rate * bits - 1) / (rate * bits))
        s.applyMask e frame

def execMaskApply (e frame : Nat) (s : State) : Host.Outcome State Fault Refusal := done (s.maskApply e frame)

/-! ### Start triggers (R150–R152) -/

def agIDLE : Nat := 0
def agARMED : Nat := 1
def agDONE : Nat := 2
def agFAILED : Nat := 3
def agABORTED : Nat := 4

/-- The directions that a trigger names: `AU_PORT_STAT` element and direction. -/
def trigDirs (dies : Nat) (w0 w2 : W) : List (Nat × Bool) :=
  let tdm := ((List.range (dies * 8)).filter fun i => w2.getLsbD i).map qOfTdm
  let aes := ((List.range (dies * 4)).filter fun i => (F.AU_START_AESSET.of w0).testBit i).map qOfAes
  let dir := F.AU_START_DIR.of w0
  (tdm ++ aes).flatMap fun q =>
    (if dir % 2 = 1 then [(q, false)] else []) ++ (if dir / 2 % 2 = 1 then [(q, true)] else [])

def State.setTrig (s : State) (x : Trig) : State :=
  { s with ap := { s.ap with trigs := x :: s.ap.trigs.filter fun y => !(y.n == x.n) } }

def State.dropTrig (s : State) (n : Nat) : State := { s with ap := { s.ap with trigs := s.ap.trigs.filter fun y => !(y.n == n) } }

/-- A trigger's final word 3. -/
def State.endTrig (s : State) (n st result : Nat) : State :=
  ((s.dropTrig n).setFld F.AU_START_RESULT n result).setNotify F.AU_START_STATE n st

/-- The house index whose instant is the first at or after a time. -/
def indexFrom (t : Nat) : Nat := (t * 48000 + secUnits - 1) / secUnits

/-- *S* of a trigger (R151), and whether it is LATE; none: it waits for its GPI. -/
def State.trigIndex (s : State) (w0 w1 : W) : Option Nat × Bool :=
  let now := indexFrom (s.house + us 50)
  let given := fun n => if n < now then (some now, true) else (some n, false)
  match F.AU_START_WHEN.of w0 with
  | 0 => (some now, false)
  | 1 => given (indexFrom (timeOf (nearest 32 (s.house / secUnits) (F.XP_TAKE_WHEN_HI.of w1)) (F.XP_TAKE_WHEN_LO.of w1)))
  | 2 => given w1.toNat
  | _ => (none, false)

/-- A direction named by an ARMED trigger that starts streams. -/
def State.dirArmed (s : State) (x : Nat × Bool) : Bool :=
  s.ap.trigs.any fun t => (trigDirs s.dies t.w0 t.w2).contains x

/-- A START, a STOP or an ABORT beyond its range checks. Which of the directions named are enabled is judged here, at the acceptance (DESIGN
CHOICE, log 179: R151 does not say whether then or at *S*). -/
def State.trigCommit (s : State) (n : Nat) (w0 w1 w2 : W) : Status × State :=
  let op := F.AU_START_OP.of w0
  let armed := s.fld F.AU_START_STATE n == agARMED
  if op = 2 then
    if armed then
      let x := s.ap.trigs.find? fun t => t.n == n
      let s := match x with
        | some t =>
          let dirs := if F.AU_START_OP.of t.w0 = 1 then trigDirs s.dies t.w0 t.w2 else []
          dirs.foldl (fun (s : State) (d : Nat × Bool) => if s.dirState d.1 d.2 = apARMED then s.setDir d.1 d.2 apSTOPPED else s) s
        | none => s
      let f := s.takeFree
      (.ok, f.1.endTrig n agABORTED (f.2.toNat % 256))
    else (.busy, s)
  else if armed then (.busy, s)
  else
    let s := ((s.setWord 0x3058 n 0 w0).setWord 0x3058 n 1 w1).setWord 0x3058 n 2 w2
    let dirs := (trigDirs s.dies w0 w2).filter fun d => s.dirOn d.1 d.2
    if op == 1 && dirs.any (fun d => s.dirState d.1 d.2 != apSTOPPED || s.dirArmed d) then
      (.busy, s.endTrig n agFAILED Status.busy.code)
    else
      let i := s.trigIndex w0 w1
      let s := s.setTrig ⟨n, w0, w2, i.1, i.2⟩
      let s := (s.setFld F.AU_START_RESULT n 0).setNotify F.AU_START_STATE n agARMED
      (.ok, if op = 1 then dirs.foldl (fun s d => s.setDir d.1 d.2 apARMED) s else s)

/-- A write of `AU_START`: words 0 to 2. -/
def putStart (s : State) (n : Nat) (w0 w1 w2 : W) : HostWrite × (State → Status × State) :=
  let op := F.AU_START_OP.of w0
  let ok := op == 0 || (F.AU_START_RESERVED.of w0 == 0 && (op == 2 || (F.AU_START_DIR.of w0 != 0
    && (F.AU_START_WHEN.of w0 != 1 || F.XP_TAKE_WHEN_LO.of w1 < 1000000000)
    && w2.toNat < 2 ^ (s.dies * 8) && F.AU_START_AESSET.of w0 < 2 ^ (s.dies * 4))))
  (⟨⟨0x3058, 0, n⟩, [(0, w0), (1, w1), (2, w2)], op, ok⟩, fun s =>
    if op = 0 then (.ok, (s.setWord 0x3058 n 1 w1).setWord 0x3058 n 2 w2) else s.trigCommit n w0 w1 w2)

def execStartTrigger (rq : Req) (n : Nat) (w0 w1 w2 : W) (s : State) : Host.Outcome State Fault Refusal :=
  let x := putStart s n (withOp F.AU_START_OP w0 1) w1 w2
  done (s.request rq x.1 x.2)

def execStopTrigger (rq : Req) (n : Nat) (w0 w1 w2 : W) (s : State) : Host.Outcome State Fault Refusal :=
  let x := putStart s n (withOp F.AU_START_OP w0 3) w1 w2
  done (s.request rq x.1 x.2)

def execAbortTrigger (rq : Req) (n : Nat) (w0 w1 w2 : W) (s : State) : Host.Outcome State Fault Refusal :=
  let x := putStart s n (withOp F.AU_START_OP w0 2) w1 w2
  done (s.request rq x.1 x.2)

/-- The phase of a frame-sync edge at house time `t` in the house sample period (R154). -/
def phaseOf (t : Nat) : Nat := t - sampleStart (sampleAt t)

/-- A direction starts at house index `i`: its port's staged mask applies. With none staged, APPLIED keeps the earlier run's frame count
(DESIGN CHOICE, log 178: R148 does not say). The phase at which an external frame sync comes then is free. -/
def State.startDir (s : State) (i q : Nat) (tx : Bool) : State :=
  let f := s.takeFree
  let s := f.1
  let s := if isAes q || s.portRuns q then s else s.applyMask (tdmOf q) 0
  let s := s.putBack .stream (q / 12) (streamId q tx)
  let s := s.setWord 0x3068 q 1 (BitVec.ofNat 64 i)
  (s.setStream ⟨streamId q tx, i, none, 64, 0, 0, f.2.toNat % (secUnits / 48000)⟩).setDir q tx apRUNNING

/-- STREAM-UNDERRUN of a stream that was lost from index `i` to `n` (R153). -/
def State.underrunRecord (s : State) (q : Nat) (tx : Bool) (i n : Nat) : State :=
  s.raise 0x3002 (q / 12) (streamId q tx) (i % 2 ^ 32) (n - i)

/-- A direction ends after the frame of index `i` − 1; the frame count stands. -/
def State.stopDir (s : State) (i q : Nat) (tx : Bool) : State :=
  match s.stream q tx with
  | none => s
  | some x =>
    let n := s.frameCount q i
    let s := match x.lost with | some j => s.underrunRecord q tx j i | none => s
    ((s.dropStream q tx).setFld F.AU_PORT_STAT_FRAMES q n).setDir q tx apSTOPPED

/-- TRIGGER_ACT: the trigger reaches *S*. -/
def State.trigAct (s : State) (n : Nat) : State :=
  match s.ap.trigs.find? fun t => t.n == n with
  | none => s
  | some t =>
    match t.at_ with
    | none => s
    | some i =>
      let s := s.waitHouse (sampleStart i)
      let dirs := trigDirs s.dies t.w0 t.w2
      let s := if F.AU_START_OP.of t.w0 = 1 then
          dirs.foldl (fun s d => if s.dirState d.1 d.2 = apARMED then s.startDir i d.1 d.2 else s) s
        else dirs.foldl (fun s d => s.stopDir i d.1 d.2) s
      (s.setFld F.AU_START_INDEX n i).endTrig n agDONE (if t.late then tsLATE else tsDONE)

def execTriggerAct (n : Nat) (s : State) : Host.Outcome State Fault Refusal := done (s.trigAct n)

/-- A qualified active edge of GPI `i` at the time `t` of H decides the triggers that wait for it (R151). -/
def State.trigGpi (s : State) (i t : Nat) : State :=
  let go := fun (x : Trig) => if x.at_.isNone && F.AU_START_GPI.of x.w0 == i then { x with at_ := some (sampleAt t + 1) } else x
  { s with ap := { s.ap with trigs := s.ap.trigs.map go } }

/-- On entry to SAFE, LOAD, HOLD or SERVICE every stream stops and every ARMED trigger ends FAILED (R152). -/
def State.stopAudio (s : State) : State :=
  let i := sampleAt s.house
  let s := s.ap.trigs.foldl (fun s t => s.endTrig t.n agFAILED Status.mode.code) s
  (List.range (s.dies * 12)).foldl (fun s q => [false, true].foldl (fun s tx =>
    let s := s.stopDir i q tx
    s.setDir q tx apSTOPPED) s) s

/-! ### Streams (R153, R154) -/

def ckOK : Nat := 0
def ckABSENT : Nat := 1
def ckOFFRATE : Nat := 2
def ckUNLOCKED : Nat := 3

/-- The index of the first sample that an underrun zeroes (R153): that of the frame due; an AES3 receiver has waited for two frames. -/
def State.lostFrom (s : State) (q : Nat) (tx : Bool) : Nat := sampleAt s.house - (if isAes q && !tx then 2 else 0)

/-- STREAM_UNDERRUN: a MASTER receive stream never underruns. -/
def State.underrun (s : State) (q : Nat) (tx clock : Bool) : State :=
  if s.dirState q tx != apRUNNING || (!tx && s.dirClock q tx == clkMASTER) then s
  else match s.stream q tx with
    | none => s
    | some x =>
      let s := s.setStream { x with lost := some (s.lostFrom q tx), fade := 64 }
      let s := s.bump F.AU_PORT_STAT_UNDERRUNS q 1
      let s := if clock then s.setNotify F.AU_PORT_STAT_CLKSTATE q (if isAes q then ckUNLOCKED else ckABSENT) else s
      s.setDir q tx apUNDERRUN

def execStreamUnderrun (e : Nat) (tx clock : Bool) (s : State) : Host.Outcome State Fault Refusal := done (s.underrun e tx clock)

/-- STREAM_REJOIN: the stream goes on at its grid's index, and the underrun's record is written. -/
def State.rejoin (s : State) (q : Nat) (tx : Bool) : State :=
  match s.stream q tx with
  | none => s
  | some x =>
    match x.lost with
    | none => s
    | some i =>
      let n := sampleAt s.house
      let s := (s.setStream { x with lost := none, fade := 0, phase := phaseOf s.house }).setDir q tx apRUNNING
      let c := s.fld F.AU_PORT_STAT_CLKSTATE q
      let s := if c = ckABSENT ∨ c = ckUNLOCKED then s.setNotify F.AU_PORT_STAT_CLKSTATE q ckOK else s
      s.underrunRecord q tx i n

def execStreamRejoin (e : Nat) (tx : Bool) (s : State) : Host.Outcome State Fault Refusal := done (s.rejoin e tx)

/-- STREAM_PHASE_SLIP of a LOCKED stream: the phase is captured again, and one sample is repeated or dropped on every slot. -/
def State.phaseSlip (s : State) (q : Nat) (tx rep : Bool) : State :=
  if s.dirState q tx == apRUNNING && s.dirClock q tx == clkLOCKED then
    let s := match s.stream q tx with
      | some x => s.setStream { x with old := if rep then 1 else -1, slipAt := s.sampleNow, phase := phaseOf s.house }
      | none => s
    (s.bump F.AU_PORT_STAT_SLIPS q 1).raise 0x3003 (q / 12) (streamId q tx) (sampleAt s.house % 2 ^ 32) (if rep then 1 else 2)
  else s

def execStreamPhaseSlip (e : Nat) (tx rep : Bool) (s : State) : Host.Outcome State Fault Refusal := done (s.phaseSlip e tx rep)

/-- I16, saturating. -/
def sat16 (v : Int) : Nat := unsigned 16 (max (-32768) (min 32767 v))

/-- STREAM_OFFRATE: a second's measurement of an external clock, OFFRATE beyond 10 ppm. -/
def State.offrate (s : State) (q : Nat) (off : Int) : State :=
  if !s.portRuns q || s.dirClock q false == clkMASTER then s
  else
    let s := s.setFld F.AU_PORT_STAT_OFFSET q (sat16 off)
    let c := s.fld F.AU_PORT_STAT_CLKSTATE q
    if 1000 < off.natAbs then (if c = ckOK then s.setNotify F.AU_PORT_STAT_CLKSTATE q ckOFFRATE else s)
    else if c = ckOFFRATE then s.setNotify F.AU_PORT_STAT_CLKSTATE q ckOK else s

def execStreamOffrate (e : Nat) (off : Int) (s : State) : Host.Outcome State Fault Refusal := done (s.offrate e off)

/-! ### ASRC channels (R156–R161) -/

def State.setAsrc (s : State) (e n : Nat) : State := s.setFld F.AU_ASRC_STATE e n

def State.setAsrcRun (s : State) (x : AsrcRun) : State :=
  { s with ap := { s.ap with asrc := x :: s.ap.asrc.filter fun y => !(y.e == x.e) } }

/-- A fade begins, from the level at which the channel stands; `bound`: the binding that goes on until a fall ends. -/
def State.asrcFade (s : State) (e dir : Nat) (bound : Option W) : State := s.setAsrcRun ⟨e, s.asrcLevel e, dir, bound⟩

/-- The port element that a binding names. -/
def asrcPort (e : Nat) (v : W) : Nat := e / 64 * 12 + F.AU_ASRC_PORT.of v

/-- Word 0 in range (R158 check 1). -/
def asrcRange (s : State) (e : Nat) (v : W) : Bool :=
  let q := asrcPort e v
  F.AU_ASRC_KIND.of v < 2 && F.AU_ASRC_RESERVED.of v == 0
    && F.AU_ASRC_PORT.of v < 12
    && (if isAes q then F.AU_ASRC_SLOT.of v ≤ 1 && F.AU_ASRC_DIR.of v == 0
        else F.AU_ASRC_SLOT.of v < tdmSlots (s.word 0x3040 (tdmOf q) 0))

/-- The slot named can be bound: its direction is enabled and FREE, the slot is in its mask. -/
def State.asrcSlotOk (s : State) (e : Nat) (v : W) : Bool :=
  let q := asrcPort e v
  let out := F.AU_ASRC_DIR.of v == 1
  s.dirOn q out && s.dirClock q out == clkFREE
    && (isAes q || (let m := s.word 0x3048 (tdmOf q) 0
        (if out then F.AU_TDM_MASK_TXMASK.of m else F.AU_TDM_MASK_RXMASK.of m).testBit (F.AU_ASRC_SLOT.of v)))

/-- A write of `AU_ASRC` word 0 (R158). -/
def putAsrc (s : State) (e : Nat) (v : W) : HostWrite × (State → Status × State) :=
  (⟨⟨0x3060, 0, e⟩, [(0, v)], 0, asrcRange s e v⟩, fun s =>
    let o := s.word 0x3060 e 0
    let bind := F.AU_ASRC_KIND.of v == 1
    if F.AU_ASRC_KIND.of o = 2 then (.busy, s)
    else if bind && !s.caps.auport then (.absent, s)
    else if bind && !s.asrcSlotOk e v then (.port, s)
    else if bind && (s.asrcBound (e / 64)).any (fun x => x.1 != e && F.AU_ASRC_PORT.of x.2 == F.AU_ASRC_PORT.of v
        && F.AU_ASRC_DIR.of x.2 == F.AU_ASRC_DIR.of v && F.AU_ASRC_SLOT.of x.2 == F.AU_ASRC_SLOT.of v) then (.target, s)
    else (.ok, (s.asrcFade e 2 (some (s.asrcWord e))).putWord 0x3060 e 0 v))

def execAuAsrcWrite (rq : Req) (e : Nat) (v : W) (s : State) : Host.Outcome State Fault Refusal :=
  let x := putAsrc s e v
  done (s.request rq x.1 x.2)

/-- The nominal ratio of a channel (R159), input to output: a 96 kHz slot into the grid, the grid into a 96 kHz slot, else 1:1. -/
def State.asrcNominal (s : State) (e : Nat) : Nat × Nat :=
  let v := s.word 0x3060 e 0
  let k := if F.AU_ASRC_KIND.of v = 1 then s.framesPer (asrcPort e v) else 1
  if F.AU_ASRC_DIR.of v = 0 then (k, 1) else (1, k)

/-- The tracked ratio lies within the range of R159. -/
def ratioOk (r : Int) : Bool := r.natAbs ≤ 2000000

/-- The departure of an FSYNC source's rate from house, in 0.001 ppm, by the capture times of its last two pictures (R159). -/
def State.captureRatio (s : State) (p : Nat) : Option Int :=
  let x := s.src p
  match format (pFormat (s.port false p)) with
  | some f =>
    let got := (x.cap1 - x.cap0) * f.num
    let due := 1000000000 * f.den
    if x.cap0 = 0 ∨ x.cap1 ≤ x.cap0 then none else some (roundDiv (((due : Int) - got) * 1000000000) got)
  | none => none

/-- The state of a channel's fade says that a new binding waits for its end (R158). -/
def State.asrcRebinds (s : State) (e : Nat) : Bool := s.ap.asrc.any fun x => x.e == e && x.bound.isSome

/-- A channel's input is tracked (R159, R160): one that acquires is LOCKED and fades in; one that was UNLOCKED acquires again (DEDUCED,
log 156: of two locks in a row the first shows ACQUIRE, since no other command says that the input has returned). -/
def State.asrcLocked (s : State) (e : Nat) (ratio : Int) : State :=
  let st := s.fld F.AU_ASRC_STATE e
  if s.asrcRebinds e || !ratioOk ratio then s
  else if st = srUNLOCKED then s.setAsrc e srACQUIRE
  else if st = srACQUIRE then ((s.setFld F.AU_ASRC_RATIO e (unsigned 32 ratio)).asrcFade e 1 none).setAsrc e srLOCKED
  else if st = srLOCKED then s.setFld F.AU_ASRC_RATIO e (unsigned 32 ratio)
  else s

/-- A channel's input has stopped or left the range. -/
def State.asrcUnlocked (s : State) (e : Nat) : State :=
  let st := s.fld F.AU_ASRC_STATE e
  if (st = srLOCKED ∨ st = srACQUIRE) ∧ s.asrcRebinds e = false then (s.asrcFade e 2 none).setAsrc e srUNLOCKED else s

/-- An FSYNC channel brought to the state and ratio that the deciding twin gives for it (R161). -/
def State.asrcMirror (s : State) (e st : Nat) (ratio : Int) : State :=
  let s := if st = srLOCKED then s.setFld F.AU_ASRC_RATIO e (unsigned 32 ratio) else s
  if s.fld F.AU_ASRC_STATE e = st then s
  else if st = srLOCKED then (s.asrcFade e 1 none).setAsrc e st
  else if st = srUNLOCKED then s.asrcUnlocked e
  else s.setAsrc e st

/-- The phase of an FSYNC channel (R161). -/
def State.setPhase (s : State) (e ph : Nat) : State :=
  { s with ap := { s.ap with phases := (e, ph) :: s.ap.phases.filter fun x => !(x.1 == e) } }

/-- ASRC_LOCK: FSYNC channels are tracked by the deciding twin (R161), by their source's capture times. -/
def State.asrcLock (s : State) (e : Nat) (ratio : Int) : State :=
  if s.fld F.AU_ASRC_KIND e = 2 then
    if s.decides then (s.asrcLocked e ((s.captureRatio (s.fld F.AU_ASRC_FSRC e)).getD ratio)).tellTwin else s
  else s.asrcLocked e ratio

def execAsrcLock (e : Nat) (ratio : Int) (s : State) : Host.Outcome State Fault Refusal := done (s.asrcLock e ratio)

/-- ASRC_UNLOCK. -/
def State.asrcUnlock (s : State) (e : Nat) : State :=
  if s.fld F.AU_ASRC_KIND e = 2 then (if s.decides then (s.asrcUnlocked e).tellTwin else s) else s.asrcUnlocked e

def execAsrcUnlock (e : Nat) (s : State) : Host.Outcome State Fault Refusal := done (s.asrcUnlock e)

/-- A picture of an FSYNC source starts: the deciding twin brings the ratio of its LOCKED channels and the phase of all of them up to date and
mirrors them with their states (R161). -/
def State.asrcTrack (s : State) (p : Nat) : State :=
  if !s.decides || (s.asrcOf p).isEmpty then s
  else
    let s := (s.asrcOf p).foldl (fun (s : State) e =>
      let s := match s.captureRatio p with
        | some r => if s.fld F.AU_ASRC_STATE e = srLOCKED ∧ ratioOk r = true then s.setFld F.AU_ASRC_RATIO e (unsigned 32 r) else s
        | none => s
      s.setPhase e ((s.src p).cap1 * 48000 % 1000000000)) s
    s.tellTwin

/-- FSYNC_PICTURE_START. -/
def execFsyncPictureStart (p count capture : Nat) (s : State) : Host.Outcome State Fault Refusal :=
  done (s.whileRunning fun s => (s.storeStart p count capture).asrcTrack p)

/-- PORT bindings that LOAD has restored acquire (R157). -/
def State.asrcLoad (s : State) : State :=
  (entriesOf s.regs 0x3060).foldl (fun (s : State) x => if F.AU_ASRC_KIND.of x.2 = 1 then s.setAsrc x.1 srACQUIRE else s) s

/-- One sample of a channel's fade; at the end of a fall the new binding stands. -/
def State.asrcSample (s : State) (x : AsrcRun) : State :=
  let stop := { s with ap := { s.ap with asrc := s.ap.asrc.filter fun y => !(y.e == x.e) } }
  if x.dir = 1 then (if 63 ≤ x.level then stop else s.setAsrcRun { x with level := x.level + 1 })
  else if 1 < x.level then s.setAsrcRun { x with level := x.level - 1 }
  else match x.bound with
    | none => stop
    | some _ => (stop.setFld F.AU_ASRC_RATIO x.e 0).setAsrc x.e (if s.fld F.AU_ASRC_KIND x.e = 0 then srIDLE else srACQUIRE)

/-- The channel status at a channel's input marks non-audio (R160): an AES3 subframe's, or that of the crosspoint channel routed to it. An
embedded channel carries none across the rigging (R136). -/
def State.asrcNonAudio (s : State) (status : List (Nat × Nat)) (e : Nat) : Bool :=
  let v := s.asrcWord e
  let d := e / 64
  if F.AU_ASRC_KIND.of v = 1 ∧ F.AU_ASRC_DIR.of v = 0 then
    8 ≤ F.AU_ASRC_PORT.of v
      && status.any fun x => x.1 == d * 16384 + 0x2200 + 2 * (F.AU_ASRC_PORT.of v - 8) + F.AU_ASRC_SLOT.of v && x.2 % 2 == 1
  else if F.AU_ASRC_KIND.of v = 2 then false
  else s.auWords.any fun x => x.1 / 8192 == d && auTType x.2 == tENDPOINT && auTIndex x.2 == 0x2300 + e % 64
      && s.isData x.1 (F.AU_DST_DATA.of x.2 == 1) (s.refNpcm (s.fld F.AU_DST_LIVE x.1))

/-- DATA while the mark stands, and back through ACQUIRE as it clears. -/
def State.asrcMark (s : State) (status : List (Nat × Nat)) (e : Nat) : State :=
  let st := s.fld F.AU_ASRC_STATE e
  if s.asrcNonAudio status e then (if st = srDATA then s else s.setAsrc e srDATA)
  else if st = srDATA then s.setAsrc e (if s.fld F.AU_ASRC_KIND e = 0 then srIDLE else srACQUIRE)
  else s

/-- The ASRC channels whose mark can change: those bound, those fed by a route, those that read DATA. -/
def State.asrcInUse (s : State) : List Nat :=
  dedup ((entriesOf s.regs 0x3060).map (·.1)
    ++ (s.auWords.filter fun x => auTType x.2 == tENDPOINT && 0x2300 ≤ auTIndex x.2).map (fun x => x.1 / 8192 * 64 + (auTIndex x.2 - 0x2300))
    ++ (s.regs.filter fun x => x.1.ix == 0x3060 && x.1.w == 1 && F.AU_ASRC_STATE.of x.2 == srDATA).map (·.1.e))

/-! ### The house sample -/

/-- AES3 errors of the sample's subframes (R144). -/
def State.codeErrors (s : State) (l : List (Nat × Nat)) : State :=
  l.foldl (fun s x => if isAes x.1 && (s.stream x.1 false).isSome then s.bump F.AU_PORT_STAT_CODEERR x.1 x.2 else s) s

/-- Streams that rejoined fade in (R153). -/
def State.streamFades (s : State) : State :=
  let go := fun (x : Stream) => if x.fade < 64 then { x with fade := x.fade + 1 } else x
  { s with ap := { s.ap with streams := s.ap.streams.map go } }

/-- The sample at the input of an ASRC channel: what the crosspoint delivers to its transmit endpoint. -/
def State.asrcInput (s : State) (e : Nat) : Int :=
  match s.auWords.find? fun x => x.1 / 8192 == e / 64 && auTType x.2 == tENDPOINT && auTIndex x.2 == 0x2300 + e % 64 with
  | some x => ((s.au.chans.find? fun c => c.id == x.1).map (·.out)).getD 0
  | none => 0

/-- The lines of the MATCH channels move on by a sample (R156, R159). -/
def State.matchLines (s : State) (used : List Nat) : State :=
  let l := (dedup (used ++ s.ap.lines.map (·.1))).filterMap fun e =>
    if F.AU_ASRC_KIND.of (s.asrcWord e) = 0 then
      let old := ((s.ap.lines.find? fun y => y.1 == e).map (·.2)).getD []
      let new := (s.asrcInput e :: old).take 64
      if new.all (· == 0) then none else some (e, new)
    else none
  { s with ap := { s.ap with lines := l } }

/-- AUDIO_SAMPLE. -/
def State.audioSample (s : State) (vals : List (Nat × Int)) (status : List (Nat × Nat)) (codeErr : List (Nat × Nat)) : State :=
  let s := s.crossSample vals status
  let used := s.asrcInUse
  let s := used.foldl (fun s e => s.asrcMark status e) s
  let s := s.ap.asrc.foldl (fun s x => s.asrcSample x) s
  ((s.matchLines used).codeErrors codeErr).streamFades

def execAudioSample (vals : List (Nat × Int)) (status codeErr : List (Nat × Nat)) (s : State) :
    Host.Outcome State Fault Refusal := done (s.whileRunning (·.audioSample vals status codeErr))

end Sys2Proof.Machine
end

