-- ==== Sys2Proof/Machine/Engines.lean ====
section
/-! DEFINITION. The control crossbar, the engines and the CRC units (chapter 14). -/
namespace Sys2Proof.Machine

/-! ### Targets (R350, R351, R354) -/

/-- Where a target stands in a die's control-plane address space, and its size (R350): T0 and T1 by REMAP. -/
def State.targetSpan (s : State) (d t : Nat) : Nat × Nat :=
  let remap := s.fld F.IC_REMAP_REMAP d == 1
  match t with
  | 0 => (if remap then 0x10000000 else 0, 0x40000)
  | 1 => (if remap then 0 else 0x10000000, 0xC00000)
  | 2 => (0x20000000, 0x4000000)
  | 3 => (0x8000000000, 0x2000000000)
  | 4 => (0xC000000000, 0x4000000000)
  | 5 => (0x30000000, 0x10000)
  | 6 => (0x31000000, 0x20000)
  | 7 => (0x32000000, 0x1000000)
  | 8 => (0x34000000, 0x300000)
  | _ => (0x38000000, 0x100000)

/-- The target of a die's address; none: the address lies in no target. -/
def State.targetAt (s : State) (d a : Nat) : Option Nat :=
  (List.range 10).find? fun t => let x := s.targetSpan d t; x.1 ≤ a && a < x.1 + x.2

/-- The master on which an idle port parks (R350). -/
def parksOn (t : Nat) : Nat := if t = 3 ∨ t = 8 then 6 else if t = 5 then 7 else if t = 6 ∨ t = 7 then 2 else 0

/-- The master that a port (die × 10 + target) has: the one whose piece takes it, else the one on which it parks. -/
def State.portMaster (s : State) (port : Nat) : Nat :=
  match s.ic.ports.find? fun y => y.port == port && s.now < y.until_ with
  | some y => y.last
  | none => parksOn (port % 10)

/-- The die that an address of T4 names. -/
def bridgeDie (a : Nat) : Nat := (a - 0xC000000000) / 0x800000000

/-- Targets marked for exclusives (R350). -/
def hasExclusives (t : Nat) : Bool := t == 1 || t == 3 || t == 8

/-- The access is answered with a decode error (R351, R354, R355). -/
def State.decodeFails (s : State) (d : Nat) (x : Access) : Bool :=
  match s.targetAt d x.addr with
  | none => true
  | some t =>
    (t == 4 && (bridgeDie x.addr == d || s.dies ≤ bridgeDie x.addr))
      || (t == 3 && !s.caps.fsync)
      || x.len == 0 || 256 < x.len || x.addr / 4096 != (x.addr + x.len - 1) / 4096
      || (x.excl && (!hasExclusives t || x.addr / 64 != (x.addr + x.len - 1) / 64))

/-! ### Monitors (R355) -/

def State.dropMonitors (s : State) (p : Monitor → Bool) : State :=
  { s with ic := { s.ic with monitors := s.ic.monitors.filter fun m => !p m } }

def State.answered (s : State) (code : Nat) (data : List Byte) : State := { s with ic := { s.ic with answer := some (code, data) } }

/-! ### Arbitration (R352–R354) -/

/-- A piece waits at the port of the target that its address now has: a piece granted after a change of REMAP uses the new mapping (R356). -/
def State.pieceAt (s : State) (port : Nat) (x : Piece) : Bool :=
  x.die == port / 10 && s.targetAt x.die x.addr == some (port % 10)

/-- Effective QoS of a piece at time `t`: the lower of 15 and QOS + ⌊w ÷ AGE⌋. -/
def effective (x : Piece) (t : Nat) : Nat := min 15 (x.qos + (t - x.since) / (x.age * nsUnits))

/-- How far a master stands behind the one granted last, round-robin. -/
def turn (last m : Nat) : Nat := (m + 11 - last % 12) % 12

/-- A piece goes before another: by effective QoS, then round-robin. -/
def before (last t : Nat) (x y : Piece) : Bool :=
  effective y t < effective x t || (effective x t == effective y t && turn last x.master < turn last y.master)

/-- The piece that a port serves next at time `t`. Of one master the pieces go in order (R354), the first of them standing for it
(DEDUCED, log 164). -/
def State.nextPiece (s : State) (port last t : Nat) : Option Piece :=
  (s.ic.pieces.filter fun x => s.pieceAt port x && x.since ≤ t).foldl (fun (b : Option Piece) x =>
    match b with
    | none => some x
    | some y => if x.master != y.master && before last t x y then some x else b) none

/-- A crossbar cycle, 1 ÷ 1.2 GHz, and how long a piece takes its port (R350): 16 bytes a cycle; at the DRAM port 8 GB/s. -/
def serviceUnits (target len : Nat) : Nat :=
  if target = 3 then (len * nsUnits + 7) / 8 else (len + 15) / 16 * (nsUnits * 5 / 6)

/-! ### What a granted piece does (R350, R354, R355)

The memories of the address space, T1, T3 and T8, give back what was last written; a byte that nothing has written is the part's own and free, as
are those of the boot ROM, which no write changes. Where objects, records and CRC units stand in T2, T5, T6, T7 and T9 is not said: a read there
gives free bytes (log 203). -/

/-- Targets that hold bytes as they were written. -/
def isRam (t : Nat) : Bool := t == 1 || t == 3 || t == 8

/-- The name of a byte of a target. -/
def ramAt (d t off : Nat) : Nat := (d * 16 + t) * 2 ^ 40 + off

/-- A byte of a memory or of the boot ROM. -/
def ramGet (m : List Host.Cell) (a : Nat) : Byte := ((m.find? fun x => x.1 == a).map (·.2)).getD (Config.ramByte a)

/-- The memories less those of the targets that `p` names. -/
def State.dropRam (s : State) (p : Nat → Bool) : State :=
  { s with ic := { s.ic with ram := s.ic.ram.filter fun x => !p (x.1 / 2 ^ 40 % 16) } }

/-- Where a line of a channel lies in its devices (R377): rank, row, bank group, bank and column. The widths are JESD79-5's for the density and
the organisation, and HASH takes the lowest row bits (PRESUMED, log 206). -/
def dramLine (v : W) (off : Nat) : Nat × Nat × Nat × Nat × Nat :=
  let n := off / 128
  let ranks := F.MM_CHANNEL_RANKS.of v + 1
  let rows := if F.MM_CHANNEL_DENS.of v = 2 then 131072 else 65536
  let banks := if F.MM_CHANNEL_DENS.of v = 0 then 2 else 4
  let cols := if F.MM_CHANNEL_WIDTH.of v = 0 then 128 else 64
  let order := F.MM_CHANNEL_ORDER.of v
  if order = 1 then (n / (cols * banks * 8 * rows), n / (cols * banks * 8) % rows, n / (cols * banks) % 8, n / cols % banks, n % cols)
  else if order = 2 then
    (n / (cols * 8 * banks) % ranks, n / (cols * 8 * banks * ranks), n / cols % 8, n / (cols * 8) % banks, n % cols)
  else
    let col := n / 32 % (cols / 4) * 4 + n % 4
    let group := n / 4 % 8
    let bank := n / (8 * cols) % banks
    let row := n / (8 * cols * banks) % rows
    let rank := n / (8 * cols * banks * rows)
    if order = 3 then (rank, row, group ^^^ (row / banks % 8), bank ^^^ (row % banks), col) else (rank, row, group, bank, col)

/-- A line at an offset of a die's DRAM port can be had (R377, R382): its channel is in service, and its rank, or the spare that answers as it, holds
data. -/
def State.lineServes (s : State) (d off : Nat) : Bool :=
  let c := d * 4 + off / 34359738368
  let v := s.chanConf c
  let r := (dramLine v (off % 34359738368)).1
  let spare := c * 4 + F.MM_CHANNEL_SPARE.of v
  s.chanServes c && r ≤ F.MM_CHANNEL_RANKS.of v
    && (s.rankServes (c * 4 + r)
      || (s.mm.retired.contains (c * 4 + r) && F.MM_CHANNEL_SPAREEN.of v == 1 && s.rankServes spare))

/-- `n` free bytes. -/
def State.freeBytes (s : State) (n : Nat) : List Byte × State :=
  ((List.range n).map fun i => BitVec.ofNat 8 (getBits (Config.free (s.fresh + i / 8)) (8 * (i % 8)) 8), { s with fresh := s.fresh + (n + 7) / 8 })

/-- Bytes read at a target. -/
def State.targetRead (s : State) (d t a n : Nat) : List Byte × State :=
  if isRam t || t == 0 then
    ((List.range n).map fun i => ramGet s.ic.ram (ramAt d t (a - (s.targetSpan d t).1 + i)), s)
  else s.freeBytes n

/-- Bytes written at a target. -/
def State.targetWrite (s : State) (d t a : Nat) (l : List Byte) : State :=
  if isRam t then
    let k := ramAt d t (a - (s.targetSpan d t).1)
    { s with ic := { s.ic with ram := l.zipIdx.foldl (fun m x => cellPut m (k + x.2) x.1) s.ic.ram } }
  else s

/-- The granules of `n` bytes from an address. -/
def inGranules (a n g : Nat) : Bool := a / 64 ≤ g && g ≤ (a + n - 1) / 64

/-- Monitors that are 256 ns old. -/
def State.expireMonitors (s : State) (t : Nat) : State := s.dropMonitors fun m => m.set_ + 256 * nsUnits ≤ t

/-- A write of a master at a target: its bytes, and the monitors of the others on their granules. -/
def State.writeGranules (s : State) (d master t a : Nat) (l : List Byte) : State :=
  (s.targetWrite d t a l).dropMonitors fun m => m.die == d && m.target == t && m.master != master && inGranules a l.length m.granule

/-- The bytes that a write carries: one for each of its length. -/
def fitBytes (n : Nat) (l : List Byte) : List Byte := (List.range n).map fun i => l.getD i 0

/-- A read piece's bytes join those of its burst; its last answers it. -/
def State.pieceRead (s : State) (target : Nat) (x : Piece) : State :=
  let r := s.targetRead x.die target x.addr x.len
  let s := r.2
  let mine := fun (y : Nat × Nat × Nat × List Byte) => y.1 == x.die && y.2.1 == x.master && y.2.2.1 == x.start
  let l := ((s.ic.got.find? mine).map (·.2.2.2)).getD [] ++ r.1
  let rest := s.ic.got.filter fun y => !mine y
  if x.last then ({ s with ic := { s.ic with got := rest } }).answered 0 l
  else { s with ic := { s.ic with got := (x.die, x.master, x.start, l) :: rest } }

/-- A burst goes into the die's log, and a BURST-ABORT record is written. -/
def State.logAbort (s : State) (d : Nat) (b : Burst) (cleared : Bool) : State :=
  let k := s.ic.abortNext.getD d 0
  let w0 := F.IC_ABORT_LOG_ADDRESS.put (F.IC_ABORT_LOG_CAUSE.put (F.IC_ABORT_LOG_TOTAL.put (F.IC_ABORT_LOG_DONE.put
    (F.IC_ABORT_LOG_EXCL.put (F.IC_ABORT_LOG_WRITE.put (F.IC_ABORT_LOG_TARGET.put (F.IC_ABORT_LOG_MASTER.put 0 b.master) b.target)
      (flag b.write)) (flag cleared)) b.done) b.total) (flag b.failed)) b.addr
  let r := s.raiseSeq 0x6802 .notice d (w0.toNat / 2 ^ 32) (w0.toNat % 2 ^ 32) k false
  let s := (r.1.setWord 0x6818 (d * 8 + k) 0 w0).setWord 0x6818 (d * 8 + k) 1 (F.IC_ABORT_LOG_PSEQ.put 0 r.2)
  { s with ic := { s.ic with abortNext := s.ic.abortNext.set d ((k + 1) % 8) } }

/-- Beats of 16 bytes. -/
def beats (n : Nat) : Nat := (n + 15) / 16

/-- The rest of a burst at a target that has failed: answered with an error, and logged (R357). -/
def State.pieceFails (s : State) (target : Nat) (x : Piece) : State :=
  let mine := fun (y : Piece) => y.die == x.die && y.master == x.master && y.start == x.start
  let s := { s with ic := { s.ic with
    pieces := s.ic.pieces.filter fun y => !mine y
    got := s.ic.got.filter fun y => !(y.1 == x.die && y.2.1 == x.master && y.2.2.1 == x.start) } }
  let s := (s.bump F.IC_XBAR_STAT_ERRORS (x.die * 10 + target) 1).answered 1
    (if x.write then [] else List.replicate (x.start + x.total - x.addr) 0xFF)
  s.logAbort x.die ⟨x.master, target, x.write, beats (x.addr - x.start), beats x.total, x.start, true, []⟩ false

/-- What a granted piece does to its target and to the monitors (R355), and how its burst is answered when it is the last. -/
def State.carriedPiece (s : State) (target t : Nat) (x : Piece) : State :=
  let mine := fun (m : Monitor) => m.die == x.die && m.master == x.master && m.target == target
  let s := s.expireMonitors t
  let holds := s.ic.monitors.any fun m => mine m && m.granule == x.addr / 64
  let put := fun (s : State) => s.writeGranules x.die x.master target x.addr (fitBytes x.len x.data)
  if x.write then
    if x.excl then
      let s := s.dropMonitors mine
      if holds then (put s).answered 0 [] else s.answered 2 []
    else if x.last then (put s).answered 0 [] else put s
  else if x.excl then
    let s := s.dropMonitors mine
    ({ s with ic := { s.ic with monitors := ⟨x.die, x.master, target, x.addr / 64, t⟩ :: s.ic.monitors } }).pieceRead target x
  else s.pieceRead target x

/-- The answer to an access in error (R351): a read returns all ones; counted and recorded. An address in no target is counted at a target that
the rule leaves open. -/
def State.accessError (s : State) (d master addr len : Nat) (write : Bool) : State :=
  let f := s.takeFree
  let t := (s.targetAt d addr).getD (f.2.toNat % 10)
  let s := if (s.targetAt d addr).isSome then s else f.1
  let s := (s.bump F.IC_XBAR_STAT_ERRORS (d * 10 + t) 1).answered 1 (if write then [] else List.replicate len 0xFF)
  s.raise 0x6801 d master t (addr / 256 % 2 ^ 32)

/-- A piece that the bridge carries goes on at the die it names, from that die's M10 (R350). -/
def State.bridgePiece (s : State) (t : Nat) (x : Piece) : State :=
  let d := bridgeDie x.addr
  let y : Piece := { x with die := d, master := 10, qos := s.fld F.IC_QOS_QOS (d * 12 + 10), age := s.fld F.IC_AGE_AGE 0, since := t,
                            addr := (x.addr - 0xC000000000) % 0x800000000 }
  if (s.targetAt d y.addr).isSome then { s with ic := { s.ic with pieces := s.ic.pieces ++ [y] } }
  else s.accessError d 10 y.addr x.len x.write

/-- A port grants a piece at time `t`: PIECES, MAXWAIT and AGED of R359. -/
def State.grant (s : State) (port t : Nat) (x : Piece) : State :=
  let n := port % 10
  let wait := (t - x.since) / nsUnits
  let aged := x.qos < effective x t
  let s := s.bump F.IC_XBAR_STAT_PIECES port 1
  let s := s.setFld F.IC_XBAR_STAT_MAXWAIT port (min (2 ^ 32 - 1) (max wait (s.fld F.IC_XBAR_STAT_MAXWAIT port)))
  let s := if aged then s.bump F.IC_XBAR_STAT_AGED port 1 else s
  let s := { s with ic := { s.ic with
    pieces := s.ic.pieces.erase x
    ports := ⟨port, x.master, t + serviceUnits n x.len⟩ :: s.ic.ports.filter fun y => !(y.port == port) } }
  if n = 4 then s.bridgePiece t x
  else if n = 3 && !s.lineServes x.die (x.addr - (s.targetSpan x.die 3).1) then s.pieceFails n x
  else s.carriedPiece n t x

/-- A port's grants up to now, `fuel` of them at most: each is made when the port is free and a piece waits. -/
def State.runPort (s : State) (port : Nat) : Nat → State
  | 0 => s
  | fuel + 1 =>
    let p := (s.ic.ports.find? fun y => y.port == port).getD ⟨port, 11, 0⟩
    match (s.ic.pieces.filter fun x => s.pieceAt port x).map (·.since) with
    | [] => s
    | a :: l =>
      let t := max p.until_ (l.foldl min a)
      if s.now < t then s
      else match s.nextPiece port p.last t with
        | none => s
        | some x => (s.grant port t x).runPort port fuel

/-- Every port's grants up to now: the bridges' first, whose pieces go on to other dies. -/
def State.runCrossbar (s : State) : State :=
  let ports := (List.range (s.dies * 10)).filter (· % 10 == 4) ++ (List.range (s.dies * 10)).filter (· % 10 != 4)
  ports.foldl (fun (s : State) p => s.runPort p s.ic.pieces.length) s

/-- The pieces of a burst: one longer than 64 bytes is cut at 64-byte-aligned boundaries (R354). -/
def burstPieces (d master qos age now : Nat) (x : Access) : List Piece :=
  if x.len ≤ 64 then [⟨d, master, qos, age, now, x.addr, x.len, x.addr, x.len, x.write, x.excl, true, x.data⟩]
  else
    let n := (x.addr + x.len - 1) / 64 - x.addr / 64 + 1
    (List.range n).map fun i =>
      let a := max x.addr ((x.addr / 64 + i) * 64)
      let b := min (x.addr + x.len) ((x.addr / 64 + i + 1) * 64)
      ⟨d, master, qos, age, now, x.addr, x.len, a, b - a, x.write, x.excl, i + 1 == n, (x.data.drop (a - x.addr)).take (b - a)⟩

/-- An access that meets no error: its pieces wait at the target's port, which grants them in its order. -/
def State.carriedAccess (s : State) (d master : Nat) (x : Access) : State :=
  let s := s.runCrossbar
  let l := burstPieces d master (s.fld F.IC_QOS_QOS (d * 12 + master)) (s.fld F.IC_AGE_AGE 0) s.now x
  ({ s with ic := { s.ic with pieces := s.ic.pieces ++ l } }).runCrossbar

/-- The test port issues nothing outside MANUFACTURE and RETURN (R349). -/
def State.masterSilent (s : State) (master : Nat) : Bool := 12 ≤ master || (master == 11 && !s.sys.testPort)

/-- DECODE_ERROR: an access that meets an error is answered with it; one that meets none is carried. -/
def State.decodeError (s : State) (d master : Nat) (x : Access) : State :=
  if s.masterSilent master || s.dies ≤ d then s
  else if !s.decodeFails d x then s.carriedAccess d master x
  else s.accessError d master x.addr x.len x.write

def execDecodeError (d master : Nat) (x : Access) (s : State) : Host.Outcome State Fault Refusal := done (s.decodeError d master x)

/-- EXCL_MONITOR_EXPIRE: 256 ns after the monitor was set. -/
def State.monitorExpire (s : State) (d master t : Nat) : State :=
  let mine := fun (m : Monitor) => m.die == d && m.master == master && m.target == t
  match s.ic.monitors.find? mine with
  | none => s
  | some m => ((s.waitUntil (m.set_ + 256 * nsUnits)).dropMonitors mine).runCrossbar

def execExclMonitorExpire (d master target : Nat) (s : State) : Host.Outcome State Fault Refusal :=
  done (s.monitorExpire d master target)

/-! ### Bursts cut short (R357, R358) -/

/-- Bursts of a master that are under way, some of their pieces granted and others waiting: each as the log gives it (a granted piece counts as
done: DEDUCED, log 204). -/
def State.cutBursts (s : State) (d master : Nat) : List Burst :=
  let l := s.ic.pieces.filter fun x => x.die == d && x.master == master
  let starts := (l.map (·.start)).eraseDups
  starts.filterMap fun a => match l.find? fun x => x.start == a with
    | some x =>
      if x.addr = a then none
      else (s.targetAt d a).map fun t => ⟨master, t, x.write, beats (x.addr - a), beats x.total, a, false, []⟩
    | none => none

/-- A master is reset (R357): its pieces not yet granted are withdrawn, its monitors cleared, its bursts under way logged. -/
def State.resetMaster (s : State) (d master : Nat) : State :=
  let s := s.runCrossbar.expireMonitors s.now
  let mine := fun (m : Monitor) => m.die == d && m.master == master
  let cut := s.cutBursts d master
  let cleared := s.ic.monitors.any mine
  let ic := { s.ic with
    pieces := s.ic.pieces.filter fun x => !(x.die == d && x.master == master)
    got := s.ic.got.filter fun y => !(y.1 == d && y.2.1 == master) }
  cut.foldl (fun (s : State) b => s.logAbort d b cleared) (({ s with ic := ic }).dropMonitors mine)

/-- Masters reset on every die, of those that have a piece waiting or a monitor set. -/
def State.resetMasters (s : State) (l : List Nat) : State :=
  let all := (s.ic.pieces.map fun x => (x.die, x.master)) ++ s.ic.monitors.map fun m => (m.die, m.master)
  (all.eraseDups.filter fun x => l.contains x.2).foldl (fun (s : State) x => s.resetMaster x.1 x.2) s

/-- The beats that the master completed of a burst that no access brought here before: their pieces are granted, their bytes written, the others'
monitors on their granules cleared. -/
def State.beatsDone (s : State) (d : Nat) (b : Burst) : State :=
  if s.ic.pieces.any fun x => x.die == d && x.master == b.master && x.start == b.addr then s
  else
    let n := 16 * b.done
    let s := s.bump F.IC_XBAR_STAT_PIECES (d * 10 + b.target) (if n = 0 then 1 else (b.addr + n - 1) / 64 - b.addr / 64 + 1)
    if b.write && n != 0 then s.writeGranules d b.master b.target b.addr (fitBytes n b.data) else s

/-- BURST_ABORT: a master is reset in the middle of a burst, or a target fails, when the remaining beats of what goes there are answered with an
error. -/
def State.burstAbort (s : State) (d : Nat) (b : Burst) : State :=
  if s.masterSilent b.master || s.dies ≤ d || 10 ≤ b.target then s
  else
    let s := (s.runCrossbar.expireMonitors s.now).beatsDone d b
    let mine := fun (m : Monitor) => m.die == d && m.master == b.master
    let gone := fun (x : Piece) => x.die == d && x.master == b.master && (!b.failed || s.pieceAt (d * 10 + b.target) x)
    let t := { s with ic := { s.ic with pieces := s.ic.pieces.filter fun x => !gone x } }
    let t := if b.failed then (t.bump F.IC_XBAR_STAT_ERRORS (d * 10 + b.target) 1).answered 1
        (if b.write then [] else List.replicate (16 * (b.total - b.done)) 0xFF)
      else t.dropMonitors mine
    t.logAbort d b (!b.failed && s.ic.monitors.any mine)

def execBurstAbort (d : Nat) (b : Burst) (s : State) : Host.Outcome State Fault Refusal := done (s.burstAbort d b)

/-! ### Arbitration objects (R353) -/

/-- A write of `IC_QOS`: M6, M7, M8 and M11 are writable. It applies from the next piece the master issues, as one of `IC_AGE` does. -/
def putQos (e : Nat) (v : W) : HostWrite × (State → Status × State) :=
  let m := e % 12
  (⟨⟨0x6808, 0, e⟩, [(0, v)], 0, (m == 6 || m == 7 || m == 8 || m == 11) && F.IC_QOS_RESERVED.of v == 0 && v.toNat < 256⟩,
    fun s => (.ok, s.putWord 0x6808 e 0 v))

/-- A write of `IC_AGE`. -/
def putAge (v : W) : HostWrite × (State → Status × State) :=
  (⟨⟨0x680C, 0, 0⟩, [(0, v)], 0, 16 ≤ v.toNat && v.toNat ≤ 1024⟩, fun s => (.ok, s.putWord 0x680C 0 0 v))

/-! ### Engines (R360–R364) -/

/-- A spare essence engine of a die: the part takes the lowest-numbered one (DESIGN CHOICE, as R360 leaves placement open). -/
def State.spareEngine (s : State) (d : Nat) : Option Nat := ((List.range 18).map (d * 24 + ·)).find? fun e => s.engine e == engSPARE

/-- Ports of engine `e` handed to engine `n`, which is then ACTIVE. -/
def State.handPorts (s : State) (e n : Nat) : State :=
  let hand := fun (x : Bool × Nat × Nat) => if x.2.2 = e then (x.1, x.2.1, n) else x
  let s := { s with ic := { s.ic with place := s.ic.place.map hand } }
  (((s.bump F.IC_ENGINE_MOVES e 1).bump F.IC_ENGINE_MOVES n 1).setEngine n engACTIVE)

/-- Ports, each with its slots, placed on engines with so much room; none: in no way do they fit. -/
def fitPorts (engines : List Nat) : List (Bool × Nat × Nat) → (Nat → Nat) → Option (List (Bool × Nat × Nat))
  | [], _ => some []
  | x :: l, room => engines.findSome? fun e =>
    if x.2.2 ≤ room e then (fitPorts engines l fun k => if k = e then room k - x.2.2 else room k).map ((x.1, x.2.1, e) :: ·) else none

/-- The placed ports that `p` names put on the engines of a list, beside what else these carry, at 96 slots per engine and direction. -/
def State.refit (s : State) (engines : List Nat) (p : Bool × Nat × Nat → Bool) : Option (List (Bool × Nat × Nat)) :=
  let rest := s.ic.place.filter fun x => !p x
  let side := fun (dst : Bool) =>
    let l := (s.ic.place.filter fun x => p x && x.1 == dst).map fun x => (x.1, x.2.1, pSlots (s.port x.1 x.2.1))
    fitPorts engines (l.mergeSort fun a b => b.2.2 ≤ a.2.2) fun n => 96 - placedSlots s.regs rest dst n
  match side false, side true with
  | some a, some b => some (rest ++ a ++ b)
  | _, _ => none

/-- The ports of an engine spread over the other engines in service: beside what these carry where that fits, else all the die's ports afresh;
none: they do not fit. -/
def State.spreadPorts (s : State) (e : Nat) : Option (List (Bool × Nat × Nat)) :=
  let others := (s.healthyEngines (engDie e)).filter (· != e)
  match s.refit others fun x => x.2.2 == e with
  | some l => some l
  | none => s.refit others fun x => engDie x.2.2 == engDie e

/-- Moves into and out of engines counted (R361): the engines whose ports a new placement changes. -/
def State.countMoves (s : State) (new : List (Bool × Nat × Nat)) : State :=
  let out := s.ic.place.filter fun x => !new.contains x
  let into := new.filter fun x => !s.ic.place.contains x
  ((out ++ into).map (·.2.2)).eraseDups.foldl (fun (s : State) e => s.bump F.IC_ENGINE_MOVES e 1) s

/-- The FAILED mark of an engine, kept with the saved settings (R364). -/
def State.retain (s : State) (e : Nat) : State :=
  let s := { s with ic := { s.ic with retained := if s.ic.retained.contains e then s.ic.retained else s.ic.retained ++ [e],
                                      restoring := s.ic.restoring.filter (· != e) } }
  ((s.setFld F.IC_ENGINE_RETAINED e 1).setEngine e engFAILED).markDirty

/-- The port streams received whose engine a new placement changes restart with the hunt of R50 in the engine that takes them over (R362). -/
def State.huntMoved (s : State) (new : List (Bool × Nat × Nat)) : State :=
  (s.ic.place.filter fun x => !new.contains x && x.1 == s.rxTable).foldl (fun (s : State) x =>
    let v := s.port x.1 x.2.1
    if pLocal v then s
    else (s.setRxStream { s.rxStream x.2.1 with hunt := true, skip := 0 }).bump F.ES_RX_COUNTS_HUNT (pDie v * 64 + pLane v) 1) s

/-- A MOVE that an engine of it fails in is abandoned (R363): the engines stand as before. -/
def State.abandonMove (s : State) (e : Nat) : State :=
  match s.ic.moving.find? fun x => x.1 == e || x.2.1 == e with
  | none => s
  | some x =>
    let s := { s with ic := { s.ic with moving := s.ic.moving.filter (· != x) } }
    let s := if x.2.1 = x.1 then s else s.setEngine x.2.1 engSPARE
    s.setEngine x.1 engACTIVE

/-- The crossbar master that an engine is (R349). -/
def engMaster (e : Nat) : Option Nat := match engNo e with | 18 => some 3 | 19 => some 4 | 20 => some 5 | 21 => some 0 | 22 => some 1 | 23 => some 2 | _ => none

/-- ENGINE_FAIL (R362): the engine reads FAILED and its work moves; a die that cannot carry it on is isolated. -/
def State.engineOut (s : State) (e cause : Nat) (report : State → Level → Nat → State) : State :=
  let d := engDie e
  let st := s.engine e
  if s.dies ≤ d || st == engFAILED || s.sys.isolated.contains d then s
  else
    let s := if cause = 3 then s.bump F.IC_ENGINE_STFAIL e 1 else s
    let s := s.abandonMove e
    let s := match engMaster e with | some m => s.resetMaster d m | none => s
    let carries := s.ic.place.any fun x => x.2.2 == e
    let dieFault := fun (s : State) => report (s.retain e) .isolate 0xFFFF
    if isEssence e then
      let s := s.setEngine e engFAILED
      if !carries then report (s.retain e) .degrade 0xFFFF
      else match s.spareEngine d with
        | some n => report (((s.huntMoved (s.ic.place.filter fun x => x.2.2 != e)).handPorts e n).retain e) .degrade n
        | none =>
          match s.spreadPorts e with
          | some pl =>
            let s := (s.huntMoved pl).countMoves pl
            report (({ s with ic := { s.ic with place := pl } }).retain e) .degrade 0xFFFF
          | none => dieFault s
    else if isMix e then
      let moved := s.mixChannels e
      if 3 ≤ (s.mixes d).length || !(s.mixes d).contains e then
        let f := s.takeFree
        let s := moved.foldl (fun s c => s.silence c (f.2.toNat % 6)) f.1
        let s := if moved.isEmpty then s else (s.mixes d).foldl (fun (s : State) m => s.bump F.IC_ENGINE_MOVES m 1) s
        report (s.retain e) .degrade 0xFFFF
      else dieFault s
    else if isSpar e then
      let other := if engNo e = 21 then e + 1 else e - 1
      if s.engine other = engFAILED then dieFault s
      else
        let s := if engNo e = 21 ∧ d = s.mastDie then s.setFld F.SY_IDENTITY_HANDOVER 0 1 else s
        report (s.retain e) .degrade other
    else dieFault s

/-- An engine fails: with its record, DEGRADE, or ISOLATE where it is a die fault (R362, R412). -/
def State.engineFail (s : State) (e cause : Nat) : State :=
  s.engineOut e cause fun s l goal => s.raiseAt 0x6803 l (engDie e) e cause goal false

def execEngineFail (e cause : Nat) (s : State) : Host.Outcome State Fault Refusal := done (s.engineFail e cause)

/-- An engine begins to hand its work over, to a spare or, a mix engine, to the other two (R363): both read MOVING until the next sheet
boundary. -/
def State.beginMove (s : State) (e n : Nat) (retire : Bool) : State :=
  let s := { s with ic := { s.ic with moving := s.ic.moving ++ [(e, n, retire)] } }
  let s := s.setEngine e engMOVING
  if n = e then s else s.setEngine n engMOVING

/-- A sheet boundary: what was to be handed over is (R363). -/
def State.endMoves (s : State) : State :=
  s.ic.moving.foldl (fun (s : State) x =>
    let s := { s with ic := { s.ic with moving := s.ic.moving.filter (· != x) } }
    let s := if x.2.1 = x.1 then (s.mixes (engDie x.1)).foldl (fun (s : State) m => s.bump F.IC_ENGINE_MOVES m 1) s
      else s.handPorts x.1 x.2.1
    if x.2.2 then s.retain x.1 else s.setEngine x.1 engSPARE) s

/-- A firmware hand-over is running (R427): from its acceptance until TRIAL begins. -/
def State.handingOver (s : State) : Bool := s.fld F.FW_STATE_STATE 0 == 3 || s.fld F.FW_STATE_STATE 0 == 4

/-- A write of `IC_ENG_CMD` (R363). -/
def putEngCmd (e : Nat) (v : W) : HostWrite × (State → Status × State) :=
  let c := F.IC_ENG_CMD_COMMAND.of v
  let named := if c = 1 ∨ c = 4 then isEssence e else if c = 2 ∨ c = 3 then isEssence e || isMix e else false
  (⟨⟨0x6828, 0, e⟩, [(0, v)], 0, named && F.IC_ENG_CMD_RESERVED.of v == 0 && v.toNat < 65536⟩, fun s =>
    let st := s.engine e
    let d := engDie e
    let inState :=
      if c = 1 then st == engACTIVE
      else if c = 2 then if isEssence e then st == engACTIVE || st == engSPARE
        else st == engACTIVE && 3 ≤ (s.mixes d).length
      else if c = 3 then st == engFAILED
      else st == engSPARE
    if !s.admits then (.mode, s)
    else if s.handingOver || !inState || ((c == 1 || c == 2) && (s.spareEngine d).isNone) then (.busy, s)
    else
      (.ok,
        if c = 1 then s.beginMove e ((s.spareEngine d).getD e) false
        else if c = 2 then
          if isMix e then s.beginMove e e true
          else if st = engACTIVE then s.beginMove e ((s.spareEngine d).getD e) true
          else s.retain e
        else if c = 3 then
          { s with ic := { s.ic with restoring := e :: s.ic.restoring.filter (· != e) } }.setEngine e engTESTING
        else s.setEngine e engTESTING))

def execEngineMove (rq : Req) (e : Nat) (v : W) (s : State) : Host.Outcome State Fault Refusal :=
  let x := putEngCmd e (F.IC_ENG_CMD_COMMAND.put v 1)
  done (s.request rq x.1 x.2)

def execEngineRetire (rq : Req) (e : Nat) (v : W) (s : State) : Host.Outcome State Fault Refusal :=
  let x := putEngCmd e (F.IC_ENG_CMD_COMMAND.put v 2)
  done (s.request rq x.1 x.2)

def execEngineRestore (rq : Req) (e : Nat) (v : W) (s : State) : Host.Outcome State Fault Refusal :=
  let x := putEngCmd e (F.IC_ENG_CMD_COMMAND.put v 3)
  done (s.request rq x.1 x.2)

def execEngineTest (rq : Req) (e : Nat) (v : W) (s : State) : Host.Outcome State Fault Refusal :=
  let x := putEngCmd e (F.IC_ENG_CMD_COMMAND.put v 4)
  done (s.request rq x.1 x.2)

/-- ENGINE_TEST_DONE (R363): RESTORE clears the mark of an engine that passes. -/
def State.engineTestDone (s : State) (e : Nat) (pass : Bool) : State :=
  if s.engine e != engTESTING then s
  else if s.ic.restoring.contains e then
    let s := { s with ic := { s.ic with restoring := s.ic.restoring.filter (· != e) } }
    if pass then
      let s := { s with ic := { s.ic with retained := s.ic.retained.filter (· != e) } }
      let s := ((s.setFld F.IC_ENGINE_RETAINED e 0).putBack .engine (engDie e) e).markDirty
      s.setEngine e (if isMix e then engACTIVE else engSPARE)
    else (s.bump F.IC_ENGINE_STFAIL e 1).setEngine e engFAILED
  else if pass then s.setEngine e engSPARE
  else s.engineFail e 3

def execEngineTestDone (e : Nat) (pass : Bool) (s : State) : Host.Outcome State Fault Refusal := done (s.engineTestDone e pass)

/-! ### CRC units (R366–R371) -/

/-- The `w` low bits of a number, reversed. -/
def revBits (w v : Nat) : Nat := (List.range w).foldl (fun r i => r * 2 + v / 2 ^ i % 2) 0

/-- One bit into the register (R367). -/
def crcBit (w poly reg : Nat) (b : Bool) : Nat :=
  let top := (reg / 2 ^ (w - 1) % 2 == 1) != b
  let r := reg * 2 % 2 ^ w
  if top then r ^^^ poly else r

/-- One byte, most significant bit first. -/
def crcByte (w poly : Nat) (refin : Bool) (reg : Nat) (b : Byte) : Nat :=
  let v := if refin then revBits 8 b.toNat else b.toNat
  [7, 6, 5, 4, 3, 2, 1, 0].foldl (fun r i => crcBit w poly r (v.testBit i)) reg

/-- The CRC of a byte string (R367). -/
def crcOf (w poly init : Nat) (refin refout finv : Bool) (l : List Byte) : Nat :=
  let r := l.foldl (crcByte w poly refin) (init % 2 ^ w)
  let r := if refout then revBits w r else r
  if finv then r ^^^ (2 ^ w - 1) else r

/-- CRC-32C. -/
def crc32c (l : List Byte) : Nat := crcOf 32 0x1EDC6F41 0xFFFFFFFF true true true l

/-- A word's bytes, most significant first. -/
def wordBytes (n : Nat) (v : W) : List Byte := (List.range n).map fun i => BitVec.ofNat 8 (v.toNat / 2 ^ (8 * (n - 1 - i)))

/-- Bytes of a DRAM channel in use (R375): its ranks, less the spare. -/
def chanBytes (v : W) : Nat :=
  let devices := if F.MM_CHANNEL_WIDTH.of v = 0 then 16 else 8
  let rank := devices * 2 ^ (30 + F.MM_CHANNEL_DENS.of v)
  if F.MM_CHANNEL_EN.of v = 0 then 0 else (F.MM_CHANNEL_RANKS.of v + 1 - F.MM_CHANNEL_SPAREEN.of v) * rank

/-- A range of DRAM bytes lies within the die's DRAM (R377): 32 GiB for each channel. -/
def State.dramHolds (s : State) (d first count : Nat) : Bool :=
  let win := 34359738368
  first + count ≤ 4 * win &&
    (List.range 4).all fun c =>
      let lo := max first (c * win)
      let hi := min (first + count) ((c + 1) * win)
      hi ≤ lo || hi ≤ c * win + chanBytes (s.chanConf (d * 4 + c))

/-- The object that a CRC job reads: an array held in SRAM or DRAM (R343, R369 check 3). -/
def crcObject (ix : Nat) : Option Obj :=
  match findObj ix 0 with
  | some o => if o.isArray && (storeOf o == 1 || storeOf o == 2) then some o else none
  | none => none

/-- Word `w` of a CRC job: as carried, or as it stands. -/
def State.crcWord (s : State) (u : Nat) (ws : List (Nat × W)) (w : Nat) : W := newWord ws w (s.word 0x6830 u w)

/-- Check 1 of R369 beyond rights, for a START. -/
def State.crcRange (s : State) (u : Nat) (ws : List (Nat × W)) : Bool :=
  let w1 := s.crcWord u ws 1
  let w := F.IC_CRC_WIDTH.of w1
  let small := fun (k : Nat) => (s.crcWord u ws k).toNat < 2 ^ w
  let n := (s.crcWord u ws 6).toNat
  8 ≤ w && w ≤ 64 && F.IC_CRC_RESERVED1.of w1 == 0 && small 2 && small 3 && small 4 && n != 0
    && (F.IC_CRC_SRC.of (s.crcWord u ws 0) == 1 || n ≤ 4294967296)

/-- Checks 2 to 4 of R369. -/
def State.crcSource (s : State) (rq : Req) (u : Nat) (ws : List (Nat × W)) : Option Status :=
  let w0 := s.crcWord u ws 0
  let first := (s.crcWord u ws 5).toNat
  let n := (s.crcWord u ws 6).toNat
  if F.IC_CRC_SRC.of w0 = 0 then
    if rq.cls != .maintain then some .rights
    else if s.caps.fsync && !s.dramHolds (u / 4) first n then some .range
    else if !s.caps.fsync then some .absent
    else none
  else
    let ix := F.IC_CRC_INDEX.of w0
    match findObj ix 0 with
    | none => some .range
    | some o =>
      if !rq.cls.within o.rd then some .rights
      else if (crcObject ix).isNone || lastElem s.caps o < first + n - 1
          || (perDieOf o != 0 && (first / perDieOf o != u / 4 || (first + n - 1) / perDieOf o != u / 4)) then some .range
      else if !s.caps.has o.unit_ then some .absent
      else none

def crIDLE : Nat := 0
def crRUNNING : Nat := 1
def crDONE : Nat := 2
def crABORTED : Nat := 3

/-- The words of a job stored, word 0 with OP 0. -/
def State.storeCrc (s : State) (u : Nat) (ws : List (Nat × W)) : State :=
  ws.foldl (fun s x => s.setWord 0x6830 u x.1 (if x.1 = 0 then F.IC_CRC_OP.put x.2 0 else x.2)) s

/-- The bytes that a host job reads: COUNT of them, or those of COUNT elements (R368). -/
def State.crcTotal (s : State) (u : Nat) : Nat :=
  let n := (s.word 0x6830 u 6).toNat
  if s.fld F.IC_CRC_SRC u = 0 then n
  else match findObj (s.fld F.IC_CRC_INDEX u) 0 with
    | some o => n * (o.acc.length * o.typ.bytes)
    | none => n

/-- Bytes processed of a job that runs (R368, R370), where one looks. How far it has come is not said: a free value, in whole 64-byte pieces,
from what has been seen before to the job's end. -/
def State.crcProgress (s : State) (u : Nat) : State :=
  if s.fld F.IC_CRC_STATE u != 1 then s
  else
    let f := s.takeFree
    let done := s.fld F.IC_CRC_DONEBYTES u
    f.1.setFld F.IC_CRC_DONEBYTES u (done + f.2.toNat % (s.crcTotal u - done + 1) / 64 * 64)

/-- A write of `IC_CRC` (R369). Of a word 0 with OP 0 nothing is judged (R70). -/
def putCrc (s : State) (rq : Req) (u : Nat) (ws : List (Nat × W)) : HostWrite × (State → Status × State) :=
  let w0 := (ws.find? fun x => x.1 == 0).map (·.2)
  let op := match w0 with | some v => F.IC_CRC_OP.of v | none => 0
  let zero := ws.all fun x => (x.1 != 0 || op == 0 || F.IC_CRC_RESERVED.of x.2 == 0) && (x.1 != 1 || F.IC_CRC_RESERVED1.of x.2 == 0)
  (⟨⟨0x6830, 0, u⟩, ws, op, op != 3 && zero && (op != 1 || s.crcRange u ws)⟩, fun s =>
    let running := s.fld F.IC_CRC_STATE u == crRUNNING
    if op = 2 then
      if !running then (.busy, s)
      else
        let s := (s.crcProgress u).resetMaster (u / 4) 7
        let s := s.bump F.IC_CRC_USE_JOBS (u / 4) 1
        (.ok, s.setNotify F.IC_CRC_STATE u crABORTED)
    else if op = 1 then
      match s.crcSource rq u ws with
      | some st => (st, s)
      | none =>
        if running then (.busy, s)
        else
          let s := s.storeCrc u ws
          let s := (s.setWord 0x6830 u 7 (F.IC_CRC_STATE.put 0 (s.fld F.IC_CRC_STATE u))).setWord 0x6830 u 8 0
          (.ok, s.setNotify F.IC_CRC_STATE u crRUNNING)
    else if running then (.busy, s)
    else (.ok, s.storeCrc u (ws.filter fun x => x.1 != 0)))

/-- The words that CRC_START writes: OP start in word 0, which is written alone where no word is given. -/
def State.crcWrites (s : State) (u : Nat) (ws : List W) : List (Nat × W) :=
  let l := ((ws.take 7).zipIdx).map fun x => (x.2, if x.2 = 0 then F.IC_CRC_OP.put x.1 1 else x.1)
  if l.isEmpty then [(0, F.IC_CRC_OP.put (s.word 0x6830 u 0) 1)] else l

def execCrcStart (rq : Req) (u : Nat) (ws : List W) (s : State) : Host.Outcome State Fault Refusal :=
  let x := putCrc s rq u (s.crcWrites u ws)
  done (s.request rq x.1 x.2)

def execCrcAbort (rq : Req) (u : Nat) (w0 : W) (s : State) : Host.Outcome State Fault Refusal :=
  let x := putCrc s rq u [(0, F.IC_CRC_OP.put w0 2)]
  done (s.request rq x.1 x.2)

/-- The bytes of an object's elements, in the order of R311. -/
def State.objectBytes (s : State) (o : Obj) (first n : Nat) : List Byte :=
  (List.range n).flatMap fun i => (s.readElem o (first + i)).flatMap fun v => wordBytes o.typ.bytes v

/-- What a host job reads: of DRAM bytes those that a master has written (R350), else as the store behind them gives them. -/
def State.crcInput (s : State) (u : Nat) (x : CrcEnd) : List Byte :=
  let w0 := s.word 0x6830 u 0
  let n := (s.word 0x6830 u 6).toNat
  if F.IC_CRC_SRC.of w0 = 0 then
    let at_ := ramAt (u / 4) 3 (s.word 0x6830 u 5).toNat
    ((x.dram.take n).zipIdx).map fun y => ((s.ic.ram.find? fun c => c.1 == at_ + y.2).map (·.2)).getD y.1
  else match findObj (F.IC_CRC_INDEX.of w0) 0 with
    | some o => s.objectBytes o (s.word 0x6830 u 5).toNat n
    | none => []

/-- RESULT of a job that has read all its source (R370). -/
def crcResult (cmp good equal : Bool) : Nat := if !cmp then 5 else if !good then 3 else if equal then 1 else 2

/-- `IC_CRC_USE` counts an ended job (R371), and EXPECTED-DAMAGED writes its record (R370). -/
def State.countCrc (s : State) (d unit_ result : Nat) : State :=
  let s := s.bump F.IC_CRC_USE_JOBS d 1
  if result = 2 then s.bump F.IC_CRC_USE_MISMATCH d 1
  else if result = 3 then (s.bump F.IC_CRC_USE_DAMAGED d 1).raise 0x6804 d unit_ 0 0
  else if result = 4 then s.bump F.IC_CRC_USE_READERR d 1
  else s

/-- CRC_JOB_DONE (R370): a unit of the part reports to the function that ran it; a host unit's result stands in `IC_CRC`. -/
def State.crcJobDone (s : State) (d unit_ : Nat) (x : CrcEnd) : State :=
  if s.dies ≤ d || 8 ≤ unit_ then s
  else if unit_ < 4 then s.countCrc d unit_ (if x.readErr.isSome then 4 else crcResult true x.parity x.part)
  else
    let u := d * 4 + (unit_ - 4)
    if s.fld F.IC_CRC_STATE u != crRUNNING then s
    else
      let w1 := s.word 0x6830 u 1
      let w := F.IC_CRC_WIDTH.of w1
      let fin := fun (s : State) (result bytes : Nat) (v : W) =>
        let s := ((s.setFld F.IC_CRC_RESULT u result).setFld F.IC_CRC_DONEBYTES u bytes).setWord 0x6830 u 8 v
        (s.countCrc d unit_ result).setNotify F.IC_CRC_STATE u crDONE
      match x.readErr with
      | some n => let f := s.takeFree; fin f.1 4 n f.2
      | none =>
        let l := s.crcInput u x
        let v := crcOf w (s.word 0x6830 u 2).toNat (s.word 0x6830 u 3).toNat (F.IC_CRC_REFIN.of w1 == 1) (F.IC_CRC_REFOUT.of w1 == 1)
          (F.IC_CRC_FINV.of w1 == 1) l
        fin s (crcResult (s.fld F.IC_CRC_CMP u == 1) x.parity (v == (s.word 0x6830 u 4).toNat)) l.length (BitVec.ofNat 64 v)

def execCrcJobDone (d unit_ : Nat) (x : CrcEnd) (s : State) : Host.Outcome State Fault Refusal := done (s.crcJobDone d unit_ x)

end Sys2Proof.Machine
end

