-- ==== Sys2Proof/Machine/Essence.lean ====
section
/-! DEFINITION. Essence as a port's stream carries it (R44–R48): headers and their flags, the four payloads, the order of a picture's
frames, fill, and the words that a picture leaves for ANC (R51). -/
namespace Sys2Proof.Machine

/-! ### Packing -/

/-- Numbers of `w` bits one after the other, the first in the highest bits. -/
def packNat (w : Nat) (l : List Nat) : Nat := l.foldl (fun a x => a * 2 ^ w + x % 2 ^ w) 0

/-- Numbers of `w` bits packed MSB first into words, with no gaps; the last word is padded with zeros (R46). -/
def packWords (w : Nat) (l : List Nat) : List W :=
  let n := (w * l.length + 63) / 64
  let v := packNat w l * 2 ^ (64 * n - w * l.length)
  (List.range n).map fun i => BitVec.ofNat 64 (v / 2 ^ (64 * (n - 1 - i)))

/-- The first `n` numbers of `w` bits that words hold. -/
def unpackWords (w n : Nat) (ws : List W) : List Nat :=
  let v := ws.foldl (fun a (x : W) => a * 2 ^ 64 + x.toNat) 0
  (List.range n).map fun i => v / 2 ^ (64 * ws.length - w * (i + 1)) % 2 ^ w

/-! ### Headers (R45) -/

/-- A header word with its check. -/
def withCheck (n : Nat) : W := Fld.put ⟨0, 0, 0, 12⟩ (BitVec.ofNat 64 (n * 2 ^ 12)) (hdrCheck (BitVec.ofNat 64 (n * 2 ^ 12)))

/-- FLAGS, bits 17:12 of a header: F2, LAST, RPT, LERR, CONC; bit 12 is reserved and sent 0. -/
structure EfFlags where
  f2   : Bool
  last : Bool
  rpt  : Bool
  lerr : Bool
  conc : Bool
deriving DecidableEq, Repr

def EfFlags.num (x : EfFlags) : Nat := flag x.f2 * 32 + flag x.last * 16 + flag x.rpt * 8 + flag x.lerr * 4 + flag x.conc * 2

/-- The flags of a header received; bit 12 is ignored. -/
def efFlags (h : W) : EfFlags :=
  ⟨getBits h 17 1 == 1, getBits h 16 1 == 1, getBits h 15 1 == 1, getBits h 14 1 == 1, getBits h 13 1 == 1⟩

def efTag (h : W) : Nat := getBits h 50 14
def efKind (h : W) : Nat := getBits h 47 3
def efLine (h : W) : Nat := getBits h 34 13
def efCount (h : W) : Nat := getBits h 26 8
def efFormat (h : W) : Nat := getBits h 18 8

def kVIDEO : Nat := 1
def kANC : Nat := 2
def kAUDIO : Nat := 3
def kFRAME : Nat := 4

def kindOk (h : W) : Bool := 1 ≤ efKind h && efKind h ≤ 4

/-- An essence frame's header. -/
def frameHeader (tag kind line count fmt : Nat) (flags : EfFlags) : W :=
  withCheck (tag % 2 ^ 14 * 2 ^ 38 + kind % 8 * 2 ^ 35 + line % 2 ^ 13 * 2 ^ 22 + count % 2 ^ 8 * 2 ^ 14 + fmt % 2 ^ 8 * 2 ^ 6
    + flags.num)

/-- The line belongs to the second field of an interlaced picture (F2). -/
def Format.inField2 (f : Format) (line : Nat) : Bool := f.interlaced && f.field2 ≤ line

/-- The flags of a frame of line `line`: LAST stands on the frame that carries the last carried line. -/
def Format.lineFlags (f : Format) (kind line : Nat) (rpt lerr conc : Bool) : EfFlags :=
  ⟨f.inField2 line, kind == kVIDEO && line == f.lastLine, rpt, lerr, conc⟩

/-- The header of a VIDEO or an ANC frame: its line, the source's frame count. -/
def lineHeader (port : W) (f : Format) (kind line count : Nat) (rpt lerr conc : Bool) : W :=
  frameHeader (pTag port) kind line count (pFormat port) (f.lineFlags kind line rpt lerr conc)

/-- The header of a FRAME frame: the first carried line of the picture. -/
def pictureHeader (port : W) (f : Format) (count : Nat) (rpt : Bool) : W :=
  frameHeader (pTag port) kFRAME f.first1 count (pFormat port) ⟨false, false, rpt, false, false⟩

/-- The header of an AUDIO frame: bits 12:0 of the port's sample counter at the first sample, and the frame in which it was
captured. -/
def audioHeader (port : W) (sample count : Nat) (conc : Bool) : W :=
  frameHeader (pTag port) kAUDIO sample count (pFormat port) ⟨false, false, false, false, conc⟩

/-- A source's frame as a destination's stream carries it: the destination's TAG and FORMAT, the source's everything else (R64). -/
def retagged (port h : W) : W := frameHeader (pTag port) (efKind h) (efLine h) (efCount h) (pFormat port) (efFlags h)

/-- A frame that the part sends again (R102): RPT stands on every frame of the repeat, with the stored picture's count. -/
def repeated (port h : W) (count : Nat) : W :=
  frameHeader (pTag port) (efKind h) (efLine h) count (pFormat port) { efFlags h with rpt := true }

/-- A line that the part synthesised from the previous one (R16, R50, R100): the line in whose place it stands, with CONC. -/
def concealed (port h : W) (f : Format) (line count : Nat) : W :=
  frameHeader (pTag port) kVIDEO line count (pFormat port) { f.lineFlags kVIDEO line (efFlags h).rpt false true with lerr := (efFlags h).lerr }

/-! ### Payloads (R46) -/

/-- A 4:4:4 format. -/
def Format.is444 (id : Nat) : Bool := 0x48 ≤ id && id ≤ 0x4A

/-- Bits of a sample. -/
def Format.depth (id : Nat) : Nat := if Format.is444 id then 12 else 10

/-- Pixels of a line. -/
def Format.pixels (id : Nat) : Nat := if id < 0x10 then 720 else if id < 0x20 then 1280 else if id < 0x40 then 1920 else 3840

/-- The samples of a carried line in the order in which they are packed; `y`, `cb`, `cr` give the samples of a pixel, those of 4:2:2
chroma at even pixels. -/
def lineSamples (id : Nat) (y cb cr : Nat → Nat) : List Nat :=
  if Format.is444 id then (List.range (Format.pixels id)).flatMap fun x => [cb x, y x, cr x]
  else (List.range (Format.pixels id / 2)).flatMap fun k => [cb (2 * k), y (2 * k), cr (2 * k), y (2 * k + 1)]

/-- The payload of a VIDEO frame. -/
def videoPayload (id : Nat) (y cb cr : Nat → Nat) : List W := packWords (Format.depth id) (lineSamples id y cb cr)

/-- The payload of an AUDIO frame of `n` channels: six sample periods, in each of them the channels in order, 24 bits each. -/
def audioPayload (n : Nat) (sample : Nat → Nat → Int) : List W :=
  packWords 24 ((List.range 6).flatMap fun t => (List.range n).map fun c => unsigned 24 (sample t c))

/-- The sample of channel `c`, counted from 0, in period `t` of an AUDIO payload of `n` channels. -/
def audioSampleIn (n : Nat) (ws : List W) (t c : Nat) : Int := signed 24 ((unpackWords 24 (6 * n) ws).getD (t * n + c) 0)

/-- An ST 291-1 packet as the rigging carries it: DID, SDID and DC as the 10-bit words received, horizontal offset, whether it was
found in the colour-difference stream, and its user data words. -/
structure AncPacket where
  did    : Nat
  sdid   : Nat
  dc     : Nat
  offset : Nat
  stream : Bool
  words  : List Nat
deriving DecidableEq, Repr

/-- User data words of a packet: bits 7:0 of DC. -/
def AncPacket.len (x : AncPacket) : Nat := x.dc % 256

/-- The first word of an ANC payload. -/
def AncPacket.head (x : AncPacket) : W :=
  BitVec.ofNat 64 (x.did % 1024 * 2 ^ 54 + x.sdid % 1024 * 2 ^ 44 + x.dc % 1024 * 2 ^ 34 + x.offset % 4096 * 2 ^ 22 + flag x.stream * 2 ^ 21)

/-- The payload of an ANC frame. -/
def AncPacket.payload (x : AncPacket) : List W := x.head :: packWords 10 (x.words.take x.len)

/-- A packet read from its payload. -/
def ancPacket (ws : List W) : AncPacket :=
  let h := ws.headD 0
  ⟨getBits h 54 10, getBits h 44 10, getBits h 34 10, getBits h 22 12, getBits h 21 1 == 1, unpackWords 10 (getBits h 34 8) (ws.drop 1)⟩

/-- The ANC checksum word, which egress regenerates (R46): the nine low bits of every word from DID to the last user data word summed,
and the inverse of the sum's bit 8 (PRESUMED: ST 291-1, log 154). -/
def AncPacket.checksum (x : AncPacket) : Nat :=
  let v := ((x.did :: x.sdid :: x.dc :: x.words.take x.len).map (· % 512)).sum % 512
  v + (if v / 256 = 0 then 512 else 0)

/-- A packet of DID and SDID as 8-bit codes, with the parity that the 10-bit words of ST 291-1 carry (PRESUMED, log 154). -/
def ancWord (v : Nat) : Nat :=
  let p := popCount v 8 % 2
  v % 256 + p * 256 + (1 - p) * 512

/-- A packet of a transport as the rigging carries it. -/
def ancOf (a : Anc) : AncPacket := ⟨a.did, a.sdid, a.dc, a.off, a.stream == 1, a.words⟩

/-- Words that a packet takes in an SDI stream: the three of the ADF, DID, SDID, DC, its user data words and the checksum (PRESUMED: ST
291-1, log 154). -/
def ancSpan (a : Anc) : Nat := a.dc % 256 + 7

/-- The payload of a FRAME frame: the source frame count, and the PTP time at which the first carried line was captured. -/
def framePayload (count secs nanos : Nat) : List W :=
  [BitVec.ofNat 64 (count % 2 ^ 32 * 2 ^ 32), BitVec.ofNat 64 (secs % 2 ^ 32 * 2 ^ 32 + nanos)]

/-- Payload words of a frame that begins with a header (R46). DESIGN CHOICE (log 145): where the length is not given, a VIDEO frame of a
reserved FORMAT counts none, and an AUDIO frame of another port's TAG has this port's channels. -/
def payloadWords (h port : W) (rest : List W) : Nat :=
  if efKind h = kVIDEO then (match format (efFormat h) with | some f => f.words | none => 0)
  else if efKind h = kAUDIO then 9 * pAch port
  else if efKind h = kFRAME then 2
  else 1 + (10 * getBits (rest.headD 0) 34 8 + 63) / 64

/-! ### A picture's frames and the word stream (R44, R47, R48) -/

/-- What a source line brings: the ANC packets found on it, each as a frame's words with the AUDIO frames whose sixth sample period ended
while it was captured; the VIDEO frame, where the line is carried; and the AUDIO frames whose sixth sample period ended while the VIDEO frame,
or no frame of the line, was captured. -/
structure LineIn where
  anc   : List (List W × List (List W))
  video : Option (List W)
  audio : List (List W)

/-- A picture's frames in the order of a port stream: the FRAME frame, then for each line its ANC and its VIDEO frame, each followed by the
AUDIO frames that ended in it. ANC of lines not carried so comes before the VIDEO frame of the next carried line. -/
def pictureFrames (frame : List W) (lines : List LineIn) : List (List W) :=
  frame :: lines.flatMap fun l => (l.anc.flatMap fun x => x.1 :: x.2) ++ l.video.toList ++ l.audio

/-- `n` words of a stream whose frames ready are `l`: they lie end to end, and fill stands after the last. -/
def streamFill (l : List (List W)) (n : Nat) : List W := (l.flatten ++ List.replicate n 0).take n

/-- The slots of a sheet on which a port's words lie, ascending. -/
def maskSlots (mask : Nat) : List Nat := (List.range 24).filter fun sl => mask.testBit sl

/-- The eight words of slot `sl` out of a port's words for the sheet: slots ascending, blocks in order. -/
def slotWords (mask : Nat) (ws : List W) (sl : Nat) : List W := (ws.drop (8 * popCount mask sl)).take 8

/-- A port's words of successive sheets as one stream; a sheet is given by its slots. -/
def portStream (mask : Nat) (sheets : List (Nat → List W)) : List W := sheets.flatMap fun x => (maskSlots mask).flatMap x

/-- A slot that no port owns, and every slot of an idle sheet, carries fill (R43, R48). -/
def fillSlot : List W := List.replicate 8 0

/-! ### Room for ANC (R51) -/

/-- Words that a picture brings, and words that its VIDEO, FRAME and AUDIO frames use with `ach` × 4 channels, as numerators over
`num · sheetUnits`. -/
def Format.room (f : Format) (ach : Nat) : Nat × Nat :=
  (8 * f.slots * f.den * secUnits,
    ((f.carriedLines * (f.words + 1) + 3) * f.num + (1 + 9 * ach) * 8000 * f.den) * sheetUnits)

/-- Words of a picture left for ANC: those of the table, and in the formats of lower rates the words available less those used. -/
def ancRoom (id : Nat) : Nat :=
  match id with
  | 0x01 => 561344
  | 0x02 => 674435
  | 0x12 => 46533
  | 0x22 => 21429
  | 0x32 => 21563
  | 0x40 => 251747
  | 0x42 => 117620
  | 0x48 => 219283
  | 0x4A => 85156
  | _ => match format id with
    | some f => ((f.room f.ach).1 - (f.room f.ach).2) / (f.num * sheetUnits)
    | none => 0

/-- Words that a packet of `n` user data words takes in the stream, its header among them. -/
def ancCost (n : Nat) : Nat := 2 + (10 * n + 63) / 64

end Sys2Proof.Machine
end

