-- ==== Sys2Proof/Machine/MacState.lean ====
section
/-! DEFINITION. The time-stamp queues of a media MAC's two directions (R228–R231). -/
namespace Sys2Proof.Machine

/-! ### Time-stamps (R228–R231): a queue's element is MAC × 2 + direction -/

def State.tsQueue (s : State) (e : Nat) : TsQueue := (s.mx.tsq.find? fun x => x.e == e).getD ⟨e, 0, []⟩

def State.setTsQueue (s : State) (x : TsQueue) : State :=
  { s with mx := { s.mx with tsq := x :: s.mx.tsq.filter fun y => !(y.e == x.e) } }

/-- PTP time, `late` ps from now, rounded to the nearest nanosecond (R228). -/
def State.stampTime (s : State) (late : Nat) : Nat := (s.clk.count + late * nsUnits / 1000 + nsUnits / 2) / nsUnits

/-- What an eligible frame gets: its tag, and its stamp in ns where the queue had room for one (R231). -/
structure Stamped where
  tag   : Nat
  time  : Option Nat

/-- An eligible frame that crosses the lane balls `late` ps from now takes the current tag; its stamp, where there is room for one, enters
the queue unless the PTP port takes it. -/
def State.stamp (s : State) (e seqid mtype late : Nat) (taken : Bool) : State × Stamped :=
  let x := s.tsQueue e
  let t := s.stampTime late
  let next := { x with tag := (x.tag + 1) % 4096 }
  if x.q.length < 64 then
    let y : Stamp := ⟨t / 1000000000 % 2 ^ 32, t % 1000000000, x.tag, seqid, mtype⟩
    (s.setTsQueue (if taken then next else { next with q := x.q ++ [y] }), ⟨x.tag, some t⟩)
  else
    let s := s.setTsQueue next
    let k := e * 64 + x.tag / 64
    let s := s.setWord 0x4858 k 0 (s.word 0x4858 k 0 ||| BitVec.ofNat 64 (2 ^ (x.tag % 64)))
    let s := s.bump (if e % 2 = 0 then F.MX_STATS_TSOVF_RX else F.MX_STATS_TSOVF_TX) (e / 2) 1
    (s.notify 0x4850 e, ⟨x.tag, none⟩)

end Sys2Proof.Machine
end

