-- ==== Sys2Proof/Machine/Timing.lean ====
section
/-! DEFINITION. Timing (chapter 10): references and their qualification, selection and states, the servo, PTP ports, steps,
holdover and the outputs. -/
namespace Sys2Proof.Machine

/-! ### Small arithmetic -/

/-- A value held within ±`m`. -/
def clampTo (m v : Int) : Int := max (-m) (min m v)

/-! ### References -/

/-- Reference codes: QSTATE (R261). -/
def qDISABLED : Nat := 0
def qLOS : Nat := 1
def qQUALIFYING : Nat := 2
def qQUALIFIED : Nat := 3
def qSELECTED : Nat := 4
def qDISQUALIFIED : Nat := 5

def isPulse (r : Nat) : Bool := r < 4
def isClock (r : Nat) : Bool := r == 4 || r == 5
def isPtp (r : Nat) : Bool := 6 ≤ r && r < 10
def isStay (r : Nat) : Bool := 10 ≤ r && r < 14

def State.ref (s : State) (r : Nat) : RefState := s.tm.refs.getD r .rest

def State.withRef (s : State) (r : Nat) (f : RefState → RefState) : State :=
  s.withTm fun t => { t with refs := t.refs.modify r f }

def State.refEnabled (s : State) (r : Nat) : Bool := s.fld F.TM_REF_EN r == 1

/-- The reference runs in the mode and role in force (R256): stays in EDGE role only. -/
def State.refRuns (s : State) (r : Nat) : Bool :=
  r < 6 || (r < 14 && (s.mode == STANDBY || s.mode == ACTIVE || s.mode == SERVICE) && (r < 10 || s.sys.role == EDGE))

def State.qstate (s : State) (r : Nat) : Nat := s.fld F.TM_REF_STAT_QSTATE r

def State.setQ (s : State) (r q : Nat) : State := s.setNotify F.TM_REF_STAT_QSTATE r q

/-- A flag of R268 or R274 excludes the reference. -/
def State.flagged (s : State) (r : Nat) : Bool :=
  s.fld F.TM_REF_STAT_SPLIT r == 1 || s.fld F.TM_REF_STAT_STEPREF r == 1 || s.fld F.TM_REF_STAT_DISAGREE r == 1

def State.selected (s : State) : Option Nat :=
  let r := s.fld F.TM_STATE_SEL 0
  if r = 15 then none else some r

/-- HIST bit `b` is set; where IRQEN has it, the timing interrupt is raised (R271, R326, R333). -/
def State.setHist (s : State) (b : Nat) : State :=
  let h := s.fld F.TM_STATE_HIST 0
  if h / 2 ^ b % 2 = 1 then s
  else
    let s := s.setFld F.TM_STATE_HIST 0 (h + 2 ^ b)
    if s.fld F.TM_STATE_IRQEN 0 / 2 ^ b % 2 = 1 then
      let s := s.notifySub 0x5000 2 0
      s.withHost fun x => { x with pcie := x.pcie.map fun f => f.raise 3 }
    else s

/-- A reference stops being good (R260): CAUSE, the count, and the state it goes to. -/
def State.disqualify (s : State) (r cause goal : Nat) : State :=
  let q := s.qstate r
  let s := s.withRef r fun x => { x with goodFrom := none, inside := 0, outside := 0 }
  let s := if q == qQUALIFYING || q == qQUALIFIED || q == qSELECTED then
      (s.setFld F.TM_REF_STAT_CAUSE r cause).bump F.TM_REF_STAT_DISQUALS r 1 else s
  s.setQ r goal

/-- A reference becomes good: it starts qualifying (R260). -/
def State.startQualify (s : State) (r : Nat) : State :=
  (s.withRef r fun x => { x with goodFrom := some s.now, inside := 0, outside := 0 }).setQ r qQUALIFYING

/-- The signal of a reference is lost (R260). -/
def State.refLost (s : State) (r cause : Nat) : State :=
  let s := s.withRef r fun x => { x with signal := false }
  if s.refEnabled r && s.qstate r != qLOS then s.disqualify r cause qLOS else s

/-- The receive shroud, as die and shroud, whose stay and sheets a stay reference uses (R257). -/
def State.refShroud (s : State) (r : Nat) : Nat × Nat := (s.fld F.TM_REF_DIE r, s.fld F.TM_REF_SHROUD r)

/-- A LOCKED data lane of a stay reference's shroud, the lowest: its sheets are used (R259, R260). -/
def State.stayLane (s : State) (r : Nat) : Option Nat :=
  let x := s.refShroud r
  ((List.range 8).map fun p => laneElem true x.1 (x.2 * 8 + p)).find? fun e => s.fld F.LK_STAT_STATE e == 3

/-- A stay reference has its signal (R260): the stay entry does not read LOS, and a data lane of the shroud is LOCKED. -/
def State.stayUp (s : State) (r : Nat) : Bool :=
  let x := s.refShroud r
  x.1 < s.dies && s.fld F.LK_STAT_STATE (x.1 * 160 + x.2 * 10 + 9) != 4 && (s.stayLane r).isSome

/-- A stay or a data lane changed: the stay references that it leaves without a signal are lost (R260). -/
def State.checkStayRefs (s : State) : State :=
  (List.range 14).foldl (fun (s : State) r =>
    if isStay r && s.refEnabled r && s.refRuns r && !s.stayUp r then s.refLost r 1 else s) s

/-! ### States (R270) -/

def tsFREE : Nat := 0
def tsACQUIRE : Nat := 1
def tsLOCKED : Nat := 2
def tsHOLDOVER : Nat := 3
def tsREFQUAL : Nat := 4

def State.timing (s : State) : Nat := s.fld F.TM_STATE_STATE 0

/-- The lock condition: 16 successive offsets within ±LOCKTHR, or for a clock input a 10-s frequency within ±0.01 ppm. Both are counted from
the selection on, as in the worked example of chapter 10 (DEDUCED, log 193). -/
def State.lockMet (s : State) (r : Nat) : Bool :=
  if isClock r then s.tm.selAt + secs 10 ≤ s.now && (s.ref r).freq.natAbs ≤ 10 else 16 ≤ (s.ref r).inside

/-! ### What sets FRAC (R251, R272, R277, R278) -/

/-- Units of the integrator in a ppb. -/
def ppbUnits : Int := 65536000000000000

def State.servoKp (s : State) : Int := s.fld F.TM_SERVO_KP 0
def State.servoKi (s : State) : Int := s.fld F.TM_SERVO_KI 0

/-- FRAC for a frequency correction `y` in the integrator's units. -/
def fracOf (y : Int) : Int := clampTo 3435974 (roundDiv (-y * 262144) 1000000000000000000000)

def State.setFrac (s : State) (y : Int) : State := { s with clk := { s.clk with frac := fracOf y } }

/-- c at a temperature in 0.001 °C, in 0.001 ppb: linear between the points, flat beyond them (R278). -/
def State.curveAt (s : State) (temp : Int) : Int :=
  let pt := fun i => roundDiv (s.tm.curve.getD i 0) 4294967296
  let t := max 0 (min 120000 temp)
  let i := (t / 8000).toNat
  if 15 ≤ i then pt 15 else pt i + roundDiv ((pt (i + 1) - pt i) * (t - 8000 * i)) 8000

/-- a, in 0.001 ppb a day, where AGEVALID lets it count. -/
def State.ageing (s : State) : Int :=
  if s.fld F.TM_STATE_AGEVALID 0 = 1 then signed 32 (s.fld F.TM_HOLDOVER_AGEING 0) else 0

/-- f(t), in 0.001 ppb. -/
def State.hoFreq (s : State) (from_ : Int × Int × Nat) (temp : Int) : Int :=
  let dt : Int := Int.ofNat s.now - Int.ofNat from_.2.2
  from_.1 + s.curveAt from_.2.1 - s.curveAt temp - roundDiv (s.ageing * dt) (86400 * secUnits)

/-- The window of holdover history (R277): f_avg, T_avg and t_mid of the last min(AVG, locked time) seconds of the last LOCKED time, less
the final 2. Where that leaves none, of the seconds kept before it (DESIGN CHOICE, log 194). -/
def State.hoWindow (s : State) : Int × Int × Nat :=
  let run := s.tm.history.filter fun x => s.tm.lockedAt ≤ x.1
  let m := min (s.fld F.TM_HOLDOVER_AVG 0) run.length
  let w := if 2 < m then (run.drop 2).take (m - 2) else s.tm.history.take (s.fld F.TM_HOLDOVER_AVG 0)
  let n := max 1 w.length
  let at_ := fun (x : Option (Nat × Int × Int)) => (x.map (·.1)).getD s.now
  (roundDiv (w.map (·.2.1)).sum n, roundDiv (w.map (·.2.2)).sum n, (at_ w.head? + at_ w.getLast?) / 2)

/-- The counter's rate set from the history, at a temperature (R277). -/
def State.holdRate (s : State) (temp : Int) : State :=
  match s.tm.hoFrom with
  | some h =>
    let y := s.hoFreq h temp * (ppbUnits / 1000)
    (s.withTm fun t => { t with integ := y, temp := temp }).setFrac y
  | none => s

/-- A timing state is entered: its HIST bit, its record. -/
def State.enterTiming (s : State) (n : Nat) : State :=
  let o := s.timing
  if o = n then s
  else
    let s := s.setFld F.TM_STATE_STATE 0 n
    let s := s.withTm fun t => { t with
      lockedFrom := if n = tsLOCKED then some s.now else none
      lockedAt := if n = tsLOCKED then s.now else t.lockedAt
      everLocked := t.everLocked || n == tsLOCKED
      hoFrom := if n = tsHOLDOVER then some s.hoWindow else none }
    let s := if n = tsHOLDOVER then s.holdRate s.tm.temp else s
    let s := s.setHist n
    let sel := s.fld F.TM_STATE_SEL 0
    if n = tsFREE then s
    else if n = tsACQUIRE ∨ n = tsLOCKED then s.note 0x5001 n o sel
    else s.note 0x5002 n o sel

/-- The state that R270 gives with the selection as it stands. -/
def State.timingDue (s : State) : Nat :=
  match s.selected with
  | some r =>
    if s.timing = tsLOCKED then (if isClock r = false ∧ 16 ≤ (s.ref r).outside then tsACQUIRE else tsLOCKED)
    else if s.lockMet r then tsLOCKED else tsACQUIRE
  | none =>
    if s.fld F.TM_STATE_HOVALID 0 = 1 then tsHOLDOVER
    else if (List.range 14).any fun r => s.refEnabled r then tsREFQUAL
    else tsFREE

/-- Holdover history becomes valid after 30 s of continuous LOCKED (R277). -/
def State.markHistory (s : State) : State :=
  match s.tm.lockedFrom with
  | some t => if t + secs 30 ≤ s.now then s.setFld F.TM_STATE_HOVALID 0 1 else s
  | none => s

/-! ### Servo (R272) -/

/-- An accepted offset `e` in ps, `t` ns after the one accepted before it. -/
def State.servo (s : State) (e : Int) (t : Nat) : State :=
  let i := s.tm.integ + s.servoKi * t * e
  (s.withTm fun x => { x with integ := i }).setFrac (s.servoKp * e * 1000000000 + i)

/-- A frequency in ppb fed directly into I. -/
def State.servoFreq (s : State) (f : Int) : State :=
  (s.withTm fun x => { x with integ := f * ppbUnits }).setFrac (f * ppbUnits)

/-! ### Measurements (R259, R260, R270, R274) -/

/-- The frequency of a reference lets it be good (R260). -/
def State.freqGood (s : State) (r : Nat) (f : Int) : Bool :=
  f.natAbs ≤ 200000
    && (!(s.timing == tsLOCKED || s.timing == tsHOLDOVER) || f.natAbs ≤ 100 * s.fld F.TM_REF_FREQWIN r)

/-- An offset within STEPTHR: of the selected reference it counts towards the lock and feeds the servo, which takes T from the last offset
accepted; before the first, from the interval measured (R272). -/
def State.takeOffset (s : State) (r : Nat) (e : Int) (t : Nat) : State :=
  let inn := e.natAbs ≤ 1000 * s.fld F.TM_SERVO_LOCKTHR 0
  let mine := s.selected == some r
  let gap := match (s.ref r).lastAt with | some x => (s.now - x) / nsUnits | none => t
  let s := s.withRef r fun x => { x with
    refused := 0
    lastAt := some s.now
    inside := if mine && inn then min 16 (x.inside + 1) else 0
    outside := if mine && !inn then min 16 (x.outside + 1) else 0 }
  if mine then s.servo e gap else s

/-- An offset over STEPTHR: refused, and the fourth in a row flags the reference (R274). -/
def State.refuseOffset (s : State) (r : Nat) (e : Int) : State :=
  let s := s.bump F.TM_REF_STAT_REFUSED r 1
  let s := s.withRef r fun x => { x with refused := x.refused + 1, inside := 0, outside := min 16 (x.outside + 1) }
  if (s.ref r).refused = 4 then
    let s := s.setFld F.TM_REF_STAT_STEPREF r 1
    let s := s.disqualify r 4 qDISQUALIFIED
    let s := s.setHist 6
    s.note 0x5005 r (sat32 (roundDiv e 1000)) 0
  else s

/-- The period of a kind of pulse as a fraction of a second: 0 PPS, 1 FRAME, 2 FIELD, 3 LINE. -/
def pulsePeriod (kind fmt : Nat) : Nat × Nat :=
  match kind, format fmt with
  | 1, some f => (f.den, f.num)
  | 2, some f => (f.den, 2 * f.num)
  | 3, some f => (f.den, f.num * f.lines)
  | _, _ => (1, 1)

/-- An offset in ps taken within ± half a period (R259). -/
def withinPeriod (p : Nat × Nat) (e : Int) : Int :=
  e - roundDiv (roundDiv (e * p.2) (p.1 * 1000000000000) * (p.1 * 1000000000000)) p.2

/-- The offsets that a reference gives (R259): of a pulse, how far its edges lie from the nearest expected instants, less DELAY, within half
a period, each of PPS and the mean of the others; of a stay, ARRIVAL in ps less DELAY; none of a clock. A PTP reference measures at each Sync
(R264). -/
def State.refOffsets (s : State) (r : Nat) (edges : List Int) : List Int :=
  let delay := signed 32 (s.fld F.TM_REF_DELAY r)
  if isPulse r then
    let w1 := s.word 0x5010 r 1
    let l := edges.map fun e => withinPeriod (pulsePeriod (F.TM_REF_TYPE.of w1) (F.TM_REF_FORMAT.of w1)) (e - delay)
    if F.TM_REF_TYPE.of w1 = 0 ∨ l.isEmpty then l else [roundDiv l.sum l.length]
  else if isStay r then
    ((s.stayLane r).map fun e => roundDiv (signed 16 (s.fld F.LK_STAT_ARRIVAL e) * 132000) 1040 - delay).toList
  else []

/-! ### Outputs: their periods and phases (R280, R281) -/

def outPeriod (w0 : W) : Nat × Nat :=
  match F.TM_OUT_MODE.of w0 with
  | 1 => if F.TM_OUT_M1001.of w0 = 1 then (1001, 1000 * F.TM_OUT_FHZ.of w0) else (1, F.TM_OUT_FHZ.of w0)
  | 2 => (1, 1)
  | m => pulsePeriod (m - 2) (F.TM_OUT_FORMAT.of w0)

/-- The phase of an output at house time `h`: the one taken next counts from its instant on. -/
def OutRun.at_ (x : OutRun) (h : Nat) : Int :=
  match x.next with
  | some (p, t) => if t ≤ h then p else x.phase
  | none => x.phase

def State.outRun (s : State) (o : Nat) : OutRun := s.tm.outs.getD o ⟨0, none⟩

/-- How far house time `h` lies into an output's period, scaled by the second number of `outPeriod`. -/
def State.outPlace (s : State) (o h : Nat) : Int :=
  let w0 := s.word 0x5058 o 0
  let p := outPeriod w0
  let shift := signed 32 (s.fld F.TM_OUT_OFFSET o) * 100 + (if F.TM_OUT_ALIGN.of w0 = 15 then 0 else (s.outRun o).at_ h)
  ((Int.ofNat h - roundDiv (shift * nsUnits) 1000) * p.2) % (p.1 * secUnits : Nat)

/-- The output's next period boundary on H. -/
def State.outBoundary (s : State) (o : Nat) : Nat :=
  let p := outPeriod (s.word 0x5058 o 0)
  s.house + (p.1 * secUnits - (s.outPlace o s.house).toNat + p.2 - 1) / max 1 p.2

/-- The last edge of a pulse input, `e` ps against the counter: an output in step with the input takes its phase again, at its next period
boundary, where it has moved by more than 1 ns from the one in use (R281). -/
def State.followPulse (s : State) (r : Nat) (e : Int) : State :=
  let p := e - roundDiv (s.clk.hlag * 1000) nsUnits
  let next := fun (x : OutRun × Nat) =>
    if s.fld F.TM_OUT_MODE x.2 != 0 && s.fld F.TM_OUT_ALIGN x.2 == r then
      let now := x.1.at_ s.house
      let at_ := match x.1.next with
        | some (_, t) => if s.house < t then t else s.outBoundary x.2
        | none => s.outBoundary x.2
      ⟨now, if 1000 < (p - now).natAbs then some (p, at_) else none⟩
    else x.1
  s.withTm fun t => { t with outs := t.outs.zipIdx.map next, edges := t.edges.set r (some p) }

/-- A pulse input is flagged STUCK or CHATTER, and has no signal (R407). -/
def State.pulseFlagged (s : State) (r : Nat) : Bool := isPulse r && 2 ≤ s.fld F.EV_GPI_STAT_STATE (32 + r)

/-! ### A measurement -/

/-- A frequency of `f` ppb over the last `t` ns: the reference's is the mean over the last 10 s (R259). -/
def State.noteFreq (s : State) (r : Nat) (f : Int) (t : Nat) : State :=
  let s := s.withRef r fun x =>
    let l := ((s.now, max 1 t, f) :: x.freqs).filter fun y => s.now < y.1 + secs 10
    { x with freqs := l, freq := roundDiv (l.map fun y => y.2.2 * (y.2.1 : Int)).sum (l.map (·.2.1)).sum }
  s.setFld F.TM_REF_STAT_FREQ r (sat32 (s.ref r).freq)

/-- One offset of a reference, in ps. -/
def State.noteOffset (s : State) (r t : Nat) (e : Int) : State :=
  let s := s.withRef r fun x => { x with offset := some e }
  let s := s.setFld F.TM_REF_STAT_OFFSET r (sat32 (roundDiv e 1000))
  if 1000 * s.fld F.TM_SERVO_STEPTHR 0 < e.natAbs then s.refuseOffset r e else s.takeOffset r e t

/-- A measurement of a reference: its offsets in ps, the frequency in ppb where the interval of `t` ns gave one. -/
def State.measure (s : State) (r : Nat) (offs : List Int) (f : Option Int) (t : Nat) : State :=
  if !(r < 14 && s.refEnabled r && s.refRuns r) || s.pulseFlagged r then s
  else
    let s := s.withRef r fun x => { x with signal := true }
    let s := match f with | some f => s.noteFreq r f t | none => s
    let s :=
      if !s.freqGood r (s.ref r).freq then
        if s.qstate r == qDISQUALIFIED then s else s.disqualify r 2 qDISQUALIFIED
      else if (s.qstate r == qLOS || s.qstate r == qDISQUALIFIED) && !s.flagged r then s.startQualify r
      else if s.qstate r == qQUALIFYING && (s.ref r).goodFrom.isNone then s.startQualify r
      else s
    let s := offs.foldl (fun s e => s.noteOffset r t e) s
    let s := match f with
      | some f => if isClock r && s.selected == some r then s.servoFreq f else s
      | none => s
    if s.selected == some r then s.enterTiming s.timingDue else s

/-- The reference's signal may be there to be measured (R260): a PTP port in SLAVE, a stay and a lane of its shroud; of a pulse or a clock
input the measurement itself says so. -/
def State.refSignal (s : State) (r : Nat) : Bool :=
  if isPtp r then s.fld F.TM_PTP_STAT_PSTATE (r - 6) == 4 else if isStay r then s.stayUp r else true

/-- Qualification from the start: its time runs from when the signal is there. -/
def State.beginQualify (s : State) (r : Nat) : State :=
  if (s.ref r).signal then s.startQualify r
  else (s.withRef r fun x => { x with goodFrom := none, inside := 0, outside := 0 }).setQ r (if s.refSignal r then qQUALIFYING else qLOS)

/-- REF_MEASUREMENT: an output that follows a pulse input does so whether or not the input is in use as a reference. -/
def State.refMeasured (s : State) (r : Nat) (edges : List Int) (f : Int) (t : Nat) : State :=
  let s := match edges.getLast? with
    | some e =>
      let w1 := s.word 0x5010 r 1
      if isPulse r && !s.pulseFlagged r then s.followPulse r (withinPeriod (pulsePeriod (F.TM_REF_TYPE.of w1) (F.TM_REF_FORMAT.of w1)) e)
      else s
    | none => s
  if isPtp r || !s.refSignal r then s else s.measure r (s.refOffsets r edges) (some f) t

def execRefMeasurement (r : Nat) (edges : List Int) (freq : Int) (interval : Nat) (s : State) :
    Host.Outcome State Fault Refusal := done (s.refMeasured r edges freq interval)

/-- QUALTIME of being good has passed (R260). -/
def State.refQualify (s : State) (r : Nat) : State :=
  match (s.ref r).goodFrom with
  | none => s
  | some t =>
    if s.refEnabled r && s.refRuns r && (s.ref r).signal && s.qstate r == qQUALIFYING && !s.flagged r then
      (s.waitUntil (t + secs (s.fld F.TM_REF_QUALTIME r))).setQ r qQUALIFIED
    else s

def execRefQualify (r : Nat) (s : State) : Host.Outcome State Fault Refusal := done (s.refQualify r)

def execRefLos (r : Nat) (s : State) : Host.Outcome State Fault Refusal := done (s.refLost r 1)

/-! ### Selection (R267) -/

def State.candidate (s : State) (r : Nat) : Bool :=
  s.refEnabled r && (s.qstate r == qQUALIFIED || s.qstate r == qSELECTED)
    && (!s.flagged r || (s.selected == some r && s.fld F.TM_REF_STAT_SPLIT r == 1
          && s.fld F.TM_REF_STAT_STEPREF r == 0 && s.fld F.TM_REF_STAT_DISAGREE r == 0))

/-- Strictly better in (RANK, QUALITY). -/
def State.betterRef (s : State) (a b : Nat) : Bool :=
  let ra := s.fld F.TM_REF_RANK a
  let rb := s.fld F.TM_REF_RANK b
  ra < rb || (ra == rb && s.refQuality a < s.refQuality b)

/-- The best of a list, the first among equals. -/
def State.bestRef (s : State) (l : List Nat) : Option Nat :=
  l.foldl (fun b r => match b with | none => some r | some x => if s.betterRef r x then some r else some x) none

/-- What R267 selects. -/
def State.selectDue (s : State) : Option Nat :=
  let c := (List.range 14).filter s.candidate
  match s.selected with
  | some x =>
    if s.candidate x then
      match s.bestRef c with
      | some b => if s.betterRef b x then some b else some x
      | none => some x
    else s.bestRef c
  | none => s.bestRef c

/-- The selection changed (R267, R272): the old one back to QUALIFIED where it stands SELECTED, but DISQUALIFIED where it is flagged SPLIT;
the new one SELECTED, and I loaded from its frequency, or out of HOLDOVER from f(t) (R277). -/
def State.select (s : State) (n : Option Nat) : State :=
  if s.selected = n then s
  else
    let s := match s.selected with
      | some o =>
        if s.qstate o != qSELECTED then s
        else if s.flagged o then s.disqualify o 6 qDISQUALIFIED else s.setQ o qQUALIFIED
      | none => s
    let s := s.setFld F.TM_STATE_SEL 0 (n.getD 15)
    let s := s.setHist 5
    match n with
    | some r =>
      let s := s.setQ r qSELECTED
      let s := s.setFld F.TM_STATE_FREQONLY 0 (flag (isClock r))
      let i := match s.tm.hoFrom with
        | some h => s.hoFreq h s.tm.temp * (ppbUnits / 1000)
        | none => (s.ref r).freq * ppbUnits
      let s := s.withTm fun t => { t with integ := i, selAt := s.now }
      let s := s.withRef r fun x => { x with inside := 0, outside := 0 }
      s.enterTiming (if s.lockMet r then tsLOCKED else tsACQUIRE)
    | none => s.setFld F.TM_STATE_FREQONLY 0 0

/-- The evaluation of every 125 ms (R267, R270). -/
def State.selectionEval (s : State) : State :=
  let s := s.select s.selectDue
  let s := s.enterTiming s.timingDue
  s.markHistory

def execSelectionEval (s : State) : Host.Outcome State Fault Refusal := done s.selectionEval

/-! ### Agreement (R268), and the second's history and learning (R277, R278) -/

/-- Frequencies of two references differ by more than AGREE. -/
def State.disagree (s : State) (a b : Nat) : Bool :=
  10 * s.fld F.TM_SERVO_AGREE 0 < ((s.ref a).freq - (s.ref b).freq).natAbs

def State.isQualified (s : State) (r : Nat) : Bool := s.qstate r == qQUALIFIED || s.qstate r == qSELECTED

def State.flagDisagree (s : State) (r third : Nat) : State :=
  let s := s.setFld F.TM_REF_STAT_DISAGREE r 1
  let s := s.withRef r fun x => { x with agreeFrom := none }
  let s := s.disqualify r 5 qDISQUALIFIED
  let s := s.setHist 8
  s.note 0x5004 r third 0

/-- A reference flagged SPLIT (R268): it cannot become selected, and one that is selected stays so. CAUSE 6 where it is not the
selected one. -/
def State.flagSplit (s : State) (r partner : Nat) : State :=
  let was := s.fld F.TM_REF_STAT_SPLIT r = 1
  let s := s.withRef r fun x => { x with partners := partner :: x.partners.filter (· != partner) }
  if was then s
  else
    let s := s.setFld F.TM_REF_STAT_SPLIT r 1
    let s := if s.selected == some r then s else s.disqualify r 6 qDISQUALIFIED
    let s := s.setHist 7
    s.note 0x5003 r partner 0

/-- The split pairs of a reference end: SPLIT clears on it, and on each other that is in no other pair (R268). -/
def State.endSplit (s : State) (r : Nat) : State :=
  let s := (List.range 14).foldl (fun (s : State) q =>
    if (s.ref q).partners.contains r then
      let s := s.withRef q fun x => { x with partners := x.partners.filter (· != r) }
      if (s.ref q).partners.isEmpty then s.setFld F.TM_REF_STAT_SPLIT q 0 else s
    else s) s
  (s.setFld F.TM_REF_STAT_SPLIT r 0).withRef r fun x => { x with partners := [] }

/-- One pair of qualified references of equal rank. -/
def State.checkPair (s : State) (a b : Nat) : State :=
  if s.isQualified a && s.isQualified b && s.fld F.TM_REF_RANK a == s.fld F.TM_REF_RANK b && s.disagree a b then
    let third := s.bestRef ((List.range 14).filter fun r => r != a && r != b && s.isQualified r)
    match third with
    | some t =>
      if s.disagree a t && !s.disagree b t then s.flagDisagree a t
      else if s.disagree b t && !s.disagree a t then s.flagDisagree b t
      else (s.flagSplit a b).flagSplit b a
    | none => (s.flagSplit a b).flagSplit b a
  else s

/-- DISAGREE clears once the reference has agreed with the selected one for QUALTIME seconds (R268). -/
def State.clearDisagree (s : State) (r : Nat) : State :=
  if s.fld F.TM_REF_STAT_DISAGREE r = 0 then s
  else match s.selected with
    | none => s.withRef r fun x => { x with agreeFrom := none }
    | some t =>
      if s.disagree r t then s.withRef r fun x => { x with agreeFrom := none }
      else
        let since := (s.ref r).agreeFrom.getD s.now
        let s := s.withRef r fun x => { x with agreeFrom := some since }
        if since + secs (s.fld F.TM_REF_QUALTIME r) ≤ s.now then
          let s := s.setFld F.TM_REF_STAT_DISAGREE r 0
          if (s.ref r).signal && !s.flagged r then s.startQualify r else s
        else s

def refPairs : List (Nat × Nat) := (List.range 14).flatMap fun a => ((List.range 14).filter (a < ·)).map fun b => (a, b)

/-- The servo frequency in force, in 0.001 ppb. -/
def State.servoNow (s : State) : Int := roundDiv (-s.clk.frac * 1000000000000) 17179869184

/-- The least-squares slope of the learned seconds, in 0.001 ppb a day, negated to the sign of R277. -/
def learnSlope (l : List (Nat × Int × Int × Int × Int)) : Int :=
  let n : Int := (l.map (·.1)).sum
  let t := (l.map (·.2.1)).sum
  let f := (l.map (·.2.2.1)).sum
  let tt := (l.map (·.2.2.2.1)).sum
  let tf := (l.map (·.2.2.2.2)).sum
  let d := n * tt - t * t
  if d ≤ 0 then 0 else roundDiv (-(n * tf - t * f) * 86400) d.toNat

/-- A second LOCKED is learned (R278). DESIGN CHOICE: the sample goes to the curve's nearest point. -/
def State.learnSecond (s : State) (temp : Int) : State :=
  let f := s.servoNow
  let n := s.tm.learnt
  let i := ((max 0 (min 120000 temp) + 4000) / 8000).toNat
  let c := -f - roundDiv (s.ageing * n) 86400
  let s := s.withTm fun t => { t with
    curve := t.curve.modify i fun x => x + (c * 4294967296 - x) / 3600
    learnt := n + 1
    learn :=
      let g := f + s.curveAt temp + roundDiv (t.ageBase * n) 86400
      let one := fun (b : Nat × Int × Int × Int × Int) =>
        (b.1 + 1, b.2.1 + n, b.2.2.1 + g, b.2.2.2.1 + (n : Int) * n, b.2.2.2.2 + (n : Int) * g)
      match t.learn with
      | [] => [one (0, 0, 0, 0, 0)]
      | b :: r => if b.1 < 3600 then one b :: r else one (0, 0, 0, 0, 0) :: (b :: r).take 167 }
  let s := s.setFld F.TM_HO_CURVE_C i (sat32 (roundDiv (s.tm.curve.getD i 0) 4294967296))
  let s := s.setFld F.TM_HOLDOVER_LEARNT 0 (s.tm.learnt / 3600)
  let s := s.setFld F.TM_HOLDOVER_AGEING 0 (sat32 (s.tm.ageBase + learnSlope s.tm.learn))
  if 86400 ≤ s.tm.learnt then s.setFld F.TM_STATE_AGEVALID 0 1 else s

/-- The check of every second (R268), with the second kept for holdover and learning while LOCKED. -/
def State.agreementCheck (s : State) (temp : Int) : State :=
  let s := refPairs.foldl (fun s x => s.checkPair x.1 x.2) s
  let s := (List.range 14).foldl (fun s r => s.clearDisagree r) s
  let s := s.withTm fun t => { t with temp := temp }
  if s.timing = tsLOCKED then
    let s := s.withTm fun t => { t with history := ((s.now, s.servoNow, temp) :: t.history).take 1000 }
    (s.learnSecond temp).markHistory
  else s

def execAgreementCheck (temp : Int) (s : State) : Host.Outcome State Fault Refusal := done (s.agreementCheck temp)

/-! ### Commands on references (R257, R258, R269) -/

/-- Word 1 of `TM_REF` in range for the kind of reference, on a part of `dies` dies (R257). A clock input that is not in use may have the
reset value 0 (DEDUCED, log 195). -/
def refWord1Ok (r dies : Nat) (on : Bool) (v : W) : Bool :=
  if isPulse r then
    getBits v 32 21 == 0 &&
      (let t := F.TM_REF_TYPE.of v
       if t = 0 then true
       else match format (F.TM_REF_FORMAT.of v) with
         | none => false
         | some f => t != 2 || f.interlaced)
  else if isClock r then
    getBits v 0 35 == 0 && ((!on && v == 0) || (1000000 ≤ F.TM_REF_FHZ.of v && F.TM_REF_FHZ.of v ≤ 250000000))
  else if isPtp r then getBits v 32 32 == 0
  else getBits v 32 26 == 0 && F.TM_REF_DIE.of v < dies

def refWord0Ok (v : W) : Bool :=
  1 ≤ F.TM_REF_QUALTIME.of v && 1 ≤ F.TM_REF_FREQWIN.of v && F.TM_REF_RESERVED.of v == 0

/-- A PTP port runs: its reference is enabled, its MAC is enabled, in a mode in which PTP runs (R256, R262). -/
def State.ptpRuns (s : State) (p : Nat) : Bool :=
  s.caps.media && s.refEnabled (6 + p) && s.refRuns (6 + p) && s.fld F.MX_MAC_EN (s.fld F.TM_PTP_PORT_MAC p) == 1

/-- The state in which a port stands before it has heard a master (R266): FAULTY while a fault holds its MAC, INITIALIZING until its MAC has
a link (DEDUCED, log 196). -/
def State.ptpIdle (s : State) (p : Nat) : Nat :=
  let m := s.fld F.TM_PTP_PORT_MAC p
  if !s.ptpRuns p then 0 else if s.isOut .mac (macDie m) m then 7 else if !(s.macRun m).link then 1 else 2

def State.withPtp (s : State) (p : Nat) (f : PtpState → PtpState) : State :=
  s.withTm fun t => { t with ptp := t.ptp.modify p f }

def State.setGm (s : State) (p : Nat) (g : GmData) : State :=
  let s := s.setFld F.TM_PTP_STAT_GMCLASS p g.cls
  let s := s.setFld F.TM_PTP_STAT_GMACC p g.acc
  let s := s.setFld F.TM_PTP_STAT_GMVAR p g.var
  let s := s.setFld F.TM_PTP_STAT_STEPS p g.steps
  let s := s.setFld F.TM_PTP_STAT_GMPRIO1 p g.prio1
  let s := s.setFld F.TM_PTP_STAT_GMPRIO2 p g.prio2
  s.setFld F.TM_PTP_STAT_GMID p g.ident

/-- No grandmaster: the reset values of `TM_PTP_STAT` (R266). -/
def noGm : GmData := ⟨0xFF, 0xFF, 0xFE, 0xFFFF, 0xFF, 0, 0⟩

/-- A port starts from the beginning, or ends: its reference has no signal (R260, R262). -/
def State.ptpRestart (s : State) (p : Nat) : State :=
  (((s.withPtp p fun _ => .rest).refLost (6 + p) 1).setGm p noGm).setNotify F.TM_PTP_STAT_PSTATE p (s.ptpIdle p)

/-- The PTP ports on a MAC that starts, stops, has a fault or changes its link start anew. -/
def State.ptpRestarts (s : State) (m : Nat) : State :=
  ((List.range 4).filter fun p => s.fld F.TM_PTP_PORT_MAC p == m && (s.refEnabled (6 + p) || s.fld F.TM_PTP_STAT_PSTATE p != 0)).foldl
    (fun (s : State) p => s.ptpRestart p) s

/-- An enabled reference starts qualifying; a disabled one ends, and with it the SPLIT of its pairs (R258, R268). STEPREF and DISAGREE stay:
disabling is none of the ways in which R268, R269 and R274 let them clear. -/
def State.refEnable (s : State) (r : Nat) (on : Bool) : State :=
  if on then
    let s := s.withRef r fun _ => .rest
    let s := if !s.refRuns r then s.setQ r qLOS else if s.flagged r then s.setQ r qDISQUALIFIED else s.beginQualify r
    if isPtp r then s.ptpRestart (r - 6) else s
  else
    let s := ((s.endSplit r).withRef r fun _ => .rest).setQ r qDISABLED
    if isPtp r then s.ptpRestart (r - 6) else s

/-- A write of `TM_REF` (R258). -/
def putTmRef (s : State) (rq : Req) (r : Nat) (ws : List (Nat × W)) : HostWrite × (State → Status × State) :=
  let w0 := newWord ws 0 (s.word 0x5010 r 0)
  let w1 := newWord ws 1 (s.word 0x5010 r 1)
  let _ := rq
  (⟨⟨0x5010, 0, r⟩, ws, 0, refWord0Ok w0 && refWord1Ok r s.dies (F.TM_REF_EN.of w0 == 1) w1⟩, fun s =>
    let on := F.TM_REF_EN.of w0 == 1
    if on && ((isPtp r && !s.caps.media) || (isStay r && s.sys.role != EDGE)) then (.absent, s)
    else if s.refEnabled r && w1 != s.word 0x5010 r 1 then (.busy, s)
    else
      let was := s.refEnabled r
      let s := (s.putWord 0x5010 r 0 w0).putWord 0x5010 r 1 w1
      (.ok, if on == was then s else s.refEnable r on))

def execTmRefWrite (rq : Req) (r w : Nat) (v : W) (s : State) : Host.Outcome State Fault Refusal :=
  let x := putTmRef s rq r [(w, v)]
  done (s.request rq x.1 x.2)

/-- ACCEPT of `TM_REF_CMD` (R269), for each pair of the reference. -/
def State.refAccept (s : State) (r : Nat) : Status × State :=
  if s.fld F.TM_REF_STAT_SPLIT r = 0 then (.busy, s)
  else
    let l := (s.ref r).partners
    let s := (s.setFld F.TM_REF_STAT_SPLIT r 0).withRef r fun x => { x with partners := [] }
    let s := if (s.ref r).signal && s.qstate r == qDISQUALIFIED && !s.flagged r then s.startQualify r else s
    (.ok, l.foldl (fun (s : State) p =>
      ((s.setFld F.TM_REF_STAT_SPLIT p 0).withRef p fun x => { x with partners := [] }).flagDisagree p r) s)

def execRefAccept (rq : Req) (r : Nat) (s : State) : Host.Outcome State Fault Refusal :=
  done (s.request rq ⟨⟨0x5020, 0, r⟩, [(0, 1)], 0, true⟩ fun s => s.refAccept r)

/-- REQUALIFY of `TM_REF_CMD` (R269, R392). -/
def State.refRequalify (s : State) (r : Nat) : Status × State :=
  let s := (s.setFld F.TM_REF_STAT_DISAGREE r 0).setFld F.TM_REF_STAT_STEPREF r 0
  let s := s.putBack .ref s.mastDie r
  let s := s.withRef r fun x => { x with refused := 0 }
  (.ok, if s.refEnabled r && s.refRuns r then (if s.flagged r then s.setQ r qDISQUALIFIED else s.beginQualify r) else s)

def execRefRequalify (rq : Req) (r : Nat) (s : State) : Host.Outcome State Fault Refusal :=
  done (s.request rq ⟨⟨0x5020, 0, r⟩, [(0, 2)], 0, true⟩ fun s => s.refRequalify r)

/-! ### PTP ports (R262–R266) -/

def State.ptp (s : State) (p : Nat) : PtpState := s.tm.ptp.getD p .rest

/-- The order of the best master clock algorithm: the grandmaster's attributes, then steps, then the sender. -/
def gmKey (g : GmData) (src : Nat) : List Nat := [g.prio1, g.cls, g.acc, g.var, g.prio2, g.ident, g.steps, src]

def listLt : List Nat → List Nat → Bool
  | [], _ => false
  | _ :: _, [] => false
  | a :: l, b :: m => a < b || (a == b && listLt l m)

def bestForeign (l : List (Nat × GmData)) : Option (Nat × GmData) :=
  l.foldl (fun b x => match b with
    | none => some x
    | some y => if listLt (gmKey x.2 x.1) (gmKey y.2 y.1) then some x else some y) none

/-- The EUI-64 of a MAC address: 0xFFFE between its halves. -/
def eui64 (m : Nat) : Nat := (m / 2 ^ 24) * 2 ^ 40 + 0xFFFE * 2 ^ 24 + m % 2 ^ 24

/-- clockIdentity: the EUI-64 of MAC 0 of die 0 (R262). -/
def clockIdent : Nat := eui64 (fusedMac (Config.mediaMac 0)).toNat

/-- Grandmaster data as `TM_PTP_STAT` holds it. -/
def State.gmOf (s : State) (p : Nat) : GmData :=
  ⟨s.fld F.TM_PTP_STAT_GMPRIO1 p, s.fld F.TM_PTP_STAT_GMCLASS p, s.fld F.TM_PTP_STAT_GMACC p, s.fld F.TM_PTP_STAT_GMVAR p,
    s.fld F.TM_PTP_STAT_GMPRIO2 p, s.fld F.TM_PTP_STAT_GMID p, s.fld F.TM_PTP_STAT_STEPS p⟩

/-- The part's own data, as those of a grandmaster (R265). -/
def State.defaultGm (s : State) (p : Nat) : GmData :=
  ⟨s.fld F.TM_PTP_PORT_PRIO1 p, if s.timing = tsHOLDOVER then 7 else 248, 0xFE, 0xFFFF, s.fld F.TM_PTP_PORT_PRIO2 p, clockIdent, 0⟩

/-- What port `p` announces as master (R265). -/
def State.announced (s : State) (p : Nat) : GmData :=
  match s.selected with
  | some r => if isPtp r then { s.gmOf (r - 6) with steps := s.fld F.TM_PTP_STAT_STEPS (r - 6) + 1 } else s.defaultGm p
  | none => s.defaultGm p

/-- The data against which port `p` holds what it hears: those it would announce; where the selected reference is the port's own, the part
itself, since what it would announce is that very master's (DEDUCED, log 196). -/
def State.ownGm (s : State) (p : Nat) : GmData := if s.selected == some (6 + p) then s.defaultGm p else s.announced p

/-- A port that follows no master. -/
def State.ptpFree (s : State) (p st : Nat) (g : GmData) : State :=
  let s := s.withPtp p fun x => { x with parent := none, waiting := none, t12 := none, t3 := none, delays := [] }
  ((s.refLost (6 + p) 1).setGm p g).setNotify F.TM_PTP_STAT_PSTATE p st

/-- The port's state decided from the Announces it has (R262, R265). Of two ports of the part on one network, that of the higher number is
PASSIVE (IEEE 1588; DEDUCED, log 196). -/
def State.bmca (s : State) (p : Nat) : State :=
  let bc := s.fld F.TM_PTP_PORT_ROLE p == 1
  match bestForeign (s.ptp p).foreign with
  | none => if bc then s.ptpFree p 5 (s.announced p) else s.ptpFree p 2 noGm
  | some (src, g) =>
    if bc && src / 65536 == clockIdent then s.ptpFree p (if src % 65536 < p + 1 then 6 else 5) (s.announced p)
    else if bc && listLt (gmKey (s.ownGm p) 0) (gmKey g src) then s.ptpFree p 5 (s.announced p)
    else
      let s := s.setGm p g
      if (s.ptp p).parent = some src then s
      else
        let s := s.withPtp p fun x => { x with parent := some src, waiting := none, t12 := none, t3 := none, delays := [] }
        let s := s.refLost (6 + p) 1
        s.setNotify F.TM_PTP_STAT_PSTATE p 3

def insertInt (x : Int) : List Int → List Int
  | [] => [x]
  | y :: l => if x ≤ y then x :: y :: l else y :: insertInt x l

/-- The median of the path delays held (R264). -/
def median (l : List Int) : Int :=
  let m := l.foldl (fun a x => insertInt x a) []
  m.getD (m.length / 2) 0

/-- A measurement that cannot be used (R231, R264). -/
def State.noStamp (s : State) (p : Nat) : State := s.bump F.TM_PTP_STAT_NOSTAMP p 1

/-- t1, t2 and the correction of a Sync are all there: the offset (R264), and the frequency since the Sync before it (DEDUCED, log 197). -/
def State.ptpOffset (s : State) (p : Nat) (t1 t2 corr : Int) : State :=
  let old := s.ptp p
  let s := s.withPtp p fun x => { x with t12 := some (t1, t2, corr), epoch := s.clk.epoch }
  if old.delays.isEmpty then s
  else
    let r := 6 + p
    let e := t2 - t1 - corr - median old.delays + signed 32 (s.fld F.TM_REF_DELAY r)
    let s := s.setNotify F.TM_PTP_STAT_PSTATE p 4
    match old.t12 with
    | some x =>
      let d1 := t1 + corr - x.1 - x.2.2
      let d2 := t2 - x.2.1
      if old.epoch = s.clk.epoch ∧ 0 < d1 then s.measure r [e] (some (roundDiv ((d2 - d1) * 1000000000) d1.toNat)) (d2 / 1000).toNat
      else s.measure r [e] none 0
    | none => s.measure r [e] none 0

/-- The stamp of an event message received, in ps: the MAC's where the frame's passage is known, else taken as the message comes (R228); none
where the queue was full (R231). -/
def State.rxStamp (s : State) (p mtype src seq : Nat) : State × Option Int :=
  let ps := fun (t : Option Nat) => t.map fun n => Int.ofNat (n * 1000)
  match (s.ptp p).rx.find? fun x => x.1 == mtype && x.2.1 == src && x.2.2.1 == seq with
  | some x => (s.withPtp p fun y => { y with rx := y.rx.erase x }, ps x.2.2.2)
  | none =>
    let r := s.stamp (s.fld F.TM_PTP_PORT_MAC p * 2) seq mtype 0 true
    (r.1, ps r.2.time)

/-- A message received on a running port (R262–R265). -/
def State.ptpRx (s : State) (p : Nat) (m : PtpMsg) : State :=
  if !(p < 4 && s.ptpRuns p && 2 ≤ s.fld F.TM_PTP_STAT_PSTATE p && s.fld F.TM_PTP_STAT_PSTATE p != 7) then s
  else
    let dom := s.fld F.TM_PTP_PORT_DOMAIN p
    let st := s.fld F.TM_PTP_STAT_PSTATE p
    match m with
    | .announce d src g =>
      if d = dom ∧ (src / 65536 ≠ clockIdent ∨ s.fld F.TM_PTP_PORT_ROLE p = 1) then
        (s.withPtp p fun x => { x with foreign := (src, g) :: x.foreign.filter fun y => !(y.1 == src) }).bmca p
      else s
    | .sync d src seq two t1 corr =>
      if d = dom ∧ (s.ptp p).parent = some src ∧ (st = 3 ∨ st = 4) then
        let r := s.rxStamp p 0 src seq
        let s := r.1
        match r.2 with
        | none => s.noStamp p
        | some t2 =>
          if two then s.withPtp p fun x => { x with waiting := some (src, seq, some t2, corr), waitEpoch := s.clk.epoch }
          else s.ptpOffset p t1 t2 corr
      else s
    | .followUp d src seq t1 corr =>
      match (s.ptp p).waiting with
      | some (src', seq', some t2, c) =>
        if d = dom ∧ src = src' ∧ seq = seq' then
          let stale := (s.ptp p).waitEpoch != s.clk.epoch
          let s := s.withPtp p fun x => { x with waiting := none }
          if stale then s.noStamp p else s.ptpOffset p t1 t2 (c + corr)
        else s
      | _ => s
    | .delayResp d src seq t4 corr =>
      match (s.ptp p).t12, (s.ptp p).t3 with
      | some (t1, t2, c), some t3 =>
        if d = dom ∧ (s.ptp p).parent = some src ∧ seq = (s.ptp p).seqDr then
          if (s.ptp p).epoch != (s.ptp p).t3Epoch then (s.noStamp p).withPtp p fun x => { x with t3 := none }
          else
            let v := ((t4 - corr - t1 - c) - (t3 - t2)) / 2
            let s := s.withPtp p fun x => { x with t3 := none, delays := (v :: x.delays).take 15 }
            s.setFld F.TM_PTP_STAT_MPD p (sat32 (roundDiv (median (s.ptp p).delays) 1000))
        else s
      | _, _ => s
    | .delayReq d src seq =>
      if d = dom ∧ st = 5 then
        let r := s.rxStamp p 1 src seq
        let s := r.1
        match r.2 with
        | some _ => (s.sendOwn (s.fld F.TM_PTP_PORT_MAC p)).withPtp p fun x => { x with sent := x.sent + 1 }
        | none => s.noStamp p
      else s

def execPtpMessageRx (p : Nat) (m : PtpMsg) (s : State) : Host.Outcome State Fault Refusal := done (s.ptpRx p m)

/-- No Announce of the master followed for 3 intervals (R262). -/
def State.announceTimeout (s : State) (p : Nat) : State :=
  if !(p < 4 && s.ptpRuns p) then s
  else
    let s := s.bump F.TM_PTP_STAT_ANNTIMEOUT p 1
    let s := s.withPtp p fun x => { x with foreign := x.foreign.filter fun y => !(some y.1 == x.parent), parent := none }
    s.bmca p

def execAnnounceTimeout (p : Nat) (s : State) : Host.Outcome State Fault Refusal := done (s.announceTimeout p)

/-- A PTP frame of the port leaves: an event message is stamped, and its stamp taken by the port (R228, R229); a Sync of two steps has its
Follow_Up, where it has a stamp to carry; a Delay_Req without a stamp is not used (R231). -/
def State.ptpLeaves (s : State) (p : Nat) (k : PtpTx) (late : Nat) : State :=
  let m := s.fld F.TM_PTP_PORT_MAC p
  match k with
  | .announce => (s.sendOwn m).withPtp p fun x => { x with sent := x.sent + 1 }
  | .sync =>
    let r := s.stamp (m * 2 + 1) 0 0 late true
    let two := s.fld F.TM_PTP_PORT_ONESTEP p == 0 && r.2.time.isSome
    let s := if two then (r.1.sendOwn m).sendOwn m else r.1.sendOwn m
    s.withPtp p fun x => { x with sent := x.sent + (if two then 2 else 1) }
  | .delayReq =>
    let r := s.stamp (m * 2 + 1) (((s.ptp p).seqDr + 1) % 65536) 1 late true
    let t3 := r.2.time.map fun t => Int.ofNat (t * 1000)
    let s := (r.1.sendOwn m).withPtp p fun x => { x with sent := x.sent + 1, seqDr := (x.seqDr + 1) % 65536, t3 := t3, t3Epoch := s.clk.epoch }
    if t3 = none then s.noStamp p else s

/-- An interval of R262 comes round: a master announces and sends Sync, a slave sends Delay_Req. While the MAC is paused the frame waits, and
is stamped when it leaves (R222). -/
def State.ptpTx (s : State) (p : Nat) (k : PtpTx) (late : Nat) : State :=
  if !(p < 4 && s.ptpRuns p) then s
  else
    let st := s.fld F.TM_PTP_STAT_PSTATE p
    let due := match k with | .delayReq => st == 3 || st == 4 | _ => st == 5
    let x := s.macRun (s.fld F.TM_PTP_PORT_MAC p)
    if !due then s
    else if x.paused.isSome then s.setMacRun { x with waiting := x.waiting ++ [(p, k)] }
    else s.ptpLeaves p k late

def execPtpTxInterval (p : Nat) (k : PtpTx) (late : Nat) (s : State) : Host.Outcome State Fault Refusal :=
  done (s.ptpTx p k late)

/-! ### Steps (R275, R276) -/

def stepRange (w0 w1 w2 : W) : Bool :=
  let op := F.TM_STEP_OP.of w0
  let wh := F.TM_STEP_WHEN.of w0
  F.TM_STEP_RESERVED.of w0 == 0 && F.TM_STEP_RESERVED1.of w1 == 0 && F.TM_STEP_RESERVED2.of w2 == 0
    && wh ≤ 1 && !(op == 1 && wh == 1)
    && (signed 32 (F.TM_STEP_AMOUNT.of w0)).natAbs ≤ 1000000
    && F.TM_STEP_NANOSECONDS.of w2 < 1000000000
    && (op != 3 || F.TM_STEP_REF.of w0 < 14 || F.TM_STEP_REF.of w0 == 15)

/-- The reference that a TOREF names (R275). -/
def State.toref (s : State) (w0 : W) : Option Nat :=
  let r := F.TM_STEP_REF.of w0
  if r = 15 then
    s.selected.orElse fun _ => s.bestRef ((List.range 14).filter fun r => s.fld F.TM_REF_STAT_STEPREF r == 1)
  else some r

/-- A reference's current offset: none for a clock input, in LOS, or never measured. -/
def State.refOffset (s : State) (r : Nat) : Option Int :=
  if isClock r || s.qstate r == qLOS || s.qstate r == qDISABLED then none else (s.ref r).offset

/-- How far the counter moves, in units of time. -/
def State.stepAmount (s : State) (w0 w1 w2 : W) : Int :=
  match F.TM_STEP_OP.of w0 with
  | 1 => (timeOf (F.TM_STEP_SECONDS.of w1) (F.TM_STEP_NANOSECONDS.of w2) : Int) - s.clk.count
  | 2 => roundDiv (signed 32 (F.TM_STEP_AMOUNT.of w0) * nsUnits) 1000
  | _ => match (s.toref w0).bind s.refOffset with
    | some e => -(roundDiv (e * nsUnits) 1000)
    | none => 0

/-- A take, audio change or head commit decided for an instant that a jump of H has passed lands at the next switch line, LATE
(R276). -/
def Work.jump (x : Work) (h : Nat) : Work :=
  match format x.fmt with
  | some f => if x.state = 2 ∧ f.switchLine x.field x.land * f.lineD < f.scale h then { x with jumped := true, late := true } else x
  | none => x

/-- H jumps: what follows it realigns (R276). -/
def State.houseJump (s : State) : State :=
  let s := { s with clk := { s.clk with hlag := 0 } }
  let s := s.setFld F.TM_STATE_SLEWING 0 0
  let s := { s with xp := { s.xp with work := s.xp.work.map fun x => Work.jump x s.house } }
  let s := { s with au := { s.au with sample := s.house * 48000 / secUnits } }
  { s with ap := { s.ap with streams := s.ap.streams.map fun x => { x with fade := 0 } } }

/-- A step applied (R276). -/
def State.stepApply (s : State) (w0 w1 w2 : W) : State :=
  let d := s.stepAmount w0 w1 w2
  let old := s.clk.count
  let new := (Int.ofNat old + d).toNat
  let lag := s.clk.hlag + (Int.ofNat old - Int.ofNat new)
  let s := { s with clk := { s.clk with count := new, hlag := lag, epoch := (s.clk.epoch + 1) % 65536 } }
  let s := s.markDirty
  let moved := roundDiv (d * 1000) nsUnits
  let s := s.withTm fun t => { t with refs := t.refs.map fun x => { x with offset := x.offset.map (· + moved) } }
  let s := s.note 0x5006 (secsOf old % 2 ^ 32) (nanosOf old) (F.TM_STEP_OP.of w0 * 256 + F.TM_STEP_REF.of w0)
  let s := s.setHist 9
  let s := s.setFld F.TM_STEP_STATUS 0 0x10
  let s := s.setFld F.TM_STEP_EPOCH 0 s.clk.epoch
  let s := s.withTm fun t => { t with step_ := none }
  let s := (List.range 14).foldl (fun s r =>
    if s.fld F.TM_REF_STAT_STEPREF r = 1 ∧ ((s.ref r).offset.map fun e => decide (e.natAbs ≤ 1000 * s.fld F.TM_SERVO_STEPTHR 0)) = some true then
      let s := s.setFld F.TM_REF_STAT_STEPREF r 0
      let s := s.withRef r fun x => { x with refused := 0 }
      if (s.ref r).signal && !s.flagged r then s.startQualify r else s
    else s) s
  if lag.natAbs ≤ s.fld F.TM_SERVO_JUMP 0 * nsUnits then
    if lag = 0 then
      if s.fld F.TM_STATE_SLEWING 0 == 1 then (s.setFld F.TM_STATE_SLEWING 0 0).setHist 10 else s
    else s.setFld F.TM_STATE_SLEWING 0 1
  else s.houseJump

/-- The time of a PENDING step. -/
def stepAt (w1 w2 : W) : Nat := timeOf (F.TM_STEP_SECONDS.of w1) (F.TM_STEP_NANOSECONDS.of w2)

/-- Full times compared by signed difference, with 48-bit seconds (R255): how far `a` lies ahead of `b`, where it is later. -/
def timeAhead (a b : Nat) : Option Nat :=
  let d := (a + (2 ^ 48 * secUnits - b % (2 ^ 48 * secUnits))) % (2 ^ 48 * secUnits)
  if 0 < d ∧ d < 2 ^ 47 * secUnits then some d else none

/-- A commit of `TM_STEP` (R275). -/
def putTmStep (rq : Req) (w0 w1 w2 : W) : HostWrite × (State → Status × State) :=
  let _ := rq
  (⟨⟨0x5050, 0, 0⟩, [(0, w0), (1, w1), (2, w2)], F.TM_STEP_OP.of w0, F.TM_STEP_OP.of w0 == 0 || stepRange w0 w1 w2⟩, fun s =>
    if F.TM_STEP_OP.of w0 = 0 then
      (.ok, ((s.setWord 0x5050 0 0 w0).setWord 0x5050 0 1 w1).setWord 0x5050 0 2 w2)
    else if s.tm.step_.isSome then (.busy, s)
    else if F.TM_STEP_WHEN.of w0 = 1 ∧ timeAhead (stepAt w1 w2) s.clk.count = none then (.expired, s.setFld F.TM_STEP_STATUS 0 0x27)
    else if F.TM_STEP_OP.of w0 = 3 ∧ ((s.toref w0).bind s.refOffset) = none then (.noref, s.setFld F.TM_STEP_STATUS 0 0x33)
    else
      let s := ((s.setWord 0x5050 0 0 (F.TM_STEP_OP.put w0 0)).setWord 0x5050 0 1 w1).setWord 0x5050 0 2 w2
      if F.TM_STEP_WHEN.of w0 = 1 then
        (.ok, (s.setFld F.TM_STEP_STATUS 0 2).withTm fun t => { t with step_ := some (w0, w1, w2) })
      else (.ok, s.stepApply w0 w1 w2))

def execStepAbsolute (rq : Req) (w0 w1 w2 : W) (s : State) : Host.Outcome State Fault Refusal :=
  let x := putTmStep rq (withOp F.TM_STEP_OP w0 1) w1 w2
  done (s.request rq x.1 x.2)

def execStepRelative (rq : Req) (w0 w1 w2 : W) (s : State) : Host.Outcome State Fault Refusal :=
  let x := putTmStep rq (withOp F.TM_STEP_OP w0 2) w1 w2
  done (s.request rq x.1 x.2)

def execStepToref (rq : Req) (w0 w1 w2 : W) (s : State) : Host.Outcome State Fault Refusal :=
  let x := putTmStep rq (withOp F.TM_STEP_OP w0 3) w1 w2
  done (s.request rq x.1 x.2)

/-- The instant of a PENDING step comes. -/
def State.stepDue (s : State) : State :=
  match s.tm.step_ with
  | none => s
  | some (w0, w1, w2) =>
    (s.waitCount (s.clk.count + (timeAhead (stepAt w1 w2) s.clk.count).getD 0)).stepApply w0 w1 w2

def execStepApply (s : State) : Host.Outcome State Fault Refusal := done s.stepDue

/-- Ticks until H meets the counter at SLEW (R276). -/
def State.slewTicks (s : State) : Nat :=
  let d := tickUnits * s.fld F.TM_SERVO_SLEW 0
  if d = 0 then 0 else (s.clk.hlag.natAbs * 100000000 + d - 1) / d

/-- H and the counter meet. -/
def State.slewDone (s : State) : State :=
  if s.fld F.TM_STATE_SLEWING 0 = 0 then s
  else
    let s := s.ticks s.slewTicks
    let s := { s with clk := { s.clk with hlag := 0 } }
    (s.setFld F.TM_STATE_SLEWING 0 0).setHist 10

def execSlewDone (s : State) : Host.Outcome State Fault Refusal := done s.slewDone

/-! ### Holdover (R277, R278) -/

/-- The update of every second in HOLDOVER. -/
def State.holdoverUpdate (s : State) (temp : Int) : State := if s.timing = tsHOLDOVER then s.holdRate temp else s

def execHoldoverUpdate (temp : Int) (s : State) : Host.Outcome State Fault Refusal := done (s.holdoverUpdate temp)

/-- The learned values go to the saved settings (R278). -/
def State.learnSave (s : State) : State := if s.tm.learnt = 0 then s else s.markDirty

def execHoldoverLearnSave (s : State) : Host.Outcome State Fault Refusal := done s.learnSave

/-- FORGET (R278): c, a, LEARNT and AGEVALID cleared. -/
def State.forget (s : State) : State :=
  let s := s.withTm fun t => { t with learn := [], ageBase := 0, learnt := 0, curve := List.replicate 16 0 }
  let s := (List.range 16).foldl (fun s i => s.putWord 0x5048 i 0 0) s
  let s := (s.putFld F.TM_HOLDOVER_AGEING 0 0).putFld F.TM_HOLDOVER_LEARNT 0 0
  s.setFld F.TM_STATE_AGEVALID 0 0

def execHoldoverForget (rq : Req) (s : State) : Host.Outcome State Fault Refusal :=
  done (s.request rq ⟨⟨0x5040, 5, 0⟩, [(5, 1)], 0, true⟩ fun s => (.ok, s.forget))

/-! ### Outputs (R280, R281) -/

/-- The level of an output at house time `h` (R280, R281): low where OFF; else a rising edge, or the start of a pulse, at every multiple of
its period plus OFFSET, and plus the phase taken from a pulse input. A CLOCK is high for half its period, and POL and WIDTH are for pulses
(DEDUCED). -/
def State.outLevel (s : State) (o h : Nat) : Bool :=
  let w0 := s.word 0x5058 o 0
  let m := F.TM_OUT_MODE.of w0
  if m = 0 ∨ 5 < m then false
  else
    let p := outPeriod w0
    let x := s.outPlace o h
    let half := m == 1 || F.TM_OUT_WIDTH.of w0 == 0
    let on : Bool := if half then 2 * x < (p.1 * secUnits : Nat) else x < (us (F.TM_OUT_WIDTH.of w0) * p.2 : Nat)
    on != (m != 1 && F.TM_OUT_POL.of w0 == 1)

def outRange (w0 w1 : W) : Bool :=
  let m := F.TM_OUT_MODE.of w0
  m ≤ 5 && (F.TM_OUT_ALIGN.of w0 ≤ 3 || F.TM_OUT_ALIGN.of w0 == 15)
    && F.TM_OUT_RESERVED.of w0 == 0 && F.TM_OUT_RESERVED1.of w1 == 0
    && (m != 1 || (1000 ≤ F.TM_OUT_FHZ.of w0 && F.TM_OUT_FHZ.of w0 ≤ 250000000))
    && (m < 3 || (format (F.TM_OUT_FORMAT.of w0)).isSome)

/-- The input's period is the output's or a whole multiple of it (R281). -/
def State.outPeriodOk (s : State) (w0 : W) : Bool :=
  let r := F.TM_OUT_ALIGN.of w0
  if F.TM_OUT_MODE.of w0 = 0 ∨ r = 15 then true
  else
    let w1 := s.word 0x5010 r 1
    let p := pulsePeriod (F.TM_REF_TYPE.of w1) (F.TM_REF_FORMAT.of w1)
    let o := outPeriod w0
    (p.1 * o.2) % (p.2 * o.1) == 0

/-- A write of `TM_OUT`: an output that it enables, or aligns with another input, takes the phase of that input's last edge (R281). -/
def putTmOut (s : State) (o : Nat) (ws : List (Nat × W)) : HostWrite × (State → Status × State) :=
  let w0 := newWord ws 0 (s.word 0x5058 o 0)
  let w1 := newWord ws 1 (s.word 0x5058 o 1)
  (⟨⟨0x5058, 0, o⟩, ws, 0, outRange w0 w1⟩, fun s =>
    let fieldBad := F.TM_OUT_MODE.of w0 == 4 && ((format (F.TM_OUT_FORMAT.of w0)).map (·.interlaced)) == some false
    if fieldBad || !s.outPeriodOk w0 then (.format, s)
    else
      let old := s.fld F.TM_OUT_MODE o
      let oldAlign := s.fld F.TM_OUT_ALIGN o
      let s := (s.putWord 0x5058 o 0 w0).putWord 0x5058 o 1 w1
      let r := F.TM_OUT_ALIGN.of w0
      let p : Int := (s.tm.edges.getD r none).getD 0
      let kept := old != 0 && oldAlign == r
      (.ok, if kept then s else s.withTm fun t => { t with outs := t.outs.set o ⟨p, none⟩ }))

def execTmOutWrite (rq : Req) (o w : Nat) (v : W) (s : State) : Host.Outcome State Fault Refusal :=
  let x := putTmOut s o [(w, v)]
  done (s.request rq x.1 x.2)

end Sys2Proof.Machine
end

