-- ==== Sys2Proof/Machine/Lanes.lean ====
section
/-! DEFINITION. Lanes and Isarsal links (chapter 8), the receiver's handling of sheets and port streams (R50, R58, R60) and the
mesh links (R19). -/
namespace Sys2Proof.Machine

/-! ### Lane elements (R195) -/

def laneDie (e : Nat) : Nat := e / 160
def laneRx (e : Nat) : Bool := e % 160 < 80
def laneShroud (e : Nat) : Nat := e % 80 / 10
def lanePos (e : Nat) : Nat := e % 10
def isDataLane (e : Nat) : Bool := lanePos e < 8
def isSpare (e : Nat) : Bool := lanePos e == 8

/-- The data lane of an element. -/
def laneNo (e : Nat) : Nat := laneShroud e * 8 + lanePos e

/-- The element at a position of a lane's shroud. -/
def shroudElem (e pos : Nat) : Nat := e / 10 * 10 + pos

/-- The `LK_SPARE` element of a lane's shroud (R213). -/
def spareElem (e : Nat) : Nat := laneDie e * 16 + (if laneRx e then 0 else 8) + laneShroud e

/-- The `LK_LANE` element of a spare. -/
def spareLane (se : Nat) : Nat := se / 16 * 160 + se % 16 * 10 + 8

/-- The `PW_DOMAIN` element of a lane's shroud (R435). -/
def laneDomain (e : Nat) : Nat := laneDie e * 32 + (if laneRx e then 8 else 0) + laneShroud e

/-- STATE of `PW_DOMAIN` (R437). -/
def dmOFF : Nat := 0
def dmON : Nat := 1
def dmRISING : Nat := 2
def dmFALLING : Nat := 3
def dmHELD : Nat := 4
def dmFAULT : Nat := 5

def State.domain (s : State) (e : Nat) : Nat := s.fld F.PW_DOMAIN_STATE e

/-- STATE of `LK_STAT` (R215). -/
def laDOWN : Nat := 0
def laACQUIRE : Nat := 1
def laHUNT : Nat := 2
def laLOCKED : Nat := 3
def laLOS : Nat := 4
def laSLEEP : Nat := 5
def laTEST : Nat := 6
def laMISWIRED : Nat := 7

def State.lane (s : State) (e : Nat) : Nat := s.fld F.LK_STAT_STATE e
def State.setLane (s : State) (e n : Nat) : State := s.setNotify F.LK_STAT_STATE e n

/-- MODE, which positions 8 and 9 ignore (R196, R197). -/
def State.laneMode (s : State) (e : Nat) : Nat := if isDataLane e then s.fld F.LK_LANE_MODE e else 0

/-- A data lane in ISARSAL mode, or a spare. -/
def State.isIsarsal (s : State) (e : Nat) : Bool := lanePos e < 9 && s.laneMode e == 0

def State.laneSleep (s : State) (e : Nat) : Nat := s.fld F.LK_LANE_SLEEP e

def State.laneRun (s : State) (e : Nat) : LaneRun :=
  (s.lk.lanes.find? fun x => x.e == e).getD ⟨e, [], 0, 0, 0, 0, none, none, 0, 0, 0, ⟨0, 0, 0, []⟩, 0, [], 0, List.replicate 8 0⟩

def State.setLaneRun (s : State) (x : LaneRun) : State :=
  { s with lk := { s.lk with lanes := x :: s.lk.lanes.filter fun y => !(y.e == x.e) } }

def State.dropLaneRun (s : State) (e : Nat) : State :=
  { s with lk := { s.lk with lanes := s.lk.lanes.filter fun y => !(y.e == e) } }

/-! ### Spares (R212, R213) -/

def spTEST : Nat := 0
def spMIRROR : Nat := 1
def spRELEASING : Nat := 2
def spOFF : Nat := 3
def spCOPY : Nat := 4
def spSELECTED : Nat := 5
def spUNTRAINED : Nat := 6

def State.spare (s : State) (se : Nat) : Nat := s.fld F.LK_SPARE_STATE se

/-- A spare's state, the lane and the sheet at which it begins. -/
def State.setSpare (s : State) (se n lane sheet : Nat) : State :=
  let v := F.LK_SPARE_SHEET.put (F.LK_SPARE_SLANE.put (F.LK_SPARE_STATE.put (s.word 0x4038 se 1) n) lane) (sheet % 2 ^ 23)
  let o := s.spare se
  let s := s.setWord 0x4038 se 1 v
  if o = n then s else s.notify 0x4038 se

def State.spareRun (s : State) (se : Nat) : Option SpareRun := s.lk.spares.find? fun x => x.e == se

def State.setSpareRun (s : State) (x : SpareRun) : State :=
  { s with lk := { s.lk with spares := x :: s.lk.spares.filter fun y => !(y.e == x.e) } }

def State.dropSpareRun (s : State) (se : Nat) : State :=
  { s with lk := { s.lk with spares := s.lk.spares.filter fun y => !(y.e == se) } }

/-- A spare mirrors, or is selected. -/
def State.spareInUse (s : State) (se : Nat) : Bool :=
  s.spare se == spMIRROR || s.spare se == spRELEASING || s.spare se == spSELECTED

/-- A receive spare whose lane is lost stands aside. -/
def State.spareLost (s : State) (e : Nat) : State :=
  if isSpare e && laneRx e then (s.dropSpareRun (spareElem e)).setSpare (spareElem e) spUNTRAINED 0 s.sheetNow else s

/-- A receive spare gains lock: it carries test sheets. -/
def State.spareFound (s : State) (e : Nat) : State :=
  if isSpare e && laneRx e && s.spare (spareElem e) == spUNTRAINED then s.setSpare (spareElem e) spTEST 0 s.sheetNow else s

/-- Every spare of the part stops mirroring at once (R213: entry to SAFE, LOAD, HOLD or SERVICE). Receive spares go on as R212 says. -/
def State.stopSpares (s : State) : State :=
  (s.lk.spares.filter fun x => 8 ≤ x.e % 16).foldl (fun s x => (s.dropSpareRun x.e).setSpare x.e spTEST 0 s.sheetNow) s

/-! ### A lane comes up and goes down (R207, R211, R435–R440) -/

def State.patternOn (s : State) (e : Nat) : Bool := s.fld F.LK_PRBS_PATTERN e != 0

/-- A raw pattern runs: on a lane awake whose domain is on (DEDUCED, log 163: a lane asleep or unpowered has no line signal). -/
def State.patternRuns (s : State) (e : Nat) : Bool := s.patternOn e && s.domain (laneDomain e) == dmON && s.laneSleep e == 0

/-- A transmit stay sends (R203): an Isarsal data lane or the spare of its shroud transmits. -/
def State.stayDue (s : State) (e : Nat) : Bool :=
  (List.range 9).any fun p => s.isIsarsal (shroudElem e p) && s.laneSleep (shroudElem e p) == 0

/-- The transmit stay of a lane's shroud as its lanes now stand. -/
def State.settleStay (s : State) (e : Nat) : State :=
  let y := shroudElem e 9
  if laneRx e || s.domain (laneDomain e) != dmON || s.laneSleep y != 0 then s
  else s.setLane y (if s.stayDue y then laLOCKED else laDOWN)

/-- The lane as its SLEEP asks, its domain being on: a transmitter sends, a receiver trains; a pattern set runs (R207, R211, R214). -/
def State.startLane (s : State) (e : Nat) : State :=
  let z := s.laneSleep e
  let s := (s.setFld F.LK_STAT_DEPTH e z).setFld F.LK_STAT_SDIRATE e 0
  let s := if z != 0 then s.setLane e laSLEEP
    else if s.patternOn e then s.setLane e laTEST
    else if laneRx e then s.setLane e laACQUIRE
    else if lanePos e = 9 then s.setLane e (if s.stayDue e then laLOCKED else laDOWN)
    else s.setLane e laLOCKED
  if isSpare e then s.setSpare (spareElem e) (if laneRx e then spUNTRAINED else spTEST) 0 s.sheetNow else s

/-- The link of a MAC whose lane stops goes down. -/
def State.dropLink (s : State) (e : Nat) : State :=
  if isDataLane e && (s.laneMode e == 1 || s.laneMode e == 2) then
    let down := fun (x : MacRun) => if x.m = laneDie e * 16 + laneNo e / 4 then { x with link := false } else x
    { s with mx := { s.mx with macs := s.mx.macs.map down } }
  else s

/-- The lane's domain is off. -/
def State.stopLane (s : State) (e : Nat) : State :=
  let s := s.dropLink e
  let s := ((((s.dropLaneRun e).setFld F.LK_STAT_DEPTH e 3).setFld F.LK_STAT_SDIRATE e 0).setLane e laDOWN).checkStayRefs
  if isSpare e then
    (s.dropSpareRun (spareElem e)).setSpare (spareElem e) (if laneRx e then spUNTRAINED else spOFF) 0 s.sheetNow
  else s

/-- The ten lanes of a shroud's domain, the stay first (R207). -/
def domainLanes (e : Nat) : List Nat :=
  let d := e / 32
  let k := e % 32
  [9, 0, 1, 2, 3, 4, 5, 6, 7, 8].map fun p => if k < 8 then d * 160 + 80 + k * 10 + p else d * 160 + (k - 8) * 10 + p

/-! ### What a lane carries (R198, R234, R438) -/

/-- A port entry of a table names the lane. -/
def State.portNames (s : State) (t : Table) (e : Nat) : Bool :=
  [false, true].any fun dst => s.tableRx dst == laneRx e
    && (validPorts t dst).any fun x => (s.lanesOf dst x.2).contains (laneDie e, laneNo e)

/-- A live SDI transport names the lane. -/
def State.sdiNames (s : State) (e : Nat) : Bool :=
  (validPorts s.regs (!laneRx e)).any fun x =>
    let w := s.xport (!laneRx e) x.1 0
    xportUsed s.sys.role x.2 && xType w == xSDI && pDie x.2 == laneDie e && F.MX_XPORT_LANE.of w == laneNo e

/-- A data lane carries a port, an enabled MAC, the twin link, or a live SDI transport. -/
def State.laneCarries (s : State) (e : Nat) : Bool :=
  isDataLane e && (s.portNames s.regs e || s.portNames s.shadow e || s.macOn (laneDie e * 16 + laneNo e / 4)
    || s.inTwinShroud (laneDie e) (laneNo e) || s.sdiNames e)

/-! ### `LK_LANE` (R197, R198) -/

/-- Order 1 of R198. At positions 8 and 9 MODE is ignored, a reserved code of it too (DEDUCED). -/
def laneRange (e : Nat) (v : W) : Bool :=
  (!isDataLane e || F.LK_LANE_MODE.of v < 4) && F.LK_LANE_SLEEP.of v != 3 && F.LK_LANE_LOOP.of v != 3 && F.LK_LANE_RESERVED.of v == 0
    && (laneRx e || (F.LK_LANE_LOOP.of v == 0 && F.LK_LANE_PEERCHK.of v == 0)) && v.toNat < 2 ^ 32

/-- SLEEP would stop something in use (R198 order 5); no lane of an unpowered shroud is awake (R211). -/
def State.sleepBusy (s : State) (e : Nat) : Bool :=
  s.laneCarries e || (isSpare e && s.spareInUse (spareElem e))
    || (lanePos e == 9 && s.domain (laneDomain e) == dmON && s.stayDue e)

/-- A lane whose entry has been written: a mode change trains it again, AWAKE wakes it, SLEEP puts it to sleep (R198, R211). An Isarsal receiver
hunts as it wakes from IDLE, its equaliser held; an SDI one finds its rate again (R196). -/
def State.applyLane (s : State) (e : Nat) (o : W) : State :=
  let s := s.putBack .lane (laneDie e) e
  let z := s.laneSleep e
  if s.domain (laneDomain e) != dmON then s
  else
    let s := if F.LK_LANE_MODE.of o != s.fld F.LK_LANE_MODE e && isDataLane e then (s.dropLaneRun e).startLane e
      else if z = F.LK_LANE_SLEEP.of o then s
      else if z != 0 then ((s.setFld F.LK_STAT_DEPTH e z).setLane e laSLEEP).spareLost e
      else if laneRx e && F.LK_LANE_SLEEP.of o == 1 && s.isIsarsal e && !s.patternOn e then (s.setFld F.LK_STAT_DEPTH e 0).setLane e laHUNT
      else s.startLane e
    if lanePos e = 9 then s else s.settleStay e

/-- A write of `LK_LANE`. -/
def putLane (e : Nat) (v : W) : HostWrite × (State → Status × State) :=
  (⟨⟨0x4010, 0, e⟩, [(0, v)], 0, laneRange e v⟩, fun s =>
    let o := s.word 0x4010 e 0
    let m := F.LK_LANE_MODE.of v
    let turns := isDataLane e && m != F.LK_LANE_MODE.of o
    if isDataLane e && (m == 1 || m == 2) && !s.caps.media then (.absent, s)
    else if F.LK_LANE_LOOP.of v != 0 && s.mode != SERVICE then (.mode, s)
    else if turns && s.laneCarries e then (.busy, s)
    else if F.LK_LANE_SLEEP.of v != 0 && s.sleepBusy e then (.busy, s)
    else (.ok, (s.putWord 0x4010 e 0 v).applyLane e o))

def execLkLaneWrite (rq : Req) (e : Nat) (v : W) (s : State) : Host.Outcome State Fault Refusal :=
  let x := putLane e v
  done (s.request rq x.1 x.2)

/-! ### Equalisers (R209, R210) -/

def State.sending (s : State) (e : Nat) : Bool := !laneRx e && s.lane e == laLOCKED

/-- A lane in SDI mode holds PRE and POST at 0 (R209). -/
def State.sdiTaps (s : State) (e : Nat) (v : W) : W :=
  if s.laneMode e = 3 then F.LK_TXEQ_PRE.put (F.LK_TXEQ_POST.put v 0) 0 else v

/-- The taps in effect. -/
def State.taps (s : State) (e : Nat) : W := s.sdiTaps e ((s.laneRun e).taps.getD (s.word 0x4018 e 0))

/-- The taps to which a lane goes: those written; in ETH-KR4, PRE and POST stay as trained, AMP being the host's (R209). -/
def State.tapGoal (s : State) (e : Nat) : W :=
  let v := s.sdiTaps e (s.word 0x4018 e 0)
  match s.laneMode e == 1, (s.laneRun e).taps with
  | true, some t => F.LK_TXEQ_PRE.put (F.LK_TXEQ_POST.put v (F.LK_TXEQ_POST.of t)) (F.LK_TXEQ_PRE.of t)
  | _, _ => v

/-- A write of `LK_TXEQ`: a sending lane walks there from the taps in effect. -/
def putTxeq (e : Nat) (v : W) : HostWrite × (State → Status × State) :=
  (⟨⟨0x4018, 0, e⟩, [(0, v)], 0, !laneRx e && F.LK_TXEQ_PRE.of v + F.LK_TXEQ_POST.of v ≤ 40 && F.LK_TXEQ_RESERVED.of v == 0
      && v.toNat < 2 ^ 32⟩, fun s =>
    let t := s.taps e
    let s := s.putWord 0x4018 e 0 v
    let goal := s.tapGoal e
    let now := if s.sending e && t != goal then some t else if goal = s.sdiTaps e v then none else some goal
    (.ok, s.setLaneRun { s.laneRun e with taps := now }))

def execLkTxeqWrite (rq : Req) (e : Nat) (v : W) (s : State) : Host.Outcome State Fault Refusal :=
  let x := putTxeq e v
  done (s.request rq x.1 x.2)

/-- One step from `a` towards `b`. -/
def towards (a b : Nat) : Nat := if a < b then a + 1 else if b < a then a - 1 else a

/-- TXEQ_STEP. -/
def State.txeqStep (s : State) (e : Nat) : State :=
  match (s.laneRun e).taps with
  | none => s
  | some t =>
    let goal := s.tapGoal e
    let step := fun (f : Fld) (v : W) => f.put v (towards (f.of t) (f.of goal))
    let t := step F.LK_TXEQ_POST (step F.LK_TXEQ_PRE (step F.LK_TXEQ_AMP t))
    let there := if s.laneMode e = 1 then s.word 0x4018 e 0 else goal
    if s.sending e then s.setLaneRun { s.laneRun e with taps := if t = there then none else some t } else s

def execTxeqStep (e : Nat) (s : State) : Host.Outcome State Fault Refusal := done (s.txeqStep e)

/-- The bound of a DFE tap, in thousandths of the main cursor (R208): ±40 % on tap 1, ±15 % on taps 2 to 8. The unit is the model's (DESIGN
CHOICE, log 188). -/
def dfeBound (tap : Nat) : Int := if tap = 1 then 400 else 150

/-- The eight DFE taps to which a receiver adapts, each within its range; a tap not given is 0. -/
def dfeWithin (l : List Int) : List Int :=
  (List.range 8).map fun i => max (-dfeBound (i + 1)) (min (dfeBound (i + 1)) (l.getD i 0))

/-- A write of `LK_RXEQ`. -/
def putRxeq (e : Nat) (v : W) : HostWrite × (State → Status × State) :=
  (⟨⟨0x4020, 0, e⟩, [(0, v)], 0, laneRx e && F.LK_RXEQ_CTLE.of v ≤ 20 && F.LK_RXEQ_RESERVED.of v == 0 && v.toNat < 2 ^ 32⟩, fun s =>
    let s := s.putWord 0x4020 e 0 v
    (.ok, if F.LK_RXEQ_ADAPT.of v = 0 then s.setFld F.LK_STAT_CTLENOW e (F.LK_RXEQ_CTLE.of v) else s))

/-! ### Headers and lock (R42, R201, R202, R205) -/

def hdrClaim (h : W) : Nat := getBits h 48 16
def hdrType (h : W) : Nat := getBits h 46 2
def hdrBank (h : W) : Nat := getBits h 45 1
def hdrDie (h : W) : Nat := getBits h 42 3
def hdrLane (h : W) : Nat := getBits h 36 6
def hdrSpare (h : W) : Bool := getBits h 35 1 == 1
def hdrSheet (h : W) : Nat := getBits h 12 23

def tyLIVE : Nat := 0
def tyIDLE : Nat := 1
def tyTEST : Nat := 2

/-- SHEET follows on from the one before. -/
def sheetFollows (a b : Nat) : Bool := b == (a + 1) % 2 ^ 23

/-- The lane against whose expectation a header is checked (R202): on a spare that carries a copy, the lane copied. -/
def peerElem (e : Nat) (h : W) : Nat := if isSpare e && hdrSpare h && hdrType h == tyLIVE then shroudElem e (hdrLane h % 8) else e

/-- The header is what PEERCHK expects; a lane without PEERCHK expects anything. -/
def State.peerOk (s : State) (e : Nat) (h : W) : Bool :=
  let q := peerElem e h
  s.fld F.LK_LANE_PEERCHK q == 0
    || (s.fld F.LK_LANE_PEERDIE q == hdrDie h && s.fld F.LK_LANE_PEERLANE q == hdrLane h)

/-- A claim of the twin is heard: in its live and test sheets on the twin link (R285), or as an edge reflects it in live sheets (R286); a live
sheet on the link ends the twin's silence (R289). -/
def State.hear (s : State) (e : Nat) (h : W) : State :=
  let link := s.inTwinShroud (laneDie e) (laneNo e) && isDataLane e
  let c := hdrClaim h
  if !s.paired || !(hdrType h == tyLIVE || (link && hdrType h == tyTEST)) || c == 0 then s
  else
    let s := if link && hdrType h == tyLIVE then { s with tw := { s.tw with silent := false } } else s
    if link || c % 2 != s.fld F.TW_CONFIG_UNIT 0 then
      let o := c / 2 % 2048
      { s with tw := { s.tw with epochSeen := some (match s.tw.epochSeen with | some x => if later 11 o x then o else x | none => o) } }
    else s

/-- What `LK_STAT` shows of a passing header. -/
def State.seen (s : State) (e : Nat) (h : W) (arrival : Int) : State :=
  let s := s.hear e h
  (((s.setFld F.LK_STAT_SEENDIE e (hdrDie h)).setFld F.LK_STAT_SEENLANE e (hdrLane h)).setFld F.LK_STAT_SEENSPARE e
    (flag (hdrSpare h))).setFld F.LK_STAT_ARRIVAL e (unsigned 16 (max (-32768) (min 32767 arrival)))

/-- The lane enters MISWIRED. -/
def State.miswire (s : State) (e : Nat) (h : W) : State :=
  ((s.bump F.LK_STAT_MISWIRE e 1).setLane e laMISWIRED).raise 0x4002 (laneDie e) e (hdrDie h) (hdrLane h)

/-- The peer check of a passing header. -/
def State.peerCheck (s : State) (e : Nat) (h : W) : State :=
  let x := s.laneRun e
  if s.peerOk e h then
    let n := x.mtch + 1
    let s := s.setLaneRun { x with mtch := min 8 n, mism := 0 }
    if s.lane e = laMISWIRED ∧ 8 ≤ n then s.setLane e laLOCKED else s
  else
    let n := x.mism + 1
    let s := s.setLaneRun { x with mism := min 8 n, mtch := 0 }
    if s.lane e = laLOCKED ∧ 8 ≤ n then s.miswire e h else s

/-- A lane gains sheet lock at a position. -/
def State.gainLock (s : State) (e pos : Nat) (h : W) (arrival : Int) : State :=
  let s := s.setLaneRun { s.laneRun e with cands := [], pos := pos, fails := 0, mism := 0, mtch := 0, last := some h }
  ((s.setLane e laLOCKED).seen e h arrival).spareFound e

/-- A lane leaves LOCKED. -/
def State.loseLock (s : State) (e goal : Nat) : State :=
  let s := s.setLaneRun { s.laneRun e with cands := [], fails := 0, mism := 0, mtch := 0 }
  (((s.bump F.LK_STAT_LOSSES e 1).setLane e goal).spareLost e).checkStayRefs

/-- The data lane to which a lane's counts are credited (R60): on a spare, the lane it replaces. -/
def State.countLane (s : State) (e : Nat) : Option Nat :=
  if isDataLane e then some (laneDie e * 64 + laneNo e)
  else match s.spareRun (spareElem e) with
    | some x => if s.spare (spareElem e) = spSELECTED then some (laneDie e * 64 + laneShroud e * 8 + x.pos) else none
    | none => none

/-- A block at a position where a hunting lane looks for a header. -/
def State.huntBlock (s : State) (e pos : Nat) (ok : Bool) (h : W) (arrival : Int) : State :=
  let x := s.laneRun e
  let others := x.cands.filter fun c => !(c.pos == pos)
  let good := ok && hdrType h != 3
  match x.cands.find? fun c => c.pos == pos with
  | some c =>
    if !good then s.setLaneRun { x with cands := others }
    else
      let n := if sheetFollows c.sheet (hdrSheet h) then c.count + 1 else 1
      if 4 ≤ n then s.gainLock e pos h arrival
      else s.setLaneRun { x with cands := ⟨pos, n, hdrSheet h⟩ :: others }
  | none => if good && others.length < 8 then s.setLaneRun { x with cands := ⟨pos, 1, hdrSheet h⟩ :: others } else s

/-- The header block of a locked lane. -/
def State.lockedBlock (s : State) (e : Nat) (ok : Bool) (h : W) (arrival : Int) : State :=
  let x := s.laneRun e
  if !ok then
    let s := match s.countLane e with | some k => s.bump F.ES_RX_COUNTS_SHEET_HEADER k 1 | none => s
    if 4 ≤ x.fails + 1 then s.loseLock e laHUNT else s.setLaneRun { x with fails := x.fails + 1 }
  else
    let slip := match x.last with | some o => !sheetFollows ((hdrSheet o + x.fails) % 2 ^ 23) (hdrSheet h) | none => false
    let s := s.setLaneRun { x with fails := 0, last := some h }
    let s := if slip then s.bump F.LK_STAT_SHEETSLIP e 1 else s
    (s.seen e h arrival).peerCheck e h

/-- RX_HEADER_BLOCK: the header passes with sync header 0b10 and its check (R49). -/
def State.headerBlock (s : State) (e pos sync : Nat) (h : W) (arrival : Int) : State :=
  if !laneRx e || !s.isIsarsal e then s
  else
    let ok := sync == 2 && hdrOk h
    let st := s.lane e
    if st = laHUNT then s.huntBlock e pos ok h arrival
    else if (st = laLOCKED ∨ st = laMISWIRED) ∧ pos = (s.laneRun e).pos then s.lockedBlock e ok h arrival
    else s

def execRxHeaderBlock (e pos sync : Nat) (payload : W) (arrival : Int) (s : State) : Host.Outcome State Fault Refusal :=
  done (s.headerBlock e pos sync payload arrival)

/-- The SDI source ports of a receive lane lose their signal (R249). -/
def State.sdiLost (s : State) (e : Nat) : State :=
  (validPorts s.regs false).foldl (fun (s : State) x =>
    let w := s.xport false x.1 0
    if xportUsed s.sys.role x.2 && xType w == xSDI && pDie x.2 == laneDie e && F.MX_XPORT_LANE.of w == laneNo e
        && (s.link false x.1 == lkLOCKED || s.link false x.1 == lkFORMAT) then s.setLink false x.1 lkNOSIGNAL else s) s

/-- LANE_SIGNAL_LOSS. -/
def State.signalLoss (s : State) (e : Nat) : State :=
  let st := s.lane e
  if !laneRx e || lanePos e == 9 then s
  else if st = laLOCKED ∨ st = laMISWIRED then
    let s := s.loseLock e laLOS
    if s.laneMode e = 3 then (s.setFld F.LK_STAT_SDIRATE e 0).sdiLost e else s
  else if st = laHUNT ∨ st = laACQUIRE then s.setLane e laLOS
  else s

def execLaneSignalLoss (e : Nat) (s : State) : Host.Outcome State Fault Refusal := done (s.signalLoss e)

/-- LANE_SIGNAL_RETURN. -/
def State.signalReturn (s : State) (e : Nat) : State :=
  if laneRx e && lanePos e != 9 && s.lane e == laLOS then s.setLane e (if s.isIsarsal e then laHUNT else laACQUIRE) else s

def execLaneSignalReturn (e : Nat) (s : State) : Host.Outcome State Fault Refusal := done (s.signalReturn e)

/-! ### Training and the stay (R203, R207) -/

/-- A lane at the end of its shroud's training. -/
def State.trainedLane (s : State) (e : Nat) (t : Trained) : State :=
  let frozen := s.fld F.LK_RXEQ_ADAPT e == 0
  let s := s.setFld F.LK_STAT_CTLENOW e (if frozen then s.fld F.LK_RXEQ_CTLE e else min 20 t.ctle)
  let s := if frozen then s else s.setLaneRun { s.laneRun e with dfe := dfeWithin t.dfe }
  let s := s.setFld F.LK_STAT_EYEH e t.eye
  if !hdrOk t.header then s.setLane e laHUNT
  else
    let s := s.gainLock e (s.laneRun e).pos t.header t.arrival
    if s.peerOk e t.header then s else s.miswire e t.header

/-- LANE_TRAINING_DONE: the lanes of a powered shroud that were acquiring lock, or hunt; so does a stay that was acquiring. A stay that was
lost comes back by STAY_RETURN alone (R203). A lane in SDI mode locks to the rate it found (R196); its Ethernet lanes follow their MAC's link. -/
def State.trainingDone (s : State) (d sh : Nat) (l : List Trained) : State :=
  let base := d * 160 + sh * 10
  if s.domain (d * 32 + 8 + sh) != dmON then s
  else
    let s := (List.range 9).foldl (fun (s : State) p =>
      let e := base + p
      if s.lane e != laACQUIRE then s
      else if s.laneMode e = 3 then match l.find? fun t => t.pos == p with
        | some t => if 1 ≤ t.rate ∧ t.rate ≤ 8 then (s.setFld F.LK_STAT_SDIRATE e t.rate).setLane e laLOCKED else s
        | none => s
      else if !s.isIsarsal e then s
      else match l.find? fun t => t.pos == p with
        | some t => s.trainedLane e t
        | none => s.setLane e laHUNT) s
    if s.lane (base + 9) = laACQUIRE then s.setLane (base + 9) laLOCKED else s

def execLaneTrainingDone (d shroud : Nat) (lanes : List Trained) (s : State) : Host.Outcome State Fault Refusal :=
  done (s.trainingDone d shroud lanes)

/-- STAY_LOS: no lane loses lock. -/
def State.stayLost (s : State) (e : Nat) : State :=
  if laneRx e && lanePos e == 9 && s.lane e == laLOCKED then
    ((s.setLane e laLOS).raise 0x4003 (laneDie e) e 0 0).checkStayRefs
  else s

def execStayLos (e : Nat) (s : State) : Host.Outcome State Fault Refusal := done (s.stayLost e)

/-- STAY_RETURN. -/
def State.stayBack (s : State) (e : Nat) : State :=
  if laneRx e && lanePos e == 9 && s.lane e == laLOS then s.setLane e laLOCKED else s

def execStayReturn (e : Nat) (s : State) : Host.Outcome State Fault Refusal := done (s.stayBack e)

/-! ### Covering a lane (R212, R213) -/

/-- A sheet number mod 2²³ at least `n` ahead of another, by signed difference. -/
def sheetAhead (n a v : Nat) : Bool := n % 2 ^ 23 ≤ (v + (2 ^ 23 - a % 2 ^ 23)) % 2 ^ 23 && (v + (2 ^ 23 - a % 2 ^ 23)) % 2 ^ 23 < 2 ^ 22

/-- A write of word 0 of `LK_SPARE`. -/
def putSpare (se : Nat) (v : W) : HostWrite × (State → Status × State) :=
  let op := F.LK_SPARE_OP.of v
  let p := F.LK_SPARE_LANE.of v
  (⟨⟨0x4038, 0, se⟩, [(0, v)], op, (op == 1 || op == 2) && 8 ≤ se % 16 && F.LK_SPARE_RESERVED.of v == 0 && v.toNat < 2 ^ 32⟩, fun s =>
    let st := s.spare se
    let e := spareLane se
    let a := s.sheetNow
    if !(s.mode == STANDBY || s.mode == ACTIVE) then (.mode, s)
    else if op = 1 then
      if st == spMIRROR || st == spRELEASING || s.laneMode (shroudElem e p) != 0 || s.laneSleep e != 0 || s.patternOn e
          || s.domain (laneDomain e) != dmON then (.busy, s)
      else
        let start := F.LK_SPARE_START.of v
        let n := if F.LK_SPARE_ATSHEET.of v = 1 ∧ sheetAhead 16 a start then nearest 23 a start else a + 16
        (.ok, (s.setSpareRun ⟨se, p, n, none, 0⟩).setSpare se spMIRROR p n)
    else match s.spareRun se with
      | some x =>
        if st != spMIRROR || x.pos != p then (.busy, s)
        else (.ok, (s.setSpareRun { x with until_ := some (a + 63) }).setSpare se spRELEASING p a)
      | none => (.busy, s))

def execSpareCover (rq : Req) (e : Nat) (v : W) (s : State) : Host.Outcome State Fault Refusal :=
  let x := putSpare e (withOp F.LK_SPARE_OP v 1)
  done (s.request rq x.1 x.2)

def execSpareRelease (rq : Req) (e : Nat) (v : W) (s : State) : Host.Outcome State Fault Refusal :=
  let x := putSpare e (withOp F.LK_SPARE_OP v 2)
  done (s.request rq x.1 x.2)

/-- Transmit spares at sheet `n`: one past the end of its mirroring sends test sheets. -/
def State.spareSheet (s : State) (n : Nat) : State :=
  s.lk.spares.foldl (fun s x =>
    match x.until_ with
    | some u => if u < n then (s.dropSpareRun x.e).setSpare x.e spTEST 0 n else s
    | none => s) s

/-! ### Sheets received (R43, R50, R58, R60, R212) -/

/-- The owner of a slot of a receive lane by a calendar bank (R55, R58). -/
def State.ownerIn (s : State) (t : Table) (d l sl : Nat) : Option (Nat × W) := { s with regs := t }.slotOwner true d l sl

/-- The tables of a bank: those in force with the words of the other bank in the place of theirs. -/
def State.bankTable (s : State) (live : Bool) : Table :=
  if live then s.regs else takeOver swapped s.regs s.lk.other

/-- The bank that is live on this part. -/
def State.liveBank (s : State) : Nat := s.fld F.ES_CAL_CTRL_PUBLISHED 0 % 2

/-- The previous sheet's CBANK on a receive lane (R50). DESIGN CHOICE (log 146): ahead of the first sheet, the live bank. -/
def State.lastBank (s : State) (d l : Nat) : Nat := ((s.lk.bank.find? fun x => x.1 == d * 64 + l).map (·.2)).getD s.liveBank

/-- The bank that a lane's sheet names has been published here (R58): the live one; or the one before it, until the lane has named the
live one or a rebuild works in it. -/
def State.bankKnown (s : State) (k named : Nat) : Bool := named == s.liveBank || (s.lk.otherOk && !s.lk.caught.contains k)

/-- A copy whose header passes its check. -/
def copyOk (c : SheetCopy) : Bool := hdrOk c.header

/-- A live copy of lane `l`. -/
def copyOf (c : SheetCopy) (l : Nat) : Bool :=
  hdrType c.header == tyLIVE && hdrSpare c.header && hdrLane c.header % 8 == l % 8

/-- Slots of a copy whose CRC-16 failed (R60). -/
def failedSlots (c : SheetCopy) : Nat := c.slots.countP fun x => !x.2

/-- The twin comparison counts the lane's slots (R296): the lane belongs to a pair. -/
def State.lanePaired (s : State) (d l : Nat) : Bool :=
  s.sys.role != CORE && (let a := s.laneA true d l; (s.pairOf true a.1 a.2).isSome)

/-- The CBANK of a lane's sheet, whatever its type (R50). -/
def State.keepBank (s : State) (k named : Nat) : State :=
  { s with lk := { s.lk with bank := (k, named) :: s.lk.bank.filter fun x => !(x.1 == k) } }

/-- What a lane's live sheet names noted: its CBANK, and that the lane has come to the live bank. -/
def State.noteBank (s : State) (k named : Nat) : State :=
  let caught := if named == s.liveBank && !s.lk.caught.contains k then k :: s.lk.caught else s.lk.caught
  { s with lk := { s.lk with caught := caught } }.keepBank k named

/-- The tables by which a copy's slots are decoded: those of the bank it names where it is known here, else the live ones. -/
def State.sheetTable (s : State) (d l : Nat) (c : SheetCopy) : Table :=
  let named := if copyOk c then hdrBank c.header else s.lastBank d l
  s.bankTable (named == s.liveBank || !s.bankKnown (d * 64 + l) named)

/-- The words that a live sheet, or one whose header fails its check (R50), brings to each port, of its slots' words (R43, R44, R58). -/
def State.sheetWords (s : State) (d l : Nat) (c : SheetCopy) (words : Nat → List W) : List (Nat × List W) :=
  if copyOk c && hdrType c.header != tyLIVE then []
  else
    let own := (List.range 24).filterMap fun sl => s.ownerIn (s.sheetTable d l c) d l sl
    (dedup (own.map (·.1))).map fun p =>
      (p, portStream (((own.find? fun x => x.1 == p).map fun x => pMask x.2).getD 0) [words])

/-- The slots of a copy decoded (R50, R58). -/
def State.decodeCopy (s : State) (d l : Nat) (c : SheetCopy) : State :=
  let k := d * 64 + l
  let named := if copyOk c then hdrBank c.header else s.lastBank d l
  let s := if s.bankKnown k named then s else s.bump F.ES_RX_COUNTS_CAL_SKEW k 1
  let s := if copyOk c then s.noteBank k named else s
  let n := failedSlots c
  if n = 0 ∨ s.lanePaired d l = true then s
  else
    let s := s.bump F.ES_RX_COUNTS_DATA_CRC k n
    let m := ((s.lk.crcSec.find? fun x => x.1 == k).map (·.2)).getD 0
    { s with lk := { s.lk with crcSec := (k, m + n) :: s.lk.crcSec.filter fun x => !(x.1 == k) } }

/-- A part that runs self-test: a CORE in STANDBY (R302). -/
def State.selfTests (s : State) : Bool := s.sys.role == CORE && s.mode == STANDBY

/-- A self-test failure: STERR counts and the record is written (R302, R412): P1 0 a slot, 1 an engine, 2 a spare lane; P2 the unit: the slot as
`TW_CMP` numbers it, the engine's or the spare's element (log 199). -/
def State.selfTestFailed (s : State) (p1 p2 : Nat) : State :=
  ({ s with tw := { s.tw with stErr := satAdd 65535 s.tw.stErr 1 } }).note 0x5804 p1 p2 0

/-- Errors in a test sheet of a spare lane: counted, and in a part that runs self-test a failure (R302). -/
def State.spareErrors (s : State) (se n : Nat) : State :=
  let s := s.bump F.LK_SPARE_TESTERR se n
  if 0 < n && s.selfTests then s.selfTestFailed 2 se else s

/-- The spare's copy of this sheet taken note of: test errors, copies in a row, the return to the lane (R212). -/
def State.spareCopy (s : State) (d l n : Nat) (c : Option SheetCopy) : State :=
  let e := shroudElem (laneElem true d l) 8
  let se := spareElem e
  let st := s.spare se
  let run := s.spareRun se
  let mine := match run with | some x => x.pos == l % 8 | none => true
  let back := fun (s : State) => if st == spSELECTED || st == spCOPY then (s.dropSpareRun se).setSpare se spTEST 0 n else s
  match c with
  | none =>
    if !mine then s
    else if st = spSELECTED then back s
    else match run with
      | some x => s.setSpareRun { x with copies := 0 }
      | none => s
  | some c =>
    if !copyOk c then
      match run with
      | some x => if mine && st == spCOPY then s.setSpareRun { x with copies := 0 } else s
      | none => if st = spTEST then s.spareErrors se c.testErr else s
    else if copyOf c l && s.peerOk e c.header then
      if st = spSELECTED ∧ mine = true then s
      else
        let k := if mine then (match run with | some x => x.copies | none => 0) + 1 else 1
        let from_ := if mine && run.isSome then (match run with | some x => x.from_ | none => n) else n
        let s := s.setSpareRun ⟨se, l % 8, from_, none, k⟩
        if 8 ≤ k then s.setSpare se spSELECTED (l % 8) (n + 1)
        else if k = 1 then s.setSpare se spCOPY (l % 8) n
        else s
    else if hdrType c.header = tyTEST then back (s.spareErrors se c.testErr)
    else if mine then back s
    else s

/-- RX_SHEET: a data lane that is not LOCKED in ISARSAL mode, or is contained (R392), decodes no slots of its own; its spare's copy is
judged all the same. The essence engines decode (R31). -/
def State.rxSheet (s : State) (d l : Nat) (data spare : Option SheetCopy) : State :=
  let e := laneElem true d l
  let sp := shroudElem e 8
  let se := spareElem e
  let n := match spare, data with
    | some c, _ => if copyOk c then hdrSheet c.header else s.sheetNow
    | none, some c => if copyOk c then hdrSheet c.header else s.sheetNow
    | none, none => s.sheetNow
  let was := s.spare se == spSELECTED && (match s.spareRun se with | some x => x.pos == l % 8 | none => false)
  let spare := if s.lane sp = laLOCKED ∧ s.isOut .lane d sp = false then spare else none
  let data := if s.lane e = laLOCKED ∧ s.laneMode e = 0 ∧ s.isOut .lane d e = false then data else none
  let s := s.spareCopy d l n spare
  if !s.enginesRun then s else
  let use := was && s.spare se == spSELECTED
  let copying := match s.spareRun se with | some x => x.pos == l % 8 | none => false
  let mine := match spare with | some c => if copyOk c then copyOf c l else copying | none => false
  let other := if mine then spare else none
  let first := if use then other else data
  let second := if use then data else other
  let ok := fun (c : Option SheetCopy) => match c with | some c => copyOk c && hdrType c.header == tyLIVE | none => false
  let fall := !ok first && ok second && first.isSome
  let pick := if fall then second else first
  let left := if fall then first else second
  let s := if fall then s.bump F.LK_SPARE_FALLBACKS se 1 else s
  let s := match left with
    | some c => s.bump F.LK_SPARE_OTHERERR se (failedSlots c)
    | none => s
  match pick with
  | none => s
  | some c => if copyOk c && hdrType c.header != tyLIVE then s.keepBank (d * 64 + l) (hdrBank c.header) else s.decodeCopy d l c

def execRxSheet (d lane : Nat) (data spare : Option SheetCopy) (s : State) : Host.Outcome State Fault Refusal :=
  done (s.rxSheet d lane data spare)

/-- RX_OVERRUN: the newest sheet of the lane is discarded whole. -/
def State.overrun (s : State) (d l : Nat) : State := s.bump F.LK_STAT_OVERRUN (laneElem true d l) 1

def execRxOverrun (d lane : Nat) (s : State) : Host.Outcome State Fault Refusal := done (s.overrun d lane)

/-- TX_STARVE: each frame not sent is counted (R451). -/
def State.starve (s : State) (d l n : Nat) : State := s.bump F.LK_STAT_OVERRUN (laneElem false d l) n

def execTxStarve (d lane frames : Nat) (s : State) : Host.Outcome State Fault Refusal := done (s.starve d lane frames)

/-! ### Port streams (R44, R48, R50) -/

/-- A header that stands for the port (R50). -/
def frameFits (port h : W) : Bool := hdrOk h && kindOk h && efTag h == pTag port && efFormat h == pFormat port

/-- A frame whose header passes: what R50 counts of it. -/
def State.countFrame (s : State) (k : Nat) (port h : W) : State :=
  let carried := match format (pFormat port) with | some f => f.carried (efLine h) | none => false
  if efTag h != pTag port then s.bump F.ES_RX_COUNTS_TAG_MISMATCH k 1
  else if efFormat h != pFormat port || ((efKind h == kVIDEO || efKind h == kANC) && !carried) then
    s.bump F.ES_RX_COUNTS_FORMAT_MISMATCH k 1
  else s

/-- The source frame count and the capture time that a FRAME frame brings. -/
def frameTime (old : Option (Nat × Nat × Nat)) (port h : W) (rest : List W) : Option (Nat × Nat × Nat) :=
  if efKind h = kFRAME ∧ frameFits port h = true then
    match rest with
    | a :: b :: _ => some (getBits a 32 32, getBits b 32 32, getBits b 0 32)
    | _ => old
  else old

/-- A payload word of the frame begun: the first one of an ANC frame gives its length, and the last one of a FRAME frame its time (R46). -/
def RxStream.payload (x : RxStream) (port v : W) : RxStream :=
  let body := if x.body.length < 2 then x.body ++ [v] else x.body
  let skip := (if x.body.isEmpty then payloadWords x.head port body else x.skip) - 1
  { x with skip := skip, body := body, frame := if skip = 0 then frameTime x.frame port x.head body else x.frame }

/-- A frame begins with header `h`. Its payload has a word at least, but for a VIDEO frame of a reserved FORMAT and an AUDIO frame of none. -/
def RxStream.begin_ (x : RxStream) (port h : W) : RxStream :=
  { x with hunt := false, skip := payloadWords h port [], head := h, body := [] }

/-- Words of a port stream taken one by one (R44, R48, R50); `k` is the `ES_RX_COUNTS` element. Words of a frame begun pass; in a hunt a
word that does not fit is discarded; a fill word where a header is due is skipped. -/
def State.takeStream (s : State) (k : Nat) (port : W) (x : RxStream) : List W → State
  | [] => s.setRxStream x
  | h :: rest =>
    if 0 < x.skip then s.takeStream k port (x.payload port h) rest
    else if x.hunt && !frameFits port h then (s.bump F.ES_RX_COUNTS_WORDS_HUNTED k 1).takeStream k port x rest
    else if h = 0 then s.takeStream k port x rest
    else if !hdrOk h || !kindOk h then
      ((s.bump F.ES_RX_COUNTS_HDR_CHECK k 1).bump F.ES_RX_COUNTS_HUNT k 1).takeStream k port { x with hunt := true } rest
    else (s.countFrame k port h).takeStream k port (x.begin_ port h) rest

/-- RX_ESSENCE_FRAME: the next words of the port's stream. -/
def State.essenceFrame (s : State) (p : Nat) (h : W) (payload : List W) : State :=
  let v := s.port s.rxTable p
  if !pValid v || pLocal v then s else s.takeStream (pDie v * 64 + pLane v) v (s.rxStream p) (h :: payload)

def execRxEssenceFrame (p : Nat) (header : W) (payload : List W) (s : State) : Host.Outcome State Fault Refusal :=
  done (s.whileRunning (·.essenceFrame p header payload))

/-! ### Patterns (R214) -/

/-- The lane may carry a raw pattern: in SERVICE, or an idle spare. -/
def State.mayTest (s : State) (e : Nat) : Bool := s.mode == SERVICE || (isSpare e && !s.spareInUse (spareElem e))

/-- A pattern starts, changes or stops on a lane. -/
def State.applyPattern (s : State) (e : Nat) (o : W) : State :=
  let v := s.word 0x4030 e 0
  let on := F.LK_PRBS_PATTERN.of v != 0
  let was := F.LK_PRBS_PATTERN.of o != 0
  let s := if F.LK_PRBS_PATTERN.of v = F.LK_PRBS_PATTERN.of o ∧ F.LK_PRBS_PINV.of v = F.LK_PRBS_PINV.of o then s
    else (s.setLaneRun { s.laneRun e with chk := ⟨0, 0, 0, []⟩, began := s.now, inject := [] }).setFld F.LK_PRBS_PLOCK e 0
  if on == was || s.domain (laneDomain e) != dmON || s.laneSleep e != 0 then s
  else if on then ((s.setLane e laTEST).setLaneRun { s.laneRun e with cands := [], fails := 0 }).spareLost e
  else if laneRx e && s.isIsarsal e then s.setLane e laHUNT
  else s.startLane e

/-! The polynomials of R214. A register holds the last bits of the sequence, the newest in bit 0. -/

/-- The two taps of a PRBS pattern, x^a + x^b + 1. -/
def prbsTaps (pattern : Nat) : Option (Nat × Nat) :=
  match pattern with
  | 1 => some (7, 6)
  | 2 => some (15, 14)
  | 3 => some (23, 18)
  | 4 => some (31, 28)
  | _ => none

/-- The next bit of a pattern: of a PRBS by its register, of USER by its place in the 64 bits, bit 63 first. -/
def patternBit (pattern : Nat) (user : W) (reg place : Nat) : Bool :=
  match prbsTaps pattern with
  | some (a, b) => xor (reg.testBit (a - 1)) (reg.testBit (b - 1))
  | none => user.getLsbD (63 - place % 64)

/-- `n` bits of a pattern from a register and place, inverted or not (R214). -/
def patternBits (pattern : Nat) (user : W) (inv : Bool) : Nat → Nat → Nat → List Bool
  | 0, _, _ => []
  | n + 1, reg, place =>
    let b := patternBit pattern user reg place
    xor b inv :: patternBits pattern user inv n (reg * 2 % 2 ^ 31 + flag b) (place + 1)

/-- A checker takes a bit: it is in error unless the pattern foretells it. A PRBS checker that is not locked takes its register from the bits
received; the first bits, which fill it, are not judged. 64 error-free bits lock it, 16 errors in 64 bits unlock it. -/
def Checker.take (c : Checker) (pattern : Nat) (user : W) (inv : Bool) (slips : Nat) (locked : Bool) (bit : Bool) : Checker × Bool × Bool :=
  let b := xor bit inv
  let due := patternBit pattern user c.reg (c.taken + slips)
  let fill := match prbsTaps pattern with | some (a, _) => !locked && c.taken < a | none => false
  let bad := !fill && due != b
  let clean := if fill || bad then 0 else c.clean + 1
  let recent := (bad :: c.recent).take 64
  let lock := if locked then recent.count true < 16 else 64 ≤ clean
  (⟨c.reg * 2 % 2 ^ 31 + flag (if locked then due else b), c.taken + 1, min 64 clean, if locked || !lock then recent else []⟩, bad, lock)

/-- Bits that arrive on a receive lane under a pattern: those taken while the checker is locked are checked and counted (DEDUCED, log
163: an unlocked checker has nothing to check by). BITS wraps at its top (DESIGN CHOICE, log 185: the rule has only ERRORS saturate). -/
def State.checkBits (s : State) (e : Nat) : List Bool → State
  | [] => s
  | b :: l =>
    let v := s.word 0x4030 e 0
    let r := s.laneRun e
    let locked := s.fld F.LK_PRBS_PLOCK e == 1
    let x := r.chk.take (F.LK_PRBS_PATTERN.of v) (s.word 0x4030 e 1) (F.LK_PRBS_PINV.of v == 1) r.slips locked b
    let n := r.bits + flag locked
    let s := s.setLaneRun { r with chk := x.1, bits := n % 2 ^ 20 }
    let s := s.setFld F.LK_PRBS_BITS e ((s.fld F.LK_PRBS_BITS e + n / 2 ^ 20) % 2 ^ 32)
    let s := if locked && x.2.1 then s.bump F.LK_PRBS_ERRORS e 1 else s
    (s.setFld F.LK_PRBS_PLOCK e (flag x.2.2)).checkBits e l

/-- A slip: the word boundary one bit later, by which a USER checker is brought into step; the checker starts again. -/
def State.slipOne (s : State) (e : Nat) : State :=
  let r := s.laneRun e
  (s.setLaneRun { r with slips := r.slips + 1, chk := { r.chk with clean := 0, recent := [] } }).setFld F.LK_PRBS_PLOCK e 0

/-- The line rate of a lane in kb/s, by its mode (R196); of an SDI lane that has no rate of its own, the lowest. -/
def State.lineRate (s : State) (e : Nat) : Nat :=
  match s.laneMode e with
  | 0 => 32500000
  | 3 => [1485000, 1483516, 2970000, 2967032, 5940000, 5934065, 11880000, 11868131].getD (s.fld F.LK_STAT_SDIRATE e - 1) 1485000
  | _ => 25781250

/-- Bits that a lane has sent of its pattern. -/
def State.patternPlace (s : State) (e : Nat) : Nat := (s.now - (s.laneRun e).began) * s.lineRate e * 1000 / secUnits

/-- An error of `n` bits injected: it leaves within two sheets of now, at a place that is free there (R214). -/
def State.injectRun (s : State) (e n : Nat) : State :=
  let f := s.takeFree
  let s := f.1
  let x := s.laneRun e
  let at_ := s.patternPlace e + f.2.toNat % (2 * sheetUnits * s.lineRate e * 1000 / secUnits)
  s.setLaneRun { x with injected := x.injected + n, inject := (at_, n) :: x.inject.filter fun y => s.patternPlace e ≤ y.1 + y.2 }

/-- A bit of a transmitted pattern, counted from its start, is in error: injected, or one of those of INJECT 3. -/
def State.bitInjected (s : State) (e place : Nat) : Bool :=
  let v := s.word 0x4030 e 0
  let x := s.laneRun e
  (x.inject.any fun y => y.1 ≤ place && place < y.1 + y.2)
    || (F.LK_PRBS_INJECT.of v == 3 && (place + x.phase) % 2 ^ F.LK_PRBS_RATEEXP.of v == 0)

/-- A write of word 0 or word 1 of `LK_PRBS`; `bits`: what arrives next, after a slip. -/
def putPrbs (e w : Nat) (v : W) (bits : List Bool) : HostWrite × (State → Status × State) :=
  let ok := w == 1 || (F.LK_PRBS_PATTERN.of v ≤ 5 && F.LK_PRBS_RESERVED.of v == 0
    && (F.LK_PRBS_INJECT.of v != 3 || (10 ≤ F.LK_PRBS_RATEEXP.of v && F.LK_PRBS_RATEEXP.of v ≤ 40)))
  (⟨⟨0x4030, 0, e⟩, [(w, v)], 0, ok⟩, fun s =>
    if w = 1 then (.ok, s.putWord 0x4030 e 1 v)
    else if (F.LK_PRBS_PATTERN.of v != 0 || F.LK_PRBS_SLIP.of v == 1) && !s.mayTest e then (.mode, s)
    else
      let o := s.word 0x4030 e 0
      let s := (s.putWord 0x4030 e 0 (F.LK_PRBS_GO.put (F.LK_PRBS_SLIP.put v 0) 0)).applyPattern e o
      let f := s.takeFree
      let s := if F.LK_PRBS_INJECT.of v = 3 ∧ F.LK_PRBS_INJECT.of o ≠ 3 then f.1.setLaneRun { s.laneRun e with phase := f.2.toNat } else s
      let n := if F.LK_PRBS_GO.of v = 0 ∨ laneRx e = true then 0
        else if F.LK_PRBS_INJECT.of v = 1 then 1
        else if F.LK_PRBS_INJECT.of v = 2 then F.LK_PRBS_BURSTLEN.of v + 1
        else 0
      let s := if n = 0 then s else s.injectRun e n
      (.ok, if F.LK_PRBS_SLIP.of v = 0 ∨ laneRx e = false then s
        else if s.patternRuns e then (s.slipOne e).checkBits e bits
        else s.slipOne e))

def execPrbsPatternWrite (rq : Req) (e w : Nat) (v : W) (s : State) : Host.Outcome State Fault Refusal :=
  let x := putPrbs e w (if w = 0 then F.LK_PRBS_GO.put (F.LK_PRBS_SLIP.put v 0) 0 else v) []
  done (s.request rq x.1 x.2)

def execPrbsInject (rq : Req) (e : Nat) (v : W) (s : State) : Host.Outcome State Fault Refusal :=
  let x := putPrbs e 0 (F.LK_PRBS_GO.put v 1) []
  done (s.request rq x.1 x.2)

def execPrbsSlip (rq : Req) (e : Nat) (v : W) (bits : List Bool) (s : State) : Host.Outcome State Fault Refusal :=
  let x := putPrbs e 0 (F.LK_PRBS_SLIP.put v 1) bits
  done (s.request rq x.1 x.2)

/-- What arrived in a sheet's time on the receive lanes under a pattern. -/
def State.checkPatterns (s : State) (l : List (Nat × List Bool)) : State :=
  l.foldl (fun (s : State) x => if s.patternRuns x.1 && laneRx x.1 then s.checkBits x.1 x.2 else s) s

/-! ### Error seconds (R216) -/

/-- A write of `LK_ERR_LIMIT`. -/
def putErrLimit (v : W) : HostWrite × (State → Status × State) :=
  (⟨⟨0x4040, 0, 0⟩, [(0, v)], 0, 1 ≤ v.toNat && v.toNat ≤ 65535⟩, fun s => (.ok, s.putWord 0x4040 0 0 v))

/-- LANE_ERROR_SECOND. -/
def State.errorSecond (s : State) : State :=
  let s := s.waitCount ((s.clk.count / secUnits + 1) * secUnits)
  let limit := s.fld F.LK_ERR_LIMIT_LIMIT 0
  let l := s.lk.crcSec
  let s := { s with lk := { s.lk with crcSec := [] } }
  (l.filter fun x => limit < x.2).foldl (fun (s : State) x =>
    let e := laneElem true (x.1 / 64) (x.1 % 64)
    (s.raise 0x4001 (x.1 / 64) e x.2 limit).notify 0x4028 e) s

def execLaneErrorSecond (s : State) : Host.Outcome State Fault Refusal := done s.errorSecond

/-! ### Mesh links (R19, R393) -/

/-- Valid slot-equivalents that a die's port entries claim. -/
def State.dieSlots (s : State) (d : Nat) : Nat :=
  ([false, true].map fun dst => ((validPorts s.regs dst).map fun x => if pDie x.2 == d then pSlots x.2 else 0).sum).sum

/-- The die that a failed link between `a` and `b` isolates. -/
def State.linkVictim (s : State) (a b : Nat) : Nat :=
  if a = s.mastDie then b
  else if b = s.mastDie then a
  else if s.dieSlots a < s.dieSlots b then a
  else if s.dieSlots b < s.dieSlots a then b
  else max a b

/-- MESH_GROUP_FAIL: the 13 groups less those failed; 12 at most in service. -/
def State.meshFail (s : State) (d1 d2 : Nat) : State :=
  let a := min d1 d2
  let b := max d1 d2
  if a = b ∨ s.dies ≤ b then s
  else
    let n := ((s.lk.mesh.find? fun x => x.1 == a && x.2.1 == b).map (·.2.2)).getD 0 + 1
    let s := { s with lk := { s.lk with mesh := (a, b, n) :: s.lk.mesh.filter fun x => !(x.1 == a && x.2.1 == b) } }
    if n < 3 then s.raise 0x4004 a b (13 - n) 0
    else if n = 3 then
      let v := s.linkVictim a b
      s.raise 0x4005 v (if v = a then b else a) (13 - n) 0
    else s

def execMeshGroupFail (d1 d2 : Nat) (s : State) : Host.Outcome State Fault Refusal := done (s.meshFail d1 d2)

end Sys2Proof.Machine
end

