-- ==== Sys2Proof/Machine/Memory.lean ====
section
/-! DEFINITION. Memory (chapter 15): errors of on-chip SRAM, the DRAM channels, ranks and what they hold; the failure of a
sillage's memory (R405). -/
namespace Sys2Proof.Machine

/-! ### States (R387, R388) -/

def chUNUSED : Nat := 0
def chTRAINING : Nat := 1
def chSERVICE : Nat := 2
def chMIGRATING : Nat := 3
def chDEGRADED : Nat := 4
def chOUT : Nat := 5
def chSELFREF : Nat := 6

def raNOTFITTED : Nat := 0
def raDATA : Nat := 1
def raSPARE : Nat := 2
def raSOURCE : Nat := 3
def raTARGET : Nat := 4
def raRETIRED : Nat := 5
def raLOST : Nat := 6
def raFAILED : Nat := 7

def State.dramState (s : State) (c : Nat) : Nat := s.fld F.MM_CHAN_STAT_STATE c
def State.setChanState (s : State) (c n : Nat) : State := s.setNotify F.MM_CHAN_STAT_STATE c n
def State.rank (s : State) (e : Nat) : Nat := s.fld F.MM_RANK_STATE e
def State.setRank (s : State) (e n : Nat) : State := s.setNotify F.MM_RANK_STATE e n

/-- Every die's items as they now stand. -/
def State.refreshItems (s : State) : State :=
  let l := (List.range s.dies).flatMap fun d => s.placedItems d
  { s with mm := { s.mm with items := l } }

/-! ### A sillage's memory fails (R405) -/

/-- A sillage is DEGRADED: the die to which later records go; records lost are counted in MISSED. -/
def State.sillageShut (s : State) (d : Nat) (lost : List Nat) : State :=
  if !s.sillageOk d then s
  else
    let s := s.withEv fun e => { e with badRegion := if e.badRegion.contains d then e.badRegion else e.badRegion ++ [d] }
    let s := (s.setFld F.EV_SILLAGE_STATE d 1).relays
    let gone := (s.sillageOf d).filter fun r => lost.contains r.seq
    let s := s.withEv fun e => { e with sillage := e.sillage.modify d fun l => l.filter fun r => !lost.contains r.seq }
    (gone.foldl (fun s r => s.missed r) s).notify 0x7810 d

/-- SILLAGE_FAIL: the record and its EMERGENCY, then the die's later records go elsewhere. -/
def State.sillageFail (s : State) (d addr : Nat) (lost : List Nat) : State :=
  if !s.sillageOk d then s else (s.raise 0x7801 d d addr 0).sillageShut d lost

def execSillageFail (d addr : Nat) (lost : List Nat) (s : State) : Host.Outcome State Fault Refusal := done (s.sillageFail d addr lost)

/-! ### SRAM (R372, R373) -/

/-- The level of an uncorrectable error of a region (DEDUCED from the last column of R372). -/
def sramLevel (region : Nat) : Level :=
  if region = 3 then .degrade else if region = 4 then .isolate else if region = 5 then .contain else .notice

/-- The accord images of a layer made again (R372). -/
def State.remake (s : State) (hl : Nat) : State :=
  let d := hl / 256
  let w1 := s.word 0x3810 (hl / 8) 1
  let again := fun (x : AccordImg) =>
    if x.head = hl / 8 ∧ x.layer = hl % 8 ∧ x.live = true ∧ x.fb = false then
      { s.flattened x.head x.layer false (s.headRaster w1) w1 (layerPlace (s.word 0x3820 hl 0) (s.word 0x3820 hl 1) (s.word 0x3820 hl 2))
          (s.uniformRoom d + x.uniform) with live := true }
    else x
  let l := s.cm.accord.map again
  { s with cm := { s.cm with accord := l } }

/-- The accord images of a layer flattened again; until their head's next switch line nothing of them is drawn (R372). -/
def State.reflatten (s : State) (hl : Nat) : State :=
  let s := s.remake hl
  { s with cm := { s.cm with redo := hl :: s.cm.redo } }

/-- A line is lost to an uncorrectable error: the previous line stands for it, and CONCEALED counts it (R109, R372). -/
def State.hurtLine (s : State) (p count line : Nat) : State :=
  if s.al.hurt.contains (p, count, line) then s
  else ({ s with al := { s.al with hurt := (p, count, line) :: s.al.hurt } }).bump F.ES_ALIGN_STAT_CONCEALED p 1

/-- SRAM_UE: the rule of the region. -/
def State.sramUe (s : State) (d region addr unit_ : Nat) : State :=
  if s.dies ≤ d || 6 ≤ region then s
  else
    let s := if region < 5 then s.bump ⟨0x7008, region, 0, 32⟩ d 1 else s
    let s := s.raiseAt 0x7001 (sramLevel region) d region addr 0 false
    if region = 0 then
      if pValid (s.port false (unit_ / 4096)) && !s.isFsync (unit_ / 4096) then s.hurtLine (unit_ / 4096) 0 (unit_ % 4096) else s
    else if region = 1 then s.reflatten unit_
    else if region = 2 then s.silence unit_ 0
    else if region = 3 then (if engDie unit_ = d then s.engineFail unit_ 2 else s)
    else if region = 5 then s.sillageFail d addr []
    else s

def execSramUe (d region addr unit_ : Nat) (s : State) : Host.Outcome State Fault Refusal := done (s.sramUe d region addr unit_)

/-- SRAM_SCRUB: the keeper's pass over the die. The errors corrected in an engine's local memory are the engine's too (R361). -/
def State.sramScrub (s : State) (d : Nat) (corrected : Nat × List (Nat × Nat)) (ue : List (Nat × Nat × Nat)) : State :=
  if s.dies ≤ d then s
  else
    let s := s.bump F.MM_SRAM_STAT_CORRECTED d corrected.1
    let s := corrected.2.foldl (fun (s : State) x => if x.1 < 24 then s.bump F.IC_ENGINE_ECCCORR (d * 24 + x.1) x.2 else s) s
    ue.foldl (fun (s : State) (x : Nat × Nat × Nat) => s.sramUe d x.1 x.2.1 x.2.2) s

def execSramScrub (d : Nat) (corrected : Nat × List (Nat × Nat)) (ue : List (Nat × Nat × Nat)) (s : State) : Host.Outcome State Fault Refusal :=
  done (s.sramScrub d corrected ue)

/-! ### `MM_CHANNEL` (R375) and `MM_WIPE_POLICY` (R389) -/

def chanRange (v : W) : Bool :=
  F.MM_CHANNEL_RATE.of v ≤ 4 && F.MM_CHANNEL_WIDTH.of v < 2 && F.MM_CHANNEL_DENS.of v < 3
    && (F.MM_CHANNEL_RANKS.of v + 1) * rankBytes v ≤ 34359738368
    && (F.MM_CHANNEL_SPAREEN.of v == 0 || (F.MM_CHANNEL_RANKS.of v != 0 && F.MM_CHANNEL_SPARE.of v ≤ F.MM_CHANNEL_RANKS.of v))
    && F.MM_CHANNEL_SCRUB.of v != 0 && F.MM_CHANNEL_RESERVED.of v == 0

/-- A write of `MM_CHANNEL`. -/
def putChannel (c : Nat) (v : W) : HostWrite × (State → Status × State) :=
  (⟨⟨0x7010, 0, c⟩, [(0, v)], 0, chanRange v⟩, fun s =>
    let o := s.word 0x7010 c 0
    if F.MM_CHANNEL_SCRUB.put v 0 != F.MM_CHANNEL_SCRUB.put o 0 then s.configOnly fun s => (.ok, s.putWord 0x7010 c 0 v)
    else (.ok, s.putWord 0x7010 c 0 v))

def execMmChannelWrite (rq : Req) (e : Nat) (v : W) (s : State) : Host.Outcome State Fault Refusal :=
  let x := putChannel e v
  done (s.request rq x.1 x.2)

/-- A write of `MM_WIPE_POLICY`. -/
def putWipe (v : W) : HostWrite × (State → Status × State) :=
  (⟨⟨0x7030, 0, 0⟩, [(0, v)], 0, v.toNat < 2⟩, fun s => (.ok, s.putWord 0x7030 0 0 v))

/-! ### While a channel runs (R379–R381) -/

/-- DRAM_RECAL: one more reading of the DQS oscillator; ZQ calibration at every second one. -/
def State.dramRecal (s : State) (c : Nat) : State :=
  if s.chanServes c then
    let n := ((s.mm.recals.find? fun x => x.1 == c).map (·.2)).getD 0
    { s with mm := { s.mm with recals := (c, n + 1) :: s.mm.recals.filter fun x => !(x.1 == c) } }
  else s

def execDramRecal (ch : Nat) (s : State) : Host.Outcome State Fault Refusal := done (s.dramRecal ch)

/-- TBAND of a temperature. -/
def tband (t : Nat) : Nat := if t ≤ 80 then 0 else if t ≤ 85 then 1 else if t ≤ 95 then 2 else 3

/-- REFRESH_RATE_CHECK: refresh doubles above 85 °C and returns at 80 °C or below; a report above 95 °C has one record. -/
def State.refreshCheck (s : State) (c t : Nat) : State :=
  if !s.chanServes c then s
  else
    let s := s.setFld F.MM_CHAN_STAT_TBAND c (tband t)
    let s := if 85 < t then s.setNotify F.MM_CHAN_STAT_REFX2 c 1 else if t ≤ 80 then s.setNotify F.MM_CHAN_STAT_REFX2 c 0 else s
    if 95 < t then
      if s.mm.hot.contains c then s
      else ({ s with mm := { s.mm with hot := c :: s.mm.hot } }).raise 0x7006 (c / 4) c (tband t) 0
    else { s with mm := { s.mm with hot := s.mm.hot.filter (· != c) } }

def execRefreshRateCheck (ch t : Nat) (s : State) : Host.Outcome State Fault Refusal := done (s.refreshCheck ch t)

/-- Scrub runs on a channel (R381). -/
def State.scrubs (s : State) (c : Nat) : Bool :=
  (s.mode == STANDBY || s.mode == ACTIVE || s.mode == SERVICE) && (s.dramState c == chSERVICE || s.dramState c == chDEGRADED)

/-- SCRUB_PASS_DONE: lines corrected on each rank, and the accord images that fail the audit. -/
def State.scrubDone (s : State) (c : Nat) (corrected : List Nat) (bad : List Nat) : State :=
  if !s.scrubs c then s
  else
    let s := s.bump F.MM_CHAN_STAT_CE c (corrected.take 4).sum
    let s := (corrected.take 4).zipIdx.foldl (fun (s : State) x => s.bump F.MM_RANK_CE (c * 4 + x.2) x.1) s
    (bad.filter fun x => x / 256 == c / 4).foldl (fun s x =>
      ((s.bump F.MM_CHAN_STAT_AUDIT c 1).raise 0x7007 (c / 4) x 0 0).reflatten x) s

def execScrubPassDone (ch : Nat) (corrected : List Nat) (bad : List Nat) (s : State) : Host.Outcome State Fault Refusal :=
  done (s.scrubDone ch corrected bad)

/-! ### Ranks (R382–R386) -/

/-- The spare rank of a channel. -/
def State.spareRank (s : State) (c : Nat) : Option Nat :=
  let v := s.chanConf c
  let e := c * 4 + F.MM_CHANNEL_SPARE.of v
  if F.MM_CHANNEL_SPAREEN.of v = 1 ∧ s.rank e = raSPARE then some e else none

def State.migration (s : State) (c : Nat) : Option Migr := s.mm.migr.find? fun x => x.ch == c

/-- A rank's RETIRED mark, kept with the saved settings (R382). -/
def State.markRetired (s : State) (e : Nat) : State :=
  ({ s with mm := { s.mm with retired := if s.mm.retired.contains e then s.mm.retired else s.mm.retired ++ [e] } }.setRank e raRETIRED).markDirty

/-- Every item on a rank changed. -/
def State.mapItems (s : State) (p : Item → Bool) (f : Item → Item) : State :=
  let l := s.mm.items.map fun x => if p x then f x else x
  { s with mm := { s.mm with items := l } }

/-- The copy of a rank begins (R382): stores with a buffer on it are held. -/
def State.startCopy (s : State) (c src dst cause : Nat) : State :=
  let s := s.refreshItems
  let s := { s with mm := { s.mm with migr := ⟨c, src, dst, 0, s.now⟩ :: s.mm.migr.filter fun x => !(x.ch == c) } }
  let s := s.mapItems (fun x => x.rank == src && x.kind < 2 && !x.lost) fun x => { x with held := true, copied := false }
  let s := ((s.setRank src raSOURCE).setRank dst raTARGET).setChanState c chMIGRATING
  s.raise 0x7002 (c / 4) src cause dst

/-- A channel leaves service (R384). -/
def State.chanShut (s : State) (c : Nat) : State :=
  if s.dramState c = chOUT then s
  else
    let s := { s with mm := { s.mm with migr := s.mm.migr.filter fun x => !(x.ch == c) } }
    (s.setChanState c chOUT).checkBudget (c / 4)

/-- A channel leaves service, with its record (R384). -/
def State.chanOut (s : State) (c : Nat) : State :=
  if s.dramState c = chOUT then s else (s.raise 0x7005 (c / 4) c 0 0).chanShut c

/-- An image that was on a lost rank: VALID clears. -/
def State.imageLost (s : State) (e : Nat) : State := (s.setFld F.CM_IMAGE_VALID e 0).raise 0x7008 (e / 1024) e 0 0

/-- What each lost item does (R384). -/
def State.loseItem (s : State) (x : Item) : State :=
  if x.kind = 0 then s.sourceLost x.owner else if x.kind = 3 then s.imageLost x.owner else s

/-- A rank is LOST with its items (R384). -/
def State.loseRank (s : State) (e : Nat) : State :=
  let c := e / 4
  let s := s.refreshItems
  let hit := s.mm.items.filter fun x => x.rank == e && !x.lost
  let s := s.mapItems (fun x => x.rank == e) fun x => { x with lost := true, held := false }
  let s := s.setRank e raLOST
  let s := s.raise 0x7004 (c / 4) e hit.length 0
  let s := hit.foldl (fun s x => s.loseItem x) s
  let s := { s with mm := { s.mm with items := s.mm.items.filter fun x => !(x.kind == 3 && x.lost) } }
  if (List.range 4).any fun r => s.rank (c * 4 + r) == raDATA || s.rank (c * 4 + r) == raSOURCE then
    ((if (s.migration c).isSome then s else s.setChanState c chDEGRADED)).checkBudget (c / 4)
  else s.chanOut c

/-- Every hold of a channel released. -/
def State.releaseHolds (s : State) (c : Nat) : State := s.mapItems (fun x => x.rank / 4 == c) fun x => { x with held := false, copied := false }

/-- A poisoned line of an item (R383): a delay line gives zero samples for the samples that one line of 128 bytes (R374) holds, at 4 bytes a
sample (R135), and fades back in (DEDUCED, log 157); an accord image's tile is late until it is flattened again; a line of a stored
picture is concealed (R372). -/
def State.poisonLine (s : State) (x : RankFault) : State :=
  match x.item with
  | some (4, id) => s.silence id 32
  | some (2, hl) => (s.remake hl).lateTiles [(hl, x.spot.1, x.spot.2)]
  | some (0, p) =>
    match ((s.src p).reading.toList ++ (s.src p).unread)[x.spot.1]? with
    | some pic => s.hurtLine p (pic.count + 1) x.spot.2
    | none => s
  | _ => s

/-- RANK_FAIL (R382, R386): cause 1 an uncorrectable data error, 2 a command/address error. -/
def State.rankFail (s : State) (e : Nat) (x : RankFault) : State :=
  let cause := x.cause
  let c := e / 4
  if !s.chanServes c then s
  else
    let st := s.rank e
    let s := if st = raDATA ∨ st = raSPARE ∨ st = raSOURCE ∨ st = raTARGET then
        s.bump (if cause = 2 then F.MM_CHAN_STAT_CAERR else F.MM_CHAN_STAT_UE) c 1 else s
    if st = raDATA then
      match s.spareRank c with
      | some n => s.startCopy c e n cause
      | none => s.loseRank e
    else if st = raSOURCE then
      let one := fun (x : Migr) => if x.ch = c then { x with poison := x.poison + 1 } else x
      ({ s with mm := { s.mm with migr := s.mm.migr.map one } }).poisonLine x
    else if st = raTARGET then
      match s.migration c with
      | some m =>
        let s := { s with mm := { s.mm with migr := s.mm.migr.filter fun x => !(x.ch == c) } }
        ((s.releaseHolds c).markRetired e).loseRank m.src
      | none => s
    else if st = raSPARE then s.loseRank e
    else s

def execRankFail (e : Nat) (cause : RankFault) (s : State) : Host.Outcome State Fault Refusal := done (s.rankFail e cause)

/-- Lost items of a kind, the order of REPLAN: source port, head, channel. -/
def insertItem (x : Item) : List Item → List Item
  | [] => [x]
  | y :: l => if x.kind < y.kind || (x.kind == y.kind && x.owner ≤ y.owner) then x :: y :: l else y :: insertItem x l

/-- REPLAN: lost items of the channel placed again, an accord image flattened again (R384); whether every one was. -/
def State.replan (s : State) (c : Nat) : Bool × State :=
  let s := s.refreshItems
  let lost := (s.mm.items.filter fun x => x.lost && x.rank / 4 == c).foldl (fun l x => insertItem x l) []
  let keep := s.mm.items.filter fun x => !(x.lost && x.rank / 4 == c)
  let r := lost.foldl (fun (a : Bool × List Item) x =>
    match s.rankFor (c / 4) a.2 x with
    | some e => (a.1, a.2 ++ [{ x with rank := e, lost := false }])
    | none => (false, a.2 ++ [x])) (true, keep)
  let again := (lost.filter fun x => x.kind == 2 && r.2.any fun y => x.same y && !y.lost).map (·.owner)
  (r.1, again.eraseDups.foldl (fun (s : State) e => s.remake e) { s with mm := { s.mm with items := r.2 } })

/-- A write of `MM_CMD` (R385). -/
def putRankCmd (e : Nat) (v : W) : HostWrite × (State → Status × State) :=
  let op := F.MM_CMD_COMMAND.of v
  let c := e / 4
  (⟨⟨0x7028, 0, e⟩, [(0, v)], 0, 1 ≤ op && op ≤ 4 && F.MM_CMD_RESERVED.of v == 0 && v.toNat < 65536⟩, fun s =>
    if op = 1 ∨ op = 4 then
      if !s.admits then (.mode, s)
      else if op = 1 then
        match s.spareRank c with
        | some n => if s.rank e != raDATA || s.dramState c == chMIGRATING || !s.chanServes c then (.busy, s) else (.ok, s.startCopy c e n 3)
        | none => (.busy, s)
      else
        let r := s.replan c
        (if r.1 then .ok else .capacity, r.2)
    else s.configOnly fun s =>
      if op = 2 then (.ok, s.markRetired e)
      else if s.mm.retired.contains e || s.rank e == raLOST then
        let s := { s with mm := { s.mm with retired := s.mm.retired.filter (· != e) } }
        (.ok, ((s.setRank e raNOTFITTED).putBack .rank (e / 16) e).markDirty)
      else (.ok, s))

def execRankMigrate (rq : Req) (e : Nat) (v : W) (s : State) : Host.Outcome State Fault Refusal :=
  let x := putRankCmd e (F.MM_CMD_COMMAND.put v 1)
  done (s.request rq x.1 x.2)

def execRankRetire (rq : Req) (e : Nat) (v : W) (s : State) : Host.Outcome State Fault Refusal :=
  let x := putRankCmd e (F.MM_CMD_COMMAND.put v 2)
  done (s.request rq x.1 x.2)

def execRankRestore (rq : Req) (e : Nat) (v : W) (s : State) : Host.Outcome State Fault Refusal :=
  let x := putRankCmd e (F.MM_CMD_COMMAND.put v 3)
  done (s.request rq x.1 x.2)

def execRankReplan (rq : Req) (e : Nat) (v : W) (s : State) : Host.Outcome State Fault Refusal :=
  let x := putRankCmd e (F.MM_CMD_COMMAND.put v 4)
  done (s.request rq x.1 x.2)

/-- MIGRATION_HELD_ITEM_COPIED: the item's last line is copied; its store reads again from its next read instant. -/
def State.heldCopied (s : State) (c k owner buf : Nat) : State :=
  match s.migration c with
  | some m => s.mapItems (fun x => x.rank == m.src && x.kind == k && x.owner == owner && x.buf == buf) fun x =>
      { x with held := false, copied := true }
  | none => s

def execMigrationHeldItemCopied (ch kind owner buf : Nat) (s : State) : Host.Outcome State Fault Refusal :=
  done (s.heldCopied ch kind owner buf)

/-- MIGRATION_DONE: the spare answers as the rank, which is RETIRED. -/
def State.migrationDone (s : State) (c : Nat) : State :=
  match s.migration c with
  | none => s
  | some m =>
    if s.dramState c != chMIGRATING then s
    else
      let s := s.mapItems (fun x => x.rank == m.src) fun x => { x with rank := m.dst, held := false, copied := false }
      let s := { s with mm := { s.mm with migr := s.mm.migr.filter fun x => !(x.ch == c) } }
      let s := ((s.markRetired m.src).setRank m.dst raDATA)
      let lost := (List.range 4).any fun r => s.rank (c * 4 + r) == raLOST
      (s.setChanState c (if lost then chDEGRADED else chSERVICE)).raise 0x7003 (c / 4) m.src m.dst m.poison

def execMigrationDone (ch : Nat) (s : State) : Host.Outcome State Fault Refusal := done (s.migrationDone ch)

end Sys2Proof.Machine
end

