-- ==== Sys2Proof/Machine/Messages.lean ====
section
/-! DEFINITION. The form of an NCP message (R312–R314), and which messages are dropped without a response (R317). -/
namespace Sys2Proof.Machine

/-- A byte of a BLOB as a number. -/
def byteAt (l : List Byte) (i : Nat) : Nat := (l.getD i 0).toNat

/-- A number from bytes, most significant first. -/
def beNum (l : List Byte) : Nat := l.foldl (fun n b => n * 256 + b.toNat) 0

/-- The `n` bytes of a number, most significant first (R311). -/
def beBytes (n v : Nat) : List Byte := (List.range n).map fun i => BitVec.ofNat 8 (v / 2 ^ (8 * (n - 1 - i)))

/-- A number rounded up to a multiple of 4. -/
def pad4 (n : Nat) : Nat := (n + 3) / 4 * 4

/-- The items of a WRITE of these bytes end where the payload does; how many. -/
def writeShape : Nat → List Byte → Nat → Option Nat
  | 0, _, _ => none
  | fuel + 1, l, n =>
    if l.isEmpty then some n
    else
      let len := 12 + pad4 (byteAt l 10 * 256 + byteAt l 11)
      if l.length < len then none else writeShape fuel (l.drop len) (n + 1)

/-- A payload has the structure of its message type (R314). -/
def payloadOk (typ : Nat) (p : List Byte) : Bool :=
  if typ = 1 then p.length % 8 == 0 && 8 ≤ p.length && p.length ≤ 512
  else if typ = 2 then match writeShape 65 p 0 with | some n => 1 ≤ n | none => false
  else if typ = 3 then p.length == 12
  else if typ = 4 then
    p.length == 16 + pad4 ((byteAt p 10 * 256 + byteAt p 11) * beNum ((p.drop 12).take 4)) && 16 ≤ p.length
  else p.length == 16

/-- How a message is dropped without a response (R317): none, or whether for its NODE. -/
def State.ncpDrop (s : State) (m : List Byte) : Option Bool :=
  let typ := byteAt m 1
  let good := 16 ≤ m.length && m.length ≤ 1472 && byteAt m 0 == 1 && 1 ≤ typ && typ ≤ 5 && byteAt m 2 == 0 && byteAt m 3 == 0
    && byteAt m 6 % 64 == 0 && byteAt m 7 == 0 && byteAt m 12 * 256 + byteAt m 13 + 16 == m.length && byteAt m 14 < 16
    && payloadOk typ (m.drop 16)
  if !good then some false
  else if byteAt m 14 * 256 + byteAt m 15 != s.fld F.CT_NODE_ID 0 then some true
  else none

/-! ### The parts of a message (R312–R314, R325) -/

/-- An object address (R313). -/
def addrBytes (x : WireAddr) : List Byte := beBytes 2 x.addr.ix ++ beBytes 1 x.addr.sub ++ beBytes 1 x.res ++ beBytes 4 x.addr.e

/-- A value: its words, most significant byte first; of a STR or BLOB, its bytes, one in each word. -/
def valueBytes (t : OType) (l : List W) : List Byte := l.flatMap fun v => beBytes t.bytes v.toNat

/-- Bytes padded with zeros to a multiple of 4. -/
def padded (l : List Byte) : List Byte := l ++ List.replicate (pad4 l.length - l.length) 0

/-- An item of a READ response, its value cut to `cut` bytes; one that failed has no value, and TYPE and LENGTH 0 (log 202). -/
def readItemBytes (x : WireAddr) (st : Nat) (l : List W) (cut : Nat) : List Byte :=
  match findObj x.addr.ix x.addr.sub with
  | some o =>
    let v := valueBytes o.typ l
    if st = 0 then addrBytes x ++ beBytes 1 0 ++ beBytes 1 o.typ.code ++ beBytes 2 v.length ++ padded (v.take cut)
    else addrBytes x ++ beBytes 1 st ++ beBytes 3 0
  | none => addrBytes x ++ beBytes 1 st ++ beBytes 3 0

/-- A NOTIFY's payload (R325), with its value cut to `cut` bytes: bit 0 of byte 3 is set where that cuts it (R332). -/
def Note.payload (n : Note) (cut : Nat) : List Byte :=
  let whole := readItemBytes n.addr.sent 0 n.data 65536
  let item := readItemBytes n.addr.sent 0 n.data cut
  if n.cause = 1 ∨ n.cause = 2 then
    beBytes 2 n.sub ++ beBytes 1 n.cause ++ beBytes 1 (flag (item.length != whole.length)) ++ item
  else beBytes 2 n.sub ++ beBytes 1 n.cause ++ beBytes 1 0

/-- An entry of 64 bytes of the notification queue (R332). -/
def queueEntry (l : List Byte) : List Byte := (l ++ List.replicate 64 0).take 64

/-- A sillage record as an EMERGENCY carries it (R328). -/
def recordBytes (ws : List W) : List Byte := ws.flatMap fun v => beBytes 8 v.toNat

/-- The entry that holds an EMERGENCY's record, as a NOTIFY of CAUSE 0x05 (R333). -/
def emergencyEntry (ws : List W) : List Byte := queueEntry (beBytes 2 0 ++ beBytes 1 5 ++ beBytes 1 0 ++ recordBytes ws)

end Sys2Proof.Machine
end

