-- ==== Sys2Proof/Machine/Faults.lean ====
section
/-! DEFINITION. Faults as they are handled (R391–R397), the sillage's cursors and its clearing (R400–R404), the general-purpose
and pulse inputs (R407–R410). -/
namespace Sys2Proof.Machine

/-! ### A unit leaves service (R392) -/

/-- What CONTAIN does to a unit beyond its mark. -/
def State.containUnit (s : State) (code die p : Nat) : State :=
  match codeUnit code with
  | .engine => s.engineOut p 1 fun s l goal => if l == .isolate then s.raiseAt 0x6803 l die p 1 goal false else s
  | .rank => if s.rank p = raLOST then s else s.loseRank p
  | .channel => s.chanShut p
  | .die | .package => s.isolateDie die code 0 s.twinServes
  | .port => s.sourceLost p
  | .stream => s.stopDir (sampleAt s.house) (p % 65536) (65536 ≤ p)
  | .ref => s.disqualify p (0x5009 - code) qDISQUALIFIED
  | .mac => s.ptpRestarts p
  | .sillage => s.sillageShut p []
  | _ => s

/-- The codes of R412, R434 and R462. -/
def codeListed (c : Nat) : Bool :=
  [0x1001, 0x1002, 0x1003, 0x1004, 0x2001, 0x2002, 0x2003, 0x2004, 0x2801, 0x2802, 0x2803, 0x2804, 0x2805, 0x3001, 0x3002, 0x3003,
   0x3801, 0x3802, 0x4001, 0x4002, 0x4003, 0x4004, 0x4005, 0x4801].contains c ||
  [0x5001, 0x5002, 0x5003, 0x5004, 0x5005, 0x5006, 0x5801, 0x5802, 0x5803, 0x5804, 0x5805, 0x6001, 0x6801, 0x6802, 0x6803, 0x6804,
   0x7001, 0x7002, 0x7003, 0x7004, 0x7005, 0x7006, 0x7007, 0x7008, 0x7801, 0x7802, 0x7803, 0x7804, 0x7805, 0x7806, 0x7807].contains c ||
  (0x8001 ≤ c && c ≤ 0x800C) || (0x8801 ≤ c && c ≤ 0x880B)

/-- FAULT_RAISED: a listed code, at its level; one that the running handler of its own unit raises is escalated. -/
def State.faultRaised (s : State) (code die p1 p2 p3 : Nat) (byHandler : Bool) : State :=
  if !codeListed code || s.dies ≤ die || s.sys.isolated.contains die then s
  else
    let u := codeUnit code
    let l := if code = 0x7001 then sramLevel p1 else codeLevel code
    let own := byHandler && match (s.faultMgr die).running with | some f => f.ucls == u && f.p1 == p1 % 2 ^ 32 | none => false
    let s := s.raiseAt code l die p1 p2 p3 own
    if s.isOut u die (p1 % 2 ^ 32) && !s.sys.isolated.contains die then s.containUnit code die (p1 % 2 ^ 32) else s

def execFaultRaised (code die p1 p2 p3 : Nat) (byHandler : Bool) (s : State) : Host.Outcome State Fault Refusal :=
  done (s.faultRaised code die p1 p2 p3 byHandler)

/-! ### Handlers (R394, R395) -/

/-- Subscribers learn of a LEVEL that a change has moved. -/
def State.notifyLevel (s : State) (d old : Nat) : State := if s.faultLevel d = old then s else s.notify 0x7808 d

/-- The queued fault of highest level, the oldest of them. -/
def nextQueued (l : List FaultRun) : Option FaultRun :=
  l.find? fun f => l.all fun g => g.level.num ≤ f.level.num

/-- The running handler's end: the suspended one resumes, else the queue's next runs. -/
def FaultMgr.ended (m : FaultMgr) : FaultMgr :=
  match m.suspended with
  | f :: l => { m with running := some f, suspended := l }
  | [] =>
    match nextQueued m.queue with
    | some f => { m with running := some f, queue := m.queue.erase f }
    | none => { m with running := none }

/-- HANDLER_END: a NOTICE closes with its handler; a queued fault that now runs is told of. -/
def State.handlerEnd (s : State) (d : Nat) : State :=
  let m := s.faultMgr d
  if m.running.isNone then s
  else
    let t := s.withMgr d FaultMgr.ended
    let t := if m.suspended.isEmpty then (match (t.faultMgr d).running with | some f => t.tellRecord f | none => t) else t
    t.notifyLevel d (s.faultLevel d)

def execHandlerEnd (d : Nat) (s : State) : Host.Outcome State Fault Refusal := done (s.handlerEnd d)

/-! ### `EV_CMD` (R397) -/

/-- ACK: open DEGRADEs close, and CONTAINs whose unit is back in service. -/
def State.ack (s : State) (d : Nat) : State :=
  let stays := fun (f : FaultRun) => f.level == .isolate || (f.level == .contain && s.isOut f.ucls d f.p1)
  ((s.withMgr d fun m => { m with opened := m.opened.filter stays }).notifyLevel d (s.faultLevel d))

/-- RETEST of a sillage region: it is wiped, then tested. -/
def State.retest (s : State) (d : Nat) (pass : Bool) : Status × State :=
  if s.fld F.EV_SILLAGE_STATE d = 0 then (.busy, s)
  else
  let s := s.withEv fun e => { e with sillage := e.sillage.set d [] }
  if pass && !s.sys.isolated.contains d then
    let s := s.withEv fun e => { e with badRegion := e.badRegion.filter (· != d) }
    let s := (((s.setFld F.EV_SILLAGE_STATE d 0).setFld F.EV_SILLAGE_RELAYTO d 0).relays).putBack .sillage d d
    (.ok, (s.notify 0x7810 d).raise 0x7803 d d 0 0)
  else (.ok, s)

/-- A write of `EV_CMD`; `pass`: the test of a RETEST finds the region good. -/
def putEvCmd (d : Nat) (v : W) (pass : Bool) : HostWrite × (State → Status × State) :=
  (⟨⟨0x7840, 0, d⟩, [(0, v)], 0, v == 1 || v == 2⟩, fun s => if v = 1 then (.ok, s.ack d) else s.retest d pass)

def execFaultAck (rq : Req) (d : Nat) (s : State) : Host.Outcome State Fault Refusal :=
  let x := putEvCmd d 1 false
  done (s.request rq x.1 x.2)

def execSillageRetest (rq : Req) (d : Nat) (pass : Bool) (s : State) : Host.Outcome State Fault Refusal :=
  let x := putEvCmd d 2 pass
  done (s.request rq x.1 x.2)

/-! ### Records close (R400) -/

/-- RECORD_CLOSE: 10 s pass without a merge into the record `seq` of die `d`'s sillage. -/
def State.recordClose (s : State) (d seq : Nat) : State :=
  match (s.sillageOf d).find? fun r => r.seq == seq with
  | none => s
  | some r =>
    if !r.opened then s
    else
      let s := s.waitUntil (r.touched + secs 10)
      let shut := fun (x : Rec) => if x.seq = seq then { x with opened := false } else x
      s.withEv fun e => { e with sillage := e.sillage.modify d fun l => l.map shut }

def execRecordClose (d seq : Nat) (s : State) : Host.Outcome State Fault Refusal := done (s.recordClose d seq)

/-! ### Cursors (R401) -/

/-- A write of `EV_CURSOR`: no later than the newest record plus 1. -/
def putCursor (s : State) (c : Nat) (v : W) : HostWrite × (State → Status × State) :=
  let n := F.EV_CURSOR_CURSOR.of v
  (⟨⟨0x7820, 0, c⟩, [(0, v)], 0, !later 32 n s.clk.pseq⟩, fun s =>
    (.ok, (s.setFld F.EV_CURSOR_CURSOR c n).setFld F.EV_CURSOR_MISSED c 0))

def execEvCursorWrite (rq : Req) (c : Nat) (v : W) (s : State) : Host.Outcome State Fault Refusal :=
  let x := putCursor s c v
  done (s.request rq x.1 x.2)

/-! ### Challenges (R320, R404, R431) -/

/-- The bytes of a 128-bit value, byte 0 most significant. -/
def bytes128 (v : BitVec 128) : List Byte := beBytes 16 v.toNat

/-- BLOB bytes as the words of a response. -/
def byteWords (l : List Byte) : List W := l.map (·.setWidth 64)

/-- A new challenge, and those still good beside it. -/
def State.newChallenge (s : State) (l : List Challenge) : Challenge × List Challenge × State :=
  let c : Challenge := ⟨Config.random s.fresh, s.now⟩
  (c, (l.filter fun x => s.now < x.born + secs 10) ++ [c], { s with fresh := s.fresh + 1 })

/-- A challenge named by its bytes is good; either way it is used up. -/
def State.useChallenge (s : State) (l : List Challenge) (b : List Byte) : Bool × List Challenge :=
  (l.any fun x => bytes128 x.value == b && s.now < x.born + secs 10, l.filter fun x => bytes128 x.value != b)

/-- The key of a context (R320): words 1 to 4, byte 0 in the top byte of word 1. -/
def State.contextKey (s : State) (c : Nat) : BitVec 256 :=
  s.word 0x6018 c 1 ++ s.word 0x6018 c 2 ++ s.word 0x6018 c 3 ++ s.word 0x6018 c 4

def State.clearChallenge (s : State) : List W × State :=
  let r := s.newChallenge s.ev.clearCh
  (byteWords (bytes128 r.1.value), r.2.2.withEv fun e => { e with clearCh := r.2.1 })

def execClearChallengeRead (rq : Req) (s : State) : Host.Outcome State Fault Refusal :=
  done (s.hostRead rq ⟨0x7830, 1, 0⟩ fun s => s.clearChallenge)

/-! ### Clearing (R404) -/

/-- An accepted clear: the scope's records go, SILLAGE-CLEARED follows them. -/
def State.clearSillage (s : State) (ctx scope : Nat) : State :=
  let hit := fun (d : Nat) => scope % 16 == 15 || d == scope % 16
  let lg := fun (r : Rec) => scope / 128 == 1 && r.emerg
  let n := ((List.range s.dies).map fun d => if hit d then (s.sillageOf d).length else 0).sum + s.ev.lastGasp.countP lg
  let s := s.withEv fun e => { e with
    sillage := e.sillage.zipIdx.map fun (x : List Rec × Nat) => if hit x.2 then [] else x.1
    lastGasp := e.lastGasp.filter fun r => !lg r }
  let r := s.raiseSeq 0x7802 .notice s.mastDie ctx scope n false
  (List.range 4).foldl (fun (s : State) c => s.setFld F.EV_CURSOR_CURSOR c r.2) r.1

/-- A write of `EV_CLEAR.02`. -/
def putClear (s : State) (blob : List Byte) : HostWrite × (State → Status × State) :=
  let ctx := byteAt blob 16
  let scope := byteAt blob 17
  let ok := blob.length == 88 && ctx < 4 && scope / 16 % 8 == 0 && (scope % 16 < s.dies || scope % 16 == 15)
    && ((blob.drop 18).take 6).all (· == 0)
  (⟨⟨0x7830, 2, 0⟩, [], 0, ok⟩, fun s =>
    let u := s.useChallenge s.ev.clearCh (blob.take 16)
    let s := s.withEv fun e => { e with clearCh := u.2 }
    if u.1 && Config.ed25519 (s.contextKey ctx) (blob.take 24) (blob.drop 24) then (.ok, s.clearSillage ctx scope)
    else (.auth, s.note 0x7805 ctx 0 0))

def execSillageClear (rq : Req) (blob : List Byte) (s : State) : Host.Outcome State Fault Refusal :=
  let x := putClear s blob
  done (s.request rq x.1 x.2)

/-! ### Inputs (R407–R410) -/

def gpINACTIVE : Nat := 0
def gpACTIVE : Nat := 1
def gpSTUCK : Nat := 2
def gpCHATTER : Nat := 3

def State.gpi (s : State) (i : Nat) : GpiIn := s.ev.gpi.getD i .rest

def State.withGpi (s : State) (i : Nat) (f : GpiIn → GpiIn) : State := s.withEv fun e => { e with gpi := e.gpi.modify i f }

def State.gpiState (s : State) (i : Nat) : Nat := s.fld F.EV_GPI_STAT_STATE i

/-- The input's raw level is the active one. -/
def State.gpiLevel (s : State) (i : Nat) : Bool :=
  ((s.gpi i).raw).xor ((if i < 32 then s.fld F.EV_GPI_POL i else s.fld F.TM_REF_POL (i - 32)) == 1)

/-- The chatter limit. -/
def State.chatterLimit (s : State) (i : Nat) : Nat :=
  let n := s.fld F.EV_GPI_EDGES i
  if 32 ≤ i ∧ s.refEnabled (i - 32) = true ∧ s.fld F.TM_REF_TYPE (i - 32) = 3 then
    match format (s.fld F.TM_REF_FORMAT (i - 32)) with
    | some f =>
      let den := f.den * 1000
      2 * ((f.lines * f.num * s.fld F.EV_GPI_WIN i + den - 1) / den) + n
    | none => n
  else n

/-- STATE of an input changes; a flagged pulse input has no signal, and one whose flag clears qualifies again. -/
def State.setGpi (s : State) (i n : Nat) : State :=
  let o := s.gpiState i
  let s := s.setFld F.EV_GPI_STAT_STATE i n
  if i < 32 then s
  else if o < 2 ∧ 2 ≤ n then s.refLost (i - 32) (if n = gpCHATTER then 3 else 1)
  else if 2 ≤ o ∧ n < 2 then
    if s.refEnabled (i - 32) && s.qstate (i - 32) == qLOS && !s.flagged (i - 32) then s.beginQualify (i - 32) else s
  else s

/-- The CHATTER flag is raised (R407). -/
def State.chatter (s : State) (i : Nat) : State :=
  let g := s.gpi i
  let s := s.withGpi i fun x => { x with masked := x.edges.length, maskFrom := s.now }
  let s := (s.setGpi i gpCHATTER).bump F.EV_GPI_STAT_CHATTERS i 1
  (s.note 0x7807 i g.prevN g.prevMs).notify 0x7850 i

/-- GPI_RAW_EDGE. -/
def State.gpiEdge (s : State) (i : Nat) : State :=
  if 36 ≤ i then s
  else
    let t := s.now
    let win := ms (s.fld F.EV_GPI_WIN i)
    let s := s.withGpi i fun x => { x with
      raw := !x.raw
      since := t
      edgeNs := nanosOf s.clk.count
      edges := t :: x.edges.filter fun (y : Nat) => decide (t < y + win) }
    let s := s.setFld F.EV_GPI_STAT_LEVEL i (flag (s.gpi i).raw)
    if s.gpiState i = gpCHATTER then s.withGpi i fun x => { x with masked := x.masked + 1 }
    else if s.chatterLimit i < (s.gpi i).edges.length then s.chatter i
    else s

def execGpiRawEdge (i : Nat) (s : State) : Host.Outcome State Fault Refusal := done (s.gpiEdge i)

/-- A qualified active edge arms its salvo in the owner's name (R409). -/
def State.gpiArm (s : State) (n : Nat) : State :=
  let owner := s.fld F.XP_SALVO_OWNER n % 4
  let rq : Req := ⟨⟨owner, Nat.mod_lt _ (by decide)⟩, .operate, .operate, .busA, 0, 0⟩
  let w0 := F.XP_SALVO_COUNT.put (F.XP_SALVO_OP.put 0 1) (s.fld F.XP_SALVO_STAGED n)
  let t := (s.decideHere rq 2 n fun s => s.salvoArm owner n w0 0).2
  { t with tw := { t.tw with fwd := s.tw.fwd } }

/-- GPI_QUALIFY: the level has held for MINW. -/
def State.gpiQualify (s : State) (i : Nat) : State :=
  if 36 ≤ i || s.gpiState i == gpCHATTER || s.gpiLevel i == (s.gpi i).active then s
  else
    let on := s.gpiLevel i
    let s := s.waitUntil ((s.gpi i).since + us (s.fld F.EV_GPI_MINW i))
    let g := s.gpi i
    let s := s.withGpi i fun x => { x with active := on, actSince := g.since }
    let s := (s.setFld F.EV_GPI_STAT_EDGETIME i g.edgeNs).bump F.EV_GPI_STAT_QEDGES i 1
    let s := (s.setGpi i (if on then gpACTIVE else gpINACTIVE)).notify 0x7850 i
    if on && i < 32 then
      let s := s.trigGpi i s.house
      if s.fld F.EV_GPI_ACTION i = 1 then s.gpiArm (s.fld F.EV_GPI_SALVO i) else s
    else s

def execGpiQualify (i : Nat) (s : State) : Host.Outcome State Fault Refusal := done (s.gpiQualify i)

/-- GPI_STUCK: active for longer than STUCK. -/
def State.gpiStuck (s : State) (i : Nat) : State :=
  if 36 ≤ i || s.gpiState i != gpACTIVE || s.fld F.EV_GPI_STUCK i == 0 then s
  else
    let s := s.waitUntil ((s.gpi i).actSince + secs (s.fld F.EV_GPI_STUCK i))
    let s := (s.setGpi i gpSTUCK).bump F.EV_GPI_STAT_STUCKS i 1
    (s.note 0x7806 i (flag (s.gpi i).raw) 0).notify 0x7850 i

def execGpiStuck (i : Nat) (s : State) : Host.Outcome State Fault Refusal := done (s.gpiStuck i)

/-- Qualification starts again from the level of the moment, with no edge; a masked episode that ends is kept for the next
record. -/
def State.gpiSettle (s : State) (i : Nat) : State :=
  let on := s.gpiLevel i
  let t := s.now
  let chattering := s.gpiState i == gpCHATTER
  let s := s.withGpi i fun x => { x with
    active := on
    actSince := if x.active = on ∧ chattering = false then x.actSince else t
    prevN := if chattering then x.masked else x.prevN
    prevMs := if chattering then (t - x.maskFrom) / ms 1 else x.prevMs }
  s.setGpi i (if on then gpACTIVE else gpINACTIVE)

/-- GPI_UNMASK: the input has been quiet for HOLD. -/
def State.gpiUnmask (s : State) (i : Nat) : State :=
  if 36 ≤ i || s.gpiState i != gpCHATTER then s
  else ((s.waitUntil ((s.gpi i).since + ms (s.fld F.EV_GPI_HOLD i))).gpiSettle i).notify 0x7850 i

def execGpiUnmask (i : Nat) (s : State) : Host.Outcome State Fault Refusal := done (s.gpiUnmask i)

def gpiRange (i : Nat) (v : W) : Bool :=
  let a := F.EV_GPI_ACTION.of v
  a ≤ 1 && (a == 0 || (i < 32 && F.EV_GPI_SALVO.of v != 0)) && F.EV_GPI_EDGES.of v != 0 && F.EV_GPI_WIN.of v != 0
    && F.EV_GPI_HOLD.of v != 0 && F.EV_GPI_RESERVED.of v == 0

/-- A write of `EV_GPI` (R408). -/
def putGpi (i : Nat) (v : W) : HostWrite × (State → Status × State) :=
  (⟨⟨0x7848, 0, i⟩, [(0, v)], 0, gpiRange i v⟩, fun s =>
    let o := s.gpiState i
    let s := (s.putWord 0x7848 i 0 v).gpiSettle i
    (.ok, if s.gpiState i = o then s else s.notify 0x7850 i))

def execEvGpiWrite (rq : Req) (i : Nat) (v : W) (s : State) : Host.Outcome State Fault Refusal :=
  let x := putGpi i v
  done (s.request rq x.1 x.2)

end Sys2Proof.Machine
end

