-- ==== Sys2Proof/Machine/Media.lean ====
section
/-! DEFINITION. Media Ethernet and SDI (chapter 9): MACs and the frames they receive, rings, time-stamps, statistics, transports,
flows, the receive hold, SDI lines. -/
namespace Sys2Proof.Machine

/-! ### MACs (R217–R219) -/

/-- The receive and transmit lane elements of a MAC. -/
def macLanes (m : Nat) (rx : Bool) : List Nat := (List.range 4).map fun k => laneElem rx (m / 16) (m % 16 * 4 + k)

def macRange (w : Nat) (v : W) : Bool :=
  if w = 0 then
    1518 ≤ F.MX_MAC_MTU.of v && F.MX_MAC_MTU.of v ≤ 9600 && F.MX_MAC_MGMTVID.of v ≤ 4094 && F.MX_MAC_VID.of v ≤ 4094
      && F.MX_MAC_RESERVED.of v == 0
  else if w = 1 then
    F.MX_MAC_MACADDR.of v != 0 && !(F.MX_MAC_MACADDR.of v).testBit 40 && F.MX_MAC_RESERVED1.of v == 0
  else 8 ≤ F.MX_MAC_PREFIX.of v && F.MX_MAC_PREFIX.of v ≤ 30 && F.MX_MAC_RESERVED2.of v == 0

/-- The eight lane entries of the MAC are all in one Ethernet mode. -/
def State.macLanesOk (s : State) (m : Nat) : Bool :=
  let l := (macLanes m true ++ macLanes m false).map fun e => s.laneMode e
  l.all (· == 1) || l.all (· == 2)

/-- A live transport or an enabled audio flow names the MAC. -/
def State.macNamed (s : State) (m : Nat) : Bool :=
  ([false, true].any fun dst => (validPorts s.regs dst).any fun x =>
      let w := s.xport dst x.1 0
      xportUsed s.sys.role x.2 && xType w == xST2110 && (xMacs (pDie x.2) w).contains m)
    || [0x4828, 0x4830].any fun ix => (entriesOf s.regs ix).any fun x =>
      F.MX_XPORT_FEN.of x.2 == 1 && (aMacs (x.1 / 128) (s.word ix x.1 1)).contains m

/-- Fields that may change while the MAC is enabled. -/
def macFree (v : W) : W := F.MX_MAC_EN.put (F.MX_MAC_PAUSEOBEY.put v 0) 0

/-- A write of word `w` of `MX_MAC`. -/
def putMac (m w : Nat) (v : W) : HostWrite × (State → Status × State) :=
  (⟨⟨0x4810, 0, m⟩, [(w, v)], 0, macRange w v⟩, fun s =>
    let o := s.word 0x4810 m w
    let on := s.macOn m
    if w == 0 && F.MX_MAC_EN.of v == 1 && !s.macLanesOk m then (.busy, s)
    else if on && (if w = 0 then macFree v != macFree o else v != o) then (.busy, s)
    else if w == 0 && on && F.MX_MAC_EN.of v == 0 && s.macNamed m then (.busy, s)
    else
      let s := s.putWord 0x4810 m w v
      if w != 0 then (.ok, s)
      else
        let s := s.putBack .mac (macDie m) m
        let s := if F.MX_MAC_EN.of v = 0 then s.setMacRun ⟨m, false, none, [], 0, []⟩ else s
        (.ok, if on && F.MX_MAC_EN.of v == 1 then s else s.ptpRestarts m))

def execMxMacWrite (rq : Req) (m w : Nat) (v : W) (s : State) : Host.Outcome State Fault Refusal :=
  let x := putMac m w v
  done (s.request rq x.1 x.2)

/-- A MAC's link comes up, with the taps that ETH-KR4 trained, or goes down. -/
def State.macLink (s : State) (m : Nat) (up : Bool) (taps : List (Nat × Nat)) : State :=
  if !s.macOn m then s
  else
    let was := (s.macRun m).link
    let s := s.setMacRun { s.macRun m with link := up }
    let s := if was = up then s else s.ptpRestarts m
    let free := fun (rx : Bool) => (macLanes m rx).filter fun e => !s.patternRuns e
    let s := (free true).foldl (fun (s : State) e =>
      if up then s.setLane e laLOCKED else if s.lane e = laLOCKED then s.loseLock e laACQUIRE else s.setLane e laACQUIRE) s
    if !up then s
    else
      let s := (free false).foldl (fun s e => s.setLane e laLOCKED) s
      ((macLanes m false).zip taps).foldl (fun (s : State) (x : Nat × (Nat × Nat)) =>
        if s.laneMode x.1 = 1 then
          s.setLaneRun { s.laneRun x.1 with
            taps := some (F.LK_TXEQ_PRE.put (F.LK_TXEQ_POST.put (s.taps x.1) (min x.2.2 (40 - min 15 x.2.1))) (min 15 x.2.1)) }
        else s) s

def execMacLinkChange (m : Nat) (up : Bool) (taps : List (Nat × Nat)) (s : State) : Host.Outcome State Fault Refusal :=
  done (s.macLink m up taps)

/-! ### Time-stamp queues read (R230) -/

/-- The oldest entry removed and latched: the words of the element. -/
def State.tsqPop (s : State) (e : Nat) : List W × State :=
  let x := s.tsQueue e
  let w := match x.q with
    | [] => ((0 : W), (0 : W))
    | y :: rest =>
      (F.MX_TSQ_SECONDS.put (F.MX_TSQ_NANOSECONDS.put 0 y.nanos) y.secs,
       F.MX_TSQ_VALID.put (F.MX_TSQ_TAG.put (F.MX_TSQ_SEQID.put (F.MX_TSQ_MSGTYPE.put (F.MX_TSQ_FILL.put 0 rest.length) y.mtype) y.seqid)
         y.tag) 1)
  let s := s.setTsQueue { x with q := x.q.drop 1 }
  ([w.1, w.2], s.setWord 0x4850 e 1 w.2)

def execTsqRead (rq : Req) (e : Nat) (s : State) : Host.Outcome State Fault Refusal :=
  done (s.hostRead rq ⟨0x4850, 0, e⟩ fun s => s.tsqPop e)

/-! ### Statistics (R232) -/

def State.count (s : State) (f : Fld) (m n : Nat) : State := s.bump f m n

/-- The counters of a MAC as the PCIe latch holds them. -/
def State.statsLatch (s : State) (m : Nat) : List W := ((s.mx.stats.find? fun x => x.1 == m).map (·.2)).getD []

/-- Essence packets leave by the MAC: a live transport of a destination port or an enabled transmit flow sends there. -/
def State.sendsEssence (s : State) (m : Nat) : Bool :=
  s.macUp m && s.essenceOut &&
    (((validPorts s.regs true).any fun x =>
      let w := s.xport true x.1 0
      xportUsed s.sys.role x.2 && xType w == xST2110 && s.link true x.1 != lkNOTRANSPORT && (xMacs (pDie x.2) w).contains m)
    || (entriesOf s.regs 0x4830).any fun x =>
      F.MX_XPORT_FEN.of x.2 == 1 && (aMacs (x.1 / 128) (s.word 0x4830 x.1 1)).contains m)

/-- The essence packets that a MAC sent since its counters were last read count (R232): no command tells of each, so how many and how many
bytes are free (log 189). -/
def State.countEssence (s : State) (m : Nat) : State :=
  if !s.sendsEssence m then s
  else
    let f := s.takeFree
    let g := f.1.takeFree
    (g.1.bump F.MX_STATS_TXOK m f.2.toNat).bump F.MX_STATS_TXBYTES m g.2.toNat

/-- All 16 counters as they stand, cleared; over PCIe they go into the latch. -/
def State.statsTake (s : State) (m : Nat) (pcie : Bool) : List W × State :=
  let s := s.countEssence m
  let l := (List.range 16).map fun w => s.word 0x4860 m w
  let s := (List.range 16).foldl (fun s w => s.setWord 0x4860 m w 0) s
  (l, if pcie then { s with mx := { s.mx with stats := (m, l) :: s.mx.stats.filter fun x => !(x.1 == m) } } else s)

def execMxStatsRead (rq : Req) (m : Nat) (s : State) : Host.Outcome State Fault Refusal :=
  done (s.hostRead rq ⟨0x4860, 0, m⟩ fun s => s.statsTake m (rq.path == .pcie))

/-! ### Rings (R223–R226): an element is MAC × 2 + direction, 0 receive -/

def State.ringOn (s : State) (e : Nat) : Bool := s.fld F.MX_RING_EN e == 1
def State.ringHost (s : State) (e : Nat) : Bool := s.fld F.MX_RING_SERVICER e == 1
def State.ringSize (s : State) (e : Nat) : Nat := 64 * 2 ^ s.fld F.MX_RING_SIZE e

/-- Words 0 and 1 in range; on transmit BUFSIZE is ignored. -/
def ringRange (tx : Bool) (w : Nat) (v : W) : Bool :=
  if w = 0 then v.toNat % 4096 == 0
  else F.MX_RING_SIZE.of v ≤ 6 && (tx || 1 ≤ F.MX_RING_BUFSIZE.of v) && F.MX_RING_RESERVED.of v == 0

/-- A write of word 0 or word 1 of `MX_RING`. -/
def putRing (rq : Req) (e w : Nat) (v : W) : HostWrite × (State → Status × State) :=
  (⟨⟨0x4840, 0, e⟩, [(w, v)], 0, w < 2 && ringRange (e % 2 == 1) w v⟩, fun s =>
    let stops := w == 1 && F.MX_RING_EN.of v == 0
    if s.ringOn e && !stops then (.busy, s)
    else
      let s := s.putWord 0x4840 e w v
      if w = 0 then (.ok, s)
      else
        let s := { s with mx := { s.mx with owner := (e, rq.ctx.val) :: s.mx.owner.filter fun x => !(x.1 == e) } }
        (.ok, if stops then s.setFld F.MX_RING_NEXT e 0 else s))

def execMxRingWrite (rq : Req) (e w : Nat) (v : W) (s : State) : Host.Outcome State Fault Refusal :=
  let x := putRing rq e w v
  done (s.request rq x.1 x.2)

/-! Fields of a descriptor's word 1 (R224). -/

def dOWN (w : W) : Bool := w.getLsbD 63
def dSOP (w : W) : Bool := w.getLsbD 62
def dEOP (w : W) : Bool := w.getLsbD 61
def dTS (w : W) : Bool := w.getLsbD 59
def dVLAN (w : W) : Bool := w.getLsbD 58
def dLength (w : W) : Nat := getBits w 16 14

/-- What a receive descriptor reports of its frame. -/
structure DescInfo where
  disc : Bool
  tag  : Option Nat
  vid  : Option Nat
  cls  : Nat

/-- Word 1 of a descriptor handed back on receive. -/
def descBack (i : DescInfo) (first last : Bool) (len : Nat) : W :=
  let v := putBits 0 62 1 (flag first)
  let v := putBits v 61 1 (flag last)
  let v := putBits v 60 1 (flag i.disc)
  let v := putBits v 59 1 (flag i.tag.isSome)
  let v := putBits v 58 1 (flag i.vid.isSome)
  let v := putBits v 56 2 i.cls
  let v := putBits v 44 12 (i.tag.getD 0)
  let v := putBits v 32 12 (i.vid.getD 0)
  putBits v 16 14 len

/-- Descriptors handed back, from NEXT on; the servicing function's vector 4 is raised (R333). -/
def State.handBack (s : State) (e : Nat) (l : List (W × W)) : State :=
  if l.isEmpty then s
  else
    let next := s.fld F.MX_RING_NEXT e
    let base := (s.word 0x4840 e 0).toNat
    let size := s.ringSize e
    let back := l.zipIdx.map fun x => (base + 16 * ((next + x.2) % size), x.1.1, x.1.2)
    let s := { s with mx := { s.mx with back := back } }
    let s := s.setFld F.MX_RING_NEXT e ((next + l.length) % size)
    match s.mx.owner.find? fun x => x.1 == e with
    | some x => if s.ringHost e then s.withPcie x.2 fun f => f.raise 4 else s
    | none => s

/-- Descriptors from the front whose OWN is 1. -/
def ownedRun (l : List (W × W)) : List (W × W) := l.takeWhile fun x => dOWN x.2

/-- A frame of `len` bytes less its FCS finds its descriptors: it is placed whole, or not at all. -/
def State.ringFits (s : State) (e len : Nat) (ring : List (W × W)) : Bool :=
  let buf := 1024 * s.fld F.MX_RING_BUFSIZE e
  let n := (len + buf - 1) / buf
  n ≤ (ownedRun (ring.take n)).length

/-- A frame of `len` bytes less its FCS placed on a receive ring, whole or not at all (R225, R226). -/
def State.ringPlace (s : State) (e len : Nat) (i : DescInfo) (ring : List (W × W)) : State :=
  let buf := 1024 * s.fld F.MX_RING_BUFSIZE e
  let n := (len + buf - 1) / buf
  let own := ownedRun (ring.take n)
  if own.length < n then
    let k := own.length
    let back := own.zipIdx.map fun x => (x.1.1, descBack { i with disc := true } (x.2 == 0) (x.2 + 1 == k) 0)
    (s.handBack e back).bump F.MX_RX_NOBUF_DROPS (e / 2) 1
  else
    s.handBack e (own.zipIdx.map fun x =>
      (x.1.1, descBack i (x.2 == 0) (x.2 + 1 == n) (if x.2 + 1 = n then len - buf * (n - 1) else buf)))

/-! ### What a received frame meets (R220) -/

/-- A frame accepted (RXOK, RXBYTES). -/
def State.rxOk (s : State) (m len : Nat) : State := (s.bump F.MX_STATS_RXOK m 1).bump F.MX_STATS_RXBYTES m len

/-- The groups that a MAC has joined. -/
def State.joined (s : State) (m : Nat) : List Nat :=
  portGroups s.sys.role s.regs m ++ flowGroups s.regs m

/-- PTP ports enabled on a MAC (R262), whatever their ROLE. -/
def State.ptpOn (s : State) (m : Nat) : List Nat :=
  (List.range 4).filter fun p => s.ptpRuns p && s.fld F.TM_PTP_PORT_MAC p == m

/-- The multicast MAC address of an IPv4 group. -/
def groupMac (g : Nat) : Nat := 0x01005E000000 + g % 2 ^ 23

/-- The destination address is the MAC's, broadcast, or that of a group the MAC is in: a joined group; for PTP ports that of R262; where
groups are joined, the all-systems group, to which general queries come (PRESUMED: IGMP, log 161). -/
def State.daOk (s : State) (m da : Nat) : Bool :=
  da == s.fld F.MX_MAC_MACADDR m || da == 0xFFFFFFFFFFFF || (s.joined m).any (fun g => groupMac g == da)
    || (!(s.ptpOn m).isEmpty && da == groupMac 0xE0000181) || (!(s.joined m).isEmpty && da == groupMac 0xE0000001)

/-- The essence VLAN of a MAC. -/
def State.essenceVid (s : State) (m : Nat) : Option Nat := if s.fld F.MX_MAC_VID m = 0 then none else some (s.fld F.MX_MAC_VID m)

/-- A flow word in use for an address and port. -/
def flowIs (v : W) (group udp : Nat) : Bool :=
  F.MX_XPORT_FEN.of v == 1 && F.MX_XPORT_GROUP.of v == group && F.MX_XPORT_UDP.of v == udp

/-- The enabled receive flows of a MAC that a packet matches, and whether it came on path B. -/
def State.flowsFor (s : State) (m group udp : Nat) : List (FlowId × Bool) :=
  ((validPorts s.regs false).flatMap fun x =>
    let w := s.xport false x.1 0
    if xportUsed s.sys.role x.2 && xType w == xST2110 && s.link false x.1 != lkNOTRANSPORT && (xMacs (pDie x.2) w).contains m then
      ([0, 1, 2].filter fun k => flowIs (s.xport false x.1 (k + 1)) group udp).map fun k =>
        (⟨false, x.1, k⟩, m != pDie x.2 * 16 + F.MX_XPORT_MACA.of w)
    else [])
  ++ (entriesOf s.regs 0x4828).filterMap fun x =>
    let w := s.word 0x4828 x.1 1
    if flowIs x.2 group udp && (aMacs (x.1 / 128) w).contains m then
      some (⟨true, x.1, 2⟩, m != x.1 / 128 * 16 + F.MX_AFLOW_MACA.of w) else none

def State.rxFlow (s : State) (f : FlowId) (seq : Nat) : RxFlow :=
  (s.mx.flows.find? fun x => x.id == f).getD ⟨f, seq, [], none, none, none, none⟩

def State.setRxFlow (s : State) (x : RxFlow) : State :=
  { s with mx := { s.mx with flows := x :: s.mx.flows.filter fun y => !(y.id == x.id) } }

/-- An extended sequence number lies before another: they count modulo 2^32 (R236). -/
def seqBefore (a b : Nat) : Bool :=
  let d := (b % 2 ^ 32 + 2 ^ 32 - a % 2 ^ 32) % 2 ^ 32
  0 < d && d < 2 ^ 31

/-- The hold of a flow (R243). -/
def State.flowHold (s : State) (f : FlowId) : Nat :=
  (if f.cross then F.MX_AFLOW_HOLD.of (s.word 0x4828 f.idx 1) else F.MX_XPORT_HOLD.of (s.xport false f.idx 0)) * us 10

/-- A flow of a port with TIMING ARRIVAL: the arrival of a picture's first packet stands for its nominal time. -/
def State.byArrival (s : State) (f : FlowId) : Bool := !f.cross && F.MX_XPORT_TIMING.of (s.xport false f.idx 0) == 1

/-- Ticks in a second of a flow's RTP clock: 90 kHz, and 48 kHz for audio. -/
def rtpRate (k : Nat) : Nat := if k = 2 then 48000 else 90000

/-- How far an RTP timestamp lies past another, modulo 2^32. -/
def rtpPast (a b : Nat) : Nat := (a % 2 ^ 32 + 2 ^ 32 - b % 2 ^ 32) % 2 ^ 32

/-- The time, in units, that a timestamp gives: of those it can stand for, the one nearest to `now`. -/
def rtpUnits (rate now stamp : Nat) : Nat :=
  let n := now * rate / secUnits
  let d := rtpPast stamp n
  (if d < 2 ^ 31 then n + d else n + d - 2 ^ 32) * secUnits / rate

/-- TROdefault in lines of the format (PRESUMED: ST 2110-21, log 190). -/
def Format.troLines (f : Format) : Nat :=
  if f.lines = 2250 then 86 else if f.lines = 750 then 28 else if f.lines = 625 then 26 else if f.lines = 525 then 20
  else if f.interlaced then 22 else 43

/-- From a picture's alignment point to its line `row`, counted from 0 (R243). -/
def Format.rowUnits (f : Format) (row : Nat) : Nat := (f.troLines + row) * f.den * secUnits / (f.num * f.lines)

/-- The line of a picture at which a packet's pixels begin. -/
def rtpRow : RtpBody → Option Nat
  | .video _ ((r, _) :: _) => some r
  | _ => none

/-- A packet's nominal sending time in units: by its timestamp, and for video by TROdefault and its line besides (R243). -/
def State.nominal (s : State) (f : FlowId) (p : RtpPacket) : Nat :=
  rtpUnits (rtpRate f.k) s.clk.count p.stamp
    + (match format (pFormat (s.port false f.idx)), rtpRow p.body with
      | some x, some r => if f.cross then 0 else x.rowUnits r
      | _, _ => 0)

/-- The arrival of a picture's first packet, noted once for each timestamp; a copy of the other path does not move it. -/
def RxFlow.noteBase (x : RxFlow) (now nominal stamp : Nat) : RxFlow :=
  match x.base with
  | some (_, _, t) => if rtpPast stamp t = 0 ∨ 2 ^ 31 ≤ rtpPast stamp t then x else { x with base := some (now, nominal, stamp) }
  | none => { x with base := some (now, nominal, stamp) }

/-- When a packet is due: its nominal time, or as long after the arrival of its picture's first packet as it is nominally after that; and the
hold. -/
def State.flowDue (s : State) (x : RxFlow) (nominal : Nat) : Nat :=
  (match x.base with
    | some (t, n, _) => if s.byArrival x.id then t + nominal - n else nominal
    | none => nominal) + s.flowHold x.id

/-- Carried lines of a picture, or of a field where the format is interlaced. -/
def Format.rows (f : Format) : Nat := if f.interlaced then f.carriedLines / 2 else f.carriedLines

/-- Pixels released: `width` of them make a line. A line left with fewer, and each line between that brought none, is lost; so are those of
pictures passed over, which are `per` ticks long (R243, R249). -/
def rowStep (rows width per stamp : Nat) (a : Option (Nat × Nat × Nat) × Nat) (x : Nat × Nat) : Option (Nat × Nat × Nat) × Nat :=
  match a.1 with
  | none => (some (stamp, x.1, x.2), a.2)
  | some (t, r, n) =>
    if t = stamp then
      if x.1 ≤ r then (some (t, r, n + x.2), a.2)
      else (some (stamp, x.1, x.2), a.2 + flag (n < width) + (x.1 - r - 1))
    else (some (stamp, x.1, x.2), a.2 + flag (n < width) + (rows - r - 1) + x.1 + ((rtpPast stamp t + per / 2) / per - 1) * rows)

/-- The video of a port's released packets: the line reached, and the lines lost on the way. -/
def State.rowsTake (s : State) (x : RxFlow) (held : List HeldPacket) : Option (Nat × Nat × Nat) × Nat :=
  let fmt := pFormat (s.port false x.id.idx)
  match format fmt with
  | none => (x.row, 0)
  | some f =>
    let per := 90000 * f.den / (f.num * (if f.interlaced then 2 else 1))
    held.foldl (fun a y => match y.body with
      | .video _ runs => runs.foldl (rowStep f.rows (Format.pixels fmt) per y.stamp) a
      | _ => a) (x.row, 0)

/-- A port enters FORMAT (R105, R237, R244): a picture has failed the format checks. -/
def State.portFormat (s : State) (p : Nat) : State :=
  ((s.bump F.MX_PORT_STAT_FORMAT (statElem false p) 1).setLink false p lkFORMAT).alignFail p alFORMAT 0x2803 0

/-- A packet of a flow arrives (R243): the first copy waits for its release, a second is discarded, one past its release is LATE: its release
has been, or the time at which it is due has passed (DEDUCED, log 166). -/
def State.flowPacket (s : State) (f : FlowId) (b : Bool) (p : RtpPacket) : State :=
  let port := !f.cross && f.k == 0
  if port && (match p.body with | .video good _ => !good | _ => false) then
    (if s.link false f.idx == lkFORMAT then s else s.portFormat f.idx)
  else
    let x := s.rxFlow f p.seq
    let x := if b then { x with lastB := some s.now } else { x with lastA := some s.now }
    let nominal := s.nominal f p
    let x := x.noteBase s.clk.count nominal p.stamp
    let due := s.flowDue x nominal
    let s := if port && s.link false f.idx != lkLOCKED then s.setLink false f.idx lkLOCKED else s
    if seqBefore p.seq x.next || due < s.clk.count then
      let s := s.setRxFlow x
      if f.cross then s else s.bump F.MX_PORT_STAT_LINECRC (statElem false f.idx) 1
    else if x.got.any fun y => y.pathB == b && y.seq == p.seq then s.setRxFlow x
    else s.setRxFlow { x with got := ⟨b, p.seq, due, p.stamp, p.body⟩ :: x.got }

/-- A frame that no engine claims (step 8). A ring that the spar cores serve is walked like a host's; they answer ARP and ICMP echo, and
discard the rest (R223), which counts as UNCLAIMED alone (DEDUCED, log 167). -/
def State.toRing (s : State) (m : Nat) (f : MacFrame) (cls : Nat) (tag : Option Nat) : State :=
  let e := m * 2
  if !s.ringOn e then s.bump F.MX_STATS_UNCLAIMED m 1
  else
    let t := s.ringPlace e (f.len - 4) ⟨false, tag, f.vid, cls⟩ f.ring
    if s.ringHost e || !s.ringFits e (f.len - 4) f.ring then t.rxOk m f.len
    else match f.body with
      | .arp => (t.rxOk m f.len).sendOwn m
      | .icmp => (t.rxOk m f.len).sendOwn m
      | _ => t.bump F.MX_STATS_UNCLAIMED m 1

/-- A quantum of PAUSE, 512 bit times at 100 Gb/s. -/
def quantumUnits : Nat := 512 * nsUnits / 100

/-- Essence packets that came for a paused transmitter: each waits in the buffer of 256 KiB, or finds no room and is dropped (R222). -/
def State.essenceWaits (s : State) (m : Nat) (packets : List Nat) : State :=
  let x := s.macRun m
  if x.paused.isNone then s
  else
    let r := packets.foldl (fun (a : List Nat × Nat) n => if a.1.sum + n ≤ 262144 then (a.1 ++ [n], a.2) else (a.1, a.2 + 1)) (x.buf, 0)
    (s.setMacRun { x with buf := r.1 }).bump F.MX_STATS_TXPAUSEDROP m r.2

/-- Quanta paused up to now counted; the transmitter runs, and what waited leaves. -/
def State.endPause (s : State) (m : Nat) : State :=
  let x := s.macRun m
  match x.paused with
  | none => s
  | some (t, u) =>
    let s := (s.bump F.MX_STATS_PAUSEQ m ((min s.now u - t) / quantumUnits)).setMacRun { x with paused := none, waiting := [], own := 0, buf := [] }
    let s := (s.bump F.MX_STATS_TXOK m x.buf.length).bump F.MX_STATS_TXBYTES m x.buf.sum
    let s := x.waiting.foldl (fun s y => s.ptpLeaves y.1 y.2 0) s
    (List.range x.own).foldl (fun s _ => s.ownLeaves m) s

/-- Quanta of a pause cut short counted; the transmitter stays as it is. -/
def State.countPause (s : State) (m : Nat) : State :=
  match (s.macRun m).paused with
  | none => s
  | some (t, u) => s.bump F.MX_STATS_PAUSEQ m ((min s.now u - t) / quantumUnits)

/-- A PAUSE obeyed (R222): one that comes while the transmitter is paused restarts the timer; 0 releases it. -/
def State.pauseFor (s : State) (m quanta : Nat) : State :=
  if quanta = 0 then s.endPause m
  else
    let s := s.countPause m
    s.setMacRun { s.macRun m with paused := some (s.now, s.now + quanta * quantumUnits) }

/-- An NCP message of the management VLAN (R311, R317): one of no valid form, or for another node, is dropped and counted; the request of the
others is judged when the mast takes it. -/
def State.macNcp (s : State) (msg : List Byte) : State :=
  if !s.alive then s
  else match s.ncpDrop msg with
    | some false => s.bump F.CT_NCP_STAT_MALFORMED 0 1
    | some true => s.bump F.CT_NCP_STAT_WRONGNODE 0 1
    | none => s

/-- The steps of R220 from the third on. What comes on the management VLAN is NCP's, whatever it is (step 4); what is no
NCP message goes no further (DEDUCED, log 168). -/
def State.claim (s : State) (m : Nat) (f : MacFrame) : State :=
  if !s.daOk m f.da then s.bump F.MX_STATS_UNCLAIMED m 1
  else if f.vid.isSome && f.vid == some (s.fld F.MX_MAC_MGMTVID m) && s.fld F.MX_MAC_MGMTVID m != 0 then
    match f.body with
    | .ncp _ _ msg => (s.rxOk m f.len).macNcp msg
    | _ => s.rxOk m f.len
  else match f.body with
    | .rtp group udp x =>
      let l := if f.vid == s.essenceVid m then s.flowsFor m group udp else []
      if l.isEmpty then s.toRing m f 0 none
      else if s.enginesRun then l.foldl (fun s y => s.flowPacket y.1 y.2 x) (s.rxOk m f.len)
      else s.rxOk m f.len
    | .ptp event _ src seq mtype =>
      let ports := if f.vid == s.essenceVid m then s.ptpOn m else []
      let mine := !ports.isEmpty
      let r := if event then
          let y := s.stamp (m * 2) seq mtype 0 mine
          (ports.foldl (fun (s : State) p => s.withPtp p fun x => { x with rx := (mtype, src, seq, y.2.time) :: x.rx.take 63 }) y.1, some y.2.tag)
        else (s, none)
      if mine then r.1.rxOk m f.len else r.1.toRing m f (if event then 1 else 2) r.2
    | .igmpQuery =>
      let s := s.rxOk m f.len
      if (s.joined m).isEmpty then s
      else
        let n := ((s.mx.igmp.find? fun x => x.1 == m).map (·.2)).getD 0
        ({ s with mx := { s.mx with igmp := (m, n + 1) :: s.mx.igmp.filter fun x => !(x.1 == m) } }).sendOwn m
    | _ => s.toRing m f 0 none

/-- MAC_RX_FRAME. -/
def State.macFrame (s : State) (m : Nat) (f : MacFrame) : State :=
  if !s.macUp m then s
  else
    let s := (s.bump F.MX_STATS_FECCORR m f.fec.1).bump F.MX_STATS_FECUNCORR m f.fec.2
    if f.len < 64 || f.frag then s.bump F.MX_STATS_RUNT m 1
    else if !f.fcsOk then s.bump F.MX_STATS_FCS m 1
    else if s.fld F.MX_MAC_MTU m + (if f.vid.isSome then 4 else 0) < f.len then s.bump F.MX_STATS_OVERSIZE m 1
    else match f.body with
      | .pause quanta packets =>
        let s := (s.bump F.MX_STATS_PAUSE m 1).essenceWaits m packets
        if s.fld F.MX_MAC_PAUSEOBEY m = 1 then s.pauseFor m quanta else s
      | .control => s.bump F.MX_STATS_CTRLOTHER m 1
      | _ => s.claim m f

def execMacRxFrame (m : Nat) (f : MacFrame) (s : State) : Host.Outcome State Fault Refusal := done (s.macFrame m f)

/-- PAUSE_EXPIRE. -/
def State.pauseExpire (s : State) (m : Nat) (packets : List Nat) : State :=
  match (s.macRun m).paused with
  | none => s
  | some (_, u) => ((s.waitUntil u).essenceWaits m packets).endPause m

def execPauseExpire (m : Nat) (packets : List Nat) (s : State) : Host.Outcome State Fault Refusal := done (s.pauseExpire m packets)

/-! ### Sending from a ring (R225) -/

/-- A transmit descriptor handed back: OWN 0, TSTAG where TS was set. -/
def txBack (tag : Nat) (x : W × W) : W × W :=
  let v := putBits x.2 63 1 0
  (x.1, if dTS x.2 then putBits v 44 12 tag else v)

/-- The descriptors of one frame: owned, SOP on the first and EOP on the last alone. -/
def isFrame (l : List (W × W)) : Bool :=
  l.all (fun x => dOWN x.2)
    && (match l.head? with | some x => dSOP x.2 | none => false)
    && (match l.getLast? with | some x => dEOP x.2 | none => false)
    && l.dropLast.all fun x => !dEOP x.2

/-- RING_TX_FRAME. -/
def State.ringSend (s : State) (m : Nat) (l : List (W × W)) (ptp : Option (Nat × Nat)) : State :=
  let e := m * 2 + 1
  if !s.macUp m || !s.ringOn e || (s.macRun m).paused.isSome || !isFrame l then s
  else
    let tagged := l.any fun x => dVLAN x.2
    let len := max 64 ((l.map fun x => dLength x.2).sum + 4 + (if tagged then 4 else 0))
    let s := (s.bump F.MX_STATS_TXOK m 1).bump F.MX_STATS_TXBYTES m len
    let r := if l.any fun x => dTS x.2 then
        let y := s.stamp e ((ptp.map (·.1)).getD 0) ((ptp.map (·.2)).getD 0) 0 false
        (y.1, y.2.tag)
      else (s, 0)
    r.1.handBack e (l.map (txBack r.2))

def execRingTxFrame (m : Nat) (descs : List (W × W)) (ptp : Option (Nat × Nat)) (s : State) : Host.Outcome State Fault Refusal :=
  done (s.ringSend m descs ptp)

/-! ### Transports and flows (R233, R234, R239) -/

def flowRange (v : W) : Bool := F.MX_XPORT_FRESERVED.of v == 0

def ptOk (n : Nat) : Bool := 96 ≤ n

/-- Word 0 of a transport in range, for a port whose entry is `port`. -/
def xportRange (dst : Bool) (port v : W) : Bool :=
  let t := xType v
  let hold := F.MX_XPORT_HOLD.of v
  t != 3 && F.MX_XPORT_RESERVED.of v == 0
    && (F.MX_XPORT_RGB.of v == 0 || 0x48 ≤ pFormat port)
    && (if t == xST2110 && !dst then 2 ≤ hold && hold ≤ 1000 else hold == 0)
    && (t != xST2110 || (ptOk (F.MX_XPORT_PTV.of v) && ptOk (F.MX_XPORT_PTA.of v) && ptOk (F.MX_XPORT_PTN.of v)))
    && !(F.MX_XPORT_DUAL.of v == 1 && F.MX_XPORT_MACA.of v == F.MX_XPORT_MACB.of v)

/-- A write of word `w` of a transport. -/
def putXport (s : State) (dst : Bool) (p w : Nat) (v : W) : HostWrite × (State → Status × State) :=
  (⟨⟨xportIx dst, 0, p⟩, [(w, v)], 0, if w = 0 then xportRange dst (s.portShadow dst p) v else flowRange v⟩, fun s =>
    if w == 0 && xType v == xST2110 && !s.caps.media then (.absent, s)
    else s.editShadow fun s => s.setShadow (xportIx dst) p w v)

def execXportWrite (rq : Req) (dst : Bool) (p w : Nat) (v : W) (s : State) : Host.Outcome State Fault Refusal :=
  let x := putXport s dst p w v
  done (s.request rq x.1 x.2)

def aflowRange (tx : Bool) (v : W) : Bool :=
  let n := F.MX_AFLOW_CHANNELS.of v
  let hold := F.MX_AFLOW_HOLD.of v
  1 ≤ n && n ≤ 64 && (F.MX_AFLOW_KIND.of v == 0 || n % 2 == 0) && ptOk (F.MX_AFLOW_PT.of v)
    && (if tx then hold == 0 else 2 ≤ hold && hold ≤ 1000)
    && !(F.MX_AFLOW_DUAL.of v == 1 && F.MX_AFLOW_MACA.of v == F.MX_AFLOW_MACB.of v) && F.MX_AFLOW_RESERVED.of v == 0

/-- A write of word `w` of a crosspoint flow. -/
def putAflow (tx : Bool) (e w : Nat) (v : W) : HostWrite × (State → Status × State) :=
  let ix := if tx then 0x4830 else 0x4828
  (⟨⟨ix, 0, e⟩, [(w, v)], 0, if w = 0 then flowRange v else aflowRange tx v⟩, fun s =>
    let o := s.word ix e w
    let on := F.MX_XPORT_FEN.of (s.word ix e 0) == 1
    let moves := if w = 0 then F.MX_XPORT_GROUP.of v != F.MX_XPORT_GROUP.of o || F.MX_XPORT_UDP.of v != F.MX_XPORT_UDP.of o
      else F.MX_AFLOW_MACA.of v != F.MX_AFLOW_MACA.of o || F.MX_AFLOW_MACB.of v != F.MX_AFLOW_MACB.of o
    if on && moves then (.busy, s)
    else
      let t := s.putWord ix e w v
      if !tx && t.groupsOver t.regs then (.capacity, s)
      else
        let id : FlowId := ⟨true, e, 2⟩
        (.ok, if !tx && F.MX_XPORT_FEN.of (t.word ix e 0) == 0 then
            { t with mx := { t.mx with flows := t.mx.flows.filter fun x => !(x.id == id) } } else t))

def execAflowWrite (rq : Req) (tx : Bool) (e w : Nat) (v : W) (s : State) : Host.Outcome State Fault Refusal :=
  let x := putAflow tx e w v
  done (s.request rq x.1 x.2)

/-- A write of `MX_ANC_RECIPE`: recipe 0 is RO. -/
def putRecipe (e : Nat) (v : W) : HostWrite × (State → Status × State) :=
  (⟨⟨0x4868, 0, e⟩, [(0, v)], 0, F.MX_ANC_RECIPE_RESERVED.of v == 0 && v.toNat < 2 ^ 32⟩, fun s => (.ok, s.putWord 0x4868 e 0 v))

/-! ### ANC (R51, R238, R246, R247) -/

/-- A packet of type 1, whose second word is no SDID (ST 291-1: DID 0x80 and above; PRESUMED, log 191). -/
def ancType1 (a : Anc) : Bool := 0x80 ≤ a.did % 256

/-- A rule matches a packet; with SMASK 0x00 any SDID, and any type-1 packet of the DID. -/
def ruleMatches (r : W) (a : Anc) : Bool :=
  let m := F.MX_ANC_RECIPE_SMASK.of r
  F.MX_ANC_RECIPE_VALID.of r == 1 && F.MX_ANC_RECIPE_DID.of r == a.did % 256
    && (m == 0 || (!ancType1 a && (a.sdid &&& m) == (F.MX_ANC_RECIPE_SDID.of r &&& m)))

/-- Rules pass a packet: the first that matches decides, and one that matches none passes. -/
def rulesPass (rules : List W) (a : Anc) : Bool :=
  match rules.find? fun r => ruleMatches r a with
  | some r => F.MX_ANC_RECIPE_PASS.of r == 1
  | none => true

/-- Packets that SDI ingress takes out of the ANC path: ST 352, ST 299 audio data and control; EDH is dropped besides. -/
def ancTaken (a : Anc) : Bool :=
  let d := a.did % 256
  (d == 0x41 && a.sdid % 256 == 1) || (0xE0 ≤ d && d ≤ 0xE7) || (0xA0 ≤ d && d ≤ 0xA7)

def ancEdh (a : Anc) : Bool := a.did % 256 == 0xF4

/-- ANC of a picture as it has been taken: words used, packets dropped and counted, frames made: line and payload. -/
structure AncTake where
  used  : Nat
  drops : Nat
  out   : List (Nat × List W)

/-- A packet at ingress: `room` words stand to the picture's ANC. From the first packet that finds no room on, the picture takes none: the
highest lines are dropped first (R51, R246; DEDUCED, log 165). -/
def ancTake (sdi : Bool) (lines room : Nat) (rules : List W) (x : AncTake) (a : Anc) : AncTake :=
  if sdi && ancEdh a then x
  else if !a.sumOk || a.line = 0 || lines < a.line then { x with drops := x.drops + 1 }
  else if (sdi && ancTaken a) || !rulesPass rules a then x
  else
    let n := ancCost (a.dc % 256)
    if room < x.used + n then { x with used := max room x.used, drops := x.drops + 1 }
    else { x with used := x.used + n, out := x.out ++ [(a.line, (ancOf a).payload)] }

/-- ANC packets that a source's transport brings: what passes becomes ANC frames of its stream. -/
def State.ancIn (s : State) (p line : Nat) (sdi fresh : Bool) (l : List Anc) : State :=
  let v := s.port false p
  let run := s.ancBegin false p line (F.MX_XPORT_RECIPE.of (s.xport false p 0)) fresh
  let lines := match format (pFormat v) with | some f => f.lines | none => 0
  let r := l.foldl (ancTake sdi lines (ancRoom (pFormat v)) run.rules) ⟨run.used, 0, []⟩
  let s := { s with mx := { s.mx with anc := r.out.map fun (x : Nat × List W) => (p, x) } }
  (s.setAncRun { run with used := r.used }).bump F.MX_PORT_STAT_ANCDROP (statElem false p) r.drops

/-- Samples of a whole line: the clock of the interface (74.25 MHz; 148.5 MHz in 3G; 594 MHz in 12G) over lines and rate, both lower by
1.001 together (PRESUMED: the SMPTE standards that R235 names, log 192). -/
def sdiSamples (fmt : Nat) : Nat :=
  match format fmt with
  | some f => (if fmt < 0x30 then 74250000 else if fmt < 0x40 then 148500000 else 594000000)
      / ((f.num + f.den - 1) / f.den * f.lines)
  | none => 0

/-- Words of one data stream's line, and its active words; in 12G those of a sub-image. -/
def sdiWords (fmt : Nat) : Nat × Nat :=
  let h := if 0x40 ≤ fmt then 2 else 1
  (sdiSamples fmt / h, Format.pixels fmt / h)

/-- A line with active picture; in 12G of a sub-image, whose lines are those of 1080p. -/
def sdiActive (fmt line : Nat) : Bool :=
  match format (if 0x40 ≤ fmt then 0x30 else fmt) with
  | some f => f.carried line
  | none => false

/-- The space of a line in which a position lies, as its first position and the one past its last: that from the EAV, line number and CRC
words up to the SAV, or that from the SAV to the next EAV, which an active line has not (R246). -/
def ancSpace (fmt line off : Nat) : Nat × Nat :=
  let w := sdiWords fmt
  let sav := w.1 - w.2 - 12
  if off < sav then (0, sav) else if sdiActive fmt line then (sav + 4, sav + 4) else (sav + 4, sav + 4 + w.2)

/-- A packet's place: its offset, or the next free position up to the end of its space. -/
def ancSpot (used : List (Nat × Nat × Nat)) (stream len last : Nat) : Nat → Nat → Option Nat
  | _, 0 => none
  | off, n + 1 =>
    if last < off + len then none
    else if used.any fun u => u.1 == stream && u.2.1 < off + len && off < u.2.1 + u.2.2 then ancSpot used stream len last (off + 1) n
    else some off

/-- ANC packets placed on a line: where they lie, and how many found no place. -/
def ancPlace (space : Nat → Nat × Nat) : List Anc → List (Nat × Nat × Nat) → Nat → List (Nat × Nat × Nat) × Nat
  | [], used, lost => (used, lost)
  | a :: l, used, lost =>
    let z := space a.off
    match ancSpot used a.stream (ancSpan a) z.2 (max a.off z.1) (z.2 + 1) with
    | some off => ancPlace space l (used ++ [(a.stream, off, ancSpan a)]) lost
    | none => ancPlace space l used (lost + 1)

/-- The lines on which a payload ID goes out: 10, and in an interlaced picture 572 (PRESUMED: ST 352, log 160). -/
def payloadIdOn (fmt line : Nat) : Bool :=
  line == 10 || (line == 572 && (match format fmt with | some f => f.interlaced | none => false))

/-- Where a line's payload ID lies, first in its space: 11 words, in the first data stream, and from 3G on in both (PRESUMED: ST 352,
log 192). -/
def payloadIdSpots (fmt line : Nat) : List (Nat × Nat × Nat) :=
  if payloadIdOn fmt line then (0, 0, 11) :: (if 0x30 ≤ fmt then [(1, 0, 11)] else []) else []

/-! ### The receive hold (R239, R243) -/

/-- The flow is in use: whether it has two paths. -/
def State.flowDual (s : State) (f : FlowId) : Bool :=
  if f.cross then F.MX_AFLOW_DUAL.of (s.word 0x4828 f.idx 1) == 1 else F.MX_XPORT_DUAL.of (s.xport false f.idx 0) == 1

/-- The channels of an audio flow: of a port ACH × 4 (R239). -/
def State.flowChannels (s : State) (f : FlowId) : Nat :=
  if f.cross then F.MX_AFLOW_CHANNELS.of (s.word 0x4828 f.idx 1) else 4 * pAch (s.port false f.idx)

/-- The samples of `n` channels that audio packets bring: those of L16 with 8 zero bits below; channels beyond `n` are ignored, and missing
ones are zeros. -/
def flowSamples (n : Nat) (l16 : Bool) (periods : List (List Int)) : List (List Int) :=
  periods.map fun p => (List.range n).map fun c => p.getD c 0 * (if l16 then 256 else 1)

/-- What a released packet gives the rigging. -/
def State.giveBody (s : State) (f : FlowId) : RtpBody → State
  | .video _ _ => s
  | .anc l last =>
    let s := if f.cross then s else s.ancIn f.idx 1 false ((s.ancRun false f.idx).line == 0) l
    if last && !f.cross then s.setAncRun { s.ancRun false f.idx with line := 0 } else s
  | .audio l16 periods => { s with mx := { s.mx with audio := some (f, flowSamples (s.flowChannels f) l16 periods) } }

/-- The sequence numbers from `a` up to `b`; none where `b` lies before `a`. -/
def seqRun (a b : Nat) : List Nat :=
  let n := (b % 2 ^ 32 + 1 + 2 ^ 32 - a % 2 ^ 32) % 2 ^ 32
  if 2 ^ 31 ≤ n then [] else (List.range n).map fun i => (a + i) % 2 ^ 32

/-- ST2110_RELEASE: the packets up to `last` are due, at the latest of their release times. -/
def State.release (s : State) (f : FlowId) (last : Nat) : State :=
  match s.mx.flows.find? fun x => x.id == f with
  | none => s
  | some x =>
    let due := seqRun x.next last
    let held := due.filterMap fun n => x.got.reverse.find? fun y => y.seq == n
    let s := s.waitCount ((held.map (·.due)).foldl max 0)
    let on := fun (b : Bool) (n : Nat) => x.got.any fun y => y.pathB == b && y.seq == n
    let missA := due.countP fun n => !on false n
    let missB := if s.flowDual f then due.countP fun n => !on true n else 0
    let rows := if !f.cross && f.k == 0 then s.rowsTake x held else (none, 0)
    let s := s.setRxFlow { x with
      row := rows.1
      next := if due.isEmpty then x.next else (last + 1) % 2 ^ 32
      got := x.got.filter fun y => !due.contains y.seq }
    let s := held.foldl (fun s y => s.giveBody f y.body) s
    if f.cross then s
    else
      let e := statElem false f.idx
      let s := (s.bump F.MX_PORT_STAT_MISSA e missA).bump F.MX_PORT_STAT_MISSB e missB
      let s := s.bump F.MX_PORT_STAT_LOSTLINES e rows.2
      if f.k != 0 then s
      else
        let n := s.paths x
        let s := s.setNotify F.MX_PORT_STAT_PATHS e n
        if n = 0 ∧ s.link false f.idx = lkLOCKED then s.setLink false f.idx lkNOSIGNAL else s

def execSt2110Release (f : FlowId) (last : Nat) (s : State) : Host.Outcome State Fault Refusal := 
  done (s.whileRunning (·.release f last))

/-! ### SDI lines (R244–R246) -/

def State.sdiRun (s : State) (p : Nat) : SdiRun := (s.mx.sdi.find? fun x => x.p == p).getD ⟨p, 0, 0, 0⟩

def State.setSdiRun (s : State) (x : SdiRun) : State :=
  { s with mx := { s.mx with sdi := x :: s.mx.sdi.filter fun y => !(y.p == x.p) } }

/-- The SDI rate that a format has (R235), as `LK_STAT` codes it. -/
def sdiRate (fmt : Nat) : Nat :=
  (if fmt < 0x30 then 1 else if fmt < 0x40 then 3 else 7) + flag (fmt == 0x11 || fmt == 0x21 || fmt == 0x31 || fmt == 0x41)

def sdiRateOk (fmt rate : Nat) : Bool := rate == sdiRate fmt

/-- The picture rate code of ST 352 (PRESUMED, log 160). -/
def pidRate (f : Format) : Nat :=
  if f.num = 25 ∧ f.den = 1 then 5 else if f.num = 30000 then 6 else if f.num = 30 then 7
  else if f.num = 50 then 9 else if f.num = 60000 then 10 else 11

/-- The interface code of a format's payload ID: its raster and link (PRESUMED: ST 352, log 160). -/
def pidInterface (fmt : Nat) : Nat := if fmt < 0x20 then 0x84 else if fmt < 0x30 then 0x85 else if fmt < 0x40 then 0x89 else 0xCE

/-- The payload ID of a format on its interface: byte 1, the interface; byte 2, transport and picture scan and the picture rate; byte 3, the
sampling, 4:2:2 Y'CbCr; byte 4, the depth, 10 bits (R244; codes PRESUMED, log 160). -/
def payloadId (fmt : Nat) : Nat :=
  match format fmt with
  | some f => pidInterface fmt * 2 ^ 24 + ((if f.interlaced then 0 else 0xC0) + pidRate f) * 2 ^ 16 + 1
  | none => 0

/-- A payload ID agrees with a format in picture rate, scan, raster, sampling and depth. -/
def pidAgrees (fmt id : Nat) : Bool :=
  let w := payloadId fmt
  id / 2 ^ 24 % 256 == w / 2 ^ 24 % 256 && id / 2 ^ 16 % 16 == w / 2 ^ 16 % 16 && id / 2 ^ 22 % 4 == w / 2 ^ 22 % 4
    && id / 2 ^ 8 % 16 == w / 2 ^ 8 % 16 && id % 4 == w % 4

/-- A picture of an SDI source judged at its last line (R244, R235). -/
def State.sdiPicture (s : State) (p : Nat) (x : SdiRun) (rate : Nat) : State :=
  let req := F.MX_XPORT_PIDREQ.of (s.xport false p 0) == 1
  let bad := !sdiRateOk (pFormat (s.port false p)) rate
    || (if x.agree = 0 ∧ x.clash = 0 then req || x.off != 0 else x.agree == 0)
  let s := s.setSdiRun ⟨p, 0, 0, 0⟩
  if bad then s.portFormat p else s.setLink false p lkLOCKED

/-- SDI_RX_LINE. A line heard in SDI mode tells the lane's rate (R196); the engines take it only where they run (R31). -/
def State.sdiRx (s : State) (p : Nat) (x : SdiLine) : State :=
  let v := s.port false p
  let w := s.xport false p 0
  if !xportUsed s.sys.role v || xType w != xSDI || s.link false p == lkNOTRANSPORT || !s.enginesRun then s
  else
    let e := laneElem true (pDie v) (F.MX_XPORT_LANE.of w)
    let st := statElem false p
    let s := (s.setFld F.LK_STAT_SDIRATE e x.rate).setLane e laLOCKED
    let s := s.bump F.MX_PORT_STAT_LINECRC st (flag (!x.crcOk) + flag (!x.numOk) + x.audErr)
    let s := s.ancIn p x.line true (x.line ≤ (s.ancRun false p).line || (s.ancRun false p).line == 0)
      (x.anc.map fun a => { a with line := x.line })
    let r := s.sdiRun p
    let lines := (match format (pFormat v) with | some f => f.lines | none => 0)
    let r := { r with off := r.off + flag (x.samples != sdiSamples (pFormat v)) + flag (x.last && x.line != lines) }
    let s := match x.pid with
      | some i => (s.setFld F.MX_PORT_STAT_PID st (i % 2 ^ 32)).setSdiRun
          (if pidAgrees (pFormat v) i then { r with agree := r.agree + 1 } else { r with clash := r.clash + 1 })
      | none => s.setSdiRun r
    if x.last then s.sdiPicture p (s.sdiRun p) x.rate else s

def execSdiRxLine (p : Nat) (x : SdiLine) (s : State) : Host.Outcome State Fault Refusal := done (s.sdiRx p x)

/-- SDI_TX_LINE: ANC placed about the line's payload ID and audio packets, what finds no place dropped. Where the mode sends no essence the
output is static low (R31). -/
def State.sdiTx (s : State) (p line : Nat) (audio : List (Nat × Nat × Nat)) (anc : List Anc) (gap : Bool) : State :=
  let v := s.port true p
  let w := s.xport true p 0
  if !xportUsed s.sys.role v || xType w != xSDI || s.link true p == lkNOTRANSPORT || !s.essenceOut then s
  else
    let last := (s.ancRun true p).line
    let run := s.ancBegin true p line (F.MX_XPORT_RECIPE.of w) (line ≤ last || last == 0)
    let fmt := pFormat v
    let r := ancPlace (ancSpace fmt line) (anc.filter fun a => rulesPass run.rules a) (payloadIdSpots fmt line ++ audio) 0
    let s := { s with mx := { s.mx with placed := r.1 } }
    let s := (s.setAncRun run).bump F.MX_PORT_STAT_ANCDROP (statElem true p) r.2
    if gap then s.bump F.MX_PORT_STAT_LOSTLINES (statElem true p) 1 else s

def execSdiTxLine (p line : Nat) (audio : List (Nat × Nat × Nat)) (anc : List Anc) (gap : Bool) (s : State) :
    Host.Outcome State Fault Refusal :=
  done (s.sdiTx p line audio anc gap)

end Sys2Proof.Machine
end

