-- ==== Sys2Proof/Machine/Settings.lean ====
section
/-! DEFINITION. The settings store (R347, R348). -/
namespace Sys2Proof.Machine

/-! ### What is saved -/

/-- A word that a generation holds under its register name: a SAVED word kept in the live registers. -/
def savedLive (k : Key) : Bool := wordPersist k == .saved && !savedInShadow k.ix k.w

/-- A SAVED word kept in the shadow. -/
def savedShadow (k : Key) : Bool := wordPersist k == .saved && savedInShadow k.ix k.w

/-- An element that a reservation holds (R125). -/
def State.isReserved (s : State) (e : Nat) : Bool := s.au.reserved.any fun x => x.2.contains e

/-- A SAVED word goes into a generation: the targets that the part sets on reserved elements do not (R125, R347). -/
def State.isSaved (s : State) (k : Key) : Bool := savedLive k && !(k.ix == 0x3020 && s.isReserved k.e)

/-- Every SAVED value as it stands; of port tables that failed LOAD's checks, as they were restored (R478). -/
def State.savedTable (s : State) : Table :=
  let regs := if s.save.kept.isEmpty then s.regs else takeOver swapped s.regs s.save.kept
  tmerge dflt (regs.filter fun x => s.isSaved x.1) (s.shadow.filter fun x => savedShadow x.1)

/-- SAVED values put back in their places. -/
def State.installSaved (s : State) (t : Table) : State :=
  { s with
    save := { s.save with kept := [] }
    regs := tmerge dflt (s.regs.filter fun x => !savedLive x.1) (t.filter fun x => savedLive x.1)
    shadow := tmerge dflt (s.shadow.filter fun x => !savedShadow x.1) (t.filter fun x => savedShadow x.1) }

/-! ### The two copies -/

/-- A whole image of every SAVED value as the next generation; in TRIAL, of the values before it (R428, R429). -/
def State.nextImage (s : State) : SavedImage :=
  let table := match s.fw.held with | some t => t | none => s.savedTable
  let schema := if s.fw.held.isSome then s.fw.oldSchema else s.fld F.FW_STATE_SCHEMA 0
  ⟨(match s.newest with | some x => x.2.gen | none => 0) + 1, schema, table, s.clk.epoch, s.clk.pseq, s.ic.retained, s.mm.retired⟩

/-- `SY_SAVE` shows the newest good copy. -/
def State.showSave (s : State) : State :=
  match s.newest with
  | some x => (s.setFld F.SY_SAVE_GEN 0 x.2.gen).setFld F.SY_SAVE_COPY 0 x.1
  | none => (s.setFld F.SY_SAVE_GEN 0 0).setFld F.SY_SAVE_COPY 0 0

/-- A generation starts. -/
def State.startGen (s : State) : State :=
  let img := s.nextImage
  (s.setFld F.SY_SAVE_WRITING 0 1).withSave fun x => { x with timer := none, writing := some img, again := false }

/-- The copy that the next generation is written into. -/
def State.oldCopy (s : State) : Nat := match s.newest with | some x => 1 - x.1 | none => 0

/-- SETTINGS_TIMER: the 2 s timer ends; a generation being written is ended first. -/
def State.settingsTimer (s : State) : State :=
  match s.save.timer with
  | none => s
  | some t => if s.save.writing.isSome then s else (s.waitUntil t).startGen

def execSettingsTimer (s : State) : Host.Outcome State Fault Refusal := done s.settingsTimer

/-- SETTINGS_WRITE_DONE: a copy that passes its read-back is the newest; one that does not is no good copy, and its changes wait
for another. -/
def State.writeDone (s : State) (good : Bool) : State :=
  match s.save.writing with
  | none => s
  | some img =>
    let c := s.oldCopy
    let again := s.save.again
    let s := s.setFld F.SY_SAVE_WRITING 0 0
    let s := s.withSave fun x => { x with writing := none, again := false, copies := x.copies.set c (if good then some img else none) }
    let s := if good then (s.withSave fun x => { x with lastGen := s.now }).showSave else s
    if again || !good then
      let t := s.now + secs 2
      s.withSave fun x => { x with timer := some (x.timer.getD t) }
    else if s.fw.held.isSome then s
    else s.setFld F.SY_SAVE_DIRTY 0 0

def execSettingsWriteDone (good : Bool) (s : State) : Host.Outcome State Fault Refusal := done (s.writeDone good)

/-! ### `SY_SAVE.03` (R348) -/

/-- A write of `SY_SAVE.03`. -/
def putSave (v : W) : HostWrite × (State → Status × State) :=
  (⟨⟨0x1028, 3, 0⟩, [(0, v)], 0, v == 1 || v == 2 || v == 3⟩, fun s =>
    if v = 1 then
      if s.save.writing.isSome then (.busy, s)
      else (.ok, s.startGen)
    else (.ok, s.setFld F.SY_SAVE_DEFAULTS 0 (flag (v == 2))))

def execSettingsFlush (rq : Req) (s : State) : Host.Outcome State Fault Refusal :=
  let x := putSave 1
  done (s.request rq x.1 x.2)

def execSettingsDefaults (rq : Req) (s : State) : Host.Outcome State Fault Refusal :=
  let x := putSave 2
  done (s.request rq x.1 x.2)

def execSettingsKeep (rq : Req) (s : State) : Host.Outcome State Fault Refusal :=
  let x := putSave 3
  done (s.request rq x.1 x.2)

/-! ### `SY_ROLE` (R346) -/

/-- A write of `SY_ROLE`. -/
def putRole (v : W) : HostWrite × (State → Status × State) :=
  (⟨⟨0x1018, 0, 0⟩, [(0, v)], 0, v == 1 || v == 2 || v == 3⟩, fun s =>
    if s.mode != SAFE then (.mode, s)
    else if !s.caps.accepts v.toNat then (.absent, s)
    else (.ok, s.putWord 0x1018 0 0 v))

def execSyRoleWrite (rq : Req) (v : W) (s : State) : Host.Outcome State Fault Refusal :=
  let x := putRole v
  done (s.request rq x.1 x.2)

/-! ### Restoring (R347, R348) -/

/-- What DEFAULTS leaves as it is: `CT_CONTEXT`, `CT_NODE`, `CT_BUS`, the learned values of `TM_HOLDOVER`, `TM_HO_CURVE`. -/
def keptByDefaults (k : Key) : Bool :=
  k.ix == 0x6018 || k.ix == 0x6008 || k.ix == 0x6020 || (k.ix == 0x5040 && (k.w == 3 || k.w == 4)) || k.ix == 0x5048

/-- The newest good copy's values; with neither copy good, defaults (R347). -/
def State.storedTable (s : State) : Table :=
  match s.newest with
  | some x => x.2.table
  | none => [(⟨0x1018, 0, 0⟩, BitVec.ofNat 64 s.caps.defaultRole)]

/-- What LOAD restores (R347): the newest good copy, with the role last accepted (R346); in TRIAL what was imported, with the changes held
(R428, R429). -/
def State.restorable (s : State) : Table :=
  if s.fw.held.isSome then s.savedTable
  else tmerge dflt [(⟨0x1018, 0, 0⟩, s.word 0x1018 0 0)] (s.storedTable.filter fun x => x.1.ix != 0x1018)

/-- LOAD restores the SAVED values; with DEFAULTS pending, their defaults. -/
def State.restoreSaved (s : State) : State :=
  let t := s.restorable
  let d := s.fld F.SY_SAVE_DEFAULTS 0 == 1
  let role : Table := [(⟨0x1018, 0, 0⟩, BitVec.ofNat 64 s.caps.defaultRole)]
  let s := s.installSaved (if d then tmerge dflt role (t.filter fun x => keptByDefaults x.1) else t)
  let s := if d then (s.setFld F.SY_SAVE_DEFAULTS 0 0).markDirty else s
  if s.newest.isNone then s.note 0x1004 2 0 0 else s

/-- The settings that stand after a package reset: those of the newest good copy, a write that it cut short lost (R347). -/
def State.bootSettings (s : State) : State :=
  let c := s.oldCopy
  let s := if s.save.writing.isSome then s.withSave fun x => { x with copies := x.copies.set c none } else s
  let s := s.withSave fun x => { x with timer := none, writing := none, again := false, lastGen := s.now }
  let img := s.newest
  let s := s.installSaved s.storedTable
  let s := match img with
    | some x => { s with ic := { s.ic with retained := x.2.retained }, mm := { s.mm with retired := x.2.retired } }
    | none =>
      { s with ic := { s.ic with retained := [] }, mm := { s.mm with retired := [] }, pw := { s.pw with history := [] } }
  s.showSave

end Sys2Proof.Machine
end

