-- ==== Sys2Proof/Machine/Twin.lean ====
section
/-! DEFINITION. Twin operation (chapter 11): the sheet, decisions of the twin, an edge's arbiter, self-test, health reports and the
re-mirror. -/
namespace Sys2Proof.Machine

/-! ### `TW_CONFIG` (R282) -/

/-- A write of `TW_CONFIG`: in SAFE and LOAD only. -/
def putTwConfig (v : W) : HostWrite × (State → Status × State) :=
  (⟨⟨0x5808, 0, 0⟩, [(0, v)], 0, F.TW_CONFIG_RESERVED.of v == 0⟩, fun s => s.configOnly fun s =>
    let s := s.putWord 0x5808 0 0 v
    (.ok, s.setSync (if s.paired then syncSEEKING else syncSOLO)))

/-! ### The sheet (R204, R285–R292, R302) -/

/-- The twin link's lane at a position, receive or transmit (R282). -/
def State.twinLane (s : State) (rx : Bool) (p : Nat) : Nat :=
  s.fld F.TW_CONFIG_LDIE 0 * 160 + (if rx then 0 else 80) + s.fld F.TW_CONFIG_LSHROUD 0 * 10 + p

/-- The data lanes of the twin link in use: ISARSAL and awake. -/
def State.twinLanes (s : State) (rx : Bool) : List Nat :=
  ((List.range 8).map fun p => s.twinLane rx p).filter fun e => s.isIsarsal e && s.laneSleep e == 0

/-- The twin link is LOCKED in both directions (R289, R292). -/
def State.twinLinkUp (s : State) : Bool :=
  s.paired && !(s.twinLanes true).isEmpty && (s.twinLanes true).all (fun e => s.lane e == laLOCKED)
    && (s.twinLanes false).all (fun e => s.sending e)

/-- The claim last received from the twin; 0 while it is silent (R290, R292). -/
def State.twinClaimNow (s : State) : Nat :=
  if s.tw.silent then 0
  else match (s.twinLanes true).findSome? fun e => (s.laneRun e).last with
    | some h => hdrClaim h
    | none => s.fld F.TW_STATE_TWINCLAIM 0

/-- The running bundle's identity: RUNID of `FW_STATE` (R430). -/
def State.runningIdent (s : State) : BitVec 512 :=
  (List.range 8).foldl (fun (a : BitVec 512) w => (a <<< 64) ||| (s.word 0x8008 0 (4 + w)).setWidth 512) 0

/-- In TRIAL, a twin known to run another bundle (R427). -/
def State.otherBundle (s : State) : Bool :=
  s.inTrial && match s.tw.ident with | some i => i != s.runningIdent | none => false

/-- SYNC as the link now stands (R289). -/
def State.followLink (s : State) (up : Bool) (twin : Nat) : State :=
  let n := s.sync
  if !s.paired then s.setSync syncSOLO
  else if n = syncSOLO then s.setSync syncSEEKING
  else if !up then
    if n = syncLOCKSTEP then s.setSync (if s.tw.silent then syncSEEKING else syncDIVERGED)
    else if n = syncMIRRORING then s.setSync syncSEEKING
    else s
  else if (n = syncSEEKING ∨ n = syncDIVERGED) ∧ (twin / 4096 = 2 ∨ twin / 4096 = 4 ∨ twin / 4096 = 0xC) ∧ s.otherBundle = false then
    ({ s with tw := { s.tw with asked := false, installed := false, full := false } }).setSync syncMIRRORING
  else s

/-- Claims that the live sheets of edges and gateways reflect: on the locked receive data lanes beyond the twin link (R290). -/
def State.edgeClaims (s : State) : List Nat :=
  s.lk.lanes.filterMap fun x =>
    if laneRx x.e && isDataLane x.e && s.lane x.e == laLOCKED && s.isIsarsal x.e && !s.inTwinShroud (laneDie x.e) (laneNo x.e) then
      match x.last with
      | some h => if hdrType h == tyLIVE && hdrClaim h != 0 then some (hdrClaim h) else none
      | none => none
    else none

/-- The deciding twin determined from the edges' reflected claims (R290). -/
def State.decideTwin (s : State) : State :=
  let own := s.ownClaim
  let twin := s.fld F.TW_STATE_TWINCLAIM 0
  let l := s.edgeClaims
  let a := if own = 0 then 0 else l.count own
  let b := if twin = 0 then 0 else l.count twin
  let s := s.setFld F.TW_STATE_EDGECLAIM 0 (mostClaimed l)
  let s := (s.setFld F.TW_STATE_EDGEOWN 0 (min 65535 a)).setFld F.TW_STATE_EDGETWIN 0 (min 65535 b)
  s.setNotify F.TW_STATE_DECIDING 0 (flag (b < a || (a == b && claimAbove own twin)))

/-- The digests of a sheet compared (R289, R304). -/
def State.compareDigests (s : State) (d : Option Bool) : State :=
  let on := s.sync == syncLOCKSTEP || (s.sync == syncMIRRORING && s.tw.full)
  match d with
  | none => s
  | some differ =>
    if !on then s
    else if differ then
      let s := ({ s with tw := { s.tw with equal := 0, differ := s.tw.differ + 1 } }).bump F.TW_STATE_DIGESTERR 0 1
      if 16 ≤ s.tw.differ then s.setSync syncDIVERGED else s
    else
      let s := { s with tw := { s.tw with equal := s.tw.equal + 1, differ := 0 } }
      if s.sync = syncMIRRORING ∧ 256 ≤ s.tw.equal then s.setSync syncLOCKSTEP else s

/-- The twin with the lower claim trims its sheets by the arrival offset measured at the other (R204): d2 is twice *d*, in 1/16 block. -/
def State.trimSheet (s : State) (off : Option Int) : State :=
  match off with
  | none => s
  | some a =>
    if s.fld F.TW_STATE_LINK 0 = 1 ∧ claimAbove (s.fld F.TW_STATE_TWINCLAIM 0) s.ownClaim = true then
      let d2 := a - signed 16 (s.fld F.LK_STAT_ARRIVAL (s.twinLane true 0))
      if d2.natAbs ≤ 16 then s else s.setFld F.LK_SHEET_TRIM 0 (unsigned 32 (s.trim - d2.sign))
    else s

/-- Slots that no port owns of the transmit lanes in service. -/
def State.unownedSlots (s : State) : Nat :=
  ((List.range (s.dies * 64)).map fun k =>
    if s.sending (laneElem false (k / 64) (k % 64)) && s.isIsarsal (laneElem false (k / 64) (k % 64))
        && !s.inTwinShroud (k / 64) (k % 64) then
      (List.range 24).countP fun sl => (s.slotOwner false (k / 64) (k % 64) sl).isNone
    else 0).sum

/-- Slots under self-test in a sheet, of eight words each, and those of them that failed (R302). -/
def State.testSlots (s : State) (fails : List Nat) : State :=
  if s.selfTests && s.fld F.TW_CONFIG_STSLOT 0 == 1 then
    let s := { s with tw := { s.tw with stWords := satAdd (2 ^ 64 - 1) s.tw.stWords (8 * s.unownedSlots) } }
    fails.foldl (fun (s : State) k =>
      if k < s.dies * 1536 && (s.slotOwner false (k / 1536) (k / 24 % 64) (k % 24)).isNone then s.selfTestFailed 0 k else s) s
  else s

/-- Both twins ACTIVE: one record (R306). -/
def State.noteDual (s : State) : State :=
  let a := s.ownClaim
  let b := s.fld F.TW_STATE_TWINCLAIM 0
  let both := a / 4096 == 0xC && b / 4096 == 0xC
  if both == s.tw.dual then s
  else
    let s := { s with tw := { s.tw with dual := both } }
    if both then s.note 0x5803 a b 0 else s

/-- What a CORE's twin operation does at a sheet. -/
def State.twinSheet (s : State) (x : SheetIn) : State :=
  if s.sys.role != CORE then s
  else
    let up := s.twinLinkUp && !s.tw.silent
    let twin := if s.paired then s.twinClaimNow else 0
    let s := (s.setFld F.TW_STATE_LINK 0 (flag up)).setFld F.TW_STATE_TWINCLAIM 0 twin
    let s := (s.followLink up twin).decideTwin
    let s := if s.paired then ((s.compareDigests x.digest).trimSheet x.offTwin).noteDual else s
    s.testSlots x.stFail

/-- SHEET_START: the next sheet's instant comes (R204); a sheet already sent is not sent again after a trim that puts the instants later.
Engines that hand their work over have done so at the boundary (R363). -/
def State.sheetStart (s : State) (x : SheetIn) : State :=
  let k := s.sheetNow
  let n := if s.lk.sheet < k ∧ s.house = s.sheetInstant k then k else if s.lk.sheet = k + 1 then k + 2 else k + 1
  let s := s.waitHouse (s.sheetInstant n)
  let s := { s with lk := { s.lk with sheet := n } }
  ((((s.spareSheet n).checkPatterns x.prbs).lateTiles x.late).twinSheet x).refreshClaim.endMoves

def execSheetStart (inp : SheetIn) (s : State) : Host.Outcome State Fault Refusal := done (s.sheetStart inp)

/-- TWIN_SILENT_SHEETS: no live sheet of the twin for 16 sheets. -/
def State.twinSilent (s : State) : State :=
  if !s.paired then s
  else
    let s := { s with tw := { s.tw with silent := true } }
    (((s.setFld F.TW_STATE_LINK 0 0).setFld F.TW_STATE_TWINCLAIM 0 0).setSync syncSEEKING).decideTwin

def execTwinSilentSheets (s : State) : Host.Outcome State Fault Refusal := done s.twinSilent

/-! ### Decisions (R93, R283, R291) -/

/-- A decided work as a twin that does not decide places it: on its decided line, or at the next that it can still meet, LATE. -/
def State.placeAs (s : State) (x : Work) : Work :=
  match format x.fmt with
  | some f => if f.inTime x.field x.land s.house then x else { x with land := f.firstMet x.field s.house, late := true }
  | none => x

/-- The accord images of a head commit that arrives are made here too (R191). -/
def State.mirrorImages (s : State) (x : Work) : State :=
  if x.kind = .head ∧ s.workOn .head x.elem = none ∧ x.state < 16 then
    let imgs := s.commitImages (s.workNeeds .head x.elem x.w0) x.elem x.w0
    ({ s with cm := { s.cm with accord := s.cm.accord ++ imgs } }).setFld F.CM_HEAD_FLAT x.elem (if imgs.isEmpty then 0 else 1)
  else s

/-- A salvo's state as the deciding twin has it: `due` carries RESULT, `land` CULPRIT. -/
def State.mirrorSalvo (s : State) (x : Work) : State :=
  let n := x.elem
  let s := s.storeCommit .salvo n x.w0 x.w1
  if x.state = saFAILED then
    ((s.members n).foldl (fun (s : State) y => s.fail y tsSALVO) s).endSalvo n saFAILED x.due x.land
  else if x.state = saDONE then s.endSalvo n saDONE x.due x.land
  else ((s.setSalvo { s.salvo n with order := x.order }).setFld F.XP_SALVO_STATE n x.state).notify 0x2020 n

/-- The acceptance order of the deciding twin: this part's own go on behind it, so that after a claim change what it accepts comes later
(R76). -/
def State.orderPast (s : State) (n : Nat) : State := { s with xp := { s.xp with order := max s.xp.order (n + 1) } }

/-- The member of an armed salvo that stands on an element. -/
def State.armedMember (s : State) (k : MemberKind) (e : Nat) : Bool :=
  match s.workOn k e with | some y => y.salvo != 0 && s.salvoState y.salvo == saARMED | none => false

/-- A decided take, audio change, head commit or salvo carried out (R291). -/
def State.mirrorWork (s : State) (x : Work) : State :=
  let s := s.orderPast x.order
  if x.kind = .salvo then s.mirrorSalvo x
  else
    let member := s.armedMember x.kind x.elem
    let s := (s.mirrorImages x).storeCommit x.kind x.elem x.w0 x.w1
    if 16 ≤ x.state then
      let s := s.finish x x.state x.due
      if member then s.memberEnded x.salvo false (some (x.state, x.culprit)) else s
    else if x.state = tsSTAGED then
      if (s.workOn x.kind x.elem).isSome then s else s.acceptStaged x
    else if x.state = tsHELD then (s.putWork x).setOutcome x tsHELD x.due
    else
      let y := s.placeAs x
      let s := match format y.fmt with | some f => if y.salvo = 0 then s.supersede y s.xp.order f else s | none => s
      (s.putWork { y with state := tsPENDING }).setOutcome y tsPENDING y.due

/-- A commit, a CANCEL, an ARM or a DISCARD that the other twin has sent on (R93). -/
def State.forwarded (s : State) (k : MemberKind) (e : Nat) (w0 w1 : W) (ctx : Nat) : State :=
  match k with
  | .take => (if F.XP_TAKE_OP.of w0 = 2 then s.cancelWork .take e ctx else s.takeCommit ctx e w0 w1).2
  | .audio =>
    if F.AU_DST_OP.of w0 = 0 then s.auDstAccept e w1 none
    else (if F.AU_DST_OP.of w0 = 2 then s.cancelWork .audio e ctx else s.audioCommit ctx e w0).2
  | .head => (if F.CM_HEAD_OP.of w0 = 2 then s.cancelWork .head e ctx else s.headCommit ctx e w0).2
  | .salvo => (if F.XP_SALVO_OP.of w0 = 2 then s.salvoDiscard ctx e else s.salvoArm ctx e w0 w1).2

/-- A work withdrawn by the deciding twin. -/
def State.mirrorCancel (s : State) (k : MemberKind) (e : Nat) : State :=
  match s.workOn k e with
  | some x => (if x.state = tsSTAGED then s.unstage x.salvo else s).fail x tsCANCELLED
  | none => s

/-- A copy that comes over the control bus: of takes and salvos only, for a twin off the link (R283, R291). -/
def busBody : DecBody → Bool
  | .work x => x.kind == .take || x.kind == .salvo
  | .cancel k _ => k == .take || k == .salvo
  | .discard _ => true
  | .report _ => true
  | _ => false

/-- A decision reaches this part: over the link while it is mirrored, over the bus while it is not. -/
def State.hearsDecision (s : State) (d : Decision) : Bool :=
  s.paired && s.admits &&
    if d.bus then (s.sync == syncDIVERGED || s.sync == syncSEEKING) && busBody d.body
    else s.fld F.TW_STATE_LINK 0 == 1 && s.sync != syncDIVERGED

/-- The twin's report (R303). -/
def State.heardReport (s : State) (ws : List W) : State :=
  let s := ((ws.take 4).zipIdx).foldl (fun (s : State) x => s.setWord 0x5830 1 x.2 x.1) s
  ({ s with tw := { s.tw with reportAt := some s.now, silentNoted := false } }).notify 0x5830 1

/-- Picture decisions are this part's own while it refills its stores (R304). -/
def State.refilling (s : State) : Bool := s.sync == syncMIRRORING && !s.tw.full

/-- What the deciding twin has told of a layer (R191). -/
def State.tell (s : State) (e : Nat) (fb : Bool) : State :=
  { s with cm := { s.cm with told := (e, fb) :: s.cm.told.filter fun y => !(y.1 == e) } }

/-- Word 1 and the descriptors that travel with a head's decision (R191). -/
def State.takeHeadWords (s : State) (h : Nat) (w1 : W) (l : List (Nat × List W)) : State :=
  let s := s.putShadow 0x3810 h 1 w1
  (l.filter fun x => x.1 < 8).foldl (fun (s : State) x =>
    (x.2.take 3).zipIdx.foldl (fun (s : State) y => s.putShadow 0x3820 (h * 8 + x.1) y.2 y.1) s) s

/-- The commit whose decision is acknowledged, or is not in time, is answered (R291). -/
def State.answerAck (s : State) (n : Nat) : State :=
  let l := s.tw.acks.filter fun x => x.1 == n
  let s := l.foldl (fun (s : State) x => s.fwdAnswer x.2.1 x.2.2) s
  { s with tw := { s.tw with acks := s.tw.acks.filter fun x => x.1 != n } }

/-- A decision of the twin carried out. -/
def State.carryOut (s : State) (b : DecBody) : State :=
  match b with
  | .forward k e w0 w1 ctx => s.forwarded k e w0 w1 ctx.val
  | .work x => s.mirrorWork x
  | .cancel k e => s.mirrorCancel k e
  | .discard n => s.failSalvo n tsCANCELLED (fun _ => none) tsCANCELLED
  | .fsync p act => if s.refilling then s else s.fsyncDecided p act
  | .slip p rep => if s.refilling then s else s.slipNow p rep
  | .reserve p l =>
    let s := s.releaseAudio p
    if l.isEmpty then s
    else
      let s := l.zipIdx.foldl (fun (s : State) x => s.takeElement p x.2 x.1) s
      { s with au := { s.au with reserved := (p, l) :: s.au.reserved } }
  | .gain e v n => s.gainAccept e v (if s.decides then none else some n)
  | .delay e w1 n => s.auDstAccept e w1 (if s.decides then none else some n)
  | .asrc e st r ph => if s.fld F.AU_ASRC_KIND e = 2 then (s.asrcMirror e st r).setPhase e ph else s
  | .asrcStop e => if s.fld F.AU_ASRC_KIND e = 2 then s.asrcUnlocked e else s
  | .headRepeat h n => s.tell (h * 8 + n) false
  | .headFallback h n => s.tell (h * 8 + n) true
  | .headWords h w1 l => s.takeHeadWords h w1 l
  | .flatReady h => ({ s with cm := { s.cm with twinReady := h :: s.cm.twinReady.filter (· != h) } }).releaseAll
  | .hold k o => { s with tw := { s.tw with held := (k, o) :: s.tw.held.filter (· != (k, o)) } }
  | .release k o => { s with tw := { s.tw with held := s.tw.held.filter (· != (k, o)) } }
  | .report ws => s.heardReport ws
  | .response a st => s.fwdAnswer a st
  | .ack n => ({ s with tw := { s.tw with unacked := s.tw.unacked.filter fun x => x.1 != n } }).answerAck n

/-- What the deciding twin takes from the other. -/
def forDecider : DecBody → Bool
  | .forward .. => true
  | .gain .. => true
  | .delay .. => true
  | .flatReady _ => true
  | .hold .. => true
  | .release .. => true
  | .report _ => true
  | .ack _ => true
  | _ => false

/-- What the twin that does not decide takes from the deciding one. -/
def forMirror : DecBody → Bool
  | .forward .. => false
  | .flatReady _ => false
  | .ack _ => false
  | _ => true

/-- TWIN_DECISION_RECEIVED. A report comes over either path in every mode (R303). -/
def State.twinDecision (s : State) (d : Decision) : State :=
  match d.body with
  | .report ws => if s.paired then s.heardReport ws else s
  | b => if s.hearsDecision d && (if s.decides then forDecider b else forMirror b) then s.carryOut b else s

def execTwinDecisionReceived (d : Decision) (s : State) : Host.Outcome State Fault Refusal := done (s.twinDecision d)

/-- DECISION_ACK_TIMEOUT: 12 µs after it was sent, the decision has no acknowledgement. -/
def State.ackTimeout (s : State) (n : Nat) : State :=
  match s.tw.unacked.find? fun x => x.1 == n with
  | none => s
  | some x =>
    let s := s.waitUntil (x.2 + us 12)
    let s := { s with tw := { s.tw with unacked := s.tw.unacked.filter fun y => y.1 != n } }
    (if s.sync = syncLOCKSTEP then s.setSync syncDIVERGED else s).answerAck n

def execDecisionAckTimeout (seq : Nat) (s : State) : Host.Outcome State Fault Refusal := done (s.ackTimeout seq)

/-! ### Pairs at an edge (R293–R300) -/

/-- A valid pair of the direction names the lane on either side. -/
def State.pairNames (s : State) (e : Nat) (q : Nat × Nat) : Bool :=
  (entriesOf s.regs 0x5810).any fun x =>
    x.1 != e && x.1 % 128 / 64 == e % 128 / 64 && F.TW_PAIR_VALID.of x.2 == 1
      && ((F.TW_PAIR_BDIE.of x.2, F.TW_PAIR_BLANE.of x.2) == q || (x.1 / 128, x.1 % 64) == q)

/-- A live or shadow port entry names the lane of a pair. -/
def State.pairInUse (s : State) (e : Nat) : Bool :=
  [false, true].any fun dst => s.tableRx dst == (e % 128 < 64)
    && (validPorts s.regs dst ++ validPorts s.shadow dst).any fun x => !pLocal x.2 && pDie x.2 == e / 128 && pLane x.2 == e % 64

def State.setPairRun (s : State) (x : PairRun) : State :=
  { s with tw := { s.tw with pairs := x :: s.tw.pairs.filter fun y => !(y.e == x.e) } }

def State.pairRun (s : State) (e : Nat) : PairRun := (s.tw.pairs.find? fun x => x.e == e).getD ⟨e, 0, [], 0⟩

/-- A pair's receive side starts with nothing selected. -/
def State.restartPair (s : State) (e : Nat) : State :=
  let s := { s with tw := { s.tw with pairs := s.tw.pairs.filter fun y => !(y.e == e) } }
  ((s.setNotify F.TW_PAIR_STAT_SEL e 0).setNotify F.TW_PAIR_STAT_ALIGN e 3)

/-- A write of `TW_PAIR` (R293). A pair not in use names no lane: with VALID 0 the lane is not judged, so that an element can be cleared (DEDUCED,
log 198). -/
def putPair (e : Nat) (v : W) (s : State) : HostWrite × (State → Status × State) :=
  let q := (F.TW_PAIR_BDIE.of v, F.TW_PAIR_BLANE.of v)
  (⟨⟨0x5810, 0, e⟩, [(0, v)], 0, v.toNat < 2 ^ 32 && F.TW_PAIR_RESERVED.of v == 0 && q.1 < s.dies
      && !(F.TW_PAIR_VALID.of v == 1 && q == (e / 128, e % 64))⟩, fun s =>
    let edge := s.sys.role != CORE
    if edge && F.TW_PAIR_VALID.of v == 1 && s.pairNames e q then (.target, s)
    else if edge && s.pairInUse e then (.busy, s)
    else
      let s := s.putWord 0x5810 e 0 v
      (.ok, if edge && e % 128 < 64 then (s.restartPair (e / 128 * 64 + e % 64)).refreshClaim else s))

def execTwPairWrite (rq : Req) (e : Nat) (v : W) (s : State) : Host.Outcome State Fault Refusal :=
  let x := putPair e v s
  done (s.request rq x.1 x.2)

/-- A lane brings sheets (R295): LOCKED and not MISWIRED, or a spare stands for it that is. -/
def State.laneServes (s : State) (x : Nat × Nat) : Bool :=
  let e := laneElem true x.1 x.2
  let se := spareElem (shroudElem e 8)
  let covered := match s.spareRun se with
    | some y => s.spare se == spSELECTED && y.pos == x.2 % 8 && s.lane (shroudElem e 8) == laLOCKED
    | none => false
  (s.lane e == laLOCKED && !s.isOut .lane x.1 e) || covered

/-- A copy of the sheet is eligible (R295). -/
def State.eligible (s : State) (x : Nat × Nat) (c : Option PairCopy) : Bool :=
  match c with
  | some c => s.laneServes x && hdrOk c.header && hdrType c.header == tyLIVE && hdrClaim c.header != 0
  | none => false

def copyClaim (c : Option PairCopy) : Nat := match c with | some c => hdrClaim c.header | none => 0
def copyArrival (c : Option PairCopy) : Int := match c with | some c => c.arrival | none => 0

/-- The copy selected of the eligible ones (R295): 0 none, 1 twin A's, 2 twin B's. -/
def selectCopy (okA okB : Bool) (a b : Option PairCopy) : Nat :=
  if okA then (if okB && claimAbove (copyClaim b) (copyClaim a) then 2 else 1) else if okB then 2 else 0

/-- An arrival lies within the deskew window of C (R294): six blocks either way. -/
def inDeskew (c : Int) (arrival : Int) : Bool := (arrival - c).natAbs ≤ 96

/-- DATA-CRC slots of a twin counted (R296): in the pair, on the twin's lane and towards LANE-ERRORS. -/
def State.pairCrc (s : State) (e k n twin : Nat) : State :=
  let s := s.bump (if twin = 1 then F.TW_PAIR_STAT_DCRCA else F.TW_PAIR_STAT_DCRCB) e n
  let s := s.bump F.ES_RX_COUNTS_DATA_CRC k n
  let m := ((s.lk.crcSec.find? fun x => x.1 == k).map (·.2)).getD 0
  { s with lk := { s.lk with crcSec := (k, m + n) :: s.lk.crcSec.filter fun x => !(x.1 == k) } }

/-- How a slot is resolved (R296): CHECK-FIELD on the selected or the other twin, DATA-CRC on either, taken from the other copy, a
`TW_CMP` mismatch. -/
structure Resolved where
  chkSel : Bool
  chkOth : Bool
  crcSel : Bool
  crcOth : Bool
  subst  : Bool
  cmp    : Bool
deriving DecidableEq, Repr

def resolveSlot (sel : Nat) (both : Bool) (x : PairSlot) : Resolved :=
  let p := if sel = 1 then x.passA else x.passB
  let q := if sel = 1 then x.passB else x.passA
  if !both then ⟨false, false, !p, false, false, false⟩
  else match p, q with
    | true, true => ⟨false, false, false, false, false, !x.sameCrc⟩
    | false, true => ⟨x.sameWords, false, !x.sameWords, false, !x.sameWords, false⟩
    | true, false => ⟨false, x.sameWords, false, !x.sameWords, false, false⟩
    | false, false => ⟨false, false, true, true, false, false⟩

/-- The slots of a sheet counted. -/
def State.countSlots (s : State) (e sel ka kb : Nat) (l : List (Resolved × Nat)) : State :=
  let n := fun (p : Resolved → Bool) => l.countP fun x => p x.1
  let oth := 3 - sel
  let k := fun (t : Nat) => if t = 1 then ka else kb
  let chk := fun (t : Nat) => if t = 1 then F.TW_PAIR_STAT_CHKA else F.TW_PAIR_STAT_CHKB
  let s := (s.bump (chk sel) e (n (·.chkSel))).bump (chk oth) e (n (·.chkOth))
  let s := if n (·.crcSel) = 0 then s else s.pairCrc e (k sel) (n (·.crcSel)) sel
  let s := if n (·.crcOth) = 0 then s else s.pairCrc e (k oth) (n (·.crcOth)) oth
  let s := s.bump F.TW_PAIR_STAT_SUBST e (n (·.subst))
  (l.filter fun x => x.1.cmp).foldl (fun (s : State) x => s.bump F.TW_CMP_COUNT (e * 24 + x.2) 1) s

/-- C for a sheet (R294): the selected copy's arrival where none was selected before, else at most 1/16 block towards it. -/
def holdPoint (last : Nat) (c arrival : Int) : Int := if last = 0 then arrival else c + (arrival - c).sign

/-- The ports that a receive pair carries, with their entries. -/
def State.pairPorts (s : State) (e : Nat) : List (Nat × W) :=
  (validPorts s.regs s.rxTable).filter fun x => !pLocal x.2 && pDie x.2 == e / 64 && pLane x.2 == e % 64

/-- A port's stream starts again in the new copy with the hunt of R50 (R298). -/
def State.restartStream (s : State) (k p : Nat) : State :=
  (s.setRxStream { s.rxStream p with hunt := true, skip := 0 }).bump F.ES_RX_COUNTS_HUNT k 1

/-- The sheet that a pair releases, and the copies of it: the two are matched by SHEET, and one that carries another sheet is not there (R294).
Where they differ, the sheet that follows the last released is taken, else twin A's. -/
def State.pairCopies (s : State) (e : Nat) (a b : Option PairCopy) : Nat × Option PairCopy × Option PairCopy :=
  let x := s.pairRun e
  let next := (x.sheet + 1) % 2 ^ 23
  let no : Option PairCopy → Option Nat := fun c => match c with
    | some c => if hdrOk c.header then some (hdrSheet c.header) else none
    | none => none
  let n := match no a, no b with
    | some i, some j => if x.last ≠ 0 ∧ j = next then j else i
    | some i, none => i
    | none, some j => j
    | none, none => next
  let keep := fun (c : Option PairCopy) => if no c = some n then c else none
  (n, keep a, keep b)

/-- The part's own instant of the sheet that bears a number of 23 bits, the nearest one (R204, R255). -/
def State.instantOf (s : State) (n : Nat) : Nat :=
  let k := s.sheetNow
  let d := (n + 2 ^ 23 - k % 2 ^ 23) % 2 ^ 23
  s.sheetInstant (if d < 2 ^ 22 then k + d else k + d - 2 ^ 23)

/-- PAIR_SHEET_RELEASE (R294–R300). -/
def State.pairRelease (s : State) (e : Nat) (a b : Option PairCopy) (slots : List PairSlot) : State :=
  match s.pairOf true (e / 64) (e % 64) with
  | none => s
  | some q =>
    let x := s.pairRun e
    let y := s.pairCopies e a b
    let a := y.2.1
    let b := y.2.2
    let okA := s.eligible (e / 64, e % 64) a
    let okB := s.eligible q b
    let sel := selectCopy okA okB a b
    let both := okA && okB
    let arr := if sel = 2 then copyArrival b else copyArrival a
    let c0 := signed 16 (s.fld F.TW_PAIR_STAT_HOLD e)
    let c := if sel = 0 ∨ x.last ≠ 0 then c0 else arr
    let s := s.waitHouse (Int.ofNat (s.instantOf y.1) + (c + 96) * Int.ofNat (blockUnits / 16)).toNat
    let inA := okA && inDeskew c (copyArrival a)
    let inB := okB && inDeskew c (copyArrival b)
    let claim := fun (f : Fld) (y : Option PairCopy) (s : State) =>
      match y with | some y => if hdrOk y.header then s.setFld f e (hdrClaim y.header) else s | none => s
    let s := claim F.TW_PAIR_STAT_CLAIMB b (claim F.TW_PAIR_STAT_CLAIMA a s)
    let s := if both then s.setFld F.TW_PAIR_STAT_SKEW e
        (unsigned 12 (max (-2048) (min 2047 (copyArrival b - copyArrival a)))) else s
    let s := if sel = 0 then s.bump F.TW_PAIR_STAT_NONE e 1
      else s.setFld F.TW_PAIR_STAT_HOLD e (unsigned 16 (max (-32768) (min 32767 (holdPoint x.last c0 arr))))
    let cmp := (x.cmp.map fun y => (y.1, y.2 + 1)).filter fun y => y.2 ≤ 16
    let res := if sel = 0 then [] else ((slots.take 24).map fun y => resolveSlot sel (inA && inB) y).zipIdx
    let change := sel != 0 && x.last != 0 && sel != x.last
    let smooth := fun (m : Nat) => (if sel = 1 then inA else inB)
      && res.all (fun y => !(m.testBit y.2 && y.1.subst)) && cmp.all (fun y => !m.testBit y.1)
    let gaps := if change then (s.pairPorts e).filter fun y => !smooth (pMask y.2) else []
    let s := if change then s.bump F.TW_PAIR_STAT_CHANGES e 1 else s
    let s := if gaps.isEmpty then s else s.bump F.TW_PAIR_STAT_GAPS e 1
    let s := gaps.foldl (fun (s : State) y => s.restartStream e y.1) s
    let s := if sel = 0 then s else s.countSlots e sel e (q.1 * 64 + q.2) res
    let hits := (res.filter fun y => y.1.cmp).map (·.2)
    let cmp := hits.map (fun sl => (sl, 0)) ++ cmp.filter fun y => !hits.contains y.1
    let s := s.setPairRun ⟨e, if sel = 0 then x.last else sel, cmp, y.1⟩
    let s := s.setNotify F.TW_PAIR_STAT_ALIGN e (if !both then 3 else if inA && inB then 0 else if !inA then 1 else 2)
    (s.setNotify F.TW_PAIR_STAT_SEL e sel).refreshClaim

def execPairSheetRelease (e : Nat) (a b : Option PairCopy) (slots : List PairSlot) (s : State) :
    Host.Outcome State Fault Refusal := done (s.pairRelease e a b slots)

/-! ### Health (R302, R303) -/

/-- The hottest junction temperature that a working monitor of the part reads, in °C (R303, R444). -/
def State.hottest (s : State) : Nat :=
  let l := (List.range (s.dies * 12)).filterMap fun k =>
    let e := k / 12 * 128 + k % 12
    if s.fld F.PW_MON_STATUS e = 0 then some (signed 16 (s.fld F.PW_MON_VALUE e)) else none
  ((l.foldl max 0).toNat / 10) % 256

/-- Data lanes that carry ports and are not LOCKED or SENDING. -/
def State.lanesDown (s : State) : Nat :=
  (List.range (s.dies * 160)).countP fun e => isDataLane e && s.lane e != laLOCKED && s.portNames s.regs e

/-- The words of this part's report. -/
def State.reportWords (s : State) : List W :=
  let bits := ((List.range s.dies).map fun d => if s.sys.isolated.contains d then 0 else 2 ^ d).sum
  let margin := (List.range s.dies).foldl (fun m d => min m (s.fld F.PW_PACE_RATED d)) 65535
  let fault := (List.range s.dies).foldl (fun n d => max n (s.faultLevel d)) 0
  let w0 := F.TW_HEALTH_SEQ.put 0 (s.fld F.TW_HEALTH_SEQ 0 + 1)
  let w0 := F.TW_HEALTH_MODE.put (F.TW_HEALTH_CLAIM.put w0 s.ownClaim) s.mode
  let w0 := F.TW_HEALTH_EDGEOWN.put (F.TW_HEALTH_DIESOK.put (F.TW_HEALTH_SYNC.put w0 s.sync) bits) (s.fld F.TW_STATE_EDGEOWN 0)
  let w1 := F.TW_HEALTH_FAULT.put (F.TW_HEALTH_TJMAX.put (F.TW_HEALTH_MARGIN.put 0 margin) s.hottest) fault
  let w1 := F.TW_HEALTH_STERR.put (F.TW_HEALTH_LANESDOWN.put w1 (min 65535 s.lanesDown)) s.tw.stErr
  let w3 := F.TW_HEALTH_NANOSECONDS.put (F.TW_HEALTH_SECONDS.put 0 (secsOf s.clk.count)) (nanosOf s.clk.count)
  [w0, w1, BitVec.ofNat 64 s.tw.stWords, w3]

/-- HEALTH_REPORT: the next 100 ms of H. -/
def State.healthReport (s : State) : State :=
  if s.paired then
    let s := s.waitHouse ((s.house / ms 100 + 1) * ms 100)
    let s := (s.reportWords.zipIdx).foldl (fun (s : State) x => s.setWord 0x5830 0 x.2 x.1) s
    let s := { s with tw := { s.tw with reportAt := some (s.tw.reportAt.getD s.now) } }
    s.notify 0x5830 0
  else s

def execHealthReport (s : State) : Host.Outcome State Fault Refusal := done s.healthReport

/-- TWIN_REPORT_TIMEOUT: one record until a report comes again. -/
def State.reportTimeout (s : State) : State :=
  match s.tw.reportAt with
  | none => s
  | some t =>
    if !s.paired || s.tw.silentNoted then s
    else
      let s := s.waitUntil (t + ms 300)
      ({ s with tw := { s.tw with silentNoted := true } }).note 0x5802 (s.fld F.TW_HEALTH_SEQ 1) 0 0

def execTwinReportTimeout (s : State) : Host.Outcome State Fault Refusal := done s.reportTimeout

/-- SELFTEST_ENGINE: each spare essence engine that failed its vectors. -/
def State.selftestEngine (s : State) (fails : List Nat) : State :=
  if s.selfTests && s.fld F.TW_CONFIG_STENG 0 == 1 then
    fails.foldl (fun (s : State) e =>
      if e < s.dies * 24 && isEssence e && s.engine e == engSPARE then (s.selfTestFailed 1 e).engineFail e 3 else s) s
  else s

def execSelftestEngine (fails : List Nat) (s : State) : Host.Outcome State Fault Refusal := done (s.selftestEngine fails)

/-! ### The re-mirror (R304) -/

/-- The objects that a snapshot names (R304). -/
def snapObjects : List Nat :=
  [0x2810, 0x2818, 0x4818, 0x4820, 0x2010, 0x2020, 0x3010, 0x3020, 0x3028, 0x3008, 0x2860, 0x3810, 0x3820, 0x3828]

/-- `TW_CONFIG`, images and serial-port settings, which a snapshot leaves out. -/
def snapOmits : List Nat := [0x5808, 0x3830, 0x3838, 0x3040, 0x3048, 0x3050, 0x3058, 0x3060]

/-- A word is part of a snapshot. -/
def inSnapshot (k : Key) : Bool :=
  !snapOmits.contains k.ix && (snapObjects.contains k.ix || wordPersist k == .saved)

/-- The snapshot that the deciding twin sends: tables and settings, live and shadow, crosspoint banks, takes and salvos with their states
(R304), and the identity of the bundle that it runs (R427). -/
def State.snapshot (s : State) : Snapshot :=
  let words := fun (t : Table) => (t.filter fun x => inSnapshot x.1).map fun x => (x.1.ix, x.1.e, x.1.w, x.2)
  ⟨words s.regs, words s.shadow, s.xp.dests, s.xp.work, s.runningIdent⟩

/-- SNAPSHOT_REQUEST: this part asks, or its twin does. -/
def State.snapshotRequest (s : State) (mine : Bool) : State :=
  if mine then
    if s.sync = syncMIRRORING ∧ s.decides = false then { s with tw := { s.tw with asked := true } } else s
  else if s.paired && s.decides && s.fld F.TW_STATE_LINK 0 == 1 then { s with tw := { s.tw with gave := s.tw.gave + 1, given := some s.snapshot } }
  else s

def execSnapshotRequest (mine : Bool) (s : State) : Host.Outcome State Fault Refusal := done (s.snapshotRequest mine)

/-- The accord of a head flattened again from its live descriptors. -/
def State.flattenLive (s : State) (h : Nat) : State :=
  let go := fun (x : AccordImg) => { x with live := true }
  let imgs := (({ s with shadow := s.regs }).commitImages false h (F.CM_HEAD_LMASK.put 0 255)).map go
  let s := { s with cm := { s.cm with accord := (s.cm.accord.filter fun x => x.head != h) ++ imgs } }
  if imgs.isEmpty then s else s.setFld F.CM_HEAD_FLAT h 1

/-- The mirrored tables put to work: placement, empty frame stores, the accord. -/
def State.refill (s : State) : State :=
  let s := match s.rebuild s.regs with | .ok pl => s.setPlacement pl | .error _ => s
  let s := (validPorts s.regs false).foldl (fun (s : State) x => s.alignPort x.1) s
  if s.caps.comp then (List.range (s.dies * 32)).foldl (fun (s : State) h => s.flattenLive h) s else s

/-- Salvos in progress as their words show them. -/
def State.salvosFromWords (s : State) : List Salvo :=
  s.regs.filterMap fun x =>
    if x.1.ix = 0x2020 ∧ x.1.w = 2 then
      let st := F.XP_SALVO_STATE.of x.2
      if st = saOPEN ∨ st = saARMED ∨ st = saHELD then some ⟨x.1.e, s.now, false, none, s.xp.order⟩ else none
    else none

/-- SNAPSHOT_RECEIVED: a returning twin that has asked installs it. -/
def State.snapshotInstall (s : State) (x : Snapshot) : State :=
  if !(s.tw.asked && s.sync == syncMIRRORING) then s
  else
    let s := { s with tw := { s.tw with ident := some x.ident } }
    if s.otherBundle then s.setSync syncSEEKING
    else
      let s := x.words.foldl (fun (s : State) (w : Nat × Nat × Nat × W) =>
        if inSnapshot ⟨w.1, w.2.1, w.2.2.1⟩ then s.putWord w.1 w.2.1 w.2.2.1 w.2.2.2 else s) s
      let s := x.shadow.foldl (fun (s : State) (w : Nat × Nat × Nat × W) =>
        if inSnapshot ⟨w.1, w.2.1, w.2.2.1⟩ then s.putShadow w.1 w.2.1 w.2.2.1 w.2.2.2 else s) s
      let work := x.work.map fun (y : Work) => if y.state = tsPENDING then s.placeAs y else y
      let order := x.work.foldl (fun (n : Nat) (y : Work) => max n (y.order + 1)) s.xp.order
      let s := { s with xp := { s.xp with dests := x.dests, work := work, order := order } }
      let s := { s with xp := { s.xp with salvos := s.salvosFromWords }, tw := { s.tw with installed := true } }
      s.refill

def execSnapshotReceived (snap : Snapshot) (s : State) : Host.Outcome State Fault Refusal := done (s.snapshotInstall snap)

/-- Every head that has images to flatten reads FLAT READY (R304). -/
def State.headsReady (s : State) : Bool :=
  (List.range (s.dies * 32)).all fun h => s.fld F.CM_HEAD_FLAT h != 1 && s.fld F.CM_HEAD_FLAT h != 3

/-- MIRROR_STORES_FULL: digests are compared from here (R304). On the deciding twin it is the other's stores that are full (DEDUCED, log
200). -/
def State.storesFull (s : State) : State :=
  if s.sync = syncMIRRORING ∧ (s.decides = true ∨ (s.tw.installed = true ∧ s.headsReady = true)) then
    { s with tw := { s.tw with full := true, equal := 0, differ := 0 } }
  else s

def execMirrorStoresFull (s : State) : Host.Outcome State Fault Refusal := done s.storesFull

end Sys2Proof.Machine
end

