-- ==== Sys2Proof/Machine/Firmware.lean ====
section
/-! DEFINITION. Boot, firmware and security (chapter 17): images and their checks, attestation, updates of a running part, the life
cycle. -/
namespace Sys2Proof.Machine

/-! ### `FW_STATE` (R430) -/

def fwIDLE : Nat := 0
def fwVERIFYING : Nat := 1
def fwSTAGED : Nat := 2
def fwPREPARING : Nat := 3
def fwREADY : Nat := 4
def fwHELD : Nat := 6
def fwREJECTED : Nat := 7

def cFORMAT : Nat := 1
def cHASH : Nat := 2
def cSIG : Nat := 3
def cROLLBACK : Nat := 4
def cMEMBER : Nat := 5
def cIMPORT : Nat := 6
def cLATE : Nat := 7
def cTWIN : Nat := 8
def cFLASH : Nat := 9

def State.fwState (s : State) : Nat := s.fld F.FW_STATE_STATE 0

/-- STATE changes: the sectors erased for writing are forgotten when it leaves STAGED (R424). -/
def State.setFw (s : State) (n : Nat) : State :=
  let o := s.fwState
  let s := if o = fwSTAGED ∧ n ≠ fwSTAGED then s.withFw fun x => { x with halves := x.halves.map fun h => { h with fresh := [] } } else s
  if o = n then s else (s.setFld F.FW_STATE_STATE 0 n).notify 0x8008 0

def State.half (s : State) (h : Nat) : FlashHalf := s.fw.halves.getD h ⟨0, 0, 0, none, [], []⟩

def State.withHalf (s : State) (h : Nat) (f : FlashHalf → FlashHalf) : State :=
  s.withFw fun x => { x with halves := x.halves.modify h f }

def State.runHalf (s : State) : Nat := s.fld F.FW_STATE_RUNHALF 0

/-- The half that host software writes (R424): the one that does not run. -/
def State.writeHalf (s : State) : Nat := 1 - s.runHalf

/-- The half that the boot ROM chooses (R417): ACTIVE, with the higher generation. -/
def State.bootHalf (s : State) : Nat :=
  let a := s.half 0
  let b := s.half 1
  if b.state = 2 ∧ (a.state ≠ 2 ∨ a.gen < b.gen) then 1 else 0

/-! ### Images (R413–R415) -/

/-- `n` bytes of a half from offset `o`. -/
def FlashHalf.span (h : FlashHalf) (o n : Nat) : List Byte := (List.range n).map fun i => cellGet h.bytes (o + i)

def isZero (l : List Byte) : Bool := l.all (· == 0)

/-- The image of TYPE `typ` whose header stands at `o`; its body ends at or before `limit`. -/
def FlashHalf.image (h : FlashHalf) (typ o limit : Nat) : Image :=
  let head := h.span o 8192
  let num := fun (i n : Nat) => beNum ((head.drop i).take n)
  let len := num 20 8
  let keys := num 11 1
  let form := num 0 4 == 0x5C1A0001 && num 4 1 == typ && isZero ((head.drop 13).take 3) && isZero ((head.drop 96).take 160)
    && isZero (head.drop 5395) && num 10 1 / 16 == 0 && keys / 16 < 4 && keys % 16 < 4
    && (typ == 6 || (num 6 2 == 0 && num 8 2 == 0)) && o + 8192 + len ≤ limit
  let body := if o + 8192 + len ≤ limit then h.span (o + 8192) len else []
  let hash := BitVec.ofNat 512 (num 32 64)
  { typ := typ, svn := num 5 1, schema := num 6 2, schemaMin := num 8 2, members := num 10 1, keys := keys, revoke := num 12 1,
    version := num 16 4, hash := hash, form := form, hashOk := Config.sha512 body == hash,
    rsaOk := Config.rsaPss (keys / 16) (head.take 256) ((head.drop 256).take 512),
    pqOk := Config.mldsa (keys % 16) (head.take 256) ((head.drop 768).take 4627), crcOk := num 28 4 == crc32c body }

def sector : Nat := 65536

/-- The bytes of a half as the part has them: 48 MiB of a 128 MiB flash (R413). -/
def halfSize : Nat := 50331648

/-- The offset of the image that follows one at `o` with a body of `len` bytes. -/
def nextImage (o len : Nat) : Nat := (o + 8192 + len + sector - 1) / sector * sector

/-- The images of a half: the loader, then the bundle's five, one after another. -/
def FlashHalf.images (h : FlashHalf) : List Image :=
  match h.kept with
  | some l => l
  | none =>
    let main := 4 * 1048576 + sector
    let at_ := [3, 4, 5, 6].foldl (fun (a : List (Nat × Nat)) t =>
      let o := (a.getLast?.map (·.2)).getD main
      a ++ [(t, nextImage o (beNum (h.span (o + 20) 8)))]) [(2, main)]
    h.image 1 sector main :: at_.map fun x => h.image x.1 x.2 halfSize

/-- The bundle ID (R413). -/
def bundleId (l : List Image) : BitVec 512 := Config.sha512 (l.flatMap fun x => beBytes 64 x.hash.toNat)

def memberBit : Member → Nat
  | .sc8f => 0 | .sc8x => 1 | .sc4f => 2 | .sc2e => 3

/-- The fuse counter of an image's kind (R415, R423). -/
def State.svnFloor (s : State) (typ : Nat) : Nat :=
  if typ = 1 then s.fld F.FW_COUNTERS_LOADER 0
  else if typ = 4 ∨ typ = 5 then s.fld F.FW_COUNTERS_ENGINES 0
  else s.fld F.FW_COUNTERS_MAIN 0

def State.rsaRevoked (s : State) (keys : Nat) : Bool := s.fld F.FW_COUNTERS_RSAREV 0 / 2 ^ (keys / 16) % 2 == 1
def State.pqRevoked (s : State) (keys : Nat) : Bool := s.fld F.FW_COUNTERS_PQREV 0 / 2 ^ (keys % 16) % 2 == 1

/-- The policy that a check follows: in LOAD the boot ROM reads it from the newest good settings copy (R416). -/
def State.sigPolicy (s : State) : Nat :=
  if s.mode = LOAD then F.FW_SIG_POLICY_POLICY.of (s.storedWord 0x8018 0 0) else s.fld F.FW_SIG_POLICY_POLICY 0

/-- The signatures satisfy the policy in force (R415). -/
def State.sigsOk (s : State) (x : Image) : Bool :=
  let p := s.sigPolicy
  (p == 2 || (x.rsaOk && !s.rsaRevoked x.keys)) && (p == 1 || (x.pqOk && !s.pqRevoked x.keys))

/-- The first check that an image fails (R415). -/
def State.imageFault (s : State) (x : Image) : Option Nat :=
  if !x.form then some cFORMAT
  else if x.members / 2 ^ memberBit s.caps.member % 2 == 0 then some cMEMBER
  else if !x.hashOk then some cHASH
  else if !s.sigsOk x then some cSIG
  else if x.svn < s.svnFloor x.typ then some cROLLBACK
  else none

/-- The boot record of a half is whole (R425). -/
def FlashHalf.recordGood (h : FlashHalf) : Bool := h.kept.isSome || Config.bootRecordGood (h.span 0 sector)

/-- The first image of a half that is rejected: TYPE and CAUSE. -/
def State.halfFault (s : State) (h : Nat) : Option (Nat × Nat) :=
  (s.half h).images.findSome? fun x => (s.imageFault x).map fun c => (x.typ, c)

def mainOf (l : List Image) : Nat := ((l.find? fun x => x.typ == 2).map (·.version)).getD 0
/-- The version that an engine runs, of its own image: major and minor (DEDUCED, log 205: FWVER has 16 bits, VERSION 32). -/
def engineVersion (l : List Image) (e : Nat) : Nat :=
  let t := if isEssence e then 4 else if isMix e then 5 else if isSpar e then 2 else 3
  ((l.find? fun x => x.typ == t).map (·.version)).getD 0 / 65536
def schemaOf (l : List Image) : Nat := ((l.find? fun x => x.typ == 6).map (·.schema)).getD 0
def schemaMinOf (l : List Image) : Nat := ((l.find? fun x => x.typ == 6).map (·.schemaMin)).getD 0

/-- Images whose body's CRC differs are used, with a CHECK-FIELD record each (R415, R301). -/
def State.crcNotes (s : State) (l : List Image) : State :=
  (l.filter fun x => !x.crcOk).foldl (fun (s : State) (x : Image) => s.note 0x5805 x.typ 0 0) s

/-! ### Attestation (R419, R420) -/

/-- A 512-bit value's word `i`, bytes 0–7 in word 0. -/
def word512 (v : BitVec 512) (i : Nat) : W := (v >>> (448 - 64 * i)).setWidth 64

def setWide (s : State) (ix e w : Nat) (v : BitVec 512) : State :=
  (List.range 8).foldl (fun (s : State) i => s.setWord ix e (w + i) (word512 v i)) s

/-- An entry: the digest is extended, and one of the first 64 is stored. -/
def State.attest (s : State) (typ svn half event version : Nat) (hash : BitVec 512) : State :=
  let w0 := F.FW_ATTEST_VERSION.put (F.FW_ATTEST_EVENT.put (F.FW_ATTEST_HALF.put (F.FW_ATTEST_SVN.put (F.FW_ATTEST_TYPE.put 0 typ) svn)
    half) event) version
  let w1 := F.FW_ATTEST_NANOSECONDS.put (F.FW_ATTEST_SECONDS.put 0 (secsOf s.clk.count)) (nanosOf s.clk.count)
  let n := s.fw.entries
  let s := if n < 64 then setWide ((s.setWord 0x8038 n 0 w0).setWord 0x8038 n 1 w1) 0x8038 n 2 hash else s
  let bytes := beBytes 64 s.fw.digest.toNat ++ beBytes 8 w0.toNat ++ beBytes 8 w1.toNat ++ beBytes 64 hash.toNat
  s.withFw fun x => { x with digest := Config.sha512 bytes, entries := x.entries + 1 }

/-- An entry for each image. -/
def State.attestAll (s : State) (l : List Image) (half event : Nat) : State :=
  l.foldl (fun (s : State) (x : Image) => s.attest x.typ x.svn half event x.version x.hash) s

/-- The policy changes: an attestation entry (R416, R420). -/
def State.attestPolicy (s : State) (p : Nat) : State := s.attest 0 0 s.runHalf 3 p 0

/-- A write of `FW_SIG_POLICY` (R416). -/
def putSigPolicy (rq : Req) (v : W) : HostWrite × (State → Status × State) :=
  (⟨⟨0x8018, 0, 0⟩, [(0, v)], 0, v.toNat ≤ 2⟩, fun s =>
    let o := s.fld F.FW_SIG_POLICY_POLICY 0
    (.ok, ((s.putWord 0x8018 0 0 v).note 0x8009 v.toNat o rq.ctx.val).attestPolicy v.toNat))

def execSigPolicyWrite (rq : Req) (v : W) (s : State) : Host.Outcome State Fault Refusal :=
  let x := putSigPolicy rq v
  done (s.request rq x.1 x.2)

/-! ### Quotes (R421) -/

def lifeState (s : State) : Nat := s.fld F.FW_LIFECYCLE_STATE 0

/-- Bytes 0–191 of a quote. -/
def State.quoteBody (s : State) (nonce : List Byte) : List Byte :=
  let c := (s.word 0x8020 0 0).toNat
  nonce ++ beBytes 8 Config.serial.toNat ++ beBytes 2 (s.fld F.CT_NODE_ID 0) ++ beBytes 1 (lifeState s)
    ++ beBytes 1 (s.fld F.FW_SIG_POLICY_POLICY 0) ++ beBytes 3 c ++ beBytes 1 (c / 2 ^ 24) ++ beBytes 2 (min 65535 s.fw.entries)
    ++ beBytes 6 0 ++ beBytes 4 (secsOf s.clk.count) ++ beBytes 4 (nanosOf s.clk.count) ++ beBytes 64 s.fw.digest.toNat
    ++ beBytes 64 s.runningIdent.toNat

/-- A write of the nonce. -/
def putNonce (nonce : List Byte) : HostWrite × (State → Status × State) :=
  (⟨⟨0x8040, 1, 0⟩, [], 0, nonce.length == 32⟩, fun s =>
    if s.fw.nonce.isSome then (.busy, s) else (.ok, s.withFw fun x => { x with nonce := some nonce }))

def execQuoteRequest (rq : Req) (nonce : List Byte) (s : State) : Host.Outcome State Fault Refusal :=
  let x := putNonce nonce
  done (s.request rq x.1 x.2)

/-- QUOTE_READY. -/
def State.quoteReady (s : State) : State :=
  match s.fw.nonce with
  | none => s
  | some n =>
    let body := s.quoteBody n
    let sig := Config.quoteSign (match s.fw.idKey with | some k => k + 1 | none => 0) body
    let q := body ++ (List.range 4723).map fun i => sig.getD i 0
    (s.withFw fun x => { x with nonce := none, quote := q }).notifySub 0x8040 2 0

def execQuoteReady (s : State) : Host.Outcome State Fault Refusal := done s.quoteReady

/-! ### Writing the flash (R424) -/

/-- Bytes written into a half: each sector touched for the first time is erased. -/
def FlashHalf.write (h : FlashHalf) (off : Nat) (l : List Byte) : FlashHalf :=
  (List.range l.length).foldl (fun (h : FlashHalf) i =>
    let o := off + i
    let n := o / sector
    let h := if h.fresh.contains n then h
      else { h with fresh := n :: h.fresh, bytes := h.bytes.filter fun x => !(x.1 / sector == n) }
    { h with bytes := cellSet h.bytes o (l.getD i 0) }) { h with kept := none }

/-- A write of `FW_FLASH`. -/
def putFlash (off : Nat) (l : List Byte) : HostWrite × (State → Status × State) :=
  (⟨⟨0x8030, 0, off⟩, [], 0, off + l.length ≤ halfSize⟩, fun s =>
    let st := s.fwState
    if (1 ≤ st && st ≤ 5) then (.busy, s)
    else
      let s := s.withHalf s.writeHalf fun h => h.write off l
      (.ok, if st = fwIDLE then s else s.setFw fwIDLE))

def execFwFlashWrite (rq : Req) (off : Nat) (bytes : List Byte) (s : State) : Host.Outcome State Fault Refusal :=
  let x := putFlash off bytes
  done (s.request rq x.1 x.2)

/-! ### Staging (R425) -/

/-- STAGE_DONE: the writable half is checked, its boot record included. -/
def State.stageDone (s : State) (flashOk : Bool) : State :=
  if s.fwState != fwVERIFYING then s
  else
    let h := s.writeHalf
    let l := (s.half h).images
    let bad := if !flashOk then some (0, cFLASH) else if !(s.half h).recordGood then some (0, cFORMAT) else s.halfFault h
    match bad with
    | some x => ((s.setFld F.FW_STATE_CAUSE 0 x.2).raise 0x8001 s.mastDie x.1 x.2 h).setFw fwREJECTED
    | none =>
      let s := s.crcNotes l
      let s := (s.setFld F.FW_STATE_STAGEDVER 0 (mainOf l)).setFld F.FW_STATE_STAGEDSCHEMA 0 (schemaOf l)
      let s := setWide (s.setFld F.FW_STATE_CAUSE 0 0) 0x8008 0 12 (bundleId l)
      let s := s.withHalf h fun x => { x with state := 1, ident := bundleId l }
      (s.note 0x8003 (mainOf l) h 0).setFw fwSTAGED

def execStageDone (flashOk : Bool) (s : State) : Host.Outcome State Fault Refusal := done (s.stageDone flashOk)

def State.stagedIdent (s : State) : BitVec 512 :=
  (List.range 8).foldl (fun (v : BitVec 512) i => (v <<< 64) ||| (s.word 0x8008 0 (12 + i)).setWidth 512) 0

/-- An update in preparation is given up: its record, and STATE IDLE (R425, R427). -/
def State.abandonFw (s : State) (cause : Nat) : State :=
  let st := s.fwState
  let s := s.setFld F.FW_STATE_CAUSE 0 cause
  let s := s.setFld F.SY_IDENTITY_HANDOVER 0 0
  let s := s.setFld F.FW_STATE_TRYBOOT 0 0
  let s := if st = fwPREPARING ∨ st = fwREADY then s.note 0x8008 cause (s.fld F.FW_STATE_STAGEDVER 0) 0 else s
  (s.withFw fun x => { x with actAt := none, twinOk := false }).setFw fwIDLE

/-- An update in preparation ends with the engines that it prepares: on entry to SAFE or HOLD it is abandoned (DESIGN CHOICE, log 208). -/
def State.dropUpdate (s : State) : State := if s.fwState = fwPREPARING ∨ s.fwState = fwREADY then s.abandonFw 0 else s

/-! ### Running halves -/

/-- Essence and mix engines and the keepers swap code banks, and the spar cores load the new main image (R427): every engine's crossbar master is
reset (R357), and FWVER is the version of its new image. -/
def State.swapBanks (s : State) (new : List Image) : State :=
  (List.range (s.dies * 24)).foldl (fun (s : State) e =>
    let s := if isSpar e then s else s.setFld F.IC_ENGINE_BANK e (1 - s.fld F.IC_ENGINE_BANK e)
    s.setFld F.IC_ENGINE_FWVER e (engineVersion new e)) (s.resetMasters [0, 1, 2, 3, 4, 5])

/-- The running half's identity in `FW_STATE`. -/
def State.showRunning (s : State) (h : Nat) (l : List Image) : State :=
  let s := (s.setFld F.FW_STATE_RUNHALF 0 h).setFld F.FW_STATE_VERSION 0 (mainOf l)
  setWide (s.setFld F.FW_STATE_SCHEMA 0 (schemaOf l)) 0x8008 0 4 (bundleId l)

/-- TRIAL begins: the values saved are those that stand (R429). -/
def State.enterTrial (s : State) (t : Table) (ver schema : Nat) (ident : BitVec 512) : State :=
  (s.withFw fun x => { x with
    held := some t, oldVer := ver, oldSchema := schema, oldIdent := ident, actAt := none, twinOk := false }).setFw fwTRIAL

/-! ### COMMIT (R423, R429) -/

def maxSvn (l : List Image) (typs : List Nat) : Nat := (l.filter fun x => typs.contains x.typ).foldl (fun n x => max n x.svn) 0

/-- Slots that a commit's images revoke, with those revoked: RSA, ML-DSA. -/
def State.revokedAfter (s : State) (l : List Image) : Nat × Nat :=
  let r := l.foldl (fun n x => n ||| x.revoke) 0
  (s.fld F.FW_COUNTERS_RSAREV 0 ||| (r / 16), s.fld F.FW_COUNTERS_PQREV 0 ||| (r % 16))

/-- The commit would revoke every slot of an algorithm that the policy needs. -/
def State.revokesAll (s : State) (l : List Image) : Bool :=
  let p := s.fld F.FW_SIG_POLICY_POLICY 0
  let r := s.revokedAfter l
  (p != 2 && r.1 == 15) || (p != 1 && r.2 == 15)

/-- COMMIT of the running half. -/
def State.commitFw (s : State) : State :=
  let h := s.runHalf
  let l := (s.half h).images
  let r := s.revokedAfter l
  let up := fun (s : State) (f : Fld) (n : Nat) => s.setFld f 0 (max (s.fld f 0) n)
  let s := up (up (up s F.FW_COUNTERS_LOADER (maxSvn l [1])) F.FW_COUNTERS_MAIN (maxSvn l [2, 3, 6])) F.FW_COUNTERS_ENGINES (maxSvn l [4, 5])
  let s := (s.setFld F.FW_COUNTERS_RSAREV 0 r.1).setFld F.FW_COUNTERS_PQREV 0 r.2
  let both := l.all fun x => x.rsaOk && x.pqOk && !s.rsaRevoked x.keys && !s.pqRevoked x.keys
  let s := if both && s.fld F.FW_SIG_POLICY_POLICY 0 != 0 then (s.setWord 0x8018 0 0 0).attestPolicy 0 else s
  let s := (s.withFw fun x => { x with held := none, actAt := none }).startGen
  let gen := (s.half (1 - h)).gen
  let s := (s.withHalf h fun x => { x with state := 2, gen := gen + 1 }).withHalf (1 - h) fun x => { x with state := 3 }
  let s := s.setFld F.FW_STATE_BOOTHALF 0 h
  let s := s.note 0x8006 (s.fld F.FW_STATE_VERSION 0) (s.word 0x8020 0 0).toNat 0
  s.setFw fwIDLE

/-! ### ROLLBACK (R429) -/

/-- The old code serves again: cause 1 host, 2 SAFE, 3 reset. -/
def State.rollbackFw (s : State) (cause : Nat) : State :=
  let h := s.runHalf
  let left := s.fld F.FW_STATE_VERSION 0
  let new := ((s.half h).images).drop 1
  let old := ((s.half (1 - h)).images).drop 1
  let s := match s.fw.held with | some t => s.installSaved t | none => s
  let s := (s.attestAll old (1 - h) 2).attestAll new h 2
  let s := (s.setFld F.FW_STATE_RUNHALF 0 (1 - h)).setFld F.FW_STATE_VERSION 0 s.fw.oldVer
  let s := setWide (s.setFld F.FW_STATE_SCHEMA 0 s.fw.oldSchema) 0x8008 0 4 s.fw.oldIdent
  let s := (s.withFw fun x => { x with held := none, actAt := none, autoCommit := false }).setFld F.SY_IDENTITY_HANDOVER 0 0
  let s := if s.save.timer.isNone && s.save.writing.isNone then s.setFld F.SY_SAVE_DIRTY 0 0 else s
  (s.note 0x8007 left cause 0).setFw fwIDLE

/-! ### `FW_CMD` (R425) -/

def fwFormat (w0 : W) : Nat := if F.FW_CMD_FMT.of w0 = 0 then 0x41 else F.FW_CMD_FMT.of w0

/-- The time that words 1 and 2 give. -/
def fwTime (w1 w2 : W) : Nat := timeOf (F.FW_CMD_SECONDS.of w1) (F.FW_CMD_NANOSECONDS.of w2)

/-- The first line 1 of FMT at or after `t` (R427). -/
def fwInstant (w0 : W) (t : Nat) : Nat :=
  match format (fwFormat w0) with
  | some f => f.lineStart ((f.scale t + f.lineD * f.lines - 1) / (f.lineD * f.lines) * f.lines)
  | none => t

/-- The instant of an update, shown in `FW_STATE`. -/
def State.setInstant (s : State) (t : Nat) : State :=
  let s := s.withFw fun x => { x with actAt := some t }
  (s.setFld F.FW_STATE_ACTSEC 0 (secsOf t)).setFld F.FW_STATE_ACTNS 0 (nanosOf t)

/-- Word 0 of a `FW_CMD` whose OP is set (R425): OP, WHEN and FMT are not reserved, the reserved bits are 0. -/
def fwWord0 (w0 : W) : Bool :=
  let op := F.FW_CMD_OP.of w0
  op ≤ 5 && ((op != 2 && op != 4) || F.FW_CMD_WHEN.of w0 ≤ 1) && (format (fwFormat w0)).isSome && F.FW_CMD_RESERVED.of w0 == 0

/-- The words of a `FW_CMD` in range; of word 0 with OP 0 nothing is judged (R70). -/
def fwRange (w0 w1 w2 : W) : Bool :=
  (F.FW_CMD_OP.of w0 == 0 || fwWord0 w0) && F.FW_CMD_RESERVED1.of w1 == 0 && F.FW_CMD_RESERVED2.of w2 == 0
    && F.FW_CMD_NANOSECONDS.of w2 < 1000000000

/-- A command of `FW_CMD` in the order of R425. An accepted ACTIVATE moves the mast role to SP1 (R427). DEDUCED: at acceptance, since
the example of chapter 17 reads HANDOVER 1 in PREPARING. -/
def State.fwCommand (s : State) (w0 w1 w2 : W) : Status × State :=
  let op := F.FW_CMD_OP.of w0
  let ptp := F.FW_CMD_WHEN.of w0 == 1
  let m := s.mode
  let st := s.fwState
  let runs := m == STANDBY || m == ACTIVE
  let badMode := if op = 1 then m == LOAD || m == HOLD
    else if op = 2 then !(runs || (m == SAFE && !ptp))
    else if op = 3 then !(runs || m == SAFE)
    else if op = 4 then !runs else false
  let busy := if op = 1 then !(st == fwIDLE || st == fwHELD || st == fwREJECTED)
    else if op = 2 then st != fwSTAGED
    else if op = 3 ∨ op = 4 then st != fwTRIAL
    else !(st == fwSTAGED || st == fwPREPARING || st == fwREADY || st == fwHELD || st == fwREJECTED)
  let t := fwTime w1 w2
  let expired := ptp && ((op == 2 && t < s.clk.count + secs 2) || (op == 4 && t ≤ s.clk.count))
  if badMode then (.mode, s)
  else if busy then (.busy, s)
  else if expired then (.expired, s)
  else if op = 1 then (.ok, (s.setFld F.FW_STATE_CAUSE 0 0).setFw fwVERIFYING)
  else if op = 2 then
    if m = SAFE then (.ok, s.setFld F.FW_STATE_TRYBOOT 0 1)
    else
      let s := s.withFw fun x => { x with autoCommit := F.FW_CMD_AUTOCOMMIT.of w0 == 1, twinOk := false }
      let s := (s.setInstant (fwInstant w0 (if ptp then t else s.house + secs 2))).setFld F.SY_IDENTITY_HANDOVER 0 1
      (.ok, s.setFw fwPREPARING)
  else if op = 3 then if s.revokesAll (s.half s.runHalf).images then (.busy, s) else (.ok, s.commitFw)
  else if op = 4 then (.ok, s.setInstant (fwInstant w0 (if ptp then t else s.house + secs 2)))
  else (.ok, s.abandonFw 0)

/-- A write of `FW_CMD`: words 1 and 2, and word 0, which with OP set commits. -/
def putFwCmd (w0 w1 w2 : W) : HostWrite × (State → Status × State) :=
  (⟨⟨0x8010, 0, 0⟩, [(0, w0), (1, w1), (2, w2)], F.FW_CMD_OP.of w0, fwRange w0 w1 w2⟩, fun s =>
    let s := ((s.setWord 0x8010 0 0 (F.FW_CMD_OP.put w0 0)).setWord 0x8010 0 1 w1).setWord 0x8010 0 2 w2
    if F.FW_CMD_OP.of w0 = 0 then (.ok, s) else s.fwCommand w0 w1 w2)

def execFwStage (rq : Req) (w0 w1 w2 : W) (s : State) : Host.Outcome State Fault Refusal :=
  let x := putFwCmd (withOp F.FW_CMD_OP w0 1) w1 w2
  done (s.request rq x.1 x.2)

def execFwActivate (rq : Req) (w0 w1 w2 : W) (s : State) : Host.Outcome State Fault Refusal :=
  let x := putFwCmd (withOp F.FW_CMD_OP w0 2) w1 w2
  done (s.request rq x.1 x.2)

def execFwCommit (rq : Req) (w0 w1 w2 : W) (s : State) : Host.Outcome State Fault Refusal :=
  let x := putFwCmd (withOp F.FW_CMD_OP w0 3) w1 w2
  done (s.request rq x.1 x.2)

def execFwRollback (rq : Req) (w0 w1 w2 : W) (s : State) : Host.Outcome State Fault Refusal :=
  let x := putFwCmd (withOp F.FW_CMD_OP w0 4) w1 w2
  done (s.request rq x.1 x.2)

def execFwAbandon (rq : Req) (w0 w1 w2 : W) (s : State) : Host.Outcome State Fault Refusal :=
  let x := putFwCmd (withOp F.FW_CMD_OP w0 5) w1 w2
  done (s.request rq x.1 x.2)

/-! ### Activation (R427, R428) -/

/-- The newest generation can be imported by a bundle of these schemas (R428). -/
def State.importable (s : State) (l : List Image) : Bool :=
  match s.newest with
  | none => true
  | some x => schemaMinOf l ≤ x.2.schema && x.2.schema ≤ schemaOf l

/-- An import fails: its record, CAUSE and HELD. -/
def State.importFailed (s : State) (l : List Image) : State :=
  let n := match s.newest with | some x => x.2.schema | none => 0
  ((s.setFld F.FW_STATE_CAUSE 0 cIMPORT).raise 0x8005 s.mastDie n (schemaMinOf l) (schemaOf l)).setFw fwHELD

/-- ACTIVATION_READY: SP1 has the mast role and the settings are imported. -/
def State.activationReady (s : State) (converts : Bool) : State :=
  if s.fwState != fwPREPARING then s
  else if s.fw.actAt.any (fun t => t ≤ s.house) then s.abandonFw cLATE
  else
    let l := (s.half s.writeHalf).images
    if s.importable l && converts then s.setFw fwREADY
    else ((s.withFw fun x => { x with actAt := none }).setFld F.SY_IDENTITY_HANDOVER 0 0).importFailed l

def execActivationReady (converts : Bool) (s : State) : Host.Outcome State Fault Refusal := done (s.activationReady converts)

/-- ACTIVATION_TWIN_CHECK: 100 ms before the instant. -/
def State.twinCheck (s : State) (ready : Bool) (ident : BitVec 512) (at_ : Nat) : State :=
  if !((s.fwState == fwREADY || s.fwState == fwPREPARING) && s.paired && s.sync == syncLOCKSTEP) then s
  else match s.fw.actAt with
    | none => s
    | some t =>
      let s := s.waitHouse (t - ms 100)
      if ready && ident == s.stagedIdent && at_ == t then s.withFw fun x => { x with twinOk := true } else s.abandonFw cTWIN

def execActivationTwinCheck (ready : Bool) (ident : BitVec 512) (at_ : Nat) (s : State) : Host.Outcome State Fault Refusal :=
  done (s.twinCheck ready ident at_)

/-- ACTIVATION_INSTANT: at the first sheet boundary at or after the instant, the engines swap banks. -/
def State.activate (s : State) (stuck : List Nat) : State :=
  match s.fw.actAt with
  | none => s
  | some t =>
    if s.fwState = fwPREPARING then (s.waitHouse t).abandonFw cLATE
    else if s.fwState != fwREADY then s
    else if s.paired && s.sync == syncLOCKSTEP && !s.fw.twinOk then s.abandonFw cTWIN
    else
      let s := s.waitHouse (sheetAtOrAfter t * sheetUnits)
      let h := s.writeHalf
      let new := (s.half h).images
      let old := (s.half (1 - h)).images
      let saved := s.savedTable
      let ver := s.fld F.FW_STATE_VERSION 0
      let schema := s.fld F.FW_STATE_SCHEMA 0
      let ident := s.runningIdent
      let s := s.swapBanks new
      let s := stuck.foldl (fun (s : State) e => if e % 24 < 21 then s.engineFail e 1 else s) s
      let s := (s.attestAll (new.drop 1) h 1).attestAll (old.drop 1) (1 - h) 1
      let auto := s.fw.autoCommit
      let s := (s.showRunning h new).setFld F.SY_IDENTITY_HANDOVER 0 0
      let s := s.note 0x8004 (mainOf new) (secsOf t) (flag auto)
      let s := s.enterTrial saved ver schema ident
      if auto && !s.revokesAll new then s.commitFw else s

def execActivationInstant (stuck : List Nat) (s : State) : Host.Outcome State Fault Refusal := done (s.activate stuck)

/-- ROLLBACK_INSTANT. -/
def State.rollbackDue (s : State) : State :=
  match s.fw.actAt with
  | some t => if s.fwState = fwTRIAL then ((s.waitHouse (sheetAtOrAfter t * sheetUnits)).swapBanks (s.half (1 - s.runHalf)).images).rollbackFw 1 else s
  | none => s

def execRollbackInstant (s : State) : Host.Outcome State Fault Refusal := done s.rollbackDue

/-! ### The boot of LOAD (R417, R426) -/

/-- A half's images put in service by LOAD. -/
def State.bootInto (s : State) (h : Nat) (fallback : Bool) : State :=
  let l := (s.half h).images
  let s := (s.crcNotes l).attestAll l h 0
  let s := (s.showRunning h l).setFld F.FW_STATE_BOOTHALF 0 s.bootHalf
  s.setFld F.FW_STATE_FALLBACK 0 (flag fallback)

/-- A half rejected: its record. -/
def State.rejectHalf (s : State) (h : Nat) (x : Nat × Nat) : State := s.raise 0x8001 s.mastDie x.1 x.2 h

/-- The half that LOAD boots, with the images it loads; whether one could be booted. Where one is rejected the other half is tried once (R417); where
the staged half's import fails the old half is loaded again (R426). -/
def State.bootLoad (s : State) (flashOk converts : Bool) : Bool × State :=
  let try_ := s.fld F.FW_STATE_TRYBOOT 0 == 1
  let b := s.bootHalf
  let fault := fun (h : Nat) => if flashOk then s.halfFault h else some (0, cFLASH)
  let s := s.setFld F.FW_STATE_TRYBOOT 0 0
  let other := fun (s : State) (h : Nat) (x : Nat × Nat) =>
    let s := s.rejectHalf h x
    match s.halfFault (1 - h) with
    | none => (true, (s.bootInto (1 - h) true).raise 0x8002 s.mastDie (1 - h) x.2 0)
    | some y => (false, s.rejectHalf (1 - h) y)
  if try_ && s.fwState == fwSTAGED then
    let h := 1 - b
    let l := (s.half h).images
    match fault h with
    | some x => other ((s.setFld F.FW_STATE_CAUSE 0 x.2).setFw fwREJECTED) h x
    | none =>
      if !(s.importable l && converts) then
        let s := ((s.crcNotes l).attestAll l h 0).importFailed l
        match s.halfFault b with
        | none => (true, s.bootInto b false)
        | some y => (false, s.rejectHalf b y)
      else
        let old := (s.half b).images
        (true, ((s.bootInto h false).installSaved s.storedTable).enterTrial s.storedTable (mainOf old) (schemaOf old) (bundleId old))
  else match fault b with
    | none => (true, s.bootInto b false)
    | some x => other s b x

/-! ### The life cycle (R431, R432) -/

def lfMANUFACTURE : Nat := 1
def lfPROVISIONED : Nat := 2
def lfFIELD : Nat := 3
def lfRETURN : Nat := 4
def lfSCRAPPED : Nat := 5

def State.lifeChallenge (s : State) : List W × State :=
  let r := s.newChallenge s.fw.lifeCh
  (byteWords (bytes128 r.1.value), r.2.2.withFw fun x => { x with lifeCh := r.2.1 })

def execLifecycleChallengeRead (rq : Req) (s : State) : Host.Outcome State Fault Refusal :=
  done (s.hostRead rq ⟨0x8050, 3, 0⟩ fun s => s.lifeChallenge)

/-- A change that R432 lists. -/
def lifeLegal (s : State) (goal : Nat) : Bool :=
  let f := lifeState s
  (f == lfMANUFACTURE && goal == lfPROVISIONED) || (f == lfPROVISIONED && goal == lfFIELD) || (f == lfFIELD && goal == lfRETURN)
    || (f == lfRETURN && goal == lfPROVISIONED && s.fw.returns < 3) || (f != lfSCRAPPED && goal == lfSCRAPPED)

/-- The change needs TOKEN. -/
def lifeToken (s : State) (goal : Nat) : Bool :=
  let f := lifeState s
  lifeLegal s goal && ((goal == lfPROVISIONED) || (f == lfFIELD && goal == lfRETURN))

/-- The change is one that MAINTAIN makes. -/
def lifeMaintain (s : State) (cls : Cls) (goal : Nat) : Bool :=
  let f := lifeState s
  goal == lfPROVISIONED || (goal == lfSCRAPPED && cls == .maintain && (f == lfMANUFACTURE || f == lfRETURN))

/-- The authorisation that follows a request (R431): an image of TYPE 0x0A over bytes 0–183 and SERIAL, checked for signatures. -/
def State.tokenOk (s : State) (b : List Byte) : Bool :=
  let h : FlashHalf := ⟨0, 0, 0, none, [], []⟩
  let t := b.drop 248
  let h := { h with bytes := (t.zipIdx.map fun (x : Byte × Nat) => (x.2, x.1)).filter fun (x : Host.Cell) => x.2 != 0xFF }
  let x := h.image 0x0A 0 8384
  let num := fun (i n : Nat) => beNum ((t.drop i).take n)
  num 4 1 == 0x0A && num 20 8 == 192 && (t.drop 8192).take 192 == b.take 184 ++ beBytes 8 Config.serial.toNat && s.sigsOk x

/-- CONTEXTS leave an enabled context with CEILING SECURE and a non-zero key. -/
def contextsServe (b : List Byte) : Bool :=
  (List.range 4).any fun c =>
    let e := b.drop (24 + 40 * c)
    let w := BitVec.ofNat 64 (beNum (e.take 8))
    F.CT_CONTEXT_EN.of w == 1 && F.CT_CONTEXT_CEILING.of w == 3 && !isZero ((e.drop 8).take 32)

/-- `CT_CONTEXT` as CONTEXTS have it. -/
def State.installContexts (s : State) (b : List Byte) : State :=
  (List.range 4).foldl (fun (s : State) c =>
    let e := b.drop (24 + 40 * c)
    (List.range 5).foldl (fun (s : State) w => s.setWord 0x6018 c w (BitVec.ofNat 64 (beNum ((e.drop (8 * w)).take 8)))) s) s

/-- The settings store holds one generation, of what stands. -/
def State.storeNow (s : State) : State :=
  let img := s.nextImage
  let s := s.withSave fun x => { x with copies := x.copies.set s.oldCopy (some img), timer := none, writing := none, again := false }
  s.showSave

/-- An accepted change (R432). -/
def State.lifeChange (s : State) (goal ctx : Nat) (b : List Byte) : State :=
  let f := lifeState s
  let s := s.note 0x800A f goal ctx
  let erased := goal == lfRETURN || goal == lfSCRAPPED
  let holds := fun (k : Key) => k.ix == 0x5040 || k.ix == 0x5048
  let s := if erased then
      let s := s.installSaved (s.savedTable.filter fun x => holds x.1)
      (s.withSave fun x => { x with copies := [none, none], timer := none, writing := none, again := false }).withPw fun x =>
        { x with history := [] }
    else s
  let s := { s with regs := s.regs.filter fun x => !(x.1.ix == 0x6030 || (x.1.ix == 0x6018 && (x.1.w == 0 || goal == lfSCRAPPED))) }
  let s := if goal = lfSCRAPPED then s else s.installContexts b
  let keys := goal == lfPROVISIONED || erased
  let s := s.withFw fun x => { x with
    idKey := if goal = lfPROVISIONED then some x.keyGen else if erased then none else x.idKey
    keyGen := if keys then x.keyGen + 1 else x.keyGen
    returns := if f = lfRETURN ∧ goal = lfPROVISIONED then x.returns + 1 else x.returns
    halves := if goal = lfSCRAPPED then [⟨0, 0, 0, none, [], []⟩, ⟨0, 0, 0, none, [], []⟩] else x.halves }
  let s := s.setFld F.FW_LIFECYCLE_STATE 0 goal
  let s := s.dropRam (· == 3)
  let s := { s with mm := { s.mm with items := [], migr := [] }, regs := s.regs.filter fun x => x.1.ix != 0x3838 }
  let s := if goal = lfSCRAPPED then s else s.storeNow
  (s.withSys fun y => { y with
    held := true, hostNext := true, lifeChanged := true, testPort := goal == lfMANUFACTURE || goal == lfRETURN }).driveFault

/-- A request judged (R431, R432). -/
def State.lifeJudge (s : State) (rq : Req) (b : List Byte) : Status × State :=
  let goal := byteAt b 16
  let ctx := byteAt b 17
  let s := s.withFw fun x => { x with lifeBuf := [] }
  let refuse := fun (s : State) (st : Status) => (st, s.note 0x800B goal st.code rq.ctx.val)
  if 4 ≤ ctx || !isZero ((b.drop 18).take 6) then (.range, s)
  else if !lifeLegal s goal then refuse s .transition
  else
    let byMaintain := lifeMaintain s rq.cls goal
    if rq.cls != (if byMaintain then Cls.maintain else Cls.secure) then refuse s .rights
    else
      let u := s.useChallenge s.fw.lifeCh (b.take 16)
      let s := s.withFw fun x => { x with lifeCh := u.2 }
      let signed_ := byMaintain || Config.ed25519 (s.contextKey ctx) (b.take 184) ((b.drop 184).take 64)
      if !(u.1 && signed_ && (!lifeToken s goal || s.tokenOk b)) then refuse s .auth
      else if goal != lfSCRAPPED && !contextsServe b then refuse s .busy
      else (.ok, s.lifeChange goal rq.ctx.val b)

/-- The length of the request whose TARGET has come. -/
def lifeLength (s : State) (b : List Byte) : Nat := if 17 ≤ b.length ∧ lifeToken s (byteAt b 16) = true then 8632 else 248

/-- A write of bytes of `FW_LIFECYCLE.02` from `off`. -/
def putLife (s : State) (rq : Req) (off : Nat) (l : List Byte) : HostWrite × (State → Status × State) :=
  let b := (if off = 0 then [] else s.fw.lifeBuf) ++ l
  (⟨⟨0x8050, 2, off⟩, [], 0, (off == 0 || off == s.fw.lifeBuf.length) && b.length ≤ lifeLength s b⟩, fun s =>
    if s.mode != SAFE then (.mode, s)
    else
      let s := s.withFw fun x => { x with lifeBuf := b }
      if b.length = lifeLength s b then s.lifeJudge rq b else (.ok, s))

def execLifecycleRequest (rq : Req) (off : Nat) (bytes : List Byte) (s : State) : Host.Outcome State Fault Refusal :=
  let x := putLife s rq off bytes
  done (s.request rq x.1 x.2)

end Sys2Proof.Machine
end

