-- ==== Sys2Proof/Machine/Power.lean ====
section
/-! DEFINITION. Power, health and ageing (chapter 18): switched domains, HOLD's wake, supplies, monitors, droops, the margin planner and
the core voltage. -/
namespace Sys2Proof.Machine

/-! ### Switched domains (R435–R440) -/

/-- Every domain of a present unit. -/
def State.domains (s : State) : List Nat :=
  (((List.range s.dies).flatMap fun d => (List.range 27).map (d * 32 + ·)) ++ [256, 257]).filter (domainPresent s.caps)

/-- A domain of a shroud's lanes. -/
def isShroud (e : Nat) : Bool := e < 256 && e % 32 < 16

/-- The shroud of a domain has its lanes stopped, or started. -/
def State.stopLanes (s : State) (e : Nat) : State := if isShroud e then (domainLanes e).foldl State.stopLane s else s
def State.startLanes (s : State) (e : Nat) : State := if isShroud e then (domainLanes e).foldl State.startLane s else s

def State.setDomain (s : State) (e n : Nat) : State := s.setNotify F.PW_DOMAIN_STATE e n

/-- Domains of a die that rise now; the package's two count for none. -/
def State.risingOn (s : State) (e : Nat) : Nat := (s.pw.rising.filter fun x => x < 256 && x / 32 == e / 32).length

/-- A domain is turned on: at most four of a die rise at once (R439). -/
def State.riseDomain (s : State) (e : Nat) : State :=
  let s := s.setDomain e dmRISING
  if e < 256 ∧ 4 ≤ s.risingOn e then s.withPw fun x => { x with waiting := x.waiting ++ [e] }
  else s.withPw fun x => { x with rising := x.rising ++ [e] }

/-- A domain no longer rises: the next of its die that waits takes its turn. -/
def State.endRise (s : State) (e : Nat) : State :=
  let s := s.withPw fun x => { x with rising := x.rising.filter (· != e) }
  match s.pw.waiting.find? fun x => x / 32 == e / 32 with
  | some n => s.withPw fun x => { x with rising := x.rising ++ [n], waiting := x.waiting.filter (· != n) }
  | none => s

/-- A domain is turned off: a rise that waits is cancelled (R439). -/
def State.fallDomain (s : State) (e : Nat) : State :=
  if s.pw.waiting.contains e then
    (s.withPw fun x => { x with waiting := x.waiting.filter (· != e) }).setDomain e dmOFF
  else
    let s := if s.pw.rising.contains e then s.endRise e else s
    (s.stopLanes e).setDomain e dmFALLING

/-- An engine of a group that is at work (R438). -/
def engineBusy (n : Nat) : Bool := n == engACTIVE || n == engSPARE || n == engMOVING || n == engTESTING

/-- A domain is in use (R438). -/
def State.domainInUse (s : State) (e : Nat) : Bool :=
  let d := e / 32
  let k := e % 32
  if e = 256 then s.mode != SAFE
  else if e = 257 then (List.range 8).any fun o => s.fld F.TM_OUT_MODE o != 0
  else if k < 16 then (domainLanes e).any fun l => s.laneCarries l || (isSpare l && s.spareInUse (spareElem l))
  else if k < 20 then s.fld F.MM_CHANNEL_EN (d * 4 + (k - 16)) == 1 && s.dramState (d * 4 + (k - 16)) != chOUT
  else if k < 22 then (List.range 16).any fun h => s.attached (d * 32 + (k - 20) * 16 + h)
  else if k = 22 then
    ((List.range 12).any fun p => s.dirState (d * 12 + p) false != apSTOPPED || s.dirState (d * 12 + p) true != apSTOPPED)
      || !(s.asrcBound d).isEmpty
  else if k < 26 then (List.range 24).any fun n => n / 9 == k - 23 && n < 21 && engineBusy (s.engine (d * 24 + n))
  else d == s.mastDie || ((List.range 4).any fun u => s.fld F.IC_CRC_STATE (d * 4 + u) == crRUNNING)
    || (List.range 32).any fun r => s.ringOn (d * 32 + r)

/-- An activation is prepared or ready (R438). -/
def State.activating (s : State) : Bool := s.fld F.FW_STATE_STATE 0 == fwPREPARING || s.fld F.FW_STATE_STATE 0 == fwREADY

/-- A domain follows its CMD; in HOLD and while held off it waits (R438). -/
def State.applyDomain (s : State) (e : Nat) : State :=
  let st := s.domain e
  if s.mode = HOLD ∨ st = dmHELD then s
  else if s.fld F.PW_DOMAIN_CMD e = 1 then (if st = dmOFF ∨ st = dmFAULT then s.riseDomain e else s)
  else if st = dmON ∨ st = dmRISING ∨ st = dmFAULT then s.fallDomain e
  else s

/-- A write of `PW_DOMAIN`. -/
def putDomain (e : Nat) (v : W) : HostWrite × (State → Status × State) :=
  let c := F.PW_DOMAIN_CMD.of v
  (⟨⟨0x8810, 0, e⟩, [(0, v)], 0, c < 2 && getBits v 12 2 == 0 && getBits v 0 8 == 0 && v.toNat < 65536⟩, fun s =>
    if !domainPresent s.caps e && c == 1 then (.absent, s)
    else if s.activating || (c == 0 && s.domainInUse e) then (.busy, s)
    else if !domainPresent s.caps e then (.ok, s)
    else (.ok, (s.putFld F.PW_DOMAIN_CMD e c).applyDomain e))

def execPwDomainWrite (rq : Req) (e : Nat) (v : W) (s : State) : Host.Outcome State Fault Refusal :=
  let x := putDomain e v
  done (s.request rq x.1 x.2)

/-- DOMAIN_ON_DONE: the unit starts as its own chapter sets out. -/
def State.domainOn (s : State) (e : Nat) : State :=
  if s.pw.rising.contains e then ((s.endRise e).setDomain e dmON).startLanes e else s

def execDomainOnDone (e : Nat) (s : State) : Host.Outcome State Fault Refusal := done (s.domainOn e)

/-- DOMAIN_FAULT. -/
def State.domainFault (s : State) (e : Nat) : State :=
  if s.pw.rising.contains e then
    ((s.endRise e).setDomain e dmFAULT).raise 0x880B (if e < 256 then e / 32 else s.mastDie) e 0 0
  else s

def execDomainFault (e : Nat) (s : State) : Host.Outcome State Fault Refusal := done (s.domainFault e)

/-- DOMAIN_OFF_DONE: an ON that came meanwhile raises it again. -/
def State.domainOff (s : State) (e : Nat) : State :=
  if s.domain e = dmFALLING ∧ domainPresent s.caps e = true then (s.setDomain e dmOFF).applyDomain e else s

def execDomainOffDone (e : Nat) (s : State) : Host.Outcome State Fault Refusal := done (s.domainOff e)

/-- Every switched domain is held off (R436). -/
def State.holdDomains (s : State) : State :=
  let s := s.withPw fun x => { x with waiting := [], rising := [] }
  s.domains.foldl (fun s e => (s.stopLanes e).setDomain e dmHELD) s

/-- Each held domain goes to its CMD (R436, R440). -/
def State.releaseDomains (s : State) : State :=
  s.domains.foldl (fun s e =>
    if s.domain e != dmHELD then s
    else if s.fld F.PW_DOMAIN_CMD e = 1 then s.riseDomain e
    else s.setDomain e dmOFF) s

/-- The domains among those that rise or wait to, which `p` picks, are on. -/
def State.finishSome (s : State) (p : Nat → Bool) : State :=
  let l := (s.pw.rising ++ s.pw.waiting).filter p
  let s := s.withPw fun x => { x with waiting := x.waiting.filter fun e => !p e, rising := x.rising.filter fun e => !p e }
  l.foldl (fun s e => (s.setDomain e dmON).startLanes e) s

/-- Every domain that rises or waits to is on. -/
def State.finishRising (s : State) : State := s.finishSome fun _ => true

/-! ### HOLD (R440) -/

/-- HOLD_WAKE. -/
def State.holdWake (s : State) : State :=
  if s.mode = HOLD then s.withPw fun x => { x with awake := true, lastReq := s.now } else s

def execHoldWake (s : State) : Host.Outcome State Fault Refusal := done s.holdWake

/-- HOLD_RETENTION: 1 s without a request. -/
def State.holdRetention (s : State) : State :=
  if s.mode = HOLD ∧ s.pw.awake = true then
    (s.waitUntil (s.pw.lastReq + secs 1)).withPw fun x => { x with awake := false }
  else s

def execHoldRetention (s : State) : Host.Outcome State Fault Refusal := done s.holdRetention

/-! ### Supplies and temperature (R441–R443) -/

def State.supplySeen (s : State) (c : Nat) : State := s.setFld F.PW_SUPPLY_SEEN 0 (s.fld F.PW_SUPPLY_SEEN 0 ||| 2 ^ c)

/-- SUPPLY_LOW. -/
def State.supplyLow (s : State) (c mv us : Nat) : State :=
  if c < 2 ∨ 6 ≤ c then s else (s.supplySeen c).note 0x8801 c mv us

def execSupplyLow (c mv us : Nat) (s : State) : Host.Outcome State Fault Refusal := done (s.supplyLow c mv us)

/-- CORE_DIP: a comparator falls below its threshold, or returns (R441, R442); comparators 2 to 5 cross theirs by the same command
(DESIGN CHOICE: the table has no row of theirs before the 10 µs of SUPPLY_LOW). -/
def State.coreDip (s : State) (c : Nat) (below : Bool) : State :=
  if 6 ≤ c then s
  else
    let n := s.fld F.PW_SUPPLY_NOW 0
    if below then (s.setFld F.PW_SUPPLY_NOW 0 (n ||| 2 ^ c)).supplySeen c
    else s.setFld F.PW_SUPPLY_NOW 0 (if n / 2 ^ c % 2 = 1 then n - 2 ^ c else n)

def execCoreDip (c : Nat) (below : Bool) (s : State) : Host.Outcome State Fault Refusal := done (s.coreDip c below)

/-- The temperature monitor of a die that reads highest. -/
def State.hotMonitor (s : State) (d : Nat) : Nat :=
  (List.range 12).foldl (fun b i =>
    if signed 16 (s.fld F.PW_MON_VALUE b) < signed 16 (s.fld F.PW_MON_VALUE (d * 128 + i)) then d * 128 + i else b) (d * 128)

/-- THERMAL_WARN: the hottest die and its Tj, at or above the threshold where WARN is armed; 5 °C below it rearms. -/
def State.thermalWarn (s : State) (d tj : Nat) : State :=
  let t := s.fld F.PW_THERM_THRESHOLD 0
  if s.dies ≤ d then s
  else if s.pw.warnArmed && t ≤ tj then
    ((s.withPw fun x => { x with warnArmed := false }).raise 0x8802 d d tj t).notify 0x8818 (s.hotMonitor d)
  else if tj + 5 ≤ t then s.withPw fun x => { x with warnArmed := true }
  else s

def execThermalWarn (d tj : Nat) (s : State) : Host.Outcome State Fault Refusal := done (s.thermalWarn d tj)

/-! ### Monitors (R444–R448) -/

def State.monWorks (s : State) (e : Nat) : Bool := monitorExists s.dies e && s.fld F.PW_MON_STATUS e == 0

/-- MONITOR_FAIL. -/
def State.monitorFail (s : State) (e value : Nat) : State :=
  if s.monWorks e then
    let s := s.setFld F.PW_MON_VALUE e value
    (s.setNotify F.PW_MON_STATUS e 1).raise 0x880A (e / 128) (e / 128) e (value % 65536)
  else s

def execMonitorFail (e value : Nat) (s : State) : Host.Outcome State Fault Refusal := done (s.monitorFail e value)

/-- A reading as its monitor orders it: temperatures are signed. -/
def monNum (e v : Nat) : Int := if monKind e = 0 then signed 16 v else Int.ofNat (v % 65536)

/-- A die whose comparator tripped reads 110 °C or less again (R35). -/
def State.untrip (s : State) (d : Nat) : State := s.withSys fun y => { y with tripped := y.tripped.filter (· != d) }

/-- A new reading of a working monitor, and its extremes. -/
def State.reading (s : State) (e v : Nat) : State :=
  if !s.monWorks e then s
  else
    let first := !s.pw.read.contains e
    let s := if first then s.withPw fun x => { x with read := e :: x.read } else s
    let low := s.fld F.PW_MON_LOW e
    let high := s.fld F.PW_MON_HIGH e
    let s := s.setFld F.PW_MON_VALUE e v
    let s := if monKind e = 0 ∧ monNum e v ≤ 1100 then s.untrip (e / 128) else s
    let s := if first || monNum e v < monNum e low then s.setFld F.PW_MON_LOW e v else s
    if first || monNum e high < monNum e v then s.setFld F.PW_MON_HIGH e v else s

/-- LOW and HIGH restart from the current value once read (R445). -/
def State.monRestart (s : State) (e : Nat) : State :=
  let v := s.fld F.PW_MON_VALUE e
  (s.setFld F.PW_MON_LOW e v).setFld F.PW_MON_HIGH e v

/-- The mean of a die's working core-grid monitors, mV (the first ten voltage monitors: DEDUCED). -/
def State.coreMean (s : State) (d : Nat) : Option Nat :=
  let l := ((List.range 10).map (d * 128 + 16 + ·)).filter fun e => s.monWorks e && s.pw.read.contains e
  if l.isEmpty then none else some ((l.map fun e => s.fld F.PW_MON_VALUE e).sum / l.length)

/-- A rigging region has lost all four of its pace rings (R446). -/
def State.estimated (s : State) (d : Nat) : Bool :=
  (List.range 8).any fun k => (List.range 4).all fun j => !s.monWorks (d * 128 + 64 + 4 * k + j)

/-- The figures of one die. -/
def State.pace (s : State) (x : PaceReading) : State :=
  if s.dies ≤ x.die then s
  else
    let s := s.setFld F.PW_PACE_ESTIMATED x.die (flag (s.estimated x.die))
    let s := (s.setFld F.PW_PACE_LOAD x.die x.load).setFld F.PW_PACE_REGION x.die x.region
    (s.setFld F.PW_PACE_CONFIG x.die x.config).setFld F.PW_PACE_RATED x.die x.rated

/-- PACE_UPDATE: the monitors' readings, NOW of `PW_VCORE`, the margins. -/
def State.paceUpdate (s : State) (readings : List (Nat × Nat)) (pace : List PaceReading) : State :=
  let s := readings.foldl (fun (s : State) (x : Nat × Nat) => s.reading x.1 x.2) s
  let means := (List.range s.dies).filterMap s.coreMean
  let s := match means with
    | [] => s
    | m :: l => s.setFld F.PW_VCORE_NOW 0 (l.foldl min m)
  pace.foldl State.pace s

def execPaceUpdate (readings : List (Nat × Nat)) (pace : List PaceReading) (s : State) : Host.Outcome State Fault Refusal :=
  done (s.paceUpdate readings pace)

/-! ### Droops (R449–R451) -/

def State.setDroop (s : State) (d : Nat) (x : Droop) : State := s.withPw fun p => { p with droop := p.droop.set d x }

/-- DROOP_START. -/
def State.droopStart (s : State) (d : Nat) : State :=
  match s.pw.droop[d]? with
  | some x => if x.active then s else s.setDroop d { x with active := true, since := s.now }
  | none => s

def execDroopStart (d : Nat) (s : State) : Host.Outcome State Fault Refusal := done (s.droopStart d)

/-- What a die's transmit lanes' lead lacks after a droop of depth `depth` that lasted `ns`, at a configured margin `m`, both in 0.001 (R449): it
refilled at (m − 1) of lane time since the last droop, and drained at (1 − s × m) during this one. -/
def Droop.drained (x : Droop) (full depth ns m : Nat) : Nat :=
  min full ((x.short - (x.since - x.ended) * (m - 1000) / 1000) + ns * nsUnits * (1000000 - depth * m) / 1000000)

/-- DROOP_END: depth in 0.001, duration in ns, the die's configured margin then, of 1-ms means, in 0.001; transmit lanes that carried essence. -/
def State.droopEnd (s : State) (d depth ns margin lanes : Nat) : State :=
  match s.pw.droop[d]? with
  | none => s
  | some x =>
    if !x.active then s
    else
      let full := s.fld F.IC_TX_LEAD_LEAD d * sheetUnits
      let short := x.drained full depth ns margin
      let left := full - short
      let s := s.setDroop d ⟨false, x.since, s.now, short⟩
      let s := s.setFld F.PW_DROOP_MINS d (min depth (s.fld F.PW_DROOP_MINS d))
      let s := s.setFld F.PW_DROOP_MINLEAD d (min ((left + nsUnits / 2) / nsUnits) (s.fld F.PW_DROOP_MINLEAD d))
      let s := s.setFld F.PW_DROOP_LONGEST d (max (min (ns / 10) 65535) (s.fld F.PW_DROOP_LONGEST d))
      let s := s.bump F.PW_DROOP_DROOPS d 1
      let s := if left = 0 then (s.bump F.PW_DROOP_LOSSES d 1).raise 0x8804 d d lanes ns else s
      if depth < 500 ∨ left * 2 < full then s.raise 0x8803 d d depth ns else s

def execDroopEnd (d depth ns margin lanes : Nat) (s : State) : Host.Outcome State Fault Refusal :=
  done (s.droopEnd d depth ns margin lanes)

/-! ### The margin planner (R453–R456) -/

def plNONE : Nat := 0
def plWARN : Nat := 1
def plPROPOSE : Nat := 2

def kVSTEP : Nat := 1
def kLAYER : Nat := 2
def kFSYNC : Nat := 3

def State.configured (s : State) (d : Nat) : Nat := s.fld F.PW_PACE_CONFIG d

/-- Dies with a margin to judge. -/
def State.paced (s : State) : List Nat := (List.range s.dies).filter fun d => s.configured d != 0 && !s.sys.isolated.contains d

def State.coreTarget (s : State) : Nat := s.fld F.PW_VCORE_TARGET 0

def State.predicted (s : State) (v : Nat) (taken : List (Nat × Nat)) (d : Nat) : Nat :=
  Config.predict d (s.configured d) s.coreTarget v taken

def planGoal : Nat := 1250

/-- The voltage of R454. -/
def State.planVolt (s : State) : Nat :=
  let t := s.coreTarget
  (((List.range ((880 - t) / 5 + 1)).map (t + 5 * ·)).find? fun v => s.paced.all fun d => planGoal ≤ s.predicted v [] d).getD 880

/-- What a die may shed, in order: heart layers, FSYNC sources (R454, R455). -/
def State.planCands (s : State) (d : Nat) : List (Nat × Nat) :=
  let heads := ((List.range 32).reverse.map (d * 32 + ·)).filter fun h => s.attached h && s.fld F.PW_KEEP_KEEP (16384 + h) == 0
  let layers := heads.flatMap fun h =>
    (((List.range 8).reverse.map (h * 8 + ·)).filter fun l => lClass (s.word 0x3820 l 0) == lHEART).map fun l => (kLAYER, l)
  let srcs := (s.dieSources d).reverse.filter fun x => s.isFsync x.1 && s.fld F.PW_KEEP_KEEP x.1 == 0
  (if s.fld F.PW_SHED_LAYERS 0 = 1 then layers else []) ++ (if s.fld F.PW_SHED_FSYNC 0 = 1 then srcs.map fun x => (kFSYNC, x.1) else [])

/-- Candidates taken until the die reaches the goal. -/
def takeItems (reach : List (Nat × Nat) → Bool) : List (Nat × Nat) → List (Nat × Nat) → List (Nat × Nat)
  | [], t => t
  | c :: r, t => if reach t then t else takeItems reach r (t ++ [c])

/-- A list put in order of a key, equal keys as they came. -/
def sortBy (key : Nat → Nat) (l : List Nat) : List Nat :=
  l.foldl (fun r x => r.takeWhile (fun y => key y ≤ key x) ++ [x] ++ r.dropWhile (fun y => key y ≤ key x)) []

/-- The items of a proposal: die, kind, ident; and the voltage that they assume. -/
def State.planItems (s : State) : Nat × List (Nat × Nat × Nat) :=
  let v := s.planVolt
  let low := (sortBy (s.predicted v []) s.paced).filter fun d => s.predicted v [] d < planGoal
  let shed := low.flatMap fun d => (takeItems (fun t => planGoal ≤ s.predicted v t d) (s.planCands d) []).map fun x => (d, x)
  (v, ((if s.coreTarget < v then [(0, kVSTEP, v)] else []) ++ shed).take 64)

/-- The lowest margin that the first items lead to. -/
def State.planAfter (s : State) (v : Nat) (items : List (Nat × Nat × Nat)) : Nat :=
  s.paced.foldl (fun m d =>
    min m (s.predicted v ((items.filter fun x => x.1 == d && x.2.1 != kVSTEP).map (·.2)) d)) 65535

def planWord (x : Nat × Nat × Nat) (after : Nat) : W :=
  BitVec.ofNat 64 (x.2.1 * 2 ^ 60 + x.1 * 2 ^ 57 + x.2.2 * 2 ^ 32 + after % 65536)

/-- What of an item makes it that item. -/
def planItemOf (v : W) : Nat := v.toNat / 2 ^ 32

/-- Elements 1–64. -/
def State.showItems (s : State) (words : List W) : State :=
  (List.range 64).foldl (fun s i => s.setWord 0x8838 (i + 1) 0 (words.getD i 0)) s

/-- The die of the lowest configured margin. -/
def State.lowestDie (s : State) : Nat :=
  match s.paced with
  | [] => 0
  | d :: l => l.foldl (fun b x => if s.configured x < s.configured b then x else b) d

/-- Element 0. -/
def State.showPlan (s : State) (st result items : Nat) : State :=
  let d := s.lowestDie
  let m := if s.paced.isEmpty then 0 else s.configured d
  let s := (s.setFld F.PW_PLAN_MARGIN 0 m).setFld F.PW_PLAN_DIE 0 d
  ((s.setFld F.PW_PLAN_ITEMS 0 items).setFld F.PW_PLAN_RESULT 0 result).setFld F.PW_PLAN_STATE 0 st

/-- A proposal (R454): a new plan where its items are new. -/
def State.propose (s : State) (fresh : Bool) : State :=
  let p := s.planItems
  let words := (List.range p.2.length).map fun i => planWord (p.2.getD i (0, 0, 0)) (s.planAfter p.1 (p.2.take (i + 1)))
  let old := ((List.range (s.fld F.PW_PLAN_ITEMS 0)).map fun i => s.word 0x8838 (i + 1) 0)
  let s1 := (s.showPlan plPROPOSE (if planGoal ≤ s.planAfter p.1 p.2 then 1 else 2) words.length).showItems words
  if fresh || old.map planItemOf != words.map planItemOf then
    let n := (s.fld F.PW_PLAN_PLAN 0 + 1) % 65536
    let d := s.lowestDie
    ((s1.setFld F.PW_PLAN_PLAN 0 n).raise 0x8806 d d (s.configured d) n).notify 0x8838 0
  else s1

/-- PLANNER_EVAL. -/
def State.plannerEval (s : State) : State :=
  let m := s.configured
  let warn := s.paced.filter fun d => m d < 1250 || (s.pw.warn.contains d && m d < 1300)
  let prop := s.paced.filter fun d => m d < 1100 || (s.pw.propose.contains d && m d < 1150)
  let newly := warn.filter fun d => !s.pw.warn.contains d
  let fresh := s.pw.propose.isEmpty
  let s := s.withPw fun x => { x with warn := warn, propose := prop }
  let s := newly.foldl (fun s d => s.raise 0x8805 d d (s.configured d) 1250) s
  if prop.isEmpty then (s.showPlan (if warn.isEmpty then plNONE else plWARN) 0 0).showItems []
  else s.propose fresh

def execPlannerEval (s : State) : Host.Outcome State Fault Refusal := done s.plannerEval

/-! ### Ageing (R452, R460) -/

/-- What the model makes of a die's history. -/
def State.aged (s : State) (d : Nat) : List Nat :=
  Config.ageing ((s.pw.history.flatMap fun l => l.filter fun x => x.die == d).map fun x => (x.tj, x.shift, x.hours, x.margin))
    (s.fld F.PW_VCORE_NOW 0)

/-- A die's projections, and MARGIN-TREND, at most one every 30 days (R453). -/
def State.project (s : State) (d : Nat) : State :=
  let o := s.aged d
  let s := (s.setFld F.PW_PACE_YEARS110 d (o.getD 3 0)).setFld F.PW_PACE_YEARS125 d (o.getD 2 0)
  let s := (s.setFld F.PW_PACE_PROJ30 d (o.getD 1 0)).setFld F.PW_PACE_PROJ10 d (o.getD 0 0)
  let due := match s.pw.trendAt with | some t => t + secs 2592000 ≤ s.now | none => true
  if s.fld F.PW_PACE_YEARS125 d < 10 && due then
    (s.withPw fun x => { x with trendAt := some s.now }).raise 0x8807 d d (s.fld F.PW_PACE_YEARS125 d) (s.fld F.PW_PACE_PROJ10 d)
  else s

/-- AGEING_UPDATE. -/
def State.ageingUpdate (s : State) (inp : List AgeInput) : State :=
  let s := s.withPw fun x => { x with history := inp :: x.history }
  (inp.filter fun x => x.die < s.dies).foldl (fun (s : State) (x : AgeInput) => s.project x.die) s

def execAgeingUpdate (inp : List AgeInput) (s : State) : Host.Outcome State Fault Refusal := done (s.ageingUpdate inp)

/-- `PW_AGE` of every die, recomputed at each LOAD (R460); SHIFT is the largest reading of the die's ageing pairs. -/
def State.ageRecord (s : State) : State :=
  (List.range s.dies).foldl (fun s d =>
    let o := s.aged d
    let shift := ((List.range 8).map fun i => s.fld F.PW_MON_VALUE (d * 128 + 96 + i)).foldl max 0
    let s := (s.setFld F.PW_AGE_HOTH d (o.getD 8 0)).setFld F.PW_AGE_POWERH d (o.getD 7 0)
    let s := (s.setFld F.PW_AGE_RATE d (o.getD 6 0)).setFld F.PW_AGE_LIFEH d (o.getD 4 0)
    s.setFld F.PW_AGE_SHIFT d shift) s

/-! ### Core voltage (R457, R458) -/

def vcSETTLED : Nat := 0
def vcSLEWING : Nat := 1
def vcMISMATCH : Nat := 2
def vcNOREG : Nat := 3

def State.vcore (s : State) : Nat := s.fld F.PW_VCORE_STATE 0
def State.setVcore (s : State) (n : Nat) : State := s.setFld F.PW_VCORE_STATE 0 n

/-- The part walks to TARGET from the voltage last written. -/
def State.startWalk (s : State) : State := if s.pw.written = s.coreTarget then s else s.setVcore vcSLEWING

/-- A write of `PW_VCORE.02`. -/
def putTarget (s : State) (rq : Req) (v : W) : HostWrite × (State → Status × State) :=
  let n := v.toNat
  (⟨⟨0x8840, 2, 0⟩, [(2, v)], 0, s.fld F.PW_VCORE_SETPOINT 0 ≤ n && n ≤ 880 && n % 5 == 0⟩, fun s =>
    let old := s.coreTarget
    (.ok, ((s.putWord 0x8840 0 2 v).startWalk).note 0x8808 old n rq.ctx.val))

def execVcoreTargetWrite (rq : Req) (v : W) (s : State) : Host.Outcome State Fault Refusal :=
  let x := putTarget s rq v
  done (s.request rq x.1 x.2)

/-- 5 mV from `a` towards `b`. -/
def stepMv (a b : Nat) : Nat := if a < b then min b (a + 5) else max b (a - 5)

/-- A write to the regulator, which acknowledges it or does not. -/
def State.writeVcore (s : State) (ack : Bool) : State :=
  let t := s.coreTarget
  let old := s.vcore
  if ack then (s.withPw fun x => { x with written := stepMv x.written t, writeAt := s.now }).setVcore vcSLEWING
  else
    let s := (s.withPw fun x => { x with writeAt := s.now }).setVcore vcNOREG
    if old = vcNOREG then s else s.note 0x8809 t (s.fld F.PW_VCORE_NOW 0) 2

/-- VCORE_STEP: 100 µs after the last write. -/
def State.vcoreStep (s : State) (ack : Bool) : State :=
  if s.vcore = vcSLEWING ∧ s.pw.written ≠ s.coreTarget then (s.waitUntil (s.pw.writeAt + us 100)).writeVcore ack else s

def execVcoreStep (ack : Bool) (s : State) : Host.Outcome State Fault Refusal := done (s.vcoreStep ack)

/-- VCORE_SETTLE_CHECK: 1 ms after the last write; not during a droop (R461). -/
def State.vcoreCheck (s : State) (now : Nat) (ack : Bool) : State :=
  if (s.vcore = vcSLEWING ∨ s.vcore = vcMISMATCH) ∧ s.pw.written = s.coreTarget ∧ !(s.pw.droop.any (·.active)) then
    let s := s.waitUntil (s.pw.writeAt + ms 1)
    let s := s.setFld F.PW_VCORE_NOW 0 now
    let t := s.coreTarget
    let old := s.vcore
    if !ack then (s.setVcore vcNOREG).note 0x8809 t now 2
    else if now ≤ t + 15 ∧ t ≤ now + 15 then s.setVcore vcSETTLED
    else if old = vcMISMATCH then s
    else (s.setVcore vcMISMATCH).note 0x8809 t now 1
  else s

def execVcoreSettleCheck (now : Nat) (ack : Bool) (s : State) : Host.Outcome State Fault Refusal := done (s.vcoreCheck now ack)

/-- VCORE_RETRY: the last write repeated, 1 s after it. A mismatch stays one until a check finds it settled. -/
def State.vcoreRetry (s : State) (ack : Bool) : State :=
  let st := s.vcore
  if st = vcMISMATCH ∨ st = vcNOREG then
    let s := (s.waitUntil (s.pw.writeAt + secs 1)).writeVcore ack
    if st = vcMISMATCH ∧ ack then s.setVcore vcMISMATCH else s
  else s

def execVcoreRetry (ack : Bool) (s : State) : Host.Outcome State Fault Refusal := done (s.vcoreRetry ack)

end Sys2Proof.Machine
end

