-- ==== Sys2Proof/Machine/Objects.lean ====
section
/-! DEFINITION. Every object's write and read in one place: the write that a command without a row of its own makes (R335), and the value
that a read returns with what the read changes (R232, R255, R331, R341). -/
namespace Sys2Proof.Machine

/-- A write: how it reaches the mast, and the object's own rules. -/
abbrev Put := HostWrite × (State → Status × State)

/-! ### Objects that no row of the table writes -/

/-- A plain scalar: word `w` of a register, in range. -/
def putScalar (a : Addr) (v : W) (range : Bool) : Put :=
  (⟨a, [(regWord a.sub 0, v)], 0, range⟩, fun s => (.ok, s.putWord a.ix a.e (regWord a.sub 0) v))

/-- A plain scalar that SAFE and LOAD alone take. -/
def putConfig (a : Addr) (v : W) (range : Bool) : Put :=
  let x := putScalar a v range
  (x.1, fun s => s.configOnly x.2)

/-- Bits written 1 are cleared; `keep` are not the host's. -/
def putClearBits (a : Addr) (v keep : W) (range : Bool) : Put :=
  (⟨a, [(regWord a.sub 0, v)], 0, range⟩, fun s =>
    let o := s.word a.ix a.e (regWord a.sub 0)
    (.ok, s.setWord a.ix a.e (regWord a.sub 0) (o &&& (keep ||| ~~~v))))

/-- The number lies in a range. -/
def within (lo hi : Nat) (v : W) : Bool := lo ≤ v.toNat && v.toNat ≤ hi

/-- `TM_SERVO` (R273). -/
def servoRange (sub : Nat) (v : W) : Bool :=
  match sub with
  | 1 => F.TM_SERVO_KP.of v != 0 && F.TM_SERVO_KI.of v != 0
  | 2 => within 100 1000000 v
  | 3 => within 10 100000 v
  | 4 => within 1 1000 v
  | 5 => within 1 1000 v
  | _ => within 1000 1000000000 v

/-- `TM_HOLDOVER` (R278): a value written to AGEING replaces the one learned. -/
def putHoldover (a : Addr) (v : W) : Put :=
  match a.sub with
  | 1 => putScalar a v (within 30 1000 v)
  | 2 => putScalar a v (v.toNat ≤ 11)
  | 3 => (⟨a, [(3, v)], 0, true⟩, fun s => (.ok, (s.putWord 0x5040 0 3 v).withTm fun t => { t with learn := [], ageBase := signed 32 v.toNat }))
  | _ => (⟨a, [(a.sub, v)], 0, v == 1⟩, fun s => (.ok, s.forget))

/-- `TM_HO_CURVE` (R278). -/
def putCurve (e : Nat) (v : W) : Put :=
  (⟨⟨0x5048, 0, e⟩, [(0, v)], 0, true⟩, fun s =>
    (.ok, (s.putWord 0x5048 e 0 v).withTm fun t => { t with curve := t.curve.set e (signed 32 v.toNat * 4294967296) }))

/-- `TM_PTP_PORT` (R263). -/
def putPtpPort (s : State) (e : Nat) (v : W) : Put :=
  (⟨⟨0x5028, 0, e⟩, [(0, v)], 0, F.TM_PTP_PORT_MAC.of v < s.dies * 16 && F.TM_PTP_PORT_ROLE.of v < 2
      && F.TM_PTP_PORT_DOMAIN.of v ≤ 127 && F.TM_PTP_PORT_RESERVED.of v == 0⟩, fun s =>
    if s.refEnabled (6 + e) && v != s.word 0x5028 e 0 then (.busy, s) else (.ok, s.putWord 0x5028 e 0 v))

/-- `TM_REF_CMD` (R269). -/
def putRefCmd (e : Nat) (v : W) : Put :=
  (⟨⟨0x5020, 0, e⟩, [(0, v)], 0, v == 1 || v == 2⟩, fun s => if v = 1 then s.refAccept e else s.refRequalify e)

/-- Word 0 of `CT_BUS` (R307): the address applies at once. -/
def putBus (e : Nat) (v : W) : Put :=
  let ip := F.CT_BUS_IPADDR.of v
  let pre := F.CT_BUS_PREFIX.of v
  let addr := if ip = 0 then Config.linkLocal e else ip
  (⟨⟨0x6020, 0, e⟩, [(0, v)], 0, getBits v 0 26 == 0 && (ip == 0 || (8 ≤ pre && pre ≤ 30))⟩, fun s =>
    (.ok, (s.putWord 0x6020 e 0 v).withHost fun h => { h with bus := h.bus.modify e fun b => { b with ip := addr } }))

/-- `CT_LEASE` (R336): 1 TAKE, 2 RELEASE, 3 BREAK. -/
def putLease (rq : Req) (e : Nat) (v : W) : Put :=
  (⟨⟨0x6030, 0, e⟩, [(0, v)], 0, v == 1 || v == 2 || v == 3⟩, fun s =>
    let held := s.fld F.CT_LEASE_HELD e == 1
    let mine := held && s.fld F.CT_LEASE_CTX e == rq.ctx.val
    if v = 1 then
      if held && !mine then (.busy, s) else (.ok, s.putWord 0x6030 e 0 (BitVec.ofNat 64 (128 + rq.ctx.val)))
    else if v = 2 then if mine then (.ok, s.putWord 0x6030 e 0 0) else (.busy, s)
    else (.ok, s.putWord 0x6030 e 0 0))

/-- An enabled context with CEILING SECURE and a key stands (R320). -/
def State.contextServes (s : State) : Bool :=
  (List.range 4).any fun c => s.fld F.CT_CONTEXT_EN c == 1 && s.fld F.CT_CONTEXT_CEILING c == 3 && s.contextKey c != 0

/-- `CT_CONTEXT` (R320). -/
def putContext (c : Nat) (ws : List (Nat × W)) : Put :=
  (⟨⟨0x6018, 0, c⟩, ws, 0, ws.all fun x => x.1 != 0 || getBits x.2 0 59 == 0⟩, fun s =>
    let t := ws.foldl (fun (s : State) (x : Nat × W) => s.putWord 0x6018 c x.1 x.2) s
    if lifeState s != lfMANUFACTURE && !t.contextServes then (.busy, s) else (.ok, t))

/-! ### Words written one after another -/

/-- An object whose words have rules of their own, written in the order given: all of them, or none. -/
def eachWord (a : Addr) (ws : List (Nat × W)) (put : State → Nat → W → Put) (s : State) : Put :=
  (⟨a, ws, 0, ws.all fun x => (put s x.1 x.2).1.range⟩, fun s =>
    let r := ws.foldl (fun (acc : Status × State) (x : Nat × W) =>
      if acc.1 == .ok then (put acc.2 x.1 x.2).2 acc.2 else acc) (.ok, s)
    if r.1 == .ok then r else (r.1, s))

/-- A write whose outcome rests on a test that the write starts (R214, R397). -/
def withTest (hw : HostWrite) (own : Bool → State → Status × State) : Put :=
  (hw, fun s => let f := s.takeFree; own (f.2.getLsbD 0) f.1)

/-! ### Every object -/

/-- A write of words `ws` (of a STR or BLOB, bytes `l` from the element) to an object. `SY_MODE.02` and `CT_SESSION` are `putAny`'s. -/
def putObject (s : State) (rq : Req) (a : Addr) (ws : List (Nat × W)) (l : List Byte) : Put :=
  let e := a.e
  let v := (ws.head?.map (·.2)).getD 0
  let old := fun w => s.word a.ix e w
  let at_ := fun w => newWord ws w (old w)
  let w0 := newWord ws 0 0
  let w1 := (ws.find? fun x => x.1 == 1).map (·.2)
  match a.ix with
  | 0x1018 => putRole v
  | 0x1028 => if a.sub = 3 then putSave v else (⟨a, ws, 0, true⟩, fun s => (.rights, s))
  | 0x2010 => putTake s rq e w0 (at_ 1)
  | 0x2020 => putSalvo s rq e w0 (at_ 1)
  | 0x2038 => putScalar a v (within 1 16 v)
  | 0x2810 => putPort s false e v
  | 0x2818 => putPort s true e v
  | 0x2848 => putCal v
  | 0x2860 => putAlign e v
  | 0x286C => putGuard v
  | 0x3008 => putAuCtrl e v
  | 0x3010 => putAuSrc s e v
  | 0x3020 => putAuDst s rq e w0 w1
  | 0x3028 => putAuGain rq e v
  | 0x3030 => putEmbData e v
  | 0x3040 => putAudioPort false e v
  | 0x3048 => putMask e v
  | 0x3050 => putAudioPort true e v
  | 0x3058 => putStart s e w0 (at_ 1) (at_ 2)
  | 0x3060 => putAsrc s e v
  | 0x3810 => putHead s rq e w0 w1
  | 0x3820 => putLayer s rq e ws
  | 0x3828 => putPalette e v
  | 0x3830 => putImage e v
  | 0x3838 => putPixels e v
  | 0x4010 => putLane e v
  | 0x4018 => putTxeq e v
  | 0x4020 => putRxeq e v
  | 0x4030 => eachWord a ws.reverse (fun _ w v => putPrbs e w v []) s
  | 0x4038 => putSpare e v
  | 0x4040 => putErrLimit v
  | 0x4810 => eachWord a ws.reverse (fun _ w v => putMac e w v) s
  | 0x4818 => eachWord a ws (fun s w v => putXport s false e w v) s
  | 0x4820 => eachWord a ws (fun s w v => putXport s true e w v) s
  | 0x4828 => eachWord a ws.reverse (fun _ w v => putAflow false e w v) s
  | 0x4830 => eachWord a ws.reverse (fun _ w v => putAflow true e w v) s
  | 0x4840 =>
    let stops := s.ringOn e && (match w1 with | some v => F.MX_RING_EN.of v == 0 | none => false)
    eachWord a (if stops then ws.reverse else ws) (fun _ w v => putRing rq e w v) s
  | 0x4868 => putRecipe e v
  | 0x5000 => if a.sub = 2 then putClearBits a v 0 (v.toNat < 2048) else putScalar a v (v.toNat < 2048)
  | 0x5010 => putTmRef s rq e ws
  | 0x5020 => putRefCmd e v
  | 0x5028 => putPtpPort s e v
  | 0x5038 => putScalar a v (servoRange a.sub v)
  | 0x5040 => putHoldover a v
  | 0x5048 => putCurve e v
  | 0x5050 => putTmStep rq w0 (at_ 1) (at_ 2)
  | 0x5058 => putTmOut s e ws
  | 0x5808 => putTwConfig v
  | 0x5810 => putPair e v s
  | 0x6008 => putConfig a v (v.toNat < 4096)
  | 0x6018 => putContext e ws
  | 0x6020 => putBus e v
  | 0x6028 => putClearBits a v 0 (v.toNat < 32)
  | 0x6030 => putLease rq e v
  | 0x6038 => putScalar a v (getBits v 0 15 == 0)
  | 0x6808 => putQos e v
  | 0x680C => putAge v
  | 0x6828 => putEngCmd e v
  | 0x6830 => putCrc s rq e ws
  | 0x6840 => putConfig a v (within 2 16 v)
  | 0x7010 => putChannel e v
  | 0x7028 => putRankCmd e v
  | 0x7030 => putWipe v
  | 0x7820 => putCursor s e v
  | 0x7830 => putClear s (if e = 0 then l else [])
  | 0x7840 => withTest (putEvCmd e v false).1 fun b => (putEvCmd e v b).2
  | 0x7848 => putGpi e v
  | 0x8010 => putFwCmd w0 (at_ 1) (at_ 2)
  | 0x8018 => putSigPolicy rq v
  | 0x8030 => putFlash e l
  | 0x8040 => putNonce (if e = 0 then l else [])
  | 0x8050 => putLife s rq e l
  | 0x8808 => putClearBits a v 0x3F00 (getBits v 14 2 == 0 && getBits v 6 2 == 0)
  | 0x8810 => putDomain e v
  | 0x8820 => putScalar a v (within 90 120 v)
  | 0x8840 => if a.sub = 2 then putTarget s rq v else putScalar a v (within 8 119 v)
  | 0x8848 => putScalar a v (getBits v 0 30 == 0)
  | 0x884C => putScalar a v (v.toNat < 2)
  | _ => (⟨a, ws, 0, true⟩, fun s => (.rights, s))

/-- The write as the mast judges it: at its address, with every word inside its type. -/
def putTyped (o : Obj) (a : Addr) (ws : List (Nat × W)) (x : Put) : Put :=
  (⟨a, x.1.words, x.1.op, x.1.range && (o.typ.isBytes || ws.all fun y => o.typ.fits y.2)⟩, x.2)

/-! ### Reads -/

/-- Bits of a word with RC access that a read leaves: fields that are RO (R214, R261, R266, R292). -/
def keptBits (ix w : Nat) : W :=
  if ix = 0x4030 ∧ w = 2 then 0x8000000000000000
  else if (ix = 0x5018 ∧ w = 1) ∨ (ix = 0x5030 ∧ w = 2) ∨ (ix = 0x5818 ∧ w = 1) then 0xFFFFFFFF00000000
  else 0

/-- The bits of `mask` of an RC word cleared by a read; a monitor's extremes start again (R341, R445). -/
def State.clearWord (s : State) (ix e w : Nat) (mask : W) : State :=
  if wordAcc ⟨ix, e, w⟩ != .rc then s
  else if ix = 0x8818 then s.monRestart e
  else
    let m := mask &&& ~~~(keptBits ix w)
    s.setWord ix e w ((s.word ix e w &&& ~~~m) ||| (dflt ⟨ix, e, w⟩ &&& m))

/-- Bytes padded to `n` with zeros. -/
def padTo (n : Nat) (l : List Byte) : List Byte := (List.range n).map fun i => l.getD i 0

/-- A challenge of `CT_SESSION.03` (R320). -/
def State.hostChallenge (s : State) : List W × State :=
  let r := s.newChallenge s.host.challenge
  (byteWords (bytes128 r.1.value), r.2.2.withHost fun h => { h with challenge := r.2.1 })

/-- The bytes of a STR or BLOB, one in each word. -/
def State.readBytes (s : State) (ix sub : Nat) : List W × State :=
  match ix, sub with
  | 0x1000, _ => (byteWords (padTo 24 s.caps.member.order), s)
  | 0x6010, _ => s.hostChallenge
  | 0x7830, _ => s.clearChallenge
  | 0x8040, _ => (byteWords (padTo 4915 s.fw.quote), s)
  | 0x8048, _ => (byteWords (padTo 2689 (match s.fw.idKey with | some k => Config.idKeyBytes k | none => [])), s)
  | _, _ => s.lifeChallenge

/-- A value read whole, and the state after it: an RC word is cleared, a queue gives its oldest entry, a challenge is new. SAFE gives the
SAVED words only of what it does not serve whole, as the newest generation holds them (R418). -/
def State.readValue (s : State) (o : Obj) (e : Nat) (pcie : Bool) : List W × State :=
  let n := o.acc.length
  if o.typ.isBytes then
    let r := s.readBytes o.ix o.sub
    (r.1.drop e, r.2)
  else if s.mode = SAFE ∧ s.servesWhole o = false then
    ((List.range n).map fun w => if o.per.getD w .volatile == .saved then s.storedWord o.ix e (regWord o.sub w) else 0, s)
  else if o.ix = 0x681C then
    let s := s.runCrossbar
    (s.readElem o e, (List.range n).foldl (fun (s : State) w => s.clearWord o.ix e (regWord o.sub w) (~~~0)) s)
  else if o.ix = 0x6830 then
    let s := s.crcProgress e
    (s.readElem o e, s)
  else if o.ix = 0x4850 then s.tsqPop e
  else if o.ix = 0x4860 then s.statsTake e pcie
  else
    let l := s.readElem o e
    let s := if o.ix = 0x5008 then s.withTm fun t => { t with timeLatch := (l.getD 1 0, l.getD 2 0) } else s
    (l, (List.range n).foldl (fun (s : State) w => s.clearWord o.ix e (regWord o.sub w) (~~~0)) s)

end Sys2Proof.Machine
end

