-- ==== Sys2Proof/Machine/System.lean ====
section
/-! DEFINITION. Operating modes, the start sequence, the protections and the resets (chapter 1, R417, R418, R464, R465, R477, R478). -/
namespace Sys2Proof.Machine

/-! ### Modes (R28–R33) -/

def phSETTLED : Nat := 0
def phRUNNING : Nat := 1
def phDONE : Nat := 2
def phFAILED : Nat := 3

/-- CAUSE codes of `SY_MODE` (R29). -/
def causeHOST : Nat := 0
def causeTHERMAL : Nat := 1
def causeUNDERVOLTAGE : Nat := 2
def causePOWERON : Nat := 3
def causeEXTERNAL : Nat := 4

/-- A mode in which nothing of the essence plane serves its takes (R94). -/
def idleMode (m : Nat) : Bool := m == SAFE || m == LOAD || m == HOLD || m == SERVICE

/-- What is in progress ends: takes, salvos, audio changes and head commits (R94), streams and triggers (R152), spares that mirror
(R213). -/
def State.stopWork (s : State) : State := s.endAllWork.stopAudio.stopSpares

/-- References that do not run in the mode in force read LOS (R256); PTP ports run or end with it (R262). -/
def State.fitRefs (s : State) : State :=
  let s := (List.range 14).foldl (fun (s : State) r => if s.refRuns r then s else s.refLost r 1) s
  (List.range 4).foldl (fun (s : State) p =>
    if s.ptpRuns p && s.fld F.TM_PTP_STAT_PSTATE p != 0 then s else s.ptpRestart p) s

/-- A mode is entered: `SY_MODE` (R29), and what follows the mode alone. -/
def State.enterMode (s : State) (m phase cause : Nat) : State :=
  let s := (s.setFld F.SY_MODE_MODE 0 m).setFld F.SY_MODE_TARGET 0 m
  let s := (s.setFld F.SY_MODE_PHASE 0 phase).setFld F.SY_MODE_CAUSE 0 cause
  let s := s.withSys fun y => { y with entered := s.now }
  let s := if idleMode m then s.stopWork else s
  s.fitRefs.refreshClaim

/-- A copy of a rank stops, and every hold is released (R386). -/
def State.stopCopies (s : State) : State := s.mm.migr.foldl (fun (s : State) x => s.releaseHolds x.ch) s

/-- No engine keeps code in SAFE (R23): each waits for its next loading, as after a package reset. -/
def State.dropCode (s : State) : State :=
  let s := { s with ic := { s.ic with restoring := [], moving := [] } }
  (List.range (s.dies * 24)).foldl (fun (s : State) e =>
    ((s.setFld F.IC_ENGINE_BANK e 0).setFld F.IC_ENGINE_FWVER e 0).setEngine e engLOADING) s

/-- SAFE serves and saves the restored port tables that failed LOAD's checks (R418, R478). -/
def State.showKept (s : State) : State :=
  if s.save.kept.isEmpty then s
  else { s with regs := takeOver swapped s.regs s.save.kept, save := { s.save with kept := [] } }

/-- Entry to SAFE (R31–R33): a transition in progress is abandoned, an update in TRIAL rolls back (R429), learning is saved (R278),
every master but M0, M2 and M10 stops and REMAP clears (R356), no engine keeps code (R23). -/
def State.enterSafe (s : State) (cause : Nat) : State :=
  let s := s.enterMode SAFE phSETTLED cause
  let s := if s.inTrial then s.rollbackFw 2 else s.dropUpdate
  let s := (List.range s.dies).foldl (fun (s : State) d => s.setFld F.IC_REMAP_REMAP d 0) (s.resetMasters [1, 3, 4, 5, 6, 7, 8, 9, 11]).runCrossbar
  let s := (s.withSys fun y => { y with claimHigh := false }).stopCopies.learnSave.dropCode.showKept
  s.refreshClaim

/-- Every die reads Tj at or below 110 °C by its working temperature monitors (R32), and since its comparator last tripped (R35).
DESIGN CHOICE (log 141): a die without a working temperature monitor, or whose monitors have not read yet, counts as cool unless its
comparator has tripped. -/
def State.coolEnough (s : State) : Bool :=
  s.sys.tripped.isEmpty && (List.range s.dies).all fun d => (List.range 12).all fun i =>
    let e := d * 128 + i
    s.fld F.PW_MON_STATUS e != 0 || signed 16 (s.fld F.PW_MON_VALUE e) ≤ 1100

/-- An ACTIVE CORE may go to HOLD: the twin holds the higher claim at the edges, as its last health report shows (R32, R303). -/
def State.twinHolds (s : State) : Bool :=
  s.sys.role == CORE && s.fld F.TW_HEALTH_MODE 1 == ACTIVE && s.fld F.TW_STATE_EDGEOWN 0 < s.fld F.TW_HEALTH_EDGEOWN 1

/-- A transition that R32 allows, its condition met. -/
def State.modeLegal (s : State) (goal : Nat) : Bool :=
  let m := s.mode
  if goal = SAFE then true
  else if s.phase = phRUNNING then false
  else if goal = LOAD then m == SAFE && s.coolEnough
  else if goal = STANDBY then (m == LOAD && s.phase == phDONE) || m == ACTIVE || m == SERVICE || m == HOLD
  else if goal = ACTIVE then m == STANDBY
  else if goal = HOLD then m == STANDBY || (m == ACTIVE && s.twinHolds)
  else m == STANDBY

/-- A transition begins: PHASE and TARGET. -/
def State.beginMode (s : State) (goal : Nat) : State :=
  let s := (s.setFld F.SY_MODE_PHASE 0 phRUNNING).setFld F.SY_MODE_TARGET 0 goal
  s.withSys fun y => { y with asked := s.now }

/-- DRAM channels in service are placed in self-refresh (R34). -/
def State.sleepChannels (s : State) : State :=
  (List.range (s.dies * 4)).foldl (fun (s : State) c => if s.chanServes c then s.setChanState c chSELFREF else s) s

/-- A channel whose SRAM goes off: its transitions and ramps end; a line of at most 64 samples is lost, a longer one lies in DRAM
(R34, R135). -/
def Chan.sleep (c : Chan) : Chan :=
  { c with base := c.goal, trs := [], gain0 := c.gain1, ramp := 64, delay0 := c.delayGoal, delays := [], raw := 0, sent := [], hush := 64,
           line := if c.delayGoal ≤ 64 then [] else c.line, out := 0 }

/-- VOLATILE words that a die's own planes keep outside the crosspoint's and the sillage's regions: the object, its elements a die and its
first such word (DEDUCED, log 153). -/
def planeWords : List (Nat × Nat × Nat) :=
  [(0x2858, 64, 0), (0x3038, 1, 0), (0x3068, 12, 0), (0x4028, 160, 1), (0x4030, 160, 0), (0x4038, 16, 2), (0x4840, 32, 0), (0x4848, 16, 0),
   (0x4850, 32, 0), (0x4858, 2048, 0), (0x4860, 16, 0), (0x6818, 8, 0), (0x681C, 10, 0), (0x6820, 24, 1), (0x6830, 4, 0), (0x6838, 1, 0),
   (0x7008, 1, 0), (0x8830, 1, 0)]

/-- A word lost in HOLD: of a die whose control plane is not retained (R440), outside the regions of SRAM that R34 keeps. -/
def lostInHold (k : Key) : Bool := planeWords.any fun x => k.ix == x.1 && 2 ≤ k.e / x.2.1 && x.2.2 ≤ k.w

/-- What HOLD switches off (R34, R440): all SRAM but the crosspoint's and the sillage's regions, and the control planes of all dies but 0
and 1 (log 153). -/
def State.dropBuffers (s : State) : State :=
  let s := s.dropRam (· != 3)
  { s with
    regs := s.regs.filter fun x => !lostInHold x.1
    lk := { s.lk with bank := [], streams := [] }
    au := { s.au with chans := s.au.chans.map Chan.sleep, last := [], slips := [] }
    ap := { s.ap with lines := [], rx := [] }
    mx := { s.mx with flows := [], sdi := [], placed := [], tsq := s.mx.tsq.filter fun x => x.e < 64 } }

/-- An engine whose code HOLD keeps: the spar and keeper cores of the retained control planes (R440). -/
def heldEngine (e : Nat) : Bool := engDie e < 2 && 21 ≤ engNo e

/-- The engines' local memory goes off in HOLD (R34, R372): those in service await their code again, and a RESTORE in progress ends without
its test (DEDUCED, log 153). -/
def State.unloadEngines (s : State) : State :=
  let l := (List.range (s.dies * 24)).filter fun e => !heldEngine e && s.engine e != engFAILED
  let s := l.foldl (fun (s : State) e => s.setEngine e (if s.ic.restoring.contains e then engFAILED else engLOADING)) s
  { s with ic := { s.ic with restoring := [], moving := [] } }

/-- Engines take their code again on the return from HOLD, each with the ports that it carried. -/
def State.reloadEngines (s : State) : State :=
  ((List.range (s.dies * 24)).filter fun e => s.engine e == engLOADING).foldl (fun (s : State) e =>
    s.setEngine e (if isEssence e && !s.ic.place.any (fun x => x.2.2 == e) then engSPARE else engACTIVE)) s

/-- Entry to HOLD begins (R34, R440): the settings are flushed (R347), what is in progress ends, channels go to self-refresh and
domains are held. -/
def State.beginHold (s : State) : State :=
  let s := if s.fld F.SY_SAVE_DIRTY 0 = 1 ∧ s.save.writing.isNone then s.startGen else s
  s.dropUpdate.stopWork.stopCopies.sleepChannels.holdDomains.dropBuffers.unloadEngines

/-- A channel's state by its ranks: OUT without a rank of data, DEGRADED while one is LOST (R384, R387). -/
def State.chanByRanks (s : State) (c : Nat) : Nat :=
  let ranks := (List.range 4).map fun r => s.rank (c * 4 + r)
  if !(ranks.contains raDATA || ranks.contains raSOURCE) then chOUT
  else if (s.migration c).isSome then chMIGRATING
  else if ranks.contains raLOST then chDEGRADED
  else chSERVICE

/-- A copy starts again from its first line: the stores with a buffer on its source are held (R386). -/
def State.restartCopies (s : State) : State :=
  let migr := s.mm.migr.map fun (x : Migr) => { x with poison := 0, since := s.now }
  let s := { s with mm := { s.mm with migr := migr } }
  s.mm.migr.foldl (fun (s : State) (m : Migr) =>
    s.mapItems (fun x => x.rank == m.src && x.kind < 2 && !x.lost) fun x => { x with held := true, copied := false }) s

/-- Every source starts again; the frame stores and the heart stores restart empty, and each frame store refills for two frames (R34,
R192). -/
def State.emptyStores (s : State) : State :=
  let s := (validPorts s.regs false).foldl (fun (s : State) x => s.alignPort x.1) s
  let al := s.al.srcs.map fun x => { x with good := false, wait := if alFSYNC x.entry then 2 else 0 }
  let runs := s.cm.runs.map fun x => (x.1, { x.2 with good := false, rep := 0 })
  { s with al := { s.al with srcs := al }, cm := { s.cm with runs := runs } }

/-- The return from HOLD ends: engines are loaded, lanes and DRAM are trained (R32, R34). -/
def State.endHold (s : State) : State :=
  let s := s.reloadEngines.finishRising
  let s := (List.range (s.dies * 4)).foldl (fun (s : State) c =>
    if s.dramState c = chSELFREF ∨ s.dramState c = chTRAINING then s.setChanState c (s.chanByRanks c) else s) s
  s.emptyStores.restartCopies

/-- A CORE part re-mirrors as a returning twin (R32, R304). -/
def State.remirror (s : State) : State :=
  let s := { s with tw := { s.tw with asked := false, installed := false, full := false, unacked := [] } }
  s.setSync (if s.paired then syncSEEKING else syncSOLO)

/-- A mode request refused (R30): not a violation. -/
def State.refuseMode (s : State) (rq : Req) (goal : Nat) : Status × State :=
  (.transition, (s.setFld F.SY_MODE_LAST_REFUSED 0 goal).note 0x1001 goal s.mode rq.ctx.val)

/-- A mode request carried out. SAFE is entered at once, and LOAD too: MODE reads LOAD from the acceptance on, while PHASE is 0x1 (DEDUCED, log
143); the other transitions change MODE when they complete. -/
def State.askMode (s : State) (goal : Nat) : State :=
  if goal = SAFE then s.enterSafe causeHOST
  else if goal = LOAD then
    let s := (s.enterMode LOAD phRUNNING causeHOST).withSys fun y => { y with asked := s.now }
    s.releaseDomains
  else
    let m := s.mode
    let s := s.beginMode goal
    if goal = HOLD then s.beginHold
    else if goal = STANDBY ∧ m = HOLD then
      let s := (List.range (s.dies * 4)).foldl (fun (s : State) c =>
        if s.dramState c = chSELFREF then s.setChanState c chTRAINING else s) s
      s.releaseDomains
    else s

/-- A write of `SY_MODE.02` (R30, R32). -/
def putMode (rq : Req) (v : W) : Put :=
  (⟨⟨0x1020, 2, 0⟩, [(2, v)], 0, v.toNat < 6⟩, fun s =>
    let goal := v.toNat
    let between := (goal == STANDBY && s.mode == ACTIVE) || (goal == ACTIVE && s.mode == STANDBY)
    if !between && rq.cls != .maintain then (.rights, s)
    else if s.modeLegal goal then (.ok, s.askMode goal)
    else s.refuseMode rq goal)

def execRequestSafe (rq : Req) (s : State) : Host.Outcome State Fault Refusal :=
  let x := putMode rq 0
  done (s.request rq x.1 x.2)

def execRequestLoad (rq : Req) (s : State) : Host.Outcome State Fault Refusal :=
  let x := putMode rq 1
  done (s.request rq x.1 x.2)

def execRequestStandby (rq : Req) (s : State) : Host.Outcome State Fault Refusal :=
  let x := putMode rq 2
  done (s.request rq x.1 x.2)

def execRequestActive (rq : Req) (s : State) : Host.Outcome State Fault Refusal :=
  let x := putMode rq 3
  done (s.request rq x.1 x.2)

def execRequestHold (rq : Req) (s : State) : Host.Outcome State Fault Refusal :=
  let x := putMode rq 4
  done (s.request rq x.1 x.2)

def execRequestService (rq : Req) (s : State) : Host.Outcome State Fault Refusal :=
  let x := putMode rq 5
  done (s.request rq x.1 x.2)

/-- The next sheet boundary comes. -/
def State.toBoundary (s : State) : State := s.waitHouse ((s.house / sheetUnits + 1) * sheetUnits)

/-- The epoch set on entry to ACTIVE (R286). -/
def State.nextEpoch (s : State) : Nat :=
  let own := s.sys.claimEpoch
  let top := match s.tw.epochSeen with | some e => if later 11 e own then e else own | none => own
  (top + 1) % 2048

/-- A transition ends in its mode. -/
def State.endMode (s : State) (goal : Nat) : State :=
  let m := s.mode
  if goal = ACTIVE then
    let e := s.nextEpoch
    let s := s.toBoundary.withSys fun y => { y with claimHigh := true, claimEpoch := e }
    s.enterMode ACTIVE phSETTLED causeHOST
  else if goal = STANDBY then
    let s := (if m = ACTIVE then s.toBoundary else s).withSys fun y => { y with claimHigh := false }
    let s := s.enterMode STANDBY phSETTLED causeHOST
    if m = HOLD then s.endHold.remirror else if m = SERVICE then s.remirror else s
  else if goal = SERVICE then s.toBoundary.enterMode SERVICE phSETTLED causeHOST
  else (s.withSys fun y => { y with claimHigh := false }).enterMode goal phSETTLED causeHOST

/-- MODE_TRANSITION_COMPLETE: a transition other than LOAD's ends; HOLD waits for the flush (R347). -/
def State.modeComplete (s : State) : State :=
  if s.phase != phRUNNING || s.mode == LOAD && s.fld F.SY_MODE_TARGET 0 == LOAD then s
  else
    let goal := s.fld F.SY_MODE_TARGET 0
    if goal = HOLD ∧ s.save.writing.isSome then s else s.endMode goal

def execModeTransitionComplete (s : State) : Host.Outcome State Fault Refusal := done s.modeComplete

/-! ### LOAD (R33, R417) -/

/-- Indices of the objects whose VOLATILE words stand in the SRAM that LOAD wipes: crosspoint, alignment, audio, composition, lanes,
media, interconnect and memory. -/
def wipedByLoad (ix : Nat) : Bool := (0x2000 ≤ ix && ix < 0x5000) || (0x6800 ≤ ix && ix < 0x7800)

/-- A word that no wipe and no reset touches: it is SAVED, or fused. -/
def keptWord (k : Key) : Bool := wordPersist k != .volatile

/-- The wipe of LOAD (R389): VOLATILE words at their defaults, and nothing in progress. Ranks keep LOST until RESTORE (R385). -/
def State.wipeForLoad (s : State) : State :=
  let keep := fun (x : Key × W) => !(x.1.ix == 0x3020 && s.isReserved x.1.e)
    && (!wipedByLoad x.1.ix || keptWord x.1 || x.1.ix == 0x3838 || (x.1.ix == 0x7020 && F.MM_RANK_STATE.of x.2 == raLOST))
  let migr := s.mm.migr.map fun (x : Migr) => { x with poison := 0, since := s.now }
  { s with
    regs := s.regs.filter keep
    shadow := s.shadow.filter fun x => keptWord x.1
    xp := ⟨[], [], s.xp.order, [], []⟩
    au := ⟨[], [], [], s.au.sample, [], [], []⟩
    cm := ⟨[], [], [], [], [], []⟩
    al := ⟨[], [], []⟩
    ap := .rest
    lk := { LkState.rest with sheet := s.lk.sheet }
    mx := .rest
    ic := { IcState.rest with
      retained := s.ic.retained, pieces := s.ic.pieces, ports := s.ic.ports, monitors := s.ic.monitors, got := s.ic.got
      answer := s.ic.answer, ram := (s.dropRam (· != 3)).ic.ram }
    mm := { MmState.rest with retired := s.mm.retired, migr := migr } }

/-- The DRAM wipe of LOAD (R33, R389): after a life-cycle change; after a package reset, where `MM_WIPE_POLICY` asks. The image store
reads zero; a rank that fails is RETIRED and recorded (cause 1: DEDUCED, log 142). -/
def State.wipeDram (s : State) (fails : List Nat) : State :=
  let due := s.caps.fsync && (s.sys.lifeChanged || (s.sys.afterReset && s.word 0x7030 0 0 == 1))
  let s := s.withSys fun y => { y with afterReset := false, lifeChanged := false }
  if !due then s
  else
    let s := s.dropRam (· == 3)
    let s := { s with regs := s.regs.filter fun x => x.1.ix != 0x3838 }
    (fails.filter fun e => e < s.dies * 16 && !s.mm.retired.contains e).foldl (fun (s : State) e =>
      (s.markRetired e).raise 0x7002 (e / 16) e 1 0xFFFF) s

/-- Lanes by their domains: a lane of a domain that is on comes up, another is down (R207, R435). -/
def State.startShrouds (s : State) : State :=
  ((s.finishRising).domains.filter isShroud).foldl (fun (s : State) e =>
    if s.domain e = dmON then s.startLanes e else s.stopLanes e) s.finishRising

/-- A rank as LOAD finds it (R375, R379, R382, R385). -/
def State.loadRank (s : State) (fails : List Nat) (e : Nat) : State :=
  let v := s.chanConf (e / 4)
  let r := e % 4
  let n := if F.MM_CHANNEL_EN.of v = 0 ∨ F.MM_CHANNEL_RANKS.of v < r then raNOTFITTED
    else if s.mm.retired.contains e then raRETIRED
    else if s.rank e = raLOST then raLOST
    else if fails.contains e then raFAILED
    else match s.migration (e / 4) with
      | some m => if m.src = e then raSOURCE else if m.dst = e then raTARGET else raDATA
      | none => if F.MM_CHANNEL_SPAREEN.of v = 1 ∧ F.MM_CHANNEL_SPARE.of v = r then raSPARE else raDATA
  let s := s.setRank e n
  if n = raFAILED then s.raise 0x7002 (e / 16) e 4 0xFFFF else s

/-- DRAM trained (R379): `MM_CHANNEL` applies, ranks and channels take their states. -/
def State.trainDram (s : State) (fails : List Nat) : State :=
  if !s.caps.fsync then s
  else
    let chans := List.range (s.dies * 4)
    let conf := chans.map fun c => (c, s.word 0x7010 c 0)
    let s := { s with mm := { s.mm with conf := conf } }
    let used := fun (c : Nat) => s.fld F.MM_CHANNEL_EN c == 1 && s.domain (c / 4 * 32 + 16 + c % 4) == dmON
    let s := chans.foldl (fun (s : State) c => if used c then s.setChanState c chTRAINING else s) s
    let s := (List.range (s.dies * 16)).foldl (fun (s : State) e => s.loadRank fails e) s
    chans.foldl (fun (s : State) c =>
      s.setChanState c (if used c then s.chanByRanks c else chUNUSED)) s

/-- Every engine reloaded from the bundle (R23, R364): those RETAINED stay FAILED, and one that fails its vectors fails as R362 says. -/
def State.loadEngines (s : State) (fails : List Nat) : State :=
  let l := (s.half s.runHalf).images
  let s := (List.range (s.dies * 24)).foldl (fun (s : State) e =>
    let s := (s.setFld F.IC_ENGINE_BANK e 0).setFld F.IC_ENGINE_FWVER e (engineVersion l e)
    if s.ic.retained.contains e then (s.setFld F.IC_ENGINE_RETAINED e 1).setEngine e engFAILED
    else s.setEngine e (if isEssence e then engSPARE else engACTIVE)) s
  fails.foldl (fun (s : State) e => s.engineFail e 3) s

/-! ### Restored settings (R418, R478) -/

/-- The class in which the part itself judges restored values. -/
def selfReq : Req := ⟨0, .secure, .secure, .busA, 0, 0⟩

/-- The subindex, as an address has it, of a saved word. -/
def subOf (k : Key) : Nat := if (findObj k.ix 0).isSome then 0 else k.w

/-- The elements that SAVED words make up, in their order. -/
def savedElems (t : Table) : List Addr :=
  t.foldr (fun x l => let a : Addr := ⟨x.1.ix, subOf x.1, x.1.e⟩; if l.contains a then l else a :: l) []

/-- A SAVED word of element `a`. -/
def ofElem (a : Addr) (k : Key) : Bool := k.ix == a.ix && k.e == a.e && wordPersist k == .saved && (a.sub == 0 || k.w == a.sub)

/-- The element's SAVED words at their defaults. -/
def State.dropSaved (s : State) (a : Addr) : State :=
  { s with regs := s.regs.filter fun x => !(ofElem a x.1 && savedLive x.1)
           shadow := s.shadow.filter fun x => !(ofElem a x.1 && savedShadow x.1) }

/-- A status that says of a value, rather than of the moment or the writer, that it does not stand. -/
def Status.judgesValue (st : Status) (ix : Nat) : Bool :=
  match st with
  | .ok | .forwarded | .mode | .lease | .rights | .capacity | .twinlink | .late => false
  | .busy => ix == 0x4810
  | _ => true

/-- The object's own checks find a restored element good, against the defaults in its place (R418). -/
def State.restoredOk (s : State) (a : Addr) (t : Table) : Bool :=
  let s0 := s.dropSaved a
  let ws := (t.filter fun x => ofElem a x.1 && wordAcc x.1 == .rw).map fun x =>
    (if a.sub = 0 then x.1.w else 0, if a.ix = 0x8810 then F.PW_DOMAIN_CMD.put 0 (F.PW_DOMAIN_CMD.of x.2) else x.2)
  if ws.isEmpty || a.ix == 0x6030 then true
  else
    let x := putObject s0 selfReq a ws []
    x.1.range && !((x.2 s0).1.judgesValue a.ix)

/-- Each restored element judged, the last first; one that fails is replaced by its default. -/
def State.checkRestored (s : State) : State :=
  let t := s.savedTable
  (savedElems t).reverse.foldl (fun (s : State) a =>
    if s.restoredOk a t then s else ((s.dropSaved a).note 0x800C a.ix a.sub a.e).markDirty) s

/-- The placement of the restored tables; a die whose ports have no place is a die fault (R364). -/
def State.placeLoaded (n : Nat) (t : Table) (s : State) : State :=
  match n with
  | 0 => s
  | n + 1 =>
    match s.placement t with
    | .ok pl => s.setPlacement pl
    | .error (dst, p) =>
      let d := pDie (tget dflt t ⟨portIx dst, p, 0⟩)
      let e := ((List.range 18).map (d * 24 + ·)).find? fun e => s.engine e == engFAILED
      let r := s.raiseSeq 0x6803 .degrade d (e.getD (d * 24)) 3 0xFFFF false
      let s := r.1.isolateDie d 0x6803 r.2 s.twinServes
      State.placeLoaded n (t.filter fun x => !((x.1.ix == ixSRC || x.1.ix == ixDST) && pDie x.2 == d)) s

/-- Port tables and transports that LOAD installs as live and shadow, in bank 0 (R478). -/
def State.loadTables (s : State) : State :=
  let s := { s with shadow := takeOver swapped s.shadow s.regs, lk := { s.lk with other := [] } }
  let s := ((s.setFld F.ES_CAL_CTRL_PUBLISHED 0 0).setFld F.ES_CAL_CTRL_CAUSE 0 0).setFld F.ES_CAL_CTRL_ELEMENT 0 0
  match s.rebuild s.regs with
  | .ok pl => (s.setCal calIDLE).setPlacement pl
  | .error f =>
    if f.1 = 6 then State.placeLoaded 8 s.regs (s.setCal calIDLE)
    else
      let kept : Table := s.regs.filter fun x => swapped x.1
      ({ s with regs := s.regs.filter fun x => !swapped x.1, save := { s.save with kept := kept } }).calFailed f

/-- Sources, transports and heads start from the tables loaded (R100, R108, R192, R234). -/
def State.startTables (s : State) : State :=
  let s := (validPorts s.regs false).foldl (fun (s : State) x => s.alignPort x.1) s.cmLoad
  s.fitAll.fitTransports

/-- References as the restored `TM_REF` has them. -/
def State.loadRefs (s : State) : State :=
  (List.range 14).foldl (fun (s : State) r =>
    let on := s.refEnabled r && !(isStay r && s.sys.role != EDGE)
    if on == (s.qstate r != qDISABLED) then s else s.refEnable r on) s

/-- The addresses of the control-bus attachments (R307). -/
def State.loadBus (s : State) : State :=
  let addr := fun (a : Nat) => let ip := s.fld F.CT_BUS_IPADDR a; if ip = 0 then Config.linkLocal a else ip
  s.withHost fun h => { h with bus := h.bus.zipIdx.map fun x => { x.1 with ip := addr x.2 } }

/-- Last-gasp records not in a sillage are copied there (R406). -/
def State.copyLastGasp (s : State) : State :=
  s.ev.lastGasp.foldl (fun (s : State) r =>
    if s.ev.sillage.any fun l => l.any fun x => x.seq == r.seq then s
    else match s.holder r.die with
      | none => s
      | some (d, relayed) =>
        let l := insertRec { r with lg := true, relayed := relayed } (s.sillageOf d)
        (s.withEv fun e => { e with sillage := e.sillage.set d (if 4096 < l.length then l.drop 1 else l) }).notify 0x7810 d) s

/-- A fault manager after LOAD: no ISOLATE is open (R395, R477). -/
def FaultMgr.loaded (m : FaultMgr) : FaultMgr :=
  let low := fun (f : FaultRun) => f.level != .isolate
  let m := { m with opened := m.opened.filter low, suspended := m.suspended.filter low, queue := m.queue.filter low }
  match m.running with
  | some f => if f.level == .isolate then m.ended else m
  | none => m

/-- Isolated dies return, units that LOAD restores are back in service, open ISOLATEs close (R393, R395, R477). -/
def State.closeFaults (s : State) : State :=
  let back := s.sys.isolated
  let s := s.withSys fun y => { y with isolated := [], handed := false }
  let s := back.foldl (fun (s : State) d =>
    if s.fld F.EV_SILLAGE_STATE d = 2 then
      let bad := s.ev.badRegion.contains d
      ((((s.setFld F.EV_SILLAGE_STATE d (flag bad)).setFld F.EV_SILLAGE_RELAYTO d 0).relays).notify 0x7810 d)
    else s) s
  let s := s.withEv fun e => { e with
    out := e.out.filter fun x => !(x.1 == .channel || x.1 == .die || (x.1 == .rank && s.rank x.2.2 != raLOST)) }
  ((List.range s.dies).foldl (fun (s : State) d =>
    (s.withMgr d FaultMgr.loaded).notifyLevel d (s.faultLevel d)) s).driveFault

/-- Subscriptions to `SY_DICT` end (R327): each sends CAUSE ENDED. -/
def endDict (subs : List Sub) (notes : List Note) (now : Nat) : List Sub × List Note × Nat :=
  let r := (subs.filter fun x => x.addr.ix == 0x1030).foldl (fun (acc : List Note × Nat) x =>
    let r := queueNote acc.1 ⟨x.id, 4, x.addr, [], now⟩
    (r.1, acc.2 + flag r.2)) (notes, 0)
  (subs.filter fun x => x.addr.ix != 0x1030, r)

def State.loadSubs (s : State) : State :=
  let one := fun (x : Session) =>
    let r := endDict x.subs x.notes s.now
    { x with subs := r.1, notes := r.2.1, spilt := x.spilt || r.2.2 != 0 }
  let fn := fun (x : PcieFn) =>
    let r := endDict x.subs x.notes s.now
    { x with subs := r.1, notes := r.2.1, spilt := x.spilt || r.2.2 != 0 }
  let drops := (s.host.sessions.map fun x => match x with | some x => (endDict x.subs x.notes s.now).2.2 | none => 0).sum
    + (s.host.pcie.map fun x => (endDict x.subs x.notes s.now).2.2).sum
  let s := s.withHost fun h => { h with sessions := h.sessions.map (·.map one), pcie := h.pcie.map fn }
  if drops = 0 then s else s.bump F.CT_NCP_STAT_NOTIFYDROP 0 drops

/-- Monitors that had failed are tested again, and those of the process read (R444, R446). -/
def State.loadMonitors (s : State) (mons : List (Nat × Nat)) : State :=
  let s := (List.range (s.dies * 128)).foldl (fun (s : State) e =>
    if monitorExists s.dies e && s.fld F.PW_MON_STATUS e != 0 then s.setNotify F.PW_MON_STATUS e 0 else s) s
  mons.foldl (fun (s : State) x => if monitorExists s.dies x.1 then s.reading x.1 x.2 else s) s

/-- LOAD ends in a phase; the mode stays (R32). -/
def State.endLoad (s : State) (phase : Nat) : State := s.setFld F.SY_MODE_PHASE 0 phase

/-- The start sequence runs (R32, R33): not the transition from LOAD to STANDBY. -/
def State.loading (s : State) : Bool := s.mode == LOAD && s.phase == phRUNNING && s.fld F.SY_MODE_TARGET 0 == LOAD

/-- LOAD_COMPLETE: the start sequence, with what it finds (R33, R417): wipes, DRAM and then lanes trained, engines reloaded, settings
restored, tables loaded; the first failure ends it. Lanes whose settings change as they are restored start again. -/
def State.loadComplete (s : State) (rep : LoadReport) : State :=
  if !s.loading then s
  else
    let b := s.bootLoad rep.flashOk rep.converts
    if !b.1 then b.2.endLoad phFAILED
    else
      let s := ((b.2.layersGone.wipeForLoad.wipeDram rep.wipeFail).finishSome fun e => !isShroud e).trainDram rep.ranksFail
      if !rep.ranksFail.isEmpty then s.endLoad phFAILED
      else
      let s := s.startShrouds
      if !rep.trained || !rep.diesFail.isEmpty then s.endLoad phFAILED
      else
        let s := s.closeFaults
        let s := (List.range s.dies).foldl (fun (s : State) d => s.setFld F.IC_REMAP_REMAP d 1) s.runCrossbar
        let s := s.loadEngines rep.engFail
        let lanes := s.regs.filter fun x => x.1.ix / 0x100 == 0x40
        let s := s.restoreSaved.checkRestored.asrcLoad
        let s := s.withSys fun y => { y with role := s.fld F.SY_ROLE_ROLE 0 }
        let s := if (s.regs.filter fun x => x.1.ix / 0x100 == 0x40) = lanes then s else s.startShrouds
        let s := s.loadTables.startTables
        let s := s.restartCopies.loadRefs.loadBus
        let s := s.copyLastGasp.loadSubs
        let s := (s.loadMonitors rep.mons).remirror
        (s.startWalk.ageRecord.refreshClaim).endLoad phDONE

def execLoadComplete (rep : LoadReport) (s : State) : Host.Outcome State Fault Refusal := done (s.loadComplete rep)

/-- LOAD_TIMEOUT: 60 s without success (R32). -/
def State.loadTimeout (s : State) : State :=
  if s.loading then (s.waitUntil (s.sys.asked + secs 60)).endLoad phFAILED else s

def execLoadTimeout (s : State) : Host.Outcome State Fault Refusal := done s.loadTimeout

/-! ### Protections (R35, R36, R477) -/

/-- THERMAL_TRIP. -/
def State.thermalTrip (s : State) (d tj : Nat) : State :=
  if s.dies ≤ d then s
  else
    let s := (s.raise 0x1002 d d tj 0).withSys fun y => { y with tripped := if y.tripped.contains d then y.tripped else d :: y.tripped }
    if s.mode = SAFE ∨ s.sys.held = true then s else (s.enterSafe causeTHERMAL).holdDomains

def execThermalTrip (d tj : Nat) (s : State) : Host.Outcome State Fault Refusal := done (s.thermalTrip d tj)

/-- SAFE stands because of a thermal trip that is less than its response time, 20 µs, old (R36). -/
def State.tripRuns (s : State) : Bool :=
  s.fld F.SY_MODE_CAUSE 0 == causeTHERMAL && decide (s.now ≤ s.sys.entered + 20000 * nsUnits)

/-- UNDERVOLTAGE, sensed at die 0 or die 1: the record, then the package reset is asserted. In SAFE the record is all, unless both
protections fire within one response time (R36). -/
def State.undervoltage (s : State) (d mv : Nat) : State :=
  if 2 ≤ d then s
  else
    let s := s.raise 0x1003 d d mv 0
    if s.mode = SAFE ∧ s.sys.held = false ∧ s.tripRuns = false then s
    else (s.withSys fun y => { y with held := true, uvNext := true }).driveFault

def execUndervoltage (d mv : Nat) (s : State) : Host.Outcome State Fault Refusal := done (s.undervoltage d mv)

/-! ### Power and package reset (R252, R399, R417, R464, R465) -/

/-- FRAC from the learned curve at a temperature in 0.001 °C (R252, R278). -/
def State.fracAt (s : State) (temp : Int) : Int := fracOf (-(s.curveAt temp) * (ppbUnits / 1000))

/-- The learned curve as the settings hold it. -/
def State.savedCurve (s : State) : List Int := (List.range 16).map fun e => signed 32 (s.fld F.TM_HO_CURVE_C e) * 4294967296

/-- POWER_ON: VAON rises; the package is in reset. -/
def State.powerOn (s : State) (temp : Int) : State :=
  let img := s.newest.map (·.2)
  let s := s.installSaved (match img with | some x => x.table | none => [])
  let seq := match img with | some x => (x.pseq + 2 ^ 24) % 2 ^ 32 | none => 0
  let epoch := match img with | some x => (x.epoch + 1) % 65536 | none => 1
  let hours := s.fld F.TM_HOLDOVER_LEARNT 0
  let s := s.withTm fun _ => { TimeState.rest with
    curve := s.savedCurve, ageBase := signed 32 (s.fld F.TM_HOLDOVER_AGEING 0), learnt := 3600 * hours, temp := temp }
  let regs : Table := s.regs.filter fun x => !(x.1.ix == 0x5000 && x.1.w == 1) && x.1.ix != 0x8818 && x.1.ix != 0x3838
  let s := { s with regs := regs, clk := ⟨0, 0, 0, s.fracAt temp, epoch, seq⟩, ic := { s.ic with ram := [] } }
  let s := s.setFld F.TM_STATE_AGEVALID 0 (flag (24 ≤ hours))
  let s := s.withSave fun x => { x with lastGen := 0 }
  let s := s.withPw fun x => { x with trendAt := none, writeAt := 0, lastReq := 0, read := [] }
  (s.withSys fun y => { y with held := true, porNext := true, entered := 0, asked := 0, tripped := [] }).driveFault

def execPowerOn (temp : Int) (s : State) : Host.Outcome State Fault Refusal := done (s.powerOn temp)

/-- POWER_LOSS: the always-on domain loses its time-keeping, its counter and, unless the mirror held, the last-gasp store. -/
def State.powerLoss (s : State) (mirror : Bool) : State :=
  let s := { s with clk := ⟨0, 0, 0, 0, s.clk.epoch, 0⟩ }
  let s := (s.withTm fun _ => .rest).withEv fun e => { e with lastGasp := if mirror then e.lastGasp else [] }
  (s.withSys fun y => { y with held := true, porNext := true }).driveFault

def execPowerLoss (mirror : Bool) (s : State) : Host.Outcome State Fault Refusal := done (s.powerLoss mirror)

/-- A word that a package reset leaves: SAVED and fused words, the state of the servo (R252), and the image store, which lies in DRAM
(R389). -/
def keptByReset (k : Key) : Bool := keptWord k || (k.ix == 0x5000 && k.w == 1) || k.ix == 0x3838

/-- The learned values, which the always-on domain holds (R252), and the monitors' readings, which have no reset value (R445). -/
def learned (k : Key) : Bool := k.ix == 0x8818 || (k.ix == 0x5040 && (k.w == 3 || k.w == 4)) || k.ix == 0x5048

/-- Why the package was reset (R29, R465). -/
def State.resetCause (s : State) : Nat :=
  if s.sys.porNext then causePOWERON else if s.sys.uvNext then causeUNDERVOLTAGE else if s.sys.hostNext then causeHOST
  else causeEXTERNAL

/-- The mast die (R24). -/
def elect (die0 die1 : Bool) : Option Nat := if die0 then some 0 else if die1 then some 1 else none

/-- The fault managers after a package reset: only the protections' faults are open (R411, R477). -/
def FaultMgr.afterReset (m : FaultMgr) : FaultMgr := ⟨none, [], [], m.opened.filter fun f => f.code == 0x1002 || f.code == 0x1003⟩

/-- The registers and the running state that a package reset leaves. -/
def State.resetParts (s : State) (bad : List Nat) (mast : Option Nat) : State :=
  let tables : Table := s.regs.filter fun x => learned x.1
  let s := s.bootSettings
  let kept : Table := s.regs.filter fun x => keptByReset x.1 && !learned x.1
  let h := s.bootHalf
  let gpi := s.ev.gpi.map fun (x : GpiIn) => { GpiIn.rest with raw := x.raw, since := s.now, edgeNs := x.edgeNs }
  let s := { s with
    regs := tmerge dflt kept tables
    shadow := s.shadow.filter fun x => savedShadow x.1
    host := .rest
    ev := { EvState.rest with
      mgr := s.ev.mgr.map FaultMgr.afterReset, lastGasp := s.ev.lastGasp, badRegion := bad, gpi := gpi }
    xp := ⟨[], [], 0, [], []⟩
    au := ⟨[], [], [], 0, [], [], []⟩
    cm := ⟨[], [], [], [], [], []⟩
    al := ⟨[], [], []⟩
    ap := .rest
    lk := { LkState.rest with sheet := s.lk.sheet }
    mx := .rest
    tw := .rest
    ic := { IcState.rest with retained := s.ic.retained, ram := (s.dropRam (· != 3)).ic.ram }
    mm := { MmState.rest with retired := s.mm.retired } }
  let halves := s.fw.halves.map fun (y : FlashHalf) => { y with fresh := [] }
  let s := s.withFw fun x => { x with
    actAt := none, autoCommit := false, twinOk := false, held := none, digest := 0, entries := 0, nonce := none, quote := []
    lifeCh := [], lifeBuf := [], halves := halves }
  let s := s.withTm fun t => { t with
    refs := TimeState.rest.refs, ptp := TimeState.rest.ptp, step_ := none, timeLatch := (0, 0) }
  let s := s.withPw fun x => { x with
    waiting := [], rising := [], droop := PowerState.rest.droop, warnArmed := true, warn := [], propose := [], awake := true
    written := s.fld F.PW_VCORE_SETPOINT 0, writeAt := s.now, lastReq := s.now }
  let s := s.withSys fun y => { y with
    held := false, porNext := false, uvNext := false, hostNext := false, mast := mast, isolated := [], role := s.fld F.SY_ROLE_ROLE 0
    entered := s.now, asked := s.now, claimHigh := false, claimEpoch := 0, handed := false, afterReset := true }
  let failed := (s.regs.filter fun x => x.1.ix == 0x8818 && F.PW_MON_STATUS.of x.2 != 0).map (·.1.e)
  let s := failed.foldl (fun (s : State) e => s.setFld F.PW_MON_STATUS e 0) s
  (s.setFld F.FW_STATE_RUNHALF 0 h).setFld F.FW_STATE_BOOTHALF 0 h

/-- The records that a package reset makes: a region whose wipe failed (R405), an update rolled back (R429). -/
def State.resetRecords (s : State) (bad : List Nat) (trial : Bool) (left : Nat) : State :=
  let s := (bad.filter (· < s.dies)).foldl (fun (s : State) d =>
    ((s.raise 0x7801 d d 0 0).setFld F.EV_SILLAGE_STATE d 1).relays) s
  if trial then s.note 0x8007 left 3 0 else s

/-- References requalify from the start (R252). -/
def State.restartRefs (s : State) : State :=
  let s := (s.setFld F.TM_STATE_SEL 0 15).setFld F.TM_STATE_FREQONLY 0 0
  (List.range 14).foldl (fun (s : State) r =>
    if !s.refEnabled r then s else if s.refRuns r then s.refEnable r true else s.setQ r qLOS) s

/-- PACKAGE_RESET. -/
def State.packageReset (s : State) (die0 die1 : Bool) (bad : List Nat) : State :=
  let cause := s.resetCause
  let trial := s.inTrial
  let left := s.fld F.FW_STATE_VERSION 0
  let s := s.resetParts bad (elect die0 die1)
  let s := s.domains.foldl (fun (s : State) e => s.setFld F.PW_DOMAIN_STATE e dmHELD) s
  let s := s.setFld F.SY_MODE_CAUSE 0 cause
  let s := (s.resetRecords bad trial left).restartRefs.loadBus.showSave
  let unsent := (s.ev.lastGasp.filter fun r => !r.emerg).map fun r => (r.words, 0, 0)
  let s := s.withHost fun h => { h with emerg := unsent }
  let first := (s.records.head?.map (·.seq)).getD s.clk.pseq
  let s := (List.range 4).foldl (fun (s : State) c => s.setFld F.EV_CURSOR_CURSOR c first) s
  s.driveFault

def execPackageReset (die0 die1 : Bool) (badRegions : List Nat) (s : State) : Host.Outcome State Fault Refusal :=
  done (s.packageReset die0 die1 badRegions)

end Sys2Proof.Machine
end

