-- ==== Sys2Proof/Machine/Hosts.lean ====
section
/-! DEFINITION. NCP: sessions, requests, subscriptions, NOTIFY and EMERGENCY, the control buses, leases and contexts (chapter 12). -/
namespace Sys2Proof.Machine

/-! ### Sessions (R320, R321) -/

/-- A context's session closes: its subscriptions end, its open salvos are cancelled (R83, R321). -/
def State.closeSession (s : State) (c : Nat) : State :=
  if (s.session c).isNone then s else (s.setSession c none).closeSalvos c

/-- The open BLOB's form (R320). -/
def openForm (b : List Byte) (least : Nat) : Bool :=
  let k := byteAt b 3
  let t := byteAt b 4 * 256 + byteAt b 5
  (if k = 3 then b.length == 88 else b.length == 8) && least ≤ byteAt b 0 * 256 + byteAt b 1 && byteAt b 2 ≤ 3 && k ≤ 3
    && 2 ≤ t && t ≤ 600 && byteAt b 6 == 0 && byteAt b 7 == 0

/-- The challenge and the signature of a SECURE open; a challenge named is used up. -/
def State.openSigned (s : State) (c : Nat) (b : List Byte) : Bool × State :=
  let u := s.useChallenge s.host.challenge ((b.drop 8).take 16)
  (u.1 && Config.ed25519 (s.contextKey c) (b.take 24) ((b.drop 24).take 64), s.withHost fun h => { h with challenge := u.2 })

/-- The session opens, in place of the context's own (R320). -/
def State.openSession (s : State) (c n k : Nat) (h : Ncp) (b : List Byte) : State :=
  (s.closeSession c).setSession c (some {
    number := n, ceil := Cls.ofNum k, timeout := byteAt b 4 * 256 + byteAt b 5, att := h.att, ip := h.ip, udp := h.udp
    lastReq := s.now, lastAtt := h.att, subs := [], nextSub := 1, nseq := 0, notes := [], spilt := false, kept := [] })

/-- A write of `CT_SESSION.01`: only an NCP message opens a session (R320). -/
def putOpen (a : Addr) (h : Option Ncp) (b : List Byte) : Put :=
  (⟨a, [(1, 0)], 0, a.e == 0 && openForm b 1⟩, fun s =>
    match h with
    | none => (.nosession, s)
    | some h =>
      let n := byteAt b 0 * 256 + byteAt b 1
      let c := byteAt b 2
      let k := byteAt b 3
      let free := s.fld F.CT_CONTEXT_EN c == 1 && s.fld F.CT_CONTEXT_NCP c == 1 && k ≤ s.fld F.CT_CONTEXT_CEILING c
      let r := if free && k == 3 then s.openSigned c b else (free, s)
      if !r.1 then (.auth, r.2)
      else
        let s := r.2
        match s.sessionOf n with
        | some x => if x.1.val = c then (.ok, s.openSession c n k h b) else (.busy, s)
        | none => (.ok, s.openSession c n k h b))

/-- A write of `CT_SESSION.02` (R321). -/
def putClose (rq : Req) (a : Addr) (v : W) : Put :=
  (⟨a, [(2, v)], 0, v != 0⟩, fun s =>
    match s.sessionOf v.toNat with
    | none => (.ok, s)
    | some x =>
      if x.1 == rq.ctx || rq.cls == .maintain || rq.cls == .secure then (.ok, s.closeSession x.1.val) else (.rights, s))

/-- Any object's write. -/
def putAny (s : State) (rq : Req) (h : Option Ncp) (a : Addr) (ws : List (Nat × W)) (l : List Byte) : Put :=
  let v := (ws.head?.map (·.2)).getD 0
  match a.ix with
  | 0x1020 => if a.sub = 2 then putMode rq v else putObject s rq a ws l
  | 0x6010 => if a.sub = 1 then putOpen a h l else if a.sub = 2 then putClose rq a v else putObject s rq a ws l
  | _ => putObject s rq a ws l

/-! ### One item of an NCP message (R313, R314) -/

/-- Bytes cut into pieces of `n`. -/
def pieces (n : Nat) (l : List Byte) : List (List Byte) :=
  (List.range (l.length / n)).map fun i => (l.drop (i * n)).take n

/-- The type code of an object's values. -/
def Obj.code (o : Obj) : Nat := o.typ.code

/-- Bytes of an element's value on the wire; of a STR or BLOB, from the offset on. -/
def Obj.size (o : Obj) (e : Nat) : Nat := if o.typ.isBytes then blobSize o.ix o.sub - e else o.acc.length * o.typ.bytes

/-- A written value has the object's type code and length: the element's leading words, at least up to the last RW word; the item's reserved
bytes are 0. -/
def itemFits (o : Obj) (x : WItem) : Bool :=
  x.at_.res == 0 && x.typ == o.code
    && (if o.typ.isBytes then 1 ≤ x.val.length && x.val.length ≤ o.size x.at_.addr.e
      else x.val.length % o.typ.bytes == 0 && o.lastRw * o.typ.bytes ≤ x.val.length && 1 ≤ x.val.length
        && x.val.length ≤ o.size x.at_.addr.e)

/-- The words that an item writes: RO words in it are ignored. -/
def itemWords (o : Obj) (x : WItem) : List (Nat × W) :=
  ((pieces o.typ.bytes x.val).zipIdx.map fun y => (y.2, BitVec.ofNat 64 (beNum y.1))).filter fun y =>
    let a := o.acc.getD y.1 .ro
    a == .rw || a == .wo || a == .w1c

/-- An item of a WRITE as a write. -/
def putItem (s : State) (rq : Req) (h : Ncp) (x : WItem) : Put :=
  let a := x.at_.addr
  match findObj a.ix a.sub with
  | none => (⟨a, [], 0, true⟩, fun s => (.index, s))
  | some o =>
    if !itemFits o x then (⟨a, [], 0, false⟩, fun s => (.range, s))
    else
      let ws := if o.typ.isBytes then [] else itemWords o x
      putTyped o a ws (putAny s rq (some h) a ws x.val)

/-- A write of an item judged, carried out and settled under the address as sent. -/
def State.wireWrite (s : State) (rq : Req) (x : WireAddr) (p : Put) : Status × State :=
  let r := s.judgeWrite rq p.1 p.2
  (r.1, r.2.settleAs rq x 0 r.1)

/-- An item written. -/
def State.writeItem (s : State) (rq : Req) (h : Ncp) (x : WItem) : Status × State := s.wireWrite rq x.at_ (putItem s rq h x)

/-- An item read. -/
def State.readItem (s : State) (rq : Req) (x : WireAddr) : RespItem × State :=
  match s.judgeWire rq x with
  | .error st => (⟨x.addr, st.code, 0, []⟩, s.settleAs rq x 0 st)
  | .ok o =>
    let r := s.readValue o x.addr.e false
    (⟨x.addr, 0, 1, r.1⟩, r.2)

/-! ### Requests (R315–R319) -/

/-- The frame that held a request leaves its attachment (R308). -/
def State.takeFrame (s : State) (h : Ncp) : State :=
  let drop := fun (b : BusAtt) =>
    match b.held.findIdx? (fun (f : HeldFrame) => f.ip == h.ip && f.udp == h.udp) with
    | some i => { b with held := b.held.eraseIdx i }
    | none => b
  match h.att with
  | .bus a => s.withHost fun x => { x with bus := x.bus.modify a.val drop }
  | .mac _ _ => s

/-- A status alone, with no item. -/
def bareResp (st : Status) : Resp := ⟨st.code, false, []⟩

/-- A message refused as a whole, each of its items with the status (R314, R317, R320). -/
def refusedItems (l : List Addr) (st : Status) : Resp := ⟨st.code, false, l.map fun a => ⟨a, st.code, 0, []⟩⟩

/-- Nothing of the request was carried out. -/
def Resp.idle (r : Resp) : Bool :=
  r.items.all fun x => x.status == Status.nosession.code || x.status == Status.toobig.code

/-- A kept response that a request repeats. -/
def State.keptFor (s : State) (h : Ncp) : Option Resp :=
  let l := if h.session = 0 then s.host.kept0.filter fun y => y.ip == h.ip && y.udp == h.udp
    else match s.sessionOf h.session with | some x => x.2.kept | none => []
  (l.find? fun y => y.seq == h.seq && s.now < y.born + secs 10).map (·.resp)

/-- A request that repeats one whose answer is still to come from the deciding twin (R93, R316). -/
def State.awaited (s : State) (h : Ncp) : Bool :=
  s.host.waiting.any fun x => x.ncp.session == h.session && x.ncp.seq == h.seq
    && (h.session != 0 || (x.ncp.ip == h.ip && x.ncp.udp == h.udp))

/-- A request of an open session arrived (R321, R328). -/
def State.touchSession (s : State) (h : Ncp) : State :=
  match s.sessionOf h.session with
  | some x => s.modSession x.1.val fun y => { y with lastReq := s.now, lastAtt := h.att }
  | none => s

/-- In whose name a request acts: the session's context and ceiling; on session 0, no context's. -/
def State.reqOf (s : State) (h : Ncp) : Option Req :=
  if h.session = 0 then some ⟨0, h.cls, .secure, h.att.path, 0, h.seq⟩
  else (s.sessionOf h.session).map fun x => ⟨x.1, h.cls, x.2.ceil, h.att.path, h.session, h.seq⟩

/-- The part listens there (R311): at every attachment, and at an enabled media MAC whose MGMTVID is not 0, to frames tagged with it. -/
def State.listens (s : State) : Att → Bool
  | .bus _ => true
  | .mac m vid => s.caps.media && s.macUp m && vid != 0 && vid == s.fld F.MX_MAC_MGMTVID m

/-- A request taken: answered NOSESSION where its session is not open, from the kept responses where it repeats one, else
carried out by `k`, which gives none for a message that is malformed (R316–R320). -/
def State.serve (s : State) (h : Ncp) (k : Req → State → Option (Resp × State)) : State :=
  if !s.alive || !s.listens h.att then s
  else
    let s := s.stir.takeFrame h
    match s.reqOf h with
    | none => (s.countNoSession (bareResp .nosession)).respond h (bareResp .nosession)
    | some rq =>
      let s := s.touchSession h
      match s.keptFor h with
      | some r => (s.bump F.CT_NCP_STAT_DUPLICATE 0 1).respond h r
      | none =>
        if s.awaited h then (s.bump F.CT_NCP_STAT_DUPLICATE 0 1).withHost fun x => { x with resp := none }
        else match k rq s with
        | none => s.bump F.CT_NCP_STAT_MALFORMED 0 1
        | some (r, t) =>
          let t := if r.idle then t else t.bump F.CT_NCP_STAT_RXMSG 0 1
          t.answerMsg h r (t.tw.fwd.drop s.tw.fwd.length)

/-- Session 0 answers every message but READ and WRITE with NOSESSION (R320). -/
def onSession (h : Ncp) (a : Addr) (k : Req → State → Option (Resp × State)) : Req → State → Option (Resp × State) :=
  fun rq s => if h.session = 0 then some (refusedItems [a] .nosession, s) else k rq s

/-! ### READ and WRITE -/

/-- What session 0 admits (R320). -/
def admitRead (a : Addr) : Bool := a.ix == 0x1000 || a.ix == 0x1010 || (a.ix == 0x6010 && a.sub == 3)
def admitWrite (a : Addr) : Bool := a.ix == 0x6010 && a.sub == 1

/-- Payload bytes of the response to a READ (R314). -/
def State.readBytesOf (s : State) (rq : Req) (x : WireAddr) : Nat :=
  12 + match s.judgeWire rq x with | .ok o => pad4 (o.size x.addr.e) | .error _ => 0

def noSessionItem (a : Addr) : RespItem := ⟨a, Status.nosession.code, 0, []⟩

/-- The items of a READ, in order. -/
def State.readItems (s : State) (rq : Req) (h : Ncp) (l : List WireAddr) : List RespItem × State :=
  l.foldl (fun (acc : List RespItem × State) x =>
    if h.session = 0 ∧ admitRead x.addr = false then (acc.1 ++ [noSessionItem x.addr], acc.2)
    else
      let r := acc.2.readItem rq x
      (acc.1 ++ [r.1], r.2)) ([], s)

def State.ncpRead (s : State) (h : Ncp) (l : List WireAddr) : State :=
  s.serve h fun rq s =>
    if l.isEmpty || 64 < l.length then none
    else if 1456 < (l.map fun x => if h.session = 0 ∧ admitRead x.addr = false then 12 else s.readBytesOf rq x).sum then
      some (refusedItems (l.map (·.addr)) .toobig, s)
    else
      let r := s.readItems rq h l
      some (itemsResp r.1, r.2)

def execNcpRead (h : Ncp) (items : List WireAddr) (s : State) : Host.Outcome State Fault Refusal := done (s.ncpRead h items)

/-- The items of a WRITE, in order. -/
def State.writeItems (s : State) (rq : Req) (h : Ncp) (l : List WItem) : List RespItem × State :=
  l.foldl (fun (acc : List RespItem × State) x =>
    if h.session = 0 ∧ admitWrite x.at_.addr = false then (acc.1 ++ [noSessionItem x.at_.addr], acc.2)
    else
      let r := acc.2.writeItem rq h x
      (acc.1 ++ [⟨x.at_.addr, r.1.code, 0, []⟩], r.2)) ([], s)

def State.ncpWrite (s : State) (h : Ncp) (l : List WItem) : State :=
  s.serve h fun rq s =>
    if l.isEmpty || 64 < l.length || 1456 < (l.map fun x => 12 + pad4 x.val.length).sum then none
    else
      let r := s.writeItems rq h l
      some (itemsResp r.1, r.2)

def execNcpWrite (h : Ncp) (items : List WItem) (s : State) : Host.Outcome State Fault Refusal := done (s.ncpWrite h items)

def execChallengeRead (h : Ncp) (s : State) : Host.Outcome State Fault Refusal := done (s.ncpRead h [Addr.sent ⟨0x6010, 3, 0⟩])

def execSessionOpen (h : Ncp) (blob : List Byte) (s : State) : Host.Outcome State Fault Refusal :=
  done (s.ncpWrite h [⟨Addr.sent ⟨0x6010, 1, 0⟩, 10, blob⟩])

def execSessionClose (h : Ncp) (n : Nat) (s : State) : Host.Outcome State Fault Refusal :=
  done (s.ncpWrite h [⟨Addr.sent ⟨0x6010, 2, 0⟩, 2, beBytes 2 n⟩])

/-- SESSION_TIMEOUT: no request for TIMEOUT seconds. -/
def State.sessionTimeout (s : State) (c : Nat) : State :=
  match s.session c with
  | some x => (s.waitUntil (x.lastReq + secs x.timeout)).closeSession c
  | none => s

def execSessionTimeout (c : Fin 4) (s : State) : Host.Outcome State Fault Refusal := done (s.sessionTimeout c.val)

/-! ### BLOCK-READ and BLOCK-WRITE (R314) -/

/-- The elements of a BLOCK-READ from `e` on, until one cannot be read: their words, how many. -/
def State.blockElems (s : State) (rq : Req) (o : Obj) : Nat → Nat → List W → Nat → List W × Nat × State
  | 0, _, acc, n => (acc, n, s)
  | k + 1, e, acc, n =>
    match s.judgeRead rq ⟨o.ix, o.sub, e⟩ with
    | .error _ => (acc, n, s)
    | .ok _ =>
      let r := s.readValue o e false
      r.2.blockElems rq o k (e + 1) (acc ++ r.1) (n + 1)

def State.ncpBlockRead (s : State) (h : Ncp) (x : WireAddr) (count : Nat) : State :=
  let a := x.addr
  s.serve h <| onSession h a fun rq s =>
    match s.judgeWire rq x with
    | .error st => some (⟨st.code, 0 < count, [⟨a, st.code, 0, []⟩]⟩, s.settleAs rq x 0 st)
    | .ok o =>
      if o.typ.isBytes then
        let r := s.readValue o a.e false
        let n := min count (min 1440 r.1.length)
        some (⟨0, n < count, [⟨a, 0, n, r.1.take n⟩]⟩, r.2)
      else
        let r := s.blockElems rq o (min count (1440 / o.size 0)) a.e [] 0
        some (⟨0, r.2.1 < count, [⟨a, 0, r.2.1, r.1⟩]⟩, r.2.2)

def execNcpBlockRead (h : Ncp) (a : WireAddr) (count : Nat) (s : State) : Host.Outcome State Fault Refusal :=
  done (s.ncpBlockRead h a count)

/-- The elements of a BLOCK-WRITE until one fails: its status, the number written. -/
def State.writeElems (s : State) (rq : Req) (h : Ncp) (typ : Nat) : List (List Byte) → WireAddr → Nat → Status × Nat × State
  | [], _, n => (.ok, n, s)
  | x :: l, a, n =>
    let r := s.writeItem rq h ⟨a, typ, x⟩
    if r.1 == .ok || r.1 == .forwarded then r.2.writeElems rq h typ l { a with addr := { a.addr with e := a.addr.e + 1 } } (n + 1)
    else (r.1, n, r.2)

/-- A block of no elements, judged at its address alone. -/
def State.emptyBlock (s : State) (rq : Req) (x : WireAddr) (typ : Nat) : Status × State :=
  s.wireWrite rq x (⟨x.addr, [], 0, x.res == 0 && (match findObj x.addr.ix x.addr.sub with | some o => typ == o.code | none => true)⟩,
    fun s => (.ok, s))

def State.ncpBlockWrite (s : State) (h : Ncp) (x : WireAddr) (typ : Nat) (elems : List (List Byte)) : State :=
  s.serve h <| onSession h x.addr fun rq s =>
    if 1440 < (elems.map (·.length)).sum then none
    else
      let r := if elems.flatten.isEmpty then
          let r := s.emptyBlock rq x typ
          (r.1, 0, r.2)
        else if typ % 256 == 9 || typ % 256 == 10 then
          let r := s.writeItem rq h ⟨x, typ, elems.flatten⟩
          (r.1, if r.1 == .ok then elems.flatten.length else 0, r.2)
        else s.writeElems rq h typ elems x 0
      some (⟨r.1.code, false, [⟨x.addr, r.1.code, r.2.1, []⟩]⟩, r.2.2)

def execNcpBlockWrite (h : Ncp) (a : WireAddr) (typ : Nat) (elems : List (List Byte)) (s : State) : Host.Outcome State Fault Refusal :=
  done (s.ncpBlockWrite h a typ elems)

/-! ### Subscriptions (R323, R324) -/

/-- A context's subscriptions, on NCP and on PCIe. -/
def State.subsOf (s : State) (c : Nat) : List Sub :=
  (match s.session c with | some x => x.subs | none => []) ++ (match s.host.pcie[c]? with | some f => f.subs | none => [])

/-- The first SUBID from `n` on that no subscription of the session has; never 0. -/
def freeSubId (subs : List Sub) (n : Nat) : Nat :=
  (((List.range 257).map fun k => (n - 1 + k) % 65535 + 1).find? fun i => !subs.any fun x => x.id == i).getD 1

/-- The elements that a SUBSCRIBE names; beyond an object's last there is only one more to judge. -/
def subElems (x : WireAddr) (count : Nat) : List Addr :=
  let last := match findObj x.addr.ix x.addr.sub with | some o => lastElem largest o | none => 0
  (List.range (max 1 (min count (last + 2)))).map fun k => { x.addr with e := x.addr.e + k }

/-- What a read of an element would be answered. -/
def State.readStatus (s : State) (rq : Req) (a : Addr) : Status :=
  match s.judgeRead rq a with | .ok _ => .ok | .error st => st

/-- A SUBSCRIBE judged (R323, R324, R335), each check over all its elements; `act` says that its ACTION subscribes and its reserved byte is
0. -/
def State.judgeSub (s : State) (rq : Req) (x : WireAddr) (count period : Nat) (act : Bool) : Status :=
  let sts := (subElems x count).map (s.readStatus rq)
  if sts.contains .index then .index
  else if sts.contains .absent then .absent
  else if sts.contains .rights then .rights
  else if !act || x.res != 0 || count = 0 || !(period == 0 || (100 ≤ period && period ≤ 60000)) then .range
  else if sts.contains .mode then .mode
  else
    let l := s.subsOf rq.ctx.val
    if 256 ≤ l.length || 65536 < (l.map (·.count)).sum + count then .limit else .ok

/-- A subscription as it starts. -/
def newSub (s : State) (subs : List Sub) (next : Nat) (a : Addr) (count period : Nat) : Sub :=
  ⟨freeSubId subs next, a, count, period, s.now⟩

/-- The end of a subscription judged: COUNT holds the SUBID in its low 16 bits and 0 above; ADDRESS and PERIOD are ignored (R323). -/
def judgeUnsub (rq : Req) (subs : List Sub) (count res : Nat) : Status :=
  if rq.ceil.num < rq.cls.num then .rights
  else if 65536 ≤ count || res != 0 then .range
  else if subs.any fun x => x.id == count then .ok else .busy

/-- A SUBSCRIBE of a session: ACTION 2 ends a subscription, 1 starts one, any other is reserved. -/
def State.ncpSub (s : State) (h : Ncp) (x : WireAddr) (count : Nat) (t : SubTail) : State :=
  let a := x.addr
  let answer := fun (rq : Req) (s : State) (st : Status) (id : Nat) =>
    some ((⟨st.code, false, [⟨a, st.code, 0, [BitVec.ofNat 64 id]⟩]⟩ : Resp), s.settleAs rq x 0 st)
  s.serve h <| onSession h a fun rq s =>
    match s.session rq.ctx.val with
    | none => some (bareResp .nosession, s)
    | some y =>
      if t.action = 2 then
        let st := judgeUnsub rq y.subs count t.res
        let s := if st == .ok then s.modSession rq.ctx.val fun y => { y with subs := y.subs.filter fun x => x.id != count } else s
        answer rq s st (count % 65536)
      else
        let st := s.judgeSub rq x count t.period (t.action == 1 && t.res == 0)
        let n := newSub s y.subs y.nextSub a count t.period
        if st == .ok then
          answer rq (s.modSession rq.ctx.val fun y => { y with subs := y.subs ++ [n], nextSub := n.id % 65535 + 1 }) .ok n.id
        else answer rq s st 0

def execNcpSubscribe (h : Ncp) (a : WireAddr) (count : Nat) (tail : SubTail) (s : State) : Host.Outcome State Fault Refusal :=
  done (s.ncpSub h a count tail)

def execNcpUnsubscribe (h : Ncp) (x : WireAddr × Nat × SubTail) (s : State) : Host.Outcome State Fault Refusal :=
  done (s.ncpSub h x.1 x.2.1 { x.2.2 with action := 2 })

/-- No object. -/
def noAddr : Addr := ⟨0, 0, 0⟩

/-! ### NOTIFY (R325, R327) -/

/-- The NOTIFYs of a period: one for each element, dropped where the queue is full. -/
def State.periodNotes (s : State) (l : List Note) (x : Sub) : List Note × Nat :=
  match findObj x.addr.ix x.addr.sub with
  | none => (l, 0)
  | some o =>
    if s.mode = SAFE ∧ s.servesWhole o = false then (l, 0)
    else ((List.range x.count).map (x.addr.e + ·)).foldl (fun (acc : List Note × Nat) e =>
      if !elemExists s.caps o e then acc
      else
        let r := queueNote acc.1 ⟨x.id, 2, { x.addr with e := e }, s.readElem o e, s.now⟩
        (r.1, acc.2 + flag r.2)) (l, 0)

/-- A subscription's last period begins. -/
def renewSub (subs : List Sub) (id now : Nat) : List Sub := subs.map fun x => if x.id = id then { x with last := now } else x

/-- The subscriptions and the queue of a session, or of a PCIe function. -/
def State.sideOf (s : State) (c : Nat) (pcie : Bool) : List Sub × List Note × Bool :=
  if pcie then match s.host.pcie[c]? with | some f => (f.subs, f.notes, f.spilt) | none => ([], [], false)
  else match s.session c with | some x => (x.subs, x.notes, x.spilt) | none => ([], [], false)

def State.setSide (s : State) (c : Nat) (pcie : Bool) (subs : List Sub) (notes : List Note) (spilt : Bool) : State :=
  if pcie then s.withPcie c fun f => { f with subs := subs, notes := notes, spilt := spilt }
  else s.modSession c fun x => { x with subs := subs, notes := notes, spilt := spilt }

/-- NOTIFY_PERIOD. -/
def State.notifyPeriod (s : State) (c : Nat) (pcie : Bool) (id : Nat) : State :=
  match (s.sideOf c pcie).1.find? fun x => x.id == id && x.period != 0 with
  | none => s
  | some x =>
    let s := s.waitUntil (x.last + ms x.period)
    let q := s.sideOf c pcie
    let r := s.periodNotes q.2.1 x
    let s := s.setSide c pcie (renewSub q.1 id s.now) r.1 (q.2.2 || r.2 != 0)
    if r.2 = 0 then s else s.bump F.CT_NCP_STAT_NOTIFYDROP 0 r.2

def execNotifyPeriod (c : Fin 4) (pcie : Bool) (id : Nat) (s : State) : Host.Outcome State Fault Refusal :=
  done (s.notifyPeriod c.val pcie id)

/-- Entries of a function's notification queue (R332). -/
def PcieFn.nqSize (x : PcieFn) : Nat := 64 * 2 ^ getBits x.nqCtrl 0 3

/-- The notification queue is on and has a free entry. -/
def PcieFn.nqRoom (x : PcieFn) : Bool := x.nqCtrl.getLsbD 63 && (x.nqHead + 1) % x.nqSize != x.nqTail % x.nqSize

/-- An entry written at NQHEAD, which moves on; vector 1 is raised (R332, R333). -/
def PcieFn.nqPut (x : PcieFn) (entry : List Byte) : PcieFn :=
  { x.raise 1 with nqHead := (x.nqHead + 1) % x.nqSize, queue := x.queue ++ [(x.nqHead, entry)] }

/-- Entries of the notification queue that host software has not read. -/
def PcieFn.nqFill (x : PcieFn) : Nat := (x.nqHead + x.nqSize - x.nqTail % x.nqSize) % x.nqSize

/-- NOTIFY_SEND: the oldest NOTIFY leaves, one of an event when the 1 ms in which others join it is over (R325); on PCIe, into the
notification queue, and one that finds it full is dropped. -/
def State.notifySend (s : State) (c : Nat) (pcie : Bool) : State :=
  let q := s.sideOf c pcie
  match q.2.1 with
  | [] => s
  | n :: l =>
    let s := if n.cause = 1 then s.waitUntil (n.born + ms 1) else s
    if pcie then
      match s.host.pcie[c]? with
      | none => s
      | some f =>
        if f.nqRoom then s.withPcie c fun x => { x.nqPut (queueEntry (n.payload 40)) with notes := l }
        else (s.withPcie c fun x => { x with notes := l, spilt := true }).bump F.CT_NCP_STAT_NOTIFYDROP 0 1
    else match s.session c with
      | none => s
      | some x => (s.modSession c fun x => { x with notes := l, nseq := (x.nseq + 1) % 2 ^ 32 }).sendMsg x.att

def execNotifySend (c : Fin 4) (pcie : Bool) (s : State) : Host.Outcome State Fault Refusal := done (s.notifySend c.val pcie)

/-- NOTIFYs of a session's queue, or of a function's with the entries that host software has still to read (R327, R332). -/
def State.queued (s : State) (c : Nat) (pcie : Bool) : Nat :=
  (s.sideOf c pcie).2.1.length + (if pcie then match s.host.pcie[c]? with | some f => f.nqFill | none => 0 else 0)

/-- NOTIFY_OVERFLOW: the queue has drained below 256 after a drop. -/
def State.notifyOverflow (s : State) (c : Nat) (pcie : Bool) : State :=
  let q := s.sideOf c pcie
  if q.2.2 && s.queued c pcie < 256 then s.setSide c pcie q.1 (q.2.1 ++ [⟨0, 3, noAddr, [], s.now⟩]) false else s

def execNotifyOverflow (c : Fin 4) (pcie : Bool) (s : State) : Host.Outcome State Fault Refusal := done (s.notifyOverflow c.val pcie)

/-! ### EMERGENCY (R328, R333) -/

/-- Two addresses lie in one subnet. -/
def sameNet (a b pre : Nat) : Bool := a / 2 ^ (32 - pre) == b / 2 ^ (32 - pre)

/-- The attachments and management VLANs whose subnet holds an address; a link-local address has 16 bits of prefix (RFC 3927). -/
def State.netsOf (s : State) (ip : Nat) : List Att :=
  (([0, 1, 2, 3] : List (Fin 4)).filter fun a =>
      let own := ((s.host.bus[a.val]?).map (·.ip)).getD 0
      sameNet own ip (if s.fld F.CT_BUS_IPADDR a.val = 0 then 16 else s.fld F.CT_BUS_PREFIX a.val)).map .bus
    ++ ((List.range (s.dies * 16)).filter fun m =>
      s.caps.media && s.macUp m && s.fld F.MX_MAC_MGMTVID m != 0
        && sameNet (s.fld F.MX_MAC_IPADDR m) ip (s.fld F.MX_MAC_PREFIX m)).map fun m => .mac m (s.fld F.MX_MAC_MGMTVID m)

/-- Where one sending of an EMERGENCY goes: an open session that no subnet holds is reached by the path of its last request. -/
def State.emergencyPaths (s : State) : List Att :=
  ((List.range 4).flatMap fun c => match s.session c with
      | some x => let l := s.netsOf x.ip; if l.isEmpty then [x.lastAtt] else l
      | none => [])
    ++ (List.range 4).flatMap fun e => if s.fld F.CT_EMERG_EN e = 1 then s.netsOf (s.fld F.CT_EMERG_IPADDR e) else []

/-- A keeper sends EMERGENCYs: the mast's, or where the mast die is isolated that of the other of dies 0 and 1, if it is healthy (R393). -/
def State.keeperSends (s : State) : Bool :=
  match s.sys.mast with
  | none => false
  | some m => !s.sys.held && (!s.sys.isolated.contains m || (!s.sys.isolated.contains (1 - m) && 1 - m < s.dies))

/-- A function that acts for its context (R329). -/
def State.pcieOn (s : State) (f : Nat) : Bool := s.fld F.CT_CONTEXT_EN f == 1 && s.fld F.CT_CONTEXT_PCIE f == 1

/-- An EMERGENCY on PCIe: an entry of the notification queue, or a wait for one; vector 2 at once (R333, R338). -/
def PcieFn.emergency (x : PcieFn) (ws : List W) : PcieFn :=
  if x.nqRoom then (x.nqPut (emergencyEntry ws)).raise 2 else { x.raise 2 with waiting := x.waiting ++ [ws] }

/-- A record sent: EMERG is set in it (R406). -/
def State.markSent (s : State) (ws : List W) : State :=
  let seq := getBits (ws.getD 0 0) 0 32
  let mark := fun (r : Rec) => if r.seq = seq then { r with emerg := true } else r
  s.withEv fun e => { e with lastGasp := e.lastGasp.map mark, sillage := e.sillage.map fun l => l.map mark }

/-- EMERGENCY_SEND: the first not sent yet. -/
def State.emergencySend (s : State) : State :=
  if !s.keeperSends then s
  else match s.host.emerg.findIdx? fun x => x.2.1 == 0 with
    | none => s
    | some i =>
      let ws := ((s.host.emerg[i]?).map (·.1)).getD []
      let t := s.withHost fun h => { h with
        emerg := h.emerg.modify i fun x => (x.1, 1, s.now)
        pcie := h.pcie.zipIdx.map fun x => if s.pcieOn x.2 then x.1.emergency ws else x.1 }
      s.emergencyPaths.foldl State.sendMsg (t.markSent ws)

def execEmergencySend (s : State) : Host.Outcome State Fault Refusal := done s.emergencySend

/-- EMERGENCY_REPEAT: 10 ms after a sending, up to three in all. -/
def State.emergencyRepeat (s : State) : State :=
  if !s.keeperSends then s
  else match s.host.emerg.findIdx? fun x => x.2.1 == 1 || x.2.1 == 2 with
    | none => s
    | some i =>
      let last := ((s.host.emerg[i]?).map (·.2.2)).getD 0
      let k := ((s.host.emerg[i]?).map (·.2.1)).getD 0
      let s := s.waitUntil (last + ms 10)
      let t := s.withHost fun h => { h with
        emerg := if k = 2 then h.emerg.eraseIdx i else h.emerg.modify i fun x => (x.1, 2, s.now) }
      s.emergencyPaths.foldl State.sendMsg t

def execEmergencyRepeat (s : State) : Host.Outcome State Fault Refusal := done s.emergencyRepeat

/-! ### The control buses (R307–R309, R317) -/

def State.withBus (s : State) (a : Nat) (f : BusAtt → BusAtt) : State := s.withHost fun h => { h with bus := h.bus.modify a f }

/-- BUS_FRAME_RX. -/
def State.busFrame (s : State) (a : Nat) (f : BusFrame) : State :=
  let held := ((s.host.bus[a]?).map (·.held.length)).getD 0
  let takes := match f.body with | .twin _ => false | .other => false | _ => true
  if !s.alive then s
  else if f.jabber then s.setFld F.CT_BUS_STAT_JABBER a 1
  else if !f.fcsOk then s.setFld F.CT_BUS_STAT_FCS a 1
  else if !f.toMe || f.tagged || 1518 < f.len || !takes then s
  else if 16 ≤ held then s.bump F.CT_NCP_STAT_BUSDROP 0 1
  else match f.body with
    | .ncp ip udp m =>
      match s.ncpDrop m with
      | some false => s.bump F.CT_NCP_STAT_MALFORMED 0 1
      | some true => s.bump F.CT_NCP_STAT_WRONGNODE 0 1
      | none => s.withBus a fun b => { b with held := b.held ++ [⟨ip, udp, m⟩] }
    | _ => s.withBus a fun b => { b with replies := b.replies + 1 }

def execBusFrameRx (a : Fin 4) (f : BusFrame) (s : State) : Host.Outcome State Fault Refusal := done (s.busFrame a.val f)

/-- Slot time: 51.2 µs (R308). -/
def slotUnits : Nat := 51200 * nsUnits

/-- BUS_COLLISION: the n-th collision of a frame draws its backoff below 2^min(n, 10); the sixteenth attempt is the last. An attempt more
than 2 ms old was at another frame. -/
def State.busCollision (s : State) (a : Nat) (late : Bool) : State :=
  match s.host.bus[a]? with
  | none => s
  | some b =>
    let s := s.setFld F.CT_BUS_STAT_COLL a 1
    let s := if late then s.setFld F.CT_BUS_STAT_LATECOLL a 1 else s
    let n := (if b.since + ms 2 < s.now then 0 else b.attempts) + 1
    if 16 ≤ n then (s.setFld F.CT_BUS_STAT_EXCESS a 1).withBus a fun b => { b with attempts := 0, backoff := 0, since := s.now }
    else
      let r := Config.backoff s.fresh % 2 ^ min n 10
      { s with fresh := s.fresh + 1 }.withBus a fun b => { b with attempts := n, backoff := r, since := s.now }

def execBusCollision (a : Fin 4) (late : Bool) (s : State) : Host.Outcome State Fault Refusal := done (s.busCollision a.val late)

/-- BUS_BACKOFF_EXPIRE: the next attempt begins. -/
def State.busRetry (s : State) (a : Nat) : State :=
  match s.host.bus[a]? with
  | none => s
  | some b =>
    if b.attempts = 0 then s
    else
      let s := s.waitUntil (b.since + b.backoff * slotUnits)
      s.withBus a fun b => { b with since := s.now, backoff := 0 }

def execBusBackoffExpire (a : Fin 4) (s : State) : Host.Outcome State Fault Refusal := done (s.busRetry a.val)

/-- CT_BUS_WRITE: word 0 of `CT_BUS` (R337). -/
def execCtBusWrite (rq : Req) (a : Nat) (v : W) (s : State) : Host.Outcome State Fault Refusal :=
  let x := putBus a v
  done (s.request rq x.1 x.2)

/-! ### Leases and contexts (R320, R336) -/

def execLeaseTake (rq : Req) (e : Nat) (s : State) : Host.Outcome State Fault Refusal :=
  let x := putLease rq e 1
  done (s.request rq x.1 x.2)

def execLeaseRelease (rq : Req) (e : Nat) (s : State) : Host.Outcome State Fault Refusal :=
  let x := putLease rq e 2
  done (s.request rq x.1 x.2)

def execLeaseBreak (rq : Req) (e : Nat) (s : State) : Host.Outcome State Fault Refusal :=
  let x := putLease rq e 3
  done (s.request rq x.1 x.2)

def execCtContextWrite (rq : Req) (c w : Nat) (v : W) (s : State) : Host.Outcome State Fault Refusal :=
  let x := putContext c [(w, v)]
  done (s.request rq x.1 x.2)

/-! ### Writes with no row of their own (R335) -/

/-- A write of one word of an object, or of a byte of a BLOB: RO words are nobody's to write. -/
def putWordOf (s : State) (rq : Req) (a : Addr) (w : Nat) (v : W) : Put :=
  match findObj a.ix a.sub with
  | none => (⟨a, [], 0, true⟩, fun s => (.index, s))
  | some o =>
    let acc := o.acc.getD w .ro
    if o.typ.isBytes then putTyped o a [] (putAny s rq none a [] [v.setWidth 8])
    else if acc == .ro || acc == .rc then (⟨a, [(w, v)], 0, true⟩, fun s => (.rights, s))
    else putTyped o a [(w, v)] (putAny s rq none a [(w, v)] [])

def execRegisterWrite (rq : Req) (a : Addr) (w : Nat) (v : W) (s : State) : Host.Outcome State Fault Refusal :=
  let x := putWordOf s rq a w v
  done (s.request rq x.1 x.2)

end Sys2Proof.Machine
end

