-- ==== Sys2Proof/Machine/Pcie.lean ====
section
/-! DEFINITION. The PCIe endpoint: the windows, the control block of each function, MSI-X, function reset (R329–R334, R338). -/
namespace Sys2Proof.Machine

/-! ### Where an address lies (R329, R330, R343) -/

/-- What a BAR offset names: a register of the control block, a word of the MSI-X table, the PBA, a word of an element and which half,
a byte of a STR or BLOB. -/
inductive Loc where
  | control (off : Nat)
  | msix (i : Nat)
  | pba
  | word (o : Obj) (e w half : Nat)
  | byte (o : Obj) (e : Nat)
deriving DecidableEq, Repr

/-- Bytes that a word of a scalar takes in its window. -/
def slotBytes (o : Obj) : Nat := if o.typ.bytes = 8 then 8 else 4

/-- The scalar of index `ix` whose slots hold byte `r` of the index's 0x400. -/
def scalarAt (ix r : Nat) : Option Obj :=
  dictionary.find? fun o => o.ix == ix && !o.isArray && !o.typ.isBytes && o.sub * 4 ≤ r && r < o.sub * 4 + o.acc.length * slotBytes o

/-- The window of BAR2 that holds an offset. -/
def windowAt (c : Caps) (off : Nat) : Option Obj :=
  dictionary.find? fun o => (o.isArray || o.typ.isBytes) && winBase o ≤ off
    && off < winBase o + (lastElem (if c.has o.unit_ then c else largest) o + 1) * 2 ^ (if o.typ.isBytes then 0 else strideShift o.acc.length)

/-- The place of a naturally aligned access of 8 bytes or 4. -/
def locate (c : Caps) (bar2 : Bool) (off : Nat) (wide : Bool) : Option Loc :=
  if off % (if wide then 8 else 4) != 0 then none
  else if bar2 then
    match windowAt c off with
    | none => none
    | some o =>
      let r := off - winBase o
      if o.typ.isBytes then some (.byte o r)
      else
        let st := 2 ^ strideShift o.acc.length
        let w := r % st / 8
        if w < o.acc.length then some (.word o (r / st) w (r / 4 % 2)) else none
  else if off < 0x1000 then some (.control off)
  else if 0x1000000 ≤ off ∧ off < 0x1000080 then some (.msix ((off - 0x1000000) / 4))
  else if off = 0x1001000 ∨ off = 0x1001004 then some .pba
  else if 0x2000000 ≤ off then
    let r := off - 0x2000000
    match scalarAt (r / 0x400) (r % 0x400) with
    | none => none
    | some o =>
      let b := r % 0x400 - o.sub * 4
      some (.word o 0 (b / slotBytes o) (b % slotBytes o / 4))
  else none

/-- The object that a place names, for `CT_VIOLATION`: 0xFFFF for none (R337). -/
def Loc.names : Option Loc → Nat × Nat
  | some (.word o _ _ _) => (o.ix, o.sub)
  | some (.byte o _) => (o.ix, o.sub)
  | _ => (0xFFFF, 0)

/-! ### What an access leaves (R334) -/

/-- In whose name a function acts (R329, R332). -/
def State.pcieReq (s : State) (f : Fin 4) : Req :=
  ⟨f, ((s.host.pcie[f.val]?).map (·.cls)).getD .operate, Cls.ofNum (s.fld F.CT_CONTEXT_CEILING f), .pcie, 0, 0⟩

/-- An access that was not OK: a violation's record, and the function's own registers. -/
def State.pcieSettle (s : State) (rq : Req) (st : Status) (bar2 : Bool) (off : Nat) (names : Nat × Nat) : State :=
  if st.code = 0 then s
  else
    let s := if st.violation then s.recordViolation rq st names.1 names.2 (flag bar2 * 2 ^ 63 + off % 2 ^ 36) else s
    s.pcieFail rq.ctx.val st bar2 off

/-- The completion of a read: its data, or Completer Abort. -/
def State.complete (s : State) (st : Status) (data : W) : State :=
  let a : Addr := noAddr
  s.withHost fun h => { h with resp := some ⟨st.code, false, [⟨a, st.code, 1, [data]⟩]⟩ }

/-- All bits of an access set. -/
def allOnes (wide : Bool) : W := if wide then ~~~0 else 0xFFFFFFFF

/-- Two counters of a block of 4-byte slots as an access of 8 bytes takes them (R330, R331); past the value's end it reads 0 (log 202). -/
def slotPair (l : List W) (w : Nat) : W := (l.getD w 0 &&& 0xFFFFFFFF) ||| (l.getD (w + 1) 0 <<< 32)

/-- The part of a word that an access of 8 bytes, or of the half `half`, takes. -/
def partOf (wide : Bool) (half : Nat) (v : W) : W := if wide && half = 0 then v else (v >>> (32 * half)) &&& 0xFFFFFFFF

/-- The bits that it touches. -/
def partMask (wide : Bool) (half : Nat) : W := if wide && half = 0 then ~~~0 else 0xFFFFFFFF <<< (32 * half)

/-! ### The control block (R332) -/

/-- CLASS written: above CEILING, or SECURE without an authentication, AUTH. -/
def State.pcieClass (s : State) (f : Fin 4) (v : W) : Status × State :=
  let c := Cls.ofNum v.toNat
  if 4 ≤ v.toNat then (.range, s)
  else
    let authed := ((s.host.pcie[f.val]?).map (·.authed)).getD false
    if s.fld F.CT_CONTEXT_CEILING f < v.toNat || (v.toNat == 3 && !authed) then (.auth, s)
    else (.ok, s.withPcie f.val fun x => { x with cls := c })

/-- A signed open with SESSION 0 and CLASS SECURE: success allows CLASS 3 until a Function Level Reset. -/
def State.pcieAuth (s : State) (f : Fin 4) (b : List Byte) : Status × State :=
  if !openForm b 0 || byteAt b 0 + byteAt b 1 != 0 || byteAt b 3 != 3 then (.range, s)
  else if byteAt b 2 != f.val || !s.pcieOn f.val || s.fld F.CT_CONTEXT_CEILING f != 3 then (.auth, s)
  else
    let r := s.openSigned f.val b
    if r.1 then (.ok, r.2.withPcie f.val fun x => { x with authed := true }) else (.auth, r.2)

/-- Byte `i` of a word as it lies in memory: bit 0 of a word is in the byte at its lowest address (R331). -/
def leByte (v : W) (i : Nat) : Nat := getBits v (8 * i) 8

/-- A number of bytes `i`, … of a word, the first most significant. -/
def beOf (v : W) (l : List Nat) : Nat := l.foldl (fun n i => n * 256 + leByte v i) 0

/-- A SUBSCRIBE request of 16 bytes (R314, R323): its outcome stands in SUBRESP. -/
def State.pcieSub (s : State) (rq : Req) (lo hi : W) : Status × State :=
  let f := rq.ctx.val
  let a : WireAddr := ⟨⟨beOf lo [0, 1], beOf lo [2], beOf lo [4, 5, 6, 7]⟩, leByte lo 3⟩
  let count := beOf hi [0, 1, 2, 3]
  let period := beOf hi [4, 5]
  let act := beOf hi [6]
  let x := (s.host.pcie[f]?).getD .rest
  let answer := fun (s : State) (st : Status) (id : Nat) =>
    (st, s.withPcie f fun x => { x with subResp := BitVec.ofNat 64 (st.code * 2 ^ 56 + id) })
  if act = 2 then
    let st := judgeUnsub rq x.subs count (leByte hi 7)
    let s := if st == .ok then s.withPcie f fun x => { x with subs := x.subs.filter fun y => y.id != count } else s
    answer s st (count % 65536)
  else
    let st := s.judgeSub rq a count period (act == 1 && leByte hi 7 == 0)
    let n := newSub s x.subs x.nextSub a.addr count period
    if st == .ok then answer (s.withPcie f fun x => { x with subs := x.subs ++ [n], nextSub := n.id % 65535 + 1 }) .ok n.id
    else answer s st 0

/-- Records that waited take entries of the notification queue that are free again (R338). -/
def PcieFn.drain (x : PcieFn) : List (List W) → PcieFn
  | [] => x
  | ws :: l => if x.nqRoom then PcieFn.drain { x.nqPut (emergencyEntry ws) with waiting := l } l else x

/-- NQTAIL moves: the entries before it have been read. -/
def PcieFn.readTo (x : PcieFn) (tail : Nat) : PcieFn :=
  let y := { x with nqTail := tail }
  { y with queue := y.queue.filter fun q => (q.1 + y.nqSize - tail) % y.nqSize < y.nqFill }

/-- A register of the control block read: what it holds, none where it cannot be read or does not exist. -/
def PcieFn.control (x : PcieFn) (off : Nat) : Except Status W :=
  match off / 8 with
  | 0 => .ok (BitVec.ofNat 64 x.cls.num)
  | 1 => .ok x.lastStatus
  | 2 => .ok (BitVec.ofNat 64 x.vcount)
  | 3 => .ok (BitVec.ofNat 64 x.irqCause)
  | 4 => .ok x.nqBase
  | 5 => .ok x.nqCtrl
  | 6 => .ok (BitVec.ofNat 64 x.nqHead)
  | 7 => .ok (BitVec.ofNat 64 x.nqTail)
  | 8 => .error .rights
  | 9 => .error .rights
  | 10 => .ok x.subResp
  | n => if 32 ≤ n ∧ n < 43 then .error .rights else .error .index

/-- The RC registers that a read clears, in the part it touches. -/
def PcieFn.controlRead (x : PcieFn) (off : Nat) (wide : Bool) : PcieFn :=
  let m := partMask wide (off / 4 % 2)
  if off / 8 = 1 then { x with lastStatus := x.lastStatus &&& ~~~m }
  else if off / 8 = 2 then { x with vcount := (BitVec.ofNat 64 x.vcount &&& ~~~m).toNat }
  else x

/-- Bytes of the AUTH buffer, which the control block holds until its last are written. -/
def authAt : Addr := ⟨0xFFFF, 0, 0x100⟩

/-- Bytes of a word as they lie in memory. -/
def leBytes (n : Nat) (v : W) : List Byte := (List.range n).map fun i => BitVec.ofNat 8 (leByte v i)

/-- Eight bytes of the AUTH buffer written. -/
def PcieFn.authPut (x : PcieFn) (off : Nat) (v : W) : PcieFn :=
  let old := padTo 88 (if x.blobAt = authAt then x.blob else [])
  { x with blobAt := authAt, blob := old.take (off - 0x100) ++ leBytes 8 v ++ old.drop (off - 0x100 + 8) }

/-- A register of the control block written: it must exist, be the function's to write, and take the value as it comes (R331, R335). -/
def State.controlWrite (s : State) (rq : Req) (off : Nat) (wide : Bool) (v : W) : Status × State :=
  let f := rq.ctx
  let put := fun (k : PcieFn → PcieFn) => ((Status.ok, s.withPcie f.val k) : Status × State)
  let x := (s.host.pcie[f.val]?).getD .rest
  let n := off / 8
  if (11 ≤ n && n < 32) || 43 ≤ n then (.index, s)
  else if n = 1 ∨ n = 2 ∨ n = 6 ∨ n = 10 then (.rights, s)
  else if off % 8 != 0 || (!wide && (n == 4 || n == 5 || n == 8 || n == 9 || 32 ≤ n)) then (.range, s)
  else match n with
  | 0 => s.pcieClass f v
  | 3 => put fun x => { x with irqCause := (BitVec.ofNat 64 x.irqCause &&& ~~~v).toNat }
  | 4 => if v.toNat % 4096 = 0 then put fun x => { x with nqBase := v } else (.range, s)
  | 5 =>
    if getBits v 0 3 ≤ 6 ∧ getBits v 3 60 = 0 then put fun x => let y := { x with nqCtrl := v }; PcieFn.drain y y.waiting else (.range, s)
  | 7 => if v.toNat < x.nqSize then put fun x => let y := x.readTo v.toNat; PcieFn.drain y y.waiting else (.range, s)
  | 8 => put fun x => { x with subReq := v }
  | 9 => s.pcieSub rq x.subReq v
  | 42 =>
    let y := x.authPut off v
    (s.withPcie f.val fun x => { x with blobAt := noAddr, blob := [] }).pcieAuth f y.blob
  | _ => put fun x => x.authPut off v

/-- MSI-X words of 4 bytes written: a vector no longer masked is no longer pending. -/
def PcieFn.msixPut (x : PcieFn) (i : Nat) (wide : Bool) (v : W) : PcieFn :=
  let old := x.msix.getD (i / 2) 0
  let new := if wide then v else (old &&& ~~~(partMask false (i % 2))) ||| ((v &&& 0xFFFFFFFF) <<< (32 * (i % 2)))
  let y := { x with msix := x.msix.set (i / 2) new }
  { y with pba := (List.range 8).foldl (fun (p : Nat) k => if y.masked k then p else p &&& (255 - 2 ^ k)) y.pba }

/-! ### Reads of the windows (R331, R334) -/

/-- A word of an element read by itself, with what the read clears. -/
def State.readPart (s : State) (o : Obj) (e w : Nat) (mask : W) : W × State :=
  if s.mode = SAFE ∧ s.servesWhole o = false then
    (if o.per.getD w .volatile == .saved then s.storedWord o.ix e (regWord o.sub w) else 0, s)
  else if o.ix = 0x6830 then
    let s := s.crcProgress e
    (s.read o.ix e w, s)
  else (s.read o.ix e (regWord o.sub w), s.clearWord o.ix e (regWord o.sub w) mask)

/-- A value longer than 8 bytes read at its first: it is latched (R331). -/
def State.latchValue (s : State) (f : Nat) (o : Obj) (e : Nat) : List W × State :=
  let r := s.readValue o e true
  let a : Addr := ⟨o.ix, o.sub, e⟩
  (r.1, r.2.withPcie f fun x => { x with latches := (a, r.1) :: x.latches.filter fun y => !(y.1 == a) })

/-- What a function's last read of the first 8 bytes of a value has latched. -/
def State.latched (s : State) (f : Nat) (o : Obj) (e : Nat) : Option (List W) :=
  match s.host.pcie[f]? with
  | some x => (x.latches.find? fun y => y.1 == ⟨o.ix, o.sub, e⟩).map (·.2)
  | none => none

/-- Bytes of a latched BLOB as they lie in memory. -/
def packBytes (n : Nat) (l : List W) : W :=
  ((List.range n).foldl (fun (v : Nat) i => v + (l.getD i 0).toNat % 256 * 2 ^ (8 * i)) 0 |> BitVec.ofNat 64)

/-- An access of 8 bytes takes two words of an object: its words stand in 4-byte slots (R330). -/
def twoSlots (o : Obj) (wide : Bool) : Bool := wide && !o.isArray && slotBytes o == 4

/-- What an access takes of a value. -/
def pickWord (o : Obj) (w half : Nat) (wide : Bool) (l : List W) : W :=
  if twoSlots o wide then slotPair l w else partOf wide half (l.getD w 0)

/-- A word of a window read. Offsets 1 to 15 of `MX_STATS` read that MAC's latch, whatever else has been latched since (R232). -/
def State.windowWord (s : State) (f : Nat) (o : Obj) (e w half : Nat) (wide : Bool) : W × State :=
  let live := fun (s : State) =>
    let r := s.readPart o e w (partMask wide half)
    if twoSlots o wide && w + 1 < o.acc.length then
      let q := r.2.readPart o e (w + 1) (partMask wide half)
      (slotPair [r.1, q.1] 0, q.2)
    else (partOf wide half r.1, r.2)
  if o.acc.length * o.typ.bytes ≤ 8 then live s
  else if w = 0 ∧ half = 0 then
    let r := s.latchValue f o e
    (pickWord o w half wide r.1, r.2)
  else if o.ix = 0x4860 then (partOf wide half ((s.statsLatch e).getD w 0), s)
  else match s.latched f o e with
    | some l => (pickWord o w half wide l, s)
    | none => live s

/-- Bytes of a window read. -/
def State.windowBytes (s : State) (f : Nat) (o : Obj) (e : Nat) (wide : Bool) : W × State :=
  let n := if wide then 8 else 4
  if e = 0 then
    let r := s.latchValue f o 0
    (packBytes n r.1, r.2)
  else match s.latched f o 0 with
    | some l => (packBytes n (l.drop e), s)
    | none =>
      let r := s.readBytes o.ix o.sub
      (packBytes n (r.1.drop e), r.2)

/-- A read of an object's window: judged, then carried out. -/
def State.windowRead (s : State) (rq : Req) (o : Obj) (e : Nat) (k : State → W × State) : Status × W × State :=
  match s.judgeRead rq ⟨o.ix, o.sub, e⟩ with
  | .error st => (st, 0, s)
  | .ok _ =>
    let r := k s
    (.ok, r.1, r.2)

/-- PCIE_WINDOW_READ. -/
def State.pcieRead (s : State) (f : Fin 4) (bar2 : Bool) (off : Nat) (wide : Bool) : State :=
  if !s.alive then s
  else
    let s := s.stir
    let rq := s.pcieReq f
    let x := (s.host.pcie[f.val]?).getD .rest
    let loc := locate s.caps bar2 off wide
    let r : Status × W × State :=
      if !s.pcieOn f.val then (.rights, 0, s)
      else match loc with
        | none => (.index, 0, s)
        | some (.control o) =>
          match x.control o with
          | .error st => (st, 0, s)
          | .ok v => (.ok, partOf wide (o / 4 % 2) v, s.withPcie f.val fun y => y.controlRead o wide)
        | some (.msix i) => (.ok, partOf wide (i % 2) (x.msix.getD (i / 2) 0), s)
        | some .pba => (.ok, partOf wide (off / 4 % 2) (BitVec.ofNat 64 x.pba), s)
        | some (.word o e w half) => s.windowRead rq o e fun s => s.windowWord f.val o e w half wide
        | some (.byte o e) => s.windowRead rq o 0 fun s => s.windowBytes f.val o e wide
    let st := r.1
    let s := r.2.2.pcieSettle rq st bar2 off (Loc.names loc)
    if st.violation then s.complete st 0
    else if st.code = 0 then s.complete .ok r.2.1
    else s.complete .ok (allOnes wide)

def execPcieWindowRead (f : Fin 4) (bar2 : Bool) (off : Nat) (wide : Bool) (s : State) : Host.Outcome State Fault Refusal :=
  done (s.pcieRead f bar2 off wide)

/-! ### Writes of the windows (R331, R334) -/

/-- A word of a window written: an 8-byte field takes an 8-byte write. -/
def State.wordWrite (s : State) (rq : Req) (o : Obj) (e w half : Nat) (wide : Bool) (v : W) : Status × State :=
  let a : Addr := ⟨o.ix, o.sub, e⟩
  let p : Put := if half != 0 || (!wide && o.typ.bytes == 8) then (⟨a, [(w, v)], 0, false⟩, fun s => (.range, s)) else putWordOf s rq a w v
  s.judgeWrite rq p.1 p.2

/-- A BLOB that a function writes in pieces takes effect with its last (R331). -/
def pieceWise (ix : Nat) : Bool := ix == 0x6010 || ix == 0x7830 || ix == 0x8040

/-- Bytes of a window written. -/
def State.bytesWrite (s : State) (rq : Req) (o : Obj) (e : Nat) (wide : Bool) (v : W) : Status × State :=
  let f := rq.ctx.val
  let a : Addr := ⟨o.ix, o.sub, 0⟩
  let l := leBytes (if wide then 8 else 4) v
  let x := (s.host.pcie[f]?).getD .rest
  let put := fun (s : State) (a : Addr) (l : List Byte) =>
    let p := putTyped o a [] (putAny s rq none a [] l)
    s.judgeWrite rq p.1 p.2
  if !pieceWise o.ix then put s { a with e := e } l
  else
    let sofar := if e = 0 then [] else if x.blobAt = a then x.blob else []
    if sofar.length != e then s.judgeWrite rq ⟨a, [], 0, false⟩ fun s => (.ok, s)
    else
      let b := sofar ++ l
      if b.length < blobSize o.ix o.sub then
        match s.judgeWrite rq ⟨a, [], 0, true⟩ fun s => (.ok, s) with
        | (.ok, s) => (.ok, s.withPcie f fun y => { y with blobAt := a, blob := b })
        | r => r
      else put (s.withPcie f fun y => { y with blobAt := noAddr, blob := [] }) a b

/-- PCIE_WINDOW_WRITE. -/
def State.pcieWrite (s : State) (f : Fin 4) (bar2 : Bool) (off : Nat) (wide : Bool) (v : W) : State :=
  if !s.alive then s
  else
    let s := s.stir
    let rq := s.pcieReq f
    let v := if wide then v else v &&& 0xFFFFFFFF
    let loc := locate s.caps bar2 off wide
    let r : Status × State :=
      if !s.pcieOn f.val then (.rights, s)
      else match loc with
        | none => (.index, s)
        | some (.control o) => s.controlWrite rq o wide v
        | some (.msix i) => (.ok, s.withPcie f.val fun x => x.msixPut i wide v)
        | some .pba => (.rights, s)
        | some (.word o e w half) => s.wordWrite rq o e w half wide v
        | some (.byte o e) => s.bytesWrite rq o e wide v
    r.2.pcieSettle rq r.1 bar2 off (Loc.names loc)

def execPcieWindowWrite (f : Fin 4) (bar2 : Bool) (off : Nat) (wide : Bool) (v : W) (s : State) : Host.Outcome State Fault Refusal :=
  done (s.pcieWrite f bar2 off wide v)

/-- A write of a register of the control block by its own row: a function that is not enabled answers RIGHTS (R329). -/
def State.pcieControl (s : State) (f : Fin 4) (off : Nat) (k : Req → State → Status × State) : State :=
  if !s.alive then s
  else
    let s := s.stir
    let rq := s.pcieReq f
    let r := if s.pcieOn f.val then k rq s else (.rights, s)
    r.2.pcieSettle rq r.1 false off (0xFFFF, 0)

def execPcieClassWrite (f : Fin 4) (v : W) (s : State) : Host.Outcome State Fault Refusal :=
  done (s.pcieControl f 0 fun _ s => s.pcieClass f v)

def execPcieAuthSubmit (f : Fin 4) (blob : List Byte) (s : State) : Host.Outcome State Fault Refusal :=
  done (s.pcieControl f 0x150 fun _ s => s.pcieAuth f blob)

def execPcieSubreqSubmit (f : Fin 4) (lo hi : W) (s : State) : Host.Outcome State Fault Refusal :=
  done (s.pcieControl f 0x48 fun rq s => (s.withPcie f.val fun x => { x with subReq := lo }).pcieSub rq lo hi)

/-- PCIE_FLR: the function starts afresh; open salvos of its context are cancelled unless it has an NCP session open (R338). -/
def State.pcieFlr (s : State) (f : Nat) : State :=
  let s := (s.resetMaster s.mastDie 8).withPcie f fun _ => .rest
  if (s.session f).isSome then s else s.closeSalvos f

def execPcieFlr (f : Fin 4) (s : State) : Host.Outcome State Fault Refusal := done (s.pcieFlr f.val)

end Sys2Proof.Machine
end

