-- ==== Sys2Proof/Machine/Dispatch.lean ====
section
/-! DEFINITION. What each command does: one arm per constructor, each a direct call of its meaning. -/
namespace Sys2Proof.Machine

def exec (i : Instr) (s : State) : Host.Outcome State Fault Refusal :=
  match i with
  | .powerOn temp => Sys2Proof.Machine.execPowerOn temp s
  | .packageReset die0 die1 badRegions => Sys2Proof.Machine.execPackageReset die0 die1 badRegions s
  | .requestSafe rq => Sys2Proof.Machine.execRequestSafe rq s
  | .requestLoad rq => Sys2Proof.Machine.execRequestLoad rq s
  | .requestStandby rq => Sys2Proof.Machine.execRequestStandby rq s
  | .requestActive rq => Sys2Proof.Machine.execRequestActive rq s
  | .requestHold rq => Sys2Proof.Machine.execRequestHold rq s
  | .requestService rq => Sys2Proof.Machine.execRequestService rq s
  | .loadComplete rep => Sys2Proof.Machine.execLoadComplete rep s
  | .loadTimeout => Sys2Proof.Machine.execLoadTimeout s
  | .modeTransitionComplete => Sys2Proof.Machine.execModeTransitionComplete s
  | .thermalTrip d tj => Sys2Proof.Machine.execThermalTrip d tj s
  | .undervoltage d mv => Sys2Proof.Machine.execUndervoltage d mv s
  | .sheetStart inp => Sys2Proof.Machine.execSheetStart inp s
  | .rxHeaderBlock e pos sync payload arrival => Sys2Proof.Machine.execRxHeaderBlock e pos sync payload arrival s
  | .laneSignalLoss e => Sys2Proof.Machine.execLaneSignalLoss e s
  | .laneSignalReturn e => Sys2Proof.Machine.execLaneSignalReturn e s
  | .rxSheet d lane data spare => Sys2Proof.Machine.execRxSheet d lane data spare s
  | .rxEssenceFrame p header payload => Sys2Proof.Machine.execRxEssenceFrame p header payload s
  | .rxOverrun d lane => Sys2Proof.Machine.execRxOverrun d lane s
  | .txStarve d lane frames => Sys2Proof.Machine.execTxStarve d lane frames s
  | .meshGroupFail d1 d2 => Sys2Proof.Machine.execMeshGroupFail d1 d2 s
  | .portTableWrite rq dst p v => Sys2Proof.Machine.execPortTableWrite rq dst p v s
  | .calCommit rq => Sys2Proof.Machine.execCalCommit rq s
  | .calAbandon rq => Sys2Proof.Machine.execCalAbandon rq s
  | .rebuildDone => Sys2Proof.Machine.execRebuildDone s
  | .calendarPublish => Sys2Proof.Machine.execCalendarPublish s
  | .takeCommit rq e w0 w1 => Sys2Proof.Machine.execTakeCommit rq e w0 w1 s
  | .takeCancel rq e w0 => Sys2Proof.Machine.execTakeCancel rq e w0 s
  | .twinDecisionReceived d => Sys2Proof.Machine.execTwinDecisionReceived d s
  | .decisionAckTimeout seq => Sys2Proof.Machine.execDecisionAckTimeout seq s
  | .switchLine p => Sys2Proof.Machine.execSwitchLine p s
  | .salvoArm rq n w0 w1 => Sys2Proof.Machine.execSalvoArm rq n w0 w1 s
  | .salvoDiscard rq n w0 => Sys2Proof.Machine.execSalvoDiscard rq n w0 s
  | .salvoTimeout n => Sys2Proof.Machine.execSalvoTimeout n s
  | .holdDeadline kind e => Sys2Proof.Machine.execHoldDeadline kind e s
  | .esAlignWrite rq p v => Sys2Proof.Machine.execEsAlignWrite rq p v s
  | .sourcePicture p capture missing alien => Sys2Proof.Machine.execSourcePicture p capture missing alien s
  | .sourceLost p => Sys2Proof.Machine.execSourceLost p s
  | .fsyncPictureStart p count capture => Sys2Proof.Machine.execFsyncPictureStart p count capture s
  | .fsyncPictureEnd p missing => Sys2Proof.Machine.execFsyncPictureEnd p missing s
  | .fsyncReadInstant p => Sys2Proof.Machine.execFsyncReadInstant p s
  | .fsyncAudioSlip p rep => Sys2Proof.Machine.execFsyncAudioSlip p rep s
  | .lossholdExpire p => Sys2Proof.Machine.execLossholdExpire p s
  | .auSrcWrite rq e v => Sys2Proof.Machine.execAuSrcWrite rq e v s
  | .auDstTargetWrite rq e v => Sys2Proof.Machine.execAuDstTargetWrite rq e v s
  | .audioChangeCommit rq e w0 => Sys2Proof.Machine.execAudioChangeCommit rq e w0 s
  | .audioChangeCancel rq e w0 => Sys2Proof.Machine.execAudioChangeCancel rq e w0 s
  | .audioSample vals status codeErr => Sys2Proof.Machine.execAudioSample vals status codeErr s
  | .audioTransitionTimeout id => Sys2Proof.Machine.execAudioTransitionTimeout id s
  | .auGainWrite rq e v => Sys2Proof.Machine.execAuGainWrite rq e v s
  | .audioPortConfigWrite rq aes e v => Sys2Proof.Machine.execAudioPortConfigWrite rq aes e v s
  | .maskWrite rq e v => Sys2Proof.Machine.execMaskWrite rq e v s
  | .maskApply e frame => Sys2Proof.Machine.execMaskApply e frame s
  | .startTrigger rq n w0 w1 w2 => Sys2Proof.Machine.execStartTrigger rq n w0 w1 w2 s
  | .stopTrigger rq n w0 w1 w2 => Sys2Proof.Machine.execStopTrigger rq n w0 w1 w2 s
  | .abortTrigger rq n w0 w1 w2 => Sys2Proof.Machine.execAbortTrigger rq n w0 w1 w2 s
  | .triggerAct n => Sys2Proof.Machine.execTriggerAct n s
  | .streamUnderrun e tx clock => Sys2Proof.Machine.execStreamUnderrun e tx clock s
  | .streamRejoin e tx => Sys2Proof.Machine.execStreamRejoin e tx s
  | .streamPhaseSlip e tx rep => Sys2Proof.Machine.execStreamPhaseSlip e tx rep s
  | .streamOffrate e off => Sys2Proof.Machine.execStreamOffrate e off s
  | .auAsrcWrite rq e v => Sys2Proof.Machine.execAuAsrcWrite rq e v s
  | .asrcLock e ratio => Sys2Proof.Machine.execAsrcLock e ratio s
  | .asrcUnlock e => Sys2Proof.Machine.execAsrcUnlock e s
  | .cmLayerWrite rq e w v => Sys2Proof.Machine.execCmLayerWrite rq e w v s
  | .cmImageWrite rq e v => Sys2Proof.Machine.execCmImageWrite rq e v s
  | .cmPixelsWrite rq e v => Sys2Proof.Machine.execCmPixelsWrite rq e v s
  | .cmPaletteWrite rq e v => Sys2Proof.Machine.execCmPaletteWrite rq e v s
  | .headCommit rq h w0 w1 => Sys2Proof.Machine.execHeadCommit rq h w0 w1 s
  | .headCancel rq h w0 => Sys2Proof.Machine.execHeadCancel rq h w0 s
  | .flattenDone h good => Sys2Proof.Machine.execFlattenDone h good s
  | .lkLaneWrite rq e v => Sys2Proof.Machine.execLkLaneWrite rq e v s
  | .laneTrainingDone d shroud lanes => Sys2Proof.Machine.execLaneTrainingDone d shroud lanes s
  | .lkTxeqWrite rq e v => Sys2Proof.Machine.execLkTxeqWrite rq e v s
  | .txeqStep e => Sys2Proof.Machine.execTxeqStep e s
  | .stayLos e => Sys2Proof.Machine.execStayLos e s
  | .stayReturn e => Sys2Proof.Machine.execStayReturn e s
  | .spareCover rq e v => Sys2Proof.Machine.execSpareCover rq e v s
  | .spareRelease rq e v => Sys2Proof.Machine.execSpareRelease rq e v s
  | .prbsPatternWrite rq e w v => Sys2Proof.Machine.execPrbsPatternWrite rq e w v s
  | .prbsInject rq e v => Sys2Proof.Machine.execPrbsInject rq e v s
  | .prbsSlip rq e v bits => Sys2Proof.Machine.execPrbsSlip rq e v bits s
  | .laneErrorSecond => Sys2Proof.Machine.execLaneErrorSecond s
  | .mxMacWrite rq m w v => Sys2Proof.Machine.execMxMacWrite rq m w v s
  | .macRxFrame m f => Sys2Proof.Machine.execMacRxFrame m f s
  | .pauseExpire m packets => Sys2Proof.Machine.execPauseExpire m packets s
  | .mxRingWrite rq e w v => Sys2Proof.Machine.execMxRingWrite rq e w v s
  | .ringTxFrame m descs ptp => Sys2Proof.Machine.execRingTxFrame m descs ptp s
  | .tsqRead rq e => Sys2Proof.Machine.execTsqRead rq e s
  | .mxStatsRead rq m => Sys2Proof.Machine.execMxStatsRead rq m s
  | .xportWrite rq dst p w v => Sys2Proof.Machine.execXportWrite rq dst p w v s
  | .aflowWrite rq tx e w v => Sys2Proof.Machine.execAflowWrite rq tx e w v s
  | .st2110Release f last => Sys2Proof.Machine.execSt2110Release f last s
  | .sdiRxLine p x => Sys2Proof.Machine.execSdiRxLine p x s
  | .sdiTxLine p line audio anc gap => Sys2Proof.Machine.execSdiTxLine p line audio anc gap s
  | .macLinkChange m up taps => Sys2Proof.Machine.execMacLinkChange m up taps s
  | .tmRefWrite rq r w v => Sys2Proof.Machine.execTmRefWrite rq r w v s
  | .refMeasurement r edges freq interval => Sys2Proof.Machine.execRefMeasurement r edges freq interval s
  | .refQualify r => Sys2Proof.Machine.execRefQualify r s
  | .refLos r => Sys2Proof.Machine.execRefLos r s
  | .selectionEval => Sys2Proof.Machine.execSelectionEval s
  | .agreementCheck temp => Sys2Proof.Machine.execAgreementCheck temp s
  | .refAccept rq r => Sys2Proof.Machine.execRefAccept rq r s
  | .refRequalify rq r => Sys2Proof.Machine.execRefRequalify rq r s
  | .ptpMessageRx p m => Sys2Proof.Machine.execPtpMessageRx p m s
  | .announceTimeout p => Sys2Proof.Machine.execAnnounceTimeout p s
  | .ptpTxInterval p k late => Sys2Proof.Machine.execPtpTxInterval p k late s
  | .stepAbsolute rq w0 w1 w2 => Sys2Proof.Machine.execStepAbsolute rq w0 w1 w2 s
  | .stepRelative rq w0 w1 w2 => Sys2Proof.Machine.execStepRelative rq w0 w1 w2 s
  | .stepToref rq w0 w1 w2 => Sys2Proof.Machine.execStepToref rq w0 w1 w2 s
  | .stepApply => Sys2Proof.Machine.execStepApply s
  | .slewDone => Sys2Proof.Machine.execSlewDone s
  | .holdoverUpdate temp => Sys2Proof.Machine.execHoldoverUpdate temp s
  | .holdoverLearnSave => Sys2Proof.Machine.execHoldoverLearnSave s
  | .holdoverForget rq => Sys2Proof.Machine.execHoldoverForget rq s
  | .tmOutWrite rq o w v => Sys2Proof.Machine.execTmOutWrite rq o w v s
  | .twPairWrite rq e v => Sys2Proof.Machine.execTwPairWrite rq e v s
  | .pairSheetRelease e a b slots => Sys2Proof.Machine.execPairSheetRelease e a b slots s
  | .twinSilentSheets => Sys2Proof.Machine.execTwinSilentSheets s
  | .healthReport => Sys2Proof.Machine.execHealthReport s
  | .twinReportTimeout => Sys2Proof.Machine.execTwinReportTimeout s
  | .snapshotRequest mine => Sys2Proof.Machine.execSnapshotRequest mine s
  | .snapshotReceived snap => Sys2Proof.Machine.execSnapshotReceived snap s
  | .mirrorStoresFull => Sys2Proof.Machine.execMirrorStoresFull s
  | .selftestEngine fails => Sys2Proof.Machine.execSelftestEngine fails s
  | .busFrameRx a f => Sys2Proof.Machine.execBusFrameRx a f s
  | .busBackoffExpire a => Sys2Proof.Machine.execBusBackoffExpire a s
  | .ctBusWrite rq a v => Sys2Proof.Machine.execCtBusWrite rq a v s
  | .ncpRead h items => Sys2Proof.Machine.execNcpRead h items s
  | .ncpWrite h items => Sys2Proof.Machine.execNcpWrite h items s
  | .ncpBlockRead h a count => Sys2Proof.Machine.execNcpBlockRead h a count s
  | .ncpBlockWrite h a typ elems => Sys2Proof.Machine.execNcpBlockWrite h a typ elems s
  | .ncpSubscribe h a count tail => Sys2Proof.Machine.execNcpSubscribe h a count tail s
  | .ncpUnsubscribe h x => Sys2Proof.Machine.execNcpUnsubscribe h x s
  | .challengeRead h => Sys2Proof.Machine.execChallengeRead h s
  | .sessionOpen h blob => Sys2Proof.Machine.execSessionOpen h blob s
  | .sessionClose h n => Sys2Proof.Machine.execSessionClose h n s
  | .sessionTimeout c => Sys2Proof.Machine.execSessionTimeout c s
  | .notifyPeriod c pcie id => Sys2Proof.Machine.execNotifyPeriod c pcie id s
  | .notifySend c pcie => Sys2Proof.Machine.execNotifySend c pcie s
  | .notifyOverflow c pcie => Sys2Proof.Machine.execNotifyOverflow c pcie s
  | .emergencySend => Sys2Proof.Machine.execEmergencySend s
  | .emergencyRepeat => Sys2Proof.Machine.execEmergencyRepeat s
  | .leaseTake rq e => Sys2Proof.Machine.execLeaseTake rq e s
  | .leaseRelease rq e => Sys2Proof.Machine.execLeaseRelease rq e s
  | .leaseBreak rq e => Sys2Proof.Machine.execLeaseBreak rq e s
  | .ctContextWrite rq c w v => Sys2Proof.Machine.execCtContextWrite rq c w v s
  | .pcieWindowRead f bar2 off wide => Sys2Proof.Machine.execPcieWindowRead f bar2 off wide s
  | .pcieWindowWrite f bar2 off wide v => Sys2Proof.Machine.execPcieWindowWrite f bar2 off wide v s
  | .pcieClassWrite f v => Sys2Proof.Machine.execPcieClassWrite f v s
  | .pcieAuthSubmit f blob => Sys2Proof.Machine.execPcieAuthSubmit f blob s
  | .pcieSubreqSubmit f lo hi => Sys2Proof.Machine.execPcieSubreqSubmit f lo hi s
  | .pcieFlr f => Sys2Proof.Machine.execPcieFlr f s
  | .syRoleWrite rq v => Sys2Proof.Machine.execSyRoleWrite rq v s
  | .settingsFlush rq => Sys2Proof.Machine.execSettingsFlush rq s
  | .settingsDefaults rq => Sys2Proof.Machine.execSettingsDefaults rq s
  | .settingsKeep rq => Sys2Proof.Machine.execSettingsKeep rq s
  | .settingsTimer => Sys2Proof.Machine.execSettingsTimer s
  | .settingsWriteDone good => Sys2Proof.Machine.execSettingsWriteDone good s
  | .burstAbort d b => Sys2Proof.Machine.execBurstAbort d b s
  | .decodeError d master x => Sys2Proof.Machine.execDecodeError d master x s
  | .exclMonitorExpire d master target => Sys2Proof.Machine.execExclMonitorExpire d master target s
  | .engineFail e cause => Sys2Proof.Machine.execEngineFail e cause s
  | .engineMove rq e v => Sys2Proof.Machine.execEngineMove rq e v s
  | .engineRetire rq e v => Sys2Proof.Machine.execEngineRetire rq e v s
  | .engineRestore rq e v => Sys2Proof.Machine.execEngineRestore rq e v s
  | .engineTest rq e v => Sys2Proof.Machine.execEngineTest rq e v s
  | .engineTestDone e pass => Sys2Proof.Machine.execEngineTestDone e pass s
  | .crcStart rq u ws => Sys2Proof.Machine.execCrcStart rq u ws s
  | .crcAbort rq u w0 => Sys2Proof.Machine.execCrcAbort rq u w0 s
  | .crcJobDone d unit x => Sys2Proof.Machine.execCrcJobDone d unit x s
  | .mmChannelWrite rq e v => Sys2Proof.Machine.execMmChannelWrite rq e v s
  | .sramScrub d corrected ue => Sys2Proof.Machine.execSramScrub d corrected ue s
  | .sramUe d region addr unit => Sys2Proof.Machine.execSramUe d region addr unit s
  | .dramRecal ch => Sys2Proof.Machine.execDramRecal ch s
  | .refreshRateCheck ch t => Sys2Proof.Machine.execRefreshRateCheck ch t s
  | .scrubPassDone ch corrected bad => Sys2Proof.Machine.execScrubPassDone ch corrected bad s
  | .rankFail e cause => Sys2Proof.Machine.execRankFail e cause s
  | .rankMigrate rq e v => Sys2Proof.Machine.execRankMigrate rq e v s
  | .rankRetire rq e v => Sys2Proof.Machine.execRankRetire rq e v s
  | .rankRestore rq e v => Sys2Proof.Machine.execRankRestore rq e v s
  | .rankReplan rq e v => Sys2Proof.Machine.execRankReplan rq e v s
  | .migrationHeldItemCopied ch kind owner buf => Sys2Proof.Machine.execMigrationHeldItemCopied ch kind owner buf s
  | .migrationDone ch => Sys2Proof.Machine.execMigrationDone ch s
  | .faultRaised code die p1 p2 p3 byHandler => Sys2Proof.Machine.execFaultRaised code die p1 p2 p3 byHandler s
  | .handlerEnd d => Sys2Proof.Machine.execHandlerEnd d s
  | .faultAck rq d => Sys2Proof.Machine.execFaultAck rq d s
  | .sillageRetest rq d pass => Sys2Proof.Machine.execSillageRetest rq d pass s
  | .recordClose d seq => Sys2Proof.Machine.execRecordClose d seq s
  | .evCursorWrite rq c v => Sys2Proof.Machine.execEvCursorWrite rq c v s
  | .clearChallengeRead rq => Sys2Proof.Machine.execClearChallengeRead rq s
  | .sillageClear rq blob => Sys2Proof.Machine.execSillageClear rq blob s
  | .sillageFail d addr lost => Sys2Proof.Machine.execSillageFail d addr lost s
  | .gpiRawEdge n => Sys2Proof.Machine.execGpiRawEdge n s
  | .gpiQualify n => Sys2Proof.Machine.execGpiQualify n s
  | .gpiStuck n => Sys2Proof.Machine.execGpiStuck n s
  | .gpiUnmask n => Sys2Proof.Machine.execGpiUnmask n s
  | .evGpiWrite rq n v => Sys2Proof.Machine.execEvGpiWrite rq n v s
  | .sigPolicyWrite rq v => Sys2Proof.Machine.execSigPolicyWrite rq v s
  | .quoteRequest rq nonce => Sys2Proof.Machine.execQuoteRequest rq nonce s
  | .quoteReady => Sys2Proof.Machine.execQuoteReady s
  | .fwFlashWrite rq off bytes => Sys2Proof.Machine.execFwFlashWrite rq off bytes s
  | .fwStage rq w0 w1 w2 => Sys2Proof.Machine.execFwStage rq w0 w1 w2 s
  | .stageDone flashOk => Sys2Proof.Machine.execStageDone flashOk s
  | .fwActivate rq w0 w1 w2 => Sys2Proof.Machine.execFwActivate rq w0 w1 w2 s
  | .activationReady converts => Sys2Proof.Machine.execActivationReady converts s
  | .activationTwinCheck ready ident at_ => Sys2Proof.Machine.execActivationTwinCheck ready ident at_ s
  | .activationInstant stuck => Sys2Proof.Machine.execActivationInstant stuck s
  | .fwCommit rq w0 w1 w2 => Sys2Proof.Machine.execFwCommit rq w0 w1 w2 s
  | .fwRollback rq w0 w1 w2 => Sys2Proof.Machine.execFwRollback rq w0 w1 w2 s
  | .fwAbandon rq w0 w1 w2 => Sys2Proof.Machine.execFwAbandon rq w0 w1 w2 s
  | .lifecycleChallengeRead rq => Sys2Proof.Machine.execLifecycleChallengeRead rq s
  | .lifecycleRequest rq off bytes => Sys2Proof.Machine.execLifecycleRequest rq off bytes s
  | .pwDomainWrite rq e v => Sys2Proof.Machine.execPwDomainWrite rq e v s
  | .domainOnDone e => Sys2Proof.Machine.execDomainOnDone e s
  | .domainFault e => Sys2Proof.Machine.execDomainFault e s
  | .holdWake => Sys2Proof.Machine.execHoldWake s
  | .holdRetention => Sys2Proof.Machine.execHoldRetention s
  | .supplyLow c mv us => Sys2Proof.Machine.execSupplyLow c mv us s
  | .coreDip c below => Sys2Proof.Machine.execCoreDip c below s
  | .thermalWarn d tj => Sys2Proof.Machine.execThermalWarn d tj s
  | .monitorFail e value => Sys2Proof.Machine.execMonitorFail e value s
  | .droopStart d => Sys2Proof.Machine.execDroopStart d s
  | .droopEnd d depth ns margin lanes => Sys2Proof.Machine.execDroopEnd d depth ns margin lanes s
  | .paceUpdate readings pace => Sys2Proof.Machine.execPaceUpdate readings pace s
  | .plannerEval => Sys2Proof.Machine.execPlannerEval s
  | .ageingUpdate inp => Sys2Proof.Machine.execAgeingUpdate inp s
  | .vcoreTargetWrite rq v => Sys2Proof.Machine.execVcoreTargetWrite rq v s
  | .vcoreStep ack => Sys2Proof.Machine.execVcoreStep ack s
  | .vcoreSettleCheck now ack => Sys2Proof.Machine.execVcoreSettleCheck now ack s
  | .vcoreRetry ack => Sys2Proof.Machine.execVcoreRetry ack s
  | .registerWrite rq a w v => Sys2Proof.Machine.execRegisterWrite rq a w v s
  | .powerLoss mirror => Sys2Proof.Machine.execPowerLoss mirror s
  | .busCollision a late => Sys2Proof.Machine.execBusCollision a late s
  | .rollbackInstant => Sys2Proof.Machine.execRollbackInstant s
  | .domainOffDone e => Sys2Proof.Machine.execDomainOffDone e s

end Sys2Proof.Machine
end

