-- ==== Sys2Proof/Machine/Step.lean ====
section
/-! DEFINITION. One step of the block: the command at the front of the queue is carried out; with no command waiting, one
tick of the 250 MHz clock passes. -/
namespace Sys2Proof.Machine

/-- One step. DESIGN CHOICE: an empty queue lets one tick pass (R251, R276), so that time goes on without a command. -/
def step (s : State) : Host.Outcome State Fault Refusal :=
  match s.pending with
  | [] => .next (s.ticks 1)
  | c :: rest => exec c { s with pending := rest }

/-- `s` with the command that a word spells at the front of its queue: the table gives no row a word, so `s` itself. -/
def State.withFetchWord (s : State) (nbits w : Nat) : State :=
  match decodeTableWord nbits w with
  | none => s
  | some c => { s with pending := c :: s.pending }

end Sys2Proof.Machine
end

