-- ==== Sys2Proof/Machine/Outputs.lean ====
section
/-! DEFINITION. What the part sends, as functions of its state and of what passes through it: sheets and their coding (R40–R45, R64, R199,
R200), audio slots (R115, R142, R146), identities of media flows (R240, R241), the pixels of a composition head (R164–R169, R186), NCP messages
(R311–R314), the write to the core regulator (R457). No register holds any of it. -/
namespace Sys2Proof.Machine

/-! ### NCP messages (R311–R314, R325, R328) -/

/-- A header of 16 bytes: TYPE, FLAGS, STATUS, SESSION, CLASS, SEQUENCE, LENGTH, and the part's own node. -/
def State.msgHead (s : State) (typ flags st session cls seq len : Nat) : List Byte :=
  [1, BitVec.ofNat 8 typ, BitVec.ofNat 8 flags, BitVec.ofNat 8 st] ++ beBytes 2 session ++ [BitVec.ofNat 8 cls, 0] ++ beBytes 4 seq
    ++ beBytes 2 len ++ beBytes 2 (s.fld F.CT_NODE_ID 0)

/-- An item of a response to a message of a type (R314), under the address as sent. -/
def respItem (typ : Nat) (x : WireAddr) (i : RespItem) : List Byte :=
  let code := match findObj x.addr.ix x.addr.sub with | some o => o.typ.code | none => 0
  let size := match findObj x.addr.ix x.addr.sub with | some o => if o.typ.isBytes then 1 else o.acc.length * o.typ.bytes | none => 0
  match typ with
  | 1 => readItemBytes x i.status i.data 65536
  | 2 => addrBytes x ++ beBytes 1 i.status ++ beBytes 3 0
  | 3 => addrBytes x ++ beBytes 1 i.status ++ beBytes 1 code ++ beBytes 2 size ++ beBytes 4 i.count
      ++ padded (match findObj x.addr.ix x.addr.sub with | some o => valueBytes o.typ i.data | none => [])
  | 4 => addrBytes x ++ beBytes 1 i.status ++ beBytes 3 0 ++ beBytes 4 i.count
  | _ => addrBytes x ++ beBytes 1 i.status ++ beBytes 1 0 ++ beBytes 2 (i.data.headD 0).toNat

/-- A response (R312): RESP, MORE, the status, the session, the acting class with the session's context (0 on session 0), the request's
SEQUENCE. -/
def State.respMessage (s : State) (h : Ncp) (typ : Nat) (sent : List WireAddr) (r : Resp) : List Byte :=
  let payload := (sent.zip r.items).flatMap fun x => respItem typ x.1 x.2
  let ctx := match s.sessionOf h.session with | some x => if h.session = 0 then 0 else x.1.val | none => 0
  s.msgHead typ (128 + 64 * flag r.more) r.status h.session (64 * h.cls.num + 16 * ctx) h.seq payload.length ++ payload

/-- The `n`-th NOTIFY of a context's session (R325). -/
def State.notifyMessage (s : State) (c n : Nat) (x : Session) (note : Note) : List Byte :=
  let p := note.payload 65536
  s.msgHead 6 0 0 x.number (16 * c) n p.length ++ p

/-- An EMERGENCY for a context's session, or with SESSION 0 for an entry of `CT_EMERG` (R328). -/
def State.emergencyMessage (s : State) (dest : Option (Nat × Session)) (ws : List W) : List Byte :=
  let p := recordBytes ws
  s.msgHead 7 0 0 (match dest with | some x => x.2.number | none => 0) (match dest with | some x => 16 * x.1 | none => 0)
    (getBits (ws.getD 0 0) 0 32) p.length ++ p

/-! ### Sheet headers (R42) -/

/-- A sheet header block's payload. -/
def sheetHeader (claim type bank die lane : Nat) (spare : Bool) (sheet : Nat) : W :=
  withCheck (claim % 2 ^ 16 * 2 ^ 36 + type % 4 * 2 ^ 34 + bank % 2 * 2 ^ 33 + die % 8 * 2 ^ 30 + lane % 64 * 2 ^ 24
    + flag spare * 2 ^ 23 + sheet % 2 ^ 23)

/-! ### Sheets (R31, R40, R43, R200, R212, R393) -/

/-- A transmit spare carries its lane's copy in sheet `n`. -/
def State.copies (s : State) (e n : Nat) : Bool :=
  match s.spareRun (spareElem e) with
  | some x => (s.spare (spareElem e) == spMIRROR || s.spare (spareElem e) == spRELEASING) && x.from_ ≤ n
      && (match x.until_ with | some u => n ≤ u | none => true)
  | none => false

/-- The transmit data lane whose sheets a lane carries in sheet `n`. -/
def State.sheetElem (s : State) (e n : Nat) : Nat :=
  if isSpare e && s.copies e n then shroudElem e (((s.spareRun (spareElem e)).map (·.pos)).getD 0) else e

/-- The shroud of a lane is assigned (R43): a port of the live tables lies on one of its data lanes, or it carries the twin link
(DEDUCED, log 139). -/
def State.assigned (s : State) (e : Nat) : Bool :=
  (List.range 8).any fun k => s.portNames s.regs (shroudElem e k) || s.inTwinShroud (laneDie e) (laneNo (shroudElem e k))

/-- TYPE of sheet `n` on a transmit lane; none: it sends no sheet. -/
def State.sheetType (s : State) (e n : Nat) : Option Nat :=
  if laneRx e || !s.isIsarsal e || s.domain (laneDomain e) != dmON || s.laneSleep e != 0 || s.patternOn e || s.mode == HOLD then none
  else if s.mode = SERVICE ∨ (isSpare e && !s.copies e n) = true then some tyTEST
  else if s.mode = SAFE ∨ s.mode = LOAD ∨ (s.mode = STANDBY ∧ s.sys.role ≠ CORE) then some tyIDLE
  else if s.sys.handed || s.sys.isolated.contains (laneDie e) || s.isOut .lane (laneDie e) e || !s.assigned (s.sheetElem e n) then
    some tyIDLE
  else some tyLIVE

/-- The header of sheet `n` on a transmit lane: CLAIM is 0 in idle sheets, and in test sheets that of the mode they replace (R42, R285);
OLANE is 0 on a spare that carries no copy. -/
def State.txHeader (s : State) (e n : Nat) : Option W :=
  (s.sheetType e n).map fun ty =>
    sheetHeader (if ty = tyIDLE then 0 else s.ownClaim) ty s.liveBank (laneDie e)
      (if isSpare e && !s.copies e n then 0 else laneNo (s.sheetElem e n)) (isSpare e) n

/-- Sheet `n` of a transmit lane by its slots (R43, R44, R48): a live sheet's from the frames that each port has ready, with fill where none
are and in slots that no port owns; an idle sheet's all fill; a test sheet's the pattern's words. -/
def State.sheetSlots (s : State) (e n : Nat) (ready : Nat → List (List W)) (pattern : List (List W)) : List (List W) :=
  let l := s.sheetElem e n
  match s.sheetType e n with
  | some 0 => (List.range 24).map fun sl => match s.slotOwner false (laneDie l) (laneNo l) sl with
      | some x => slotWords (pMask x.2) (streamFill (ready x.1) (8 * popCount (pMask x.2) 24)) sl
      | none => fillSlot
  | some 1 => List.replicate 24 fillSlot
  | some _ => pattern
  | none => []

/-- The digest of a transmit lane (R283): the check of R49 over the lane's slot checks, slot 00 first. -/
def laneDigest (checks : List Nat) : Nat := checks.foldl (fun r c => (bitsDown (BitVec.ofNat 64 c) 16).foldl crc16Bit r) 0xFFFF

/-- The digest of a lane whose slots hold the words given. -/
def sheetDigest (slots : List (List W)) : Nat := laneDigest (slots.map slotCheck)

/-- A slot's blocks: each word behind two bits of the slot's CRC-16, higher bits first (R41). -/
def slotBlocks (ws : List W) : List (Nat × W) := ws.zipIdx.map fun x => (slotCheck ws / 2 ^ (14 - 2 * x.2) % 4, x.1)

/-- The 193 blocks of a sheet, of its header and its 24 slots of eight words, ahead of the scrambler. -/
def sheetBlocks (header : W) (slots : List (List W)) : List (Nat × W) := (2, header) :: slots.flatMap slotBlocks

/-! ### What a destination carries (R63, R64, R100–R105) -/

/-- A black line's samples: Y' (or G'), Cb and Cr (or B' and R') of the format (R63). -/
def blackSamples (id : Nat) (rgb : Bool) : Nat × Nat × Nat :=
  if Format.is444 id then (if rgb then (0x100, 0x100, 0x100) else (0x100, 0x800, 0x800)) else (0x040, 0x200, 0x200)

/-- The payload of a black line. -/
def blackLine (id : Nat) (rgb : Bool) : List W :=
  let c := blackSamples id rgb
  videoPayload id (fun _ => c.1) (fun _ => c.2.1) (fun _ => c.2.2)

/-- Line `line` of a destination of an EDGE or GATEWAY as it comes from the selected copies: where it is missing, or its frame was the one in
progress when the port's stream was restarted, the previous line again, with CONC (R50, R295, R298). -/
def State.servedLine (s : State) (p : Nat) (f : Format) (line count : Nat) (rx : Option (W × List W)) (prev : W × List W) : W × List W :=
  let v := s.port true p
  match rx with
  | some x => if (s.rxStream p).hunt then (concealed v prev.1 f line count, prev.2) else x
  | none => (concealed v prev.1 f line count, prev.2)

/-- Line `line` of a SYNC source behind its line buffers (R98, R100, R105): as it arrived, with the offset it arrived at; where it is
missing, comes outside the window or is lost to an uncorrectable error (R372), the previous line again, with CONC. -/
def State.alignedLine (s : State) (p : Nat) (f : Format) (line count : Nat) (rx : Option (Int × W × List W)) (prev : W × List W) :
    W × List W :=
  let v := s.port false p
  match rx with
  | some x =>
    if s.inWindow (s.src p).entry (pFormat v) x.1 && !s.al.hurt.contains (p, 0, line) then x.2 else (concealed v prev.1 f line count, prev.2)
  | none => (concealed v prev.1 f line count, prev.2)

/-- A frame of an FSYNC source as its store gives it (R101, R102): the stored picture's count, CONC on a filled line, RPT in a picture sent
again; the payload is as stored. -/
def State.storedHeader (s : State) (p : Nat) (h : W) : W :=
  let x := s.src p
  match x.reading with
  | none => h
  | some pic =>
    let fl := efFlags h
    let v := s.port false p
    let h := frameHeader (pTag v) (efKind h) (efLine h) pic.count (pFormat v)
      { fl with conc := fl.conc || (efKind h == kVIDEO && (pic.conc.contains (efLine h) || s.al.hurt.contains (p, pic.count + 1, efLine h))) }
    if x.again then repeated v h pic.count else h

/-- The source from which a destination carries a frame of line `n`, counted from line 1 of frame 0: everything from the switch line on comes
from the new one, what lies before it, ANC on an essence stream and ANC and audio on an SDI output, from the previous one (R81). -/
def State.destSource (s : State) (d n : Nat) : Nat :=
  let x := s.dest d
  if n < x.turned then x.prev else destShown x

/-- The header with which a destination sends a frame of line `n` of its source (R64): none where it carries black. -/
def State.destHeader (s : State) (d n : Nat) (h : W) : Option W :=
  let q := s.destSource d n
  if q = srcPARK then none
  else if q = srcFEED then some (retagged (s.port true d) h)
  else some (retagged (s.port true d) (if alFSYNC (s.src q).entry then s.storedHeader q h else h))

/-- A frame of an own source in the stream that an EDGE or GATEWAY sends to the cores: as it arrived, neither aligned nor stored (R96). -/
def State.sourceHeader (s : State) (p : Nat) (h : W) : W := retagged (s.port false p) h

/-! ### The line (R199) and PRBS31 (R200)

The register holds the bits on the line before, the newest in bit 0. -/

/-- The taps of x^58 + x^39 + 1. -/
def tapped (r : BitVec 58) : Bool := xor (r.getLsbD 38) (r.getLsbD 57)

/-- The register after a bit on the line. -/
def shiftIn (r : BitVec 58) (b : Bool) : BitVec 58 := (r <<< 1) ||| (if b then 1#58 else 0#58)

/-- Payload bits, in the order in which they are sent, as they stand on the line. -/
def scramble (r : BitVec 58) : List Bool → List Bool
  | [] => []
  | d :: l => let b := xor d (tapped r); b :: scramble (shiftIn r b) l

/-- Bits on the line as the receiver reads them. -/
def descramble (r : BitVec 58) : List Bool → List Bool
  | [] => []
  | b :: l => xor b (tapped r) :: descramble (shiftIn r b) l

/-- A transmit lane's register when it is enabled: 58 ones. -/
def scramblerStart : BitVec 58 := BitVec.allOnes 58

/-- The register after bits on the line. -/
def shiftAll (r : BitVec 58) (l : List Bool) : BitVec 58 := l.foldl shiftIn r

/-- The payload bits of a block in the order in which they are sent: bit 63 down to bit 0. -/
def payloadBits (p : W) : List Bool := (List.range 64).map fun i => p.getLsbD (63 - i)

/-- A block on the line: its sync header, left bit first and not scrambled, then its payload scrambled. -/
def lineBlock (r : BitVec 58) (b : Nat × W) : List Bool := b.1.testBit 1 :: b.1.testBit 0 :: scramble r (payloadBits b.2)

/-- Blocks on the line; the scrambler skips the sync headers and goes on from block to block. -/
def lineBits (r : BitVec 58) : List (Nat × W) → List Bool
  | [] => []
  | b :: l => lineBlock r b ++ lineBits (shiftAll r (scramble r (payloadBits b.2))) l

/-- What a lane puts on the line from its enabling on: its blocks, behind a scrambler loaded with 58 ones. -/
def enabledBits (blocks : List (Nat × W)) : List Bool := lineBits scramblerStart blocks

/-- A word of bits, bit 63 first. -/
def wordOfBits (l : List Bool) : W := BitVec.ofNat 64 (l.foldl (fun a b => a * 2 + flag b) 0)

/-- A block as a receiver reads it at a bit offset: its sync header and its payload descrambled; `r` holds the payload bits before it. -/
def readBlock (r : BitVec 58) (l : List Bool) : Nat × W :=
  (2 * flag (l.headD false) + flag ((l.drop 1).headD false), wordOfBits (descramble r ((l.drop 2).take 64)))

/-- Words that carry `n` words' bits of PRBS31, x^31 + x^28 + 1, from a register, and the register after them: a sheet's 192 slot words, slot
00 first, and on from sheet to sheet (R200). -/
def prbs31Words : Nat → Nat → List W × Nat
  | 0, r => ([], r)
  | n + 1, r =>
    let b := patternBits 4 0 false 64 r 0
    let x := prbs31Words n (b.foldl (fun a c => a * 2 % 2 ^ 31 + flag c) r)
    (wordOfBits b :: x.1, x.2)

/-- The slots of a test sheet, of eight words each, and the pattern's register for the lane's next sheet. -/
def testSlots (r : Nat) : List (List W) × Nat :=
  let x := prbs31Words 192 r
  ((List.range 24).map fun i => (x.1.drop (8 * i)).take 8, x.2)

/-! ### Raw patterns and loopbacks (R214) -/

/-- What a transmit lane puts on the line while a raw pattern runs, `n` bits from register `reg` and the `place`-th bit on: the pattern with
the errors injected, no blocks and no scrambling. -/
def State.rawBits (s : State) (e n reg place : Nat) : Option (List Bool) :=
  let v := s.word 0x4030 e 0
  if laneRx e || !s.patternRuns e then none
  else some ((patternBits (F.LK_PRBS_PATTERN.of v) (s.word 0x4030 e 1) (F.LK_PRBS_PINV.of v == 1) n reg place).zipIdx.map fun x =>
    xor x.1 (s.bitInjected e (place + x.2)))

/-- The transmit lane that faces a receive lane. -/
def nearLane (e : Nat) : Nat := e + 80

/-- What a receive lane hears: in SERVICE with LOOP near-end, its own transmitter; else what arrives. -/
def State.heardBits (s : State) (e : Nat) (own arriving : List Bool) : List Bool :=
  if s.mode = SERVICE ∧ s.fld F.LK_LANE_LOOP e = 1 then own else arriving

/-- What the transmitter of a receive lane's number puts on the line: in SERVICE with LOOP far-end, what arrives, retimed; else its own. -/
def State.loopedBits (s : State) (e : Nat) (own arriving : List Bool) : List Bool :=
  if s.mode = SERVICE ∧ s.fld F.LK_LANE_LOOP e = 2 then arriving else own

/-! ### Transmit equaliser (R208) -/

/-- The main cursor, in 1/64 of full swing. -/
def mainCursor (pre post : Nat) : Nat := 64 - pre - post

/-! ### Media flows (R240, R241) -/

/-- SSRC of a transmitted flow: `k` is 0 for video, 1 for ANC, 2 for audio; `x` the destination port, or `flowIndex`. -/
def State.ssrc (s : State) (x k : Nat) : Nat := s.fld F.CT_NODE_ID 0 * 2 ^ 20 + x * 4 + k

/-- `x` of a crosspoint flow. -/
def flowIndex (die flow : Nat) : Nat := 12288 + die * 128 + flow

/-- DSCP of a flow of kind `k`: AF41, or EF for audio. -/
def flowDscp (k : Nat) : Nat := if k = 2 then 46 else 34

/-- What stands on every packet of a flow (R240): the MAC that sends it, IPv4 source and destination, TTL, DSCP, UDP port, VLAN ID and
priority where it is tagged. -/
structure FlowHead where
  mac   : Nat
  src   : Nat
  dst   : Nat
  ttl   : Nat
  dscp  : Nat
  udp   : Nat
  tag   : Option (Nat × Nat)
deriving DecidableEq, Repr

/-- The heads of a flow word's copies: path A, and path B with DUAL, which has the same RTP header. -/
def State.flowHeads (s : State) (macs : List Nat) (word : W) (k : Nat) : List FlowHead :=
  if !s.essenceOut || F.MX_XPORT_FEN.of word != 1 then []
  else macs.map fun m => ⟨m, F.MX_MAC_IPADDR.of (s.word 0x4810 m 2), F.MX_XPORT_GROUP.of word, 64, flowDscp k, F.MX_XPORT_UDP.of word,
    (s.essenceVid m).map fun v => (v, F.MX_MAC_PCP.of (s.word 0x4810 m 0))⟩

/-- Flow `k` of a destination port (R233, R240): none where its transport sends nothing. -/
def State.portFlowHeads (s : State) (p k : Nat) : List FlowHead :=
  let v := s.port true p
  let w := s.xport true p 0
  if !xportUsed s.sys.role v || xType w != xST2110 || s.link true p == lkNOTRANSPORT || s.isOut .port (pDie v) p then []
  else s.flowHeads (xMacs (pDie v) w) (s.xport true p (k + 1)) k

/-- A crosspoint transmit flow (R239, R240). -/
def State.crossFlowHeads (s : State) (e : Nat) : List FlowHead :=
  s.flowHeads (aMacs (e / 128) (s.word 0x4830 e 1)) (s.word 0x4830 e 0) 2

/-- The RTP timestamp of picture `n` of a format: its alignment point on the 90 kHz clock, modulo 2^32 (R236); rounded down (DESIGN CHOICE,
log 162). -/
def Format.rtpTime (f : Format) (n : Nat) : Nat := n * f.den * 90000 / f.num % 2 ^ 32

/-- The RTP timestamp of an audio packet of a crosspoint flow: the house sample index of its first sample (R239). -/
def audioRtpTime (n : Nat) : Nat := n % 2 ^ 32

/-- The payload bytes that a video packet may carry: whole pixel groups, of 5 bytes for two pixels in 4:2:2 and of 9 bytes for two in 4:4:4
(R236; the groups are those of ST 2110-20, PRESUMED, log 162). -/
def videoPacketBytes (id : Nat) : Nat := if Format.is444 id then 1197 else 1200

/-- Video packets of a line. -/
def videoPackets (id : Nat) : Nat :=
  let bytes := Format.pixels id / 2 * (if Format.is444 id then 9 else 5)
  (bytes + videoPacketBytes id - 1) / videoPacketBytes id

/-! ### ST 2110-40 sent (R238, R247) -/

/-- Bytes of an ANC packet in a payload to RFC 8331: a word of place and stream, then its 10-bit words, padded to a multiple of 32 bits; the
packets of a payload follow 8 bytes of its own (PRESUMED: RFC 8331, log 162). -/
def ancBytes (a : Anc) : Nat := 4 + (10 * (a.dc % 256 + 4) + 31) / 32 * 4

/-- Packets put together while a payload stays within 1,200 bytes, in their order. -/
def ancGroup : List Anc → List Anc → List (List Anc)
  | [], [] => []
  | cur, [] => [cur]
  | [], a :: l => ancGroup [a] l
  | cur, a :: l => if 8 + (cur.map ancBytes).sum + ancBytes a ≤ 1200 then ancGroup (cur ++ [a]) l else cur :: ancGroup [a] l
termination_by structural _ l => l

/-- An ANC frame's packet, in line order before another. -/
def insertAnc (a : Anc) : List Anc → List Anc
  | [] => [a]
  | b :: l => if a.line < b.line then a :: b :: l else b :: insertAnc a l

/-- The payloads in which a destination sends the ANC frames of a picture: what its recipe, as it stood when the picture began, passes, in
line order. -/
def State.ancPayloads (s : State) (p : Nat) (l : List Anc) : List (List Anc) :=
  let rules := match s.mx.ancs.find? fun x => x.dst && x.p == p with
    | some x => x.rules
    | none => s.recipeRules (F.MX_XPORT_RECIPE.of (s.xport true p 0))
  ancGroup [] ((l.filter fun a => rulesPass rules a).foldl (fun acc a => insertAnc a acc) [])

/-! ### SDI sent (R31, R196, R244) -/

/-- The SDI port of a transmit lane. -/
def State.sdiPort (s : State) (e : Nat) : Option Nat :=
  ((validPorts s.regs true).find? fun x =>
    let w := s.xport true x.1 0
    xportUsed s.sys.role x.2 && xType w == xSDI && pDie x.2 == laneDie e && F.MX_XPORT_LANE.of w == laneNo e
      && s.link true x.1 != lkNOTRANSPORT).map (·.1)

/-- The rate at which a transmit lane in SDI mode sends, as `LK_STAT` codes it: that of its port's transport; none: it is held static
low. -/
def State.sdiTxRate (s : State) (e : Nat) : Option Nat :=
  if laneRx e || s.laneMode e != 3 || !s.essenceOut then none else (s.sdiPort e).map fun p => sdiRate (pFormat (s.port true p))

/-- The header of a VIDEO frame that ingress makes of an SDI line: its place in the picture, whatever number it carries, and LERR where its CRC
failed (R245). -/
def sdiLineHeader (port : W) (f : Format) (x : SdiLine) (count : Nat) : W := lineHeader port f kVIDEO x.line count false (!x.crcOk) false

/-- A sample period of the channels that a port takes of embedded audio groups, from group 1 upward (R248): of each group the four samples of
its packet, none where it is missing or cannot be corrected, and whether its control packet gives 48 kHz. -/
def embeddedIn (ach : Nat) (groups : List (Option (List Int) × Bool)) : List Int :=
  (List.range (4 * ach)).map fun c => match groups.getD (c / 4) (none, true) with
    | (some l, true) => l.getD (c % 4) 0
    | _ => 0

/-- The groups that egress writes: ACH of them, each with the four channels in order; none where ACH is 0 (R248). -/
def embeddedOut (ach : Nat) (samples : List Int) : List (List Int) :=
  (List.range ach).map fun g => (List.range 4).map fun k => samples.getD (4 * g + k) 0

/-! ### Audio (R115, R142, R146) -/

/-- A channel word: sample, V, U, C, BLK, NPCM, CONC. -/
def channelWord (sample : Int) (v u c blk npcm conc : Bool) : Nat :=
  unsigned 24 sample * 256 + flag v * 128 + flag u * 64 + flag c * 32 + flag blk * 16 + flag npcm * 8 + flag conc * 4

/-- A transmit slot's bits: the sample left-justified, cut to 16 bits or followed by zeros. -/
def slotBits (width : Nat) (sample : Int) : Nat := unsigned 24 sample * 2 ^ width / 2 ^ 24

/-- A receive slot's sample. -/
def slotSample (width bits : Nat) : Int := signed 24 (bits * 2 ^ 24 / 2 ^ width)

/-- Delay of an ASRC channel of any kind, added to that of its port (R146, R159). -/
def asrcDelay : Nat := 64

/-- House samples from a frame to the crosspoint sample that it brings at a receive endpoint, or from the crosspoint to the frame of a
transmit endpoint (R146). -/
def State.endpointDelay (s : State) (d n : Nat) (tx : Bool) : Nat :=
  if n < 0x2000 then 0
  else if n < 0x2200 then portDelay false tx
  else if n < 0x2208 then portDelay true tx
  else if n < 0x2340 then
    let e := d * 64 + (n - 0x2300)
    let v := s.word 0x3060 e 0
    asrcDelay + if F.AU_ASRC_KIND.of v = 1 ∧ (F.AU_ASRC_DIR.of v == 1) = tx then portDelay (isAes (asrcPort e v)) tx else 0
  else 0

/-- The channel word that a destination channel delivers now (R115). -/
def State.channelOut (s : State) (id : Nat) : Nat :=
  match s.au.chans.find? fun c => c.id == id with
  | some c => channelWord c.out (c.cs.testBit 4) (c.cs.testBit 3) (c.cs.testBit 2) (c.cs.testBit 1) (c.cs.testBit 0) c.conc
  | none => channelWord 0 false false false false false true

/-- A byte taken into the CRCC of channel status: x^8 + x^4 + x^3 + x^2 + 1, bit 0 first (PRESUMED: AES3, log 158). -/
def crccByte (c b : Nat) : Nat :=
  (List.range 8).foldl (fun c _ => if c % 2 = 1 then Nat.xor (c / 2) 0xB8 else c / 2) (Nat.xor c b)

/-- The 24 bytes of channel status that the part makes (R136): professional use, 48 kHz, no emphasis, non-audio for data; a 24-bit word length;
the CRCC. The codes are those of AES3 (PRESUMED, log 158). -/
def statusBytes (data : Bool) : List Nat :=
  let l := (if data then 0x87 else 0x85) :: 0 :: 0x2C :: List.replicate 20 0
  l ++ [l.foldl crccByte 0xFF]

/-- A target that channel status reaches (R136): an AES3 port's subframe, or a channel of an ST 2110-31 flow. -/
def State.targetStatus (s : State) (d n : Nat) : Bool :=
  if n < 0x2000 then getBits (s.word 0x4830 (d * 128 + n / 64) 1) 63 1 == 1 else 0x2200 ≤ n && n < 0x2208

/-- V, U and C of the sample that a channel gave its target `k` samples ago: its source's own where both carry channel status, else those that
the part makes; `i` is the place of the sample in the block of 192. -/
def State.statusOut (s : State) (id k i : Nat) : Bool × Bool × Bool :=
  let v := s.auTarget id
  let reached := !isEmbId id && auTType v == tENDPOINT && s.targetStatus (id / 8192) (auTIndex v)
  let made := fun (data : Bool) => (false, false, ((statusBytes data).getD (i / 8) 0).testBit (i % 8))
  match s.au.chans.find? fun c => c.id == id with
  | some c =>
    let b := (c.sent.getD k (0, 64)).2
    if reached && b.testBit 5 then (b.testBit 4, b.testBit 3, b.testBit 2)
    else made (s.isData id c.data (s.refNpcm c.base))
  | none => made (s.isData id false false)

/-- The sample that a running stream gives the transmit endpoint `n` of a serial port in the frame that carries the last house sample: the
crosspoint's of the port's delay before (R146), behind the last slip (R154) and a fade after a rejoin (R153), which data does not have. -/
def State.endpointOut (s : State) (d n : Nat) : Int :=
  match s.auWords.find? fun x => x.1 / 8192 == d && auTType x.2 == tENDPOINT && auTIndex x.2 == n with
  | none => 0
  | some w =>
    match s.au.chans.find? (fun c => c.id == w.1), s.stream (epPort d n) true with
    | some c, some x =>
      let at_ := fun (k : Int) => (c.sent.getD ((portDelay (0x2200 ≤ n) true : Nat) - k).toNat (0, 64)).1
      if s.isData c.id c.data (s.refNpcm c.base) then at_ 0
      else
        let v := slipRead 0 x.old (s.au.sample - x.slipAt) at_
        if x.fade < 64 then nearDiv (v * (x.fade + 1)) 64 else v
    | _, _ => 0

/-- The sample that a transmit slot of a TDM port carries in that frame (R141, R143, R147, R152, R156); none: its line is high-impedance.
`conv` gives the output of a converter. -/
def State.txSlot (s : State) (q slot : Nat) (even : Bool) (conv : Nat → Int) : Option Int :=
  let d := q / 12
  let v := s.word 0x3040 (tdmOf q) 0
  let sent := slot < tdmSlots v && (F.AU_TDM_MASK_TXMASK.of (s.maskLive (tdmOf q))).testBit slot
  let n := 0x2000 + q % 12 * 64 + (if s.framesPer q = 2 then 2 * slot + flag (!even) else slot)
  let off := if F.AU_TDM_TRI.of v = 1 then none else some 0
  if !sent || s.dirState q true == apSTOPPED || s.dirState q true == apARMED then off
  else if s.dirState q true != apRUNNING then some 0
  else if s.dirClock q true == clkFREE then
    match (List.range 64).find? fun c =>
        let x := s.asrcWord (d * 64 + c)
        F.AU_ASRC_KIND.of x == 1 && F.AU_ASRC_DIR.of x == 1 && F.AU_ASRC_PORT.of x == q % 12 && F.AU_ASRC_SLOT.of x == slot with
    | some c => some (nearDiv (conv (d * 64 + c) * s.asrcLevel (d * 64 + c)) 64)
    | none => some 0
  else some (s.endpointOut d n)

/-- The sample of an AES3 port's transmit subframe in the frame that carries the last house sample (R144, R153); none: its line is low. -/
def State.aesSlot (s : State) (q sub : Nat) : Option Int :=
  let st := s.dirState q true
  if st = apSTOPPED ∨ st = apARMED then none
  else if st != apRUNNING then some 0
  else some (s.endpointOut (q / 12) (0x2200 + 2 * (q % 12 - 8) + sub))

/-! ### Delays (R165) -/

/-- What an attached head adds to its destination's latency, in units: a line period and 64 blocks. -/
def State.headDelay (s : State) (h : Nat) : Nat :=
  if s.attached h then
    match format (pFormat (s.port true (s.fld F.CM_HEAD_DEST h))) with
    | some f => f.den * secUnits / (f.num * f.lines) + 64 * blockUnits
    | none => 0
  else 0

/-! ### Pixels (R166) -/

/-- A pixel at 12 bits, Y'CbCr 4:4:4, with 10-bit alpha. -/
structure Px where
  y  : Nat
  cb : Nat
  cr : Nat
  a  : Nat
deriving DecidableEq, Repr

/-- A 10-bit sample of video. -/
def up10 (v : Nat) : Nat := v * 4

/-- Chroma of 4:2:2 video at pixel `x`; `c` gives the co-sited sample of even pixel `2k` at 12 bits. The mean is taken at 12 bits
(DEDUCED). -/
def chromaAt (c : Nat → Nat) (width x : Nat) : Nat :=
  if x % 2 = 0 ∨ width ≤ x + 1 then c (x / 2) else (c (x / 2) + c (x / 2 + 1) + 1) / 2

/-- Luma weights of R and B in 1/10,000: BT.709, or BT.2020. -/
def weights (matrix : Nat) : Nat × Nat := if matrix = 1 then (2627, 593) else (2126, 722)

/-- A full-range RGB colour, whose components run to `top`, in narrow-range Y'CbCr. -/
def fromRgb (matrix top r g b a : Nat) : Px :=
  let k := weights matrix
  let y : Int := k.1 * r + (10000 - k.1 - k.2) * g + k.2 * b
  ⟨(256 + roundDiv (3504 * y) (10000 * top)).toNat, (2048 + roundDiv (3584 * (10000 * b - y)) (top * (20000 - 2 * k.2))).toNat,
    (2048 + roundDiv (3584 * (10000 * r - y)) (top * (20000 - 2 * k.1))).toNat, a⟩

/-- An image's pixel as stored, brought to the head's form. -/
def imgPx (matrix : Nat) (img : W) (v : Nat) : Px :=
  let wide := imgBits img == 40
  let b := if wide then 10 else 8
  let c := fun i => v / 2 ^ (b * (3 - i)) % 2 ^ b
  let up := fun n => if wide then n * 4 else n * 16
  let a := if wide then c 3 else c 3 * 4 + c 3 / 64
  if F.CM_IMAGE_PIXFMT.of img < 2 then fromRgb matrix (2 ^ b - 1) (c 0) (c 1) (c 2) a else ⟨up (c 0), up (c 1), up (c 2), a⟩

/-- A palette entry (R180). -/
def palPx (v : W) : Px := ⟨F.CM_PALETTE_Y.of v, F.CM_PALETTE_CB.of v, F.CM_PALETTE_CR.of v, F.CM_PALETTE_ALPHA.of v⟩

/-- A raster point of an accord image. -/
def AccordImg.at_ (x : AccordImg) (px py : Nat) : Option Px :=
  let p := x.place
  if p.x0 ≤ px && px < p.x1 && p.y0 ≤ py && py < p.y1 then
    let words := fun k => ((x.words.find? fun w => w.1 == k).map (·.2)).getD 0
    some (imgPx x.matrix x.desc (pixelIn words x.desc (p.cl + (px - p.x0)) (p.ct + (py - p.y0))))
  else none

/-- The mean of an r × r block, rounded half up (R170). -/
def boxMean (r : Nat) (f : Nat → Nat → Nat) (x y : Nat) : Nat :=
  let l := (List.range r).flatMap fun j => (List.range r).map fun i => f (x + i) (y + j)
  (2 * l.sum + r * r) / (2 * (r * r))

/-! ### A layer at a raster point (R164, R170, R186) -/

/-- What a layer shows at a raster point; `src` is the picture that its heart source gives, at source coordinates. -/
def State.layerAt (s : State) (e : Nat) (src : Nat → Nat → Px) (x y : Nat) : Option Px :=
  let w0 := s.word 0x3820 e 0
  let w1 := s.word 0x3820 e 1
  let w2 := s.word 0x3820 e 2
  let d := e / 256
  let r := lDiv w0
  let x0 := F.CM_LAYER_X0.of w1
  let y0 := F.CM_LAYER_Y0.of w1
  let cl := F.CM_LAYER_CL.of w2
  let ct := F.CM_LAYER_CT.of w2
  let inside := x0 ≤ x && x < x0 + F.CM_LAYER_WIDTH.of w1 / r && y0 ≤ y && y < y0 + F.CM_LAYER_HEIGHT.of w1 / r
  let late := s.cm.late.contains (e, x / 64, y / 32) || s.cm.redo.contains e
  let accord := fun (fb : Bool) => if late || s.accordLost e fb then none else ((s.liveImages e).find? fun i => i.fb == fb).bind fun i => i.at_ x y
  let palette := fun (i : Nat) => if inside then some (palPx (s.word 0x3828 (d * 256 + i) 0)) else none
  if lClass w0 = lOFF then none
  else if s.fld F.CM_LAYER_STATE e = laFALLBACK then
    if lFbColour w0 then palette (F.CM_LAYER_FBREF.of w0) else if lFbImage w0 then accord true else none
  else if lColour w0 then palette (F.CM_LAYER_SRC.of w0)
  else if lStatic w0 then accord false
  else if !inside then none
  else if lDynamic w0 then
    let img := s.image d (F.CM_LAYER_SRC.of w0 + ((s.run (e / 8) (e % 8)).age - 1) % max 1 (F.CM_LAYER_SEQ.of w0))
    some (imgPx (s.fld F.CM_HEAD_MATRIX (e / 8)) img (s.pixel d img (cl + (x - x0)) (ct + (y - y0))))
  else
    let at_ := fun (c : Px → Nat) => boxMean r (fun i j => c (src i j)) (cl + (x - x0) * r) (ct + (y - y0) * r)
    some ⟨at_ (·.y), at_ (·.cb), at_ (·.cr), 1023⟩

/-! ### Composition (R167, R168) -/

/-- Effective alpha. -/
def effAlpha (a opac : Nat) : Nat := (a * opac + 511) / 1023

/-- A component of a layer over that of the picture below. -/
def blend (ae l p : Nat) : Nat := (ae * l + (1023 - ae) * p + 511) / 1023

/-- The pixel of a head, and whether a layer covers it. -/
def State.composed (s : State) (h : Nat) (win : Nat → Nat → Nat → Px) (prog : Nat → Nat → Px) (x y : Nat) : Px × Bool :=
  (List.range 8).foldl (fun (acc : Px × Bool) n =>
    match s.layerAt (h * 8 + n) (win n) x y with
    | none => acc
    | some q =>
      let ae := effAlpha q.a (s.fld F.CM_LAYER_OPACNOW (h * 8 + n))
      (⟨blend ae q.y acc.1.y, blend ae q.cb acc.1.cb, blend ae q.cr acc.1.cr, acc.1.a⟩, acc.2 || ae != 0)) (prog x y, false)

/-! ### To the output (R169) -/

/-- The ordered-dither matrix. -/
def ditherB : List (List Nat) := [[0, 8, 2, 10], [12, 4, 14, 6], [3, 11, 1, 9], [15, 7, 13, 5]]

def dither (sh row col : Nat) : Nat := (2 * ((ditherB.getD (row % 4) []).getD (col % 4) 0) + 1) * 2 ^ sh / 32

/-- `sh` bits dropped by METHOD at raster point (x, y) of frame `f`. -/
def dropBits (method sh x y f v : Nat) : Nat :=
  if sh = 0 then v
  else if method = 0 then v / 2 ^ sh
  else if method = 1 then (v + 2 ^ (sh - 1)) / 2 ^ sh
  else if method = 2 then (v + dither sh y x) / 2 ^ sh
  else (v + dither sh (y + f / 4) (x + f)) / 2 ^ sh

/-- The legal range of a depth. -/
def clipTo (depth v : Nat) : Nat :=
  if depth = 10 then max 4 (min 1019 v) else if depth = 12 then max 16 (min 4079 v) else max 1 (min 254 v)

/-- A covered sample at the output, whose format has `depth` bits: OUT8 keeps eight of them, with the low ones 0. -/
def outSample (method out8 depth x y f v : Nat) : Nat :=
  if out8 = 1 then clipTo 8 (dropBits method 4 x y f v) * 2 ^ (depth - 8)
  else clipTo depth (dropBits method (12 - depth) x y f v)

/-- Luma of a head's output; `raw` is the programme's own sample. -/
def State.headLuma (s : State) (h depth f : Nat) (win : Nat → Nat → Nat → Px) (prog : Nat → Nat → Px) (raw : Nat → Nat → Nat)
    (x y : Nat) : Nat :=
  let c := s.composed h win prog x y
  if c.2 then outSample (s.fld F.CM_HEAD_METHOD h) (s.fld F.CM_HEAD_OUT8 h) depth x y f c.1.y else raw x y

/-- Chroma of a 4:2:2 output at a co-sited pixel; `comp` picks Cb or Cr. -/
def State.headChroma (s : State) (h f width : Nat) (comp : Px → Nat) (win : Nat → Nat → Nat → Px) (prog : Nat → Nat → Px)
    (raw : Nat → Nat → Nat) (x y : Nat) : Nat :=
  let l := s.composed h win prog (x - 1) y
  let m := s.composed h win prog x y
  let r := s.composed h win prog (min (x + 1) (width - 1)) y
  if l.2 || m.2 || r.2 then
    outSample (s.fld F.CM_HEAD_METHOD h) (s.fld F.CM_HEAD_OUT8 h) 10 x y f ((comp l.1 + 2 * comp m.1 + comp r.1 + 2) / 4)
  else raw x y

/-- Chroma of a 4:4:4 output: every pixel has its own sample, unfiltered. -/
def State.headChroma444 (s : State) (h f : Nat) (comp : Px → Nat) (win : Nat → Nat → Nat → Px) (prog : Nat → Nat → Px)
    (raw : Nat → Nat → Nat) (x y : Nat) : Nat :=
  let c := s.composed h win prog x y
  if c.2 then outSample (s.fld F.CM_HEAD_METHOD h) (s.fld F.CM_HEAD_OUT8 h) 12 x y f (comp c.1) else raw x y

/-! ### The core regulator (R457) -/

/-- A byte taken into the PEC: x^8 + x^2 + x + 1, the most significant bit first (PRESUMED: SMBus, log 209). -/
def pecByte (c : Nat) (b : Byte) : Nat :=
  (List.range 8).foldl (fun c _ => if 128 ≤ c then Nat.xor (c * 2 % 256) 7 else c * 2) (Nat.xor c b.toNat)

/-- The SMBus write of VOUT_COMMAND that sets the voltage last taken: address, command code 0x21, the value, low byte first, and PEC. The regulator's
VOUT_MODE reports units of 2^−`expo` V (PRESUMED: PMBus 1.3, linear format, log 209). -/
def State.voutCommand (s : State) (expo : Nat) : List Byte :=
  let v := (s.pw.written * 2 ^ expo + 500) / 1000
  let l : List Byte := [BitVec.ofNat 8 (s.fld F.PW_VCORE_PMBADDR 0 * 2), 0x21, BitVec.ofNat 8 v, BitVec.ofNat 8 (v / 256)]
  l ++ [BitVec.ofNat 8 (l.foldl pecByte 0)]

end Sys2Proof.Machine
end

