-- ==== Sys2Proof/Safety.lean ====
section
/-! DEFINITION. What a safe state is, and what it means that a command leaves a part of the state alone. -/
namespace Sys2Proof.Machine

/-- The live and the shadow words stand in their canonical form, so that equal dictionaries are equal data. -/
def State.Canon (s : State) : Prop := tableWf dflt s.regs ∧ tableWf dflt s.shadow

/-! ### Parts of the state

A part is an object of the dictionary, by its index, or one of the structures beside it, by a number above every index. -/

abbrev Part := Nat

namespace Part
def shadow : Part := 0x10000
def clk : Part := 0x10001
def sys : Part := 0x10002
def host : Part := 0x10003
def ev : Part := 0x10004
def tm : Part := 0x10005
def save : Part := 0x10006
def fw : Part := 0x10007
def pw : Part := 0x10008
def xp : Part := 0x10009
def au : Part := 0x1000A
def cm : Part := 0x1000B
def al : Part := 0x1000C
def ap : Part := 0x1000D
def lk : Part := 0x1000E
def mx : Part := 0x1000F
def tw : Part := 0x10010
def ic : Part := 0x10011
def mm : Part := 0x10012
def fresh : Part := 0x10013
/-- Every part. -/
def all : Part := 0x1FFFF
end Part

/-- The parts `l` take in the part `p`. -/
def takesIn (l : List Part) (p : Part) : Bool := l.contains p || l.contains Part.all

/-- `t` agrees with `s` in every part outside `l`. -/
structure State.Agrees (l : List Part) (s t : State) : Prop where
  word   : ∀ k : Key, takesIn l k.ix = false → tget dflt t.regs k = tget dflt s.regs k
  shadow : takesIn l Part.shadow = false → t.shadow = s.shadow
  clk    : takesIn l Part.clk = false → t.clk = s.clk
  sys    : takesIn l Part.sys = false → t.sys = s.sys
  host   : takesIn l Part.host = false → t.host = s.host
  ev     : takesIn l Part.ev = false → t.ev = s.ev
  tm     : takesIn l Part.tm = false → t.tm = s.tm
  save   : takesIn l Part.save = false → t.save = s.save
  fw     : takesIn l Part.fw = false → t.fw = s.fw
  pw     : takesIn l Part.pw = false → t.pw = s.pw
  xp     : takesIn l Part.xp = false → t.xp = s.xp
  au     : takesIn l Part.au = false → t.au = s.au
  cm     : takesIn l Part.cm = false → t.cm = s.cm
  al     : takesIn l Part.al = false → t.al = s.al
  ap     : takesIn l Part.ap = false → t.ap = s.ap
  lk     : takesIn l Part.lk = false → t.lk = s.lk
  mx     : takesIn l Part.mx = false → t.mx = s.mx
  tw     : takesIn l Part.tw = false → t.tw = s.tw
  ic     : takesIn l Part.ic = false → t.ic = s.ic
  mm     : takesIn l Part.mm = false → t.mm = s.mm
  fresh  : takesIn l Part.fresh = false → t.fresh = s.fresh

/-- No die is isolated: the block serves whole (R393). -/
def State.whole (s : State) : Prop := s.sys.isolated = []

/-! ### What a command leaves -/

/-- `c` at `s` leaves the word `k`, where no die is isolated after it. -/
def Keeps (c : Instr) (s : State) (k : Key) : Prop :=
  ∀ t, exec c s = .next t → t.sys.isolated = [] → tget dflt t.regs k = tget dflt s.regs k

/-- A host's write passes the checks that are common to all objects (R335, R336, R340, R418, R429), so that what it does is the object's
own affair: the mast answers, the element exists, class and context may write it and these words of it, the values are in range, no other
context's lease stands in the way, SAFE serves the object, and a TRIAL does not refuse the words as SAVED. -/
def State.passes (s : State) (rq : Req) (x : HostWrite) : Bool :=
  s.alive && match findElem s.caps x.addr with
    | .ok o => rightsOk rq o x.addr.e true && s.wordRights rq o.ix x.addr.e x.words && x.range && !s.leaseStops rq x
        && (s.mode != SAFE || s.servesWhole o) && !(s.inTrial && s.touchesSaved o x)
    | .error _ => false

/-- A host's read of an element passes them. -/
def State.acceptsRead (s : State) (rq : Req) (a : Addr) : Bool :=
  s.alive && match s.judgeRead rq a with | .ok _ => true | .error _ => false

/-- The last request, which named one element, was answered with a status and no data. -/
abbrev State.replied (s : State) (a : Addr) (st : Status) : Prop := s.host.resp = some ⟨st.code, false, [⟨a, st.code, 0, []⟩]⟩

/-- The last request, which named one element, was answered with its value. -/
abbrev State.repliedData (s : State) (a : Addr) (data : List W) : Prop := s.host.resp = some ⟨0, false, [⟨a, 0, 1, data⟩]⟩

/-- A record of the package has a code, a die and P1 (R398). -/
abbrev State.recorded (s : State) (code d p1 : Nat) : Prop := ∃ r ∈ s.records, r.code = code ∧ r.die = d ∧ r.p1 = p1

/-! ### What a command may change -/

/-- What writing a record may change (R394, R399): the sillage and its objects, the counters, NOTIFYs, the fault line. -/
def Part.records : List Part := [0x6048, 0x7808, 0x7810, 0x7820, Part.clk, Part.ev, Part.host, Part.sys]

/-- What any host's request may change: its answer, the record of a violation (R337), the wake of HOLD (R440). -/
def Part.request : List Part := [0x6040, Part.pw] ++ Part.records

/-- What a change of a SAVED word may change beside it (R347). -/
def Part.saved : List Part := [0x1028, Part.save]

/-- The parts that a command may change: an object by its index in the dictionary, a structure by its name. What stands outside them,
the command leaves as it was. -/
def touches (c : Instr) : List Part :=
  match c with
  | .powerOn _ => [Part.all]
  | .packageReset _ _ _ => [Part.all]
  | .requestSafe _ => [Part.all]
  | .requestLoad _ => [Part.all]
  | .requestStandby _ => [Part.all]
  | .requestActive _ => [Part.all]
  | .requestHold _ => [Part.all]
  | .requestService _ => [Part.all]
  | .loadComplete _ => [Part.all]
  | .loadTimeout => [0x1020, Part.clk]
  | .modeTransitionComplete => [0x1020, 0x2008, 0x2010, 0x2020, 0x2864, 0x3020, 0x3058, 0x3068, 0x3810, 0x4028, 0x4038, 0x5018, 0x5030,
      0x5818, 0x6820, 0x7018, 0x8810, Part.al, Part.ap, Part.au, Part.cm, Part.fresh, Part.lk, Part.mm, Part.pw, Part.tm, Part.tw,
      Part.xp] ++ Part.records
  | .thermalTrip _ _ => [Part.all]
  | .undervoltage _ _ => Part.records
  | .sheetStart _ => [0x3820, 0x4008, 0x4030, 0x4038, 0x5818, 0x6820, Part.cm, Part.ic, Part.lk, Part.tw] ++ Part.records ++ Part.saved
  | .rxHeaderBlock _ _ _ _ _ => [0x2858, 0x4028, 0x4038, 0x5018, Part.lk, Part.tm, Part.tw] ++ Part.records
  | .laneSignalLoss _ => [0x4028, 0x4038, 0x4870, 0x5018, 0x6048, Part.host, Part.lk, Part.tm]
  | .laneSignalReturn _ => [0x4028, 0x6048, Part.host]
  | .rxSheet _ _ _ _ => [0x2858, 0x4038, Part.lk, Part.tw] ++ Part.records
  | .rxEssenceFrame _ _ _ => [0x2858, Part.lk]
  | .rxOverrun _ _ => [0x4028]
  | .txStarve _ _ _ => [0x4028]
  | .meshGroupFail _ _ => [Part.lk] ++ Part.records
  | .portTableWrite _ _ _ _ => [0x2810, 0x2818, 0x2848, Part.shadow] ++ Part.request ++ Part.saved
  | .calCommit _ => [0x2008, 0x2010, 0x2020, 0x2848, 0x3020, 0x3810, Part.au, Part.cm, Part.fresh, Part.lk, Part.shadow, Part.tw, Part.xp]
      ++ Part.request ++ Part.saved
  | .calAbandon _ => [0x2008, 0x2010, 0x2020, 0x2848, 0x3020, 0x3810, Part.au, Part.cm, Part.fresh, Part.lk, Part.shadow, Part.tw,
      Part.xp] ++ Part.request ++ Part.saved
  | .rebuildDone => [0x2008, 0x2010, 0x2020, 0x2848, 0x3020, 0x3810, Part.au, Part.cm, Part.fresh, Part.tw, Part.xp] ++ Part.records
  | .calendarPublish => [0x2008, 0x2010, 0x2020, 0x2810, 0x2818, 0x2848, 0x2860, 0x2864, 0x3020, 0x3060, 0x3810, 0x3820, 0x4818, 0x4820,
      0x4870, 0x6820, Part.al, Part.au, Part.cm, Part.fresh, Part.ic, Part.lk, Part.mx, Part.tw, Part.xp] ++ Part.records ++ Part.saved
  | .takeCommit _ _ _ _ => [0x2008, 0x2009, 0x2010, 0x2020, 0x3020, 0x3810, Part.au, Part.cm, Part.fresh, Part.shadow, Part.tw, Part.xp]
      ++ Part.request ++ Part.saved
  | .takeCancel _ _ _ => [0x2008, 0x2009, 0x2010, 0x2020, 0x3020, 0x3810, Part.au, Part.cm, Part.fresh, Part.shadow, Part.tw, Part.xp] ++
      Part.request ++ Part.saved
  | .twinDecisionReceived _ => [0x2008, 0x2009, 0x2010, 0x2020, 0x2864, 0x3020, 0x3028, 0x3060, 0x3810, 0x4860, 0x5830, 0x6040, Part.al,
      Part.ap, Part.au, Part.cm, Part.fresh, Part.mx, Part.shadow, Part.tw, Part.xp] ++ Part.records ++ Part.saved
  | .decisionAckTimeout _ => [0x4860, 0x5818, 0x6040, Part.fresh, Part.mx, Part.tw] ++ Part.records
  | .switchLine _ => [0x2008, 0x2010, 0x2020, 0x3020, 0x3810, 0x3820, Part.al, Part.au, Part.cm, Part.mx, Part.tw, Part.xp] ++ Part.records
  | .salvoArm _ _ _ _ => [0x2008, 0x2009, 0x2010, 0x2020, 0x3020, 0x3810, Part.au, Part.cm, Part.fresh, Part.shadow, Part.tw, Part.xp] ++
      Part.request ++ Part.saved
  | .salvoDiscard _ _ _ => [0x2008, 0x2009, 0x2010, 0x2020, 0x3020, 0x3810, Part.au, Part.cm, Part.fresh, Part.shadow, Part.tw, Part.xp]
      ++ Part.request ++ Part.saved
  | .salvoTimeout _ => [0x2008, 0x2010, 0x2020, 0x3020, 0x3810, Part.au, Part.cm, Part.fresh, Part.tw, Part.xp] ++ Part.records
  | .holdDeadline _ _ => [0x2008, 0x2010, 0x2020, 0x3020, 0x3810, Part.au, Part.cm, Part.fresh, Part.tw, Part.xp] ++ Part.records
  | .esAlignWrite _ _ _ => [0x2860, 0x3060, Part.al, Part.mm, Part.shadow] ++ Part.request ++ Part.saved
  | .sourcePicture _ _ _ _ => [0x2864, Part.al, Part.au] ++ Part.records
  | .sourceLost _ => [0x2864, Part.al] ++ Part.records
  | .fsyncPictureStart _ _ _ => [0x2864, 0x3060, 0x6048, Part.al, Part.ap, Part.au, Part.host, Part.tw]
  | .fsyncPictureEnd _ _ => [0x2864, Part.al, Part.tw]
  | .fsyncReadInstant _ => [0x2864, 0x6048, Part.al, Part.au, Part.clk, Part.host, Part.tw]
  | .fsyncAudioSlip _ _ => [0x2864, Part.au, Part.tw]
  | .lossholdExpire _ => [Part.al]
  | .auSrcWrite _ _ _ => [0x3010, Part.shadow] ++ Part.request ++ Part.saved
  | .auDstTargetWrite _ _ _ => [0x2009, 0x3020, Part.au, Part.fresh, Part.shadow, Part.tw] ++ Part.request ++ Part.saved
  | .audioChangeCommit _ _ _ => [0x2008, 0x2009, 0x2010, 0x2020, 0x3020, 0x3810, Part.au, Part.cm, Part.fresh, Part.shadow, Part.tw,
      Part.xp] ++ Part.request ++ Part.saved
  | .audioChangeCancel _ _ _ => [0x2008, 0x2009, 0x2010, 0x2020, 0x3020, 0x3810, Part.au, Part.cm, Part.fresh, Part.shadow, Part.tw,
      Part.xp] ++ Part.request ++ Part.saved
  | .audioSample _ _ _ => [0x3010, 0x3038, 0x3060, 0x3068, Part.ap, Part.au, Part.clk]
  | .audioTransitionTimeout _ => [Part.au, Part.clk]
  | .auGainWrite _ _ _ => [0x2009, 0x3028, Part.au, Part.fresh, Part.shadow, Part.tw] ++ Part.request ++ Part.saved
  | .audioPortConfigWrite _ _ _ _ => [0x3040, 0x3050, 0x3068, Part.shadow] ++ Part.request ++ Part.saved
  | .maskWrite _ _ _ => [0x3048, 0x3068, Part.ap, Part.shadow] ++ Part.request ++ Part.saved
  | .maskApply _ _ => [0x3068, 0x6048, Part.ap, Part.clk, Part.host]
  | .startTrigger _ _ _ _ _ => [0x3058, 0x3068, Part.ap, Part.fresh, Part.shadow] ++ Part.request ++ Part.saved
  | .stopTrigger _ _ _ _ _ => [0x3058, 0x3068, Part.ap, Part.fresh, Part.shadow] ++ Part.request ++ Part.saved
  | .abortTrigger _ _ _ _ _ => [0x3058, 0x3068, Part.ap, Part.fresh, Part.shadow] ++ Part.request ++ Part.saved
  | .triggerAct _ => [0x3058, 0x3068, Part.ap, Part.fresh] ++ Part.records
  | .streamUnderrun _ _ _ => [0x3068, 0x6048, Part.ap, Part.host]
  | .streamRejoin _ _ => [0x3068, Part.ap] ++ Part.records
  | .streamPhaseSlip _ _ _ => [0x3068, Part.ap] ++ Part.records
  | .streamOffrate _ _ => [0x3068, 0x6048, Part.host]
  | .auAsrcWrite _ _ _ => [0x3060, Part.ap, Part.shadow] ++ Part.request ++ Part.saved
  | .asrcLock _ _ => [0x3060, Part.ap, Part.tw]
  | .asrcUnlock _ => [0x3060, Part.ap, Part.tw]
  | .cmLayerWrite _ _ _ _ => [0x2009, 0x3820, Part.shadow] ++ Part.request ++ Part.saved
  | .cmImageWrite _ _ _ => [0x3830, Part.shadow] ++ Part.request ++ Part.saved
  | .cmPixelsWrite _ _ _ => [0x3838, Part.shadow] ++ Part.request ++ Part.saved
  | .cmPaletteWrite _ _ _ => [0x3828, Part.shadow] ++ Part.request ++ Part.saved
  | .headCommit _ _ _ _ => [0x2008, 0x2009, 0x2010, 0x2020, 0x3020, 0x3810, Part.au, Part.cm, Part.fresh, Part.shadow, Part.tw, Part.xp]
      ++ Part.request ++ Part.saved
  | .headCancel _ _ _ => [0x2008, 0x2009, 0x2010, 0x2020, 0x3020, 0x3810, Part.au, Part.cm, Part.fresh, Part.shadow, Part.tw, Part.xp] ++
      Part.request ++ Part.saved
  | .flattenDone _ _ => [0x2008, 0x2010, 0x2020, 0x3020, 0x3810, Part.au, Part.cm, Part.fresh, Part.tw, Part.xp] ++ Part.records
  | .lkLaneWrite _ _ _ => [0x4010, 0x4028, 0x4038, Part.lk, Part.shadow] ++ Part.request ++ Part.saved
  | .laneTrainingDone _ _ _ => [0x4028, 0x4038, Part.lk, Part.tw] ++ Part.records
  | .lkTxeqWrite _ _ _ => [0x4018, Part.lk, Part.shadow] ++ Part.request ++ Part.saved
  | .txeqStep _ => [Part.lk]
  | .stayLos _ => [0x4028, 0x5018, Part.tm] ++ Part.records
  | .stayReturn _ => [0x4028, 0x6048, Part.host]
  | .spareCover _ _ _ => [0x4038, Part.lk, Part.shadow] ++ Part.request ++ Part.saved
  | .spareRelease _ _ _ => [0x4038, Part.lk, Part.shadow] ++ Part.request ++ Part.saved
  | .prbsPatternWrite _ _ _ _ => [0x4028, 0x4030, 0x4038, Part.fresh, Part.lk, Part.shadow] ++ Part.request ++ Part.saved
  | .prbsInject _ _ _ => [0x4028, 0x4030, 0x4038, Part.fresh, Part.lk, Part.shadow] ++ Part.request ++ Part.saved
  | .prbsSlip _ _ _ _ => [0x4028, 0x4030, 0x4038, Part.fresh, Part.lk, Part.shadow] ++ Part.request ++ Part.saved
  | .laneErrorSecond => [Part.lk] ++ Part.records
  | .mxMacWrite _ _ _ _ => [0x4810, 0x5018, 0x5030, Part.mx, Part.shadow, Part.tm] ++ Part.request ++ Part.saved
  | .macRxFrame _ _ => [0x2864, 0x4840, 0x4848, 0x4858, 0x4860, 0x4870, 0x5030, Part.al, Part.fresh, Part.mx, Part.tm] ++ Part.records
  | .pauseExpire _ _ => [0x4858, 0x4860, 0x5030, 0x6048, Part.clk, Part.fresh, Part.host, Part.mx, Part.tm]
  | .mxRingWrite _ _ _ _ => [0x4840, Part.mx, Part.shadow] ++ Part.request ++ Part.saved
  | .ringTxFrame _ _ _ => [0x4840, 0x4858, 0x4860, 0x6048, Part.host, Part.mx]
  | .tsqRead _ _ => [0x4850, Part.mx, Part.shadow] ++ Part.request
  | .mxStatsRead _ _ => [0x4860, Part.fresh, Part.mx, Part.shadow] ++ Part.request
  | .xportWrite _ _ _ _ _ => [0x2848, 0x4818, 0x4820, Part.shadow] ++ Part.request ++ Part.saved
  | .aflowWrite _ _ _ _ _ => [0x4828, 0x4830, Part.mx, Part.shadow] ++ Part.request ++ Part.saved
  | .st2110Release _ _ => [0x4870, 0x6048, Part.clk, Part.host, Part.mx]
  | .sdiRxLine _ _ => [0x2864, 0x4028, 0x4870, Part.al, Part.mx] ++ Part.records
  | .sdiTxLine _ _ _ _ _ => [0x4870, Part.mx]
  | .macLinkChange _ _ _ => [0x4028, 0x4038, 0x5018, 0x5030, 0x6048, Part.host, Part.lk, Part.mx, Part.tm]
  | .tmRefWrite _ _ _ _ => [0x5010, 0x5018, 0x5030, Part.shadow, Part.tm] ++ Part.request ++ Part.saved
  | .refMeasurement _ _ _ _ => [0x5000, 0x5018, Part.tm] ++ Part.records
  | .refQualify _ => [0x5018, 0x6048, Part.clk, Part.host]
  | .refLos _ => [0x5018, 0x6048, Part.host, Part.tm]
  | .selectionEval => [0x5000, 0x5018, Part.tm] ++ Part.records
  | .agreementCheck _ => [0x5000, 0x5018, 0x5040, 0x5048, Part.tm] ++ Part.records
  | .refAccept _ _ => [0x5000, 0x5018, 0x5020, Part.shadow, Part.tm] ++ Part.request ++ Part.saved
  | .refRequalify _ _ => [0x5018, 0x5020, Part.shadow, Part.tm] ++ Part.request ++ Part.saved
  | .ptpMessageRx _ _ => [0x4858, 0x4860, 0x5000, 0x5018, 0x5030, Part.fresh, Part.mx, Part.tm] ++ Part.records
  | .announceTimeout _ => [0x5018, 0x5030, 0x6048, Part.host, Part.tm]
  | .ptpTxInterval _ _ _ => [0x4858, 0x4860, 0x5030, 0x6048, Part.fresh, Part.host, Part.mx, Part.tm]
  | .stepAbsolute _ _ _ _ => [0x5000, 0x5018, 0x5050, Part.ap, Part.au, Part.shadow, Part.tm, Part.xp] ++ Part.request ++ Part.saved
  | .stepRelative _ _ _ _ => [0x5000, 0x5018, 0x5050, Part.ap, Part.au, Part.shadow, Part.tm, Part.xp] ++ Part.request ++ Part.saved
  | .stepToref _ _ _ _ => [0x5000, 0x5018, 0x5050, Part.ap, Part.au, Part.shadow, Part.tm, Part.xp] ++ Part.request ++ Part.saved
  | .stepApply => [0x5000, 0x5018, 0x5050, Part.ap, Part.au, Part.tm, Part.xp] ++ Part.records ++ Part.saved
  | .slewDone => [0x5000, 0x6048, Part.clk, Part.host]
  | .holdoverUpdate _ => [Part.clk, Part.tm]
  | .holdoverLearnSave => Part.saved
  | .holdoverForget _ => [0x5000, 0x5040, 0x5048, Part.shadow, Part.tm] ++ Part.request ++ Part.saved
  | .tmOutWrite _ _ _ _ => [0x5058, Part.shadow, Part.tm] ++ Part.request ++ Part.saved
  | .twPairWrite _ _ _ => [0x5810, 0x5818, 0x5820, Part.shadow, Part.tw] ++ Part.request ++ Part.saved
  | .pairSheetRelease _ _ _ _ => [Part.all]
  | .twinSilentSheets => [0x5818, Part.tw] ++ Part.records
  | .healthReport => [0x5830, 0x6048, Part.clk, Part.host, Part.tw]
  | .twinReportTimeout => [Part.tw] ++ Part.records
  | .snapshotRequest _ => [Part.tw]
  | .snapshotReceived _ => [Part.all]
  | .mirrorStoresFull => [Part.tw]
  | .selftestEngine _ => [0x1000, 0x2858, 0x6818, 0x681c, 0x6820, Part.au, Part.fresh, Part.ic, Part.lk, Part.tw] ++ Part.records ++
      Part.saved
  | .busFrameRx _ _ => [0x6028, 0x6048, Part.host]
  | .busBackoffExpire _ => [Part.clk, Part.host]
  | .ctBusWrite _ _ _ => [0x6020, Part.shadow] ++ Part.request ++ Part.saved
  | .ncpRead _ _ => [Part.all]
  | .ncpWrite _ _ => [Part.all]
  | .ncpBlockRead _ _ _ => [Part.all]
  | .ncpBlockWrite _ _ _ _ => [Part.all]
  | .ncpSubscribe _ _ _ _ => [Part.all]
  | .ncpUnsubscribe _ _ => [Part.all]
  | .challengeRead _ => [Part.all]
  | .sessionOpen _ _ => [Part.all]
  | .sessionClose _ _ => [Part.all]
  | .sessionTimeout _ => [0x2008, 0x2010, 0x2020, 0x3020, 0x3810, Part.au, Part.cm, Part.fresh, Part.tw, Part.xp] ++ Part.records
  | .notifyPeriod _ _ _ => [0x6048, Part.clk, Part.host]
  | .notifySend _ _ => [0x4860, 0x6048, Part.clk, Part.fresh, Part.host, Part.mx]
  | .notifyOverflow _ _ => [Part.host]
  | .emergencySend => [0x4860, 0x6048, Part.ev, Part.fresh, Part.host, Part.mx]
  | .emergencyRepeat => [0x4860, 0x6048, Part.clk, Part.fresh, Part.host, Part.mx]
  | .leaseTake _ _ => [0x6030, Part.shadow] ++ Part.request ++ Part.saved
  | .leaseRelease _ _ => [0x6030, Part.shadow] ++ Part.request ++ Part.saved
  | .leaseBreak _ _ => [0x6030, Part.shadow] ++ Part.request ++ Part.saved
  | .ctContextWrite _ _ _ _ => [0x6018, Part.shadow] ++ Part.request ++ Part.saved
  | .pcieWindowRead _ _ _ _ => [Part.all]
  | .pcieWindowWrite _ _ _ _ _ => [Part.all]
  | .pcieClassWrite _ _ => [Part.all]
  | .pcieAuthSubmit _ _ => [Part.all]
  | .pcieSubreqSubmit _ _ _ => [Part.all]
  | .pcieFlr _ => [0x2008, 0x2010, 0x2020, 0x3020, 0x3810, 0x6818, 0x681c, Part.au, Part.cm, Part.fresh, Part.ic, Part.tw, Part.xp] ++
      Part.records
  | .syRoleWrite _ _ => [0x1018, Part.shadow] ++ Part.request ++ Part.saved
  | .settingsFlush _ => [Part.shadow] ++ Part.request ++ Part.saved
  | .settingsDefaults _ => [Part.shadow] ++ Part.request ++ Part.saved
  | .settingsKeep _ => [Part.shadow] ++ Part.request ++ Part.saved
  | .settingsTimer => [Part.clk] ++ Part.saved
  | .settingsWriteDone _ => Part.saved
  | .burstAbort _ _ => [0x6818, 0x681c, Part.fresh, Part.ic] ++ Part.records
  | .decodeError _ _ _ => [0x6818, 0x681c, Part.fresh, Part.ic] ++ Part.records
  | .exclMonitorExpire _ _ _ => [0x6818, 0x681c, Part.fresh, Part.ic] ++ Part.records
  | .engineFail _ _ => [0x1000, 0x2858, 0x6818, 0x681c, 0x6820, Part.au, Part.fresh, Part.ic, Part.lk] ++ Part.records ++ Part.saved
  | .engineMove _ _ _ => [0x6820, 0x6828, Part.ic, Part.shadow] ++ Part.request ++ Part.saved
  | .engineRetire _ _ _ => [0x6820, 0x6828, Part.ic, Part.shadow] ++ Part.request ++ Part.saved
  | .engineRestore _ _ _ => [0x6820, 0x6828, Part.ic, Part.shadow] ++ Part.request ++ Part.saved
  | .engineTest _ _ _ => [0x6820, 0x6828, Part.ic, Part.shadow] ++ Part.request ++ Part.saved
  | .engineTestDone _ _ => [0x1000, 0x2858, 0x6818, 0x681c, 0x6820, Part.au, Part.fresh, Part.ic, Part.lk] ++ Part.records ++ Part.saved
  | .crcStart _ _ _ => [0x6818, 0x681c, 0x6830, 0x6838, Part.fresh, Part.ic, Part.shadow] ++ Part.request ++ Part.saved
  | .crcAbort _ _ _ => [0x6818, 0x681c, 0x6830, 0x6838, Part.fresh, Part.ic, Part.shadow] ++ Part.request ++ Part.saved
  | .crcJobDone _ _ _ => [0x6830, 0x6838, Part.fresh] ++ Part.records
  | .mmChannelWrite _ _ _ => [0x7010, Part.shadow] ++ Part.request ++ Part.saved
  | .sramScrub _ _ _ => [0x1000, 0x2858, 0x2864, 0x6818, 0x681c, 0x6820, 0x7008, Part.al, Part.au, Part.cm, Part.fresh, Part.ic, Part.lk]
      ++ Part.records ++ Part.saved
  | .sramUe _ _ _ _ => [0x1000, 0x2858, 0x2864, 0x6818, 0x681c, 0x6820, 0x7008, Part.al, Part.au, Part.cm, Part.fresh, Part.ic, Part.lk]
      ++ Part.records ++ Part.saved
  | .dramRecal _ => [Part.mm]
  | .refreshRateCheck _ _ => [0x7018, Part.mm] ++ Part.records
  | .scrubPassDone _ _ _ => [0x7018, 0x7020, Part.cm] ++ Part.records
  | .rankFail _ _ => [0x2864, 0x3820, 0x3830, 0x7018, 0x7020, Part.al, Part.au, Part.cm, Part.mm] ++ Part.records ++ Part.saved
  | .rankMigrate _ _ _ => [0x7018, 0x7020, 0x7028, Part.cm, Part.mm, Part.shadow] ++ Part.request ++ Part.saved
  | .rankRetire _ _ _ => [0x7018, 0x7020, 0x7028, Part.cm, Part.mm, Part.shadow] ++ Part.request ++ Part.saved
  | .rankRestore _ _ _ => [0x7018, 0x7020, 0x7028, Part.cm, Part.mm, Part.shadow] ++ Part.request ++ Part.saved
  | .rankReplan _ _ _ => [0x7018, 0x7020, 0x7028, Part.cm, Part.mm, Part.shadow] ++ Part.request ++ Part.saved
  | .migrationHeldItemCopied _ _ _ _ => [Part.mm]
  | .migrationDone _ => [0x7018, 0x7020, Part.mm] ++ Part.records ++ Part.saved
  | .faultRaised _ _ _ _ _ _ => [0x1000, 0x2858, 0x2864, 0x3068, 0x3830, 0x5018, 0x5030, 0x6818, 0x681c, 0x6820, 0x7018, 0x7020, Part.al,
      Part.ap, Part.au, Part.fresh, Part.ic, Part.lk, Part.mm, Part.tm] ++ Part.records ++ Part.saved
  | .handlerEnd _ => [0x6048, Part.ev, Part.host]
  | .faultAck _ _ => [0x7840, Part.shadow] ++ Part.request ++ Part.saved
  | .sillageRetest _ _ _ => [0x7840, Part.shadow] ++ Part.request ++ Part.saved
  | .recordClose _ _ => [Part.clk, Part.ev]
  | .evCursorWrite _ _ _ => [Part.shadow] ++ Part.request ++ Part.saved
  | .clearChallengeRead _ => [Part.fresh, Part.shadow] ++ Part.request
  | .sillageClear _ _ => [0x7830, Part.shadow] ++ Part.request ++ Part.saved
  | .sillageFail _ _ _ => Part.records
  | .gpiRawEdge _ => [0x5018, 0x7850, Part.tm] ++ Part.records
  | .gpiQualify _ => [0x2008, 0x2009, 0x2010, 0x2020, 0x3020, 0x3810, 0x5018, 0x7850, Part.ap, Part.au, Part.cm, Part.fresh, Part.tm,
      Part.tw, Part.xp] ++ Part.records
  | .gpiStuck _ => [0x5018, 0x7850, Part.tm] ++ Part.records
  | .gpiUnmask _ => [0x5018, 0x6048, 0x7850, Part.clk, Part.ev, Part.host, Part.tm]
  | .evGpiWrite _ _ _ => [0x5018, 0x7848, 0x7850, Part.shadow, Part.tm] ++ Part.request ++ Part.saved
  | .sigPolicyWrite _ _ => [0x8018, 0x8038, Part.fw, Part.shadow] ++ Part.request ++ Part.saved
  | .quoteRequest _ _ => [0x8040, Part.fw, Part.shadow] ++ Part.request ++ Part.saved
  | .quoteReady => [0x6048, Part.fw, Part.host]
  | .fwFlashWrite _ _ _ => [0x8008, 0x8030, Part.fw, Part.shadow] ++ Part.request ++ Part.saved
  | .fwStage _ _ _ _ => [Part.all]
  | .stageDone _ => [0x8008, Part.fw] ++ Part.records
  | .fwActivate _ _ _ _ => [Part.all]
  | .activationReady _ => [0x1000, 0x8008, Part.fw] ++ Part.records
  | .activationTwinCheck _ _ _ => [0x1000, 0x8008, Part.fw] ++ Part.records
  | .activationInstant _ => [Part.all]
  | .fwCommit _ _ _ _ => [Part.all]
  | .fwRollback _ _ _ _ => [Part.all]
  | .fwAbandon _ _ _ _ => [Part.all]
  | .lifecycleChallengeRead _ => [Part.fresh, Part.fw, Part.shadow] ++ Part.request
  | .lifecycleRequest _ _ _ => [Part.all]
  | .pwDomainWrite _ _ _ => [0x4028, 0x4038, 0x5018, 0x8810, Part.lk, Part.mx, Part.shadow, Part.tm] ++ Part.request ++ Part.saved
  | .domainOnDone _ => [0x4028, 0x4038, 0x6048, 0x8810, Part.host, Part.pw]
  | .domainFault _ => [0x8810, Part.pw] ++ Part.records
  | .holdWake => [Part.pw]
  | .holdRetention => [Part.clk, Part.pw]
  | .supplyLow _ _ _ => [0x8808] ++ Part.records
  | .coreDip _ _ => [0x8808]
  | .thermalWarn _ _ => [Part.pw] ++ Part.records
  | .monitorFail _ _ => [0x8818] ++ Part.records
  | .droopStart _ => [Part.pw]
  | .droopEnd _ _ _ _ _ => [0x8830, Part.pw] ++ Part.records
  | .paceUpdate _ _ => [0x8818, 0x8828, 0x8840, Part.pw, Part.sys]
  | .plannerEval => [0x8838, Part.pw] ++ Part.records
  | .ageingUpdate _ => [0x8828, Part.pw] ++ Part.records
  | .vcoreTargetWrite _ _ => [0x8840, Part.shadow] ++ Part.request ++ Part.saved
  | .vcoreStep _ => [0x8840, Part.pw] ++ Part.records
  | .vcoreSettleCheck _ _ => [0x8840] ++ Part.records
  | .vcoreRetry _ => [0x8840, Part.pw] ++ Part.records
  | .registerWrite _ _ _ _ => [Part.all]
  | .powerLoss _ => [Part.clk, Part.ev, Part.sys, Part.tm]
  | .busCollision _ _ => [0x6028, Part.fresh, Part.host]
  | .rollbackInstant => [Part.all]
  | .domainOffDone _ => [0x4028, 0x4038, 0x5018, 0x6048, 0x8810, Part.host, Part.lk, Part.mx, Part.pw, Part.tm]

end Sys2Proof.Machine
end

