-- ==== Sys2Proof/Certificates/Slice0/Obligations.lean ====
section
/-! DEFINITION. The statements for the provers. `t.settleIsolated` is the command's own effect `t` with what isolated dies hold ended
(R74, R86, R393). -/
open Sys2Proof Sys2Proof.Machine

/-- A host's request for a mode answers a next state whatever the state. One that passes the common checks, in the class that R30 asks for and legal under R32, is answered OK: SAFE is entered at once, settled, with CAUSE host; LOAD is entered and runs; for STANDBY, ACTIVE, HOLD and SERVICE a transition to the mode asked for runs, and MODE stays meanwhile. One that R32 does not allow is answered TRANSITION, MODE and PHASE stay, and LAST_REFUSED reads the mode asked for. Completion: under these conditions exec answers a next state, for the constructors requestSafe, requestLoad, requestStandby, requestActive, requestHold, requestService. (R28, R29, R30, R32, R33, R34.) -/
def Obligations.HostModeRequestsAreCarriedOut : Prop :=
  (∀ (rq : Req) (s : State), ∃ t : State, exec (.requestSafe rq) s = .next t.settleIsolated ∧ (s.passes rq (putMode rq 0).1 = true → rq.cls = .maintain → s.modeLegal SAFE = true → t.mode = SAFE ∧ t.phase = phSETTLED ∧ t.fld F.SY_MODE_CAUSE 0 = causeHOST ∧ t.replied ⟨0x1020, 2, 0⟩ .ok)) ∧
  (∀ (rq : Req) (s : State), ∃ t : State, exec (.requestLoad rq) s = .next t.settleIsolated ∧ (s.passes rq (putMode rq 1).1 = true → rq.cls = .maintain → s.modeLegal LOAD = true → t.mode = LOAD ∧ t.phase = phRUNNING ∧ t.fld F.SY_MODE_TARGET 0 = LOAD ∧ t.replied ⟨0x1020, 2, 0⟩ .ok) ∧ (s.passes rq (putMode rq 1).1 = true → rq.cls = .maintain → s.modeLegal LOAD = false → t.mode = s.mode ∧ t.phase = s.phase ∧ t.fld F.SY_MODE_LAST_REFUSED 0 = LOAD ∧ t.replied ⟨0x1020, 2, 0⟩ .transition)) ∧
  (∀ (rq : Req) (s : State), ∃ t : State, exec (.requestStandby rq) s = .next t.settleIsolated ∧ (s.passes rq (putMode rq 2).1 = true → rq.cls = .maintain ∨ s.mode = ACTIVE → s.modeLegal STANDBY = true → t.mode = s.mode ∧ t.phase = phRUNNING ∧ t.fld F.SY_MODE_TARGET 0 = STANDBY ∧ t.replied ⟨0x1020, 2, 0⟩ .ok) ∧ (s.passes rq (putMode rq 2).1 = true → rq.cls = .maintain ∨ s.mode = ACTIVE → s.modeLegal STANDBY = false → t.mode = s.mode ∧ t.phase = s.phase ∧ t.fld F.SY_MODE_LAST_REFUSED 0 = STANDBY ∧ t.replied ⟨0x1020, 2, 0⟩ .transition)) ∧
  (∀ (rq : Req) (s : State), ∃ t : State, exec (.requestActive rq) s = .next t.settleIsolated ∧ (s.passes rq (putMode rq 3).1 = true → rq.cls = .maintain ∨ s.mode = STANDBY → s.modeLegal ACTIVE = true → t.mode = s.mode ∧ t.phase = phRUNNING ∧ t.fld F.SY_MODE_TARGET 0 = ACTIVE ∧ t.replied ⟨0x1020, 2, 0⟩ .ok) ∧ (s.passes rq (putMode rq 3).1 = true → rq.cls = .maintain ∨ s.mode = STANDBY → s.modeLegal ACTIVE = false → t.mode = s.mode ∧ t.phase = s.phase ∧ t.fld F.SY_MODE_LAST_REFUSED 0 = ACTIVE ∧ t.replied ⟨0x1020, 2, 0⟩ .transition)) ∧
  (∀ (rq : Req) (s : State), ∃ t : State, exec (.requestHold rq) s = .next t.settleIsolated ∧ (s.passes rq (putMode rq 4).1 = true → rq.cls = .maintain → s.modeLegal HOLD = true → t.mode = s.mode ∧ t.phase = phRUNNING ∧ t.fld F.SY_MODE_TARGET 0 = HOLD ∧ t.replied ⟨0x1020, 2, 0⟩ .ok) ∧ (s.passes rq (putMode rq 4).1 = true → rq.cls = .maintain → s.modeLegal HOLD = false → t.mode = s.mode ∧ t.phase = s.phase ∧ t.fld F.SY_MODE_LAST_REFUSED 0 = HOLD ∧ t.replied ⟨0x1020, 2, 0⟩ .transition)) ∧
  (∀ (rq : Req) (s : State), ∃ t : State, exec (.requestService rq) s = .next t.settleIsolated ∧ (s.passes rq (putMode rq 5).1 = true → rq.cls = .maintain → s.modeLegal SERVICE = true → t.mode = s.mode ∧ t.phase = phRUNNING ∧ t.fld F.SY_MODE_TARGET 0 = SERVICE ∧ t.replied ⟨0x1020, 2, 0⟩ .ok) ∧ (s.passes rq (putMode rq 5).1 = true → rq.cls = .maintain → s.modeLegal SERVICE = false → t.mode = s.mode ∧ t.phase = s.phase ∧ t.fld F.SY_MODE_LAST_REFUSED 0 = SERVICE ∧ t.replied ⟨0x1020, 2, 0⟩ .transition))

/-- Each of these events answers a next state whatever the state. LOAD_COMPLETE ends a LOAD that runs with PHASE done where the boot succeeds, every rank of DRAM and every lane trains and no die fails, with PHASE failed otherwise; where no LOAD runs it changes no word. LOAD_TIMEOUT ends a LOAD that runs with PHASE failed, not before 60 s have passed since it was asked for; elsewhere it changes nothing. MODE_TRANSITION_COMPLETE settles a transition that runs in the mode asked for; where none runs, or while HOLD waits for a generation of the settings, it changes nothing. THERMAL_TRIP on a working die notes the die; outside SAFE and outside the package reset it enters SAFE, settled, with CAUSE thermal; else MODE stays. UNDERVOLTAGE of supply 0 or 1 asserts the package reset, but for a settled SAFE in which no thermal trip runs. Completion: under these conditions exec answers a next state, for the constructors loadComplete, loadTimeout, modeTransitionComplete, thermalTrip, undervoltage. (R29, R32, R33, R34, R35, R36, R347.) -/
def Obligations.ModeEventsSettleTheMode : Prop :=
  (∀ (rep : LoadReport) (s : State), ∃ t : State, exec (.loadComplete rep) s = .next t.settleIsolated ∧ (s.loading = true → t.phase = if (s.bootLoad rep.flashOk rep.converts).1 = true ∧ rep.trained = true ∧ rep.ranksFail = [] ∧ rep.diesFail = [] then phDONE else phFAILED) ∧ (s.loading = false → t = s)) ∧
  (∀ (s : State), ∃ t : State, exec (.loadTimeout) s = .next t.settleIsolated ∧ (s.loading = true → t.phase = phFAILED ∧ t.mode = LOAD ∧ s.sys.asked + secs 60 ≤ t.now) ∧ (s.loading = false → t = s)) ∧
  (∀ (s : State), ∃ t : State, exec (.modeTransitionComplete) s = .next t.settleIsolated ∧ (s.phase = phRUNNING → s.loading = false → s.fld F.SY_MODE_TARGET 0 = HOLD → s.save.writing = none → t.mode = s.fld F.SY_MODE_TARGET 0 ∧ t.phase = phSETTLED) ∧ (s.phase ≠ phRUNNING ∨ s.loading = true ∨ (s.fld F.SY_MODE_TARGET 0 = HOLD ∧ s.save.writing ≠ none) → t = s)) ∧
  (∀ (d : Nat) (tj : Nat) (s : State), ∃ t : State, exec (.thermalTrip d tj) s = .next t.settleIsolated ∧ (d < s.dies → t.sys.tripped.contains d = true ∧ (if s.mode ≠ SAFE ∧ s.sys.held = false then t.mode = SAFE ∧ t.phase = phSETTLED ∧ t.fld F.SY_MODE_CAUSE 0 = causeTHERMAL else t.mode = s.mode ∧ t.phase = s.phase)) ∧ (s.dies ≤ d → t = s)) ∧
  (∀ (d : Nat) (mv : Nat) (s : State), ∃ t : State, exec (.undervoltage d mv) s = .next t.settleIsolated ∧ (d < 2 → t.mode = s.mode ∧ (if s.mode = SAFE ∧ s.sys.held = false ∧ s.tripRuns = false then t.sys.held = s.sys.held else t.sys.held = true ∧ t.sys.uvNext = true)) ∧ (2 ≤ d → t = s))

/-- Whatever the state, each answers a next state. POWER_ON starts the always-on clock at 0 in the epoch after the one saved, or in epoch 1 where no settings copy is good, the package held in reset and its cause power-on. PACKAGE_RESET ends in SAFE, settled, with the cause of the reset, nothing of the crosspoint, of the composition or of a stream in progress, every session closed and every FIFO of subscriptions with it. POWER_LOSS holds the package in reset and drops the last-gasp store unless its mirror held; that the clock, its counter and the sequence counter start again at 0 is the model's presumption (log 21). Completion: under these conditions exec answers a next state, for the constructors powerOn, packageReset, powerLoss. (R29, R251, R252, R276, R399, R406, R417, R464.) -/
def Obligations.PowerAndResetStartAfresh : Prop :=
  (∀ (temp : Int) (s : State), ∃ t : State, exec (.powerOn temp) s = .next t.settleIsolated ∧ t.clk.mono = 0 ∧ t.clk.count = 0 ∧ t.clk.epoch = (match s.newest with | some x => (x.2.epoch + 1) % 65536 | none => 1) ∧ t.sys.held = true ∧ t.sys.porNext = true) ∧
  (∀ (die0 : Bool) (die1 : Bool) (bad : List Nat) (s : State), ∃ t : State, exec (.packageReset die0 die1 bad) s = .next t.settleIsolated ∧ t.mode = SAFE ∧ t.phase = phSETTLED ∧ t.fld F.SY_MODE_CAUSE 0 = s.resetCause ∧ t.xp.work = [] ∧ t.xp.salvos = [] ∧ t.cm.runs = [] ∧ t.ap.streams = [] ∧ (t.host.sessions.all Option.isNone) = true) ∧
  (∀ (mirror : Bool) (s : State), ∃ t : State, exec (.powerLoss mirror) s = .next t.settleIsolated ∧ t.clk.mono = 0 ∧ t.clk.count = 0 ∧ t.clk.pseq = 0 ∧ t.sys.held = true ∧ t.sys.porNext = true ∧ t.ev.lastGasp = if mirror then s.ev.lastGasp else [])

/-- A host's write of LK_LANE, LK_TXEQ, LK_SPARE or LK_PRBS answers a next state whatever the state. One that passes the common checks does what follows. LK_LANE is stored, or answered ABSENT where a media mode is asked of a lane without media, MODE where LOOP is set outside SERVICE, BUSY where a mode changes on a lane that carries essence or a sleep would stop one. LK_TXEQ is stored. COVER in STANDBY or ACTIVE makes the spare mirror the lane named, and is BUSY where the spare or its lane is not free; RELEASE lets the lane go that the spare mirrors, and is BUSY where it mirrors none or another. A pattern is in force where a test may run, and answered MODE where not; the burst length is stored; GO with INJECT single or burst injects 1 bit error or BURSTLEN + 1; SLIP moves the word boundary by a bit, counted, and the checker, given no bits yet, is unlocked. Completion: under these conditions exec answers a next state, for the constructors lkLaneWrite, lkTxeqWrite, spareCover, spareRelease, prbsPatternWrite, prbsInject, prbsSlip. (R198, R208, R209, R212, R213, R214, R335.) -/
def Obligations.LaneWritesTakeEffect : Prop :=
  (∀ (rq : Req) (e : Nat) (v : W) (s : State), ∃ t : State, exec (.lkLaneWrite rq e v) s = .next t.settleIsolated ∧ (s.passes rq (putLane e v).1 = true → ¬(isDataLane e = true ∧ (F.LK_LANE_MODE.of v = 1 ∨ F.LK_LANE_MODE.of v = 2) ∧ s.caps.media = false) → F.LK_LANE_LOOP.of v ≠ 0 → s.mode = SERVICE → ¬(isDataLane e = true ∧ F.LK_LANE_MODE.of v ≠ F.LK_LANE_MODE.of (s.word 0x4010 e 0) ∧ s.laneCarries e = true) → F.LK_LANE_SLEEP.of v ≠ 0 → s.sleepBusy e = false → t.word 0x4010 e 0 = v ∧ t.replied ⟨0x4010, 0, e⟩ .ok) ∧ (s.passes rq (putLane e v).1 = true → isDataLane e = true ∧ (F.LK_LANE_MODE.of v = 1 ∨ F.LK_LANE_MODE.of v = 2) ∧ s.caps.media = false → t.word 0x4010 e 0 = s.word 0x4010 e 0 ∧ t.replied ⟨0x4010, 0, e⟩ .absent) ∧ (s.passes rq (putLane e v).1 = true → ¬(isDataLane e = true ∧ (F.LK_LANE_MODE.of v = 1 ∨ F.LK_LANE_MODE.of v = 2) ∧ s.caps.media = false) → F.LK_LANE_LOOP.of v ≠ 0 → s.mode ≠ SERVICE → t.word 0x4010 e 0 = s.word 0x4010 e 0 ∧ t.replied ⟨0x4010, 0, e⟩ .mode) ∧ (s.passes rq (putLane e v).1 = true → ¬(isDataLane e = true ∧ (F.LK_LANE_MODE.of v = 1 ∨ F.LK_LANE_MODE.of v = 2) ∧ s.caps.media = false) → F.LK_LANE_LOOP.of v ≠ 0 → s.mode = SERVICE → (isDataLane e = true ∧ F.LK_LANE_MODE.of v ≠ F.LK_LANE_MODE.of (s.word 0x4010 e 0) ∧ s.laneCarries e = true) ∨ (F.LK_LANE_SLEEP.of v ≠ 0 ∧ s.sleepBusy e = true) → t.word 0x4010 e 0 = s.word 0x4010 e 0 ∧ t.replied ⟨0x4010, 0, e⟩ .busy)) ∧
  (∀ (rq : Req) (e : Nat) (v : W) (s : State), ∃ t : State, exec (.lkTxeqWrite rq e v) s = .next t.settleIsolated ∧ (s.passes rq (putTxeq e v).1 = true → t.word 0x4018 e 0 = v ∧ t.replied ⟨0x4018, 0, e⟩ .ok)) ∧
  (∀ (rq : Req) (e : Nat) (v : W) (s : State), ∃ t : State, exec (.spareCover rq e v) s = .next t.settleIsolated ∧ (s.passes rq (putSpare e (withOp F.LK_SPARE_OP v 1)).1 = true → s.mode = STANDBY ∨ s.mode = ACTIVE → ¬(s.spare e = spMIRROR ∨ s.spare e = spRELEASING ∨ s.laneMode (shroudElem (spareLane e) (F.LK_SPARE_LANE.of (withOp F.LK_SPARE_OP v 1))) ≠ 0 ∨ s.laneSleep (spareLane e) ≠ 0 ∨ s.patternOn (spareLane e) = true ∨ s.domain (laneDomain (spareLane e)) ≠ dmON) → t.spare e = spMIRROR ∧ t.fld F.LK_SPARE_SLANE e = F.LK_SPARE_LANE.of (withOp F.LK_SPARE_OP v 1) ∧ t.replied ⟨0x4038, 0, e⟩ .ok) ∧ (s.passes rq (putSpare e (withOp F.LK_SPARE_OP v 1)).1 = true → s.mode = STANDBY ∨ s.mode = ACTIVE → s.spare e = spMIRROR ∨ s.spare e = spRELEASING ∨ s.laneMode (shroudElem (spareLane e) (F.LK_SPARE_LANE.of (withOp F.LK_SPARE_OP v 1))) ≠ 0 ∨ s.laneSleep (spareLane e) ≠ 0 ∨ s.patternOn (spareLane e) = true ∨ s.domain (laneDomain (spareLane e)) ≠ dmON → t.spare e = s.spare e ∧ t.replied ⟨0x4038, 0, e⟩ .busy) ∧ (s.passes rq (putSpare e (withOp F.LK_SPARE_OP v 1)).1 = true → s.mode ≠ STANDBY → s.mode ≠ ACTIVE → t.spare e = s.spare e ∧ t.replied ⟨0x4038, 0, e⟩ .mode)) ∧
  (∀ (rq : Req) (e : Nat) (v : W) (s : State), ∃ t : State, exec (.spareRelease rq e v) s = .next t.settleIsolated ∧ (s.passes rq (putSpare e (withOp F.LK_SPARE_OP v 2)).1 = true → s.mode = STANDBY ∨ s.mode = ACTIVE → s.spare e = spMIRROR → (s.spareRun e).map (·.pos) = some (F.LK_SPARE_LANE.of (withOp F.LK_SPARE_OP v 2)) → t.spare e = spRELEASING ∧ t.replied ⟨0x4038, 0, e⟩ .ok) ∧ (s.passes rq (putSpare e (withOp F.LK_SPARE_OP v 2)).1 = true → s.mode = STANDBY ∨ s.mode = ACTIVE → s.spare e ≠ spMIRROR ∨ (s.spareRun e).map (·.pos) ≠ some (F.LK_SPARE_LANE.of (withOp F.LK_SPARE_OP v 2)) → t.spare e = s.spare e ∧ t.replied ⟨0x4038, 0, e⟩ .busy) ∧ (s.passes rq (putSpare e (withOp F.LK_SPARE_OP v 2)).1 = true → s.mode ≠ STANDBY → s.mode ≠ ACTIVE → t.spare e = s.spare e ∧ t.replied ⟨0x4038, 0, e⟩ .mode)) ∧
  (∀ (rq : Req) (e : Nat) (w : Nat) (v : W) (s : State), ∃ t : State, exec (.prbsPatternWrite rq e w v) s = .next t.settleIsolated ∧ (s.passes rq (putPrbs e w (if w = 0 then F.LK_PRBS_GO.put (F.LK_PRBS_SLIP.put v 0) 0 else v) []).1 = true → w = 0 → F.LK_PRBS_PATTERN.of v = 0 ∨ s.mayTest e = true → t.fld F.LK_PRBS_PATTERN e = F.LK_PRBS_PATTERN.of v ∧ t.replied ⟨0x4030, 0, e⟩ .ok) ∧ (s.passes rq (putPrbs e w (if w = 0 then F.LK_PRBS_GO.put (F.LK_PRBS_SLIP.put v 0) 0 else v) []).1 = true → w = 0 → F.LK_PRBS_PATTERN.of v ≠ 0 → s.mayTest e = false → t.word 0x4030 e 0 = s.word 0x4030 e 0 ∧ t.replied ⟨0x4030, 0, e⟩ .mode) ∧ (s.passes rq (putPrbs e w (if w = 0 then F.LK_PRBS_GO.put (F.LK_PRBS_SLIP.put v 0) 0 else v) []).1 = true → w = 1 → t.word 0x4030 e 1 = v ∧ t.replied ⟨0x4030, 0, e⟩ .ok)) ∧
  (∀ (rq : Req) (e : Nat) (v : W) (s : State), ∃ t : State, exec (.prbsInject rq e v) s = .next t.settleIsolated ∧ (s.passes rq (putPrbs e 0 (F.LK_PRBS_GO.put v 1) []).1 = true → s.mayTest e = true → laneRx e = false → F.LK_PRBS_INJECT.of v = 1 ∨ F.LK_PRBS_INJECT.of v = 2 → F.LK_PRBS_PATTERN.of v = F.LK_PRBS_PATTERN.of (s.word 0x4030 e 0) → (t.laneRun e).injected = (s.laneRun e).injected + (if F.LK_PRBS_INJECT.of v = 1 then 1 else F.LK_PRBS_BURSTLEN.of v + 1) ∧ t.replied ⟨0x4030, 0, e⟩ .ok) ∧ (s.passes rq (putPrbs e 0 (F.LK_PRBS_GO.put v 1) []).1 = true → F.LK_PRBS_PATTERN.of v ≠ 0 → s.mayTest e = false → t.word 0x4030 e 0 = s.word 0x4030 e 0 ∧ (t.laneRun e).injected = (s.laneRun e).injected ∧ t.replied ⟨0x4030, 0, e⟩ .mode)) ∧
  (∀ (rq : Req) (e : Nat) (v : W) (bits : List Bool) (s : State), ∃ t : State, exec (.prbsSlip rq e v bits) s = .next t.settleIsolated ∧ (s.passes rq (putPrbs e 0 (F.LK_PRBS_SLIP.put v 1) bits).1 = true → s.mayTest e = true → laneRx e = true → F.LK_PRBS_PATTERN.of v = F.LK_PRBS_PATTERN.of (s.word 0x4030 e 0) → F.LK_PRBS_PINV.of v = F.LK_PRBS_PINV.of (s.word 0x4030 e 0) → (t.laneRun e).slips = (s.laneRun e).slips + 1 ∧ (bits = [] → t.fld F.LK_PRBS_PLOCK e = 0) ∧ t.replied ⟨0x4030, 0, e⟩ .ok) ∧ (s.passes rq (putPrbs e 0 (F.LK_PRBS_SLIP.put v 1) bits).1 = true → s.mayTest e = false → t.word 0x4030 e 0 = s.word 0x4030 e 0 ∧ (t.laneRun e).slips = (s.laneRun e).slips ∧ t.replied ⟨0x4030, 0, e⟩ .mode))

/-- Each of these events answers a next state whatever the state. A header block on a hunting Isarsal lane that passes (not of type 3) begins or adds to the count of its position, and at four in a row, each following the last, locks the lane there; one that does not ends the count. On a locked lane a block at its position that passes clears the count of failures; one that fails adds to it, and the fourth makes the lane hunt. Elsewhere a block changes nothing. A locked data or spare lane that loses its signal reads LOS and counts a loss, one that hunts or acquires reads LOS; signal that returns makes an Isarsal lane hunt and another acquire. The end of training changes nothing in a shroud that is not on; there it locks a stay that acquires, locks an SDI lane whose rate was found, and makes an Isarsal lane hunt that was not trained. TXEQ_STEP moves AMP one step towards what the lane is to have, on a lane that sends, and outside KR and SDI PRE and POST too. A stay that loses its signal reads LOS, one whose signal returns is LOCKED. Completion: under these conditions exec answers a next state, for the constructors rxHeaderBlock, laneSignalLoss, laneSignalReturn, laneTrainingDone, txeqStep, stayLos, stayReturn. (R49, R201, R203, R207, R209, R215.) -/
def Obligations.LaneEventsMoveTheLane : Prop :=
  (∀ (e : Nat) (pos : Nat) (sync : Nat) (payload : W) (arrival : Int) (c : Cand) (s : State), ∃ t : State, exec (.rxHeaderBlock e pos sync payload arrival) s = .next t.settleIsolated ∧ (laneRx e = true → s.isIsarsal e = true → s.lane e = laHUNT → sync = 2 ∧ hdrOk payload = true ∧ hdrType payload ≠ 3 → (s.laneRun e).cands.find? (fun x => x.pos == pos) = some c → c.count = 3 → sheetFollows c.sheet (hdrSheet payload) = true → t.lane e = laLOCKED ∧ (t.laneRun e).pos = pos ∧ (t.laneRun e).last = some payload) ∧ (laneRx e = true → s.isIsarsal e = true → s.lane e = laHUNT → sync = 2 ∧ hdrOk payload = true ∧ hdrType payload ≠ 3 → (s.laneRun e).cands.find? (fun x => x.pos == pos) = some c → (if sheetFollows c.sheet (hdrSheet payload) then c.count + 1 else 1) < 4 → t.lane e = laHUNT ∧ (t.laneRun e).cands.find? (fun x => x.pos == pos) = some ⟨pos, (if sheetFollows c.sheet (hdrSheet payload) then c.count + 1 else 1), hdrSheet payload⟩) ∧ (laneRx e = true → s.isIsarsal e = true → s.lane e = laHUNT → sync = 2 ∧ hdrOk payload = true ∧ hdrType payload ≠ 3 → (s.laneRun e).cands.find? (fun x => x.pos == pos) = none → (s.laneRun e).cands.length < 8 → t.lane e = laHUNT ∧ (t.laneRun e).cands.find? (fun x => x.pos == pos) = some ⟨pos, 1, hdrSheet payload⟩) ∧ (laneRx e = true → s.isIsarsal e = true → s.lane e = laHUNT → ¬(sync = 2 ∧ hdrOk payload = true ∧ hdrType payload ≠ 3) → t.lane e = laHUNT ∧ (t.laneRun e).cands.find? (fun x => x.pos == pos) = none) ∧ (laneRx e = true → s.isIsarsal e = true → s.lane e = laLOCKED ∨ s.lane e = laMISWIRED → pos = (s.laneRun e).pos → sync = 2 → hdrOk payload = true → (t.laneRun e).fails = 0 ∧ (t.laneRun e).last = some payload ∧ (t.lane e = laLOCKED ∨ t.lane e = laMISWIRED)) ∧ (laneRx e = true → s.isIsarsal e = true → s.lane e = laLOCKED ∨ s.lane e = laMISWIRED → pos = (s.laneRun e).pos → ¬(sync = 2 ∧ hdrOk payload = true) → if (s.laneRun e).fails < 3 then (t.laneRun e).fails = (s.laneRun e).fails + 1 ∧ t.lane e = s.lane e else t.lane e = laHUNT) ∧ (laneRx e = false ∨ s.isIsarsal e = false ∨ (s.lane e ≠ laHUNT ∧ (s.lane e ≠ laLOCKED ∧ s.lane e ≠ laMISWIRED ∨ pos ≠ (s.laneRun e).pos)) → t = s)) ∧
  (∀ (e : Nat) (s : State), ∃ t : State, exec (.laneSignalLoss e) s = .next t.settleIsolated ∧ (laneRx e = true → lanePos e ≠ 9 → s.lane e = laLOCKED ∨ s.lane e = laMISWIRED → t.lane e = laLOS ∧ t.fld F.LK_STAT_LOSSES e = satAdd (2 ^ F.LK_STAT_LOSSES.len - 1) (s.fld F.LK_STAT_LOSSES e) 1) ∧ (laneRx e = true → lanePos e ≠ 9 → s.lane e = laHUNT ∨ s.lane e = laACQUIRE → t.lane e = laLOS ∧ t.fld F.LK_STAT_LOSSES e = s.fld F.LK_STAT_LOSSES e) ∧ (laneRx e = false ∨ lanePos e = 9 ∨ ¬(s.lane e = laLOCKED ∨ s.lane e = laMISWIRED ∨ s.lane e = laHUNT ∨ s.lane e = laACQUIRE) → t = s)) ∧
  (∀ (e : Nat) (s : State), ∃ t : State, exec (.laneSignalReturn e) s = .next t.settleIsolated ∧ (laneRx e = true → lanePos e ≠ 9 → s.lane e = laLOS → t.lane e = (if s.isIsarsal e then laHUNT else laACQUIRE)) ∧ (laneRx e = false ∨ lanePos e = 9 ∨ s.lane e ≠ laLOS → t = s)) ∧
  (∀ (d : Nat) (shroud : Nat) (p : Nat) (lanes : List Trained) (x : Trained) (s : State), ∃ t : State, exec (.laneTrainingDone d shroud lanes) s = .next t.settleIsolated ∧ (s.domain (d * 32 + 8 + shroud) = dmON → s.lane (d * 160 + shroud * 10 + 9) = laACQUIRE → t.lane (d * 160 + shroud * 10 + 9) = laLOCKED) ∧ (s.domain (d * 32 + 8 + shroud) = dmON → p < 9 → s.lane (d * 160 + shroud * 10 + p) = laACQUIRE → s.isIsarsal (d * 160 + shroud * 10 + p) = true → (lanes.any fun y => y.pos == p) = false → t.lane (d * 160 + shroud * 10 + p) = laHUNT) ∧ (s.domain (d * 32 + 8 + shroud) = dmON → p < 9 → s.lane (d * 160 + shroud * 10 + p) = laACQUIRE → s.laneMode (d * 160 + shroud * 10 + p) = 3 → lanes.find? (fun y => y.pos == p) = some x → 1 ≤ x.rate → x.rate ≤ 8 → t.lane (d * 160 + shroud * 10 + p) = laLOCKED ∧ t.fld F.LK_STAT_SDIRATE (d * 160 + shroud * 10 + p) = x.rate) ∧ (s.domain (d * 32 + 8 + shroud) ≠ dmON → t = s)) ∧
  (∀ (e : Nat) (x : W) (s : State), ∃ t : State, exec (.txeqStep e) s = .next t.settleIsolated ∧ ((s.laneRun e).taps = some x → s.sending e = true → F.LK_TXEQ_AMP.of (t.taps e) = towards (F.LK_TXEQ_AMP.of x) (F.LK_TXEQ_AMP.of (s.word 0x4018 e 0)) ∧ (s.laneMode e ≠ 1 → s.laneMode e ≠ 3 → F.LK_TXEQ_PRE.of (t.taps e) = towards (F.LK_TXEQ_PRE.of x) (F.LK_TXEQ_PRE.of (s.word 0x4018 e 0)) ∧ F.LK_TXEQ_POST.of (t.taps e) = towards (F.LK_TXEQ_POST.of x) (F.LK_TXEQ_POST.of (s.word 0x4018 e 0)))) ∧ ((s.laneRun e).taps = none ∨ s.sending e = false → t = s)) ∧
  (∀ (e : Nat) (s : State), ∃ t : State, exec (.stayLos e) s = .next t.settleIsolated ∧ (laneRx e = true → lanePos e = 9 → s.lane e = laLOCKED → t.lane e = laLOS)) ∧
  (∀ (e : Nat) (s : State), ∃ t : State, exec (.stayReturn e) s = .next t.settleIsolated ∧ (laneRx e = true → lanePos e = 9 → s.lane e = laLOS → t.lane e = laLOCKED) ∧ (laneRx e = false ∨ lanePos e ≠ 9 ∨ s.lane e ≠ laLOS → t = s))

/-- Each of these events answers a next state whatever the state. In STANDBY and ACTIVE a live sheet of a locked Isarsal lane in service, whose header passes, with no sheet of its spare, counts its slots whose CRC-16 failed where the lane belongs to no pair. There too, at a word that a port's stream has for a header: a word other than 0 that fails the check counts HDR-CHECK and HUNT and the stream hunts; a frame of a known kind that fits its port ends a hunt, and its payload of its length leaves no word to skip; in the other modes frames change nothing. An overrun sheet and frames not sent for want of a lead are counted on their lane. A mesh group that fails is counted on its link of two dies of the member. A second ends at a whole second, and the next begins with no DATA-CRC counted. Completion: under these conditions exec answers a next state, for the constructors rxSheet, rxEssenceFrame, rxOverrun, txStarve, meshGroupFail, laneErrorSecond. (R16, R19, R31, R50, R58, R60, R216, R451.) -/
def Obligations.SheetsAndFramesAreCounted : Prop :=
  (∀ (d : Nat) (l : Nat) (c : SheetCopy) (s : State), ∃ t : State, exec (.rxSheet d l (some c) none) s = .next t.settleIsolated ∧ (s.enginesRun = true → s.laneMode (laneElem true d l) = 0 → s.isOut .lane d (laneElem true d l) = false → s.lane (laneElem true d l) = laLOCKED → s.spare (spareElem (shroudElem (laneElem true d l) 8)) ≠ spSELECTED → copyOk c = true → hdrType c.header = tyLIVE → s.lanePaired d l = false → t.fld F.ES_RX_COUNTS_DATA_CRC (d * 64 + l) = satAdd (2 ^ F.ES_RX_COUNTS_DATA_CRC.len - 1) (s.fld F.ES_RX_COUNTS_DATA_CRC (d * 64 + l)) (failedSlots c))) ∧
  (∀ (p : Nat) (header : W) (payload : List W) (s : State), ∃ t : State, exec (.rxEssenceFrame p header payload) s = .next t.settleIsolated ∧ (s.enginesRun = true → pValid (s.port s.rxTable p) = true → pLocal (s.port s.rxTable p) = false → (s.rxStream p).skip = 0 → frameFits (s.port s.rxTable p) header = true → payload.length = payloadWords header (s.port s.rxTable p) payload → (t.rxStream p).hunt = false ∧ (t.rxStream p).skip = 0) ∧ (s.enginesRun = true → pValid (s.port s.rxTable p) = true → pLocal (s.port s.rxTable p) = false → (s.rxStream p).skip = 0 → (s.rxStream p).hunt = false → header ≠ 0 → hdrOk header = false → payload = [] → t.fld F.ES_RX_COUNTS_HDR_CHECK ((pDie (s.port s.rxTable p) * 64 + pLane (s.port s.rxTable p))) = satAdd (2 ^ F.ES_RX_COUNTS_HDR_CHECK.len - 1) (s.fld F.ES_RX_COUNTS_HDR_CHECK ((pDie (s.port s.rxTable p) * 64 + pLane (s.port s.rxTable p)))) 1 ∧ t.fld F.ES_RX_COUNTS_HUNT ((pDie (s.port s.rxTable p) * 64 + pLane (s.port s.rxTable p))) = satAdd (2 ^ F.ES_RX_COUNTS_HUNT.len - 1) (s.fld F.ES_RX_COUNTS_HUNT ((pDie (s.port s.rxTable p) * 64 + pLane (s.port s.rxTable p)))) 1 ∧ (t.rxStream p).hunt = true) ∧ (s.enginesRun = false → t = s)) ∧
  (∀ (d : Nat) (lane : Nat) (s : State), ∃ t : State, exec (.rxOverrun d lane) s = .next t.settleIsolated ∧ t.fld F.LK_STAT_OVERRUN (laneElem true d lane) = satAdd (2 ^ F.LK_STAT_OVERRUN.len - 1) (s.fld F.LK_STAT_OVERRUN (laneElem true d lane)) 1) ∧
  (∀ (d : Nat) (lane : Nat) (n : Nat) (s : State), ∃ t : State, exec (.txStarve d lane n) s = .next t.settleIsolated ∧ t.fld F.LK_STAT_OVERRUN (laneElem false d lane) = satAdd (2 ^ F.LK_STAT_OVERRUN.len - 1) (s.fld F.LK_STAT_OVERRUN (laneElem false d lane)) n) ∧
  (∀ (d1 : Nat) (d2 : Nat) (s : State), ∃ t : State, exec (.meshGroupFail d1 d2) s = .next t.settleIsolated ∧ (d1 ≠ d2 → max d1 d2 < s.dies → (t.lk.mesh.find? fun x => x.1 == min d1 d2 && x.2.1 == max d1 d2).map (·.2.2) = some (((s.lk.mesh.find? fun x => x.1 == min d1 d2 && x.2.1 == max d1 d2).map (·.2.2)).getD 0 + 1)) ∧ (d1 = d2 ∨ s.dies ≤ max d1 d2 → t = s)) ∧
  (∀ (s : State), ∃ t : State, exec (.laneErrorSecond) s = .next t.settleIsolated ∧ t.lk.crcSec = [] ∧ s.clk.count < t.clk.count)

/-- Each of these events answers a next state whatever the state. SHEET_START brings the local sheet number to the sheet that comes. Sixteen silent sheets put a paired CORE into SEEKING with LINK and TWINCLAIM 0. A decision that stays unacknowledged is dropped, not before 12 us after it was sent, and ends LOCKSTEP in DIVERGED. Of the twin's decisions, an acknowledgement heard by the twin that decides ends the wait for it; a take decided as PENDING, heard by the one that does not, is PENDING in its words; a report to a paired CORE is kept; one that is not heard changes nothing. A request for a snapshot stands, at the twin that mirrors, or gives one, at the twin that decides; a snapshot asked for is installed, or ends in SEEKING where the bundles differ in a trial; from full stores on digests count from 0. Completion: under these conditions exec answers a next state, for the constructors sheetStart, twinSilentSheets, decisionAckTimeout, twinDecisionReceived, snapshotRequest, snapshotReceived, mirrorStoresFull. (R204, R283, R289, R291, R292, R303, R304.) -/
def Obligations.TwinLinkEventsMoveSync : Prop :=
  (∀ (x : SheetIn) (s : State), ∃ t : State, exec (.sheetStart x) s = .next t.settleIsolated ∧ t.lk.sheet = (if s.lk.sheet < s.sheetNow ∧ s.house = s.sheetInstant s.sheetNow then s.sheetNow else if s.lk.sheet = s.sheetNow + 1 then s.sheetNow + 2 else s.sheetNow + 1)) ∧
  (∀ (s : State), ∃ t : State, exec (.twinSilentSheets) s = .next t.settleIsolated ∧ (s.paired = true → t.sync = syncSEEKING ∧ t.fld F.TW_STATE_LINK 0 = 0 ∧ t.fld F.TW_STATE_TWINCLAIM 0 = 0) ∧ (s.paired = false → t = s)) ∧
  (∀ (n : Nat) (sent : Nat) (s : State), ∃ t : State, exec (.decisionAckTimeout n) s = .next t.settleIsolated ∧ (s.tw.unacked.find? (fun x => x.1 == n) = some (n, sent) → (∀ x ∈ t.tw.unacked, x.1 ≠ n) ∧ sent + us 12 ≤ t.now ∧ (s.sync = syncLOCKSTEP → t.sync = syncDIVERGED)) ∧ (s.tw.unacked.find? (fun x => x.1 == n) = none → t = s)) ∧
  (∀ (q : Nat) (n : Nat) (bus : Bool) (s : State), ∃ t : State, exec (.twinDecisionReceived ⟨q, bus, .ack n⟩) s = .next t.settleIsolated ∧ (s.hearsDecision ⟨q, bus, .ack n⟩ = true → s.decides = true → t.tw.unacked = s.tw.unacked.filter (fun x => x.1 != n)) ∧ (s.hearsDecision ⟨q, bus, .ack n⟩ = false ∨ s.decides = false → t = s)) ∧
  (∀ (q : Nat) (bus : Bool) (x : Work) (s : State), ∃ t : State, exec (.twinDecisionReceived ⟨q, bus, .work x⟩) s = .next t.settleIsolated ∧ (s.hearsDecision ⟨q, bus, .work x⟩ = true → s.decides = false → x.kind = .take → x.state = tsPENDING → t.fld F.XP_TAKE_STATUS x.elem = tsPENDING ∧ t.word 0x2010 x.elem 0 = x.w0 ∧ t.word 0x2010 x.elem 1 = x.w1) ∧ (s.hearsDecision ⟨q, bus, .work x⟩ = false ∨ s.decides = true → t = s)) ∧
  (∀ (q : Nat) (bus : Bool) (w0 : W) (w1 : W) (w2 : W) (w3 : W) (s : State), ∃ t : State, exec (.twinDecisionReceived ⟨q, bus, .report [w0, w1, w2, w3]⟩) s = .next t.settleIsolated ∧ (s.paired = true → t.word 0x5830 1 0 = w0 ∧ t.word 0x5830 1 1 = w1 ∧ t.word 0x5830 1 2 = w2 ∧ t.word 0x5830 1 3 = w3 ∧ t.tw.reportAt = some s.now) ∧ (s.paired = false → t = s)) ∧
  (∀ (mine : Bool) (s : State), ∃ t : State, exec (.snapshotRequest mine) s = .next t.settleIsolated ∧ (mine = true → s.sync = syncMIRRORING → s.decides = false → t.tw.asked = true) ∧ (mine = false → s.paired = true → s.decides = true → s.fld F.TW_STATE_LINK 0 = 1 → t.tw.gave = s.tw.gave + 1 ∧ t.tw.given = some s.snapshot) ∧ (if mine then ¬(s.sync = syncMIRRORING ∧ s.decides = false) else ¬(s.paired = true ∧ s.decides = true ∧ s.fld F.TW_STATE_LINK 0 = 1) → t = s)) ∧
  (∀ (x : Snapshot) (s : State), ∃ t : State, exec (.snapshotReceived x) s = .next t.settleIsolated ∧ ((s.tw.asked && s.sync == syncMIRRORING) = true → ({ s with tw := { s.tw with ident := some x.ident } }).otherBundle = false → t.tw.installed = true ∧ t.xp.dests = x.dests) ∧ ((s.tw.asked && s.sync == syncMIRRORING) = true → ({ s with tw := { s.tw with ident := some x.ident } }).otherBundle = true → t.sync = syncSEEKING ∧ t.tw.installed = s.tw.installed) ∧ ((s.tw.asked && s.sync == syncMIRRORING) = false → t = s)) ∧
  (∀ (s : State), ∃ t : State, exec (.mirrorStoresFull) s = .next t.settleIsolated ∧ (s.sync = syncMIRRORING ∧ (s.decides = true ∨ (s.tw.installed = true ∧ s.headsReady = true)) → t.tw.full = true ∧ t.tw.equal = 0 ∧ t.tw.differ = 0) ∧ (¬(s.sync = syncMIRRORING ∧ (s.decides = true ∨ (s.tw.installed = true ∧ s.headsReady = true))) → t = s))

/-- Each of these commands answers a next state whatever the state. A write of TW_PAIR that passes the common checks is stored on a CORE, and on an edge where it names no lane that another pair names and no port uses the pair; else it is answered TARGET or BUSY. At a pair's release SEL is the copy that R295 selects of the two that carry the same sheet, and a sheet with none is counted; a lane in no pair changes nothing. On a paired CORE HEALTH_REPORT writes MODE, SYNC and the self-test word count. A report missing is noted once, not before 300 ms have passed. Where the self-test of engines runs, a spare essence engine that fails its vectors is counted in the self-test errors and FAILED; where it does not, nothing changes. Completion: under these conditions exec answers a next state, for the constructors twPairWrite, pairSheetRelease, healthReport, twinReportTimeout, selftestEngine. (R293, R295, R298, R299, R302, R303, R364.) -/
def Obligations.PairsHealthAndSelfTest : Prop :=
  (∀ (rq : Req) (e : Nat) (v : W) (s : State), ∃ t : State, exec (.twPairWrite rq e v) s = .next t.settleIsolated ∧ (s.passes rq (putPair e v s).1 = true → ¬(s.sys.role ≠ CORE ∧ F.TW_PAIR_VALID.of v = 1 ∧ s.pairNames e (F.TW_PAIR_BDIE.of v, F.TW_PAIR_BLANE.of v) = true) → ¬(s.sys.role ≠ CORE ∧ s.pairInUse e = true) → t.word 0x5810 e 0 = v ∧ t.replied ⟨0x5810, 0, e⟩ .ok) ∧ (s.passes rq (putPair e v s).1 = true → s.sys.role ≠ CORE ∧ F.TW_PAIR_VALID.of v = 1 ∧ s.pairNames e (F.TW_PAIR_BDIE.of v, F.TW_PAIR_BLANE.of v) = true → t.word 0x5810 e 0 = s.word 0x5810 e 0 ∧ t.replied ⟨0x5810, 0, e⟩ .target) ∧ (s.passes rq (putPair e v s).1 = true → ¬(s.sys.role ≠ CORE ∧ F.TW_PAIR_VALID.of v = 1 ∧ s.pairNames e (F.TW_PAIR_BDIE.of v, F.TW_PAIR_BLANE.of v) = true) → s.sys.role ≠ CORE ∧ s.pairInUse e = true → t.word 0x5810 e 0 = s.word 0x5810 e 0 ∧ t.replied ⟨0x5810, 0, e⟩ .busy)) ∧
  (∀ (e : Nat) (n : Nat) (q : Nat × Nat) (a : Option PairCopy) (b : Option PairCopy) (l : List PairSlot) (s : State), ∃ t : State, exec (.pairSheetRelease e a b l) s = .next t.settleIsolated ∧ (s.pairOf true (e / 64) (e % 64) = some q → n = selectCopy (s.eligible (e / 64, e % 64) (s.pairCopies e a b).2.1) (s.eligible q (s.pairCopies e a b).2.2) (s.pairCopies e a b).2.1 (s.pairCopies e a b).2.2 → t.fld F.TW_PAIR_STAT_SEL e = n ∧ t.fld F.TW_PAIR_STAT_NONE e = (if n = 0 then satAdd (2 ^ F.TW_PAIR_STAT_NONE.len - 1) (s.fld F.TW_PAIR_STAT_NONE e) 1 else s.fld F.TW_PAIR_STAT_NONE e)) ∧ (s.pairOf true (e / 64) (e % 64) = none → t = s)) ∧
  (∀ (s : State), ∃ t : State, exec (.healthReport) s = .next t.settleIsolated ∧ (s.paired = true → t.fld F.TW_HEALTH_MODE 0 = s.mode ∧ t.fld F.TW_HEALTH_SYNC 0 = s.sync ∧ t.word 0x5830 0 2 = BitVec.ofNat 64 s.tw.stWords) ∧ (s.paired = false → t = s)) ∧
  (∀ (at_ : Nat) (s : State), ∃ t : State, exec (.twinReportTimeout) s = .next t.settleIsolated ∧ (s.tw.reportAt = some at_ → s.paired = true → s.tw.silentNoted = false → t.tw.silentNoted = true ∧ at_ + ms 300 ≤ t.now) ∧ (s.tw.reportAt = none ∨ s.paired = false ∨ s.tw.silentNoted = true → t = s)) ∧
  (∀ (l : List Nat) (e : Nat) (s : State), ∃ t : State, exec (.selftestEngine l) s = .next t.settleIsolated ∧ (s.selfTests = true ∧ s.fld F.TW_CONFIG_STENG 0 = 1 → l = [e] → e < s.dies * 24 → isEssence e = true → s.engine e = engSPARE → t.tw.stErr = satAdd 65535 s.tw.stErr 1 ∧ (s.sys.isolated = [] → t.engine e = engFAILED)) ∧ (¬(s.selfTests = true ∧ s.fld F.TW_CONFIG_STENG 0 = 1) → t = s))

/-- Each of these commands answers a next state whatever the state. MOVE, RETIRE, RESTORE and TEST that pass the common checks, in STANDBY or ACTIVE and in the state R363 asks for, make an active essence engine and the spare that takes over MOVING, a mix engine of three that is retired MOVING, a spare one that is retired FAILED and RETAINED, the others TESTING; in the wrong state, or while an update is handed over, they are answered BUSY, in another mode MODE, and no engine changes. A test that passes returns the engine to service, one that fails leaves it FAILED; ENGINE_FAIL marks a working essence engine FAILED and RETAINED. A CRC job that may start runs, else it is answered BUSY or with what bars it; ABORT ends a job that runs, else it is BUSY. The end of a job gives RESULT 5 where nothing is compared and 4 where a read failed, with the bytes done. Completion: under these conditions exec answers a next state, for the constructors engineMove, engineRetire, engineRestore, engineTest, engineTestDone, engineFail, crcStart, crcAbort, crcJobDone. (R360, R362, R363, R364, R366, R369, R370.) -/
def Obligations.EnginesAndCrcUnitsAnswer : Prop :=
  (∀ (rq : Req) (e : Nat) (v : W) (n : Nat) (s : State), ∃ t : State, exec (.engineMove rq e v) s = .next t.settleIsolated ∧ (s.passes rq (putEngCmd e (F.IC_ENG_CMD_COMMAND.put v 1)).1 = true → s.admits = true → s.handingOver = false → s.engine e = engACTIVE → s.spareEngine (engDie e) = some n → t.engine e = engMOVING ∧ t.engine n = engMOVING ∧ t.ic.moving = s.ic.moving ++ [(e, n, false)] ∧ t.replied ⟨0x6828, 0, e⟩ .ok) ∧ (s.passes rq (putEngCmd e (F.IC_ENG_CMD_COMMAND.put v 1)).1 = true → s.admits = true → s.handingOver = true ∨ s.engine e ≠ engACTIVE ∨ s.spareEngine (engDie e) = none → t.ic = s.ic ∧ t.engine e = s.engine e ∧ t.replied ⟨0x6828, 0, e⟩ .busy) ∧ (s.passes rq (putEngCmd e (F.IC_ENG_CMD_COMMAND.put v 1)).1 = true → s.admits = false → t.ic = s.ic ∧ t.engine e = s.engine e ∧ t.replied ⟨0x6828, 0, e⟩ .mode)) ∧
  (∀ (rq : Req) (e : Nat) (v : W) (n : Nat) (s : State), ∃ t : State, exec (.engineRetire rq e v) s = .next t.settleIsolated ∧ (s.passes rq (putEngCmd e (F.IC_ENG_CMD_COMMAND.put v 2)).1 = true → s.admits = true → s.handingOver = false → s.spareEngine (engDie e) = some n → isEssence e = true → s.engine e = engACTIVE ∨ s.engine e = engSPARE → if s.engine e = engACTIVE then t.engine e = engMOVING ∧ t.ic.moving = s.ic.moving ++ [(e, n, true)] else t.engine e = engFAILED ∧ t.fld F.IC_ENGINE_RETAINED e = 1 ∧ t.replied ⟨0x6828, 0, e⟩ .ok) ∧ (s.passes rq (putEngCmd e (F.IC_ENG_CMD_COMMAND.put v 2)).1 = true → s.admits = true → s.handingOver = true ∨ (isEssence e = true ∧ s.engine e ≠ engACTIVE ∧ s.engine e ≠ engSPARE) ∨ s.spareEngine (engDie e) = none → t.ic = s.ic ∧ t.engine e = s.engine e ∧ t.replied ⟨0x6828, 0, e⟩ .busy) ∧ (s.passes rq (putEngCmd e (F.IC_ENG_CMD_COMMAND.put v 2)).1 = true → s.admits = false → t.ic = s.ic ∧ t.engine e = s.engine e ∧ t.replied ⟨0x6828, 0, e⟩ .mode) ∧ (s.passes rq (putEngCmd e (F.IC_ENG_CMD_COMMAND.put v 2)).1 = true → s.admits = true → s.handingOver = false → s.spareEngine (engDie e) ≠ none → isMix e = true → s.engine e = engACTIVE → 3 ≤ (s.mixes (engDie e)).length → t.engine e = engMOVING ∧ t.ic.moving = s.ic.moving ++ [(e, e, true)] ∧ t.replied ⟨0x6828, 0, e⟩ .ok)) ∧
  (∀ (rq : Req) (e : Nat) (v : W) (s : State), ∃ t : State, exec (.engineRestore rq e v) s = .next t.settleIsolated ∧ (s.passes rq (putEngCmd e (F.IC_ENG_CMD_COMMAND.put v 3)).1 = true → s.admits = true → s.handingOver = false → s.engine e = engFAILED → t.engine e = engTESTING ∧ t.ic.restoring.contains e = true ∧ t.replied ⟨0x6828, 0, e⟩ .ok) ∧ (s.passes rq (putEngCmd e (F.IC_ENG_CMD_COMMAND.put v 3)).1 = true → s.admits = true → s.handingOver = true ∨ s.engine e ≠ engFAILED → t.ic = s.ic ∧ t.engine e = s.engine e ∧ t.replied ⟨0x6828, 0, e⟩ .busy) ∧ (s.passes rq (putEngCmd e (F.IC_ENG_CMD_COMMAND.put v 3)).1 = true → s.admits = false → t.ic = s.ic ∧ t.engine e = s.engine e ∧ t.replied ⟨0x6828, 0, e⟩ .mode)) ∧
  (∀ (rq : Req) (e : Nat) (v : W) (s : State), ∃ t : State, exec (.engineTest rq e v) s = .next t.settleIsolated ∧ (s.passes rq (putEngCmd e (F.IC_ENG_CMD_COMMAND.put v 4)).1 = true → s.admits = true → s.handingOver = false → s.engine e = engSPARE → t.engine e = engTESTING ∧ t.replied ⟨0x6828, 0, e⟩ .ok) ∧ (s.passes rq (putEngCmd e (F.IC_ENG_CMD_COMMAND.put v 4)).1 = true → s.admits = true → s.handingOver = true ∨ s.engine e ≠ engSPARE → t.ic = s.ic ∧ t.engine e = s.engine e ∧ t.replied ⟨0x6828, 0, e⟩ .busy) ∧ (s.passes rq (putEngCmd e (F.IC_ENG_CMD_COMMAND.put v 4)).1 = true → s.admits = false → t.ic = s.ic ∧ t.engine e = s.engine e ∧ t.replied ⟨0x6828, 0, e⟩ .mode)) ∧
  (∀ (e : Nat) (pass : Bool) (s : State), ∃ t : State, exec (.engineTestDone e pass) s = .next t.settleIsolated ∧ (s.engine e = engTESTING → pass = true → t.engine e = if s.ic.restoring.contains e && isMix e then engACTIVE else engSPARE) ∧ (s.engine e = engTESTING → pass = false → s.ic.restoring.contains e = true → t.engine e = engFAILED) ∧ (s.engine e ≠ engTESTING → t = s)) ∧
  (∀ (e : Nat) (c : Nat) (s : State), ∃ t : State, exec (.engineFail e c) s = .next t.settleIsolated ∧ (engDie e < s.dies → isEssence e = true → s.engine e ≠ engFAILED → s.sys.isolated.contains (engDie e) = false → (s.ic.place.any fun x => x.2.2 == e) = false → t.engine e = engFAILED ∧ t.fld F.IC_ENGINE_RETAINED e = 1 ∧ t.ic.place = s.ic.place) ∧ (s.dies ≤ engDie e ∨ s.engine e = engFAILED ∨ s.sys.isolated.contains (engDie e) = true → t = s)) ∧
  (∀ (rq : Req) (u : Nat) (ws : List W) (s : State), ∃ t : State, exec (.crcStart rq u ws) s = .next t.settleIsolated ∧ (s.passes rq (putCrc s rq u (s.crcWrites u ws)).1 = true → s.crcSource rq u (s.crcWrites u ws) = none → s.fld F.IC_CRC_STATE u ≠ crRUNNING → t.fld F.IC_CRC_STATE u = crRUNNING ∧ t.word 0x6830 u 8 = 0 ∧ t.replied ⟨0x6830, 0, u⟩ .ok) ∧ (s.passes rq (putCrc s rq u (s.crcWrites u ws)).1 = true → s.crcSource rq u (s.crcWrites u ws) = none → s.fld F.IC_CRC_STATE u = crRUNNING → t.fld F.IC_CRC_STATE u = crRUNNING ∧ t.replied ⟨0x6830, 0, u⟩ .busy) ∧ (s.passes rq (putCrc s rq u (s.crcWrites u ws)).1 = true → s.crcSource rq u (s.crcWrites u ws) ≠ none → t.fld F.IC_CRC_STATE u = s.fld F.IC_CRC_STATE u ∧ t.replied ⟨0x6830, 0, u⟩ ((s.crcSource rq u (s.crcWrites u ws)).getD .ok))) ∧
  (∀ (rq : Req) (u : Nat) (w0 : W) (s : State), ∃ t : State, exec (.crcAbort rq u w0) s = .next t.settleIsolated ∧ (s.passes rq (putCrc s rq u [(0, F.IC_CRC_OP.put w0 2)]).1 = true → s.fld F.IC_CRC_STATE u = crRUNNING → t.fld F.IC_CRC_STATE u = crABORTED ∧ t.replied ⟨0x6830, 0, u⟩ .ok) ∧ (s.passes rq (putCrc s rq u [(0, F.IC_CRC_OP.put w0 2)]).1 = true → s.fld F.IC_CRC_STATE u ≠ crRUNNING → t.fld F.IC_CRC_STATE u = s.fld F.IC_CRC_STATE u ∧ t.replied ⟨0x6830, 0, u⟩ .busy)) ∧
  (∀ (d : Nat) (k : Nat) (x : CrcEnd) (s : State), ∃ t : State, exec (.crcJobDone d k x) s = .next t.settleIsolated ∧ (d < s.dies → 4 ≤ k → k < 8 → s.fld F.IC_CRC_STATE (d * 4 + (k - 4)) = crRUNNING → t.fld F.IC_CRC_STATE (d * 4 + (k - 4)) = crDONE ∧ (if x.readErr.isSome then t.fld F.IC_CRC_RESULT (d * 4 + (k - 4)) = 4 else s.fld F.IC_CRC_CMP (d * 4 + (k - 4)) = 0 → t.fld F.IC_CRC_RESULT (d * 4 + (k - 4)) = 5) ∧ t.fld F.IC_CRC_DONEBYTES (d * 4 + (k - 4)) = (x.readErr.getD (s.crcInput (d * 4 + (k - 4)) x).length) % 2 ^ F.IC_CRC_DONEBYTES.len) ∧ (s.dies ≤ d ∨ 8 ≤ k ∨ (4 ≤ k ∧ s.fld F.IC_CRC_STATE (d * 4 + (k - 4)) ≠ crRUNNING) → t = s))

/-- Each of these events answers a next state whatever the state. An access that no target takes as it is is answered with a decode error, all ones to a read, and counted at the target it names; which target counts one that names none is left open (log 5). A burst cut short by an error is logged in the die's next entry, of eight in turn, after the accesses that were due before it. An access or burst of no master of a working die changes nothing. A monitor is gone once its 256 ns have passed, where no access waits for the crossbar. Completion: under these conditions exec answers a next state, for the constructors decodeError, burstAbort, exclMonitorExpire. (R351, R354, R355, R357, R358.) -/
def Obligations.CrossbarKeepsItsErrors : Prop :=
  (∀ (d : Nat) (m : Nat) (g : Nat) (x : Access) (s : State), ∃ t : State, exec (.decodeError d m x) s = .next t.settleIsolated ∧ (s.masterSilent m = false → d < s.dies → s.decodeFails d x = true → s.targetAt d x.addr = some g → t.ic.answer = some (1, if x.write then [] else List.replicate x.len 0xFF) ∧ t.fld F.IC_XBAR_STAT_ERRORS (d * 10 + g) = satAdd (2 ^ F.IC_XBAR_STAT_ERRORS.len - 1) (s.fld F.IC_XBAR_STAT_ERRORS (d * 10 + g)) 1) ∧ (s.masterSilent m = false → d < s.dies → s.decodeFails d x = true → s.targetAt d x.addr = none → t.ic.answer = some (1, if x.write then [] else List.replicate x.len 0xFF)) ∧ (s.masterSilent m = true ∨ s.dies ≤ d → t = s)) ∧
  (∀ (d : Nat) (b : Burst) (s : State), ∃ t : State, exec (.burstAbort d b) s = .next t.settleIsolated ∧ (s.masterSilent b.master = false → d < s.dies → b.target < 10 → d < ((s.runCrossbar.expireMonitors s.now).beatsDone d b).ic.abortNext.length → t.ic.abortNext = ((s.runCrossbar.expireMonitors s.now).beatsDone d b).ic.abortNext.set d ((((s.runCrossbar.expireMonitors s.now).beatsDone d b).ic.abortNext.getD d 0 + 1) % 8) ∧ t.fld F.IC_ABORT_LOG_ADDRESS (d * 8 + ((s.runCrossbar.expireMonitors s.now).beatsDone d b).ic.abortNext.getD d 0) = b.addr % 2 ^ F.IC_ABORT_LOG_ADDRESS.len) ∧ (s.masterSilent b.master = true ∨ s.dies ≤ d ∨ 10 ≤ b.target → t = s)) ∧
  (∀ (d : Nat) (m : Nat) (g : Nat) (x : Monitor) (s : State), ∃ t : State, exec (.exclMonitorExpire d m g) s = .next t.settleIsolated ∧ (s.ic.monitors.find? (fun y => y.die == d && y.master == m && y.target == g) = some x → x.set_ + 256 * nsUnits ≤ t.now ∧ (s.ic.pieces = [] → ∀ y ∈ t.ic.monitors, (y.die == d && y.master == m && y.target == g) = false)) ∧ (s.ic.monitors.find? (fun y => y.die == d && y.master == m && y.target == g) = none → t = s))

/-- Each of these commands answers a next state whatever the state. A port entry that passes the common checks goes into the shadow, the live table stands, and EDITING begins or goes on; while a rebuild runs or waits it is answered BUSY. COMMIT of what was edited starts the rebuild, is answered CAPACITY where the multicast groups are too many, and BUSY where nothing is edited; ABANDON returns the shadow to the live tables, and is BUSY where nothing is edited or a rebuild waits. The rebuild's end reads READY or FAILED; the publication of a rebuild that is READY makes the shadow live on every port at once, counts in PUBLISHED and ends IDLE; in another state each of these two changes nothing. Completion: under these conditions exec answers a next state, for the constructors portTableWrite, calCommit, calAbandon, rebuildDone, calendarPublish. (R54, R56, R57, R91.) -/
def Obligations.PortTablesAreRebuiltAndPublished : Prop :=
  (∀ (rq : Req) (dst : Bool) (p : Nat) (v : W) (s : State), ∃ t : State, exec (.portTableWrite rq dst p v) s = .next t.settleIsolated ∧ (s.passes rq (putPort s dst p v).1 = true → s.calState = calIDLE ∨ s.calState = calEDITING ∨ s.calState = calFAILED → t.portShadow dst p = v ∧ t.port dst p = s.port dst p ∧ t.calState = calEDITING ∧ t.replied ⟨portIx dst, 0, p⟩ .ok) ∧ (s.passes rq (putPort s dst p v).1 = true → s.calState = calREBUILDING ∨ s.calState = calREADY → t.portShadow dst p = s.portShadow dst p ∧ t.replied ⟨portIx dst, 0, p⟩ .busy)) ∧
  (∀ (rq : Req) (s : State), ∃ t : State, exec (.calCommit rq) s = .next t.settleIsolated ∧ (s.passes rq (putCal 1).1 = true → s.calState = calEDITING ∨ s.calState = calFAILED → s.groupsOver s.shadow = false → t.calState = calREBUILDING ∧ t.replied ⟨0x2848, 2, 0⟩ .ok) ∧ (s.passes rq (putCal 1).1 = true → s.calState ≠ calEDITING → s.calState ≠ calFAILED → t.calState = s.calState ∧ t.replied ⟨0x2848, 2, 0⟩ .busy)) ∧
  (∀ (rq : Req) (dst : Bool) (p : Nat) (s : State), ∃ t : State, exec (.calAbandon rq) s = .next t.settleIsolated ∧ (s.passes rq (putCal 2).1 = true → s.calState ≠ calIDLE → s.calState ≠ calREADY → tableWf dflt s.regs → t.calState = calIDLE ∧ t.portShadow dst p = s.port dst p ∧ t.replied ⟨0x2848, 2, 0⟩ .ok) ∧ (s.passes rq (putCal 2).1 = true → s.calState = calIDLE ∨ s.calState = calREADY → t.calState = s.calState ∧ t.replied ⟨0x2848, 2, 0⟩ .busy)) ∧
  (∀ (s : State), ∃ t : State, exec (.rebuildDone) s = .next t.settleIsolated ∧ (s.calState = calREBUILDING → t.calState = if (s.rebuild s.shadow).isOk then calREADY else calFAILED) ∧ (s.calState ≠ calREBUILDING → t = s)) ∧
  (∀ (dst : Bool) (p : Nat) (s : State), ∃ t : State, exec (.calendarPublish) s = .next t.settleIsolated ∧ (s.calState = calREADY → tableWf dflt s.shadow → t.calState = calIDLE ∧ t.port dst p = s.portShadow dst p ∧ t.fld F.ES_CAL_CTRL_PUBLISHED 0 = (s.fld F.ES_CAL_CTRL_PUBLISHED 0 + 1) % 65536) ∧ (s.calState ≠ calREADY → t = s))

/-- Each of these commands answers a next state whatever the state. A take committed, which passes the common checks, at the twin that decides: with audio left alone, no table of its ports in rebuild and no salvo armed, it is PENDING with its words stored, or EXPIRED where its time has passed; with SALVO it is STAGED and its salvo OPEN; where a check of R75 fails its STATUS and answer say which; outside STANDBY and ACTIVE its STATUS is MODE; while a take of its element is in progress it is BUSY and changes nothing of the crosspoint. CANCEL ends a single take that is held, or pending and in time, CANCELLED; it is LATE where the house time jumped, BUSY where there is none. A twin that does not decide sends commits and cancels on, or answers TWINLINK without a link. In LOCKSTEP a commit's answer waits for the other twin. At a destination's switch line, in STANDBY and ACTIVE, a take that is alone to land there makes its source live there and reads DONE, or LATE after F+0; a line without a format changes nothing. A single work held past its deadline ends REBUILD. Completion: under these conditions exec answers a next state, for the constructors takeCommit, takeCancel, switchLine, holdDeadline. (R68, R74, R75, R77, R80, R81, R83, R90.) -/
def Obligations.TakesAreAcceptedAndLand : Prop :=
  (∀ (rq : Req) (e : Nat) (w0 : W) (w1 : W) (w : W) (f : Format) (s : State), ∃ t : State, exec (.takeCommit rq e w0 w1) s = .next t.settleIsolated ∧ (s.passes rq (putTake s rq e w w1).1 = true → w = withOp F.XP_TAKE_OP w0 1 → s.decides = true → s.workOn .take e = none → s.admits = true → s.workNeeds .take e w = false → s.takeCheck (s.workNeeds .take e w) e w (F.XP_TAKE_FIELD.of w == 1 && F.XP_TAKE_SALVO.of w == 0) = none → F.XP_TAKE_SALVO.of w = 0 → F.XP_TAKE_AFOLLOW.of w = 1 → (s.xp.work.all fun y => y.salvo == 0) = true → format (s.workFormat false .take e w) = some f → f.judge (F.XP_TAKE_FIELD.of w == 1) ((takeWhen w w1).due f (F.XP_TAKE_FIELD.of w == 1) s.house) s.house ≠ .expired → t.fld F.XP_TAKE_STATUS e = tsPENDING ∧ t.word 0x2010 e 0 = w ∧ t.word 0x2010 e 1 = w1 ∧ (if s.sync = syncLOCKSTEP ∧ s.mirrors = true then t.host.resp = none else t.replied ⟨0x2010, 0, e⟩ .ok)) ∧ (w = withOp F.XP_TAKE_OP w0 1 → s.passes rq (putTake s rq e w w1).1 = true → s.decides = true → s.workOn .take e = none → s.admits = true → s.takeCheck (s.workNeeds .take e w) e w (F.XP_TAKE_FIELD.of w == 1 && F.XP_TAKE_SALVO.of w == 0) = none → F.XP_TAKE_SALVO.of w ≠ 0 → F.XP_TAKE_AFOLLOW.of w = 1 → s.salvoBars (F.XP_TAKE_SALVO.of w) rq.ctx.val = none → t.fld F.XP_TAKE_STATUS e = tsSTAGED ∧ t.salvoState (F.XP_TAKE_SALVO.of w) = saOPEN ∧ (if s.sync = syncLOCKSTEP ∧ s.mirrors = true then t.host.resp = none else t.replied ⟨0x2010, 0, e⟩ .ok)) ∧ (w = withOp F.XP_TAKE_OP w0 1 → s.passes rq (putTake s rq e w w1).1 = true → s.decides = true → s.workOn .take e = none → s.admits = true → s.workNeeds .take e w = false → s.takeCheck (s.workNeeds .take e w) e w (F.XP_TAKE_FIELD.of w == 1 && F.XP_TAKE_SALVO.of w == 0) = none → F.XP_TAKE_SALVO.of w = 0 → F.XP_TAKE_AFOLLOW.of w = 1 → format (s.workFormat false .take e w) = some f → f.judge (F.XP_TAKE_FIELD.of w == 1) ((takeWhen w w1).due f (F.XP_TAKE_FIELD.of w == 1) s.house) s.house = .expired → t.fld F.XP_TAKE_STATUS e = Status.expired.code ∧ (if s.sync = syncLOCKSTEP ∧ s.mirrors = true then t.host.resp = none else t.replied ⟨0x2010, 0, e⟩ .ok)) ∧ (w = withOp F.XP_TAKE_OP w0 1 → s.passes rq (putTake s rq e w w1).1 = true → s.decides = true → s.workOn .take e = none → s.admits = true → s.takeCheck (s.workNeeds .take e w) e w (F.XP_TAKE_FIELD.of w == 1 && F.XP_TAKE_SALVO.of w == 0) ≠ none → t.fld F.XP_TAKE_STATUS e = ((s.takeCheck (s.workNeeds .take e w) e w (F.XP_TAKE_FIELD.of w == 1 && F.XP_TAKE_SALVO.of w == 0)).getD .ok).code ∧ (if s.sync = syncLOCKSTEP ∧ s.mirrors = true then t.host.resp = none else t.replied ⟨0x2010, 0, e⟩ ((s.takeCheck (s.workNeeds .take e w) e w (F.XP_TAKE_FIELD.of w == 1 && F.XP_TAKE_SALVO.of w == 0)).getD .ok))) ∧ (w = withOp F.XP_TAKE_OP w0 1 → s.passes rq (putTake s rq e w w1).1 = true → s.decides = true → s.workOn .take e = none → s.admits = false → t.fld F.XP_TAKE_STATUS e = Status.mode.code) ∧ (w = withOp F.XP_TAKE_OP w0 1 → s.passes rq (putTake s rq e w w1).1 = true → s.decides = true → s.workOn .take e ≠ none → t.xp = s.xp ∧ t.replied ⟨0x2010, 0, e⟩ .busy) ∧ (w = withOp F.XP_TAKE_OP w0 1 → s.passes rq (putTake s rq e w w1).1 = true → s.decides = false → t.xp = s.xp ∧ (if s.fld F.TW_STATE_LINK 0 = 1 then t.host.resp = none else t.replied ⟨0x2010, 0, e⟩ .twinlink))) ∧
  (∀ (rq : Req) (e : Nat) (w0 : W) (x : Work) (f : Format) (s : State), ∃ t : State, exec (.takeCancel rq e w0) s = .next t.settleIsolated ∧ (s.passes rq (putTake s rq e (withOp F.XP_TAKE_OP w0 2) 0).1 = true → s.decides = true → s.workOn .take e = some x → x.salvo = 0 → x.state = tsHELD ∨ (x.state = tsPENDING ∧ x.jumped = false ∧ format x.fmt = some f ∧ f.inTime x.field x.land s.house = true) → t.fld F.XP_TAKE_STATUS e = tsCANCELLED ∧ t.workOn .take e = none ∧ t.replied ⟨0x2010, 0, e⟩ .ok) ∧ (s.passes rq (putTake s rq e (withOp F.XP_TAKE_OP w0 2) 0).1 = true → s.decides = true → s.workOn .take e = some x → x.salvo = 0 → x.state = tsPENDING → x.jumped = true → t.xp = s.xp ∧ t.replied ⟨0x2010, 0, e⟩ .late) ∧ (s.passes rq (putTake s rq e (withOp F.XP_TAKE_OP w0 2) 0).1 = true → s.decides = true → s.workOn .take e = none → t.xp = s.xp ∧ t.replied ⟨0x2010, 0, e⟩ .busy) ∧ (s.passes rq (putTake s rq e (withOp F.XP_TAKE_OP w0 2) 0).1 = true → s.decides = false → t.xp = s.xp ∧ (if s.fld F.TW_STATE_LINK 0 = 1 then t.host.resp = none else t.replied ⟨0x2010, 0, e⟩ .twinlink))) ∧
  (∀ (p : Nat) (f : Format) (x : Work) (s : State), ∃ t : State, exec (.switchLine p) s = .next t.settleIsolated ∧ (s.enginesRun = true → p < endpointLines → s.lineFormat p = some f → s.landing p (f.lineStart (s.swapLine p f)) = [x] → x.kind = .take → (t.dest p).live = x.srcFor p ∧ t.fld F.XP_TAKE_STATUS x.elem = landStatus x (landCount f (s.swapLine p f) x)) ∧ (s.enginesRun = true → p < endpointLines → s.lineFormat p = some f → s.landing p (f.lineStart (s.swapLine p f)) = [] → (t.dest p).live = (s.dest p).live ∧ (f.lineStart (s.swapLine p f)) ≤ t.house) ∧ (s.enginesRun = false ∨ s.lineFormat p = none → t = s)) ∧
  (∀ (e : Nat) (x : Work) (s : State), ∃ t : State, exec (.holdDeadline .take e) s = .next t.settleIsolated ∧ (s.decides = true → s.workOn .take e = some x → x.state = tsHELD → x.salvo = 0 → t.fld F.XP_TAKE_STATUS e = Status.rebuild.code ∧ t.workOn .take e = none ∧ x.deadline ≤ t.house) ∧ (s.decides = false ∨ s.workOn .take e = none ∨ (s.workOn .take e = some x ∧ ¬(x.state = tsHELD ∧ x.salvo = 0)) → t = s)) ∧
  (∀ (k : MemberKind) (e : Nat) (s : State), ∃ t : State, exec (.holdDeadline k e) s = .next t.settleIsolated ∧ (s.decides = false → t = s))

/-- Each of these commands answers a next state whatever the state. ARM by its owner, at the twin that decides, of an open salvo whose one member is a take that leaves audio alone, passes its recheck and is not expired, with no other work in progress, arms it and makes the take PENDING; where COUNT is not what is staged it ends FAILED with RESULT COUNT. DISCARD by its owner of an open or held salvo, or 60 s without staging, ends it FAILED with RESULT CANCELLED. Another context's ARM or DISCARD is answered OWNER, one of a salvo in no state for it BUSY, and the salvo stays. A twin that does not decide sends both on, or answers TWINLINK without a link; in LOCKSTEP the answer to ARM waits for the other twin. The time-out of a salvo that is not open changes nothing. Completion: under these conditions exec answers a next state, for the constructors salvoArm, salvoDiscard, salvoTimeout. (R83, R84, R85, R87.) -/
def Obligations.SalvosAreArmedAndEnded : Prop :=
  (∀ (rq : Req) (n : Nat) (w0 : W) (w1 : W) (w : W) (x : Work) (f : Format) (s : State), ∃ t : State, exec (.salvoArm rq n w0 w1) s = .next t.settleIsolated ∧ (s.passes rq (putSalvo s rq n w w1).1 = true → w = withOp F.XP_SALVO_OP w0 1 → s.decides = true → s.salvoState n = saOPEN → s.fld F.XP_SALVO_OWNER n = rq.ctx.val → s.fld F.XP_SALVO_STAGED n = F.XP_SALVO_COUNT.of w → F.XP_SALVO_FIELD.of w = 0 → s.members n = [x] → (s.xp.work.all fun y => y.salvo == n) = true → n ≠ 0 → x.kind = .take → x.afollow = true → s.calState = calIDLE → s.recheck false x = none → format (s.workFormat false .take x.elem x.w0) = some f → f.judge false ((salvoWhen w w1).due f false s.house) s.house ≠ .expired → t.salvoState n = saARMED ∧ t.fld F.XP_TAKE_STATUS x.elem = tsPENDING ∧ (if s.sync = syncLOCKSTEP ∧ s.mirrors = true then t.host.resp = none else t.replied ⟨0x2020, 0, n⟩ .ok)) ∧ (w = withOp F.XP_SALVO_OP w0 1 → s.passes rq (putSalvo s rq n w w1).1 = true → s.decides = true → s.salvoState n = saOPEN → s.fld F.XP_SALVO_OWNER n = rq.ctx.val → s.fld F.XP_SALVO_STAGED n ≠ F.XP_SALVO_COUNT.of w → t.salvoState n = saFAILED ∧ t.fld F.XP_SALVO_RESULT n = Status.count.code ∧ (if s.sync = syncLOCKSTEP ∧ s.mirrors = true then t.host.resp = none else t.replied ⟨0x2020, 0, n⟩ .ok)) ∧ (w = withOp F.XP_SALVO_OP w0 1 → s.passes rq (putSalvo s rq n w w1).1 = true → s.decides = true → ¬(s.salvoState n = saIDLE ∨ s.fld F.XP_SALVO_OWNER n = rq.ctx.val) → t.salvoState n = s.salvoState n ∧ t.replied ⟨0x2020, 0, n⟩ .owner) ∧ (w = withOp F.XP_SALVO_OP w0 1 → s.passes rq (putSalvo s rq n w w1).1 = true → s.decides = true → (s.salvoState n = saIDLE ∨ s.fld F.XP_SALVO_OWNER n = rq.ctx.val) → s.salvoState n ≠ saOPEN → t.salvoState n = s.salvoState n ∧ t.replied ⟨0x2020, 0, n⟩ .busy) ∧ (w = withOp F.XP_SALVO_OP w0 1 → s.passes rq (putSalvo s rq n w w1).1 = true → s.decides = false → t.xp = s.xp ∧ (if s.fld F.TW_STATE_LINK 0 = 1 then t.host.resp = none else t.replied ⟨0x2020, 0, n⟩ .twinlink))) ∧
  (∀ (rq : Req) (n : Nat) (w0 : W) (s : State), ∃ t : State, exec (.salvoDiscard rq n w0) s = .next t.settleIsolated ∧ (s.passes rq (putSalvo s rq n (withOp F.XP_SALVO_OP w0 2) 0).1 = true → s.decides = true → s.salvoState n = saOPEN ∨ s.salvoState n = saHELD → s.fld F.XP_SALVO_OWNER n = rq.ctx.val → t.salvoState n = saFAILED ∧ t.fld F.XP_SALVO_RESULT n = tsCANCELLED ∧ t.replied ⟨0x2020, 0, n⟩ .ok) ∧ (s.passes rq (putSalvo s rq n (withOp F.XP_SALVO_OP w0 2) 0).1 = true → s.decides = true → ¬(s.salvoState n = saIDLE ∨ s.fld F.XP_SALVO_OWNER n = rq.ctx.val) → t.salvoState n = s.salvoState n ∧ t.replied ⟨0x2020, 0, n⟩ .owner) ∧ (s.passes rq (putSalvo s rq n (withOp F.XP_SALVO_OP w0 2) 0).1 = true → s.decides = true → (s.salvoState n = saIDLE ∨ s.fld F.XP_SALVO_OWNER n = rq.ctx.val) → s.salvoState n ≠ saOPEN → s.salvoState n ≠ saARMED → s.salvoState n ≠ saHELD → t.salvoState n = s.salvoState n ∧ t.replied ⟨0x2020, 0, n⟩ .busy) ∧ (s.passes rq (putSalvo s rq n (withOp F.XP_SALVO_OP w0 2) 0).1 = true → s.decides = false → t.xp = s.xp ∧ (if s.fld F.TW_STATE_LINK 0 = 1 then t.host.resp = none else t.replied ⟨0x2020, 0, n⟩ .twinlink))) ∧
  (∀ (n : Nat) (s : State), ∃ t : State, exec (.salvoTimeout n) s = .next t.settleIsolated ∧ (s.salvoState n = saOPEN → s.decides = true → t.salvoState n = saFAILED ∧ t.fld F.XP_SALVO_RESULT n = tsCANCELLED ∧ (s.salvo n).last + secs 60 ≤ t.now) ∧ (s.salvoState n ≠ saOPEN ∨ s.decides = false → t = s))

/-- Each of these commands answers a next state whatever the state; the events change nothing where no engine runs. A write of ES_ALIGN that passes the common checks is stored, or answered ABSENT, BUSY or CAPACITY where R107 bars it. A picture of a SYNC source whose entry stands is counted and its OFFSET read; inside the window a source that was not OUTSIDE is ALIGNED, outside it is OUTSIDE. A picture of another format makes a source FORMAT, a source without frames is LOST. A frame store in step with a free buffer writes the next picture; one it has written is the last unread one, with its missing lines, unless more than 16 are missing and this twin decides; at a read instant while ALIGNED the twin that runs its own stores gives the oldest unread one where no ring is held, and keeps the one it gives where there is none; a slip of audio is counted. After LOSSHOLD repeats a lost source without FREEZE is black. Completion: under these conditions exec answers a next state, for the constructors esAlignWrite, sourcePicture, sourceLost, fsyncPictureStart, fsyncPictureEnd, fsyncReadInstant, fsyncAudioSlip, lossholdExpire. (R31, R97, R100, R101, R103, R105, R107.) -/
def Obligations.SourcesAlignAndStoresTurn : Prop :=
  (∀ (rq : Req) (p : Nat) (v : W) (s : State), ∃ t : State, exec (.esAlignWrite rq p v) s = .next t.settleIsolated ∧ (s.passes rq (putAlign p v).1 = true → ¬(alFSYNC v = true ∧ s.caps.fsync = false) → ¬((F.ES_ALIGN_MODE.of v ≠ F.ES_ALIGN_MODE.of (s.align p) ∨ F.ES_ALIGN_DEPTH.of v ≠ F.ES_ALIGN_DEPTH.of (s.align p) ∨ F.ES_ALIGN_AUDIO.of v ≠ F.ES_ALIGN_AUDIO.of (s.align p)) ∧ s.sourceInUse p = true) → s.alignShort p v = false → t.word 0x2860 p 0 = v ∧ t.replied ⟨0x2860, 0, p⟩ .ok) ∧ (s.passes rq (putAlign p v).1 = true → (alFSYNC v = true ∧ s.caps.fsync = false) → t.word 0x2860 p 0 = s.word 0x2860 p 0 ∧ t.replied ⟨0x2860, 0, p⟩ .absent) ∧ (s.passes rq (putAlign p v).1 = true → ¬(alFSYNC v = true ∧ s.caps.fsync = false) → (F.ES_ALIGN_MODE.of v ≠ F.ES_ALIGN_MODE.of (s.align p) ∨ F.ES_ALIGN_DEPTH.of v ≠ F.ES_ALIGN_DEPTH.of (s.align p) ∨ F.ES_ALIGN_AUDIO.of v ≠ F.ES_ALIGN_AUDIO.of (s.align p)) ∧ s.sourceInUse p = true → t.word 0x2860 p 0 = s.word 0x2860 p 0 ∧ t.replied ⟨0x2860, 0, p⟩ .busy)) ∧
  (∀ (p : Nat) (capture : Nat) (missing : Nat) (alien : Option Nat) (s : State), ∃ t : State, exec (.sourcePicture p capture missing alien) s = .next t.settleIsolated ∧ (s.enginesRun = true → pValid (s.port false p) = true → s.isOut .port (s.srcDie p) p = false → alien.isNone = true → (s.src p).entry = s.align p → alFSYNC (s.align p) = false → s.inWindow (s.align p) (pFormat (s.port false p)) (s.pictureOffset p capture) = true → s.alState p ≠ alOUTSIDE → t.alState p = alALIGNED ∧ t.fld F.ES_ALIGN_STAT_OFFSET p = sat24 (s.pictureOffset p capture) ∧ t.fld F.ES_ALIGN_STAT_PICTURES p = (s.fld F.ES_ALIGN_STAT_PICTURES p + 1) % 65536) ∧ (s.enginesRun = true → pValid (s.port false p) = true → s.isOut .port (s.srcDie p) p = false → alien.isNone = true → (s.src p).entry = s.align p → alFSYNC (s.align p) = false → s.inWindow (s.align p) (pFormat (s.port false p)) (s.pictureOffset p capture) = false → t.alState p = alOUTSIDE ∧ t.fld F.ES_ALIGN_STAT_OFFSET p = sat24 (s.pictureOffset p capture) ∧ t.fld F.ES_ALIGN_STAT_PICTURES p = (s.fld F.ES_ALIGN_STAT_PICTURES p + 1) % 65536) ∧ (s.enginesRun = true → pValid (s.port false p) = true → s.isOut .port (s.srcDie p) p = false → alien.isSome = true → t.alState p = alFORMAT) ∧ (s.enginesRun = false ∨ pValid (s.port false p) = false → t = s)) ∧
  (∀ (p : Nat) (s : State), ∃ t : State, exec (.sourceLost p) s = .next t.settleIsolated ∧ (s.enginesRun = true → pValid (s.port false p) = true → t.alState p = alLOST) ∧ (s.enginesRun = false ∨ pValid (s.port false p) = false → t = s)) ∧
  (∀ (p : Nat) (count : Nat) (capture : Nat) (c : Nat × Nat) (s : State), ∃ t : State, exec (.fsyncPictureStart p count capture) s = .next t.settleIsolated ∧ (s.enginesRun = true → c = (s.frameCapture p).getD (count, capture * nsUnits) → s.storeRuns p = true → (s.src p).entry = s.align p → s.alState p = alALIGNED ∨ s.alState p = alFILLING → s.itemLost 0 p = false → (s.src p).unread.length + flag (s.src p).reading.isSome < (s.src p).depth → (t.src p).writing = some ⟨c.1, c.2 / nsUnits, []⟩ ∧ (t.src p).unread = (s.src p).unread) ∧ (s.enginesRun = false → t = s)) ∧
  (∀ (p : Nat) (missing : List Nat) (pic : Pic) (s : State), ∃ t : State, exec (.fsyncPictureEnd p missing) s = .next t.settleIsolated ∧ (s.enginesRun = true → s.storeRuns p = true → (s.src p).writing = some pic → missing.length ≤ 16 ∨ s.ownStores = false → (t.src p).unread = (s.src p).unread ++ [{ pic with conc := missing }] ∧ (t.src p).writing = none) ∧ (s.enginesRun = true → s.storeRuns p = true → (s.src p).writing = some pic → 16 < missing.length → s.ownStores = true → (t.src p).unread = (s.src p).unread ∧ (t.src p).writing = none) ∧ (s.enginesRun = false ∨ s.storeRuns p = false → t = s)) ∧
  (∀ (p : Nat) (f : Format) (pic : Pic) (rest : List Pic) (s : State), ∃ t : State, exec (.fsyncReadInstant p) s = .next t.settleIsolated ∧ (s.enginesRun = true → s.storeRuns p = true → format (pFormat (s.port false p)) = some f → s.ownStores = true → s.alState p = alALIGNED → s.itemHeld 0 p = false → (s.src p).unread = pic :: rest → (t.src p).reading = some pic ∧ (t.src p).unread = rest) ∧ (s.enginesRun = true → s.storeRuns p = true → format (pFormat (s.port false p)) = some f → s.ownStores = true → s.alState p = alALIGNED → (s.src p).unread = [] ∨ s.itemHeld 0 p = true → (t.src p).reading = (s.src p).reading ∧ (t.src p).unread = (s.src p).unread) ∧ (s.enginesRun = false ∨ s.storeRuns p = false → t = s)) ∧
  (∀ (p : Nat) (again : Bool) (s : State), ∃ t : State, exec (.fsyncAudioSlip p again) s = .next t.settleIsolated ∧ (s.enginesRun = true → s.ownStores = true → s.storeRuns p = true → s.alState p = alALIGNED → alASRC (s.src p).entry = false → t.fld F.ES_ALIGN_STAT_SLIPS p = satAdd (2 ^ F.ES_ALIGN_STAT_SLIPS.len - 1) (s.fld F.ES_ALIGN_STAT_SLIPS p) 1) ∧ (s.enginesRun = false ∨ s.ownStores = false → t = s)) ∧
  (∀ (p : Nat) (s : State), ∃ t : State, exec (.lossholdExpire p) s = .next t.settleIsolated ∧ (s.enginesRun = true → s.storeRuns p = true ∧ (s.alState p = alLOST ∨ s.alState p = alFORMAT) ∧ F.ES_ALIGN_FREEZE.of (s.src p).entry = 0 ∧ F.ES_ALIGN_LOSSHOLD.of (s.src p).entry ≤ (s.src p).lossRep → (t.src p).black = true) ∧ (s.enginesRun = false ∨ ¬(s.storeRuns p = true ∧ (s.alState p = alLOST ∨ s.alState p = alFORMAT) ∧ F.ES_ALIGN_FREEZE.of (s.src p).entry = 0 ∧ F.ES_ALIGN_LOSSHOLD.of (s.src p).entry ≤ (s.src p).lossRep) → t = s))

/-- Each of these commands answers a next state whatever the state. A write of AU_SRC that passes the common checks is stored with NPCM kept only for the same endpoint, or answered ABSENT. At the twin that decides, one of AU_DST's target word is stored, or answered BUSY, ABSENT, PORT or TARGET where R120 bars it, and one of a gain entry is stored. An audio change that passes R126, with no table of its ports in rebuild and no salvo armed, is PENDING; where a check fails its STATUS says which; one in progress makes the next BUSY. CANCEL of a single change that is held, or pending and in time, ends it CANCELLED; without one it is BUSY. A twin that does not decide sends changes, cancels and gains on, or answers TWINLINK; in LOCKSTEP a change's answer waits for the other twin. In STANDBY and ACTIVE a transition that finds no zero crossing in time crossfades, or cuts in where it waits for its second; without one nothing changes. Completion: under these conditions exec answers a next state, for the constructors auSrcWrite, auDstTargetWrite, audioChangeCommit, audioChangeCancel, auGainWrite, audioTransitionTimeout. (R31, R118, R120, R123, R126, R127, R130, R134.) -/
def Obligations.TheAudioCrosspointTakesItsWrites : Prop :=
  (∀ (rq : Req) (e : Nat) (v : W) (s : State), ∃ t : State, exec (.auSrcWrite rq e v) s = .next t.settleIsolated ∧ (s.passes rq (putAuSrc s e v).1 = true → s.endpointAbsent (F.AU_SRC_ENDPOINT.of v) = false → t.word 0x3010 e 0 = F.AU_SRC_NPCM.put v (if F.AU_SRC_VALID.of v = 1 ∧ F.AU_SRC_ENDPOINT.of v = s.fld F.AU_SRC_ENDPOINT e then s.fld F.AU_SRC_NPCM e else 0) ∧ t.replied ⟨0x3010, 0, e⟩ .ok) ∧ (s.passes rq (putAuSrc s e v).1 = true → s.endpointAbsent (F.AU_SRC_ENDPOINT.of v) = true → t.word 0x3010 e 0 = s.word 0x3010 e 0 ∧ t.replied ⟨0x3010, 0, e⟩ .absent)) ∧
  (∀ (rq : Req) (e : Nat) (v : W) (s : State), ∃ t : State, exec (.auDstTargetWrite rq e v) s = .next t.settleIsolated ∧ (s.passes rq (putAuDst1 s rq e v).1 = true → ¬(s.auAuto e = true ∨ ((auTType v, auTPort v, auTIndex v) ≠ (auTType (s.auTarget e), auTPort (s.auTarget e), auTIndex (s.auTarget e)) ∧ (s.fld F.AU_DST_LIVE e ≠ 0 ∨ (s.workOn .audio e).isSome = true))) → ¬((auTType v = tENDPOINT ∧ s.endpointAbsent (auTIndex v) = true) ∨ (64 < F.AU_DST_DELAY.of v ∧ s.caps.fsync = false)) → ¬(auTType v = tEMB ∧ channelsOf (s.port true (auTPort v)) ≤ auTIndex v) → (auTType v != 0 && s.auWords.any (fun x => x.1 != e && !s.auAuto x.1 && auTType x.2 == auTType v && auTIndex x.2 == auTIndex v && (if auTType v = tEMB then auTPort x.2 == auTPort v else x.1 / 8192 == e / 8192))) = false → s.decides = true → t.auTarget e = v ∧ t.replied ⟨0x3020, 0, e⟩ .ok) ∧ (s.passes rq (putAuDst1 s rq e v).1 = true → (s.auAuto e = true ∨ ((auTType v, auTPort v, auTIndex v) ≠ (auTType (s.auTarget e), auTPort (s.auTarget e), auTIndex (s.auTarget e)) ∧ (s.fld F.AU_DST_LIVE e ≠ 0 ∨ (s.workOn .audio e).isSome = true))) → t.auTarget e = s.auTarget e ∧ t.replied ⟨0x3020, 0, e⟩ .busy) ∧ (s.passes rq (putAuDst1 s rq e v).1 = true → ¬(s.auAuto e = true ∨ ((auTType v, auTPort v, auTIndex v) ≠ (auTType (s.auTarget e), auTPort (s.auTarget e), auTIndex (s.auTarget e)) ∧ (s.fld F.AU_DST_LIVE e ≠ 0 ∨ (s.workOn .audio e).isSome = true))) → ((auTType v = tENDPOINT ∧ s.endpointAbsent (auTIndex v) = true) ∨ (64 < F.AU_DST_DELAY.of v ∧ s.caps.fsync = false)) → t.auTarget e = s.auTarget e ∧ t.replied ⟨0x3020, 0, e⟩ .absent) ∧ (s.passes rq (putAuDst1 s rq e v).1 = true → ¬(s.auAuto e = true ∨ ((auTType v, auTPort v, auTIndex v) ≠ (auTType (s.auTarget e), auTPort (s.auTarget e), auTIndex (s.auTarget e)) ∧ (s.fld F.AU_DST_LIVE e ≠ 0 ∨ (s.workOn .audio e).isSome = true))) → ¬((auTType v = tENDPOINT ∧ s.endpointAbsent (auTIndex v) = true) ∨ (64 < F.AU_DST_DELAY.of v ∧ s.caps.fsync = false)) → (auTType v = tEMB ∧ channelsOf (s.port true (auTPort v)) ≤ auTIndex v) → t.auTarget e = s.auTarget e ∧ t.replied ⟨0x3020, 0, e⟩ .port) ∧ (s.passes rq (putAuDst1 s rq e v).1 = true → ¬(s.auAuto e = true ∨ ((auTType v, auTPort v, auTIndex v) ≠ (auTType (s.auTarget e), auTPort (s.auTarget e), auTIndex (s.auTarget e)) ∧ (s.fld F.AU_DST_LIVE e ≠ 0 ∨ (s.workOn .audio e).isSome = true))) → ¬((auTType v = tENDPOINT ∧ s.endpointAbsent (auTIndex v) = true) ∨ (64 < F.AU_DST_DELAY.of v ∧ s.caps.fsync = false)) → ¬(auTType v = tEMB ∧ channelsOf (s.port true (auTPort v)) ≤ auTIndex v) → (auTType v != 0 && s.auWords.any (fun x => x.1 != e && !s.auAuto x.1 && auTType x.2 == auTType v && auTIndex x.2 == auTIndex v && (if auTType v = tEMB then auTPort x.2 == auTPort v else x.1 / 8192 == e / 8192))) = true → t.auTarget e = s.auTarget e ∧ t.replied ⟨0x3020, 0, e⟩ .target)) ∧
  (∀ (rq : Req) (e : Nat) (w0 : W) (w : W) (f : Format) (s : State), ∃ t : State, exec (.audioChangeCommit rq e w0) s = .next t.settleIsolated ∧ (s.passes rq (putAuDst0 s rq e w).1 = true → w = withOp F.AU_DST_OP w0 1 → s.decides = true → s.auAuto e = false → s.workOn .audio e = none → s.admits = true → s.workNeeds .audio e w = false → s.audioCheck (s.workNeeds .audio e w) e w = none → F.AU_DST_SALVO.of w = 0 → (s.xp.work.all fun y => y.salvo == 0) = true → format (s.workFormat false .audio e w) = some f → f.judge false (whenNEXT.due f false s.house) s.house ≠ .expired → t.fld F.AU_DST_STATUS e = tsPENDING ∧ (if s.sync = syncLOCKSTEP ∧ s.mirrors = true then t.host.resp = none else t.replied ⟨0x3020, 0, e⟩ .ok)) ∧ (w = withOp F.AU_DST_OP w0 1 → s.passes rq (putAuDst0 s rq e w).1 = true → s.decides = true → s.auAuto e = false → s.workOn .audio e = none → s.admits = true → s.audioCheck (s.workNeeds .audio e w) e w ≠ none → t.fld F.AU_DST_STATUS e = ((s.audioCheck (s.workNeeds .audio e w) e w).getD .ok).code) ∧ (w = withOp F.AU_DST_OP w0 1 → s.passes rq (putAuDst0 s rq e w).1 = true → s.decides = true → s.auAuto e = true ∨ s.workOn .audio e ≠ none → t.xp = s.xp ∧ t.replied ⟨0x3020, 0, e⟩ .busy) ∧ (w = withOp F.AU_DST_OP w0 1 → s.passes rq (putAuDst0 s rq e w).1 = true → s.decides = false → t.xp = s.xp ∧ (if s.fld F.TW_STATE_LINK 0 = 1 then t.host.resp = none else t.replied ⟨0x3020, 0, e⟩ .twinlink))) ∧
  (∀ (rq : Req) (e : Nat) (w0 : W) (x : Work) (f : Format) (s : State), ∃ t : State, exec (.audioChangeCancel rq e w0) s = .next t.settleIsolated ∧ (s.passes rq (putAuDst0 s rq e (withOp F.AU_DST_OP w0 2)).1 = true → s.decides = true → s.workOn .audio e = some x → x.salvo = 0 → x.state = tsHELD ∨ (x.state = tsPENDING ∧ x.jumped = false ∧ format x.fmt = some f ∧ f.inTime x.field x.land s.house = true) → t.fld F.AU_DST_STATUS e = tsCANCELLED ∧ t.workOn .audio e = none ∧ t.replied ⟨0x3020, 0, e⟩ .ok) ∧ (s.passes rq (putAuDst0 s rq e (withOp F.AU_DST_OP w0 2)).1 = true → s.decides = true → s.workOn .audio e = none → t.xp = s.xp ∧ t.replied ⟨0x3020, 0, e⟩ .busy) ∧ (s.passes rq (putAuDst0 s rq e (withOp F.AU_DST_OP w0 2)).1 = true → s.decides = false → t.xp = s.xp ∧ (if s.fld F.TW_STATE_LINK 0 = 1 then t.host.resp = none else t.replied ⟨0x3020, 0, e⟩ .twinlink))) ∧
  (∀ (rq : Req) (e : Nat) (v : W) (s : State), ∃ t : State, exec (.auGainWrite rq e v) s = .next t.settleIsolated ∧ (s.passes rq (putAuGain rq e v).1 = true → s.decides = true → t.word 0x3028 e 0 = v ∧ t.replied ⟨0x3028, 0, e⟩ .ok) ∧ (s.passes rq (putAuGain rq e v).1 = true → s.decides = false → t.word 0x3028 e 0 = s.word 0x3028 e 0 ∧ (if s.fld F.TW_STATE_LINK 0 = 1 then t.host.resp = none else t.replied ⟨0x3028, 0, e⟩ .twinlink))) ∧
  (∀ (id : Nat) (c : Chan) (x : Trans) (s : State), ∃ t : State, exec (.audioTransitionTimeout id) s = .next t.settleIsolated ∧ (s.enginesRun = true → s.au.chans.find? (fun y => y.id == id) = some c → c.trs.find? (fun y => y.method == 0 && y.phase < 2) = some x → t.au.chans.find? (fun y => y.id == id) = some { c with trs := c.trs.map fun y => if y = x then { y with phase := if y.phase = 0 then 2 else 3 } else y } ∧ sampleStart (x.t0 + x.limit) ≤ t.house) ∧ (s.enginesRun = false ∨ s.au.chans.find? (fun y => y.id == id) = none ∨ (s.au.chans.find? (fun y => y.id == id) = some c ∧ c.trs.find? (fun y => y.method == 0 && y.phase < 2) = none) → t = s))

/-- Each of these commands answers a next state whatever the state. A layer descriptor that passes the common checks and that no commit names goes into the shadow, the live word stands, and is BUSY where one names it; an image, a pixel word and a palette entry are stored, or answered TARGET where the image meets another and BUSY where it is in use. A head commit at the twin that decides, with word 1 as it stands in the shadow, that passes R182, names no rebuilt table and makes no image, with no salvo armed, is PENDING; where a check fails its STATUS says which; one in progress makes the next BUSY. A new word 1 goes into the shadow. CANCEL of a single commit that is held, or pending and in time, ends it CANCELLED; without one it is BUSY. A twin that does not decide sends commits and cancels on, or answers TWINLINK; in LOCKSTEP a commit's answer waits for the other twin. Images being made read FLAT ready or failed at their end. Completion: under these conditions exec answers a next state, for the constructors cmLayerWrite, cmImageWrite, cmPixelsWrite, cmPaletteWrite, headCommit, headCancel, flattenDone. (R171, R178, R179, R180, R181, R182, R183.) -/
def Obligations.CompositionTakesItsWrites : Prop :=
  (∀ (rq : Req) (e : Nat) (w : Nat) (v : W) (s : State), ∃ t : State, exec (.cmLayerWrite rq e w v) s = .next t.settleIsolated ∧ (s.passes rq (putLayer s rq e [(w, v)]).1 = true → w < 3 → s.layerHeld e = false → t.shadowLayer e w = v ∧ t.word 0x3820 e w = s.word 0x3820 e w ∧ t.replied ⟨0x3820, 0, e⟩ .ok) ∧ (s.passes rq (putLayer s rq e [(w, v)]).1 = true → s.layerHeld e = true → t.shadowLayer e w = s.shadowLayer e w ∧ t.replied ⟨0x3820, 0, e⟩ .busy)) ∧
  (∀ (rq : Req) (e : Nat) (v : W) (s : State), ∃ t : State, exec (.cmImageWrite rq e v) s = .next t.settleIsolated ∧ (s.passes rq (putImage e v).1 = true → ((entriesOf s.regs 0x3830).any fun x => x.1 != e && x.1 / 1024 == e / 1024 && imageMeets v x.2) = false → s.imageBusy (e / 1024) (e % 1024) = false → t.word 0x3830 e 0 = v ∧ t.replied ⟨0x3830, 0, e⟩ .ok) ∧ (s.passes rq (putImage e v).1 = true → ((entriesOf s.regs 0x3830).any fun x => x.1 != e && x.1 / 1024 == e / 1024 && imageMeets v x.2) = true → t.word 0x3830 e 0 = s.word 0x3830 e 0 ∧ t.replied ⟨0x3830, 0, e⟩ .target) ∧ (s.passes rq (putImage e v).1 = true → ((entriesOf s.regs 0x3830).any fun x => x.1 != e && x.1 / 1024 == e / 1024 && imageMeets v x.2) = false → s.imageBusy (e / 1024) (e % 1024) = true → t.word 0x3830 e 0 = s.word 0x3830 e 0 ∧ t.replied ⟨0x3830, 0, e⟩ .busy)) ∧
  (∀ (rq : Req) (e : Nat) (v : W) (s : State), ∃ t : State, exec (.cmPixelsWrite rq e v) s = .next t.settleIsolated ∧ (s.passes rq (putPixels e v).1 = true → ((s.imagesFlattening (e / 2 ^ 29) ++ s.imagesDynamic (e / 2 ^ 29)).any fun i => imageHolds (s.image (e / 2 ^ 29) i) (e % 2 ^ 29)) = false → t.word 0x3838 e 0 = v ∧ t.replied ⟨0x3838, 0, e⟩ .ok)) ∧
  (∀ (rq : Req) (e : Nat) (v : W) (s : State), ∃ t : State, exec (.cmPaletteWrite rq e v) s = .next t.settleIsolated ∧ (s.passes rq (putPalette e v).1 = true → ((s.layerWords (e / 256)).any fun w0 => (lPalette w0).contains (e % 256)) = false → t.word 0x3828 e 0 = v ∧ t.replied ⟨0x3828, 0, e⟩ .ok)) ∧
  (∀ (rq : Req) (h : Nat) (w0 : W) (w1 : W) (w : W) (f : Format) (s : State), ∃ t : State, exec (.headCommit rq h w0 w1) s = .next t.settleIsolated ∧ (s.passes rq (putHead s rq h w (some w1)).1 = true → w = withOp F.CM_HEAD_OP w0 1 → w1 = s.shadowWord 0x3810 h 1 → s.decides = true → s.workOn .head h = none → s.admits = true → s.workNeeds .head h w = false → s.headCheck (s.workNeeds .head h w) h w = none → F.CM_HEAD_SALVO.of w = 0 → s.commitImages false h w = [] → s.headShort false h w [] = false → (s.xp.work.all fun y => y.salvo == 0) = true → format (s.workFormat false .head h w) = some f → f.judge false (whenNEXT.due f false s.house) s.house ≠ .expired → t.fld F.CM_HEAD_STATUS h = tsPENDING ∧ (if s.sync = syncLOCKSTEP ∧ s.mirrors = true then t.host.resp = none else t.replied ⟨0x3810, 0, h⟩ .ok)) ∧ (w = withOp F.CM_HEAD_OP w0 1 → w1 = s.shadowWord 0x3810 h 1 → s.passes rq (putHead s rq h w (some w1)).1 = true → s.decides = true → s.workOn .head h = none → s.admits = true → s.headCheck (s.workNeeds .head h w) h w ≠ none → t.fld F.CM_HEAD_STATUS h = ((s.headCheck (s.workNeeds .head h w) h w).getD .ok).code) ∧ (w = withOp F.CM_HEAD_OP w0 1 → w1 = s.shadowWord 0x3810 h 1 → s.passes rq (putHead s rq h w (some w1)).1 = true → s.decides = true → s.workOn .head h ≠ none → t.xp = s.xp ∧ t.replied ⟨0x3810, 0, h⟩ .busy) ∧ (w = withOp F.CM_HEAD_OP w0 1 → s.passes rq (putHead s rq h w (some w1)).1 = true → t.shadowWord 0x3810 h 1 = w1) ∧ (w = withOp F.CM_HEAD_OP w0 1 → w1 = s.shadowWord 0x3810 h 1 → s.passes rq (putHead s rq h w (some w1)).1 = true → s.decides = false → t.xp = s.xp ∧ (if s.fld F.TW_STATE_LINK 0 = 1 then t.host.resp = none else t.replied ⟨0x3810, 0, h⟩ .twinlink))) ∧
  (∀ (rq : Req) (h : Nat) (w0 : W) (x : Work) (f : Format) (s : State), ∃ t : State, exec (.headCancel rq h w0) s = .next t.settleIsolated ∧ (s.passes rq (putHead0 s rq h (withOp F.CM_HEAD_OP w0 2)).1 = true → s.decides = true → s.workOn .head h = some x → x.salvo = 0 → x.state = tsHELD ∨ (x.state = tsPENDING ∧ x.jumped = false ∧ format x.fmt = some f ∧ f.inTime x.field x.land s.house = true) → t.fld F.CM_HEAD_STATUS h = tsCANCELLED ∧ t.workOn .head h = none ∧ t.replied ⟨0x3810, 0, h⟩ .ok) ∧ (s.passes rq (putHead0 s rq h (withOp F.CM_HEAD_OP w0 2)).1 = true → s.decides = true → s.workOn .head h = none → t.xp = s.xp ∧ t.replied ⟨0x3810, 0, h⟩ .busy) ∧ (s.passes rq (putHead0 s rq h (withOp F.CM_HEAD_OP w0 2)).1 = true → s.decides = false → t.xp = s.xp ∧ (if s.fld F.TW_STATE_LINK 0 = 1 then t.host.resp = none else t.replied ⟨0x3810, 0, h⟩ .twinlink))) ∧
  (∀ (h : Nat) (good : Bool) (s : State), ∃ t : State, exec (.flattenDone h good) s = .next t.settleIsolated ∧ (s.fld F.CM_HEAD_FLAT h = 1 → t.fld F.CM_HEAD_FLAT h = (if good then 2 else 3)) ∧ (s.fld F.CM_HEAD_FLAT h ≠ 1 → t = s))

/-- Each of these commands answers a next state whatever the state. A port configuration that passes the common checks and touches no running direction and no bound converter is stored; it is BUSY where it does. A mask that unbinds no converter is staged, and the mask in force stands; it is BUSY where it does; it applies while its port runs. START of enabled directions that are all stopped arms its trigger and those directions; where one is not stopped it ends FAILED and BUSY. STOP arms its trigger. An armed trigger makes START and STOP BUSY and stays; ABORT ends an armed one ABORTED and is BUSY otherwise. A trigger with a house time acts at it and reads DONE, its RESULT DONE or LATE, its INDEX that time's; without one nothing changes. Completion: under these conditions exec answers a next state, for the constructors audioPortConfigWrite, maskWrite, maskApply, startTrigger, stopTrigger, abortTrigger, triggerAct. (R145, R147, R148, R150, R151.) -/
def Obligations.AudioPortsTakeWritesAndTriggers : Prop :=
  (∀ (rq : Req) (aes : Bool) (e : Nat) (v : W) (s : State), ∃ t : State, exec (.audioPortConfigWrite rq aes e v) s = .next t.settleIsolated ∧ (s.passes rq (putAudioPort aes e v).1 = true → s.portBusy (if aes then qOfAes e else qOfTdm e) (s.word (if aes then 0x3050 else 0x3040) e 0) v = false → s.portUnfree (if aes then qOfAes e else qOfTdm e) (s.word (if aes then 0x3050 else 0x3040) e 0) v = false → t.word (if aes then 0x3050 else 0x3040) e 0 = v ∧ t.replied ⟨if aes then 0x3050 else 0x3040, 0, e⟩ .ok) ∧ (s.passes rq (putAudioPort aes e v).1 = true → s.portBusy (if aes then qOfAes e else qOfTdm e) (s.word (if aes then 0x3050 else 0x3040) e 0) v = true ∨ s.portUnfree (if aes then qOfAes e else qOfTdm e) (s.word (if aes then 0x3050 else 0x3040) e 0) v = true → t.word (if aes then 0x3050 else 0x3040) e 0 = s.word (if aes then 0x3050 else 0x3040) e 0 ∧ t.replied ⟨if aes then 0x3050 else 0x3040, 0, e⟩ .busy)) ∧
  (∀ (rq : Req) (e : Nat) (v : W) (s : State), ∃ t : State, exec (.maskWrite rq e v) s = .next t.settleIsolated ∧ (s.passes rq (putMask e v).1 = true → s.maskUnbinds e v = false → t.word 0x3048 e 0 = v ∧ t.maskLive e = s.maskLive e ∧ t.fld F.AU_PORT_STAT_MASKSTATE (qOfTdm e) = 1 ∧ t.replied ⟨0x3048, 0, e⟩ .ok) ∧ (s.passes rq (putMask e v).1 = true → s.maskUnbinds e v = true → t.word 0x3048 e 0 = s.word 0x3048 e 0 ∧ t.maskLive e = s.maskLive e ∧ t.replied ⟨0x3048, 0, e⟩ .busy)) ∧
  (∀ (e : Nat) (frame : Nat) (at_ : Nat) (v : W) (s : State), ∃ t : State, exec (.maskApply e frame) s = .next t.settleIsolated ∧ ((s.maskRun e).bind (·.staged) = some (v, at_) → s.portRuns (qOfTdm e) = true → t.maskLive e = s.word 0x3048 e 0 ∧ t.fld F.AU_PORT_STAT_MASKSTATE (qOfTdm e) = 0) ∧ ((s.maskRun e).bind (·.staged) = none ∨ s.portRuns (qOfTdm e) = false → t = s)) ∧
  (∀ (rq : Req) (n : Nat) (q : Nat) (tx : Bool) (w0 : W) (w1 : W) (w2 : W) (w : W) (s : State), ∃ t : State, exec (.startTrigger rq n w0 w1 w2) s = .next t.settleIsolated ∧ (s.passes rq (putStart s n w w1 w2).1 = true → w = withOp F.AU_START_OP w0 1 → s.fld F.AU_START_STATE n ≠ agARMED → ((trigDirs s.dies w w2).filter fun d => s.dirOn d.1 d.2).all (fun d => s.dirState d.1 d.2 == apSTOPPED && !s.dirArmed d) = true → t.fld F.AU_START_STATE n = agARMED ∧ ((q, tx) ∈ trigDirs s.dies w w2 → s.dirOn q tx = true → t.dirState q tx = apARMED) ∧ t.replied ⟨0x3058, 0, n⟩ .ok) ∧ (w = withOp F.AU_START_OP w0 1 → s.passes rq (putStart s n w w1 w2).1 = true → s.fld F.AU_START_STATE n ≠ agARMED → ((trigDirs s.dies w w2).filter fun d => s.dirOn d.1 d.2).all (fun d => s.dirState d.1 d.2 == apSTOPPED && !s.dirArmed d) = false → t.fld F.AU_START_STATE n = agFAILED ∧ t.fld F.AU_START_RESULT n = Status.busy.code ∧ t.replied ⟨0x3058, 0, n⟩ .busy) ∧ (w = withOp F.AU_START_OP w0 1 → s.passes rq (putStart s n w w1 w2).1 = true → s.fld F.AU_START_STATE n = agARMED → t.fld F.AU_START_STATE n = s.fld F.AU_START_STATE n ∧ t.replied ⟨0x3058, 0, n⟩ .busy)) ∧
  (∀ (rq : Req) (n : Nat) (w0 : W) (w1 : W) (w2 : W) (w : W) (s : State), ∃ t : State, exec (.stopTrigger rq n w0 w1 w2) s = .next t.settleIsolated ∧ (s.passes rq (putStart s n w w1 w2).1 = true → w = withOp F.AU_START_OP w0 3 → s.fld F.AU_START_STATE n ≠ agARMED → t.fld F.AU_START_STATE n = agARMED ∧ t.replied ⟨0x3058, 0, n⟩ .ok) ∧ (w = withOp F.AU_START_OP w0 3 → s.passes rq (putStart s n w w1 w2).1 = true → s.fld F.AU_START_STATE n = agARMED → t.fld F.AU_START_STATE n = s.fld F.AU_START_STATE n ∧ t.replied ⟨0x3058, 0, n⟩ .busy)) ∧
  (∀ (rq : Req) (n : Nat) (w0 : W) (w1 : W) (w2 : W) (s : State), ∃ t : State, exec (.abortTrigger rq n w0 w1 w2) s = .next t.settleIsolated ∧ (s.passes rq (putStart s n (withOp F.AU_START_OP w0 2) w1 w2).1 = true → s.fld F.AU_START_STATE n = agARMED → t.fld F.AU_START_STATE n = agABORTED ∧ ∀ x ∈ t.ap.trigs, x.n ≠ n ∧ t.replied ⟨0x3058, 0, n⟩ .ok) ∧ (s.passes rq (putStart s n (withOp F.AU_START_OP w0 2) w1 w2).1 = true → s.fld F.AU_START_STATE n ≠ agARMED → t.fld F.AU_START_STATE n = s.fld F.AU_START_STATE n ∧ t.replied ⟨0x3058, 0, n⟩ .busy)) ∧
  (∀ (n : Nat) (i : Nat) (x : Trig) (s : State), ∃ t : State, exec (.triggerAct n) s = .next t.settleIsolated ∧ (s.ap.trigs.find? (fun y => y.n == n) = some x → x.at_ = some i → t.fld F.AU_START_STATE n = agDONE ∧ t.fld F.AU_START_RESULT n = (if x.late then tsLATE else tsDONE) ∧ t.fld F.AU_START_INDEX n = i % 2 ^ 52 ∧ sampleStart i ≤ t.house) ∧ ((s.ap.trigs.find? (fun y => y.n == n)).bind (·.at_) = none → t = s))

/-- Each of these commands answers a next state whatever the state. In STANDBY and ACTIVE a house sample passes with the values given; in the other modes it changes nothing. A running stream (of a receive direction that is not clock master, or of a transmit one) that underruns reads UNDERRUN, and one that has lost frames rejoins RUNNING; a phase slip of a running, locked direction is counted; a clock off by more than 10 ppm reads OFFRATE, one back within them OK; each changes nothing elsewhere. A binding of an ASRC channel that passes the common checks is stored, or answered BUSY, ABSENT, PORT or TARGET where R158 bars it. At the twin that decides on a frame store's converter and on each port's converter, one that acquires locks within the ratio's range, one that is locked or acquires unlocks, and one unlocked acquires again. Completion: under these conditions exec answers a next state, for the constructors audioSample, streamUnderrun, streamRejoin, streamPhaseSlip, streamOffrate, auAsrcWrite, asrcLock, asrcUnlock. (R31, R114, R153, R154, R158, R159, R160, R161.) -/
def Obligations.StreamsSamplesAndConvertersMove : Prop :=
  (∀ (vals : List (Nat × Int)) (status : List (Nat × Nat)) (code : List (Nat × Nat)) (s : State), ∃ t : State, exec (.audioSample vals status code) s = .next t.settleIsolated ∧ (s.enginesRun = true → s.au.sample < t.au.sample ∧ t.au.last = vals) ∧ (s.enginesRun = false → t = s)) ∧
  (∀ (q : Nat) (tx : Bool) (clock : Bool) (x : Stream) (s : State), ∃ t : State, exec (.streamUnderrun q tx clock) s = .next t.settleIsolated ∧ (s.dirState q tx = apRUNNING → tx = true ∨ s.dirClock q tx ≠ clkMASTER → s.stream q tx = some x → t.dirState q tx = apUNDERRUN ∧ t.fld F.AU_PORT_STAT_UNDERRUNS q = satAdd (2 ^ F.AU_PORT_STAT_UNDERRUNS.len - 1) (s.fld F.AU_PORT_STAT_UNDERRUNS q) 1) ∧ (s.dirState q tx ≠ apRUNNING ∨ (tx = false ∧ s.dirClock q tx = clkMASTER) ∨ s.stream q tx = none → t = s)) ∧
  (∀ (q : Nat) (i : Nat) (tx : Bool) (x : Stream) (s : State), ∃ t : State, exec (.streamRejoin q tx) s = .next t.settleIsolated ∧ (s.stream q tx = some x → x.lost = some i → t.dirState q tx = apRUNNING ∧ t.stream q tx = some { x with lost := none, fade := 0, phase := phaseOf s.house }) ∧ ((s.stream q tx).bind (·.lost) = none → t = s)) ∧
  (∀ (q : Nat) (tx : Bool) (again : Bool) (s : State), ∃ t : State, exec (.streamPhaseSlip q tx again) s = .next t.settleIsolated ∧ (s.dirState q tx = apRUNNING → s.dirClock q tx = clkLOCKED → t.fld F.AU_PORT_STAT_SLIPS q = satAdd (2 ^ F.AU_PORT_STAT_SLIPS.len - 1) (s.fld F.AU_PORT_STAT_SLIPS q) 1) ∧ (s.dirState q tx ≠ apRUNNING ∨ s.dirClock q tx ≠ clkLOCKED → t = s)) ∧
  (∀ (q : Nat) (off : Int) (s : State), ∃ t : State, exec (.streamOffrate q off) s = .next t.settleIsolated ∧ (s.portRuns q = true → s.dirClock q false ≠ clkMASTER → t.fld F.AU_PORT_STAT_OFFSET q = sat16 off ∧ (1000 < off.natAbs → s.fld F.AU_PORT_STAT_CLKSTATE q = ckOK → t.fld F.AU_PORT_STAT_CLKSTATE q = ckOFFRATE) ∧ (off.natAbs ≤ 1000 → s.fld F.AU_PORT_STAT_CLKSTATE q = ckOFFRATE → t.fld F.AU_PORT_STAT_CLKSTATE q = ckOK)) ∧ (s.portRuns q = false ∨ s.dirClock q false = clkMASTER → t = s)) ∧
  (∀ (rq : Req) (e : Nat) (v : W) (s : State), ∃ t : State, exec (.auAsrcWrite rq e v) s = .next t.settleIsolated ∧ (s.passes rq (putAsrc s e v).1 = true → F.AU_ASRC_KIND.of (s.word 0x3060 e 0) ≠ 2 → F.AU_ASRC_KIND.of v = 1 → s.caps.auport = true ∧ s.asrcSlotOk e v = true ∧ ((s.asrcBound (e / 64)).any fun x => x.1 != e && F.AU_ASRC_PORT.of x.2 == F.AU_ASRC_PORT.of v && F.AU_ASRC_DIR.of x.2 == F.AU_ASRC_DIR.of v && F.AU_ASRC_SLOT.of x.2 == F.AU_ASRC_SLOT.of v) = false → t.word 0x3060 e 0 = v ∧ t.replied ⟨0x3060, 0, e⟩ .ok) ∧ (s.passes rq (putAsrc s e v).1 = true → F.AU_ASRC_KIND.of (s.word 0x3060 e 0) = 2 → t.word 0x3060 e 0 = s.word 0x3060 e 0 ∧ t.replied ⟨0x3060, 0, e⟩ .busy) ∧ (s.passes rq (putAsrc s e v).1 = true → F.AU_ASRC_KIND.of (s.word 0x3060 e 0) ≠ 2 → F.AU_ASRC_KIND.of v = 1 → s.caps.auport = false → t.word 0x3060 e 0 = s.word 0x3060 e 0 ∧ t.replied ⟨0x3060, 0, e⟩ .absent) ∧ (s.passes rq (putAsrc s e v).1 = true → F.AU_ASRC_KIND.of (s.word 0x3060 e 0) ≠ 2 → F.AU_ASRC_KIND.of v = 1 → s.caps.auport = true → s.asrcSlotOk e v = false → t.word 0x3060 e 0 = s.word 0x3060 e 0 ∧ t.replied ⟨0x3060, 0, e⟩ .port) ∧ (s.passes rq (putAsrc s e v).1 = true → F.AU_ASRC_KIND.of (s.word 0x3060 e 0) ≠ 2 → F.AU_ASRC_KIND.of v = 1 → s.caps.auport = true → s.asrcSlotOk e v = true → ((s.asrcBound (e / 64)).any fun x => x.1 != e && F.AU_ASRC_PORT.of x.2 == F.AU_ASRC_PORT.of v && F.AU_ASRC_DIR.of x.2 == F.AU_ASRC_DIR.of v && F.AU_ASRC_SLOT.of x.2 == F.AU_ASRC_SLOT.of v) = true → t.word 0x3060 e 0 = s.word 0x3060 e 0 ∧ t.replied ⟨0x3060, 0, e⟩ .target)) ∧
  (∀ (e : Nat) (ratio : Int) (r : Int) (s : State), ∃ t : State, exec (.asrcLock e ratio) s = .next t.settleIsolated ∧ ((s.fld F.AU_ASRC_KIND e = 2 → s.decides = true) → r = (if s.fld F.AU_ASRC_KIND e = 2 then (s.captureRatio (s.fld F.AU_ASRC_FSRC e)).getD ratio else ratio) → s.asrcRebinds e = false → s.fld F.AU_ASRC_STATE e = srACQUIRE → ratioOk r = true → t.fld F.AU_ASRC_STATE e = srLOCKED ∧ t.fld F.AU_ASRC_RATIO e = unsigned 32 r) ∧ ((s.fld F.AU_ASRC_KIND e = 2 → s.decides = true) → r = (if s.fld F.AU_ASRC_KIND e = 2 then (s.captureRatio (s.fld F.AU_ASRC_FSRC e)).getD ratio else ratio) → s.asrcRebinds e = false → s.fld F.AU_ASRC_STATE e = srUNLOCKED → ratioOk r = true → t.fld F.AU_ASRC_STATE e = srACQUIRE) ∧ ((s.fld F.AU_ASRC_KIND e = 2 → s.decides = true) → r = (if s.fld F.AU_ASRC_KIND e = 2 then (s.captureRatio (s.fld F.AU_ASRC_FSRC e)).getD ratio else ratio) → ratioOk r = false → t.fld F.AU_ASRC_STATE e = s.fld F.AU_ASRC_STATE e) ∧ (s.fld F.AU_ASRC_KIND e = 2 → s.decides = false → t = s)) ∧
  (∀ (e : Nat) (s : State), ∃ t : State, exec (.asrcUnlock e) s = .next t.settleIsolated ∧ ((s.fld F.AU_ASRC_KIND e = 2 → s.decides = true) → s.asrcRebinds e = false → s.fld F.AU_ASRC_STATE e = srLOCKED ∨ s.fld F.AU_ASRC_STATE e = srACQUIRE → t.fld F.AU_ASRC_STATE e = srUNLOCKED) ∧ (s.fld F.AU_ASRC_KIND e = 2 → s.decides = false → t = s))

/-- Each of these commands answers a next state whatever the state. A word of a disabled MAC that passes the common checks is stored, EN only over lanes free for Ethernet; another word of an enabled MAC is BUSY. A word of a stopped ring is stored, and EN of a running one can be cleared, with NEXT then 0; any other word of a running ring is BUSY. A transport's word goes into the shadow, or is answered ABSENT or BUSY; a flow's word is stored, is BUSY where it would move an enabled flow, and CAPACITY where its multicast groups would be too many. A read of a time-stamp queue gives and removes its oldest entry; a read of a MAC's statistics gives all sixteen words, with the essence packets sent since the last read counted in, and clears them. Completion: under these conditions exec answers a next state, for the constructors mxMacWrite, mxRingWrite, tsqRead, mxStatsRead, xportWrite, aflowWrite. (R219, R223, R229, R230, R232, R233, R234, R239.) -/
def Obligations.MediaWritesTakeEffect : Prop :=
  (∀ (rq : Req) (m : Nat) (w : Nat) (v : W) (s : State), ∃ t : State, exec (.mxMacWrite rq m w v) s = .next t.settleIsolated ∧ (s.passes rq (putMac m w v).1 = true → w < 3 → s.macOn m = false → w = 0 → F.MX_MAC_EN.of v = 1 → s.macLanesOk m = true → t.word 0x4810 m w = v ∧ t.replied ⟨0x4810, 0, m⟩ .ok) ∧ (s.passes rq (putMac m w v).1 = true → w = 0 → F.MX_MAC_EN.of v = 1 → s.macLanesOk m = false → t.word 0x4810 m w = s.word 0x4810 m w ∧ t.replied ⟨0x4810, 0, m⟩ .busy) ∧ (s.passes rq (putMac m w v).1 = true → w ≠ 0 → s.macOn m = true → v ≠ s.word 0x4810 m w → t.word 0x4810 m w = s.word 0x4810 m w ∧ t.replied ⟨0x4810, 0, m⟩ .busy)) ∧
  (∀ (rq : Req) (e : Nat) (w : Nat) (v : W) (s : State), ∃ t : State, exec (.mxRingWrite rq e w v) s = .next t.settleIsolated ∧ (s.passes rq (putRing rq e w v).1 = true → s.ringOn e = false ∨ (w = 1 ∧ F.MX_RING_EN.of v = 0) → t.word 0x4840 e w = v ∧ (w = 1 → F.MX_RING_EN.of v = 0 → t.fld F.MX_RING_NEXT e = 0) ∧ t.replied ⟨0x4840, 0, e⟩ .ok) ∧ (s.passes rq (putRing rq e w v).1 = true → s.ringOn e = true → ¬(w = 1 ∧ F.MX_RING_EN.of v = 0) → t.word 0x4840 e w = s.word 0x4840 e w ∧ t.replied ⟨0x4840, 0, e⟩ .busy)) ∧
  (∀ (rq : Req) (e : Nat) (s : State), ∃ t : State, exec (.tsqRead rq e) s = .next t.settleIsolated ∧ (s.acceptsRead rq ⟨0x4850, 0, e⟩ = true → t.repliedData ⟨0x4850, 0, e⟩ (s.tsqPop e).1 ∧ (t.tsQueue e).q = (s.tsQueue e).q.drop 1)) ∧
  (∀ (rq : Req) (m : Nat) (w : Nat) (s : State), ∃ t : State, exec (.mxStatsRead rq m) s = .next t.settleIsolated ∧ (s.acceptsRead rq ⟨0x4860, 0, m⟩ = true → w < 16 → t.repliedData ⟨0x4860, 0, m⟩ ((List.range 16).map fun k => ((s.stir.countMsg rq false).countEssence m).word 0x4860 m k) ∧ t.word 0x4860 m w = 0)) ∧
  (∀ (rq : Req) (dst : Bool) (p : Nat) (w : Nat) (v : W) (s : State), ∃ t : State, exec (.xportWrite rq dst p w v) s = .next t.settleIsolated ∧ (s.passes rq (putXport s dst p w v).1 = true → w = 0 → xType v = xST2110 → s.caps.media = true → s.calState = calIDLE ∨ s.calState = calEDITING ∨ s.calState = calFAILED → t.shadowWord (xportIx dst) p w = v ∧ t.word (xportIx dst) p w = s.word (xportIx dst) p w ∧ t.calState = calEDITING ∧ t.replied ⟨xportIx dst, 0, p⟩ .ok) ∧ (s.passes rq (putXport s dst p w v).1 = true → w = 0 → xType v = xST2110 → s.caps.media = false → t.shadowWord (xportIx dst) p w = s.shadowWord (xportIx dst) p w ∧ t.replied ⟨xportIx dst, 0, p⟩ .absent) ∧ (s.passes rq (putXport s dst p w v).1 = true → w = 0 → xType v ≠ xST2110 → s.calState = calREBUILDING ∨ s.calState = calREADY → t.shadowWord (xportIx dst) p w = s.shadowWord (xportIx dst) p w ∧ t.replied ⟨xportIx dst, 0, p⟩ .busy)) ∧
  (∀ (rq : Req) (tx : Bool) (e : Nat) (w : Nat) (v : W) (s : State), ∃ t : State, exec (.aflowWrite rq tx e w v) s = .next t.settleIsolated ∧ (s.passes rq (putAflow tx e w v).1 = true → w < 2 → ¬(F.MX_XPORT_FEN.of (s.word (if tx then 0x4830 else 0x4828) e 0) = 1 ∧ ((w = 0 ∧ (F.MX_XPORT_GROUP.of v ≠ F.MX_XPORT_GROUP.of (s.word (if tx then 0x4830 else 0x4828) e 0) ∨ F.MX_XPORT_UDP.of v ≠ F.MX_XPORT_UDP.of (s.word (if tx then 0x4830 else 0x4828) e 0))) ∨ (w ≠ 0 ∧ (F.MX_AFLOW_MACA.of v ≠ F.MX_AFLOW_MACA.of (s.word (if tx then 0x4830 else 0x4828) e w) ∨ F.MX_AFLOW_MACB.of v ≠ F.MX_AFLOW_MACB.of (s.word (if tx then 0x4830 else 0x4828) e w))))) → ¬(tx = false ∧ (s.putWord 0x4828 e w v).groupsOver (s.putWord 0x4828 e w v).regs = true) → t.word (if tx then 0x4830 else 0x4828) e w = v ∧ t.replied ⟨if tx then 0x4830 else 0x4828, 0, e⟩ .ok) ∧ (s.passes rq (putAflow tx e w v).1 = true → (F.MX_XPORT_FEN.of (s.word (if tx then 0x4830 else 0x4828) e 0) = 1 ∧ ((w = 0 ∧ (F.MX_XPORT_GROUP.of v ≠ F.MX_XPORT_GROUP.of (s.word (if tx then 0x4830 else 0x4828) e 0) ∨ F.MX_XPORT_UDP.of v ≠ F.MX_XPORT_UDP.of (s.word (if tx then 0x4830 else 0x4828) e 0))) ∨ (w ≠ 0 ∧ (F.MX_AFLOW_MACA.of v ≠ F.MX_AFLOW_MACA.of (s.word (if tx then 0x4830 else 0x4828) e w) ∨ F.MX_AFLOW_MACB.of v ≠ F.MX_AFLOW_MACB.of (s.word (if tx then 0x4830 else 0x4828) e w))))) → t.word (if tx then 0x4830 else 0x4828) e w = s.word (if tx then 0x4830 else 0x4828) e w ∧ t.replied ⟨if tx then 0x4830 else 0x4828, 0, e⟩ .busy))

/-- Each of these commands answers a next state whatever the state. A frame at a MAC that is not up changes nothing. At one that is up, a whole NCP frame for it on its management VLAN counts in RXOK and RXBYTES, a frame under 64 bytes or a fragment in RUNT, one with a wrong FCS in FCS, one over the MTU in OVERSIZE, one for another address in UNCLAIMED, and a PAUSE that is obeyed stops it; PAUSE ends at its time. A frame of descriptors that are the part's is sent from a running ring of a MAC up and not paused, counted, and its descriptors handed back; else nothing changes. In STANDBY and ACTIVE a release moves the flow past its packets; an SDI line received locks its lane at its rate, and one sent places the ANC packets its rules pass. A change of link at an enabled MAC moves it and its receive lanes that run no pattern. Completion: under these conditions exec answers a next state, for the constructors macRxFrame, pauseExpire, ringTxFrame, st2110Release, sdiRxLine, sdiTxLine, macLinkChange. (R31, R217, R219, R220, R222, R225, R243, R244, R246.) -/
def Obligations.MediaEventsAreCounted : Prop :=
  (∀ (m : Nat) (a : Nat) (b : Nat) (q : Nat) (f : MacFrame) (s : State), ∃ t : State, exec (.macRxFrame m f) s = .next t.settleIsolated ∧ (s.macUp m = true → 64 ≤ f.len → f.frag = false → f.fcsOk = true → f.vid = some (s.fld F.MX_MAC_MGMTVID m) → s.fld F.MX_MAC_MGMTVID m ≠ 0 → f.len ≤ s.fld F.MX_MAC_MTU m + 4 → f.da = s.fld F.MX_MAC_MACADDR m → f.body = .ncp a b [] → t.fld F.MX_STATS_RXOK m = satAdd (2 ^ F.MX_STATS_RXOK.len - 1) (s.fld F.MX_STATS_RXOK m) 1 ∧ t.fld F.MX_STATS_RXBYTES m = satAdd (2 ^ F.MX_STATS_RXBYTES.len - 1) (s.fld F.MX_STATS_RXBYTES m) f.len) ∧ (s.macUp m = true → f.len < 64 ∨ f.frag = true → t.fld F.MX_STATS_RUNT m = satAdd (2 ^ F.MX_STATS_RUNT.len - 1) (s.fld F.MX_STATS_RUNT m) 1) ∧ (s.macUp m = true → 64 ≤ f.len → f.frag = false → f.fcsOk = false → t.fld F.MX_STATS_FCS m = satAdd (2 ^ F.MX_STATS_FCS.len - 1) (s.fld F.MX_STATS_FCS m) 1) ∧ (s.macUp m = true → 64 ≤ f.len → f.frag = false → f.fcsOk = true → s.fld F.MX_MAC_MTU m + (if f.vid.isSome then 4 else 0) < f.len → t.fld F.MX_STATS_OVERSIZE m = satAdd (2 ^ F.MX_STATS_OVERSIZE.len - 1) (s.fld F.MX_STATS_OVERSIZE m) 1) ∧ (s.macUp m = true → 64 ≤ f.len → f.frag = false → f.fcsOk = true → ¬ s.fld F.MX_MAC_MTU m + (if f.vid.isSome then 4 else 0) < f.len → s.daOk m f.da = false → f.body = .ncp a b [] → t.fld F.MX_STATS_UNCLAIMED m = satAdd (2 ^ F.MX_STATS_UNCLAIMED.len - 1) (s.fld F.MX_STATS_UNCLAIMED m) 1) ∧ (s.macUp m = true → 64 ≤ f.len → f.frag = false → f.fcsOk = true → ¬ s.fld F.MX_MAC_MTU m + (if f.vid.isSome then 4 else 0) < f.len → f.body = .pause q [] → s.fld F.MX_MAC_PAUSEOBEY m = 1 → q ≠ 0 → q < 65536 → (t.macRun m).paused.isSome = true ∧ t.fld F.MX_STATS_PAUSE m = satAdd (2 ^ F.MX_STATS_PAUSE.len - 1) (s.fld F.MX_STATS_PAUSE m) 1) ∧ (s.macUp m = false → t = s)) ∧
  (∀ (m : Nat) (a : Nat) (u : Nat) (l : List Nat) (s : State), ∃ t : State, exec (.pauseExpire m l) s = .next t.settleIsolated ∧ ((s.macRun m).paused = some (a, u) → (t.macRun m).paused = none ∧ u ≤ t.now) ∧ ((s.macRun m).paused = none → t = s)) ∧
  (∀ (m : Nat) (l : List (W × W)) (ptp : Option (Nat × Nat)) (s : State), ∃ t : State, exec (.ringTxFrame m l ptp) s = .next t.settleIsolated ∧ (s.macUp m = true → (s.ringOn (m * 2 + 1) = true ∧ (s.macRun m).paused = none ∧ isFrame l = true) → t.fld F.MX_STATS_TXOK m = satAdd (2 ^ F.MX_STATS_TXOK.len - 1) (s.fld F.MX_STATS_TXOK m) 1 ∧ t.fld F.MX_RING_NEXT (m * 2 + 1) = (s.fld F.MX_RING_NEXT (m * 2 + 1) + l.length) % s.ringSize (m * 2 + 1) % 2 ^ 12) ∧ (s.macUp m = false ∨ ¬(s.ringOn (m * 2 + 1) = true ∧ (s.macRun m).paused = none ∧ isFrame l = true) → t = s)) ∧
  (∀ (f : FlowId) (last : Nat) (x : RxFlow) (s : State), ∃ t : State, exec (.st2110Release f last) s = .next t.settleIsolated ∧ (s.enginesRun = true → s.mx.flows.find? (fun y => y.id == f) = some x → (t.rxFlow f 0).next = (if seqRun x.next last = [] then x.next else (last + 1) % 2 ^ 32) ∧ (t.rxFlow f 0).got = x.got.filter (fun y => !(seqRun x.next last).contains y.seq)) ∧ (s.enginesRun = false ∨ s.mx.flows.find? (fun y => y.id == f) = none → t = s)) ∧
  (∀ (p : Nat) (x : SdiLine) (s : State), ∃ t : State, exec (.sdiRxLine p x) s = .next t.settleIsolated ∧ (xportUsed s.sys.role (s.port false p) = true ∧ xType (s.xport false p 0) = xSDI ∧ s.link false p ≠ lkNOTRANSPORT → s.enginesRun = true → t.lane (laneElem true (pDie (s.port false p)) (F.MX_XPORT_LANE.of (s.xport false p 0))) = laLOCKED ∧ t.fld F.LK_STAT_SDIRATE (laneElem true (pDie (s.port false p)) (F.MX_XPORT_LANE.of (s.xport false p 0))) = x.rate % 2 ^ F.LK_STAT_SDIRATE.len) ∧ (s.enginesRun = false ∨ ¬(xportUsed s.sys.role (s.port false p) = true ∧ xType (s.xport false p 0) = xSDI ∧ s.link false p ≠ lkNOTRANSPORT) → t = s)) ∧
  (∀ (p : Nat) (line : Nat) (aud : List (Nat × Nat × Nat)) (l : List Anc) (gap : Bool) (k : List W) (s : State), ∃ t : State, exec (.sdiTxLine p line aud l gap) s = .next t.settleIsolated ∧ (xportUsed s.sys.role (s.port true p) = true ∧ xType (s.xport true p 0) = xSDI ∧ s.link true p ≠ lkNOTRANSPORT → s.essenceOut = true → k = (s.ancBegin true p line (F.MX_XPORT_RECIPE.of (s.xport true p 0)) (line ≤ (s.ancRun true p).line || (s.ancRun true p).line == 0)).rules → t.mx.placed = (ancPlace (ancSpace (pFormat (s.port true p)) line) (l.filter fun a => rulesPass k a) (payloadIdSpots (pFormat (s.port true p)) line ++ aud) 0).1) ∧ (s.essenceOut = false ∨ ¬(xportUsed s.sys.role (s.port true p) = true ∧ xType (s.xport true p 0) = xSDI ∧ s.link true p ≠ lkNOTRANSPORT) → t = s)) ∧
  (∀ (m : Nat) (k : Nat) (up : Bool) (taps : List (Nat × Nat)) (s : State), ∃ t : State, exec (.macLinkChange m up taps) s = .next t.settleIsolated ∧ (s.macOn m = true → k < 4 → (t.macRun m).link = up ∧ (s.patternRuns (laneElem true (m / 16) (m % 16 * 4 + k)) = false → t.lane (laneElem true (m / 16) (m % 16 * 4 + k)) = if up then laLOCKED else laACQUIRE)) ∧ (s.macOn m = false → t = s))

/-- Each of these commands answers a next state whatever the state. A word of TM_REF that passes the common checks is stored, or answered ABSENT where its reference needs what the part or role has not, BUSY where it changes word 1 of an enabled reference. A measurement of an enabled reference with signal, in a mode that runs it, stands in FREQ, as the mean over the last 10 s, and its last offset in OFFSET; of another it changes nothing. QUALTIME of being good qualifies; lost signal of an enabled reference reads LOS; the evaluation selects what R267 gives; a LOCKED second is kept for holdover, another one is not. ACCEPT ends the reference's SPLIT and flags each partner DISAGREE, and is BUSY without SPLIT; REQUALIFY clears its flags, and an enabled one without SPLIT qualifies anew. Completion: under these conditions exec answers a next state, for the constructors tmRefWrite, refMeasurement, refQualify, refLos, selectionEval, agreementCheck, refAccept, refRequalify. (R257, R258, R259, R260, R267, R268, R269, R277.) -/
def Obligations.ReferencesAreMeasuredAndSelected : Prop :=
  (∀ (rq : Req) (r : Nat) (w : Nat) (v : W) (s : State), ∃ t : State, exec (.tmRefWrite rq r w v) s = .next t.settleIsolated ∧ (s.passes rq (putTmRef s rq r [(w, v)]).1 = true → w < 2 → ¬(F.TM_REF_EN.of (newWord [(w, v)] 0 (s.word 0x5010 r 0)) = 1 ∧ ((isPtp r = true ∧ s.caps.media = false) ∨ (isStay r = true ∧ s.sys.role ≠ EDGE))) → ¬(s.refEnabled r = true ∧ (newWord [(w, v)] 1 (s.word 0x5010 r 1)) ≠ s.word 0x5010 r 1) → t.word 0x5010 r w = v ∧ t.replied ⟨0x5010, 0, r⟩ .ok) ∧ (s.passes rq (putTmRef s rq r [(w, v)]).1 = true → (F.TM_REF_EN.of (newWord [(w, v)] 0 (s.word 0x5010 r 0)) = 1 ∧ ((isPtp r = true ∧ s.caps.media = false) ∨ (isStay r = true ∧ s.sys.role ≠ EDGE))) → t.word 0x5010 r w = s.word 0x5010 r w ∧ t.replied ⟨0x5010, 0, r⟩ .absent) ∧ (s.passes rq (putTmRef s rq r [(w, v)]).1 = true → ¬(F.TM_REF_EN.of (newWord [(w, v)] 0 (s.word 0x5010 r 0)) = 1 ∧ ((isPtp r = true ∧ s.caps.media = false) ∨ (isStay r = true ∧ s.sys.role ≠ EDGE))) → (s.refEnabled r = true ∧ (newWord [(w, v)] 1 (s.word 0x5010 r 1)) ≠ s.word 0x5010 r 1) → t.word 0x5010 r w = s.word 0x5010 r w ∧ t.replied ⟨0x5010, 0, r⟩ .busy)) ∧
  (∀ (r : Nat) (n : Nat) (e : List Int) (f : Int) (l : List (Nat × Nat × Int)) (s : State), ∃ t : State, exec (.refMeasurement r e f n) s = .next t.settleIsolated ∧ ((r < 14 ∧ s.refEnabled r = true ∧ s.refRuns r = true ∧ s.pulseFlagged r = false ∧ isPtp r = false ∧ s.refSignal r = true) → l = ((s.now, max 1 n, f) :: (s.ref r).freqs).filter (fun y => s.now < y.1 + secs 10) → t.fld F.TM_REF_STAT_FREQ r = sat32 (roundDiv (l.map fun y => y.2.2 * (y.2.1 : Int)).sum (l.map (·.2.1)).sum) ∧ t.fld F.TM_REF_STAT_OFFSET r = (match (s.refOffsets r e).getLast? with | some g => sat32 (roundDiv g 1000) | none => s.fld F.TM_REF_STAT_OFFSET r)) ∧ (¬(r < 14 ∧ s.refEnabled r = true ∧ s.refRuns r = true ∧ s.pulseFlagged r = false ∧ isPtp r = false ∧ s.refSignal r = true) → e = [] → t = s)) ∧
  (∀ (r : Nat) (since : Nat) (s : State), ∃ t : State, exec (.refQualify r) s = .next t.settleIsolated ∧ ((s.ref r).goodFrom = some since → (s.refEnabled r = true ∧ s.refRuns r = true ∧ (s.ref r).signal = true ∧ s.qstate r = qQUALIFYING ∧ s.flagged r = false) → t.qstate r = qQUALIFIED ∧ since + secs (s.fld F.TM_REF_QUALTIME r) ≤ t.now) ∧ ((s.ref r).goodFrom = none ∨ ¬(s.refEnabled r = true ∧ s.refRuns r = true ∧ (s.ref r).signal = true ∧ s.qstate r = qQUALIFYING ∧ s.flagged r = false) → t = s)) ∧
  (∀ (r : Nat) (s : State), ∃ t : State, exec (.refLos r) s = .next t.settleIsolated ∧ t.qstate r = (if s.refEnabled r then qLOS else s.qstate r)) ∧
  (∀ (s : State), ∃ t : State, exec (.selectionEval) s = .next t.settleIsolated ∧ t.selected = s.selectDue) ∧
  (∀ (temp : Int) (s : State), ∃ t : State, exec (.agreementCheck temp) s = .next t.settleIsolated ∧ (s.timing = tsLOCKED → t.tm.history = ((s.now, s.servoNow, temp) :: s.tm.history).take 1000 ∧ t.tm.learnt = s.tm.learnt + 1 ∧ t.tm.temp = temp) ∧ (s.timing ≠ tsLOCKED → t.tm.history = s.tm.history ∧ t.tm.learnt = s.tm.learnt ∧ t.tm.temp = temp)) ∧
  (∀ (rq : Req) (r : Nat) (q : Nat) (s : State), ∃ t : State, exec (.refAccept rq r) s = .next t.settleIsolated ∧ (s.passes rq ⟨⟨0x5020, 0, r⟩, [(0, 1)], 0, true⟩ = true → s.fld F.TM_REF_STAT_SPLIT r ≠ 0 → q ∈ (s.ref r).partners → t.fld F.TM_REF_STAT_SPLIT r = 0 ∧ t.fld F.TM_REF_STAT_DISAGREE q = 1 ∧ t.replied ⟨0x5020, 0, r⟩ .ok) ∧ (s.passes rq ⟨⟨0x5020, 0, r⟩, [(0, 1)], 0, true⟩ = true → s.fld F.TM_REF_STAT_SPLIT r = 0 → t.tm = s.tm ∧ t.replied ⟨0x5020, 0, r⟩ .busy)) ∧
  (∀ (rq : Req) (r : Nat) (s : State), ∃ t : State, exec (.refRequalify rq r) s = .next t.settleIsolated ∧ (s.passes rq ⟨⟨0x5020, 0, r⟩, [(0, 2)], 0, true⟩ = true → t.fld F.TM_REF_STAT_DISAGREE r = 0 ∧ t.fld F.TM_REF_STAT_STEPREF r = 0 ∧ (s.refEnabled r = true → s.refRuns r = true → s.fld F.TM_REF_STAT_SPLIT r = 0 → t.qstate r = if (s.ref r).signal ∨ s.refSignal r then qQUALIFYING else qLOS) ∧ t.replied ⟨0x5020, 0, r⟩ .ok))

/-- Each of these commands answers a next state whatever the state. At a PTP port that runs and listens, an Announce of its domain, not sent by itself, is kept; at one that does not, a message changes nothing. An Announce timeout of a running port is counted. A master's Announce and Sync, a slave's Delay_Req, leave once an interval, or wait where the MAC is paused; a port in another state sends none. In HOLDOVER the servo takes f(t); learning not yet saved is marked to be saved, and forgotten on command. A word of TM_OUT that passes the common checks is stored, with a period that its alignment admits, or answered FORMAT. Completion: under these conditions exec answers a next state, for the constructors ptpMessageRx, announceTimeout, ptpTxInterval, holdoverUpdate, holdoverLearnSave, holdoverForget, tmOutWrite. (R262, R265, R277, R278, R280, R281.) -/
def Obligations.PtpPortsAndHoldover : Prop :=
  (∀ (p : Nat) (src : Nat) (g : GmData) (m : PtpMsg) (s : State), ∃ t : State, exec (.ptpMessageRx p m) s = .next t.settleIsolated ∧ (m = .announce (s.fld F.TM_PTP_PORT_DOMAIN p) src g → ((p < 4 ∧ s.ptpRuns p = true) ∧ 2 ≤ s.fld F.TM_PTP_STAT_PSTATE p ∧ s.fld F.TM_PTP_STAT_PSTATE p ≠ 7) → src / 65536 ≠ clockIdent → p < s.tm.ptp.length → ((t.ptp p).foreign.any fun y => y == (src, g)) = true) ∧ (m = .announce (s.fld F.TM_PTP_PORT_DOMAIN p + 1) src g → t = s) ∧ (¬((p < 4 ∧ s.ptpRuns p = true) ∧ 2 ≤ s.fld F.TM_PTP_STAT_PSTATE p ∧ s.fld F.TM_PTP_STAT_PSTATE p ≠ 7) → t = s)) ∧
  (∀ (p : Nat) (s : State), ∃ t : State, exec (.announceTimeout p) s = .next t.settleIsolated ∧ ((p < 4 ∧ s.ptpRuns p = true) → t.fld F.TM_PTP_STAT_ANNTIMEOUT p = satAdd (2 ^ F.TM_PTP_STAT_ANNTIMEOUT.len - 1) (s.fld F.TM_PTP_STAT_ANNTIMEOUT p) 1) ∧ (¬(p < 4 ∧ s.ptpRuns p = true) → t = s)) ∧
  (∀ (p : Nat) (n : Nat) (k : PtpTx) (s : State), ∃ t : State, exec (.ptpTxInterval p k n) s = .next t.settleIsolated ∧ ((p < 4 ∧ s.ptpRuns p = true) → p < s.tm.ptp.length → (k = .delayReq ∧ (s.fld F.TM_PTP_STAT_PSTATE p = 3 ∨ s.fld F.TM_PTP_STAT_PSTATE p = 4)) ∨ (k ≠ .delayReq ∧ s.fld F.TM_PTP_STAT_PSTATE p = 5) → (s.macRun (s.fld F.TM_PTP_PORT_MAC p)).paused = none → (s.ptp p).sent < (t.ptp p).sent ∧ (k = .announce → (t.ptp p).sent = (s.ptp p).sent + 1) ∧ (k = .delayReq → (t.ptp p).seqDr = ((s.ptp p).seqDr + 1) % 65536)) ∧ ((p < 4 ∧ s.ptpRuns p = true) → (k = .delayReq ∧ (s.fld F.TM_PTP_STAT_PSTATE p = 3 ∨ s.fld F.TM_PTP_STAT_PSTATE p = 4)) ∨ (k ≠ .delayReq ∧ s.fld F.TM_PTP_STAT_PSTATE p = 5) → (s.macRun (s.fld F.TM_PTP_PORT_MAC p)).paused.isSome = true → (t.macRun (s.fld F.TM_PTP_PORT_MAC p)).waiting = (s.macRun (s.fld F.TM_PTP_PORT_MAC p)).waiting ++ [(p, k)]) ∧ (¬((p < 4 ∧ s.ptpRuns p = true) ∧ ((k = .delayReq ∧ (s.fld F.TM_PTP_STAT_PSTATE p = 3 ∨ s.fld F.TM_PTP_STAT_PSTATE p = 4)) ∨ (k ≠ .delayReq ∧ s.fld F.TM_PTP_STAT_PSTATE p = 5))) → t = s)) ∧
  (∀ (temp : Int) (h : Int × Int × Nat) (s : State), ∃ t : State, exec (.holdoverUpdate temp) s = .next t.settleIsolated ∧ (s.timing = tsHOLDOVER → s.tm.hoFrom = some h → t.tm.integ = s.hoFreq h temp * (ppbUnits / 1000) ∧ t.clk.frac = fracOf (s.hoFreq h temp * (ppbUnits / 1000))) ∧ (s.timing ≠ tsHOLDOVER → t = s)) ∧
  (∀ (s : State), ∃ t : State, exec (.holdoverLearnSave) s = .next t.settleIsolated ∧ (s.tm.learnt ≠ 0 → t.fld F.SY_SAVE_DIRTY 0 = 1) ∧ (s.tm.learnt = 0 → t = s)) ∧
  (∀ (rq : Req) (i : Nat) (s : State), ∃ t : State, exec (.holdoverForget rq) s = .next t.settleIsolated ∧ (s.passes rq ⟨⟨0x5040, 5, 0⟩, [(5, 1)], 0, true⟩ = true → i < 16 → t.word 0x5048 i 0 = 0 ∧ t.tm.learnt = 0 ∧ t.fld F.TM_STATE_AGEVALID 0 = 0 ∧ t.replied ⟨0x5040, 5, 0⟩ .ok)) ∧
  (∀ (rq : Req) (o : Nat) (w : Nat) (v : W) (w0 : W) (s : State), ∃ t : State, exec (.tmOutWrite rq o w v) s = .next t.settleIsolated ∧ (s.passes rq (putTmOut s o [(w, v)]).1 = true → w < 2 → w0 = newWord [(w, v)] 0 (s.word 0x5058 o 0) → ¬((F.TM_OUT_MODE.of w0 = 4 ∧ (format (F.TM_OUT_FORMAT.of w0)).map (·.interlaced) = some false) ∨ s.outPeriodOk w0 = false) → t.word 0x5058 o w = v ∧ t.replied ⟨0x5058, 0, o⟩ .ok) ∧ (s.passes rq (putTmOut s o [(w, v)]).1 = true → w0 = newWord [(w, v)] 0 (s.word 0x5058 o 0) → ((F.TM_OUT_MODE.of w0 = 4 ∧ (format (F.TM_OUT_FORMAT.of w0)).map (·.interlaced) = some false) ∨ s.outPeriodOk w0 = false) → t.word 0x5058 o w = s.word 0x5058 o w ∧ t.replied ⟨0x5058, 0, o⟩ .format))

/-- Each of these commands answers a next state whatever the state. A step that passes the common checks while none waits, carried out at once, sets the counter to the time given, moves it by AMOUNT picoseconds, or by the offset of the reference named, and begins the next epoch; one with WHEN waits PENDING, is EXPIRED where its instant has passed, and is applied at its instant; while one waits another is BUSY; to a reference without an offset it is NOREF. Without one that waits, its instant changes nothing. When the slew ends, H reads as the counter. Rounding an AMOUNT to units of time is the model's (log 82). Completion: under these conditions exec answers a next state, for the constructors stepAbsolute, stepRelative, stepToref, stepApply, slewDone. (R251, R253, R274, R275, R276.) -/
def Obligations.StepsMoveTheClock : Prop :=
  (∀ (rq : Req) (w0 : W) (w1 : W) (w2 : W) (s : State), ∃ t : State, exec (.stepAbsolute rq w0 w1 w2) s = .next t.settleIsolated ∧ (s.passes rq (putTmStep rq (withOp F.TM_STEP_OP w0 1) w1 w2).1 = true → s.tm.step_ = none → F.TM_STEP_WHEN.of (withOp F.TM_STEP_OP w0 1) = 0 → t.clk.count = timeOf (F.TM_STEP_SECONDS.of w1) (F.TM_STEP_NANOSECONDS.of w2) ∧ t.clk.epoch = (s.clk.epoch + 1) % 65536 ∧ t.fld F.TM_STEP_STATUS 0 = 0x10 ∧ t.replied ⟨0x5050, 0, 0⟩ .ok) ∧ (s.passes rq (putTmStep rq (withOp F.TM_STEP_OP w0 1) w1 w2).1 = true → s.tm.step_.isSome = true → t.tm.step_ = s.tm.step_ ∧ t.clk.count = s.clk.count ∧ t.replied ⟨0x5050, 0, 0⟩ .busy)) ∧
  (∀ (rq : Req) (w0 : W) (w1 : W) (w2 : W) (s : State), ∃ t : State, exec (.stepRelative rq w0 w1 w2) s = .next t.settleIsolated ∧ (s.passes rq (putTmStep rq (withOp F.TM_STEP_OP w0 2) w1 w2).1 = true → s.tm.step_ = none → F.TM_STEP_WHEN.of (withOp F.TM_STEP_OP w0 2) = 0 → t.clk.count = (Int.ofNat s.clk.count + roundDiv (signed 32 (F.TM_STEP_AMOUNT.of (withOp F.TM_STEP_OP w0 2)) * nsUnits) 1000).toNat ∧ t.clk.epoch = (s.clk.epoch + 1) % 65536 ∧ t.replied ⟨0x5050, 0, 0⟩ .ok) ∧ (s.passes rq (putTmStep rq (withOp F.TM_STEP_OP w0 2) w1 w2).1 = true → s.tm.step_ = none → F.TM_STEP_WHEN.of (withOp F.TM_STEP_OP w0 2) = 1 → (timeAhead (stepAt w1 w2) s.clk.count).isSome = true → t.tm.step_ = some (withOp F.TM_STEP_OP w0 2, w1, w2) ∧ t.fld F.TM_STEP_STATUS 0 = 2 ∧ t.clk.count = s.clk.count ∧ t.replied ⟨0x5050, 0, 0⟩ .ok) ∧ (s.passes rq (putTmStep rq (withOp F.TM_STEP_OP w0 2) w1 w2).1 = true → s.tm.step_ = none → F.TM_STEP_WHEN.of (withOp F.TM_STEP_OP w0 2) = 1 → timeAhead (stepAt w1 w2) s.clk.count = none → t.clk.count = s.clk.count ∧ t.fld F.TM_STEP_STATUS 0 = 0x27 ∧ t.replied ⟨0x5050, 0, 0⟩ .expired) ∧ (s.passes rq (putTmStep rq (withOp F.TM_STEP_OP w0 2) w1 w2).1 = true → s.tm.step_.isSome = true → t.tm.step_ = s.tm.step_ ∧ t.clk.count = s.clk.count ∧ t.replied ⟨0x5050, 0, 0⟩ .busy)) ∧
  (∀ (rq : Req) (r : Nat) (e : Int) (w0 : W) (w1 : W) (w2 : W) (s : State), ∃ t : State, exec (.stepToref rq w0 w1 w2) s = .next t.settleIsolated ∧ (s.passes rq (putTmStep rq (withOp F.TM_STEP_OP w0 3) w1 w2).1 = true → s.tm.step_ = none → F.TM_STEP_WHEN.of (withOp F.TM_STEP_OP w0 3) = 0 → s.toref (withOp F.TM_STEP_OP w0 3) = some r → s.refOffset r = some e → t.clk.count = (Int.ofNat s.clk.count - roundDiv (e * nsUnits) 1000).toNat ∧ t.clk.epoch = (s.clk.epoch + 1) % 65536 ∧ t.replied ⟨0x5050, 0, 0⟩ .ok) ∧ (s.passes rq (putTmStep rq (withOp F.TM_STEP_OP w0 3) w1 w2).1 = true → s.tm.step_ = none → F.TM_STEP_WHEN.of (withOp F.TM_STEP_OP w0 3) = 0 → (s.toref (withOp F.TM_STEP_OP w0 3)).bind s.refOffset = none → t.clk.count = s.clk.count ∧ t.fld F.TM_STEP_STATUS 0 = 0x33 ∧ t.replied ⟨0x5050, 0, 0⟩ .noref) ∧ (s.passes rq (putTmStep rq (withOp F.TM_STEP_OP w0 3) w1 w2).1 = true → s.tm.step_ = none → F.TM_STEP_WHEN.of (withOp F.TM_STEP_OP w0 3) = 1 → (timeAhead (stepAt w1 w2) s.clk.count).isSome = true → ((s.toref (withOp F.TM_STEP_OP w0 3)).bind s.refOffset).isSome = true → t.tm.step_ = some (withOp F.TM_STEP_OP w0 3, w1, w2) ∧ t.fld F.TM_STEP_STATUS 0 = 2 ∧ t.clk.count = s.clk.count ∧ t.replied ⟨0x5050, 0, 0⟩ .ok) ∧ (s.passes rq (putTmStep rq (withOp F.TM_STEP_OP w0 3) w1 w2).1 = true → s.tm.step_.isSome = true → t.tm.step_ = s.tm.step_ ∧ t.clk.count = s.clk.count ∧ t.replied ⟨0x5050, 0, 0⟩ .busy)) ∧
  (∀ (w0 : W) (w1 : W) (w2 : W) (s : State), ∃ t : State, exec (.stepApply) s = .next t.settleIsolated ∧ (s.tm.step_ = some (w0, w1, w2) → t.tm.step_ = none ∧ t.fld F.TM_STEP_STATUS 0 = 0x10 ∧ t.clk.epoch = (s.clk.epoch + 1) % 65536) ∧ (s.tm.step_ = none → t = s)) ∧
  (∀ (s : State), ∃ t : State, exec (.slewDone) s = .next t.settleIsolated ∧ (s.fld F.TM_STATE_SLEWING 0 ≠ 0 → t.clk.hlag = 0 ∧ t.house = t.clk.count ∧ t.fld F.TM_STATE_SLEWING 0 = 0) ∧ (s.fld F.TM_STATE_SLEWING 0 = 0 → t = s))

/-- Each of these commands answers a next state whatever the state. A request where the part does not listen changes nothing; on a number that is no open session it is answered NOSESSION; one that repeats a kept request is answered as that was, one that repeats a request still awaited gets no answer yet. Otherwise, a READ or BLOCK-READ of one element is answered with its value or with why it may not be read; a WRITE or BLOCK-WRITE of a lease that is free takes it, a WRITE of one item that is not sent on to the twin is answered with that item's status; a SUBSCRIBE that is judged good adds its subscription, and the end of one removes it, and one that is not leaves them and is answered with why. On session number 0 each is answered NOSESSION but for what R320 admits; a challenge is given with or without a session. A READ or WRITE without an item or with more than 64, and a BLOCK-WRITE of more than 1,440 bytes, counts as malformed. Completion: under these conditions exec answers a next state, for the constructors ncpRead, ncpWrite, ncpBlockRead, ncpBlockWrite, ncpSubscribe, ncpUnsubscribe, challengeRead. (R311, R314, R315, R316, R319, R320, R323, R336.) -/
def Obligations.NcpRequestsAreServed : Prop :=
  (∀ (h : Ncp) (rq : Req) (kr : Resp) (x : WireAddr) (l : List WireAddr) (o : Obj) (st : Status) (s : State), ∃ t : State, exec (.ncpRead h l) s = .next t.settleIsolated ∧ (s.alive = true → s.listens h.att = true → s.reqOf h = some rq → s.keptFor h = none → s.awaited h = false → l = [x] → h.session ≠ 0 → s.judgeWire rq x = .ok o → o.size x.addr.e ≤ 1440 → t.host.resp = some ⟨0, false, [⟨x.addr, 0, 1, (((s.stir.takeFrame h).touchSession h).readValue o x.addr.e false).1⟩]⟩) ∧ (s.alive = false ∨ s.listens h.att = false → t = s) ∧ (s.alive = true → s.listens h.att = true → s.reqOf h = none → t.host.resp = some (bareResp .nosession)) ∧ (s.alive = true → s.listens h.att = true → s.reqOf h = some rq → s.keptFor h = some kr → t.host.resp = some kr) ∧ (s.alive = true → s.listens h.att = true → s.reqOf h = some rq → s.keptFor h = none → s.awaited h = true → t.host.resp = none) ∧ (s.alive = true → s.listens h.att = true → s.reqOf h = some rq → s.keptFor h = none → s.awaited h = false → l = [x] → h.session ≠ 0 → s.judgeWire rq x = .error st → t.host.resp = some ⟨st.code, false, [⟨x.addr, st.code, 0, []⟩]⟩) ∧ (s.alive = true → s.listens h.att = true → s.reqOf h = some rq → s.keptFor h = none → s.awaited h = false → h.session = 0 → l = [x] → admitRead x.addr = false → t.host.resp = some ⟨Status.nosession.code, false, [⟨x.addr, Status.nosession.code, 0, []⟩]⟩) ∧ (s.alive = true → s.listens h.att = true → s.reqOf h = some rq → s.keptFor h = none → s.awaited h = false → l = [] ∨ 64 < l.length → t.fld F.CT_NCP_STAT_MALFORMED 0 = satAdd (2 ^ F.CT_NCP_STAT_MALFORMED.len - 1) (s.fld F.CT_NCP_STAT_MALFORMED 0) 1)) ∧
  (∀ (h : Ncp) (rq : Req) (kr : Resp) (x : WItem) (l : List WItem) (e : Nat) (st : Status) (s : State), ∃ t : State, exec (.ncpWrite h l) s = .next t.settleIsolated ∧ (s.alive = true → s.listens h.att = true → s.reqOf h = some rq → s.keptFor h = none → s.awaited h = false → l = [⟨⟨⟨0x6030, 0, e⟩, 0⟩, 1, [1]⟩] → h.session ≠ 0 → s.passes rq (putLease rq e 1).1 = true → (s.fld F.CT_LEASE_HELD e = 1 → s.fld F.CT_LEASE_CTX e = rq.ctx.val) → t.fld F.CT_LEASE_HELD e = 1 ∧ t.fld F.CT_LEASE_CTX e = rq.ctx.val ∧ t.host.resp = some ⟨0, false, [⟨⟨0x6030, 0, e⟩, 0, 0, []⟩]⟩) ∧ (s.alive = false ∨ s.listens h.att = false → t = s) ∧ (s.alive = true → s.listens h.att = true → s.reqOf h = none → t.host.resp = some (bareResp .nosession)) ∧ (s.alive = true → s.listens h.att = true → s.reqOf h = some rq → s.keptFor h = some kr → t.host.resp = some kr) ∧ (s.alive = true → s.listens h.att = true → s.reqOf h = some rq → s.keptFor h = none → s.awaited h = true → t.host.resp = none) ∧ (s.alive = true → s.listens h.att = true → s.reqOf h = some rq → s.keptFor h = none → s.awaited h = false → l = [x] → h.session ≠ 0 → x.val.length ≤ 1440 → (((s.stir.takeFrame h).touchSession h).writeItem rq h x).1 = st → (((s.stir.takeFrame h).touchSession h).writeItem rq h x).2.tw.fwd = s.tw.fwd → t.host.resp = some ⟨st.code, false, [⟨x.at_.addr, st.code, 0, []⟩]⟩) ∧ (s.alive = true → s.listens h.att = true → s.reqOf h = some rq → s.keptFor h = none → s.awaited h = false → h.session = 0 → l = [x] → x.val.length ≤ 1440 → admitWrite x.at_.addr = false → t.host.resp = some ⟨Status.nosession.code, false, [⟨x.at_.addr, Status.nosession.code, 0, []⟩]⟩) ∧ (s.alive = true → s.listens h.att = true → s.reqOf h = some rq → s.keptFor h = none → s.awaited h = false → l = [] ∨ 64 < l.length → t.fld F.CT_NCP_STAT_MALFORMED 0 = satAdd (2 ^ F.CT_NCP_STAT_MALFORMED.len - 1) (s.fld F.CT_NCP_STAT_MALFORMED 0) 1)) ∧
  (∀ (h : Ncp) (rq : Req) (kr : Resp) (x : WireAddr) (n : Nat) (o : Obj) (st : Status) (s : State), ∃ t : State, exec (.ncpBlockRead h x n) s = .next t.settleIsolated ∧ (s.alive = true → s.listens h.att = true → s.reqOf h = some rq → s.keptFor h = none → s.awaited h = false → h.session ≠ 0 → s.judgeWire rq x = .ok o → n = 1 → o.typ.isBytes = false → o.size 0 ≤ 1440 → 0 < o.size 0 → t.host.resp = some ⟨0, false, [⟨x.addr, 0, 1, (((s.stir.takeFrame h).touchSession h).readValue o x.addr.e false).1⟩]⟩) ∧ (s.alive = false ∨ s.listens h.att = false → t = s) ∧ (s.alive = true → s.listens h.att = true → s.reqOf h = none → t.host.resp = some (bareResp .nosession)) ∧ (s.alive = true → s.listens h.att = true → s.reqOf h = some rq → s.keptFor h = some kr → t.host.resp = some kr) ∧ (s.alive = true → s.listens h.att = true → s.reqOf h = some rq → s.keptFor h = none → s.awaited h = true → t.host.resp = none) ∧ (s.alive = true → s.listens h.att = true → s.reqOf h = some rq → s.keptFor h = none → s.awaited h = false → h.session ≠ 0 → s.judgeWire rq x = .error st → t.host.resp = some ⟨st.code, 0 < n, [⟨x.addr, st.code, 0, []⟩]⟩) ∧ (s.alive = true → s.listens h.att = true → s.reqOf h = some rq → s.keptFor h = none → s.awaited h = false → h.session = 0 → t.host.resp = some ⟨Status.nosession.code, false, [⟨x.addr, Status.nosession.code, 0, []⟩]⟩)) ∧
  (∀ (h : Ncp) (rq : Req) (kr : Resp) (e : Nat) (k : Nat) (b : List (List Byte)) (x : WireAddr) (s : State), ∃ t : State, exec (.ncpBlockWrite h x k b) s = .next t.settleIsolated ∧ (s.alive = true → s.listens h.att = true → s.reqOf h = some rq → s.keptFor h = none → s.awaited h = false → x = ⟨⟨0x6030, 0, e⟩, 0⟩ → k = 1 → b = [[1]] → h.session ≠ 0 → s.passes rq (putLease rq e 1).1 = true → (s.fld F.CT_LEASE_HELD e = 1 → s.fld F.CT_LEASE_CTX e = rq.ctx.val) → t.fld F.CT_LEASE_HELD e = 1 ∧ t.fld F.CT_LEASE_CTX e = rq.ctx.val ∧ t.host.resp = some ⟨0, false, [⟨⟨0x6030, 0, e⟩, 0, 1, []⟩]⟩) ∧ (s.alive = false ∨ s.listens h.att = false → t = s) ∧ (s.alive = true → s.listens h.att = true → s.reqOf h = none → t.host.resp = some (bareResp .nosession)) ∧ (s.alive = true → s.listens h.att = true → s.reqOf h = some rq → s.keptFor h = some kr → t.host.resp = some kr) ∧ (s.alive = true → s.listens h.att = true → s.reqOf h = some rq → s.keptFor h = none → s.awaited h = true → t.host.resp = none) ∧ (s.alive = true → s.listens h.att = true → s.reqOf h = some rq → s.keptFor h = none → s.awaited h = false → h.session = 0 → t.host.resp = some ⟨Status.nosession.code, false, [⟨x.addr, Status.nosession.code, 0, []⟩]⟩) ∧ (s.alive = true → s.listens h.att = true → s.reqOf h = some rq → s.keptFor h = none → s.awaited h = false → h.session ≠ 0 → 1440 < (b.map (·.length)).sum → t.fld F.CT_NCP_STAT_MALFORMED 0 = satAdd (2 ^ F.CT_NCP_STAT_MALFORMED.len - 1) (s.fld F.CT_NCP_STAT_MALFORMED 0) 1)) ∧
  (∀ (h : Ncp) (rq : Req) (kr : Resp) (x : WireAddr) (n : Nat) (u : SubTail) (y : Session) (st : Status) (s : State), ∃ t : State, exec (.ncpSubscribe h x n u) s = .next t.settleIsolated ∧ (s.alive = true → s.listens h.att = true → s.reqOf h = some rq → s.keptFor h = none → s.awaited h = false → h.session ≠ 0 → s.session rq.ctx.val = some y → u.action ≠ 2 → s.judgeSub rq x n u.period (u.action == 1 && u.res == 0) = .ok → (t.session rq.ctx.val).map (·.subs) = some (y.subs ++ [newSub s y.subs y.nextSub x.addr n u.period]) ∧ t.host.resp = some ⟨0, false, [⟨x.addr, 0, 0, [BitVec.ofNat 64 (newSub s y.subs y.nextSub x.addr n u.period).id]⟩]⟩) ∧ (s.alive = false ∨ s.listens h.att = false → t = s) ∧ (s.alive = true → s.listens h.att = true → s.reqOf h = none → t.host.resp = some (bareResp .nosession)) ∧ (s.alive = true → s.listens h.att = true → s.reqOf h = some rq → s.keptFor h = some kr → t.host.resp = some kr) ∧ (s.alive = true → s.listens h.att = true → s.reqOf h = some rq → s.keptFor h = none → s.awaited h = true → t.host.resp = none) ∧ (s.alive = true → s.listens h.att = true → s.reqOf h = some rq → s.keptFor h = none → s.awaited h = false → h.session ≠ 0 → s.session rq.ctx.val = some y → u.action ≠ 2 → s.judgeSub rq x n u.period (u.action == 1 && u.res == 0) = st → st ≠ .ok → (t.session rq.ctx.val).map (·.subs) = some y.subs ∧ t.host.resp = some ⟨st.code, false, [⟨x.addr, st.code, 0, [0]⟩]⟩) ∧ (s.alive = true → s.listens h.att = true → s.reqOf h = some rq → s.keptFor h = none → s.awaited h = false → h.session = 0 → t.host.resp = some ⟨Status.nosession.code, false, [⟨x.addr, Status.nosession.code, 0, []⟩]⟩)) ∧
  (∀ (h : Ncp) (rq : Req) (kr : Resp) (x : WireAddr × Nat × SubTail) (y : Session) (st : Status) (s : State), ∃ t : State, exec (.ncpUnsubscribe h x) s = .next t.settleIsolated ∧ (s.alive = true → s.listens h.att = true → s.reqOf h = some rq → s.keptFor h = none → s.awaited h = false → h.session ≠ 0 → s.session rq.ctx.val = some y → judgeUnsub rq y.subs x.2.1 x.2.2.res = .ok → (t.session rq.ctx.val).map (·.subs) = some (y.subs.filter fun z => z.id != x.2.1) ∧ t.host.resp = some ⟨0, false, [⟨x.1.addr, 0, 0, [BitVec.ofNat 64 (x.2.1 % 65536)]⟩]⟩) ∧ (s.alive = false ∨ s.listens h.att = false → t = s) ∧ (s.alive = true → s.listens h.att = true → s.reqOf h = none → t.host.resp = some (bareResp .nosession)) ∧ (s.alive = true → s.listens h.att = true → s.reqOf h = some rq → s.keptFor h = some kr → t.host.resp = some kr) ∧ (s.alive = true → s.listens h.att = true → s.reqOf h = some rq → s.keptFor h = none → s.awaited h = true → t.host.resp = none) ∧ (s.alive = true → s.listens h.att = true → s.reqOf h = some rq → s.keptFor h = none → s.awaited h = false → h.session ≠ 0 → s.session rq.ctx.val = some y → judgeUnsub rq y.subs x.2.1 x.2.2.res = st → st ≠ .ok → (t.session rq.ctx.val).map (·.subs) = some y.subs ∧ t.host.resp = some ⟨st.code, false, [⟨x.1.addr, st.code, 0, [BitVec.ofNat 64 (x.2.1 % 65536)]⟩]⟩) ∧ (s.alive = true → s.listens h.att = true → s.reqOf h = some rq → s.keptFor h = none → s.awaited h = false → h.session = 0 → t.host.resp = some ⟨Status.nosession.code, false, [⟨x.1.addr, Status.nosession.code, 0, []⟩]⟩)) ∧
  (∀ (h : Ncp) (rq : Req) (kr : Resp) (st : Status) (s : State), ∃ t : State, exec (.challengeRead h) s = .next t.settleIsolated ∧ (s.alive = true → s.listens h.att = true → s.reqOf h = some rq → s.keptFor h = none → s.awaited h = false → s.acceptsRead rq ⟨0x6010, 3, 0⟩ = true → t.host.resp = some ⟨0, false, [⟨⟨0x6010, 3, 0⟩, 0, 1, ((s.stir.takeFrame h).touchSession h).hostChallenge.1⟩]⟩) ∧ (s.alive = false ∨ s.listens h.att = false → t = s) ∧ (s.alive = true → s.listens h.att = true → s.reqOf h = none → t.host.resp = some (bareResp .nosession)) ∧ (s.alive = true → s.listens h.att = true → s.reqOf h = some rq → s.keptFor h = some kr → t.host.resp = some kr) ∧ (s.alive = true → s.listens h.att = true → s.reqOf h = some rq → s.keptFor h = none → s.awaited h = true → t.host.resp = none) ∧ (s.alive = true → s.listens h.att = true → s.reqOf h = some rq → s.keptFor h = none → s.awaited h = false → s.judgeWire rq ⟨⟨0x6010, 3, 0⟩, 0⟩ = .error st → t.host.resp = some ⟨st.code, false, [⟨⟨0x6010, 3, 0⟩, st.code, 0, []⟩]⟩))

/-- Each of these commands answers a next state whatever the state. An open below SECURE that passes the common checks, for an enabled context with NCP and ceiling, with a number that no session has, opens the session; for another context or a higher ceiling it is answered AUTH, with a number of another context's session BUSY. A session closes on its own request; another's needs MAINTAIN or SECURE, and closing none is OK. A session ends after TIMEOUT seconds without a request. A request where the part does not listen changes nothing, on a number that is no open session it is answered NOSESSION, a repeated one as before. Completion: under these conditions exec answers a next state, for the constructors sessionOpen, sessionClose, sessionTimeout. (R311, R316, R320, R321.) -/
def Obligations.SessionsOpenAndClose : Prop :=
  (∀ (h : Ncp) (rq : Req) (kr : Resp) (b : List Byte) (z : Fin 4 × Session) (s : State), ∃ t : State, exec (.sessionOpen h b) s = .next t.settleIsolated ∧ (s.alive = true → s.listens h.att = true → s.reqOf h = some rq → s.keptFor h = none → s.awaited h = false → s.passes rq (putOpen ⟨0x6010, 1, 0⟩ (some h) b).1 = true → byteAt b 3 < 3 → (s.fld F.CT_CONTEXT_EN (byteAt b 2) = 1 ∧ s.fld F.CT_CONTEXT_NCP (byteAt b 2) = 1 ∧ byteAt b 3 ≤ s.fld F.CT_CONTEXT_CEILING (byteAt b 2)) → s.sessionOf (byteAt b 0 * 256 + byteAt b 1) = none → byteAt b 2 < s.host.sessions.length → (t.session (byteAt b 2)).map (fun x => (x.number, x.ceil, x.subs)) = some ((byteAt b 0 * 256 + byteAt b 1), Cls.ofNum (byteAt b 3), []) ∧ t.host.resp = some ⟨0, false, [⟨⟨0x6010, 1, 0⟩, 0, 0, []⟩]⟩) ∧ (s.alive = false ∨ s.listens h.att = false → t = s) ∧ (s.alive = true → s.listens h.att = true → s.reqOf h = none → t.host.resp = some (bareResp .nosession)) ∧ (s.alive = true → s.listens h.att = true → s.reqOf h = some rq → s.keptFor h = some kr → t.host.resp = some kr) ∧ (s.alive = true → s.listens h.att = true → s.reqOf h = some rq → s.keptFor h = none → s.awaited h = true → t.host.resp = none) ∧ (s.alive = true → s.listens h.att = true → s.reqOf h = some rq → s.keptFor h = none → s.awaited h = false → s.passes rq (putOpen ⟨0x6010, 1, 0⟩ (some h) b).1 = true → byteAt b 3 < 3 → ¬(s.fld F.CT_CONTEXT_EN (byteAt b 2) = 1 ∧ s.fld F.CT_CONTEXT_NCP (byteAt b 2) = 1 ∧ byteAt b 3 ≤ s.fld F.CT_CONTEXT_CEILING (byteAt b 2)) → t.session (byteAt b 2) = s.session (byteAt b 2) ∧ t.host.resp = some ⟨Status.auth.code, false, [⟨⟨0x6010, 1, 0⟩, Status.auth.code, 0, []⟩]⟩) ∧ (s.alive = true → s.listens h.att = true → s.reqOf h = some rq → s.keptFor h = none → s.awaited h = false → s.passes rq (putOpen ⟨0x6010, 1, 0⟩ (some h) b).1 = true → byteAt b 3 < 3 → (s.fld F.CT_CONTEXT_EN (byteAt b 2) = 1 ∧ s.fld F.CT_CONTEXT_NCP (byteAt b 2) = 1 ∧ byteAt b 3 ≤ s.fld F.CT_CONTEXT_CEILING (byteAt b 2)) → s.sessionOf (byteAt b 0 * 256 + byteAt b 1) = some z → z.1.val ≠ byteAt b 2 → t.session (byteAt b 2) = s.session (byteAt b 2) ∧ t.host.resp = some ⟨Status.busy.code, false, [⟨⟨0x6010, 1, 0⟩, Status.busy.code, 0, []⟩]⟩)) ∧
  (∀ (h : Ncp) (rq : Req) (kr : Resp) (n : Nat) (x : Session) (z : Fin 4 × Session) (s : State), ∃ t : State, exec (.sessionClose h n) s = .next t.settleIsolated ∧ (s.alive = true → s.listens h.att = true → s.reqOf h = some rq → s.keptFor h = none → s.awaited h = false → h.session ≠ 0 → n < 65536 → s.passes rq (putClose rq ⟨0x6010, 2, 0⟩ (BitVec.ofNat 64 n)).1 = true → s.sessionOf n = some (rq.ctx, x) → t.session rq.ctx.val = none) ∧ (s.alive = false ∨ s.listens h.att = false → t = s) ∧ (s.alive = true → s.listens h.att = true → s.reqOf h = none → t.host.resp = some (bareResp .nosession)) ∧ (s.alive = true → s.listens h.att = true → s.reqOf h = some rq → s.keptFor h = some kr → t.host.resp = some kr) ∧ (s.alive = true → s.listens h.att = true → s.reqOf h = some rq → s.keptFor h = none → s.awaited h = true → t.host.resp = none) ∧ (s.alive = true → s.listens h.att = true → s.reqOf h = some rq → s.keptFor h = none → s.awaited h = false → h.session ≠ 0 → n < 65536 → s.passes rq (putClose rq ⟨0x6010, 2, 0⟩ (BitVec.ofNat 64 n)).1 = true → s.sessionOf n = some z → z.1 ≠ rq.ctx → rq.cls ≠ .maintain → rq.cls ≠ .secure → (t.session z.1.val).map (·.number) = some z.2.number ∧ t.host.resp = some ⟨Status.rights.code, false, [⟨⟨0x6010, 2, 0⟩, Status.rights.code, 0, []⟩]⟩) ∧ (s.alive = true → s.listens h.att = true → s.reqOf h = some rq → s.keptFor h = none → s.awaited h = false → h.session ≠ 0 → n < 65536 → s.passes rq (putClose rq ⟨0x6010, 2, 0⟩ (BitVec.ofNat 64 n)).1 = true → s.sessionOf n = none → t.host.resp = some ⟨0, false, [⟨⟨0x6010, 2, 0⟩, 0, 0, []⟩]⟩)) ∧
  (∀ (c : Fin 4) (x : Session) (s : State), ∃ t : State, exec (.sessionTimeout c) s = .next t.settleIsolated ∧ (s.session c.val = some x → t.session c.val = none ∧ x.lastReq + secs x.timeout ≤ t.now) ∧ (s.session c.val = none → t = s))

/-- Each of these commands answers a next state whatever the state, and changes nothing where nothing is due. A period renews its subscription when it is over. The oldest NOTIFY leaves first, one of an event not before its 1 ms is over (the model's reading of R325, log 135); after a drop, a queue below 256 takes one OVERFLOW. An EMERGENCY is sent once by a keeper that stands, and repeated not before 10 ms have passed, twice. Completion: under these conditions exec answers a next state, for the constructors notifyPeriod, notifySend, notifyOverflow, emergencySend, emergencyRepeat. (R325, R327, R328, R333.) -/
def Obligations.NotifiesAndEmergenciesLeave : Prop :=
  (∀ (c : Fin 4) (pcie : Bool) (id : Nat) (x : Sub) (s : State), ∃ t : State, exec (.notifyPeriod c pcie id) s = .next t.settleIsolated ∧ ((s.sideOf c.val pcie).1.find? (fun y => y.id == id && y.period != 0) = some x → (((t.sideOf c.val pcie).1.find? fun y => y.id == id && y.period != 0).map (·.last)) = some t.now ∧ x.last + ms x.period ≤ t.now) ∧ ((s.sideOf c.val pcie).1.find? (fun y => y.id == id && y.period != 0) = none → t = s)) ∧
  (∀ (c : Fin 4) (pcie : Bool) (n : Note) (l : List Note) (s : State), ∃ t : State, exec (.notifySend c pcie) s = .next t.settleIsolated ∧ ((s.sideOf c.val pcie).2.1 = n :: l → (t.sideOf c.val pcie).2.1 = l ∧ (n.cause = 1 → n.born + ms 1 ≤ t.now)) ∧ ((s.sideOf c.val pcie).2.1 = [] → t = s)) ∧
  (∀ (c : Fin 4) (pcie : Bool) (s : State), ∃ t : State, exec (.notifyOverflow c pcie) s = .next t.settleIsolated ∧ ((s.sideOf c.val pcie).2.2 = true ∧ s.queued c.val pcie < 256 → (t.sideOf c.val pcie).2 = ((s.sideOf c.val pcie).2.1 ++ [⟨0, 3, noAddr, [], s.now⟩], false)) ∧ (¬((s.sideOf c.val pcie).2.2 = true ∧ s.queued c.val pcie < 256) → t = s)) ∧
  (∀ (i : Nat) (s : State), ∃ t : State, exec (.emergencySend) s = .next t.settleIsolated ∧ (s.keeperSends = true → (s.host.emerg.findIdx? fun y => y.2.1 == 0) = some i → (t.host.emerg[i]?).map (·.2) = some (1, s.now)) ∧ (s.keeperSends = false ∨ (s.host.emerg.findIdx? fun y => y.2.1 == 0) = none → t = s)) ∧
  (∀ (i : Nat) (x : List W × Nat × Nat) (s : State), ∃ t : State, exec (.emergencyRepeat) s = .next t.settleIsolated ∧ (s.keeperSends = true → (s.host.emerg.findIdx? fun y => y.2.1 == 1 || y.2.1 == 2) = some i → s.host.emerg[i]? = some x → x.2.1 = 1 → (t.host.emerg[i]?).map (·.2) = some (2, t.now) ∧ x.2.2 + ms 10 ≤ t.now) ∧ (s.keeperSends = true → (s.host.emerg.findIdx? fun y => y.2.1 == 1 || y.2.1 == 2) = some i → s.host.emerg[i]? = some x → x.2.1 = 2 → t.host.emerg = s.host.emerg.eraseIdx i ∧ x.2.2 + ms 10 ≤ t.now) ∧ (s.keeperSends = false ∨ (s.host.emerg.findIdx? fun y => y.2.1 == 1 || y.2.1 == 2) = none → t = s))

/-- Each of these commands answers a next state whatever the state. A frame for the attachment with a good message for this node is held; a carrier over 2 ms sets JABBER, a wrong FCS sets FCS, one for another address or tagged or too long changes nothing, one beyond sixteen held counts as dropped. A collision counts an attempt, the sixteenth sets EXCESS and gives the frame up, and the next attempt begins when the backoff has passed. What the backoff draws is open (log 5). A lease that passes the common checks is taken where it is free or the context's own, released by its holder, and broken; else it is BUSY and stays. A word of CT_BUS is stored; one of CT_CONTEXT is stored, but BUSY where after MANUFACTURE no context would serve SECURE. A servo register is stored; a write to an element that does not exist is answered with why. Completion: under these conditions exec answers a next state, for the constructors busFrameRx, busCollision, busBackoffExpire, ctBusWrite, leaseTake, leaseRelease, leaseBreak, ctContextWrite, registerWrite. (R273, R307, R308, R317, R320, R335, R336.) -/
def Obligations.BusesLeasesAndContexts : Prop :=
  (∀ (a : Fin 4) (f : BusFrame) (ip : Nat) (udp : Nat) (m : List Byte) (s : State), ∃ t : State, exec (.busFrameRx a f) s = .next t.settleIsolated ∧ (s.alive = true → f.jabber = false → f.fcsOk = true → f.toMe = true → f.tagged = false → f.len ≤ 1518 → ((s.host.bus[a.val]?).map (·.held.length)).getD 0 < 16 → f.body = .ncp ip udp m → s.ncpDrop m = none → (t.host.bus[a.val]?).map (·.held) = (s.host.bus[a.val]?).map (fun b => b.held ++ [⟨ip, udp, m⟩])) ∧ (s.alive = true → f.jabber = true → t.fld F.CT_BUS_STAT_JABBER a = 1) ∧ (s.alive = true → f.jabber = false → f.fcsOk = false → t.fld F.CT_BUS_STAT_FCS a = 1) ∧ (s.alive = true → f.jabber = false → f.fcsOk = true → f.toMe = true → f.tagged = false → f.len ≤ 1518 → 16 ≤ ((s.host.bus[a.val]?).map (·.held.length)).getD 0 → f.body = .ncp ip udp m → t.fld F.CT_NCP_STAT_BUSDROP 0 = satAdd (2 ^ F.CT_NCP_STAT_BUSDROP.len - 1) (s.fld F.CT_NCP_STAT_BUSDROP 0) 1) ∧ (s.alive = false ∨ (f.jabber = false ∧ f.fcsOk = true ∧ (f.toMe = false ∨ f.tagged = true ∨ 1518 < f.len ∨ f.body = .other)) → t = s)) ∧
  (∀ (a : Fin 4) (late : Bool) (b : BusAtt) (s : State), ∃ t : State, exec (.busCollision a late) s = .next t.settleIsolated ∧ (s.host.bus[a.val]? = some b → s.now ≤ b.since + ms 2 → b.attempts < 15 → (t.host.bus[a.val]?).map (·.attempts) = some (b.attempts + 1) ∧ t.fld F.CT_BUS_STAT_COLL a = 1) ∧ (s.host.bus[a.val]? = some b → s.now ≤ b.since + ms 2 → 15 ≤ b.attempts → (t.host.bus[a.val]?).map (·.attempts) = some 0 ∧ t.fld F.CT_BUS_STAT_EXCESS a = 1) ∧ (s.host.bus[a.val]? = none → t = s)) ∧
  (∀ (a : Fin 4) (b : BusAtt) (s : State), ∃ t : State, exec (.busBackoffExpire a) s = .next t.settleIsolated ∧ (s.host.bus[a.val]? = some b → b.attempts ≠ 0 → (t.host.bus[a.val]?).map (fun x => (x.backoff, x.since)) = some (0, t.now) ∧ b.since + b.backoff * slotUnits ≤ t.now) ∧ (((s.host.bus[a.val]?).map (·.attempts)).getD 0 = 0 → t = s)) ∧
  (∀ (rq : Req) (e : Nat) (v : W) (s : State), ∃ t : State, exec (.ctBusWrite rq e v) s = .next t.settleIsolated ∧ (s.passes rq (putBus e v).1 = true → t.word 0x6020 e 0 = v ∧ t.replied ⟨0x6020, 0, e⟩ .ok)) ∧
  (∀ (rq : Req) (e : Nat) (s : State), ∃ t : State, exec (.leaseTake rq e) s = .next t.settleIsolated ∧ (s.passes rq (putLease rq e 1).1 = true → (s.fld F.CT_LEASE_HELD e = 1 → s.fld F.CT_LEASE_CTX e = rq.ctx.val) → t.fld F.CT_LEASE_HELD e = 1 ∧ t.fld F.CT_LEASE_CTX e = rq.ctx.val ∧ t.replied ⟨0x6030, 0, e⟩ .ok) ∧ (s.passes rq (putLease rq e 1).1 = true → ¬(s.fld F.CT_LEASE_HELD e = 1 → s.fld F.CT_LEASE_CTX e = rq.ctx.val) → t.word 0x6030 e 0 = s.word 0x6030 e 0 ∧ t.replied ⟨0x6030, 0, e⟩ .busy)) ∧
  (∀ (rq : Req) (e : Nat) (s : State), ∃ t : State, exec (.leaseRelease rq e) s = .next t.settleIsolated ∧ (s.passes rq (putLease rq e 2).1 = true → s.fld F.CT_LEASE_HELD e = 1 → s.fld F.CT_LEASE_CTX e = rq.ctx.val → t.fld F.CT_LEASE_HELD e = 0 ∧ t.replied ⟨0x6030, 0, e⟩ .ok) ∧ (s.passes rq (putLease rq e 2).1 = true → s.fld F.CT_LEASE_HELD e ≠ 1 ∨ s.fld F.CT_LEASE_CTX e ≠ rq.ctx.val → t.word 0x6030 e 0 = s.word 0x6030 e 0 ∧ t.replied ⟨0x6030, 0, e⟩ .busy)) ∧
  (∀ (rq : Req) (e : Nat) (s : State), ∃ t : State, exec (.leaseBreak rq e) s = .next t.settleIsolated ∧ (s.passes rq (putLease rq e 3).1 = true → t.fld F.CT_LEASE_HELD e = 0 ∧ t.replied ⟨0x6030, 0, e⟩ .ok)) ∧
  (∀ (rq : Req) (c : Nat) (w : Nat) (v : W) (s : State), ∃ t : State, exec (.ctContextWrite rq c w v) s = .next t.settleIsolated ∧ (s.passes rq (putContext c [(w, v)]).1 = true → (lifeState s = lfMANUFACTURE ∨ (s.putWord 0x6018 c w v).contextServes = true) → t.word 0x6018 c w = v ∧ t.replied ⟨0x6018, 0, c⟩ .ok) ∧ (s.passes rq (putContext c [(w, v)]).1 = true → ¬(lifeState s = lfMANUFACTURE ∨ (s.putWord 0x6018 c w v).contextServes = true) → t.word 0x6018 c w = s.word 0x6018 c w ∧ t.replied ⟨0x6018, 0, c⟩ .busy)) ∧
  (∀ (rq : Req) (n : Nat) (a : Addr) (v : W) (st : Status) (s : State), ∃ t : State, exec (.registerWrite rq a 0 v) s = .next t.settleIsolated ∧ (s.passes rq (putWordOf s rq a 0 v).1 = true → a = ⟨0x5038, n, 0⟩ → 1 ≤ n → t.word 0x5038 0 n = v ∧ t.replied a .ok) ∧ (s.alive = true → findElem s.caps a = .error st → t.replied a st))

/-- Each of these commands answers a next state whatever the state. On an enabled function a read of a readable register of the control block, or of an object's word of at most 8 bytes, completes with its value, and a write stores it; one where nothing stands completes INDEX and LASTSTATUS says so. CLASS is taken at or below CEILING, SECURE after a signed open, else AUTH, or RANGE beyond 3; a signed open with SESSION 0 allows SECURE exactly where its challenge and signature are good, and one of another form is RANGE, for another context AUTH; a SUBSCRIBE judged good adds its subscription, one not adds none and LASTSTATUS says why, ACTION 2 ends one. On a function that is not enabled each is answered RIGHTS. A Function Level Reset starts the function afresh. Which signatures are good is open (log 6). Completion: under these conditions exec answers a next state, for the constructors pcieWindowRead, pcieWindowWrite, pcieClassWrite, pcieAuthSubmit, pcieSubreqSubmit, pcieFlr. (R329, R330, R331, R332, R334, R335, R338.) -/
def Obligations.TheEndpointCarriesAccessesOut : Prop :=
  (∀ (f : Fin 4) (x : PcieFn) (bar2 : Bool) (wide : Bool) (off : Nat) (e : Nat) (v : W) (o : Obj) (s : State), ∃ t : State, exec (.pcieWindowRead f bar2 off wide) s = .next t.settleIsolated ∧ (s.alive = true → s.pcieOn f.val = true → s.host.pcie[f.val]? = some x → bar2 = false → wide = true → off < 0x1000 → off % 8 = 0 → x.control off = .ok v → t.host.resp = some ⟨0, false, [⟨noAddr, 0, 1, [v]⟩]⟩) ∧ (s.alive = true → s.pcieOn f.val = false → s.host.pcie[f.val]? = some x → (t.host.pcie[f.val]?).map (·.lastStatus) = some (BitVec.ofNat 64 (Status.rights.code * 2 ^ 56 + flag bar2 * 2 ^ 55 + off % 2 ^ 36))) ∧ (s.alive = false → t = s) ∧ (s.alive = true → s.pcieOn f.val = true → s.host.pcie[f.val]? = some x → locate s.caps bar2 off wide = some (.word o e 0 0) → o.acc.length * o.typ.bytes ≤ 8 → twoSlots o wide = false → o.ix ≠ 0x6830 → s.acceptsRead (s.pcieReq f) ⟨o.ix, o.sub, e⟩ = true → s.mode ≠ SAFE → t.host.resp = some ⟨0, false, [⟨noAddr, 0, 1, [partOf wide 0 (s.read o.ix e (regWord o.sub 0))]⟩]⟩) ∧ (s.alive = true → s.pcieOn f.val = true → s.host.pcie[f.val]? = some x → locate s.caps bar2 off wide = none → (t.host.pcie[f.val]?).map (·.lastStatus) = some (BitVec.ofNat 64 (Status.index.code * 2 ^ 56 + flag bar2 * 2 ^ 55 + off % 2 ^ 36)) ∧ t.host.resp = some ⟨Status.index.code, false, [⟨noAddr, Status.index.code, 1, [0]⟩]⟩)) ∧
  (∀ (f : Fin 4) (x : PcieFn) (bar2 : Bool) (wide : Bool) (off : Nat) (n : Nat) (v : W) (o : Obj) (s : State), ∃ t : State, exec (.pcieWindowWrite f bar2 off wide v) s = .next t.settleIsolated ∧ (s.alive = true → s.pcieOn f.val = true → s.host.pcie[f.val]? = some x → bar2 = false → wide = true → off = 0x20 → v.toNat % 4096 = 0 → t.host.pcie[f.val]? = some { x with nqBase := v }) ∧ (s.alive = true → s.pcieOn f.val = false → s.host.pcie[f.val]? = some x → (t.host.pcie[f.val]?).map (·.lastStatus) = some (BitVec.ofNat 64 (Status.rights.code * 2 ^ 56 + flag bar2 * 2 ^ 55 + off % 2 ^ 36))) ∧ (s.alive = false → t = s) ∧ (s.alive = true → s.pcieOn f.val = true → s.host.pcie[f.val]? = some x → findObj 0x5038 n = some o → 1 ≤ n → bar2 = false → wide = false → locate s.caps false off false = some (.word o 0 0 0) → o.typ.bytes ≠ 8 → v.toNat < 2 ^ 32 → s.passes (s.pcieReq f) (putWordOf s (s.pcieReq f) ⟨0x5038, n, 0⟩ 0 v).1 = true → t.word 0x5038 0 n = v) ∧ (s.alive = true → s.pcieOn f.val = true → s.host.pcie[f.val]? = some x → locate s.caps bar2 off wide = none → (t.host.pcie[f.val]?).map (·.lastStatus) = some (BitVec.ofNat 64 (Status.index.code * 2 ^ 56 + flag bar2 * 2 ^ 55 + off % 2 ^ 36)))) ∧
  (∀ (f : Fin 4) (x : PcieFn) (v : W) (s : State), ∃ t : State, exec (.pcieClassWrite f v) s = .next t.settleIsolated ∧ (s.alive = true → s.pcieOn f.val = true → s.host.pcie[f.val]? = some x → v.toNat < 4 → (v.toNat ≤ s.fld F.CT_CONTEXT_CEILING f ∧ (v.toNat = 3 → x.authed = true)) → t.host.pcie[f.val]? = some { x with cls := Cls.ofNum v.toNat }) ∧ (s.alive = true → s.pcieOn f.val = false → s.host.pcie[f.val]? = some x → (t.host.pcie[f.val]?).map (·.lastStatus) = some (BitVec.ofNat 64 (Status.rights.code * 2 ^ 56 + 0 * 2 ^ 55 + 0 % 2 ^ 36))) ∧ (s.alive = false → t = s) ∧ (s.alive = true → s.pcieOn f.val = true → s.host.pcie[f.val]? = some x → v.toNat < 4 → ¬(v.toNat ≤ s.fld F.CT_CONTEXT_CEILING f ∧ (v.toNat = 3 → x.authed = true)) → (t.host.pcie[f.val]?).map (·.cls) = some x.cls ∧ (t.host.pcie[f.val]?).map (·.lastStatus) = some (BitVec.ofNat 64 (Status.auth.code * 2 ^ 56 + 0 * 2 ^ 55 + 0 % 2 ^ 36))) ∧ (s.alive = true → s.pcieOn f.val = true → s.host.pcie[f.val]? = some x → 4 ≤ v.toNat → (t.host.pcie[f.val]?).map (·.cls) = some x.cls ∧ (t.host.pcie[f.val]?).map (·.lastStatus) = some (BitVec.ofNat 64 (Status.range.code * 2 ^ 56 + 0 * 2 ^ 55 + 0 % 2 ^ 36)))) ∧
  (∀ (f : Fin 4) (x : PcieFn) (b : List Byte) (s : State), ∃ t : State, exec (.pcieAuthSubmit f b) s = .next t.settleIsolated ∧ (s.alive = true → s.pcieOn f.val = true → s.host.pcie[f.val]? = some x → (openForm b 0 = true ∧ byteAt b 0 = 0 ∧ byteAt b 1 = 0 ∧ byteAt b 3 = 3) → (byteAt b 2 = f.val ∧ s.fld F.CT_CONTEXT_CEILING f = 3) → (t.host.pcie[f.val]?).map (·.authed) = some ((s.openSigned f b).1 || x.authed) ∧ t.host.challenge = (s.useChallenge s.host.challenge ((b.drop 8).take 16)).2) ∧ (s.alive = true → s.pcieOn f.val = false → s.host.pcie[f.val]? = some x → (t.host.pcie[f.val]?).map (·.lastStatus) = some (BitVec.ofNat 64 (Status.rights.code * 2 ^ 56 + 0 * 2 ^ 55 + 0x150 % 2 ^ 36))) ∧ (s.alive = false → t = s) ∧ (s.alive = true → s.pcieOn f.val = true → s.host.pcie[f.val]? = some x → ¬(openForm b 0 = true ∧ byteAt b 0 = 0 ∧ byteAt b 1 = 0 ∧ byteAt b 3 = 3) → (t.host.pcie[f.val]?).map (·.authed) = some x.authed ∧ (t.host.pcie[f.val]?).map (·.lastStatus) = some (BitVec.ofNat 64 (Status.range.code * 2 ^ 56 + 0 * 2 ^ 55 + 0x150 % 2 ^ 36))) ∧ (s.alive = true → s.pcieOn f.val = true → s.host.pcie[f.val]? = some x → (openForm b 0 = true ∧ byteAt b 0 = 0 ∧ byteAt b 1 = 0 ∧ byteAt b 3 = 3) → ¬(byteAt b 2 = f.val ∧ s.fld F.CT_CONTEXT_CEILING f = 3) → (t.host.pcie[f.val]?).map (·.authed) = some x.authed ∧ (t.host.pcie[f.val]?).map (·.lastStatus) = some (BitVec.ofNat 64 (Status.auth.code * 2 ^ 56 + 0 * 2 ^ 55 + 0x150 % 2 ^ 36)))) ∧
  (∀ (f : Fin 4) (x : PcieFn) (lo : W) (hi : W) (a : WireAddr) (n : Nat) (p : Nat) (st : Status) (s : State), ∃ t : State, exec (.pcieSubreqSubmit f lo hi) s = .next t.settleIsolated ∧ (s.alive = true → s.pcieOn f.val = true → s.host.pcie[f.val]? = some x → a = ⟨⟨beOf lo [0, 1], beOf lo [2], beOf lo [4, 5, 6, 7]⟩, leByte lo 3⟩ → n = beOf hi [0, 1, 2, 3] → p = beOf hi [4, 5] → beOf hi [6] ≠ 2 → s.judgeSub (s.pcieReq f) a n p (beOf hi [6] == 1 && leByte hi 7 == 0) = .ok → (t.host.pcie[f.val]?).map (·.subs) = some (x.subs ++ [newSub s x.subs x.nextSub a.addr n p])) ∧ (s.alive = true → s.pcieOn f.val = false → s.host.pcie[f.val]? = some x → (t.host.pcie[f.val]?).map (·.lastStatus) = some (BitVec.ofNat 64 (Status.rights.code * 2 ^ 56 + 0 * 2 ^ 55 + 0x48 % 2 ^ 36))) ∧ (s.alive = false → t = s) ∧ (s.alive = true → s.pcieOn f.val = true → s.host.pcie[f.val]? = some x → a = ⟨⟨beOf lo [0, 1], beOf lo [2], beOf lo [4, 5, 6, 7]⟩, leByte lo 3⟩ → n = beOf hi [0, 1, 2, 3] → p = beOf hi [4, 5] → beOf hi [6] ≠ 2 → s.judgeSub (s.pcieReq f) a n p (beOf hi [6] == 1 && leByte hi 7 == 0) = st → st ≠ .ok → (t.host.pcie[f.val]?).map (·.subs) = some x.subs ∧ (t.host.pcie[f.val]?).map (·.lastStatus) = some (BitVec.ofNat 64 (st.code * 2 ^ 56 + 0 * 2 ^ 55 + 0x48 % 2 ^ 36))) ∧ (s.alive = true → s.pcieOn f.val = true → s.host.pcie[f.val]? = some x → a = ⟨⟨beOf lo [0, 1], beOf lo [2], beOf lo [4, 5, 6, 7]⟩, leByte lo 3⟩ → n = beOf hi [0, 1, 2, 3] → p = beOf hi [4, 5] → beOf hi [6] = 2 → judgeUnsub (s.pcieReq f) x.subs n (leByte hi 7) = .ok → (t.host.pcie[f.val]?).map (·.subs) = some (x.subs.filter fun y => y.id != n))) ∧
  (∀ (f : Fin 4) (s : State), ∃ t : State, exec (.pcieFlr f) s = .next t.settleIsolated ∧ (f.val < s.host.pcie.length → t.host.pcie[f.val]? = some .rest))

/-- Each of these commands answers a next state whatever the state. When the 2 s timer ends, or on FLUSH, a generation of every SAVED value starts; while one is written FLUSH is BUSY and the timer's end changes nothing; read back good it stands in the older copy, and read back bad that copy is no good one and another generation is due; without one its end changes nothing. DEFAULTS and KEEP set and clear the pending restoration; SY_ROLE takes a role that the part accepts, in SAFE, and is else ABSENT or MODE. Completion: under these conditions exec answers a next state, for the constructors settingsTimer, settingsWriteDone, settingsFlush, settingsDefaults, settingsKeep, syRoleWrite. (R346, R347, R348.) -/
def Obligations.TheSettingsAreSaved : Prop :=
  (∀ (due : Nat) (s : State), ∃ t : State, exec (.settingsTimer) s = .next t.settleIsolated ∧ (s.save.timer = some due → s.save.writing = none → t.save.writing = some s.nextImage ∧ t.fld F.SY_SAVE_WRITING 0 = 1 ∧ due ≤ t.now) ∧ (s.save.timer = none ∨ s.save.writing.isSome = true → t = s)) ∧
  (∀ (good : Bool) (img : SavedImage) (s : State), ∃ t : State, exec (.settingsWriteDone good) s = .next t.settleIsolated ∧ (s.save.writing = some img → s.save.copies.length = 2 → t.save.copies[s.oldCopy]? = some (if good then some img else none) ∧ t.save.writing = none ∧ t.fld F.SY_SAVE_WRITING 0 = 0 ∧ (good = false → t.save.timer = some (s.save.timer.getD (s.now + secs 2)))) ∧ (s.save.writing = none → t = s)) ∧
  (∀ (rq : Req) (s : State), ∃ t : State, exec (.settingsFlush rq) s = .next t.settleIsolated ∧ (s.passes rq (putSave 1).1 = true → s.save.writing = none → t.save.writing = some s.nextImage ∧ t.fld F.SY_SAVE_WRITING 0 = 1 ∧ t.replied ⟨0x1028, 3, 0⟩ .ok) ∧ (s.passes rq (putSave 1).1 = true → s.save.writing.isSome = true → t.save = s.save ∧ t.replied ⟨0x1028, 3, 0⟩ .busy)) ∧
  (∀ (rq : Req) (s : State), ∃ t : State, exec (.settingsDefaults rq) s = .next t.settleIsolated ∧ (s.passes rq (putSave 2).1 = true → t.fld F.SY_SAVE_DEFAULTS 0 = 1 ∧ t.replied ⟨0x1028, 3, 0⟩ .ok)) ∧
  (∀ (rq : Req) (s : State), ∃ t : State, exec (.settingsKeep rq) s = .next t.settleIsolated ∧ (s.passes rq (putSave 3).1 = true → t.fld F.SY_SAVE_DEFAULTS 0 = 0 ∧ t.replied ⟨0x1028, 3, 0⟩ .ok)) ∧
  (∀ (rq : Req) (v : W) (s : State), ∃ t : State, exec (.syRoleWrite rq v) s = .next t.settleIsolated ∧ (s.passes rq (putRole v).1 = true → s.mode = SAFE → s.caps.accepts v.toNat = true → t.word 0x1018 0 0 = v ∧ t.replied ⟨0x1018, 0, 0⟩ .ok) ∧ (s.passes rq (putRole v).1 = true → s.mode ≠ SAFE → t.word 0x1018 0 0 = s.word 0x1018 0 0 ∧ t.replied ⟨0x1018, 0, 0⟩ .mode) ∧ (s.passes rq (putRole v).1 = true → s.mode = SAFE → s.caps.accepts v.toNat = false → t.word 0x1018 0 0 = s.word 0x1018 0 0 ∧ t.replied ⟨0x1018, 0, 0⟩ .absent))

/-- Each of these commands answers a next state whatever the state. An uncorrectable error of one of the five counted regions of a die's SRAM counts in that region's counter, and one of no region of a die changes nothing; a scrub pass adds what it corrected. A sillage that fails reads FAILED, and what was lost is no longer in it; a failed one stays as it is. MM_CHANNEL that passes the common checks is written in SAFE and LOAD, its SCRUB in every mode; else it is MODE. On a channel that serves, a recalibration is counted, and a temperature gives TBAND and doubles refresh above 85 °C; where patrol scrub runs, a pass adds its corrected lines; on another channel each changes nothing. Completion: under these conditions exec answers a next state, for the constructors sramUe, sramScrub, sillageFail, mmChannelWrite, dramRecal, refreshRateCheck, scrubPassDone. (R372, R373, R375, R379, R380, R381, R405.) -/
def Obligations.MemoryErrorsAreCounted : Prop :=
  (∀ (d : Nat) (region : Nat) (addr : Nat) (unit : Nat) (s : State), ∃ t : State, exec (.sramUe d region addr unit) s = .next t.settleIsolated ∧ (d < s.dies → region < 5 → t.fld ⟨0x7008, region, 0, 32⟩ d = satAdd (2 ^ 32 - 1) (s.fld ⟨0x7008, region, 0, 32⟩ d) 1) ∧ (d < s.dies → region = 5 → s.sillageOk d = true → t.fld F.EV_SILLAGE_STATE d = 1) ∧ (s.dies ≤ d ∨ 6 ≤ region → t = s)) ∧
  (∀ (d : Nat) (corrected : Nat × List (Nat × Nat)) (ue : List (Nat × Nat × Nat)) (s : State), ∃ t : State, exec (.sramScrub d corrected ue) s = .next t.settleIsolated ∧ (d < s.dies → t.fld F.MM_SRAM_STAT_CORRECTED d = satAdd (2 ^ 32 - 1) (s.fld F.MM_SRAM_STAT_CORRECTED d) corrected.1) ∧ (s.dies ≤ d → t = s)) ∧
  (∀ (d : Nat) (addr : Nat) (lost : List Nat) (s : State), ∃ t : State, exec (.sillageFail d addr lost) s = .next t.settleIsolated ∧ (s.sillageOk d = true → t.fld F.EV_SILLAGE_STATE d = 1 ∧ ((t.sillageOf d).all fun r => !lost.contains r.seq) = true) ∧ (s.sillageOk d = false → t = s)) ∧
  (∀ (rq : Req) (c : Nat) (v : W) (s : State), ∃ t : State, exec (.mmChannelWrite rq c v) s = .next t.settleIsolated ∧ (s.passes rq (putChannel c v).1 = true → ¬(F.MM_CHANNEL_SCRUB.put v 0 ≠ F.MM_CHANNEL_SCRUB.put (s.word 0x7010 c 0) 0 ∧ ¬(s.mode = SAFE ∨ s.mode = LOAD)) → t.word 0x7010 c 0 = v ∧ t.replied ⟨0x7010, 0, c⟩ .ok) ∧ (s.passes rq (putChannel c v).1 = true → (F.MM_CHANNEL_SCRUB.put v 0 ≠ F.MM_CHANNEL_SCRUB.put (s.word 0x7010 c 0) 0 ∧ ¬(s.mode = SAFE ∨ s.mode = LOAD)) → t.word 0x7010 c 0 = s.word 0x7010 c 0 ∧ t.replied ⟨0x7010, 0, c⟩ .mode)) ∧
  (∀ (c : Nat) (s : State), ∃ t : State, exec (.dramRecal c) s = .next t.settleIsolated ∧ (s.chanServes c = true → (t.mm.recals.find? fun x => x.1 == c) = some (c, ((s.mm.recals.find? fun x => x.1 == c).map (·.2)).getD 0 + 1)) ∧ (s.chanServes c = false → t = s)) ∧
  (∀ (c : Nat) (temp : Nat) (s : State), ∃ t : State, exec (.refreshRateCheck c temp) s = .next t.settleIsolated ∧ (s.chanServes c = true → t.fld F.MM_CHAN_STAT_TBAND c = (if temp ≤ 80 then 0 else if temp ≤ 85 then 1 else if temp ≤ 95 then 2 else 3) ∧ t.fld F.MM_CHAN_STAT_REFX2 c = (if 85 < temp then 1 else if temp ≤ 80 then 0 else s.fld F.MM_CHAN_STAT_REFX2 c)) ∧ (s.chanServes c = false → t = s)) ∧
  (∀ (c : Nat) (corrected : List Nat) (bad : List Nat) (s : State), ∃ t : State, exec (.scrubPassDone c corrected bad) s = .next t.settleIsolated ∧ (s.scrubs c = true → t.fld F.MM_CHAN_STAT_CE c = satAdd (2 ^ F.MM_CHAN_STAT_CE.len - 1) (s.fld F.MM_CHAN_STAT_CE c) (corrected.take 4).sum) ∧ (s.scrubs c = false → t = s))

/-- Each of these commands answers a next state whatever the state. On a channel that serves, a DATA rank that fails is copied to the channel's spare, and with no spare it is LOST; a spare that fails is LOST; on another channel nothing changes. MIGRATE in STANDBY and ACTIVE copies a DATA rank to a fitted spare, and is BUSY where it cannot; RETIRE retires a rank and RESTORE ends a mark, in SAFE and LOAD; REPLAN, in STANDBY and ACTIVE, that places every lost item leaves none of the channel lost, and is CAPACITY where it cannot; in another mode each is MODE. A held item that is copied serves again, and at the end of the copy the spare is DATA and the rank RETIRED; without a copy these change nothing. Completion: under these conditions exec answers a next state, for the constructors rankFail, rankMigrate, rankRetire, rankRestore, rankReplan, migrationHeldItemCopied, migrationDone. (R382, R384, R385, R386, R388.) -/
def Obligations.RanksFailMoveAndReturn : Prop :=
  (∀ (e : Nat) (n : Nat) (cause : RankFault) (s : State), ∃ t : State, exec (.rankFail e cause) s = .next t.settleIsolated ∧ (s.chanServes (e / 4) = true → s.rank e = raDATA → s.spareRank (e / 4) = some n → t.rank e = raSOURCE ∧ t.rank n = raTARGET ∧ t.dramState (e / 4) = chMIGRATING) ∧ (s.chanServes (e / 4) = true → s.rank e = raDATA → s.spareRank (e / 4) = none → t.rank e = raLOST) ∧ (s.chanServes (e / 4) = true → s.rank e = raSPARE → t.rank e = raLOST) ∧ (s.chanServes (e / 4) = false → t = s)) ∧
  (∀ (rq : Req) (e : Nat) (v : W) (n : Nat) (s : State), ∃ t : State, exec (.rankMigrate rq e v) s = .next t.settleIsolated ∧ (s.passes rq (putRankCmd e (F.MM_CMD_COMMAND.put v 1)).1 = true → s.admits = true → s.spareRank (e / 4) = some n → (s.rank e = raDATA ∧ s.dramState (e / 4) ≠ chMIGRATING ∧ s.chanServes (e / 4) = true ∧ (s.spareRank (e / 4)).isSome = true) → t.rank e = raSOURCE ∧ t.rank n = raTARGET ∧ t.dramState (e / 4) = chMIGRATING ∧ t.replied ⟨0x7028, 0, e⟩ .ok) ∧ (s.passes rq (putRankCmd e (F.MM_CMD_COMMAND.put v 1)).1 = true → s.admits = false → t.rank e = s.rank e ∧ t.replied ⟨0x7028, 0, e⟩ .mode) ∧ (s.passes rq (putRankCmd e (F.MM_CMD_COMMAND.put v 1)).1 = true → s.admits = true → ¬(s.rank e = raDATA ∧ s.dramState (e / 4) ≠ chMIGRATING ∧ s.chanServes (e / 4) = true ∧ (s.spareRank (e / 4)).isSome = true) → t.rank e = s.rank e ∧ t.replied ⟨0x7028, 0, e⟩ .busy)) ∧
  (∀ (rq : Req) (e : Nat) (v : W) (s : State), ∃ t : State, exec (.rankRetire rq e v) s = .next t.settleIsolated ∧ (s.passes rq (putRankCmd e (F.MM_CMD_COMMAND.put v 2)).1 = true → (s.mode = SAFE ∨ s.mode = LOAD) → t.rank e = raRETIRED ∧ t.mm.retired.contains e = true ∧ t.replied ⟨0x7028, 0, e⟩ .ok) ∧ (s.passes rq (putRankCmd e (F.MM_CMD_COMMAND.put v 2)).1 = true → ¬(s.mode = SAFE ∨ s.mode = LOAD) → t.rank e = s.rank e ∧ t.replied ⟨0x7028, 0, e⟩ .mode)) ∧
  (∀ (rq : Req) (e : Nat) (v : W) (s : State), ∃ t : State, exec (.rankRestore rq e v) s = .next t.settleIsolated ∧ (s.passes rq (putRankCmd e (F.MM_CMD_COMMAND.put v 3)).1 = true → (s.mode = SAFE ∨ s.mode = LOAD) → t.mm.retired.contains e = false ∧ t.rank e = (if s.mm.retired.contains e = true ∨ s.rank e = raLOST then raNOTFITTED else s.rank e) ∧ t.replied ⟨0x7028, 0, e⟩ .ok) ∧ (s.passes rq (putRankCmd e (F.MM_CMD_COMMAND.put v 3)).1 = true → ¬(s.mode = SAFE ∨ s.mode = LOAD) → t.rank e = s.rank e ∧ t.replied ⟨0x7028, 0, e⟩ .mode)) ∧
  (∀ (rq : Req) (e : Nat) (v : W) (s : State), ∃ t : State, exec (.rankReplan rq e v) s = .next t.settleIsolated ∧ (s.passes rq (putRankCmd e (F.MM_CMD_COMMAND.put v 4)).1 = true → s.admits = true → (s.replan (e / 4)).1 = true → (t.mm.items.all fun x => !(x.lost && x.rank / 4 == e / 4)) = true ∧ t.replied ⟨0x7028, 0, e⟩ .ok) ∧ (s.passes rq (putRankCmd e (F.MM_CMD_COMMAND.put v 4)).1 = true → s.admits = false → t.mm.items = s.mm.items ∧ t.replied ⟨0x7028, 0, e⟩ .mode) ∧ (s.passes rq (putRankCmd e (F.MM_CMD_COMMAND.put v 4)).1 = true → s.admits = true → (s.replan (e / 4)).1 = false → t.replied ⟨0x7028, 0, e⟩ .capacity)) ∧
  (∀ (c : Nat) (k : Nat) (owner : Nat) (buf : Nat) (m : Migr) (s : State), ∃ t : State, exec (.migrationHeldItemCopied c k owner buf) s = .next t.settleIsolated ∧ (s.migration c = some m → (t.mm.items.all fun x => !(x.rank == m.src && x.kind == k && x.owner == owner && x.buf == buf) || (!x.held && x.copied)) = true) ∧ (s.migration c = none → t = s)) ∧
  (∀ (c : Nat) (m : Migr) (s : State), ∃ t : State, exec (.migrationDone c) s = .next t.settleIsolated ∧ (s.migration c = some m → s.dramState c = chMIGRATING → m.src ≠ m.dst → t.rank m.src = raRETIRED ∧ t.mm.retired.contains m.src = true ∧ t.rank m.dst = raDATA ∧ t.migration c = none ∧ t.fld F.MM_CHAN_STAT_COPYPCT c = 0 ∧ (t.dramState c = chSERVICE ∨ t.dramState c = chDEGRADED)) ∧ (s.migration c = none ∨ s.dramState c ≠ chMIGRATING → t = s))

/-- Each of these commands answers a next state whatever the state. A fault of a code without a unit is recorded, and runs at once on an idle manager of a die that stands; a code not listed, or of a die that is isolated or absent, changes nothing. When a handler ends, the one it suspended resumes, or the one that waits begins, or none runs; without one its end changes nothing. ACK leaves no DEGRADE open. RETEST of a failed sillage that passes puts it back, one that fails leaves it failed, and of one that stands it is BUSY; a record that is open closes when 10 s pass without a merge; a cursor that passes the common checks is set and MISSED ends. A clear whose challenge and signature are good, of every die, leaves only its own record; any other is refused AUTH. Which signatures are good is open (log 6). Completion: under these conditions exec answers a next state, for the constructors faultRaised, handlerEnd, faultAck, sillageRetest, recordClose, evCursorWrite, clearChallengeRead, sillageClear. (R392, R394, R397, R400, R401, R403, R404.) -/
def Obligations.FaultsAreTakenAndClosed : Prop :=
  (∀ (code : Nat) (die : Nat) (p1 : Nat) (p2 : Nat) (p3 : Nat) (own : Bool) (s : State), ∃ t : State, exec (.faultRaised code die p1 p2 p3 own) s = .next t.settleIsolated ∧ (codeListed code = true → codeUnit code = .none → code ≠ 0x7001 → die < s.dies → die ∉ s.sys.isolated → die < s.ev.mgr.length → s.dies ≤ s.ev.sillage.length → (s.holder die).isSome = true → (s.faultMgr die).running = none → t.recorded code die (p1 % 2 ^ 32) ∧ ((t.faultMgr die).running.map fun f => (f.code, f.p1)) = some (code, p1 % 2 ^ 32)) ∧ (codeListed code = false ∨ s.dies ≤ die ∨ die ∈ s.sys.isolated → t = s)) ∧
  (∀ (d : Nat) (f : FaultRun) (g : FaultRun) (l : List FaultRun) (s : State), ∃ t : State, exec (.handlerEnd d) s = .next t.settleIsolated ∧ (d < s.ev.mgr.length → (s.faultMgr d).running = some f → (s.faultMgr d).suspended = g :: l → (t.faultMgr d).running = some g ∧ (t.faultMgr d).suspended = l) ∧ (d < s.ev.mgr.length → (s.faultMgr d).running = some f → (s.faultMgr d).suspended = [] → (s.faultMgr d).queue = [g] → (t.faultMgr d).running = some g ∧ (t.faultMgr d).queue = []) ∧ (d < s.ev.mgr.length → (s.faultMgr d).running = some f → (s.faultMgr d).suspended = [] → (s.faultMgr d).queue = [] → (t.faultMgr d).running = none) ∧ ((s.faultMgr d).running = none → t = s)) ∧
  (∀ (rq : Req) (d : Nat) (s : State), ∃ t : State, exec (.faultAck rq d) s = .next t.settleIsolated ∧ (s.passes rq (putEvCmd d 1 false).1 = true → ((t.faultMgr d).opened.all fun f => f.level != .degrade) = true ∧ t.replied ⟨0x7840, 0, d⟩ .ok)) ∧
  (∀ (rq : Req) (d : Nat) (pass : Bool) (s : State), ∃ t : State, exec (.sillageRetest rq d pass) s = .next t.settleIsolated ∧ (s.passes rq (putEvCmd d 2 pass).1 = true → s.fld F.EV_SILLAGE_STATE d ≠ 0 → (if pass = true ∧ d ∉ s.sys.isolated then t.fld F.EV_SILLAGE_STATE d = 0 ∧ t.fld F.EV_SILLAGE_RELAYTO d = 0 else t.fld F.EV_SILLAGE_STATE d = s.fld F.EV_SILLAGE_STATE d) ∧ t.replied ⟨0x7840, 0, d⟩ .ok) ∧ (s.passes rq (putEvCmd d 2 pass).1 = true → s.fld F.EV_SILLAGE_STATE d ≠ 0 → pass = false → t.fld F.EV_SILLAGE_STATE d = s.fld F.EV_SILLAGE_STATE d ∧ t.replied ⟨0x7840, 0, d⟩ .ok) ∧ (s.passes rq (putEvCmd d 2 pass).1 = true → s.fld F.EV_SILLAGE_STATE d = 0 → t.fld F.EV_SILLAGE_STATE d = 0 ∧ t.replied ⟨0x7840, 0, d⟩ .busy)) ∧
  (∀ (d : Nat) (n : Nat) (r : Rec) (s : State), ∃ t : State, exec (.recordClose d n) s = .next t.settleIsolated ∧ (((s.sillageOf d).find? fun x => x.seq == n) = some r → r.opened = true → ((t.sillageOf d).all fun x => x.seq != n || !x.opened) = true ∧ r.touched + secs 10 ≤ t.now) ∧ ((((s.sillageOf d).find? fun x => x.seq == n).map (·.opened)).getD false = false → t = s)) ∧
  (∀ (rq : Req) (c : Nat) (v : W) (s : State), ∃ t : State, exec (.evCursorWrite rq c v) s = .next t.settleIsolated ∧ (s.passes rq (putCursor s c v).1 = true → t.fld F.EV_CURSOR_CURSOR c = F.EV_CURSOR_CURSOR.of v ∧ t.fld F.EV_CURSOR_MISSED c = 0 ∧ t.replied ⟨0x7820, 0, c⟩ .ok)) ∧
  (∀ (rq : Req) (st : Status) (s : State), ∃ t : State, exec (.clearChallengeRead rq) s = .next t.settleIsolated ∧ (s.acceptsRead rq ⟨0x7830, 1, 0⟩ = true → t.repliedData ⟨0x7830, 1, 0⟩ s.clearChallenge.1) ∧ (s.alive = true → s.judgeRead rq ⟨0x7830, 1, 0⟩ = .error st → t.replied ⟨0x7830, 1, 0⟩ st)) ∧
  (∀ (rq : Req) (blob : List Byte) (s : State), ∃ t : State, exec (.sillageClear rq blob) s = .next t.settleIsolated ∧ (s.passes rq (putClear s blob).1 = true → if (s.useChallenge s.ev.clearCh (blob.take 16)).1 = true ∧ Config.ed25519 (s.contextKey (byteAt blob 16)) (blob.take 24) (blob.drop 24) = true then t.replied ⟨0x7830, 2, 0⟩ .ok ∧ (byteAt blob 17 % 16 = 15 → (t.records.all fun r => r.code == 0x7802) = true) else t.replied ⟨0x7830, 2, 0⟩ .auth))

/-- Each of these commands answers a next state whatever the state, and changes nothing at an input that does not exist. An edge moves LEVEL. A level of an input that does not chatter, held for MINW, is qualified and counted; an input active for longer than STUCK reads STUCK; one that chatters returns to its level after HOLD; without such a level, STUCK or chatter nothing changes. A word of EV_GPI that passes the common checks is stored. Completion: under these conditions exec answers a next state, for the constructors gpiRawEdge, gpiQualify, gpiStuck, gpiUnmask, evGpiWrite. (R407, R408, R409, R410.) -/
def Obligations.InputsAreQualified : Prop :=
  (∀ (i : Nat) (s : State), ∃ t : State, exec (.gpiRawEdge i) s = .next t.settleIsolated ∧ (i < 36 → i < s.ev.gpi.length → (t.gpi i).raw = !(s.gpi i).raw ∧ t.fld F.EV_GPI_STAT_LEVEL i = flag (!(s.gpi i).raw)) ∧ (36 ≤ i → t = s)) ∧
  (∀ (i : Nat) (s : State), ∃ t : State, exec (.gpiQualify i) s = .next t.settleIsolated ∧ ((i < 36 ∧ s.gpiState i ≠ gpCHATTER ∧ s.gpiLevel i ≠ (s.gpi i).active) → i < s.ev.gpi.length → t.gpiState i = (if s.gpiLevel i = true then gpACTIVE else gpINACTIVE) ∧ (t.gpi i).active = s.gpiLevel i ∧ t.fld F.EV_GPI_STAT_QEDGES i = satAdd (2 ^ F.EV_GPI_STAT_QEDGES.len - 1) (s.fld F.EV_GPI_STAT_QEDGES i) 1 ∧ (s.gpi i).since + us (s.fld F.EV_GPI_MINW i) ≤ t.now) ∧ (¬(i < 36 ∧ s.gpiState i ≠ gpCHATTER ∧ s.gpiLevel i ≠ (s.gpi i).active) → t = s)) ∧
  (∀ (i : Nat) (s : State), ∃ t : State, exec (.gpiStuck i) s = .next t.settleIsolated ∧ ((i < 36 ∧ s.gpiState i = gpACTIVE ∧ s.fld F.EV_GPI_STUCK i ≠ 0) → t.gpiState i = gpSTUCK ∧ t.fld F.EV_GPI_STAT_STUCKS i = satAdd (2 ^ F.EV_GPI_STAT_STUCKS.len - 1) (s.fld F.EV_GPI_STAT_STUCKS i) 1 ∧ (s.gpi i).actSince + secs (s.fld F.EV_GPI_STUCK i) ≤ t.now) ∧ (¬(i < 36 ∧ s.gpiState i = gpACTIVE ∧ s.fld F.EV_GPI_STUCK i ≠ 0) → t = s)) ∧
  (∀ (i : Nat) (s : State), ∃ t : State, exec (.gpiUnmask i) s = .next t.settleIsolated ∧ ((i < 36 ∧ s.gpiState i = gpCHATTER) → t.gpiState i = (if s.gpiLevel i = true then gpACTIVE else gpINACTIVE) ∧ (s.gpi i).since + ms (s.fld F.EV_GPI_HOLD i) ≤ t.now) ∧ (¬(i < 36 ∧ s.gpiState i = gpCHATTER) → t = s)) ∧
  (∀ (rq : Req) (i : Nat) (v : W) (s : State), ∃ t : State, exec (.evGpiWrite rq i v) s = .next t.settleIsolated ∧ (s.passes rq (putGpi i v).1 = true → t.word 0x7848 i 0 = v ∧ t.replied ⟨0x7848, 0, i⟩ .ok))

/-- Each of these commands answers a next state whatever the state. A policy that passes the common checks is stored and adds an attestation entry. A nonce starts a quote, is BUSY while one is made, and the quote when ready begins with the bytes of R421. Bytes written to FW_FLASH outside an update stand in the half that does not run, and are BUSY during one. STAGE of a half whose images are good ends STAGED, of one that cannot be read, or whose images are not good, REJECTED with the cause; outside VERIFYING its end changes nothing. Completion: under these conditions exec answers a next state, for the constructors sigPolicyWrite, quoteRequest, quoteReady, fwFlashWrite, stageDone. (R415, R416, R420, R421, R424, R425.) -/
def Obligations.PolicyAttestationAndFlash : Prop :=
  (∀ (rq : Req) (v : W) (s : State), ∃ t : State, exec (.sigPolicyWrite rq v) s = .next t.settleIsolated ∧ (s.passes rq (putSigPolicy rq v).1 = true → t.word 0x8018 0 0 = v ∧ t.fw.entries = s.fw.entries + 1 ∧ t.replied ⟨0x8018, 0, 0⟩ .ok)) ∧
  (∀ (rq : Req) (nonce : List Byte) (s : State), ∃ t : State, exec (.quoteRequest rq nonce) s = .next t.settleIsolated ∧ (s.passes rq (putNonce nonce).1 = true → s.fw.nonce = none → t.fw.nonce = some nonce ∧ t.replied ⟨0x8040, 1, 0⟩ .ok) ∧ (s.passes rq (putNonce nonce).1 = true → s.fw.nonce.isSome = true → t.fw.nonce = s.fw.nonce ∧ t.replied ⟨0x8040, 1, 0⟩ .busy)) ∧
  (∀ (nonce : List Byte) (s : State), ∃ t : State, exec (.quoteReady) s = .next t.settleIsolated ∧ (s.fw.nonce = some nonce → t.fw.nonce = none ∧ t.fw.quote.take (s.quoteBody nonce).length = s.quoteBody nonce) ∧ (s.fw.nonce = none → t = s)) ∧
  (∀ (rq : Req) (off : Nat) (bytes : List Byte) (s : State), ∃ t : State, exec (.fwFlashWrite rq off bytes) s = .next t.settleIsolated ∧ (s.passes rq (putFlash off bytes).1 = true → s.fw.halves.length = 2 → ¬(1 ≤ s.fwState ∧ s.fwState ≤ 5) → (t.half (1 - s.runHalf)).span off bytes.length = bytes ∧ t.fwState = fwIDLE ∧ t.replied ⟨0x8030, 0, off⟩ .ok) ∧ (s.passes rq (putFlash off bytes).1 = true → (1 ≤ s.fwState ∧ s.fwState ≤ 5) → t.fw = s.fw ∧ t.fwState = s.fwState ∧ t.replied ⟨0x8030, 0, off⟩ .busy)) ∧
  (∀ (flashOk : Bool) (x : Nat × Nat) (s : State), ∃ t : State, exec (.stageDone flashOk) s = .next t.settleIsolated ∧ (s.fw.halves.length = 2 → s.fwState = fwVERIFYING → flashOk = true → (s.half s.writeHalf).recordGood = true → s.halfFault s.writeHalf = none → t.fwState = fwSTAGED ∧ t.fld F.FW_STATE_CAUSE 0 = 0 ∧ (t.half (1 - s.runHalf)).state = 1) ∧ (s.fwState = fwVERIFYING → flashOk = false → t.fwState = fwREJECTED ∧ t.fld F.FW_STATE_CAUSE 0 = 9) ∧ (s.fwState = fwVERIFYING → flashOk = true → (s.half s.writeHalf).recordGood = true → s.halfFault s.writeHalf = some x → t.fwState = fwREJECTED ∧ t.fld F.FW_STATE_CAUSE 0 = x.2 % 2 ^ F.FW_STATE_CAUSE.len) ∧ (s.fwState ≠ fwVERIFYING → t = s))

/-- Each of these commands answers a next state whatever the state. One that passes the common checks, in a mode that takes it and in its state: STAGE verifies; ACTIVATE of a staged bundle prepares it, for the first line 1 two seconds on or at the time given, and in SAFE chooses it for the next LOAD; COMMIT of a trial that leaves keys enough makes the running half the one that boots; ROLLBACK sets the instant at which the other half returns, two seconds on or at the time given; ABANDON gives an update up. In another mode it is MODE, in another state BUSY, and with a time too near or past EXPIRED, and the update stands. Completion: under these conditions exec answers a next state, for the constructors fwStage, fwActivate, fwCommit, fwRollback, fwAbandon. (R423, R425, R427, R429, R430.) -/
def Obligations.UpdatesAreCommanded : Prop :=
  (∀ (rq : Req) (w0 : W) (w : W) (w1 : W) (w2 : W) (s : State), ∃ t : State, exec (.fwStage rq w0 w1 w2) s = .next t.settleIsolated ∧ (s.passes rq (putFwCmd w w1 w2).1 = true → w = withOp F.FW_CMD_OP w0 1 → s.mode ≠ LOAD ∧ s.mode ≠ HOLD → (s.fwState = fwIDLE ∨ s.fwState = fwHELD ∨ s.fwState = fwREJECTED) → t.fwState = fwVERIFYING ∧ t.fld F.FW_STATE_CAUSE 0 = 0 ∧ t.replied ⟨0x8010, 0, 0⟩ .ok) ∧ (w = withOp F.FW_CMD_OP w0 1 → s.passes rq (putFwCmd w w1 w2).1 = true → s.mode = LOAD ∨ s.mode = HOLD → t.fwState = s.fwState ∧ t.fw = s.fw ∧ t.replied ⟨0x8010, 0, 0⟩ .mode) ∧ (w = withOp F.FW_CMD_OP w0 1 → s.passes rq (putFwCmd w w1 w2).1 = true → s.mode ≠ LOAD ∧ s.mode ≠ HOLD → ¬(s.fwState = fwIDLE ∨ s.fwState = fwHELD ∨ s.fwState = fwREJECTED) → t.fwState = s.fwState ∧ t.fw = s.fw ∧ t.replied ⟨0x8010, 0, 0⟩ .busy)) ∧
  (∀ (rq : Req) (w0 : W) (w : W) (w1 : W) (w2 : W) (s : State), ∃ t : State, exec (.fwActivate rq w0 w1 w2) s = .next t.settleIsolated ∧ (s.passes rq (putFwCmd w w1 w2).1 = true → w = withOp F.FW_CMD_OP w0 2 → (s.mode = STANDBY ∨ s.mode = ACTIVE) → s.fwState = fwSTAGED → F.FW_CMD_WHEN.of w = 0 → t.fwState = fwPREPARING ∧ t.fw.actAt = some (fwInstant w (s.house + secs 2)) ∧ t.fld F.SY_IDENTITY_HANDOVER 0 = 1 ∧ t.replied ⟨0x8010, 0, 0⟩ .ok) ∧ (w = withOp F.FW_CMD_OP w0 2 → s.passes rq (putFwCmd w w1 w2).1 = true → (s.mode = STANDBY ∨ s.mode = ACTIVE) → s.fwState = fwSTAGED → F.FW_CMD_WHEN.of w = 1 → s.clk.count + secs 2 ≤ fwTime w1 w2 → t.fwState = fwPREPARING ∧ t.fw.actAt = some (fwInstant w (fwTime w1 w2)) ∧ t.fld F.SY_IDENTITY_HANDOVER 0 = 1 ∧ t.replied ⟨0x8010, 0, 0⟩ .ok) ∧ (w = withOp F.FW_CMD_OP w0 2 → s.passes rq (putFwCmd w w1 w2).1 = true → s.mode = SAFE → s.fwState = fwSTAGED → F.FW_CMD_WHEN.of w = 0 → t.fld F.FW_STATE_TRYBOOT 0 = 1 ∧ t.fwState = fwSTAGED ∧ t.replied ⟨0x8010, 0, 0⟩ .ok) ∧ (w = withOp F.FW_CMD_OP w0 2 → s.passes rq (putFwCmd w w1 w2).1 = true → ¬((s.mode = STANDBY ∨ s.mode = ACTIVE) ∨ (s.mode = SAFE ∧ F.FW_CMD_WHEN.of w = 0)) → t.fwState = s.fwState ∧ t.fw = s.fw ∧ t.replied ⟨0x8010, 0, 0⟩ .mode) ∧ (w = withOp F.FW_CMD_OP w0 2 → s.passes rq (putFwCmd w w1 w2).1 = true → (s.mode = STANDBY ∨ s.mode = ACTIVE) → s.fwState ≠ fwSTAGED → t.fwState = s.fwState ∧ t.fw = s.fw ∧ t.replied ⟨0x8010, 0, 0⟩ .busy) ∧ (w = withOp F.FW_CMD_OP w0 2 → s.passes rq (putFwCmd w w1 w2).1 = true → (s.mode = STANDBY ∨ s.mode = ACTIVE) → s.fwState = fwSTAGED → F.FW_CMD_WHEN.of w = 1 → fwTime w1 w2 < s.clk.count + secs 2 → t.fwState = s.fwState ∧ t.fw = s.fw ∧ t.replied ⟨0x8010, 0, 0⟩ .expired)) ∧
  (∀ (rq : Req) (w0 : W) (w : W) (w1 : W) (w2 : W) (s : State), ∃ t : State, exec (.fwCommit rq w0 w1 w2) s = .next t.settleIsolated ∧ (s.passes rq (putFwCmd w w1 w2).1 = true → w = withOp F.FW_CMD_OP w0 3 → (s.mode = SAFE ∨ s.mode = STANDBY ∨ s.mode = ACTIVE) → s.fw.halves.length = 2 → s.fwState = fwTRIAL → s.revokesAll (s.half s.runHalf).images = false → t.fwState = fwIDLE ∧ t.fw.held = none ∧ t.fld F.FW_STATE_BOOTHALF 0 = s.runHalf ∧ (t.half s.runHalf).state = 2 ∧ (t.half (1 - s.runHalf)).state = 3 ∧ t.replied ⟨0x8010, 0, 0⟩ .ok) ∧ (w = withOp F.FW_CMD_OP w0 3 → s.passes rq (putFwCmd w w1 w2).1 = true → ¬(s.mode = SAFE ∨ s.mode = STANDBY ∨ s.mode = ACTIVE) → t.fwState = s.fwState ∧ t.fw = s.fw ∧ t.replied ⟨0x8010, 0, 0⟩ .mode) ∧ (w = withOp F.FW_CMD_OP w0 3 → s.passes rq (putFwCmd w w1 w2).1 = true → (s.mode = SAFE ∨ s.mode = STANDBY ∨ s.mode = ACTIVE) → s.fwState ≠ fwTRIAL ∨ s.revokesAll (s.half s.runHalf).images = true → t.fwState = s.fwState ∧ t.fw = s.fw ∧ t.replied ⟨0x8010, 0, 0⟩ .busy)) ∧
  (∀ (rq : Req) (w0 : W) (w : W) (w1 : W) (w2 : W) (s : State), ∃ t : State, exec (.fwRollback rq w0 w1 w2) s = .next t.settleIsolated ∧ (s.passes rq (putFwCmd w w1 w2).1 = true → w = withOp F.FW_CMD_OP w0 4 → (s.mode = STANDBY ∨ s.mode = ACTIVE) → s.fwState = fwTRIAL → F.FW_CMD_WHEN.of w = 1 → s.clk.count < fwTime w1 w2 → t.fwState = fwTRIAL ∧ t.fw.actAt = some (fwInstant w (if F.FW_CMD_WHEN.of w = 1 then fwTime w1 w2 else s.house + secs 2)) ∧ t.replied ⟨0x8010, 0, 0⟩ .ok) ∧ (w = withOp F.FW_CMD_OP w0 4 → s.passes rq (putFwCmd w w1 w2).1 = true → ¬(s.mode = STANDBY ∨ s.mode = ACTIVE) → t.fwState = s.fwState ∧ t.fw = s.fw ∧ t.replied ⟨0x8010, 0, 0⟩ .mode) ∧ (w = withOp F.FW_CMD_OP w0 4 → s.passes rq (putFwCmd w w1 w2).1 = true → (s.mode = STANDBY ∨ s.mode = ACTIVE) → s.fwState ≠ fwTRIAL → t.fwState = s.fwState ∧ t.fw = s.fw ∧ t.replied ⟨0x8010, 0, 0⟩ .busy) ∧ (w = withOp F.FW_CMD_OP w0 4 → s.passes rq (putFwCmd w w1 w2).1 = true → (s.mode = STANDBY ∨ s.mode = ACTIVE) → s.fwState = fwTRIAL → F.FW_CMD_WHEN.of w = 1 → fwTime w1 w2 ≤ s.clk.count → t.fwState = s.fwState ∧ t.fw = s.fw ∧ t.replied ⟨0x8010, 0, 0⟩ .expired)) ∧
  (∀ (rq : Req) (w0 : W) (w : W) (w1 : W) (w2 : W) (s : State), ∃ t : State, exec (.fwAbandon rq w0 w1 w2) s = .next t.settleIsolated ∧ (s.passes rq (putFwCmd w w1 w2).1 = true → w = withOp F.FW_CMD_OP w0 5 → s.fwState = fwSTAGED ∨ s.fwState = fwPREPARING ∨ s.fwState = fwREADY ∨ s.fwState = fwHELD ∨ s.fwState = fwREJECTED → t.fwState = fwIDLE ∧ t.fw.actAt = none ∧ t.replied ⟨0x8010, 0, 0⟩ .ok) ∧ (w = withOp F.FW_CMD_OP w0 5 → s.passes rq (putFwCmd w w1 w2).1 = true → s.fwState = fwIDLE ∨ s.fwState = fwVERIFYING ∨ s.fwState = fwTRIAL → t.fwState = s.fwState ∧ t.fw = s.fw ∧ t.replied ⟨0x8010, 0, 0⟩ .busy))

/-- Each of these commands answers a next state whatever the state. A prepared activation whose settings import and convert in time becomes READY, one whose do not is HELD with CAUSE 6, and one whose instant has come is given up with CAUSE 7; a twin that is ready for the same bundle and instant lets it go on, and one that is not ends it with CAUSE 8. At its instant the other half runs in TRIAL with the settings that stood kept, and one still PREPARING is given up. A rollback that waited is carried out. Outside these each changes nothing. In SAFE a change to SCRAPPED that MAINTAIN may make, with a good challenge, is made; parts of a request are held until its last; in another mode it is MODE. Completion: under these conditions exec answers a next state, for the constructors activationReady, activationTwinCheck, activationInstant, rollbackInstant, lifecycleChallengeRead, lifecycleRequest. (R426, R427, R428, R429, R431, R432.) -/
def Obligations.ActivationsAndTheLifeCycle : Prop :=
  (∀ (conv : Bool) (s : State), ∃ t : State, exec (.activationReady conv) s = .next t.settleIsolated ∧ (s.fwState = fwPREPARING → s.fw.actAt.any (fun x => x ≤ s.house) = false → s.importable (s.half s.writeHalf).images = true → conv = true → t.fwState = fwREADY ∧ t.fw.actAt = s.fw.actAt) ∧ (s.fwState = fwPREPARING → s.fw.actAt.any (fun x => x ≤ s.house) = false → s.importable (s.half s.writeHalf).images = false ∨ conv = false → t.fwState = fwHELD ∧ t.fw.actAt = none ∧ t.fld F.FW_STATE_CAUSE 0 = cIMPORT ∧ t.fld F.SY_IDENTITY_HANDOVER 0 = 0) ∧ (s.fwState = fwPREPARING → s.fw.actAt.any (fun x => x ≤ s.house) = true → t.fwState = fwIDLE ∧ t.fw.actAt = none ∧ t.fld F.FW_STATE_CAUSE 0 = cLATE) ∧ (s.fwState ≠ fwPREPARING → t = s)) ∧
  (∀ (ready : Bool) (ident : BitVec 512) (i : Nat) (i2 : Nat) (s : State), ∃ t : State, exec (.activationTwinCheck ready ident i2) s = .next t.settleIsolated ∧ (((s.fwState = fwREADY ∨ s.fwState = fwPREPARING) ∧ s.paired = true ∧ s.sync = syncLOCKSTEP) → s.fw.actAt = some i → ready = true → ident = s.stagedIdent → i2 = i → t.fw.twinOk = true ∧ t.fwState = s.fwState) ∧ (((s.fwState = fwREADY ∨ s.fwState = fwPREPARING) ∧ s.paired = true ∧ s.sync = syncLOCKSTEP) → s.fw.actAt = some i → ready = false ∨ ident ≠ s.stagedIdent ∨ i2 ≠ i → t.fwState = fwIDLE ∧ t.fld F.FW_STATE_CAUSE 0 = 8) ∧ (¬((s.fwState = fwREADY ∨ s.fwState = fwPREPARING) ∧ s.paired = true ∧ s.sync = syncLOCKSTEP) ∨ s.fw.actAt = none → t = s)) ∧
  (∀ (i : Nat) (stuck : List Nat) (s : State), ∃ t : State, exec (.activationInstant stuck) s = .next t.settleIsolated ∧ (s.fwState = fwREADY → s.paired = false → s.fw.actAt = some i → s.fw.autoCommit = false → t.fwState = fwTRIAL ∧ t.runHalf = 1 - s.runHalf ∧ t.fw.held = some s.savedTable) ∧ (s.fwState = fwREADY → s.paired = true → s.sync = syncLOCKSTEP → s.fw.twinOk = false → s.fw.actAt = some i → t.fwState = fwIDLE ∧ t.runHalf = s.runHalf ∧ t.fld F.FW_STATE_CAUSE 0 = 8) ∧ (s.fwState = fwPREPARING → s.fw.actAt = some i → t.fwState = fwIDLE ∧ t.runHalf = s.runHalf ∧ t.fld F.FW_STATE_CAUSE 0 = cLATE ∧ i ≤ t.house) ∧ (s.fw.actAt = none ∨ (s.fwState ≠ fwPREPARING ∧ s.fwState ≠ fwREADY) → t = s)) ∧
  (∀ (i : Nat) (s : State), ∃ t : State, exec (.rollbackInstant) s = .next t.settleIsolated ∧ (s.fwState = fwTRIAL → s.fw.actAt = some i → t.fwState = fwIDLE ∧ t.runHalf = 1 - s.runHalf ∧ t.fw.held = none) ∧ (s.fwState ≠ fwTRIAL ∨ s.fw.actAt = none → t = s)) ∧
  (∀ (rq : Req) (st : Status) (s : State), ∃ t : State, exec (.lifecycleChallengeRead rq) s = .next t.settleIsolated ∧ (s.acceptsRead rq ⟨0x8050, 3, 0⟩ = true → t.repliedData ⟨0x8050, 3, 0⟩ s.lifeChallenge.1) ∧ (s.alive = true → s.judgeRead rq ⟨0x8050, 3, 0⟩ = .error st → t.replied ⟨0x8050, 3, 0⟩ st)) ∧
  (∀ (rq : Req) (off : Nat) (b : List Byte) (l : List Byte) (s : State), ∃ t : State, exec (.lifecycleRequest rq off l) s = .next t.settleIsolated ∧ (s.passes rq (putLife s rq off l).1 = true → s.mode = SAFE → b = (if off = 0 then [] else s.fw.lifeBuf) ++ l → b.length < lifeLength s b → t.fw.lifeBuf = b ∧ t.replied ⟨0x8050, 2, off⟩ .ok) ∧ (s.passes rq (putLife s rq off l).1 = true → s.mode = SAFE → b = (if off = 0 then [] else s.fw.lifeBuf) ++ l → b.length = lifeLength s b → byteAt b 16 = 5 → byteAt b 17 < 4 → isZero ((b.drop 18).take 6) = true → rq.cls = .maintain → lifeState s = lfMANUFACTURE ∨ lifeState s = lfRETURN → (s.useChallenge s.fw.lifeCh (b.take 16)).1 = true → lifeState t = lfSCRAPPED ∧ t.sys.held = true ∧ t.save.copies = [none, none]) ∧ (s.passes rq (putLife s rq off l).1 = true → s.mode ≠ SAFE → t.fw = s.fw ∧ t.replied ⟨0x8050, 2, off⟩ .mode))

/-- Each of these commands answers a next state whatever the state. A write of CMD that passes the common checks and that nothing bars is stored, raises an off domain and lowers an idle one; it is BUSY during an activation or where it would lower one in use, and ABSENT where the member lacks the domain. A rise ends ON or in FAULT; a fall ends OFF, or rises again when CMD asks for it; of a domain that does neither, the event changes nothing. In HOLD a request wakes the control planes, and 1 s without one lets them sleep; in another mode nothing changes. Completion: under these conditions exec answers a next state, for the constructors pwDomainWrite, domainOnDone, domainFault, domainOffDone, holdWake, holdRetention. (R435, R436, R437, R438, R439, R440.) -/
def Obligations.DomainsRiseAndFall : Prop :=
  (∀ (rq : Req) (e : Nat) (v : W) (s : State), ∃ t : State, exec (.pwDomainWrite rq e v) s = .next t.settleIsolated ∧ (s.passes rq (putDomain e v).1 = true → domainPresent s.caps e = true → ¬(s.activating = true ∨ (F.PW_DOMAIN_CMD.of v = 0 ∧ s.domainInUse e = true)) → t.fld F.PW_DOMAIN_CMD e = F.PW_DOMAIN_CMD.of v ∧ (F.PW_DOMAIN_CMD.of v = 1 → s.mode ≠ HOLD → (s.domain e = dmOFF ∨ s.domain e = dmFAULT) → t.domain e = dmRISING) ∧ t.replied ⟨0x8810, 0, e⟩ .ok) ∧ (s.passes rq (putDomain e v).1 = true → domainPresent s.caps e = true → ¬(s.activating = true ∨ (F.PW_DOMAIN_CMD.of v = 0 ∧ s.domainInUse e = true)) → F.PW_DOMAIN_CMD.of v = 0 → s.mode ≠ HOLD → s.domain e = dmON → e ∉ s.pw.waiting → t.domain e = dmFALLING ∧ t.replied ⟨0x8810, 0, e⟩ .ok) ∧ (s.passes rq (putDomain e v).1 = true → domainPresent s.caps e = true → (s.activating = true ∨ (F.PW_DOMAIN_CMD.of v = 0 ∧ s.domainInUse e = true)) → t.domain e = s.domain e ∧ t.fld F.PW_DOMAIN_CMD e = s.fld F.PW_DOMAIN_CMD e ∧ t.replied ⟨0x8810, 0, e⟩ .busy) ∧ (s.passes rq (putDomain e v).1 = true → domainPresent s.caps e = false → F.PW_DOMAIN_CMD.of v = 1 → s.mode ≠ SAFE → t.domain e = s.domain e ∧ t.fld F.PW_DOMAIN_CMD e = s.fld F.PW_DOMAIN_CMD e ∧ t.replied ⟨0x8810, 0, e⟩ .absent)) ∧
  (∀ (e : Nat) (s : State), ∃ t : State, exec (.domainOnDone e) s = .next t.settleIsolated ∧ (s.pw.rising.contains e = true → t.domain e = dmON) ∧ (s.pw.rising.contains e = false → t = s)) ∧
  (∀ (e : Nat) (s : State), ∃ t : State, exec (.domainFault e) s = .next t.settleIsolated ∧ (s.pw.rising.contains e = true → t.domain e = dmFAULT) ∧ (s.pw.rising.contains e = false → t = s)) ∧
  (∀ (e : Nat) (s : State), ∃ t : State, exec (.domainOffDone e) s = .next t.settleIsolated ∧ ((s.domain e = dmFALLING ∧ domainPresent s.caps e = true) → s.mode ≠ HOLD → t.domain e = (if s.fld F.PW_DOMAIN_CMD e = 1 then dmRISING else dmOFF)) ∧ ((s.domain e = dmFALLING ∧ domainPresent s.caps e = true) → s.mode = HOLD → t.domain e = dmOFF) ∧ (¬(s.domain e = dmFALLING ∧ domainPresent s.caps e = true) → t = s)) ∧
  (∀ (s : State), ∃ t : State, exec (.holdWake) s = .next t.settleIsolated ∧ (s.mode = HOLD → t.pw.awake = true ∧ t.pw.lastReq = s.now) ∧ (s.mode ≠ HOLD → t = s)) ∧
  (∀ (s : State), ∃ t : State, exec (.holdRetention) s = .next t.settleIsolated ∧ ((s.mode = HOLD ∧ s.pw.awake = true) → t.pw.awake = false ∧ s.pw.lastReq + secs 1 ≤ t.now) ∧ (¬(s.mode = HOLD ∧ s.pw.awake = true) → t = s))

/-- Each of these commands answers a next state whatever the state. A low supply stands in SEEN and a dip of a core supply in NOW too, until it ends. Tj at the threshold of an armed warning disarms it; 5 °C below arms it; between them nothing changes. A working monitor that fails reads so with the value it had; figures of pace of a die stand in PW_PACE. A droop begins, and ends counted, its least depth and least lead kept, the lead being its die's as the lanes drained it; a droop that runs does not begin, and one that does not run does not end. Completion: under these conditions exec answers a next state, for the constructors supplyLow, coreDip, thermalWarn, monitorFail, paceUpdate, droopStart, droopEnd. (R17, R441, R443, R444, R446, R449, R450.) -/
def Obligations.HealthIsWatched : Prop :=
  (∀ (c : Nat) (mv : Nat) (us : Nat) (s : State), ∃ t : State, exec (.supplyLow c mv us) s = .next t.settleIsolated ∧ (2 ≤ c → c < 6 → t.fld F.PW_SUPPLY_SEEN 0 = s.fld F.PW_SUPPLY_SEEN 0 ||| 2 ^ c) ∧ (c < 2 ∨ 6 ≤ c → t = s)) ∧
  (∀ (c : Nat) (below : Bool) (s : State), ∃ t : State, exec (.coreDip c below) s = .next t.settleIsolated ∧ (c < 6 → below = true → t.fld F.PW_SUPPLY_NOW 0 = s.fld F.PW_SUPPLY_NOW 0 ||| 2 ^ c ∧ t.fld F.PW_SUPPLY_SEEN 0 = s.fld F.PW_SUPPLY_SEEN 0 ||| 2 ^ c) ∧ (c < 6 → below = false → t.fld F.PW_SUPPLY_NOW 0 / 2 ^ c % 2 = 0 ∧ t.fld F.PW_SUPPLY_SEEN 0 = s.fld F.PW_SUPPLY_SEEN 0) ∧ (6 ≤ c → t = s)) ∧
  (∀ (d : Nat) (tj : Nat) (s : State), ∃ t : State, exec (.thermalWarn d tj) s = .next t.settleIsolated ∧ (d < s.dies → s.pw.warnArmed = true → s.fld F.PW_THERM_THRESHOLD 0 ≤ tj → t.pw.warnArmed = false) ∧ (d < s.dies → tj + 5 ≤ s.fld F.PW_THERM_THRESHOLD 0 → t.pw.warnArmed = true) ∧ (s.dies ≤ d ∨ (tj < s.fld F.PW_THERM_THRESHOLD 0 ∧ s.fld F.PW_THERM_THRESHOLD 0 < tj + 5) → t = s)) ∧
  (∀ (e : Nat) (value : Nat) (s : State), ∃ t : State, exec (.monitorFail e value) s = .next t.settleIsolated ∧ (s.monWorks e = true → value < 65536 → t.fld F.PW_MON_STATUS e = 1 ∧ t.fld F.PW_MON_VALUE e = value) ∧ (s.monWorks e = false → t = s)) ∧
  (∀ (readings : List (Nat × Nat)) (l : List PaceReading) (x : PaceReading) (s : State), ∃ t : State, exec (.paceUpdate readings l) s = .next t.settleIsolated ∧ (l = [x] → x.die < s.dies → x.load < 256 → x.config < 65536 → t.fld F.PW_PACE_LOAD x.die = x.load ∧ t.fld F.PW_PACE_CONFIG x.die = x.config)) ∧
  (∀ (d : Nat) (x : Droop) (s : State), ∃ t : State, exec (.droopStart d) s = .next t.settleIsolated ∧ (s.pw.droop[d]? = some x → x.active = false → t.pw.droop[d]? = some { x with active := true, since := s.now }) ∧ (((s.pw.droop[d]?).map (·.active)).getD true = true → t = s)) ∧
  (∀ (d : Nat) (depth : Nat) (ns : Nat) (margin : Nat) (lanes : Nat) (x : Droop) (s : State), ∃ t : State, exec (.droopEnd d depth ns margin lanes) s = .next t.settleIsolated ∧ (s.pw.droop[d]? = some x → x.active = true → t.pw.droop[d]? = some ⟨false, x.since, s.now, (x.drained (s.fld F.IC_TX_LEAD_LEAD d * sheetUnits) depth ns margin)⟩ ∧ t.fld F.PW_DROOP_MINS d = min depth (s.fld F.PW_DROOP_MINS d) ∧ t.fld F.PW_DROOP_MINLEAD d = min (((s.fld F.IC_TX_LEAD_LEAD d * sheetUnits) - (x.drained (s.fld F.IC_TX_LEAD_LEAD d * sheetUnits) depth ns margin) + nsUnits / 2) / nsUnits) (s.fld F.PW_DROOP_MINLEAD d) ∧ t.fld F.PW_DROOP_DROOPS d = satAdd (2 ^ F.PW_DROOP_DROOPS.len - 1) (s.fld F.PW_DROOP_DROOPS d) 1) ∧ (((s.pw.droop[d]?).map (·.active)).getD false = false → t = s))

/-- Each of these commands answers a next state whatever the state. An evaluation warns below 1.250 and proposes below 1.100, with the hysteresis of R453, and PW_PLAN shows which; ageing inputs join the history. A TARGET that passes the common checks is stored and walked to; each acknowledged step moves 5 mV, and one without an acknowledgement leaves the voltage and reads NOREG; the check a millisecond later finds the voltage settled within 15 mV, or mismatched, or NOREG without an acknowledgement; a retry writes again. Outside these the events change nothing. Completion: under these conditions exec answers a next state, for the constructors plannerEval, ageingUpdate, vcoreTargetWrite, vcoreStep, vcoreSettleCheck, vcoreRetry. (R452, R453, R454, R456, R457, R458.) -/
def Obligations.MarginsAndTheCoreVoltage : Prop :=
  (∀ (s : State), ∃ t : State, exec (.plannerEval) s = .next t.settleIsolated ∧ t.pw.warn = (s.paced.filter fun d => s.configured d < 1250 || (s.pw.warn.contains d && s.configured d < 1300)) ∧ t.pw.propose = (s.paced.filter fun d => s.configured d < 1100 || (s.pw.propose.contains d && s.configured d < 1150)) ∧ t.fld F.PW_PLAN_STATE 0 = (if t.pw.propose = [] then if t.pw.warn = [] then plNONE else plWARN else plPROPOSE)) ∧
  (∀ (inp : List AgeInput) (s : State), ∃ t : State, exec (.ageingUpdate inp) s = .next t.settleIsolated ∧ t.pw.history = inp :: s.pw.history) ∧
  (∀ (rq : Req) (v : W) (s : State), ∃ t : State, exec (.vcoreTargetWrite rq v) s = .next t.settleIsolated ∧ (s.passes rq (putTarget s rq v).1 = true → t.word 0x8840 0 2 = v ∧ (s.pw.written ≠ v.toNat → t.vcore = vcSLEWING) ∧ t.replied ⟨0x8840, 2, 0⟩ .ok)) ∧
  (∀ (ack : Bool) (s : State), ∃ t : State, exec (.vcoreStep ack) s = .next t.settleIsolated ∧ (s.vcore = vcSLEWING → s.pw.written ≠ s.coreTarget → s.pw.writeAt + us 100 ≤ t.now ∧ (if ack then t.pw.written = stepMv s.pw.written s.coreTarget ∧ t.vcore = vcSLEWING else t.pw.written = s.pw.written ∧ t.vcore = vcNOREG)) ∧ (s.vcore = vcSLEWING → s.pw.written ≠ s.coreTarget → ack = false → t.vcore = vcNOREG) ∧ (s.vcore ≠ vcSLEWING ∨ s.pw.written = s.coreTarget → t = s)) ∧
  (∀ (mv : Nat) (ack : Bool) (s : State), ∃ t : State, exec (.vcoreSettleCheck mv ack) s = .next t.settleIsolated ∧ (((s.vcore = vcSLEWING ∨ s.vcore = vcMISMATCH) ∧ s.pw.written = s.coreTarget ∧ (s.pw.droop.any fun x => x.active) = false) → mv < 65536 → t.fld F.PW_VCORE_NOW 0 = mv ∧ t.vcore = (if ack = false then vcNOREG else if mv ≤ s.coreTarget + 15 ∧ s.coreTarget ≤ mv + 15 then vcSETTLED else vcMISMATCH) ∧ s.pw.writeAt + ms 1 ≤ t.now) ∧ (¬((s.vcore = vcSLEWING ∨ s.vcore = vcMISMATCH) ∧ s.pw.written = s.coreTarget ∧ (s.pw.droop.any fun x => x.active) = false) → t = s)) ∧
  (∀ (ack : Bool) (s : State), ∃ t : State, exec (.vcoreRetry ack) s = .next t.settleIsolated ∧ ((s.vcore = vcMISMATCH ∨ s.vcore = vcNOREG) → s.pw.writeAt + secs 1 ≤ t.now ∧ t.pw.written = (if ack then stepMv s.pw.written s.coreTarget else s.pw.written) ∧ t.vcore = (if ack = false then vcNOREG else if s.vcore = vcMISMATCH then vcMISMATCH else vcSLEWING)) ∧ (¬(s.vcore = vcMISMATCH ∨ s.vcore = vcNOREG) → t = s))

/-- The domain of an absent unit reads OFF. A write that passes the common checks and commands one on is answered ABSENT and changes nothing: no word of the dictionary but the counters of requests, no state of power or lanes. Completion: under these conditions exec answers a next state, for the constructors pwDomainWrite. (R9.) -/
def Obligations.AbsentDomainsReadOff : Prop :=
  (∀ (e : Nat) (s : State), domainPresent s.caps e = false → F.PW_DOMAIN_STATE.of (s.read 0x8810 e 0) = dmOFF) ∧
  (∀ (rq : Req) (e : Nat) (v : W) (k : Key) (s : State), ∃ t : State, exec (.pwDomainWrite rq e v) s = .next t.settleIsolated ∧ (s.passes rq (putDomain e v).1 = true → F.PW_DOMAIN_CMD.of v = 1 → domainPresent s.caps e = false → t.replied ⟨0x8810, 0, e⟩ .absent ∧ (k.ix ≠ 0x6048 → tget dflt t.regs k = tget dflt s.regs k) ∧ t.pw = s.pw ∧ t.lk = s.lk))

/-- Of two claims with fields in range and not 0, one is higher when its PRIO is greater; at equal PRIO when its EPOCH is later by signed 11-bit difference; at equal EPOCH when its UNIT is 1 and the other's is 0. Claims of different UNIT are never equal. A copy whose claim is 0 is never eligible. (R287.) -/
def Obligations.TheHigherClaim : Prop :=
  (∀ (p : Nat) (e : Nat) (u : Nat) (q : Nat) (f : Nat) (w : Nat), p < 16 → e < 2048 → u < 2 → q < 16 → f < 2048 → w < 2 → mkClaim p e u ≠ 0 → mkClaim q f w ≠ 0 → (claimAbove (mkClaim p e u) (mkClaim q f w) = true ↔ q < p ∨ (p = q ∧ (later 11 e f = true ∨ (e = f ∧ u = 1 ∧ w = 0)))) ∧ (u ≠ w → mkClaim p e u ≠ mkClaim q f w)) ∧
  (∀ (x : Nat × Nat) (c : PairCopy) (s : State), hdrClaim c.header = 0 → s.eligible x (some c) = false)

/-- EV_CMD is an ARRAY of U8 per die, write-only, for MAINTAIN, VOLATILE. ACK leaves open only ISOLATEs and the CONTAINs whose unit is out of service. RETEST of a sillage that reads OK is answered BUSY; on a pass it reads OK and holds the one record SILLAGE-RESTORED; on a failure it stays. Any other value is answered RANGE. Completion: under these conditions exec answers a next state, for the constructors faultAck, sillageRetest, registerWrite. (R397.) -/
def Obligations.FaultCommandsDoWhatTheySay : Prop :=
  (findObj 0x7840 0 = some ⟨0x7840, 0, .u8, [.wo], 0, 4, [.volatile], .base, .perDie 1, [0], false⟩) ∧
  (∀ (rq : Req) (d : Nat) (s : State), ∃ t : State, exec (.faultAck rq d) s = .next t.settleIsolated ∧ (s.passes rq (putEvCmd d 1 false).1 = true → (t.faultMgr d).opened = (s.faultMgr d).opened.filter (fun f => f.level == .isolate || (f.level == .contain && s.isOut f.ucls d f.p1)) ∧ t.replied ⟨0x7840, 0, d⟩ .ok)) ∧
  (∀ (rq : Req) (d : Nat) (s : State), ∃ t : State, exec (.sillageRetest rq d true) s = .next t.settleIsolated ∧ (s.passes rq (putEvCmd d 2 true).1 = true → d < s.dies → d < s.ev.sillage.length → s.fld F.EV_SILLAGE_STATE d ≠ 0 → d ∉ s.sys.isolated → t.fld F.EV_SILLAGE_STATE d = 0 ∧ (t.sillageOf d).map (·.code) = [0x7803] ∧ t.replied ⟨0x7840, 0, d⟩ .ok)) ∧
  (∀ (rq : Req) (d : Nat) (s : State), ∃ t : State, exec (.sillageRetest rq d false) s = .next t.settleIsolated ∧ (s.passes rq (putEvCmd d 2 false).1 = true → s.fld F.EV_SILLAGE_STATE d ≠ 0 → t.fld F.EV_SILLAGE_STATE d = s.fld F.EV_SILLAGE_STATE d  ∧ t.replied ⟨0x7840, 0, d⟩ .ok)) ∧
  (∀ (rq : Req) (d : Nat) (pass : Bool) (s : State), ∃ t : State, exec (.sillageRetest rq d pass) s = .next t.settleIsolated ∧ (s.passes rq (putEvCmd d 2 pass).1 = true → s.fld F.EV_SILLAGE_STATE d = 0 → t.replied ⟨0x7840, 0, d⟩ .busy ∧ t.ev = s.ev)) ∧
  (∀ (rq : Req) (d : Nat) (v : W) (s : State), ∃ t : State, exec (.registerWrite rq ⟨0x7840, 0, d⟩ 0 v) s = .next t.settleIsolated ∧ (s.passes rq { (putWordOf s rq ⟨0x7840, 0, d⟩ 0 v).1 with range := true } = true → v ≠ 1 → v ≠ 2 → t.replied ⟨0x7840, 0, d⟩ .range ∧ (t.faultMgr d).opened = (s.faultMgr d).opened))

/-- The rows of PW_SHED and PW_KEEP. A write with a reserved bit is answered RANGE, any other is stored. A LAYER item is proposed only with LAYERS set and its head not kept; an FSYNC item only with FSYNC set and its source port not kept. Completion: under these conditions exec answers a next state, for the constructors registerWrite. (R455.) -/
def Obligations.PlansKeepToTheirPermissions : Prop :=
  (findObj 0x8848 0 = some ⟨0x8848, 0, .u32, [.rw], 15, 6, [.saved], .base, .scalar, [0xC0000000], false⟩ ∧ findObj 0x884C 0 = some ⟨0x884C, 0, .u8, [.rw], 15, 6, [.saved], .base, .keep, [0], false⟩) ∧
  (∀ (s : State) (d : Nat) (x : Nat × Nat), x ∈ s.planCands d → (x.1 = kLAYER → s.fld F.PW_SHED_LAYERS 0 = 1 ∧ s.fld F.PW_KEEP_KEEP (16384 + x.2 / 8) = 0) ∧ (x.1 = kFSYNC → s.fld F.PW_SHED_FSYNC 0 = 1 ∧ s.fld F.PW_KEEP_KEEP x.2 = 0)) ∧
  (∀ (s : State), (s.planItems.2.all fun x => x.2.1 == kVSTEP || (s.planCands x.1).contains x.2) = true) ∧
  (∀ (rq : Req) (v : W) (s : State), ∃ t : State, exec (.registerWrite rq ⟨0x8848, 0, 0⟩ 0 v) s = .next t.settleIsolated ∧ (s.passes rq (putWordOf s rq ⟨0x8848, 0, 0⟩ 0 v).1 = true → t.word 0x8848 0 0 = v ∧ F.PW_SHED_LAYERS.of v = getBits v 31 1 ∧ F.PW_SHED_FSYNC.of v = getBits v 30 1 ∧ t.replied ⟨0x8848, 0, 0⟩ .ok)) ∧
  (∀ (rq : Req) (v : W) (s : State), ∃ t : State, exec (.registerWrite rq ⟨0x8848, 0, 0⟩ 0 v) s = .next t.settleIsolated ∧ (s.passes rq { (putWordOf s rq ⟨0x8848, 0, 0⟩ 0 v).1 with range := true } = true → getBits v 0 30 ≠ 0 → t.replied ⟨0x8848, 0, 0⟩ .range ∧ t.word 0x8848 0 0 = s.word 0x8848 0 0)) ∧
  (∀ (rq : Req) (e : Nat) (v : W) (s : State), ∃ t : State, exec (.registerWrite rq ⟨0x884C, 0, e⟩ 0 v) s = .next t.settleIsolated ∧ (s.passes rq (putWordOf s rq ⟨0x884C, 0, e⟩ 0 v).1 = true → t.word 0x884C e 0 = v ∧ F.PW_KEEP_KEEP.of v = getBits v 0 1 ∧ t.replied ⟨0x884C, 0, e⟩ .ok)) ∧
  (∀ (rq : Req) (e : Nat) (v : W) (s : State), ∃ t : State, exec (.registerWrite rq ⟨0x884C, 0, e⟩ 0 v) s = .next t.settleIsolated ∧ (s.passes rq { (putWordOf s rq ⟨0x884C, 0, e⟩ 0 v).1 with range := true } = true → 2 ≤ v.toNat → t.replied ⟨0x884C, 0, e⟩ .range ∧ t.word 0x884C e 0 = s.word 0x884C e 0))

/-- SC8F, SC8X and SC4F accept CORE, EDGE and GATEWAY, SC2E the last two; the default is CORE where accepted, else EDGE. SY_ROLE is a U8 for CONFIGURE and MAINTAIN, SAVED. A write of a code other than 1–3 is answered RANGE; of one outside SAFE, MODE; of one not accepted, ABSENT, and the role stays; else it is stored, and reads as accepted; a LOAD that ends well runs the role that SY_ROLE reads. Completion: under these conditions exec answers a next state, for the constructors syRoleWrite, loadComplete. (R3, R346.) -/
def Obligations.RolesAreTakenInSafe : Prop :=
  (∀ (m : Member) (media : Bool) (r : Nat), ((⟨m, media⟩ : Caps).accepts r = true ↔ (r = 1 ∧ m ≠ .sc2e) ∨ r = 2 ∨ r = 3) ∧ (⟨m, media⟩ : Caps).defaultRole = (if m = .sc2e then 2 else 1)) ∧
  (findObj 0x1018 0 = some ⟨0x1018, 0, .u8, [.rw], 15, 6, [.saved], .base, .scalar, [0], false⟩) ∧
  (∀ (rq : Req) (v : W) (s : State), ∃ t : State, exec (.syRoleWrite rq v) s = .next t.settleIsolated ∧ (s.passes rq { (putRole v).1 with range := true } = true → v ≠ 1 → v ≠ 2 → v ≠ 3 → t.replied ⟨0x1018, 0, 0⟩ .range ∧ t.word 0x1018 0 0 = s.word 0x1018 0 0)) ∧
  (∀ (rq : Req) (v : W) (k : Key) (s : State), ∃ t : State, exec (.syRoleWrite rq v) s = .next t.settleIsolated ∧ (s.passes rq (putRole v).1 = true → s.mode ≠ SAFE → t.replied ⟨0x1018, 0, 0⟩ .mode ∧ (k.ix ≠ 0x6048 → tget dflt t.regs k = tget dflt s.regs k) ∧ t.sys = s.sys)) ∧
  (∀ (rq : Req) (v : W) (k : Key) (s : State), ∃ t : State, exec (.syRoleWrite rq v) s = .next t.settleIsolated ∧ (s.passes rq (putRole v).1 = true → s.mode = SAFE → s.caps.accepts v.toNat = false → t.replied ⟨0x1018, 0, 0⟩ .absent ∧ (k.ix ≠ 0x6048 → tget dflt t.regs k = tget dflt s.regs k) ∧ t.sys = s.sys)) ∧
  (∀ (rq : Req) (v : W) (s : State), ∃ t : State, exec (.syRoleWrite rq v) s = .next t.settleIsolated ∧ (s.passes rq (putRole v).1 = true → s.mode = SAFE → s.caps.accepts v.toNat = true → t.replied ⟨0x1018, 0, 0⟩ .ok ∧ t.read 0x1018 0 0 = v ∧ t.sys.role = s.sys.role)) ∧
  (∀ (rep : LoadReport) (s : State), ∃ t : State, exec (.loadComplete rep) s = .next t.settleIsolated ∧ (s.mode = LOAD → s.phase = phRUNNING → s.fld F.SY_MODE_TARGET 0 = LOAD → t.phase = phDONE → t.sys.role = t.fld F.SY_ROLE_ROLE 0))

/-- SY_CAPS.01 reads the values of the table, with MEDIA set and with MEDIA clear. (R5.) -/
def Obligations.CapabilityWords : Prop :=
  ∀ (s : State) (m : Member) (media : Bool), s.caps = ⟨m, media⟩ → s.read 0x1010 0 1 = (match m with | .sc8f => if media then 0x8870000F else 0x88700007 | .sc8x => if media then 0x8070000E else 0x80700006 | .sc4f => if media then 0x4470000F else 0x44700007 | .sc2e => if media then 0x20600008 else 0x20600000)

/-- A step of a state with a command at the front of its queue is what the command does with the rest of the queue. The queue of waiting commands is the model's (log 1). (01_organisation.md.) -/
def Obligations.AStepCarriesOutTheFrontCommand : Prop :=
  ∀ (c : Instr) (l : List Instr) (s : State), step { s with pending := c :: l } = exec c { s with pending := l }

/-- A step of a state whose queue is empty adds one tick to the time since power-on and one step to the counter, and leaves every register word. That a step with nothing waiting is a tick is the model's choice (log 2). (R251.) -/
def Obligations.AnIdleStepIsOneTick : Prop :=
  ∀ (s : State), s.pending = [] → ∃ t, step s = .next t ∧ t.clk.mono = s.clk.mono + tickUnits ∧ t.clk.count = s.clk.count + s.tickStep ∧ t.regs = s.regs ∧ t.pending = []

/-- At reset the dictionary tables stand in their canonical form, and no command waits. The form is how the model holds words. (R341.) -/
def Obligations.ResetIsCanonical : Prop :=
  State.reset.Canon ∧ State.reset.pending = []

/-- At reset the part is in SAFE with PHASE settled, nothing is isolated and no update is in progress; time since power-on is 0. What the spec gives no reset value for is named in the log. (R29, R251, R341, R417.) -/
def Obligations.ResetStandsInSafe : Prop :=
  ∀ (k : Key), State.reset.mode = SAFE ∧ State.reset.phase = phSETTLED ∧ State.reset.sys.isolated = [] ∧ State.reset.fwState = fwIDLE ∧ State.reset.clk.mono = 0 ∧ (k ≠ ⟨0x1018, 0, 0⟩ → tget dflt State.reset.regs k = dflt k)

/-- No word spells a command, so placing one leaves the state as it is. That the block takes commands and decodes no words is the model's (log 1). (opcode_table.json.) -/
def Obligations.NoWordSpellsACommand : Prop :=
  ∀ (nbits : Nat) (w : Nat) (s : State), decodeTableWord nbits w = none ∧ s.withFetchWord nbits w = s

/-- Every command, in every state, answers a next state: what the spec turns away is answered with a status and the block goes on. (R334, R335.) -/
def Obligations.EveryCommandAnswersANextState : Prop :=
  ∀ (c : Instr) (s : State), ∃ t, exec c s = .next t

/-- Whatever a command does, the commands that wait and the fused capabilities stand; so a step takes the front command and leaves the others in order. (R6.) -/
def Obligations.CommandsLeaveTheQueueAndTheFuses : Prop :=
  (∀ (c : Instr) (s : State) (t : State), exec c s = .next t → t.pending = s.pending ∧ t.caps = s.caps) ∧
  (∀ (s : State) (t : State), step s = .next t → t.pending = s.pending.tail ∧ t.caps = s.caps)

/-- From every state whose live and shadow tables list their words in rising order and none at its default, whichever command waits at the front, the next state's do too; so equal dictionaries are equal data. The form is how the model holds words. (R341.) -/
def Obligations.EveryStepKeepsTheTablesCanonical : Prop :=
  ∀ (s : State) (t : State), s.Canon → step s = .next t → t.Canon

/-- For every command: the objects and structures outside those that `touches` names for it are after the command as they were before it, where no die is isolated. Where one is, what it held ends as R393 has it (log 118). (R341, R393.) -/
def Obligations.CommandsChangeOnlyTheirParts : Prop :=
  ∀ (c : Instr) (s : State) (t : State), exec c s = .next t → t.sys.isolated = [] → s.Agrees (touches c) t

/-- Whether it is accepted or refused, a write of one element of these objects leaves every word of the object's other elements, where no die is isolated. (R107, R158, R197, R218, R258, R336, R437.) -/
def Obligations.WritesLeaveOtherElements : Prop :=
  (∀ (rq : Req) (p : Nat) (v : W) (k : Key) (s : State), k.ix = 0x2860 → k.e ≠ p → Keeps (.esAlignWrite rq p v) s k) ∧
  (∀ (rq : Req) (e : Nat) (v : W) (k : Key) (s : State), k.ix = 0x3010 → k.e ≠ e → Keeps (.auSrcWrite rq e v) s k) ∧
  (∀ (rq : Req) (tx : Bool) (e : Nat) (v : W) (k : Key) (s : State), k.ix = (if tx then 0x3050 else 0x3040) → k.e ≠ e → Keeps (.audioPortConfigWrite rq tx e v) s k) ∧
  (∀ (rq : Req) (e : Nat) (v : W) (k : Key) (s : State), k.ix = 0x3060 → k.e ≠ e → Keeps (.auAsrcWrite rq e v) s k) ∧
  (∀ (rq : Req) (e : Nat) (v : W) (k : Key) (s : State), k.ix = 0x3828 → k.e ≠ e → Keeps (.cmPaletteWrite rq e v) s k) ∧
  (∀ (rq : Req) (e : Nat) (v : W) (k : Key) (s : State), k.ix = 0x3830 → k.e ≠ e → Keeps (.cmImageWrite rq e v) s k) ∧
  (∀ (rq : Req) (e : Nat) (v : W) (k : Key) (s : State), k.ix = 0x4010 → k.e ≠ e → Keeps (.lkLaneWrite rq e v) s k) ∧
  (∀ (rq : Req) (e : Nat) (v : W) (k : Key) (s : State), k.ix = 0x4018 → k.e ≠ e → Keeps (.lkTxeqWrite rq e v) s k) ∧
  (∀ (rq : Req) (m : Nat) (w : Nat) (v : W) (k : Key) (s : State), k.ix = 0x4810 → k.e ≠ m → Keeps (.mxMacWrite rq m w v) s k) ∧
  (∀ (rq : Req) (tx : Bool) (e : Nat) (w : Nat) (v : W) (k : Key) (s : State), k.ix = (if tx then 0x4830 else 0x4828) → k.e ≠ e → Keeps (.aflowWrite rq tx e w v) s k) ∧
  (∀ (rq : Req) (e : Nat) (w : Nat) (v : W) (k : Key) (s : State), k.ix = 0x4840 → k.e ≠ e → Keeps (.mxRingWrite rq e w v) s k) ∧
  (∀ (rq : Req) (r : Nat) (w : Nat) (v : W) (k : Key) (s : State), k.ix = 0x5010 → k.e ≠ r → Keeps (.tmRefWrite rq r w v) s k) ∧
  (∀ (rq : Req) (o : Nat) (w : Nat) (v : W) (k : Key) (s : State), k.ix = 0x5058 → k.e ≠ o → Keeps (.tmOutWrite rq o w v) s k) ∧
  (∀ (rq : Req) (e : Nat) (v : W) (k : Key) (s : State), k.ix = 0x5810 → k.e ≠ e → Keeps (.twPairWrite rq e v) s k) ∧
  (∀ (rq : Req) (c : Nat) (w : Nat) (v : W) (k : Key) (s : State), k.ix = 0x6018 → k.e ≠ c → Keeps (.ctContextWrite rq c w v) s k) ∧
  (∀ (rq : Req) (a : Nat) (v : W) (k : Key) (s : State), k.ix = 0x6020 → k.e ≠ a → Keeps (.ctBusWrite rq a v) s k) ∧
  (∀ (rq : Req) (e : Nat) (k : Key) (s : State), k.ix = 0x6030 → k.e ≠ e → Keeps (.leaseTake rq e) s k) ∧
  (∀ (rq : Req) (e : Nat) (k : Key) (s : State), k.ix = 0x6030 → k.e ≠ e → Keeps (.leaseRelease rq e) s k) ∧
  (∀ (rq : Req) (e : Nat) (k : Key) (s : State), k.ix = 0x6030 → k.e ≠ e → Keeps (.leaseBreak rq e) s k) ∧
  (∀ (rq : Req) (e : Nat) (v : W) (k : Key) (s : State), k.ix = 0x7010 → k.e ≠ e → Keeps (.mmChannelWrite rq e v) s k) ∧
  (∀ (rq : Req) (n : Nat) (v : W) (k : Key) (s : State), k.ix = 0x7848 → k.e ≠ n → Keeps (.evGpiWrite rq n v) s k) ∧
  (∀ (rq : Req) (e : Nat) (v : W) (k : Key) (s : State), k.ix = 0x8810 → k.e ≠ e → Keeps (.pwDomainWrite rq e v) s k)

/-- What happens to one lane, source, channel, input, domain, monitor or die leaves the words of the others in the object that shows it, where no die is isolated. (R100, R215, R381, R407, R435, R446, R450.) -/
def Obligations.EventsLeaveOtherElements : Prop :=
  (∀ (e : Nat) (k : Key) (s : State), k.ix = 0x4028 → k.e ≠ e → Keeps (.laneSignalReturn e) s k) ∧
  (∀ (e : Nat) (k : Key) (s : State), k.ix = 0x4028 → k.e ≠ e → Keeps (.stayLos e) s k) ∧
  (∀ (e : Nat) (k : Key) (s : State), k.ix = 0x4028 → k.e ≠ e → Keeps (.stayReturn e) s k) ∧
  (∀ (d : Nat) (e : Nat) (k : Key) (s : State), k.ix = 0x4028 → k.e ≠ laneElem true d e → Keeps (.rxOverrun d e) s k) ∧
  (∀ (d : Nat) (e : Nat) (count : Nat) (k : Key) (s : State), k.ix = 0x4028 → k.e ≠ laneElem false d e → Keeps (.txStarve d e count) s k) ∧
  (∀ (p : Nat) (cap : Nat) (missed : Nat) (alien : Option Nat) (k : Key) (s : State), k.ix = 0x2864 → k.e ≠ p → Keeps (.sourcePicture p cap missed alien) s k) ∧
  (∀ (p : Nat) (k : Key) (s : State), k.ix = 0x2864 → k.e ≠ p → Keeps (.sourceLost p) s k) ∧
  (∀ (p : Nat) (missed : List Nat) (k : Key) (s : State), k.ix = 0x2864 → k.e ≠ p → Keeps (.fsyncPictureEnd p missed) s k) ∧
  (∀ (e : Nat) (off : Int) (k : Key) (s : State), k.ix = 0x3060 → k.e ≠ e → Keeps (.asrcLock e off) s k) ∧
  (∀ (e : Nat) (k : Key) (s : State), k.ix = 0x3060 → k.e ≠ e → Keeps (.asrcUnlock e) s k) ∧
  (∀ (c : Nat) (temp : Nat) (k : Key) (s : State), k.ix = 0x7018 → k.e ≠ c → Keeps (.refreshRateCheck c temp) s k) ∧
  (∀ (c : Nat) (corr : List Nat) (bad : List Nat) (k : Key) (s : State), k.ix = 0x7018 → k.e ≠ c → Keeps (.scrubPassDone c corr bad) s k) ∧
  (∀ (i : Nat) (k : Key) (s : State), k.ix = 0x7850 → k.e ≠ i → Keeps (.gpiRawEdge i) s k) ∧
  (∀ (i : Nat) (k : Key) (s : State), k.ix = 0x7850 → k.e ≠ i → Keeps (.gpiQualify i) s k) ∧
  (∀ (i : Nat) (k : Key) (s : State), k.ix = 0x7850 → k.e ≠ i → Keeps (.gpiStuck i) s k) ∧
  (∀ (i : Nat) (k : Key) (s : State), k.ix = 0x7850 → k.e ≠ i → Keeps (.gpiUnmask i) s k) ∧
  (∀ (e : Nat) (k : Key) (s : State), k.ix = 0x8810 → k.e ≠ e → Keeps (.domainOnDone e) s k) ∧
  (∀ (e : Nat) (k : Key) (s : State), k.ix = 0x8810 → k.e ≠ e → Keeps (.domainFault e) s k) ∧
  (∀ (e : Nat) (k : Key) (s : State), k.ix = 0x8810 → k.e ≠ e → Keeps (.domainOffDone e) s k) ∧
  (∀ (e : Nat) (value : Nat) (k : Key) (s : State), k.ix = 0x8818 → k.e ≠ e → Keeps (.monitorFail e value) s k) ∧
  (∀ (d : Nat) (depth : Nat) (ns : Nat) (lead : Nat) (starved : Nat) (k : Key) (s : State), k.ix = 0x8830 → k.e ≠ d → Keeps (.droopEnd d depth ns lead starved) s k)

/-- A write of FW_FLASH leaves the half that runs, every byte of the other half outside the 64 KiB sectors that it touches, and in a sector erased before, every byte that it does not write; the bytes listed stay in canonical form. (R424.) -/
def Obligations.FlashWritesKeepOtherBytes : Prop :=
  (∀ (rq : Req) (off : Nat) (bytes : List Byte) (a : Nat) (s : State) (t : State), exec (.fwFlashWrite rq off bytes) s = .next t → t.sys.isolated = [] → ¬(off ≤ a ∧ a < off + bytes.length) → (s.half s.writeHalf).fresh.contains (a / sector) = true ∨ a / sector < off / sector ∨ (off + bytes.length - 1) / sector < a / sector → cellGet (t.half s.writeHalf).bytes a = cellGet (s.half s.writeHalf).bytes a ∧ t.half s.runHalf = s.half s.runHalf) ∧
  (∀ (rq : Req) (off : Nat) (bytes : List Byte) (s : State) (t : State), exec (.fwFlashWrite rq off bytes) s = .next t → t.sys.isolated = [] → cellsWf (s.half s.writeHalf).bytes → cellsWf (t.half s.writeHalf).bytes)

/-- While no mast answers, a request for a mode, a register write and a lease change nothing. (R24, R393.) -/
def Obligations.NothingAnswersWithoutAMast : Prop :=
  ∀ (rq : Req) (a : Addr) (w : Nat) (v : W) (s : State), s.alive = false → exec (.registerWrite rq a w v) s = .next s.settleIsolated ∧ exec (.requestSafe rq) s = .next s.settleIsolated ∧ exec (.leaseTake rq w) s = .next s.settleIsolated

/-- A pixel is covered when some layer of its head shows there with an effective alpha that is not 0. Luma of an uncovered pixel, and 4:2:2 chroma whose pixel and neighbours are uncovered, leave the head as the programme carried them; with every layer OFF or at opacity 0 all of them do. A blend with alpha 1,023 gives the layer, with alpha 0 the picture below. (R167, R168.) -/
def Obligations.UncoveredSamplesPassUnchanged : Prop :=
  (∀ (h : Nat) (x : Nat) (y : Nat) (win : Nat → Nat → Nat → Px) (prog : Nat → Nat → Px) (s : State), (s.composed h win prog x y).2 = true ↔ ∃ n < 8, ∃ q, s.layerAt (h * 8 + n) (win n) x y = some q ∧ effAlpha q.a (s.fld F.CM_LAYER_OPACNOW (h * 8 + n)) ≠ 0) ∧
  (∀ (h : Nat) (depth : Nat) (f : Nat) (x : Nat) (y : Nat) (win : Nat → Nat → Nat → Px) (prog : Nat → Nat → Px) (raw : Nat → Nat → Nat) (s : State), (s.composed h win prog x y).2 = false → s.headLuma h depth f win prog raw x y = raw x y) ∧
  (∀ (h : Nat) (f : Nat) (width : Nat) (x : Nat) (y : Nat) (comp : Px → Nat) (win : Nat → Nat → Nat → Px) (prog : Nat → Nat → Px) (raw : Nat → Nat → Nat) (s : State), (s.composed h win prog (x - 1) y).2 = false → (s.composed h win prog x y).2 = false → (s.composed h win prog (min (x + 1) (width - 1)) y).2 = false → s.headChroma h f width comp win prog raw x y = raw x y) ∧
  (∀ (h : Nat) (depth : Nat) (f : Nat) (width : Nat) (x : Nat) (y : Nat) (comp : Px → Nat) (win : Nat → Nat → Nat → Px) (prog : Nat → Nat → Px) (raw : Nat → Nat → Nat) (s : State), ∀ n < 8, lClass (s.word 0x3820 (h * 8 + n) 0) = lOFF ∨ s.fld F.CM_LAYER_OPACNOW (h * 8 + n) = 0 → s.headLuma h depth f win prog raw x y = raw x y ∧ s.headChroma h f width comp win prog raw x y = raw x y) ∧
  (∀ (l : Nat) (p : Nat), blend 1023 l p = l ∧ blend 0 l p = p)

/-- A sheet header and an essence frame header carry their fields and pass their check; in a destination's stream a frame has the destination's TAG and FORMAT and the source's LINE, KIND and FCOUNT. In HOLD a lane sends no sheet, in SERVICE none but test sheets, in SAFE and LOAD none that is live; an idle sheet has CLAIM 0. What is scrambled from a register is read back from the same register, and from any other after 58 bits. (R31, R42, R43, R49, R64, R199.) -/
def Obligations.LanesSendCheckedHeadersAndScrambledBits : Prop :=
  (∀ (claim : Nat) (ty : Nat) (bank : Nat) (die : Nat) (lane : Nat) (n : Nat) (spare : Bool), claim < 65536 → ty < 4 → bank < 2 → die < 8 → lane < 64 → n < 8388608 → hdrOk (sheetHeader claim ty bank die lane spare n) = true ∧ hdrClaim (sheetHeader claim ty bank die lane spare n) = claim ∧ hdrType (sheetHeader claim ty bank die lane spare n) = ty ∧ hdrBank (sheetHeader claim ty bank die lane spare n) = bank ∧ hdrDie (sheetHeader claim ty bank die lane spare n) = die ∧ hdrLane (sheetHeader claim ty bank die lane spare n) = lane ∧ hdrSpare (sheetHeader claim ty bank die lane spare n) = spare ∧ hdrSheet (sheetHeader claim ty bank die lane spare n) = n) ∧
  (∀ (port : W) (h : W), hdrOk (retagged port h) = true ∧ efTag (retagged port h) = pTag port ∧ efFormat (retagged port h) = pFormat port ∧ efKind (retagged port h) = efKind h ∧ efLine (retagged port h) = efLine h ∧ getBits (retagged port h) 26 8 = getBits h 26 8) ∧
  (∀ (e : Nat) (n : Nat) (s : State), s.mode = HOLD → s.sheetType e n = none ∧ s.txHeader e n = none) ∧
  (∀ (e : Nat) (n : Nat) (s : State), s.mode = SERVICE → ∀ h, s.txHeader e n = some h → hdrType h = tyTEST) ∧
  (∀ (e : Nat) (n : Nat) (s : State), s.mode = SAFE ∨ s.mode = LOAD → ∀ h, s.txHeader e n = some h → hdrType h ≠ tyLIVE) ∧
  (∀ (e : Nat) (n : Nat) (h : W) (s : State), s.txHeader e n = some h → hdrType h = tyIDLE → hdrClaim h = 0) ∧
  (∀ (r : BitVec 58) (l : List Bool), descramble r (scramble r l) = l) ∧
  (∀ (r : BitVec 58) (q : BitVec 58) (l : List Bool), (descramble q (scramble r l)).drop 58 = l.drop 58)
end

