-- ==== Sys2Proof/Laws/State.lean ====
section
/-! SUPPORT. Each field of `State` after each of the named updates of Machine/Ops.lean, by `rfl`, so that no proof unfolds a
record update. -/
namespace Sys2Proof.Machine

variable (s : State)

/-! ### `setWord` -/

@[simp] theorem setWord_pending (ix e w : Nat) (v : W) : (s.setWord ix e w v).pending = s.pending := rfl
@[simp] theorem setWord_caps (ix e w : Nat) (v : W) : (s.setWord ix e w v).caps = s.caps := rfl
@[simp] theorem setWord_regs (ix e w : Nat) (v : W) : (s.setWord ix e w v).regs = tset dflt s.regs ⟨ix, e, w⟩ v := rfl
@[simp] theorem setWord_shadow (ix e w : Nat) (v : W) : (s.setWord ix e w v).shadow = s.shadow := rfl
@[simp] theorem setWord_clk (ix e w : Nat) (v : W) : (s.setWord ix e w v).clk = s.clk := rfl
@[simp] theorem setWord_sys (ix e w : Nat) (v : W) : (s.setWord ix e w v).sys = s.sys := rfl
@[simp] theorem setWord_host (ix e w : Nat) (v : W) : (s.setWord ix e w v).host = s.host := rfl
@[simp] theorem setWord_ev (ix e w : Nat) (v : W) : (s.setWord ix e w v).ev = s.ev := rfl
@[simp] theorem setWord_tm (ix e w : Nat) (v : W) : (s.setWord ix e w v).tm = s.tm := rfl
@[simp] theorem setWord_save (ix e w : Nat) (v : W) : (s.setWord ix e w v).save = s.save := rfl
@[simp] theorem setWord_fw (ix e w : Nat) (v : W) : (s.setWord ix e w v).fw = s.fw := rfl
@[simp] theorem setWord_pw (ix e w : Nat) (v : W) : (s.setWord ix e w v).pw = s.pw := rfl
@[simp] theorem setWord_xp (ix e w : Nat) (v : W) : (s.setWord ix e w v).xp = s.xp := rfl
@[simp] theorem setWord_au (ix e w : Nat) (v : W) : (s.setWord ix e w v).au = s.au := rfl
@[simp] theorem setWord_cm (ix e w : Nat) (v : W) : (s.setWord ix e w v).cm = s.cm := rfl
@[simp] theorem setWord_al (ix e w : Nat) (v : W) : (s.setWord ix e w v).al = s.al := rfl
@[simp] theorem setWord_ap (ix e w : Nat) (v : W) : (s.setWord ix e w v).ap = s.ap := rfl
@[simp] theorem setWord_lk (ix e w : Nat) (v : W) : (s.setWord ix e w v).lk = s.lk := rfl
@[simp] theorem setWord_mx (ix e w : Nat) (v : W) : (s.setWord ix e w v).mx = s.mx := rfl
@[simp] theorem setWord_tw (ix e w : Nat) (v : W) : (s.setWord ix e w v).tw = s.tw := rfl
@[simp] theorem setWord_ic (ix e w : Nat) (v : W) : (s.setWord ix e w v).ic = s.ic := rfl
@[simp] theorem setWord_mm (ix e w : Nat) (v : W) : (s.setWord ix e w v).mm = s.mm := rfl
@[simp] theorem setWord_fresh (ix e w : Nat) (v : W) : (s.setWord ix e w v).fresh = s.fresh := rfl

/-! ### `setShadow` -/

@[simp] theorem setShadow_pending (ix e w : Nat) (v : W) : (s.setShadow ix e w v).pending = s.pending := rfl
@[simp] theorem setShadow_caps (ix e w : Nat) (v : W) : (s.setShadow ix e w v).caps = s.caps := rfl
@[simp] theorem setShadow_regs (ix e w : Nat) (v : W) : (s.setShadow ix e w v).regs = s.regs := rfl
@[simp] theorem setShadow_shadow (ix e w : Nat) (v : W) : (s.setShadow ix e w v).shadow = tset dflt s.shadow ⟨ix, e, w⟩ v := rfl
@[simp] theorem setShadow_clk (ix e w : Nat) (v : W) : (s.setShadow ix e w v).clk = s.clk := rfl
@[simp] theorem setShadow_sys (ix e w : Nat) (v : W) : (s.setShadow ix e w v).sys = s.sys := rfl
@[simp] theorem setShadow_host (ix e w : Nat) (v : W) : (s.setShadow ix e w v).host = s.host := rfl
@[simp] theorem setShadow_ev (ix e w : Nat) (v : W) : (s.setShadow ix e w v).ev = s.ev := rfl
@[simp] theorem setShadow_tm (ix e w : Nat) (v : W) : (s.setShadow ix e w v).tm = s.tm := rfl
@[simp] theorem setShadow_save (ix e w : Nat) (v : W) : (s.setShadow ix e w v).save = s.save := rfl
@[simp] theorem setShadow_fw (ix e w : Nat) (v : W) : (s.setShadow ix e w v).fw = s.fw := rfl
@[simp] theorem setShadow_pw (ix e w : Nat) (v : W) : (s.setShadow ix e w v).pw = s.pw := rfl
@[simp] theorem setShadow_xp (ix e w : Nat) (v : W) : (s.setShadow ix e w v).xp = s.xp := rfl
@[simp] theorem setShadow_au (ix e w : Nat) (v : W) : (s.setShadow ix e w v).au = s.au := rfl
@[simp] theorem setShadow_cm (ix e w : Nat) (v : W) : (s.setShadow ix e w v).cm = s.cm := rfl
@[simp] theorem setShadow_al (ix e w : Nat) (v : W) : (s.setShadow ix e w v).al = s.al := rfl
@[simp] theorem setShadow_ap (ix e w : Nat) (v : W) : (s.setShadow ix e w v).ap = s.ap := rfl
@[simp] theorem setShadow_lk (ix e w : Nat) (v : W) : (s.setShadow ix e w v).lk = s.lk := rfl
@[simp] theorem setShadow_mx (ix e w : Nat) (v : W) : (s.setShadow ix e w v).mx = s.mx := rfl
@[simp] theorem setShadow_tw (ix e w : Nat) (v : W) : (s.setShadow ix e w v).tw = s.tw := rfl
@[simp] theorem setShadow_ic (ix e w : Nat) (v : W) : (s.setShadow ix e w v).ic = s.ic := rfl
@[simp] theorem setShadow_mm (ix e w : Nat) (v : W) : (s.setShadow ix e w v).mm = s.mm := rfl
@[simp] theorem setShadow_fresh (ix e w : Nat) (v : W) : (s.setShadow ix e w v).fresh = s.fresh := rfl

/-! ### `withSys` -/

@[simp] theorem withSys_pending (g : SysState → SysState) : (s.withSys g).pending = s.pending := rfl
@[simp] theorem withSys_caps (g : SysState → SysState) : (s.withSys g).caps = s.caps := rfl
@[simp] theorem withSys_regs (g : SysState → SysState) : (s.withSys g).regs = s.regs := rfl
@[simp] theorem withSys_shadow (g : SysState → SysState) : (s.withSys g).shadow = s.shadow := rfl
@[simp] theorem withSys_clk (g : SysState → SysState) : (s.withSys g).clk = s.clk := rfl
@[simp] theorem withSys_sys (g : SysState → SysState) : (s.withSys g).sys = g s.sys := rfl
@[simp] theorem withSys_host (g : SysState → SysState) : (s.withSys g).host = s.host := rfl
@[simp] theorem withSys_ev (g : SysState → SysState) : (s.withSys g).ev = s.ev := rfl
@[simp] theorem withSys_tm (g : SysState → SysState) : (s.withSys g).tm = s.tm := rfl
@[simp] theorem withSys_save (g : SysState → SysState) : (s.withSys g).save = s.save := rfl
@[simp] theorem withSys_fw (g : SysState → SysState) : (s.withSys g).fw = s.fw := rfl
@[simp] theorem withSys_pw (g : SysState → SysState) : (s.withSys g).pw = s.pw := rfl
@[simp] theorem withSys_xp (g : SysState → SysState) : (s.withSys g).xp = s.xp := rfl
@[simp] theorem withSys_au (g : SysState → SysState) : (s.withSys g).au = s.au := rfl
@[simp] theorem withSys_cm (g : SysState → SysState) : (s.withSys g).cm = s.cm := rfl
@[simp] theorem withSys_al (g : SysState → SysState) : (s.withSys g).al = s.al := rfl
@[simp] theorem withSys_ap (g : SysState → SysState) : (s.withSys g).ap = s.ap := rfl
@[simp] theorem withSys_lk (g : SysState → SysState) : (s.withSys g).lk = s.lk := rfl
@[simp] theorem withSys_mx (g : SysState → SysState) : (s.withSys g).mx = s.mx := rfl
@[simp] theorem withSys_tw (g : SysState → SysState) : (s.withSys g).tw = s.tw := rfl
@[simp] theorem withSys_ic (g : SysState → SysState) : (s.withSys g).ic = s.ic := rfl
@[simp] theorem withSys_mm (g : SysState → SysState) : (s.withSys g).mm = s.mm := rfl
@[simp] theorem withSys_fresh (g : SysState → SysState) : (s.withSys g).fresh = s.fresh := rfl

/-! ### `withHost` -/

@[simp] theorem withHost_pending (g : HostState → HostState) : (s.withHost g).pending = s.pending := rfl
@[simp] theorem withHost_caps (g : HostState → HostState) : (s.withHost g).caps = s.caps := rfl
@[simp] theorem withHost_regs (g : HostState → HostState) : (s.withHost g).regs = s.regs := rfl
@[simp] theorem withHost_shadow (g : HostState → HostState) : (s.withHost g).shadow = s.shadow := rfl
@[simp] theorem withHost_clk (g : HostState → HostState) : (s.withHost g).clk = s.clk := rfl
@[simp] theorem withHost_sys (g : HostState → HostState) : (s.withHost g).sys = s.sys := rfl
@[simp] theorem withHost_host (g : HostState → HostState) : (s.withHost g).host = g s.host := rfl
@[simp] theorem withHost_ev (g : HostState → HostState) : (s.withHost g).ev = s.ev := rfl
@[simp] theorem withHost_tm (g : HostState → HostState) : (s.withHost g).tm = s.tm := rfl
@[simp] theorem withHost_save (g : HostState → HostState) : (s.withHost g).save = s.save := rfl
@[simp] theorem withHost_fw (g : HostState → HostState) : (s.withHost g).fw = s.fw := rfl
@[simp] theorem withHost_pw (g : HostState → HostState) : (s.withHost g).pw = s.pw := rfl
@[simp] theorem withHost_xp (g : HostState → HostState) : (s.withHost g).xp = s.xp := rfl
@[simp] theorem withHost_au (g : HostState → HostState) : (s.withHost g).au = s.au := rfl
@[simp] theorem withHost_cm (g : HostState → HostState) : (s.withHost g).cm = s.cm := rfl
@[simp] theorem withHost_al (g : HostState → HostState) : (s.withHost g).al = s.al := rfl
@[simp] theorem withHost_ap (g : HostState → HostState) : (s.withHost g).ap = s.ap := rfl
@[simp] theorem withHost_lk (g : HostState → HostState) : (s.withHost g).lk = s.lk := rfl
@[simp] theorem withHost_mx (g : HostState → HostState) : (s.withHost g).mx = s.mx := rfl
@[simp] theorem withHost_tw (g : HostState → HostState) : (s.withHost g).tw = s.tw := rfl
@[simp] theorem withHost_ic (g : HostState → HostState) : (s.withHost g).ic = s.ic := rfl
@[simp] theorem withHost_mm (g : HostState → HostState) : (s.withHost g).mm = s.mm := rfl
@[simp] theorem withHost_fresh (g : HostState → HostState) : (s.withHost g).fresh = s.fresh := rfl

/-! ### `withEv` -/

@[simp] theorem withEv_pending (g : EvState → EvState) : (s.withEv g).pending = s.pending := rfl
@[simp] theorem withEv_caps (g : EvState → EvState) : (s.withEv g).caps = s.caps := rfl
@[simp] theorem withEv_regs (g : EvState → EvState) : (s.withEv g).regs = s.regs := rfl
@[simp] theorem withEv_shadow (g : EvState → EvState) : (s.withEv g).shadow = s.shadow := rfl
@[simp] theorem withEv_clk (g : EvState → EvState) : (s.withEv g).clk = s.clk := rfl
@[simp] theorem withEv_sys (g : EvState → EvState) : (s.withEv g).sys = s.sys := rfl
@[simp] theorem withEv_host (g : EvState → EvState) : (s.withEv g).host = s.host := rfl
@[simp] theorem withEv_ev (g : EvState → EvState) : (s.withEv g).ev = g s.ev := rfl
@[simp] theorem withEv_tm (g : EvState → EvState) : (s.withEv g).tm = s.tm := rfl
@[simp] theorem withEv_save (g : EvState → EvState) : (s.withEv g).save = s.save := rfl
@[simp] theorem withEv_fw (g : EvState → EvState) : (s.withEv g).fw = s.fw := rfl
@[simp] theorem withEv_pw (g : EvState → EvState) : (s.withEv g).pw = s.pw := rfl
@[simp] theorem withEv_xp (g : EvState → EvState) : (s.withEv g).xp = s.xp := rfl
@[simp] theorem withEv_au (g : EvState → EvState) : (s.withEv g).au = s.au := rfl
@[simp] theorem withEv_cm (g : EvState → EvState) : (s.withEv g).cm = s.cm := rfl
@[simp] theorem withEv_al (g : EvState → EvState) : (s.withEv g).al = s.al := rfl
@[simp] theorem withEv_ap (g : EvState → EvState) : (s.withEv g).ap = s.ap := rfl
@[simp] theorem withEv_lk (g : EvState → EvState) : (s.withEv g).lk = s.lk := rfl
@[simp] theorem withEv_mx (g : EvState → EvState) : (s.withEv g).mx = s.mx := rfl
@[simp] theorem withEv_tw (g : EvState → EvState) : (s.withEv g).tw = s.tw := rfl
@[simp] theorem withEv_ic (g : EvState → EvState) : (s.withEv g).ic = s.ic := rfl
@[simp] theorem withEv_mm (g : EvState → EvState) : (s.withEv g).mm = s.mm := rfl
@[simp] theorem withEv_fresh (g : EvState → EvState) : (s.withEv g).fresh = s.fresh := rfl

/-! ### `withTm` -/

@[simp] theorem withTm_pending (g : TimeState → TimeState) : (s.withTm g).pending = s.pending := rfl
@[simp] theorem withTm_caps (g : TimeState → TimeState) : (s.withTm g).caps = s.caps := rfl
@[simp] theorem withTm_regs (g : TimeState → TimeState) : (s.withTm g).regs = s.regs := rfl
@[simp] theorem withTm_shadow (g : TimeState → TimeState) : (s.withTm g).shadow = s.shadow := rfl
@[simp] theorem withTm_clk (g : TimeState → TimeState) : (s.withTm g).clk = s.clk := rfl
@[simp] theorem withTm_sys (g : TimeState → TimeState) : (s.withTm g).sys = s.sys := rfl
@[simp] theorem withTm_host (g : TimeState → TimeState) : (s.withTm g).host = s.host := rfl
@[simp] theorem withTm_ev (g : TimeState → TimeState) : (s.withTm g).ev = s.ev := rfl
@[simp] theorem withTm_tm (g : TimeState → TimeState) : (s.withTm g).tm = g s.tm := rfl
@[simp] theorem withTm_save (g : TimeState → TimeState) : (s.withTm g).save = s.save := rfl
@[simp] theorem withTm_fw (g : TimeState → TimeState) : (s.withTm g).fw = s.fw := rfl
@[simp] theorem withTm_pw (g : TimeState → TimeState) : (s.withTm g).pw = s.pw := rfl
@[simp] theorem withTm_xp (g : TimeState → TimeState) : (s.withTm g).xp = s.xp := rfl
@[simp] theorem withTm_au (g : TimeState → TimeState) : (s.withTm g).au = s.au := rfl
@[simp] theorem withTm_cm (g : TimeState → TimeState) : (s.withTm g).cm = s.cm := rfl
@[simp] theorem withTm_al (g : TimeState → TimeState) : (s.withTm g).al = s.al := rfl
@[simp] theorem withTm_ap (g : TimeState → TimeState) : (s.withTm g).ap = s.ap := rfl
@[simp] theorem withTm_lk (g : TimeState → TimeState) : (s.withTm g).lk = s.lk := rfl
@[simp] theorem withTm_mx (g : TimeState → TimeState) : (s.withTm g).mx = s.mx := rfl
@[simp] theorem withTm_tw (g : TimeState → TimeState) : (s.withTm g).tw = s.tw := rfl
@[simp] theorem withTm_ic (g : TimeState → TimeState) : (s.withTm g).ic = s.ic := rfl
@[simp] theorem withTm_mm (g : TimeState → TimeState) : (s.withTm g).mm = s.mm := rfl
@[simp] theorem withTm_fresh (g : TimeState → TimeState) : (s.withTm g).fresh = s.fresh := rfl

/-! ### `withSave` -/

@[simp] theorem withSave_pending (g : SaveState → SaveState) : (s.withSave g).pending = s.pending := rfl
@[simp] theorem withSave_caps (g : SaveState → SaveState) : (s.withSave g).caps = s.caps := rfl
@[simp] theorem withSave_regs (g : SaveState → SaveState) : (s.withSave g).regs = s.regs := rfl
@[simp] theorem withSave_shadow (g : SaveState → SaveState) : (s.withSave g).shadow = s.shadow := rfl
@[simp] theorem withSave_clk (g : SaveState → SaveState) : (s.withSave g).clk = s.clk := rfl
@[simp] theorem withSave_sys (g : SaveState → SaveState) : (s.withSave g).sys = s.sys := rfl
@[simp] theorem withSave_host (g : SaveState → SaveState) : (s.withSave g).host = s.host := rfl
@[simp] theorem withSave_ev (g : SaveState → SaveState) : (s.withSave g).ev = s.ev := rfl
@[simp] theorem withSave_tm (g : SaveState → SaveState) : (s.withSave g).tm = s.tm := rfl
@[simp] theorem withSave_save (g : SaveState → SaveState) : (s.withSave g).save = g s.save := rfl
@[simp] theorem withSave_fw (g : SaveState → SaveState) : (s.withSave g).fw = s.fw := rfl
@[simp] theorem withSave_pw (g : SaveState → SaveState) : (s.withSave g).pw = s.pw := rfl
@[simp] theorem withSave_xp (g : SaveState → SaveState) : (s.withSave g).xp = s.xp := rfl
@[simp] theorem withSave_au (g : SaveState → SaveState) : (s.withSave g).au = s.au := rfl
@[simp] theorem withSave_cm (g : SaveState → SaveState) : (s.withSave g).cm = s.cm := rfl
@[simp] theorem withSave_al (g : SaveState → SaveState) : (s.withSave g).al = s.al := rfl
@[simp] theorem withSave_ap (g : SaveState → SaveState) : (s.withSave g).ap = s.ap := rfl
@[simp] theorem withSave_lk (g : SaveState → SaveState) : (s.withSave g).lk = s.lk := rfl
@[simp] theorem withSave_mx (g : SaveState → SaveState) : (s.withSave g).mx = s.mx := rfl
@[simp] theorem withSave_tw (g : SaveState → SaveState) : (s.withSave g).tw = s.tw := rfl
@[simp] theorem withSave_ic (g : SaveState → SaveState) : (s.withSave g).ic = s.ic := rfl
@[simp] theorem withSave_mm (g : SaveState → SaveState) : (s.withSave g).mm = s.mm := rfl
@[simp] theorem withSave_fresh (g : SaveState → SaveState) : (s.withSave g).fresh = s.fresh := rfl

/-! ### `withFw` -/

@[simp] theorem withFw_pending (g : FwState → FwState) : (s.withFw g).pending = s.pending := rfl
@[simp] theorem withFw_caps (g : FwState → FwState) : (s.withFw g).caps = s.caps := rfl
@[simp] theorem withFw_regs (g : FwState → FwState) : (s.withFw g).regs = s.regs := rfl
@[simp] theorem withFw_shadow (g : FwState → FwState) : (s.withFw g).shadow = s.shadow := rfl
@[simp] theorem withFw_clk (g : FwState → FwState) : (s.withFw g).clk = s.clk := rfl
@[simp] theorem withFw_sys (g : FwState → FwState) : (s.withFw g).sys = s.sys := rfl
@[simp] theorem withFw_host (g : FwState → FwState) : (s.withFw g).host = s.host := rfl
@[simp] theorem withFw_ev (g : FwState → FwState) : (s.withFw g).ev = s.ev := rfl
@[simp] theorem withFw_tm (g : FwState → FwState) : (s.withFw g).tm = s.tm := rfl
@[simp] theorem withFw_save (g : FwState → FwState) : (s.withFw g).save = s.save := rfl
@[simp] theorem withFw_fw (g : FwState → FwState) : (s.withFw g).fw = g s.fw := rfl
@[simp] theorem withFw_pw (g : FwState → FwState) : (s.withFw g).pw = s.pw := rfl
@[simp] theorem withFw_xp (g : FwState → FwState) : (s.withFw g).xp = s.xp := rfl
@[simp] theorem withFw_au (g : FwState → FwState) : (s.withFw g).au = s.au := rfl
@[simp] theorem withFw_cm (g : FwState → FwState) : (s.withFw g).cm = s.cm := rfl
@[simp] theorem withFw_al (g : FwState → FwState) : (s.withFw g).al = s.al := rfl
@[simp] theorem withFw_ap (g : FwState → FwState) : (s.withFw g).ap = s.ap := rfl
@[simp] theorem withFw_lk (g : FwState → FwState) : (s.withFw g).lk = s.lk := rfl
@[simp] theorem withFw_mx (g : FwState → FwState) : (s.withFw g).mx = s.mx := rfl
@[simp] theorem withFw_tw (g : FwState → FwState) : (s.withFw g).tw = s.tw := rfl
@[simp] theorem withFw_ic (g : FwState → FwState) : (s.withFw g).ic = s.ic := rfl
@[simp] theorem withFw_mm (g : FwState → FwState) : (s.withFw g).mm = s.mm := rfl
@[simp] theorem withFw_fresh (g : FwState → FwState) : (s.withFw g).fresh = s.fresh := rfl

/-! ### `withPw` -/

@[simp] theorem withPw_pending (g : PowerState → PowerState) : (s.withPw g).pending = s.pending := rfl
@[simp] theorem withPw_caps (g : PowerState → PowerState) : (s.withPw g).caps = s.caps := rfl
@[simp] theorem withPw_regs (g : PowerState → PowerState) : (s.withPw g).regs = s.regs := rfl
@[simp] theorem withPw_shadow (g : PowerState → PowerState) : (s.withPw g).shadow = s.shadow := rfl
@[simp] theorem withPw_clk (g : PowerState → PowerState) : (s.withPw g).clk = s.clk := rfl
@[simp] theorem withPw_sys (g : PowerState → PowerState) : (s.withPw g).sys = s.sys := rfl
@[simp] theorem withPw_host (g : PowerState → PowerState) : (s.withPw g).host = s.host := rfl
@[simp] theorem withPw_ev (g : PowerState → PowerState) : (s.withPw g).ev = s.ev := rfl
@[simp] theorem withPw_tm (g : PowerState → PowerState) : (s.withPw g).tm = s.tm := rfl
@[simp] theorem withPw_save (g : PowerState → PowerState) : (s.withPw g).save = s.save := rfl
@[simp] theorem withPw_fw (g : PowerState → PowerState) : (s.withPw g).fw = s.fw := rfl
@[simp] theorem withPw_pw (g : PowerState → PowerState) : (s.withPw g).pw = g s.pw := rfl
@[simp] theorem withPw_xp (g : PowerState → PowerState) : (s.withPw g).xp = s.xp := rfl
@[simp] theorem withPw_au (g : PowerState → PowerState) : (s.withPw g).au = s.au := rfl
@[simp] theorem withPw_cm (g : PowerState → PowerState) : (s.withPw g).cm = s.cm := rfl
@[simp] theorem withPw_al (g : PowerState → PowerState) : (s.withPw g).al = s.al := rfl
@[simp] theorem withPw_ap (g : PowerState → PowerState) : (s.withPw g).ap = s.ap := rfl
@[simp] theorem withPw_lk (g : PowerState → PowerState) : (s.withPw g).lk = s.lk := rfl
@[simp] theorem withPw_mx (g : PowerState → PowerState) : (s.withPw g).mx = s.mx := rfl
@[simp] theorem withPw_tw (g : PowerState → PowerState) : (s.withPw g).tw = s.tw := rfl
@[simp] theorem withPw_ic (g : PowerState → PowerState) : (s.withPw g).ic = s.ic := rfl
@[simp] theorem withPw_mm (g : PowerState → PowerState) : (s.withPw g).mm = s.mm := rfl
@[simp] theorem withPw_fresh (g : PowerState → PowerState) : (s.withPw g).fresh = s.fresh := rfl

end Sys2Proof.Machine
end

