-- ==== Sys2Proof/Laws/Access.lean ====
section
/-! SUPPORT. What a host's request does once it passes the common checks (R335). -/
namespace Sys2Proof.Machine

@[simp] theorem countMsg_resp (s : State) (rq : Req) (b : Bool) : (s.countMsg rq b).host = s.host := by
  unfold State.countMsg
  split
  · rfl
  · split <;> rfl

@[simp] theorem answer_resp (s : State) (rq : Req) (a : Addr) (st : Status) :
    (s.answer rq a st).host.resp = if st == .forwarded then none else some ⟨st.code, false, [⟨a, st.code, 0, []⟩]⟩ := by
  unfold State.answer
  split
  · rfl
  · rw [countMsg_resp]; rfl

/-- An OK leaves nothing beyond the object. -/
@[simp] theorem settle_ok (s : State) (rq : Req) (a : Addr) (w : Nat) : s.settle rq a w .ok = s := by
  simp [State.settle, State.settleAs, Status.violation, Status.code]

theorem stir_awake {s : State} (h : s.mode ≠ HOLD) : s.stir = s := by simp [State.stir, h]

/-- Where the mast does not run, a request changes nothing and has no answer (R24, R393). -/
theorem request_silent {s : State} (h : s.alive = false) (rq : Req) (hw : HostWrite) (own : State → Status × State) :
    s.request rq hw own = s := by simp [State.request, h]

/-- An object that an address finds has the address's index. -/
theorem findElem_ix {c : Caps} {a : Addr} {o : Obj} (h : findElem c a = .ok o) : o.ix = a.ix := by
  unfold findElem findObj at h
  split at h
  · cases h
  · rename_i o' ho
    have p := List.find?_some ho
    simp only [Bool.and_eq_true, beq_iff_eq] at p
    split at h
    · split at h <;> cases h
    · split at h
      · cases h; exact p.1
      · cases h

/-- The wake of HOLD changes nothing that the common checks look at. -/
theorem stir_passes (s : State) (rq : Req) (x : HostWrite) : s.stir.passes rq x = s.passes rq x := by
  unfold State.stir
  split <;> rfl

/-- A write that passes the common checks is the object's own affair. -/
theorem judgeWrite_passes {s : State} {rq : Req} {hw : HostWrite} (own : State → Status × State) (h : s.passes rq hw = true) :
    s.judgeWrite rq hw own = own s := by
  unfold State.passes at h
  unfold State.judgeWrite
  split at h
  · rename_i o ho
    simp only [Bool.and_eq_true, Bool.or_eq_true, bne_iff_ne, ne_eq, Bool.not_eq_true'] at h
    obtain ⟨_, ⟨⟨⟨⟨hr, hp⟩, hg⟩, hl⟩, hm⟩, ht⟩ := h
    have hs : ¬ (s.mode = SAFE ∧ s.servesWhole o = false) := fun ⟨a, b⟩ => by
      rcases hm with hm | hm
      · exact hm a
      · rw [b] at hm; exact absurd hm (by decide)
    rw [ho]
    simp only [hr, hp, hg, hl, ht, Bool.not_true, Bool.or_self, if_false, Bool.false_eq_true]
    rw [if_neg hs]
  · simp at h

/-- And an OK of the object's own answers with what it leaves. -/
theorem request_ok {s t : State} {rq : Req} {hw : HostWrite} {own : State → Status × State} (h : s.passes rq hw = true)
    (ho : own s.stir = (.ok, t)) : s.request rq hw own = (t.countMsg rq false).answer rq hw.addr .ok := by
  have ha : s.alive = true := by
    unfold State.passes at h
    rw [Bool.and_eq_true] at h
    exact h.1
  have j := judgeWrite_passes own ((stir_passes s rq hw).trans h)
  simp [State.request, ha, State.hostWrite, j, ho]

/-- Four objects alone are leased (R336). -/
theorem leaseStops_plain (s : State) (rq : Req) {hw : HostWrite} (a : hw.addr.ix ≠ 0x2010) (b : hw.addr.ix ≠ 0x3020)
    (c : hw.addr.ix ≠ 0x3820) (d : hw.addr.ix ≠ 0x3810) : s.leaseStops rq hw = false := by
  unfold State.leaseStops
  split <;> first | contradiction | rfl

end Sys2Proof.Machine
end

