-- ==== Sys2Proof/Laws/Sparse.lean ====
section
/-! SUPPORT. The sparse tables: what a read finds after a write, and that every operation keeps the canonical form. -/
namespace Sys2Proof.Machine

/-! ### The order of names -/

theorem keyLt_iff (a b : Key) : keyLt a b = true ↔ a.ix < b.ix ∨ (a.ix = b.ix ∧ (a.e < b.e ∨ (a.e = b.e ∧ a.w < b.w))) := by
  simp [keyLt]

theorem keyLt_irrefl (a : Key) : keyLt a a = false := by
  simp [keyLt]

theorem keyLt_trans {a b c : Key} (h : keyLt a b = true) (g : keyLt b c = true) : keyLt a c = true := by
  rw [keyLt_iff] at *; omega

theorem keyLt_total {a b : Key} (h : keyLt a b = false) (n : a ≠ b) : keyLt b a = true := by
  have h' : ¬ keyLt a b = true := by simp [h]
  rw [keyLt_iff] at *
  have : ¬ (a.ix = b.ix ∧ a.e = b.e ∧ a.w = b.w) := fun ⟨x, y, z⟩ => n (by cases a; cases b; simp_all)
  omega

/-! ### Reading after writing -/

theorem tget_tput_same (d : Key → W) (t : Table) (k : Key) (v : W) : tget d (tput t k v) k = v := by
  induction t with
  | nil => simp [tput, tget]
  | cons x r ih =>
    obtain ⟨k', v'⟩ := x
    simp only [tput]
    split
    · simp [tget]
    · split
      · simp [tget]
      · rename_i h; simp [tget, h, ih]

theorem tget_tput_other (d : Key → W) (t : Table) {k j : Key} (v : W) (n : j ≠ k) : tget d (tput t k v) j = tget d t j := by
  induction t with
  | nil => simp [tput, tget, n]
  | cons x r ih =>
    obtain ⟨k', v'⟩ := x
    simp only [tput]
    split
    · simp [tget, n]
    · split
      · rename_i h; subst h; simp [tget, n]
      · simp [tget, ih]

theorem tget_filter (d : Key → W) (t : Table) (p : Key → Bool) (k : Key) :
    tget d (t.filter fun x => p x.1) k = if p k then tget d t k else d k := by
  induction t with
  | nil => simp [tget]
  | cons x r ih =>
    obtain ⟨k', v'⟩ := x
    by_cases h : p k' = true
    · rw [List.filter_cons_of_pos (by simpa using h)]
      simp only [tget, ih]
      by_cases e : k = k'
      · subst e; simp [h]
      · simp [e]
    · rw [List.filter_cons_of_neg (by simpa using h), ih]
      by_cases e : k = k'
      · subst e; simp [h]
      · simp [tget, e]

theorem tget_tdrop_same (d : Key → W) (t : Table) (k : Key) : tget d (tdrop t k) k = d k := by
  unfold tdrop
  rw [tget_filter d t (fun x => !(x == k)) k]; simp

theorem tget_tdrop_other (d : Key → W) (t : Table) {k j : Key} (n : j ≠ k) : tget d (tdrop t k) j = tget d t j := by
  unfold tdrop
  rw [tget_filter d t (fun x => !(x == k)) j]; simp [n]

theorem tget_tset_same (d : Key → W) (t : Table) (k : Key) (v : W) : tget d (tset d t k v) k = v := by
  unfold tset
  split
  · rename_i h; rw [tget_tdrop_same, h]
  · exact tget_tput_same ..

theorem tget_tset_other (d : Key → W) (t : Table) {k j : Key} (v : W) (n : j ≠ k) : tget d (tset d t k v) j = tget d t j := by
  unfold tset
  split
  · exact tget_tdrop_other d t n
  · exact tget_tput_other d t v n

/-- A merge writes only names that its source lists. -/
theorem tget_tmerge_other (d : Key → W) (src : Table) (t : Table) (k : Key) (h : ∀ x ∈ src, x.1 ≠ k) :
    tget d (tmerge d t src) k = tget d t k := by
  unfold tmerge
  induction src generalizing t with
  | nil => rfl
  | cons x r ih =>
    rw [List.foldl_cons, ih _ fun y hy => h y (List.mem_cons_of_mem _ hy)]
    exact tget_tset_other d t _ (Ne.symm (h x List.mem_cons_self))

/-! ### The canonical form -/

theorem tableWf_nil (d : Key → W) : tableWf d [] := ⟨.nil, fun _ h => absurd h List.not_mem_nil⟩

theorem tableWf_filter {d : Key → W} {t : Table} (p : Key × W → Bool) (h : tableWf d t) : tableWf d (t.filter p) :=
  ⟨h.1.sublist List.filter_sublist, fun x hx => h.2 x (List.mem_of_mem_filter hx)⟩

theorem mem_tput {t : Table} {k : Key} {v : W} {x : Key × W} (h : x ∈ tput t k v) : x = (k, v) ∨ x ∈ t := by
  induction t with
  | nil => simpa [tput] using h
  | cons y r ih =>
    simp only [tput] at h
    split at h
    · simpa using h
    · split at h
      · rcases List.mem_cons.1 h with h | h
        · exact .inl h
        · exact .inr (List.mem_cons_of_mem _ h)
      · rcases List.mem_cons.1 h with h | h
        · exact .inr (h ▸ List.mem_cons_self)
        · exact (ih h).imp id (List.mem_cons_of_mem _)

theorem pairwise_tput {t : Table} (k : Key) (v : W) (h : t.Pairwise fun a b => keyLt a.1 b.1 = true) :
    (tput t k v).Pairwise fun a b => keyLt a.1 b.1 = true := by
  induction t with
  | nil => simp [tput]
  | cons y r ih =>
    obtain ⟨k', v'⟩ := y
    rw [List.pairwise_cons] at h
    simp only [tput]
    split
    · rename_i lt
      refine List.pairwise_cons.2 ⟨fun z hz => ?_, List.pairwise_cons.2 h⟩
      rcases List.mem_cons.1 hz with e | hz
      · subst e; exact lt
      · exact keyLt_trans lt (h.1 z hz)
    · split
      · rename_i e; subst e; exact List.pairwise_cons.2 ⟨h.1, h.2⟩
      · rename_i lt ne
        refine List.pairwise_cons.2 ⟨fun z hz => ?_, ih h.2⟩
        rcases mem_tput hz with e | hz
        · subst e; exact keyLt_total (by simpa using lt) ne
        · exact h.1 z hz

theorem tableWf_tset {d : Key → W} {t : Table} (k : Key) (v : W) (h : tableWf d t) : tableWf d (tset d t k v) := by
  unfold tset
  split
  · exact tableWf_filter _ h
  · rename_i ne
    refine ⟨pairwise_tput k v h.1, fun x hx => ?_⟩
    rcases mem_tput hx with e | hx
    · subst e; exact ne
    · exact h.2 x hx

theorem tableWf_tmerge {d : Key → W} (src : Table) {t : Table} (h : tableWf d t) : tableWf d (tmerge d t src) := by
  unfold tmerge
  induction src generalizing t with
  | nil => exact h
  | cons x r ih => exact ih (tableWf_tset _ _ h)

/-! ### Byte spaces -/

theorem cellGet_cellSet_same (m : List Host.Cell) (a : Nat) (v : Byte) : cellGet (cellSet m a v) a = v := by
  have del : ∀ m : List Host.Cell, cellGet (m.filter fun x => !(x.1 == a)) a = 0xFF := by
    intro m
    induction m with
    | nil => rfl
    | cons x r ih =>
      by_cases e : x.1 = a
      · rw [List.filter_cons_of_neg (by simp [e])]; exact ih
      · rw [List.filter_cons_of_pos (by simp [e])]
        have e' : ¬ a = x.1 := fun q => e q.symm
        simp [cellGet, e', ih]
  have put : ∀ m : List Host.Cell, cellGet (cellPut m a v) a = v := by
    intro m
    induction m with
    | nil => simp [cellPut, cellGet]
    | cons x r ih =>
      simp only [cellPut]
      split
      · simp [cellGet]
      · split
        · simp [cellGet]
        · rename_i e; simp [cellGet, e, ih]
  unfold cellSet
  split
  · rename_i e; rw [e]; exact del m
  · exact put m

theorem cellGet_filter_other (m : List Host.Cell) {a b : Nat} (n : b ≠ a) : cellGet (m.filter fun x => !(x.1 == a)) b = cellGet m b := by
  induction m with
  | nil => rfl
  | cons x r ih =>
    by_cases e : x.1 = a
    · rw [List.filter_cons_of_neg (by simp [e]), ih]
      have : ¬ b = x.1 := fun q => n (q.trans e)
      simp [cellGet, this]
    · rw [List.filter_cons_of_pos (by simp [e])]
      simp [cellGet, ih]

theorem cellGet_cellPut_other (m : List Host.Cell) {a b : Nat} (v : Byte) (n : b ≠ a) : cellGet (cellPut m a v) b = cellGet m b := by
  induction m with
  | nil => simp [cellPut, cellGet, n]
  | cons x r ih =>
    obtain ⟨a', v'⟩ := x
    simp only [cellPut]
    split
    · simp [cellGet, n]
    · split
      · rename_i h; subst h; simp [cellGet, n]
      · simp [cellGet, ih]

theorem cellGet_cellSet_other (m : List Host.Cell) {a b : Nat} (v : Byte) (n : b ≠ a) : cellGet (cellSet m a v) b = cellGet m b := by
  unfold cellSet
  split
  · exact cellGet_filter_other m n
  · exact cellGet_cellPut_other m v n

theorem mem_cellPut {m : List Host.Cell} {a : Nat} {v : Byte} {x : Host.Cell} (h : x ∈ cellPut m a v) : x = (a, v) ∨ x ∈ m := by
  induction m with
  | nil => simpa [cellPut] using h
  | cons y r ih =>
    simp only [cellPut] at h
    split at h
    · simpa using h
    · split at h
      · rcases List.mem_cons.1 h with h | h
        · exact .inl h
        · exact .inr (List.mem_cons_of_mem _ h)
      · rcases List.mem_cons.1 h with h | h
        · exact .inr (h ▸ List.mem_cons_self)
        · exact (ih h).imp id (List.mem_cons_of_mem _)

theorem pairwise_cellPut {m : List Host.Cell} (a : Nat) (v : Byte) (h : m.Pairwise fun x y => x.1 < y.1) :
    (cellPut m a v).Pairwise fun x y => x.1 < y.1 := by
  induction m with
  | nil => simp [cellPut]
  | cons y r ih =>
    obtain ⟨a', v'⟩ := y
    rw [List.pairwise_cons] at h
    simp only [cellPut]
    split
    · rename_i lt
      refine List.pairwise_cons.2 ⟨fun z hz => ?_, List.pairwise_cons.2 h⟩
      rcases List.mem_cons.1 hz with e | hz
      · subst e; exact lt
      · exact Nat.lt_trans lt (h.1 z hz)
    · split
      · rename_i e; subst e; exact List.pairwise_cons.2 ⟨h.1, h.2⟩
      · rename_i lt ne
        refine List.pairwise_cons.2 ⟨fun z hz => ?_, ih h.2⟩
        rcases mem_cellPut hz with e | hz
        · subst e; simp only; omega
        · exact h.1 z hz

/-- A byte written keeps the canonical form of its space. -/
theorem cellsWf_cellSet {m : List Host.Cell} (a : Nat) (v : Byte) (h : cellsWf m) : cellsWf (cellSet m a v) := by
  unfold cellSet
  split
  · exact ⟨h.1.sublist List.filter_sublist, fun x hx => h.2 x (List.mem_of_mem_filter hx)⟩
  · rename_i ne
    refine ⟨pairwise_cellPut a v h.1, fun x hx => ?_⟩
    rcases mem_cellPut hx with e | hx
    · subst e; exact ne
    · exact h.2 x hx

end Sys2Proof.Machine
end

