-- ==== Sys2Proof/Laws/Ram.lean ====
section
/-! SUPPORT. The memories of the control-plane address space: a byte written is read back, the others stay, and addresses rise. -/
namespace Sys2Proof.Machine

theorem ramGet_cellPut (m : List Host.Cell) (a : Nat) (v : Byte) : ramGet (cellPut m a v) a = v := by
  unfold ramGet
  induction m with
  | nil => simp [cellPut]
  | cons y r ih =>
    obtain ⟨a', v'⟩ := y
    simp only [cellPut]
    split
    · simp
    · split
      · simp
      · rename_i ne
        rw [List.find?_cons_of_neg (by simpa using fun h => ne h.symm)]
        exact ih

theorem ramGet_cellPut_other (m : List Host.Cell) {a b : Nat} (v : Byte) (n : b ≠ a) : ramGet (cellPut m a v) b = ramGet m b := by
  unfold ramGet
  congr 2
  induction m with
  | nil => simpa [cellPut] using fun h : a = b => n h.symm
  | cons y r ih =>
    obtain ⟨a', v'⟩ := y
    simp only [cellPut]
    split
    · rw [List.find?_cons_of_neg (by simpa using fun h => n h.symm)]
    · split
      · rename_i e
        subst e
        rw [List.find?_cons_of_neg (by simpa using fun h => n h.symm), List.find?_cons_of_neg (by simpa using fun h => n h.symm)]
      · by_cases h : a' = b
        · simp [h]
        · rw [List.find?_cons_of_neg (by simpa using h), List.find?_cons_of_neg (by simpa using h)]
          exact ih

/-- Bytes written at a target keep the memories' canonical form. -/
theorem pairwise_targetWrite (s : State) (d t a : Nat) (l : List Byte) (h : s.ic.ram.Pairwise fun x y => x.1 < y.1) :
    (s.targetWrite d t a l).ic.ram.Pairwise fun x y => x.1 < y.1 := by
  unfold State.targetWrite
  split
  · have go : ∀ (k : Nat) (q : List (Byte × Nat)) (m : List Host.Cell), (m.Pairwise fun x y => x.1 < y.1) →
        (q.foldl (fun m x => cellPut m (k + x.2) x.1) m).Pairwise fun x y => x.1 < y.1 := by
      intro k q
      induction q with
      | nil => exact fun _ h => h
      | cons x q ih => exact fun m hm => ih _ (pairwise_cellPut _ _ hm)
    exact go _ _ _ h
  · exact h

/-- So do memories dropped. -/
theorem pairwise_dropRam (s : State) (p : Nat → Bool) (h : s.ic.ram.Pairwise fun x y => x.1 < y.1) :
    (s.dropRam p).ic.ram.Pairwise fun x y => x.1 < y.1 := h.sublist List.filter_sublist

end Sys2Proof.Machine
end

