-- ==== Sys2Proof/Laws/Within.lean ====
section
/-! SUPPORT. What an operation may change: it keeps the fused capabilities, the queue and the canonical form, and leaves every part
outside a list as it was. One lemma `…_within` for each operation says so for that operation; they compose by `Within.step`. -/
namespace Sys2Proof.Machine

/-- `t` came from `s` by operations on the parts `l` alone. -/
structure Within (l : List Part) (s t : State) : Prop where
  agrees  : s.Agrees l t
  caps    : t.caps = s.caps
  pending : t.pending = s.pending
  canon   : s.Canon → t.Canon

/-- Every part of `a` is taken in by `b`. -/
def sub (a b : List Part) : Bool := a.all (takesIn b)

theorem takesIn_mono {a b : List Part} (h : sub a b = true) {p : Part} (hp : takesIn b p = false) : takesIn a p = false := by
  unfold takesIn at *
  rw [Bool.or_eq_false_iff] at *
  unfold sub at h
  rw [List.all_eq_true] at h
  have key : ∀ q, (q = p ∨ q = Part.all) → ¬ q ∈ a := by
    intro q hq hm
    have := h q hm
    unfold takesIn at this
    rw [Bool.or_eq_true] at this
    rcases this with g | g
    · rcases hq with e | e
      · subst e; simp_all
      · subst e; simp_all
    · simp_all
  constructor
  · have := key p (.inl rfl); simp_all
  · have := key _ (.inr rfl); simp_all

theorem takesIn_trans {a b : List Part} (h : sub a b = true) {p : Part} (hp : takesIn a p = true) : takesIn b p = true := by
  by_contra n
  have := takesIn_mono h (p := p) (by simpa using n)
  simp_all

theorem sub_trans {a b c : List Part} (h : sub a b = true) (g : sub b c = true) : sub a c = true := by
  unfold sub at *
  rw [List.all_eq_true] at *
  intro p hp
  exact takesIn_trans (by unfold sub; rw [List.all_eq_true]; exact g) (h p hp)

theorem sub_all {a b : List Part} (h : b.contains Part.all = true) : sub a b = true := by
  unfold sub
  rw [List.all_eq_true]
  intro p _
  unfold takesIn
  rw [h, Bool.or_true]

theorem State.Agrees.mono {a b : List Part} {s t : State} (h : s.Agrees a t) (m : sub a b = true) : s.Agrees b t where
  word k n := h.word k (takesIn_mono m n)
  shadow n := h.shadow (takesIn_mono m n)
  clk n := h.clk (takesIn_mono m n)
  sys n := h.sys (takesIn_mono m n)
  host n := h.host (takesIn_mono m n)
  ev n := h.ev (takesIn_mono m n)
  tm n := h.tm (takesIn_mono m n)
  save n := h.save (takesIn_mono m n)
  fw n := h.fw (takesIn_mono m n)
  pw n := h.pw (takesIn_mono m n)
  xp n := h.xp (takesIn_mono m n)
  au n := h.au (takesIn_mono m n)
  cm n := h.cm (takesIn_mono m n)
  al n := h.al (takesIn_mono m n)
  ap n := h.ap (takesIn_mono m n)
  lk n := h.lk (takesIn_mono m n)
  mx n := h.mx (takesIn_mono m n)
  tw n := h.tw (takesIn_mono m n)
  ic n := h.ic (takesIn_mono m n)
  mm n := h.mm (takesIn_mono m n)
  fresh n := h.fresh (takesIn_mono m n)

theorem State.Agrees.trans {l : List Part} {s t u : State} (h : s.Agrees l t) (g : t.Agrees l u) : s.Agrees l u where
  word k n := (g.word k n).trans (h.word k n)
  shadow n := (g.shadow n).trans (h.shadow n)
  clk n := (g.clk n).trans (h.clk n)
  sys n := (g.sys n).trans (h.sys n)
  host n := (g.host n).trans (h.host n)
  ev n := (g.ev n).trans (h.ev n)
  tm n := (g.tm n).trans (h.tm n)
  save n := (g.save n).trans (h.save n)
  fw n := (g.fw n).trans (h.fw n)
  pw n := (g.pw n).trans (h.pw n)
  xp n := (g.xp n).trans (h.xp n)
  au n := (g.au n).trans (h.au n)
  cm n := (g.cm n).trans (h.cm n)
  al n := (g.al n).trans (h.al n)
  ap n := (g.ap n).trans (h.ap n)
  lk n := (g.lk n).trans (h.lk n)
  mx n := (g.mx n).trans (h.mx n)
  tw n := (g.tw n).trans (h.tw n)
  ic n := (g.ic n).trans (h.ic n)
  mm n := (g.mm n).trans (h.mm n)
  fresh n := (g.fresh n).trans (h.fresh n)

theorem Within.mono {a b : List Part} {s t : State} (h : Within a s t) (m : sub a b = true) : Within b s t :=
  ⟨h.agrees.mono m, h.caps, h.pending, h.canon⟩

theorem Within.refl {l : List Part} {s : State} : Within l s s :=
  ⟨⟨fun _ _ => rfl, fun _ => rfl, fun _ => rfl, fun _ => rfl, fun _ => rfl, fun _ => rfl, fun _ => rfl, fun _ => rfl, fun _ => rfl,
    fun _ => rfl, fun _ => rfl, fun _ => rfl, fun _ => rfl, fun _ => rfl, fun _ => rfl, fun _ => rfl, fun _ => rfl, fun _ => rfl,
    fun _ => rfl, fun _ => rfl, fun _ => rfl⟩, rfl, rfl, id⟩

theorem Within.trans {l : List Part} {s t u : State} (h : Within l s t) (g : Within l t u) : Within l s u :=
  ⟨h.agrees.trans g.agrees, g.caps.trans h.caps, g.pending.trans h.pending, fun c => g.canon (h.canon c)⟩

/-- One more operation, on parts that the list takes in. -/
theorem Within.step {a l : List Part} {s t u : State} (h : Within l s t) (g : Within a t u) (m : sub a l = true) : Within l s u :=
  h.trans (g.mono m)

theorem Within.foldl {α : Type} {l : List Part} {s a : State} {f : State → α → State} {xs : List α} (ha : Within l s a)
    (hf : ∀ t x, Within l s t → Within l s (f t x)) : Within l s (xs.foldl f a) := by
  induction xs generalizing a with
  | nil => exact ha
  | cons x r ih => exact ih (hf a x ha)

theorem Within.foldl_fst {α β : Type} {l : List Part} {s : State} {a : State × β} {f : State × β → α → State × β} {xs : List α}
    (ha : Within l s a.1) (hf : ∀ t x, Within l s t.1 → Within l s (f t x).1) : Within l s (xs.foldl f a).1 := by
  induction xs generalizing a with
  | nil => exact ha
  | cons x r ih => exact ih (hf a x ha)

theorem Within.foldl_snd {α β : Type} {l : List Part} {s : State} {a : β × State} {f : β × State → α → β × State} {xs : List α}
    (ha : Within l s a.2) (hf : ∀ t x, Within l s t.2 → Within l s (f t x).2) : Within l s (xs.foldl f a).2 := by
  induction xs generalizing a with
  | nil => exact ha
  | cons x r ih => exact ih (hf a x ha)


/-- A host's write keeps to `l`: its element, and what its own checks and effect do. -/
def PutWithin (l : List Part) (x : HostWrite × (State → Status × State)) : Prop :=
  takesIn l x.1.addr.ix = true ∧ ∀ s, Within l s (x.2 s).2

/-- A command answers a next state: an operation on the parts `l`, with what isolated dies held ended. -/
def ExecWithin (l : List Part) (s : State) (o : Host.Outcome State Fault Refusal) : Prop :=
  ∃ u, o = .next u.settleIsolated ∧ Within l s u

/-! ### The primitive operations -/

theorem setWord_within (s : State) (ix e w : Nat) (v : W) : Within [ix] s (s.setWord ix e w v) := by
  refine ⟨⟨fun k h => ?_, fun _ => rfl, fun _ => rfl, fun _ => rfl, fun _ => rfl, fun _ => rfl, fun _ => rfl, fun _ => rfl, fun _ => rfl,
    fun _ => rfl, fun _ => rfl, fun _ => rfl, fun _ => rfl, fun _ => rfl, fun _ => rfl, fun _ => rfl, fun _ => rfl, fun _ => rfl,
    fun _ => rfl, fun _ => rfl, fun _ => rfl⟩, rfl, rfl, fun c => ⟨tableWf_tset _ _ c.1, c.2⟩⟩
  refine tget_tset_other dflt s.regs v fun e => ?_
  subst e
  simp [takesIn] at h

theorem setShadow_within (s : State) (ix e w : Nat) (v : W) : Within [Part.shadow] s (s.setShadow ix e w v) :=
  ⟨⟨fun _ _ => rfl, fun h => absurd h (by decide), fun _ => rfl, fun _ => rfl, fun _ => rfl, fun _ => rfl, fun _ => rfl, fun _ => rfl,
    fun _ => rfl, fun _ => rfl, fun _ => rfl, fun _ => rfl, fun _ => rfl, fun _ => rfl, fun _ => rfl, fun _ => rfl, fun _ => rfl,
    fun _ => rfl, fun _ => rfl, fun _ => rfl, fun _ => rfl⟩, rfl, rfl, fun c => ⟨c.1, tableWf_tset _ _ c.2⟩⟩

/-- An operation that may have no answer: its answer, if any, keeps to `l`. -/
structure OptWithin (l : List Part) (s : State) (o : Option State) : Prop where
  out : ∀ t, o = Option.some t → Within l s t

theorem OptWithin.none {l : List Part} {s : State} : OptWithin l s none := ⟨fun _ e => by simp at e⟩

theorem OptWithin.some {l : List Part} {s t : State} (h : Within l s t) : OptWithin l s (some t) :=
  ⟨fun _ e => by cases e; exact h⟩

theorem OptWithin.step {a l : List Part} {s t : State} {o : Option State} (h : Within l s t) (g : OptWithin a t o)
    (m : sub a l = true) : OptWithin l s o := ⟨fun u e => h.step (g.out u e) m⟩

theorem OptWithin.get {l : List Part} {s t : State} {o : Option State} (h : OptWithin l s o) (e : o = Option.some t) :
    Within l s t := h.out t e

/-- An operation that may be refused with a status: its answer, if any, keeps to `l`. -/
structure ExcWithin {ε : Type} (l : List Part) (s : State) (o : Except ε State) : Prop where
  out : ∀ t, o = .ok t → Within l s t

theorem ExcWithin.error {ε : Type} {l : List Part} {s : State} {e : ε} : ExcWithin l s (.error e) := ⟨fun _ h => by simp at h⟩

theorem ExcWithin.ok {ε : Type} {l : List Part} {s t : State} (h : Within l s t) : ExcWithin (ε := ε) l s (.ok t) :=
  ⟨fun _ e => by cases e; exact h⟩

theorem ExcWithin.step {ε : Type} {a l : List Part} {s t : State} {o : Except ε State} (h : Within l s t) (g : ExcWithin a t o)
    (m : sub a l = true) : ExcWithin l s o := ⟨fun u e => h.step (g.out u e) m⟩

theorem ExcWithin.get {ε : Type} {l : List Part} {s t : State} {o : Except ε State} (h : ExcWithin l s o) (e : o = .ok t) :
    Within l s t := h.out t e

theorem PutWithin.step {a l : List Part} {x : HostWrite × (State → Status × State)} (h : PutWithin a x) (m : sub a l = true) :
    PutWithin l x := ⟨takesIn_trans m h.1, fun s => (h.2 s).mono m⟩

theorem Within.getD {l : List Part} {s d : State} {o : Option State} (ho : OptWithin l s o) (hd : Within l s d) :
    Within l s (o.getD d) := by
  cases o with
  | none => exact hd
  | some t => exact ho.out t rfl

theorem Within.of_snd {α : Type} {l : List Part} {s t : State} {p : α × State} {a : α} (h : Within l s p.2) (e : p = (a, t)) :
    Within l s t := by subst e; exact h

theorem Within.of_fst {α : Type} {l : List Part} {s t : State} {p : State × α} {a : α} (h : Within l s p.1) (e : p = (t, a)) :
    Within l s t := by subst e; exact h

/-! ### One structure replaced -/

theorem set_clk_within (s : State) (v : Clk) : Within [Part.clk] s { s with clk := v } :=
  ⟨⟨fun _ _ => rfl, fun _ => rfl, fun h => Bool.noConfusion h, fun _ => rfl, fun _ => rfl, fun _ => rfl, fun _ => rfl,
    fun _ => rfl, fun _ => rfl, fun _ => rfl, fun _ => rfl, fun _ => rfl, fun _ => rfl, fun _ => rfl, fun _ => rfl,
    fun _ => rfl, fun _ => rfl, fun _ => rfl, fun _ => rfl, fun _ => rfl, fun _ => rfl⟩, rfl, rfl, fun h => ⟨h.1, h.2⟩⟩

theorem set_sys_within (s : State) (v : SysState) : Within [Part.sys] s { s with sys := v } :=
  ⟨⟨fun _ _ => rfl, fun _ => rfl, fun _ => rfl, fun h => Bool.noConfusion h, fun _ => rfl, fun _ => rfl, fun _ => rfl,
    fun _ => rfl, fun _ => rfl, fun _ => rfl, fun _ => rfl, fun _ => rfl, fun _ => rfl, fun _ => rfl, fun _ => rfl,
    fun _ => rfl, fun _ => rfl, fun _ => rfl, fun _ => rfl, fun _ => rfl, fun _ => rfl⟩, rfl, rfl, fun h => ⟨h.1, h.2⟩⟩

theorem set_host_within (s : State) (v : HostState) : Within [Part.host] s { s with host := v } :=
  ⟨⟨fun _ _ => rfl, fun _ => rfl, fun _ => rfl, fun _ => rfl, fun h => Bool.noConfusion h, fun _ => rfl, fun _ => rfl,
    fun _ => rfl, fun _ => rfl, fun _ => rfl, fun _ => rfl, fun _ => rfl, fun _ => rfl, fun _ => rfl, fun _ => rfl,
    fun _ => rfl, fun _ => rfl, fun _ => rfl, fun _ => rfl, fun _ => rfl, fun _ => rfl⟩, rfl, rfl, fun h => ⟨h.1, h.2⟩⟩

theorem set_ev_within (s : State) (v : EvState) : Within [Part.ev] s { s with ev := v } :=
  ⟨⟨fun _ _ => rfl, fun _ => rfl, fun _ => rfl, fun _ => rfl, fun _ => rfl, fun h => Bool.noConfusion h, fun _ => rfl,
    fun _ => rfl, fun _ => rfl, fun _ => rfl, fun _ => rfl, fun _ => rfl, fun _ => rfl, fun _ => rfl, fun _ => rfl,
    fun _ => rfl, fun _ => rfl, fun _ => rfl, fun _ => rfl, fun _ => rfl, fun _ => rfl⟩, rfl, rfl, fun h => ⟨h.1, h.2⟩⟩

theorem set_tm_within (s : State) (v : TimeState) : Within [Part.tm] s { s with tm := v } :=
  ⟨⟨fun _ _ => rfl, fun _ => rfl, fun _ => rfl, fun _ => rfl, fun _ => rfl, fun _ => rfl, fun h => Bool.noConfusion h,
    fun _ => rfl, fun _ => rfl, fun _ => rfl, fun _ => rfl, fun _ => rfl, fun _ => rfl, fun _ => rfl, fun _ => rfl,
    fun _ => rfl, fun _ => rfl, fun _ => rfl, fun _ => rfl, fun _ => rfl, fun _ => rfl⟩, rfl, rfl, fun h => ⟨h.1, h.2⟩⟩

theorem set_save_within (s : State) (v : SaveState) : Within [Part.save] s { s with save := v } :=
  ⟨⟨fun _ _ => rfl, fun _ => rfl, fun _ => rfl, fun _ => rfl, fun _ => rfl, fun _ => rfl, fun _ => rfl,
    fun h => Bool.noConfusion h, fun _ => rfl, fun _ => rfl, fun _ => rfl, fun _ => rfl, fun _ => rfl, fun _ => rfl,
    fun _ => rfl, fun _ => rfl, fun _ => rfl, fun _ => rfl, fun _ => rfl, fun _ => rfl,
    fun _ => rfl⟩, rfl, rfl, fun h => ⟨h.1, h.2⟩⟩

theorem set_fw_within (s : State) (v : FwState) : Within [Part.fw] s { s with fw := v } :=
  ⟨⟨fun _ _ => rfl, fun _ => rfl, fun _ => rfl, fun _ => rfl, fun _ => rfl, fun _ => rfl, fun _ => rfl, fun _ => rfl,
    fun h => Bool.noConfusion h, fun _ => rfl, fun _ => rfl, fun _ => rfl, fun _ => rfl, fun _ => rfl, fun _ => rfl,
    fun _ => rfl, fun _ => rfl, fun _ => rfl, fun _ => rfl, fun _ => rfl, fun _ => rfl⟩, rfl, rfl, fun h => ⟨h.1, h.2⟩⟩

theorem set_pw_within (s : State) (v : PowerState) : Within [Part.pw] s { s with pw := v } :=
  ⟨⟨fun _ _ => rfl, fun _ => rfl, fun _ => rfl, fun _ => rfl, fun _ => rfl, fun _ => rfl, fun _ => rfl, fun _ => rfl,
    fun _ => rfl, fun h => Bool.noConfusion h, fun _ => rfl, fun _ => rfl, fun _ => rfl, fun _ => rfl, fun _ => rfl,
    fun _ => rfl, fun _ => rfl, fun _ => rfl, fun _ => rfl, fun _ => rfl, fun _ => rfl⟩, rfl, rfl, fun h => ⟨h.1, h.2⟩⟩

theorem set_xp_within (s : State) (v : XpState) : Within [Part.xp] s { s with xp := v } :=
  ⟨⟨fun _ _ => rfl, fun _ => rfl, fun _ => rfl, fun _ => rfl, fun _ => rfl, fun _ => rfl, fun _ => rfl, fun _ => rfl,
    fun _ => rfl, fun _ => rfl, fun h => Bool.noConfusion h, fun _ => rfl, fun _ => rfl, fun _ => rfl, fun _ => rfl,
    fun _ => rfl, fun _ => rfl, fun _ => rfl, fun _ => rfl, fun _ => rfl, fun _ => rfl⟩, rfl, rfl, fun h => ⟨h.1, h.2⟩⟩

theorem set_au_within (s : State) (v : AuState) : Within [Part.au] s { s with au := v } :=
  ⟨⟨fun _ _ => rfl, fun _ => rfl, fun _ => rfl, fun _ => rfl, fun _ => rfl, fun _ => rfl, fun _ => rfl, fun _ => rfl,
    fun _ => rfl, fun _ => rfl, fun _ => rfl, fun h => Bool.noConfusion h, fun _ => rfl, fun _ => rfl, fun _ => rfl,
    fun _ => rfl, fun _ => rfl, fun _ => rfl, fun _ => rfl, fun _ => rfl, fun _ => rfl⟩, rfl, rfl, fun h => ⟨h.1, h.2⟩⟩

theorem set_cm_within (s : State) (v : CmState) : Within [Part.cm] s { s with cm := v } :=
  ⟨⟨fun _ _ => rfl, fun _ => rfl, fun _ => rfl, fun _ => rfl, fun _ => rfl, fun _ => rfl, fun _ => rfl, fun _ => rfl,
    fun _ => rfl, fun _ => rfl, fun _ => rfl, fun _ => rfl, fun h => Bool.noConfusion h, fun _ => rfl, fun _ => rfl,
    fun _ => rfl, fun _ => rfl, fun _ => rfl, fun _ => rfl, fun _ => rfl, fun _ => rfl⟩, rfl, rfl, fun h => ⟨h.1, h.2⟩⟩

theorem set_al_within (s : State) (v : AlState) : Within [Part.al] s { s with al := v } :=
  ⟨⟨fun _ _ => rfl, fun _ => rfl, fun _ => rfl, fun _ => rfl, fun _ => rfl, fun _ => rfl, fun _ => rfl, fun _ => rfl,
    fun _ => rfl, fun _ => rfl, fun _ => rfl, fun _ => rfl, fun _ => rfl, fun h => Bool.noConfusion h, fun _ => rfl,
    fun _ => rfl, fun _ => rfl, fun _ => rfl, fun _ => rfl, fun _ => rfl, fun _ => rfl⟩, rfl, rfl, fun h => ⟨h.1, h.2⟩⟩

theorem set_ap_within (s : State) (v : ApState) : Within [Part.ap] s { s with ap := v } :=
  ⟨⟨fun _ _ => rfl, fun _ => rfl, fun _ => rfl, fun _ => rfl, fun _ => rfl, fun _ => rfl, fun _ => rfl, fun _ => rfl,
    fun _ => rfl, fun _ => rfl, fun _ => rfl, fun _ => rfl, fun _ => rfl, fun _ => rfl, fun h => Bool.noConfusion h,
    fun _ => rfl, fun _ => rfl, fun _ => rfl, fun _ => rfl, fun _ => rfl, fun _ => rfl⟩, rfl, rfl, fun h => ⟨h.1, h.2⟩⟩

theorem set_lk_within (s : State) (v : LkState) : Within [Part.lk] s { s with lk := v } :=
  ⟨⟨fun _ _ => rfl, fun _ => rfl, fun _ => rfl, fun _ => rfl, fun _ => rfl, fun _ => rfl, fun _ => rfl, fun _ => rfl,
    fun _ => rfl, fun _ => rfl, fun _ => rfl, fun _ => rfl, fun _ => rfl, fun _ => rfl, fun _ => rfl,
    fun h => Bool.noConfusion h, fun _ => rfl, fun _ => rfl, fun _ => rfl, fun _ => rfl,
    fun _ => rfl⟩, rfl, rfl, fun h => ⟨h.1, h.2⟩⟩

theorem set_mx_within (s : State) (v : MxState) : Within [Part.mx] s { s with mx := v } :=
  ⟨⟨fun _ _ => rfl, fun _ => rfl, fun _ => rfl, fun _ => rfl, fun _ => rfl, fun _ => rfl, fun _ => rfl, fun _ => rfl,
    fun _ => rfl, fun _ => rfl, fun _ => rfl, fun _ => rfl, fun _ => rfl, fun _ => rfl, fun _ => rfl, fun _ => rfl,
    fun h => Bool.noConfusion h, fun _ => rfl, fun _ => rfl, fun _ => rfl, fun _ => rfl⟩, rfl, rfl, fun h => ⟨h.1, h.2⟩⟩

theorem set_tw_within (s : State) (v : TwState) : Within [Part.tw] s { s with tw := v } :=
  ⟨⟨fun _ _ => rfl, fun _ => rfl, fun _ => rfl, fun _ => rfl, fun _ => rfl, fun _ => rfl, fun _ => rfl, fun _ => rfl,
    fun _ => rfl, fun _ => rfl, fun _ => rfl, fun _ => rfl, fun _ => rfl, fun _ => rfl, fun _ => rfl, fun _ => rfl,
    fun _ => rfl, fun h => Bool.noConfusion h, fun _ => rfl, fun _ => rfl, fun _ => rfl⟩, rfl, rfl, fun h => ⟨h.1, h.2⟩⟩

theorem set_ic_within (s : State) (v : IcState) : Within [Part.ic] s { s with ic := v } :=
  ⟨⟨fun _ _ => rfl, fun _ => rfl, fun _ => rfl, fun _ => rfl, fun _ => rfl, fun _ => rfl, fun _ => rfl, fun _ => rfl,
    fun _ => rfl, fun _ => rfl, fun _ => rfl, fun _ => rfl, fun _ => rfl, fun _ => rfl, fun _ => rfl, fun _ => rfl,
    fun _ => rfl, fun _ => rfl, fun h => Bool.noConfusion h, fun _ => rfl, fun _ => rfl⟩, rfl, rfl, fun h => ⟨h.1, h.2⟩⟩

theorem set_mm_within (s : State) (v : MmState) : Within [Part.mm] s { s with mm := v } :=
  ⟨⟨fun _ _ => rfl, fun _ => rfl, fun _ => rfl, fun _ => rfl, fun _ => rfl, fun _ => rfl, fun _ => rfl, fun _ => rfl,
    fun _ => rfl, fun _ => rfl, fun _ => rfl, fun _ => rfl, fun _ => rfl, fun _ => rfl, fun _ => rfl, fun _ => rfl,
    fun _ => rfl, fun _ => rfl, fun _ => rfl, fun h => Bool.noConfusion h, fun _ => rfl⟩, rfl, rfl, fun h => ⟨h.1, h.2⟩⟩

theorem set_fresh_within (s : State) (v : Nat) : Within [Part.fresh] s { s with fresh := v } :=
  ⟨⟨fun _ _ => rfl, fun _ => rfl, fun _ => rfl, fun _ => rfl, fun _ => rfl, fun _ => rfl, fun _ => rfl, fun _ => rfl,
    fun _ => rfl, fun _ => rfl, fun _ => rfl, fun _ => rfl, fun _ => rfl, fun _ => rfl, fun _ => rfl, fun _ => rfl,
    fun _ => rfl, fun _ => rfl, fun _ => rfl, fun _ => rfl, fun h => Bool.noConfusion h⟩, rfl, rfl, fun h => ⟨h.1, h.2⟩⟩

theorem tget_takeOver_other {p : Key → Bool} (t src : Table) {k : Key} (h : p k = false) :
    tget dflt (takeOver p t src) k = tget dflt t k := by
  unfold takeOver
  rw [tget_tmerge_other, tget_filter dflt t (fun x => !p x) k]
  · simp [h]
  · intro x hx e
    have := (List.mem_filter.1 hx).2
    subst e
    simp_all

theorem tableWf_takeOver {p : Key → Bool} {t : Table} (src : Table) (h : tableWf dflt t) : tableWf dflt (takeOver p t src) :=
  tableWf_tmerge _ (tableWf_filter _ h)

theorem set_shadow_takeOver_within (s : State) (p : Key → Bool) (src : Table) :
    Within [Part.shadow] s { s with shadow := takeOver p s.shadow src } :=
  ⟨⟨fun _ _ => rfl, fun h => Bool.noConfusion h, fun _ => rfl, fun _ => rfl, fun _ => rfl, fun _ => rfl, fun _ => rfl, fun _ => rfl,
    fun _ => rfl, fun _ => rfl, fun _ => rfl, fun _ => rfl, fun _ => rfl, fun _ => rfl, fun _ => rfl, fun _ => rfl, fun _ => rfl,
    fun _ => rfl, fun _ => rfl, fun _ => rfl, fun _ => rfl⟩, rfl, rfl, fun h => ⟨h.1, tableWf_takeOver _ h.2⟩⟩

/-- An operation on everything: it keeps what `Within` asks of every operation. -/
theorem Within.everything {s t : State} (hc : t.caps = s.caps) (hp : t.pending = s.pending) (hk : s.Canon → t.Canon) :
    Within [Part.all] s t := by
  have n : ∀ p, ¬ takesIn [Part.all] p = false := by intro p; simp [takesIn]
  exact ⟨⟨fun k h => absurd h (n _), fun h => absurd h (n _), fun h => absurd h (n _), fun h => absurd h (n _), fun h => absurd h (n _),
    fun h => absurd h (n _), fun h => absurd h (n _), fun h => absurd h (n _), fun h => absurd h (n _), fun h => absurd h (n _),
    fun h => absurd h (n _), fun h => absurd h (n _), fun h => absurd h (n _), fun h => absurd h (n _), fun h => absurd h (n _),
    fun h => absurd h (n _), fun h => absurd h (n _), fun h => absurd h (n _), fun h => absurd h (n _), fun h => absurd h (n _),
    fun h => absurd h (n _)⟩, hc, hp, hk⟩

theorem set_regs_filter_within (s : State) (p : Key × W → Bool) : Within [Part.all] s { s with regs := s.regs.filter p } :=
  .everything rfl rfl fun h => ⟨tableWf_filter _ h.1, h.2⟩

theorem set_regs_tmerge_within (s : State) (src : Table) (p : Key × W → Bool) :
    Within [Part.all] s { s with regs := tmerge dflt (s.regs.filter p) src } :=
  .everything rfl rfl fun h => ⟨tableWf_tmerge _ (tableWf_filter _ h.1), h.2⟩

theorem takesIn_all {l : List Part} (h : l.contains Part.all = true) (p : Part) : takesIn l p = true := by
  unfold takesIn; rw [h, Bool.or_true]

end Sys2Proof.Machine
end

