-- ==== Sys2Proof/Laws/WithinOps.lean ====
section
/-! SUPPORT. What the operations of Machine/Ops.lean may change: for each the parts of the state, and that it keeps to them. -/
namespace Sys2Proof.Machine

theorem setFld_within (s : State) (f : Fld) (e v : Nat) : Within [f.ix] s (s.setFld f e v) := setWord_within ..


theorem bump_within (s : State) (f : Fld) (e n : Nat) : Within [f.ix] s (s.bump f e n) := setFld_within ..


def Parts.takeFree : List Part := [Part.fresh]
theorem takeFree_within (s : State) : Within Parts.takeFree s (State.takeFree s).1 := by
  have h0 : Within Parts.takeFree s s := .refl
  unfold State.takeFree
  dsimp -zeta only
  refine Within.step ?_ (set_fresh_within ..) rfl
  with_reducible assumption

def Parts.ticks : List Part := [Part.clk]
theorem ticks_within (s : State) (n : Nat) : Within Parts.ticks s (State.ticks s n) := by
  have h0 : Within Parts.ticks s s := .refl
  unfold State.ticks
  extract_lets +onlyGivenNames -merge a0
  extract_lets +onlyGivenNames -merge a1
  clear_value a1
  refine Within.step ?_ (set_clk_within ..) rfl
  with_reducible assumption

def Parts.waitCount : List Part := [Part.clk]
theorem waitCount_within (s : State) (t : Nat) : Within Parts.waitCount s (State.waitCount s t) := by
  have h0 : Within Parts.waitCount s s := .refl
  unfold State.waitCount
  refine Within.step ?_ (ticks_within ..) rfl
  with_reducible assumption

def Parts.waitHouse : List Part := [Part.clk]
theorem waitHouse_within (s : State) (t : Nat) : Within Parts.waitHouse s (State.waitHouse s t) := by
  have h0 : Within Parts.waitHouse s s := .refl
  unfold State.waitHouse
  refine Within.step ?_ (ticks_within ..) rfl
  with_reducible assumption

def Parts.waitUntil : List Part := [Part.clk]
theorem waitUntil_within (s : State) (t : Nat) : Within Parts.waitUntil s (State.waitUntil s t) := by
  have h0 : Within Parts.waitUntil s s := .refl
  unfold State.waitUntil
  refine Within.step ?_ (ticks_within ..) rfl
  with_reducible assumption

theorem whileRunning_within {l : List Part} {s r : State} {k : State → State} (h : Within l r s) (hk : ∀ x, Within l r x → Within l r (k x)) :
    Within l r (s.whileRunning k) := by
  unfold State.whileRunning
  split
  · exact hk s h
  · exact h


def Parts.withEv : List Part := [Part.ev]
theorem withEv_within (s : State) (f : EvState → EvState) : Within Parts.withEv s (State.withEv s f) := by
  have h0 : Within Parts.withEv s s := .refl
  unfold State.withEv
  refine Within.step ?_ (set_ev_within ..) rfl
  with_reducible assumption

def Parts.withFw : List Part := [Part.fw]
theorem withFw_within (s : State) (f : FwState → FwState) : Within Parts.withFw s (State.withFw s f) := by
  have h0 : Within Parts.withFw s s := .refl
  unfold State.withFw
  refine Within.step ?_ (set_fw_within ..) rfl
  with_reducible assumption

def Parts.withHost : List Part := [Part.host]
theorem withHost_within (s : State) (f : HostState → HostState) : Within Parts.withHost s (State.withHost s f) := by
  have h0 : Within Parts.withHost s s := .refl
  unfold State.withHost
  refine Within.step ?_ (set_host_within ..) rfl
  with_reducible assumption

def Parts.withPw : List Part := [Part.pw]
theorem withPw_within (s : State) (f : PowerState → PowerState) : Within Parts.withPw s (State.withPw s f) := by
  have h0 : Within Parts.withPw s s := .refl
  unfold State.withPw
  refine Within.step ?_ (set_pw_within ..) rfl
  with_reducible assumption

def Parts.withSave : List Part := [Part.save]
theorem withSave_within (s : State) (f : SaveState → SaveState) : Within Parts.withSave s (State.withSave s f) := by
  have h0 : Within Parts.withSave s s := .refl
  unfold State.withSave
  refine Within.step ?_ (set_save_within ..) rfl
  with_reducible assumption

def Parts.withSys : List Part := [Part.sys]
theorem withSys_within (s : State) (f : SysState → SysState) : Within Parts.withSys s (State.withSys s f) := by
  have h0 : Within Parts.withSys s s := .refl
  unfold State.withSys
  refine Within.step ?_ (set_sys_within ..) rfl
  with_reducible assumption

def Parts.withTm : List Part := [Part.tm]
theorem withTm_within (s : State) (f : TimeState → TimeState) : Within Parts.withTm s (State.withTm s f) := by
  have h0 : Within Parts.withTm s s := .refl
  unfold State.withTm
  refine Within.step ?_ (set_tm_within ..) rfl
  with_reducible assumption

end Sys2Proof.Machine
end

