-- ==== Sys2Proof/Laws/WithinPortViews.lean ====
section
/-! SUPPORT. What the operations of Machine/PortViews.lean may change: for each the parts of the state, and that it keeps to them. -/
namespace Sys2Proof.Machine

def Parts.setDest : List Part := [Part.xp]
theorem setDest_within (s : State) (p : Nat) (d : Dest) : Within Parts.setDest s (State.setDest s p d) := by
  have h0 : Within Parts.setDest s s := .refl
  unfold State.setDest
  refine Within.step ?_ (set_xp_within ..) rfl
  with_reducible assumption

end Sys2Proof.Machine
end

