-- ==== Sys2Proof/Laws/WithinApViews.lean ====
section
/-! SUPPORT. What the operations of Machine/ApViews.lean may change: for each the parts of the state, and that it keeps to them. -/
namespace Sys2Proof.Machine

def Parts.dropStream : List Part := [Part.ap]
theorem dropStream_within (s : State) (q : Nat) (tx : Bool) : Within Parts.dropStream s (State.dropStream s q tx) := by
  have h0 : Within Parts.dropStream s s := .refl
  unfold State.dropStream
  refine Within.step ?_ (set_ap_within ..) rfl
  with_reducible assumption

def Parts.setStream : List Part := [Part.ap]
theorem setStream_within (s : State) (x : Stream) : Within Parts.setStream s (State.setStream s x) := by
  have h0 : Within Parts.setStream s s := .refl
  unfold State.setStream
  refine Within.step ?_ (set_ap_within ..) rfl
  with_reducible assumption

end Sys2Proof.Machine
end

