-- ==== Sys2Proof/Laws/WithinEvents.lean ====
section
/-! SUPPORT. What the operations of Machine/Events.lean may change: for each the parts of the state, and that it keeps to them. -/
namespace Sys2Proof.Machine

def Parts.driveFault : List Part := [Part.sys]
theorem driveFault_within (s : State) : Within Parts.driveFault s (State.driveFault s) := by
  have h0 : Within Parts.driveFault s s := .refl
  unfold State.driveFault
  extract_lets +onlyGivenNames -merge a0
  clear_value a0
  refine Within.step ?_ (withSys_within ..) rfl
  with_reducible assumption

def Parts.emergency : List Part := [Part.host]
theorem emergency_within (s : State) (r : Rec) : Within Parts.emergency s (State.emergency s r) := by
  have h0 : Within Parts.emergency s s := .refl
  unfold State.emergency
  refine Within.step ?_ (withHost_within ..) rfl
  with_reducible assumption

def Parts.withMgr : List Part := [Part.ev]
theorem withMgr_within (s : State) (d : Nat) (f : FaultMgr → FaultMgr) : Within Parts.withMgr s (State.withMgr s d f) := by
  have h0 : Within Parts.withMgr s s := .refl
  unfold State.withMgr
  refine Within.step ?_ (withEv_within ..) rfl
  with_reducible assumption

def Parts.notifySub : List Part := [Part.host, 0x6048]
theorem notifySub_within (s : State) (ix : Nat) (sub : Nat) (e : Nat) : Within Parts.notifySub s (State.notifySub s ix sub e) := by
  have h0 : Within Parts.notifySub s s := .refl
  unfold State.notifySub
  split
  · with_reducible assumption
  · extract_lets +onlyGivenNames -merge a0
    clear_value a0
    extract_lets +onlyGivenNames -merge a1
    clear_value a1
    extract_lets +onlyGivenNames -merge a2
    clear_value a2
    extract_lets +onlyGivenNames -merge a3
    extract_lets +onlyGivenNames -merge a4
    have h5 : Within Parts.notifySub s a4 := by
      unfold a4
      refine Within.step ?_ (withHost_within ..) rfl
      with_reducible assumption
    clear_value a4
    split
    · with_reducible assumption
    · refine Within.step ?_ (bump_within ..) rfl
      with_reducible assumption

def Parts.notify : List Part := [Part.host, 0x6048]
theorem notify_within (s : State) (ix : Nat) (e : Nat) : Within Parts.notify s (State.notify s ix e) := by
  have h0 : Within Parts.notify s s := .refl
  unfold State.notify
  refine Within.step ?_ (notifySub_within ..) rfl
  with_reducible assumption

def Parts.relays : List Part := [0x7810]
theorem relays_within (s : State) : Within Parts.relays s (State.relays s) := by
  have h0 : Within Parts.relays s s := .refl
  unfold State.relays
  refine Within.foldl ?_ ?_
  · with_reducible assumption
  · intro x0 x1 x2
    split
    · with_reducible assumption
    · split
      · refine Within.step ?_ (setFld_within ..) rfl
        with_reducible assumption
      · with_reducible assumption

def Parts.missed : List Part := [0x7820]
theorem missed_within (s : State) (r : Rec) : Within Parts.missed s (State.missed s r) := by
  have h0 : Within Parts.missed s s := .refl
  unfold State.missed
  refine Within.foldl ?_ ?_
  · with_reducible assumption
  · intro x0 x1 x2
    split
    · refine Within.step ?_ (bump_within ..) rfl
      with_reducible assumption
    · with_reducible assumption

def Parts.store : List Part := [Part.ev, 0x7820]
theorem store_within (s : State) (r : Rec) (lg : Bool) : Within Parts.store s (State.store s r lg) := by
  have h0 : Within Parts.store s s := .refl
  unfold State.store
  extract_lets +onlyGivenNames -merge a0
  clear_value a0
  extract_lets +onlyGivenNames -merge a1
  clear_value a1
  extract_lets +onlyGivenNames -merge a2
  clear_value a2
  extract_lets +onlyGivenNames -merge a3
  have h4 : Within Parts.store s a3 := by
    unfold a3
    split
    · refine Within.step ?_ (withEv_within ..) rfl
      with_reducible assumption
    · with_reducible assumption
  clear_value a3
  split
  · with_reducible assumption
  · split
    · with_reducible assumption
    · extract_lets +onlyGivenNames -merge a5
      clear_value a5
      extract_lets +onlyGivenNames -merge a6
      have h7 : Within Parts.store s a6 := by
        unfold a6
        refine Within.step ?_ (withEv_within ..) rfl
        with_reducible assumption
      clear_value a6
      split
      · refine Within.step ?_ (missed_within ..) rfl
        with_reducible assumption
      · with_reducible assumption

def Parts.writeRec : List Part := [Part.ev, Part.host, Part.clk, 0x7820]
theorem writeRec_within (s : State) (n : NewRec) : Within Parts.writeRec s (State.writeRec s n).1 := by
  have h0 : Within Parts.writeRec s s := .refl
  unfold State.writeRec
  extract_lets +onlyGivenNames -merge a0
  clear_value a0
  split
  · split
    · with_reducible assumption
    · extract_lets +onlyGivenNames -merge a1
      clear_value a1
      extract_lets +onlyGivenNames -merge a2
      have h3 : Within Parts.writeRec s a2 := by
        unfold a2
        refine Within.step ?_ (withEv_within ..) rfl
        with_reducible assumption
      clear_value a2
      dsimp -zeta only
      split
      · refine Within.step ?_ (emergency_within ..) rfl
        refine Within.step ?_ (withEv_within ..) rfl
        with_reducible assumption
      · with_reducible assumption
  · extract_lets +onlyGivenNames -merge a4
    extract_lets +onlyGivenNames -merge a5
    clear_value a5
    extract_lets +onlyGivenNames -merge a6
    clear_value a6
    extract_lets +onlyGivenNames -merge a7
    have h8 : Within Parts.writeRec s a7 := by
      unfold a7
      refine Within.step ?_ (set_clk_within ..) rfl
      with_reducible assumption
    clear_value a7
    extract_lets +onlyGivenNames -merge a9
    have h10 : Within Parts.writeRec s a9 := by
      unfold a9
      refine Within.step ?_ (store_within ..) rfl
      with_reducible assumption
    clear_value a9
    dsimp -zeta only
    split
    · refine Within.step ?_ (emergency_within ..) rfl
      with_reducible assumption
    · with_reducible assumption

def Parts.tellRecord : List Part := [Part.host, 0x6048]
theorem tellRecord_within (s : State) (f : FaultRun) : Within Parts.tellRecord s (State.tellRecord s f) := by
  have h0 : Within Parts.tellRecord s s := .refl
  unfold State.tellRecord
  split
  · refine Within.step ?_ (notify_within ..) rfl
    with_reducible assumption
  · with_reducible assumption

def Parts.isolateDie : List Part := [Part.ev, 0x7808, Part.sys, 0x7810, Part.host, 0x6048, Part.clk, 0x7820]
theorem isolateDie_within (s : State) (d : Nat) (code : Nat) (seq : Nat) (handed : Bool) : Within Parts.isolateDie s (State.isolateDie s d code seq handed) := by
  have h0 : Within Parts.isolateDie s s := .refl
  unfold State.isolateDie
  split
  · with_reducible assumption
  · extract_lets +onlyGivenNames -merge a0
    extract_lets +onlyGivenNames -merge a1
    have h2 : Within Parts.isolateDie s a1 := by
      unfold a1
      refine Within.step ?_ (withMgr_within ..) rfl
      with_reducible assumption
    clear_value a1
    extract_lets +onlyGivenNames -merge a3
    have h4 : Within Parts.isolateDie s a3 := by
      unfold a3
      refine Within.step ?_ (bump_within ..) rfl
      with_reducible assumption
    clear_value a3
    extract_lets +onlyGivenNames -merge a5
    have h6 : Within Parts.isolateDie s a5 := by
      unfold a5
      refine Within.step ?_ (withSys_within ..) rfl
      with_reducible assumption
    clear_value a5
    extract_lets +onlyGivenNames -merge a7
    have h8 : Within Parts.isolateDie s a7 := by
      unfold a7
      refine Within.step ?_ (notify_within ..) rfl
      refine Within.step ?_ (relays_within ..) rfl
      refine Within.step ?_ (setFld_within ..) rfl
      with_reducible assumption
    clear_value a7
    extract_lets +onlyGivenNames -merge a9
    have h10 : Within Parts.isolateDie s a9.1 := by
      unfold a9
      refine Within.step ?_ (writeRec_within ..) rfl
      with_reducible assumption
    clear_value a9
    extract_lets +onlyGivenNames -merge a11
    clear_value a11
    extract_lets +onlyGivenNames -merge a12
    have h13 : Within Parts.isolateDie s a12 := by
      unfold a12
      refine Within.step ?_ (tellRecord_within ..) rfl
      refine Within.step ?_ (withMgr_within ..) rfl
      with_reducible assumption
    clear_value a12
    refine Within.step ?_ (driveFault_within ..) rfl
    with_reducible assumption

def Parts.takeOut : List Part := [Part.ev]
theorem takeOut_within (s : State) (u : UnitCls) (d : Nat) (p : Nat) : Within Parts.takeOut s (State.takeOut s u d p) := by
  have h0 : Within Parts.takeOut s s := .refl
  unfold State.takeOut
  split
  · with_reducible assumption
  · refine Within.step ?_ (withEv_within ..) rfl
    with_reducible assumption

def Parts.raiseSeq : List Part := [Part.ev, Part.host, Part.clk, 0x7820, 0x6048, 0x7808, Part.sys, 0x7810]
theorem raiseSeq_within (s : State) (code : Nat) (l : Level) (die : Nat) (p1 : Nat) (p2 : Nat) (p3 : Nat) (byHandler : Bool) : Within Parts.raiseSeq s (State.raiseSeq s code l die p1 p2 p3 byHandler).1 := by
  have h0 : Within Parts.raiseSeq s s := .refl
  unfold State.raiseSeq
  extract_lets +onlyGivenNames -merge a0
  clear_value a0
  extract_lets +onlyGivenNames -merge a1
  clear_value a1
  extract_lets +onlyGivenNames -merge a2
  clear_value a2
  extract_lets +onlyGivenNames -merge a3
  clear_value a3
  extract_lets +onlyGivenNames -merge a4
  clear_value a4
  extract_lets +onlyGivenNames -merge a5
  clear_value a5
  extract_lets +onlyGivenNames -merge a6
  extract_lets +onlyGivenNames -merge a7
  have h8 : Within Parts.raiseSeq s a7.1 := by
    unfold a7
    refine Within.step ?_ (writeRec_within ..) rfl
    with_reducible assumption
  clear_value a7
  extract_lets +onlyGivenNames -merge a9
  clear_value a9
  extract_lets +onlyGivenNames -merge a10
  have h11 : Within Parts.raiseSeq s a10 := by
    unfold a10
    with_reducible assumption
  clear_value a10
  extract_lets +onlyGivenNames -merge a12
  clear_value a12
  extract_lets +onlyGivenNames -merge a13
  have h14 : Within Parts.raiseSeq s a13 := by
    unfold a13
    refine Within.step ?_ (withMgr_within ..) rfl
    with_reducible assumption
  clear_value a13
  extract_lets +onlyGivenNames -merge a15
  have h16 : Within Parts.raiseSeq s a15 := by
    unfold a15
    split
    · refine Within.step ?_ (tellRecord_within ..) rfl
      with_reducible assumption
    · with_reducible assumption
  clear_value a15
  extract_lets +onlyGivenNames -merge a17
  have h18 : Within Parts.raiseSeq s a17 := by
    unfold a17
    split
    · refine Within.step ?_ (bump_within ..) rfl
      with_reducible assumption
    · with_reducible assumption
  clear_value a17
  extract_lets +onlyGivenNames -merge a19
  have h20 : Within Parts.raiseSeq s a19 := by
    unfold a19
    split
    · refine Within.step ?_ (bump_within ..) rfl
      with_reducible assumption
    · with_reducible assumption
  clear_value a19
  extract_lets +onlyGivenNames -merge a21
  have h22 : Within Parts.raiseSeq s a21 := by
    unfold a21
    split
    · refine Within.step ?_ (takeOut_within ..) rfl
      with_reducible assumption
    · with_reducible assumption
  clear_value a21
  extract_lets +onlyGivenNames -merge a23
  have h24 : Within Parts.raiseSeq s a23 := by
    unfold a23
    split
    · refine Within.step ?_ (isolateDie_within ..) rfl
      with_reducible assumption
    · with_reducible assumption
  clear_value a23
  extract_lets +onlyGivenNames -merge a25
  have h26 : Within Parts.raiseSeq s a25 := by
    unfold a25
    refine Within.step ?_ (driveFault_within ..) rfl
    with_reducible assumption
  clear_value a25
  dsimp -zeta only
  split
  · with_reducible assumption
  · refine Within.step ?_ (notify_within ..) rfl
    with_reducible assumption

def Parts.raiseAt : List Part := [Part.ev, Part.host, Part.clk, 0x7820, 0x6048, 0x7808, Part.sys, 0x7810]
theorem raiseAt_within (s : State) (code : Nat) (l : Level) (die : Nat) (p1 : Nat) (p2 : Nat) (p3 : Nat) (byHandler : Bool) : Within Parts.raiseAt s (State.raiseAt s code l die p1 p2 p3 byHandler) := by
  have h0 : Within Parts.raiseAt s s := .refl
  unfold State.raiseAt
  refine Within.step ?_ (raiseSeq_within ..) rfl
  with_reducible assumption

def Parts.raise : List Part := [Part.ev, Part.host, Part.clk, 0x7820, 0x6048, 0x7808, Part.sys, 0x7810]
theorem raise_within (s : State) (code : Nat) (die : Nat) (p1 : Nat) (p2 : Nat) (p3 : Nat) : Within Parts.raise s (State.raise s code die p1 p2 p3) := by
  have h0 : Within Parts.raise s s := .refl
  unfold State.raise
  refine Within.step ?_ (raiseAt_within ..) rfl
  with_reducible assumption

def Parts.note : List Part := [Part.ev, Part.host, Part.clk, 0x7820, 0x6048, 0x7808, Part.sys, 0x7810]
theorem note_within (s : State) (code : Nat) (p1 : Nat) (p2 : Nat) (p3 : Nat) : Within Parts.note s (State.note s code p1 p2 p3) := by
  have h0 : Within Parts.note s s := .refl
  unfold State.note
  refine Within.step ?_ (raise_within ..) rfl
  with_reducible assumption

def Parts.putBack : List Part := [Part.ev]
theorem putBack_within (s : State) (u : UnitCls) (d : Nat) (p : Nat) : Within Parts.putBack s (State.putBack s u d p) := by
  have h0 : Within Parts.putBack s s := .refl
  unfold State.putBack
  refine Within.step ?_ (withEv_within ..) rfl
  with_reducible assumption

theorem setNotify_within (s : State) (f : Fld) (e v : Nat) : Within [f.ix, 0x6048, Part.host] s (s.setNotify f e v) := by
  unfold State.setNotify
  split
  · exact .refl
  · exact ((setFld_within ..).mono (by simp [sub, takesIn])).step (notify_within ..) (by simp [sub, takesIn, Parts.notify])

end Sys2Proof.Machine
end

