-- ==== Sys2Proof/Laws/WithinAccess.lean ====
section
/-! SUPPORT. What the operations of Machine/Access.lean may change: for each the parts of the state, and that it keeps to them. -/
namespace Sys2Proof.Machine

def Parts.countMsg : List Part := [0x6048]
theorem countMsg_within (s : State) (rq : Req) (sent : Bool) : Within Parts.countMsg s (State.countMsg s rq sent) := by
  have h0 : Within Parts.countMsg s s := .refl
  unfold State.countMsg
  split
  · with_reducible assumption
  · split
    · refine Within.step ?_ (bump_within ..) rfl
      with_reducible assumption
    · refine Within.step ?_ (bump_within ..) rfl
      with_reducible assumption

def Parts.answer : List Part := [Part.host, 0x6048]
theorem answer_within (s : State) (rq : Req) (a : Addr) (st : Status) : Within Parts.answer s (State.answer s rq a st) := by
  have h0 : Within Parts.answer s s := .refl
  unfold State.answer
  split
  · refine Within.step ?_ (withHost_within ..) rfl
    with_reducible assumption
  · refine Within.step ?_ (countMsg_within ..) rfl
    refine Within.step ?_ (withHost_within ..) rfl
    with_reducible assumption

def Parts.answerData : List Part := [Part.host, 0x6048]
theorem answerData_within (s : State) (rq : Req) (a : Addr) (data : List W) : Within Parts.answerData s (State.answerData s rq a data) := by
  have h0 : Within Parts.answerData s s := .refl
  unfold State.answerData
  refine Within.step ?_ (countMsg_within ..) rfl
  refine Within.step ?_ (withHost_within ..) rfl
  with_reducible assumption

theorem configOnly_within {l : List Part} {s r : State} {k : State → Status × State} (_ : true = true) (h : Within l r s)
    (hk : ∀ x, Within l r x → Within l r (k x).2) : Within l r (s.configOnly k).2 := by
  unfold State.configOnly
  split
  · exact hk s h
  · exact h


def Parts.recordViolation : List Part := [Part.ev, Part.host, Part.clk, 0x7820, 0x6048, 0x7808, Part.sys, 0x7810, 0x6040]
theorem recordViolation_within (s : State) (rq : Req) (st : Status) (ix : Nat) (sub : Nat) (addr : Nat) : Within Parts.recordViolation s (State.recordViolation s rq st ix sub addr) := by
  have h0 : Within Parts.recordViolation s s := .refl
  unfold State.recordViolation
  extract_lets +onlyGivenNames -merge a0
  extract_lets +onlyGivenNames -merge a1
  extract_lets +onlyGivenNames -merge a2
  have h3 : Within Parts.recordViolation s a2.1 := by
    unfold a2
    refine Within.step ?_ (raiseSeq_within ..) rfl
    with_reducible assumption
  clear_value a2
  extract_lets +onlyGivenNames -merge a4
  have h5 : Within Parts.recordViolation s a4 := by
    unfold a4
    refine Within.step ?_ (setWord_within ..) rfl
    with_reducible assumption
  clear_value a4
  extract_lets +onlyGivenNames -merge a6
  have h7 : Within Parts.recordViolation s a6 := by
    unfold a6
    refine Within.step ?_ (setWord_within ..) rfl
    with_reducible assumption
  clear_value a6
  extract_lets +onlyGivenNames -merge a8
  have h9 : Within Parts.recordViolation s a8 := by
    unfold a8
    refine Within.step ?_ (setWord_within ..) rfl
    with_reducible assumption
  clear_value a8
  refine Within.step ?_ (withHost_within ..) rfl
  with_reducible assumption

def Parts.withPcie : List Part := [Part.host]
theorem withPcie_within (s : State) (c : Nat) (f : PcieFn → PcieFn) : Within Parts.withPcie s (State.withPcie s c f) := by
  have h0 : Within Parts.withPcie s s := .refl
  unfold State.withPcie
  refine Within.step ?_ (withHost_within ..) rfl
  with_reducible assumption

def Parts.pcieFail : List Part := [Part.host]
theorem pcieFail_within (s : State) (c : Nat) (st : Status) (bar2 : Bool) (off : Nat) : Within Parts.pcieFail s (State.pcieFail s c st bar2 off) := by
  have h0 : Within Parts.pcieFail s s := .refl
  unfold State.pcieFail
  refine Within.step ?_ (withPcie_within ..) rfl
  with_reducible assumption

def Parts.settleAs : List Part := [Part.ev, Part.host, Part.clk, 0x7820, 0x6048, 0x7808, Part.sys, 0x7810, 0x6040]
theorem settleAs_within (s : State) (rq : Req) (x : WireAddr) (w : Nat) (st : Status) : Within Parts.settleAs s (State.settleAs s rq x w st) := by
  have h0 : Within Parts.settleAs s s := .refl
  unfold State.settleAs
  extract_lets +onlyGivenNames -merge a0
  clear_value a0
  extract_lets +onlyGivenNames -merge a1
  have h2 : Within Parts.settleAs s a1 := by
    unfold a1
    split
    · refine Within.step ?_ (recordViolation_within ..) rfl
      with_reducible assumption
    · with_reducible assumption
  clear_value a1
  split
  · refine Within.step ?_ (pcieFail_within ..) rfl
    with_reducible assumption
  · with_reducible assumption

def Parts.settle : List Part := [Part.ev, Part.host, Part.clk, 0x7820, 0x6048, 0x7808, Part.sys, 0x7810, 0x6040]
theorem settle_within (s : State) (rq : Req) (a : Addr) (w : Nat) (st : Status) : Within Parts.settle s (State.settle s rq a w st) := by
  have h0 : Within Parts.settle s s := .refl
  unfold State.settle
  refine Within.step ?_ (settleAs_within ..) rfl
  with_reducible assumption

def Parts.stir : List Part := [Part.pw]
theorem stir_within (s : State) : Within Parts.stir s (State.stir s) := by
  have h0 : Within Parts.stir s s := .refl
  unfold State.stir
  split
  · refine Within.step ?_ (withPw_within ..) rfl
    with_reducible assumption
  · with_reducible assumption

def Parts.hostRead : List Part := [0x6040, 0x6048, 0x7808, 0x7810, 0x7820, 0x6048, Part.shadow, Part.clk, Part.sys, Part.host, Part.ev, Part.pw]
theorem hostRead_within {l : List Part} {s r : State} {rq : Req} {a : Addr} {k : State → List W × State}
    (hl : sub Parts.hostRead l = true) (h : Within l r s) (hk : ∀ x, Within l r x → Within l r (k x).2) :
    Within l r (s.hostRead rq a k) := by
  unfold State.hostRead
  have hs : Within l r s.stir := h.step (stir_within ..) (sub_trans (b := Parts.hostRead) rfl hl)
  split
  · exact h
  · split
    · exact ((hs.step (settle_within ..) (sub_trans (b := Parts.hostRead) rfl hl)).step (countMsg_within ..)
        (sub_trans (b := Parts.hostRead) rfl hl)).step (answer_within ..) (sub_trans (b := Parts.hostRead) rfl hl)
    · exact (hk _ (hs.step (countMsg_within ..) (sub_trans (b := Parts.hostRead) rfl hl))).step (answerData_within ..) (sub_trans (b := Parts.hostRead) rfl hl)


def Parts.markDirty : List Part := [0x1028, Part.save]
theorem markDirty_within (s : State) : Within Parts.markDirty s (State.markDirty s) := by
  have h0 : Within Parts.markDirty s s := .refl
  unfold State.markDirty
  extract_lets +onlyGivenNames -merge a0
  have h1 : Within Parts.markDirty s a0 := by
    unfold a0
    refine Within.step ?_ (setFld_within ..) rfl
    with_reducible assumption
  clear_value a0
  split
  · with_reducible assumption
  · refine Within.step ?_ (withSave_within ..) rfl
    with_reducible assumption

def Parts.putShadow : List Part := [Part.shadow, 0x1028, Part.save]
theorem putShadow_within (s : State) (ix : Nat) (e : Nat) (w : Nat) (v : W) : Within Parts.putShadow s (State.putShadow s ix e w v) := by
  have h0 : Within Parts.putShadow s s := .refl
  unfold State.putShadow
  split
  · with_reducible assumption
  · extract_lets +onlyGivenNames -merge a0
    have h1 : Within Parts.putShadow s a0 := by
      unfold a0
      refine Within.step ?_ (setShadow_within ..) rfl
      with_reducible assumption
    clear_value a0
    split
    · refine Within.step ?_ (markDirty_within ..) rfl
      with_reducible assumption
    · with_reducible assumption

theorem putWord_within (s : State) (ix e w : Nat) (v : W) : Within [ix, 0x1028, Part.save] s (s.putWord ix e w v) := by
  have h : Within [ix, 0x1028, Part.save] s (s.setWord ix e w v) := (setWord_within ..).mono (by simp [sub, takesIn])
  unfold State.putWord
  split
  · exact .refl
  · split
    · exact h.step (markDirty_within _) (by simp [sub, takesIn, Parts.markDirty])
    · exact h


theorem saveWord_within (s : State) (a : Addr) (x : Nat × W) : Within [a.ix, 0x1028, Part.save, Part.shadow] s (s.saveWord a x) := by
  unfold State.saveWord
  split
  · split
    · exact (putShadow_within ..).mono (by simp [sub, takesIn, Parts.putShadow])
    · exact (putWord_within ..).mono (by simp [sub, takesIn])
  · exact .refl


def Parts.judgeWrite : List Part := [0x1028, Part.save, Part.shadow]
theorem judgeWrite_within {l : List Part} {s r : State} {rq : Req} {hw : HostWrite} {own : State → Status × State}
    (hl : sub Parts.judgeWrite l = true) (hx : PutWithin l (hw, own)) (h : Within l r s) : Within l r (s.judgeWrite rq hw own).2 := by
  unfold State.judgeWrite
  split
  · exact h
  · split
    · exact h
    · split
      · exact h
      · split
        · exact h
        · split
          · split
            · exact h
            · split
              · exact h
              · refine Within.foldl h fun t y ht => ht.step (saveWord_within ..) ?_
                have := hx.1
                simp only [sub, Parts.judgeWrite, List.all_cons, List.all_nil, Bool.and_true, Bool.and_eq_true] at hl ⊢
                exact ⟨this, hl.1, hl.2.1, hl.2.2⟩
          · split
            · exact h
            · exact h.trans (hx.2 s)


def Parts.hostWrite : List Part := [0x1028, Part.save, Part.shadow, 0x6040, 0x6048, 0x7808, 0x7810, 0x7820, Part.shadow, Part.clk, Part.sys, Part.host, Part.ev, Part.save]
theorem hostWrite_within {l : List Part} {s r : State} {rq : Req} {hw : HostWrite} {own : State → Status × State}
    (hl : sub Parts.hostWrite l = true) (hx : PutWithin l (hw, own)) (h : Within l r s) : Within l r (s.hostWrite rq hw own).2 := by
  unfold State.hostWrite
  extract_lets a
  have ha : Within l r a.2 := judgeWrite_within (sub_trans (b := Parts.hostWrite) rfl hl) hx h
  exact ha.step (settle_within ..) (sub_trans (b := Parts.hostWrite) rfl hl)


theorem plain_within (s : State) (ix sub e w : Nat) (v : W) : Within [ix, 0x1028, Part.save] s (s.plain ix sub e w v).2 := putWord_within ..


theorem putFld_within (s : State) (f : Fld) (e v : Nat) : Within [f.ix, 0x1028, Part.save] s (s.putFld f e v) := putWord_within ..


def Parts.refuse : List Part := [0x2009]
theorem refuse_within (s : State) (c : Nat) (obj : Nat) (e : Nat) (st : Status) : Within Parts.refuse s (State.refuse s c obj e st) := by
  have h0 : Within Parts.refuse s s := .refl
  unfold State.refuse
  extract_lets +onlyGivenNames -merge a0
  have h1 : Within Parts.refuse s a0 := by
    unfold a0
    refine Within.step ?_ (bump_within ..) rfl
    with_reducible assumption
  clear_value a0
  refine Within.step ?_ (setWord_within ..) rfl
  with_reducible assumption

def Parts.request : List Part := [0x1028, Part.save, Part.shadow, 0x6040, 0x6048, 0x7808, 0x7810, 0x7820, Part.shadow, Part.clk, Part.sys, Part.host, Part.ev, Part.save, Part.pw]
theorem request_within {l : List Part} {s r : State} {rq : Req} {hw : HostWrite} {own : State → Status × State}
    (hl : sub Parts.request l = true) (hx : PutWithin l (hw, own)) (h : Within l r s) : Within l r (s.request rq hw own) := by
  unfold State.request
  split
  · exact h
  · extract_lets a
    have hs : Within l r s.stir := h.step (stir_within ..) (sub_trans (b := Parts.request) rfl hl)
    have ha : Within l r a.2 := hostWrite_within (sub_trans (b := Parts.request) rfl hl) hx hs
    exact (ha.step (countMsg_within ..) (sub_trans (b := Parts.request) rfl hl)).step (answer_within ..) (sub_trans (b := Parts.request) rfl hl)

end Sys2Proof.Machine
end

