-- ==== Sys2Proof/Laws/WithinAnswers.lean ====
section
/-! SUPPORT. What the operations of Machine/Answers.lean may change: for each the parts of the state, and that it keeps to them. -/
namespace Sys2Proof.Machine

def Parts.setMacRun : List Part := [Part.mx]
theorem setMacRun_within (s : State) (x : MacRun) : Within Parts.setMacRun s (State.setMacRun s x) := by
  have h0 : Within Parts.setMacRun s s := .refl
  unfold State.setMacRun
  refine Within.step ?_ (set_mx_within ..) rfl
  with_reducible assumption

def Parts.ownLeaves : List Part := [Part.fresh, 0x4860]
theorem ownLeaves_within (s : State) (m : Nat) : Within Parts.ownLeaves s (State.ownLeaves s m) := by
  have h0 : Within Parts.ownLeaves s s := .refl
  unfold State.ownLeaves
  extract_lets +onlyGivenNames -merge a0
  have h1 : Within Parts.ownLeaves s a0.1 := by
    unfold a0
    refine Within.step ?_ (takeFree_within ..) rfl
    with_reducible assumption
  clear_value a0
  refine Within.step ?_ (bump_within ..) rfl
  refine Within.step ?_ (bump_within ..) rfl
  with_reducible assumption

def Parts.sendOwn : List Part := [Part.mx, Part.fresh, 0x4860]
theorem sendOwn_within (s : State) (m : Nat) : Within Parts.sendOwn s (State.sendOwn s m) := by
  have h0 : Within Parts.sendOwn s s := .refl
  unfold State.sendOwn
  extract_lets +onlyGivenNames -merge a0
  clear_value a0
  split
  · refine Within.step ?_ (setMacRun_within ..) rfl
    with_reducible assumption
  · refine Within.step ?_ (ownLeaves_within ..) rfl
    with_reducible assumption

def Parts.sendMsg : List Part := [0x6048, Part.mx, Part.fresh, 0x4860]
theorem sendMsg_within (s : State) (a : Att) : Within Parts.sendMsg s (State.sendMsg s a) := by
  have h0 : Within Parts.sendMsg s s := .refl
  unfold State.sendMsg
  extract_lets +onlyGivenNames -merge a0
  have h1 : Within Parts.sendMsg s a0 := by
    unfold a0
    refine Within.step ?_ (bump_within ..) rfl
    with_reducible assumption
  clear_value a0
  split
  · with_reducible assumption
  · split
    · refine Within.step ?_ (sendOwn_within ..) rfl
      with_reducible assumption
    · with_reducible assumption

def Parts.respond : List Part := [Part.host, 0x6048, Part.mx, Part.fresh, 0x4860]
theorem respond_within (s : State) (h : Ncp) (r : Resp) : Within Parts.respond s (State.respond s h r) := by
  have h0 : Within Parts.respond s s := .refl
  unfold State.respond
  refine Within.step ?_ (sendMsg_within ..) rfl
  refine Within.step ?_ (withHost_within ..) rfl
  with_reducible assumption

def Parts.modSession : List Part := [Part.host]
theorem modSession_within (s : State) (c : Nat) (f : Session → Session) : Within Parts.modSession s (State.modSession s c f) := by
  have h0 : Within Parts.modSession s s := .refl
  unfold State.modSession
  refine Within.step ?_ (withHost_within ..) rfl
  with_reducible assumption

def Parts.keepResp : List Part := [Part.host]
theorem keepResp_within (s : State) (h : Ncp) (r : Resp) : Within Parts.keepResp s (State.keepResp s h r) := by
  have h0 : Within Parts.keepResp s s := .refl
  unfold State.keepResp
  extract_lets +onlyGivenNames -merge a0
  clear_value a0
  split
  · refine Within.step ?_ (withHost_within ..) rfl
    with_reducible assumption
  · split
    · refine Within.step ?_ (modSession_within ..) rfl
      with_reducible assumption
    · with_reducible assumption

def Parts.countNoSession : List Part := [0x6048]
theorem countNoSession_within (s : State) (r : Resp) : Within Parts.countNoSession s (State.countNoSession s r) := by
  have h0 : Within Parts.countNoSession s s := .refl
  unfold State.countNoSession
  split
  · refine Within.step ?_ (bump_within ..) rfl
    with_reducible assumption
  · with_reducible assumption

def Parts.answerMsg : List Part := [0x6048, Part.host, Part.mx, Part.fresh, 0x4860]
theorem answerMsg_within (s : State) (h : Ncp) (r : Resp) (on : List (Addr × Req)) : Within Parts.answerMsg s (State.answerMsg s h r on) := by
  have h0 : Within Parts.answerMsg s s := .refl
  unfold State.answerMsg
  split
  · refine Within.step ?_ (respond_within ..) rfl
    refine Within.step ?_ (keepResp_within ..) rfl
    refine Within.step ?_ (countNoSession_within ..) rfl
    with_reducible assumption
  · refine Within.step ?_ (withHost_within ..) rfl
    with_reducible assumption

def Parts.fwdAnswer : List Part := [Part.tw, Part.ev, Part.host, Part.clk, 0x7820, 0x6048, 0x7808, Part.sys, 0x7810, 0x6040, Part.mx, Part.fresh, 0x4860]
theorem fwdAnswer_within (s : State) (a : Addr) (st : Nat) : Within Parts.fwdAnswer s (State.fwdAnswer s a st) := by
  have h0 : Within Parts.fwdAnswer s s := .refl
  unfold State.fwdAnswer
  split
  · with_reducible assumption
  · extract_lets +onlyGivenNames -merge a0
    clear_value a0
    extract_lets +onlyGivenNames -merge a1
    have h2 : Within Parts.fwdAnswer s a1 := by
      unfold a1
      refine Within.step ?_ (set_tw_within ..) rfl
      with_reducible assumption
    clear_value a1
    split
    · refine Within.step ?_ (answer_within ..) rfl
      refine Within.step ?_ (settle_within ..) rfl
      with_reducible assumption
    · extract_lets +onlyGivenNames -merge a3
      clear_value a3
      extract_lets +onlyGivenNames -merge a4
      have h5 : Within Parts.fwdAnswer s a4 := by
        unfold a4
        refine Within.step ?_ (withHost_within ..) rfl
        with_reducible assumption
      clear_value a4
      split
      · refine Within.step ?_ (answerMsg_within ..) rfl
        with_reducible assumption
      · with_reducible assumption

def Parts.sendOn : List Part := [Part.tw]
theorem sendOn_within (s : State) (a : Addr) (rq : Req) : Within Parts.sendOn s (State.sendOn s a rq) := by
  have h0 : Within Parts.sendOn s s := .refl
  unfold State.sendOn
  refine Within.step ?_ (set_tw_within ..) rfl
  with_reducible assumption

def Parts.setSession : List Part := [Part.host]
theorem setSession_within (s : State) (c : Nat) (x : Option Session) : Within Parts.setSession s (State.setSession s c x) := by
  have h0 : Within Parts.setSession s s := .refl
  unfold State.setSession
  refine Within.step ?_ (withHost_within ..) rfl
  with_reducible assumption

end Sys2Proof.Machine
end

