-- ==== Sys2Proof/Laws/WithinPorts.lean ====
section
/-! SUPPORT. What the operations of Machine/Ports.lean may change: for each the parts of the state, and that it keeps to them. -/
namespace Sys2Proof.Machine

def Parts.setCal : List Part := [0x2848, Part.host, 0x6048]
theorem setCal_within (s : State) (n : Nat) : Within Parts.setCal s (State.setCal s n) := by
  have h0 : Within Parts.setCal s s := .refl
  unfold State.setCal
  split
  · with_reducible assumption
  · refine Within.step ?_ (notifySub_within ..) rfl
    refine Within.step ?_ (setFld_within ..) rfl
    with_reducible assumption

def Parts.calFailed : List Part := [0x2848, Part.host, 0x6048]
theorem calFailed_within (s : State) (f : CalFail) : Within Parts.calFailed s (State.calFailed s f) := by
  have h0 : Within Parts.calFailed s s := .refl
  unfold State.calFailed
  refine Within.step ?_ (setCal_within ..) rfl
  refine Within.step ?_ (setFld_within ..) rfl
  refine Within.step ?_ (setFld_within ..) rfl
  with_reducible assumption

def Parts.editShadow : List Part := [0x2848, 0x6048, Part.host]
theorem editShadow_within {l : List Part} {s r : State} {k : State → State} (hl : sub Parts.editShadow l = true) (h : Within l r s)
    (hk : ∀ x, Within l r x → Within l r (k x)) : Within l r (s.editShadow k).2 := by
  have ht : Within l r (k s) := hk s h
  unfold State.editShadow
  dsimp only
  split
  · exact h
  · dsimp only
    split
    · exact ht.step (setCal_within ..) (sub_trans (b := Parts.editShadow) rfl hl)
    · exact ht


def Parts.setEngine : List Part := [0x6820, 0x6048, Part.host]
theorem setEngine_within (s : State) (e : Nat) (n : Nat) : Within Parts.setEngine s (State.setEngine s e n) := by
  have h0 : Within Parts.setEngine s s := .refl
  unfold State.setEngine
  refine Within.step ?_ (setNotify_within ..) rfl
  with_reducible assumption

def Parts.setPlacement : List Part := [Part.ic, 0x6820, 0x6048, Part.host]
theorem setPlacement_within (s : State) (pl : List (Bool × Nat × Nat)) : Within Parts.setPlacement s (State.setPlacement s pl) := by
  have h0 : Within Parts.setPlacement s s := .refl
  unfold State.setPlacement
  extract_lets +onlyGivenNames -merge a0
  clear_value a0
  extract_lets +onlyGivenNames -merge a1
  have h2 : Within Parts.setPlacement s a1 := by
    unfold a1
    refine Within.step ?_ (set_ic_within ..) rfl
    with_reducible assumption
  clear_value a1
  refine Within.foldl ?_ ?_
  · with_reducible assumption
  · intro x3 x4 x5
    split
    · refine Within.step ?_ (setEngine_within ..) rfl
      with_reducible assumption
    · with_reducible assumption

def Parts.setRxStream : List Part := [Part.lk]
theorem setRxStream_within (s : State) (x : RxStream) : Within Parts.setRxStream s (State.setRxStream s x) := by
  have h0 : Within Parts.setRxStream s s := .refl
  unfold State.setRxStream
  refine Within.step ?_ (set_lk_within ..) rfl
  with_reducible assumption

def Parts.putPort : List Part := [0x2818, 0x2810, Part.shadow, 0x2848, 0x6048, Part.host]
theorem putPort_within (s : State) (dst : Bool) (p : Nat) (v : W) : PutWithin Parts.putPort (putPort s dst p v) := by
  have h0 : Within Parts.putPort s s := .refl
  unfold putPort
  refine ⟨by cases ‹Bool› <;> rfl, fun s0 => ?_⟩
  dsimp -zeta only
  have h00 : Within Parts.putPort s0 s0 := .refl
  refine editShadow_within rfl ?_ ?_
  · with_reducible assumption
  · intro x0 x1
    refine Within.step ?_ (setShadow_within ..) rfl
    with_reducible assumption

end Sys2Proof.Machine
end

