-- ==== Sys2Proof/Laws/WithinMirror.lean ====
section
/-! SUPPORT. What the operations of Machine/Mirror.lean may change: for each the parts of the state, and that it keeps to them. -/
namespace Sys2Proof.Machine

def Parts.afterAck : List Part := [Part.tw]
theorem afterAck_within {l : List Part} {s r : State} {rq : Req} {a : Addr} {x : Status × State}
    (hl : sub Parts.afterAck l = true) (hx : Within l r x.2) : Within l r (s.afterAck rq a x).2 := by
  unfold State.afterAck
  split
  · extract_lets +onlyGivenNames -merge t
    have ht : Within l r t := hx.step (sendOn_within ..) (sub_trans (b := Parts.afterAck) rfl hl)
    clear_value t
    exact ht.step (set_tw_within ..) (sub_trans (b := Parts.afterAck) rfl hl)
  · exact hx


def Parts.decideHere : List Part := [Part.tw, 0x2009]
theorem decideHere_within {l : List Part} {s r : State} {rq : Req} {obj e : Nat} {k : State → Status × State}
    (hl : sub Parts.decideHere l = true) (h : Within l r s) (hk : ∀ x, Within l r x → Within l r (k x).2) :
    Within l r (s.decideHere rq obj e k).2 := by
  unfold State.decideHere
  split
  · exact hk s h
  · split
    · exact h.step (sendOn_within ..) (sub_trans (b := Parts.decideHere) rfl hl)
    · exact h.step (refuse_within ..) (sub_trans (b := Parts.decideHere) rfl hl)


def Parts.commitHere : List Part := [Part.tw, 0x2009]
theorem commitHere_within {l : List Part} {s r : State} {rq : Req} {obj e : Nat} {commits : Bool} {k : State → Status × State}
    (hl : sub Parts.commitHere l = true) (h : Within l r s) (hk : ∀ x, Within l r x → Within l r (k x).2) :
    Within l r (s.commitHere rq obj e commits k).2 := by
  unfold State.commitHere
  extract_lets +onlyGivenNames -merge a
  have ha : Within l r a.2 := decideHere_within (sub_trans (b := Parts.commitHere) rfl hl) h hk
  clear_value a
  split
  · exact afterAck_within (sub_trans (b := Parts.commitHere) rfl hl) ha
  · exact ha


def Parts.refreshClaim : List Part := [0x5818]
theorem refreshClaim_within (s : State) : Within Parts.refreshClaim s (State.refreshClaim s) := by
  have h0 : Within Parts.refreshClaim s s := .refl
  unfold State.refreshClaim
  refine Within.step ?_ (setFld_within ..) rfl
  with_reducible assumption

def Parts.replaceStore : List Part := [Part.mm]
theorem replaceStore_within (s : State) (p : Nat) : Within Parts.replaceStore s (State.replaceStore s p) := by
  have h0 : Within Parts.replaceStore s s := .refl
  unfold State.replaceStore
  refine Within.step ?_ (set_mm_within ..) rfl
  with_reducible assumption

def Parts.setSync : List Part := [Part.tw, 0x5818, 0x6048, Part.host, Part.ev, Part.clk, 0x7820, 0x7808, Part.sys, 0x7810]
theorem setSync_within (s : State) (n : Nat) : Within Parts.setSync s (State.setSync s n) := by
  have h0 : Within Parts.setSync s s := .refl
  unfold State.setSync
  extract_lets +onlyGivenNames -merge a0
  split
  · with_reducible assumption
  · extract_lets +onlyGivenNames -merge a1
    clear_value a1
    extract_lets +onlyGivenNames -merge a2
    have h3 : Within Parts.setSync s a2 := by
      unfold a2
      refine Within.step ?_ (set_tw_within ..) rfl
      with_reducible assumption
    clear_value a2
    extract_lets +onlyGivenNames -merge a4
    clear_value a4
    extract_lets +onlyGivenNames -merge a5
    have h6 : Within Parts.setSync s a5 := by
      unfold a5
      split
      · refine Within.step ?_ (set_tw_within ..) rfl
        with_reducible assumption
      · with_reducible assumption
    clear_value a5
    extract_lets +onlyGivenNames -merge a7
    have h8 : Within Parts.setSync s a7 := by
      unfold a7
      refine Within.step ?_ (setNotify_within ..) rfl
      with_reducible assumption
    clear_value a7
    extract_lets +onlyGivenNames -merge a9
    have h10 : Within Parts.setSync s a9 := by
      unfold a9
      split
      · refine Within.step ?_ (bump_within ..) rfl
        with_reducible assumption
      · with_reducible assumption
    clear_value a9
    extract_lets +onlyGivenNames -merge a11
    have h12 : Within Parts.setSync s a11 := by
      unfold a11
      split
      · refine Within.step ?_ (note_within ..) rfl
        with_reducible assumption
      · with_reducible assumption
    clear_value a11
    refine Within.step ?_ (refreshClaim_within ..) rfl
    with_reducible assumption

def Parts.tellTwin : List Part := [Part.tw]
theorem tellTwin_within (s : State) : Within Parts.tellTwin s (State.tellTwin s) := by
  have h0 : Within Parts.tellTwin s s := .refl
  unfold State.tellTwin
  split
  · refine Within.step ?_ (set_tw_within ..) rfl
    with_reducible assumption
  · with_reducible assumption

end Sys2Proof.Machine
end

