-- ==== Sys2Proof/Laws/WithinAlign.lean ====
section
/-! SUPPORT. What the operations of Machine/Align.lean may change: for each the parts of the state, and that it keeps to them. -/
namespace Sys2Proof.Machine

def Parts.setSrc : List Part := [Part.al]
theorem setSrc_within (s : State) (x : Src) : Within Parts.setSrc s (State.setSrc s x) := by
  have h0 : Within Parts.setSrc s s := .refl
  unfold State.setSrc
  refine Within.step ?_ (set_al_within ..) rfl
  with_reducible assumption

def Parts.dropSlips : List Part := [Part.au]
theorem dropSlips_within (s : State) (p : Nat) : Within Parts.dropSlips s (State.dropSlips s p) := by
  have h0 : Within Parts.dropSlips s s := .refl
  unfold State.dropSlips
  refine Within.step ?_ (set_au_within ..) rfl
  with_reducible assumption

def Parts.setAl : List Part := [0x2864, 0x6048, Part.host]
theorem setAl_within (s : State) (p : Nat) (n : Nat) : Within Parts.setAl s (State.setAl s p n) := by
  have h0 : Within Parts.setAl s s := .refl
  unfold State.setAl
  refine Within.step ?_ (setNotify_within ..) rfl
  with_reducible assumption

def Parts.alignStart : List Part := [Part.al, 0x2864, Part.au, 0x6048, Part.host]
theorem alignStart_within (s : State) (p : Nat) : Within Parts.alignStart s (State.alignStart s p) := by
  have h0 : Within Parts.alignStart s s := .refl
  unfold State.alignStart
  extract_lets +onlyGivenNames -merge a0
  clear_value a0
  extract_lets +onlyGivenNames -merge a1
  clear_value a1
  extract_lets +onlyGivenNames -merge a2
  clear_value a2
  extract_lets +onlyGivenNames -merge a3
  have h4 : Within Parts.alignStart s a3 := by
    unfold a3
    refine Within.step ?_ (setSrc_within ..) rfl
    with_reducible assumption
  clear_value a3
  extract_lets +onlyGivenNames -merge a5
  have h6 : Within Parts.alignStart s a5 := by
    unfold a5
    refine Within.step ?_ (dropSlips_within ..) rfl
    refine Within.step ?_ (setFld_within ..) rfl
    refine Within.step ?_ (setFld_within ..) rfl
    with_reducible assumption
  clear_value a5
  extract_lets +onlyGivenNames -merge a7
  have h8 : Within Parts.alignStart s a7 := by
    unfold a7
    split
    · refine Within.step ?_ (setFld_within ..) rfl
      with_reducible assumption
    · with_reducible assumption
  clear_value a7
  refine Within.step ?_ (setAl_within ..) rfl
  with_reducible assumption

def Parts.alignBoundary : List Part := [Part.al, 0x2864, Part.au, 0x6048, Part.host]
theorem alignBoundary_within (s : State) (p : Nat) : Within Parts.alignBoundary s (State.alignBoundary s p) := by
  have h0 : Within Parts.alignBoundary s s := .refl
  unfold State.alignBoundary
  extract_lets +onlyGivenNames -merge a0
  clear_value a0
  extract_lets +onlyGivenNames -merge a1
  have h2 : Within Parts.alignBoundary s a1 := by
    unfold a1
    refine Within.step ?_ (set_al_within ..) rfl
    with_reducible assumption
  clear_value a1
  extract_lets +onlyGivenNames -merge a3
  clear_value a3
  extract_lets +onlyGivenNames -merge a4
  clear_value a4
  split
  · with_reducible assumption
  · split
    · refine Within.step ?_ (alignStart_within ..) rfl
      with_reducible assumption
    · refine Within.step ?_ (setSrc_within ..) rfl
      with_reducible assumption

def Parts.alignFail : List Part := [Part.al, 0x2864, 0x6048, Part.host, Part.ev, Part.clk, 0x7820, 0x7808, Part.sys, 0x7810]
theorem alignFail_within (s : State) (p : Nat) (st : Nat) (code : Nat) (p2 : Nat) : Within Parts.alignFail s (State.alignFail s p st code p2) := by
  have h0 : Within Parts.alignFail s s := .refl
  unfold State.alignFail
  split
  · with_reducible assumption
  · extract_lets +onlyGivenNames -merge a0
    clear_value a0
    extract_lets +onlyGivenNames -merge a1
    clear_value a1
    extract_lets +onlyGivenNames -merge a2
    have h3 : Within Parts.alignFail s a2 := by
      unfold a2
      refine Within.step ?_ (setAl_within ..) rfl
      refine Within.step ?_ (setSrc_within ..) rfl
      with_reducible assumption
    clear_value a2
    refine Within.step ?_ (raise_within ..) rfl
    with_reducible assumption

def Parts.dropSrc : List Part := [Part.al]
theorem dropSrc_within (s : State) (p : Nat) : Within Parts.dropSrc s (State.dropSrc s p) := by
  have h0 : Within Parts.dropSrc s s := .refl
  unfold State.dropSrc
  refine Within.step ?_ (set_al_within ..) rfl
  with_reducible assumption

def Parts.alignPort : List Part := [Part.al, 0x2864, Part.au, 0x6048, Part.host]
theorem alignPort_within (s : State) (p : Nat) : Within Parts.alignPort s (State.alignPort s p) := by
  have h0 : Within Parts.alignPort s s := .refl
  unfold State.alignPort
  split
  · refine Within.step ?_ (alignStart_within ..) rfl
    refine Within.step ?_ (setSrc_within ..) rfl
    with_reducible assumption
  · refine Within.step ?_ (setAl_within ..) rfl
    refine Within.step ?_ (dropSrc_within ..) rfl
    with_reducible assumption

def Parts.asrcBindFsync : List Part := [0x3060]
theorem asrcBindFsync_within (s : State) (p : Nat) (e : Nat) (k : Nat) : Within Parts.asrcBindFsync s (State.asrcBindFsync s p e k) := by
  have h0 : Within Parts.asrcBindFsync s s := .refl
  unfold State.asrcBindFsync
  extract_lets +onlyGivenNames -merge a0
  have h1 : Within Parts.asrcBindFsync s a0 := by
    unfold a0
    refine Within.step ?_ (setWord_within ..) rfl
    with_reducible assumption
  clear_value a0
  refine Within.step ?_ (setWord_within ..) rfl
  with_reducible assumption

def Parts.asrcRelease : List Part := [0x3060]
theorem asrcRelease_within (s : State) (p : Nat) : Within Parts.asrcRelease s (State.asrcRelease s p) := by
  have h0 : Within Parts.asrcRelease s s := .refl
  unfold State.asrcRelease
  refine Within.foldl ?_ ?_
  · with_reducible assumption
  · intro x0 x1 x2
    refine Within.step ?_ (setWord_within ..) rfl
    refine Within.step ?_ (setWord_within ..) rfl
    with_reducible assumption

def Parts.asrcFit : List Part := [0x3060]
theorem asrcFit_within (s : State) (p : Nat) : Within Parts.asrcFit s (State.asrcFit s p) := by
  have h0 : Within Parts.asrcFit s s := .refl
  unfold State.asrcFit
  split
  · with_reducible assumption
  · extract_lets +onlyGivenNames -merge a0
    have h1 : Within Parts.asrcFit s a0 := by
      unfold a0
      refine Within.step ?_ (asrcRelease_within ..) rfl
      with_reducible assumption
    clear_value a0
    refine Within.foldl ?_ ?_
    · with_reducible assumption
    · intro x2 x3 x4
      refine Within.step ?_ (asrcBindFsync_within ..) rfl
      with_reducible assumption

def Parts.slipNow : List Part := [Part.au, 0x2864]
theorem slipNow_within (s : State) (p : Nat) (rep : Bool) : Within Parts.slipNow s (State.slipNow s p rep) := by
  have h0 : Within Parts.slipNow s s := .refl
  unfold State.slipNow
  split
  · extract_lets +onlyGivenNames -merge a0
    clear_value a0
    extract_lets +onlyGivenNames -merge a1
    clear_value a1
    extract_lets +onlyGivenNames -merge a2
    have h3 : Within Parts.slipNow s a2 := by
      unfold a2
      refine Within.step ?_ (set_au_within ..) rfl
      with_reducible assumption
    clear_value a2
    refine Within.step ?_ (bump_within ..) rfl
    with_reducible assumption
  · with_reducible assumption

def Parts.audioSlip : List Part := [Part.au, 0x2864, Part.tw]
theorem audioSlip_within (s : State) (p : Nat) (rep : Bool) : Within Parts.audioSlip s (State.audioSlip s p rep) := by
  have h0 : Within Parts.audioSlip s s := .refl
  unfold State.audioSlip
  split
  · refine Within.step ?_ (tellTwin_within ..) rfl
    refine Within.step ?_ (slipNow_within ..) rfl
    with_reducible assumption
  · with_reducible assumption

def Parts.checkOne : List Part := [Part.al, Part.ev, Part.host, Part.clk, 0x7820, 0x6048, 0x7808, Part.sys, 0x7810]
theorem checkOne_within (s : State) (which : Nat) (d : Nat) (use : Nat) (limit : Nat) : Within Parts.checkOne s (State.checkOne s which d use limit) := by
  have h0 : Within Parts.checkOne s s := .refl
  unfold State.checkOne
  extract_lets +onlyGivenNames -merge a0
  extract_lets +onlyGivenNames -merge a1
  split
  · with_reducible assumption
  · split
    · refine Within.step ?_ (raise_within ..) rfl
      refine Within.step ?_ (set_al_within ..) rfl
      with_reducible assumption
    · refine Within.step ?_ (set_al_within ..) rfl
      with_reducible assumption

def Parts.checkBudget : List Part := [Part.al, Part.ev, Part.host, Part.clk, 0x7820, 0x6048, 0x7808, Part.sys, 0x7810]
theorem checkBudget_within (s : State) (d : Nat) : Within Parts.checkBudget s (State.checkBudget s d) := by
  have h0 : Within Parts.checkBudget s s := .refl
  unfold State.checkBudget
  extract_lets +onlyGivenNames -merge a0
  have h1 : Within Parts.checkBudget s a0 := by
    unfold a0
    refine Within.step ?_ (checkOne_within ..) rfl
    with_reducible assumption
  clear_value a0
  split
  · refine Within.step ?_ (checkOne_within ..) rfl
    with_reducible assumption
  · with_reducible assumption

def Parts.countPicture : List Part := [0x2864]
theorem countPicture_within (s : State) (p : Nat) : Within Parts.countPicture s (State.countPicture s p) := by
  have h0 : Within Parts.countPicture s s := .refl
  unfold State.countPicture
  refine Within.step ?_ (setFld_within ..) rfl
  with_reducible assumption

def Parts.discardPicture : List Part := [Part.al, 0x2864]
theorem discardPicture_within (s : State) (p : Nat) : Within Parts.discardPicture s (State.discardPicture s p) := by
  have h0 : Within Parts.discardPicture s s := .refl
  unfold State.discardPicture
  extract_lets +onlyGivenNames -merge a0
  clear_value a0
  extract_lets +onlyGivenNames -merge a1
  clear_value a1
  refine Within.step ?_ (bump_within ..) rfl
  refine Within.step ?_ (setSrc_within ..) rfl
  with_reducible assumption

def Parts.dropOldest : List Part := [Part.al, 0x2864]
theorem dropOldest_within (s : State) (p : Nat) : Within Parts.dropOldest s (State.dropOldest s p) := by
  have h0 : Within Parts.dropOldest s s := .refl
  unfold State.dropOldest
  extract_lets +onlyGivenNames -merge a0
  clear_value a0
  refine Within.step ?_ (bump_within ..) rfl
  refine Within.step ?_ (setSrc_within ..) rfl
  with_reducible assumption

def Parts.fitDie : List Part := [0x2860, 0x1028, Part.save, Part.ev, Part.host, Part.clk, 0x7820, 0x6048, 0x7808, Part.sys, 0x7810]
theorem fitDie_within (s : State) (d : Nat) : Within Parts.fitDie s (State.fitDie s d) := by
  have h0 : Within Parts.fitDie s s := .refl
  unfold State.fitDie
  extract_lets +onlyGivenNames -merge a0
  clear_value a0
  extract_lets +onlyGivenNames -merge a1
  have h2 : Within Parts.fitDie s a1.1 := by
    unfold a1
    refine Within.foldl_fst ?_ ?_
    · with_reducible assumption
    · intro x3 x4 x5
      extract_lets +onlyGivenNames -merge a6
      clear_value a6
      extract_lets +onlyGivenNames -merge a7
      clear_value a7
      extract_lets +onlyGivenNames -merge a8
      have h9 : Within Parts.fitDie s a8 := by
        unfold a8
        split
        · with_reducible assumption
        · refine Within.step ?_ (raise_within ..) rfl
          refine Within.step ?_ (putWord_within ..) rfl
          with_reducible assumption
      clear_value a8
      with_reducible assumption
  clear_value a1
  with_reducible assumption

def Parts.fitAll : List Part := [0x2860, 0x1028, Part.save, Part.ev, Part.host, Part.clk, 0x7820, 0x6048, 0x7808, Part.sys, 0x7810, 0x3060, Part.al]
theorem fitAll_within (s : State) : Within Parts.fitAll s (State.fitAll s) := by
  have h0 : Within Parts.fitAll s s := .refl
  unfold State.fitAll
  extract_lets +onlyGivenNames -merge a0
  have h1 : Within Parts.fitAll s a0 := by
    unfold a0
    refine Within.foldl ?_ ?_
    · with_reducible assumption
    · intro x2 x3 x4
      refine Within.step ?_ (fitDie_within ..) rfl
      with_reducible assumption
  clear_value a0
  extract_lets +onlyGivenNames -merge a5
  have h6 : Within Parts.fitAll s a5 := by
    unfold a5
    refine Within.foldl ?_ ?_
    · with_reducible assumption
    · intro x7 x8 x9
      split
      · refine Within.step ?_ (asrcRelease_within ..) rfl
        with_reducible assumption
      · with_reducible assumption
  clear_value a5
  extract_lets +onlyGivenNames -merge a10
  have h11 : Within Parts.fitAll s a10 := by
    unfold a10
    refine Within.foldl ?_ ?_
    · with_reducible assumption
    · intro x12 x13 x14
      refine Within.step ?_ (asrcFit_within ..) rfl
      with_reducible assumption
  clear_value a10
  refine Within.foldl ?_ ?_
  · with_reducible assumption
  · intro x15 x16 x17
    refine Within.step ?_ (checkBudget_within ..) rfl
    with_reducible assumption

def Parts.repeatPicture : List Part := [Part.al, 0x2864]
theorem repeatPicture_within (s : State) (p : Nat) (f : Format) (instant : Nat) : Within Parts.repeatPicture s (State.repeatPicture s p f instant) := by
  have h0 : Within Parts.repeatPicture s s := .refl
  unfold State.repeatPicture
  extract_lets +onlyGivenNames -merge a0
  clear_value a0
  extract_lets +onlyGivenNames -merge a1
  have h2 : Within Parts.repeatPicture s a1 := by
    unfold a1
    refine Within.step ?_ (bump_within ..) rfl
    refine Within.step ?_ (setSrc_within ..) rfl
    with_reducible assumption
  clear_value a1
  split
  · refine Within.step ?_ (setFld_within ..) rfl
    with_reducible assumption
  · with_reducible assumption

def Parts.hearSrc : List Part := [Part.al]
theorem hearSrc_within (s : State) (p : Nat) (on : Bool) : Within Parts.hearSrc s (State.hearSrc s p on) := by
  have h0 : Within Parts.hearSrc s s := .refl
  unfold State.hearSrc
  extract_lets +onlyGivenNames -merge a0
  clear_value a0
  split
  · with_reducible assumption
  · refine Within.step ?_ (setSrc_within ..) rfl
    with_reducible assumption

def Parts.readPicture : List Part := [Part.au, 0x2864, Part.al]
theorem readPicture_within (s : State) (p : Nat) (f : Format) (instant : Nat) (start : Bool) : Within Parts.readPicture s (State.readPicture s p f instant start) := by
  have h0 : Within Parts.readPicture s s := .refl
  unfold State.readPicture
  extract_lets +onlyGivenNames -merge a0
  clear_value a0
  split
  · with_reducible assumption
  · extract_lets +onlyGivenNames -merge a1
    clear_value a1
    extract_lets +onlyGivenNames -merge a2
    have h3 : Within Parts.readPicture s a2 := by
      unfold a2
      split
      · refine Within.step ?_ (dropSlips_within ..) rfl
        with_reducible assumption
      · with_reducible assumption
    clear_value a2
    extract_lets +onlyGivenNames -merge a4
    have h5 : Within Parts.readPicture s a4 := by
      unfold a4
      split
      · refine Within.step ?_ (bump_within ..) rfl
        with_reducible assumption
      · with_reducible assumption
    clear_value a4
    extract_lets +onlyGivenNames -merge a6
    clear_value a6
    extract_lets +onlyGivenNames -merge a7
    clear_value a7
    extract_lets +onlyGivenNames -merge a8
    have h9 : Within Parts.readPicture s a8 := by
      unfold a8
      refine Within.step ?_ (set_al_within ..) rfl
      with_reducible assumption
    clear_value a8
    refine Within.step ?_ (hearSrc_within ..) rfl
    refine Within.step ?_ (setFld_within ..) rfl
    refine Within.step ?_ (setSrc_within ..) rfl
    with_reducible assumption

def Parts.storeStep : List Part := [0x2864, Part.al, 0x6048, Part.host, Part.au]
theorem storeStep_within (s : State) (p : Nat) (f : Format) (instant : Nat) (rep : Bool) : Within Parts.storeStep s (State.storeStep s p f instant rep) := by
  have h0 : Within Parts.storeStep s s := .refl
  unfold State.storeStep
  extract_lets +onlyGivenNames -merge a0
  clear_value a0
  extract_lets +onlyGivenNames -merge a1
  extract_lets +onlyGivenNames -merge a2
  have h3 : Within Parts.storeStep s a2 := by
    unfold a2
    refine Within.step ?_ (setFld_within ..) rfl
    with_reducible assumption
  clear_value a2
  extract_lets +onlyGivenNames -merge a4
  clear_value a4
  extract_lets +onlyGivenNames -merge a5
  have h6 : Within Parts.storeStep s a5 := by
    unfold a5
    refine Within.step ?_ (setSrc_within ..) rfl
    with_reducible assumption
  clear_value a5
  extract_lets +onlyGivenNames -merge a7
  clear_value a7
  extract_lets +onlyGivenNames -merge a8
  have h9 : Within Parts.storeStep s a8 := by
    unfold a8
    split
    · refine Within.step ?_ (setAl_within ..) rfl
      with_reducible assumption
    · with_reducible assumption
  clear_value a8
  split
  · split
    · refine Within.step ?_ (repeatPicture_within ..) rfl
      with_reducible assumption
    · refine Within.step ?_ (readPicture_within ..) rfl
      with_reducible assumption
  · split
    · refine Within.step ?_ (hearSrc_within ..) rfl
      refine Within.step ?_ (setSrc_within ..) rfl
      refine Within.step ?_ (repeatPicture_within ..) rfl
      with_reducible assumption
    · with_reducible assumption

def Parts.fsyncDecided : List Part := [Part.al, 0x2864, Part.clk, 0x6048, Part.host, Part.au]
theorem fsyncDecided_within (s : State) (p : Nat) (act : Nat) : Within Parts.fsyncDecided s (State.fsyncDecided s p act) := by
  have h0 : Within Parts.fsyncDecided s s := .refl
  unfold State.fsyncDecided
  split
  · with_reducible assumption
  · split
    · with_reducible assumption
    · split
      · refine Within.step ?_ (dropOldest_within ..) rfl
        with_reducible assumption
      · split
        · refine Within.step ?_ (discardPicture_within ..) rfl
          with_reducible assumption
        · extract_lets +onlyGivenNames -merge a0
          extract_lets +onlyGivenNames -merge a1
          have h2 : Within Parts.fsyncDecided s a1 := by
            unfold a1
            refine Within.step ?_ (waitHouse_within ..) rfl
            with_reducible assumption
          clear_value a1
          refine Within.step ?_ (storeStep_within ..) rfl
          with_reducible assumption

def Parts.storeRead : List Part := [0x2864, Part.al, 0x6048, Part.host, Part.au]
theorem storeRead_within (s : State) (p : Nat) (f : Format) (instant : Nat) : Within Parts.storeRead s (State.storeRead s p f instant) := by
  have h0 : Within Parts.storeRead s s := .refl
  unfold State.storeRead
  refine Within.step ?_ (storeStep_within ..) rfl
  with_reducible assumption

def Parts.fsyncRead : List Part := [Part.clk, 0x2864, Part.al, 0x6048, Part.host, Part.au, Part.tw]
theorem fsyncRead_within (s : State) (p : Nat) : Within Parts.fsyncRead s (State.fsyncRead s p) := by
  have h0 : Within Parts.fsyncRead s s := .refl
  unfold State.fsyncRead
  split
  · with_reducible assumption
  · split
    · with_reducible assumption
    · extract_lets +onlyGivenNames -merge a0
      extract_lets +onlyGivenNames -merge a1
      have h2 : Within Parts.fsyncRead s a1 := by
        unfold a1
        refine Within.step ?_ (waitHouse_within ..) rfl
        with_reducible assumption
      clear_value a1
      split
      · refine Within.step ?_ (tellTwin_within ..) rfl
        refine Within.step ?_ (storeRead_within ..) rfl
        with_reducible assumption
      · with_reducible assumption

def Parts.lossholdExpire : List Part := [Part.al]
theorem lossholdExpire_within (s : State) (p : Nat) : Within Parts.lossholdExpire s (State.lossholdExpire s p) := by
  have h0 : Within Parts.lossholdExpire s s := .refl
  unfold State.lossholdExpire
  extract_lets +onlyGivenNames -merge a0
  clear_value a0
  split
  · refine Within.step ?_ (setSrc_within ..) rfl
    with_reducible assumption
  · with_reducible assumption

def Parts.sourceLost : List Part := [Part.al, 0x2864, 0x6048, Part.host, Part.ev, Part.clk, 0x7820, 0x7808, Part.sys, 0x7810]
theorem sourceLost_within (s : State) (p : Nat) : Within Parts.sourceLost s (State.sourceLost s p) := by
  have h0 : Within Parts.sourceLost s s := .refl
  unfold State.sourceLost
  split
  · with_reducible assumption
  · refine Within.step ?_ (alignFail_within ..) rfl
    with_reducible assumption

def Parts.syncPicture : List Part := [0x2864, 0x6048, Part.host, Part.al, Part.ev, Part.clk, 0x7820, 0x7808, Part.sys, 0x7810]
theorem syncPicture_within (s : State) (p : Nat) (offset : Int) (missing : Nat) : Within Parts.syncPicture s (State.syncPicture s p offset missing) := by
  have h0 : Within Parts.syncPicture s s := .refl
  unfold State.syncPicture
  extract_lets +onlyGivenNames -merge a0
  have h1 : Within Parts.syncPicture s a0 := by
    unfold a0
    split
    · refine Within.step ?_ (setAl_within ..) rfl
      with_reducible assumption
    · with_reducible assumption
  clear_value a0
  extract_lets +onlyGivenNames -merge a2
  have h3 : Within Parts.syncPicture s a2 := by
    unfold a2
    refine Within.step ?_ (setFld_within ..) rfl
    with_reducible assumption
  clear_value a2
  extract_lets +onlyGivenNames -merge a4
  have h5 : Within Parts.syncPicture s a4 := by
    unfold a4
    refine Within.step ?_ (bump_within ..) rfl
    with_reducible assumption
  clear_value a4
  extract_lets +onlyGivenNames -merge a6
  clear_value a6
  extract_lets +onlyGivenNames -merge a7
  clear_value a7
  extract_lets +onlyGivenNames -merge a8
  extract_lets +onlyGivenNames -merge a9
  extract_lets +onlyGivenNames -merge a10
  have h11 : Within Parts.syncPicture s a10 := by
    unfold a10
    refine Within.step ?_ (setSrc_within ..) rfl
    with_reducible assumption
  clear_value a10
  extract_lets +onlyGivenNames -merge a12
  split
  · split
    · with_reducible assumption
    · refine Within.step ?_ (raise_within ..) rfl
      refine Within.step ?_ (setAl_within ..) rfl
      with_reducible assumption
  · split
    · split
      · refine Within.step ?_ (setAl_within ..) rfl
        with_reducible assumption
      · with_reducible assumption
    · refine Within.step ?_ (setAl_within ..) rfl
      with_reducible assumption

def Parts.sourcePicture : List Part := [0x2864, Part.al, Part.au, 0x6048, Part.host, Part.ev, Part.clk, 0x7820, 0x7808, Part.sys, 0x7810]
theorem sourcePicture_within (s : State) (p : Nat) (capture : Nat) (missing : Nat) (alien : Option Nat) : Within Parts.sourcePicture s (State.sourcePicture s p capture missing alien) := by
  have h0 : Within Parts.sourcePicture s s := .refl
  unfold State.sourcePicture
  split
  · with_reducible assumption
  · split
    · refine Within.step ?_ (countPicture_within ..) rfl
      with_reducible assumption
    · extract_lets +onlyGivenNames -merge a0
      have h1 : Within Parts.sourcePicture s a0 := by
        unfold a0
        refine Within.step ?_ (alignBoundary_within ..) rfl
        with_reducible assumption
      clear_value a0
      split
      · refine Within.step ?_ (alignFail_within ..) rfl
        refine Within.step ?_ (countPicture_within ..) rfl
        with_reducible assumption
      · split
        · with_reducible assumption
        · refine Within.step ?_ (syncPicture_within ..) rfl
          refine Within.step ?_ (countPicture_within ..) rfl
          with_reducible assumption

def Parts.storeEnd : List Part := [0x2864, Part.al, Part.tw]
theorem storeEnd_within (s : State) (p : Nat) (missing : List Nat) : Within Parts.storeEnd s (State.storeEnd s p missing) := by
  have h0 : Within Parts.storeEnd s s := .refl
  unfold State.storeEnd
  split
  · with_reducible assumption
  · extract_lets +onlyGivenNames -merge a0
    have h1 : Within Parts.storeEnd s a0 := by
      unfold a0
      refine Within.step ?_ (countPicture_within ..) rfl
      with_reducible assumption
    clear_value a0
    extract_lets +onlyGivenNames -merge a2
    clear_value a2
    split
    · with_reducible assumption
    · split
      · refine Within.step ?_ (tellTwin_within ..) rfl
        refine Within.step ?_ (discardPicture_within ..) rfl
        with_reducible assumption
      · refine Within.step ?_ (bump_within ..) rfl
        refine Within.step ?_ (setSrc_within ..) rfl
        with_reducible assumption

def Parts.storeStart : List Part := [Part.al, 0x2864, Part.au, 0x6048, Part.host, Part.tw]
theorem storeStart_within (s : State) (p : Nat) (count : Nat) (capture : Nat) : Within Parts.storeStart s (State.storeStart s p count capture) := by
  have h0 : Within Parts.storeStart s s := .refl
  unfold State.storeStart
  split
  · with_reducible assumption
  · extract_lets +onlyGivenNames -merge a0
    have h1 : Within Parts.storeStart s a0 := by
      unfold a0
      refine Within.step ?_ (alignBoundary_within ..) rfl
      with_reducible assumption
    clear_value a0
    split
    · with_reducible assumption
    · extract_lets +onlyGivenNames -merge a2
      clear_value a2
      extract_lets +onlyGivenNames -merge a3
      have h4 : Within Parts.storeStart s a3 := by
        unfold a3
        split
        · refine Within.step ?_ (alignStart_within ..) rfl
          with_reducible assumption
        · with_reducible assumption
      clear_value a3
      extract_lets +onlyGivenNames -merge a5
      clear_value a5
      extract_lets +onlyGivenNames -merge a6
      extract_lets +onlyGivenNames -merge a7
      have h8 : Within Parts.storeStart s a7 := by
        unfold a7
        split
        · with_reducible assumption
        · split
          · refine Within.step ?_ (tellTwin_within ..) rfl
            refine Within.step ?_ (dropOldest_within ..) rfl
            with_reducible assumption
          · with_reducible assumption
      clear_value a7
      extract_lets +onlyGivenNames -merge a9
      clear_value a9
      extract_lets +onlyGivenNames -merge a10
      clear_value a10
      extract_lets +onlyGivenNames -merge a11
      have h12 : Within Parts.storeStart s a11 := by
        unfold a11
        refine Within.step ?_ (setSrc_within ..) rfl
        with_reducible assumption
      clear_value a11
      split
      · with_reducible assumption
      · refine Within.step ?_ (setSrc_within ..) rfl
        with_reducible assumption

def Parts.putAlign : List Part := [0x2860, 0x1028, Part.save, 0x3060, Part.mm, Part.al, Part.ev, Part.host, Part.clk, 0x7820, 0x6048, 0x7808, Part.sys, 0x7810]
theorem putAlign_within (p : Nat) (v : W) : PutWithin Parts.putAlign (putAlign p v) := by
  unfold putAlign
  refine ⟨rfl, fun s0 => ?_⟩
  dsimp -zeta only
  have h00 : Within Parts.putAlign s0 s0 := .refl
  extract_lets +onlyGivenNames -merge a0
  clear_value a0
  split
  · with_reducible assumption
  · split
    · with_reducible assumption
    · split
      · with_reducible assumption
      · dsimp -zeta only
        refine Within.step ?_ (checkBudget_within ..) rfl
        refine Within.step ?_ (replaceStore_within ..) rfl
        refine Within.step ?_ (asrcFit_within ..) rfl
        refine Within.step ?_ (putWord_within ..) rfl
        with_reducible assumption

def Parts.putGuard : List Part := [0x286c, 0x1028, Part.save]
theorem putGuard_within (v : W) : PutWithin Parts.putGuard (putGuard v) := by
  unfold putGuard
  refine ⟨rfl, fun s0 => ?_⟩
  dsimp -zeta only
  have h00 : Within Parts.putGuard s0 s0 := .refl
  refine configOnly_within rfl ?_ ?_
  · with_reducible assumption
  · intro x0 x1
    dsimp -zeta only
    refine Within.step ?_ (putWord_within ..) rfl
    with_reducible assumption

end Sys2Proof.Machine
end

