-- ==== Sys2Proof/Laws/WithinAudio.lean ====
section
/-! SUPPORT. What the operations of Machine/Audio.lean may change: for each the parts of the state, and that it keeps to them. -/
namespace Sys2Proof.Machine

def Parts.rampStart : List Part := [Part.fresh]
theorem rampStart_within (s : State) (at_ : Option Nat) : Within Parts.rampStart s (State.rampStart s at_).1 := by
  have h0 : Within Parts.rampStart s s := .refl
  unfold State.rampStart
  split
  · with_reducible assumption
  · extract_lets +onlyGivenNames -merge a0
    have h1 : Within Parts.rampStart s a0.1 := by
      unfold a0
      refine Within.step ?_ (takeFree_within ..) rfl
      with_reducible assumption
    clear_value a0
    with_reducible assumption

def Parts.setChan : List Part := [Part.au]
theorem setChan_within (s : State) (c : Chan) : Within Parts.setChan s (State.setChan s c) := by
  have h0 : Within Parts.setChan s s := .refl
  unfold State.setChan
  refine Within.step ?_ (set_au_within ..) rfl
  with_reducible assumption

def Parts.rampTo : List Part := [Part.au]
theorem rampTo_within (s : State) (id : Nat) (g : Nat) (start : Nat) : Within Parts.rampTo s (State.rampTo s id g start) := by
  have h0 : Within Parts.rampTo s s := .refl
  unfold State.rampTo
  split
  · with_reducible assumption
  · refine Within.step ?_ (setChan_within ..) rfl
    with_reducible assumption

def Parts.delayTo : List Part := [Part.au]
theorem delayTo_within (s : State) (id : Nat) (n : Nat) (start : Nat) : Within Parts.delayTo s (State.delayTo s id n start) := by
  have h0 : Within Parts.delayTo s s := .refl
  unfold State.delayTo
  split
  · with_reducible assumption
  · refine Within.step ?_ (setChan_within ..) rfl
    with_reducible assumption

def Parts.auDstAccept : List Part := [Part.fresh, 0x3020, 0x1028, Part.save, Part.au, Part.tw]
theorem auDstAccept_within (s : State) (e : Nat) (v : W) (at_ : Option Nat) : Within Parts.auDstAccept s (State.auDstAccept s e v at_) := by
  have h0 : Within Parts.auDstAccept s s := .refl
  unfold State.auDstAccept
  extract_lets +onlyGivenNames -merge a0
  clear_value a0
  extract_lets +onlyGivenNames -merge a1
  extract_lets +onlyGivenNames -merge a2
  have h3 : Within Parts.auDstAccept s a2.1 := by
    unfold a2
    refine Within.step ?_ (rampStart_within ..) rfl
    with_reducible assumption
  clear_value a2
  extract_lets +onlyGivenNames -merge a4
  have h5 : Within Parts.auDstAccept s a4 := by
    unfold a4
    refine Within.step ?_ (putWord_within ..) rfl
    with_reducible assumption
  clear_value a4
  extract_lets +onlyGivenNames -merge a6
  have h7 : Within Parts.auDstAccept s a6 := by
    unfold a6
    split
    · with_reducible assumption
    · refine Within.step ?_ (rampTo_within ..) rfl
      with_reducible assumption
  clear_value a6
  extract_lets +onlyGivenNames -merge a8
  have h9 : Within Parts.auDstAccept s a8 := by
    unfold a8
    split
    · with_reducible assumption
    · refine Within.step ?_ (delayTo_within ..) rfl
      with_reducible assumption
  clear_value a8
  refine Within.step ?_ (tellTwin_within ..) rfl
  with_reducible assumption

def Parts.auPublish : List Part := [Part.au, Part.ev, Part.host, Part.clk, 0x7820, 0x6048, 0x7808, Part.sys, 0x7810]
theorem auPublish_within (s : State) (before : State) : Within Parts.auPublish s (State.auPublish s before) := by
  have h0 : Within Parts.auPublish s s := .refl
  unfold State.auPublish
  extract_lets +onlyGivenNames -merge a0
  extract_lets +onlyGivenNames -merge a1
  clear_value a1
  extract_lets +onlyGivenNames -merge a2
  clear_value a2
  extract_lets +onlyGivenNames -merge a3
  have h4 : Within Parts.auPublish s a3 := by
    unfold a3
    refine Within.step ?_ (set_au_within ..) rfl
    with_reducible assumption
  clear_value a3
  split
  · with_reducible assumption
  · refine Within.step ?_ (note_within ..) rfl
    with_reducible assumption

def Parts.chanSample : List Part := [0x3038, Part.au]
theorem chanSample_within (s : State) (vals : List (Nat × Int)) (status : List (Nat × Nat)) (n : Nat) (c : Chan) : Within Parts.chanSample s (State.chanSample s vals status n c) := by
  have h0 : Within Parts.chanSample s s := .refl
  unfold State.chanSample
  extract_lets +onlyGivenNames -merge a0
  clear_value a0
  extract_lets +onlyGivenNames -merge a1
  clear_value a1
  extract_lets +onlyGivenNames -merge a2
  clear_value a2
  extract_lets +onlyGivenNames -merge a3
  extract_lets +onlyGivenNames -merge a4
  clear_value a4
  extract_lets +onlyGivenNames -merge a5
  clear_value a5
  extract_lets +onlyGivenNames -merge a6
  clear_value a6
  extract_lets +onlyGivenNames -merge a7
  extract_lets +onlyGivenNames -merge a8
  clear_value a8
  extract_lets +onlyGivenNames -merge a9
  have h10 : Within Parts.chanSample s a9 := by
    unfold a9
    refine Within.foldl ?_ ?_
    · with_reducible assumption
    · intro x11 x12 x13
      refine Within.step ?_ (setWord_within ..) rfl
      with_reducible assumption
  clear_value a9
  extract_lets +onlyGivenNames -merge a14
  have h15 : Within Parts.chanSample s a14 := by
    unfold a14
    split
    · refine Within.step ?_ (bump_within ..) rfl
      with_reducible assumption
    · with_reducible assumption
  clear_value a14
  split
  · refine Within.step ?_ (set_au_within ..) rfl
    with_reducible assumption
  · refine Within.step ?_ (setChan_within ..) rfl
    with_reducible assumption

def Parts.takeFrames : List Part := [Part.ap]
theorem takeFrames_within (s : State) (vals : List (Nat × Int)) (status : List (Nat × Nat)) : Within Parts.takeFrames s (State.takeFrames s vals status) := by
  have h0 : Within Parts.takeFrames s s := .refl
  unfold State.takeFrames
  extract_lets +onlyGivenNames -merge a0
  clear_value a0
  extract_lets +onlyGivenNames -merge a1
  clear_value a1
  refine Within.step ?_ (set_ap_within ..) rfl
  with_reducible assumption

def Parts.nextSample : List Part := [Part.clk, Part.au]
theorem nextSample_within (s : State) : Within Parts.nextSample s (State.nextSample s) := by
  have h0 : Within Parts.nextSample s s := .refl
  unfold State.nextSample
  extract_lets +onlyGivenNames -merge a0
  have h1 : Within Parts.nextSample s a0 := by
    unfold a0
    refine Within.step ?_ (waitHouse_within ..) rfl
    with_reducible assumption
  clear_value a0
  refine Within.step ?_ (set_au_within ..) rfl
  with_reducible assumption

def Parts.markNpcm : List Part := [0x3010]
theorem markNpcm_within (s : State) (status : List (Nat × Nat)) : Within Parts.markNpcm s (State.markNpcm s status) := by
  have h0 : Within Parts.markNpcm s s := .refl
  unfold State.markNpcm
  refine Within.foldl ?_ ?_
  · with_reducible assumption
  · intro x0 x1 x2
    split
    · refine Within.step ?_ (setFld_within ..) rfl
      with_reducible assumption
    · with_reducible assumption

def Parts.crossSample : List Part := [Part.clk, Part.au, Part.ap, 0x3010, 0x3038]
theorem crossSample_within (s : State) (vals : List (Nat × Int)) (status : List (Nat × Nat)) : Within Parts.crossSample s (State.crossSample s vals status) := by
  have h0 : Within Parts.crossSample s s := .refl
  unfold State.crossSample
  extract_lets +onlyGivenNames -merge a0
  have h1 : Within Parts.crossSample s a0 := by
    unfold a0
    refine Within.step ?_ (takeFrames_within ..) rfl
    refine Within.step ?_ (nextSample_within ..) rfl
    with_reducible assumption
  clear_value a0
  extract_lets +onlyGivenNames -merge a2
  have h3 : Within Parts.crossSample s a2 := by
    unfold a2
    refine Within.step ?_ (markNpcm_within ..) rfl
    with_reducible assumption
  clear_value a2
  extract_lets +onlyGivenNames -merge a4
  have h5 : Within Parts.crossSample s a4 := by
    unfold a4
    refine Within.foldl ?_ ?_
    · with_reducible assumption
    · intro x6 x7 x8
      refine Within.step ?_ (chanSample_within ..) rfl
      with_reducible assumption
  clear_value a4
  refine Within.step ?_ (set_au_within ..) rfl
  with_reducible assumption

def Parts.endGrace : List Part := [Part.au]
theorem endGrace_within (s : State) (p : Nat) : Within Parts.endGrace s (State.endGrace s p) := by
  have h0 : Within Parts.endGrace s s := .refl
  unfold State.endGrace
  extract_lets +onlyGivenNames -merge a0
  clear_value a0
  refine Within.step ?_ (set_au_within ..) rfl
  with_reducible assumption

def Parts.startTrans : List Part := [Part.au]
theorem startTrans_within (s : State) (id : Nat) (old : Nat) (new : Nat) (t0 : Nat) : Within Parts.startTrans s (State.startTrans s id old new t0) := by
  have h0 : Within Parts.startTrans s s := .refl
  unfold State.startTrans
  extract_lets +onlyGivenNames -merge a0
  clear_value a0
  extract_lets +onlyGivenNames -merge a1
  clear_value a1
  split
  · with_reducible assumption
  · extract_lets +onlyGivenNames -merge a2
    clear_value a2
    extract_lets +onlyGivenNames -merge a3
    extract_lets +onlyGivenNames -merge a4
    extract_lets +onlyGivenNames -merge a5
    clear_value a5
    extract_lets +onlyGivenNames -merge a6
    clear_value a6
    extract_lets +onlyGivenNames -merge a7
    clear_value a7
    refine Within.step ?_ (setChan_within ..) rfl
    with_reducible assumption

def Parts.followMove : List Part := [Part.au]
theorem followMove_within (s : State) (p : Nat) (f0 : Nat) (f1 : Nat) (t0 : Nat) : Within Parts.followMove s (State.followMove s p f0 f1 t0) := by
  have h0 : Within Parts.followMove s s := .refl
  unfold State.followMove
  extract_lets +onlyGivenNames -merge a0
  extract_lets +onlyGivenNames -merge a1
  have h2 : Within Parts.followMove s a1 := by
    unfold a1
    refine Within.foldl ?_ ?_
    · with_reducible assumption
    · intro x3 x4 x5
      split
      · with_reducible assumption
      · refine Within.step ?_ (startTrans_within ..) rfl
        with_reducible assumption
  clear_value a1
  refine Within.foldl ?_ ?_
  · with_reducible assumption
  · intro x6 x7 x8
    extract_lets +onlyGivenNames -merge a9
    split
    · refine Within.step ?_ (startTrans_within ..) rfl
      with_reducible assumption
    · with_reducible assumption

def Parts.freeElement : List Part := [0x3020, Part.au]
theorem freeElement_within (s : State) (e : Nat) : Within Parts.freeElement s (State.freeElement s e) := by
  have h0 : Within Parts.freeElement s s := .refl
  unfold State.freeElement
  extract_lets +onlyGivenNames -merge a0
  extract_lets +onlyGivenNames -merge a1
  extract_lets +onlyGivenNames -merge a2
  clear_value a2
  extract_lets +onlyGivenNames -merge a3
  have h4 : Within Parts.freeElement s a3 := by
    unfold a3
    refine Within.step ?_ (setWord_within ..) rfl
    refine Within.step ?_ (setWord_within ..) rfl
    with_reducible assumption
  clear_value a3
  extract_lets +onlyGivenNames -merge a5
  have h6 : Within Parts.freeElement s a5 := by
    unfold a5
    refine Within.step ?_ (setWord_within ..) rfl
    with_reducible assumption
  clear_value a5
  refine Within.step ?_ (set_au_within ..) rfl
  with_reducible assumption

def Parts.gainAccept : List Part := [Part.fresh, 0x3028, 0x1028, Part.save, Part.au, Part.tw]
theorem gainAccept_within (s : State) (e : Nat) (v : W) (at_ : Option Nat) : Within Parts.gainAccept s (State.gainAccept s e v at_) := by
  have h0 : Within Parts.gainAccept s s := .refl
  unfold State.gainAccept
  split
  · with_reducible assumption
  · extract_lets +onlyGivenNames -merge a0
    have h1 : Within Parts.gainAccept s a0.1 := by
      unfold a0
      refine Within.step ?_ (rampStart_within ..) rfl
      with_reducible assumption
    clear_value a0
    extract_lets +onlyGivenNames -merge a2
    have h3 : Within Parts.gainAccept s a2 := by
      unfold a2
      refine Within.step ?_ (putWord_within ..) rfl
      with_reducible assumption
    clear_value a2
    extract_lets +onlyGivenNames -merge a4
    have h5 : Within Parts.gainAccept s a4 := by
      unfold a4
      refine Within.foldl ?_ ?_
      · with_reducible assumption
      · intro x6 x7 x8
        refine Within.step ?_ (rampTo_within ..) rfl
        with_reducible assumption
    clear_value a4
    refine Within.step ?_ (tellTwin_within ..) rfl
    with_reducible assumption

def Parts.releaseAudio : List Part := [0x3020, Part.au]
theorem releaseAudio_within (s : State) (p : Nat) : Within Parts.releaseAudio s (State.releaseAudio s p) := by
  have h0 : Within Parts.releaseAudio s s := .refl
  unfold State.releaseAudio
  split
  · with_reducible assumption
  · extract_lets +onlyGivenNames -merge a0
    have h1 : Within Parts.releaseAudio s a0 := by
      unfold a0
      refine Within.foldl ?_ ?_
      · with_reducible assumption
      · intro x2 x3 x4
        refine Within.step ?_ (freeElement_within ..) rfl
        with_reducible assumption
    clear_value a0
    refine Within.step ?_ (set_au_within ..) rfl
    with_reducible assumption

def Parts.takeElement : List Part := [Part.au, 0x3020]
theorem takeElement_within (s : State) (p : Nat) (k : Nat) (e : Nat) : Within Parts.takeElement s (State.takeElement s p k e) := by
  have h0 : Within Parts.takeElement s s := .refl
  unfold State.takeElement
  extract_lets +onlyGivenNames -merge a0
  extract_lets +onlyGivenNames -merge a1
  clear_value a1
  extract_lets +onlyGivenNames -merge a2
  clear_value a2
  extract_lets +onlyGivenNames -merge a3
  have h4 : Within Parts.takeElement s a3 := by
    unfold a3
    refine Within.step ?_ (set_au_within ..) rfl
    with_reducible assumption
  clear_value a3
  extract_lets +onlyGivenNames -merge a5
  have h6 : Within Parts.takeElement s a5 := by
    unfold a5
    refine Within.step ?_ (setWord_within ..) rfl
    with_reducible assumption
  clear_value a5
  extract_lets +onlyGivenNames -merge a7
  have h8 : Within Parts.takeElement s a7 := by
    unfold a7
    refine Within.step ?_ (setWord_within ..) rfl
    with_reducible assumption
  clear_value a7
  refine Within.step ?_ (setWord_within ..) rfl
  with_reducible assumption

def Parts.reserveAudio : List Part := [Part.au, 0x3020]
theorem reserveAudio_within (s : State) (p : Nat) (d : Nat) (n : Nat) : OptWithin Parts.reserveAudio s (State.reserveAudio s p d n) := by
  have h0 : Within Parts.reserveAudio s s := .refl
  unfold State.reserveAudio
  split
  · refine OptWithin.some ?_
    with_reducible assumption
  · extract_lets +onlyGivenNames -merge a0
    clear_value a0
    split
    · exact OptWithin.none
    · extract_lets +onlyGivenNames -merge a1
      have h2 : Within Parts.reserveAudio s a1 := by
        unfold a1
        refine Within.foldl ?_ ?_
        · with_reducible assumption
        · intro x3 x4 x5
          refine Within.step ?_ (takeElement_within ..) rfl
          with_reducible assumption
      clear_value a1
      refine OptWithin.some ?_
      refine Within.step ?_ (set_au_within ..) rfl
      with_reducible assumption

def Parts.silence : List Part := [Part.au]
theorem silence_within (s : State) (id : Nat) (n : Nat) : Within Parts.silence s (State.silence s id n) := by
  have h0 : Within Parts.silence s s := .refl
  unfold State.silence
  split
  · with_reducible assumption
  · refine Within.step ?_ (setChan_within ..) rfl
    with_reducible assumption

def Parts.transTimeout : List Part := [Part.clk, Part.au]
theorem transTimeout_within (s : State) (id : Nat) : Within Parts.transTimeout s (State.transTimeout s id) := by
  have h0 : Within Parts.transTimeout s s := .refl
  unfold State.transTimeout
  split
  · with_reducible assumption
  · split
    · with_reducible assumption
    · extract_lets +onlyGivenNames -merge a0
      have h1 : Within Parts.transTimeout s a0 := by
        unfold a0
        refine Within.step ?_ (waitHouse_within ..) rfl
        with_reducible assumption
      clear_value a0
      extract_lets +onlyGivenNames -merge a2
      clear_value a2
      extract_lets +onlyGivenNames -merge a3
      have h4 : Within Parts.transTimeout s a3 := by
        unfold a3
        refine Within.step ?_ (set_au_within ..) rfl
        with_reducible assumption
      clear_value a3
      refine Within.step ?_ (setChan_within ..) rfl
      with_reducible assumption

def Parts.putAuCtrl : List Part := [0x3008, 0x1028, Part.save]
theorem putAuCtrl_within (e : Nat) (v : W) : PutWithin Parts.putAuCtrl (putAuCtrl e v) := by
  unfold putAuCtrl
  refine ⟨rfl, fun s0 => ?_⟩
  dsimp -zeta only
  have h00 : Within Parts.putAuCtrl s0 s0 := .refl
  refine Within.step ?_ (putWord_within ..) rfl
  with_reducible assumption

def Parts.putAuDst1 : List Part := [0x3020, Part.fresh, 0x1028, Part.save, Part.au, Part.tw, 0x2009]
theorem putAuDst1_within (s : State) (rq : Req) (e : Nat) (v : W) : PutWithin Parts.putAuDst1 (putAuDst1 s rq e v) := by
  have h0 : Within Parts.putAuDst1 s s := .refl
  unfold putAuDst1
  refine ⟨rfl, fun s0 => ?_⟩
  dsimp -zeta only
  have h00 : Within Parts.putAuDst1 s0 s0 := .refl
  extract_lets +onlyGivenNames -merge a0
  clear_value a0
  extract_lets +onlyGivenNames -merge a1
  clear_value a1
  split
  · with_reducible assumption
  · split
    · with_reducible assumption
    · split
      · with_reducible assumption
      · split
        · split
          · with_reducible assumption
          · refine decideHere_within rfl ?_ ?_
            · with_reducible assumption
            · intro x2 x3
              dsimp -zeta only
              refine Within.step ?_ (auDstAccept_within ..) rfl
              with_reducible assumption
        · split
          · with_reducible assumption
          · refine decideHere_within rfl ?_ ?_
            · with_reducible assumption
            · intro x4 x5
              dsimp -zeta only
              refine Within.step ?_ (auDstAccept_within ..) rfl
              with_reducible assumption

def Parts.putAuGain : List Part := [0x3028, Part.fresh, 0x1028, Part.save, Part.au, Part.tw, 0x2009]
theorem putAuGain_within (rq : Req) (e : Nat) (v : W) : PutWithin Parts.putAuGain (putAuGain rq e v) := by
  unfold putAuGain
  refine ⟨rfl, fun s0 => ?_⟩
  dsimp -zeta only
  have h00 : Within Parts.putAuGain s0 s0 := .refl
  refine decideHere_within rfl ?_ ?_
  · with_reducible assumption
  · intro x0 x1
    dsimp -zeta only
    refine Within.step ?_ (gainAccept_within ..) rfl
    with_reducible assumption

def Parts.putAuSrc : List Part := [0x3010, 0x1028, Part.save]
theorem putAuSrc_within (s : State) (e : Nat) (v : W) : PutWithin Parts.putAuSrc (putAuSrc s e v) := by
  have h0 : Within Parts.putAuSrc s s := .refl
  unfold putAuSrc
  extract_lets +onlyGivenNames -merge a0
  clear_value a0
  extract_lets +onlyGivenNames -merge a1
  clear_value a1
  extract_lets +onlyGivenNames -merge a2
  clear_value a2
  refine ⟨rfl, fun s0 => ?_⟩
  dsimp -zeta only
  have h00 : Within Parts.putAuSrc s0 s0 := .refl
  split
  · with_reducible assumption
  · dsimp -zeta only
    refine Within.step ?_ (putWord_within ..) rfl
    with_reducible assumption

def Parts.putEmbData : List Part := [0x3030, 0x1028, Part.save]
theorem putEmbData_within (p : Nat) (v : W) : PutWithin Parts.putEmbData (putEmbData p v) := by
  unfold putEmbData
  refine ⟨rfl, fun s0 => ?_⟩
  dsimp -zeta only
  have h00 : Within Parts.putEmbData s0 s0 := .refl
  refine Within.step ?_ (putWord_within ..) rfl
  with_reducible assumption

end Sys2Proof.Machine
end

