-- ==== Sys2Proof/Laws/WithinCompose.lean ====
section
/-! SUPPORT. What the operations of Machine/Compose.lean may change: for each the parts of the state, and that it keeps to them. -/
namespace Sys2Proof.Machine

def Parts.setRun : List Part := [Part.cm]
theorem setRun_within (s : State) (h : Nat) (x : LayerRun) : Within Parts.setRun s (State.setRun s h x) := by
  have h0 : Within Parts.setRun s s := .refl
  unfold State.setRun
  refine Within.step ?_ (set_cm_within ..) rfl
  with_reducible assumption

def Parts.ageLayer : List Part := [Part.cm]
theorem ageLayer_within (s : State) (e : Nat) : Within Parts.ageLayer s (State.ageLayer s e) := by
  have h0 : Within Parts.ageLayer s s := .refl
  unfold State.ageLayer
  extract_lets +onlyGivenNames -merge a0
  clear_value a0
  split
  · refine Within.step ?_ (setRun_within ..) rfl
    with_reducible assumption
  · with_reducible assumption

def Parts.cmLoad : List Part := [0x3810, 0x3820, 0x3830, Part.cm]
theorem cmLoad_within (s : State) : Within Parts.cmLoad s s.cmLoad := by
  have t1 : ∀ k : Key, takesIn Parts.cmLoad k.ix = false → k.ix ≠ 0x3810 ∧ k.ix ≠ 0x3820 ∧ k.ix ≠ 0x3830 := by
    intro k h
    simp [takesIn, Parts.cmLoad] at h
    exact ⟨h.1.1, h.1.2.1, h.1.2.2.1⟩
  unfold State.cmLoad
  extract_lets off heads a
  have ha : Within Parts.cmLoad s a := by
    refine ⟨⟨fun k h => ?_, fun _ => rfl, fun _ => rfl, fun _ => rfl, fun _ => rfl, fun _ => rfl, fun _ => rfl, fun _ => rfl,
      fun _ => rfl, fun _ => rfl, fun _ => rfl, fun _ => rfl, fun h => Bool.noConfusion h, fun _ => rfl, fun _ => rfl, fun _ => rfl,
      fun _ => rfl, fun _ => rfl, fun _ => rfl, fun _ => rfl, fun _ => rfl⟩, rfl, rfl, fun c => ⟨tableWf_filter _ c.1, c.2⟩⟩
    refine (tget_filter dflt s.regs (fun x => !off x) k).trans ?_
    have := t1 k h
    simp [off, this]
  clear_value a
  refine ha.trans ⟨⟨fun k h => ?_, fun _ => rfl, fun _ => rfl, fun _ => rfl, fun _ => rfl, fun _ => rfl, fun _ => rfl, fun _ => rfl,
    fun _ => rfl, fun _ => rfl, fun _ => rfl, fun _ => rfl, fun _ => rfl, fun _ => rfl, fun _ => rfl, fun _ => rfl,
    fun _ => rfl, fun _ => rfl, fun _ => rfl, fun _ => rfl, fun _ => rfl⟩, rfl, rfl,
    fun c => ⟨tableWf_tmerge _ (tableWf_filter _ c.1), c.2⟩⟩
  have := t1 k h
  refine tget_takeOver_other (p := heads) a.regs a.shadow ?_
  simp [heads, this]


def Parts.dropLive : List Part := [Part.cm]
theorem dropLive_within (s : State) (e : Nat) : Within Parts.dropLive s (State.dropLive s e) := by
  have h0 : Within Parts.dropLive s s := .refl
  unfold State.dropLive
  refine Within.step ?_ (set_cm_within ..) rfl
  with_reducible assumption

def Parts.setLayer : List Part := [0x3820]
theorem setLayer_within (s : State) (e : Nat) (ws : List W) : Within Parts.setLayer s (State.setLayer s e ws) := by
  have h0 : Within Parts.setLayer s s := .refl
  unfold State.setLayer
  refine Within.step ?_ (setWord_within ..) rfl
  refine Within.step ?_ (setWord_within ..) rfl
  refine Within.step ?_ (setWord_within ..) rfl
  with_reducible assumption

def Parts.layerFacts : List Part := [0x3820]
theorem layerFacts_within (s : State) (e : Nat) : Within Parts.layerFacts s (State.layerFacts s e) := by
  have h0 : Within Parts.layerFacts s s := .refl
  unfold State.layerFacts
  extract_lets +onlyGivenNames -merge a0
  clear_value a0
  extract_lets +onlyGivenNames -merge a1
  clear_value a1
  extract_lets +onlyGivenNames -merge a2
  have h3 : Within Parts.layerFacts s a2 := by
    unfold a2
    refine Within.step ?_ (setFld_within ..) rfl
    with_reducible assumption
  clear_value a2
  extract_lets +onlyGivenNames -merge a4
  have h5 : Within Parts.layerFacts s a4 := by
    unfold a4
    refine Within.step ?_ (setFld_within ..) rfl
    with_reducible assumption
  clear_value a4
  extract_lets +onlyGivenNames -merge a6
  have h7 : Within Parts.layerFacts s a6 := by
    unfold a6
    refine Within.step ?_ (setFld_within ..) rfl
    with_reducible assumption
  clear_value a6
  refine Within.step ?_ (setFld_within ..) rfl
  with_reducible assumption

def Parts.layerOff : List Part := [0x3820, Part.cm, 0x6048, Part.host, Part.al, Part.ev, Part.clk, 0x7820, 0x7808, Part.sys, 0x7810]
theorem layerOff_within (s : State) (e : Nat) (ws : List W) : Within Parts.layerOff s (State.layerOff s e ws) := by
  have h0 : Within Parts.layerOff s s := .refl
  unfold State.layerOff
  extract_lets +onlyGivenNames -merge a0
  have h1 : Within Parts.layerOff s a0 := by
    unfold a0
    refine Within.step ?_ (dropLive_within ..) rfl
    refine Within.step ?_ (setLayer_within ..) rfl
    with_reducible assumption
  clear_value a0
  extract_lets +onlyGivenNames -merge a2
  clear_value a2
  extract_lets +onlyGivenNames -merge a3
  have h4 : Within Parts.layerOff s a3 := by
    unfold a3
    refine Within.step ?_ (set_cm_within ..) rfl
    with_reducible assumption
  clear_value a3
  refine Within.step ?_ (checkBudget_within ..) rfl
  refine Within.step ?_ (layerFacts_within ..) rfl
  refine Within.step ?_ (setNotify_within ..) rfl
  refine Within.step ?_ (setFld_within ..) rfl
  with_reducible assumption

def Parts.publishHead : List Part := [Part.xp, 0x3820, Part.cm, 0x6048, Part.host, Part.al, Part.ev, Part.clk, 0x7820, 0x7808, Part.sys, 0x7810]
theorem publishHead_within (s : State) (before : State) (h : Nat) : Within Parts.publishHead s (State.publishHead s before h).1 := by
  have h0 : Within Parts.publishHead s s := .refl
  unfold State.publishHead
  extract_lets +onlyGivenNames -merge a0
  clear_value a0
  extract_lets +onlyGivenNames -merge a1
  extract_lets +onlyGivenNames -merge a2
  clear_value a2
  extract_lets +onlyGivenNames -merge a3
  have h4 : Within Parts.publishHead s a3 := by
    unfold a3
    split
    · refine Within.step ?_ (setDest_within ..) rfl
      with_reducible assumption
    · with_reducible assumption
  clear_value a3
  refine Within.foldl_fst ?_ ?_
  · with_reducible assumption
  · intro x5 x6 x7
    extract_lets +onlyGivenNames -merge a8
    extract_lets +onlyGivenNames -merge a9
    clear_value a9
    split
    · with_reducible assumption
    · split
      · dsimp -zeta only
        refine Within.step ?_ (layerOff_within ..) rfl
        with_reducible assumption
      · split
        · dsimp -zeta only
          refine Within.step ?_ (setRun_within ..) rfl
          with_reducible assumption
        · with_reducible assumption

def Parts.cmPublish : List Part := [Part.xp, 0x3820, Part.cm, 0x6048, Part.host, Part.al, Part.ev, Part.clk, 0x7820, 0x7808, Part.sys, 0x7810]
theorem cmPublish_within (s : State) (before : State) : Within Parts.cmPublish s (State.cmPublish s before) := by
  have h0 : Within Parts.cmPublish s s := .refl
  unfold State.cmPublish
  split
  · with_reducible assumption
  · extract_lets +onlyGivenNames -merge a0
    have h1 : Within Parts.cmPublish s a0.1 := by
      unfold a0
      refine Within.foldl_fst ?_ ?_
      · with_reducible assumption
      · intro x2 x3 x4
        extract_lets +onlyGivenNames -merge a5
        have h6 : Within Parts.cmPublish s a5.1 := by
          unfold a5
          refine Within.step ?_ (publishHead_within ..) rfl
          with_reducible assumption
        clear_value a5
        with_reducible assumption
    clear_value a0
    extract_lets +onlyGivenNames -merge a7
    have h8 : Within Parts.cmPublish s a7 := by
      unfold a7
      refine Within.foldl ?_ ?_
      · with_reducible assumption
      · intro x9 x10 x11
        refine Within.step ?_ (checkBudget_within ..) rfl
        with_reducible assumption
    clear_value a7
    split
    · with_reducible assumption
    · refine Within.step ?_ (note_within ..) rfl
      with_reducible assumption

def Parts.dropImages : List Part := [Part.cm]
theorem dropImages_within (s : State) (h : Nat) : Within Parts.dropImages s (State.dropImages s h) := by
  have h0 : Within Parts.dropImages s s := .refl
  unfold State.dropImages
  refine Within.step ?_ (set_cm_within ..) rfl
  with_reducible assumption

def Parts.toFallback : List Part := [0x3820, 0x6048, Part.host, Part.ev, Part.clk, 0x7820, 0x7808, Part.sys, 0x7810]
theorem toFallback_within (s : State) (e : Nat) : Within Parts.toFallback s (State.toFallback s e) := by
  have h0 : Within Parts.toFallback s s := .refl
  unfold State.toFallback
  split
  · with_reducible assumption
  · extract_lets +onlyGivenNames -merge a0
    have h1 : Within Parts.toFallback s a0 := by
      unfold a0
      refine Within.step ?_ (setNotify_within ..) rfl
      with_reducible assumption
    clear_value a0
    extract_lets +onlyGivenNames -merge a2
    have h3 : Within Parts.toFallback s a2 := by
      unfold a2
      refine Within.step ?_ (bump_within ..) rfl
      with_reducible assumption
    clear_value a2
    refine Within.step ?_ (raise_within ..) rfl
    with_reducible assumption

def Parts.toRepeat : List Part := [Part.cm, 0x3820, 0x6048, Part.host]
theorem toRepeat_within (s : State) (e : Nat) (counted : Bool) : Within Parts.toRepeat s (State.toRepeat s e counted) := by
  have h0 : Within Parts.toRepeat s s := .refl
  unfold State.toRepeat
  extract_lets +onlyGivenNames -merge a0
  clear_value a0
  extract_lets +onlyGivenNames -merge a1
  have h2 : Within Parts.toRepeat s a1 := by
    unfold a1
    refine Within.step ?_ (setRun_within ..) rfl
    with_reducible assumption
  clear_value a1
  refine Within.step ?_ (setNotify_within ..) rfl
  refine Within.step ?_ (bump_within ..) rfl
  with_reducible assumption

def Parts.judgeTold : List Part := [Part.cm, 0x3820, 0x6048, Part.host, Part.ev, Part.clk, 0x7820, 0x7808, Part.sys, 0x7810]
theorem judgeTold_within (s : State) (e : Nat) (st : Nat) : Within Parts.judgeTold s (State.judgeTold s e st) := by
  have h0 : Within Parts.judgeTold s s := .refl
  unfold State.judgeTold
  extract_lets +onlyGivenNames -merge a0
  clear_value a0
  extract_lets +onlyGivenNames -merge a1
  clear_value a1
  extract_lets +onlyGivenNames -merge a2
  have h3 : Within Parts.judgeTold s a2 := by
    unfold a2
    refine Within.step ?_ (set_cm_within ..) rfl
    with_reducible assumption
  clear_value a2
  split
  · split
    · refine Within.step ?_ (toFallback_within ..) rfl
      with_reducible assumption
    · refine Within.step ?_ (toRepeat_within ..) rfl
      with_reducible assumption
  · refine Within.step ?_ (setNotify_within ..) rfl
    refine Within.step ?_ (setRun_within ..) rfl
    with_reducible assumption

def Parts.judgeLayer : List Part := [0x3820, 0x6048, Part.host, Part.cm, Part.ev, Part.clk, 0x7820, 0x7808, Part.sys, 0x7810, Part.tw]
theorem judgeLayer_within (s : State) (e : Nat) : Within Parts.judgeLayer s (State.judgeLayer s e) := by
  have h0 : Within Parts.judgeLayer s s := .refl
  unfold State.judgeLayer
  extract_lets +onlyGivenNames -merge a0
  clear_value a0
  extract_lets +onlyGivenNames -merge a1
  clear_value a1
  extract_lets +onlyGivenNames -merge a2
  clear_value a2
  extract_lets +onlyGivenNames -merge a3
  clear_value a3
  extract_lets +onlyGivenNames -merge a4
  split
  · with_reducible assumption
  · split
    · refine Within.step ?_ (setNotify_within ..) rfl
      with_reducible assumption
    · split
      · split
        · refine Within.step ?_ (judgeTold_within ..) rfl
          with_reducible assumption
        · split
          · refine Within.step ?_ (tellTwin_within ..) rfl
            refine Within.step ?_ (toRepeat_within ..) rfl
            with_reducible assumption
          · split
            · refine Within.step ?_ (setNotify_within ..) rfl
              refine Within.step ?_ (setRun_within ..) rfl
              with_reducible assumption
            · split
              · refine Within.step ?_ (tellTwin_within ..) rfl
                refine Within.step ?_ (toRepeat_within ..) rfl
                with_reducible assumption
              · refine Within.step ?_ (tellTwin_within ..) rfl
                refine Within.step ?_ (toFallback_within ..) rfl
                with_reducible assumption
      · split
        · refine Within.step ?_ (setNotify_within ..) rfl
          with_reducible assumption
        · refine Within.step ?_ (toFallback_within ..) rfl
          with_reducible assumption

def Parts.rampLayer : List Part := [0x3820, Part.cm, 0x6048, Part.host, Part.al, Part.ev, Part.clk, 0x7820, 0x7808, Part.sys, 0x7810]
theorem rampLayer_within (s : State) (e : Nat) : Within Parts.rampLayer s (State.rampLayer s e) := by
  have h0 : Within Parts.rampLayer s s := .refl
  unfold State.rampLayer
  extract_lets +onlyGivenNames -merge a0
  clear_value a0
  split
  · with_reducible assumption
  · split
    · extract_lets +onlyGivenNames -merge a1
      extract_lets +onlyGivenNames -merge a2
      have h3 : Within Parts.rampLayer s a2 := by
        unfold a2
        refine Within.step ?_ (setFld_within ..) rfl
        with_reducible assumption
      clear_value a2
      extract_lets +onlyGivenNames -merge a4
      have h5 : Within Parts.rampLayer s a4 := by
        unfold a4
        refine Within.step ?_ (setRun_within ..) rfl
        with_reducible assumption
      clear_value a4
      with_reducible assumption
    · split
      · refine Within.step ?_ (setFld_within ..) rfl
        with_reducible assumption
      · refine Within.step ?_ (layerOff_within ..) rfl
        with_reducible assumption

def Parts.headFrame : List Part := [Part.cm, 0x3820, 0x6048, Part.host, Part.al, Part.ev, Part.clk, 0x7820, 0x7808, Part.sys, 0x7810, Part.tw]
theorem headFrame_within (s : State) (h : Nat) : Within Parts.headFrame s (State.headFrame s h) := by
  have h0 : Within Parts.headFrame s s := .refl
  unfold State.headFrame
  extract_lets +onlyGivenNames -merge a0
  clear_value a0
  extract_lets +onlyGivenNames -merge a1
  have h2 : Within Parts.headFrame s a1 := by
    unfold a1
    refine Within.step ?_ (set_cm_within ..) rfl
    with_reducible assumption
  clear_value a1
  refine Within.foldl ?_ ?_
  · with_reducible assumption
  · intro x3 x4 x5
    refine Within.step ?_ (judgeLayer_within ..) rfl
    refine Within.step ?_ (ageLayer_within ..) rfl
    refine Within.step ?_ (rampLayer_within ..) rfl
    with_reducible assumption

def Parts.landLayer : List Part := [0x3820, Part.cm, 0x6048, Part.host, Part.al, Part.ev, Part.clk, 0x7820, 0x7808, Part.sys, 0x7810]
theorem landLayer_within (s : State) (e : Nat) (ws : List W) : Within Parts.landLayer s (State.landLayer s e ws) := by
  have h0 : Within Parts.landLayer s s := .refl
  unfold State.landLayer
  extract_lets +onlyGivenNames -merge a0
  clear_value a0
  extract_lets +onlyGivenNames -merge a1
  clear_value a1
  extract_lets +onlyGivenNames -merge a2
  extract_lets +onlyGivenNames -merge a3
  clear_value a3
  extract_lets +onlyGivenNames -merge a4
  split
  · split
    · refine Within.step ?_ (layerOff_within ..) rfl
      with_reducible assumption
    · refine Within.step ?_ (setRun_within ..) rfl
      with_reducible assumption
  · extract_lets +onlyGivenNames -merge a5
    have h6 : Within Parts.landLayer s a5 := by
      unfold a5
      refine Within.step ?_ (dropLive_within ..) rfl
      refine Within.step ?_ (setLayer_within ..) rfl
      with_reducible assumption
    clear_value a5
    extract_lets +onlyGivenNames -merge a7
    clear_value a7
    extract_lets +onlyGivenNames -merge a8
    clear_value a8
    extract_lets +onlyGivenNames -merge a9
    have h10 : Within Parts.landLayer s a9 := by
      unfold a9
      refine Within.step ?_ (set_cm_within ..) rfl
      with_reducible assumption
    clear_value a9
    extract_lets +onlyGivenNames -merge a11
    clear_value a11
    extract_lets +onlyGivenNames -merge a12
    have h13 : Within Parts.landLayer s a12 := by
      unfold a12
      refine Within.step ?_ (setRun_within ..) rfl
      with_reducible assumption
    clear_value a12
    refine Within.step ?_ (layerFacts_within ..) rfl
    with_reducible assumption

def Parts.landHead : List Part := [0x3810, 0x3820, Part.cm, 0x6048, Part.host, Part.al, Part.ev, Part.clk, 0x7820, 0x7808, Part.sys, 0x7810]
theorem landHead_within (s : State) (h : Nat) (w0 : W) : Within Parts.landHead s (State.landHead s h w0) := by
  have h0 : Within Parts.landHead s s := .refl
  unfold State.landHead
  extract_lets +onlyGivenNames -merge a0
  have h1 : Within Parts.landHead s a0 := by
    unfold a0
    split
    · refine Within.step ?_ (setWord_within ..) rfl
      with_reducible assumption
    · with_reducible assumption
  clear_value a0
  extract_lets +onlyGivenNames -merge a2
  have h3 : Within Parts.landHead s a2 := by
    unfold a2
    refine Within.foldl ?_ ?_
    · with_reducible assumption
    · intro x4 x5 x6
      split
      · extract_lets +onlyGivenNames -merge a7
        refine Within.step ?_ (landLayer_within ..) rfl
        with_reducible assumption
      · with_reducible assumption
  clear_value a2
  refine Within.step ?_ (checkBudget_within ..) rfl
  refine Within.step ?_ (set_cm_within ..) rfl
  with_reducible assumption

def Parts.lateTiles : List Part := [Part.cm, 0x3820]
theorem lateTiles_within (s : State) (l : List (Nat × Nat × Nat)) : Within Parts.lateTiles s (State.lateTiles s l) := by
  have h0 : Within Parts.lateTiles s s := .refl
  unfold State.lateTiles
  extract_lets +onlyGivenNames -merge a0
  clear_value a0
  extract_lets +onlyGivenNames -merge a1
  have h2 : Within Parts.lateTiles s a1 := by
    unfold a1
    refine Within.step ?_ (set_cm_within ..) rfl
    with_reducible assumption
  clear_value a1
  refine Within.foldl ?_ ?_
  · with_reducible assumption
  · intro x3 x4 x5
    refine Within.step ?_ (bump_within ..) rfl
    with_reducible assumption

def Parts.layersGone : List Part := [Part.host, 0x6048]
theorem layersGone_within (s : State) : Within Parts.layersGone s (State.layersGone s) := by
  have h0 : Within Parts.layersGone s s := .refl
  unfold State.layersGone
  extract_lets +onlyGivenNames -merge a0
  clear_value a0
  refine Within.foldl ?_ ?_
  · with_reducible assumption
  · intro x1 x2 x3
    refine Within.step ?_ (notify_within ..) rfl
    with_reducible assumption

def Parts.putHead1 : List Part := [0x3810, Part.shadow, 0x1028, Part.save]
theorem putHead1_within (s : State) (_rq : Req) (h : Nat) (v : W) : PutWithin Parts.putHead1 (putHead1 s _rq h v) := by
  have h0 : Within Parts.putHead1 s s := .refl
  unfold putHead1
  refine ⟨rfl, fun s0 => ?_⟩
  dsimp -zeta only
  have h00 : Within Parts.putHead1 s0 s0 := .refl
  refine Within.step ?_ (putShadow_within ..) rfl
  with_reducible assumption

def Parts.putImage : List Part := [0x3830, 0x1028, Part.save]
theorem putImage_within (e : Nat) (v : W) : PutWithin Parts.putImage (putImage e v) := by
  unfold putImage
  refine ⟨rfl, fun s0 => ?_⟩
  dsimp -zeta only
  have h00 : Within Parts.putImage s0 s0 := .refl
  extract_lets +onlyGivenNames -merge a0
  split
  · with_reducible assumption
  · split
    · with_reducible assumption
    · dsimp -zeta only
      refine Within.step ?_ (putWord_within ..) rfl
      with_reducible assumption

def Parts.putLayer : List Part := [0x3820, 0x2009, Part.shadow, 0x1028, Part.save]
theorem putLayer_within (s : State) (rq : Req) (e : Nat) (ws : List (Nat × W)) : PutWithin Parts.putLayer (putLayer s rq e ws) := by
  have h0 : Within Parts.putLayer s s := .refl
  unfold putLayer
  extract_lets +onlyGivenNames -merge a0
  clear_value a0
  refine ⟨rfl, fun s0 => ?_⟩
  dsimp -zeta only
  have h00 : Within Parts.putLayer s0 s0 := .refl
  split
  · dsimp -zeta only
    refine Within.step ?_ (refuse_within ..) rfl
    with_reducible assumption
  · dsimp -zeta only
    refine Within.step ?_ (putShadow_within ..) rfl
    refine Within.step ?_ (putShadow_within ..) rfl
    refine Within.step ?_ (putShadow_within ..) rfl
    with_reducible assumption

def Parts.putPalette : List Part := [0x3828, 0x1028, Part.save]
theorem putPalette_within (e : Nat) (v : W) : PutWithin Parts.putPalette (putPalette e v) := by
  unfold putPalette
  refine ⟨rfl, fun s0 => ?_⟩
  dsimp -zeta only
  have h00 : Within Parts.putPalette s0 s0 := .refl
  split
  · with_reducible assumption
  · dsimp -zeta only
    refine Within.step ?_ (putWord_within ..) rfl
    with_reducible assumption

def Parts.putPixels : List Part := [0x3838, 0x1028, Part.save]
theorem putPixels_within (e : Nat) (v : W) : PutWithin Parts.putPixels (putPixels e v) := by
  unfold putPixels
  refine ⟨rfl, fun s0 => ?_⟩
  dsimp -zeta only
  have h00 : Within Parts.putPixels s0 s0 := .refl
  extract_lets +onlyGivenNames -merge a0
  extract_lets +onlyGivenNames -merge a1
  clear_value a1
  split
  · with_reducible assumption
  · dsimp -zeta only
    refine Within.step ?_ (putWord_within ..) rfl
    with_reducible assumption

end Sys2Proof.Machine
end

