-- ==== Sys2Proof/Laws/WithinTakes.lean ====
section
/-! SUPPORT. What the operations of Machine/Takes.lean may change: for each the parts of the state, and that it keeps to them. -/
namespace Sys2Proof.Machine

def Parts.setOutcome : List Part := [0x2010, 0x3020, 0x3810, Part.host, 0x6048]
theorem setOutcome_within (s : State) (x : Work) (st : Nat) (n : Nat) : Within Parts.setOutcome s (State.setOutcome s x st n) := by
  have h0 : Within Parts.setOutcome s s := .refl
  unfold State.setOutcome
  extract_lets +onlyGivenNames -merge a0
  have h1 : Within Parts.setOutcome s a0 := by
    unfold a0
    split
    · refine Within.step ?_ (setWord_within ..) rfl
      with_reducible assumption
    · refine Within.step ?_ (setFld_within ..) rfl
      refine Within.step ?_ (setFld_within ..) rfl
      refine Within.step ?_ (setFld_within ..) rfl
      with_reducible assumption
    · refine Within.step ?_ (setFld_within ..) rfl
      refine Within.step ?_ (setFld_within ..) rfl
      refine Within.step ?_ (setFld_within ..) rfl
      with_reducible assumption
    · with_reducible assumption
  clear_value a0
  split
  · with_reducible assumption
  · split
    · refine Within.step ?_ (notify_within ..) rfl
      with_reducible assumption
    · refine Within.step ?_ (notify_within ..) rfl
      with_reducible assumption
    · refine Within.step ?_ (notify_within ..) rfl
      with_reducible assumption
    · with_reducible assumption

def Parts.dropWork : List Part := [Part.xp]
theorem dropWork_within (s : State) (k : MemberKind) (e : Nat) : Within Parts.dropWork s (State.dropWork s k e) := by
  have h0 : Within Parts.dropWork s s := .refl
  unfold State.dropWork
  refine Within.step ?_ (set_xp_within ..) rfl
  with_reducible assumption

def Parts.putWork : List Part := [Part.xp]
theorem putWork_within (s : State) (x : Work) : Within Parts.putWork s (State.putWork s x) := by
  have h0 : Within Parts.putWork s s := .refl
  unfold State.putWork
  extract_lets +onlyGivenNames -merge a0
  have h1 : Within Parts.putWork s a0 := by
    unfold a0
    refine Within.step ?_ (dropWork_within ..) rfl
    with_reducible assumption
  clear_value a0
  refine Within.step ?_ (set_xp_within ..) rfl
  with_reducible assumption

def Parts.countTake : List Part := [0x2008]
theorem countTake_within (s : State) (x : Work) (st : Nat) : Within Parts.countTake s (State.countTake s x st) := by
  have h0 : Within Parts.countTake s s := .refl
  unfold State.countTake
  split
  · with_reducible assumption
  · split
    · refine Within.step ?_ (bump_within ..) rfl
      with_reducible assumption
    · split
      · refine Within.step ?_ (bump_within ..) rfl
        with_reducible assumption
      · refine Within.step ?_ (bump_within ..) rfl
        with_reducible assumption

def Parts.setMaker : List Part := [Part.au]
theorem setMaker_within (s : State) (p : Nat) (e : Option Nat) : Within Parts.setMaker s (State.setMaker s p e) := by
  have h0 : Within Parts.setMaker s s := .refl
  unfold State.setMaker
  refine Within.step ?_ (set_au_within ..) rfl
  with_reducible assumption

def Parts.unreserve : List Part := [Part.au, 0x3020]
theorem unreserve_within (s : State) (p : Nat) : Within Parts.unreserve s (State.unreserve s p) := by
  have h0 : Within Parts.unreserve s s := .refl
  unfold State.unreserve
  refine Within.step ?_ (releaseAudio_within ..) rfl
  refine Within.step ?_ (setMaker_within ..) rfl
  with_reducible assumption

def Parts.unmake : List Part := [Part.au, 0x3020]
theorem unmake_within (s : State) (x : Work) : Within Parts.unmake s (State.unmake s x) := by
  have h0 : Within Parts.unmake s s := .refl
  unfold State.unmake
  split
  · split
    · refine Within.step ?_ (setMaker_within ..) rfl
      with_reducible assumption
    · refine Within.step ?_ (unreserve_within ..) rfl
      with_reducible assumption
  · with_reducible assumption

def Parts.finishAs : List Part := [Part.xp, 0x2008, Part.cm, 0x3810, Part.au, 0x3020, Part.ev, Part.host, Part.clk, 0x7820, 0x6048, 0x7808, Part.sys, 0x7810]
theorem finishAs_within {l : List Part} {s r : State} {x : Work} {st : Nat} {k : State → State}
    (hl : sub Parts.finishAs l = true) (h : Within l r s) (hk : ∀ t, Within l r t → Within l r (k t)) :
    Within l r (s.finishAs x st k) := by
  have u : ∀ {a}, sub a Parts.finishAs = true → sub a l = true := fun m => sub_trans m hl
  unfold State.finishAs
  extract_lets +onlyGivenNames -merge a
  have ha : Within l r a := hk _ (h.step (dropWork_within ..) (u rfl))
  clear_value a
  extract_lets +onlyGivenNames -merge b
  have hb : Within l r b := ha.step (countTake_within ..) (u rfl)
  clear_value b
  extract_lets +onlyGivenNames -merge c1
  have hc1 : Within l r c1 := by
    unfold c1
    split
    · exact hb
    · exact hb.step (dropImages_within ..) (u rfl)
  clear_value c1
  extract_lets +onlyGivenNames -merge c
  have hc : Within l r c := by
    unfold c
    split
    · split
      · exact hc1
      · exact hc1.step (setFld_within ..) (u rfl)
    · exact hb
  clear_value c
  extract_lets +onlyGivenNames -merge d
  have hd : Within l r d := by
    unfold d
    split
    · exact hc
    · exact hc.step (unmake_within ..) (u rfl)
  clear_value d
  split
  · exact hd.step (raise_within ..) (u rfl)
  · split
    · exact hd.step (raise_within ..) (u rfl)
    · exact hd


def Parts.finish : List Part := [0x2010, 0x3020, 0x3810, Part.host, 0x6048, Part.xp, 0x2008, Part.cm, Part.au, Part.ev, Part.clk, 0x7820, 0x7808, Part.sys, 0x7810]
theorem finish_within (s : State) (x : Work) (st : Nat) (n : Nat) : Within Parts.finish s (State.finish s x st n) := by
  have h0 : Within Parts.finish s s := .refl
  unfold State.finish
  refine finishAs_within rfl ?_ ?_
  · with_reducible assumption
  · intro x0 x1
    refine Within.step ?_ (setOutcome_within ..) rfl
    with_reducible assumption

def Parts.openOutcome : List Part := [Part.fresh, 0x2010, 0x3020, 0x3810, Part.host, 0x6048]
theorem openOutcome_within (s : State) (x : Work) (st : Nat) : Within Parts.openOutcome s (State.openOutcome s x st) := by
  have h0 : Within Parts.openOutcome s s := .refl
  unfold State.openOutcome
  extract_lets +onlyGivenNames -merge a0
  have h1 : Within Parts.openOutcome s a0.1 := by
    unfold a0
    refine Within.step ?_ (takeFree_within ..) rfl
    with_reducible assumption
  clear_value a0
  refine Within.step ?_ (setOutcome_within ..) rfl
  with_reducible assumption

def Parts.fail : List Part := [Part.fresh, 0x2010, 0x3020, 0x3810, Part.host, 0x6048, Part.xp, 0x2008, Part.cm, Part.au, Part.ev, Part.clk, 0x7820, 0x7808, Part.sys, 0x7810]
theorem fail_within (s : State) (x : Work) (st : Nat) : Within Parts.fail s (State.fail s x st) := by
  have h0 : Within Parts.fail s s := .refl
  unfold State.fail
  split
  · refine finishAs_within rfl ?_ ?_
    · with_reducible assumption
    · intro x0 x1
      refine Within.step ?_ (openOutcome_within ..) rfl
      with_reducible assumption
  · refine Within.step ?_ (finish_within ..) rfl
    with_reducible assumption

def Parts.supersede : List Part := [Part.fresh, 0x2010, 0x3020, 0x3810, Part.host, 0x6048, Part.xp, 0x2008, Part.cm, Part.au, Part.ev, Part.clk, 0x7820, 0x7808, Part.sys, 0x7810]
theorem supersede_within (s : State) (x : Work) (order : Nat) (f : Format) : Within Parts.supersede s (State.supersede s x order f) := by
  have h0 : Within Parts.supersede s s := .refl
  unfold State.supersede
  refine Within.foldl ?_ ?_
  · with_reducible assumption
  · intro x0 x1 x2
    refine Within.step ?_ (fail_within ..) rfl
    with_reducible assumption

def Parts.place : List Part := [0x2010, 0x3020, 0x3810, Part.host, 0x6048, Part.xp, 0x2008, Part.cm, Part.au, Part.ev, Part.clk, 0x7820, 0x7808, Part.sys, 0x7810, Part.fresh]
theorem place_within (s : State) (x : Work) (f : Format) : Within Parts.place s (State.place s x f) := by
  have h0 : Within Parts.place s s := .refl
  unfold State.place
  split
  · refine Within.step ?_ (finish_within ..) rfl
    with_reducible assumption
  · split
    · refine Within.step ?_ (finish_within ..) rfl
      with_reducible assumption
    · refine Within.step ?_ (setOutcome_within ..) rfl
      refine Within.step ?_ (putWork_within ..) rfl
      refine Within.step ?_ (supersede_within ..) rfl
      with_reducible assumption

def Parts.acceptSingle : List Part := [Part.xp, 0x2010, 0x3020, 0x3810, Part.host, 0x6048, 0x2008, Part.cm, Part.au, Part.ev, Part.clk, 0x7820, 0x7808, Part.sys, 0x7810, Part.fresh]
theorem acceptSingle_within (s : State) (x : Work) (c : When) (held : Bool) : Within Parts.acceptSingle s (State.acceptSingle s x c held) := by
  have h0 : Within Parts.acceptSingle s s := .refl
  unfold State.acceptSingle
  split
  · with_reducible assumption
  · extract_lets +onlyGivenNames -merge a0
    extract_lets +onlyGivenNames -merge a1
    extract_lets +onlyGivenNames -merge a2
    clear_value a2
    split
    · extract_lets +onlyGivenNames -merge a3
      clear_value a3
      refine Within.step ?_ (setOutcome_within ..) rfl
      refine Within.step ?_ (putWork_within ..) rfl
      with_reducible assumption
    · split
      · refine Within.step ?_ (place_within ..) rfl
        with_reducible assumption
      · refine Within.step ?_ (place_within ..) rfl
        with_reducible assumption
      · refine Within.step ?_ (finish_within ..) rfl
        with_reducible assumption

def Parts.setSalvo : List Part := [Part.xp]
theorem setSalvo_within (s : State) (x : Salvo) : Within Parts.setSalvo s (State.setSalvo s x) := by
  have h0 : Within Parts.setSalvo s s := .refl
  unfold State.setSalvo
  refine Within.step ?_ (set_xp_within ..) rfl
  with_reducible assumption

def Parts.stage : List Part := [0x2020, Part.xp, Part.host, 0x6048]
theorem stage_within (s : State) (n : Nat) (ctx : Nat) : Within Parts.stage s (State.stage s n ctx) := by
  have h0 : Within Parts.stage s s := .refl
  unfold State.stage
  extract_lets +onlyGivenNames -merge a0
  clear_value a0
  extract_lets +onlyGivenNames -merge a1
  have h2 : Within Parts.stage s a1 := by
    unfold a1
    split
    · with_reducible assumption
    · refine Within.step ?_ (setWord_within ..) rfl
      with_reducible assumption
  clear_value a1
  extract_lets +onlyGivenNames -merge a3
  have h4 : Within Parts.stage s a3 := by
    unfold a3
    refine Within.step ?_ (setSalvo_within ..) rfl
    refine Within.step ?_ (bump_within ..) rfl
    with_reducible assumption
  clear_value a3
  split
  · with_reducible assumption
  · refine Within.step ?_ (notify_within ..) rfl
    with_reducible assumption

def Parts.acceptStaged : List Part := [Part.xp, 0x2020, Part.host, 0x6048, Part.fresh, 0x2010, 0x3020, 0x3810]
theorem acceptStaged_within (s : State) (x : Work) : Within Parts.acceptStaged s (State.acceptStaged s x) := by
  have h0 : Within Parts.acceptStaged s s := .refl
  unfold State.acceptStaged
  extract_lets +onlyGivenNames -merge a0
  clear_value a0
  refine Within.step ?_ (openOutcome_within ..) rfl
  refine Within.step ?_ (stage_within ..) rfl
  refine Within.step ?_ (putWork_within ..) rfl
  with_reducible assumption

def Parts.busyCommit : List Part := [0x2009]
theorem busyCommit_within (s : State) (k : MemberKind) (e : Nat) (ctx : Nat) : Within Parts.busyCommit s (State.busyCommit s k e ctx).2 := by
  have h0 : Within Parts.busyCommit s s := .refl
  unfold State.busyCommit
  dsimp -zeta only
  refine Within.step ?_ (refuse_within ..) rfl
  with_reducible assumption

def Parts.nextOrder : List Part := [Part.xp]
theorem nextOrder_within (s : State) : Within Parts.nextOrder s (State.nextOrder s).1 := by
  have h0 : Within Parts.nextOrder s s := .refl
  unfold State.nextOrder
  dsimp -zeta only
  refine Within.step ?_ (set_xp_within ..) rfl
  with_reducible assumption

def Parts.failCommit : List Part := [Part.fresh, 0x2010, 0x3020, 0x3810, Part.host, 0x6048, Part.xp, 0x2008, Part.cm, Part.au, Part.ev, Part.clk, 0x7820, 0x7808, Part.sys, 0x7810, Part.tw]
theorem failCommit_within (s : State) (x : Work) (st : Status) : Within Parts.failCommit s (State.failCommit s x st).2 := by
  have h0 : Within Parts.failCommit s s := .refl
  unfold State.failCommit
  dsimp -zeta only
  refine Within.step ?_ (tellTwin_within ..) rfl
  refine finishAs_within rfl ?_ ?_
  · with_reducible assumption
  · intro x0 x1
    refine Within.step ?_ (openOutcome_within ..) rfl
    with_reducible assumption

def Parts.storeCommit : List Part := [0x2010, 0x3020, 0x3810, 0x2020]
theorem storeCommit_within (s : State) (k : MemberKind) (e : Nat) (w0 : W) (w1 : W) : Within Parts.storeCommit s (State.storeCommit s k e w0 w1) := by
  have h0 : Within Parts.storeCommit s s := .refl
  unfold State.storeCommit
  split
  · refine Within.step ?_ (setWord_within ..) rfl
    refine Within.step ?_ (setWord_within ..) rfl
    with_reducible assumption
  · refine Within.step ?_ (setWord_within ..) rfl
    with_reducible assumption
  · refine Within.step ?_ (setWord_within ..) rfl
    with_reducible assumption
  · refine Within.step ?_ (setWord_within ..) rfl
    refine Within.step ?_ (setWord_within ..) rfl
    with_reducible assumption

def Parts.commitWork : List Part := [0x2009, Part.xp, 0x2010, 0x3020, 0x3810, 0x2020, Part.fresh, Part.host, 0x6048, 0x2008, Part.cm, Part.au, Part.ev, Part.clk, 0x7820, 0x7808, Part.sys, 0x7810, Part.tw]
theorem commitWork_within {l : List Part} {s r : State} {k : MemberKind} {e ctx salvo : Nat} {w0 w1 : W} {field : Bool} {c : When}
    {held : Bool} {pre : State → Option Status} {post : State → Work → Except Status State}
    (hl : sub Parts.commitWork l = true) (h : Within l r s) (hk : ∀ t x, Within l r t → ExcWithin l r (post t x)) :
    Within l r (s.commitWork k e ctx salvo w0 w1 field c held pre post).2 := by
  have u : ∀ {a}, sub a Parts.commitWork = true → sub a l = true := fun m => sub_trans m hl
  have ho : Within l r s.nextOrder.1 := h.step (nextOrder_within ..) (u rfl)
  have hs : Within l r (s.nextOrder.1.storeCommit k e w0 w1) := ho.step (storeCommit_within ..) (u rfl)
  unfold State.commitWork
  split
  · exact h.step (busyCommit_within ..) (u rfl)
  · extract_lets needs o x
    split
    · exact hs.step (failCommit_within ..) (u rfl)
    · split
      · exact hs.step (failCommit_within ..) (u rfl)
      · split
        · exact h.step (busyCommit_within ..) (u rfl)
        · exact hs.step (failCommit_within ..) (u rfl)
        · split
          · exact hs.step (failCommit_within ..) (u rfl)
          · rename_i v hv
            have hv' : Within l r v := (hk _ _ hs).get hv
            refine Within.step ?_ (tellTwin_within ..) (u rfl)
            split
            · exact hv'.step (acceptSingle_within ..) (u rfl)
            · exact hv'.step (acceptStaged_within ..) (u rfl)


def Parts.audioCommit : List Part := [0x2009, Part.xp, 0x2010, 0x3020, 0x3810, 0x2020, Part.fresh, Part.host, 0x6048, 0x2008, Part.cm, Part.au, Part.ev, Part.clk, 0x7820, 0x7808, Part.sys, 0x7810, Part.tw]
theorem audioCommit_within (s : State) (ctx : Nat) (e : Nat) (w0 : W) : Within Parts.audioCommit s (State.audioCommit s ctx e w0).2 := by
  have h0 : Within Parts.audioCommit s s := .refl
  unfold State.audioCommit
  split
  · refine Within.step ?_ (busyCommit_within ..) rfl
    with_reducible assumption
  · extract_lets +onlyGivenNames -merge a0
    clear_value a0
    refine commitWork_within rfl ?_ ?_
    · with_reducible assumption
    · intro x1 x2 x3
      refine ExcWithin.ok ?_
      with_reducible assumption

def Parts.refuseWork : List Part := [0x2009]
theorem refuseWork_within (s : State) (k : MemberKind) (e : Nat) (ctx : Nat) (st : Status) : Within Parts.refuseWork s (State.refuseWork s k e ctx st).2 := by
  have h0 : Within Parts.refuseWork s s := .refl
  unfold State.refuseWork
  dsimp -zeta only
  refine Within.step ?_ (refuse_within ..) rfl
  with_reducible assumption

def Parts.unstage : List Part := [0x2020]
theorem unstage_within (s : State) (n : Nat) : Within Parts.unstage s (State.unstage s n) := by
  have h0 : Within Parts.unstage s s := .refl
  unfold State.unstage
  refine Within.step ?_ (setFld_within ..) rfl
  with_reducible assumption

def Parts.cancelWork : List Part := [0x2009, Part.fresh, 0x2010, 0x3020, 0x3810, Part.host, 0x6048, Part.xp, 0x2008, Part.cm, Part.au, Part.ev, Part.clk, 0x7820, 0x7808, Part.sys, 0x7810, Part.tw, 0x2020]
theorem cancelWork_within (s : State) (k : MemberKind) (e : Nat) (ctx : Nat) : Within Parts.cancelWork s (State.cancelWork s k e ctx).2 := by
  have h0 : Within Parts.cancelWork s s := .refl
  unfold State.cancelWork
  split
  · refine Within.step ?_ (refuseWork_within ..) rfl
    with_reducible assumption
  · extract_lets +onlyGivenNames -merge a0
    have h1 : ∀ y0, (Within Parts.cancelWork s y0) → Within Parts.cancelWork s (a0 y0).2 := by
      intro x2 hx3
      unfold a0
      dsimp -zeta only
      refine Within.step ?_ (tellTwin_within ..) rfl
      refine Within.step ?_ (fail_within ..) rfl
      with_reducible assumption
    clear_value a0
    split
    · split
      · refine Within.step ?_ (refuseWork_within ..) rfl
        with_reducible assumption
      · apply h1
        refine Within.step ?_ (unstage_within ..) rfl
        with_reducible assumption
    · split
      · refine Within.step ?_ (refuseWork_within ..) rfl
        with_reducible assumption
      · split
        · apply h1
          with_reducible assumption
        · split
          · split
            · apply h1
              with_reducible assumption
            · refine Within.step ?_ (refuseWork_within ..) rfl
              with_reducible assumption
          · split
            · apply h1
              with_reducible assumption
            · refine Within.step ?_ (refuseWork_within ..) rfl
              with_reducible assumption

def Parts.dropSalvo : List Part := [Part.xp]
theorem dropSalvo_within (s : State) (n : Nat) : Within Parts.dropSalvo s (State.dropSalvo s n) := by
  have h0 : Within Parts.dropSalvo s s := .refl
  unfold State.dropSalvo
  refine Within.step ?_ (set_xp_within ..) rfl
  with_reducible assumption

def Parts.endSalvo : List Part := [0x2020, Part.xp, Part.host, 0x6048, Part.ev, Part.clk, 0x7820, 0x7808, Part.sys, 0x7810]
theorem endSalvo_within (s : State) (n : Nat) (st : Nat) (result : Nat) (culprit : Nat) : Within Parts.endSalvo s (State.endSalvo s n st result culprit) := by
  have h0 : Within Parts.endSalvo s s := .refl
  unfold State.endSalvo
  extract_lets +onlyGivenNames -merge a0
  have h1 : Within Parts.endSalvo s a0 := by
    unfold a0
    refine Within.step ?_ (setFld_within ..) rfl
    refine Within.step ?_ (setFld_within ..) rfl
    refine Within.step ?_ (setFld_within ..) rfl
    with_reducible assumption
  clear_value a0
  extract_lets +onlyGivenNames -merge a2
  have h3 : Within Parts.endSalvo s a2 := by
    unfold a2
    refine Within.step ?_ (notify_within ..) rfl
    refine Within.step ?_ (dropSalvo_within ..) rfl
    with_reducible assumption
  clear_value a2
  split
  · refine Within.step ?_ (note_within ..) rfl
    with_reducible assumption
  · with_reducible assumption

def Parts.failSalvo : List Part := [Part.fresh, 0x2010, 0x3020, 0x3810, Part.host, 0x6048, Part.xp, 0x2008, Part.cm, Part.au, Part.ev, Part.clk, 0x7820, 0x7808, Part.sys, 0x7810, 0x2020]
theorem failSalvo_within (s : State) (n : Nat) (result : Nat) (own : Work → Option Nat) (rest : Nat) : Within Parts.failSalvo s (State.failSalvo s n result own rest) := by
  have h0 : Within Parts.failSalvo s s := .refl
  unfold State.failSalvo
  extract_lets +onlyGivenNames -merge a0
  clear_value a0
  extract_lets +onlyGivenNames -merge a1
  extract_lets +onlyGivenNames -merge a2
  have h3 : Within Parts.failSalvo s a2 := by
    unfold a2
    refine Within.foldl ?_ ?_
    · with_reducible assumption
    · intro x4 x5 x6
      refine Within.step ?_ (fail_within ..) rfl
      with_reducible assumption
  clear_value a2
  refine Within.step ?_ (endSalvo_within ..) rfl
  with_reducible assumption

def Parts.closeSalvos : List Part := [Part.fresh, 0x2010, 0x3020, 0x3810, Part.host, 0x6048, Part.xp, 0x2008, Part.cm, Part.au, Part.ev, Part.clk, 0x7820, 0x7808, Part.sys, 0x7810, 0x2020, Part.tw]
theorem closeSalvos_within (s : State) (ctx : Nat) : Within Parts.closeSalvos s (State.closeSalvos s ctx) := by
  have h0 : Within Parts.closeSalvos s s := .refl
  unfold State.closeSalvos
  refine Within.foldl ?_ ?_
  · with_reducible assumption
  · intro x0 x1 x2
    refine Within.step ?_ (tellTwin_within ..) rfl
    refine Within.step ?_ (failSalvo_within ..) rfl
    with_reducible assumption

def Parts.resizeAudio : List Part := [Part.au, 0x3020]
theorem resizeAudio_within (s : State) (p : Nat) : OptWithin Parts.resizeAudio s (State.resizeAudio s p) := by
  have h0 : Within Parts.resizeAudio s s := .refl
  unfold State.resizeAudio
  extract_lets +onlyGivenNames -merge a0
  split
  · refine OptWithin.step ?_ (reserveAudio_within ..) rfl
    with_reducible assumption
  · split
    · refine OptWithin.some ?_
      with_reducible assumption
    · refine OptWithin.step ?_ (reserveAudio_within ..) rfl
      refine Within.step ?_ (releaseAudio_within ..) rfl
      with_reducible assumption

def Parts.recheckWork : List Part := [Part.au, 0x3020]
theorem recheckWork_within (s : State) (x : Work) : ExcWithin Parts.recheckWork s (State.recheckWork s x) := by
  have h0 : Within Parts.recheckWork s s := .refl
  unfold State.recheckWork
  split
  · exact ExcWithin.error
  · split
    · split
      · rename_i m0_0 m0_1 m0_2 m0_3 m0_4 m0_5
        have h1 : Within Parts.recheckWork s m0_4 := by
          refine OptWithin.get ?_ m0_5
          refine OptWithin.step ?_ (resizeAudio_within ..) rfl
          with_reducible assumption
        refine ExcWithin.ok ?_
        with_reducible assumption
      · exact ExcWithin.error
    · refine ExcWithin.ok ?_
      with_reducible assumption

def Parts.recheckMembers : List Part := [Part.au, 0x3020]
theorem recheckMembers_within (s : State) (l : List Work) : ExcWithin Parts.recheckMembers s (State.recheckMembers s l) := by
  have key : ∀ (l : List Work) (t : State), Within Parts.recheckMembers s t → ExcWithin Parts.recheckMembers s (t.recheckMembers l) := by
    intro l
    induction l with
    | nil => intro t h; exact .ok h
    | cons x r ih =>
      intro t h
      unfold State.recheckMembers
      split
      · exact ih t h
      · split
        · rename_i u e
          exact ih u (h.step ((recheckWork_within t x).get e) rfl)
        · exact .error
  exact key l s .refl


def Parts.failOn : List Part := [Part.fresh, 0x2010, 0x3020, 0x3810, Part.host, 0x6048, Part.xp, 0x2008, Part.cm, Part.au, Part.ev, Part.clk, 0x7820, 0x7808, Part.sys, 0x7810, 0x2020]
theorem failOn_within (s : State) (n : Nat) (y : Work) (st : Nat) : Within Parts.failOn s (State.failOn s n y st) := by
  have h0 : Within Parts.failOn s s := .refl
  unfold State.failOn
  refine Within.step ?_ (failSalvo_within ..) rfl
  with_reducible assumption

def Parts.goSalvo : List Part := [Part.fresh, 0x2010, 0x3020, 0x3810, Part.host, 0x6048, Part.xp, 0x2008, Part.cm, Part.au, Part.ev, Part.clk, 0x7820, 0x7808, Part.sys, 0x7810, 0x2020]
theorem goSalvo_within (s : State) (n : Nat) (l : List Work) : Within Parts.goSalvo s (State.goSalvo s n l) := by
  have h0 : Within Parts.goSalvo s s := .refl
  unfold State.goSalvo
  split
  · refine Within.step ?_ (failOn_within ..) rfl
    with_reducible assumption
  · extract_lets +onlyGivenNames -merge a0
    have h1 : Within Parts.goSalvo s a0 := by
      unfold a0
      refine Within.foldl ?_ ?_
      · with_reducible assumption
      · intro x2 x3 x4
        extract_lets +onlyGivenNames -merge a5
        have h6 : Within Parts.goSalvo s a5 := by
          unfold a5
          split
          · refine Within.step ?_ (supersede_within ..) rfl
            with_reducible assumption
          · with_reducible assumption
        clear_value a5
        refine Within.step ?_ (setOutcome_within ..) rfl
        refine Within.step ?_ (putWork_within ..) rfl
        with_reducible assumption
    clear_value a0
    refine Within.step ?_ (notify_within ..) rfl
    refine Within.step ?_ (setFld_within ..) rfl
    with_reducible assumption

def Parts.decideSalvo : List Part := [Part.au, 0x3020, Part.fresh, 0x2010, 0x3810, Part.host, 0x6048, Part.xp, 0x2008, Part.cm, Part.ev, Part.clk, 0x7820, 0x7808, Part.sys, 0x7810, 0x2020]
theorem decideSalvo_within (s : State) (n : Nat) (again : Bool) : Within Parts.decideSalvo s (State.decideSalvo s n again) := by
  have h0 : Within Parts.decideSalvo s s := .refl
  unfold State.decideSalvo
  extract_lets +onlyGivenNames -merge a0
  clear_value a0
  extract_lets +onlyGivenNames -merge a1
  clear_value a1
  extract_lets +onlyGivenNames -merge a2
  clear_value a2
  extract_lets +onlyGivenNames -merge a3
  extract_lets +onlyGivenNames -merge a4
  clear_value a4
  split
  · refine Within.step ?_ (failOn_within ..) rfl
    with_reducible assumption
  · rename_i m5_0 m5_1 m5_2
    have h6 : Within Parts.decideSalvo s m5_1 := by
      refine ExcWithin.get ?_ m5_2
      refine ExcWithin.step ?_ (recheckMembers_within ..) rfl
      with_reducible assumption
    split
    · refine Within.step ?_ (failOn_within ..) rfl
      with_reducible assumption
    · split
      · refine Within.step ?_ (failOn_within ..) rfl
        with_reducible assumption
      · extract_lets +onlyGivenNames -merge a7
        clear_value a7
        split
        · split
          · refine Within.step ?_ (failSalvo_within ..) rfl
            with_reducible assumption
          · split
            · extract_lets +onlyGivenNames -merge a8
              clear_value a8
              refine Within.step ?_ (failSalvo_within ..) rfl
              with_reducible assumption
            · extract_lets +onlyGivenNames -merge a9
              clear_value a9
              split
              · extract_lets +onlyGivenNames -merge a10
                have h11 : Within Parts.decideSalvo s a10 := by
                  unfold a10
                  refine Within.foldl ?_ ?_
                  · with_reducible assumption
                  · intro x12 x13 x14
                    extract_lets +onlyGivenNames -merge a15
                    clear_value a15
                    refine Within.step ?_ (setOutcome_within ..) rfl
                    refine Within.step ?_ (putWork_within ..) rfl
                    with_reducible assumption
                clear_value a10
                split
                · with_reducible assumption
                · refine Within.step ?_ (notify_within ..) rfl
                  refine Within.step ?_ (setFld_within ..) rfl
                  with_reducible assumption
              · extract_lets +onlyGivenNames -merge a16
                have h17 : ∀ y0, (Within Parts.decideSalvo s y0) → Within Parts.decideSalvo s (a16 y0) := by
                  intro x18 hx19
                  unfold a16
                  refine Within.foldl ?_ ?_
                  · with_reducible assumption
                  · intro x20 x21 x22
                    refine Within.step ?_ (putWork_within ..) rfl
                    with_reducible assumption
                clear_value a16
                split
                · refine Within.step ?_ (failSalvo_within ..) rfl
                  apply h17
                  with_reducible assumption
                · extract_lets +onlyGivenNames -merge a23
                  clear_value a23
                  refine Within.step ?_ (goSalvo_within ..) rfl
                  apply h17
                  with_reducible assumption
        · split
          · refine Within.step ?_ (failSalvo_within ..) rfl
            with_reducible assumption
          · split
            · extract_lets +onlyGivenNames -merge a24
              clear_value a24
              refine Within.step ?_ (failSalvo_within ..) rfl
              with_reducible assumption
            · extract_lets +onlyGivenNames -merge a25
              clear_value a25
              split
              · extract_lets +onlyGivenNames -merge a26
                have h27 : Within Parts.decideSalvo s a26 := by
                  unfold a26
                  refine Within.foldl ?_ ?_
                  · with_reducible assumption
                  · intro x28 x29 x30
                    extract_lets +onlyGivenNames -merge a31
                    clear_value a31
                    refine Within.step ?_ (setOutcome_within ..) rfl
                    refine Within.step ?_ (putWork_within ..) rfl
                    with_reducible assumption
                clear_value a26
                split
                · with_reducible assumption
                · refine Within.step ?_ (notify_within ..) rfl
                  refine Within.step ?_ (setFld_within ..) rfl
                  with_reducible assumption
              · extract_lets +onlyGivenNames -merge a32
                have h33 : ∀ y0, (Within Parts.decideSalvo s y0) → Within Parts.decideSalvo s (a32 y0) := by
                  intro x34 hx35
                  unfold a32
                  refine Within.foldl ?_ ?_
                  · with_reducible assumption
                  · intro x36 x37 x38
                    refine Within.step ?_ (putWork_within ..) rfl
                    with_reducible assumption
                clear_value a32
                split
                · refine Within.step ?_ (failSalvo_within ..) rfl
                  apply h33
                  with_reducible assumption
                · extract_lets +onlyGivenNames -merge a39
                  clear_value a39
                  refine Within.step ?_ (goSalvo_within ..) rfl
                  apply h33
                  with_reducible assumption

def Parts.endAllWork : List Part := [Part.fresh, 0x2010, 0x3020, 0x3810, Part.host, 0x6048, Part.xp, 0x2008, Part.cm, Part.au, Part.ev, Part.clk, 0x7820, 0x7808, Part.sys, 0x7810, 0x2020]
theorem endAllWork_within (s : State) : Within Parts.endAllWork s (State.endAllWork s) := by
  have h0 : Within Parts.endAllWork s s := .refl
  unfold State.endAllWork
  extract_lets +onlyGivenNames -merge a0
  extract_lets +onlyGivenNames -merge a1
  have h2 : Within Parts.endAllWork s a1 := by
    unfold a1
    refine Within.foldl ?_ ?_
    · with_reducible assumption
    · intro x3 x4 x5
      refine Within.step ?_ (failSalvo_within ..) rfl
      with_reducible assumption
  clear_value a1
  refine Within.foldl ?_ ?_
  · with_reducible assumption
  · intro x6 x7 x8
    refine Within.step ?_ (fail_within ..) rfl
    with_reducible assumption

def Parts.headCommit : List Part := [Part.cm, 0x3810, 0x2009, Part.xp, 0x2010, 0x3020, 0x2020, Part.fresh, Part.host, 0x6048, 0x2008, Part.au, Part.ev, Part.clk, 0x7820, 0x7808, Part.sys, 0x7810, Part.tw]
theorem headCommit_within (s : State) (ctx : Nat) (h : Nat) (w0 : W) : Within Parts.headCommit s (State.headCommit s ctx h w0).2 := by
  have h0 : Within Parts.headCommit s s := .refl
  unfold State.headCommit
  extract_lets +onlyGivenNames -merge a0
  clear_value a0
  extract_lets +onlyGivenNames -merge a1
  clear_value a1
  refine commitWork_within rfl ?_ ?_
  · with_reducible assumption
  · intro x2 x3 x4
    split
    · exact ExcWithin.error
    · refine ExcWithin.ok ?_
      refine Within.step ?_ (setFld_within ..) rfl
      refine Within.step ?_ (set_cm_within ..) rfl
      with_reducible assumption

def Parts.memberEnded : List Part := [0x2020, Part.xp, Part.host, 0x6048, Part.ev, Part.clk, 0x7820, 0x7808, Part.sys, 0x7810]
theorem memberEnded_within (s : State) (n : Nat) (late : Bool) (bad : Option (Nat × Nat)) : Within Parts.memberEnded s (State.memberEnded s n late bad) := by
  have h0 : Within Parts.memberEnded s s := .refl
  unfold State.memberEnded
  split
  · with_reducible assumption
  · extract_lets +onlyGivenNames -merge a0
    clear_value a0
    extract_lets +onlyGivenNames -merge a1
    have h2 : Within Parts.memberEnded s a1 := by
      unfold a1
      split
      · refine Within.step ?_ (bump_within ..) rfl
        with_reducible assumption
      · with_reducible assumption
    clear_value a1
    extract_lets +onlyGivenNames -merge a3
    clear_value a3
    extract_lets +onlyGivenNames -merge a4
    have h5 : Within Parts.memberEnded s a4 := by
      unfold a4
      refine Within.step ?_ (setSalvo_within ..) rfl
      with_reducible assumption
    clear_value a4
    split
    · split
      · split
        · refine Within.step ?_ (setFld_within ..) rfl
          with_reducible assumption
        · with_reducible assumption
      · with_reducible assumption
    · split
      · refine Within.step ?_ (endSalvo_within ..) rfl
        with_reducible assumption
      · refine Within.step ?_ (endSalvo_within ..) rfl
        with_reducible assumption

def Parts.salvoRebuild : List Part := [Part.fresh, 0x2010, 0x3020, 0x3810, Part.host, 0x6048, Part.xp, 0x2008, Part.cm, Part.au, Part.ev, Part.clk, 0x7820, 0x7808, Part.sys, 0x7810, 0x2020]
theorem salvoRebuild_within (s : State) (n : Nat) : Within Parts.salvoRebuild s (State.salvoRebuild s n) := by
  have h0 : Within Parts.salvoRebuild s s := .refl
  unfold State.salvoRebuild
  extract_lets +onlyGivenNames -merge a0
  clear_value a0
  refine Within.step ?_ (failSalvo_within ..) rfl
  with_reducible assumption

def Parts.rebuildGone : List Part := [0x2010, 0x3020, 0x3810, Part.host, 0x6048, Part.xp, 0x2008, Part.cm, Part.au, Part.ev, Part.clk, 0x7820, 0x7808, Part.sys, 0x7810, Part.tw, Part.fresh, 0x2020]
theorem rebuildGone_within (s : State) : Within Parts.rebuildGone s (State.rebuildGone s) := by
  have h0 : Within Parts.rebuildGone s s := .refl
  unfold State.rebuildGone
  split
  · with_reducible assumption
  · extract_lets +onlyGivenNames -merge a0
    have h1 : Within Parts.rebuildGone s a0 := by
      unfold a0
      refine Within.foldl ?_ ?_
      · with_reducible assumption
      · intro x2 x3 x4
        refine Within.step ?_ (tellTwin_within ..) rfl
        refine Within.step ?_ (finish_within ..) rfl
        with_reducible assumption
    clear_value a0
    refine Within.foldl ?_ ?_
    · with_reducible assumption
    · intro x5 x6 x7
      refine Within.step ?_ (tellTwin_within ..) rfl
      refine Within.step ?_ (salvoRebuild_within ..) rfl
      with_reducible assumption

def Parts.recheckPending : List Part := [Part.au, 0x3020, 0x2010, 0x3810, Part.host, 0x6048, Part.xp, 0x2008, Part.cm, Part.ev, Part.clk, 0x7820, 0x7808, Part.sys, 0x7810, 0x2020, Part.tw]
theorem recheckPending_within (s : State) (x : Work) : Within Parts.recheckPending s (State.recheckPending s x) := by
  have h0 : Within Parts.recheckPending s s := .refl
  unfold State.recheckPending
  split
  · refine Within.step ?_ (tellTwin_within ..) rfl
    refine Within.step ?_ (memberEnded_within ..) rfl
    refine Within.step ?_ (finish_within ..) rfl
    with_reducible assumption
  · rename_i m0_0 m0_1 m0_2
    have h1 : Within Parts.recheckPending s m0_1 := by
      refine ExcWithin.get ?_ m0_2
      refine ExcWithin.step ?_ (recheckWork_within ..) rfl
      with_reducible assumption
    refine Within.step ?_ (putWork_within ..) rfl
    with_reducible assumption

def Parts.releaseHeld : List Part := [0x2010, 0x3020, 0x3810, Part.host, 0x6048, Part.xp, 0x2008, Part.cm, Part.au, Part.ev, Part.clk, 0x7820, 0x7808, Part.sys, 0x7810, Part.fresh]
theorem releaseHeld_within (s : State) (x : Work) : Within Parts.releaseHeld s (State.releaseHeld s x) := by
  have h0 : Within Parts.releaseHeld s s := .refl
  unfold State.releaseHeld
  extract_lets +onlyGivenNames -merge a0
  extract_lets +onlyGivenNames -merge a1
  clear_value a1
  split
  · refine Within.step ?_ (finish_within ..) rfl
    with_reducible assumption
  · split
    · refine Within.step ?_ (finish_within ..) rfl
      with_reducible assumption
    · rename_i m2_0 m2_1 m2_2 m2_3 m2_4 m2_5
      have h3 : Within Parts.releaseHeld s m2_3 := by
        refine ExcWithin.get ?_ m2_4
        refine ExcWithin.step ?_ (recheckWork_within ..) rfl
        with_reducible assumption
      refine Within.step ?_ (finish_within ..) rfl
      with_reducible assumption
    · rename_i m4_0 m4_1 m4_2 m4_3 m4_4 m4_5 m4_6
      have h5 : Within Parts.releaseHeld s m4_3 := by
        refine ExcWithin.get ?_ m4_5
        refine ExcWithin.step ?_ (recheckWork_within ..) rfl
        with_reducible assumption
      refine Within.step ?_ (place_within ..) rfl
      with_reducible assumption

def Parts.releaseAll : List Part := [0x2010, 0x3020, 0x3810, Part.host, 0x6048, Part.xp, 0x2008, Part.cm, Part.au, Part.ev, Part.clk, 0x7820, 0x7808, Part.sys, 0x7810, Part.fresh, Part.tw, 0x2020]
theorem releaseAll_within (s : State) : Within Parts.releaseAll s (State.releaseAll s) := by
  have h0 : Within Parts.releaseAll s s := .refl
  unfold State.releaseAll
  split
  · with_reducible assumption
  · extract_lets +onlyGivenNames -merge a0
    clear_value a0
    extract_lets +onlyGivenNames -merge a1
    have h2 : Within Parts.releaseAll s a1 := by
      unfold a1
      refine Within.foldl ?_ ?_
      · with_reducible assumption
      · intro x3 x4 x5
        refine Within.step ?_ (tellTwin_within ..) rfl
        refine Within.step ?_ (releaseHeld_within ..) rfl
        with_reducible assumption
    clear_value a1
    refine Within.foldl ?_ ?_
    · with_reducible assumption
    · intro x6 x7 x8
      split
      · split
        · refine Within.step ?_ (tellTwin_within ..) rfl
          refine Within.step ?_ (salvoRebuild_within ..) rfl
          with_reducible assumption
        · refine Within.step ?_ (tellTwin_within ..) rfl
          refine Within.step ?_ (decideSalvo_within ..) rfl
          with_reducible assumption
      · with_reducible assumption

def Parts.remakeImages : List Part := [Part.cm, 0x3810]
theorem remakeImages_within (s : State) (x : Work) : Within Parts.remakeImages s (State.remakeImages s x) := by
  have h0 : Within Parts.remakeImages s s := .refl
  unfold State.remakeImages
  extract_lets +onlyGivenNames -merge a0
  clear_value a0
  extract_lets +onlyGivenNames -merge a1
  clear_value a1
  split
  · with_reducible assumption
  · extract_lets +onlyGivenNames -merge a2
    have h3 : Within Parts.remakeImages s a2 := by
      unfold a2
      refine Within.step ?_ (dropImages_within ..) rfl
      with_reducible assumption
    clear_value a2
    refine Within.step ?_ (setFld_within ..) rfl
    refine Within.step ?_ (set_cm_within ..) rfl
    with_reducible assumption

def Parts.reserveFor : List Part := [Part.au, 0x3020]
theorem reserveFor_within (s : State) (sh : Bool) (x : Work) : OptWithin Parts.reserveFor s (State.reserveFor s sh x) := by
  have h0 : Within Parts.reserveFor s s := .refl
  unfold State.reserveFor
  split
  · refine OptWithin.some ?_
    with_reducible assumption
  · extract_lets +onlyGivenNames -merge a0
    clear_value a0
    split
    · exact OptWithin.none
    · rename_i m1_0 m1_1 m1_2 m1_3
      have h2 : Within Parts.reserveFor s m1_2 := by
        refine OptWithin.get ?_ m1_3
        refine OptWithin.step ?_ (reserveAudio_within ..) rfl
        with_reducible assumption
      refine OptWithin.some ?_
      split
      · with_reducible assumption
      · refine Within.step ?_ (setMaker_within ..) rfl
        with_reducible assumption

def Parts.salvoArm : List Part := [0x2009, 0x2010, 0x3020, 0x3810, 0x2020, Part.xp, Part.fresh, Part.host, 0x6048, 0x2008, Part.cm, Part.au, Part.ev, Part.clk, 0x7820, 0x7808, Part.sys, 0x7810, Part.tw]
theorem salvoArm_within (s : State) (ctx : Nat) (n : Nat) (w0 : W) (w1 : W) : Within Parts.salvoArm s (State.salvoArm s ctx n w0 w1).2 := by
  have h0 : Within Parts.salvoArm s s := .refl
  unfold State.salvoArm
  extract_lets +onlyGivenNames -merge a0
  split
  · refine Within.step ?_ (refuseWork_within ..) rfl
    with_reducible assumption
  · split
    · refine Within.step ?_ (refuseWork_within ..) rfl
      with_reducible assumption
    · extract_lets +onlyGivenNames -merge a1
      have h2 : Within Parts.salvoArm s a1 := by
        unfold a1
        refine Within.step ?_ (storeCommit_within ..) rfl
        with_reducible assumption
      clear_value a1
      extract_lets +onlyGivenNames -merge a3
      have h4 : Within Parts.salvoArm s a3.1 := by
        unfold a3
        refine Within.step ?_ (nextOrder_within ..) rfl
        with_reducible assumption
      clear_value a3
      extract_lets +onlyGivenNames -merge a5
      clear_value a5
      extract_lets +onlyGivenNames -merge a6
      have h7 : Within Parts.salvoArm s a6 := by
        unfold a6
        refine Within.step ?_ (setSalvo_within ..) rfl
        with_reducible assumption
      clear_value a6
      extract_lets +onlyGivenNames -merge a8
      have h9 : Within Parts.salvoArm s a8 := by
        unfold a8
        split
        · refine Within.step ?_ (failSalvo_within ..) rfl
          with_reducible assumption
        · refine Within.step ?_ (decideSalvo_within ..) rfl
          with_reducible assumption
      clear_value a8
      dsimp -zeta only
      refine Within.step ?_ (tellTwin_within ..) rfl
      with_reducible assumption

def Parts.salvoDiscard : List Part := [0x2009, Part.fresh, 0x2010, 0x3020, 0x3810, Part.host, 0x6048, Part.xp, 0x2008, Part.cm, Part.au, Part.ev, Part.clk, 0x7820, 0x7808, Part.sys, 0x7810, 0x2020, Part.tw]
theorem salvoDiscard_within (s : State) (ctx : Nat) (n : Nat) : Within Parts.salvoDiscard s (State.salvoDiscard s ctx n).2 := by
  have h0 : Within Parts.salvoDiscard s s := .refl
  unfold State.salvoDiscard
  extract_lets +onlyGivenNames -merge a0
  split
  · refine Within.step ?_ (refuseWork_within ..) rfl
    with_reducible assumption
  · split
    · refine Within.step ?_ (refuseWork_within ..) rfl
      with_reducible assumption
    · split
      · refine Within.step ?_ (refuseWork_within ..) rfl
        with_reducible assumption
      · dsimp -zeta only
        refine Within.step ?_ (tellTwin_within ..) rfl
        refine Within.step ?_ (failSalvo_within ..) rfl
        with_reducible assumption

def Parts.salvoLost : List Part := [0x2010, 0x3020, 0x3810, Part.host, 0x6048, Part.xp, 0x2008, Part.cm, Part.au, Part.ev, Part.clk, 0x7820, 0x7808, Part.sys, 0x7810, 0x2020, Part.fresh]
theorem salvoLost_within (s : State) (n : Nat) (d : Nat) : Within Parts.salvoLost s (State.salvoLost s n d) := by
  have h0 : Within Parts.salvoLost s s := .refl
  unfold State.salvoLost
  extract_lets +onlyGivenNames -merge a0
  clear_value a0
  split
  · refine Within.foldl ?_ ?_
    · with_reducible assumption
    · intro x1 x2 x3
      refine Within.step ?_ (memberEnded_within ..) rfl
      refine Within.step ?_ (finish_within ..) rfl
      with_reducible assumption
  · refine Within.step ?_ (failSalvo_within ..) rfl
    with_reducible assumption

def Parts.settleIsolated : List Part := [Part.al, 0x2864, 0x6048, Part.host, Part.ev, Part.clk, 0x7820, 0x7808, Part.sys, 0x7810, 0x2010, 0x3020, 0x3810, Part.xp, 0x2008, Part.cm, Part.au, 0x2020, Part.fresh]
theorem settleIsolated_within (s : State) : Within Parts.settleIsolated s (State.settleIsolated s) := by
  have h0 : Within Parts.settleIsolated s s := .refl
  unfold State.settleIsolated
  refine Within.foldl ?_ ?_
  · with_reducible assumption
  · intro x0 x1 x2
    extract_lets +onlyGivenNames -merge a3
    clear_value a3
    extract_lets +onlyGivenNames -merge a4
    have h5 : Within Parts.settleIsolated s a4 := by
      unfold a4
      refine Within.foldl ?_ ?_
      · with_reducible assumption
      · intro x6 x7 x8
        split
        · with_reducible assumption
        · refine Within.step ?_ (sourceLost_within ..) rfl
          with_reducible assumption
    clear_value a4
    split
    · with_reducible assumption
    · extract_lets +onlyGivenNames -merge a9
      clear_value a9
      extract_lets +onlyGivenNames -merge a10
      have h11 : Within Parts.settleIsolated s a10 := by
        unfold a10
        refine Within.foldl ?_ ?_
        · with_reducible assumption
        · intro x12 x13 x14
          refine Within.step ?_ (salvoLost_within ..) rfl
          with_reducible assumption
      clear_value a10
      refine Within.foldl ?_ ?_
      · with_reducible assumption
      · intro x15 x16 x17
        refine Within.step ?_ (finish_within ..) rfl
        with_reducible assumption

def Parts.takeCommit : List Part := [Part.au, 0x3020, 0x2009, Part.xp, 0x2010, 0x3810, 0x2020, Part.fresh, Part.host, 0x6048, 0x2008, Part.cm, Part.ev, Part.clk, 0x7820, 0x7808, Part.sys, 0x7810, Part.tw]
theorem takeCommit_within (s : State) (ctx : Nat) (e : Nat) (w0 : W) (w1 : W) : Within Parts.takeCommit s (State.takeCommit s ctx e w0 w1).2 := by
  have h0 : Within Parts.takeCommit s s := .refl
  unfold State.takeCommit
  extract_lets +onlyGivenNames -merge a0
  extract_lets +onlyGivenNames -merge a1
  clear_value a1
  extract_lets +onlyGivenNames -merge a2
  clear_value a2
  refine commitWork_within rfl ?_ ?_
  · with_reducible assumption
  · intro x3 x4 x5
    split
    · rename_i m6_0 m6_1 m6_2
      have h7 : Within Parts.takeCommit s m6_1 := by
        refine OptWithin.get ?_ m6_2
        refine OptWithin.step ?_ (reserveFor_within ..) rfl
        with_reducible assumption
      refine ExcWithin.ok ?_
      with_reducible assumption
    · exact ExcWithin.error

end Sys2Proof.Machine
end

