-- ==== Sys2Proof/Laws/WithinTransport.lean ====
section
/-! SUPPORT. What the operations of Machine/Transport.lean may change: for each the parts of the state, and that it keeps to them. -/
namespace Sys2Proof.Machine

def Parts.dropFlows : List Part := [Part.mx]
theorem dropFlows_within (s : State) (ports : List Nat) : Within Parts.dropFlows s (State.dropFlows s ports) := by
  have h0 : Within Parts.dropFlows s s := .refl
  unfold State.dropFlows
  refine Within.step ?_ (set_mx_within ..) rfl
  with_reducible assumption

def Parts.setLink : List Part := [0x4870, 0x6048, Part.host]
theorem setLink_within (s : State) (dst : Bool) (p : Nat) (n : Nat) : Within Parts.setLink s (State.setLink s dst p n) := by
  have h0 : Within Parts.setLink s s := .refl
  unfold State.setLink
  refine Within.step ?_ (setNotify_within ..) rfl
  with_reducible assumption

def Parts.fitTransport : List Part := [0x4870, 0x6048, Part.host, Part.al, 0x2864, Part.ev, Part.clk, 0x7820, 0x7808, Part.sys, 0x7810]
theorem fitTransport_within (s : State) (dst : Bool) (p : Nat) : Within Parts.fitTransport s (State.fitTransport s dst p).1 := by
  have h0 : Within Parts.fitTransport s s := .refl
  unfold State.fitTransport
  extract_lets +onlyGivenNames -merge a0
  clear_value a0
  split
  · dsimp -zeta only
    refine Within.step ?_ (setLink_within ..) rfl
    with_reducible assumption
  · split
    · extract_lets +onlyGivenNames -merge a1
      have h2 : Within Parts.fitTransport s a1 := by
        unfold a1
        refine Within.step ?_ (setLink_within ..) rfl
        with_reducible assumption
      clear_value a1
      dsimp -zeta only
      split
      · with_reducible assumption
      · refine Within.step ?_ (sourceLost_within ..) rfl
        with_reducible assumption
    · split
      · dsimp -zeta only
        refine Within.step ?_ (setLink_within ..) rfl
        with_reducible assumption
      · dsimp -zeta only
        split
        · refine Within.step ?_ (setLink_within ..) rfl
          with_reducible assumption
        · with_reducible assumption

def Parts.fitTransports : List Part := [0x4870, 0x6048, Part.host, Part.al, 0x2864, Part.ev, Part.clk, 0x7820, 0x7808, Part.sys, 0x7810]
theorem fitTransports_within (s : State) : Within Parts.fitTransports s (State.fitTransports s) := by
  have h0 : Within Parts.fitTransports s s := .refl
  unfold State.fitTransports
  extract_lets +onlyGivenNames -merge a0
  have h1 : ∀ y0 y1 y2, (Within Parts.fitTransports s y1.1) → Within Parts.fitTransports s (a0 y0 y1 y2).1 := by
    intro x2 x3 x4 hx5
    unfold a0
    extract_lets +onlyGivenNames -merge a6
    have h7 : Within Parts.fitTransports s a6.1 := by
      unfold a6
      refine Within.step ?_ (fitTransport_within ..) rfl
      with_reducible assumption
    clear_value a6
    with_reducible assumption
  clear_value a0
  extract_lets +onlyGivenNames -merge a8
  clear_value a8
  extract_lets +onlyGivenNames -merge a9
  clear_value a9
  extract_lets +onlyGivenNames -merge a10
  clear_value a10
  extract_lets +onlyGivenNames -merge a11
  have h12 : Within Parts.fitTransports s a11.1 := by
    unfold a11
    refine Within.foldl_fst ?_ ?_
    · refine Within.foldl_fst ?_ ?_
      · with_reducible assumption
      · intro x13 x14 x15
        apply h1
        with_reducible assumption
    · intro x16 x17 x18
      apply h1
      with_reducible assumption
  clear_value a11
  split
  · with_reducible assumption
  · refine Within.step ?_ (note_within ..) rfl
    with_reducible assumption

def Parts.setAncRun : List Part := [Part.mx]
theorem setAncRun_within (s : State) (x : AncRun) : Within Parts.setAncRun s (State.setAncRun s x) := by
  have h0 : Within Parts.setAncRun s s := .refl
  unfold State.setAncRun
  refine Within.step ?_ (set_mx_within ..) rfl
  with_reducible assumption

end Sys2Proof.Machine
end

