-- ==== Sys2Proof/Laws/WithinSwitching.lean ====
section
/-! SUPPORT. What the operations of Machine/Switching.lean may change: for each the parts of the state, and that it keeps to them. -/
namespace Sys2Proof.Machine

def Parts.parkFrom : List Part := [Part.xp, Part.ev, Part.host, Part.clk, 0x7820, 0x6048, 0x7808, Part.sys, 0x7810]
theorem parkFrom_within (s : State) (q : Nat) : Within Parts.parkFrom s (State.parkFrom s q) := by
  have h0 : Within Parts.parkFrom s s := .refl
  unfold State.parkFrom
  extract_lets +onlyGivenNames -merge a0
  clear_value a0
  extract_lets +onlyGivenNames -merge a1
  extract_lets +onlyGivenNames -merge a2
  have h3 : Within Parts.parkFrom s a2 := by
    unfold a2
    refine Within.foldl ?_ ?_
    · with_reducible assumption
    · intro x4 x5 x6
      refine Within.step ?_ (setDest_within ..) rfl
      with_reducible assumption
  clear_value a2
  split
  · with_reducible assumption
  · refine Within.step ?_ (note_within ..) rfl
    with_reducible assumption

def Parts.publish : List Part := [Part.ev, Part.lk, 0x1028, Part.save, 0x2848, Part.host, 0x6048, Part.ic, 0x6820, Part.al, 0x2864, Part.au, 0x2860, Part.clk, 0x7820, 0x7808, Part.sys, 0x7810, 0x3060, 0x4870, Part.mx, 0x3020, 0x2010, 0x3810, Part.xp, 0x2008, Part.cm, 0x2020, Part.tw, Part.fresh, 0x3820, 0x2810, 0x2818, 0x4818, 0x4820]
theorem publishRegs_within (s : State) (v : LkState) :
    Within [0x2810, 0x2818, 0x4818, 0x4820, Part.lk] s { s with regs := takeOver swapped s.regs s.shadow, lk := v } := by
  refine ⟨⟨fun k h => ?_, fun _ => rfl, fun _ => rfl, fun _ => rfl, fun _ => rfl, fun _ => rfl, fun _ => rfl, fun _ => rfl,
    fun _ => rfl, fun _ => rfl, fun _ => rfl, fun _ => rfl, fun _ => rfl, fun _ => rfl, fun _ => rfl, fun h => Bool.noConfusion h,
    fun _ => rfl, fun _ => rfl, fun _ => rfl, fun _ => rfl, fun _ => rfl⟩, rfl, rfl, fun c => ⟨tableWf_takeOver _ c.1, c.2⟩⟩
  refine tget_takeOver_other s.regs s.shadow ?_
  simp [takesIn] at h
  simp [swapped, h]

theorem publish_within (s : State) : Within Parts.publish s s.publish := by
  have h0 : Within Parts.publish s s := .refl
  unfold State.publish
  extract_lets +onlyGivenNames -merge before src dst a
  have ha : Within Parts.publish s a := h0.step (withEv_within ..) rfl
  extract_lets +onlyGivenNames -merge old moved
  extract_lets +onlyGivenNames -merge lk0 b
  have hb : Within Parts.publish s b := ha.step (publishRegs_within ..) rfl
  extract_lets +onlyGivenNames -merge c
  have hc : Within Parts.publish s c := by
    unfold c
    split
    · exact hb
    · exact hb.step (markDirty_within ..) rfl
  clear_value c
  extract_lets +onlyGivenNames -merge c2
  have hc2 : Within Parts.publish s c2 := hc.step (withSave_within ..) rfl
  clear_value c2
  extract_lets +onlyGivenNames -merge d
  have hd : Within Parts.publish s d := hc2.step (setFld_within ..) rfl
  clear_value d
  extract_lets +onlyGivenNames -merge e
  have he : Within Parts.publish s e := hd.step (setCal_within ..) rfl
  clear_value e
  extract_lets +onlyGivenNames -merge f
  have hf : Within Parts.publish s f := by
    unfold f
    split
    · exact he.step (setPlacement_within ..) rfl
    · exact he
  clear_value f
  extract_lets +onlyGivenNames -merge g
  have hg : Within Parts.publish s g := hf.foldl fun t x ht => ht.step (alignPort_within ..) rfl
  clear_value g
  extract_lets +onlyGivenNames -merge i
  have hi : Within Parts.publish s i :=
    ((hg.step (fitAll_within ..) rfl).step (fitTransports_within ..) rfl).step (dropFlows_within ..) rfl
  clear_value i
  extract_lets +onlyGivenNames -merge j
  have hj : Within Parts.publish s j := by
    refine hi.foldl fun t x ht => ?_
    split
    · exact ht
    · exact ht.step (unreserve_within ..) rfl
  clear_value j
  extract_lets +onlyGivenNames -merge k
  have hk : Within Parts.publish s k := by
    refine hj.foldl fun t x ht => ?_
    split
    · exact ht.step (recheckPending_within ..) rfl
    · exact ht
  clear_value k
  extract_lets +onlyGivenNames -merge k2
  have hk2 : Within Parts.publish s k2 := hk.foldl fun t x ht => ht.step (remakeImages_within ..) rfl
  clear_value k2
  extract_lets +onlyGivenNames -merge l
  have hl : Within Parts.publish s l := hk2.step (releaseAll_within ..) rfl
  clear_value l
  extract_lets +onlyGivenNames -merge m
  have hm : Within Parts.publish s m := hl.foldl fun t x ht => ht.step (parkFrom_within ..) rfl
  clear_value m
  exact (hm.step (auPublish_within ..) rfl).step (cmPublish_within ..) rfl


def Parts.calendarPublish : List Part := [Part.clk, Part.ev, Part.lk, 0x1028, Part.save, 0x2848, Part.host, 0x6048, Part.ic, 0x6820, Part.al, 0x2864, Part.au, 0x2860, 0x7820, 0x7808, Part.sys, 0x7810, 0x3060, 0x4870, Part.mx, 0x3020, 0x2010, 0x3810, Part.xp, 0x2008, Part.cm, 0x2020, Part.tw, Part.fresh, 0x3820, 0x2810, 0x2818, 0x4818, 0x4820]
theorem calendarPublish_within (s : State) : Within Parts.calendarPublish s (State.calendarPublish s) := by
  have h0 : Within Parts.calendarPublish s s := .refl
  unfold State.calendarPublish
  split
  · with_reducible assumption
  · refine Within.step ?_ (publish_within ..) rfl
    refine Within.step ?_ (waitHouse_within ..) rfl
    with_reducible assumption

def Parts.destLine : List Part := [Part.xp, Part.cm, 0x3820, 0x6048, Part.host, Part.al, Part.ev, Part.clk, 0x7820, 0x7808, Part.sys, 0x7810, Part.tw]
theorem destLine_within (s : State) (p : Nat) (n : Nat) (f : Format) : Within Parts.destLine s (State.destLine s p n f) := by
  have h0 : Within Parts.destLine s s := .refl
  unfold State.destLine
  extract_lets +onlyGivenNames -merge a0
  clear_value a0
  extract_lets +onlyGivenNames -merge a1
  have h2 : Within Parts.destLine s a1 := by
    unfold a1
    refine Within.step ?_ (setDest_within ..) rfl
    with_reducible assumption
  clear_value a1
  split
  · split
    · refine Within.step ?_ (headFrame_within ..) rfl
      with_reducible assumption
    · with_reducible assumption
  · with_reducible assumption

def Parts.flattenDone : List Part := [0x3810, 0x2010, 0x3020, Part.host, 0x6048, Part.xp, 0x2008, Part.cm, Part.au, Part.ev, Part.clk, 0x7820, 0x7808, Part.sys, 0x7810, Part.fresh, Part.tw, 0x2020]
theorem flattenDone_within (s : State) (h : Nat) (good : Bool) : Within Parts.flattenDone s (State.flattenDone s h good) := by
  have h0 : Within Parts.flattenDone s s := .refl
  unfold State.flattenDone
  split
  · with_reducible assumption
  · split
    · refine Within.step ?_ (releaseAll_within ..) rfl
      refine Within.step ?_ (setFld_within ..) rfl
      with_reducible assumption
    · extract_lets +onlyGivenNames -merge a0
      have h1 : Within Parts.flattenDone s a0 := by
        unfold a0
        refine Within.step ?_ (setFld_within ..) rfl
        with_reducible assumption
      clear_value a0
      split
      · with_reducible assumption
      · split
        · with_reducible assumption
        · split
          · refine Within.step ?_ (tellTwin_within ..) rfl
            refine Within.step ?_ (finish_within ..) rfl
            with_reducible assumption
          · split
            · refine Within.step ?_ (tellTwin_within ..) rfl
              refine Within.step ?_ (failOn_within ..) rfl
              with_reducible assumption
            · refine Within.step ?_ (tellTwin_within ..) rfl
              refine Within.step ?_ (fail_within ..) rfl
              refine Within.step ?_ (unstage_within ..) rfl
              with_reducible assumption

def Parts.holdDeadline : List Part := [Part.clk, Part.fresh, 0x2010, 0x3020, 0x3810, Part.host, 0x6048, Part.xp, 0x2008, Part.cm, Part.au, Part.ev, 0x7820, 0x7808, Part.sys, 0x7810, 0x2020, Part.tw]
theorem holdDeadline_within (s : State) (k : MemberKind) (e : Nat) : Within Parts.holdDeadline s (State.holdDeadline s k e) := by
  have h0 : Within Parts.holdDeadline s s := .refl
  unfold State.holdDeadline
  split
  · with_reducible assumption
  · split
    · split
      · extract_lets +onlyGivenNames -merge a0
        clear_value a0
        extract_lets +onlyGivenNames -merge a1
        have h2 : Within Parts.holdDeadline s a1 := by
          unfold a1
          refine Within.step ?_ (waitHouse_within ..) rfl
          with_reducible assumption
        clear_value a1
        refine Within.step ?_ (tellTwin_within ..) rfl
        refine Within.step ?_ (salvoRebuild_within ..) rfl
        with_reducible assumption
      · with_reducible assumption
    · split
      · with_reducible assumption
      · split
        · refine Within.step ?_ (tellTwin_within ..) rfl
          refine Within.step ?_ (finish_within ..) rfl
          refine Within.step ?_ (waitHouse_within ..) rfl
          with_reducible assumption
        · with_reducible assumption

def Parts.swapOne : List Part := [Part.xp, Part.au, 0x3020]
theorem swapOne_within (s : State) (x : Work) (n : Nat) (cnt : Nat) (t0 : Nat) (p : Nat) : Within Parts.swapOne s (State.swapOne s x n cnt t0 p) := by
  have h0 : Within Parts.swapOne s s := .refl
  unfold State.swapOne
  extract_lets +onlyGivenNames -merge a0
  clear_value a0
  extract_lets +onlyGivenNames -merge a1
  extract_lets +onlyGivenNames -merge a2
  extract_lets +onlyGivenNames -merge a3
  extract_lets +onlyGivenNames -merge a4
  have h5 : Within Parts.swapOne s a4 := by
    unfold a4
    refine Within.step ?_ (setDest_within ..) rfl
    with_reducible assumption
  clear_value a4
  split
  · refine Within.step ?_ (followMove_within ..) rfl
    refine Within.step ?_ (unreserve_within ..) rfl
    with_reducible assumption
  · split
    · refine Within.step ?_ (unreserve_within ..) rfl
      with_reducible assumption
    · extract_lets +onlyGivenNames -merge a6
      have h7 : Within Parts.swapOne s a6 := by
        unfold a6
        refine Within.step ?_ (setMaker_within ..) rfl
        with_reducible assumption
      clear_value a6
      refine Within.getD ?_ ?_
      · refine OptWithin.step ?_ (reserveAudio_within ..) rfl
        with_reducible assumption
      · with_reducible assumption

def Parts.landWork : List Part := [Part.xp, Part.au, 0x3020, 0x3810, 0x3820, Part.cm, 0x6048, Part.host, Part.al, Part.ev, Part.clk, 0x7820, 0x7808, Part.sys, 0x7810, 0x2010, 0x2008, 0x2020]
theorem landWork_within (s : State) (x : Work) (n : Nat) (cnt : Nat) (t0 : Nat) : Within Parts.landWork s (State.landWork s x n cnt t0) := by
  have h0 : Within Parts.landWork s s := .refl
  unfold State.landWork
  extract_lets +onlyGivenNames -merge a0
  have h1 : Within Parts.landWork s a0 := by
    unfold a0
    refine Within.step ?_ (startTrans_within ..) rfl
    with_reducible assumption
  clear_value a0
  extract_lets +onlyGivenNames -merge a2
  have h3 : Within Parts.landWork s a2 := by
    unfold a2
    split
    · refine Within.foldl ?_ ?_
      · with_reducible assumption
      · intro x4 x5 x6
        refine Within.step ?_ (swapOne_within ..) rfl
        with_reducible assumption
    · refine Within.step ?_ (setFld_within ..) rfl
      with_reducible assumption
    · refine Within.step ?_ (landHead_within ..) rfl
      with_reducible assumption
    · with_reducible assumption
  clear_value a2
  extract_lets +onlyGivenNames -merge a7
  refine Within.step ?_ (memberEnded_within ..) rfl
  refine Within.step ?_ (finish_within ..) rfl
  with_reducible assumption

def Parts.rebuildDone : List Part := [0x2848, Part.host, 0x6048, 0x2010, 0x3020, 0x3810, Part.xp, 0x2008, Part.cm, Part.au, Part.ev, Part.clk, 0x7820, 0x7808, Part.sys, 0x7810, Part.tw, Part.fresh, 0x2020]
theorem rebuildDone_within (s : State) : Within Parts.rebuildDone s (State.rebuildDone s) := by
  have h0 : Within Parts.rebuildDone s s := .refl
  unfold State.rebuildDone
  split
  · with_reducible assumption
  · split
    · refine Within.step ?_ (rebuildGone_within ..) rfl
      refine Within.step ?_ (calFailed_within ..) rfl
      with_reducible assumption
    · refine Within.step ?_ (setCal_within ..) rfl
      with_reducible assumption

def Parts.salvoTimeout : List Part := [Part.clk, Part.fresh, 0x2010, 0x3020, 0x3810, Part.host, 0x6048, Part.xp, 0x2008, Part.cm, Part.au, Part.ev, 0x7820, 0x7808, Part.sys, 0x7810, 0x2020, Part.tw]
theorem salvoTimeout_within (s : State) (n : Nat) : Within Parts.salvoTimeout s (State.salvoTimeout s n) := by
  have h0 : Within Parts.salvoTimeout s s := .refl
  unfold State.salvoTimeout
  split
  · extract_lets +onlyGivenNames -merge a0
    have h1 : Within Parts.salvoTimeout s a0 := by
      unfold a0
      refine Within.step ?_ (waitUntil_within ..) rfl
      with_reducible assumption
    clear_value a0
    refine Within.step ?_ (tellTwin_within ..) rfl
    refine Within.step ?_ (failSalvo_within ..) rfl
    with_reducible assumption
  · with_reducible assumption

def Parts.switchLine : List Part := [Part.clk, Part.xp, Part.au, 0x3020, 0x3810, 0x3820, Part.cm, 0x6048, Part.host, Part.al, Part.ev, 0x7820, 0x7808, Part.sys, 0x7810, 0x2010, 0x2008, 0x2020, Part.mx, Part.tw]
theorem switchLine_within (s : State) (p : Nat) : Within Parts.switchLine s (State.switchLine s p) := by
  have h0 : Within Parts.switchLine s s := .refl
  unfold State.switchLine
  split
  · with_reducible assumption
  · extract_lets +onlyGivenNames -merge a0
    extract_lets +onlyGivenNames -merge a1
    extract_lets +onlyGivenNames -merge a2
    have h3 : Within Parts.switchLine s a2 := by
      unfold a2
      refine Within.step ?_ (waitHouse_within ..) rfl
      with_reducible assumption
    clear_value a2
    extract_lets +onlyGivenNames -merge a4
    extract_lets +onlyGivenNames -merge a5
    clear_value a5
    extract_lets +onlyGivenNames -merge a6
    have h7 : Within Parts.switchLine s a6 := by
      unfold a6
      refine Within.step ?_ (set_xp_within ..) rfl
      with_reducible assumption
    clear_value a6
    extract_lets +onlyGivenNames -merge a8
    have h9 : Within Parts.switchLine s a8 := by
      unfold a8
      refine Within.foldl ?_ ?_
      · with_reducible assumption
      · intro x10 x11 x12
        refine Within.step ?_ (landWork_within ..) rfl
        with_reducible assumption
    clear_value a8
    extract_lets +onlyGivenNames -merge a13
    have h14 : Within Parts.switchLine s a13 := by
      unfold a13
      refine Within.step ?_ (endGrace_within ..) rfl
      with_reducible assumption
    clear_value a13
    split
    · with_reducible assumption
    · extract_lets +onlyGivenNames -merge a15
      clear_value a15
      extract_lets +onlyGivenNames -merge a16
      have h17 : Within Parts.switchLine s a16 := by
        unfold a16
        split
        · refine Within.step ?_ (setAncRun_within ..) rfl
          with_reducible assumption
        · with_reducible assumption
      clear_value a16
      refine Within.step ?_ (destLine_within ..) rfl
      with_reducible assumption

def Parts.execAuDstTargetWrite : List Part := [0x3020, Part.fresh, 0x1028, Part.save, Part.au, Part.tw, 0x2009, Part.shadow, 0x6040, 0x6048, 0x7808, 0x7810, 0x7820, Part.clk, Part.sys, Part.host, Part.ev, Part.pw]
theorem execAuDstTargetWrite_within (rq : Req) (e : Nat) (v : W) (s : State) : ExecWithin Parts.execAuDstTargetWrite s (execAuDstTargetWrite rq e v s) := by
  have h0 : Within Parts.execAuDstTargetWrite s s := .refl
  unfold execAuDstTargetWrite
  extract_lets +onlyGivenNames -merge a0
  have h1 : PutWithin Parts.execAuDstTargetWrite a0 := by
    unfold a0
    exact PutWithin.step (putAuDst1_within ..) rfl
  clear_value a0
  refine ⟨_, rfl, ?_⟩
  refine request_within rfl ?_ ?_
  · with_reducible assumption
  · with_reducible assumption

def Parts.execAuGainWrite : List Part := [0x3028, Part.fresh, 0x1028, Part.save, Part.au, Part.tw, 0x2009, Part.shadow, 0x6040, 0x6048, 0x7808, 0x7810, 0x7820, Part.clk, Part.sys, Part.host, Part.ev, Part.pw]
theorem execAuGainWrite_within (rq : Req) (e : Nat) (v : W) (s : State) : ExecWithin Parts.execAuGainWrite s (execAuGainWrite rq e v s) := by
  have h0 : Within Parts.execAuGainWrite s s := .refl
  unfold execAuGainWrite
  extract_lets +onlyGivenNames -merge a0
  have h1 : PutWithin Parts.execAuGainWrite a0 := by
    unfold a0
    exact PutWithin.step (putAuGain_within ..) rfl
  clear_value a0
  refine ⟨_, rfl, ?_⟩
  refine request_within rfl ?_ ?_
  · with_reducible assumption
  · with_reducible assumption

def Parts.execAuSrcWrite : List Part := [0x3010, 0x1028, Part.save, Part.shadow, 0x6040, 0x6048, 0x7808, 0x7810, 0x7820, Part.clk, Part.sys, Part.host, Part.ev, Part.pw]
theorem execAuSrcWrite_within (rq : Req) (e : Nat) (v : W) (s : State) : ExecWithin Parts.execAuSrcWrite s (execAuSrcWrite rq e v s) := by
  have h0 : Within Parts.execAuSrcWrite s s := .refl
  unfold execAuSrcWrite
  extract_lets +onlyGivenNames -merge a0
  have h1 : PutWithin Parts.execAuSrcWrite a0 := by
    unfold a0
    exact PutWithin.step (putAuSrc_within ..) rfl
  clear_value a0
  refine ⟨_, rfl, ?_⟩
  refine request_within rfl ?_ ?_
  · with_reducible assumption
  · with_reducible assumption

def Parts.putAuDst0 : List Part := [0x3020, 0x2009, Part.xp, 0x2010, 0x3810, 0x2020, Part.fresh, Part.host, 0x6048, 0x2008, Part.cm, Part.au, Part.ev, Part.clk, 0x7820, 0x7808, Part.sys, 0x7810, Part.tw]
theorem putAuDst0_within (s : State) (rq : Req) (e : Nat) (w0 : W) : PutWithin Parts.putAuDst0 (putAuDst0 s rq e w0) := by
  have h0 : Within Parts.putAuDst0 s s := .refl
  unfold putAuDst0
  extract_lets +onlyGivenNames -merge a0
  extract_lets +onlyGivenNames -merge a1
  refine ⟨rfl, fun s0 => ?_⟩
  dsimp -zeta only
  have h00 : Within Parts.putAuDst0 s0 s0 := .refl
  refine commitHere_within rfl ?_ ?_
  · with_reducible assumption
  · intro x2 x3
    split
    · refine Within.step ?_ (audioCommit_within ..) rfl
      with_reducible assumption
    · refine Within.step ?_ (cancelWork_within ..) rfl
      with_reducible assumption

def Parts.execAudioChangeCancel : List Part := [0x3020, 0x2009, Part.xp, 0x2010, 0x3810, 0x2020, Part.fresh, Part.host, 0x6048, 0x2008, Part.cm, Part.au, Part.ev, Part.clk, 0x7820, 0x7808, Part.sys, 0x7810, Part.tw, 0x1028, Part.save, Part.shadow, 0x6040, Part.pw]
theorem execAudioChangeCancel_within (rq : Req) (e : Nat) (w0 : W) (s : State) : ExecWithin Parts.execAudioChangeCancel s (execAudioChangeCancel rq e w0 s) := by
  have h0 : Within Parts.execAudioChangeCancel s s := .refl
  unfold execAudioChangeCancel
  extract_lets +onlyGivenNames -merge a0
  have h1 : PutWithin Parts.execAudioChangeCancel a0 := by
    unfold a0
    exact PutWithin.step (putAuDst0_within ..) rfl
  clear_value a0
  refine ⟨_, rfl, ?_⟩
  refine request_within rfl ?_ ?_
  · with_reducible assumption
  · with_reducible assumption

def Parts.execAudioChangeCommit : List Part := [0x3020, 0x2009, Part.xp, 0x2010, 0x3810, 0x2020, Part.fresh, Part.host, 0x6048, 0x2008, Part.cm, Part.au, Part.ev, Part.clk, 0x7820, 0x7808, Part.sys, 0x7810, Part.tw, 0x1028, Part.save, Part.shadow, 0x6040, Part.pw]
theorem execAudioChangeCommit_within (rq : Req) (e : Nat) (w0 : W) (s : State) : ExecWithin Parts.execAudioChangeCommit s (execAudioChangeCommit rq e w0 s) := by
  have h0 : Within Parts.execAudioChangeCommit s s := .refl
  unfold execAudioChangeCommit
  extract_lets +onlyGivenNames -merge a0
  have h1 : PutWithin Parts.execAudioChangeCommit a0 := by
    unfold a0
    exact PutWithin.step (putAuDst0_within ..) rfl
  clear_value a0
  refine ⟨_, rfl, ?_⟩
  refine request_within rfl ?_ ?_
  · with_reducible assumption
  · with_reducible assumption

def Parts.execAudioTransitionTimeout : List Part := [Part.clk, Part.au]
theorem execAudioTransitionTimeout_within (id : Nat) (s : State) : ExecWithin Parts.execAudioTransitionTimeout s (execAudioTransitionTimeout id s) := by
  have h0 : Within Parts.execAudioTransitionTimeout s s := .refl
  unfold execAudioTransitionTimeout
  refine ⟨_, rfl, ?_⟩
  refine whileRunning_within  ?_ ?_
  · with_reducible assumption
  · intro x0 x1
    refine Within.step ?_ (transTimeout_within ..) rfl
    with_reducible assumption

def Parts.putCal : List Part := [0x2848, Part.lk, Part.host, 0x6048, Part.shadow, 0x2010, 0x3020, 0x3810, Part.xp, 0x2008, Part.cm, Part.au, Part.ev, Part.clk, 0x7820, 0x7808, Part.sys, 0x7810, Part.tw, Part.fresh, 0x2020]
theorem putCal_within (v : W) : PutWithin Parts.putCal (putCal v) := by
  unfold putCal
  refine ⟨rfl, fun s0 => ?_⟩
  dsimp -zeta only
  have h00 : Within Parts.putCal s0 s0 := .refl
  extract_lets +onlyGivenNames -merge a0
  split
  · split
    · split
      · with_reducible assumption
      · dsimp -zeta only
        refine Within.step ?_ (setCal_within ..) rfl
        refine Within.step ?_ (set_lk_within ..) rfl
        with_reducible assumption
    · with_reducible assumption
  · split
    · with_reducible assumption
    · dsimp -zeta only
      refine Within.step ?_ (rebuildGone_within ..) rfl
      refine Within.step ?_ (setCal_within ..) rfl
      refine Within.step ?_ (set_shadow_takeOver_within ..) rfl
      with_reducible assumption

def Parts.execCalAbandon : List Part := [0x2848, Part.lk, Part.host, 0x6048, Part.shadow, 0x2010, 0x3020, 0x3810, Part.xp, 0x2008, Part.cm, Part.au, Part.ev, Part.clk, 0x7820, 0x7808, Part.sys, 0x7810, Part.tw, Part.fresh, 0x2020, 0x1028, Part.save, 0x6040, Part.pw]
theorem execCalAbandon_within (rq : Req) (s : State) : ExecWithin Parts.execCalAbandon s (execCalAbandon rq s) := by
  have h0 : Within Parts.execCalAbandon s s := .refl
  unfold execCalAbandon
  extract_lets +onlyGivenNames -merge a0
  have h1 : PutWithin Parts.execCalAbandon a0 := by
    unfold a0
    exact PutWithin.step (putCal_within ..) rfl
  clear_value a0
  refine ⟨_, rfl, ?_⟩
  refine request_within rfl ?_ ?_
  · with_reducible assumption
  · with_reducible assumption

def Parts.execCalCommit : List Part := [0x2848, Part.lk, Part.host, 0x6048, Part.shadow, 0x2010, 0x3020, 0x3810, Part.xp, 0x2008, Part.cm, Part.au, Part.ev, Part.clk, 0x7820, 0x7808, Part.sys, 0x7810, Part.tw, Part.fresh, 0x2020, 0x1028, Part.save, 0x6040, Part.pw]
theorem execCalCommit_within (rq : Req) (s : State) : ExecWithin Parts.execCalCommit s (execCalCommit rq s) := by
  have h0 : Within Parts.execCalCommit s s := .refl
  unfold execCalCommit
  extract_lets +onlyGivenNames -merge a0
  have h1 : PutWithin Parts.execCalCommit a0 := by
    unfold a0
    exact PutWithin.step (putCal_within ..) rfl
  clear_value a0
  refine ⟨_, rfl, ?_⟩
  refine request_within rfl ?_ ?_
  · with_reducible assumption
  · with_reducible assumption

def Parts.execCalendarPublish : List Part := [Part.clk, Part.ev, Part.lk, 0x1028, Part.save, 0x2848, Part.host, 0x6048, Part.ic, 0x6820, Part.al, 0x2864, Part.au, 0x2860, 0x7820, 0x7808, Part.sys, 0x7810, 0x3060, 0x4870, Part.mx, 0x3020, 0x2010, 0x3810, Part.xp, 0x2008, Part.cm, 0x2020, Part.tw, Part.fresh, 0x3820, 0x2810, 0x2818, 0x4818, 0x4820]
theorem execCalendarPublish_within (s : State) : ExecWithin Parts.execCalendarPublish s (execCalendarPublish s) := by
  have h0 : Within Parts.execCalendarPublish s s := .refl
  unfold execCalendarPublish
  refine ⟨_, rfl, ?_⟩
  refine Within.step ?_ (calendarPublish_within ..) rfl
  with_reducible assumption

def Parts.execCmImageWrite : List Part := [0x3830, 0x1028, Part.save, Part.shadow, 0x6040, 0x6048, 0x7808, 0x7810, 0x7820, Part.clk, Part.sys, Part.host, Part.ev, Part.pw]
theorem execCmImageWrite_within (rq : Req) (e : Nat) (v : W) (s : State) : ExecWithin Parts.execCmImageWrite s (execCmImageWrite rq e v s) := by
  have h0 : Within Parts.execCmImageWrite s s := .refl
  unfold execCmImageWrite
  extract_lets +onlyGivenNames -merge a0
  have h1 : PutWithin Parts.execCmImageWrite a0 := by
    unfold a0
    exact PutWithin.step (putImage_within ..) rfl
  clear_value a0
  refine ⟨_, rfl, ?_⟩
  refine request_within rfl ?_ ?_
  · with_reducible assumption
  · with_reducible assumption

def Parts.execCmLayerWrite : List Part := [0x3820, 0x2009, Part.shadow, 0x1028, Part.save, 0x6040, 0x6048, 0x7808, 0x7810, 0x7820, Part.clk, Part.sys, Part.host, Part.ev, Part.pw]
theorem execCmLayerWrite_within (rq : Req) (e : Nat) (w : Nat) (v : W) (s : State) : ExecWithin Parts.execCmLayerWrite s (execCmLayerWrite rq e w v s) := by
  have h0 : Within Parts.execCmLayerWrite s s := .refl
  unfold execCmLayerWrite
  extract_lets +onlyGivenNames -merge a0
  have h1 : PutWithin Parts.execCmLayerWrite a0 := by
    unfold a0
    exact PutWithin.step (putLayer_within ..) rfl
  clear_value a0
  refine ⟨_, rfl, ?_⟩
  refine request_within rfl ?_ ?_
  · with_reducible assumption
  · with_reducible assumption

def Parts.execCmPaletteWrite : List Part := [0x3828, 0x1028, Part.save, Part.shadow, 0x6040, 0x6048, 0x7808, 0x7810, 0x7820, Part.clk, Part.sys, Part.host, Part.ev, Part.pw]
theorem execCmPaletteWrite_within (rq : Req) (e : Nat) (v : W) (s : State) : ExecWithin Parts.execCmPaletteWrite s (execCmPaletteWrite rq e v s) := by
  have h0 : Within Parts.execCmPaletteWrite s s := .refl
  unfold execCmPaletteWrite
  extract_lets +onlyGivenNames -merge a0
  have h1 : PutWithin Parts.execCmPaletteWrite a0 := by
    unfold a0
    exact PutWithin.step (putPalette_within ..) rfl
  clear_value a0
  refine ⟨_, rfl, ?_⟩
  refine request_within rfl ?_ ?_
  · with_reducible assumption
  · with_reducible assumption

def Parts.execCmPixelsWrite : List Part := [0x3838, 0x1028, Part.save, Part.shadow, 0x6040, 0x6048, 0x7808, 0x7810, 0x7820, Part.clk, Part.sys, Part.host, Part.ev, Part.pw]
theorem execCmPixelsWrite_within (rq : Req) (e : Nat) (v : W) (s : State) : ExecWithin Parts.execCmPixelsWrite s (execCmPixelsWrite rq e v s) := by
  have h0 : Within Parts.execCmPixelsWrite s s := .refl
  unfold execCmPixelsWrite
  extract_lets +onlyGivenNames -merge a0
  have h1 : PutWithin Parts.execCmPixelsWrite a0 := by
    unfold a0
    exact PutWithin.step (putPixels_within ..) rfl
  clear_value a0
  refine ⟨_, rfl, ?_⟩
  refine request_within rfl ?_ ?_
  · with_reducible assumption
  · with_reducible assumption

def Parts.execEsAlignWrite : List Part := [0x2860, 0x1028, Part.save, 0x3060, Part.mm, Part.al, Part.ev, Part.host, Part.clk, 0x7820, 0x6048, 0x7808, Part.sys, 0x7810, Part.shadow, 0x6040, Part.pw]
theorem execEsAlignWrite_within (rq : Req) (p : Nat) (v : W) (s : State) : ExecWithin Parts.execEsAlignWrite s (execEsAlignWrite rq p v s) := by
  have h0 : Within Parts.execEsAlignWrite s s := .refl
  unfold execEsAlignWrite
  extract_lets +onlyGivenNames -merge a0
  have h1 : PutWithin Parts.execEsAlignWrite a0 := by
    unfold a0
    exact PutWithin.step (putAlign_within ..) rfl
  clear_value a0
  refine ⟨_, rfl, ?_⟩
  refine request_within rfl ?_ ?_
  · with_reducible assumption
  · with_reducible assumption

def Parts.execFlattenDone : List Part := [0x3810, 0x2010, 0x3020, Part.host, 0x6048, Part.xp, 0x2008, Part.cm, Part.au, Part.ev, Part.clk, 0x7820, 0x7808, Part.sys, 0x7810, Part.fresh, Part.tw, 0x2020]
theorem execFlattenDone_within (h : Nat) (good : Bool) (s : State) : ExecWithin Parts.execFlattenDone s (execFlattenDone h good s) := by
  have h0 : Within Parts.execFlattenDone s s := .refl
  unfold execFlattenDone
  refine ⟨_, rfl, ?_⟩
  refine Within.step ?_ (flattenDone_within ..) rfl
  with_reducible assumption

def Parts.execFsyncAudioSlip : List Part := [Part.au, 0x2864, Part.tw]
theorem execFsyncAudioSlip_within (p : Nat) (rep : Bool) (s : State) : ExecWithin Parts.execFsyncAudioSlip s (execFsyncAudioSlip p rep s) := by
  have h0 : Within Parts.execFsyncAudioSlip s s := .refl
  unfold execFsyncAudioSlip
  refine ⟨_, rfl, ?_⟩
  refine whileRunning_within  ?_ ?_
  · with_reducible assumption
  · intro x0 x1
    refine Within.step ?_ (audioSlip_within ..) rfl
    with_reducible assumption

def Parts.execFsyncPictureEnd : List Part := [0x2864, Part.al, Part.tw]
theorem execFsyncPictureEnd_within (p : Nat) (missing : List Nat) (s : State) : ExecWithin Parts.execFsyncPictureEnd s (execFsyncPictureEnd p missing s) := by
  have h0 : Within Parts.execFsyncPictureEnd s s := .refl
  unfold execFsyncPictureEnd
  refine ⟨_, rfl, ?_⟩
  refine whileRunning_within  ?_ ?_
  · with_reducible assumption
  · intro x0 x1
    refine Within.step ?_ (storeEnd_within ..) rfl
    with_reducible assumption

def Parts.execFsyncReadInstant : List Part := [Part.clk, 0x2864, Part.al, 0x6048, Part.host, Part.au, Part.tw]
theorem execFsyncReadInstant_within (p : Nat) (s : State) : ExecWithin Parts.execFsyncReadInstant s (execFsyncReadInstant p s) := by
  have h0 : Within Parts.execFsyncReadInstant s s := .refl
  unfold execFsyncReadInstant
  refine ⟨_, rfl, ?_⟩
  refine whileRunning_within  ?_ ?_
  · with_reducible assumption
  · intro x0 x1
    refine Within.step ?_ (fsyncRead_within ..) rfl
    with_reducible assumption

def Parts.putHead0 : List Part := [0x3810, Part.cm, 0x2009, Part.xp, 0x2010, 0x3020, 0x2020, Part.fresh, Part.host, 0x6048, 0x2008, Part.au, Part.ev, Part.clk, 0x7820, 0x7808, Part.sys, 0x7810, Part.tw]
theorem putHead0_within (s : State) (rq : Req) (h : Nat) (w0 : W) : PutWithin Parts.putHead0 (putHead0 s rq h w0) := by
  have h0 : Within Parts.putHead0 s s := .refl
  unfold putHead0
  extract_lets +onlyGivenNames -merge a0
  extract_lets +onlyGivenNames -merge a1
  refine ⟨rfl, fun s0 => ?_⟩
  dsimp -zeta only
  have h00 : Within Parts.putHead0 s0 s0 := .refl
  refine commitHere_within rfl ?_ ?_
  · with_reducible assumption
  · intro x2 x3
    split
    · refine Within.step ?_ (headCommit_within ..) rfl
      with_reducible assumption
    · refine Within.step ?_ (cancelWork_within ..) rfl
      with_reducible assumption

def Parts.execHeadCancel : List Part := [0x3810, Part.cm, 0x2009, Part.xp, 0x2010, 0x3020, 0x2020, Part.fresh, Part.host, 0x6048, 0x2008, Part.au, Part.ev, Part.clk, 0x7820, 0x7808, Part.sys, 0x7810, Part.tw, 0x1028, Part.save, Part.shadow, 0x6040, Part.pw]
theorem execHeadCancel_within (rq : Req) (h : Nat) (w0 : W) (s : State) : ExecWithin Parts.execHeadCancel s (execHeadCancel rq h w0 s) := by
  have h0 : Within Parts.execHeadCancel s s := .refl
  unfold execHeadCancel
  extract_lets +onlyGivenNames -merge a0
  have h1 : PutWithin Parts.execHeadCancel a0 := by
    unfold a0
    exact PutWithin.step (putHead0_within ..) rfl
  clear_value a0
  refine ⟨_, rfl, ?_⟩
  refine request_within rfl ?_ ?_
  · with_reducible assumption
  · with_reducible assumption

def Parts.withWord1 : List Part := []
theorem withWord1_within {l : List Part} {a : HostWrite × (State → Status × State)} {commit : Bool} {old : W} {w1 : Option W}
    {b : W → HostWrite × (State → Status × State)} (_ : true = true) (ha : PutWithin l a) (hb : ∀ v, PutWithin l (b v)) :
    PutWithin l (withWord1 a commit old w1 b) := by
  unfold withWord1
  split
  · exact ha
  · rename_i v
    split
    · exact ha
    · refine ⟨ha.1, fun s => ?_⟩
      have h := (hb v).2 s
      dsimp only
      split
      · exact h.trans (ha.2 _)
      · exact h


def Parts.putHead : List Part := [0x3810, Part.shadow, 0x1028, Part.save, Part.cm, 0x2009, Part.xp, 0x2010, 0x3020, 0x2020, Part.fresh, Part.host, 0x6048, 0x2008, Part.au, Part.ev, Part.clk, 0x7820, 0x7808, Part.sys, 0x7810, Part.tw]
theorem putHead_within (s : State) (rq : Req) (h : Nat) (w0 : W) (w1 : Option W) : PutWithin Parts.putHead (putHead s rq h w0 w1) := by
  have h0 : Within Parts.putHead s s := .refl
  unfold putHead
  split
  · split
    · exact PutWithin.step (putHead1_within ..) rfl
    · refine ⟨rfl, fun s0 => ?_⟩
      dsimp -zeta only
      have h00 : Within Parts.putHead s0 s0 := .refl
      with_reducible assumption
  · refine withWord1_within rfl ?_ ?_
    · exact PutWithin.step (putHead0_within ..) rfl
    · intro x0
      exact PutWithin.step (putHead1_within ..) rfl

def Parts.execHeadCommit : List Part := [0x3810, Part.shadow, 0x1028, Part.save, Part.cm, 0x2009, Part.xp, 0x2010, 0x3020, 0x2020, Part.fresh, Part.host, 0x6048, 0x2008, Part.au, Part.ev, Part.clk, 0x7820, 0x7808, Part.sys, 0x7810, Part.tw, 0x6040, Part.pw]
theorem execHeadCommit_within (rq : Req) (h : Nat) (w0 : W) (w1 : W) (s : State) : ExecWithin Parts.execHeadCommit s (execHeadCommit rq h w0 w1 s) := by
  have h0 : Within Parts.execHeadCommit s s := .refl
  unfold execHeadCommit
  extract_lets +onlyGivenNames -merge a0
  have h1 : PutWithin Parts.execHeadCommit a0 := by
    unfold a0
    exact PutWithin.step (putHead_within ..) rfl
  clear_value a0
  refine ⟨_, rfl, ?_⟩
  refine request_within rfl ?_ ?_
  · with_reducible assumption
  · with_reducible assumption

def Parts.execHoldDeadline : List Part := [Part.clk, Part.fresh, 0x2010, 0x3020, 0x3810, Part.host, 0x6048, Part.xp, 0x2008, Part.cm, Part.au, Part.ev, 0x7820, 0x7808, Part.sys, 0x7810, 0x2020, Part.tw]
theorem execHoldDeadline_within (kind : MemberKind) (e : Nat) (s : State) : ExecWithin Parts.execHoldDeadline s (execHoldDeadline kind e s) := by
  have h0 : Within Parts.execHoldDeadline s s := .refl
  unfold execHoldDeadline
  refine ⟨_, rfl, ?_⟩
  refine Within.step ?_ (holdDeadline_within ..) rfl
  with_reducible assumption

def Parts.execLossholdExpire : List Part := [Part.al]
theorem execLossholdExpire_within (p : Nat) (s : State) : ExecWithin Parts.execLossholdExpire s (execLossholdExpire p s) := by
  have h0 : Within Parts.execLossholdExpire s s := .refl
  unfold execLossholdExpire
  refine ⟨_, rfl, ?_⟩
  refine whileRunning_within  ?_ ?_
  · with_reducible assumption
  · intro x0 x1
    refine Within.step ?_ (lossholdExpire_within ..) rfl
    with_reducible assumption

def Parts.execPortTableWrite : List Part := [0x2818, 0x2810, Part.shadow, 0x2848, 0x6048, Part.host, 0x1028, Part.save, 0x6040, 0x7808, 0x7810, 0x7820, Part.clk, Part.sys, Part.ev, Part.pw]
theorem execPortTableWrite_within (rq : Req) (dst : Bool) (p : Nat) (v : W) (s : State) : ExecWithin Parts.execPortTableWrite s (execPortTableWrite rq dst p v s) := by
  have h0 : Within Parts.execPortTableWrite s s := .refl
  unfold execPortTableWrite
  extract_lets +onlyGivenNames -merge a0
  have h1 : PutWithin Parts.execPortTableWrite a0 := by
    unfold a0
    exact PutWithin.step (putPort_within ..) rfl
  clear_value a0
  refine ⟨_, rfl, ?_⟩
  refine request_within rfl ?_ ?_
  · with_reducible assumption
  · with_reducible assumption

def Parts.execRebuildDone : List Part := [0x2848, Part.host, 0x6048, 0x2010, 0x3020, 0x3810, Part.xp, 0x2008, Part.cm, Part.au, Part.ev, Part.clk, 0x7820, 0x7808, Part.sys, 0x7810, Part.tw, Part.fresh, 0x2020]
theorem execRebuildDone_within (s : State) : ExecWithin Parts.execRebuildDone s (execRebuildDone s) := by
  have h0 : Within Parts.execRebuildDone s s := .refl
  unfold execRebuildDone
  refine ⟨_, rfl, ?_⟩
  refine Within.step ?_ (rebuildDone_within ..) rfl
  with_reducible assumption

def Parts.putSalvo : List Part := [0x2020, 0x2009, 0x2010, 0x3020, 0x3810, Part.xp, Part.fresh, Part.host, 0x6048, 0x2008, Part.cm, Part.au, Part.ev, Part.clk, 0x7820, 0x7808, Part.sys, 0x7810, Part.tw]
theorem putSalvo_within (s : State) (rq : Req) (n : Nat) (w0 : W) (w1 : W) : PutWithin Parts.putSalvo (putSalvo s rq n w0 w1) := by
  have h0 : Within Parts.putSalvo s s := .refl
  unfold putSalvo
  extract_lets +onlyGivenNames -merge a0
  extract_lets +onlyGivenNames -merge a1
  extract_lets +onlyGivenNames -merge a2
  clear_value a2
  refine ⟨rfl, fun s0 => ?_⟩
  dsimp -zeta only
  have h00 : Within Parts.putSalvo s0 s0 := .refl
  split
  · dsimp -zeta only
    refine Within.step ?_ (setWord_within ..) rfl
    with_reducible assumption
  · refine commitHere_within rfl ?_ ?_
    · with_reducible assumption
    · intro x3 x4
      split
      · refine Within.step ?_ (salvoArm_within ..) rfl
        with_reducible assumption
      · refine Within.step ?_ (salvoDiscard_within ..) rfl
        with_reducible assumption

def Parts.execSalvoArm : List Part := [0x2020, 0x2009, 0x2010, 0x3020, 0x3810, Part.xp, Part.fresh, Part.host, 0x6048, 0x2008, Part.cm, Part.au, Part.ev, Part.clk, 0x7820, 0x7808, Part.sys, 0x7810, Part.tw, 0x1028, Part.save, Part.shadow, 0x6040, Part.pw]
theorem execSalvoArm_within (rq : Req) (n : Nat) (w0 : W) (w1 : W) (s : State) : ExecWithin Parts.execSalvoArm s (execSalvoArm rq n w0 w1 s) := by
  have h0 : Within Parts.execSalvoArm s s := .refl
  unfold execSalvoArm
  extract_lets +onlyGivenNames -merge a0
  have h1 : PutWithin Parts.execSalvoArm a0 := by
    unfold a0
    exact PutWithin.step (putSalvo_within ..) rfl
  clear_value a0
  refine ⟨_, rfl, ?_⟩
  refine request_within rfl ?_ ?_
  · with_reducible assumption
  · with_reducible assumption

def Parts.execSalvoDiscard : List Part := [0x2020, 0x2009, 0x2010, 0x3020, 0x3810, Part.xp, Part.fresh, Part.host, 0x6048, 0x2008, Part.cm, Part.au, Part.ev, Part.clk, 0x7820, 0x7808, Part.sys, 0x7810, Part.tw, 0x1028, Part.save, Part.shadow, 0x6040, Part.pw]
theorem execSalvoDiscard_within (rq : Req) (n : Nat) (w0 : W) (s : State) : ExecWithin Parts.execSalvoDiscard s (execSalvoDiscard rq n w0 s) := by
  have h0 : Within Parts.execSalvoDiscard s s := .refl
  unfold execSalvoDiscard
  extract_lets +onlyGivenNames -merge a0
  have h1 : PutWithin Parts.execSalvoDiscard a0 := by
    unfold a0
    exact PutWithin.step (putSalvo_within ..) rfl
  clear_value a0
  refine ⟨_, rfl, ?_⟩
  refine request_within rfl ?_ ?_
  · with_reducible assumption
  · with_reducible assumption

def Parts.execSalvoTimeout : List Part := [Part.clk, Part.fresh, 0x2010, 0x3020, 0x3810, Part.host, 0x6048, Part.xp, 0x2008, Part.cm, Part.au, Part.ev, 0x7820, 0x7808, Part.sys, 0x7810, 0x2020, Part.tw]
theorem execSalvoTimeout_within (n : Nat) (s : State) : ExecWithin Parts.execSalvoTimeout s (execSalvoTimeout n s) := by
  have h0 : Within Parts.execSalvoTimeout s s := .refl
  unfold execSalvoTimeout
  refine ⟨_, rfl, ?_⟩
  refine Within.step ?_ (salvoTimeout_within ..) rfl
  with_reducible assumption

def Parts.execSourceLost : List Part := [Part.al, 0x2864, 0x6048, Part.host, Part.ev, Part.clk, 0x7820, 0x7808, Part.sys, 0x7810]
theorem execSourceLost_within (p : Nat) (s : State) : ExecWithin Parts.execSourceLost s (execSourceLost p s) := by
  have h0 : Within Parts.execSourceLost s s := .refl
  unfold execSourceLost
  refine ⟨_, rfl, ?_⟩
  refine whileRunning_within  ?_ ?_
  · with_reducible assumption
  · intro x0 x1
    refine Within.step ?_ (sourceLost_within ..) rfl
    with_reducible assumption

def Parts.execSourcePicture : List Part := [0x2864, Part.al, Part.au, 0x6048, Part.host, Part.ev, Part.clk, 0x7820, 0x7808, Part.sys, 0x7810]
theorem execSourcePicture_within (p : Nat) (capture : Nat) (missing : Nat) (alien : Option Nat) (s : State) : ExecWithin Parts.execSourcePicture s (execSourcePicture p capture missing alien s) := by
  have h0 : Within Parts.execSourcePicture s s := .refl
  unfold execSourcePicture
  refine ⟨_, rfl, ?_⟩
  refine whileRunning_within  ?_ ?_
  · with_reducible assumption
  · intro x0 x1
    refine Within.step ?_ (sourcePicture_within ..) rfl
    with_reducible assumption

def Parts.execSwitchLine : List Part := [Part.clk, Part.xp, Part.au, 0x3020, 0x3810, 0x3820, Part.cm, 0x6048, Part.host, Part.al, Part.ev, 0x7820, 0x7808, Part.sys, 0x7810, 0x2010, 0x2008, 0x2020, Part.mx, Part.tw]
theorem execSwitchLine_within (p : Nat) (s : State) : ExecWithin Parts.execSwitchLine s (execSwitchLine p s) := by
  have h0 : Within Parts.execSwitchLine s s := .refl
  unfold execSwitchLine
  refine ⟨_, rfl, ?_⟩
  refine whileRunning_within  ?_ ?_
  · with_reducible assumption
  · intro x0 x1
    refine Within.step ?_ (switchLine_within ..) rfl
    with_reducible assumption

def Parts.putTake : List Part := [0x2010, Part.au, 0x3020, 0x2009, Part.xp, 0x3810, 0x2020, Part.fresh, Part.host, 0x6048, 0x2008, Part.cm, Part.ev, Part.clk, 0x7820, 0x7808, Part.sys, 0x7810, Part.tw]
theorem putTake_within (s : State) (rq : Req) (e : Nat) (w0 : W) (w1 : W) : PutWithin Parts.putTake (putTake s rq e w0 w1) := by
  have h0 : Within Parts.putTake s s := .refl
  unfold putTake
  extract_lets +onlyGivenNames -merge a0
  extract_lets +onlyGivenNames -merge a1
  extract_lets +onlyGivenNames -merge a2
  clear_value a2
  refine ⟨rfl, fun s0 => ?_⟩
  dsimp -zeta only
  have h00 : Within Parts.putTake s0 s0 := .refl
  split
  · dsimp -zeta only
    refine Within.step ?_ (setWord_within ..) rfl
    with_reducible assumption
  · refine commitHere_within rfl ?_ ?_
    · with_reducible assumption
    · intro x3 x4
      split
      · refine Within.step ?_ (takeCommit_within ..) rfl
        with_reducible assumption
      · refine Within.step ?_ (cancelWork_within ..) rfl
        with_reducible assumption

def Parts.execTakeCancel : List Part := [0x2010, Part.au, 0x3020, 0x2009, Part.xp, 0x3810, 0x2020, Part.fresh, Part.host, 0x6048, 0x2008, Part.cm, Part.ev, Part.clk, 0x7820, 0x7808, Part.sys, 0x7810, Part.tw, 0x1028, Part.save, Part.shadow, 0x6040, Part.pw]
theorem execTakeCancel_within (rq : Req) (e : Nat) (w0 : W) (s : State) : ExecWithin Parts.execTakeCancel s (execTakeCancel rq e w0 s) := by
  have h0 : Within Parts.execTakeCancel s s := .refl
  unfold execTakeCancel
  extract_lets +onlyGivenNames -merge a0
  have h1 : PutWithin Parts.execTakeCancel a0 := by
    unfold a0
    exact PutWithin.step (putTake_within ..) rfl
  clear_value a0
  refine ⟨_, rfl, ?_⟩
  refine request_within rfl ?_ ?_
  · with_reducible assumption
  · with_reducible assumption

def Parts.execTakeCommit : List Part := [0x2010, Part.au, 0x3020, 0x2009, Part.xp, 0x3810, 0x2020, Part.fresh, Part.host, 0x6048, 0x2008, Part.cm, Part.ev, Part.clk, 0x7820, 0x7808, Part.sys, 0x7810, Part.tw, 0x1028, Part.save, Part.shadow, 0x6040, Part.pw]
theorem execTakeCommit_within (rq : Req) (e : Nat) (w0 : W) (w1 : W) (s : State) : ExecWithin Parts.execTakeCommit s (execTakeCommit rq e w0 w1 s) := by
  have h0 : Within Parts.execTakeCommit s s := .refl
  unfold execTakeCommit
  extract_lets +onlyGivenNames -merge a0
  have h1 : PutWithin Parts.execTakeCommit a0 := by
    unfold a0
    exact PutWithin.step (putTake_within ..) rfl
  clear_value a0
  refine ⟨_, rfl, ?_⟩
  refine request_within rfl ?_ ?_
  · with_reducible assumption
  · with_reducible assumption

def Parts.putAuDst : List Part := [0x3020, Part.fresh, 0x1028, Part.save, Part.au, Part.tw, 0x2009, Part.xp, 0x2010, 0x3810, 0x2020, Part.host, 0x6048, 0x2008, Part.cm, Part.ev, Part.clk, 0x7820, 0x7808, Part.sys, 0x7810]
theorem putAuDst_within (s : State) (rq : Req) (e : Nat) (w0 : W) (w1 : Option W) : PutWithin Parts.putAuDst (putAuDst s rq e w0 w1) := by
  have h0 : Within Parts.putAuDst s s := .refl
  unfold putAuDst
  split
  · split
    · exact PutWithin.step (putAuDst1_within ..) rfl
    · refine ⟨rfl, fun s0 => ?_⟩
      dsimp -zeta only
      have h00 : Within Parts.putAuDst s0 s0 := .refl
      with_reducible assumption
  · refine withWord1_within rfl ?_ ?_
    · exact PutWithin.step (putAuDst0_within ..) rfl
    · intro x0
      exact PutWithin.step (putAuDst1_within ..) rfl

end Sys2Proof.Machine
end

