-- ==== Sys2Proof/Laws/WithinAudioPorts.lean ====
section
/-! SUPPORT. What the operations of Machine/AudioPorts.lean may change: for each the parts of the state, and that it keeps to them. -/
namespace Sys2Proof.Machine

def Parts.dropMask : List Part := [Part.ap]
theorem dropMask_within (s : State) (e : Nat) : Within Parts.dropMask s (State.dropMask s e) := by
  have h0 : Within Parts.dropMask s s := .refl
  unfold State.dropMask
  refine Within.step ?_ (set_ap_within ..) rfl
  with_reducible assumption

def Parts.applyMask : List Part := [Part.ap, 0x3068, 0x6048, Part.host]
theorem applyMask_within (s : State) (e : Nat) (frame : Nat) : Within Parts.applyMask s (State.applyMask s e frame) := by
  have h0 : Within Parts.applyMask s s := .refl
  unfold State.applyMask
  split
  · with_reducible assumption
  · refine Within.step ?_ (setNotify_within ..) rfl
    refine Within.step ?_ (setFld_within ..) rfl
    refine Within.step ?_ (dropMask_within ..) rfl
    with_reducible assumption

def Parts.setAsrcRun : List Part := [Part.ap]
theorem setAsrcRun_within (s : State) (x : AsrcRun) : Within Parts.setAsrcRun s (State.setAsrcRun s x) := by
  have h0 : Within Parts.setAsrcRun s s := .refl
  unfold State.setAsrcRun
  refine Within.step ?_ (set_ap_within ..) rfl
  with_reducible assumption

def Parts.asrcFade : List Part := [Part.ap]
theorem asrcFade_within (s : State) (e : Nat) (dir : Nat) (bound : Option W) : Within Parts.asrcFade s (State.asrcFade s e dir bound) := by
  have h0 : Within Parts.asrcFade s s := .refl
  unfold State.asrcFade
  refine Within.step ?_ (setAsrcRun_within ..) rfl
  with_reducible assumption

def Parts.setAsrc : List Part := [0x3060]
theorem setAsrc_within (s : State) (e : Nat) (n : Nat) : Within Parts.setAsrc s (State.setAsrc s e n) := by
  have h0 : Within Parts.setAsrc s s := .refl
  unfold State.setAsrc
  refine Within.step ?_ (setFld_within ..) rfl
  with_reducible assumption

def Parts.asrcLoad : List Part := [0x3060]
theorem asrcLoad_within (s : State) : Within Parts.asrcLoad s (State.asrcLoad s) := by
  have h0 : Within Parts.asrcLoad s s := .refl
  unfold State.asrcLoad
  refine Within.foldl ?_ ?_
  · with_reducible assumption
  · intro x0 x1 x2
    split
    · refine Within.step ?_ (setAsrc_within ..) rfl
      with_reducible assumption
    · with_reducible assumption

def Parts.asrcLocked : List Part := [0x3060, Part.ap]
theorem asrcLocked_within (s : State) (e : Nat) (ratio : Int) : Within Parts.asrcLocked s (State.asrcLocked s e ratio) := by
  have h0 : Within Parts.asrcLocked s s := .refl
  unfold State.asrcLocked
  extract_lets +onlyGivenNames -merge a0
  split
  · with_reducible assumption
  · split
    · refine Within.step ?_ (setAsrc_within ..) rfl
      with_reducible assumption
    · split
      · refine Within.step ?_ (setAsrc_within ..) rfl
        refine Within.step ?_ (asrcFade_within ..) rfl
        refine Within.step ?_ (setFld_within ..) rfl
        with_reducible assumption
      · split
        · refine Within.step ?_ (setFld_within ..) rfl
          with_reducible assumption
        · with_reducible assumption

def Parts.asrcLock : List Part := [0x3060, Part.ap, Part.tw]
theorem asrcLock_within (s : State) (e : Nat) (ratio : Int) : Within Parts.asrcLock s (State.asrcLock s e ratio) := by
  have h0 : Within Parts.asrcLock s s := .refl
  unfold State.asrcLock
  split
  · split
    · refine Within.step ?_ (tellTwin_within ..) rfl
      refine Within.step ?_ (asrcLocked_within ..) rfl
      with_reducible assumption
    · with_reducible assumption
  · refine Within.step ?_ (asrcLocked_within ..) rfl
    with_reducible assumption

def Parts.asrcMark : List Part := [0x3060]
theorem asrcMark_within (s : State) (status : List (Nat × Nat)) (e : Nat) : Within Parts.asrcMark s (State.asrcMark s status e) := by
  have h0 : Within Parts.asrcMark s s := .refl
  unfold State.asrcMark
  extract_lets +onlyGivenNames -merge a0
  split
  · split
    · with_reducible assumption
    · refine Within.step ?_ (setAsrc_within ..) rfl
      with_reducible assumption
  · split
    · refine Within.step ?_ (setAsrc_within ..) rfl
      with_reducible assumption
    · with_reducible assumption

def Parts.asrcUnlocked : List Part := [Part.ap, 0x3060]
theorem asrcUnlocked_within (s : State) (e : Nat) : Within Parts.asrcUnlocked s (State.asrcUnlocked s e) := by
  have h0 : Within Parts.asrcUnlocked s s := .refl
  unfold State.asrcUnlocked
  extract_lets +onlyGivenNames -merge a0
  split
  · refine Within.step ?_ (setAsrc_within ..) rfl
    refine Within.step ?_ (asrcFade_within ..) rfl
    with_reducible assumption
  · with_reducible assumption

def Parts.asrcMirror : List Part := [0x3060, Part.ap]
theorem asrcMirror_within (s : State) (e : Nat) (st : Nat) (ratio : Int) : Within Parts.asrcMirror s (State.asrcMirror s e st ratio) := by
  have h0 : Within Parts.asrcMirror s s := .refl
  unfold State.asrcMirror
  extract_lets +onlyGivenNames -merge a0
  have h1 : Within Parts.asrcMirror s a0 := by
    unfold a0
    split
    · refine Within.step ?_ (setFld_within ..) rfl
      with_reducible assumption
    · with_reducible assumption
  clear_value a0
  split
  · with_reducible assumption
  · split
    · refine Within.step ?_ (setAsrc_within ..) rfl
      refine Within.step ?_ (asrcFade_within ..) rfl
      with_reducible assumption
    · split
      · refine Within.step ?_ (asrcUnlocked_within ..) rfl
        with_reducible assumption
      · refine Within.step ?_ (setAsrc_within ..) rfl
        with_reducible assumption

def Parts.asrcSample : List Part := [Part.ap, 0x3060]
theorem asrcSample_within (s : State) (x : AsrcRun) : Within Parts.asrcSample s (State.asrcSample s x) := by
  have h0 : Within Parts.asrcSample s s := .refl
  unfold State.asrcSample
  extract_lets +onlyGivenNames -merge a0
  clear_value a0
  extract_lets +onlyGivenNames -merge a1
  have h2 : Within Parts.asrcSample s a1 := by
    unfold a1
    refine Within.step ?_ (set_ap_within ..) rfl
    with_reducible assumption
  clear_value a1
  split
  · split
    · with_reducible assumption
    · refine Within.step ?_ (setAsrcRun_within ..) rfl
      with_reducible assumption
  · split
    · refine Within.step ?_ (setAsrcRun_within ..) rfl
      with_reducible assumption
    · split
      · with_reducible assumption
      · refine Within.step ?_ (setAsrc_within ..) rfl
        refine Within.step ?_ (setFld_within ..) rfl
        with_reducible assumption

def Parts.setPhase : List Part := [Part.ap]
theorem setPhase_within (s : State) (e : Nat) (ph : Nat) : Within Parts.setPhase s (State.setPhase s e ph) := by
  have h0 : Within Parts.setPhase s s := .refl
  unfold State.setPhase
  refine Within.step ?_ (set_ap_within ..) rfl
  with_reducible assumption

def Parts.asrcTrack : List Part := [0x3060, Part.ap, Part.tw]
theorem asrcTrack_within (s : State) (p : Nat) : Within Parts.asrcTrack s (State.asrcTrack s p) := by
  have h0 : Within Parts.asrcTrack s s := .refl
  unfold State.asrcTrack
  split
  · with_reducible assumption
  · extract_lets +onlyGivenNames -merge a0
    have h1 : Within Parts.asrcTrack s a0 := by
      unfold a0
      refine Within.foldl ?_ ?_
      · with_reducible assumption
      · intro x2 x3 x4
        extract_lets +onlyGivenNames -merge a5
        have h6 : Within Parts.asrcTrack s a5 := by
          unfold a5
          split
          · split
            · refine Within.step ?_ (setFld_within ..) rfl
              with_reducible assumption
            · with_reducible assumption
          · with_reducible assumption
        clear_value a5
        refine Within.step ?_ (setPhase_within ..) rfl
        with_reducible assumption
    clear_value a0
    refine Within.step ?_ (tellTwin_within ..) rfl
    with_reducible assumption

def Parts.asrcUnlock : List Part := [Part.ap, 0x3060, Part.tw]
theorem asrcUnlock_within (s : State) (e : Nat) : Within Parts.asrcUnlock s (State.asrcUnlock s e) := by
  have h0 : Within Parts.asrcUnlock s s := .refl
  unfold State.asrcUnlock
  split
  · split
    · refine Within.step ?_ (tellTwin_within ..) rfl
      refine Within.step ?_ (asrcUnlocked_within ..) rfl
      with_reducible assumption
    · with_reducible assumption
  · refine Within.step ?_ (asrcUnlocked_within ..) rfl
    with_reducible assumption

def Parts.streamFades : List Part := [Part.ap]
theorem streamFades_within (s : State) : Within Parts.streamFades s (State.streamFades s) := by
  have h0 : Within Parts.streamFades s s := .refl
  unfold State.streamFades
  extract_lets +onlyGivenNames -merge a0
  clear_value a0
  refine Within.step ?_ (set_ap_within ..) rfl
  with_reducible assumption

def Parts.codeErrors : List Part := [0x3068]
theorem codeErrors_within (s : State) (l : List (Nat × Nat)) : Within Parts.codeErrors s (State.codeErrors s l) := by
  have h0 : Within Parts.codeErrors s s := .refl
  unfold State.codeErrors
  refine Within.foldl ?_ ?_
  · with_reducible assumption
  · intro x0 x1 x2
    split
    · refine Within.step ?_ (bump_within ..) rfl
      with_reducible assumption
    · with_reducible assumption

def Parts.matchLines : List Part := [Part.ap]
theorem matchLines_within (s : State) (used : List Nat) : Within Parts.matchLines s (State.matchLines s used) := by
  have h0 : Within Parts.matchLines s s := .refl
  unfold State.matchLines
  extract_lets +onlyGivenNames -merge a0
  clear_value a0
  refine Within.step ?_ (set_ap_within ..) rfl
  with_reducible assumption

def Parts.audioSample : List Part := [Part.clk, Part.au, Part.ap, 0x3010, 0x3038, 0x3060, 0x3068]
theorem audioSample_within (s : State) (vals : List (Nat × Int)) (status : List (Nat × Nat)) (codeErr : List (Nat × Nat)) : Within Parts.audioSample s (State.audioSample s vals status codeErr) := by
  have h0 : Within Parts.audioSample s s := .refl
  unfold State.audioSample
  extract_lets +onlyGivenNames -merge a0
  have h1 : Within Parts.audioSample s a0 := by
    unfold a0
    refine Within.step ?_ (crossSample_within ..) rfl
    with_reducible assumption
  clear_value a0
  extract_lets +onlyGivenNames -merge a2
  clear_value a2
  extract_lets +onlyGivenNames -merge a3
  have h4 : Within Parts.audioSample s a3 := by
    unfold a3
    refine Within.foldl ?_ ?_
    · with_reducible assumption
    · intro x5 x6 x7
      refine Within.step ?_ (asrcMark_within ..) rfl
      with_reducible assumption
  clear_value a3
  extract_lets +onlyGivenNames -merge a8
  have h9 : Within Parts.audioSample s a8 := by
    unfold a8
    refine Within.foldl ?_ ?_
    · with_reducible assumption
    · intro x10 x11 x12
      refine Within.step ?_ (asrcSample_within ..) rfl
      with_reducible assumption
  clear_value a8
  refine Within.step ?_ (streamFades_within ..) rfl
  refine Within.step ?_ (codeErrors_within ..) rfl
  refine Within.step ?_ (matchLines_within ..) rfl
  with_reducible assumption

def Parts.clockSet : List Part := [0x3068, 0x6048, Part.host]
theorem clockSet_within (s : State) (q : Nat) : Within Parts.clockSet s (State.clockSet s q) := by
  have h0 : Within Parts.clockSet s s := .refl
  unfold State.clockSet
  split
  · refine Within.step ?_ (setNotify_within ..) rfl
    refine Within.step ?_ (setFld_within ..) rfl
    with_reducible assumption
  · with_reducible assumption

def Parts.dropTrig : List Part := [Part.ap]
theorem dropTrig_within (s : State) (n : Nat) : Within Parts.dropTrig s (State.dropTrig s n) := by
  have h0 : Within Parts.dropTrig s s := .refl
  unfold State.dropTrig
  refine Within.step ?_ (set_ap_within ..) rfl
  with_reducible assumption

def Parts.endTrig : List Part := [Part.ap, 0x3058, 0x6048, Part.host]
theorem endTrig_within (s : State) (n : Nat) (st : Nat) (result : Nat) : Within Parts.endTrig s (State.endTrig s n st result) := by
  have h0 : Within Parts.endTrig s s := .refl
  unfold State.endTrig
  refine Within.step ?_ (setNotify_within ..) rfl
  refine Within.step ?_ (setFld_within ..) rfl
  refine Within.step ?_ (dropTrig_within ..) rfl
  with_reducible assumption

def Parts.maskApply : List Part := [Part.clk, Part.ap, 0x3068, 0x6048, Part.host]
theorem maskApply_within (s : State) (e : Nat) (frame : Nat) : Within Parts.maskApply s (State.maskApply s e frame) := by
  have h0 : Within Parts.maskApply s s := .refl
  unfold State.maskApply
  extract_lets +onlyGivenNames -merge a0
  split
  · with_reducible assumption
  · split
    · with_reducible assumption
    · extract_lets +onlyGivenNames -merge a1
      clear_value a1
      extract_lets +onlyGivenNames -merge a2
      extract_lets +onlyGivenNames -merge a3
      split
      · extract_lets +onlyGivenNames -merge a4
        extract_lets +onlyGivenNames -merge a5
        have h6 : Within Parts.maskApply s a5 := by
          unfold a5
          refine Within.step ?_ (waitHouse_within ..) rfl
          with_reducible assumption
        clear_value a5
        refine Within.step ?_ (applyMask_within ..) rfl
        with_reducible assumption
      · extract_lets +onlyGivenNames -merge a7
        have h8 : Within Parts.maskApply s a7 := by
          unfold a7
          refine Within.step ?_ (waitHouse_within ..) rfl
          with_reducible assumption
        clear_value a7
        refine Within.step ?_ (applyMask_within ..) rfl
        with_reducible assumption

def Parts.offrate : List Part := [0x3068, 0x6048, Part.host]
theorem offrate_within (s : State) (q : Nat) (off : Int) : Within Parts.offrate s (State.offrate s q off) := by
  have h0 : Within Parts.offrate s s := .refl
  unfold State.offrate
  split
  · with_reducible assumption
  · extract_lets +onlyGivenNames -merge a0
    have h1 : Within Parts.offrate s a0 := by
      unfold a0
      refine Within.step ?_ (setFld_within ..) rfl
      with_reducible assumption
    clear_value a0
    extract_lets +onlyGivenNames -merge a2
    split
    · split
      · refine Within.step ?_ (setNotify_within ..) rfl
        with_reducible assumption
      · with_reducible assumption
    · split
      · refine Within.step ?_ (setNotify_within ..) rfl
        with_reducible assumption
      · with_reducible assumption

def Parts.phaseSlip : List Part := [Part.ap, 0x3068, Part.ev, Part.host, Part.clk, 0x7820, 0x6048, 0x7808, Part.sys, 0x7810]
theorem phaseSlip_within (s : State) (q : Nat) (tx : Bool) (rep : Bool) : Within Parts.phaseSlip s (State.phaseSlip s q tx rep) := by
  have h0 : Within Parts.phaseSlip s s := .refl
  unfold State.phaseSlip
  split
  · extract_lets +onlyGivenNames -merge a0
    have h1 : Within Parts.phaseSlip s a0 := by
      unfold a0
      split
      · refine Within.step ?_ (setStream_within ..) rfl
        with_reducible assumption
      · with_reducible assumption
    clear_value a0
    refine Within.step ?_ (raise_within ..) rfl
    refine Within.step ?_ (bump_within ..) rfl
    with_reducible assumption
  · with_reducible assumption

def Parts.setDir : List Part := [0x3068, 0x6048, Part.host]
theorem setDir_within (s : State) (q : Nat) (tx : Bool) (n : Nat) : Within Parts.setDir s (State.setDir s q tx n) := by
  have h0 : Within Parts.setDir s s := .refl
  unfold State.setDir
  refine Within.step ?_ (setNotify_within ..) (by cases ‹Bool› <;> rfl)
  with_reducible assumption

def Parts.underrunRecord : List Part := [Part.ev, Part.host, Part.clk, 0x7820, 0x6048, 0x7808, Part.sys, 0x7810]
theorem underrunRecord_within (s : State) (q : Nat) (tx : Bool) (i : Nat) (n : Nat) : Within Parts.underrunRecord s (State.underrunRecord s q tx i n) := by
  have h0 : Within Parts.underrunRecord s s := .refl
  unfold State.underrunRecord
  refine Within.step ?_ (raise_within ..) rfl
  with_reducible assumption

def Parts.rejoin : List Part := [Part.ap, 0x3068, 0x6048, Part.host, Part.ev, Part.clk, 0x7820, 0x7808, Part.sys, 0x7810]
theorem rejoin_within (s : State) (q : Nat) (tx : Bool) : Within Parts.rejoin s (State.rejoin s q tx) := by
  have h0 : Within Parts.rejoin s s := .refl
  unfold State.rejoin
  split
  · with_reducible assumption
  · split
    · with_reducible assumption
    · extract_lets +onlyGivenNames -merge a0
      extract_lets +onlyGivenNames -merge a1
      have h2 : Within Parts.rejoin s a1 := by
        unfold a1
        refine Within.step ?_ (setDir_within ..) rfl
        refine Within.step ?_ (setStream_within ..) rfl
        with_reducible assumption
      clear_value a1
      extract_lets +onlyGivenNames -merge a3
      extract_lets +onlyGivenNames -merge a4
      have h5 : Within Parts.rejoin s a4 := by
        unfold a4
        split
        · refine Within.step ?_ (setNotify_within ..) rfl
          with_reducible assumption
        · with_reducible assumption
      clear_value a4
      refine Within.step ?_ (underrunRecord_within ..) rfl
      with_reducible assumption

def Parts.setTrig : List Part := [Part.ap]
theorem setTrig_within (s : State) (x : Trig) : Within Parts.setTrig s (State.setTrig s x) := by
  have h0 : Within Parts.setTrig s s := .refl
  unfold State.setTrig
  refine Within.step ?_ (set_ap_within ..) rfl
  with_reducible assumption

def Parts.stageMask : List Part := [Part.ap, 0x3048, 0x1028, Part.save, 0x3068, 0x6048, Part.host]
theorem stageMask_within (s : State) (e : Nat) (v : W) : Within Parts.stageMask s (State.stageMask s e v) := by
  have h0 : Within Parts.stageMask s s := .refl
  unfold State.stageMask
  extract_lets +onlyGivenNames -merge a0
  clear_value a0
  extract_lets +onlyGivenNames -merge a1
  clear_value a1
  extract_lets +onlyGivenNames -merge a2
  have h3 : Within Parts.stageMask s a2 := by
    unfold a2
    refine Within.step ?_ (putWord_within ..) rfl
    refine Within.step ?_ (dropMask_within ..) rfl
    with_reducible assumption
  clear_value a2
  extract_lets +onlyGivenNames -merge a4
  clear_value a4
  extract_lets +onlyGivenNames -merge a5
  have h6 : Within Parts.stageMask s a5 := by
    unfold a5
    refine Within.step ?_ (set_ap_within ..) rfl
    with_reducible assumption
  clear_value a5
  extract_lets +onlyGivenNames -merge a7
  have h8 : Within Parts.stageMask s a7 := by
    unfold a7
    split
    · refine Within.step ?_ (bump_within ..) rfl
      with_reducible assumption
    · with_reducible assumption
  clear_value a7
  refine Within.step ?_ (setNotify_within ..) rfl
  with_reducible assumption

def Parts.startDir : List Part := [Part.fresh, Part.ap, 0x3068, 0x6048, Part.host, Part.ev]
theorem startDir_within (s : State) (i : Nat) (q : Nat) (tx : Bool) : Within Parts.startDir s (State.startDir s i q tx) := by
  have h0 : Within Parts.startDir s s := .refl
  unfold State.startDir
  extract_lets +onlyGivenNames -merge a0
  have h1 : Within Parts.startDir s a0.1 := by
    unfold a0
    refine Within.step ?_ (takeFree_within ..) rfl
    with_reducible assumption
  clear_value a0
  extract_lets +onlyGivenNames -merge a2
  have h3 : Within Parts.startDir s a2 := by
    unfold a2
    with_reducible assumption
  clear_value a2
  extract_lets +onlyGivenNames -merge a4
  have h5 : Within Parts.startDir s a4 := by
    unfold a4
    split
    · with_reducible assumption
    · refine Within.step ?_ (applyMask_within ..) rfl
      with_reducible assumption
  clear_value a4
  extract_lets +onlyGivenNames -merge a6
  have h7 : Within Parts.startDir s a6 := by
    unfold a6
    refine Within.step ?_ (putBack_within ..) rfl
    with_reducible assumption
  clear_value a6
  extract_lets +onlyGivenNames -merge a8
  have h9 : Within Parts.startDir s a8 := by
    unfold a8
    refine Within.step ?_ (setWord_within ..) rfl
    with_reducible assumption
  clear_value a8
  refine Within.step ?_ (setDir_within ..) rfl
  refine Within.step ?_ (setStream_within ..) rfl
  with_reducible assumption

def Parts.stopDir : List Part := [Part.ev, Part.host, Part.clk, 0x7820, 0x6048, 0x7808, Part.sys, 0x7810, Part.ap, 0x3068]
theorem stopDir_within (s : State) (i : Nat) (q : Nat) (tx : Bool) : Within Parts.stopDir s (State.stopDir s i q tx) := by
  have h0 : Within Parts.stopDir s s := .refl
  unfold State.stopDir
  split
  · with_reducible assumption
  · extract_lets +onlyGivenNames -merge a0
    extract_lets +onlyGivenNames -merge a1
    have h2 : Within Parts.stopDir s a1 := by
      unfold a1
      split
      · refine Within.step ?_ (underrunRecord_within ..) rfl
        with_reducible assumption
      · with_reducible assumption
    clear_value a1
    refine Within.step ?_ (setDir_within ..) rfl
    refine Within.step ?_ (setFld_within ..) rfl
    refine Within.step ?_ (dropStream_within ..) rfl
    with_reducible assumption

def Parts.stopAudio : List Part := [Part.ap, 0x3058, 0x6048, Part.host, Part.ev, Part.clk, 0x7820, 0x7808, Part.sys, 0x7810, 0x3068]
theorem stopAudio_within (s : State) : Within Parts.stopAudio s (State.stopAudio s) := by
  have h0 : Within Parts.stopAudio s s := .refl
  unfold State.stopAudio
  extract_lets +onlyGivenNames -merge a0
  extract_lets +onlyGivenNames -merge a1
  have h2 : Within Parts.stopAudio s a1 := by
    unfold a1
    refine Within.foldl ?_ ?_
    · with_reducible assumption
    · intro x3 x4 x5
      refine Within.step ?_ (endTrig_within ..) rfl
      with_reducible assumption
  clear_value a1
  refine Within.foldl ?_ ?_
  · with_reducible assumption
  · intro x6 x7 x8
    refine Within.foldl ?_ ?_
    · with_reducible assumption
    · intro x9 x10 x11
      extract_lets +onlyGivenNames -merge a12
      have h13 : Within Parts.stopAudio s a12 := by
        unfold a12
        refine Within.step ?_ (stopDir_within ..) rfl
        with_reducible assumption
      clear_value a12
      refine Within.step ?_ (setDir_within ..) rfl
      with_reducible assumption

def Parts.trigAct : List Part := [Part.clk, Part.fresh, Part.ap, 0x3068, 0x6048, Part.host, Part.ev, 0x7820, 0x7808, Part.sys, 0x7810, 0x3058]
theorem trigAct_within (s : State) (n : Nat) : Within Parts.trigAct s (State.trigAct s n) := by
  have h0 : Within Parts.trigAct s s := .refl
  unfold State.trigAct
  split
  · with_reducible assumption
  · split
    · with_reducible assumption
    · extract_lets +onlyGivenNames -merge a0
      have h1 : Within Parts.trigAct s a0 := by
        unfold a0
        refine Within.step ?_ (waitHouse_within ..) rfl
        with_reducible assumption
      clear_value a0
      extract_lets +onlyGivenNames -merge a2
      clear_value a2
      extract_lets +onlyGivenNames -merge a3
      have h4 : Within Parts.trigAct s a3 := by
        unfold a3
        split
        · refine Within.foldl ?_ ?_
          · with_reducible assumption
          · intro x5 x6 x7
            split
            · refine Within.step ?_ (startDir_within ..) rfl
              with_reducible assumption
            · with_reducible assumption
        · refine Within.foldl ?_ ?_
          · with_reducible assumption
          · intro x8 x9 x10
            refine Within.step ?_ (stopDir_within ..) rfl
            with_reducible assumption
      clear_value a3
      refine Within.step ?_ (endTrig_within ..) rfl
      refine Within.step ?_ (setFld_within ..) rfl
      with_reducible assumption

def Parts.trigCommit : List Part := [0x3068, 0x6048, Part.host, Part.fresh, Part.ap, 0x3058]
theorem trigCommit_within (s : State) (n : Nat) (w0 : W) (w1 : W) (w2 : W) : Within Parts.trigCommit s (State.trigCommit s n w0 w1 w2).2 := by
  have h0 : Within Parts.trigCommit s s := .refl
  unfold State.trigCommit
  extract_lets +onlyGivenNames -merge a0
  extract_lets +onlyGivenNames -merge a1
  clear_value a1
  split
  · split
    · extract_lets +onlyGivenNames -merge a2
      clear_value a2
      extract_lets +onlyGivenNames -merge a3
      have h4 : Within Parts.trigCommit s a3 := by
        unfold a3
        split
        · extract_lets +onlyGivenNames -merge a5
          clear_value a5
          refine Within.foldl ?_ ?_
          · with_reducible assumption
          · intro x6 x7 x8
            split
            · refine Within.step ?_ (setDir_within ..) rfl
              with_reducible assumption
            · with_reducible assumption
        · with_reducible assumption
      clear_value a3
      extract_lets +onlyGivenNames -merge a9
      have h10 : Within Parts.trigCommit s a9.1 := by
        unfold a9
        refine Within.step ?_ (takeFree_within ..) rfl
        with_reducible assumption
      clear_value a9
      dsimp -zeta only
      refine Within.step ?_ (endTrig_within ..) rfl
      with_reducible assumption
    · with_reducible assumption
  · split
    · with_reducible assumption
    · extract_lets +onlyGivenNames -merge a11
      have h12 : Within Parts.trigCommit s a11 := by
        unfold a11
        refine Within.step ?_ (setWord_within ..) rfl
        refine Within.step ?_ (setWord_within ..) rfl
        refine Within.step ?_ (setWord_within ..) rfl
        with_reducible assumption
      clear_value a11
      extract_lets +onlyGivenNames -merge a13
      clear_value a13
      split
      · dsimp -zeta only
        refine Within.step ?_ (endTrig_within ..) rfl
        with_reducible assumption
      · extract_lets +onlyGivenNames -merge a14
        clear_value a14
        extract_lets +onlyGivenNames -merge a15
        have h16 : Within Parts.trigCommit s a15 := by
          unfold a15
          refine Within.step ?_ (setTrig_within ..) rfl
          with_reducible assumption
        clear_value a15
        extract_lets +onlyGivenNames -merge a17
        have h18 : Within Parts.trigCommit s a17 := by
          unfold a17
          refine Within.step ?_ (setNotify_within ..) rfl
          refine Within.step ?_ (setFld_within ..) rfl
          with_reducible assumption
        clear_value a17
        dsimp -zeta only
        split
        · refine Within.foldl ?_ ?_
          · with_reducible assumption
          · intro x19 x20 x21
            refine Within.step ?_ (setDir_within ..) rfl
            with_reducible assumption
        · with_reducible assumption

def Parts.trigGpi : List Part := [Part.ap]
theorem trigGpi_within (s : State) (i : Nat) (t : Nat) : Within Parts.trigGpi s (State.trigGpi s i t) := by
  have h0 : Within Parts.trigGpi s s := .refl
  unfold State.trigGpi
  extract_lets +onlyGivenNames -merge a0
  clear_value a0
  refine Within.step ?_ (set_ap_within ..) rfl
  with_reducible assumption

def Parts.underrun : List Part := [Part.ap, 0x3068, 0x6048, Part.host]
theorem underrun_within (s : State) (q : Nat) (tx : Bool) (clock : Bool) : Within Parts.underrun s (State.underrun s q tx clock) := by
  have h0 : Within Parts.underrun s s := .refl
  unfold State.underrun
  split
  · with_reducible assumption
  · split
    · with_reducible assumption
    · extract_lets +onlyGivenNames -merge a0
      have h1 : Within Parts.underrun s a0 := by
        unfold a0
        refine Within.step ?_ (setStream_within ..) rfl
        with_reducible assumption
      clear_value a0
      extract_lets +onlyGivenNames -merge a2
      have h3 : Within Parts.underrun s a2 := by
        unfold a2
        refine Within.step ?_ (bump_within ..) rfl
        with_reducible assumption
      clear_value a2
      extract_lets +onlyGivenNames -merge a4
      have h5 : Within Parts.underrun s a4 := by
        unfold a4
        split
        · refine Within.step ?_ (setNotify_within ..) rfl
          with_reducible assumption
        · with_reducible assumption
      clear_value a4
      refine Within.step ?_ (setDir_within ..) rfl
      with_reducible assumption

def Parts.putStart : List Part := [0x3058, 0x3068, 0x6048, Part.host, Part.fresh, Part.ap]
theorem putStart_within (s : State) (n : Nat) (w0 : W) (w1 : W) (w2 : W) : PutWithin Parts.putStart (putStart s n w0 w1 w2) := by
  have h0 : Within Parts.putStart s s := .refl
  unfold putStart
  extract_lets +onlyGivenNames -merge a0
  extract_lets +onlyGivenNames -merge a1
  clear_value a1
  refine ⟨rfl, fun s0 => ?_⟩
  dsimp -zeta only
  have h00 : Within Parts.putStart s0 s0 := .refl
  split
  · dsimp -zeta only
    refine Within.step ?_ (setWord_within ..) rfl
    refine Within.step ?_ (setWord_within ..) rfl
    with_reducible assumption
  · refine Within.step ?_ (trigCommit_within ..) rfl
    with_reducible assumption

def Parts.execAbortTrigger : List Part := [0x3058, 0x3068, 0x6048, Part.host, Part.fresh, Part.ap, 0x1028, Part.save, Part.shadow, 0x6040, 0x7808, 0x7810, 0x7820, Part.clk, Part.sys, Part.ev, Part.pw]
theorem execAbortTrigger_within (rq : Req) (n : Nat) (w0 : W) (w1 : W) (w2 : W) (s : State) : ExecWithin Parts.execAbortTrigger s (execAbortTrigger rq n w0 w1 w2 s) := by
  have h0 : Within Parts.execAbortTrigger s s := .refl
  unfold execAbortTrigger
  extract_lets +onlyGivenNames -merge a0
  have h1 : PutWithin Parts.execAbortTrigger a0 := by
    unfold a0
    exact PutWithin.step (putStart_within ..) rfl
  clear_value a0
  refine ⟨_, rfl, ?_⟩
  refine request_within rfl ?_ ?_
  · with_reducible assumption
  · with_reducible assumption

def Parts.execAsrcLock : List Part := [0x3060, Part.ap, Part.tw]
theorem execAsrcLock_within (e : Nat) (ratio : Int) (s : State) : ExecWithin Parts.execAsrcLock s (execAsrcLock e ratio s) := by
  have h0 : Within Parts.execAsrcLock s s := .refl
  unfold execAsrcLock
  refine ⟨_, rfl, ?_⟩
  refine Within.step ?_ (asrcLock_within ..) rfl
  with_reducible assumption

def Parts.execAsrcUnlock : List Part := [Part.ap, 0x3060, Part.tw]
theorem execAsrcUnlock_within (e : Nat) (s : State) : ExecWithin Parts.execAsrcUnlock s (execAsrcUnlock e s) := by
  have h0 : Within Parts.execAsrcUnlock s s := .refl
  unfold execAsrcUnlock
  refine ⟨_, rfl, ?_⟩
  refine Within.step ?_ (asrcUnlock_within ..) rfl
  with_reducible assumption

def Parts.putAsrc : List Part := [0x3060, Part.ap, 0x1028, Part.save]
theorem putAsrc_within (s : State) (e : Nat) (v : W) : PutWithin Parts.putAsrc (putAsrc s e v) := by
  have h0 : Within Parts.putAsrc s s := .refl
  unfold putAsrc
  refine ⟨rfl, fun s0 => ?_⟩
  dsimp -zeta only
  have h00 : Within Parts.putAsrc s0 s0 := .refl
  extract_lets +onlyGivenNames -merge a0
  clear_value a0
  extract_lets +onlyGivenNames -merge a1
  clear_value a1
  split
  · with_reducible assumption
  · split
    · with_reducible assumption
    · split
      · with_reducible assumption
      · split
        · with_reducible assumption
        · dsimp -zeta only
          refine Within.step ?_ (putWord_within ..) rfl
          refine Within.step ?_ (asrcFade_within ..) rfl
          with_reducible assumption

def Parts.execAuAsrcWrite : List Part := [0x3060, Part.ap, 0x1028, Part.save, Part.shadow, 0x6040, 0x6048, 0x7808, 0x7810, 0x7820, Part.clk, Part.sys, Part.host, Part.ev, Part.pw]
theorem execAuAsrcWrite_within (rq : Req) (e : Nat) (v : W) (s : State) : ExecWithin Parts.execAuAsrcWrite s (execAuAsrcWrite rq e v s) := by
  have h0 : Within Parts.execAuAsrcWrite s s := .refl
  unfold execAuAsrcWrite
  extract_lets +onlyGivenNames -merge a0
  have h1 : PutWithin Parts.execAuAsrcWrite a0 := by
    unfold a0
    exact PutWithin.step (putAsrc_within ..) rfl
  clear_value a0
  refine ⟨_, rfl, ?_⟩
  refine request_within rfl ?_ ?_
  · with_reducible assumption
  · with_reducible assumption

def Parts.putAudioPort : List Part := [0x3050, 0x3040, 0x1028, Part.save, 0x3068, 0x6048, Part.host]
theorem putAudioPort_within (aes : Bool) (e : Nat) (v : W) : PutWithin Parts.putAudioPort (putAudioPort aes e v) := by
  unfold putAudioPort
  extract_lets +onlyGivenNames -merge a0
  extract_lets +onlyGivenNames -merge a1
  refine ⟨by cases ‹Bool› <;> rfl, fun s0 => ?_⟩
  dsimp -zeta only
  have h00 : Within Parts.putAudioPort s0 s0 := .refl
  extract_lets +onlyGivenNames -merge a2
  clear_value a2
  split
  · with_reducible assumption
  · dsimp -zeta only
    refine Within.step ?_ (clockSet_within ..) rfl
    refine Within.step ?_ (putWord_within ..) (by cases ‹Bool› <;> rfl)
    with_reducible assumption

def Parts.execAudioPortConfigWrite : List Part := [0x3050, 0x3040, 0x1028, Part.save, 0x3068, 0x6048, Part.host, Part.shadow, 0x6040, 0x7808, 0x7810, 0x7820, Part.clk, Part.sys, Part.ev, Part.pw]
theorem execAudioPortConfigWrite_within (rq : Req) (aes : Bool) (e : Nat) (v : W) (s : State) : ExecWithin Parts.execAudioPortConfigWrite s (execAudioPortConfigWrite rq aes e v s) := by
  have h0 : Within Parts.execAudioPortConfigWrite s s := .refl
  unfold execAudioPortConfigWrite
  extract_lets +onlyGivenNames -merge a0
  have h1 : PutWithin Parts.execAudioPortConfigWrite a0 := by
    unfold a0
    exact PutWithin.step (putAudioPort_within ..) rfl
  clear_value a0
  refine ⟨_, rfl, ?_⟩
  refine request_within rfl ?_ ?_
  · with_reducible assumption
  · with_reducible assumption

def Parts.execAudioSample : List Part := [Part.clk, Part.au, Part.ap, 0x3010, 0x3038, 0x3060, 0x3068]
theorem execAudioSample_within (vals : List (Nat × Int)) (status : List (Nat × Nat)) (codeErr : List (Nat × Nat)) (s : State) : ExecWithin Parts.execAudioSample s (execAudioSample vals status codeErr s) := by
  have h0 : Within Parts.execAudioSample s s := .refl
  unfold execAudioSample
  refine ⟨_, rfl, ?_⟩
  refine whileRunning_within  ?_ ?_
  · with_reducible assumption
  · intro x0 x1
    refine Within.step ?_ (audioSample_within ..) rfl
    with_reducible assumption

def Parts.execFsyncPictureStart : List Part := [Part.al, 0x2864, Part.au, 0x6048, Part.host, Part.tw, 0x3060, Part.ap]
theorem execFsyncPictureStart_within (p : Nat) (count : Nat) (capture : Nat) (s : State) : ExecWithin Parts.execFsyncPictureStart s (execFsyncPictureStart p count capture s) := by
  have h0 : Within Parts.execFsyncPictureStart s s := .refl
  unfold execFsyncPictureStart
  refine ⟨_, rfl, ?_⟩
  refine whileRunning_within  ?_ ?_
  · with_reducible assumption
  · intro x0 x1
    refine Within.step ?_ (asrcTrack_within ..) rfl
    refine Within.step ?_ (storeStart_within ..) rfl
    with_reducible assumption

def Parts.execMaskApply : List Part := [Part.clk, Part.ap, 0x3068, 0x6048, Part.host]
theorem execMaskApply_within (e : Nat) (frame : Nat) (s : State) : ExecWithin Parts.execMaskApply s (execMaskApply e frame s) := by
  have h0 : Within Parts.execMaskApply s s := .refl
  unfold execMaskApply
  refine ⟨_, rfl, ?_⟩
  refine Within.step ?_ (maskApply_within ..) rfl
  with_reducible assumption

def Parts.putMask : List Part := [0x3048, Part.ap, 0x1028, Part.save, 0x3068, 0x6048, Part.host]
theorem putMask_within (e : Nat) (v : W) : PutWithin Parts.putMask (putMask e v) := by
  unfold putMask
  refine ⟨rfl, fun s0 => ?_⟩
  dsimp -zeta only
  have h00 : Within Parts.putMask s0 s0 := .refl
  split
  · with_reducible assumption
  · dsimp -zeta only
    refine Within.step ?_ (stageMask_within ..) rfl
    with_reducible assumption

def Parts.execMaskWrite : List Part := [0x3048, Part.ap, 0x1028, Part.save, 0x3068, 0x6048, Part.host, Part.shadow, 0x6040, 0x7808, 0x7810, 0x7820, Part.clk, Part.sys, Part.ev, Part.pw]
theorem execMaskWrite_within (rq : Req) (e : Nat) (v : W) (s : State) : ExecWithin Parts.execMaskWrite s (execMaskWrite rq e v s) := by
  have h0 : Within Parts.execMaskWrite s s := .refl
  unfold execMaskWrite
  extract_lets +onlyGivenNames -merge a0
  have h1 : PutWithin Parts.execMaskWrite a0 := by
    unfold a0
    exact PutWithin.step (putMask_within ..) rfl
  clear_value a0
  refine ⟨_, rfl, ?_⟩
  refine request_within rfl ?_ ?_
  · with_reducible assumption
  · with_reducible assumption

def Parts.execStartTrigger : List Part := [0x3058, 0x3068, 0x6048, Part.host, Part.fresh, Part.ap, 0x1028, Part.save, Part.shadow, 0x6040, 0x7808, 0x7810, 0x7820, Part.clk, Part.sys, Part.ev, Part.pw]
theorem execStartTrigger_within (rq : Req) (n : Nat) (w0 : W) (w1 : W) (w2 : W) (s : State) : ExecWithin Parts.execStartTrigger s (execStartTrigger rq n w0 w1 w2 s) := by
  have h0 : Within Parts.execStartTrigger s s := .refl
  unfold execStartTrigger
  extract_lets +onlyGivenNames -merge a0
  have h1 : PutWithin Parts.execStartTrigger a0 := by
    unfold a0
    exact PutWithin.step (putStart_within ..) rfl
  clear_value a0
  refine ⟨_, rfl, ?_⟩
  refine request_within rfl ?_ ?_
  · with_reducible assumption
  · with_reducible assumption

def Parts.execStopTrigger : List Part := [0x3058, 0x3068, 0x6048, Part.host, Part.fresh, Part.ap, 0x1028, Part.save, Part.shadow, 0x6040, 0x7808, 0x7810, 0x7820, Part.clk, Part.sys, Part.ev, Part.pw]
theorem execStopTrigger_within (rq : Req) (n : Nat) (w0 : W) (w1 : W) (w2 : W) (s : State) : ExecWithin Parts.execStopTrigger s (execStopTrigger rq n w0 w1 w2 s) := by
  have h0 : Within Parts.execStopTrigger s s := .refl
  unfold execStopTrigger
  extract_lets +onlyGivenNames -merge a0
  have h1 : PutWithin Parts.execStopTrigger a0 := by
    unfold a0
    exact PutWithin.step (putStart_within ..) rfl
  clear_value a0
  refine ⟨_, rfl, ?_⟩
  refine request_within rfl ?_ ?_
  · with_reducible assumption
  · with_reducible assumption

def Parts.execStreamOffrate : List Part := [0x3068, 0x6048, Part.host]
theorem execStreamOffrate_within (e : Nat) (off : Int) (s : State) : ExecWithin Parts.execStreamOffrate s (execStreamOffrate e off s) := by
  have h0 : Within Parts.execStreamOffrate s s := .refl
  unfold execStreamOffrate
  refine ⟨_, rfl, ?_⟩
  refine Within.step ?_ (offrate_within ..) rfl
  with_reducible assumption

def Parts.execStreamPhaseSlip : List Part := [Part.ap, 0x3068, Part.ev, Part.host, Part.clk, 0x7820, 0x6048, 0x7808, Part.sys, 0x7810]
theorem execStreamPhaseSlip_within (e : Nat) (tx : Bool) (rep : Bool) (s : State) : ExecWithin Parts.execStreamPhaseSlip s (execStreamPhaseSlip e tx rep s) := by
  have h0 : Within Parts.execStreamPhaseSlip s s := .refl
  unfold execStreamPhaseSlip
  refine ⟨_, rfl, ?_⟩
  refine Within.step ?_ (phaseSlip_within ..) rfl
  with_reducible assumption

def Parts.execStreamRejoin : List Part := [Part.ap, 0x3068, 0x6048, Part.host, Part.ev, Part.clk, 0x7820, 0x7808, Part.sys, 0x7810]
theorem execStreamRejoin_within (e : Nat) (tx : Bool) (s : State) : ExecWithin Parts.execStreamRejoin s (execStreamRejoin e tx s) := by
  have h0 : Within Parts.execStreamRejoin s s := .refl
  unfold execStreamRejoin
  refine ⟨_, rfl, ?_⟩
  refine Within.step ?_ (rejoin_within ..) rfl
  with_reducible assumption

def Parts.execStreamUnderrun : List Part := [Part.ap, 0x3068, 0x6048, Part.host]
theorem execStreamUnderrun_within (e : Nat) (tx : Bool) (clock : Bool) (s : State) : ExecWithin Parts.execStreamUnderrun s (execStreamUnderrun e tx clock s) := by
  have h0 : Within Parts.execStreamUnderrun s s := .refl
  unfold execStreamUnderrun
  refine ⟨_, rfl, ?_⟩
  refine Within.step ?_ (underrun_within ..) rfl
  with_reducible assumption

def Parts.execTriggerAct : List Part := [Part.clk, Part.fresh, Part.ap, 0x3068, 0x6048, Part.host, Part.ev, 0x7820, 0x7808, Part.sys, 0x7810, 0x3058]
theorem execTriggerAct_within (n : Nat) (s : State) : ExecWithin Parts.execTriggerAct s (execTriggerAct n s) := by
  have h0 : Within Parts.execTriggerAct s s := .refl
  unfold execTriggerAct
  refine ⟨_, rfl, ?_⟩
  refine Within.step ?_ (trigAct_within ..) rfl
  with_reducible assumption

end Sys2Proof.Machine
end

