-- ==== Sys2Proof/Laws/WithinEngines.lean ====
section
/-! SUPPORT. What the operations of Machine/Engines.lean may change: for each the parts of the state, and that it keeps to them. -/
namespace Sys2Proof.Machine

def Parts.abandonMove : List Part := [Part.ic, 0x6820, 0x6048, Part.host]
theorem abandonMove_within (s : State) (e : Nat) : Within Parts.abandonMove s (State.abandonMove s e) := by
  have h0 : Within Parts.abandonMove s s := .refl
  unfold State.abandonMove
  split
  · with_reducible assumption
  · extract_lets +onlyGivenNames -merge a0
    clear_value a0
    extract_lets +onlyGivenNames -merge a1
    have h2 : Within Parts.abandonMove s a1 := by
      unfold a1
      refine Within.step ?_ (set_ic_within ..) rfl
      with_reducible assumption
    clear_value a1
    extract_lets +onlyGivenNames -merge a3
    have h4 : Within Parts.abandonMove s a3 := by
      unfold a3
      split
      · with_reducible assumption
      · refine Within.step ?_ (setEngine_within ..) rfl
        with_reducible assumption
    clear_value a3
    refine Within.step ?_ (setEngine_within ..) rfl
    with_reducible assumption

def Parts.answered : List Part := [Part.ic]
theorem answered_within (s : State) (code : Nat) (data : List Byte) : Within Parts.answered s (State.answered s code data) := by
  have h0 : Within Parts.answered s s := .refl
  unfold State.answered
  refine Within.step ?_ (set_ic_within ..) rfl
  with_reducible assumption

def Parts.accessError : List Part := [Part.fresh, 0x681c, Part.ic, Part.ev, Part.host, Part.clk, 0x7820, 0x6048, 0x7808, Part.sys, 0x7810]
theorem accessError_within (s : State) (d : Nat) (master : Nat) (addr : Nat) (len : Nat) (write : Bool) : Within Parts.accessError s (State.accessError s d master addr len write) := by
  have h0 : Within Parts.accessError s s := .refl
  unfold State.accessError
  extract_lets +onlyGivenNames -merge a0
  have h1 : Within Parts.accessError s a0.1 := by
    unfold a0
    refine Within.step ?_ (takeFree_within ..) rfl
    with_reducible assumption
  clear_value a0
  extract_lets +onlyGivenNames -merge a2
  extract_lets +onlyGivenNames -merge a3
  have h4 : Within Parts.accessError s a3 := by
    unfold a3
    split
    · with_reducible assumption
    · with_reducible assumption
  clear_value a3
  extract_lets +onlyGivenNames -merge a5
  have h6 : Within Parts.accessError s a5 := by
    unfold a5
    refine Within.step ?_ (answered_within ..) rfl
    refine Within.step ?_ (bump_within ..) rfl
    with_reducible assumption
  clear_value a5
  refine Within.step ?_ (raise_within ..) rfl
  with_reducible assumption

def Parts.dropMonitors : List Part := [Part.ic]
theorem dropMonitors_within (s : State) (p : Monitor → Bool) : Within Parts.dropMonitors s (State.dropMonitors s p) := by
  have h0 : Within Parts.dropMonitors s s := .refl
  unfold State.dropMonitors
  refine Within.step ?_ (set_ic_within ..) rfl
  with_reducible assumption

def Parts.targetWrite : List Part := [Part.ic]
theorem targetWrite_within (s : State) (d : Nat) (t : Nat) (a : Nat) (l : List Byte) : Within Parts.targetWrite s (State.targetWrite s d t a l) := by
  have h0 : Within Parts.targetWrite s s := .refl
  unfold State.targetWrite
  split
  · extract_lets +onlyGivenNames -merge a0
    refine Within.step ?_ (set_ic_within ..) rfl
    with_reducible assumption
  · with_reducible assumption

def Parts.writeGranules : List Part := [Part.ic]
theorem writeGranules_within (s : State) (d : Nat) (master : Nat) (t : Nat) (a : Nat) (l : List Byte) : Within Parts.writeGranules s (State.writeGranules s d master t a l) := by
  have h0 : Within Parts.writeGranules s s := .refl
  unfold State.writeGranules
  refine Within.step ?_ (dropMonitors_within ..) rfl
  refine Within.step ?_ (targetWrite_within ..) rfl
  with_reducible assumption

def Parts.beatsDone : List Part := [0x681c, Part.ic]
theorem beatsDone_within (s : State) (d : Nat) (b : Burst) : Within Parts.beatsDone s (State.beatsDone s d b) := by
  have h0 : Within Parts.beatsDone s s := .refl
  unfold State.beatsDone
  split
  · with_reducible assumption
  · extract_lets +onlyGivenNames -merge a0
    extract_lets +onlyGivenNames -merge a1
    have h2 : Within Parts.beatsDone s a1 := by
      unfold a1
      refine Within.step ?_ (bump_within ..) rfl
      with_reducible assumption
    clear_value a1
    split
    · refine Within.step ?_ (writeGranules_within ..) rfl
      with_reducible assumption
    · with_reducible assumption

def Parts.beginMove : List Part := [Part.ic, 0x6820, 0x6048, Part.host]
theorem beginMove_within (s : State) (e : Nat) (n : Nat) (retire : Bool) : Within Parts.beginMove s (State.beginMove s e n retire) := by
  have h0 : Within Parts.beginMove s s := .refl
  unfold State.beginMove
  extract_lets +onlyGivenNames -merge a0
  clear_value a0
  extract_lets +onlyGivenNames -merge a1
  have h2 : Within Parts.beginMove s a1 := by
    unfold a1
    refine Within.step ?_ (set_ic_within ..) rfl
    with_reducible assumption
  clear_value a1
  extract_lets +onlyGivenNames -merge a3
  have h4 : Within Parts.beginMove s a3 := by
    unfold a3
    refine Within.step ?_ (setEngine_within ..) rfl
    with_reducible assumption
  clear_value a3
  split
  · with_reducible assumption
  · refine Within.step ?_ (setEngine_within ..) rfl
    with_reducible assumption

def Parts.bridgePiece : List Part := [Part.ic, Part.fresh, 0x681c, Part.ev, Part.host, Part.clk, 0x7820, 0x6048, 0x7808, Part.sys, 0x7810]
theorem bridgePiece_within (s : State) (t : Nat) (x : Piece) : Within Parts.bridgePiece s (State.bridgePiece s t x) := by
  have h0 : Within Parts.bridgePiece s s := .refl
  unfold State.bridgePiece
  extract_lets +onlyGivenNames -merge a0
  extract_lets +onlyGivenNames -merge a1
  clear_value a1
  split
  · refine Within.step ?_ (set_ic_within ..) rfl
    with_reducible assumption
  · refine Within.step ?_ (accessError_within ..) rfl
    with_reducible assumption

def Parts.expireMonitors : List Part := [Part.ic]
theorem expireMonitors_within (s : State) (t : Nat) : Within Parts.expireMonitors s (State.expireMonitors s t) := by
  have h0 : Within Parts.expireMonitors s s := .refl
  unfold State.expireMonitors
  refine Within.step ?_ (dropMonitors_within ..) rfl
  with_reducible assumption

def Parts.logAbort : List Part := [Part.ev, Part.host, Part.clk, 0x7820, 0x6048, 0x7808, Part.sys, 0x7810, 0x6818, Part.ic]
theorem logAbort_within (s : State) (d : Nat) (b : Burst) (cleared : Bool) : Within Parts.logAbort s (State.logAbort s d b cleared) := by
  have h0 : Within Parts.logAbort s s := .refl
  unfold State.logAbort
  extract_lets +onlyGivenNames -merge a0
  extract_lets +onlyGivenNames -merge a1
  clear_value a1
  extract_lets +onlyGivenNames -merge a2
  have h3 : Within Parts.logAbort s a2.1 := by
    unfold a2
    refine Within.step ?_ (raiseSeq_within ..) rfl
    with_reducible assumption
  clear_value a2
  extract_lets +onlyGivenNames -merge a4
  have h5 : Within Parts.logAbort s a4 := by
    unfold a4
    refine Within.step ?_ (setWord_within ..) rfl
    refine Within.step ?_ (setWord_within ..) rfl
    with_reducible assumption
  clear_value a4
  refine Within.step ?_ (set_ic_within ..) rfl
  with_reducible assumption

def Parts.pieceFails : List Part := [Part.ic, 0x681c, Part.ev, Part.host, Part.clk, 0x7820, 0x6048, 0x7808, Part.sys, 0x7810, 0x6818]
theorem pieceFails_within (s : State) (target : Nat) (x : Piece) : Within Parts.pieceFails s (State.pieceFails s target x) := by
  have h0 : Within Parts.pieceFails s s := .refl
  unfold State.pieceFails
  extract_lets +onlyGivenNames -merge a0
  clear_value a0
  extract_lets +onlyGivenNames -merge a1
  clear_value a1
  extract_lets +onlyGivenNames -merge a2
  have h3 : Within Parts.pieceFails s a2 := by
    unfold a2
    refine Within.step ?_ (set_ic_within ..) rfl
    with_reducible assumption
  clear_value a2
  extract_lets +onlyGivenNames -merge a4
  have h5 : Within Parts.pieceFails s a4 := by
    unfold a4
    refine Within.step ?_ (answered_within ..) rfl
    refine Within.step ?_ (bump_within ..) rfl
    with_reducible assumption
  clear_value a4
  refine Within.step ?_ (logAbort_within ..) rfl
  with_reducible assumption

def Parts.freeBytes : List Part := [Part.fresh]
theorem freeBytes_within (s : State) (n : Nat) : Within Parts.freeBytes s (State.freeBytes s n).2 := by
  have h0 : Within Parts.freeBytes s s := .refl
  unfold State.freeBytes
  dsimp -zeta only
  refine Within.step ?_ (set_fresh_within ..) rfl
  with_reducible assumption

def Parts.targetRead : List Part := [Part.fresh]
theorem targetRead_within (s : State) (d : Nat) (t : Nat) (a : Nat) (n : Nat) : Within Parts.targetRead s (State.targetRead s d t a n).2 := by
  have h0 : Within Parts.targetRead s s := .refl
  unfold State.targetRead
  split
  · with_reducible assumption
  · refine Within.step ?_ (freeBytes_within ..) rfl
    with_reducible assumption

def Parts.pieceRead : List Part := [Part.fresh, Part.ic]
theorem pieceRead_within (s : State) (target : Nat) (x : Piece) : Within Parts.pieceRead s (State.pieceRead s target x) := by
  have h0 : Within Parts.pieceRead s s := .refl
  unfold State.pieceRead
  extract_lets +onlyGivenNames -merge a0
  have h1 : Within Parts.pieceRead s a0.2 := by
    unfold a0
    refine Within.step ?_ (targetRead_within ..) rfl
    with_reducible assumption
  clear_value a0
  extract_lets +onlyGivenNames -merge a2
  have h3 : Within Parts.pieceRead s a2 := by
    unfold a2
    with_reducible assumption
  clear_value a2
  extract_lets +onlyGivenNames -merge a4
  clear_value a4
  extract_lets +onlyGivenNames -merge a5
  clear_value a5
  extract_lets +onlyGivenNames -merge a6
  clear_value a6
  split
  · refine Within.step ?_ (answered_within ..) rfl
    refine Within.step ?_ (set_ic_within ..) rfl
    with_reducible assumption
  · refine Within.step ?_ (set_ic_within ..) rfl
    with_reducible assumption

def Parts.carriedPiece : List Part := [Part.ic, Part.fresh]
theorem carriedPiece_within (s : State) (target : Nat) (t : Nat) (x : Piece) : Within Parts.carriedPiece s (State.carriedPiece s target t x) := by
  have h0 : Within Parts.carriedPiece s s := .refl
  unfold State.carriedPiece
  extract_lets +onlyGivenNames -merge a0
  clear_value a0
  extract_lets +onlyGivenNames -merge a1
  have h2 : Within Parts.carriedPiece s a1 := by
    unfold a1
    refine Within.step ?_ (expireMonitors_within ..) rfl
    with_reducible assumption
  clear_value a1
  extract_lets +onlyGivenNames -merge a3
  clear_value a3
  extract_lets +onlyGivenNames -merge a4
  have h5 : ∀ y0, (Within Parts.carriedPiece s y0) → Within Parts.carriedPiece s (a4 y0) := by
    intro x6 hx7
    unfold a4
    refine Within.step ?_ (writeGranules_within ..) rfl
    with_reducible assumption
  clear_value a4
  split
  · split
    · extract_lets +onlyGivenNames -merge a8
      have h9 : Within Parts.carriedPiece s a8 := by
        unfold a8
        refine Within.step ?_ (dropMonitors_within ..) rfl
        with_reducible assumption
      clear_value a8
      split
      · refine Within.step ?_ (answered_within ..) rfl
        apply h5
        with_reducible assumption
      · refine Within.step ?_ (answered_within ..) rfl
        with_reducible assumption
    · split
      · refine Within.step ?_ (answered_within ..) rfl
        apply h5
        with_reducible assumption
      · apply h5
        with_reducible assumption
  · split
    · extract_lets +onlyGivenNames -merge a10
      have h11 : Within Parts.carriedPiece s a10 := by
        unfold a10
        refine Within.step ?_ (dropMonitors_within ..) rfl
        with_reducible assumption
      clear_value a10
      refine Within.step ?_ (pieceRead_within ..) rfl
      refine Within.step ?_ (set_ic_within ..) rfl
      with_reducible assumption
    · refine Within.step ?_ (pieceRead_within ..) rfl
      with_reducible assumption

def Parts.grant : List Part := [0x681c, Part.ic, Part.fresh, Part.ev, Part.host, Part.clk, 0x7820, 0x6048, 0x7808, Part.sys, 0x7810, 0x6818]
theorem grant_within (s : State) (port : Nat) (t : Nat) (x : Piece) : Within Parts.grant s (State.grant s port t x) := by
  have h0 : Within Parts.grant s s := .refl
  unfold State.grant
  extract_lets +onlyGivenNames -merge a0
  extract_lets +onlyGivenNames -merge a1
  extract_lets +onlyGivenNames -merge a2
  extract_lets +onlyGivenNames -merge a3
  have h4 : Within Parts.grant s a3 := by
    unfold a3
    refine Within.step ?_ (bump_within ..) rfl
    with_reducible assumption
  clear_value a3
  extract_lets +onlyGivenNames -merge a5
  have h6 : Within Parts.grant s a5 := by
    unfold a5
    refine Within.step ?_ (setFld_within ..) rfl
    with_reducible assumption
  clear_value a5
  extract_lets +onlyGivenNames -merge a7
  have h8 : Within Parts.grant s a7 := by
    unfold a7
    split
    · refine Within.step ?_ (bump_within ..) rfl
      with_reducible assumption
    · with_reducible assumption
  clear_value a7
  extract_lets +onlyGivenNames -merge a9
  clear_value a9
  extract_lets +onlyGivenNames -merge a10
  have h11 : Within Parts.grant s a10 := by
    unfold a10
    refine Within.step ?_ (set_ic_within ..) rfl
    with_reducible assumption
  clear_value a10
  split
  · refine Within.step ?_ (bridgePiece_within ..) rfl
    with_reducible assumption
  · split
    · refine Within.step ?_ (pieceFails_within ..) rfl
      with_reducible assumption
    · refine Within.step ?_ (carriedPiece_within ..) rfl
      with_reducible assumption

def Parts.runPort : List Part := [0x681c, Part.ic, Part.fresh, Part.ev, Part.host, Part.clk, 0x7820, 0x6048, 0x7808, Part.sys, 0x7810, 0x6818]
theorem runPort_within (s : State) (port n : Nat) : Within Parts.runPort s (s.runPort port n) := by
  induction n generalizing s with
  | zero => exact .refl
  | succ n ih =>
    unfold State.runPort
    extract_lets +onlyGivenNames -merge p
    split
    · exact .refl
    · extract_lets +onlyGivenNames -merge t
      split
      · exact .refl
      · split
        · exact .refl
        · exact (Within.step .refl (grant_within ..) rfl).trans (ih _)


def Parts.runCrossbar : List Part := [0x681c, Part.ic, Part.fresh, Part.ev, Part.host, Part.clk, 0x7820, 0x6048, 0x7808, Part.sys, 0x7810, 0x6818]
theorem runCrossbar_within (s : State) : Within Parts.runCrossbar s (State.runCrossbar s) := by
  have h0 : Within Parts.runCrossbar s s := .refl
  unfold State.runCrossbar
  extract_lets +onlyGivenNames -merge a0
  clear_value a0
  refine Within.foldl ?_ ?_
  · with_reducible assumption
  · intro x1 x2 x3
    refine Within.step ?_ (runPort_within ..) rfl
    with_reducible assumption

def Parts.burstAbort : List Part := [0x681c, Part.ic, Part.fresh, Part.ev, Part.host, Part.clk, 0x7820, 0x6048, 0x7808, Part.sys, 0x7810, 0x6818]
theorem burstAbort_within (s : State) (d : Nat) (b : Burst) : Within Parts.burstAbort s (State.burstAbort s d b) := by
  have h0 : Within Parts.burstAbort s s := .refl
  unfold State.burstAbort
  split
  · with_reducible assumption
  · extract_lets +onlyGivenNames -merge a0
    have h1 : Within Parts.burstAbort s a0 := by
      unfold a0
      refine Within.step ?_ (beatsDone_within ..) rfl
      refine Within.step ?_ (expireMonitors_within ..) rfl
      refine Within.step ?_ (runCrossbar_within ..) rfl
      with_reducible assumption
    clear_value a0
    extract_lets +onlyGivenNames -merge a2
    clear_value a2
    extract_lets +onlyGivenNames -merge a3
    clear_value a3
    extract_lets +onlyGivenNames -merge a4
    clear_value a4
    extract_lets +onlyGivenNames -merge a5
    have h6 : Within Parts.burstAbort s a5 := by
      unfold a5
      refine Within.step ?_ (set_ic_within ..) rfl
      with_reducible assumption
    clear_value a5
    extract_lets +onlyGivenNames -merge a7
    have h8 : Within Parts.burstAbort s a7 := by
      unfold a7
      split
      · refine Within.step ?_ (answered_within ..) rfl
        refine Within.step ?_ (bump_within ..) rfl
        with_reducible assumption
      · refine Within.step ?_ (dropMonitors_within ..) rfl
        with_reducible assumption
    clear_value a7
    refine Within.step ?_ (logAbort_within ..) rfl
    with_reducible assumption

def Parts.carriedAccess : List Part := [0x681c, Part.ic, Part.fresh, Part.ev, Part.host, Part.clk, 0x7820, 0x6048, 0x7808, Part.sys, 0x7810, 0x6818]
theorem carriedAccess_within (s : State) (d : Nat) (master : Nat) (x : Access) : Within Parts.carriedAccess s (State.carriedAccess s d master x) := by
  have h0 : Within Parts.carriedAccess s s := .refl
  unfold State.carriedAccess
  extract_lets +onlyGivenNames -merge a0
  have h1 : Within Parts.carriedAccess s a0 := by
    unfold a0
    refine Within.step ?_ (runCrossbar_within ..) rfl
    with_reducible assumption
  clear_value a0
  extract_lets +onlyGivenNames -merge a2
  clear_value a2
  refine Within.step ?_ (runCrossbar_within ..) rfl
  refine Within.step ?_ (set_ic_within ..) rfl
  with_reducible assumption

def Parts.countCrc : List Part := [0x6838, Part.ev, Part.host, Part.clk, 0x7820, 0x6048, 0x7808, Part.sys, 0x7810]
theorem countCrc_within (s : State) (d : Nat) (unit_ : Nat) (result : Nat) : Within Parts.countCrc s (State.countCrc s d unit_ result) := by
  have h0 : Within Parts.countCrc s s := .refl
  unfold State.countCrc
  extract_lets +onlyGivenNames -merge a0
  have h1 : Within Parts.countCrc s a0 := by
    unfold a0
    refine Within.step ?_ (bump_within ..) rfl
    with_reducible assumption
  clear_value a0
  split
  · refine Within.step ?_ (bump_within ..) rfl
    with_reducible assumption
  · split
    · refine Within.step ?_ (raise_within ..) rfl
      refine Within.step ?_ (bump_within ..) rfl
      with_reducible assumption
    · split
      · refine Within.step ?_ (bump_within ..) rfl
        with_reducible assumption
      · with_reducible assumption

def Parts.countMoves : List Part := [0x6820]
theorem countMoves_within (s : State) (new : List (Bool × Nat × Nat)) : Within Parts.countMoves s (State.countMoves s new) := by
  have h0 : Within Parts.countMoves s s := .refl
  unfold State.countMoves
  extract_lets +onlyGivenNames -merge a0
  clear_value a0
  extract_lets +onlyGivenNames -merge a1
  clear_value a1
  refine Within.foldl ?_ ?_
  · with_reducible assumption
  · intro x2 x3 x4
    refine Within.step ?_ (bump_within ..) rfl
    with_reducible assumption

def Parts.crcJobDone : List Part := [0x6838, Part.ev, Part.host, Part.clk, 0x7820, 0x6048, 0x7808, Part.sys, 0x7810, 0x6830, Part.fresh]
theorem crcJobDone_within (s : State) (d : Nat) (unit_ : Nat) (x : CrcEnd) : Within Parts.crcJobDone s (State.crcJobDone s d unit_ x) := by
  have h0 : Within Parts.crcJobDone s s := .refl
  unfold State.crcJobDone
  split
  · with_reducible assumption
  · split
    · refine Within.step ?_ (countCrc_within ..) rfl
      with_reducible assumption
    · extract_lets +onlyGivenNames -merge a0
      split
      · with_reducible assumption
      · extract_lets +onlyGivenNames -merge a1
        clear_value a1
        extract_lets +onlyGivenNames -merge a2
        extract_lets +onlyGivenNames -merge a3
        have h4 : ∀ y0 y1 y2 y3, (Within Parts.crcJobDone s y0) → Within Parts.crcJobDone s (a3 y0 y1 y2 y3) := by
          intro x5 x6 x7 x8 hx9
          unfold a3
          extract_lets +onlyGivenNames -merge a10
          have h11 : Within Parts.crcJobDone s a10 := by
            unfold a10
            refine Within.step ?_ (setWord_within ..) rfl
            refine Within.step ?_ (setFld_within ..) rfl
            refine Within.step ?_ (setFld_within ..) rfl
            with_reducible assumption
          clear_value a10
          refine Within.step ?_ (setNotify_within ..) rfl
          refine Within.step ?_ (countCrc_within ..) rfl
          with_reducible assumption
        clear_value a3
        split
        · extract_lets +onlyGivenNames -merge a12
          have h13 : Within Parts.crcJobDone s a12.1 := by
            unfold a12
            refine Within.step ?_ (takeFree_within ..) rfl
            with_reducible assumption
          clear_value a12
          apply h4
          with_reducible assumption
        · extract_lets +onlyGivenNames -merge a14
          clear_value a14
          extract_lets +onlyGivenNames -merge a15
          apply h4
          with_reducible assumption

def Parts.crcProgress : List Part := [Part.fresh, 0x6830]
theorem crcProgress_within (s : State) (u : Nat) : Within Parts.crcProgress s (State.crcProgress s u) := by
  have h0 : Within Parts.crcProgress s s := .refl
  unfold State.crcProgress
  split
  · with_reducible assumption
  · extract_lets +onlyGivenNames -merge a0
    have h1 : Within Parts.crcProgress s a0.1 := by
      unfold a0
      refine Within.step ?_ (takeFree_within ..) rfl
      with_reducible assumption
    clear_value a0
    extract_lets +onlyGivenNames -merge a2
    refine Within.step ?_ (setFld_within ..) rfl
    with_reducible assumption

def Parts.decodeError : List Part := [0x681c, Part.ic, Part.fresh, Part.ev, Part.host, Part.clk, 0x7820, 0x6048, 0x7808, Part.sys, 0x7810, 0x6818]
theorem decodeError_within (s : State) (d : Nat) (master : Nat) (x : Access) : Within Parts.decodeError s (State.decodeError s d master x) := by
  have h0 : Within Parts.decodeError s s := .refl
  unfold State.decodeError
  split
  · with_reducible assumption
  · split
    · refine Within.step ?_ (carriedAccess_within ..) rfl
      with_reducible assumption
    · refine Within.step ?_ (accessError_within ..) rfl
      with_reducible assumption

def Parts.dropRam : List Part := [Part.ic]
theorem dropRam_within (s : State) (p : Nat → Bool) : Within Parts.dropRam s (State.dropRam s p) := by
  have h0 : Within Parts.dropRam s s := .refl
  unfold State.dropRam
  refine Within.step ?_ (set_ic_within ..) rfl
  with_reducible assumption

def Parts.handPorts : List Part := [Part.ic, 0x6820, 0x6048, Part.host]
theorem handPorts_within (s : State) (e : Nat) (n : Nat) : Within Parts.handPorts s (State.handPorts s e n) := by
  have h0 : Within Parts.handPorts s s := .refl
  unfold State.handPorts
  extract_lets +onlyGivenNames -merge a0
  clear_value a0
  extract_lets +onlyGivenNames -merge a1
  clear_value a1
  extract_lets +onlyGivenNames -merge a2
  have h3 : Within Parts.handPorts s a2 := by
    unfold a2
    refine Within.step ?_ (set_ic_within ..) rfl
    with_reducible assumption
  clear_value a2
  refine Within.step ?_ (setEngine_within ..) rfl
  refine Within.step ?_ (bump_within ..) rfl
  refine Within.step ?_ (bump_within ..) rfl
  with_reducible assumption

def Parts.retain : List Part := [Part.ic, 0x6820, 0x6048, Part.host, 0x1028, Part.save]
theorem retain_within (s : State) (e : Nat) : Within Parts.retain s (State.retain s e) := by
  have h0 : Within Parts.retain s s := .refl
  unfold State.retain
  extract_lets +onlyGivenNames -merge a0
  clear_value a0
  extract_lets +onlyGivenNames -merge a1
  have h2 : Within Parts.retain s a1 := by
    unfold a1
    refine Within.step ?_ (set_ic_within ..) rfl
    with_reducible assumption
  clear_value a1
  refine Within.step ?_ (markDirty_within ..) rfl
  refine Within.step ?_ (setEngine_within ..) rfl
  refine Within.step ?_ (setFld_within ..) rfl
  with_reducible assumption

def Parts.endMoves : List Part := [Part.ic, 0x6820, 0x6048, Part.host, 0x1028, Part.save]
theorem endMoves_within (s : State) : Within Parts.endMoves s (State.endMoves s) := by
  have h0 : Within Parts.endMoves s s := .refl
  unfold State.endMoves
  refine Within.foldl ?_ ?_
  · with_reducible assumption
  · intro x0 x1 x2
    extract_lets +onlyGivenNames -merge a3
    clear_value a3
    extract_lets +onlyGivenNames -merge a4
    have h5 : Within Parts.endMoves s a4 := by
      unfold a4
      refine Within.step ?_ (set_ic_within ..) rfl
      with_reducible assumption
    clear_value a4
    extract_lets +onlyGivenNames -merge a6
    have h7 : Within Parts.endMoves s a6 := by
      unfold a6
      split
      · refine Within.foldl ?_ ?_
        · with_reducible assumption
        · intro x8 x9 x10
          refine Within.step ?_ (bump_within ..) rfl
          with_reducible assumption
      · refine Within.step ?_ (handPorts_within ..) rfl
        with_reducible assumption
    clear_value a6
    split
    · refine Within.step ?_ (retain_within ..) rfl
      with_reducible assumption
    · refine Within.step ?_ (setEngine_within ..) rfl
      with_reducible assumption

def Parts.resetMaster : List Part := [0x681c, Part.ic, Part.fresh, Part.ev, Part.host, Part.clk, 0x7820, 0x6048, 0x7808, Part.sys, 0x7810, 0x6818]
theorem resetMaster_within (s : State) (d : Nat) (master : Nat) : Within Parts.resetMaster s (State.resetMaster s d master) := by
  have h0 : Within Parts.resetMaster s s := .refl
  unfold State.resetMaster
  extract_lets +onlyGivenNames -merge a0
  have h1 : Within Parts.resetMaster s a0 := by
    unfold a0
    refine Within.step ?_ (expireMonitors_within ..) rfl
    refine Within.step ?_ (runCrossbar_within ..) rfl
    with_reducible assumption
  clear_value a0
  extract_lets +onlyGivenNames -merge a2
  clear_value a2
  extract_lets +onlyGivenNames -merge a3
  clear_value a3
  extract_lets +onlyGivenNames -merge a4
  clear_value a4
  extract_lets +onlyGivenNames -merge a5
  clear_value a5
  extract_lets +onlyGivenNames -merge a6
  clear_value a6
  refine Within.foldl ?_ ?_
  · refine Within.step ?_ (dropMonitors_within ..) rfl
    refine Within.step ?_ (set_ic_within ..) rfl
    with_reducible assumption
  · intro x7 x8 x9
    refine Within.step ?_ (logAbort_within ..) rfl
    with_reducible assumption

def Parts.huntMoved : List Part := [Part.lk, 0x2858]
theorem huntMoved_within (s : State) (new : List (Bool × Nat × Nat)) : Within Parts.huntMoved s (State.huntMoved s new) := by
  have h0 : Within Parts.huntMoved s s := .refl
  unfold State.huntMoved
  refine Within.foldl ?_ ?_
  · with_reducible assumption
  · intro x0 x1 x2
    extract_lets +onlyGivenNames -merge a3
    clear_value a3
    split
    · with_reducible assumption
    · refine Within.step ?_ (bump_within ..) rfl
      refine Within.step ?_ (setRxStream_within ..) rfl
      with_reducible assumption

def Parts.engineOut : List Part := [0x6820, Part.ic, 0x6048, Part.host, 0x681c, Part.fresh, Part.ev, Part.clk, 0x7820, 0x7808, Part.sys, 0x7810, 0x6818, 0x1028, Part.save, Part.lk, 0x2858, Part.au, 0x1000]
theorem engineOut_within {l : List Part} {s r : State} {e cause : Nat} {k : State → Level → Nat → State}
    (hl : sub Parts.engineOut l = true) (h : Within l r s) (hk : ∀ x a b, Within l r x → Within l r (k x a b)) :
    Within l r (s.engineOut e cause k) := by
  have hb : ∀ {a : List Part} {t u : State}, Within l r t → Within a t u → sub a Parts.engineOut = true → Within l r u :=
    fun ht g m => ht.step g (sub_trans (b := Parts.engineOut) m hl)
  unfold State.engineOut
  extract_lets +onlyGivenNames -merge d st
  clear_value st
  split
  · exact h
  extract_lets +onlyGivenNames -merge s1
  have h1 : Within l r s1 := by
    unfold s1
    split
    · exact hb h (bump_within ..) rfl
    · exact h
  clear_value s1
  extract_lets +onlyGivenNames -merge s2
  have h2 : Within l r s2 := hb h1 (abandonMove_within ..) rfl
  clear_value s2
  extract_lets +onlyGivenNames -merge s3
  have h3 : Within l r s3 := by
    unfold s3
    split
    · exact hb h2 (resetMaster_within ..) rfl
    · exact h2
  clear_value s3
  extract_lets +onlyGivenNames -merge carries dieFault
  have hd : ∀ t, Within l r t → Within l r (dieFault t) := fun t ht => hk _ _ _ (hb ht (retain_within ..) rfl)
  clear_value dieFault carries
  split
  · extract_lets +onlyGivenNames -merge s4
    have h4 : Within l r s4 := hb h3 (setEngine_within ..) rfl
    clear_value s4
    split
    · exact hk _ _ _ (hb h4 (retain_within ..) rfl)
    · split
      · exact hk _ _ _ (hb (hb (hb h4 (huntMoved_within ..) rfl) (handPorts_within ..) rfl) (retain_within ..) rfl)
      · split
        · rename_i pl _
          extract_lets +onlyGivenNames -merge s5
          have h5 : Within l r s5 := hb (hb h4 (huntMoved_within ..) rfl) (countMoves_within ..) rfl
          clear_value s5
          exact hk _ _ _ (hb (hb h5 (set_ic_within ..) rfl) (retain_within ..) rfl)
        · exact hd _ h4
  · split
    · extract_lets +onlyGivenNames -merge moved
      split
      · extract_lets +onlyGivenNames -merge f s5 s6
        have hf : Within l r f.1 := hb h3 (takeFree_within ..) rfl
        clear_value f
        have h5 : Within l r s5 := Within.foldl hf fun t c ht => hb ht (silence_within ..) rfl
        clear_value s5
        have h6 : Within l r s6 := by
          unfold s6
          split
          · exact h5
          · exact Within.foldl h5 fun t c ht => hb ht (bump_within ..) rfl
        clear_value s6
        exact hk _ _ _ (hb h6 (retain_within ..) rfl)
      · exact hd _ h3
    · split
      · extract_lets +onlyGivenNames -merge other
        split
        · exact hd _ h3
        · extract_lets +onlyGivenNames -merge s5
          have h5 : Within l r s5 := by
            unfold s5
            split
            · exact hb h3 (setFld_within ..) rfl
            · exact h3
          clear_value s5
          exact hk _ _ _ (hb h5 (retain_within ..) rfl)
      · exact hd _ h3


def Parts.engineFail : List Part := [Part.ev, Part.host, Part.clk, 0x7820, 0x6048, 0x7808, Part.sys, 0x7810, 0x6820, Part.ic, 0x681c, Part.fresh, 0x6818, 0x1028, Part.save, Part.lk, 0x2858, Part.au, 0x1000]
theorem engineFail_within (s : State) (e : Nat) (cause : Nat) : Within Parts.engineFail s (State.engineFail s e cause) := by
  have h0 : Within Parts.engineFail s s := .refl
  unfold State.engineFail
  refine engineOut_within rfl ?_ ?_
  · with_reducible assumption
  · intro x0 x1 x2 x3
    refine Within.step ?_ (raiseAt_within ..) rfl
    with_reducible assumption

def Parts.engineTestDone : List Part := [Part.ic, 0x6820, Part.ev, 0x1028, Part.save, 0x6048, Part.host, Part.clk, 0x7820, 0x7808, Part.sys, 0x7810, 0x681c, Part.fresh, 0x6818, Part.lk, 0x2858, Part.au, 0x1000]
theorem engineTestDone_within (s : State) (e : Nat) (pass : Bool) : Within Parts.engineTestDone s (State.engineTestDone s e pass) := by
  have h0 : Within Parts.engineTestDone s s := .refl
  unfold State.engineTestDone
  split
  · with_reducible assumption
  · split
    · extract_lets +onlyGivenNames -merge a0
      clear_value a0
      extract_lets +onlyGivenNames -merge a1
      have h2 : Within Parts.engineTestDone s a1 := by
        unfold a1
        refine Within.step ?_ (set_ic_within ..) rfl
        with_reducible assumption
      clear_value a1
      split
      · extract_lets +onlyGivenNames -merge a3
        clear_value a3
        extract_lets +onlyGivenNames -merge a4
        have h5 : Within Parts.engineTestDone s a4 := by
          unfold a4
          refine Within.step ?_ (set_ic_within ..) rfl
          with_reducible assumption
        clear_value a4
        extract_lets +onlyGivenNames -merge a6
        have h7 : Within Parts.engineTestDone s a6 := by
          unfold a6
          refine Within.step ?_ (markDirty_within ..) rfl
          refine Within.step ?_ (putBack_within ..) rfl
          refine Within.step ?_ (setFld_within ..) rfl
          with_reducible assumption
        clear_value a6
        refine Within.step ?_ (setEngine_within ..) rfl
        with_reducible assumption
      · refine Within.step ?_ (setEngine_within ..) rfl
        refine Within.step ?_ (bump_within ..) rfl
        with_reducible assumption
    · split
      · refine Within.step ?_ (setEngine_within ..) rfl
        with_reducible assumption
      · refine Within.step ?_ (engineFail_within ..) rfl
        with_reducible assumption

def Parts.monitorExpire : List Part := [Part.clk, Part.ic, 0x681c, Part.fresh, Part.ev, Part.host, 0x7820, 0x6048, 0x7808, Part.sys, 0x7810, 0x6818]
theorem monitorExpire_within (s : State) (d : Nat) (master : Nat) (t : Nat) : Within Parts.monitorExpire s (State.monitorExpire s d master t) := by
  have h0 : Within Parts.monitorExpire s s := .refl
  unfold State.monitorExpire
  extract_lets +onlyGivenNames -merge a0
  clear_value a0
  split
  · with_reducible assumption
  · refine Within.step ?_ (runCrossbar_within ..) rfl
    refine Within.step ?_ (dropMonitors_within ..) rfl
    refine Within.step ?_ (waitUntil_within ..) rfl
    with_reducible assumption

def Parts.resetMasters : List Part := [0x681c, Part.ic, Part.fresh, Part.ev, Part.host, Part.clk, 0x7820, 0x6048, 0x7808, Part.sys, 0x7810, 0x6818]
theorem resetMasters_within (s : State) (l : List Nat) : Within Parts.resetMasters s (State.resetMasters s l) := by
  have h0 : Within Parts.resetMasters s s := .refl
  unfold State.resetMasters
  extract_lets +onlyGivenNames -merge a0
  clear_value a0
  refine Within.foldl ?_ ?_
  · with_reducible assumption
  · intro x1 x2 x3
    refine Within.step ?_ (resetMaster_within ..) rfl
    with_reducible assumption

def Parts.storeCrc : List Part := [0x6830]
theorem storeCrc_within (s : State) (u : Nat) (ws : List (Nat × W)) : Within Parts.storeCrc s (State.storeCrc s u ws) := by
  have h0 : Within Parts.storeCrc s s := .refl
  unfold State.storeCrc
  refine Within.foldl ?_ ?_
  · with_reducible assumption
  · intro x0 x1 x2
    refine Within.step ?_ (setWord_within ..) rfl
    with_reducible assumption

def Parts.execBurstAbort : List Part := [0x681c, Part.ic, Part.fresh, Part.ev, Part.host, Part.clk, 0x7820, 0x6048, 0x7808, Part.sys, 0x7810, 0x6818]
theorem execBurstAbort_within (d : Nat) (b : Burst) (s : State) : ExecWithin Parts.execBurstAbort s (execBurstAbort d b s) := by
  have h0 : Within Parts.execBurstAbort s s := .refl
  unfold execBurstAbort
  refine ⟨_, rfl, ?_⟩
  refine Within.step ?_ (burstAbort_within ..) rfl
  with_reducible assumption

def Parts.putCrc : List Part := [0x6830, Part.fresh, 0x681c, Part.ic, Part.ev, Part.host, Part.clk, 0x7820, 0x6048, 0x7808, Part.sys, 0x7810, 0x6818, 0x6838]
theorem putCrc_within (s : State) (rq : Req) (u : Nat) (ws : List (Nat × W)) : PutWithin Parts.putCrc (putCrc s rq u ws) := by
  have h0 : Within Parts.putCrc s s := .refl
  unfold putCrc
  extract_lets +onlyGivenNames -merge a0
  clear_value a0
  extract_lets +onlyGivenNames -merge a1
  extract_lets +onlyGivenNames -merge a2
  clear_value a2
  refine ⟨rfl, fun s0 => ?_⟩
  dsimp -zeta only
  have h00 : Within Parts.putCrc s0 s0 := .refl
  extract_lets +onlyGivenNames -merge a3
  clear_value a3
  split
  · split
    · with_reducible assumption
    · extract_lets +onlyGivenNames -merge a4
      have h5 : Within Parts.putCrc s0 a4 := by
        unfold a4
        refine Within.step ?_ (resetMaster_within ..) rfl
        refine Within.step ?_ (crcProgress_within ..) rfl
        with_reducible assumption
      clear_value a4
      extract_lets +onlyGivenNames -merge a6
      have h7 : Within Parts.putCrc s0 a6 := by
        unfold a6
        refine Within.step ?_ (bump_within ..) rfl
        with_reducible assumption
      clear_value a6
      dsimp -zeta only
      refine Within.step ?_ (setNotify_within ..) rfl
      with_reducible assumption
  · split
    · split
      · with_reducible assumption
      · split
        · with_reducible assumption
        · extract_lets +onlyGivenNames -merge a8
          have h9 : Within Parts.putCrc s0 a8 := by
            unfold a8
            refine Within.step ?_ (storeCrc_within ..) rfl
            with_reducible assumption
          clear_value a8
          extract_lets +onlyGivenNames -merge a10
          have h11 : Within Parts.putCrc s0 a10 := by
            unfold a10
            refine Within.step ?_ (setWord_within ..) rfl
            refine Within.step ?_ (setWord_within ..) rfl
            with_reducible assumption
          clear_value a10
          dsimp -zeta only
          refine Within.step ?_ (setNotify_within ..) rfl
          with_reducible assumption
    · split
      · with_reducible assumption
      · dsimp -zeta only
        refine Within.step ?_ (storeCrc_within ..) rfl
        with_reducible assumption

def Parts.execCrcAbort : List Part := [0x6830, Part.fresh, 0x681c, Part.ic, Part.ev, Part.host, Part.clk, 0x7820, 0x6048, 0x7808, Part.sys, 0x7810, 0x6818, 0x6838, 0x1028, Part.save, Part.shadow, 0x6040, Part.pw]
theorem execCrcAbort_within (rq : Req) (u : Nat) (w0 : W) (s : State) : ExecWithin Parts.execCrcAbort s (execCrcAbort rq u w0 s) := by
  have h0 : Within Parts.execCrcAbort s s := .refl
  unfold execCrcAbort
  extract_lets +onlyGivenNames -merge a0
  have h1 : PutWithin Parts.execCrcAbort a0 := by
    unfold a0
    exact PutWithin.step (putCrc_within ..) rfl
  clear_value a0
  refine ⟨_, rfl, ?_⟩
  refine request_within rfl ?_ ?_
  · with_reducible assumption
  · with_reducible assumption

def Parts.execCrcJobDone : List Part := [0x6838, Part.ev, Part.host, Part.clk, 0x7820, 0x6048, 0x7808, Part.sys, 0x7810, 0x6830, Part.fresh]
theorem execCrcJobDone_within (d : Nat) (unit_ : Nat) (x : CrcEnd) (s : State) : ExecWithin Parts.execCrcJobDone s (execCrcJobDone d unit_ x s) := by
  have h0 : Within Parts.execCrcJobDone s s := .refl
  unfold execCrcJobDone
  refine ⟨_, rfl, ?_⟩
  refine Within.step ?_ (crcJobDone_within ..) rfl
  with_reducible assumption

def Parts.execCrcStart : List Part := [0x6830, Part.fresh, 0x681c, Part.ic, Part.ev, Part.host, Part.clk, 0x7820, 0x6048, 0x7808, Part.sys, 0x7810, 0x6818, 0x6838, 0x1028, Part.save, Part.shadow, 0x6040, Part.pw]
theorem execCrcStart_within (rq : Req) (u : Nat) (ws : List W) (s : State) : ExecWithin Parts.execCrcStart s (execCrcStart rq u ws s) := by
  have h0 : Within Parts.execCrcStart s s := .refl
  unfold execCrcStart
  extract_lets +onlyGivenNames -merge a0
  have h1 : PutWithin Parts.execCrcStart a0 := by
    unfold a0
    exact PutWithin.step (putCrc_within ..) rfl
  clear_value a0
  refine ⟨_, rfl, ?_⟩
  refine request_within rfl ?_ ?_
  · with_reducible assumption
  · with_reducible assumption

def Parts.execDecodeError : List Part := [0x681c, Part.ic, Part.fresh, Part.ev, Part.host, Part.clk, 0x7820, 0x6048, 0x7808, Part.sys, 0x7810, 0x6818]
theorem execDecodeError_within (d : Nat) (master : Nat) (x : Access) (s : State) : ExecWithin Parts.execDecodeError s (execDecodeError d master x s) := by
  have h0 : Within Parts.execDecodeError s s := .refl
  unfold execDecodeError
  refine ⟨_, rfl, ?_⟩
  refine Within.step ?_ (decodeError_within ..) rfl
  with_reducible assumption

def Parts.execEngineFail : List Part := [Part.ev, Part.host, Part.clk, 0x7820, 0x6048, 0x7808, Part.sys, 0x7810, 0x6820, Part.ic, 0x681c, Part.fresh, 0x6818, 0x1028, Part.save, Part.lk, 0x2858, Part.au, 0x1000]
theorem execEngineFail_within (e : Nat) (cause : Nat) (s : State) : ExecWithin Parts.execEngineFail s (execEngineFail e cause s) := by
  have h0 : Within Parts.execEngineFail s s := .refl
  unfold execEngineFail
  refine ⟨_, rfl, ?_⟩
  refine Within.step ?_ (engineFail_within ..) rfl
  with_reducible assumption

def Parts.putEngCmd : List Part := [0x6828, Part.ic, 0x6820, 0x6048, Part.host, 0x1028, Part.save]
theorem putEngCmd_within (e : Nat) (v : W) : PutWithin Parts.putEngCmd (putEngCmd e v) := by
  unfold putEngCmd
  extract_lets +onlyGivenNames -merge a0
  extract_lets +onlyGivenNames -merge a1
  clear_value a1
  refine ⟨rfl, fun s0 => ?_⟩
  dsimp -zeta only
  have h00 : Within Parts.putEngCmd s0 s0 := .refl
  extract_lets +onlyGivenNames -merge a2
  extract_lets +onlyGivenNames -merge a3
  extract_lets +onlyGivenNames -merge a4
  clear_value a4
  split
  · with_reducible assumption
  · split
    · with_reducible assumption
    · dsimp -zeta only
      split
      · refine Within.step ?_ (beginMove_within ..) rfl
        with_reducible assumption
      · split
        · split
          · refine Within.step ?_ (beginMove_within ..) rfl
            with_reducible assumption
          · split
            · refine Within.step ?_ (beginMove_within ..) rfl
              with_reducible assumption
            · refine Within.step ?_ (retain_within ..) rfl
              with_reducible assumption
        · split
          · refine Within.step ?_ (setEngine_within ..) rfl
            refine Within.step ?_ (set_ic_within ..) rfl
            with_reducible assumption
          · refine Within.step ?_ (setEngine_within ..) rfl
            with_reducible assumption

def Parts.execEngineMove : List Part := [0x6828, Part.ic, 0x6820, 0x6048, Part.host, 0x1028, Part.save, Part.shadow, 0x6040, 0x7808, 0x7810, 0x7820, Part.clk, Part.sys, Part.ev, Part.pw]
theorem execEngineMove_within (rq : Req) (e : Nat) (v : W) (s : State) : ExecWithin Parts.execEngineMove s (execEngineMove rq e v s) := by
  have h0 : Within Parts.execEngineMove s s := .refl
  unfold execEngineMove
  extract_lets +onlyGivenNames -merge a0
  have h1 : PutWithin Parts.execEngineMove a0 := by
    unfold a0
    exact PutWithin.step (putEngCmd_within ..) rfl
  clear_value a0
  refine ⟨_, rfl, ?_⟩
  refine request_within rfl ?_ ?_
  · with_reducible assumption
  · with_reducible assumption

def Parts.execEngineRestore : List Part := [0x6828, Part.ic, 0x6820, 0x6048, Part.host, 0x1028, Part.save, Part.shadow, 0x6040, 0x7808, 0x7810, 0x7820, Part.clk, Part.sys, Part.ev, Part.pw]
theorem execEngineRestore_within (rq : Req) (e : Nat) (v : W) (s : State) : ExecWithin Parts.execEngineRestore s (execEngineRestore rq e v s) := by
  have h0 : Within Parts.execEngineRestore s s := .refl
  unfold execEngineRestore
  extract_lets +onlyGivenNames -merge a0
  have h1 : PutWithin Parts.execEngineRestore a0 := by
    unfold a0
    exact PutWithin.step (putEngCmd_within ..) rfl
  clear_value a0
  refine ⟨_, rfl, ?_⟩
  refine request_within rfl ?_ ?_
  · with_reducible assumption
  · with_reducible assumption

def Parts.execEngineRetire : List Part := [0x6828, Part.ic, 0x6820, 0x6048, Part.host, 0x1028, Part.save, Part.shadow, 0x6040, 0x7808, 0x7810, 0x7820, Part.clk, Part.sys, Part.ev, Part.pw]
theorem execEngineRetire_within (rq : Req) (e : Nat) (v : W) (s : State) : ExecWithin Parts.execEngineRetire s (execEngineRetire rq e v s) := by
  have h0 : Within Parts.execEngineRetire s s := .refl
  unfold execEngineRetire
  extract_lets +onlyGivenNames -merge a0
  have h1 : PutWithin Parts.execEngineRetire a0 := by
    unfold a0
    exact PutWithin.step (putEngCmd_within ..) rfl
  clear_value a0
  refine ⟨_, rfl, ?_⟩
  refine request_within rfl ?_ ?_
  · with_reducible assumption
  · with_reducible assumption

def Parts.execEngineTest : List Part := [0x6828, Part.ic, 0x6820, 0x6048, Part.host, 0x1028, Part.save, Part.shadow, 0x6040, 0x7808, 0x7810, 0x7820, Part.clk, Part.sys, Part.ev, Part.pw]
theorem execEngineTest_within (rq : Req) (e : Nat) (v : W) (s : State) : ExecWithin Parts.execEngineTest s (execEngineTest rq e v s) := by
  have h0 : Within Parts.execEngineTest s s := .refl
  unfold execEngineTest
  extract_lets +onlyGivenNames -merge a0
  have h1 : PutWithin Parts.execEngineTest a0 := by
    unfold a0
    exact PutWithin.step (putEngCmd_within ..) rfl
  clear_value a0
  refine ⟨_, rfl, ?_⟩
  refine request_within rfl ?_ ?_
  · with_reducible assumption
  · with_reducible assumption

def Parts.execEngineTestDone : List Part := [Part.ic, 0x6820, Part.ev, 0x1028, Part.save, 0x6048, Part.host, Part.clk, 0x7820, 0x7808, Part.sys, 0x7810, 0x681c, Part.fresh, 0x6818, Part.lk, 0x2858, Part.au, 0x1000]
theorem execEngineTestDone_within (e : Nat) (pass : Bool) (s : State) : ExecWithin Parts.execEngineTestDone s (execEngineTestDone e pass s) := by
  have h0 : Within Parts.execEngineTestDone s s := .refl
  unfold execEngineTestDone
  refine ⟨_, rfl, ?_⟩
  refine Within.step ?_ (engineTestDone_within ..) rfl
  with_reducible assumption

def Parts.execExclMonitorExpire : List Part := [Part.clk, Part.ic, 0x681c, Part.fresh, Part.ev, Part.host, 0x7820, 0x6048, 0x7808, Part.sys, 0x7810, 0x6818]
theorem execExclMonitorExpire_within (d : Nat) (master : Nat) (target : Nat) (s : State) : ExecWithin Parts.execExclMonitorExpire s (execExclMonitorExpire d master target s) := by
  have h0 : Within Parts.execExclMonitorExpire s s := .refl
  unfold execExclMonitorExpire
  refine ⟨_, rfl, ?_⟩
  refine Within.step ?_ (monitorExpire_within ..) rfl
  with_reducible assumption

def Parts.putAge : List Part := [0x680c, 0x1028, Part.save]
theorem putAge_within (v : W) : PutWithin Parts.putAge (putAge v) := by
  unfold putAge
  refine ⟨rfl, fun s0 => ?_⟩
  dsimp -zeta only
  have h00 : Within Parts.putAge s0 s0 := .refl
  refine Within.step ?_ (putWord_within ..) rfl
  with_reducible assumption

def Parts.putQos : List Part := [0x6808, 0x1028, Part.save]
theorem putQos_within (e : Nat) (v : W) : PutWithin Parts.putQos (putQos e v) := by
  unfold putQos
  extract_lets +onlyGivenNames -merge a0
  refine ⟨rfl, fun s0 => ?_⟩
  dsimp -zeta only
  have h00 : Within Parts.putQos s0 s0 := .refl
  refine Within.step ?_ (putWord_within ..) rfl
  with_reducible assumption

end Sys2Proof.Machine
end

