-- ==== Sys2Proof/Laws/WithinMacState.lean ====
section
/-! SUPPORT. What the operations of Machine/MacState.lean may change: for each the parts of the state, and that it keeps to them. -/
namespace Sys2Proof.Machine

def Parts.setTsQueue : List Part := [Part.mx]
theorem setTsQueue_within (s : State) (x : TsQueue) : Within Parts.setTsQueue s (State.setTsQueue s x) := by
  have h0 : Within Parts.setTsQueue s s := .refl
  unfold State.setTsQueue
  refine Within.step ?_ (set_mx_within ..) rfl
  with_reducible assumption

def Parts.stamp : List Part := [Part.mx, 0x4858, 0x4860, Part.host, 0x6048]
theorem stamp_within (s : State) (e seqid mtype late : Nat) (taken : Bool) : Within Parts.stamp s (s.stamp e seqid mtype late taken).1 := by
  have h0 : Within Parts.stamp s s := .refl
  have hf : ∀ t : State, Within Parts.stamp s t →
      Within Parts.stamp s (t.bump (if e % 2 = 0 then F.MX_STATS_TSOVF_RX else F.MX_STATS_TSOVF_TX) (e / 2) 1) := by
    intro t ht
    split
    · exact ht.step (bump_within ..) rfl
    · exact ht.step (bump_within ..) rfl
  unfold State.stamp
  extract_lets +onlyGivenNames -merge x t next
  split
  · extract_lets +onlyGivenNames -merge y
    exact h0.step (setTsQueue_within ..) rfl
  · extract_lets +onlyGivenNames -merge a k b c
    have ha : Within Parts.stamp s a := h0.step (setTsQueue_within ..) rfl
    have hb : Within Parts.stamp s b := ha.step (setWord_within ..) rfl
    have hc : Within Parts.stamp s c := hf b hb
    exact hc.step (notify_within c 0x4850 e) rfl

end Sys2Proof.Machine
end

