-- ==== Sys2Proof/Laws/WithinTiming.lean ====
section
/-! SUPPORT. What the operations of Machine/Timing.lean may change: for each the parts of the state, and that it keeps to them. -/
namespace Sys2Proof.Machine

def Parts.withRef : List Part := [Part.tm]
theorem withRef_within (s : State) (r : Nat) (f : RefState → RefState) : Within Parts.withRef s (State.withRef s r f) := by
  have h0 : Within Parts.withRef s s := .refl
  unfold State.withRef
  refine Within.step ?_ (withTm_within ..) rfl
  with_reducible assumption

def Parts.setQ : List Part := [0x5018, 0x6048, Part.host]
theorem setQ_within (s : State) (r : Nat) (q : Nat) : Within Parts.setQ s (State.setQ s r q) := by
  have h0 : Within Parts.setQ s s := .refl
  unfold State.setQ
  refine Within.step ?_ (setNotify_within ..) rfl
  with_reducible assumption

def Parts.disqualify : List Part := [Part.tm, 0x5018, 0x6048, Part.host]
theorem disqualify_within (s : State) (r : Nat) (cause : Nat) (goal : Nat) : Within Parts.disqualify s (State.disqualify s r cause goal) := by
  have h0 : Within Parts.disqualify s s := .refl
  unfold State.disqualify
  extract_lets +onlyGivenNames -merge a0
  extract_lets +onlyGivenNames -merge a1
  have h2 : Within Parts.disqualify s a1 := by
    unfold a1
    refine Within.step ?_ (withRef_within ..) rfl
    with_reducible assumption
  clear_value a1
  extract_lets +onlyGivenNames -merge a3
  have h4 : Within Parts.disqualify s a3 := by
    unfold a3
    split
    · refine Within.step ?_ (bump_within ..) rfl
      refine Within.step ?_ (setFld_within ..) rfl
      with_reducible assumption
    · with_reducible assumption
  clear_value a3
  refine Within.step ?_ (setQ_within ..) rfl
  with_reducible assumption

def Parts.setHist : List Part := [0x5000, Part.host, 0x6048]
theorem setHist_within (s : State) (b : Nat) : Within Parts.setHist s (State.setHist s b) := by
  have h0 : Within Parts.setHist s s := .refl
  unfold State.setHist
  extract_lets +onlyGivenNames -merge a0
  split
  · with_reducible assumption
  · extract_lets +onlyGivenNames -merge a1
    have h2 : Within Parts.setHist s a1 := by
      unfold a1
      refine Within.step ?_ (setFld_within ..) rfl
      with_reducible assumption
    clear_value a1
    split
    · extract_lets +onlyGivenNames -merge a3
      have h4 : Within Parts.setHist s a3 := by
        unfold a3
        refine Within.step ?_ (notifySub_within ..) rfl
        with_reducible assumption
      clear_value a3
      refine Within.step ?_ (withHost_within ..) rfl
      with_reducible assumption
    · with_reducible assumption

def Parts.flagDisagree : List Part := [0x5018, Part.tm, 0x6048, Part.host, 0x5000, Part.ev, Part.clk, 0x7820, 0x7808, Part.sys, 0x7810]
theorem flagDisagree_within (s : State) (r : Nat) (third : Nat) : Within Parts.flagDisagree s (State.flagDisagree s r third) := by
  have h0 : Within Parts.flagDisagree s s := .refl
  unfold State.flagDisagree
  extract_lets +onlyGivenNames -merge a0
  have h1 : Within Parts.flagDisagree s a0 := by
    unfold a0
    refine Within.step ?_ (setFld_within ..) rfl
    with_reducible assumption
  clear_value a0
  extract_lets +onlyGivenNames -merge a2
  have h3 : Within Parts.flagDisagree s a2 := by
    unfold a2
    refine Within.step ?_ (withRef_within ..) rfl
    with_reducible assumption
  clear_value a2
  extract_lets +onlyGivenNames -merge a4
  have h5 : Within Parts.flagDisagree s a4 := by
    unfold a4
    refine Within.step ?_ (disqualify_within ..) rfl
    with_reducible assumption
  clear_value a4
  extract_lets +onlyGivenNames -merge a6
  have h7 : Within Parts.flagDisagree s a6 := by
    unfold a6
    refine Within.step ?_ (setHist_within ..) rfl
    with_reducible assumption
  clear_value a6
  refine Within.step ?_ (note_within ..) rfl
  with_reducible assumption

def Parts.flagSplit : List Part := [Part.tm, 0x5018, 0x6048, Part.host, 0x5000, Part.ev, Part.clk, 0x7820, 0x7808, Part.sys, 0x7810]
theorem flagSplit_within (s : State) (r : Nat) (partner : Nat) : Within Parts.flagSplit s (State.flagSplit s r partner) := by
  have h0 : Within Parts.flagSplit s s := .refl
  unfold State.flagSplit
  extract_lets +onlyGivenNames -merge a0
  extract_lets +onlyGivenNames -merge a1
  have h2 : Within Parts.flagSplit s a1 := by
    unfold a1
    refine Within.step ?_ (withRef_within ..) rfl
    with_reducible assumption
  clear_value a1
  split
  · with_reducible assumption
  · extract_lets +onlyGivenNames -merge a3
    have h4 : Within Parts.flagSplit s a3 := by
      unfold a3
      refine Within.step ?_ (setFld_within ..) rfl
      with_reducible assumption
    clear_value a3
    extract_lets +onlyGivenNames -merge a5
    have h6 : Within Parts.flagSplit s a5 := by
      unfold a5
      split
      · with_reducible assumption
      · refine Within.step ?_ (disqualify_within ..) rfl
        with_reducible assumption
    clear_value a5
    extract_lets +onlyGivenNames -merge a7
    have h8 : Within Parts.flagSplit s a7 := by
      unfold a7
      refine Within.step ?_ (setHist_within ..) rfl
      with_reducible assumption
    clear_value a7
    refine Within.step ?_ (note_within ..) rfl
    with_reducible assumption

def Parts.checkPair : List Part := [0x5018, Part.tm, 0x6048, Part.host, 0x5000, Part.ev, Part.clk, 0x7820, 0x7808, Part.sys, 0x7810]
theorem checkPair_within (s : State) (a : Nat) (b : Nat) : Within Parts.checkPair s (State.checkPair s a b) := by
  have h0 : Within Parts.checkPair s s := .refl
  unfold State.checkPair
  split
  · extract_lets +onlyGivenNames -merge a0
    clear_value a0
    split
    · split
      · refine Within.step ?_ (flagDisagree_within ..) rfl
        with_reducible assumption
      · split
        · refine Within.step ?_ (flagDisagree_within ..) rfl
          with_reducible assumption
        · refine Within.step ?_ (flagSplit_within ..) rfl
          refine Within.step ?_ (flagSplit_within ..) rfl
          with_reducible assumption
    · refine Within.step ?_ (flagSplit_within ..) rfl
      refine Within.step ?_ (flagSplit_within ..) rfl
      with_reducible assumption
  · with_reducible assumption

def Parts.startQualify : List Part := [Part.tm, 0x5018, 0x6048, Part.host]
theorem startQualify_within (s : State) (r : Nat) : Within Parts.startQualify s (State.startQualify s r) := by
  have h0 : Within Parts.startQualify s s := .refl
  unfold State.startQualify
  refine Within.step ?_ (setQ_within ..) rfl
  refine Within.step ?_ (withRef_within ..) rfl
  with_reducible assumption

def Parts.clearDisagree : List Part := [Part.tm, 0x5018, 0x6048, Part.host]
theorem clearDisagree_within (s : State) (r : Nat) : Within Parts.clearDisagree s (State.clearDisagree s r) := by
  have h0 : Within Parts.clearDisagree s s := .refl
  unfold State.clearDisagree
  split
  · with_reducible assumption
  · split
    · refine Within.step ?_ (withRef_within ..) rfl
      with_reducible assumption
    · split
      · refine Within.step ?_ (withRef_within ..) rfl
        with_reducible assumption
      · extract_lets +onlyGivenNames -merge a0
        extract_lets +onlyGivenNames -merge a1
        have h2 : Within Parts.clearDisagree s a1 := by
          unfold a1
          refine Within.step ?_ (withRef_within ..) rfl
          with_reducible assumption
        clear_value a1
        split
        · extract_lets +onlyGivenNames -merge a3
          have h4 : Within Parts.clearDisagree s a3 := by
            unfold a3
            refine Within.step ?_ (setFld_within ..) rfl
            with_reducible assumption
          clear_value a3
          split
          · refine Within.step ?_ (startQualify_within ..) rfl
            with_reducible assumption
          · with_reducible assumption
        · with_reducible assumption

def Parts.markHistory : List Part := [0x5000]
theorem markHistory_within (s : State) : Within Parts.markHistory s (State.markHistory s) := by
  have h0 : Within Parts.markHistory s s := .refl
  unfold State.markHistory
  split
  · split
    · refine Within.step ?_ (setFld_within ..) rfl
      with_reducible assumption
    · with_reducible assumption
  · with_reducible assumption

def Parts.learnSecond : List Part := [Part.tm, 0x5048, 0x5040, 0x5000]
theorem learnSecond_within (s : State) (temp : Int) : Within Parts.learnSecond s (State.learnSecond s temp) := by
  have h0 : Within Parts.learnSecond s s := .refl
  unfold State.learnSecond
  extract_lets +onlyGivenNames -merge a0
  clear_value a0
  extract_lets +onlyGivenNames -merge a1
  extract_lets +onlyGivenNames -merge a2
  extract_lets +onlyGivenNames -merge a3
  clear_value a3
  extract_lets +onlyGivenNames -merge a4
  have h5 : Within Parts.learnSecond s a4 := by
    unfold a4
    refine Within.step ?_ (withTm_within ..) rfl
    with_reducible assumption
  clear_value a4
  extract_lets +onlyGivenNames -merge a6
  have h7 : Within Parts.learnSecond s a6 := by
    unfold a6
    refine Within.step ?_ (setFld_within ..) rfl
    with_reducible assumption
  clear_value a6
  extract_lets +onlyGivenNames -merge a8
  have h9 : Within Parts.learnSecond s a8 := by
    unfold a8
    refine Within.step ?_ (setFld_within ..) rfl
    with_reducible assumption
  clear_value a8
  extract_lets +onlyGivenNames -merge a10
  have h11 : Within Parts.learnSecond s a10 := by
    unfold a10
    refine Within.step ?_ (setFld_within ..) rfl
    with_reducible assumption
  clear_value a10
  split
  · refine Within.step ?_ (setFld_within ..) rfl
    with_reducible assumption
  · with_reducible assumption

def Parts.agreementCheck : List Part := [0x5018, Part.tm, 0x6048, Part.host, 0x5000, Part.ev, Part.clk, 0x7820, 0x7808, Part.sys, 0x7810, 0x5048, 0x5040]
theorem agreementCheck_within (s : State) (temp : Int) : Within Parts.agreementCheck s (State.agreementCheck s temp) := by
  have h0 : Within Parts.agreementCheck s s := .refl
  unfold State.agreementCheck
  extract_lets +onlyGivenNames -merge a0
  have h1 : Within Parts.agreementCheck s a0 := by
    unfold a0
    refine Within.foldl ?_ ?_
    · with_reducible assumption
    · intro x2 x3 x4
      refine Within.step ?_ (checkPair_within ..) rfl
      with_reducible assumption
  clear_value a0
  extract_lets +onlyGivenNames -merge a5
  have h6 : Within Parts.agreementCheck s a5 := by
    unfold a5
    refine Within.foldl ?_ ?_
    · with_reducible assumption
    · intro x7 x8 x9
      refine Within.step ?_ (clearDisagree_within ..) rfl
      with_reducible assumption
  clear_value a5
  extract_lets +onlyGivenNames -merge a10
  have h11 : Within Parts.agreementCheck s a10 := by
    unfold a10
    refine Within.step ?_ (withTm_within ..) rfl
    with_reducible assumption
  clear_value a10
  split
  · extract_lets +onlyGivenNames -merge a12
    have h13 : Within Parts.agreementCheck s a12 := by
      unfold a12
      refine Within.step ?_ (withTm_within ..) rfl
      with_reducible assumption
    clear_value a12
    refine Within.step ?_ (markHistory_within ..) rfl
    refine Within.step ?_ (learnSecond_within ..) rfl
    with_reducible assumption
  · with_reducible assumption

def Parts.withPtp : List Part := [Part.tm]
theorem withPtp_within (s : State) (p : Nat) (f : PtpState → PtpState) : Within Parts.withPtp s (State.withPtp s p f) := by
  have h0 : Within Parts.withPtp s s := .refl
  unfold State.withPtp
  refine Within.step ?_ (withTm_within ..) rfl
  with_reducible assumption

def Parts.setGm : List Part := [0x5030]
theorem setGm_within (s : State) (p : Nat) (g : GmData) : Within Parts.setGm s (State.setGm s p g) := by
  have h0 : Within Parts.setGm s s := .refl
  unfold State.setGm
  extract_lets +onlyGivenNames -merge a0
  have h1 : Within Parts.setGm s a0 := by
    unfold a0
    refine Within.step ?_ (setFld_within ..) rfl
    with_reducible assumption
  clear_value a0
  extract_lets +onlyGivenNames -merge a2
  have h3 : Within Parts.setGm s a2 := by
    unfold a2
    refine Within.step ?_ (setFld_within ..) rfl
    with_reducible assumption
  clear_value a2
  extract_lets +onlyGivenNames -merge a4
  have h5 : Within Parts.setGm s a4 := by
    unfold a4
    refine Within.step ?_ (setFld_within ..) rfl
    with_reducible assumption
  clear_value a4
  extract_lets +onlyGivenNames -merge a6
  have h7 : Within Parts.setGm s a6 := by
    unfold a6
    refine Within.step ?_ (setFld_within ..) rfl
    with_reducible assumption
  clear_value a6
  extract_lets +onlyGivenNames -merge a8
  have h9 : Within Parts.setGm s a8 := by
    unfold a8
    refine Within.step ?_ (setFld_within ..) rfl
    with_reducible assumption
  clear_value a8
  extract_lets +onlyGivenNames -merge a10
  have h11 : Within Parts.setGm s a10 := by
    unfold a10
    refine Within.step ?_ (setFld_within ..) rfl
    with_reducible assumption
  clear_value a10
  refine Within.step ?_ (setFld_within ..) rfl
  with_reducible assumption

def Parts.refLost : List Part := [Part.tm, 0x5018, 0x6048, Part.host]
theorem refLost_within (s : State) (r : Nat) (cause : Nat) : Within Parts.refLost s (State.refLost s r cause) := by
  have h0 : Within Parts.refLost s s := .refl
  unfold State.refLost
  extract_lets +onlyGivenNames -merge a0
  have h1 : Within Parts.refLost s a0 := by
    unfold a0
    refine Within.step ?_ (withRef_within ..) rfl
    with_reducible assumption
  clear_value a0
  split
  · refine Within.step ?_ (disqualify_within ..) rfl
    with_reducible assumption
  · with_reducible assumption

def Parts.ptpFree : List Part := [Part.tm, 0x5018, 0x6048, Part.host, 0x5030]
theorem ptpFree_within (s : State) (p : Nat) (st : Nat) (g : GmData) : Within Parts.ptpFree s (State.ptpFree s p st g) := by
  have h0 : Within Parts.ptpFree s s := .refl
  unfold State.ptpFree
  extract_lets +onlyGivenNames -merge a0
  have h1 : Within Parts.ptpFree s a0 := by
    unfold a0
    refine Within.step ?_ (withPtp_within ..) rfl
    with_reducible assumption
  clear_value a0
  refine Within.step ?_ (setNotify_within ..) rfl
  refine Within.step ?_ (setGm_within ..) rfl
  refine Within.step ?_ (refLost_within ..) rfl
  with_reducible assumption

def Parts.bmca : List Part := [Part.tm, 0x5018, 0x6048, Part.host, 0x5030]
theorem bmca_within (s : State) (p : Nat) : Within Parts.bmca s (State.bmca s p) := by
  have h0 : Within Parts.bmca s s := .refl
  unfold State.bmca
  extract_lets +onlyGivenNames -merge a0
  clear_value a0
  split
  · split
    · refine Within.step ?_ (ptpFree_within ..) rfl
      with_reducible assumption
    · refine Within.step ?_ (ptpFree_within ..) rfl
      with_reducible assumption
  · split
    · refine Within.step ?_ (ptpFree_within ..) rfl
      with_reducible assumption
    · split
      · refine Within.step ?_ (ptpFree_within ..) rfl
        with_reducible assumption
      · extract_lets +onlyGivenNames -merge a1
        have h2 : Within Parts.bmca s a1 := by
          unfold a1
          refine Within.step ?_ (setGm_within ..) rfl
          with_reducible assumption
        clear_value a1
        split
        · with_reducible assumption
        · extract_lets +onlyGivenNames -merge a3
          have h4 : Within Parts.bmca s a3 := by
            unfold a3
            refine Within.step ?_ (withPtp_within ..) rfl
            with_reducible assumption
          clear_value a3
          extract_lets +onlyGivenNames -merge a5
          have h6 : Within Parts.bmca s a5 := by
            unfold a5
            refine Within.step ?_ (refLost_within ..) rfl
            with_reducible assumption
          clear_value a5
          refine Within.step ?_ (setNotify_within ..) rfl
          with_reducible assumption

def Parts.announceTimeout : List Part := [0x5030, Part.tm, 0x5018, 0x6048, Part.host]
theorem announceTimeout_within (s : State) (p : Nat) : Within Parts.announceTimeout s (State.announceTimeout s p) := by
  have h0 : Within Parts.announceTimeout s s := .refl
  unfold State.announceTimeout
  split
  · with_reducible assumption
  · extract_lets +onlyGivenNames -merge a0
    have h1 : Within Parts.announceTimeout s a0 := by
      unfold a0
      refine Within.step ?_ (bump_within ..) rfl
      with_reducible assumption
    clear_value a0
    extract_lets +onlyGivenNames -merge a2
    have h3 : Within Parts.announceTimeout s a2 := by
      unfold a2
      refine Within.step ?_ (withPtp_within ..) rfl
      with_reducible assumption
    clear_value a2
    refine Within.step ?_ (bmca_within ..) rfl
    with_reducible assumption

def Parts.beginQualify : List Part := [Part.tm, 0x5018, 0x6048, Part.host]
theorem beginQualify_within (s : State) (r : Nat) : Within Parts.beginQualify s (State.beginQualify s r) := by
  have h0 : Within Parts.beginQualify s s := .refl
  unfold State.beginQualify
  split
  · refine Within.step ?_ (startQualify_within ..) rfl
    with_reducible assumption
  · refine Within.step ?_ (setQ_within ..) rfl
    refine Within.step ?_ (withRef_within ..) rfl
    with_reducible assumption

def Parts.checkStayRefs : List Part := [Part.tm, 0x5018, 0x6048, Part.host]
theorem checkStayRefs_within (s : State) : Within Parts.checkStayRefs s (State.checkStayRefs s) := by
  have h0 : Within Parts.checkStayRefs s s := .refl
  unfold State.checkStayRefs
  refine Within.foldl ?_ ?_
  · with_reducible assumption
  · intro x0 x1 x2
    split
    · refine Within.step ?_ (refLost_within ..) rfl
      with_reducible assumption
    · with_reducible assumption

def Parts.endSplit : List Part := [Part.tm, 0x5018]
theorem endSplit_within (s : State) (r : Nat) : Within Parts.endSplit s (State.endSplit s r) := by
  have h0 : Within Parts.endSplit s s := .refl
  unfold State.endSplit
  extract_lets +onlyGivenNames -merge a0
  have h1 : Within Parts.endSplit s a0 := by
    unfold a0
    refine Within.foldl ?_ ?_
    · with_reducible assumption
    · intro x2 x3 x4
      split
      · extract_lets +onlyGivenNames -merge a5
        have h6 : Within Parts.endSplit s a5 := by
          unfold a5
          refine Within.step ?_ (withRef_within ..) rfl
          with_reducible assumption
        clear_value a5
        split
        · refine Within.step ?_ (setFld_within ..) rfl
          with_reducible assumption
        · with_reducible assumption
      · with_reducible assumption
  clear_value a0
  refine Within.step ?_ (withRef_within ..) rfl
  refine Within.step ?_ (setFld_within ..) rfl
  with_reducible assumption

def Parts.setFrac : List Part := [Part.clk]
theorem setFrac_within (s : State) (y : Int) : Within Parts.setFrac s (State.setFrac s y) := by
  have h0 : Within Parts.setFrac s s := .refl
  unfold State.setFrac
  refine Within.step ?_ (set_clk_within ..) rfl
  with_reducible assumption

def Parts.holdRate : List Part := [Part.tm, Part.clk]
theorem holdRate_within (s : State) (temp : Int) : Within Parts.holdRate s (State.holdRate s temp) := by
  have h0 : Within Parts.holdRate s s := .refl
  unfold State.holdRate
  split
  · extract_lets +onlyGivenNames -merge a0
    clear_value a0
    refine Within.step ?_ (setFrac_within ..) rfl
    refine Within.step ?_ (withTm_within ..) rfl
    with_reducible assumption
  · with_reducible assumption

def Parts.enterTiming : List Part := [0x5000, Part.tm, Part.clk, Part.host, 0x6048, Part.ev, 0x7820, 0x7808, Part.sys, 0x7810]
theorem enterTiming_within (s : State) (n : Nat) : Within Parts.enterTiming s (State.enterTiming s n) := by
  have h0 : Within Parts.enterTiming s s := .refl
  unfold State.enterTiming
  extract_lets +onlyGivenNames -merge a0
  split
  · with_reducible assumption
  · extract_lets +onlyGivenNames -merge a1
    have h2 : Within Parts.enterTiming s a1 := by
      unfold a1
      refine Within.step ?_ (setFld_within ..) rfl
      with_reducible assumption
    clear_value a1
    extract_lets +onlyGivenNames -merge a3
    have h4 : Within Parts.enterTiming s a3 := by
      unfold a3
      refine Within.step ?_ (withTm_within ..) rfl
      with_reducible assumption
    clear_value a3
    extract_lets +onlyGivenNames -merge a5
    have h6 : Within Parts.enterTiming s a5 := by
      unfold a5
      split
      · refine Within.step ?_ (holdRate_within ..) rfl
        with_reducible assumption
      · with_reducible assumption
    clear_value a5
    extract_lets +onlyGivenNames -merge a7
    have h8 : Within Parts.enterTiming s a7 := by
      unfold a7
      refine Within.step ?_ (setHist_within ..) rfl
      with_reducible assumption
    clear_value a7
    extract_lets +onlyGivenNames -merge a9
    split
    · with_reducible assumption
    · split
      · refine Within.step ?_ (note_within ..) rfl
        with_reducible assumption
      · refine Within.step ?_ (note_within ..) rfl
        with_reducible assumption

def Parts.followPulse : List Part := [Part.tm]
theorem followPulse_within (s : State) (r : Nat) (e : Int) : Within Parts.followPulse s (State.followPulse s r e) := by
  have h0 : Within Parts.followPulse s s := .refl
  unfold State.followPulse
  extract_lets +onlyGivenNames -merge a0
  clear_value a0
  extract_lets +onlyGivenNames -merge a1
  clear_value a1
  refine Within.step ?_ (withTm_within ..) rfl
  with_reducible assumption

def Parts.forget : List Part := [Part.tm, 0x5048, 0x1028, Part.save, 0x5040, 0x5000]
theorem forget_within (s : State) : Within Parts.forget s (State.forget s) := by
  have h0 : Within Parts.forget s s := .refl
  unfold State.forget
  extract_lets +onlyGivenNames -merge a0
  have h1 : Within Parts.forget s a0 := by
    unfold a0
    refine Within.step ?_ (withTm_within ..) rfl
    with_reducible assumption
  clear_value a0
  extract_lets +onlyGivenNames -merge a2
  have h3 : Within Parts.forget s a2 := by
    unfold a2
    refine Within.foldl ?_ ?_
    · with_reducible assumption
    · intro x4 x5 x6
      refine Within.step ?_ (putWord_within ..) rfl
      with_reducible assumption
  clear_value a2
  extract_lets +onlyGivenNames -merge a7
  have h8 : Within Parts.forget s a7 := by
    unfold a7
    refine Within.step ?_ (putFld_within ..) rfl
    refine Within.step ?_ (putFld_within ..) rfl
    with_reducible assumption
  clear_value a7
  refine Within.step ?_ (setFld_within ..) rfl
  with_reducible assumption

def Parts.holdoverUpdate : List Part := [Part.tm, Part.clk]
theorem holdoverUpdate_within (s : State) (temp : Int) : Within Parts.holdoverUpdate s (State.holdoverUpdate s temp) := by
  have h0 : Within Parts.holdoverUpdate s s := .refl
  unfold State.holdoverUpdate
  split
  · refine Within.step ?_ (holdRate_within ..) rfl
    with_reducible assumption
  · with_reducible assumption

def Parts.houseJump : List Part := [Part.clk, 0x5000, Part.xp, Part.au, Part.ap]
theorem houseJump_within (s : State) : Within Parts.houseJump s (State.houseJump s) := by
  have h0 : Within Parts.houseJump s s := .refl
  unfold State.houseJump
  extract_lets +onlyGivenNames -merge a0
  clear_value a0
  extract_lets +onlyGivenNames -merge a1
  have h2 : Within Parts.houseJump s a1 := by
    unfold a1
    refine Within.step ?_ (set_clk_within ..) rfl
    with_reducible assumption
  clear_value a1
  extract_lets +onlyGivenNames -merge a3
  have h4 : Within Parts.houseJump s a3 := by
    unfold a3
    refine Within.step ?_ (setFld_within ..) rfl
    with_reducible assumption
  clear_value a3
  extract_lets +onlyGivenNames -merge a5
  clear_value a5
  extract_lets +onlyGivenNames -merge a6
  have h7 : Within Parts.houseJump s a6 := by
    unfold a6
    refine Within.step ?_ (set_xp_within ..) rfl
    with_reducible assumption
  clear_value a6
  extract_lets +onlyGivenNames -merge a8
  clear_value a8
  extract_lets +onlyGivenNames -merge a9
  have h10 : Within Parts.houseJump s a9 := by
    unfold a9
    refine Within.step ?_ (set_au_within ..) rfl
    with_reducible assumption
  clear_value a9
  refine Within.step ?_ (set_ap_within ..) rfl
  with_reducible assumption

def Parts.learnSave : List Part := [0x1028, Part.save]
theorem learnSave_within (s : State) : Within Parts.learnSave s (State.learnSave s) := by
  have h0 : Within Parts.learnSave s s := .refl
  unfold State.learnSave
  split
  · with_reducible assumption
  · refine Within.step ?_ (markDirty_within ..) rfl
    with_reducible assumption

def Parts.noteFreq : List Part := [Part.tm, 0x5018]
theorem noteFreq_within (s : State) (r : Nat) (f : Int) (t : Nat) : Within Parts.noteFreq s (State.noteFreq s r f t) := by
  have h0 : Within Parts.noteFreq s s := .refl
  unfold State.noteFreq
  extract_lets +onlyGivenNames -merge a0
  have h1 : Within Parts.noteFreq s a0 := by
    unfold a0
    refine Within.step ?_ (withRef_within ..) rfl
    with_reducible assumption
  clear_value a0
  refine Within.step ?_ (setFld_within ..) rfl
  with_reducible assumption

def Parts.refuseOffset : List Part := [0x5018, Part.tm, 0x6048, Part.host, 0x5000, Part.ev, Part.clk, 0x7820, 0x7808, Part.sys, 0x7810]
theorem refuseOffset_within (s : State) (r : Nat) (e : Int) : Within Parts.refuseOffset s (State.refuseOffset s r e) := by
  have h0 : Within Parts.refuseOffset s s := .refl
  unfold State.refuseOffset
  extract_lets +onlyGivenNames -merge a0
  have h1 : Within Parts.refuseOffset s a0 := by
    unfold a0
    refine Within.step ?_ (bump_within ..) rfl
    with_reducible assumption
  clear_value a0
  extract_lets +onlyGivenNames -merge a2
  have h3 : Within Parts.refuseOffset s a2 := by
    unfold a2
    refine Within.step ?_ (withRef_within ..) rfl
    with_reducible assumption
  clear_value a2
  split
  · extract_lets +onlyGivenNames -merge a4
    have h5 : Within Parts.refuseOffset s a4 := by
      unfold a4
      refine Within.step ?_ (setFld_within ..) rfl
      with_reducible assumption
    clear_value a4
    extract_lets +onlyGivenNames -merge a6
    have h7 : Within Parts.refuseOffset s a6 := by
      unfold a6
      refine Within.step ?_ (disqualify_within ..) rfl
      with_reducible assumption
    clear_value a6
    extract_lets +onlyGivenNames -merge a8
    have h9 : Within Parts.refuseOffset s a8 := by
      unfold a8
      refine Within.step ?_ (setHist_within ..) rfl
      with_reducible assumption
    clear_value a8
    refine Within.step ?_ (note_within ..) rfl
    with_reducible assumption
  · with_reducible assumption

def Parts.servo : List Part := [Part.tm, Part.clk]
theorem servo_within (s : State) (e : Int) (t : Nat) : Within Parts.servo s (State.servo s e t) := by
  have h0 : Within Parts.servo s s := .refl
  unfold State.servo
  extract_lets +onlyGivenNames -merge a0
  clear_value a0
  refine Within.step ?_ (setFrac_within ..) rfl
  refine Within.step ?_ (withTm_within ..) rfl
  with_reducible assumption

def Parts.takeOffset : List Part := [Part.tm, Part.clk]
theorem takeOffset_within (s : State) (r : Nat) (e : Int) (t : Nat) : Within Parts.takeOffset s (State.takeOffset s r e t) := by
  have h0 : Within Parts.takeOffset s s := .refl
  unfold State.takeOffset
  extract_lets +onlyGivenNames -merge a0
  extract_lets +onlyGivenNames -merge a1
  clear_value a1
  extract_lets +onlyGivenNames -merge a2
  extract_lets +onlyGivenNames -merge a3
  have h4 : Within Parts.takeOffset s a3 := by
    unfold a3
    refine Within.step ?_ (withRef_within ..) rfl
    with_reducible assumption
  clear_value a3
  split
  · refine Within.step ?_ (servo_within ..) rfl
    with_reducible assumption
  · with_reducible assumption

def Parts.noteOffset : List Part := [Part.tm, 0x5018, 0x6048, Part.host, 0x5000, Part.ev, Part.clk, 0x7820, 0x7808, Part.sys, 0x7810]
theorem noteOffset_within (s : State) (r : Nat) (t : Nat) (e : Int) : Within Parts.noteOffset s (State.noteOffset s r t e) := by
  have h0 : Within Parts.noteOffset s s := .refl
  unfold State.noteOffset
  extract_lets +onlyGivenNames -merge a0
  have h1 : Within Parts.noteOffset s a0 := by
    unfold a0
    refine Within.step ?_ (withRef_within ..) rfl
    with_reducible assumption
  clear_value a0
  extract_lets +onlyGivenNames -merge a2
  have h3 : Within Parts.noteOffset s a2 := by
    unfold a2
    refine Within.step ?_ (setFld_within ..) rfl
    with_reducible assumption
  clear_value a2
  split
  · refine Within.step ?_ (refuseOffset_within ..) rfl
    with_reducible assumption
  · refine Within.step ?_ (takeOffset_within ..) rfl
    with_reducible assumption

def Parts.servoFreq : List Part := [Part.tm, Part.clk]
theorem servoFreq_within (s : State) (f : Int) : Within Parts.servoFreq s (State.servoFreq s f) := by
  have h0 : Within Parts.servoFreq s s := .refl
  unfold State.servoFreq
  refine Within.step ?_ (setFrac_within ..) rfl
  refine Within.step ?_ (withTm_within ..) rfl
  with_reducible assumption

def Parts.measure : List Part := [Part.tm, 0x5018, 0x6048, Part.host, 0x5000, Part.ev, Part.clk, 0x7820, 0x7808, Part.sys, 0x7810]
theorem measure_within (s : State) (r : Nat) (offs : List Int) (f : Option Int) (t : Nat) : Within Parts.measure s (State.measure s r offs f t) := by
  have h0 : Within Parts.measure s s := .refl
  unfold State.measure
  split
  · with_reducible assumption
  · extract_lets +onlyGivenNames -merge a0
    have h1 : Within Parts.measure s a0 := by
      unfold a0
      refine Within.step ?_ (withRef_within ..) rfl
      with_reducible assumption
    clear_value a0
    extract_lets +onlyGivenNames -merge a2
    have h3 : Within Parts.measure s a2 := by
      unfold a2
      split
      · refine Within.step ?_ (noteFreq_within ..) rfl
        with_reducible assumption
      · with_reducible assumption
    clear_value a2
    extract_lets +onlyGivenNames -merge a4
    have h5 : Within Parts.measure s a4 := by
      unfold a4
      split
      · split
        · with_reducible assumption
        · refine Within.step ?_ (disqualify_within ..) rfl
          with_reducible assumption
      · split
        · refine Within.step ?_ (startQualify_within ..) rfl
          with_reducible assumption
        · split
          · refine Within.step ?_ (startQualify_within ..) rfl
            with_reducible assumption
          · with_reducible assumption
    clear_value a4
    extract_lets +onlyGivenNames -merge a6
    have h7 : Within Parts.measure s a6 := by
      unfold a6
      refine Within.foldl ?_ ?_
      · with_reducible assumption
      · intro x8 x9 x10
        refine Within.step ?_ (noteOffset_within ..) rfl
        with_reducible assumption
    clear_value a6
    extract_lets +onlyGivenNames -merge a11
    have h12 : Within Parts.measure s a11 := by
      unfold a11
      split
      · split
        · refine Within.step ?_ (servoFreq_within ..) rfl
          with_reducible assumption
        · with_reducible assumption
      · with_reducible assumption
    clear_value a11
    split
    · refine Within.step ?_ (enterTiming_within ..) rfl
      with_reducible assumption
    · with_reducible assumption

def Parts.noStamp : List Part := [0x5030]
theorem noStamp_within (s : State) (p : Nat) : Within Parts.noStamp s (State.noStamp s p) := by
  have h0 : Within Parts.noStamp s s := .refl
  unfold State.noStamp
  refine Within.step ?_ (bump_within ..) rfl
  with_reducible assumption

def Parts.ptpLeaves : List Part := [Part.mx, Part.fresh, 0x4860, Part.tm, 0x4858, Part.host, 0x6048, 0x5030]
theorem ptpLeaves_within (s : State) (p : Nat) (k : PtpTx) (late : Nat) : Within Parts.ptpLeaves s (State.ptpLeaves s p k late) := by
  have h0 : Within Parts.ptpLeaves s s := .refl
  unfold State.ptpLeaves
  extract_lets +onlyGivenNames -merge a0
  split
  · refine Within.step ?_ (withPtp_within ..) rfl
    refine Within.step ?_ (sendOwn_within ..) rfl
    with_reducible assumption
  · extract_lets +onlyGivenNames -merge a1
    have h2 : Within Parts.ptpLeaves s a1.1 := by
      unfold a1
      refine Within.step ?_ (stamp_within ..) rfl
      with_reducible assumption
    clear_value a1
    extract_lets +onlyGivenNames -merge a3
    clear_value a3
    extract_lets +onlyGivenNames -merge a4
    have h5 : Within Parts.ptpLeaves s a4 := by
      unfold a4
      split
      · refine Within.step ?_ (sendOwn_within ..) rfl
        refine Within.step ?_ (sendOwn_within ..) rfl
        with_reducible assumption
      · refine Within.step ?_ (sendOwn_within ..) rfl
        with_reducible assumption
    clear_value a4
    refine Within.step ?_ (withPtp_within ..) rfl
    with_reducible assumption
  · extract_lets +onlyGivenNames -merge a6
    have h7 : Within Parts.ptpLeaves s a6.1 := by
      unfold a6
      refine Within.step ?_ (stamp_within ..) rfl
      with_reducible assumption
    clear_value a6
    extract_lets +onlyGivenNames -merge a8
    clear_value a8
    extract_lets +onlyGivenNames -merge a9
    have h10 : Within Parts.ptpLeaves s a9 := by
      unfold a9
      refine Within.step ?_ (withPtp_within ..) rfl
      refine Within.step ?_ (sendOwn_within ..) rfl
      with_reducible assumption
    clear_value a9
    split
    · refine Within.step ?_ (noStamp_within ..) rfl
      with_reducible assumption
    · with_reducible assumption

def Parts.ptpOffset : List Part := [Part.tm, 0x5030, 0x6048, Part.host, 0x5018, 0x5000, Part.ev, Part.clk, 0x7820, 0x7808, Part.sys, 0x7810]
theorem ptpOffset_within (s : State) (p : Nat) (t1 : Int) (t2 : Int) (corr : Int) : Within Parts.ptpOffset s (State.ptpOffset s p t1 t2 corr) := by
  have h0 : Within Parts.ptpOffset s s := .refl
  unfold State.ptpOffset
  extract_lets +onlyGivenNames -merge a0
  clear_value a0
  extract_lets +onlyGivenNames -merge a1
  have h2 : Within Parts.ptpOffset s a1 := by
    unfold a1
    refine Within.step ?_ (withPtp_within ..) rfl
    with_reducible assumption
  clear_value a1
  split
  · with_reducible assumption
  · extract_lets +onlyGivenNames -merge a3
    extract_lets +onlyGivenNames -merge a4
    clear_value a4
    extract_lets +onlyGivenNames -merge a5
    have h6 : Within Parts.ptpOffset s a5 := by
      unfold a5
      refine Within.step ?_ (setNotify_within ..) rfl
      with_reducible assumption
    clear_value a5
    split
    · extract_lets +onlyGivenNames -merge a7
      clear_value a7
      extract_lets +onlyGivenNames -merge a8
      clear_value a8
      split
      · refine Within.step ?_ (measure_within ..) rfl
        with_reducible assumption
      · refine Within.step ?_ (measure_within ..) rfl
        with_reducible assumption
    · refine Within.step ?_ (measure_within ..) rfl
      with_reducible assumption

def Parts.ptpRestart : List Part := [Part.tm, 0x5018, 0x6048, Part.host, 0x5030]
theorem ptpRestart_within (s : State) (p : Nat) : Within Parts.ptpRestart s (State.ptpRestart s p) := by
  have h0 : Within Parts.ptpRestart s s := .refl
  unfold State.ptpRestart
  refine Within.step ?_ (setNotify_within ..) rfl
  refine Within.step ?_ (setGm_within ..) rfl
  refine Within.step ?_ (refLost_within ..) rfl
  refine Within.step ?_ (withPtp_within ..) rfl
  with_reducible assumption

def Parts.ptpRestarts : List Part := [Part.tm, 0x5018, 0x6048, Part.host, 0x5030]
theorem ptpRestarts_within (s : State) (m : Nat) : Within Parts.ptpRestarts s (State.ptpRestarts s m) := by
  have h0 : Within Parts.ptpRestarts s s := .refl
  unfold State.ptpRestarts
  refine Within.foldl ?_ ?_
  · with_reducible assumption
  · intro x0 x1 x2
    refine Within.step ?_ (ptpRestart_within ..) rfl
    with_reducible assumption

def Parts.rxStamp : List Part := [Part.tm, Part.mx, 0x4858, 0x4860, Part.host, 0x6048]
theorem rxStamp_within (s : State) (p : Nat) (mtype : Nat) (src : Nat) (seq : Nat) : Within Parts.rxStamp s (State.rxStamp s p mtype src seq).1 := by
  have h0 : Within Parts.rxStamp s s := .refl
  unfold State.rxStamp
  extract_lets +onlyGivenNames -merge a0
  clear_value a0
  split
  · dsimp -zeta only
    refine Within.step ?_ (withPtp_within ..) rfl
    with_reducible assumption
  · extract_lets +onlyGivenNames -merge a1
    have h2 : Within Parts.rxStamp s a1.1 := by
      unfold a1
      refine Within.step ?_ (stamp_within ..) rfl
      with_reducible assumption
    clear_value a1
    with_reducible assumption

def Parts.ptpRx : List Part := [Part.tm, 0x5018, 0x6048, Part.host, 0x5030, Part.mx, 0x4858, 0x4860, 0x5000, Part.ev, Part.clk, 0x7820, 0x7808, Part.sys, 0x7810, Part.fresh]
theorem ptpRx_within (s : State) (p : Nat) (m : PtpMsg) : Within Parts.ptpRx s (State.ptpRx s p m) := by
  have h0 : Within Parts.ptpRx s s := .refl
  unfold State.ptpRx
  split
  · with_reducible assumption
  · extract_lets +onlyGivenNames -merge a0
    extract_lets +onlyGivenNames -merge a1
    split
    · split
      · refine Within.step ?_ (bmca_within ..) rfl
        refine Within.step ?_ (withPtp_within ..) rfl
        with_reducible assumption
      · with_reducible assumption
    · split
      · extract_lets +onlyGivenNames -merge a2
        have h3 : Within Parts.ptpRx s a2.1 := by
          unfold a2
          refine Within.step ?_ (rxStamp_within ..) rfl
          with_reducible assumption
        clear_value a2
        extract_lets +onlyGivenNames -merge a4
        have h5 : Within Parts.ptpRx s a4 := by
          unfold a4
          with_reducible assumption
        clear_value a4
        split
        · refine Within.step ?_ (noStamp_within ..) rfl
          with_reducible assumption
        · split
          · refine Within.step ?_ (withPtp_within ..) rfl
            with_reducible assumption
          · refine Within.step ?_ (ptpOffset_within ..) rfl
            with_reducible assumption
      · with_reducible assumption
    · split
      · split
        · extract_lets +onlyGivenNames -merge a6
          clear_value a6
          extract_lets +onlyGivenNames -merge a7
          have h8 : Within Parts.ptpRx s a7 := by
            unfold a7
            refine Within.step ?_ (withPtp_within ..) rfl
            with_reducible assumption
          clear_value a7
          split
          · refine Within.step ?_ (noStamp_within ..) rfl
            with_reducible assumption
          · refine Within.step ?_ (ptpOffset_within ..) rfl
            with_reducible assumption
        · with_reducible assumption
      · with_reducible assumption
    · split
      · split
        · split
          · refine Within.step ?_ (withPtp_within ..) rfl
            refine Within.step ?_ (noStamp_within ..) rfl
            with_reducible assumption
          · extract_lets +onlyGivenNames -merge a9
            clear_value a9
            extract_lets +onlyGivenNames -merge a10
            have h11 : Within Parts.ptpRx s a10 := by
              unfold a10
              refine Within.step ?_ (withPtp_within ..) rfl
              with_reducible assumption
            clear_value a10
            refine Within.step ?_ (setFld_within ..) rfl
            with_reducible assumption
        · with_reducible assumption
      · with_reducible assumption
    · split
      · extract_lets +onlyGivenNames -merge a12
        have h13 : Within Parts.ptpRx s a12.1 := by
          unfold a12
          refine Within.step ?_ (rxStamp_within ..) rfl
          with_reducible assumption
        clear_value a12
        extract_lets +onlyGivenNames -merge a14
        have h15 : Within Parts.ptpRx s a14 := by
          unfold a14
          with_reducible assumption
        clear_value a14
        split
        · refine Within.step ?_ (withPtp_within ..) rfl
          refine Within.step ?_ (sendOwn_within ..) rfl
          with_reducible assumption
        · refine Within.step ?_ (noStamp_within ..) rfl
          with_reducible assumption
      · with_reducible assumption

def Parts.ptpTx : List Part := [Part.mx, Part.fresh, 0x4860, Part.tm, 0x4858, Part.host, 0x6048, 0x5030]
theorem ptpTx_within (s : State) (p : Nat) (k : PtpTx) (late : Nat) : Within Parts.ptpTx s (State.ptpTx s p k late) := by
  have h0 : Within Parts.ptpTx s s := .refl
  unfold State.ptpTx
  split
  · with_reducible assumption
  · extract_lets +onlyGivenNames -merge a0
    extract_lets +onlyGivenNames -merge a1
    clear_value a1
    extract_lets +onlyGivenNames -merge a2
    clear_value a2
    split
    · with_reducible assumption
    · split
      · refine Within.step ?_ (setMacRun_within ..) rfl
        with_reducible assumption
      · refine Within.step ?_ (ptpLeaves_within ..) rfl
        with_reducible assumption

def Parts.refAccept : List Part := [0x5018, Part.tm, 0x6048, Part.host, 0x5000, Part.ev, Part.clk, 0x7820, 0x7808, Part.sys, 0x7810]
theorem refAccept_within (s : State) (r : Nat) : Within Parts.refAccept s (State.refAccept s r).2 := by
  have h0 : Within Parts.refAccept s s := .refl
  unfold State.refAccept
  split
  · with_reducible assumption
  · extract_lets +onlyGivenNames -merge a0
    clear_value a0
    extract_lets +onlyGivenNames -merge a1
    have h2 : Within Parts.refAccept s a1 := by
      unfold a1
      refine Within.step ?_ (withRef_within ..) rfl
      refine Within.step ?_ (setFld_within ..) rfl
      with_reducible assumption
    clear_value a1
    extract_lets +onlyGivenNames -merge a3
    have h4 : Within Parts.refAccept s a3 := by
      unfold a3
      split
      · refine Within.step ?_ (startQualify_within ..) rfl
        with_reducible assumption
      · with_reducible assumption
    clear_value a3
    dsimp -zeta only
    refine Within.foldl ?_ ?_
    · with_reducible assumption
    · intro x5 x6 x7
      refine Within.step ?_ (flagDisagree_within ..) rfl
      refine Within.step ?_ (withRef_within ..) rfl
      refine Within.step ?_ (setFld_within ..) rfl
      with_reducible assumption

def Parts.refEnable : List Part := [Part.tm, 0x5018, 0x6048, Part.host, 0x5030]
theorem refEnable_within (s : State) (r : Nat) (on : Bool) : Within Parts.refEnable s (State.refEnable s r on) := by
  have h0 : Within Parts.refEnable s s := .refl
  unfold State.refEnable
  split
  · extract_lets +onlyGivenNames -merge a0
    have h1 : Within Parts.refEnable s a0 := by
      unfold a0
      refine Within.step ?_ (withRef_within ..) rfl
      with_reducible assumption
    clear_value a0
    extract_lets +onlyGivenNames -merge a2
    have h3 : Within Parts.refEnable s a2 := by
      unfold a2
      split
      · refine Within.step ?_ (setQ_within ..) rfl
        with_reducible assumption
      · split
        · refine Within.step ?_ (setQ_within ..) rfl
          with_reducible assumption
        · refine Within.step ?_ (beginQualify_within ..) rfl
          with_reducible assumption
    clear_value a2
    split
    · refine Within.step ?_ (ptpRestart_within ..) rfl
      with_reducible assumption
    · with_reducible assumption
  · extract_lets +onlyGivenNames -merge a4
    have h5 : Within Parts.refEnable s a4 := by
      unfold a4
      refine Within.step ?_ (setQ_within ..) rfl
      refine Within.step ?_ (withRef_within ..) rfl
      refine Within.step ?_ (endSplit_within ..) rfl
      with_reducible assumption
    clear_value a4
    split
    · refine Within.step ?_ (ptpRestart_within ..) rfl
      with_reducible assumption
    · with_reducible assumption

def Parts.refMeasured : List Part := [Part.tm, 0x5018, 0x6048, Part.host, 0x5000, Part.ev, Part.clk, 0x7820, 0x7808, Part.sys, 0x7810]
theorem refMeasured_within (s : State) (r : Nat) (edges : List Int) (f : Int) (t : Nat) : Within Parts.refMeasured s (State.refMeasured s r edges f t) := by
  have h0 : Within Parts.refMeasured s s := .refl
  unfold State.refMeasured
  extract_lets +onlyGivenNames -merge a0
  clear_value a0
  extract_lets +onlyGivenNames -merge a1
  have h2 : Within Parts.refMeasured s a1 := by
    unfold a1
    split
    · split
      · refine Within.step ?_ (followPulse_within ..) rfl
        with_reducible assumption
      · with_reducible assumption
    · with_reducible assumption
  clear_value a1
  split
  · with_reducible assumption
  · refine Within.step ?_ (measure_within ..) rfl
    with_reducible assumption

def Parts.refQualify : List Part := [Part.clk, 0x5018, 0x6048, Part.host]
theorem refQualify_within (s : State) (r : Nat) : Within Parts.refQualify s (State.refQualify s r) := by
  have h0 : Within Parts.refQualify s s := .refl
  unfold State.refQualify
  split
  · with_reducible assumption
  · split
    · refine Within.step ?_ (setQ_within ..) rfl
      refine Within.step ?_ (waitUntil_within ..) rfl
      with_reducible assumption
    · with_reducible assumption

def Parts.refRequalify : List Part := [0x5018, Part.ev, Part.tm, 0x6048, Part.host]
theorem refRequalify_within (s : State) (r : Nat) : Within Parts.refRequalify s (State.refRequalify s r).2 := by
  have h0 : Within Parts.refRequalify s s := .refl
  unfold State.refRequalify
  extract_lets +onlyGivenNames -merge a0
  have h1 : Within Parts.refRequalify s a0 := by
    unfold a0
    refine Within.step ?_ (setFld_within ..) rfl
    refine Within.step ?_ (setFld_within ..) rfl
    with_reducible assumption
  clear_value a0
  extract_lets +onlyGivenNames -merge a2
  have h3 : Within Parts.refRequalify s a2 := by
    unfold a2
    refine Within.step ?_ (putBack_within ..) rfl
    with_reducible assumption
  clear_value a2
  extract_lets +onlyGivenNames -merge a4
  have h5 : Within Parts.refRequalify s a4 := by
    unfold a4
    refine Within.step ?_ (withRef_within ..) rfl
    with_reducible assumption
  clear_value a4
  dsimp -zeta only
  split
  · split
    · refine Within.step ?_ (setQ_within ..) rfl
      with_reducible assumption
    · refine Within.step ?_ (beginQualify_within ..) rfl
      with_reducible assumption
  · with_reducible assumption

def Parts.select : List Part := [Part.tm, 0x5018, 0x6048, Part.host, 0x5000, Part.clk, Part.ev, 0x7820, 0x7808, Part.sys, 0x7810]
theorem select_within (s : State) (n : Option Nat) : Within Parts.select s (State.select s n) := by
  have h0 : Within Parts.select s s := .refl
  unfold State.select
  split
  · with_reducible assumption
  · extract_lets +onlyGivenNames -merge a0
    have h1 : Within Parts.select s a0 := by
      unfold a0
      split
      · split
        · with_reducible assumption
        · split
          · refine Within.step ?_ (disqualify_within ..) rfl
            with_reducible assumption
          · refine Within.step ?_ (setQ_within ..) rfl
            with_reducible assumption
      · with_reducible assumption
    clear_value a0
    extract_lets +onlyGivenNames -merge a2
    have h3 : Within Parts.select s a2 := by
      unfold a2
      refine Within.step ?_ (setFld_within ..) rfl
      with_reducible assumption
    clear_value a2
    extract_lets +onlyGivenNames -merge a4
    have h5 : Within Parts.select s a4 := by
      unfold a4
      refine Within.step ?_ (setHist_within ..) rfl
      with_reducible assumption
    clear_value a4
    split
    · extract_lets +onlyGivenNames -merge a6
      have h7 : Within Parts.select s a6 := by
        unfold a6
        refine Within.step ?_ (setQ_within ..) rfl
        with_reducible assumption
      clear_value a6
      extract_lets +onlyGivenNames -merge a8
      have h9 : Within Parts.select s a8 := by
        unfold a8
        refine Within.step ?_ (setFld_within ..) rfl
        with_reducible assumption
      clear_value a8
      extract_lets +onlyGivenNames -merge a10
      clear_value a10
      extract_lets +onlyGivenNames -merge a11
      have h12 : Within Parts.select s a11 := by
        unfold a11
        refine Within.step ?_ (withTm_within ..) rfl
        with_reducible assumption
      clear_value a11
      extract_lets +onlyGivenNames -merge a13
      have h14 : Within Parts.select s a13 := by
        unfold a13
        refine Within.step ?_ (withRef_within ..) rfl
        with_reducible assumption
      clear_value a13
      refine Within.step ?_ (enterTiming_within ..) rfl
      with_reducible assumption
    · refine Within.step ?_ (setFld_within ..) rfl
      with_reducible assumption

def Parts.selectionEval : List Part := [Part.tm, 0x5018, 0x6048, Part.host, 0x5000, Part.clk, Part.ev, 0x7820, 0x7808, Part.sys, 0x7810]
theorem selectionEval_within (s : State) : Within Parts.selectionEval s (State.selectionEval s) := by
  have h0 : Within Parts.selectionEval s s := .refl
  unfold State.selectionEval
  extract_lets +onlyGivenNames -merge a0
  have h1 : Within Parts.selectionEval s a0 := by
    unfold a0
    refine Within.step ?_ (select_within ..) rfl
    with_reducible assumption
  clear_value a0
  extract_lets +onlyGivenNames -merge a2
  have h3 : Within Parts.selectionEval s a2 := by
    unfold a2
    refine Within.step ?_ (enterTiming_within ..) rfl
    with_reducible assumption
  clear_value a2
  refine Within.step ?_ (markHistory_within ..) rfl
  with_reducible assumption

def Parts.slewDone : List Part := [Part.clk, 0x5000, Part.host, 0x6048]
theorem slewDone_within (s : State) : Within Parts.slewDone s (State.slewDone s) := by
  have h0 : Within Parts.slewDone s s := .refl
  unfold State.slewDone
  split
  · with_reducible assumption
  · extract_lets +onlyGivenNames -merge a0
    have h1 : Within Parts.slewDone s a0 := by
      unfold a0
      refine Within.step ?_ (ticks_within ..) rfl
      with_reducible assumption
    clear_value a0
    extract_lets +onlyGivenNames -merge a2
    clear_value a2
    extract_lets +onlyGivenNames -merge a3
    have h4 : Within Parts.slewDone s a3 := by
      unfold a3
      refine Within.step ?_ (set_clk_within ..) rfl
      with_reducible assumption
    clear_value a3
    refine Within.step ?_ (setHist_within ..) rfl
    refine Within.step ?_ (setFld_within ..) rfl
    with_reducible assumption

def Parts.stepApply : List Part := [Part.clk, 0x1028, Part.save, Part.tm, Part.ev, Part.host, 0x7820, 0x6048, 0x7808, Part.sys, 0x7810, 0x5000, 0x5050, 0x5018, Part.xp, Part.au, Part.ap]
theorem stepApply_within (s : State) (w0 : W) (w1 : W) (w2 : W) : Within Parts.stepApply s (State.stepApply s w0 w1 w2) := by
  have h0 : Within Parts.stepApply s s := .refl
  unfold State.stepApply
  extract_lets +onlyGivenNames -merge a0
  clear_value a0
  extract_lets +onlyGivenNames -merge a1
  extract_lets +onlyGivenNames -merge a2
  extract_lets +onlyGivenNames -merge a3
  clear_value a3
  extract_lets +onlyGivenNames -merge a4
  clear_value a4
  extract_lets +onlyGivenNames -merge a5
  have h6 : Within Parts.stepApply s a5 := by
    unfold a5
    refine Within.step ?_ (set_clk_within ..) rfl
    with_reducible assumption
  clear_value a5
  extract_lets +onlyGivenNames -merge a7
  have h8 : Within Parts.stepApply s a7 := by
    unfold a7
    refine Within.step ?_ (markDirty_within ..) rfl
    with_reducible assumption
  clear_value a7
  extract_lets +onlyGivenNames -merge a9
  clear_value a9
  extract_lets +onlyGivenNames -merge a10
  have h11 : Within Parts.stepApply s a10 := by
    unfold a10
    refine Within.step ?_ (withTm_within ..) rfl
    with_reducible assumption
  clear_value a10
  extract_lets +onlyGivenNames -merge a12
  have h13 : Within Parts.stepApply s a12 := by
    unfold a12
    refine Within.step ?_ (note_within ..) rfl
    with_reducible assumption
  clear_value a12
  extract_lets +onlyGivenNames -merge a14
  have h15 : Within Parts.stepApply s a14 := by
    unfold a14
    refine Within.step ?_ (setHist_within ..) rfl
    with_reducible assumption
  clear_value a14
  extract_lets +onlyGivenNames -merge a16
  have h17 : Within Parts.stepApply s a16 := by
    unfold a16
    refine Within.step ?_ (setFld_within ..) rfl
    with_reducible assumption
  clear_value a16
  extract_lets +onlyGivenNames -merge a18
  have h19 : Within Parts.stepApply s a18 := by
    unfold a18
    refine Within.step ?_ (setFld_within ..) rfl
    with_reducible assumption
  clear_value a18
  extract_lets +onlyGivenNames -merge a20
  have h21 : Within Parts.stepApply s a20 := by
    unfold a20
    refine Within.step ?_ (withTm_within ..) rfl
    with_reducible assumption
  clear_value a20
  extract_lets +onlyGivenNames -merge a22
  have h23 : Within Parts.stepApply s a22 := by
    unfold a22
    refine Within.foldl ?_ ?_
    · with_reducible assumption
    · intro x24 x25 x26
      split
      · extract_lets +onlyGivenNames -merge a27
        have h28 : Within Parts.stepApply s a27 := by
          unfold a27
          refine Within.step ?_ (setFld_within ..) rfl
          with_reducible assumption
        clear_value a27
        extract_lets +onlyGivenNames -merge a29
        have h30 : Within Parts.stepApply s a29 := by
          unfold a29
          refine Within.step ?_ (withRef_within ..) rfl
          with_reducible assumption
        clear_value a29
        split
        · refine Within.step ?_ (startQualify_within ..) rfl
          with_reducible assumption
        · with_reducible assumption
      · with_reducible assumption
  clear_value a22
  split
  · split
    · split
      · refine Within.step ?_ (setHist_within ..) rfl
        refine Within.step ?_ (setFld_within ..) rfl
        with_reducible assumption
      · with_reducible assumption
    · refine Within.step ?_ (setFld_within ..) rfl
      with_reducible assumption
  · refine Within.step ?_ (houseJump_within ..) rfl
    with_reducible assumption

def Parts.stepDue : List Part := [Part.clk, 0x1028, Part.save, Part.tm, Part.ev, Part.host, 0x7820, 0x6048, 0x7808, Part.sys, 0x7810, 0x5000, 0x5050, 0x5018, Part.xp, Part.au, Part.ap]
theorem stepDue_within (s : State) : Within Parts.stepDue s (State.stepDue s) := by
  have h0 : Within Parts.stepDue s s := .refl
  unfold State.stepDue
  split
  · with_reducible assumption
  · refine Within.step ?_ (stepApply_within ..) rfl
    refine Within.step ?_ (waitCount_within ..) rfl
    with_reducible assumption

def Parts.execAgreementCheck : List Part := [0x5018, Part.tm, 0x6048, Part.host, 0x5000, Part.ev, Part.clk, 0x7820, 0x7808, Part.sys, 0x7810, 0x5048, 0x5040]
theorem execAgreementCheck_within (temp : Int) (s : State) : ExecWithin Parts.execAgreementCheck s (execAgreementCheck temp s) := by
  have h0 : Within Parts.execAgreementCheck s s := .refl
  unfold execAgreementCheck
  refine ⟨_, rfl, ?_⟩
  refine Within.step ?_ (agreementCheck_within ..) rfl
  with_reducible assumption

def Parts.execAnnounceTimeout : List Part := [0x5030, Part.tm, 0x5018, 0x6048, Part.host]
theorem execAnnounceTimeout_within (p : Nat) (s : State) : ExecWithin Parts.execAnnounceTimeout s (execAnnounceTimeout p s) := by
  have h0 : Within Parts.execAnnounceTimeout s s := .refl
  unfold execAnnounceTimeout
  refine ⟨_, rfl, ?_⟩
  refine Within.step ?_ (announceTimeout_within ..) rfl
  with_reducible assumption

def Parts.execHoldoverForget : List Part := [0x5040, Part.tm, 0x5048, 0x1028, Part.save, 0x5000, Part.shadow, 0x6040, 0x6048, 0x7808, 0x7810, 0x7820, Part.clk, Part.sys, Part.host, Part.ev, Part.pw]
theorem execHoldoverForget_within (rq : Req) (s : State) : ExecWithin Parts.execHoldoverForget s (execHoldoverForget rq s) := by
  have h0 : Within Parts.execHoldoverForget s s := .refl
  unfold execHoldoverForget
  refine ⟨_, rfl, ?_⟩
  refine request_within rfl ?_ ?_
  · refine ⟨rfl, fun s0 => ?_⟩
    dsimp -zeta only
    have h00 : Within Parts.execHoldoverForget s0 s0 := .refl
    refine Within.step ?_ (forget_within ..) rfl
    with_reducible assumption
  · with_reducible assumption

def Parts.execHoldoverLearnSave : List Part := [0x1028, Part.save]
theorem execHoldoverLearnSave_within (s : State) : ExecWithin Parts.execHoldoverLearnSave s (execHoldoverLearnSave s) := by
  have h0 : Within Parts.execHoldoverLearnSave s s := .refl
  unfold execHoldoverLearnSave
  refine ⟨_, rfl, ?_⟩
  refine Within.step ?_ (learnSave_within ..) rfl
  with_reducible assumption

def Parts.execHoldoverUpdate : List Part := [Part.tm, Part.clk]
theorem execHoldoverUpdate_within (temp : Int) (s : State) : ExecWithin Parts.execHoldoverUpdate s (execHoldoverUpdate temp s) := by
  have h0 : Within Parts.execHoldoverUpdate s s := .refl
  unfold execHoldoverUpdate
  refine ⟨_, rfl, ?_⟩
  refine Within.step ?_ (holdoverUpdate_within ..) rfl
  with_reducible assumption

def Parts.execPtpMessageRx : List Part := [Part.tm, 0x5018, 0x6048, Part.host, 0x5030, Part.mx, 0x4858, 0x4860, 0x5000, Part.ev, Part.clk, 0x7820, 0x7808, Part.sys, 0x7810, Part.fresh]
theorem execPtpMessageRx_within (p : Nat) (m : PtpMsg) (s : State) : ExecWithin Parts.execPtpMessageRx s (execPtpMessageRx p m s) := by
  have h0 : Within Parts.execPtpMessageRx s s := .refl
  unfold execPtpMessageRx
  refine ⟨_, rfl, ?_⟩
  refine Within.step ?_ (ptpRx_within ..) rfl
  with_reducible assumption

def Parts.execPtpTxInterval : List Part := [Part.mx, Part.fresh, 0x4860, Part.tm, 0x4858, Part.host, 0x6048, 0x5030]
theorem execPtpTxInterval_within (p : Nat) (k : PtpTx) (late : Nat) (s : State) : ExecWithin Parts.execPtpTxInterval s (execPtpTxInterval p k late s) := by
  have h0 : Within Parts.execPtpTxInterval s s := .refl
  unfold execPtpTxInterval
  refine ⟨_, rfl, ?_⟩
  refine Within.step ?_ (ptpTx_within ..) rfl
  with_reducible assumption

def Parts.execRefAccept : List Part := [0x5020, 0x5018, Part.tm, 0x6048, Part.host, 0x5000, Part.ev, Part.clk, 0x7820, 0x7808, Part.sys, 0x7810, 0x1028, Part.save, Part.shadow, 0x6040, Part.pw]
theorem execRefAccept_within (rq : Req) (r : Nat) (s : State) : ExecWithin Parts.execRefAccept s (execRefAccept rq r s) := by
  have h0 : Within Parts.execRefAccept s s := .refl
  unfold execRefAccept
  refine ⟨_, rfl, ?_⟩
  refine request_within rfl ?_ ?_
  · refine ⟨rfl, fun s0 => ?_⟩
    dsimp -zeta only
    have h00 : Within Parts.execRefAccept s0 s0 := .refl
    refine Within.step ?_ (refAccept_within ..) rfl
    with_reducible assumption
  · with_reducible assumption

def Parts.execRefLos : List Part := [Part.tm, 0x5018, 0x6048, Part.host]
theorem execRefLos_within (r : Nat) (s : State) : ExecWithin Parts.execRefLos s (execRefLos r s) := by
  have h0 : Within Parts.execRefLos s s := .refl
  unfold execRefLos
  refine ⟨_, rfl, ?_⟩
  refine Within.step ?_ (refLost_within ..) rfl
  with_reducible assumption

def Parts.execRefMeasurement : List Part := [Part.tm, 0x5018, 0x6048, Part.host, 0x5000, Part.ev, Part.clk, 0x7820, 0x7808, Part.sys, 0x7810]
theorem execRefMeasurement_within (r : Nat) (edges : List Int) (freq : Int) (interval : Nat) (s : State) : ExecWithin Parts.execRefMeasurement s (execRefMeasurement r edges freq interval s) := by
  have h0 : Within Parts.execRefMeasurement s s := .refl
  unfold execRefMeasurement
  refine ⟨_, rfl, ?_⟩
  refine Within.step ?_ (refMeasured_within ..) rfl
  with_reducible assumption

def Parts.execRefQualify : List Part := [Part.clk, 0x5018, 0x6048, Part.host]
theorem execRefQualify_within (r : Nat) (s : State) : ExecWithin Parts.execRefQualify s (execRefQualify r s) := by
  have h0 : Within Parts.execRefQualify s s := .refl
  unfold execRefQualify
  refine ⟨_, rfl, ?_⟩
  refine Within.step ?_ (refQualify_within ..) rfl
  with_reducible assumption

def Parts.execRefRequalify : List Part := [0x5020, 0x5018, Part.ev, Part.tm, 0x6048, Part.host, 0x1028, Part.save, Part.shadow, 0x6040, 0x7808, 0x7810, 0x7820, Part.clk, Part.sys, Part.pw]
theorem execRefRequalify_within (rq : Req) (r : Nat) (s : State) : ExecWithin Parts.execRefRequalify s (execRefRequalify rq r s) := by
  have h0 : Within Parts.execRefRequalify s s := .refl
  unfold execRefRequalify
  refine ⟨_, rfl, ?_⟩
  refine request_within rfl ?_ ?_
  · refine ⟨rfl, fun s0 => ?_⟩
    dsimp -zeta only
    have h00 : Within Parts.execRefRequalify s0 s0 := .refl
    refine Within.step ?_ (refRequalify_within ..) rfl
    with_reducible assumption
  · with_reducible assumption

def Parts.execSelectionEval : List Part := [Part.tm, 0x5018, 0x6048, Part.host, 0x5000, Part.clk, Part.ev, 0x7820, 0x7808, Part.sys, 0x7810]
theorem execSelectionEval_within (s : State) : ExecWithin Parts.execSelectionEval s (execSelectionEval s) := by
  have h0 : Within Parts.execSelectionEval s s := .refl
  unfold execSelectionEval
  refine ⟨_, rfl, ?_⟩
  refine Within.step ?_ (selectionEval_within ..) rfl
  with_reducible assumption

def Parts.execSlewDone : List Part := [Part.clk, 0x5000, Part.host, 0x6048]
theorem execSlewDone_within (s : State) : ExecWithin Parts.execSlewDone s (execSlewDone s) := by
  have h0 : Within Parts.execSlewDone s s := .refl
  unfold execSlewDone
  refine ⟨_, rfl, ?_⟩
  refine Within.step ?_ (slewDone_within ..) rfl
  with_reducible assumption

def Parts.putTmStep : List Part := [0x5050, Part.tm, Part.clk, 0x1028, Part.save, Part.ev, Part.host, 0x7820, 0x6048, 0x7808, Part.sys, 0x7810, 0x5000, 0x5018, Part.xp, Part.au, Part.ap]
theorem putTmStep_within (rq : Req) (w0 : W) (w1 : W) (w2 : W) : PutWithin Parts.putTmStep (putTmStep rq w0 w1 w2) := by
  unfold putTmStep
  extract_lets +onlyGivenNames -merge a0
  clear_value a0
  refine ⟨rfl, fun s0 => ?_⟩
  dsimp -zeta only
  have h00 : Within Parts.putTmStep s0 s0 := .refl
  split
  · dsimp -zeta only
    refine Within.step ?_ (setWord_within ..) rfl
    refine Within.step ?_ (setWord_within ..) rfl
    refine Within.step ?_ (setWord_within ..) rfl
    with_reducible assumption
  · split
    · with_reducible assumption
    · split
      · dsimp -zeta only
        refine Within.step ?_ (setFld_within ..) rfl
        with_reducible assumption
      · split
        · dsimp -zeta only
          refine Within.step ?_ (setFld_within ..) rfl
          with_reducible assumption
        · extract_lets +onlyGivenNames -merge a1
          have h2 : Within Parts.putTmStep s0 a1 := by
            unfold a1
            refine Within.step ?_ (setWord_within ..) rfl
            refine Within.step ?_ (setWord_within ..) rfl
            refine Within.step ?_ (setWord_within ..) rfl
            with_reducible assumption
          clear_value a1
          split
          · dsimp -zeta only
            refine Within.step ?_ (withTm_within ..) rfl
            refine Within.step ?_ (setFld_within ..) rfl
            with_reducible assumption
          · dsimp -zeta only
            refine Within.step ?_ (stepApply_within ..) rfl
            with_reducible assumption

def Parts.execStepAbsolute : List Part := [0x5050, Part.tm, Part.clk, 0x1028, Part.save, Part.ev, Part.host, 0x7820, 0x6048, 0x7808, Part.sys, 0x7810, 0x5000, 0x5018, Part.xp, Part.au, Part.ap, Part.shadow, 0x6040, Part.pw]
theorem execStepAbsolute_within (rq : Req) (w0 : W) (w1 : W) (w2 : W) (s : State) : ExecWithin Parts.execStepAbsolute s (execStepAbsolute rq w0 w1 w2 s) := by
  have h0 : Within Parts.execStepAbsolute s s := .refl
  unfold execStepAbsolute
  extract_lets +onlyGivenNames -merge a0
  have h1 : PutWithin Parts.execStepAbsolute a0 := by
    unfold a0
    exact PutWithin.step (putTmStep_within ..) rfl
  clear_value a0
  refine ⟨_, rfl, ?_⟩
  refine request_within rfl ?_ ?_
  · with_reducible assumption
  · with_reducible assumption

def Parts.execStepApply : List Part := [Part.clk, 0x1028, Part.save, Part.tm, Part.ev, Part.host, 0x7820, 0x6048, 0x7808, Part.sys, 0x7810, 0x5000, 0x5050, 0x5018, Part.xp, Part.au, Part.ap]
theorem execStepApply_within (s : State) : ExecWithin Parts.execStepApply s (execStepApply s) := by
  have h0 : Within Parts.execStepApply s s := .refl
  unfold execStepApply
  refine ⟨_, rfl, ?_⟩
  refine Within.step ?_ (stepDue_within ..) rfl
  with_reducible assumption

def Parts.execStepRelative : List Part := [0x5050, Part.tm, Part.clk, 0x1028, Part.save, Part.ev, Part.host, 0x7820, 0x6048, 0x7808, Part.sys, 0x7810, 0x5000, 0x5018, Part.xp, Part.au, Part.ap, Part.shadow, 0x6040, Part.pw]
theorem execStepRelative_within (rq : Req) (w0 : W) (w1 : W) (w2 : W) (s : State) : ExecWithin Parts.execStepRelative s (execStepRelative rq w0 w1 w2 s) := by
  have h0 : Within Parts.execStepRelative s s := .refl
  unfold execStepRelative
  extract_lets +onlyGivenNames -merge a0
  have h1 : PutWithin Parts.execStepRelative a0 := by
    unfold a0
    exact PutWithin.step (putTmStep_within ..) rfl
  clear_value a0
  refine ⟨_, rfl, ?_⟩
  refine request_within rfl ?_ ?_
  · with_reducible assumption
  · with_reducible assumption

def Parts.execStepToref : List Part := [0x5050, Part.tm, Part.clk, 0x1028, Part.save, Part.ev, Part.host, 0x7820, 0x6048, 0x7808, Part.sys, 0x7810, 0x5000, 0x5018, Part.xp, Part.au, Part.ap, Part.shadow, 0x6040, Part.pw]
theorem execStepToref_within (rq : Req) (w0 : W) (w1 : W) (w2 : W) (s : State) : ExecWithin Parts.execStepToref s (execStepToref rq w0 w1 w2 s) := by
  have h0 : Within Parts.execStepToref s s := .refl
  unfold execStepToref
  extract_lets +onlyGivenNames -merge a0
  have h1 : PutWithin Parts.execStepToref a0 := by
    unfold a0
    exact PutWithin.step (putTmStep_within ..) rfl
  clear_value a0
  refine ⟨_, rfl, ?_⟩
  refine request_within rfl ?_ ?_
  · with_reducible assumption
  · with_reducible assumption

def Parts.putTmOut : List Part := [0x5058, 0x1028, Part.save, Part.tm]
theorem putTmOut_within (s : State) (o : Nat) (ws : List (Nat × W)) : PutWithin Parts.putTmOut (putTmOut s o ws) := by
  have h0 : Within Parts.putTmOut s s := .refl
  unfold putTmOut
  extract_lets +onlyGivenNames -merge a0
  clear_value a0
  extract_lets +onlyGivenNames -merge a1
  clear_value a1
  refine ⟨rfl, fun s0 => ?_⟩
  dsimp -zeta only
  have h00 : Within Parts.putTmOut s0 s0 := .refl
  extract_lets +onlyGivenNames -merge a2
  clear_value a2
  split
  · with_reducible assumption
  · extract_lets +onlyGivenNames -merge a3
    extract_lets +onlyGivenNames -merge a4
    extract_lets +onlyGivenNames -merge a5
    have h6 : Within Parts.putTmOut s0 a5 := by
      unfold a5
      refine Within.step ?_ (putWord_within ..) rfl
      refine Within.step ?_ (putWord_within ..) rfl
      with_reducible assumption
    clear_value a5
    extract_lets +onlyGivenNames -merge a7
    extract_lets +onlyGivenNames -merge a8
    clear_value a8
    extract_lets +onlyGivenNames -merge a9
    clear_value a9
    dsimp -zeta only
    split
    · with_reducible assumption
    · refine Within.step ?_ (withTm_within ..) rfl
      with_reducible assumption

def Parts.execTmOutWrite : List Part := [0x5058, 0x1028, Part.save, Part.tm, Part.shadow, 0x6040, 0x6048, 0x7808, 0x7810, 0x7820, Part.clk, Part.sys, Part.host, Part.ev, Part.pw]
theorem execTmOutWrite_within (rq : Req) (o : Nat) (w : Nat) (v : W) (s : State) : ExecWithin Parts.execTmOutWrite s (execTmOutWrite rq o w v s) := by
  have h0 : Within Parts.execTmOutWrite s s := .refl
  unfold execTmOutWrite
  extract_lets +onlyGivenNames -merge a0
  have h1 : PutWithin Parts.execTmOutWrite a0 := by
    unfold a0
    exact PutWithin.step (putTmOut_within ..) rfl
  clear_value a0
  refine ⟨_, rfl, ?_⟩
  refine request_within rfl ?_ ?_
  · with_reducible assumption
  · with_reducible assumption

def Parts.putTmRef : List Part := [0x5010, 0x1028, Part.save, Part.tm, 0x5018, 0x6048, Part.host, 0x5030]
theorem putTmRef_within (s : State) (rq : Req) (r : Nat) (ws : List (Nat × W)) : PutWithin Parts.putTmRef (putTmRef s rq r ws) := by
  have h0 : Within Parts.putTmRef s s := .refl
  unfold putTmRef
  extract_lets +onlyGivenNames -merge a0
  clear_value a0
  extract_lets +onlyGivenNames -merge a1
  clear_value a1
  extract_lets +onlyGivenNames -merge a2
  clear_value a2
  refine ⟨rfl, fun s0 => ?_⟩
  dsimp -zeta only
  have h00 : Within Parts.putTmRef s0 s0 := .refl
  extract_lets +onlyGivenNames -merge a3
  clear_value a3
  split
  · with_reducible assumption
  · split
    · with_reducible assumption
    · extract_lets +onlyGivenNames -merge a4
      clear_value a4
      extract_lets +onlyGivenNames -merge a5
      have h6 : Within Parts.putTmRef s0 a5 := by
        unfold a5
        refine Within.step ?_ (putWord_within ..) rfl
        refine Within.step ?_ (putWord_within ..) rfl
        with_reducible assumption
      clear_value a5
      dsimp -zeta only
      split
      · with_reducible assumption
      · refine Within.step ?_ (refEnable_within ..) rfl
        with_reducible assumption

def Parts.execTmRefWrite : List Part := [0x5010, 0x1028, Part.save, Part.tm, 0x5018, 0x6048, Part.host, 0x5030, Part.shadow, 0x6040, 0x7808, 0x7810, 0x7820, Part.clk, Part.sys, Part.ev, Part.pw]
theorem execTmRefWrite_within (rq : Req) (r : Nat) (w : Nat) (v : W) (s : State) : ExecWithin Parts.execTmRefWrite s (execTmRefWrite rq r w v s) := by
  have h0 : Within Parts.execTmRefWrite s s := .refl
  unfold execTmRefWrite
  extract_lets +onlyGivenNames -merge a0
  have h1 : PutWithin Parts.execTmRefWrite a0 := by
    unfold a0
    exact PutWithin.step (putTmRef_within ..) rfl
  clear_value a0
  refine ⟨_, rfl, ?_⟩
  refine request_within rfl ?_ ?_
  · with_reducible assumption
  · with_reducible assumption

end Sys2Proof.Machine
end

