-- ==== Sys2Proof/Laws/WithinLanes.lean ====
section
/-! SUPPORT. What the operations of Machine/Lanes.lean may change: for each the parts of the state, and that it keeps to them. -/
namespace Sys2Proof.Machine

def Parts.setLane : List Part := [0x4028, 0x6048, Part.host]
theorem setLane_within (s : State) (e : Nat) (n : Nat) : Within Parts.setLane s (State.setLane s e n) := by
  have h0 : Within Parts.setLane s s := .refl
  unfold State.setLane
  refine Within.step ?_ (setNotify_within ..) rfl
  with_reducible assumption

def Parts.setSpare : List Part := [0x4038, Part.host, 0x6048]
theorem setSpare_within (s : State) (se : Nat) (n : Nat) (lane : Nat) (sheet : Nat) : Within Parts.setSpare s (State.setSpare s se n lane sheet) := by
  have h0 : Within Parts.setSpare s s := .refl
  unfold State.setSpare
  extract_lets +onlyGivenNames -merge a0
  clear_value a0
  extract_lets +onlyGivenNames -merge a1
  extract_lets +onlyGivenNames -merge a2
  have h3 : Within Parts.setSpare s a2 := by
    unfold a2
    refine Within.step ?_ (setWord_within ..) rfl
    with_reducible assumption
  clear_value a2
  split
  · with_reducible assumption
  · refine Within.step ?_ (notify_within ..) rfl
    with_reducible assumption

def Parts.startLane : List Part := [0x4028, 0x6048, Part.host, 0x4038]
theorem startLane_within (s : State) (e : Nat) : Within Parts.startLane s (State.startLane s e) := by
  have h0 : Within Parts.startLane s s := .refl
  unfold State.startLane
  extract_lets +onlyGivenNames -merge a0
  extract_lets +onlyGivenNames -merge a1
  have h2 : Within Parts.startLane s a1 := by
    unfold a1
    refine Within.step ?_ (setFld_within ..) rfl
    refine Within.step ?_ (setFld_within ..) rfl
    with_reducible assumption
  clear_value a1
  extract_lets +onlyGivenNames -merge a3
  have h4 : Within Parts.startLane s a3 := by
    unfold a3
    split
    · refine Within.step ?_ (setLane_within ..) rfl
      with_reducible assumption
    · split
      · refine Within.step ?_ (setLane_within ..) rfl
        with_reducible assumption
      · split
        · refine Within.step ?_ (setLane_within ..) rfl
          with_reducible assumption
        · split
          · refine Within.step ?_ (setLane_within ..) rfl
            with_reducible assumption
          · refine Within.step ?_ (setLane_within ..) rfl
            with_reducible assumption
  clear_value a3
  split
  · refine Within.step ?_ (setSpare_within ..) rfl
    with_reducible assumption
  · with_reducible assumption

def Parts.dropLaneRun : List Part := [Part.lk]
theorem dropLaneRun_within (s : State) (e : Nat) : Within Parts.dropLaneRun s (State.dropLaneRun s e) := by
  have h0 : Within Parts.dropLaneRun s s := .refl
  unfold State.dropLaneRun
  refine Within.step ?_ (set_lk_within ..) rfl
  with_reducible assumption

def Parts.dropSpareRun : List Part := [Part.lk]
theorem dropSpareRun_within (s : State) (se : Nat) : Within Parts.dropSpareRun s (State.dropSpareRun s se) := by
  have h0 : Within Parts.dropSpareRun s s := .refl
  unfold State.dropSpareRun
  refine Within.step ?_ (set_lk_within ..) rfl
  with_reducible assumption

def Parts.spareLost : List Part := [Part.lk, 0x4038, Part.host, 0x6048]
theorem spareLost_within (s : State) (e : Nat) : Within Parts.spareLost s (State.spareLost s e) := by
  have h0 : Within Parts.spareLost s s := .refl
  unfold State.spareLost
  split
  · refine Within.step ?_ (setSpare_within ..) rfl
    refine Within.step ?_ (dropSpareRun_within ..) rfl
    with_reducible assumption
  · with_reducible assumption

def Parts.settleStay : List Part := [0x4028, 0x6048, Part.host]
theorem settleStay_within (s : State) (e : Nat) : Within Parts.settleStay s (State.settleStay s e) := by
  have h0 : Within Parts.settleStay s s := .refl
  unfold State.settleStay
  extract_lets +onlyGivenNames -merge a0
  split
  · with_reducible assumption
  · refine Within.step ?_ (setLane_within ..) rfl
    with_reducible assumption

def Parts.applyLane : List Part := [Part.ev, Part.lk, 0x4028, 0x6048, Part.host, 0x4038]
theorem applyLane_within (s : State) (e : Nat) (o : W) : Within Parts.applyLane s (State.applyLane s e o) := by
  have h0 : Within Parts.applyLane s s := .refl
  unfold State.applyLane
  extract_lets +onlyGivenNames -merge a0
  have h1 : Within Parts.applyLane s a0 := by
    unfold a0
    refine Within.step ?_ (putBack_within ..) rfl
    with_reducible assumption
  clear_value a0
  extract_lets +onlyGivenNames -merge a2
  split
  · with_reducible assumption
  · extract_lets +onlyGivenNames -merge a3
    have h4 : Within Parts.applyLane s a3 := by
      unfold a3
      split
      · refine Within.step ?_ (startLane_within ..) rfl
        refine Within.step ?_ (dropLaneRun_within ..) rfl
        with_reducible assumption
      · split
        · with_reducible assumption
        · split
          · refine Within.step ?_ (spareLost_within ..) rfl
            refine Within.step ?_ (setLane_within ..) rfl
            refine Within.step ?_ (setFld_within ..) rfl
            with_reducible assumption
          · split
            · refine Within.step ?_ (setLane_within ..) rfl
              refine Within.step ?_ (setFld_within ..) rfl
              with_reducible assumption
            · refine Within.step ?_ (startLane_within ..) rfl
              with_reducible assumption
    clear_value a3
    split
    · with_reducible assumption
    · refine Within.step ?_ (settleStay_within ..) rfl
      with_reducible assumption

def Parts.setLaneRun : List Part := [Part.lk]
theorem setLaneRun_within (s : State) (x : LaneRun) : Within Parts.setLaneRun s (State.setLaneRun s x) := by
  have h0 : Within Parts.setLaneRun s s := .refl
  unfold State.setLaneRun
  refine Within.step ?_ (set_lk_within ..) rfl
  with_reducible assumption

def Parts.applyPattern : List Part := [Part.lk, 0x4030, 0x4028, 0x6048, Part.host, 0x4038]
theorem applyPattern_within (s : State) (e : Nat) (o : W) : Within Parts.applyPattern s (State.applyPattern s e o) := by
  have h0 : Within Parts.applyPattern s s := .refl
  unfold State.applyPattern
  extract_lets +onlyGivenNames -merge a0
  clear_value a0
  extract_lets +onlyGivenNames -merge a1
  clear_value a1
  extract_lets +onlyGivenNames -merge a2
  clear_value a2
  extract_lets +onlyGivenNames -merge a3
  clear_value a3
  extract_lets +onlyGivenNames -merge a4
  have h5 : Within Parts.applyPattern s a4 := by
    unfold a4
    split
    · with_reducible assumption
    · refine Within.step ?_ (setFld_within ..) rfl
      refine Within.step ?_ (setLaneRun_within ..) rfl
      with_reducible assumption
  clear_value a4
  split
  · with_reducible assumption
  · split
    · refine Within.step ?_ (spareLost_within ..) rfl
      refine Within.step ?_ (setLaneRun_within ..) rfl
      refine Within.step ?_ (setLane_within ..) rfl
      with_reducible assumption
    · split
      · refine Within.step ?_ (setLane_within ..) rfl
        with_reducible assumption
      · refine Within.step ?_ (startLane_within ..) rfl
        with_reducible assumption

def Parts.checkBits : List Part := [Part.lk, 0x4030]
theorem checkBits_within (s : State) (e : Nat) (l : List Bool) : Within Parts.checkBits s (s.checkBits e l) := by
  induction l generalizing s with
  | nil => exact .refl
  | cons b l ih =>
    unfold State.checkBits
    extract_lets +onlyGivenNames -merge v r locked x n a
    have ha : Within Parts.checkBits s a := Within.step .refl (setLaneRun_within ..) rfl
    clear_value a
    extract_lets +onlyGivenNames -merge c
    have hc : Within Parts.checkBits s c := ha.step (setFld_within ..) rfl
    clear_value c
    extract_lets +onlyGivenNames -merge d
    have hd : Within Parts.checkBits s d := by
      unfold d
      split
      · exact hc.step (bump_within ..) rfl
      · exact hc
    exact (hd.step (setFld_within ..) rfl).trans (ih _)


def Parts.checkPatterns : List Part := [Part.lk, 0x4030]
theorem checkPatterns_within (s : State) (l : List (Nat × List Bool)) : Within Parts.checkPatterns s (State.checkPatterns s l) := by
  have h0 : Within Parts.checkPatterns s s := .refl
  unfold State.checkPatterns
  refine Within.foldl ?_ ?_
  · with_reducible assumption
  · intro x0 x1 x2
    split
    · refine Within.step ?_ (checkBits_within ..) rfl
      with_reducible assumption
    · with_reducible assumption

def Parts.countFrame : List Part := [0x2858]
theorem countFrame_within (s : State) (k : Nat) (port : W) (h : W) : Within Parts.countFrame s (State.countFrame s k port h) := by
  have h0 : Within Parts.countFrame s s := .refl
  unfold State.countFrame
  extract_lets +onlyGivenNames -merge a0
  clear_value a0
  split
  · refine Within.step ?_ (bump_within ..) rfl
    with_reducible assumption
  · split
    · refine Within.step ?_ (bump_within ..) rfl
      with_reducible assumption
    · with_reducible assumption

def Parts.keepBank : List Part := [Part.lk]
theorem keepBank_within (s : State) (k : Nat) (named : Nat) : Within Parts.keepBank s (State.keepBank s k named) := by
  have h0 : Within Parts.keepBank s s := .refl
  unfold State.keepBank
  refine Within.step ?_ (set_lk_within ..) rfl
  with_reducible assumption

def Parts.noteBank : List Part := [Part.lk]
theorem noteBank_within (s : State) (k : Nat) (named : Nat) : Within Parts.noteBank s (State.noteBank s k named) := by
  have h0 : Within Parts.noteBank s s := .refl
  unfold State.noteBank
  extract_lets +onlyGivenNames -merge a0
  clear_value a0
  refine Within.step ?_ (keepBank_within ..) rfl
  refine Within.step ?_ (set_lk_within ..) rfl
  with_reducible assumption

def Parts.decodeCopy : List Part := [0x2858, Part.lk]
theorem decodeCopy_within (s : State) (d l : Nat) (c : SheetCopy) : Within Parts.decodeCopy s (s.decodeCopy d l c) := by
  have h0 : Within Parts.decodeCopy s s := .refl
  unfold State.decodeCopy
  extract_lets +onlyGivenNames -merge k named a
  have ha : Within Parts.decodeCopy s a := by
    unfold a
    split
    · exact h0
    · exact h0.step (bump_within ..) rfl
  extract_lets +onlyGivenNames -merge b
  have hb : Within Parts.decodeCopy s b := by
    unfold b
    split
    · exact ha.step (noteBank_within ..) rfl
    · exact ha
  extract_lets +onlyGivenNames -merge n
  by_cases h : n = 0 ∨ b.lanePaired d l = true
  · rw [if_pos h]; exact hb
  · rw [if_neg h]
    extract_lets +onlyGivenNames -merge e
    have he : Within Parts.decodeCopy s e := hb.step (bump_within ..) rfl
    exact he.step (set_lk_within ..) rfl


def Parts.dropLink : List Part := [Part.mx]
theorem dropLink_within (s : State) (e : Nat) : Within Parts.dropLink s (State.dropLink s e) := by
  have h0 : Within Parts.dropLink s s := .refl
  unfold State.dropLink
  split
  · extract_lets +onlyGivenNames -merge a0
    clear_value a0
    refine Within.step ?_ (set_mx_within ..) rfl
    with_reducible assumption
  · with_reducible assumption

def Parts.errorSecond : List Part := [Part.clk, Part.lk, Part.ev, Part.host, 0x7820, 0x6048, 0x7808, Part.sys, 0x7810]
theorem errorSecond_within (s : State) : Within Parts.errorSecond s (State.errorSecond s) := by
  have h0 : Within Parts.errorSecond s s := .refl
  unfold State.errorSecond
  extract_lets +onlyGivenNames -merge a0
  have h1 : Within Parts.errorSecond s a0 := by
    unfold a0
    refine Within.step ?_ (waitCount_within ..) rfl
    with_reducible assumption
  clear_value a0
  extract_lets +onlyGivenNames -merge a2
  extract_lets +onlyGivenNames -merge a3
  clear_value a3
  extract_lets +onlyGivenNames -merge a4
  clear_value a4
  extract_lets +onlyGivenNames -merge a5
  have h6 : Within Parts.errorSecond s a5 := by
    unfold a5
    refine Within.step ?_ (set_lk_within ..) rfl
    with_reducible assumption
  clear_value a5
  refine Within.foldl ?_ ?_
  · with_reducible assumption
  · intro x7 x8 x9
    extract_lets +onlyGivenNames -merge a10
    refine Within.step ?_ (notify_within ..) rfl
    refine Within.step ?_ (raise_within ..) rfl
    with_reducible assumption

def Parts.takeStream : List Part := [Part.lk, 0x2858]
theorem takeStream_within (s : State) (k : Nat) (port : W) (x : RxStream) (l : List W) :
    Within Parts.takeStream s (s.takeStream k port x l) := by
  have key : ∀ (l : List W) (t : State) (x : RxStream), Within Parts.takeStream s t →
      Within Parts.takeStream s (t.takeStream k port x l) := by
    intro l
    induction l with
    | nil =>
      intro t x h
      unfold State.takeStream
      exact h.step (setRxStream_within ..) rfl
    | cons w r ih =>
      intro t x h
      unfold State.takeStream
      split
      · exact ih _ _ h
      · split
        · exact ih _ _ (h.step (bump_within ..) rfl)
        · split
          · exact ih _ _ h
          · split
            · exact ih _ _ ((h.step (bump_within ..) rfl).step (bump_within ..) rfl)
            · exact ih _ _ (h.step (countFrame_within ..) rfl)
  exact key l s x .refl


def Parts.essenceFrame : List Part := [Part.lk, 0x2858]
theorem essenceFrame_within (s : State) (p : Nat) (h : W) (payload : List W) : Within Parts.essenceFrame s (State.essenceFrame s p h payload) := by
  have h0 : Within Parts.essenceFrame s s := .refl
  unfold State.essenceFrame
  extract_lets +onlyGivenNames -merge a0
  clear_value a0
  split
  · with_reducible assumption
  · refine Within.step ?_ (takeStream_within ..) rfl
    with_reducible assumption

def Parts.spareFound : List Part := [0x4038, Part.host, 0x6048]
theorem spareFound_within (s : State) (e : Nat) : Within Parts.spareFound s (State.spareFound s e) := by
  have h0 : Within Parts.spareFound s s := .refl
  unfold State.spareFound
  split
  · refine Within.step ?_ (setSpare_within ..) rfl
    with_reducible assumption
  · with_reducible assumption

def Parts.hear : List Part := [Part.tw]
theorem hear_within (s : State) (e : Nat) (h : W) : Within Parts.hear s (State.hear s e h) := by
  have h0 : Within Parts.hear s s := .refl
  unfold State.hear
  extract_lets +onlyGivenNames -merge a0
  clear_value a0
  extract_lets +onlyGivenNames -merge a1
  split
  · with_reducible assumption
  · extract_lets +onlyGivenNames -merge a2
    clear_value a2
    extract_lets +onlyGivenNames -merge a3
    have h4 : Within Parts.hear s a3 := by
      unfold a3
      split
      · refine Within.step ?_ (set_tw_within ..) rfl
        with_reducible assumption
      · with_reducible assumption
    clear_value a3
    split
    · extract_lets +onlyGivenNames -merge a5
      refine Within.step ?_ (set_tw_within ..) rfl
      with_reducible assumption
    · with_reducible assumption

def Parts.seen : List Part := [Part.tw, 0x4028]
theorem seen_within (s : State) (e : Nat) (h : W) (arrival : Int) : Within Parts.seen s (State.seen s e h arrival) := by
  have h0 : Within Parts.seen s s := .refl
  unfold State.seen
  extract_lets +onlyGivenNames -merge a0
  have h1 : Within Parts.seen s a0 := by
    unfold a0
    refine Within.step ?_ (hear_within ..) rfl
    with_reducible assumption
  clear_value a0
  refine Within.step ?_ (setFld_within ..) rfl
  refine Within.step ?_ (setFld_within ..) rfl
  refine Within.step ?_ (setFld_within ..) rfl
  refine Within.step ?_ (setFld_within ..) rfl
  with_reducible assumption

def Parts.gainLock : List Part := [Part.lk, 0x4028, 0x6048, Part.host, Part.tw, 0x4038]
theorem gainLock_within (s : State) (e : Nat) (pos : Nat) (h : W) (arrival : Int) : Within Parts.gainLock s (State.gainLock s e pos h arrival) := by
  have h0 : Within Parts.gainLock s s := .refl
  unfold State.gainLock
  extract_lets +onlyGivenNames -merge a0
  clear_value a0
  extract_lets +onlyGivenNames -merge a1
  have h2 : Within Parts.gainLock s a1 := by
    unfold a1
    refine Within.step ?_ (setLaneRun_within ..) rfl
    with_reducible assumption
  clear_value a1
  refine Within.step ?_ (spareFound_within ..) rfl
  refine Within.step ?_ (seen_within ..) rfl
  refine Within.step ?_ (setLane_within ..) rfl
  with_reducible assumption

def Parts.huntBlock : List Part := [Part.lk, 0x4028, 0x6048, Part.host, Part.tw, 0x4038]
theorem huntBlock_within (s : State) (e : Nat) (pos : Nat) (ok : Bool) (h : W) (arrival : Int) : Within Parts.huntBlock s (State.huntBlock s e pos ok h arrival) := by
  have h0 : Within Parts.huntBlock s s := .refl
  unfold State.huntBlock
  extract_lets +onlyGivenNames -merge a0
  clear_value a0
  extract_lets +onlyGivenNames -merge a1
  clear_value a1
  extract_lets +onlyGivenNames -merge a2
  clear_value a2
  split
  · split
    · refine Within.step ?_ (setLaneRun_within ..) rfl
      with_reducible assumption
    · extract_lets +onlyGivenNames -merge a3
      split
      · refine Within.step ?_ (gainLock_within ..) rfl
        with_reducible assumption
      · refine Within.step ?_ (setLaneRun_within ..) rfl
        with_reducible assumption
  · split
    · refine Within.step ?_ (setLaneRun_within ..) rfl
      with_reducible assumption
    · with_reducible assumption

def Parts.loseLock : List Part := [Part.lk, 0x4028, 0x6048, Part.host, 0x4038, Part.tm, 0x5018]
theorem loseLock_within (s : State) (e : Nat) (goal : Nat) : Within Parts.loseLock s (State.loseLock s e goal) := by
  have h0 : Within Parts.loseLock s s := .refl
  unfold State.loseLock
  extract_lets +onlyGivenNames -merge a0
  clear_value a0
  extract_lets +onlyGivenNames -merge a1
  have h2 : Within Parts.loseLock s a1 := by
    unfold a1
    refine Within.step ?_ (setLaneRun_within ..) rfl
    with_reducible assumption
  clear_value a1
  refine Within.step ?_ (checkStayRefs_within ..) rfl
  refine Within.step ?_ (spareLost_within ..) rfl
  refine Within.step ?_ (setLane_within ..) rfl
  refine Within.step ?_ (bump_within ..) rfl
  with_reducible assumption

def Parts.miswire : List Part := [0x4028, 0x6048, Part.host, Part.ev, Part.clk, 0x7820, 0x7808, Part.sys, 0x7810]
theorem miswire_within (s : State) (e : Nat) (h : W) : Within Parts.miswire s (State.miswire s e h) := by
  have h0 : Within Parts.miswire s s := .refl
  unfold State.miswire
  refine Within.step ?_ (raise_within ..) rfl
  refine Within.step ?_ (setLane_within ..) rfl
  refine Within.step ?_ (bump_within ..) rfl
  with_reducible assumption

def Parts.peerCheck : List Part := [Part.lk, 0x4028, 0x6048, Part.host, Part.ev, Part.clk, 0x7820, 0x7808, Part.sys, 0x7810]
theorem peerCheck_within (s : State) (e : Nat) (h : W) : Within Parts.peerCheck s (State.peerCheck s e h) := by
  have h0 : Within Parts.peerCheck s s := .refl
  unfold State.peerCheck
  extract_lets +onlyGivenNames -merge a0
  clear_value a0
  split
  · extract_lets +onlyGivenNames -merge a1
    extract_lets +onlyGivenNames -merge a2
    have h3 : Within Parts.peerCheck s a2 := by
      unfold a2
      refine Within.step ?_ (setLaneRun_within ..) rfl
      with_reducible assumption
    clear_value a2
    split
    · refine Within.step ?_ (setLane_within ..) rfl
      with_reducible assumption
    · with_reducible assumption
  · extract_lets +onlyGivenNames -merge a4
    extract_lets +onlyGivenNames -merge a5
    have h6 : Within Parts.peerCheck s a5 := by
      unfold a5
      refine Within.step ?_ (setLaneRun_within ..) rfl
      with_reducible assumption
    clear_value a5
    split
    · refine Within.step ?_ (miswire_within ..) rfl
      with_reducible assumption
    · with_reducible assumption

def Parts.lockedBlock : List Part := [0x2858, Part.lk, 0x4028, 0x6048, Part.host, 0x4038, Part.tm, 0x5018, Part.tw, Part.ev, Part.clk, 0x7820, 0x7808, Part.sys, 0x7810]
theorem lockedBlock_within (s : State) (e : Nat) (ok : Bool) (h : W) (arrival : Int) : Within Parts.lockedBlock s (State.lockedBlock s e ok h arrival) := by
  have h0 : Within Parts.lockedBlock s s := .refl
  unfold State.lockedBlock
  extract_lets +onlyGivenNames -merge a0
  clear_value a0
  split
  · extract_lets +onlyGivenNames -merge a1
    have h2 : Within Parts.lockedBlock s a1 := by
      unfold a1
      split
      · refine Within.step ?_ (bump_within ..) rfl
        with_reducible assumption
      · with_reducible assumption
    clear_value a1
    split
    · refine Within.step ?_ (loseLock_within ..) rfl
      with_reducible assumption
    · refine Within.step ?_ (setLaneRun_within ..) rfl
      with_reducible assumption
  · extract_lets +onlyGivenNames -merge a3
    clear_value a3
    extract_lets +onlyGivenNames -merge a4
    have h5 : Within Parts.lockedBlock s a4 := by
      unfold a4
      refine Within.step ?_ (setLaneRun_within ..) rfl
      with_reducible assumption
    clear_value a4
    extract_lets +onlyGivenNames -merge a6
    have h7 : Within Parts.lockedBlock s a6 := by
      unfold a6
      split
      · refine Within.step ?_ (bump_within ..) rfl
        with_reducible assumption
      · with_reducible assumption
    clear_value a6
    refine Within.step ?_ (peerCheck_within ..) rfl
    refine Within.step ?_ (seen_within ..) rfl
    with_reducible assumption

def Parts.headerBlock : List Part := [Part.lk, 0x4028, 0x6048, Part.host, Part.tw, 0x4038, 0x2858, Part.tm, 0x5018, Part.ev, Part.clk, 0x7820, 0x7808, Part.sys, 0x7810]
theorem headerBlock_within (s : State) (e : Nat) (pos : Nat) (sync : Nat) (h : W) (arrival : Int) : Within Parts.headerBlock s (State.headerBlock s e pos sync h arrival) := by
  have h0 : Within Parts.headerBlock s s := .refl
  unfold State.headerBlock
  split
  · with_reducible assumption
  · extract_lets +onlyGivenNames -merge a0
    clear_value a0
    extract_lets +onlyGivenNames -merge a1
    split
    · refine Within.step ?_ (huntBlock_within ..) rfl
      with_reducible assumption
    · split
      · refine Within.step ?_ (lockedBlock_within ..) rfl
        with_reducible assumption
      · with_reducible assumption

def Parts.injectRun : List Part := [Part.fresh, Part.lk]
theorem injectRun_within (s : State) (e : Nat) (n : Nat) : Within Parts.injectRun s (State.injectRun s e n) := by
  have h0 : Within Parts.injectRun s s := .refl
  unfold State.injectRun
  extract_lets +onlyGivenNames -merge a0
  have h1 : Within Parts.injectRun s a0.1 := by
    unfold a0
    refine Within.step ?_ (takeFree_within ..) rfl
    with_reducible assumption
  clear_value a0
  extract_lets +onlyGivenNames -merge a2
  have h3 : Within Parts.injectRun s a2 := by
    unfold a2
    with_reducible assumption
  clear_value a2
  extract_lets +onlyGivenNames -merge a4
  clear_value a4
  extract_lets +onlyGivenNames -merge a5
  refine Within.step ?_ (setLaneRun_within ..) rfl
  with_reducible assumption

def Parts.meshFail : List Part := [Part.lk, Part.ev, Part.host, Part.clk, 0x7820, 0x6048, 0x7808, Part.sys, 0x7810]
theorem meshFail_within (s : State) (d1 : Nat) (d2 : Nat) : Within Parts.meshFail s (State.meshFail s d1 d2) := by
  have h0 : Within Parts.meshFail s s := .refl
  unfold State.meshFail
  extract_lets +onlyGivenNames -merge a0
  extract_lets +onlyGivenNames -merge a1
  split
  · with_reducible assumption
  · extract_lets +onlyGivenNames -merge a2
    extract_lets +onlyGivenNames -merge a3
    clear_value a3
    extract_lets +onlyGivenNames -merge a4
    have h5 : Within Parts.meshFail s a4 := by
      unfold a4
      refine Within.step ?_ (set_lk_within ..) rfl
      with_reducible assumption
    clear_value a4
    split
    · refine Within.step ?_ (raise_within ..) rfl
      with_reducible assumption
    · split
      · extract_lets +onlyGivenNames -merge a6
        refine Within.step ?_ (raise_within ..) rfl
        with_reducible assumption
      · with_reducible assumption

def Parts.overrun : List Part := [0x4028]
theorem overrun_within (s : State) (d : Nat) (l : Nat) : Within Parts.overrun s (State.overrun s d l) := by
  have h0 : Within Parts.overrun s s := .refl
  unfold State.overrun
  refine Within.step ?_ (bump_within ..) rfl
  with_reducible assumption

def Parts.setSpareRun : List Part := [Part.lk]
theorem setSpareRun_within (s : State) (x : SpareRun) : Within Parts.setSpareRun s (State.setSpareRun s x) := by
  have h0 : Within Parts.setSpareRun s s := .refl
  unfold State.setSpareRun
  refine Within.step ?_ (set_lk_within ..) rfl
  with_reducible assumption

def Parts.selfTestFailed : List Part := [Part.tw, Part.ev, Part.host, Part.clk, 0x7820, 0x6048, 0x7808, Part.sys, 0x7810]
theorem selfTestFailed_within (s : State) (p1 : Nat) (p2 : Nat) : Within Parts.selfTestFailed s (State.selfTestFailed s p1 p2) := by
  have h0 : Within Parts.selfTestFailed s s := .refl
  unfold State.selfTestFailed
  refine Within.step ?_ (note_within ..) rfl
  refine Within.step ?_ (set_tw_within ..) rfl
  with_reducible assumption

def Parts.spareErrors : List Part := [0x4038, Part.tw, Part.ev, Part.host, Part.clk, 0x7820, 0x6048, 0x7808, Part.sys, 0x7810]
theorem spareErrors_within (s : State) (se : Nat) (n : Nat) : Within Parts.spareErrors s (State.spareErrors s se n) := by
  have h0 : Within Parts.spareErrors s s := .refl
  unfold State.spareErrors
  extract_lets +onlyGivenNames -merge a0
  have h1 : Within Parts.spareErrors s a0 := by
    unfold a0
    refine Within.step ?_ (bump_within ..) rfl
    with_reducible assumption
  clear_value a0
  split
  · refine Within.step ?_ (selfTestFailed_within ..) rfl
    with_reducible assumption
  · with_reducible assumption

def Parts.spareCopy : List Part := [Part.lk, 0x4038, Part.host, 0x6048, Part.tw, Part.ev, Part.clk, 0x7820, 0x7808, Part.sys, 0x7810]
theorem spareCopy_within (s : State) (d : Nat) (l : Nat) (n : Nat) (c : Option SheetCopy) : Within Parts.spareCopy s (State.spareCopy s d l n c) := by
  have h0 : Within Parts.spareCopy s s := .refl
  unfold State.spareCopy
  extract_lets +onlyGivenNames -merge a0
  extract_lets +onlyGivenNames -merge a1
  extract_lets +onlyGivenNames -merge a2
  extract_lets +onlyGivenNames -merge a3
  clear_value a3
  extract_lets +onlyGivenNames -merge a4
  clear_value a4
  extract_lets +onlyGivenNames -merge a5
  have h6 : ∀ y0, (Within Parts.spareCopy s y0) → Within Parts.spareCopy s (a5 y0) := by
    intro x7 hx8
    unfold a5
    split
    · refine Within.step ?_ (setSpare_within ..) rfl
      refine Within.step ?_ (dropSpareRun_within ..) rfl
      with_reducible assumption
    · with_reducible assumption
  clear_value a5
  split
  · split
    · with_reducible assumption
    · split
      · apply h6
        with_reducible assumption
      · split
        · refine Within.step ?_ (setSpareRun_within ..) rfl
          with_reducible assumption
        · with_reducible assumption
  · split
    · split
      · split
        · refine Within.step ?_ (setSpareRun_within ..) rfl
          with_reducible assumption
        · with_reducible assumption
      · split
        · refine Within.step ?_ (spareErrors_within ..) rfl
          with_reducible assumption
        · with_reducible assumption
    · split
      · split
        · with_reducible assumption
        · extract_lets +onlyGivenNames -merge a9
          extract_lets +onlyGivenNames -merge a10
          extract_lets +onlyGivenNames -merge a11
          have h12 : Within Parts.spareCopy s a11 := by
            unfold a11
            refine Within.step ?_ (setSpareRun_within ..) rfl
            with_reducible assumption
          clear_value a11
          split
          · refine Within.step ?_ (setSpare_within ..) rfl
            with_reducible assumption
          · split
            · refine Within.step ?_ (setSpare_within ..) rfl
              with_reducible assumption
            · with_reducible assumption
      · split
        · apply h6
          refine Within.step ?_ (spareErrors_within ..) rfl
          with_reducible assumption
        · split
          · apply h6
            with_reducible assumption
          · with_reducible assumption

def Parts.rxSheet : List Part := [Part.lk, 0x4038, Part.host, 0x6048, Part.tw, Part.ev, Part.clk, 0x7820, 0x7808, Part.sys, 0x7810, 0x2858]
theorem rxSheet_within (s : State) (d : Nat) (l : Nat) (data : Option SheetCopy) (spare : Option SheetCopy) : Within Parts.rxSheet s (State.rxSheet s d l data spare) := by
  have h0 : Within Parts.rxSheet s s := .refl
  unfold State.rxSheet
  extract_lets +onlyGivenNames -merge a0
  extract_lets +onlyGivenNames -merge a1
  extract_lets +onlyGivenNames -merge a2
  extract_lets +onlyGivenNames -merge a3
  extract_lets +onlyGivenNames -merge a4
  clear_value a4
  extract_lets +onlyGivenNames -merge a5
  clear_value a5
  extract_lets +onlyGivenNames -merge a6
  clear_value a6
  extract_lets +onlyGivenNames -merge a7
  have h8 : Within Parts.rxSheet s a7 := by
    unfold a7
    refine Within.step ?_ (spareCopy_within ..) rfl
    with_reducible assumption
  clear_value a7
  split
  · with_reducible assumption
  · extract_lets +onlyGivenNames -merge a9
    clear_value a9
    extract_lets +onlyGivenNames -merge a10
    clear_value a10
    extract_lets +onlyGivenNames -merge a11
    clear_value a11
    extract_lets +onlyGivenNames -merge a12
    clear_value a12
    extract_lets +onlyGivenNames -merge a13
    clear_value a13
    extract_lets +onlyGivenNames -merge a14
    clear_value a14
    extract_lets +onlyGivenNames -merge a15
    clear_value a15
    extract_lets +onlyGivenNames -merge a16
    clear_value a16
    extract_lets +onlyGivenNames -merge a17
    clear_value a17
    extract_lets +onlyGivenNames -merge a18
    clear_value a18
    extract_lets +onlyGivenNames -merge a19
    have h20 : Within Parts.rxSheet s a19 := by
      unfold a19
      split
      · refine Within.step ?_ (bump_within ..) rfl
        with_reducible assumption
      · with_reducible assumption
    clear_value a19
    extract_lets +onlyGivenNames -merge a21
    have h22 : Within Parts.rxSheet s a21 := by
      unfold a21
      split
      · refine Within.step ?_ (bump_within ..) rfl
        with_reducible assumption
      · with_reducible assumption
    clear_value a21
    split
    · with_reducible assumption
    · split
      · refine Within.step ?_ (keepBank_within ..) rfl
        with_reducible assumption
      · refine Within.step ?_ (decodeCopy_within ..) rfl
        with_reducible assumption

def Parts.sdiLost : List Part := [0x4870, 0x6048, Part.host]
theorem sdiLost_within (s : State) (e : Nat) : Within Parts.sdiLost s (State.sdiLost s e) := by
  have h0 : Within Parts.sdiLost s s := .refl
  unfold State.sdiLost
  refine Within.foldl ?_ ?_
  · with_reducible assumption
  · intro x0 x1 x2
    extract_lets +onlyGivenNames -merge a3
    clear_value a3
    split
    · refine Within.step ?_ (setLink_within ..) rfl
      with_reducible assumption
    · with_reducible assumption

def Parts.signalLoss : List Part := [Part.lk, 0x4028, 0x6048, Part.host, 0x4038, Part.tm, 0x5018, 0x4870]
theorem signalLoss_within (s : State) (e : Nat) : Within Parts.signalLoss s (State.signalLoss s e) := by
  have h0 : Within Parts.signalLoss s s := .refl
  unfold State.signalLoss
  extract_lets +onlyGivenNames -merge a0
  split
  · with_reducible assumption
  · split
    · extract_lets +onlyGivenNames -merge a1
      have h2 : Within Parts.signalLoss s a1 := by
        unfold a1
        refine Within.step ?_ (loseLock_within ..) rfl
        with_reducible assumption
      clear_value a1
      split
      · refine Within.step ?_ (sdiLost_within ..) rfl
        refine Within.step ?_ (setFld_within ..) rfl
        with_reducible assumption
      · with_reducible assumption
    · split
      · refine Within.step ?_ (setLane_within ..) rfl
        with_reducible assumption
      · with_reducible assumption

def Parts.signalReturn : List Part := [0x4028, 0x6048, Part.host]
theorem signalReturn_within (s : State) (e : Nat) : Within Parts.signalReturn s (State.signalReturn s e) := by
  have h0 : Within Parts.signalReturn s s := .refl
  unfold State.signalReturn
  split
  · refine Within.step ?_ (setLane_within ..) rfl
    with_reducible assumption
  · with_reducible assumption

def Parts.slipOne : List Part := [Part.lk, 0x4030]
theorem slipOne_within (s : State) (e : Nat) : Within Parts.slipOne s (State.slipOne s e) := by
  have h0 : Within Parts.slipOne s s := .refl
  unfold State.slipOne
  extract_lets +onlyGivenNames -merge a0
  clear_value a0
  refine Within.step ?_ (setFld_within ..) rfl
  refine Within.step ?_ (setLaneRun_within ..) rfl
  with_reducible assumption

def Parts.spareSheet : List Part := [Part.lk, 0x4038, Part.host, 0x6048]
theorem spareSheet_within (s : State) (n : Nat) : Within Parts.spareSheet s (State.spareSheet s n) := by
  have h0 : Within Parts.spareSheet s s := .refl
  unfold State.spareSheet
  refine Within.foldl ?_ ?_
  · with_reducible assumption
  · intro x0 x1 x2
    split
    · split
      · refine Within.step ?_ (setSpare_within ..) rfl
        refine Within.step ?_ (dropSpareRun_within ..) rfl
        with_reducible assumption
      · with_reducible assumption
    · with_reducible assumption

def Parts.starve : List Part := [0x4028]
theorem starve_within (s : State) (d : Nat) (l : Nat) (n : Nat) : Within Parts.starve s (State.starve s d l n) := by
  have h0 : Within Parts.starve s s := .refl
  unfold State.starve
  refine Within.step ?_ (bump_within ..) rfl
  with_reducible assumption

def Parts.stayBack : List Part := [0x4028, 0x6048, Part.host]
theorem stayBack_within (s : State) (e : Nat) : Within Parts.stayBack s (State.stayBack s e) := by
  have h0 : Within Parts.stayBack s s := .refl
  unfold State.stayBack
  split
  · refine Within.step ?_ (setLane_within ..) rfl
    with_reducible assumption
  · with_reducible assumption

def Parts.stayLost : List Part := [0x4028, 0x6048, Part.host, Part.ev, Part.clk, 0x7820, 0x7808, Part.sys, 0x7810, Part.tm, 0x5018]
theorem stayLost_within (s : State) (e : Nat) : Within Parts.stayLost s (State.stayLost s e) := by
  have h0 : Within Parts.stayLost s s := .refl
  unfold State.stayLost
  split
  · refine Within.step ?_ (checkStayRefs_within ..) rfl
    refine Within.step ?_ (raise_within ..) rfl
    refine Within.step ?_ (setLane_within ..) rfl
    with_reducible assumption
  · with_reducible assumption

def Parts.stopLane : List Part := [Part.mx, Part.lk, 0x4028, 0x6048, Part.host, Part.tm, 0x5018, 0x4038]
theorem stopLane_within (s : State) (e : Nat) : Within Parts.stopLane s (State.stopLane s e) := by
  have h0 : Within Parts.stopLane s s := .refl
  unfold State.stopLane
  extract_lets +onlyGivenNames -merge a0
  have h1 : Within Parts.stopLane s a0 := by
    unfold a0
    refine Within.step ?_ (dropLink_within ..) rfl
    with_reducible assumption
  clear_value a0
  extract_lets +onlyGivenNames -merge a2
  have h3 : Within Parts.stopLane s a2 := by
    unfold a2
    refine Within.step ?_ (checkStayRefs_within ..) rfl
    refine Within.step ?_ (setLane_within ..) rfl
    refine Within.step ?_ (setFld_within ..) rfl
    refine Within.step ?_ (setFld_within ..) rfl
    refine Within.step ?_ (dropLaneRun_within ..) rfl
    with_reducible assumption
  clear_value a2
  split
  · refine Within.step ?_ (setSpare_within ..) rfl
    refine Within.step ?_ (dropSpareRun_within ..) rfl
    with_reducible assumption
  · with_reducible assumption

def Parts.stopSpares : List Part := [Part.lk, 0x4038, Part.host, 0x6048]
theorem stopSpares_within (s : State) : Within Parts.stopSpares s (State.stopSpares s) := by
  have h0 : Within Parts.stopSpares s s := .refl
  unfold State.stopSpares
  refine Within.foldl ?_ ?_
  · with_reducible assumption
  · intro x0 x1 x2
    refine Within.step ?_ (setSpare_within ..) rfl
    refine Within.step ?_ (dropSpareRun_within ..) rfl
    with_reducible assumption

def Parts.trainedLane : List Part := [0x4028, Part.lk, 0x6048, Part.host, Part.tw, 0x4038, Part.ev, Part.clk, 0x7820, 0x7808, Part.sys, 0x7810]
theorem trainedLane_within (s : State) (e : Nat) (t : Trained) : Within Parts.trainedLane s (State.trainedLane s e t) := by
  have h0 : Within Parts.trainedLane s s := .refl
  unfold State.trainedLane
  extract_lets +onlyGivenNames -merge a0
  clear_value a0
  extract_lets +onlyGivenNames -merge a1
  have h2 : Within Parts.trainedLane s a1 := by
    unfold a1
    refine Within.step ?_ (setFld_within ..) rfl
    with_reducible assumption
  clear_value a1
  extract_lets +onlyGivenNames -merge a3
  clear_value a3
  extract_lets +onlyGivenNames -merge a4
  have h5 : Within Parts.trainedLane s a4 := by
    unfold a4
    split
    · with_reducible assumption
    · refine Within.step ?_ (setLaneRun_within ..) rfl
      with_reducible assumption
  clear_value a4
  extract_lets +onlyGivenNames -merge a6
  have h7 : Within Parts.trainedLane s a6 := by
    unfold a6
    refine Within.step ?_ (setFld_within ..) rfl
    with_reducible assumption
  clear_value a6
  split
  · refine Within.step ?_ (setLane_within ..) rfl
    with_reducible assumption
  · extract_lets +onlyGivenNames -merge a8
    have h9 : Within Parts.trainedLane s a8 := by
      unfold a8
      refine Within.step ?_ (gainLock_within ..) rfl
      with_reducible assumption
    clear_value a8
    split
    · with_reducible assumption
    · refine Within.step ?_ (miswire_within ..) rfl
      with_reducible assumption

def Parts.trainingDone : List Part := [0x4028, 0x6048, Part.host, Part.lk, Part.tw, 0x4038, Part.ev, Part.clk, 0x7820, 0x7808, Part.sys, 0x7810]
theorem trainingDone_within (s : State) (d : Nat) (sh : Nat) (l : List Trained) : Within Parts.trainingDone s (State.trainingDone s d sh l) := by
  have h0 : Within Parts.trainingDone s s := .refl
  unfold State.trainingDone
  extract_lets +onlyGivenNames -merge a0
  split
  · with_reducible assumption
  · extract_lets +onlyGivenNames -merge a1
    have h2 : Within Parts.trainingDone s a1 := by
      unfold a1
      refine Within.foldl ?_ ?_
      · with_reducible assumption
      · intro x3 x4 x5
        extract_lets +onlyGivenNames -merge a6
        split
        · with_reducible assumption
        · split
          · split
            · split
              · refine Within.step ?_ (setLane_within ..) rfl
                refine Within.step ?_ (setFld_within ..) rfl
                with_reducible assumption
              · with_reducible assumption
            · with_reducible assumption
          · split
            · with_reducible assumption
            · split
              · refine Within.step ?_ (trainedLane_within ..) rfl
                with_reducible assumption
              · refine Within.step ?_ (setLane_within ..) rfl
                with_reducible assumption
    clear_value a1
    split
    · refine Within.step ?_ (setLane_within ..) rfl
      with_reducible assumption
    · with_reducible assumption

def Parts.txeqStep : List Part := [Part.lk]
theorem txeqStep_within (s : State) (e : Nat) : Within Parts.txeqStep s (State.txeqStep s e) := by
  have h0 : Within Parts.txeqStep s s := .refl
  unfold State.txeqStep
  split
  · with_reducible assumption
  · extract_lets +onlyGivenNames -merge a0
    clear_value a0
    extract_lets +onlyGivenNames -merge a1
    clear_value a1
    extract_lets +onlyGivenNames -merge a2
    clear_value a2
    extract_lets +onlyGivenNames -merge a3
    clear_value a3
    split
    · refine Within.step ?_ (setLaneRun_within ..) rfl
      with_reducible assumption
    · with_reducible assumption

def Parts.execLaneErrorSecond : List Part := [Part.clk, Part.lk, Part.ev, Part.host, 0x7820, 0x6048, 0x7808, Part.sys, 0x7810]
theorem execLaneErrorSecond_within (s : State) : ExecWithin Parts.execLaneErrorSecond s (execLaneErrorSecond s) := by
  have h0 : Within Parts.execLaneErrorSecond s s := .refl
  unfold execLaneErrorSecond
  refine ⟨_, rfl, ?_⟩
  refine Within.step ?_ (errorSecond_within ..) rfl
  with_reducible assumption

def Parts.execLaneSignalLoss : List Part := [Part.lk, 0x4028, 0x6048, Part.host, 0x4038, Part.tm, 0x5018, 0x4870]
theorem execLaneSignalLoss_within (e : Nat) (s : State) : ExecWithin Parts.execLaneSignalLoss s (execLaneSignalLoss e s) := by
  have h0 : Within Parts.execLaneSignalLoss s s := .refl
  unfold execLaneSignalLoss
  refine ⟨_, rfl, ?_⟩
  refine Within.step ?_ (signalLoss_within ..) rfl
  with_reducible assumption

def Parts.execLaneSignalReturn : List Part := [0x4028, 0x6048, Part.host]
theorem execLaneSignalReturn_within (e : Nat) (s : State) : ExecWithin Parts.execLaneSignalReturn s (execLaneSignalReturn e s) := by
  have h0 : Within Parts.execLaneSignalReturn s s := .refl
  unfold execLaneSignalReturn
  refine ⟨_, rfl, ?_⟩
  refine Within.step ?_ (signalReturn_within ..) rfl
  with_reducible assumption

def Parts.execLaneTrainingDone : List Part := [0x4028, 0x6048, Part.host, Part.lk, Part.tw, 0x4038, Part.ev, Part.clk, 0x7820, 0x7808, Part.sys, 0x7810]
theorem execLaneTrainingDone_within (d : Nat) (shroud : Nat) (lanes : List Trained) (s : State) : ExecWithin Parts.execLaneTrainingDone s (execLaneTrainingDone d shroud lanes s) := by
  have h0 : Within Parts.execLaneTrainingDone s s := .refl
  unfold execLaneTrainingDone
  refine ⟨_, rfl, ?_⟩
  refine Within.step ?_ (trainingDone_within ..) rfl
  with_reducible assumption

def Parts.putLane : List Part := [0x4010, 0x1028, Part.save, Part.ev, Part.lk, 0x4028, 0x6048, Part.host, 0x4038]
theorem putLane_within (e : Nat) (v : W) : PutWithin Parts.putLane (putLane e v) := by
  unfold putLane
  refine ⟨rfl, fun s0 => ?_⟩
  dsimp -zeta only
  have h00 : Within Parts.putLane s0 s0 := .refl
  extract_lets +onlyGivenNames -merge a0
  clear_value a0
  extract_lets +onlyGivenNames -merge a1
  extract_lets +onlyGivenNames -merge a2
  clear_value a2
  split
  · with_reducible assumption
  · split
    · with_reducible assumption
    · split
      · with_reducible assumption
      · split
        · with_reducible assumption
        · dsimp -zeta only
          refine Within.step ?_ (applyLane_within ..) rfl
          refine Within.step ?_ (putWord_within ..) rfl
          with_reducible assumption

def Parts.execLkLaneWrite : List Part := [0x4010, 0x1028, Part.save, Part.ev, Part.lk, 0x4028, 0x6048, Part.host, 0x4038, Part.shadow, 0x6040, 0x7808, 0x7810, 0x7820, Part.clk, Part.sys, Part.pw]
theorem execLkLaneWrite_within (rq : Req) (e : Nat) (v : W) (s : State) : ExecWithin Parts.execLkLaneWrite s (execLkLaneWrite rq e v s) := by
  have h0 : Within Parts.execLkLaneWrite s s := .refl
  unfold execLkLaneWrite
  extract_lets +onlyGivenNames -merge a0
  have h1 : PutWithin Parts.execLkLaneWrite a0 := by
    unfold a0
    exact PutWithin.step (putLane_within ..) rfl
  clear_value a0
  refine ⟨_, rfl, ?_⟩
  refine request_within rfl ?_ ?_
  · with_reducible assumption
  · with_reducible assumption

def Parts.putTxeq : List Part := [0x4018, 0x1028, Part.save, Part.lk]
theorem putTxeq_within (e : Nat) (v : W) : PutWithin Parts.putTxeq (putTxeq e v) := by
  unfold putTxeq
  refine ⟨rfl, fun s0 => ?_⟩
  dsimp -zeta only
  have h00 : Within Parts.putTxeq s0 s0 := .refl
  extract_lets +onlyGivenNames -merge a0
  clear_value a0
  extract_lets +onlyGivenNames -merge a1
  have h2 : Within Parts.putTxeq s0 a1 := by
    unfold a1
    refine Within.step ?_ (putWord_within ..) rfl
    with_reducible assumption
  clear_value a1
  extract_lets +onlyGivenNames -merge a3
  clear_value a3
  extract_lets +onlyGivenNames -merge a4
  clear_value a4
  dsimp -zeta only
  refine Within.step ?_ (setLaneRun_within ..) rfl
  with_reducible assumption

def Parts.execLkTxeqWrite : List Part := [0x4018, 0x1028, Part.save, Part.lk, Part.shadow, 0x6040, 0x6048, 0x7808, 0x7810, 0x7820, Part.clk, Part.sys, Part.host, Part.ev, Part.pw]
theorem execLkTxeqWrite_within (rq : Req) (e : Nat) (v : W) (s : State) : ExecWithin Parts.execLkTxeqWrite s (execLkTxeqWrite rq e v s) := by
  have h0 : Within Parts.execLkTxeqWrite s s := .refl
  unfold execLkTxeqWrite
  extract_lets +onlyGivenNames -merge a0
  have h1 : PutWithin Parts.execLkTxeqWrite a0 := by
    unfold a0
    exact PutWithin.step (putTxeq_within ..) rfl
  clear_value a0
  refine ⟨_, rfl, ?_⟩
  refine request_within rfl ?_ ?_
  · with_reducible assumption
  · with_reducible assumption

def Parts.execMeshGroupFail : List Part := [Part.lk, Part.ev, Part.host, Part.clk, 0x7820, 0x6048, 0x7808, Part.sys, 0x7810]
theorem execMeshGroupFail_within (d1 : Nat) (d2 : Nat) (s : State) : ExecWithin Parts.execMeshGroupFail s (execMeshGroupFail d1 d2 s) := by
  have h0 : Within Parts.execMeshGroupFail s s := .refl
  unfold execMeshGroupFail
  refine ⟨_, rfl, ?_⟩
  refine Within.step ?_ (meshFail_within ..) rfl
  with_reducible assumption

def Parts.putPrbs : List Part := [0x4030, 0x1028, Part.save, Part.lk, 0x4028, 0x6048, Part.host, 0x4038, Part.fresh]
theorem putPrbs_within (e : Nat) (w : Nat) (v : W) (bits : List Bool) : PutWithin Parts.putPrbs (putPrbs e w v bits) := by
  unfold putPrbs
  extract_lets +onlyGivenNames -merge a0
  clear_value a0
  refine ⟨rfl, fun s0 => ?_⟩
  dsimp -zeta only
  have h00 : Within Parts.putPrbs s0 s0 := .refl
  split
  · dsimp -zeta only
    refine Within.step ?_ (putWord_within ..) rfl
    with_reducible assumption
  · split
    · with_reducible assumption
    · extract_lets +onlyGivenNames -merge a1
      clear_value a1
      extract_lets +onlyGivenNames -merge a2
      have h3 : Within Parts.putPrbs s0 a2 := by
        unfold a2
        refine Within.step ?_ (applyPattern_within ..) rfl
        refine Within.step ?_ (putWord_within ..) rfl
        with_reducible assumption
      clear_value a2
      extract_lets +onlyGivenNames -merge a4
      have h5 : Within Parts.putPrbs s0 a4.1 := by
        unfold a4
        refine Within.step ?_ (takeFree_within ..) rfl
        with_reducible assumption
      clear_value a4
      extract_lets +onlyGivenNames -merge a6
      clear_value a6
      extract_lets +onlyGivenNames -merge a7
      have h8 : Within Parts.putPrbs s0 a7 := by
        unfold a7
        split
        · refine Within.step ?_ (setLaneRun_within ..) rfl
          with_reducible assumption
        · with_reducible assumption
      clear_value a7
      extract_lets +onlyGivenNames -merge a9
      extract_lets +onlyGivenNames -merge a10
      have h11 : Within Parts.putPrbs s0 a10 := by
        unfold a10
        split
        · with_reducible assumption
        · refine Within.step ?_ (injectRun_within ..) rfl
          with_reducible assumption
      clear_value a10
      dsimp -zeta only
      split
      · with_reducible assumption
      · split
        · refine Within.step ?_ (checkBits_within ..) rfl
          refine Within.step ?_ (slipOne_within ..) rfl
          with_reducible assumption
        · refine Within.step ?_ (slipOne_within ..) rfl
          with_reducible assumption

def Parts.execPrbsInject : List Part := [0x4030, 0x1028, Part.save, Part.lk, 0x4028, 0x6048, Part.host, 0x4038, Part.fresh, Part.shadow, 0x6040, 0x7808, 0x7810, 0x7820, Part.clk, Part.sys, Part.ev, Part.pw]
theorem execPrbsInject_within (rq : Req) (e : Nat) (v : W) (s : State) : ExecWithin Parts.execPrbsInject s (execPrbsInject rq e v s) := by
  have h0 : Within Parts.execPrbsInject s s := .refl
  unfold execPrbsInject
  extract_lets +onlyGivenNames -merge a0
  have h1 : PutWithin Parts.execPrbsInject a0 := by
    unfold a0
    exact PutWithin.step (putPrbs_within ..) rfl
  clear_value a0
  refine ⟨_, rfl, ?_⟩
  refine request_within rfl ?_ ?_
  · with_reducible assumption
  · with_reducible assumption

def Parts.execPrbsPatternWrite : List Part := [0x4030, 0x1028, Part.save, Part.lk, 0x4028, 0x6048, Part.host, 0x4038, Part.fresh, Part.shadow, 0x6040, 0x7808, 0x7810, 0x7820, Part.clk, Part.sys, Part.ev, Part.pw]
theorem execPrbsPatternWrite_within (rq : Req) (e : Nat) (w : Nat) (v : W) (s : State) : ExecWithin Parts.execPrbsPatternWrite s (execPrbsPatternWrite rq e w v s) := by
  have h0 : Within Parts.execPrbsPatternWrite s s := .refl
  unfold execPrbsPatternWrite
  extract_lets +onlyGivenNames -merge a0
  have h1 : PutWithin Parts.execPrbsPatternWrite a0 := by
    unfold a0
    exact PutWithin.step (putPrbs_within ..) rfl
  clear_value a0
  refine ⟨_, rfl, ?_⟩
  refine request_within rfl ?_ ?_
  · with_reducible assumption
  · with_reducible assumption

def Parts.execPrbsSlip : List Part := [0x4030, 0x1028, Part.save, Part.lk, 0x4028, 0x6048, Part.host, 0x4038, Part.fresh, Part.shadow, 0x6040, 0x7808, 0x7810, 0x7820, Part.clk, Part.sys, Part.ev, Part.pw]
theorem execPrbsSlip_within (rq : Req) (e : Nat) (v : W) (bits : List Bool) (s : State) : ExecWithin Parts.execPrbsSlip s (execPrbsSlip rq e v bits s) := by
  have h0 : Within Parts.execPrbsSlip s s := .refl
  unfold execPrbsSlip
  extract_lets +onlyGivenNames -merge a0
  have h1 : PutWithin Parts.execPrbsSlip a0 := by
    unfold a0
    exact PutWithin.step (putPrbs_within ..) rfl
  clear_value a0
  refine ⟨_, rfl, ?_⟩
  refine request_within rfl ?_ ?_
  · with_reducible assumption
  · with_reducible assumption

def Parts.execRxEssenceFrame : List Part := [Part.lk, 0x2858]
theorem execRxEssenceFrame_within (p : Nat) (header : W) (payload : List W) (s : State) : ExecWithin Parts.execRxEssenceFrame s (execRxEssenceFrame p header payload s) := by
  have h0 : Within Parts.execRxEssenceFrame s s := .refl
  unfold execRxEssenceFrame
  refine ⟨_, rfl, ?_⟩
  refine whileRunning_within  ?_ ?_
  · with_reducible assumption
  · intro x0 x1
    refine Within.step ?_ (essenceFrame_within ..) rfl
    with_reducible assumption

def Parts.execRxHeaderBlock : List Part := [Part.lk, 0x4028, 0x6048, Part.host, Part.tw, 0x4038, 0x2858, Part.tm, 0x5018, Part.ev, Part.clk, 0x7820, 0x7808, Part.sys, 0x7810]
theorem execRxHeaderBlock_within (e : Nat) (pos : Nat) (sync : Nat) (payload : W) (arrival : Int) (s : State) : ExecWithin Parts.execRxHeaderBlock s (execRxHeaderBlock e pos sync payload arrival s) := by
  have h0 : Within Parts.execRxHeaderBlock s s := .refl
  unfold execRxHeaderBlock
  refine ⟨_, rfl, ?_⟩
  refine Within.step ?_ (headerBlock_within ..) rfl
  with_reducible assumption

def Parts.execRxOverrun : List Part := [0x4028]
theorem execRxOverrun_within (d : Nat) (lane : Nat) (s : State) : ExecWithin Parts.execRxOverrun s (execRxOverrun d lane s) := by
  have h0 : Within Parts.execRxOverrun s s := .refl
  unfold execRxOverrun
  refine ⟨_, rfl, ?_⟩
  refine Within.step ?_ (overrun_within ..) rfl
  with_reducible assumption

def Parts.execRxSheet : List Part := [Part.lk, 0x4038, Part.host, 0x6048, Part.tw, Part.ev, Part.clk, 0x7820, 0x7808, Part.sys, 0x7810, 0x2858]
theorem execRxSheet_within (d : Nat) (lane : Nat) (data : Option SheetCopy) (spare : Option SheetCopy) (s : State) : ExecWithin Parts.execRxSheet s (execRxSheet d lane data spare s) := by
  have h0 : Within Parts.execRxSheet s s := .refl
  unfold execRxSheet
  refine ⟨_, rfl, ?_⟩
  refine Within.step ?_ (rxSheet_within ..) rfl
  with_reducible assumption

def Parts.putSpare : List Part := [0x4038, Part.lk, Part.host, 0x6048]
theorem putSpare_within (se : Nat) (v : W) : PutWithin Parts.putSpare (putSpare se v) := by
  unfold putSpare
  extract_lets +onlyGivenNames -merge a0
  extract_lets +onlyGivenNames -merge a1
  refine ⟨rfl, fun s0 => ?_⟩
  dsimp -zeta only
  have h00 : Within Parts.putSpare s0 s0 := .refl
  extract_lets +onlyGivenNames -merge a2
  extract_lets +onlyGivenNames -merge a3
  extract_lets +onlyGivenNames -merge a4
  split
  · with_reducible assumption
  · split
    · split
      · with_reducible assumption
      · extract_lets +onlyGivenNames -merge a5
        extract_lets +onlyGivenNames -merge a6
        dsimp -zeta only
        refine Within.step ?_ (setSpare_within ..) rfl
        refine Within.step ?_ (setSpareRun_within ..) rfl
        with_reducible assumption
    · split
      · split
        · with_reducible assumption
        · dsimp -zeta only
          refine Within.step ?_ (setSpare_within ..) rfl
          refine Within.step ?_ (setSpareRun_within ..) rfl
          with_reducible assumption
      · with_reducible assumption

def Parts.execSpareCover : List Part := [0x4038, Part.lk, Part.host, 0x6048, 0x1028, Part.save, Part.shadow, 0x6040, 0x7808, 0x7810, 0x7820, Part.clk, Part.sys, Part.ev, Part.pw]
theorem execSpareCover_within (rq : Req) (e : Nat) (v : W) (s : State) : ExecWithin Parts.execSpareCover s (execSpareCover rq e v s) := by
  have h0 : Within Parts.execSpareCover s s := .refl
  unfold execSpareCover
  extract_lets +onlyGivenNames -merge a0
  have h1 : PutWithin Parts.execSpareCover a0 := by
    unfold a0
    exact PutWithin.step (putSpare_within ..) rfl
  clear_value a0
  refine ⟨_, rfl, ?_⟩
  refine request_within rfl ?_ ?_
  · with_reducible assumption
  · with_reducible assumption

def Parts.execSpareRelease : List Part := [0x4038, Part.lk, Part.host, 0x6048, 0x1028, Part.save, Part.shadow, 0x6040, 0x7808, 0x7810, 0x7820, Part.clk, Part.sys, Part.ev, Part.pw]
theorem execSpareRelease_within (rq : Req) (e : Nat) (v : W) (s : State) : ExecWithin Parts.execSpareRelease s (execSpareRelease rq e v s) := by
  have h0 : Within Parts.execSpareRelease s s := .refl
  unfold execSpareRelease
  extract_lets +onlyGivenNames -merge a0
  have h1 : PutWithin Parts.execSpareRelease a0 := by
    unfold a0
    exact PutWithin.step (putSpare_within ..) rfl
  clear_value a0
  refine ⟨_, rfl, ?_⟩
  refine request_within rfl ?_ ?_
  · with_reducible assumption
  · with_reducible assumption

def Parts.execStayLos : List Part := [0x4028, 0x6048, Part.host, Part.ev, Part.clk, 0x7820, 0x7808, Part.sys, 0x7810, Part.tm, 0x5018]
theorem execStayLos_within (e : Nat) (s : State) : ExecWithin Parts.execStayLos s (execStayLos e s) := by
  have h0 : Within Parts.execStayLos s s := .refl
  unfold execStayLos
  refine ⟨_, rfl, ?_⟩
  refine Within.step ?_ (stayLost_within ..) rfl
  with_reducible assumption

def Parts.execStayReturn : List Part := [0x4028, 0x6048, Part.host]
theorem execStayReturn_within (e : Nat) (s : State) : ExecWithin Parts.execStayReturn s (execStayReturn e s) := by
  have h0 : Within Parts.execStayReturn s s := .refl
  unfold execStayReturn
  refine ⟨_, rfl, ?_⟩
  refine Within.step ?_ (stayBack_within ..) rfl
  with_reducible assumption

def Parts.execTxStarve : List Part := [0x4028]
theorem execTxStarve_within (d : Nat) (lane : Nat) (frames : Nat) (s : State) : ExecWithin Parts.execTxStarve s (execTxStarve d lane frames s) := by
  have h0 : Within Parts.execTxStarve s s := .refl
  unfold execTxStarve
  refine ⟨_, rfl, ?_⟩
  refine Within.step ?_ (starve_within ..) rfl
  with_reducible assumption

def Parts.execTxeqStep : List Part := [Part.lk]
theorem execTxeqStep_within (e : Nat) (s : State) : ExecWithin Parts.execTxeqStep s (execTxeqStep e s) := by
  have h0 : Within Parts.execTxeqStep s s := .refl
  unfold execTxeqStep
  refine ⟨_, rfl, ?_⟩
  refine Within.step ?_ (txeqStep_within ..) rfl
  with_reducible assumption

def Parts.putErrLimit : List Part := [0x4040, 0x1028, Part.save]
theorem putErrLimit_within (v : W) : PutWithin Parts.putErrLimit (putErrLimit v) := by
  unfold putErrLimit
  refine ⟨rfl, fun s0 => ?_⟩
  dsimp -zeta only
  have h00 : Within Parts.putErrLimit s0 s0 := .refl
  refine Within.step ?_ (putWord_within ..) rfl
  with_reducible assumption

def Parts.putRxeq : List Part := [0x4020, 0x1028, Part.save, 0x4028]
theorem putRxeq_within (e : Nat) (v : W) : PutWithin Parts.putRxeq (putRxeq e v) := by
  unfold putRxeq
  refine ⟨rfl, fun s0 => ?_⟩
  dsimp -zeta only
  have h00 : Within Parts.putRxeq s0 s0 := .refl
  extract_lets +onlyGivenNames -merge a0
  have h1 : Within Parts.putRxeq s0 a0 := by
    unfold a0
    refine Within.step ?_ (putWord_within ..) rfl
    with_reducible assumption
  clear_value a0
  dsimp -zeta only
  split
  · refine Within.step ?_ (setFld_within ..) rfl
    with_reducible assumption
  · with_reducible assumption

end Sys2Proof.Machine
end

