-- ==== Sys2Proof/Laws/WithinMemory.lean ====
section
/-! SUPPORT. What the operations of Machine/Memory.lean may change: for each the parts of the state, and that it keeps to them. -/
namespace Sys2Proof.Machine

def Parts.setChanState : List Part := [0x7018, 0x6048, Part.host]
theorem setChanState_within (s : State) (c : Nat) (n : Nat) : Within Parts.setChanState s (State.setChanState s c n) := by
  have h0 : Within Parts.setChanState s s := .refl
  unfold State.setChanState
  refine Within.step ?_ (setNotify_within ..) rfl
  with_reducible assumption

def Parts.chanShut : List Part := [Part.mm, 0x7018, 0x6048, Part.host, Part.al, Part.ev, Part.clk, 0x7820, 0x7808, Part.sys, 0x7810]
theorem chanShut_within (s : State) (c : Nat) : Within Parts.chanShut s (State.chanShut s c) := by
  have h0 : Within Parts.chanShut s s := .refl
  unfold State.chanShut
  split
  · with_reducible assumption
  · extract_lets +onlyGivenNames -merge a0
    clear_value a0
    extract_lets +onlyGivenNames -merge a1
    have h2 : Within Parts.chanShut s a1 := by
      unfold a1
      refine Within.step ?_ (set_mm_within ..) rfl
      with_reducible assumption
    clear_value a1
    refine Within.step ?_ (checkBudget_within ..) rfl
    refine Within.step ?_ (setChanState_within ..) rfl
    with_reducible assumption

def Parts.chanOut : List Part := [Part.ev, Part.host, Part.clk, 0x7820, 0x6048, 0x7808, Part.sys, 0x7810, Part.mm, 0x7018, Part.al]
theorem chanOut_within (s : State) (c : Nat) : Within Parts.chanOut s (State.chanOut s c) := by
  have h0 : Within Parts.chanOut s s := .refl
  unfold State.chanOut
  split
  · with_reducible assumption
  · refine Within.step ?_ (chanShut_within ..) rfl
    refine Within.step ?_ (raise_within ..) rfl
    with_reducible assumption

def Parts.dramRecal : List Part := [Part.mm]
theorem dramRecal_within (s : State) (c : Nat) : Within Parts.dramRecal s (State.dramRecal s c) := by
  have h0 : Within Parts.dramRecal s s := .refl
  unfold State.dramRecal
  split
  · extract_lets +onlyGivenNames -merge a0
    refine Within.step ?_ (set_mm_within ..) rfl
    with_reducible assumption
  · with_reducible assumption

def Parts.mapItems : List Part := [Part.mm]
theorem mapItems_within (s : State) (p : Item → Bool) (f : Item → Item) : Within Parts.mapItems s (State.mapItems s p f) := by
  have h0 : Within Parts.mapItems s s := .refl
  unfold State.mapItems
  extract_lets +onlyGivenNames -merge a0
  clear_value a0
  refine Within.step ?_ (set_mm_within ..) rfl
  with_reducible assumption

def Parts.heldCopied : List Part := [Part.mm]
theorem heldCopied_within (s : State) (c : Nat) (k : Nat) (owner : Nat) (buf : Nat) : Within Parts.heldCopied s (State.heldCopied s c k owner buf) := by
  have h0 : Within Parts.heldCopied s s := .refl
  unfold State.heldCopied
  split
  · refine Within.step ?_ (mapItems_within ..) rfl
    with_reducible assumption
  · with_reducible assumption

def Parts.hurtLine : List Part := [Part.al, 0x2864]
theorem hurtLine_within (s : State) (p : Nat) (count : Nat) (line : Nat) : Within Parts.hurtLine s (State.hurtLine s p count line) := by
  have h0 : Within Parts.hurtLine s s := .refl
  unfold State.hurtLine
  split
  · with_reducible assumption
  · refine Within.step ?_ (bump_within ..) rfl
    refine Within.step ?_ (set_al_within ..) rfl
    with_reducible assumption

def Parts.imageLost : List Part := [0x3830, Part.ev, Part.host, Part.clk, 0x7820, 0x6048, 0x7808, Part.sys, 0x7810]
theorem imageLost_within (s : State) (e : Nat) : Within Parts.imageLost s (State.imageLost s e) := by
  have h0 : Within Parts.imageLost s s := .refl
  unfold State.imageLost
  refine Within.step ?_ (raise_within ..) rfl
  refine Within.step ?_ (setFld_within ..) rfl
  with_reducible assumption

def Parts.loseItem : List Part := [Part.al, 0x2864, 0x6048, Part.host, Part.ev, Part.clk, 0x7820, 0x7808, Part.sys, 0x7810, 0x3830]
theorem loseItem_within (s : State) (x : Item) : Within Parts.loseItem s (State.loseItem s x) := by
  have h0 : Within Parts.loseItem s s := .refl
  unfold State.loseItem
  split
  · refine Within.step ?_ (sourceLost_within ..) rfl
    with_reducible assumption
  · split
    · refine Within.step ?_ (imageLost_within ..) rfl
      with_reducible assumption
    · with_reducible assumption

def Parts.refreshItems : List Part := [Part.mm]
theorem refreshItems_within (s : State) : Within Parts.refreshItems s (State.refreshItems s) := by
  have h0 : Within Parts.refreshItems s s := .refl
  unfold State.refreshItems
  extract_lets +onlyGivenNames -merge a0
  clear_value a0
  refine Within.step ?_ (set_mm_within ..) rfl
  with_reducible assumption

def Parts.setRank : List Part := [0x7020, 0x6048, Part.host]
theorem setRank_within (s : State) (e : Nat) (n : Nat) : Within Parts.setRank s (State.setRank s e n) := by
  have h0 : Within Parts.setRank s s := .refl
  unfold State.setRank
  refine Within.step ?_ (setNotify_within ..) rfl
  with_reducible assumption

def Parts.loseRank : List Part := [Part.mm, 0x7020, 0x6048, Part.host, Part.ev, Part.clk, 0x7820, 0x7808, Part.sys, 0x7810, Part.al, 0x2864, 0x3830, 0x7018]
theorem loseRank_within (s : State) (e : Nat) : Within Parts.loseRank s (State.loseRank s e) := by
  have h0 : Within Parts.loseRank s s := .refl
  unfold State.loseRank
  extract_lets +onlyGivenNames -merge a0
  extract_lets +onlyGivenNames -merge a1
  have h2 : Within Parts.loseRank s a1 := by
    unfold a1
    refine Within.step ?_ (refreshItems_within ..) rfl
    with_reducible assumption
  clear_value a1
  extract_lets +onlyGivenNames -merge a3
  clear_value a3
  extract_lets +onlyGivenNames -merge a4
  have h5 : Within Parts.loseRank s a4 := by
    unfold a4
    refine Within.step ?_ (mapItems_within ..) rfl
    with_reducible assumption
  clear_value a4
  extract_lets +onlyGivenNames -merge a6
  have h7 : Within Parts.loseRank s a6 := by
    unfold a6
    refine Within.step ?_ (setRank_within ..) rfl
    with_reducible assumption
  clear_value a6
  extract_lets +onlyGivenNames -merge a8
  have h9 : Within Parts.loseRank s a8 := by
    unfold a8
    refine Within.step ?_ (raise_within ..) rfl
    with_reducible assumption
  clear_value a8
  extract_lets +onlyGivenNames -merge a10
  have h11 : Within Parts.loseRank s a10 := by
    unfold a10
    refine Within.foldl ?_ ?_
    · with_reducible assumption
    · intro x12 x13 x14
      refine Within.step ?_ (loseItem_within ..) rfl
      with_reducible assumption
  clear_value a10
  extract_lets +onlyGivenNames -merge a15
  clear_value a15
  extract_lets +onlyGivenNames -merge a16
  have h17 : Within Parts.loseRank s a16 := by
    unfold a16
    refine Within.step ?_ (set_mm_within ..) rfl
    with_reducible assumption
  clear_value a16
  split
  · refine Within.step ?_ (checkBudget_within ..) rfl
    split
    · with_reducible assumption
    · refine Within.step ?_ (setChanState_within ..) rfl
      with_reducible assumption
  · refine Within.step ?_ (chanOut_within ..) rfl
    with_reducible assumption

def Parts.markRetired : List Part := [Part.mm, 0x7020, 0x6048, Part.host, 0x1028, Part.save]
theorem markRetired_within (s : State) (e : Nat) : Within Parts.markRetired s (State.markRetired s e) := by
  have h0 : Within Parts.markRetired s s := .refl
  unfold State.markRetired
  refine Within.step ?_ (markDirty_within ..) rfl
  refine Within.step ?_ (setRank_within ..) rfl
  refine Within.step ?_ (set_mm_within ..) rfl
  with_reducible assumption

def Parts.migrationDone : List Part := [Part.mm, 0x7020, 0x6048, Part.host, 0x1028, Part.save, 0x7018, Part.ev, Part.clk, 0x7820, 0x7808, Part.sys, 0x7810]
theorem migrationDone_within (s : State) (c : Nat) : Within Parts.migrationDone s (State.migrationDone s c) := by
  have h0 : Within Parts.migrationDone s s := .refl
  unfold State.migrationDone
  split
  · with_reducible assumption
  · split
    · with_reducible assumption
    · extract_lets +onlyGivenNames -merge a0
      have h1 : Within Parts.migrationDone s a0 := by
        unfold a0
        refine Within.step ?_ (mapItems_within ..) rfl
        with_reducible assumption
      clear_value a0
      extract_lets +onlyGivenNames -merge a2
      clear_value a2
      extract_lets +onlyGivenNames -merge a3
      have h4 : Within Parts.migrationDone s a3 := by
        unfold a3
        refine Within.step ?_ (set_mm_within ..) rfl
        with_reducible assumption
      clear_value a3
      extract_lets +onlyGivenNames -merge a5
      have h6 : Within Parts.migrationDone s a5 := by
        unfold a5
        refine Within.step ?_ (setRank_within ..) rfl
        refine Within.step ?_ (markRetired_within ..) rfl
        with_reducible assumption
      clear_value a5
      extract_lets +onlyGivenNames -merge a7
      clear_value a7
      refine Within.step ?_ (raise_within ..) rfl
      refine Within.step ?_ (setChanState_within ..) rfl
      with_reducible assumption

def Parts.remake : List Part := [Part.cm]
theorem remake_within (s : State) (hl : Nat) : Within Parts.remake s (State.remake s hl) := by
  have h0 : Within Parts.remake s s := .refl
  unfold State.remake
  extract_lets +onlyGivenNames -merge a0
  extract_lets +onlyGivenNames -merge a1
  clear_value a1
  extract_lets +onlyGivenNames -merge a2
  clear_value a2
  extract_lets +onlyGivenNames -merge a3
  clear_value a3
  refine Within.step ?_ (set_cm_within ..) rfl
  with_reducible assumption

def Parts.poisonLine : List Part := [Part.au, Part.cm, 0x3820, Part.al, 0x2864]
theorem poisonLine_within (s : State) (x : RankFault) : Within Parts.poisonLine s (State.poisonLine s x) := by
  have h0 : Within Parts.poisonLine s s := .refl
  unfold State.poisonLine
  split
  · refine Within.step ?_ (silence_within ..) rfl
    with_reducible assumption
  · refine Within.step ?_ (lateTiles_within ..) rfl
    refine Within.step ?_ (remake_within ..) rfl
    with_reducible assumption
  · split
    · refine Within.step ?_ (hurtLine_within ..) rfl
      with_reducible assumption
    · with_reducible assumption
  · with_reducible assumption

def Parts.startCopy : List Part := [Part.mm, 0x7020, 0x6048, Part.host, 0x7018, Part.ev, Part.clk, 0x7820, 0x7808, Part.sys, 0x7810]
theorem startCopy_within (s : State) (c : Nat) (src : Nat) (dst : Nat) (cause : Nat) : Within Parts.startCopy s (State.startCopy s c src dst cause) := by
  have h0 : Within Parts.startCopy s s := .refl
  unfold State.startCopy
  extract_lets +onlyGivenNames -merge a0
  have h1 : Within Parts.startCopy s a0 := by
    unfold a0
    refine Within.step ?_ (refreshItems_within ..) rfl
    with_reducible assumption
  clear_value a0
  extract_lets +onlyGivenNames -merge a2
  clear_value a2
  extract_lets +onlyGivenNames -merge a3
  have h4 : Within Parts.startCopy s a3 := by
    unfold a3
    refine Within.step ?_ (set_mm_within ..) rfl
    with_reducible assumption
  clear_value a3
  extract_lets +onlyGivenNames -merge a5
  have h6 : Within Parts.startCopy s a5 := by
    unfold a5
    refine Within.step ?_ (mapItems_within ..) rfl
    with_reducible assumption
  clear_value a5
  extract_lets +onlyGivenNames -merge a7
  have h8 : Within Parts.startCopy s a7 := by
    unfold a7
    refine Within.step ?_ (setChanState_within ..) rfl
    refine Within.step ?_ (setRank_within ..) rfl
    refine Within.step ?_ (setRank_within ..) rfl
    with_reducible assumption
  clear_value a7
  refine Within.step ?_ (raise_within ..) rfl
  with_reducible assumption

def Parts.releaseHolds : List Part := [Part.mm]
theorem releaseHolds_within (s : State) (c : Nat) : Within Parts.releaseHolds s (State.releaseHolds s c) := by
  have h0 : Within Parts.releaseHolds s s := .refl
  unfold State.releaseHolds
  refine Within.step ?_ (mapItems_within ..) rfl
  with_reducible assumption

def Parts.rankFail : List Part := [0x7018, Part.mm, 0x7020, 0x6048, Part.host, Part.ev, Part.clk, 0x7820, 0x7808, Part.sys, 0x7810, Part.al, 0x2864, 0x3830, Part.au, Part.cm, 0x3820, 0x1028, Part.save]
theorem rankFail_within (s : State) (e : Nat) (x : RankFault) : Within Parts.rankFail s (State.rankFail s e x) := by
  have h0 : Within Parts.rankFail s s := .refl
  unfold State.rankFail
  extract_lets +onlyGivenNames -merge a0
  extract_lets +onlyGivenNames -merge a1
  split
  · with_reducible assumption
  · extract_lets +onlyGivenNames -merge a2
    extract_lets +onlyGivenNames -merge a3
    have h4 : Within Parts.rankFail s a3 := by
      unfold a3
      split
      · refine Within.step ?_ (bump_within ..) (by split <;> rfl)
        with_reducible assumption
      · with_reducible assumption
    clear_value a3
    split
    · split
      · refine Within.step ?_ (startCopy_within ..) rfl
        with_reducible assumption
      · refine Within.step ?_ (loseRank_within ..) rfl
        with_reducible assumption
    · split
      · extract_lets +onlyGivenNames -merge a5
        clear_value a5
        refine Within.step ?_ (poisonLine_within ..) rfl
        refine Within.step ?_ (set_mm_within ..) rfl
        with_reducible assumption
      · split
        · split
          · extract_lets +onlyGivenNames -merge a6
            clear_value a6
            extract_lets +onlyGivenNames -merge a7
            have h8 : Within Parts.rankFail s a7 := by
              unfold a7
              refine Within.step ?_ (set_mm_within ..) rfl
              with_reducible assumption
            clear_value a7
            refine Within.step ?_ (loseRank_within ..) rfl
            refine Within.step ?_ (markRetired_within ..) rfl
            refine Within.step ?_ (releaseHolds_within ..) rfl
            with_reducible assumption
          · with_reducible assumption
        · split
          · refine Within.step ?_ (loseRank_within ..) rfl
            with_reducible assumption
          · with_reducible assumption

def Parts.reflatten : List Part := [Part.cm]
theorem reflatten_within (s : State) (hl : Nat) : Within Parts.reflatten s (State.reflatten s hl) := by
  have h0 : Within Parts.reflatten s s := .refl
  unfold State.reflatten
  extract_lets +onlyGivenNames -merge a0
  have h1 : Within Parts.reflatten s a0 := by
    unfold a0
    refine Within.step ?_ (remake_within ..) rfl
    with_reducible assumption
  clear_value a0
  refine Within.step ?_ (set_cm_within ..) rfl
  with_reducible assumption

def Parts.refreshCheck : List Part := [0x7018, 0x6048, Part.host, Part.mm, Part.ev, Part.clk, 0x7820, 0x7808, Part.sys, 0x7810]
theorem refreshCheck_within (s : State) (c : Nat) (t : Nat) : Within Parts.refreshCheck s (State.refreshCheck s c t) := by
  have h0 : Within Parts.refreshCheck s s := .refl
  unfold State.refreshCheck
  split
  · with_reducible assumption
  · extract_lets +onlyGivenNames -merge a0
    have h1 : Within Parts.refreshCheck s a0 := by
      unfold a0
      refine Within.step ?_ (setFld_within ..) rfl
      with_reducible assumption
    clear_value a0
    extract_lets +onlyGivenNames -merge a2
    have h3 : Within Parts.refreshCheck s a2 := by
      unfold a2
      split
      · refine Within.step ?_ (setNotify_within ..) rfl
        with_reducible assumption
      · split
        · refine Within.step ?_ (setNotify_within ..) rfl
          with_reducible assumption
        · with_reducible assumption
    clear_value a2
    split
    · split
      · with_reducible assumption
      · refine Within.step ?_ (raise_within ..) rfl
        refine Within.step ?_ (set_mm_within ..) rfl
        with_reducible assumption
    · refine Within.step ?_ (set_mm_within ..) rfl
      with_reducible assumption

def Parts.replan : List Part := [Part.mm, Part.cm]
theorem replan_within (s : State) (c : Nat) : Within Parts.replan s (State.replan s c).2 := by
  have h0 : Within Parts.replan s s := .refl
  unfold State.replan
  extract_lets +onlyGivenNames -merge a0
  have h1 : Within Parts.replan s a0 := by
    unfold a0
    refine Within.step ?_ (refreshItems_within ..) rfl
    with_reducible assumption
  clear_value a0
  extract_lets +onlyGivenNames -merge a2
  clear_value a2
  extract_lets +onlyGivenNames -merge a3
  clear_value a3
  extract_lets +onlyGivenNames -merge a4
  clear_value a4
  extract_lets +onlyGivenNames -merge a5
  clear_value a5
  dsimp -zeta only
  refine Within.foldl ?_ ?_
  · refine Within.step ?_ (set_mm_within ..) rfl
    with_reducible assumption
  · intro x6 x7 x8
    refine Within.step ?_ (remake_within ..) rfl
    with_reducible assumption

def Parts.scrubDone : List Part := [0x7018, 0x7020, Part.ev, Part.host, Part.clk, 0x7820, 0x6048, 0x7808, Part.sys, 0x7810, Part.cm]
theorem scrubDone_within (s : State) (c : Nat) (corrected : List Nat) (bad : List Nat) : Within Parts.scrubDone s (State.scrubDone s c corrected bad) := by
  have h0 : Within Parts.scrubDone s s := .refl
  unfold State.scrubDone
  split
  · with_reducible assumption
  · extract_lets +onlyGivenNames -merge a0
    have h1 : Within Parts.scrubDone s a0 := by
      unfold a0
      refine Within.step ?_ (bump_within ..) rfl
      with_reducible assumption
    clear_value a0
    extract_lets +onlyGivenNames -merge a2
    have h3 : Within Parts.scrubDone s a2 := by
      unfold a2
      refine Within.foldl ?_ ?_
      · with_reducible assumption
      · intro x4 x5 x6
        refine Within.step ?_ (bump_within ..) rfl
        with_reducible assumption
    clear_value a2
    refine Within.foldl ?_ ?_
    · with_reducible assumption
    · intro x7 x8 x9
      refine Within.step ?_ (reflatten_within ..) rfl
      refine Within.step ?_ (raise_within ..) rfl
      refine Within.step ?_ (bump_within ..) rfl
      with_reducible assumption

def Parts.sillageShut : List Part := [Part.ev, 0x7810, 0x7820, Part.host, 0x6048]
theorem sillageShut_within (s : State) (d : Nat) (lost : List Nat) : Within Parts.sillageShut s (State.sillageShut s d lost) := by
  have h0 : Within Parts.sillageShut s s := .refl
  unfold State.sillageShut
  split
  · with_reducible assumption
  · extract_lets +onlyGivenNames -merge a0
    have h1 : Within Parts.sillageShut s a0 := by
      unfold a0
      refine Within.step ?_ (withEv_within ..) rfl
      with_reducible assumption
    clear_value a0
    extract_lets +onlyGivenNames -merge a2
    have h3 : Within Parts.sillageShut s a2 := by
      unfold a2
      refine Within.step ?_ (relays_within ..) rfl
      refine Within.step ?_ (setFld_within ..) rfl
      with_reducible assumption
    clear_value a2
    extract_lets +onlyGivenNames -merge a4
    clear_value a4
    extract_lets +onlyGivenNames -merge a5
    have h6 : Within Parts.sillageShut s a5 := by
      unfold a5
      refine Within.step ?_ (withEv_within ..) rfl
      with_reducible assumption
    clear_value a5
    refine Within.step ?_ (notify_within ..) rfl
    refine Within.foldl ?_ ?_
    · with_reducible assumption
    · intro x7 x8 x9
      refine Within.step ?_ (missed_within ..) rfl
      with_reducible assumption

def Parts.sillageFail : List Part := [Part.ev, Part.host, Part.clk, 0x7820, 0x6048, 0x7808, Part.sys, 0x7810]
theorem sillageFail_within (s : State) (d : Nat) (addr : Nat) (lost : List Nat) : Within Parts.sillageFail s (State.sillageFail s d addr lost) := by
  have h0 : Within Parts.sillageFail s s := .refl
  unfold State.sillageFail
  split
  · with_reducible assumption
  · refine Within.step ?_ (sillageShut_within ..) rfl
    refine Within.step ?_ (raise_within ..) rfl
    with_reducible assumption

def Parts.sramUe : List Part := [0x7008, Part.ev, Part.host, Part.clk, 0x7820, 0x6048, 0x7808, Part.sys, 0x7810, Part.al, 0x2864, Part.cm, Part.au, 0x6820, Part.ic, 0x681c, Part.fresh, 0x6818, 0x1028, Part.save, Part.lk, 0x2858, 0x1000]
theorem sramUe_within (s : State) (d : Nat) (region : Nat) (addr : Nat) (unit_ : Nat) : Within Parts.sramUe s (State.sramUe s d region addr unit_) := by
  have h0 : Within Parts.sramUe s s := .refl
  unfold State.sramUe
  split
  · with_reducible assumption
  · extract_lets +onlyGivenNames -merge a0
    have h1 : Within Parts.sramUe s a0 := by
      unfold a0
      split
      · refine Within.step ?_ (bump_within ..) rfl
        with_reducible assumption
      · with_reducible assumption
    clear_value a0
    extract_lets +onlyGivenNames -merge a2
    have h3 : Within Parts.sramUe s a2 := by
      unfold a2
      refine Within.step ?_ (raiseAt_within ..) rfl
      with_reducible assumption
    clear_value a2
    split
    · split
      · refine Within.step ?_ (hurtLine_within ..) rfl
        with_reducible assumption
      · with_reducible assumption
    · split
      · refine Within.step ?_ (reflatten_within ..) rfl
        with_reducible assumption
      · split
        · refine Within.step ?_ (silence_within ..) rfl
          with_reducible assumption
        · split
          · split
            · refine Within.step ?_ (engineFail_within ..) rfl
              with_reducible assumption
            · with_reducible assumption
          · split
            · refine Within.step ?_ (sillageFail_within ..) rfl
              with_reducible assumption
            · with_reducible assumption

def Parts.sramScrub : List Part := [0x7008, 0x6820, Part.ev, Part.host, Part.clk, 0x7820, 0x6048, 0x7808, Part.sys, 0x7810, Part.al, 0x2864, Part.cm, Part.au, Part.ic, 0x681c, Part.fresh, 0x6818, 0x1028, Part.save, Part.lk, 0x2858, 0x1000]
theorem sramScrub_within (s : State) (d : Nat) (corrected : Nat × List (Nat × Nat)) (ue : List (Nat × Nat × Nat)) : Within Parts.sramScrub s (State.sramScrub s d corrected ue) := by
  have h0 : Within Parts.sramScrub s s := .refl
  unfold State.sramScrub
  split
  · with_reducible assumption
  · extract_lets +onlyGivenNames -merge a0
    have h1 : Within Parts.sramScrub s a0 := by
      unfold a0
      refine Within.step ?_ (bump_within ..) rfl
      with_reducible assumption
    clear_value a0
    extract_lets +onlyGivenNames -merge a2
    have h3 : Within Parts.sramScrub s a2 := by
      unfold a2
      refine Within.foldl ?_ ?_
      · with_reducible assumption
      · intro x4 x5 x6
        split
        · refine Within.step ?_ (bump_within ..) rfl
          with_reducible assumption
        · with_reducible assumption
    clear_value a2
    refine Within.foldl ?_ ?_
    · with_reducible assumption
    · intro x7 x8 x9
      refine Within.step ?_ (sramUe_within ..) rfl
      with_reducible assumption

def Parts.execDramRecal : List Part := [Part.mm]
theorem execDramRecal_within (ch : Nat) (s : State) : ExecWithin Parts.execDramRecal s (execDramRecal ch s) := by
  have h0 : Within Parts.execDramRecal s s := .refl
  unfold execDramRecal
  refine ⟨_, rfl, ?_⟩
  refine Within.step ?_ (dramRecal_within ..) rfl
  with_reducible assumption

def Parts.execMigrationDone : List Part := [Part.mm, 0x7020, 0x6048, Part.host, 0x1028, Part.save, 0x7018, Part.ev, Part.clk, 0x7820, 0x7808, Part.sys, 0x7810]
theorem execMigrationDone_within (ch : Nat) (s : State) : ExecWithin Parts.execMigrationDone s (execMigrationDone ch s) := by
  have h0 : Within Parts.execMigrationDone s s := .refl
  unfold execMigrationDone
  refine ⟨_, rfl, ?_⟩
  refine Within.step ?_ (migrationDone_within ..) rfl
  with_reducible assumption

def Parts.execMigrationHeldItemCopied : List Part := [Part.mm]
theorem execMigrationHeldItemCopied_within (ch : Nat) (kind : Nat) (owner : Nat) (buf : Nat) (s : State) : ExecWithin Parts.execMigrationHeldItemCopied s (execMigrationHeldItemCopied ch kind owner buf s) := by
  have h0 : Within Parts.execMigrationHeldItemCopied s s := .refl
  unfold execMigrationHeldItemCopied
  refine ⟨_, rfl, ?_⟩
  refine Within.step ?_ (heldCopied_within ..) rfl
  with_reducible assumption

def Parts.putChannel : List Part := [0x7010, 0x1028, Part.save]
theorem putChannel_within (c : Nat) (v : W) : PutWithin Parts.putChannel (putChannel c v) := by
  unfold putChannel
  refine ⟨rfl, fun s0 => ?_⟩
  dsimp -zeta only
  have h00 : Within Parts.putChannel s0 s0 := .refl
  extract_lets +onlyGivenNames -merge a0
  clear_value a0
  split
  · refine configOnly_within rfl ?_ ?_
    · with_reducible assumption
    · intro x1 x2
      dsimp -zeta only
      refine Within.step ?_ (putWord_within ..) rfl
      with_reducible assumption
  · dsimp -zeta only
    refine Within.step ?_ (putWord_within ..) rfl
    with_reducible assumption

def Parts.execMmChannelWrite : List Part := [0x7010, 0x1028, Part.save, Part.shadow, 0x6040, 0x6048, 0x7808, 0x7810, 0x7820, Part.clk, Part.sys, Part.host, Part.ev, Part.pw]
theorem execMmChannelWrite_within (rq : Req) (e : Nat) (v : W) (s : State) : ExecWithin Parts.execMmChannelWrite s (execMmChannelWrite rq e v s) := by
  have h0 : Within Parts.execMmChannelWrite s s := .refl
  unfold execMmChannelWrite
  extract_lets +onlyGivenNames -merge a0
  have h1 : PutWithin Parts.execMmChannelWrite a0 := by
    unfold a0
    exact PutWithin.step (putChannel_within ..) rfl
  clear_value a0
  refine ⟨_, rfl, ?_⟩
  refine request_within rfl ?_ ?_
  · with_reducible assumption
  · with_reducible assumption

def Parts.execRankFail : List Part := [0x7018, Part.mm, 0x7020, 0x6048, Part.host, Part.ev, Part.clk, 0x7820, 0x7808, Part.sys, 0x7810, Part.al, 0x2864, 0x3830, Part.au, Part.cm, 0x3820, 0x1028, Part.save]
theorem execRankFail_within (e : Nat) (cause : RankFault) (s : State) : ExecWithin Parts.execRankFail s (execRankFail e cause s) := by
  have h0 : Within Parts.execRankFail s s := .refl
  unfold execRankFail
  refine ⟨_, rfl, ?_⟩
  refine Within.step ?_ (rankFail_within ..) rfl
  with_reducible assumption

def Parts.putRankCmd : List Part := [0x7028, Part.mm, 0x7020, 0x6048, Part.host, 0x7018, Part.ev, Part.clk, 0x7820, 0x7808, Part.sys, 0x7810, Part.cm, 0x1028, Part.save]
theorem putRankCmd_within (e : Nat) (v : W) : PutWithin Parts.putRankCmd (putRankCmd e v) := by
  unfold putRankCmd
  extract_lets +onlyGivenNames -merge a0
  extract_lets +onlyGivenNames -merge a1
  refine ⟨rfl, fun s0 => ?_⟩
  dsimp -zeta only
  have h00 : Within Parts.putRankCmd s0 s0 := .refl
  split
  · split
    · with_reducible assumption
    · split
      · split
        · split
          · with_reducible assumption
          · dsimp -zeta only
            refine Within.step ?_ (startCopy_within ..) rfl
            with_reducible assumption
        · with_reducible assumption
      · extract_lets +onlyGivenNames -merge a2
        have h3 : Within Parts.putRankCmd s0 a2.2 := by
          unfold a2
          refine Within.step ?_ (replan_within ..) rfl
          with_reducible assumption
        clear_value a2
        with_reducible assumption
  · refine configOnly_within rfl ?_ ?_
    · with_reducible assumption
    · intro x4 x5
      split
      · dsimp -zeta only
        refine Within.step ?_ (markRetired_within ..) rfl
        with_reducible assumption
      · split
        · extract_lets +onlyGivenNames -merge a6
          clear_value a6
          extract_lets +onlyGivenNames -merge a7
          have h8 : Within Parts.putRankCmd s0 a7 := by
            unfold a7
            refine Within.step ?_ (set_mm_within ..) rfl
            with_reducible assumption
          clear_value a7
          dsimp -zeta only
          refine Within.step ?_ (markDirty_within ..) rfl
          refine Within.step ?_ (putBack_within ..) rfl
          refine Within.step ?_ (setRank_within ..) rfl
          with_reducible assumption
        · with_reducible assumption

def Parts.execRankMigrate : List Part := [0x7028, Part.mm, 0x7020, 0x6048, Part.host, 0x7018, Part.ev, Part.clk, 0x7820, 0x7808, Part.sys, 0x7810, Part.cm, 0x1028, Part.save, Part.shadow, 0x6040, Part.pw]
theorem execRankMigrate_within (rq : Req) (e : Nat) (v : W) (s : State) : ExecWithin Parts.execRankMigrate s (execRankMigrate rq e v s) := by
  have h0 : Within Parts.execRankMigrate s s := .refl
  unfold execRankMigrate
  extract_lets +onlyGivenNames -merge a0
  have h1 : PutWithin Parts.execRankMigrate a0 := by
    unfold a0
    exact PutWithin.step (putRankCmd_within ..) rfl
  clear_value a0
  refine ⟨_, rfl, ?_⟩
  refine request_within rfl ?_ ?_
  · with_reducible assumption
  · with_reducible assumption

def Parts.execRankReplan : List Part := [0x7028, Part.mm, 0x7020, 0x6048, Part.host, 0x7018, Part.ev, Part.clk, 0x7820, 0x7808, Part.sys, 0x7810, Part.cm, 0x1028, Part.save, Part.shadow, 0x6040, Part.pw]
theorem execRankReplan_within (rq : Req) (e : Nat) (v : W) (s : State) : ExecWithin Parts.execRankReplan s (execRankReplan rq e v s) := by
  have h0 : Within Parts.execRankReplan s s := .refl
  unfold execRankReplan
  extract_lets +onlyGivenNames -merge a0
  have h1 : PutWithin Parts.execRankReplan a0 := by
    unfold a0
    exact PutWithin.step (putRankCmd_within ..) rfl
  clear_value a0
  refine ⟨_, rfl, ?_⟩
  refine request_within rfl ?_ ?_
  · with_reducible assumption
  · with_reducible assumption

def Parts.execRankRestore : List Part := [0x7028, Part.mm, 0x7020, 0x6048, Part.host, 0x7018, Part.ev, Part.clk, 0x7820, 0x7808, Part.sys, 0x7810, Part.cm, 0x1028, Part.save, Part.shadow, 0x6040, Part.pw]
theorem execRankRestore_within (rq : Req) (e : Nat) (v : W) (s : State) : ExecWithin Parts.execRankRestore s (execRankRestore rq e v s) := by
  have h0 : Within Parts.execRankRestore s s := .refl
  unfold execRankRestore
  extract_lets +onlyGivenNames -merge a0
  have h1 : PutWithin Parts.execRankRestore a0 := by
    unfold a0
    exact PutWithin.step (putRankCmd_within ..) rfl
  clear_value a0
  refine ⟨_, rfl, ?_⟩
  refine request_within rfl ?_ ?_
  · with_reducible assumption
  · with_reducible assumption

def Parts.execRankRetire : List Part := [0x7028, Part.mm, 0x7020, 0x6048, Part.host, 0x7018, Part.ev, Part.clk, 0x7820, 0x7808, Part.sys, 0x7810, Part.cm, 0x1028, Part.save, Part.shadow, 0x6040, Part.pw]
theorem execRankRetire_within (rq : Req) (e : Nat) (v : W) (s : State) : ExecWithin Parts.execRankRetire s (execRankRetire rq e v s) := by
  have h0 : Within Parts.execRankRetire s s := .refl
  unfold execRankRetire
  extract_lets +onlyGivenNames -merge a0
  have h1 : PutWithin Parts.execRankRetire a0 := by
    unfold a0
    exact PutWithin.step (putRankCmd_within ..) rfl
  clear_value a0
  refine ⟨_, rfl, ?_⟩
  refine request_within rfl ?_ ?_
  · with_reducible assumption
  · with_reducible assumption

def Parts.execRefreshRateCheck : List Part := [0x7018, 0x6048, Part.host, Part.mm, Part.ev, Part.clk, 0x7820, 0x7808, Part.sys, 0x7810]
theorem execRefreshRateCheck_within (ch : Nat) (t : Nat) (s : State) : ExecWithin Parts.execRefreshRateCheck s (execRefreshRateCheck ch t s) := by
  have h0 : Within Parts.execRefreshRateCheck s s := .refl
  unfold execRefreshRateCheck
  refine ⟨_, rfl, ?_⟩
  refine Within.step ?_ (refreshCheck_within ..) rfl
  with_reducible assumption

def Parts.execScrubPassDone : List Part := [0x7018, 0x7020, Part.ev, Part.host, Part.clk, 0x7820, 0x6048, 0x7808, Part.sys, 0x7810, Part.cm]
theorem execScrubPassDone_within (ch : Nat) (corrected : List Nat) (bad : List Nat) (s : State) : ExecWithin Parts.execScrubPassDone s (execScrubPassDone ch corrected bad s) := by
  have h0 : Within Parts.execScrubPassDone s s := .refl
  unfold execScrubPassDone
  refine ⟨_, rfl, ?_⟩
  refine Within.step ?_ (scrubDone_within ..) rfl
  with_reducible assumption

def Parts.execSillageFail : List Part := [Part.ev, Part.host, Part.clk, 0x7820, 0x6048, 0x7808, Part.sys, 0x7810]
theorem execSillageFail_within (d : Nat) (addr : Nat) (lost : List Nat) (s : State) : ExecWithin Parts.execSillageFail s (execSillageFail d addr lost s) := by
  have h0 : Within Parts.execSillageFail s s := .refl
  unfold execSillageFail
  refine ⟨_, rfl, ?_⟩
  refine Within.step ?_ (sillageFail_within ..) rfl
  with_reducible assumption

def Parts.execSramScrub : List Part := [0x7008, 0x6820, Part.ev, Part.host, Part.clk, 0x7820, 0x6048, 0x7808, Part.sys, 0x7810, Part.al, 0x2864, Part.cm, Part.au, Part.ic, 0x681c, Part.fresh, 0x6818, 0x1028, Part.save, Part.lk, 0x2858, 0x1000]
theorem execSramScrub_within (d : Nat) (corrected : Nat × List (Nat × Nat)) (ue : List (Nat × Nat × Nat)) (s : State) : ExecWithin Parts.execSramScrub s (execSramScrub d corrected ue s) := by
  have h0 : Within Parts.execSramScrub s s := .refl
  unfold execSramScrub
  refine ⟨_, rfl, ?_⟩
  refine Within.step ?_ (sramScrub_within ..) rfl
  with_reducible assumption

def Parts.execSramUe : List Part := [0x7008, Part.ev, Part.host, Part.clk, 0x7820, 0x6048, 0x7808, Part.sys, 0x7810, Part.al, 0x2864, Part.cm, Part.au, 0x6820, Part.ic, 0x681c, Part.fresh, 0x6818, 0x1028, Part.save, Part.lk, 0x2858, 0x1000]
theorem execSramUe_within (d : Nat) (region : Nat) (addr : Nat) (unit_ : Nat) (s : State) : ExecWithin Parts.execSramUe s (execSramUe d region addr unit_ s) := by
  have h0 : Within Parts.execSramUe s s := .refl
  unfold execSramUe
  refine ⟨_, rfl, ?_⟩
  refine Within.step ?_ (sramUe_within ..) rfl
  with_reducible assumption

def Parts.putWipe : List Part := [0x7030, 0x1028, Part.save]
theorem putWipe_within (v : W) : PutWithin Parts.putWipe (putWipe v) := by
  unfold putWipe
  refine ⟨rfl, fun s0 => ?_⟩
  dsimp -zeta only
  have h00 : Within Parts.putWipe s0 s0 := .refl
  refine Within.step ?_ (putWord_within ..) rfl
  with_reducible assumption

end Sys2Proof.Machine
end

