-- ==== Sys2Proof/Laws/WithinFaults.lean ====
section
/-! SUPPORT. What the operations of Machine/Faults.lean may change: for each the parts of the state, and that it keeps to them. -/
namespace Sys2Proof.Machine

def Parts.notifyLevel : List Part := [Part.host, 0x6048]
theorem notifyLevel_within (s : State) (d : Nat) (old : Nat) : Within Parts.notifyLevel s (State.notifyLevel s d old) := by
  have h0 : Within Parts.notifyLevel s s := .refl
  unfold State.notifyLevel
  split
  · with_reducible assumption
  · refine Within.step ?_ (notify_within ..) rfl
    with_reducible assumption

def Parts.ack : List Part := [Part.ev, Part.host, 0x6048]
theorem ack_within (s : State) (d : Nat) : Within Parts.ack s (State.ack s d) := by
  have h0 : Within Parts.ack s s := .refl
  unfold State.ack
  extract_lets +onlyGivenNames -merge a0
  clear_value a0
  refine Within.step ?_ (notifyLevel_within ..) rfl
  refine Within.step ?_ (withMgr_within ..) rfl
  with_reducible assumption

def Parts.withGpi : List Part := [Part.ev]
theorem withGpi_within (s : State) (i : Nat) (f : GpiIn → GpiIn) : Within Parts.withGpi s (State.withGpi s i f) := by
  have h0 : Within Parts.withGpi s s := .refl
  unfold State.withGpi
  refine Within.step ?_ (withEv_within ..) rfl
  with_reducible assumption

def Parts.setGpi : List Part := [0x7850, Part.tm, 0x5018, 0x6048, Part.host]
theorem setGpi_within (s : State) (i : Nat) (n : Nat) : Within Parts.setGpi s (State.setGpi s i n) := by
  have h0 : Within Parts.setGpi s s := .refl
  unfold State.setGpi
  extract_lets +onlyGivenNames -merge a0
  extract_lets +onlyGivenNames -merge a1
  have h2 : Within Parts.setGpi s a1 := by
    unfold a1
    refine Within.step ?_ (setFld_within ..) rfl
    with_reducible assumption
  clear_value a1
  split
  · with_reducible assumption
  · split
    · refine Within.step ?_ (refLost_within ..) rfl
      with_reducible assumption
    · split
      · split
        · refine Within.step ?_ (beginQualify_within ..) rfl
          with_reducible assumption
        · with_reducible assumption
      · with_reducible assumption

def Parts.chatter : List Part := [Part.ev, 0x7850, Part.tm, 0x5018, 0x6048, Part.host, Part.clk, 0x7820, 0x7808, Part.sys, 0x7810]
theorem chatter_within (s : State) (i : Nat) : Within Parts.chatter s (State.chatter s i) := by
  have h0 : Within Parts.chatter s s := .refl
  unfold State.chatter
  extract_lets +onlyGivenNames -merge a0
  clear_value a0
  extract_lets +onlyGivenNames -merge a1
  have h2 : Within Parts.chatter s a1 := by
    unfold a1
    refine Within.step ?_ (withGpi_within ..) rfl
    with_reducible assumption
  clear_value a1
  extract_lets +onlyGivenNames -merge a3
  have h4 : Within Parts.chatter s a3 := by
    unfold a3
    refine Within.step ?_ (bump_within ..) rfl
    refine Within.step ?_ (setGpi_within ..) rfl
    with_reducible assumption
  clear_value a3
  refine Within.step ?_ (notify_within ..) rfl
  refine Within.step ?_ (note_within ..) rfl
  with_reducible assumption

def Parts.newChallenge : List Part := [Part.fresh]
theorem newChallenge_within (s : State) (l : List Challenge) : Within Parts.newChallenge s (State.newChallenge s l).2.2 := by
  have h0 : Within Parts.newChallenge s s := .refl
  unfold State.newChallenge
  extract_lets +onlyGivenNames -merge a0
  clear_value a0
  dsimp -zeta only
  refine Within.step ?_ (set_fresh_within ..) rfl
  with_reducible assumption

def Parts.clearChallenge : List Part := [Part.fresh, Part.ev]
theorem clearChallenge_within (s : State) : Within Parts.clearChallenge s (State.clearChallenge s).2 := by
  have h0 : Within Parts.clearChallenge s s := .refl
  unfold State.clearChallenge
  extract_lets +onlyGivenNames -merge a0
  have h1 : Within Parts.clearChallenge s a0.2.2 := by
    unfold a0
    refine Within.step ?_ (newChallenge_within ..) rfl
    with_reducible assumption
  clear_value a0
  dsimp -zeta only
  refine Within.step ?_ (withEv_within ..) rfl
  with_reducible assumption

def Parts.clearSillage : List Part := [Part.ev, Part.host, Part.clk, 0x7820, 0x6048, 0x7808, Part.sys, 0x7810]
theorem clearSillage_within (s : State) (ctx : Nat) (scope : Nat) : Within Parts.clearSillage s (State.clearSillage s ctx scope) := by
  have h0 : Within Parts.clearSillage s s := .refl
  unfold State.clearSillage
  extract_lets +onlyGivenNames -merge a0
  clear_value a0
  extract_lets +onlyGivenNames -merge a1
  clear_value a1
  extract_lets +onlyGivenNames -merge a2
  extract_lets +onlyGivenNames -merge a3
  have h4 : Within Parts.clearSillage s a3 := by
    unfold a3
    refine Within.step ?_ (withEv_within ..) rfl
    with_reducible assumption
  clear_value a3
  extract_lets +onlyGivenNames -merge a5
  have h6 : Within Parts.clearSillage s a5.1 := by
    unfold a5
    refine Within.step ?_ (raiseSeq_within ..) rfl
    with_reducible assumption
  clear_value a5
  refine Within.foldl ?_ ?_
  · with_reducible assumption
  · intro x7 x8 x9
    refine Within.step ?_ (setFld_within ..) rfl
    with_reducible assumption

def Parts.containUnit : List Part := [Part.ev, Part.host, Part.clk, 0x7820, 0x6048, 0x7808, Part.sys, 0x7810, 0x6820, Part.ic, 0x681c, Part.fresh, 0x6818, 0x1028, Part.save, Part.lk, 0x2858, Part.au, 0x1000, Part.mm, 0x7020, Part.al, 0x2864, 0x3830, 0x7018, Part.ap, 0x3068, Part.tm, 0x5018, 0x5030]
theorem containUnit_within (s : State) (code : Nat) (die : Nat) (p : Nat) : Within Parts.containUnit s (State.containUnit s code die p) := by
  have h0 : Within Parts.containUnit s s := .refl
  unfold State.containUnit
  split
  · refine engineOut_within rfl ?_ ?_
    · with_reducible assumption
    · intro x0 x1 x2 x3
      split
      · refine Within.step ?_ (raiseAt_within ..) rfl
        with_reducible assumption
      · with_reducible assumption
  · split
    · with_reducible assumption
    · refine Within.step ?_ (loseRank_within ..) rfl
      with_reducible assumption
  · refine Within.step ?_ (chanShut_within ..) rfl
    with_reducible assumption
  · refine Within.step ?_ (isolateDie_within ..) rfl
    with_reducible assumption
  · refine Within.step ?_ (isolateDie_within ..) rfl
    with_reducible assumption
  · refine Within.step ?_ (sourceLost_within ..) rfl
    with_reducible assumption
  · refine Within.step ?_ (stopDir_within ..) rfl
    with_reducible assumption
  · refine Within.step ?_ (disqualify_within ..) rfl
    with_reducible assumption
  · refine Within.step ?_ (ptpRestarts_within ..) rfl
    with_reducible assumption
  · refine Within.step ?_ (sillageShut_within ..) rfl
    with_reducible assumption
  · with_reducible assumption

def Parts.faultRaised : List Part := [Part.ev, Part.host, Part.clk, 0x7820, 0x6048, 0x7808, Part.sys, 0x7810, 0x6820, Part.ic, 0x681c, Part.fresh, 0x6818, 0x1028, Part.save, Part.lk, 0x2858, Part.au, 0x1000, Part.mm, 0x7020, Part.al, 0x2864, 0x3830, 0x7018, Part.ap, 0x3068, Part.tm, 0x5018, 0x5030]
theorem faultRaised_within (s : State) (code : Nat) (die : Nat) (p1 : Nat) (p2 : Nat) (p3 : Nat) (byHandler : Bool) : Within Parts.faultRaised s (State.faultRaised s code die p1 p2 p3 byHandler) := by
  have h0 : Within Parts.faultRaised s s := .refl
  unfold State.faultRaised
  split
  · with_reducible assumption
  · extract_lets +onlyGivenNames -merge a0
    clear_value a0
    extract_lets +onlyGivenNames -merge a1
    clear_value a1
    extract_lets +onlyGivenNames -merge a2
    clear_value a2
    extract_lets +onlyGivenNames -merge a3
    have h4 : Within Parts.faultRaised s a3 := by
      unfold a3
      refine Within.step ?_ (raiseAt_within ..) rfl
      with_reducible assumption
    clear_value a3
    split
    · refine Within.step ?_ (containUnit_within ..) rfl
      with_reducible assumption
    · with_reducible assumption

def Parts.gpiArm : List Part := [0x2009, 0x2010, 0x3020, 0x3810, 0x2020, Part.xp, Part.fresh, Part.host, 0x6048, 0x2008, Part.cm, Part.au, Part.ev, Part.clk, 0x7820, 0x7808, Part.sys, 0x7810, Part.tw]
theorem gpiArm_within (s : State) (n : Nat) : Within Parts.gpiArm s (State.gpiArm s n) := by
  have h0 : Within Parts.gpiArm s s := .refl
  unfold State.gpiArm
  extract_lets +onlyGivenNames -merge a0
  extract_lets +onlyGivenNames -merge a1
  clear_value a1
  extract_lets +onlyGivenNames -merge a2
  clear_value a2
  extract_lets +onlyGivenNames -merge a3
  have h4 : Within Parts.gpiArm s a3 := by
    unfold a3
    refine decideHere_within rfl ?_ ?_
    · with_reducible assumption
    · intro x5 x6
      refine Within.step ?_ (salvoArm_within ..) rfl
      with_reducible assumption
  clear_value a3
  refine Within.step ?_ (set_tw_within ..) rfl
  with_reducible assumption

def Parts.gpiEdge : List Part := [Part.ev, 0x7850, Part.tm, 0x5018, 0x6048, Part.host, Part.clk, 0x7820, 0x7808, Part.sys, 0x7810]
theorem gpiEdge_within (s : State) (i : Nat) : Within Parts.gpiEdge s (State.gpiEdge s i) := by
  have h0 : Within Parts.gpiEdge s s := .refl
  unfold State.gpiEdge
  split
  · with_reducible assumption
  · extract_lets +onlyGivenNames -merge a0
    extract_lets +onlyGivenNames -merge a1
    extract_lets +onlyGivenNames -merge a2
    have h3 : Within Parts.gpiEdge s a2 := by
      unfold a2
      refine Within.step ?_ (withGpi_within ..) rfl
      with_reducible assumption
    clear_value a2
    extract_lets +onlyGivenNames -merge a4
    have h5 : Within Parts.gpiEdge s a4 := by
      unfold a4
      refine Within.step ?_ (setFld_within ..) rfl
      with_reducible assumption
    clear_value a4
    split
    · refine Within.step ?_ (withGpi_within ..) rfl
      with_reducible assumption
    · split
      · refine Within.step ?_ (chatter_within ..) rfl
        with_reducible assumption
      · with_reducible assumption

def Parts.gpiQualify : List Part := [Part.clk, Part.ev, 0x7850, Part.tm, 0x5018, 0x6048, Part.host, Part.ap, 0x2009, 0x2010, 0x3020, 0x3810, 0x2020, Part.xp, Part.fresh, 0x2008, Part.cm, Part.au, 0x7820, 0x7808, Part.sys, 0x7810, Part.tw]
theorem gpiQualify_within (s : State) (i : Nat) : Within Parts.gpiQualify s (State.gpiQualify s i) := by
  have h0 : Within Parts.gpiQualify s s := .refl
  unfold State.gpiQualify
  split
  · with_reducible assumption
  · extract_lets +onlyGivenNames -merge a0
    clear_value a0
    extract_lets +onlyGivenNames -merge a1
    have h2 : Within Parts.gpiQualify s a1 := by
      unfold a1
      refine Within.step ?_ (waitUntil_within ..) rfl
      with_reducible assumption
    clear_value a1
    extract_lets +onlyGivenNames -merge a3
    clear_value a3
    extract_lets +onlyGivenNames -merge a4
    have h5 : Within Parts.gpiQualify s a4 := by
      unfold a4
      refine Within.step ?_ (withGpi_within ..) rfl
      with_reducible assumption
    clear_value a4
    extract_lets +onlyGivenNames -merge a6
    have h7 : Within Parts.gpiQualify s a6 := by
      unfold a6
      refine Within.step ?_ (bump_within ..) rfl
      refine Within.step ?_ (setFld_within ..) rfl
      with_reducible assumption
    clear_value a6
    extract_lets +onlyGivenNames -merge a8
    have h9 : Within Parts.gpiQualify s a8 := by
      unfold a8
      refine Within.step ?_ (notify_within ..) rfl
      refine Within.step ?_ (setGpi_within ..) rfl
      with_reducible assumption
    clear_value a8
    split
    · extract_lets +onlyGivenNames -merge a10
      have h11 : Within Parts.gpiQualify s a10 := by
        unfold a10
        refine Within.step ?_ (trigGpi_within ..) rfl
        with_reducible assumption
      clear_value a10
      split
      · refine Within.step ?_ (gpiArm_within ..) rfl
        with_reducible assumption
      · with_reducible assumption
    · with_reducible assumption

def Parts.gpiSettle : List Part := [Part.ev, 0x7850, Part.tm, 0x5018, 0x6048, Part.host]
theorem gpiSettle_within (s : State) (i : Nat) : Within Parts.gpiSettle s (State.gpiSettle s i) := by
  have h0 : Within Parts.gpiSettle s s := .refl
  unfold State.gpiSettle
  extract_lets +onlyGivenNames -merge a0
  clear_value a0
  extract_lets +onlyGivenNames -merge a1
  extract_lets +onlyGivenNames -merge a2
  clear_value a2
  extract_lets +onlyGivenNames -merge a3
  have h4 : Within Parts.gpiSettle s a3 := by
    unfold a3
    refine Within.step ?_ (withGpi_within ..) rfl
    with_reducible assumption
  clear_value a3
  refine Within.step ?_ (setGpi_within ..) rfl
  with_reducible assumption

def Parts.gpiStuck : List Part := [Part.clk, 0x7850, Part.tm, 0x5018, 0x6048, Part.host, Part.ev, 0x7820, 0x7808, Part.sys, 0x7810]
theorem gpiStuck_within (s : State) (i : Nat) : Within Parts.gpiStuck s (State.gpiStuck s i) := by
  have h0 : Within Parts.gpiStuck s s := .refl
  unfold State.gpiStuck
  split
  · with_reducible assumption
  · extract_lets +onlyGivenNames -merge a0
    have h1 : Within Parts.gpiStuck s a0 := by
      unfold a0
      refine Within.step ?_ (waitUntil_within ..) rfl
      with_reducible assumption
    clear_value a0
    extract_lets +onlyGivenNames -merge a2
    have h3 : Within Parts.gpiStuck s a2 := by
      unfold a2
      refine Within.step ?_ (bump_within ..) rfl
      refine Within.step ?_ (setGpi_within ..) rfl
      with_reducible assumption
    clear_value a2
    refine Within.step ?_ (notify_within ..) rfl
    refine Within.step ?_ (note_within ..) rfl
    with_reducible assumption

def Parts.gpiUnmask : List Part := [Part.clk, Part.ev, 0x7850, Part.tm, 0x5018, 0x6048, Part.host]
theorem gpiUnmask_within (s : State) (i : Nat) : Within Parts.gpiUnmask s (State.gpiUnmask s i) := by
  have h0 : Within Parts.gpiUnmask s s := .refl
  unfold State.gpiUnmask
  split
  · with_reducible assumption
  · refine Within.step ?_ (notify_within ..) rfl
    refine Within.step ?_ (gpiSettle_within ..) rfl
    refine Within.step ?_ (waitUntil_within ..) rfl
    with_reducible assumption

def Parts.handlerEnd : List Part := [Part.ev, Part.host, 0x6048]
theorem handlerEnd_within (s : State) (d : Nat) : Within Parts.handlerEnd s (State.handlerEnd s d) := by
  have h0 : Within Parts.handlerEnd s s := .refl
  unfold State.handlerEnd
  extract_lets +onlyGivenNames -merge a0
  clear_value a0
  split
  · with_reducible assumption
  · extract_lets +onlyGivenNames -merge a1
    have h2 : Within Parts.handlerEnd s a1 := by
      unfold a1
      refine Within.step ?_ (withMgr_within ..) rfl
      with_reducible assumption
    clear_value a1
    extract_lets +onlyGivenNames -merge a3
    have h4 : Within Parts.handlerEnd s a3 := by
      unfold a3
      split
      · split
        · refine Within.step ?_ (tellRecord_within ..) rfl
          with_reducible assumption
        · with_reducible assumption
      · with_reducible assumption
    clear_value a3
    refine Within.step ?_ (notifyLevel_within ..) rfl
    with_reducible assumption

def Parts.recordClose : List Part := [Part.clk, Part.ev]
theorem recordClose_within (s : State) (d : Nat) (seq : Nat) : Within Parts.recordClose s (State.recordClose s d seq) := by
  have h0 : Within Parts.recordClose s s := .refl
  unfold State.recordClose
  split
  · with_reducible assumption
  · split
    · with_reducible assumption
    · extract_lets +onlyGivenNames -merge a0
      have h1 : Within Parts.recordClose s a0 := by
        unfold a0
        refine Within.step ?_ (waitUntil_within ..) rfl
        with_reducible assumption
      clear_value a0
      extract_lets +onlyGivenNames -merge a2
      clear_value a2
      refine Within.step ?_ (withEv_within ..) rfl
      with_reducible assumption

def Parts.retest : List Part := [Part.ev, 0x7810, Part.host, 0x6048, Part.clk, 0x7820, 0x7808, Part.sys]
theorem retest_within (s : State) (d : Nat) (pass : Bool) : Within Parts.retest s (State.retest s d pass).2 := by
  have h0 : Within Parts.retest s s := .refl
  unfold State.retest
  split
  · with_reducible assumption
  · extract_lets +onlyGivenNames -merge a0
    have h1 : Within Parts.retest s a0 := by
      unfold a0
      refine Within.step ?_ (withEv_within ..) rfl
      with_reducible assumption
    clear_value a0
    split
    · extract_lets +onlyGivenNames -merge a2
      have h3 : Within Parts.retest s a2 := by
        unfold a2
        refine Within.step ?_ (withEv_within ..) rfl
        with_reducible assumption
      clear_value a2
      extract_lets +onlyGivenNames -merge a4
      have h5 : Within Parts.retest s a4 := by
        unfold a4
        refine Within.step ?_ (putBack_within ..) rfl
        refine Within.step ?_ (relays_within ..) rfl
        refine Within.step ?_ (setFld_within ..) rfl
        refine Within.step ?_ (setFld_within ..) rfl
        with_reducible assumption
      clear_value a4
      dsimp -zeta only
      refine Within.step ?_ (raise_within ..) rfl
      refine Within.step ?_ (notify_within ..) rfl
      with_reducible assumption
    · with_reducible assumption

def Parts.execClearChallengeRead : List Part := [Part.fresh, Part.ev, 0x6040, 0x6048, 0x7808, 0x7810, 0x7820, Part.shadow, Part.clk, Part.sys, Part.host, Part.pw]
theorem execClearChallengeRead_within (rq : Req) (s : State) : ExecWithin Parts.execClearChallengeRead s (execClearChallengeRead rq s) := by
  have h0 : Within Parts.execClearChallengeRead s s := .refl
  unfold execClearChallengeRead
  refine ⟨_, rfl, ?_⟩
  refine hostRead_within rfl ?_ ?_
  · with_reducible assumption
  · intro x0 x1
    refine Within.step ?_ (clearChallenge_within ..) rfl
    with_reducible assumption

def Parts.putCursor : List Part := [0x7820]
theorem putCursor_within (s : State) (c : Nat) (v : W) : PutWithin Parts.putCursor (putCursor s c v) := by
  have h0 : Within Parts.putCursor s s := .refl
  unfold putCursor
  extract_lets +onlyGivenNames -merge a0
  refine ⟨rfl, fun s0 => ?_⟩
  dsimp -zeta only
  have h00 : Within Parts.putCursor s0 s0 := .refl
  refine Within.step ?_ (setFld_within ..) rfl
  refine Within.step ?_ (setFld_within ..) rfl
  with_reducible assumption

def Parts.execEvCursorWrite : List Part := [0x7820, 0x1028, Part.save, Part.shadow, 0x6040, 0x6048, 0x7808, 0x7810, Part.clk, Part.sys, Part.host, Part.ev, Part.pw]
theorem execEvCursorWrite_within (rq : Req) (c : Nat) (v : W) (s : State) : ExecWithin Parts.execEvCursorWrite s (execEvCursorWrite rq c v s) := by
  have h0 : Within Parts.execEvCursorWrite s s := .refl
  unfold execEvCursorWrite
  extract_lets +onlyGivenNames -merge a0
  have h1 : PutWithin Parts.execEvCursorWrite a0 := by
    unfold a0
    exact PutWithin.step (putCursor_within ..) rfl
  clear_value a0
  refine ⟨_, rfl, ?_⟩
  refine request_within rfl ?_ ?_
  · with_reducible assumption
  · with_reducible assumption

def Parts.putGpi : List Part := [0x7848, 0x1028, Part.save, Part.ev, 0x7850, Part.tm, 0x5018, 0x6048, Part.host]
theorem putGpi_within (i : Nat) (v : W) : PutWithin Parts.putGpi (putGpi i v) := by
  unfold putGpi
  refine ⟨rfl, fun s0 => ?_⟩
  dsimp -zeta only
  have h00 : Within Parts.putGpi s0 s0 := .refl
  extract_lets +onlyGivenNames -merge a0
  extract_lets +onlyGivenNames -merge a1
  have h2 : Within Parts.putGpi s0 a1 := by
    unfold a1
    refine Within.step ?_ (gpiSettle_within ..) rfl
    refine Within.step ?_ (putWord_within ..) rfl
    with_reducible assumption
  clear_value a1
  dsimp -zeta only
  split
  · with_reducible assumption
  · refine Within.step ?_ (notify_within ..) rfl
    with_reducible assumption

def Parts.execEvGpiWrite : List Part := [0x7848, 0x1028, Part.save, Part.ev, 0x7850, Part.tm, 0x5018, 0x6048, Part.host, Part.shadow, 0x6040, 0x7808, 0x7810, 0x7820, Part.clk, Part.sys, Part.pw]
theorem execEvGpiWrite_within (rq : Req) (i : Nat) (v : W) (s : State) : ExecWithin Parts.execEvGpiWrite s (execEvGpiWrite rq i v s) := by
  have h0 : Within Parts.execEvGpiWrite s s := .refl
  unfold execEvGpiWrite
  extract_lets +onlyGivenNames -merge a0
  have h1 : PutWithin Parts.execEvGpiWrite a0 := by
    unfold a0
    exact PutWithin.step (putGpi_within ..) rfl
  clear_value a0
  refine ⟨_, rfl, ?_⟩
  refine request_within rfl ?_ ?_
  · with_reducible assumption
  · with_reducible assumption

def Parts.putEvCmd : List Part := [0x7840, Part.ev, Part.host, 0x6048, 0x7810, Part.clk, 0x7820, 0x7808, Part.sys]
theorem putEvCmd_within (d : Nat) (v : W) (pass : Bool) : PutWithin Parts.putEvCmd (putEvCmd d v pass) := by
  unfold putEvCmd
  refine ⟨rfl, fun s0 => ?_⟩
  dsimp -zeta only
  have h00 : Within Parts.putEvCmd s0 s0 := .refl
  split
  · dsimp -zeta only
    refine Within.step ?_ (ack_within ..) rfl
    with_reducible assumption
  · refine Within.step ?_ (retest_within ..) rfl
    with_reducible assumption

def Parts.execFaultAck : List Part := [0x7840, Part.ev, Part.host, 0x6048, 0x7810, Part.clk, 0x7820, 0x7808, Part.sys, 0x1028, Part.save, Part.shadow, 0x6040, Part.pw]
theorem execFaultAck_within (rq : Req) (d : Nat) (s : State) : ExecWithin Parts.execFaultAck s (execFaultAck rq d s) := by
  have h0 : Within Parts.execFaultAck s s := .refl
  unfold execFaultAck
  extract_lets +onlyGivenNames -merge a0
  have h1 : PutWithin Parts.execFaultAck a0 := by
    unfold a0
    exact PutWithin.step (putEvCmd_within ..) rfl
  clear_value a0
  refine ⟨_, rfl, ?_⟩
  refine request_within rfl ?_ ?_
  · with_reducible assumption
  · with_reducible assumption

def Parts.execFaultRaised : List Part := [Part.ev, Part.host, Part.clk, 0x7820, 0x6048, 0x7808, Part.sys, 0x7810, 0x6820, Part.ic, 0x681c, Part.fresh, 0x6818, 0x1028, Part.save, Part.lk, 0x2858, Part.au, 0x1000, Part.mm, 0x7020, Part.al, 0x2864, 0x3830, 0x7018, Part.ap, 0x3068, Part.tm, 0x5018, 0x5030]
theorem execFaultRaised_within (code : Nat) (die : Nat) (p1 : Nat) (p2 : Nat) (p3 : Nat) (byHandler : Bool) (s : State) : ExecWithin Parts.execFaultRaised s (execFaultRaised code die p1 p2 p3 byHandler s) := by
  have h0 : Within Parts.execFaultRaised s s := .refl
  unfold execFaultRaised
  refine ⟨_, rfl, ?_⟩
  refine Within.step ?_ (faultRaised_within ..) rfl
  with_reducible assumption

def Parts.execGpiQualify : List Part := [Part.clk, Part.ev, 0x7850, Part.tm, 0x5018, 0x6048, Part.host, Part.ap, 0x2009, 0x2010, 0x3020, 0x3810, 0x2020, Part.xp, Part.fresh, 0x2008, Part.cm, Part.au, 0x7820, 0x7808, Part.sys, 0x7810, Part.tw]
theorem execGpiQualify_within (i : Nat) (s : State) : ExecWithin Parts.execGpiQualify s (execGpiQualify i s) := by
  have h0 : Within Parts.execGpiQualify s s := .refl
  unfold execGpiQualify
  refine ⟨_, rfl, ?_⟩
  refine Within.step ?_ (gpiQualify_within ..) rfl
  with_reducible assumption

def Parts.execGpiRawEdge : List Part := [Part.ev, 0x7850, Part.tm, 0x5018, 0x6048, Part.host, Part.clk, 0x7820, 0x7808, Part.sys, 0x7810]
theorem execGpiRawEdge_within (i : Nat) (s : State) : ExecWithin Parts.execGpiRawEdge s (execGpiRawEdge i s) := by
  have h0 : Within Parts.execGpiRawEdge s s := .refl
  unfold execGpiRawEdge
  refine ⟨_, rfl, ?_⟩
  refine Within.step ?_ (gpiEdge_within ..) rfl
  with_reducible assumption

def Parts.execGpiStuck : List Part := [Part.clk, 0x7850, Part.tm, 0x5018, 0x6048, Part.host, Part.ev, 0x7820, 0x7808, Part.sys, 0x7810]
theorem execGpiStuck_within (i : Nat) (s : State) : ExecWithin Parts.execGpiStuck s (execGpiStuck i s) := by
  have h0 : Within Parts.execGpiStuck s s := .refl
  unfold execGpiStuck
  refine ⟨_, rfl, ?_⟩
  refine Within.step ?_ (gpiStuck_within ..) rfl
  with_reducible assumption

def Parts.execGpiUnmask : List Part := [Part.clk, Part.ev, 0x7850, Part.tm, 0x5018, 0x6048, Part.host]
theorem execGpiUnmask_within (i : Nat) (s : State) : ExecWithin Parts.execGpiUnmask s (execGpiUnmask i s) := by
  have h0 : Within Parts.execGpiUnmask s s := .refl
  unfold execGpiUnmask
  refine ⟨_, rfl, ?_⟩
  refine Within.step ?_ (gpiUnmask_within ..) rfl
  with_reducible assumption

def Parts.execHandlerEnd : List Part := [Part.ev, Part.host, 0x6048]
theorem execHandlerEnd_within (d : Nat) (s : State) : ExecWithin Parts.execHandlerEnd s (execHandlerEnd d s) := by
  have h0 : Within Parts.execHandlerEnd s s := .refl
  unfold execHandlerEnd
  refine ⟨_, rfl, ?_⟩
  refine Within.step ?_ (handlerEnd_within ..) rfl
  with_reducible assumption

def Parts.execRecordClose : List Part := [Part.clk, Part.ev]
theorem execRecordClose_within (d : Nat) (seq : Nat) (s : State) : ExecWithin Parts.execRecordClose s (execRecordClose d seq s) := by
  have h0 : Within Parts.execRecordClose s s := .refl
  unfold execRecordClose
  refine ⟨_, rfl, ?_⟩
  refine Within.step ?_ (recordClose_within ..) rfl
  with_reducible assumption

def Parts.putClear : List Part := [0x7830, Part.ev, Part.host, Part.clk, 0x7820, 0x6048, 0x7808, Part.sys, 0x7810]
theorem putClear_within (s : State) (blob : List Byte) : PutWithin Parts.putClear (putClear s blob) := by
  have h0 : Within Parts.putClear s s := .refl
  unfold putClear
  extract_lets +onlyGivenNames -merge a0
  extract_lets +onlyGivenNames -merge a1
  extract_lets +onlyGivenNames -merge a2
  clear_value a2
  refine ⟨rfl, fun s0 => ?_⟩
  dsimp -zeta only
  have h00 : Within Parts.putClear s0 s0 := .refl
  extract_lets +onlyGivenNames -merge a3
  clear_value a3
  extract_lets +onlyGivenNames -merge a4
  have h5 : Within Parts.putClear s0 a4 := by
    unfold a4
    refine Within.step ?_ (withEv_within ..) rfl
    with_reducible assumption
  clear_value a4
  split
  · dsimp -zeta only
    refine Within.step ?_ (clearSillage_within ..) rfl
    with_reducible assumption
  · dsimp -zeta only
    refine Within.step ?_ (note_within ..) rfl
    with_reducible assumption

def Parts.execSillageClear : List Part := [0x7830, Part.ev, Part.host, Part.clk, 0x7820, 0x6048, 0x7808, Part.sys, 0x7810, 0x1028, Part.save, Part.shadow, 0x6040, Part.pw]
theorem execSillageClear_within (rq : Req) (blob : List Byte) (s : State) : ExecWithin Parts.execSillageClear s (execSillageClear rq blob s) := by
  have h0 : Within Parts.execSillageClear s s := .refl
  unfold execSillageClear
  extract_lets +onlyGivenNames -merge a0
  have h1 : PutWithin Parts.execSillageClear a0 := by
    unfold a0
    exact PutWithin.step (putClear_within ..) rfl
  clear_value a0
  refine ⟨_, rfl, ?_⟩
  refine request_within rfl ?_ ?_
  · with_reducible assumption
  · with_reducible assumption

def Parts.execSillageRetest : List Part := [0x7840, Part.ev, Part.host, 0x6048, 0x7810, Part.clk, 0x7820, 0x7808, Part.sys, 0x1028, Part.save, Part.shadow, 0x6040, Part.pw]
theorem execSillageRetest_within (rq : Req) (d : Nat) (pass : Bool) (s : State) : ExecWithin Parts.execSillageRetest s (execSillageRetest rq d pass s) := by
  have h0 : Within Parts.execSillageRetest s s := .refl
  unfold execSillageRetest
  extract_lets +onlyGivenNames -merge a0
  have h1 : PutWithin Parts.execSillageRetest a0 := by
    unfold a0
    exact PutWithin.step (putEvCmd_within ..) rfl
  clear_value a0
  refine ⟨_, rfl, ?_⟩
  refine request_within rfl ?_ ?_
  · with_reducible assumption
  · with_reducible assumption

end Sys2Proof.Machine
end

