-- ==== Sys2Proof/Laws/WithinSettings.lean ====
section
/-! SUPPORT. What the operations of Machine/Settings.lean may change: for each the parts of the state, and that it keeps to them. -/
namespace Sys2Proof.Machine

def Parts.installSaved : List Part := [Part.all]
theorem installSaved_within (s : State) (t : Table) : Within Parts.installSaved s (s.installSaved t) :=
  .everything rfl rfl fun h => ⟨tableWf_tmerge _ (tableWf_filter _ h.1), tableWf_tmerge _ (tableWf_filter _ h.2)⟩


def Parts.showSave : List Part := [0x1028]
theorem showSave_within (s : State) : Within Parts.showSave s (State.showSave s) := by
  have h0 : Within Parts.showSave s s := .refl
  unfold State.showSave
  split
  · refine Within.step ?_ (setFld_within ..) rfl
    refine Within.step ?_ (setFld_within ..) rfl
    with_reducible assumption
  · refine Within.step ?_ (setFld_within ..) rfl
    refine Within.step ?_ (setFld_within ..) rfl
    with_reducible assumption

def Parts.bootSettings : List Part := [Part.save, Part.all, Part.ic, Part.mm, Part.pw, 0x1028]
theorem bootSettings_within (s : State) : Within Parts.bootSettings s (State.bootSettings s) := by
  have h0 : Within Parts.bootSettings s s := .refl
  unfold State.bootSettings
  extract_lets +onlyGivenNames -merge a0
  extract_lets +onlyGivenNames -merge a1
  have h2 : Within Parts.bootSettings s a1 := by
    unfold a1
    split
    · refine Within.step ?_ (withSave_within ..) rfl
      with_reducible assumption
    · with_reducible assumption
  clear_value a1
  extract_lets +onlyGivenNames -merge a3
  have h4 : Within Parts.bootSettings s a3 := by
    unfold a3
    refine Within.step ?_ (withSave_within ..) rfl
    with_reducible assumption
  clear_value a3
  extract_lets +onlyGivenNames -merge a5
  clear_value a5
  extract_lets +onlyGivenNames -merge a6
  have h7 : Within Parts.bootSettings s a6 := by
    unfold a6
    refine Within.step ?_ (installSaved_within ..) rfl
    with_reducible assumption
  clear_value a6
  extract_lets +onlyGivenNames -merge a8
  clear_value a8
  extract_lets +onlyGivenNames -merge a9
  clear_value a9
  extract_lets +onlyGivenNames -merge a10
  clear_value a10
  extract_lets +onlyGivenNames -merge a11
  clear_value a11
  extract_lets +onlyGivenNames -merge a12
  clear_value a12
  extract_lets +onlyGivenNames -merge a13
  have h14 : Within Parts.bootSettings s a13 := by
    unfold a13
    split
    · refine Within.trans (t := a6) ?_ ⟨⟨fun _ _ => rfl, fun _ => rfl, fun _ => rfl, fun _ => rfl, fun _ => rfl, fun _ => rfl, fun _ => rfl, fun _ => rfl, fun _ => rfl, fun _ => rfl, fun _ => rfl, fun _ => rfl, fun _ => rfl, fun _ => rfl, fun _ => rfl, fun _ => rfl, fun _ => rfl, fun _ => rfl, fun h => Bool.noConfusion h, fun h => Bool.noConfusion h, fun _ => rfl⟩, rfl, rfl, fun h => ⟨h.1, h.2⟩⟩
      with_reducible assumption
    · refine Within.trans (t := a6) ?_ ⟨⟨fun _ _ => rfl, fun _ => rfl, fun _ => rfl, fun _ => rfl, fun _ => rfl, fun _ => rfl, fun _ => rfl, fun _ => rfl, fun _ => rfl, fun h => Bool.noConfusion h, fun _ => rfl, fun _ => rfl, fun _ => rfl, fun _ => rfl, fun _ => rfl, fun _ => rfl, fun _ => rfl, fun _ => rfl, fun h => Bool.noConfusion h, fun h => Bool.noConfusion h, fun _ => rfl⟩, rfl, rfl, fun h => ⟨h.1, h.2⟩⟩
      with_reducible assumption
  clear_value a13
  refine Within.step ?_ (showSave_within ..) rfl
  with_reducible assumption

def Parts.restoreSaved : List Part := [Part.all, 0x1028, Part.save, Part.ev, Part.host, Part.clk, 0x7820, 0x6048, 0x7808, Part.sys, 0x7810]
theorem restoreSaved_within (s : State) : Within Parts.restoreSaved s (State.restoreSaved s) := by
  have h0 : Within Parts.restoreSaved s s := .refl
  unfold State.restoreSaved
  extract_lets +onlyGivenNames -merge a0
  extract_lets +onlyGivenNames -merge a1
  clear_value a1
  extract_lets +onlyGivenNames -merge a2
  extract_lets +onlyGivenNames -merge a3
  have h4 : Within Parts.restoreSaved s a3 := by
    unfold a3
    refine Within.step ?_ (installSaved_within ..) rfl
    with_reducible assumption
  clear_value a3
  extract_lets +onlyGivenNames -merge a5
  have h6 : Within Parts.restoreSaved s a5 := by
    unfold a5
    split
    · refine Within.step ?_ (markDirty_within ..) rfl
      refine Within.step ?_ (setFld_within ..) rfl
      with_reducible assumption
    · with_reducible assumption
  clear_value a5
  split
  · refine Within.step ?_ (note_within ..) rfl
    with_reducible assumption
  · with_reducible assumption

def Parts.startGen : List Part := [0x1028, Part.save]
theorem startGen_within (s : State) : Within Parts.startGen s (State.startGen s) := by
  have h0 : Within Parts.startGen s s := .refl
  unfold State.startGen
  extract_lets +onlyGivenNames -merge a0
  clear_value a0
  refine Within.step ?_ (withSave_within ..) rfl
  refine Within.step ?_ (setFld_within ..) rfl
  with_reducible assumption

def Parts.settingsTimer : List Part := [Part.clk, 0x1028, Part.save]
theorem settingsTimer_within (s : State) : Within Parts.settingsTimer s (State.settingsTimer s) := by
  have h0 : Within Parts.settingsTimer s s := .refl
  unfold State.settingsTimer
  split
  · with_reducible assumption
  · split
    · with_reducible assumption
    · refine Within.step ?_ (startGen_within ..) rfl
      refine Within.step ?_ (waitUntil_within ..) rfl
      with_reducible assumption

def Parts.writeDone : List Part := [0x1028, Part.save]
theorem writeDone_within (s : State) (good : Bool) : Within Parts.writeDone s (State.writeDone s good) := by
  have h0 : Within Parts.writeDone s s := .refl
  unfold State.writeDone
  split
  · with_reducible assumption
  · extract_lets +onlyGivenNames -merge a0
    extract_lets +onlyGivenNames -merge a1
    clear_value a1
    extract_lets +onlyGivenNames -merge a2
    have h3 : Within Parts.writeDone s a2 := by
      unfold a2
      refine Within.step ?_ (setFld_within ..) rfl
      with_reducible assumption
    clear_value a2
    extract_lets +onlyGivenNames -merge a4
    have h5 : Within Parts.writeDone s a4 := by
      unfold a4
      refine Within.step ?_ (withSave_within ..) rfl
      with_reducible assumption
    clear_value a4
    extract_lets +onlyGivenNames -merge a6
    have h7 : Within Parts.writeDone s a6 := by
      unfold a6
      split
      · refine Within.step ?_ (showSave_within ..) rfl
        refine Within.step ?_ (withSave_within ..) rfl
        with_reducible assumption
      · with_reducible assumption
    clear_value a6
    split
    · extract_lets +onlyGivenNames -merge a8
      refine Within.step ?_ (withSave_within ..) rfl
      with_reducible assumption
    · split
      · with_reducible assumption
      · refine Within.step ?_ (setFld_within ..) rfl
        with_reducible assumption

def Parts.putSave : List Part := [0x1028, Part.save]
theorem putSave_within (v : W) : PutWithin Parts.putSave (putSave v) := by
  unfold putSave
  refine ⟨rfl, fun s0 => ?_⟩
  dsimp -zeta only
  have h00 : Within Parts.putSave s0 s0 := .refl
  split
  · split
    · with_reducible assumption
    · dsimp -zeta only
      refine Within.step ?_ (startGen_within ..) rfl
      with_reducible assumption
  · dsimp -zeta only
    refine Within.step ?_ (setFld_within ..) rfl
    with_reducible assumption

def Parts.execSettingsDefaults : List Part := [0x1028, Part.save, Part.shadow, 0x6040, 0x6048, 0x7808, 0x7810, 0x7820, Part.clk, Part.sys, Part.host, Part.ev, Part.pw]
theorem execSettingsDefaults_within (rq : Req) (s : State) : ExecWithin Parts.execSettingsDefaults s (execSettingsDefaults rq s) := by
  have h0 : Within Parts.execSettingsDefaults s s := .refl
  unfold execSettingsDefaults
  extract_lets +onlyGivenNames -merge a0
  have h1 : PutWithin Parts.execSettingsDefaults a0 := by
    unfold a0
    exact PutWithin.step (putSave_within ..) rfl
  clear_value a0
  refine ⟨_, rfl, ?_⟩
  refine request_within rfl ?_ ?_
  · with_reducible assumption
  · with_reducible assumption

def Parts.execSettingsFlush : List Part := [0x1028, Part.save, Part.shadow, 0x6040, 0x6048, 0x7808, 0x7810, 0x7820, Part.clk, Part.sys, Part.host, Part.ev, Part.pw]
theorem execSettingsFlush_within (rq : Req) (s : State) : ExecWithin Parts.execSettingsFlush s (execSettingsFlush rq s) := by
  have h0 : Within Parts.execSettingsFlush s s := .refl
  unfold execSettingsFlush
  extract_lets +onlyGivenNames -merge a0
  have h1 : PutWithin Parts.execSettingsFlush a0 := by
    unfold a0
    exact PutWithin.step (putSave_within ..) rfl
  clear_value a0
  refine ⟨_, rfl, ?_⟩
  refine request_within rfl ?_ ?_
  · with_reducible assumption
  · with_reducible assumption

def Parts.execSettingsKeep : List Part := [0x1028, Part.save, Part.shadow, 0x6040, 0x6048, 0x7808, 0x7810, 0x7820, Part.clk, Part.sys, Part.host, Part.ev, Part.pw]
theorem execSettingsKeep_within (rq : Req) (s : State) : ExecWithin Parts.execSettingsKeep s (execSettingsKeep rq s) := by
  have h0 : Within Parts.execSettingsKeep s s := .refl
  unfold execSettingsKeep
  extract_lets +onlyGivenNames -merge a0
  have h1 : PutWithin Parts.execSettingsKeep a0 := by
    unfold a0
    exact PutWithin.step (putSave_within ..) rfl
  clear_value a0
  refine ⟨_, rfl, ?_⟩
  refine request_within rfl ?_ ?_
  · with_reducible assumption
  · with_reducible assumption

def Parts.execSettingsTimer : List Part := [Part.clk, 0x1028, Part.save]
theorem execSettingsTimer_within (s : State) : ExecWithin Parts.execSettingsTimer s (execSettingsTimer s) := by
  have h0 : Within Parts.execSettingsTimer s s := .refl
  unfold execSettingsTimer
  refine ⟨_, rfl, ?_⟩
  refine Within.step ?_ (settingsTimer_within ..) rfl
  with_reducible assumption

def Parts.execSettingsWriteDone : List Part := [0x1028, Part.save]
theorem execSettingsWriteDone_within (good : Bool) (s : State) : ExecWithin Parts.execSettingsWriteDone s (execSettingsWriteDone good s) := by
  have h0 : Within Parts.execSettingsWriteDone s s := .refl
  unfold execSettingsWriteDone
  refine ⟨_, rfl, ?_⟩
  refine Within.step ?_ (writeDone_within ..) rfl
  with_reducible assumption

def Parts.putRole : List Part := [0x1018, 0x1028, Part.save]
theorem putRole_within (v : W) : PutWithin Parts.putRole (putRole v) := by
  unfold putRole
  refine ⟨rfl, fun s0 => ?_⟩
  dsimp -zeta only
  have h00 : Within Parts.putRole s0 s0 := .refl
  split
  · with_reducible assumption
  · split
    · with_reducible assumption
    · dsimp -zeta only
      refine Within.step ?_ (putWord_within ..) rfl
      with_reducible assumption

def Parts.execSyRoleWrite : List Part := [0x1018, 0x1028, Part.save, Part.shadow, 0x6040, 0x6048, 0x7808, 0x7810, 0x7820, Part.clk, Part.sys, Part.host, Part.ev, Part.pw]
theorem execSyRoleWrite_within (rq : Req) (v : W) (s : State) : ExecWithin Parts.execSyRoleWrite s (execSyRoleWrite rq v s) := by
  have h0 : Within Parts.execSyRoleWrite s s := .refl
  unfold execSyRoleWrite
  extract_lets +onlyGivenNames -merge a0
  have h1 : PutWithin Parts.execSyRoleWrite a0 := by
    unfold a0
    exact PutWithin.step (putRole_within ..) rfl
  clear_value a0
  refine ⟨_, rfl, ?_⟩
  refine request_within rfl ?_ ?_
  · with_reducible assumption
  · with_reducible assumption

end Sys2Proof.Machine
end

