-- ==== Sys2Proof/Laws/WithinTwin.lean ====
section
/-! SUPPORT. What the operations of Machine/Twin.lean may change: for each the parts of the state, and that it keeps to them. -/
namespace Sys2Proof.Machine

def Parts.answerAck : List Part := [Part.tw, Part.ev, Part.host, Part.clk, 0x7820, 0x6048, 0x7808, Part.sys, 0x7810, 0x6040, Part.mx, Part.fresh, 0x4860]
theorem answerAck_within (s : State) (n : Nat) : Within Parts.answerAck s (State.answerAck s n) := by
  have h0 : Within Parts.answerAck s s := .refl
  unfold State.answerAck
  extract_lets +onlyGivenNames -merge a0
  clear_value a0
  extract_lets +onlyGivenNames -merge a1
  have h2 : Within Parts.answerAck s a1 := by
    unfold a1
    refine Within.foldl ?_ ?_
    · with_reducible assumption
    · intro x3 x4 x5
      refine Within.step ?_ (fwdAnswer_within ..) rfl
      with_reducible assumption
  clear_value a1
  refine Within.step ?_ (set_tw_within ..) rfl
  with_reducible assumption

def Parts.ackTimeout : List Part := [Part.clk, Part.tw, 0x5818, 0x6048, Part.host, Part.ev, 0x7820, 0x7808, Part.sys, 0x7810, 0x6040, Part.mx, Part.fresh, 0x4860]
theorem ackTimeout_within (s : State) (n : Nat) : Within Parts.ackTimeout s (State.ackTimeout s n) := by
  have h0 : Within Parts.ackTimeout s s := .refl
  unfold State.ackTimeout
  split
  · with_reducible assumption
  · extract_lets +onlyGivenNames -merge a0
    have h1 : Within Parts.ackTimeout s a0 := by
      unfold a0
      refine Within.step ?_ (waitUntil_within ..) rfl
      with_reducible assumption
    clear_value a0
    extract_lets +onlyGivenNames -merge a2
    clear_value a2
    extract_lets +onlyGivenNames -merge a3
    have h4 : Within Parts.ackTimeout s a3 := by
      unfold a3
      refine Within.step ?_ (set_tw_within ..) rfl
      with_reducible assumption
    clear_value a3
    refine Within.step ?_ (answerAck_within ..) rfl
    split
    · refine Within.step ?_ (setSync_within ..) rfl
      with_reducible assumption
    · with_reducible assumption

def Parts.forwarded : List Part := [0x2009, Part.fresh, 0x2010, 0x3020, 0x3810, Part.host, 0x6048, Part.xp, 0x2008, Part.cm, Part.au, Part.ev, Part.clk, 0x7820, 0x7808, Part.sys, 0x7810, Part.tw, 0x2020, 0x1028, Part.save]
theorem forwarded_within (s : State) (k : MemberKind) (e : Nat) (w0 : W) (w1 : W) (ctx : Nat) : Within Parts.forwarded s (State.forwarded s k e w0 w1 ctx) := by
  have h0 : Within Parts.forwarded s s := .refl
  unfold State.forwarded
  split
  · split
    · refine Within.step ?_ (cancelWork_within ..) rfl
      with_reducible assumption
    · refine Within.step ?_ (takeCommit_within ..) rfl
      with_reducible assumption
  · split
    · refine Within.step ?_ (auDstAccept_within ..) rfl
      with_reducible assumption
    · split
      · refine Within.step ?_ (cancelWork_within ..) rfl
        with_reducible assumption
      · refine Within.step ?_ (audioCommit_within ..) rfl
        with_reducible assumption
  · split
    · refine Within.step ?_ (cancelWork_within ..) rfl
      with_reducible assumption
    · refine Within.step ?_ (headCommit_within ..) rfl
      with_reducible assumption
  · split
    · refine Within.step ?_ (salvoDiscard_within ..) rfl
      with_reducible assumption
    · refine Within.step ?_ (salvoArm_within ..) rfl
      with_reducible assumption

def Parts.orderPast : List Part := [Part.xp]
theorem orderPast_within (s : State) (n : Nat) : Within Parts.orderPast s (State.orderPast s n) := by
  have h0 : Within Parts.orderPast s s := .refl
  unfold State.orderPast
  refine Within.step ?_ (set_xp_within ..) rfl
  with_reducible assumption

def Parts.mirrorSalvo : List Part := [0x2010, 0x3020, 0x3810, 0x2020, Part.fresh, Part.host, 0x6048, Part.xp, 0x2008, Part.cm, Part.au, Part.ev, Part.clk, 0x7820, 0x7808, Part.sys, 0x7810]
theorem mirrorSalvo_within (s : State) (x : Work) : Within Parts.mirrorSalvo s (State.mirrorSalvo s x) := by
  have h0 : Within Parts.mirrorSalvo s s := .refl
  unfold State.mirrorSalvo
  extract_lets +onlyGivenNames -merge a0
  extract_lets +onlyGivenNames -merge a1
  have h2 : Within Parts.mirrorSalvo s a1 := by
    unfold a1
    refine Within.step ?_ (storeCommit_within ..) rfl
    with_reducible assumption
  clear_value a1
  split
  · refine Within.step ?_ (endSalvo_within ..) rfl
    refine Within.foldl ?_ ?_
    · with_reducible assumption
    · intro x3 x4 x5
      refine Within.step ?_ (fail_within ..) rfl
      with_reducible assumption
  · split
    · refine Within.step ?_ (endSalvo_within ..) rfl
      with_reducible assumption
    · refine Within.step ?_ (notify_within ..) rfl
      refine Within.step ?_ (setFld_within ..) rfl
      refine Within.step ?_ (setSalvo_within ..) rfl
      with_reducible assumption

def Parts.mirrorImages : List Part := [Part.cm, 0x3810]
theorem mirrorImages_within (s : State) (x : Work) : Within Parts.mirrorImages s (State.mirrorImages s x) := by
  have h0 : Within Parts.mirrorImages s s := .refl
  unfold State.mirrorImages
  split
  · extract_lets +onlyGivenNames -merge a0
    clear_value a0
    refine Within.step ?_ (setFld_within ..) rfl
    refine Within.step ?_ (set_cm_within ..) rfl
    with_reducible assumption
  · with_reducible assumption

def Parts.mirrorWork : List Part := [Part.xp, 0x2010, 0x3020, 0x3810, 0x2020, Part.fresh, Part.host, 0x6048, 0x2008, Part.cm, Part.au, Part.ev, Part.clk, 0x7820, 0x7808, Part.sys, 0x7810]
theorem mirrorWork_within (s : State) (x : Work) : Within Parts.mirrorWork s (State.mirrorWork s x) := by
  have h0 : Within Parts.mirrorWork s s := .refl
  unfold State.mirrorWork
  extract_lets +onlyGivenNames -merge a0
  have h1 : Within Parts.mirrorWork s a0 := by
    unfold a0
    refine Within.step ?_ (orderPast_within ..) rfl
    with_reducible assumption
  clear_value a0
  split
  · refine Within.step ?_ (mirrorSalvo_within ..) rfl
    with_reducible assumption
  · extract_lets +onlyGivenNames -merge a2
    clear_value a2
    extract_lets +onlyGivenNames -merge a3
    have h4 : Within Parts.mirrorWork s a3 := by
      unfold a3
      refine Within.step ?_ (storeCommit_within ..) rfl
      refine Within.step ?_ (mirrorImages_within ..) rfl
      with_reducible assumption
    clear_value a3
    split
    · extract_lets +onlyGivenNames -merge a5
      have h6 : Within Parts.mirrorWork s a5 := by
        unfold a5
        refine Within.step ?_ (finish_within ..) rfl
        with_reducible assumption
      clear_value a5
      split
      · refine Within.step ?_ (memberEnded_within ..) rfl
        with_reducible assumption
      · with_reducible assumption
    · split
      · split
        · with_reducible assumption
        · refine Within.step ?_ (acceptStaged_within ..) rfl
          with_reducible assumption
      · split
        · refine Within.step ?_ (setOutcome_within ..) rfl
          refine Within.step ?_ (putWork_within ..) rfl
          with_reducible assumption
        · extract_lets +onlyGivenNames -merge a7
          clear_value a7
          extract_lets +onlyGivenNames -merge a8
          have h9 : Within Parts.mirrorWork s a8 := by
            unfold a8
            split
            · split
              · refine Within.step ?_ (supersede_within ..) rfl
                with_reducible assumption
              · with_reducible assumption
            · with_reducible assumption
          clear_value a8
          refine Within.step ?_ (setOutcome_within ..) rfl
          refine Within.step ?_ (putWork_within ..) rfl
          with_reducible assumption

def Parts.mirrorCancel : List Part := [0x2020, Part.fresh, 0x2010, 0x3020, 0x3810, Part.host, 0x6048, Part.xp, 0x2008, Part.cm, Part.au, Part.ev, Part.clk, 0x7820, 0x7808, Part.sys, 0x7810]
theorem mirrorCancel_within (s : State) (k : MemberKind) (e : Nat) : Within Parts.mirrorCancel s (State.mirrorCancel s k e) := by
  have h0 : Within Parts.mirrorCancel s s := .refl
  unfold State.mirrorCancel
  split
  · refine Within.step ?_ (fail_within ..) rfl
    split
    · refine Within.step ?_ (unstage_within ..) rfl
      with_reducible assumption
    · with_reducible assumption
  · with_reducible assumption

def Parts.tell : List Part := [Part.cm]
theorem tell_within (s : State) (e : Nat) (fb : Bool) : Within Parts.tell s (State.tell s e fb) := by
  have h0 : Within Parts.tell s s := .refl
  unfold State.tell
  refine Within.step ?_ (set_cm_within ..) rfl
  with_reducible assumption

def Parts.takeHeadWords : List Part := [Part.shadow, 0x1028, Part.save]
theorem takeHeadWords_within (s : State) (h : Nat) (w1 : W) (l : List (Nat × List W)) : Within Parts.takeHeadWords s (State.takeHeadWords s h w1 l) := by
  have h0 : Within Parts.takeHeadWords s s := .refl
  unfold State.takeHeadWords
  extract_lets +onlyGivenNames -merge a0
  have h1 : Within Parts.takeHeadWords s a0 := by
    unfold a0
    refine Within.step ?_ (putShadow_within ..) rfl
    with_reducible assumption
  clear_value a0
  refine Within.foldl ?_ ?_
  · with_reducible assumption
  · intro x2 x3 x4
    refine Within.foldl ?_ ?_
    · with_reducible assumption
    · intro x5 x6 x7
      refine Within.step ?_ (putShadow_within ..) rfl
      with_reducible assumption

def Parts.heardReport : List Part := [0x5830, Part.tw, Part.host, 0x6048]
theorem heardReport_within (s : State) (ws : List W) : Within Parts.heardReport s (State.heardReport s ws) := by
  have h0 : Within Parts.heardReport s s := .refl
  unfold State.heardReport
  extract_lets +onlyGivenNames -merge a0
  have h1 : Within Parts.heardReport s a0 := by
    unfold a0
    refine Within.foldl ?_ ?_
    · with_reducible assumption
    · intro x2 x3 x4
      refine Within.step ?_ (setWord_within ..) rfl
      with_reducible assumption
  clear_value a0
  refine Within.step ?_ (notify_within ..) rfl
  refine Within.step ?_ (set_tw_within ..) rfl
  with_reducible assumption

def Parts.carryOut : List Part := [0x2009, Part.fresh, 0x2010, 0x3020, 0x3810, Part.host, 0x6048, Part.xp, 0x2008, Part.cm, Part.au, Part.ev, Part.clk, 0x7820, 0x7808, Part.sys, 0x7810, Part.tw, 0x2020, 0x1028, Part.save, Part.al, 0x2864, 0x3028, 0x3060, Part.ap, Part.shadow, 0x5830, 0x6040, Part.mx, 0x4860]
theorem carryOut_within (s : State) (b : DecBody) : Within Parts.carryOut s (State.carryOut s b) := by
  have h0 : Within Parts.carryOut s s := .refl
  unfold State.carryOut
  split
  · refine Within.step ?_ (forwarded_within ..) rfl
    with_reducible assumption
  · refine Within.step ?_ (mirrorWork_within ..) rfl
    with_reducible assumption
  · refine Within.step ?_ (mirrorCancel_within ..) rfl
    with_reducible assumption
  · refine Within.step ?_ (failSalvo_within ..) rfl
    with_reducible assumption
  · split
    · with_reducible assumption
    · refine Within.step ?_ (fsyncDecided_within ..) rfl
      with_reducible assumption
  · split
    · with_reducible assumption
    · refine Within.step ?_ (slipNow_within ..) rfl
      with_reducible assumption
  · extract_lets +onlyGivenNames -merge a0
    have h1 : Within Parts.carryOut s a0 := by
      unfold a0
      refine Within.step ?_ (releaseAudio_within ..) rfl
      with_reducible assumption
    clear_value a0
    split
    · with_reducible assumption
    · extract_lets +onlyGivenNames -merge a2
      have h3 : Within Parts.carryOut s a2 := by
        unfold a2
        refine Within.foldl ?_ ?_
        · with_reducible assumption
        · intro x4 x5 x6
          refine Within.step ?_ (takeElement_within ..) rfl
          with_reducible assumption
      clear_value a2
      refine Within.step ?_ (set_au_within ..) rfl
      with_reducible assumption
  · refine Within.step ?_ (gainAccept_within ..) rfl
    with_reducible assumption
  · refine Within.step ?_ (auDstAccept_within ..) rfl
    with_reducible assumption
  · split
    · refine Within.step ?_ (setPhase_within ..) rfl
      refine Within.step ?_ (asrcMirror_within ..) rfl
      with_reducible assumption
    · with_reducible assumption
  · split
    · refine Within.step ?_ (asrcUnlocked_within ..) rfl
      with_reducible assumption
    · with_reducible assumption
  · refine Within.step ?_ (tell_within ..) rfl
    with_reducible assumption
  · refine Within.step ?_ (tell_within ..) rfl
    with_reducible assumption
  · refine Within.step ?_ (takeHeadWords_within ..) rfl
    with_reducible assumption
  · refine Within.step ?_ (releaseAll_within ..) rfl
    refine Within.step ?_ (set_cm_within ..) rfl
    with_reducible assumption
  · refine Within.step ?_ (set_tw_within ..) rfl
    with_reducible assumption
  · refine Within.step ?_ (set_tw_within ..) rfl
    with_reducible assumption
  · refine Within.step ?_ (heardReport_within ..) rfl
    with_reducible assumption
  · refine Within.step ?_ (fwdAnswer_within ..) rfl
    with_reducible assumption
  · refine Within.step ?_ (answerAck_within ..) rfl
    refine Within.step ?_ (set_tw_within ..) rfl
    with_reducible assumption

def Parts.compareDigests : List Part := [Part.tw, 0x5818, 0x6048, Part.host, Part.ev, Part.clk, 0x7820, 0x7808, Part.sys, 0x7810]
theorem compareDigests_within (s : State) (d : Option Bool) : Within Parts.compareDigests s (s.compareDigests d) := by
  have h0 : Within Parts.compareDigests s s := .refl
  unfold State.compareDigests
  extract_lets +onlyGivenNames -merge on
  clear_value on
  cases d with
  | none => exact h0
  | some differ =>
    dsimp -zeta only
    split
    · exact h0
    · split
      · extract_lets +onlyGivenNames -merge tw0 a
        have ha : Within Parts.compareDigests s a := (h0.step (set_tw_within ..) rfl).step (bump_within ..) rfl
        split
        · exact ha.step (setSync_within ..) rfl
        · exact ha
      · have ha : Within Parts.compareDigests s { s with tw := { s.tw with equal := s.tw.equal + 1, differ := 0 } } :=
          h0.step (set_tw_within ..) rfl
        dsimp only
        split
        · exact ha.step (setSync_within ..) rfl
        · exact ha


def Parts.pairCrc : List Part := [0x5820, 0x2858, Part.lk]
theorem pairCrc_within (s : State) (e : Nat) (k : Nat) (n : Nat) (twin : Nat) : Within Parts.pairCrc s (State.pairCrc s e k n twin) := by
  have h0 : Within Parts.pairCrc s s := .refl
  unfold State.pairCrc
  extract_lets +onlyGivenNames -merge a0
  have h1 : Within Parts.pairCrc s a0 := by
    unfold a0
    refine Within.step ?_ (bump_within ..) (by split <;> rfl)
    with_reducible assumption
  clear_value a0
  extract_lets +onlyGivenNames -merge a2
  have h3 : Within Parts.pairCrc s a2 := by
    unfold a2
    refine Within.step ?_ (bump_within ..) rfl
    with_reducible assumption
  clear_value a2
  extract_lets +onlyGivenNames -merge a4
  refine Within.step ?_ (set_lk_within ..) rfl
  with_reducible assumption

def Parts.countSlots : List Part := [0x5820, 0x2858, Part.lk, 0x5828]
theorem countSlots_within (s : State) (e sel ka kb : Nat) (l : List (Resolved × Nat)) :
    Within Parts.countSlots s (s.countSlots e sel ka kb l) := by
  have h0 : Within Parts.countSlots s s := .refl
  have hf : ∀ (t : State) (i n : Nat), Within Parts.countSlots s t →
      Within Parts.countSlots s (t.bump (if i = 1 then F.TW_PAIR_STAT_CHKA else F.TW_PAIR_STAT_CHKB) e n) := by
    intro t i n ht
    split
    · exact ht.step (bump_within ..) rfl
    · exact ht.step (bump_within ..) rfl
  unfold State.countSlots
  extract_lets +onlyGivenNames -merge n oth k chk a
  have ha : Within Parts.countSlots s a := hf _ oth _ (hf _ sel _ h0)
  clear_value a
  extract_lets +onlyGivenNames -merge b
  have hb : Within Parts.countSlots s b := by
    unfold b
    split
    · exact ha
    · exact ha.step (pairCrc_within ..) rfl
  clear_value b
  extract_lets +onlyGivenNames -merge c
  have hc : Within Parts.countSlots s c := by
    unfold c
    split
    · exact hb
    · exact hb.step (pairCrc_within ..) rfl
  clear_value c
  extract_lets +onlyGivenNames -merge d
  have hd : Within Parts.countSlots s d := hc.step (bump_within ..) rfl
  clear_value d
  exact hd.foldl fun t x ht => ht.step (bump_within ..) rfl


def Parts.decideTwin : List Part := [0x5818, 0x6048, Part.host]
theorem decideTwin_within (s : State) : Within Parts.decideTwin s (State.decideTwin s) := by
  have h0 : Within Parts.decideTwin s s := .refl
  unfold State.decideTwin
  extract_lets +onlyGivenNames -merge a0
  extract_lets +onlyGivenNames -merge a1
  extract_lets +onlyGivenNames -merge a2
  clear_value a2
  extract_lets +onlyGivenNames -merge a3
  extract_lets +onlyGivenNames -merge a4
  extract_lets +onlyGivenNames -merge a5
  have h6 : Within Parts.decideTwin s a5 := by
    unfold a5
    refine Within.step ?_ (setFld_within ..) rfl
    with_reducible assumption
  clear_value a5
  extract_lets +onlyGivenNames -merge a7
  have h8 : Within Parts.decideTwin s a7 := by
    unfold a7
    refine Within.step ?_ (setFld_within ..) rfl
    refine Within.step ?_ (setFld_within ..) rfl
    with_reducible assumption
  clear_value a7
  refine Within.step ?_ (setNotify_within ..) rfl
  with_reducible assumption

def Parts.flattenLive : List Part := [Part.shadow, Part.cm, 0x3810]
theorem flattenLive_within (s : State) (h : Nat) : Within Parts.flattenLive s (State.flattenLive s h) := by
  have h0 : Within Parts.flattenLive s s := .refl
  unfold State.flattenLive
  extract_lets +onlyGivenNames -merge a0
  clear_value a0
  extract_lets +onlyGivenNames -merge a1
  clear_value a1
  extract_lets +onlyGivenNames -merge a2
  clear_value a2
  extract_lets +onlyGivenNames -merge a3
  have h4 : Within Parts.flattenLive s a3 := by
    unfold a3
    refine Within.step ?_ (set_cm_within ..) rfl
    with_reducible assumption
  clear_value a3
  split
  · with_reducible assumption
  · refine Within.step ?_ (setFld_within ..) rfl
    with_reducible assumption

def Parts.followLink : List Part := [Part.tw, 0x5818, 0x6048, Part.host, Part.ev, Part.clk, 0x7820, 0x7808, Part.sys, 0x7810]
theorem followLink_within (s : State) (up : Bool) (twin : Nat) : Within Parts.followLink s (State.followLink s up twin) := by
  have h0 : Within Parts.followLink s s := .refl
  unfold State.followLink
  extract_lets +onlyGivenNames -merge a0
  split
  · refine Within.step ?_ (setSync_within ..) rfl
    with_reducible assumption
  · split
    · refine Within.step ?_ (setSync_within ..) rfl
      with_reducible assumption
    · split
      · split
        · refine Within.step ?_ (setSync_within ..) rfl
          with_reducible assumption
        · split
          · refine Within.step ?_ (setSync_within ..) rfl
            with_reducible assumption
          · with_reducible assumption
      · split
        · refine Within.step ?_ (setSync_within ..) rfl
          refine Within.step ?_ (set_tw_within ..) rfl
          with_reducible assumption
        · with_reducible assumption

def Parts.healthReport : List Part := [Part.clk, 0x5830, Part.tw, Part.host, 0x6048]
theorem healthReport_within (s : State) : Within Parts.healthReport s (State.healthReport s) := by
  have h0 : Within Parts.healthReport s s := .refl
  unfold State.healthReport
  split
  · extract_lets +onlyGivenNames -merge a0
    have h1 : Within Parts.healthReport s a0 := by
      unfold a0
      refine Within.step ?_ (waitHouse_within ..) rfl
      with_reducible assumption
    clear_value a0
    extract_lets +onlyGivenNames -merge a2
    have h3 : Within Parts.healthReport s a2 := by
      unfold a2
      refine Within.foldl ?_ ?_
      · with_reducible assumption
      · intro x4 x5 x6
        refine Within.step ?_ (setWord_within ..) rfl
        with_reducible assumption
    clear_value a2
    extract_lets +onlyGivenNames -merge a7
    clear_value a7
    extract_lets +onlyGivenNames -merge a8
    have h9 : Within Parts.healthReport s a8 := by
      unfold a8
      refine Within.step ?_ (set_tw_within ..) rfl
      with_reducible assumption
    clear_value a8
    refine Within.step ?_ (notify_within ..) rfl
    with_reducible assumption
  · with_reducible assumption

def Parts.noteDual : List Part := [Part.tw, Part.ev, Part.host, Part.clk, 0x7820, 0x6048, 0x7808, Part.sys, 0x7810]
theorem noteDual_within (s : State) : Within Parts.noteDual s (State.noteDual s) := by
  have h0 : Within Parts.noteDual s s := .refl
  unfold State.noteDual
  extract_lets +onlyGivenNames -merge a0
  extract_lets +onlyGivenNames -merge a1
  extract_lets +onlyGivenNames -merge a2
  clear_value a2
  split
  · with_reducible assumption
  · extract_lets +onlyGivenNames -merge a3
    clear_value a3
    extract_lets +onlyGivenNames -merge a4
    have h5 : Within Parts.noteDual s a4 := by
      unfold a4
      refine Within.step ?_ (set_tw_within ..) rfl
      with_reducible assumption
    clear_value a4
    split
    · refine Within.step ?_ (note_within ..) rfl
      with_reducible assumption
    · with_reducible assumption

def Parts.restartStream : List Part := [Part.lk, 0x2858]
theorem restartStream_within (s : State) (k : Nat) (p : Nat) : Within Parts.restartStream s (State.restartStream s k p) := by
  have h0 : Within Parts.restartStream s s := .refl
  unfold State.restartStream
  refine Within.step ?_ (bump_within ..) rfl
  refine Within.step ?_ (setRxStream_within ..) rfl
  with_reducible assumption

def Parts.setPairRun : List Part := [Part.tw]
theorem setPairRun_within (s : State) (x : PairRun) : Within Parts.setPairRun s (State.setPairRun s x) := by
  have h0 : Within Parts.setPairRun s s := .refl
  unfold State.setPairRun
  refine Within.step ?_ (set_tw_within ..) rfl
  with_reducible assumption

def Parts.pairRelease : List Part := [Part.clk, Part.all, 0x5820, Part.lk, 0x2858, 0x5828, Part.tw, 0x6048, Part.host, 0x5818]
theorem pairRelease_within (s : State) (e : Nat) (a : Option PairCopy) (b : Option PairCopy) (slots : List PairSlot) : Within Parts.pairRelease s (State.pairRelease s e a b slots) := by
  have h0 : Within Parts.pairRelease s s := .refl
  unfold State.pairRelease
  split
  · with_reducible assumption
  · extract_lets +onlyGivenNames -merge a0
    clear_value a0
    extract_lets +onlyGivenNames -merge a1
    clear_value a1
    extract_lets +onlyGivenNames -merge a2
    clear_value a2
    extract_lets +onlyGivenNames -merge a3
    clear_value a3
    extract_lets +onlyGivenNames -merge a4
    clear_value a4
    extract_lets +onlyGivenNames -merge a5
    clear_value a5
    extract_lets +onlyGivenNames -merge a6
    extract_lets +onlyGivenNames -merge a7
    clear_value a7
    extract_lets +onlyGivenNames -merge a8
    clear_value a8
    extract_lets +onlyGivenNames -merge a9
    clear_value a9
    extract_lets +onlyGivenNames -merge a10
    clear_value a10
    extract_lets +onlyGivenNames -merge a11
    have h12 : Within Parts.pairRelease s a11 := by
      unfold a11
      refine Within.step ?_ (waitHouse_within ..) rfl
      with_reducible assumption
    clear_value a11
    extract_lets +onlyGivenNames -merge a13
    clear_value a13
    extract_lets +onlyGivenNames -merge a14
    clear_value a14
    extract_lets +onlyGivenNames -merge a15
    have h16 : ∀ y0 y1 y2, (Within Parts.pairRelease s y2) → Within Parts.pairRelease s (a15 y0 y1 y2) := by
      intro x17 x18 x19 hx20
      unfold a15
      split
      · split
        · refine Within.step ?_ (setFld_within ..) (sub_all rfl)
          with_reducible assumption
        · with_reducible assumption
      · with_reducible assumption
    clear_value a15
    extract_lets +onlyGivenNames -merge a21
    have h22 : Within Parts.pairRelease s a21 := by
      unfold a21
      apply h16
      apply h16
      with_reducible assumption
    clear_value a21
    extract_lets +onlyGivenNames -merge a23
    have h24 : Within Parts.pairRelease s a23 := by
      unfold a23
      split
      · refine Within.step ?_ (setFld_within ..) rfl
        with_reducible assumption
      · with_reducible assumption
    clear_value a23
    extract_lets +onlyGivenNames -merge a25
    have h26 : Within Parts.pairRelease s a25 := by
      unfold a25
      split
      · refine Within.step ?_ (bump_within ..) rfl
        with_reducible assumption
      · refine Within.step ?_ (setFld_within ..) rfl
        with_reducible assumption
    clear_value a25
    extract_lets +onlyGivenNames -merge a27
    clear_value a27
    extract_lets +onlyGivenNames -merge a28
    clear_value a28
    extract_lets +onlyGivenNames -merge a29
    clear_value a29
    extract_lets +onlyGivenNames -merge a30
    clear_value a30
    extract_lets +onlyGivenNames -merge a31
    clear_value a31
    extract_lets +onlyGivenNames -merge a32
    have h33 : Within Parts.pairRelease s a32 := by
      unfold a32
      split
      · refine Within.step ?_ (bump_within ..) rfl
        with_reducible assumption
      · with_reducible assumption
    clear_value a32
    extract_lets +onlyGivenNames -merge a34
    have h35 : Within Parts.pairRelease s a34 := by
      unfold a34
      split
      · with_reducible assumption
      · refine Within.step ?_ (bump_within ..) rfl
        with_reducible assumption
    clear_value a34
    extract_lets +onlyGivenNames -merge a36
    have h37 : Within Parts.pairRelease s a36 := by
      unfold a36
      refine Within.foldl ?_ ?_
      · with_reducible assumption
      · intro x38 x39 x40
        refine Within.step ?_ (restartStream_within ..) rfl
        with_reducible assumption
    clear_value a36
    extract_lets +onlyGivenNames -merge a41
    have h42 : Within Parts.pairRelease s a41 := by
      unfold a41
      split
      · with_reducible assumption
      · refine Within.step ?_ (countSlots_within ..) rfl
        with_reducible assumption
    clear_value a41
    extract_lets +onlyGivenNames -merge a43
    clear_value a43
    extract_lets +onlyGivenNames -merge a44
    clear_value a44
    extract_lets +onlyGivenNames -merge a45
    have h46 : Within Parts.pairRelease s a45 := by
      unfold a45
      refine Within.step ?_ (setPairRun_within ..) rfl
      with_reducible assumption
    clear_value a45
    extract_lets +onlyGivenNames -merge a47
    have h48 : Within Parts.pairRelease s a47 := by
      unfold a47
      refine Within.step ?_ (setNotify_within ..) rfl
      with_reducible assumption
    clear_value a47
    refine Within.step ?_ (refreshClaim_within ..) rfl
    refine Within.step ?_ (setNotify_within ..) rfl
    with_reducible assumption

def Parts.refill : List Part := [Part.ic, 0x6820, 0x6048, Part.host, Part.al, 0x2864, Part.au, Part.shadow, Part.cm, 0x3810]
theorem refill_within (s : State) : Within Parts.refill s (State.refill s) := by
  have h0 : Within Parts.refill s s := .refl
  unfold State.refill
  extract_lets +onlyGivenNames -merge a0
  have h1 : Within Parts.refill s a0 := by
    unfold a0
    split
    · refine Within.step ?_ (setPlacement_within ..) rfl
      with_reducible assumption
    · with_reducible assumption
  clear_value a0
  extract_lets +onlyGivenNames -merge a2
  have h3 : Within Parts.refill s a2 := by
    unfold a2
    refine Within.foldl ?_ ?_
    · with_reducible assumption
    · intro x4 x5 x6
      refine Within.step ?_ (alignPort_within ..) rfl
      with_reducible assumption
  clear_value a2
  split
  · refine Within.foldl ?_ ?_
    · with_reducible assumption
    · intro x7 x8 x9
      refine Within.step ?_ (flattenLive_within ..) rfl
      with_reducible assumption
  · with_reducible assumption

def Parts.reportTimeout : List Part := [Part.clk, Part.tw, Part.ev, Part.host, 0x7820, 0x6048, 0x7808, Part.sys, 0x7810]
theorem reportTimeout_within (s : State) : Within Parts.reportTimeout s (State.reportTimeout s) := by
  have h0 : Within Parts.reportTimeout s s := .refl
  unfold State.reportTimeout
  split
  · with_reducible assumption
  · split
    · with_reducible assumption
    · extract_lets +onlyGivenNames -merge a0
      have h1 : Within Parts.reportTimeout s a0 := by
        unfold a0
        refine Within.step ?_ (waitUntil_within ..) rfl
        with_reducible assumption
      clear_value a0
      refine Within.step ?_ (note_within ..) rfl
      refine Within.step ?_ (set_tw_within ..) rfl
      with_reducible assumption

def Parts.restartPair : List Part := [Part.tw, 0x5820, 0x6048, Part.host]
theorem restartPair_within (s : State) (e : Nat) : Within Parts.restartPair s (State.restartPair s e) := by
  have h0 : Within Parts.restartPair s s := .refl
  unfold State.restartPair
  extract_lets +onlyGivenNames -merge a0
  clear_value a0
  extract_lets +onlyGivenNames -merge a1
  have h2 : Within Parts.restartPair s a1 := by
    unfold a1
    refine Within.step ?_ (set_tw_within ..) rfl
    with_reducible assumption
  clear_value a1
  refine Within.step ?_ (setNotify_within ..) rfl
  refine Within.step ?_ (setNotify_within ..) rfl
  with_reducible assumption

def Parts.selftestEngine : List Part := [Part.tw, Part.ev, Part.host, Part.clk, 0x7820, 0x6048, 0x7808, Part.sys, 0x7810, 0x6820, Part.ic, 0x681c, Part.fresh, 0x6818, 0x1028, Part.save, Part.lk, 0x2858, Part.au, 0x1000]
theorem selftestEngine_within (s : State) (fails : List Nat) : Within Parts.selftestEngine s (State.selftestEngine s fails) := by
  have h0 : Within Parts.selftestEngine s s := .refl
  unfold State.selftestEngine
  split
  · refine Within.foldl ?_ ?_
    · with_reducible assumption
    · intro x0 x1 x2
      split
      · refine Within.step ?_ (engineFail_within ..) rfl
        refine Within.step ?_ (selfTestFailed_within ..) rfl
        with_reducible assumption
      · with_reducible assumption
  · with_reducible assumption

def Parts.trimSheet : List Part := [0x4008]
theorem trimSheet_within (s : State) (off : Option Int) : Within Parts.trimSheet s (State.trimSheet s off) := by
  have h0 : Within Parts.trimSheet s s := .refl
  unfold State.trimSheet
  split
  · with_reducible assumption
  · split
    · extract_lets +onlyGivenNames -merge a0
      clear_value a0
      split
      · with_reducible assumption
      · refine Within.step ?_ (setFld_within ..) rfl
        with_reducible assumption
    · with_reducible assumption

def Parts.testSlots : List Part := [Part.tw, Part.ev, Part.host, Part.clk, 0x7820, 0x6048, 0x7808, Part.sys, 0x7810]
theorem testSlots_within (s : State) (fails : List Nat) : Within Parts.testSlots s (State.testSlots s fails) := by
  have h0 : Within Parts.testSlots s s := .refl
  unfold State.testSlots
  split
  · extract_lets +onlyGivenNames -merge a0
    clear_value a0
    extract_lets +onlyGivenNames -merge a1
    have h2 : Within Parts.testSlots s a1 := by
      unfold a1
      refine Within.step ?_ (set_tw_within ..) rfl
      with_reducible assumption
    clear_value a1
    refine Within.foldl ?_ ?_
    · with_reducible assumption
    · intro x3 x4 x5
      split
      · refine Within.step ?_ (selfTestFailed_within ..) rfl
        with_reducible assumption
      · with_reducible assumption
  · with_reducible assumption

def Parts.twinSheet : List Part := [0x5818, Part.tw, 0x6048, Part.host, Part.ev, Part.clk, 0x7820, 0x7808, Part.sys, 0x7810, 0x4008]
theorem twinSheet_within (s : State) (x : SheetIn) : Within Parts.twinSheet s (State.twinSheet s x) := by
  have h0 : Within Parts.twinSheet s s := .refl
  unfold State.twinSheet
  split
  · with_reducible assumption
  · extract_lets +onlyGivenNames -merge a0
    clear_value a0
    extract_lets +onlyGivenNames -merge a1
    extract_lets +onlyGivenNames -merge a2
    have h3 : Within Parts.twinSheet s a2 := by
      unfold a2
      refine Within.step ?_ (setFld_within ..) rfl
      refine Within.step ?_ (setFld_within ..) rfl
      with_reducible assumption
    clear_value a2
    extract_lets +onlyGivenNames -merge a4
    have h5 : Within Parts.twinSheet s a4 := by
      unfold a4
      refine Within.step ?_ (decideTwin_within ..) rfl
      refine Within.step ?_ (followLink_within ..) rfl
      with_reducible assumption
    clear_value a4
    extract_lets +onlyGivenNames -merge a6
    have h7 : Within Parts.twinSheet s a6 := by
      unfold a6
      split
      · refine Within.step ?_ (noteDual_within ..) rfl
        refine Within.step ?_ (trimSheet_within ..) rfl
        refine Within.step ?_ (compareDigests_within ..) rfl
        with_reducible assumption
      · with_reducible assumption
    clear_value a6
    refine Within.step ?_ (testSlots_within ..) rfl
    with_reducible assumption

def Parts.sheetStart : List Part := [Part.clk, Part.lk, 0x4038, Part.host, 0x6048, 0x4030, Part.cm, 0x3820, 0x5818, Part.tw, Part.ev, 0x7820, 0x7808, Part.sys, 0x7810, 0x4008, Part.ic, 0x6820, 0x1028, Part.save]
theorem sheetStart_within (s : State) (x : SheetIn) : Within Parts.sheetStart s (State.sheetStart s x) := by
  have h0 : Within Parts.sheetStart s s := .refl
  unfold State.sheetStart
  extract_lets +onlyGivenNames -merge a0
  extract_lets +onlyGivenNames -merge a1
  extract_lets +onlyGivenNames -merge a2
  have h3 : Within Parts.sheetStart s a2 := by
    unfold a2
    refine Within.step ?_ (waitHouse_within ..) rfl
    with_reducible assumption
  clear_value a2
  extract_lets +onlyGivenNames -merge a4
  clear_value a4
  extract_lets +onlyGivenNames -merge a5
  have h6 : Within Parts.sheetStart s a5 := by
    unfold a5
    refine Within.step ?_ (set_lk_within ..) rfl
    with_reducible assumption
  clear_value a5
  refine Within.step ?_ (endMoves_within ..) rfl
  refine Within.step ?_ (refreshClaim_within ..) rfl
  refine Within.step ?_ (twinSheet_within ..) rfl
  refine Within.step ?_ (lateTiles_within ..) rfl
  refine Within.step ?_ (checkPatterns_within ..) rfl
  refine Within.step ?_ (spareSheet_within ..) rfl
  with_reducible assumption

def Parts.snapshotInstall : List Part := [Part.tw, 0x5818, 0x6048, Part.host, Part.ev, Part.clk, 0x7820, 0x7808, Part.sys, 0x7810, Part.all, 0x1028, Part.save, Part.shadow, Part.xp, Part.ic, 0x6820, Part.al, 0x2864, Part.au, Part.cm, 0x3810]
theorem snapshotInstall_within (s : State) (x : Snapshot) : Within Parts.snapshotInstall s (State.snapshotInstall s x) := by
  have h0 : Within Parts.snapshotInstall s s := .refl
  unfold State.snapshotInstall
  split
  · with_reducible assumption
  · extract_lets +onlyGivenNames -merge a0
    clear_value a0
    extract_lets +onlyGivenNames -merge a1
    have h2 : Within Parts.snapshotInstall s a1 := by
      unfold a1
      refine Within.step ?_ (set_tw_within ..) rfl
      with_reducible assumption
    clear_value a1
    split
    · refine Within.step ?_ (setSync_within ..) rfl
      with_reducible assumption
    · extract_lets +onlyGivenNames -merge a3
      have h4 : Within Parts.snapshotInstall s a3 := by
        unfold a3
        refine Within.foldl ?_ ?_
        · with_reducible assumption
        · intro x5 x6 x7
          split
          · refine Within.step ?_ (putWord_within ..) (sub_all rfl)
            with_reducible assumption
          · with_reducible assumption
      clear_value a3
      extract_lets +onlyGivenNames -merge a8
      have h9 : Within Parts.snapshotInstall s a8 := by
        unfold a8
        refine Within.foldl ?_ ?_
        · with_reducible assumption
        · intro x10 x11 x12
          split
          · refine Within.step ?_ (putShadow_within ..) rfl
            with_reducible assumption
          · with_reducible assumption
      clear_value a8
      extract_lets +onlyGivenNames -merge a13
      clear_value a13
      extract_lets +onlyGivenNames -merge a14
      extract_lets +onlyGivenNames -merge a15
      clear_value a15
      extract_lets +onlyGivenNames -merge a16
      have h17 : Within Parts.snapshotInstall s a16 := by
        unfold a16
        refine Within.step ?_ (set_xp_within ..) rfl
        with_reducible assumption
      clear_value a16
      extract_lets +onlyGivenNames -merge a18
      clear_value a18
      extract_lets +onlyGivenNames -merge a19
      clear_value a19
      extract_lets +onlyGivenNames -merge a20
      have h21 : Within Parts.snapshotInstall s a20 := by
        unfold a20
        refine Within.trans (t := a16) ?_ ⟨⟨fun _ _ => rfl, fun _ => rfl, fun _ => rfl, fun _ => rfl, fun _ => rfl, fun _ => rfl, fun _ => rfl, fun _ => rfl, fun _ => rfl, fun _ => rfl, fun h => Bool.noConfusion h, fun _ => rfl, fun _ => rfl, fun _ => rfl, fun _ => rfl, fun _ => rfl, fun _ => rfl, fun h => Bool.noConfusion h, fun _ => rfl, fun _ => rfl, fun _ => rfl⟩, rfl, rfl, fun h => ⟨h.1, h.2⟩⟩
        with_reducible assumption
      clear_value a20
      refine Within.step ?_ (refill_within ..) rfl
      with_reducible assumption

def Parts.snapshotRequest : List Part := [Part.tw]
theorem snapshotRequest_within (s : State) (mine : Bool) : Within Parts.snapshotRequest s (State.snapshotRequest s mine) := by
  have h0 : Within Parts.snapshotRequest s s := .refl
  unfold State.snapshotRequest
  split
  · split
    · refine Within.step ?_ (set_tw_within ..) rfl
      with_reducible assumption
    · with_reducible assumption
  · split
    · refine Within.step ?_ (set_tw_within ..) rfl
      with_reducible assumption
    · with_reducible assumption

def Parts.storesFull : List Part := [Part.tw]
theorem storesFull_within (s : State) : Within Parts.storesFull s (State.storesFull s) := by
  have h0 : Within Parts.storesFull s s := .refl
  unfold State.storesFull
  split
  · refine Within.step ?_ (set_tw_within ..) rfl
    with_reducible assumption
  · with_reducible assumption

def Parts.twinDecision : List Part := [0x5830, Part.tw, Part.host, 0x6048, 0x2009, Part.fresh, 0x2010, 0x3020, 0x3810, Part.xp, 0x2008, Part.cm, Part.au, Part.ev, Part.clk, 0x7820, 0x7808, Part.sys, 0x7810, 0x2020, 0x1028, Part.save, Part.al, 0x2864, 0x3028, 0x3060, Part.ap, Part.shadow, 0x6040, Part.mx, 0x4860]
theorem twinDecision_within (s : State) (d : Decision) : Within Parts.twinDecision s (State.twinDecision s d) := by
  have h0 : Within Parts.twinDecision s s := .refl
  unfold State.twinDecision
  split
  · split
    · refine Within.step ?_ (heardReport_within ..) rfl
      with_reducible assumption
    · with_reducible assumption
  · split
    · split
      · refine Within.step ?_ (carryOut_within ..) rfl
        with_reducible assumption
      · with_reducible assumption
    · split
      · refine Within.step ?_ (carryOut_within ..) rfl
        with_reducible assumption
      · with_reducible assumption

def Parts.twinSilent : List Part := [Part.tw, 0x5818, 0x6048, Part.host, Part.ev, Part.clk, 0x7820, 0x7808, Part.sys, 0x7810]
theorem twinSilent_within (s : State) : Within Parts.twinSilent s (State.twinSilent s) := by
  have h0 : Within Parts.twinSilent s s := .refl
  unfold State.twinSilent
  split
  · with_reducible assumption
  · extract_lets +onlyGivenNames -merge a0
    clear_value a0
    extract_lets +onlyGivenNames -merge a1
    have h2 : Within Parts.twinSilent s a1 := by
      unfold a1
      refine Within.step ?_ (set_tw_within ..) rfl
      with_reducible assumption
    clear_value a1
    refine Within.step ?_ (decideTwin_within ..) rfl
    refine Within.step ?_ (setSync_within ..) rfl
    refine Within.step ?_ (setFld_within ..) rfl
    refine Within.step ?_ (setFld_within ..) rfl
    with_reducible assumption

def Parts.execDecisionAckTimeout : List Part := [Part.clk, Part.tw, 0x5818, 0x6048, Part.host, Part.ev, 0x7820, 0x7808, Part.sys, 0x7810, 0x6040, Part.mx, Part.fresh, 0x4860]
theorem execDecisionAckTimeout_within (seq : Nat) (s : State) : ExecWithin Parts.execDecisionAckTimeout s (execDecisionAckTimeout seq s) := by
  have h0 : Within Parts.execDecisionAckTimeout s s := .refl
  unfold execDecisionAckTimeout
  refine ⟨_, rfl, ?_⟩
  refine Within.step ?_ (ackTimeout_within ..) rfl
  with_reducible assumption

def Parts.execHealthReport : List Part := [Part.clk, 0x5830, Part.tw, Part.host, 0x6048]
theorem execHealthReport_within (s : State) : ExecWithin Parts.execHealthReport s (execHealthReport s) := by
  have h0 : Within Parts.execHealthReport s s := .refl
  unfold execHealthReport
  refine ⟨_, rfl, ?_⟩
  refine Within.step ?_ (healthReport_within ..) rfl
  with_reducible assumption

def Parts.execMirrorStoresFull : List Part := [Part.tw]
theorem execMirrorStoresFull_within (s : State) : ExecWithin Parts.execMirrorStoresFull s (execMirrorStoresFull s) := by
  have h0 : Within Parts.execMirrorStoresFull s s := .refl
  unfold execMirrorStoresFull
  refine ⟨_, rfl, ?_⟩
  refine Within.step ?_ (storesFull_within ..) rfl
  with_reducible assumption

def Parts.execPairSheetRelease : List Part := [Part.clk, Part.all, 0x5820, Part.lk, 0x2858, 0x5828, Part.tw, 0x6048, Part.host, 0x5818]
theorem execPairSheetRelease_within (e : Nat) (a : Option PairCopy) (b : Option PairCopy) (slots : List PairSlot) (s : State) : ExecWithin Parts.execPairSheetRelease s (execPairSheetRelease e a b slots s) := by
  have h0 : Within Parts.execPairSheetRelease s s := .refl
  unfold execPairSheetRelease
  refine ⟨_, rfl, ?_⟩
  refine Within.step ?_ (pairRelease_within ..) rfl
  with_reducible assumption

def Parts.execSelftestEngine : List Part := [Part.tw, Part.ev, Part.host, Part.clk, 0x7820, 0x6048, 0x7808, Part.sys, 0x7810, 0x6820, Part.ic, 0x681c, Part.fresh, 0x6818, 0x1028, Part.save, Part.lk, 0x2858, Part.au, 0x1000]
theorem execSelftestEngine_within (fails : List Nat) (s : State) : ExecWithin Parts.execSelftestEngine s (execSelftestEngine fails s) := by
  have h0 : Within Parts.execSelftestEngine s s := .refl
  unfold execSelftestEngine
  refine ⟨_, rfl, ?_⟩
  refine Within.step ?_ (selftestEngine_within ..) rfl
  with_reducible assumption

def Parts.execSheetStart : List Part := [Part.clk, Part.lk, 0x4038, Part.host, 0x6048, 0x4030, Part.cm, 0x3820, 0x5818, Part.tw, Part.ev, 0x7820, 0x7808, Part.sys, 0x7810, 0x4008, Part.ic, 0x6820, 0x1028, Part.save]
theorem execSheetStart_within (inp : SheetIn) (s : State) : ExecWithin Parts.execSheetStart s (execSheetStart inp s) := by
  have h0 : Within Parts.execSheetStart s s := .refl
  unfold execSheetStart
  refine ⟨_, rfl, ?_⟩
  refine Within.step ?_ (sheetStart_within ..) rfl
  with_reducible assumption

def Parts.execSnapshotReceived : List Part := [Part.tw, 0x5818, 0x6048, Part.host, Part.ev, Part.clk, 0x7820, 0x7808, Part.sys, 0x7810, Part.all, 0x1028, Part.save, Part.shadow, Part.xp, Part.ic, 0x6820, Part.al, 0x2864, Part.au, Part.cm, 0x3810]
theorem execSnapshotReceived_within (snap : Snapshot) (s : State) : ExecWithin Parts.execSnapshotReceived s (execSnapshotReceived snap s) := by
  have h0 : Within Parts.execSnapshotReceived s s := .refl
  unfold execSnapshotReceived
  refine ⟨_, rfl, ?_⟩
  refine Within.step ?_ (snapshotInstall_within ..) rfl
  with_reducible assumption

def Parts.execSnapshotRequest : List Part := [Part.tw]
theorem execSnapshotRequest_within (mine : Bool) (s : State) : ExecWithin Parts.execSnapshotRequest s (execSnapshotRequest mine s) := by
  have h0 : Within Parts.execSnapshotRequest s s := .refl
  unfold execSnapshotRequest
  refine ⟨_, rfl, ?_⟩
  refine Within.step ?_ (snapshotRequest_within ..) rfl
  with_reducible assumption

def Parts.putPair : List Part := [0x5810, 0x1028, Part.save, Part.tw, 0x5820, 0x6048, Part.host, 0x5818]
theorem putPair_within (e : Nat) (v : W) (s : State) : PutWithin Parts.putPair (putPair e v s) := by
  have h0 : Within Parts.putPair s s := .refl
  unfold putPair
  extract_lets +onlyGivenNames -merge a0
  clear_value a0
  refine ⟨rfl, fun s0 => ?_⟩
  dsimp -zeta only
  have h00 : Within Parts.putPair s0 s0 := .refl
  extract_lets +onlyGivenNames -merge a1
  clear_value a1
  split
  · with_reducible assumption
  · split
    · with_reducible assumption
    · extract_lets +onlyGivenNames -merge a2
      have h3 : Within Parts.putPair s0 a2 := by
        unfold a2
        refine Within.step ?_ (putWord_within ..) rfl
        with_reducible assumption
      clear_value a2
      dsimp -zeta only
      split
      · refine Within.step ?_ (refreshClaim_within ..) rfl
        refine Within.step ?_ (restartPair_within ..) rfl
        with_reducible assumption
      · with_reducible assumption

def Parts.execTwPairWrite : List Part := [0x5810, 0x1028, Part.save, Part.tw, 0x5820, 0x6048, Part.host, 0x5818, Part.shadow, 0x6040, 0x7808, 0x7810, 0x7820, Part.clk, Part.sys, Part.ev, Part.pw]
theorem execTwPairWrite_within (rq : Req) (e : Nat) (v : W) (s : State) : ExecWithin Parts.execTwPairWrite s (execTwPairWrite rq e v s) := by
  have h0 : Within Parts.execTwPairWrite s s := .refl
  unfold execTwPairWrite
  extract_lets +onlyGivenNames -merge a0
  have h1 : PutWithin Parts.execTwPairWrite a0 := by
    unfold a0
    exact PutWithin.step (putPair_within ..) rfl
  clear_value a0
  refine ⟨_, rfl, ?_⟩
  refine request_within rfl ?_ ?_
  · with_reducible assumption
  · with_reducible assumption

def Parts.execTwinDecisionReceived : List Part := [0x5830, Part.tw, Part.host, 0x6048, 0x2009, Part.fresh, 0x2010, 0x3020, 0x3810, Part.xp, 0x2008, Part.cm, Part.au, Part.ev, Part.clk, 0x7820, 0x7808, Part.sys, 0x7810, 0x2020, 0x1028, Part.save, Part.al, 0x2864, 0x3028, 0x3060, Part.ap, Part.shadow, 0x6040, Part.mx, 0x4860]
theorem execTwinDecisionReceived_within (d : Decision) (s : State) : ExecWithin Parts.execTwinDecisionReceived s (execTwinDecisionReceived d s) := by
  have h0 : Within Parts.execTwinDecisionReceived s s := .refl
  unfold execTwinDecisionReceived
  refine ⟨_, rfl, ?_⟩
  refine Within.step ?_ (twinDecision_within ..) rfl
  with_reducible assumption

def Parts.execTwinReportTimeout : List Part := [Part.clk, Part.tw, Part.ev, Part.host, 0x7820, 0x6048, 0x7808, Part.sys, 0x7810]
theorem execTwinReportTimeout_within (s : State) : ExecWithin Parts.execTwinReportTimeout s (execTwinReportTimeout s) := by
  have h0 : Within Parts.execTwinReportTimeout s s := .refl
  unfold execTwinReportTimeout
  refine ⟨_, rfl, ?_⟩
  refine Within.step ?_ (reportTimeout_within ..) rfl
  with_reducible assumption

def Parts.execTwinSilentSheets : List Part := [Part.tw, 0x5818, 0x6048, Part.host, Part.ev, Part.clk, 0x7820, 0x7808, Part.sys, 0x7810]
theorem execTwinSilentSheets_within (s : State) : ExecWithin Parts.execTwinSilentSheets s (execTwinSilentSheets s) := by
  have h0 : Within Parts.execTwinSilentSheets s s := .refl
  unfold execTwinSilentSheets
  refine ⟨_, rfl, ?_⟩
  refine Within.step ?_ (twinSilent_within ..) rfl
  with_reducible assumption

def Parts.putTwConfig : List Part := [0x5808, 0x1028, Part.save, Part.tw, 0x5818, 0x6048, Part.host, Part.ev, Part.clk, 0x7820, 0x7808, Part.sys, 0x7810]
theorem putTwConfig_within (v : W) : PutWithin Parts.putTwConfig (putTwConfig v) := by
  unfold putTwConfig
  refine ⟨rfl, fun s0 => ?_⟩
  dsimp -zeta only
  have h00 : Within Parts.putTwConfig s0 s0 := .refl
  refine configOnly_within rfl ?_ ?_
  · with_reducible assumption
  · intro x0 x1
    extract_lets +onlyGivenNames -merge a2
    have h3 : Within Parts.putTwConfig s0 a2 := by
      unfold a2
      refine Within.step ?_ (putWord_within ..) rfl
      with_reducible assumption
    clear_value a2
    dsimp -zeta only
    refine Within.step ?_ (setSync_within ..) rfl
    with_reducible assumption

end Sys2Proof.Machine
end

