-- ==== Sys2Proof/Laws/WithinFirmware.lean ====
section
/-! SUPPORT. What the operations of Machine/Firmware.lean may change: for each the parts of the state, and that it keeps to them. -/
namespace Sys2Proof.Machine

def Parts.setFw : List Part := [Part.fw, 0x8008, Part.host, 0x6048]
theorem setFw_within (s : State) (n : Nat) : Within Parts.setFw s (State.setFw s n) := by
  have h0 : Within Parts.setFw s s := .refl
  unfold State.setFw
  extract_lets +onlyGivenNames -merge a0
  extract_lets +onlyGivenNames -merge a1
  have h2 : Within Parts.setFw s a1 := by
    unfold a1
    split
    · refine Within.step ?_ (withFw_within ..) rfl
      with_reducible assumption
    · with_reducible assumption
  clear_value a1
  split
  · with_reducible assumption
  · refine Within.step ?_ (notify_within ..) rfl
    refine Within.step ?_ (setFld_within ..) rfl
    with_reducible assumption

def Parts.abandonFw : List Part := [0x8008, 0x1000, Part.ev, Part.host, Part.clk, 0x7820, 0x6048, 0x7808, Part.sys, 0x7810, Part.fw]
theorem abandonFw_within (s : State) (cause : Nat) : Within Parts.abandonFw s (State.abandonFw s cause) := by
  have h0 : Within Parts.abandonFw s s := .refl
  unfold State.abandonFw
  extract_lets +onlyGivenNames -merge a0
  extract_lets +onlyGivenNames -merge a1
  have h2 : Within Parts.abandonFw s a1 := by
    unfold a1
    refine Within.step ?_ (setFld_within ..) rfl
    with_reducible assumption
  clear_value a1
  extract_lets +onlyGivenNames -merge a3
  have h4 : Within Parts.abandonFw s a3 := by
    unfold a3
    refine Within.step ?_ (setFld_within ..) rfl
    with_reducible assumption
  clear_value a3
  extract_lets +onlyGivenNames -merge a5
  have h6 : Within Parts.abandonFw s a5 := by
    unfold a5
    refine Within.step ?_ (setFld_within ..) rfl
    with_reducible assumption
  clear_value a5
  extract_lets +onlyGivenNames -merge a7
  have h8 : Within Parts.abandonFw s a7 := by
    unfold a7
    split
    · refine Within.step ?_ (note_within ..) rfl
      with_reducible assumption
    · with_reducible assumption
  clear_value a7
  refine Within.step ?_ (setFw_within ..) rfl
  refine Within.step ?_ (withFw_within ..) rfl
  with_reducible assumption

def Parts.swapBanks : List Part := [0x6820, 0x681c, Part.ic, Part.fresh, Part.ev, Part.host, Part.clk, 0x7820, 0x6048, 0x7808, Part.sys, 0x7810, 0x6818]
theorem swapBanks_within (s : State) (new : List Image) : Within Parts.swapBanks s (State.swapBanks s new) := by
  have h0 : Within Parts.swapBanks s s := .refl
  unfold State.swapBanks
  refine Within.foldl ?_ ?_
  · refine Within.step ?_ (resetMasters_within ..) rfl
    with_reducible assumption
  · intro x0 x1 x2
    extract_lets +onlyGivenNames -merge a3
    have h4 : Within Parts.swapBanks s a3 := by
      unfold a3
      split
      · with_reducible assumption
      · refine Within.step ?_ (setFld_within ..) rfl
        with_reducible assumption
    clear_value a3
    refine Within.step ?_ (setFld_within ..) rfl
    with_reducible assumption

theorem setWide_within (s : State) (ix e w : Nat) (v : BitVec 512) : Within [ix] s (setWide s ix e w v) :=
  Within.foldl .refl fun _ _ ht => ht.trans (setWord_within ..)


def Parts.attest : List Part := [0x8038, Part.fw]
theorem attest_within (s : State) (typ : Nat) (svn : Nat) (half : Nat) (event : Nat) (version : Nat) (hash : BitVec 512) : Within Parts.attest s (State.attest s typ svn half event version hash) := by
  have h0 : Within Parts.attest s s := .refl
  unfold State.attest
  extract_lets +onlyGivenNames -merge a0
  clear_value a0
  extract_lets +onlyGivenNames -merge a1
  clear_value a1
  extract_lets +onlyGivenNames -merge a2
  extract_lets +onlyGivenNames -merge a3
  have h4 : Within Parts.attest s a3 := by
    unfold a3
    split
    · refine Within.step ?_ (setWide_within ..) rfl
      refine Within.step ?_ (setWord_within ..) rfl
      refine Within.step ?_ (setWord_within ..) rfl
      with_reducible assumption
    · with_reducible assumption
  clear_value a3
  extract_lets +onlyGivenNames -merge a5
  clear_value a5
  refine Within.step ?_ (withFw_within ..) rfl
  with_reducible assumption

def Parts.attestAll : List Part := [0x8038, Part.fw]
theorem attestAll_within (s : State) (l : List Image) (half : Nat) (event : Nat) : Within Parts.attestAll s (State.attestAll s l half event) := by
  have h0 : Within Parts.attestAll s s := .refl
  unfold State.attestAll
  refine Within.foldl ?_ ?_
  · with_reducible assumption
  · intro x0 x1 x2
    refine Within.step ?_ (attest_within ..) rfl
    with_reducible assumption

def Parts.showRunning : List Part := [0x8008]
theorem showRunning_within (s : State) (h : Nat) (l : List Image) : Within Parts.showRunning s (State.showRunning s h l) := by
  have h0 : Within Parts.showRunning s s := .refl
  unfold State.showRunning
  extract_lets +onlyGivenNames -merge a0
  have h1 : Within Parts.showRunning s a0 := by
    unfold a0
    refine Within.step ?_ (setFld_within ..) rfl
    refine Within.step ?_ (setFld_within ..) rfl
    with_reducible assumption
  clear_value a0
  refine Within.step ?_ (setWide_within ..) rfl
  refine Within.step ?_ (setFld_within ..) rfl
  with_reducible assumption

def Parts.enterTrial : List Part := [Part.fw, 0x8008, Part.host, 0x6048]
theorem enterTrial_within (s : State) (t : Table) (ver : Nat) (schema : Nat) (ident : BitVec 512) : Within Parts.enterTrial s (State.enterTrial s t ver schema ident) := by
  have h0 : Within Parts.enterTrial s s := .refl
  unfold State.enterTrial
  refine Within.step ?_ (setFw_within ..) rfl
  refine Within.step ?_ (withFw_within ..) rfl
  with_reducible assumption

def Parts.attestPolicy : List Part := [0x8038, Part.fw]
theorem attestPolicy_within (s : State) (p : Nat) : Within Parts.attestPolicy s (State.attestPolicy s p) := by
  have h0 : Within Parts.attestPolicy s s := .refl
  unfold State.attestPolicy
  refine Within.step ?_ (attest_within ..) rfl
  with_reducible assumption

def Parts.withHalf : List Part := [Part.fw]
theorem withHalf_within (s : State) (h : Nat) (f : FlashHalf → FlashHalf) : Within Parts.withHalf s (State.withHalf s h f) := by
  have h0 : Within Parts.withHalf s s := .refl
  unfold State.withHalf
  refine Within.step ?_ (withFw_within ..) rfl
  with_reducible assumption

def Parts.commitFw : List Part := [Part.all, 0x8020, 0x8018, 0x8038, Part.fw, 0x1028, Part.save, 0x8008, Part.ev, Part.host, Part.clk, 0x7820, 0x6048, 0x7808, Part.sys, 0x7810]
theorem commitFw_within (s : State) : Within Parts.commitFw s (State.commitFw s) := by
  have h0 : Within Parts.commitFw s s := .refl
  unfold State.commitFw
  extract_lets +onlyGivenNames -merge a0
  extract_lets +onlyGivenNames -merge a1
  clear_value a1
  extract_lets +onlyGivenNames -merge a2
  clear_value a2
  extract_lets +onlyGivenNames -merge a3
  have h4 : ∀ y0 y1 y2, (Within Parts.commitFw s y0) → Within Parts.commitFw s (a3 y0 y1 y2) := by
    intro x5 x6 x7 hx8
    unfold a3
    refine Within.step ?_ (setFld_within ..) (sub_all rfl)
    with_reducible assumption
  clear_value a3
  extract_lets +onlyGivenNames -merge a9
  have h10 : Within Parts.commitFw s a9 := by
    unfold a9
    apply h4
    apply h4
    apply h4
    with_reducible assumption
  clear_value a9
  extract_lets +onlyGivenNames -merge a11
  have h12 : Within Parts.commitFw s a11 := by
    unfold a11
    refine Within.step ?_ (setFld_within ..) rfl
    refine Within.step ?_ (setFld_within ..) rfl
    with_reducible assumption
  clear_value a11
  extract_lets +onlyGivenNames -merge a13
  clear_value a13
  extract_lets +onlyGivenNames -merge a14
  have h15 : Within Parts.commitFw s a14 := by
    unfold a14
    split
    · refine Within.step ?_ (attestPolicy_within ..) rfl
      refine Within.step ?_ (setWord_within ..) rfl
      with_reducible assumption
    · with_reducible assumption
  clear_value a14
  extract_lets +onlyGivenNames -merge a16
  have h17 : Within Parts.commitFw s a16 := by
    unfold a16
    refine Within.step ?_ (startGen_within ..) rfl
    refine Within.step ?_ (withFw_within ..) rfl
    with_reducible assumption
  clear_value a16
  extract_lets +onlyGivenNames -merge a18
  extract_lets +onlyGivenNames -merge a19
  have h20 : Within Parts.commitFw s a19 := by
    unfold a19
    refine Within.step ?_ (withHalf_within ..) rfl
    refine Within.step ?_ (withHalf_within ..) rfl
    with_reducible assumption
  clear_value a19
  extract_lets +onlyGivenNames -merge a21
  have h22 : Within Parts.commitFw s a21 := by
    unfold a21
    refine Within.step ?_ (setFld_within ..) rfl
    with_reducible assumption
  clear_value a21
  extract_lets +onlyGivenNames -merge a23
  have h24 : Within Parts.commitFw s a23 := by
    unfold a23
    refine Within.step ?_ (note_within ..) rfl
    with_reducible assumption
  clear_value a23
  refine Within.step ?_ (setFw_within ..) rfl
  with_reducible assumption

def Parts.activate : List Part := [Part.clk, 0x8008, 0x1000, Part.ev, Part.host, 0x7820, 0x6048, 0x7808, Part.sys, 0x7810, Part.fw, 0x6820, 0x681c, Part.ic, Part.fresh, 0x6818, 0x1028, Part.save, Part.lk, 0x2858, Part.au, 0x8038, Part.all, 0x8020, 0x8018]
theorem activate_within (s : State) (stuck : List Nat) : Within Parts.activate s (State.activate s stuck) := by
  have h0 : Within Parts.activate s s := .refl
  unfold State.activate
  split
  · with_reducible assumption
  · split
    · refine Within.step ?_ (abandonFw_within ..) rfl
      refine Within.step ?_ (waitHouse_within ..) rfl
      with_reducible assumption
    · split
      · with_reducible assumption
      · split
        · refine Within.step ?_ (abandonFw_within ..) rfl
          with_reducible assumption
        · extract_lets +onlyGivenNames -merge a0
          have h1 : Within Parts.activate s a0 := by
            unfold a0
            refine Within.step ?_ (waitHouse_within ..) rfl
            with_reducible assumption
          clear_value a0
          extract_lets +onlyGivenNames -merge a2
          extract_lets +onlyGivenNames -merge a3
          clear_value a3
          extract_lets +onlyGivenNames -merge a4
          clear_value a4
          extract_lets +onlyGivenNames -merge a5
          extract_lets +onlyGivenNames -merge a6
          extract_lets +onlyGivenNames -merge a7
          extract_lets +onlyGivenNames -merge a8
          clear_value a8
          extract_lets +onlyGivenNames -merge a9
          have h10 : Within Parts.activate s a9 := by
            unfold a9
            refine Within.step ?_ (swapBanks_within ..) rfl
            with_reducible assumption
          clear_value a9
          extract_lets +onlyGivenNames -merge a11
          have h12 : Within Parts.activate s a11 := by
            unfold a11
            refine Within.foldl ?_ ?_
            · with_reducible assumption
            · intro x13 x14 x15
              split
              · refine Within.step ?_ (engineFail_within ..) rfl
                with_reducible assumption
              · with_reducible assumption
          clear_value a11
          extract_lets +onlyGivenNames -merge a16
          have h17 : Within Parts.activate s a16 := by
            unfold a16
            refine Within.step ?_ (attestAll_within ..) rfl
            refine Within.step ?_ (attestAll_within ..) rfl
            with_reducible assumption
          clear_value a16
          extract_lets +onlyGivenNames -merge a18
          clear_value a18
          extract_lets +onlyGivenNames -merge a19
          have h20 : Within Parts.activate s a19 := by
            unfold a19
            refine Within.step ?_ (setFld_within ..) rfl
            refine Within.step ?_ (showRunning_within ..) rfl
            with_reducible assumption
          clear_value a19
          extract_lets +onlyGivenNames -merge a21
          have h22 : Within Parts.activate s a21 := by
            unfold a21
            refine Within.step ?_ (note_within ..) rfl
            with_reducible assumption
          clear_value a21
          extract_lets +onlyGivenNames -merge a23
          have h24 : Within Parts.activate s a23 := by
            unfold a23
            refine Within.step ?_ (enterTrial_within ..) rfl
            with_reducible assumption
          clear_value a23
          split
          · refine Within.step ?_ (commitFw_within ..) rfl
            with_reducible assumption
          · with_reducible assumption

def Parts.importFailed : List Part := [0x8008, Part.ev, Part.host, Part.clk, 0x7820, 0x6048, 0x7808, Part.sys, 0x7810, Part.fw]
theorem importFailed_within (s : State) (l : List Image) : Within Parts.importFailed s (State.importFailed s l) := by
  have h0 : Within Parts.importFailed s s := .refl
  unfold State.importFailed
  extract_lets +onlyGivenNames -merge a0
  refine Within.step ?_ (setFw_within ..) rfl
  refine Within.step ?_ (raise_within ..) rfl
  refine Within.step ?_ (setFld_within ..) rfl
  with_reducible assumption

def Parts.activationReady : List Part := [0x8008, 0x1000, Part.ev, Part.host, Part.clk, 0x7820, 0x6048, 0x7808, Part.sys, 0x7810, Part.fw]
theorem activationReady_within (s : State) (converts : Bool) : Within Parts.activationReady s (State.activationReady s converts) := by
  have h0 : Within Parts.activationReady s s := .refl
  unfold State.activationReady
  split
  · with_reducible assumption
  · split
    · refine Within.step ?_ (abandonFw_within ..) rfl
      with_reducible assumption
    · extract_lets +onlyGivenNames -merge a0
      clear_value a0
      split
      · refine Within.step ?_ (setFw_within ..) rfl
        with_reducible assumption
      · refine Within.step ?_ (importFailed_within ..) rfl
        refine Within.step ?_ (setFld_within ..) rfl
        refine Within.step ?_ (withFw_within ..) rfl
        with_reducible assumption

def Parts.crcNotes : List Part := [Part.ev, Part.host, Part.clk, 0x7820, 0x6048, 0x7808, Part.sys, 0x7810]
theorem crcNotes_within (s : State) (l : List Image) : Within Parts.crcNotes s (State.crcNotes s l) := by
  have h0 : Within Parts.crcNotes s s := .refl
  unfold State.crcNotes
  refine Within.foldl ?_ ?_
  · with_reducible assumption
  · intro x0 x1 x2
    refine Within.step ?_ (note_within ..) rfl
    with_reducible assumption

def Parts.bootInto : List Part := [Part.ev, Part.host, Part.clk, 0x7820, 0x6048, 0x7808, Part.sys, 0x7810, 0x8038, Part.fw, 0x8008]
theorem bootInto_within (s : State) (h : Nat) (fallback : Bool) : Within Parts.bootInto s (State.bootInto s h fallback) := by
  have h0 : Within Parts.bootInto s s := .refl
  unfold State.bootInto
  extract_lets +onlyGivenNames -merge a0
  clear_value a0
  extract_lets +onlyGivenNames -merge a1
  have h2 : Within Parts.bootInto s a1 := by
    unfold a1
    refine Within.step ?_ (attestAll_within ..) rfl
    refine Within.step ?_ (crcNotes_within ..) rfl
    with_reducible assumption
  clear_value a1
  extract_lets +onlyGivenNames -merge a3
  have h4 : Within Parts.bootInto s a3 := by
    unfold a3
    refine Within.step ?_ (setFld_within ..) rfl
    refine Within.step ?_ (showRunning_within ..) rfl
    with_reducible assumption
  clear_value a3
  refine Within.step ?_ (setFld_within ..) rfl
  with_reducible assumption

def Parts.rejectHalf : List Part := [Part.ev, Part.host, Part.clk, 0x7820, 0x6048, 0x7808, Part.sys, 0x7810]
theorem rejectHalf_within (s : State) (h : Nat) (x : Nat × Nat) : Within Parts.rejectHalf s (State.rejectHalf s h x) := by
  have h0 : Within Parts.rejectHalf s s := .refl
  unfold State.rejectHalf
  refine Within.step ?_ (raise_within ..) rfl
  with_reducible assumption

def Parts.bootLoad : List Part := [0x8008, Part.ev, Part.host, Part.clk, 0x7820, 0x6048, 0x7808, Part.sys, 0x7810, 0x8038, Part.fw, Part.all]
theorem bootLoad_within (s : State) (flashOk : Bool) (converts : Bool) : Within Parts.bootLoad s (State.bootLoad s flashOk converts).2 := by
  have h0 : Within Parts.bootLoad s s := .refl
  unfold State.bootLoad
  extract_lets +onlyGivenNames -merge a0
  clear_value a0
  extract_lets +onlyGivenNames -merge a1
  extract_lets +onlyGivenNames -merge a2
  clear_value a2
  extract_lets +onlyGivenNames -merge a3
  have h4 : Within Parts.bootLoad s a3 := by
    unfold a3
    refine Within.step ?_ (setFld_within ..) rfl
    with_reducible assumption
  clear_value a3
  extract_lets +onlyGivenNames -merge a5
  have h6 : ∀ y0 y1 y2, (Within Parts.bootLoad s y0) → Within Parts.bootLoad s (a5 y0 y1 y2).2 := by
    intro x7 x8 x9 hx10
    unfold a5
    extract_lets +onlyGivenNames -merge a11
    have h12 : Within Parts.bootLoad s a11 := by
      unfold a11
      refine Within.step ?_ (rejectHalf_within ..) rfl
      with_reducible assumption
    clear_value a11
    split
    · dsimp -zeta only
      refine Within.step ?_ (raise_within ..) rfl
      refine Within.step ?_ (bootInto_within ..) rfl
      with_reducible assumption
    · dsimp -zeta only
      refine Within.step ?_ (rejectHalf_within ..) rfl
      with_reducible assumption
  clear_value a5
  split
  · extract_lets +onlyGivenNames -merge a13
    extract_lets +onlyGivenNames -merge a14
    clear_value a14
    split
    · apply h6
      refine Within.step ?_ (setFw_within ..) rfl
      refine Within.step ?_ (setFld_within ..) rfl
      with_reducible assumption
    · split
      · extract_lets +onlyGivenNames -merge a15
        have h16 : Within Parts.bootLoad s a15 := by
          unfold a15
          refine Within.step ?_ (importFailed_within ..) rfl
          refine Within.step ?_ (attestAll_within ..) rfl
          refine Within.step ?_ (crcNotes_within ..) rfl
          with_reducible assumption
        clear_value a15
        split
        · dsimp -zeta only
          refine Within.step ?_ (bootInto_within ..) rfl
          with_reducible assumption
        · dsimp -zeta only
          refine Within.step ?_ (rejectHalf_within ..) rfl
          with_reducible assumption
      · extract_lets +onlyGivenNames -merge a17
        clear_value a17
        dsimp -zeta only
        refine Within.step ?_ (enterTrial_within ..) rfl
        refine Within.step ?_ (installSaved_within ..) rfl
        refine Within.step ?_ (bootInto_within ..) rfl
        with_reducible assumption
  · split
    · dsimp -zeta only
      refine Within.step ?_ (bootInto_within ..) rfl
      with_reducible assumption
    · apply h6
      with_reducible assumption

def Parts.dropUpdate : List Part := [0x8008, 0x1000, Part.ev, Part.host, Part.clk, 0x7820, 0x6048, 0x7808, Part.sys, 0x7810, Part.fw]
theorem dropUpdate_within (s : State) : Within Parts.dropUpdate s (State.dropUpdate s) := by
  have h0 : Within Parts.dropUpdate s s := .refl
  unfold State.dropUpdate
  split
  · refine Within.step ?_ (abandonFw_within ..) rfl
    with_reducible assumption
  · with_reducible assumption

def Parts.setInstant : List Part := [Part.fw, 0x8008]
theorem setInstant_within (s : State) (t : Nat) : Within Parts.setInstant s (State.setInstant s t) := by
  have h0 : Within Parts.setInstant s s := .refl
  unfold State.setInstant
  extract_lets +onlyGivenNames -merge a0
  have h1 : Within Parts.setInstant s a0 := by
    unfold a0
    refine Within.step ?_ (withFw_within ..) rfl
    with_reducible assumption
  clear_value a0
  refine Within.step ?_ (setFld_within ..) rfl
  refine Within.step ?_ (setFld_within ..) rfl
  with_reducible assumption

def Parts.fwCommand : List Part := [0x8008, Part.fw, Part.host, 0x6048, 0x1000, Part.all, 0x8020, 0x8018, 0x8038, 0x1028, Part.save, Part.ev, Part.clk, 0x7820, 0x7808, Part.sys, 0x7810]
theorem fwCommand_within (s : State) (w0 : W) (w1 : W) (w2 : W) : Within Parts.fwCommand s (State.fwCommand s w0 w1 w2).2 := by
  have h0 : Within Parts.fwCommand s s := .refl
  unfold State.fwCommand
  extract_lets +onlyGivenNames -merge a0
  extract_lets +onlyGivenNames -merge a1
  clear_value a1
  extract_lets +onlyGivenNames -merge a2
  extract_lets +onlyGivenNames -merge a3
  extract_lets +onlyGivenNames -merge a4
  clear_value a4
  extract_lets +onlyGivenNames -merge a5
  clear_value a5
  extract_lets +onlyGivenNames -merge a6
  clear_value a6
  extract_lets +onlyGivenNames -merge a7
  extract_lets +onlyGivenNames -merge a8
  clear_value a8
  split
  · with_reducible assumption
  · split
    · with_reducible assumption
    · split
      · with_reducible assumption
      · split
        · dsimp -zeta only
          refine Within.step ?_ (setFw_within ..) rfl
          refine Within.step ?_ (setFld_within ..) rfl
          with_reducible assumption
        · split
          · split
            · dsimp -zeta only
              refine Within.step ?_ (setFld_within ..) rfl
              with_reducible assumption
            · extract_lets +onlyGivenNames -merge a9
              have h10 : Within Parts.fwCommand s a9 := by
                unfold a9
                refine Within.step ?_ (withFw_within ..) rfl
                with_reducible assumption
              clear_value a9
              extract_lets +onlyGivenNames -merge a11
              have h12 : Within Parts.fwCommand s a11 := by
                unfold a11
                refine Within.step ?_ (setFld_within ..) rfl
                refine Within.step ?_ (setInstant_within ..) rfl
                with_reducible assumption
              clear_value a11
              dsimp -zeta only
              refine Within.step ?_ (setFw_within ..) rfl
              with_reducible assumption
          · split
            · split
              · with_reducible assumption
              · dsimp -zeta only
                refine Within.step ?_ (commitFw_within ..) rfl
                with_reducible assumption
            · split
              · dsimp -zeta only
                refine Within.step ?_ (setInstant_within ..) rfl
                with_reducible assumption
              · dsimp -zeta only
                refine Within.step ?_ (abandonFw_within ..) rfl
                with_reducible assumption

def Parts.installContexts : List Part := [0x6018]
theorem installContexts_within (s : State) (b : List Byte) : Within Parts.installContexts s (State.installContexts s b) := by
  have h0 : Within Parts.installContexts s s := .refl
  unfold State.installContexts
  refine Within.foldl ?_ ?_
  · with_reducible assumption
  · intro x0 x1 x2
    extract_lets +onlyGivenNames -merge a3
    clear_value a3
    refine Within.foldl ?_ ?_
    · with_reducible assumption
    · intro x4 x5 x6
      refine Within.step ?_ (setWord_within ..) rfl
      with_reducible assumption

def Parts.lifeChallenge : List Part := [Part.fresh, Part.fw]
theorem lifeChallenge_within (s : State) : Within Parts.lifeChallenge s (State.lifeChallenge s).2 := by
  have h0 : Within Parts.lifeChallenge s s := .refl
  unfold State.lifeChallenge
  extract_lets +onlyGivenNames -merge a0
  have h1 : Within Parts.lifeChallenge s a0.2.2 := by
    unfold a0
    refine Within.step ?_ (newChallenge_within ..) rfl
    with_reducible assumption
  clear_value a0
  dsimp -zeta only
  refine Within.step ?_ (withFw_within ..) rfl
  with_reducible assumption

def Parts.storeNow : List Part := [Part.save, 0x1028]
theorem storeNow_within (s : State) : Within Parts.storeNow s (State.storeNow s) := by
  have h0 : Within Parts.storeNow s s := .refl
  unfold State.storeNow
  extract_lets +onlyGivenNames -merge a0
  clear_value a0
  extract_lets +onlyGivenNames -merge a1
  have h2 : Within Parts.storeNow s a1 := by
    unfold a1
    refine Within.step ?_ (withSave_within ..) rfl
    with_reducible assumption
  clear_value a1
  refine Within.step ?_ (showSave_within ..) rfl
  with_reducible assumption

def Parts.lifeChange : List Part := [Part.ev, Part.host, Part.clk, 0x7820, 0x6048, 0x7808, Part.sys, 0x7810, Part.all, Part.save, Part.pw, 0x6018, Part.fw, 0x8050, Part.ic, Part.mm, 0x1028]
theorem lifeChange_within (s : State) (goal : Nat) (ctx : Nat) (b : List Byte) : Within Parts.lifeChange s (State.lifeChange s goal ctx b) := by
  have h0 : Within Parts.lifeChange s s := .refl
  unfold State.lifeChange
  extract_lets +onlyGivenNames -merge a0
  extract_lets +onlyGivenNames -merge a1
  have h2 : Within Parts.lifeChange s a1 := by
    unfold a1
    refine Within.step ?_ (note_within ..) rfl
    with_reducible assumption
  clear_value a1
  extract_lets +onlyGivenNames -merge a3
  clear_value a3
  extract_lets +onlyGivenNames -merge a4
  clear_value a4
  extract_lets +onlyGivenNames -merge a5
  have h6 : Within Parts.lifeChange s a5 := by
    unfold a5
    refine Within.step ?_ (installSaved_within ..) rfl
    with_reducible assumption
  clear_value a5
  extract_lets +onlyGivenNames -merge a7
  have h8 : Within Parts.lifeChange s a7 := by
    unfold a7
    split
    · refine Within.step ?_ (withPw_within ..) rfl
      refine Within.step ?_ (withSave_within ..) rfl
      with_reducible assumption
    · with_reducible assumption
  clear_value a7
  extract_lets +onlyGivenNames -merge a9
  have h10 : Within Parts.lifeChange s a9 := by
    unfold a9
    refine Within.step ?_ (set_regs_filter_within ..) (sub_all rfl)
    with_reducible assumption
  clear_value a9
  extract_lets +onlyGivenNames -merge a11
  have h12 : Within Parts.lifeChange s a11 := by
    unfold a11
    split
    · with_reducible assumption
    · refine Within.step ?_ (installContexts_within ..) rfl
      with_reducible assumption
  clear_value a11
  extract_lets +onlyGivenNames -merge a13
  clear_value a13
  extract_lets +onlyGivenNames -merge a14
  have h15 : Within Parts.lifeChange s a14 := by
    unfold a14
    refine Within.step ?_ (withFw_within ..) rfl
    with_reducible assumption
  clear_value a14
  extract_lets +onlyGivenNames -merge a16
  have h17 : Within Parts.lifeChange s a16 := by
    unfold a16
    refine Within.step ?_ (setFld_within ..) rfl
    with_reducible assumption
  clear_value a16
  extract_lets +onlyGivenNames -merge a18
  have h19 : Within Parts.lifeChange s a18 := by
    unfold a18
    refine Within.step ?_ (dropRam_within ..) rfl
    with_reducible assumption
  clear_value a18
  extract_lets +onlyGivenNames -merge a20
  clear_value a20
  extract_lets +onlyGivenNames -merge a21
  have h22 : Within Parts.lifeChange s a21 := by
    unfold a21
    refine Within.step (t := a18) ?_ (.everything rfl rfl fun h => ⟨tableWf_filter _ h.1, h.2⟩) (sub_all rfl)
    with_reducible assumption
  clear_value a21
  extract_lets +onlyGivenNames -merge a23
  have h24 : Within Parts.lifeChange s a23 := by
    unfold a23
    split
    · with_reducible assumption
    · refine Within.step ?_ (storeNow_within ..) rfl
      with_reducible assumption
  clear_value a23
  refine Within.step ?_ (driveFault_within ..) rfl
  refine Within.step ?_ (withSys_within ..) rfl
  with_reducible assumption

def Parts.lifeJudge : List Part := [Part.fw, Part.ev, Part.host, Part.clk, 0x7820, 0x6048, 0x7808, Part.sys, 0x7810, Part.all, Part.save, Part.pw, 0x6018, 0x8050, Part.ic, Part.mm, 0x1028]
theorem lifeJudge_within (s : State) (rq : Req) (b : List Byte) : Within Parts.lifeJudge s (State.lifeJudge s rq b).2 := by
  have h0 : Within Parts.lifeJudge s s := .refl
  unfold State.lifeJudge
  extract_lets +onlyGivenNames -merge a0
  extract_lets +onlyGivenNames -merge a1
  extract_lets +onlyGivenNames -merge a2
  have h3 : Within Parts.lifeJudge s a2 := by
    unfold a2
    refine Within.step ?_ (withFw_within ..) rfl
    with_reducible assumption
  clear_value a2
  extract_lets +onlyGivenNames -merge a4
  have h5 : ∀ y0 y1, (Within Parts.lifeJudge s y0) → Within Parts.lifeJudge s (a4 y0 y1).2 := by
    intro x6 x7 hx8
    unfold a4
    dsimp -zeta only
    refine Within.step ?_ (note_within ..) rfl
    with_reducible assumption
  clear_value a4
  split
  · with_reducible assumption
  · split
    · apply h5
      with_reducible assumption
    · extract_lets +onlyGivenNames -merge a9
      clear_value a9
      split
      · split
        · apply h5
          with_reducible assumption
        · extract_lets +onlyGivenNames -merge a10
          clear_value a10
          extract_lets +onlyGivenNames -merge a11
          have h12 : Within Parts.lifeJudge s a11 := by
            unfold a11
            refine Within.step ?_ (withFw_within ..) rfl
            with_reducible assumption
          clear_value a11
          extract_lets +onlyGivenNames -merge a13
          clear_value a13
          split
          · apply h5
            with_reducible assumption
          · split
            · apply h5
              with_reducible assumption
            · dsimp -zeta only
              refine Within.step ?_ (lifeChange_within ..) rfl
              with_reducible assumption
      · split
        · apply h5
          with_reducible assumption
        · extract_lets +onlyGivenNames -merge a14
          clear_value a14
          extract_lets +onlyGivenNames -merge a15
          have h16 : Within Parts.lifeJudge s a15 := by
            unfold a15
            refine Within.step ?_ (withFw_within ..) rfl
            with_reducible assumption
          clear_value a15
          extract_lets +onlyGivenNames -merge a17
          clear_value a17
          split
          · apply h5
            with_reducible assumption
          · split
            · apply h5
              with_reducible assumption
            · dsimp -zeta only
              refine Within.step ?_ (lifeChange_within ..) rfl
              with_reducible assumption

def Parts.quoteReady : List Part := [Part.fw, Part.host, 0x6048]
theorem quoteReady_within (s : State) : Within Parts.quoteReady s (State.quoteReady s) := by
  have h0 : Within Parts.quoteReady s s := .refl
  unfold State.quoteReady
  split
  · with_reducible assumption
  · extract_lets +onlyGivenNames -merge a0
    clear_value a0
    extract_lets +onlyGivenNames -merge a1
    clear_value a1
    extract_lets +onlyGivenNames -merge a2
    clear_value a2
    refine Within.step ?_ (notifySub_within ..) rfl
    refine Within.step ?_ (withFw_within ..) rfl
    with_reducible assumption

def Parts.rollbackFw : List Part := [Part.all, 0x8038, Part.fw, 0x8008, 0x1000, 0x1028, Part.ev, Part.host, Part.clk, 0x7820, 0x6048, 0x7808, Part.sys, 0x7810]
theorem rollbackFw_within (s : State) (cause : Nat) : Within Parts.rollbackFw s (State.rollbackFw s cause) := by
  have h0 : Within Parts.rollbackFw s s := .refl
  unfold State.rollbackFw
  extract_lets +onlyGivenNames -merge a0
  extract_lets +onlyGivenNames -merge a1
  extract_lets +onlyGivenNames -merge a2
  clear_value a2
  extract_lets +onlyGivenNames -merge a3
  clear_value a3
  extract_lets +onlyGivenNames -merge a4
  have h5 : Within Parts.rollbackFw s a4 := by
    unfold a4
    split
    · refine Within.step ?_ (installSaved_within ..) rfl
      with_reducible assumption
    · with_reducible assumption
  clear_value a4
  extract_lets +onlyGivenNames -merge a6
  have h7 : Within Parts.rollbackFw s a6 := by
    unfold a6
    refine Within.step ?_ (attestAll_within ..) rfl
    refine Within.step ?_ (attestAll_within ..) rfl
    with_reducible assumption
  clear_value a6
  extract_lets +onlyGivenNames -merge a8
  have h9 : Within Parts.rollbackFw s a8 := by
    unfold a8
    refine Within.step ?_ (setFld_within ..) rfl
    refine Within.step ?_ (setFld_within ..) rfl
    with_reducible assumption
  clear_value a8
  extract_lets +onlyGivenNames -merge a10
  have h11 : Within Parts.rollbackFw s a10 := by
    unfold a10
    refine Within.step ?_ (setWide_within ..) rfl
    refine Within.step ?_ (setFld_within ..) rfl
    with_reducible assumption
  clear_value a10
  extract_lets +onlyGivenNames -merge a12
  have h13 : Within Parts.rollbackFw s a12 := by
    unfold a12
    refine Within.step ?_ (setFld_within ..) rfl
    refine Within.step ?_ (withFw_within ..) rfl
    with_reducible assumption
  clear_value a12
  extract_lets +onlyGivenNames -merge a14
  have h15 : Within Parts.rollbackFw s a14 := by
    unfold a14
    split
    · refine Within.step ?_ (setFld_within ..) rfl
      with_reducible assumption
    · with_reducible assumption
  clear_value a14
  refine Within.step ?_ (setFw_within ..) rfl
  refine Within.step ?_ (note_within ..) rfl
  with_reducible assumption

def Parts.rollbackDue : List Part := [Part.clk, 0x6820, 0x681c, Part.ic, Part.fresh, Part.ev, Part.host, 0x7820, 0x6048, 0x7808, Part.sys, 0x7810, 0x6818, Part.all, 0x8038, Part.fw, 0x8008, 0x1000, 0x1028]
theorem rollbackDue_within (s : State) : Within Parts.rollbackDue s (State.rollbackDue s) := by
  have h0 : Within Parts.rollbackDue s s := .refl
  unfold State.rollbackDue
  split
  · split
    · refine Within.step ?_ (rollbackFw_within ..) rfl
      refine Within.step ?_ (swapBanks_within ..) rfl
      refine Within.step ?_ (waitHouse_within ..) rfl
      with_reducible assumption
    · with_reducible assumption
  · with_reducible assumption

def Parts.stageDone : List Part := [0x8008, Part.ev, Part.host, Part.clk, 0x7820, 0x6048, 0x7808, Part.sys, 0x7810, Part.fw]
theorem stageDone_within (s : State) (flashOk : Bool) : Within Parts.stageDone s (State.stageDone s flashOk) := by
  have h0 : Within Parts.stageDone s s := .refl
  unfold State.stageDone
  split
  · with_reducible assumption
  · extract_lets +onlyGivenNames -merge a0
    extract_lets +onlyGivenNames -merge a1
    clear_value a1
    extract_lets +onlyGivenNames -merge a2
    clear_value a2
    split
    · refine Within.step ?_ (setFw_within ..) rfl
      refine Within.step ?_ (raise_within ..) rfl
      refine Within.step ?_ (setFld_within ..) rfl
      with_reducible assumption
    · extract_lets +onlyGivenNames -merge a3
      have h4 : Within Parts.stageDone s a3 := by
        unfold a3
        refine Within.step ?_ (crcNotes_within ..) rfl
        with_reducible assumption
      clear_value a3
      extract_lets +onlyGivenNames -merge a5
      have h6 : Within Parts.stageDone s a5 := by
        unfold a5
        refine Within.step ?_ (setFld_within ..) rfl
        refine Within.step ?_ (setFld_within ..) rfl
        with_reducible assumption
      clear_value a5
      extract_lets +onlyGivenNames -merge a7
      have h8 : Within Parts.stageDone s a7 := by
        unfold a7
        refine Within.step ?_ (setWide_within ..) rfl
        refine Within.step ?_ (setFld_within ..) rfl
        with_reducible assumption
      clear_value a7
      extract_lets +onlyGivenNames -merge a9
      have h10 : Within Parts.stageDone s a9 := by
        unfold a9
        refine Within.step ?_ (withHalf_within ..) rfl
        with_reducible assumption
      clear_value a9
      refine Within.step ?_ (setFw_within ..) rfl
      refine Within.step ?_ (note_within ..) rfl
      with_reducible assumption

def Parts.twinCheck : List Part := [Part.clk, Part.fw, 0x8008, 0x1000, Part.ev, Part.host, 0x7820, 0x6048, 0x7808, Part.sys, 0x7810]
theorem twinCheck_within (s : State) (ready : Bool) (ident : BitVec 512) (at_ : Nat) : Within Parts.twinCheck s (State.twinCheck s ready ident at_) := by
  have h0 : Within Parts.twinCheck s s := .refl
  unfold State.twinCheck
  split
  · with_reducible assumption
  · split
    · with_reducible assumption
    · extract_lets +onlyGivenNames -merge a0
      have h1 : Within Parts.twinCheck s a0 := by
        unfold a0
        refine Within.step ?_ (waitHouse_within ..) rfl
        with_reducible assumption
      clear_value a0
      split
      · refine Within.step ?_ (withFw_within ..) rfl
        with_reducible assumption
      · refine Within.step ?_ (abandonFw_within ..) rfl
        with_reducible assumption

def Parts.execActivationInstant : List Part := [Part.clk, 0x8008, 0x1000, Part.ev, Part.host, 0x7820, 0x6048, 0x7808, Part.sys, 0x7810, Part.fw, 0x6820, 0x681c, Part.ic, Part.fresh, 0x6818, 0x1028, Part.save, Part.lk, 0x2858, Part.au, 0x8038, Part.all, 0x8020, 0x8018]
theorem execActivationInstant_within (stuck : List Nat) (s : State) : ExecWithin Parts.execActivationInstant s (execActivationInstant stuck s) := by
  have h0 : Within Parts.execActivationInstant s s := .refl
  unfold execActivationInstant
  refine ⟨_, rfl, ?_⟩
  refine Within.step ?_ (activate_within ..) rfl
  with_reducible assumption

def Parts.execActivationReady : List Part := [0x8008, 0x1000, Part.ev, Part.host, Part.clk, 0x7820, 0x6048, 0x7808, Part.sys, 0x7810, Part.fw]
theorem execActivationReady_within (converts : Bool) (s : State) : ExecWithin Parts.execActivationReady s (execActivationReady converts s) := by
  have h0 : Within Parts.execActivationReady s s := .refl
  unfold execActivationReady
  refine ⟨_, rfl, ?_⟩
  refine Within.step ?_ (activationReady_within ..) rfl
  with_reducible assumption

def Parts.execActivationTwinCheck : List Part := [Part.clk, Part.fw, 0x8008, 0x1000, Part.ev, Part.host, 0x7820, 0x6048, 0x7808, Part.sys, 0x7810]
theorem execActivationTwinCheck_within (ready : Bool) (ident : BitVec 512) (at_ : Nat) (s : State) : ExecWithin Parts.execActivationTwinCheck s (execActivationTwinCheck ready ident at_ s) := by
  have h0 : Within Parts.execActivationTwinCheck s s := .refl
  unfold execActivationTwinCheck
  refine ⟨_, rfl, ?_⟩
  refine Within.step ?_ (twinCheck_within ..) rfl
  with_reducible assumption

def Parts.putFwCmd : List Part := [0x8010, 0x8008, Part.fw, Part.host, 0x6048, 0x1000, Part.all, 0x8020, 0x8018, 0x8038, 0x1028, Part.save, Part.ev, Part.clk, 0x7820, 0x7808, Part.sys, 0x7810]
theorem putFwCmd_within (w0 : W) (w1 : W) (w2 : W) : PutWithin Parts.putFwCmd (putFwCmd w0 w1 w2) := by
  unfold putFwCmd
  refine ⟨rfl, fun s0 => ?_⟩
  dsimp -zeta only
  have h00 : Within Parts.putFwCmd s0 s0 := .refl
  extract_lets +onlyGivenNames -merge a0
  have h1 : Within Parts.putFwCmd s0 a0 := by
    unfold a0
    refine Within.step ?_ (setWord_within ..) rfl
    refine Within.step ?_ (setWord_within ..) rfl
    refine Within.step ?_ (setWord_within ..) rfl
    with_reducible assumption
  clear_value a0
  split
  · with_reducible assumption
  · refine Within.step ?_ (fwCommand_within ..) rfl
    with_reducible assumption

def Parts.execFwAbandon : List Part := [0x8010, 0x8008, Part.fw, Part.host, 0x6048, 0x1000, Part.all, 0x8020, 0x8018, 0x8038, 0x1028, Part.save, Part.ev, Part.clk, 0x7820, 0x7808, Part.sys, 0x7810, Part.shadow, 0x6040, Part.pw]
theorem execFwAbandon_within (rq : Req) (w0 : W) (w1 : W) (w2 : W) (s : State) : ExecWithin Parts.execFwAbandon s (execFwAbandon rq w0 w1 w2 s) := by
  have h0 : Within Parts.execFwAbandon s s := .refl
  unfold execFwAbandon
  extract_lets +onlyGivenNames -merge a0
  have h1 : PutWithin Parts.execFwAbandon a0 := by
    unfold a0
    exact PutWithin.step (putFwCmd_within ..) rfl
  clear_value a0
  refine ⟨_, rfl, ?_⟩
  refine request_within rfl ?_ ?_
  · with_reducible assumption
  · with_reducible assumption

def Parts.execFwActivate : List Part := [0x8010, 0x8008, Part.fw, Part.host, 0x6048, 0x1000, Part.all, 0x8020, 0x8018, 0x8038, 0x1028, Part.save, Part.ev, Part.clk, 0x7820, 0x7808, Part.sys, 0x7810, Part.shadow, 0x6040, Part.pw]
theorem execFwActivate_within (rq : Req) (w0 : W) (w1 : W) (w2 : W) (s : State) : ExecWithin Parts.execFwActivate s (execFwActivate rq w0 w1 w2 s) := by
  have h0 : Within Parts.execFwActivate s s := .refl
  unfold execFwActivate
  extract_lets +onlyGivenNames -merge a0
  have h1 : PutWithin Parts.execFwActivate a0 := by
    unfold a0
    exact PutWithin.step (putFwCmd_within ..) rfl
  clear_value a0
  refine ⟨_, rfl, ?_⟩
  refine request_within rfl ?_ ?_
  · with_reducible assumption
  · with_reducible assumption

def Parts.execFwCommit : List Part := [0x8010, 0x8008, Part.fw, Part.host, 0x6048, 0x1000, Part.all, 0x8020, 0x8018, 0x8038, 0x1028, Part.save, Part.ev, Part.clk, 0x7820, 0x7808, Part.sys, 0x7810, Part.shadow, 0x6040, Part.pw]
theorem execFwCommit_within (rq : Req) (w0 : W) (w1 : W) (w2 : W) (s : State) : ExecWithin Parts.execFwCommit s (execFwCommit rq w0 w1 w2 s) := by
  have h0 : Within Parts.execFwCommit s s := .refl
  unfold execFwCommit
  extract_lets +onlyGivenNames -merge a0
  have h1 : PutWithin Parts.execFwCommit a0 := by
    unfold a0
    exact PutWithin.step (putFwCmd_within ..) rfl
  clear_value a0
  refine ⟨_, rfl, ?_⟩
  refine request_within rfl ?_ ?_
  · with_reducible assumption
  · with_reducible assumption

def Parts.putFlash : List Part := [0x8030, Part.fw, 0x8008, Part.host, 0x6048]
theorem putFlash_within (off : Nat) (l : List Byte) : PutWithin Parts.putFlash (putFlash off l) := by
  unfold putFlash
  refine ⟨rfl, fun s0 => ?_⟩
  dsimp -zeta only
  have h00 : Within Parts.putFlash s0 s0 := .refl
  extract_lets +onlyGivenNames -merge a0
  split
  · with_reducible assumption
  · extract_lets +onlyGivenNames -merge a1
    have h2 : Within Parts.putFlash s0 a1 := by
      unfold a1
      refine Within.step ?_ (withHalf_within ..) rfl
      with_reducible assumption
    clear_value a1
    dsimp -zeta only
    split
    · with_reducible assumption
    · refine Within.step ?_ (setFw_within ..) rfl
      with_reducible assumption

def Parts.execFwFlashWrite : List Part := [0x8030, Part.fw, 0x8008, Part.host, 0x6048, 0x1028, Part.save, Part.shadow, 0x6040, 0x7808, 0x7810, 0x7820, Part.clk, Part.sys, Part.ev, Part.pw]
theorem execFwFlashWrite_within (rq : Req) (off : Nat) (bytes : List Byte) (s : State) : ExecWithin Parts.execFwFlashWrite s (execFwFlashWrite rq off bytes s) := by
  have h0 : Within Parts.execFwFlashWrite s s := .refl
  unfold execFwFlashWrite
  extract_lets +onlyGivenNames -merge a0
  have h1 : PutWithin Parts.execFwFlashWrite a0 := by
    unfold a0
    exact PutWithin.step (putFlash_within ..) rfl
  clear_value a0
  refine ⟨_, rfl, ?_⟩
  refine request_within rfl ?_ ?_
  · with_reducible assumption
  · with_reducible assumption

def Parts.execFwRollback : List Part := [0x8010, 0x8008, Part.fw, Part.host, 0x6048, 0x1000, Part.all, 0x8020, 0x8018, 0x8038, 0x1028, Part.save, Part.ev, Part.clk, 0x7820, 0x7808, Part.sys, 0x7810, Part.shadow, 0x6040, Part.pw]
theorem execFwRollback_within (rq : Req) (w0 : W) (w1 : W) (w2 : W) (s : State) : ExecWithin Parts.execFwRollback s (execFwRollback rq w0 w1 w2 s) := by
  have h0 : Within Parts.execFwRollback s s := .refl
  unfold execFwRollback
  extract_lets +onlyGivenNames -merge a0
  have h1 : PutWithin Parts.execFwRollback a0 := by
    unfold a0
    exact PutWithin.step (putFwCmd_within ..) rfl
  clear_value a0
  refine ⟨_, rfl, ?_⟩
  refine request_within rfl ?_ ?_
  · with_reducible assumption
  · with_reducible assumption

def Parts.execFwStage : List Part := [0x8010, 0x8008, Part.fw, Part.host, 0x6048, 0x1000, Part.all, 0x8020, 0x8018, 0x8038, 0x1028, Part.save, Part.ev, Part.clk, 0x7820, 0x7808, Part.sys, 0x7810, Part.shadow, 0x6040, Part.pw]
theorem execFwStage_within (rq : Req) (w0 : W) (w1 : W) (w2 : W) (s : State) : ExecWithin Parts.execFwStage s (execFwStage rq w0 w1 w2 s) := by
  have h0 : Within Parts.execFwStage s s := .refl
  unfold execFwStage
  extract_lets +onlyGivenNames -merge a0
  have h1 : PutWithin Parts.execFwStage a0 := by
    unfold a0
    exact PutWithin.step (putFwCmd_within ..) rfl
  clear_value a0
  refine ⟨_, rfl, ?_⟩
  refine request_within rfl ?_ ?_
  · with_reducible assumption
  · with_reducible assumption

def Parts.execLifecycleChallengeRead : List Part := [Part.fresh, Part.fw, 0x6040, 0x6048, 0x7808, 0x7810, 0x7820, Part.shadow, Part.clk, Part.sys, Part.host, Part.ev, Part.pw]
theorem execLifecycleChallengeRead_within (rq : Req) (s : State) : ExecWithin Parts.execLifecycleChallengeRead s (execLifecycleChallengeRead rq s) := by
  have h0 : Within Parts.execLifecycleChallengeRead s s := .refl
  unfold execLifecycleChallengeRead
  refine ⟨_, rfl, ?_⟩
  refine hostRead_within rfl ?_ ?_
  · with_reducible assumption
  · intro x0 x1
    refine Within.step ?_ (lifeChallenge_within ..) rfl
    with_reducible assumption

def Parts.putLife : List Part := [0x8050, Part.fw, Part.ev, Part.host, Part.clk, 0x7820, 0x6048, 0x7808, Part.sys, 0x7810, Part.all, Part.save, Part.pw, 0x6018, Part.ic, Part.mm, 0x1028]
theorem putLife_within (s : State) (rq : Req) (off : Nat) (l : List Byte) : PutWithin Parts.putLife (putLife s rq off l) := by
  have h0 : Within Parts.putLife s s := .refl
  unfold putLife
  extract_lets +onlyGivenNames -merge a0
  clear_value a0
  refine ⟨rfl, fun s0 => ?_⟩
  dsimp -zeta only
  have h00 : Within Parts.putLife s0 s0 := .refl
  split
  · with_reducible assumption
  · extract_lets +onlyGivenNames -merge a1
    have h2 : Within Parts.putLife s0 a1 := by
      unfold a1
      refine Within.step ?_ (withFw_within ..) rfl
      with_reducible assumption
    clear_value a1
    split
    · refine Within.step ?_ (lifeJudge_within ..) rfl
      with_reducible assumption
    · with_reducible assumption

def Parts.execLifecycleRequest : List Part := [0x8050, Part.fw, Part.ev, Part.host, Part.clk, 0x7820, 0x6048, 0x7808, Part.sys, 0x7810, Part.all, Part.save, Part.pw, 0x6018, Part.ic, Part.mm, 0x1028, Part.shadow, 0x6040]
theorem execLifecycleRequest_within (rq : Req) (off : Nat) (bytes : List Byte) (s : State) : ExecWithin Parts.execLifecycleRequest s (execLifecycleRequest rq off bytes s) := by
  have h0 : Within Parts.execLifecycleRequest s s := .refl
  unfold execLifecycleRequest
  extract_lets +onlyGivenNames -merge a0
  have h1 : PutWithin Parts.execLifecycleRequest a0 := by
    unfold a0
    exact PutWithin.step (putLife_within ..) rfl
  clear_value a0
  refine ⟨_, rfl, ?_⟩
  refine request_within rfl ?_ ?_
  · with_reducible assumption
  · with_reducible assumption

def Parts.execQuoteReady : List Part := [Part.fw, Part.host, 0x6048]
theorem execQuoteReady_within (s : State) : ExecWithin Parts.execQuoteReady s (execQuoteReady s) := by
  have h0 : Within Parts.execQuoteReady s s := .refl
  unfold execQuoteReady
  refine ⟨_, rfl, ?_⟩
  refine Within.step ?_ (quoteReady_within ..) rfl
  with_reducible assumption

def Parts.putNonce : List Part := [0x8040, Part.fw]
theorem putNonce_within (nonce : List Byte) : PutWithin Parts.putNonce (putNonce nonce) := by
  unfold putNonce
  refine ⟨rfl, fun s0 => ?_⟩
  dsimp -zeta only
  have h00 : Within Parts.putNonce s0 s0 := .refl
  split
  · with_reducible assumption
  · dsimp -zeta only
    refine Within.step ?_ (withFw_within ..) rfl
    with_reducible assumption

def Parts.execQuoteRequest : List Part := [0x8040, Part.fw, 0x1028, Part.save, Part.shadow, 0x6040, 0x6048, 0x7808, 0x7810, 0x7820, Part.clk, Part.sys, Part.host, Part.ev, Part.pw]
theorem execQuoteRequest_within (rq : Req) (nonce : List Byte) (s : State) : ExecWithin Parts.execQuoteRequest s (execQuoteRequest rq nonce s) := by
  have h0 : Within Parts.execQuoteRequest s s := .refl
  unfold execQuoteRequest
  extract_lets +onlyGivenNames -merge a0
  have h1 : PutWithin Parts.execQuoteRequest a0 := by
    unfold a0
    exact PutWithin.step (putNonce_within ..) rfl
  clear_value a0
  refine ⟨_, rfl, ?_⟩
  refine request_within rfl ?_ ?_
  · with_reducible assumption
  · with_reducible assumption

def Parts.execRollbackInstant : List Part := [Part.clk, 0x6820, 0x681c, Part.ic, Part.fresh, Part.ev, Part.host, 0x7820, 0x6048, 0x7808, Part.sys, 0x7810, 0x6818, Part.all, 0x8038, Part.fw, 0x8008, 0x1000, 0x1028]
theorem execRollbackInstant_within (s : State) : ExecWithin Parts.execRollbackInstant s (execRollbackInstant s) := by
  have h0 : Within Parts.execRollbackInstant s s := .refl
  unfold execRollbackInstant
  refine ⟨_, rfl, ?_⟩
  refine Within.step ?_ (rollbackDue_within ..) rfl
  with_reducible assumption

def Parts.putSigPolicy : List Part := [0x8018, 0x1028, Part.save, Part.ev, Part.host, Part.clk, 0x7820, 0x6048, 0x7808, Part.sys, 0x7810, 0x8038, Part.fw]
theorem putSigPolicy_within (rq : Req) (v : W) : PutWithin Parts.putSigPolicy (putSigPolicy rq v) := by
  unfold putSigPolicy
  refine ⟨rfl, fun s0 => ?_⟩
  dsimp -zeta only
  have h00 : Within Parts.putSigPolicy s0 s0 := .refl
  extract_lets +onlyGivenNames -merge a0
  dsimp -zeta only
  refine Within.step ?_ (attestPolicy_within ..) rfl
  refine Within.step ?_ (note_within ..) rfl
  refine Within.step ?_ (putWord_within ..) rfl
  with_reducible assumption

def Parts.execSigPolicyWrite : List Part := [0x8018, 0x1028, Part.save, Part.ev, Part.host, Part.clk, 0x7820, 0x6048, 0x7808, Part.sys, 0x7810, 0x8038, Part.fw, Part.shadow, 0x6040, Part.pw]
theorem execSigPolicyWrite_within (rq : Req) (v : W) (s : State) : ExecWithin Parts.execSigPolicyWrite s (execSigPolicyWrite rq v s) := by
  have h0 : Within Parts.execSigPolicyWrite s s := .refl
  unfold execSigPolicyWrite
  extract_lets +onlyGivenNames -merge a0
  have h1 : PutWithin Parts.execSigPolicyWrite a0 := by
    unfold a0
    exact PutWithin.step (putSigPolicy_within ..) rfl
  clear_value a0
  refine ⟨_, rfl, ?_⟩
  refine request_within rfl ?_ ?_
  · with_reducible assumption
  · with_reducible assumption

def Parts.execStageDone : List Part := [0x8008, Part.ev, Part.host, Part.clk, 0x7820, 0x6048, 0x7808, Part.sys, 0x7810, Part.fw]
theorem execStageDone_within (flashOk : Bool) (s : State) : ExecWithin Parts.execStageDone s (execStageDone flashOk s) := by
  have h0 : Within Parts.execStageDone s s := .refl
  unfold execStageDone
  refine ⟨_, rfl, ?_⟩
  refine Within.step ?_ (stageDone_within ..) rfl
  with_reducible assumption

end Sys2Proof.Machine
end

