-- ==== Sys2Proof/Laws/WithinMedia.lean ====
section
/-! SUPPORT. What the operations of Machine/Media.lean may change: for each the parts of the state, and that it keeps to them. -/
namespace Sys2Proof.Machine

def Parts.ancIn : List Part := [Part.mx, 0x4870]
theorem ancIn_within (s : State) (p : Nat) (line : Nat) (sdi : Bool) (fresh : Bool) (l : List Anc) : Within Parts.ancIn s (State.ancIn s p line sdi fresh l) := by
  have h0 : Within Parts.ancIn s s := .refl
  unfold State.ancIn
  extract_lets +onlyGivenNames -merge a0
  clear_value a0
  extract_lets +onlyGivenNames -merge a1
  clear_value a1
  extract_lets +onlyGivenNames -merge a2
  extract_lets +onlyGivenNames -merge a3
  clear_value a3
  extract_lets +onlyGivenNames -merge a4
  clear_value a4
  extract_lets +onlyGivenNames -merge a5
  have h6 : Within Parts.ancIn s a5 := by
    unfold a5
    refine Within.step ?_ (set_mx_within ..) rfl
    with_reducible assumption
  clear_value a5
  refine Within.step ?_ (bump_within ..) rfl
  refine Within.step ?_ (setAncRun_within ..) rfl
  with_reducible assumption

def Parts.macNcp : List Part := [0x6048]
theorem macNcp_within (s : State) (msg : List Byte) : Within Parts.macNcp s (State.macNcp s msg) := by
  have h0 : Within Parts.macNcp s s := .refl
  unfold State.macNcp
  split
  · with_reducible assumption
  · split
    · refine Within.step ?_ (bump_within ..) rfl
      with_reducible assumption
    · refine Within.step ?_ (bump_within ..) rfl
      with_reducible assumption
    · with_reducible assumption

def Parts.rxOk : List Part := [0x4860]
theorem rxOk_within (s : State) (m : Nat) (len : Nat) : Within Parts.rxOk s (State.rxOk s m len) := by
  have h0 : Within Parts.rxOk s s := .refl
  unfold State.rxOk
  refine Within.step ?_ (bump_within ..) rfl
  refine Within.step ?_ (bump_within ..) rfl
  with_reducible assumption

def Parts.handBack : List Part := [Part.mx, 0x4840, Part.host]
theorem handBack_within (s : State) (e : Nat) (l : List (W × W)) : Within Parts.handBack s (State.handBack s e l) := by
  have h0 : Within Parts.handBack s s := .refl
  unfold State.handBack
  split
  · with_reducible assumption
  · extract_lets +onlyGivenNames -merge a0
    extract_lets +onlyGivenNames -merge a1
    extract_lets +onlyGivenNames -merge a2
    extract_lets +onlyGivenNames -merge a3
    clear_value a3
    extract_lets +onlyGivenNames -merge a4
    clear_value a4
    extract_lets +onlyGivenNames -merge a5
    have h6 : Within Parts.handBack s a5 := by
      unfold a5
      refine Within.step ?_ (set_mx_within ..) rfl
      with_reducible assumption
    clear_value a5
    extract_lets +onlyGivenNames -merge a7
    have h8 : Within Parts.handBack s a7 := by
      unfold a7
      refine Within.step ?_ (setFld_within ..) rfl
      with_reducible assumption
    clear_value a7
    split
    · split
      · refine Within.step ?_ (withPcie_within ..) rfl
        with_reducible assumption
      · with_reducible assumption
    · with_reducible assumption

def Parts.ringPlace : List Part := [Part.mx, 0x4840, Part.host, 0x4848]
theorem ringPlace_within (s : State) (e : Nat) (len : Nat) (i : DescInfo) (ring : List (W × W)) : Within Parts.ringPlace s (State.ringPlace s e len i ring) := by
  have h0 : Within Parts.ringPlace s s := .refl
  unfold State.ringPlace
  extract_lets +onlyGivenNames -merge a0
  extract_lets +onlyGivenNames -merge a1
  extract_lets +onlyGivenNames -merge a2
  clear_value a2
  split
  · extract_lets +onlyGivenNames -merge a3
    extract_lets +onlyGivenNames -merge a4
    clear_value a4
    refine Within.step ?_ (bump_within ..) rfl
    refine Within.step ?_ (handBack_within ..) rfl
    with_reducible assumption
  · refine Within.step ?_ (handBack_within ..) rfl
    with_reducible assumption

def Parts.toRing : List Part := [0x4860, Part.mx, 0x4840, Part.host, 0x4848, Part.fresh]
theorem toRing_within (s : State) (m : Nat) (f : MacFrame) (cls : Nat) (tag : Option Nat) : Within Parts.toRing s (State.toRing s m f cls tag) := by
  have h0 : Within Parts.toRing s s := .refl
  unfold State.toRing
  extract_lets +onlyGivenNames -merge a0
  split
  · refine Within.step ?_ (bump_within ..) rfl
    with_reducible assumption
  · extract_lets +onlyGivenNames -merge a1
    have h2 : Within Parts.toRing s a1 := by
      unfold a1
      refine Within.step ?_ (ringPlace_within ..) rfl
      with_reducible assumption
    clear_value a1
    split
    · refine Within.step ?_ (rxOk_within ..) rfl
      with_reducible assumption
    · split
      · refine Within.step ?_ (sendOwn_within ..) rfl
        refine Within.step ?_ (rxOk_within ..) rfl
        with_reducible assumption
      · refine Within.step ?_ (sendOwn_within ..) rfl
        refine Within.step ?_ (rxOk_within ..) rfl
        with_reducible assumption
      · refine Within.step ?_ (bump_within ..) rfl
        with_reducible assumption

def Parts.portFormat : List Part := [0x4870, 0x6048, Part.host, Part.al, 0x2864, Part.ev, Part.clk, 0x7820, 0x7808, Part.sys, 0x7810]
theorem portFormat_within (s : State) (p : Nat) : Within Parts.portFormat s (State.portFormat s p) := by
  have h0 : Within Parts.portFormat s s := .refl
  unfold State.portFormat
  refine Within.step ?_ (alignFail_within ..) rfl
  refine Within.step ?_ (setLink_within ..) rfl
  refine Within.step ?_ (bump_within ..) rfl
  with_reducible assumption

def Parts.setRxFlow : List Part := [Part.mx]
theorem setRxFlow_within (s : State) (x : RxFlow) : Within Parts.setRxFlow s (State.setRxFlow s x) := by
  have h0 : Within Parts.setRxFlow s s := .refl
  unfold State.setRxFlow
  refine Within.step ?_ (set_mx_within ..) rfl
  with_reducible assumption

def Parts.flowPacket : List Part := [0x4870, 0x6048, Part.host, Part.al, 0x2864, Part.ev, Part.clk, 0x7820, 0x7808, Part.sys, 0x7810, Part.mx]
theorem flowPacket_within (s : State) (f : FlowId) (b : Bool) (p : RtpPacket) : Within Parts.flowPacket s (State.flowPacket s f b p) := by
  have h0 : Within Parts.flowPacket s s := .refl
  unfold State.flowPacket
  extract_lets +onlyGivenNames -merge a0
  clear_value a0
  split
  · split
    · split
      · with_reducible assumption
      · refine Within.step ?_ (portFormat_within ..) rfl
        with_reducible assumption
    · extract_lets +onlyGivenNames -merge a1
      clear_value a1
      extract_lets +onlyGivenNames -merge a2
      clear_value a2
      extract_lets +onlyGivenNames -merge a3
      extract_lets +onlyGivenNames -merge a4
      clear_value a4
      extract_lets +onlyGivenNames -merge a5
      extract_lets +onlyGivenNames -merge a6
      have h7 : Within Parts.flowPacket s a6 := by
        unfold a6
        split
        · refine Within.step ?_ (setLink_within ..) rfl
          with_reducible assumption
        · with_reducible assumption
      clear_value a6
      split
      · extract_lets +onlyGivenNames -merge a8
        have h9 : Within Parts.flowPacket s a8 := by
          unfold a8
          refine Within.step ?_ (setRxFlow_within ..) rfl
          with_reducible assumption
        clear_value a8
        split
        · with_reducible assumption
        · refine Within.step ?_ (bump_within ..) rfl
          with_reducible assumption
      · split
        · refine Within.step ?_ (setRxFlow_within ..) rfl
          with_reducible assumption
        · refine Within.step ?_ (setRxFlow_within ..) rfl
          with_reducible assumption
  · split
    · split
      · with_reducible assumption
      · refine Within.step ?_ (portFormat_within ..) rfl
        with_reducible assumption
    · extract_lets +onlyGivenNames -merge a10
      clear_value a10
      extract_lets +onlyGivenNames -merge a11
      clear_value a11
      extract_lets +onlyGivenNames -merge a12
      extract_lets +onlyGivenNames -merge a13
      clear_value a13
      extract_lets +onlyGivenNames -merge a14
      extract_lets +onlyGivenNames -merge a15
      have h16 : Within Parts.flowPacket s a15 := by
        unfold a15
        split
        · refine Within.step ?_ (setLink_within ..) rfl
          with_reducible assumption
        · with_reducible assumption
      clear_value a15
      split
      · extract_lets +onlyGivenNames -merge a17
        have h18 : Within Parts.flowPacket s a17 := by
          unfold a17
          refine Within.step ?_ (setRxFlow_within ..) rfl
          with_reducible assumption
        clear_value a17
        split
        · with_reducible assumption
        · refine Within.step ?_ (bump_within ..) rfl
          with_reducible assumption
      · split
        · refine Within.step ?_ (setRxFlow_within ..) rfl
          with_reducible assumption
        · refine Within.step ?_ (setRxFlow_within ..) rfl
          with_reducible assumption

def Parts.claim : List Part := [0x4860, 0x6048, Part.mx, 0x4840, Part.host, 0x4848, Part.fresh, 0x4870, Part.al, 0x2864, Part.ev, Part.clk, 0x7820, 0x7808, Part.sys, 0x7810, 0x4858, Part.tm]
theorem claim_within (s : State) (m : Nat) (f : MacFrame) : Within Parts.claim s (State.claim s m f) := by
  have h0 : Within Parts.claim s s := .refl
  unfold State.claim
  split
  · refine Within.step ?_ (bump_within ..) rfl
    with_reducible assumption
  · split
    · split
      · refine Within.step ?_ (macNcp_within ..) rfl
        refine Within.step ?_ (rxOk_within ..) rfl
        with_reducible assumption
      · refine Within.step ?_ (rxOk_within ..) rfl
        with_reducible assumption
    · split
      · extract_lets +onlyGivenNames -merge a0
        clear_value a0
        split
        · refine Within.step ?_ (toRing_within ..) rfl
          with_reducible assumption
        · split
          · refine Within.foldl ?_ ?_
            · refine Within.step ?_ (rxOk_within ..) rfl
              with_reducible assumption
            · intro x1 x2 x3
              refine Within.step ?_ (flowPacket_within ..) rfl
              with_reducible assumption
          · refine Within.step ?_ (rxOk_within ..) rfl
            with_reducible assumption
      · extract_lets +onlyGivenNames -merge a4
        clear_value a4
        extract_lets +onlyGivenNames -merge a5
        clear_value a5
        extract_lets +onlyGivenNames -merge a6
        have h7 : Within Parts.claim s a6.1 := by
          unfold a6
          refine Within.step ?_ (stamp_within ..) rfl
          with_reducible assumption
        clear_value a6
        extract_lets +onlyGivenNames -merge a8
        have h9 : Within Parts.claim s a8.1 := by
          unfold a8
          split
          · dsimp -zeta only
            refine Within.foldl ?_ ?_
            · with_reducible assumption
            · intro x10 x11 x12
              refine Within.step ?_ (withPtp_within ..) rfl
              with_reducible assumption
          · with_reducible assumption
        clear_value a8
        split
        · refine Within.step ?_ (rxOk_within ..) rfl
          with_reducible assumption
        · refine Within.step ?_ (toRing_within ..) rfl
          with_reducible assumption
      · extract_lets +onlyGivenNames -merge a13
        have h14 : Within Parts.claim s a13 := by
          unfold a13
          refine Within.step ?_ (rxOk_within ..) rfl
          with_reducible assumption
        clear_value a13
        split
        · with_reducible assumption
        · extract_lets +onlyGivenNames -merge a15
          refine Within.step ?_ (sendOwn_within ..) rfl
          refine Within.step ?_ (set_mx_within ..) rfl
          with_reducible assumption
      · refine Within.step ?_ (toRing_within ..) rfl
        with_reducible assumption

theorem count_within (s : State) (f : Fld) (m n : Nat) : Within [f.ix] s (s.count f m n) := bump_within ..


def Parts.countEssence : List Part := [Part.fresh, 0x4860]
theorem countEssence_within (s : State) (m : Nat) : Within Parts.countEssence s (State.countEssence s m) := by
  have h0 : Within Parts.countEssence s s := .refl
  unfold State.countEssence
  split
  · with_reducible assumption
  · extract_lets +onlyGivenNames -merge a0
    have h1 : Within Parts.countEssence s a0.1 := by
      unfold a0
      refine Within.step ?_ (takeFree_within ..) rfl
      with_reducible assumption
    clear_value a0
    extract_lets +onlyGivenNames -merge a2
    have h3 : Within Parts.countEssence s a2.1 := by
      unfold a2
      refine Within.step ?_ (takeFree_within ..) rfl
      with_reducible assumption
    clear_value a2
    refine Within.step ?_ (bump_within ..) rfl
    refine Within.step ?_ (bump_within ..) rfl
    with_reducible assumption

def Parts.countPause : List Part := [0x4860]
theorem countPause_within (s : State) (m : Nat) : Within Parts.countPause s (State.countPause s m) := by
  have h0 : Within Parts.countPause s s := .refl
  unfold State.countPause
  split
  · with_reducible assumption
  · refine Within.step ?_ (bump_within ..) rfl
    with_reducible assumption

def Parts.endPause : List Part := [0x4860, Part.mx, Part.fresh, Part.tm, 0x4858, Part.host, 0x6048, 0x5030]
theorem endPause_within (s : State) (m : Nat) : Within Parts.endPause s (State.endPause s m) := by
  have h0 : Within Parts.endPause s s := .refl
  unfold State.endPause
  extract_lets +onlyGivenNames -merge a0
  clear_value a0
  split
  · with_reducible assumption
  · extract_lets +onlyGivenNames -merge a1
    have h2 : Within Parts.endPause s a1 := by
      unfold a1
      refine Within.step ?_ (setMacRun_within ..) rfl
      refine Within.step ?_ (bump_within ..) rfl
      with_reducible assumption
    clear_value a1
    extract_lets +onlyGivenNames -merge a3
    have h4 : Within Parts.endPause s a3 := by
      unfold a3
      refine Within.step ?_ (bump_within ..) rfl
      refine Within.step ?_ (bump_within ..) rfl
      with_reducible assumption
    clear_value a3
    extract_lets +onlyGivenNames -merge a5
    have h6 : Within Parts.endPause s a5 := by
      unfold a5
      refine Within.foldl ?_ ?_
      · with_reducible assumption
      · intro x7 x8 x9
        refine Within.step ?_ (ptpLeaves_within ..) rfl
        with_reducible assumption
    clear_value a5
    refine Within.foldl ?_ ?_
    · with_reducible assumption
    · intro x10 x11 x12
      refine Within.step ?_ (ownLeaves_within ..) rfl
      with_reducible assumption

def Parts.essenceWaits : List Part := [Part.mx, 0x4860]
theorem essenceWaits_within (s : State) (m : Nat) (packets : List Nat) : Within Parts.essenceWaits s (State.essenceWaits s m packets) := by
  have h0 : Within Parts.essenceWaits s s := .refl
  unfold State.essenceWaits
  extract_lets +onlyGivenNames -merge a0
  clear_value a0
  split
  · with_reducible assumption
  · extract_lets +onlyGivenNames -merge a1
    clear_value a1
    refine Within.step ?_ (bump_within ..) rfl
    refine Within.step ?_ (setMacRun_within ..) rfl
    with_reducible assumption

def Parts.giveBody : List Part := [Part.mx, 0x4870]
theorem giveBody_within (s : State) (f : FlowId) (b : RtpBody) : Within Parts.giveBody s (s.giveBody f b) := by
  have h0 : Within Parts.giveBody s s := .refl
  unfold State.giveBody
  split
  · exact h0
  · extract_lets +onlyGivenNames -merge a
    have ha : Within Parts.giveBody s a := by
      unfold a
      split
      · exact h0
      · exact h0.step (ancIn_within ..) rfl
    split
    · exact ha.step (setAncRun_within ..) rfl
    · exact ha
  · exact h0.step (set_mx_within ..) rfl


def Parts.pauseFor : List Part := [0x4860, Part.mx, Part.fresh, Part.tm, 0x4858, Part.host, 0x6048, 0x5030]
theorem pauseFor_within (s : State) (m : Nat) (quanta : Nat) : Within Parts.pauseFor s (State.pauseFor s m quanta) := by
  have h0 : Within Parts.pauseFor s s := .refl
  unfold State.pauseFor
  split
  · refine Within.step ?_ (endPause_within ..) rfl
    with_reducible assumption
  · extract_lets +onlyGivenNames -merge a0
    have h1 : Within Parts.pauseFor s a0 := by
      unfold a0
      refine Within.step ?_ (countPause_within ..) rfl
      with_reducible assumption
    clear_value a0
    refine Within.step ?_ (setMacRun_within ..) rfl
    with_reducible assumption

def Parts.macFrame : List Part := [0x4860, Part.mx, Part.fresh, Part.tm, 0x4858, Part.host, 0x6048, 0x5030, 0x4840, 0x4848, 0x4870, Part.al, 0x2864, Part.ev, Part.clk, 0x7820, 0x7808, Part.sys, 0x7810]
theorem macFrame_within (s : State) (m : Nat) (f : MacFrame) : Within Parts.macFrame s (State.macFrame s m f) := by
  have h0 : Within Parts.macFrame s s := .refl
  unfold State.macFrame
  split
  · with_reducible assumption
  · extract_lets +onlyGivenNames -merge a0
    have h1 : Within Parts.macFrame s a0 := by
      unfold a0
      refine Within.step ?_ (bump_within ..) rfl
      refine Within.step ?_ (bump_within ..) rfl
      with_reducible assumption
    clear_value a0
    split
    · refine Within.step ?_ (bump_within ..) rfl
      with_reducible assumption
    · split
      · refine Within.step ?_ (bump_within ..) rfl
        with_reducible assumption
      · split
        · split
          · refine Within.step ?_ (bump_within ..) rfl
            with_reducible assumption
          · split
            · extract_lets +onlyGivenNames -merge a2
              have h3 : Within Parts.macFrame s a2 := by
                unfold a2
                refine Within.step ?_ (essenceWaits_within ..) rfl
                refine Within.step ?_ (bump_within ..) rfl
                with_reducible assumption
              clear_value a2
              split
              · refine Within.step ?_ (pauseFor_within ..) rfl
                with_reducible assumption
              · with_reducible assumption
            · refine Within.step ?_ (bump_within ..) rfl
              with_reducible assumption
            · refine Within.step ?_ (claim_within ..) rfl
              with_reducible assumption
        · split
          · refine Within.step ?_ (bump_within ..) rfl
            with_reducible assumption
          · split
            · extract_lets +onlyGivenNames -merge a4
              have h5 : Within Parts.macFrame s a4 := by
                unfold a4
                refine Within.step ?_ (essenceWaits_within ..) rfl
                refine Within.step ?_ (bump_within ..) rfl
                with_reducible assumption
              clear_value a4
              split
              · refine Within.step ?_ (pauseFor_within ..) rfl
                with_reducible assumption
              · with_reducible assumption
            · refine Within.step ?_ (bump_within ..) rfl
              with_reducible assumption
            · refine Within.step ?_ (claim_within ..) rfl
              with_reducible assumption

def Parts.macLink : List Part := [Part.mx, Part.tm, 0x5018, 0x6048, Part.host, 0x5030, 0x4028, Part.lk, 0x4038]
theorem macLink_within (s : State) (m : Nat) (up : Bool) (taps : List (Nat × Nat)) : Within Parts.macLink s (State.macLink s m up taps) := by
  have h0 : Within Parts.macLink s s := .refl
  unfold State.macLink
  split
  · with_reducible assumption
  · extract_lets +onlyGivenNames -merge a0
    clear_value a0
    extract_lets +onlyGivenNames -merge a1
    clear_value a1
    extract_lets +onlyGivenNames -merge a2
    have h3 : Within Parts.macLink s a2 := by
      unfold a2
      refine Within.step ?_ (setMacRun_within ..) rfl
      with_reducible assumption
    clear_value a2
    extract_lets +onlyGivenNames -merge a4
    have h5 : Within Parts.macLink s a4 := by
      unfold a4
      split
      · with_reducible assumption
      · refine Within.step ?_ (ptpRestarts_within ..) rfl
        with_reducible assumption
    clear_value a4
    extract_lets +onlyGivenNames -merge a6
    clear_value a6
    extract_lets +onlyGivenNames -merge a7
    have h8 : Within Parts.macLink s a7 := by
      unfold a7
      refine Within.foldl ?_ ?_
      · with_reducible assumption
      · intro x9 x10 x11
        split
        · refine Within.step ?_ (setLane_within ..) rfl
          with_reducible assumption
        · split
          · refine Within.step ?_ (loseLock_within ..) rfl
            with_reducible assumption
          · refine Within.step ?_ (setLane_within ..) rfl
            with_reducible assumption
    clear_value a7
    split
    · with_reducible assumption
    · extract_lets +onlyGivenNames -merge a12
      have h13 : Within Parts.macLink s a12 := by
        unfold a12
        refine Within.foldl ?_ ?_
        · with_reducible assumption
        · intro x14 x15 x16
          refine Within.step ?_ (setLane_within ..) rfl
          with_reducible assumption
      clear_value a12
      refine Within.foldl ?_ ?_
      · with_reducible assumption
      · intro x17 x18 x19
        split
        · refine Within.step ?_ (setLaneRun_within ..) rfl
          with_reducible assumption
        · with_reducible assumption

def Parts.pauseExpire : List Part := [Part.clk, Part.mx, 0x4860, Part.fresh, Part.tm, 0x4858, Part.host, 0x6048, 0x5030]
theorem pauseExpire_within (s : State) (m : Nat) (packets : List Nat) : Within Parts.pauseExpire s (State.pauseExpire s m packets) := by
  have h0 : Within Parts.pauseExpire s s := .refl
  unfold State.pauseExpire
  split
  · with_reducible assumption
  · refine Within.step ?_ (endPause_within ..) rfl
    refine Within.step ?_ (essenceWaits_within ..) rfl
    refine Within.step ?_ (waitUntil_within ..) rfl
    with_reducible assumption

def Parts.release : List Part := [Part.clk, Part.mx, 0x4870, 0x6048, Part.host]
theorem release_within (s : State) (f : FlowId) (last : Nat) : Within Parts.release s (State.release s f last) := by
  have h0 : Within Parts.release s s := .refl
  unfold State.release
  split
  · with_reducible assumption
  · extract_lets +onlyGivenNames -merge a0
    clear_value a0
    extract_lets +onlyGivenNames -merge a1
    clear_value a1
    extract_lets +onlyGivenNames -merge a2
    have h3 : Within Parts.release s a2 := by
      unfold a2
      refine Within.step ?_ (waitCount_within ..) rfl
      with_reducible assumption
    clear_value a2
    extract_lets +onlyGivenNames -merge a4
    clear_value a4
    extract_lets +onlyGivenNames -merge a5
    extract_lets +onlyGivenNames -merge a6
    extract_lets +onlyGivenNames -merge a7
    clear_value a7
    extract_lets +onlyGivenNames -merge a8
    have h9 : Within Parts.release s a8 := by
      unfold a8
      refine Within.step ?_ (setRxFlow_within ..) rfl
      with_reducible assumption
    clear_value a8
    extract_lets +onlyGivenNames -merge a10
    have h11 : Within Parts.release s a10 := by
      unfold a10
      refine Within.foldl ?_ ?_
      · with_reducible assumption
      · intro x12 x13 x14
        refine Within.step ?_ (giveBody_within ..) rfl
        with_reducible assumption
    clear_value a10
    split
    · with_reducible assumption
    · extract_lets +onlyGivenNames -merge a15
      extract_lets +onlyGivenNames -merge a16
      have h17 : Within Parts.release s a16 := by
        unfold a16
        refine Within.step ?_ (bump_within ..) rfl
        refine Within.step ?_ (bump_within ..) rfl
        with_reducible assumption
      clear_value a16
      extract_lets +onlyGivenNames -merge a18
      have h19 : Within Parts.release s a18 := by
        unfold a18
        refine Within.step ?_ (bump_within ..) rfl
        with_reducible assumption
      clear_value a18
      split
      · with_reducible assumption
      · extract_lets +onlyGivenNames -merge a20
        extract_lets +onlyGivenNames -merge a21
        have h22 : Within Parts.release s a21 := by
          unfold a21
          refine Within.step ?_ (setNotify_within ..) rfl
          with_reducible assumption
        clear_value a21
        split
        · refine Within.step ?_ (setLink_within ..) rfl
          with_reducible assumption
        · with_reducible assumption

def Parts.ringSend : List Part := [0x4860, Part.mx, 0x4858, Part.host, 0x6048, 0x4840]
theorem ringSend_within (s : State) (m : Nat) (l : List (W × W)) (ptp : Option (Nat × Nat)) : Within Parts.ringSend s (State.ringSend s m l ptp) := by
  have h0 : Within Parts.ringSend s s := .refl
  unfold State.ringSend
  extract_lets +onlyGivenNames -merge a0
  split
  · with_reducible assumption
  · extract_lets +onlyGivenNames -merge a1
    clear_value a1
    extract_lets +onlyGivenNames -merge a2
    extract_lets +onlyGivenNames -merge a3
    have h4 : Within Parts.ringSend s a3 := by
      unfold a3
      refine Within.step ?_ (bump_within ..) rfl
      refine Within.step ?_ (bump_within ..) rfl
      with_reducible assumption
    clear_value a3
    extract_lets +onlyGivenNames -merge a5
    have h6 : Within Parts.ringSend s a5.1 := by
      unfold a5
      refine Within.step ?_ (stamp_within ..) rfl
      with_reducible assumption
    clear_value a5
    extract_lets +onlyGivenNames -merge a7
    have h8 : Within Parts.ringSend s a7.1 := by
      unfold a7
      split
      · with_reducible assumption
      · with_reducible assumption
    clear_value a7
    refine Within.step ?_ (handBack_within ..) rfl
    with_reducible assumption

def Parts.setSdiRun : List Part := [Part.mx]
theorem setSdiRun_within (s : State) (x : SdiRun) : Within Parts.setSdiRun s (State.setSdiRun s x) := by
  have h0 : Within Parts.setSdiRun s s := .refl
  unfold State.setSdiRun
  refine Within.step ?_ (set_mx_within ..) rfl
  with_reducible assumption

def Parts.sdiPicture : List Part := [Part.mx, 0x4870, 0x6048, Part.host, Part.al, 0x2864, Part.ev, Part.clk, 0x7820, 0x7808, Part.sys, 0x7810]
theorem sdiPicture_within (s : State) (p : Nat) (x : SdiRun) (rate : Nat) : Within Parts.sdiPicture s (State.sdiPicture s p x rate) := by
  have h0 : Within Parts.sdiPicture s s := .refl
  unfold State.sdiPicture
  extract_lets +onlyGivenNames -merge a0
  clear_value a0
  extract_lets +onlyGivenNames -merge a1
  clear_value a1
  extract_lets +onlyGivenNames -merge a2
  have h3 : Within Parts.sdiPicture s a2 := by
    unfold a2
    refine Within.step ?_ (setSdiRun_within ..) rfl
    with_reducible assumption
  clear_value a2
  split
  · refine Within.step ?_ (portFormat_within ..) rfl
    with_reducible assumption
  · refine Within.step ?_ (setLink_within ..) rfl
    with_reducible assumption

def Parts.sdiRx : List Part := [0x4028, 0x6048, Part.host, 0x4870, Part.mx, Part.al, 0x2864, Part.ev, Part.clk, 0x7820, 0x7808, Part.sys, 0x7810]
theorem sdiRx_within (s : State) (p : Nat) (x : SdiLine) : Within Parts.sdiRx s (State.sdiRx s p x) := by
  have h0 : Within Parts.sdiRx s s := .refl
  unfold State.sdiRx
  extract_lets +onlyGivenNames -merge a0
  clear_value a0
  extract_lets +onlyGivenNames -merge a1
  clear_value a1
  split
  · with_reducible assumption
  · extract_lets +onlyGivenNames -merge a2
    extract_lets +onlyGivenNames -merge a3
    extract_lets +onlyGivenNames -merge a4
    have h5 : Within Parts.sdiRx s a4 := by
      unfold a4
      refine Within.step ?_ (setLane_within ..) rfl
      refine Within.step ?_ (setFld_within ..) rfl
      with_reducible assumption
    clear_value a4
    extract_lets +onlyGivenNames -merge a6
    have h7 : Within Parts.sdiRx s a6 := by
      unfold a6
      refine Within.step ?_ (bump_within ..) rfl
      with_reducible assumption
    clear_value a6
    extract_lets +onlyGivenNames -merge a8
    have h9 : Within Parts.sdiRx s a8 := by
      unfold a8
      refine Within.step ?_ (ancIn_within ..) rfl
      with_reducible assumption
    clear_value a8
    extract_lets +onlyGivenNames -merge a10
    clear_value a10
    extract_lets +onlyGivenNames -merge a11
    extract_lets +onlyGivenNames -merge a12
    clear_value a12
    extract_lets +onlyGivenNames -merge a13
    have h14 : Within Parts.sdiRx s a13 := by
      unfold a13
      split
      · refine Within.step ?_ (setSdiRun_within ..) rfl
        refine Within.step ?_ (setFld_within ..) rfl
        with_reducible assumption
      · refine Within.step ?_ (setSdiRun_within ..) rfl
        with_reducible assumption
    clear_value a13
    split
    · refine Within.step ?_ (sdiPicture_within ..) rfl
      with_reducible assumption
    · with_reducible assumption

def Parts.sdiTx : List Part := [Part.mx, 0x4870]
theorem sdiTx_within (s : State) (p : Nat) (line : Nat) (audio : List (Nat × Nat × Nat)) (anc : List Anc) (gap : Bool) : Within Parts.sdiTx s (State.sdiTx s p line audio anc gap) := by
  have h0 : Within Parts.sdiTx s s := .refl
  unfold State.sdiTx
  extract_lets +onlyGivenNames -merge a0
  clear_value a0
  extract_lets +onlyGivenNames -merge a1
  clear_value a1
  split
  · with_reducible assumption
  · extract_lets +onlyGivenNames -merge a2
    extract_lets +onlyGivenNames -merge a3
    clear_value a3
    extract_lets +onlyGivenNames -merge a4
    extract_lets +onlyGivenNames -merge a5
    clear_value a5
    extract_lets +onlyGivenNames -merge a6
    clear_value a6
    extract_lets +onlyGivenNames -merge a7
    have h8 : Within Parts.sdiTx s a7 := by
      unfold a7
      refine Within.step ?_ (set_mx_within ..) rfl
      with_reducible assumption
    clear_value a7
    extract_lets +onlyGivenNames -merge a9
    have h10 : Within Parts.sdiTx s a9 := by
      unfold a9
      refine Within.step ?_ (bump_within ..) rfl
      refine Within.step ?_ (setAncRun_within ..) rfl
      with_reducible assumption
    clear_value a9
    split
    · refine Within.step ?_ (bump_within ..) rfl
      with_reducible assumption
    · with_reducible assumption

def Parts.statsTake : List Part := [Part.fresh, 0x4860, Part.mx]
theorem statsTake_within (s : State) (m : Nat) (pcie : Bool) : Within Parts.statsTake s (State.statsTake s m pcie).2 := by
  have h0 : Within Parts.statsTake s s := .refl
  unfold State.statsTake
  extract_lets +onlyGivenNames -merge a0
  have h1 : Within Parts.statsTake s a0 := by
    unfold a0
    refine Within.step ?_ (countEssence_within ..) rfl
    with_reducible assumption
  clear_value a0
  extract_lets +onlyGivenNames -merge a2
  clear_value a2
  extract_lets +onlyGivenNames -merge a3
  have h4 : Within Parts.statsTake s a3 := by
    unfold a3
    refine Within.foldl ?_ ?_
    · with_reducible assumption
    · intro x5 x6 x7
      refine Within.step ?_ (setWord_within ..) rfl
      with_reducible assumption
  clear_value a3
  dsimp -zeta only
  split
  · refine Within.step ?_ (set_mx_within ..) rfl
    with_reducible assumption
  · with_reducible assumption

def Parts.tsqPop : List Part := [Part.mx, 0x4850]
theorem tsqPop_within (s : State) (e : Nat) : Within Parts.tsqPop s (State.tsqPop s e).2 := by
  have h0 : Within Parts.tsqPop s s := .refl
  unfold State.tsqPop
  extract_lets +onlyGivenNames -merge a0
  clear_value a0
  extract_lets +onlyGivenNames -merge a1
  clear_value a1
  extract_lets +onlyGivenNames -merge a2
  have h3 : Within Parts.tsqPop s a2 := by
    unfold a2
    refine Within.step ?_ (setTsQueue_within ..) rfl
    with_reducible assumption
  clear_value a2
  dsimp -zeta only
  refine Within.step ?_ (setWord_within ..) rfl
  with_reducible assumption

def Parts.putAflow : List Part := [0x4830, 0x4828, 0x1028, Part.save, Part.mx]
theorem putAflow_within (tx : Bool) (e w : Nat) (v : W) : PutWithin Parts.putAflow (putAflow tx e w v) := by
  unfold putAflow
  extract_lets +onlyGivenNames ix
  have hi : sub [ix, 0x1028, Part.save] Parts.putAflow = true := by cases tx <;> rfl
  refine ⟨by cases tx <;> rfl, fun s => ?_⟩
  have h0 : Within Parts.putAflow s s := .refl
  dsimp -zeta only
  extract_lets +onlyGivenNames -merge o on moves
  split
  · exact h0
  · extract_lets +onlyGivenNames -merge t
    have ht : Within Parts.putAflow s t := h0.step (putWord_within ..) hi
    clear_value t
    split
    · exact h0
    · extract_lets +onlyGivenNames -merge id
      dsimp -zeta only
      split
      · exact ht.step (set_mx_within ..) rfl
      · exact ht


def Parts.execAflowWrite : List Part := [0x4830, 0x4828, 0x1028, Part.save, Part.mx, Part.shadow, 0x6040, 0x6048, 0x7808, 0x7810, 0x7820, Part.clk, Part.sys, Part.host, Part.ev, Part.pw]
theorem execAflowWrite_within (rq : Req) (tx : Bool) (e : Nat) (w : Nat) (v : W) (s : State) : ExecWithin Parts.execAflowWrite s (execAflowWrite rq tx e w v s) := by
  have h0 : Within Parts.execAflowWrite s s := .refl
  unfold execAflowWrite
  extract_lets +onlyGivenNames -merge a0
  have h1 : PutWithin Parts.execAflowWrite a0 := by
    unfold a0
    exact PutWithin.step (putAflow_within ..) rfl
  clear_value a0
  refine ⟨_, rfl, ?_⟩
  refine request_within rfl ?_ ?_
  · with_reducible assumption
  · with_reducible assumption

def Parts.execMacLinkChange : List Part := [Part.mx, Part.tm, 0x5018, 0x6048, Part.host, 0x5030, 0x4028, Part.lk, 0x4038]
theorem execMacLinkChange_within (m : Nat) (up : Bool) (taps : List (Nat × Nat)) (s : State) : ExecWithin Parts.execMacLinkChange s (execMacLinkChange m up taps s) := by
  have h0 : Within Parts.execMacLinkChange s s := .refl
  unfold execMacLinkChange
  refine ⟨_, rfl, ?_⟩
  refine Within.step ?_ (macLink_within ..) rfl
  with_reducible assumption

def Parts.execMacRxFrame : List Part := [0x4860, Part.mx, Part.fresh, Part.tm, 0x4858, Part.host, 0x6048, 0x5030, 0x4840, 0x4848, 0x4870, Part.al, 0x2864, Part.ev, Part.clk, 0x7820, 0x7808, Part.sys, 0x7810]
theorem execMacRxFrame_within (m : Nat) (f : MacFrame) (s : State) : ExecWithin Parts.execMacRxFrame s (execMacRxFrame m f s) := by
  have h0 : Within Parts.execMacRxFrame s s := .refl
  unfold execMacRxFrame
  refine ⟨_, rfl, ?_⟩
  refine Within.step ?_ (macFrame_within ..) rfl
  with_reducible assumption

def Parts.putMac : List Part := [0x4810, 0x1028, Part.save, Part.ev, Part.mx, Part.tm, 0x5018, 0x6048, Part.host, 0x5030]
theorem putMac_within (m : Nat) (w : Nat) (v : W) : PutWithin Parts.putMac (putMac m w v) := by
  unfold putMac
  refine ⟨rfl, fun s0 => ?_⟩
  dsimp -zeta only
  have h00 : Within Parts.putMac s0 s0 := .refl
  extract_lets +onlyGivenNames -merge a0
  clear_value a0
  extract_lets +onlyGivenNames -merge a1
  clear_value a1
  split
  · with_reducible assumption
  · split
    · split
      · with_reducible assumption
      · split
        · with_reducible assumption
        · extract_lets +onlyGivenNames -merge a2
          have h3 : Within Parts.putMac s0 a2 := by
            unfold a2
            refine Within.step ?_ (putWord_within ..) rfl
            with_reducible assumption
          clear_value a2
          split
          · with_reducible assumption
          · extract_lets +onlyGivenNames -merge a4
            have h5 : Within Parts.putMac s0 a4 := by
              unfold a4
              refine Within.step ?_ (putBack_within ..) rfl
              with_reducible assumption
            clear_value a4
            extract_lets +onlyGivenNames -merge a6
            have h7 : Within Parts.putMac s0 a6 := by
              unfold a6
              split
              · refine Within.step ?_ (setMacRun_within ..) rfl
                with_reducible assumption
              · with_reducible assumption
            clear_value a6
            dsimp -zeta only
            split
            · with_reducible assumption
            · refine Within.step ?_ (ptpRestarts_within ..) rfl
              with_reducible assumption
    · split
      · with_reducible assumption
      · split
        · with_reducible assumption
        · extract_lets +onlyGivenNames -merge a8
          have h9 : Within Parts.putMac s0 a8 := by
            unfold a8
            refine Within.step ?_ (putWord_within ..) rfl
            with_reducible assumption
          clear_value a8
          split
          · with_reducible assumption
          · extract_lets +onlyGivenNames -merge a10
            have h11 : Within Parts.putMac s0 a10 := by
              unfold a10
              refine Within.step ?_ (putBack_within ..) rfl
              with_reducible assumption
            clear_value a10
            extract_lets +onlyGivenNames -merge a12
            have h13 : Within Parts.putMac s0 a12 := by
              unfold a12
              split
              · refine Within.step ?_ (setMacRun_within ..) rfl
                with_reducible assumption
              · with_reducible assumption
            clear_value a12
            dsimp -zeta only
            split
            · with_reducible assumption
            · refine Within.step ?_ (ptpRestarts_within ..) rfl
              with_reducible assumption

def Parts.execMxMacWrite : List Part := [0x4810, 0x1028, Part.save, Part.ev, Part.mx, Part.tm, 0x5018, 0x6048, Part.host, 0x5030, Part.shadow, 0x6040, 0x7808, 0x7810, 0x7820, Part.clk, Part.sys, Part.pw]
theorem execMxMacWrite_within (rq : Req) (m : Nat) (w : Nat) (v : W) (s : State) : ExecWithin Parts.execMxMacWrite s (execMxMacWrite rq m w v s) := by
  have h0 : Within Parts.execMxMacWrite s s := .refl
  unfold execMxMacWrite
  extract_lets +onlyGivenNames -merge a0
  have h1 : PutWithin Parts.execMxMacWrite a0 := by
    unfold a0
    exact PutWithin.step (putMac_within ..) rfl
  clear_value a0
  refine ⟨_, rfl, ?_⟩
  refine request_within rfl ?_ ?_
  · with_reducible assumption
  · with_reducible assumption

def Parts.putRing : List Part := [0x4840, 0x1028, Part.save, Part.mx]
theorem putRing_within (rq : Req) (e : Nat) (w : Nat) (v : W) : PutWithin Parts.putRing (putRing rq e w v) := by
  unfold putRing
  refine ⟨rfl, fun s0 => ?_⟩
  dsimp -zeta only
  have h00 : Within Parts.putRing s0 s0 := .refl
  extract_lets +onlyGivenNames -merge a0
  clear_value a0
  split
  · with_reducible assumption
  · extract_lets +onlyGivenNames -merge a1
    have h2 : Within Parts.putRing s0 a1 := by
      unfold a1
      refine Within.step ?_ (putWord_within ..) rfl
      with_reducible assumption
    clear_value a1
    split
    · with_reducible assumption
    · extract_lets +onlyGivenNames -merge a3
      clear_value a3
      extract_lets +onlyGivenNames -merge a4
      have h5 : Within Parts.putRing s0 a4 := by
        unfold a4
        refine Within.step ?_ (set_mx_within ..) rfl
        with_reducible assumption
      clear_value a4
      dsimp -zeta only
      split
      · refine Within.step ?_ (setFld_within ..) rfl
        with_reducible assumption
      · with_reducible assumption

def Parts.execMxRingWrite : List Part := [0x4840, 0x1028, Part.save, Part.mx, Part.shadow, 0x6040, 0x6048, 0x7808, 0x7810, 0x7820, Part.clk, Part.sys, Part.host, Part.ev, Part.pw]
theorem execMxRingWrite_within (rq : Req) (e : Nat) (w : Nat) (v : W) (s : State) : ExecWithin Parts.execMxRingWrite s (execMxRingWrite rq e w v s) := by
  have h0 : Within Parts.execMxRingWrite s s := .refl
  unfold execMxRingWrite
  extract_lets +onlyGivenNames -merge a0
  have h1 : PutWithin Parts.execMxRingWrite a0 := by
    unfold a0
    exact PutWithin.step (putRing_within ..) rfl
  clear_value a0
  refine ⟨_, rfl, ?_⟩
  refine request_within rfl ?_ ?_
  · with_reducible assumption
  · with_reducible assumption

def Parts.execMxStatsRead : List Part := [Part.fresh, 0x4860, Part.mx, 0x6040, 0x6048, 0x7808, 0x7810, 0x7820, Part.shadow, Part.clk, Part.sys, Part.host, Part.ev, Part.pw]
theorem execMxStatsRead_within (rq : Req) (m : Nat) (s : State) : ExecWithin Parts.execMxStatsRead s (execMxStatsRead rq m s) := by
  have h0 : Within Parts.execMxStatsRead s s := .refl
  unfold execMxStatsRead
  refine ⟨_, rfl, ?_⟩
  refine hostRead_within rfl ?_ ?_
  · with_reducible assumption
  · intro x0 x1
    refine Within.step ?_ (statsTake_within ..) rfl
    with_reducible assumption

def Parts.execPauseExpire : List Part := [Part.clk, Part.mx, 0x4860, Part.fresh, Part.tm, 0x4858, Part.host, 0x6048, 0x5030]
theorem execPauseExpire_within (m : Nat) (packets : List Nat) (s : State) : ExecWithin Parts.execPauseExpire s (execPauseExpire m packets s) := by
  have h0 : Within Parts.execPauseExpire s s := .refl
  unfold execPauseExpire
  refine ⟨_, rfl, ?_⟩
  refine Within.step ?_ (pauseExpire_within ..) rfl
  with_reducible assumption

def Parts.execRingTxFrame : List Part := [0x4860, Part.mx, 0x4858, Part.host, 0x6048, 0x4840]
theorem execRingTxFrame_within (m : Nat) (descs : List (W × W)) (ptp : Option (Nat × Nat)) (s : State) : ExecWithin Parts.execRingTxFrame s (execRingTxFrame m descs ptp s) := by
  have h0 : Within Parts.execRingTxFrame s s := .refl
  unfold execRingTxFrame
  refine ⟨_, rfl, ?_⟩
  refine Within.step ?_ (ringSend_within ..) rfl
  with_reducible assumption

def Parts.execSdiRxLine : List Part := [0x4028, 0x6048, Part.host, 0x4870, Part.mx, Part.al, 0x2864, Part.ev, Part.clk, 0x7820, 0x7808, Part.sys, 0x7810]
theorem execSdiRxLine_within (p : Nat) (x : SdiLine) (s : State) : ExecWithin Parts.execSdiRxLine s (execSdiRxLine p x s) := by
  have h0 : Within Parts.execSdiRxLine s s := .refl
  unfold execSdiRxLine
  refine ⟨_, rfl, ?_⟩
  refine Within.step ?_ (sdiRx_within ..) rfl
  with_reducible assumption

def Parts.execSdiTxLine : List Part := [Part.mx, 0x4870]
theorem execSdiTxLine_within (p : Nat) (line : Nat) (audio : List (Nat × Nat × Nat)) (anc : List Anc) (gap : Bool) (s : State) : ExecWithin Parts.execSdiTxLine s (execSdiTxLine p line audio anc gap s) := by
  have h0 : Within Parts.execSdiTxLine s s := .refl
  unfold execSdiTxLine
  refine ⟨_, rfl, ?_⟩
  refine Within.step ?_ (sdiTx_within ..) rfl
  with_reducible assumption

def Parts.execSt2110Release : List Part := [Part.clk, Part.mx, 0x4870, 0x6048, Part.host]
theorem execSt2110Release_within (f : FlowId) (last : Nat) (s : State) : ExecWithin Parts.execSt2110Release s (execSt2110Release f last s) := by
  have h0 : Within Parts.execSt2110Release s s := .refl
  unfold execSt2110Release
  refine ⟨_, rfl, ?_⟩
  refine whileRunning_within  ?_ ?_
  · with_reducible assumption
  · intro x0 x1
    refine Within.step ?_ (release_within ..) rfl
    with_reducible assumption

def Parts.execTsqRead : List Part := [Part.mx, 0x4850, 0x6040, 0x6048, 0x7808, 0x7810, 0x7820, Part.shadow, Part.clk, Part.sys, Part.host, Part.ev, Part.pw]
theorem execTsqRead_within (rq : Req) (e : Nat) (s : State) : ExecWithin Parts.execTsqRead s (execTsqRead rq e s) := by
  have h0 : Within Parts.execTsqRead s s := .refl
  unfold execTsqRead
  refine ⟨_, rfl, ?_⟩
  refine hostRead_within rfl ?_ ?_
  · with_reducible assumption
  · intro x0 x1
    refine Within.step ?_ (tsqPop_within ..) rfl
    with_reducible assumption

def Parts.putXport : List Part := [0x4820, 0x4818, Part.shadow, 0x2848, 0x6048, Part.host]
theorem putXport_within (s : State) (dst : Bool) (p : Nat) (w : Nat) (v : W) : PutWithin Parts.putXport (putXport s dst p w v) := by
  have h0 : Within Parts.putXport s s := .refl
  unfold putXport
  refine ⟨by cases ‹Bool› <;> rfl, fun s0 => ?_⟩
  dsimp -zeta only
  have h00 : Within Parts.putXport s0 s0 := .refl
  split
  · with_reducible assumption
  · refine editShadow_within rfl ?_ ?_
    · with_reducible assumption
    · intro x0 x1
      refine Within.step ?_ (setShadow_within ..) rfl
      with_reducible assumption

def Parts.execXportWrite : List Part := [0x4820, 0x4818, Part.shadow, 0x2848, 0x6048, Part.host, 0x1028, Part.save, 0x6040, 0x7808, 0x7810, 0x7820, Part.clk, Part.sys, Part.ev, Part.pw]
theorem execXportWrite_within (rq : Req) (dst : Bool) (p : Nat) (w : Nat) (v : W) (s : State) : ExecWithin Parts.execXportWrite s (execXportWrite rq dst p w v s) := by
  have h0 : Within Parts.execXportWrite s s := .refl
  unfold execXportWrite
  extract_lets +onlyGivenNames -merge a0
  have h1 : PutWithin Parts.execXportWrite a0 := by
    unfold a0
    exact PutWithin.step (putXport_within ..) rfl
  clear_value a0
  refine ⟨_, rfl, ?_⟩
  refine request_within rfl ?_ ?_
  · with_reducible assumption
  · with_reducible assumption

def Parts.putRecipe : List Part := [0x4868, 0x1028, Part.save]
theorem putRecipe_within (e : Nat) (v : W) : PutWithin Parts.putRecipe (putRecipe e v) := by
  unfold putRecipe
  refine ⟨rfl, fun s0 => ?_⟩
  dsimp -zeta only
  have h00 : Within Parts.putRecipe s0 s0 := .refl
  refine Within.step ?_ (putWord_within ..) rfl
  with_reducible assumption

end Sys2Proof.Machine
end

