-- ==== Sys2Proof/Laws/WithinPower.lean ====
section
/-! SUPPORT. What the operations of Machine/Power.lean may change: for each the parts of the state, and that it keeps to them. -/
namespace Sys2Proof.Machine

def Parts.ageRecord : List Part := [0x8850]
theorem ageRecord_within (s : State) : Within Parts.ageRecord s (State.ageRecord s) := by
  have h0 : Within Parts.ageRecord s s := .refl
  unfold State.ageRecord
  refine Within.foldl ?_ ?_
  · with_reducible assumption
  · intro x0 x1 x2
    extract_lets +onlyGivenNames -merge a3
    clear_value a3
    extract_lets +onlyGivenNames -merge a4
    extract_lets +onlyGivenNames -merge a5
    have h6 : Within Parts.ageRecord s a5 := by
      unfold a5
      refine Within.step ?_ (setFld_within ..) rfl
      refine Within.step ?_ (setFld_within ..) rfl
      with_reducible assumption
    clear_value a5
    extract_lets +onlyGivenNames -merge a7
    have h8 : Within Parts.ageRecord s a7 := by
      unfold a7
      refine Within.step ?_ (setFld_within ..) rfl
      refine Within.step ?_ (setFld_within ..) rfl
      with_reducible assumption
    clear_value a7
    refine Within.step ?_ (setFld_within ..) rfl
    with_reducible assumption

def Parts.project : List Part := [0x8828, Part.pw, Part.ev, Part.host, Part.clk, 0x7820, 0x6048, 0x7808, Part.sys, 0x7810]
theorem project_within (s : State) (d : Nat) : Within Parts.project s (State.project s d) := by
  have h0 : Within Parts.project s s := .refl
  unfold State.project
  extract_lets +onlyGivenNames -merge a0
  clear_value a0
  extract_lets +onlyGivenNames -merge a1
  have h2 : Within Parts.project s a1 := by
    unfold a1
    refine Within.step ?_ (setFld_within ..) rfl
    refine Within.step ?_ (setFld_within ..) rfl
    with_reducible assumption
  clear_value a1
  extract_lets +onlyGivenNames -merge a3
  have h4 : Within Parts.project s a3 := by
    unfold a3
    refine Within.step ?_ (setFld_within ..) rfl
    refine Within.step ?_ (setFld_within ..) rfl
    with_reducible assumption
  clear_value a3
  extract_lets +onlyGivenNames -merge a5
  clear_value a5
  split
  · refine Within.step ?_ (raise_within ..) rfl
    refine Within.step ?_ (withPw_within ..) rfl
    with_reducible assumption
  · with_reducible assumption

def Parts.ageingUpdate : List Part := [Part.pw, 0x8828, Part.ev, Part.host, Part.clk, 0x7820, 0x6048, 0x7808, Part.sys, 0x7810]
theorem ageingUpdate_within (s : State) (inp : List AgeInput) : Within Parts.ageingUpdate s (State.ageingUpdate s inp) := by
  have h0 : Within Parts.ageingUpdate s s := .refl
  unfold State.ageingUpdate
  extract_lets +onlyGivenNames -merge a0
  have h1 : Within Parts.ageingUpdate s a0 := by
    unfold a0
    refine Within.step ?_ (withPw_within ..) rfl
    with_reducible assumption
  clear_value a0
  refine Within.foldl ?_ ?_
  · with_reducible assumption
  · intro x2 x3 x4
    refine Within.step ?_ (project_within ..) rfl
    with_reducible assumption

def Parts.setDomain : List Part := [0x8810, 0x6048, Part.host]
theorem setDomain_within (s : State) (e : Nat) (n : Nat) : Within Parts.setDomain s (State.setDomain s e n) := by
  have h0 : Within Parts.setDomain s s := .refl
  unfold State.setDomain
  refine Within.step ?_ (setNotify_within ..) rfl
  with_reducible assumption

def Parts.riseDomain : List Part := [0x8810, 0x6048, Part.host, Part.pw]
theorem riseDomain_within (s : State) (e : Nat) : Within Parts.riseDomain s (State.riseDomain s e) := by
  have h0 : Within Parts.riseDomain s s := .refl
  unfold State.riseDomain
  extract_lets +onlyGivenNames -merge a0
  have h1 : Within Parts.riseDomain s a0 := by
    unfold a0
    refine Within.step ?_ (setDomain_within ..) rfl
    with_reducible assumption
  clear_value a0
  split
  · refine Within.step ?_ (withPw_within ..) rfl
    with_reducible assumption
  · refine Within.step ?_ (withPw_within ..) rfl
    with_reducible assumption

def Parts.endRise : List Part := [Part.pw]
theorem endRise_within (s : State) (e : Nat) : Within Parts.endRise s (State.endRise s e) := by
  have h0 : Within Parts.endRise s s := .refl
  unfold State.endRise
  extract_lets +onlyGivenNames -merge a0
  have h1 : Within Parts.endRise s a0 := by
    unfold a0
    refine Within.step ?_ (withPw_within ..) rfl
    with_reducible assumption
  clear_value a0
  split
  · refine Within.step ?_ (withPw_within ..) rfl
    with_reducible assumption
  · with_reducible assumption

def Parts.stopLanes : List Part := [Part.mx, Part.lk, 0x4028, 0x6048, Part.host, Part.tm, 0x5018, 0x4038]
theorem stopLanes_within (s : State) (e : Nat) : Within Parts.stopLanes s (State.stopLanes s e) := by
  have h0 : Within Parts.stopLanes s s := .refl
  unfold State.stopLanes
  split
  · refine Within.foldl ?_ ?_
    · with_reducible assumption
    · intro x0 x1 x2
      refine Within.step ?_ (stopLane_within ..) rfl
      with_reducible assumption
  · with_reducible assumption

def Parts.fallDomain : List Part := [Part.pw, 0x8810, 0x6048, Part.host, Part.mx, Part.lk, 0x4028, Part.tm, 0x5018, 0x4038]
theorem fallDomain_within (s : State) (e : Nat) : Within Parts.fallDomain s (State.fallDomain s e) := by
  have h0 : Within Parts.fallDomain s s := .refl
  unfold State.fallDomain
  split
  · refine Within.step ?_ (setDomain_within ..) rfl
    refine Within.step ?_ (withPw_within ..) rfl
    with_reducible assumption
  · extract_lets +onlyGivenNames -merge a0
    have h1 : Within Parts.fallDomain s a0 := by
      unfold a0
      split
      · refine Within.step ?_ (endRise_within ..) rfl
        with_reducible assumption
      · with_reducible assumption
    clear_value a0
    refine Within.step ?_ (setDomain_within ..) rfl
    refine Within.step ?_ (stopLanes_within ..) rfl
    with_reducible assumption

def Parts.applyDomain : List Part := [0x8810, 0x6048, Part.host, Part.pw, Part.mx, Part.lk, 0x4028, Part.tm, 0x5018, 0x4038]
theorem applyDomain_within (s : State) (e : Nat) : Within Parts.applyDomain s (State.applyDomain s e) := by
  have h0 : Within Parts.applyDomain s s := .refl
  unfold State.applyDomain
  extract_lets +onlyGivenNames -merge a0
  split
  · with_reducible assumption
  · split
    · split
      · refine Within.step ?_ (riseDomain_within ..) rfl
        with_reducible assumption
      · with_reducible assumption
    · split
      · refine Within.step ?_ (fallDomain_within ..) rfl
        with_reducible assumption
      · with_reducible assumption

def Parts.supplySeen : List Part := [0x8808]
theorem supplySeen_within (s : State) (c : Nat) : Within Parts.supplySeen s (State.supplySeen s c) := by
  have h0 : Within Parts.supplySeen s s := .refl
  unfold State.supplySeen
  refine Within.step ?_ (setFld_within ..) rfl
  with_reducible assumption

def Parts.coreDip : List Part := [0x8808]
theorem coreDip_within (s : State) (c : Nat) (below : Bool) : Within Parts.coreDip s (State.coreDip s c below) := by
  have h0 : Within Parts.coreDip s s := .refl
  unfold State.coreDip
  split
  · with_reducible assumption
  · extract_lets +onlyGivenNames -merge a0
    split
    · refine Within.step ?_ (supplySeen_within ..) rfl
      refine Within.step ?_ (setFld_within ..) rfl
      with_reducible assumption
    · refine Within.step ?_ (setFld_within ..) rfl
      with_reducible assumption

def Parts.domainFault : List Part := [Part.pw, 0x8810, 0x6048, Part.host, Part.ev, Part.clk, 0x7820, 0x7808, Part.sys, 0x7810]
theorem domainFault_within (s : State) (e : Nat) : Within Parts.domainFault s (State.domainFault s e) := by
  have h0 : Within Parts.domainFault s s := .refl
  unfold State.domainFault
  split
  · refine Within.step ?_ (raise_within ..) rfl
    refine Within.step ?_ (setDomain_within ..) rfl
    refine Within.step ?_ (endRise_within ..) rfl
    with_reducible assumption
  · with_reducible assumption

def Parts.domainOff : List Part := [0x8810, 0x6048, Part.host, Part.pw, Part.mx, Part.lk, 0x4028, Part.tm, 0x5018, 0x4038]
theorem domainOff_within (s : State) (e : Nat) : Within Parts.domainOff s (State.domainOff s e) := by
  have h0 : Within Parts.domainOff s s := .refl
  unfold State.domainOff
  split
  · refine Within.step ?_ (applyDomain_within ..) rfl
    refine Within.step ?_ (setDomain_within ..) rfl
    with_reducible assumption
  · with_reducible assumption

def Parts.startLanes : List Part := [0x4028, 0x6048, Part.host, 0x4038]
theorem startLanes_within (s : State) (e : Nat) : Within Parts.startLanes s (State.startLanes s e) := by
  have h0 : Within Parts.startLanes s s := .refl
  unfold State.startLanes
  split
  · refine Within.foldl ?_ ?_
    · with_reducible assumption
    · intro x0 x1 x2
      refine Within.step ?_ (startLane_within ..) rfl
      with_reducible assumption
  · with_reducible assumption

def Parts.domainOn : List Part := [Part.pw, 0x8810, 0x6048, Part.host, 0x4028, 0x4038]
theorem domainOn_within (s : State) (e : Nat) : Within Parts.domainOn s (State.domainOn s e) := by
  have h0 : Within Parts.domainOn s s := .refl
  unfold State.domainOn
  split
  · refine Within.step ?_ (startLanes_within ..) rfl
    refine Within.step ?_ (setDomain_within ..) rfl
    refine Within.step ?_ (endRise_within ..) rfl
    with_reducible assumption
  · with_reducible assumption

def Parts.setDroop : List Part := [Part.pw]
theorem setDroop_within (s : State) (d : Nat) (x : Droop) : Within Parts.setDroop s (State.setDroop s d x) := by
  have h0 : Within Parts.setDroop s s := .refl
  unfold State.setDroop
  refine Within.step ?_ (withPw_within ..) rfl
  with_reducible assumption

def Parts.droopEnd : List Part := [Part.pw, 0x8830, Part.ev, Part.host, Part.clk, 0x7820, 0x6048, 0x7808, Part.sys, 0x7810]
theorem droopEnd_within (s : State) (d : Nat) (depth : Nat) (ns : Nat) (margin : Nat) (lanes : Nat) : Within Parts.droopEnd s (State.droopEnd s d depth ns margin lanes) := by
  have h0 : Within Parts.droopEnd s s := .refl
  unfold State.droopEnd
  split
  · with_reducible assumption
  · split
    · with_reducible assumption
    · extract_lets +onlyGivenNames -merge a0
      extract_lets +onlyGivenNames -merge a1
      extract_lets +onlyGivenNames -merge a2
      extract_lets +onlyGivenNames -merge a3
      have h4 : Within Parts.droopEnd s a3 := by
        unfold a3
        refine Within.step ?_ (setDroop_within ..) rfl
        with_reducible assumption
      clear_value a3
      extract_lets +onlyGivenNames -merge a5
      have h6 : Within Parts.droopEnd s a5 := by
        unfold a5
        refine Within.step ?_ (setFld_within ..) rfl
        with_reducible assumption
      clear_value a5
      extract_lets +onlyGivenNames -merge a7
      have h8 : Within Parts.droopEnd s a7 := by
        unfold a7
        refine Within.step ?_ (setFld_within ..) rfl
        with_reducible assumption
      clear_value a7
      extract_lets +onlyGivenNames -merge a9
      have h10 : Within Parts.droopEnd s a9 := by
        unfold a9
        refine Within.step ?_ (setFld_within ..) rfl
        with_reducible assumption
      clear_value a9
      extract_lets +onlyGivenNames -merge a11
      have h12 : Within Parts.droopEnd s a11 := by
        unfold a11
        refine Within.step ?_ (bump_within ..) rfl
        with_reducible assumption
      clear_value a11
      extract_lets +onlyGivenNames -merge a13
      have h14 : Within Parts.droopEnd s a13 := by
        unfold a13
        split
        · refine Within.step ?_ (raise_within ..) rfl
          refine Within.step ?_ (bump_within ..) rfl
          with_reducible assumption
        · with_reducible assumption
      clear_value a13
      split
      · refine Within.step ?_ (raise_within ..) rfl
        with_reducible assumption
      · with_reducible assumption

def Parts.droopStart : List Part := [Part.pw]
theorem droopStart_within (s : State) (d : Nat) : Within Parts.droopStart s (State.droopStart s d) := by
  have h0 : Within Parts.droopStart s s := .refl
  unfold State.droopStart
  split
  · split
    · with_reducible assumption
    · refine Within.step ?_ (setDroop_within ..) rfl
      with_reducible assumption
  · with_reducible assumption

def Parts.finishSome : List Part := [Part.pw, 0x8810, 0x6048, Part.host, 0x4028, 0x4038]
theorem finishSome_within (s : State) (p : Nat → Bool) : Within Parts.finishSome s (State.finishSome s p) := by
  have h0 : Within Parts.finishSome s s := .refl
  unfold State.finishSome
  extract_lets +onlyGivenNames -merge a0
  clear_value a0
  extract_lets +onlyGivenNames -merge a1
  have h2 : Within Parts.finishSome s a1 := by
    unfold a1
    refine Within.step ?_ (withPw_within ..) rfl
    with_reducible assumption
  clear_value a1
  refine Within.foldl ?_ ?_
  · with_reducible assumption
  · intro x3 x4 x5
    refine Within.step ?_ (startLanes_within ..) rfl
    refine Within.step ?_ (setDomain_within ..) rfl
    with_reducible assumption

def Parts.finishRising : List Part := [Part.pw, 0x8810, 0x6048, Part.host, 0x4028, 0x4038]
theorem finishRising_within (s : State) : Within Parts.finishRising s (State.finishRising s) := by
  have h0 : Within Parts.finishRising s s := .refl
  unfold State.finishRising
  refine Within.step ?_ (finishSome_within ..) rfl
  with_reducible assumption

def Parts.holdDomains : List Part := [Part.pw, Part.mx, Part.lk, 0x4028, 0x6048, Part.host, Part.tm, 0x5018, 0x4038, 0x8810]
theorem holdDomains_within (s : State) : Within Parts.holdDomains s (State.holdDomains s) := by
  have h0 : Within Parts.holdDomains s s := .refl
  unfold State.holdDomains
  extract_lets +onlyGivenNames -merge a0
  have h1 : Within Parts.holdDomains s a0 := by
    unfold a0
    refine Within.step ?_ (withPw_within ..) rfl
    with_reducible assumption
  clear_value a0
  refine Within.foldl ?_ ?_
  · with_reducible assumption
  · intro x2 x3 x4
    refine Within.step ?_ (setDomain_within ..) rfl
    refine Within.step ?_ (stopLanes_within ..) rfl
    with_reducible assumption

def Parts.holdRetention : List Part := [Part.clk, Part.pw]
theorem holdRetention_within (s : State) : Within Parts.holdRetention s (State.holdRetention s) := by
  have h0 : Within Parts.holdRetention s s := .refl
  unfold State.holdRetention
  split
  · refine Within.step ?_ (withPw_within ..) rfl
    refine Within.step ?_ (waitUntil_within ..) rfl
    with_reducible assumption
  · with_reducible assumption

def Parts.holdWake : List Part := [Part.pw]
theorem holdWake_within (s : State) : Within Parts.holdWake s (State.holdWake s) := by
  have h0 : Within Parts.holdWake s s := .refl
  unfold State.holdWake
  split
  · refine Within.step ?_ (withPw_within ..) rfl
    with_reducible assumption
  · with_reducible assumption

def Parts.monRestart : List Part := [0x8818]
theorem monRestart_within (s : State) (e : Nat) : Within Parts.monRestart s (State.monRestart s e) := by
  have h0 : Within Parts.monRestart s s := .refl
  unfold State.monRestart
  extract_lets +onlyGivenNames -merge a0
  refine Within.step ?_ (setFld_within ..) rfl
  refine Within.step ?_ (setFld_within ..) rfl
  with_reducible assumption

def Parts.monitorFail : List Part := [0x8818, 0x6048, Part.host, Part.ev, Part.clk, 0x7820, 0x7808, Part.sys, 0x7810]
theorem monitorFail_within (s : State) (e : Nat) (value : Nat) : Within Parts.monitorFail s (State.monitorFail s e value) := by
  have h0 : Within Parts.monitorFail s s := .refl
  unfold State.monitorFail
  split
  · extract_lets +onlyGivenNames -merge a0
    have h1 : Within Parts.monitorFail s a0 := by
      unfold a0
      refine Within.step ?_ (setFld_within ..) rfl
      with_reducible assumption
    clear_value a0
    refine Within.step ?_ (raise_within ..) rfl
    refine Within.step ?_ (setNotify_within ..) rfl
    with_reducible assumption
  · with_reducible assumption

def Parts.pace : List Part := [0x8828]
theorem pace_within (s : State) (x : PaceReading) : Within Parts.pace s (State.pace s x) := by
  have h0 : Within Parts.pace s s := .refl
  unfold State.pace
  split
  · with_reducible assumption
  · extract_lets +onlyGivenNames -merge a0
    have h1 : Within Parts.pace s a0 := by
      unfold a0
      refine Within.step ?_ (setFld_within ..) rfl
      with_reducible assumption
    clear_value a0
    extract_lets +onlyGivenNames -merge a2
    have h3 : Within Parts.pace s a2 := by
      unfold a2
      refine Within.step ?_ (setFld_within ..) rfl
      refine Within.step ?_ (setFld_within ..) rfl
      with_reducible assumption
    clear_value a2
    refine Within.step ?_ (setFld_within ..) rfl
    refine Within.step ?_ (setFld_within ..) rfl
    with_reducible assumption

def Parts.untrip : List Part := [Part.sys]
theorem untrip_within (s : State) (d : Nat) : Within Parts.untrip s (State.untrip s d) := by
  have h0 : Within Parts.untrip s s := .refl
  unfold State.untrip
  refine Within.step ?_ (withSys_within ..) rfl
  with_reducible assumption

def Parts.reading : List Part := [Part.pw, 0x8818, Part.sys]
theorem reading_within (s : State) (e : Nat) (v : Nat) : Within Parts.reading s (State.reading s e v) := by
  have h0 : Within Parts.reading s s := .refl
  unfold State.reading
  split
  · with_reducible assumption
  · extract_lets +onlyGivenNames -merge a0
    clear_value a0
    extract_lets +onlyGivenNames -merge a1
    have h2 : Within Parts.reading s a1 := by
      unfold a1
      split
      · refine Within.step ?_ (withPw_within ..) rfl
        with_reducible assumption
      · with_reducible assumption
    clear_value a1
    extract_lets +onlyGivenNames -merge a3
    extract_lets +onlyGivenNames -merge a4
    extract_lets +onlyGivenNames -merge a5
    have h6 : Within Parts.reading s a5 := by
      unfold a5
      refine Within.step ?_ (setFld_within ..) rfl
      with_reducible assumption
    clear_value a5
    extract_lets +onlyGivenNames -merge a7
    have h8 : Within Parts.reading s a7 := by
      unfold a7
      split
      · refine Within.step ?_ (untrip_within ..) rfl
        with_reducible assumption
      · with_reducible assumption
    clear_value a7
    extract_lets +onlyGivenNames -merge a9
    have h10 : Within Parts.reading s a9 := by
      unfold a9
      split
      · refine Within.step ?_ (setFld_within ..) rfl
        with_reducible assumption
      · with_reducible assumption
    clear_value a9
    split
    · refine Within.step ?_ (setFld_within ..) rfl
      with_reducible assumption
    · with_reducible assumption

def Parts.paceUpdate : List Part := [Part.pw, 0x8818, Part.sys, 0x8840, 0x8828]
theorem paceUpdate_within (s : State) (readings : List (Nat × Nat)) (pace : List PaceReading) : Within Parts.paceUpdate s (State.paceUpdate s readings pace) := by
  have h0 : Within Parts.paceUpdate s s := .refl
  unfold State.paceUpdate
  extract_lets +onlyGivenNames -merge a0
  have h1 : Within Parts.paceUpdate s a0 := by
    unfold a0
    refine Within.foldl ?_ ?_
    · with_reducible assumption
    · intro x2 x3 x4
      refine Within.step ?_ (reading_within ..) rfl
      with_reducible assumption
  clear_value a0
  extract_lets +onlyGivenNames -merge a5
  clear_value a5
  extract_lets +onlyGivenNames -merge a6
  have h7 : Within Parts.paceUpdate s a6 := by
    unfold a6
    split
    · with_reducible assumption
    · refine Within.step ?_ (setFld_within ..) rfl
      with_reducible assumption
  clear_value a6
  refine Within.foldl ?_ ?_
  · with_reducible assumption
  · intro x8 x9 x10
    refine Within.step ?_ (pace_within ..) rfl
    with_reducible assumption

def Parts.showItems : List Part := [0x8838]
theorem showItems_within (s : State) (words : List W) : Within Parts.showItems s (State.showItems s words) := by
  have h0 : Within Parts.showItems s s := .refl
  unfold State.showItems
  refine Within.foldl ?_ ?_
  · with_reducible assumption
  · intro x0 x1 x2
    refine Within.step ?_ (setWord_within ..) rfl
    with_reducible assumption

def Parts.showPlan : List Part := [0x8838]
theorem showPlan_within (s : State) (st : Nat) (result : Nat) (items : Nat) : Within Parts.showPlan s (State.showPlan s st result items) := by
  have h0 : Within Parts.showPlan s s := .refl
  unfold State.showPlan
  extract_lets +onlyGivenNames -merge a0
  extract_lets +onlyGivenNames -merge a1
  extract_lets +onlyGivenNames -merge a2
  have h3 : Within Parts.showPlan s a2 := by
    unfold a2
    refine Within.step ?_ (setFld_within ..) rfl
    refine Within.step ?_ (setFld_within ..) rfl
    with_reducible assumption
  clear_value a2
  refine Within.step ?_ (setFld_within ..) rfl
  refine Within.step ?_ (setFld_within ..) rfl
  refine Within.step ?_ (setFld_within ..) rfl
  with_reducible assumption

def Parts.propose : List Part := [0x8838, Part.ev, Part.host, Part.clk, 0x7820, 0x6048, 0x7808, Part.sys, 0x7810]
theorem propose_within (s : State) (fresh : Bool) : Within Parts.propose s (State.propose s fresh) := by
  have h0 : Within Parts.propose s s := .refl
  unfold State.propose
  extract_lets +onlyGivenNames -merge a0
  clear_value a0
  extract_lets +onlyGivenNames -merge a1
  clear_value a1
  extract_lets +onlyGivenNames -merge a2
  clear_value a2
  extract_lets +onlyGivenNames -merge a3
  have h4 : Within Parts.propose s a3 := by
    unfold a3
    refine Within.step ?_ (showItems_within ..) rfl
    refine Within.step ?_ (showPlan_within ..) rfl
    with_reducible assumption
  clear_value a3
  split
  · extract_lets +onlyGivenNames -merge a5
    extract_lets +onlyGivenNames -merge a6
    refine Within.step ?_ (notify_within ..) rfl
    refine Within.step ?_ (raise_within ..) rfl
    refine Within.step ?_ (setFld_within ..) rfl
    with_reducible assumption
  · with_reducible assumption

def Parts.plannerEval : List Part := [Part.pw, Part.ev, Part.host, Part.clk, 0x7820, 0x6048, 0x7808, Part.sys, 0x7810, 0x8838]
theorem plannerEval_within (s : State) : Within Parts.plannerEval s (State.plannerEval s) := by
  have h0 : Within Parts.plannerEval s s := .refl
  unfold State.plannerEval
  extract_lets +onlyGivenNames -merge a0
  clear_value a0
  extract_lets +onlyGivenNames -merge a1
  clear_value a1
  extract_lets +onlyGivenNames -merge a2
  clear_value a2
  extract_lets +onlyGivenNames -merge a3
  clear_value a3
  extract_lets +onlyGivenNames -merge a4
  clear_value a4
  extract_lets +onlyGivenNames -merge a5
  have h6 : Within Parts.plannerEval s a5 := by
    unfold a5
    refine Within.step ?_ (withPw_within ..) rfl
    with_reducible assumption
  clear_value a5
  extract_lets +onlyGivenNames -merge a7
  have h8 : Within Parts.plannerEval s a7 := by
    unfold a7
    refine Within.foldl ?_ ?_
    · with_reducible assumption
    · intro x9 x10 x11
      refine Within.step ?_ (raise_within ..) rfl
      with_reducible assumption
  clear_value a7
  split
  · refine Within.step ?_ (showItems_within ..) rfl
    refine Within.step ?_ (showPlan_within ..) rfl
    with_reducible assumption
  · refine Within.step ?_ (propose_within ..) rfl
    with_reducible assumption

def Parts.releaseDomains : List Part := [0x8810, 0x6048, Part.host, Part.pw]
theorem releaseDomains_within (s : State) : Within Parts.releaseDomains s (State.releaseDomains s) := by
  have h0 : Within Parts.releaseDomains s s := .refl
  unfold State.releaseDomains
  refine Within.foldl ?_ ?_
  · with_reducible assumption
  · intro x0 x1 x2
    split
    · with_reducible assumption
    · split
      · refine Within.step ?_ (riseDomain_within ..) rfl
        with_reducible assumption
      · refine Within.step ?_ (setDomain_within ..) rfl
        with_reducible assumption

def Parts.setVcore : List Part := [0x8840]
theorem setVcore_within (s : State) (n : Nat) : Within Parts.setVcore s (State.setVcore s n) := by
  have h0 : Within Parts.setVcore s s := .refl
  unfold State.setVcore
  refine Within.step ?_ (setFld_within ..) rfl
  with_reducible assumption

def Parts.startWalk : List Part := [0x8840]
theorem startWalk_within (s : State) : Within Parts.startWalk s (State.startWalk s) := by
  have h0 : Within Parts.startWalk s s := .refl
  unfold State.startWalk
  split
  · with_reducible assumption
  · refine Within.step ?_ (setVcore_within ..) rfl
    with_reducible assumption

def Parts.supplyLow : List Part := [0x8808, Part.ev, Part.host, Part.clk, 0x7820, 0x6048, 0x7808, Part.sys, 0x7810]
theorem supplyLow_within (s : State) (c : Nat) (mv : Nat) (us : Nat) : Within Parts.supplyLow s (State.supplyLow s c mv us) := by
  have h0 : Within Parts.supplyLow s s := .refl
  unfold State.supplyLow
  split
  · with_reducible assumption
  · refine Within.step ?_ (note_within ..) rfl
    refine Within.step ?_ (supplySeen_within ..) rfl
    with_reducible assumption

def Parts.thermalWarn : List Part := [Part.pw, Part.ev, Part.host, Part.clk, 0x7820, 0x6048, 0x7808, Part.sys, 0x7810]
theorem thermalWarn_within (s : State) (d : Nat) (tj : Nat) : Within Parts.thermalWarn s (State.thermalWarn s d tj) := by
  have h0 : Within Parts.thermalWarn s s := .refl
  unfold State.thermalWarn
  extract_lets +onlyGivenNames -merge a0
  split
  · with_reducible assumption
  · split
    · refine Within.step ?_ (notify_within ..) rfl
      refine Within.step ?_ (raise_within ..) rfl
      refine Within.step ?_ (withPw_within ..) rfl
      with_reducible assumption
    · split
      · refine Within.step ?_ (withPw_within ..) rfl
        with_reducible assumption
      · with_reducible assumption

def Parts.vcoreCheck : List Part := [Part.clk, 0x8840, Part.ev, Part.host, 0x7820, 0x6048, 0x7808, Part.sys, 0x7810]
theorem vcoreCheck_within (s : State) (now : Nat) (ack : Bool) : Within Parts.vcoreCheck s (State.vcoreCheck s now ack) := by
  have h0 : Within Parts.vcoreCheck s s := .refl
  unfold State.vcoreCheck
  split
  · extract_lets +onlyGivenNames -merge a0
    have h1 : Within Parts.vcoreCheck s a0 := by
      unfold a0
      refine Within.step ?_ (waitUntil_within ..) rfl
      with_reducible assumption
    clear_value a0
    extract_lets +onlyGivenNames -merge a2
    have h3 : Within Parts.vcoreCheck s a2 := by
      unfold a2
      refine Within.step ?_ (setFld_within ..) rfl
      with_reducible assumption
    clear_value a2
    extract_lets +onlyGivenNames -merge a4
    extract_lets +onlyGivenNames -merge a5
    split
    · refine Within.step ?_ (note_within ..) rfl
      refine Within.step ?_ (setVcore_within ..) rfl
      with_reducible assumption
    · split
      · refine Within.step ?_ (setVcore_within ..) rfl
        with_reducible assumption
      · split
        · with_reducible assumption
        · refine Within.step ?_ (note_within ..) rfl
          refine Within.step ?_ (setVcore_within ..) rfl
          with_reducible assumption
  · with_reducible assumption

def Parts.writeVcore : List Part := [Part.pw, 0x8840, Part.ev, Part.host, Part.clk, 0x7820, 0x6048, 0x7808, Part.sys, 0x7810]
theorem writeVcore_within (s : State) (ack : Bool) : Within Parts.writeVcore s (State.writeVcore s ack) := by
  have h0 : Within Parts.writeVcore s s := .refl
  unfold State.writeVcore
  extract_lets +onlyGivenNames -merge a0
  extract_lets +onlyGivenNames -merge a1
  split
  · refine Within.step ?_ (setVcore_within ..) rfl
    refine Within.step ?_ (withPw_within ..) rfl
    with_reducible assumption
  · extract_lets +onlyGivenNames -merge a2
    have h3 : Within Parts.writeVcore s a2 := by
      unfold a2
      refine Within.step ?_ (setVcore_within ..) rfl
      refine Within.step ?_ (withPw_within ..) rfl
      with_reducible assumption
    clear_value a2
    split
    · with_reducible assumption
    · refine Within.step ?_ (note_within ..) rfl
      with_reducible assumption

def Parts.vcoreRetry : List Part := [Part.clk, Part.pw, 0x8840, Part.ev, Part.host, 0x7820, 0x6048, 0x7808, Part.sys, 0x7810]
theorem vcoreRetry_within (s : State) (ack : Bool) : Within Parts.vcoreRetry s (State.vcoreRetry s ack) := by
  have h0 : Within Parts.vcoreRetry s s := .refl
  unfold State.vcoreRetry
  extract_lets +onlyGivenNames -merge a0
  split
  · extract_lets +onlyGivenNames -merge a1
    have h2 : Within Parts.vcoreRetry s a1 := by
      unfold a1
      refine Within.step ?_ (writeVcore_within ..) rfl
      refine Within.step ?_ (waitUntil_within ..) rfl
      with_reducible assumption
    clear_value a1
    split
    · refine Within.step ?_ (setVcore_within ..) rfl
      with_reducible assumption
    · with_reducible assumption
  · with_reducible assumption

def Parts.vcoreStep : List Part := [Part.clk, Part.pw, 0x8840, Part.ev, Part.host, 0x7820, 0x6048, 0x7808, Part.sys, 0x7810]
theorem vcoreStep_within (s : State) (ack : Bool) : Within Parts.vcoreStep s (State.vcoreStep s ack) := by
  have h0 : Within Parts.vcoreStep s s := .refl
  unfold State.vcoreStep
  split
  · refine Within.step ?_ (writeVcore_within ..) rfl
    refine Within.step ?_ (waitUntil_within ..) rfl
    with_reducible assumption
  · with_reducible assumption

def Parts.execAgeingUpdate : List Part := [Part.pw, 0x8828, Part.ev, Part.host, Part.clk, 0x7820, 0x6048, 0x7808, Part.sys, 0x7810]
theorem execAgeingUpdate_within (inp : List AgeInput) (s : State) : ExecWithin Parts.execAgeingUpdate s (execAgeingUpdate inp s) := by
  have h0 : Within Parts.execAgeingUpdate s s := .refl
  unfold execAgeingUpdate
  refine ⟨_, rfl, ?_⟩
  refine Within.step ?_ (ageingUpdate_within ..) rfl
  with_reducible assumption

def Parts.execCoreDip : List Part := [0x8808]
theorem execCoreDip_within (c : Nat) (below : Bool) (s : State) : ExecWithin Parts.execCoreDip s (execCoreDip c below s) := by
  have h0 : Within Parts.execCoreDip s s := .refl
  unfold execCoreDip
  refine ⟨_, rfl, ?_⟩
  refine Within.step ?_ (coreDip_within ..) rfl
  with_reducible assumption

def Parts.execDomainFault : List Part := [Part.pw, 0x8810, 0x6048, Part.host, Part.ev, Part.clk, 0x7820, 0x7808, Part.sys, 0x7810]
theorem execDomainFault_within (e : Nat) (s : State) : ExecWithin Parts.execDomainFault s (execDomainFault e s) := by
  have h0 : Within Parts.execDomainFault s s := .refl
  unfold execDomainFault
  refine ⟨_, rfl, ?_⟩
  refine Within.step ?_ (domainFault_within ..) rfl
  with_reducible assumption

def Parts.execDomainOffDone : List Part := [0x8810, 0x6048, Part.host, Part.pw, Part.mx, Part.lk, 0x4028, Part.tm, 0x5018, 0x4038]
theorem execDomainOffDone_within (e : Nat) (s : State) : ExecWithin Parts.execDomainOffDone s (execDomainOffDone e s) := by
  have h0 : Within Parts.execDomainOffDone s s := .refl
  unfold execDomainOffDone
  refine ⟨_, rfl, ?_⟩
  refine Within.step ?_ (domainOff_within ..) rfl
  with_reducible assumption

def Parts.execDomainOnDone : List Part := [Part.pw, 0x8810, 0x6048, Part.host, 0x4028, 0x4038]
theorem execDomainOnDone_within (e : Nat) (s : State) : ExecWithin Parts.execDomainOnDone s (execDomainOnDone e s) := by
  have h0 : Within Parts.execDomainOnDone s s := .refl
  unfold execDomainOnDone
  refine ⟨_, rfl, ?_⟩
  refine Within.step ?_ (domainOn_within ..) rfl
  with_reducible assumption

def Parts.execDroopEnd : List Part := [Part.pw, 0x8830, Part.ev, Part.host, Part.clk, 0x7820, 0x6048, 0x7808, Part.sys, 0x7810]
theorem execDroopEnd_within (d : Nat) (depth : Nat) (ns : Nat) (margin : Nat) (lanes : Nat) (s : State) : ExecWithin Parts.execDroopEnd s (execDroopEnd d depth ns margin lanes s) := by
  have h0 : Within Parts.execDroopEnd s s := .refl
  unfold execDroopEnd
  refine ⟨_, rfl, ?_⟩
  refine Within.step ?_ (droopEnd_within ..) rfl
  with_reducible assumption

def Parts.execDroopStart : List Part := [Part.pw]
theorem execDroopStart_within (d : Nat) (s : State) : ExecWithin Parts.execDroopStart s (execDroopStart d s) := by
  have h0 : Within Parts.execDroopStart s s := .refl
  unfold execDroopStart
  refine ⟨_, rfl, ?_⟩
  refine Within.step ?_ (droopStart_within ..) rfl
  with_reducible assumption

def Parts.execHoldRetention : List Part := [Part.clk, Part.pw]
theorem execHoldRetention_within (s : State) : ExecWithin Parts.execHoldRetention s (execHoldRetention s) := by
  have h0 : Within Parts.execHoldRetention s s := .refl
  unfold execHoldRetention
  refine ⟨_, rfl, ?_⟩
  refine Within.step ?_ (holdRetention_within ..) rfl
  with_reducible assumption

def Parts.execHoldWake : List Part := [Part.pw]
theorem execHoldWake_within (s : State) : ExecWithin Parts.execHoldWake s (execHoldWake s) := by
  have h0 : Within Parts.execHoldWake s s := .refl
  unfold execHoldWake
  refine ⟨_, rfl, ?_⟩
  refine Within.step ?_ (holdWake_within ..) rfl
  with_reducible assumption

def Parts.execMonitorFail : List Part := [0x8818, 0x6048, Part.host, Part.ev, Part.clk, 0x7820, 0x7808, Part.sys, 0x7810]
theorem execMonitorFail_within (e : Nat) (value : Nat) (s : State) : ExecWithin Parts.execMonitorFail s (execMonitorFail e value s) := by
  have h0 : Within Parts.execMonitorFail s s := .refl
  unfold execMonitorFail
  refine ⟨_, rfl, ?_⟩
  refine Within.step ?_ (monitorFail_within ..) rfl
  with_reducible assumption

def Parts.execPaceUpdate : List Part := [Part.pw, 0x8818, Part.sys, 0x8840, 0x8828]
theorem execPaceUpdate_within (readings : List (Nat × Nat)) (pace : List PaceReading) (s : State) : ExecWithin Parts.execPaceUpdate s (execPaceUpdate readings pace s) := by
  have h0 : Within Parts.execPaceUpdate s s := .refl
  unfold execPaceUpdate
  refine ⟨_, rfl, ?_⟩
  refine Within.step ?_ (paceUpdate_within ..) rfl
  with_reducible assumption

def Parts.execPlannerEval : List Part := [Part.pw, Part.ev, Part.host, Part.clk, 0x7820, 0x6048, 0x7808, Part.sys, 0x7810, 0x8838]
theorem execPlannerEval_within (s : State) : ExecWithin Parts.execPlannerEval s (execPlannerEval s) := by
  have h0 : Within Parts.execPlannerEval s s := .refl
  unfold execPlannerEval
  refine ⟨_, rfl, ?_⟩
  refine Within.step ?_ (plannerEval_within ..) rfl
  with_reducible assumption

def Parts.putDomain : List Part := [0x8810, 0x1028, Part.save, 0x6048, Part.host, Part.pw, Part.mx, Part.lk, 0x4028, Part.tm, 0x5018, 0x4038]
theorem putDomain_within (e : Nat) (v : W) : PutWithin Parts.putDomain (putDomain e v) := by
  unfold putDomain
  extract_lets +onlyGivenNames -merge a0
  refine ⟨rfl, fun s0 => ?_⟩
  dsimp -zeta only
  have h00 : Within Parts.putDomain s0 s0 := .refl
  split
  · with_reducible assumption
  · split
    · with_reducible assumption
    · split
      · with_reducible assumption
      · dsimp -zeta only
        refine Within.step ?_ (applyDomain_within ..) rfl
        refine Within.step ?_ (putFld_within ..) rfl
        with_reducible assumption

def Parts.execPwDomainWrite : List Part := [0x8810, 0x1028, Part.save, 0x6048, Part.host, Part.pw, Part.mx, Part.lk, 0x4028, Part.tm, 0x5018, 0x4038, Part.shadow, 0x6040, 0x7808, 0x7810, 0x7820, Part.clk, Part.sys, Part.ev]
theorem execPwDomainWrite_within (rq : Req) (e : Nat) (v : W) (s : State) : ExecWithin Parts.execPwDomainWrite s (execPwDomainWrite rq e v s) := by
  have h0 : Within Parts.execPwDomainWrite s s := .refl
  unfold execPwDomainWrite
  extract_lets +onlyGivenNames -merge a0
  have h1 : PutWithin Parts.execPwDomainWrite a0 := by
    unfold a0
    exact PutWithin.step (putDomain_within ..) rfl
  clear_value a0
  refine ⟨_, rfl, ?_⟩
  refine request_within rfl ?_ ?_
  · with_reducible assumption
  · with_reducible assumption

def Parts.execSupplyLow : List Part := [0x8808, Part.ev, Part.host, Part.clk, 0x7820, 0x6048, 0x7808, Part.sys, 0x7810]
theorem execSupplyLow_within (c : Nat) (mv : Nat) (us : Nat) (s : State) : ExecWithin Parts.execSupplyLow s (execSupplyLow c mv us s) := by
  have h0 : Within Parts.execSupplyLow s s := .refl
  unfold execSupplyLow
  refine ⟨_, rfl, ?_⟩
  refine Within.step ?_ (supplyLow_within ..) rfl
  with_reducible assumption

def Parts.execThermalWarn : List Part := [Part.pw, Part.ev, Part.host, Part.clk, 0x7820, 0x6048, 0x7808, Part.sys, 0x7810]
theorem execThermalWarn_within (d : Nat) (tj : Nat) (s : State) : ExecWithin Parts.execThermalWarn s (execThermalWarn d tj s) := by
  have h0 : Within Parts.execThermalWarn s s := .refl
  unfold execThermalWarn
  refine ⟨_, rfl, ?_⟩
  refine Within.step ?_ (thermalWarn_within ..) rfl
  with_reducible assumption

def Parts.execVcoreRetry : List Part := [Part.clk, Part.pw, 0x8840, Part.ev, Part.host, 0x7820, 0x6048, 0x7808, Part.sys, 0x7810]
theorem execVcoreRetry_within (ack : Bool) (s : State) : ExecWithin Parts.execVcoreRetry s (execVcoreRetry ack s) := by
  have h0 : Within Parts.execVcoreRetry s s := .refl
  unfold execVcoreRetry
  refine ⟨_, rfl, ?_⟩
  refine Within.step ?_ (vcoreRetry_within ..) rfl
  with_reducible assumption

def Parts.execVcoreSettleCheck : List Part := [Part.clk, 0x8840, Part.ev, Part.host, 0x7820, 0x6048, 0x7808, Part.sys, 0x7810]
theorem execVcoreSettleCheck_within (now : Nat) (ack : Bool) (s : State) : ExecWithin Parts.execVcoreSettleCheck s (execVcoreSettleCheck now ack s) := by
  have h0 : Within Parts.execVcoreSettleCheck s s := .refl
  unfold execVcoreSettleCheck
  refine ⟨_, rfl, ?_⟩
  refine Within.step ?_ (vcoreCheck_within ..) rfl
  with_reducible assumption

def Parts.execVcoreStep : List Part := [Part.clk, Part.pw, 0x8840, Part.ev, Part.host, 0x7820, 0x6048, 0x7808, Part.sys, 0x7810]
theorem execVcoreStep_within (ack : Bool) (s : State) : ExecWithin Parts.execVcoreStep s (execVcoreStep ack s) := by
  have h0 : Within Parts.execVcoreStep s s := .refl
  unfold execVcoreStep
  refine ⟨_, rfl, ?_⟩
  refine Within.step ?_ (vcoreStep_within ..) rfl
  with_reducible assumption

def Parts.putTarget : List Part := [0x8840, 0x1028, Part.save, Part.ev, Part.host, Part.clk, 0x7820, 0x6048, 0x7808, Part.sys, 0x7810]
theorem putTarget_within (s : State) (rq : Req) (v : W) : PutWithin Parts.putTarget (putTarget s rq v) := by
  have h0 : Within Parts.putTarget s s := .refl
  unfold putTarget
  extract_lets +onlyGivenNames -merge a0
  refine ⟨rfl, fun s0 => ?_⟩
  dsimp -zeta only
  have h00 : Within Parts.putTarget s0 s0 := .refl
  extract_lets +onlyGivenNames -merge a1
  dsimp -zeta only
  refine Within.step ?_ (note_within ..) rfl
  refine Within.step ?_ (startWalk_within ..) rfl
  refine Within.step ?_ (putWord_within ..) rfl
  with_reducible assumption

def Parts.execVcoreTargetWrite : List Part := [0x8840, 0x1028, Part.save, Part.ev, Part.host, Part.clk, 0x7820, 0x6048, 0x7808, Part.sys, 0x7810, Part.shadow, 0x6040, Part.pw]
theorem execVcoreTargetWrite_within (rq : Req) (v : W) (s : State) : ExecWithin Parts.execVcoreTargetWrite s (execVcoreTargetWrite rq v s) := by
  have h0 : Within Parts.execVcoreTargetWrite s s := .refl
  unfold execVcoreTargetWrite
  extract_lets +onlyGivenNames -merge a0
  have h1 : PutWithin Parts.execVcoreTargetWrite a0 := by
    unfold a0
    exact PutWithin.step (putTarget_within ..) rfl
  clear_value a0
  refine ⟨_, rfl, ?_⟩
  refine request_within rfl ?_ ?_
  · with_reducible assumption
  · with_reducible assumption

end Sys2Proof.Machine
end

