-- ==== Sys2Proof/Laws/WithinObjects.lean ====
section
/-! SUPPORT. What the operations of Machine/Objects.lean may change: for each the parts of the state, and that it keeps to them. -/
namespace Sys2Proof.Machine

def Parts.clearWord : List Part := [0x8818, Part.all]
theorem clearWord_within (s : State) (ix : Nat) (e : Nat) (w : Nat) (mask : W) : Within Parts.clearWord s (State.clearWord s ix e w mask) := by
  have h0 : Within Parts.clearWord s s := .refl
  unfold State.clearWord
  split
  · with_reducible assumption
  · split
    · refine Within.step ?_ (monRestart_within ..) rfl
      with_reducible assumption
    · extract_lets +onlyGivenNames -merge a0
      clear_value a0
      refine Within.step ?_ (setWord_within ..) (sub_all rfl)
      with_reducible assumption

def Parts.hostChallenge : List Part := [Part.fresh, Part.host]
theorem hostChallenge_within (s : State) : Within Parts.hostChallenge s (State.hostChallenge s).2 := by
  have h0 : Within Parts.hostChallenge s s := .refl
  unfold State.hostChallenge
  extract_lets +onlyGivenNames -merge a0
  have h1 : Within Parts.hostChallenge s a0.2.2 := by
    unfold a0
    refine Within.step ?_ (newChallenge_within ..) rfl
    with_reducible assumption
  clear_value a0
  dsimp -zeta only
  refine Within.step ?_ (withHost_within ..) rfl
  with_reducible assumption

def Parts.readBytes : List Part := [Part.fresh, Part.host, Part.ev, Part.fw]
theorem readBytes_within (s : State) (ix : Nat) (sub : Nat) : Within Parts.readBytes s (State.readBytes s ix sub).2 := by
  have h0 : Within Parts.readBytes s s := .refl
  unfold State.readBytes
  split
  · with_reducible assumption
  · refine Within.step ?_ (hostChallenge_within ..) rfl
    with_reducible assumption
  · refine Within.step ?_ (clearChallenge_within ..) rfl
    with_reducible assumption
  · with_reducible assumption
  · with_reducible assumption
  · refine Within.step ?_ (lifeChallenge_within ..) rfl
    with_reducible assumption

def Parts.readValue : List Part := [Part.fresh, Part.host, Part.ev, Part.fw, 0x681c, Part.ic, Part.clk, 0x7820, 0x6048, 0x7808, Part.sys, 0x7810, 0x6818, 0x8818, Part.all, 0x6830, Part.mx, 0x4850, 0x4860, Part.tm]
theorem readValue_within (s : State) (o : Obj) (e : Nat) (pcie : Bool) : Within Parts.readValue s (State.readValue s o e pcie).2 := by
  have h0 : Within Parts.readValue s s := .refl
  unfold State.readValue
  extract_lets +onlyGivenNames -merge a0
  split
  · extract_lets +onlyGivenNames -merge a1
    have h2 : Within Parts.readValue s a1.2 := by
      unfold a1
      refine Within.step ?_ (readBytes_within ..) rfl
      with_reducible assumption
    clear_value a1
    with_reducible assumption
  · split
    · with_reducible assumption
    · split
      · extract_lets +onlyGivenNames -merge a3
        have h4 : Within Parts.readValue s a3 := by
          unfold a3
          refine Within.step ?_ (runCrossbar_within ..) rfl
          with_reducible assumption
        clear_value a3
        dsimp -zeta only
        refine Within.foldl ?_ ?_
        · with_reducible assumption
        · intro x5 x6 x7
          refine Within.step ?_ (clearWord_within ..) rfl
          with_reducible assumption
      · split
        · extract_lets +onlyGivenNames -merge a8
          have h9 : Within Parts.readValue s a8 := by
            unfold a8
            refine Within.step ?_ (crcProgress_within ..) rfl
            with_reducible assumption
          clear_value a8
          with_reducible assumption
        · split
          · refine Within.step ?_ (tsqPop_within ..) rfl
            with_reducible assumption
          · split
            · refine Within.step ?_ (statsTake_within ..) rfl
              with_reducible assumption
            · extract_lets +onlyGivenNames -merge a10
              clear_value a10
              extract_lets +onlyGivenNames -merge a11
              have h12 : Within Parts.readValue s a11 := by
                unfold a11
                split
                · refine Within.step ?_ (withTm_within ..) rfl
                  with_reducible assumption
                · with_reducible assumption
              clear_value a11
              dsimp -zeta only
              refine Within.foldl ?_ ?_
              · with_reducible assumption
              · intro x13 x14 x15
                refine Within.step ?_ (clearWord_within ..) rfl
                with_reducible assumption

theorem eachWord_within {l : List Part} {a : Addr} {ws : List (Nat × W)} {put : State → Nat → W → Put} {s : State}
    (m : takesIn l a.ix = true) (h : ∀ s w v, PutWithin l (put s w v)) : PutWithin l (eachWord a ws put s) := by
  unfold eachWord
  refine ⟨m, fun t => ?_⟩
  dsimp -zeta only
  extract_lets r
  have hr : Within l t r.2 := by
    refine Within.foldl_snd .refl fun x y hx => ?_
    split
    · exact hx.trans ((h x.2 y.1 y.2).2 x.2)
    · exact hx
  clear_value r
  split
  · exact hr
  · exact .refl


def Parts.putBus : List Part := [0x6020, 0x1028, Part.save, Part.host]
theorem putBus_within (e : Nat) (v : W) : PutWithin Parts.putBus (putBus e v) := by
  unfold putBus
  extract_lets +onlyGivenNames -merge a0
  extract_lets +onlyGivenNames -merge a1
  extract_lets +onlyGivenNames -merge a2
  refine ⟨rfl, fun s0 => ?_⟩
  dsimp -zeta only
  have h00 : Within Parts.putBus s0 s0 := .refl
  refine Within.step ?_ (withHost_within ..) rfl
  refine Within.step ?_ (putWord_within ..) rfl
  with_reducible assumption

def Parts.putClearBits : List Part := [Part.all]
theorem putClearBits_within (a : Addr) (v : W) (keep : W) (range : Bool) : PutWithin Parts.putClearBits (putClearBits a v keep range) := by
  unfold putClearBits
  refine ⟨takesIn_all rfl _, fun s0 => ?_⟩
  dsimp -zeta only
  have h00 : Within Parts.putClearBits s0 s0 := .refl
  extract_lets +onlyGivenNames -merge a0
  clear_value a0
  dsimp -zeta only
  refine Within.step ?_ (setWord_within ..) (sub_all rfl)
  with_reducible assumption

def Parts.putScalar : List Part := [Part.all, 0x1028, Part.save]
theorem putScalar_within (a : Addr) (v : W) (range : Bool) : PutWithin Parts.putScalar (putScalar a v range) := by
  unfold putScalar
  refine ⟨takesIn_all rfl _, fun s0 => ?_⟩
  dsimp -zeta only
  have h00 : Within Parts.putScalar s0 s0 := .refl
  refine Within.step ?_ (putWord_within ..) (sub_all rfl)
  with_reducible assumption

def Parts.putConfig : List Part := [Part.all, 0x1028, Part.save]
theorem putConfig_within (a : Addr) (v : W) (range : Bool) : PutWithin Parts.putConfig (putConfig a v range) :=
  ⟨takesIn_all rfl _, fun _ => configOnly_within rfl .refl fun t ht => Within.step ht ((putScalar_within a v range).2 t) (sub_all rfl)⟩


def Parts.putContext : List Part := [0x6018, 0x1028, Part.save]
theorem putContext_within (c : Nat) (ws : List (Nat × W)) : PutWithin Parts.putContext (putContext c ws) := by
  unfold putContext
  refine ⟨rfl, fun s0 => ?_⟩
  dsimp -zeta only
  have h00 : Within Parts.putContext s0 s0 := .refl
  extract_lets +onlyGivenNames -merge a0
  have h1 : Within Parts.putContext s0 a0 := by
    unfold a0
    refine Within.foldl ?_ ?_
    · with_reducible assumption
    · intro x2 x3 x4
      refine Within.step ?_ (putWord_within ..) rfl
      with_reducible assumption
  clear_value a0
  split
  · with_reducible assumption
  · with_reducible assumption

def Parts.putCurve : List Part := [0x5048, 0x1028, Part.save, Part.tm]
theorem putCurve_within (e : Nat) (v : W) : PutWithin Parts.putCurve (putCurve e v) := by
  unfold putCurve
  refine ⟨rfl, fun s0 => ?_⟩
  dsimp -zeta only
  have h00 : Within Parts.putCurve s0 s0 := .refl
  refine Within.step ?_ (withTm_within ..) rfl
  refine Within.step ?_ (putWord_within ..) rfl
  with_reducible assumption

def Parts.putHoldover : List Part := [Part.all, 0x1028, Part.save, 0x5040, Part.tm, 0x5048, 0x5000]
theorem putHoldover_within (a : Addr) (v : W) : PutWithin Parts.putHoldover (putHoldover a v) := by
  unfold putHoldover
  split
  · exact PutWithin.step (putScalar_within ..) rfl
  · exact PutWithin.step (putScalar_within ..) rfl
  · refine ⟨takesIn_all rfl _, fun s0 => ?_⟩
    dsimp -zeta only
    have h00 : Within Parts.putHoldover s0 s0 := .refl
    refine Within.step ?_ (withTm_within ..) rfl
    refine Within.step ?_ (putWord_within ..) rfl
    with_reducible assumption
  · refine ⟨takesIn_all rfl _, fun s0 => ?_⟩
    dsimp -zeta only
    have h00 : Within Parts.putHoldover s0 s0 := .refl
    refine Within.step ?_ (forget_within ..) rfl
    with_reducible assumption

def Parts.putLease : List Part := [0x6030, 0x1028, Part.save]
theorem putLease_within (rq : Req) (e : Nat) (v : W) : PutWithin Parts.putLease (putLease rq e v) := by
  unfold putLease
  refine ⟨rfl, fun s0 => ?_⟩
  dsimp -zeta only
  have h00 : Within Parts.putLease s0 s0 := .refl
  extract_lets +onlyGivenNames -merge a0
  clear_value a0
  extract_lets +onlyGivenNames -merge a1
  clear_value a1
  split
  · split
    · with_reducible assumption
    · dsimp -zeta only
      refine Within.step ?_ (putWord_within ..) rfl
      with_reducible assumption
  · split
    · split
      · dsimp -zeta only
        refine Within.step ?_ (putWord_within ..) rfl
        with_reducible assumption
      · with_reducible assumption
    · dsimp -zeta only
      refine Within.step ?_ (putWord_within ..) rfl
      with_reducible assumption

def Parts.putRefCmd : List Part := [0x5020, 0x5018, Part.tm, 0x6048, Part.host, 0x5000, Part.ev, Part.clk, 0x7820, 0x7808, Part.sys, 0x7810]
theorem putRefCmd_within (e : Nat) (v : W) : PutWithin Parts.putRefCmd (putRefCmd e v) := by
  unfold putRefCmd
  refine ⟨rfl, fun s0 => ?_⟩
  dsimp -zeta only
  have h00 : Within Parts.putRefCmd s0 s0 := .refl
  split
  · refine Within.step ?_ (refAccept_within ..) rfl
    with_reducible assumption
  · refine Within.step ?_ (refRequalify_within ..) rfl
    with_reducible assumption

def Parts.putPtpPort : List Part := [0x5028, 0x1028, Part.save]
theorem putPtpPort_within (s : State) (e : Nat) (v : W) : PutWithin Parts.putPtpPort (putPtpPort s e v) := by
  have h0 : Within Parts.putPtpPort s s := .refl
  unfold putPtpPort
  refine ⟨rfl, fun s0 => ?_⟩
  dsimp -zeta only
  have h00 : Within Parts.putPtpPort s0 s0 := .refl
  split
  · with_reducible assumption
  · dsimp -zeta only
    refine Within.step ?_ (putWord_within ..) rfl
    with_reducible assumption

def Parts.withTest : List Part := [Part.fresh]
theorem withTest_within {l : List Part} {x : Bool → Put} (m : sub Parts.withTest l = true) (h : ∀ b, PutWithin l (x b)) :
    PutWithin l (withTest (x false).1 fun b => (x b).2) :=
  ⟨(h false).1, fun s => (Within.step .refl (takeFree_within s) m).trans ((h _).2 _)⟩


def Parts.putObject : List Part := [0x1018, 0x1028, Part.save, Part.all, 0x2010, Part.au, 0x3020, 0x2009, Part.xp, 0x3810, 0x2020, Part.fresh, Part.host, 0x6048, 0x2008, Part.cm, Part.ev, Part.clk, 0x7820, 0x7808, Part.sys, 0x7810, Part.tw, 0x2818, 0x2810, Part.shadow, 0x2848, Part.lk, 0x2860, 0x3060, Part.mm, Part.al, 0x286c, 0x3008, 0x3010, 0x3028, 0x3030, 0x3050, 0x3040, 0x3068, 0x3048, Part.ap, 0x3058, 0x3820, 0x3828, 0x3830, 0x3838, 0x4010, 0x4028, 0x4038, 0x4018, 0x4020, 0x4030, 0x4040, 0x4810, Part.mx, Part.tm, 0x5018, 0x5030, 0x4820, 0x4818, 0x4830, 0x4828, 0x4840, 0x4868, 0x5010, 0x5020, 0x5000, 0x5028, 0x5040, 0x5048, 0x5050, 0x5058, 0x5808, 0x5818, 0x5810, 0x5820, 0x6018, 0x6020, 0x6030, 0x6808, 0x680c, 0x6828, Part.ic, 0x6820, 0x6830, 0x681c, 0x6818, 0x6838, 0x7010, 0x7028, 0x7020, 0x7018, 0x7030, 0x7830, 0x7840, 0x7848, 0x7850, 0x8010, 0x8008, Part.fw, 0x1000, 0x8020, 0x8018, 0x8038, 0x8030, 0x8040, 0x8050, Part.pw, 0x8810, 0x8840]
theorem putObject_within (s : State) (rq : Req) (a : Addr) (ws : List (Nat × W)) (l : List Byte) : PutWithin Parts.putObject (putObject s rq a ws l) := by
  have h0 : Within Parts.putObject s s := .refl
  unfold putObject
  extract_lets +onlyGivenNames -merge a0
  extract_lets +onlyGivenNames -merge a1
  clear_value a1
  extract_lets +onlyGivenNames -merge a2
  clear_value a2
  extract_lets +onlyGivenNames -merge a3
  clear_value a3
  extract_lets +onlyGivenNames -merge a4
  clear_value a4
  extract_lets +onlyGivenNames -merge a5
  clear_value a5
  split
  · exact PutWithin.step (putRole_within ..) rfl
  · split
    · exact PutWithin.step (putSave_within ..) rfl
    · refine ⟨takesIn_all rfl _, fun s0 => ?_⟩
      dsimp -zeta only
      have h00 : Within Parts.putObject s0 s0 := .refl
      with_reducible assumption
  · exact PutWithin.step (putTake_within ..) rfl
  · exact PutWithin.step (putSalvo_within ..) rfl
  · exact PutWithin.step (putScalar_within ..) rfl
  · exact PutWithin.step (putPort_within ..) rfl
  · exact PutWithin.step (putPort_within ..) rfl
  · exact PutWithin.step (putCal_within ..) rfl
  · exact PutWithin.step (putAlign_within ..) rfl
  · exact PutWithin.step (putGuard_within ..) rfl
  · exact PutWithin.step (putAuCtrl_within ..) rfl
  · exact PutWithin.step (putAuSrc_within ..) rfl
  · exact PutWithin.step (putAuDst_within ..) rfl
  · exact PutWithin.step (putAuGain_within ..) rfl
  · exact PutWithin.step (putEmbData_within ..) rfl
  · exact PutWithin.step (putAudioPort_within ..) rfl
  · exact PutWithin.step (putMask_within ..) rfl
  · exact PutWithin.step (putAudioPort_within ..) rfl
  · exact PutWithin.step (putStart_within ..) rfl
  · exact PutWithin.step (putAsrc_within ..) rfl
  · exact PutWithin.step (putHead_within ..) rfl
  · exact PutWithin.step (putLayer_within ..) rfl
  · exact PutWithin.step (putPalette_within ..) rfl
  · exact PutWithin.step (putImage_within ..) rfl
  · exact PutWithin.step (putPixels_within ..) rfl
  · exact PutWithin.step (putLane_within ..) rfl
  · exact PutWithin.step (putTxeq_within ..) rfl
  · exact PutWithin.step (putRxeq_within ..) rfl
  · refine eachWord_within (takesIn_all rfl _) ?_
    intro x6 x7 x8
    exact PutWithin.step (putPrbs_within ..) rfl
  · exact PutWithin.step (putSpare_within ..) rfl
  · exact PutWithin.step (putErrLimit_within ..) rfl
  · refine eachWord_within (takesIn_all rfl _) ?_
    intro x9 x10 x11
    exact PutWithin.step (putMac_within ..) rfl
  · refine eachWord_within (takesIn_all rfl _) ?_
    intro x12 x13 x14
    exact PutWithin.step (putXport_within ..) rfl
  · refine eachWord_within (takesIn_all rfl _) ?_
    intro x15 x16 x17
    exact PutWithin.step (putXport_within ..) rfl
  · refine eachWord_within (takesIn_all rfl _) ?_
    intro x18 x19 x20
    exact PutWithin.step (putAflow_within ..) rfl
  · refine eachWord_within (takesIn_all rfl _) ?_
    intro x21 x22 x23
    exact PutWithin.step (putAflow_within ..) rfl
  · extract_lets +onlyGivenNames -merge a24
    clear_value a24
    refine eachWord_within (takesIn_all rfl _) ?_
    intro x25 x26 x27
    exact PutWithin.step (putRing_within ..) rfl
  · exact PutWithin.step (putRecipe_within ..) rfl
  · split
    · exact PutWithin.step (putClearBits_within ..) rfl
    · exact PutWithin.step (putScalar_within ..) rfl
  · exact PutWithin.step (putTmRef_within ..) rfl
  · exact PutWithin.step (putRefCmd_within ..) rfl
  · exact PutWithin.step (putPtpPort_within ..) rfl
  · exact PutWithin.step (putScalar_within ..) rfl
  · exact PutWithin.step (putHoldover_within ..) rfl
  · exact PutWithin.step (putCurve_within ..) rfl
  · exact PutWithin.step (putTmStep_within ..) rfl
  · exact PutWithin.step (putTmOut_within ..) rfl
  · exact PutWithin.step (putTwConfig_within ..) rfl
  · exact PutWithin.step (putPair_within ..) rfl
  · exact PutWithin.step (putConfig_within ..) rfl
  · exact PutWithin.step (putContext_within ..) rfl
  · exact PutWithin.step (putBus_within ..) rfl
  · exact PutWithin.step (putClearBits_within ..) rfl
  · exact PutWithin.step (putLease_within ..) rfl
  · exact PutWithin.step (putScalar_within ..) rfl
  · exact PutWithin.step (putQos_within ..) rfl
  · exact PutWithin.step (putAge_within ..) rfl
  · exact PutWithin.step (putEngCmd_within ..) rfl
  · exact PutWithin.step (putCrc_within ..) rfl
  · exact PutWithin.step (putConfig_within ..) rfl
  · exact PutWithin.step (putChannel_within ..) rfl
  · exact PutWithin.step (putRankCmd_within ..) rfl
  · exact PutWithin.step (putWipe_within ..) rfl
  · exact PutWithin.step (putCursor_within ..) rfl
  · exact PutWithin.step (putClear_within ..) rfl
  · refine withTest_within rfl ?_
    intro x28
    exact PutWithin.step (putEvCmd_within ..) rfl
  · exact PutWithin.step (putGpi_within ..) rfl
  · exact PutWithin.step (putFwCmd_within ..) rfl
  · exact PutWithin.step (putSigPolicy_within ..) rfl
  · exact PutWithin.step (putFlash_within ..) rfl
  · exact PutWithin.step (putNonce_within ..) rfl
  · exact PutWithin.step (putLife_within ..) rfl
  · exact PutWithin.step (putClearBits_within ..) rfl
  · exact PutWithin.step (putDomain_within ..) rfl
  · exact PutWithin.step (putScalar_within ..) rfl
  · split
    · exact PutWithin.step (putTarget_within ..) rfl
    · exact PutWithin.step (putScalar_within ..) rfl
  · exact PutWithin.step (putScalar_within ..) rfl
  · exact PutWithin.step (putScalar_within ..) rfl
  · refine ⟨takesIn_all rfl _, fun s0 => ?_⟩
    dsimp -zeta only
    have h00 : Within Parts.putObject s0 s0 := .refl
    with_reducible assumption

theorem putTyped_within {l : List Part} {o : Obj} {a : Addr} {ws : List (Nat × W)} {x : Put} (m : takesIn l a.ix = true)
    (h : PutWithin l x) : PutWithin l (putTyped o a ws x) := ⟨m, h.2⟩

end Sys2Proof.Machine
end

