-- ==== Sys2Proof/Laws/WithinSystem.lean ====
section
/-! SUPPORT. What the operations of Machine/System.lean may change: for each the parts of the state, and that it keeps to them. -/
namespace Sys2Proof.Machine

def Parts.stopWork : List Part := [Part.fresh, 0x2010, 0x3020, 0x3810, Part.host, 0x6048, Part.xp, 0x2008, Part.cm, Part.au, Part.ev, Part.clk, 0x7820, 0x7808, Part.sys, 0x7810, 0x2020, Part.ap, 0x3058, 0x3068, Part.lk, 0x4038]
theorem stopWork_within (s : State) : Within Parts.stopWork s (State.stopWork s) := by
  have h0 : Within Parts.stopWork s s := .refl
  unfold State.stopWork
  refine Within.step ?_ (stopSpares_within ..) rfl
  refine Within.step ?_ (stopAudio_within ..) rfl
  refine Within.step ?_ (endAllWork_within ..) rfl
  with_reducible assumption

def Parts.fitRefs : List Part := [Part.tm, 0x5018, 0x6048, Part.host, 0x5030]
theorem fitRefs_within (s : State) : Within Parts.fitRefs s (State.fitRefs s) := by
  have h0 : Within Parts.fitRefs s s := .refl
  unfold State.fitRefs
  extract_lets +onlyGivenNames -merge a0
  have h1 : Within Parts.fitRefs s a0 := by
    unfold a0
    refine Within.foldl ?_ ?_
    · with_reducible assumption
    · intro x2 x3 x4
      split
      · with_reducible assumption
      · refine Within.step ?_ (refLost_within ..) rfl
        with_reducible assumption
  clear_value a0
  refine Within.foldl ?_ ?_
  · with_reducible assumption
  · intro x5 x6 x7
    split
    · with_reducible assumption
    · refine Within.step ?_ (ptpRestart_within ..) rfl
      with_reducible assumption

def Parts.enterMode : List Part := [0x1020, Part.sys, Part.fresh, 0x2010, 0x3020, 0x3810, Part.host, 0x6048, Part.xp, 0x2008, Part.cm, Part.au, Part.ev, Part.clk, 0x7820, 0x7808, 0x7810, 0x2020, Part.ap, 0x3058, 0x3068, Part.lk, 0x4038, Part.tm, 0x5018, 0x5030, 0x5818]
theorem enterMode_within (s : State) (m : Nat) (phase : Nat) (cause : Nat) : Within Parts.enterMode s (State.enterMode s m phase cause) := by
  have h0 : Within Parts.enterMode s s := .refl
  unfold State.enterMode
  extract_lets +onlyGivenNames -merge a0
  have h1 : Within Parts.enterMode s a0 := by
    unfold a0
    refine Within.step ?_ (setFld_within ..) rfl
    refine Within.step ?_ (setFld_within ..) rfl
    with_reducible assumption
  clear_value a0
  extract_lets +onlyGivenNames -merge a2
  have h3 : Within Parts.enterMode s a2 := by
    unfold a2
    refine Within.step ?_ (setFld_within ..) rfl
    refine Within.step ?_ (setFld_within ..) rfl
    with_reducible assumption
  clear_value a2
  extract_lets +onlyGivenNames -merge a4
  have h5 : Within Parts.enterMode s a4 := by
    unfold a4
    refine Within.step ?_ (withSys_within ..) rfl
    with_reducible assumption
  clear_value a4
  extract_lets +onlyGivenNames -merge a6
  have h7 : Within Parts.enterMode s a6 := by
    unfold a6
    split
    · refine Within.step ?_ (stopWork_within ..) rfl
      with_reducible assumption
    · with_reducible assumption
  clear_value a6
  refine Within.step ?_ (refreshClaim_within ..) rfl
  refine Within.step ?_ (fitRefs_within ..) rfl
  with_reducible assumption

def Parts.showKept : List Part := [Part.all, Part.save]
theorem showKept_within (s : State) : Within Parts.showKept s (State.showKept s) := by
  have h0 : Within Parts.showKept s s := .refl
  unfold State.showKept
  split
  · with_reducible assumption
  · refine Within.step (t := s) ?_ (.everything rfl rfl fun h => ⟨tableWf_tmerge _ (tableWf_filter _ h.1), h.2⟩) (sub_all rfl)
    with_reducible assumption

def Parts.dropCode : List Part := [Part.ic, 0x6820, 0x6048, Part.host]
theorem dropCode_within (s : State) : Within Parts.dropCode s (State.dropCode s) := by
  have h0 : Within Parts.dropCode s s := .refl
  unfold State.dropCode
  extract_lets +onlyGivenNames -merge a0
  clear_value a0
  extract_lets +onlyGivenNames -merge a1
  have h2 : Within Parts.dropCode s a1 := by
    unfold a1
    refine Within.step ?_ (set_ic_within ..) rfl
    with_reducible assumption
  clear_value a1
  refine Within.foldl ?_ ?_
  · with_reducible assumption
  · intro x3 x4 x5
    refine Within.step ?_ (setEngine_within ..) rfl
    refine Within.step ?_ (setFld_within ..) rfl
    refine Within.step ?_ (setFld_within ..) rfl
    with_reducible assumption

def Parts.stopCopies : List Part := [Part.mm]
theorem stopCopies_within (s : State) : Within Parts.stopCopies s (State.stopCopies s) := by
  have h0 : Within Parts.stopCopies s s := .refl
  unfold State.stopCopies
  refine Within.foldl ?_ ?_
  · with_reducible assumption
  · intro x0 x1 x2
    refine Within.step ?_ (releaseHolds_within ..) rfl
    with_reducible assumption

def Parts.enterSafe : List Part := [0x1020, Part.sys, Part.fresh, 0x2010, 0x3020, 0x3810, Part.host, 0x6048, Part.xp, 0x2008, Part.cm, Part.au, Part.ev, Part.clk, 0x7820, 0x7808, 0x7810, 0x2020, Part.ap, 0x3058, 0x3068, Part.lk, 0x4038, Part.tm, 0x5018, 0x5030, 0x5818, Part.all, 0x8038, Part.fw, 0x8008, 0x1000, 0x1028, 0x6810, 0x681c, Part.ic, 0x6818, Part.mm, Part.save, 0x6820]
theorem enterSafe_within (s : State) (cause : Nat) : Within Parts.enterSafe s (State.enterSafe s cause) := by
  have h0 : Within Parts.enterSafe s s := .refl
  unfold State.enterSafe
  extract_lets +onlyGivenNames -merge a0
  have h1 : Within Parts.enterSafe s a0 := by
    unfold a0
    refine Within.step ?_ (enterMode_within ..) rfl
    with_reducible assumption
  clear_value a0
  extract_lets +onlyGivenNames -merge a2
  have h3 : Within Parts.enterSafe s a2 := by
    unfold a2
    split
    · refine Within.step ?_ (rollbackFw_within ..) rfl
      with_reducible assumption
    · refine Within.step ?_ (dropUpdate_within ..) rfl
      with_reducible assumption
  clear_value a2
  extract_lets +onlyGivenNames -merge a4
  have h5 : Within Parts.enterSafe s a4 := by
    unfold a4
    refine Within.foldl ?_ ?_
    · refine Within.step ?_ (runCrossbar_within ..) rfl
      refine Within.step ?_ (resetMasters_within ..) rfl
      with_reducible assumption
    · intro x6 x7 x8
      refine Within.step ?_ (setFld_within ..) rfl
      with_reducible assumption
  clear_value a4
  extract_lets +onlyGivenNames -merge a9
  have h10 : Within Parts.enterSafe s a9 := by
    unfold a9
    refine Within.step ?_ (showKept_within ..) rfl
    refine Within.step ?_ (dropCode_within ..) rfl
    refine Within.step ?_ (learnSave_within ..) rfl
    refine Within.step ?_ (stopCopies_within ..) rfl
    refine Within.step ?_ (withSys_within ..) rfl
    with_reducible assumption
  clear_value a9
  refine Within.step ?_ (refreshClaim_within ..) rfl
  with_reducible assumption

def Parts.beginMode : List Part := [0x1020, Part.sys]
theorem beginMode_within (s : State) (goal : Nat) : Within Parts.beginMode s (State.beginMode s goal) := by
  have h0 : Within Parts.beginMode s s := .refl
  unfold State.beginMode
  extract_lets +onlyGivenNames -merge a0
  have h1 : Within Parts.beginMode s a0 := by
    unfold a0
    refine Within.step ?_ (setFld_within ..) rfl
    refine Within.step ?_ (setFld_within ..) rfl
    with_reducible assumption
  clear_value a0
  refine Within.step ?_ (withSys_within ..) rfl
  with_reducible assumption

def Parts.unloadEngines : List Part := [0x6820, 0x6048, Part.host, Part.ic]
theorem unloadEngines_within (s : State) : Within Parts.unloadEngines s (State.unloadEngines s) := by
  have h0 : Within Parts.unloadEngines s s := .refl
  unfold State.unloadEngines
  extract_lets +onlyGivenNames -merge a0
  clear_value a0
  extract_lets +onlyGivenNames -merge a1
  have h2 : Within Parts.unloadEngines s a1 := by
    unfold a1
    refine Within.foldl ?_ ?_
    · with_reducible assumption
    · intro x3 x4 x5
      refine Within.step ?_ (setEngine_within ..) rfl
      with_reducible assumption
  clear_value a1
  refine Within.step ?_ (set_ic_within ..) rfl
  with_reducible assumption

def Parts.dropBuffers : List Part := [Part.ic, Part.all, Part.au, Part.ap, Part.lk, Part.mx]
theorem dropBuffers_within (s : State) : Within Parts.dropBuffers s (State.dropBuffers s) := by
  have h0 : Within Parts.dropBuffers s s := .refl
  unfold State.dropBuffers
  extract_lets +onlyGivenNames -merge a0
  have h1 : Within Parts.dropBuffers s a0 := by
    unfold a0
    refine Within.step ?_ (dropRam_within ..) rfl
    with_reducible assumption
  clear_value a0
  refine Within.step (t := a0) ?_ (.everything rfl rfl fun h => ⟨tableWf_filter _ h.1, h.2⟩) (sub_all rfl)
  with_reducible assumption

def Parts.sleepChannels : List Part := [0x7018, 0x6048, Part.host]
theorem sleepChannels_within (s : State) : Within Parts.sleepChannels s (State.sleepChannels s) := by
  have h0 : Within Parts.sleepChannels s s := .refl
  unfold State.sleepChannels
  refine Within.foldl ?_ ?_
  · with_reducible assumption
  · intro x0 x1 x2
    split
    · refine Within.step ?_ (setChanState_within ..) rfl
      with_reducible assumption
    · with_reducible assumption

def Parts.beginHold : List Part := [0x1028, Part.save, 0x8008, 0x1000, Part.ev, Part.host, Part.clk, 0x7820, 0x6048, 0x7808, Part.sys, 0x7810, Part.fw, Part.fresh, 0x2010, 0x3020, 0x3810, Part.xp, 0x2008, Part.cm, Part.au, 0x2020, Part.ap, 0x3058, 0x3068, Part.lk, 0x4038, Part.mm, 0x7018, Part.pw, Part.mx, 0x4028, Part.tm, 0x5018, 0x8810, Part.ic, Part.all, 0x6820]
theorem beginHold_within (s : State) : Within Parts.beginHold s (State.beginHold s) := by
  have h0 : Within Parts.beginHold s s := .refl
  unfold State.beginHold
  extract_lets +onlyGivenNames -merge a0
  have h1 : Within Parts.beginHold s a0 := by
    unfold a0
    split
    · refine Within.step ?_ (startGen_within ..) rfl
      with_reducible assumption
    · with_reducible assumption
  clear_value a0
  refine Within.step ?_ (unloadEngines_within ..) rfl
  refine Within.step ?_ (dropBuffers_within ..) rfl
  refine Within.step ?_ (holdDomains_within ..) rfl
  refine Within.step ?_ (sleepChannels_within ..) rfl
  refine Within.step ?_ (stopCopies_within ..) rfl
  refine Within.step ?_ (stopWork_within ..) rfl
  refine Within.step ?_ (dropUpdate_within ..) rfl
  with_reducible assumption

def Parts.askMode : List Part := [0x1020, Part.sys, Part.fresh, 0x2010, 0x3020, 0x3810, Part.host, 0x6048, Part.xp, 0x2008, Part.cm, Part.au, Part.ev, Part.clk, 0x7820, 0x7808, 0x7810, 0x2020, Part.ap, 0x3058, 0x3068, Part.lk, 0x4038, Part.tm, 0x5018, 0x5030, 0x5818, Part.all, 0x8038, Part.fw, 0x8008, 0x1000, 0x1028, 0x6810, 0x681c, Part.ic, 0x6818, Part.mm, Part.save, 0x6820, 0x8810, Part.pw, 0x7018, Part.mx, 0x4028]
theorem askMode_within (s : State) (goal : Nat) : Within Parts.askMode s (State.askMode s goal) := by
  have h0 : Within Parts.askMode s s := .refl
  unfold State.askMode
  split
  · refine Within.step ?_ (enterSafe_within ..) rfl
    with_reducible assumption
  · split
    · extract_lets +onlyGivenNames -merge a0
      have h1 : Within Parts.askMode s a0 := by
        unfold a0
        refine Within.step ?_ (withSys_within ..) rfl
        refine Within.step ?_ (enterMode_within ..) rfl
        with_reducible assumption
      clear_value a0
      refine Within.step ?_ (releaseDomains_within ..) rfl
      with_reducible assumption
    · extract_lets +onlyGivenNames -merge a2
      extract_lets +onlyGivenNames -merge a3
      have h4 : Within Parts.askMode s a3 := by
        unfold a3
        refine Within.step ?_ (beginMode_within ..) rfl
        with_reducible assumption
      clear_value a3
      split
      · refine Within.step ?_ (beginHold_within ..) rfl
        with_reducible assumption
      · split
        · extract_lets +onlyGivenNames -merge a5
          have h6 : Within Parts.askMode s a5 := by
            unfold a5
            refine Within.foldl ?_ ?_
            · with_reducible assumption
            · intro x7 x8 x9
              split
              · refine Within.step ?_ (setChanState_within ..) rfl
                with_reducible assumption
              · with_reducible assumption
          clear_value a5
          refine Within.step ?_ (releaseDomains_within ..) rfl
          with_reducible assumption
        · with_reducible assumption

def Parts.dropSaved : List Part := [Part.all, Part.shadow]
theorem dropSaved_within (s : State) (a : Addr) : Within Parts.dropSaved s (State.dropSaved s a) := by
  have h0 : Within Parts.dropSaved s s := .refl
  unfold State.dropSaved
  refine Within.step (t := s) ?_ (.everything rfl rfl fun h => ⟨tableWf_filter _ h.1, tableWf_filter _ h.2⟩) (sub_all rfl)
  with_reducible assumption

def Parts.checkRestored : List Part := [Part.all, Part.shadow, Part.ev, Part.host, Part.clk, 0x7820, 0x6048, 0x7808, Part.sys, 0x7810, 0x1028, Part.save]
theorem checkRestored_within (s : State) : Within Parts.checkRestored s (State.checkRestored s) := by
  have h0 : Within Parts.checkRestored s s := .refl
  unfold State.checkRestored
  extract_lets +onlyGivenNames -merge a0
  refine Within.foldl ?_ ?_
  · with_reducible assumption
  · intro x1 x2 x3
    split
    · with_reducible assumption
    · refine Within.step ?_ (markDirty_within ..) rfl
      refine Within.step ?_ (note_within ..) rfl
      refine Within.step ?_ (dropSaved_within ..) rfl
      with_reducible assumption

def Parts.closeFaults : List Part := [Part.sys, 0x7810, Part.host, 0x6048, Part.ev]
theorem closeFaults_within (s : State) : Within Parts.closeFaults s (State.closeFaults s) := by
  have h0 : Within Parts.closeFaults s s := .refl
  unfold State.closeFaults
  extract_lets +onlyGivenNames -merge a0
  clear_value a0
  extract_lets +onlyGivenNames -merge a1
  have h2 : Within Parts.closeFaults s a1 := by
    unfold a1
    refine Within.step ?_ (withSys_within ..) rfl
    with_reducible assumption
  clear_value a1
  extract_lets +onlyGivenNames -merge a3
  have h4 : Within Parts.closeFaults s a3 := by
    unfold a3
    refine Within.foldl ?_ ?_
    · with_reducible assumption
    · intro x5 x6 x7
      split
      · extract_lets +onlyGivenNames -merge a8
        clear_value a8
        refine Within.step ?_ (notify_within ..) rfl
        refine Within.step ?_ (relays_within ..) rfl
        refine Within.step ?_ (setFld_within ..) rfl
        refine Within.step ?_ (setFld_within ..) rfl
        with_reducible assumption
      · with_reducible assumption
  clear_value a3
  extract_lets +onlyGivenNames -merge a9
  have h10 : Within Parts.closeFaults s a9 := by
    unfold a9
    refine Within.step ?_ (withEv_within ..) rfl
    with_reducible assumption
  clear_value a9
  refine Within.step ?_ (driveFault_within ..) rfl
  refine Within.foldl ?_ ?_
  · with_reducible assumption
  · intro x11 x12 x13
    refine Within.step ?_ (notifyLevel_within ..) rfl
    refine Within.step ?_ (withMgr_within ..) rfl
    with_reducible assumption

def Parts.copyLastGasp : List Part := [Part.ev, Part.host, 0x6048]
theorem copyLastGasp_within (s : State) : Within Parts.copyLastGasp s (State.copyLastGasp s) := by
  have h0 : Within Parts.copyLastGasp s s := .refl
  unfold State.copyLastGasp
  refine Within.foldl ?_ ?_
  · with_reducible assumption
  · intro x0 x1 x2
    split
    · with_reducible assumption
    · split
      · with_reducible assumption
      · extract_lets +onlyGivenNames -merge a3
        clear_value a3
        refine Within.step ?_ (notify_within ..) rfl
        refine Within.step ?_ (withEv_within ..) rfl
        with_reducible assumption

def Parts.emptyStores : List Part := [Part.al, 0x2864, Part.au, 0x6048, Part.host, Part.cm]
theorem emptyStores_within (s : State) : Within Parts.emptyStores s (State.emptyStores s) := by
  have h0 : Within Parts.emptyStores s s := .refl
  unfold State.emptyStores
  extract_lets +onlyGivenNames -merge a0
  have h1 : Within Parts.emptyStores s a0 := by
    unfold a0
    refine Within.foldl ?_ ?_
    · with_reducible assumption
    · intro x2 x3 x4
      refine Within.step ?_ (alignPort_within ..) rfl
      with_reducible assumption
  clear_value a0
  extract_lets +onlyGivenNames -merge a5
  clear_value a5
  extract_lets +onlyGivenNames -merge a6
  clear_value a6
  refine Within.trans (t := a0) ?_ ⟨⟨fun _ _ => rfl, fun _ => rfl, fun _ => rfl, fun _ => rfl, fun _ => rfl, fun _ => rfl, fun _ => rfl, fun _ => rfl, fun _ => rfl, fun _ => rfl, fun _ => rfl, fun _ => rfl, fun h => Bool.noConfusion h, fun h => Bool.noConfusion h, fun _ => rfl, fun _ => rfl, fun _ => rfl, fun _ => rfl, fun _ => rfl, fun _ => rfl, fun _ => rfl⟩, rfl, rfl, fun h => ⟨h.1, h.2⟩⟩
  with_reducible assumption

def Parts.reloadEngines : List Part := [0x6820, 0x6048, Part.host]
theorem reloadEngines_within (s : State) : Within Parts.reloadEngines s (State.reloadEngines s) := by
  have h0 : Within Parts.reloadEngines s s := .refl
  unfold State.reloadEngines
  refine Within.foldl ?_ ?_
  · with_reducible assumption
  · intro x0 x1 x2
    refine Within.step ?_ (setEngine_within ..) rfl
    with_reducible assumption

def Parts.restartCopies : List Part := [Part.mm]
theorem restartCopies_within (s : State) : Within Parts.restartCopies s (State.restartCopies s) := by
  have h0 : Within Parts.restartCopies s s := .refl
  unfold State.restartCopies
  extract_lets +onlyGivenNames -merge a0
  clear_value a0
  extract_lets +onlyGivenNames -merge a1
  clear_value a1
  extract_lets +onlyGivenNames -merge a2
  have h3 : Within Parts.restartCopies s a2 := by
    unfold a2
    refine Within.step ?_ (set_mm_within ..) rfl
    with_reducible assumption
  clear_value a2
  refine Within.foldl ?_ ?_
  · with_reducible assumption
  · intro x4 x5 x6
    refine Within.step ?_ (mapItems_within ..) rfl
    with_reducible assumption

def Parts.endHold : List Part := [0x6820, 0x6048, Part.host, Part.pw, 0x8810, 0x4028, 0x4038, 0x7018, Part.al, 0x2864, Part.au, Part.cm, Part.mm]
theorem endHold_within (s : State) : Within Parts.endHold s (State.endHold s) := by
  have h0 : Within Parts.endHold s s := .refl
  unfold State.endHold
  extract_lets +onlyGivenNames -merge a0
  have h1 : Within Parts.endHold s a0 := by
    unfold a0
    refine Within.step ?_ (finishRising_within ..) rfl
    refine Within.step ?_ (reloadEngines_within ..) rfl
    with_reducible assumption
  clear_value a0
  extract_lets +onlyGivenNames -merge a2
  have h3 : Within Parts.endHold s a2 := by
    unfold a2
    refine Within.foldl ?_ ?_
    · with_reducible assumption
    · intro x4 x5 x6
      split
      · refine Within.step ?_ (setChanState_within ..) rfl
        with_reducible assumption
      · with_reducible assumption
  clear_value a2
  refine Within.step ?_ (restartCopies_within ..) rfl
  refine Within.step ?_ (emptyStores_within ..) rfl
  with_reducible assumption

def Parts.endLoad : List Part := [0x1020]
theorem endLoad_within (s : State) (phase : Nat) : Within Parts.endLoad s (State.endLoad s phase) := by
  have h0 : Within Parts.endLoad s s := .refl
  unfold State.endLoad
  refine Within.step ?_ (setFld_within ..) rfl
  with_reducible assumption

def Parts.toBoundary : List Part := [Part.clk]
theorem toBoundary_within (s : State) : Within Parts.toBoundary s (State.toBoundary s) := by
  have h0 : Within Parts.toBoundary s s := .refl
  unfold State.toBoundary
  refine Within.step ?_ (waitHouse_within ..) rfl
  with_reducible assumption

def Parts.remirror : List Part := [Part.tw, 0x5818, 0x6048, Part.host, Part.ev, Part.clk, 0x7820, 0x7808, Part.sys, 0x7810]
theorem remirror_within (s : State) : Within Parts.remirror s (State.remirror s) := by
  have h0 : Within Parts.remirror s s := .refl
  unfold State.remirror
  extract_lets +onlyGivenNames -merge a0
  clear_value a0
  extract_lets +onlyGivenNames -merge a1
  have h2 : Within Parts.remirror s a1 := by
    unfold a1
    refine Within.step ?_ (set_tw_within ..) rfl
    with_reducible assumption
  clear_value a1
  refine Within.step ?_ (setSync_within ..) rfl
  with_reducible assumption

def Parts.endMode : List Part := [Part.clk, Part.sys, 0x1020, Part.fresh, 0x2010, 0x3020, 0x3810, Part.host, 0x6048, Part.xp, 0x2008, Part.cm, Part.au, Part.ev, 0x7820, 0x7808, 0x7810, 0x2020, Part.ap, 0x3058, 0x3068, Part.lk, 0x4038, Part.tm, 0x5018, 0x5030, 0x5818, 0x6820, Part.pw, 0x8810, 0x4028, 0x7018, Part.al, 0x2864, Part.mm, Part.tw]
theorem endMode_within (s : State) (goal : Nat) : Within Parts.endMode s (State.endMode s goal) := by
  have h0 : Within Parts.endMode s s := .refl
  unfold State.endMode
  extract_lets +onlyGivenNames -merge a0
  split
  · extract_lets +onlyGivenNames -merge a1
    extract_lets +onlyGivenNames -merge a2
    have h3 : Within Parts.endMode s a2 := by
      unfold a2
      refine Within.step ?_ (withSys_within ..) rfl
      refine Within.step ?_ (toBoundary_within ..) rfl
      with_reducible assumption
    clear_value a2
    refine Within.step ?_ (enterMode_within ..) rfl
    with_reducible assumption
  · split
    · extract_lets +onlyGivenNames -merge a4
      have h5 : Within Parts.endMode s a4 := by
        unfold a4
        refine Within.step ?_ (withSys_within ..) rfl
        split
        · refine Within.step ?_ (toBoundary_within ..) rfl
          with_reducible assumption
        · with_reducible assumption
      clear_value a4
      extract_lets +onlyGivenNames -merge a6
      have h7 : Within Parts.endMode s a6 := by
        unfold a6
        refine Within.step ?_ (enterMode_within ..) rfl
        with_reducible assumption
      clear_value a6
      split
      · refine Within.step ?_ (remirror_within ..) rfl
        refine Within.step ?_ (endHold_within ..) rfl
        with_reducible assumption
      · split
        · refine Within.step ?_ (remirror_within ..) rfl
          with_reducible assumption
        · with_reducible assumption
    · split
      · refine Within.step ?_ (enterMode_within ..) rfl
        refine Within.step ?_ (toBoundary_within ..) rfl
        with_reducible assumption
      · refine Within.step ?_ (enterMode_within ..) rfl
        refine Within.step ?_ (withSys_within ..) rfl
        with_reducible assumption

def Parts.loadBus : List Part := [Part.host]
theorem loadBus_within (s : State) : Within Parts.loadBus s (State.loadBus s) := by
  have h0 : Within Parts.loadBus s s := .refl
  unfold State.loadBus
  extract_lets +onlyGivenNames -merge a0
  clear_value a0
  refine Within.step ?_ (withHost_within ..) rfl
  with_reducible assumption

def Parts.loadRank : List Part := [0x7020, 0x6048, Part.host, Part.ev, Part.clk, 0x7820, 0x7808, Part.sys, 0x7810]
theorem loadRank_within (s : State) (fails : List Nat) (e : Nat) : Within Parts.loadRank s (State.loadRank s fails e) := by
  have h0 : Within Parts.loadRank s s := .refl
  unfold State.loadRank
  extract_lets +onlyGivenNames -merge a0
  clear_value a0
  extract_lets +onlyGivenNames -merge a1
  extract_lets +onlyGivenNames -merge a2
  extract_lets +onlyGivenNames -merge a3
  have h4 : Within Parts.loadRank s a3 := by
    unfold a3
    refine Within.step ?_ (setRank_within ..) rfl
    with_reducible assumption
  clear_value a3
  split
  · refine Within.step ?_ (raise_within ..) rfl
    with_reducible assumption
  · with_reducible assumption

def Parts.trainDram : List Part := [Part.mm, 0x7018, 0x6048, Part.host, 0x7020, Part.ev, Part.clk, 0x7820, 0x7808, Part.sys, 0x7810]
theorem trainDram_within (s : State) (fails : List Nat) : Within Parts.trainDram s (State.trainDram s fails) := by
  have h0 : Within Parts.trainDram s s := .refl
  unfold State.trainDram
  split
  · with_reducible assumption
  · extract_lets +onlyGivenNames -merge a0
    clear_value a0
    extract_lets +onlyGivenNames -merge a1
    clear_value a1
    extract_lets +onlyGivenNames -merge a2
    clear_value a2
    extract_lets +onlyGivenNames -merge a3
    have h4 : Within Parts.trainDram s a3 := by
      unfold a3
      refine Within.step ?_ (set_mm_within ..) rfl
      with_reducible assumption
    clear_value a3
    extract_lets +onlyGivenNames -merge a5
    clear_value a5
    extract_lets +onlyGivenNames -merge a6
    have h7 : Within Parts.trainDram s a6 := by
      unfold a6
      refine Within.foldl ?_ ?_
      · with_reducible assumption
      · intro x8 x9 x10
        split
        · refine Within.step ?_ (setChanState_within ..) rfl
          with_reducible assumption
        · with_reducible assumption
    clear_value a6
    extract_lets +onlyGivenNames -merge a11
    have h12 : Within Parts.trainDram s a11 := by
      unfold a11
      refine Within.foldl ?_ ?_
      · with_reducible assumption
      · intro x13 x14 x15
        refine Within.step ?_ (loadRank_within ..) rfl
        with_reducible assumption
    clear_value a11
    refine Within.foldl ?_ ?_
    · with_reducible assumption
    · intro x16 x17 x18
      refine Within.step ?_ (setChanState_within ..) rfl
      with_reducible assumption

def Parts.wipeDram : List Part := [Part.sys, Part.ic, Part.all, Part.mm, 0x7020, 0x6048, Part.host, 0x1028, Part.save, Part.ev, Part.clk, 0x7820, 0x7808, 0x7810]
theorem wipeDram_within (s : State) (fails : List Nat) : Within Parts.wipeDram s (State.wipeDram s fails) := by
  have h0 : Within Parts.wipeDram s s := .refl
  unfold State.wipeDram
  extract_lets +onlyGivenNames -merge a0
  clear_value a0
  extract_lets +onlyGivenNames -merge a1
  have h2 : Within Parts.wipeDram s a1 := by
    unfold a1
    refine Within.step ?_ (withSys_within ..) rfl
    with_reducible assumption
  clear_value a1
  split
  · with_reducible assumption
  · extract_lets +onlyGivenNames -merge a3
    have h4 : Within Parts.wipeDram s a3 := by
      unfold a3
      refine Within.step ?_ (dropRam_within ..) rfl
      with_reducible assumption
    clear_value a3
    extract_lets +onlyGivenNames -merge a5
    have h6 : Within Parts.wipeDram s a5 := by
      unfold a5
      refine Within.step ?_ (set_regs_filter_within ..) (sub_all rfl)
      with_reducible assumption
    clear_value a5
    refine Within.foldl ?_ ?_
    · with_reducible assumption
    · intro x7 x8 x9
      refine Within.step ?_ (raise_within ..) rfl
      refine Within.step ?_ (markRetired_within ..) rfl
      with_reducible assumption

def Parts.wipeForLoad : List Part := [Part.ic, Part.all, Part.shadow, Part.xp, Part.au, Part.cm, Part.al, Part.ap, Part.lk, Part.mx, Part.mm]
theorem wipeForLoad_within (s : State) : Within Parts.wipeForLoad s (State.wipeForLoad s) := by
  have h0 : Within Parts.wipeForLoad s s := .refl
  unfold State.wipeForLoad
  extract_lets +onlyGivenNames -merge a0
  clear_value a0
  extract_lets +onlyGivenNames -merge a1
  clear_value a1
  refine Within.step (t := s) ?_ (.everything rfl rfl fun h => ⟨tableWf_filter _ h.1, tableWf_filter _ h.2⟩) (sub_all rfl)
  with_reducible assumption

def Parts.startShrouds : List Part := [0x4028, 0x6048, Part.host, 0x4038, Part.mx, Part.lk, Part.tm, 0x5018, Part.pw, 0x8810]
theorem startShrouds_within (s : State) : Within Parts.startShrouds s (State.startShrouds s) := by
  have h0 : Within Parts.startShrouds s s := .refl
  unfold State.startShrouds
  refine Within.foldl ?_ ?_
  · refine Within.step ?_ (finishRising_within ..) rfl
    with_reducible assumption
  · intro x0 x1 x2
    split
    · refine Within.step ?_ (startLanes_within ..) rfl
      with_reducible assumption
    · refine Within.step ?_ (stopLanes_within ..) rfl
      with_reducible assumption

def Parts.loadEngines : List Part := [0x6820, 0x6048, Part.host, Part.ev, Part.clk, 0x7820, 0x7808, Part.sys, 0x7810, Part.ic, 0x681c, Part.fresh, 0x6818, 0x1028, Part.save, Part.lk, 0x2858, Part.au, 0x1000]
theorem loadEngines_within (s : State) (fails : List Nat) : Within Parts.loadEngines s (State.loadEngines s fails) := by
  have h0 : Within Parts.loadEngines s s := .refl
  unfold State.loadEngines
  extract_lets +onlyGivenNames -merge a0
  clear_value a0
  extract_lets +onlyGivenNames -merge a1
  have h2 : Within Parts.loadEngines s a1 := by
    unfold a1
    refine Within.foldl ?_ ?_
    · with_reducible assumption
    · intro x3 x4 x5
      extract_lets +onlyGivenNames -merge a6
      have h7 : Within Parts.loadEngines s a6 := by
        unfold a6
        refine Within.step ?_ (setFld_within ..) rfl
        refine Within.step ?_ (setFld_within ..) rfl
        with_reducible assumption
      clear_value a6
      split
      · refine Within.step ?_ (setEngine_within ..) rfl
        refine Within.step ?_ (setFld_within ..) rfl
        with_reducible assumption
      · refine Within.step ?_ (setEngine_within ..) rfl
        with_reducible assumption
  clear_value a1
  refine Within.foldl ?_ ?_
  · with_reducible assumption
  · intro x8 x9 x10
    refine Within.step ?_ (engineFail_within ..) rfl
    with_reducible assumption

def Parts.startTables : List Part := [Part.al, 0x2864, Part.au, 0x6048, Part.host, 0x3810, 0x3820, 0x3830, Part.cm, 0x2860, 0x1028, Part.save, Part.ev, Part.clk, 0x7820, 0x7808, Part.sys, 0x7810, 0x3060, 0x4870]
theorem startTables_within (s : State) : Within Parts.startTables s (State.startTables s) := by
  have h0 : Within Parts.startTables s s := .refl
  unfold State.startTables
  extract_lets +onlyGivenNames -merge a0
  have h1 : Within Parts.startTables s a0 := by
    unfold a0
    refine Within.foldl ?_ ?_
    · refine Within.step ?_ (cmLoad_within ..) rfl
      with_reducible assumption
    · intro x2 x3 x4
      refine Within.step ?_ (alignPort_within ..) rfl
      with_reducible assumption
  clear_value a0
  refine Within.step ?_ (fitTransports_within ..) rfl
  refine Within.step ?_ (fitAll_within ..) rfl
  with_reducible assumption

def Parts.placeLoaded : List Part := [Part.ic, 0x6820, 0x6048, Part.host, Part.ev, Part.clk, 0x7820, 0x7808, Part.sys, 0x7810, Part.all]
theorem placeLoaded_within (n : Nat) (t : Table) (s : State) : Within Parts.placeLoaded s (State.placeLoaded n t s) := by
  induction n generalizing t s with
  | zero => exact .refl
  | succ n ih =>
    unfold State.placeLoaded
    split
    · exact Within.step .refl (setPlacement_within ..) (sub_all rfl)
    · extract_lets +onlyGivenNames -merge d e r s1
      have hr : Within Parts.placeLoaded s r.1 := Within.step .refl (raiseSeq_within ..) (sub_all rfl)
      have hs : Within Parts.placeLoaded s s1 := Within.step hr (isolateDie_within ..) (sub_all rfl)
      exact hs.trans (ih _ _)


def Parts.loadTables : List Part := [Part.shadow, Part.lk, 0x2848, Part.host, 0x6048, Part.ic, 0x6820, Part.ev, Part.clk, 0x7820, 0x7808, Part.sys, 0x7810, Part.all, Part.save]
theorem loadTables_within (s : State) : Within Parts.loadTables s (State.loadTables s) := by
  have h0 : Within Parts.loadTables s s := .refl
  unfold State.loadTables
  extract_lets +onlyGivenNames -merge a0
  clear_value a0
  extract_lets +onlyGivenNames -merge a1
  have h2 : Within Parts.loadTables s a1 := by
    unfold a1
    refine Within.trans (t := s) ?_ ⟨⟨fun _ _ => rfl, fun h => Bool.noConfusion h, fun _ => rfl, fun _ => rfl, fun _ => rfl, fun _ => rfl, fun _ => rfl, fun _ => rfl, fun _ => rfl, fun _ => rfl, fun _ => rfl, fun _ => rfl, fun _ => rfl, fun _ => rfl, fun _ => rfl, fun h => Bool.noConfusion h, fun _ => rfl, fun _ => rfl, fun _ => rfl, fun _ => rfl, fun _ => rfl⟩, rfl, rfl, fun h => ⟨h.1, tableWf_takeOver _ h.2⟩⟩
    with_reducible assumption
  clear_value a1
  extract_lets +onlyGivenNames -merge a3
  have h4 : Within Parts.loadTables s a3 := by
    unfold a3
    refine Within.step ?_ (setFld_within ..) rfl
    refine Within.step ?_ (setFld_within ..) rfl
    refine Within.step ?_ (setFld_within ..) rfl
    with_reducible assumption
  clear_value a3
  split
  · refine Within.step ?_ (setPlacement_within ..) rfl
    refine Within.step ?_ (setCal_within ..) rfl
    with_reducible assumption
  · split
    · refine Within.step ?_ (placeLoaded_within ..) rfl
      refine Within.step ?_ (setCal_within ..) rfl
      with_reducible assumption
    · extract_lets +onlyGivenNames -merge a5
      refine Within.step ?_ (calFailed_within ..) rfl
      refine Within.step (t := a3) ?_ (.everything rfl rfl fun h => ⟨tableWf_filter _ h.1, h.2⟩) (sub_all rfl)
      with_reducible assumption

def Parts.loadRefs : List Part := [Part.tm, 0x5018, 0x6048, Part.host, 0x5030]
theorem loadRefs_within (s : State) : Within Parts.loadRefs s (State.loadRefs s) := by
  have h0 : Within Parts.loadRefs s s := .refl
  unfold State.loadRefs
  refine Within.foldl ?_ ?_
  · with_reducible assumption
  · intro x0 x1 x2
    extract_lets +onlyGivenNames -merge a3
    clear_value a3
    split
    · with_reducible assumption
    · refine Within.step ?_ (refEnable_within ..) rfl
      with_reducible assumption

def Parts.loadSubs : List Part := [Part.host, 0x6048]
theorem loadSubs_within (s : State) : Within Parts.loadSubs s (State.loadSubs s) := by
  have h0 : Within Parts.loadSubs s s := .refl
  unfold State.loadSubs
  extract_lets +onlyGivenNames -merge a0
  clear_value a0
  extract_lets +onlyGivenNames -merge a1
  clear_value a1
  extract_lets +onlyGivenNames -merge a2
  extract_lets +onlyGivenNames -merge a3
  have h4 : Within Parts.loadSubs s a3 := by
    unfold a3
    refine Within.step ?_ (withHost_within ..) rfl
    with_reducible assumption
  clear_value a3
  split
  · with_reducible assumption
  · refine Within.step ?_ (bump_within ..) rfl
    with_reducible assumption

def Parts.loadMonitors : List Part := [0x8818, 0x6048, Part.host, Part.pw, Part.sys]
theorem loadMonitors_within (s : State) (mons : List (Nat × Nat)) : Within Parts.loadMonitors s (State.loadMonitors s mons) := by
  have h0 : Within Parts.loadMonitors s s := .refl
  unfold State.loadMonitors
  extract_lets +onlyGivenNames -merge a0
  have h1 : Within Parts.loadMonitors s a0 := by
    unfold a0
    refine Within.foldl ?_ ?_
    · with_reducible assumption
    · intro x2 x3 x4
      split
      · refine Within.step ?_ (setNotify_within ..) rfl
        with_reducible assumption
      · with_reducible assumption
  clear_value a0
  refine Within.foldl ?_ ?_
  · with_reducible assumption
  · intro x5 x6 x7
    split
    · refine Within.step ?_ (reading_within ..) rfl
      with_reducible assumption
    · with_reducible assumption

def Parts.loadComplete : List Part := [0x8008, Part.ev, Part.host, Part.clk, 0x7820, 0x6048, 0x7808, Part.sys, 0x7810, 0x8038, Part.fw, Part.all, 0x1020, Part.ic, Part.shadow, Part.xp, Part.au, Part.cm, Part.al, Part.ap, Part.lk, Part.mx, Part.mm, 0x7020, 0x1028, Part.save, Part.pw, 0x8810, 0x4028, 0x4038, 0x7018, Part.tm, 0x5018, 0x6810, 0x681c, Part.fresh, 0x6818, 0x6820, 0x2858, 0x1000, 0x3060, 0x2848, 0x2864, 0x3810, 0x3820, 0x3830, 0x2860, 0x4870, 0x5030, 0x8818, Part.tw, 0x5818, 0x8840, 0x8850]
theorem loadComplete_within (s : State) (rep : LoadReport) : Within Parts.loadComplete s (State.loadComplete s rep) := by
  have h0 : Within Parts.loadComplete s s := .refl
  unfold State.loadComplete
  split
  · with_reducible assumption
  · extract_lets +onlyGivenNames -merge a0
    have h1 : Within Parts.loadComplete s a0.2 := by
      unfold a0
      refine Within.step ?_ (bootLoad_within ..) rfl
      with_reducible assumption
    clear_value a0
    split
    · refine Within.step ?_ (endLoad_within ..) rfl
      with_reducible assumption
    · extract_lets +onlyGivenNames -merge a2
      have h3 : Within Parts.loadComplete s a2 := by
        unfold a2
        refine Within.step ?_ (trainDram_within ..) rfl
        refine Within.step ?_ (finishSome_within ..) rfl
        refine Within.step ?_ (wipeDram_within ..) rfl
        refine Within.step ?_ (wipeForLoad_within ..) rfl
        refine Within.step ?_ (layersGone_within ..) rfl
        with_reducible assumption
      clear_value a2
      split
      · refine Within.step ?_ (endLoad_within ..) rfl
        with_reducible assumption
      · extract_lets +onlyGivenNames -merge a4
        have h5 : Within Parts.loadComplete s a4 := by
          unfold a4
          refine Within.step ?_ (startShrouds_within ..) rfl
          with_reducible assumption
        clear_value a4
        split
        · refine Within.step ?_ (endLoad_within ..) rfl
          with_reducible assumption
        · extract_lets +onlyGivenNames -merge a6
          have h7 : Within Parts.loadComplete s a6 := by
            unfold a6
            refine Within.step ?_ (closeFaults_within ..) rfl
            with_reducible assumption
          clear_value a6
          extract_lets +onlyGivenNames -merge a8
          have h9 : Within Parts.loadComplete s a8 := by
            unfold a8
            refine Within.foldl ?_ ?_
            · refine Within.step ?_ (runCrossbar_within ..) rfl
              with_reducible assumption
            · intro x10 x11 x12
              refine Within.step ?_ (setFld_within ..) rfl
              with_reducible assumption
          clear_value a8
          extract_lets +onlyGivenNames -merge a13
          have h14 : Within Parts.loadComplete s a13 := by
            unfold a13
            refine Within.step ?_ (loadEngines_within ..) rfl
            with_reducible assumption
          clear_value a13
          extract_lets +onlyGivenNames -merge a15
          clear_value a15
          extract_lets +onlyGivenNames -merge a16
          have h17 : Within Parts.loadComplete s a16 := by
            unfold a16
            refine Within.step ?_ (asrcLoad_within ..) rfl
            refine Within.step ?_ (checkRestored_within ..) rfl
            refine Within.step ?_ (restoreSaved_within ..) rfl
            with_reducible assumption
          clear_value a16
          extract_lets +onlyGivenNames -merge a18
          have h19 : Within Parts.loadComplete s a18 := by
            unfold a18
            refine Within.step ?_ (withSys_within ..) rfl
            with_reducible assumption
          clear_value a18
          extract_lets +onlyGivenNames -merge a20
          have h21 : Within Parts.loadComplete s a20 := by
            unfold a20
            split
            · with_reducible assumption
            · refine Within.step ?_ (startShrouds_within ..) rfl
              with_reducible assumption
          clear_value a20
          extract_lets +onlyGivenNames -merge a22
          have h23 : Within Parts.loadComplete s a22 := by
            unfold a22
            refine Within.step ?_ (startTables_within ..) rfl
            refine Within.step ?_ (loadTables_within ..) rfl
            with_reducible assumption
          clear_value a22
          extract_lets +onlyGivenNames -merge a24
          have h25 : Within Parts.loadComplete s a24 := by
            unfold a24
            refine Within.step ?_ (loadBus_within ..) rfl
            refine Within.step ?_ (loadRefs_within ..) rfl
            refine Within.step ?_ (restartCopies_within ..) rfl
            with_reducible assumption
          clear_value a24
          extract_lets +onlyGivenNames -merge a26
          have h27 : Within Parts.loadComplete s a26 := by
            unfold a26
            refine Within.step ?_ (loadSubs_within ..) rfl
            refine Within.step ?_ (copyLastGasp_within ..) rfl
            with_reducible assumption
          clear_value a26
          extract_lets +onlyGivenNames -merge a28
          have h29 : Within Parts.loadComplete s a28 := by
            unfold a28
            refine Within.step ?_ (remirror_within ..) rfl
            refine Within.step ?_ (loadMonitors_within ..) rfl
            with_reducible assumption
          clear_value a28
          refine Within.step ?_ (endLoad_within ..) rfl
          refine Within.step ?_ (refreshClaim_within ..) rfl
          refine Within.step ?_ (ageRecord_within ..) rfl
          refine Within.step ?_ (startWalk_within ..) rfl
          with_reducible assumption

def Parts.loadTimeout : List Part := [Part.clk, 0x1020]
theorem loadTimeout_within (s : State) : Within Parts.loadTimeout s (State.loadTimeout s) := by
  have h0 : Within Parts.loadTimeout s s := .refl
  unfold State.loadTimeout
  split
  · refine Within.step ?_ (endLoad_within ..) rfl
    refine Within.step ?_ (waitUntil_within ..) rfl
    with_reducible assumption
  · with_reducible assumption

def Parts.modeComplete : List Part := [Part.clk, Part.sys, 0x1020, Part.fresh, 0x2010, 0x3020, 0x3810, Part.host, 0x6048, Part.xp, 0x2008, Part.cm, Part.au, Part.ev, 0x7820, 0x7808, 0x7810, 0x2020, Part.ap, 0x3058, 0x3068, Part.lk, 0x4038, Part.tm, 0x5018, 0x5030, 0x5818, 0x6820, Part.pw, 0x8810, 0x4028, 0x7018, Part.al, 0x2864, Part.mm, Part.tw]
theorem modeComplete_within (s : State) : Within Parts.modeComplete s (State.modeComplete s) := by
  have h0 : Within Parts.modeComplete s s := .refl
  unfold State.modeComplete
  split
  · with_reducible assumption
  · extract_lets +onlyGivenNames -merge a0
    split
    · with_reducible assumption
    · refine Within.step ?_ (endMode_within ..) rfl
      with_reducible assumption

def Parts.resetParts : List Part := [Part.save, Part.all, Part.ic, Part.mm, Part.pw, 0x1028, Part.shadow, Part.host, Part.ev, Part.xp, Part.au, Part.cm, Part.al, Part.ap, Part.lk, Part.mx, Part.tw, Part.fw, Part.tm, Part.sys, 0x8818, 0x8008]
theorem resetParts_within (s : State) (bad : List Nat) (mast : Option Nat) : Within Parts.resetParts s (State.resetParts s bad mast) := by
  have h0 : Within Parts.resetParts s s := .refl
  unfold State.resetParts
  extract_lets +onlyGivenNames -merge a0
  extract_lets +onlyGivenNames -merge a1
  have h2 : Within Parts.resetParts s a1 := by
    unfold a1
    refine Within.step ?_ (bootSettings_within ..) rfl
    with_reducible assumption
  clear_value a1
  extract_lets +onlyGivenNames -merge a3
  extract_lets +onlyGivenNames -merge a4
  extract_lets +onlyGivenNames -merge a5
  clear_value a5
  extract_lets +onlyGivenNames -merge a6
  clear_value a6
  extract_lets +onlyGivenNames -merge a7
  clear_value a7
  extract_lets +onlyGivenNames -merge a8
  clear_value a8
  extract_lets +onlyGivenNames -merge a9
  clear_value a9
  extract_lets +onlyGivenNames -merge a10
  clear_value a10
  extract_lets +onlyGivenNames -merge a11
  have h12 : Within Parts.resetParts s a11 := by
    unfold a11
    refine Within.step (t := a1) ?_ (.everything rfl rfl fun h => ⟨tableWf_tmerge _ (tableWf_filter _ h.1), tableWf_filter _ h.2⟩) (sub_all rfl)
    with_reducible assumption
  clear_value a11
  extract_lets +onlyGivenNames -merge a13
  clear_value a13
  extract_lets +onlyGivenNames -merge a14
  have h15 : Within Parts.resetParts s a14 := by
    unfold a14
    refine Within.step ?_ (withFw_within ..) rfl
    with_reducible assumption
  clear_value a14
  extract_lets +onlyGivenNames -merge a16
  have h17 : Within Parts.resetParts s a16 := by
    unfold a16
    refine Within.step ?_ (withTm_within ..) rfl
    with_reducible assumption
  clear_value a16
  extract_lets +onlyGivenNames -merge a18
  have h19 : Within Parts.resetParts s a18 := by
    unfold a18
    refine Within.step ?_ (withPw_within ..) rfl
    with_reducible assumption
  clear_value a18
  extract_lets +onlyGivenNames -merge a20
  have h21 : Within Parts.resetParts s a20 := by
    unfold a20
    refine Within.step ?_ (withSys_within ..) rfl
    with_reducible assumption
  clear_value a20
  extract_lets +onlyGivenNames -merge a22
  clear_value a22
  extract_lets +onlyGivenNames -merge a23
  have h24 : Within Parts.resetParts s a23 := by
    unfold a23
    refine Within.foldl ?_ ?_
    · with_reducible assumption
    · intro x25 x26 x27
      refine Within.step ?_ (setFld_within ..) rfl
      with_reducible assumption
  clear_value a23
  refine Within.step ?_ (setFld_within ..) rfl
  refine Within.step ?_ (setFld_within ..) rfl
  with_reducible assumption

def Parts.restartRefs : List Part := [0x5000, Part.tm, 0x5018, 0x6048, Part.host, 0x5030]
theorem restartRefs_within (s : State) : Within Parts.restartRefs s (State.restartRefs s) := by
  have h0 : Within Parts.restartRefs s s := .refl
  unfold State.restartRefs
  extract_lets +onlyGivenNames -merge a0
  have h1 : Within Parts.restartRefs s a0 := by
    unfold a0
    refine Within.step ?_ (setFld_within ..) rfl
    refine Within.step ?_ (setFld_within ..) rfl
    with_reducible assumption
  clear_value a0
  refine Within.foldl ?_ ?_
  · with_reducible assumption
  · intro x2 x3 x4
    split
    · with_reducible assumption
    · split
      · refine Within.step ?_ (refEnable_within ..) rfl
        with_reducible assumption
      · refine Within.step ?_ (setQ_within ..) rfl
        with_reducible assumption

def Parts.resetRecords : List Part := [Part.ev, Part.host, Part.clk, 0x7820, 0x6048, 0x7808, Part.sys, 0x7810]
theorem resetRecords_within (s : State) (bad : List Nat) (trial : Bool) (left : Nat) : Within Parts.resetRecords s (State.resetRecords s bad trial left) := by
  have h0 : Within Parts.resetRecords s s := .refl
  unfold State.resetRecords
  extract_lets +onlyGivenNames -merge a0
  have h1 : Within Parts.resetRecords s a0 := by
    unfold a0
    refine Within.foldl ?_ ?_
    · with_reducible assumption
    · intro x2 x3 x4
      refine Within.step ?_ (relays_within ..) rfl
      refine Within.step ?_ (setFld_within ..) rfl
      refine Within.step ?_ (raise_within ..) rfl
      with_reducible assumption
  clear_value a0
  split
  · refine Within.step ?_ (note_within ..) rfl
    with_reducible assumption
  · with_reducible assumption

def Parts.packageReset : List Part := [Part.save, Part.all, Part.ic, Part.mm, Part.pw, 0x1028, Part.shadow, Part.host, Part.ev, Part.xp, Part.au, Part.cm, Part.al, Part.ap, Part.lk, Part.mx, Part.tw, Part.fw, Part.tm, Part.sys, 0x8818, 0x8008, 0x8810, 0x1020, Part.clk, 0x7820, 0x6048, 0x7808, 0x7810, 0x5000, 0x5018, 0x5030]
theorem packageReset_within (s : State) (die0 : Bool) (die1 : Bool) (bad : List Nat) : Within Parts.packageReset s (State.packageReset s die0 die1 bad) := by
  have h0 : Within Parts.packageReset s s := .refl
  unfold State.packageReset
  extract_lets +onlyGivenNames -merge a0
  extract_lets +onlyGivenNames -merge a1
  clear_value a1
  extract_lets +onlyGivenNames -merge a2
  extract_lets +onlyGivenNames -merge a3
  have h4 : Within Parts.packageReset s a3 := by
    unfold a3
    refine Within.step ?_ (resetParts_within ..) rfl
    with_reducible assumption
  clear_value a3
  extract_lets +onlyGivenNames -merge a5
  have h6 : Within Parts.packageReset s a5 := by
    unfold a5
    refine Within.foldl ?_ ?_
    · with_reducible assumption
    · intro x7 x8 x9
      refine Within.step ?_ (setFld_within ..) rfl
      with_reducible assumption
  clear_value a5
  extract_lets +onlyGivenNames -merge a10
  have h11 : Within Parts.packageReset s a10 := by
    unfold a10
    refine Within.step ?_ (setFld_within ..) rfl
    with_reducible assumption
  clear_value a10
  extract_lets +onlyGivenNames -merge a12
  have h13 : Within Parts.packageReset s a12 := by
    unfold a12
    refine Within.step ?_ (showSave_within ..) rfl
    refine Within.step ?_ (loadBus_within ..) rfl
    refine Within.step ?_ (restartRefs_within ..) rfl
    refine Within.step ?_ (resetRecords_within ..) rfl
    with_reducible assumption
  clear_value a12
  extract_lets +onlyGivenNames -merge a14
  clear_value a14
  extract_lets +onlyGivenNames -merge a15
  have h16 : Within Parts.packageReset s a15 := by
    unfold a15
    refine Within.step ?_ (withHost_within ..) rfl
    with_reducible assumption
  clear_value a15
  extract_lets +onlyGivenNames -merge a17
  extract_lets +onlyGivenNames -merge a18
  have h19 : Within Parts.packageReset s a18 := by
    unfold a18
    refine Within.foldl ?_ ?_
    · with_reducible assumption
    · intro x20 x21 x22
      refine Within.step ?_ (setFld_within ..) rfl
      with_reducible assumption
  clear_value a18
  refine Within.step ?_ (driveFault_within ..) rfl
  with_reducible assumption

def Parts.powerLoss : List Part := [Part.clk, Part.tm, Part.ev, Part.sys]
theorem powerLoss_within (s : State) (mirror : Bool) : Within Parts.powerLoss s (State.powerLoss s mirror) := by
  have h0 : Within Parts.powerLoss s s := .refl
  unfold State.powerLoss
  extract_lets +onlyGivenNames -merge a0
  have h1 : Within Parts.powerLoss s a0 := by
    unfold a0
    refine Within.step ?_ (set_clk_within ..) rfl
    with_reducible assumption
  clear_value a0
  extract_lets +onlyGivenNames -merge a2
  have h3 : Within Parts.powerLoss s a2 := by
    unfold a2
    refine Within.step ?_ (withEv_within ..) rfl
    refine Within.step ?_ (withTm_within ..) rfl
    with_reducible assumption
  clear_value a2
  refine Within.step ?_ (driveFault_within ..) rfl
  refine Within.step ?_ (withSys_within ..) rfl
  with_reducible assumption

def Parts.powerOn : List Part := [Part.all, Part.tm, Part.clk, Part.ic, 0x5000, Part.save, Part.pw, Part.sys]
theorem powerOn_within (s : State) (temp : Int) : Within Parts.powerOn s (State.powerOn s temp) := by
  have h0 : Within Parts.powerOn s s := .refl
  unfold State.powerOn
  extract_lets +onlyGivenNames -merge a0
  clear_value a0
  extract_lets +onlyGivenNames -merge a1
  have h2 : Within Parts.powerOn s a1 := by
    unfold a1
    refine Within.step ?_ (installSaved_within ..) rfl
    with_reducible assumption
  clear_value a1
  extract_lets +onlyGivenNames -merge a3
  extract_lets +onlyGivenNames -merge a4
  extract_lets +onlyGivenNames -merge a5
  extract_lets +onlyGivenNames -merge a6
  clear_value a6
  extract_lets +onlyGivenNames -merge a7
  have h8 : Within Parts.powerOn s a7 := by
    unfold a7
    refine Within.step ?_ (withTm_within ..) rfl
    with_reducible assumption
  clear_value a7
  extract_lets +onlyGivenNames -merge a9
  extract_lets +onlyGivenNames -merge a10
  clear_value a10
  extract_lets +onlyGivenNames -merge a11
  have h12 : Within Parts.powerOn s a11 := by
    unfold a11
    refine Within.step (t := a7) ?_ (.everything rfl rfl fun h => ⟨tableWf_filter _ h.1, h.2⟩) (sub_all rfl)
    with_reducible assumption
  clear_value a11
  extract_lets +onlyGivenNames -merge a13
  have h14 : Within Parts.powerOn s a13 := by
    unfold a13
    refine Within.step ?_ (setFld_within ..) rfl
    with_reducible assumption
  clear_value a13
  extract_lets +onlyGivenNames -merge a15
  have h16 : Within Parts.powerOn s a15 := by
    unfold a15
    refine Within.step ?_ (withSave_within ..) rfl
    with_reducible assumption
  clear_value a15
  extract_lets +onlyGivenNames -merge a17
  have h18 : Within Parts.powerOn s a17 := by
    unfold a17
    refine Within.step ?_ (withPw_within ..) rfl
    with_reducible assumption
  clear_value a17
  refine Within.step ?_ (driveFault_within ..) rfl
  refine Within.step ?_ (withSys_within ..) rfl
  with_reducible assumption

def Parts.refuseMode : List Part := [0x1020, Part.ev, Part.host, Part.clk, 0x7820, 0x6048, 0x7808, Part.sys, 0x7810]
theorem refuseMode_within (s : State) (rq : Req) (goal : Nat) : Within Parts.refuseMode s (State.refuseMode s rq goal).2 := by
  have h0 : Within Parts.refuseMode s s := .refl
  unfold State.refuseMode
  dsimp -zeta only
  refine Within.step ?_ (note_within ..) rfl
  refine Within.step ?_ (setFld_within ..) rfl
  with_reducible assumption

def Parts.thermalTrip : List Part := [Part.ev, Part.host, Part.clk, 0x7820, 0x6048, 0x7808, Part.sys, 0x7810, 0x1020, Part.fresh, 0x2010, 0x3020, 0x3810, Part.xp, 0x2008, Part.cm, Part.au, 0x2020, Part.ap, 0x3058, 0x3068, Part.lk, 0x4038, Part.tm, 0x5018, 0x5030, 0x5818, Part.all, 0x8038, Part.fw, 0x8008, 0x1000, 0x1028, 0x6810, 0x681c, Part.ic, 0x6818, Part.mm, Part.save, 0x6820, Part.pw, Part.mx, 0x4028, 0x8810]
theorem thermalTrip_within (s : State) (d : Nat) (tj : Nat) : Within Parts.thermalTrip s (State.thermalTrip s d tj) := by
  have h0 : Within Parts.thermalTrip s s := .refl
  unfold State.thermalTrip
  split
  · with_reducible assumption
  · extract_lets +onlyGivenNames -merge a0
    have h1 : Within Parts.thermalTrip s a0 := by
      unfold a0
      refine Within.step ?_ (withSys_within ..) rfl
      refine Within.step ?_ (raise_within ..) rfl
      with_reducible assumption
    clear_value a0
    split
    · with_reducible assumption
    · refine Within.step ?_ (holdDomains_within ..) rfl
      refine Within.step ?_ (enterSafe_within ..) rfl
      with_reducible assumption

def Parts.undervoltage : List Part := [Part.ev, Part.host, Part.clk, 0x7820, 0x6048, 0x7808, Part.sys, 0x7810]
theorem undervoltage_within (s : State) (d : Nat) (mv : Nat) : Within Parts.undervoltage s (State.undervoltage s d mv) := by
  have h0 : Within Parts.undervoltage s s := .refl
  unfold State.undervoltage
  split
  · with_reducible assumption
  · extract_lets +onlyGivenNames -merge a0
    have h1 : Within Parts.undervoltage s a0 := by
      unfold a0
      refine Within.step ?_ (raise_within ..) rfl
      with_reducible assumption
    clear_value a0
    split
    · with_reducible assumption
    · refine Within.step ?_ (driveFault_within ..) rfl
      refine Within.step ?_ (withSys_within ..) rfl
      with_reducible assumption

def Parts.execLoadComplete : List Part := [0x8008, Part.ev, Part.host, Part.clk, 0x7820, 0x6048, 0x7808, Part.sys, 0x7810, 0x8038, Part.fw, Part.all, 0x1020, Part.ic, Part.shadow, Part.xp, Part.au, Part.cm, Part.al, Part.ap, Part.lk, Part.mx, Part.mm, 0x7020, 0x1028, Part.save, Part.pw, 0x8810, 0x4028, 0x4038, 0x7018, Part.tm, 0x5018, 0x6810, 0x681c, Part.fresh, 0x6818, 0x6820, 0x2858, 0x1000, 0x3060, 0x2848, 0x2864, 0x3810, 0x3820, 0x3830, 0x2860, 0x4870, 0x5030, 0x8818, Part.tw, 0x5818, 0x8840, 0x8850]
theorem execLoadComplete_within (rep : LoadReport) (s : State) : ExecWithin Parts.execLoadComplete s (execLoadComplete rep s) := by
  have h0 : Within Parts.execLoadComplete s s := .refl
  unfold execLoadComplete
  refine ⟨_, rfl, ?_⟩
  refine Within.step ?_ (loadComplete_within ..) rfl
  with_reducible assumption

def Parts.execLoadTimeout : List Part := [Part.clk, 0x1020]
theorem execLoadTimeout_within (s : State) : ExecWithin Parts.execLoadTimeout s (execLoadTimeout s) := by
  have h0 : Within Parts.execLoadTimeout s s := .refl
  unfold execLoadTimeout
  refine ⟨_, rfl, ?_⟩
  refine Within.step ?_ (loadTimeout_within ..) rfl
  with_reducible assumption

def Parts.execModeTransitionComplete : List Part := [Part.clk, Part.sys, 0x1020, Part.fresh, 0x2010, 0x3020, 0x3810, Part.host, 0x6048, Part.xp, 0x2008, Part.cm, Part.au, Part.ev, 0x7820, 0x7808, 0x7810, 0x2020, Part.ap, 0x3058, 0x3068, Part.lk, 0x4038, Part.tm, 0x5018, 0x5030, 0x5818, 0x6820, Part.pw, 0x8810, 0x4028, 0x7018, Part.al, 0x2864, Part.mm, Part.tw]
theorem execModeTransitionComplete_within (s : State) : ExecWithin Parts.execModeTransitionComplete s (execModeTransitionComplete s) := by
  have h0 : Within Parts.execModeTransitionComplete s s := .refl
  unfold execModeTransitionComplete
  refine ⟨_, rfl, ?_⟩
  refine Within.step ?_ (modeComplete_within ..) rfl
  with_reducible assumption

def Parts.execPackageReset : List Part := [Part.save, Part.all, Part.ic, Part.mm, Part.pw, 0x1028, Part.shadow, Part.host, Part.ev, Part.xp, Part.au, Part.cm, Part.al, Part.ap, Part.lk, Part.mx, Part.tw, Part.fw, Part.tm, Part.sys, 0x8818, 0x8008, 0x8810, 0x1020, Part.clk, 0x7820, 0x6048, 0x7808, 0x7810, 0x5000, 0x5018, 0x5030]
theorem execPackageReset_within (die0 : Bool) (die1 : Bool) (badRegions : List Nat) (s : State) : ExecWithin Parts.execPackageReset s (execPackageReset die0 die1 badRegions s) := by
  have h0 : Within Parts.execPackageReset s s := .refl
  unfold execPackageReset
  refine ⟨_, rfl, ?_⟩
  refine Within.step ?_ (packageReset_within ..) rfl
  with_reducible assumption

def Parts.execPowerLoss : List Part := [Part.clk, Part.tm, Part.ev, Part.sys]
theorem execPowerLoss_within (mirror : Bool) (s : State) : ExecWithin Parts.execPowerLoss s (execPowerLoss mirror s) := by
  have h0 : Within Parts.execPowerLoss s s := .refl
  unfold execPowerLoss
  refine ⟨_, rfl, ?_⟩
  refine Within.step ?_ (powerLoss_within ..) rfl
  with_reducible assumption

def Parts.execPowerOn : List Part := [Part.all, Part.tm, Part.clk, Part.ic, 0x5000, Part.save, Part.pw, Part.sys]
theorem execPowerOn_within (temp : Int) (s : State) : ExecWithin Parts.execPowerOn s (execPowerOn temp s) := by
  have h0 : Within Parts.execPowerOn s s := .refl
  unfold execPowerOn
  refine ⟨_, rfl, ?_⟩
  refine Within.step ?_ (powerOn_within ..) rfl
  with_reducible assumption

def Parts.putMode : List Part := [0x1020, Part.sys, Part.fresh, 0x2010, 0x3020, 0x3810, Part.host, 0x6048, Part.xp, 0x2008, Part.cm, Part.au, Part.ev, Part.clk, 0x7820, 0x7808, 0x7810, 0x2020, Part.ap, 0x3058, 0x3068, Part.lk, 0x4038, Part.tm, 0x5018, 0x5030, 0x5818, Part.all, 0x8038, Part.fw, 0x8008, 0x1000, 0x1028, 0x6810, 0x681c, Part.ic, 0x6818, Part.mm, Part.save, 0x6820, 0x8810, Part.pw, 0x7018, Part.mx, 0x4028]
theorem putMode_within (rq : Req) (v : W) : PutWithin Parts.putMode (putMode rq v) := by
  unfold putMode
  refine ⟨rfl, fun s0 => ?_⟩
  dsimp -zeta only
  have h00 : Within Parts.putMode s0 s0 := .refl
  extract_lets +onlyGivenNames -merge a0
  extract_lets +onlyGivenNames -merge a1
  clear_value a1
  split
  · with_reducible assumption
  · split
    · dsimp -zeta only
      refine Within.step ?_ (askMode_within ..) rfl
      with_reducible assumption
    · refine Within.step ?_ (refuseMode_within ..) rfl
      with_reducible assumption

def Parts.execRequestActive : List Part := [0x1020, Part.sys, Part.fresh, 0x2010, 0x3020, 0x3810, Part.host, 0x6048, Part.xp, 0x2008, Part.cm, Part.au, Part.ev, Part.clk, 0x7820, 0x7808, 0x7810, 0x2020, Part.ap, 0x3058, 0x3068, Part.lk, 0x4038, Part.tm, 0x5018, 0x5030, 0x5818, Part.all, 0x8038, Part.fw, 0x8008, 0x1000, 0x1028, 0x6810, 0x681c, Part.ic, 0x6818, Part.mm, Part.save, 0x6820, 0x8810, Part.pw, 0x7018, Part.mx, 0x4028, Part.shadow, 0x6040]
theorem execRequestActive_within (rq : Req) (s : State) : ExecWithin Parts.execRequestActive s (execRequestActive rq s) := by
  have h0 : Within Parts.execRequestActive s s := .refl
  unfold execRequestActive
  extract_lets +onlyGivenNames -merge a0
  have h1 : PutWithin Parts.execRequestActive a0 := by
    unfold a0
    exact PutWithin.step (putMode_within ..) rfl
  clear_value a0
  refine ⟨_, rfl, ?_⟩
  refine request_within rfl ?_ ?_
  · with_reducible assumption
  · with_reducible assumption

def Parts.execRequestHold : List Part := [0x1020, Part.sys, Part.fresh, 0x2010, 0x3020, 0x3810, Part.host, 0x6048, Part.xp, 0x2008, Part.cm, Part.au, Part.ev, Part.clk, 0x7820, 0x7808, 0x7810, 0x2020, Part.ap, 0x3058, 0x3068, Part.lk, 0x4038, Part.tm, 0x5018, 0x5030, 0x5818, Part.all, 0x8038, Part.fw, 0x8008, 0x1000, 0x1028, 0x6810, 0x681c, Part.ic, 0x6818, Part.mm, Part.save, 0x6820, 0x8810, Part.pw, 0x7018, Part.mx, 0x4028, Part.shadow, 0x6040]
theorem execRequestHold_within (rq : Req) (s : State) : ExecWithin Parts.execRequestHold s (execRequestHold rq s) := by
  have h0 : Within Parts.execRequestHold s s := .refl
  unfold execRequestHold
  extract_lets +onlyGivenNames -merge a0
  have h1 : PutWithin Parts.execRequestHold a0 := by
    unfold a0
    exact PutWithin.step (putMode_within ..) rfl
  clear_value a0
  refine ⟨_, rfl, ?_⟩
  refine request_within rfl ?_ ?_
  · with_reducible assumption
  · with_reducible assumption

def Parts.execRequestLoad : List Part := [0x1020, Part.sys, Part.fresh, 0x2010, 0x3020, 0x3810, Part.host, 0x6048, Part.xp, 0x2008, Part.cm, Part.au, Part.ev, Part.clk, 0x7820, 0x7808, 0x7810, 0x2020, Part.ap, 0x3058, 0x3068, Part.lk, 0x4038, Part.tm, 0x5018, 0x5030, 0x5818, Part.all, 0x8038, Part.fw, 0x8008, 0x1000, 0x1028, 0x6810, 0x681c, Part.ic, 0x6818, Part.mm, Part.save, 0x6820, 0x8810, Part.pw, 0x7018, Part.mx, 0x4028, Part.shadow, 0x6040]
theorem execRequestLoad_within (rq : Req) (s : State) : ExecWithin Parts.execRequestLoad s (execRequestLoad rq s) := by
  have h0 : Within Parts.execRequestLoad s s := .refl
  unfold execRequestLoad
  extract_lets +onlyGivenNames -merge a0
  have h1 : PutWithin Parts.execRequestLoad a0 := by
    unfold a0
    exact PutWithin.step (putMode_within ..) rfl
  clear_value a0
  refine ⟨_, rfl, ?_⟩
  refine request_within rfl ?_ ?_
  · with_reducible assumption
  · with_reducible assumption

def Parts.execRequestSafe : List Part := [0x1020, Part.sys, Part.fresh, 0x2010, 0x3020, 0x3810, Part.host, 0x6048, Part.xp, 0x2008, Part.cm, Part.au, Part.ev, Part.clk, 0x7820, 0x7808, 0x7810, 0x2020, Part.ap, 0x3058, 0x3068, Part.lk, 0x4038, Part.tm, 0x5018, 0x5030, 0x5818, Part.all, 0x8038, Part.fw, 0x8008, 0x1000, 0x1028, 0x6810, 0x681c, Part.ic, 0x6818, Part.mm, Part.save, 0x6820, 0x8810, Part.pw, 0x7018, Part.mx, 0x4028, Part.shadow, 0x6040]
theorem execRequestSafe_within (rq : Req) (s : State) : ExecWithin Parts.execRequestSafe s (execRequestSafe rq s) := by
  have h0 : Within Parts.execRequestSafe s s := .refl
  unfold execRequestSafe
  extract_lets +onlyGivenNames -merge a0
  have h1 : PutWithin Parts.execRequestSafe a0 := by
    unfold a0
    exact PutWithin.step (putMode_within ..) rfl
  clear_value a0
  refine ⟨_, rfl, ?_⟩
  refine request_within rfl ?_ ?_
  · with_reducible assumption
  · with_reducible assumption

def Parts.execRequestService : List Part := [0x1020, Part.sys, Part.fresh, 0x2010, 0x3020, 0x3810, Part.host, 0x6048, Part.xp, 0x2008, Part.cm, Part.au, Part.ev, Part.clk, 0x7820, 0x7808, 0x7810, 0x2020, Part.ap, 0x3058, 0x3068, Part.lk, 0x4038, Part.tm, 0x5018, 0x5030, 0x5818, Part.all, 0x8038, Part.fw, 0x8008, 0x1000, 0x1028, 0x6810, 0x681c, Part.ic, 0x6818, Part.mm, Part.save, 0x6820, 0x8810, Part.pw, 0x7018, Part.mx, 0x4028, Part.shadow, 0x6040]
theorem execRequestService_within (rq : Req) (s : State) : ExecWithin Parts.execRequestService s (execRequestService rq s) := by
  have h0 : Within Parts.execRequestService s s := .refl
  unfold execRequestService
  extract_lets +onlyGivenNames -merge a0
  have h1 : PutWithin Parts.execRequestService a0 := by
    unfold a0
    exact PutWithin.step (putMode_within ..) rfl
  clear_value a0
  refine ⟨_, rfl, ?_⟩
  refine request_within rfl ?_ ?_
  · with_reducible assumption
  · with_reducible assumption

def Parts.execRequestStandby : List Part := [0x1020, Part.sys, Part.fresh, 0x2010, 0x3020, 0x3810, Part.host, 0x6048, Part.xp, 0x2008, Part.cm, Part.au, Part.ev, Part.clk, 0x7820, 0x7808, 0x7810, 0x2020, Part.ap, 0x3058, 0x3068, Part.lk, 0x4038, Part.tm, 0x5018, 0x5030, 0x5818, Part.all, 0x8038, Part.fw, 0x8008, 0x1000, 0x1028, 0x6810, 0x681c, Part.ic, 0x6818, Part.mm, Part.save, 0x6820, 0x8810, Part.pw, 0x7018, Part.mx, 0x4028, Part.shadow, 0x6040]
theorem execRequestStandby_within (rq : Req) (s : State) : ExecWithin Parts.execRequestStandby s (execRequestStandby rq s) := by
  have h0 : Within Parts.execRequestStandby s s := .refl
  unfold execRequestStandby
  extract_lets +onlyGivenNames -merge a0
  have h1 : PutWithin Parts.execRequestStandby a0 := by
    unfold a0
    exact PutWithin.step (putMode_within ..) rfl
  clear_value a0
  refine ⟨_, rfl, ?_⟩
  refine request_within rfl ?_ ?_
  · with_reducible assumption
  · with_reducible assumption

def Parts.execThermalTrip : List Part := [Part.ev, Part.host, Part.clk, 0x7820, 0x6048, 0x7808, Part.sys, 0x7810, 0x1020, Part.fresh, 0x2010, 0x3020, 0x3810, Part.xp, 0x2008, Part.cm, Part.au, 0x2020, Part.ap, 0x3058, 0x3068, Part.lk, 0x4038, Part.tm, 0x5018, 0x5030, 0x5818, Part.all, 0x8038, Part.fw, 0x8008, 0x1000, 0x1028, 0x6810, 0x681c, Part.ic, 0x6818, Part.mm, Part.save, 0x6820, Part.pw, Part.mx, 0x4028, 0x8810]
theorem execThermalTrip_within (d : Nat) (tj : Nat) (s : State) : ExecWithin Parts.execThermalTrip s (execThermalTrip d tj s) := by
  have h0 : Within Parts.execThermalTrip s s := .refl
  unfold execThermalTrip
  refine ⟨_, rfl, ?_⟩
  refine Within.step ?_ (thermalTrip_within ..) rfl
  with_reducible assumption

def Parts.execUndervoltage : List Part := [Part.ev, Part.host, Part.clk, 0x7820, 0x6048, 0x7808, Part.sys, 0x7810]
theorem execUndervoltage_within (d : Nat) (mv : Nat) (s : State) : ExecWithin Parts.execUndervoltage s (execUndervoltage d mv s) := by
  have h0 : Within Parts.execUndervoltage s s := .refl
  unfold execUndervoltage
  refine ⟨_, rfl, ?_⟩
  refine Within.step ?_ (undervoltage_within ..) rfl
  with_reducible assumption

end Sys2Proof.Machine
end

