-- ==== Sys2Proof/Laws/WithinHosts.lean ====
section
/-! SUPPORT. What the operations of Machine/Hosts.lean may change: for each the parts of the state, and that it keeps to them. -/
namespace Sys2Proof.Machine

def Parts.blockElems : List Part := [Part.fresh, Part.host, Part.ev, Part.fw, 0x681c, Part.ic, Part.clk, 0x7820, 0x6048, 0x7808, Part.sys, 0x7810, 0x6818, 0x8818, Part.all, 0x6830, Part.mx, 0x4850, 0x4860, Part.tm]
theorem blockElems_within (s : State) (rq : Req) (o : Obj) (k e : Nat) (acc : List W) (n : Nat) :
    Within Parts.blockElems s (s.blockElems rq o k e acc n).2.2 := by
  induction k generalizing s e acc n with
  | zero => exact .refl
  | succ k ih =>
    unfold State.blockElems
    split
    · exact .refl
    · extract_lets +onlyGivenNames -merge r
      have hr : Within Parts.blockElems s r.2 := Within.step .refl (readValue_within ..) (sub_all rfl)
      exact hr.trans (ih ..)


def Parts.withBus : List Part := [Part.host]
theorem withBus_within (s : State) (a : Nat) (f : BusAtt → BusAtt) : Within Parts.withBus s (State.withBus s a f) := by
  have h0 : Within Parts.withBus s s := .refl
  unfold State.withBus
  refine Within.step ?_ (withHost_within ..) rfl
  with_reducible assumption

def Parts.busCollision : List Part := [0x6028, Part.host, Part.fresh]
theorem busCollision_within (s : State) (a : Nat) (late : Bool) : Within Parts.busCollision s (State.busCollision s a late) := by
  have h0 : Within Parts.busCollision s s := .refl
  unfold State.busCollision
  split
  · with_reducible assumption
  · extract_lets +onlyGivenNames -merge a0
    have h1 : Within Parts.busCollision s a0 := by
      unfold a0
      refine Within.step ?_ (setFld_within ..) rfl
      with_reducible assumption
    clear_value a0
    extract_lets +onlyGivenNames -merge a2
    have h3 : Within Parts.busCollision s a2 := by
      unfold a2
      split
      · refine Within.step ?_ (setFld_within ..) rfl
        with_reducible assumption
      · with_reducible assumption
    clear_value a2
    extract_lets +onlyGivenNames -merge a4
    split
    · refine Within.step ?_ (withBus_within ..) rfl
      refine Within.step ?_ (setFld_within ..) rfl
      with_reducible assumption
    · extract_lets +onlyGivenNames -merge a5
      refine Within.step ?_ (withBus_within ..) rfl
      refine Within.step ?_ (set_fresh_within ..) rfl
      with_reducible assumption

def Parts.busFrame : List Part := [0x6028, 0x6048, Part.host]
theorem busFrame_within (s : State) (a : Nat) (f : BusFrame) : Within Parts.busFrame s (State.busFrame s a f) := by
  have h0 : Within Parts.busFrame s s := .refl
  unfold State.busFrame
  extract_lets +onlyGivenNames -merge a0
  extract_lets +onlyGivenNames -merge a1
  clear_value a1
  split
  · with_reducible assumption
  · split
    · refine Within.step ?_ (setFld_within ..) rfl
      with_reducible assumption
    · split
      · refine Within.step ?_ (setFld_within ..) rfl
        with_reducible assumption
      · split
        · with_reducible assumption
        · split
          · refine Within.step ?_ (bump_within ..) rfl
            with_reducible assumption
          · split
            · split
              · refine Within.step ?_ (bump_within ..) rfl
                with_reducible assumption
              · refine Within.step ?_ (bump_within ..) rfl
                with_reducible assumption
              · refine Within.step ?_ (withBus_within ..) rfl
                with_reducible assumption
            · refine Within.step ?_ (withBus_within ..) rfl
              with_reducible assumption

def Parts.busRetry : List Part := [Part.clk, Part.host]
theorem busRetry_within (s : State) (a : Nat) : Within Parts.busRetry s (State.busRetry s a) := by
  have h0 : Within Parts.busRetry s s := .refl
  unfold State.busRetry
  split
  · with_reducible assumption
  · split
    · with_reducible assumption
    · extract_lets +onlyGivenNames -merge a0
      have h1 : Within Parts.busRetry s a0 := by
        unfold a0
        refine Within.step ?_ (waitUntil_within ..) rfl
        with_reducible assumption
      clear_value a0
      refine Within.step ?_ (withBus_within ..) rfl
      with_reducible assumption

def Parts.closeSession : List Part := [Part.host, Part.fresh, 0x2010, 0x3020, 0x3810, 0x6048, Part.xp, 0x2008, Part.cm, Part.au, Part.ev, Part.clk, 0x7820, 0x7808, Part.sys, 0x7810, 0x2020, Part.tw]
theorem closeSession_within (s : State) (c : Nat) : Within Parts.closeSession s (State.closeSession s c) := by
  have h0 : Within Parts.closeSession s s := .refl
  unfold State.closeSession
  split
  · with_reducible assumption
  · refine Within.step ?_ (closeSalvos_within ..) rfl
    refine Within.step ?_ (setSession_within ..) rfl
    with_reducible assumption

def Parts.emergencyRepeat : List Part := [Part.clk, Part.host, 0x6048, Part.mx, Part.fresh, 0x4860]
theorem emergencyRepeat_within (s : State) : Within Parts.emergencyRepeat s (State.emergencyRepeat s) := by
  have h0 : Within Parts.emergencyRepeat s s := .refl
  unfold State.emergencyRepeat
  split
  · with_reducible assumption
  · split
    · with_reducible assumption
    · extract_lets +onlyGivenNames -merge a0
      extract_lets +onlyGivenNames -merge a1
      extract_lets +onlyGivenNames -merge a2
      have h3 : Within Parts.emergencyRepeat s a2 := by
        unfold a2
        refine Within.step ?_ (waitUntil_within ..) rfl
        with_reducible assumption
      clear_value a2
      extract_lets +onlyGivenNames -merge a4
      have h5 : Within Parts.emergencyRepeat s a4 := by
        unfold a4
        refine Within.step ?_ (withHost_within ..) rfl
        with_reducible assumption
      clear_value a4
      refine Within.foldl ?_ ?_
      · with_reducible assumption
      · intro x6 x7 x8
        refine Within.step ?_ (sendMsg_within ..) rfl
        with_reducible assumption

def Parts.markSent : List Part := [Part.ev]
theorem markSent_within (s : State) (ws : List W) : Within Parts.markSent s (State.markSent s ws) := by
  have h0 : Within Parts.markSent s s := .refl
  unfold State.markSent
  extract_lets +onlyGivenNames -merge a0
  extract_lets +onlyGivenNames -merge a1
  clear_value a1
  refine Within.step ?_ (withEv_within ..) rfl
  with_reducible assumption

def Parts.emergencySend : List Part := [Part.host, 0x6048, Part.mx, Part.fresh, 0x4860, Part.ev]
theorem emergencySend_within (s : State) : Within Parts.emergencySend s (State.emergencySend s) := by
  have h0 : Within Parts.emergencySend s s := .refl
  unfold State.emergencySend
  split
  · with_reducible assumption
  · split
    · with_reducible assumption
    · extract_lets +onlyGivenNames -merge a0
      clear_value a0
      extract_lets +onlyGivenNames -merge a1
      have h2 : Within Parts.emergencySend s a1 := by
        unfold a1
        refine Within.step ?_ (withHost_within ..) rfl
        with_reducible assumption
      clear_value a1
      refine Within.foldl ?_ ?_
      · refine Within.step ?_ (markSent_within ..) rfl
        with_reducible assumption
      · intro x3 x4 x5
        refine Within.step ?_ (sendMsg_within ..) rfl
        with_reducible assumption

def Parts.wireWrite : List Part := [0x1028, Part.save, Part.shadow, Part.ev, Part.host, Part.clk, 0x7820, 0x6048, 0x7808, Part.sys, 0x7810, 0x6040]
theorem wireWrite_within {l : List Part} {s r : State} {rq : Req} {x : WireAddr} {p : Put}
    (hl : sub Parts.wireWrite l = true) (hx : PutWithin l p) (h : Within l r s) : Within l r (s.wireWrite rq x p).2 := by
  unfold State.wireWrite
  extract_lets +onlyGivenNames -merge a
  have ha : Within l r a.2 := judgeWrite_within (sub_trans (b := Parts.wireWrite) rfl hl) hx h
  clear_value a
  exact ha.step (settleAs_within ..) (sub_trans (b := Parts.wireWrite) rfl hl)


def Parts.emptyBlock : List Part := [Part.all, 0x1028, Part.save, Part.shadow, Part.ev, Part.host, Part.clk, 0x7820, 0x6048, 0x7808, Part.sys, 0x7810, 0x6040]
theorem emptyBlock_within (s : State) (rq : Req) (x : WireAddr) (typ : Nat) : Within Parts.emptyBlock s (s.emptyBlock rq x typ).2 := by
  unfold State.emptyBlock
  exact wireWrite_within (sub_all rfl) ⟨takesIn_all rfl _, fun _ => .refl⟩ .refl


def Parts.takeFrame : List Part := [Part.host]
theorem takeFrame_within (s : State) (h : Ncp) : Within Parts.takeFrame s (State.takeFrame s h) := by
  have h0 : Within Parts.takeFrame s s := .refl
  unfold State.takeFrame
  extract_lets +onlyGivenNames -merge a0
  clear_value a0
  split
  · refine Within.step ?_ (withHost_within ..) rfl
    with_reducible assumption
  · with_reducible assumption

def Parts.touchSession : List Part := [Part.host]
theorem touchSession_within (s : State) (h : Ncp) : Within Parts.touchSession s (State.touchSession s h) := by
  have h0 : Within Parts.touchSession s s := .refl
  unfold State.touchSession
  split
  · refine Within.step ?_ (modSession_within ..) rfl
    with_reducible assumption
  · with_reducible assumption

def Parts.serve : List Part := [Part.all]
theorem serve_within {l : List Part} {s : State} {h : Ncp} {k : Req → State → Option (Resp × State)}
    (m : l.contains Part.all = true) (hk : ∀ rq t, Within l s t → ∀ z, k rq t = some z → Within l s z.2) :
    Within l s (s.serve h k) := by
  unfold State.serve
  split
  · exact .refl
  · extract_lets +onlyGivenNames -merge s1
    have h1 : Within l s s1 := (Within.step .refl (stir_within s) (sub_all m)).step (takeFrame_within ..) (sub_all m)
    clear_value s1
    split
    · exact (h1.step (countNoSession_within ..) (sub_all m)).step (respond_within ..) (sub_all m)
    · extract_lets +onlyGivenNames -merge s2
      have h2 : Within l s s2 := h1.step (touchSession_within ..) (sub_all m)
      clear_value s2
      split
      · exact (h2.step (bump_within ..) (sub_all m)).step (respond_within ..) (sub_all m)
      · split
        · exact (h2.step (bump_within ..) (sub_all m)).step (withHost_within ..) (sub_all m)
        · split
          · exact h2.step (bump_within ..) (sub_all m)
          · rename_i r t e
            have ht : Within l s t := hk _ _ h2 _ e
            extract_lets +onlyGivenNames -merge u
            have hu : Within l s u := by
              unfold u
              split
              · exact ht
              · exact ht.step (bump_within ..) (sub_all m)
            exact hu.step (answerMsg_within ..) (sub_all m)


theorem onSession_within {l : List Part} {s : State} {h : Ncp} {a : Addr} {k : Req → State → Option (Resp × State)}
    (hk : ∀ rq t, Within l s t → ∀ z, k rq t = some z → Within l s z.2) :
    ∀ rq t, Within l s t → ∀ z, onSession h a k rq t = some z → Within l s z.2 := by
  intro rq t ht z hz
  unfold onSession at hz
  split at hz
  · cases hz
    exact ht
  · exact hk rq t ht z hz


def Parts.ncpBlockRead : List Part := [Part.ev, Part.host, Part.clk, 0x7820, 0x6048, 0x7808, Part.sys, 0x7810, 0x6040, Part.fresh, Part.fw, 0x681c, Part.ic, 0x6818, 0x8818, Part.all, 0x6830, Part.mx, 0x4850, 0x4860, Part.tm]
theorem ncpBlockRead_within (s : State) (h : Ncp) (x : WireAddr) (count : Nat) : Within Parts.ncpBlockRead s (s.ncpBlockRead h x count) := by
  unfold State.ncpBlockRead
  extract_lets +onlyGivenNames -merge a
  refine serve_within rfl (onSession_within fun rq t ht z hz => ?_)
  split at hz
  · cases hz
    exact ht.step (settleAs_within ..) (sub_all rfl)
  · split at hz
    · cases hz
      exact ht.step (readValue_within ..) (sub_all rfl)
    · cases hz
      exact ht.step (blockElems_within ..) (sub_all rfl)


def Parts.openSigned : List Part := [Part.host]
theorem openSigned_within (s : State) (c : Nat) (b : List Byte) : Within Parts.openSigned s (State.openSigned s c b).2 := by
  have h0 : Within Parts.openSigned s s := .refl
  unfold State.openSigned
  extract_lets +onlyGivenNames -merge a0
  clear_value a0
  dsimp -zeta only
  refine Within.step ?_ (withHost_within ..) rfl
  with_reducible assumption

def Parts.openSession : List Part := [Part.host, Part.fresh, 0x2010, 0x3020, 0x3810, 0x6048, Part.xp, 0x2008, Part.cm, Part.au, Part.ev, Part.clk, 0x7820, 0x7808, Part.sys, 0x7810, 0x2020, Part.tw]
theorem openSession_within (s : State) (c : Nat) (n : Nat) (k : Nat) (h : Ncp) (b : List Byte) : Within Parts.openSession s (State.openSession s c n k h b) := by
  have h0 : Within Parts.openSession s s := .refl
  unfold State.openSession
  refine Within.step ?_ (setSession_within ..) rfl
  refine Within.step ?_ (closeSession_within ..) rfl
  with_reducible assumption

def Parts.putOpen : List Part := [Part.all, Part.host, Part.fresh, 0x2010, 0x3020, 0x3810, 0x6048, Part.xp, 0x2008, Part.cm, Part.au, Part.ev, Part.clk, 0x7820, 0x7808, Part.sys, 0x7810, 0x2020, Part.tw]
theorem putOpen_within (a : Addr) (h : Option Ncp) (b : List Byte) : PutWithin Parts.putOpen (putOpen a h b) := by
  unfold putOpen
  refine ⟨takesIn_all rfl _, fun s0 => ?_⟩
  dsimp -zeta only
  have h00 : Within Parts.putOpen s0 s0 := .refl
  split
  · with_reducible assumption
  · extract_lets +onlyGivenNames -merge a0
    extract_lets +onlyGivenNames -merge a1
    extract_lets +onlyGivenNames -merge a2
    extract_lets +onlyGivenNames -merge a3
    clear_value a3
    extract_lets +onlyGivenNames -merge a4
    have h5 : Within Parts.putOpen s0 a4.2 := by
      unfold a4
      split
      · refine Within.step ?_ (openSigned_within ..) rfl
        with_reducible assumption
      · with_reducible assumption
    clear_value a4
    split
    · with_reducible assumption
    · extract_lets +onlyGivenNames -merge a6
      have h7 : Within Parts.putOpen s0 a6 := by
        unfold a6
        with_reducible assumption
      clear_value a6
      split
      · split
        · dsimp -zeta only
          refine Within.step ?_ (openSession_within ..) rfl
          with_reducible assumption
        · with_reducible assumption
      · dsimp -zeta only
        refine Within.step ?_ (openSession_within ..) rfl
        with_reducible assumption

def Parts.putClose : List Part := [Part.all, Part.host, Part.fresh, 0x2010, 0x3020, 0x3810, 0x6048, Part.xp, 0x2008, Part.cm, Part.au, Part.ev, Part.clk, 0x7820, 0x7808, Part.sys, 0x7810, 0x2020, Part.tw]
theorem putClose_within (rq : Req) (a : Addr) (v : W) : PutWithin Parts.putClose (putClose rq a v) := by
  unfold putClose
  refine ⟨takesIn_all rfl _, fun s0 => ?_⟩
  dsimp -zeta only
  have h00 : Within Parts.putClose s0 s0 := .refl
  split
  · with_reducible assumption
  · split
    · dsimp -zeta only
      refine Within.step ?_ (closeSession_within ..) rfl
      with_reducible assumption
    · with_reducible assumption

def Parts.putAny : List Part := [Part.all, Part.host, Part.fresh, 0x2010, 0x3020, 0x3810, 0x6048, Part.xp, 0x2008, Part.cm, Part.au, Part.ev, Part.clk, 0x7820, 0x7808, Part.sys, 0x7810, 0x2020, Part.tw]
theorem putAny_within (s : State) (rq : Req) (h : Option Ncp) (a : Addr) (ws : List (Nat × W)) (l : List Byte) : PutWithin Parts.putAny (putAny s rq h a ws l) := by
  have h0 : Within Parts.putAny s s := .refl
  unfold putAny
  extract_lets +onlyGivenNames -merge a0
  clear_value a0
  split
  · split
    · exact PutWithin.step (putMode_within ..) rfl
    · exact PutWithin.step (putObject_within ..) rfl
  · split
    · exact PutWithin.step (putOpen_within ..) rfl
    · split
      · exact PutWithin.step (putClose_within ..) rfl
      · exact PutWithin.step (putObject_within ..) rfl
  · exact PutWithin.step (putObject_within ..) rfl

def Parts.putItem : List Part := [Part.all, Part.host, Part.fresh, 0x2010, 0x3020, 0x3810, 0x6048, Part.xp, 0x2008, Part.cm, Part.au, Part.ev, Part.clk, 0x7820, 0x7808, Part.sys, 0x7810, 0x2020, Part.tw]
theorem putItem_within (s : State) (rq : Req) (h : Ncp) (x : WItem) : PutWithin Parts.putItem (putItem s rq h x) := by
  have h0 : Within Parts.putItem s s := .refl
  unfold putItem
  extract_lets +onlyGivenNames -merge a0
  clear_value a0
  split
  · refine ⟨takesIn_all rfl _, fun s0 => ?_⟩
    dsimp -zeta only
    have h00 : Within Parts.putItem s0 s0 := .refl
    with_reducible assumption
  · split
    · refine ⟨takesIn_all rfl _, fun s0 => ?_⟩
      dsimp -zeta only
      have h00 : Within Parts.putItem s0 s0 := .refl
      with_reducible assumption
    · extract_lets +onlyGivenNames -merge a1
      clear_value a1
      refine putTyped_within (takesIn_all rfl _) ?_
      exact PutWithin.step (putAny_within ..) rfl

def Parts.writeItem : List Part := [Part.all, Part.host, Part.fresh, 0x2010, 0x3020, 0x3810, 0x6048, Part.xp, 0x2008, Part.cm, Part.au, Part.ev, Part.clk, 0x7820, 0x7808, Part.sys, 0x7810, 0x2020, Part.tw, 0x1028, Part.save, Part.shadow, 0x6040]
theorem writeItem_within (s : State) (rq : Req) (h : Ncp) (x : WItem) : Within Parts.writeItem s (State.writeItem s rq h x).2 := by
  have h0 : Within Parts.writeItem s s := .refl
  unfold State.writeItem
  refine wireWrite_within rfl ?_ ?_
  · exact PutWithin.step (putItem_within ..) rfl
  · with_reducible assumption

def Parts.writeElems : List Part := [Part.all, Part.host, Part.fresh, 0x2010, 0x3020, 0x3810, 0x6048, Part.xp, 0x2008, Part.cm, Part.au, Part.ev, Part.clk, 0x7820, 0x7808, Part.sys, 0x7810, 0x2020, Part.tw, 0x1028, Part.save, Part.shadow, 0x6040]
theorem writeElems_within (s : State) (rq : Req) (h : Ncp) (typ : Nat) (l : List (List Byte)) (a : WireAddr) (n : Nat) :
    Within Parts.writeElems s (s.writeElems rq h typ l a n).2.2 := by
  induction l generalizing s a n with
  | nil => exact .refl
  | cons x l ih =>
    unfold State.writeElems
    extract_lets +onlyGivenNames -merge r
    have hr : Within Parts.writeElems s r.2 := Within.step .refl (writeItem_within ..) (sub_all rfl)
    split
    · exact hr.trans (ih ..)
    · exact hr


def Parts.ncpBlockWrite : List Part := [Part.all, 0x1028, Part.save, Part.shadow, Part.ev, Part.host, Part.clk, 0x7820, 0x6048, 0x7808, Part.sys, 0x7810, 0x6040, Part.fresh, 0x2010, 0x3020, 0x3810, Part.xp, 0x2008, Part.cm, Part.au, 0x2020, Part.tw]
theorem ncpBlockWrite_within (s : State) (h : Ncp) (x : WireAddr) (typ : Nat) (elems : List (List Byte)) : Within Parts.ncpBlockWrite s (s.ncpBlockWrite h x typ elems) := by
  unfold State.ncpBlockWrite
  refine serve_within rfl (onSession_within fun rq t ht z hz => ?_)
  split at hz
  · cases hz
  · extract_lets +onlyGivenNames -merge r0 r1 r at hz
    have hr : Within Parts.ncpBlockWrite s r.2.2 := by
      unfold r
      split
      · exact ht.step (emptyBlock_within ..) (sub_all rfl)
      · split
        · exact ht.step (writeItem_within ..) (sub_all rfl)
        · exact ht.step (writeElems_within ..) (sub_all rfl)
    cases hz
    exact hr


def Parts.readItem : List Part := [Part.ev, Part.host, Part.clk, 0x7820, 0x6048, 0x7808, Part.sys, 0x7810, 0x6040, Part.fresh, Part.fw, 0x681c, Part.ic, 0x6818, 0x8818, Part.all, 0x6830, Part.mx, 0x4850, 0x4860, Part.tm]
theorem readItem_within (s : State) (rq : Req) (x : WireAddr) : Within Parts.readItem s (State.readItem s rq x).2 := by
  have h0 : Within Parts.readItem s s := .refl
  unfold State.readItem
  split
  · dsimp -zeta only
    refine Within.step ?_ (settleAs_within ..) rfl
    with_reducible assumption
  · extract_lets +onlyGivenNames -merge a0
    have h1 : Within Parts.readItem s a0.2 := by
      unfold a0
      refine Within.step ?_ (readValue_within ..) rfl
      with_reducible assumption
    clear_value a0
    with_reducible assumption

def Parts.readItems : List Part := [Part.ev, Part.host, Part.clk, 0x7820, 0x6048, 0x7808, Part.sys, 0x7810, 0x6040, Part.fresh, Part.fw, 0x681c, Part.ic, 0x6818, 0x8818, Part.all, 0x6830, Part.mx, 0x4850, 0x4860, Part.tm]
theorem readItems_within (s : State) (rq : Req) (h : Ncp) (l : List WireAddr) : Within Parts.readItems s (State.readItems s rq h l).2 := by
  have h0 : Within Parts.readItems s s := .refl
  unfold State.readItems
  refine Within.foldl_snd ?_ ?_
  · with_reducible assumption
  · intro x0 x1 x2
    split
    · with_reducible assumption
    · extract_lets +onlyGivenNames -merge a3
      have h4 : Within Parts.readItems s a3.2 := by
        unfold a3
        refine Within.step ?_ (readItem_within ..) rfl
        with_reducible assumption
      clear_value a3
      with_reducible assumption

def Parts.ncpRead : List Part := [Part.ev, Part.host, Part.clk, 0x7820, 0x6048, 0x7808, Part.sys, 0x7810, 0x6040, Part.fresh, Part.fw, 0x681c, Part.ic, 0x6818, 0x8818, Part.all, 0x6830, Part.mx, 0x4850, 0x4860, Part.tm]
theorem ncpRead_within (s : State) (h : Ncp) (l : List WireAddr) : Within Parts.ncpRead s (s.ncpRead h l) := by
  unfold State.ncpRead
  refine serve_within rfl fun rq t ht z hz => ?_
  split at hz
  · cases hz
  · split at hz
    · cases hz
      exact ht
    · cases hz
      exact ht.step (readItems_within ..) (sub_all rfl)


def Parts.ncpSub : List Part := [Part.ev, Part.host, Part.clk, 0x7820, 0x6048, 0x7808, Part.sys, 0x7810, 0x6040, Part.all]
theorem ncpSub_within (s : State) (h : Ncp) (x : WireAddr) (count : Nat) (t : SubTail) :
    Within Parts.ncpSub s (s.ncpSub h x count t) := by
  unfold State.ncpSub
  extract_lets +onlyGivenNames -merge a answer
  have hans : ∀ (rq : Req) (u : State) (st : Status) (id : Nat) (z : Resp × State), Within Parts.ncpSub s u →
      answer rq u st id = some z → Within Parts.ncpSub s z.2 := by
    intro rq u st id z hu hz
    cases hz
    exact hu.step (settleAs_within ..) (sub_all rfl)
  clear_value answer
  refine serve_within rfl (onSession_within fun rq u hu z hz => ?_)
  split at hz
  · cases hz
    exact hu
  · split at hz
    · extract_lets +onlyGivenNames -merge st v at hz
      refine hans _ _ _ _ z ?_ hz
      unfold v
      split
      · exact hu.step (modSession_within ..) (sub_all rfl)
      · exact hu
    · extract_lets +onlyGivenNames -merge st n at hz
      split at hz
      · exact hans _ _ _ _ z (hu.step (modSession_within ..) (sub_all rfl)) hz
      · exact hans _ _ _ _ z hu hz


def Parts.writeItems : List Part := [Part.all, Part.host, Part.fresh, 0x2010, 0x3020, 0x3810, 0x6048, Part.xp, 0x2008, Part.cm, Part.au, Part.ev, Part.clk, 0x7820, 0x7808, Part.sys, 0x7810, 0x2020, Part.tw, 0x1028, Part.save, Part.shadow, 0x6040]
theorem writeItems_within (s : State) (rq : Req) (h : Ncp) (l : List WItem) : Within Parts.writeItems s (State.writeItems s rq h l).2 := by
  have h0 : Within Parts.writeItems s s := .refl
  unfold State.writeItems
  refine Within.foldl_snd ?_ ?_
  · with_reducible assumption
  · intro x0 x1 x2
    split
    · with_reducible assumption
    · extract_lets +onlyGivenNames -merge a3
      have h4 : Within Parts.writeItems s a3.2 := by
        unfold a3
        refine Within.step ?_ (writeItem_within ..) rfl
        with_reducible assumption
      clear_value a3
      with_reducible assumption

def Parts.ncpWrite : List Part := [Part.all, Part.host, Part.fresh, 0x2010, 0x3020, 0x3810, 0x6048, Part.xp, 0x2008, Part.cm, Part.au, Part.ev, Part.clk, 0x7820, 0x7808, Part.sys, 0x7810, 0x2020, Part.tw, 0x1028, Part.save, Part.shadow, 0x6040]
theorem ncpWrite_within (s : State) (h : Ncp) (l : List WItem) : Within Parts.ncpWrite s (s.ncpWrite h l) := by
  unfold State.ncpWrite
  refine serve_within rfl fun rq t ht z hz => ?_
  split at hz
  · cases hz
  · cases hz
    exact ht.step (writeItems_within ..) (sub_all rfl)


def Parts.setSide : List Part := [Part.host]
theorem setSide_within (s : State) (c : Nat) (pcie : Bool) (subs : List Sub) (notes : List Note) (spilt : Bool) : Within Parts.setSide s (State.setSide s c pcie subs notes spilt) := by
  have h0 : Within Parts.setSide s s := .refl
  unfold State.setSide
  split
  · refine Within.step ?_ (withPcie_within ..) rfl
    with_reducible assumption
  · refine Within.step ?_ (modSession_within ..) rfl
    with_reducible assumption

def Parts.notifyOverflow : List Part := [Part.host]
theorem notifyOverflow_within (s : State) (c : Nat) (pcie : Bool) : Within Parts.notifyOverflow s (State.notifyOverflow s c pcie) := by
  have h0 : Within Parts.notifyOverflow s s := .refl
  unfold State.notifyOverflow
  extract_lets +onlyGivenNames -merge a0
  clear_value a0
  split
  · refine Within.step ?_ (setSide_within ..) rfl
    with_reducible assumption
  · with_reducible assumption

def Parts.notifyPeriod : List Part := [Part.clk, Part.host, 0x6048]
theorem notifyPeriod_within (s : State) (c : Nat) (pcie : Bool) (id : Nat) : Within Parts.notifyPeriod s (State.notifyPeriod s c pcie id) := by
  have h0 : Within Parts.notifyPeriod s s := .refl
  unfold State.notifyPeriod
  split
  · with_reducible assumption
  · extract_lets +onlyGivenNames -merge a0
    have h1 : Within Parts.notifyPeriod s a0 := by
      unfold a0
      refine Within.step ?_ (waitUntil_within ..) rfl
      with_reducible assumption
    clear_value a0
    extract_lets +onlyGivenNames -merge a2
    clear_value a2
    extract_lets +onlyGivenNames -merge a3
    clear_value a3
    extract_lets +onlyGivenNames -merge a4
    have h5 : Within Parts.notifyPeriod s a4 := by
      unfold a4
      refine Within.step ?_ (setSide_within ..) rfl
      with_reducible assumption
    clear_value a4
    split
    · with_reducible assumption
    · refine Within.step ?_ (bump_within ..) rfl
      with_reducible assumption

def Parts.notifySend : List Part := [Part.clk, Part.host, 0x6048, Part.mx, Part.fresh, 0x4860]
theorem notifySend_within (s : State) (c : Nat) (pcie : Bool) : Within Parts.notifySend s (State.notifySend s c pcie) := by
  have h0 : Within Parts.notifySend s s := .refl
  unfold State.notifySend
  extract_lets +onlyGivenNames -merge a0
  clear_value a0
  split
  · with_reducible assumption
  · extract_lets +onlyGivenNames -merge a1
    have h2 : Within Parts.notifySend s a1 := by
      unfold a1
      split
      · refine Within.step ?_ (waitUntil_within ..) rfl
        with_reducible assumption
      · with_reducible assumption
    clear_value a1
    split
    · split
      · with_reducible assumption
      · split
        · refine Within.step ?_ (withPcie_within ..) rfl
          with_reducible assumption
        · refine Within.step ?_ (bump_within ..) rfl
          refine Within.step ?_ (withPcie_within ..) rfl
          with_reducible assumption
    · split
      · with_reducible assumption
      · refine Within.step ?_ (sendMsg_within ..) rfl
        refine Within.step ?_ (modSession_within ..) rfl
        with_reducible assumption

def Parts.sessionTimeout : List Part := [Part.clk, Part.host, Part.fresh, 0x2010, 0x3020, 0x3810, 0x6048, Part.xp, 0x2008, Part.cm, Part.au, Part.ev, 0x7820, 0x7808, Part.sys, 0x7810, 0x2020, Part.tw]
theorem sessionTimeout_within (s : State) (c : Nat) : Within Parts.sessionTimeout s (State.sessionTimeout s c) := by
  have h0 : Within Parts.sessionTimeout s s := .refl
  unfold State.sessionTimeout
  split
  · refine Within.step ?_ (closeSession_within ..) rfl
    refine Within.step ?_ (waitUntil_within ..) rfl
    with_reducible assumption
  · with_reducible assumption

def Parts.execBusBackoffExpire : List Part := [Part.clk, Part.host]
theorem execBusBackoffExpire_within (a : Fin 4) (s : State) : ExecWithin Parts.execBusBackoffExpire s (execBusBackoffExpire a s) := by
  have h0 : Within Parts.execBusBackoffExpire s s := .refl
  unfold execBusBackoffExpire
  refine ⟨_, rfl, ?_⟩
  refine Within.step ?_ (busRetry_within ..) rfl
  with_reducible assumption

def Parts.execBusCollision : List Part := [0x6028, Part.host, Part.fresh]
theorem execBusCollision_within (a : Fin 4) (late : Bool) (s : State) : ExecWithin Parts.execBusCollision s (execBusCollision a late s) := by
  have h0 : Within Parts.execBusCollision s s := .refl
  unfold execBusCollision
  refine ⟨_, rfl, ?_⟩
  refine Within.step ?_ (busCollision_within ..) rfl
  with_reducible assumption

def Parts.execBusFrameRx : List Part := [0x6028, 0x6048, Part.host]
theorem execBusFrameRx_within (a : Fin 4) (f : BusFrame) (s : State) : ExecWithin Parts.execBusFrameRx s (execBusFrameRx a f s) := by
  have h0 : Within Parts.execBusFrameRx s s := .refl
  unfold execBusFrameRx
  refine ⟨_, rfl, ?_⟩
  refine Within.step ?_ (busFrame_within ..) rfl
  with_reducible assumption

def Parts.execChallengeRead : List Part := [Part.ev, Part.host, Part.clk, 0x7820, 0x6048, 0x7808, Part.sys, 0x7810, 0x6040, Part.fresh, Part.fw, 0x681c, Part.ic, 0x6818, 0x8818, Part.all, 0x6830, Part.mx, 0x4850, 0x4860, Part.tm]
theorem execChallengeRead_within (h : Ncp) (s : State) : ExecWithin Parts.execChallengeRead s (execChallengeRead h s) := by
  have h0 : Within Parts.execChallengeRead s s := .refl
  unfold execChallengeRead
  refine ⟨_, rfl, ?_⟩
  refine Within.step ?_ (ncpRead_within ..) rfl
  with_reducible assumption

def Parts.execCtBusWrite : List Part := [0x6020, 0x1028, Part.save, Part.host, Part.shadow, 0x6040, 0x6048, 0x7808, 0x7810, 0x7820, Part.clk, Part.sys, Part.ev, Part.pw]
theorem execCtBusWrite_within (rq : Req) (a : Nat) (v : W) (s : State) : ExecWithin Parts.execCtBusWrite s (execCtBusWrite rq a v s) := by
  have h0 : Within Parts.execCtBusWrite s s := .refl
  unfold execCtBusWrite
  extract_lets +onlyGivenNames -merge a0
  have h1 : PutWithin Parts.execCtBusWrite a0 := by
    unfold a0
    exact PutWithin.step (putBus_within ..) rfl
  clear_value a0
  refine ⟨_, rfl, ?_⟩
  refine request_within rfl ?_ ?_
  · with_reducible assumption
  · with_reducible assumption

def Parts.execCtContextWrite : List Part := [0x6018, 0x1028, Part.save, Part.shadow, 0x6040, 0x6048, 0x7808, 0x7810, 0x7820, Part.clk, Part.sys, Part.host, Part.ev, Part.pw]
theorem execCtContextWrite_within (rq : Req) (c : Nat) (w : Nat) (v : W) (s : State) : ExecWithin Parts.execCtContextWrite s (execCtContextWrite rq c w v s) := by
  have h0 : Within Parts.execCtContextWrite s s := .refl
  unfold execCtContextWrite
  extract_lets +onlyGivenNames -merge a0
  have h1 : PutWithin Parts.execCtContextWrite a0 := by
    unfold a0
    exact PutWithin.step (putContext_within ..) rfl
  clear_value a0
  refine ⟨_, rfl, ?_⟩
  refine request_within rfl ?_ ?_
  · with_reducible assumption
  · with_reducible assumption

def Parts.execEmergencyRepeat : List Part := [Part.clk, Part.host, 0x6048, Part.mx, Part.fresh, 0x4860]
theorem execEmergencyRepeat_within (s : State) : ExecWithin Parts.execEmergencyRepeat s (execEmergencyRepeat s) := by
  have h0 : Within Parts.execEmergencyRepeat s s := .refl
  unfold execEmergencyRepeat
  refine ⟨_, rfl, ?_⟩
  refine Within.step ?_ (emergencyRepeat_within ..) rfl
  with_reducible assumption

def Parts.execEmergencySend : List Part := [Part.host, 0x6048, Part.mx, Part.fresh, 0x4860, Part.ev]
theorem execEmergencySend_within (s : State) : ExecWithin Parts.execEmergencySend s (execEmergencySend s) := by
  have h0 : Within Parts.execEmergencySend s s := .refl
  unfold execEmergencySend
  refine ⟨_, rfl, ?_⟩
  refine Within.step ?_ (emergencySend_within ..) rfl
  with_reducible assumption

def Parts.execLeaseBreak : List Part := [0x6030, 0x1028, Part.save, Part.shadow, 0x6040, 0x6048, 0x7808, 0x7810, 0x7820, Part.clk, Part.sys, Part.host, Part.ev, Part.pw]
theorem execLeaseBreak_within (rq : Req) (e : Nat) (s : State) : ExecWithin Parts.execLeaseBreak s (execLeaseBreak rq e s) := by
  have h0 : Within Parts.execLeaseBreak s s := .refl
  unfold execLeaseBreak
  extract_lets +onlyGivenNames -merge a0
  have h1 : PutWithin Parts.execLeaseBreak a0 := by
    unfold a0
    exact PutWithin.step (putLease_within ..) rfl
  clear_value a0
  refine ⟨_, rfl, ?_⟩
  refine request_within rfl ?_ ?_
  · with_reducible assumption
  · with_reducible assumption

def Parts.execLeaseRelease : List Part := [0x6030, 0x1028, Part.save, Part.shadow, 0x6040, 0x6048, 0x7808, 0x7810, 0x7820, Part.clk, Part.sys, Part.host, Part.ev, Part.pw]
theorem execLeaseRelease_within (rq : Req) (e : Nat) (s : State) : ExecWithin Parts.execLeaseRelease s (execLeaseRelease rq e s) := by
  have h0 : Within Parts.execLeaseRelease s s := .refl
  unfold execLeaseRelease
  extract_lets +onlyGivenNames -merge a0
  have h1 : PutWithin Parts.execLeaseRelease a0 := by
    unfold a0
    exact PutWithin.step (putLease_within ..) rfl
  clear_value a0
  refine ⟨_, rfl, ?_⟩
  refine request_within rfl ?_ ?_
  · with_reducible assumption
  · with_reducible assumption

def Parts.execLeaseTake : List Part := [0x6030, 0x1028, Part.save, Part.shadow, 0x6040, 0x6048, 0x7808, 0x7810, 0x7820, Part.clk, Part.sys, Part.host, Part.ev, Part.pw]
theorem execLeaseTake_within (rq : Req) (e : Nat) (s : State) : ExecWithin Parts.execLeaseTake s (execLeaseTake rq e s) := by
  have h0 : Within Parts.execLeaseTake s s := .refl
  unfold execLeaseTake
  extract_lets +onlyGivenNames -merge a0
  have h1 : PutWithin Parts.execLeaseTake a0 := by
    unfold a0
    exact PutWithin.step (putLease_within ..) rfl
  clear_value a0
  refine ⟨_, rfl, ?_⟩
  refine request_within rfl ?_ ?_
  · with_reducible assumption
  · with_reducible assumption

def Parts.execNcpBlockRead : List Part := [Part.ev, Part.host, Part.clk, 0x7820, 0x6048, 0x7808, Part.sys, 0x7810, 0x6040, Part.fresh, Part.fw, 0x681c, Part.ic, 0x6818, 0x8818, Part.all, 0x6830, Part.mx, 0x4850, 0x4860, Part.tm]
theorem execNcpBlockRead_within (h : Ncp) (a : WireAddr) (count : Nat) (s : State) : ExecWithin Parts.execNcpBlockRead s (execNcpBlockRead h a count s) := by
  have h0 : Within Parts.execNcpBlockRead s s := .refl
  unfold execNcpBlockRead
  refine ⟨_, rfl, ?_⟩
  refine Within.step ?_ (ncpBlockRead_within ..) rfl
  with_reducible assumption

def Parts.execNcpBlockWrite : List Part := [Part.all, 0x1028, Part.save, Part.shadow, Part.ev, Part.host, Part.clk, 0x7820, 0x6048, 0x7808, Part.sys, 0x7810, 0x6040, Part.fresh, 0x2010, 0x3020, 0x3810, Part.xp, 0x2008, Part.cm, Part.au, 0x2020, Part.tw]
theorem execNcpBlockWrite_within (h : Ncp) (a : WireAddr) (typ : Nat) (elems : List (List Byte)) (s : State) : ExecWithin Parts.execNcpBlockWrite s (execNcpBlockWrite h a typ elems s) := by
  have h0 : Within Parts.execNcpBlockWrite s s := .refl
  unfold execNcpBlockWrite
  refine ⟨_, rfl, ?_⟩
  refine Within.step ?_ (ncpBlockWrite_within ..) rfl
  with_reducible assumption

def Parts.execNcpRead : List Part := [Part.ev, Part.host, Part.clk, 0x7820, 0x6048, 0x7808, Part.sys, 0x7810, 0x6040, Part.fresh, Part.fw, 0x681c, Part.ic, 0x6818, 0x8818, Part.all, 0x6830, Part.mx, 0x4850, 0x4860, Part.tm]
theorem execNcpRead_within (h : Ncp) (items : List WireAddr) (s : State) : ExecWithin Parts.execNcpRead s (execNcpRead h items s) := by
  have h0 : Within Parts.execNcpRead s s := .refl
  unfold execNcpRead
  refine ⟨_, rfl, ?_⟩
  refine Within.step ?_ (ncpRead_within ..) rfl
  with_reducible assumption

def Parts.execNcpSubscribe : List Part := [Part.ev, Part.host, Part.clk, 0x7820, 0x6048, 0x7808, Part.sys, 0x7810, 0x6040, Part.all]
theorem execNcpSubscribe_within (h : Ncp) (a : WireAddr) (count : Nat) (tail : SubTail) (s : State) : ExecWithin Parts.execNcpSubscribe s (execNcpSubscribe h a count tail s) := by
  have h0 : Within Parts.execNcpSubscribe s s := .refl
  unfold execNcpSubscribe
  refine ⟨_, rfl, ?_⟩
  refine Within.step ?_ (ncpSub_within ..) rfl
  with_reducible assumption

def Parts.execNcpUnsubscribe : List Part := [Part.ev, Part.host, Part.clk, 0x7820, 0x6048, 0x7808, Part.sys, 0x7810, 0x6040, Part.all]
theorem execNcpUnsubscribe_within (h : Ncp) (x : WireAddr × Nat × SubTail) (s : State) : ExecWithin Parts.execNcpUnsubscribe s (execNcpUnsubscribe h x s) := by
  have h0 : Within Parts.execNcpUnsubscribe s s := .refl
  unfold execNcpUnsubscribe
  refine ⟨_, rfl, ?_⟩
  refine Within.step ?_ (ncpSub_within ..) rfl
  with_reducible assumption

def Parts.execNcpWrite : List Part := [Part.all, Part.host, Part.fresh, 0x2010, 0x3020, 0x3810, 0x6048, Part.xp, 0x2008, Part.cm, Part.au, Part.ev, Part.clk, 0x7820, 0x7808, Part.sys, 0x7810, 0x2020, Part.tw, 0x1028, Part.save, Part.shadow, 0x6040]
theorem execNcpWrite_within (h : Ncp) (items : List WItem) (s : State) : ExecWithin Parts.execNcpWrite s (execNcpWrite h items s) := by
  have h0 : Within Parts.execNcpWrite s s := .refl
  unfold execNcpWrite
  refine ⟨_, rfl, ?_⟩
  refine Within.step ?_ (ncpWrite_within ..) rfl
  with_reducible assumption

def Parts.execNotifyOverflow : List Part := [Part.host]
theorem execNotifyOverflow_within (c : Fin 4) (pcie : Bool) (s : State) : ExecWithin Parts.execNotifyOverflow s (execNotifyOverflow c pcie s) := by
  have h0 : Within Parts.execNotifyOverflow s s := .refl
  unfold execNotifyOverflow
  refine ⟨_, rfl, ?_⟩
  refine Within.step ?_ (notifyOverflow_within ..) rfl
  with_reducible assumption

def Parts.execNotifyPeriod : List Part := [Part.clk, Part.host, 0x6048]
theorem execNotifyPeriod_within (c : Fin 4) (pcie : Bool) (id : Nat) (s : State) : ExecWithin Parts.execNotifyPeriod s (execNotifyPeriod c pcie id s) := by
  have h0 : Within Parts.execNotifyPeriod s s := .refl
  unfold execNotifyPeriod
  refine ⟨_, rfl, ?_⟩
  refine Within.step ?_ (notifyPeriod_within ..) rfl
  with_reducible assumption

def Parts.execNotifySend : List Part := [Part.clk, Part.host, 0x6048, Part.mx, Part.fresh, 0x4860]
theorem execNotifySend_within (c : Fin 4) (pcie : Bool) (s : State) : ExecWithin Parts.execNotifySend s (execNotifySend c pcie s) := by
  have h0 : Within Parts.execNotifySend s s := .refl
  unfold execNotifySend
  refine ⟨_, rfl, ?_⟩
  refine Within.step ?_ (notifySend_within ..) rfl
  with_reducible assumption

def Parts.putWordOf : List Part := [Part.all, Part.host, Part.fresh, 0x2010, 0x3020, 0x3810, 0x6048, Part.xp, 0x2008, Part.cm, Part.au, Part.ev, Part.clk, 0x7820, 0x7808, Part.sys, 0x7810, 0x2020, Part.tw]
theorem putWordOf_within (s : State) (rq : Req) (a : Addr) (w : Nat) (v : W) : PutWithin Parts.putWordOf (putWordOf s rq a w v) := by
  have h0 : Within Parts.putWordOf s s := .refl
  unfold putWordOf
  split
  · refine ⟨takesIn_all rfl _, fun s0 => ?_⟩
    dsimp -zeta only
    have h00 : Within Parts.putWordOf s0 s0 := .refl
    with_reducible assumption
  · extract_lets +onlyGivenNames -merge a0
    clear_value a0
    split
    · refine putTyped_within (takesIn_all rfl _) ?_
      exact PutWithin.step (putAny_within ..) rfl
    · split
      · refine ⟨takesIn_all rfl _, fun s0 => ?_⟩
        dsimp -zeta only
        have h00 : Within Parts.putWordOf s0 s0 := .refl
        with_reducible assumption
      · refine putTyped_within (takesIn_all rfl _) ?_
        exact PutWithin.step (putAny_within ..) rfl

def Parts.execRegisterWrite : List Part := [Part.all, Part.host, Part.fresh, 0x2010, 0x3020, 0x3810, 0x6048, Part.xp, 0x2008, Part.cm, Part.au, Part.ev, Part.clk, 0x7820, 0x7808, Part.sys, 0x7810, 0x2020, Part.tw, 0x1028, Part.save, Part.shadow, 0x6040, Part.pw]
theorem execRegisterWrite_within (rq : Req) (a : Addr) (w : Nat) (v : W) (s : State) : ExecWithin Parts.execRegisterWrite s (execRegisterWrite rq a w v s) := by
  have h0 : Within Parts.execRegisterWrite s s := .refl
  unfold execRegisterWrite
  extract_lets +onlyGivenNames -merge a0
  have h1 : PutWithin Parts.execRegisterWrite a0 := by
    unfold a0
    exact PutWithin.step (putWordOf_within ..) rfl
  clear_value a0
  refine ⟨_, rfl, ?_⟩
  refine request_within rfl ?_ ?_
  · with_reducible assumption
  · with_reducible assumption

def Parts.execSessionClose : List Part := [Part.all, Part.host, Part.fresh, 0x2010, 0x3020, 0x3810, 0x6048, Part.xp, 0x2008, Part.cm, Part.au, Part.ev, Part.clk, 0x7820, 0x7808, Part.sys, 0x7810, 0x2020, Part.tw, 0x1028, Part.save, Part.shadow, 0x6040]
theorem execSessionClose_within (h : Ncp) (n : Nat) (s : State) : ExecWithin Parts.execSessionClose s (execSessionClose h n s) := by
  have h0 : Within Parts.execSessionClose s s := .refl
  unfold execSessionClose
  refine ⟨_, rfl, ?_⟩
  refine Within.step ?_ (ncpWrite_within ..) rfl
  with_reducible assumption

def Parts.execSessionOpen : List Part := [Part.all, Part.host, Part.fresh, 0x2010, 0x3020, 0x3810, 0x6048, Part.xp, 0x2008, Part.cm, Part.au, Part.ev, Part.clk, 0x7820, 0x7808, Part.sys, 0x7810, 0x2020, Part.tw, 0x1028, Part.save, Part.shadow, 0x6040]
theorem execSessionOpen_within (h : Ncp) (blob : List Byte) (s : State) : ExecWithin Parts.execSessionOpen s (execSessionOpen h blob s) := by
  have h0 : Within Parts.execSessionOpen s s := .refl
  unfold execSessionOpen
  refine ⟨_, rfl, ?_⟩
  refine Within.step ?_ (ncpWrite_within ..) rfl
  with_reducible assumption

def Parts.execSessionTimeout : List Part := [Part.clk, Part.host, Part.fresh, 0x2010, 0x3020, 0x3810, 0x6048, Part.xp, 0x2008, Part.cm, Part.au, Part.ev, 0x7820, 0x7808, Part.sys, 0x7810, 0x2020, Part.tw]
theorem execSessionTimeout_within (c : Fin 4) (s : State) : ExecWithin Parts.execSessionTimeout s (execSessionTimeout c s) := by
  have h0 : Within Parts.execSessionTimeout s s := .refl
  unfold execSessionTimeout
  refine ⟨_, rfl, ?_⟩
  refine Within.step ?_ (sessionTimeout_within ..) rfl
  with_reducible assumption

end Sys2Proof.Machine
end

