-- ==== Sys2Proof/Laws/WithinPcie.lean ====
section
/-! SUPPORT. What the operations of Machine/Pcie.lean may change: for each the parts of the state, and that it keeps to them. -/
namespace Sys2Proof.Machine

def Parts.bytesWrite : List Part := [Part.all, Part.host, Part.fresh, 0x2010, 0x3020, 0x3810, 0x6048, Part.xp, 0x2008, Part.cm, Part.au, Part.ev, Part.clk, 0x7820, 0x7808, Part.sys, 0x7810, 0x2020, Part.tw, 0x1028, Part.save, Part.shadow]
theorem bytesWrite_within (s : State) (rq : Req) (o : Obj) (e : Nat) (wide : Bool) (v : W) : Within Parts.bytesWrite s (State.bytesWrite s rq o e wide v).2 := by
  have h0 : Within Parts.bytesWrite s s := .refl
  unfold State.bytesWrite
  extract_lets +onlyGivenNames -merge a0
  extract_lets +onlyGivenNames -merge a1
  clear_value a1
  extract_lets +onlyGivenNames -merge a2
  clear_value a2
  extract_lets +onlyGivenNames -merge a3
  clear_value a3
  extract_lets +onlyGivenNames -merge a4
  have h5 : ∀ y0 y1 y2, (Within Parts.bytesWrite s y0) → Within Parts.bytesWrite s (a4 y0 y1 y2).2 := by
    intro x6 x7 x8 hx9
    unfold a4
    extract_lets +onlyGivenNames -merge a10
    have h11 : PutWithin Parts.bytesWrite a10 := by
      unfold a10
      refine putTyped_within (takesIn_all rfl _) ?_
      exact PutWithin.step (putAny_within ..) rfl
    clear_value a10
    refine judgeWrite_within rfl ?_ ?_
    · with_reducible assumption
    · with_reducible assumption
  clear_value a4
  split
  · apply h5
    with_reducible assumption
  · extract_lets +onlyGivenNames -merge a12
    clear_value a12
    split
    · refine judgeWrite_within rfl ?_ ?_
      · refine ⟨takesIn_all rfl _, fun s0 => ?_⟩
        dsimp -zeta only
        have h00 : Within Parts.bytesWrite s0 s0 := .refl
        with_reducible assumption
      · with_reducible assumption
    · extract_lets +onlyGivenNames -merge a13
      clear_value a13
      split
      · split
        · rename_i m14_0 m14_1 m14_2 m14_3 m14_4 m14_5
          have h15 : Within Parts.bytesWrite s m14_4 := by
            refine Within.of_snd ?_ m14_5
            refine judgeWrite_within rfl ?_ ?_
            · refine ⟨takesIn_all rfl _, fun s0 => ?_⟩
              dsimp -zeta only
              have h00 : Within Parts.bytesWrite s0 s0 := .refl
              with_reducible assumption
            · with_reducible assumption
          dsimp -zeta only
          refine Within.step ?_ (withPcie_within ..) rfl
          with_reducible assumption
        · refine judgeWrite_within rfl ?_ ?_
          · refine ⟨takesIn_all rfl _, fun s0 => ?_⟩
            dsimp -zeta only
            have h00 : Within Parts.bytesWrite s0 s0 := .refl
            with_reducible assumption
          · with_reducible assumption
      · apply h5
        refine Within.step ?_ (withPcie_within ..) rfl
        with_reducible assumption

def Parts.complete : List Part := [Part.host]
theorem complete_within (s : State) (st : Status) (data : W) : Within Parts.complete s (State.complete s st data) := by
  have h0 : Within Parts.complete s s := .refl
  unfold State.complete
  extract_lets +onlyGivenNames -merge a0
  clear_value a0
  refine Within.step ?_ (withHost_within ..) rfl
  with_reducible assumption

def Parts.pcieClass : List Part := [Part.host]
theorem pcieClass_within (s : State) (f : Fin 4) (v : W) : Within Parts.pcieClass s (State.pcieClass s f v).2 := by
  have h0 : Within Parts.pcieClass s s := .refl
  unfold State.pcieClass
  extract_lets +onlyGivenNames -merge a0
  clear_value a0
  split
  · with_reducible assumption
  · extract_lets +onlyGivenNames -merge a1
    clear_value a1
    split
    · with_reducible assumption
    · dsimp -zeta only
      refine Within.step ?_ (withPcie_within ..) rfl
      with_reducible assumption

def Parts.pcieSub : List Part := [Part.host]
theorem pcieSub_within (s : State) (rq : Req) (lo : W) (hi : W) : Within Parts.pcieSub s (State.pcieSub s rq lo hi).2 := by
  have h0 : Within Parts.pcieSub s s := .refl
  unfold State.pcieSub
  extract_lets +onlyGivenNames -merge a0
  extract_lets +onlyGivenNames -merge a1
  clear_value a1
  extract_lets +onlyGivenNames -merge a2
  extract_lets +onlyGivenNames -merge a3
  extract_lets +onlyGivenNames -merge a4
  extract_lets +onlyGivenNames -merge a5
  clear_value a5
  extract_lets +onlyGivenNames -merge a6
  have h7 : ∀ y0 y1 y2, (Within Parts.pcieSub s y0) → Within Parts.pcieSub s (a6 y0 y1 y2).2 := by
    intro x8 x9 x10 hx11
    unfold a6
    dsimp -zeta only
    refine Within.step ?_ (withPcie_within ..) rfl
    with_reducible assumption
  clear_value a6
  split
  · extract_lets +onlyGivenNames -merge a12
    clear_value a12
    extract_lets +onlyGivenNames -merge a13
    have h14 : Within Parts.pcieSub s a13 := by
      unfold a13
      split
      · refine Within.step ?_ (withPcie_within ..) rfl
        with_reducible assumption
      · with_reducible assumption
    clear_value a13
    apply h7
    with_reducible assumption
  · extract_lets +onlyGivenNames -merge a15
    clear_value a15
    extract_lets +onlyGivenNames -merge a16
    clear_value a16
    split
    · apply h7
      refine Within.step ?_ (withPcie_within ..) rfl
      with_reducible assumption
    · apply h7
      with_reducible assumption

def Parts.pcieAuth : List Part := [Part.host]
theorem pcieAuth_within (s : State) (f : Fin 4) (b : List Byte) : Within Parts.pcieAuth s (State.pcieAuth s f b).2 := by
  have h0 : Within Parts.pcieAuth s s := .refl
  unfold State.pcieAuth
  split
  · with_reducible assumption
  · split
    · with_reducible assumption
    · extract_lets +onlyGivenNames -merge a0
      have h1 : Within Parts.pcieAuth s a0.2 := by
        unfold a0
        refine Within.step ?_ (openSigned_within ..) rfl
        with_reducible assumption
      clear_value a0
      split
      · dsimp -zeta only
        refine Within.step ?_ (withPcie_within ..) rfl
        with_reducible assumption
      · with_reducible assumption

def Parts.controlWrite : List Part := [Part.host, Part.all]
theorem controlWrite_within (s : State) (rq : Req) (off : Nat) (wide : Bool) (v : W) :
    Within Parts.controlWrite s (s.controlWrite rq off wide v).2 := by
  have h0 : Within Parts.controlWrite s s := .refl
  have hp : ∀ (t : State) (k : PcieFn → PcieFn), Within Parts.controlWrite s t → Within Parts.controlWrite s (t.withPcie rq.ctx.val k) :=
    fun t k h => h.step (withPcie_within ..) (sub_all rfl)
  unfold State.controlWrite
  extract_lets +onlyGivenNames -merge f put x n
  clear_value n
  split
  · exact h0
  split
  · exact h0
  split
  · exact h0
  split
  · exact h0.step (pcieClass_within ..) (sub_all rfl)
  · exact hp _ _ h0
  · split
    · exact hp _ _ h0
    · exact h0
  · split
    · exact hp _ _ h0
    · exact h0
  · split
    · exact hp _ _ h0
    · exact h0
  · exact hp _ _ h0
  · exact h0.step (pcieSub_within ..) (sub_all rfl)
  · extract_lets +onlyGivenNames -merge y
    exact (hp _ _ h0).step (pcieAuth_within ..) (sub_all rfl)
  · exact hp _ _ h0


def Parts.latchValue : List Part := [Part.fresh, Part.host, Part.ev, Part.fw, 0x681c, Part.ic, Part.clk, 0x7820, 0x6048, 0x7808, Part.sys, 0x7810, 0x6818, 0x8818, Part.all, 0x6830, Part.mx, 0x4850, 0x4860, Part.tm]
theorem latchValue_within (s : State) (f : Nat) (o : Obj) (e : Nat) : Within Parts.latchValue s (State.latchValue s f o e).2 := by
  have h0 : Within Parts.latchValue s s := .refl
  unfold State.latchValue
  extract_lets +onlyGivenNames -merge a0
  have h1 : Within Parts.latchValue s a0.2 := by
    unfold a0
    refine Within.step ?_ (readValue_within ..) rfl
    with_reducible assumption
  clear_value a0
  extract_lets +onlyGivenNames -merge a2
  clear_value a2
  dsimp -zeta only
  refine Within.step ?_ (withPcie_within ..) rfl
  with_reducible assumption

def Parts.pcieSettle : List Part := [Part.ev, Part.host, Part.clk, 0x7820, 0x6048, 0x7808, Part.sys, 0x7810, 0x6040]
theorem pcieSettle_within (s : State) (rq : Req) (st : Status) (bar2 : Bool) (off : Nat) (names : Nat × Nat) : Within Parts.pcieSettle s (State.pcieSettle s rq st bar2 off names) := by
  have h0 : Within Parts.pcieSettle s s := .refl
  unfold State.pcieSettle
  split
  · with_reducible assumption
  · extract_lets +onlyGivenNames -merge a0
    have h1 : Within Parts.pcieSettle s a0 := by
      unfold a0
      split
      · refine Within.step ?_ (recordViolation_within ..) rfl
        with_reducible assumption
      · with_reducible assumption
    clear_value a0
    refine Within.step ?_ (pcieFail_within ..) rfl
    with_reducible assumption

def Parts.pcieControl : List Part := [Part.all]
theorem pcieControl_within {l : List Part} {s : State} {f : Fin 4} {off : Nat} {k : Req → State → Status × State}
    (m : l.contains Part.all = true) (hk : ∀ rq t, Within l s t → Within l s (k rq t).2) : Within l s (s.pcieControl f off k) := by
  unfold State.pcieControl
  split
  · exact .refl
  · extract_lets +onlyGivenNames -merge s1 rq r
    have h1 : Within l s s1 := Within.step .refl (stir_within s) (sub_all m)
    have hr : Within l s r.2 := by
      unfold r
      split
      · exact hk _ _ h1
      · exact h1
    exact hr.step (pcieSettle_within ..) (sub_all m)


def Parts.pcieFlr : List Part := [0x681c, Part.ic, Part.fresh, Part.ev, Part.host, Part.clk, 0x7820, 0x6048, 0x7808, Part.sys, 0x7810, 0x6818, 0x2010, 0x3020, 0x3810, Part.xp, 0x2008, Part.cm, Part.au, 0x2020, Part.tw]
theorem pcieFlr_within (s : State) (f : Nat) : Within Parts.pcieFlr s (State.pcieFlr s f) := by
  have h0 : Within Parts.pcieFlr s s := .refl
  unfold State.pcieFlr
  extract_lets +onlyGivenNames -merge a0
  have h1 : Within Parts.pcieFlr s a0 := by
    unfold a0
    refine Within.step ?_ (withPcie_within ..) rfl
    refine Within.step ?_ (resetMaster_within ..) rfl
    with_reducible assumption
  clear_value a0
  split
  · with_reducible assumption
  · refine Within.step ?_ (closeSalvos_within ..) rfl
    with_reducible assumption

theorem windowRead_within {l : List Part} {s r : State} {rq : Req} {o : Obj} {e : Nat} {k : State → W × State} (h : Within l r s)
    (hk : ∀ t, Within l r t → Within l r (k t).2) : Within l r (s.windowRead rq o e k).2.2 := by
  unfold State.windowRead
  split
  · exact h
  · exact hk _ h


def Parts.readPart : List Part := [Part.fresh, 0x6830, 0x8818, Part.all]
theorem readPart_within (s : State) (o : Obj) (e : Nat) (w : Nat) (mask : W) : Within Parts.readPart s (State.readPart s o e w mask).2 := by
  have h0 : Within Parts.readPart s s := .refl
  unfold State.readPart
  split
  · with_reducible assumption
  · split
    · extract_lets +onlyGivenNames -merge a0
      have h1 : Within Parts.readPart s a0 := by
        unfold a0
        refine Within.step ?_ (crcProgress_within ..) rfl
        with_reducible assumption
      clear_value a0
      with_reducible assumption
    · dsimp -zeta only
      refine Within.step ?_ (clearWord_within ..) rfl
      with_reducible assumption

def Parts.windowWord : List Part := [Part.fresh, 0x6830, 0x8818, Part.all, Part.host, Part.ev, Part.fw, 0x681c, Part.ic, Part.clk, 0x7820, 0x6048, 0x7808, Part.sys, 0x7810, 0x6818, Part.mx, 0x4850, 0x4860, Part.tm]
theorem windowWord_within (s : State) (f : Nat) (o : Obj) (e : Nat) (w : Nat) (half : Nat) (wide : Bool) : Within Parts.windowWord s (State.windowWord s f o e w half wide).2 := by
  have h0 : Within Parts.windowWord s s := .refl
  unfold State.windowWord
  extract_lets +onlyGivenNames -merge a0
  have h1 : ∀ y0, (Within Parts.windowWord s y0) → Within Parts.windowWord s (a0 y0).2 := by
    intro x2 hx3
    unfold a0
    extract_lets +onlyGivenNames -merge a4
    have h5 : Within Parts.windowWord s a4.2 := by
      unfold a4
      refine Within.step ?_ (readPart_within ..) rfl
      with_reducible assumption
    clear_value a4
    split
    · extract_lets +onlyGivenNames -merge a6
      have h7 : Within Parts.windowWord s a6.2 := by
        unfold a6
        refine Within.step ?_ (readPart_within ..) rfl
        with_reducible assumption
      clear_value a6
      with_reducible assumption
    · with_reducible assumption
  clear_value a0
  split
  · apply h1
    with_reducible assumption
  · split
    · extract_lets +onlyGivenNames -merge a8
      have h9 : Within Parts.windowWord s a8.2 := by
        unfold a8
        refine Within.step ?_ (latchValue_within ..) rfl
        with_reducible assumption
      clear_value a8
      with_reducible assumption
    · split
      · with_reducible assumption
      · split
        · with_reducible assumption
        · apply h1
          with_reducible assumption

def Parts.windowBytes : List Part := [Part.fresh, Part.host, Part.ev, Part.fw, 0x681c, Part.ic, Part.clk, 0x7820, 0x6048, 0x7808, Part.sys, 0x7810, 0x6818, 0x8818, Part.all, 0x6830, Part.mx, 0x4850, 0x4860, Part.tm]
theorem windowBytes_within (s : State) (f : Nat) (o : Obj) (e : Nat) (wide : Bool) : Within Parts.windowBytes s (State.windowBytes s f o e wide).2 := by
  have h0 : Within Parts.windowBytes s s := .refl
  unfold State.windowBytes
  extract_lets +onlyGivenNames -merge a0
  split
  · extract_lets +onlyGivenNames -merge a1
    have h2 : Within Parts.windowBytes s a1.2 := by
      unfold a1
      refine Within.step ?_ (latchValue_within ..) rfl
      with_reducible assumption
    clear_value a1
    with_reducible assumption
  · split
    · with_reducible assumption
    · extract_lets +onlyGivenNames -merge a3
      have h4 : Within Parts.windowBytes s a3.2 := by
        unfold a3
        refine Within.step ?_ (readBytes_within ..) rfl
        with_reducible assumption
      clear_value a3
      with_reducible assumption

def Parts.pcieRead : List Part := [Part.pw, Part.host, Part.fresh, 0x6830, 0x8818, Part.all, Part.ev, Part.fw, 0x681c, Part.ic, Part.clk, 0x7820, 0x6048, 0x7808, Part.sys, 0x7810, 0x6818, Part.mx, 0x4850, 0x4860, Part.tm, 0x6040]
theorem pcieRead_within (s : State) (f : Fin 4) (bar2 : Bool) (off : Nat) (wide : Bool) : Within Parts.pcieRead s (State.pcieRead s f bar2 off wide) := by
  have h0 : Within Parts.pcieRead s s := .refl
  unfold State.pcieRead
  split
  · with_reducible assumption
  · extract_lets +onlyGivenNames -merge a0
    have h1 : Within Parts.pcieRead s a0 := by
      unfold a0
      refine Within.step ?_ (stir_within ..) rfl
      with_reducible assumption
    clear_value a0
    extract_lets +onlyGivenNames -merge a2
    clear_value a2
    extract_lets +onlyGivenNames -merge a3
    clear_value a3
    extract_lets +onlyGivenNames -merge a4
    clear_value a4
    extract_lets +onlyGivenNames -merge a5
    have h6 : Within Parts.pcieRead s a5.2.2 := by
      unfold a5
      split
      · with_reducible assumption
      · split
        · with_reducible assumption
        · split
          · with_reducible assumption
          · dsimp -zeta only
            refine Within.step ?_ (withPcie_within ..) rfl
            with_reducible assumption
        · with_reducible assumption
        · with_reducible assumption
        · refine windowRead_within  ?_ ?_
          · with_reducible assumption
          · intro x7 x8
            refine Within.step ?_ (windowWord_within ..) rfl
            with_reducible assumption
        · refine windowRead_within  ?_ ?_
          · with_reducible assumption
          · intro x9 x10
            refine Within.step ?_ (windowBytes_within ..) rfl
            with_reducible assumption
    clear_value a5
    extract_lets +onlyGivenNames -merge a11
    clear_value a11
    extract_lets +onlyGivenNames -merge a12
    have h13 : Within Parts.pcieRead s a12 := by
      unfold a12
      refine Within.step ?_ (pcieSettle_within ..) rfl
      with_reducible assumption
    clear_value a12
    split
    · refine Within.step ?_ (complete_within ..) rfl
      with_reducible assumption
    · split
      · refine Within.step ?_ (complete_within ..) rfl
        with_reducible assumption
      · refine Within.step ?_ (complete_within ..) rfl
        with_reducible assumption

def Parts.wordWrite : List Part := [Part.all, Part.host, Part.fresh, 0x2010, 0x3020, 0x3810, 0x6048, Part.xp, 0x2008, Part.cm, Part.au, Part.ev, Part.clk, 0x7820, 0x7808, Part.sys, 0x7810, 0x2020, Part.tw, 0x1028, Part.save, Part.shadow]
theorem wordWrite_within (s : State) (rq : Req) (o : Obj) (e : Nat) (w : Nat) (half : Nat) (wide : Bool) (v : W) : Within Parts.wordWrite s (State.wordWrite s rq o e w half wide v).2 := by
  have h0 : Within Parts.wordWrite s s := .refl
  unfold State.wordWrite
  extract_lets +onlyGivenNames -merge a0
  clear_value a0
  extract_lets +onlyGivenNames -merge a1
  have h2 : PutWithin Parts.wordWrite a1 := by
    unfold a1
    split
    · refine ⟨takesIn_all rfl _, fun s0 => ?_⟩
      dsimp -zeta only
      have h00 : Within Parts.wordWrite s0 s0 := .refl
      with_reducible assumption
    · exact PutWithin.step (putWordOf_within ..) rfl
  clear_value a1
  refine judgeWrite_within rfl ?_ ?_
  · with_reducible assumption
  · with_reducible assumption

def Parts.pcieWrite : List Part := [Part.pw, Part.host, Part.all, Part.fresh, 0x2010, 0x3020, 0x3810, 0x6048, Part.xp, 0x2008, Part.cm, Part.au, Part.ev, Part.clk, 0x7820, 0x7808, Part.sys, 0x7810, 0x2020, Part.tw, 0x1028, Part.save, Part.shadow, 0x6040]
theorem pcieWrite_within (s : State) (f : Fin 4) (bar2 : Bool) (off : Nat) (wide : Bool) (v : W) : Within Parts.pcieWrite s (State.pcieWrite s f bar2 off wide v) := by
  have h0 : Within Parts.pcieWrite s s := .refl
  unfold State.pcieWrite
  split
  · with_reducible assumption
  · extract_lets +onlyGivenNames -merge a0
    have h1 : Within Parts.pcieWrite s a0 := by
      unfold a0
      refine Within.step ?_ (stir_within ..) rfl
      with_reducible assumption
    clear_value a0
    extract_lets +onlyGivenNames -merge a2
    clear_value a2
    extract_lets +onlyGivenNames -merge a3
    clear_value a3
    extract_lets +onlyGivenNames -merge a4
    clear_value a4
    extract_lets +onlyGivenNames -merge a5
    have h6 : Within Parts.pcieWrite s a5.2 := by
      unfold a5
      split
      · with_reducible assumption
      · split
        · with_reducible assumption
        · refine Within.step ?_ (controlWrite_within ..) rfl
          with_reducible assumption
        · dsimp -zeta only
          refine Within.step ?_ (withPcie_within ..) rfl
          with_reducible assumption
        · with_reducible assumption
        · refine Within.step ?_ (wordWrite_within ..) rfl
          with_reducible assumption
        · refine Within.step ?_ (bytesWrite_within ..) rfl
          with_reducible assumption
    clear_value a5
    refine Within.step ?_ (pcieSettle_within ..) rfl
    with_reducible assumption

def Parts.execPcieAuthSubmit : List Part := [Part.host, Part.all]
theorem execPcieAuthSubmit_within (f : Fin 4) (blob : List Byte) (s : State) : ExecWithin Parts.execPcieAuthSubmit s (execPcieAuthSubmit f blob s) := by
  have h0 : Within Parts.execPcieAuthSubmit s s := .refl
  unfold execPcieAuthSubmit
  refine ⟨_, rfl, ?_⟩
  refine pcieControl_within rfl ?_
  intro x0 x1 x2
  refine Within.step ?_ (pcieAuth_within ..) rfl
  with_reducible assumption

def Parts.execPcieClassWrite : List Part := [Part.host, Part.all]
theorem execPcieClassWrite_within (f : Fin 4) (v : W) (s : State) : ExecWithin Parts.execPcieClassWrite s (execPcieClassWrite f v s) := by
  have h0 : Within Parts.execPcieClassWrite s s := .refl
  unfold execPcieClassWrite
  refine ⟨_, rfl, ?_⟩
  refine pcieControl_within rfl ?_
  intro x0 x1 x2
  refine Within.step ?_ (pcieClass_within ..) rfl
  with_reducible assumption

def Parts.execPcieFlr : List Part := [0x681c, Part.ic, Part.fresh, Part.ev, Part.host, Part.clk, 0x7820, 0x6048, 0x7808, Part.sys, 0x7810, 0x6818, 0x2010, 0x3020, 0x3810, Part.xp, 0x2008, Part.cm, Part.au, 0x2020, Part.tw]
theorem execPcieFlr_within (f : Fin 4) (s : State) : ExecWithin Parts.execPcieFlr s (execPcieFlr f s) := by
  have h0 : Within Parts.execPcieFlr s s := .refl
  unfold execPcieFlr
  refine ⟨_, rfl, ?_⟩
  refine Within.step ?_ (pcieFlr_within ..) rfl
  with_reducible assumption

def Parts.execPcieSubreqSubmit : List Part := [Part.host, Part.all]
theorem execPcieSubreqSubmit_within (f : Fin 4) (lo : W) (hi : W) (s : State) : ExecWithin Parts.execPcieSubreqSubmit s (execPcieSubreqSubmit f lo hi s) := by
  have h0 : Within Parts.execPcieSubreqSubmit s s := .refl
  unfold execPcieSubreqSubmit
  refine ⟨_, rfl, ?_⟩
  refine pcieControl_within rfl ?_
  intro x0 x1 x2
  refine Within.step ?_ (pcieSub_within ..) rfl
  refine Within.step ?_ (withPcie_within ..) rfl
  with_reducible assumption

def Parts.execPcieWindowRead : List Part := [Part.pw, Part.host, Part.fresh, 0x6830, 0x8818, Part.all, Part.ev, Part.fw, 0x681c, Part.ic, Part.clk, 0x7820, 0x6048, 0x7808, Part.sys, 0x7810, 0x6818, Part.mx, 0x4850, 0x4860, Part.tm, 0x6040]
theorem execPcieWindowRead_within (f : Fin 4) (bar2 : Bool) (off : Nat) (wide : Bool) (s : State) : ExecWithin Parts.execPcieWindowRead s (execPcieWindowRead f bar2 off wide s) := by
  have h0 : Within Parts.execPcieWindowRead s s := .refl
  unfold execPcieWindowRead
  refine ⟨_, rfl, ?_⟩
  refine Within.step ?_ (pcieRead_within ..) rfl
  with_reducible assumption

def Parts.execPcieWindowWrite : List Part := [Part.pw, Part.host, Part.all, Part.fresh, 0x2010, 0x3020, 0x3810, 0x6048, Part.xp, 0x2008, Part.cm, Part.au, Part.ev, Part.clk, 0x7820, 0x7808, Part.sys, 0x7810, 0x2020, Part.tw, 0x1028, Part.save, Part.shadow, 0x6040]
theorem execPcieWindowWrite_within (f : Fin 4) (bar2 : Bool) (off : Nat) (wide : Bool) (v : W) (s : State) : ExecWithin Parts.execPcieWindowWrite s (execPcieWindowWrite f bar2 off wide v s) := by
  have h0 : Within Parts.execPcieWindowWrite s s := .refl
  unfold execPcieWindowWrite
  refine ⟨_, rfl, ?_⟩
  refine Within.step ?_ (pcieWrite_within ..) rfl
  with_reducible assumption

end Sys2Proof.Machine
end

