-- ==== Sys2Proof/Laws/Words.lean ====
section
/-! SUPPORT. What a word and a field read after a write, of itself and of another. -/
namespace Sys2Proof.Machine

/-! ### Words -/

@[simp] theorem word_setWord_same (s : State) (ix e w : Nat) (v : W) : (s.setWord ix e w v).word ix e w = v :=
  tget_tset_same ..

theorem word_setWord_other (s : State) {ix e w ix' e' w' : Nat} (v : W) (n : (⟨ix', e', w'⟩ : Key) ≠ ⟨ix, e, w⟩) :
    (s.setWord ix e w v).word ix' e' w' = s.word ix' e' w' := tget_tset_other _ _ v n

@[simp] theorem shadowWord_setShadow_same (s : State) (ix e w : Nat) (v : W) : (s.setShadow ix e w v).shadowWord ix e w = v :=
  tget_tset_same ..

theorem shadowWord_setShadow_other (s : State) {ix e w ix' e' w' : Nat} (v : W) (n : (⟨ix', e', w'⟩ : Key) ≠ ⟨ix, e, w⟩) :
    (s.setShadow ix e w v).shadowWord ix' e' w' = s.shadowWord ix' e' w' := tget_tset_other _ _ v n

@[simp] theorem shadowWord_setWord (s : State) (ix e w ix' e' w' : Nat) (v : W) :
    (s.setWord ix e w v).shadowWord ix' e' w' = s.shadowWord ix' e' w' := rfl

@[simp] theorem word_setShadow (s : State) (ix e w ix' e' w' : Nat) (v : W) :
    (s.setShadow ix e w v).word ix' e' w' = s.word ix' e' w' := rfl

/-! ### Bits -/

theorem testBit_getBits (w : W) (lo len i : Nat) : (getBits w lo len).testBit i = (decide (i < len) && w.getLsbD (lo + i)) := by
  simp [getBits, Nat.testBit_mod_two_pow, BitVec.getLsbD]

theorem getLsbD_putBits (w : W) (lo len v i : Nat) :
    (putBits w lo len v).getLsbD i = if lo ≤ i ∧ i < lo + len ∧ i < 64 then v.testBit (i - lo) else w.getLsbD i := by
  simp only [putBits, BitVec.getLsbD_or, BitVec.getLsbD_and, BitVec.getLsbD_not, BitVec.getLsbD_shiftLeft, BitVec.getLsbD_ofNat,
    Nat.testBit_two_pow_sub_one, Nat.testBit_mod_two_pow]
  by_cases h64 : i < 64
  · have a : i - lo < 64 := by omega
    by_cases hl : lo ≤ i
    · have nl : ¬ i < lo := by omega
      by_cases b : i - lo < len
      · have hu : i < lo + len := by omega
        simp [h64, hl, nl, a, b, hu]
      · have hu : ¬ i < lo + len := by omega
        simp [h64, nl, b, hu]
    · have nl : i < lo := by omega
      simp [h64, hl, nl]
  · simp [h64, BitVec.getLsbD_of_ge _ _ (Nat.le_of_not_lt h64)]

/-- A field reads what was put into it. -/
theorem getBits_putBits_same (w : W) {lo len : Nat} (v : Nat) (h : lo + len ≤ 64) :
    getBits (putBits w lo len v) lo len = v % 2 ^ len := by
  apply Nat.eq_of_testBit_eq
  intro i
  rw [testBit_getBits, getLsbD_putBits, Nat.testBit_mod_two_pow]
  by_cases b : i < len
  · have : lo + i < lo + len ∧ lo + i < 64 := by omega
    simp [b, this]
  · simp [b]

/-- Another field of the word keeps its value. -/
theorem getBits_putBits_other (w : W) {lo len lo' len' : Nat} (v : Nat) (h : lo' + len' ≤ lo ∨ lo + len ≤ lo') :
    getBits (putBits w lo len v) lo' len' = getBits w lo' len' := by
  apply Nat.eq_of_testBit_eq
  intro i
  rw [testBit_getBits, testBit_getBits, getLsbD_putBits]
  by_cases b : i < len'
  · have : ¬ (lo ≤ lo' + i ∧ lo' + i < lo + len ∧ lo' + i < 64) := by omega
    simp only [b, this, if_false]
  · simp [b]

/-! ### Fields -/

theorem fld_setFld_same (s : State) (f : Fld) (e v : Nat) (h : f.lo + f.len ≤ 64) : (s.setFld f e v).fld f e = v % 2 ^ f.len := by
  simp only [State.fld, State.setFld, word_setWord_same]
  exact getBits_putBits_same _ v h

/-- A field of another word keeps its value. -/
theorem fld_setFld_other (s : State) (f g : Fld) (e d v : Nat) (n : (⟨g.ix, d, g.w⟩ : Key) ≠ ⟨f.ix, e, f.w⟩) :
    (s.setFld f e v).fld g d = s.fld g d := by
  simp only [State.fld, State.setFld, word_setWord_other s _ n]

/-- Another field of the same word keeps its value. -/
theorem fld_setFld_beside (s : State) (f g : Fld) (e v : Nat) (hi : g.ix = f.ix) (hw : g.w = f.w)
    (h : g.lo + g.len ≤ f.lo ∨ f.lo + f.len ≤ g.lo) : (s.setFld f e v).fld g e = s.fld g e := by
  simp only [State.fld, State.setFld, hi, hw, word_setWord_same]
  exact getBits_putBits_other _ v h

theorem fld_setWord_same (s : State) (f : Fld) (e : Nat) (v : W) : (s.setWord f.ix e f.w v).fld f e = f.of v := by
  simp only [State.fld, word_setWord_same, Fld.of]

theorem fld_setWord_other (s : State) (f : Fld) {ix e w : Nat} (d : Nat) (v : W) (n : (⟨f.ix, d, f.w⟩ : Key) ≠ ⟨ix, e, w⟩) :
    (s.setWord ix e w v).fld f d = s.fld f d := by
  simp only [State.fld, word_setWord_other s v n]

end Sys2Proof.Machine
end

