-- ==== Sys2Proof/WellFormed.lean ====
section
/-! DEFINITION. Well-formed commands: every operand fits the field or the numbering that the spec gives it. The meanings are total: an
ill-formed command that names no unit of the part leaves the state as it is or is answered as a violation, so `step` asks nothing of
this predicate; a sender that follows the spec sends well-formed commands only. -/
namespace Sys2Proof

/-- A number that a field of `n` bits can hold. -/
def fits (n v : Nat) : Bool := decide (v < 2 ^ n)

/-- A request: a 16-bit SESSION and a 32-bit SEQUENCE (R312). -/
def Req.wf (r : Req) : Bool := fits 16 r.session && fits 32 r.seq

/-- An object address: 16-bit index, 8-bit subindex, 32-bit element (R313). -/
def Addr.wf (a : Addr) : Bool := fits 16 a.ix && fits 8 a.sub && fits 32 a.e

/-- The sender and the fields of an NCP header (R311, R312). -/
def Ncp.wf (h : Ncp) : Bool :=
  fits 32 h.ip && fits 16 h.udp && fits 16 h.session && fits 32 h.seq && (match h.att with | .bus _ => true | .mac m vid => decide (m < 64) && fits 12 vid)

/-- An address as a message carries it (R313). -/
def WireAddr.wf (a : WireAddr) : Bool := a.addr.wf && fits 8 a.res

/-- The last four bytes of a SUBSCRIBE (R314). -/
def SubTail.wf (x : SubTail) : Bool := fits 16 x.period && fits 8 x.action && fits 8 x.res

/-- An item of a WRITE (R314): two bytes of reserved byte and type code, a message's worth of value. -/
def WItem.wf (x : WItem) : Bool := x.at_.wf && fits 16 x.typ && decide (x.val.length ≤ 1472)

/-- A flow: a port's video, ANC or audio, or a crosspoint flow (R239). -/
def FlowId.wf (f : FlowId) : Bool := fits 16 f.idx && decide (f.k < 3)

/-- A frame of a media MAC: a 12-bit tag, a 48-bit address (R220). -/
def MacFrame.wf (f : MacFrame) : Bool := fits 48 f.da && (match f.vid with | some v => fits 12 v | none => true)

/-- A frame of the control bus (R308): a datagram of at most 1,472 bytes. -/
def BusFrame.wf (f : BusFrame) : Bool :=
  match f.body with
  | .ncp ip udp m => fits 32 ip && fits 16 udp && decide (m.length ≤ 1472)
  | .twin m => decide (m.length ≤ 1472)
  | .arp | .icmp | .other => true

/-- An access of the control plane: a 64-bit address (R350). -/
def Access.wf (x : Access) : Bool := fits 40 x.addr && (!x.write || x.data.length == x.len)

/-- A burst cut short: at most its beats done (R357). -/
def Burst.wf (b : Burst) : Bool := decide (b.done ≤ b.total ∧ b.total ≤ 16) && fits 40 b.addr

/-- Every operand fits. -/
def Instr.wf : Instr → Bool
  | .powerOn _ => true
  | .packageReset _ _ _ => true
  | .requestSafe rq => rq.wf
  | .requestLoad rq => rq.wf
  | .requestStandby rq => rq.wf
  | .requestActive rq => rq.wf
  | .requestHold rq => rq.wf
  | .requestService rq => rq.wf
  | .loadComplete _ => true
  | .loadTimeout => true
  | .modeTransitionComplete => true
  | .thermalTrip d tj => decide (d < 8) && fits 32 tj
  | .undervoltage d mv => decide (d < 8) && fits 32 mv
  | .sheetStart inp => (inp.prbs.all fun x => fits 10 x.1)
  | .rxHeaderBlock e pos sync _ _ => fits 32 e && fits 32 pos && fits 32 sync
  | .laneSignalLoss e => fits 32 e
  | .laneSignalReturn e => fits 32 e
  | .rxSheet d lane _ _ => decide (d < 8) && fits 32 lane
  | .rxEssenceFrame p _ payload => fits 32 p && fits 16 payload.length
  | .rxOverrun d lane => decide (d < 8) && fits 32 lane
  | .txStarve d lane frames => decide (d < 8) && fits 32 lane && fits 32 frames
  | .meshGroupFail d1 d2 => decide (d1 < 8) && decide (d2 < 8)
  | .portTableWrite rq _ p _ => rq.wf && fits 32 p
  | .calCommit rq => rq.wf
  | .calAbandon rq => rq.wf
  | .rebuildDone => true
  | .calendarPublish => true
  | .takeCommit rq e _ _ => rq.wf && fits 32 e
  | .takeCancel rq e _ => rq.wf && fits 32 e
  | .twinDecisionReceived d => fits 32 d.seq
  | .decisionAckTimeout seq => fits 32 seq
  | .switchLine p => fits 32 p
  | .salvoArm rq n _ _ => rq.wf && fits 32 n
  | .salvoDiscard rq n _ => rq.wf && fits 32 n
  | .salvoTimeout n => fits 32 n
  | .holdDeadline _ e => fits 32 e
  | .esAlignWrite rq p _ => rq.wf && fits 32 p
  | .sourcePicture p capture missing _ => fits 32 p && fits 64 capture && fits 32 missing
  | .sourceLost p => fits 32 p
  | .fsyncPictureStart p count capture => fits 32 p && fits 16 count && fits 64 capture
  | .fsyncPictureEnd p _ => fits 32 p
  | .fsyncReadInstant p => fits 32 p
  | .fsyncAudioSlip p _ => fits 32 p
  | .lossholdExpire p => fits 32 p
  | .auSrcWrite rq e _ => rq.wf && fits 32 e
  | .auDstTargetWrite rq e _ => rq.wf && fits 32 e
  | .audioChangeCommit rq e _ => rq.wf && fits 32 e
  | .audioChangeCancel rq e _ => rq.wf && fits 32 e
  | .audioSample _ _ _ => true
  | .audioTransitionTimeout id => fits 16 id
  | .auGainWrite rq e _ => rq.wf && fits 32 e
  | .audioPortConfigWrite rq _ e _ => rq.wf && fits 32 e
  | .maskWrite rq e _ => rq.wf && fits 32 e
  | .maskApply e frame => fits 32 e && fits 32 frame
  | .startTrigger rq n _ _ _ => rq.wf && fits 32 n
  | .stopTrigger rq n _ _ _ => rq.wf && fits 32 n
  | .abortTrigger rq n _ _ _ => rq.wf && fits 32 n
  | .triggerAct n => fits 32 n
  | .streamUnderrun e _ _ => fits 32 e
  | .streamRejoin e _ => fits 32 e
  | .streamPhaseSlip e _ _ => fits 32 e
  | .streamOffrate e _ => fits 32 e
  | .auAsrcWrite rq e _ => rq.wf && fits 32 e
  | .asrcLock e _ => fits 32 e
  | .asrcUnlock e => fits 32 e
  | .cmLayerWrite rq e w _ => rq.wf && fits 32 e && decide (w < 3)
  | .cmImageWrite rq e _ => rq.wf && fits 32 e
  | .cmPixelsWrite rq e _ => rq.wf && fits 32 e
  | .cmPaletteWrite rq e _ => rq.wf && fits 32 e
  | .headCommit rq h _ _ => rq.wf && fits 32 h
  | .headCancel rq h _ => rq.wf && fits 32 h
  | .flattenDone h _ => fits 32 h
  | .lkLaneWrite rq e _ => rq.wf && fits 32 e
  | .laneTrainingDone d shroud lanes => decide (d < 8) && fits 32 shroud && (lanes.all fun x => x.pos < 10)
  | .lkTxeqWrite rq e _ => rq.wf && fits 32 e
  | .txeqStep e => fits 32 e
  | .stayLos e => fits 32 e
  | .stayReturn e => fits 32 e
  | .spareCover rq e _ => rq.wf && fits 32 e
  | .spareRelease rq e _ => rq.wf && fits 32 e
  | .prbsPatternWrite rq e w _ => rq.wf && fits 32 e && decide (w < 2)
  | .prbsInject rq e _ => rq.wf && fits 32 e
  | .prbsSlip rq e _ _ => rq.wf && fits 32 e
  | .laneErrorSecond => true
  | .mxMacWrite rq m w _ => rq.wf && fits 32 m && decide (w < 3)
  | .macRxFrame m f => fits 32 m && f.wf
  | .pauseExpire m _ => fits 32 m
  | .mxRingWrite rq e w _ => rq.wf && fits 32 e && decide (w < 2)
  | .ringTxFrame m _ _ => fits 32 m
  | .tsqRead rq e => rq.wf && fits 32 e
  | .mxStatsRead rq m => rq.wf && fits 32 m
  | .xportWrite rq _ p w _ => rq.wf && fits 32 p && decide (w < 4)
  | .aflowWrite rq _ e w _ => rq.wf && fits 32 e && decide (w < 2)
  | .st2110Release f last => f.wf && fits 32 last
  | .sdiRxLine p _ => fits 32 p
  | .sdiTxLine p line _ _ _ => fits 32 p && fits 32 line
  | .macLinkChange m _ _ => fits 32 m
  | .tmRefWrite rq r w _ => rq.wf && fits 32 r && decide (w < 2)
  | .refMeasurement r _ _ interval => fits 32 r && fits 32 interval
  | .refQualify r => fits 32 r
  | .refLos r => fits 32 r
  | .selectionEval => true
  | .agreementCheck _ => true
  | .refAccept rq r => rq.wf && fits 32 r
  | .refRequalify rq r => rq.wf && fits 32 r
  | .ptpMessageRx p _ => fits 32 p
  | .announceTimeout p => fits 32 p
  | .ptpTxInterval p _ late => fits 32 p && fits 32 late
  | .stepAbsolute rq _ _ _ => rq.wf
  | .stepRelative rq _ _ _ => rq.wf
  | .stepToref rq _ _ _ => rq.wf
  | .stepApply => true
  | .slewDone => true
  | .holdoverUpdate _ => true
  | .holdoverLearnSave => true
  | .holdoverForget rq => rq.wf
  | .tmOutWrite rq o w _ => rq.wf && fits 32 o && decide (w < 2)
  | .twPairWrite rq e _ => rq.wf && fits 32 e
  | .pairSheetRelease e _ _ slots => fits 32 e && decide (slots.length ≤ 24)
  | .twinSilentSheets => true
  | .healthReport => true
  | .twinReportTimeout => true
  | .snapshotRequest _ => true
  | .snapshotReceived _ => true
  | .mirrorStoresFull => true
  | .selftestEngine _ => true
  | .busFrameRx _ f => f.wf
  | .busBackoffExpire _ => true
  | .ctBusWrite rq a _ => rq.wf && fits 32 a
  | .ncpRead h items => h.wf && items.all WireAddr.wf
  | .ncpWrite h items => h.wf && items.all WItem.wf
  | .ncpBlockRead h a count => h.wf && a.wf && fits 32 count
  | .ncpBlockWrite h a typ elems => h.wf && a.wf && fits 16 typ && fits 16 elems.length
  | .ncpSubscribe h a count tail => h.wf && a.wf && fits 32 count && tail.wf
  | .ncpUnsubscribe h x => h.wf && x.1.wf && fits 32 x.2.1 && x.2.2.wf
  | .challengeRead h => h.wf
  | .sessionOpen h blob => h.wf && fits 20 blob.length
  | .sessionClose h n => h.wf && fits 16 n
  | .sessionTimeout _ => true
  | .notifyPeriod _ _ id => fits 16 id
  | .notifySend _ _ => true
  | .notifyOverflow _ _ => true
  | .emergencySend => true
  | .emergencyRepeat => true
  | .leaseTake rq e => rq.wf && fits 32 e
  | .leaseRelease rq e => rq.wf && fits 32 e
  | .leaseBreak rq e => rq.wf && fits 32 e
  | .ctContextWrite rq c w _ => rq.wf && fits 32 c && decide (w < 5)
  | .pcieWindowRead _ _ off _ => fits 36 off
  | .pcieWindowWrite _ _ off _ _ => fits 36 off
  | .pcieClassWrite _ _ => true
  | .pcieAuthSubmit _ blob => fits 20 blob.length
  | .pcieSubreqSubmit _ _ _ => true
  | .pcieFlr _ => true
  | .syRoleWrite rq _ => rq.wf
  | .settingsFlush rq => rq.wf
  | .settingsDefaults rq => rq.wf
  | .settingsKeep rq => rq.wf
  | .settingsTimer => true
  | .settingsWriteDone _ => true
  | .burstAbort d b => decide (d < 8) && b.wf
  | .decodeError d master x => decide (d < 8) && fits 32 master && x.wf
  | .exclMonitorExpire d master target => decide (d < 8) && fits 32 master && fits 32 target
  | .engineFail e cause => fits 32 e && fits 32 cause
  | .engineMove rq e _ => rq.wf && fits 32 e
  | .engineRetire rq e _ => rq.wf && fits 32 e
  | .engineRestore rq e _ => rq.wf && fits 32 e
  | .engineTest rq e _ => rq.wf && fits 32 e
  | .engineTestDone e _ => fits 32 e
  | .crcStart rq u ws => rq.wf && fits 32 u && fits 8 ws.length
  | .crcAbort rq u _ => rq.wf && fits 32 u
  | .crcJobDone d unit x => decide (d < 8) && fits 32 unit && (match x.readErr with | some n => fits 32 n | none => true)
  | .mmChannelWrite rq e _ => rq.wf && fits 32 e
  | .sramScrub d corrected _ => decide (d < 8) && fits 32 corrected.1
  | .sramUe d region addr unit => decide (d < 8) && fits 32 region && fits 32 addr && fits 32 unit
  | .dramRecal ch => decide (ch < 32)
  | .refreshRateCheck ch t => decide (ch < 32) && fits 32 t
  | .scrubPassDone ch _ _ => decide (ch < 32)
  | .rankFail e _ => fits 32 e
  | .rankMigrate rq e _ => rq.wf && fits 32 e
  | .rankRetire rq e _ => rq.wf && fits 32 e
  | .rankRestore rq e _ => rq.wf && fits 32 e
  | .rankReplan rq e _ => rq.wf && fits 32 e
  | .migrationHeldItemCopied ch kind owner buf => decide (ch < 32) && fits 32 kind && fits 32 owner && fits 32 buf
  | .migrationDone ch => decide (ch < 32)
  | .faultRaised code die p1 p2 p3 _ => fits 32 code && decide (die < 8) && fits 32 p1 && fits 32 p2 && fits 32 p3
  | .handlerEnd d => decide (d < 8)
  | .faultAck rq d => rq.wf && decide (d < 8)
  | .sillageRetest rq d _ => rq.wf && decide (d < 8)
  | .recordClose d seq => decide (d < 8) && fits 32 seq
  | .evCursorWrite rq c _ => rq.wf && fits 32 c
  | .clearChallengeRead rq => rq.wf
  | .sillageClear rq blob => rq.wf && fits 20 blob.length
  | .sillageFail d addr _ => decide (d < 8) && fits 32 addr
  | .gpiRawEdge n => fits 32 n
  | .gpiQualify n => fits 32 n
  | .gpiStuck n => fits 32 n
  | .gpiUnmask n => fits 32 n
  | .evGpiWrite rq n _ => rq.wf && fits 32 n
  | .sigPolicyWrite rq _ => rq.wf
  | .quoteRequest rq nonce => rq.wf && nonce.length == 32
  | .quoteReady => true
  | .fwFlashWrite rq off bytes => rq.wf && fits 32 off && fits 20 bytes.length
  | .fwStage rq _ _ _ => rq.wf
  | .stageDone _ => true
  | .fwActivate rq _ _ _ => rq.wf
  | .activationReady _ => true
  | .activationTwinCheck _ _ _ => true
  | .activationInstant _ => true
  | .fwCommit rq _ _ _ => rq.wf
  | .fwRollback rq _ _ _ => rq.wf
  | .fwAbandon rq _ _ _ => rq.wf
  | .lifecycleChallengeRead rq => rq.wf
  | .lifecycleRequest rq off bytes => rq.wf && fits 32 off && fits 20 bytes.length
  | .pwDomainWrite rq e _ => rq.wf && fits 32 e
  | .domainOnDone e => fits 32 e
  | .domainFault e => fits 32 e
  | .holdWake => true
  | .holdRetention => true
  | .supplyLow c mv us => fits 32 c && fits 32 mv && fits 32 us
  | .coreDip c _ => fits 32 c
  | .thermalWarn d tj => decide (d < 8) && fits 32 tj
  | .monitorFail e value => fits 32 e && fits 32 value
  | .droopStart d => decide (d < 8)
  | .droopEnd d depth ns margin lanes => decide (d < 8) && fits 32 depth && fits 32 ns && fits 32 margin && fits 32 lanes
  | .paceUpdate _ pace => (pace.all fun x => x.die < 8)
  | .plannerEval => true
  | .ageingUpdate inp => (inp.all fun x => x.die < 8)
  | .vcoreTargetWrite rq _ => rq.wf
  | .vcoreStep _ => true
  | .vcoreSettleCheck now _ => fits 32 now
  | .vcoreRetry _ => true
  | .registerWrite rq a w _ => rq.wf && a.wf && fits 32 w
  | .powerLoss _ => true
  | .busCollision _ _ => true
  | .rollbackInstant => true
  | .domainOffDone e => fits 32 e

end Sys2Proof
end

