-- ==== Sys2Proof/Tests/Slice0.lean ====
section
/-! SUPPORT. Small tests: ill-formed commands are refused, and for each clause of the statements a state and operands that meet its
hypotheses together. -/
namespace Sys2Proof.Machine

set_option Elab.async false

/-- A request in a class, by context 0 over a control bus, on a session of ceiling SECURE. -/
def Tests.by_ (c : Cls) : Req := ⟨0, c, .secure, .busA, 1, 1⟩
def Tests.operate : Req := Tests.by_ .operate
def Tests.configure : Req := Tests.by_ .configure
def Tests.maintain : Req := Tests.by_ .maintain
def Tests.secure : Req := Tests.by_ .secure

/-- The part in a mode, settled. -/
def Tests.inMode (m : Nat) : State := (State.reset.setFld F.SY_MODE_MODE 0 m).setFld F.SY_MODE_TARGET 0 m

/-- LOAD that runs. -/
def Tests.loading : State := (Tests.inMode LOAD).setFld F.SY_MODE_PHASE 0 phRUNNING

/-- A sheet header of die 0, lane 0, LIVE, bank 0, with a SHEET, its check right. -/
def Tests.header (n : Nat) : W := let h := BitVec.ofNat 64 (n * 2 ^ 12); h ||| BitVec.ofNat 64 (hdrCheck h)

/-- Receive lane 0 hunts with a candidate that has passed three times. -/
def Tests.hunting : State :=
  ((Tests.inMode ACTIVE).setFld F.LK_STAT_STATE 0 laHUNT).setLaneRun ⟨0, [⟨12737, 3, 0⟩], 0, 0, 0, 0, none, none, 0, 0, 0, ⟨0, 0, 0, []⟩, 0, [], 0, []⟩

/-- Transmit lane 80 walks to its taps. -/
def Tests.walking : State :=
  ((Tests.inMode ACTIVE).setFld F.LK_STAT_STATE 80 laLOCKED).setLaneRun ⟨80, [], 0, 0, 0, 0, none, some 0x1F001F001F001F00, 0, 0, 0, ⟨0, 0, 0, []⟩, 0, [], 0, []⟩

/-- A valid 1080p59.94 port: die 0, lane 0, slots 0 and 1, tag 0. -/
def Tests.portWord : W :=
  [(F.ES_PORT_VALID, 1), (F.ES_PORT_FORMAT, 0x31), (F.ES_PORT_SLOTMASK, 3)].foldl (fun v x => x.1.put v x.2) 0

/-- The header of a FRAME frame for that port, its check right. -/
def Tests.frameHeader : W := let h := BitVec.ofNat 64 (kFRAME * 2 ^ 47 + 0x31 * 2 ^ 18); h ||| BitVec.ofNat 64 (hdrCheck h)

/-- Source 0 stands: a 1080p59.94 port on lane 0 of die 0. -/
def Tests.onePort : State := (Tests.inMode ACTIVE).setWord 0x2810 0 0 Tests.portWord


/-- No small number is the part's own clock identity. -/
theorem Tests.eui64_pos (m : Nat) : eui64 m ≠ 0 := by
  unfold eui64
  omega

theorem Tests.clockIdent_pos : 9 / 65536 ≠ clockIdent := fun h => Tests.eui64_pos _ h.symm

/-- A CORE part of a pair that has a mode, a SYNC, a link and decides or not. -/
def Tests.twin (sync deciding : Nat) : State :=
  ((((Tests.inMode ACTIVE).setFld F.TW_CONFIG_EN 0 1).setFld F.TW_STATE_SYNC 0 sync).setFld F.TW_STATE_LINK 0 1).setFld
    F.TW_STATE_DECIDING 0 deciding

/-- An edge with a pair whose twin A is receive lane 0 of die 0 and twin B lane 1 of die 0. -/
def Tests.edge : State :=
  let s := (Tests.inMode ACTIVE).withSys fun x => { x with role := EDGE }
  s.setWord 0x5810 0 0 (F.TW_PAIR_BLANE.put (F.TW_PAIR_VALID.put 0 1) 1)

/-- A take in progress on element 0: destination 0, source PARK. -/
def Tests.take (st : Nat) : Work :=
  ⟨.take, 0, st, 0, 0, F.XP_TAKE_SRC.put 0 srcPARK, 0, 0, false, 0x31, 5, 5, false, 0, false, 0, false⟩

/-- Word 0 of a take that parks destination 0, with AFOLLOW. -/
def Tests.toPark : W := F.XP_TAKE_AFOLLOW.put (F.XP_TAKE_SRC.put 0 srcPARK) 1

/-- Ports 0 and 1, sources and destinations: 1080p59.94 on lanes 0 and 1 of die 0, eight embedded channels on port 1. -/
def Tests.ports (m : Nat) : State :=
  let w := F.ES_PORT_ACH.put (F.ES_PORT_LANE.put Tests.portWord 1) 2
  ((((Tests.inMode m).setWord 0x2810 0 0 Tests.portWord).setWord 0x2818 0 0 Tests.portWord).setWord 0x2810 1 0 w).setWord 0x2818 1 0 w

/-- The same, with the shadow as the live tables. -/
def Tests.standing (m : Nat) : State := { Tests.ports m with shadow := (Tests.ports m).regs }

/-- A work of the crosspoint in progress. -/
def Tests.work (k : MemberKind) (st salvo : Nat) (w0 : W) : Work := ⟨k, 0, st, 0, salvo, w0, 0, 0, false, 0x31, 500, 500, false, 0, false, 0, false⟩

def Tests.holding (x : Work) : State := { Tests.standing ACTIVE with xp := { State.reset.xp with work := [x] } }

/-- Salvo 5 is open with one staged take of destination 0. -/
def Tests.openSalvo : State :=
  let s := { Tests.standing ACTIVE with xp := { State.reset.xp with
    work := [Tests.work .take tsSTAGED 5 (F.XP_TAKE_SALVO.put Tests.toPark 5)], salvos := [⟨5, 0, false, none, 0⟩] } }
  (s.setFld F.XP_SALVO_STATE 5 saOPEN).setFld F.XP_SALVO_STAGED 5 1

/-- A frame-synchronised source 0, ALIGNED, with one unread picture. -/
def Tests.fsync : State :=
  let s := ((Tests.standing ACTIVE).setFld F.ES_ALIGN_MODE 0 1).setFld F.ES_ALIGN_STAT_STATE 0 alALIGNED
  s.setSrc { Src.rest 0 (s.align 0) with unread := [⟨3, 0, []⟩], writing := some ⟨4, 0, []⟩, lossRep := 9 }

/-- Channel 0 in a ZC transition. -/
def Tests.zc : Trans := ⟨5, 0, 10, 48, 0, 0, none, none⟩
def Tests.chan : Chan := ⟨0, 0, [Tests.zc], 0, 0, 64, 0, [], 0, [], [], 0, false, 0, false, 0⟩

/-- The stream of receive TDM port 0, started at house index 3. -/
def Tests.strm (lost : Option Nat) : Stream := ⟨streamId 0 false, 3, lost, 64, 0, 0, 0⟩

/-- TDM port 0 of die 0, LOCKED to an external clock, its receive direction running since house index 3. -/
def Tests.stream : State :=
  let s := (((Tests.inMode ACTIVE).setFld F.AU_TDM_RXEN 0 1).setFld F.AU_TDM_CLK 0 clkLOCKED).setDir 0 false apRUNNING
  s.setStream (Tests.strm none)

/-- Trigger 2 names the receive direction of TDM port 0, which is enabled. -/
def Tests.trig : W := F.AU_START_DIR.put 0 1
def Tests.enabled : State := (Tests.inMode ACTIVE).setFld F.AU_TDM_RXEN 0 1
def Tests.armed : State :=
  let s := Tests.enabled.setTrig ⟨2, F.AU_START_OP.put Tests.trig 1, 1, some 9, false⟩
  (s.setFld F.AU_START_STATE 2 agARMED).setDir 0 false apARMED

/-- MAC 0 is enabled with an address and a management VLAN, and its link is up. -/
def Tests.mac : State :=
  let s := (((Tests.inMode ACTIVE).setFld F.MX_MAC_EN 0 1).setFld F.MX_MAC_MGMTVID 0 7).setFld F.MX_MAC_MTU 0 1518
  { s with regs := tput s.regs ⟨0x4810, 0, 1⟩ (F.MX_MAC_MACADDR.put 0 0x020000000001) }.setMacRun ⟨0, true, none, [], 0, []⟩

def Tests.frame (len : Nat) : MacFrame := ⟨len, false, true, some 7, 0x020000000001, (0, 0), .ncp 1 2 [], []⟩

/-- A descriptor of one whole frame of 60 bytes, owned by the part. -/
def Tests.desc : W × W := (0x1000, putBits (putBits (putBits (putBits 0 63 1 1) 62 1 1) 61 1 1) 16 14 60)

/-- A video flow of source 0 that waits for packet 5 and holds packets 6 and 12. -/
def Tests.flow : RxFlow := ⟨⟨false, 0, 0⟩, 5, [⟨false, 6, 0, 0, .video true []⟩, ⟨true, 12, 0, 0, .video true []⟩], none, none, none, none⟩

/-- An SDI source and destination on port 0. -/
def Tests.sdi : State :=
  let s := (Tests.onePort.setWord 0x2818 0 0 Tests.portWord).setFld F.MX_XPORT_TYPE 0 xSDI
  s.setWord 0x4820 0 0 (F.MX_XPORT_TYPE.put 0 xSDI)

/-- Reference 0, a pulse input, is enabled and in a state; it last measured 40 ps. -/
def Tests.ref (q : Nat) : State :=
  let s := ((Tests.inMode ACTIVE).setFld F.TM_REF_EN 0 1).setFld F.TM_REF_STAT_QSTATE 0 q
  s.withRef 0 fun x => { x with offset := some 40, goodFrom := some 0, signal := true }

/-- PTP port 0 runs on MAC 0, in a port state. -/
def Tests.ptp (st : Nat) : State :=
  (((Tests.inMode ACTIVE).setFld F.TM_REF_EN 6 1).setFld F.MX_MAC_EN 0 1).setFld F.TM_PTP_STAT_PSTATE 0 st

def Tests.gm : GmData := ⟨1, 6, 0x21, 100, 2, 77, 0⟩

/-- A request over bus attachment 0 on a session number. -/
def Tests.ncp (n : Nat) (c : Cls) : Ncp := ⟨.bus 0, 0xA9FE0101, 4000, n, c, 1⟩

/-- Context 1 has session 7 open, of ceiling SECURE, with one periodic subscription to the counters of NCP and one NOTIFY queued. -/
def Tests.session : State :=
  let x : Session := ⟨7, .secure, 10, .bus 0, 0xA9FE0101, 4000, 0, .bus 0, [⟨3, ⟨0x6048, 0, 0⟩, 1, 100, 0⟩], 4, 0,
    [⟨3, 1, ⟨0x6048, 0, 0⟩, [0], 0⟩], true, []⟩
  ((Tests.inMode ACTIVE).setSession 1 (some x)).withHost fun h => { h with emerg := [([0], 0, 0), ([0], 1, 0)] }

/-- Context 2 is enabled for NCP up to CONFIGURE. -/
def Tests.context : State :=
  (((Tests.inMode ACTIVE).setFld F.CT_CONTEXT_EN 2 1).setFld F.CT_CONTEXT_NCP 2 1).setFld F.CT_CONTEXT_CEILING 2 1

def Tests.ncpFrame : BusFrame := ⟨true, false, 80, true, false, .ncp 1 2 (beBytes 1 1 ++ beBytes 1 1 ++ beBytes 11 0 ++ beBytes 1 8 ++ beBytes 2 0 ++ beBytes 8 0)⟩

/-- Context 1 is enabled for PCIe up to SECURE. -/
def Tests.pcie : State :=
  (((Tests.inMode ACTIVE).setFld F.CT_CONTEXT_EN 1 1).setFld F.CT_CONTEXT_PCIE 1 1).setFld F.CT_CONTEXT_CEILING 1 3

/-- The object at an index and subindex. -/
def Tests.obj (ix sub : Nat) : Obj := (findObj ix sub).getD ⟨0, 0, .u8, [], 0, 0, [], .base, .scalar, [], false⟩

/-- A function in MAINTAIN. -/
def Tests.pcieMaintain : State := Tests.pcie.withPcie 1 fun x => { x with cls := .maintain }

/-- A generation of the settings is being written. -/
def Tests.saving : State := (Tests.inMode ACTIVE).startGen

/-- Channel 0 is in service, its rank 0 DATA and rank 1 SPARE. -/
def Tests.dram : State :=
  let s := ((Tests.inMode ACTIVE).setFld F.MM_CHAN_STAT_STATE 0 chSERVICE).setRank 0 raDATA
  let s := s.setRank 1 raSPARE
  let v := F.MM_CHANNEL_SPAREEN.put (F.MM_CHANNEL_SPARE.put (F.MM_CHANNEL_RANKS.put (s.word 0x7010 0 0) 1) 1) 1
  { s with mm := { s.mm with conf := [(0, v)] } }

/-- An item of the ring of source 5 on rank 0. -/
def Tests.item : Item := ⟨0, 5, 1, 100, 0, true, false, false⟩

/-- Rank 0 is copied to rank 1, with that item held. -/
def Tests.copying : State :=
  let s := Tests.dram.startCopy 0 0 1 3
  { s with mm := { s.mm with items := [Tests.item] } }

/-- The buffers of a frame-synchronised source are lost, and no rank serves. -/
def Tests.unplaced : State :=
  { Tests.fsync with mm := { Tests.fsync.mm with items := (Tests.fsync.wantedItems 0).map fun x => { x with lost := true } } }

/-- A fault of a level, under sequence number 0. -/
def Tests.fault (l : Level) : FaultRun := ⟨0x880A, l, .none, 0, 0, none⟩

/-- Die 0's manager runs one fault, another suspended, both open. -/
def Tests.handling : State :=
  (Tests.inMode ACTIVE).withMgr 0 fun m => { m with
    running := some (Tests.fault .degrade), suspended := [Tests.fault .notice], opened := [Tests.fault .degrade] }

/-- Input 2 has a raw level of 1, its last edge at 0, in a state. -/
def Tests.input (n : Nat) : State :=
  ((Tests.inMode ACTIVE).withGpi 2 fun x => { x with raw := true }).setFld F.EV_GPI_STAT_STATE 2 n

def Tests.clearBlob : List Byte := List.replicate 17 0 ++ [0x8F] ++ List.replicate 70 0

/-- An image whose checks all pass. -/
def Tests.image (typ : Nat) : Image := ⟨typ, 9, 1, 1, 15, 0, 0, 3, 0, true, true, true, true, true⟩

def Tests.images : List Image := [1, 2, 3, 4, 5, 6].map Tests.image

/-- Both halves hold good images; half 0 runs. -/
def Tests.fw (st : Nat) : State :=
  let h : FlashHalf := ⟨2, 1, 0, some Tests.images, [], []⟩
  ((Tests.inMode ACTIVE).setFld F.FW_STATE_STATE 0 st).withFw fun x => { x with halves := [h, { h with state := 1 }] }

/-- An activation is prepared for 1 s. -/
def Tests.activation (st : Nat) : State := (Tests.fw st).withFw fun x => { x with actAt := some (secs 1), autoCommit := false }

/-- The parts of a pair run in lockstep. -/
def Tests.lockstep (st : Nat) : State :=
  ((Tests.activation st).setFld F.TW_CONFIG_EN 0 1).setFld F.TW_STATE_SYNC 0 syncLOCKSTEP

/-- SAFE in MANUFACTURE, with one challenge given. -/
def Tests.life : State :=
  (State.reset.setFld F.FW_LIFECYCLE_STATE 0 lfMANUFACTURE).withFw fun x => { x with lifeCh := [⟨0, 0⟩] }

def Tests.lifeBlob : List Byte := List.replicate 16 0 ++ [5, 0] ++ List.replicate 230 0

/-- Domain 22 of die 0 in a state, its CMD as given. -/
def Tests.dom (st cmd : Nat) : State :=
  ((Tests.inMode ACTIVE).setFld F.PW_DOMAIN_STATE 22 st).setFld F.PW_DOMAIN_CMD 22 cmd

/-- Domain 22 rises. -/
def Tests.rising : State := (Tests.dom dmRISING 1).withPw fun x => { x with rising := [22] }

/-- The core voltage in a state, the voltage written and its target. -/
def Tests.core (st written target : Nat) : State :=
  (((Tests.inMode ACTIVE).setVcore st).setFld F.PW_VCORE_TARGET 0 target).withPw fun x => { x with written := written, writeAt := 0 }

def Tests.hot : PaceReading := ⟨0, 1300, 1200, 3, 40⟩

/-- The two-die member, which lacks the optional units. -/
def Tests.small : State := { Tests.inMode ACTIVE with caps := ⟨.sc2e, true⟩ }

/-- A copy of a live sheet with claim 0. -/
def Tests.copy : PairCopy := ⟨0, 0⟩

/-- A command and a state from which it answers a next state with no die isolated. -/
def Tests.runs (c : Instr) (s : State) : Bool := match exec c s with | .next t => t.sys.isolated.isEmpty | _ => false


theorem witness_requestSafe : (((Tests.inMode ACTIVE : State).passes Tests.maintain (putMode Tests.maintain 0).1 = true) ∧ (Tests.maintain.cls = .maintain) ∧ ((Tests.inMode ACTIVE : State).modeLegal SAFE = true)) := by decide +kernel
theorem witness_requestLoad :
    ((State.reset.passes Tests.maintain (putMode Tests.maintain 1).1 = true) ∧ (Tests.maintain.cls = .maintain) ∧ (State.reset.modeLegal LOAD = true)) ∧
    (((Tests.inMode ACTIVE : State).passes Tests.maintain (putMode Tests.maintain 1).1 = true) ∧ (Tests.maintain.cls = .maintain) ∧ ((Tests.inMode ACTIVE : State).modeLegal LOAD = false)) :=
  ⟨by decide +kernel, by decide +kernel⟩
theorem witness_requestStandby :
    (((Tests.inMode ACTIVE : State).passes Tests.operate (putMode Tests.operate 2).1 = true) ∧ (Tests.operate.cls = .maintain ∨ (Tests.inMode ACTIVE : State).mode = ACTIVE) ∧ ((Tests.inMode ACTIVE : State).modeLegal STANDBY = true)) ∧
    (((Tests.inMode STANDBY : State).passes Tests.maintain (putMode Tests.maintain 2).1 = true) ∧ (Tests.maintain.cls = .maintain ∨ (Tests.inMode STANDBY : State).mode = ACTIVE) ∧ ((Tests.inMode STANDBY : State).modeLegal STANDBY = false)) :=
  ⟨by decide +kernel, by decide +kernel⟩
theorem witness_requestActive :
    (((Tests.inMode STANDBY : State).passes Tests.operate (putMode Tests.operate 3).1 = true) ∧ (Tests.operate.cls = .maintain ∨ (Tests.inMode STANDBY : State).mode = STANDBY) ∧ ((Tests.inMode STANDBY : State).modeLegal ACTIVE = true)) ∧
    (((Tests.inMode SERVICE : State).passes Tests.maintain (putMode Tests.maintain 3).1 = true) ∧ (Tests.maintain.cls = .maintain ∨ (Tests.inMode SERVICE : State).mode = STANDBY) ∧ ((Tests.inMode SERVICE : State).modeLegal ACTIVE = false)) :=
  ⟨by decide +kernel, by decide +kernel⟩
theorem witness_requestHold :
    (((Tests.inMode STANDBY : State).passes Tests.maintain (putMode Tests.maintain 4).1 = true) ∧ (Tests.maintain.cls = .maintain) ∧ ((Tests.inMode STANDBY : State).modeLegal HOLD = true)) ∧
    (((Tests.inMode ACTIVE : State).passes Tests.maintain (putMode Tests.maintain 4).1 = true) ∧ (Tests.maintain.cls = .maintain) ∧ ((Tests.inMode ACTIVE : State).modeLegal HOLD = false)) :=
  ⟨by decide +kernel, by decide +kernel⟩
theorem witness_requestService :
    (((Tests.inMode STANDBY : State).passes Tests.maintain (putMode Tests.maintain 5).1 = true) ∧ (Tests.maintain.cls = .maintain) ∧ ((Tests.inMode STANDBY : State).modeLegal SERVICE = true)) ∧
    (((Tests.inMode ACTIVE : State).passes Tests.maintain (putMode Tests.maintain 5).1 = true) ∧ (Tests.maintain.cls = .maintain) ∧ ((Tests.inMode ACTIVE : State).modeLegal SERVICE = false)) :=
  ⟨by decide +kernel, by decide +kernel⟩
theorem witness_loadComplete :
    ((Tests.loading.loading = true)) ∧
    (((Tests.inMode ACTIVE : State).loading = false)) :=
  ⟨by decide +kernel, by decide +kernel⟩
theorem witness_loadTimeout :
    ((Tests.loading.loading = true)) ∧
    (((Tests.inMode ACTIVE : State).loading = false)) :=
  ⟨by decide +kernel, by decide +kernel⟩
theorem witness_modeTransitionComplete :
    ((((Tests.inMode STANDBY).beginMode ACTIVE : State).phase = phRUNNING) ∧ (((Tests.inMode STANDBY).beginMode ACTIVE : State).loading = false) ∧ (((Tests.inMode STANDBY).beginMode ACTIVE : State).fld F.SY_MODE_TARGET 0 = HOLD → ((Tests.inMode STANDBY).beginMode ACTIVE : State).save.writing = none)) ∧
    (((Tests.inMode ACTIVE : State).phase ≠ phRUNNING ∨ (Tests.inMode ACTIVE : State).loading = true ∨ ((Tests.inMode ACTIVE : State).fld F.SY_MODE_TARGET 0 = HOLD ∧ (Tests.inMode ACTIVE : State).save.writing ≠ none))) :=
  ⟨by decide +kernel, by decide +kernel⟩
theorem witness_thermalTrip :
    ((7 < (Tests.inMode ACTIVE : State).dies)) ∧
    (((Tests.inMode ACTIVE : State).dies ≤ 9)) :=
  ⟨by decide +kernel, by decide +kernel⟩
theorem witness_undervoltage :
    ((1 < 2)) ∧
    ((2 ≤ 2)) :=
  ⟨by decide +kernel, by decide +kernel⟩
theorem witness_lkLaneWrite :
    (((Tests.inMode ACTIVE : State).passes Tests.configure (putLane 3 ((F.LK_LANE_SLEEP.put 0 1) : W)).1 = true) ∧ (¬(isDataLane 3 = true ∧ (F.LK_LANE_MODE.of ((F.LK_LANE_SLEEP.put 0 1) : W) = 1 ∨ F.LK_LANE_MODE.of ((F.LK_LANE_SLEEP.put 0 1) : W) = 2) ∧ (Tests.inMode ACTIVE : State).caps.media = false)) ∧ (F.LK_LANE_LOOP.of ((F.LK_LANE_SLEEP.put 0 1) : W) ≠ 0 → (Tests.inMode ACTIVE : State).mode = SERVICE) ∧ (¬(isDataLane 3 = true ∧ F.LK_LANE_MODE.of ((F.LK_LANE_SLEEP.put 0 1) : W) ≠ F.LK_LANE_MODE.of ((Tests.inMode ACTIVE : State).word 0x4010 3 0) ∧ (Tests.inMode ACTIVE : State).laneCarries 3 = true)) ∧ (F.LK_LANE_SLEEP.of ((F.LK_LANE_SLEEP.put 0 1) : W) ≠ 0 → (Tests.inMode ACTIVE : State).sleepBusy 3 = false)) ∧
    ((({ Tests.inMode ACTIVE with caps := ⟨.sc4f, false⟩ } : State).passes Tests.configure (putLane 3 ((F.LK_LANE_MODE.put 0 1) : W)).1 = true) ∧ (isDataLane 3 = true ∧ (F.LK_LANE_MODE.of ((F.LK_LANE_MODE.put 0 1) : W) = 1 ∨ F.LK_LANE_MODE.of ((F.LK_LANE_MODE.put 0 1) : W) = 2) ∧ ({ Tests.inMode ACTIVE with caps := ⟨.sc4f, false⟩ } : State).caps.media = false)) ∧
    (((Tests.inMode ACTIVE : State).passes Tests.configure (putLane 3 ((F.LK_LANE_LOOP.put 0 1) : W)).1 = true) ∧ (¬(isDataLane 3 = true ∧ (F.LK_LANE_MODE.of ((F.LK_LANE_LOOP.put 0 1) : W) = 1 ∨ F.LK_LANE_MODE.of ((F.LK_LANE_LOOP.put 0 1) : W) = 2) ∧ (Tests.inMode ACTIVE : State).caps.media = false)) ∧ (F.LK_LANE_LOOP.of ((F.LK_LANE_LOOP.put 0 1) : W) ≠ 0) ∧ ((Tests.inMode ACTIVE : State).mode ≠ SERVICE)) ∧
    ((Tests.onePort.passes Tests.configure (putLane 0 ((F.LK_LANE_MODE.put 0 3) : W)).1 = true) ∧ (¬(isDataLane 0 = true ∧ (F.LK_LANE_MODE.of ((F.LK_LANE_MODE.put 0 3) : W) = 1 ∨ F.LK_LANE_MODE.of ((F.LK_LANE_MODE.put 0 3) : W) = 2) ∧ Tests.onePort.caps.media = false)) ∧ (F.LK_LANE_LOOP.of ((F.LK_LANE_MODE.put 0 3) : W) ≠ 0 → Tests.onePort.mode = SERVICE) ∧ ((isDataLane 0 = true ∧ F.LK_LANE_MODE.of ((F.LK_LANE_MODE.put 0 3) : W) ≠ F.LK_LANE_MODE.of (Tests.onePort.word 0x4010 0 0) ∧ Tests.onePort.laneCarries 0 = true) ∨ (F.LK_LANE_SLEEP.of ((F.LK_LANE_MODE.put 0 3) : W) ≠ 0 ∧ Tests.onePort.sleepBusy 0 = true))) :=
  ⟨by decide +kernel, by decide +kernel, by decide +kernel, by decide +kernel⟩
theorem witness_lkTxeqWrite : (((Tests.inMode ACTIVE : State).passes Tests.configure (putTxeq 80 (0 : W)).1 = true)) := by decide +kernel
theorem witness_spareCover :
    (((((Tests.inMode ACTIVE).setFld F.PW_DOMAIN_STATE (laneDomain (spareLane 8)) dmON) : State).passes Tests.maintain (putSpare 8 (withOp F.LK_SPARE_OP (0 : W) 1)).1 = true) ∧ ((((Tests.inMode ACTIVE).setFld F.PW_DOMAIN_STATE (laneDomain (spareLane 8)) dmON) : State).mode = STANDBY ∨ (((Tests.inMode ACTIVE).setFld F.PW_DOMAIN_STATE (laneDomain (spareLane 8)) dmON) : State).mode = ACTIVE) ∧ (¬((((Tests.inMode ACTIVE).setFld F.PW_DOMAIN_STATE (laneDomain (spareLane 8)) dmON) : State).spare 8 = spMIRROR ∨ (((Tests.inMode ACTIVE).setFld F.PW_DOMAIN_STATE (laneDomain (spareLane 8)) dmON) : State).spare 8 = spRELEASING ∨ (((Tests.inMode ACTIVE).setFld F.PW_DOMAIN_STATE (laneDomain (spareLane 8)) dmON) : State).laneMode (shroudElem (spareLane 8) (F.LK_SPARE_LANE.of (withOp F.LK_SPARE_OP (0 : W) 1))) ≠ 0 ∨ (((Tests.inMode ACTIVE).setFld F.PW_DOMAIN_STATE (laneDomain (spareLane 8)) dmON) : State).laneSleep (spareLane 8) ≠ 0 ∨ (((Tests.inMode ACTIVE).setFld F.PW_DOMAIN_STATE (laneDomain (spareLane 8)) dmON) : State).patternOn (spareLane 8) = true ∨ (((Tests.inMode ACTIVE).setFld F.PW_DOMAIN_STATE (laneDomain (spareLane 8)) dmON) : State).domain (laneDomain (spareLane 8)) ≠ dmON))) ∧
    (((Tests.inMode ACTIVE : State).passes Tests.maintain (putSpare 8 (withOp F.LK_SPARE_OP (0 : W) 1)).1 = true) ∧ ((Tests.inMode ACTIVE : State).mode = STANDBY ∨ (Tests.inMode ACTIVE : State).mode = ACTIVE) ∧ ((Tests.inMode ACTIVE : State).spare 8 = spMIRROR ∨ (Tests.inMode ACTIVE : State).spare 8 = spRELEASING ∨ (Tests.inMode ACTIVE : State).laneMode (shroudElem (spareLane 8) (F.LK_SPARE_LANE.of (withOp F.LK_SPARE_OP (0 : W) 1))) ≠ 0 ∨ (Tests.inMode ACTIVE : State).laneSleep (spareLane 8) ≠ 0 ∨ (Tests.inMode ACTIVE : State).patternOn (spareLane 8) = true ∨ (Tests.inMode ACTIVE : State).domain (laneDomain (spareLane 8)) ≠ dmON)) ∧
    (((Tests.inMode SERVICE : State).passes Tests.maintain (putSpare 8 (withOp F.LK_SPARE_OP (0 : W) 1)).1 = true) ∧ ((Tests.inMode SERVICE : State).mode ≠ STANDBY) ∧ ((Tests.inMode SERVICE : State).mode ≠ ACTIVE)) :=
  ⟨by decide +kernel, by decide +kernel, by decide +kernel⟩
theorem witness_spareRelease :
    ((((((Tests.inMode ACTIVE).setSpareRun ⟨8, 0, 16, none, 0⟩).setSpare 8 spMIRROR 0 16) : State).passes Tests.maintain (putSpare 8 (withOp F.LK_SPARE_OP (0 : W) 2)).1 = true) ∧ (((((Tests.inMode ACTIVE).setSpareRun ⟨8, 0, 16, none, 0⟩).setSpare 8 spMIRROR 0 16) : State).mode = STANDBY ∨ ((((Tests.inMode ACTIVE).setSpareRun ⟨8, 0, 16, none, 0⟩).setSpare 8 spMIRROR 0 16) : State).mode = ACTIVE) ∧ (((((Tests.inMode ACTIVE).setSpareRun ⟨8, 0, 16, none, 0⟩).setSpare 8 spMIRROR 0 16) : State).spare 8 = spMIRROR) ∧ ((((((Tests.inMode ACTIVE).setSpareRun ⟨8, 0, 16, none, 0⟩).setSpare 8 spMIRROR 0 16) : State).spareRun 8).map (·.pos) = some (F.LK_SPARE_LANE.of (withOp F.LK_SPARE_OP (0 : W) 2)))) ∧
    (((Tests.inMode ACTIVE : State).passes Tests.maintain (putSpare 8 (withOp F.LK_SPARE_OP (0 : W) 2)).1 = true) ∧ ((Tests.inMode ACTIVE : State).mode = STANDBY ∨ (Tests.inMode ACTIVE : State).mode = ACTIVE) ∧ ((Tests.inMode ACTIVE : State).spare 8 ≠ spMIRROR ∨ ((Tests.inMode ACTIVE : State).spareRun 8).map (·.pos) ≠ some (F.LK_SPARE_LANE.of (withOp F.LK_SPARE_OP (0 : W) 2)))) ∧
    (((Tests.inMode SERVICE : State).passes Tests.maintain (putSpare 8 (withOp F.LK_SPARE_OP (0 : W) 2)).1 = true) ∧ ((Tests.inMode SERVICE : State).mode ≠ STANDBY) ∧ ((Tests.inMode SERVICE : State).mode ≠ ACTIVE)) :=
  ⟨by decide +kernel, by decide +kernel, by decide +kernel⟩
theorem witness_prbsPatternWrite :
    (((Tests.inMode SERVICE : State).passes Tests.maintain (putPrbs 0 0 (if 0 = 0 then F.LK_PRBS_GO.put (F.LK_PRBS_SLIP.put ((F.LK_PRBS_PATTERN.put 0 5) : W) 0) 0 else ((F.LK_PRBS_PATTERN.put 0 5) : W)) []).1 = true) ∧ (0 = 0) ∧ (F.LK_PRBS_PATTERN.of ((F.LK_PRBS_PATTERN.put 0 5) : W) = 0 ∨ (Tests.inMode SERVICE : State).mayTest 0 = true)) ∧
    (((Tests.inMode ACTIVE : State).passes Tests.maintain (putPrbs 0 0 (if 0 = 0 then F.LK_PRBS_GO.put (F.LK_PRBS_SLIP.put ((F.LK_PRBS_PATTERN.put 0 5) : W) 0) 0 else ((F.LK_PRBS_PATTERN.put 0 5) : W)) []).1 = true) ∧ (0 = 0) ∧ (F.LK_PRBS_PATTERN.of ((F.LK_PRBS_PATTERN.put 0 5) : W) ≠ 0) ∧ ((Tests.inMode ACTIVE : State).mayTest 0 = false)) ∧
    (((Tests.inMode SERVICE : State).passes Tests.maintain (putPrbs 0 1 (if 1 = 0 then F.LK_PRBS_GO.put (F.LK_PRBS_SLIP.put (1 : W) 0) 0 else (1 : W)) []).1 = true) ∧ (1 = 1)) :=
  ⟨by decide +kernel, by decide +kernel, by decide +kernel⟩
theorem witness_prbsInject :
    (((Tests.inMode SERVICE : State).passes Tests.maintain (putPrbs 80 0 (F.LK_PRBS_GO.put ((F.LK_PRBS_INJECT.put 0 1) : W) 1) []).1 = true) ∧ ((Tests.inMode SERVICE : State).mayTest 80 = true) ∧ (laneRx 80 = false) ∧ (F.LK_PRBS_INJECT.of ((F.LK_PRBS_INJECT.put 0 1) : W) = 1 ∨ F.LK_PRBS_INJECT.of ((F.LK_PRBS_INJECT.put 0 1) : W) = 2) ∧ (F.LK_PRBS_PATTERN.of ((F.LK_PRBS_INJECT.put 0 1) : W) = F.LK_PRBS_PATTERN.of ((Tests.inMode SERVICE : State).word 0x4030 80 0))) ∧
    (((Tests.inMode ACTIVE : State).passes Tests.maintain (putPrbs 80 0 (F.LK_PRBS_GO.put ((F.LK_PRBS_PATTERN.put 0 5) : W) 1) []).1 = true) ∧ (F.LK_PRBS_PATTERN.of ((F.LK_PRBS_PATTERN.put 0 5) : W) ≠ 0) ∧ ((Tests.inMode ACTIVE : State).mayTest 80 = false)) :=
  ⟨by decide +kernel, by decide +kernel⟩
theorem witness_prbsSlip :
    (((Tests.inMode SERVICE : State).passes Tests.maintain (putPrbs 0 0 (F.LK_PRBS_SLIP.put (0 : W) 1) ([true] : List Bool)).1 = true) ∧ ((Tests.inMode SERVICE : State).mayTest 0 = true) ∧ (laneRx 0 = true) ∧ (F.LK_PRBS_PATTERN.of (0 : W) = F.LK_PRBS_PATTERN.of ((Tests.inMode SERVICE : State).word 0x4030 0 0)) ∧ (F.LK_PRBS_PINV.of (0 : W) = F.LK_PRBS_PINV.of ((Tests.inMode SERVICE : State).word 0x4030 0 0))) ∧
    (((Tests.inMode ACTIVE : State).passes Tests.maintain (putPrbs 0 0 (F.LK_PRBS_SLIP.put (0 : W) 1) ([true] : List Bool)).1 = true) ∧ ((Tests.inMode ACTIVE : State).mayTest 0 = false)) :=
  ⟨by decide +kernel, by decide +kernel⟩
theorem witness_rxHeaderBlock :
    ((laneRx 0 = true) ∧ (Tests.hunting.isIsarsal 0 = true) ∧ (Tests.hunting.lane 0 = laHUNT) ∧ (2 = 2 ∧ hdrOk ((Tests.header 1) : W) = true ∧ hdrType ((Tests.header 1) : W) ≠ 3) ∧ ((Tests.hunting.laneRun 0).cands.find? (fun x => x.pos == 12737) = some ((Cand.mk 12737 3 0) : Cand)) ∧ (((Cand.mk 12737 3 0) : Cand).count = 3) ∧ (sheetFollows ((Cand.mk 12737 3 0) : Cand).sheet (hdrSheet ((Tests.header 1) : W)) = true)) ∧
    ((laneRx 0 = true) ∧ (Tests.hunting.isIsarsal 0 = true) ∧ (Tests.hunting.lane 0 = laHUNT) ∧ (2 = 2 ∧ hdrOk ((Tests.header 2) : W) = true ∧ hdrType ((Tests.header 2) : W) ≠ 3) ∧ ((Tests.hunting.laneRun 0).cands.find? (fun x => x.pos == 12737) = some ((Cand.mk 12737 3 0) : Cand)) ∧ ((if sheetFollows ((Cand.mk 12737 3 0) : Cand).sheet (hdrSheet ((Tests.header 2) : W)) then ((Cand.mk 12737 3 0) : Cand).count + 1 else 1) < 4)) ∧
    ((laneRx 0 = true) ∧ (Tests.hunting.isIsarsal 0 = true) ∧ (Tests.hunting.lane 0 = laHUNT) ∧ (2 = 2 ∧ hdrOk ((Tests.header 1) : W) = true ∧ hdrType ((Tests.header 1) : W) ≠ 3) ∧ ((Tests.hunting.laneRun 0).cands.find? (fun x => x.pos == 5) = none) ∧ ((Tests.hunting.laneRun 0).cands.length < 8)) ∧
    ((laneRx 0 = true) ∧ (Tests.hunting.isIsarsal 0 = true) ∧ (Tests.hunting.lane 0 = laHUNT) ∧ (¬(1 = 2 ∧ hdrOk ((Tests.header 1) : W) = true ∧ hdrType ((Tests.header 1) : W) ≠ 3))) ∧
    ((laneRx 0 = true) ∧ ((((Tests.inMode ACTIVE).setFld F.LK_STAT_STATE 0 laLOCKED) : State).isIsarsal 0 = true) ∧ ((((Tests.inMode ACTIVE).setFld F.LK_STAT_STATE 0 laLOCKED) : State).lane 0 = laLOCKED ∨ (((Tests.inMode ACTIVE).setFld F.LK_STAT_STATE 0 laLOCKED) : State).lane 0 = laMISWIRED) ∧ (0 = ((((Tests.inMode ACTIVE).setFld F.LK_STAT_STATE 0 laLOCKED) : State).laneRun 0).pos) ∧ (2 = 2) ∧ (hdrOk ((Tests.header 1) : W) = true)) ∧
    ((laneRx 0 = true) ∧ ((((Tests.inMode ACTIVE).setFld F.LK_STAT_STATE 0 laLOCKED) : State).isIsarsal 0 = true) ∧ ((((Tests.inMode ACTIVE).setFld F.LK_STAT_STATE 0 laLOCKED) : State).lane 0 = laLOCKED ∨ (((Tests.inMode ACTIVE).setFld F.LK_STAT_STATE 0 laLOCKED) : State).lane 0 = laMISWIRED) ∧ (0 = ((((Tests.inMode ACTIVE).setFld F.LK_STAT_STATE 0 laLOCKED) : State).laneRun 0).pos) ∧ (¬(3 = 2 ∧ hdrOk ((Tests.header 1) : W) = true))) ∧
    ((laneRx 80 = false ∨ Tests.hunting.isIsarsal 80 = false ∨ (Tests.hunting.lane 80 ≠ laHUNT ∧ (Tests.hunting.lane 80 ≠ laLOCKED ∧ Tests.hunting.lane 80 ≠ laMISWIRED ∨ 12737 ≠ (Tests.hunting.laneRun 80).pos)))) :=
  ⟨by decide +kernel, by decide +kernel, by decide +kernel, by decide +kernel, by decide +kernel, by decide +kernel, by decide +kernel⟩
theorem witness_laneSignalLoss :
    ((laneRx 8 = true) ∧ (lanePos 8 ≠ 9) ∧ ((((Tests.inMode ACTIVE).setFld F.LK_STAT_STATE 8 laLOCKED) : State).lane 8 = laLOCKED ∨ (((Tests.inMode ACTIVE).setFld F.LK_STAT_STATE 8 laLOCKED) : State).lane 8 = laMISWIRED)) ∧
    ((laneRx 8 = true) ∧ (lanePos 8 ≠ 9) ∧ ((((Tests.inMode ACTIVE).setFld F.LK_STAT_STATE 8 laHUNT) : State).lane 8 = laHUNT ∨ (((Tests.inMode ACTIVE).setFld F.LK_STAT_STATE 8 laHUNT) : State).lane 8 = laACQUIRE)) ∧
    ((laneRx 9 = false ∨ lanePos 9 = 9 ∨ ¬((((Tests.inMode ACTIVE).setFld F.LK_STAT_STATE 8 laLOCKED) : State).lane 9 = laLOCKED ∨ (((Tests.inMode ACTIVE).setFld F.LK_STAT_STATE 8 laLOCKED) : State).lane 9 = laMISWIRED ∨ (((Tests.inMode ACTIVE).setFld F.LK_STAT_STATE 8 laLOCKED) : State).lane 9 = laHUNT ∨ (((Tests.inMode ACTIVE).setFld F.LK_STAT_STATE 8 laLOCKED) : State).lane 9 = laACQUIRE))) :=
  ⟨by decide +kernel, by decide +kernel, by decide +kernel⟩
theorem witness_laneSignalReturn :
    ((laneRx 8 = true) ∧ (lanePos 8 ≠ 9) ∧ ((((Tests.inMode ACTIVE).setFld F.LK_STAT_STATE 8 laLOS) : State).lane 8 = laLOS)) ∧
    ((laneRx 9 = false ∨ lanePos 9 = 9 ∨ (((Tests.inMode ACTIVE).setFld F.LK_STAT_STATE 8 laLOS) : State).lane 9 ≠ laLOS)) :=
  ⟨by decide +kernel, by decide +kernel⟩
theorem witness_laneTrainingDone :
    (((((Tests.inMode ACTIVE).setFld F.PW_DOMAIN_STATE 15 dmON).setFld F.LK_STAT_STATE 79 laACQUIRE : State).domain (0 * 32 + 8 + 7) = dmON) ∧ ((((Tests.inMode ACTIVE).setFld F.PW_DOMAIN_STATE 15 dmON).setFld F.LK_STAT_STATE 79 laACQUIRE : State).lane (0 * 160 + 7 * 10 + 9) = laACQUIRE)) ∧
    (((((Tests.inMode ACTIVE).setFld F.PW_DOMAIN_STATE 15 dmON).setFld F.LK_STAT_STATE 73 laACQUIRE : State).domain (0 * 32 + 8 + 7) = dmON) ∧ (3 < 9) ∧ ((((Tests.inMode ACTIVE).setFld F.PW_DOMAIN_STATE 15 dmON).setFld F.LK_STAT_STATE 73 laACQUIRE : State).lane (0 * 160 + 7 * 10 + 3) = laACQUIRE) ∧ ((((Tests.inMode ACTIVE).setFld F.PW_DOMAIN_STATE 15 dmON).setFld F.LK_STAT_STATE 73 laACQUIRE : State).isIsarsal (0 * 160 + 7 * 10 + 3) = true) ∧ ((([] : List Trained).any fun y => y.pos == 3) = false)) ∧
    ((((((Tests.inMode ACTIVE).setFld F.PW_DOMAIN_STATE 15 dmON).setFld F.LK_STAT_STATE 73 laACQUIRE).setFld F.LK_LANE_MODE 73 3 : State).domain (0 * 32 + 8 + 7) = dmON) ∧ (3 < 9) ∧ (((((Tests.inMode ACTIVE).setFld F.PW_DOMAIN_STATE 15 dmON).setFld F.LK_STAT_STATE 73 laACQUIRE).setFld F.LK_LANE_MODE 73 3 : State).lane (0 * 160 + 7 * 10 + 3) = laACQUIRE) ∧ (((((Tests.inMode ACTIVE).setFld F.PW_DOMAIN_STATE 15 dmON).setFld F.LK_STAT_STATE 73 laACQUIRE).setFld F.LK_LANE_MODE 73 3 : State).laneMode (0 * 160 + 7 * 10 + 3) = 3) ∧ (([Trained.mk 3 0 0 0 0 4 []] : List Trained).find? (fun y => y.pos == 3) = some ((Trained.mk 3 0 0 0 0 4 []) : Trained)) ∧ (1 ≤ ((Trained.mk 3 0 0 0 0 4 []) : Trained).rate) ∧ (((Trained.mk 3 0 0 0 0 4 []) : Trained).rate ≤ 8)) ∧
    (((Tests.inMode ACTIVE : State).domain (0 * 32 + 8 + 7) ≠ dmON)) :=
  ⟨by decide +kernel, by decide +kernel, by decide +kernel, by decide +kernel⟩
theorem witness_txeqStep :
    (((((Tests.walking) : State).laneRun 80).taps = some (0x1F001F001F001F00 : W)) ∧ (((Tests.walking) : State).sending 80 = true)) ∧
    ((((Tests.inMode ACTIVE : State).laneRun 80).taps = none ∨ (Tests.inMode ACTIVE : State).sending 80 = false)) :=
  ⟨by decide +kernel, by decide +kernel⟩
theorem witness_stayLos : ((laneRx 9 = true) ∧ (lanePos 9 = 9) ∧ ((((Tests.inMode ACTIVE).setFld F.LK_STAT_STATE 9 laLOCKED) : State).lane 9 = laLOCKED)) := by decide +kernel
theorem witness_stayReturn :
    ((laneRx 9 = true) ∧ (lanePos 9 = 9) ∧ ((((Tests.inMode ACTIVE).setFld F.LK_STAT_STATE 9 laLOS) : State).lane 9 = laLOS)) ∧
    ((laneRx 8 = false ∨ lanePos 8 ≠ 9 ∨ (((Tests.inMode ACTIVE).setFld F.LK_STAT_STATE 9 laLOS) : State).lane 8 ≠ laLOS)) :=
  ⟨by decide +kernel, by decide +kernel⟩
theorem witness_rxSheet : (((((Tests.inMode ACTIVE).setFld F.LK_STAT_STATE (laneElem true 0 63) laLOCKED) : State).enginesRun = true) ∧ ((((Tests.inMode ACTIVE).setFld F.LK_STAT_STATE (laneElem true 0 63) laLOCKED) : State).laneMode (laneElem true 0 63) = 0) ∧ ((((Tests.inMode ACTIVE).setFld F.LK_STAT_STATE (laneElem true 0 63) laLOCKED) : State).isOut .lane 0 (laneElem true 0 63) = false) ∧ ((((Tests.inMode ACTIVE).setFld F.LK_STAT_STATE (laneElem true 0 63) laLOCKED) : State).lane (laneElem true 0 63) = laLOCKED) ∧ ((((Tests.inMode ACTIVE).setFld F.LK_STAT_STATE (laneElem true 0 63) laLOCKED) : State).spare (spareElem (shroudElem (laneElem true 0 63) 8)) ≠ spSELECTED) ∧ (copyOk ((SheetCopy.mk (Tests.header 1) [(0, false)] 0) : SheetCopy) = true) ∧ (hdrType ((SheetCopy.mk (Tests.header 1) [(0, false)] 0) : SheetCopy).header = tyLIVE) ∧ ((((Tests.inMode ACTIVE).setFld F.LK_STAT_STATE (laneElem true 0 63) laLOCKED) : State).lanePaired 0 63 = false)) := by decide +kernel
theorem witness_rxEssenceFrame :
    ((Tests.onePort.enginesRun = true) ∧ (pValid (Tests.onePort.port Tests.onePort.rxTable 0) = true) ∧ (pLocal (Tests.onePort.port Tests.onePort.rxTable 0) = false) ∧ ((Tests.onePort.rxStream 0).skip = 0) ∧ (frameFits (Tests.onePort.port Tests.onePort.rxTable 0) ((Tests.frameHeader) : W) = true) ∧ (([0, 0] : List W).length = payloadWords ((Tests.frameHeader) : W) (Tests.onePort.port Tests.onePort.rxTable 0) ([0, 0] : List W))) ∧
    ((Tests.onePort.enginesRun = true) ∧ (pValid (Tests.onePort.port Tests.onePort.rxTable 0) = true) ∧ (pLocal (Tests.onePort.port Tests.onePort.rxTable 0) = false) ∧ ((Tests.onePort.rxStream 0).skip = 0) ∧ ((Tests.onePort.rxStream 0).hunt = false) ∧ ((1 : W) ≠ 0) ∧ (hdrOk (1 : W) = false) ∧ (([] : List W) = [])) ∧
    ((State.reset.enginesRun = false)) :=
  ⟨by decide +kernel, by decide +kernel, by decide +kernel⟩
theorem witness_meshGroupFail :
    ((7 ≠ 0) ∧ (max 7 0 < State.reset.dies)) ∧
    ((7 = 7 ∨ State.reset.dies ≤ max 7 7)) :=
  ⟨by decide +kernel, by decide +kernel⟩
theorem witness_twinSilentSheets :
    (((Tests.twin syncLOCKSTEP 1 : State).paired = true)) ∧
    (((Tests.inMode ACTIVE : State).paired = false)) :=
  ⟨by decide +kernel, by decide +kernel⟩
theorem witness_decisionAckTimeout :
    ((({ Tests.twin syncLOCKSTEP 1 with tw := { State.reset.tw with unacked := [(4, 0)] } } : State).tw.unacked.find? (fun x => x.1 == 4) = some (4, 0))) ∧
    (((Tests.twin syncLOCKSTEP 1 : State).tw.unacked.find? (fun x => x.1 == 4) = none)) :=
  ⟨by decide +kernel, by decide +kernel⟩
theorem witness_twinDecisionAck :
    ((({ Tests.twin syncLOCKSTEP 1 with tw := { State.reset.tw with unacked := [(4, 0)] } } : State).hearsDecision ⟨1, false, .ack 4⟩ = true) ∧ (({ Tests.twin syncLOCKSTEP 1 with tw := { State.reset.tw with unacked := [(4, 0)] } } : State).decides = true)) ∧
    (((Tests.inMode ACTIVE : State).hearsDecision ⟨1, false, .ack 4⟩ = false ∨ (Tests.inMode ACTIVE : State).decides = false)) :=
  ⟨by decide +kernel, by decide +kernel⟩
theorem witness_twinDecisionTake :
    (((Tests.twin syncLOCKSTEP 0 : State).hearsDecision ⟨1, false, .work (Tests.take tsPENDING : Work)⟩ = true) ∧ ((Tests.twin syncLOCKSTEP 0 : State).decides = false) ∧ ((Tests.take tsPENDING : Work).kind = .take) ∧ ((Tests.take tsPENDING : Work).state = tsPENDING)) ∧
    (((Tests.twin syncLOCKSTEP 1 : State).hearsDecision ⟨1, false, .work (Tests.take tsPENDING : Work)⟩ = false ∨ (Tests.twin syncLOCKSTEP 1 : State).decides = true)) :=
  ⟨by decide +kernel, by decide +kernel⟩
theorem witness_twinDecisionReport :
    (((Tests.twin syncLOCKSTEP 0 : State).paired = true)) ∧
    (((Tests.inMode ACTIVE : State).paired = false)) :=
  ⟨by decide +kernel, by decide +kernel⟩
theorem witness_snapshotRequest :
    ((true = true) ∧ ((Tests.twin syncMIRRORING 0 : State).sync = syncMIRRORING) ∧ ((Tests.twin syncMIRRORING 0 : State).decides = false)) ∧
    ((false = false) ∧ ((Tests.twin syncLOCKSTEP 1 : State).paired = true) ∧ ((Tests.twin syncLOCKSTEP 1 : State).decides = true) ∧ ((Tests.twin syncLOCKSTEP 1 : State).fld F.TW_STATE_LINK 0 = 1)) ∧
    ((if true then ¬((Tests.twin syncLOCKSTEP 1 : State).sync = syncMIRRORING ∧ (Tests.twin syncLOCKSTEP 1 : State).decides = false) else ¬((Tests.twin syncLOCKSTEP 1 : State).paired = true ∧ (Tests.twin syncLOCKSTEP 1 : State).decides = true ∧ (Tests.twin syncLOCKSTEP 1 : State).fld F.TW_STATE_LINK 0 = 1))) :=
  ⟨by decide +kernel, by decide +kernel, by decide +kernel⟩
theorem witness_snapshotReceived :
    (((({ Tests.twin syncMIRRORING 0 with tw := { State.reset.tw with asked := true } } : State).tw.asked && ({ Tests.twin syncMIRRORING 0 with tw := { State.reset.tw with asked := true } } : State).sync == syncMIRRORING) = true) ∧ (({ ({ Tests.twin syncMIRRORING 0 with tw := { State.reset.tw with asked := true } } : State) with tw := { ({ Tests.twin syncMIRRORING 0 with tw := { State.reset.tw with asked := true } } : State).tw with ident := some (⟨[], [], [(7, Dest.mk 3 0 0 3 false false 3 0)], [], 5⟩ : Snapshot).ident } }).otherBundle = false)) ∧
    (((({ ((Tests.twin syncMIRRORING 0).setFld F.FW_STATE_STATE 0 fwTRIAL) with tw := { State.reset.tw with asked := true } } : State).tw.asked && ({ ((Tests.twin syncMIRRORING 0).setFld F.FW_STATE_STATE 0 fwTRIAL) with tw := { State.reset.tw with asked := true } } : State).sync == syncMIRRORING) = true) ∧ (({ ({ ((Tests.twin syncMIRRORING 0).setFld F.FW_STATE_STATE 0 fwTRIAL) with tw := { State.reset.tw with asked := true } } : State) with tw := { ({ ((Tests.twin syncMIRRORING 0).setFld F.FW_STATE_STATE 0 fwTRIAL) with tw := { State.reset.tw with asked := true } } : State).tw with ident := some (⟨[], [], [], [], 5⟩ : Snapshot).ident } }).otherBundle = true)) ∧
    ((((Tests.twin syncLOCKSTEP 1 : State).tw.asked && (Tests.twin syncLOCKSTEP 1 : State).sync == syncMIRRORING) = false)) :=
  ⟨by decide +kernel, by decide +kernel, by decide +kernel⟩
theorem witness_mirrorStoresFull :
    ((({ Tests.twin syncMIRRORING 0 with tw := { State.reset.tw with installed := true, equal := 9 } } : State).sync = syncMIRRORING ∧ (({ Tests.twin syncMIRRORING 0 with tw := { State.reset.tw with installed := true, equal := 9 } } : State).decides = true ∨ (({ Tests.twin syncMIRRORING 0 with tw := { State.reset.tw with installed := true, equal := 9 } } : State).tw.installed = true ∧ ({ Tests.twin syncMIRRORING 0 with tw := { State.reset.tw with installed := true, equal := 9 } } : State).headsReady = true)))) ∧
    ((¬((Tests.twin syncLOCKSTEP 1 : State).sync = syncMIRRORING ∧ ((Tests.twin syncLOCKSTEP 1 : State).decides = true ∨ ((Tests.twin syncLOCKSTEP 1 : State).tw.installed = true ∧ (Tests.twin syncLOCKSTEP 1 : State).headsReady = true))))) :=
  ⟨by decide +kernel, by decide +kernel⟩
theorem witness_twPairWrite :
    ((Tests.edge.passes Tests.configure (putPair 1 ((F.TW_PAIR_BLANE.put (F.TW_PAIR_VALID.put 0 1) 5) : W) Tests.edge).1 = true) ∧ (¬(Tests.edge.sys.role ≠ CORE ∧ F.TW_PAIR_VALID.of ((F.TW_PAIR_BLANE.put (F.TW_PAIR_VALID.put 0 1) 5) : W) = 1 ∧ Tests.edge.pairNames 1 (F.TW_PAIR_BDIE.of ((F.TW_PAIR_BLANE.put (F.TW_PAIR_VALID.put 0 1) 5) : W), F.TW_PAIR_BLANE.of ((F.TW_PAIR_BLANE.put (F.TW_PAIR_VALID.put 0 1) 5) : W)) = true)) ∧ (¬(Tests.edge.sys.role ≠ CORE ∧ Tests.edge.pairInUse 1 = true))) ∧
    ((Tests.edge.passes Tests.configure (putPair 1 ((F.TW_PAIR_BLANE.put (F.TW_PAIR_VALID.put 0 1) 0) : W) Tests.edge).1 = true) ∧ (Tests.edge.sys.role ≠ CORE ∧ F.TW_PAIR_VALID.of ((F.TW_PAIR_BLANE.put (F.TW_PAIR_VALID.put 0 1) 0) : W) = 1 ∧ Tests.edge.pairNames 1 (F.TW_PAIR_BDIE.of ((F.TW_PAIR_BLANE.put (F.TW_PAIR_VALID.put 0 1) 0) : W), F.TW_PAIR_BLANE.of ((F.TW_PAIR_BLANE.put (F.TW_PAIR_VALID.put 0 1) 0) : W)) = true)) ∧
    (((Tests.edge.setWord 0x2818 0 0 (F.ES_PORT_LANE.put Tests.portWord 1) : State).passes Tests.configure (putPair 1 (0 : W) (Tests.edge.setWord 0x2818 0 0 (F.ES_PORT_LANE.put Tests.portWord 1) : State)).1 = true) ∧ (¬((Tests.edge.setWord 0x2818 0 0 (F.ES_PORT_LANE.put Tests.portWord 1) : State).sys.role ≠ CORE ∧ F.TW_PAIR_VALID.of (0 : W) = 1 ∧ (Tests.edge.setWord 0x2818 0 0 (F.ES_PORT_LANE.put Tests.portWord 1) : State).pairNames 1 (F.TW_PAIR_BDIE.of (0 : W), F.TW_PAIR_BLANE.of (0 : W)) = true)) ∧ ((Tests.edge.setWord 0x2818 0 0 (F.ES_PORT_LANE.put Tests.portWord 1) : State).sys.role ≠ CORE ∧ (Tests.edge.setWord 0x2818 0 0 (F.ES_PORT_LANE.put Tests.portWord 1) : State).pairInUse 1 = true)) :=
  ⟨by decide +kernel, by decide +kernel, by decide +kernel⟩
theorem witness_pairSheetRelease :
    ((Tests.edge.pairOf true (0 / 64) (0 % 64) = some ((0, 1) : Nat × Nat)) ∧ (0 = selectCopy (Tests.edge.eligible (0 / 64, 0 % 64) (Tests.edge.pairCopies 0 none none).2.1) (Tests.edge.eligible ((0, 1) : Nat × Nat) (Tests.edge.pairCopies 0 none none).2.2) (Tests.edge.pairCopies 0 none none).2.1 (Tests.edge.pairCopies 0 none none).2.2)) ∧
    (((Tests.inMode ACTIVE : State).pairOf true (0 / 64) (0 % 64) = none)) :=
  ⟨by decide +kernel, by decide +kernel⟩
theorem witness_healthReport :
    (((Tests.twin syncLOCKSTEP 1 : State).paired = true)) ∧
    (((Tests.inMode ACTIVE : State).paired = false)) :=
  ⟨by decide +kernel, by decide +kernel⟩
theorem witness_twinReportTimeout :
    ((({ Tests.twin syncLOCKSTEP 1 with tw := { State.reset.tw with reportAt := some 5 } } : State).tw.reportAt = some 5) ∧ (({ Tests.twin syncLOCKSTEP 1 with tw := { State.reset.tw with reportAt := some 5 } } : State).paired = true) ∧ (({ Tests.twin syncLOCKSTEP 1 with tw := { State.reset.tw with reportAt := some 5 } } : State).tw.silentNoted = false)) ∧
    (((Tests.inMode ACTIVE : State).tw.reportAt = none ∨ (Tests.inMode ACTIVE : State).paired = false ∨ (Tests.inMode ACTIVE : State).tw.silentNoted = true)) :=
  ⟨by decide +kernel, by decide +kernel⟩
theorem witness_selftestEngine :
    (((((Tests.inMode STANDBY).setFld F.TW_CONFIG_STENG 0 1).setFld F.IC_ENGINE_STATE 3 engSPARE : State).selfTests = true ∧ (((Tests.inMode STANDBY).setFld F.TW_CONFIG_STENG 0 1).setFld F.IC_ENGINE_STATE 3 engSPARE : State).fld F.TW_CONFIG_STENG 0 = 1) ∧ (([3] : List Nat) = [3]) ∧ (3 < (((Tests.inMode STANDBY).setFld F.TW_CONFIG_STENG 0 1).setFld F.IC_ENGINE_STATE 3 engSPARE : State).dies * 24) ∧ (isEssence 3 = true) ∧ ((((Tests.inMode STANDBY).setFld F.TW_CONFIG_STENG 0 1).setFld F.IC_ENGINE_STATE 3 engSPARE : State).engine 3 = engSPARE)) ∧
    ((¬((Tests.inMode ACTIVE : State).selfTests = true ∧ (Tests.inMode ACTIVE : State).fld F.TW_CONFIG_STENG 0 = 1))) :=
  ⟨by decide +kernel, by decide +kernel⟩
theorem witness_engineMove :
    (((((Tests.inMode STANDBY).setFld F.IC_ENGINE_STATE 3 engACTIVE).setFld F.IC_ENGINE_STATE 0 engSPARE : State).passes Tests.maintain (putEngCmd 3 (F.IC_ENG_CMD_COMMAND.put (0 : W) 1)).1 = true) ∧ ((((Tests.inMode STANDBY).setFld F.IC_ENGINE_STATE 3 engACTIVE).setFld F.IC_ENGINE_STATE 0 engSPARE : State).admits = true) ∧ ((((Tests.inMode STANDBY).setFld F.IC_ENGINE_STATE 3 engACTIVE).setFld F.IC_ENGINE_STATE 0 engSPARE : State).handingOver = false) ∧ ((((Tests.inMode STANDBY).setFld F.IC_ENGINE_STATE 3 engACTIVE).setFld F.IC_ENGINE_STATE 0 engSPARE : State).engine 3 = engACTIVE) ∧ ((((Tests.inMode STANDBY).setFld F.IC_ENGINE_STATE 3 engACTIVE).setFld F.IC_ENGINE_STATE 0 engSPARE : State).spareEngine (engDie 3) = some 0)) ∧
    ((((Tests.inMode STANDBY).setFld F.IC_ENGINE_STATE 3 engTESTING : State).passes Tests.maintain (putEngCmd 3 (F.IC_ENG_CMD_COMMAND.put (0 : W) 1)).1 = true) ∧ (((Tests.inMode STANDBY).setFld F.IC_ENGINE_STATE 3 engTESTING : State).admits = true) ∧ (((Tests.inMode STANDBY).setFld F.IC_ENGINE_STATE 3 engTESTING : State).handingOver = true ∨ ((Tests.inMode STANDBY).setFld F.IC_ENGINE_STATE 3 engTESTING : State).engine 3 ≠ engACTIVE ∨ ((Tests.inMode STANDBY).setFld F.IC_ENGINE_STATE 3 engTESTING : State).spareEngine (engDie 3) = none)) ∧
    ((((Tests.inMode SERVICE) : State).passes Tests.maintain (putEngCmd 3 (F.IC_ENG_CMD_COMMAND.put (0 : W) 1)).1 = true) ∧ (((Tests.inMode SERVICE) : State).admits = false)) :=
  ⟨by decide +kernel, by decide +kernel, by decide +kernel⟩
theorem witness_engineRetire :
    (((((Tests.inMode STANDBY).setFld F.IC_ENGINE_STATE 3 engACTIVE).setFld F.IC_ENGINE_STATE 0 engSPARE : State).passes Tests.maintain (putEngCmd 3 (F.IC_ENG_CMD_COMMAND.put (0 : W) 2)).1 = true) ∧ ((((Tests.inMode STANDBY).setFld F.IC_ENGINE_STATE 3 engACTIVE).setFld F.IC_ENGINE_STATE 0 engSPARE : State).admits = true) ∧ ((((Tests.inMode STANDBY).setFld F.IC_ENGINE_STATE 3 engACTIVE).setFld F.IC_ENGINE_STATE 0 engSPARE : State).handingOver = false) ∧ ((((Tests.inMode STANDBY).setFld F.IC_ENGINE_STATE 3 engACTIVE).setFld F.IC_ENGINE_STATE 0 engSPARE : State).spareEngine (engDie 3) = some 0) ∧ (isEssence 3 = true) ∧ ((((Tests.inMode STANDBY).setFld F.IC_ENGINE_STATE 3 engACTIVE).setFld F.IC_ENGINE_STATE 0 engSPARE : State).engine 3 = engACTIVE ∨ (((Tests.inMode STANDBY).setFld F.IC_ENGINE_STATE 3 engACTIVE).setFld F.IC_ENGINE_STATE 0 engSPARE : State).engine 3 = engSPARE)) ∧
    ((((Tests.inMode STANDBY).setFld F.IC_ENGINE_STATE 3 engTESTING : State).passes Tests.maintain (putEngCmd 3 (F.IC_ENG_CMD_COMMAND.put (0 : W) 2)).1 = true) ∧ (((Tests.inMode STANDBY).setFld F.IC_ENGINE_STATE 3 engTESTING : State).admits = true) ∧ (((Tests.inMode STANDBY).setFld F.IC_ENGINE_STATE 3 engTESTING : State).handingOver = true ∨ (isEssence 3 = true ∧ ((Tests.inMode STANDBY).setFld F.IC_ENGINE_STATE 3 engTESTING : State).engine 3 ≠ engACTIVE ∧ ((Tests.inMode STANDBY).setFld F.IC_ENGINE_STATE 3 engTESTING : State).engine 3 ≠ engSPARE) ∨ ((Tests.inMode STANDBY).setFld F.IC_ENGINE_STATE 3 engTESTING : State).spareEngine (engDie 3) = none)) ∧
    ((((Tests.inMode SERVICE) : State).passes Tests.maintain (putEngCmd 3 (F.IC_ENG_CMD_COMMAND.put (0 : W) 2)).1 = true) ∧ (((Tests.inMode SERVICE) : State).admits = false)) ∧
    (((((((Tests.inMode STANDBY).setFld F.IC_ENGINE_STATE 18 engACTIVE).setFld F.IC_ENGINE_STATE 19 engACTIVE).setFld F.IC_ENGINE_STATE 20 engACTIVE).setFld F.IC_ENGINE_STATE 0 engSPARE : State).passes Tests.maintain (putEngCmd 18 (F.IC_ENG_CMD_COMMAND.put (0 : W) 2)).1 = true) ∧ ((((((Tests.inMode STANDBY).setFld F.IC_ENGINE_STATE 18 engACTIVE).setFld F.IC_ENGINE_STATE 19 engACTIVE).setFld F.IC_ENGINE_STATE 20 engACTIVE).setFld F.IC_ENGINE_STATE 0 engSPARE : State).admits = true) ∧ ((((((Tests.inMode STANDBY).setFld F.IC_ENGINE_STATE 18 engACTIVE).setFld F.IC_ENGINE_STATE 19 engACTIVE).setFld F.IC_ENGINE_STATE 20 engACTIVE).setFld F.IC_ENGINE_STATE 0 engSPARE : State).handingOver = false) ∧ ((((((Tests.inMode STANDBY).setFld F.IC_ENGINE_STATE 18 engACTIVE).setFld F.IC_ENGINE_STATE 19 engACTIVE).setFld F.IC_ENGINE_STATE 20 engACTIVE).setFld F.IC_ENGINE_STATE 0 engSPARE : State).spareEngine (engDie 18) ≠ none) ∧ (isMix 18 = true) ∧ ((((((Tests.inMode STANDBY).setFld F.IC_ENGINE_STATE 18 engACTIVE).setFld F.IC_ENGINE_STATE 19 engACTIVE).setFld F.IC_ENGINE_STATE 20 engACTIVE).setFld F.IC_ENGINE_STATE 0 engSPARE : State).engine 18 = engACTIVE) ∧ (3 ≤ ((((((Tests.inMode STANDBY).setFld F.IC_ENGINE_STATE 18 engACTIVE).setFld F.IC_ENGINE_STATE 19 engACTIVE).setFld F.IC_ENGINE_STATE 20 engACTIVE).setFld F.IC_ENGINE_STATE 0 engSPARE : State).mixes (engDie 18)).length)) :=
  ⟨by decide +kernel, by decide +kernel, by decide +kernel, by decide +kernel⟩
theorem witness_engineRestore :
    ((((Tests.inMode STANDBY).setFld F.IC_ENGINE_STATE 3 engFAILED : State).passes Tests.maintain (putEngCmd 3 (F.IC_ENG_CMD_COMMAND.put (0 : W) 3)).1 = true) ∧ (((Tests.inMode STANDBY).setFld F.IC_ENGINE_STATE 3 engFAILED : State).admits = true) ∧ (((Tests.inMode STANDBY).setFld F.IC_ENGINE_STATE 3 engFAILED : State).handingOver = false) ∧ (((Tests.inMode STANDBY).setFld F.IC_ENGINE_STATE 3 engFAILED : State).engine 3 = engFAILED)) ∧
    ((((Tests.inMode STANDBY).setFld F.IC_ENGINE_STATE 3 engTESTING : State).passes Tests.maintain (putEngCmd 3 (F.IC_ENG_CMD_COMMAND.put (0 : W) 3)).1 = true) ∧ (((Tests.inMode STANDBY).setFld F.IC_ENGINE_STATE 3 engTESTING : State).admits = true) ∧ (((Tests.inMode STANDBY).setFld F.IC_ENGINE_STATE 3 engTESTING : State).handingOver = true ∨ ((Tests.inMode STANDBY).setFld F.IC_ENGINE_STATE 3 engTESTING : State).engine 3 ≠ engFAILED)) ∧
    ((((Tests.inMode SERVICE) : State).passes Tests.maintain (putEngCmd 3 (F.IC_ENG_CMD_COMMAND.put (0 : W) 3)).1 = true) ∧ (((Tests.inMode SERVICE) : State).admits = false)) :=
  ⟨by decide +kernel, by decide +kernel, by decide +kernel⟩
theorem witness_engineTest :
    ((((Tests.inMode STANDBY).setFld F.IC_ENGINE_STATE 3 engSPARE : State).passes Tests.maintain (putEngCmd 3 (F.IC_ENG_CMD_COMMAND.put (0 : W) 4)).1 = true) ∧ (((Tests.inMode STANDBY).setFld F.IC_ENGINE_STATE 3 engSPARE : State).admits = true) ∧ (((Tests.inMode STANDBY).setFld F.IC_ENGINE_STATE 3 engSPARE : State).handingOver = false) ∧ (((Tests.inMode STANDBY).setFld F.IC_ENGINE_STATE 3 engSPARE : State).engine 3 = engSPARE)) ∧
    ((((Tests.inMode STANDBY).setFld F.IC_ENGINE_STATE 3 engTESTING : State).passes Tests.maintain (putEngCmd 3 (F.IC_ENG_CMD_COMMAND.put (0 : W) 4)).1 = true) ∧ (((Tests.inMode STANDBY).setFld F.IC_ENGINE_STATE 3 engTESTING : State).admits = true) ∧ (((Tests.inMode STANDBY).setFld F.IC_ENGINE_STATE 3 engTESTING : State).handingOver = true ∨ ((Tests.inMode STANDBY).setFld F.IC_ENGINE_STATE 3 engTESTING : State).engine 3 ≠ engSPARE)) ∧
    ((((Tests.inMode SERVICE) : State).passes Tests.maintain (putEngCmd 3 (F.IC_ENG_CMD_COMMAND.put (0 : W) 4)).1 = true) ∧ (((Tests.inMode SERVICE) : State).admits = false)) :=
  ⟨by decide +kernel, by decide +kernel, by decide +kernel⟩
theorem witness_engineTestDone :
    ((((Tests.inMode STANDBY).setFld F.IC_ENGINE_STATE 3 engTESTING : State).engine 3 = engTESTING) ∧ (true = true)) ∧
    ((({ (Tests.inMode STANDBY).setFld F.IC_ENGINE_STATE 3 engTESTING with ic := { State.reset.ic with restoring := [3] } } : State).engine 3 = engTESTING) ∧ (false = false) ∧ (({ (Tests.inMode STANDBY).setFld F.IC_ENGINE_STATE 3 engTESTING with ic := { State.reset.ic with restoring := [3] } } : State).ic.restoring.contains 3 = true)) ∧
    ((((Tests.inMode STANDBY).setFld F.IC_ENGINE_STATE 3 engSPARE : State).engine 3 ≠ engTESTING)) :=
  ⟨by decide +kernel, by decide +kernel, by decide +kernel⟩
theorem witness_engineFail :
    ((engDie 3 < ((Tests.inMode STANDBY).setFld F.IC_ENGINE_STATE 3 engSPARE : State).dies) ∧ (isEssence 3 = true) ∧ (((Tests.inMode STANDBY).setFld F.IC_ENGINE_STATE 3 engSPARE : State).engine 3 ≠ engFAILED) ∧ (((Tests.inMode STANDBY).setFld F.IC_ENGINE_STATE 3 engSPARE : State).sys.isolated.contains (engDie 3) = false) ∧ ((((Tests.inMode STANDBY).setFld F.IC_ENGINE_STATE 3 engSPARE : State).ic.place.any fun x => x.2.2 == 3) = false)) ∧
    ((((Tests.inMode STANDBY).setFld F.IC_ENGINE_STATE 3 engFAILED : State).dies ≤ engDie 3 ∨ ((Tests.inMode STANDBY).setFld F.IC_ENGINE_STATE 3 engFAILED : State).engine 3 = engFAILED ∨ ((Tests.inMode STANDBY).setFld F.IC_ENGINE_STATE 3 engFAILED : State).sys.isolated.contains (engDie 3) = true)) :=
  ⟨by decide +kernel, by decide +kernel⟩
theorem witness_crcStart :
    (((Tests.inMode ACTIVE : State).passes Tests.configure (putCrc (Tests.inMode ACTIVE : State) Tests.configure 0 ((Tests.inMode ACTIVE : State).crcWrites 0 ([F.IC_CRC_INDEX.put (F.IC_CRC_SRC.put 0 1) 0x2010, F.IC_CRC_WIDTH.put 0 32, 0, 0, 0, 0, 1] : List W))).1 = true) ∧ ((Tests.inMode ACTIVE : State).crcSource Tests.configure 0 ((Tests.inMode ACTIVE : State).crcWrites 0 ([F.IC_CRC_INDEX.put (F.IC_CRC_SRC.put 0 1) 0x2010, F.IC_CRC_WIDTH.put 0 32, 0, 0, 0, 0, 1] : List W)) = none) ∧ ((Tests.inMode ACTIVE : State).fld F.IC_CRC_STATE 0 ≠ crRUNNING)) ∧
    ((((Tests.inMode ACTIVE).setFld F.IC_CRC_STATE 0 crRUNNING : State).passes Tests.configure (putCrc ((Tests.inMode ACTIVE).setFld F.IC_CRC_STATE 0 crRUNNING : State) Tests.configure 0 (((Tests.inMode ACTIVE).setFld F.IC_CRC_STATE 0 crRUNNING : State).crcWrites 0 ([F.IC_CRC_INDEX.put (F.IC_CRC_SRC.put 0 1) 0x2010, F.IC_CRC_WIDTH.put 0 32, 0, 0, 0, 0, 1] : List W))).1 = true) ∧ (((Tests.inMode ACTIVE).setFld F.IC_CRC_STATE 0 crRUNNING : State).crcSource Tests.configure 0 (((Tests.inMode ACTIVE).setFld F.IC_CRC_STATE 0 crRUNNING : State).crcWrites 0 ([F.IC_CRC_INDEX.put (F.IC_CRC_SRC.put 0 1) 0x2010, F.IC_CRC_WIDTH.put 0 32, 0, 0, 0, 0, 1] : List W)) = none) ∧ (((Tests.inMode ACTIVE).setFld F.IC_CRC_STATE 0 crRUNNING : State).fld F.IC_CRC_STATE 0 = crRUNNING)) ∧
    (((Tests.inMode ACTIVE : State).passes Tests.configure (putCrc (Tests.inMode ACTIVE : State) Tests.configure 0 ((Tests.inMode ACTIVE : State).crcWrites 0 ([F.IC_CRC_INDEX.put (F.IC_CRC_SRC.put 0 0) 0, F.IC_CRC_WIDTH.put 0 32, 0, 0, 0, 0, 1] : List W))).1 = true) ∧ ((Tests.inMode ACTIVE : State).crcSource Tests.configure 0 ((Tests.inMode ACTIVE : State).crcWrites 0 ([F.IC_CRC_INDEX.put (F.IC_CRC_SRC.put 0 0) 0, F.IC_CRC_WIDTH.put 0 32, 0, 0, 0, 0, 1] : List W)) ≠ none)) :=
  ⟨by decide +kernel, by decide +kernel, by decide +kernel⟩
theorem witness_crcAbort :
    ((((Tests.inMode ACTIVE).setFld F.IC_CRC_STATE 0 crRUNNING : State).passes Tests.configure (putCrc ((Tests.inMode ACTIVE).setFld F.IC_CRC_STATE 0 crRUNNING : State) Tests.configure 0 [(0, F.IC_CRC_OP.put (0 : W) 2)]).1 = true) ∧ (((Tests.inMode ACTIVE).setFld F.IC_CRC_STATE 0 crRUNNING : State).fld F.IC_CRC_STATE 0 = crRUNNING)) ∧
    (((Tests.inMode ACTIVE : State).passes Tests.configure (putCrc (Tests.inMode ACTIVE : State) Tests.configure 0 [(0, F.IC_CRC_OP.put (0 : W) 2)]).1 = true) ∧ ((Tests.inMode ACTIVE : State).fld F.IC_CRC_STATE 0 ≠ crRUNNING)) :=
  ⟨by decide +kernel, by decide +kernel⟩
theorem witness_crcJobDone :
    ((0 < ((Tests.inMode ACTIVE).setFld F.IC_CRC_STATE 0 crRUNNING : State).dies) ∧ (4 ≤ 4) ∧ (4 < 8) ∧ (((Tests.inMode ACTIVE).setFld F.IC_CRC_STATE 0 crRUNNING : State).fld F.IC_CRC_STATE (0 * 4 + (4 - 4)) = crRUNNING)) ∧
    (((Tests.inMode ACTIVE : State).dies ≤ 0 ∨ 8 ≤ 4 ∨ (4 ≤ 4 ∧ (Tests.inMode ACTIVE : State).fld F.IC_CRC_STATE (0 * 4 + (4 - 4)) ≠ crRUNNING))) :=
  ⟨by decide +kernel, by decide +kernel⟩
theorem witness_decodeError :
    ((State.reset.masterSilent 0 = false) ∧ (0 < State.reset.dies) ∧ (State.reset.decodeFails 0 ({ addr := 0xC000000000, len := 8, write := false, excl := false, data := [] } : Access) = true) ∧ (State.reset.targetAt 0 ({ addr := 0xC000000000, len := 8, write := false, excl := false, data := [] } : Access).addr = some 4)) ∧
    ((State.reset.masterSilent 0 = false) ∧ (0 < State.reset.dies) ∧ (State.reset.decodeFails 0 ({ addr := 0x40000000, len := 8, write := false, excl := false, data := [] } : Access) = true) ∧ (State.reset.targetAt 0 ({ addr := 0x40000000, len := 8, write := false, excl := false, data := [] } : Access).addr = none)) ∧
    ((State.reset.masterSilent 12 = true ∨ State.reset.dies ≤ 0)) :=
  ⟨by decide +kernel, by decide +kernel, by decide +kernel⟩
theorem witness_burstAbort :
    ((State.reset.masterSilent ({ master := 2, target := 3, write := true, done := 1, total := 4, failed := true, addr := 77, data := [] } : Burst).master = false) ∧ (1 < State.reset.dies) ∧ (({ master := 2, target := 3, write := true, done := 1, total := 4, failed := true, addr := 77, data := [] } : Burst).target < 10) ∧ (1 < ((State.reset.runCrossbar.expireMonitors State.reset.now).beatsDone 1 ({ master := 2, target := 3, write := true, done := 1, total := 4, failed := true, addr := 77, data := [] } : Burst)).ic.abortNext.length)) ∧
    ((State.reset.masterSilent ({ master := 2, target := 3, write := true, done := 1, total := 4, failed := true, addr := 77, data := [] } : Burst).master = true ∨ State.reset.dies ≤ 9 ∨ 10 ≤ ({ master := 2, target := 3, write := true, done := 1, total := 4, failed := true, addr := 77, data := [] } : Burst).target)) :=
  ⟨by decide +kernel, by decide +kernel⟩
theorem witness_exclMonitorExpire :
    ((({ State.reset with ic := { State.reset.ic with monitors := [⟨1, 2, 3, 9, 0⟩] } } : State).ic.monitors.find? (fun y => y.die == 1 && y.master == 2 && y.target == 3) = some (⟨1, 2, 3, 9, 0⟩ : Monitor))) ∧
    ((State.reset.ic.monitors.find? (fun y => y.die == 1 && y.master == 2 && y.target == 3) = none)) :=
  ⟨by decide +kernel, by decide +kernel⟩
theorem witness_portTableWrite :
    (((Tests.ports ACTIVE : State).passes Tests.configure (putPort (Tests.ports ACTIVE : State) false 2 ((F.ES_PORT_TAG.put (F.ES_PORT_LANE.put Tests.portWord 2) 2) : W)).1 = true) ∧ ((Tests.ports ACTIVE : State).calState = calIDLE ∨ (Tests.ports ACTIVE : State).calState = calEDITING ∨ (Tests.ports ACTIVE : State).calState = calFAILED)) ∧
    ((((Tests.ports ACTIVE).setCal calREADY : State).passes Tests.configure (putPort ((Tests.ports ACTIVE).setCal calREADY : State) false 2 ((F.ES_PORT_TAG.put (F.ES_PORT_LANE.put Tests.portWord 2) 2) : W)).1 = true) ∧ (((Tests.ports ACTIVE).setCal calREADY : State).calState = calREBUILDING ∨ ((Tests.ports ACTIVE).setCal calREADY : State).calState = calREADY)) :=
  ⟨by decide +kernel, by decide +kernel⟩
theorem witness_calCommit :
    ((((Tests.standing ACTIVE).setCal calEDITING : State).passes Tests.configure (putCal 1).1 = true) ∧ (((Tests.standing ACTIVE).setCal calEDITING : State).calState = calEDITING ∨ ((Tests.standing ACTIVE).setCal calEDITING : State).calState = calFAILED) ∧ (((Tests.standing ACTIVE).setCal calEDITING : State).groupsOver ((Tests.standing ACTIVE).setCal calEDITING : State).shadow = false)) ∧
    (((Tests.standing ACTIVE : State).passes Tests.configure (putCal 1).1 = true) ∧ ((Tests.standing ACTIVE : State).calState ≠ calEDITING) ∧ ((Tests.standing ACTIVE : State).calState ≠ calFAILED)) :=
  ⟨by decide +kernel, by decide +kernel⟩
theorem witness_calAbandon :
    ((((Tests.ports ACTIVE).setCal calEDITING : State).passes Tests.configure (putCal 2).1 = true) ∧ (((Tests.ports ACTIVE).setCal calEDITING : State).calState ≠ calIDLE) ∧ (((Tests.ports ACTIVE).setCal calEDITING : State).calState ≠ calREADY) ∧ (tableWf dflt ((Tests.ports ACTIVE).setCal calEDITING : State).regs)) ∧
    (((Tests.standing ACTIVE : State).passes Tests.configure (putCal 2).1 = true) ∧ ((Tests.standing ACTIVE : State).calState = calIDLE ∨ (Tests.standing ACTIVE : State).calState = calREADY)) :=
  ⟨by decide +kernel, by decide +kernel⟩
theorem witness_rebuildDone :
    ((((Tests.standing ACTIVE).setCal calREBUILDING : State).calState = calREBUILDING)) ∧
    (((Tests.standing ACTIVE : State).calState ≠ calREBUILDING)) :=
  ⟨by decide +kernel, by decide +kernel⟩
theorem witness_calendarPublish :
    ((((Tests.standing ACTIVE).setCal calREADY : State).calState = calREADY) ∧ (tableWf dflt ((Tests.standing ACTIVE).setCal calREADY : State).shadow)) ∧
    (((Tests.standing ACTIVE : State).calState ≠ calREADY)) :=
  ⟨by decide +kernel, by decide +kernel⟩
theorem witness_takeCommit :
    (((Tests.standing ACTIVE : State).passes Tests.operate (putTake (Tests.standing ACTIVE : State) Tests.operate 0 (withOp F.XP_TAKE_OP Tests.toPark 1 : W) (0 : W)).1 = true) ∧ ((withOp F.XP_TAKE_OP Tests.toPark 1 : W) = withOp F.XP_TAKE_OP Tests.toPark 1) ∧ ((Tests.standing ACTIVE : State).decides = true) ∧ ((Tests.standing ACTIVE : State).workOn .take 0 = none) ∧ ((Tests.standing ACTIVE : State).admits = true) ∧ ((Tests.standing ACTIVE : State).workNeeds .take 0 (withOp F.XP_TAKE_OP Tests.toPark 1 : W) = false) ∧ ((Tests.standing ACTIVE : State).takeCheck ((Tests.standing ACTIVE : State).workNeeds .take 0 (withOp F.XP_TAKE_OP Tests.toPark 1 : W)) 0 (withOp F.XP_TAKE_OP Tests.toPark 1 : W) (F.XP_TAKE_FIELD.of (withOp F.XP_TAKE_OP Tests.toPark 1 : W) == 1 && F.XP_TAKE_SALVO.of (withOp F.XP_TAKE_OP Tests.toPark 1 : W) == 0) = none) ∧ (F.XP_TAKE_SALVO.of (withOp F.XP_TAKE_OP Tests.toPark 1 : W) = 0) ∧ (F.XP_TAKE_AFOLLOW.of (withOp F.XP_TAKE_OP Tests.toPark 1 : W) = 1) ∧ (((Tests.standing ACTIVE : State).xp.work.all fun y => y.salvo == 0) = true) ∧ (format ((Tests.standing ACTIVE : State).workFormat false .take 0 (withOp F.XP_TAKE_OP Tests.toPark 1 : W)) = some (((format 0x31).getD ⟨1, 1, 1, 1, 1, 1, 1, 1, 1, 1, 1, 1, 0⟩) : Format)) ∧ ((((format 0x31).getD ⟨1, 1, 1, 1, 1, 1, 1, 1, 1, 1, 1, 1, 0⟩) : Format).judge (F.XP_TAKE_FIELD.of (withOp F.XP_TAKE_OP Tests.toPark 1 : W) == 1) ((takeWhen (withOp F.XP_TAKE_OP Tests.toPark 1 : W) (0 : W)).due (((format 0x31).getD ⟨1, 1, 1, 1, 1, 1, 1, 1, 1, 1, 1, 1, 0⟩) : Format) (F.XP_TAKE_FIELD.of (withOp F.XP_TAKE_OP Tests.toPark 1 : W) == 1) (Tests.standing ACTIVE : State).house) (Tests.standing ACTIVE : State).house ≠ .expired)) ∧
    (((withOp F.XP_TAKE_OP (F.XP_TAKE_SALVO.put Tests.toPark 5) 1 : W) = withOp F.XP_TAKE_OP (F.XP_TAKE_SALVO.put Tests.toPark 5 : W) 1) ∧ (Tests.openSalvo.passes Tests.operate (putTake Tests.openSalvo Tests.operate 1 (withOp F.XP_TAKE_OP (F.XP_TAKE_SALVO.put Tests.toPark 5) 1 : W) (0 : W)).1 = true) ∧ (Tests.openSalvo.decides = true) ∧ (Tests.openSalvo.workOn .take 1 = none) ∧ (Tests.openSalvo.admits = true) ∧ (Tests.openSalvo.takeCheck (Tests.openSalvo.workNeeds .take 1 (withOp F.XP_TAKE_OP (F.XP_TAKE_SALVO.put Tests.toPark 5) 1 : W)) 1 (withOp F.XP_TAKE_OP (F.XP_TAKE_SALVO.put Tests.toPark 5) 1 : W) (F.XP_TAKE_FIELD.of (withOp F.XP_TAKE_OP (F.XP_TAKE_SALVO.put Tests.toPark 5) 1 : W) == 1 && F.XP_TAKE_SALVO.of (withOp F.XP_TAKE_OP (F.XP_TAKE_SALVO.put Tests.toPark 5) 1 : W) == 0) = none) ∧ (F.XP_TAKE_SALVO.of (withOp F.XP_TAKE_OP (F.XP_TAKE_SALVO.put Tests.toPark 5) 1 : W) ≠ 0) ∧ (F.XP_TAKE_AFOLLOW.of (withOp F.XP_TAKE_OP (F.XP_TAKE_SALVO.put Tests.toPark 5) 1 : W) = 1) ∧ (Tests.openSalvo.salvoBars (F.XP_TAKE_SALVO.of (withOp F.XP_TAKE_OP (F.XP_TAKE_SALVO.put Tests.toPark 5) 1 : W)) Tests.operate.ctx.val = none)) ∧
    (((withOp F.XP_TAKE_OP (F.XP_TAKE_WHEN.put Tests.toPark 1) 1 : W) = withOp F.XP_TAKE_OP (F.XP_TAKE_WHEN.put Tests.toPark 1 : W) 1) ∧ (({ Tests.standing ACTIVE with clk := { State.reset.clk with count := 7 * secUnits } } : State).passes Tests.operate (putTake ({ Tests.standing ACTIVE with clk := { State.reset.clk with count := 7 * secUnits } } : State) Tests.operate 0 (withOp F.XP_TAKE_OP (F.XP_TAKE_WHEN.put Tests.toPark 1) 1 : W) (0 : W)).1 = true) ∧ (({ Tests.standing ACTIVE with clk := { State.reset.clk with count := 7 * secUnits } } : State).decides = true) ∧ (({ Tests.standing ACTIVE with clk := { State.reset.clk with count := 7 * secUnits } } : State).workOn .take 0 = none) ∧ (({ Tests.standing ACTIVE with clk := { State.reset.clk with count := 7 * secUnits } } : State).admits = true) ∧ (({ Tests.standing ACTIVE with clk := { State.reset.clk with count := 7 * secUnits } } : State).workNeeds .take 0 (withOp F.XP_TAKE_OP (F.XP_TAKE_WHEN.put Tests.toPark 1) 1 : W) = false) ∧ (({ Tests.standing ACTIVE with clk := { State.reset.clk with count := 7 * secUnits } } : State).takeCheck (({ Tests.standing ACTIVE with clk := { State.reset.clk with count := 7 * secUnits } } : State).workNeeds .take 0 (withOp F.XP_TAKE_OP (F.XP_TAKE_WHEN.put Tests.toPark 1) 1 : W)) 0 (withOp F.XP_TAKE_OP (F.XP_TAKE_WHEN.put Tests.toPark 1) 1 : W) (F.XP_TAKE_FIELD.of (withOp F.XP_TAKE_OP (F.XP_TAKE_WHEN.put Tests.toPark 1) 1 : W) == 1 && F.XP_TAKE_SALVO.of (withOp F.XP_TAKE_OP (F.XP_TAKE_WHEN.put Tests.toPark 1) 1 : W) == 0) = none) ∧ (F.XP_TAKE_SALVO.of (withOp F.XP_TAKE_OP (F.XP_TAKE_WHEN.put Tests.toPark 1) 1 : W) = 0) ∧ (F.XP_TAKE_AFOLLOW.of (withOp F.XP_TAKE_OP (F.XP_TAKE_WHEN.put Tests.toPark 1) 1 : W) = 1) ∧ (format (({ Tests.standing ACTIVE with clk := { State.reset.clk with count := 7 * secUnits } } : State).workFormat false .take 0 (withOp F.XP_TAKE_OP (F.XP_TAKE_WHEN.put Tests.toPark 1) 1 : W)) = some (((format 0x31).getD ⟨1, 1, 1, 1, 1, 1, 1, 1, 1, 1, 1, 1, 0⟩) : Format)) ∧ ((((format 0x31).getD ⟨1, 1, 1, 1, 1, 1, 1, 1, 1, 1, 1, 1, 0⟩) : Format).judge (F.XP_TAKE_FIELD.of (withOp F.XP_TAKE_OP (F.XP_TAKE_WHEN.put Tests.toPark 1) 1 : W) == 1) ((takeWhen (withOp F.XP_TAKE_OP (F.XP_TAKE_WHEN.put Tests.toPark 1) 1 : W) (0 : W)).due (((format 0x31).getD ⟨1, 1, 1, 1, 1, 1, 1, 1, 1, 1, 1, 1, 0⟩) : Format) (F.XP_TAKE_FIELD.of (withOp F.XP_TAKE_OP (F.XP_TAKE_WHEN.put Tests.toPark 1) 1 : W) == 1) ({ Tests.standing ACTIVE with clk := { State.reset.clk with count := 7 * secUnits } } : State).house) ({ Tests.standing ACTIVE with clk := { State.reset.clk with count := 7 * secUnits } } : State).house = .expired)) ∧
    (((withOp F.XP_TAKE_OP (F.XP_TAKE_DEST.put Tests.toPark 9) 1 : W) = withOp F.XP_TAKE_OP (F.XP_TAKE_DEST.put Tests.toPark 9 : W) 1) ∧ ((Tests.standing ACTIVE : State).passes Tests.operate (putTake (Tests.standing ACTIVE : State) Tests.operate 0 (withOp F.XP_TAKE_OP (F.XP_TAKE_DEST.put Tests.toPark 9) 1 : W) (0 : W)).1 = true) ∧ ((Tests.standing ACTIVE : State).decides = true) ∧ ((Tests.standing ACTIVE : State).workOn .take 0 = none) ∧ ((Tests.standing ACTIVE : State).admits = true) ∧ ((Tests.standing ACTIVE : State).takeCheck ((Tests.standing ACTIVE : State).workNeeds .take 0 (withOp F.XP_TAKE_OP (F.XP_TAKE_DEST.put Tests.toPark 9) 1 : W)) 0 (withOp F.XP_TAKE_OP (F.XP_TAKE_DEST.put Tests.toPark 9) 1 : W) (F.XP_TAKE_FIELD.of (withOp F.XP_TAKE_OP (F.XP_TAKE_DEST.put Tests.toPark 9) 1 : W) == 1 && F.XP_TAKE_SALVO.of (withOp F.XP_TAKE_OP (F.XP_TAKE_DEST.put Tests.toPark 9) 1 : W) == 0) ≠ none)) ∧
    (((withOp F.XP_TAKE_OP Tests.toPark 1 : W) = withOp F.XP_TAKE_OP Tests.toPark 1) ∧ ((Tests.standing SERVICE : State).passes Tests.operate (putTake (Tests.standing SERVICE : State) Tests.operate 0 (withOp F.XP_TAKE_OP Tests.toPark 1 : W) (0 : W)).1 = true) ∧ ((Tests.standing SERVICE : State).decides = true) ∧ ((Tests.standing SERVICE : State).workOn .take 0 = none) ∧ ((Tests.standing SERVICE : State).admits = false)) ∧
    (((withOp F.XP_TAKE_OP Tests.toPark 1 : W) = withOp F.XP_TAKE_OP Tests.toPark 1) ∧ ((Tests.holding (Tests.work .take tsPENDING 0 Tests.toPark) : State).passes Tests.operate (putTake (Tests.holding (Tests.work .take tsPENDING 0 Tests.toPark) : State) Tests.operate 0 (withOp F.XP_TAKE_OP Tests.toPark 1 : W) (0 : W)).1 = true) ∧ ((Tests.holding (Tests.work .take tsPENDING 0 Tests.toPark) : State).decides = true) ∧ ((Tests.holding (Tests.work .take tsPENDING 0 Tests.toPark) : State).workOn .take 0 ≠ none)) ∧
    (((withOp F.XP_TAKE_OP Tests.toPark 1 : W) = withOp F.XP_TAKE_OP Tests.toPark 1) ∧ (({ Tests.standing ACTIVE with regs := ((((Tests.standing ACTIVE).setFld F.TW_CONFIG_EN 0 1).setFld F.TW_STATE_SYNC 0 syncLOCKSTEP).setFld F.TW_STATE_LINK 0 1).regs } : State).passes Tests.operate (putTake ({ Tests.standing ACTIVE with regs := ((((Tests.standing ACTIVE).setFld F.TW_CONFIG_EN 0 1).setFld F.TW_STATE_SYNC 0 syncLOCKSTEP).setFld F.TW_STATE_LINK 0 1).regs } : State) Tests.operate 0 (withOp F.XP_TAKE_OP Tests.toPark 1 : W) (0 : W)).1 = true) ∧ (({ Tests.standing ACTIVE with regs := ((((Tests.standing ACTIVE).setFld F.TW_CONFIG_EN 0 1).setFld F.TW_STATE_SYNC 0 syncLOCKSTEP).setFld F.TW_STATE_LINK 0 1).regs } : State).decides = false)) :=
  ⟨by decide +kernel, by decide +kernel, by decide +kernel, by decide +kernel, by decide +kernel, by decide +kernel, by decide +kernel⟩
theorem witness_takeCancel :
    (((Tests.holding (Tests.work .take tsPENDING 0 Tests.toPark) : State).passes Tests.operate (putTake (Tests.holding (Tests.work .take tsPENDING 0 Tests.toPark) : State) Tests.operate 0 (withOp F.XP_TAKE_OP Tests.toPark 2) 0).1 = true) ∧ ((Tests.holding (Tests.work .take tsPENDING 0 Tests.toPark) : State).decides = true) ∧ ((Tests.holding (Tests.work .take tsPENDING 0 Tests.toPark) : State).workOn .take 0 = some (Tests.work .take tsPENDING 0 Tests.toPark : Work)) ∧ ((Tests.work .take tsPENDING 0 Tests.toPark : Work).salvo = 0) ∧ ((Tests.work .take tsPENDING 0 Tests.toPark : Work).state = tsHELD ∨ ((Tests.work .take tsPENDING 0 Tests.toPark : Work).state = tsPENDING ∧ (Tests.work .take tsPENDING 0 Tests.toPark : Work).jumped = false ∧ format (Tests.work .take tsPENDING 0 Tests.toPark : Work).fmt = some (((format 0x31).getD ⟨1, 1, 1, 1, 1, 1, 1, 1, 1, 1, 1, 1, 0⟩) : Format) ∧ (((format 0x31).getD ⟨1, 1, 1, 1, 1, 1, 1, 1, 1, 1, 1, 1, 0⟩) : Format).inTime (Tests.work .take tsPENDING 0 Tests.toPark : Work).field (Tests.work .take tsPENDING 0 Tests.toPark : Work).land (Tests.holding (Tests.work .take tsPENDING 0 Tests.toPark) : State).house = true))) ∧
    (((Tests.holding { Tests.work .take tsPENDING 0 Tests.toPark with jumped := true } : State).passes Tests.operate (putTake (Tests.holding { Tests.work .take tsPENDING 0 Tests.toPark with jumped := true } : State) Tests.operate 0 (withOp F.XP_TAKE_OP Tests.toPark 2) 0).1 = true) ∧ ((Tests.holding { Tests.work .take tsPENDING 0 Tests.toPark with jumped := true } : State).decides = true) ∧ ((Tests.holding { Tests.work .take tsPENDING 0 Tests.toPark with jumped := true } : State).workOn .take 0 = some ({ Tests.work .take tsPENDING 0 Tests.toPark with jumped := true } : Work)) ∧ (({ Tests.work .take tsPENDING 0 Tests.toPark with jumped := true } : Work).salvo = 0) ∧ (({ Tests.work .take tsPENDING 0 Tests.toPark with jumped := true } : Work).state = tsPENDING) ∧ (({ Tests.work .take tsPENDING 0 Tests.toPark with jumped := true } : Work).jumped = true)) ∧
    (((Tests.standing ACTIVE : State).passes Tests.operate (putTake (Tests.standing ACTIVE : State) Tests.operate 0 (withOp F.XP_TAKE_OP Tests.toPark 2) 0).1 = true) ∧ ((Tests.standing ACTIVE : State).decides = true) ∧ ((Tests.standing ACTIVE : State).workOn .take 0 = none)) ∧
    ((({ Tests.standing ACTIVE with regs := ((((Tests.standing ACTIVE).setFld F.TW_CONFIG_EN 0 1).setFld F.TW_STATE_SYNC 0 syncLOCKSTEP).setFld F.TW_STATE_LINK 0 1).regs } : State).passes Tests.operate (putTake ({ Tests.standing ACTIVE with regs := ((((Tests.standing ACTIVE).setFld F.TW_CONFIG_EN 0 1).setFld F.TW_STATE_SYNC 0 syncLOCKSTEP).setFld F.TW_STATE_LINK 0 1).regs } : State) Tests.operate 0 (withOp F.XP_TAKE_OP Tests.toPark 2) 0).1 = true) ∧ (({ Tests.standing ACTIVE with regs := ((((Tests.standing ACTIVE).setFld F.TW_CONFIG_EN 0 1).setFld F.TW_STATE_SYNC 0 syncLOCKSTEP).setFld F.TW_STATE_LINK 0 1).regs } : State).decides = false)) :=
  ⟨by decide +kernel, by decide +kernel, by decide +kernel, by decide +kernel⟩
theorem witness_switchLine :
    (((Tests.holding { Tests.work .take tsPENDING 0 Tests.toPark with land := 0, due := 0 } : State).enginesRun = true) ∧ (0 < endpointLines) ∧ ((Tests.holding { Tests.work .take tsPENDING 0 Tests.toPark with land := 0, due := 0 } : State).lineFormat 0 = some (((format 0x31).getD ⟨1, 1, 1, 1, 1, 1, 1, 1, 1, 1, 1, 1, 0⟩) : Format)) ∧ ((Tests.holding { Tests.work .take tsPENDING 0 Tests.toPark with land := 0, due := 0 } : State).landing 0 ((((format 0x31).getD ⟨1, 1, 1, 1, 1, 1, 1, 1, 1, 1, 1, 1, 0⟩) : Format).lineStart ((Tests.holding { Tests.work .take tsPENDING 0 Tests.toPark with land := 0, due := 0 } : State).swapLine 0 (((format 0x31).getD ⟨1, 1, 1, 1, 1, 1, 1, 1, 1, 1, 1, 1, 0⟩) : Format))) = [({ Tests.work .take tsPENDING 0 Tests.toPark with land := 0, due := 0 } : Work)]) ∧ (({ Tests.work .take tsPENDING 0 Tests.toPark with land := 0, due := 0 } : Work).kind = .take)) ∧
    (((Tests.standing ACTIVE : State).enginesRun = true) ∧ (0 < endpointLines) ∧ ((Tests.standing ACTIVE : State).lineFormat 0 = some (((format 0x31).getD ⟨1, 1, 1, 1, 1, 1, 1, 1, 1, 1, 1, 1, 0⟩) : Format)) ∧ ((Tests.standing ACTIVE : State).landing 0 ((((format 0x31).getD ⟨1, 1, 1, 1, 1, 1, 1, 1, 1, 1, 1, 1, 0⟩) : Format).lineStart ((Tests.standing ACTIVE : State).swapLine 0 (((format 0x31).getD ⟨1, 1, 1, 1, 1, 1, 1, 1, 1, 1, 1, 1, 0⟩) : Format))) = [])) ∧
    ((State.reset.enginesRun = false ∨ State.reset.lineFormat 0 = none)) :=
  ⟨by decide +kernel, by decide +kernel, by decide +kernel⟩
theorem witness_holdDeadline :
    (((Tests.holding (Tests.work .take tsHELD 0 Tests.toPark) : State).decides = true) ∧ ((Tests.holding (Tests.work .take tsHELD 0 Tests.toPark) : State).workOn .take 0 = some (Tests.work .take tsHELD 0 Tests.toPark : Work)) ∧ ((Tests.work .take tsHELD 0 Tests.toPark : Work).state = tsHELD) ∧ ((Tests.work .take tsHELD 0 Tests.toPark : Work).salvo = 0)) ∧
    (((Tests.standing ACTIVE : State).decides = false ∨ (Tests.standing ACTIVE : State).workOn .take 0 = none ∨ ((Tests.standing ACTIVE : State).workOn .take 0 = some (Tests.work .take tsHELD 0 Tests.toPark : Work) ∧ ¬((Tests.work .take tsHELD 0 Tests.toPark : Work).state = tsHELD ∧ (Tests.work .take tsHELD 0 Tests.toPark : Work).salvo = 0)))) :=
  ⟨by decide +kernel, by decide +kernel⟩
theorem witness_holdDeadlineOf : (((Tests.twin syncLOCKSTEP 0 : State).decides = false)) := by decide +kernel
theorem witness_salvoArm :
    ((Tests.openSalvo.passes Tests.operate (putSalvo Tests.openSalvo Tests.operate 5 (withOp F.XP_SALVO_OP 1 1 : W) (0 : W)).1 = true) ∧ ((withOp F.XP_SALVO_OP 1 1 : W) = withOp F.XP_SALVO_OP (1 : W) 1) ∧ (Tests.openSalvo.decides = true) ∧ (Tests.openSalvo.salvoState 5 = saOPEN) ∧ (Tests.openSalvo.fld F.XP_SALVO_OWNER 5 = Tests.operate.ctx.val) ∧ (Tests.openSalvo.fld F.XP_SALVO_STAGED 5 = F.XP_SALVO_COUNT.of (withOp F.XP_SALVO_OP 1 1 : W)) ∧ (F.XP_SALVO_FIELD.of (withOp F.XP_SALVO_OP 1 1 : W) = 0) ∧ (Tests.openSalvo.members 5 = [(Tests.work .take tsSTAGED 5 (F.XP_TAKE_SALVO.put Tests.toPark 5) : Work)]) ∧ ((Tests.openSalvo.xp.work.all fun y => y.salvo == 5) = true) ∧ (5 ≠ 0) ∧ ((Tests.work .take tsSTAGED 5 (F.XP_TAKE_SALVO.put Tests.toPark 5) : Work).kind = .take) ∧ ((Tests.work .take tsSTAGED 5 (F.XP_TAKE_SALVO.put Tests.toPark 5) : Work).afollow = true) ∧ (Tests.openSalvo.calState = calIDLE) ∧ (Tests.openSalvo.recheck false (Tests.work .take tsSTAGED 5 (F.XP_TAKE_SALVO.put Tests.toPark 5) : Work) = none) ∧ (format (Tests.openSalvo.workFormat false .take (Tests.work .take tsSTAGED 5 (F.XP_TAKE_SALVO.put Tests.toPark 5) : Work).elem (Tests.work .take tsSTAGED 5 (F.XP_TAKE_SALVO.put Tests.toPark 5) : Work).w0) = some (((format 0x31).getD ⟨1, 1, 1, 1, 1, 1, 1, 1, 1, 1, 1, 1, 0⟩) : Format)) ∧ ((((format 0x31).getD ⟨1, 1, 1, 1, 1, 1, 1, 1, 1, 1, 1, 1, 0⟩) : Format).judge false ((salvoWhen (withOp F.XP_SALVO_OP 1 1 : W) (0 : W)).due (((format 0x31).getD ⟨1, 1, 1, 1, 1, 1, 1, 1, 1, 1, 1, 1, 0⟩) : Format) false Tests.openSalvo.house) Tests.openSalvo.house ≠ .expired)) ∧
    (((withOp F.XP_SALVO_OP 2 1 : W) = withOp F.XP_SALVO_OP (2 : W) 1) ∧ (Tests.openSalvo.passes Tests.operate (putSalvo Tests.openSalvo Tests.operate 5 (withOp F.XP_SALVO_OP 2 1 : W) (0 : W)).1 = true) ∧ (Tests.openSalvo.decides = true) ∧ (Tests.openSalvo.salvoState 5 = saOPEN) ∧ (Tests.openSalvo.fld F.XP_SALVO_OWNER 5 = Tests.operate.ctx.val) ∧ (Tests.openSalvo.fld F.XP_SALVO_STAGED 5 ≠ F.XP_SALVO_COUNT.of (withOp F.XP_SALVO_OP 2 1 : W))) ∧
    (((withOp F.XP_SALVO_OP 1 1 : W) = withOp F.XP_SALVO_OP (1 : W) 1) ∧ ((Tests.openSalvo.setFld F.XP_SALVO_OWNER 5 2 : State).passes Tests.operate (putSalvo (Tests.openSalvo.setFld F.XP_SALVO_OWNER 5 2 : State) Tests.operate 5 (withOp F.XP_SALVO_OP 1 1 : W) (0 : W)).1 = true) ∧ ((Tests.openSalvo.setFld F.XP_SALVO_OWNER 5 2 : State).decides = true) ∧ (¬((Tests.openSalvo.setFld F.XP_SALVO_OWNER 5 2 : State).salvoState 5 = saIDLE ∨ (Tests.openSalvo.setFld F.XP_SALVO_OWNER 5 2 : State).fld F.XP_SALVO_OWNER 5 = Tests.operate.ctx.val))) ∧
    (((withOp F.XP_SALVO_OP 1 1 : W) = withOp F.XP_SALVO_OP (1 : W) 1) ∧ (Tests.openSalvo.passes Tests.operate (putSalvo Tests.openSalvo Tests.operate 6 (withOp F.XP_SALVO_OP 1 1 : W) (0 : W)).1 = true) ∧ (Tests.openSalvo.decides = true) ∧ ((Tests.openSalvo.salvoState 6 = saIDLE ∨ Tests.openSalvo.fld F.XP_SALVO_OWNER 6 = Tests.operate.ctx.val)) ∧ (Tests.openSalvo.salvoState 6 ≠ saOPEN)) ∧
    (((withOp F.XP_SALVO_OP 1 1 : W) = withOp F.XP_SALVO_OP (1 : W) 1) ∧ (({ Tests.standing ACTIVE with regs := ((((Tests.standing ACTIVE).setFld F.TW_CONFIG_EN 0 1).setFld F.TW_STATE_SYNC 0 syncLOCKSTEP).setFld F.TW_STATE_LINK 0 1).regs } : State).passes Tests.operate (putSalvo ({ Tests.standing ACTIVE with regs := ((((Tests.standing ACTIVE).setFld F.TW_CONFIG_EN 0 1).setFld F.TW_STATE_SYNC 0 syncLOCKSTEP).setFld F.TW_STATE_LINK 0 1).regs } : State) Tests.operate 5 (withOp F.XP_SALVO_OP 1 1 : W) (0 : W)).1 = true) ∧ (({ Tests.standing ACTIVE with regs := ((((Tests.standing ACTIVE).setFld F.TW_CONFIG_EN 0 1).setFld F.TW_STATE_SYNC 0 syncLOCKSTEP).setFld F.TW_STATE_LINK 0 1).regs } : State).decides = false)) :=
  ⟨by decide +kernel, by decide +kernel, by decide +kernel, by decide +kernel, by decide +kernel⟩
theorem witness_salvoDiscard :
    ((Tests.openSalvo.passes Tests.operate (putSalvo Tests.openSalvo Tests.operate 5 (withOp F.XP_SALVO_OP (0 : W) 2) 0).1 = true) ∧ (Tests.openSalvo.decides = true) ∧ (Tests.openSalvo.salvoState 5 = saOPEN ∨ Tests.openSalvo.salvoState 5 = saHELD) ∧ (Tests.openSalvo.fld F.XP_SALVO_OWNER 5 = Tests.operate.ctx.val)) ∧
    (((Tests.openSalvo.setFld F.XP_SALVO_OWNER 5 2 : State).passes Tests.operate (putSalvo (Tests.openSalvo.setFld F.XP_SALVO_OWNER 5 2 : State) Tests.operate 5 (withOp F.XP_SALVO_OP (0 : W) 2) 0).1 = true) ∧ ((Tests.openSalvo.setFld F.XP_SALVO_OWNER 5 2 : State).decides = true) ∧ (¬((Tests.openSalvo.setFld F.XP_SALVO_OWNER 5 2 : State).salvoState 5 = saIDLE ∨ (Tests.openSalvo.setFld F.XP_SALVO_OWNER 5 2 : State).fld F.XP_SALVO_OWNER 5 = Tests.operate.ctx.val))) ∧
    ((Tests.openSalvo.passes Tests.operate (putSalvo Tests.openSalvo Tests.operate 6 (withOp F.XP_SALVO_OP (0 : W) 2) 0).1 = true) ∧ (Tests.openSalvo.decides = true) ∧ ((Tests.openSalvo.salvoState 6 = saIDLE ∨ Tests.openSalvo.fld F.XP_SALVO_OWNER 6 = Tests.operate.ctx.val)) ∧ (Tests.openSalvo.salvoState 6 ≠ saOPEN) ∧ (Tests.openSalvo.salvoState 6 ≠ saARMED) ∧ (Tests.openSalvo.salvoState 6 ≠ saHELD)) ∧
    ((({ Tests.standing ACTIVE with regs := ((((Tests.standing ACTIVE).setFld F.TW_CONFIG_EN 0 1).setFld F.TW_STATE_SYNC 0 syncLOCKSTEP).setFld F.TW_STATE_LINK 0 1).regs } : State).passes Tests.operate (putSalvo ({ Tests.standing ACTIVE with regs := ((((Tests.standing ACTIVE).setFld F.TW_CONFIG_EN 0 1).setFld F.TW_STATE_SYNC 0 syncLOCKSTEP).setFld F.TW_STATE_LINK 0 1).regs } : State) Tests.operate 5 (withOp F.XP_SALVO_OP (0 : W) 2) 0).1 = true) ∧ (({ Tests.standing ACTIVE with regs := ((((Tests.standing ACTIVE).setFld F.TW_CONFIG_EN 0 1).setFld F.TW_STATE_SYNC 0 syncLOCKSTEP).setFld F.TW_STATE_LINK 0 1).regs } : State).decides = false)) :=
  ⟨by decide +kernel, by decide +kernel, by decide +kernel, by decide +kernel⟩
theorem witness_salvoTimeout :
    ((Tests.openSalvo.salvoState 5 = saOPEN) ∧ (Tests.openSalvo.decides = true)) ∧
    ((Tests.openSalvo.salvoState 6 ≠ saOPEN ∨ Tests.openSalvo.decides = false)) :=
  ⟨by decide +kernel, by decide +kernel⟩
theorem witness_esAlignWrite :
    (((Tests.standing ACTIVE : State).passes Tests.configure (putAlign 0 (F.ES_ALIGN_WIN.put ((Tests.standing ACTIVE).align 0) 3 : W)).1 = true) ∧ (¬(alFSYNC (F.ES_ALIGN_WIN.put ((Tests.standing ACTIVE).align 0) 3 : W) = true ∧ (Tests.standing ACTIVE : State).caps.fsync = false)) ∧ (¬((F.ES_ALIGN_MODE.of (F.ES_ALIGN_WIN.put ((Tests.standing ACTIVE).align 0) 3 : W) ≠ F.ES_ALIGN_MODE.of ((Tests.standing ACTIVE : State).align 0) ∨ F.ES_ALIGN_DEPTH.of (F.ES_ALIGN_WIN.put ((Tests.standing ACTIVE).align 0) 3 : W) ≠ F.ES_ALIGN_DEPTH.of ((Tests.standing ACTIVE : State).align 0) ∨ F.ES_ALIGN_AUDIO.of (F.ES_ALIGN_WIN.put ((Tests.standing ACTIVE).align 0) 3 : W) ≠ F.ES_ALIGN_AUDIO.of ((Tests.standing ACTIVE : State).align 0)) ∧ (Tests.standing ACTIVE : State).sourceInUse 0 = true)) ∧ ((Tests.standing ACTIVE : State).alignShort 0 (F.ES_ALIGN_WIN.put ((Tests.standing ACTIVE).align 0) 3 : W) = false)) ∧
    ((({ Tests.standing ACTIVE with caps := ⟨.sc2e, false⟩ } : State).passes Tests.configure (putAlign 0 (F.ES_ALIGN_MODE.put ((Tests.standing ACTIVE).align 0) 1 : W)).1 = true) ∧ ((alFSYNC (F.ES_ALIGN_MODE.put ((Tests.standing ACTIVE).align 0) 1 : W) = true ∧ ({ Tests.standing ACTIVE with caps := ⟨.sc2e, false⟩ } : State).caps.fsync = false))) ∧
    ((({ Tests.standing ACTIVE with xp := { State.reset.xp with dests := [(0, Dest.mk 0 0 0 0 false false 0 0)] } } : State).passes Tests.configure (putAlign 0 (F.ES_ALIGN_MODE.put ((Tests.standing ACTIVE).align 0) 1 : W)).1 = true) ∧ (¬(alFSYNC (F.ES_ALIGN_MODE.put ((Tests.standing ACTIVE).align 0) 1 : W) = true ∧ ({ Tests.standing ACTIVE with xp := { State.reset.xp with dests := [(0, Dest.mk 0 0 0 0 false false 0 0)] } } : State).caps.fsync = false)) ∧ ((F.ES_ALIGN_MODE.of (F.ES_ALIGN_MODE.put ((Tests.standing ACTIVE).align 0) 1 : W) ≠ F.ES_ALIGN_MODE.of (({ Tests.standing ACTIVE with xp := { State.reset.xp with dests := [(0, Dest.mk 0 0 0 0 false false 0 0)] } } : State).align 0) ∨ F.ES_ALIGN_DEPTH.of (F.ES_ALIGN_MODE.put ((Tests.standing ACTIVE).align 0) 1 : W) ≠ F.ES_ALIGN_DEPTH.of (({ Tests.standing ACTIVE with xp := { State.reset.xp with dests := [(0, Dest.mk 0 0 0 0 false false 0 0)] } } : State).align 0) ∨ F.ES_ALIGN_AUDIO.of (F.ES_ALIGN_MODE.put ((Tests.standing ACTIVE).align 0) 1 : W) ≠ F.ES_ALIGN_AUDIO.of (({ Tests.standing ACTIVE with xp := { State.reset.xp with dests := [(0, Dest.mk 0 0 0 0 false false 0 0)] } } : State).align 0)) ∧ ({ Tests.standing ACTIVE with xp := { State.reset.xp with dests := [(0, Dest.mk 0 0 0 0 false false 0 0)] } } : State).sourceInUse 0 = true)) :=
  ⟨by decide +kernel, by decide +kernel, by decide +kernel⟩
theorem witness_sourcePicture :
    (((Tests.standing ACTIVE : State).enginesRun = true) ∧ (pValid ((Tests.standing ACTIVE : State).port false 0) = true) ∧ ((Tests.standing ACTIVE : State).isOut .port ((Tests.standing ACTIVE : State).srcDie 0) 0 = false) ∧ (((none : Option Nat) : Option Nat).isNone = true) ∧ (((Tests.standing ACTIVE : State).src 0).entry = (Tests.standing ACTIVE : State).align 0) ∧ (alFSYNC ((Tests.standing ACTIVE : State).align 0) = false) ∧ ((Tests.standing ACTIVE : State).inWindow ((Tests.standing ACTIVE : State).align 0) (pFormat ((Tests.standing ACTIVE : State).port false 0)) ((Tests.standing ACTIVE : State).pictureOffset 0 608000) = true) ∧ ((Tests.standing ACTIVE : State).alState 0 ≠ alOUTSIDE)) ∧
    (((Tests.standing ACTIVE : State).enginesRun = true) ∧ (pValid ((Tests.standing ACTIVE : State).port false 0) = true) ∧ ((Tests.standing ACTIVE : State).isOut .port ((Tests.standing ACTIVE : State).srcDie 0) 0 = false) ∧ (((none : Option Nat) : Option Nat).isNone = true) ∧ (((Tests.standing ACTIVE : State).src 0).entry = (Tests.standing ACTIVE : State).align 0) ∧ (alFSYNC ((Tests.standing ACTIVE : State).align 0) = false) ∧ ((Tests.standing ACTIVE : State).inWindow ((Tests.standing ACTIVE : State).align 0) (pFormat ((Tests.standing ACTIVE : State).port false 0)) ((Tests.standing ACTIVE : State).pictureOffset 0 5000000) = false)) ∧
    (((Tests.standing ACTIVE : State).enginesRun = true) ∧ (pValid ((Tests.standing ACTIVE : State).port false 0) = true) ∧ ((Tests.standing ACTIVE : State).isOut .port ((Tests.standing ACTIVE : State).srcDie 0) 0 = false) ∧ (((some 4) : Option Nat).isSome = true)) ∧
    ((State.reset.enginesRun = false ∨ pValid (State.reset.port false 0) = false)) :=
  ⟨by decide +kernel, by decide +kernel, by decide +kernel, by decide +kernel⟩
theorem witness_sourceLost :
    (((Tests.standing ACTIVE : State).enginesRun = true) ∧ (pValid ((Tests.standing ACTIVE : State).port false 0) = true)) ∧
    ((State.reset.enginesRun = false ∨ pValid (State.reset.port false 0) = false)) :=
  ⟨by decide +kernel, by decide +kernel⟩
theorem witness_fsyncPictureStart :
    ((Tests.fsync.enginesRun = true) ∧ (((9, 77 * nsUnits) : Nat × Nat) = (Tests.fsync.frameCapture 0).getD (9, 77 * nsUnits)) ∧ (Tests.fsync.storeRuns 0 = true) ∧ ((Tests.fsync.src 0).entry = Tests.fsync.align 0) ∧ (Tests.fsync.alState 0 = alALIGNED ∨ Tests.fsync.alState 0 = alFILLING) ∧ (Tests.fsync.itemLost 0 0 = false) ∧ ((Tests.fsync.src 0).unread.length + flag (Tests.fsync.src 0).reading.isSome < (Tests.fsync.src 0).depth)) ∧
    ((State.reset.enginesRun = false)) :=
  ⟨by decide +kernel, by decide +kernel⟩
theorem witness_fsyncPictureEnd :
    ((Tests.fsync.enginesRun = true) ∧ (Tests.fsync.storeRuns 0 = true) ∧ ((Tests.fsync.src 0).writing = some (⟨4, 0, []⟩ : Pic)) ∧ (([42, 43] : List Nat).length ≤ 16 ∨ Tests.fsync.ownStores = false)) ∧
    ((Tests.fsync.enginesRun = true) ∧ (Tests.fsync.storeRuns 0 = true) ∧ ((Tests.fsync.src 0).writing = some (⟨4, 0, []⟩ : Pic)) ∧ (16 < ((List.range 17) : List Nat).length) ∧ (Tests.fsync.ownStores = true)) ∧
    ((State.reset.enginesRun = false ∨ State.reset.storeRuns 0 = false)) :=
  ⟨by decide +kernel, by decide +kernel, by decide +kernel⟩
theorem witness_fsyncReadInstant :
    ((Tests.fsync.enginesRun = true) ∧ (Tests.fsync.storeRuns 0 = true) ∧ (format (pFormat (Tests.fsync.port false 0)) = some (((format 0x31).getD ⟨1, 1, 1, 1, 1, 1, 1, 1, 1, 1, 1, 1, 0⟩) : Format)) ∧ (Tests.fsync.ownStores = true) ∧ (Tests.fsync.alState 0 = alALIGNED) ∧ (Tests.fsync.itemHeld 0 0 = false) ∧ ((Tests.fsync.src 0).unread = (⟨3, 0, []⟩ : Pic) :: ([] : List Pic))) ∧
    (((Tests.fsync.setSrc { Tests.fsync.src 0 with unread := [] } : State).enginesRun = true) ∧ ((Tests.fsync.setSrc { Tests.fsync.src 0 with unread := [] } : State).storeRuns 0 = true) ∧ (format (pFormat ((Tests.fsync.setSrc { Tests.fsync.src 0 with unread := [] } : State).port false 0)) = some (((format 0x31).getD ⟨1, 1, 1, 1, 1, 1, 1, 1, 1, 1, 1, 1, 0⟩) : Format)) ∧ ((Tests.fsync.setSrc { Tests.fsync.src 0 with unread := [] } : State).ownStores = true) ∧ ((Tests.fsync.setSrc { Tests.fsync.src 0 with unread := [] } : State).alState 0 = alALIGNED) ∧ (((Tests.fsync.setSrc { Tests.fsync.src 0 with unread := [] } : State).src 0).unread = [] ∨ (Tests.fsync.setSrc { Tests.fsync.src 0 with unread := [] } : State).itemHeld 0 0 = true)) ∧
    ((State.reset.enginesRun = false ∨ State.reset.storeRuns 0 = false)) :=
  ⟨by decide +kernel, by decide +kernel, by decide +kernel⟩
theorem witness_fsyncAudioSlip :
    ((Tests.fsync.enginesRun = true) ∧ (Tests.fsync.ownStores = true) ∧ (Tests.fsync.storeRuns 0 = true) ∧ (Tests.fsync.alState 0 = alALIGNED) ∧ (alASRC (Tests.fsync.src 0).entry = false)) ∧
    ((State.reset.enginesRun = false ∨ State.reset.ownStores = false)) :=
  ⟨by decide +kernel, by decide +kernel⟩
theorem witness_lossholdExpire :
    ((((Tests.fsync.setFld F.ES_ALIGN_STAT_STATE 0 alLOST).setSrc { (Tests.fsync).src 0 with lossRep := 255 } : State).enginesRun = true) ∧ (((Tests.fsync.setFld F.ES_ALIGN_STAT_STATE 0 alLOST).setSrc { (Tests.fsync).src 0 with lossRep := 255 } : State).storeRuns 0 = true ∧ (((Tests.fsync.setFld F.ES_ALIGN_STAT_STATE 0 alLOST).setSrc { (Tests.fsync).src 0 with lossRep := 255 } : State).alState 0 = alLOST ∨ ((Tests.fsync.setFld F.ES_ALIGN_STAT_STATE 0 alLOST).setSrc { (Tests.fsync).src 0 with lossRep := 255 } : State).alState 0 = alFORMAT) ∧ F.ES_ALIGN_FREEZE.of (((Tests.fsync.setFld F.ES_ALIGN_STAT_STATE 0 alLOST).setSrc { (Tests.fsync).src 0 with lossRep := 255 } : State).src 0).entry = 0 ∧ F.ES_ALIGN_LOSSHOLD.of (((Tests.fsync.setFld F.ES_ALIGN_STAT_STATE 0 alLOST).setSrc { (Tests.fsync).src 0 with lossRep := 255 } : State).src 0).entry ≤ (((Tests.fsync.setFld F.ES_ALIGN_STAT_STATE 0 alLOST).setSrc { (Tests.fsync).src 0 with lossRep := 255 } : State).src 0).lossRep)) ∧
    ((State.reset.enginesRun = false ∨ ¬(State.reset.storeRuns 0 = true ∧ (State.reset.alState 0 = alLOST ∨ State.reset.alState 0 = alFORMAT) ∧ F.ES_ALIGN_FREEZE.of (State.reset.src 0).entry = 0 ∧ F.ES_ALIGN_LOSSHOLD.of (State.reset.src 0).entry ≤ (State.reset.src 0).lossRep))) :=
  ⟨by decide +kernel, by decide +kernel⟩
theorem witness_auSrcWrite :
    (((Tests.standing ACTIVE : State).passes Tests.configure (putAuSrc (Tests.standing ACTIVE : State) 7 (F.AU_SRC_ENDPOINT.put (F.AU_SRC_VALID.put 0 1) 0x2300 : W)).1 = true) ∧ ((Tests.standing ACTIVE : State).endpointAbsent (F.AU_SRC_ENDPOINT.of (F.AU_SRC_ENDPOINT.put (F.AU_SRC_VALID.put 0 1) 0x2300 : W)) = false)) ∧
    ((({ Tests.standing ACTIVE with caps := ⟨.sc8x, false⟩ } : State).passes Tests.configure (putAuSrc ({ Tests.standing ACTIVE with caps := ⟨.sc8x, false⟩ } : State) 7 (F.AU_SRC_ENDPOINT.put (F.AU_SRC_VALID.put 0 1) 5 : W)).1 = true) ∧ (({ Tests.standing ACTIVE with caps := ⟨.sc8x, false⟩ } : State).endpointAbsent (F.AU_SRC_ENDPOINT.of (F.AU_SRC_ENDPOINT.put (F.AU_SRC_VALID.put 0 1) 5 : W)) = true)) :=
  ⟨by decide +kernel, by decide +kernel⟩
theorem witness_auDstTargetWrite :
    (((Tests.standing ACTIVE : State).passes Tests.configure (putAuDst1 (Tests.standing ACTIVE : State) Tests.configure 7 (F.AU_DST_TINDEX.put (F.AU_DST_TPORT.put (F.AU_DST_TTYPE.put 0 tEMB) 1) 3 : W)).1 = true) ∧ (¬((Tests.standing ACTIVE : State).auAuto 7 = true ∨ ((auTType (F.AU_DST_TINDEX.put (F.AU_DST_TPORT.put (F.AU_DST_TTYPE.put 0 tEMB) 1) 3 : W), auTPort (F.AU_DST_TINDEX.put (F.AU_DST_TPORT.put (F.AU_DST_TTYPE.put 0 tEMB) 1) 3 : W), auTIndex (F.AU_DST_TINDEX.put (F.AU_DST_TPORT.put (F.AU_DST_TTYPE.put 0 tEMB) 1) 3 : W)) ≠ (auTType ((Tests.standing ACTIVE : State).auTarget 7), auTPort ((Tests.standing ACTIVE : State).auTarget 7), auTIndex ((Tests.standing ACTIVE : State).auTarget 7)) ∧ ((Tests.standing ACTIVE : State).fld F.AU_DST_LIVE 7 ≠ 0 ∨ ((Tests.standing ACTIVE : State).workOn .audio 7).isSome = true)))) ∧ (¬((auTType (F.AU_DST_TINDEX.put (F.AU_DST_TPORT.put (F.AU_DST_TTYPE.put 0 tEMB) 1) 3 : W) = tENDPOINT ∧ (Tests.standing ACTIVE : State).endpointAbsent (auTIndex (F.AU_DST_TINDEX.put (F.AU_DST_TPORT.put (F.AU_DST_TTYPE.put 0 tEMB) 1) 3 : W)) = true) ∨ (64 < F.AU_DST_DELAY.of (F.AU_DST_TINDEX.put (F.AU_DST_TPORT.put (F.AU_DST_TTYPE.put 0 tEMB) 1) 3 : W) ∧ (Tests.standing ACTIVE : State).caps.fsync = false))) ∧ (¬(auTType (F.AU_DST_TINDEX.put (F.AU_DST_TPORT.put (F.AU_DST_TTYPE.put 0 tEMB) 1) 3 : W) = tEMB ∧ channelsOf ((Tests.standing ACTIVE : State).port true (auTPort (F.AU_DST_TINDEX.put (F.AU_DST_TPORT.put (F.AU_DST_TTYPE.put 0 tEMB) 1) 3 : W))) ≤ auTIndex (F.AU_DST_TINDEX.put (F.AU_DST_TPORT.put (F.AU_DST_TTYPE.put 0 tEMB) 1) 3 : W))) ∧ ((auTType (F.AU_DST_TINDEX.put (F.AU_DST_TPORT.put (F.AU_DST_TTYPE.put 0 tEMB) 1) 3 : W) != 0 && (Tests.standing ACTIVE : State).auWords.any (fun x => x.1 != 7 && !(Tests.standing ACTIVE : State).auAuto x.1 && auTType x.2 == auTType (F.AU_DST_TINDEX.put (F.AU_DST_TPORT.put (F.AU_DST_TTYPE.put 0 tEMB) 1) 3 : W) && auTIndex x.2 == auTIndex (F.AU_DST_TINDEX.put (F.AU_DST_TPORT.put (F.AU_DST_TTYPE.put 0 tEMB) 1) 3 : W) && (if auTType (F.AU_DST_TINDEX.put (F.AU_DST_TPORT.put (F.AU_DST_TTYPE.put 0 tEMB) 1) 3 : W) = tEMB then auTPort x.2 == auTPort (F.AU_DST_TINDEX.put (F.AU_DST_TPORT.put (F.AU_DST_TTYPE.put 0 tEMB) 1) 3 : W) else x.1 / 8192 == 7 / 8192))) = false) ∧ ((Tests.standing ACTIVE : State).decides = true)) ∧
    ((((Tests.standing ACTIVE).setFld F.AU_DST_LIVE 7 5 : State).passes Tests.configure (putAuDst1 ((Tests.standing ACTIVE).setFld F.AU_DST_LIVE 7 5 : State) Tests.configure 7 (F.AU_DST_TINDEX.put (F.AU_DST_TPORT.put (F.AU_DST_TTYPE.put 0 tEMB) 1) 3 : W)).1 = true) ∧ ((((Tests.standing ACTIVE).setFld F.AU_DST_LIVE 7 5 : State).auAuto 7 = true ∨ ((auTType (F.AU_DST_TINDEX.put (F.AU_DST_TPORT.put (F.AU_DST_TTYPE.put 0 tEMB) 1) 3 : W), auTPort (F.AU_DST_TINDEX.put (F.AU_DST_TPORT.put (F.AU_DST_TTYPE.put 0 tEMB) 1) 3 : W), auTIndex (F.AU_DST_TINDEX.put (F.AU_DST_TPORT.put (F.AU_DST_TTYPE.put 0 tEMB) 1) 3 : W)) ≠ (auTType (((Tests.standing ACTIVE).setFld F.AU_DST_LIVE 7 5 : State).auTarget 7), auTPort (((Tests.standing ACTIVE).setFld F.AU_DST_LIVE 7 5 : State).auTarget 7), auTIndex (((Tests.standing ACTIVE).setFld F.AU_DST_LIVE 7 5 : State).auTarget 7)) ∧ (((Tests.standing ACTIVE).setFld F.AU_DST_LIVE 7 5 : State).fld F.AU_DST_LIVE 7 ≠ 0 ∨ (((Tests.standing ACTIVE).setFld F.AU_DST_LIVE 7 5 : State).workOn .audio 7).isSome = true))))) ∧
    ((({ Tests.standing ACTIVE with caps := ⟨.sc2e, false⟩ } : State).passes Tests.configure (putAuDst1 ({ Tests.standing ACTIVE with caps := ⟨.sc2e, false⟩ } : State) Tests.configure 7 (F.AU_DST_DELAY.put 0 65 : W)).1 = true) ∧ (¬(({ Tests.standing ACTIVE with caps := ⟨.sc2e, false⟩ } : State).auAuto 7 = true ∨ ((auTType (F.AU_DST_DELAY.put 0 65 : W), auTPort (F.AU_DST_DELAY.put 0 65 : W), auTIndex (F.AU_DST_DELAY.put 0 65 : W)) ≠ (auTType (({ Tests.standing ACTIVE with caps := ⟨.sc2e, false⟩ } : State).auTarget 7), auTPort (({ Tests.standing ACTIVE with caps := ⟨.sc2e, false⟩ } : State).auTarget 7), auTIndex (({ Tests.standing ACTIVE with caps := ⟨.sc2e, false⟩ } : State).auTarget 7)) ∧ (({ Tests.standing ACTIVE with caps := ⟨.sc2e, false⟩ } : State).fld F.AU_DST_LIVE 7 ≠ 0 ∨ (({ Tests.standing ACTIVE with caps := ⟨.sc2e, false⟩ } : State).workOn .audio 7).isSome = true)))) ∧ (((auTType (F.AU_DST_DELAY.put 0 65 : W) = tENDPOINT ∧ ({ Tests.standing ACTIVE with caps := ⟨.sc2e, false⟩ } : State).endpointAbsent (auTIndex (F.AU_DST_DELAY.put 0 65 : W)) = true) ∨ (64 < F.AU_DST_DELAY.of (F.AU_DST_DELAY.put 0 65 : W) ∧ ({ Tests.standing ACTIVE with caps := ⟨.sc2e, false⟩ } : State).caps.fsync = false)))) ∧
    (((Tests.standing ACTIVE : State).passes Tests.configure (putAuDst1 (Tests.standing ACTIVE : State) Tests.configure 7 (F.AU_DST_TINDEX.put (F.AU_DST_TPORT.put (F.AU_DST_TTYPE.put 0 tEMB) 1) 30 : W)).1 = true) ∧ (¬((Tests.standing ACTIVE : State).auAuto 7 = true ∨ ((auTType (F.AU_DST_TINDEX.put (F.AU_DST_TPORT.put (F.AU_DST_TTYPE.put 0 tEMB) 1) 30 : W), auTPort (F.AU_DST_TINDEX.put (F.AU_DST_TPORT.put (F.AU_DST_TTYPE.put 0 tEMB) 1) 30 : W), auTIndex (F.AU_DST_TINDEX.put (F.AU_DST_TPORT.put (F.AU_DST_TTYPE.put 0 tEMB) 1) 30 : W)) ≠ (auTType ((Tests.standing ACTIVE : State).auTarget 7), auTPort ((Tests.standing ACTIVE : State).auTarget 7), auTIndex ((Tests.standing ACTIVE : State).auTarget 7)) ∧ ((Tests.standing ACTIVE : State).fld F.AU_DST_LIVE 7 ≠ 0 ∨ ((Tests.standing ACTIVE : State).workOn .audio 7).isSome = true)))) ∧ (¬((auTType (F.AU_DST_TINDEX.put (F.AU_DST_TPORT.put (F.AU_DST_TTYPE.put 0 tEMB) 1) 30 : W) = tENDPOINT ∧ (Tests.standing ACTIVE : State).endpointAbsent (auTIndex (F.AU_DST_TINDEX.put (F.AU_DST_TPORT.put (F.AU_DST_TTYPE.put 0 tEMB) 1) 30 : W)) = true) ∨ (64 < F.AU_DST_DELAY.of (F.AU_DST_TINDEX.put (F.AU_DST_TPORT.put (F.AU_DST_TTYPE.put 0 tEMB) 1) 30 : W) ∧ (Tests.standing ACTIVE : State).caps.fsync = false))) ∧ ((auTType (F.AU_DST_TINDEX.put (F.AU_DST_TPORT.put (F.AU_DST_TTYPE.put 0 tEMB) 1) 30 : W) = tEMB ∧ channelsOf ((Tests.standing ACTIVE : State).port true (auTPort (F.AU_DST_TINDEX.put (F.AU_DST_TPORT.put (F.AU_DST_TTYPE.put 0 tEMB) 1) 30 : W))) ≤ auTIndex (F.AU_DST_TINDEX.put (F.AU_DST_TPORT.put (F.AU_DST_TTYPE.put 0 tEMB) 1) 30 : W)))) ∧
    ((((Tests.standing ACTIVE).setWord 0x3020 9 1 (F.AU_DST_TINDEX.put (F.AU_DST_TPORT.put (F.AU_DST_TTYPE.put 0 tEMB) 1) 3) : State).passes Tests.configure (putAuDst1 ((Tests.standing ACTIVE).setWord 0x3020 9 1 (F.AU_DST_TINDEX.put (F.AU_DST_TPORT.put (F.AU_DST_TTYPE.put 0 tEMB) 1) 3) : State) Tests.configure 7 (F.AU_DST_TINDEX.put (F.AU_DST_TPORT.put (F.AU_DST_TTYPE.put 0 tEMB) 1) 3 : W)).1 = true) ∧ (¬(((Tests.standing ACTIVE).setWord 0x3020 9 1 (F.AU_DST_TINDEX.put (F.AU_DST_TPORT.put (F.AU_DST_TTYPE.put 0 tEMB) 1) 3) : State).auAuto 7 = true ∨ ((auTType (F.AU_DST_TINDEX.put (F.AU_DST_TPORT.put (F.AU_DST_TTYPE.put 0 tEMB) 1) 3 : W), auTPort (F.AU_DST_TINDEX.put (F.AU_DST_TPORT.put (F.AU_DST_TTYPE.put 0 tEMB) 1) 3 : W), auTIndex (F.AU_DST_TINDEX.put (F.AU_DST_TPORT.put (F.AU_DST_TTYPE.put 0 tEMB) 1) 3 : W)) ≠ (auTType (((Tests.standing ACTIVE).setWord 0x3020 9 1 (F.AU_DST_TINDEX.put (F.AU_DST_TPORT.put (F.AU_DST_TTYPE.put 0 tEMB) 1) 3) : State).auTarget 7), auTPort (((Tests.standing ACTIVE).setWord 0x3020 9 1 (F.AU_DST_TINDEX.put (F.AU_DST_TPORT.put (F.AU_DST_TTYPE.put 0 tEMB) 1) 3) : State).auTarget 7), auTIndex (((Tests.standing ACTIVE).setWord 0x3020 9 1 (F.AU_DST_TINDEX.put (F.AU_DST_TPORT.put (F.AU_DST_TTYPE.put 0 tEMB) 1) 3) : State).auTarget 7)) ∧ (((Tests.standing ACTIVE).setWord 0x3020 9 1 (F.AU_DST_TINDEX.put (F.AU_DST_TPORT.put (F.AU_DST_TTYPE.put 0 tEMB) 1) 3) : State).fld F.AU_DST_LIVE 7 ≠ 0 ∨ (((Tests.standing ACTIVE).setWord 0x3020 9 1 (F.AU_DST_TINDEX.put (F.AU_DST_TPORT.put (F.AU_DST_TTYPE.put 0 tEMB) 1) 3) : State).workOn .audio 7).isSome = true)))) ∧ (¬((auTType (F.AU_DST_TINDEX.put (F.AU_DST_TPORT.put (F.AU_DST_TTYPE.put 0 tEMB) 1) 3 : W) = tENDPOINT ∧ ((Tests.standing ACTIVE).setWord 0x3020 9 1 (F.AU_DST_TINDEX.put (F.AU_DST_TPORT.put (F.AU_DST_TTYPE.put 0 tEMB) 1) 3) : State).endpointAbsent (auTIndex (F.AU_DST_TINDEX.put (F.AU_DST_TPORT.put (F.AU_DST_TTYPE.put 0 tEMB) 1) 3 : W)) = true) ∨ (64 < F.AU_DST_DELAY.of (F.AU_DST_TINDEX.put (F.AU_DST_TPORT.put (F.AU_DST_TTYPE.put 0 tEMB) 1) 3 : W) ∧ ((Tests.standing ACTIVE).setWord 0x3020 9 1 (F.AU_DST_TINDEX.put (F.AU_DST_TPORT.put (F.AU_DST_TTYPE.put 0 tEMB) 1) 3) : State).caps.fsync = false))) ∧ (¬(auTType (F.AU_DST_TINDEX.put (F.AU_DST_TPORT.put (F.AU_DST_TTYPE.put 0 tEMB) 1) 3 : W) = tEMB ∧ channelsOf (((Tests.standing ACTIVE).setWord 0x3020 9 1 (F.AU_DST_TINDEX.put (F.AU_DST_TPORT.put (F.AU_DST_TTYPE.put 0 tEMB) 1) 3) : State).port true (auTPort (F.AU_DST_TINDEX.put (F.AU_DST_TPORT.put (F.AU_DST_TTYPE.put 0 tEMB) 1) 3 : W))) ≤ auTIndex (F.AU_DST_TINDEX.put (F.AU_DST_TPORT.put (F.AU_DST_TTYPE.put 0 tEMB) 1) 3 : W))) ∧ ((auTType (F.AU_DST_TINDEX.put (F.AU_DST_TPORT.put (F.AU_DST_TTYPE.put 0 tEMB) 1) 3 : W) != 0 && ((Tests.standing ACTIVE).setWord 0x3020 9 1 (F.AU_DST_TINDEX.put (F.AU_DST_TPORT.put (F.AU_DST_TTYPE.put 0 tEMB) 1) 3) : State).auWords.any (fun x => x.1 != 7 && !((Tests.standing ACTIVE).setWord 0x3020 9 1 (F.AU_DST_TINDEX.put (F.AU_DST_TPORT.put (F.AU_DST_TTYPE.put 0 tEMB) 1) 3) : State).auAuto x.1 && auTType x.2 == auTType (F.AU_DST_TINDEX.put (F.AU_DST_TPORT.put (F.AU_DST_TTYPE.put 0 tEMB) 1) 3 : W) && auTIndex x.2 == auTIndex (F.AU_DST_TINDEX.put (F.AU_DST_TPORT.put (F.AU_DST_TTYPE.put 0 tEMB) 1) 3 : W) && (if auTType (F.AU_DST_TINDEX.put (F.AU_DST_TPORT.put (F.AU_DST_TTYPE.put 0 tEMB) 1) 3 : W) = tEMB then auTPort x.2 == auTPort (F.AU_DST_TINDEX.put (F.AU_DST_TPORT.put (F.AU_DST_TTYPE.put 0 tEMB) 1) 3 : W) else x.1 / 8192 == 7 / 8192))) = true)) :=
  ⟨by decide +kernel, by decide +kernel, by decide +kernel, by decide +kernel, by decide +kernel⟩
theorem witness_audioChangeCommit :
    ((((Tests.standing ACTIVE).setWord 0x3020 7 1 (F.AU_DST_TINDEX.put (F.AU_DST_TPORT.put (F.AU_DST_TTYPE.put 0 tEMB) 1) 3) : State).passes Tests.operate (putAuDst0 ((Tests.standing ACTIVE).setWord 0x3020 7 1 (F.AU_DST_TINDEX.put (F.AU_DST_TPORT.put (F.AU_DST_TTYPE.put 0 tEMB) 1) 3) : State) Tests.operate 7 (withOp F.AU_DST_OP 0 1 : W)).1 = true) ∧ ((withOp F.AU_DST_OP 0 1 : W) = withOp F.AU_DST_OP (0 : W) 1) ∧ (((Tests.standing ACTIVE).setWord 0x3020 7 1 (F.AU_DST_TINDEX.put (F.AU_DST_TPORT.put (F.AU_DST_TTYPE.put 0 tEMB) 1) 3) : State).decides = true) ∧ (((Tests.standing ACTIVE).setWord 0x3020 7 1 (F.AU_DST_TINDEX.put (F.AU_DST_TPORT.put (F.AU_DST_TTYPE.put 0 tEMB) 1) 3) : State).auAuto 7 = false) ∧ (((Tests.standing ACTIVE).setWord 0x3020 7 1 (F.AU_DST_TINDEX.put (F.AU_DST_TPORT.put (F.AU_DST_TTYPE.put 0 tEMB) 1) 3) : State).workOn .audio 7 = none) ∧ (((Tests.standing ACTIVE).setWord 0x3020 7 1 (F.AU_DST_TINDEX.put (F.AU_DST_TPORT.put (F.AU_DST_TTYPE.put 0 tEMB) 1) 3) : State).admits = true) ∧ (((Tests.standing ACTIVE).setWord 0x3020 7 1 (F.AU_DST_TINDEX.put (F.AU_DST_TPORT.put (F.AU_DST_TTYPE.put 0 tEMB) 1) 3) : State).workNeeds .audio 7 (withOp F.AU_DST_OP 0 1 : W) = false) ∧ (((Tests.standing ACTIVE).setWord 0x3020 7 1 (F.AU_DST_TINDEX.put (F.AU_DST_TPORT.put (F.AU_DST_TTYPE.put 0 tEMB) 1) 3) : State).audioCheck (((Tests.standing ACTIVE).setWord 0x3020 7 1 (F.AU_DST_TINDEX.put (F.AU_DST_TPORT.put (F.AU_DST_TTYPE.put 0 tEMB) 1) 3) : State).workNeeds .audio 7 (withOp F.AU_DST_OP 0 1 : W)) 7 (withOp F.AU_DST_OP 0 1 : W) = none) ∧ (F.AU_DST_SALVO.of (withOp F.AU_DST_OP 0 1 : W) = 0) ∧ ((((Tests.standing ACTIVE).setWord 0x3020 7 1 (F.AU_DST_TINDEX.put (F.AU_DST_TPORT.put (F.AU_DST_TTYPE.put 0 tEMB) 1) 3) : State).xp.work.all fun y => y.salvo == 0) = true) ∧ (format (((Tests.standing ACTIVE).setWord 0x3020 7 1 (F.AU_DST_TINDEX.put (F.AU_DST_TPORT.put (F.AU_DST_TTYPE.put 0 tEMB) 1) 3) : State).workFormat false .audio 7 (withOp F.AU_DST_OP 0 1 : W)) = some (((format 0x31).getD ⟨1, 1, 1, 1, 1, 1, 1, 1, 1, 1, 1, 1, 0⟩) : Format)) ∧ ((((format 0x31).getD ⟨1, 1, 1, 1, 1, 1, 1, 1, 1, 1, 1, 1, 0⟩) : Format).judge false (whenNEXT.due (((format 0x31).getD ⟨1, 1, 1, 1, 1, 1, 1, 1, 1, 1, 1, 1, 0⟩) : Format) false ((Tests.standing ACTIVE).setWord 0x3020 7 1 (F.AU_DST_TINDEX.put (F.AU_DST_TPORT.put (F.AU_DST_TTYPE.put 0 tEMB) 1) 3) : State).house) ((Tests.standing ACTIVE).setWord 0x3020 7 1 (F.AU_DST_TINDEX.put (F.AU_DST_TPORT.put (F.AU_DST_TTYPE.put 0 tEMB) 1) 3) : State).house ≠ .expired)) ∧
    (((withOp F.AU_DST_OP 0 1 : W) = withOp F.AU_DST_OP (0 : W) 1) ∧ ((Tests.standing ACTIVE : State).passes Tests.operate (putAuDst0 (Tests.standing ACTIVE : State) Tests.operate 7 (withOp F.AU_DST_OP 0 1 : W)).1 = true) ∧ ((Tests.standing ACTIVE : State).decides = true) ∧ ((Tests.standing ACTIVE : State).auAuto 7 = false) ∧ ((Tests.standing ACTIVE : State).workOn .audio 7 = none) ∧ ((Tests.standing ACTIVE : State).admits = true) ∧ ((Tests.standing ACTIVE : State).audioCheck ((Tests.standing ACTIVE : State).workNeeds .audio 7 (withOp F.AU_DST_OP 0 1 : W)) 7 (withOp F.AU_DST_OP 0 1 : W) ≠ none)) ∧
    (((withOp F.AU_DST_OP 0 1 : W) = withOp F.AU_DST_OP (0 : W) 1) ∧ ((Tests.holding (Tests.work .audio tsPENDING 0 0) : State).passes Tests.operate (putAuDst0 (Tests.holding (Tests.work .audio tsPENDING 0 0) : State) Tests.operate 0 (withOp F.AU_DST_OP 0 1 : W)).1 = true) ∧ ((Tests.holding (Tests.work .audio tsPENDING 0 0) : State).decides = true) ∧ ((Tests.holding (Tests.work .audio tsPENDING 0 0) : State).auAuto 0 = true ∨ (Tests.holding (Tests.work .audio tsPENDING 0 0) : State).workOn .audio 0 ≠ none)) ∧
    (((withOp F.AU_DST_OP 0 1 : W) = withOp F.AU_DST_OP (0 : W) 1) ∧ (({ Tests.standing ACTIVE with regs := ((((Tests.standing ACTIVE).setFld F.TW_CONFIG_EN 0 1).setFld F.TW_STATE_SYNC 0 syncLOCKSTEP).setFld F.TW_STATE_LINK 0 1).regs } : State).passes Tests.operate (putAuDst0 ({ Tests.standing ACTIVE with regs := ((((Tests.standing ACTIVE).setFld F.TW_CONFIG_EN 0 1).setFld F.TW_STATE_SYNC 0 syncLOCKSTEP).setFld F.TW_STATE_LINK 0 1).regs } : State) Tests.operate 7 (withOp F.AU_DST_OP 0 1 : W)).1 = true) ∧ (({ Tests.standing ACTIVE with regs := ((((Tests.standing ACTIVE).setFld F.TW_CONFIG_EN 0 1).setFld F.TW_STATE_SYNC 0 syncLOCKSTEP).setFld F.TW_STATE_LINK 0 1).regs } : State).decides = false)) :=
  ⟨by decide +kernel, by decide +kernel, by decide +kernel, by decide +kernel⟩
theorem witness_audioChangeCancel :
    (((Tests.holding (Tests.work .audio tsPENDING 0 0) : State).passes Tests.operate (putAuDst0 (Tests.holding (Tests.work .audio tsPENDING 0 0) : State) Tests.operate 0 (withOp F.AU_DST_OP (0 : W) 2)).1 = true) ∧ ((Tests.holding (Tests.work .audio tsPENDING 0 0) : State).decides = true) ∧ ((Tests.holding (Tests.work .audio tsPENDING 0 0) : State).workOn .audio 0 = some (Tests.work .audio tsPENDING 0 0 : Work)) ∧ ((Tests.work .audio tsPENDING 0 0 : Work).salvo = 0) ∧ ((Tests.work .audio tsPENDING 0 0 : Work).state = tsHELD ∨ ((Tests.work .audio tsPENDING 0 0 : Work).state = tsPENDING ∧ (Tests.work .audio tsPENDING 0 0 : Work).jumped = false ∧ format (Tests.work .audio tsPENDING 0 0 : Work).fmt = some (((format 0x31).getD ⟨1, 1, 1, 1, 1, 1, 1, 1, 1, 1, 1, 1, 0⟩) : Format) ∧ (((format 0x31).getD ⟨1, 1, 1, 1, 1, 1, 1, 1, 1, 1, 1, 1, 0⟩) : Format).inTime (Tests.work .audio tsPENDING 0 0 : Work).field (Tests.work .audio tsPENDING 0 0 : Work).land (Tests.holding (Tests.work .audio tsPENDING 0 0) : State).house = true))) ∧
    (((Tests.standing ACTIVE : State).passes Tests.operate (putAuDst0 (Tests.standing ACTIVE : State) Tests.operate 0 (withOp F.AU_DST_OP (0 : W) 2)).1 = true) ∧ ((Tests.standing ACTIVE : State).decides = true) ∧ ((Tests.standing ACTIVE : State).workOn .audio 0 = none)) ∧
    ((({ Tests.standing ACTIVE with regs := ((((Tests.standing ACTIVE).setFld F.TW_CONFIG_EN 0 1).setFld F.TW_STATE_SYNC 0 syncLOCKSTEP).setFld F.TW_STATE_LINK 0 1).regs } : State).passes Tests.operate (putAuDst0 ({ Tests.standing ACTIVE with regs := ((((Tests.standing ACTIVE).setFld F.TW_CONFIG_EN 0 1).setFld F.TW_STATE_SYNC 0 syncLOCKSTEP).setFld F.TW_STATE_LINK 0 1).regs } : State) Tests.operate 0 (withOp F.AU_DST_OP (0 : W) 2)).1 = true) ∧ (({ Tests.standing ACTIVE with regs := ((((Tests.standing ACTIVE).setFld F.TW_CONFIG_EN 0 1).setFld F.TW_STATE_SYNC 0 syncLOCKSTEP).setFld F.TW_STATE_LINK 0 1).regs } : State).decides = false)) :=
  ⟨by decide +kernel, by decide +kernel, by decide +kernel⟩
theorem witness_auGainWrite :
    (((Tests.standing ACTIVE : State).passes Tests.configure (putAuGain Tests.configure 3 (0x8000 : W)).1 = true) ∧ ((Tests.standing ACTIVE : State).decides = true)) ∧
    (((Tests.twin syncLOCKSTEP 0 : State).passes Tests.configure (putAuGain Tests.configure 3 (0x8000 : W)).1 = true) ∧ ((Tests.twin syncLOCKSTEP 0 : State).decides = false)) :=
  ⟨by decide +kernel, by decide +kernel⟩
theorem witness_audioTransitionTimeout :
    ((({ Tests.inMode ACTIVE with au := { State.reset.au with chans := [Tests.chan] } } : State).enginesRun = true) ∧ (({ Tests.inMode ACTIVE with au := { State.reset.au with chans := [Tests.chan] } } : State).au.chans.find? (fun y => y.id == 0) = some Tests.chan) ∧ (Tests.chan.trs.find? (fun y => y.method == 0 && y.phase < 2) = some Tests.zc)) ∧
    ((State.reset.enginesRun = false ∨ State.reset.au.chans.find? (fun y => y.id == 0) = none ∨ (State.reset.au.chans.find? (fun y => y.id == 0) = some Tests.chan ∧ Tests.chan.trs.find? (fun y => y.method == 0 && y.phase < 2) = none))) :=
  ⟨by decide +kernel, by decide +kernel⟩
theorem witness_cmLayerWrite :
    (((Tests.standing ACTIVE : State).passes Tests.configure (putLayer (Tests.standing ACTIVE : State) Tests.configure 9 [(1, (F.CM_LAYER_WIDTH.put 0 64 : W))]).1 = true) ∧ (1 < 3) ∧ ((Tests.standing ACTIVE : State).layerHeld 9 = false)) ∧
    (((Tests.holding (Tests.work .head tsPENDING 0 (F.CM_HEAD_LMASK.put 0 1)) : State).passes Tests.configure (putLayer (Tests.holding (Tests.work .head tsPENDING 0 (F.CM_HEAD_LMASK.put 0 1)) : State) Tests.configure 0 [(1, (F.CM_LAYER_WIDTH.put 0 64 : W))]).1 = true) ∧ ((Tests.holding (Tests.work .head tsPENDING 0 (F.CM_HEAD_LMASK.put 0 1)) : State).layerHeld 0 = true)) :=
  ⟨by decide +kernel, by decide +kernel⟩
theorem witness_cmImageWrite :
    (((Tests.standing ACTIVE : State).passes Tests.configure (putImage 3 (F.CM_IMAGE_HEIGHT.put (F.CM_IMAGE_WIDTH.put (F.CM_IMAGE_VALID.put 0 1) 16) 16 : W)).1 = true) ∧ (((entriesOf (Tests.standing ACTIVE : State).regs 0x3830).any fun x => x.1 != 3 && x.1 / 1024 == 3 / 1024 && imageMeets (F.CM_IMAGE_HEIGHT.put (F.CM_IMAGE_WIDTH.put (F.CM_IMAGE_VALID.put 0 1) 16) 16 : W) x.2) = false) ∧ ((Tests.standing ACTIVE : State).imageBusy (3 / 1024) (3 % 1024) = false)) ∧
    ((((Tests.standing ACTIVE).setWord 0x3830 4 0 (F.CM_IMAGE_HEIGHT.put (F.CM_IMAGE_WIDTH.put (F.CM_IMAGE_VALID.put 0 1) 16) 16) : State).passes Tests.configure (putImage 3 (F.CM_IMAGE_HEIGHT.put (F.CM_IMAGE_WIDTH.put (F.CM_IMAGE_VALID.put 0 1) 16) 16 : W)).1 = true) ∧ (((entriesOf ((Tests.standing ACTIVE).setWord 0x3830 4 0 (F.CM_IMAGE_HEIGHT.put (F.CM_IMAGE_WIDTH.put (F.CM_IMAGE_VALID.put 0 1) 16) 16) : State).regs 0x3830).any fun x => x.1 != 3 && x.1 / 1024 == 3 / 1024 && imageMeets (F.CM_IMAGE_HEIGHT.put (F.CM_IMAGE_WIDTH.put (F.CM_IMAGE_VALID.put 0 1) 16) 16 : W) x.2) = true)) ∧
    (((((Tests.standing ACTIVE).setWord 0x3830 0 0 (F.CM_IMAGE_HEIGHT.put (F.CM_IMAGE_WIDTH.put (F.CM_IMAGE_VALID.put 0 1) 16) 16)).setWord 0x3820 0 0 (F.CM_LAYER_FALLBACK.put (F.CM_LAYER_CLASS.put 0 1) 2) : State).passes Tests.configure (putImage 0 (F.CM_IMAGE_HEIGHT.put (F.CM_IMAGE_WIDTH.put (F.CM_IMAGE_VALID.put 0 1) 16) 16 : W)).1 = true) ∧ (((entriesOf (((Tests.standing ACTIVE).setWord 0x3830 0 0 (F.CM_IMAGE_HEIGHT.put (F.CM_IMAGE_WIDTH.put (F.CM_IMAGE_VALID.put 0 1) 16) 16)).setWord 0x3820 0 0 (F.CM_LAYER_FALLBACK.put (F.CM_LAYER_CLASS.put 0 1) 2) : State).regs 0x3830).any fun x => x.1 != 0 && x.1 / 1024 == 0 / 1024 && imageMeets (F.CM_IMAGE_HEIGHT.put (F.CM_IMAGE_WIDTH.put (F.CM_IMAGE_VALID.put 0 1) 16) 16 : W) x.2) = false) ∧ ((((Tests.standing ACTIVE).setWord 0x3830 0 0 (F.CM_IMAGE_HEIGHT.put (F.CM_IMAGE_WIDTH.put (F.CM_IMAGE_VALID.put 0 1) 16) 16)).setWord 0x3820 0 0 (F.CM_LAYER_FALLBACK.put (F.CM_LAYER_CLASS.put 0 1) 2) : State).imageBusy (0 / 1024) (0 % 1024) = true)) :=
  ⟨by decide +kernel, by decide +kernel, by decide +kernel⟩
theorem witness_cmPixelsWrite : (((Tests.standing ACTIVE : State).passes Tests.configure (putPixels 12345 (99 : W)).1 = true) ∧ ((((Tests.standing ACTIVE : State).imagesFlattening (12345 / 2 ^ 29) ++ (Tests.standing ACTIVE : State).imagesDynamic (12345 / 2 ^ 29)).any fun i => imageHolds ((Tests.standing ACTIVE : State).image (12345 / 2 ^ 29) i) (12345 % 2 ^ 29)) = false)) := by decide +kernel
theorem witness_cmPaletteWrite : (((Tests.standing ACTIVE : State).passes Tests.configure (putPalette 5 (F.CM_PALETTE_Y.put 0 3 : W)).1 = true) ∧ ((((Tests.standing ACTIVE : State).layerWords (5 / 256)).any fun w0 => (lPalette w0).contains (5 % 256)) = false)) := by decide +kernel
theorem witness_headCommit :
    (((Tests.standing ACTIVE : State).passes Tests.operate (putHead (Tests.standing ACTIVE : State) Tests.operate 0 (withOp F.CM_HEAD_OP (F.CM_HEAD_CFG.put 0 1) 1 : W) (some (0 : W))).1 = true) ∧ ((withOp F.CM_HEAD_OP (F.CM_HEAD_CFG.put 0 1) 1 : W) = withOp F.CM_HEAD_OP (F.CM_HEAD_CFG.put 0 1 : W) 1) ∧ ((0 : W) = (Tests.standing ACTIVE : State).shadowWord 0x3810 0 1) ∧ ((Tests.standing ACTIVE : State).decides = true) ∧ ((Tests.standing ACTIVE : State).workOn .head 0 = none) ∧ ((Tests.standing ACTIVE : State).admits = true) ∧ ((Tests.standing ACTIVE : State).workNeeds .head 0 (withOp F.CM_HEAD_OP (F.CM_HEAD_CFG.put 0 1) 1 : W) = false) ∧ ((Tests.standing ACTIVE : State).headCheck ((Tests.standing ACTIVE : State).workNeeds .head 0 (withOp F.CM_HEAD_OP (F.CM_HEAD_CFG.put 0 1) 1 : W)) 0 (withOp F.CM_HEAD_OP (F.CM_HEAD_CFG.put 0 1) 1 : W) = none) ∧ (F.CM_HEAD_SALVO.of (withOp F.CM_HEAD_OP (F.CM_HEAD_CFG.put 0 1) 1 : W) = 0) ∧ ((Tests.standing ACTIVE : State).commitImages false 0 (withOp F.CM_HEAD_OP (F.CM_HEAD_CFG.put 0 1) 1 : W) = []) ∧ ((Tests.standing ACTIVE : State).headShort false 0 (withOp F.CM_HEAD_OP (F.CM_HEAD_CFG.put 0 1) 1 : W) [] = false) ∧ (((Tests.standing ACTIVE : State).xp.work.all fun y => y.salvo == 0) = true) ∧ (format ((Tests.standing ACTIVE : State).workFormat false .head 0 (withOp F.CM_HEAD_OP (F.CM_HEAD_CFG.put 0 1) 1 : W)) = some (((format 0x31).getD ⟨1, 1, 1, 1, 1, 1, 1, 1, 1, 1, 1, 1, 0⟩) : Format)) ∧ ((((format 0x31).getD ⟨1, 1, 1, 1, 1, 1, 1, 1, 1, 1, 1, 1, 0⟩) : Format).judge false (whenNEXT.due (((format 0x31).getD ⟨1, 1, 1, 1, 1, 1, 1, 1, 1, 1, 1, 1, 0⟩) : Format) false (Tests.standing ACTIVE : State).house) (Tests.standing ACTIVE : State).house ≠ .expired)) ∧
    (((withOp F.CM_HEAD_OP (F.CM_HEAD_CFG.put 0 1) 1 : W) = withOp F.CM_HEAD_OP (F.CM_HEAD_CFG.put 0 1 : W) 1) ∧ ((F.CM_HEAD_DEST.put 0 2 : W) = ((Tests.standing ACTIVE).setShadow 0x3810 0 1 (F.CM_HEAD_DEST.put 0 2) : State).shadowWord 0x3810 0 1) ∧ (((Tests.standing ACTIVE).setShadow 0x3810 0 1 (F.CM_HEAD_DEST.put 0 2) : State).passes Tests.operate (putHead ((Tests.standing ACTIVE).setShadow 0x3810 0 1 (F.CM_HEAD_DEST.put 0 2) : State) Tests.operate 0 (withOp F.CM_HEAD_OP (F.CM_HEAD_CFG.put 0 1) 1 : W) (some (F.CM_HEAD_DEST.put 0 2 : W))).1 = true) ∧ (((Tests.standing ACTIVE).setShadow 0x3810 0 1 (F.CM_HEAD_DEST.put 0 2) : State).decides = true) ∧ (((Tests.standing ACTIVE).setShadow 0x3810 0 1 (F.CM_HEAD_DEST.put 0 2) : State).workOn .head 0 = none) ∧ (((Tests.standing ACTIVE).setShadow 0x3810 0 1 (F.CM_HEAD_DEST.put 0 2) : State).admits = true) ∧ (((Tests.standing ACTIVE).setShadow 0x3810 0 1 (F.CM_HEAD_DEST.put 0 2) : State).headCheck (((Tests.standing ACTIVE).setShadow 0x3810 0 1 (F.CM_HEAD_DEST.put 0 2) : State).workNeeds .head 0 (withOp F.CM_HEAD_OP (F.CM_HEAD_CFG.put 0 1) 1 : W)) 0 (withOp F.CM_HEAD_OP (F.CM_HEAD_CFG.put 0 1) 1 : W) ≠ none)) ∧
    (((withOp F.CM_HEAD_OP (F.CM_HEAD_CFG.put 0 1) 1 : W) = withOp F.CM_HEAD_OP (F.CM_HEAD_CFG.put 0 1 : W) 1) ∧ ((0 : W) = (Tests.holding (Tests.work .head tsPENDING 0 0) : State).shadowWord 0x3810 0 1) ∧ ((Tests.holding (Tests.work .head tsPENDING 0 0) : State).passes Tests.operate (putHead (Tests.holding (Tests.work .head tsPENDING 0 0) : State) Tests.operate 0 (withOp F.CM_HEAD_OP (F.CM_HEAD_CFG.put 0 1) 1 : W) (some (0 : W))).1 = true) ∧ ((Tests.holding (Tests.work .head tsPENDING 0 0) : State).decides = true) ∧ ((Tests.holding (Tests.work .head tsPENDING 0 0) : State).workOn .head 0 ≠ none)) ∧
    (((withOp F.CM_HEAD_OP (F.CM_HEAD_CFG.put 0 1) 1 : W) = withOp F.CM_HEAD_OP (F.CM_HEAD_CFG.put 0 1 : W) 1) ∧ ((Tests.standing ACTIVE : State).passes Tests.configure (putHead (Tests.standing ACTIVE : State) Tests.configure 0 (withOp F.CM_HEAD_OP (F.CM_HEAD_CFG.put 0 1) 1 : W) (some (F.CM_HEAD_DEST.put 0 1 : W))).1 = true)) ∧
    (((withOp F.CM_HEAD_OP (F.CM_HEAD_CFG.put 0 1) 1 : W) = withOp F.CM_HEAD_OP (F.CM_HEAD_CFG.put 0 1 : W) 1) ∧ ((0 : W) = ({ Tests.standing ACTIVE with regs := ((((Tests.standing ACTIVE).setFld F.TW_CONFIG_EN 0 1).setFld F.TW_STATE_SYNC 0 syncLOCKSTEP).setFld F.TW_STATE_LINK 0 1).regs } : State).shadowWord 0x3810 0 1) ∧ (({ Tests.standing ACTIVE with regs := ((((Tests.standing ACTIVE).setFld F.TW_CONFIG_EN 0 1).setFld F.TW_STATE_SYNC 0 syncLOCKSTEP).setFld F.TW_STATE_LINK 0 1).regs } : State).passes Tests.operate (putHead ({ Tests.standing ACTIVE with regs := ((((Tests.standing ACTIVE).setFld F.TW_CONFIG_EN 0 1).setFld F.TW_STATE_SYNC 0 syncLOCKSTEP).setFld F.TW_STATE_LINK 0 1).regs } : State) Tests.operate 0 (withOp F.CM_HEAD_OP (F.CM_HEAD_CFG.put 0 1) 1 : W) (some (0 : W))).1 = true) ∧ (({ Tests.standing ACTIVE with regs := ((((Tests.standing ACTIVE).setFld F.TW_CONFIG_EN 0 1).setFld F.TW_STATE_SYNC 0 syncLOCKSTEP).setFld F.TW_STATE_LINK 0 1).regs } : State).decides = false)) :=
  ⟨by decide +kernel, by decide +kernel, by decide +kernel, by decide +kernel, by decide +kernel⟩
theorem witness_headCancel :
    (((Tests.holding (Tests.work .head tsPENDING 0 0) : State).passes Tests.operate (putHead0 (Tests.holding (Tests.work .head tsPENDING 0 0) : State) Tests.operate 0 (withOp F.CM_HEAD_OP (0 : W) 2)).1 = true) ∧ ((Tests.holding (Tests.work .head tsPENDING 0 0) : State).decides = true) ∧ ((Tests.holding (Tests.work .head tsPENDING 0 0) : State).workOn .head 0 = some (Tests.work .head tsPENDING 0 0 : Work)) ∧ ((Tests.work .head tsPENDING 0 0 : Work).salvo = 0) ∧ ((Tests.work .head tsPENDING 0 0 : Work).state = tsHELD ∨ ((Tests.work .head tsPENDING 0 0 : Work).state = tsPENDING ∧ (Tests.work .head tsPENDING 0 0 : Work).jumped = false ∧ format (Tests.work .head tsPENDING 0 0 : Work).fmt = some (((format 0x31).getD ⟨1, 1, 1, 1, 1, 1, 1, 1, 1, 1, 1, 1, 0⟩) : Format) ∧ (((format 0x31).getD ⟨1, 1, 1, 1, 1, 1, 1, 1, 1, 1, 1, 1, 0⟩) : Format).inTime (Tests.work .head tsPENDING 0 0 : Work).field (Tests.work .head tsPENDING 0 0 : Work).land (Tests.holding (Tests.work .head tsPENDING 0 0) : State).house = true))) ∧
    (((Tests.standing ACTIVE : State).passes Tests.operate (putHead0 (Tests.standing ACTIVE : State) Tests.operate 0 (withOp F.CM_HEAD_OP (0 : W) 2)).1 = true) ∧ ((Tests.standing ACTIVE : State).decides = true) ∧ ((Tests.standing ACTIVE : State).workOn .head 0 = none)) ∧
    ((({ Tests.standing ACTIVE with regs := ((((Tests.standing ACTIVE).setFld F.TW_CONFIG_EN 0 1).setFld F.TW_STATE_SYNC 0 syncLOCKSTEP).setFld F.TW_STATE_LINK 0 1).regs } : State).passes Tests.operate (putHead0 ({ Tests.standing ACTIVE with regs := ((((Tests.standing ACTIVE).setFld F.TW_CONFIG_EN 0 1).setFld F.TW_STATE_SYNC 0 syncLOCKSTEP).setFld F.TW_STATE_LINK 0 1).regs } : State) Tests.operate 0 (withOp F.CM_HEAD_OP (0 : W) 2)).1 = true) ∧ (({ Tests.standing ACTIVE with regs := ((((Tests.standing ACTIVE).setFld F.TW_CONFIG_EN 0 1).setFld F.TW_STATE_SYNC 0 syncLOCKSTEP).setFld F.TW_STATE_LINK 0 1).regs } : State).decides = false)) :=
  ⟨by decide +kernel, by decide +kernel, by decide +kernel⟩
theorem witness_flattenDone :
    ((((Tests.standing ACTIVE).setFld F.CM_HEAD_FLAT 3 1 : State).fld F.CM_HEAD_FLAT 3 = 1)) ∧
    ((((Tests.standing ACTIVE).setFld F.CM_HEAD_FLAT 3 1 : State).fld F.CM_HEAD_FLAT 4 ≠ 1)) :=
  ⟨by decide +kernel, by decide +kernel⟩
theorem witness_audioPortConfigWrite :
    ((Tests.enabled.passes Tests.configure (putAudioPort false 3 (F.AU_TDM_RXEN.put 0 1 : W)).1 = true) ∧ (Tests.enabled.portBusy (if false then qOfAes 3 else qOfTdm 3) (Tests.enabled.word (if false then 0x3050 else 0x3040) 3 0) (F.AU_TDM_RXEN.put 0 1 : W) = false) ∧ (Tests.enabled.portUnfree (if false then qOfAes 3 else qOfTdm 3) (Tests.enabled.word (if false then 0x3050 else 0x3040) 3 0) (F.AU_TDM_RXEN.put 0 1 : W) = false)) ∧
    ((Tests.stream.passes Tests.configure (putAudioPort false 0 (0 : W)).1 = true) ∧ (Tests.stream.portBusy (if false then qOfAes 0 else qOfTdm 0) (Tests.stream.word (if false then 0x3050 else 0x3040) 0 0) (0 : W) = true ∨ Tests.stream.portUnfree (if false then qOfAes 0 else qOfTdm 0) (Tests.stream.word (if false then 0x3050 else 0x3040) 0 0) (0 : W) = true)) :=
  ⟨by decide +kernel, by decide +kernel⟩
theorem witness_maskWrite :
    ((Tests.stream.passes Tests.configure (putMask 0 (5 : W)).1 = true) ∧ (Tests.stream.maskUnbinds 0 (5 : W) = false)) ∧
    (((Tests.stream.setWord 0x3060 0 0 (F.AU_ASRC_KIND.put 0 1) : State).passes Tests.configure (putMask 0 (4 : W)).1 = true) ∧ ((Tests.stream.setWord 0x3060 0 0 (F.AU_ASRC_KIND.put 0 1) : State).maskUnbinds 0 (4 : W) = true)) :=
  ⟨by decide +kernel, by decide +kernel⟩
theorem witness_maskApply :
    ((((Tests.stream.stageMask 0 5 : State).maskRun 0).bind (·.staged) = some ((5 : W), 0)) ∧ ((Tests.stream.stageMask 0 5 : State).portRuns (qOfTdm 0) = true)) ∧
    (((Tests.stream.maskRun 0).bind (·.staged) = none ∨ Tests.stream.portRuns (qOfTdm 0) = false)) :=
  ⟨by decide +kernel, by decide +kernel⟩
theorem witness_startTrigger :
    ((Tests.enabled.passes Tests.configure (putStart Tests.enabled 2 (withOp F.AU_START_OP Tests.trig 1 : W) (0 : W) (1 : W)).1 = true) ∧ ((withOp F.AU_START_OP Tests.trig 1 : W) = withOp F.AU_START_OP Tests.trig 1) ∧ (Tests.enabled.fld F.AU_START_STATE 2 ≠ agARMED) ∧ (((trigDirs Tests.enabled.dies (withOp F.AU_START_OP Tests.trig 1 : W) (1 : W)).filter fun d => Tests.enabled.dirOn d.1 d.2).all (fun d => Tests.enabled.dirState d.1 d.2 == apSTOPPED && !Tests.enabled.dirArmed d) = true)) ∧
    (((withOp F.AU_START_OP Tests.trig 1 : W) = withOp F.AU_START_OP Tests.trig 1) ∧ ((Tests.enabled.setDir 0 false apRUNNING : State).passes Tests.configure (putStart (Tests.enabled.setDir 0 false apRUNNING : State) 2 (withOp F.AU_START_OP Tests.trig 1 : W) (0 : W) (1 : W)).1 = true) ∧ ((Tests.enabled.setDir 0 false apRUNNING : State).fld F.AU_START_STATE 2 ≠ agARMED) ∧ (((trigDirs (Tests.enabled.setDir 0 false apRUNNING : State).dies (withOp F.AU_START_OP Tests.trig 1 : W) (1 : W)).filter fun d => (Tests.enabled.setDir 0 false apRUNNING : State).dirOn d.1 d.2).all (fun d => (Tests.enabled.setDir 0 false apRUNNING : State).dirState d.1 d.2 == apSTOPPED && !(Tests.enabled.setDir 0 false apRUNNING : State).dirArmed d) = false)) ∧
    (((withOp F.AU_START_OP Tests.trig 1 : W) = withOp F.AU_START_OP Tests.trig 1) ∧ (Tests.armed.passes Tests.configure (putStart Tests.armed 2 (withOp F.AU_START_OP Tests.trig 1 : W) (0 : W) (1 : W)).1 = true) ∧ (Tests.armed.fld F.AU_START_STATE 2 = agARMED)) :=
  ⟨by decide +kernel, by decide +kernel, by decide +kernel⟩
theorem witness_stopTrigger :
    ((Tests.enabled.passes Tests.configure (putStart Tests.enabled 2 (withOp F.AU_START_OP Tests.trig 3 : W) (0 : W) (1 : W)).1 = true) ∧ ((withOp F.AU_START_OP Tests.trig 3 : W) = withOp F.AU_START_OP Tests.trig 3) ∧ (Tests.enabled.fld F.AU_START_STATE 2 ≠ agARMED)) ∧
    (((withOp F.AU_START_OP Tests.trig 3 : W) = withOp F.AU_START_OP Tests.trig 3) ∧ (Tests.armed.passes Tests.configure (putStart Tests.armed 2 (withOp F.AU_START_OP Tests.trig 3 : W) (0 : W) (1 : W)).1 = true) ∧ (Tests.armed.fld F.AU_START_STATE 2 = agARMED)) :=
  ⟨by decide +kernel, by decide +kernel⟩
theorem witness_abortTrigger :
    ((Tests.armed.passes Tests.configure (putStart Tests.armed 2 (withOp F.AU_START_OP (0 : W) 2) (0 : W) (0 : W)).1 = true) ∧ (Tests.armed.fld F.AU_START_STATE 2 = agARMED)) ∧
    ((Tests.enabled.passes Tests.configure (putStart Tests.enabled 2 (withOp F.AU_START_OP (0 : W) 2) (0 : W) (0 : W)).1 = true) ∧ (Tests.enabled.fld F.AU_START_STATE 2 ≠ agARMED)) :=
  ⟨by decide +kernel, by decide +kernel⟩
theorem witness_triggerAct :
    ((Tests.armed.ap.trigs.find? (fun y => y.n == 2) = some (⟨2, F.AU_START_OP.put Tests.trig 1, 1, some 9, false⟩ : Trig)) ∧ ((⟨2, F.AU_START_OP.put Tests.trig 1, 1, some 9, false⟩ : Trig).at_ = some 9)) ∧
    (((Tests.enabled.ap.trigs.find? (fun y => y.n == 2)).bind (·.at_) = none)) :=
  ⟨by decide +kernel, by decide +kernel⟩
theorem witness_audioSample :
    ((Tests.stream.enginesRun = true)) ∧
    ((State.reset.enginesRun = false)) :=
  ⟨by decide +kernel, by decide +kernel⟩
theorem witness_streamUnderrun :
    ((Tests.stream.dirState 0 false = apRUNNING) ∧ (false = true ∨ Tests.stream.dirClock 0 false ≠ clkMASTER) ∧ (Tests.stream.stream 0 false = some (Tests.strm none : Stream))) ∧
    ((State.reset.dirState 0 false ≠ apRUNNING ∨ (false = false ∧ State.reset.dirClock 0 false = clkMASTER) ∨ State.reset.stream 0 false = none)) :=
  ⟨by decide +kernel, by decide +kernel⟩
theorem witness_streamRejoin :
    (((Tests.stream.setStream (Tests.strm (some 8)) : State).stream 0 false = some (Tests.strm (some 8) : Stream)) ∧ ((Tests.strm (some 8) : Stream).lost = some 8)) ∧
    (((Tests.stream.stream 0 false).bind (·.lost) = none)) :=
  ⟨by decide +kernel, by decide +kernel⟩
theorem witness_streamPhaseSlip :
    ((Tests.stream.dirState 0 false = apRUNNING) ∧ (Tests.stream.dirClock 0 false = clkLOCKED)) ∧
    ((State.reset.dirState 0 false ≠ apRUNNING ∨ State.reset.dirClock 0 false ≠ clkLOCKED)) :=
  ⟨by decide +kernel, by decide +kernel⟩
theorem witness_streamOffrate :
    ((Tests.stream.portRuns 0 = true) ∧ (Tests.stream.dirClock 0 false ≠ clkMASTER)) ∧
    ((State.reset.portRuns 0 = false ∨ State.reset.dirClock 0 false = clkMASTER)) :=
  ⟨by decide +kernel, by decide +kernel⟩
theorem witness_auAsrcWrite :
    ((((Tests.enabled.setFld F.AU_TDM_CLK 0 clkFREE).setWord 0x3048 0 0 1 : State).passes Tests.configure (putAsrc ((Tests.enabled.setFld F.AU_TDM_CLK 0 clkFREE).setWord 0x3048 0 0 1 : State) 5 (F.AU_ASRC_KIND.put 0 1 : W)).1 = true) ∧ (F.AU_ASRC_KIND.of (((Tests.enabled.setFld F.AU_TDM_CLK 0 clkFREE).setWord 0x3048 0 0 1 : State).word 0x3060 5 0) ≠ 2) ∧ (F.AU_ASRC_KIND.of (F.AU_ASRC_KIND.put 0 1 : W) = 1 → ((Tests.enabled.setFld F.AU_TDM_CLK 0 clkFREE).setWord 0x3048 0 0 1 : State).caps.auport = true ∧ ((Tests.enabled.setFld F.AU_TDM_CLK 0 clkFREE).setWord 0x3048 0 0 1 : State).asrcSlotOk 5 (F.AU_ASRC_KIND.put 0 1 : W) = true ∧ ((((Tests.enabled.setFld F.AU_TDM_CLK 0 clkFREE).setWord 0x3048 0 0 1 : State).asrcBound (5 / 64)).any fun x => x.1 != 5 && F.AU_ASRC_PORT.of x.2 == F.AU_ASRC_PORT.of (F.AU_ASRC_KIND.put 0 1 : W) && F.AU_ASRC_DIR.of x.2 == F.AU_ASRC_DIR.of (F.AU_ASRC_KIND.put 0 1 : W) && F.AU_ASRC_SLOT.of x.2 == F.AU_ASRC_SLOT.of (F.AU_ASRC_KIND.put 0 1 : W)) = false)) ∧
    (((((Tests.enabled.setFld F.AU_TDM_CLK 0 clkFREE).setWord 0x3048 0 0 1).setWord 0x3060 5 0 (F.AU_ASRC_KIND.put 0 2) : State).passes Tests.configure (putAsrc (((Tests.enabled.setFld F.AU_TDM_CLK 0 clkFREE).setWord 0x3048 0 0 1).setWord 0x3060 5 0 (F.AU_ASRC_KIND.put 0 2) : State) 5 (F.AU_ASRC_KIND.put 0 1 : W)).1 = true) ∧ (F.AU_ASRC_KIND.of ((((Tests.enabled.setFld F.AU_TDM_CLK 0 clkFREE).setWord 0x3048 0 0 1).setWord 0x3060 5 0 (F.AU_ASRC_KIND.put 0 2) : State).word 0x3060 5 0) = 2)) ∧
    ((({ (Tests.enabled.setFld F.AU_TDM_CLK 0 clkFREE).setWord 0x3048 0 0 1 with caps := ⟨.sc2e, false⟩ } : State).passes Tests.configure (putAsrc ({ (Tests.enabled.setFld F.AU_TDM_CLK 0 clkFREE).setWord 0x3048 0 0 1 with caps := ⟨.sc2e, false⟩ } : State) 5 (F.AU_ASRC_KIND.put 0 1 : W)).1 = true) ∧ (F.AU_ASRC_KIND.of (({ (Tests.enabled.setFld F.AU_TDM_CLK 0 clkFREE).setWord 0x3048 0 0 1 with caps := ⟨.sc2e, false⟩ } : State).word 0x3060 5 0) ≠ 2) ∧ (F.AU_ASRC_KIND.of (F.AU_ASRC_KIND.put 0 1 : W) = 1) ∧ (({ (Tests.enabled.setFld F.AU_TDM_CLK 0 clkFREE).setWord 0x3048 0 0 1 with caps := ⟨.sc2e, false⟩ } : State).caps.auport = false)) ∧
    ((Tests.enabled.passes Tests.configure (putAsrc Tests.enabled 5 (F.AU_ASRC_KIND.put 0 1 : W)).1 = true) ∧ (F.AU_ASRC_KIND.of (Tests.enabled.word 0x3060 5 0) ≠ 2) ∧ (F.AU_ASRC_KIND.of (F.AU_ASRC_KIND.put 0 1 : W) = 1) ∧ (Tests.enabled.caps.auport = true) ∧ (Tests.enabled.asrcSlotOk 5 (F.AU_ASRC_KIND.put 0 1 : W) = false)) ∧
    (((((Tests.enabled.setFld F.AU_TDM_CLK 0 clkFREE).setWord 0x3048 0 0 1).setWord 0x3060 9 0 (F.AU_ASRC_KIND.put 0 1) : State).passes Tests.configure (putAsrc (((Tests.enabled.setFld F.AU_TDM_CLK 0 clkFREE).setWord 0x3048 0 0 1).setWord 0x3060 9 0 (F.AU_ASRC_KIND.put 0 1) : State) 5 (F.AU_ASRC_KIND.put 0 1 : W)).1 = true) ∧ (F.AU_ASRC_KIND.of ((((Tests.enabled.setFld F.AU_TDM_CLK 0 clkFREE).setWord 0x3048 0 0 1).setWord 0x3060 9 0 (F.AU_ASRC_KIND.put 0 1) : State).word 0x3060 5 0) ≠ 2) ∧ (F.AU_ASRC_KIND.of (F.AU_ASRC_KIND.put 0 1 : W) = 1) ∧ ((((Tests.enabled.setFld F.AU_TDM_CLK 0 clkFREE).setWord 0x3048 0 0 1).setWord 0x3060 9 0 (F.AU_ASRC_KIND.put 0 1) : State).caps.auport = true) ∧ ((((Tests.enabled.setFld F.AU_TDM_CLK 0 clkFREE).setWord 0x3048 0 0 1).setWord 0x3060 9 0 (F.AU_ASRC_KIND.put 0 1) : State).asrcSlotOk 5 (F.AU_ASRC_KIND.put 0 1 : W) = true) ∧ ((((((Tests.enabled.setFld F.AU_TDM_CLK 0 clkFREE).setWord 0x3048 0 0 1).setWord 0x3060 9 0 (F.AU_ASRC_KIND.put 0 1) : State).asrcBound (5 / 64)).any fun x => x.1 != 5 && F.AU_ASRC_PORT.of x.2 == F.AU_ASRC_PORT.of (F.AU_ASRC_KIND.put 0 1 : W) && F.AU_ASRC_DIR.of x.2 == F.AU_ASRC_DIR.of (F.AU_ASRC_KIND.put 0 1 : W) && F.AU_ASRC_SLOT.of x.2 == F.AU_ASRC_SLOT.of (F.AU_ASRC_KIND.put 0 1 : W)) = true)) :=
  ⟨by decide +kernel, by decide +kernel, by decide +kernel, by decide +kernel, by decide +kernel⟩
theorem witness_asrcLock :
    ((((Tests.enabled.setFld F.AU_ASRC_STATE 5 srACQUIRE : State).fld F.AU_ASRC_KIND 5 = 2 → (Tests.enabled.setFld F.AU_ASRC_STATE 5 srACQUIRE : State).decides = true)) ∧ ((-2000000 : Int) = (if (Tests.enabled.setFld F.AU_ASRC_STATE 5 srACQUIRE : State).fld F.AU_ASRC_KIND 5 = 2 then ((Tests.enabled.setFld F.AU_ASRC_STATE 5 srACQUIRE : State).captureRatio ((Tests.enabled.setFld F.AU_ASRC_STATE 5 srACQUIRE : State).fld F.AU_ASRC_FSRC 5)).getD (-2000000 : Int) else (-2000000 : Int))) ∧ ((Tests.enabled.setFld F.AU_ASRC_STATE 5 srACQUIRE : State).asrcRebinds 5 = false) ∧ ((Tests.enabled.setFld F.AU_ASRC_STATE 5 srACQUIRE : State).fld F.AU_ASRC_STATE 5 = srACQUIRE) ∧ (ratioOk (-2000000 : Int) = true)) ∧
    ((((Tests.enabled.setFld F.AU_ASRC_STATE 5 srUNLOCKED : State).fld F.AU_ASRC_KIND 5 = 2 → (Tests.enabled.setFld F.AU_ASRC_STATE 5 srUNLOCKED : State).decides = true)) ∧ ((-2000000 : Int) = (if (Tests.enabled.setFld F.AU_ASRC_STATE 5 srUNLOCKED : State).fld F.AU_ASRC_KIND 5 = 2 then ((Tests.enabled.setFld F.AU_ASRC_STATE 5 srUNLOCKED : State).captureRatio ((Tests.enabled.setFld F.AU_ASRC_STATE 5 srUNLOCKED : State).fld F.AU_ASRC_FSRC 5)).getD (-2000000 : Int) else (-2000000 : Int))) ∧ ((Tests.enabled.setFld F.AU_ASRC_STATE 5 srUNLOCKED : State).asrcRebinds 5 = false) ∧ ((Tests.enabled.setFld F.AU_ASRC_STATE 5 srUNLOCKED : State).fld F.AU_ASRC_STATE 5 = srUNLOCKED) ∧ (ratioOk (-2000000 : Int) = true)) ∧
    ((((Tests.enabled.setFld F.AU_ASRC_STATE 5 srACQUIRE : State).fld F.AU_ASRC_KIND 5 = 2 → (Tests.enabled.setFld F.AU_ASRC_STATE 5 srACQUIRE : State).decides = true)) ∧ ((200000000 : Int) = (if (Tests.enabled.setFld F.AU_ASRC_STATE 5 srACQUIRE : State).fld F.AU_ASRC_KIND 5 = 2 then ((Tests.enabled.setFld F.AU_ASRC_STATE 5 srACQUIRE : State).captureRatio ((Tests.enabled.setFld F.AU_ASRC_STATE 5 srACQUIRE : State).fld F.AU_ASRC_FSRC 5)).getD (200000000 : Int) else (200000000 : Int))) ∧ (ratioOk (200000000 : Int) = false)) ∧
    (((((Tests.twin syncLOCKSTEP 0).setFld F.AU_ASRC_KIND 5 2) : State).fld F.AU_ASRC_KIND 5 = 2) ∧ ((((Tests.twin syncLOCKSTEP 0).setFld F.AU_ASRC_KIND 5 2) : State).decides = false)) :=
  ⟨by decide +kernel, by decide +kernel, by decide +kernel, by decide +kernel⟩
theorem witness_asrcUnlock :
    ((((Tests.enabled.setFld F.AU_ASRC_STATE 5 srLOCKED : State).fld F.AU_ASRC_KIND 5 = 2 → (Tests.enabled.setFld F.AU_ASRC_STATE 5 srLOCKED : State).decides = true)) ∧ ((Tests.enabled.setFld F.AU_ASRC_STATE 5 srLOCKED : State).asrcRebinds 5 = false) ∧ ((Tests.enabled.setFld F.AU_ASRC_STATE 5 srLOCKED : State).fld F.AU_ASRC_STATE 5 = srLOCKED ∨ (Tests.enabled.setFld F.AU_ASRC_STATE 5 srLOCKED : State).fld F.AU_ASRC_STATE 5 = srACQUIRE)) ∧
    (((((Tests.twin syncLOCKSTEP 0).setFld F.AU_ASRC_KIND 5 2) : State).fld F.AU_ASRC_KIND 5 = 2) ∧ ((((Tests.twin syncLOCKSTEP 0).setFld F.AU_ASRC_KIND 5 2) : State).decides = false)) :=
  ⟨by decide +kernel, by decide +kernel⟩
theorem witness_mxMacWrite :
    ((Tests.mac.passes Tests.configure (putMac 1 1 (0x020000000001#64 <<< 16 : W)).1 = true) ∧ (1 < 3) ∧ (Tests.mac.macOn 1 = false) ∧ (1 = 0 → F.MX_MAC_EN.of (0x020000000001#64 <<< 16 : W) = 1 → Tests.mac.macLanesOk 1 = true)) ∧
    ((((Tests.mac.setFld F.LK_LANE_MODE (laneElem true 0 0) 1).setFld F.LK_LANE_MODE (laneElem true 0 1) 2 : State).passes Tests.configure (putMac 0 0 (F.MX_MAC_MTU.put (F.MX_MAC_EN.put 0 1) 1518 : W)).1 = true) ∧ (0 = 0) ∧ (F.MX_MAC_EN.of (F.MX_MAC_MTU.put (F.MX_MAC_EN.put 0 1) 1518 : W) = 1) ∧ (((Tests.mac.setFld F.LK_LANE_MODE (laneElem true 0 0) 1).setFld F.LK_LANE_MODE (laneElem true 0 1) 2 : State).macLanesOk 0 = false)) ∧
    ((Tests.mac.passes Tests.configure (putMac 0 1 (0x020000000077#64 <<< 16 : W)).1 = true) ∧ (1 ≠ 0) ∧ (Tests.mac.macOn 0 = true) ∧ ((0x020000000077#64 <<< 16 : W) ≠ Tests.mac.word 0x4810 0 1)) :=
  ⟨by decide +kernel, by decide +kernel, by decide +kernel⟩
theorem witness_mxRingWrite :
    (((Tests.mac.setFld F.MX_RING_EN 1 1 : State).passes Tests.configure (putRing Tests.configure 1 1 (F.MX_RING_BUFSIZE.put 0 2 : W)).1 = true) ∧ ((Tests.mac.setFld F.MX_RING_EN 1 1 : State).ringOn 1 = false ∨ (1 = 1 ∧ F.MX_RING_EN.of (F.MX_RING_BUFSIZE.put 0 2 : W) = 0))) ∧
    (((Tests.mac.setFld F.MX_RING_EN 1 1 : State).passes Tests.configure (putRing Tests.configure 1 0 (4096 : W)).1 = true) ∧ ((Tests.mac.setFld F.MX_RING_EN 1 1 : State).ringOn 1 = true) ∧ (¬(0 = 1 ∧ F.MX_RING_EN.of (4096 : W) = 0))) :=
  ⟨by decide +kernel, by decide +kernel⟩
theorem witness_tsqRead : (((Tests.mac.setTsQueue ⟨3, 9, [⟨1, 2, 8, 0, 0⟩]⟩ : State).acceptsRead Tests.configure ⟨0x4850, 0, 3⟩ = true)) := by decide +kernel
theorem witness_mxStatsRead : (((Tests.mac.bump F.MX_STATS_RXOK 1 7 : State).acceptsRead Tests.configure ⟨0x4860, 0, 1⟩ = true) ∧ (15 < 16)) := by decide +kernel
theorem witness_xportWrite :
    ((Tests.sdi.passes Tests.configure (putXport Tests.sdi false 0 0 (F.MX_XPORT_TYPE.put 0 xSDI : W)).1 = true) ∧ (0 = 0 → xType (F.MX_XPORT_TYPE.put 0 xSDI : W) = xST2110 → Tests.sdi.caps.media = true) ∧ (Tests.sdi.calState = calIDLE ∨ Tests.sdi.calState = calEDITING ∨ Tests.sdi.calState = calFAILED)) ∧
    ((({ Tests.sdi with caps := ⟨.sc8x, false⟩ } : State).passes Tests.configure (putXport ({ Tests.sdi with caps := ⟨.sc8x, false⟩ } : State) true 0 0 (F.MX_XPORT_PTN.put (F.MX_XPORT_PTA.put (F.MX_XPORT_PTV.put (F.MX_XPORT_TYPE.put 0 xST2110) 96) 97) 98 : W)).1 = true) ∧ (0 = 0) ∧ (xType (F.MX_XPORT_PTN.put (F.MX_XPORT_PTA.put (F.MX_XPORT_PTV.put (F.MX_XPORT_TYPE.put 0 xST2110) 96) 97) 98 : W) = xST2110) ∧ (({ Tests.sdi with caps := ⟨.sc8x, false⟩ } : State).caps.media = false)) ∧
    (((Tests.sdi.setCal calREADY : State).passes Tests.configure (putXport (Tests.sdi.setCal calREADY : State) false 0 0 (F.MX_XPORT_TYPE.put 0 xSDI : W)).1 = true) ∧ (0 = 0 → xType (F.MX_XPORT_TYPE.put 0 xSDI : W) ≠ xST2110) ∧ ((Tests.sdi.setCal calREADY : State).calState = calREBUILDING ∨ (Tests.sdi.setCal calREADY : State).calState = calREADY)) :=
  ⟨by decide +kernel, by decide +kernel, by decide +kernel⟩
theorem witness_aflowWrite :
    ((Tests.mac.passes Tests.configure (putAflow true 4 0 (F.MX_XPORT_UDP.put 0 5004 : W)).1 = true) ∧ (0 < 2) ∧ (¬(F.MX_XPORT_FEN.of (Tests.mac.word (if true then 0x4830 else 0x4828) 4 0) = 1 ∧ ((0 = 0 ∧ (F.MX_XPORT_GROUP.of (F.MX_XPORT_UDP.put 0 5004 : W) ≠ F.MX_XPORT_GROUP.of (Tests.mac.word (if true then 0x4830 else 0x4828) 4 0) ∨ F.MX_XPORT_UDP.of (F.MX_XPORT_UDP.put 0 5004 : W) ≠ F.MX_XPORT_UDP.of (Tests.mac.word (if true then 0x4830 else 0x4828) 4 0))) ∨ (0 ≠ 0 ∧ (F.MX_AFLOW_MACA.of (F.MX_XPORT_UDP.put 0 5004 : W) ≠ F.MX_AFLOW_MACA.of (Tests.mac.word (if true then 0x4830 else 0x4828) 4 0) ∨ F.MX_AFLOW_MACB.of (F.MX_XPORT_UDP.put 0 5004 : W) ≠ F.MX_AFLOW_MACB.of (Tests.mac.word (if true then 0x4830 else 0x4828) 4 0)))))) ∧ (¬(true = false ∧ (Tests.mac.putWord 0x4828 4 0 (F.MX_XPORT_UDP.put 0 5004 : W)).groupsOver (Tests.mac.putWord 0x4828 4 0 (F.MX_XPORT_UDP.put 0 5004 : W)).regs = true))) ∧
    (((Tests.mac.setWord 0x4830 4 0 (F.MX_XPORT_FEN.put (F.MX_XPORT_UDP.put 0 5006) 1) : State).passes Tests.configure (putAflow true 4 0 (F.MX_XPORT_UDP.put 0 5004 : W)).1 = true) ∧ ((F.MX_XPORT_FEN.of ((Tests.mac.setWord 0x4830 4 0 (F.MX_XPORT_FEN.put (F.MX_XPORT_UDP.put 0 5006) 1) : State).word (if true then 0x4830 else 0x4828) 4 0) = 1 ∧ ((0 = 0 ∧ (F.MX_XPORT_GROUP.of (F.MX_XPORT_UDP.put 0 5004 : W) ≠ F.MX_XPORT_GROUP.of ((Tests.mac.setWord 0x4830 4 0 (F.MX_XPORT_FEN.put (F.MX_XPORT_UDP.put 0 5006) 1) : State).word (if true then 0x4830 else 0x4828) 4 0) ∨ F.MX_XPORT_UDP.of (F.MX_XPORT_UDP.put 0 5004 : W) ≠ F.MX_XPORT_UDP.of ((Tests.mac.setWord 0x4830 4 0 (F.MX_XPORT_FEN.put (F.MX_XPORT_UDP.put 0 5006) 1) : State).word (if true then 0x4830 else 0x4828) 4 0))) ∨ (0 ≠ 0 ∧ (F.MX_AFLOW_MACA.of (F.MX_XPORT_UDP.put 0 5004 : W) ≠ F.MX_AFLOW_MACA.of ((Tests.mac.setWord 0x4830 4 0 (F.MX_XPORT_FEN.put (F.MX_XPORT_UDP.put 0 5006) 1) : State).word (if true then 0x4830 else 0x4828) 4 0) ∨ F.MX_AFLOW_MACB.of (F.MX_XPORT_UDP.put 0 5004 : W) ≠ F.MX_AFLOW_MACB.of ((Tests.mac.setWord 0x4830 4 0 (F.MX_XPORT_FEN.put (F.MX_XPORT_UDP.put 0 5006) 1) : State).word (if true then 0x4830 else 0x4828) 4 0))))))) :=
  ⟨by decide +kernel, by decide +kernel⟩
theorem witness_macRxFrame :
    ((Tests.mac.macUp 0 = true) ∧ (64 ≤ (Tests.frame 1522 : MacFrame).len) ∧ ((Tests.frame 1522 : MacFrame).frag = false) ∧ ((Tests.frame 1522 : MacFrame).fcsOk = true) ∧ ((Tests.frame 1522 : MacFrame).vid = some (Tests.mac.fld F.MX_MAC_MGMTVID 0)) ∧ (Tests.mac.fld F.MX_MAC_MGMTVID 0 ≠ 0) ∧ ((Tests.frame 1522 : MacFrame).len ≤ Tests.mac.fld F.MX_MAC_MTU 0 + 4) ∧ ((Tests.frame 1522 : MacFrame).da = Tests.mac.fld F.MX_MAC_MACADDR 0) ∧ ((Tests.frame 1522 : MacFrame).body = .ncp 1 2 [])) ∧
    ((Tests.mac.macUp 0 = true) ∧ ((Tests.frame 63 : MacFrame).len < 64 ∨ (Tests.frame 63 : MacFrame).frag = true)) ∧
    ((Tests.mac.macUp 0 = true) ∧ (64 ≤ ({ Tests.frame 64 with fcsOk := false } : MacFrame).len) ∧ (({ Tests.frame 64 with fcsOk := false } : MacFrame).frag = false) ∧ (({ Tests.frame 64 with fcsOk := false } : MacFrame).fcsOk = false)) ∧
    ((Tests.mac.macUp 0 = true) ∧ (64 ≤ (Tests.frame 1523 : MacFrame).len) ∧ ((Tests.frame 1523 : MacFrame).frag = false) ∧ ((Tests.frame 1523 : MacFrame).fcsOk = true) ∧ (Tests.mac.fld F.MX_MAC_MTU 0 + (if (Tests.frame 1523 : MacFrame).vid.isSome then 4 else 0) < (Tests.frame 1523 : MacFrame).len)) ∧
    ((Tests.mac.macUp 0 = true) ∧ (64 ≤ ({ Tests.frame 64 with da := 5 } : MacFrame).len) ∧ (({ Tests.frame 64 with da := 5 } : MacFrame).frag = false) ∧ (({ Tests.frame 64 with da := 5 } : MacFrame).fcsOk = true) ∧ (¬ Tests.mac.fld F.MX_MAC_MTU 0 + (if ({ Tests.frame 64 with da := 5 } : MacFrame).vid.isSome then 4 else 0) < ({ Tests.frame 64 with da := 5 } : MacFrame).len) ∧ (Tests.mac.daOk 0 ({ Tests.frame 64 with da := 5 } : MacFrame).da = false) ∧ (({ Tests.frame 64 with da := 5 } : MacFrame).body = .ncp 1 2 [])) ∧
    (((Tests.mac.setFld F.MX_MAC_PAUSEOBEY 0 1 : State).macUp 0 = true) ∧ (64 ≤ ({ Tests.frame 64 with body := .pause 9 [] } : MacFrame).len) ∧ (({ Tests.frame 64 with body := .pause 9 [] } : MacFrame).frag = false) ∧ (({ Tests.frame 64 with body := .pause 9 [] } : MacFrame).fcsOk = true) ∧ (¬ (Tests.mac.setFld F.MX_MAC_PAUSEOBEY 0 1 : State).fld F.MX_MAC_MTU 0 + (if ({ Tests.frame 64 with body := .pause 9 [] } : MacFrame).vid.isSome then 4 else 0) < ({ Tests.frame 64 with body := .pause 9 [] } : MacFrame).len) ∧ (({ Tests.frame 64 with body := .pause 9 [] } : MacFrame).body = .pause 9 []) ∧ ((Tests.mac.setFld F.MX_MAC_PAUSEOBEY 0 1 : State).fld F.MX_MAC_PAUSEOBEY 0 = 1) ∧ (9 ≠ 0) ∧ (9 < 65536)) ∧
    ((State.reset.macUp 0 = false)) :=
  ⟨by decide +kernel, by decide +kernel, by decide +kernel, by decide +kernel, by decide +kernel, by decide +kernel, by decide +kernel⟩
theorem witness_pauseExpire :
    ((((Tests.mac.setMacRun ⟨0, true, some (0, 500), [], 0, []⟩ : State).macRun 0).paused = some (0, 500))) ∧
    (((Tests.mac.macRun 0).paused = none)) :=
  ⟨by decide +kernel, by decide +kernel⟩
theorem witness_ringTxFrame :
    (((Tests.mac.setFld F.MX_RING_EN 1 1 : State).macUp 0 = true) ∧ (((Tests.mac.setFld F.MX_RING_EN 1 1 : State).ringOn (0 * 2 + 1) = true ∧ ((Tests.mac.setFld F.MX_RING_EN 1 1 : State).macRun 0).paused = none ∧ isFrame ([Tests.desc] : List (W × W)) = true))) ∧
    ((Tests.mac.macUp 0 = false ∨ ¬(Tests.mac.ringOn (0 * 2 + 1) = true ∧ (Tests.mac.macRun 0).paused = none ∧ isFrame ([Tests.desc] : List (W × W)) = true))) :=
  ⟨by decide +kernel, by decide +kernel⟩
theorem witness_st2110Release :
    (((Tests.sdi.setRxFlow Tests.flow : State).enginesRun = true) ∧ ((Tests.sdi.setRxFlow Tests.flow : State).mx.flows.find? (fun y => y.id == (⟨false, 0, 0⟩ : FlowId)) = some Tests.flow)) ∧
    ((Tests.sdi.enginesRun = false ∨ Tests.sdi.mx.flows.find? (fun y => y.id == (⟨false, 0, 0⟩ : FlowId)) = none)) :=
  ⟨by decide +kernel, by decide +kernel⟩
theorem witness_sdiRxLine :
    ((xportUsed ((Tests.sdi.withSys fun y => { y with role := EDGE }) : State).sys.role (((Tests.sdi.withSys fun y => { y with role := EDGE }) : State).port false 0) = true ∧ xType (((Tests.sdi.withSys fun y => { y with role := EDGE }) : State).xport false 0 0) = xSDI ∧ ((Tests.sdi.withSys fun y => { y with role := EDGE }) : State).link false 0 ≠ lkNOTRANSPORT) ∧ (((Tests.sdi.withSys fun y => { y with role := EDGE }) : State).enginesRun = true)) ∧
    ((State.reset.enginesRun = false ∨ ¬(xportUsed State.reset.sys.role (State.reset.port false 0) = true ∧ xType (State.reset.xport false 0 0) = xSDI ∧ State.reset.link false 0 ≠ lkNOTRANSPORT))) :=
  ⟨by decide +kernel, by decide +kernel⟩
theorem witness_sdiTxLine :
    ((xportUsed ((Tests.sdi.withSys fun y => { y with role := EDGE }) : State).sys.role (((Tests.sdi.withSys fun y => { y with role := EDGE }) : State).port true 0) = true ∧ xType (((Tests.sdi.withSys fun y => { y with role := EDGE }) : State).xport true 0 0) = xSDI ∧ ((Tests.sdi.withSys fun y => { y with role := EDGE }) : State).link true 0 ≠ lkNOTRANSPORT) ∧ (((Tests.sdi.withSys fun y => { y with role := EDGE }) : State).essenceOut = true) ∧ (((Tests.sdi.recipeRules (F.MX_XPORT_RECIPE.of (Tests.sdi.xport true 0 0))) : List W) = (((Tests.sdi.withSys fun y => { y with role := EDGE }) : State).ancBegin true 0 5 (F.MX_XPORT_RECIPE.of (((Tests.sdi.withSys fun y => { y with role := EDGE }) : State).xport true 0 0)) (5 ≤ (((Tests.sdi.withSys fun y => { y with role := EDGE }) : State).ancRun true 0).line || (((Tests.sdi.withSys fun y => { y with role := EDGE }) : State).ancRun true 0).line == 0)).rules)) ∧
    ((State.reset.essenceOut = false ∨ ¬(xportUsed State.reset.sys.role (State.reset.port true 0) = true ∧ xType (State.reset.xport true 0 0) = xSDI ∧ State.reset.link true 0 ≠ lkNOTRANSPORT))) :=
  ⟨by decide +kernel, by decide +kernel⟩
theorem witness_macLinkChange :
    ((Tests.mac.macOn 0 = true) ∧ (3 < 4)) ∧
    ((State.reset.macOn 0 = false)) :=
  ⟨by decide +kernel, by decide +kernel⟩
theorem witness_tmRefWrite :
    (((Tests.ref 3 : State).passes Tests.configure (putTmRef (Tests.ref 3 : State) Tests.configure 0 [(0, (F.TM_REF_EN.put ((Tests.ref 0).word 0x5010 0 0) 0 : W))]).1 = true) ∧ (0 < 2) ∧ (¬(F.TM_REF_EN.of (newWord [(0, (F.TM_REF_EN.put ((Tests.ref 0).word 0x5010 0 0) 0 : W))] 0 ((Tests.ref 3 : State).word 0x5010 0 0)) = 1 ∧ ((isPtp 0 = true ∧ (Tests.ref 3 : State).caps.media = false) ∨ (isStay 0 = true ∧ (Tests.ref 3 : State).sys.role ≠ EDGE)))) ∧ (¬((Tests.ref 3 : State).refEnabled 0 = true ∧ (newWord [(0, (F.TM_REF_EN.put ((Tests.ref 0).word 0x5010 0 0) 0 : W))] 1 ((Tests.ref 3 : State).word 0x5010 0 1)) ≠ (Tests.ref 3 : State).word 0x5010 0 1))) ∧
    (((Tests.ref 3 : State).passes Tests.configure (putTmRef (Tests.ref 3 : State) Tests.configure 10 [(0, (F.TM_REF_EN.put ((Tests.ref 0).word 0x5010 10 0) 1 : W))]).1 = true) ∧ ((F.TM_REF_EN.of (newWord [(0, (F.TM_REF_EN.put ((Tests.ref 0).word 0x5010 10 0) 1 : W))] 0 ((Tests.ref 3 : State).word 0x5010 10 0)) = 1 ∧ ((isPtp 10 = true ∧ (Tests.ref 3 : State).caps.media = false) ∨ (isStay 10 = true ∧ (Tests.ref 3 : State).sys.role ≠ EDGE))))) ∧
    (((Tests.ref 3 : State).passes Tests.configure (putTmRef (Tests.ref 3 : State) Tests.configure 0 [(1, (F.TM_REF_FORMAT.put (F.TM_REF_TYPE.put 0 1) 0x31 : W))]).1 = true) ∧ (¬(F.TM_REF_EN.of (newWord [(1, (F.TM_REF_FORMAT.put (F.TM_REF_TYPE.put 0 1) 0x31 : W))] 0 ((Tests.ref 3 : State).word 0x5010 0 0)) = 1 ∧ ((isPtp 0 = true ∧ (Tests.ref 3 : State).caps.media = false) ∨ (isStay 0 = true ∧ (Tests.ref 3 : State).sys.role ≠ EDGE)))) ∧ (((Tests.ref 3 : State).refEnabled 0 = true ∧ (newWord [(1, (F.TM_REF_FORMAT.put (F.TM_REF_TYPE.put 0 1) 0x31 : W))] 1 ((Tests.ref 3 : State).word 0x5010 0 1)) ≠ (Tests.ref 3 : State).word 0x5010 0 1))) :=
  ⟨by decide +kernel, by decide +kernel, by decide +kernel⟩
theorem witness_refMeasurement :
    (((0 < 14 ∧ (Tests.ref qQUALIFYING : State).refEnabled 0 = true ∧ (Tests.ref qQUALIFYING : State).refRuns 0 = true ∧ (Tests.ref qQUALIFYING : State).pulseFlagged 0 = false ∧ isPtp 0 = false ∧ (Tests.ref qQUALIFYING : State).refSignal 0 = true)) ∧ (([(0, 1000, 7)] : List (Nat × Nat × Int)) = (((Tests.ref qQUALIFYING : State).now, max 1 1000, (7 : Int)) :: ((Tests.ref qQUALIFYING : State).ref 0).freqs).filter (fun y => (Tests.ref qQUALIFYING : State).now < y.1 + secs 10))) ∧
    ((¬(0 < 14 ∧ State.reset.refEnabled 0 = true ∧ State.reset.refRuns 0 = true ∧ State.reset.pulseFlagged 0 = false ∧ isPtp 0 = false ∧ State.reset.refSignal 0 = true)) ∧ (([] : List Int) = [])) :=
  ⟨by decide +kernel, by decide +kernel⟩
theorem witness_refQualify :
    ((((Tests.ref qQUALIFYING : State).ref 0).goodFrom = some 0) ∧ (((Tests.ref qQUALIFYING : State).refEnabled 0 = true ∧ (Tests.ref qQUALIFYING : State).refRuns 0 = true ∧ ((Tests.ref qQUALIFYING : State).ref 0).signal = true ∧ (Tests.ref qQUALIFYING : State).qstate 0 = qQUALIFYING ∧ (Tests.ref qQUALIFYING : State).flagged 0 = false))) ∧
    (((State.reset.ref 0).goodFrom = none ∨ ¬(State.reset.refEnabled 0 = true ∧ State.reset.refRuns 0 = true ∧ (State.reset.ref 0).signal = true ∧ State.reset.qstate 0 = qQUALIFYING ∧ State.reset.flagged 0 = false))) :=
  ⟨by decide +kernel, by decide +kernel⟩
theorem witness_agreementCheck :
    ((((Tests.ref qSELECTED).setFld F.TM_STATE_STATE 0 tsLOCKED : State).timing = tsLOCKED)) ∧
    (((Tests.ref qQUALIFIED : State).timing ≠ tsLOCKED)) :=
  ⟨by decide +kernel, by decide +kernel⟩
theorem witness_refAccept :
    (((((Tests.ref qSELECTED).setFld F.TM_REF_STAT_SPLIT 1 1).withRef 1 fun x => { x with partners := [0] } : State).passes Tests.maintain ⟨⟨0x5020, 0, 1⟩, [(0, 1)], 0, true⟩ = true) ∧ ((((Tests.ref qSELECTED).setFld F.TM_REF_STAT_SPLIT 1 1).withRef 1 fun x => { x with partners := [0] } : State).fld F.TM_REF_STAT_SPLIT 1 ≠ 0) ∧ (0 ∈ ((((Tests.ref qSELECTED).setFld F.TM_REF_STAT_SPLIT 1 1).withRef 1 fun x => { x with partners := [0] } : State).ref 1).partners)) ∧
    (((Tests.ref qSELECTED : State).passes Tests.maintain ⟨⟨0x5020, 0, 1⟩, [(0, 1)], 0, true⟩ = true) ∧ ((Tests.ref qSELECTED : State).fld F.TM_REF_STAT_SPLIT 1 = 0)) :=
  ⟨by decide +kernel, by decide +kernel⟩
theorem witness_refRequalify : ((((Tests.ref qDISQUALIFIED).setFld F.TM_REF_STAT_STEPREF 0 1 : State).passes Tests.maintain ⟨⟨0x5020, 0, 0⟩, [(0, 2)], 0, true⟩ = true)) := by decide +kernel
theorem witness_ptpMessageRx :
    ((((.announce 0 9 Tests.gm) : PtpMsg) = .announce (((Tests.ptp 2).setFld F.TM_PTP_PORT_DOMAIN 0 0 : State).fld F.TM_PTP_PORT_DOMAIN 0) 9 Tests.gm) ∧ (((0 < 4 ∧ ((Tests.ptp 2).setFld F.TM_PTP_PORT_DOMAIN 0 0 : State).ptpRuns 0 = true) ∧ 2 ≤ ((Tests.ptp 2).setFld F.TM_PTP_PORT_DOMAIN 0 0 : State).fld F.TM_PTP_STAT_PSTATE 0 ∧ ((Tests.ptp 2).setFld F.TM_PTP_PORT_DOMAIN 0 0 : State).fld F.TM_PTP_STAT_PSTATE 0 ≠ 7)) ∧ (9 / 65536 ≠ clockIdent) ∧ (0 < ((Tests.ptp 2).setFld F.TM_PTP_PORT_DOMAIN 0 0 : State).tm.ptp.length)) ∧
    ((((.announce 1 9 Tests.gm) : PtpMsg) = .announce (((Tests.ptp 2).setFld F.TM_PTP_PORT_DOMAIN 0 0 : State).fld F.TM_PTP_PORT_DOMAIN 0 + 1) 9 Tests.gm)) ∧
    ((¬((0 < 4 ∧ (Tests.ptp 7 : State).ptpRuns 0 = true) ∧ 2 ≤ (Tests.ptp 7 : State).fld F.TM_PTP_STAT_PSTATE 0 ∧ (Tests.ptp 7 : State).fld F.TM_PTP_STAT_PSTATE 0 ≠ 7))) :=
  ⟨⟨by decide +kernel, by decide +kernel, Tests.clockIdent_pos, by decide +kernel⟩, by decide +kernel, by decide +kernel⟩
theorem witness_announceTimeout :
    (((0 < 4 ∧ (Tests.ptp 3 : State).ptpRuns 0 = true))) ∧
    ((¬(0 < 4 ∧ State.reset.ptpRuns 0 = true))) :=
  ⟨by decide +kernel, by decide +kernel⟩
theorem witness_ptpTxInterval :
    (((0 < 4 ∧ (Tests.ptp 5 : State).ptpRuns 0 = true)) ∧ (0 < (Tests.ptp 5 : State).tm.ptp.length) ∧ ((PtpTx.announce = .delayReq ∧ ((Tests.ptp 5 : State).fld F.TM_PTP_STAT_PSTATE 0 = 3 ∨ (Tests.ptp 5 : State).fld F.TM_PTP_STAT_PSTATE 0 = 4)) ∨ (PtpTx.announce ≠ .delayReq ∧ (Tests.ptp 5 : State).fld F.TM_PTP_STAT_PSTATE 0 = 5)) ∧ (((Tests.ptp 5 : State).macRun ((Tests.ptp 5 : State).fld F.TM_PTP_PORT_MAC 0)).paused = none)) ∧
    (((0 < 4 ∧ ((Tests.ptp 5).setMacRun { (Tests.ptp 5).macRun 0 with paused := some (0, 500) } : State).ptpRuns 0 = true)) ∧ ((PtpTx.announce = .delayReq ∧ (((Tests.ptp 5).setMacRun { (Tests.ptp 5).macRun 0 with paused := some (0, 500) } : State).fld F.TM_PTP_STAT_PSTATE 0 = 3 ∨ ((Tests.ptp 5).setMacRun { (Tests.ptp 5).macRun 0 with paused := some (0, 500) } : State).fld F.TM_PTP_STAT_PSTATE 0 = 4)) ∨ (PtpTx.announce ≠ .delayReq ∧ ((Tests.ptp 5).setMacRun { (Tests.ptp 5).macRun 0 with paused := some (0, 500) } : State).fld F.TM_PTP_STAT_PSTATE 0 = 5)) ∧ ((((Tests.ptp 5).setMacRun { (Tests.ptp 5).macRun 0 with paused := some (0, 500) } : State).macRun (((Tests.ptp 5).setMacRun { (Tests.ptp 5).macRun 0 with paused := some (0, 500) } : State).fld F.TM_PTP_PORT_MAC 0)).paused.isSome = true)) ∧
    ((¬((0 < 4 ∧ State.reset.ptpRuns 0 = true) ∧ ((PtpTx.announce = .delayReq ∧ (State.reset.fld F.TM_PTP_STAT_PSTATE 0 = 3 ∨ State.reset.fld F.TM_PTP_STAT_PSTATE 0 = 4)) ∨ (PtpTx.announce ≠ .delayReq ∧ State.reset.fld F.TM_PTP_STAT_PSTATE 0 = 5))))) :=
  ⟨by decide +kernel, by decide +kernel, by decide +kernel⟩
theorem witness_holdoverUpdate :
    (((((Tests.ref 0).setFld F.TM_STATE_STATE 0 tsHOLDOVER).withTm fun x => { x with hoFrom := some (120, 25000, 0) } : State).timing = tsHOLDOVER) ∧ ((((Tests.ref 0).setFld F.TM_STATE_STATE 0 tsHOLDOVER).withTm fun x => { x with hoFrom := some (120, 25000, 0) } : State).tm.hoFrom = some ((120, 25000, 0) : Int × Int × Nat))) ∧
    (((Tests.ref 0 : State).timing ≠ tsHOLDOVER)) :=
  ⟨by decide +kernel, by decide +kernel⟩
theorem witness_holdoverLearnSave :
    ((((Tests.ref 0).withTm fun x => { x with learnt := 4 } : State).tm.learnt ≠ 0)) ∧
    ((State.reset.tm.learnt = 0)) :=
  ⟨by decide +kernel, by decide +kernel⟩
theorem witness_holdoverForget : (((((Tests.ref 0).setWord 0x5048 15 0 5).withTm fun x => { x with learnt := 4 } : State).passes Tests.maintain ⟨⟨0x5040, 5, 0⟩, [(5, 1)], 0, true⟩ = true) ∧ (15 < 16)) := by decide +kernel
theorem witness_tmOutWrite :
    (((Tests.ref 0 : State).passes Tests.configure (putTmOut (Tests.ref 0 : State) 1 [(0, (F.TM_OUT_MODE.put (F.TM_OUT_ALIGN.put 0 15) 2 : W))]).1 = true) ∧ (0 < 2) ∧ ((F.TM_OUT_MODE.put (F.TM_OUT_ALIGN.put 0 15) 2 : W) = newWord [(0, (F.TM_OUT_MODE.put (F.TM_OUT_ALIGN.put 0 15) 2 : W))] 0 ((Tests.ref 0 : State).word 0x5058 1 0)) ∧ (¬((F.TM_OUT_MODE.of (F.TM_OUT_MODE.put (F.TM_OUT_ALIGN.put 0 15) 2 : W) = 4 ∧ (format (F.TM_OUT_FORMAT.of (F.TM_OUT_MODE.put (F.TM_OUT_ALIGN.put 0 15) 2 : W))).map (·.interlaced) = some false) ∨ (Tests.ref 0 : State).outPeriodOk (F.TM_OUT_MODE.put (F.TM_OUT_ALIGN.put 0 15) 2 : W) = false))) ∧
    (((Tests.ref 0 : State).passes Tests.configure (putTmOut (Tests.ref 0 : State) 1 [(0, (F.TM_OUT_FORMAT.put (F.TM_OUT_MODE.put (F.TM_OUT_ALIGN.put 0 15) 4) 0x31 : W))]).1 = true) ∧ ((F.TM_OUT_FORMAT.put (F.TM_OUT_MODE.put (F.TM_OUT_ALIGN.put 0 15) 4) 0x31 : W) = newWord [(0, (F.TM_OUT_FORMAT.put (F.TM_OUT_MODE.put (F.TM_OUT_ALIGN.put 0 15) 4) 0x31 : W))] 0 ((Tests.ref 0 : State).word 0x5058 1 0)) ∧ (((F.TM_OUT_MODE.of (F.TM_OUT_FORMAT.put (F.TM_OUT_MODE.put (F.TM_OUT_ALIGN.put 0 15) 4) 0x31 : W) = 4 ∧ (format (F.TM_OUT_FORMAT.of (F.TM_OUT_FORMAT.put (F.TM_OUT_MODE.put (F.TM_OUT_ALIGN.put 0 15) 4) 0x31 : W))).map (·.interlaced) = some false) ∨ (Tests.ref 0 : State).outPeriodOk (F.TM_OUT_FORMAT.put (F.TM_OUT_MODE.put (F.TM_OUT_ALIGN.put 0 15) 4) 0x31 : W) = false))) :=
  ⟨by decide +kernel, by decide +kernel⟩
theorem witness_stepAbsolute :
    (((Tests.ref qQUALIFIED : State).passes Tests.maintain (putTmStep Tests.maintain (withOp F.TM_STEP_OP (0 : W) 1) (1000 : W) (5 : W)).1 = true) ∧ ((Tests.ref qQUALIFIED : State).tm.step_ = none) ∧ (F.TM_STEP_WHEN.of (withOp F.TM_STEP_OP (0 : W) 1) = 0)) ∧
    ((((Tests.ref qQUALIFIED).withTm fun x => { x with step_ := some (withOp F.TM_STEP_OP (F.TM_STEP_WHEN.put 9 1) 2, 5, 0) } : State).passes Tests.maintain (putTmStep Tests.maintain (withOp F.TM_STEP_OP (0 : W) 1) (1000 : W) (5 : W)).1 = true) ∧ (((Tests.ref qQUALIFIED).withTm fun x => { x with step_ := some (withOp F.TM_STEP_OP (F.TM_STEP_WHEN.put 9 1) 2, 5, 0) } : State).tm.step_.isSome = true)) :=
  ⟨by decide +kernel, by decide +kernel⟩
theorem witness_stepRelative :
    (((Tests.ref qQUALIFIED : State).passes Tests.maintain (putTmStep Tests.maintain (withOp F.TM_STEP_OP (7000 : W) 2) (0 : W) (0 : W)).1 = true) ∧ ((Tests.ref qQUALIFIED : State).tm.step_ = none) ∧ (F.TM_STEP_WHEN.of (withOp F.TM_STEP_OP (7000 : W) 2) = 0)) ∧
    (((Tests.ref qQUALIFIED : State).passes Tests.maintain (putTmStep Tests.maintain (withOp F.TM_STEP_OP (F.TM_STEP_WHEN.put 9 1 : W) 2) (5 : W) (0 : W)).1 = true) ∧ ((Tests.ref qQUALIFIED : State).tm.step_ = none) ∧ (F.TM_STEP_WHEN.of (withOp F.TM_STEP_OP (F.TM_STEP_WHEN.put 9 1 : W) 2) = 1) ∧ ((timeAhead (stepAt (5 : W) (0 : W)) (Tests.ref qQUALIFIED : State).clk.count).isSome = true)) ∧
    ((({ Tests.ref qQUALIFIED with clk := { State.reset.clk with count := 77 * secUnits } } : State).passes Tests.maintain (putTmStep Tests.maintain (withOp F.TM_STEP_OP (F.TM_STEP_WHEN.put 9 1 : W) 2) (5 : W) (0 : W)).1 = true) ∧ (({ Tests.ref qQUALIFIED with clk := { State.reset.clk with count := 77 * secUnits } } : State).tm.step_ = none) ∧ (F.TM_STEP_WHEN.of (withOp F.TM_STEP_OP (F.TM_STEP_WHEN.put 9 1 : W) 2) = 1) ∧ (timeAhead (stepAt (5 : W) (0 : W)) ({ Tests.ref qQUALIFIED with clk := { State.reset.clk with count := 77 * secUnits } } : State).clk.count = none)) ∧
    ((((Tests.ref qQUALIFIED).withTm fun x => { x with step_ := some (withOp F.TM_STEP_OP (F.TM_STEP_WHEN.put 9 1) 2, 5, 0) } : State).passes Tests.maintain (putTmStep Tests.maintain (withOp F.TM_STEP_OP (7000 : W) 2) (0 : W) (0 : W)).1 = true) ∧ (((Tests.ref qQUALIFIED).withTm fun x => { x with step_ := some (withOp F.TM_STEP_OP (F.TM_STEP_WHEN.put 9 1) 2, 5, 0) } : State).tm.step_.isSome = true)) :=
  ⟨by decide +kernel, by decide +kernel, by decide +kernel, by decide +kernel⟩
theorem witness_stepToref :
    (((Tests.ref qQUALIFIED : State).passes Tests.maintain (putTmStep Tests.maintain (withOp F.TM_STEP_OP (0 : W) 3) (0 : W) (0 : W)).1 = true) ∧ ((Tests.ref qQUALIFIED : State).tm.step_ = none) ∧ (F.TM_STEP_WHEN.of (withOp F.TM_STEP_OP (0 : W) 3) = 0) ∧ ((Tests.ref qQUALIFIED : State).toref (withOp F.TM_STEP_OP (0 : W) 3) = some 0) ∧ ((Tests.ref qQUALIFIED : State).refOffset 0 = some (40 : Int))) ∧
    (((Tests.ref qLOS : State).passes Tests.maintain (putTmStep Tests.maintain (withOp F.TM_STEP_OP (0 : W) 3) (0 : W) (0 : W)).1 = true) ∧ ((Tests.ref qLOS : State).tm.step_ = none) ∧ (F.TM_STEP_WHEN.of (withOp F.TM_STEP_OP (0 : W) 3) = 0) ∧ (((Tests.ref qLOS : State).toref (withOp F.TM_STEP_OP (0 : W) 3)).bind (Tests.ref qLOS : State).refOffset = none)) ∧
    (((Tests.ref qQUALIFIED : State).passes Tests.maintain (putTmStep Tests.maintain (withOp F.TM_STEP_OP (F.TM_STEP_WHEN.put 0 1 : W) 3) (5 : W) (0 : W)).1 = true) ∧ ((Tests.ref qQUALIFIED : State).tm.step_ = none) ∧ (F.TM_STEP_WHEN.of (withOp F.TM_STEP_OP (F.TM_STEP_WHEN.put 0 1 : W) 3) = 1) ∧ ((timeAhead (stepAt (5 : W) (0 : W)) (Tests.ref qQUALIFIED : State).clk.count).isSome = true) ∧ ((((Tests.ref qQUALIFIED : State).toref (withOp F.TM_STEP_OP (F.TM_STEP_WHEN.put 0 1 : W) 3)).bind (Tests.ref qQUALIFIED : State).refOffset).isSome = true)) ∧
    ((((Tests.ref qQUALIFIED).withTm fun x => { x with step_ := some (withOp F.TM_STEP_OP (F.TM_STEP_WHEN.put 9 1) 2, 5, 0) } : State).passes Tests.maintain (putTmStep Tests.maintain (withOp F.TM_STEP_OP (0 : W) 3) (0 : W) (0 : W)).1 = true) ∧ (((Tests.ref qQUALIFIED).withTm fun x => { x with step_ := some (withOp F.TM_STEP_OP (F.TM_STEP_WHEN.put 9 1) 2, 5, 0) } : State).tm.step_.isSome = true)) :=
  ⟨by decide +kernel, by decide +kernel, by decide +kernel, by decide +kernel⟩
theorem witness_stepApply :
    ((((Tests.ref qQUALIFIED).withTm fun x => { x with step_ := some (withOp F.TM_STEP_OP (F.TM_STEP_WHEN.put 9 1) 2, 5, 0) } : State).tm.step_ = some ((withOp F.TM_STEP_OP (F.TM_STEP_WHEN.put 9 1) 2 : W), (5 : W), (0 : W)))) ∧
    ((State.reset.tm.step_ = none)) :=
  ⟨by decide +kernel, by decide +kernel⟩
theorem witness_slewDone :
    ((((Tests.ref 0).setFld F.TM_STATE_SLEWING 0 1 : State).fld F.TM_STATE_SLEWING 0 ≠ 0)) ∧
    ((State.reset.fld F.TM_STATE_SLEWING 0 = 0)) :=
  ⟨by decide +kernel, by decide +kernel⟩
theorem witness_ncpRead :
    ((Tests.session.alive = true) ∧ (Tests.session.listens (Tests.ncp 7 .maintain : Ncp).att = true) ∧ (Tests.session.reqOf (Tests.ncp 7 .maintain : Ncp) = some (⟨1, .maintain, .secure, .busA, 7, 1⟩ : Req)) ∧ (Tests.session.keptFor (Tests.ncp 7 .maintain : Ncp) = none) ∧ (Tests.session.awaited (Tests.ncp 7 .maintain : Ncp) = false) ∧ (([⟨⟨0x5038, 1, 0⟩, 0⟩] : List WireAddr) = [(⟨⟨0x5038, 1, 0⟩, 0⟩ : WireAddr)]) ∧ ((Tests.ncp 7 .maintain : Ncp).session ≠ 0) ∧ (Tests.session.judgeWire (⟨1, .maintain, .secure, .busA, 7, 1⟩ : Req) (⟨⟨0x5038, 1, 0⟩, 0⟩ : WireAddr) = .ok (((findObj 0x5038 1).getD ⟨0, 0, .u8, [], 0, 0, [], .base, .scalar, [], false⟩) : Obj)) ∧ ((((findObj 0x5038 1).getD ⟨0, 0, .u8, [], 0, 0, [], .base, .scalar, [], false⟩) : Obj).size (⟨⟨0x5038, 1, 0⟩, 0⟩ : WireAddr).addr.e ≤ 1440)) ∧
    (((Tests.session.withSys fun x => { x with held := true } : State).alive = false ∨ (Tests.session.withSys fun x => { x with held := true } : State).listens (Tests.ncp 7 .maintain : Ncp).att = false)) ∧
    ((Tests.session.alive = true) ∧ (Tests.session.listens (Tests.ncp 8 .maintain : Ncp).att = true) ∧ (Tests.session.reqOf (Tests.ncp 8 .maintain : Ncp) = none)) ∧
    (((Tests.session.modSession 1 fun x => { x with kept := [⟨0xA9FE0101, 4000, 1, 0, ⟨5, false, []⟩⟩] } : State).alive = true) ∧ ((Tests.session.modSession 1 fun x => { x with kept := [⟨0xA9FE0101, 4000, 1, 0, ⟨5, false, []⟩⟩] } : State).listens (Tests.ncp 7 .maintain : Ncp).att = true) ∧ ((Tests.session.modSession 1 fun x => { x with kept := [⟨0xA9FE0101, 4000, 1, 0, ⟨5, false, []⟩⟩] } : State).reqOf (Tests.ncp 7 .maintain : Ncp) = some (⟨1, .maintain, .secure, .busA, 7, 1⟩ : Req)) ∧ ((Tests.session.modSession 1 fun x => { x with kept := [⟨0xA9FE0101, 4000, 1, 0, ⟨5, false, []⟩⟩] } : State).keptFor (Tests.ncp 7 .maintain : Ncp) = some (⟨5, false, []⟩ : Resp))) ∧
    (((Tests.session.withHost fun x => { x with waiting := [⟨Tests.ncp 7 .maintain, ⟨5, false, []⟩, []⟩] } : State).alive = true) ∧ ((Tests.session.withHost fun x => { x with waiting := [⟨Tests.ncp 7 .maintain, ⟨5, false, []⟩, []⟩] } : State).listens (Tests.ncp 7 .maintain : Ncp).att = true) ∧ ((Tests.session.withHost fun x => { x with waiting := [⟨Tests.ncp 7 .maintain, ⟨5, false, []⟩, []⟩] } : State).reqOf (Tests.ncp 7 .maintain : Ncp) = some (⟨1, .maintain, .secure, .busA, 7, 1⟩ : Req)) ∧ ((Tests.session.withHost fun x => { x with waiting := [⟨Tests.ncp 7 .maintain, ⟨5, false, []⟩, []⟩] } : State).keptFor (Tests.ncp 7 .maintain : Ncp) = none) ∧ ((Tests.session.withHost fun x => { x with waiting := [⟨Tests.ncp 7 .maintain, ⟨5, false, []⟩, []⟩] } : State).awaited (Tests.ncp 7 .maintain : Ncp) = true)) ∧
    ((Tests.session.alive = true) ∧ (Tests.session.listens (Tests.ncp 7 .maintain : Ncp).att = true) ∧ (Tests.session.reqOf (Tests.ncp 7 .maintain : Ncp) = some (⟨1, .maintain, .secure, .busA, 7, 1⟩ : Req)) ∧ (Tests.session.keptFor (Tests.ncp 7 .maintain : Ncp) = none) ∧ (Tests.session.awaited (Tests.ncp 7 .maintain : Ncp) = false) ∧ (([⟨⟨0x5039, 1, 0⟩, 0⟩] : List WireAddr) = [(⟨⟨0x5039, 1, 0⟩, 0⟩ : WireAddr)]) ∧ ((Tests.ncp 7 .maintain : Ncp).session ≠ 0) ∧ (Tests.session.judgeWire (⟨1, .maintain, .secure, .busA, 7, 1⟩ : Req) (⟨⟨0x5039, 1, 0⟩, 0⟩ : WireAddr) = .error Status.index)) ∧
    ((Tests.session.alive = true) ∧ (Tests.session.listens (Tests.ncp 0 .operate : Ncp).att = true) ∧ (Tests.session.reqOf (Tests.ncp 0 .operate : Ncp) = some (⟨0, .operate, .secure, .busA, 0, 1⟩ : Req)) ∧ (Tests.session.keptFor (Tests.ncp 0 .operate : Ncp) = none) ∧ (Tests.session.awaited (Tests.ncp 0 .operate : Ncp) = false) ∧ ((Tests.ncp 0 .operate : Ncp).session = 0) ∧ (([⟨⟨0x5038, 1, 0⟩, 0⟩] : List WireAddr) = [(⟨⟨0x5038, 1, 0⟩, 0⟩ : WireAddr)]) ∧ (admitRead (⟨⟨0x5038, 1, 0⟩, 0⟩ : WireAddr).addr = false)) ∧
    ((Tests.session.alive = true) ∧ (Tests.session.listens (Tests.ncp 7 .maintain : Ncp).att = true) ∧ (Tests.session.reqOf (Tests.ncp 7 .maintain : Ncp) = some (⟨1, .maintain, .secure, .busA, 7, 1⟩ : Req)) ∧ (Tests.session.keptFor (Tests.ncp 7 .maintain : Ncp) = none) ∧ (Tests.session.awaited (Tests.ncp 7 .maintain : Ncp) = false) ∧ ((([] : List WireAddr) : List WireAddr) = [] ∨ 64 < (([] : List WireAddr) : List WireAddr).length)) :=
  ⟨by decide +kernel, by decide +kernel, by decide +kernel, by decide +kernel, by decide +kernel, by decide +kernel, by decide +kernel, by decide +kernel⟩
theorem witness_ncpWrite :
    ((Tests.session.alive = true) ∧ (Tests.session.listens (Tests.ncp 7 .maintain : Ncp).att = true) ∧ (Tests.session.reqOf (Tests.ncp 7 .maintain : Ncp) = some (⟨1, .maintain, .secure, .busA, 7, 1⟩ : Req)) ∧ (Tests.session.keptFor (Tests.ncp 7 .maintain : Ncp) = none) ∧ (Tests.session.awaited (Tests.ncp 7 .maintain : Ncp) = false) ∧ (([⟨⟨⟨0x6030, 0, 3⟩, 0⟩, 1, [1]⟩] : List WItem) = [⟨⟨⟨0x6030, 0, 3⟩, 0⟩, 1, [1]⟩]) ∧ ((Tests.ncp 7 .maintain : Ncp).session ≠ 0) ∧ (Tests.session.passes (⟨1, .maintain, .secure, .busA, 7, 1⟩ : Req) (putLease (⟨1, .maintain, .secure, .busA, 7, 1⟩ : Req) 3 1).1 = true) ∧ ((Tests.session.fld F.CT_LEASE_HELD 3 = 1 → Tests.session.fld F.CT_LEASE_CTX 3 = (⟨1, .maintain, .secure, .busA, 7, 1⟩ : Req).ctx.val))) ∧
    (((Tests.session.withSys fun x => { x with held := true } : State).alive = false ∨ (Tests.session.withSys fun x => { x with held := true } : State).listens (Tests.ncp 7 .maintain : Ncp).att = false)) ∧
    ((Tests.session.alive = true) ∧ (Tests.session.listens (Tests.ncp 8 .maintain : Ncp).att = true) ∧ (Tests.session.reqOf (Tests.ncp 8 .maintain : Ncp) = none)) ∧
    (((Tests.session.modSession 1 fun x => { x with kept := [⟨0xA9FE0101, 4000, 1, 0, ⟨5, false, []⟩⟩] } : State).alive = true) ∧ ((Tests.session.modSession 1 fun x => { x with kept := [⟨0xA9FE0101, 4000, 1, 0, ⟨5, false, []⟩⟩] } : State).listens (Tests.ncp 7 .maintain : Ncp).att = true) ∧ ((Tests.session.modSession 1 fun x => { x with kept := [⟨0xA9FE0101, 4000, 1, 0, ⟨5, false, []⟩⟩] } : State).reqOf (Tests.ncp 7 .maintain : Ncp) = some (⟨1, .maintain, .secure, .busA, 7, 1⟩ : Req)) ∧ ((Tests.session.modSession 1 fun x => { x with kept := [⟨0xA9FE0101, 4000, 1, 0, ⟨5, false, []⟩⟩] } : State).keptFor (Tests.ncp 7 .maintain : Ncp) = some (⟨5, false, []⟩ : Resp))) ∧
    (((Tests.session.withHost fun x => { x with waiting := [⟨Tests.ncp 7 .maintain, ⟨5, false, []⟩, []⟩] } : State).alive = true) ∧ ((Tests.session.withHost fun x => { x with waiting := [⟨Tests.ncp 7 .maintain, ⟨5, false, []⟩, []⟩] } : State).listens (Tests.ncp 7 .maintain : Ncp).att = true) ∧ ((Tests.session.withHost fun x => { x with waiting := [⟨Tests.ncp 7 .maintain, ⟨5, false, []⟩, []⟩] } : State).reqOf (Tests.ncp 7 .maintain : Ncp) = some (⟨1, .maintain, .secure, .busA, 7, 1⟩ : Req)) ∧ ((Tests.session.withHost fun x => { x with waiting := [⟨Tests.ncp 7 .maintain, ⟨5, false, []⟩, []⟩] } : State).keptFor (Tests.ncp 7 .maintain : Ncp) = none) ∧ ((Tests.session.withHost fun x => { x with waiting := [⟨Tests.ncp 7 .maintain, ⟨5, false, []⟩, []⟩] } : State).awaited (Tests.ncp 7 .maintain : Ncp) = true)) ∧
    ((((Tests.session.setFld F.CT_LEASE_HELD 3 1).setFld F.CT_LEASE_CTX 3 2 : State).alive = true) ∧ (((Tests.session.setFld F.CT_LEASE_HELD 3 1).setFld F.CT_LEASE_CTX 3 2 : State).listens (Tests.ncp 7 .maintain : Ncp).att = true) ∧ (((Tests.session.setFld F.CT_LEASE_HELD 3 1).setFld F.CT_LEASE_CTX 3 2 : State).reqOf (Tests.ncp 7 .maintain : Ncp) = some (⟨1, .maintain, .secure, .busA, 7, 1⟩ : Req)) ∧ (((Tests.session.setFld F.CT_LEASE_HELD 3 1).setFld F.CT_LEASE_CTX 3 2 : State).keptFor (Tests.ncp 7 .maintain : Ncp) = none) ∧ (((Tests.session.setFld F.CT_LEASE_HELD 3 1).setFld F.CT_LEASE_CTX 3 2 : State).awaited (Tests.ncp 7 .maintain : Ncp) = false) ∧ (([⟨⟨⟨0x6030, 0, 3⟩, 0⟩, 1, [1]⟩] : List WItem) = [(⟨⟨⟨0x6030, 0, 3⟩, 0⟩, 1, [1]⟩ : WItem)]) ∧ ((Tests.ncp 7 .maintain : Ncp).session ≠ 0) ∧ ((⟨⟨⟨0x6030, 0, 3⟩, 0⟩, 1, [1]⟩ : WItem).val.length ≤ 1440) ∧ ((((((Tests.session.setFld F.CT_LEASE_HELD 3 1).setFld F.CT_LEASE_CTX 3 2 : State).stir.takeFrame (Tests.ncp 7 .maintain : Ncp)).touchSession (Tests.ncp 7 .maintain : Ncp)).writeItem (⟨1, .maintain, .secure, .busA, 7, 1⟩ : Req) (Tests.ncp 7 .maintain : Ncp) (⟨⟨⟨0x6030, 0, 3⟩, 0⟩, 1, [1]⟩ : WItem)).1 = Status.busy) ∧ ((((((Tests.session.setFld F.CT_LEASE_HELD 3 1).setFld F.CT_LEASE_CTX 3 2 : State).stir.takeFrame (Tests.ncp 7 .maintain : Ncp)).touchSession (Tests.ncp 7 .maintain : Ncp)).writeItem (⟨1, .maintain, .secure, .busA, 7, 1⟩ : Req) (Tests.ncp 7 .maintain : Ncp) (⟨⟨⟨0x6030, 0, 3⟩, 0⟩, 1, [1]⟩ : WItem)).2.tw.fwd = ((Tests.session.setFld F.CT_LEASE_HELD 3 1).setFld F.CT_LEASE_CTX 3 2 : State).tw.fwd)) ∧
    ((Tests.session.alive = true) ∧ (Tests.session.listens (Tests.ncp 0 .operate : Ncp).att = true) ∧ (Tests.session.reqOf (Tests.ncp 0 .operate : Ncp) = some (⟨0, .operate, .secure, .busA, 0, 1⟩ : Req)) ∧ (Tests.session.keptFor (Tests.ncp 0 .operate : Ncp) = none) ∧ (Tests.session.awaited (Tests.ncp 0 .operate : Ncp) = false) ∧ ((Tests.ncp 0 .operate : Ncp).session = 0) ∧ (([⟨⟨⟨0x6030, 0, 3⟩, 0⟩, 1, [1]⟩] : List WItem) = [(⟨⟨⟨0x6030, 0, 3⟩, 0⟩, 1, [1]⟩ : WItem)]) ∧ ((⟨⟨⟨0x6030, 0, 3⟩, 0⟩, 1, [1]⟩ : WItem).val.length ≤ 1440) ∧ (admitWrite (⟨⟨⟨0x6030, 0, 3⟩, 0⟩, 1, [1]⟩ : WItem).at_.addr = false)) ∧
    ((Tests.session.alive = true) ∧ (Tests.session.listens (Tests.ncp 7 .maintain : Ncp).att = true) ∧ (Tests.session.reqOf (Tests.ncp 7 .maintain : Ncp) = some (⟨1, .maintain, .secure, .busA, 7, 1⟩ : Req)) ∧ (Tests.session.keptFor (Tests.ncp 7 .maintain : Ncp) = none) ∧ (Tests.session.awaited (Tests.ncp 7 .maintain : Ncp) = false) ∧ ((([] : List WItem) : List WItem) = [] ∨ 64 < (([] : List WItem) : List WItem).length)) :=
  ⟨by decide +kernel, by decide +kernel, by decide +kernel, by decide +kernel, by decide +kernel, by decide +kernel, by decide +kernel, by decide +kernel⟩
theorem witness_ncpBlockRead :
    ((Tests.session.alive = true) ∧ (Tests.session.listens (Tests.ncp 7 .maintain : Ncp).att = true) ∧ (Tests.session.reqOf (Tests.ncp 7 .maintain : Ncp) = some (⟨1, .maintain, .secure, .busA, 7, 1⟩ : Req)) ∧ (Tests.session.keptFor (Tests.ncp 7 .maintain : Ncp) = none) ∧ (Tests.session.awaited (Tests.ncp 7 .maintain : Ncp) = false) ∧ ((Tests.ncp 7 .maintain : Ncp).session ≠ 0) ∧ (Tests.session.judgeWire (⟨1, .maintain, .secure, .busA, 7, 1⟩ : Req) (⟨⟨0x5010, 0, 3⟩, 0⟩ : WireAddr) = .ok (((findObj 0x5010 0).getD ⟨0, 0, .u8, [], 0, 0, [], .base, .scalar, [], false⟩) : Obj)) ∧ (1 = 1) ∧ ((((findObj 0x5010 0).getD ⟨0, 0, .u8, [], 0, 0, [], .base, .scalar, [], false⟩) : Obj).typ.isBytes = false) ∧ ((((findObj 0x5010 0).getD ⟨0, 0, .u8, [], 0, 0, [], .base, .scalar, [], false⟩) : Obj).size 0 ≤ 1440) ∧ (0 < (((findObj 0x5010 0).getD ⟨0, 0, .u8, [], 0, 0, [], .base, .scalar, [], false⟩) : Obj).size 0)) ∧
    (((Tests.session.withSys fun x => { x with held := true } : State).alive = false ∨ (Tests.session.withSys fun x => { x with held := true } : State).listens (Tests.ncp 7 .maintain : Ncp).att = false)) ∧
    ((Tests.session.alive = true) ∧ (Tests.session.listens (Tests.ncp 8 .maintain : Ncp).att = true) ∧ (Tests.session.reqOf (Tests.ncp 8 .maintain : Ncp) = none)) ∧
    (((Tests.session.modSession 1 fun x => { x with kept := [⟨0xA9FE0101, 4000, 1, 0, ⟨5, false, []⟩⟩] } : State).alive = true) ∧ ((Tests.session.modSession 1 fun x => { x with kept := [⟨0xA9FE0101, 4000, 1, 0, ⟨5, false, []⟩⟩] } : State).listens (Tests.ncp 7 .maintain : Ncp).att = true) ∧ ((Tests.session.modSession 1 fun x => { x with kept := [⟨0xA9FE0101, 4000, 1, 0, ⟨5, false, []⟩⟩] } : State).reqOf (Tests.ncp 7 .maintain : Ncp) = some (⟨1, .maintain, .secure, .busA, 7, 1⟩ : Req)) ∧ ((Tests.session.modSession 1 fun x => { x with kept := [⟨0xA9FE0101, 4000, 1, 0, ⟨5, false, []⟩⟩] } : State).keptFor (Tests.ncp 7 .maintain : Ncp) = some (⟨5, false, []⟩ : Resp))) ∧
    (((Tests.session.withHost fun x => { x with waiting := [⟨Tests.ncp 7 .maintain, ⟨5, false, []⟩, []⟩] } : State).alive = true) ∧ ((Tests.session.withHost fun x => { x with waiting := [⟨Tests.ncp 7 .maintain, ⟨5, false, []⟩, []⟩] } : State).listens (Tests.ncp 7 .maintain : Ncp).att = true) ∧ ((Tests.session.withHost fun x => { x with waiting := [⟨Tests.ncp 7 .maintain, ⟨5, false, []⟩, []⟩] } : State).reqOf (Tests.ncp 7 .maintain : Ncp) = some (⟨1, .maintain, .secure, .busA, 7, 1⟩ : Req)) ∧ ((Tests.session.withHost fun x => { x with waiting := [⟨Tests.ncp 7 .maintain, ⟨5, false, []⟩, []⟩] } : State).keptFor (Tests.ncp 7 .maintain : Ncp) = none) ∧ ((Tests.session.withHost fun x => { x with waiting := [⟨Tests.ncp 7 .maintain, ⟨5, false, []⟩, []⟩] } : State).awaited (Tests.ncp 7 .maintain : Ncp) = true)) ∧
    ((Tests.session.alive = true) ∧ (Tests.session.listens (Tests.ncp 7 .maintain : Ncp).att = true) ∧ (Tests.session.reqOf (Tests.ncp 7 .maintain : Ncp) = some (⟨1, .maintain, .secure, .busA, 7, 1⟩ : Req)) ∧ (Tests.session.keptFor (Tests.ncp 7 .maintain : Ncp) = none) ∧ (Tests.session.awaited (Tests.ncp 7 .maintain : Ncp) = false) ∧ ((Tests.ncp 7 .maintain : Ncp).session ≠ 0) ∧ (Tests.session.judgeWire (⟨1, .maintain, .secure, .busA, 7, 1⟩ : Req) (⟨⟨0x5039, 1, 0⟩, 0⟩ : WireAddr) = .error Status.index)) ∧
    ((Tests.session.alive = true) ∧ (Tests.session.listens (Tests.ncp 0 .operate : Ncp).att = true) ∧ (Tests.session.reqOf (Tests.ncp 0 .operate : Ncp) = some (⟨0, .operate, .secure, .busA, 0, 1⟩ : Req)) ∧ (Tests.session.keptFor (Tests.ncp 0 .operate : Ncp) = none) ∧ (Tests.session.awaited (Tests.ncp 0 .operate : Ncp) = false) ∧ ((Tests.ncp 0 .operate : Ncp).session = 0)) :=
  ⟨by decide +kernel, by decide +kernel, by decide +kernel, by decide +kernel, by decide +kernel, by decide +kernel, by decide +kernel⟩
theorem witness_ncpBlockWrite :
    ((Tests.session.alive = true) ∧ (Tests.session.listens (Tests.ncp 7 .maintain : Ncp).att = true) ∧ (Tests.session.reqOf (Tests.ncp 7 .maintain : Ncp) = some (⟨1, .maintain, .secure, .busA, 7, 1⟩ : Req)) ∧ (Tests.session.keptFor (Tests.ncp 7 .maintain : Ncp) = none) ∧ (Tests.session.awaited (Tests.ncp 7 .maintain : Ncp) = false) ∧ ((⟨⟨0x6030, 0, 3⟩, 0⟩ : WireAddr) = ⟨⟨0x6030, 0, 3⟩, 0⟩) ∧ (1 = 1) ∧ (([[1]] : List (List Byte)) = [[1]]) ∧ ((Tests.ncp 7 .maintain : Ncp).session ≠ 0) ∧ (Tests.session.passes (⟨1, .maintain, .secure, .busA, 7, 1⟩ : Req) (putLease (⟨1, .maintain, .secure, .busA, 7, 1⟩ : Req) 3 1).1 = true) ∧ ((Tests.session.fld F.CT_LEASE_HELD 3 = 1 → Tests.session.fld F.CT_LEASE_CTX 3 = (⟨1, .maintain, .secure, .busA, 7, 1⟩ : Req).ctx.val))) ∧
    (((Tests.session.withSys fun x => { x with held := true } : State).alive = false ∨ (Tests.session.withSys fun x => { x with held := true } : State).listens (Tests.ncp 7 .maintain : Ncp).att = false)) ∧
    ((Tests.session.alive = true) ∧ (Tests.session.listens (Tests.ncp 8 .maintain : Ncp).att = true) ∧ (Tests.session.reqOf (Tests.ncp 8 .maintain : Ncp) = none)) ∧
    (((Tests.session.modSession 1 fun x => { x with kept := [⟨0xA9FE0101, 4000, 1, 0, ⟨5, false, []⟩⟩] } : State).alive = true) ∧ ((Tests.session.modSession 1 fun x => { x with kept := [⟨0xA9FE0101, 4000, 1, 0, ⟨5, false, []⟩⟩] } : State).listens (Tests.ncp 7 .maintain : Ncp).att = true) ∧ ((Tests.session.modSession 1 fun x => { x with kept := [⟨0xA9FE0101, 4000, 1, 0, ⟨5, false, []⟩⟩] } : State).reqOf (Tests.ncp 7 .maintain : Ncp) = some (⟨1, .maintain, .secure, .busA, 7, 1⟩ : Req)) ∧ ((Tests.session.modSession 1 fun x => { x with kept := [⟨0xA9FE0101, 4000, 1, 0, ⟨5, false, []⟩⟩] } : State).keptFor (Tests.ncp 7 .maintain : Ncp) = some (⟨5, false, []⟩ : Resp))) ∧
    (((Tests.session.withHost fun x => { x with waiting := [⟨Tests.ncp 7 .maintain, ⟨5, false, []⟩, []⟩] } : State).alive = true) ∧ ((Tests.session.withHost fun x => { x with waiting := [⟨Tests.ncp 7 .maintain, ⟨5, false, []⟩, []⟩] } : State).listens (Tests.ncp 7 .maintain : Ncp).att = true) ∧ ((Tests.session.withHost fun x => { x with waiting := [⟨Tests.ncp 7 .maintain, ⟨5, false, []⟩, []⟩] } : State).reqOf (Tests.ncp 7 .maintain : Ncp) = some (⟨1, .maintain, .secure, .busA, 7, 1⟩ : Req)) ∧ ((Tests.session.withHost fun x => { x with waiting := [⟨Tests.ncp 7 .maintain, ⟨5, false, []⟩, []⟩] } : State).keptFor (Tests.ncp 7 .maintain : Ncp) = none) ∧ ((Tests.session.withHost fun x => { x with waiting := [⟨Tests.ncp 7 .maintain, ⟨5, false, []⟩, []⟩] } : State).awaited (Tests.ncp 7 .maintain : Ncp) = true)) ∧
    ((Tests.session.alive = true) ∧ (Tests.session.listens (Tests.ncp 0 .operate : Ncp).att = true) ∧ (Tests.session.reqOf (Tests.ncp 0 .operate : Ncp) = some (⟨0, .operate, .secure, .busA, 0, 1⟩ : Req)) ∧ (Tests.session.keptFor (Tests.ncp 0 .operate : Ncp) = none) ∧ (Tests.session.awaited (Tests.ncp 0 .operate : Ncp) = false) ∧ ((Tests.ncp 0 .operate : Ncp).session = 0)) ∧
    ((Tests.session.alive = true) ∧ (Tests.session.listens (Tests.ncp 7 .maintain : Ncp).att = true) ∧ (Tests.session.reqOf (Tests.ncp 7 .maintain : Ncp) = some (⟨1, .maintain, .secure, .busA, 7, 1⟩ : Req)) ∧ (Tests.session.keptFor (Tests.ncp 7 .maintain : Ncp) = none) ∧ (Tests.session.awaited (Tests.ncp 7 .maintain : Ncp) = false) ∧ ((Tests.ncp 7 .maintain : Ncp).session ≠ 0) ∧ (1440 < (([List.replicate 1441 0] : List (List Byte)).map (·.length)).sum)) :=
  ⟨by decide +kernel, by decide +kernel, by decide +kernel, by decide +kernel, by decide +kernel, by decide +kernel, by decide +kernel⟩
theorem witness_ncpSubscribe :
    ((Tests.session.alive = true) ∧ (Tests.session.listens (Tests.ncp 7 .maintain : Ncp).att = true) ∧ (Tests.session.reqOf (Tests.ncp 7 .maintain : Ncp) = some (⟨1, .maintain, .secure, .busA, 7, 1⟩ : Req)) ∧ (Tests.session.keptFor (Tests.ncp 7 .maintain : Ncp) = none) ∧ (Tests.session.awaited (Tests.ncp 7 .maintain : Ncp) = false) ∧ ((Tests.ncp 7 .maintain : Ncp).session ≠ 0) ∧ (Tests.session.session (⟨1, .maintain, .secure, .busA, 7, 1⟩ : Req).ctx.val = some (((Tests.session.session 1).getD ⟨0, .secure, 0, .bus 0, 0, 0, 0, .bus 0, [], 0, 0, [], false, []⟩) : Session)) ∧ ((⟨100, 1, 0⟩ : SubTail).action ≠ 2) ∧ (Tests.session.judgeSub (⟨1, .maintain, .secure, .busA, 7, 1⟩ : Req) (⟨⟨0x5018, 0, 3⟩, 0⟩ : WireAddr) 2 (⟨100, 1, 0⟩ : SubTail).period ((⟨100, 1, 0⟩ : SubTail).action == 1 && (⟨100, 1, 0⟩ : SubTail).res == 0) = .ok)) ∧
    (((Tests.session.withSys fun x => { x with held := true } : State).alive = false ∨ (Tests.session.withSys fun x => { x with held := true } : State).listens (Tests.ncp 7 .maintain : Ncp).att = false)) ∧
    ((Tests.session.alive = true) ∧ (Tests.session.listens (Tests.ncp 8 .maintain : Ncp).att = true) ∧ (Tests.session.reqOf (Tests.ncp 8 .maintain : Ncp) = none)) ∧
    (((Tests.session.modSession 1 fun x => { x with kept := [⟨0xA9FE0101, 4000, 1, 0, ⟨5, false, []⟩⟩] } : State).alive = true) ∧ ((Tests.session.modSession 1 fun x => { x with kept := [⟨0xA9FE0101, 4000, 1, 0, ⟨5, false, []⟩⟩] } : State).listens (Tests.ncp 7 .maintain : Ncp).att = true) ∧ ((Tests.session.modSession 1 fun x => { x with kept := [⟨0xA9FE0101, 4000, 1, 0, ⟨5, false, []⟩⟩] } : State).reqOf (Tests.ncp 7 .maintain : Ncp) = some (⟨1, .maintain, .secure, .busA, 7, 1⟩ : Req)) ∧ ((Tests.session.modSession 1 fun x => { x with kept := [⟨0xA9FE0101, 4000, 1, 0, ⟨5, false, []⟩⟩] } : State).keptFor (Tests.ncp 7 .maintain : Ncp) = some (⟨5, false, []⟩ : Resp))) ∧
    (((Tests.session.withHost fun x => { x with waiting := [⟨Tests.ncp 7 .maintain, ⟨5, false, []⟩, []⟩] } : State).alive = true) ∧ ((Tests.session.withHost fun x => { x with waiting := [⟨Tests.ncp 7 .maintain, ⟨5, false, []⟩, []⟩] } : State).listens (Tests.ncp 7 .maintain : Ncp).att = true) ∧ ((Tests.session.withHost fun x => { x with waiting := [⟨Tests.ncp 7 .maintain, ⟨5, false, []⟩, []⟩] } : State).reqOf (Tests.ncp 7 .maintain : Ncp) = some (⟨1, .maintain, .secure, .busA, 7, 1⟩ : Req)) ∧ ((Tests.session.withHost fun x => { x with waiting := [⟨Tests.ncp 7 .maintain, ⟨5, false, []⟩, []⟩] } : State).keptFor (Tests.ncp 7 .maintain : Ncp) = none) ∧ ((Tests.session.withHost fun x => { x with waiting := [⟨Tests.ncp 7 .maintain, ⟨5, false, []⟩, []⟩] } : State).awaited (Tests.ncp 7 .maintain : Ncp) = true)) ∧
    ((Tests.session.alive = true) ∧ (Tests.session.listens (Tests.ncp 7 .maintain : Ncp).att = true) ∧ (Tests.session.reqOf (Tests.ncp 7 .maintain : Ncp) = some (⟨1, .maintain, .secure, .busA, 7, 1⟩ : Req)) ∧ (Tests.session.keptFor (Tests.ncp 7 .maintain : Ncp) = none) ∧ (Tests.session.awaited (Tests.ncp 7 .maintain : Ncp) = false) ∧ ((Tests.ncp 7 .maintain : Ncp).session ≠ 0) ∧ (Tests.session.session (⟨1, .maintain, .secure, .busA, 7, 1⟩ : Req).ctx.val = some (((Tests.session.session 1).getD ⟨0, .secure, 0, .bus 0, 0, 0, 0, .bus 0, [], 0, 0, [], false, []⟩) : Session)) ∧ ((⟨100, 3, 0⟩ : SubTail).action ≠ 2) ∧ (Tests.session.judgeSub (⟨1, .maintain, .secure, .busA, 7, 1⟩ : Req) (⟨⟨0x5018, 0, 3⟩, 0⟩ : WireAddr) 2 (⟨100, 3, 0⟩ : SubTail).period ((⟨100, 3, 0⟩ : SubTail).action == 1 && (⟨100, 3, 0⟩ : SubTail).res == 0) = Status.range) ∧ (Status.range ≠ .ok)) ∧
    ((Tests.session.alive = true) ∧ (Tests.session.listens (Tests.ncp 0 .operate : Ncp).att = true) ∧ (Tests.session.reqOf (Tests.ncp 0 .operate : Ncp) = some (⟨0, .operate, .secure, .busA, 0, 1⟩ : Req)) ∧ (Tests.session.keptFor (Tests.ncp 0 .operate : Ncp) = none) ∧ (Tests.session.awaited (Tests.ncp 0 .operate : Ncp) = false) ∧ ((Tests.ncp 0 .operate : Ncp).session = 0)) :=
  ⟨by decide +kernel, by decide +kernel, by decide +kernel, by decide +kernel, by decide +kernel, by decide +kernel, by decide +kernel⟩
theorem witness_ncpUnsubscribe :
    ((Tests.session.alive = true) ∧ (Tests.session.listens (Tests.ncp 7 .maintain : Ncp).att = true) ∧ (Tests.session.reqOf (Tests.ncp 7 .maintain : Ncp) = some (⟨1, .maintain, .secure, .busA, 7, 1⟩ : Req)) ∧ (Tests.session.keptFor (Tests.ncp 7 .maintain : Ncp) = none) ∧ (Tests.session.awaited (Tests.ncp 7 .maintain : Ncp) = false) ∧ ((Tests.ncp 7 .maintain : Ncp).session ≠ 0) ∧ (Tests.session.session (⟨1, .maintain, .secure, .busA, 7, 1⟩ : Req).ctx.val = some (((Tests.session.session 1).getD ⟨0, .secure, 0, .bus 0, 0, 0, 0, .bus 0, [], 0, 0, [], false, []⟩) : Session)) ∧ (judgeUnsub (⟨1, .maintain, .secure, .busA, 7, 1⟩ : Req) (((Tests.session.session 1).getD ⟨0, .secure, 0, .bus 0, 0, 0, 0, .bus 0, [], 0, 0, [], false, []⟩) : Session).subs (⟨⟨⟨0x6048, 0, 0⟩, 0⟩, 3, ⟨0, 2, 0⟩⟩ : WireAddr × Nat × SubTail).2.1 (⟨⟨⟨0x6048, 0, 0⟩, 0⟩, 3, ⟨0, 2, 0⟩⟩ : WireAddr × Nat × SubTail).2.2.res = .ok)) ∧
    (((Tests.session.withSys fun x => { x with held := true } : State).alive = false ∨ (Tests.session.withSys fun x => { x with held := true } : State).listens (Tests.ncp 7 .maintain : Ncp).att = false)) ∧
    ((Tests.session.alive = true) ∧ (Tests.session.listens (Tests.ncp 8 .maintain : Ncp).att = true) ∧ (Tests.session.reqOf (Tests.ncp 8 .maintain : Ncp) = none)) ∧
    (((Tests.session.modSession 1 fun x => { x with kept := [⟨0xA9FE0101, 4000, 1, 0, ⟨5, false, []⟩⟩] } : State).alive = true) ∧ ((Tests.session.modSession 1 fun x => { x with kept := [⟨0xA9FE0101, 4000, 1, 0, ⟨5, false, []⟩⟩] } : State).listens (Tests.ncp 7 .maintain : Ncp).att = true) ∧ ((Tests.session.modSession 1 fun x => { x with kept := [⟨0xA9FE0101, 4000, 1, 0, ⟨5, false, []⟩⟩] } : State).reqOf (Tests.ncp 7 .maintain : Ncp) = some (⟨1, .maintain, .secure, .busA, 7, 1⟩ : Req)) ∧ ((Tests.session.modSession 1 fun x => { x with kept := [⟨0xA9FE0101, 4000, 1, 0, ⟨5, false, []⟩⟩] } : State).keptFor (Tests.ncp 7 .maintain : Ncp) = some (⟨5, false, []⟩ : Resp))) ∧
    (((Tests.session.withHost fun x => { x with waiting := [⟨Tests.ncp 7 .maintain, ⟨5, false, []⟩, []⟩] } : State).alive = true) ∧ ((Tests.session.withHost fun x => { x with waiting := [⟨Tests.ncp 7 .maintain, ⟨5, false, []⟩, []⟩] } : State).listens (Tests.ncp 7 .maintain : Ncp).att = true) ∧ ((Tests.session.withHost fun x => { x with waiting := [⟨Tests.ncp 7 .maintain, ⟨5, false, []⟩, []⟩] } : State).reqOf (Tests.ncp 7 .maintain : Ncp) = some (⟨1, .maintain, .secure, .busA, 7, 1⟩ : Req)) ∧ ((Tests.session.withHost fun x => { x with waiting := [⟨Tests.ncp 7 .maintain, ⟨5, false, []⟩, []⟩] } : State).keptFor (Tests.ncp 7 .maintain : Ncp) = none) ∧ ((Tests.session.withHost fun x => { x with waiting := [⟨Tests.ncp 7 .maintain, ⟨5, false, []⟩, []⟩] } : State).awaited (Tests.ncp 7 .maintain : Ncp) = true)) ∧
    ((Tests.session.alive = true) ∧ (Tests.session.listens (Tests.ncp 7 .maintain : Ncp).att = true) ∧ (Tests.session.reqOf (Tests.ncp 7 .maintain : Ncp) = some (⟨1, .maintain, .secure, .busA, 7, 1⟩ : Req)) ∧ (Tests.session.keptFor (Tests.ncp 7 .maintain : Ncp) = none) ∧ (Tests.session.awaited (Tests.ncp 7 .maintain : Ncp) = false) ∧ ((Tests.ncp 7 .maintain : Ncp).session ≠ 0) ∧ (Tests.session.session (⟨1, .maintain, .secure, .busA, 7, 1⟩ : Req).ctx.val = some (((Tests.session.session 1).getD ⟨0, .secure, 0, .bus 0, 0, 0, 0, .bus 0, [], 0, 0, [], false, []⟩) : Session)) ∧ (judgeUnsub (⟨1, .maintain, .secure, .busA, 7, 1⟩ : Req) (((Tests.session.session 1).getD ⟨0, .secure, 0, .bus 0, 0, 0, 0, .bus 0, [], 0, 0, [], false, []⟩) : Session).subs (⟨⟨⟨0x6048, 0, 0⟩, 0⟩, 9, ⟨0, 2, 0⟩⟩ : WireAddr × Nat × SubTail).2.1 (⟨⟨⟨0x6048, 0, 0⟩, 0⟩, 9, ⟨0, 2, 0⟩⟩ : WireAddr × Nat × SubTail).2.2.res = Status.busy) ∧ (Status.busy ≠ .ok)) ∧
    ((Tests.session.alive = true) ∧ (Tests.session.listens (Tests.ncp 0 .operate : Ncp).att = true) ∧ (Tests.session.reqOf (Tests.ncp 0 .operate : Ncp) = some (⟨0, .operate, .secure, .busA, 0, 1⟩ : Req)) ∧ (Tests.session.keptFor (Tests.ncp 0 .operate : Ncp) = none) ∧ (Tests.session.awaited (Tests.ncp 0 .operate : Ncp) = false) ∧ ((Tests.ncp 0 .operate : Ncp).session = 0)) :=
  ⟨by decide +kernel, by decide +kernel, by decide +kernel, by decide +kernel, by decide +kernel, by decide +kernel, by decide +kernel⟩
theorem witness_challengeRead :
    ((Tests.context.alive = true) ∧ (Tests.context.listens (Tests.ncp 0 .operate : Ncp).att = true) ∧ (Tests.context.reqOf (Tests.ncp 0 .operate : Ncp) = some (⟨0, .operate, .secure, .busA, 0, 1⟩ : Req)) ∧ (Tests.context.keptFor (Tests.ncp 0 .operate : Ncp) = none) ∧ (Tests.context.awaited (Tests.ncp 0 .operate : Ncp) = false) ∧ (Tests.context.acceptsRead (⟨0, .operate, .secure, .busA, 0, 1⟩ : Req) ⟨0x6010, 3, 0⟩ = true)) ∧
    (((Tests.session.withSys fun x => { x with held := true } : State).alive = false ∨ (Tests.session.withSys fun x => { x with held := true } : State).listens (Tests.ncp 0 .operate : Ncp).att = false)) ∧
    ((Tests.context.alive = true) ∧ (Tests.context.listens (Tests.ncp 8 .maintain : Ncp).att = true) ∧ (Tests.context.reqOf (Tests.ncp 8 .maintain : Ncp) = none)) ∧
    (((Tests.session.modSession 1 fun x => { x with kept := [⟨0xA9FE0101, 4000, 1, 0, ⟨5, false, []⟩⟩] } : State).alive = true) ∧ ((Tests.session.modSession 1 fun x => { x with kept := [⟨0xA9FE0101, 4000, 1, 0, ⟨5, false, []⟩⟩] } : State).listens (Tests.ncp 7 .maintain : Ncp).att = true) ∧ ((Tests.session.modSession 1 fun x => { x with kept := [⟨0xA9FE0101, 4000, 1, 0, ⟨5, false, []⟩⟩] } : State).reqOf (Tests.ncp 7 .maintain : Ncp) = some (⟨1, .maintain, .secure, .busA, 7, 1⟩ : Req)) ∧ ((Tests.session.modSession 1 fun x => { x with kept := [⟨0xA9FE0101, 4000, 1, 0, ⟨5, false, []⟩⟩] } : State).keptFor (Tests.ncp 7 .maintain : Ncp) = some (⟨5, false, []⟩ : Resp))) ∧
    (((Tests.session.withHost fun x => { x with waiting := [⟨Tests.ncp 7 .maintain, ⟨5, false, []⟩, []⟩] } : State).alive = true) ∧ ((Tests.session.withHost fun x => { x with waiting := [⟨Tests.ncp 7 .maintain, ⟨5, false, []⟩, []⟩] } : State).listens (Tests.ncp 7 .maintain : Ncp).att = true) ∧ ((Tests.session.withHost fun x => { x with waiting := [⟨Tests.ncp 7 .maintain, ⟨5, false, []⟩, []⟩] } : State).reqOf (Tests.ncp 7 .maintain : Ncp) = some (⟨1, .maintain, .secure, .busA, 7, 1⟩ : Req)) ∧ ((Tests.session.withHost fun x => { x with waiting := [⟨Tests.ncp 7 .maintain, ⟨5, false, []⟩, []⟩] } : State).keptFor (Tests.ncp 7 .maintain : Ncp) = none) ∧ ((Tests.session.withHost fun x => { x with waiting := [⟨Tests.ncp 7 .maintain, ⟨5, false, []⟩, []⟩] } : State).awaited (Tests.ncp 7 .maintain : Ncp) = true)) ∧
    (((Tests.session.modSession 1 fun x => { x with ceil := .configure } : State).alive = true) ∧ ((Tests.session.modSession 1 fun x => { x with ceil := .configure } : State).listens (Tests.ncp 7 .secure : Ncp).att = true) ∧ ((Tests.session.modSession 1 fun x => { x with ceil := .configure } : State).reqOf (Tests.ncp 7 .secure : Ncp) = some (⟨1, .secure, .configure, .busA, 7, 1⟩ : Req)) ∧ ((Tests.session.modSession 1 fun x => { x with ceil := .configure } : State).keptFor (Tests.ncp 7 .secure : Ncp) = none) ∧ ((Tests.session.modSession 1 fun x => { x with ceil := .configure } : State).awaited (Tests.ncp 7 .secure : Ncp) = false) ∧ ((Tests.session.modSession 1 fun x => { x with ceil := .configure } : State).judgeWire (⟨1, .secure, .configure, .busA, 7, 1⟩ : Req) ⟨⟨0x6010, 3, 0⟩, 0⟩ = .error Status.rights)) :=
  ⟨by decide +kernel, by decide +kernel, by decide +kernel, by decide +kernel, by decide +kernel, by decide +kernel⟩
theorem witness_sessionOpen :
    ((Tests.context.alive = true) ∧ (Tests.context.listens (Tests.ncp 0 .operate : Ncp).att = true) ∧ (Tests.context.reqOf (Tests.ncp 0 .operate : Ncp) = some (⟨0, .operate, .secure, .busA, 0, 1⟩ : Req)) ∧ (Tests.context.keptFor (Tests.ncp 0 .operate : Ncp) = none) ∧ (Tests.context.awaited (Tests.ncp 0 .operate : Ncp) = false) ∧ (Tests.context.passes (⟨0, .operate, .secure, .busA, 0, 1⟩ : Req) (putOpen ⟨0x6010, 1, 0⟩ (some (Tests.ncp 0 .operate : Ncp)) ([0, 9, 2, 1, 0, 30, 0, 0] : List Byte)).1 = true) ∧ (byteAt ([0, 9, 2, 1, 0, 30, 0, 0] : List Byte) 3 < 3) ∧ ((Tests.context.fld F.CT_CONTEXT_EN (byteAt ([0, 9, 2, 1, 0, 30, 0, 0] : List Byte) 2) = 1 ∧ Tests.context.fld F.CT_CONTEXT_NCP (byteAt ([0, 9, 2, 1, 0, 30, 0, 0] : List Byte) 2) = 1 ∧ byteAt ([0, 9, 2, 1, 0, 30, 0, 0] : List Byte) 3 ≤ Tests.context.fld F.CT_CONTEXT_CEILING (byteAt ([0, 9, 2, 1, 0, 30, 0, 0] : List Byte) 2))) ∧ (Tests.context.sessionOf (byteAt ([0, 9, 2, 1, 0, 30, 0, 0] : List Byte) 0 * 256 + byteAt ([0, 9, 2, 1, 0, 30, 0, 0] : List Byte) 1) = none) ∧ (byteAt ([0, 9, 2, 1, 0, 30, 0, 0] : List Byte) 2 < Tests.context.host.sessions.length)) ∧
    (((Tests.session.withSys fun x => { x with held := true } : State).alive = false ∨ (Tests.session.withSys fun x => { x with held := true } : State).listens (Tests.ncp 0 .operate : Ncp).att = false)) ∧
    ((Tests.context.alive = true) ∧ (Tests.context.listens (Tests.ncp 8 .maintain : Ncp).att = true) ∧ (Tests.context.reqOf (Tests.ncp 8 .maintain : Ncp) = none)) ∧
    (((Tests.session.modSession 1 fun x => { x with kept := [⟨0xA9FE0101, 4000, 1, 0, ⟨5, false, []⟩⟩] } : State).alive = true) ∧ ((Tests.session.modSession 1 fun x => { x with kept := [⟨0xA9FE0101, 4000, 1, 0, ⟨5, false, []⟩⟩] } : State).listens (Tests.ncp 7 .maintain : Ncp).att = true) ∧ ((Tests.session.modSession 1 fun x => { x with kept := [⟨0xA9FE0101, 4000, 1, 0, ⟨5, false, []⟩⟩] } : State).reqOf (Tests.ncp 7 .maintain : Ncp) = some (⟨1, .maintain, .secure, .busA, 7, 1⟩ : Req)) ∧ ((Tests.session.modSession 1 fun x => { x with kept := [⟨0xA9FE0101, 4000, 1, 0, ⟨5, false, []⟩⟩] } : State).keptFor (Tests.ncp 7 .maintain : Ncp) = some (⟨5, false, []⟩ : Resp))) ∧
    (((Tests.session.withHost fun x => { x with waiting := [⟨Tests.ncp 7 .maintain, ⟨5, false, []⟩, []⟩] } : State).alive = true) ∧ ((Tests.session.withHost fun x => { x with waiting := [⟨Tests.ncp 7 .maintain, ⟨5, false, []⟩, []⟩] } : State).listens (Tests.ncp 7 .maintain : Ncp).att = true) ∧ ((Tests.session.withHost fun x => { x with waiting := [⟨Tests.ncp 7 .maintain, ⟨5, false, []⟩, []⟩] } : State).reqOf (Tests.ncp 7 .maintain : Ncp) = some (⟨1, .maintain, .secure, .busA, 7, 1⟩ : Req)) ∧ ((Tests.session.withHost fun x => { x with waiting := [⟨Tests.ncp 7 .maintain, ⟨5, false, []⟩, []⟩] } : State).keptFor (Tests.ncp 7 .maintain : Ncp) = none) ∧ ((Tests.session.withHost fun x => { x with waiting := [⟨Tests.ncp 7 .maintain, ⟨5, false, []⟩, []⟩] } : State).awaited (Tests.ncp 7 .maintain : Ncp) = true)) ∧
    ((Tests.context.alive = true) ∧ (Tests.context.listens (Tests.ncp 0 .operate : Ncp).att = true) ∧ (Tests.context.reqOf (Tests.ncp 0 .operate : Ncp) = some (⟨0, .operate, .secure, .busA, 0, 1⟩ : Req)) ∧ (Tests.context.keptFor (Tests.ncp 0 .operate : Ncp) = none) ∧ (Tests.context.awaited (Tests.ncp 0 .operate : Ncp) = false) ∧ (Tests.context.passes (⟨0, .operate, .secure, .busA, 0, 1⟩ : Req) (putOpen ⟨0x6010, 1, 0⟩ (some (Tests.ncp 0 .operate : Ncp)) ([0, 9, 3, 1, 0, 30, 0, 0] : List Byte)).1 = true) ∧ (byteAt ([0, 9, 3, 1, 0, 30, 0, 0] : List Byte) 3 < 3) ∧ (¬(Tests.context.fld F.CT_CONTEXT_EN (byteAt ([0, 9, 3, 1, 0, 30, 0, 0] : List Byte) 2) = 1 ∧ Tests.context.fld F.CT_CONTEXT_NCP (byteAt ([0, 9, 3, 1, 0, 30, 0, 0] : List Byte) 2) = 1 ∧ byteAt ([0, 9, 3, 1, 0, 30, 0, 0] : List Byte) 3 ≤ Tests.context.fld F.CT_CONTEXT_CEILING (byteAt ([0, 9, 3, 1, 0, 30, 0, 0] : List Byte) 2)))) ∧
    (((Tests.context.setSession 1 (some ((Tests.session.session 1).getD ⟨0, .secure, 0, .bus 0, 0, 0, 0, .bus 0, [], 0, 0, [], false, []⟩)) : State).alive = true) ∧ ((Tests.context.setSession 1 (some ((Tests.session.session 1).getD ⟨0, .secure, 0, .bus 0, 0, 0, 0, .bus 0, [], 0, 0, [], false, []⟩)) : State).listens (Tests.ncp 0 .operate : Ncp).att = true) ∧ ((Tests.context.setSession 1 (some ((Tests.session.session 1).getD ⟨0, .secure, 0, .bus 0, 0, 0, 0, .bus 0, [], 0, 0, [], false, []⟩)) : State).reqOf (Tests.ncp 0 .operate : Ncp) = some (⟨0, .operate, .secure, .busA, 0, 1⟩ : Req)) ∧ ((Tests.context.setSession 1 (some ((Tests.session.session 1).getD ⟨0, .secure, 0, .bus 0, 0, 0, 0, .bus 0, [], 0, 0, [], false, []⟩)) : State).keptFor (Tests.ncp 0 .operate : Ncp) = none) ∧ ((Tests.context.setSession 1 (some ((Tests.session.session 1).getD ⟨0, .secure, 0, .bus 0, 0, 0, 0, .bus 0, [], 0, 0, [], false, []⟩)) : State).awaited (Tests.ncp 0 .operate : Ncp) = false) ∧ ((Tests.context.setSession 1 (some ((Tests.session.session 1).getD ⟨0, .secure, 0, .bus 0, 0, 0, 0, .bus 0, [], 0, 0, [], false, []⟩)) : State).passes (⟨0, .operate, .secure, .busA, 0, 1⟩ : Req) (putOpen ⟨0x6010, 1, 0⟩ (some (Tests.ncp 0 .operate : Ncp)) ([0, 7, 2, 1, 0, 30, 0, 0] : List Byte)).1 = true) ∧ (byteAt ([0, 7, 2, 1, 0, 30, 0, 0] : List Byte) 3 < 3) ∧ (((Tests.context.setSession 1 (some ((Tests.session.session 1).getD ⟨0, .secure, 0, .bus 0, 0, 0, 0, .bus 0, [], 0, 0, [], false, []⟩)) : State).fld F.CT_CONTEXT_EN (byteAt ([0, 7, 2, 1, 0, 30, 0, 0] : List Byte) 2) = 1 ∧ (Tests.context.setSession 1 (some ((Tests.session.session 1).getD ⟨0, .secure, 0, .bus 0, 0, 0, 0, .bus 0, [], 0, 0, [], false, []⟩)) : State).fld F.CT_CONTEXT_NCP (byteAt ([0, 7, 2, 1, 0, 30, 0, 0] : List Byte) 2) = 1 ∧ byteAt ([0, 7, 2, 1, 0, 30, 0, 0] : List Byte) 3 ≤ (Tests.context.setSession 1 (some ((Tests.session.session 1).getD ⟨0, .secure, 0, .bus 0, 0, 0, 0, .bus 0, [], 0, 0, [], false, []⟩)) : State).fld F.CT_CONTEXT_CEILING (byteAt ([0, 7, 2, 1, 0, 30, 0, 0] : List Byte) 2))) ∧ ((Tests.context.setSession 1 (some ((Tests.session.session 1).getD ⟨0, .secure, 0, .bus 0, 0, 0, 0, .bus 0, [], 0, 0, [], false, []⟩)) : State).sessionOf (byteAt ([0, 7, 2, 1, 0, 30, 0, 0] : List Byte) 0 * 256 + byteAt ([0, 7, 2, 1, 0, 30, 0, 0] : List Byte) 1) = some ((1, ((Tests.session.session 1).getD ⟨0, .secure, 0, .bus 0, 0, 0, 0, .bus 0, [], 0, 0, [], false, []⟩)) : Fin 4 × Session)) ∧ (((1, ((Tests.session.session 1).getD ⟨0, .secure, 0, .bus 0, 0, 0, 0, .bus 0, [], 0, 0, [], false, []⟩)) : Fin 4 × Session).1.val ≠ byteAt ([0, 7, 2, 1, 0, 30, 0, 0] : List Byte) 2)) :=
  ⟨by decide +kernel, by decide +kernel, by decide +kernel, by decide +kernel, by decide +kernel, by decide +kernel, by decide +kernel⟩
theorem witness_sessionClose :
    ((Tests.session.alive = true) ∧ (Tests.session.listens (Tests.ncp 7 .operate : Ncp).att = true) ∧ (Tests.session.reqOf (Tests.ncp 7 .operate : Ncp) = some (⟨1, .operate, .secure, .busA, 7, 1⟩ : Req)) ∧ (Tests.session.keptFor (Tests.ncp 7 .operate : Ncp) = none) ∧ (Tests.session.awaited (Tests.ncp 7 .operate : Ncp) = false) ∧ ((Tests.ncp 7 .operate : Ncp).session ≠ 0) ∧ (7 < 65536) ∧ (Tests.session.passes (⟨1, .operate, .secure, .busA, 7, 1⟩ : Req) (putClose (⟨1, .operate, .secure, .busA, 7, 1⟩ : Req) ⟨0x6010, 2, 0⟩ (BitVec.ofNat 64 7)).1 = true) ∧ (Tests.session.sessionOf 7 = some ((⟨1, .operate, .secure, .busA, 7, 1⟩ : Req).ctx, (((Tests.session.session 1).getD ⟨0, .secure, 0, .bus 0, 0, 0, 0, .bus 0, [], 0, 0, [], false, []⟩) : Session)))) ∧
    (((Tests.session.withSys fun x => { x with held := true } : State).alive = false ∨ (Tests.session.withSys fun x => { x with held := true } : State).listens (Tests.ncp 7 .operate : Ncp).att = false)) ∧
    ((Tests.session.alive = true) ∧ (Tests.session.listens (Tests.ncp 8 .maintain : Ncp).att = true) ∧ (Tests.session.reqOf (Tests.ncp 8 .maintain : Ncp) = none)) ∧
    (((Tests.session.modSession 1 fun x => { x with kept := [⟨0xA9FE0101, 4000, 1, 0, ⟨5, false, []⟩⟩] } : State).alive = true) ∧ ((Tests.session.modSession 1 fun x => { x with kept := [⟨0xA9FE0101, 4000, 1, 0, ⟨5, false, []⟩⟩] } : State).listens (Tests.ncp 7 .maintain : Ncp).att = true) ∧ ((Tests.session.modSession 1 fun x => { x with kept := [⟨0xA9FE0101, 4000, 1, 0, ⟨5, false, []⟩⟩] } : State).reqOf (Tests.ncp 7 .maintain : Ncp) = some (⟨1, .maintain, .secure, .busA, 7, 1⟩ : Req)) ∧ ((Tests.session.modSession 1 fun x => { x with kept := [⟨0xA9FE0101, 4000, 1, 0, ⟨5, false, []⟩⟩] } : State).keptFor (Tests.ncp 7 .maintain : Ncp) = some (⟨5, false, []⟩ : Resp))) ∧
    (((Tests.session.withHost fun x => { x with waiting := [⟨Tests.ncp 7 .maintain, ⟨5, false, []⟩, []⟩] } : State).alive = true) ∧ ((Tests.session.withHost fun x => { x with waiting := [⟨Tests.ncp 7 .maintain, ⟨5, false, []⟩, []⟩] } : State).listens (Tests.ncp 7 .maintain : Ncp).att = true) ∧ ((Tests.session.withHost fun x => { x with waiting := [⟨Tests.ncp 7 .maintain, ⟨5, false, []⟩, []⟩] } : State).reqOf (Tests.ncp 7 .maintain : Ncp) = some (⟨1, .maintain, .secure, .busA, 7, 1⟩ : Req)) ∧ ((Tests.session.withHost fun x => { x with waiting := [⟨Tests.ncp 7 .maintain, ⟨5, false, []⟩, []⟩] } : State).keptFor (Tests.ncp 7 .maintain : Ncp) = none) ∧ ((Tests.session.withHost fun x => { x with waiting := [⟨Tests.ncp 7 .maintain, ⟨5, false, []⟩, []⟩] } : State).awaited (Tests.ncp 7 .maintain : Ncp) = true)) ∧
    (((Tests.session.setSession 2 (some { ((Tests.session.session 1).getD ⟨0, .secure, 0, .bus 0, 0, 0, 0, .bus 0, [], 0, 0, [], false, []⟩) with number := 9 }) : State).alive = true) ∧ ((Tests.session.setSession 2 (some { ((Tests.session.session 1).getD ⟨0, .secure, 0, .bus 0, 0, 0, 0, .bus 0, [], 0, 0, [], false, []⟩) with number := 9 }) : State).listens (Tests.ncp 7 .operate : Ncp).att = true) ∧ ((Tests.session.setSession 2 (some { ((Tests.session.session 1).getD ⟨0, .secure, 0, .bus 0, 0, 0, 0, .bus 0, [], 0, 0, [], false, []⟩) with number := 9 }) : State).reqOf (Tests.ncp 7 .operate : Ncp) = some (⟨1, .operate, .secure, .busA, 7, 1⟩ : Req)) ∧ ((Tests.session.setSession 2 (some { ((Tests.session.session 1).getD ⟨0, .secure, 0, .bus 0, 0, 0, 0, .bus 0, [], 0, 0, [], false, []⟩) with number := 9 }) : State).keptFor (Tests.ncp 7 .operate : Ncp) = none) ∧ ((Tests.session.setSession 2 (some { ((Tests.session.session 1).getD ⟨0, .secure, 0, .bus 0, 0, 0, 0, .bus 0, [], 0, 0, [], false, []⟩) with number := 9 }) : State).awaited (Tests.ncp 7 .operate : Ncp) = false) ∧ ((Tests.ncp 7 .operate : Ncp).session ≠ 0) ∧ (9 < 65536) ∧ ((Tests.session.setSession 2 (some { ((Tests.session.session 1).getD ⟨0, .secure, 0, .bus 0, 0, 0, 0, .bus 0, [], 0, 0, [], false, []⟩) with number := 9 }) : State).passes (⟨1, .operate, .secure, .busA, 7, 1⟩ : Req) (putClose (⟨1, .operate, .secure, .busA, 7, 1⟩ : Req) ⟨0x6010, 2, 0⟩ (BitVec.ofNat 64 9)).1 = true) ∧ ((Tests.session.setSession 2 (some { ((Tests.session.session 1).getD ⟨0, .secure, 0, .bus 0, 0, 0, 0, .bus 0, [], 0, 0, [], false, []⟩) with number := 9 }) : State).sessionOf 9 = some ((2, { ((Tests.session.session 1).getD ⟨0, .secure, 0, .bus 0, 0, 0, 0, .bus 0, [], 0, 0, [], false, []⟩) with number := 9 }) : Fin 4 × Session)) ∧ (((2, { ((Tests.session.session 1).getD ⟨0, .secure, 0, .bus 0, 0, 0, 0, .bus 0, [], 0, 0, [], false, []⟩) with number := 9 }) : Fin 4 × Session).1 ≠ (⟨1, .operate, .secure, .busA, 7, 1⟩ : Req).ctx) ∧ ((⟨1, .operate, .secure, .busA, 7, 1⟩ : Req).cls ≠ .maintain) ∧ ((⟨1, .operate, .secure, .busA, 7, 1⟩ : Req).cls ≠ .secure)) ∧
    ((Tests.session.alive = true) ∧ (Tests.session.listens (Tests.ncp 7 .operate : Ncp).att = true) ∧ (Tests.session.reqOf (Tests.ncp 7 .operate : Ncp) = some (⟨1, .operate, .secure, .busA, 7, 1⟩ : Req)) ∧ (Tests.session.keptFor (Tests.ncp 7 .operate : Ncp) = none) ∧ (Tests.session.awaited (Tests.ncp 7 .operate : Ncp) = false) ∧ ((Tests.ncp 7 .operate : Ncp).session ≠ 0) ∧ (9 < 65536) ∧ (Tests.session.passes (⟨1, .operate, .secure, .busA, 7, 1⟩ : Req) (putClose (⟨1, .operate, .secure, .busA, 7, 1⟩ : Req) ⟨0x6010, 2, 0⟩ (BitVec.ofNat 64 9)).1 = true) ∧ (Tests.session.sessionOf 9 = none)) :=
  ⟨by decide +kernel, by decide +kernel, by decide +kernel, by decide +kernel, by decide +kernel, by decide +kernel, by decide +kernel⟩
theorem witness_sessionTimeout :
    ((Tests.session.session ((1 : Fin 4) : Fin 4).val = some (((Tests.session.session 1).getD ⟨0, .secure, 0, .bus 0, 0, 0, 0, .bus 0, [], 0, 0, [], false, []⟩) : Session))) ∧
    ((State.reset.session ((1 : Fin 4) : Fin 4).val = none)) :=
  ⟨by decide +kernel, by decide +kernel⟩
theorem witness_notifyPeriod :
    (((Tests.session.sideOf ((1 : Fin 4) : Fin 4).val false).1.find? (fun y => y.id == 3 && y.period != 0) = some (⟨3, ⟨0x6048, 0, 0⟩, 1, 100, 0⟩ : Sub))) ∧
    (((Tests.session.sideOf ((1 : Fin 4) : Fin 4).val false).1.find? (fun y => y.id == 4 && y.period != 0) = none)) :=
  ⟨by decide +kernel, by decide +kernel⟩
theorem witness_notifySend :
    (((Tests.session.sideOf ((1 : Fin 4) : Fin 4).val false).2.1 = (⟨3, 1, ⟨0x6048, 0, 0⟩, [0], 0⟩ : Note) :: ([] : List Note))) ∧
    (((Tests.context.sideOf ((1 : Fin 4) : Fin 4).val false).2.1 = [])) :=
  ⟨by decide +kernel, by decide +kernel⟩
theorem witness_notifyOverflow :
    (((Tests.session.sideOf ((1 : Fin 4) : Fin 4).val false).2.2 = true ∧ Tests.session.queued ((1 : Fin 4) : Fin 4).val false < 256)) ∧
    ((¬((Tests.context.sideOf ((1 : Fin 4) : Fin 4).val false).2.2 = true ∧ Tests.context.queued ((1 : Fin 4) : Fin 4).val false < 256))) :=
  ⟨by decide +kernel, by decide +kernel⟩
theorem witness_emergencySend :
    ((Tests.session.keeperSends = true) ∧ ((Tests.session.host.emerg.findIdx? fun y => y.2.1 == 0) = some 0)) ∧
    ((Tests.context.keeperSends = false ∨ (Tests.context.host.emerg.findIdx? fun y => y.2.1 == 0) = none)) :=
  ⟨by decide +kernel, by decide +kernel⟩
theorem witness_emergencyRepeat :
    ((Tests.session.keeperSends = true) ∧ ((Tests.session.host.emerg.findIdx? fun y => y.2.1 == 1 || y.2.1 == 2) = some 1) ∧ (Tests.session.host.emerg[1]? = some (([0], 1, 0) : List W × Nat × Nat)) ∧ ((([0], 1, 0) : List W × Nat × Nat).2.1 = 1)) ∧
    (((Tests.session.withHost fun h => { h with emerg := [([0], 0, 0), ([0], 2, 0)] } : State).keeperSends = true) ∧ (((Tests.session.withHost fun h => { h with emerg := [([0], 0, 0), ([0], 2, 0)] } : State).host.emerg.findIdx? fun y => y.2.1 == 1 || y.2.1 == 2) = some 1) ∧ ((Tests.session.withHost fun h => { h with emerg := [([0], 0, 0), ([0], 2, 0)] } : State).host.emerg[1]? = some (([0], 2, 0) : List W × Nat × Nat)) ∧ ((([0], 2, 0) : List W × Nat × Nat).2.1 = 2)) ∧
    ((Tests.context.keeperSends = false ∨ (Tests.context.host.emerg.findIdx? fun y => y.2.1 == 1 || y.2.1 == 2) = none)) :=
  ⟨by decide +kernel, by decide +kernel, by decide +kernel⟩
theorem witness_busFrameRx :
    (((Tests.session.setFld F.CT_NODE_ID 0 0 : State).alive = true) ∧ (Tests.ncpFrame.jabber = false) ∧ (Tests.ncpFrame.fcsOk = true) ∧ (Tests.ncpFrame.toMe = true) ∧ (Tests.ncpFrame.tagged = false) ∧ (Tests.ncpFrame.len ≤ 1518) ∧ ((((Tests.session.setFld F.CT_NODE_ID 0 0 : State).host.bus[((3 : Fin 4) : Fin 4).val]?).map (·.held.length)).getD 0 < 16) ∧ (Tests.ncpFrame.body = .ncp 1 2 (beBytes 1 1 ++ beBytes 1 1 ++ beBytes 11 0 ++ beBytes 1 8 ++ beBytes 2 0 ++ beBytes 8 0 : List Byte)) ∧ ((Tests.session.setFld F.CT_NODE_ID 0 0 : State).ncpDrop (beBytes 1 1 ++ beBytes 1 1 ++ beBytes 11 0 ++ beBytes 1 8 ++ beBytes 2 0 ++ beBytes 8 0 : List Byte) = none)) ∧
    (((Tests.session.setFld F.CT_NODE_ID 0 0 : State).alive = true) ∧ (({ Tests.ncpFrame with jabber := true } : BusFrame).jabber = true)) ∧
    (((Tests.session.setFld F.CT_NODE_ID 0 0 : State).alive = true) ∧ (({ Tests.ncpFrame with fcsOk := false } : BusFrame).jabber = false) ∧ (({ Tests.ncpFrame with fcsOk := false } : BusFrame).fcsOk = false)) ∧
    (((Tests.session.withBus 3 fun b => { b with held := List.replicate 16 ⟨1, 2, []⟩ } : State).alive = true) ∧ (Tests.ncpFrame.jabber = false) ∧ (Tests.ncpFrame.fcsOk = true) ∧ (Tests.ncpFrame.toMe = true) ∧ (Tests.ncpFrame.tagged = false) ∧ (Tests.ncpFrame.len ≤ 1518) ∧ (16 ≤ (((Tests.session.withBus 3 fun b => { b with held := List.replicate 16 ⟨1, 2, []⟩ } : State).host.bus[((3 : Fin 4) : Fin 4).val]?).map (·.held.length)).getD 0) ∧ (Tests.ncpFrame.body = .ncp 1 2 (beBytes 1 1 ++ beBytes 1 1 ++ beBytes 11 0 ++ beBytes 1 8 ++ beBytes 2 0 ++ beBytes 8 0 : List Byte))) ∧
    (((Tests.session.setFld F.CT_NODE_ID 0 0 : State).alive = false ∨ (({ Tests.ncpFrame with toMe := false } : BusFrame).jabber = false ∧ ({ Tests.ncpFrame with toMe := false } : BusFrame).fcsOk = true ∧ (({ Tests.ncpFrame with toMe := false } : BusFrame).toMe = false ∨ ({ Tests.ncpFrame with toMe := false } : BusFrame).tagged = true ∨ 1518 < ({ Tests.ncpFrame with toMe := false } : BusFrame).len ∨ ({ Tests.ncpFrame with toMe := false } : BusFrame).body = .other)))) :=
  ⟨by decide +kernel, by decide +kernel, by decide +kernel, by decide +kernel, by decide +kernel⟩
theorem witness_busCollision :
    (((Tests.session.withBus 3 fun _ => ⟨[], 14, 0, 0, 0, 0⟩ : State).host.bus[((3 : Fin 4) : Fin 4).val]? = some (⟨[], 14, 0, 0, 0, 0⟩ : BusAtt)) ∧ ((Tests.session.withBus 3 fun _ => ⟨[], 14, 0, 0, 0, 0⟩ : State).now ≤ (⟨[], 14, 0, 0, 0, 0⟩ : BusAtt).since + ms 2) ∧ ((⟨[], 14, 0, 0, 0, 0⟩ : BusAtt).attempts < 15)) ∧
    (((Tests.session.withBus 3 fun _ => ⟨[], 15, 0, 0, 0, 0⟩ : State).host.bus[((3 : Fin 4) : Fin 4).val]? = some (⟨[], 15, 0, 0, 0, 0⟩ : BusAtt)) ∧ ((Tests.session.withBus 3 fun _ => ⟨[], 15, 0, 0, 0, 0⟩ : State).now ≤ (⟨[], 15, 0, 0, 0, 0⟩ : BusAtt).since + ms 2) ∧ (15 ≤ (⟨[], 15, 0, 0, 0, 0⟩ : BusAtt).attempts)) ∧
    (((State.reset.withHost fun h => { h with bus := [] } : State).host.bus[((3 : Fin 4) : Fin 4).val]? = none)) :=
  ⟨by decide +kernel, by decide +kernel, by decide +kernel⟩
theorem witness_busBackoffExpire :
    (((Tests.session.withBus 3 fun _ => ⟨[], 14, 0, 900, 0, 0⟩ : State).host.bus[((3 : Fin 4) : Fin 4).val]? = some (⟨[], 14, 0, 900, 0, 0⟩ : BusAtt)) ∧ ((⟨[], 14, 0, 900, 0, 0⟩ : BusAtt).attempts ≠ 0)) ∧
    ((((State.reset.host.bus[((3 : Fin 4) : Fin 4).val]?).map (·.attempts)).getD 0 = 0)) :=
  ⟨by decide +kernel, by decide +kernel⟩
theorem witness_ctBusWrite : ((Tests.session.passes Tests.maintain (putBus 2 (F.CT_BUS_PREFIX.put (F.CT_BUS_IPADDR.put 0 0x0A000001) 24 : W)).1 = true)) := by decide +kernel
theorem witness_leaseTake :
    ((Tests.session.passes Tests.configure (putLease Tests.configure 3 1).1 = true) ∧ ((Tests.session.fld F.CT_LEASE_HELD 3 = 1 → Tests.session.fld F.CT_LEASE_CTX 3 = Tests.configure.ctx.val))) ∧
    ((((Tests.session.setFld F.CT_LEASE_HELD 3 1).setFld F.CT_LEASE_CTX 3 2 : State).passes Tests.configure (putLease Tests.configure 3 1).1 = true) ∧ (¬(((Tests.session.setFld F.CT_LEASE_HELD 3 1).setFld F.CT_LEASE_CTX 3 2 : State).fld F.CT_LEASE_HELD 3 = 1 → ((Tests.session.setFld F.CT_LEASE_HELD 3 1).setFld F.CT_LEASE_CTX 3 2 : State).fld F.CT_LEASE_CTX 3 = Tests.configure.ctx.val))) :=
  ⟨by decide +kernel, by decide +kernel⟩
theorem witness_leaseRelease :
    (((Tests.session.setFld F.CT_LEASE_HELD 3 1 : State).passes Tests.configure (putLease Tests.configure 3 2).1 = true) ∧ ((Tests.session.setFld F.CT_LEASE_HELD 3 1 : State).fld F.CT_LEASE_HELD 3 = 1) ∧ ((Tests.session.setFld F.CT_LEASE_HELD 3 1 : State).fld F.CT_LEASE_CTX 3 = Tests.configure.ctx.val)) ∧
    ((((Tests.session.setFld F.CT_LEASE_HELD 3 1).setFld F.CT_LEASE_CTX 3 2 : State).passes Tests.configure (putLease Tests.configure 3 2).1 = true) ∧ (((Tests.session.setFld F.CT_LEASE_HELD 3 1).setFld F.CT_LEASE_CTX 3 2 : State).fld F.CT_LEASE_HELD 3 ≠ 1 ∨ ((Tests.session.setFld F.CT_LEASE_HELD 3 1).setFld F.CT_LEASE_CTX 3 2 : State).fld F.CT_LEASE_CTX 3 ≠ Tests.configure.ctx.val)) :=
  ⟨by decide +kernel, by decide +kernel⟩
theorem witness_leaseBreak : (((Tests.session.setFld F.CT_LEASE_HELD 3 1 : State).passes Tests.maintain (putLease Tests.maintain 3 3).1 = true)) := by decide +kernel
theorem witness_ctContextWrite :
    (((Tests.context.setFld F.FW_LIFECYCLE_STATE 0 lfMANUFACTURE : State).passes Tests.secure (putContext 2 [(1, (77 : W))]).1 = true) ∧ ((lifeState (Tests.context.setFld F.FW_LIFECYCLE_STATE 0 lfMANUFACTURE : State) = lfMANUFACTURE ∨ ((Tests.context.setFld F.FW_LIFECYCLE_STATE 0 lfMANUFACTURE : State).putWord 0x6018 2 1 (77 : W)).contextServes = true))) ∧
    (((Tests.context.setFld F.FW_LIFECYCLE_STATE 0 lfFIELD : State).passes Tests.secure (putContext 2 [(1, (77 : W))]).1 = true) ∧ (¬(lifeState (Tests.context.setFld F.FW_LIFECYCLE_STATE 0 lfFIELD : State) = lfMANUFACTURE ∨ ((Tests.context.setFld F.FW_LIFECYCLE_STATE 0 lfFIELD : State).putWord 0x6018 2 1 (77 : W)).contextServes = true))) :=
  ⟨by decide +kernel, by decide +kernel⟩
theorem witness_registerWrite :
    ((Tests.session.passes Tests.maintain (putWordOf Tests.session Tests.maintain (⟨0x5038, 4, 0⟩ : Addr) 0 (17 : W)).1 = true) ∧ ((⟨0x5038, 4, 0⟩ : Addr) = ⟨0x5038, 4, 0⟩) ∧ (1 ≤ 4)) ∧
    ((Tests.session.alive = true) ∧ (findElem Tests.session.caps (⟨0x5039, 0, 0⟩ : Addr) = .error Status.index)) :=
  ⟨by decide +kernel, by decide +kernel⟩
theorem witness_pcieWindowRead :
    ((Tests.pcie.alive = true) ∧ (Tests.pcie.pcieOn ((1 : Fin 4) : Fin 4).val = true) ∧ (Tests.pcie.host.pcie[((1 : Fin 4) : Fin 4).val]? = some (((Tests.pcie.host.pcie[1]?).getD .rest) : PcieFn)) ∧ (false = false) ∧ (true = true) ∧ (0x18 < 0x1000) ∧ (0x18 % 8 = 0) ∧ ((((Tests.pcie.host.pcie[1]?).getD .rest) : PcieFn).control 0x18 = .ok (0 : W))) ∧
    (((Tests.inMode ACTIVE : State).alive = true) ∧ ((Tests.inMode ACTIVE : State).pcieOn ((1 : Fin 4) : Fin 4).val = false) ∧ ((Tests.inMode ACTIVE : State).host.pcie[((1 : Fin 4) : Fin 4).val]? = some (((Tests.pcie.host.pcie[1]?).getD .rest) : PcieFn))) ∧
    (((Tests.pcie.withSys fun y => { y with held := true } : State).alive = false)) ∧
    ((Tests.pcie.alive = true) ∧ (Tests.pcie.pcieOn ((1 : Fin 4) : Fin 4).val = true) ∧ (Tests.pcie.host.pcie[((1 : Fin 4) : Fin 4).val]? = some (((Tests.pcie.host.pcie[1]?).getD .rest) : PcieFn)) ∧ (locate Tests.pcie.caps false (0x2000000 + 0x5038 * 0x400 + 4 : Nat) false = some (.word (Tests.obj 0x5038 1 : Obj) 0 0 0)) ∧ ((Tests.obj 0x5038 1 : Obj).acc.length * (Tests.obj 0x5038 1 : Obj).typ.bytes ≤ 8) ∧ (twoSlots (Tests.obj 0x5038 1 : Obj) false = false) ∧ ((Tests.obj 0x5038 1 : Obj).ix ≠ 0x6830) ∧ (Tests.pcie.acceptsRead (Tests.pcie.pcieReq ((1 : Fin 4) : Fin 4)) ⟨(Tests.obj 0x5038 1 : Obj).ix, (Tests.obj 0x5038 1 : Obj).sub, 0⟩ = true) ∧ (Tests.pcie.mode ≠ SAFE)) ∧
    ((Tests.pcie.alive = true) ∧ (Tests.pcie.pcieOn ((1 : Fin 4) : Fin 4).val = true) ∧ (Tests.pcie.host.pcie[((1 : Fin 4) : Fin 4).val]? = some (((Tests.pcie.host.pcie[1]?).getD .rest) : PcieFn)) ∧ (locate Tests.pcie.caps false 0x900000 true = none)) :=
  ⟨by decide +kernel, by decide +kernel, by decide +kernel, by decide +kernel, by decide +kernel⟩
theorem witness_pcieWindowWrite :
    ((Tests.pcie.alive = true) ∧ (Tests.pcie.pcieOn ((1 : Fin 4) : Fin 4).val = true) ∧ (Tests.pcie.host.pcie[((1 : Fin 4) : Fin 4).val]? = some (((Tests.pcie.host.pcie[1]?).getD .rest) : PcieFn)) ∧ (false = false) ∧ (true = true) ∧ (0x20 = 0x20) ∧ ((0x7000 : W).toNat % 4096 = 0)) ∧
    (((Tests.inMode ACTIVE : State).alive = true) ∧ ((Tests.inMode ACTIVE : State).pcieOn ((1 : Fin 4) : Fin 4).val = false) ∧ ((Tests.inMode ACTIVE : State).host.pcie[((1 : Fin 4) : Fin 4).val]? = some (((Tests.pcie.host.pcie[1]?).getD .rest) : PcieFn))) ∧
    (((Tests.pcie.withSys fun y => { y with held := true } : State).alive = false)) ∧
    ((Tests.pcieMaintain.alive = true) ∧ (Tests.pcieMaintain.pcieOn ((1 : Fin 4) : Fin 4).val = true) ∧ (Tests.pcieMaintain.host.pcie[((1 : Fin 4) : Fin 4).val]? = some (((Tests.pcieMaintain.host.pcie[1]?).getD .rest) : PcieFn)) ∧ (findObj 0x5038 4 = some (Tests.obj 0x5038 4 : Obj)) ∧ (1 ≤ 4) ∧ (false = false) ∧ (false = false) ∧ (locate Tests.pcieMaintain.caps false (0x2000000 + 0x5038 * 0x400 + 16 : Nat) false = some (.word (Tests.obj 0x5038 4 : Obj) 0 0 0)) ∧ ((Tests.obj 0x5038 4 : Obj).typ.bytes ≠ 8) ∧ ((17 : W).toNat < 2 ^ 32) ∧ (Tests.pcieMaintain.passes (Tests.pcieMaintain.pcieReq ((1 : Fin 4) : Fin 4)) (putWordOf Tests.pcieMaintain (Tests.pcieMaintain.pcieReq ((1 : Fin 4) : Fin 4)) ⟨0x5038, 4, 0⟩ 0 (17 : W)).1 = true)) ∧
    ((Tests.pcie.alive = true) ∧ (Tests.pcie.pcieOn ((1 : Fin 4) : Fin 4).val = true) ∧ (Tests.pcie.host.pcie[((1 : Fin 4) : Fin 4).val]? = some (((Tests.pcie.host.pcie[1]?).getD .rest) : PcieFn)) ∧ (locate Tests.pcie.caps false 0x900000 true = none)) :=
  ⟨by decide +kernel, by decide +kernel, by decide +kernel, by decide +kernel, by decide +kernel⟩
theorem witness_pcieClassWrite :
    ((Tests.pcie.alive = true) ∧ (Tests.pcie.pcieOn ((1 : Fin 4) : Fin 4).val = true) ∧ (Tests.pcie.host.pcie[((1 : Fin 4) : Fin 4).val]? = some (((Tests.pcie.host.pcie[1]?).getD .rest) : PcieFn)) ∧ ((2 : W).toNat < 4) ∧ (((2 : W).toNat ≤ Tests.pcie.fld F.CT_CONTEXT_CEILING ((1 : Fin 4) : Fin 4) ∧ ((2 : W).toNat = 3 → (((Tests.pcie.host.pcie[1]?).getD .rest) : PcieFn).authed = true)))) ∧
    (((Tests.inMode ACTIVE : State).alive = true) ∧ ((Tests.inMode ACTIVE : State).pcieOn ((1 : Fin 4) : Fin 4).val = false) ∧ ((Tests.inMode ACTIVE : State).host.pcie[((1 : Fin 4) : Fin 4).val]? = some (((Tests.pcie.host.pcie[1]?).getD .rest) : PcieFn))) ∧
    (((Tests.pcie.withSys fun y => { y with held := true } : State).alive = false)) ∧
    ((Tests.pcie.alive = true) ∧ (Tests.pcie.pcieOn ((1 : Fin 4) : Fin 4).val = true) ∧ (Tests.pcie.host.pcie[((1 : Fin 4) : Fin 4).val]? = some (((Tests.pcie.host.pcie[1]?).getD .rest) : PcieFn)) ∧ ((3 : W).toNat < 4) ∧ (¬((3 : W).toNat ≤ Tests.pcie.fld F.CT_CONTEXT_CEILING ((1 : Fin 4) : Fin 4) ∧ ((3 : W).toNat = 3 → (((Tests.pcie.host.pcie[1]?).getD .rest) : PcieFn).authed = true)))) ∧
    ((Tests.pcie.alive = true) ∧ (Tests.pcie.pcieOn ((1 : Fin 4) : Fin 4).val = true) ∧ (Tests.pcie.host.pcie[((1 : Fin 4) : Fin 4).val]? = some (((Tests.pcie.host.pcie[1]?).getD .rest) : PcieFn)) ∧ (4 ≤ (4 : W).toNat)) :=
  ⟨by decide +kernel, by decide +kernel, by decide +kernel, by decide +kernel, by decide +kernel⟩
theorem witness_pcieAuthSubmit :
    ((Tests.pcie.alive = true) ∧ (Tests.pcie.pcieOn ((1 : Fin 4) : Fin 4).val = true) ∧ (Tests.pcie.host.pcie[((1 : Fin 4) : Fin 4).val]? = some (((Tests.pcie.host.pcie[1]?).getD .rest) : PcieFn)) ∧ ((openForm ([0, 0, 1, 3, 0, 30, 0, 0] ++ List.replicate 80 0 : List Byte) 0 = true ∧ byteAt ([0, 0, 1, 3, 0, 30, 0, 0] ++ List.replicate 80 0 : List Byte) 0 = 0 ∧ byteAt ([0, 0, 1, 3, 0, 30, 0, 0] ++ List.replicate 80 0 : List Byte) 1 = 0 ∧ byteAt ([0, 0, 1, 3, 0, 30, 0, 0] ++ List.replicate 80 0 : List Byte) 3 = 3)) ∧ ((byteAt ([0, 0, 1, 3, 0, 30, 0, 0] ++ List.replicate 80 0 : List Byte) 2 = ((1 : Fin 4) : Fin 4).val ∧ Tests.pcie.fld F.CT_CONTEXT_CEILING ((1 : Fin 4) : Fin 4) = 3))) ∧
    (((Tests.inMode ACTIVE : State).alive = true) ∧ ((Tests.inMode ACTIVE : State).pcieOn ((1 : Fin 4) : Fin 4).val = false) ∧ ((Tests.inMode ACTIVE : State).host.pcie[((1 : Fin 4) : Fin 4).val]? = some (((Tests.pcie.host.pcie[1]?).getD .rest) : PcieFn))) ∧
    (((Tests.pcie.withSys fun y => { y with held := true } : State).alive = false)) ∧
    ((Tests.pcie.alive = true) ∧ (Tests.pcie.pcieOn ((1 : Fin 4) : Fin 4).val = true) ∧ (Tests.pcie.host.pcie[((1 : Fin 4) : Fin 4).val]? = some (((Tests.pcie.host.pcie[1]?).getD .rest) : PcieFn)) ∧ (¬(openForm ([0, 0, 1, 3] : List Byte) 0 = true ∧ byteAt ([0, 0, 1, 3] : List Byte) 0 = 0 ∧ byteAt ([0, 0, 1, 3] : List Byte) 1 = 0 ∧ byteAt ([0, 0, 1, 3] : List Byte) 3 = 3))) ∧
    ((Tests.pcie.alive = true) ∧ (Tests.pcie.pcieOn ((1 : Fin 4) : Fin 4).val = true) ∧ (Tests.pcie.host.pcie[((1 : Fin 4) : Fin 4).val]? = some (((Tests.pcie.host.pcie[1]?).getD .rest) : PcieFn)) ∧ ((openForm ([0, 0, 2, 3, 0, 30, 0, 0] ++ List.replicate 80 0 : List Byte) 0 = true ∧ byteAt ([0, 0, 2, 3, 0, 30, 0, 0] ++ List.replicate 80 0 : List Byte) 0 = 0 ∧ byteAt ([0, 0, 2, 3, 0, 30, 0, 0] ++ List.replicate 80 0 : List Byte) 1 = 0 ∧ byteAt ([0, 0, 2, 3, 0, 30, 0, 0] ++ List.replicate 80 0 : List Byte) 3 = 3)) ∧ (¬(byteAt ([0, 0, 2, 3, 0, 30, 0, 0] ++ List.replicate 80 0 : List Byte) 2 = ((1 : Fin 4) : Fin 4).val ∧ Tests.pcie.fld F.CT_CONTEXT_CEILING ((1 : Fin 4) : Fin 4) = 3))) :=
  ⟨by decide +kernel, by decide +kernel, by decide +kernel, by decide +kernel, by decide +kernel⟩
theorem witness_pcieSubreqSubmit :
    ((Tests.pcie.alive = true) ∧ (Tests.pcie.pcieOn ((1 : Fin 4) : Fin 4).val = true) ∧ (Tests.pcie.host.pcie[((1 : Fin 4) : Fin 4).val]? = some (((Tests.pcie.host.pcie[1]?).getD .rest) : PcieFn)) ∧ ((⟨⟨0x5018, 0, 0⟩, 0⟩ : WireAddr) = ⟨⟨beOf (0x0000000000001850 : W) [0, 1], beOf (0x0000000000001850 : W) [2], beOf (0x0000000000001850 : W) [4, 5, 6, 7]⟩, leByte (0x0000000000001850 : W) 3⟩) ∧ (1 = beOf (0x0001000001000000 : W) [0, 1, 2, 3]) ∧ (0 = beOf (0x0001000001000000 : W) [4, 5]) ∧ (beOf (0x0001000001000000 : W) [6] ≠ 2) ∧ (Tests.pcie.judgeSub (Tests.pcie.pcieReq ((1 : Fin 4) : Fin 4)) (⟨⟨0x5018, 0, 0⟩, 0⟩ : WireAddr) 1 0 (beOf (0x0001000001000000 : W) [6] == 1 && leByte (0x0001000001000000 : W) 7 == 0) = .ok)) ∧
    (((Tests.inMode ACTIVE : State).alive = true) ∧ ((Tests.inMode ACTIVE : State).pcieOn ((1 : Fin 4) : Fin 4).val = false) ∧ ((Tests.inMode ACTIVE : State).host.pcie[((1 : Fin 4) : Fin 4).val]? = some (((Tests.pcie.host.pcie[1]?).getD .rest) : PcieFn))) ∧
    (((Tests.pcie.withSys fun y => { y with held := true } : State).alive = false)) ∧
    ((Tests.pcie.alive = true) ∧ (Tests.pcie.pcieOn ((1 : Fin 4) : Fin 4).val = true) ∧ (Tests.pcie.host.pcie[((1 : Fin 4) : Fin 4).val]? = some (((Tests.pcie.host.pcie[1]?).getD .rest) : PcieFn)) ∧ ((⟨⟨0x5018, 0, 0⟩, 0⟩ : WireAddr) = ⟨⟨beOf (0x0000000000001850 : W) [0, 1], beOf (0x0000000000001850 : W) [2], beOf (0x0000000000001850 : W) [4, 5, 6, 7]⟩, leByte (0x0000000000001850 : W) 3⟩) ∧ (1 = beOf (0x0003000001000000 : W) [0, 1, 2, 3]) ∧ (0 = beOf (0x0003000001000000 : W) [4, 5]) ∧ (beOf (0x0003000001000000 : W) [6] ≠ 2) ∧ (Tests.pcie.judgeSub (Tests.pcie.pcieReq ((1 : Fin 4) : Fin 4)) (⟨⟨0x5018, 0, 0⟩, 0⟩ : WireAddr) 1 0 (beOf (0x0003000001000000 : W) [6] == 1 && leByte (0x0003000001000000 : W) 7 == 0) = Status.range) ∧ (Status.range ≠ .ok)) ∧
    (((Tests.pcie.withPcie 1 fun y => { y with subs := [⟨1, noAddr, 1, 0, 0⟩] } : State).alive = true) ∧ ((Tests.pcie.withPcie 1 fun y => { y with subs := [⟨1, noAddr, 1, 0, 0⟩] } : State).pcieOn ((1 : Fin 4) : Fin 4).val = true) ∧ ((Tests.pcie.withPcie 1 fun y => { y with subs := [⟨1, noAddr, 1, 0, 0⟩] } : State).host.pcie[((1 : Fin 4) : Fin 4).val]? = some ({ ((Tests.pcie.host.pcie[1]?).getD .rest) with subs := [⟨1, noAddr, 1, 0, 0⟩] } : PcieFn)) ∧ ((⟨⟨0x5018, 0, 0⟩, 0⟩ : WireAddr) = ⟨⟨beOf (0x0000000000001850 : W) [0, 1], beOf (0x0000000000001850 : W) [2], beOf (0x0000000000001850 : W) [4, 5, 6, 7]⟩, leByte (0x0000000000001850 : W) 3⟩) ∧ (1 = beOf (0x0002000001000000 : W) [0, 1, 2, 3]) ∧ (0 = beOf (0x0002000001000000 : W) [4, 5]) ∧ (beOf (0x0002000001000000 : W) [6] = 2) ∧ (judgeUnsub ((Tests.pcie.withPcie 1 fun y => { y with subs := [⟨1, noAddr, 1, 0, 0⟩] } : State).pcieReq ((1 : Fin 4) : Fin 4)) ({ ((Tests.pcie.host.pcie[1]?).getD .rest) with subs := [⟨1, noAddr, 1, 0, 0⟩] } : PcieFn).subs 1 (leByte (0x0002000001000000 : W) 7) = .ok)) :=
  ⟨by decide +kernel, by decide +kernel, by decide +kernel, by decide +kernel, by decide +kernel⟩
theorem witness_pcieFlr : ((((1 : Fin 4) : Fin 4).val < Tests.pcie.host.pcie.length)) := by decide +kernel
theorem witness_settingsTimer :
    ((((Tests.inMode ACTIVE).withSave fun x => { x with timer := some 0 } : State).save.timer = some 0) ∧ (((Tests.inMode ACTIVE).withSave fun x => { x with timer := some 0 } : State).save.writing = none)) ∧
    ((Tests.saving.save.timer = none ∨ Tests.saving.save.writing.isSome = true)) :=
  ⟨by decide +kernel, by decide +kernel⟩
theorem witness_settingsWriteDone :
    ((Tests.saving.save.writing = some (((Tests.saving.save.writing).getD ⟨0, 0, [], 0, 0, [], []⟩) : SavedImage)) ∧ (Tests.saving.save.copies.length = 2)) ∧
    (((Tests.inMode ACTIVE : State).save.writing = none)) :=
  ⟨by decide +kernel, by decide +kernel⟩
theorem witness_settingsFlush :
    (((Tests.inMode ACTIVE : State).passes Tests.configure (putSave 1).1 = true) ∧ ((Tests.inMode ACTIVE : State).save.writing = none)) ∧
    ((Tests.saving.passes Tests.configure (putSave 1).1 = true) ∧ (Tests.saving.save.writing.isSome = true)) :=
  ⟨by decide +kernel, by decide +kernel⟩
theorem witness_settingsDefaults : (((Tests.inMode ACTIVE : State).passes Tests.secure (putSave 2).1 = true)) := by decide +kernel
theorem witness_settingsKeep : ((((Tests.inMode ACTIVE).setFld F.SY_SAVE_DEFAULTS 0 1 : State).passes Tests.secure (putSave 3).1 = true)) := by decide +kernel
theorem witness_syRoleWrite :
    ((State.reset.passes Tests.maintain (putRole (2 : W)).1 = true) ∧ (State.reset.mode = SAFE) ∧ (State.reset.caps.accepts (2 : W).toNat = true)) ∧
    (((Tests.inMode ACTIVE : State).passes Tests.maintain (putRole (2 : W)).1 = true) ∧ ((Tests.inMode ACTIVE : State).mode ≠ SAFE)) ∧
    ((({ State.reset with caps := ⟨.sc2e, true⟩ } : State).passes Tests.maintain (putRole (1 : W)).1 = true) ∧ (({ State.reset with caps := ⟨.sc2e, true⟩ } : State).mode = SAFE) ∧ (({ State.reset with caps := ⟨.sc2e, true⟩ } : State).caps.accepts (1 : W).toNat = false)) :=
  ⟨by decide +kernel, by decide +kernel, by decide +kernel⟩
theorem witness_sramUe :
    ((0 < Tests.dram.dies) ∧ (3 < 5)) ∧
    ((0 < Tests.dram.dies) ∧ (5 = 5) ∧ (Tests.dram.sillageOk 0 = true)) ∧
    ((Tests.dram.dies ≤ 0 ∨ 6 ≤ 6)) :=
  ⟨by decide +kernel, by decide +kernel, by decide +kernel⟩
theorem witness_sramScrub :
    ((0 < Tests.dram.dies)) ∧
    ((Tests.dram.dies ≤ 99)) :=
  ⟨by decide +kernel, by decide +kernel⟩
theorem witness_sillageFail :
    ((Tests.dram.sillageOk 1 = true)) ∧
    (((Tests.dram.setFld F.EV_SILLAGE_STATE 1 1 : State).sillageOk 1 = false)) :=
  ⟨by decide +kernel, by decide +kernel⟩
theorem witness_mmChannelWrite :
    ((Tests.loading.passes Tests.maintain (putChannel 2 ((Tests.loading.word 0x7010 2 0) : W)).1 = true) ∧ (¬(F.MM_CHANNEL_SCRUB.put ((Tests.loading.word 0x7010 2 0) : W) 0 ≠ F.MM_CHANNEL_SCRUB.put (Tests.loading.word 0x7010 2 0) 0 ∧ ¬(Tests.loading.mode = SAFE ∨ Tests.loading.mode = LOAD)))) ∧
    ((Tests.dram.passes Tests.maintain (putChannel 2 ((F.MM_CHANNEL_RATE.put (Tests.loading.word 0x7010 2 0) 3) : W)).1 = true) ∧ ((F.MM_CHANNEL_SCRUB.put ((F.MM_CHANNEL_RATE.put (Tests.loading.word 0x7010 2 0) 3) : W) 0 ≠ F.MM_CHANNEL_SCRUB.put (Tests.dram.word 0x7010 2 0) 0 ∧ ¬(Tests.dram.mode = SAFE ∨ Tests.dram.mode = LOAD)))) :=
  ⟨by decide +kernel, by decide +kernel⟩
theorem witness_dramRecal :
    ((Tests.dram.chanServes 0 = true)) ∧
    ((Tests.dram.chanServes 1 = false)) :=
  ⟨by decide +kernel, by decide +kernel⟩
theorem witness_refreshRateCheck :
    ((Tests.dram.chanServes 0 = true)) ∧
    ((Tests.dram.chanServes 1 = false)) :=
  ⟨by decide +kernel, by decide +kernel⟩
theorem witness_scrubPassDone :
    ((Tests.dram.scrubs 0 = true)) ∧
    ((Tests.dram.scrubs 1 = false)) :=
  ⟨by decide +kernel, by decide +kernel⟩
theorem witness_rankFail :
    ((Tests.dram.chanServes (0 / 4) = true) ∧ (Tests.dram.rank 0 = raDATA) ∧ (Tests.dram.spareRank (0 / 4) = some 1)) ∧
    (((Tests.dram.setRank 1 raNOTFITTED : State).chanServes (0 / 4) = true) ∧ ((Tests.dram.setRank 1 raNOTFITTED : State).rank 0 = raDATA) ∧ ((Tests.dram.setRank 1 raNOTFITTED : State).spareRank (0 / 4) = none)) ∧
    ((Tests.dram.chanServes (1 / 4) = true) ∧ (Tests.dram.rank 1 = raSPARE)) ∧
    ((State.reset.chanServes (0 / 4) = false)) :=
  ⟨by decide +kernel, by decide +kernel, by decide +kernel, by decide +kernel⟩
theorem witness_rankMigrate :
    ((Tests.dram.passes Tests.maintain (putRankCmd 0 (F.MM_CMD_COMMAND.put (0 : W) 1)).1 = true) ∧ (Tests.dram.admits = true) ∧ (Tests.dram.spareRank (0 / 4) = some 1) ∧ ((Tests.dram.rank 0 = raDATA ∧ Tests.dram.dramState (0 / 4) ≠ chMIGRATING ∧ Tests.dram.chanServes (0 / 4) = true ∧ (Tests.dram.spareRank (0 / 4)).isSome = true))) ∧
    ((Tests.loading.passes Tests.maintain (putRankCmd 0 (F.MM_CMD_COMMAND.put (0 : W) 1)).1 = true) ∧ (Tests.loading.admits = false)) ∧
    ((Tests.copying.passes Tests.maintain (putRankCmd 0 (F.MM_CMD_COMMAND.put (0 : W) 1)).1 = true) ∧ (Tests.copying.admits = true) ∧ (¬(Tests.copying.rank 0 = raDATA ∧ Tests.copying.dramState (0 / 4) ≠ chMIGRATING ∧ Tests.copying.chanServes (0 / 4) = true ∧ (Tests.copying.spareRank (0 / 4)).isSome = true))) :=
  ⟨by decide +kernel, by decide +kernel, by decide +kernel⟩
theorem witness_rankRetire :
    ((Tests.loading.passes Tests.maintain (putRankCmd 0 (F.MM_CMD_COMMAND.put (0 : W) 2)).1 = true) ∧ ((Tests.loading.mode = SAFE ∨ Tests.loading.mode = LOAD))) ∧
    ((Tests.dram.passes Tests.maintain (putRankCmd 0 (F.MM_CMD_COMMAND.put (0 : W) 2)).1 = true) ∧ (¬(Tests.dram.mode = SAFE ∨ Tests.dram.mode = LOAD))) :=
  ⟨by decide +kernel, by decide +kernel⟩
theorem witness_rankRestore :
    (((Tests.loading.markRetired 0 : State).passes Tests.maintain (putRankCmd 0 (F.MM_CMD_COMMAND.put (0 : W) 3)).1 = true) ∧ (((Tests.loading.markRetired 0 : State).mode = SAFE ∨ (Tests.loading.markRetired 0 : State).mode = LOAD))) ∧
    ((Tests.dram.passes Tests.maintain (putRankCmd 0 (F.MM_CMD_COMMAND.put (0 : W) 3)).1 = true) ∧ (¬(Tests.dram.mode = SAFE ∨ Tests.dram.mode = LOAD))) :=
  ⟨by decide +kernel, by decide +kernel⟩
theorem witness_rankReplan :
    ((Tests.dram.passes Tests.maintain (putRankCmd 0 (F.MM_CMD_COMMAND.put (0 : W) 4)).1 = true) ∧ (Tests.dram.admits = true) ∧ ((Tests.dram.replan (0 / 4)).1 = true)) ∧
    ((Tests.loading.passes Tests.maintain (putRankCmd 0 (F.MM_CMD_COMMAND.put (0 : W) 4)).1 = true) ∧ (Tests.loading.admits = false)) ∧
    ((Tests.unplaced.passes Tests.maintain (putRankCmd 0 (F.MM_CMD_COMMAND.put (0 : W) 4)).1 = true) ∧ (Tests.unplaced.admits = true) ∧ ((Tests.unplaced.replan (0 / 4)).1 = false)) :=
  ⟨by decide +kernel, by decide +kernel, by decide +kernel⟩
theorem witness_migrationHeldItemCopied :
    ((Tests.copying.migration 0 = some (⟨0, 0, 1, 0, 0⟩ : Migr))) ∧
    ((Tests.dram.migration 0 = none)) :=
  ⟨by decide +kernel, by decide +kernel⟩
theorem witness_migrationDone :
    ((Tests.copying.migration 0 = some (⟨0, 0, 1, 0, 0⟩ : Migr)) ∧ (Tests.copying.dramState 0 = chMIGRATING) ∧ ((⟨0, 0, 1, 0, 0⟩ : Migr).src ≠ (⟨0, 0, 1, 0, 0⟩ : Migr).dst)) ∧
    ((Tests.dram.migration 0 = none ∨ Tests.dram.dramState 0 ≠ chMIGRATING)) :=
  ⟨by decide +kernel, by decide +kernel⟩
theorem witness_faultRaised :
    ((codeListed 0x880A = true) ∧ (codeUnit 0x880A = .none) ∧ (0x880A ≠ 0x7001) ∧ (0 < (Tests.inMode ACTIVE : State).dies) ∧ (0 ∉ (Tests.inMode ACTIVE : State).sys.isolated) ∧ (0 < (Tests.inMode ACTIVE : State).ev.mgr.length) ∧ ((Tests.inMode ACTIVE : State).dies ≤ (Tests.inMode ACTIVE : State).ev.sillage.length) ∧ (((Tests.inMode ACTIVE : State).holder 0).isSome = true) ∧ (((Tests.inMode ACTIVE : State).faultMgr 0).running = none)) ∧
    ((codeListed 0x9999 = false ∨ (Tests.inMode ACTIVE : State).dies ≤ 0 ∨ 0 ∈ (Tests.inMode ACTIVE : State).sys.isolated)) :=
  ⟨by decide +kernel, by decide +kernel⟩
theorem witness_handlerEnd :
    ((0 < Tests.handling.ev.mgr.length) ∧ ((Tests.handling.faultMgr 0).running = some (Tests.fault .degrade : FaultRun)) ∧ ((Tests.handling.faultMgr 0).suspended = (Tests.fault .notice : FaultRun) :: ([] : List FaultRun))) ∧
    ((0 < (Tests.handling.withMgr 0 fun m => { m with suspended := [], queue := [Tests.fault .notice] } : State).ev.mgr.length) ∧ (((Tests.handling.withMgr 0 fun m => { m with suspended := [], queue := [Tests.fault .notice] } : State).faultMgr 0).running = some (Tests.fault .degrade : FaultRun)) ∧ (((Tests.handling.withMgr 0 fun m => { m with suspended := [], queue := [Tests.fault .notice] } : State).faultMgr 0).suspended = []) ∧ (((Tests.handling.withMgr 0 fun m => { m with suspended := [], queue := [Tests.fault .notice] } : State).faultMgr 0).queue = [(Tests.fault .notice : FaultRun)])) ∧
    ((0 < (Tests.handling.withMgr 0 fun m => { m with suspended := [] } : State).ev.mgr.length) ∧ (((Tests.handling.withMgr 0 fun m => { m with suspended := [] } : State).faultMgr 0).running = some (Tests.fault .degrade : FaultRun)) ∧ (((Tests.handling.withMgr 0 fun m => { m with suspended := [] } : State).faultMgr 0).suspended = []) ∧ (((Tests.handling.withMgr 0 fun m => { m with suspended := [] } : State).faultMgr 0).queue = [])) ∧
    ((((Tests.inMode ACTIVE : State).faultMgr 0).running = none)) :=
  ⟨by decide +kernel, by decide +kernel, by decide +kernel, by decide +kernel⟩
theorem witness_faultAck : ((Tests.handling.passes Tests.maintain (putEvCmd 0 1 false).1 = true)) := by decide +kernel
theorem witness_sillageRetest :
    (((Tests.handling.setFld F.EV_SILLAGE_STATE 0 1 : State).passes Tests.maintain (putEvCmd 0 2 true).1 = true) ∧ ((Tests.handling.setFld F.EV_SILLAGE_STATE 0 1 : State).fld F.EV_SILLAGE_STATE 0 ≠ 0)) ∧
    (((Tests.handling.setFld F.EV_SILLAGE_STATE 0 1 : State).passes Tests.maintain (putEvCmd 0 2 false).1 = true) ∧ ((Tests.handling.setFld F.EV_SILLAGE_STATE 0 1 : State).fld F.EV_SILLAGE_STATE 0 ≠ 0) ∧ (false = false)) ∧
    ((Tests.handling.passes Tests.maintain (putEvCmd 0 2 true).1 = true) ∧ (Tests.handling.fld F.EV_SILLAGE_STATE 0 = 0)) :=
  ⟨by decide +kernel, by decide +kernel, by decide +kernel⟩
theorem witness_recordClose :
    (((((Tests.handling.note 0x8801 2 0 0 : State).sillageOf 0).find? fun x => x.seq == 0) = some ((((Tests.handling.note 0x8801 2 0 0).sillageOf 0).getD 0 (Rec.mk 0 0 .notice false false false false false false false 0 0 0 0 0 0 0 0 0)) : Rec)) ∧ (((((Tests.handling.note 0x8801 2 0 0).sillageOf 0).getD 0 (Rec.mk 0 0 .notice false false false false false false false 0 0 0 0 0 0 0 0 0)) : Rec).opened = true)) ∧
    ((((((Tests.handling.note 0x8801 2 0 0 : State).sillageOf 0).find? fun x => x.seq == 77).map (·.opened)).getD false = false)) :=
  ⟨by decide +kernel, by decide +kernel⟩
theorem witness_evCursorWrite : ((Tests.handling.passes Tests.configure (putCursor Tests.handling 0 (0 : W)).1 = true)) := by decide +kernel
theorem witness_clearChallengeRead :
    ((Tests.handling.acceptsRead Tests.secure ⟨0x7830, 1, 0⟩ = true)) ∧
    ((Tests.handling.alive = true) ∧ (Tests.handling.judgeRead ({ Tests.secure with ceil := .configure } : Req) ⟨0x7830, 1, 0⟩ = .error Status.rights)) :=
  ⟨by decide +kernel, by decide +kernel⟩
theorem witness_sillageClear : ((Tests.handling.passes Tests.secure (putClear Tests.handling Tests.clearBlob).1 = true)) := by decide +kernel
theorem witness_gpiRawEdge :
    ((2 < 36) ∧ (2 < (Tests.input 0 : State).ev.gpi.length)) ∧
    ((36 ≤ 36)) :=
  ⟨by decide +kernel, by decide +kernel⟩
theorem witness_gpiQualify :
    (((2 < 36 ∧ (Tests.input 0 : State).gpiState 2 ≠ gpCHATTER ∧ (Tests.input 0 : State).gpiLevel 2 ≠ ((Tests.input 0 : State).gpi 2).active)) ∧ (2 < (Tests.input 0 : State).ev.gpi.length)) ∧
    ((¬(2 < 36 ∧ (Tests.input gpCHATTER : State).gpiState 2 ≠ gpCHATTER ∧ (Tests.input gpCHATTER : State).gpiLevel 2 ≠ ((Tests.input gpCHATTER : State).gpi 2).active))) :=
  ⟨by decide +kernel, by decide +kernel⟩
theorem witness_gpiStuck :
    (((2 < 36 ∧ ((Tests.input gpACTIVE).setFld F.EV_GPI_STUCK 2 1 : State).gpiState 2 = gpACTIVE ∧ ((Tests.input gpACTIVE).setFld F.EV_GPI_STUCK 2 1 : State).fld F.EV_GPI_STUCK 2 ≠ 0))) ∧
    ((¬(2 < 36 ∧ (Tests.input 0 : State).gpiState 2 = gpACTIVE ∧ (Tests.input 0 : State).fld F.EV_GPI_STUCK 2 ≠ 0))) :=
  ⟨by decide +kernel, by decide +kernel⟩
theorem witness_gpiUnmask :
    (((2 < 36 ∧ (Tests.input gpCHATTER : State).gpiState 2 = gpCHATTER))) ∧
    ((¬(2 < 36 ∧ (Tests.input 0 : State).gpiState 2 = gpCHATTER))) :=
  ⟨by decide +kernel, by decide +kernel⟩
theorem witness_evGpiWrite : (((Tests.input 0 : State).passes Tests.configure (putGpi 2 (F.EV_GPI_STUCK.put ((Tests.input 0).word 0x7848 2 0) 3 : W)).1 = true)) := by decide +kernel
theorem witness_sigPolicyWrite : (((Tests.fw fwIDLE : State).passes Tests.maintain (putSigPolicy Tests.maintain (1 : W)).1 = true)) := by decide +kernel
theorem witness_quoteRequest :
    (((Tests.fw fwIDLE : State).passes Tests.configure (putNonce ((List.replicate 32 7) : List Byte)).1 = true) ∧ ((Tests.fw fwIDLE : State).fw.nonce = none)) ∧
    ((((Tests.fw fwIDLE).withFw fun x => { x with nonce := some (List.replicate 32 7) } : State).passes Tests.configure (putNonce ((List.replicate 32 7) : List Byte)).1 = true) ∧ (((Tests.fw fwIDLE).withFw fun x => { x with nonce := some (List.replicate 32 7) } : State).fw.nonce.isSome = true)) :=
  ⟨by decide +kernel, by decide +kernel⟩
theorem witness_quoteReady :
    ((((Tests.fw fwIDLE).withFw fun x => { x with nonce := some (List.replicate 32 7) } : State).fw.nonce = some ((List.replicate 32 7) : List Byte))) ∧
    ((State.reset.fw.nonce = none)) :=
  ⟨by decide +kernel, by decide +kernel⟩
theorem witness_fwFlashWrite :
    (((Tests.fw fwREJECTED : State).passes Tests.maintain (putFlash 65535 ([1, 2, 255] : List Byte)).1 = true) ∧ ((Tests.fw fwREJECTED : State).fw.halves.length = 2) ∧ (¬(1 ≤ (Tests.fw fwREJECTED : State).fwState ∧ (Tests.fw fwREJECTED : State).fwState ≤ 5))) ∧
    (((Tests.fw fwSTAGED : State).passes Tests.maintain (putFlash 65535 ([1, 2, 255] : List Byte)).1 = true) ∧ ((1 ≤ (Tests.fw fwSTAGED : State).fwState ∧ (Tests.fw fwSTAGED : State).fwState ≤ 5))) :=
  ⟨by decide +kernel, by decide +kernel⟩
theorem witness_stageDone :
    (((Tests.fw fwVERIFYING : State).fw.halves.length = 2) ∧ ((Tests.fw fwVERIFYING : State).fwState = fwVERIFYING) ∧ (true = true) ∧ (((Tests.fw fwVERIFYING : State).half (Tests.fw fwVERIFYING : State).writeHalf).recordGood = true) ∧ ((Tests.fw fwVERIFYING : State).halfFault (Tests.fw fwVERIFYING : State).writeHalf = none)) ∧
    (((Tests.fw fwVERIFYING : State).fwState = fwVERIFYING) ∧ (false = false)) ∧
    ((((Tests.fw fwVERIFYING).withHalf 1 fun h => { h with kept := some (Tests.images.map fun i => { i with hashOk := false }) } : State).fwState = fwVERIFYING) ∧ (true = true) ∧ ((((Tests.fw fwVERIFYING).withHalf 1 fun h => { h with kept := some (Tests.images.map fun i => { i with hashOk := false }) } : State).half ((Tests.fw fwVERIFYING).withHalf 1 fun h => { h with kept := some (Tests.images.map fun i => { i with hashOk := false }) } : State).writeHalf).recordGood = true) ∧ (((Tests.fw fwVERIFYING).withHalf 1 fun h => { h with kept := some (Tests.images.map fun i => { i with hashOk := false }) } : State).halfFault ((Tests.fw fwVERIFYING).withHalf 1 fun h => { h with kept := some (Tests.images.map fun i => { i with hashOk := false }) } : State).writeHalf = some ((((Tests.fw fwVERIFYING).withHalf 1 fun h => { h with kept := some (Tests.images.map fun i => { i with hashOk := false }) }).halfFault 1).getD (0, 0) : Nat × Nat))) ∧
    (((Tests.fw fwIDLE : State).fwState ≠ fwVERIFYING)) :=
  ⟨by decide +kernel, by decide +kernel, by decide +kernel, by decide +kernel⟩
theorem witness_fwStage :
    (((Tests.fw fwIDLE : State).passes Tests.maintain (putFwCmd (withOp F.FW_CMD_OP (0) 1 : W) (0 : W) (0 : W)).1 = true) ∧ ((withOp F.FW_CMD_OP (0) 1 : W) = withOp F.FW_CMD_OP (0 : W) 1) ∧ ((Tests.fw fwIDLE : State).mode ≠ LOAD ∧ (Tests.fw fwIDLE : State).mode ≠ HOLD) ∧ (((Tests.fw fwIDLE : State).fwState = fwIDLE ∨ (Tests.fw fwIDLE : State).fwState = fwHELD ∨ (Tests.fw fwIDLE : State).fwState = fwREJECTED))) ∧
    (((withOp F.FW_CMD_OP (0) 1 : W) = withOp F.FW_CMD_OP (0 : W) 1) ∧ (((Tests.fw fwIDLE).setFld F.SY_MODE_MODE 0 LOAD : State).passes Tests.maintain (putFwCmd (withOp F.FW_CMD_OP (0) 1 : W) (0 : W) (0 : W)).1 = true) ∧ (((Tests.fw fwIDLE).setFld F.SY_MODE_MODE 0 LOAD : State).mode = LOAD ∨ ((Tests.fw fwIDLE).setFld F.SY_MODE_MODE 0 LOAD : State).mode = HOLD)) ∧
    (((withOp F.FW_CMD_OP (0) 1 : W) = withOp F.FW_CMD_OP (0 : W) 1) ∧ ((Tests.fw fwSTAGED : State).passes Tests.maintain (putFwCmd (withOp F.FW_CMD_OP (0) 1 : W) (0 : W) (0 : W)).1 = true) ∧ ((Tests.fw fwSTAGED : State).mode ≠ LOAD ∧ (Tests.fw fwSTAGED : State).mode ≠ HOLD) ∧ (¬((Tests.fw fwSTAGED : State).fwState = fwIDLE ∨ (Tests.fw fwSTAGED : State).fwState = fwHELD ∨ (Tests.fw fwSTAGED : State).fwState = fwREJECTED))) :=
  ⟨by decide +kernel, by decide +kernel, by decide +kernel⟩
theorem witness_fwActivate :
    (((Tests.fw fwSTAGED : State).passes Tests.maintain (putFwCmd (withOp F.FW_CMD_OP (0) 2 : W) (0 : W) (0 : W)).1 = true) ∧ ((withOp F.FW_CMD_OP (0) 2 : W) = withOp F.FW_CMD_OP (0 : W) 2) ∧ (((Tests.fw fwSTAGED : State).mode = STANDBY ∨ (Tests.fw fwSTAGED : State).mode = ACTIVE)) ∧ ((Tests.fw fwSTAGED : State).fwState = fwSTAGED) ∧ (F.FW_CMD_WHEN.of (withOp F.FW_CMD_OP (0) 2 : W) = 0)) ∧
    (((withOp F.FW_CMD_OP (F.FW_CMD_WHEN.put 0 1) 2 : W) = withOp F.FW_CMD_OP (F.FW_CMD_WHEN.put 0 1 : W) 2) ∧ ((Tests.fw fwSTAGED : State).passes Tests.maintain (putFwCmd (withOp F.FW_CMD_OP (F.FW_CMD_WHEN.put 0 1) 2 : W) (F.FW_CMD_SECONDS.put 0 9 : W) (0 : W)).1 = true) ∧ (((Tests.fw fwSTAGED : State).mode = STANDBY ∨ (Tests.fw fwSTAGED : State).mode = ACTIVE)) ∧ ((Tests.fw fwSTAGED : State).fwState = fwSTAGED) ∧ (F.FW_CMD_WHEN.of (withOp F.FW_CMD_OP (F.FW_CMD_WHEN.put 0 1) 2 : W) = 1) ∧ ((Tests.fw fwSTAGED : State).clk.count + secs 2 ≤ fwTime (F.FW_CMD_SECONDS.put 0 9 : W) (0 : W))) ∧
    (((withOp F.FW_CMD_OP (0) 2 : W) = withOp F.FW_CMD_OP (0 : W) 2) ∧ ((((Tests.fw fwSTAGED).setFld F.SY_MODE_MODE 0 SAFE) : State).passes Tests.maintain (putFwCmd (withOp F.FW_CMD_OP (0) 2 : W) (0 : W) (0 : W)).1 = true) ∧ ((((Tests.fw fwSTAGED).setFld F.SY_MODE_MODE 0 SAFE) : State).mode = SAFE) ∧ ((((Tests.fw fwSTAGED).setFld F.SY_MODE_MODE 0 SAFE) : State).fwState = fwSTAGED) ∧ (F.FW_CMD_WHEN.of (withOp F.FW_CMD_OP (0) 2 : W) = 0)) ∧
    (((withOp F.FW_CMD_OP (0) 2 : W) = withOp F.FW_CMD_OP (0 : W) 2) ∧ (((Tests.fw fwSTAGED).setFld F.SY_MODE_MODE 0 SERVICE : State).passes Tests.maintain (putFwCmd (withOp F.FW_CMD_OP (0) 2 : W) (0 : W) (0 : W)).1 = true) ∧ (¬((((Tests.fw fwSTAGED).setFld F.SY_MODE_MODE 0 SERVICE : State).mode = STANDBY ∨ ((Tests.fw fwSTAGED).setFld F.SY_MODE_MODE 0 SERVICE : State).mode = ACTIVE) ∨ (((Tests.fw fwSTAGED).setFld F.SY_MODE_MODE 0 SERVICE : State).mode = SAFE ∧ F.FW_CMD_WHEN.of (withOp F.FW_CMD_OP (0) 2 : W) = 0)))) ∧
    (((withOp F.FW_CMD_OP (0) 2 : W) = withOp F.FW_CMD_OP (0 : W) 2) ∧ ((Tests.fw fwIDLE : State).passes Tests.maintain (putFwCmd (withOp F.FW_CMD_OP (0) 2 : W) (0 : W) (0 : W)).1 = true) ∧ (((Tests.fw fwIDLE : State).mode = STANDBY ∨ (Tests.fw fwIDLE : State).mode = ACTIVE)) ∧ ((Tests.fw fwIDLE : State).fwState ≠ fwSTAGED)) ∧
    (((withOp F.FW_CMD_OP (F.FW_CMD_WHEN.put 0 1) 2 : W) = withOp F.FW_CMD_OP (F.FW_CMD_WHEN.put 0 1 : W) 2) ∧ ((Tests.fw fwSTAGED : State).passes Tests.maintain (putFwCmd (withOp F.FW_CMD_OP (F.FW_CMD_WHEN.put 0 1) 2 : W) (0 : W) (0 : W)).1 = true) ∧ (((Tests.fw fwSTAGED : State).mode = STANDBY ∨ (Tests.fw fwSTAGED : State).mode = ACTIVE)) ∧ ((Tests.fw fwSTAGED : State).fwState = fwSTAGED) ∧ (F.FW_CMD_WHEN.of (withOp F.FW_CMD_OP (F.FW_CMD_WHEN.put 0 1) 2 : W) = 1) ∧ (fwTime (0 : W) (0 : W) < (Tests.fw fwSTAGED : State).clk.count + secs 2)) :=
  ⟨by decide +kernel, by decide +kernel, by decide +kernel, by decide +kernel, by decide +kernel, by decide +kernel⟩
theorem witness_fwCommit :
    (((Tests.fw fwTRIAL : State).passes Tests.maintain (putFwCmd (withOp F.FW_CMD_OP (0) 3 : W) (0 : W) (0 : W)).1 = true) ∧ ((withOp F.FW_CMD_OP (0) 3 : W) = withOp F.FW_CMD_OP (0 : W) 3) ∧ (((Tests.fw fwTRIAL : State).mode = SAFE ∨ (Tests.fw fwTRIAL : State).mode = STANDBY ∨ (Tests.fw fwTRIAL : State).mode = ACTIVE)) ∧ ((Tests.fw fwTRIAL : State).fw.halves.length = 2) ∧ ((Tests.fw fwTRIAL : State).fwState = fwTRIAL) ∧ ((Tests.fw fwTRIAL : State).revokesAll ((Tests.fw fwTRIAL : State).half (Tests.fw fwTRIAL : State).runHalf).images = false)) ∧
    (((withOp F.FW_CMD_OP (0) 3 : W) = withOp F.FW_CMD_OP (0 : W) 3) ∧ (((Tests.fw fwTRIAL).setFld F.SY_MODE_MODE 0 SERVICE : State).passes Tests.maintain (putFwCmd (withOp F.FW_CMD_OP (0) 3 : W) (0 : W) (0 : W)).1 = true) ∧ (¬(((Tests.fw fwTRIAL).setFld F.SY_MODE_MODE 0 SERVICE : State).mode = SAFE ∨ ((Tests.fw fwTRIAL).setFld F.SY_MODE_MODE 0 SERVICE : State).mode = STANDBY ∨ ((Tests.fw fwTRIAL).setFld F.SY_MODE_MODE 0 SERVICE : State).mode = ACTIVE))) ∧
    (((withOp F.FW_CMD_OP (0) 3 : W) = withOp F.FW_CMD_OP (0 : W) 3) ∧ ((Tests.fw fwIDLE : State).passes Tests.maintain (putFwCmd (withOp F.FW_CMD_OP (0) 3 : W) (0 : W) (0 : W)).1 = true) ∧ (((Tests.fw fwIDLE : State).mode = SAFE ∨ (Tests.fw fwIDLE : State).mode = STANDBY ∨ (Tests.fw fwIDLE : State).mode = ACTIVE)) ∧ ((Tests.fw fwIDLE : State).fwState ≠ fwTRIAL ∨ (Tests.fw fwIDLE : State).revokesAll ((Tests.fw fwIDLE : State).half (Tests.fw fwIDLE : State).runHalf).images = true)) :=
  ⟨by decide +kernel, by decide +kernel, by decide +kernel⟩
theorem witness_fwRollback :
    (((Tests.fw fwTRIAL : State).passes Tests.maintain (putFwCmd (withOp F.FW_CMD_OP (0) 4 : W) (0 : W) (0 : W)).1 = true) ∧ ((withOp F.FW_CMD_OP (0) 4 : W) = withOp F.FW_CMD_OP (0 : W) 4) ∧ (((Tests.fw fwTRIAL : State).mode = STANDBY ∨ (Tests.fw fwTRIAL : State).mode = ACTIVE)) ∧ ((Tests.fw fwTRIAL : State).fwState = fwTRIAL) ∧ (F.FW_CMD_WHEN.of (withOp F.FW_CMD_OP (0) 4 : W) = 1 → (Tests.fw fwTRIAL : State).clk.count < fwTime (0 : W) (0 : W))) ∧
    (((withOp F.FW_CMD_OP (0) 4 : W) = withOp F.FW_CMD_OP (0 : W) 4) ∧ (((Tests.fw fwTRIAL).setFld F.SY_MODE_MODE 0 SERVICE : State).passes Tests.maintain (putFwCmd (withOp F.FW_CMD_OP (0) 4 : W) (0 : W) (0 : W)).1 = true) ∧ (¬(((Tests.fw fwTRIAL).setFld F.SY_MODE_MODE 0 SERVICE : State).mode = STANDBY ∨ ((Tests.fw fwTRIAL).setFld F.SY_MODE_MODE 0 SERVICE : State).mode = ACTIVE))) ∧
    (((withOp F.FW_CMD_OP (0) 4 : W) = withOp F.FW_CMD_OP (0 : W) 4) ∧ ((Tests.fw fwIDLE : State).passes Tests.maintain (putFwCmd (withOp F.FW_CMD_OP (0) 4 : W) (0 : W) (0 : W)).1 = true) ∧ (((Tests.fw fwIDLE : State).mode = STANDBY ∨ (Tests.fw fwIDLE : State).mode = ACTIVE)) ∧ ((Tests.fw fwIDLE : State).fwState ≠ fwTRIAL)) ∧
    (((withOp F.FW_CMD_OP (F.FW_CMD_WHEN.put 0 1) 4 : W) = withOp F.FW_CMD_OP (F.FW_CMD_WHEN.put 0 1 : W) 4) ∧ ((Tests.fw fwTRIAL : State).passes Tests.maintain (putFwCmd (withOp F.FW_CMD_OP (F.FW_CMD_WHEN.put 0 1) 4 : W) (0 : W) (0 : W)).1 = true) ∧ (((Tests.fw fwTRIAL : State).mode = STANDBY ∨ (Tests.fw fwTRIAL : State).mode = ACTIVE)) ∧ ((Tests.fw fwTRIAL : State).fwState = fwTRIAL) ∧ (F.FW_CMD_WHEN.of (withOp F.FW_CMD_OP (F.FW_CMD_WHEN.put 0 1) 4 : W) = 1) ∧ (fwTime (0 : W) (0 : W) ≤ (Tests.fw fwTRIAL : State).clk.count)) :=
  ⟨by decide +kernel, by decide +kernel, by decide +kernel, by decide +kernel⟩
theorem witness_fwAbandon :
    (((Tests.activation fwREADY : State).passes Tests.maintain (putFwCmd (withOp F.FW_CMD_OP (0) 5 : W) (0 : W) (0 : W)).1 = true) ∧ ((withOp F.FW_CMD_OP (0) 5 : W) = withOp F.FW_CMD_OP (0 : W) 5) ∧ ((Tests.activation fwREADY : State).fwState = fwSTAGED ∨ (Tests.activation fwREADY : State).fwState = fwPREPARING ∨ (Tests.activation fwREADY : State).fwState = fwREADY ∨ (Tests.activation fwREADY : State).fwState = fwHELD ∨ (Tests.activation fwREADY : State).fwState = fwREJECTED)) ∧
    (((withOp F.FW_CMD_OP (0) 5 : W) = withOp F.FW_CMD_OP (0 : W) 5) ∧ ((Tests.fw fwTRIAL : State).passes Tests.maintain (putFwCmd (withOp F.FW_CMD_OP (0) 5 : W) (0 : W) (0 : W)).1 = true) ∧ ((Tests.fw fwTRIAL : State).fwState = fwIDLE ∨ (Tests.fw fwTRIAL : State).fwState = fwVERIFYING ∨ (Tests.fw fwTRIAL : State).fwState = fwTRIAL)) :=
  ⟨by decide +kernel, by decide +kernel⟩
theorem witness_activationReady :
    (((Tests.activation fwPREPARING : State).fwState = fwPREPARING) ∧ ((Tests.activation fwPREPARING : State).fw.actAt.any (fun x => x ≤ (Tests.activation fwPREPARING : State).house) = false) ∧ ((Tests.activation fwPREPARING : State).importable ((Tests.activation fwPREPARING : State).half (Tests.activation fwPREPARING : State).writeHalf).images = true) ∧ (true = true)) ∧
    (((Tests.activation fwPREPARING : State).fwState = fwPREPARING) ∧ ((Tests.activation fwPREPARING : State).fw.actAt.any (fun x => x ≤ (Tests.activation fwPREPARING : State).house) = false) ∧ ((Tests.activation fwPREPARING : State).importable ((Tests.activation fwPREPARING : State).half (Tests.activation fwPREPARING : State).writeHalf).images = false ∨ false = false)) ∧
    ((((Tests.activation fwPREPARING).withFw fun x => { x with actAt := some 0 } : State).fwState = fwPREPARING) ∧ (((Tests.activation fwPREPARING).withFw fun x => { x with actAt := some 0 } : State).fw.actAt.any (fun x => x ≤ ((Tests.activation fwPREPARING).withFw fun x => { x with actAt := some 0 } : State).house) = true)) ∧
    (((Tests.fw fwIDLE : State).fwState ≠ fwPREPARING)) :=
  ⟨by decide +kernel, by decide +kernel, by decide +kernel, by decide +kernel⟩
theorem witness_activationTwinCheck :
    (((((Tests.lockstep fwREADY : State).fwState = fwREADY ∨ (Tests.lockstep fwREADY : State).fwState = fwPREPARING) ∧ (Tests.lockstep fwREADY : State).paired = true ∧ (Tests.lockstep fwREADY : State).sync = syncLOCKSTEP)) ∧ ((Tests.lockstep fwREADY : State).fw.actAt = some (secs 1 : Nat)) ∧ (true = true) ∧ (((Tests.lockstep fwREADY).stagedIdent : BitVec 512) = (Tests.lockstep fwREADY : State).stagedIdent) ∧ ((secs 1 : Nat) = (secs 1 : Nat))) ∧
    (((((Tests.lockstep fwREADY : State).fwState = fwREADY ∨ (Tests.lockstep fwREADY : State).fwState = fwPREPARING) ∧ (Tests.lockstep fwREADY : State).paired = true ∧ (Tests.lockstep fwREADY : State).sync = syncLOCKSTEP)) ∧ ((Tests.lockstep fwREADY : State).fw.actAt = some (secs 1 : Nat)) ∧ (false = false ∨ ((Tests.lockstep fwREADY).stagedIdent : BitVec 512) ≠ (Tests.lockstep fwREADY : State).stagedIdent ∨ (secs 1 : Nat) ≠ (secs 1 : Nat))) ∧
    ((¬(((Tests.fw fwIDLE : State).fwState = fwREADY ∨ (Tests.fw fwIDLE : State).fwState = fwPREPARING) ∧ (Tests.fw fwIDLE : State).paired = true ∧ (Tests.fw fwIDLE : State).sync = syncLOCKSTEP) ∨ (Tests.fw fwIDLE : State).fw.actAt = none)) :=
  ⟨by decide +kernel, by decide +kernel, by decide +kernel⟩
theorem witness_activationInstant :
    (((Tests.activation fwREADY : State).fwState = fwREADY) ∧ ((Tests.activation fwREADY : State).paired = false) ∧ ((Tests.activation fwREADY : State).fw.actAt = some (secs 1 : Nat)) ∧ ((Tests.activation fwREADY : State).fw.autoCommit = false)) ∧
    (((Tests.lockstep fwREADY : State).fwState = fwREADY) ∧ ((Tests.lockstep fwREADY : State).paired = true) ∧ ((Tests.lockstep fwREADY : State).sync = syncLOCKSTEP) ∧ ((Tests.lockstep fwREADY : State).fw.twinOk = false) ∧ ((Tests.lockstep fwREADY : State).fw.actAt = some (secs 1 : Nat))) ∧
    (((Tests.activation fwPREPARING : State).fwState = fwPREPARING) ∧ ((Tests.activation fwPREPARING : State).fw.actAt = some (secs 1 : Nat))) ∧
    (((Tests.fw fwIDLE : State).fw.actAt = none ∨ ((Tests.fw fwIDLE : State).fwState ≠ fwPREPARING ∧ (Tests.fw fwIDLE : State).fwState ≠ fwREADY))) :=
  ⟨by decide +kernel, by decide +kernel, by decide +kernel, by decide +kernel⟩
theorem witness_rollbackInstant :
    (((Tests.activation fwTRIAL : State).fwState = fwTRIAL) ∧ ((Tests.activation fwTRIAL : State).fw.actAt = some (secs 1 : Nat))) ∧
    (((Tests.fw fwTRIAL : State).fwState ≠ fwTRIAL ∨ (Tests.fw fwTRIAL : State).fw.actAt = none)) :=
  ⟨by decide +kernel, by decide +kernel⟩
theorem witness_lifecycleChallengeRead :
    ((Tests.life.acceptsRead Tests.secure ⟨0x8050, 3, 0⟩ = true)) ∧
    ((Tests.life.alive = true) ∧ (Tests.life.judgeRead ({ Tests.secure with ceil := .configure } : Req) ⟨0x8050, 3, 0⟩ = .error Status.rights)) :=
  ⟨by decide +kernel, by decide +kernel⟩
theorem witness_lifecycleRequest :
    (((Tests.life.withFw fun x => { x with lifeBuf := [9, 9] } : State).passes Tests.maintain (putLife (Tests.life.withFw fun x => { x with lifeBuf := [9, 9] } : State) Tests.maintain 2 ([1] : List Byte)).1 = true) ∧ ((Tests.life.withFw fun x => { x with lifeBuf := [9, 9] } : State).mode = SAFE) ∧ (([9, 9, 1] : List Byte) = (if 2 = 0 then [] else (Tests.life.withFw fun x => { x with lifeBuf := [9, 9] } : State).fw.lifeBuf) ++ ([1] : List Byte)) ∧ (([9, 9, 1] : List Byte).length < lifeLength (Tests.life.withFw fun x => { x with lifeBuf := [9, 9] } : State) ([9, 9, 1] : List Byte))) ∧
    ((Tests.life.passes Tests.maintain (putLife Tests.life Tests.maintain 0 Tests.lifeBlob).1 = true) ∧ (Tests.life.mode = SAFE) ∧ (Tests.lifeBlob = (if 0 = 0 then [] else Tests.life.fw.lifeBuf) ++ Tests.lifeBlob) ∧ (Tests.lifeBlob.length = lifeLength Tests.life Tests.lifeBlob) ∧ (byteAt Tests.lifeBlob 16 = 5) ∧ (byteAt Tests.lifeBlob 17 < 4) ∧ (isZero ((Tests.lifeBlob.drop 18).take 6) = true) ∧ (Tests.maintain.cls = .maintain) ∧ (lifeState Tests.life = lfMANUFACTURE ∨ lifeState Tests.life = lfRETURN) ∧ ((Tests.life.useChallenge Tests.life.fw.lifeCh (Tests.lifeBlob.take 16)).1 = true)) ∧
    (((Tests.life.setFld F.SY_MODE_MODE 0 STANDBY : State).passes Tests.maintain (putLife (Tests.life.setFld F.SY_MODE_MODE 0 STANDBY : State) Tests.maintain 0 ([1] : List Byte)).1 = true) ∧ ((Tests.life.setFld F.SY_MODE_MODE 0 STANDBY : State).mode ≠ SAFE)) :=
  ⟨by decide +kernel, by decide +kernel, by decide +kernel⟩
theorem witness_pwDomainWrite :
    (((Tests.dom dmOFF 0 : State).passes Tests.maintain (putDomain 22 (F.PW_DOMAIN_CMD.put 0 1 : W)).1 = true) ∧ (domainPresent (Tests.dom dmOFF 0 : State).caps 22 = true) ∧ (¬((Tests.dom dmOFF 0 : State).activating = true ∨ (F.PW_DOMAIN_CMD.of (F.PW_DOMAIN_CMD.put 0 1 : W) = 0 ∧ (Tests.dom dmOFF 0 : State).domainInUse 22 = true)))) ∧
    (((Tests.dom dmON 1 : State).passes Tests.maintain (putDomain 22 (0 : W)).1 = true) ∧ (domainPresent (Tests.dom dmON 1 : State).caps 22 = true) ∧ (¬((Tests.dom dmON 1 : State).activating = true ∨ (F.PW_DOMAIN_CMD.of (0 : W) = 0 ∧ (Tests.dom dmON 1 : State).domainInUse 22 = true))) ∧ (F.PW_DOMAIN_CMD.of (0 : W) = 0) ∧ ((Tests.dom dmON 1 : State).mode ≠ HOLD) ∧ ((Tests.dom dmON 1 : State).domain 22 = dmON) ∧ (22 ∉ (Tests.dom dmON 1 : State).pw.waiting)) ∧
    ((((Tests.dom dmOFF 0).setFld F.FW_STATE_STATE 0 fwREADY : State).passes Tests.maintain (putDomain 22 (F.PW_DOMAIN_CMD.put 0 1 : W)).1 = true) ∧ (domainPresent ((Tests.dom dmOFF 0).setFld F.FW_STATE_STATE 0 fwREADY : State).caps 22 = true) ∧ ((((Tests.dom dmOFF 0).setFld F.FW_STATE_STATE 0 fwREADY : State).activating = true ∨ (F.PW_DOMAIN_CMD.of (F.PW_DOMAIN_CMD.put 0 1 : W) = 0 ∧ ((Tests.dom dmOFF 0).setFld F.FW_STATE_STATE 0 fwREADY : State).domainInUse 22 = true)))) ∧
    ((({ Tests.dom dmOFF 0 with caps := ⟨.sc2e, true⟩ } : State).passes Tests.maintain (putDomain 16 (F.PW_DOMAIN_CMD.put 0 1 : W)).1 = true) ∧ (domainPresent ({ Tests.dom dmOFF 0 with caps := ⟨.sc2e, true⟩ } : State).caps 16 = false) ∧ (F.PW_DOMAIN_CMD.of (F.PW_DOMAIN_CMD.put 0 1 : W) = 1) ∧ (({ Tests.dom dmOFF 0 with caps := ⟨.sc2e, true⟩ } : State).mode ≠ SAFE)) :=
  ⟨by decide +kernel, by decide +kernel, by decide +kernel, by decide +kernel⟩
theorem witness_domainOnDone :
    ((Tests.rising.pw.rising.contains 22 = true)) ∧
    ((State.reset.pw.rising.contains 22 = false)) :=
  ⟨by decide +kernel, by decide +kernel⟩
theorem witness_domainFault :
    ((Tests.rising.pw.rising.contains 22 = true)) ∧
    ((State.reset.pw.rising.contains 22 = false)) :=
  ⟨by decide +kernel, by decide +kernel⟩
theorem witness_domainOffDone :
    ((((Tests.dom dmFALLING 0 : State).domain 22 = dmFALLING ∧ domainPresent (Tests.dom dmFALLING 0 : State).caps 22 = true)) ∧ ((Tests.dom dmFALLING 0 : State).mode ≠ HOLD)) ∧
    (((((Tests.dom dmFALLING 1).setFld F.SY_MODE_MODE 0 HOLD : State).domain 22 = dmFALLING ∧ domainPresent ((Tests.dom dmFALLING 1).setFld F.SY_MODE_MODE 0 HOLD : State).caps 22 = true)) ∧ (((Tests.dom dmFALLING 1).setFld F.SY_MODE_MODE 0 HOLD : State).mode = HOLD)) ∧
    ((¬((Tests.dom dmON 0 : State).domain 22 = dmFALLING ∧ domainPresent (Tests.dom dmON 0 : State).caps 22 = true))) :=
  ⟨by decide +kernel, by decide +kernel, by decide +kernel⟩
theorem witness_holdWake :
    (((Tests.inMode HOLD : State).mode = HOLD)) ∧
    ((State.reset.mode ≠ HOLD)) :=
  ⟨by decide +kernel, by decide +kernel⟩
theorem witness_holdRetention :
    (((((Tests.inMode HOLD).holdWake : State).mode = HOLD ∧ ((Tests.inMode HOLD).holdWake : State).pw.awake = true))) ∧
    ((¬(State.reset.mode = HOLD ∧ State.reset.pw.awake = true))) :=
  ⟨by decide +kernel, by decide +kernel⟩
theorem witness_supplyLow :
    ((2 ≤ 2) ∧ (2 < 6)) ∧
    ((6 < 2 ∨ 6 ≤ 6)) :=
  ⟨by decide +kernel, by decide +kernel⟩
theorem witness_coreDip :
    ((1 < 6) ∧ (true = true)) ∧
    ((1 < 6) ∧ (false = false)) ∧
    ((6 ≤ 6)) :=
  ⟨by decide +kernel, by decide +kernel, by decide +kernel⟩
theorem witness_thermalWarn :
    ((0 < ((Tests.inMode ACTIVE).withPw fun x => { x with warnArmed := true } : State).dies) ∧ (((Tests.inMode ACTIVE).withPw fun x => { x with warnArmed := true } : State).pw.warnArmed = true) ∧ (((Tests.inMode ACTIVE).withPw fun x => { x with warnArmed := true } : State).fld F.PW_THERM_THRESHOLD 0 ≤ 125)) ∧
    ((0 < ((Tests.inMode ACTIVE).withPw fun x => { x with warnArmed := false } : State).dies) ∧ (50 + 5 ≤ ((Tests.inMode ACTIVE).withPw fun x => { x with warnArmed := false } : State).fld F.PW_THERM_THRESHOLD 0)) ∧
    ((((Tests.inMode ACTIVE).withPw fun x => { x with warnArmed := true } : State).dies ≤ 9 ∨ (125 < ((Tests.inMode ACTIVE).withPw fun x => { x with warnArmed := true } : State).fld F.PW_THERM_THRESHOLD 0 ∧ ((Tests.inMode ACTIVE).withPw fun x => { x with warnArmed := true } : State).fld F.PW_THERM_THRESHOLD 0 < 125 + 5))) :=
  ⟨by decide +kernel, by decide +kernel, by decide +kernel⟩
theorem witness_monitorFail :
    (((Tests.inMode ACTIVE : State).monWorks 0 = true) ∧ (65535 < 65536)) ∧
    (((Tests.inMode ACTIVE : State).monWorks 12 = false)) :=
  ⟨by decide +kernel, by decide +kernel⟩
theorem witness_paceUpdate : ((([Tests.hot] : List PaceReading) = [Tests.hot]) ∧ (Tests.hot.die < (Tests.inMode ACTIVE : State).dies) ∧ (Tests.hot.load < 256) ∧ (Tests.hot.config < 65536)) := by decide +kernel
theorem witness_droopStart :
    (((Tests.inMode ACTIVE : State).pw.droop[0]? = some (⟨false, 0, 0, 0⟩ : Droop)) ∧ ((⟨false, 0, 0, 0⟩ : Droop).active = false)) ∧
    (((((Tests.inMode ACTIVE : State).pw.droop[9]?).map (·.active)).getD true = true)) :=
  ⟨by decide +kernel, by decide +kernel⟩
theorem witness_droopEnd :
    ((((Tests.inMode ACTIVE).droopStart 0 : State).pw.droop[0]? = some (⟨true, 0, 0, 0⟩ : Droop)) ∧ ((⟨true, 0, 0, 0⟩ : Droop).active = true)) ∧
    (((((Tests.inMode ACTIVE : State).pw.droop[0]?).map (·.active)).getD false = false)) :=
  ⟨by decide +kernel, by decide +kernel⟩
theorem witness_vcoreTargetWrite : (((Tests.core vcSETTLED 800 800 : State).passes Tests.maintain (putTarget (Tests.core vcSETTLED 800 800 : State) Tests.maintain (880 : W)).1 = true)) := by decide +kernel
theorem witness_vcoreStep :
    (((Tests.core vcSLEWING 800 812 : State).vcore = vcSLEWING) ∧ ((Tests.core vcSLEWING 800 812 : State).pw.written ≠ (Tests.core vcSLEWING 800 812 : State).coreTarget)) ∧
    (((Tests.core vcSLEWING 800 812 : State).vcore = vcSLEWING) ∧ ((Tests.core vcSLEWING 800 812 : State).pw.written ≠ (Tests.core vcSLEWING 800 812 : State).coreTarget) ∧ (false = false)) ∧
    (((Tests.core vcSETTLED 800 800 : State).vcore ≠ vcSLEWING ∨ (Tests.core vcSETTLED 800 800 : State).pw.written = (Tests.core vcSETTLED 800 800 : State).coreTarget)) :=
  ⟨by decide +kernel, by decide +kernel, by decide +kernel⟩
theorem witness_vcoreSettleCheck :
    (((((Tests.core vcSLEWING 800 800 : State).vcore = vcSLEWING ∨ (Tests.core vcSLEWING 800 800 : State).vcore = vcMISMATCH) ∧ (Tests.core vcSLEWING 800 800 : State).pw.written = (Tests.core vcSLEWING 800 800 : State).coreTarget ∧ ((Tests.core vcSLEWING 800 800 : State).pw.droop.any fun x => x.active) = false)) ∧ (815 < 65536)) ∧
    ((¬(((Tests.core vcSETTLED 800 800 : State).vcore = vcSLEWING ∨ (Tests.core vcSETTLED 800 800 : State).vcore = vcMISMATCH) ∧ (Tests.core vcSETTLED 800 800 : State).pw.written = (Tests.core vcSETTLED 800 800 : State).coreTarget ∧ ((Tests.core vcSETTLED 800 800 : State).pw.droop.any fun x => x.active) = false))) :=
  ⟨by decide +kernel, by decide +kernel⟩
theorem witness_vcoreRetry :
    ((((Tests.core vcNOREG 800 812 : State).vcore = vcMISMATCH ∨ (Tests.core vcNOREG 800 812 : State).vcore = vcNOREG))) ∧
    ((¬((Tests.core vcSETTLED 800 800 : State).vcore = vcMISMATCH ∨ (Tests.core vcSETTLED 800 800 : State).vcore = vcNOREG))) :=
  ⟨by decide +kernel, by decide +kernel⟩
theorem witness_absentReads : ((domainPresent Tests.small.caps 22 = false)) := by decide +kernel
theorem witness_absentRefuses : ((Tests.small.passes Tests.maintain (putDomain 22 (F.PW_DOMAIN_CMD.put 0 1 : W)).1 = true) ∧ (F.PW_DOMAIN_CMD.of (F.PW_DOMAIN_CMD.put 0 1 : W) = 1) ∧ (domainPresent Tests.small.caps 22 = false)) := by decide +kernel
theorem witness_claimOrder : ((12 < 16) ∧ (0 < 2048) ∧ (1 < 2) ∧ (12 < 16) ∧ (2047 < 2048) ∧ (0 < 2) ∧ (mkClaim 12 0 1 ≠ 0) ∧ (mkClaim 12 2047 0 ≠ 0)) := by decide +kernel
theorem witness_claimZero : ((hdrClaim Tests.copy.header = 0)) := by decide +kernel
theorem witness_evCmdAck : ((Tests.handling.passes Tests.maintain (putEvCmd 0 1 false).1 = true)) := by decide +kernel
theorem witness_evCmdPass : (((Tests.handling.setFld F.EV_SILLAGE_STATE 0 1 : State).passes Tests.maintain (putEvCmd 0 2 true).1 = true) ∧ (0 < (Tests.handling.setFld F.EV_SILLAGE_STATE 0 1 : State).dies) ∧ (0 < (Tests.handling.setFld F.EV_SILLAGE_STATE 0 1 : State).ev.sillage.length) ∧ ((Tests.handling.setFld F.EV_SILLAGE_STATE 0 1 : State).fld F.EV_SILLAGE_STATE 0 ≠ 0) ∧ (0 ∉ (Tests.handling.setFld F.EV_SILLAGE_STATE 0 1 : State).sys.isolated)) := by decide +kernel
theorem witness_evCmdFail : (((Tests.handling.setFld F.EV_SILLAGE_STATE 0 1 : State).passes Tests.maintain (putEvCmd 0 2 false).1 = true) ∧ ((Tests.handling.setFld F.EV_SILLAGE_STATE 0 1 : State).fld F.EV_SILLAGE_STATE 0 ≠ 0)) := by decide +kernel
theorem witness_evCmdBusy : ((Tests.handling.passes Tests.maintain (putEvCmd 0 2 true).1 = true) ∧ (Tests.handling.fld F.EV_SILLAGE_STATE 0 = 0)) := by decide +kernel
theorem witness_evCmdRange : ((Tests.handling.passes Tests.maintain { (putWordOf Tests.handling Tests.maintain ⟨0x7840, 0, 0⟩ 0 (3 : W)).1 with range := true } = true) ∧ ((3 : W) ≠ 1) ∧ ((3 : W) ≠ 2)) := by decide +kernel
theorem witness_shedItems : ((((kFSYNC, 0) : Nat × Nat) ∈ Tests.fsync.planCands 0)) := by decide +kernel
theorem witness_shedWrite : (((Tests.inMode ACTIVE : State).passes Tests.configure (putWordOf (Tests.inMode ACTIVE : State) Tests.configure ⟨0x8848, 0, 0⟩ 0 (0x80000000 : W)).1 = true)) := by decide +kernel
theorem witness_shedReserved : (((Tests.inMode ACTIVE : State).passes Tests.maintain { (putWordOf (Tests.inMode ACTIVE : State) Tests.maintain ⟨0x8848, 0, 0⟩ 0 (1 : W)).1 with range := true } = true) ∧ (getBits (1 : W) 0 30 ≠ 0)) := by decide +kernel
theorem witness_keepWrite : (((Tests.inMode ACTIVE : State).passes Tests.configure (putWordOf (Tests.inMode ACTIVE : State) Tests.configure ⟨0x884C, 0, 16384⟩ 0 (1 : W)).1 = true)) := by decide +kernel
theorem witness_keepReserved : (((Tests.inMode ACTIVE : State).passes Tests.maintain { (putWordOf (Tests.inMode ACTIVE : State) Tests.maintain ⟨0x884C, 0, 16384⟩ 0 (2 : W)).1 with range := true } = true) ∧ (2 ≤ (2 : W).toNat)) := by decide +kernel
theorem witness_roleRange : ((State.reset.passes Tests.maintain { (putRole (4 : W)).1 with range := true } = true) ∧ ((4 : W) ≠ 1) ∧ ((4 : W) ≠ 2) ∧ ((4 : W) ≠ 3)) := by decide +kernel
theorem witness_roleMode : (((Tests.inMode ACTIVE : State).passes Tests.maintain (putRole (2 : W)).1 = true) ∧ ((Tests.inMode ACTIVE : State).mode ≠ SAFE)) := by decide +kernel
theorem witness_roleAbsent : ((({ State.reset with caps := ⟨.sc2e, true⟩ } : State).passes Tests.maintain (putRole (1 : W)).1 = true) ∧ (({ State.reset with caps := ⟨.sc2e, true⟩ } : State).mode = SAFE) ∧ (({ State.reset with caps := ⟨.sc2e, true⟩ } : State).caps.accepts (1 : W).toNat = false)) := by decide +kernel
theorem witness_roleTaken : ((State.reset.passes Tests.maintain (putRole (3 : W)).1 = true) ∧ (State.reset.mode = SAFE) ∧ (State.reset.caps.accepts (3 : W).toNat = true)) := by decide +kernel
theorem witness_roleLoads : ((Tests.loading.mode = LOAD) ∧ (Tests.loading.phase = phRUNNING) ∧ (Tests.loading.fld F.SY_MODE_TARGET 0 = LOAD)) := by decide +kernel
theorem witness_capsWord : ((State.reset.caps = ⟨Member.sc8f, true⟩)) := by decide +kernel
theorem witness_idleStep : ((State.reset.pending = [])) := by decide +kernel
theorem runs_keepsAlign : Tests.runs (.esAlignWrite Tests.maintain 0 (0 : W)) ((Tests.inMode ACTIVE : State)) = true := by decide +kernel
theorem witness_keepsAlign : ((((⟨0x2860, 999, 0⟩ : Key) : Key).ix = 0x2860) ∧ (((⟨0x2860, 999, 0⟩ : Key) : Key).e ≠ 0)) := by decide +kernel
theorem runs_keepsAuSrc : Tests.runs (.auSrcWrite Tests.maintain 0 (0 : W)) ((Tests.inMode ACTIVE : State)) = true := by decide +kernel
theorem witness_keepsAuSrc : ((((⟨0x3010, 999, 0⟩ : Key) : Key).ix = 0x3010) ∧ (((⟨0x3010, 999, 0⟩ : Key) : Key).e ≠ 0)) := by decide +kernel
theorem runs_keepsTdmAes : Tests.runs (.audioPortConfigWrite Tests.maintain true 0 (0 : W)) ((Tests.inMode ACTIVE : State)) = true := by decide +kernel
theorem witness_keepsTdmAes : ((((⟨0x3050, 999, 0⟩ : Key) : Key).ix = (if true then 0x3050 else 0x3040)) ∧ (((⟨0x3050, 999, 0⟩ : Key) : Key).e ≠ 0)) := by decide +kernel
theorem runs_keepsAsrc : Tests.runs (.auAsrcWrite Tests.maintain 0 (0 : W)) ((Tests.inMode ACTIVE : State)) = true := by decide +kernel
theorem witness_keepsAsrc : ((((⟨0x3060, 999, 0⟩ : Key) : Key).ix = 0x3060) ∧ (((⟨0x3060, 999, 0⟩ : Key) : Key).e ≠ 0)) := by decide +kernel
theorem runs_keepsPalette : Tests.runs (.cmPaletteWrite Tests.maintain 0 (0 : W)) ((Tests.inMode ACTIVE : State)) = true := by decide +kernel
theorem witness_keepsPalette : ((((⟨0x3828, 999, 0⟩ : Key) : Key).ix = 0x3828) ∧ (((⟨0x3828, 999, 0⟩ : Key) : Key).e ≠ 0)) := by decide +kernel
theorem runs_keepsImage : Tests.runs (.cmImageWrite Tests.maintain 0 (0 : W)) ((Tests.inMode ACTIVE : State)) = true := by decide +kernel
theorem witness_keepsImage : ((((⟨0x3830, 999, 0⟩ : Key) : Key).ix = 0x3830) ∧ (((⟨0x3830, 999, 0⟩ : Key) : Key).e ≠ 0)) := by decide +kernel
theorem runs_keepsLane : Tests.runs (.lkLaneWrite Tests.maintain 0 (0 : W)) ((Tests.inMode ACTIVE : State)) = true := by decide +kernel
theorem witness_keepsLane : ((((⟨0x4010, 999, 0⟩ : Key) : Key).ix = 0x4010) ∧ (((⟨0x4010, 999, 0⟩ : Key) : Key).e ≠ 0)) := by decide +kernel
theorem runs_keepsTxeq : Tests.runs (.lkTxeqWrite Tests.maintain 0 (0 : W)) ((Tests.inMode ACTIVE : State)) = true := by decide +kernel
theorem witness_keepsTxeq : ((((⟨0x4018, 999, 0⟩ : Key) : Key).ix = 0x4018) ∧ (((⟨0x4018, 999, 0⟩ : Key) : Key).e ≠ 0)) := by decide +kernel
theorem runs_keepsMac : Tests.runs (.mxMacWrite Tests.maintain 0 0 (0 : W)) ((Tests.inMode ACTIVE : State)) = true := by decide +kernel
theorem witness_keepsMac : ((((⟨0x4810, 999, 0⟩ : Key) : Key).ix = 0x4810) ∧ (((⟨0x4810, 999, 0⟩ : Key) : Key).e ≠ 0)) := by decide +kernel
theorem runs_keepsAflow : Tests.runs (.aflowWrite Tests.maintain true 0 0 (0 : W)) ((Tests.inMode ACTIVE : State)) = true := by decide +kernel
theorem witness_keepsAflow : ((((⟨0x4830, 999, 0⟩ : Key) : Key).ix = (if true then 0x4830 else 0x4828)) ∧ (((⟨0x4830, 999, 0⟩ : Key) : Key).e ≠ 0)) := by decide +kernel
theorem runs_keepsRing : Tests.runs (.mxRingWrite Tests.maintain 0 0 (0 : W)) ((Tests.inMode ACTIVE : State)) = true := by decide +kernel
theorem witness_keepsRing : ((((⟨0x4840, 999, 0⟩ : Key) : Key).ix = 0x4840) ∧ (((⟨0x4840, 999, 0⟩ : Key) : Key).e ≠ 0)) := by decide +kernel
theorem runs_keepsRef : Tests.runs (.tmRefWrite Tests.maintain 0 0 (0 : W)) ((Tests.inMode ACTIVE : State)) = true := by decide +kernel
theorem witness_keepsRef : ((((⟨0x5010, 999, 0⟩ : Key) : Key).ix = 0x5010) ∧ (((⟨0x5010, 999, 0⟩ : Key) : Key).e ≠ 0)) := by decide +kernel
theorem runs_keepsOut : Tests.runs (.tmOutWrite Tests.maintain 0 0 (0 : W)) ((Tests.inMode ACTIVE : State)) = true := by decide +kernel
theorem witness_keepsOut : ((((⟨0x5058, 999, 0⟩ : Key) : Key).ix = 0x5058) ∧ (((⟨0x5058, 999, 0⟩ : Key) : Key).e ≠ 0)) := by decide +kernel
theorem runs_keepsPair : Tests.runs (.twPairWrite Tests.maintain 0 (0 : W)) ((Tests.inMode ACTIVE : State)) = true := by decide +kernel
theorem witness_keepsPair : ((((⟨0x5810, 999, 0⟩ : Key) : Key).ix = 0x5810) ∧ (((⟨0x5810, 999, 0⟩ : Key) : Key).e ≠ 0)) := by decide +kernel
theorem runs_keepsContext : Tests.runs (.ctContextWrite Tests.maintain 0 0 (0 : W)) ((Tests.inMode ACTIVE : State)) = true := by decide +kernel
theorem witness_keepsContext : ((((⟨0x6018, 999, 0⟩ : Key) : Key).ix = 0x6018) ∧ (((⟨0x6018, 999, 0⟩ : Key) : Key).e ≠ 0)) := by decide +kernel
theorem runs_keepsBus : Tests.runs (.ctBusWrite Tests.maintain 0 (0 : W)) ((Tests.inMode ACTIVE : State)) = true := by decide +kernel
theorem witness_keepsBus : ((((⟨0x6020, 999, 0⟩ : Key) : Key).ix = 0x6020) ∧ (((⟨0x6020, 999, 0⟩ : Key) : Key).e ≠ 0)) := by decide +kernel
theorem runs_keepsLeaseTake : Tests.runs (.leaseTake Tests.maintain 0) ((Tests.inMode ACTIVE : State)) = true := by decide +kernel
theorem witness_keepsLeaseTake : ((((⟨0x6030, 999, 0⟩ : Key) : Key).ix = 0x6030) ∧ (((⟨0x6030, 999, 0⟩ : Key) : Key).e ≠ 0)) := by decide +kernel
theorem runs_keepsLeaseRelease : Tests.runs (.leaseRelease Tests.maintain 0) ((Tests.inMode ACTIVE : State)) = true := by decide +kernel
theorem witness_keepsLeaseRelease : ((((⟨0x6030, 999, 0⟩ : Key) : Key).ix = 0x6030) ∧ (((⟨0x6030, 999, 0⟩ : Key) : Key).e ≠ 0)) := by decide +kernel
theorem runs_keepsLeaseBreak : Tests.runs (.leaseBreak Tests.maintain 0) ((Tests.inMode ACTIVE : State)) = true := by decide +kernel
theorem witness_keepsLeaseBreak : ((((⟨0x6030, 999, 0⟩ : Key) : Key).ix = 0x6030) ∧ (((⟨0x6030, 999, 0⟩ : Key) : Key).e ≠ 0)) := by decide +kernel
theorem runs_keepsChannel : Tests.runs (.mmChannelWrite Tests.maintain 0 (0 : W)) ((Tests.inMode ACTIVE : State)) = true := by decide +kernel
theorem witness_keepsChannel : ((((⟨0x7010, 999, 0⟩ : Key) : Key).ix = 0x7010) ∧ (((⟨0x7010, 999, 0⟩ : Key) : Key).e ≠ 0)) := by decide +kernel
theorem runs_keepsGpi : Tests.runs (.evGpiWrite Tests.maintain 0 (0 : W)) ((Tests.inMode ACTIVE : State)) = true := by decide +kernel
theorem witness_keepsGpi : ((((⟨0x7848, 999, 0⟩ : Key) : Key).ix = 0x7848) ∧ (((⟨0x7848, 999, 0⟩ : Key) : Key).e ≠ 0)) := by decide +kernel
theorem runs_keepsDomain : Tests.runs (.pwDomainWrite Tests.maintain 0 (0 : W)) ((Tests.inMode ACTIVE : State)) = true := by decide +kernel
theorem witness_keepsDomain : ((((⟨0x8810, 999, 0⟩ : Key) : Key).ix = 0x8810) ∧ (((⟨0x8810, 999, 0⟩ : Key) : Key).e ≠ 0)) := by decide +kernel
theorem runs_keepsSignal : Tests.runs (.laneSignalReturn 0) ((Tests.inMode ACTIVE : State)) = true := by decide +kernel
theorem witness_keepsSignal : ((((⟨0x4028, 999, 0⟩ : Key) : Key).ix = 0x4028) ∧ (((⟨0x4028, 999, 0⟩ : Key) : Key).e ≠ 0)) := by decide +kernel
theorem runs_keepsStayLos : Tests.runs (.stayLos 0) ((Tests.inMode ACTIVE : State)) = true := by decide +kernel
theorem witness_keepsStayLos : ((((⟨0x4028, 999, 0⟩ : Key) : Key).ix = 0x4028) ∧ (((⟨0x4028, 999, 0⟩ : Key) : Key).e ≠ 0)) := by decide +kernel
theorem runs_keepsStayReturn : Tests.runs (.stayReturn 0) ((Tests.inMode ACTIVE : State)) = true := by decide +kernel
theorem witness_keepsStayReturn : ((((⟨0x4028, 999, 0⟩ : Key) : Key).ix = 0x4028) ∧ (((⟨0x4028, 999, 0⟩ : Key) : Key).e ≠ 0)) := by decide +kernel
theorem runs_keepsOverrun : Tests.runs (.rxOverrun 0 0) ((Tests.inMode ACTIVE : State)) = true := by decide +kernel
theorem witness_keepsOverrun : ((((⟨0x4028, 999, 0⟩ : Key) : Key).ix = 0x4028) ∧ (((⟨0x4028, 999, 0⟩ : Key) : Key).e ≠ laneElem true 0 0)) := by decide +kernel
theorem runs_keepsStarve : Tests.runs (.txStarve 0 0 0) ((Tests.inMode ACTIVE : State)) = true := by decide +kernel
theorem witness_keepsStarve : ((((⟨0x4028, 999, 0⟩ : Key) : Key).ix = 0x4028) ∧ (((⟨0x4028, 999, 0⟩ : Key) : Key).e ≠ laneElem false 0 0)) := by decide +kernel
theorem runs_keepsSource : Tests.runs (.sourcePicture 0 0 0 none) ((Tests.inMode ACTIVE : State)) = true := by decide +kernel
theorem witness_keepsSource : ((((⟨0x2864, 999, 0⟩ : Key) : Key).ix = 0x2864) ∧ (((⟨0x2864, 999, 0⟩ : Key) : Key).e ≠ 0)) := by decide +kernel
theorem runs_keepsLost : Tests.runs (.sourceLost 0) ((Tests.inMode ACTIVE : State)) = true := by decide +kernel
theorem witness_keepsLost : ((((⟨0x2864, 999, 0⟩ : Key) : Key).ix = 0x2864) ∧ (((⟨0x2864, 999, 0⟩ : Key) : Key).e ≠ 0)) := by decide +kernel
theorem runs_keepsStoreEnd : Tests.runs (.fsyncPictureEnd 0 ([] : List Nat)) ((Tests.inMode ACTIVE : State)) = true := by decide +kernel
theorem witness_keepsStoreEnd : ((((⟨0x2864, 999, 0⟩ : Key) : Key).ix = 0x2864) ∧ (((⟨0x2864, 999, 0⟩ : Key) : Key).e ≠ 0)) := by decide +kernel
theorem runs_keepsAsrcLock : Tests.runs (.asrcLock 0 (0 : Int)) ((Tests.inMode ACTIVE : State)) = true := by decide +kernel
theorem witness_keepsAsrcLock : ((((⟨0x3060, 999, 0⟩ : Key) : Key).ix = 0x3060) ∧ (((⟨0x3060, 999, 0⟩ : Key) : Key).e ≠ 0)) := by decide +kernel
theorem runs_keepsAsrcUnlock : Tests.runs (.asrcUnlock 0) ((Tests.inMode ACTIVE : State)) = true := by decide +kernel
theorem witness_keepsAsrcUnlock : ((((⟨0x3060, 999, 0⟩ : Key) : Key).ix = 0x3060) ∧ (((⟨0x3060, 999, 0⟩ : Key) : Key).e ≠ 0)) := by decide +kernel
theorem runs_keepsRefresh : Tests.runs (.refreshRateCheck 0 0) ((Tests.inMode ACTIVE : State)) = true := by decide +kernel
theorem witness_keepsRefresh : ((((⟨0x7018, 999, 0⟩ : Key) : Key).ix = 0x7018) ∧ (((⟨0x7018, 999, 0⟩ : Key) : Key).e ≠ 0)) := by decide +kernel
theorem runs_keepsScrub : Tests.runs (.scrubPassDone 0 ([] : List Nat) ([] : List Nat)) ((Tests.inMode ACTIVE : State)) = true := by decide +kernel
theorem witness_keepsScrub : ((((⟨0x7018, 999, 0⟩ : Key) : Key).ix = 0x7018) ∧ (((⟨0x7018, 999, 0⟩ : Key) : Key).e ≠ 0)) := by decide +kernel
theorem runs_keepsGpiEdge : Tests.runs (.gpiRawEdge 0) ((Tests.inMode ACTIVE : State)) = true := by decide +kernel
theorem witness_keepsGpiEdge : ((((⟨0x7850, 999, 0⟩ : Key) : Key).ix = 0x7850) ∧ (((⟨0x7850, 999, 0⟩ : Key) : Key).e ≠ 0)) := by decide +kernel
theorem runs_keepsGpiQualify : Tests.runs (.gpiQualify 0) ((Tests.inMode ACTIVE : State)) = true := by decide +kernel
theorem witness_keepsGpiQualify : ((((⟨0x7850, 999, 0⟩ : Key) : Key).ix = 0x7850) ∧ (((⟨0x7850, 999, 0⟩ : Key) : Key).e ≠ 0)) := by decide +kernel
theorem runs_keepsGpiStuck : Tests.runs (.gpiStuck 0) ((Tests.inMode ACTIVE : State)) = true := by decide +kernel
theorem witness_keepsGpiStuck : ((((⟨0x7850, 999, 0⟩ : Key) : Key).ix = 0x7850) ∧ (((⟨0x7850, 999, 0⟩ : Key) : Key).e ≠ 0)) := by decide +kernel
theorem runs_keepsGpiUnmask : Tests.runs (.gpiUnmask 0) ((Tests.inMode ACTIVE : State)) = true := by decide +kernel
theorem witness_keepsGpiUnmask : ((((⟨0x7850, 999, 0⟩ : Key) : Key).ix = 0x7850) ∧ (((⟨0x7850, 999, 0⟩ : Key) : Key).e ≠ 0)) := by decide +kernel
theorem runs_keepsDomainOn : Tests.runs (.domainOnDone 0) ((Tests.inMode ACTIVE : State)) = true := by decide +kernel
theorem witness_keepsDomainOn : ((((⟨0x8810, 999, 0⟩ : Key) : Key).ix = 0x8810) ∧ (((⟨0x8810, 999, 0⟩ : Key) : Key).e ≠ 0)) := by decide +kernel
theorem runs_keepsDomainFault : Tests.runs (.domainFault 0) ((Tests.inMode ACTIVE : State)) = true := by decide +kernel
theorem witness_keepsDomainFault : ((((⟨0x8810, 999, 0⟩ : Key) : Key).ix = 0x8810) ∧ (((⟨0x8810, 999, 0⟩ : Key) : Key).e ≠ 0)) := by decide +kernel
theorem runs_keepsDomainOff : Tests.runs (.domainOffDone 0) ((Tests.inMode ACTIVE : State)) = true := by decide +kernel
theorem witness_keepsDomainOff : ((((⟨0x8810, 999, 0⟩ : Key) : Key).ix = 0x8810) ∧ (((⟨0x8810, 999, 0⟩ : Key) : Key).e ≠ 0)) := by decide +kernel
theorem runs_keepsMonitor : Tests.runs (.monitorFail 0 0) ((Tests.inMode ACTIVE : State)) = true := by decide +kernel
theorem witness_keepsMonitor : ((((⟨0x8818, 999, 0⟩ : Key) : Key).ix = 0x8818) ∧ (((⟨0x8818, 999, 0⟩ : Key) : Key).e ≠ 0)) := by decide +kernel
theorem runs_keepsDroop : Tests.runs (.droopEnd 0 0 0 0 0) ((Tests.inMode ACTIVE : State)) = true := by decide +kernel
theorem witness_keepsDroop : ((((⟨0x8830, 999, 0⟩ : Key) : Key).ix = 0x8830) ∧ (((⟨0x8830, 999, 0⟩ : Key) : Key).e ≠ 0)) := by decide +kernel
theorem witness_deadKeeps : (((State.reset.withSys fun y => { y with mast := none } : State).alive = false)) := by decide +kernel
theorem witness_lumaPasses : ((((Tests.inMode ACTIVE : State).composed 0 (fun _ _ _ => ⟨0, 0, 0, 1023⟩ : Nat → Nat → Nat → Px) (fun _ _ => ⟨256, 2048, 2048, 1023⟩ : Nat → Nat → Px) 7 3).2 = false)) := by decide +kernel
theorem witness_chromaPasses : ((((Tests.inMode ACTIVE : State).composed 0 (fun _ _ _ => ⟨0, 0, 0, 1023⟩ : Nat → Nat → Nat → Px) (fun _ _ => ⟨256, 2048, 2048, 1023⟩ : Nat → Nat → Px) (7 - 1) 3).2 = false) ∧ (((Tests.inMode ACTIVE : State).composed 0 (fun _ _ _ => ⟨0, 0, 0, 1023⟩ : Nat → Nat → Nat → Px) (fun _ _ => ⟨256, 2048, 2048, 1023⟩ : Nat → Nat → Px) 7 3).2 = false) ∧ (((Tests.inMode ACTIVE : State).composed 0 (fun _ _ _ => ⟨0, 0, 0, 1023⟩ : Nat → Nat → Nat → Px) (fun _ _ => ⟨256, 2048, 2048, 1023⟩ : Nat → Nat → Px) (min (7 + 1) (1920 - 1)) 3).2 = false)) := by decide +kernel
theorem witness_quietHead : ((∀ n < 8, lClass ((Tests.inMode ACTIVE : State).word 0x3820 (3 * 8 + n) 0) = lOFF ∨ (Tests.inMode ACTIVE : State).fld F.CM_LAYER_OPACNOW (3 * 8 + n) = 0)) := by decide +kernel
theorem witness_headerFields : ((65535 < 65536) ∧ (3 < 4) ∧ (1 < 2) ∧ (7 < 8) ∧ (63 < 64) ∧ (8388607 < 8388608)) := by decide +kernel
theorem witness_holdSilent : (((Tests.inMode HOLD : State).mode = HOLD)) := by decide +kernel
theorem witness_serviceTests : (((Tests.inMode SERVICE : State).mode = SERVICE)) := by decide +kernel
theorem witness_safeNotLive : ((State.reset.mode = SAFE ∨ State.reset.mode = LOAD)) := by decide +kernel


theorem witness_stepCanon : State.reset.Canon ∧ (match step State.reset with | .next _ => true | _ => false) = true :=
  ⟨⟨by decide, by decide⟩, by decide +kernel⟩
theorem witness_touchesOnly : Tests.runs (.supplyLow 2 1700 3) (Tests.inMode ACTIVE) = true := by decide +kernel
theorem witness_fusesStand : Tests.runs (.rankFail 0 ⟨1, none, (0, 0)⟩) Tests.dram = true := by decide +kernel
theorem witness_queueIsFifo : (match step { Tests.inMode ACTIVE with pending := [.holdWake, .slewDone] } with
    | .next t => t.pending == [.slewDone] | _ => false) = true := by decide +kernel
theorem witness_flashKeeps : Tests.runs (.fwFlashWrite Tests.maintain 65535 [1, 2]) (Tests.fw fwIDLE) = true ∧
    ¬(65535 ≤ 196608 ∧ 196608 < 65535 + [1, 2].length) ∧ (65535 + [1, 2].length - 1) / sector < 196608 / sector := by decide +kernel
theorem witness_flashCanon : Tests.runs (.fwFlashWrite Tests.maintain 65535 [1, 2]) (Tests.fw fwIDLE) = true ∧
    cellsWf ((Tests.fw fwIDLE).half (Tests.fw fwIDLE).writeHalf).bytes := by decide +kernel

def Tests.sending : State := (Tests.inMode ACTIVE).setFld F.PW_DOMAIN_STATE 0 dmON
theorem witness_idleClaim : ∃ h, Tests.sending.txHeader 80 5 = some h ∧ hdrType h = tyIDLE :=
  ⟨sheetHeader 0 tyIDLE 0 0 0 false 5, by decide +kernel, by decide +kernel⟩

/-! The worked values of the spec. -/

/-- The test vector of R49. -/
theorem test_header_check : frameHeader 584 kVIDEO 42 0xA7 0x41 ⟨false, false, false, false, false⟩ = 0x092080AA9D040528 ∧ hdrOk 0x092080AA9D040528 = true := by decide +kernel
/-- Opacity at F+0 of the branded feed's RAMP 25, and the head's delay of 7.545 µs (chapter 7). -/
theorem test_ramp : ({ LayerRun.rest 0 with opac1 := 1023, frames := 25 } : LayerRun).opac 1 = 41 := by decide +kernel
theorem test_images : imgStride 0x8180_0C00_0400_0000 = 192 := by decide +kernel
theorem test_opaque_black : palPx 0x100800800FFC0000 = ⟨256, 2048, 2048, 1023⟩ := by decide +kernel
theorem test_white : fromRgb 0 255 255 255 255 1023 = ⟨3760, 2048, 2048, 1023⟩ := by decide +kernel

/-! Ill-formed commands are refused by `Instr.wf`: one for each kind of check. -/

theorem ill_session : (Instr.requestSafe { Tests.operate with session := 65536 }).wf = false := by decide
theorem ill_seq : (Instr.requestLoad { Tests.operate with seq := 2 ^ 32 }).wf = false := by decide
theorem ill_die : (Instr.thermalTrip 8 125).wf = false := by decide
theorem well_die : (Instr.thermalTrip 7 125).wf = true := by decide
theorem ill_channel : (Instr.dramRecal 32).wf = false := by decide
theorem ill_element : (Instr.leaseTake Tests.operate (2 ^ 32)).wf = false := by decide
theorem ill_word : (Instr.ctContextWrite Tests.secure 0 5 0).wf = false := by decide
theorem ill_address : (Instr.ncpRead (Tests.ncp 1 .operate) [⟨⟨65536, 0, 0⟩, 0⟩]).wf = false := by decide
theorem ill_subindex : (Instr.ncpRead (Tests.ncp 1 .operate) [⟨⟨0x1000, 256, 0⟩, 0⟩]).wf = false := by decide
theorem ill_reserved : (Instr.ncpRead (Tests.ncp 1 .operate) [⟨⟨0x1000, 0, 0⟩, 256⟩]).wf = false := by decide
theorem ill_item : (Instr.ncpWrite (Tests.ncp 1 .operate) [⟨⟨⟨0x1000, 0, 0⟩, 0⟩, 65536, []⟩]).wf = false := by decide
theorem ill_type : (Instr.ncpBlockWrite (Tests.ncp 1 .operate) ⟨⟨0x1000, 0, 0⟩, 0⟩ 65536 []).wf = false := by decide
theorem ill_sender : (Instr.challengeRead { Tests.ncp 1 .operate with udp := 65536 }).wf = false := by decide
theorem ill_attachment : (Instr.challengeRead { Tests.ncp 1 .operate with att := .mac 64 0 }).wf = false := by decide
theorem ill_number : (Instr.sessionClose (Tests.ncp 1 .operate) 65536).wf = false := by decide
theorem ill_period : (Instr.ncpSubscribe (Tests.ncp 1 .operate) ⟨⟨0x1000, 1, 0⟩, 0⟩ 1 ⟨65536, 1, 0⟩).wf = false := by decide
theorem ill_action : (Instr.ncpSubscribe (Tests.ncp 1 .operate) ⟨⟨0x1000, 1, 0⟩, 0⟩ 1 ⟨0, 256, 0⟩).wf = false := by decide
theorem ill_offset : (Instr.pcieWindowRead 0 true (2 ^ 36) true).wf = false := by decide
theorem ill_nonce : (Instr.quoteRequest Tests.operate [0]).wf = false := by decide
theorem ill_slots : (Instr.pairSheetRelease 0 none none (List.replicate 25 ⟨true, true, false, false⟩)).wf = false := by decide
theorem ill_burst : (Instr.burstAbort 0 ⟨0, 0, true, 5, 4, 0, false, []⟩).wf = false := by decide

end Sys2Proof.Machine
end

section
/-! What every command keeps: to the parts that `touches` names, the queue and the fused capabilities. -/
namespace Sys2Proof.Machine

theorem ExecWithin.mono {a b : List Part} {s : State} {o : Host.Outcome State Fault Refusal} (h : ExecWithin a s o)
    (m : sub a b = true) : ExecWithin b s o :=
  let ⟨u, hu, hw⟩ := h
  ⟨u, hu, hw.mono m⟩

/-- Every command keeps to the parts that `touches` names for it, with what isolated dies held ended. -/
theorem exec_within (c : Instr) (s : State) : ExecWithin (touches c) s (exec c s) :=
  match c with
  | .powerOn .. => (execPowerOn_within ..).mono rfl
  | .packageReset .. => (execPackageReset_within ..).mono rfl
  | .requestSafe .. => (execRequestSafe_within ..).mono rfl
  | .requestLoad .. => (execRequestLoad_within ..).mono rfl
  | .requestStandby .. => (execRequestStandby_within ..).mono rfl
  | .requestActive .. => (execRequestActive_within ..).mono rfl
  | .requestHold .. => (execRequestHold_within ..).mono rfl
  | .requestService .. => (execRequestService_within ..).mono rfl
  | .loadComplete .. => (execLoadComplete_within ..).mono rfl
  | .loadTimeout => (execLoadTimeout_within ..).mono rfl
  | .modeTransitionComplete => (execModeTransitionComplete_within ..).mono rfl
  | .thermalTrip .. => (execThermalTrip_within ..).mono rfl
  | .undervoltage .. => (execUndervoltage_within ..).mono rfl
  | .sheetStart .. => (execSheetStart_within ..).mono rfl
  | .rxHeaderBlock .. => (execRxHeaderBlock_within ..).mono rfl
  | .laneSignalLoss .. => (execLaneSignalLoss_within ..).mono rfl
  | .laneSignalReturn .. => (execLaneSignalReturn_within ..).mono rfl
  | .rxSheet .. => (execRxSheet_within ..).mono rfl
  | .rxEssenceFrame .. => (execRxEssenceFrame_within ..).mono rfl
  | .rxOverrun .. => (execRxOverrun_within ..).mono rfl
  | .txStarve .. => (execTxStarve_within ..).mono rfl
  | .meshGroupFail .. => (execMeshGroupFail_within ..).mono rfl
  | .portTableWrite .. => (execPortTableWrite_within ..).mono rfl
  | .calCommit .. => (execCalCommit_within ..).mono rfl
  | .calAbandon .. => (execCalAbandon_within ..).mono rfl
  | .rebuildDone => (execRebuildDone_within ..).mono rfl
  | .calendarPublish => (execCalendarPublish_within ..).mono rfl
  | .takeCommit .. => (execTakeCommit_within ..).mono rfl
  | .takeCancel .. => (execTakeCancel_within ..).mono rfl
  | .twinDecisionReceived .. => (execTwinDecisionReceived_within ..).mono rfl
  | .decisionAckTimeout .. => (execDecisionAckTimeout_within ..).mono rfl
  | .switchLine .. => (execSwitchLine_within ..).mono rfl
  | .salvoArm .. => (execSalvoArm_within ..).mono rfl
  | .salvoDiscard .. => (execSalvoDiscard_within ..).mono rfl
  | .salvoTimeout .. => (execSalvoTimeout_within ..).mono rfl
  | .holdDeadline .. => (execHoldDeadline_within ..).mono rfl
  | .esAlignWrite .. => (execEsAlignWrite_within ..).mono rfl
  | .sourcePicture .. => (execSourcePicture_within ..).mono rfl
  | .sourceLost .. => (execSourceLost_within ..).mono rfl
  | .fsyncPictureStart .. => (execFsyncPictureStart_within ..).mono rfl
  | .fsyncPictureEnd .. => (execFsyncPictureEnd_within ..).mono rfl
  | .fsyncReadInstant .. => (execFsyncReadInstant_within ..).mono rfl
  | .fsyncAudioSlip .. => (execFsyncAudioSlip_within ..).mono rfl
  | .lossholdExpire .. => (execLossholdExpire_within ..).mono rfl
  | .auSrcWrite .. => (execAuSrcWrite_within ..).mono rfl
  | .auDstTargetWrite .. => (execAuDstTargetWrite_within ..).mono rfl
  | .audioChangeCommit .. => (execAudioChangeCommit_within ..).mono rfl
  | .audioChangeCancel .. => (execAudioChangeCancel_within ..).mono rfl
  | .audioSample .. => (execAudioSample_within ..).mono rfl
  | .audioTransitionTimeout .. => (execAudioTransitionTimeout_within ..).mono rfl
  | .auGainWrite .. => (execAuGainWrite_within ..).mono rfl
  | .audioPortConfigWrite .. => (execAudioPortConfigWrite_within ..).mono rfl
  | .maskWrite .. => (execMaskWrite_within ..).mono rfl
  | .maskApply .. => (execMaskApply_within ..).mono rfl
  | .startTrigger .. => (execStartTrigger_within ..).mono rfl
  | .stopTrigger .. => (execStopTrigger_within ..).mono rfl
  | .abortTrigger .. => (execAbortTrigger_within ..).mono rfl
  | .triggerAct .. => (execTriggerAct_within ..).mono rfl
  | .streamUnderrun .. => (execStreamUnderrun_within ..).mono rfl
  | .streamRejoin .. => (execStreamRejoin_within ..).mono rfl
  | .streamPhaseSlip .. => (execStreamPhaseSlip_within ..).mono rfl
  | .streamOffrate .. => (execStreamOffrate_within ..).mono rfl
  | .auAsrcWrite .. => (execAuAsrcWrite_within ..).mono rfl
  | .asrcLock .. => (execAsrcLock_within ..).mono rfl
  | .asrcUnlock .. => (execAsrcUnlock_within ..).mono rfl
  | .cmLayerWrite .. => (execCmLayerWrite_within ..).mono rfl
  | .cmImageWrite .. => (execCmImageWrite_within ..).mono rfl
  | .cmPixelsWrite .. => (execCmPixelsWrite_within ..).mono rfl
  | .cmPaletteWrite .. => (execCmPaletteWrite_within ..).mono rfl
  | .headCommit .. => (execHeadCommit_within ..).mono rfl
  | .headCancel .. => (execHeadCancel_within ..).mono rfl
  | .flattenDone .. => (execFlattenDone_within ..).mono rfl
  | .lkLaneWrite .. => (execLkLaneWrite_within ..).mono rfl
  | .laneTrainingDone .. => (execLaneTrainingDone_within ..).mono rfl
  | .lkTxeqWrite .. => (execLkTxeqWrite_within ..).mono rfl
  | .txeqStep .. => (execTxeqStep_within ..).mono rfl
  | .stayLos .. => (execStayLos_within ..).mono rfl
  | .stayReturn .. => (execStayReturn_within ..).mono rfl
  | .spareCover .. => (execSpareCover_within ..).mono rfl
  | .spareRelease .. => (execSpareRelease_within ..).mono rfl
  | .prbsPatternWrite .. => (execPrbsPatternWrite_within ..).mono rfl
  | .prbsInject .. => (execPrbsInject_within ..).mono rfl
  | .prbsSlip .. => (execPrbsSlip_within ..).mono rfl
  | .laneErrorSecond => (execLaneErrorSecond_within ..).mono rfl
  | .mxMacWrite .. => (execMxMacWrite_within ..).mono rfl
  | .macRxFrame .. => (execMacRxFrame_within ..).mono rfl
  | .pauseExpire .. => (execPauseExpire_within ..).mono rfl
  | .mxRingWrite .. => (execMxRingWrite_within ..).mono rfl
  | .ringTxFrame .. => (execRingTxFrame_within ..).mono rfl
  | .tsqRead .. => (execTsqRead_within ..).mono rfl
  | .mxStatsRead .. => (execMxStatsRead_within ..).mono rfl
  | .xportWrite .. => (execXportWrite_within ..).mono rfl
  | .aflowWrite .. => (execAflowWrite_within ..).mono rfl
  | .st2110Release .. => (execSt2110Release_within ..).mono rfl
  | .sdiRxLine .. => (execSdiRxLine_within ..).mono rfl
  | .sdiTxLine .. => (execSdiTxLine_within ..).mono rfl
  | .macLinkChange .. => (execMacLinkChange_within ..).mono rfl
  | .tmRefWrite .. => (execTmRefWrite_within ..).mono rfl
  | .refMeasurement .. => (execRefMeasurement_within ..).mono rfl
  | .refQualify .. => (execRefQualify_within ..).mono rfl
  | .refLos .. => (execRefLos_within ..).mono rfl
  | .selectionEval => (execSelectionEval_within ..).mono rfl
  | .agreementCheck .. => (execAgreementCheck_within ..).mono rfl
  | .refAccept .. => (execRefAccept_within ..).mono rfl
  | .refRequalify .. => (execRefRequalify_within ..).mono rfl
  | .ptpMessageRx .. => (execPtpMessageRx_within ..).mono rfl
  | .announceTimeout .. => (execAnnounceTimeout_within ..).mono rfl
  | .ptpTxInterval .. => (execPtpTxInterval_within ..).mono rfl
  | .stepAbsolute .. => (execStepAbsolute_within ..).mono rfl
  | .stepRelative .. => (execStepRelative_within ..).mono rfl
  | .stepToref .. => (execStepToref_within ..).mono rfl
  | .stepApply => (execStepApply_within ..).mono rfl
  | .slewDone => (execSlewDone_within ..).mono rfl
  | .holdoverUpdate .. => (execHoldoverUpdate_within ..).mono rfl
  | .holdoverLearnSave => (execHoldoverLearnSave_within ..).mono rfl
  | .holdoverForget .. => (execHoldoverForget_within ..).mono rfl
  | .tmOutWrite .. => (execTmOutWrite_within ..).mono rfl
  | .twPairWrite .. => (execTwPairWrite_within ..).mono rfl
  | .pairSheetRelease .. => (execPairSheetRelease_within ..).mono rfl
  | .twinSilentSheets => (execTwinSilentSheets_within ..).mono rfl
  | .healthReport => (execHealthReport_within ..).mono rfl
  | .twinReportTimeout => (execTwinReportTimeout_within ..).mono rfl
  | .snapshotRequest .. => (execSnapshotRequest_within ..).mono rfl
  | .snapshotReceived .. => (execSnapshotReceived_within ..).mono rfl
  | .mirrorStoresFull => (execMirrorStoresFull_within ..).mono rfl
  | .selftestEngine .. => (execSelftestEngine_within ..).mono rfl
  | .busFrameRx .. => (execBusFrameRx_within ..).mono rfl
  | .busBackoffExpire .. => (execBusBackoffExpire_within ..).mono rfl
  | .ctBusWrite .. => (execCtBusWrite_within ..).mono rfl
  | .ncpRead .. => (execNcpRead_within ..).mono rfl
  | .ncpWrite .. => (execNcpWrite_within ..).mono rfl
  | .ncpBlockRead .. => (execNcpBlockRead_within ..).mono rfl
  | .ncpBlockWrite .. => (execNcpBlockWrite_within ..).mono rfl
  | .ncpSubscribe .. => (execNcpSubscribe_within ..).mono rfl
  | .ncpUnsubscribe .. => (execNcpUnsubscribe_within ..).mono rfl
  | .challengeRead .. => (execChallengeRead_within ..).mono rfl
  | .sessionOpen .. => (execSessionOpen_within ..).mono rfl
  | .sessionClose .. => (execSessionClose_within ..).mono rfl
  | .sessionTimeout .. => (execSessionTimeout_within ..).mono rfl
  | .notifyPeriod .. => (execNotifyPeriod_within ..).mono rfl
  | .notifySend .. => (execNotifySend_within ..).mono rfl
  | .notifyOverflow .. => (execNotifyOverflow_within ..).mono rfl
  | .emergencySend => (execEmergencySend_within ..).mono rfl
  | .emergencyRepeat => (execEmergencyRepeat_within ..).mono rfl
  | .leaseTake .. => (execLeaseTake_within ..).mono rfl
  | .leaseRelease .. => (execLeaseRelease_within ..).mono rfl
  | .leaseBreak .. => (execLeaseBreak_within ..).mono rfl
  | .ctContextWrite .. => (execCtContextWrite_within ..).mono rfl
  | .pcieWindowRead .. => (execPcieWindowRead_within ..).mono rfl
  | .pcieWindowWrite .. => (execPcieWindowWrite_within ..).mono rfl
  | .pcieClassWrite .. => (execPcieClassWrite_within ..).mono rfl
  | .pcieAuthSubmit .. => (execPcieAuthSubmit_within ..).mono rfl
  | .pcieSubreqSubmit .. => (execPcieSubreqSubmit_within ..).mono rfl
  | .pcieFlr .. => (execPcieFlr_within ..).mono rfl
  | .syRoleWrite .. => (execSyRoleWrite_within ..).mono rfl
  | .settingsFlush .. => (execSettingsFlush_within ..).mono rfl
  | .settingsDefaults .. => (execSettingsDefaults_within ..).mono rfl
  | .settingsKeep .. => (execSettingsKeep_within ..).mono rfl
  | .settingsTimer => (execSettingsTimer_within ..).mono rfl
  | .settingsWriteDone .. => (execSettingsWriteDone_within ..).mono rfl
  | .burstAbort .. => (execBurstAbort_within ..).mono rfl
  | .decodeError .. => (execDecodeError_within ..).mono rfl
  | .exclMonitorExpire .. => (execExclMonitorExpire_within ..).mono rfl
  | .engineFail .. => (execEngineFail_within ..).mono rfl
  | .engineMove .. => (execEngineMove_within ..).mono rfl
  | .engineRetire .. => (execEngineRetire_within ..).mono rfl
  | .engineRestore .. => (execEngineRestore_within ..).mono rfl
  | .engineTest .. => (execEngineTest_within ..).mono rfl
  | .engineTestDone .. => (execEngineTestDone_within ..).mono rfl
  | .crcStart .. => (execCrcStart_within ..).mono rfl
  | .crcAbort .. => (execCrcAbort_within ..).mono rfl
  | .crcJobDone .. => (execCrcJobDone_within ..).mono rfl
  | .mmChannelWrite .. => (execMmChannelWrite_within ..).mono rfl
  | .sramScrub .. => (execSramScrub_within ..).mono rfl
  | .sramUe .. => (execSramUe_within ..).mono rfl
  | .dramRecal .. => (execDramRecal_within ..).mono rfl
  | .refreshRateCheck .. => (execRefreshRateCheck_within ..).mono rfl
  | .scrubPassDone .. => (execScrubPassDone_within ..).mono rfl
  | .rankFail .. => (execRankFail_within ..).mono rfl
  | .rankMigrate .. => (execRankMigrate_within ..).mono rfl
  | .rankRetire .. => (execRankRetire_within ..).mono rfl
  | .rankRestore .. => (execRankRestore_within ..).mono rfl
  | .rankReplan .. => (execRankReplan_within ..).mono rfl
  | .migrationHeldItemCopied .. => (execMigrationHeldItemCopied_within ..).mono rfl
  | .migrationDone .. => (execMigrationDone_within ..).mono rfl
  | .faultRaised .. => (execFaultRaised_within ..).mono rfl
  | .handlerEnd .. => (execHandlerEnd_within ..).mono rfl
  | .faultAck .. => (execFaultAck_within ..).mono rfl
  | .sillageRetest .. => (execSillageRetest_within ..).mono rfl
  | .recordClose .. => (execRecordClose_within ..).mono rfl
  | .evCursorWrite .. => (execEvCursorWrite_within ..).mono rfl
  | .clearChallengeRead .. => (execClearChallengeRead_within ..).mono rfl
  | .sillageClear .. => (execSillageClear_within ..).mono rfl
  | .sillageFail .. => (execSillageFail_within ..).mono rfl
  | .gpiRawEdge .. => (execGpiRawEdge_within ..).mono rfl
  | .gpiQualify .. => (execGpiQualify_within ..).mono rfl
  | .gpiStuck .. => (execGpiStuck_within ..).mono rfl
  | .gpiUnmask .. => (execGpiUnmask_within ..).mono rfl
  | .evGpiWrite .. => (execEvGpiWrite_within ..).mono rfl
  | .sigPolicyWrite .. => (execSigPolicyWrite_within ..).mono rfl
  | .quoteRequest .. => (execQuoteRequest_within ..).mono rfl
  | .quoteReady => (execQuoteReady_within ..).mono rfl
  | .fwFlashWrite .. => (execFwFlashWrite_within ..).mono rfl
  | .fwStage .. => (execFwStage_within ..).mono rfl
  | .stageDone .. => (execStageDone_within ..).mono rfl
  | .fwActivate .. => (execFwActivate_within ..).mono rfl
  | .activationReady .. => (execActivationReady_within ..).mono rfl
  | .activationTwinCheck .. => (execActivationTwinCheck_within ..).mono rfl
  | .activationInstant .. => (execActivationInstant_within ..).mono rfl
  | .fwCommit .. => (execFwCommit_within ..).mono rfl
  | .fwRollback .. => (execFwRollback_within ..).mono rfl
  | .fwAbandon .. => (execFwAbandon_within ..).mono rfl
  | .lifecycleChallengeRead .. => (execLifecycleChallengeRead_within ..).mono rfl
  | .lifecycleRequest .. => (execLifecycleRequest_within ..).mono rfl
  | .pwDomainWrite .. => (execPwDomainWrite_within ..).mono rfl
  | .domainOnDone .. => (execDomainOnDone_within ..).mono rfl
  | .domainFault .. => (execDomainFault_within ..).mono rfl
  | .holdWake => (execHoldWake_within ..).mono rfl
  | .holdRetention => (execHoldRetention_within ..).mono rfl
  | .supplyLow .. => (execSupplyLow_within ..).mono rfl
  | .coreDip .. => (execCoreDip_within ..).mono rfl
  | .thermalWarn .. => (execThermalWarn_within ..).mono rfl
  | .monitorFail .. => (execMonitorFail_within ..).mono rfl
  | .droopStart .. => (execDroopStart_within ..).mono rfl
  | .droopEnd .. => (execDroopEnd_within ..).mono rfl
  | .paceUpdate .. => (execPaceUpdate_within ..).mono rfl
  | .plannerEval => (execPlannerEval_within ..).mono rfl
  | .ageingUpdate .. => (execAgeingUpdate_within ..).mono rfl
  | .vcoreTargetWrite .. => (execVcoreTargetWrite_within ..).mono rfl
  | .vcoreStep .. => (execVcoreStep_within ..).mono rfl
  | .vcoreSettleCheck .. => (execVcoreSettleCheck_within ..).mono rfl
  | .vcoreRetry .. => (execVcoreRetry_within ..).mono rfl
  | .registerWrite .. => (execRegisterWrite_within ..).mono rfl
  | .powerLoss .. => (execPowerLoss_within ..).mono rfl
  | .busCollision .. => (execBusCollision_within ..).mono rfl
  | .rollbackInstant => (execRollbackInstant_within ..).mono rfl
  | .domainOffDone .. => (execDomainOffDone_within ..).mono rfl

theorem exec_keeps_pending_caps {c : Instr} {s t : State} (h : exec c s = .next t) : t.pending = s.pending ∧ t.caps = s.caps := by
  obtain ⟨u, hu, hw⟩ := exec_within c s
  rw [hu] at h
  cases h
  have hi := settleIsolated_within u
  exact ⟨hi.pending.trans hw.pending, hi.caps.trans hw.caps⟩

theorem step_pending_caps {s t : State} (h : step s = .next t) : t.pending = s.pending.tail ∧ t.caps = s.caps := by
  unfold step at h
  split at h
  case h_1 hp =>
    cases h
    have ht := ticks_within s 1
    exact ⟨ht.pending.trans (by rw [hp]; rfl), ht.caps⟩
  case h_2 c rest hp => simpa [hp] using exec_keeps_pending_caps h

/-- Settles O52: every operation keeps the queue and the fused capabilities (`Within`), and so does the end of what isolated dies held. -/
theorem commandsLeaveTheQueueAndTheFuses : Obligations.CommandsLeaveTheQueueAndTheFuses :=
  ⟨fun _ _ _ => exec_keeps_pending_caps, fun _ _ => step_pending_caps⟩

end Sys2Proof.Machine
end

section
/-! What a host's request leaves, by the status that its judgement answers (R335). -/
namespace Sys2Proof.Machine

theorem Within.word_eq {l : List Part} {s t : State} (h : Within l s t) {ix : Nat} (m : takesIn l ix = false) (e w : Nat) :
    t.word ix e w = s.word ix e w := h.agrees.word ⟨ix, e, w⟩ m

theorem Within.fld_eq {l : List Part} {s t : State} (h : Within l s t) {f : Fld} (m : takesIn l f.ix = false) (e : Nat) :
    t.fld f e = s.fld f e := congrArg (getBits · f.lo f.len) (h.word_eq m e f.w)

theorem word_putWord_same (s : State) {ix : Nat} (e w : Nat) (v : W) (m : takesIn Parts.markDirty ix = false) :
    (s.putWord ix e w v).word ix e w = v := by
  unfold State.putWord
  split
  · assumption
  · split
    · exact ((markDirty_within _).word_eq m e w).trans (word_setWord_same ..)
    · exact word_setWord_same ..

/-! ### A request judged and answered -/

@[simp] theorem stir_mode (s : State) : s.stir.mode = s.mode := (stir_within s).fld_eq rfl 0

@[simp] theorem stir_caps (s : State) : s.stir.caps = s.caps := (stir_within s).caps

theorem alive_of_passes {s : State} {rq : Req} {hw : HostWrite} (h : s.passes rq hw = true) : s.alive = true := by
  unfold State.passes at h
  rw [Bool.and_eq_true] at h
  exact h.1

/-- A write that passes the common checks but for a value out of range is answered RANGE. -/
theorem judgeWrite_range {s : State} {rq : Req} {hw : HostWrite} (own : State → Status × State)
    (h : s.passes rq { hw with range := true } = true) (hr : hw.range = false) : s.judgeWrite rq hw own = (.range, s) := by
  unfold State.passes at h
  unfold State.judgeWrite
  split at h
  · rename_i o ho
    simp only [Bool.and_eq_true] at h
    obtain ⟨_, ⟨⟨⟨⟨hrights, hwords⟩, _⟩, _⟩, _⟩, _⟩ := h
    simp [ho, hrights, hwords, hr]
  · simp at h

@[simp] theorem stir_regs (s : State) : s.stir.regs = s.regs := by
  unfold State.stir
  split <;> rfl

theorem countMsg_word (s : State) (rq : Req) (sent : Bool) {k : Key} (hk : k.ix ≠ 0x6048) :
    tget dflt (s.countMsg rq sent).regs k = tget dflt s.regs k :=
  (countMsg_within ..).agrees.word k (by simp [takesIn, Parts.countMsg, Part.all, hk])

theorem answer_word (s : State) (rq : Req) (a : Addr) (st : Status) {k : Key} (hk : k.ix ≠ 0x6048) :
    tget dflt (s.answer rq a st).regs k = tget dflt s.regs k := by
  unfold State.answer
  split
  · rfl
  · exact countMsg_word _ _ _ hk

/-- What is no violation leaves no record: at most a PCIe function's own registers change. -/
theorem settle_within_host (s : State) (rq : Req) (a : Addr) (w : Nat) {st : Status} (hv : st.violation = false) :
    Within [Part.host] s (s.settle rq a w st) := by
  simp only [State.settle, State.settleAs, hv, Bool.false_eq_true, if_false]
  split
  · exact pcieFail_within ..
  · exact .refl

theorem settle_regs (s : State) (rq : Req) (a : Addr) (w : Nat) {st : Status} (hv : st.violation = false) :
    (s.settle rq a w st).regs = s.regs := by
  simp only [State.settle, State.settleAs, hv, Bool.false_eq_true, if_false]
  split <;> rfl

section Judged
variable {s t : State} {rq : Req} {hw : HostWrite} {own : State → Status × State} {st : Status}

/-- A request judged is settled, counted and answered. -/
theorem request_judged (ha : s.alive = true) (hj : s.stir.judgeWrite rq hw own = (st, t)) :
    ∃ w, s.request rq hw own = ((t.settle rq hw.addr w st).countMsg rq false).answer rq hw.addr st :=
  ⟨_, by simp [State.request, ha, State.hostWrite, hj]; rfl⟩

theorem request_replied (ha : s.alive = true) (hj : s.stir.judgeWrite rq hw own = (st, t)) (hf : st ≠ .forwarded) :
    (s.request rq hw own).replied hw.addr st := by
  obtain ⟨w, h⟩ := request_judged ha hj
  rw [h]
  simp [State.replied, hf]

/-- What the settling of a request, its count and its answer may change. -/
def Parts.judged : List Part := Parts.settle ++ Parts.answer

theorem request_judged_within (ha : s.alive = true) (hj : s.stir.judgeWrite rq hw own = (st, t)) :
    Within Parts.judged t (s.request rq hw own) := by
  obtain ⟨w, h⟩ := request_judged ha hj
  rw [h]
  exact ((Within.mono (settle_within ..) rfl).step (countMsg_within ..) rfl).step (answer_within ..) rfl

/-- What a refusal may change that is no violation: the wake of HOLD, the answer, the counters of messages. -/
def Parts.refused : List Part := [Part.pw, Part.host, 0x6048]

theorem request_refused_within (ha : s.alive = true) (hj : s.stir.judgeWrite rq hw own = (st, s.stir))
    (hv : st.violation = false) : Within Parts.refused s (s.request rq hw own) := by
  obtain ⟨w, h⟩ := request_judged ha hj
  rw [h]
  have hs : Within Parts.refused s (s.stir.settle rq hw.addr w st) :=
    ((stir_within s).mono rfl).step (settle_within_host _ rq hw.addr w hv) rfl
  exact (hs.step (countMsg_within ..) rfl).step (answer_within ..) rfl

/-- Such a refusal leaves every word but the counters of messages, also under an index that is the number of a part, of which
`Within` says nothing. -/
theorem request_refused_word (ha : s.alive = true) (hj : s.stir.judgeWrite rq hw own = (st, s.stir))
    (hv : st.violation = false) {k : Key} (hk : k.ix ≠ 0x6048) :
    tget dflt (s.request rq hw own).regs k = tget dflt s.regs k := by
  obtain ⟨w, h⟩ := request_judged ha hj
  rw [h, answer_word _ _ _ _ hk, countMsg_word _ _ _ hk, settle_regs _ _ _ _ hv, stir_regs]

end Judged

end Sys2Proof.Machine
end

section
/-! The role in force and the word of `SY_ROLE`: what the operations of LOAD after the role is taken leave of them (R33, R346). -/
namespace Sys2Proof.Machine

/-- From `s` to `t` the role in force stands, and so does the word of `SY_ROLE`. -/
structure KeepsRole (s t : State) : Prop where
  role : t.sys.role = s.sys.role
  word : t.word 0x1018 0 0 = s.word 0x1018 0 0

/-- The parts `l` hold neither the role in force nor `SY_ROLE`. -/
def sparesRole (l : List Part) : Bool := !takesIn l Part.sys && !takesIn l 0x1018

theorem KeepsRole.refl {s : State} : KeepsRole s s := ⟨rfl, rfl⟩

theorem KeepsRole.trans {s t u : State} (h : KeepsRole s t) (g : KeepsRole t u) : KeepsRole s u :=
  ⟨g.role.trans h.role, g.word.trans h.word⟩

theorem KeepsRole.of_within {l : List Part} {s t : State} (h : Within l s t) (m : sparesRole l = true) : KeepsRole s t := by
  simp only [sparesRole, Bool.and_eq_true, Bool.not_eq_true'] at m
  exact ⟨congrArg SysState.role (h.agrees.sys m.1), h.agrees.word ⟨0x1018, 0, 0⟩ m.2⟩

/-- One more operation, on parts that spare the role. -/
theorem KeepsRole.step {l : List Part} {s t u : State} (h : KeepsRole s t) (g : Within l t u) (m : sparesRole l = true) :
    KeepsRole s u := h.trans (.of_within g m)

theorem KeepsRole.ite {c : Prop} [Decidable c] {s t u : State} (ht : KeepsRole s t) (hu : KeepsRole s u) :
    KeepsRole s (if c then t else u) := by split <;> assumption

theorem KeepsRole.foldl {α : Type} {s t : State} {f : State → α → State} {xs : List α} (ht : KeepsRole s t)
    (hf : ∀ a x, KeepsRole a (f a x)) : KeepsRole s (xs.foldl f t) := by
  induction xs generalizing t with
  | nil => exact ht
  | cons x xs ih => exact ih (ht.trans (hf t x))

theorem KeepsRole.foldl_fst {α β : Type} {s : State} {a : State × β} {f : State × β → α → State × β} {xs : List α}
    (ha : KeepsRole s a.1) (hf : ∀ a x, KeepsRole a.1 (f a x).1) : KeepsRole s (xs.foldl f a).1 := by
  induction xs generalizing a with
  | nil => exact ha
  | cons x xs ih => exact ih (ha.trans (hf a x))

/-! ### Faults -/

theorem driveFault_keepsRole (s : State) : KeepsRole s s.driveFault := ⟨rfl, rfl⟩

theorem isolateDie_keepsRole (s : State) (d code seq : Nat) (handed : Bool) : KeepsRole s (s.isolateDie d code seq handed) := by
  unfold State.isolateDie
  extract_lets q s1 s2 s3 s4 w f s5
  have h2 : KeepsRole s s2 := (KeepsRole.of_within (withMgr_within ..) rfl).step (bump_within ..) rfl
  have h3 : KeepsRole s s3 := h2.trans ⟨rfl, rfl⟩
  have h4 : KeepsRole s s4 := ((h3.step (setFld_within ..) rfl).step (relays_within _) rfl).step (notify_within ..) rfl
  have hw : KeepsRole s w.1 := h4.step (writeRec_within ..) rfl
  have h5 : KeepsRole s s5 := (hw.step (withMgr_within ..) rfl).step (tellRecord_within ..) rfl
  exact .ite .refl (h5.trans (driveFault_keepsRole _))

theorem raiseSeq_keepsRole (s : State) (code : Nat) (l : Level) (die p1 p2 p3 : Nat) (byHandler : Bool) :
    KeepsRole s (s.raiseSeq code l die p1 p2 p3 byHandler).1 := by
  unfold State.raiseSeq
  extract_lets u l1 m t l2 esc old w told written f accepted toldOf counted merged out isolated driven
  have hw : KeepsRole s written := .of_within (writeRec_within ..) rfl
  have ha : KeepsRole s accepted := hw.step (withMgr_within ..) rfl
  have ht : KeepsRole s toldOf := .ite (ha.step (tellRecord_within ..) rfl) ha
  have hc : KeepsRole s counted := .ite (ht.step (bump_within ..) rfl) ht
  have hm : KeepsRole s merged := .ite (hc.step (bump_within ..) rfl) hc
  have ho : KeepsRole s out := .ite (hm.step (takeOut_within ..) rfl) hm
  have hi : KeepsRole s isolated := .ite (ho.trans (isolateDie_keepsRole ..)) ho
  have hd : KeepsRole s driven := hi.trans (driveFault_keepsRole _)
  exact .ite hd (hd.step (notify_within ..) rfl)

theorem raise_keepsRole (s : State) (code die p1 p2 p3 : Nat) : KeepsRole s (s.raise code die p1 p2 p3) :=
  raiseSeq_keepsRole ..

theorem note_keepsRole (s : State) (code p1 p2 p3 : Nat) : KeepsRole s (s.note code p1 p2 p3) := raise_keepsRole ..

/-! ### Sources, transports and budgets -/

theorem alignFail_keepsRole (s : State) (p st code p2 : Nat) : KeepsRole s (s.alignFail p st code p2) := by
  unfold State.alignFail
  extract_lets x x' s1
  have h1 : KeepsRole s s1 := (KeepsRole.of_within (setSrc_within ..) rfl).step (setAl_within ..) rfl
  exact .ite .refl (h1.trans (raise_keepsRole ..))

theorem sourceLost_keepsRole (s : State) (p : Nat) : KeepsRole s (s.sourceLost p) := .ite .refl (alignFail_keepsRole ..)

theorem checkOne_keepsRole (s : State) (which d use limit : Nat) : KeepsRole s (s.checkOne which d use limit) := by
  unfold State.checkOne
  extract_lets k above
  exact .ite .refl (.ite ((KeepsRole.of_within (set_al_within ..) rfl).trans (raise_keepsRole ..))
    (.of_within (set_al_within ..) rfl))

theorem checkBudget_keepsRole (s : State) (d : Nat) : KeepsRole s (s.checkBudget d) := by
  unfold State.checkBudget
  extract_lets s1
  have h1 : KeepsRole s s1 := checkOne_keepsRole ..
  exact .ite (h1.trans (checkOne_keepsRole ..)) h1

theorem fitDie_keepsRole (s : State) (d : Nat) : KeepsRole s (s.fitDie d) := by
  unfold State.fitDie
  extract_lets start r
  refine .foldl_fst .refl fun a x => ?_
  exact .ite .refl ((KeepsRole.of_within (putWord_within ..) rfl).trans (raise_keepsRole ..))

theorem fitAll_keepsRole (s : State) : KeepsRole s s.fitAll := by
  unfold State.fitAll
  extract_lets fitted released taken
  have hf : KeepsRole s fitted := .foldl .refl fun a d => fitDie_keepsRole a d
  have hr : KeepsRole s released := .foldl hf fun a p => .ite (.of_within (asrcRelease_within ..) rfl) .refl
  have ht : KeepsRole s taken := .foldl hr fun a x => .of_within (asrcFit_within ..) rfl
  exact .foldl ht fun a d => checkBudget_keepsRole a d

theorem fitTransport_keepsRole (s : State) (dst : Bool) (p : Nat) : KeepsRole s (s.fitTransport dst p).1 := by
  have link (n : Nat) : KeepsRole s (s.setLink dst p n) := .of_within (setLink_within ..) rfl
  unfold State.fitTransport
  extract_lets x s1
  split
  · exact link _
  · split
    · exact .ite (link _) ((link _).trans (sourceLost_keepsRole ..))
    · split
      · exact link _
      · exact .ite (link _) .refl

theorem fitTransports_keepsRole (s : State) : KeepsRole s s.fitTransports := by
  unfold State.fitTransports
  extract_lets one was src dst a
  have ha : KeepsRole s a.1 := .foldl_fst (.foldl_fst .refl fun a p => fitTransport_keepsRole a.1 ..)
    fun a p => fitTransport_keepsRole a.1 ..
  exact .ite ha (ha.trans (note_keepsRole ..))

/-! ### The start sequence once the settings are restored (R33) -/

theorem startTables_keepsRole (s : State) : KeepsRole s s.startTables := by
  unfold State.startTables
  extract_lets aligned
  have ha : KeepsRole s aligned := .foldl (.of_within (cmLoad_within _) rfl) fun a x => .of_within (alignPort_within ..) rfl
  exact (ha.trans (fitAll_keepsRole _)).trans (fitTransports_keepsRole _)

theorem placeLoaded_keepsRole (n : Nat) (t : Table) (s : State) : KeepsRole s (State.placeLoaded n t s) := by
  induction n generalizing t s with
  | zero => exact .refl
  | succ n ih =>
    unfold State.placeLoaded
    split
    · exact .of_within (setPlacement_within ..) rfl
    · extract_lets d e r isolated
      have hi : KeepsRole s isolated := (raiseSeq_keepsRole ..).trans (isolateDie_keepsRole ..)
      exact hi.trans (ih ..)

/-- Dropping the words of port tables and transports leaves `SY_ROLE`. -/
theorem dropSwapped_keepsRole (s : State) (save : SaveState) :
    KeepsRole s { s with regs := s.regs.filter fun x => !swapped x.1, save := save } :=
  ⟨rfl, (tget_filter dflt s.regs (fun k => !swapped k) ⟨0x1018, 0, 0⟩).trans (if_pos (by decide))⟩

theorem loadTables_keepsRole (s : State) : KeepsRole s s.loadTables := by
  unfold State.loadTables
  extract_lets lk installed cleared kept
  have hi : KeepsRole s installed := ⟨rfl, rfl⟩
  have hc : KeepsRole s cleared := ((hi.step (setFld_within ..) rfl).step (setFld_within ..) rfl).step (setFld_within ..) rfl
  split
  · exact (hc.step (setCal_within ..) rfl).step (setPlacement_within ..) rfl
  · exact .ite ((hc.step (setCal_within ..) rfl).trans (placeLoaded_keepsRole ..))
      ((hc.trans (dropSwapped_keepsRole ..)).step (calFailed_within ..) rfl)

theorem reading_keepsRole (s : State) (e v : Nat) : KeepsRole s (s.reading e v) := by
  unfold State.reading
  extract_lets first read low high valued cooled lowest
  have hr : KeepsRole s read := .ite (.of_within (withPw_within ..) rfl) .refl
  have hv : KeepsRole s valued := hr.step (setFld_within ..) rfl
  have hc : KeepsRole s cooled := .ite (hv.trans ⟨rfl, rfl⟩) hv
  have hl : KeepsRole s lowest := .ite (hc.step (setFld_within ..) rfl) hc
  exact .ite .refl (.ite (hl.step (setFld_within ..) rfl) hl)

theorem loadMonitors_keepsRole (s : State) (mons : List (Nat × Nat)) : KeepsRole s (s.loadMonitors mons) := by
  unfold State.loadMonitors
  extract_lets tested
  have ht : KeepsRole s tested := .foldl .refl fun a e => .ite (.of_within (setNotify_within ..) rfl) .refl
  exact .foldl ht fun a x => .ite (reading_keepsRole ..) .refl

theorem setSync_keepsRole (s : State) (n : Nat) : KeepsRole s (s.setSync n) := by
  unfold State.setSync
  extract_lets o tw counted tw' held told diverged noted
  have hc : KeepsRole s counted := .of_within (set_tw_within ..) rfl
  have hh : KeepsRole s held := .ite (hc.step (set_tw_within ..) rfl) hc
  have ht : KeepsRole s told := hh.step (setNotify_within ..) rfl
  have hd : KeepsRole s diverged := .ite (ht.step (bump_within ..) rfl) ht
  have hn : KeepsRole s noted := .ite (hd.trans (note_keepsRole ..)) hd
  exact .ite .refl (hn.step (refreshClaim_within _) rfl)

theorem remirror_keepsRole (s : State) : KeepsRole s s.remirror :=
  (KeepsRole.of_within (set_tw_within ..) rfl).trans (setSync_keepsRole ..)

theorem endLoad_phase (s : State) (n : Nat) : (s.endLoad n).phase = n % 16 := fld_setFld_same s F.SY_MODE_PHASE 0 n (by decide)

/-- Where LOAD has ended well, the role that `SY_ROLE` reads is in force. -/
def RunsSavedRole (t : State) : Prop := t.phase = phDONE → t.sys.role = t.fld F.SY_ROLE_ROLE 0

theorem runsSavedRole_of_failed (s : State) : RunsSavedRole (s.endLoad phFAILED) := fun h =>
  absurd ((endLoad_phase s phFAILED).symm.trans h) (by decide)

theorem KeepsRole.runsSavedRole {s t : State} (h : KeepsRole s t) (hs : s.sys.role = s.fld F.SY_ROLE_ROLE 0) : RunsSavedRole t :=
  fun _ => h.role.trans (hs.trans (congrArg (getBits · 0 8) h.word).symm)

theorem loadComplete_runsSavedRole {s : State} (rep : LoadReport) (hl : s.loading = true) : RunsSavedRole (s.loadComplete rep) := by
  unfold State.loadComplete
  rw [if_neg (by simp [hl])]
  extract_lets b trained shrouds closed remapped engines lanes restored roled lanesUp tables buses subs mirrored
  clear_value restored
  split
  · exact runsSavedRole_of_failed _
  split
  · exact runsSavedRole_of_failed _
  split
  · exact runsSavedRole_of_failed _
  have hr : roled.sys.role = roled.fld F.SY_ROLE_ROLE 0 := rfl
  have hs : KeepsRole roled lanesUp := .ite .refl (.of_within (startShrouds_within _) rfl)
  have ht : KeepsRole roled tables := (hs.trans (loadTables_keepsRole _)).trans (startTables_keepsRole _)
  have hb : KeepsRole roled buses :=
    ((ht.step (restartCopies_within _) rfl).step (loadRefs_within _) rfl).step (loadBus_within _) rfl
  have hn : KeepsRole roled subs := (hb.step (copyLastGasp_within _) rfl).step (loadSubs_within _) rfl
  have hm : KeepsRole roled mirrored := (hn.trans (loadMonitors_keepsRole ..)).trans (remirror_keepsRole _)
  have he : KeepsRole roled (mirrored.startWalk.ageRecord.refreshClaim.endLoad phDONE) :=
    (((hm.step (startWalk_within _) rfl).step (ageRecord_within _) rfl).step (refreshClaim_within _) rfl).step
      (endLoad_within ..) rfl
  exact he.runsSavedRole hr

end Sys2Proof.Machine
end

section
/-! The statements of the scope: the members' capabilities and roles (R3–R5, R346). -/
namespace Sys2Proof.Machine

/-! ### Members and their capabilities (R3–R5) -/

theorem accepts_iff (m : Member) (media : Bool) (r : Nat) :
    (⟨m, media⟩ : Caps).accepts r = true ↔ (r = 1 ∧ m ≠ .sc2e) ∨ r = 2 ∨ r = 3 := by
  cases m <;> simp [Caps.accepts] <;> omega

theorem defaultRole_eq (m : Member) (media : Bool) : (⟨m, media⟩ : Caps).defaultRole = if m = .sc2e then 2 else 1 := by
  cases m <;> rfl

theorem read_capsWord (s : State) : s.read 0x1010 0 1 = BitVec.ofNat 64 s.caps.word := rfl

/-! ### A write of `SY_ROLE` (R346) -/

theorem read_role (s : State) : s.read 0x1018 0 0 = s.word 0x1018 0 0 := rfl

theorem exec_syRoleWrite (rq : Req) (v : W) (s : State) :
    exec (.syRoleWrite rq v) s = .next (s.request rq (putRole v).1 (putRole v).2).settleIsolated := rfl

section RoleWrite
variable {rq : Req} {v : W} {s : State}

theorem putRole_outOfRange (h1 : v ≠ 1) (h2 : v ≠ 2) (h3 : v ≠ 3) : (putRole v).1.range = false := by
  simp only [putRole, Bool.or_eq_false_iff, beq_eq_false_iff_ne]
  exact ⟨⟨h1, h2⟩, h3⟩

theorem putRole_otherMode (hm : s.mode ≠ SAFE) : (putRole v).2 s = (.mode, s) := by
  simp [putRole, hm]

theorem putRole_notAccepted (hm : s.mode = SAFE) (ha : s.caps.accepts v.toNat = false) : (putRole v).2 s = (.absent, s) := by
  simp [putRole, hm, ha]

theorem putRole_accepted (hm : s.mode = SAFE) (ha : s.caps.accepts v.toNat = true) :
    (putRole v).2 s = (.ok, s.putWord 0x1018 0 0 v) := by
  simp [putRole, hm, ha]

theorem roleWrite_judged (hp : s.passes rq (putRole v).1 = true) :
    s.stir.judgeWrite rq (putRole v).1 (putRole v).2 = (putRole v).2 s.stir :=
  judgeWrite_passes _ ((stir_passes ..).trans hp)

theorem roleWrite_outOfRange (hp : s.passes rq { (putRole v).1 with range := true } = true) (h1 : v ≠ 1) (h2 : v ≠ 2)
    (h3 : v ≠ 3) :
    let t := s.request rq (putRole v).1 (putRole v).2
    t.replied ⟨0x1018, 0, 0⟩ .range ∧ t.word 0x1018 0 0 = s.word 0x1018 0 0 := by
  have hj := judgeWrite_range (putRole v).2 ((stir_passes s rq { (putRole v).1 with range := true }).trans hp)
    (putRole_outOfRange h1 h2 h3)
  have hw : Within (Part.pw :: Parts.judged) s (s.request rq (putRole v).1 (putRole v).2) :=
    ((stir_within s).mono rfl).step (request_judged_within (alive_of_passes hp) hj) rfl
  exact ⟨request_replied (alive_of_passes hp) hj (by decide), hw.word_eq rfl 0 0⟩

/-- A refusal of the object's own leaves every word but the counters of messages, and the system's part. -/
theorem roleWrite_refused {st : Status} (hp : s.passes rq (putRole v).1 = true) (ho : (putRole v).2 s.stir = (st, s.stir))
    (hv : st.violation = false) (hf : st ≠ .forwarded) :
    let t := s.request rq (putRole v).1 (putRole v).2
    t.replied ⟨0x1018, 0, 0⟩ st ∧ (∀ k : Key, k.ix ≠ 0x6048 → tget dflt t.regs k = tget dflt s.regs k) ∧ t.sys = s.sys := by
  have hj := (roleWrite_judged hp).trans ho
  exact ⟨request_replied (alive_of_passes hp) hj hf, fun k hk => request_refused_word (alive_of_passes hp) hj hv hk,
    (request_refused_within (alive_of_passes hp) hj hv).agrees.sys rfl⟩

theorem roleWrite_accepted (hp : s.passes rq (putRole v).1 = true) (hm : s.mode = SAFE)
    (ha : s.caps.accepts v.toNat = true) :
    let t := s.request rq (putRole v).1 (putRole v).2
    t.replied ⟨0x1018, 0, 0⟩ .ok ∧ t.read 0x1018 0 0 = v ∧ t.sys.role = s.sys.role := by
  have hs : s.stir = s := stir_awake (by rw [hm]; decide)
  have ho : (putRole v).2 s.stir = (.ok, s.putWord 0x1018 0 0 v) := by rw [hs]; exact putRole_accepted hm ha
  have e := request_ok hp ho
  have hw : Within [0x6048, Part.host] (s.putWord 0x1018 0 0 v) (s.request rq (putRole v).1 (putRole v).2) := by
    rw [e]
    exact ((countMsg_within ..).mono rfl).step (answer_within ..) rfl
  refine ⟨request_replied (alive_of_passes hp) ((roleWrite_judged hp).trans ho) (by decide), ?_, ?_⟩
  · exact (read_role _).trans ((hw.word_eq rfl 0 0).trans (word_putWord_same s 0 0 v rfl))
  · exact congrArg SysState.role ((hw.agrees.sys rfl).trans ((putWord_within ..).agrees.sys rfl))

end RoleWrite

theorem loading_of_loadRuns {s : State} (hm : s.mode = LOAD) (hp : s.phase = phRUNNING) (ht : s.fld F.SY_MODE_TARGET 0 = LOAD) :
    s.loading = true := by simp [State.loading, hm, hp, ht]

/-- Settles O44: the cases of a write of `SY_ROLE` by the order of its checks, and LOAD by what comes after it takes the role. -/
theorem rolesAreTakenInSafe : Obligations.RolesAreTakenInSafe := by
  unfold Obligations.RolesAreTakenInSafe
  refine ⟨fun m media r => ⟨accepts_iff m media r, defaultRole_eq m media⟩, by decide, ?_, ?_, ?_, ?_, ?_⟩
  · exact fun rq v s => ⟨_, exec_syRoleWrite rq v s, fun hp h1 h2 h3 => roleWrite_outOfRange hp h1 h2 h3⟩
  · refine fun rq v k s => ⟨_, exec_syRoleWrite rq v s, fun hp hm => ?_⟩
    obtain ⟨hr, hk, hs⟩ := roleWrite_refused hp (putRole_otherMode (by simpa using hm)) rfl (by decide)
    exact ⟨hr, hk k, hs⟩
  · refine fun rq v k s => ⟨_, exec_syRoleWrite rq v s, fun hp hm ha => ?_⟩
    obtain ⟨hr, hk, hs⟩ := roleWrite_refused hp (putRole_notAccepted (by simpa using hm) (by simpa using ha)) rfl (by decide)
    exact ⟨hr, hk k, hs⟩
  · exact fun rq v s => ⟨_, exec_syRoleWrite rq v s, fun hp hm ha => roleWrite_accepted hp hm ha⟩
  · exact fun rep s => ⟨s.loadComplete rep, rfl, fun hm hp ht => loadComplete_runsSavedRole rep (loading_of_loadRuns hm hp ht)⟩

/-- Settles O45, by the table's eight words. -/
theorem capabilityWords : Obligations.CapabilityWords := by
  intro s m media hc
  rw [read_capsWord, hc]
  cases m <;> cases media <;> rfl

end Sys2Proof.Machine
end

section
/-! What a field reads after a write, a count or a notified write of it, and of a field apart from it. -/
namespace Sys2Proof.Machine

/-- Two fields share no bit of a word, whatever their elements. -/
def Fld.apart (f g : Fld) : Bool := f.ix != g.ix || f.w != g.w || decide (f.lo + f.len ≤ g.lo) || decide (g.lo + g.len ≤ f.lo)

/-- A field lies in its word. -/
def Fld.fitsWord (f : Fld) : Bool := decide (f.lo + f.len ≤ 64)

section
variable (s : State) {f g : Fld} (e d v n : Nat)

theorem fld_lt (f : Fld) : s.fld f e < 2 ^ f.len := Nat.mod_lt _ (Nat.two_pow_pos _)

theorem fld_setFld_apart (h : g.apart f = true) : (s.setFld f e v).fld g d = s.fld g d := by
  by_cases hk : (⟨g.ix, d, g.w⟩ : Key) = ⟨f.ix, e, f.w⟩
  · injection hk with hi he hw
    subst he
    refine fld_setFld_beside s f g d v hi hw ?_
    simpa [Fld.apart, hi, hw] using h
  · exact fld_setFld_other s f g e d v hk

theorem fld_setFld_fits (h : f.fitsWord = true) : (s.setFld f e v).fld f e = v % 2 ^ f.len :=
  fld_setFld_same s f e v (by simpa [Fld.fitsWord] using h)

theorem fld_setFld_of_lt (h : f.fitsWord = true) (hv : v < 2 ^ f.len) : (s.setFld f e v).fld f e = v :=
  (fld_setFld_fits s e v h).trans (Nat.mod_eq_of_lt hv)

/-- A least value kept fits its field. -/
theorem min_fld_lt (f : Fld) : min n (s.fld f e) < 2 ^ f.len := lt_of_le_of_lt (Nat.min_le_right ..) (fld_lt s e f)

theorem fld_bump_apart (h : g.apart f = true) : (s.bump f e n).fld g d = s.fld g d := fld_setFld_apart _ _ _ _ h

theorem fld_bump_same (h : f.fitsWord = true) : (s.bump f e n).fld f e = satAdd (2 ^ f.len - 1) (s.fld f e) n := by
  refine (fld_setFld_fits s e _ h).trans (Nat.mod_eq_of_lt ?_)
  have := Nat.two_pow_pos f.len
  unfold satAdd
  omega

theorem fld_notify (h : takesIn Parts.notify g.ix = false) (ix : Nat) : (s.notify ix e).fld g d = s.fld g d :=
  (notify_within s ix e).fld_eq h d

theorem fld_setNotify_same (h : f.fitsWord = true) (hn : takesIn Parts.notify f.ix = false) :
    (s.setNotify f e v).fld f e = v % 2 ^ f.len := by
  unfold State.setNotify
  split
  next heq => rw [← heq, Nat.mod_eq_of_lt (fld_lt s e f)]
  next => rw [fld_notify _ _ _ hn, fld_setFld_fits s e v h]

theorem fld_setNotify_apart (h : g.apart f = true) (hn : takesIn Parts.notify g.ix = false) :
    (s.setNotify f e v).fld g d = s.fld g d := by
  unfold State.setNotify
  split
  · rfl
  · rw [fld_notify _ _ _ hn, fld_setFld_apart _ _ _ _ h]
end

end Sys2Proof.Machine
end

section
/-! What operations that reach past `Within` leave: one word of the dictionary. -/
namespace Sys2Proof.Machine

/-- The word `k` of the dictionary stands from `s` to `t`. -/
def KeepsWord (k : Key) (s t : State) : Prop := tget dflt t.regs k = tget dflt s.regs k

section KeepsWord
variable {k : Key} {s t u : State}

theorem KeepsWord.refl : KeepsWord k s s := rfl

theorem KeepsWord.trans (h : KeepsWord k s t) (g : KeepsWord k t u) : KeepsWord k s u := Eq.trans g h

theorem KeepsWord.of_within {l : List Part} (h : Within l s t) (m : takesIn l k.ix = false) : KeepsWord k s t := h.agrees.word k m

/-- One more operation, on parts that do not take the word in. -/
theorem KeepsWord.step {l : List Part} (h : KeepsWord k s t) (g : Within l t u) (m : takesIn l k.ix = false) : KeepsWord k s u :=
  h.trans (.of_within g m)

theorem KeepsWord.ite {c : Prop} [Decidable c] (ht : KeepsWord k s t) (hu : KeepsWord k s u) :
    KeepsWord k s (if c then t else u) := by split <;> assumption

theorem KeepsWord.foldl {α : Type} {f : State → α → State} {xs : List α} (ht : KeepsWord k s t)
    (hf : ∀ a x, KeepsWord k a (f a x)) : KeepsWord k s (xs.foldl f t) := by
  induction xs generalizing t with
  | nil => exact ht
  | cons x xs ih => exact ih (ht.trans (hf t x))

theorem KeepsWord.fld {f : Fld} {e : Nat} (h : KeepsWord ⟨f.ix, e, f.w⟩ s t) : t.fld f e = s.fld f e :=
  congrArg (getBits · f.lo f.len) h

/-- Registers are filtered by a rule that passes the word. -/
theorem KeepsWord.of_filter {p : Key → Bool} (h : t.regs = s.regs.filter fun x => p x.1) (hp : p k = true) : KeepsWord k s t := by
  rw [KeepsWord, h, tget_filter dflt s.regs p, if_pos hp]

/-- Registers are taken over from a table by a rule that leaves the word. -/
theorem KeepsWord.of_takeOver {p : Key → Bool} {src : Table} (h : t.regs = takeOver p s.regs src) (hp : p k = false) :
    KeepsWord k s t := by
  rw [KeepsWord, h, tget_takeOver_other _ _ hp]

end KeepsWord
end Sys2Proof.Machine
end

section
/-! A request that passes the common checks, by what the object's own part answers (R335). -/
namespace Sys2Proof.Machine

section Passed
variable {s t : State} {rq : Req} {hw : HostWrite} {own : State → Status × State} {st : Status}

theorem passed_judged (hp : s.passes rq hw = true) (ho : own s.stir = (st, t)) : s.stir.judgeWrite rq hw own = (st, t) :=
  (judgeWrite_passes own ((stir_passes s rq hw).trans hp)).trans ho

theorem passed_replied (hp : s.passes rq hw = true) (ho : own s.stir = (st, t)) (hf : st ≠ .forwarded) :
    (s.request rq hw own).replied hw.addr st := request_replied (alive_of_passes hp) (passed_judged hp ho) hf

/-- Settling, count and answer come after what the object's own part leaves. -/
theorem passed_within (hp : s.passes rq hw = true) (ho : own s.stir = (st, t)) : Within Parts.judged t (s.request rq hw own) :=
  request_judged_within (alive_of_passes hp) (passed_judged hp ho)

end Passed
end Sys2Proof.Machine
end

section
/-! Requests for a mode (R28–R34). -/
namespace Sys2Proof.Machine

/-- The word of `SY_MODE` in which MODE, TARGET, PHASE, CAUSE and LAST_REFUSED stand. -/
def modeKey : Key := ⟨0x1020, 0, 1⟩

section ModeWord
variable {s t : State}

theorem KeepsWord.mode (h : KeepsWord modeKey s t) : t.mode = s.mode := KeepsWord.fld (f := F.SY_MODE_MODE) (e := 0) h

theorem KeepsWord.phase (h : KeepsWord modeKey s t) : t.phase = s.phase := KeepsWord.fld (f := F.SY_MODE_PHASE) (e := 0) h

theorem KeepsWord.target (h : KeepsWord modeKey s t) : t.fld F.SY_MODE_TARGET 0 = s.fld F.SY_MODE_TARGET 0 := h.fld

theorem KeepsWord.cause (h : KeepsWord modeKey s t) : t.fld F.SY_MODE_CAUSE 0 = s.fld F.SY_MODE_CAUSE 0 := h.fld

theorem KeepsWord.lastRefused (h : KeepsWord modeKey s t) :
    t.fld F.SY_MODE_LAST_REFUSED 0 = s.fld F.SY_MODE_LAST_REFUSED 0 := h.fld

end ModeWord

/-! ### Entering a mode -/

/-- `SY_MODE` as a mode is entered (R29). -/
def State.modeEntered (s : State) (m phase cause : Nat) : State :=
  (((s.setFld F.SY_MODE_MODE 0 m).setFld F.SY_MODE_TARGET 0 m).setFld F.SY_MODE_PHASE 0 phase).setFld F.SY_MODE_CAUSE 0 cause

theorem enterMode_keepsEntered (s : State) (m phase cause : Nat) :
    KeepsWord modeKey (s.modeEntered m phase cause) (s.enterMode m phase cause) := by
  unfold State.enterMode
  extract_lets s1 s2 s3 s4
  have h3 : KeepsWord modeKey (s.modeEntered m phase cause) s3 := rfl
  have h4 : KeepsWord modeKey (s.modeEntered m phase cause) s4 := .ite (h3.step (stopWork_within _) rfl) h3
  exact (h4.step (fitRefs_within _) rfl).step (refreshClaim_within _) rfl

section ModeEntered
variable (s : State) (m phase cause : Nat)

theorem modeEntered_mode : (s.modeEntered m phase cause).mode = m % 2 ^ 4 := by
  simp (disch := decide) only [State.mode, State.modeEntered, fld_setFld_apart, fld_setFld_fits]

theorem modeEntered_target : (s.modeEntered m phase cause).fld F.SY_MODE_TARGET 0 = m % 2 ^ 4 := by
  simp (disch := decide) only [State.modeEntered, fld_setFld_apart, fld_setFld_fits]

theorem modeEntered_phase : (s.modeEntered m phase cause).phase = phase % 2 ^ 4 := by
  simp (disch := decide) only [State.phase, State.modeEntered, fld_setFld_apart, fld_setFld_fits]

theorem modeEntered_cause : (s.modeEntered m phase cause).fld F.SY_MODE_CAUSE 0 = cause % 2 ^ 4 := by
  simp (disch := decide) only [State.modeEntered, fld_setFld_fits]

end ModeEntered

/-! ### Entering SAFE and LOAD (R31–R33) -/

theorem installSaved_keepsMode (s : State) (t : Table) : KeepsWord modeKey s (s.installSaved t) :=
  .of_takeOver (p := savedLive) (src := t) rfl (by decide)

theorem showKept_keepsMode (s : State) : KeepsWord modeKey s s.showKept :=
  .ite .refl (.of_takeOver (p := swapped) rfl (by decide))

theorem rollbackFw_keepsMode (s : State) (cause : Nat) : KeepsWord modeKey s (s.rollbackFw cause) := by
  unfold State.rollbackFw
  extract_lets h left new old installed attested named ident cleared saved
  have hi : KeepsWord modeKey s installed := by
    unfold installed
    split
    · exact installSaved_keepsMode ..
    · exact .refl
  have ha : KeepsWord modeKey s attested := (hi.step (attestAll_within ..) rfl).step (attestAll_within ..) rfl
  have hn : KeepsWord modeKey s named := (ha.step (setFld_within ..) rfl).step (setFld_within ..) rfl
  have hd : KeepsWord modeKey s ident := (hn.step (setFld_within ..) rfl).step (setWide_within ..) rfl
  have hc : KeepsWord modeKey s cleared := (hd.step (withFw_within ..) rfl).step (setFld_within ..) rfl
  have hs : KeepsWord modeKey s saved := .ite (hc.step (setFld_within ..) rfl) hc
  exact (hs.step (note_within ..) rfl).step (setFw_within ..) rfl

theorem enterSafe_keepsEntered (s : State) (cause : Nat) :
    KeepsWord modeKey (s.modeEntered SAFE phSETTLED cause) (s.enterSafe cause) := by
  unfold State.enterSafe
  extract_lets entered updated stopped kept
  have he : KeepsWord modeKey (s.modeEntered SAFE phSETTLED cause) entered := enterMode_keepsEntered ..
  have hu : KeepsWord modeKey (s.modeEntered SAFE phSETTLED cause) updated :=
    .ite (he.trans (rollbackFw_keepsMode ..)) (he.step (dropUpdate_within _) rfl)
  have hs : KeepsWord modeKey (s.modeEntered SAFE phSETTLED cause) stopped :=
    .foldl ((hu.step (resetMasters_within ..) rfl).step (runCrossbar_within _) rfl) fun a d => .of_within (setFld_within ..) rfl
  have hk : KeepsWord modeKey (s.modeEntered SAFE phSETTLED cause) kept :=
    ((((hs.step (withSys_within ..) rfl).step (stopCopies_within _) rfl).step (learnSave_within _) rfl).step
      (dropCode_within _) rfl).trans (showKept_keepsMode _)
  exact hk.step (refreshClaim_within _) rfl

/-- SAFE is entered at once, settled (R31–R33). -/
theorem askMode_safe (s : State) : KeepsWord modeKey (s.modeEntered SAFE phSETTLED causeHOST) (s.askMode SAFE) :=
  enterSafe_keepsEntered ..

/-- LOAD is entered at once, and runs (R33). -/
theorem askMode_load (s : State) : KeepsWord modeKey (s.modeEntered LOAD phRUNNING causeHOST) (s.askMode LOAD) := by
  unfold State.askMode
  rw [if_neg (by decide), if_pos rfl]
  exact ((enterMode_keepsEntered ..).step (withSys_within ..) rfl).step (releaseDomains_within _) rfl

/-! ### A transition begins (R32, R34) -/

theorem beginMode_mode (s : State) (goal : Nat) : (s.beginMode goal).mode = s.mode := by
  change ((s.setFld F.SY_MODE_PHASE 0 phRUNNING).setFld F.SY_MODE_TARGET 0 goal).fld F.SY_MODE_MODE 0 = _
  simp (disch := decide) only [fld_setFld_apart, State.mode]

theorem beginMode_phase (s : State) (goal : Nat) : (s.beginMode goal).phase = phRUNNING := by
  change ((s.setFld F.SY_MODE_PHASE 0 phRUNNING).setFld F.SY_MODE_TARGET 0 goal).fld F.SY_MODE_PHASE 0 = _
  simp (disch := decide) only [fld_setFld_apart, fld_setFld_fits]
  rfl

theorem beginMode_target (s : State) (goal : Nat) : (s.beginMode goal).fld F.SY_MODE_TARGET 0 = goal % 16 :=
  fld_setFld_same _ F.SY_MODE_TARGET 0 goal (by decide)

theorem dropBuffers_keepsMode (s : State) : KeepsWord modeKey s s.dropBuffers :=
  .of_filter (p := fun k => !lostInHold k) rfl (by decide)

theorem beginHold_keepsMode (s : State) : KeepsWord modeKey s s.beginHold := by
  unfold State.beginHold
  extract_lets flushed
  have hf : KeepsWord modeKey s flushed := .ite (.of_within (startGen_within _) rfl) .refl
  have hw : KeepsWord modeKey s flushed.dropUpdate.stopWork.stopCopies :=
    ((hf.step (dropUpdate_within _) rfl).step (stopWork_within _) rfl).step (stopCopies_within _) rfl
  have hd : KeepsWord modeKey s flushed.dropUpdate.stopWork.stopCopies.sleepChannels.holdDomains :=
    (hw.step (sleepChannels_within _) rfl).step (holdDomains_within _) rfl
  exact (hd.trans (dropBuffers_keepsMode _)).step (unloadEngines_within _) rfl

/-- A transition other than to SAFE and LOAD begins with PHASE and TARGET; what follows leaves `SY_MODE`. -/
theorem askMode_begins (s : State) {goal : Nat} (hs : goal ≠ SAFE) (hl : goal ≠ LOAD) :
    KeepsWord modeKey (s.beginMode goal) (s.askMode goal) := by
  unfold State.askMode
  rw [if_neg hs, if_neg hl]
  extract_lets m begun trained
  refine .ite (beginHold_keepsMode _) (.ite ?_ .refl)
  have ht : KeepsWord modeKey begun trained := .foldl .refl fun a c => .ite (.of_within (setChanState_within ..) rfl) .refl
  exact ht.step (releaseDomains_within _) rfl

/-- A request refused leaves MODE and PHASE, and says in LAST_REFUSED what was asked for (R30). -/
theorem refuseMode_lastRefused (s : State) (rq : Req) (goal : Nat) :
    KeepsWord modeKey (s.setFld F.SY_MODE_LAST_REFUSED 0 goal) (s.refuseMode rq goal).2 := .of_within (note_within ..) rfl

/-! ### The request -/

theorem stir_keepsMode (s : State) : KeepsWord modeKey s s.stir := .of_within (stir_within s) rfl

/-- The wake of HOLD changes nothing on which R32 rests. -/
theorem stir_modeLegal (s : State) (goal : Nat) : s.stir.modeLegal goal = s.modeLegal goal := by
  unfold State.stir
  split <;> rfl

/-- MAINTAIN may ask for any mode; other classes only for STANDBY and ACTIVE, each in the other (R30). -/
def mayAsk (rq : Req) (s : State) (goal : Nat) : Prop :=
  rq.cls = .maintain ∨ (goal = STANDBY ∧ s.mode = ACTIVE) ∨ (goal = ACTIVE ∧ s.mode = STANDBY)

theorem putMode_judged {rq : Req} {s : State} {v : W} (hc : mayAsk rq s v.toNat) :
    (putMode rq v).2 s = if s.modeLegal v.toNat then (.ok, s.askMode v.toNat) else s.refuseMode rq v.toNat := by
  have hr : (!((v.toNat == STANDBY && s.mode == ACTIVE) || (v.toNat == ACTIVE && s.mode == STANDBY)) && rq.cls != .maintain) = false := by
    rcases hc with hc | ⟨hg, hm⟩ | ⟨hg, hm⟩ <;> simp [*]
  simp only [putMode]
  rw [hr]
  rfl

section Asked
variable {rq : Req} {s : State} {v : W}

theorem mayAsk_stir (hc : mayAsk rq s v.toNat) : mayAsk rq s.stir v.toNat := by
  unfold mayAsk at *
  rwa [stir_mode]

/-- A legal request is answered OK, and leaves `SY_MODE` as carrying it out does. -/
theorem modeRequest_legal (hp : s.passes rq (putMode rq v).1 = true) (hc : mayAsk rq s v.toNat) (hl : s.modeLegal v.toNat = true) :
    let t := s.request rq (putMode rq v).1 (putMode rq v).2
    KeepsWord modeKey (s.stir.askMode v.toNat) t ∧ t.replied ⟨0x1020, 2, 0⟩ .ok := by
  have ho : (putMode rq v).2 s.stir = (.ok, s.stir.askMode v.toNat) := by
    rw [putMode_judged (mayAsk_stir hc), stir_modeLegal, hl, if_pos rfl]
  exact ⟨.of_within (passed_within hp ho) rfl, passed_replied hp ho (by decide)⟩

/-- One that R32 does not allow is answered TRANSITION: MODE and PHASE stay. -/
theorem modeRequest_refused (hp : s.passes rq (putMode rq v).1 = true) (hc : mayAsk rq s v.toNat)
    (hl : s.modeLegal v.toNat = false) :
    let t := s.request rq (putMode rq v).1 (putMode rq v).2
    t.mode = s.mode ∧ t.phase = s.phase ∧ t.fld F.SY_MODE_LAST_REFUSED 0 = v.toNat % 256 ∧
      t.replied ⟨0x1020, 2, 0⟩ .transition := by
  have ho : (putMode rq v).2 s.stir = (.transition, (s.stir.refuseMode rq v.toNat).2) := by
    rw [putMode_judged (mayAsk_stir hc), stir_modeLegal, hl, if_neg Bool.false_ne_true]
    rfl
  have hk : KeepsWord modeKey (s.stir.setFld F.SY_MODE_LAST_REFUSED 0 v.toNat) (s.request rq (putMode rq v).1 (putMode rq v).2) :=
    (refuseMode_lastRefused ..).step (passed_within hp ho) rfl
  have hm : (s.stir.setFld F.SY_MODE_LAST_REFUSED 0 v.toNat).mode = s.stir.mode := fld_setFld_apart _ _ _ _ (by decide)
  have hph : (s.stir.setFld F.SY_MODE_LAST_REFUSED 0 v.toNat).phase = s.stir.phase := fld_setFld_apart _ _ _ _ (by decide)
  refine ⟨(hk.mode.trans hm).trans (stir_mode s), (hk.phase.trans hph).trans (stir_keepsMode s).phase, ?_,
    passed_replied hp ho (by decide)⟩
  exact hk.lastRefused.trans (fld_setFld_fits _ _ _ (by decide))

theorem requestSafe_entered (hp : s.passes rq (putMode rq 0).1 = true) (hc : rq.cls = .maintain) (hl : s.modeLegal SAFE = true) :
    let t := s.request rq (putMode rq 0).1 (putMode rq 0).2
    t.mode = SAFE ∧ t.phase = phSETTLED ∧ t.fld F.SY_MODE_CAUSE 0 = causeHOST ∧ t.replied ⟨0x1020, 2, 0⟩ .ok := by
  obtain ⟨hk, hr⟩ := modeRequest_legal hp (.inl hc) hl
  have hs := (askMode_safe s.stir).trans hk
  exact ⟨hs.mode.trans (modeEntered_mode ..), hs.phase.trans (modeEntered_phase ..), hs.cause.trans (modeEntered_cause ..), hr⟩

theorem requestLoad_entered (hp : s.passes rq (putMode rq 1).1 = true) (hc : rq.cls = .maintain) (hl : s.modeLegal LOAD = true) :
    let t := s.request rq (putMode rq 1).1 (putMode rq 1).2
    t.mode = LOAD ∧ t.phase = phRUNNING ∧ t.fld F.SY_MODE_TARGET 0 = LOAD ∧ t.replied ⟨0x1020, 2, 0⟩ .ok := by
  obtain ⟨hk, hr⟩ := modeRequest_legal hp (.inl hc) hl
  have hs := (askMode_load s.stir).trans hk
  exact ⟨hs.mode.trans (modeEntered_mode ..), hs.phase.trans (modeEntered_phase ..), hs.target.trans (modeEntered_target ..), hr⟩

/-- A transition to another mode runs, and MODE stays meanwhile. -/
theorem modeRequest_begins (hp : s.passes rq (putMode rq v).1 = true) (hc : mayAsk rq s v.toNat) (hl : s.modeLegal v.toNat = true)
    (hs : v.toNat ≠ SAFE) (hn : v.toNat ≠ LOAD) :
    let t := s.request rq (putMode rq v).1 (putMode rq v).2
    t.mode = s.mode ∧ t.phase = phRUNNING ∧ t.fld F.SY_MODE_TARGET 0 = v.toNat % 16 ∧ t.replied ⟨0x1020, 2, 0⟩ .ok := by
  obtain ⟨hk, hr⟩ := modeRequest_legal hp hc hl
  have hb := (askMode_begins s.stir hs hn).trans hk
  exact ⟨(hb.mode.trans (beginMode_mode ..)).trans (stir_mode s), hb.phase.trans (beginMode_phase ..),
    hb.target.trans (beginMode_target ..), hr⟩

end Asked

/-- Settles O1: a request that passes is judged by class and by R32, and what carries it out writes `SY_MODE` once. -/
theorem hostModeRequestsAreCarriedOut : Obligations.HostModeRequestsAreCarriedOut := by
  unfold Obligations.HostModeRequestsAreCarriedOut
  refine ⟨?safe, ?load, ?standby, ?active, ?hold, ?service⟩
  case safe => exact fun rq s => ⟨_, rfl, requestSafe_entered⟩
  case load => exact fun rq s => ⟨_, rfl, requestLoad_entered, fun hp hc hl => modeRequest_refused hp (.inl hc) hl⟩
  case standby =>
    have asked (rq : Req) (s : State) (hc : rq.cls = .maintain ∨ s.mode = ACTIVE) : mayAsk rq s STANDBY :=
      hc.imp_right fun h => .inl ⟨rfl, h⟩
    exact fun rq s => ⟨_, rfl, fun hp hc hl => modeRequest_begins hp (asked rq s hc) hl (by decide) (by decide),
      fun hp hc hl => modeRequest_refused hp (asked rq s hc) hl⟩
  case active =>
    have asked (rq : Req) (s : State) (hc : rq.cls = .maintain ∨ s.mode = STANDBY) : mayAsk rq s ACTIVE :=
      hc.imp_right fun h => .inr ⟨rfl, h⟩
    exact fun rq s => ⟨_, rfl, fun hp hc hl => modeRequest_begins hp (asked rq s hc) hl (by decide) (by decide),
      fun hp hc hl => modeRequest_refused hp (asked rq s hc) hl⟩
  case hold =>
    exact fun rq s => ⟨_, rfl, fun hp hc hl => modeRequest_begins hp (.inl hc) hl (by decide) (by decide),
      fun hp hc hl => modeRequest_refused hp (.inl hc) hl⟩
  case service =>
    exact fun rq s => ⟨_, rfl, fun hp hc hl => modeRequest_begins hp (.inl hc) hl (by decide) (by decide),
      fun hp hc hl => modeRequest_refused hp (.inl hc) hl⟩

end Sys2Proof.Machine
end

section
/-! Supplies, temperature, monitors, paces and droops (R441–R450). -/
namespace Sys2Proof.Machine

/-! ### Supplies (R441, R442) -/

theorem supplySeen_seen (s : State) {c : Nat} (hc : c < 6) :
    (s.supplySeen c).fld F.PW_SUPPLY_SEEN 0 = s.fld F.PW_SUPPLY_SEEN 0 ||| 2 ^ c :=
  fld_setFld_of_lt s 0 _ (by decide) (Nat.or_lt_two_pow (fld_lt s 0 F.PW_SUPPLY_SEEN) (Nat.pow_lt_pow_right (by decide) hc))

theorem supplyLow_seen (s : State) {c : Nat} (mv us : Nat) (h2 : 2 ≤ c) (h6 : c < 6) :
    (s.supplyLow c mv us).fld F.PW_SUPPLY_SEEN 0 = s.fld F.PW_SUPPLY_SEEN 0 ||| 2 ^ c := by
  unfold State.supplyLow
  rw [if_neg (by omega), (note_within ..).fld_eq rfl, supplySeen_seen s h6]

theorem coreDip_below (s : State) {c : Nat} (hc : c < 6) :
    (s.coreDip c true).fld F.PW_SUPPLY_NOW 0 = s.fld F.PW_SUPPLY_NOW 0 ||| 2 ^ c ∧
      (s.coreDip c true).fld F.PW_SUPPLY_SEEN 0 = s.fld F.PW_SUPPLY_SEEN 0 ||| 2 ^ c := by
  have hn : s.fld F.PW_SUPPLY_NOW 0 ||| 2 ^ c < 2 ^ 6 :=
    Nat.or_lt_two_pow (fld_lt s 0 F.PW_SUPPLY_NOW) (Nat.pow_lt_pow_right (by decide) hc)
  simp only [State.coreDip, if_neg (Nat.not_le.2 hc), if_true]
  constructor
  · rw [State.supplySeen, fld_setFld_apart _ _ _ _ (by decide), fld_setFld_of_lt _ _ _ (by decide) hn]
  · rw [supplySeen_seen _ hc, fld_setFld_apart _ _ _ _ (by decide)]

/-- A bit taken out of a number is clear. -/
theorem clearBit_div_mod (n c : Nat) : (if n / 2 ^ c % 2 = 1 then n - 2 ^ c else n) / 2 ^ c % 2 = 0 := by
  split
  next hb =>
    have hd := Nat.sub_mul_div n (2 ^ c) 1
    rw [Nat.mul_one] at hd
    omega
  next hb => omega

theorem clearBit_le (n c : Nat) : (if n / 2 ^ c % 2 = 1 then n - 2 ^ c else n) ≤ n := by
  split
  · exact Nat.sub_le ..
  · exact le_rfl

theorem coreDip_above (s : State) {c : Nat} (hc : c < 6) :
    (s.coreDip c false).fld F.PW_SUPPLY_NOW 0 / 2 ^ c % 2 = 0 ∧
      (s.coreDip c false).fld F.PW_SUPPLY_SEEN 0 = s.fld F.PW_SUPPLY_SEEN 0 := by
  simp only [State.coreDip, if_neg (Nat.not_le.2 hc), Bool.false_eq_true, if_false]
  constructor
  · rw [fld_setFld_of_lt _ _ _ (by decide) (lt_of_le_of_lt (clearBit_le ..) (fld_lt s 0 F.PW_SUPPLY_NOW))]
    exact clearBit_div_mod ..
  · exact fld_setFld_apart _ _ _ _ (by decide)

/-! ### Temperature (R443) -/

section Warn
variable {s : State} {d tj : Nat}

theorem thermalWarn_disarms (hd : d < s.dies) (ha : s.pw.warnArmed = true) (ht : s.fld F.PW_THERM_THRESHOLD 0 ≤ tj) :
    (s.thermalWarn d tj).pw.warnArmed = false := by
  simp only [State.thermalWarn, if_neg (Nat.not_le.2 hd), ha, ht, decide_true, Bool.and_self, if_true]
  exact congrArg PowerState.warnArmed (((notify_within ..).agrees.pw rfl).trans ((raise_within ..).agrees.pw rfl))

theorem thermalWarn_rearms (hd : d < s.dies) (ht : tj + 5 ≤ s.fld F.PW_THERM_THRESHOLD 0) :
    (s.thermalWarn d tj).pw.warnArmed = true := by
  have hn : ¬ s.fld F.PW_THERM_THRESHOLD 0 ≤ tj := by omega
  simp only [State.thermalWarn, if_neg (Nat.not_le.2 hd), hn, decide_false, Bool.and_false, Bool.false_eq_true, if_false, ht, if_true]
  rfl

theorem thermalWarn_between
    (h : s.dies ≤ d ∨ (tj < s.fld F.PW_THERM_THRESHOLD 0 ∧ s.fld F.PW_THERM_THRESHOLD 0 < tj + 5)) : s.thermalWarn d tj = s := by
  unfold State.thermalWarn
  extract_lets t
  rcases h with h | ⟨hlo, hhi⟩
  · rw [if_pos h]
  · have hn : ¬ t ≤ tj := by omega
    have hr : ¬ tj + 5 ≤ t := by omega
    simp [hn, hr]

end Warn

/-! ### Monitors and paces (R444–R446) -/

theorem monitorFail_reads {s : State} {e value : Nat} (hm : s.monWorks e = true) (hv : value < 65536) :
    (s.monitorFail e value).fld F.PW_MON_STATUS e = 1 ∧ (s.monitorFail e value).fld F.PW_MON_VALUE e = value := by
  simp only [State.monitorFail, hm, if_true]
  constructor
  · exact ((raise_within ..).fld_eq rfl e).trans (fld_setNotify_same _ e 1 (by decide) rfl)
  · rw [(raise_within ..).fld_eq rfl, fld_setNotify_apart _ _ _ _ (by decide) rfl, fld_setFld_of_lt _ _ _ (by decide) hv]

theorem pace_figures {s : State} {x : PaceReading} (hd : x.die < s.dies) :
    (s.pace x).fld F.PW_PACE_LOAD x.die = x.load % 2 ^ 8 ∧ (s.pace x).fld F.PW_PACE_CONFIG x.die = x.config % 2 ^ 16 := by
  simp (disch := decide) only [State.pace, if_neg (Nat.not_le.2 hd), fld_setFld_apart, fld_setFld_fits, and_self]

theorem paceUpdate_one (s : State) (readings : List (Nat × Nat)) (x : PaceReading) :
    ∃ r : State, r.caps = s.caps ∧ s.paceUpdate readings [x] = r.pace x := by
  unfold State.paceUpdate
  extract_lets read means now
  have hr : Within Parts.reading s read := .foldl .refl fun t x h => h.step (reading_within ..) rfl
  have hn : Within (0x8840 :: Parts.reading) s now := by
    clear_value means
    unfold now
    split
    · exact hr.mono rfl
    · exact (hr.mono rfl).step (setFld_within ..) rfl
  exact ⟨now, hn.caps, rfl⟩

theorem paceUpdate_figures {s : State} {l : List PaceReading} {x : PaceReading} (readings : List (Nat × Nat)) (hl : l = [x])
    (hd : x.die < s.dies) (hload : x.load < 256) (hconf : x.config < 65536) :
    (s.paceUpdate readings l).fld F.PW_PACE_LOAD x.die = x.load ∧
      (s.paceUpdate readings l).fld F.PW_PACE_CONFIG x.die = x.config := by
  subst hl
  obtain ⟨r, hc, hr⟩ := paceUpdate_one s readings x
  obtain ⟨hl, hg⟩ := pace_figures (s := r) (x := x) (by rwa [State.dies, hc])
  rw [hr, hl, hg]
  exact ⟨Nat.mod_eq_of_lt hload, Nat.mod_eq_of_lt hconf⟩

/-! ### Droops (R449, R450) -/

theorem setDroop_same {s : State} {d : Nat} {x : Droop} (hx : s.pw.droop[d]? = some x) (y : Droop) :
    (s.setDroop d y).pw.droop[d]? = some y := by
  obtain ⟨hd, _⟩ := List.getElem?_eq_some_iff.1 hx
  simp [State.setDroop, State.withPw, hd]

theorem droopStart_begins {s : State} {d : Nat} {x : Droop} (hx : s.pw.droop[d]? = some x) (ha : x.active = false) :
    (s.droopStart d).pw.droop[d]? = some { x with active := true, since := s.now } := by
  simp only [State.droopStart, hx, ha, Bool.false_eq_true, if_false]
  exact setDroop_same hx _

theorem droopStart_idle {s : State} {d : Nat} (h : ((s.pw.droop[d]?).map (·.active)).getD true = true) : s.droopStart d = s := by
  unfold State.droopStart
  split
  next x hx => simp_all
  next => rfl

theorem droopEnd_idle {s : State} {d : Nat} (depth ns margin lanes : Nat)
    (h : ((s.pw.droop[d]?).map (·.active)).getD false = false) : s.droopEnd d depth ns margin lanes = s := by
  unfold State.droopEnd
  split
  next => rfl
  next x hx => simp_all

section DroopEnd
variable {s : State} {d : Nat} {x : Droop} (depth ns margin lanes : Nat)

/-- The registers of a droop as its end counts it, ahead of its records. -/
def State.droopCounted (s : State) (d depth ns short left : Nat) (x : Droop) : State :=
  let s := s.setDroop d ⟨false, x.since, s.now, short⟩
  let s := s.setFld F.PW_DROOP_MINS d (min depth (s.fld F.PW_DROOP_MINS d))
  let s := s.setFld F.PW_DROOP_MINLEAD d (min ((left + nsUnits / 2) / nsUnits) (s.fld F.PW_DROOP_MINLEAD d))
  let s := s.setFld F.PW_DROOP_LONGEST d (max (min (ns / 10) 65535) (s.fld F.PW_DROOP_LONGEST d))
  s.bump F.PW_DROOP_DROOPS d 1

/-- The records of a droop's end: transmit lanes that ran out of lead, and a deep droop (R449, R450). -/
def State.droopRecorded (s : State) (d depth ns lanes full left : Nat) : State :=
  let s := if left = 0 then (s.bump F.PW_DROOP_LOSSES d 1).raise 0x8804 d d lanes ns else s
  if depth < 500 ∨ left * 2 < full then s.raise 0x8803 d d depth ns else s

theorem droopEnd_eq (hx : s.pw.droop[d]? = some x) (ha : x.active = true) :
    let full := s.fld F.IC_TX_LEAD_LEAD d * sheetUnits
    let short := x.drained full depth ns margin
    s.droopEnd d depth ns margin lanes =
      (s.droopCounted d depth ns short (full - short) x).droopRecorded d depth ns lanes full (full - short) := by
  unfold State.droopEnd
  rw [hx]
  exact if_neg (by simp [ha])

theorem droopCounted_figures (short left : Nat) (hx : s.pw.droop[d]? = some x) :
    let t := s.droopCounted d depth ns short left x
    t.pw.droop[d]? = some ⟨false, x.since, s.now, short⟩ ∧
      t.fld F.PW_DROOP_MINS d = min depth (s.fld F.PW_DROOP_MINS d) ∧
      t.fld F.PW_DROOP_MINLEAD d = min ((left + nsUnits / 2) / nsUnits) (s.fld F.PW_DROOP_MINLEAD d) ∧
      t.fld F.PW_DROOP_DROOPS d = satAdd (2 ^ F.PW_DROOP_DROOPS.len - 1) (s.fld F.PW_DROOP_DROOPS d) 1 := by
  have hs (f : Fld) : (s.setDroop d ⟨false, x.since, s.now, short⟩).fld f d = s.fld f d := rfl
  refine ⟨setDroop_same hx _, ?mins, ?minlead, ?droops⟩
  case mins =>
    simp (disch := decide) only [State.droopCounted, fld_bump_apart, fld_setFld_apart]
    exact fld_setFld_of_lt _ _ _ (by decide) (min_fld_lt ..)
  case minlead =>
    simp (disch := decide) only [State.droopCounted, fld_bump_apart, fld_setFld_apart, hs]
    exact fld_setFld_of_lt _ _ _ (by decide) (min_fld_lt s d _ F.PW_DROOP_MINLEAD)
  case droops => simp (disch := decide) only [State.droopCounted, fld_bump_same, fld_setFld_apart, hs]

theorem droopRecorded_pw (s : State) (d depth ns lanes full left : Nat) : (s.droopRecorded d depth ns lanes full left).pw = s.pw := by
  unfold State.droopRecorded
  extract_lets lost
  have hl : lost.pw = s.pw := by
    unfold lost
    split
    · exact (raise_within ..).agrees.pw rfl
    · rfl
  split
  · exact ((raise_within ..).agrees.pw rfl).trans hl
  · exact hl

/-- The records leave every figure of the droop but LOSSES. -/
theorem droopRecorded_fld (s : State) (d depth ns lanes full left : Nat) {f : Fld} (hf : f.apart F.PW_DROOP_LOSSES = true)
    (hr : takesIn Parts.raise f.ix = false) : (s.droopRecorded d depth ns lanes full left).fld f d = s.fld f d := by
  unfold State.droopRecorded
  extract_lets lost
  have hl : lost.fld f d = s.fld f d := by
    unfold lost
    split
    · exact ((raise_within ..).fld_eq hr d).trans (fld_bump_apart _ _ _ _ hf)
    · rfl
  split
  · exact ((raise_within ..).fld_eq hr d).trans hl
  · exact hl

theorem droopEnd_figures (hx : s.pw.droop[d]? = some x) (ha : x.active = true) :
    let full := s.fld F.IC_TX_LEAD_LEAD d * sheetUnits
    let t := s.droopEnd d depth ns margin lanes
    t.pw.droop[d]? = some ⟨false, x.since, s.now, x.drained full depth ns margin⟩ ∧
      t.fld F.PW_DROOP_MINS d = min depth (s.fld F.PW_DROOP_MINS d) ∧
      t.fld F.PW_DROOP_MINLEAD d =
        min ((full - x.drained full depth ns margin + nsUnits / 2) / nsUnits) (s.fld F.PW_DROOP_MINLEAD d) ∧
      t.fld F.PW_DROOP_DROOPS d = satAdd (2 ^ F.PW_DROOP_DROOPS.len - 1) (s.fld F.PW_DROOP_DROOPS d) 1 := by
  intro full t
  obtain ⟨hd, hm, hl, hn⟩ :=
    droopCounted_figures depth ns (x.drained full depth ns margin) (full - x.drained full depth ns margin) hx
  unfold t
  rw [droopEnd_eq depth ns margin lanes hx ha]
  exact ⟨(congrArg (·.droop[d]?) (droopRecorded_pw ..)).trans hd, (droopRecorded_fld _ _ _ _ _ _ _ (by decide) rfl).trans hm,
    (droopRecorded_fld _ _ _ _ _ _ _ (by decide) rfl).trans hl, (droopRecorded_fld _ _ _ _ _ _ _ (by decide) rfl).trans hn⟩

end DroopEnd

/-- Settles O38, command by command: each writes its own figures, and the record it makes leaves them. -/
theorem healthIsWatched : Obligations.HealthIsWatched := by
  unfold Obligations.HealthIsWatched
  refine ⟨?supplyLow, ?coreDip, ?thermalWarn, ?monitorFail, ?paceUpdate, ?droopStart, ?droopEnd⟩
  case supplyLow => exact fun c mv us s => ⟨_, rfl, supplyLow_seen s mv us, fun h => if_pos h⟩
  case coreDip =>
    exact fun c below s => ⟨_, rfl, fun hc hb => hb ▸ coreDip_below s hc, fun hc hb => hb ▸ coreDip_above s hc, fun h => if_pos h⟩
  case thermalWarn => exact fun d tj s => ⟨_, rfl, thermalWarn_disarms, thermalWarn_rearms, thermalWarn_between⟩
  case monitorFail =>
    exact fun e value s => ⟨_, rfl, monitorFail_reads, fun h => if_neg (by simp [h])⟩
  case paceUpdate => exact fun readings l x s => ⟨_, rfl, paceUpdate_figures readings⟩
  case droopStart => exact fun d x s => ⟨_, rfl, droopStart_begins, droopStart_idle⟩
  case droopEnd =>
    exact fun d depth ns margin lanes x s =>
      ⟨_, rfl, droopEnd_figures depth ns margin lanes, droopEnd_idle depth ns margin lanes⟩

end Sys2Proof.Machine
end

section
/-! What a package reset leaves, and requests while no mast answers (R24, R29, R251, R341, R393, R417). -/
namespace Sys2Proof.Machine

/-- Settles O58: where the mast does not run, a request changes nothing. -/
theorem nothingAnswersWithoutAMast : Obligations.NothingAnswersWithoutAMast := by
  intro rq a w v s h
  refine ⟨?_, ?_, ?_⟩
  · exact congrArg (fun t => Host.Outcome.next t.settleIsolated) (request_silent h ..)
  · exact congrArg (fun t => Host.Outcome.next t.settleIsolated) (request_silent h ..)
  · exact congrArg (fun t => Host.Outcome.next t.settleIsolated) (request_silent h ..)

/-- Settles O49: `SY_ROLE` alone stands in the reset table, and `SY_MODE` reads its default. -/
theorem resetStandsInSafe : Obligations.ResetStandsInSafe := by
  intro k
  refine ⟨by decide, by decide, rfl, by decide, rfl, fun hk => ?_⟩
  exact if_neg hk

end Sys2Proof.Machine
end

section
/-! What a transmit lane sends (R31, R42, R43, R49, R64, R199). -/
namespace Sys2Proof.Machine

/-! ### Headers and their check (R42, R45, R49) -/

theorem getBits_ofNat (m : Nat) {lo len : Nat} (h : lo + len ≤ 64) : getBits (BitVec.ofNat 64 m) lo len = m / 2 ^ lo % 2 ^ len := by
  apply Nat.eq_of_testBit_eq
  intro i
  rw [testBit_getBits, BitVec.getLsbD_ofNat, Nat.testBit_mod_two_pow, Nat.testBit_div_two_pow]
  by_cases hi : i < len
  · have h64 : i + lo < 64 := by omega
    simp [hi, h64, Nat.add_comm lo i]
  · simp [hi]

theorem crc12Bit_lt (r : Nat) (b : Bool) : crc12Bit r b < 4096 := by
  have hr : r * 2 % 4096 < 2 ^ 12 := Nat.mod_lt _ (by decide)
  unfold crc12Bit
  extract_lets top r'
  split
  · exact Nat.xor_lt_two_pow (n := 12) hr (by decide)
  · exact hr

theorem foldl_crc12_lt (l : List Bool) {r : Nat} (hr : r < 4096) : l.foldl crc12Bit r < 4096 := by
  induction l generalizing r with
  | nil => exact hr
  | cons b l ih => exact ih (crc12Bit_lt r b)

theorem hdrCheck_lt (w : W) : hdrCheck w < 4096 := foldl_crc12_lt _ (by decide)

/-- The check looks at bits 63:12 alone. -/
theorem hdrCheck_putBits (w : W) (v : Nat) : hdrCheck (putBits w 0 12 v) = hdrCheck w := by
  have hs : putBits w 0 12 v >>> 12 = w >>> 12 := by
    apply BitVec.eq_of_getLsbD_eq
    intro i _
    rw [BitVec.getLsbD_ushiftRight, BitVec.getLsbD_ushiftRight, getLsbD_putBits, if_neg (by omega)]
  unfold hdrCheck
  rw [hs]

theorem hdrOk_withCheck (n : Nat) : hdrOk (withCheck n) = true := by
  unfold hdrOk withCheck Fld.put
  rw [getBits_putBits_same _ _ (by decide), hdrCheck_putBits, beq_iff_eq]
  exact Nat.mod_eq_of_lt (hdrCheck_lt _)

/-- A field above the check reads what the header was made of. -/
theorem getBits_withCheck (n : Nat) {lo len : Nat} (hlo : 12 ≤ lo) (h : lo + len ≤ 64) :
    getBits (withCheck n) lo len = n / 2 ^ (lo - 12) % 2 ^ len := by
  have hp : 2 ^ lo = 2 ^ 12 * 2 ^ (lo - 12) := by rw [← Nat.pow_add]; congr 1; omega
  unfold withCheck Fld.put
  rw [getBits_putBits_other _ _ (.inr hlo), getBits_ofNat _ h, hp, ← Nat.div_div_eq_div_mul, Nat.mul_div_cancel _ (by decide)]

theorem flag_lt (b : Bool) : flag b < 2 := by cases b <;> decide

theorem sheetHeader_fields (claim ty bank die lane n : Nat) (spare : Bool) :
    let h := sheetHeader claim ty bank die lane spare n
    hdrClaim h = claim % 2 ^ 16 ∧ hdrType h = ty % 4 ∧ hdrBank h = bank % 2 ∧ hdrDie h = die % 8 ∧ hdrLane h = lane % 64 ∧
      getBits h 35 1 = flag spare ∧ hdrSheet h = n % 2 ^ 23 := by
  have hf := flag_lt spare
  simp only [hdrClaim, hdrType, hdrBank, hdrDie, hdrLane, hdrSheet, sheetHeader]
  refine ⟨?_, ?_, ?_, ?_, ?_, ?_, ?_⟩ <;>
    (rw [getBits_withCheck _ (by decide) (by decide)]; norm_num; omega)

theorem hdrSpare_sheetHeader (claim ty bank die lane n : Nat) (spare : Bool) :
    hdrSpare (sheetHeader claim ty bank die lane spare n) = spare := by
  obtain ⟨-, -, -, -, -, hs, -⟩ := sheetHeader_fields claim ty bank die lane n spare
  unfold hdrSpare
  rw [hs]
  cases spare <;> rfl

theorem efFlags_num_lt (x : EfFlags) : x.num < 2 ^ 6 := by
  have h1 := flag_lt x.f2
  have h2 := flag_lt x.last
  have h3 := flag_lt x.rpt
  have h4 := flag_lt x.lerr
  have h5 := flag_lt x.conc
  unfold EfFlags.num
  omega

theorem frameHeader_fields (tag kind line count fmt : Nat) (flags : EfFlags) :
    let h := frameHeader tag kind line count fmt flags
    efTag h = tag % 2 ^ 14 ∧ efKind h = kind % 8 ∧ efLine h = line % 2 ^ 13 ∧ efCount h = count % 2 ^ 8 ∧
      efFormat h = fmt % 2 ^ 8 := by
  have hf := efFlags_num_lt flags
  simp only [efTag, efKind, efLine, efCount, efFormat, frameHeader]
  refine ⟨?_, ?_, ?_, ?_, ?_⟩ <;>
    (rw [getBits_withCheck _ (by decide) (by decide)]; norm_num; omega)

theorem getBits_mod (w : W) (lo len : Nat) : getBits w lo len % 2 ^ len = getBits w lo len := Nat.mod_mod ..

/-- In a destination's stream a frame has the destination's TAG and FORMAT, and keeps KIND, LINE and FCOUNT (R64). -/
theorem retagged_fields (port h : W) :
    hdrOk (retagged port h) = true ∧ efTag (retagged port h) = pTag port ∧ efFormat (retagged port h) = pFormat port ∧
      efKind (retagged port h) = efKind h ∧ efLine (retagged port h) = efLine h ∧ efCount (retagged port h) = efCount h := by
  obtain ⟨ht, hk, hl, hc, hf⟩ :=
    frameHeader_fields (pTag port) (efKind h) (efLine h) (efCount h) (pFormat port) (efFlags h)
  exact ⟨hdrOk_withCheck _, ht.trans (getBits_mod port 24 14), hf.trans (getBits_mod ..), hk.trans (getBits_mod ..),
    hl.trans (getBits_mod ..), hc.trans (getBits_mod ..)⟩

/-! ### Sheets of a transmit lane (R31, R42, R43) -/

theorem hdrType_of_txHeader {s : State} {e n : Nat} {h : W} (hx : s.txHeader e n = some h) :
    ∃ ty, s.sheetType e n = some ty ∧ hdrType h = ty % 4 ∧ (ty = tyIDLE → hdrClaim h = 0) := by
  unfold State.txHeader at hx
  obtain ⟨ty, ht, rfl⟩ := Option.map_eq_some_iff.1 hx
  refine ⟨ty, ht, (sheetHeader_fields ..).2.1, fun hi => ?_⟩
  rw [(sheetHeader_fields ..).1, if_pos hi]
  rfl

theorem sheetType_hold {s : State} (hm : s.mode = HOLD) (e n : Nat) : s.sheetType e n = none := by
  unfold State.sheetType
  rw [if_pos (by simp [hm])]

theorem sheetType_service {s : State} (hm : s.mode = SERVICE) {e n ty : Nat} (h : s.sheetType e n = some ty) : ty = tyTEST := by
  unfold State.sheetType at h
  split at h
  · cases h
  · rw [if_pos (.inl hm)] at h
    exact (Option.some.inj h).symm

theorem sheetType_idle {s : State} (hm : s.mode = SAFE ∨ s.mode = LOAD) {e n ty : Nat} (h : s.sheetType e n = some ty) :
    ty = tyTEST ∨ ty = tyIDLE := by
  unfold State.sheetType at h
  split at h
  · cases h
  split at h
  · exact .inl (Option.some.inj h).symm
  · rw [if_pos (by tauto)] at h
    exact .inr (Option.some.inj h).symm

theorem sheetType_lt {s : State} {e n ty : Nat} (h : s.sheetType e n = some ty) : ty < 4 := by
  unfold State.sheetType at h
  split at h
  · cases h
  · split at h
    · cases h; decide
    · split at h
      · cases h; decide
      · split at h <;> cases h <;> decide

/-! ### Scrambled bits (R199) -/

theorem descramble_scramble (r : BitVec 58) (l : List Bool) : descramble r (scramble r l) = l := by
  induction l generalizing r with
  | nil => rfl
  | cons d l ih =>
    simp only [scramble, descramble, ih, Bool.xor_assoc, Bool.xor_self, Bool.xor_false]

/-- Two registers hold the same last `k` bits. -/
def agreeOn (k : Nat) (q r : BitVec 58) : Prop := ∀ i < k, q.getLsbD i = r.getLsbD i

theorem eq_of_agreeOn {k : Nat} {q r : BitVec 58} (h : agreeOn k q r) (hk : 58 ≤ k) : q = r :=
  BitVec.eq_of_getLsbD_eq fun i hi => h i (by omega)

/-- The same bit shifted in is one more bit that two registers share. -/
theorem agreeOn_shiftIn {k : Nat} {q r : BitVec 58} (b : Bool) (h : agreeOn k q r) :
    agreeOn (k + 1) (shiftIn q b) (shiftIn r b) := by
  intro i hi
  unfold shiftIn
  rw [BitVec.getLsbD_or, BitVec.getLsbD_or, BitVec.getLsbD_shiftLeft, BitVec.getLsbD_shiftLeft]
  by_cases h1 : i < 1
  · simp [h1]
  · rw [h (i - 1) (by omega)]

/-- A receiver whose register shares `k` bits with the transmitter's reads what follows the next `58 - k`. -/
theorem descramble_agreeOn (l : List Bool) {k : Nat} {q r : BitVec 58} (h : agreeOn k q r) :
    (descramble q (scramble r l)).drop (58 - k) = l.drop (58 - k) := by
  induction l generalizing k q r with
  | nil => rfl
  | cons d l ih =>
    by_cases hk : 58 ≤ k
    · rw [eq_of_agreeOn h hk, descramble_scramble]
    · have hs : 58 - k = 58 - (k + 1) + 1 := by omega
      rw [hs]
      exact ih (agreeOn_shiftIn _ h)

/-- Settles O60: headers field by field, sheet types by the mode, scrambling by the registers' common bits. -/
theorem lanesSendCheckedHeadersAndScrambledBits : Obligations.LanesSendCheckedHeadersAndScrambledBits := by
  unfold Obligations.LanesSendCheckedHeadersAndScrambledBits
  refine ⟨?sheet, ?frame, ?hold, ?service, ?safe, ?idle, descramble_scramble, ?resync⟩
  case sheet =>
    intro claim ty bank die lane n spare hc ht hb hd hl hn
    obtain ⟨h1, h2, h3, h4, h5, -, h7⟩ := sheetHeader_fields claim ty bank die lane n spare
    rw [h1, h2, h3, h4, h5, h7, hdrSpare_sheetHeader, Nat.mod_eq_of_lt ht, Nat.mod_eq_of_lt hb, Nat.mod_eq_of_lt hd, Nat.mod_eq_of_lt hl]
    exact ⟨hdrOk_withCheck _, Nat.mod_eq_of_lt hc, rfl, rfl, rfl, rfl, rfl, Nat.mod_eq_of_lt hn⟩
  case frame => exact retagged_fields
  case hold =>
    intro e n s hm
    have ht := sheetType_hold hm e n
    exact ⟨ht, by rw [State.txHeader, ht]; rfl⟩
  case service =>
    intro e n s hm h hx
    obtain ⟨ty, ht, hty, -⟩ := hdrType_of_txHeader hx
    rw [hty, sheetType_service hm ht]
    rfl
  case safe =>
    intro e n s hm h hx
    obtain ⟨ty, ht, hty, -⟩ := hdrType_of_txHeader hx
    rw [hty]
    rcases sheetType_idle hm ht with rfl | rfl <;> decide
  case idle =>
    intro e n h s hx hi
    obtain ⟨ty, ht, hty, hc⟩ := hdrType_of_txHeader hx
    exact hc (by rw [← Nat.mod_eq_of_lt (sheetType_lt ht), ← hty, hi])
  case resync => exact fun r q l => descramble_agreeOn l (k := 0) fun i hi => absurd hi (Nat.not_lt_zero i)

end Sys2Proof.Machine
end

section
/-! The always-on clock and the sessions: what records, faults, references and the end of works leave of them. -/
namespace Sys2Proof.Machine

/-- From `s` to `t` no time passes, and no session opens or closes. -/
structure Steady (s t : State) : Prop where
  count : t.clk.count = s.clk.count
  hlag  : t.clk.hlag = s.clk.hlag
  closed : t.host.sessions.map Option.isNone = s.host.sessions.map Option.isNone

/-- The parts `l` hold neither the clock nor the sessions. -/
def sparesSteady (l : List Part) : Bool := !takesIn l Part.clk && !takesIn l Part.host

section Steady
variable {s t u : State}

theorem Steady.refl : Steady s s := ⟨rfl, rfl, rfl⟩

theorem Steady.trans (h : Steady s t) (g : Steady t u) : Steady s u :=
  ⟨g.count.trans h.count, g.hlag.trans h.hlag, g.closed.trans h.closed⟩

theorem Steady.of_within {l : List Part} (h : Within l s t) (m : sparesSteady l = true) : Steady s t := by
  simp only [sparesSteady, Bool.and_eq_true, Bool.not_eq_true'] at m
  obtain ⟨hc, hh⟩ := m
  exact ⟨by rw [h.agrees.clk hc], by rw [h.agrees.clk hc], by rw [h.agrees.host hh]⟩

/-- One more operation, on parts that hold neither. -/
theorem Steady.step {l : List Part} (h : Steady s t) (g : Within l t u) (m : sparesSteady l = true) : Steady s u :=
  h.trans (.of_within g m)

theorem Steady.ite {c : Prop} [Decidable c] (ht : Steady s t) (hu : Steady s u) : Steady s (if c then t else u) := by
  split <;> assumption

theorem Steady.foldl {α : Type} {f : State → α → State} {xs : List α} (ht : Steady s t) (hf : ∀ a x, Steady a (f a x)) :
    Steady s (xs.foldl f t) := by
  induction xs generalizing t with
  | nil => exact ht
  | cons x xs ih => exact ih (ht.trans (hf t x))

theorem Steady.allClosed (h : Steady s t) (hs : s.host.sessions.all Option.isNone = true) :
    t.host.sessions.all Option.isNone = true := by
  have all_eq (l : List (Option Session)) : l.all Option.isNone = (l.map Option.isNone).all id := by rw [List.all_map]; rfl
  rw [all_eq, h.closed, ← all_eq, hs]

end Steady

/-! ### Notifications, records and faults -/

theorem notifySub_steady (s : State) (ix sub e : Nat) : Steady s (s.notifySub ix sub e) := by
  unfold State.notifySub
  split
  · exact .refl
  · extract_lets data ss ps drops queued
    have hq : Steady s queued := by
      refine ⟨rfl, rfl, ?_⟩
      change ((s.host.sessions.map _).map _).map _ = _
      rw [List.map_map, List.map_map]
      exact List.map_congr_left fun x _ => by cases x <;> rfl
    exact .ite hq (hq.step (bump_within ..) rfl)

theorem notify_steady (s : State) (ix e : Nat) : Steady s (s.notify ix e) := notifySub_steady ..

theorem setFld_steady (s : State) (f : Fld) (e v : Nat) : Steady s (s.setFld f e v) := ⟨rfl, rfl, rfl⟩

theorem setNotify_steady (s : State) (f : Fld) (e v : Nat) : Steady s (s.setNotify f e v) :=
  .ite .refl ((setFld_steady ..).trans (notify_steady ..))

theorem emergency_steady (s : State) (r : Rec) : Steady s (s.emergency r) := ⟨rfl, rfl, rfl⟩

theorem writeRec_steady (s : State) (n : NewRec) : Steady s (s.writeRec n).1 := by
  unfold State.writeRec
  extract_lets +onlyGivenNames -merge merge
  clear_value merge
  split
  · split
    · exact .refl
    · extract_lets +onlyGivenNames -merge r merged
      have hm : Steady s merged := .of_within (withEv_within ..) rfl
      exact .ite ((hm.step (withEv_within ..) rfl).trans (emergency_steady ..)) hm
  · extract_lets +onlyGivenNames -merge seq r clk counted stored
    have hs : Steady s stored := .trans (t := counted) ⟨rfl, rfl, rfl⟩ (.of_within (store_within ..) rfl)
    exact .ite (hs.trans (emergency_steady ..)) hs

theorem tellRecord_steady (s : State) (f : FaultRun) : Steady s (s.tellRecord f) := by
  unfold State.tellRecord
  split
  · exact notify_steady ..
  · exact .refl

theorem isolateDie_steady (s : State) (d code seq : Nat) (handed : Bool) : Steady s (s.isolateDie d code seq handed) := by
  unfold State.isolateDie
  extract_lets q s1 s2 s3 s4 w f s5
  have h3 : Steady s s3 := ((Steady.of_within (withMgr_within ..) rfl).step (bump_within ..) rfl).step (withSys_within ..) rfl
  have h4 : Steady s s4 := ((h3.step (setFld_within ..) rfl).step (relays_within _) rfl).trans (notify_steady ..)
  have hw : Steady s w.1 := h4.trans (writeRec_steady ..)
  have h5 : Steady s s5 := (hw.step (withMgr_within ..) rfl).trans (tellRecord_steady ..)
  exact .ite .refl (h5.step (driveFault_within _) rfl)

theorem raiseSeq_steady (s : State) (code : Nat) (l : Level) (die p1 p2 p3 : Nat) (byHandler : Bool) :
    Steady s (s.raiseSeq code l die p1 p2 p3 byHandler).1 := by
  unfold State.raiseSeq
  extract_lets u l1 m t l2 esc old w told written f accepted toldOf counted merged out isolated driven
  have hw : Steady s written := writeRec_steady ..
  have ha : Steady s accepted := hw.step (withMgr_within ..) rfl
  have ht : Steady s toldOf := .ite (ha.trans (tellRecord_steady ..)) ha
  have hc : Steady s counted := .ite (ht.step (bump_within ..) rfl) ht
  have hm : Steady s merged := .ite (hc.step (bump_within ..) rfl) hc
  have ho : Steady s out := .ite (hm.step (takeOut_within ..) rfl) hm
  have hi : Steady s isolated := .ite (ho.trans (isolateDie_steady ..)) ho
  have hd : Steady s driven := hi.step (driveFault_within _) rfl
  exact .ite hd (hd.trans (notify_steady ..))

theorem raise_steady (s : State) (code die p1 p2 p3 : Nat) : Steady s (s.raise code die p1 p2 p3) := raiseSeq_steady ..

theorem note_steady (s : State) (code p1 p2 p3 : Nat) : Steady s (s.note code p1 p2 p3) := raise_steady ..

/-! ### Works and sources that isolated dies held (R74, R86, R393) -/

theorem alignFail_steady (s : State) (p st code p2 : Nat) : Steady s (s.alignFail p st code p2) := by
  unfold State.alignFail
  extract_lets x x' s1
  have h1 : Steady s s1 := (Steady.of_within (setSrc_within ..) rfl).trans (setNotify_steady ..)
  exact .ite .refl (h1.trans (raise_steady ..))

theorem sourceLost_steady (s : State) (p : Nat) : Steady s (s.sourceLost p) := .ite .refl (alignFail_steady ..)

theorem setOutcome_steady (s : State) (x : Work) (st n : Nat) : Steady s (s.setOutcome x st n) := by
  unfold State.setOutcome
  extract_lets worded
  have hw : Steady s worded := by
    unfold worded
    cases x.kind <;> exact ⟨rfl, rfl, rfl⟩
  refine .ite hw ?_
  cases x.kind
  case salvo => exact hw
  all_goals exact hw.trans (notify_steady ..)

theorem openOutcome_steady (s : State) (x : Work) (st : Nat) : Steady s (s.openOutcome x st) :=
  (Steady.of_within (takeFree_within s) rfl).trans (setOutcome_steady ..)

theorem finishAs_steady (s : State) (x : Work) (st : Nat) {out : State → State} (ho : ∀ a, Steady a (out a)) :
    Steady s (s.finishAs x st out) := by
  unfold State.finishAs
  extract_lets ended counted dropped flat unmade
  have he : Steady s ended := (Steady.of_within (dropWork_within ..) rfl).trans (ho _)
  have hc : Steady s counted := he.step (countTake_within ..) rfl
  have hd : Steady s dropped := .ite hc (hc.step (dropImages_within ..) rfl)
  have hf : Steady s flat := .ite (.ite hd (hd.step (setFld_within ..) rfl)) hc
  have hu : Steady s unmade := .ite hf (hf.step (unmake_within ..) rfl)
  exact .ite (hu.trans (raise_steady ..)) (.ite (hu.trans (raise_steady ..)) hu)

theorem finish_steady (s : State) (x : Work) (st n : Nat) : Steady s (s.finish x st n) :=
  finishAs_steady _ _ _ fun _ => setOutcome_steady ..

theorem fail_steady (s : State) (x : Work) (st : Nat) : Steady s (s.fail x st) :=
  .ite (finishAs_steady _ _ _ fun _ => openOutcome_steady ..) (finish_steady ..)

theorem endSalvo_steady (s : State) (n st result culprit : Nat) : Steady s (s.endSalvo n st result culprit) := by
  unfold State.endSalvo
  extract_lets worded told
  have hw : Steady s worded := ⟨rfl, rfl, rfl⟩
  have ht : Steady s told := (hw.step (dropSalvo_within ..) rfl).trans (notify_steady ..)
  exact .ite (ht.trans (note_steady ..)) ht

theorem failSalvo_steady (s : State) (n result : Nat) (own : Work → Option Nat) (rest : Nat) :
    Steady s (s.failSalvo n result own rest) := by
  unfold State.failSalvo
  extract_lets l culprit failed
  exact (Steady.foldl .refl fun a x => fail_steady ..).trans (endSalvo_steady ..)

theorem memberEnded_steady (s : State) (n : Nat) (late : Bool) (bad : Option (Nat × Nat)) :
    Steady s (s.memberEnded n late bad) := by
  unfold State.memberEnded
  extract_lets y counted y' kept
  have hc : Steady s counted := .ite (.of_within (bump_within ..) rfl) .refl
  have hk : Steady s kept := hc.step (setSalvo_within ..) rfl
  refine .ite .refl (.ite ?_ ?_)
  · split
    · exact .ite (hk.step (setFld_within ..) rfl) hk
    · exact hk
  · split <;> exact hk.trans (endSalvo_steady ..)

theorem salvoLost_steady (s : State) (n d : Nat) : Steady s (s.salvoLost n d) :=
  .ite (.foldl .refl fun _ _ => (finish_steady ..).trans (memberEnded_steady ..)) (failSalvo_steady ..)

/-- What isolated dies held ends with no time passed. -/
theorem settleIsolated_steady (s : State) : Steady s s.settleIsolated := by
  unfold State.settleIsolated
  refine .foldl .refl fun a d => ?_
  extract_lets on lost ns ended
  have hl : Steady a lost := .foldl .refl fun b x => .ite .refl (sourceLost_steady ..)
  have he : Steady a ended := .foldl hl fun b n => salvoLost_steady ..
  exact .ite hl (.foldl he fun b x => finish_steady ..)

/-! ### References -/

theorem setQ_steady (s : State) (r q : Nat) : Steady s (s.setQ r q) := setNotify_steady ..

theorem disqualify_steady (s : State) (r cause goal : Nat) : Steady s (s.disqualify r cause goal) := by
  unfold State.disqualify
  extract_lets q s1 s2
  have h1 : Steady s s1 := .of_within (withRef_within ..) rfl
  have h2 : Steady s s2 := .ite ((h1.step (setFld_within ..) rfl).step (bump_within ..) rfl) h1
  exact h2.trans (setQ_steady ..)

theorem refLost_steady (s : State) (r cause : Nat) : Steady s (s.refLost r cause) :=
  have h : Steady s _ := .of_within (withRef_within ..) rfl
  .ite (h.trans (disqualify_steady ..)) h

theorem ptpRestart_steady (s : State) (p : Nat) : Steady s (s.ptpRestart p) :=
  (((Steady.of_within (withPtp_within ..) rfl).trans (refLost_steady ..)).step (setGm_within ..) rfl).trans (setNotify_steady ..)

theorem beginQualify_steady (s : State) (r : Nat) : Steady s (s.beginQualify r) :=
  .ite ((Steady.of_within (withRef_within ..) rfl).trans (setQ_steady ..))
    ((Steady.of_within (withRef_within ..) rfl).trans (setQ_steady ..))

theorem refEnable_steady (s : State) (r : Nat) (on : Bool) : Steady s (s.refEnable r on) := by
  unfold State.refEnable
  extract_lets fresh queued off
  have hf : Steady s fresh := .of_within (withRef_within ..) rfl
  have hq : Steady s queued :=
    .ite (hf.trans (setQ_steady ..)) (.ite (hf.trans (setQ_steady ..)) (hf.trans (beginQualify_steady ..)))
  have ho : Steady s off := ((Steady.of_within (endSplit_within ..) rfl).step (withRef_within ..) rfl).trans (setQ_steady ..)
  exact .ite (.ite (hq.trans (ptpRestart_steady ..)) hq) (.ite (ho.trans (ptpRestart_steady ..)) ho)

end Sys2Proof.Machine
end

section
/-! Power and package reset (R252, R399, R417, R464). -/
namespace Sys2Proof.Machine

/-- Nothing of the crosspoint, of the composition or of a stream is in progress, and no session is open. -/
structure AtRest (s : State) : Prop where
  work : s.xp.work = []
  salvos : s.xp.salvos = []
  runs : s.cm.runs = []
  streams : s.ap.streams = []
  closed : s.host.sessions.all Option.isNone = true

/-- The parts `l` hold neither work nor heads nor streams. -/
def sparesRest (l : List Part) : Bool := !takesIn l Part.xp && !takesIn l Part.cm && !takesIn l Part.ap

theorem AtRest.step {l : List Part} {s t : State} (h : AtRest s) (g : Within l s t) (m : sparesRest l = true) (st : Steady s t) :
    AtRest t := by
  simp only [sparesRest, Bool.and_eq_true, Bool.not_eq_true'] at m
  obtain ⟨⟨hx, hc⟩, ha⟩ := m
  exact ⟨by rw [g.agrees.xp hx, h.work], by rw [g.agrees.xp hx, h.salvos], by rw [g.agrees.cm hc, h.runs],
    by rw [g.agrees.ap ha, h.streams], st.allClosed h.closed⟩

/-! ### The parts that a package reset clears -/

theorem resetParts_rest (s : State) (bad : List Nat) (mast : Option Nat) :
    AtRest (s.resetParts bad mast) ∧ tget dflt (s.resetParts bad mast).regs modeKey = dflt modeKey := by
  unfold State.resetParts
  extract_lets +onlyGivenNames -merge tables booted kept half gpi host ev lk ic mm cleared halves fw tm pw sys failed shown
  have hr : AtRest cleared := ⟨rfl, rfl, rfl, rfl, rfl⟩
  have hw : tget dflt cleared.regs modeKey = dflt modeKey := by
    refine (tget_tmerge_other dflt tables kept modeKey fun x hx e => ?_).trans ?_
    · obtain ⟨-, hl⟩ := List.mem_filter.1 hx
      rw [e] at hl
      exact absurd hl (by decide)
    · exact (tget_filter dflt booted.regs (fun k => keptByReset k && !learned k) modeKey).trans (if_neg (by decide))
  clear_value cleared
  have hs : Within [Part.fw, Part.tm, Part.pw, Part.sys] cleared sys :=
    ((((withFw_within ..).mono rfl).step (withTm_within ..) rfl).step (withPw_within ..) rfl).step (withSys_within ..) rfl
  have hf : Within [Part.fw, Part.tm, Part.pw, Part.sys, 0x8818, 0x8008] cleared shown :=
    .foldl (hs.mono rfl) fun a e ha => ha.step (setFld_within ..) rfl
  have hl := (hf.step (setFld_within _ F.FW_STATE_RUNHALF 0 half) rfl).step (setFld_within _ F.FW_STATE_BOOTHALF 0 half) rfl
  exact ⟨hr.step hl rfl (.of_within hl rfl), (hl.agrees.word modeKey rfl).trans hw⟩

/-! ### What follows: records, references, addresses -/

theorem relays_steady (s : State) : Steady s s.relays := .of_within (relays_within s) rfl

theorem resetRecords_steady (s : State) (bad : List Nat) (trial : Bool) (left : Nat) :
    Steady s (s.resetRecords bad trial left) := by
  unfold State.resetRecords
  extract_lets raised
  have hr : Steady s raised := .foldl .refl fun a d => ((raise_steady ..).trans (setFld_steady ..)).trans (relays_steady _)
  exact .ite (hr.trans (note_steady ..)) hr

theorem restartRefs_steady (s : State) : Steady s s.restartRefs := by
  unfold State.restartRefs
  extract_lets cleared
  have hc : Steady s cleared := (setFld_steady ..).trans (setFld_steady ..)
  exact .foldl hc fun a r => .ite .refl (.ite (refEnable_steady ..) (setQ_steady ..))

theorem loadBus_steady (s : State) : Steady s s.loadBus := ⟨rfl, rfl, rfl⟩

theorem resetCause_lt (s : State) : s.resetCause < 16 := by
  unfold State.resetCause
  split_ifs <;> decide

/-- PACKAGE_RESET ends in SAFE, settled, with its cause, and nothing in progress (R29, R464). -/
theorem packageReset_rest (s : State) (die0 die1 : Bool) (bad : List Nat) :
    (s.packageReset die0 die1 bad).mode = SAFE ∧ (s.packageReset die0 die1 bad).phase = phSETTLED ∧
      (s.packageReset die0 die1 bad).fld F.SY_MODE_CAUSE 0 = s.resetCause ∧ AtRest (s.packageReset die0 die1 bad) := by
  unfold State.packageReset
  extract_lets cause trial left cleared held caused shown unsent hosted first cursors
  obtain ⟨hr, hm⟩ := resetParts_rest s bad (elect die0 die1)
  have hh : Within [0x8810] cleared held := .foldl .refl fun a e ha => ha.step (setFld_within ..) rfl
  have hc : Within [0x8810, 0x1020] cleared caused := (hh.mono rfl).step (setFld_within ..) rfl
  have rc : AtRest caused := hr.step hc rfl (.of_within hc rfl)
  have ws : Within (Parts.resetRecords ++ Parts.restartRefs ++ Parts.loadBus ++ Parts.showSave) caused shown :=
    ((((resetRecords_within ..).mono rfl).step (restartRefs_within _) rfl).step (loadBus_within _) rfl).step (showSave_within _) rfl
  have ss : Steady caused shown :=
    (((resetRecords_steady ..).trans (restartRefs_steady _)).trans (loadBus_steady _)).step (showSave_within _) rfl
  have sh : Steady shown hosted := ⟨rfl, rfl, rfl⟩
  have wc : Within [Part.host, 0x7820, Part.sys] shown cursors.driveFault :=
    .step (.foldl ((withHost_within ..).mono rfl) fun a c ha => ha.step (setFld_within ..) rfl) (driveFault_within _) rfl
  have sc : Steady shown cursors.driveFault :=
    .step (.foldl sh fun a c => setFld_steady ..) (driveFault_within _) rfl
  have kept : KeepsWord modeKey caused cursors.driveFault := (KeepsWord.of_within ws rfl).step wc rfl
  have modeOf (f : Fld) (hi : f.ix = 0x1020) (hw : f.w = 1) : held.fld f 0 = getBits (dflt modeKey) f.lo f.len := by
    have hk := (hh.agrees.word modeKey rfl).trans hm
    rw [State.fld, State.word, hi, hw]
    exact congrArg (getBits · f.lo f.len) hk
  refine ⟨?_, ?_, ?_, (rc.step ws rfl ss).step wc rfl sc⟩
  · rw [kept.mode, State.mode, show caused = held.setFld F.SY_MODE_CAUSE 0 cause from rfl, fld_setFld_apart (h := by decide),
      modeOf _ rfl rfl]
    rfl
  · rw [kept.phase, State.phase, show caused = held.setFld F.SY_MODE_CAUSE 0 cause from rfl, fld_setFld_apart (h := by decide),
      modeOf _ rfl rfl]
    rfl
  · rw [kept.cause]
    exact fld_setFld_of_lt (f := F.SY_MODE_CAUSE) held 0 _ (h := by decide) (hv := resetCause_lt s)

theorem powerOn_epoch (s : State) (temp : Int) :
    (s.powerOn temp).clk.epoch = match s.newest with | some x => (x.2.epoch + 1) % 65536 | none => 1 := by
  have h : (s.powerOn temp).clk.epoch = match s.newest.map (·.2) with | some x => (x.epoch + 1) % 65536 | none => 1 := rfl
  rw [h]
  cases s.newest <;> rfl

/-- Settles O3: the clock and the reset line are set by the two power events themselves; a package reset clears all that is in
progress, and what it does after that touches neither `SY_MODE` nor works nor sessions. -/
theorem powerAndResetStartAfresh : Obligations.PowerAndResetStartAfresh := by
  refine ⟨fun temp s => ⟨s.powerOn temp, rfl, rfl, rfl, powerOn_epoch s temp, rfl, rfl⟩, fun die0 die1 bad s => ?_,
    fun mirror s => ⟨s.powerLoss mirror, rfl, rfl, rfl, rfl, rfl, rfl, rfl⟩⟩
  obtain ⟨hm, hp, hc, hr⟩ := packageReset_rest s die0 die1 bad
  exact ⟨s.packageReset die0 die1 bad, rfl, hm, hp, hc, hr.work, hr.salvos, hr.runs, hr.streams, hr.closed⟩

end Sys2Proof.Machine
end

section
/-! Two waits that do not reach the instant they are for: a counter that stands still, and house time that is slewing back (R251, R276). -/
namespace Sys2Proof.Machine

/-! ### The one-second window of lane errors, with a counter that does not count -/

theorem waitCount_stopped {s : State} (h : s.tickStep = 0) (t : Nat) : (s.waitCount t).clk.count = s.clk.count := by
  simp only [State.waitCount, State.ticks, h, Nat.mul_zero, Nat.add_zero]

/-- What a second of lane errors does once its end has come takes no time. -/
theorem errorSecond_count (s : State) :
    s.errorSecond.clk.count = (s.waitCount ((s.clk.count / secUnits + 1) * secUnits)).clk.count := by
  unfold State.errorSecond
  extract_lets waited limit l lk cleared
  exact Steady.count (s := cleared) (.foldl .refl fun a x => (raise_steady ..).trans (notify_steady ..))

/-- The timebase steered so far down that a tick adds nothing to the counter. -/
def stoppedState : State := { State.reset with clk := { State.reset.clk with frac := -17179869184 } }

/-- Refutes O6: with FRAC at −2³⁴ a tick adds 0 to the counter, so a second that ends leaves the counter where it was. -/
theorem not_sheetsAndFramesAreCounted : ¬ Obligations.SheetsAndFramesAreCounted := by
  unfold Obligations.SheetsAndFramesAreCounted
  rintro ⟨-, -, -, -, -, hsecond⟩
  obtain ⟨t, he, -, hlt⟩ := hsecond stoppedState
  have hu : stoppedState.errorSecond.settleIsolated = t.settleIsolated := Host.Outcome.next.inj he
  have hc : t.clk.count = stoppedState.clk.count := by
    rw [← (settleIsolated_steady t).count, ← hu, (settleIsolated_steady _).count, errorSecond_count, waitCount_stopped (by decide)]
  exact absurd hlt (by rw [hc]; exact Nat.lt_irrefl _)

/-! ### The end of a transition's wait, with house time slewing back -/

/-- A transition by zero crossing that waits on the old signal until house sample 48,000. -/
def waitingTrans : Trans := ⟨mkRef rCHAN 0 1, 0, 47900, 100, 0, 0, none, none⟩

def waitingChan : Chan := ⟨3, 0, [waitingTrans], 0, 0, 64, 0, [], 0, [], [], 0, false, 0, false, 0⟩

/-- ACTIVE, and H slewing back towards the counter, which it leads by 1 ms. -/
def slewingState : State :=
  let s := { State.reset with clk := { State.reset.clk with hlag := ms 1 } }
  let s := (s.setFld F.SY_MODE_MODE 0 ACTIVE).setFld F.TM_STATE_SLEWING 0 1
  { s with au := { s.au with chans := [waitingChan] } }

/-- The wait is counted in ticks of the counter; H, slewing back, falls short of the sample. -/
theorem slewing_falls_short : (slewingState.transTimeout 3).house < sampleStart 48000 := by decide +kernel

theorem Steady.house {s t : State} (h : Steady s t) : t.house = s.house := by rw [State.house, h.count, h.hlag]; rfl

/-- Refutes O15: a transition's wait that ends while house time slews back (R276) ends before its sample begins. -/
theorem not_theAudioCrosspointTakesItsWrites : ¬ Obligations.TheAudioCrosspointTakesItsWrites := by
  unfold Obligations.TheAudioCrosspointTakesItsWrites
  rintro ⟨-, -, -, -, -, htimeout⟩
  obtain ⟨t, he, hwait, -⟩ := htimeout 3 waitingChan waitingTrans slewingState
  have hu : (slewingState.whileRunning (·.transTimeout 3)).settleIsolated = t.settleIsolated := Host.Outcome.next.inj he
  have hr : slewingState.enginesRun = true := by decide +kernel
  obtain ⟨-, hstart⟩ := hwait hr rfl rfl
  have hh : t.house = (slewingState.transTimeout 3).house := by
    rw [← (settleIsolated_steady t).house, ← hu, (settleIsolated_steady _).house, State.whileRunning, if_pos hr]
  exact absurd (hh ▸ hstart) (Nat.not_le.2 slewing_falls_short)

end Sys2Proof.Machine
end

section
/-! House samples, streams of the audio ports and rate converters (R114, R153, R154, R158–R161). -/
namespace Sys2Proof.Machine

/-- A view of the state that every step of a fold keeps is kept by the fold. -/
theorem foldl_keeps {α β : Type} {view : State → β} {f : State → α → State} (hf : ∀ a x, view (f a x) = view a) (s : State)
    (xs : List α) : view (xs.foldl f s) = view s := by
  induction xs generalizing s with
  | nil => rfl
  | cons x xs ih => exact (ih _).trans (hf s x)

/-! ### A house sample -/

theorem nextSample_advances (s : State) : s.au.sample < s.nextSample.au.sample := by
  unfold State.nextSample
  extract_lets waited
  have hw : waited.au = s.au := (waitHouse_within ..).agrees.au rfl
  rw [← hw]
  exact Nat.lt_of_lt_of_le (Nat.lt_succ_self _) (Nat.le_max_left ..)

theorem chanSample_keeps_sample (s : State) (vals : List (Nat × Int)) (status : List (Nat × Nat)) (n : Nat) (c : Chan) :
    (s.chanSample vals status n c).au.sample = s.au.sample := by
  unfold State.chanSample
  extract_lets keep mute r base data g d die c' ended saturated
  have he : ended.au = s.au := by
    refine foldl_keeps (view := State.au) ?_ s _
    exact fun _ _ => rfl
  have hs : saturated.au = s.au := by
    unfold saturated
    split <;> exact he
  have hv : saturated.au.sample = s.au.sample := congrArg AuState.sample hs
  split <;> exact hv

theorem crossSample_au (s : State) (vals : List (Nat × Int)) (status : List (Nat × Nat)) :
    (s.crossSample vals status).au.sample = s.nextSample.au.sample ∧ (s.crossSample vals status).au.last = vals := by
  unfold State.crossSample
  extract_lets framed marked sampled
  have hm : marked.au = s.nextSample.au :=
    ((markNpcm_within ..).agrees.au rfl).trans ((takeFrames_within ..).agrees.au rfl)
  have hs : sampled.au.sample = marked.au.sample :=
    foldl_keeps (view := fun s => s.au.sample) (fun a c => chanSample_keeps_sample a vals status _ c) marked _
  exact ⟨hs.trans (congrArg AuState.sample hm), rfl⟩

theorem audioSample_au (s : State) (vals : List (Nat × Int)) (status codeErr : List (Nat × Nat)) :
    (s.audioSample vals status codeErr).au = (s.crossSample vals status).au := by
  unfold State.audioSample
  extract_lets crossed used marked faded
  have hm : Within [0x3060, Part.ap] crossed faded :=
    .foldl (.foldl .refl fun a e ha => ha.step (asrcMark_within ..) rfl) fun a x ha => ha.step (asrcSample_within ..) rfl
  have hl : Within [0x3060, Part.ap, 0x3068] crossed ((faded.matchLines used).codeErrors codeErr).streamFades :=
    (((hm.mono rfl).step (matchLines_within ..) rfl).step (codeErrors_within ..) rfl).step (streamFades_within _) rfl
  exact hl.agrees.au rfl

theorem audioSample_taken (s : State) (vals : List (Nat × Int)) (status codeErr : List (Nat × Nat)) :
    let t := s.whileRunning (·.audioSample vals status codeErr)
    (s.enginesRun = true → s.au.sample < t.au.sample ∧ t.au.last = vals) ∧ (s.enginesRun = false → t = s) := by
  refine ⟨fun hr => ?_, fun hr => by simp [State.whileRunning, hr]⟩
  obtain ⟨hs, hl⟩ := crossSample_au s vals status
  rw [State.whileRunning, if_pos hr, audioSample_au, hs]
  exact ⟨nextSample_advances s, hl⟩

/-! ### Streams -/

theorem stream_id {s : State} {q : Nat} {tx : Bool} {x : Stream} (h : s.stream q tx = some x) : x.id = streamId q tx :=
  beq_iff_eq.1 (List.find?_some (p := fun y : Stream => y.id == streamId q tx) h)

theorem stream_setStream {s : State} {q : Nat} {tx : Bool} {x : Stream} (h : x.id = streamId q tx) :
    (s.setStream x).stream q tx = some x := by
  simp [State.stream, State.setStream, h]

/-- The state of a direction is a field of 4 bits of word 0 of `AU_PORT_STAT`, in bits 63:56. -/
theorem apField_word (tx : Bool) :
    (apField tx).fitsWord = true ∧ (apField tx).ix = 0x3068 ∧ (apField tx).len = 4 ∧
      ∀ g : Fld, (g.w != 0 || decide (g.lo + g.len ≤ 56)) = true → g.apart (apField tx) = true := by
  refine ⟨by cases tx <;> rfl, by cases tx <;> rfl, by cases tx <;> rfl, fun g h => ?_⟩
  have hf : (apField tx).w = 0 ∧ 56 ≤ (apField tx).lo := by cases tx <;> exact ⟨rfl, by decide⟩
  simp only [Bool.or_eq_true, bne_iff_ne, decide_eq_true_eq] at h
  simp only [Fld.apart, hf.1, Bool.or_eq_true, bne_iff_ne, decide_eq_true_eq]
  omega

theorem dirState_setDir (s : State) (q : Nat) (tx : Bool) (n : Nat) : (s.setDir q tx n).dirState q tx = n % 16 := by
  obtain ⟨hf, hi, hl, -⟩ := apField_word tx
  exact (fld_setNotify_same s q n hf (by rw [hi]; rfl)).trans (by simp [hl])

theorem fld_setDir (s : State) (q : Nat) (tx : Bool) (n : Nat) {g : Fld} (hi : takesIn Parts.notify g.ix = false)
    (hg : (g.w != 0 || decide (g.lo + g.len ≤ 56)) = true) (e : Nat) : (s.setDir q tx n).fld g e = s.fld g e := by
  obtain ⟨-, -, -, ha⟩ := apField_word tx
  exact fld_setNotify_apart s q e n (ha g hg) hi

theorem underrun_counted {s : State} {q : Nat} {tx : Bool} {x : Stream} (clock : Bool) (hr : s.dirState q tx = apRUNNING)
    (hc : tx = true ∨ s.dirClock q tx ≠ clkMASTER) (hx : s.stream q tx = some x) :
    (s.underrun q tx clock).dirState q tx = apUNDERRUN ∧ (s.underrun q tx clock).fld F.AU_PORT_STAT_UNDERRUNS q =
      satAdd (2 ^ F.AU_PORT_STAT_UNDERRUNS.len - 1) (s.fld F.AU_PORT_STAT_UNDERRUNS q) 1 := by
  unfold State.underrun
  have hn : ¬ ((s.dirState q tx != apRUNNING || (!tx && s.dirClock q tx == clkMASTER)) = true) := by
    rcases hc with rfl | hc <;> simp [*]
  rw [if_neg hn]
  simp only [hx]
  refine ⟨dirState_setDir .., ?_⟩
  rw [fld_setDir _ _ _ _ rfl rfl]
  split
  · rw [fld_setNotify_apart (h := rfl) (hn := rfl)]
    exact fld_bump_same _ _ _ rfl
  · exact fld_bump_same _ _ _ rfl

theorem underrun_idle {s : State} {q : Nat} {tx : Bool} (clock : Bool)
    (h : s.dirState q tx ≠ apRUNNING ∨ (tx = false ∧ s.dirClock q tx = clkMASTER) ∨ s.stream q tx = none) :
    s.underrun q tx clock = s := by
  unfold State.underrun
  rcases h with h | ⟨htx, hc⟩ | h
  · rw [if_pos (by simp [h])]
  · rw [if_pos (by simp [htx, ← hc])]
  · rw [h]
    exact ite_self _

theorem rejoin_runs {s : State} {q i : Nat} {tx : Bool} {x : Stream} (hx : s.stream q tx = some x) (hl : x.lost = some i) :
    (s.rejoin q tx).dirState q tx = apRUNNING ∧
      (s.rejoin q tx).stream q tx = some { x with lost := none, fade := 0, phase := phaseOf s.house } := by
  unfold State.rejoin
  simp -zeta only [hx, hl]
  extract_lets n joined c clocked
  have hj : joined.dirState q tx = apRUNNING := dirState_setDir ..
  have ha : joined.ap = (s.setStream { x with lost := none, fade := 0, phase := phaseOf s.house }).ap :=
    (setNotify_within _ (apField tx) q apRUNNING).agrees.ap (by rw [(apField_word tx).2.1]; rfl)
  have hc : clocked.dirState q tx = apRUNNING ∧ clocked.ap = joined.ap := by
    unfold clocked
    split
    · obtain ⟨-, hi, -, hg⟩ := apField_word tx
      refine ⟨(fld_setNotify_apart _ q q _ ?_ (by rw [hi]; rfl)).trans hj, (setNotify_within ..).agrees.ap rfl⟩
      cases tx <;> rfl
    · exact ⟨hj, rfl⟩
  have hu : Within Parts.underrunRecord clocked (clocked.underrunRecord q tx i n) := underrunRecord_within ..
  refine ⟨(hu.fld_eq (by rw [(apField_word tx).2.1]; rfl) q).trans hc.1, ?_⟩
  rw [State.stream, hu.agrees.ap rfl, hc.2, ha]
  exact stream_setStream (x := { x with lost := none, fade := 0, phase := phaseOf s.house })
    (show x.id = _ from stream_id hx)

theorem rejoin_idle {s : State} {q : Nat} {tx : Bool} (h : (s.stream q tx).bind (·.lost) = none) : s.rejoin q tx = s := by
  unfold State.rejoin
  cases hx : s.stream q tx with
  | none => rfl
  | some x =>
    rw [hx] at h
    simp only [Option.bind_some] at h
    simp only [h]

theorem phaseSlip_counted {s : State} {q : Nat} {tx : Bool} (again : Bool) (hr : s.dirState q tx = apRUNNING)
    (hc : s.dirClock q tx = clkLOCKED) : (s.phaseSlip q tx again).fld F.AU_PORT_STAT_SLIPS q =
      satAdd (2 ^ F.AU_PORT_STAT_SLIPS.len - 1) (s.fld F.AU_PORT_STAT_SLIPS q) 1 := by
  unfold State.phaseSlip
  rw [if_pos (by simp [hr, hc])]
  extract_lets slipped
  have hs : slipped.fld F.AU_PORT_STAT_SLIPS q = s.fld F.AU_PORT_STAT_SLIPS q := by
    unfold slipped
    split <;> rfl
  rw [(raise_within ..).fld_eq rfl q, fld_bump_same _ _ _ rfl, hs]

theorem phaseSlip_idle {s : State} {q : Nat} {tx : Bool} (again : Bool)
    (h : s.dirState q tx ≠ apRUNNING ∨ s.dirClock q tx ≠ clkLOCKED) : s.phaseSlip q tx again = s :=
  if_neg (by rcases h with h | h <;> simp [h])

theorem unsigned_lt (n : Nat) (v : Int) : unsigned n v < 2 ^ n := by
  have h := Int.emod_lt_of_pos v (b := 2 ^ n) (by positivity)
  have h0 := Int.emod_nonneg v (b := 2 ^ n) (by positivity)
  unfold unsigned
  zify
  rwa [Int.toNat_of_nonneg h0]

theorem sat16_lt (v : Int) : sat16 v < 2 ^ 16 := unsigned_lt 16 _

/-- A second's measurement stands in OFFSET; a clock that was in order leaves 10 ppm, one that was off comes back within them. -/
theorem offrate_measured {s : State} {q : Nat} (off : Int) (hr : s.portRuns q = true) (hc : s.dirClock q false ≠ clkMASTER) :
    (s.offrate q off).fld F.AU_PORT_STAT_OFFSET q = sat16 off ∧
      (1000 < off.natAbs → s.fld F.AU_PORT_STAT_CLKSTATE q = ckOK → (s.offrate q off).fld F.AU_PORT_STAT_CLKSTATE q = ckOFFRATE) ∧
      (off.natAbs ≤ 1000 → s.fld F.AU_PORT_STAT_CLKSTATE q = ckOFFRATE → (s.offrate q off).fld F.AU_PORT_STAT_CLKSTATE q = ckOK) := by
  unfold State.offrate
  rw [if_neg (by simp [hr, hc])]
  extract_lets measured c
  have ho : measured.fld F.AU_PORT_STAT_OFFSET q = sat16 off := fld_setFld_of_lt (f := F.AU_PORT_STAT_OFFSET) s q _ rfl (sat16_lt off)
  have hs (n : Nat) : (measured.setNotify F.AU_PORT_STAT_CLKSTATE q n).fld F.AU_PORT_STAT_OFFSET q = sat16 off :=
    (fld_setNotify_apart (h := rfl) (hn := rfl) ..).trans ho
  have hk : c = s.fld F.AU_PORT_STAT_CLKSTATE q := fld_setFld_apart _ _ _ _ rfl
  refine ⟨?_, fun hb hw => ?_, fun hb hw => ?_⟩
  · split_ifs
    · exact hs _
    · exact ho
    · exact hs _
    · exact ho
  · rw [if_pos hb, if_pos (hk.trans hw)]
    exact fld_setNotify_same _ _ _ rfl rfl
  · rw [if_neg (by omega), if_pos (hk.trans hw)]
    exact fld_setNotify_same _ _ _ rfl rfl

theorem offrate_idle {s : State} {q : Nat} (off : Int) (h : s.portRuns q = false ∨ s.dirClock q false = clkMASTER) :
    s.offrate q off = s := if_pos (by rcases h with h | h <;> simp [h])

/-! ### Rate converters (R158–R161) -/

section AsrcWrite
variable {s : State} {rq : Req} {e : Nat} {v : W}

/-- Another channel is bound to the slot that `v` names. -/
def State.asrcTaken (s : State) (e : Nat) (v : W) : Bool :=
  (s.asrcBound (e / 64)).any fun x => x.1 != e && F.AU_ASRC_PORT.of x.2 == F.AU_ASRC_PORT.of v
    && F.AU_ASRC_DIR.of x.2 == F.AU_ASRC_DIR.of v && F.AU_ASRC_SLOT.of x.2 == F.AU_ASRC_SLOT.of v

/-- How a binding to a port's slot is judged (R158). -/
theorem putAsrc_bind (hk : F.AU_ASRC_KIND.of v = 1) :
    (putAsrc s e v).2 s.stir =
      if F.AU_ASRC_KIND.of (s.word 0x3060 e 0) = 2 then (.busy, s.stir)
      else if s.caps.auport = false then (.absent, s.stir)
      else if s.asrcSlotOk e v = false then (.port, s.stir)
      else if s.asrcTaken e v = true then (.target, s.stir)
      else (.ok, (s.stir.asrcFade e 2 (some (s.stir.asrcWord e))).putWord 0x3060 e 0 v) := by
  have hw : s.stir.word 0x3060 e 0 = s.word 0x3060 e 0 := congrArg (tget dflt · _) (stir_regs s)
  have hs : s.stir.asrcSlotOk e v = s.asrcSlotOk e v := by
    unfold State.stir
    split <;> rfl
  have hb : s.stir.asrcBound (e / 64) = s.asrcBound (e / 64) := by rw [State.asrcBound, stir_regs]; rfl
  simp only [putAsrc, hk, hw, hs, hb, stir_caps, beq_self_eq_true, Bool.true_and, Bool.not_eq_true']
  rfl

theorem asrcWrite_refused {st : Status} (hp : s.passes rq (putAsrc s e v).1 = true) (ho : (putAsrc s e v).2 s.stir = (st, s.stir))
    (hv : st.violation = false) (hf : st ≠ .forwarded) :
    let t := s.request rq (putAsrc s e v).1 (putAsrc s e v).2
    t.word 0x3060 e 0 = s.word 0x3060 e 0 ∧ t.replied ⟨0x3060, 0, e⟩ st :=
  ⟨request_refused_word (alive_of_passes hp) (passed_judged hp ho) hv (k := ⟨0x3060, e, 0⟩)
    (show (0x3060 : Nat) ≠ 0x6048 by decide), passed_replied hp ho hf⟩

theorem asrcWrite_stored (hp : s.passes rq (putAsrc s e v).1 = true) (h2 : F.AU_ASRC_KIND.of (s.word 0x3060 e 0) ≠ 2)
    (hk : F.AU_ASRC_KIND.of v = 1) (hc : s.caps.auport = true) (hs : s.asrcSlotOk e v = true) (ht : s.asrcTaken e v = false) :
    let t := s.request rq (putAsrc s e v).1 (putAsrc s e v).2
    t.word 0x3060 e 0 = v ∧ t.replied ⟨0x3060, 0, e⟩ .ok := by
  have ho := putAsrc_bind (s := s) (e := e) hk
  rw [if_neg h2, if_neg (by simp [hc]), if_neg (by simp [hs]), if_neg (by simp [ht])] at ho
  exact ⟨((passed_within hp ho).word_eq rfl e 0).trans (word_putWord_same _ e 0 v rfl), passed_replied hp ho (by decide)⟩

end AsrcWrite

/-- ASRC_LOCK at the twin that decides, with the ratio tracked. -/
theorem asrcLock_fld {s : State} {e : Nat} {ratio r : Int} (hd : s.fld F.AU_ASRC_KIND e = 2 → s.decides = true)
    (hr : r = if s.fld F.AU_ASRC_KIND e = 2 then (s.captureRatio (s.fld F.AU_ASRC_FSRC e)).getD ratio else ratio)
    (f : Fld) (hf : f.ix = 0x3060) : (s.asrcLock e ratio).fld f e = (s.asrcLocked e r).fld f e := by
  unfold State.asrcLock
  split
  next hk =>
    rw [if_pos hk] at hr
    rw [if_pos (hd hk), (tellTwin_within _).fld_eq (by rw [hf]; rfl), hr]
  next hk => rw [hr, if_neg hk]

theorem asrcLocked_locks {s : State} {e : Nat} {r : Int} (hb : s.asrcRebinds e = false) (hs : s.fld F.AU_ASRC_STATE e = srACQUIRE)
    (hr : ratioOk r = true) :
    (s.asrcLocked e r).fld F.AU_ASRC_STATE e = srLOCKED ∧ (s.asrcLocked e r).fld F.AU_ASRC_RATIO e = unsigned 32 r := by
  unfold State.asrcLocked
  rw [if_neg (by simp [hb, hr]), if_neg (by rw [hs]; decide), if_pos hs]
  refine ⟨fld_setFld_of_lt (f := F.AU_ASRC_STATE) _ e srLOCKED rfl (by decide), ?_⟩
  rw [State.setAsrc, fld_setFld_apart (h := rfl), (asrcFade_within ..).fld_eq rfl]
  exact fld_setFld_of_lt (f := F.AU_ASRC_RATIO) _ e _ rfl (unsigned_lt 32 r)

theorem asrcLocked_acquires {s : State} {e : Nat} {r : Int} (hb : s.asrcRebinds e = false)
    (hs : s.fld F.AU_ASRC_STATE e = srUNLOCKED) (hr : ratioOk r = true) :
    (s.asrcLocked e r).fld F.AU_ASRC_STATE e = srACQUIRE := by
  unfold State.asrcLocked
  rw [if_neg (by simp [hb, hr]), if_pos hs]
  exact fld_setFld_of_lt (f := F.AU_ASRC_STATE) _ e srACQUIRE rfl (by decide)

theorem asrcLocked_out (s : State) (e : Nat) {r : Int} (hr : ratioOk r = false) : s.asrcLocked e r = s := if_pos (by simp [hr])

theorem asrcLock_mirrors {s : State} {e : Nat} (ratio : Int) (hk : s.fld F.AU_ASRC_KIND e = 2) (hd : s.decides = false) :
    s.asrcLock e ratio = s := by
  unfold State.asrcLock
  rw [if_pos hk, if_neg (by simp [hd])]

theorem asrcUnlocked_unlocks {s : State} {e : Nat} (hb : s.asrcRebinds e = false)
    (hs : s.fld F.AU_ASRC_STATE e = srLOCKED ∨ s.fld F.AU_ASRC_STATE e = srACQUIRE) :
    (s.asrcUnlocked e).fld F.AU_ASRC_STATE e = srUNLOCKED := by
  unfold State.asrcUnlocked
  extract_lets st
  rw [if_pos ⟨hs, hb⟩]
  exact fld_setFld_of_lt (f := F.AU_ASRC_STATE) _ e srUNLOCKED rfl (by decide)

theorem asrcUnlock_unlocks {s : State} {e : Nat} (hd : s.fld F.AU_ASRC_KIND e = 2 → s.decides = true)
    (hb : s.asrcRebinds e = false) (hs : s.fld F.AU_ASRC_STATE e = srLOCKED ∨ s.fld F.AU_ASRC_STATE e = srACQUIRE) :
    (s.asrcUnlock e).fld F.AU_ASRC_STATE e = srUNLOCKED := by
  unfold State.asrcUnlock
  split
  next hk => rw [if_pos (hd hk), (tellTwin_within _).fld_eq rfl, asrcUnlocked_unlocks hb hs]
  next => exact asrcUnlocked_unlocks hb hs

theorem asrcUnlock_mirrors {s : State} {e : Nat} (hk : s.fld F.AU_ASRC_KIND e = 2) (hd : s.decides = false) :
    s.asrcUnlock e = s := by
  unfold State.asrcUnlock
  rw [if_pos hk, if_neg (by simp [hd])]

/-- Settles O18, command by command: each writes the field that the statement names last, or leaves it to what follows. -/
theorem streamsSamplesAndConvertersMove : Obligations.StreamsSamplesAndConvertersMove := by
  unfold Obligations.StreamsSamplesAndConvertersMove
  refine ⟨?sample, ?underrun, ?rejoin, ?slip, ?offrate, ?binding, ?lock, ?unlock⟩
  case sample => exact fun vals status code s => ⟨_, rfl, audioSample_taken s vals status code⟩
  case underrun => exact fun q tx clock x s => ⟨_, rfl, underrun_counted clock, underrun_idle clock⟩
  case rejoin => exact fun q i tx x s => ⟨_, rfl, rejoin_runs, rejoin_idle⟩
  case slip => exact fun q tx again s => ⟨_, rfl, phaseSlip_counted again, phaseSlip_idle again⟩
  case offrate => exact fun q off s => ⟨_, rfl, offrate_measured off, offrate_idle off⟩
  case binding =>
    refine fun rq e v s => ⟨_, rfl, fun hp h2 hk ⟨hc, hs, ht⟩ => asrcWrite_stored hp h2 hk hc hs ht, fun hp h2 => ?busy,
      fun hp h2 hk hc => ?absent, fun hp h2 hk hc hs => ?port, fun hp h2 hk hc hs ht => ?target⟩
    case busy =>
      have h2' : F.AU_ASRC_KIND.of (s.stir.word 0x3060 e 0) = 2 := by rwa [State.word, stir_regs]
      exact asrcWrite_refused hp (if_pos h2') rfl (by decide)
    case absent => exact asrcWrite_refused hp (by rw [putAsrc_bind hk, if_neg h2, if_pos hc]) rfl (by decide)
    case port => exact asrcWrite_refused hp (by rw [putAsrc_bind hk, if_neg h2, if_neg (by simp [hc]), if_pos hs]) rfl (by decide)
    case target =>
      exact asrcWrite_refused hp
        (by rw [putAsrc_bind hk, if_neg h2, if_neg (by simp [hc]), if_neg (by simp [hs]),
          if_pos (show s.asrcTaken e v = true from ht)]) rfl (by decide)
  case lock =>
    refine fun e ratio r s => ⟨_, rfl, fun hd hr hb hs ho => ?locks, fun hd hr hb hs ho => ?acquires, fun hd hr ho => ?out,
      asrcLock_mirrors ratio⟩
    case locks => rw [asrcLock_fld hd hr _ rfl, asrcLock_fld hd hr _ rfl]; exact asrcLocked_locks hb hs ho
    case acquires => rw [asrcLock_fld hd hr _ rfl]; exact asrcLocked_acquires hb hs ho
    case out => rw [asrcLock_fld hd hr _ rfl, asrcLocked_out s e ho]
  case unlock => exact fun e s => ⟨_, rfl, asrcUnlock_unlocks, asrcUnlock_mirrors⟩

end Sys2Proof.Machine
end

section
/-! Frames at a media MAC: what they count, and the pause of its transmitter (R217–R222). -/
namespace Sys2Proof.Machine

/-! ### A table's entries beside a word written elsewhere -/

theorem entriesOf_tput_other (t : Table) {k : Key} (v : W) {ix : Nat} (h : k.ix ≠ ix) :
    entriesOf (tput t k v) ix = entriesOf t ix := by
  induction t with
  | nil => simp [entriesOf, tput, h]
  | cons x t ih =>
    obtain ⟨k', v'⟩ := x
    simp only [entriesOf] at ih
    unfold tput
    split
    · simp [entriesOf, h]
    · split
      next hk => simp [entriesOf, h, ← hk]
      next => simp [entriesOf, List.filterMap_cons, ih]

theorem entriesOf_tdrop_other (t : Table) {k : Key} {ix : Nat} (h : k.ix ≠ ix) : entriesOf (tdrop t k) ix = entriesOf t ix := by
  unfold entriesOf tdrop
  rw [List.filterMap_filter]
  refine List.filterMap_congr fun x _ => ?_
  by_cases hx : x.1 = k
  · simp [hx, h]
  · simp [hx]

theorem entriesOf_tset_other (d : Key → W) (t : Table) {k : Key} (v : W) {ix : Nat} (h : k.ix ≠ ix) :
    entriesOf (tset d t k v) ix = entriesOf t ix := by
  unfold tset
  split
  · exact entriesOf_tdrop_other t h
  · exact entriesOf_tput_other t v h

/-- Which addresses a MAC takes in does not rest on what it has counted. -/
theorem daOk_bump (s : State) {f : Fld} (hf : f.ix = 0x4860) (e n m da : Nat) : (s.bump f e n).daOk m da = s.daOk m da := by
  have hw : Within [0x4860] s (s.bump f e n) := hf ▸ bump_within s f e n
  have he (ix : Nat) (h : ix ≠ 0x4860) : entriesOf (s.bump f e n).regs ix = entriesOf s.regs ix :=
    entriesOf_tset_other dflt s.regs _ (by simpa [hf] using Ne.symm h)
  have hg (ix e' w : Nat) (h : takesIn [0x4860] ix = false) : tget dflt (s.bump f e n).regs ⟨ix, e', w⟩ = tget dflt s.regs ⟨ix, e', w⟩ :=
    hw.agrees.word _ h
  have hj : (s.bump f e n).joined m = s.joined m := by
    simp (disch := decide) only [State.joined, portGroups, flowGroups, validPorts, xportIn, he, hg]
    rfl
  have hp : (s.bump f e n).ptpOn m = s.ptpOn m := by
    have hl (g : Fld) (e' : Nat) (h : takesIn [0x4860] g.ix = false) : (s.bump f e n).fld g e' = s.fld g e' := hw.fld_eq h e'
    simp (disch := decide) only [State.ptpOn, State.ptpRuns, State.refEnabled, State.refRuns, State.mode, hl]
    rfl
  rw [State.daOk, State.daOk, hj, hp, hw.fld_eq rfl]

/-! ### What each MAC's transmitter waits for -/

theorem macRun_m (s : State) (m : Nat) : (s.macRun m).m = m := by
  unfold State.macRun
  cases h : s.mx.macs.find? fun x => x.m == m with
  | none => rfl
  | some x => exact beq_iff_eq.1 (List.find?_some (p := fun y : MacRun => y.m == m) h)

theorem macRun_setMacRun_same {s : State} {x : MacRun} {m : Nat} (h : x.m = m) : (s.setMacRun x).macRun m = x := by
  simp [State.macRun, State.setMacRun, h]

theorem macRun_setMacRun_other {s : State} {x : MacRun} {m : Nat} (h : x.m ≠ m) : (s.setMacRun x).macRun m = s.macRun m := by
  have hf : (fun y : MacRun => decide ((!(y.m == x.m)) = true ∧ (y.m == m) = true)) = fun y => y.m == m := by
    funext y
    by_cases hy : y.m = m
    · simp [hy, Ne.symm h]
    · simp [hy]
  rw [State.macRun, State.setMacRun, List.find?_cons_of_neg (by simpa using h), List.find?_filter, hf]
  rfl

/-- The pause of each MAC's transmitter. -/
def State.pauses (s : State) (m : Nat) : Option (Nat × Nat) := (s.macRun m).paused

theorem pauses_of_macs {s t : State} (h : t.mx.macs = s.mx.macs) : t.pauses = s.pauses := by
  unfold State.pauses State.macRun
  rw [h]

theorem pauses_setMacRun {s : State} {x : MacRun} (h : x.paused = (s.macRun x.m).paused) : (s.setMacRun x).pauses = s.pauses := by
  funext m
  unfold State.pauses
  by_cases hm : x.m = m
  · rw [macRun_setMacRun_same hm, h, hm]
  · rw [macRun_setMacRun_other hm]

theorem pauses_bump (s : State) (f : Fld) (e n : Nat) : (s.bump f e n).pauses = s.pauses := rfl

theorem ownLeaves_pauses (s : State) (m : Nat) : (s.ownLeaves m).pauses = s.pauses := pauses_of_macs rfl

theorem sendOwn_pauses (s : State) (m : Nat) : (s.sendOwn m).pauses = s.pauses := by
  unfold State.sendOwn
  extract_lets x
  split
  · exact pauses_setMacRun (congrArg (fun n => (s.macRun n).paused) (macRun_m s m).symm)
  · exact ownLeaves_pauses ..

theorem stamp_pauses (s : State) (e seqid mtype late : Nat) (taken : Bool) : (s.stamp e seqid mtype late taken).1.pauses = s.pauses := by
  unfold State.stamp
  extract_lets +onlyGivenNames -merge x t next
  split
  · exact pauses_of_macs rfl
  · extract_lets +onlyGivenNames -merge queued k marked counted
    have hn : (counted.notify 0x4850 e).mx = counted.mx := (notify_within ..).agrees.mx rfl
    have hc : counted.mx.macs = s.mx.macs := rfl
    exact pauses_of_macs ((congrArg MxState.macs hn).trans hc)

theorem ptpLeaves_pauses (s : State) (p : Nat) (k : PtpTx) (late : Nat) : (s.ptpLeaves p k late).pauses = s.pauses := by
  unfold State.ptpLeaves
  extract_lets +onlyGivenNames -merge m
  cases k with
  | announce => exact sendOwn_pauses ..
  | sync =>
    dsimp -zeta only
    extract_lets +onlyGivenNames -merge r two sent
    have hs : sent.pauses = s.pauses := by
      unfold sent
      split
      · rw [sendOwn_pauses, sendOwn_pauses]; exact stamp_pauses ..
      · rw [sendOwn_pauses]; exact stamp_pauses ..
    exact hs
  | delayReq =>
    dsimp -zeta only
    extract_lets +onlyGivenNames -merge r t3 sent
    have hs : sent.pauses = s.pauses := (sendOwn_pauses r.1 m).trans (stamp_pauses ..)
    split
    · exact hs
    · exact hs

theorem essenceWaits_pauses (s : State) (m : Nat) (l : List Nat) : (s.essenceWaits m l).pauses = s.pauses := by
  unfold State.essenceWaits
  extract_lets x r
  split
  · rfl
  · exact pauses_setMacRun (congrArg (fun n => (s.macRun n).paused) (macRun_m s m).symm)

/-- The transmitter runs again, whatever leaves it then. -/
theorem endPause_released (s : State) (m : Nat) : (s.endPause m).pauses m = none := by
  unfold State.endPause
  extract_lets x
  split
  next h => exact h
  next t u _ =>
    extract_lets released counted left
    have hr : released.pauses m = none := by
      refine (congrArg MacRun.paused (macRun_setMacRun_same ?_)).trans ?_
      · exact macRun_m s m
      · rfl
    have hl : left.pauses = counted.pauses := foldl_keeps (view := State.pauses) (fun a y => ptpLeaves_pauses a ..) counted _
    have ho : ((List.range x.own).foldl (fun s _ => s.ownLeaves m) left).pauses = left.pauses := by
      refine foldl_keeps (view := State.pauses) ?_ left _
      exact fun a _ => ownLeaves_pauses a m
    rw [ho, hl]
    exact hr

/-- Whole ticks up to an instant reach it. -/
theorem le_add_ticks (n u : Nat) {c : Nat} (hc : 0 < c) : u ≤ n + (u - n + c - 1) / c * c := by
  have := Nat.lt_div_mul_add (a := u - n + c - 1) hc
  omega

theorem mono_ticks (s : State) (n : Nat) : (s.ticks n).clk.mono = s.clk.mono + n * tickUnits := by
  unfold State.ticks
  generalize n * tickUnits = k
  rfl

theorem now_ticks (s : State) (n : Nat) : (s.ticks n).now = s.now + n * tickUnits := by
  rw [State.now, State.now, mono_ticks]

theorem le_now_waitUntil (s : State) (u : Nat) : u ≤ (s.waitUntil u).now := by
  have hc : 0 < tickUnits := by decide
  have h := le_add_ticks s.now u hc
  rw [State.waitUntil, now_ticks]
  exact h

theorem pauseExpire_released (s : State) (m a u : Nat) (l : List Nat) (h : (s.macRun m).paused = some (a, u)) :
    ((s.pauseExpire m l).macRun m).paused = none ∧ u ≤ (s.pauseExpire m l).now := by
  have he : s.pauseExpire m l = ((s.waitUntil u).essenceWaits m l).endPause m := by rw [State.pauseExpire, h]
  have hc : (((s.waitUntil u).essenceWaits m l).endPause m).clk = (s.waitUntil u).clk :=
    ((endPause_within ..).agrees.clk rfl).trans ((essenceWaits_within ..).agrees.clk rfl)
  have hn : (((s.waitUntil u).essenceWaits m l).endPause m).now = (s.waitUntil u).now := by rw [State.now, State.now, hc]
  rw [he, hn]
  exact ⟨endPause_released _ m, le_now_waitUntil s u⟩

theorem pauseExpire_idle {s : State} {m : Nat} (l : List Nat) (h : (s.macRun m).paused = none) : s.pauseExpire m l = s := by
  unfold State.pauseExpire
  rw [h]

/-! ### A frame received (R220) -/

/-- The FEC's words of a frame counted: what comes before its checks. -/
def State.fecCounted (s : State) (m : Nat) (f : MacFrame) : State :=
  (s.bump F.MX_STATS_FECCORR m f.fec.1).bump F.MX_STATS_FECUNCORR m f.fec.2

theorem fecCounted_fld (s : State) (m : Nat) (f : MacFrame) {g : Fld} (hc : g.apart F.MX_STATS_FECCORR = true)
    (hu : g.apart F.MX_STATS_FECUNCORR = true) (e : Nat) : (s.fecCounted m f).fld g e = s.fld g e :=
  (fld_bump_apart _ _ _ _ hu).trans (fld_bump_apart _ _ _ _ hc)

theorem fecCounted_daOk (s : State) (m : Nat) (f : MacFrame) (da : Nat) : (s.fecCounted m f).daOk m da = s.daOk m da :=
  (daOk_bump _ rfl ..).trans (daOk_bump _ rfl ..)

section Frame
variable {s : State} {m : Nat} {f : MacFrame}

theorem macFrame_idle (h : s.macUp m = false) : s.macFrame m f = s := if_pos (by simp [h])

/-- A frame too short, or a fragment, counts as that and no more. -/
theorem macFrame_runt (hu : s.macUp m = true) (h : f.len < 64 ∨ f.frag = true) :
    (s.macFrame m f).fld F.MX_STATS_RUNT m = satAdd (2 ^ F.MX_STATS_RUNT.len - 1) (s.fld F.MX_STATS_RUNT m) 1 := by
  have he : s.macFrame m f = (s.fecCounted m f).bump F.MX_STATS_RUNT m 1 := by
    unfold State.macFrame
    rw [if_neg (by simp [hu])]
    exact if_pos (by simpa using h)
  rw [he, fld_bump_same _ _ _ rfl, fecCounted_fld s m f rfl rfl]

/-- A frame of whole length, past the first check. -/
theorem macFrame_whole (hu : s.macUp m = true) (hl : 64 ≤ f.len) (hf : f.frag = false) :
    s.macFrame m f = (
      let t := s.fecCounted m f
      if !f.fcsOk then t.bump F.MX_STATS_FCS m 1
      else if t.fld F.MX_MAC_MTU m + (if f.vid.isSome then 4 else 0) < f.len then t.bump F.MX_STATS_OVERSIZE m 1
      else match f.body with
        | .pause quanta packets =>
          let u := (t.bump F.MX_STATS_PAUSE m 1).essenceWaits m packets
          if u.fld F.MX_MAC_PAUSEOBEY m = 1 then u.pauseFor m quanta else u
        | .control => t.bump F.MX_STATS_CTRLOTHER m 1
        | _ => t.claim m f) := by
  unfold State.macFrame
  rw [if_neg (by simp [hu])]
  exact if_neg (by simp [hf, hl])

theorem macFrame_fcs (hu : s.macUp m = true) (hl : 64 ≤ f.len) (hf : f.frag = false) (hc : f.fcsOk = false) :
    (s.macFrame m f).fld F.MX_STATS_FCS m = satAdd (2 ^ F.MX_STATS_FCS.len - 1) (s.fld F.MX_STATS_FCS m) 1 := by
  have he : s.macFrame m f = (s.fecCounted m f).bump F.MX_STATS_FCS m 1 :=
    (macFrame_whole hu hl hf).trans (if_pos (by simp [hc]))
  rw [he, fld_bump_same _ _ _ rfl, fecCounted_fld s m f rfl rfl]

theorem fecCounted_mtu (s : State) (m : Nat) (f : MacFrame) : (s.fecCounted m f).fld F.MX_MAC_MTU m = s.fld F.MX_MAC_MTU m :=
  fecCounted_fld s m f rfl rfl m

theorem macFrame_oversize (hu : s.macUp m = true) (hl : 64 ≤ f.len) (hf : f.frag = false) (hc : f.fcsOk = true)
    (ho : s.fld F.MX_MAC_MTU m + (if f.vid.isSome then 4 else 0) < f.len) :
    (s.macFrame m f).fld F.MX_STATS_OVERSIZE m = satAdd (2 ^ F.MX_STATS_OVERSIZE.len - 1) (s.fld F.MX_STATS_OVERSIZE m) 1 := by
  have he : s.macFrame m f = (s.fecCounted m f).bump F.MX_STATS_OVERSIZE m 1 := by
    refine (macFrame_whole hu hl hf).trans ((if_neg (by simp [hc])).trans (if_pos ?_))
    rwa [fecCounted_mtu]
  rw [he, fld_bump_same _ _ _ rfl, fecCounted_fld s m f rfl rfl]

/-- A frame that passes the checks on its length and its FCS goes on by its body. -/
theorem macFrame_sound (hu : s.macUp m = true) (hl : 64 ≤ f.len) (hf : f.frag = false) (hc : f.fcsOk = true)
    (ho : ¬ s.fld F.MX_MAC_MTU m + (if f.vid.isSome then 4 else 0) < f.len) :
    s.macFrame m f = (
      let t := s.fecCounted m f
      match f.body with
        | .pause quanta packets =>
          let u := (t.bump F.MX_STATS_PAUSE m 1).essenceWaits m packets
          if u.fld F.MX_MAC_PAUSEOBEY m = 1 then u.pauseFor m quanta else u
        | .control => t.bump F.MX_STATS_CTRLOTHER m 1
        | _ => t.claim m f) := by
  refine (macFrame_whole hu hl hf).trans ((if_neg (by simp [hc])).trans (if_neg ?_))
  rwa [fecCounted_mtu]

theorem macFrame_unclaimed {a b : Nat} (hu : s.macUp m = true) (hl : 64 ≤ f.len) (hf : f.frag = false) (hc : f.fcsOk = true)
    (ho : ¬ s.fld F.MX_MAC_MTU m + (if f.vid.isSome then 4 else 0) < f.len) (hd : s.daOk m f.da = false)
    (hb : f.body = .ncp a b []) :
    (s.macFrame m f).fld F.MX_STATS_UNCLAIMED m = satAdd (2 ^ F.MX_STATS_UNCLAIMED.len - 1) (s.fld F.MX_STATS_UNCLAIMED m) 1 := by
  have he : s.macFrame m f = (s.fecCounted m f).bump F.MX_STATS_UNCLAIMED m 1 := by
    rw [macFrame_sound hu hl hf hc ho, hb]
    exact if_pos (by simp [fecCounted_daOk, hd])
  rw [he, fld_bump_same _ _ _ rfl, fecCounted_fld s m f rfl rfl]

/-- An NCP frame for the MAC on its management VLAN is accepted, whatever becomes of its message. -/
theorem macFrame_ncp {a b : Nat} (hu : s.macUp m = true) (hl : 64 ≤ f.len) (hf : f.frag = false) (hc : f.fcsOk = true)
    (hv : f.vid = some (s.fld F.MX_MAC_MGMTVID m)) (hn : s.fld F.MX_MAC_MGMTVID m ≠ 0) (ho : f.len ≤ s.fld F.MX_MAC_MTU m + 4)
    (hd : f.da = s.fld F.MX_MAC_MACADDR m) (hb : f.body = .ncp a b []) :
    (s.macFrame m f).fld F.MX_STATS_RXOK m = satAdd (2 ^ F.MX_STATS_RXOK.len - 1) (s.fld F.MX_STATS_RXOK m) 1 ∧
      (s.macFrame m f).fld F.MX_STATS_RXBYTES m = satAdd (2 ^ F.MX_STATS_RXBYTES.len - 1) (s.fld F.MX_STATS_RXBYTES m) f.len := by
  have hvid : (s.fecCounted m f).fld F.MX_MAC_MGMTVID m = s.fld F.MX_MAC_MGMTVID m := fecCounted_fld s m f rfl rfl m
  have hok : (s.fecCounted m f).daOk m f.da = true := by rw [fecCounted_daOk, State.daOk, hd]; simp
  have he : s.macFrame m f = ((s.fecCounted m f).rxOk m f.len).macNcp [] := by
    rw [macFrame_sound hu hl hf hc (by simp [hv]; omega), hb]
    change (s.fecCounted m f).claim m f = _
    rw [State.claim, if_neg (by simp [hok]), if_pos (by simp [hvid, hv, hn]), hb]
  rw [he, (macNcp_within ..).fld_eq rfl, (macNcp_within ..).fld_eq rfl, State.rxOk]
  constructor
  · rw [fld_bump_apart (h := rfl), fld_bump_same _ _ _ rfl, fecCounted_fld s m f rfl rfl]
  · rw [fld_bump_same _ _ _ rfl, fld_bump_apart (h := rfl), fecCounted_fld s m f rfl rfl]

theorem essenceWaits_fld (s : State) (m : Nat) (l : List Nat) {g : Fld} (hg : g.apart F.MX_STATS_TXPAUSEDROP = true) (e : Nat) :
    (s.essenceWaits m l).fld g e = s.fld g e := by
  unfold State.essenceWaits
  extract_lets x r
  split
  · rfl
  · exact fld_bump_apart _ _ _ _ hg

theorem countPause_fld (s : State) (m : Nat) {g : Fld} (hg : g.apart F.MX_STATS_PAUSEQ = true) (e : Nat) :
    (s.countPause m).fld g e = s.fld g e := by
  unfold State.countPause
  split
  · rfl
  · exact fld_bump_apart _ _ _ _ hg

/-- A PAUSE that is obeyed stops the transmitter (R222). -/
theorem macFrame_pause {q : Nat} (hu : s.macUp m = true) (hl : 64 ≤ f.len) (hf : f.frag = false) (hc : f.fcsOk = true)
    (ho : ¬ s.fld F.MX_MAC_MTU m + (if f.vid.isSome then 4 else 0) < f.len) (hb : f.body = .pause q [])
    (hy : s.fld F.MX_MAC_PAUSEOBEY m = 1) (hq : q ≠ 0) :
    ((s.macFrame m f).macRun m).paused.isSome = true ∧
      (s.macFrame m f).fld F.MX_STATS_PAUSE m = satAdd (2 ^ F.MX_STATS_PAUSE.len - 1) (s.fld F.MX_STATS_PAUSE m) 1 := by
  have hyes : (((s.fecCounted m f).bump F.MX_STATS_PAUSE m 1).essenceWaits m []).fld F.MX_MAC_PAUSEOBEY m = 1 := by
    rw [essenceWaits_fld _ _ _ rfl, fld_bump_apart (h := rfl), fecCounted_fld s m f rfl rfl, hy]
  have he : s.macFrame m f = (((s.fecCounted m f).bump F.MX_STATS_PAUSE m 1).essenceWaits m []).pauseFor m q := by
    rw [macFrame_sound hu hl hf hc ho, hb]
    exact if_pos hyes
  rw [he, State.pauseFor, if_neg hq]
  extract_lets counted
  refine ⟨?_, ?_⟩
  · rw [macRun_setMacRun_same]
    · rfl
    · exact macRun_m counted m
  change counted.fld F.MX_STATS_PAUSE m = _
  rw [countPause_fld _ _ rfl, essenceWaits_fld _ _ _ rfl, fld_bump_same _ _ _ rfl, fecCounted_fld s m f rfl rfl]

end Frame

end Sys2Proof.Machine
end

section
/-! Rings, receive flows, SDI lines and links (R219, R225, R243–R246). -/
namespace Sys2Proof.Machine

/-! ### A frame sent from a ring -/

/-- A stamp counts what finds no room, and nothing else of a MAC's statistics. -/
theorem stamp_fld (s : State) (e seqid mtype late : Nat) (taken : Bool) {g : Fld} (hr : g.apart F.MX_STATS_TSOVF_RX = true)
    (ht : g.apart F.MX_STATS_TSOVF_TX = true) (hg : g.ix = 0x4860) (d : Nat) :
    (s.stamp e seqid mtype late taken).1.fld g d = s.fld g d := by
  unfold State.stamp
  extract_lets +onlyGivenNames -merge x t next
  split
  · rfl
  · extract_lets +onlyGivenNames -merge queued k marked counted
    have hm : marked.fld g d = s.fld g d := (setWord_within queued 0x4858 k 0 _).fld_eq (by rw [hg]; rfl) d
    have hc : counted.fld g d = marked.fld g d := by
      unfold counted
      split
      · exact fld_bump_apart _ _ _ _ hr
      · exact fld_bump_apart _ _ _ _ ht
    exact (fld_notify _ _ _ (by rw [hg]; rfl) _).trans (hc.trans hm)

theorem handBack_next (s : State) (e : Nat) {l : List (W × W)} (hl : l ≠ []) :
    (s.handBack e l).fld F.MX_RING_NEXT e = (s.fld F.MX_RING_NEXT e + l.length) % s.ringSize e % 2 ^ 12 := by
  unfold State.handBack
  rw [if_neg (by simpa using hl)]
  extract_lets next base size back mx kept moved
  have hm : moved.fld F.MX_RING_NEXT e = (s.fld F.MX_RING_NEXT e + l.length) % s.ringSize e % 2 ^ 12 :=
    fld_setFld_fits (f := F.MX_RING_NEXT) kept e _ rfl
  split
  · split
    · exact ((withPcie_within ..).fld_eq rfl e).trans hm
    · exact hm
  · exact hm

theorem isFrame_ne_nil {l : List (W × W)} (h : isFrame l = true) : l ≠ [] := by
  rintro rfl
  simp [isFrame] at h

theorem ringSend_sent {s : State} {m : Nat} {l : List (W × W)} (ptp : Option (Nat × Nat)) (hu : s.macUp m = true)
    (hon : s.ringOn (m * 2 + 1) = true) (hp : (s.macRun m).paused = none) (hl : isFrame l = true) :
    (s.ringSend m l ptp).fld F.MX_STATS_TXOK m = satAdd (2 ^ F.MX_STATS_TXOK.len - 1) (s.fld F.MX_STATS_TXOK m) 1 ∧
      (s.ringSend m l ptp).fld F.MX_RING_NEXT (m * 2 + 1) =
        (s.fld F.MX_RING_NEXT (m * 2 + 1) + l.length) % s.ringSize (m * 2 + 1) % 2 ^ 12 := by
  unfold State.ringSend
  extract_lets +onlyGivenNames -merge e
  rw [if_neg (by simp [hu, hon, hp, hl, e])]
  extract_lets +onlyGivenNames -merge tagged len counted y stamped
  have hc : counted.fld F.MX_STATS_TXOK m = satAdd (2 ^ F.MX_STATS_TXOK.len - 1) (s.fld F.MX_STATS_TXOK m) 1 :=
    (fld_bump_apart _ _ _ _ rfl).trans (fld_bump_same _ _ _ rfl)
  have hs : stamped.1.fld F.MX_STATS_TXOK m = counted.fld F.MX_STATS_TXOK m ∧ Within Parts.stamp counted stamped.1 := by
    unfold stamped
    split
    · exact ⟨stamp_fld _ _ _ _ _ _ rfl rfl rfl m, stamp_within ..⟩
    · exact ⟨rfl, .refl⟩
  have hw : Within (Parts.stamp ++ [0x4860]) s stamped.1 :=
    .trans ((((bump_within ..).mono rfl).step (bump_within ..) rfl)) (hs.2.mono rfl)
  have hne : l.map (txBack stamped.2) ≠ [] := by simpa using isFrame_ne_nil hl
  refine ⟨((handBack_within ..).fld_eq rfl m).trans (hs.1.trans hc), ?_⟩
  rw [handBack_next _ _ hne, List.length_map, State.ringSize, State.ringSize, hw.fld_eq rfl, hw.fld_eq rfl]

theorem ringSend_idle {s : State} {m : Nat} {l : List (W × W)} (ptp : Option (Nat × Nat))
    (h : s.macUp m = false ∨ ¬(s.ringOn (m * 2 + 1) = true ∧ (s.macRun m).paused = none ∧ isFrame l = true)) :
    s.ringSend m l ptp = s := by
  refine if_pos ?_
  rcases h with h | h
  · simp [h]
  · by_cases hon : s.ringOn (m * 2 + 1) = true
    · by_cases hp : (s.macRun m).paused = none
      · have hl : isFrame l = false := by simpa [hon, hp] using h
        simp [hl]
      · simp [Option.isSome_iff_ne_none.2 hp]
    · simp [Bool.not_eq_true _ ▸ hon]

/-! ### Packets released to the rigging (R243) -/

theorem ancIn_flows (s : State) (p line : Nat) (sdi fresh : Bool) (l : List Anc) :
    (s.ancIn p line sdi fresh l).mx.flows = s.mx.flows := rfl

theorem giveBody_flows (s : State) (f : FlowId) (b : RtpBody) : (s.giveBody f b).mx.flows = s.mx.flows := by
  cases b with
  | video good runs => rfl
  | audio l16 periods => rfl
  | anc l last =>
    unfold State.giveBody
    dsimp -zeta only
    extract_lets given
    have hg : given.mx.flows = s.mx.flows := by
      unfold given
      split
      · rfl
      · exact ancIn_flows ..
    split <;> exact hg

theorem rxFlow_of_flows {s t : State} (h : t.mx.flows = s.mx.flows) (f : FlowId) (seq : Nat) : t.rxFlow f seq = s.rxFlow f seq := by
  rw [State.rxFlow, h]
  rfl

/-- Released packets are given on with the flows as they stand. -/
theorem rxFlow_giveBodies (s : State) (f : FlowId) (held : List HeldPacket) (seq : Nat) :
    (held.foldl (fun s y => s.giveBody f y.body) s).rxFlow f seq = s.rxFlow f seq := by
  induction held generalizing s with
  | nil => rfl
  | cons y held ih => exact (ih _).trans (rxFlow_of_flows (giveBody_flows s f y.body) f seq)

theorem rxFlow_setRxFlow {s : State} {x : RxFlow} {f : FlowId} (hx : x.id = f) (seq : Nat) : (s.setRxFlow x).rxFlow f seq = x := by
  simp [State.rxFlow, State.setRxFlow, hx]

theorem release_moves {s : State} {f : FlowId} {x : RxFlow} (last : Nat) (hx : s.mx.flows.find? (fun y => y.id == f) = some x) :
    ((s.release f last).rxFlow f 0).next = (if seqRun x.next last = [] then x.next else (last + 1) % 2 ^ 32) ∧
      ((s.release f last).rxFlow f 0).got = x.got.filter fun y => !(seqRun x.next last).contains y.seq := by
  have hid : x.id = f := beq_iff_eq.1 (List.find?_some (p := fun y : RxFlow => y.id == f) hx)
  unfold State.release
  simp -zeta only [hx]
  extract_lets +onlyGivenNames -merge due held waited on missA missB rows moved given
  clear_value held waited missA missB rows
  have hg : given.rxFlow f 0 = moved.rxFlow f 0 := rxFlow_giveBodies moved f held 0
  have hm : moved.rxFlow f 0 = _ := rxFlow_setRxFlow (by exact hid) 0
  have kept {t : State} (ht : Within [0x4870, 0x6048, Part.host] given t) :
      (t.rxFlow f 0).next = (if due = [] then x.next else (last + 1) % 2 ^ 32) ∧
        (t.rxFlow f 0).got = x.got.filter fun y => !due.contains y.seq := by
    rw [rxFlow_of_flows (congrArg MxState.flows (ht.agrees.mx rfl)), hg, hm]
    exact ⟨by simp only [List.isEmpty_iff], rfl⟩
  split
  · exact kept .refl
  extract_lets e counted lines n told
  have hl : Within [0x4870, 0x6048, Part.host] given lines :=
    .step (.step ((bump_within ..).mono rfl) (bump_within ..) rfl) (bump_within ..) rfl
  have ht : Within [0x4870, 0x6048, Part.host] given told := hl.step (setNotify_within ..) rfl
  split
  · exact kept hl
  split
  · exact kept (ht.step (setLink_within ..) rfl)
  · exact kept ht

theorem release_idle {s : State} {f : FlowId} (last : Nat) (h : s.mx.flows.find? (fun y => y.id == f) = none) :
    s.release f last = s := by
  unfold State.release
  rw [h]

/-! ### SDI lines (R244–R246) -/

/-- A port is carried by SDI, and its transport runs. -/
def State.sdiCarried (s : State) (dst : Bool) (p : Nat) : Prop :=
  xportUsed s.sys.role (s.port dst p) = true ∧ xType (s.xport dst p 0) = xSDI ∧ s.link dst p ≠ lkNOTRANSPORT

theorem sdi_guard {s : State} {dst : Bool} {p : Nat} {run : Bool} :
    (!xportUsed s.sys.role (s.port dst p) || xType (s.xport dst p 0) != xSDI || s.link dst p == lkNOTRANSPORT || !run) = true ↔
      run = false ∨ ¬ s.sdiCarried dst p := by
  unfold State.sdiCarried
  cases run <;> cases xportUsed s.sys.role (s.port dst p) <;> simp [imp_iff_not_or]

theorem sdiRx_locks {s : State} {p : Nat} (x : SdiLine) (hc : s.sdiCarried false p) (hr : s.enginesRun = true) :
    let e := laneElem true (pDie (s.port false p)) (F.MX_XPORT_LANE.of (s.xport false p 0))
    (s.sdiRx p x).lane e = laLOCKED ∧ (s.sdiRx p x).fld F.LK_STAT_SDIRATE e = x.rate % 2 ^ F.LK_STAT_SDIRATE.len := by
  intro e
  unfold State.sdiRx
  extract_lets +onlyGivenNames -merge v w
  rw [if_neg (by rw [sdi_guard]; simp [hr, hc])]
  extract_lets +onlyGivenNames -merge e' st locked counted taken run lines run' told
  have hlane : locked.lane e = laLOCKED := fld_setNotify_same (f := F.LK_STAT_STATE) _ e laLOCKED rfl rfl
  have hrate : locked.fld F.LK_STAT_SDIRATE e = x.rate % 2 ^ F.LK_STAT_SDIRATE.len :=
    (fld_setNotify_apart (f := F.LK_STAT_STATE) (h := rfl) (hn := rfl) ..).trans (fld_setFld_fits (f := F.LK_STAT_SDIRATE) s e _ rfl)
  have ht : Within Parts.sdiPicture locked told := by
    have hk : Within Parts.sdiPicture locked taken := .step ((bump_within ..).mono rfl) (ancIn_within ..) rfl
    unfold told
    split
    · exact (hk.step (setFld_within ..) rfl).step (setSdiRun_within ..) rfl
    · exact hk.step (setSdiRun_within ..) rfl
  have hl : Within Parts.sdiPicture locked (if x.last then told.sdiPicture p (told.sdiRun p) x.rate else told) := by
    split
    · exact ht.step (sdiPicture_within ..) rfl
    · exact ht
  exact ⟨(hl.fld_eq rfl e).trans hlane, (hl.fld_eq rfl e).trans hrate⟩

theorem sdiRx_idle {s : State} {p : Nat} (x : SdiLine) (h : s.enginesRun = false ∨ ¬ s.sdiCarried false p) : s.sdiRx p x = s :=
  if_pos (sdi_guard.2 h)

theorem sdiTx_places {s : State} {p : Nat} (line : Nat) (audio : List (Nat × Nat × Nat)) (l : List Anc) (gap : Bool)
    (hc : s.sdiCarried true p) (hr : s.essenceOut = true) :
    (s.sdiTx p line audio l gap).mx.placed = (ancPlace (ancSpace (pFormat (s.port true p)) line)
      (l.filter fun a => rulesPass (s.ancBegin true p line (F.MX_XPORT_RECIPE.of (s.xport true p 0))
        (line ≤ (s.ancRun true p).line || (s.ancRun true p).line == 0)).rules a)
      (payloadIdSpots (pFormat (s.port true p)) line ++ audio) 0).1 := by
  unfold State.sdiTx
  extract_lets +onlyGivenNames -merge v w
  rw [if_neg (by rw [sdi_guard]; simp [hr, hc])]
  split <;> rfl

theorem sdiTx_idle {s : State} {p : Nat} (line : Nat) (audio : List (Nat × Nat × Nat)) (l : List Anc) (gap : Bool)
    (h : s.essenceOut = false ∨ ¬ s.sdiCarried true p) : s.sdiTx p line audio l gap = s :=
  if_pos (sdi_guard.2 h)

/-! ### A MAC's link (R219) -/

theorem lane_setLane_same (s : State) (e : Nat) {n : Nat} (h : n < 16) : (s.setLane e n).lane e = n :=
  (fld_setNotify_same (f := F.LK_STAT_STATE) s e n rfl rfl).trans (Nat.mod_eq_of_lt h)

theorem fld_setFld_elem (s : State) (f g : Fld) {e d : Nat} (v : Nat) (h : d ≠ e) : (s.setFld f e v).fld g d = s.fld g d :=
  fld_setFld_other s f g e d v fun hk => h (Key.mk.inj hk).2.1

theorem lane_setLane_other (s : State) {e d : Nat} (n : Nat) (h : d ≠ e) : (s.setLane e n).lane d = s.lane d := by
  unfold State.setLane State.setNotify
  split
  · rfl
  · exact (fld_notify _ _ _ rfl _).trans (fld_setFld_elem s _ _ n h)

theorem loseLock_lane (s : State) (e n d : Nat) : (s.loseLock e n).lane d = (s.setLane e n).lane d := by
  unfold State.loseLock
  extract_lets run cleared
  have hw : Within [Part.lk, 0x4038, Part.host, 0x6048, Part.tm, 0x5018] ((cleared.bump F.LK_STAT_LOSSES e 1).setLane e n)
      ((((cleared.bump F.LK_STAT_LOSSES e 1).setLane e n).spareLost e).checkStayRefs) :=
    ((spareLost_within ..).mono rfl).step (checkStayRefs_within _) rfl
  refine (hw.fld_eq rfl d).trans ?_
  have hb (d : Nat) : (cleared.bump F.LK_STAT_LOSSES e 1).fld F.LK_STAT_STATE d = s.fld F.LK_STAT_STATE d :=
    fld_bump_apart (f := F.LK_STAT_LOSSES) cleared e d 1 rfl
  by_cases hd : d = e
  · subst hd
    exact (fld_setNotify_same (f := F.LK_STAT_STATE) _ d n rfl rfl).trans (fld_setNotify_same (f := F.LK_STAT_STATE) _ d n rfl rfl).symm
  · exact (lane_setLane_other _ n hd).trans ((hb d).trans (lane_setLane_other s n hd).symm)

/-- Each step of a fold brings one lane to the same state and leaves the others: so does the fold to the lanes of its list. -/
theorem foldl_sets_lanes {g : State → Nat → State} {goal : Nat} (hs : ∀ a e, (g a e).lane e = goal)
    (ho : ∀ a e d, d ≠ e → (g a e).lane d = a.lane d) (s : State) (l : List Nat) (d : Nat) :
    (l.foldl g s).lane d = if d ∈ l then goal else s.lane d := by
  induction l generalizing s with
  | nil => rfl
  | cons e l ih =>
    rw [List.foldl_cons, ih]
    by_cases hl : d ∈ l
    · simp [hl]
    · by_cases he : d = e
      · simp [he, hs]
      · simp [hl, he, ho _ _ _ he]

/-- A receive lane as its MAC's link changes. -/
def State.takeLink (up : Bool) (s : State) (e : Nat) : State :=
  if up then s.setLane e laLOCKED else if s.lane e = laLOCKED then s.loseLock e laACQUIRE else s.setLane e laACQUIRE

theorem takeLink_lane_same (up : Bool) (s : State) (e : Nat) :
    (s.takeLink up e).lane e = if up then laLOCKED else laACQUIRE := by
  unfold State.takeLink
  split
  · exact lane_setLane_same s e (by decide)
  · split
    · exact (loseLock_lane ..).trans (lane_setLane_same s e (by decide))
    · exact lane_setLane_same s e (by decide)

theorem takeLink_lane_other (up : Bool) (s : State) (e d : Nat) (h : d ≠ e) : (s.takeLink up e).lane d = s.lane d := by
  unfold State.takeLink
  split
  · exact lane_setLane_other s _ h
  · split
    · exact (loseLock_lane ..).trans (lane_setLane_other s _ h)
    · exact lane_setLane_other s _ h

theorem takeLink_within (up : Bool) (s : State) (e : Nat) : Within Parts.loseLock s (s.takeLink up e) := by
  unfold State.takeLink
  split
  · exact (setLane_within ..).mono rfl
  · split
    · exact loseLock_within ..
    · exact (setLane_within ..).mono rfl

/-- No receive lane of a MAC is a transmit lane of it. -/
theorem rxLane_not_txLane (m k : Nat) (h : k < 4) : laneElem true (m / 16) (m % 16 * 4 + k) ∉ macLanes m false := by
  simp only [macLanes, List.mem_map, List.mem_range, not_exists, not_and]
  intro j hj he
  simp only [laneElem, if_true, Bool.false_eq_true, if_false] at he
  omega

theorem patternRuns_of_within {l : List Part} {s t : State} (h : Within l s t)
    (m : (!takesIn l 0x4030 && !takesIn l 0x8810 && !takesIn l 0x4010) = true) (e : Nat) : t.patternRuns e = s.patternRuns e := by
  simp only [Bool.and_eq_true, Bool.not_eq_true'] at m
  obtain ⟨⟨hp, hd⟩, hl⟩ := m
  have h1 : t.fld F.LK_PRBS_PATTERN e = s.fld F.LK_PRBS_PATTERN e := h.fld_eq hp e
  have h2 : t.fld F.PW_DOMAIN_STATE (laneDomain e) = s.fld F.PW_DOMAIN_STATE (laneDomain e) := h.fld_eq hd _
  have h3 : t.fld F.LK_LANE_SLEEP e = s.fld F.LK_LANE_SLEEP e := h.fld_eq hl e
  simp only [State.patternRuns, State.patternOn, State.domain, State.laneSleep, h1, h2, h3]

theorem macLink_moves {s : State} {m k : Nat} (up : Bool) (taps : List (Nat × Nat)) (hon : s.macOn m = true) (hk : k < 4) :
    ((s.macLink m up taps).macRun m).link = up ∧
      (s.patternRuns (laneElem true (m / 16) (m % 16 * 4 + k)) = false →
        (s.macLink m up taps).lane (laneElem true (m / 16) (m % 16 * 4 + k)) = if up then laLOCKED else laACQUIRE) := by
  unfold State.macLink
  rw [if_neg (by simp [hon])]
  extract_lets +onlyGivenNames -merge was run linked restarted free moved
  generalize hd : laneElem true (m / 16) (m % 16 * 4 + k) = d
  have hr : Within Parts.ptpRestarts linked restarted := by
    unfold restarted
    split
    · exact .refl
    · exact ptpRestarts_within ..
  have hm : Within (Parts.ptpRestarts ++ Parts.loseLock) linked moved :=
    .foldl (hr.mono rfl) fun a e ha => ha.step (takeLink_within up a e) rfl
  have hlane : s.patternRuns d = false → moved.lane d = if up then laLOCKED else laACQUIRE := by
    intro hp
    have hf : d ∈ free true := by
      refine List.mem_filter.2 ⟨List.mem_map.2 ⟨k, List.mem_range.2 hk, hd⟩, ?_⟩
      rw [patternRuns_of_within hr rfl]
      exact (congrArg (!·) hp).trans rfl
    refine (foldl_sets_lanes (takeLink_lane_same up) (takeLink_lane_other up) restarted (free true) d).trans ?_
    rw [if_pos hf]
  have hlink {t : State} (ht : t.mx = linked.mx) : (t.macRun m).link = up := by
    have he : t.macRun m = linked.macRun m := by rw [State.macRun, State.macRun, ht]
    rw [he]
    refine congrArg MacRun.link (macRun_setMacRun_same ?_)
    exact macRun_m s m
  split
  · exact ⟨hlink (hm.agrees.mx rfl), hlane⟩
  extract_lets +onlyGivenNames -merge sending
  have hs : Within (Parts.ptpRestarts ++ Parts.loseLock) linked sending :=
    .foldl hm fun a e ha => ha.step (setLane_within ..) rfl
  have hsent : sending.lane d = moved.lane d := by
    refine (foldl_sets_lanes (goal := laLOCKED) (fun a e => lane_setLane_same a e (by decide))
      (fun a e d h => lane_setLane_other a _ h) moved (free false) d).trans (if_neg fun hf => ?_)
    exact rxLane_not_txLane m k hk (hd ▸ (List.mem_filter.1 hf).1)
  have trained {t : State} (ht : Within [Part.lk] sending t) :
      (t.macRun m).link = up ∧ (s.patternRuns d = false → t.lane d = if up then laLOCKED else laACQUIRE) :=
    ⟨hlink ((ht.agrees.mx rfl).trans (hs.agrees.mx rfl)), fun hp => (ht.fld_eq rfl d).trans (hsent.trans (hlane hp))⟩
  refine trained (.foldl .refl fun a x ha => ?_)
  split
  · exact ha.step (setLaneRun_within ..) rfl
  · exact ha

theorem macLink_idle {s : State} {m : Nat} (up : Bool) (taps : List (Nat × Nat)) (h : s.macOn m = false) :
    s.macLink m up taps = s := if_pos (by simp [h])

/-- Settles O20, command by command: the frame's own checks, the pause, the ring, the flow, the line, the link. -/
theorem mediaEventsAreCounted : Obligations.MediaEventsAreCounted := by
  unfold Obligations.MediaEventsAreCounted
  refine ⟨?frame, ?pause, ?ring, ?release, ?rxLine, ?txLine, ?link⟩
  case frame =>
    refine fun m a b q f s => ⟨_, rfl, fun hu hl hf hc hv hn ho hd hb => macFrame_ncp hu hl hf hc hv hn ho hd hb, macFrame_runt,
      macFrame_fcs, macFrame_oversize, fun hu hl hf hc ho hd hb => macFrame_unclaimed hu hl hf hc ho hd hb,
      fun hu hl hf hc ho hb hy hq _ => macFrame_pause hu hl hf hc ho hb hy hq, macFrame_idle⟩
  case pause => exact fun m a u l s => ⟨_, rfl, pauseExpire_released s m a u l, pauseExpire_idle l⟩
  case ring => exact fun m l ptp s => ⟨_, rfl, fun hu ⟨hon, hp, hl⟩ => ringSend_sent ptp hu hon hp hl, ringSend_idle ptp⟩
  case release =>
    refine fun f last x s => ⟨_, rfl, fun hr hx => ?_, fun h => ?_⟩
    · rw [State.whileRunning, if_pos hr]
      exact release_moves last hx
    · unfold State.whileRunning
      split
      next hr => exact release_idle last (h.resolve_left (by simp [hr]))
      next => rfl
  case rxLine => exact fun p x s => ⟨_, rfl, sdiRx_locks x, sdiRx_idle x⟩
  case txLine =>
    exact fun p line aud l gap k s => ⟨_, rfl, fun hc hr hk => hk ▸ sdiTx_places line aud l gap hc hr, sdiTx_idle line aud l gap⟩
  case link => exact fun m k up taps s => ⟨_, rfl, macLink_moves up taps, macLink_idle up taps⟩

end Sys2Proof.Machine
end

section
/-! Lanes: the state of each, its run, and what gaining or losing lock leaves in them (R201, R202, R207, R215). -/
namespace Sys2Proof.Machine

/-! ### One word beside a write -/

theorem KeepsWord.setFld (s : State) {f : Fld} {e v : Nat} {k : Key} (h : k ≠ ⟨f.ix, e, f.w⟩) : KeepsWord k s (s.setFld f e v) :=
  tget_tset_other _ _ _ h

theorem KeepsWord.setNotify (s : State) {f : Fld} {e v : Nat} {k : Key} (h : k ≠ ⟨f.ix, e, f.w⟩) (hn : takesIn Parts.notify k.ix = false) :
    KeepsWord k s (s.setNotify f e v) := by
  unfold State.setNotify
  split
  · exact .refl
  · exact (KeepsWord.setFld s h).step (notify_within ..) hn

/-! ### The run of a lane -/

theorem laneRun_e (s : State) (e : Nat) : (s.laneRun e).e = e := by
  unfold State.laneRun
  cases h : s.lk.lanes.find? fun x => x.e == e with
  | none => rfl
  | some x => exact beq_iff_eq.1 (List.find?_some (p := fun y : LaneRun => y.e == e) h)

theorem laneRun_setLaneRun_same {s : State} {x : LaneRun} {e : Nat} (h : x.e = e) : (s.setLaneRun x).laneRun e = x := by
  simp [State.laneRun, State.setLaneRun, h]

theorem Within.laneRun_eq {l : List Part} {s t : State} (h : Within l s t) (m : takesIn l Part.lk = false) (e : Nat) :
    t.laneRun e = s.laneRun e := by
  rw [State.laneRun, State.laneRun, h.agrees.lk m]

/-! ### The state of a lane -/

theorem Within.lane_eq {l : List Part} {s t : State} (h : Within l s t) (m : takesIn l 0x4028 = false) (e : Nat) :
    t.lane e = s.lane e := h.fld_eq (f := F.LK_STAT_STATE) m e

theorem Within.laneMode_eq {l : List Part} {s t : State} (h : Within l s t) (m : takesIn l 0x4010 = false) (e : Nat) :
    t.laneMode e = s.laneMode e := by
  rw [State.laneMode, State.laneMode, h.fld_eq (f := F.LK_LANE_MODE) m]

theorem lane_setFld {f : Fld} (h : F.LK_STAT_STATE.apart f = true) (s : State) (e v d : Nat) : (s.setFld f e v).lane d = s.lane d :=
  fld_setFld_apart _ _ _ _ h

theorem lane_bump {f : Fld} (h : F.LK_STAT_STATE.apart f = true) (s : State) (e n d : Nat) : (s.bump f e n).lane d = s.lane d :=
  fld_bump_apart _ _ _ _ h

theorem lane_setLaneRun (s : State) (x : LaneRun) (d : Nat) : (s.setLaneRun x).lane d = s.lane d :=
  (setLaneRun_within ..).lane_eq rfl d

theorem fld_setLane_apart {f : Fld} (s : State) (e n d : Nat) (h : f.apart F.LK_STAT_STATE = true) (hn : takesIn Parts.notify f.ix = false) :
    (s.setLane e n).fld f d = s.fld f d := fld_setNotify_apart _ _ _ _ h hn

/-! ### A passing header (R42, R202) -/

theorem seen_lane (s : State) (e : Nat) (h : W) (arrival : Int) (d : Nat) : (s.seen e h arrival).lane d = s.lane d := by
  unfold State.seen
  extract_lets heard
  rw [lane_setFld rfl, lane_setFld rfl, lane_setFld rfl, lane_setFld rfl]
  exact (hear_within ..).lane_eq rfl d

theorem miswire_lane (s : State) (e : Nat) (h : W) : (s.miswire e h).lane e = laMISWIRED :=
  ((raise_within ..).lane_eq rfl e).trans (lane_setLane_same _ e (by decide))

/-- The peer check counts in the run of the lane alone. -/
theorem peerCheck_run (s : State) (e : Nat) (h : W) :
    ((s.peerCheck e h).laneRun e).fails = (s.laneRun e).fails ∧ ((s.peerCheck e h).laneRun e).last = (s.laneRun e).last := by
  unfold State.peerCheck
  extract_lets x n agreed m mismatched
  have hx : x.e = e := laneRun_e s e
  have counted {t : State} {y : LaneRun} (ht : t.laneRun e = y) (hf : y.fails = x.fails) (hl : y.last = x.last) :
      (t.laneRun e).fails = x.fails ∧ (t.laneRun e).last = x.last := ht ▸ ⟨hf, hl⟩
  have ha : agreed.laneRun e = { x with mtch := min 8 n, mism := 0 } := laneRun_setLaneRun_same hx
  have hm : mismatched.laneRun e = { x with mism := min 8 m, mtch := 0 } := laneRun_setLaneRun_same hx
  split
  · split
    · exact counted (((setLane_within ..).laneRun_eq rfl e).trans ha) rfl rfl
    · exact counted ha rfl rfl
  · split
    · exact counted (((miswire_within ..).laneRun_eq rfl e).trans hm) rfl rfl
    · exact counted hm rfl rfl

/-- The peer check moves a locked lane between LOCKED and MISWIRED (R202). -/
theorem peerCheck_lane {s : State} {e : Nat} (h : W) (hl : s.lane e = laLOCKED ∨ s.lane e = laMISWIRED) :
    (s.peerCheck e h).lane e = laLOCKED ∨ (s.peerCheck e h).lane e = laMISWIRED := by
  unfold State.peerCheck
  extract_lets x n agreed m mismatched
  split
  · split
    · exact .inl (lane_setLane_same _ e (by decide))
    · exact (lane_setLaneRun s _ e).symm ▸ hl
  · split
    · exact .inr (miswire_lane ..)
    · exact (lane_setLaneRun s _ e).symm ▸ hl

/-! ### Lock gained and lost (R201, R207) -/

theorem gainLock_lane (s : State) (e pos : Nat) (h : W) (arrival : Int) : (s.gainLock e pos h arrival).lane e = laLOCKED :=
  calc (s.gainLock e pos h arrival).lane e
    _ = _ := (spareFound_within ..).lane_eq rfl e
    _ = _ := seen_lane ..
    _ = laLOCKED := lane_setLane_same _ e (by decide)

theorem gainLock_run (s : State) (e pos : Nat) (h : W) (arrival : Int) :
    (s.gainLock e pos h arrival).laneRun e =
      { s.laneRun e with cands := [], pos := pos, fails := 0, mism := 0, mtch := 0, last := some h } :=
  calc (s.gainLock e pos h arrival).laneRun e
    _ = _ := (spareFound_within ..).laneRun_eq rfl e
    _ = _ := (seen_within ..).laneRun_eq rfl e
    _ = _ := (setLane_within ..).laneRun_eq rfl e
    _ = _ := laneRun_setLaneRun_same (laneRun_e s e)

theorem loseLock_lane_same (s : State) (e : Nat) {n : Nat} (h : n < 16) : (s.loseLock e n).lane e = n :=
  (loseLock_lane ..).trans (lane_setLane_same s e h)

theorem loseLock_losses (s : State) (e n : Nat) :
    (s.loseLock e n).fld F.LK_STAT_LOSSES e = satAdd (2 ^ F.LK_STAT_LOSSES.len - 1) (s.fld F.LK_STAT_LOSSES e) 1 := by
  unfold State.loseLock
  extract_lets run cleared
  calc _
    _ = _ := (checkStayRefs_within _).fld_eq rfl e
    _ = _ := (spareLost_within ..).fld_eq rfl e
    _ = _ := fld_setLane_apart _ e n e rfl rfl
    _ = satAdd (2 ^ F.LK_STAT_LOSSES.len - 1) (cleared.fld F.LK_STAT_LOSSES e) 1 := fld_bump_same _ e 1 rfl
    _ = satAdd (2 ^ F.LK_STAT_LOSSES.len - 1) (s.fld F.LK_STAT_LOSSES e) 1 :=
      congrArg (satAdd _ · 1) ((setLaneRun_within ..).fld_eq rfl e)

end Sys2Proof.Machine
end

section
/-! Header blocks on a receive lane (R49, R201). -/
namespace Sys2Proof.Machine

section Block
variable {s : State} {e pos : Nat} {ok : Bool} {h : W} {arrival : Int}

/-- The candidates of a hunting lane at other positions. -/
def LaneRun.others (x : LaneRun) (pos : Nat) : List Cand := x.cands.filter fun c => !(c.pos == pos)

theorem others_find (x : LaneRun) (pos : Nat) : (x.others pos).find? (fun c => c.pos == pos) = none := by
  simp [LaneRun.others]

theorem candidate_found {c : Cand} (l : List Cand) (h : c.pos = pos) : (c :: l).find? (fun x => x.pos == pos) = some c := by
  simp [h]

/-- Candidates set stand in the lane's run, and its state stands. -/
theorem setCands_hunting (l : List Cand) (hl : s.lane e = laHUNT) :
    (s.setLaneRun { s.laneRun e with cands := l }).lane e = laHUNT ∧
      ((s.setLaneRun { s.laneRun e with cands := l }).laneRun e).cands = l := by
  rw [lane_setLaneRun, laneRun_setLaneRun_same (by exact laneRun_e s e)]
  exact ⟨hl, rfl⟩

theorem huntBlock_fourth {c : Cand} (hg : (ok && hdrType h != 3) = true) (hc : (s.laneRun e).cands.find? (fun x => x.pos == pos) = some c)
    (hn : 4 ≤ if sheetFollows c.sheet (hdrSheet h) then c.count + 1 else 1) :
    s.huntBlock e pos ok h arrival = s.gainLock e pos h arrival := by
  simp [State.huntBlock, hc, hg, hn]

theorem huntBlock_counts {c : Cand} (hg : (ok && hdrType h != 3) = true) (hc : (s.laneRun e).cands.find? (fun x => x.pos == pos) = some c)
    (hn : (if sheetFollows c.sheet (hdrSheet h) then c.count + 1 else 1) < 4) :
    s.huntBlock e pos ok h arrival = s.setLaneRun { s.laneRun e with
      cands := ⟨pos, if sheetFollows c.sheet (hdrSheet h) then c.count + 1 else 1, hdrSheet h⟩ :: (s.laneRun e).others pos } := by
  simp [State.huntBlock, LaneRun.others, hc, hg, Nat.not_le.2 hn]

theorem huntBlock_begins (hg : (ok && hdrType h != 3) = true) (hc : (s.laneRun e).cands.find? (fun x => x.pos == pos) = none)
    (hn : (s.laneRun e).cands.length < 8) :
    s.huntBlock e pos ok h arrival = s.setLaneRun { s.laneRun e with cands := ⟨pos, 1, hdrSheet h⟩ :: (s.laneRun e).others pos } := by
  have hlen : ((s.laneRun e).others pos).length < 8 := lt_of_le_of_lt (List.length_filter_le ..) hn
  simp only [LaneRun.others] at hlen
  simp [State.huntBlock, LaneRun.others, hc, hg, hlen]

theorem huntBlock_fails (hg : (ok && hdrType h != 3) = false) (hl : s.lane e = laHUNT) :
    (s.huntBlock e pos ok h arrival).lane e = laHUNT ∧
      ((s.huntBlock e pos ok h arrival).laneRun e).cands.find? (fun x => x.pos == pos) = none := by
  cases hc : (s.laneRun e).cands.find? fun x => x.pos == pos with
  | none =>
    have hs : s.huntBlock e pos ok h arrival = s := by simp [State.huntBlock, hc, hg]
    rw [hs]
    exact ⟨hl, hc⟩
  | some c =>
    have hs : s.huntBlock e pos ok h arrival = s.setLaneRun { s.laneRun e with cands := (s.laneRun e).others pos } := by
      simp [State.huntBlock, LaneRun.others, hc, hg]
    obtain ⟨hlane, hcands⟩ := setCands_hunting ((s.laneRun e).others pos) hl
    rw [hs, hcands]
    exact ⟨hlane, others_find ..⟩

/-- A header that passes at its position clears the count of failures. -/
theorem lockedBlock_passes (hl : s.lane e = laLOCKED ∨ s.lane e = laMISWIRED) :
    ((s.lockedBlock e true h arrival).laneRun e).fails = 0 ∧ ((s.lockedBlock e true h arrival).laneRun e).last = some h ∧
      ((s.lockedBlock e true h arrival).lane e = laLOCKED ∨ (s.lockedBlock e true h arrival).lane e = laMISWIRED) := by
  unfold State.lockedBlock
  extract_lets +onlyGivenNames -merge x
  rw [if_neg (by decide)]
  extract_lets +onlyGivenNames -merge slip cleared counted
  have hc : Within [0x4028] cleared counted := by
    unfold counted
    split
    · exact (bump_within ..).mono rfl
    · exact .refl
  have hlane : (counted.seen e h arrival).lane e = s.lane e := by
    refine (seen_lane ..).trans (Eq.trans ?_ (lane_setLaneRun s { x with fails := 0, last := some h } e))
    unfold counted
    split
    · exact lane_bump rfl ..
    · rfl
  have hrun : (counted.seen e h arrival).laneRun e = { x with fails := 0, last := some h } :=
    ((seen_within ..).laneRun_eq rfl e).trans ((hc.laneRun_eq rfl e).trans (laneRun_setLaneRun_same (laneRun_e s e)))
  obtain ⟨hf, hp⟩ := peerCheck_run (counted.seen e h arrival) e h
  rw [hrun] at hf hp
  exact ⟨hf, hp, peerCheck_lane h (hlane.symm ▸ hl)⟩

/-- A header that fails is credited to the data lane that the lane stands for (R60). -/
def State.headerFailed (s : State) (e : Nat) : State :=
  match s.countLane e with
  | some k => s.bump F.ES_RX_COUNTS_SHEET_HEADER k 1
  | none => s

theorem headerFailed_lane (s : State) (e d : Nat) : (s.headerFailed e).lane d = s.lane d := by
  unfold State.headerFailed
  split
  · exact lane_bump rfl ..
  · rfl

theorem lockedBlock_failed : s.lockedBlock e false h arrival =
    if 4 ≤ (s.laneRun e).fails + 1 then (s.headerFailed e).loseLock e laHUNT
    else (s.headerFailed e).setLaneRun { s.laneRun e with fails := (s.laneRun e).fails + 1 } := rfl

/-- A header that fails at its position is counted, and the fourth in a row ends lock. -/
theorem lockedBlock_fails :
    if (s.laneRun e).fails < 3 then
      ((s.lockedBlock e false h arrival).laneRun e).fails = (s.laneRun e).fails + 1 ∧ (s.lockedBlock e false h arrival).lane e = s.lane e
    else (s.lockedBlock e false h arrival).lane e = laHUNT := by
  rw [lockedBlock_failed]
  split
  next hn =>
    rw [if_neg (by omega), laneRun_setLaneRun_same (by exact laneRun_e s e), lane_setLaneRun]
    exact ⟨rfl, headerFailed_lane ..⟩
  next hn =>
    rw [if_pos (by omega)]
    exact loseLock_lane_same _ e (by decide)

end Block

section HeaderBlock
variable {s : State} {e pos sync : Nat} {h : W} {arrival : Int}

theorem headerBlock_hunting (hr : laneRx e = true) (hi : s.isIsarsal e = true) (hl : s.lane e = laHUNT) :
    s.headerBlock e pos sync h arrival = s.huntBlock e pos (sync == 2 && hdrOk h) h arrival := by
  simp [State.headerBlock, hr, hi, hl]

theorem headerBlock_locked (hr : laneRx e = true) (hi : s.isIsarsal e = true) (hl : s.lane e = laLOCKED ∨ s.lane e = laMISWIRED)
    (hp : pos = (s.laneRun e).pos) :
    s.headerBlock e pos sync h arrival = s.lockedBlock e (sync == 2 && hdrOk h) h arrival := by
  have hh : s.lane e ≠ laHUNT := by rcases hl with hl | hl <;> rw [hl] <;> decide
  simp [State.headerBlock, hr, hi, hh, hl, hp]

theorem headerBlock_elsewhere (hn : laneRx e = false ∨ s.isIsarsal e = false ∨
      (s.lane e ≠ laHUNT ∧ (s.lane e ≠ laLOCKED ∧ s.lane e ≠ laMISWIRED ∨ pos ≠ (s.laneRun e).pos))) :
    s.headerBlock e pos sync h arrival = s := by
  unfold State.headerBlock
  split
  · rfl
  next hg =>
    simp only [Bool.or_eq_true, Bool.not_eq_true', not_or, Bool.not_eq_false] at hg
    obtain ⟨hh, hl⟩ := (hn.resolve_left (by simp [hg])).resolve_left (by simp [hg])
    rw [if_neg hh, if_neg]
    rintro ⟨hk, hp⟩
    rcases hl with ⟨ha, hb⟩ | hb
    · exact hk.elim ha hb
    · exact hb hp

end HeaderBlock
end Sys2Proof.Machine
end

section
/-! Signal lost and found, the end of training, and the stay (R203, R207). -/
namespace Sys2Proof.Machine

/-! ### Signal (R207) -/

theorem signalLoss_locked {s : State} {e : Nat} (hr : laneRx e = true) (hp : lanePos e ≠ 9)
    (hl : s.lane e = laLOCKED ∨ s.lane e = laMISWIRED) :
    (s.signalLoss e).lane e = laLOS ∧
      (s.signalLoss e).fld F.LK_STAT_LOSSES e = satAdd (2 ^ F.LK_STAT_LOSSES.len - 1) (s.fld F.LK_STAT_LOSSES e) 1 := by
  unfold State.signalLoss
  extract_lets +onlyGivenNames -merge st
  rw [if_neg (by simp [hr, hp]), if_pos hl]
  extract_lets +onlyGivenNames -merge lost
  have hlane : lost.lane e = laLOS := loseLock_lane_same s e (by decide)
  have hcount : lost.fld F.LK_STAT_LOSSES e = _ := loseLock_losses s e laLOS
  split
  · exact ⟨((sdiLost_within ..).lane_eq rfl e).trans ((lane_setFld rfl ..).trans hlane),
      ((sdiLost_within ..).fld_eq rfl e).trans ((fld_setFld_apart _ _ _ _ rfl).trans hcount)⟩
  · exact ⟨hlane, hcount⟩

theorem signalLoss_unlocked {s : State} {e : Nat} (hr : laneRx e = true) (hp : lanePos e ≠ 9)
    (hl : s.lane e = laHUNT ∨ s.lane e = laACQUIRE) :
    (s.signalLoss e).lane e = laLOS ∧ (s.signalLoss e).fld F.LK_STAT_LOSSES e = s.fld F.LK_STAT_LOSSES e := by
  have hn : ¬(s.lane e = laLOCKED ∨ s.lane e = laMISWIRED) := by rcases hl with hl | hl <;> rw [hl] <;> decide
  have hs : s.signalLoss e = s.setLane e laLOS := by simp [State.signalLoss, hr, hp, hn, hl]
  rw [hs]
  exact ⟨lane_setLane_same s e (by decide), fld_setLane_apart s e _ e rfl rfl⟩

theorem signalLoss_idle {s : State} {e : Nat} (h : laneRx e = false ∨ lanePos e = 9 ∨
      ¬(s.lane e = laLOCKED ∨ s.lane e = laMISWIRED ∨ s.lane e = laHUNT ∨ s.lane e = laACQUIRE)) : s.signalLoss e = s := by
  unfold State.signalLoss
  extract_lets +onlyGivenNames -merge st
  split
  · rfl
  next hg =>
    simp only [Bool.or_eq_true, Bool.not_eq_true', beq_iff_eq, not_or, Bool.not_eq_false] at hg
    obtain ⟨hr, hp⟩ := hg
    have hn := (h.resolve_left (by simp [hr])).resolve_left hp
    simp only [← or_assoc, not_or] at hn
    obtain ⟨⟨hlocked, hhunt⟩, hacquire⟩ := hn
    rw [if_neg (not_or.2 hlocked), if_neg (not_or.2 ⟨hhunt, hacquire⟩)]

theorem signalReturn_found {s : State} {e : Nat} (hr : laneRx e = true) (hp : lanePos e ≠ 9) (hl : s.lane e = laLOS) :
    (s.signalReturn e).lane e = if s.isIsarsal e then laHUNT else laACQUIRE := by
  unfold State.signalReturn
  rw [if_pos (by simp [hr, hp, hl])]
  exact lane_setLane_same s e (by split <;> decide)

theorem signalReturn_idle {s : State} {e : Nat} (h : laneRx e = false ∨ lanePos e = 9 ∨ s.lane e ≠ laLOS) : s.signalReturn e = s :=
  if_neg (by simpa [and_assoc, or_iff_not_imp_left] using h)

/-! ### The stay (R203) -/

theorem stayLost_lane {s : State} {e : Nat} (hr : laneRx e = true) (hp : lanePos e = 9) (hl : s.lane e = laLOCKED) :
    (s.stayLost e).lane e = laLOS := by
  unfold State.stayLost
  rw [if_pos (by simp [hr, hp, hl])]
  calc _
    _ = _ := (checkStayRefs_within _).lane_eq rfl e
    _ = _ := (raise_within ..).lane_eq rfl e
    _ = laLOS := lane_setLane_same s e (by decide)

theorem stayBack_lane {s : State} {e : Nat} (hr : laneRx e = true) (hp : lanePos e = 9) (hl : s.lane e = laLOS) :
    (s.stayBack e).lane e = laLOCKED := by
  unfold State.stayBack
  rw [if_pos (by simp [hr, hp, hl])]
  exact lane_setLane_same s e (by decide)

theorem stayBack_idle {s : State} {e : Nat} (h : laneRx e = false ∨ lanePos e ≠ 9 ∨ s.lane e ≠ laLOS) : s.stayBack e = s :=
  if_neg (by simpa [and_assoc, or_iff_not_imp_left] using h)

/-! ### What the training of one lane leaves of the others -/

/-- The words of `LK_STAT` of lane `d`. -/
def statKey (d w : Nat) : Key := ⟨0x4028, d, w⟩

section Kept
variable {e d : Nat} (w : Nat) (hd : d ≠ e)
include hd

theorem statKey_ne (w' : Nat) : statKey d w ≠ ⟨0x4028, e, w'⟩ := fun hk => hd (Key.mk.inj hk).2.1

theorem setLane_keepsOthers (s : State) (n : Nat) : KeepsWord (statKey d w) s (s.setLane e n) :=
  .setNotify s (statKey_ne w hd _) rfl

theorem setStat_keepsOthers (s : State) {f : Fld} (hf : f.ix = 0x4028) (v : Nat) : KeepsWord (statKey d w) s (s.setFld f e v) :=
  .setFld s (hf ▸ statKey_ne w hd _)

theorem seen_keepsOthers (s : State) (h : W) (arrival : Int) : KeepsWord (statKey d w) s (s.seen e h arrival) := by
  have hh : KeepsWord (statKey d w) s (s.hear e h) := .of_within (hear_within ..) rfl
  exact (((hh.trans (setStat_keepsOthers w hd _ rfl _)).trans (setStat_keepsOthers w hd _ rfl _)).trans
    (setStat_keepsOthers w hd _ rfl _)).trans (setStat_keepsOthers w hd _ rfl _)

theorem miswire_keepsOthers (s : State) (h : W) : KeepsWord (statKey d w) s (s.miswire e h) :=
  ((setStat_keepsOthers w hd s rfl _).trans (setLane_keepsOthers w hd _ laMISWIRED)).step (raise_within ..) rfl

theorem gainLock_keepsOthers (s : State) (pos : Nat) (h : W) (arrival : Int) :
    KeepsWord (statKey d w) s (s.gainLock e pos h arrival) := by
  unfold State.gainLock
  extract_lets run taken
  have hr : KeepsWord (statKey d w) s taken := .of_within (setLaneRun_within ..) rfl
  exact ((hr.trans (setLane_keepsOthers w hd _ _)).trans (seen_keepsOthers w hd _ h arrival)).step (spareFound_within ..) rfl

theorem trainedLane_keepsOthers (s : State) (t : Trained) : KeepsWord (statKey d w) s (s.trainedLane e t) := by
  unfold State.trainedLane
  extract_lets +onlyGivenNames -merge frozen gained run adapted shown locked
  have ha : KeepsWord (statKey d w) s adapted :=
    .ite (setStat_keepsOthers w hd _ rfl _) ((setStat_keepsOthers w hd _ rfl _).step (setLaneRun_within ..) rfl)
  have hs : KeepsWord (statKey d w) s shown := ha.trans (setStat_keepsOthers w hd _ rfl _)
  have hl : KeepsWord (statKey d w) s locked := hs.trans (gainLock_keepsOthers w hd _ _ _ _)
  exact .ite (hs.trans (setLane_keepsOthers w hd _ _)) (.ite hl (hl.trans (miswire_keepsOthers w hd _ _)))

end Kept

/-! ### The end of a shroud's training (R207) -/

/-- The lane at element `e`, of position `p`, at the end of its shroud's training. -/
def State.endTraining (l : List Trained) (s : State) (e p : Nat) : State :=
  if s.lane e != laACQUIRE then s
  else if s.laneMode e = 3 then
    match l.find? fun t => t.pos == p with
    | some t => if 1 ≤ t.rate ∧ t.rate ≤ 8 then (s.setFld F.LK_STAT_SDIRATE e t.rate).setLane e laLOCKED else s
    | none => s
  else if !s.isIsarsal e then s
  else
    match l.find? fun t => t.pos == p with
    | some t => s.trainedLane e t
    | none => s.setLane e laHUNT

/-- The lanes of a shroud but its stay, from element `base` on. -/
def State.endTrainings (l : List Trained) (s : State) (base : Nat) : State :=
  (List.range 9).foldl (fun s p => s.endTraining l (base + p) p) s

theorem trainingDone_on {s : State} {d sh : Nat} (l : List Trained) (h : s.domain (d * 32 + 8 + sh) = dmON) :
    s.trainingDone d sh l =
      if (s.endTrainings l (d * 160 + sh * 10)).lane (d * 160 + sh * 10 + 9) = laACQUIRE
      then (s.endTrainings l (d * 160 + sh * 10)).setLane (d * 160 + sh * 10 + 9) laLOCKED
      else s.endTrainings l (d * 160 + sh * 10) := by
  refine (if_neg (by simp [h])).trans ?_
  rfl

theorem trainingDone_off {s : State} {d sh : Nat} (l : List Trained) (h : s.domain (d * 32 + 8 + sh) ≠ dmON) :
    s.trainingDone d sh l = s := if_pos (by simpa using h)

theorem endTraining_keepsOthers (l : List Trained) (s : State) {e d : Nat} (p w : Nat) (hd : d ≠ e) :
    KeepsWord (statKey d w) s (s.endTraining l e p) := by
  unfold State.endTraining
  refine .ite .refl (.ite ?sdi (.ite .refl ?isarsal))
  case sdi =>
    split
    · exact .ite ((setStat_keepsOthers w hd _ rfl _).trans (setLane_keepsOthers w hd _ _)) .refl
    · exact .refl
  case isarsal =>
    split
    · exact trainedLane_keepsOthers w hd s _
    · exact setLane_keepsOthers w hd s _

theorem endTraining_within (l : List Trained) (s : State) (e p : Nat) : Within Parts.trainedLane s (s.endTraining l e p) := by
  unfold State.endTraining
  split
  · exact .refl
  · split
    · split
      · split
        · exact Within.step (.step .refl (setFld_within ..) rfl) (setLane_within ..) rfl
        · exact .refl
      · exact .refl
    · split
      · exact .refl
      · split
        · exact trainedLane_within ..
        · exact (setLane_within ..).mono rfl

/-- Of a fold over a list that names `p` once: a fact that the other steps keep, and that the step at `p` turns into a second one that they
keep, is the second one in the end. -/
theorem foldl_reaches {σ α : Type} {g : σ → α → σ} {P Q : σ → Prop} {p : α} (before : ∀ a q, q ≠ p → P a → P (g a q))
    (at_p : ∀ a, P a → Q (g a p)) (after : ∀ a q, q ≠ p → Q a → Q (g a q)) {l : List α} (hl : l.Nodup) (hp : p ∈ l) {a : σ}
    (ha : P a) : Q (l.foldl g a) := by
  induction l generalizing a with
  | nil => cases hp
  | cons q l ih =>
    obtain ⟨hq, hl⟩ := List.nodup_cons.1 hl
    by_cases hqp : q = p
    · subst hqp
      exact List.foldlRecOn l g (at_p a ha) fun b hb x hx => after b x (fun hxq => hq (hxq ▸ hx)) hb
    · exact ih hl ((List.mem_cons.1 hp).resolve_left (Ne.symm hqp)) (before a q hqp ha)

/-- What rests on the first word of `LK_STAT` of lane `base + p` is, after the trainings of its shroud, what its own one leaves. -/
theorem endTrainings_at {s : State} {l : List Trained} {base p : Nat} (hp : p < 9) {R : State → Prop}
    (hR : ∀ a b, KeepsWord (statKey (base + p) 0) a b → R a → R b)
    (own : ∀ a : State, a.lane (base + p) = s.lane (base + p) → a.laneMode (base + p) = s.laneMode (base + p) →
      R (a.endTraining l (base + p) p)) : R (s.endTrainings l base) := by
  have kept (a : State) (q : Nat) (hq : q ≠ p) : KeepsWord (statKey (base + p) 0) a (a.endTraining l (base + q) q) :=
    endTraining_keepsOthers l a q 0 (by omega)
  refine foldl_reaches (P := fun a : State => a.lane (base + p) = s.lane (base + p) ∧ a.laneMode (base + p) = s.laneMode (base + p))
    (fun a q hq ⟨hl, hm⟩ => ⟨?_, ?_⟩) (fun a ⟨hl, hm⟩ => own a hl hm) (fun a q hq => hR _ _ (kept a q hq)) List.nodup_range
    (List.mem_range.2 hp) ⟨rfl, rfl⟩
  · exact ((kept a q hq).fld (f := F.LK_STAT_STATE)).trans hl
  · exact ((endTraining_within l a (base + q) q).laneMode_eq rfl _).trans hm

theorem endTrainings_stay (l : List Trained) (s : State) (base : Nat) :
    (s.endTrainings l base).lane (base + 9) = s.lane (base + 9) := by
  refine KeepsWord.fld (f := F.LK_STAT_STATE) (List.foldlRecOn _ _ .refl fun a ha p hp => ?_)
  exact KeepsWord.trans ha (endTraining_keepsOthers l a p 0 (by have := List.mem_range.1 hp; omega))

theorem trainingDone_stay {s : State} {d sh : Nat} (l : List Trained) (hon : s.domain (d * 32 + 8 + sh) = dmON)
    (ha : s.lane (d * 160 + sh * 10 + 9) = laACQUIRE) : (s.trainingDone d sh l).lane (d * 160 + sh * 10 + 9) = laLOCKED := by
  rw [trainingDone_on l hon, if_pos ((endTrainings_stay ..).trans ha)]
  exact lane_setLane_same _ _ (by decide)

/-- The stay's lock leaves the other lanes of the shroud. -/
theorem trainingDone_keepsLanes {s : State} {d sh p : Nat} (l : List Trained) (hon : s.domain (d * 32 + 8 + sh) = dmON) (hp : p < 9) :
    KeepsWord (statKey (d * 160 + sh * 10 + p) 0) (s.endTrainings l (d * 160 + sh * 10)) (s.trainingDone d sh l) := by
  rw [trainingDone_on l hon]
  exact .ite (setLane_keepsOthers 0 (by omega) _ _) .refl

theorem trainingDone_untrained {s : State} {d sh p : Nat} {l : List Trained} (hon : s.domain (d * 32 + 8 + sh) = dmON) (hp : p < 9)
    (ha : s.lane (d * 160 + sh * 10 + p) = laACQUIRE) (hi : s.isIsarsal (d * 160 + sh * 10 + p) = true)
    (hl : (l.any fun y => y.pos == p) = false) : (s.trainingDone d sh l).lane (d * 160 + sh * 10 + p) = laHUNT := by
  refine ((trainingDone_keepsLanes l hon hp).fld (f := F.LK_STAT_STATE)).trans ?_
  refine endTrainings_at hp (R := fun a => a.lane (d * 160 + sh * 10 + p) = laHUNT)
    (fun a b hk => (hk.fld (f := F.LK_STAT_STATE)).trans) fun a hlane hmode => ?_
  have hf : l.find? (fun y => y.pos == p) = none := by simpa using hl
  have hia : a.isIsarsal (d * 160 + sh * 10 + p) = true := by rw [← hi, State.isIsarsal, State.isIsarsal, hmode]
  have hm : a.laneMode (d * 160 + sh * 10 + p) = 0 := by
    simp only [State.isIsarsal, Bool.and_eq_true, beq_iff_eq] at hia
    exact hia.2
  have hs : a.endTraining l (d * 160 + sh * 10 + p) p = a.setLane (d * 160 + sh * 10 + p) laHUNT := by
    simp [State.endTraining, hlane, ha, hm, hia, hf]
  rw [hs]
  exact lane_setLane_same a _ (by decide)

theorem trainingDone_sdi {s : State} {d sh p : Nat} {l : List Trained} {x : Trained} (hon : s.domain (d * 32 + 8 + sh) = dmON)
    (hp : p < 9) (ha : s.lane (d * 160 + sh * 10 + p) = laACQUIRE) (hm : s.laneMode (d * 160 + sh * 10 + p) = 3)
    (hl : l.find? (fun y => y.pos == p) = some x) (h1 : 1 ≤ x.rate) (h8 : x.rate ≤ 8) :
    (s.trainingDone d sh l).lane (d * 160 + sh * 10 + p) = laLOCKED ∧
      (s.trainingDone d sh l).fld F.LK_STAT_SDIRATE (d * 160 + sh * 10 + p) = x.rate := by
  have carried {a b : State} (hk : KeepsWord (statKey (d * 160 + sh * 10 + p) 0) a b)
      (h : a.lane (d * 160 + sh * 10 + p) = laLOCKED ∧ a.fld F.LK_STAT_SDIRATE (d * 160 + sh * 10 + p) = x.rate) :
      b.lane (d * 160 + sh * 10 + p) = laLOCKED ∧ b.fld F.LK_STAT_SDIRATE (d * 160 + sh * 10 + p) = x.rate :=
    ⟨(hk.fld (f := F.LK_STAT_STATE)).trans h.1, (hk.fld (f := F.LK_STAT_SDIRATE)).trans h.2⟩
  refine carried (trainingDone_keepsLanes l hon hp) (endTrainings_at hp (fun a b => carried) fun a hlane hmode => ?_)
  have hs : a.endTraining l (d * 160 + sh * 10 + p) p =
      (a.setFld F.LK_STAT_SDIRATE (d * 160 + sh * 10 + p) x.rate).setLane (d * 160 + sh * 10 + p) laLOCKED := by
    simp [State.endTraining, hlane, ha, hmode, hm, hl, h1, h8]
  rw [hs]
  exact ⟨lane_setLane_same _ _ (by decide), (fld_setLane_apart _ _ _ _ rfl rfl).trans
    (fld_setFld_of_lt (f := F.LK_STAT_SDIRATE) a _ _ rfl (lt_of_le_of_lt h8 (by decide)))⟩

end Sys2Proof.Machine
end

section
/-! A transmit lane's walk to its taps (R209). -/
namespace Sys2Proof.Machine

/-! ### Fields of a word being written -/

theorem Fld.of_put_same {f : Fld} (h : f.fitsWord = true) (v : W) (n : Nat) : f.of (f.put v n) = n % 2 ^ f.len :=
  getBits_putBits_same v n (by simpa [Fld.fitsWord] using h)

theorem Fld.of_put_beside {f g : Fld} (h : (decide (f.lo + f.len ≤ g.lo) || decide (g.lo + g.len ≤ f.lo)) = true) (v : W) (n : Nat) :
    f.of (g.put v n) = f.of v :=
  getBits_putBits_other v n (by simpa using h)

theorem Fld.of_lt (f : Fld) (v : W) : f.of v < 2 ^ f.len := Nat.mod_lt _ (Nat.two_pow_pos _)

/-! ### One step -/

theorem towards_lt {a b n : Nat} (ha : a < n) (hb : b < n) : towards a b < n := by
  unfold towards
  split
  · omega
  · split <;> omega

/-- The taps after one step from `x` towards `goal`. -/
def stepTaps (x goal : W) : W :=
  F.LK_TXEQ_POST.put (F.LK_TXEQ_PRE.put (F.LK_TXEQ_AMP.put x (towards (F.LK_TXEQ_AMP.of x) (F.LK_TXEQ_AMP.of goal)))
    (towards (F.LK_TXEQ_PRE.of x) (F.LK_TXEQ_PRE.of goal))) (towards (F.LK_TXEQ_POST.of x) (F.LK_TXEQ_POST.of goal))

/-- What a field stepped holds. -/
theorem of_put_towards {f : Fld} (h : f.fitsWord = true) (v x goal : W) :
    f.of (f.put v (towards (f.of x) (f.of goal))) = towards (f.of x) (f.of goal) :=
  (Fld.of_put_same h ..).trans (Nat.mod_eq_of_lt (towards_lt (f.of_lt x) (f.of_lt goal)))

theorem stepTaps_amp (x goal : W) : F.LK_TXEQ_AMP.of (stepTaps x goal) = towards (F.LK_TXEQ_AMP.of x) (F.LK_TXEQ_AMP.of goal) := by
  rw [stepTaps, Fld.of_put_beside rfl, Fld.of_put_beside rfl, of_put_towards rfl]

theorem stepTaps_pre (x goal : W) : F.LK_TXEQ_PRE.of (stepTaps x goal) = towards (F.LK_TXEQ_PRE.of x) (F.LK_TXEQ_PRE.of goal) := by
  rw [stepTaps, Fld.of_put_beside rfl, of_put_towards rfl]

theorem stepTaps_post (x goal : W) : F.LK_TXEQ_POST.of (stepTaps x goal) = towards (F.LK_TXEQ_POST.of x) (F.LK_TXEQ_POST.of goal) :=
  of_put_towards rfl ..

/-! ### What the mode leaves of the taps -/

theorem sdiTaps_amp (s : State) (e : Nat) (v : W) : F.LK_TXEQ_AMP.of (s.sdiTaps e v) = F.LK_TXEQ_AMP.of v := by
  unfold State.sdiTaps
  split
  · rw [Fld.of_put_beside rfl, Fld.of_put_beside rfl]
  · rfl

theorem sdiTaps_of_ne {s : State} {e : Nat} (h : s.laneMode e ≠ 3) (v : W) : s.sdiTaps e v = v := if_neg h

theorem tapGoal_of_ne {s : State} {e : Nat} (h : s.laneMode e ≠ 1) : s.tapGoal e = s.sdiTaps e (s.word 0x4018 e 0) := by
  simp [State.tapGoal, h]

theorem tapGoal_amp (s : State) (e : Nat) : F.LK_TXEQ_AMP.of (s.tapGoal e) = F.LK_TXEQ_AMP.of (s.word 0x4018 e 0) := by
  unfold State.tapGoal
  extract_lets v
  split
  · rw [Fld.of_put_beside rfl, Fld.of_put_beside rfl]
    exact sdiTaps_amp ..
  · exact sdiTaps_amp ..

/-! ### The walk -/

/-- The taps whose reaching ends the walk: in ETH-KR4 those written (R209). -/
def State.tapEnd (s : State) (e : Nat) : W := if s.laneMode e = 1 then s.word 0x4018 e 0 else s.tapGoal e

theorem txeqStep_walks {s : State} {e : Nat} {x : W} (hx : (s.laneRun e).taps = some x) (hs : s.sending e = true) :
    s.txeqStep e = s.setLaneRun { s.laneRun e with
      taps := if stepTaps x (s.tapGoal e) = s.tapEnd e then none else some (stepTaps x (s.tapGoal e)) } := by
  unfold State.txeqStep
  rw [hx]
  exact if_pos hs

theorem txeqStep_idle {s : State} {e : Nat} (h : (s.laneRun e).taps = none ∨ s.sending e = false) : s.txeqStep e = s := by
  unfold State.txeqStep
  split
  · rfl
  next t ht => exact if_neg (by simp [h.resolve_left (by simp [ht])])

theorem taps_setLaneRun {s : State} {e : Nat} {y : LaneRun} (h : y.e = e) :
    (s.setLaneRun y).taps e = s.sdiTaps e (y.taps.getD (s.word 0x4018 e 0)) := by
  rw [State.taps, laneRun_setLaneRun_same h]
  rfl

/-- The taps in effect after a step: those stepped to, or, at the end of the walk, those written. -/
theorem taps_txeqStep {s : State} {e : Nat} {x : W} (hx : (s.laneRun e).taps = some x) (hs : s.sending e = true) :
    (s.txeqStep e).taps e =
      s.sdiTaps e (if stepTaps x (s.tapGoal e) = s.tapEnd e then s.word 0x4018 e 0 else stepTaps x (s.tapGoal e)) := by
  rw [txeqStep_walks hx hs, taps_setLaneRun (by exact laneRun_e s e)]
  refine congrArg (s.sdiTaps e) ?_
  split
  · rfl
  · rfl

theorem txeqStep_amp {s : State} {e : Nat} {x : W} (hx : (s.laneRun e).taps = some x) (hs : s.sending e = true) :
    F.LK_TXEQ_AMP.of ((s.txeqStep e).taps e) = towards (F.LK_TXEQ_AMP.of x) (F.LK_TXEQ_AMP.of (s.word 0x4018 e 0)) := by
  have hend : F.LK_TXEQ_AMP.of (s.tapEnd e) = F.LK_TXEQ_AMP.of (s.word 0x4018 e 0) := by
    unfold State.tapEnd
    split
    · rfl
    · exact tapGoal_amp ..
  rw [taps_txeqStep hx hs, sdiTaps_amp, ← tapGoal_amp, ← stepTaps_amp]
  split
  next h => rw [h, hend]
  next => rfl

/-- Outside ETH-KR4 and SDI the taps in effect are those stepped to. -/
theorem txeqStep_taps {s : State} {e : Nat} {x : W} (hx : (s.laneRun e).taps = some x) (hs : s.sending e = true) (h1 : s.laneMode e ≠ 1)
    (h3 : s.laneMode e ≠ 3) : (s.txeqStep e).taps e = stepTaps x (s.word 0x4018 e 0) := by
  have hg : s.tapGoal e = s.word 0x4018 e 0 := (tapGoal_of_ne h1).trans (sdiTaps_of_ne h3 _)
  have hend : s.tapEnd e = s.word 0x4018 e 0 := (if_neg h1).trans hg
  rw [taps_txeqStep hx hs, sdiTaps_of_ne h3, hg, hend]
  split
  next h => exact h.symm
  next => rfl

end Sys2Proof.Machine
end

section
/-! The statement of the essence model about a lane's events (R49, R201, R203, R207, R209, R215). -/
namespace Sys2Proof.Machine

/-- Settles O5, event by event: the header block by the state of its lane, the signal, the end of training lane by lane, the taps, the stay. -/
theorem laneEventsMoveTheLane : Obligations.LaneEventsMoveTheLane := by
  unfold Obligations.LaneEventsMoveTheLane
  refine ⟨?header, ?loss, ?signal, ?training, ?taps, ?stayLos, ?stayReturn⟩
  case header =>
    intro e pos sync h arrival c s
    have good (hg : sync = 2 ∧ hdrOk h = true ∧ hdrType h ≠ 3) : (sync == 2 && hdrOk h && hdrType h != 3) = true := by
      simpa [and_assoc] using hg
    have counted {n : Nat} {l : List Cand} {t : State} (hl : s.lane e = laHUNT)
        (ht : t = s.setLaneRun { s.laneRun e with cands := ⟨pos, n, hdrSheet h⟩ :: l }) :
        t.lane e = laHUNT ∧ (t.laneRun e).cands.find? (fun x => x.pos == pos) = some ⟨pos, n, hdrSheet h⟩ := by
      obtain ⟨hlane, hcands⟩ := setCands_hunting (⟨pos, n, hdrSheet h⟩ :: l) hl
      rw [ht, hcands]
      exact ⟨hlane, candidate_found l rfl⟩
    refine ⟨_, rfl, fun hr hi hl hg hc hn hf => ?fourth, fun hr hi hl hg hc hn => ?counts, fun hr hi hl hg hc hn => ?begins,
      fun hr hi hl hg => ?ends, fun hr hi hl hp hs hk => ?passes, fun hr hi hl hp hf => ?fails, headerBlock_elsewhere⟩
    case fourth =>
      rw [headerBlock_hunting hr hi hl, huntBlock_fourth (good hg) hc (by simp [hf, hn]), gainLock_run]
      exact ⟨gainLock_lane .., rfl, rfl⟩
    case counts => exact counted hl ((headerBlock_hunting hr hi hl).trans (huntBlock_counts (good hg) hc hn))
    case begins => exact counted hl ((headerBlock_hunting hr hi hl).trans (huntBlock_begins (good hg) hc hn))
    case ends =>
      rw [headerBlock_hunting hr hi hl]
      exact huntBlock_fails (Bool.eq_false_iff.2 fun hb => hg (by simpa [and_assoc] using hb)) hl
    case passes =>
      rw [headerBlock_locked hr hi hl hp, hs, hk]
      exact lockedBlock_passes hl
    case fails =>
      have hb : (sync == 2 && hdrOk h) = false := Bool.eq_false_iff.2 fun hb => hf (by simpa using hb)
      rw [headerBlock_locked hr hi hl hp, hb]
      exact lockedBlock_fails
  case loss => exact fun e s => ⟨_, rfl, signalLoss_locked, signalLoss_unlocked, signalLoss_idle⟩
  case signal => exact fun e s => ⟨_, rfl, signalReturn_found, signalReturn_idle⟩
  case training =>
    exact fun d sh p l x s => ⟨_, rfl, trainingDone_stay l, trainingDone_untrained, trainingDone_sdi, trainingDone_off l⟩
  case taps =>
    refine fun e x s => ⟨_, rfl, fun hx hs => ⟨txeqStep_amp hx hs, fun h1 h3 => ?_⟩, txeqStep_idle⟩
    rw [txeqStep_taps hx hs h1 h3]
    exact ⟨stepTaps_pre .., stepTaps_post ..⟩
  case stayLos => exact fun e s => ⟨_, rfl, stayLost_lane⟩
  case stayReturn => exact fun e s => ⟨_, rfl, stayBack_lane, stayBack_idle⟩

end Sys2Proof.Machine
end

section
/-! A held take's deadline while house time is slewing back (R90, R276). -/
namespace Sys2Proof.Machine

/-- A take of F+0 30 at 25 frames a second, held for a rebuild until H reads one second. -/
def heldTake : Work := { mkWork .take 0 0 0 0 0 0 false 0x20 true with state := tsHELD, due := 30, land := 30, deadline := secs 1 }

/-- The take held in ACTIVE, with H slewing back towards the counter, which it leads by 1 ms. -/
def slewingHold : State := { slewingState with xp := { slewingState.xp with work := [heldTake] } }

/-- The wait for the deadline is counted in steps of the counter; H, slewing back, falls short of it. -/
theorem deadline_falls_short : (slewingHold.waitHouse heldTake.deadline).house < heldTake.deadline := by decide +kernel

theorem tellTwin_steady (s : State) : Steady s s.tellTwin := .of_within (tellTwin_within s) rfl

/-- The end of a single held work takes no time once its deadline has been waited for. -/
theorem holdDeadline_house {s : State} {e : Nat} {x : Work} (hd : s.decides = true) (hx : s.workOn .take e = some x)
    (hs : x.state = tsHELD ∧ x.salvo = 0) : (s.holdDeadline .take e).house = (s.waitHouse x.deadline).house := by
  unfold State.holdDeadline
  rw [hd, hx]
  simp only [Bool.not_true, Bool.false_eq_true, if_false, reduceCtorEq, if_pos hs]
  exact ((finish_steady ..).trans (tellTwin_steady _)).house

/-- Refutes O12: the hold of a take that ends while house time slews back (R276) ends before its deadline. -/
theorem not_takesAreAcceptedAndLand : ¬ Obligations.TakesAreAcceptedAndLand := by
  unfold Obligations.TakesAreAcceptedAndLand
  rintro ⟨-, -, -, hdeadline, -⟩
  obtain ⟨t, he, hended, -⟩ := hdeadline 0 heldTake slewingHold
  have hd : slewingHold.decides = true := by decide +kernel
  have hx : slewingHold.workOn .take 0 = some heldTake := rfl
  obtain ⟨-, -, hreached⟩ := hended hd hx rfl rfl
  have hu : (slewingHold.holdDeadline .take 0).settleIsolated = t.settleIsolated := Host.Outcome.next.inj he
  have hh : t.house = (slewingHold.waitHouse heldTake.deadline).house := by
    rw [← (settleIsolated_steady t).house, ← hu, (settleIsolated_steady _).house, holdDeadline_house hd hx ⟨rfl, rfl⟩]
  exact absurd (hh ▸ hreached) (Nat.not_le.2 deadline_falls_short)

end Sys2Proof.Machine
end

section
/-! What the end of works and salvos leaves of the time since power-on, of the role, and so of what the twin is told (R74, R87, R283). -/
namespace Sys2Proof.Machine

/-- From `s` to `t` no time passes since power-on, and the role in force stands. -/
structure KeepsWatch (s t : State) : Prop where
  mono : t.clk.mono = s.clk.mono
  role : t.sys.role = s.sys.role

/-- The parts `l` hold neither the clock nor the role. -/
def sparesWatch (l : List Part) : Bool := !takesIn l Part.clk && !takesIn l Part.sys

section KeepsWatch
variable {s t u : State}

theorem KeepsWatch.refl : KeepsWatch s s := ⟨rfl, rfl⟩

theorem KeepsWatch.trans (h : KeepsWatch s t) (g : KeepsWatch t u) : KeepsWatch s u :=
  ⟨g.mono.trans h.mono, g.role.trans h.role⟩

theorem KeepsWatch.of_within {l : List Part} (h : Within l s t) (m : sparesWatch l = true) : KeepsWatch s t := by
  simp only [sparesWatch, Bool.and_eq_true, Bool.not_eq_true'] at m
  obtain ⟨hc, hs⟩ := m
  exact ⟨congrArg Clk.mono (h.agrees.clk hc), congrArg SysState.role (h.agrees.sys hs)⟩

/-- One more operation, on parts that hold neither. -/
theorem KeepsWatch.step {l : List Part} (h : KeepsWatch s t) (g : Within l t u) (m : sparesWatch l = true) : KeepsWatch s u :=
  h.trans (.of_within g m)

theorem KeepsWatch.ite {c : Prop} [Decidable c] (ht : KeepsWatch s t) (hu : KeepsWatch s u) :
    KeepsWatch s (if c then t else u) := by split <;> assumption

theorem KeepsWatch.foldl {α : Type} {f : State → α → State} {xs : List α} (ht : KeepsWatch s t)
    (hf : ∀ a x, KeepsWatch a (f a x)) : KeepsWatch s (xs.foldl f t) := by
  induction xs generalizing t with
  | nil => exact ht
  | cons x xs ih => exact ih (ht.trans (hf t x))

theorem KeepsWatch.now (h : KeepsWatch s t) : t.now = s.now := h.mono

end KeepsWatch

/-! ### Records and faults -/

/-- A record moves the sequence counter, not the time. -/
theorem writeRec_keepsWatch (s : State) (n : NewRec) : KeepsWatch s (s.writeRec n).1 := by
  refine ⟨?_, congrArg SysState.role ((writeRec_within s n).agrees.sys rfl)⟩
  unfold State.writeRec
  extract_lets +onlyGivenNames -merge merge
  clear_value merge
  split
  · split
    · rfl
    · extract_lets +onlyGivenNames -merge r merged
      have hm : merged.clk = s.clk := rfl
      split <;> exact congrArg Clk.mono hm
  · extract_lets +onlyGivenNames -merge seq r clk counted stored
    have hc : stored.clk = counted.clk := (store_within ..).agrees.clk rfl
    have hs : stored.clk.mono = s.clk.mono := Eq.trans (congrArg Clk.mono hc) rfl
    split <;> exact hs

theorem driveFault_keepsWatch (s : State) : KeepsWatch s s.driveFault := ⟨rfl, rfl⟩

theorem isolateDie_keepsWatch (s : State) (d code seq : Nat) (handed : Bool) : KeepsWatch s (s.isolateDie d code seq handed) := by
  unfold State.isolateDie
  extract_lets q s1 s2 s3 s4 w f s5
  have h2 : KeepsWatch s s2 := (KeepsWatch.of_within (withMgr_within ..) rfl).step (bump_within ..) rfl
  have h3 : KeepsWatch s s3 := h2.trans ⟨rfl, rfl⟩
  have h4 : KeepsWatch s s4 := ((h3.step (setFld_within ..) rfl).step (relays_within _) rfl).step (notify_within ..) rfl
  have hw : KeepsWatch s w.1 := h4.trans (writeRec_keepsWatch ..)
  have h5 : KeepsWatch s s5 := (hw.step (withMgr_within ..) rfl).step (tellRecord_within ..) rfl
  exact .ite .refl (h5.trans (driveFault_keepsWatch _))

theorem raiseSeq_keepsWatch (s : State) (code : Nat) (l : Level) (die p1 p2 p3 : Nat) (byHandler : Bool) :
    KeepsWatch s (s.raiseSeq code l die p1 p2 p3 byHandler).1 := by
  unfold State.raiseSeq
  extract_lets u l1 m t l2 esc old w told written f accepted toldOf counted merged out isolated driven
  have hw : KeepsWatch s written := writeRec_keepsWatch ..
  have ha : KeepsWatch s accepted := hw.step (withMgr_within ..) rfl
  have ht : KeepsWatch s toldOf := .ite (ha.step (tellRecord_within ..) rfl) ha
  have hc : KeepsWatch s counted := .ite (ht.step (bump_within ..) rfl) ht
  have hm : KeepsWatch s merged := .ite (hc.step (bump_within ..) rfl) hc
  have ho : KeepsWatch s out := .ite (hm.step (takeOut_within ..) rfl) hm
  have hi : KeepsWatch s isolated := .ite (ho.trans (isolateDie_keepsWatch ..)) ho
  have hd : KeepsWatch s driven := hi.trans (driveFault_keepsWatch _)
  exact .ite hd (hd.step (notify_within ..) rfl)

theorem raise_keepsWatch (s : State) (code die p1 p2 p3 : Nat) : KeepsWatch s (s.raise code die p1 p2 p3) :=
  raiseSeq_keepsWatch ..

theorem note_keepsWatch (s : State) (code p1 p2 p3 : Nat) : KeepsWatch s (s.note code p1 p2 p3) := raise_keepsWatch ..

/-! ### Works and salvos -/

theorem finishAs_keepsWatch (s : State) (x : Work) (st : Nat) {out : State → State} (ho : ∀ a, KeepsWatch a (out a)) :
    KeepsWatch s (s.finishAs x st out) := by
  unfold State.finishAs
  extract_lets ended counted dropped flat unmade
  have he : KeepsWatch s ended := (KeepsWatch.of_within (dropWork_within ..) rfl).trans (ho _)
  have hc : KeepsWatch s counted := he.step (countTake_within ..) rfl
  have hd : KeepsWatch s dropped := .ite hc (hc.step (dropImages_within ..) rfl)
  have hf : KeepsWatch s flat := .ite (.ite hd (hd.step (setFld_within ..) rfl)) hc
  have hu : KeepsWatch s unmade := .ite hf (hf.step (unmake_within ..) rfl)
  exact .ite (hu.trans (raise_keepsWatch ..)) (.ite (hu.trans (raise_keepsWatch ..)) hu)

theorem fail_keepsWatch (s : State) (x : Work) (st : Nat) : KeepsWatch s (s.fail x st) :=
  .ite (finishAs_keepsWatch _ _ _ fun _ => .of_within (openOutcome_within ..) rfl)
    (finishAs_keepsWatch _ _ _ fun _ => .of_within (setOutcome_within ..) rfl)

theorem endSalvo_keepsWatch (s : State) (n st result culprit : Nat) : KeepsWatch s (s.endSalvo n st result culprit) := by
  unfold State.endSalvo
  extract_lets worded told
  have hw : KeepsWatch s worded := ⟨rfl, rfl⟩
  have ht : KeepsWatch s told := (hw.step (dropSalvo_within ..) rfl).step (notify_within ..) rfl
  exact .ite (ht.trans (note_keepsWatch ..)) ht

theorem failSalvo_keepsWatch (s : State) (n result : Nat) (own : Work → Option Nat) (rest : Nat) :
    KeepsWatch s (s.failSalvo n result own rest) := by
  unfold State.failSalvo
  extract_lets l culprit failed
  exact (KeepsWatch.foldl .refl fun a x => fail_keepsWatch ..).trans (endSalvo_keepsWatch ..)

end Sys2Proof.Machine
end

section
/-! Commits and ARMs at the pair of twins: where they are decided, sent on or turned away, and when they are answered (R93, R283, R291). -/
namespace Sys2Proof.Machine

/-- The parts `l` hold neither the twin's configuration nor `TW_STATE`. -/
def sparesPair (l : List Part) : Bool := !takesIn l 0x5808 && !takesIn l 0x5818

section Pair
variable {l : List Part} {s t : State}

/-- Where the role stands too, the same twin decides, and its decisions go to the other as before. -/
theorem Within.pair_eq (h : Within l s t) (m : sparesPair l = true) (hr : t.sys.role = s.sys.role) :
    t.decides = s.decides ∧ t.mirrors = s.mirrors := by
  simp only [sparesPair, Bool.and_eq_true, Bool.not_eq_true'] at m
  obtain ⟨hconfig, hstate⟩ := m
  have he : t.fld F.TW_CONFIG_EN 0 = s.fld F.TW_CONFIG_EN 0 := h.fld_eq hconfig 0
  have hd : t.fld F.TW_STATE_DECIDING 0 = s.fld F.TW_STATE_DECIDING 0 := h.fld_eq hstate 0
  have hl : t.fld F.TW_STATE_LINK 0 = s.fld F.TW_STATE_LINK 0 := h.fld_eq hstate 0
  have hp : t.paired = s.paired := by rw [State.paired, State.paired, he, hr]
  have hdec : t.decides = s.decides := by rw [State.decides, State.decides, hp, hd]
  exact ⟨hdec, by rw [State.mirrors, State.mirrors, hp, hdec, hl]⟩

theorem stir_pair (s : State) : s.stir.decides = s.decides ∧ s.stir.mirrors = s.mirrors :=
  (stir_within s).pair_eq rfl (congrArg SysState.role ((stir_within s).agrees.sys rfl))

theorem stir_fld (s : State) (f : Fld) (e : Nat) : s.stir.fld f e = s.fld f e := by
  rw [State.fld, State.fld, State.word, State.word, stir_regs]

theorem stir_xp (s : State) : s.stir.xp = s.xp := (stir_within s).agrees.xp rfl

theorem tellTwin_sent (s : State) : s.tellTwin.tw.sent = if s.mirrors = true then s.tw.sent + 1 else s.tw.sent := by
  unfold State.tellTwin
  split <;> rfl

end Pair

/-! ### Where a commit is decided -/

section Commit
variable {s t u : State} {rq : Req} {hw : HostWrite} {own k : State → Status × State} {st : Status} {obj e : Nat} {commits : Bool}

/-- At the twin that does not decide. -/
theorem commitHere_elsewhere (hd : s.decides = false) :
    s.commitHere rq obj e commits k = if s.fld F.TW_STATE_LINK 0 = 1 then (.forwarded, s.sendOn ⟨objIx obj, 0, e⟩ rq)
      else (.twinlink, s.refuse rq.ctx.val obj e .twinlink) := by
  simp only [State.commitHere, State.decideHere, hd, Bool.and_false, Bool.false_eq_true, if_false]

/-- What tells the twin nothing is answered at once. -/
theorem commitHere_untold (hd : s.decides = true) (hk : (k s).2.tw = s.tw) : s.commitHere rq obj e commits k = k s := by
  simp only [State.commitHere, State.decideHere, State.afterAck, hd, if_true, hk, Nat.lt_irrefl, decide_false, Bool.and_false,
    Bool.false_eq_true, if_false, ite_self]

/-- A CANCEL or a DISCARD waits for no acknowledgement. -/
theorem commitHere_atOnce (hd : s.decides = true) : s.commitHere rq obj e false k = k s := by
  simp only [State.commitHere, State.decideHere, hd, if_true, Bool.false_and, Bool.false_eq_true, if_false]

/-- A commit carried out and told to the twin: in LOCKSTEP, where the twin is told, its answer waits. -/
theorem commitHere_told (hd : s.decides = true) (hk : k s = (st, u.tellTwin)) (hm : u.mirrors = s.mirrors)
    (hs : u.tw.sent = s.tw.sent) :
    ∃ v, Within [Part.tw] u v ∧
      s.commitHere rq obj e true k = (if s.sync = syncLOCKSTEP ∧ s.mirrors = true then .forwarded else st, v) := by
  have hw : Within [Part.tw] u u.tellTwin := tellTwin_within u
  have hlt : s.tw.sent < u.tellTwin.tw.sent ↔ s.mirrors = true := by
    rw [tellTwin_sent, hm, hs]
    split <;> simp [*]
  simp only [State.commitHere, State.decideHere, State.afterAck, hd, if_true, hk, Bool.true_and]
  by_cases hc : s.sync = syncLOCKSTEP ∧ s.mirrors = true
  · rw [if_pos (by simpa [hlt] using hc), if_pos hc]
    exact ⟨_, (hw.step (sendOn_within ..) rfl).step (set_tw_within ..) rfl, rfl⟩
  · rw [if_neg (by simpa [hlt] using hc), if_neg hc]
    exact ⟨_, hw, rfl⟩

/-! ### What a host's commit is answered -/

theorem passed_forwarded (hp : s.passes rq hw = true) (ho : own s.stir = (.forwarded, t)) : (s.request rq hw own).host.resp = none := by
  obtain ⟨w, h⟩ := request_judged (alive_of_passes hp) (passed_judged hp ho)
  rw [h, answer_resp]
  rfl

theorem commit_answered (hp : s.passes rq hw = true) (ho : own s.stir = s.stir.commitHere rq obj e true k) (hd : s.decides = true)
    (hk : k s.stir = (st, u.tellTwin)) (hf : st ≠ .forwarded) (hm : u.mirrors = s.stir.mirrors) (hs : u.tw.sent = s.stir.tw.sent) :
    let t := s.request rq hw own
    Within (Part.tw :: Parts.judged) u t ∧
      if s.sync = syncLOCKSTEP ∧ s.mirrors = true then t.host.resp = none else t.replied hw.addr st := by
  obtain ⟨v, hv, he⟩ := commitHere_told (rq := rq) (obj := obj) (e := e) ((stir_pair s).1.trans hd) hk hm hs
  have hsync : s.stir.sync = s.sync := stir_fld ..
  rw [hsync, (stir_pair s).2] at he
  have hj := ho.trans he
  refine ⟨(hv.mono rfl).step (passed_within hp hj) rfl, ?_⟩
  split
  next hc => rw [if_pos hc] at hj; exact passed_forwarded hp hj
  next hc => rw [if_neg hc] at hj; exact passed_replied hp hj hf

/-- A commit, CANCEL, ARM or DISCARD at the twin that does not decide is sent on, or answered TWINLINK without a link. -/
theorem commit_elsewhere (hp : s.passes rq hw = true) (ho : own s.stir = s.stir.commitHere rq obj e commits k)
    (hd : s.decides = false) :
    let t := s.request rq hw own
    t.xp = s.xp ∧ if s.fld F.TW_STATE_LINK 0 = 1 then t.host.resp = none else t.replied hw.addr .twinlink := by
  rw [commitHere_elsewhere ((stir_pair s).1.trans hd), stir_fld] at ho
  have kept {a : State} {st : Status} {l : List Part} (h : Within l s.stir a) (m : takesIn l Part.xp = false)
      (hj : own s.stir = (st, a)) : (s.request rq hw own).xp = s.xp :=
    (((passed_within hp hj).agrees.xp rfl).trans (h.agrees.xp m)).trans (stir_xp s)
  split
  next hl =>
    rw [if_pos hl] at ho
    exact ⟨kept (sendOn_within ..) rfl ho, passed_forwarded hp ho⟩
  next hl =>
    rw [if_neg hl] at ho
    exact ⟨kept (refuse_within ..) rfl ho, passed_replied hp ho (by decide)⟩

/-- One refused at the twin that decides is answered at once, and changes `XP_REFUSED` alone. -/
theorem commit_refused (hp : s.passes rq hw = true) (ho : own s.stir = s.stir.commitHere rq obj e commits k) (hd : s.decides = true)
    {c i d : Nat} (hk : k s.stir = (st, s.stir.refuse c i d st)) (hf : st ≠ .forwarded) :
    let t := s.request rq hw own
    Within ([0x2009, Part.pw] ++ Parts.judged) s t ∧ t.replied hw.addr st := by
  have hj : own s.stir = (st, s.stir.refuse c i d st) := by
    rw [ho, commitHere_untold ((stir_pair s).1.trans hd) (by rw [hk]; rfl), hk]
  have hr : Within ([0x2009, Part.pw] ++ Parts.judged) s (s.stir.refuse c i d st) :=
    ((stir_within s).mono rfl).step (refuse_within ..) rfl
  exact ⟨hr.step (passed_within hp hj) rfl, passed_replied hp hj hf⟩

end Commit

end Sys2Proof.Machine
end

section
/-! Salvos: what ends them, and how an ARM, a DISCARD and the time-out are judged (R83–R87). -/
namespace Sys2Proof.Machine

/-! ### The end of a salvo (R84) -/

section End
variable (s : State) (n : Nat)

theorem endSalvo_result {st result : Nat} (culprit : Nat) (hs : st < 16) (hr : result < 256) :
    (s.endSalvo n st result culprit).salvoState n = st ∧ (s.endSalvo n st result culprit).fld F.XP_SALVO_RESULT n = result := by
  unfold State.endSalvo
  extract_lets worded told
  have hstate : worded.fld F.XP_SALVO_STATE n = st := by
    rw [fld_setFld_apart (h := rfl), fld_setFld_apart (h := rfl)]
    exact fld_setFld_of_lt (f := F.XP_SALVO_STATE) _ n st rfl hs
  have hresult : worded.fld F.XP_SALVO_RESULT n = result := by
    rw [fld_setFld_apart (h := rfl)]
    exact fld_setFld_of_lt (f := F.XP_SALVO_RESULT) _ n result rfl hr
  have ht : Within (Parts.dropSalvo ++ Parts.notify) worded told :=
    ((dropSalvo_within ..).mono rfl).step (notify_within ..) rfl
  have hn : Within (Parts.dropSalvo ++ Parts.notify ++ Parts.note) worded
      (if st = saFAILED then told.note 0x2001 n result culprit else told) := by
    split
    · exact (ht.mono rfl).step (note_within ..) rfl
    · exact ht.mono rfl
  exact ⟨(hn.fld_eq rfl n).trans hstate, (hn.fld_eq rfl n).trans hresult⟩

theorem failSalvo_result {result : Nat} (own : Work → Option Nat) (rest : Nat) (hr : result < 256) :
    (s.failSalvo n result own rest).salvoState n = saFAILED ∧ (s.failSalvo n result own rest).fld F.XP_SALVO_RESULT n = result := by
  unfold State.failSalvo
  exact endSalvo_result _ n _ (by decide) hr

/-- The end of a salvo leaves what the twin is told by. -/
theorem failSalvo_pair (result : Nat) (own : Work → Option Nat) (rest : Nat) :
    (s.failSalvo n result own rest).mirrors = s.mirrors ∧ (s.failSalvo n result own rest).tw = s.tw :=
  have h := failSalvo_within s n result own rest
  ⟨(h.pair_eq rfl (failSalvo_keepsWatch ..).role).2, h.agrees.tw rfl⟩

end End

/-! ### ARM (R84, R85) -/

/-- An ARM taken: its words stand, and its salvo has its place in the order of acceptance (R76). -/
def State.armTaken (s : State) (n : Nat) (w0 w1 : W) : State :=
  let o := (s.storeCommit .salvo n w0 w1).nextOrder
  o.1.setSalvo { o.1.salvo n with order := o.2 }

section ArmTaken
variable (s : State) (n : Nat) (w0 w1 : W)

theorem armTaken_within : Within [0x2020, Part.xp] s (s.armTaken n w0 w1) :=
  ((((setWord_within s 0x2020 n 0 w0).mono rfl).step (setWord_within _ 0x2020 n 1 w1) rfl).step (nextOrder_within _) rfl).step
    (setSalvo_within ..) rfl

theorem armTaken_work : (s.armTaken n w0 w1).xp.work = s.xp.work := rfl

theorem armTaken_regs : (s.armTaken n w0 w1).regs = ((s.setWord 0x2020 n 0 w0).setWord 0x2020 n 1 w1).regs := by
  simp only [State.armTaken, State.storeCommit, State.nextOrder, State.setSalvo]

theorem armTaken_words : (s.armTaken n w0 w1).word 0x2020 n 0 = w0 ∧ (s.armTaken n w0 w1).word 0x2020 n 1 = w1 := by
  rw [State.word, State.word, armTaken_regs, ← State.word, ← State.word, word_setWord_same]
  exact ⟨(word_setWord_other _ w1 (by simp)).trans (word_setWord_same ..), rfl⟩

theorem armTaken_fld {f : Fld} (hf : f.w ≠ 0 ∧ f.w ≠ 1) (e : Nat) : (s.armTaken n w0 w1).fld f e = s.fld f e := by
  rw [State.fld, State.word, armTaken_regs, ← State.word, word_setWord_other _ _ (by simp [hf]), word_setWord_other _ _ (by simp [hf])]
  rfl

end ArmTaken

section Arm
variable {s : State} {ctx n : Nat}

theorem salvoArm_owner (w0 w1 : W) (h : ¬(s.salvoState n = saIDLE ∨ s.fld F.XP_SALVO_OWNER n = ctx)) :
    s.salvoArm ctx n w0 w1 = (.owner, s.refuse ctx 2 n .owner) := by
  unfold State.salvoArm
  exact if_pos (by simpa [not_or] using h)

theorem salvoArm_busy (w0 w1 : W) (h : s.salvoState n = saIDLE ∨ s.fld F.XP_SALVO_OWNER n = ctx) (ho : s.salvoState n ≠ saOPEN) :
    s.salvoArm ctx n w0 w1 = (.busy, s.refuse ctx 2 n .busy) := by
  unfold State.salvoArm
  extract_lets st
  exact (if_neg (by simpa [or_iff_not_imp_left] using h)).trans (if_pos (by simpa using ho))

theorem salvoArm_taken (w0 w1 : W) (ho : s.salvoState n = saOPEN) (hc : s.fld F.XP_SALVO_OWNER n = ctx) :
    s.salvoArm ctx n w0 w1 = (.ok, (if (s.armTaken n w0 w1).fld F.XP_SALVO_STAGED n != F.XP_SALVO_COUNT.of w0 then
        (s.armTaken n w0 w1).failSalvo n Status.count.code (fun _ => none) tsSALVO
      else (s.armTaken n w0 w1).decideSalvo n false).tellTwin) := by
  unfold State.salvoArm
  extract_lets st
  refine (if_neg (by simp [hc])).trans ((if_neg ?_).trans rfl)
  simp [st, ho]

end Arm

/-! ### DISCARD and the time-out (R83, R84, R87) -/

section Discard
variable {s : State} {ctx n : Nat}

theorem salvoDiscard_owner (h : ¬(s.salvoState n = saIDLE ∨ s.fld F.XP_SALVO_OWNER n = ctx)) :
    s.salvoDiscard ctx n = (.owner, s.refuse ctx 2 n .owner) := by
  unfold State.salvoDiscard
  exact if_pos (by simpa [not_or] using h)

theorem salvoDiscard_busy (h : s.salvoState n = saIDLE ∨ s.fld F.XP_SALVO_OWNER n = ctx) (ho : s.salvoState n ≠ saOPEN)
    (ha : s.salvoState n ≠ saARMED) (hh : s.salvoState n ≠ saHELD) : s.salvoDiscard ctx n = (.busy, s.refuse ctx 2 n .busy) := by
  unfold State.salvoDiscard
  extract_lets st
  exact (if_neg (by simpa [or_iff_not_imp_left] using h)).trans (if_pos (by simp [st, ho, ha, hh]))

theorem salvoDiscard_ends (h : s.salvoState n = saOPEN ∨ s.salvoState n = saHELD) (hc : s.fld F.XP_SALVO_OWNER n = ctx) :
    s.salvoDiscard ctx n = (.ok, (s.failSalvo n tsCANCELLED (fun _ => none) tsCANCELLED).tellTwin) := by
  unfold State.salvoDiscard
  extract_lets st
  have harmed : st ≠ saARMED := by rcases h with h | h <;> simp [st, h, saOPEN, saHELD, saARMED]
  rw [if_neg (by simp [hc]), if_neg (by rcases h with h | h <;> simp [st, h]), if_neg (by simp [harmed])]

/-- A salvo that ends CANCELLED once the time has passed until `u`. -/
theorem cancelled_at (s : State) (n u : Nat) :
    let t := ((s.waitUntil u).failSalvo n tsCANCELLED (fun _ => none) tsCANCELLED).tellTwin
    t.salvoState n = saFAILED ∧ t.fld F.XP_SALVO_RESULT n = tsCANCELLED ∧ u ≤ t.now := by
  intro t
  obtain ⟨hstate, hresult⟩ := failSalvo_result (s.waitUntil u) n (fun _ => none) tsCANCELLED (show tsCANCELLED < 256 by decide)
  have hw : Within Parts.tellTwin _ t := tellTwin_within _
  have hk : KeepsWatch (s.waitUntil u) t := (failSalvo_keepsWatch ..).step hw rfl
  exact ⟨(hw.fld_eq rfl n).trans hstate, (hw.fld_eq rfl n).trans hresult, (le_now_waitUntil s u).trans_eq hk.now.symm⟩

theorem salvoTimeout_ends (ho : s.salvoState n = saOPEN) (hd : s.decides = true) :
    (s.salvoTimeout n).salvoState n = saFAILED ∧ (s.salvoTimeout n).fld F.XP_SALVO_RESULT n = tsCANCELLED ∧
      (s.salvo n).last + secs 60 ≤ (s.salvoTimeout n).now := by
  unfold State.salvoTimeout
  rw [if_pos ⟨ho, hd⟩]
  exact cancelled_at s n ((s.salvo n).last + secs 60)

theorem salvoTimeout_idle (h : s.salvoState n ≠ saOPEN ∨ s.decides = false) : s.salvoTimeout n = s :=
  if_neg fun ⟨ho, hd⟩ => h.elim (· ho) fun hf => by simp [hf] at hd

end Discard

end Sys2Proof.Machine
end

section
/-! The decision of an ARM whose salvo has one take (R85, R86). -/
namespace Sys2Proof.Machine

/-- One take that leaves audio alone is all the work in progress, staged in salvo `n`; no table is in rebuild, and its recheck passes. -/
structure State.LoneTake (s : State) (n : Nat) (x : Work) (f : Format) : Prop where
  salvo   : n ≠ 0
  members : s.members n = [x]
  alone   : (s.xp.work.all fun y => y.salvo == n) = true
  take    : x.kind = .take
  afollow : x.afollow = true
  idle    : s.calState = calIDLE
  sound   : s.recheck false x = none
  times   : format (s.workFormat false .take x.elem x.w0) = some f

section Lone
variable {s t : State} {n : Nat} {x : Work} {f : Format}

/-- What a change of salvos alone, with the works kept, leaves a lone take. -/
theorem State.LoneTake.of_within (h : s.LoneTake n x f) (hw : Within [0x2020, Part.xp, Part.pw] s t) (hk : t.xp.work = s.xp.work) :
    t.LoneTake n x f := by
  have hport : t.portIn false = s.portIn false := by
    funext dst p
    cases dst
    · exact hw.word_eq rfl p 0
    · exact hw.word_eq rfl p 0
  have hsys : t.sys = s.sys := hw.agrees.sys rfl
  obtain ⟨hn, hm, ha, ht, hf, hi, hs, hx⟩ := h
  have hmembers : t.members n = s.members n := by rw [State.members, State.members, hk]
  have hcheck : t.recheck false x = s.recheck false x := by
    simp only [State.recheck, ht, State.takeCheck, hport, hsys]
  have hformat : t.workFormat false .take x.elem x.w0 = s.workFormat false .take x.elem x.w0 := by
    simp only [State.workFormat, hport]
  exact ⟨hn, hmembers.trans hm, hk ▸ ha, ht, hf, (hw.fld_eq rfl 0).trans hi, hcheck.trans hs, hformat ▸ hx⟩

theorem mem_insertWork {y : Work} : ∀ {l : List Work}, y ∈ insertWork x l → y = x ∨ y ∈ l
  | [], h => by simpa [insertWork] using h
  | z :: l, h => by
    unfold insertWork at h
    split at h
    · simpa using h
    · rcases List.mem_cons.1 h with hz | hl
      · exact .inr (hz ▸ List.mem_cons_self)
      · exact (mem_insertWork hl).imp_right (List.mem_cons_of_mem _)

/-- The members of a salvo are works of it. -/
theorem salvo_of_mem_members {y : Work} (h : y ∈ s.members n) : y.salvo = n := by
  have inserted : ∀ (l a : List Work), y ∈ l.foldl (fun l x => insertWork x l) a → y ∈ l ∨ y ∈ a := by
    intro l
    induction l with
    | nil => exact fun a h => .inr h
    | cons z l ih =>
      intro a h
      rcases ih _ h with h | h
      · exact .inl (List.mem_cons_of_mem _ h)
      · exact (mem_insertWork h).imp_left fun (e : y = z) => e ▸ List.mem_cons_self
  rcases inserted _ _ h with h | h
  · simpa using (List.mem_filter.1 h).2
  · exact absurd h List.not_mem_nil

/-- A member as the decision reads it, with no table in rebuild. -/
def State.readMember (s : State) (x : Work) : Work := { x with needs := false, fmt := s.workFormat false x.kind x.elem x.w0 }

/-- What timing a member leaves of it. -/
theorem dueOf_kept (c : When) (field : Bool) (t : Nat) (x : Work) :
    (dueOf c field t x).kind = x.kind ∧ (dueOf c field t x).elem = x.elem ∧ (dueOf c field t x).salvo = x.salvo ∧
      (dueOf c field t x).needs = x.needs := by
  unfold dueOf
  split <;> exact ⟨rfl, rfl, rfl, rfl⟩

theorem salvoLand_kept (again late : Bool) (t : Nat) (x : Work) :
    (salvoLand again late t x).kind = x.kind ∧ (salvoLand again late t x).elem = x.elem ∧
      (salvoLand again late t x).salvo = x.salvo := by
  unfold salvoLand
  split <;> exact ⟨rfl, rfl, rfl⟩

/-- How a timed member is judged. -/
theorem judgedAs_dueOf (c : When) (t : Nat) (j : Judged) (hx : format x.fmt = some f) :
    judgedAs t j (dueOf c false t x) = (f.judge false (c.due f false t) t == j) := by
  simp only [judgedAs, dueOf, hx]

theorem putWork_alone {y : Work} (ha : ∀ z ∈ s.xp.work, z.salvo = n) (hy : y.salvo = n) :
    ∀ z ∈ (s.putWork y).xp.work, z.salvo = n := by
  intro z hz
  rcases List.mem_append.1 hz with hz | hz
  · exact ha z (List.mem_of_mem_filter hz)
  · rwa [List.mem_singleton.1 hz]

/-- A salvo that has all the work in progress meets no other, and supersedes nothing. -/
theorem goSalvo_lone (hn : n ≠ 0) (ha : ∀ z ∈ s.xp.work, z.salvo = n) (hx : x.salvo = n) :
    s.goSalvo n [x] = (((s.putWork { x with state := tsPENDING, needs := false }).setOutcome x tsPENDING x.due).setFld
      F.XP_SALVO_STATE n saARMED).notify 0x2020 n := by
  have hmeets (f : Format) : s.armedMeets x f = none := by
    refine List.find?_eq_none.2 fun z hz => ?_
    simp [ha z hz, hx]
  have hsupersede (order : Nat) (f : Format) : s.supersede x order f = s := by
    have hnone : (s.xp.work.filter fun y => y.salvo == 0 && rivals x y f) = [] := by
      refine List.filter_eq_nil_iff.2 fun z hz => ?_
      simp [ha z hz, hn]
    rw [State.supersede, hnone]
    rfl
  unfold State.goSalvo
  cases hf : format x.fmt with
  | none => simp [hf]
  | some f => simp [hf, hmeets, hsupersede]

/-- A salvo of one take that the clause still reaches goes. -/
theorem decideSalvo_lone {c : When} {y : Work} (h : s.LoneTake n x f) (hfield : F.XP_SALVO_FIELD.of (s.word 0x2020 n 0) = 0)
    (hc : c = salvoWhen (s.word 0x2020 n 0) (s.word 0x2020 n 1)) (hy : y = dueOf c false s.house (s.readMember x))
    (hj : f.judge false (c.due f false s.house) s.house ≠ .expired) :
    s.decideSalvo n false =
      (s.putWork { y with state := tsHELD }).goSalvo n [salvoLand false (judgedAs s.house .late y) s.house y] := by
  have hneeds (k : MemberKind) (e : Nat) (w0 : W) : s.workNeeds k e w0 = false := by
    simp [State.workNeeds, State.rebuilding, h.idle, calIDLE, calEDITING, calREBUILDING, calREADY]
  have hread : ((s.members n).map fun x =>
      let needs := s.workNeeds x.kind x.elem x.w0
      { x with needs := needs, fmt := s.workFormat needs x.kind x.elem x.w0 }) = [s.readMember x] := by
    simp [h.members, hneeds, State.readMember]
  have hfmt : format (s.readMember x).fmt = some f := by rw [← h.times, ← h.take]; rfl
  have hrecheck : s.recheckMembers [s.readMember x] = .ok s := by
    have hsound : s.recheck false (s.readMember x) = none := h.sound
    have hafollow : (s.readMember x).afollow = true := h.afollow
    simp [State.recheckMembers, State.recheckWork, hsound, hafollow, show (s.readMember x).needs = false from rfl]
  obtain ⟨hkind, -, -, hready⟩ := dueOf_kept c false s.house (s.readMember x)
  rw [← hy] at hkind hready
  have hready : y.needs = false := hready
  have hflat : s.flatWaits y = false := by simp [State.flatWaits, hkind, State.readMember, h.take]
  have hjudged : judgedAs s.house .expired y = false := by rw [hy, judgedAs_dueOf _ _ _ hfmt]; simpa using hj
  unfold State.decideSalvo
  extract_lets w0 c' field t l rates bad timed put late
  have hl : l = [s.readMember x] := hread
  have hf : field = false := by simp [field, w0, hfield]
  have ht : timed = [y] := by simp [timed, hl, hf, hy, hc, c', w0, t]
  clear_value l timed field
  subst hl ht hf
  have hdoubled : doubled (byOrder [s.readMember x]) [] = none := by simp [byOrder, doubled]
  simp [hrecheck, hdoubled, hfmt, rates, hready, hflat, hjudged, put, late, t]

/-- No part of the state changes on the way but the list of work. -/
theorem decideSalvo_goes (h : s.LoneTake n x f) (hfield : F.XP_SALVO_FIELD.of (s.word 0x2020 n 0) = 0)
    (hj : f.judge false ((salvoWhen (s.word 0x2020 n 0) (s.word 0x2020 n 1)).due f false s.house) s.house ≠ .expired) :
    ∃ y u, y.kind = .take ∧ y.elem = x.elem ∧ Within [Part.xp] s u ∧
      s.decideSalvo n false = ((u.setOutcome y tsPENDING y.due).setFld F.XP_SALVO_STATE n saARMED).notify 0x2020 n := by
  have hsalvo : x.salvo = n := salvo_of_mem_members (h.members ▸ List.mem_singleton_self x)
  have hwork : ∀ z ∈ s.xp.work, z.salvo = n := by simpa using h.alone
  rw [decideSalvo_lone h hfield rfl rfl hj]
  generalize hy : dueOf _ false s.house (s.readMember x) = y
  generalize hz : salvoLand false _ s.house y = z
  obtain ⟨hyk, hye, hys, -⟩ := hy ▸ dueOf_kept (salvoWhen (s.word 0x2020 n 0) (s.word 0x2020 n 1)) false s.house (s.readMember x)
  obtain ⟨hzk, hze, hzs⟩ := hz ▸ salvoLand_kept false (judgedAs s.house .late y) s.house y
  rw [goSalvo_lone h.salvo (putWork_alone (y := { y with state := tsHELD }) hwork (hys.trans hsalvo)) (hzs.trans (hys.trans hsalvo))]
  exact ⟨z, _, hzk.trans (hyk.trans h.take), hze.trans hye, ((putWork_within ..).mono rfl).step (putWork_within ..) rfl, rfl⟩

/-- A take's word 2 reads the status that is written to it. -/
theorem setOutcome_status {y : Work} {st : Nat} (s : State) (m : Nat) (hk : y.kind = .take) (hst : st < 256) :
    (s.setOutcome y st m).fld F.XP_TAKE_STATUS y.elem = st := by
  unfold State.setOutcome
  extract_lets worded
  have hw : worded.fld F.XP_TAKE_STATUS y.elem = st := by
    simp only [worded, hk]
    refine (fld_setWord_same s F.XP_TAKE_STATUS y.elem _).trans ?_
    rw [Fld.of_put_beside rfl, Fld.of_put_beside rfl, Fld.of_put_beside rfl, Fld.of_put_same rfl]
    exact Nat.mod_eq_of_lt hst
  split
  · exact hw
  · rw [hk]
    exact (fld_notify _ _ _ rfl _).trans hw

/-- The salvo is then ARMED and its take PENDING, and the twin is told by what it was told by. -/
theorem decideSalvo_armed (h : s.LoneTake n x f) (hfield : F.XP_SALVO_FIELD.of (s.word 0x2020 n 0) = 0)
    (hj : f.judge false ((salvoWhen (s.word 0x2020 n 0) (s.word 0x2020 n 1)).due f false s.house) s.house ≠ .expired) :
    (s.decideSalvo n false).salvoState n = saARMED ∧ (s.decideSalvo n false).fld F.XP_TAKE_STATUS x.elem = tsPENDING ∧
      (s.decideSalvo n false).mirrors = s.mirrors ∧ (s.decideSalvo n false).tw = s.tw := by
  obtain ⟨y, u, hk, he, hu, hd⟩ := decideSalvo_goes h hfield hj
  rw [hd]
  have hw : Within ([Part.xp, 0x2020] ++ Parts.setOutcome) s
      (((u.setOutcome y tsPENDING y.due).setFld F.XP_SALVO_STATE n saARMED).notify 0x2020 n) :=
    (((hu.mono rfl).step (setOutcome_within ..) rfl).step (setFld_within ..) rfl).step (notify_within ..) rfl
  refine ⟨?_, ?_, (hw.pair_eq rfl (congrArg SysState.role (hw.agrees.sys rfl))).2, hw.agrees.tw rfl⟩
  · exact (fld_notify _ _ _ rfl _).trans (fld_setFld_of_lt (f := F.XP_SALVO_STATE) _ n saARMED rfl (by decide))
  · exact ((fld_notify _ _ _ rfl _).trans (fld_setFld_apart _ _ _ _ rfl)).trans (he ▸ setOutcome_status u y.due hk (by decide))

end Lone

end Sys2Proof.Machine
end

section
/-! The statement of the crosspoint about salvos: a host's ARM and DISCARD, and the time-out (R83–R87). -/
namespace Sys2Proof.Machine

/-! ### ARM -/

section ArmRequest
variable {s : State} {rq : Req} {n : Nat} {w w1 : W}

theorem putSalvo_arm (h : F.XP_SALVO_OP.of w = 1) (a : State) :
    (putSalvo s rq n w w1).2 a = a.commitHere rq 2 n true fun b => b.salvoArm rq.ctx.val n w w1 := by
  simp [putSalvo, h]

/-- A request's ARM taken, the wake of HOLD before it. -/
theorem stir_armTaken_within (s : State) (n : Nat) (w w1 : W) : Within [0x2020, Part.xp, Part.pw] s (s.stir.armTaken n w w1) :=
  ((stir_within s).mono rfl).step (armTaken_within ..) rfl

theorem armTaken_pair (s : State) (n : Nat) (w w1 : W) :
    (s.armTaken n w w1).mirrors = s.mirrors ∧ (s.armTaken n w w1).tw = s.tw :=
  have h := armTaken_within s n w w1
  ⟨(h.pair_eq rfl (congrArg SysState.role (h.agrees.sys rfl))).2, h.agrees.tw rfl⟩

/-- An ARM by the owner of an open salvo, carried out. -/
theorem arm_taken (ho : s.salvoState n = saOPEN) (hc : s.fld F.XP_SALVO_OWNER n = rq.ctx.val) :
    s.stir.salvoArm rq.ctx.val n w w1 = (.ok, (if s.fld F.XP_SALVO_STAGED n ≠ F.XP_SALVO_COUNT.of w then
        (s.stir.armTaken n w w1).failSalvo n Status.count.code (fun _ => none) tsSALVO
      else (s.stir.armTaken n w w1).decideSalvo n false).tellTwin) := by
  rw [salvoArm_taken w w1 ((stir_fld ..).trans ho) ((stir_fld ..).trans hc), armTaken_fld _ _ _ _ (by decide), stir_fld]
  simp only [bne_iff_ne]

variable (hp : s.passes rq (putSalvo s rq n w w1).1 = true) (hop : F.XP_SALVO_OP.of w = 1) (hd : s.decides = true)
include hp hop hd

theorem arm_goes {x : Work} {f : Format} (ho : s.salvoState n = saOPEN) (hc : s.fld F.XP_SALVO_OWNER n = rq.ctx.val)
    (hcount : s.fld F.XP_SALVO_STAGED n = F.XP_SALVO_COUNT.of w) (hfield : F.XP_SALVO_FIELD.of w = 0) (hx : s.LoneTake n x f)
    (hj : f.judge false ((salvoWhen w w1).due f false s.house) s.house ≠ .expired) :
    let t := s.request rq (putSalvo s rq n w w1).1 (putSalvo s rq n w w1).2
    t.salvoState n = saARMED ∧ t.fld F.XP_TAKE_STATUS x.elem = tsPENDING ∧
      if s.sync = syncLOCKSTEP ∧ s.mirrors = true then t.host.resp = none else t.replied ⟨0x2020, 0, n⟩ .ok := by
  have hk := arm_taken (w := w) (w1 := w1) ho hc
  rw [if_neg (by simpa using hcount)] at hk
  have hw := stir_armTaken_within s n w w1
  have hhouse : (s.stir.armTaken n w w1).house = s.house := by rw [State.house, hw.agrees.clk rfl]; rfl
  obtain ⟨hw0, hw1⟩ := armTaken_words s.stir n w w1
  obtain ⟨hstate, hstatus, hmirrors, htw⟩ := decideSalvo_armed (hx.of_within hw
    ((armTaken_work ..).trans (congrArg XpState.work (stir_xp s))))
    (by rw [hw0, hfield]) (by rw [hw0, hw1, hhouse]; exact hj)
  obtain ⟨hm, ht⟩ := armTaken_pair s.stir n w w1
  obtain ⟨ha, hr⟩ := commit_answered hp (putSalvo_arm hop _) hd hk (by decide) (hmirrors.trans hm) (by rw [htw, ht])
  exact ⟨(ha.fld_eq rfl n).trans hstate, (ha.fld_eq rfl x.elem).trans hstatus, hr⟩

theorem arm_miscounted (ho : s.salvoState n = saOPEN) (hc : s.fld F.XP_SALVO_OWNER n = rq.ctx.val)
    (hcount : s.fld F.XP_SALVO_STAGED n ≠ F.XP_SALVO_COUNT.of w) :
    let t := s.request rq (putSalvo s rq n w w1).1 (putSalvo s rq n w w1).2
    t.salvoState n = saFAILED ∧ t.fld F.XP_SALVO_RESULT n = Status.count.code ∧
      if s.sync = syncLOCKSTEP ∧ s.mirrors = true then t.host.resp = none else t.replied ⟨0x2020, 0, n⟩ .ok := by
  have hk := arm_taken (w := w) (w1 := w1) ho hc
  rw [if_pos hcount] at hk
  obtain ⟨hstate, hresult⟩ := failSalvo_result (s.stir.armTaken n w w1) n (fun _ => none) tsSALVO
    (show Status.count.code < 256 by decide)
  obtain ⟨hmirrors, htw⟩ := failSalvo_pair (s.stir.armTaken n w w1) n Status.count.code (fun _ => none) tsSALVO
  obtain ⟨hm, ht⟩ := armTaken_pair s.stir n w w1
  obtain ⟨ha, hr⟩ := commit_answered hp (putSalvo_arm hop _) hd hk (by decide) (hmirrors.trans hm) (by rw [htw, ht])
  exact ⟨(ha.fld_eq rfl n).trans hstate, (ha.fld_eq rfl n).trans hresult, hr⟩

theorem arm_notOwner (hc : ¬(s.salvoState n = saIDLE ∨ s.fld F.XP_SALVO_OWNER n = rq.ctx.val)) :
    let t := s.request rq (putSalvo s rq n w w1).1 (putSalvo s rq n w w1).2
    t.salvoState n = s.salvoState n ∧ t.replied ⟨0x2020, 0, n⟩ .owner := by
  obtain ⟨hk, hr⟩ := commit_refused hp (putSalvo_arm hop _) hd
    (salvoArm_owner w w1 (by rwa [State.salvoState, stir_fld, stir_fld])) (by decide)
  exact ⟨hk.fld_eq rfl n, hr⟩

theorem arm_busy (hc : s.salvoState n = saIDLE ∨ s.fld F.XP_SALVO_OWNER n = rq.ctx.val) (ho : s.salvoState n ≠ saOPEN) :
    let t := s.request rq (putSalvo s rq n w w1).1 (putSalvo s rq n w w1).2
    t.salvoState n = s.salvoState n ∧ t.replied ⟨0x2020, 0, n⟩ .busy := by
  obtain ⟨hk, hr⟩ := commit_refused hp (putSalvo_arm hop _) hd
    (salvoArm_busy w w1 (by rwa [State.salvoState, stir_fld, stir_fld]) (by rwa [State.salvoState, stir_fld])) (by decide)
  exact ⟨hk.fld_eq rfl n, hr⟩

end ArmRequest

/-! ### DISCARD -/

section DiscardRequest
variable {s : State} {rq : Req} {n : Nat} {w w1 : W}

theorem putSalvo_discard (h : F.XP_SALVO_OP.of w = 2) (a : State) :
    (putSalvo s rq n w w1).2 a = a.commitHere rq 2 n false fun b => b.salvoDiscard rq.ctx.val n := by
  simp [putSalvo, h]

variable (hp : s.passes rq (putSalvo s rq n w w1).1 = true) (hop : F.XP_SALVO_OP.of w = 2) (hd : s.decides = true)
include hp hop hd

theorem discard_ends (ho : s.salvoState n = saOPEN ∨ s.salvoState n = saHELD) (hc : s.fld F.XP_SALVO_OWNER n = rq.ctx.val) :
    let t := s.request rq (putSalvo s rq n w w1).1 (putSalvo s rq n w w1).2
    t.salvoState n = saFAILED ∧ t.fld F.XP_SALVO_RESULT n = tsCANCELLED ∧ t.replied ⟨0x2020, 0, n⟩ .ok := by
  have hj := putSalvo_discard (s := s) (rq := rq) (n := n) (w1 := w1) hop s.stir
  rw [commitHere_atOnce ((stir_pair s).1.trans hd), salvoDiscard_ends (by rwa [State.salvoState, stir_fld]) (by rwa [stir_fld])] at hj
  obtain ⟨hstate, hresult⟩ := failSalvo_result s.stir n (fun _ => none) tsCANCELLED (show tsCANCELLED < 256 by decide)
  have hw := ((tellTwin_within _).mono rfl).step (passed_within hp hj) (l := [Part.tw] ++ Parts.judged) rfl
  exact ⟨(hw.fld_eq rfl n).trans hstate, (hw.fld_eq rfl n).trans hresult, passed_replied hp hj (by decide)⟩

theorem discard_notOwner (hc : ¬(s.salvoState n = saIDLE ∨ s.fld F.XP_SALVO_OWNER n = rq.ctx.val)) :
    let t := s.request rq (putSalvo s rq n w w1).1 (putSalvo s rq n w w1).2
    t.salvoState n = s.salvoState n ∧ t.replied ⟨0x2020, 0, n⟩ .owner := by
  obtain ⟨hk, hr⟩ := commit_refused hp (putSalvo_discard hop _) hd
    (salvoDiscard_owner (by rwa [State.salvoState, stir_fld, stir_fld])) (by decide)
  exact ⟨hk.fld_eq rfl n, hr⟩

theorem discard_busy (hc : s.salvoState n = saIDLE ∨ s.fld F.XP_SALVO_OWNER n = rq.ctx.val) (ho : s.salvoState n ≠ saOPEN)
    (ha : s.salvoState n ≠ saARMED) (hh : s.salvoState n ≠ saHELD) :
    let t := s.request rq (putSalvo s rq n w w1).1 (putSalvo s rq n w w1).2
    t.salvoState n = s.salvoState n ∧ t.replied ⟨0x2020, 0, n⟩ .busy := by
  have hs : s.stir.salvoState n = s.salvoState n := stir_fld ..
  obtain ⟨hk, hr⟩ := commit_refused hp (putSalvo_discard hop _) hd
    (salvoDiscard_busy (by rwa [hs, stir_fld]) (by rwa [hs]) (by rwa [hs]) (by rwa [hs])) (by decide)
  exact ⟨hk.fld_eq rfl n, hr⟩

end DiscardRequest

/-- Settles O13: ARM and DISCARD by the order of their checks, the decision of an ARM for its one take, the time-out by the end of its salvo. -/
theorem salvosAreArmedAndEnded : Obligations.SalvosAreArmedAndEnded := by
  unfold Obligations.SalvosAreArmedAndEnded
  have op_arm (w0 : W) : F.XP_SALVO_OP.of (withOp F.XP_SALVO_OP w0 1) = 1 := Fld.of_put_same rfl w0 1
  have op_discard (w0 : W) : F.XP_SALVO_OP.of (withOp F.XP_SALVO_OP w0 2) = 2 := Fld.of_put_same rfl w0 2
  refine ⟨?arm, ?discard, ?timeout⟩
  case arm =>
    intro rq n w0 w1 w x f s
    refine ⟨_, rfl, ?goes, ?miscounted, ?notOwner, ?busy, ?elsewhere⟩
    case goes =>
      rintro hp rfl hd ho hc hcount hfield hm ha hn ht haf hi hs hx hj
      exact arm_goes hp (op_arm w0) hd ho hc hcount hfield ⟨hn, hm, ha, ht, haf, hi, hs, hx⟩ hj
    case miscounted =>
      rintro rfl hp
      exact arm_miscounted hp (op_arm w0)
    case notOwner =>
      rintro rfl hp
      exact arm_notOwner hp (op_arm w0)
    case busy =>
      rintro rfl hp
      exact arm_busy hp (op_arm w0)
    case elsewhere =>
      rintro rfl hp
      exact commit_elsewhere hp (putSalvo_arm (op_arm w0) _)
  case discard =>
    exact fun rq n w0 s => ⟨_, rfl, fun hp => discard_ends hp (op_discard w0), fun hp => discard_notOwner hp (op_discard w0),
      fun hp => discard_busy hp (op_discard w0), fun hp => commit_elsewhere hp (putSalvo_discard (op_discard w0) _)⟩
  case timeout => exact fun n s => ⟨_, rfl, salvoTimeout_ends, salvoTimeout_idle⟩

end Sys2Proof.Machine
end

section
/-! An isolated die stays isolated while what isolated dies held ends (R74, R86, R393): where none is isolated after a command, none held
anything. -/
namespace Sys2Proof.Machine

/-- Every die isolated in `s` is isolated in `t`. -/
structure KeepsIsolated (s t : State) : Prop where
  isolated : s.sys.isolated ⊆ t.sys.isolated

section KeepsIsolated
variable {s t u : State}

theorem KeepsIsolated.refl : KeepsIsolated s s := ⟨List.Subset.refl _⟩

theorem KeepsIsolated.trans (h : KeepsIsolated s t) (g : KeepsIsolated t u) : KeepsIsolated s u :=
  ⟨List.Subset.trans h.isolated g.isolated⟩

theorem KeepsIsolated.of_within {l : List Part} (h : Within l s t) (m : takesIn l Part.sys = false) : KeepsIsolated s t :=
  ⟨by rw [h.agrees.sys m]; exact List.Subset.refl _⟩

/-- One more operation, on parts that do not take the isolated dies in. -/
theorem KeepsIsolated.step {l : List Part} (h : KeepsIsolated s t) (g : Within l t u) (m : takesIn l Part.sys = false) :
    KeepsIsolated s u := h.trans (.of_within g m)

theorem KeepsIsolated.ite {c : Prop} [Decidable c] (ht : KeepsIsolated s t) (hu : KeepsIsolated s u) :
    KeepsIsolated s (if c then t else u) := by split <;> assumption

theorem KeepsIsolated.foldl {α : Type} {f : State → α → State} {xs : List α} (ht : KeepsIsolated s t)
    (hf : ∀ a x, KeepsIsolated a (f a x)) : KeepsIsolated s (xs.foldl f t) := by
  induction xs generalizing t with
  | nil => exact ht
  | cons x xs ih => exact ih (ht.trans (hf t x))

end KeepsIsolated

/-! ### Faults -/

theorem driveFault_keepsIsolated (s : State) : KeepsIsolated s s.driveFault := ⟨List.Subset.refl _⟩

theorem isolateDie_keepsIsolated (s : State) (d code seq : Nat) (handed : Bool) :
    KeepsIsolated s (s.isolateDie d code seq handed) := by
  unfold State.isolateDie
  extract_lets q dropped counted isolated told w f opened
  have hc : KeepsIsolated s counted := (KeepsIsolated.of_within (withMgr_within ..) rfl).step (bump_within ..) rfl
  have hi : KeepsIsolated s isolated := hc.trans ⟨List.subset_append_left ..⟩
  have ht : KeepsIsolated s told := ((hi.step (setFld_within ..) rfl).step (relays_within _) rfl).step (notify_within ..) rfl
  have hw : KeepsIsolated s w.1 := ht.step (writeRec_within ..) rfl
  have ho : KeepsIsolated s opened := (hw.step (withMgr_within ..) rfl).step (tellRecord_within ..) rfl
  exact .ite .refl (ho.trans (driveFault_keepsIsolated _))

theorem raiseSeq_keepsIsolated (s : State) (code : Nat) (l : Level) (die p1 p2 p3 : Nat) (byHandler : Bool) :
    KeepsIsolated s (s.raiseSeq code l die p1 p2 p3 byHandler).1 := by
  unfold State.raiseSeq
  extract_lets u l1 m t l2 esc old w toldDie written f accepted told escalated merged out isolated driven
  have ha : KeepsIsolated s accepted := (KeepsIsolated.of_within (writeRec_within ..) rfl).step (withMgr_within ..) rfl
  have ht : KeepsIsolated s told := .ite (ha.step (tellRecord_within ..) rfl) ha
  have he : KeepsIsolated s escalated := .ite (ht.step (bump_within ..) rfl) ht
  have hm : KeepsIsolated s merged := .ite (he.step (bump_within ..) rfl) he
  have ho : KeepsIsolated s out := .ite (hm.step (takeOut_within ..) rfl) hm
  have hi : KeepsIsolated s isolated := .ite (ho.trans (isolateDie_keepsIsolated ..)) ho
  have hd : KeepsIsolated s driven := hi.trans (driveFault_keepsIsolated _)
  exact .ite hd (hd.step (notify_within ..) rfl)

theorem raise_keepsIsolated (s : State) (code die p1 p2 p3 : Nat) : KeepsIsolated s (s.raise code die p1 p2 p3) :=
  raiseSeq_keepsIsolated ..

/-! ### The end of sources, works and salvos -/

theorem sourceLost_keepsIsolated (s : State) (p : Nat) : KeepsIsolated s (s.sourceLost p) :=
  have hs {x : Src} : KeepsIsolated s ((s.setSrc x).setAl p alLOST) :=
    (KeepsIsolated.of_within (setSrc_within ..) rfl).step (setAl_within ..) rfl
  .ite .refl (.ite .refl (hs.trans (raise_keepsIsolated ..)))

theorem finishAs_keepsIsolated (s : State) (x : Work) (st : Nat) {out : State → State} (ho : ∀ a, KeepsIsolated a (out a)) :
    KeepsIsolated s (s.finishAs x st out) := by
  unfold State.finishAs
  extract_lets ended counted dropped flat unmade
  have he : KeepsIsolated s ended := (KeepsIsolated.of_within (dropWork_within ..) rfl).trans (ho _)
  have hc : KeepsIsolated s counted := he.step (countTake_within ..) rfl
  have hd : KeepsIsolated s dropped := .ite hc (hc.step (dropImages_within ..) rfl)
  have hf : KeepsIsolated s flat := .ite (.ite hd (hd.step (setFld_within ..) rfl)) hc
  have hu : KeepsIsolated s unmade := .ite hf (hf.step (unmake_within ..) rfl)
  exact .ite (hu.trans (raise_keepsIsolated ..)) (.ite (hu.trans (raise_keepsIsolated ..)) hu)

theorem finish_keepsIsolated (s : State) (x : Work) (st n : Nat) : KeepsIsolated s (s.finish x st n) :=
  finishAs_keepsIsolated _ _ _ fun _ => .of_within (setOutcome_within ..) rfl

theorem fail_keepsIsolated (s : State) (x : Work) (st : Nat) : KeepsIsolated s (s.fail x st) :=
  .ite (finishAs_keepsIsolated _ _ _ fun _ => .of_within (openOutcome_within ..) rfl) (finish_keepsIsolated ..)

theorem endSalvo_keepsIsolated (s : State) (n st result culprit : Nat) : KeepsIsolated s (s.endSalvo n st result culprit) := by
  unfold State.endSalvo
  extract_lets worded told
  have hw : KeepsIsolated s worded :=
    ((KeepsIsolated.of_within (setFld_within ..) rfl).step (setFld_within ..) rfl).step (setFld_within ..) rfl
  have ht : KeepsIsolated s told := (hw.step (dropSalvo_within ..) rfl).step (notify_within ..) rfl
  exact .ite (ht.trans (raise_keepsIsolated ..)) ht

theorem failSalvo_keepsIsolated (s : State) (n result : Nat) (own : Work → Option Nat) (rest : Nat) :
    KeepsIsolated s (s.failSalvo n result own rest) := by
  unfold State.failSalvo
  extract_lets l culprit failed
  have hf : KeepsIsolated s failed := .foldl .refl fun _ _ => fail_keepsIsolated ..
  exact hf.trans (endSalvo_keepsIsolated ..)

theorem memberEnded_keepsIsolated (s : State) (n : Nat) (late : Bool) (bad : Option (Nat × Nat)) :
    KeepsIsolated s (s.memberEnded n late bad) := by
  unfold State.memberEnded
  extract_lets y counted y' kept
  have hc : KeepsIsolated s counted := .ite (.of_within (bump_within ..) rfl) .refl
  have hk : KeepsIsolated s kept := hc.step (setSalvo_within ..) rfl
  refine .ite .refl (.ite ?_ ?_)
  · split
    · exact .ite (hk.step (setFld_within ..) rfl) hk
    · exact hk
  · split <;> exact hk.trans (endSalvo_keepsIsolated ..)

theorem salvoLost_keepsIsolated (s : State) (n d : Nat) : KeepsIsolated s (s.salvoLost n d) :=
  .ite (.foldl .refl fun _ _ => (finish_keepsIsolated ..).trans (memberEnded_keepsIsolated ..)) (failSalvo_keepsIsolated ..)

theorem settleIsolated_keepsIsolated (s : State) : KeepsIsolated s s.settleIsolated := by
  unfold State.settleIsolated
  refine .foldl .refl fun a d => ?_
  extract_lets on lost ns ended
  have hl : KeepsIsolated a lost := .foldl .refl fun b x => .ite .refl (sourceLost_keepsIsolated ..)
  have he : KeepsIsolated a ended := .foldl hl fun b n => salvoLost_keepsIsolated ..
  exact .ite hl (.foldl he fun b x => finish_keepsIsolated ..)

/-- Where no die is isolated in the end, nothing ends for an isolated one. -/
theorem settleIsolated_whole {s : State} (h : s.settleIsolated.whole) : s.settleIsolated = s := by
  have hs : s.sys.isolated = [] := List.eq_nil_of_subset_nil (h ▸ (settleIsolated_keepsIsolated s).isolated)
  unfold State.settleIsolated
  rw [hs]
  rfl

end Sys2Proof.Machine
end

section
/-! What operations on one element of an object leave: every word of the object's other elements. -/
namespace Sys2Proof.Machine

/-- From `s` to `t` every word of the object `ix` stands but those of element `e`. -/
structure KeepsOthers (ix e : Nat) (s t : State) : Prop where
  word : ∀ k : Key, k.ix = ix → k.e ≠ e → KeepsWord k s t

section KeepsOthers
variable {ix e : Nat} {s t u : State}

theorem KeepsOthers.refl : KeepsOthers ix e s s := ⟨fun _ _ _ => .refl⟩

theorem KeepsOthers.trans (h : KeepsOthers ix e s t) (g : KeepsOthers ix e t u) : KeepsOthers ix e s u :=
  ⟨fun k hi he => (h.word k hi he).trans (g.word k hi he)⟩

theorem KeepsOthers.of_within {l : List Part} (h : Within l s t) (m : takesIn l ix = false) : KeepsOthers ix e s t :=
  ⟨fun _ hi _ => .of_within h (hi ▸ m)⟩

/-- One more operation, on parts that do not take the object in. -/
theorem KeepsOthers.step {l : List Part} (h : KeepsOthers ix e s t) (g : Within l t u) (m : takesIn l ix = false) :
    KeepsOthers ix e s u := h.trans (.of_within g m)

theorem KeepsOthers.ite {c : Prop} [Decidable c] (ht : KeepsOthers ix e s t) (hu : KeepsOthers ix e s u) :
    KeepsOthers ix e s (if c then t else u) := by split <;> assumption

theorem KeepsOthers.ite_snd {α : Type} {c : Prop} [Decidable c] {p q : α × State} (hp : KeepsOthers ix e s p.2)
    (hq : KeepsOthers ix e s q.2) : KeepsOthers ix e s (if c then p else q).2 := by split <;> assumption

theorem KeepsOthers.foldl {α : Type} {f : State → α → State} {xs : List α} (ht : KeepsOthers ix e s t)
    (hf : ∀ a x, KeepsOthers ix e a (f a x)) : KeepsOthers ix e s (xs.foldl f t) := by
  induction xs generalizing t with
  | nil => exact ht
  | cons x xs ih => exact ih (ht.trans (hf t x))

end KeepsOthers

/-! ### Writes of the element -/

section Writes
variable {ix e : Nat} (s : State) (f : Fld)

theorem setWord_keepsOthers (w : Nat) (v : W) : KeepsOthers ix e s (s.setWord ix e w v) :=
  ⟨fun _ _ he => tget_tset_other _ _ _ fun h => he (h ▸ rfl)⟩

theorem setFld_keepsOthers (hf : f.ix = ix) (v : Nat) : KeepsOthers ix e s (s.setFld f e v) := by
  subst hf
  exact setWord_keepsOthers ..

theorem bump_keepsOthers (hf : f.ix = ix) (n : Nat) : KeepsOthers ix e s (s.bump f e n) := setFld_keepsOthers s f hf _

theorem setNotify_keepsOthers (hf : f.ix = ix) (m : takesIn Parts.notify ix = false) (v : Nat) :
    KeepsOthers ix e s (s.setNotify f e v) :=
  .ite .refl ((setFld_keepsOthers s f hf v).step (notify_within ..) m)

theorem putWord_keepsOthers (m : takesIn Parts.markDirty ix = false) (w : Nat) (v : W) :
    KeepsOthers ix e s (s.putWord ix e w v) :=
  have hw : KeepsOthers ix e s (s.setWord ix e w v) := setWord_keepsOthers ..
  .ite .refl (.ite (hw.step (markDirty_within _) m) hw)

theorem saveWord_keepsOthers {a : Addr} (hp : takesIn Parts.putShadow a.ix = false) (hm : takesIn Parts.markDirty a.ix = false)
    (x : Nat × W) : KeepsOthers a.ix a.e s (s.saveWord a x) :=
  .ite (.ite (.of_within (putShadow_within ..) hp) (putWord_keepsOthers s hm ..)) .refl

end Writes

/-! ### A host's write -/

/-- A host's write of element `e` of the object `ix`, whose own part leaves the object's other elements. -/
structure PutKeepsOthers (ix e : Nat) (x : HostWrite × (State → Status × State)) : Prop where
  object : x.1.addr.ix = ix
  element : x.1.addr.e = e
  own : ∀ s, KeepsOthers ix e s (x.2 s).2

section Request
variable {ix e : Nat} {x : HostWrite × (State → Status × State)} {rq : Req}

/-- Carried out by its own part, saved in SAFE or refused, the write leaves the other elements. -/
theorem PutKeepsOthers.judged (h : PutKeepsOthers ix e x) (m : takesIn Parts.judgeWrite ix = false) (s : State) :
    KeepsOthers ix e s (s.judgeWrite rq x.1 x.2).2 := by
  obtain ⟨rfl, rfl, own⟩ := h
  have hsaved : KeepsOthers x.1.addr.ix x.1.addr.e s (x.1.words.foldl (fun a y => a.saveWord x.1.addr y) s) :=
    .foldl .refl fun a y => saveWord_keepsOthers a (takesIn_mono rfl m) (takesIn_mono rfl m) y
  unfold State.judgeWrite
  split
  · exact .refl
  · exact .ite_snd .refl (.ite_snd .refl (.ite_snd .refl (.ite_snd
      (.ite_snd .refl (.ite_snd .refl hsaved)) (.ite_snd .refl (own s)))))

theorem PutKeepsOthers.request (h : PutKeepsOthers ix e x) (m : takesIn Parts.request ix = false) (s : State) :
    KeepsOthers ix e s (s.request rq x.1 x.2) := by
  have spares {l : List Part} (hl : sub l Parts.request = true) : takesIn l ix = false := takesIn_mono hl m
  refine .ite .refl ?_
  have hs : KeepsOthers ix e s s.stir := .of_within (stir_within s) (spares rfl)
  have hj : KeepsOthers ix e s (s.stir.judgeWrite rq x.1 x.2).2 := hs.trans (h.judged (spares rfl) _)
  exact ((hj.step (settle_within ..) (spares rfl)).step (countMsg_within ..) (spares rfl)).step (answer_within ..) (spares rfl)

end Request

/-! ### A command -/

/-- Where no die is isolated in the end, nothing but the command's own effect has happened. -/
theorem KeepsOthers.keeps {c : Instr} {ix e : Nat} {s u : State} (h : KeepsOthers ix e s u) (hu : exec c s = done u) {k : Key}
    (hi : k.ix = ix) (he : k.e ≠ e) : Keeps c s k := by
  intro t ht hwhole
  obtain rfl : u.settleIsolated = t := Host.Outcome.next.inj (hu.symm.trans ht)
  rw [settleIsolated_whole hwhole]
  exact h.word k hi he

theorem PutKeepsOthers.keeps {c : Instr} {ix e : Nat} {x : HostWrite × (State → Status × State)} {rq : Req} {s : State}
    (h : PutKeepsOthers ix e x) (hu : exec c s = done (s.request rq x.1 x.2)) (m : takesIn Parts.request ix = false) {k : Key}
    (hi : k.ix = ix) (he : k.e ≠ e) : Keeps c s k := (h.request m s).keeps hu hi he

end Sys2Proof.Machine
end

section
/-! The statement about a host's write of an element (R107, R158, R197, R218, R258, R336, R437). A refusal leaves the state; a write that is
taken stores words of its element, and what it sets going beside them lies in other objects. -/
namespace Sys2Proof.Machine

/-! ### Alignment, audio and composition -/

theorem putAlign_keepsOthers (p : Nat) (v : W) : PutKeepsOthers 0x2860 p (putAlign p v) :=
  ⟨rfl, rfl, fun s => .ite_snd .refl (.ite_snd .refl (.ite_snd .refl
    ((((putWord_keepsOthers s rfl _ _).step (asrcFit_within ..) rfl).step (replaceStore_within ..) rfl).step
      (checkBudget_within ..) rfl)))⟩

theorem putAuSrc_keepsOthers (s : State) (e : Nat) (v : W) : PutKeepsOthers 0x3010 e (putAuSrc s e v) :=
  ⟨rfl, rfl, fun a => .ite_snd .refl (putWord_keepsOthers a rfl _ _)⟩

theorem putAudioPort_keepsOthers (aes : Bool) (e : Nat) (v : W) :
    PutKeepsOthers (if aes then 0x3050 else 0x3040) e (putAudioPort aes e v) := by
  cases aes
  all_goals exact ⟨rfl, rfl, fun s => .ite_snd .refl ((putWord_keepsOthers s rfl _ _).step (clockSet_within ..) rfl)⟩

theorem putAsrc_keepsOthers (s : State) (e : Nat) (v : W) : PutKeepsOthers 0x3060 e (putAsrc s e v) :=
  ⟨rfl, rfl, fun _ => .ite_snd .refl (.ite_snd .refl (.ite_snd .refl (.ite_snd .refl
    ((KeepsOthers.of_within (asrcFade_within ..) rfl).trans (putWord_keepsOthers _ rfl _ _)))))⟩

theorem putPalette_keepsOthers (e : Nat) (v : W) : PutKeepsOthers 0x3828 e (putPalette e v) :=
  ⟨rfl, rfl, fun s => .ite_snd .refl (putWord_keepsOthers s rfl _ _)⟩

theorem putImage_keepsOthers (e : Nat) (v : W) : PutKeepsOthers 0x3830 e (putImage e v) :=
  ⟨rfl, rfl, fun s => .ite_snd .refl (.ite_snd .refl (putWord_keepsOthers s rfl _ _))⟩

/-! ### Lanes and media -/

theorem putLane_keepsOthers (e : Nat) (v : W) : PutKeepsOthers 0x4010 e (putLane e v) :=
  ⟨rfl, rfl, fun s => .ite_snd .refl (.ite_snd .refl (.ite_snd .refl (.ite_snd .refl
    ((putWord_keepsOthers s rfl _ _).step (applyLane_within ..) rfl))))⟩

theorem putTxeq_keepsOthers (e : Nat) (v : W) : PutKeepsOthers 0x4018 e (putTxeq e v) :=
  ⟨rfl, rfl, fun s => (putWord_keepsOthers s rfl _ _).step (setLaneRun_within ..) rfl⟩

theorem putMac_keepsOthers (m w : Nat) (v : W) : PutKeepsOthers 0x4810 m (putMac m w v) := by
  refine ⟨rfl, rfl, fun s => ?_⟩
  unfold putMac
  dsimp -zeta only
  extract_lets o on written back stopped
  have hw : KeepsOthers 0x4810 m s written := putWord_keepsOthers s rfl _ _
  have hb : KeepsOthers 0x4810 m s back := hw.step (putBack_within ..) rfl
  have hs : KeepsOthers 0x4810 m s stopped := .ite (hb.step (setMacRun_within ..) rfl) hb
  exact .ite_snd .refl (.ite_snd .refl (.ite_snd .refl (.ite_snd hw (.ite hs (hs.step (ptpRestarts_within ..) rfl)))))

theorem putAflow_keepsOthers (tx : Bool) (e w : Nat) (v : W) :
    PutKeepsOthers (if tx then 0x4830 else 0x4828) e (putAflow tx e w v) := by
  refine ⟨rfl, rfl, fun s => ?_⟩
  unfold putAflow
  extract_lets ix
  dsimp -zeta only
  extract_lets o on moves written id
  have hw : KeepsOthers ix e s written := putWord_keepsOthers s (by cases tx <;> rfl) _ _
  exact .ite_snd .refl (.ite_snd .refl (.ite (hw.step (set_mx_within ..) (by cases tx <;> rfl)) hw))

theorem putRing_keepsOthers (rq : Req) (e w : Nat) (v : W) : PutKeepsOthers 0x4840 e (putRing rq e w v) := by
  refine ⟨rfl, rfl, fun s => ?_⟩
  unfold putRing
  dsimp -zeta only
  extract_lets stops written mx owned
  have hw : KeepsOthers 0x4840 e s written := putWord_keepsOthers s rfl _ _
  have ho : KeepsOthers 0x4840 e s owned := hw.step (set_mx_within ..) rfl
  exact .ite_snd .refl (.ite_snd hw (.ite (ho.trans (setFld_keepsOthers _ F.MX_RING_NEXT rfl 0)) ho))

/-! ### Timing and the twin -/

theorem putTmRef_keepsOthers (s : State) (rq : Req) (r : Nat) (ws : List (Nat × W)) :
    PutKeepsOthers 0x5010 r (putTmRef s rq r ws) :=
  ⟨rfl, rfl, fun a =>
    have hw := (putWord_keepsOthers a rfl 0 _).trans (putWord_keepsOthers _ rfl 1 _)
    .ite_snd .refl (.ite_snd .refl (.ite hw (hw.step (refEnable_within ..) rfl)))⟩

theorem putTmOut_keepsOthers (s : State) (o : Nat) (ws : List (Nat × W)) : PutKeepsOthers 0x5058 o (putTmOut s o ws) :=
  ⟨rfl, rfl, fun a =>
    have hw := (putWord_keepsOthers a rfl 0 _).trans (putWord_keepsOthers _ rfl 1 _)
    .ite_snd .refl (.ite hw (hw.step (withTm_within ..) rfl))⟩

theorem putPair_keepsOthers (e : Nat) (v : W) (s : State) : PutKeepsOthers 0x5810 e (putPair e v s) :=
  ⟨rfl, rfl, fun a =>
    have hw := putWord_keepsOthers a rfl 0 v
    .ite_snd .refl (.ite_snd .refl (.ite ((hw.step (restartPair_within ..) rfl).step (refreshClaim_within _) rfl) hw))⟩

/-! ### Hosts -/

theorem putContext_keepsOthers (c : Nat) (ws : List (Nat × W)) : PutKeepsOthers 0x6018 c (putContext c ws) :=
  ⟨rfl, rfl, fun _ => .ite_snd .refl (.foldl .refl fun a _ => putWord_keepsOthers a rfl _ _)⟩

theorem putBus_keepsOthers (a : Nat) (v : W) : PutKeepsOthers 0x6020 a (putBus a v) :=
  ⟨rfl, rfl, fun s => (putWord_keepsOthers s rfl 0 v).step (set_host_within ..) rfl⟩

theorem putLease_keepsOthers (rq : Req) (e : Nat) (v : W) : PutKeepsOthers 0x6030 e (putLease rq e v) :=
  ⟨rfl, rfl, fun s =>
    have hw (v : W) : KeepsOthers 0x6030 e s (s.putWord 0x6030 e 0 v) := putWord_keepsOthers s rfl _ _
    .ite_snd (.ite_snd .refl (hw _)) (.ite_snd (.ite_snd (hw _) .refl) (hw _))⟩

/-! ### Memory, inputs and power -/

theorem putChannel_keepsOthers (e : Nat) (v : W) : PutKeepsOthers 0x7010 e (putChannel e v) :=
  ⟨rfl, rfl, fun s =>
    have hw := putWord_keepsOthers s rfl 0 v
    .ite_snd (.ite_snd hw .refl) hw⟩

theorem putGpi_keepsOthers (i : Nat) (v : W) : PutKeepsOthers 0x7848 i (putGpi i v) :=
  ⟨rfl, rfl, fun s =>
    have hw := (putWord_keepsOthers s rfl 0 v).step (gpiSettle_within _ i) rfl
    .ite hw (hw.step (notify_within ..) rfl)⟩

theorem setDomain_keepsOthers (s : State) (e n : Nat) : KeepsOthers 0x8810 e s (s.setDomain e n) :=
  setNotify_keepsOthers s F.PW_DOMAIN_STATE rfl rfl n

theorem riseDomain_keepsOthers (s : State) (e : Nat) : KeepsOthers 0x8810 e s (s.riseDomain e) :=
  have hs := setDomain_keepsOthers s e dmRISING
  .ite (hs.step (withPw_within ..) rfl) (hs.step (withPw_within ..) rfl)

theorem fallDomain_keepsOthers (s : State) (e : Nat) : KeepsOthers 0x8810 e s (s.fallDomain e) := by
  unfold State.fallDomain
  extract_lets ended
  have he : KeepsOthers 0x8810 e s ended := .ite (.of_within (endRise_within ..) rfl) .refl
  exact .ite ((KeepsOthers.of_within (withPw_within ..) rfl).trans (setDomain_keepsOthers ..))
    ((he.step (stopLanes_within ..) rfl).trans (setDomain_keepsOthers ..))

theorem applyDomain_keepsOthers (s : State) (e : Nat) : KeepsOthers 0x8810 e s (s.applyDomain e) :=
  .ite .refl (.ite (.ite (riseDomain_keepsOthers ..) .refl) (.ite (fallDomain_keepsOthers ..) .refl))

theorem putDomain_keepsOthers (e : Nat) (v : W) : PutKeepsOthers 0x8810 e (putDomain e v) :=
  ⟨rfl, rfl, fun s => .ite_snd .refl (.ite_snd .refl (.ite_snd .refl
    ((putWord_keepsOthers s rfl _ _).trans (applyDomain_keepsOthers ..))))⟩

/-- Settles O55: a write reaches its own element, and what it sets going stands in other objects. -/
theorem writesLeaveOtherElements : Obligations.WritesLeaveOtherElements := by
  unfold Obligations.WritesLeaveOtherElements
  refine ⟨?align, ?auSrc, ?audioPort, ?asrc, ?palette, ?image, ?lane, ?txeq, ?mac, ?aflow, ?ring, ?ref, ?out, ?pair, ?context, ?bus,
    ?take, ?release, ?breaks, ?channel, ?gpi, ?domain⟩
  case align => exact fun _ p v _ _ => (putAlign_keepsOthers p v).keeps rfl rfl
  case auSrc => exact fun _ e v _ s => (putAuSrc_keepsOthers s e v).keeps rfl rfl
  case audioPort => exact fun _ tx e v _ _ => (putAudioPort_keepsOthers tx e v).keeps rfl (by cases tx <;> rfl)
  case asrc => exact fun _ e v _ s => (putAsrc_keepsOthers s e v).keeps rfl rfl
  case palette => exact fun _ e v _ _ => (putPalette_keepsOthers e v).keeps rfl rfl
  case image => exact fun _ e v _ _ => (putImage_keepsOthers e v).keeps rfl rfl
  case lane => exact fun _ e v _ _ => (putLane_keepsOthers e v).keeps rfl rfl
  case txeq => exact fun _ e v _ _ => (putTxeq_keepsOthers e v).keeps rfl rfl
  case mac => exact fun _ m w v _ _ => (putMac_keepsOthers m w v).keeps rfl rfl
  case aflow => exact fun _ tx e w v _ _ => (putAflow_keepsOthers tx e w v).keeps rfl (by cases tx <;> rfl)
  case ring => exact fun rq e w v _ _ => (putRing_keepsOthers rq e w v).keeps rfl rfl
  case ref => exact fun rq r w v _ s => (putTmRef_keepsOthers s rq r [(w, v)]).keeps rfl rfl
  case out => exact fun _ o w v _ s => (putTmOut_keepsOthers s o [(w, v)]).keeps rfl rfl
  case pair => exact fun _ e v _ s => (putPair_keepsOthers e v s).keeps rfl rfl
  case context => exact fun _ c w v _ _ => (putContext_keepsOthers c [(w, v)]).keeps rfl rfl
  case bus => exact fun _ a v _ _ => (putBus_keepsOthers a v).keeps rfl rfl
  case take => exact fun rq e _ _ => (putLease_keepsOthers rq e 1).keeps rfl rfl
  case release => exact fun rq e _ _ => (putLease_keepsOthers rq e 2).keeps rfl rfl
  case breaks => exact fun rq e _ _ => (putLease_keepsOthers rq e 3).keeps rfl rfl
  case channel => exact fun _ e v _ _ => (putChannel_keepsOthers e v).keeps rfl rfl
  case gpi => exact fun _ i v _ _ => (putGpi_keepsOthers i v).keeps rfl rfl
  case domain => exact fun _ e v _ _ => (putDomain_keepsOthers e v).keeps rfl rfl

end Sys2Proof.Machine
end

section
/-! The statement about an event on an element (R100, R215, R381, R407, R435, R446, R450): in its object the lane, source, channel, input,
domain, monitor or die alone shows it. -/
namespace Sys2Proof.Machine

/-! ### Lanes (R215) -/

theorem setLane_keepsOtherLanes (s : State) (e n : Nat) : KeepsOthers 0x4028 e s (s.setLane e n) :=
  setNotify_keepsOthers s F.LK_STAT_STATE rfl rfl n

theorem signalReturn_keepsOthers (s : State) (e : Nat) : KeepsOthers 0x4028 e s (s.signalReturn e) :=
  .ite (setLane_keepsOtherLanes ..) .refl

theorem stayLost_keepsOthers (s : State) (e : Nat) : KeepsOthers 0x4028 e s (s.stayLost e) :=
  .ite (((setLane_keepsOtherLanes s e laLOS).step (raise_within ..) rfl).step (checkStayRefs_within _) rfl) .refl

theorem stayBack_keepsOthers (s : State) (e : Nat) : KeepsOthers 0x4028 e s (s.stayBack e) :=
  .ite (setLane_keepsOtherLanes ..) .refl

theorem overrun_keepsOthers (s : State) (d l : Nat) : KeepsOthers 0x4028 (laneElem true d l) s (s.overrun d l) :=
  bump_keepsOthers s F.LK_STAT_OVERRUN rfl 1

theorem starve_keepsOthers (s : State) (d l n : Nat) : KeepsOthers 0x4028 (laneElem false d l) s (s.starve d l n) :=
  bump_keepsOthers s F.LK_STAT_OVERRUN rfl n

/-! ### Sources (R97–R105, R109) -/

section Source
variable (s : State) (p : Nat)

theorem setAl_keepsOthers (n : Nat) : KeepsOthers 0x2864 p s (s.setAl p n) :=
  setNotify_keepsOthers s F.ES_ALIGN_STAT_STATE rfl rfl n

theorem countPicture_keepsOthers : KeepsOthers 0x2864 p s (s.countPicture p) :=
  setFld_keepsOthers s F.ES_ALIGN_STAT_PICTURES rfl _

theorem alignStart_keepsOthers : KeepsOthers 0x2864 p s (s.alignStart p) := by
  unfold State.alignStart
  extract_lets v x rest rested emptied offset
  have hr : KeepsOthers 0x2864 p s rested := .of_within (setSrc_within ..) rfl
  have he : KeepsOthers 0x2864 p s emptied :=
    ((hr.trans (setFld_keepsOthers _ F.ES_ALIGN_STAT_UNREAD rfl 0)).trans
      (setFld_keepsOthers _ F.ES_ALIGN_STAT_DELAY rfl 0)).step (dropSlips_within ..) rfl
  have ho : KeepsOthers 0x2864 p s offset := .ite (he.trans (setFld_keepsOthers _ F.ES_ALIGN_STAT_OFFSET rfl 0)) he
  exact ho.trans (setAl_keepsOthers ..)

theorem alignBoundary_keepsOthers : KeepsOthers 0x2864 p s (s.alignBoundary p) := by
  unfold State.alignBoundary
  extract_lets al healed x v
  have hh : KeepsOthers 0x2864 p s healed := .of_within (set_al_within ..) rfl
  exact .ite hh (.ite (hh.trans (alignStart_keepsOthers ..)) (hh.step (setSrc_within ..) rfl))

theorem alignFail_keepsOthers (st code p2 : Nat) : KeepsOthers 0x2864 p s (s.alignFail p st code p2) := by
  unfold State.alignFail
  extract_lets x failed shown
  have hs : KeepsOthers 0x2864 p s shown := (KeepsOthers.of_within (setSrc_within ..) rfl).trans (setAl_keepsOthers ..)
  exact .ite .refl (hs.step (raise_within ..) rfl)

theorem syncPicture_keepsOthers (offset : Int) (missing : Nat) :
    KeepsOthers 0x2864 p s (s.syncPicture p offset missing) := by
  unfold State.syncPicture
  extract_lets sought measured counted x inn inside whole judged st
  have hs : KeepsOthers 0x2864 p s sought := .ite (setAl_keepsOthers ..) .refl
  have hm : KeepsOthers 0x2864 p s measured := hs.trans (setFld_keepsOthers _ F.ES_ALIGN_STAT_OFFSET rfl _)
  have hc : KeepsOthers 0x2864 p s counted := hm.trans (bump_keepsOthers _ F.ES_ALIGN_STAT_CONCEALED rfl _)
  have hj : KeepsOthers 0x2864 p s judged := hc.step (setSrc_within ..) rfl
  have hset (n : Nat) : KeepsOthers 0x2864 p s (judged.setAl p n) := hj.trans (setAl_keepsOthers ..)
  exact .ite (.ite hj ((hset _).step (raise_within ..) rfl)) (.ite (.ite (hset _) hj) (hset _))

theorem sourcePicture_keepsOthers (capture missing : Nat) (alien : Option Nat) :
    KeepsOthers 0x2864 p s (s.sourcePicture p capture missing alien) := by
  unfold State.sourcePicture
  extract_lets begun
  have hb : KeepsOthers 0x2864 p s begun := alignBoundary_keepsOthers ..
  have hc : KeepsOthers 0x2864 p s (begun.countPicture p) := hb.trans (countPicture_keepsOthers ..)
  refine .ite .refl (.ite (countPicture_keepsOthers ..) ?_)
  cases alien with
  | some f => exact hc.trans (alignFail_keepsOthers ..)
  | none => exact .ite hb (hc.trans (syncPicture_keepsOthers ..))

theorem sourceLost_keepsOthers : KeepsOthers 0x2864 p s (s.sourceLost p) := .ite .refl (alignFail_keepsOthers ..)

theorem discardPicture_keepsOthers : KeepsOthers 0x2864 p s (s.discardPicture p) :=
  (KeepsOthers.of_within (setSrc_within ..) rfl).trans (bump_keepsOthers _ F.ES_ALIGN_STAT_CONCEALED rfl 1)

theorem storeEnd_keepsOthers (missing : List Nat) : KeepsOthers 0x2864 p s (s.storeEnd p missing) := by
  unfold State.storeEnd
  extract_lets counted x
  have hc : KeepsOthers 0x2864 p s counted := countPicture_keepsOthers ..
  refine .ite .refl ?_
  split
  · exact hc
  · exact .ite ((hc.trans (discardPicture_keepsOthers ..)).step (tellTwin_within _) rfl)
      ((hc.step (setSrc_within ..) rfl).trans (bump_keepsOthers _ F.ES_ALIGN_STAT_CONCEALED rfl _))

/-- In a mode in which the engines do not run nothing happens (R31). -/
theorem whileRunning_keepsOthers {ix e : Nat} {k : State → State} (h : KeepsOthers ix e s (k s)) :
    KeepsOthers ix e s (s.whileRunning k) := .ite h .refl

end Source

/-! ### Rate converters (R158–R161) -/

section Converter
variable (s : State) (e : Nat)

theorem setAsrc_keepsOthers (n : Nat) : KeepsOthers 0x3060 e s (s.setAsrc e n) := setFld_keepsOthers s F.AU_ASRC_STATE rfl n

theorem asrcLocked_keepsOthers (ratio : Int) : KeepsOthers 0x3060 e s (s.asrcLocked e ratio) :=
  have hr : KeepsOthers 0x3060 e s (s.setFld F.AU_ASRC_RATIO e (unsigned 32 ratio)) :=
    setFld_keepsOthers s F.AU_ASRC_RATIO rfl _
  .ite .refl (.ite (setAsrc_keepsOthers ..) (.ite ((hr.step (asrcFade_within ..) rfl).trans (setAsrc_keepsOthers ..))
    (.ite hr .refl)))

theorem asrcUnlocked_keepsOthers : KeepsOthers 0x3060 e s (s.asrcUnlocked e) :=
  .ite ((KeepsOthers.of_within (asrcFade_within ..) rfl).trans (setAsrc_keepsOthers ..)) .refl

theorem asrcLock_keepsOthers (ratio : Int) : KeepsOthers 0x3060 e s (s.asrcLock e ratio) :=
  .ite (.ite ((asrcLocked_keepsOthers ..).step (tellTwin_within _) rfl) .refl) (asrcLocked_keepsOthers ..)

theorem asrcUnlock_keepsOthers : KeepsOthers 0x3060 e s (s.asrcUnlock e) :=
  .ite (.ite ((asrcUnlocked_keepsOthers ..).step (tellTwin_within _) rfl) .refl) (asrcUnlocked_keepsOthers ..)

end Converter

/-! ### Channels of memory (R381) -/

theorem refreshCheck_keepsOthers (s : State) (c t : Nat) : KeepsOthers 0x7018 c s (s.refreshCheck c t) := by
  unfold State.refreshCheck
  extract_lets banded doubled
  have hb : KeepsOthers 0x7018 c s banded := setFld_keepsOthers s F.MM_CHAN_STAT_TBAND rfl _
  have hset (n : Nat) : KeepsOthers 0x7018 c s (banded.setNotify F.MM_CHAN_STAT_REFX2 c n) :=
    hb.trans (setNotify_keepsOthers _ F.MM_CHAN_STAT_REFX2 rfl rfl n)
  have hd : KeepsOthers 0x7018 c s doubled := .ite (hset 1) (.ite (hset 0) hb)
  exact .ite .refl (.ite (.ite hd ((hd.step (set_mm_within ..) rfl).step (raise_within ..) rfl)) (hd.step (set_mm_within ..) rfl))

theorem scrubDone_keepsOthers (s : State) (c : Nat) (corrected bad : List Nat) :
    KeepsOthers 0x7018 c s (s.scrubDone c corrected bad) := by
  unfold State.scrubDone
  extract_lets counted ranked
  have hc : KeepsOthers 0x7018 c s counted := bump_keepsOthers s F.MM_CHAN_STAT_CE rfl _
  have hr : KeepsOthers 0x7018 c s ranked := .foldl hc fun _ _ => .of_within (bump_within ..) rfl
  exact .ite .refl (.foldl hr fun a x =>
    ((bump_keepsOthers a F.MM_CHAN_STAT_AUDIT rfl 1).step (raise_within ..) rfl).step (reflatten_within ..) rfl)

/-! ### Inputs (R407–R410) -/

section Input
variable (s : State) (i : Nat)

theorem setGpi_keepsOthers (n : Nat) : KeepsOthers 0x7850 i s (s.setGpi i n) :=
  have hs : KeepsOthers 0x7850 i s (s.setFld F.EV_GPI_STAT_STATE i n) := setFld_keepsOthers s F.EV_GPI_STAT_STATE rfl n
  .ite hs (.ite (hs.step (refLost_within ..) rfl) (.ite (.ite (hs.step (beginQualify_within ..) rfl) hs) hs))

theorem gpiSettle_keepsOthers : KeepsOthers 0x7850 i s (s.gpiSettle i) :=
  (KeepsOthers.of_within (withGpi_within ..) rfl).trans (setGpi_keepsOthers ..)

theorem chatter_keepsOthers : KeepsOthers 0x7850 i s (s.chatter i) := by
  unfold State.chatter
  extract_lets g masked counted
  have hm : KeepsOthers 0x7850 i s masked := .of_within (withGpi_within ..) rfl
  have hc : KeepsOthers 0x7850 i s counted :=
    (hm.trans (setGpi_keepsOthers ..)).trans (bump_keepsOthers _ F.EV_GPI_STAT_CHATTERS rfl 1)
  exact (hc.step (note_within ..) rfl).step (notify_within ..) rfl

theorem gpiEdge_keepsOthers : KeepsOthers 0x7850 i s (s.gpiEdge i) := by
  unfold State.gpiEdge
  extract_lets t win seen shown
  have hs : KeepsOthers 0x7850 i s shown :=
    (KeepsOthers.of_within (withGpi_within ..) rfl).trans (setFld_keepsOthers _ F.EV_GPI_STAT_LEVEL rfl _)
  exact .ite .refl (.ite (hs.step (withGpi_within ..) rfl) (.ite (hs.trans (chatter_keepsOthers ..)) hs))

theorem gpiQualify_keepsOthers : KeepsOthers 0x7850 i s (s.gpiQualify i) := by
  unfold State.gpiQualify
  extract_lets on waited g active counted told acted
  have ha : KeepsOthers 0x7850 i s active := (KeepsOthers.of_within (waitUntil_within ..) rfl).step (withGpi_within ..) rfl
  have hc : KeepsOthers 0x7850 i s counted :=
    (ha.trans (setFld_keepsOthers _ F.EV_GPI_STAT_EDGETIME rfl _)).trans (bump_keepsOthers _ F.EV_GPI_STAT_QEDGES rfl 1)
  have ht : KeepsOthers 0x7850 i s told := (hc.trans (setGpi_keepsOthers ..)).step (notify_within ..) rfl
  have hd : KeepsOthers 0x7850 i s acted := ht.step (trigGpi_within ..) rfl
  exact .ite .refl (.ite (.ite (hd.step (gpiArm_within ..) rfl) hd) ht)

theorem gpiStuck_keepsOthers : KeepsOthers 0x7850 i s (s.gpiStuck i) := by
  unfold State.gpiStuck
  extract_lets waited counted
  have hc : KeepsOthers 0x7850 i s counted :=
    ((KeepsOthers.of_within (waitUntil_within ..) rfl).trans (setGpi_keepsOthers ..)).trans
      (bump_keepsOthers _ F.EV_GPI_STAT_STUCKS rfl 1)
  exact .ite .refl ((hc.step (note_within ..) rfl).step (notify_within ..) rfl)

theorem gpiUnmask_keepsOthers : KeepsOthers 0x7850 i s (s.gpiUnmask i) :=
  have hw : KeepsOthers 0x7850 i s (s.waitUntil ((s.gpi i).since + ms (s.fld F.EV_GPI_HOLD i))) := .of_within (waitUntil_within ..) rfl
  .ite .refl ((hw.trans (gpiSettle_keepsOthers ..)).step (notify_within ..) rfl)

end Input

/-! ### Domains, monitors and droops (R435–R450) -/

section Power
variable (s : State) (e : Nat)

theorem endRise_setDomain_keepsOthers (n : Nat) : KeepsOthers 0x8810 e s ((s.endRise e).setDomain e n) :=
  (KeepsOthers.of_within (endRise_within ..) rfl).trans (setDomain_keepsOthers ..)

theorem domainOn_keepsOthers : KeepsOthers 0x8810 e s (s.domainOn e) :=
  .ite ((endRise_setDomain_keepsOthers ..).step (startLanes_within ..) rfl) .refl

theorem domainFault_keepsOthers : KeepsOthers 0x8810 e s (s.domainFault e) :=
  .ite ((endRise_setDomain_keepsOthers ..).step (raise_within ..) rfl) .refl

theorem domainOff_keepsOthers : KeepsOthers 0x8810 e s (s.domainOff e) :=
  .ite ((setDomain_keepsOthers ..).trans (applyDomain_keepsOthers ..)) .refl

theorem monitorFail_keepsOthers (value : Nat) : KeepsOthers 0x8818 e s (s.monitorFail e value) :=
  have hv : KeepsOthers 0x8818 e s (s.setFld F.PW_MON_VALUE e value) := setFld_keepsOthers s F.PW_MON_VALUE rfl value
  .ite ((hv.trans (setNotify_keepsOthers _ F.PW_MON_STATUS rfl rfl 1)).step (raise_within ..) rfl) .refl

theorem droopEnd_keepsOthers (d depth ns margin lanes : Nat) : KeepsOthers 0x8830 d s (s.droopEnd d depth ns margin lanes) := by
  unfold State.droopEnd
  split
  · exact .refl
  · extract_lets full short left ended least leastLead longest counted lost
    have he : KeepsOthers 0x8830 d s ended := .of_within (setDroop_within ..) rfl
    have hl : KeepsOthers 0x8830 d s longest :=
      ((he.trans (setFld_keepsOthers _ F.PW_DROOP_MINS rfl _)).trans (setFld_keepsOthers _ F.PW_DROOP_MINLEAD rfl _)).trans
        (setFld_keepsOthers _ F.PW_DROOP_LONGEST rfl _)
    have hc : KeepsOthers 0x8830 d s counted := hl.trans (bump_keepsOthers _ F.PW_DROOP_DROOPS rfl 1)
    have ho : KeepsOthers 0x8830 d s lost :=
      .ite ((hc.trans (bump_keepsOthers _ F.PW_DROOP_LOSSES rfl 1)).step (raise_within ..) rfl) hc
    exact .ite .refl (.ite (ho.step (raise_within ..) rfl) ho)

end Power

/-- Settles O56: an event changes its own element's words, and what follows from it stands in other objects. -/
theorem eventsLeaveOtherElements : Obligations.EventsLeaveOtherElements := by
  unfold Obligations.EventsLeaveOtherElements
  refine ⟨?signalReturn, ?stayLos, ?stayReturn, ?overrun, ?starve, ?picture, ?sourceLost, ?pictureEnd, ?asrcLock, ?asrcUnlock,
    ?refresh, ?scrub, ?gpiEdge, ?gpiQualify, ?gpiStuck, ?gpiUnmask, ?domainOn, ?domainFault, ?domainOff, ?monitor, ?droop⟩
  case signalReturn => exact fun e _ s => (signalReturn_keepsOthers s e).keeps rfl
  case stayLos => exact fun e _ s => (stayLost_keepsOthers s e).keeps rfl
  case stayReturn => exact fun e _ s => (stayBack_keepsOthers s e).keeps rfl
  case overrun => exact fun d e _ s => (overrun_keepsOthers s d e).keeps rfl
  case starve => exact fun d e count _ s => (starve_keepsOthers s d e count).keeps rfl
  case picture =>
    exact fun p cap missed alien _ s => (whileRunning_keepsOthers s (sourcePicture_keepsOthers s p cap missed alien)).keeps rfl
  case sourceLost => exact fun p _ s => (whileRunning_keepsOthers s (sourceLost_keepsOthers s p)).keeps rfl
  case pictureEnd => exact fun p missed _ s => (whileRunning_keepsOthers s (storeEnd_keepsOthers s p missed)).keeps rfl
  case asrcLock => exact fun e off _ s => (asrcLock_keepsOthers s e off).keeps rfl
  case asrcUnlock => exact fun e _ s => (asrcUnlock_keepsOthers s e).keeps rfl
  case refresh => exact fun c temp _ s => (refreshCheck_keepsOthers s c temp).keeps rfl
  case scrub => exact fun c corr bad _ s => (scrubDone_keepsOthers s c corr bad).keeps rfl
  case gpiEdge => exact fun i _ s => (gpiEdge_keepsOthers s i).keeps rfl
  case gpiQualify => exact fun i _ s => (gpiQualify_keepsOthers s i).keeps rfl
  case gpiStuck => exact fun i _ s => (gpiStuck_keepsOthers s i).keeps rfl
  case gpiUnmask => exact fun i _ s => (gpiUnmask_keepsOthers s i).keeps rfl
  case domainOn => exact fun e _ s => (domainOn_keepsOthers s e).keeps rfl
  case domainFault => exact fun e _ s => (domainFault_keepsOthers s e).keeps rfl
  case domainOff => exact fun e _ s => (domainOff_keepsOthers s e).keeps rfl
  case monitor => exact fun e value _ s => (monitorFail_keepsOthers s e value).keeps rfl
  case droop => exact fun d depth ns lead starved _ s => (droopEnd_keepsOthers s d depth ns lead starved).keeps rfl

end Sys2Proof.Machine
end

section
/-! A start trigger that acts while house time is slewing back (R151, R276). -/
namespace Sys2Proof.Machine

/-! ### What a trigger does at its house index takes no time -/

theorem setDir_steady (s : State) (q : Nat) (tx : Bool) (n : Nat) : Steady s (s.setDir q tx n) := setNotify_steady ..

theorem applyMask_steady (s : State) (e frame : Nat) : Steady s (s.applyMask e frame) := by
  unfold State.applyMask
  split
  · exact .refl
  · exact ((Steady.of_within (dropMask_within ..) rfl).trans (setFld_steady ..)).trans (setNotify_steady ..)

theorem startDir_steady (s : State) (i q : Nat) (tx : Bool) : Steady s (s.startDir i q tx) := by
  unfold State.startDir
  extract_lets f taken masked back indexed
  have ht : Steady s taken := .of_within (takeFree_within s) rfl
  have hm : Steady s masked := .ite ht (ht.trans (applyMask_steady ..))
  have hb : Steady s back := hm.step (putBack_within ..) rfl
  have hi : Steady s indexed := hb.step (setWord_within ..) rfl
  exact (hi.step (setStream_within ..) rfl).trans (setDir_steady ..)

theorem stopDir_steady (s : State) (i q : Nat) (tx : Bool) : Steady s (s.stopDir i q tx) := by
  unfold State.stopDir
  split
  · exact .refl
  next x _ =>
    extract_lets n recorded
    have hr : Steady s recorded := by
      unfold recorded
      split
      · exact raise_steady ..
      · exact .refl
    exact ((hr.step (dropStream_within ..) rfl).trans (setFld_steady ..)).trans (setDir_steady ..)

theorem endTrig_steady (s : State) (n st result : Nat) : Steady s (s.endTrig n st result) :=
  ((Steady.of_within (dropTrig_within ..) rfl).trans (setFld_steady ..)).trans (setNotify_steady ..)

/-- A trigger acts at the time to which the wait for its house index has come. -/
theorem trigAct_house {s : State} {n i : Nat} {x : Trig} (hx : (s.ap.trigs.find? fun y => y.n == n) = some x) (hi : x.at_ = some i) :
    (s.trigAct n).house = (s.waitHouse (sampleStart i)).house := by
  unfold State.trigAct
  rw [hx]
  simp only [hi]
  refine Steady.house (((Steady.ite ?start ?stop).trans (setFld_steady ..)).trans (endTrig_steady ..))
  case start => exact .foldl .refl fun a d => .ite (startDir_steady ..) .refl
  case stop => exact .foldl .refl fun a d => stopDir_steady ..

/-! ### A trigger armed while house time slews back -/

/-- START of the receive direction of the ports named, at a house index (WHEN SAMPLE). -/
def startAtSample : W := F.AU_START_OP.put (F.AU_START_DIR.put (F.AU_START_WHEN.put 0 2) 1) 1

/-- ACTIVE with receive enabled on TDM port 0, and H slewing back towards the counter, which it leads by 1 ms; then START of that direction
at house index 48,000 is accepted as trigger 0. -/
def slewingStart : State := ((slewingState.setFld F.AU_TDM_RXEN 0 1).trigCommit 0 startAtSample 48000 1).2

/-- The trigger that the START has armed. -/
def slewingTrig : Trig := ⟨0, startAtSample, 1, some 48000, false⟩

/-- START has armed its trigger and the direction, as R150 and R151 ask. -/
theorem slewingStart_armed : slewingStart.ap.trigs = [slewingTrig] ∧ slewingStart.fld F.AU_START_STATE 0 = agARMED ∧
    slewingStart.dirState (qOfTdm 0) false = apARMED := by decide +kernel

/-- The wait for the index is counted in steps of the counter; H, slewing back, falls short of its instant. -/
theorem start_falls_short : (slewingStart.waitHouse (sampleStart 48000)).house < sampleStart 48000 := by decide +kernel

/-- Refutes O17: a trigger that acts while house time slews back (R276) acts before the instant of its house index. -/
theorem not_audioPortsTakeWritesAndTriggers : ¬ Obligations.AudioPortsTakeWritesAndTriggers := by
  unfold Obligations.AudioPortsTakeWritesAndTriggers
  rintro ⟨-, -, -, -, -, -, hact⟩
  obtain ⟨t, he, hdone, -⟩ := hact 0 48000 slewingTrig slewingStart
  obtain ⟨htrigs, -, -⟩ := slewingStart_armed
  have hx : (slewingStart.ap.trigs.find? fun y => y.n == 0) = some slewingTrig := by rw [htrigs]; rfl
  obtain ⟨-, -, -, hreached⟩ := hdone hx rfl
  have hu : (slewingStart.trigAct 0).settleIsolated = t.settleIsolated := Host.Outcome.next.inj he
  have hh : t.house = (slewingStart.waitHouse (sampleStart 48000)).house := by
    rw [← (settleIsolated_steady t).house, ← hu, (settleIsolated_steady _).house, trigAct_house hx rfl]
  exact absurd (hh ▸ hreached) (Nat.not_le.2 start_falls_short)

end Sys2Proof.Machine
end

section
/-! A head commit whose images are made once its destination's entry has lost VALID (R90, R183). -/
namespace Sys2Proof.Machine

/-- ACTIVE with destination 0 a 1080p59.94 port; image 0 has two pixels, and the shadow of head 0 has it as its layer 0, a STATIC TOP. -/
def labelledHead : State :=
  let port := F.ES_PORT_SLOTMASK.put (F.ES_PORT_FORMAT.put (F.ES_PORT_VALID.put 0 1) 0x31) 3
  let image := F.CM_IMAGE_HEIGHT.put (F.CM_IMAGE_WIDTH.put (F.CM_IMAGE_VALID.put 0 1) 2) 1
  let shown := F.CM_LAYER_STATIC.put (F.CM_LAYER_CLASS.put 0 lTOP) 1
  let size := F.CM_LAYER_HEIGHT.put (F.CM_LAYER_WIDTH.put 0 2) 1
  ((((State.reset.setFld F.SY_MODE_MODE 0 ACTIVE).setWord (portIx true) 0 0 port).setWord 0x3830 0 0 image).setShadow 0x3820 0 0 shown).setShadow
    0x3820 0 1 size

/-- The commit of layer 0 on head 0, which waits for its image to be flattened (R183). -/
def labelCommitted : State := (labelledHead.headCommit 0 0 (F.CM_HEAD_LMASK.put (withOp F.CM_HEAD_OP 0 1) 1)).2

/-- Meanwhile DEST has lost VALID, as a publication of the port tables leaves it (R57). -/
def labelOrphaned : State := labelCommitted.setWord (portIx true) 0 0 0

/-- The commit is held, and its image is being flattened. -/
theorem labelOrphaned_held : (labelOrphaned.workOn .head 0).map (·.state) = some tsHELD ∧ labelOrphaned.fld F.CM_HEAD_FLAT 0 = 1 := by
  decide +kernel

/-- With the image made the held commit is checked again (R90), ends PORT, and FLAT reads IDLE: nothing is left to flatten for. -/
theorem labelOrphaned_ends :
    (labelOrphaned.flattenDone 0 true).settleIsolated.sys.isolated = [] ∧
      (labelOrphaned.flattenDone 0 true).settleIsolated.fld F.CM_HEAD_STATUS 0 = Status.port.code ∧
      (labelOrphaned.flattenDone 0 true).settleIsolated.fld F.CM_HEAD_FLAT 0 = 0 := by decide +kernel

/-- Refutes O16: images that are made for a held commit whose check then fails (R90, R183) leave FLAT at IDLE, not READY. -/
theorem not_compositionTakesItsWrites : ¬ Obligations.CompositionTakesItsWrites := by
  unfold Obligations.CompositionTakesItsWrites
  rintro ⟨-, -, -, -, -, -, hflatten⟩
  obtain ⟨t, he, hready, -⟩ := hflatten 0 true labelOrphaned
  have hu : (labelOrphaned.flattenDone 0 true).settleIsolated = t.settleIsolated := Host.Outcome.next.inj he
  obtain ⟨-, hflattening⟩ := labelOrphaned_held
  obtain ⟨hwhole, -, hidle⟩ := labelOrphaned_ends
  rw [hu] at hwhole hidle
  rw [settleIsolated_whole hwhole, hready hflattening] at hidle
  exact absurd hidle (by decide)

end Sys2Proof.Machine
end

section
/-! A request for a snapshot at the twin that mirrors (R304), which the statement about the twin link's events denies. -/
namespace Sys2Proof.Machine

/-- A paired CORE in ACTIVE, in MIRRORING with its link up; the other twin decides. -/
def mirroringTwin : State :=
  (((State.reset.setFld F.SY_MODE_MODE 0 ACTIVE).setFld F.TW_CONFIG_EN 0 1).setFld F.TW_STATE_SYNC 0 syncMIRRORING).setFld
    F.TW_STATE_LINK 0 1

/-- It is the twin that asks for a snapshot, and its request stands. -/
theorem mirroringTwin_asks :
    (mirroringTwin.sync = syncMIRRORING ∧ mirroringTwin.decides = false) ∧ (mirroringTwin.snapshotRequest true).tw.asked = true := by
  decide +kernel

/-- Refutes O7: in the clause of SNAPSHOT_REQUEST that tells when nothing changes, `if mine then ¬A else ¬B → t = s` has the arrow inside
its `else`. With `mine` it so claims ¬A, that no part is in MIRRORING while its twin decides, of every state; such a part is the one that
asks (R304). -/
theorem not_twinLinkEventsMoveSync : ¬ Obligations.TwinLinkEventsMoveSync := by
  unfold Obligations.TwinLinkEventsMoveSync
  rintro ⟨-, -, -, -, -, -, hrequest, -, -⟩
  obtain ⟨t, -, -, -, hnever⟩ := hrequest true mirroringTwin
  rw [if_pos rfl] at hnever
  exact hnever mirroringTwin_asks.1

end Sys2Proof.Machine
end

section
/-! A tick of an empty queue (R251), and a measurement of a reference of which nothing is kept (R259). -/
namespace Sys2Proof.Machine

/-- Settles O47: with no command waiting a step is one tick of the clock. -/
theorem anIdleStepIsOneTick : Obligations.AnIdleStepIsOneTick := by
  intro s hidle
  have hstep : step s = .next (s.ticks 1) := by rw [step, hidle]
  refine ⟨s.ticks 1, hstep, (mono_ticks s 1).trans (by rw [Nat.one_mul]), ?_, rfl, hidle⟩
  show s.clk.count + 1 * s.tickStep = _
  rw [Nat.one_mul]

/-- Pulse input 0 is enabled as a reference, and the table of what is kept beside the registers has no entry for it. -/
def unkeptReference : State := (State.reset.setFld F.TM_REF_EN 0 1).withTm fun t => { t with refs := [] }

/-- The reference is one that a measurement of O21 is about. -/
theorem unkeptReference_measurable :
    (0 : Nat) < 14 ∧ unkeptReference.refEnabled 0 = true ∧ unkeptReference.refRuns 0 = true ∧
      unkeptReference.pulseFlagged 0 = false ∧ isPtp 0 = false ∧ unkeptReference.refSignal 0 = true := by decide +kernel

/-- With no entry to keep the measurement in, FREQ takes the frequency of a reference at rest. -/
theorem unkeptReference_measured :
    (unkeptReference.refMeasured 0 [] 5 1).settleIsolated.sys.isolated = [] ∧
      (unkeptReference.refMeasured 0 [] 5 1).settleIsolated.fld F.TM_REF_STAT_FREQ 0 = 0 := by decide +kernel

/-- Refutes O21, in its clause of a measurement, which asks nothing of the table of references: where that table is shorter than the 14
references, which it is in no state that a run from reset reaches, a frequency of 5 ppb measured of an enabled reference with signal leaves
FREQ at 0. -/
theorem not_referencesAreMeasuredAndSelected : ¬ Obligations.ReferencesAreMeasuredAndSelected := by
  unfold Obligations.ReferencesAreMeasuredAndSelected
  rintro ⟨-, hmeasure, -⟩
  obtain ⟨t, he, hfreq, -⟩ := hmeasure 0 1 [] 5 _ unkeptReference
  have hu : (unkeptReference.refMeasured 0 [] 5 1).settleIsolated = t.settleIsolated := Host.Outcome.next.inj he
  obtain ⟨hwhole, hzero⟩ := unkeptReference_measured
  rw [hu] at hwhole hzero
  rw [settleIsolated_whole hwhole] at hzero
  obtain ⟨hfive, -⟩ := hfreq unkeptReference_measurable rfl
  rw [hzero] at hfive
  exact absurd hfive (by decide +kernel)

end Sys2Proof.Machine
end

section
/-! A request that passes the common checks and ends in no violation (R335), and words that it stores. -/
namespace Sys2Proof.Machine

/-- What comes after the object's own part where its status is no violation: the answer, a PCIe function's own registers, the counters of
messages. -/
def Parts.plainly : List Part := [Part.host, 0x6048]

section Plain
variable {s t : State} {rq : Req} {hw : HostWrite} {own : State → Status × State} {st : Status}

theorem passed_plain_within (hp : s.passes rq hw = true) (ho : own s.stir = (st, t)) (hv : st.violation = false) :
    Within Parts.plainly t (s.request rq hw own) := by
  obtain ⟨w, h⟩ := request_judged (alive_of_passes hp) (passed_judged hp ho)
  rw [h]
  exact (((settle_within_host t rq hw.addr w hv).mono rfl).step (countMsg_within ..) rfl).step (answer_within ..) rfl

/-- A refusal by the object's own part that is no violation: every word stands but the counters of messages, and the answer says why. -/
theorem passed_refused (hp : s.passes rq hw = true) (ho : own s.stir = (st, s.stir)) (hv : st.violation = false)
    (hf : st ≠ .forwarded) : Within Parts.refused s (s.request rq hw own) ∧ (s.request rq hw own).replied hw.addr st :=
  ⟨request_refused_within (alive_of_passes hp) (passed_judged hp ho) hv, passed_replied hp ho hf⟩

end Plain

theorem stir_word (s : State) (ix e w : Nat) : s.stir.word ix e w = s.word ix e w := by rw [State.word, State.word, stir_regs]

/-- What a word reads after a write of this word or another of the object, where the object is not the settings store's own. -/
theorem word_putWord (s : State) {ix : Nat} (e w e' w' : Nat) (v : W) (m : takesIn Parts.markDirty ix = false) :
    (s.putWord ix e w v).word ix e' w' = if e' = e ∧ w' = w then v else s.word ix e' w' := by
  split
  next h => rw [h.1, h.2, word_putWord_same s e w v m]
  next h =>
    have hset : (s.setWord ix e w v).word ix e' w' = s.word ix e' w' :=
      word_setWord_other s v fun hk => h ⟨congrArg Key.e hk, congrArg Key.w hk⟩
    unfold State.putWord
    split
    · rfl
    · split
      · exact ((markDirty_within _).word_eq m e' w').trans hset
      · exact hset

/-- A field of a word that is known. -/
theorem fld_of_word {s : State} {f : Fld} {e : Nat} {v : W} (h : s.word f.ix e f.w = v) : s.fld f e = f.of v := h ▸ rfl

end Sys2Proof.Machine
end

section
/-! The control buses (R307, R308): frames held, collisions, and the attempt after a backoff. -/
namespace Sys2Proof.Machine

/-! ### A frame received -/

theorem bus_withBus (s : State) (a : Nat) (f : BusAtt → BusAtt) : (s.withBus a f).host.bus[a]? = (s.host.bus[a]?).map f :=
  List.getElem?_modify_eq f a s.host.bus

/-- Frames that the attachment holds. -/
def State.busHeld (s : State) (a : Nat) : Nat := ((s.host.bus[a]?).map (·.held.length)).getD 0

section Frame
variable {s : State} {a : Nat} {f : BusFrame}

theorem busFrame_jabber (hs : s.alive = true) (hj : f.jabber = true) : (s.busFrame a f).fld F.CT_BUS_STAT_JABBER a = 1 := by
  have h : s.busFrame a f = s.setFld F.CT_BUS_STAT_JABBER a 1 := by simp [State.busFrame, hs, hj]
  rw [h]
  exact fld_setFld_of_lt s a 1 rfl (by decide)

theorem busFrame_badFcs (hs : s.alive = true) (hj : f.jabber = false) (hf : f.fcsOk = false) :
    (s.busFrame a f).fld F.CT_BUS_STAT_FCS a = 1 := by
  have h : s.busFrame a f = s.setFld F.CT_BUS_STAT_FCS a 1 := by simp [State.busFrame, hs, hj, hf]
  rw [h]
  exact fld_setFld_of_lt s a 1 rfl (by decide)

/-- Where no mast listens, and for a frame that is not the attachment's, nothing happens. -/
theorem busFrame_ignored (h : s.alive = false ∨ (f.jabber = false ∧ f.fcsOk = true ∧
    (f.toMe = false ∨ f.tagged = true ∨ 1518 < f.len ∨ f.body = .other))) : s.busFrame a f = s := by
  obtain hs | ⟨hj, hf, hn⟩ := h
  · simp [State.busFrame, hs]
  · cases hs : s.alive
    · simp [State.busFrame, hs]
    · obtain h | h | h | h := hn
      all_goals simp [State.busFrame, hs, hj, hf, h]

/-- A whole frame for the attachment, with a message of NCP in it. -/
structure BusMessage (f : BusFrame) (ip udp : Nat) (m : List Byte) : Prop where
  noJabber : f.jabber = false
  fcs      : f.fcsOk = true
  mine     : f.toMe = true
  untagged : f.tagged = false
  short    : f.len ≤ 1518
  message  : f.body = .ncp ip udp m

variable {ip udp : Nat} {m : List Byte}

theorem busFrame_good (hs : s.alive = true) (hg : BusMessage f ip udp m) :
    s.busFrame a f = if 16 ≤ s.busHeld a then s.bump F.CT_NCP_STAT_BUSDROP 0 1
      else match s.ncpDrop m with
        | some false => s.bump F.CT_NCP_STAT_MALFORMED 0 1
        | some true => s.bump F.CT_NCP_STAT_WRONGNODE 0 1
        | none => s.withBus a fun b => { b with held := b.held ++ [⟨ip, udp, m⟩] } := by
  obtain ⟨hj, hf, hm, ht, hl, hb⟩ := hg
  simp only [State.busFrame, State.busHeld, hs, hj, hf, hm, ht, hb, Nat.not_lt.2 hl, decide_false, Bool.not_true, Bool.or_self,
    Bool.false_eq_true, if_false]
  rfl

theorem busFrame_held (hs : s.alive = true) (hg : BusMessage f ip udp m) (hroom : s.busHeld a < 16) (hd : s.ncpDrop m = none) :
    ((s.busFrame a f).host.bus[a]?).map (·.held) = (s.host.bus[a]?).map fun b => b.held ++ [⟨ip, udp, m⟩] := by
  rw [busFrame_good hs hg, if_neg (by omega), hd, bus_withBus, Option.map_map]
  rfl

theorem busFrame_dropped (hs : s.alive = true) (hg : BusMessage f ip udp m) (hfull : 16 ≤ s.busHeld a) :
    (s.busFrame a f).fld F.CT_NCP_STAT_BUSDROP 0 =
      satAdd (2 ^ F.CT_NCP_STAT_BUSDROP.len - 1) (s.fld F.CT_NCP_STAT_BUSDROP 0) 1 := by
  rw [busFrame_good hs hg, if_pos hfull]
  exact fld_bump_same s 0 1 rfl

end Frame

/-! ### Collisions -/

section Collision
variable {s : State} {a : Nat} {b : BusAtt} (late : Bool)

/-- The signs of a collision at the attachment: COLL, and LATECOLL of a late one. -/
def State.collided (s : State) (a : Nat) (late : Bool) : State :=
  let t := s.setFld F.CT_BUS_STAT_COLL a 1
  if late then t.setFld F.CT_BUS_STAT_LATECOLL a 1 else t

theorem collided_coll (s : State) : (s.collided a late).fld F.CT_BUS_STAT_COLL a = 1 := by
  have h : (s.setFld F.CT_BUS_STAT_COLL a 1).fld F.CT_BUS_STAT_COLL a = 1 := fld_setFld_of_lt s a 1 rfl (by decide)
  unfold State.collided
  split
  · rw [fld_setFld_apart (h := rfl), h]
  · exact h

theorem collided_bus (s : State) : (s.collided a late).host = s.host := by
  unfold State.collided
  split <;> rfl

/-- A collision at a frame whose last attempt is not 2 ms old. -/
theorem busCollision_eq (hb : s.host.bus[a]? = some b) (hn : s.now ≤ b.since + ms 2) :
    s.busCollision a late =
      if 16 ≤ b.attempts + 1 then
        ((s.collided a late).setFld F.CT_BUS_STAT_EXCESS a 1).withBus a fun x =>
          { x with attempts := 0, backoff := 0, since := (s.collided a late).now }
      else
        { s.collided a late with fresh := (s.collided a late).fresh + 1 }.withBus a fun x =>
          { x with attempts := b.attempts + 1, since := (s.collided a late).now,
                   backoff := Config.backoff (s.collided a late).fresh % 2 ^ min (b.attempts + 1) 10 } := by
  have hold (t : State) (h : t.clk = s.clk) : ¬ b.since + ms 2 < t.now := by rw [State.now, h]; exact Nat.not_lt.2 hn
  have hc : (s.collided a late).clk = s.clk := by
    unfold State.collided
    split <;> rfl
  have hn' := hold _ hc
  unfold State.busCollision
  rw [hb]
  simp only [State.collided] at hn' ⊢
  simp only [if_neg hn']

theorem busCollision_counted (hb : s.host.bus[a]? = some b) (hn : s.now ≤ b.since + ms 2) (hr : b.attempts < 15) :
    ((s.busCollision a late).host.bus[a]?).map (·.attempts) = some (b.attempts + 1) ∧
      (s.busCollision a late).fld F.CT_BUS_STAT_COLL a = 1 := by
  rw [busCollision_eq late hb hn, if_neg (by omega), bus_withBus]
  refine ⟨?_, collided_coll late s⟩
  show (((s.collided a late).host.bus[a]?).map _).map _ = _
  rw [collided_bus, hb]
  rfl

theorem busCollision_givesUp (hb : s.host.bus[a]? = some b) (hn : s.now ≤ b.since + ms 2) (hr : 15 ≤ b.attempts) :
    ((s.busCollision a late).host.bus[a]?).map (·.attempts) = some 0 ∧
      (s.busCollision a late).fld F.CT_BUS_STAT_EXCESS a = 1 := by
  rw [busCollision_eq late hb hn, if_pos (by omega), bus_withBus]
  refine ⟨?_, fld_setFld_of_lt (f := F.CT_BUS_STAT_EXCESS) _ a 1 rfl (by decide)⟩
  show (((s.collided a late).host.bus[a]?).map _).map _ = _
  rw [collided_bus, hb]
  rfl

theorem busCollision_none (hb : s.host.bus[a]? = none) : s.busCollision a late = s := by
  unfold State.busCollision
  rw [hb]

end Collision

/-! ### The attempt after the backoff -/

theorem busRetry_eq {s : State} {a : Nat} {b : BusAtt} (hb : s.host.bus[a]? = some b) (hn : b.attempts ≠ 0) :
    s.busRetry a = (s.waitUntil (b.since + b.backoff * slotUnits)).withBus a
      fun x => { x with since := (s.waitUntil (b.since + b.backoff * slotUnits)).now, backoff := 0 } := by
  unfold State.busRetry
  rw [hb]
  exact if_neg hn

theorem now_withBus (s : State) (a : Nat) (f : BusAtt → BusAtt) : (s.withBus a f).now = s.now := rfl

theorem busRetry_begins {s : State} {a : Nat} {b : BusAtt} (hb : s.host.bus[a]? = some b) (hn : b.attempts ≠ 0) :
    ((s.busRetry a).host.bus[a]?).map (fun x => (x.backoff, x.since)) = some (0, (s.busRetry a).now) ∧
      b.since + b.backoff * slotUnits ≤ (s.busRetry a).now := by
  rw [busRetry_eq hb hn, bus_withBus, now_withBus, (waitUntil_within s _).agrees.host rfl, hb]
  exact ⟨rfl, le_now_waitUntil s _⟩

theorem busRetry_idle {s : State} {a : Nat} (h : ((s.host.bus[a]?).map (·.attempts)).getD 0 = 0) : s.busRetry a = s := by
  unfold State.busRetry
  split
  · rfl
  next b hb =>
    rw [hb] at h
    exact if_pos h

end Sys2Proof.Machine
end

section
/-! Leases, contexts, buses and plain registers as a host writes them (R273, R307, R320, R335, R336). -/
namespace Sys2Proof.Machine

/-! ### Leases (R336) -/

section Lease
variable {s : State} {rq : Req} {e : Nat}

/-- The context has the lease of element `e`. -/
def State.holdsLease (s : State) (rq : Req) (e : Nat) : Prop := s.fld F.CT_LEASE_HELD e = 1 ∧ s.fld F.CT_LEASE_CTX e = rq.ctx.val

theorem putLease_take (hfree : s.fld F.CT_LEASE_HELD e = 1 → s.fld F.CT_LEASE_CTX e = rq.ctx.val) :
    (putLease rq e 1).2 s.stir = (.ok, s.stir.putWord 0x6030 e 0 (BitVec.ofNat 64 (128 + rq.ctx.val))) := by
  have h : (s.fld F.CT_LEASE_HELD e == 1 && !(s.fld F.CT_LEASE_HELD e == 1 && s.fld F.CT_LEASE_CTX e == rq.ctx.val)) = false := by
    by_cases hh : s.fld F.CT_LEASE_HELD e = 1
    · simp [hh, hfree hh]
    · simp [hh]
  simp only [putLease, stir_fld]
  rw [if_pos trivial, h]
  rfl

theorem putLease_taken (hheld : s.fld F.CT_LEASE_HELD e = 1) (hctx : s.fld F.CT_LEASE_CTX e ≠ rq.ctx.val) :
    (putLease rq e 1).2 s.stir = (.busy, s.stir) := by
  simp [putLease, stir_fld, hheld, hctx]

theorem putLease_release (h : s.holdsLease rq e) : (putLease rq e 2).2 s.stir = (.ok, s.stir.putWord 0x6030 e 0 0) := by
  obtain ⟨hheld, hctx⟩ := h
  simp [putLease, stir_fld, hheld, hctx]

theorem putLease_notMine (h : s.fld F.CT_LEASE_HELD e ≠ 1 ∨ s.fld F.CT_LEASE_CTX e ≠ rq.ctx.val) :
    (putLease rq e 2).2 s.stir = (.busy, s.stir) := by
  obtain h | h := h <;> simp [putLease, stir_fld, h]

theorem putLease_break : (putLease rq e 3).2 s.stir = (.ok, s.stir.putWord 0x6030 e 0 0) := by
  simp [putLease]

/-- What a lease's word reads once it is written and the request answered. -/
theorem lease_written {v w : W} (hp : s.passes rq (putLease rq e v).1 = true)
    (ho : (putLease rq e v).2 s.stir = (.ok, s.stir.putWord 0x6030 e 0 w)) :
    let t := s.request rq (putLease rq e v).1 (putLease rq e v).2
    t.word 0x6030 e 0 = w ∧ t.replied ⟨0x6030, 0, e⟩ .ok :=
  ⟨((passed_plain_within hp ho rfl).word_eq rfl e 0).trans (word_putWord_same _ e 0 w rfl), passed_replied hp ho (by decide)⟩

theorem leaseTake_takes (hp : s.passes rq (putLease rq e 1).1 = true)
    (hfree : s.fld F.CT_LEASE_HELD e = 1 → s.fld F.CT_LEASE_CTX e = rq.ctx.val) :
    let t := s.request rq (putLease rq e 1).1 (putLease rq e 1).2
    t.fld F.CT_LEASE_HELD e = 1 ∧ t.fld F.CT_LEASE_CTX e = rq.ctx.val ∧ t.replied ⟨0x6030, 0, e⟩ .ok := by
  obtain ⟨hw, hr⟩ := lease_written hp (putLease_take hfree)
  have hlt : rq.ctx.val < 4 := rq.ctx.isLt
  refine ⟨(fld_of_word (f := F.CT_LEASE_HELD) hw).trans ?_, (fld_of_word (f := F.CT_LEASE_CTX) hw).trans ?_, hr⟩
  · rw [Fld.of, getBits_ofNat _ (by decide)]
    show (128 + rq.ctx.val) / 2 ^ 7 % 2 ^ 1 = 1
    omega
  · rw [Fld.of, getBits_ofNat _ (by decide)]
    show (128 + rq.ctx.val) / 2 ^ 0 % 2 ^ 2 = rq.ctx.val
    omega

/-- A lease's element written 0 is free. -/
theorem lease_freed {v : W} (hp : s.passes rq (putLease rq e v).1 = true)
    (ho : (putLease rq e v).2 s.stir = (.ok, s.stir.putWord 0x6030 e 0 0)) :
    let t := s.request rq (putLease rq e v).1 (putLease rq e v).2
    t.fld F.CT_LEASE_HELD e = 0 ∧ t.replied ⟨0x6030, 0, e⟩ .ok := by
  obtain ⟨hw, hr⟩ := lease_written hp ho
  exact ⟨(fld_of_word (f := F.CT_LEASE_HELD) hw).trans (by decide), hr⟩

theorem lease_refused {v : W} (hp : s.passes rq (putLease rq e v).1 = true) (ho : (putLease rq e v).2 s.stir = (.busy, s.stir)) :
    let t := s.request rq (putLease rq e v).1 (putLease rq e v).2
    t.word 0x6030 e 0 = s.word 0x6030 e 0 ∧ t.replied ⟨0x6030, 0, e⟩ .busy := by
  obtain ⟨hk, hr⟩ := passed_refused hp ho rfl (by decide)
  exact ⟨hk.word_eq rfl e 0, hr⟩

end Lease

/-! ### The attachments' addresses and the contexts (R307, R320) -/

section Context
variable {s : State} {rq : Req} {e w : Nat} {v : W}

/-- What a write of `CT_BUS` leaves: the word, and the address that the attachment acts under. -/
theorem putBus_stores (e : Nat) (v : W) (u : State) : ∃ f, (putBus e v).2 u = (.ok, (u.putWord 0x6020 e 0 v).withHost f) := by
  unfold putBus
  exact ⟨_, rfl⟩

theorem ctBus_stored (hp : s.passes rq (putBus e v).1 = true) :
    let t := s.request rq (putBus e v).1 (putBus e v).2
    t.word 0x6020 e 0 = v ∧ t.replied ⟨0x6020, 0, e⟩ .ok := by
  obtain ⟨f, ho⟩ := putBus_stores e v s.stir
  have hw : ((s.stir.putWord 0x6020 e 0 v).withHost f).word 0x6020 e 0 = v := word_putWord_same s.stir e 0 v rfl
  exact ⟨((passed_plain_within hp ho rfl).word_eq rfl e 0).trans hw, passed_replied hp ho (by decide)⟩

/-- Whether a context serves is told by the words of `CT_CONTEXT`. -/
theorem contextServes_congr {s t : State} (h : ∀ c n, t.word 0x6018 c n = s.word 0x6018 c n) : t.contextServes = s.contextServes := by
  simp only [State.contextServes, State.contextKey, State.fld, h]

/-- How a word of `CT_CONTEXT` is judged: as the contexts would stand with it. -/
theorem putContext_judged (c w : Nat) (v : W) (s : State) :
    (putContext c [(w, v)]).2 s.stir =
      if lifeState s = lfMANUFACTURE ∨ (s.putWord 0x6018 c w v).contextServes = true then (.ok, s.stir.putWord 0x6018 c w v)
      else (.busy, s.stir) := by
  have hl : lifeState s.stir = lifeState s := stir_fld ..
  have hc : (s.stir.putWord 0x6018 c w v).contextServes = (s.putWord 0x6018 c w v).contextServes :=
    contextServes_congr fun c' n => by rw [word_putWord _ _ _ _ _ _ rfl, word_putWord _ _ _ _ _ _ rfl, stir_word]
  simp only [putContext, List.foldl_cons, List.foldl_nil, hl, hc]
  by_cases h : lifeState s = lfMANUFACTURE ∨ (s.putWord 0x6018 c w v).contextServes = true
  · rw [if_pos h, if_neg (by obtain h | h := h <;> simp [h])]
  · obtain ⟨h1, h2⟩ := not_or.1 h
    rw [if_neg h, if_pos (by simp [h1, h2])]

theorem context_stored (hp : s.passes rq (putContext e [(w, v)]).1 = true)
    (h : lifeState s = lfMANUFACTURE ∨ (s.putWord 0x6018 e w v).contextServes = true) :
    let t := s.request rq (putContext e [(w, v)]).1 (putContext e [(w, v)]).2
    t.word 0x6018 e w = v ∧ t.replied ⟨0x6018, 0, e⟩ .ok := by
  have ho := (putContext_judged e w v s).trans (if_pos h)
  exact ⟨((passed_plain_within hp ho rfl).word_eq rfl e w).trans (word_putWord_same _ e w v rfl), passed_replied hp ho (by decide)⟩

theorem context_refused (hp : s.passes rq (putContext e [(w, v)]).1 = true)
    (h : ¬(lifeState s = lfMANUFACTURE ∨ (s.putWord 0x6018 e w v).contextServes = true)) :
    let t := s.request rq (putContext e [(w, v)]).1 (putContext e [(w, v)]).2
    t.word 0x6018 e w = s.word 0x6018 e w ∧ t.replied ⟨0x6018, 0, e⟩ .busy := by
  obtain ⟨hk, hr⟩ := passed_refused hp ((putContext_judged e w v s).trans (if_neg h)) rfl (by decide)
  exact ⟨hk.word_eq rfl e w, hr⟩

end Context

/-! ### Writes with no row of their own (R335) -/

section Register
variable {s : State} {rq : Req} {a : Addr} {v : W}

/-- `TM_SERVO` is made of numbers that a host reads and writes (R273). -/
theorem servo_readWrite : ∀ o ∈ dictionary, o.ix = 0x5038 → o.acc = [.rw] ∧ o.typ.isBytes = false := by decide +kernel

theorem findObj_spec {ix sub : Nat} {o : Obj} (h : findObj ix sub = some o) : o ∈ dictionary ∧ o.ix = ix ∧ o.sub = sub := by
  have hk := List.find?_some h
  simp only [Bool.and_eq_true, beq_iff_eq] at hk
  exact ⟨List.mem_of_find?_eq_some h, hk⟩

/-- What passes the common checks names an object. -/
theorem found_of_passes {x : HostWrite} (h : s.passes rq x = true) : ∃ o, findObj x.addr.ix x.addr.sub = some o := by
  cases ho : findObj x.addr.ix x.addr.sub with
  | some o => exact ⟨o, rfl⟩
  | none =>
    have he : findElem s.caps x.addr = .error .index := by rw [findElem, ho]
    simp [State.passes, he] at h

/-- A write reaches the mast at the address that it was sent to. -/
theorem putWordOf_addr (s : State) (rq : Req) (a : Addr) (w : Nat) (v : W) : (putWordOf s rq a w v).1.addr = a := by
  unfold putWordOf
  split
  · rfl
  · dsimp only
    split
    · rfl
    · split <;> rfl

/-- A servo register is a plain scalar: what is written is stored. -/
theorem putWordOf_servo {n : Nat} {o : Obj} (ho : findObj 0x5038 n = some o) (hn : 1 ≤ n) (u : State) :
    (putWordOf s rq ⟨0x5038, n, 0⟩ 0 v).2 u = (.ok, u.putWord 0x5038 0 n v) := by
  obtain ⟨hmem, hix, -⟩ := findObj_spec ho
  obtain ⟨hacc, hbytes⟩ := servo_readWrite o hmem hix
  have hword : regWord n 0 = n := if_neg (by omega)
  have hput : (putWordOf s rq ⟨0x5038, n, 0⟩ 0 v).2 u = (putScalar ⟨0x5038, n, 0⟩ v (servoRange n v)).2 u := by
    simp only [putWordOf, ho, hacc, hbytes]
    rfl
  rw [hput, putScalar, hword]

theorem servo_stored {n : Nat} (hp : s.passes rq (putWordOf s rq a 0 v).1 = true) (ha : a = ⟨0x5038, n, 0⟩) (hn : 1 ≤ n) :
    let t := s.request rq (putWordOf s rq a 0 v).1 (putWordOf s rq a 0 v).2
    t.word 0x5038 0 n = v ∧ t.replied a .ok := by
  obtain ⟨o, ho⟩ := found_of_passes hp
  rw [putWordOf_addr] at ho
  subst ha
  have hown := putWordOf_servo (s := s) (rq := rq) (v := v) ho hn s.stir
  have hr := passed_replied hp hown (by decide)
  rw [putWordOf_addr] at hr
  exact ⟨((passed_plain_within hp hown rfl).word_eq rfl 0 n).trans (word_putWord_same _ 0 n v rfl), hr⟩

/-- An address without an element is answered, not sent on. -/
theorem findElem_answers {c : Caps} {st : Status} (h : findElem c a = .error st) : st ≠ .forwarded := by
  unfold findElem at h
  split at h
  · cases h; decide
  · split at h
    · split at h <;> cases h <;> decide
    · split at h
      · cases h
      · cases h; decide

theorem noElement_replied {st : Status} (hs : s.alive = true) (h : findElem s.caps a = .error st) :
    (s.request rq (putWordOf s rq a 0 v).1 (putWordOf s rq a 0 v).2).replied a st := by
  have hj : s.stir.judgeWrite rq (putWordOf s rq a 0 v).1 (putWordOf s rq a 0 v).2 = (st, s.stir) := by
    rw [State.judgeWrite, putWordOf_addr, stir_caps, h]
  have hr := request_replied hs hj (findElem_answers h)
  rwa [putWordOf_addr] at hr

end Register

/-- Settles O27, command by command: the frame by its checks, the collision by its count, the lease by its holder, the word by its object. -/
theorem busesLeasesAndContexts : Obligations.BusesLeasesAndContexts := by
  unfold Obligations.BusesLeasesAndContexts
  refine ⟨?frame, ?collision, ?retry, ?bus, ?take, ?release, ?breaks, ?context, ?register⟩
  case frame =>
    exact fun a f ip udp m s => ⟨_, rfl,
      fun hs hj hf hm ht hl hroom hb hd => busFrame_held hs ⟨hj, hf, hm, ht, hl, hb⟩ hroom hd,
      busFrame_jabber, busFrame_badFcs,
      fun hs hj hf hm ht hl hfull hb => busFrame_dropped hs ⟨hj, hf, hm, ht, hl, hb⟩ hfull,
      busFrame_ignored⟩
  case collision =>
    exact fun a late b s => ⟨_, rfl, busCollision_counted late, busCollision_givesUp late, busCollision_none late⟩
  case retry => exact fun a b s => ⟨_, rfl, busRetry_begins, busRetry_idle⟩
  case bus => exact fun rq e v s => ⟨_, rfl, ctBus_stored⟩
  case take =>
    refine fun rq e s => ⟨_, rfl, leaseTake_takes, fun hp h => ?_⟩
    obtain ⟨hheld, hctx⟩ := Classical.not_imp.1 h
    exact lease_refused hp (putLease_taken hheld hctx)
  case release =>
    exact fun rq e s => ⟨_, rfl, fun hp hheld hctx => lease_freed hp (putLease_release ⟨hheld, hctx⟩),
      fun hp h => lease_refused hp (putLease_notMine h)⟩
  case breaks => exact fun rq e s => ⟨_, rfl, fun hp => lease_freed hp putLease_break⟩
  case context => exact fun rq c w v s => ⟨_, rfl, context_stored, context_refused⟩
  case register => exact fun rq n a v st s => ⟨_, rfl, servo_stored, noElement_replied⟩

end Sys2Proof.Machine
end

section
/-! PTP ports (R262, R265): what a port hears, its time-outs, and what it sends. -/
namespace Sys2Proof.Machine

/-! ### What a port keeps -/

theorem ptp_withPtp_same {s : State} {p : Nat} (h : p < s.tm.ptp.length) (f : PtpState → PtpState) :
    (s.withPtp p f).ptp p = f (s.ptp p) := by
  show (s.tm.ptp.modify p f).getD p .rest = f (s.tm.ptp.getD p .rest)
  rw [List.getD_eq_getElem?_getD, List.getD_eq_getElem?_getD, List.getElem?_modify_eq, List.getElem?_eq_getElem h]
  rfl

/-- What a change of the ports leaves of each, it leaves of the port in question. -/
theorem ptp_withPtp_view {β : Type} (view : PtpState → β) (s : State) (p q : Nat) {f : PtpState → PtpState}
    (hf : ∀ x, view (f x) = view x) : view ((s.withPtp p f).ptp q) = view (s.ptp q) := by
  show view ((s.tm.ptp.modify p f).getD q .rest) = view (s.tm.ptp.getD q .rest)
  rw [List.getD_eq_getElem?_getD, List.getD_eq_getElem?_getD, List.getElem?_modify]
  cases s.tm.ptp[q]? with
  | none => rfl
  | some x =>
    show view (if p = q then f x else x) = view x
    split
    · exact hf x
    · rfl

theorem ptp_of_tm {s t : State} (h : t.tm.ptp = s.tm.ptp) (p : Nat) : t.ptp p = s.ptp p := by rw [State.ptp, State.ptp, h]

theorem disqualify_ptp (s : State) (r cause goal : Nat) : (s.disqualify r cause goal).tm.ptp = s.tm.ptp := by
  unfold State.disqualify
  extract_lets q rested counted
  have hc : counted.tm = rested.tm := by
    unfold counted
    split <;> rfl
  rw [(setQ_within counted r goal).agrees.tm rfl, hc]
  rfl

theorem refLost_ptp (s : State) (r cause : Nat) : (s.refLost r cause).tm.ptp = s.tm.ptp := by
  unfold State.refLost
  extract_lets silent
  split
  · exact disqualify_ptp silent r cause qLOS
  · rfl

/-! ### The state decided (R262, R265) -/

/-- A port that begins to follow a master. -/
def State.ptpFollow (s : State) (p src : Nat) (g : GmData) : State :=
  (((s.setGm p g).withPtp p fun x => { x with parent := some src, waiting := none, t12 := none, t3 := none, delays := [] }).refLost
    (6 + p) 1).setNotify F.TM_PTP_STAT_PSTATE p 3

/-- A port comes to follow no master, goes on with the one that it follows, or begins to follow one. -/
theorem bmca_cases (s : State) (p : Nat) :
    (∃ st g, s.bmca p = s.ptpFree p st g) ∨ (∃ g, s.bmca p = s.setGm p g) ∨ ∃ src g, s.bmca p = s.ptpFollow p src g := by
  unfold State.bmca
  extract_lets bc
  split
  · split <;> exact .inl ⟨_, _, rfl⟩
  next src g _ =>
    split
    · exact .inl ⟨_, _, rfl⟩
    · split
      · exact .inl ⟨_, _, rfl⟩
      · extract_lets known
        split
        · exact .inr (.inl ⟨g, rfl⟩)
        · exact .inr (.inr ⟨src, g, rfl⟩)

theorem setGm_ptp (s : State) (p : Nat) (g : GmData) : (s.setGm p g).tm.ptp = s.tm.ptp :=
  congrArg TimeState.ptp ((setGm_within s p g).agrees.tm rfl)

theorem setPstate_ptp (s : State) (p st : Nat) : (s.setNotify F.TM_PTP_STAT_PSTATE p st).tm.ptp = s.tm.ptp :=
  congrArg TimeState.ptp ((setNotify_within s F.TM_PTP_STAT_PSTATE p st).agrees.tm rfl)

/-- Which senders a port has heard does not rest on the state it goes to. -/
theorem bmca_foreign (s : State) (p : Nat) : ((s.bmca p).ptp p).foreign = (s.ptp p).foreign := by
  obtain ⟨st, g, h⟩ | ⟨g, h⟩ | ⟨src, g, h⟩ := bmca_cases s p
  · rw [h, State.ptpFree, ptp_of_tm (setPstate_ptp ..), ptp_of_tm (setGm_ptp ..), ptp_of_tm (refLost_ptp ..)]
    exact ptp_withPtp_view PtpState.foreign s p p fun _ => rfl
  · rw [h, ptp_of_tm (setGm_ptp ..)]
  · rw [h, State.ptpFollow, ptp_of_tm (setPstate_ptp ..), ptp_of_tm (refLost_ptp ..), ← ptp_of_tm (setGm_ptp s p g)]
    exact ptp_withPtp_view PtpState.foreign _ p p fun _ => rfl

theorem setGm_keepsCounts (s : State) (p : Nat) (g : GmData) : KeepsWord ⟨0x5030, p, 2⟩ s (s.setGm p g) := by
  have h (a : State) (f : Fld) (v : Nat) (hw : f.w ≠ 2) : KeepsWord ⟨0x5030, p, 2⟩ a (a.setFld f p v) :=
    tget_tset_other _ _ _ fun hk => hw (congrArg Key.w hk).symm
  unfold State.setGm
  extract_lets cls acc var steps prio1 prio2
  exact ((((((h s _ _ (by decide)).trans (h cls _ _ (by decide))).trans (h acc _ _ (by decide))).trans (h var _ _ (by decide))).trans
    (h steps _ _ (by decide))).trans (h prio1 _ _ (by decide))).trans (h prio2 _ _ (by decide))

theorem setPstate_keepsCounts (s : State) (p st : Nat) : KeepsWord ⟨0x5030, p, 2⟩ s (s.setNotify F.TM_PTP_STAT_PSTATE p st) :=
  have hw : KeepsWord ⟨0x5030, p, 2⟩ s (s.setFld F.TM_PTP_STAT_PSTATE p st) :=
    tget_tset_other _ _ _ fun hk => absurd (congrArg Key.w hk) (show (2 : Nat) ≠ 0 by decide)
  .ite .refl (hw.step (notify_within ..) rfl)

/-- The counts of `TM_PTP_STAT` word 2 do not rest on it either. -/
theorem bmca_keepsCounts (s : State) (p : Nat) : KeepsWord ⟨0x5030, p, 2⟩ s (s.bmca p) := by
  have hlost (a : State) (f : PtpState → PtpState) : KeepsWord ⟨0x5030, p, 2⟩ a ((a.withPtp p f).refLost (6 + p) 1) :=
    (KeepsWord.of_within (withPtp_within ..) rfl).step (refLost_within ..) rfl
  obtain ⟨st, g, h⟩ | ⟨g, h⟩ | ⟨src, g, h⟩ := bmca_cases s p
  · exact h ▸ ((hlost s _).trans (setGm_keepsCounts ..)).trans (setPstate_keepsCounts ..)
  · exact h ▸ setGm_keepsCounts s p g
  · exact h ▸ ((setGm_keepsCounts s p g).trans (hlost _ _)).trans (setPstate_keepsCounts ..)

/-! ### Messages and time-outs -/

section Port
variable {s : State} {p : Nat}

/-- The model's test that a port runs. -/
theorem ptpRunning_iff : (p < 4 ∧ s.ptpRuns p = true) ↔ (p < 4 && s.ptpRuns p) = true := by simp

/-- The port runs, and is in a state in which it takes messages. -/
def State.ptpListens (s : State) (p : Nat) : Prop :=
  (p < 4 ∧ s.ptpRuns p = true) ∧ 2 ≤ s.fld F.TM_PTP_STAT_PSTATE p ∧ s.fld F.TM_PTP_STAT_PSTATE p ≠ 7

theorem ptpListens_iff : s.ptpListens p ↔
    (p < 4 && s.ptpRuns p && 2 ≤ s.fld F.TM_PTP_STAT_PSTATE p && s.fld F.TM_PTP_STAT_PSTATE p != 7) = true := by
  simp [State.ptpListens, and_assoc]

theorem ptpRx_deaf (m : PtpMsg) (h : ¬ s.ptpListens p) : s.ptpRx p m = s := by
  rw [ptpListens_iff] at h
  exact if_pos (by simpa only [Bool.not_eq_true', Bool.eq_false_iff] using h)

/-- An Announce heard: of another domain it is nothing. -/
theorem ptpRx_announce (d src : Nat) (g : GmData) (h : s.ptpListens p) :
    s.ptpRx p (.announce d src g) =
      if d = s.fld F.TM_PTP_PORT_DOMAIN p ∧ (src / 65536 ≠ clockIdent ∨ s.fld F.TM_PTP_PORT_ROLE p = 1) then
        (s.withPtp p fun x => { x with foreign := (src, g) :: x.foreign.filter fun y => !(y.1 == src) }).bmca p
      else s := by
  rw [ptpListens_iff] at h
  exact if_neg (by rw [h]; decide)

theorem ptpRx_kept {src : Nat} {g : GmData} (h : s.ptpListens p) (hsrc : src / 65536 ≠ clockIdent) (hp : p < s.tm.ptp.length) :
    ((s.ptpRx p (.announce (s.fld F.TM_PTP_PORT_DOMAIN p) src g)).ptp p).foreign.any (fun y => y == (src, g)) = true := by
  rw [ptpRx_announce _ _ _ h, if_pos ⟨rfl, .inl hsrc⟩, bmca_foreign, ptp_withPtp_same hp]
  simp

theorem ptpRx_otherDomain (src : Nat) (g : GmData) : s.ptpRx p (.announce (s.fld F.TM_PTP_PORT_DOMAIN p + 1) src g) = s := by
  by_cases h : s.ptpListens p
  · rw [ptpRx_announce _ _ _ h]
    exact if_neg fun hd => absurd hd.1 (by omega)
  · exact ptpRx_deaf _ h

theorem announceTimeout_counted (h : p < 4 ∧ s.ptpRuns p = true) :
    (s.announceTimeout p).fld F.TM_PTP_STAT_ANNTIMEOUT p =
      satAdd (2 ^ F.TM_PTP_STAT_ANNTIMEOUT.len - 1) (s.fld F.TM_PTP_STAT_ANNTIMEOUT p) 1 := by
  unfold State.announceTimeout
  rw [if_neg (by simp [h])]
  exact (bmca_keepsCounts _ p).fld.trans (((withPtp_within ..).fld_eq rfl p).trans (fld_bump_same s p 1 rfl))

theorem announceTimeout_idle (h : ¬(p < 4 ∧ s.ptpRuns p = true)) : s.announceTimeout p = s := by
  rw [ptpRunning_iff] at h
  exact if_pos (by simpa only [Bool.not_eq_true', Bool.eq_false_iff] using h)

/-! ### What a port sends -/

/-- The interval of a message is one in which the port sends it: a slave its Delay_Req, a master the others. -/
def State.ptpDue (s : State) (p : Nat) (k : PtpTx) : Prop :=
  (k = .delayReq ∧ (s.fld F.TM_PTP_STAT_PSTATE p = 3 ∨ s.fld F.TM_PTP_STAT_PSTATE p = 4)) ∨
    (k ≠ .delayReq ∧ s.fld F.TM_PTP_STAT_PSTATE p = 5)

variable {k : PtpTx} (late : Nat)

theorem ptpTx_due (hr : p < 4 ∧ s.ptpRuns p = true) (hd : s.ptpDue p k) :
    s.ptpTx p k late =
      if (s.macRun (s.fld F.TM_PTP_PORT_MAC p)).paused.isSome then
        s.setMacRun { s.macRun (s.fld F.TM_PTP_PORT_MAC p) with waiting := (s.macRun (s.fld F.TM_PTP_PORT_MAC p)).waiting ++ [(p, k)] }
      else s.ptpLeaves p k late := by
  unfold State.ptpTx
  rw [if_neg (by simp [hr])]
  obtain ⟨rfl, hslave⟩ | ⟨hk, hmaster⟩ := hd
  · exact if_neg (by obtain h | h := hslave <;> simp [h])
  · cases k with
    | delayReq => exact absurd rfl hk
    | announce | sync => exact if_neg (by simp [hmaster])

theorem ptpTx_idle (h : ¬((p < 4 ∧ s.ptpRuns p = true) ∧ s.ptpDue p k)) : s.ptpTx p k late = s := by
  unfold State.ptpTx
  by_cases hr : p < 4 ∧ s.ptpRuns p = true
  · obtain ⟨hslave, hmaster⟩ := not_or.1 fun hd => h ⟨hr, hd⟩
    rw [if_neg (by simp [hr])]
    cases k with
    | delayReq => exact if_pos (by simpa using hslave)
    | announce | sync => exact if_pos (by simpa using hmaster)
  · rw [ptpRunning_iff] at hr
    exact if_pos (by simpa only [Bool.not_eq_true', Bool.eq_false_iff] using hr)

theorem ptpTx_waits (hr : p < 4 ∧ s.ptpRuns p = true) (hd : s.ptpDue p k)
    (hp : (s.macRun (s.fld F.TM_PTP_PORT_MAC p)).paused.isSome = true) :
    ((s.ptpTx p k late).macRun (s.fld F.TM_PTP_PORT_MAC p)).waiting =
      (s.macRun (s.fld F.TM_PTP_PORT_MAC p)).waiting ++ [(p, k)] := by
  rw [ptpTx_due late hr hd, if_pos hp]
  have hx : (s.macRun (s.fld F.TM_PTP_PORT_MAC p)).m = s.fld F.TM_PTP_PORT_MAC p := macRun_m s _
  generalize s.macRun (s.fld F.TM_PTP_PORT_MAC p) = x at hx ⊢
  exact congrArg MacRun.waiting (macRun_setMacRun_same (x := { x with waiting := x.waiting ++ [(p, k)] }) hx)

theorem sendOwn_ptp (s : State) (m : Nat) : (s.sendOwn m).tm.ptp = s.tm.ptp :=
  congrArg TimeState.ptp ((sendOwn_within s m).agrees.tm rfl)

theorem stamp_ptp (s : State) (e seqid mtype late : Nat) (taken : Bool) : (s.stamp e seqid mtype late taken).1.tm.ptp = s.tm.ptp :=
  congrArg TimeState.ptp ((stamp_within s e seqid mtype late taken).agrees.tm rfl)

variable (hp : p < s.tm.ptp.length)
include hp

theorem ptpLeaves_announce : ((s.ptpLeaves p .announce late).ptp p).sent = (s.ptp p).sent + 1 := by
  have hm : p < (s.sendOwn (s.fld F.TM_PTP_PORT_MAC p)).tm.ptp.length := by rwa [sendOwn_ptp]
  show (((s.sendOwn (s.fld F.TM_PTP_PORT_MAC p)).withPtp p _).ptp p).sent = _
  rw [ptp_withPtp_same hm, ptp_of_tm (sendOwn_ptp ..)]

theorem ptpLeaves_sync : (s.ptp p).sent < ((s.ptpLeaves p .sync late).ptp p).sent := by
  unfold State.ptpLeaves
  extract_lets +onlyGivenNames -merge m
  dsimp -zeta only
  extract_lets +onlyGivenNames -merge r two left
  have hl : left.tm.ptp = s.tm.ptp := by
    unfold left
    split
    · rw [sendOwn_ptp, sendOwn_ptp, stamp_ptp]
    · rw [sendOwn_ptp, stamp_ptp]
  rw [ptp_withPtp_same (hl ▸ hp), ptp_of_tm hl]
  show _ < _ + _
  split <;> omega

theorem ptpLeaves_delayReq : ((s.ptpLeaves p .delayReq late).ptp p).sent = (s.ptp p).sent + 1 ∧
    ((s.ptpLeaves p .delayReq late).ptp p).seqDr = ((s.ptp p).seqDr + 1) % 65536 := by
  unfold State.ptpLeaves
  extract_lets +onlyGivenNames -merge m
  dsimp -zeta only
  extract_lets +onlyGivenNames -merge r t3 left
  have hs : (r.1.sendOwn m).tm.ptp = s.tm.ptp := by rw [sendOwn_ptp, stamp_ptp]
  have hl : left.ptp p = { s.ptp p with
      sent := (s.ptp p).sent + 1, seqDr := ((s.ptp p).seqDr + 1) % 65536, t3 := t3, t3Epoch := s.clk.epoch } := by
    rw [← ptp_of_tm hs]
    exact ptp_withPtp_same (hs ▸ hp) _
  split
  · rw [ptp_of_tm (congrArg TimeState.ptp ((noStamp_within left p).agrees.tm rfl)), hl]
    exact ⟨rfl, rfl⟩
  · rw [hl]
    exact ⟨rfl, rfl⟩

theorem ptpTx_leaves (hr : p < 4 ∧ s.ptpRuns p = true) (hd : s.ptpDue p k)
    (hm : (s.macRun (s.fld F.TM_PTP_PORT_MAC p)).paused = none) :
    (s.ptp p).sent < ((s.ptpTx p k late).ptp p).sent ∧ (k = .announce → ((s.ptpTx p k late).ptp p).sent = (s.ptp p).sent + 1) ∧
      (k = .delayReq → ((s.ptpTx p k late).ptp p).seqDr = ((s.ptp p).seqDr + 1) % 65536) := by
  rw [ptpTx_due late hr hd, if_neg (by simp [hm])]
  cases k with
  | announce =>
    have h := ptpLeaves_announce late hp
    exact ⟨by omega, fun _ => h, by simp⟩
  | sync => exact ⟨ptpLeaves_sync late hp, by simp, by simp⟩
  | delayReq =>
    obtain ⟨hsent, hseq⟩ := ptpLeaves_delayReq late hp
    exact ⟨by omega, by simp, fun _ => hseq⟩

end Port

end Sys2Proof.Machine
end

section
/-! Holdover and the outputs (R277–R281), with the statement about them and the PTP ports. -/
namespace Sys2Proof.Machine

/-! ### Holdover (R277, R278) -/

theorem holdoverUpdate_follows {s : State} {temp : Int} {h : Int × Int × Nat} (ht : s.timing = tsHOLDOVER) (hh : s.tm.hoFrom = some h) :
    (s.holdoverUpdate temp).tm.integ = s.hoFreq h temp * (ppbUnits / 1000) ∧
      (s.holdoverUpdate temp).clk.frac = fracOf (s.hoFreq h temp * (ppbUnits / 1000)) := by
  have hrate : s.holdoverUpdate temp =
      (s.withTm fun t => { t with integ := s.hoFreq h temp * (ppbUnits / 1000), temp := temp }).setFrac
        (s.hoFreq h temp * (ppbUnits / 1000)) := by
    rw [State.holdoverUpdate, if_pos ht, State.holdRate, hh]
  rw [hrate]
  generalize s.hoFreq h temp * (ppbUnits / 1000) = y
  exact ⟨rfl, rfl⟩

theorem holdoverUpdate_idle {s : State} (temp : Int) (ht : s.timing ≠ tsHOLDOVER) : s.holdoverUpdate temp = s := if_neg ht

theorem markDirty_dirty (s : State) : s.markDirty.fld F.SY_SAVE_DIRTY 0 = 1 := by
  have h : (s.setFld F.SY_SAVE_DIRTY 0 1).fld F.SY_SAVE_DIRTY 0 = 1 := fld_setFld_of_lt s 0 1 rfl (by decide)
  unfold State.markDirty
  extract_lets dirty
  split <;> exact h

theorem learnSave_marks {s : State} (h : s.tm.learnt ≠ 0) : s.learnSave.fld F.SY_SAVE_DIRTY 0 = 1 := by
  rw [State.learnSave, if_neg h]
  exact markDirty_dirty s

theorem learnSave_idle {s : State} (h : s.tm.learnt = 0) : s.learnSave = s := if_pos h

/-- A word of every element listed is cleared, and no other element's. -/
theorem word_clearAll (s : State) {ix : Nat} (m : takesIn Parts.markDirty ix = false) (l : List Nat) (i : Nat) :
    (l.foldl (fun s e => s.putWord ix e 0 0) s).word ix i 0 = if i ∈ l then 0 else s.word ix i 0 := by
  induction l generalizing s with
  | nil => rfl
  | cons e l ih =>
    rw [List.foldl_cons, ih, word_putWord _ _ _ _ _ _ m]
    by_cases hl : i ∈ l
    · rw [if_pos hl, if_pos (List.mem_cons_of_mem _ hl)]
    · simp only [hl, if_false, and_true, List.mem_cons, or_false]

/-- FORGET clears the curve, the seconds learned, and the flag that lets the ageing count. -/
theorem forget_clears (s : State) {i : Nat} (hi : i < 16) :
    s.forget.word 0x5048 i 0 = 0 ∧ s.forget.tm.learnt = 0 ∧ s.forget.fld F.TM_STATE_AGEVALID 0 = 0 := by
  unfold State.forget
  extract_lets unlearnt cleared zeroed
  have hz : Within [0x5040, 0x1028, Part.save] cleared zeroed :=
    (putFld_within cleared F.TM_HOLDOVER_AGEING 0 0).step (putFld_within _ F.TM_HOLDOVER_LEARNT 0 0) rfl
  have hc : cleared.tm = unlearnt.tm :=
    foldl_keeps (view := State.tm) (fun a e => (putWord_within a 0x5048 e 0 0).agrees.tm rfl) unlearnt (List.range 16)
  have hcurve : cleared.word 0x5048 i 0 = 0 :=
    (word_clearAll unlearnt rfl (List.range 16) i).trans (if_pos (List.mem_range.2 hi))
  clear_value zeroed cleared
  refine ⟨?_, ?_, fld_setFld_of_lt (f := F.TM_STATE_AGEVALID) zeroed 0 0 rfl (by decide)⟩
  · rw [(setFld_within zeroed F.TM_STATE_AGEVALID 0 0).word_eq rfl, hz.word_eq rfl, hcurve]
  · rw [(setFld_within zeroed F.TM_STATE_AGEVALID 0 0).agrees.tm rfl, hz.agrees.tm rfl, hc]
    rfl

theorem holdoverForget_clears {s : State} {rq : Req} {i : Nat} (hp : s.passes rq ⟨⟨0x5040, 5, 0⟩, [(5, 1)], 0, true⟩ = true)
    (hi : i < 16) :
    let t := s.request rq ⟨⟨0x5040, 5, 0⟩, [(5, 1)], 0, true⟩ fun s => (.ok, s.forget)
    t.word 0x5048 i 0 = 0 ∧ t.tm.learnt = 0 ∧ t.fld F.TM_STATE_AGEVALID 0 = 0 ∧ t.replied ⟨0x5040, 5, 0⟩ .ok := by
  have hw := passed_plain_within (own := fun s => (.ok, s.forget)) hp rfl rfl
  obtain ⟨hcurve, hlearnt, hage⟩ := forget_clears s.stir hi
  exact ⟨(hw.word_eq rfl i 0).trans hcurve, (congrArg TimeState.learnt (hw.agrees.tm rfl)).trans hlearnt,
    (hw.fld_eq rfl 0).trans hage, passed_replied (own := fun s => (.ok, s.forget)) hp rfl (by decide)⟩

/-! ### Two words written by one of them (R258, R281) -/

theorem newWord_one (w n : Nat) (v old : W) : newWord [(w, v)] n old = if w = n then v else old := by
  by_cases h : w = n <;> simp [newWord, h]

/-- Of words 0 and 1, written as they stand but for one, that one reads as written. -/
theorem word_putPair (s : State) {ix : Nat} (e w : Nat) (v a b : W) (hw : w < 2) (m : takesIn Parts.markDirty ix = false) :
    ((s.putWord ix e 0 (newWord [(w, v)] 0 a)).putWord ix e 1 (newWord [(w, v)] 1 b)).word ix e w = v := by
  rw [word_putWord _ _ _ _ _ _ m, word_putWord _ _ _ _ _ _ m, newWord_one, newWord_one]
  obtain rfl | rfl : w = 0 ∨ w = 1 := by omega
  · simp
  · simp

/-! ### Outputs (R280, R281) -/

section Output
variable {s : State} {rq : Req} {o w : Nat} {v w0 : W}

/-- An output that word 0 asks for and the part cannot give: a field rate of a progressive format, or a period that the input it is
aligned with does not keep. -/
def State.outBad (s : State) (w0 : W) : Prop :=
  (F.TM_OUT_MODE.of w0 = 4 ∧ (format (F.TM_OUT_FORMAT.of w0)).map (·.interlaced) = some false) ∨ s.outPeriodOk w0 = false

theorem stir_outPeriodOk (s : State) (w0 : W) : s.stir.outPeriodOk w0 = s.outPeriodOk w0 := by
  simp only [State.outPeriodOk, stir_word]

theorem putTmOut_format (h : s.outBad (newWord [(w, v)] 0 (s.word 0x5058 o 0))) :
    (putTmOut s o [(w, v)]).2 s.stir = (.format, s.stir) := by
  refine if_pos ?_
  rw [stir_outPeriodOk]
  obtain ⟨hm, hf⟩ | h := h
  · simp [hm, hf]
  · simp [h]

theorem putTmOut_stores (h : ¬ s.outBad (newWord [(w, v)] 0 (s.word 0x5058 o 0))) :
    ∃ t, (putTmOut s o [(w, v)]).2 s.stir = (.ok, t) ∧
      Within [Part.tm] ((s.stir.putWord 0x5058 o 0 (newWord [(w, v)] 0 (s.word 0x5058 o 0))).putWord 0x5058 o 1
        (newWord [(w, v)] 1 (s.word 0x5058 o 1))) t := by
  obtain ⟨hfield, hperiod⟩ := not_or.1 h
  unfold putTmOut
  extract_lets +onlyGivenNames -merge w0 w1
  dsimp -zeta only
  extract_lets +onlyGivenNames -merge fieldBad
  have hb : (fieldBad || !s.stir.outPeriodOk w0) = false := by
    rw [stir_outPeriodOk, Bool.or_eq_false_iff]
    exact ⟨by simpa only [fieldBad, Bool.eq_false_iff, ne_eq, Bool.and_eq_true, beq_iff_eq] using hfield, by simpa using hperiod⟩
  rw [hb, if_neg (by decide)]
  extract_lets mode align stored r phase kept
  refine ⟨_, rfl, ?_⟩
  split
  · exact .refl
  · exact withTm_within ..

theorem tmOut_stored (hp : s.passes rq (putTmOut s o [(w, v)]).1 = true) (hw : w < 2)
    (h0 : w0 = newWord [(w, v)] 0 (s.word 0x5058 o 0)) (h : ¬ s.outBad w0) :
    let t := s.request rq (putTmOut s o [(w, v)]).1 (putTmOut s o [(w, v)]).2
    t.word 0x5058 o w = v ∧ t.replied ⟨0x5058, 0, o⟩ .ok := by
  subst h0
  obtain ⟨t, ho, ht⟩ := putTmOut_stores h
  exact ⟨((passed_plain_within hp ho rfl).word_eq rfl o w).trans ((ht.word_eq rfl o w).trans (word_putPair s.stir o w v _ _ hw rfl)),
    passed_replied hp ho (by decide)⟩

theorem tmOut_refused (hp : s.passes rq (putTmOut s o [(w, v)]).1 = true)
    (h0 : w0 = newWord [(w, v)] 0 (s.word 0x5058 o 0)) (h : s.outBad w0) :
    let t := s.request rq (putTmOut s o [(w, v)]).1 (putTmOut s o [(w, v)]).2
    t.word 0x5058 o w = s.word 0x5058 o w ∧ t.replied ⟨0x5058, 0, o⟩ .format := by
  subst h0
  obtain ⟨hk, hr⟩ := passed_refused hp (putTmOut_format h) rfl (by decide)
  exact ⟨hk.word_eq rfl o w, hr⟩

end Output

/-- Settles O22, command by command: what a port hears by the table of its ports, what it sends by its state, the rest by the word written. -/
theorem ptpPortsAndHoldover : Obligations.PtpPortsAndHoldover := by
  unfold Obligations.PtpPortsAndHoldover
  refine ⟨?message, ?timeout, ?interval, ?update, ?save, ?forget, ?out⟩
  case message =>
    refine fun p src g m s => ⟨_, rfl, ?kept, ?other, ptpRx_deaf m⟩
    case kept =>
      rintro rfl hl hsrc hp
      exact ptpRx_kept hl hsrc hp
    case other =>
      rintro rfl
      exact ptpRx_otherDomain src g
  case timeout => exact fun p s => ⟨_, rfl, announceTimeout_counted, announceTimeout_idle⟩
  case interval =>
    exact fun p n k s => ⟨_, rfl, fun hr hp hd hm => ptpTx_leaves n hp hr hd hm, ptpTx_waits n, ptpTx_idle n⟩
  case update => exact fun temp h s => ⟨_, rfl, holdoverUpdate_follows, holdoverUpdate_idle temp⟩
  case save => exact fun s => ⟨_, rfl, learnSave_marks, learnSave_idle⟩
  case forget => exact fun rq i s => ⟨_, rfl, holdoverForget_clears⟩
  case out => exact fun rq o w v w0 s => ⟨_, rfl, tmOut_stored, tmOut_refused⟩

end Sys2Proof.Machine
end

section
/-! Steps of the counter (R275, R276): what a commit of `TM_STEP` and its instant do, and the end of a slew. -/
namespace Sys2Proof.Machine

/-! ### The counter and its epoch beside what follows a step -/

/-- From `s` to `t` the counter and its epoch stand. -/
structure KeepsCounter (s t : State) : Prop where
  count : t.clk.count = s.clk.count
  epoch : t.clk.epoch = s.clk.epoch

section KeepsCounter
variable {s t u : State}

theorem KeepsCounter.refl : KeepsCounter s s := ⟨rfl, rfl⟩

theorem KeepsCounter.trans (h : KeepsCounter s t) (g : KeepsCounter t u) : KeepsCounter s u :=
  ⟨g.count.trans h.count, g.epoch.trans h.epoch⟩

theorem KeepsCounter.of_clk (h : t.clk = s.clk) : KeepsCounter s t := ⟨congrArg Clk.count h, congrArg Clk.epoch h⟩

/-- One more operation, on parts that do not hold the clock. -/
theorem KeepsCounter.step {l : List Part} (h : KeepsCounter s t) (g : Within l t u) (m : takesIn l Part.clk = false) : KeepsCounter s u :=
  h.trans (.of_clk (g.agrees.clk m))

theorem KeepsCounter.ite {c : Prop} [Decidable c] (ht : KeepsCounter s t) (hu : KeepsCounter s u) :
    KeepsCounter s (if c then t else u) := by split <;> assumption

end KeepsCounter

/-- A record takes a number of the sequence counter, and no other part of the clock. -/
theorem writeRec_keepsCounter (s : State) (n : NewRec) : KeepsCounter s (s.writeRec n).1 := by
  refine ⟨(writeRec_steady s n).count, ?_⟩
  unfold State.writeRec
  extract_lets +onlyGivenNames -merge merge
  clear_value merge
  split
  · split
    · rfl
    · extract_lets +onlyGivenNames -merge r merged
      have hm : merged.clk = s.clk := rfl
      split <;> exact congrArg Clk.epoch hm
  · extract_lets +onlyGivenNames -merge seq r clk counted stored
    have hc : stored.clk = counted.clk := (store_within ..).agrees.clk rfl
    have hs : stored.clk.epoch = s.clk.epoch := Eq.trans (congrArg Clk.epoch hc) rfl
    split <;> exact hs

theorem isolateDie_keepsCounter (s : State) (d code seq : Nat) (handed : Bool) : KeepsCounter s (s.isolateDie d code seq handed) := by
  unfold State.isolateDie
  extract_lets q s1 s2 s3 s4 w f s5
  have h3 : KeepsCounter s s3 := ((KeepsCounter.refl.step (withMgr_within ..) rfl).step (bump_within ..) rfl).step (withSys_within ..) rfl
  have h4 : KeepsCounter s s4 := ((h3.step (setFld_within ..) rfl).step (relays_within _) rfl).step (notify_within ..) rfl
  have h5 : KeepsCounter s s5 := ((h4.trans (writeRec_keepsCounter ..)).step (withMgr_within ..) rfl).step (tellRecord_within ..) rfl
  exact .ite .refl (h5.step (driveFault_within _) rfl)

theorem raiseSeq_keepsCounter (s : State) (code : Nat) (l : Level) (die p1 p2 p3 : Nat) (byHandler : Bool) :
    KeepsCounter s (s.raiseSeq code l die p1 p2 p3 byHandler).1 := by
  unfold State.raiseSeq
  extract_lets u l1 m t l2 esc old w told written f accepted toldOf counted merged out isolated driven
  have ha : KeepsCounter s accepted := (writeRec_keepsCounter ..).step (withMgr_within ..) rfl
  have ht : KeepsCounter s toldOf := .ite (ha.step (tellRecord_within ..) rfl) ha
  have hc : KeepsCounter s counted := .ite (ht.step (bump_within ..) rfl) ht
  have hm : KeepsCounter s merged := .ite (hc.step (bump_within ..) rfl) hc
  have ho : KeepsCounter s out := .ite (hm.step (takeOut_within ..) rfl) hm
  have hi : KeepsCounter s isolated := .ite (ho.trans (isolateDie_keepsCounter ..)) ho
  have hd : KeepsCounter s driven := hi.step (driveFault_within _) rfl
  exact .ite hd (hd.step (notify_within ..) rfl)

theorem note_keepsCounter (s : State) (code p1 p2 p3 : Nat) : KeepsCounter s (s.note code p1 p2 p3) := raiseSeq_keepsCounter ..

theorem houseJump_keepsCounter (s : State) : KeepsCounter s s.houseJump := ⟨rfl, rfl⟩

/-! ### A step applied -/

/-- A step moved from the counter: the counter takes its time, H stays behind or ahead, the next epoch begins. -/
def State.stepMoved (s : State) (new : Nat) : State :=
  { s with clk := { s.clk with
      count := new, hlag := s.clk.hlag + (Int.ofNat s.clk.count - Int.ofNat new), epoch := (s.clk.epoch + 1) % 65536 } }

/-- What tells of a step: the settings store, the references' offsets, a record, HIST, and `TM_STEP`, in which none waits now. -/
def State.stepTold (s : State) (moved : Int) (p1 p2 p3 : Nat) : State :=
  let s := s.markDirty
  let s := s.withTm fun t => { t with refs := t.refs.map fun x => { x with offset := x.offset.map (· + moved) } }
  let s := ((s.note 0x5006 p1 p2 p3).setHist 9).setFld F.TM_STEP_STATUS 0 0x10
  (s.setFld F.TM_STEP_EPOCH 0 s.clk.epoch).withTm fun t => { t with step_ := none }

/-- A reference flagged STEPREF whose offset is within STEPTHR after a step: the flag ends, and it qualifies anew (R276). -/
def State.unflagStepped (s : State) (r : Nat) : State :=
  if s.fld F.TM_REF_STAT_STEPREF r = 1 ∧
      ((s.ref r).offset.map fun e => decide (e.natAbs ≤ 1000 * s.fld F.TM_SERVO_STEPTHR 0)) = some true then
    let s := s.setFld F.TM_REF_STAT_STEPREF r 0
    let s := s.withRef r fun x => { x with refused := 0 }
    if (s.ref r).signal && !s.flagged r then s.startQualify r else s
  else s

/-- H follows at once, or slews, or jumps (R276). -/
def State.followStep (s : State) (lag : Int) : State :=
  if lag.natAbs ≤ s.fld F.TM_SERVO_JUMP 0 * nsUnits then
    if lag = 0 then
      if s.fld F.TM_STATE_SLEWING 0 == 1 then (s.setFld F.TM_STATE_SLEWING 0 0).setHist 10 else s
    else s.setFld F.TM_STATE_SLEWING 0 1
  else s.houseJump

/-- A step in its parts: the counter moves, the rest of the timing plane is told, the references are looked at again, and H follows. -/
theorem stepApply_parts (s : State) (w0 w1 w2 : W) : ∃ moved p1 p2 p3 lag, s.stepApply w0 w1 w2 =
    ((List.range 14).foldl State.unflagStepped
      ((s.stepMoved (Int.ofNat s.clk.count + s.stepAmount w0 w1 w2).toNat).stepTold moved p1 p2 p3)).followStep lag :=
  ⟨_, _, _, _, _, rfl⟩

/-- What O23 asks of a step stands from `s` to `t`: the counter with its epoch, the step that waits, and STATUS. -/
structure KeepsStep (s t : State) : Prop extends KeepsCounter s t where
  waiting : t.tm.step_ = s.tm.step_
  status  : t.fld F.TM_STEP_STATUS 0 = s.fld F.TM_STEP_STATUS 0

theorem KeepsStep.refl {s : State} : KeepsStep s s := ⟨.refl, rfl, rfl⟩

theorem KeepsStep.trans {s t u : State} (h : KeepsStep s t) (g : KeepsStep t u) : KeepsStep s u :=
  ⟨h.toKeepsCounter.trans g.toKeepsCounter, g.waiting.trans h.waiting, g.status.trans h.status⟩

theorem KeepsStep.ite {c : Prop} [Decidable c] {s t u : State} (ht : KeepsStep s t) (hu : KeepsStep s u) :
    KeepsStep s (if c then t else u) := by split <;> assumption

theorem KeepsStep.foldl {α : Type} {f : State → α → State} (hf : ∀ a x, KeepsStep a (f a x)) (s : State) (xs : List α) :
    KeepsStep s (xs.foldl f s) := by
  induction xs generalizing s with
  | nil => exact .refl
  | cons x xs ih => exact (hf s x).trans (ih _)

/-- The parts `l` hold neither the clock, nor the timing plane's own state, nor `TM_STEP`. -/
def sparesStep (l : List Part) : Bool := !takesIn l Part.clk && !takesIn l Part.tm && !takesIn l 0x5050

theorem KeepsStep.of_within {l : List Part} {s t : State} (h : Within l s t) (m : sparesStep l = true) : KeepsStep s t := by
  simp only [sparesStep, Bool.and_eq_true, Bool.not_eq_true'] at m
  obtain ⟨⟨hc, ht⟩, hs⟩ := m
  exact ⟨.of_clk (h.agrees.clk hc), congrArg TimeState.step_ (h.agrees.tm ht), h.fld_eq hs 0⟩

theorem startQualify_keepsStep (s : State) (r : Nat) : KeepsStep s (s.startQualify r) :=
  .trans (t := s.withRef r fun x => { x with goodFrom := some s.now, inside := 0, outside := 0 }) ⟨.of_clk rfl, rfl, rfl⟩
    (.of_within (setQ_within ..) rfl)

theorem unflagStepped_keepsStep (s : State) (r : Nat) : KeepsStep s (s.unflagStepped r) := by
  unfold State.unflagStepped
  extract_lets unflagged counted
  have hu : KeepsStep s unflagged := .of_within (setFld_within ..) rfl
  have hc : KeepsStep s counted := hu.trans ⟨.of_clk rfl, rfl, rfl⟩
  exact .ite (.ite (hc.trans (startQualify_keepsStep ..)) hc) .refl

theorem followStep_keepsStep (s : State) (lag : Int) : KeepsStep s (s.followStep lag) := by
  have hslew (n : Nat) : KeepsStep s (s.setFld F.TM_STATE_SLEWING 0 n) := .of_within (setFld_within ..) rfl
  have hjump : Within Parts.houseJump s s.houseJump := houseJump_within s
  exact .ite (.ite (.ite ((hslew 0).trans (.of_within (setHist_within ..) rfl)) .refl) (hslew 1))
    ⟨houseJump_keepsCounter s, congrArg TimeState.step_ (hjump.agrees.tm rfl), hjump.fld_eq rfl 0⟩

theorem stepTold_tells (s : State) (moved : Int) (p1 p2 p3 : Nat) :
    KeepsCounter s (s.stepTold moved p1 p2 p3) ∧ (s.stepTold moved p1 p2 p3).tm.step_ = none ∧
      (s.stepTold moved p1 p2 p3).fld F.TM_STEP_STATUS 0 = 0x10 := by
  unfold State.stepTold
  extract_lets dirty offsets told
  have ho : KeepsCounter s offsets := (KeepsCounter.refl.step (markDirty_within _) rfl).step (withTm_within ..) rfl
  have hn : KeepsCounter s told :=
    ((ho.trans (note_keepsCounter ..)).step (setHist_within ..) rfl).step (setFld_within ..) rfl
  refine ⟨(hn.step (setFld_within ..) rfl).step (withTm_within ..) rfl, rfl, ?_⟩
  exact (fld_setFld_apart (f := F.TM_STEP_EPOCH) told 0 0 _ rfl).trans
    (fld_setFld_of_lt (f := F.TM_STEP_STATUS) _ 0 0x10 rfl (by decide))

/-- What a step that is applied leaves (R276). -/
theorem stepApply_applied (s : State) (w0 w1 w2 : W) :
    (s.stepApply w0 w1 w2).clk.count = (Int.ofNat s.clk.count + s.stepAmount w0 w1 w2).toNat ∧
      (s.stepApply w0 w1 w2).clk.epoch = (s.clk.epoch + 1) % 65536 ∧ (s.stepApply w0 w1 w2).tm.step_ = none ∧
      (s.stepApply w0 w1 w2).fld F.TM_STEP_STATUS 0 = 0x10 := by
  obtain ⟨moved, p1, p2, p3, lag, h⟩ := stepApply_parts s w0 w1 w2
  rw [h]
  obtain ⟨hcounter, hnone, hstatus⟩ := stepTold_tells (s.stepMoved (Int.ofNat s.clk.count + s.stepAmount w0 w1 w2).toNat) moved p1 p2 p3
  have hk (a : State) : KeepsStep a (((List.range 14).foldl State.unflagStepped a).followStep lag) :=
    (KeepsStep.foldl unflagStepped_keepsStep a (List.range 14)).trans (followStep_keepsStep _ lag)
  exact ⟨(hk _).count.trans hcounter.count, (hk _).epoch.trans hcounter.epoch, (hk _).waiting.trans hnone,
    (hk _).status.trans hstatus⟩

/-! ### A commit of `TM_STEP` (R275) -/

section Commit
variable {s : State} {rq : Req} {w0 w1 w2 : W}

/-- The words of `TM_STEP` as a commit leaves them. -/
def State.stepStored (s : State) (w0 w1 w2 : W) : State :=
  ((s.setWord 0x5050 0 0 (F.TM_STEP_OP.put w0 0)).setWord 0x5050 0 1 w1).setWord 0x5050 0 2 w2

theorem stepStored_within (s : State) (w0 w1 w2 : W) : Within [0x5050] s (s.stepStored w0 w1 w2) :=
  ((setWord_within ..).step (setWord_within ..) rfl).step (setWord_within ..) rfl

/-- Which reference a step names is told by the references' own words and the selection. -/
theorem toref_of_within {l : List Part} {s t : State} (h : Within l s t) (hsel : takesIn l 0x5000 = false)
    (href : takesIn l 0x5010 = false) (hstat : takesIn l 0x5018 = false) (hptp : takesIn l 0x5030 = false) (w0 : W) :
    t.toref w0 = s.toref w0 := by
  have hquality : t.refQuality = s.refQuality := funext fun r => by
    rw [State.refQuality, State.refQuality, h.fld_eq hptp, h.fld_eq href]
  have hbetter : t.betterRef = s.betterRef := funext fun a => funext fun b => by
    rw [State.betterRef, State.betterRef, h.fld_eq href, h.fld_eq href, hquality]
  have hflag (r : Nat) : t.fld F.TM_REF_STAT_STEPREF r = s.fld F.TM_REF_STAT_STEPREF r := h.fld_eq hstat r
  simp only [State.toref, State.selected, State.bestRef, hbetter, hflag, h.fld_eq (f := F.TM_STATE_SEL) hsel 0]

theorem refOffset_of_within {l : List Part} {s t : State} (h : Within l s t) (hstat : takesIn l 0x5018 = false)
    (htm : takesIn l Part.tm = false) : t.refOffset = s.refOffset := funext fun r => by
  rw [State.refOffset, State.refOffset, State.qstate, State.qstate, State.ref, State.ref, h.fld_eq hstat, h.agrees.tm htm]

/-- The offset that a step to a reference rests on (R275). -/
def State.stepOffset (s : State) (w0 : W) : Option Int := (s.toref w0).bind s.refOffset

theorem stepOffset_of_within {l : List Part} {s t : State} (h : Within l s t)
    (m : [0x5000, 0x5010, 0x5018, 0x5030, Part.tm].all (fun p => !takesIn l p) = true) (w0 : W) : t.stepOffset w0 = s.stepOffset w0 := by
  simp only [List.all_cons, List.all_nil, Bool.and_true, Bool.and_eq_true, Bool.not_eq_true'] at m
  obtain ⟨hsel, href, hstat, hptp, htm⟩ := m
  rw [State.stepOffset, State.stepOffset, toref_of_within h hsel href hstat hptp, refOffset_of_within h hstat htm]

theorem stepAmount_of_within {l : List Part} {s t : State} (h : Within l s t)
    (m : [0x5000, 0x5010, 0x5018, 0x5030, Part.tm].all (fun p => !takesIn l p) = true) (hc : takesIn l Part.clk = false)
    (w0 w1 w2 : W) : t.stepAmount w0 w1 w2 = s.stepAmount w0 w1 w2 := by
  have ho := stepOffset_of_within h m w0
  unfold State.stepOffset at ho
  simp only [State.stepAmount, ho, h.agrees.clk hc]

/-- How a commit is judged: while a step waits; by its instant; by its reference; then it waits or is applied. -/
theorem putTmStep_judged (hop : F.TM_STEP_OP.of w0 ≠ 0) :
    (putTmStep rq w0 w1 w2).2 s.stir =
      if s.tm.step_.isSome = true then (.busy, s.stir)
      else if F.TM_STEP_WHEN.of w0 = 1 ∧ timeAhead (stepAt w1 w2) s.clk.count = none then
        (.expired, s.stir.setFld F.TM_STEP_STATUS 0 0x27)
      else if F.TM_STEP_OP.of w0 = 3 ∧ s.stepOffset w0 = none then (.noref, s.stir.setFld F.TM_STEP_STATUS 0 0x33)
      else if F.TM_STEP_WHEN.of w0 = 1 then
        (.ok, ((s.stir.stepStored w0 w1 w2).setFld F.TM_STEP_STATUS 0 2).withTm fun t => { t with step_ := some (w0, w1, w2) })
      else (.ok, (s.stir.stepStored w0 w1 w2).stepApply w0 w1 w2) := by
  have ht : s.stir.tm = s.tm := (stir_within s).agrees.tm rfl
  have hc : s.stir.clk = s.clk := (stir_within s).agrees.clk rfl
  have ho : (s.stir.toref w0).bind s.stir.refOffset = s.stepOffset w0 := stepOffset_of_within (stir_within s) rfl w0
  simp only [putTmStep, if_neg hop, ht, hc, ho]
  rfl

variable (hp : s.passes rq (putTmStep rq w0 w1 w2).1 = true)
include hp

/-- A commit refused by its instant or its reference leaves the counter, and STATUS tells why. -/
theorem step_told {st : Status} {n : Nat} (ho : (putTmStep rq w0 w1 w2).2 s.stir = (st, s.stir.setFld F.TM_STEP_STATUS 0 n))
    (hv : st.violation = false) (hf : st ≠ .forwarded) (hn : n < 256) :
    let t := s.request rq (putTmStep rq w0 w1 w2).1 (putTmStep rq w0 w1 w2).2
    t.clk.count = s.clk.count ∧ t.fld F.TM_STEP_STATUS 0 = n ∧ t.replied ⟨0x5050, 0, 0⟩ st := by
  have hw := passed_plain_within hp ho hv
  have hs : (s.stir.setFld F.TM_STEP_STATUS 0 n).clk = s.clk := (stir_within s).agrees.clk rfl
  exact ⟨congrArg Clk.count ((hw.agrees.clk rfl).trans hs), (hw.fld_eq rfl 0).trans (fld_setFld_of_lt s.stir 0 n rfl hn),
    passed_replied hp ho hf⟩

variable (hop : F.TM_STEP_OP.of w0 ≠ 0)
include hop

theorem step_busy (h : s.tm.step_.isSome = true) :
    let t := s.request rq (putTmStep rq w0 w1 w2).1 (putTmStep rq w0 w1 w2).2
    t.tm.step_ = s.tm.step_ ∧ t.clk.count = s.clk.count ∧ t.replied ⟨0x5050, 0, 0⟩ .busy := by
  obtain ⟨hk, hr⟩ := passed_refused hp ((putTmStep_judged hop).trans (if_pos h)) rfl (by decide)
  exact ⟨congrArg TimeState.step_ (hk.agrees.tm rfl), congrArg Clk.count (hk.agrees.clk rfl), hr⟩

variable (hfree : s.tm.step_ = none)
include hfree

theorem step_expired (hwhen : F.TM_STEP_WHEN.of w0 = 1) (hpast : timeAhead (stepAt w1 w2) s.clk.count = none) :
    let t := s.request rq (putTmStep rq w0 w1 w2).1 (putTmStep rq w0 w1 w2).2
    t.clk.count = s.clk.count ∧ t.fld F.TM_STEP_STATUS 0 = 0x27 ∧ t.replied ⟨0x5050, 0, 0⟩ .expired := by
  have ho := putTmStep_judged (s := s) (rq := rq) (w1 := w1) (w2 := w2) hop
  rw [if_neg (by simp [hfree]), if_pos ⟨hwhen, hpast⟩] at ho
  exact step_told hp ho rfl (by decide) (by decide)

theorem step_noref (hwhen : F.TM_STEP_WHEN.of w0 = 0) (href : F.TM_STEP_OP.of w0 = 3) (hnone : s.stepOffset w0 = none) :
    let t := s.request rq (putTmStep rq w0 w1 w2).1 (putTmStep rq w0 w1 w2).2
    t.clk.count = s.clk.count ∧ t.fld F.TM_STEP_STATUS 0 = 0x33 ∧ t.replied ⟨0x5050, 0, 0⟩ .noref := by
  have ho := putTmStep_judged (s := s) (rq := rq) (w1 := w1) (w2 := w2) hop
  rw [if_neg (by simp [hfree]), if_neg (by simp [hwhen]), if_pos ⟨href, hnone⟩] at ho
  exact step_told hp ho rfl (by decide) (by decide)

theorem step_waits (hwhen : F.TM_STEP_WHEN.of w0 = 1) (hahead : (timeAhead (stepAt w1 w2) s.clk.count).isSome = true)
    (href : F.TM_STEP_OP.of w0 = 3 → (s.stepOffset w0).isSome = true) :
    let t := s.request rq (putTmStep rq w0 w1 w2).1 (putTmStep rq w0 w1 w2).2
    t.tm.step_ = some (w0, w1, w2) ∧ t.fld F.TM_STEP_STATUS 0 = 2 ∧ t.clk.count = s.clk.count ∧ t.replied ⟨0x5050, 0, 0⟩ .ok := by
  have ho := putTmStep_judged (s := s) (rq := rq) (w1 := w1) (w2 := w2) hop
  have hlate : ¬(F.TM_STEP_WHEN.of w0 = 1 ∧ timeAhead (stepAt w1 w2) s.clk.count = none) := fun h => by simp [h.2] at hahead
  have hnoref : ¬(F.TM_STEP_OP.of w0 = 3 ∧ s.stepOffset w0 = none) := fun h => by simpa [h.2] using href h.1
  rw [if_neg (by simp [hfree]), if_neg hlate, if_neg hnoref, if_pos hwhen] at ho
  have hw := passed_plain_within hp ho rfl
  have hstored : (s.stir.stepStored w0 w1 w2).clk = s.clk :=
    ((stepStored_within s.stir w0 w1 w2).agrees.clk rfl).trans ((stir_within s).agrees.clk rfl)
  exact ⟨congrArg TimeState.step_ (hw.agrees.tm rfl),
    (hw.fld_eq rfl 0).trans (fld_setFld_of_lt (f := F.TM_STEP_STATUS) (s.stir.stepStored w0 w1 w2) 0 2 rfl (by decide)),
    congrArg Clk.count ((hw.agrees.clk rfl).trans hstored), passed_replied hp ho (by decide)⟩

theorem step_atOnce (hwhen : F.TM_STEP_WHEN.of w0 = 0) (href : F.TM_STEP_OP.of w0 = 3 → (s.stepOffset w0).isSome = true) :
    let t := s.request rq (putTmStep rq w0 w1 w2).1 (putTmStep rq w0 w1 w2).2
    t.clk.count = (Int.ofNat s.clk.count + s.stepAmount w0 w1 w2).toNat ∧ t.clk.epoch = (s.clk.epoch + 1) % 65536 ∧
      t.fld F.TM_STEP_STATUS 0 = 0x10 ∧ t.replied ⟨0x5050, 0, 0⟩ .ok := by
  have ho := putTmStep_judged (s := s) (rq := rq) (w1 := w1) (w2 := w2) hop
  have hnoref : ¬(F.TM_STEP_OP.of w0 = 3 ∧ s.stepOffset w0 = none) := fun h => by simpa [h.2] using href h.1
  rw [if_neg (by simp [hfree]), if_neg (by simp [hwhen]), if_neg hnoref, if_neg (by simp [hwhen])] at ho
  have hw := passed_plain_within hp ho rfl
  have hs : Within [0x5050, Part.pw] s (s.stir.stepStored w0 w1 w2) :=
    ((stir_within s).mono rfl).step (stepStored_within ..) rfl
  obtain ⟨hcount, hepoch, -, hstatus⟩ := stepApply_applied (s.stir.stepStored w0 w1 w2) w0 w1 w2
  rw [stepAmount_of_within hs rfl rfl, hs.agrees.clk rfl] at hcount
  rw [hs.agrees.clk rfl] at hepoch
  exact ⟨(congrArg Clk.count (hw.agrees.clk rfl)).trans hcount, (congrArg Clk.epoch (hw.agrees.clk rfl)).trans hepoch,
    (hw.fld_eq rfl 0).trans hstatus, passed_replied hp ho (by decide)⟩

end Commit

/-! ### How far a step goes (R275) -/

section Amount
variable {s : State} {w0 w1 w2 : W}

theorem stepAmount_absolute (h : F.TM_STEP_OP.of w0 = 1) :
    (Int.ofNat s.clk.count + s.stepAmount w0 w1 w2).toNat = timeOf (F.TM_STEP_SECONDS.of w1) (F.TM_STEP_NANOSECONDS.of w2) := by
  simp only [State.stepAmount, h]
  generalize timeOf (F.TM_STEP_SECONDS.of w1) (F.TM_STEP_NANOSECONDS.of w2) = u
  simp

theorem stepAmount_relative (h : F.TM_STEP_OP.of w0 = 2) :
    s.stepAmount w0 w1 w2 = roundDiv (signed 32 (F.TM_STEP_AMOUNT.of w0) * nsUnits) 1000 := by
  simp only [State.stepAmount, h]

theorem stepAmount_toref {e : Int} (h : F.TM_STEP_OP.of w0 = 3) (ho : s.stepOffset w0 = some e) :
    s.stepAmount w0 w1 w2 = -roundDiv (e * nsUnits) 1000 := by
  unfold State.stepOffset at ho
  simp only [State.stepAmount, h, ho]

theorem stepOffset_some {r : Nat} {e : Int} (hr : s.toref w0 = some r) (he : s.refOffset r = some e) : s.stepOffset w0 = some e := by
  rw [State.stepOffset, hr]
  exact he

end Amount

/-! ### The instant of a step that waits, and the end of a slew (R276) -/

section Instant
variable {s : State}

/-- Ticks move the times alone. -/
theorem clk_ticks (s : State) (n : Nat) :
    ∃ mono count hlag, (s.ticks n).clk = { s.clk with mono := mono, count := count, hlag := hlag } := ⟨_, _, _, rfl⟩

theorem epoch_waitCount (s : State) (u : Nat) : (s.waitCount u).clk.epoch = s.clk.epoch := by
  obtain ⟨mono, count, hlag, h⟩ := clk_ticks s ((u - s.clk.count + s.tickStep - 1) / s.tickStep)
  rw [State.waitCount, h]

theorem stepDue_applied {w0 w1 w2 : W} (h : s.tm.step_ = some (w0, w1, w2)) :
    s.stepDue.tm.step_ = none ∧ s.stepDue.fld F.TM_STEP_STATUS 0 = 0x10 ∧ s.stepDue.clk.epoch = (s.clk.epoch + 1) % 65536 := by
  have hd : s.stepDue =
      (s.waitCount (s.clk.count + (timeAhead (stepAt w1 w2) s.clk.count).getD 0)).stepApply w0 w1 w2 := by rw [State.stepDue, h]
  obtain ⟨-, hepoch, hnone, hstatus⟩ :=
    stepApply_applied (s.waitCount (s.clk.count + (timeAhead (stepAt w1 w2) s.clk.count).getD 0)) w0 w1 w2
  rw [epoch_waitCount] at hepoch
  rw [hd]
  exact ⟨hnone, hstatus, hepoch⟩

theorem stepDue_idle (h : s.tm.step_ = none) : s.stepDue = s := by rw [State.stepDue, h]

/-- A bit of HIST set leaves the states that `TM_STATE` tells of. -/
theorem setHist_keepsStates (s : State) (b : Nat) : KeepsWord ⟨0x5000, 0, 1⟩ s (s.setHist b) := by
  unfold State.setHist
  extract_lets hist marked told
  have hm : KeepsWord ⟨0x5000, 0, 1⟩ s marked :=
    tget_tset_other _ _ _ fun hk => absurd (congrArg Key.w hk) (show (1 : Nat) ≠ 2 by decide)
  have ht : KeepsWord ⟨0x5000, 0, 1⟩ s told := hm.step (notifySub_within ..) rfl
  exact .ite .refl (.ite (ht.step (withHost_within ..) rfl) hm)

/-- The end of a slew: H has met the counter. -/
def State.slewMet (s : State) : State :=
  let s := s.ticks s.slewTicks
  { s with clk := { s.clk with hlag := 0 } }

theorem slewDone_eq (h : s.fld F.TM_STATE_SLEWING 0 ≠ 0) : s.slewDone = (s.slewMet.setFld F.TM_STATE_SLEWING 0 0).setHist 10 := if_neg h

theorem slewDone_meets (h : s.fld F.TM_STATE_SLEWING 0 ≠ 0) :
    s.slewDone.clk.hlag = 0 ∧ s.slewDone.house = s.slewDone.clk.count ∧ s.slewDone.fld F.TM_STATE_SLEWING 0 = 0 := by
  rw [slewDone_eq h]
  have hclk : ((s.slewMet.setFld F.TM_STATE_SLEWING 0 0).setHist 10).clk = s.slewMet.clk := (setHist_within ..).agrees.clk rfl
  have hlag : s.slewMet.clk.hlag = 0 := rfl
  refine ⟨by rw [hclk, hlag], ?_, ?_⟩
  · rw [State.house, hclk, hlag, add_zero]
    exact Int.toNat_natCast _
  · rw [(setHist_keepsStates _ 10).fld (f := F.TM_STATE_SLEWING)]
    exact fld_setFld_of_lt (f := F.TM_STATE_SLEWING) s.slewMet 0 0 rfl (by decide)

theorem slewDone_idle (h : s.fld F.TM_STATE_SLEWING 0 = 0) : s.slewDone = s := if_pos h

end Instant

/-- Settles O23: a commit by the order of its checks, its amount by its OP, its instant and the end of a slew by what they leave. -/
theorem stepsMoveTheClock : Obligations.StepsMoveTheClock := by
  unfold Obligations.StepsMoveTheClock
  have op (w0 : W) (n : Nat) (hn : n < 4) : F.TM_STEP_OP.of (withOp F.TM_STEP_OP w0 n) = n :=
    (Fld.of_put_same rfl w0 n).trans (Nat.mod_eq_of_lt hn)
  have acts (w0 : W) (n : Nat) (hn : n < 4) (h0 : n ≠ 0) : F.TM_STEP_OP.of (withOp F.TM_STEP_OP w0 n) ≠ 0 := by rwa [op w0 n hn]
  refine ⟨?absolute, ?relative, ?toref, ?instant, ?slew⟩
  case absolute =>
    refine fun rq w0 w1 w2 s => ⟨_, rfl, fun hp hf hw => ?_, fun hp => step_busy hp (acts w0 1 (by decide) (by decide))⟩
    obtain ⟨hcount, hrest⟩ := step_atOnce hp (acts w0 1 (by decide) (by decide)) hf hw (by simp [op])
    exact ⟨hcount.trans (stepAmount_absolute (op w0 1 (by decide))), hrest⟩
  case relative =>
    refine fun rq w0 w1 w2 s => ⟨_, rfl, fun hp hf hw => ?now, fun hp hf hw ha => ?waits,
      fun hp => step_expired hp (acts w0 2 (by decide) (by decide)), fun hp => step_busy hp (acts w0 2 (by decide) (by decide))⟩
    case now =>
      obtain ⟨hcount, hepoch, -, hr⟩ := step_atOnce hp (acts w0 2 (by decide) (by decide)) hf hw (by simp [op])
      rw [stepAmount_relative (op w0 2 (by decide))] at hcount
      exact ⟨hcount, hepoch, hr⟩
    case waits => exact step_waits hp (acts w0 2 (by decide) (by decide)) hf hw ha (by simp [op])
  case toref =>
    refine fun rq r e w0 w1 w2 s => ⟨_, rfl, fun hp hf hw hr he => ?now,
      fun hp hf hw => step_noref hp (acts w0 3 (by decide) (by decide)) hf hw (op w0 3 (by decide)),
      fun hp hf hw ha ho => step_waits hp (acts w0 3 (by decide) (by decide)) hf hw ha fun _ => ho,
      fun hp => step_busy hp (acts w0 3 (by decide) (by decide))⟩
    have ho := stepOffset_some hr he
    obtain ⟨hcount, hepoch, -, hreply⟩ := step_atOnce hp (acts w0 3 (by decide) (by decide)) hf hw fun _ => by rw [ho]; rfl
    rw [stepAmount_toref (op w0 3 (by decide)) ho, ← sub_eq_add_neg] at hcount
    exact ⟨hcount, hepoch, hreply⟩
  case instant => exact fun w0 w1 w2 s => ⟨_, rfl, stepDue_applied, stepDue_idle⟩
  case slew => exact fun s => ⟨_, rfl, slewDone_meets, slewDone_idle⟩

end Sys2Proof.Machine
end

section
/-! The order of claims (R284, R287), and a copy that bears none (R295). -/
namespace Sys2Proof.Machine

section Claims
variable {p e u q f w : Nat}

/-- The fields of a claim read back as they were put (R284). -/
theorem mkClaim_fields (p : Nat) (he : e < 2048) (hu : u < 2) :
    mkClaim p e u / 4096 = p ∧ mkClaim p e u / 2 % 2048 = e ∧ mkClaim p e u % 2 = u := by
  rw [mkClaim, Nat.mod_eq_of_lt he]
  omega

/-- The comparison of two claims that are not 0, by their fields (R287). -/
theorem claimAbove_mkClaim (he : e < 2048) (hu : u < 2) (hf : f < 2048) (hw : w < 2) (ha : mkClaim p e u ≠ 0) (hb : mkClaim q f w ≠ 0) :
    claimAbove (mkClaim p e u) (mkClaim q f w) = true ↔ q < p ∨ (p = q ∧ (later 11 e f = true ∨ (e = f ∧ u = 1 ∧ w = 0))) := by
  obtain ⟨hprioA, hepochA, hunitA⟩ := mkClaim_fields p he hu
  obtain ⟨hprioB, hepochB, hunitB⟩ := mkClaim_fields q hf hw
  simp [claimAbove, ha, hb, hprioA, hepochA, hunitA, hprioB, hepochB, hunitB, and_assoc]

theorem mkClaim_ne_of_unit_ne (he : e < 2048) (hu : u < 2) (hf : f < 2048) (hw : w < 2) (h : u ≠ w) : mkClaim p e u ≠ mkClaim q f w := by
  obtain ⟨-, -, hunitA⟩ := mkClaim_fields p he hu
  obtain ⟨-, -, hunitB⟩ := mkClaim_fields q hf hw
  exact fun heq => h (hunitA.symm.trans ((congrArg (· % 2) heq).trans hunitB))

end Claims

theorem not_eligible_of_claim_zero (s : State) (x : Nat × Nat) {c : PairCopy} (h : hdrClaim c.header = 0) :
    s.eligible x (some c) = false := by simp [State.eligible, h]

/-- Settles O41: the comparison reads the fields of the claims; claims of different UNIT differ in bit 0. -/
theorem theHigherClaim : Obligations.TheHigherClaim :=
  ⟨fun _ _ _ _ _ _ _ he hu _ hf hw ha hb => ⟨claimAbove_mkClaim he hu hf hw ha hb, mkClaim_ne_of_unit_ne he hu hf hw⟩,
    fun x _ s => not_eligible_of_claim_zero s x⟩

end Sys2Proof.Machine
end

section
/-! A spare engine that fails its vectors while the mast die's fault manager has no room (R302, R362, R394), which the statement about the
self-test denies. -/
namespace Sys2Proof.Machine

/-- A CORE in STANDBY that tests its engines, with no die isolated; engine 0 is a spare one. -/
def testingCore : State :=
  ((State.reset.setFld F.SY_MODE_MODE 0 STANDBY).setFld F.TW_CONFIG_STENG 0 1).setFld F.IC_ENGINE_STATE 0 engSPARE

/-- LANE-ERRORS of nine lanes of die 0, the mast die: the handler of the first runs, and the eight others, each DEGRADE, are queued. -/
def crowdedCore : State := (List.range 9).foldl (fun s lane => s.raise 0x4001 0 lane 0 0) testingCore

/-- The self-test of engines runs, engine 0 is spare, and every die is in service. -/
theorem crowdedCore_tests :
    (crowdedCore.selfTests = true ∧ crowdedCore.fld F.TW_CONFIG_STENG 0 = 1) ∧ 0 < crowdedCore.dies * 24 ∧
      crowdedCore.engine 0 = engSPARE ∧ crowdedCore.sys.isolated = [] := by decide +kernel

/-- SELFTEST is escalated to the ISOLATE of die 0 (R394), which is therefore isolated (R393) before its engine 0 is failed. -/
theorem crowdedCore_isolates :
    (crowdedCore.selftestEngine [0]).sys.isolated = [0] ∧ (crowdedCore.selftestEngine [0]).engine 0 = engSPARE := by decide +kernel

theorem settleIsolated_engine (s : State) (e : Nat) : s.settleIsolated.engine e = s.engine e := (settleIsolated_within s).fld_eq rfl e

/-- Refutes O8: SELFTEST, a DEGRADE of the mast die, meets eight queued faults of which none is a NOTICE, so that the die is isolated
(R394). An engine of an isolated die does not fail any more; it stays SPARE, although no die was isolated before. -/
theorem not_pairsHealthAndSelfTest : ¬ Obligations.PairsHealthAndSelfTest := by
  unfold Obligations.PairsHealthAndSelfTest
  rintro ⟨-, -, -, -, hselftest⟩
  obtain ⟨t, he, hfails, -⟩ := hselftest [0] 0 crowdedCore
  obtain ⟨hruns, hdie, hspare, hnone⟩ := crowdedCore_tests
  obtain ⟨-, hfailed⟩ := hfails hruns rfl hdie (by decide) hspare
  have hu : (crowdedCore.selftestEngine [0]).settleIsolated = t.settleIsolated := Host.Outcome.next.inj he
  have hstays : t.engine 0 = engSPARE := by
    rw [← settleIsolated_engine, ← hu, settleIsolated_engine, crowdedCore_isolates.2]
  exact absurd (hstays.symm.trans (hfailed hnone)) (by decide)

end Sys2Proof.Machine
end

section
/-! Every command answers a next state: what the spec turns away is answered with a status. -/
namespace Sys2Proof.Machine

/-- Settles O51: each command's operation keeps to its parts, and so has a next state. -/
theorem everyCommandAnswersANextState : Obligations.EveryCommandAnswersANextState := fun c s =>
  let ⟨_, hu, _⟩ := exec_within c s
  ⟨_, hu⟩

end Sys2Proof.Machine
end

section
/-! The sessions and the PCIe functions of the mast, each under its context. -/
namespace Sys2Proof.Machine

theorem session_congr {s t : State} (h : t.host.sessions = s.host.sessions) (c : Nat) : t.session c = s.session c := by
  rw [State.session, State.session, h]

theorem session_modSession (s : State) (c : Nat) (f : Session → Session) (d : Nat) :
    (s.modSession c f).session d = if d = c then (s.session d).map f else s.session d := by
  simp only [State.session, State.modSession, withHost_host, List.getD_eq_getElem?_getD, List.getElem?_modify, eq_comm (a := c)]
  split
  · cases s.host.sessions[d]? <;> rfl
  · cases s.host.sessions[d]? <;> rfl

theorem session_modSession_same (s : State) (c : Nat) (f : Session → Session) :
    (s.modSession c f).session c = (s.session c).map f := (session_modSession s c f c).trans (if_pos rfl)

theorem fn_withPcie (s : State) (c : Nat) (f : PcieFn → PcieFn) :
    (s.withPcie c f).host.pcie[c]? = (s.host.pcie[c]?).map f := List.getElem?_modify_eq f c s.host.pcie

end Sys2Proof.Machine
end

section
/-! NOTIFYs of periods and events, the mark of a queue that has spilt, and EMERGENCYs (R325, R327, R328). -/
namespace Sys2Proof.Machine

/-! ### The subscriptions and the queue of a session or of a function -/

section Side
variable {s t : State} {c : Nat} {pcie : Bool}

theorem sideOf_congr (h : t.host = s.host) : t.sideOf c pcie = s.sideOf c pcie := by
  simp [State.sideOf, State.session, h]

theorem sideOf_bump (a : Fld) (e n : Nat) : (s.bump a e n).sideOf c pcie = s.sideOf c pcie := sideOf_congr rfl

theorem now_bump (s : State) (a : Fld) (e n : Nat) : (s.bump a e n).now = s.now := rfl

theorem sideOf_fn {f : PcieFn} (h : s.host.pcie[c]? = some f) : s.sideOf c true = (f.subs, f.notes, f.spilt) := by
  simp [State.sideOf, h]

theorem sideOf_session {x : Session} (h : s.session c = some x) : s.sideOf c false = (x.subs, x.notes, x.spilt) := by
  simp [State.sideOf, h]

/-- What is not empty belongs to an open session, or to a function that exists; it reads as it is set. -/
theorem sideOf_setSide (h : s.sideOf c pcie ≠ ([], [], false)) (subs : List Sub) (notes : List Note) (spilt : Bool) :
    (s.setSide c pcie subs notes spilt).sideOf c pcie = (subs, notes, spilt) := by
  cases pcie
  case false =>
    cases hx : s.session c with
    | none => exact absurd (by simp [State.sideOf, hx]) h
    | some x => exact sideOf_session ((session_modSession_same ..).trans (by rw [hx]; rfl))
  case true =>
    cases hf : s.host.pcie[c]? with
    | none => exact absurd (by simp [State.sideOf, hf]) h
    | some f => exact sideOf_fn ((fn_withPcie ..).trans (by rw [hf]; rfl))

theorem now_setSide (subs : List Sub) (notes : List Note) (spilt : Bool) : (s.setSide c pcie subs notes spilt).now = s.now := by
  cases pcie <;> rfl

end Side

/-! ### NOTIFY_PERIOD -/

section Period
variable {s : State} {c : Nat} {pcie : Bool} {id : Nat} {x : Sub}

/-- The subscription whose period is over is found again, with its period begun. -/
theorem find_renewSub {l : List Sub} (h : l.find? (fun y => y.id == id && y.period != 0) = some x) (now : Nat) :
    ((renewSub l id now).find? fun y => y.id == id && y.period != 0).map (·.last) = some now := by
  have hid : x.id = id := by
    have hx := List.find?_some h
    simp only [Bool.and_eq_true, beq_iff_eq] at hx
    exact hx.1
  have hp : ((fun y : Sub => y.id == id && y.period != 0) ∘ fun y => if y.id = id then { y with last := now } else y) =
      fun y => y.id == id && y.period != 0 := by
    funext y
    by_cases hy : y.id = id <;> simp [hy]
  rw [renewSub, List.find?_map, hp, h]
  simp [hid]

theorem notifyPeriod_none (h : (s.sideOf c pcie).1.find? (fun y => y.id == id && y.period != 0) = none) :
    s.notifyPeriod c pcie id = s := by
  unfold State.notifyPeriod
  rw [h]

/-- Where a period ends: once it is over, the subscriptions are renewed. -/
theorem notifyPeriod_renewed (h : (s.sideOf c pcie).1.find? (fun y => y.id == id && y.period != 0) = some x) :
    ((s.notifyPeriod c pcie id).sideOf c pcie).1 = renewSub (s.sideOf c pcie).1 id (s.waitUntil (x.last + ms x.period)).now ∧
      (s.notifyPeriod c pcie id).now = (s.waitUntil (x.last + ms x.period)).now := by
  have hu : (s.waitUntil (x.last + ms x.period)).sideOf c pcie = s.sideOf c pcie := sideOf_congr ((waitUntil_within s _).agrees.host rfl)
  have hne : (s.waitUntil (x.last + ms x.period)).sideOf c pcie ≠ ([], [], false) := fun he => by simp [← hu, he] at h
  simp only [State.notifyPeriod, h]
  rw [← hu]
  generalize s.waitUntil (x.last + ms x.period) = u at hne ⊢
  split
  · rw [sideOf_setSide hne, now_setSide]
    exact ⟨rfl, rfl⟩
  · rw [sideOf_bump, sideOf_setSide hne, now_bump, now_setSide]
    exact ⟨rfl, rfl⟩

theorem notifyPeriod_renews (h : (s.sideOf c pcie).1.find? (fun y => y.id == id && y.period != 0) = some x) :
    let t := s.notifyPeriod c pcie id
    (((t.sideOf c pcie).1.find? fun y => y.id == id && y.period != 0).map (·.last)) = some t.now ∧ x.last + ms x.period ≤ t.now := by
  obtain ⟨hs, hn⟩ := notifyPeriod_renewed h
  intro t
  rw [hs, hn]
  exact ⟨find_renewSub h _, le_now_waitUntil ..⟩

end Period

/-! ### NOTIFY_SEND and NOTIFY_OVERFLOW -/

section Send
variable {s : State} {c : Nat} {pcie : Bool} {n : Note} {l : List Note}

theorem sendMsg_host (s : State) (a : Att) : (s.sendMsg a).host = s.host := (sendMsg_within s a).agrees.host rfl

theorem sendMsg_clk (s : State) (a : Att) : (s.sendMsg a).clk = s.clk := (sendMsg_within s a).agrees.clk rfl

/-- An event waits until others could have joined it (R325). -/
def State.ripened (s : State) (n : Note) : State := if n.cause = 1 then s.waitUntil (n.born + ms 1) else s

theorem ripened_host (s : State) (n : Note) : (s.ripened n).host = s.host := by
  unfold State.ripened
  split
  · exact (waitUntil_within ..).agrees.host rfl
  · rfl

theorem le_now_ripened (s : State) {n : Note} (h : n.cause = 1) : n.born + ms 1 ≤ (s.ripened n).now := by
  rw [State.ripened, if_pos h]
  exact le_now_waitUntil ..

theorem notifySend_none (h : (s.sideOf c pcie).2.1 = []) : s.notifySend c pcie = s := by
  simp only [State.notifySend, h]

/-- The oldest NOTIFY leaves its queue, whether its place in the path is free or not. -/
theorem notifySend_left (h : (s.sideOf c pcie).2.1 = n :: l) :
    ((s.notifySend c pcie).sideOf c pcie).2.1 = l ∧ (s.notifySend c pcie).now = (s.ripened n).now := by
  cases pcie
  case false =>
    cases hx : s.session c with
    | none => simp [State.sideOf, hx] at h
    | some x =>
      have hj : (s.ripened n).session c = some x := (session_congr (congrArg _ (ripened_host s n)) c).trans hx
      have he : s.notifySend c false =
          ((s.ripened n).modSession c fun x => { x with notes := l, nseq := (x.nseq + 1) % 2 ^ 32 }).sendMsg x.att := by
        simp only [State.notifySend, h, Bool.false_eq_true, if_false]
        rw [← State.ripened, hj]
      rw [he, sideOf_congr (sendMsg_host ..), sideOf_session ((session_modSession_same ..).trans (by rw [hj]; rfl))]
      exact ⟨rfl, congrArg Clk.mono (sendMsg_clk ..)⟩
  case true =>
    cases hf : s.host.pcie[c]? with
    | none => simp [State.sideOf, hf] at h
    | some f =>
      have hj : (s.ripened n).host.pcie[c]? = some f := by rw [ripened_host, hf]
      have he : s.notifySend c true =
          if f.nqRoom then (s.ripened n).withPcie c fun x => { x.nqPut (queueEntry (n.payload 40)) with notes := l }
          else ((s.ripened n).withPcie c fun x => { x with notes := l, spilt := true }).bump F.CT_NCP_STAT_NOTIFYDROP 0 1 := by
        simp only [State.notifySend, h, if_true]
        rw [← State.ripened, hj]
      rw [he]
      split
      · exact ⟨by rw [sideOf_fn ((fn_withPcie ..).trans (by rw [hj]; rfl))], rfl⟩
      · exact ⟨by rw [sideOf_bump, sideOf_fn ((fn_withPcie ..).trans (by rw [hj]; rfl))], rfl⟩

theorem notifySend_sends (h : (s.sideOf c pcie).2.1 = n :: l) :
    ((s.notifySend c pcie).sideOf c pcie).2.1 = l ∧ (n.cause = 1 → n.born + ms 1 ≤ (s.notifySend c pcie).now) := by
  obtain ⟨hl, hn⟩ := notifySend_left h
  rw [hn]
  exact ⟨hl, le_now_ripened s⟩

theorem notifyOverflow_marks (h : (s.sideOf c pcie).2.2 = true ∧ s.queued c pcie < 256) :
    ((s.notifyOverflow c pcie).sideOf c pcie).2 = ((s.sideOf c pcie).2.1 ++ [⟨0, 3, noAddr, [], s.now⟩], false) := by
  have hne : s.sideOf c pcie ≠ ([], [], false) := fun he => by simp [he] at h
  simp only [State.notifyOverflow, h.1, h.2, decide_true, Bool.and_self, if_true]
  rw [sideOf_setSide hne]

theorem notifyOverflow_idle (h : ¬((s.sideOf c pcie).2.2 = true ∧ s.queued c pcie < 256)) : s.notifyOverflow c pcie = s := by
  unfold State.notifyOverflow
  exact if_neg (by simpa using h)

end Send

/-! ### EMERGENCY -/

section Emergency
variable {s : State} {i : Nat}

/-- What goes out on a list of paths leaves the host's side as it was, and takes no time. -/
theorem sendMsgs_within (s : State) (l : List Att) : Within Parts.sendMsg s (l.foldl State.sendMsg s) :=
  .foldl .refl fun _ _ h => h.step (sendMsg_within ..) rfl

theorem emergencySend_idle (h : s.keeperSends = false ∨ (s.host.emerg.findIdx? fun y => y.2.1 == 0) = none) :
    s.emergencySend = s := by
  unfold State.emergencySend
  cases hk : s.keeperSends
  · rfl
  · obtain h | h := h
    · simp [hk] at h
    · simp [h]

theorem emergencySend_sends (hk : s.keeperSends = true) (hi : (s.host.emerg.findIdx? fun y => y.2.1 == 0) = some i) :
    (s.emergencySend.host.emerg[i]?).map (·.2) = some (1, s.now) := by
  have hlt : i < s.host.emerg.length := (List.findIdx?_eq_some_iff_findIdx_eq.1 hi).1
  unfold State.emergencySend
  rw [hi]
  simp only [hk, Bool.not_true, Bool.false_eq_true, if_false]
  rw [(sendMsgs_within ..).agrees.host rfl]
  show (List.modify ..)[i]?.map _ = _
  rw [List.getElem?_modify_eq, List.getElem?_eq_getElem hlt]
  rfl

theorem emergencyRepeat_idle (h : s.keeperSends = false ∨ (s.host.emerg.findIdx? fun y => y.2.1 == 1 || y.2.1 == 2) = none) :
    s.emergencyRepeat = s := by
  unfold State.emergencyRepeat
  cases hk : s.keeperSends
  · rfl
  · obtain h | h := h
    · simp [hk] at h
    · simp [h]

/-- The `i`-th EMERGENCY goes out again, sent `k` times before. -/
def State.repeated (s : State) (i k : Nat) : State :=
  s.emergencyPaths.foldl State.sendMsg (s.withHost fun h => { h with
    emerg := if k = 2 then h.emerg.eraseIdx i else h.emerg.modify i fun x => (x.1, 2, s.now) })

theorem repeated_now (s : State) (i k : Nat) : (s.repeated i k).now = s.now :=
  congrArg Clk.mono ((sendMsgs_within ..).agrees.clk rfl)

theorem repeated_emerg (s : State) (i k : Nat) : (s.repeated i k).host.emerg =
    if k = 2 then s.host.emerg.eraseIdx i else s.host.emerg.modify i fun x => (x.1, 2, s.now) :=
  congrArg HostState.emerg ((sendMsgs_within ..).agrees.host rfl)

/-- A repetition comes 10 ms after the last sending: the second is counted, the third is the last. -/
theorem emergencyRepeat_emerg {x : List W × Nat × Nat} (hk : s.keeperSends = true)
    (hi : (s.host.emerg.findIdx? fun y => y.2.1 == 1 || y.2.1 == 2) = some i) (hx : s.host.emerg[i]? = some x) :
    s.emergencyRepeat.host.emerg = (if x.2.1 = 2 then s.host.emerg.eraseIdx i
      else s.host.emerg.modify i fun y => (y.1, 2, s.emergencyRepeat.now)) ∧ x.2.2 + ms 10 ≤ s.emergencyRepeat.now := by
  have he : s.emergencyRepeat = (s.waitUntil (x.2.2 + ms 10)).repeated i x.2.1 := by
    simp only [State.emergencyRepeat, State.repeated, hk, hi, hx, Bool.not_true, Bool.false_eq_true, if_false, Option.map_some,
      Option.getD_some]
  rw [he, repeated_now, repeated_emerg, (waitUntil_within ..).agrees.host rfl]
  exact ⟨rfl, le_now_waitUntil ..⟩

theorem emergencyRepeat_second {x : List W × Nat × Nat} (hk : s.keeperSends = true)
    (hi : (s.host.emerg.findIdx? fun y => y.2.1 == 1 || y.2.1 == 2) = some i) (hx : s.host.emerg[i]? = some x) (h : x.2.1 = 1) :
    (s.emergencyRepeat.host.emerg[i]?).map (·.2) = some (2, s.emergencyRepeat.now) ∧ x.2.2 + ms 10 ≤ s.emergencyRepeat.now := by
  obtain ⟨he, hn⟩ := emergencyRepeat_emerg hk hi hx
  refine ⟨?_, hn⟩
  rw [he, if_neg (by omega), List.getElem?_modify_eq, hx]
  rfl

theorem emergencyRepeat_third {x : List W × Nat × Nat} (hk : s.keeperSends = true)
    (hi : (s.host.emerg.findIdx? fun y => y.2.1 == 1 || y.2.1 == 2) = some i) (hx : s.host.emerg[i]? = some x) (h : x.2.1 = 2) :
    s.emergencyRepeat.host.emerg = s.host.emerg.eraseIdx i ∧ x.2.2 + ms 10 ≤ s.emergencyRepeat.now := by
  obtain ⟨he, hn⟩ := emergencyRepeat_emerg hk hi hx
  exact ⟨he.trans (if_pos h), hn⟩

end Emergency

/-- Settles O26, command by command: the period by the subscription it renews, the NOTIFY by its place in the queue, the EMERGENCY by how
often it has been sent. -/
theorem notifiesAndEmergenciesLeave : Obligations.NotifiesAndEmergenciesLeave := by
  unfold Obligations.NotifiesAndEmergenciesLeave
  refine ⟨?period, ?send, ?overflow, ?first, ?again⟩
  case period => exact fun c pcie id x s => ⟨_, rfl, notifyPeriod_renews, notifyPeriod_none⟩
  case send => exact fun c pcie n l s => ⟨_, rfl, notifySend_sends, notifySend_none⟩
  case overflow => exact fun c pcie s => ⟨_, rfl, notifyOverflow_marks, notifyOverflow_idle⟩
  case first => exact fun i s => ⟨_, rfl, emergencySend_sends, emergencySend_idle⟩
  case again => exact fun i x s => ⟨_, rfl, emergencyRepeat_second, emergencyRepeat_third, emergencyRepeat_idle⟩

end Sys2Proof.Machine
end

section
/-! What records, faults, works and bursts leave of the sessions and of the PCIe functions: all but the queues of NOTIFYs (R325, R327). -/
namespace Sys2Proof.Machine

/-- A session without its queue of NOTIFYs. -/
def Session.beside (x : Session) : Session := { x with notes := [], spilt := false }

/-- A function without its queue of NOTIFYs; one without a subscription whole, for no NOTIFY is queued for it. -/
def PcieFn.beside (x : PcieFn) : PcieFn := if x.subs = [] then x else { x with notes := [], spilt := false }

section Beside
variable (x : PcieFn)

@[simp] theorem PcieFn.beside_cls : x.beside.cls = x.cls := by unfold PcieFn.beside; split <;> rfl
@[simp] theorem PcieFn.beside_authed : x.beside.authed = x.authed := by unfold PcieFn.beside; split <;> rfl
@[simp] theorem PcieFn.beside_subs : x.beside.subs = x.subs := by unfold PcieFn.beside; split <;> rfl

variable {x}

theorem PcieFn.beside_quiet (h : x.subs = []) : x.beside = x := if_pos h

theorem PcieFn.note_beside (cause ix sub e : Nat) (data : List W) (now : Nat) :
    (x.note cause ix sub e data now).1.beside = x.beside := by
  by_cases h : x.subs = []
  · have hn : (x.note cause ix sub e data now).1 = x := by
      cases x
      cases (h : _ = [])
      simp [PcieFn.note, queueNotes]
    rw [hn]
  · exact (if_neg h).trans (if_neg h).symm

end Beside

/-- From `s` to `t` the sessions and the functions change in their queues of NOTIFYs alone. -/
structure NotesOnly (s t : State) : Prop where
  sessions  : t.host.sessions.map (Option.map Session.beside) = s.host.sessions.map (Option.map Session.beside)
  functions : t.host.pcie.map PcieFn.beside = s.host.pcie.map PcieFn.beside

section NotesOnly
variable {s t u : State}

theorem NotesOnly.refl : NotesOnly s s := ⟨rfl, rfl⟩

theorem NotesOnly.trans (h : NotesOnly s t) (g : NotesOnly t u) : NotesOnly s u :=
  ⟨g.sessions.trans h.sessions, g.functions.trans h.functions⟩

theorem NotesOnly.of_within {l : List Part} (h : Within l s t) (m : takesIn l Part.host = false) : NotesOnly s t := by
  constructor <;> rw [h.agrees.host m]

/-- One more operation, on parts without the host's side. -/
theorem NotesOnly.step {l : List Part} (h : NotesOnly s t) (g : Within l t u) (m : takesIn l Part.host = false) : NotesOnly s u :=
  h.trans (.of_within g m)

theorem NotesOnly.ite {c : Prop} [Decidable c] (ht : NotesOnly s t) (hu : NotesOnly s u) : NotesOnly s (if c then t else u) := by
  split <;> assumption

theorem NotesOnly.foldl {α : Type} {f : State → α → State} {xs : List α} (ht : NotesOnly s t) (hf : ∀ a x, NotesOnly a (f a x)) :
    NotesOnly s (xs.foldl f t) := by
  induction xs generalizing t with
  | nil => exact ht
  | cons x xs ih => exact ih (ht.trans (hf t x))

theorem withHost_notesOnly {f : HostState → HostState} (hs : ∀ h, (f h).sessions = h.sessions) (hp : ∀ h, (f h).pcie = h.pcie) :
    NotesOnly s (s.withHost f) :=
  ⟨congrArg _ (hs s.host), congrArg _ (hp s.host)⟩

theorem NotesOnly.session {α : Type} (h : NotesOnly s t) (c : Nat) (g : Session → α) (hg : ∀ y : Session, g y.beside = g y) :
    (t.session c).map g = (s.session c).map g := by
  have at_ (u : State) : ((u.host.sessions.map (Option.map Session.beside))[c]?).map (Option.map g) =
      (u.host.sessions[c]?).map (Option.map g) := by
    rw [List.getElem?_map, Option.map_map]
    congr 1
    funext x
    simp only [Function.comp_apply, Option.map_map]
    exact congrArg (Option.map · x) (funext hg)
  have hc : (t.host.sessions[c]?).map (Option.map g) = (s.host.sessions[c]?).map (Option.map g) := by rw [← at_ t, h.sessions, at_ s]
  simp only [State.session, List.getD_eq_getElem?_getD]
  cases ht : t.host.sessions[c]? <;> cases hs : s.host.sessions[c]? <;> simp_all

theorem NotesOnly.function (h : NotesOnly s t) (f : Nat) : (t.host.pcie[f]?).map PcieFn.beside = (s.host.pcie[f]?).map PcieFn.beside := by
  rw [← List.getElem?_map, h.functions, List.getElem?_map]

/-- A function stands where it stood. -/
theorem NotesOnly.function_some {f : Nat} {x : PcieFn} (h : NotesOnly s t) (hx : s.host.pcie[f]? = some x) :
    ∃ y, t.host.pcie[f]? = some y ∧ y.beside = x.beside := by
  have hf := h.function f
  rw [hx] at hf
  exact Option.map_eq_some_iff.1 hf

/-- One that has no subscription is as it was. -/
theorem NotesOnly.function_quiet {f : Nat} {x : PcieFn} (h : NotesOnly s t) (hx : s.host.pcie[f]? = some x) (hq : x.subs = []) :
    t.host.pcie[f]? = some x := by
  obtain ⟨y, hy, hb⟩ := h.function_some hx
  have hs : y.subs = [] := by rw [← y.beside_subs, hb, x.beside_subs, hq]
  rw [hy, ← PcieFn.beside_quiet hs, hb, PcieFn.beside_quiet hq]

end NotesOnly

/-! ### Notifications, records and faults -/

theorem notifySub_notesOnly (s : State) (ix sub e : Nat) : NotesOnly s (s.notifySub ix sub e) := by
  unfold State.notifySub
  split
  · exact .refl
  · extract_lets data ss ps drops queued
    have hq : NotesOnly s queued := by
      refine ⟨?_, ?_⟩
      · change ((s.host.sessions.map _).map _).map _ = _
        rw [List.map_map, List.map_map]
        exact List.map_congr_left fun x _ => by cases x <;> rfl
      · change ((s.host.pcie.map _).map _).map _ = _
        rw [List.map_map, List.map_map]
        exact List.map_congr_left fun x _ => PcieFn.note_beside ..
    exact .ite hq (hq.step (bump_within ..) rfl)

theorem notify_notesOnly (s : State) (ix e : Nat) : NotesOnly s (s.notify ix e) := notifySub_notesOnly ..

theorem emergency_notesOnly (s : State) (r : Rec) : NotesOnly s (s.emergency r) := ⟨rfl, rfl⟩

theorem writeRec_notesOnly (s : State) (n : NewRec) : NotesOnly s (s.writeRec n).1 := by
  unfold State.writeRec
  extract_lets +onlyGivenNames -merge merge
  clear_value merge
  split
  · split
    · exact .refl
    · extract_lets +onlyGivenNames -merge r merged
      have hm : NotesOnly s merged := .of_within (withEv_within ..) rfl
      exact .ite ((hm.step (withEv_within ..) rfl).trans (emergency_notesOnly ..)) hm
  · extract_lets +onlyGivenNames -merge seq r clk counted stored
    have hs : NotesOnly s stored := .trans (t := counted) ⟨rfl, rfl⟩ (.of_within (store_within ..) rfl)
    exact .ite (hs.trans (emergency_notesOnly ..)) hs

theorem tellRecord_notesOnly (s : State) (f : FaultRun) : NotesOnly s (s.tellRecord f) := by
  unfold State.tellRecord
  split
  · exact notify_notesOnly ..
  · exact .refl

theorem isolateDie_notesOnly (s : State) (d code seq : Nat) (handed : Bool) : NotesOnly s (s.isolateDie d code seq handed) := by
  unfold State.isolateDie
  extract_lets q dropped counted isolated told w f opened
  have hi : NotesOnly s isolated := ((NotesOnly.of_within (withMgr_within ..) rfl).step (bump_within ..) rfl).step (withSys_within ..) rfl
  have ht : NotesOnly s told := ((hi.step (setFld_within ..) rfl).step (relays_within _) rfl).trans (notify_notesOnly ..)
  have hw : NotesOnly s w.1 := ht.trans (writeRec_notesOnly ..)
  have ho : NotesOnly s opened := (hw.step (withMgr_within ..) rfl).trans (tellRecord_notesOnly ..)
  exact .ite .refl (ho.step (driveFault_within _) rfl)

theorem raiseSeq_notesOnly (s : State) (code : Nat) (l : Level) (die p1 p2 p3 : Nat) (byHandler : Bool) :
    NotesOnly s (s.raiseSeq code l die p1 p2 p3 byHandler).1 := by
  unfold State.raiseSeq
  extract_lets u l1 m t l2 esc old w toldDie written f accepted told escalated merged out isolated driven
  have ha : NotesOnly s accepted := (writeRec_notesOnly ..).step (withMgr_within ..) rfl
  have ht : NotesOnly s told := .ite (ha.trans (tellRecord_notesOnly ..)) ha
  have he : NotesOnly s escalated := .ite (ht.step (bump_within ..) rfl) ht
  have hm : NotesOnly s merged := .ite (he.step (bump_within ..) rfl) he
  have ho : NotesOnly s out := .ite (hm.step (takeOut_within ..) rfl) hm
  have hi : NotesOnly s isolated := .ite (ho.trans (isolateDie_notesOnly ..)) ho
  have hd : NotesOnly s driven := hi.step (driveFault_within _) rfl
  exact .ite hd (hd.trans (notify_notesOnly ..))

theorem raise_notesOnly (s : State) (code die p1 p2 p3 : Nat) : NotesOnly s (s.raise code die p1 p2 p3) := raiseSeq_notesOnly ..

/-- A violation's record (R337) reaches the queues of those who have subscribed to it. -/
theorem recordViolation_notesOnly (s : State) (rq : Req) (st : Status) (ix sub addr : Nat) :
    NotesOnly s (s.recordViolation rq st ix sub addr) := by
  unfold State.recordViolation
  extract_lets +onlyGivenNames -merge n w0 r first second third
  have hr : NotesOnly s r.1 := raiseSeq_notesOnly ..
  clear_value r
  have ht : NotesOnly s third := by
    refine .step (.step (.step hr (setWord_within ..) rfl) (setWord_within ..) rfl) (setWord_within ..) rfl
  exact ht.trans (withHost_notesOnly (fun _ => rfl) fun _ => rfl)

/-! ### The open salvos of a context (R83) -/

theorem setOutcome_notesOnly (s : State) (x : Work) (st n : Nat) : NotesOnly s (s.setOutcome x st n) := by
  unfold State.setOutcome
  extract_lets worded
  have hw : NotesOnly s worded := by
    unfold worded
    cases x.kind <;> exact ⟨rfl, rfl⟩
  refine .ite hw ?_
  cases x.kind
  case salvo => exact hw
  all_goals exact hw.trans (notify_notesOnly ..)

theorem finishAs_notesOnly (s : State) (x : Work) (st : Nat) {out : State → State} (ho : ∀ a, NotesOnly a (out a)) :
    NotesOnly s (s.finishAs x st out) := by
  unfold State.finishAs
  extract_lets ended counted dropped flat unmade
  have he : NotesOnly s ended := (NotesOnly.of_within (dropWork_within ..) rfl).trans (ho _)
  have hc : NotesOnly s counted := he.step (countTake_within ..) rfl
  have hd : NotesOnly s dropped := .ite hc (hc.step (dropImages_within ..) rfl)
  have hf : NotesOnly s flat := .ite (.ite hd (hd.step (setFld_within ..) rfl)) hc
  have hu : NotesOnly s unmade := .ite hf (hf.step (unmake_within ..) rfl)
  exact .ite (hu.trans (raise_notesOnly ..)) (.ite (hu.trans (raise_notesOnly ..)) hu)

theorem fail_notesOnly (s : State) (x : Work) (st : Nat) : NotesOnly s (s.fail x st) :=
  .ite (finishAs_notesOnly _ _ _ fun a => (NotesOnly.of_within (takeFree_within a) rfl).trans (setOutcome_notesOnly ..))
    (finishAs_notesOnly _ _ _ fun _ => setOutcome_notesOnly ..)

theorem endSalvo_notesOnly (s : State) (n st result culprit : Nat) : NotesOnly s (s.endSalvo n st result culprit) := by
  unfold State.endSalvo
  extract_lets worded told
  have hw : NotesOnly s worded := ⟨rfl, rfl⟩
  have ht : NotesOnly s told := (hw.step (dropSalvo_within ..) rfl).trans (notify_notesOnly ..)
  exact .ite (ht.trans (raise_notesOnly ..)) ht

theorem closeSalvos_notesOnly (s : State) (c : Nat) : NotesOnly s (s.closeSalvos c) :=
  .foldl .refl fun a n => by
    have hf : NotesOnly a (a.failSalvo n tsCANCELLED (fun _ => none) tsCANCELLED) := by
      unfold State.failSalvo
      exact (NotesOnly.foldl .refl fun _ _ => fail_notesOnly ..).trans (endSalvo_notesOnly ..)
    exact hf.step (tellTwin_within _) rfl

/-! ### Bursts (R351, R354, R357) -/

theorem logAbort_notesOnly (s : State) (d : Nat) (b : Burst) (cleared : Bool) : NotesOnly s (s.logAbort d b cleared) := by
  unfold State.logAbort
  extract_lets k w0 r logged
  have hl : NotesOnly s logged := ((raiseSeq_notesOnly ..).step (setWord_within ..) rfl).step (setWord_within ..) rfl
  exact hl.trans ⟨rfl, rfl⟩

theorem accessError_notesOnly (s : State) (d master addr len : Nat) (write : Bool) :
    NotesOnly s (s.accessError d master addr len write) := by
  unfold State.accessError
  extract_lets f t s1 s2
  have h1 : NotesOnly s s1 := .ite .refl (.of_within (takeFree_within s) rfl)
  have h2 : NotesOnly s s2 := (h1.step (bump_within ..) rfl).step (answered_within ..) rfl
  exact h2.trans (raise_notesOnly ..)

theorem pieceFails_notesOnly (s : State) (target : Nat) (x : Piece) : NotesOnly s (s.pieceFails target x) := by
  unfold State.pieceFails
  extract_lets +onlyGivenNames -merge mine ic cut counted
  have hc : NotesOnly s cut := .of_within (set_ic_within ..) rfl
  exact ((hc.step (bump_within ..) rfl).step (answered_within ..) rfl).trans (logAbort_notesOnly ..)

theorem bridgePiece_notesOnly (s : State) (t : Nat) (x : Piece) : NotesOnly s (s.bridgePiece t x) := by
  unfold State.bridgePiece
  extract_lets +onlyGivenNames -merge d y
  exact .ite (.of_within (set_ic_within ..) rfl) (accessError_notesOnly ..)

theorem grant_notesOnly (s : State) (port t : Nat) (x : Piece) : NotesOnly s (s.grant port t x) := by
  unfold State.grant
  extract_lets +onlyGivenNames -merge n wait aged counted longest older ic taken
  have ho : NotesOnly s older := by
    have hl : NotesOnly s longest := (NotesOnly.of_within (bump_within ..) rfl).step (setFld_within ..) rfl
    exact .ite (hl.step (bump_within ..) rfl) hl
  have ht : NotesOnly s taken := ho.step (set_ic_within ..) rfl
  exact ht.trans (.ite (bridgePiece_notesOnly ..) (.ite (pieceFails_notesOnly ..) (.of_within (carriedPiece_within ..) rfl)))

theorem runPort_notesOnly (s : State) (port fuel : Nat) : NotesOnly s (s.runPort port fuel) := by
  induction fuel generalizing s with
  | zero => exact .refl
  | succ fuel ih =>
    unfold State.runPort
    extract_lets p
    split
    · exact .refl
    · refine .ite .refl ?_
      split
      · exact .refl
      · exact (grant_notesOnly ..).trans (ih _)

theorem resetMaster_notesOnly (s : State) (d master : Nat) : NotesOnly s (s.resetMaster d master) := by
  unfold State.resetMaster
  extract_lets +onlyGivenNames -merge ran mine cut cleared old ic
  have hr : NotesOnly s ran := (NotesOnly.foldl .refl fun _ _ => runPort_notesOnly ..).step (expireMonitors_within ..) rfl
  have hd : NotesOnly s ({ ran with ic := ic }.dropMonitors mine) :=
    (hr.step (set_ic_within ..) rfl).step (dropMonitors_within ..) rfl
  exact .foldl hd fun _ _ => logAbort_notesOnly ..

end Sys2Proof.Machine
end

section
/-! A session that opens the context it is of is refused, and keeps the response (R316, R320), which the statement about sessions denies. -/
namespace Sys2Proof.Machine

/-- An open for context 1, sent on session 7 of that context. -/
def openOwn : Ncp := Tests.ncp 7 .operate
def openOwnReq : Req := ⟨1, .operate, .secure, .busA, 7, 1⟩
/-- Session number 9 with ceiling CONFIGURE, for context 1. -/
def openOwnBlob : List Byte := [0, 9, 1, 1, 0, 30, 0, 0]

/-- The message is served: it is of an open session, and no repetition. -/
theorem openOwn_served : Tests.session.alive = true ∧ Tests.session.listens openOwn.att = true ∧
    Tests.session.reqOf openOwn = some openOwnReq ∧ Tests.session.keptFor openOwn = none ∧
    Tests.session.awaited openOwn = false := by decide +kernel

/-- It passes the common checks, but context 1 is not enabled. -/
theorem openOwn_refused :
    Tests.session.passes openOwnReq (putOpen ⟨0x6010, 1, 0⟩ (some openOwn) openOwnBlob).1 = true ∧
      Tests.session.fld F.CT_CONTEXT_EN (byteAt openOwnBlob 2) = 0 := by decide +kernel

/-- The session keeps the response AUTH; no die is isolated. -/
theorem openOwn_keeps (u : State) (hu : u = Tests.session.ncpWrite openOwn [⟨Addr.sent ⟨0x6010, 1, 0⟩, 10, openOwnBlob⟩]) :
    ((u.session (byteAt openOwnBlob 2)).map fun x => x.kept.length) = some 1 ∧ u.settleIsolated.sys.isolated = [] := by
  subst hu
  decide +kernel

theorem session_keeps_none : ((Tests.session.session (byteAt openOwnBlob 2)).map fun x => x.kept.length) = some 0 := by decide +kernel

/-- Refutes O25: the context of a refused open is that of the session that sent it, whose kept responses grow by the refusal (R316). -/
theorem not_sessionsOpenAndClose : ¬ Obligations.SessionsOpenAndClose := by
  unfold Obligations.SessionsOpenAndClose
  rintro ⟨hopen, -, -⟩
  obtain ⟨t, he, -, -, -, -, -, hauth, -⟩ :=
    hopen openOwn openOwnReq (bareResp .ok) openOwnBlob (0, ⟨0, .operate, 0, .bus 0, 0, 0, 0, .bus 0, [], 0, 0, [], false, []⟩) Tests.session
  obtain ⟨halive, hlistens, hreq, hkept, hawaited⟩ := openOwn_served
  obtain ⟨hpasses, hen⟩ := openOwn_refused
  obtain ⟨hsame, -⟩ := hauth halive hlistens hreq hkept hawaited hpasses (by decide) fun h => absurd (hen.symm.trans h.1) (by decide)
  obtain ⟨hgrown, hwhole⟩ := openOwn_keeps _ rfl
  have hu := Host.Outcome.next.inj he
  have ht : t = Tests.session.ncpWrite openOwn [⟨Addr.sent ⟨0x6010, 1, 0⟩, 10, openOwnBlob⟩] := by
    rw [← settleIsolated_whole hwhole, hu]
    exact (settleIsolated_whole (hu ▸ hwhole)).symm
  rw [← ht, hsame, session_keeps_none] at hgrown
  exact absurd hgrown (by decide)

end Sys2Proof.Machine
end

section
/-! How a request over NCP is taken (R316, R320): its frame leaves the attachment and its session is touched, and all that judges it is as
it was. -/
namespace Sys2Proof.Machine

/-- From `s` to `t` a request was noted: the domains it wakes, and on the host's side the frame and the session it came on. -/
structure Noted (s t : State) : Prop where
  rest    : ∃ p x, t = { s with pw := p, host := x }
  kept0   : t.host.kept0 = s.host.kept0
  waiting : t.host.waiting = s.host.waiting
  pcie    : t.host.pcie = s.host.pcie
  session : ∃ f : Nat → Session → Session, (∀ c y, ∃ a b, f c y = { y with lastReq := a, lastAtt := b }) ∧
    ∀ c, t.session c = (s.session c).map (f c)

section Noted
variable {s t u : State} {h : Ncp} {rq : Req}

theorem Noted.refl (s : State) : Noted s s where
  rest := ⟨_, _, rfl⟩
  kept0 := rfl
  waiting := rfl
  pcie := rfl
  session := ⟨fun _ y => y, fun _ y => ⟨y.lastReq, y.lastAtt, rfl⟩, fun _ => by simp⟩

theorem Noted.trans (n : Noted s t) (m : Noted t u) : Noted s u where
  rest := by
    obtain ⟨_, _, ht⟩ := n.rest
    obtain ⟨_, _, hu⟩ := m.rest
    exact ⟨_, _, by rw [hu, ht]⟩
  kept0 := m.kept0.trans n.kept0
  waiting := m.waiting.trans n.waiting
  pcie := m.pcie.trans n.pcie
  session := by
    obtain ⟨f, hf, ht⟩ := n.session
    obtain ⟨g, hg, hu⟩ := m.session
    refine ⟨fun c y => g c (f c y), fun c y => ?_, fun c => by rw [hu, ht, Option.map_map]; rfl⟩
    obtain ⟨a, b, hb⟩ := hf c y
    obtain ⟨a', b', hb'⟩ := hg c (f c y)
    exact ⟨a', b', hb'.trans (by rw [hb])⟩

/-- The session of a number stays that of the number. -/
theorem sessionOf_map {f : Nat → Session → Session} (hf : ∀ c y, (f c y).number = y.number)
    (ht : ∀ c, t.session c = (s.session c).map (f c)) (n : Nat) :
    t.sessionOf n = (s.sessionOf n).map fun x => (x.1, f x.1.val x.2) := by
  rw [State.sessionOf, State.sessionOf, List.map_findSome?]
  congr 1
  funext c
  rw [ht, Function.comp_apply]
  cases s.session c.val with
  | none => rfl
  | some y =>
    simp only [Option.map_some, hf]
    split <;> rfl

theorem Noted.sessionOf (n : Noted s t) (k : Nat) : ∃ f : Nat → Session → Session, (∀ c y, ∃ a b, f c y = { y with lastReq := a, lastAtt := b }) ∧
    t.sessionOf k = (s.sessionOf k).map fun x => (x.1, f x.1.val x.2) := by
  obtain ⟨f, hf, ht⟩ := n.session
  refine ⟨f, hf, sessionOf_map (fun c y => ?_) ht k⟩
  obtain ⟨a, b, hb⟩ := hf c y
  rw [hb]

theorem Noted.session_some (n : Noted s t) {c : Nat} {y : Session} (hy : s.session c = some y) :
    ∃ a b, t.session c = some { y with lastReq := a, lastAtt := b } := by
  obtain ⟨f, hf, ht⟩ := n.session
  obtain ⟨a, b, hb⟩ := hf c y
  exact ⟨a, b, by rw [ht, hy, Option.map_some, hb]⟩

/-! What judges a request is as it was. -/

theorem Noted.clk (n : Noted s t) : t.clk = s.clk := by obtain ⟨_, _, rfl⟩ := n.rest; rfl
theorem Noted.now (n : Noted s t) : t.now = s.now := congrArg Clk.mono n.clk
theorem Noted.tw (n : Noted s t) : t.tw = s.tw := by obtain ⟨_, _, rfl⟩ := n.rest; rfl
theorem Noted.fld (n : Noted s t) (f : Fld) (e : Nat) : t.fld f e = s.fld f e := by obtain ⟨_, _, rfl⟩ := n.rest; rfl
theorem Noted.passes (n : Noted s t) (x : HostWrite) : t.passes rq x = s.passes rq x := by obtain ⟨_, _, rfl⟩ := n.rest; rfl
theorem Noted.judgeWire (n : Noted s t) (x : WireAddr) : t.judgeWire rq x = s.judgeWire rq x := by obtain ⟨_, _, rfl⟩ := n.rest; rfl

theorem Noted.reqOf (n : Noted s t) : t.reqOf h = s.reqOf h := by
  obtain ⟨f, hf, ht⟩ := n.sessionOf h.session
  rw [State.reqOf, State.reqOf, ht]
  split
  · rfl
  · cases s.sessionOf h.session with
    | none => rfl
    | some x =>
      obtain ⟨a, b, hb⟩ := hf x.1.val x.2
      simp [hb]

theorem Noted.keptFor (n : Noted s t) : t.keptFor h = s.keptFor h := by
  obtain ⟨f, hf, ht⟩ := n.sessionOf h.session
  rw [State.keptFor, State.keptFor, ht, n.kept0, n.now]
  cases s.sessionOf h.session with
  | none => rfl
  | some x =>
    obtain ⟨a, b, hb⟩ := hf x.1.val x.2
    simp only [Option.map_some, hb]

theorem Noted.awaited (n : Noted s t) : t.awaited h = s.awaited h := by rw [State.awaited, State.awaited, n.waiting]

end Noted

theorem noted_stir (s : State) : Noted s s.stir := by
  unfold State.stir
  split
  · exact ⟨⟨_, _, rfl⟩, rfl, rfl, rfl, fun _ y => y, fun _ y => ⟨y.lastReq, y.lastAtt, rfl⟩, fun _ => Option.map_id'.symm⟩
  · exact .refl s

theorem noted_takeFrame (s : State) (h : Ncp) : Noted s (s.takeFrame h) := by
  unfold State.takeFrame
  extract_lets drop
  split
  · exact ⟨⟨_, _, rfl⟩, rfl, rfl, rfl, fun _ y => y, fun _ y => ⟨y.lastReq, y.lastAtt, rfl⟩, fun _ => Option.map_id'.symm⟩
  · exact .refl s

theorem noted_touchSession (s : State) (h : Ncp) : Noted s (s.touchSession h) := by
  unfold State.touchSession
  split
  case h_1 x _ =>
    refine ⟨⟨_, _, rfl⟩, rfl, rfl, rfl, fun c y => if c = x.1.val then { y with lastReq := s.now, lastAtt := h.att } else y,
      fun c y => ?_, fun c => ?_⟩
    · by_cases hc : c = x.1.val
      · exact ⟨_, _, if_pos hc⟩
      · exact ⟨y.lastReq, y.lastAtt, if_neg hc⟩
    · rw [session_modSession]
      by_cases hc : c = x.1.val <;> simp [hc]
  · exact .refl s

/-- The state that carries a request out. -/
abbrev State.taken (s : State) (h : Ncp) : State := (s.stir.takeFrame h).touchSession h

theorem noted_heard (s : State) (h : Ncp) : Noted s (s.stir.takeFrame h) := (noted_stir s).trans (noted_takeFrame ..)

theorem noted_taken (s : State) (h : Ncp) : Noted s (s.taken h) := (noted_heard s h).trans (noted_touchSession ..)

theorem taken_fwd (s : State) (h : Ncp) : (s.taken h).tw.fwd = s.tw.fwd := congrArg TwState.fwd (noted_taken s h).tw

end Sys2Proof.Machine
end

section
/-! What a request over NCP is answered (R316, R319, R320), whatever it asks. -/
namespace Sys2Proof.Machine

section Serve
variable {s t : State} {h : Ncp} {rq : Req} {r : Resp} {k : Req → State → Option (Resp × State)}

theorem respond_resp (s : State) (h : Ncp) (r : Resp) : (s.respond h r).host.resp = some r := by
  rw [State.respond, sendMsg_host]
  rfl

theorem respond_session (s : State) (h : Ncp) (r : Resp) (c : Nat) : (s.respond h r).session c = s.session c :=
  session_congr (congrArg HostState.sessions (sendMsg_host ..)) c

theorem serve_deaf (hd : s.alive = false ∨ s.listens h.att = false) : s.serve h k = s := by
  unfold State.serve
  exact if_pos (by simpa using hd)

theorem serve_noSession (ha : s.alive = true) (hl : s.listens h.att = true) (hr : s.reqOf h = none) :
    (s.serve h k).host.resp = some (bareResp .nosession) := by
  have hq : (s.stir.takeFrame h).reqOf h = none := (noted_heard s h).reqOf.trans hr
  unfold State.serve
  simp only [ha, hl, Bool.not_true, Bool.or_self, Bool.false_eq_true, if_false, hq, respond_resp]

/-- The state whose message is answered. -/
def State.counted (t : State) (r : Resp) : State := if r.idle then t else t.bump F.CT_NCP_STAT_RXMSG 0 1

/-- A request carried out, of an open session or of session 0: the rest of `serve`. -/
def State.carried (s : State) (h : Ncp) (rq : Req) (k : Req → State → Option (Resp × State)) : State :=
  match s.keptFor h with
  | some r => (s.bump F.CT_NCP_STAT_DUPLICATE 0 1).respond h r
  | none =>
    if s.awaited h then (s.bump F.CT_NCP_STAT_DUPLICATE 0 1).withHost fun x => { x with resp := none }
    else match k rq s with
    | none => s.bump F.CT_NCP_STAT_MALFORMED 0 1
    | some (r, t) => (t.counted r).answerMsg h r ((t.counted r).tw.fwd.drop s.tw.fwd.length)

theorem serve_carried (ha : s.alive = true) (hl : s.listens h.att = true) (hr : s.reqOf h = some rq) :
    s.serve h k = (s.taken h).carried h rq k := by
  have hq : (s.stir.takeFrame h).reqOf h = some rq := (noted_heard s h).reqOf.trans hr
  unfold State.serve
  simp only [ha, hl, Bool.not_true, Bool.or_self, Bool.false_eq_true, if_false, hq]
  rfl

theorem serve_kept (ha : s.alive = true) (hl : s.listens h.att = true) (hr : s.reqOf h = some rq) (hk : s.keptFor h = some r) :
    (s.serve h k).host.resp = some r := by
  rw [serve_carried ha hl hr]
  simp only [State.carried, (noted_taken s h).keptFor, hk, respond_resp]

theorem serve_awaited (ha : s.alive = true) (hl : s.listens h.att = true) (hr : s.reqOf h = some rq) (hk : s.keptFor h = none)
    (hw : s.awaited h = true) : (s.serve h k).host.resp = none := by
  rw [serve_carried ha hl hr]
  simp only [State.carried, (noted_taken s h).keptFor, (noted_taken s h).awaited, hk, hw, if_true, withHost_host]

/-- A request that is taken and repeats none. -/
structure NewRequest (s : State) (h : Ncp) (rq : Req) : Prop where
  alive     : s.alive = true
  listens   : s.listens h.att = true
  req       : s.reqOf h = some rq
  unkept    : s.keptFor h = none
  unawaited : s.awaited h = false

theorem serve_malformed (hf : NewRequest s h rq) (hk : k rq (s.taken h) = none) :
    (s.serve h k).fld F.CT_NCP_STAT_MALFORMED 0 =
      satAdd (2 ^ F.CT_NCP_STAT_MALFORMED.len - 1) (s.fld F.CT_NCP_STAT_MALFORMED 0) 1 := by
  rw [serve_carried hf.alive hf.listens hf.req, ← (noted_taken s h).fld]
  simp only [State.carried, (noted_taken s h).keptFor, (noted_taken s h).awaited, hf.unkept, hf.unawaited, hk, Bool.false_eq_true, if_false]
  exact fld_bump_same (f := F.CT_NCP_STAT_MALFORMED) (s.taken h) 0 1 rfl

theorem counted_host (t : State) (r : Resp) : (t.counted r).host = t.host := by unfold State.counted; split <;> rfl
theorem counted_tw (t : State) (r : Resp) : (t.counted r).tw = t.tw := by unfold State.counted; split <;> rfl

theorem counted_within (t : State) (r : Resp) : Within [0x6048] t (t.counted r) := by
  unfold State.counted
  split
  · exact .refl
  · exact bump_within t F.CT_NCP_STAT_RXMSG 0 1

/-- Where nothing was sent on to the twin, the message is answered at once. -/
theorem serve_done (hf : NewRequest s h rq) (hk : k rq (s.taken h) = some (r, t)) (hw : t.tw.fwd = s.tw.fwd) :
    s.serve h k = (((t.counted r).countNoSession r).keepResp h r).respond h r := by
  have hd : ((t.counted r).tw.fwd.drop (s.taken h).tw.fwd.length).isEmpty = true := by
    rw [counted_tw, hw, (noted_taken s h).tw]
    simp
  rw [serve_carried hf.alive hf.listens hf.req]
  simp only [State.carried, (noted_taken s h).keptFor, (noted_taken s h).awaited, hf.unkept, hf.unawaited, hk, Bool.false_eq_true, if_false]
  exact if_pos hd

theorem serve_resp (hf : NewRequest s h rq) (hk : k rq (s.taken h) = some (r, t)) (hw : t.tw.fwd = s.tw.fwd) :
    (s.serve h k).host.resp = some r := by
  rw [serve_done hf hk hw]
  exact respond_resp ..

theorem keepResp_subs (s : State) (h : Ncp) (r : Resp) (c : Nat) :
    ((s.keepResp h r).session c).map (·.subs) = (s.session c).map (·.subs) := by
  unfold State.keepResp
  extract_lets k
  split
  · rfl
  · split
    · rw [session_modSession]
      split
      · rw [Option.map_map]
        rfl
      · rfl
    · rfl

theorem countNoSession_host (s : State) (r : Resp) : (s.countNoSession r).host = s.host := by
  unfold State.countNoSession
  split <;> rfl

/-- The answer leaves the subscriptions. -/
theorem serve_subs (hf : NewRequest s h rq) (hk : k rq (s.taken h) = some (r, t)) (hw : t.tw.fwd = s.tw.fwd) (c : Nat) :
    ((s.serve h k).session c).map (·.subs) = (t.session c).map (·.subs) := by
  rw [serve_done hf hk hw, respond_session, keepResp_subs,
    session_congr (congrArg HostState.sessions ((countNoSession_host ..).trans (counted_host ..)))]

/-- The response, and what it leaves. -/
theorem serve_answered (hf : NewRequest s h rq) (hk : k rq (s.taken h) = some (r, t)) (hw : t.tw.fwd = s.tw.fwd) :
    (s.serve h k).host.resp = some r ∧ Within Parts.answerMsg t (s.serve h k) := by
  refine ⟨serve_resp hf hk hw, ?_⟩
  rw [serve_done hf hk hw]
  exact .step (.step (.step ((counted_within t r).mono rfl) (countNoSession_within ..) rfl) (keepResp_within ..) rfl) (respond_within ..) rfl

theorem serve_onSession_zero {a : Addr} (hf : NewRequest s h rq) (h0 : h.session = 0) :
    (s.serve h (onSession h a k)).host.resp = some ⟨Status.nosession.code, false, [⟨a, Status.nosession.code, 0, []⟩]⟩ :=
  serve_resp hf (t := s.taken h) (r := refusedItems [a] .nosession) (if_pos h0) (taken_fwd s h)

end Serve

end Sys2Proof.Machine
end

section
/-! READ, BLOCK-READ and the challenge (R313, R314, R320): one element read, and its answer. -/
namespace Sys2Proof.Machine

/-! ### What a read leaves of the twin -/

theorem clearWord_tw (s : State) (ix e w : Nat) (mask : W) : (s.clearWord ix e w mask).tw = s.tw := by
  unfold State.clearWord
  split
  · rfl
  · split
    · exact (monRestart_within ..).agrees.tw rfl
    · rfl

theorem clearWords_tw (s : State) (ix e : Nat) (word : Nat → Nat) (mask : W) (l : List Nat) :
    (l.foldl (fun (s : State) w => s.clearWord ix e (word w) mask) s).tw = s.tw := by
  induction l generalizing s with
  | nil => rfl
  | cons w l ih => exact (ih _).trans (clearWord_tw ..)

/-- A read sends nothing on. -/
theorem readValue_tw (s : State) (o : Obj) (e : Nat) (pcie : Bool) : (s.readValue o e pcie).2.tw = s.tw := by
  unfold State.readValue
  split
  · exact (readBytes_within ..).agrees.tw rfl
  · split
    · rfl
    · split
      · exact (clearWords_tw ..).trans ((runCrossbar_within s).agrees.tw rfl)
      · split
        · exact (crcProgress_within ..).agrees.tw rfl
        · split
          · exact (tsqPop_within ..).agrees.tw rfl
          · split
            · exact (statsTake_within ..).agrees.tw rfl
            · refine (clearWords_tw ..).trans ?_
              split <;> rfl

theorem settleAs_tw (s : State) (rq : Req) (x : WireAddr) (w : Nat) (st : Status) : (s.settleAs rq x w st).tw = s.tw :=
  (settleAs_within ..).agrees.tw rfl

/-! ### One element -/

section Read
variable {s t : State} {h : Ncp} {rq : Req} {x : WireAddr} {o : Obj} {st : Status}

theorem itemsResp_one (i : RespItem) : itemsResp [i] = ⟨i.status, false, [i]⟩ := by
  by_cases hi : i.status = 0 <;> simp [itemsResp, hi]

/-- A read that is judged good names its object, with the reserved byte 0. -/
theorem judgeWire_ok (hj : s.judgeWire rq x = .ok o) : findObj x.addr.ix x.addr.sub = some o ∧ x.res = 0 := by
  unfold State.judgeWire findElem at hj
  grind

theorem readItem_ok (hj : t.judgeWire rq x = .ok o) :
    t.readItem rq x = (⟨x.addr, 0, 1, (t.readValue o x.addr.e false).1⟩, (t.readValue o x.addr.e false).2) := by
  rw [State.readItem, hj]

theorem readItem_error (hj : t.judgeWire rq x = .error st) : t.readItem rq x = (⟨x.addr, st.code, 0, []⟩, t.settleAs rq x 0 st) := by
  rw [State.readItem, hj]

theorem readItem_tw (t : State) (rq : Req) (x : WireAddr) : (t.readItem rq x).2.tw = t.tw := by
  cases hj : t.judgeWire rq x with
  | error st => rw [readItem_error hj, settleAs_tw]
  | ok o => rw [readItem_ok hj, readValue_tw]

theorem pad4_le {n : Nat} (hn : n ≤ 1440) : pad4 n ≤ 1440 := by
  unfold pad4
  omega

theorem readBytesOf_le (ho : ∀ o, t.judgeWire rq x = .ok o → o.size x.addr.e ≤ 1440) : t.readBytesOf rq x ≤ 1456 := by
  cases hj : t.judgeWire rq x with
  | error st => simp [State.readBytesOf, hj]
  | ok o =>
    have hp := pad4_le (ho o hj)
    simp only [State.readBytesOf, hj]
    omega

/-! ### READ -/

/-- A READ of one item that its session may read, and that fits a response. -/
theorem ncpRead_item (hf : NewRequest s h rq) (ha : ¬(h.session = 0 ∧ admitRead x.addr = false))
    (ho : ∀ o, s.judgeWire rq x = .ok o → o.size x.addr.e ≤ 1440) :
    (s.ncpRead h [x]).host.resp =
      some ⟨((s.taken h).readItem rq x).1.status, false, [((s.taken h).readItem rq x).1]⟩ := by
  rw [← itemsResp_one]
  refine serve_resp hf (t := ((s.taken h).readItem rq x).2) ?_ (congrArg _ ((readItem_tw ..).trans (noted_taken s h).tw))
  have hsize : ¬ 1456 < (s.taken h).readBytesOf rq x := not_lt.2 (readBytesOf_le fun o hj => ho o ((noted_taken s h).judgeWire x ▸ hj))
  simp [State.readItems, ha, hsize]

theorem ncpRead_ok (hf : NewRequest s h rq) (ha : ¬(h.session = 0 ∧ admitRead x.addr = false)) (hj : s.judgeWire rq x = .ok o)
    (ho : o.size x.addr.e ≤ 1440) :
    (s.ncpRead h [x]).host.resp = some ⟨0, false, [⟨x.addr, 0, 1, ((s.taken h).readValue o x.addr.e false).1⟩]⟩ := by
  rw [ncpRead_item hf ha (fun o' ho' => by rw [hj] at ho'; cases ho'; exact ho), readItem_ok (((noted_taken s h).judgeWire x).trans hj)]

theorem ncpRead_error (hf : NewRequest s h rq) (ha : ¬(h.session = 0 ∧ admitRead x.addr = false)) (hj : s.judgeWire rq x = .error st) :
    (s.ncpRead h [x]).host.resp = some ⟨st.code, false, [⟨x.addr, st.code, 0, []⟩]⟩ := by
  rw [ncpRead_item hf ha (fun o ho => by rw [hj] at ho; cases ho), readItem_error (((noted_taken s h).judgeWire x).trans hj)]

theorem ncpRead_barred (hf : NewRequest s h rq) (h0 : h.session = 0) (ha : admitRead x.addr = false) :
    (s.ncpRead h [x]).host.resp = some ⟨Status.nosession.code, false, [⟨x.addr, Status.nosession.code, 0, []⟩]⟩ := by
  refine serve_resp hf (t := s.taken h) (r := itemsResp [noSessionItem x.addr]) ?_ (taken_fwd s h)
  simp [State.readItems, h0, ha]

theorem ncpRead_malformed {l : List WireAddr} (hf : NewRequest s h rq) (hl : l = [] ∨ 64 < l.length) :
    (s.ncpRead h l).fld F.CT_NCP_STAT_MALFORMED 0 =
      satAdd (2 ^ F.CT_NCP_STAT_MALFORMED.len - 1) (s.fld F.CT_NCP_STAT_MALFORMED 0) 1 :=
  serve_malformed hf (if_pos (by simpa using hl))

/-! ### The challenge -/

/-- `CT_SESSION.03` holds bytes, as many as fit a response. -/
theorem challengeObj (ho : findObj 0x6010 3 = some o) : o.typ.isBytes = true ∧ o.ix = 0x6010 ∧ o.size 0 ≤ 1440 := by
  have he : findObj 0x6010 3 = some (Tests.obj 0x6010 3) := by decide +kernel
  cases he.symm.trans ho
  decide +kernel

theorem readValue_challenge (ho : findObj 0x6010 3 = some o) (pcie : Bool) : (t.readValue o 0 pcie).1 = t.hostChallenge.1 := by
  obtain ⟨hb, hix, -⟩ := challengeObj ho
  simp only [State.readValue, hb, if_true, hix, State.readBytes, List.drop_zero]

theorem challengeRead_ok (hf : NewRequest s h rq) (ha : s.acceptsRead rq ⟨0x6010, 3, 0⟩ = true) :
    (s.ncpRead h [Addr.sent ⟨0x6010, 3, 0⟩]).host.resp = some ⟨0, false, [⟨⟨0x6010, 3, 0⟩, 0, 1, (s.taken h).hostChallenge.1⟩]⟩ := by
  cases hj : s.judgeWire rq (Addr.sent ⟨0x6010, 3, 0⟩) with
  | error st => simp [State.acceptsRead, State.judgeRead, hj] at ha
  | ok o =>
    obtain ⟨ho, -⟩ := judgeWire_ok hj
    obtain ⟨-, -, hsize⟩ := challengeObj ho
    rw [ncpRead_ok hf (fun hn => absurd hn.2 (by decide)) hj hsize]
    exact congrArg (fun d => some (⟨0, false, [⟨⟨0x6010, 3, 0⟩, 0, 1, d⟩]⟩ : Resp)) (readValue_challenge ho false)

/-! ### BLOCK-READ -/

theorem blockElems_one (hj : t.judgeWire rq x = .ok o) :
    t.blockElems rq o 1 x.addr.e [] 0 = ((t.readValue o x.addr.e false).1, 1, (t.readValue o x.addr.e false).2) := by
  obtain ⟨hfind, hres⟩ := judgeWire_ok hj
  obtain ⟨-, hix, hsub⟩ := findObj_spec hfind
  have hr : t.judgeRead rq ⟨o.ix, o.sub, x.addr.e⟩ = .ok o := by
    rw [hix, hsub, State.judgeRead, Addr.sent, ← hres]
    exact hj
  simp [State.blockElems, hr]

theorem ncpBlockRead_one (hf : NewRequest s h rq) (hs : h.session ≠ 0) (hj : s.judgeWire rq x = .ok o) (hb : o.typ.isBytes = false)
    (hle : o.size 0 ≤ 1440) (hpos : 0 < o.size 0) :
    (s.ncpBlockRead h x 1).host.resp = some ⟨0, false, [⟨x.addr, 0, 1, ((s.taken h).readValue o x.addr.e false).1⟩]⟩ := by
  have hj' := ((noted_taken s h).judgeWire x).trans hj
  have hone : min 1 (1440 / o.size 0) = 1 := Nat.min_eq_left (Nat.div_pos hle hpos)
  refine serve_resp hf (t := ((s.taken h).readValue o x.addr.e false).2) ?_ (congrArg _ ((readValue_tw ..).trans (noted_taken s h).tw))
  simp [onSession, hs, hj', hb, hone, blockElems_one hj']

theorem ncpBlockRead_error {n : Nat} (hf : NewRequest s h rq) (hs : h.session ≠ 0) (hj : s.judgeWire rq x = .error st) :
    (s.ncpBlockRead h x n).host.resp = some ⟨st.code, 0 < n, [⟨x.addr, st.code, 0, []⟩]⟩ := by
  have hj' := ((noted_taken s h).judgeWire x).trans hj
  refine serve_resp hf (t := (s.taken h).settleAs rq x 0 st) ?_ (congrArg _ ((settleAs_tw ..).trans (noted_taken s h).tw))
  simp [onSession, hs, hj']

end Read
end Sys2Proof.Machine
end

section
/-! WRITE and BLOCK-WRITE (R313, R314): one item, one lease taken, and the answer. -/
namespace Sys2Proof.Machine

section Write
variable {s t : State} {h : Ncp} {rq : Req} {x : WItem} {e : Nat} {st : Status}

/-! ### WRITE -/

theorem ncpWrite_item (hf : NewRequest s h rq) (ha : ¬(h.session = 0 ∧ admitWrite x.at_.addr = false)) (hl : x.val.length ≤ 1440)
    (hw : ((s.taken h).writeItem rq h x).2.tw.fwd = s.tw.fwd) :
    (s.ncpWrite h [x]).host.resp = some ⟨((s.taken h).writeItem rq h x).1.code, false,
      [⟨x.at_.addr, ((s.taken h).writeItem rq h x).1.code, 0, []⟩]⟩ ∧
    Within Parts.answerMsg ((s.taken h).writeItem rq h x).2 (s.ncpWrite h [x]) := by
  have hsize : ¬ 1456 < 12 + pad4 x.val.length := not_lt.2 (Nat.add_le_add_left ((pad4_le hl).trans (by decide : 1440 ≤ 1444)) 12)
  refine serve_answered hf ?_ hw
  simp [State.writeItems, ha, hsize, itemsResp_one]

theorem ncpWrite_barred (hf : NewRequest s h rq) (h0 : h.session = 0) (ha : admitWrite x.at_.addr = false) (hl : x.val.length ≤ 1440) :
    (s.ncpWrite h [x]).host.resp = some ⟨Status.nosession.code, false, [⟨x.at_.addr, Status.nosession.code, 0, []⟩]⟩ := by
  have hsize : ¬ 1456 < 12 + pad4 x.val.length := not_lt.2 (Nat.add_le_add_left ((pad4_le hl).trans (by decide : 1440 ≤ 1444)) 12)
  refine serve_resp hf (t := s.taken h) (r := itemsResp [noSessionItem x.at_.addr]) ?_ (taken_fwd s h)
  simp [State.writeItems, h0, ha, hsize]

theorem ncpWrite_malformed {l : List WItem} (hf : NewRequest s h rq) (hl : l = [] ∨ 64 < l.length) :
    (s.ncpWrite h l).fld F.CT_NCP_STAT_MALFORMED 0 =
      satAdd (2 ^ F.CT_NCP_STAT_MALFORMED.len - 1) (s.fld F.CT_NCP_STAT_MALFORMED 0) 1 :=
  serve_malformed hf (if_pos (by obtain hl | hl := hl <;> simp [hl]))

/-! ### A lease taken -/

/-- A lease in the dictionary. -/
def leaseObj : Obj := ⟨0x6030, 0, .u8, [.rw], 15, 7, [.saved], .base, .lease, [0], false⟩

theorem findObj_lease : findObj 0x6030 0 = some leaseObj := by decide +kernel

/-- The item that takes the lease of an element. -/
abbrev leaseItem (e : Nat) : WItem := ⟨⟨⟨0x6030, 0, e⟩, 0⟩, 1, [1]⟩

theorem itemFits_lease (e : Nat) : itemFits leaseObj (leaseItem e) = true := by
  have hb : leaseObj.typ.isBytes = false := by decide
  simp only [itemFits, Obj.size, hb, Bool.false_eq_true, if_false]
  rfl

theorem putItem_lease (t : State) (rq : Req) (h : Ncp) (e : Nat) : putItem t rq h (leaseItem e) = putLease rq e 1 := by
  have hwords : itemWords leaseObj (leaseItem e) = [(0, 1)] := by
    have hs : itemWords leaseObj (leaseItem 0) = [(0, 1)] := by decide
    exact hs
  have hb : leaseObj.typ.isBytes = false := by decide
  simp only [putItem, findObj_lease, itemFits_lease, hwords, hb]
  rfl

theorem settleAs_ok (s : State) (rq : Req) (x : WireAddr) (w : Nat) : s.settleAs rq x w .ok = s := by
  simp [State.settleAs, Status.violation, Status.code]

theorem putLease_free (hfree : t.fld F.CT_LEASE_HELD e = 1 → t.fld F.CT_LEASE_CTX e = rq.ctx.val) :
    (putLease rq e 1).2 t = (.ok, t.putWord 0x6030 e 0 (BitVec.ofNat 64 (128 + rq.ctx.val))) := by
  have hf : (t.fld F.CT_LEASE_HELD e == 1 && !(t.fld F.CT_LEASE_HELD e == 1 && t.fld F.CT_LEASE_CTX e == rq.ctx.val)) = false := by
    by_cases hh : t.fld F.CT_LEASE_HELD e = 1
    · simp [hh, hfree hh]
    · simp [hh]
  simp only [putLease, if_true]
  rw [hf]
  rfl

/-- A lease that is free is taken, whatever request of NCP carries the item. -/
theorem writeItem_lease (hp : s.passes rq (putLease rq e 1).1 = true)
    (hfree : s.fld F.CT_LEASE_HELD e = 1 → s.fld F.CT_LEASE_CTX e = rq.ctx.val) :
    (s.taken h).writeItem rq h (leaseItem e) = (.ok, (s.taken h).putWord 0x6030 e 0 (BitVec.ofNat 64 (128 + rq.ctx.val))) := by
  have hn := noted_taken s h
  rw [State.writeItem, putItem_lease, State.wireWrite, judgeWrite_passes _ ((hn.passes _).trans hp),
    putLease_free (by rw [hn.fld, hn.fld]; exact hfree), settleAs_ok]

/-- What holds a context's lease reads so. -/
theorem lease_fields (hw : t.word 0x6030 e 0 = BitVec.ofNat 64 (128 + rq.ctx.val)) :
    t.fld F.CT_LEASE_HELD e = 1 ∧ t.fld F.CT_LEASE_CTX e = rq.ctx.val := by
  have hlt : rq.ctx.val < 4 := rq.ctx.isLt
  refine ⟨(fld_of_word (f := F.CT_LEASE_HELD) hw).trans ?_, (fld_of_word (f := F.CT_LEASE_CTX) hw).trans ?_⟩
  · rw [Fld.of, getBits_ofNat _ (by decide)]
    show (128 + rq.ctx.val) / 2 ^ 7 % 2 ^ 1 = 1
    omega
  · rw [Fld.of, getBits_ofNat _ (by decide)]
    show (128 + rq.ctx.val) / 2 ^ 0 % 2 ^ 2 = rq.ctx.val
    omega

/-- The answer leaves the lease as it was taken. -/
theorem lease_held {v : State} (hv : Within Parts.answerMsg (t.putWord 0x6030 e 0 (BitVec.ofNat 64 (128 + rq.ctx.val))) v) :
    v.fld F.CT_LEASE_HELD e = 1 ∧ v.fld F.CT_LEASE_CTX e = rq.ctx.val :=
  lease_fields ((hv.word_eq rfl e 0).trans (word_putWord_same _ e 0 _ rfl))

theorem lease_fwd (s : State) (h : Ncp) (e : Nat) (v : W) : ((s.taken h).putWord 0x6030 e 0 v).tw.fwd = s.tw.fwd := by
  rw [(putWord_within ..).agrees.tw rfl, taken_fwd]

theorem ncpWrite_lease (hf : NewRequest s h rq) (hs : h.session ≠ 0) (hp : s.passes rq (putLease rq e 1).1 = true)
    (hfree : s.fld F.CT_LEASE_HELD e = 1 → s.fld F.CT_LEASE_CTX e = rq.ctx.val) :
    (s.ncpWrite h [leaseItem e]).fld F.CT_LEASE_HELD e = 1 ∧ (s.ncpWrite h [leaseItem e]).fld F.CT_LEASE_CTX e = rq.ctx.val ∧
      (s.ncpWrite h [leaseItem e]).host.resp = some ⟨0, false, [⟨⟨0x6030, 0, e⟩, 0, 0, []⟩]⟩ := by
  have hi := writeItem_lease (h := h) hp hfree
  obtain ⟨hresp, hwithin⟩ := ncpWrite_item (x := leaseItem e) hf (fun hn => hs hn.1) (by decide : 1 ≤ 1440)
    (by rw [hi]; exact lease_fwd s h e _)
  rw [hi] at hresp hwithin
  obtain ⟨hheld, hctx⟩ := lease_held hwithin
  exact ⟨hheld, hctx, hresp⟩

/-! ### BLOCK-WRITE -/

theorem ncpBlockWrite_lease (hf : NewRequest s h rq) (hs : h.session ≠ 0) (hp : s.passes rq (putLease rq e 1).1 = true)
    (hfree : s.fld F.CT_LEASE_HELD e = 1 → s.fld F.CT_LEASE_CTX e = rq.ctx.val) :
    let u := s.ncpBlockWrite h ⟨⟨0x6030, 0, e⟩, 0⟩ 1 [[1]]
    u.fld F.CT_LEASE_HELD e = 1 ∧ u.fld F.CT_LEASE_CTX e = rq.ctx.val ∧ u.host.resp = some ⟨0, false, [⟨⟨0x6030, 0, e⟩, 0, 1, []⟩]⟩ := by
  intro u
  have hi := writeItem_lease (h := h) hp hfree
  obtain ⟨hresp, hwithin⟩ : u.host.resp = some ⟨0, false, [⟨⟨0x6030, 0, e⟩, 0, 1, []⟩]⟩ ∧
      Within Parts.answerMsg ((s.taken h).putWord 0x6030 e 0 (BitVec.ofNat 64 (128 + rq.ctx.val))) u := by
    refine serve_answered hf ?_ (lease_fwd s h e _)
    have hone : (s.taken h).writeElems rq h 1 [[1]] ⟨⟨0x6030, 0, e⟩, 0⟩ 0 =
        (.ok, 1, (s.taken h).putWord 0x6030 e 0 (BitVec.ofNat 64 (128 + rq.ctx.val))) := by
      simp only [State.writeElems, hi]
      rfl
    simp only [onSession, if_neg hs, hone]
    rfl
  obtain ⟨hheld, hctx⟩ := lease_held hwithin
  exact ⟨hheld, hctx, hresp⟩

theorem ncpBlockWrite_malformed {k : Nat} {a : WireAddr} {b : List (List Byte)} (hf : NewRequest s h rq) (hs : h.session ≠ 0)
    (hb : 1440 < (b.map (·.length)).sum) :
    (s.ncpBlockWrite h a k b).fld F.CT_NCP_STAT_MALFORMED 0 =
      satAdd (2 ^ F.CT_NCP_STAT_MALFORMED.len - 1) (s.fld F.CT_NCP_STAT_MALFORMED 0) 1 :=
  serve_malformed hf ((if_neg hs).trans (if_pos hb))

end Write
end Sys2Proof.Machine
end

section
/-! SUBSCRIBE (R323, R324, R335): what is judged good is added or ended, what is not leaves the subscriptions. -/
namespace Sys2Proof.Machine

theorem pcieFail_session (s : State) (c : Nat) (st : Status) (bar2 : Bool) (off d : Nat) :
    (s.pcieFail c st bar2 off).session d = s.session d := rfl

/-- What an outcome leaves beyond the object is no subscription of a session. -/
theorem settleAs_subs (s : State) (rq : Req) (x : WireAddr) (w : Nat) (st : Status) (c : Nat) :
    ((s.settleAs rq x w st).session c).map (·.subs) = (s.session c).map (·.subs) := by
  have hv (a : Nat) : ((s.recordViolation rq st x.addr.ix x.addr.sub a).session c).map (·.subs) = (s.session c).map (·.subs) :=
    (recordViolation_notesOnly ..).session c _ fun _ => rfl
  unfold State.settleAs
  extract_lets o u
  have hu : (u.session c).map (·.subs) = (s.session c).map (·.subs) := by
    unfold u
    split
    · exact hv _
    · rfl
  split <;> exact hu

section Sub
variable {s t : State} {h : Ncp} {rq : Req} {x : WireAddr} {y : Session} {n : Nat} {u : SubTail}

theorem Noted.subsOf (hn : Noted s t) (c : Nat) : t.subsOf c = s.subsOf c := by
  unfold State.subsOf
  rw [hn.pcie]
  congr 1
  cases hy : s.session c with
  | none =>
    obtain ⟨f, -, ht⟩ := hn.session
    simp [ht, hy]
  | some y =>
    obtain ⟨a, b, ht⟩ := hn.session_some hy
    simp [ht]

theorem Noted.judgeSub (hn : Noted s t) (period : Nat) (act : Bool) :
    t.judgeSub rq x n period act = s.judgeSub rq x n period act := by
  have hr : t.readStatus rq = s.readStatus rq := by
    funext a
    rw [State.readStatus, State.readStatus, State.judgeRead, State.judgeRead, hn.judgeWire]
  rw [State.judgeSub, State.judgeSub, hr, hn.subsOf]

theorem Noted.newSub (hn : Noted s t) (subs : List Sub) (next : Nat) (a : Addr) (count period : Nat) :
    Machine.newSub t subs next a count period = Machine.newSub s subs next a count period := by
  rw [Machine.newSub, Machine.newSub, hn.now]

/-- A session with one subscription more. -/
def Session.subscribed (y : Session) (n : Sub) : Session := { y with subs := y.subs ++ [n], nextSub := n.id % 65535 + 1 }

/-- A session without the subscription of a SUBID. -/
def Session.unsubscribed (y : Session) (id : Nat) : Session := { y with subs := y.subs.filter fun x => x.id != id }

/-- The answer to a SUBSCRIBE. -/
abbrev subResp (x : WireAddr) (st : Status) (id : Nat) : Resp := ⟨st.code, false, [⟨x.addr, st.code, 0, [BitVec.ofNat 64 id]⟩]⟩

/-- What a SUBSCRIBE of an open session makes of the session's subscriptions. -/
theorem ncpSub_done {k : Req → State → Option (Resp × State)} {st : Status} {id : Nat} {v : State} (hf : NewRequest s h rq)
    (hk : k rq (s.taken h) = some (subResp x st id, v.settleAs rq x 0 st)) (hv : v.tw = (s.taken h).tw) :
    ((s.serve h k).session rq.ctx.val).map (·.subs) = (v.session rq.ctx.val).map (·.subs) ∧
      (s.serve h k).host.resp = some (subResp x st id) := by
  have hw : (v.settleAs rq x 0 st).tw.fwd = s.tw.fwd := congrArg _ ((settleAs_tw ..).trans (hv.trans (noted_taken s h).tw))
  exact ⟨(serve_subs hf hk hw _).trans (settleAs_subs ..), serve_resp hf hk hw⟩

theorem ncpSub_added (hf : NewRequest s h rq) (hs : h.session ≠ 0) (hy : s.session rq.ctx.val = some y) (ha : u.action ≠ 2)
    (hj : s.judgeSub rq x n u.period (u.action == 1 && u.res == 0) = .ok) :
    ((s.ncpSub h x n u).session rq.ctx.val).map (·.subs) = some (y.subs ++ [newSub s y.subs y.nextSub x.addr n u.period]) ∧
      (s.ncpSub h x n u).host.resp =
        some ⟨0, false, [⟨x.addr, 0, 0, [BitVec.ofNat 64 (newSub s y.subs y.nextSub x.addr n u.period).id]⟩]⟩ := by
  obtain ⟨a, b, hy'⟩ := (noted_taken s h).session_some hy
  have hj' := ((noted_taken s h).judgeSub u.period (u.action == 1 && u.res == 0)).trans hj
  have hn := (noted_taken s h).newSub y.subs y.nextSub x.addr n u.period
  obtain ⟨hsubs, hresp⟩ : ((s.ncpSub h x n u).session rq.ctx.val).map (·.subs) =
        (((s.taken h).modSession rq.ctx.val (Session.subscribed · (newSub s y.subs y.nextSub x.addr n u.period))).session rq.ctx.val).map (·.subs) ∧
      (s.ncpSub h x n u).host.resp = some (subResp x .ok (newSub s y.subs y.nextSub x.addr n u.period).id) := by
    refine ncpSub_done hf ?_ rfl
    simp only [onSession, if_neg hs, hy', if_neg ha, hj', hn]
    rfl
  rw [session_modSession_same, hy'] at hsubs
  exact ⟨hsubs, hresp⟩

theorem ncpSub_refused {st : Status} (hf : NewRequest s h rq) (hs : h.session ≠ 0) (hy : s.session rq.ctx.val = some y) (ha : u.action ≠ 2)
    (hj : s.judgeSub rq x n u.period (u.action == 1 && u.res == 0) = st) (hst : st ≠ .ok) :
    ((s.ncpSub h x n u).session rq.ctx.val).map (·.subs) = some y.subs ∧
      (s.ncpSub h x n u).host.resp = some ⟨st.code, false, [⟨x.addr, st.code, 0, [0]⟩]⟩ := by
  obtain ⟨a, b, hy'⟩ := (noted_taken s h).session_some hy
  have hj' := ((noted_taken s h).judgeSub u.period (u.action == 1 && u.res == 0)).trans hj
  obtain ⟨hsubs, hresp⟩ : ((s.ncpSub h x n u).session rq.ctx.val).map (·.subs) = ((s.taken h).session rq.ctx.val).map (·.subs) ∧
      (s.ncpSub h x n u).host.resp = some (subResp x st 0) := by
    refine ncpSub_done hf ?_ rfl
    simp only [onSession, if_neg hs, hy', if_neg ha, hj', beq_eq_false_iff_ne.2 hst, Bool.false_eq_true, if_false]
  rw [hy'] at hsubs
  exact ⟨hsubs, hresp⟩

/-! ### The end of a subscription -/

variable {st : Status} (hf : NewRequest s h rq) (hs : h.session ≠ 0) (hy : s.session rq.ctx.val = some y)
include hf hs hy

theorem ncpUnsub_ended (hj : judgeUnsub rq y.subs n u.res = .ok) :
    ((s.ncpSub h x n { u with action := 2 }).session rq.ctx.val).map (·.subs) = some (y.subs.filter fun z => z.id != n) ∧
      (s.ncpSub h x n { u with action := 2 }).host.resp = some ⟨0, false, [⟨x.addr, 0, 0, [BitVec.ofNat 64 (n % 65536)]⟩]⟩ := by
  obtain ⟨a, b, hy'⟩ := (noted_taken s h).session_some hy
  obtain ⟨hsubs, hresp⟩ : ((s.ncpSub h x n { u with action := 2 }).session rq.ctx.val).map (·.subs) =
        (((s.taken h).modSession rq.ctx.val (Session.unsubscribed · n)).session rq.ctx.val).map (·.subs) ∧
      (s.ncpSub h x n { u with action := 2 }).host.resp = some (subResp x .ok (n % 65536)) := by
    refine ncpSub_done hf ?_ rfl
    simp only [onSession, if_neg hs, hy', if_true, hj]
    rfl
  rw [session_modSession_same, hy'] at hsubs
  exact ⟨hsubs, hresp⟩

theorem ncpUnsub_refused (hj : judgeUnsub rq y.subs n u.res = st) (hst : st ≠ .ok) :
    ((s.ncpSub h x n { u with action := 2 }).session rq.ctx.val).map (·.subs) = some y.subs ∧
      (s.ncpSub h x n { u with action := 2 }).host.resp = some ⟨st.code, false, [⟨x.addr, st.code, 0, [BitVec.ofNat 64 (n % 65536)]⟩]⟩ := by
  obtain ⟨a, b, hy'⟩ := (noted_taken s h).session_some hy
  obtain ⟨hsubs, hresp⟩ : ((s.ncpSub h x n { u with action := 2 }).session rq.ctx.val).map (·.subs) =
        ((s.taken h).session rq.ctx.val).map (·.subs) ∧
      (s.ncpSub h x n { u with action := 2 }).host.resp = some (subResp x st (n % 65536)) := by
    refine ncpSub_done hf ?_ rfl
    simp only [onSession, if_neg hs, hy', if_true, hj, beq_eq_false_iff_ne.2 hst, Bool.false_eq_true, if_false]
  rw [hy'] at hsubs
  exact ⟨hsubs, hresp⟩

end Sub
end Sys2Proof.Machine
end

section
/-! The statement about requests over NCP. -/
namespace Sys2Proof.Machine

/-- Settles O24: what every request shares by how it is taken, its answer by the operation it asks for. -/
theorem ncpRequestsAreServed : Obligations.NcpRequestsAreServed := by
  unfold Obligations.NcpRequestsAreServed
  refine ⟨?read, ?write, ?blockRead, ?blockWrite, ?subscribe, ?unsubscribe, ?challenge⟩
  case read =>
    refine fun h rq kr x l o st s => ⟨_, rfl, fun ha hl hr hk hw hx hs => ?ok, serve_deaf, serve_noSession, serve_kept, serve_awaited,
      fun ha hl hr hk hw hx hs => ?error, fun ha hl hr hk hw h0 hx => ?barred, fun ha hl hr hk hw => ncpRead_malformed ⟨ha, hl, hr, hk, hw⟩⟩
    case ok => exact hx ▸ ncpRead_ok ⟨ha, hl, hr, hk, hw⟩ fun hn => hs hn.1
    case error => exact hx ▸ ncpRead_error ⟨ha, hl, hr, hk, hw⟩ fun hn => hs hn.1
    case barred => exact hx ▸ ncpRead_barred ⟨ha, hl, hr, hk, hw⟩ h0
  case write =>
    refine fun h rq kr x l e st s => ⟨_, rfl, fun ha hl hr hk hw hx hs => ?lease, serve_deaf, serve_noSession, serve_kept, serve_awaited,
      fun ha hl hr hk hw hx hs hlen hst hfwd => ?item, fun ha hl hr hk hw h0 hx hlen hadm => ?barred,
      fun ha hl hr hk hw => ncpWrite_malformed ⟨ha, hl, hr, hk, hw⟩⟩
    case lease => exact hx ▸ ncpWrite_lease ⟨ha, hl, hr, hk, hw⟩ hs
    case item =>
      obtain ⟨hresp, -⟩ := ncpWrite_item ⟨ha, hl, hr, hk, hw⟩ (fun hn => hs hn.1) hlen hfwd
      rw [hx, ← hst]
      exact hresp
    case barred => exact hx ▸ ncpWrite_barred ⟨ha, hl, hr, hk, hw⟩ h0 hadm hlen
  case blockRead =>
    refine fun h rq kr x n o st s => ⟨_, rfl, fun ha hl hr hk hw hs hj hn => ?one, serve_deaf, serve_noSession, serve_kept, serve_awaited,
      fun ha hl hr hk hw => ncpBlockRead_error ⟨ha, hl, hr, hk, hw⟩, fun ha hl hr hk hw => serve_onSession_zero ⟨ha, hl, hr, hk, hw⟩⟩
    case one => exact hn ▸ ncpBlockRead_one ⟨ha, hl, hr, hk, hw⟩ hs hj
  case blockWrite =>
    refine fun h rq kr e k b x s => ⟨_, rfl, fun ha hl hr hk hw hx hk1 hb hs => ?lease, serve_deaf, serve_noSession, serve_kept,
      serve_awaited, fun ha hl hr hk hw => serve_onSession_zero ⟨ha, hl, hr, hk, hw⟩,
      fun ha hl hr hk hw => ncpBlockWrite_malformed ⟨ha, hl, hr, hk, hw⟩⟩
    case lease =>
      subst hx hk1 hb
      exact ncpBlockWrite_lease ⟨ha, hl, hr, hk, hw⟩ hs
  case subscribe =>
    exact fun h rq kr x n u y st s => ⟨_, rfl, fun ha hl hr hk hw => ncpSub_added ⟨ha, hl, hr, hk, hw⟩, serve_deaf, serve_noSession,
      serve_kept, serve_awaited, fun ha hl hr hk hw => ncpSub_refused ⟨ha, hl, hr, hk, hw⟩,
      fun ha hl hr hk hw => serve_onSession_zero ⟨ha, hl, hr, hk, hw⟩⟩
  case unsubscribe =>
    exact fun h rq kr x y st s => ⟨_, rfl, fun ha hl hr hk hw => ncpUnsub_ended ⟨ha, hl, hr, hk, hw⟩, serve_deaf, serve_noSession,
      serve_kept, serve_awaited, fun ha hl hr hk hw => ncpUnsub_refused ⟨ha, hl, hr, hk, hw⟩,
      fun ha hl hr hk hw => serve_onSession_zero ⟨ha, hl, hr, hk, hw⟩⟩
  case challenge =>
    exact fun h rq kr st s => ⟨_, rfl, fun ha hl hr hk hw => challengeRead_ok ⟨ha, hl, hr, hk, hw⟩, serve_deaf, serve_noSession,
      serve_kept, serve_awaited, fun ha hl hr hk hw => ncpRead_error ⟨ha, hl, hr, hk, hw⟩ fun hn => absurd hn.2 (by decide)⟩

end Sys2Proof.Machine
end

section
/-! The functions of the PCIe endpoint: in whose name one acts, what an access that is refused leaves (R329, R332, R334). -/
namespace Sys2Proof.Machine

theorem Noted.pcieOn {s t : State} (n : Noted s t) (c : Nat) : t.pcieOn c = s.pcieOn c := by obtain ⟨_, _, rfl⟩ := n.rest; rfl

theorem Noted.pcieReq {s t : State} (n : Noted s t) (f : Fin 4) : t.pcieReq f = s.pcieReq f := by
  rw [State.pcieReq, State.pcieReq, n.pcie, n.fld]

theorem stir_function {s : State} {f : Nat} {x : PcieFn} (hx : s.host.pcie[f]? = some x) : s.stir.host.pcie[f]? = some x := by
  rw [(noted_stir s).pcie, hx]

theorem function_withPcie {s : State} {f : Nat} {x : PcieFn} (hx : s.host.pcie[f]? = some x) (g : PcieFn → PcieFn) :
    (s.withPcie f g).host.pcie[f]? = some (g x) := (fn_withPcie ..).trans (by rw [hx]; rfl)

/-- What LASTSTATUS says of a status (R332). -/
abbrev failWord (st : Status) (bar2 : Bool) (off : Nat) : W := BitVec.ofNat 64 (st.code * 2 ^ 56 + flag bar2 * 2 ^ 55 + off % 2 ^ 36)

/-- Function `f` stands as `x`, with a refusal told of. -/
structure Refused (t : State) (f : Nat) (x : PcieFn) (st : Status) (bar2 : Bool) (off : Nat) : Prop where
  status : (t.host.pcie[f]?).map (·.lastStatus) = some (failWord st bar2 off)
  cls    : (t.host.pcie[f]?).map (·.cls) = some x.cls
  authed : (t.host.pcie[f]?).map (·.authed) = some x.authed
  subs   : (t.host.pcie[f]?).map (·.subs) = some x.subs

section Settle
variable {s : State} {rq : Req} {st : Status} {bar2 : Bool} {off : Nat} {names : Nat × Nat} {x : PcieFn}

theorem pcieSettle_ok (h : st.code = 0) : s.pcieSettle rq st bar2 off names = s := if_pos h

theorem pcieSettle_done : s.pcieSettle rq .ok bar2 off names = s := pcieSettle_ok rfl

theorem pcieFail_refused {y : PcieFn} (hy : s.host.pcie[rq.ctx.val]? = some y) (hb : y.beside = x.beside) :
    Refused (s.pcieFail rq.ctx.val st bar2 off) rq.ctx.val x st bar2 off := by
  have hf : (s.pcieFail rq.ctx.val st bar2 off).host.pcie[rq.ctx.val]? = some { y.raise 0 with
      lastStatus := failWord st bar2 off
      vcount := satAdd 4294967295 y.vcount (flag st.violation) } := function_withPcie hy _
  constructor <;> rw [hf]
  · rfl
  · exact congrArg some (by rw [← x.beside_cls, ← hb, y.beside_cls]; rfl)
  · exact congrArg some (by rw [← x.beside_authed, ← hb, y.beside_authed]; rfl)
  · exact congrArg some (by rw [← x.beside_subs, ← hb, y.beside_subs]; rfl)

theorem pcieSettle_refused (hc : st.code ≠ 0) (hx : s.host.pcie[rq.ctx.val]? = some x) :
    Refused (s.pcieSettle rq st bar2 off names) rq.ctx.val x st bar2 off := by
  unfold State.pcieSettle
  rw [if_neg hc]
  extract_lets u
  have hu : NotesOnly s u := .ite (recordViolation_notesOnly ..) .refl
  obtain ⟨y, hy, hb⟩ := hu.function_some hx
  exact pcieFail_refused hy hb

/-- A refusal that is no violation changes the function's own registers alone. -/
theorem pcieSettle_challenge (h : st.violation = false) : (s.pcieSettle rq st bar2 off names).host.challenge = s.host.challenge := by
  unfold State.pcieSettle
  rw [h]
  split <;> rfl

end Settle

/-! ### The control block by its own rows -/

section Control
variable {s : State} {f : Fin 4} {off : Nat} {k : Req → State → Status × State} {x : PcieFn} {st : Status} {u : State}

theorem pcieControl_dead (ha : s.alive = false) : s.pcieControl f off k = s := if_pos (by rw [ha]; rfl)

theorem pcieControl_on (ha : s.alive = true) (hon : s.pcieOn f.val = true) (hk : k (s.pcieReq f) s.stir = (st, u)) :
    s.pcieControl f off k = u.pcieSettle (s.pcieReq f) st false off (0xFFFF, 0) := by
  unfold State.pcieControl
  simp only [ha, (noted_stir s).pcieOn, (noted_stir s).pcieReq, hon, hk, Bool.not_true, Bool.false_eq_true, if_false, if_true]

theorem pcieControl_ok (ha : s.alive = true) (hon : s.pcieOn f.val = true) (hk : k (s.pcieReq f) s.stir = (.ok, u)) :
    s.pcieControl f off k = u := (pcieControl_on ha hon hk).trans pcieSettle_done

theorem pcieControl_refused (ha : s.alive = true) (hon : s.pcieOn f.val = true) (hk : k (s.pcieReq f) s.stir = (st, u)) (hc : st.code ≠ 0)
    (hx : u.host.pcie[f.val]? = some x) : Refused (s.pcieControl f off k) f.val x st false off :=
  pcieControl_on (off := off) ha hon hk ▸ pcieSettle_refused hc hx

theorem pcieControl_off (ha : s.alive = true) (hon : s.pcieOn f.val = false) (hx : s.host.pcie[f.val]? = some x) :
    Refused (s.pcieControl f off k) f.val x .rights false off := by
  unfold State.pcieControl
  simp only [ha, (noted_stir s).pcieOn, (noted_stir s).pcieReq, hon, Bool.not_true, Bool.false_eq_true, if_false]
  exact pcieSettle_refused (by decide) (stir_function hx)

/-! ### CLASS -/

theorem pcieClass_taken {v : W} (hx : s.host.pcie[f.val]? = some x) (hv : v.toNat < 4)
    (hok : v.toNat ≤ s.fld F.CT_CONTEXT_CEILING f ∧ (v.toNat = 3 → x.authed = true)) :
    s.pcieClass f v = (.ok, s.withPcie f.val fun x => { x with cls := Cls.ofNum v.toNat }) := by
  obtain ⟨hle, hauth⟩ := hok
  have hno : (decide (s.fld F.CT_CONTEXT_CEILING f < v.toNat) || (v.toNat == 3 && !((s.host.pcie[f.val]?).map (·.authed)).getD false)) = false := by
    rw [hx]
    simpa [hle] using hauth
  unfold State.pcieClass
  simp only [hno, if_neg (not_le.2 hv), Bool.false_eq_true, if_false]

theorem pcieClass_auth {v : W} (hx : s.host.pcie[f.val]? = some x) (hv : v.toNat < 4)
    (hno : ¬(v.toNat ≤ s.fld F.CT_CONTEXT_CEILING f ∧ (v.toNat = 3 → x.authed = true))) : s.pcieClass f v = (.auth, s) := by
  have hbad : (decide (s.fld F.CT_CONTEXT_CEILING f < v.toNat) || (v.toNat == 3 && !((s.host.pcie[f.val]?).map (·.authed)).getD false)) = true := by
    rw [hx]
    by_cases hle : v.toNat ≤ s.fld F.CT_CONTEXT_CEILING f
    · have h3 : v.toNat = 3 ∧ x.authed = false := by simpa [hle] using hno
      simp [h3]
    · simp [not_le.1 hle]
  unfold State.pcieClass
  simp only [hbad, if_neg (not_le.2 hv), if_true]

theorem pcieClass_range {v : W} (hv : 4 ≤ v.toNat) : s.pcieClass f v = (.range, s) := if_pos hv

/-! ### AUTH -/

/-- A signed open of the control block: SESSION 0, CLASS SECURE. -/
abbrev authForm (b : List Byte) : Prop := openForm b 0 = true ∧ byteAt b 0 = 0 ∧ byteAt b 1 = 0 ∧ byteAt b 3 = 3

variable {b : List Byte}

theorem authForm_iff (b : List Byte) :
    authForm b ↔ (!openForm b 0 || byteAt b 0 + byteAt b 1 != 0 || byteAt b 3 != 3) = false := by
  simp [authForm, and_assoc]

theorem pcieAuth_range (h : ¬ authForm b) : s.pcieAuth f b = (.range, s) :=
  if_pos (by rwa [authForm_iff, Bool.not_eq_false] at h)

theorem pcieAuth_form (h : authForm b) : s.pcieAuth f b =
    if byteAt b 2 != f.val || !s.pcieOn f.val || s.fld F.CT_CONTEXT_CEILING f != 3 then (.auth, s)
    else if (s.openSigned f.val b).1 then (.ok, (s.openSigned f.val b).2.withPcie f.val fun x => { x with authed := true })
    else (.auth, (s.openSigned f.val b).2) :=
  if_neg (by rw [(authForm_iff b).1 h]; decide)

theorem pcieAuth_barred (h : authForm b) (hno : ¬(byteAt b 2 = f.val ∧ s.fld F.CT_CONTEXT_CEILING f = 3)) :
    s.pcieAuth f b = (.auth, s) := by
  rw [pcieAuth_form h]
  refine if_pos ?_
  simp only [Bool.or_eq_true, bne_iff_ne, ne_eq, Bool.not_eq_true']
  tauto

theorem pcieAuth_judged (h : authForm b) (hok : byteAt b 2 = f.val ∧ s.fld F.CT_CONTEXT_CEILING f = 3) (hon : s.pcieOn f.val = true) :
    s.pcieAuth f b = if (s.openSigned f.val b).1 then (.ok, (s.openSigned f.val b).2.withPcie f.val fun x => { x with authed := true })
      else (.auth, (s.openSigned f.val b).2) := by
  obtain ⟨hctx, hceil⟩ := hok
  rw [pcieAuth_form h]
  exact if_neg (by simp [hctx, hceil, hon])

theorem stir_openSigned (s : State) (c : Nat) (b : List Byte) :
    (s.stir.openSigned c b).1 = (s.openSigned c b).1 ∧
      (s.stir.openSigned c b).2.host.challenge = (s.useChallenge s.host.challenge ((b.drop 8).take 16)).2 ∧
      (s.stir.openSigned c b).2.host.pcie = s.host.pcie := by
  unfold State.stir
  split <;> exact ⟨rfl, rfl, rfl⟩

/-- A signed open uses its challenge, and allows SECURE exactly where challenge and signature are good. -/
theorem pcieControl_auth (ha : s.alive = true) (hon : s.pcieOn f.val = true) (hx : s.host.pcie[f.val]? = some x) (h : authForm b)
    (hok : byteAt b 2 = f.val ∧ s.fld F.CT_CONTEXT_CEILING f = 3) :
    let t := s.pcieControl f off fun _ s => s.pcieAuth f b
    (t.host.pcie[f.val]?).map (·.authed) = some ((s.openSigned f b).1 || x.authed) ∧
      t.host.challenge = (s.useChallenge s.host.challenge ((b.drop 8).take 16)).2 := by
  intro t
  obtain ⟨hsigned, hused, hpcie⟩ := stir_openSigned s f b
  have hx' : (s.stir.openSigned f b).2.host.pcie[f.val]? = some x := by rw [hpcie, hx]
  have hj := pcieAuth_judged (s := s.stir) h (by rwa [(noted_stir s).fld]) (((noted_stir s).pcieOn _).trans hon)
  rw [← hused, ← hsigned]
  cases hgood : (s.stir.openSigned f b).1 with
  | true =>
    rw [hgood, if_pos rfl] at hj
    have ht : t = _ := pcieControl_ok ha hon hj
    rw [ht, function_withPcie hx']
    exact ⟨rfl, rfl⟩
  | false =>
    rw [hgood, if_neg (by decide)] at hj
    refine ⟨(pcieControl_refused ha hon hj (by decide) hx').authed, ?_⟩
    have ht : t = _ := pcieControl_on ha hon hj
    rw [ht, pcieSettle_challenge rfl]

end Control
end Sys2Proof.Machine
end

section
/-! SUBREQ, the windows and the reset of a function (R323, R330, R331, R338). -/
namespace Sys2Proof.Machine

/-! ### SUBREQ -/

section Subreq
variable {s t : State} {f : Fin 4} {rq : Req} {x : PcieFn} {lo hi : W} {a : WireAddr} {st : Status}

/-- What SUBREQ asks for: an address, COUNT, PERIOD, and whether ACTION subscribes with the reserved byte 0. -/
abbrev subreqAddr (lo : W) : WireAddr := ⟨⟨beOf lo [0, 1], beOf lo [2], beOf lo [4, 5, 6, 7]⟩, leByte lo 3⟩
abbrev subreqCount (hi : W) : Nat := beOf hi [0, 1, 2, 3]
abbrev subreqPeriod (hi : W) : Nat := beOf hi [4, 5]
abbrev subreqActs (hi : W) : Bool := beOf hi [6] == 1 && leByte hi 7 == 0

/-- The subscription that it starts. -/
abbrev subreqSub (s : State) (x : PcieFn) (lo hi : W) : Sub :=
  newSub s x.subs x.nextSub (subreqAddr lo).addr (subreqCount hi) (subreqPeriod hi)

/-- The judgement of a SUBSCRIBE rests on what may be read and on the subscriptions that stand. -/
theorem withPcie_judgeSub {g : PcieFn → PcieFn} (hx : t.host.pcie[rq.ctx.val]? = some x) (hg : (g x).subs = x.subs) (n p : Nat) (act : Bool) :
    (t.withPcie rq.ctx.val g).judgeSub rq a n p act = t.judgeSub rq a n p act := by
  have hs : (t.withPcie rq.ctx.val g).subsOf rq.ctx.val = t.subsOf rq.ctx.val := by
    unfold State.subsOf
    rw [function_withPcie hx, hx]
    simp only [hg]
    rfl
  rw [State.judgeSub, State.judgeSub, hs]
  rfl

/-- No SUBSCRIBE is sent on to the twin. -/
theorem judgeSub_answers (s : State) (rq : Req) (a : WireAddr) (n p : Nat) (act : Bool) : s.judgeSub rq a n p act ≠ .forwarded := by
  unfold State.judgeSub
  grind

theorem code_eq_zero (h : st.code = 0) : st = .ok ∨ st = .forwarded := by
  cases st <;> simp [Status.code] at h ⊢

theorem judgeSub_code {n p : Nat} {act : Bool} (hj : s.judgeSub rq a n p act = st) (hst : st ≠ .ok) : st.code ≠ 0 := fun hc =>
  (code_eq_zero hc).elim hst fun hf => judgeSub_answers s rq a n p act (hj.trans hf)

theorem pcieSub_adds (hx : t.host.pcie[rq.ctx.val]? = some x) (h2 : beOf hi [6] ≠ 2)
    (hj : t.judgeSub rq (subreqAddr lo) (subreqCount hi) (subreqPeriod hi) (subreqActs hi) = .ok) :
    ∃ u, t.pcieSub rq lo hi = (.ok, u) ∧ (u.host.pcie[rq.ctx.val]?).map (·.subs) = some (x.subs ++ [subreqSub t x lo hi]) := by
  unfold State.pcieSub
  simp only [if_neg h2, hj, hx, Option.getD_some, BEq.rfl, if_true]
  exact ⟨_, rfl, by rw [function_withPcie (function_withPcie hx _)]; rfl⟩

theorem pcieSub_adds_none (hx : t.host.pcie[rq.ctx.val]? = some x) (h2 : beOf hi [6] ≠ 2)
    (hj : t.judgeSub rq (subreqAddr lo) (subreqCount hi) (subreqPeriod hi) (subreqActs hi) = st) (hst : st ≠ .ok) :
    ∃ u, t.pcieSub rq lo hi = (st, u) ∧ ∃ y, u.host.pcie[rq.ctx.val]? = some y ∧ y.subs = x.subs := by
  unfold State.pcieSub
  simp only [if_neg h2, hj, beq_eq_false_iff_ne.2 hst, Bool.false_eq_true, if_false]
  exact ⟨_, rfl, _, function_withPcie hx _, rfl⟩

theorem pcieSub_ends (hx : t.host.pcie[rq.ctx.val]? = some x) (h2 : beOf hi [6] = 2)
    (hj : judgeUnsub rq x.subs (subreqCount hi) (leByte hi 7) = .ok) :
    ∃ u, t.pcieSub rq lo hi = (.ok, u) ∧
      (u.host.pcie[rq.ctx.val]?).map (·.subs) = some (x.subs.filter fun y => y.id != subreqCount hi) := by
  unfold State.pcieSub
  simp only [if_pos h2, hx, Option.getD_some, hj, BEq.rfl, if_true]
  exact ⟨_, rfl, by rw [function_withPcie (function_withPcie hx _)]; rfl⟩

/-- The access to SUBREQ's second half. -/
abbrev State.subreq (s : State) (f : Fin 4) (lo hi : W) : State :=
  s.pcieControl f 0x48 fun rq s => (s.withPcie f.val fun x => { x with subReq := lo }).pcieSub rq lo hi

/-- The first half is stored, and judges nothing. -/
theorem subreq_judged {n p : Nat} {act : Bool} (hx : s.host.pcie[f.val]? = some x) (h : s.judgeSub (s.pcieReq f) a n p act = st) :
    (s.stir.withPcie f.val fun x => { x with subReq := lo }).judgeSub (s.pcieReq f) a n p act = st :=
  (withPcie_judgeSub (rq := s.pcieReq f) (stir_function hx) (by rfl) ..).trans (((noted_stir s).judgeSub ..).trans h)

section On
variable (ha : s.alive = true) (hon : s.pcieOn f.val = true) (hx : s.host.pcie[f.val]? = some x)
include ha hon hx

theorem subreq_adds (h2 : beOf hi [6] ≠ 2)
    (hj : s.judgeSub (s.pcieReq f) (subreqAddr lo) (subreqCount hi) (subreqPeriod hi) (subreqActs hi) = .ok) :
    ((s.subreq f lo hi).host.pcie[f.val]?).map (·.subs) = some (x.subs ++ [subreqSub s x lo hi]) := by
  have hn : subreqSub (s.stir.withPcie f.val fun x => { x with subReq := lo }) { x with subReq := lo } lo hi = subreqSub s x lo hi :=
    (noted_stir s).newSub ..
  obtain ⟨u, hu, hsubs⟩ := pcieSub_adds (rq := s.pcieReq f) (function_withPcie (stir_function hx) _) h2 (subreq_judged hx hj)
  rw [State.subreq, pcieControl_ok ha hon hu, ← hn]
  exact hsubs

theorem subreq_adds_none (h2 : beOf hi [6] ≠ 2)
    (hj : s.judgeSub (s.pcieReq f) (subreqAddr lo) (subreqCount hi) (subreqPeriod hi) (subreqActs hi) = st) (hst : st ≠ .ok) :
    ((s.subreq f lo hi).host.pcie[f.val]?).map (·.subs) = some x.subs ∧
      ((s.subreq f lo hi).host.pcie[f.val]?).map (·.lastStatus) = some (failWord st false 0x48) := by
  obtain ⟨u, hu, y, hy, hsubs⟩ := pcieSub_adds_none (rq := s.pcieReq f) (function_withPcie (stir_function hx) _) h2 (subreq_judged hx hj) hst
  have hr : Refused (s.subreq f lo hi) f.val y st false 0x48 :=
    pcieControl_refused ha hon hu (judgeSub_code hj hst) hy
  exact ⟨hr.subs.trans (congrArg some hsubs), hr.status⟩

theorem subreq_ends (h2 : beOf hi [6] = 2) (hj : judgeUnsub (s.pcieReq f) x.subs (subreqCount hi) (leByte hi 7) = .ok) :
    ((s.subreq f lo hi).host.pcie[f.val]?).map (·.subs) = some (x.subs.filter fun y => y.id != subreqCount hi) := by
  obtain ⟨u, hu, hsubs⟩ := pcieSub_ends (rq := s.pcieReq f) (t := s.stir.withPcie f.val fun x => { x with subReq := lo })
    (function_withPcie (stir_function hx) _) h2 hj
  rw [State.subreq, pcieControl_ok ha hon hu]
  exact hsubs

end On
end Subreq

/-! ### Reads of the windows -/

section Read
variable {s u : State} {f : Fin 4} {x : PcieFn} {bar2 wide : Bool} {off e : Nat} {o : Obj} {st : Status} {v : W}

theorem stir_read (s : State) (ix e w : Nat) : s.stir.read ix e w = s.read ix e w := by
  unfold State.stir
  split <;> rfl

/-- A word of at most 8 bytes is read as it stands. -/
theorem windowWord_short (hm : s.mode ≠ SAFE) (h8 : o.acc.length * o.typ.bytes ≤ 8) (htwo : twoSlots o wide = false) (hix : o.ix ≠ 0x6830) :
    (s.windowWord f.val o e 0 0 wide).1 = partOf wide 0 (s.read o.ix e (regWord o.sub 0)) := by
  simp only [State.windowWord, if_pos h8, htwo, State.readPart, hm, hix, false_and, Bool.false_and, Bool.false_eq_true, if_false]

theorem complete_resp (s : State) (st : Status) (v : W) :
    (s.complete st v).host.resp = some ⟨st.code, false, [⟨noAddr, st.code, 1, [v]⟩]⟩ := rfl

theorem Refused.complete (h : Refused s f.val x st bar2 off) (v : W) : Refused (s.complete st v) f.val x st bar2 off :=
  ⟨h.status, h.cls, h.authed, h.subs⟩

theorem pcieRead_dead (ha : s.alive = false) : s.pcieRead f bar2 off wide = s := if_pos (by rw [ha]; rfl)

theorem pcieRead_off (ha : s.alive = true) (hon : s.pcieOn f.val = false) (hx : s.host.pcie[f.val]? = some x) :
    Refused (s.pcieRead f bar2 off wide) f.val x .rights bar2 off := by
  have hr : s.pcieRead f bar2 off wide =
      (s.stir.pcieSettle (s.pcieReq f) .rights bar2 off (Loc.names (locate s.caps bar2 off wide))).complete .rights 0 := by
    unfold State.pcieRead
    simp only [ha, (noted_stir s).pcieOn, (noted_stir s).pcieReq, stir_caps, hon, Bool.not_true, Bool.not_false, Bool.false_eq_true, if_false,
      if_true]
    rfl
  rw [hr]
  exact (pcieSettle_refused (rq := s.pcieReq f) (by decide) (stir_function hx)).complete 0

section On
variable (ha : s.alive = true) (hon : s.pcieOn f.val = true)
include ha hon

theorem pcieRead_control (hx : s.host.pcie[f.val]? = some x) (hlt : off < 0x1000) (h8 : off % 8 = 0) (hv : x.control off = .ok v) :
    (s.pcieRead f false off true).host.resp = some ⟨0, false, [⟨noAddr, 0, 1, [v]⟩]⟩ := by
  have hloc : locate s.caps false off true = some (.control off) := by simp [locate, h8, hlt]
  have hhalf : off / 4 % 2 = 0 := by omega
  unfold State.pcieRead
  simp only [ha, (noted_stir s).pcieOn, (noted_stir s).pcieReq, stir_caps, hon, hloc, stir_function hx, hv, hhalf, Option.getD_some,
    Bool.not_true, Bool.false_eq_true, if_false, pcieSettle_done]
  rfl

theorem pcieRead_nowhere (hx : s.host.pcie[f.val]? = some x) (hloc : locate s.caps bar2 off wide = none) :
    ((s.pcieRead f bar2 off wide).host.pcie[f.val]?).map (·.lastStatus) = some (failWord .index bar2 off) ∧
      (s.pcieRead f bar2 off wide).host.resp = some ⟨Status.index.code, false, [⟨noAddr, Status.index.code, 1, [0]⟩]⟩ := by
  have hr : s.pcieRead f bar2 off wide = (s.stir.pcieSettle (s.pcieReq f) .index bar2 off (0xFFFF, 0)).complete .index 0 := by
    unfold State.pcieRead
    simp only [ha, (noted_stir s).pcieOn, (noted_stir s).pcieReq, stir_caps, hon, hloc, Bool.not_true, Bool.false_eq_true, if_false]
    rfl
  rw [hr]
  exact ⟨((pcieSettle_refused (rq := s.pcieReq f) (by decide) (stir_function hx)).complete 0).status, complete_resp ..⟩

theorem pcieRead_word (hloc : locate s.caps bar2 off wide = some (.word o e 0 0))
    (h8 : o.acc.length * o.typ.bytes ≤ 8) (htwo : twoSlots o wide = false) (hix : o.ix ≠ 0x6830)
    (hacc : s.acceptsRead (s.pcieReq f) ⟨o.ix, o.sub, e⟩ = true) (hsafe : s.mode ≠ SAFE) :
    (s.pcieRead f bar2 off wide).host.resp = some ⟨0, false, [⟨noAddr, 0, 1, [partOf wide 0 (s.read o.ix e (regWord o.sub 0))]⟩]⟩ := by
  obtain ⟨o', hj⟩ : ∃ o', s.judgeRead (s.pcieReq f) ⟨o.ix, o.sub, e⟩ = .ok o' := by
    cases hj : s.judgeRead (s.pcieReq f) ⟨o.ix, o.sub, e⟩ with
    | ok o' => exact ⟨o', rfl⟩
    | error st => simp [State.acceptsRead, hj] at hacc
  have hj' : s.stir.judgeRead (s.pcieReq f) ⟨o.ix, o.sub, e⟩ = .ok o' := ((noted_stir s).judgeWire _).trans hj
  have hw := windowWord_short (s := s.stir) (f := f) (e := e) (by rwa [stir_mode]) h8 htwo hix
  unfold State.pcieRead
  simp only [ha, (noted_stir s).pcieOn, (noted_stir s).pcieReq, stir_caps, hon, hloc, State.windowRead, hj', hw, stir_read, Bool.not_true,
    Bool.false_eq_true, if_false, pcieSettle_done]
  rfl

end On
end Read

/-! ### Writes of the windows -/

section Write
variable {s u : State} {f : Fin 4} {x : PcieFn} {bar2 wide : Bool} {off n : Nat} {o : Obj} {v : W} {rq : Req}

theorem pcieWrite_dead (ha : s.alive = false) : s.pcieWrite f bar2 off wide v = s := if_pos (by rw [ha]; rfl)

theorem pcieWrite_off (ha : s.alive = true) (hon : s.pcieOn f.val = false) (hx : s.host.pcie[f.val]? = some x) :
    Refused (s.pcieWrite f bar2 off wide v) f.val x .rights bar2 off := by
  unfold State.pcieWrite
  simp only [ha, (noted_stir s).pcieOn, (noted_stir s).pcieReq, stir_caps, hon, Bool.not_true, Bool.not_false, Bool.false_eq_true, if_false,
    if_true]
  exact pcieSettle_refused (by decide) (stir_function hx)

/-- A servo register's write is the same in every state. -/
theorem putWordOf_servo_eq (ho : findObj 0x5038 n = some o) (s : State) (rq : Req) (v : W) :
    putWordOf s rq ⟨0x5038, n, 0⟩ 0 v =
      putTyped o ⟨0x5038, n, 0⟩ [(0, v)] (putScalar ⟨0x5038, n, 0⟩ v (servoRange n v)) := by
  obtain ⟨hmem, hix, -⟩ := findObj_spec ho
  obtain ⟨hacc, hbytes⟩ := servo_readWrite o hmem hix
  simp only [putWordOf, ho, hacc, hbytes]
  rfl

/-- What fits 4 bytes is what an access of 4 bytes carries. -/
theorem low_of_lt (h : v.toNat < 2 ^ 32) : v &&& 0xFFFFFFFF = v := by
  apply BitVec.eq_of_toNat_eq
  rw [BitVec.toNat_and]
  exact (Nat.and_two_pow_sub_one_eq_mod v.toNat 32).trans (Nat.mod_eq_of_lt h)

theorem wordWrite_servo (ho : findObj 0x5038 n = some o) (hn : 1 ≤ n) (h8 : o.typ.bytes ≠ 8)
    (hp : s.passes rq (putWordOf s rq ⟨0x5038, n, 0⟩ 0 v).1 = true) :
    s.wordWrite rq o 0 0 0 false v = (.ok, s.putWord 0x5038 0 n v) := by
  obtain ⟨-, hix, hsub⟩ := findObj_spec ho
  simp only [State.wordWrite, hix, hsub, bne_self_eq_false, beq_eq_false_iff_ne.2 h8, Bool.and_false, Bool.or_self, Bool.false_eq_true, if_false]
  rw [judgeWrite_passes _ hp, putWordOf_servo ho hn]

section On
variable (ha : s.alive = true) (hon : s.pcieOn f.val = true)
include ha hon

theorem pcieWrite_nowhere (hx : s.host.pcie[f.val]? = some x) (hloc : locate s.caps bar2 off wide = none) :
    Refused (s.pcieWrite f bar2 off wide v) f.val x .index bar2 off := by
  unfold State.pcieWrite
  simp only [ha, (noted_stir s).pcieOn, (noted_stir s).pcieReq, stir_caps, hon, hloc, Bool.not_true, Bool.false_eq_true, if_false]
  exact pcieSettle_refused (by decide) (stir_function hx)

theorem pcieWrite_nqBase (hx : s.host.pcie[f.val]? = some x) (hv : v.toNat % 4096 = 0) :
    (s.pcieWrite f false 0x20 true v).host.pcie[f.val]? = some { x with nqBase := v } := by
  have hloc : locate s.caps false 0x20 true = some (.control 0x20) := by simp [locate]
  have hw : s.stir.controlWrite (s.pcieReq f) 0x20 true v = (.ok, s.stir.withPcie f.val fun x => { x with nqBase := v }) := if_pos hv
  unfold State.pcieWrite
  simp only [ha, (noted_stir s).pcieOn, (noted_stir s).pcieReq, stir_caps, hon, hloc, hw, Bool.not_true, Bool.false_eq_true, if_false, if_true,
    pcieSettle_done]
  exact function_withPcie (stir_function hx) _

theorem pcieWrite_servo (ho : findObj 0x5038 n = some o) (hn : 1 ≤ n) (hloc : locate s.caps false off false = some (.word o 0 0 0))
    (h8 : o.typ.bytes ≠ 8) (hv : v.toNat < 2 ^ 32)
    (hp : s.passes (s.pcieReq f) (putWordOf s (s.pcieReq f) ⟨0x5038, n, 0⟩ 0 v).1 = true) :
    (s.pcieWrite f false off false v).word 0x5038 0 n = v := by
  have hw : s.stir.wordWrite (s.pcieReq f) o 0 0 0 false v = (.ok, s.stir.putWord 0x5038 0 n v) := by
    refine wordWrite_servo ho hn h8 ?_
    rw [putWordOf_servo_eq ho, ← putWordOf_servo_eq ho s, (noted_stir s).passes]
    exact hp
  unfold State.pcieWrite
  simp only [ha, (noted_stir s).pcieOn, (noted_stir s).pcieReq, stir_caps, hon, hloc, low_of_lt hv, hw, Bool.not_true, Bool.false_eq_true,
    if_false, pcieSettle_done]
  exact word_putWord_same _ 0 n v rfl

end On
end Write

/-! ### Function Level Reset -/

/-- A function starts afresh: what becomes of open salvos tells no one of it, for it has no subscription any more (R338). -/
theorem pcieFlr_rest {s : State} {f : Nat} (h : f < s.host.pcie.length) : (s.pcieFlr f).host.pcie[f]? = some .rest := by
  obtain ⟨y, hy, -⟩ := (resetMaster_notesOnly s s.mastDie 8).function_some (List.getElem?_eq_getElem h)
  have hrest := function_withPcie hy fun _ => .rest
  unfold State.pcieFlr
  extract_lets u
  split
  · exact hrest
  · exact (closeSalvos_notesOnly ..).function_quiet hrest rfl

/-- Settles O28: what every access leaves that is refused, by how it is settled; each access by the register or the word that it names. -/
theorem theEndpointCarriesAccessesOut : Obligations.TheEndpointCarriesAccessesOut := by
  unfold Obligations.TheEndpointCarriesAccessesOut
  refine ⟨?read, ?write, ?cls, ?auth, ?subreq, ?flr⟩
  case read =>
    refine fun f x bar2 wide off e v o s => ⟨_, rfl, fun ha hon hx hbar hwide => ?control, fun ha hon hx => (pcieRead_off ha hon hx).status,
      pcieRead_dead, fun ha hon _ => pcieRead_word ha hon, fun ha hon => pcieRead_nowhere ha hon⟩
    case control =>
      subst hbar hwide
      exact pcieRead_control ha hon hx
  case write =>
    refine fun f x bar2 wide off n v o s => ⟨_, rfl, fun ha hon hx hbar hwide hoff => ?nqBase, fun ha hon hx => (pcieWrite_off ha hon hx).status,
      pcieWrite_dead, fun ha hon _ ho hn hbar hwide => ?servo, fun ha hon hx hloc => (pcieWrite_nowhere ha hon hx hloc).status⟩
    case nqBase =>
      subst hbar hwide hoff
      exact pcieWrite_nqBase ha hon hx
    case servo =>
      subst hbar hwide
      exact pcieWrite_servo ha hon ho hn
  case cls =>
    refine fun f x v s => ⟨_, rfl, fun ha hon hx hv hok => ?taken, fun ha hon hx => (pcieControl_off ha hon hx).status, pcieControl_dead,
      fun ha hon hx hv hno => ?barred, fun ha hon hx hv => ?range⟩
    case taken =>
      rw [pcieControl_ok ha hon (pcieClass_taken (stir_function hx) hv (by rwa [stir_fld]))]
      exact function_withPcie (stir_function hx) _
    case barred =>
      have hr := pcieControl_refused (off := 0) ha hon (k := fun _ s => s.pcieClass f v)
        (pcieClass_auth (stir_function hx) hv (by rwa [stir_fld])) (by decide) (stir_function hx)
      exact ⟨hr.cls, hr.status⟩
    case range =>
      have hr := pcieControl_refused (off := 0) ha hon (k := fun _ s => s.pcieClass f v) (pcieClass_range hv) (by decide) (stir_function hx)
      exact ⟨hr.cls, hr.status⟩
  case auth =>
    refine fun f x b s => ⟨_, rfl, fun ha hon hx => pcieControl_auth ha hon hx, fun ha hon hx => (pcieControl_off ha hon hx).status,
      pcieControl_dead, fun ha hon hx hno => ?range, fun ha hon hx hform hno => ?barred⟩
    case range =>
      have hr := pcieControl_refused (off := 0x150) ha hon (k := fun _ s => s.pcieAuth f b) (pcieAuth_range hno) (by decide) (stir_function hx)
      exact ⟨hr.authed, hr.status⟩
    case barred =>
      have hr := pcieControl_refused (off := 0x150) ha hon (k := fun _ s => s.pcieAuth f b) (pcieAuth_barred hform (by rwa [stir_fld]))
        (by decide) (stir_function hx)
      exact ⟨hr.authed, hr.status⟩
  case subreq =>
    refine fun f x lo hi a n p st s => ⟨_, rfl, fun ha hon hx hsub hn hp h2 hj => ?adds, fun ha hon hx => (pcieControl_off ha hon hx).status,
      pcieControl_dead, fun ha hon hx hsub hn hp h2 hj hst => ?addsNone, fun ha hon hx hsub hn hp h2 hj => ?ends⟩
    all_goals subst hsub hn hp
    case adds => exact subreq_adds ha hon hx h2 hj
    case addsNone => exact subreq_adds_none ha hon hx h2 hj hst
    case ends => exact subreq_ends ha hon hx h2 hj
  case flr => exact fun f s => ⟨_, rfl, pcieFlr_rest⟩

end Sys2Proof.Machine
end

section
/-! What every command and every step keeps: the canonical form of the tables, and the parts outside those that `touches` names. -/
namespace Sys2Proof.Machine

theorem exec_keepsCanon {c : Instr} {s t : State} (hs : s.Canon) (h : exec c s = .next t) : t.Canon := by
  obtain ⟨u, hu, hw⟩ := exec_within c s
  obtain rfl : u.settleIsolated = t := Host.Outcome.next.inj (hu.symm.trans h)
  exact (settleIsolated_within u).canon (hw.canon hs)

/-- Settles O53: a tick keeps the tables, and a command carried out keeps their form; the queue is not of it. -/
theorem everyStepKeepsTheTablesCanonical : Obligations.EveryStepKeepsTheTablesCanonical := by
  intro s t hs h
  unfold step at h
  split at h
  case h_1 =>
    obtain rfl := Host.Outcome.next.inj h
    exact (ticks_within s 1).canon hs
  case h_2 c rest _ => exact exec_keepsCanon (s := { s with pending := rest }) hs h

/-- Settles O54: a command keeps to its parts, and where no die is isolated in the end nothing else has happened. -/
theorem commandsChangeOnlyTheirParts : Obligations.CommandsChangeOnlyTheirParts := by
  intro c s t h hwhole
  obtain ⟨u, hu, hw⟩ := exec_within c s
  obtain rfl : u.settleIsolated = t := Host.Outcome.next.inj (hu.symm.trans h)
  rw [settleIsolated_whole hwhole]
  exact hw.agrees

/-- Settles O48: both tables of the reset state are short lists. -/
theorem resetIsCanonical : Obligations.ResetIsCanonical := ⟨⟨by decide, by decide⟩, rfl⟩

/-- Settles O46: `step` takes the queue apart. -/
theorem aStepCarriesOutTheFrontCommand : Obligations.AStepCarriesOutTheFrontCommand := fun _ _ _ => rfl

/-- Settles O50: the table spells no command. -/
theorem noWordSpellsACommand : Obligations.NoWordSpellsACommand := fun _ _ _ => ⟨rfl, rfl⟩

end Sys2Proof.Machine
end

section
/-! The settings store (R347, R348). -/
namespace Sys2Proof.Machine

/-! ### A generation starts -/

/-- Of the clock a generation holds the epoch and the sequence counter. -/
theorem nextImage_withClk (s : State) {c : Clk} (he : c.epoch = s.clk.epoch) (hp : c.pseq = s.clk.pseq) :
    ({ s with clk := c } : State).nextImage = s.nextImage := by
  unfold State.nextImage
  rw [he, hp]
  rfl

theorem nextImage_ticks (s : State) (n : Nat) : (s.ticks n).nextImage = s.nextImage := by
  unfold State.ticks
  generalize n * tickUnits = k
  exact nextImage_withClk s rfl rfl

theorem nextImage_waitUntil (s : State) (u : Nat) : (s.waitUntil u).nextImage = s.nextImage := nextImage_ticks s _

theorem nextImage_stir (s : State) : s.stir.nextImage = s.nextImage := by
  unfold State.stir
  split <;> rfl

theorem stir_save (s : State) : s.stir.save = s.save := (stir_within s).agrees.save rfl

theorem startGen_started (s : State) : s.startGen.save.writing = some s.nextImage ∧ s.startGen.fld F.SY_SAVE_WRITING 0 = 1 :=
  ⟨rfl, fld_setFld_of_lt s 0 1 rfl (by decide)⟩

theorem startGen_now (s : State) : s.startGen.now = s.now := rfl

theorem settingsTimer_starts {s : State} {due : Nat} (ht : s.save.timer = some due) (hw : s.save.writing = none) :
    s.settingsTimer.save.writing = some s.nextImage ∧ s.settingsTimer.fld F.SY_SAVE_WRITING 0 = 1 ∧ due ≤ s.settingsTimer.now := by
  have he : s.settingsTimer = (s.waitUntil due).startGen := by simp [State.settingsTimer, ht, hw]
  obtain ⟨hi, hf⟩ := startGen_started (s.waitUntil due)
  have hnow : (s.waitUntil due).startGen.now = (s.waitUntil due).now := startGen_now _
  rw [he, hnow, hi, nextImage_waitUntil]
  exact ⟨rfl, hf, le_now_waitUntil s due⟩

theorem settingsTimer_idle {s : State} (h : s.save.timer = none ∨ s.save.writing.isSome = true) : s.settingsTimer = s := by
  unfold State.settingsTimer
  split
  · rfl
  next t ht => exact if_pos (h.resolve_left (by simp [ht]))

/-! ### A generation is written -/

theorem oldCopy_lt (s : State) : s.oldCopy < 2 := by
  unfold State.oldCopy
  split <;> omega

theorem showSave_save (s : State) : s.showSave.save = s.save := (showSave_within s).agrees.save rfl

theorem showSave_writing (s : State) : s.showSave.fld F.SY_SAVE_WRITING 0 = s.fld F.SY_SAVE_WRITING 0 := by
  unfold State.showSave
  split <;> simp (disch := decide) only [fld_setFld_apart]

/-- The store once the copy has been read back: it is not written any more, and the older copy holds what was read. -/
def State.readBack (s : State) (img : SavedImage) (good : Bool) : State :=
  let t := (s.setFld F.SY_SAVE_WRITING 0 0).withSave fun x =>
    { x with writing := none, again := false, copies := x.copies.set s.oldCopy (if good then some img else none) }
  if good then (t.withSave fun x => { x with lastGen := t.now }).showSave else t

section WriteDone
variable {s : State} {img : SavedImage}

theorem readBack_store (good : Bool) :
    (s.readBack img good).save.copies = s.save.copies.set s.oldCopy (if good then some img else none) ∧
      (s.readBack img good).save.writing = none ∧ (s.readBack img good).save.timer = s.save.timer := by
  cases good
  · exact ⟨rfl, rfl, rfl⟩
  · simp only [State.readBack, if_true, showSave_save]
    exact ⟨rfl, rfl, rfl⟩

theorem readBack_writing (good : Bool) : (s.readBack img good).fld F.SY_SAVE_WRITING 0 = 0 := by
  have h0 : (s.setFld F.SY_SAVE_WRITING 0 0).fld F.SY_SAVE_WRITING 0 = 0 := fld_setFld_of_lt s 0 0 rfl (by decide)
  cases good
  · exact h0
  · exact (showSave_writing _).trans h0

theorem readBack_now (good : Bool) : (s.readBack img good).now = s.now := by
  cases good
  · rfl
  · exact congrArg Clk.mono ((showSave_within _).agrees.clk rfl)

/-- What is left to do: a timer for changes that came meanwhile, or for a copy that is no good. -/
theorem writeDone_eq (h : s.save.writing = some img) (good : Bool) :
    let t := s.readBack img good
    s.writeDone good = if s.save.again || !good then t.withSave fun x => { x with timer := some (x.timer.getD (t.now + secs 2)) }
      else if t.fw.held.isSome then t else t.setFld F.SY_SAVE_DIRTY 0 0 := by
  cases good <;> simp only [State.writeDone, h] <;> rfl

theorem writeDone_store (h : s.save.writing = some img) (good : Bool) :
    let t := s.writeDone good
    t.save.copies = s.save.copies.set s.oldCopy (if good then some img else none) ∧ t.save.writing = none ∧
      t.fld F.SY_SAVE_WRITING 0 = 0 := by
  obtain ⟨hc, hw, -⟩ := readBack_store (s := s) (img := img) good
  have hf := readBack_writing (s := s) (img := img) good
  rw [writeDone_eq h]
  dsimp only
  split
  · exact ⟨hc, hw, hf⟩
  · split
    · exact ⟨hc, hw, hf⟩
    · exact ⟨hc, hw, (fld_setFld_apart _ _ _ _ rfl).trans hf⟩

theorem writeDone_bad (h : s.save.writing = some img) :
    (s.writeDone false).save.timer = some (s.save.timer.getD (s.now + secs 2)) := by
  rw [writeDone_eq h]
  simp only [Bool.not_false, Bool.or_true, if_true, withSave_save, readBack_now, (readBack_store (s := s) (img := img) false).2.2]

theorem writeDone_copied (h : s.save.writing = some img) (hl : s.save.copies.length = 2) (good : Bool) :
    (s.writeDone good).save.copies[s.oldCopy]? = some (if good then some img else none) := by
  rw [(writeDone_store h good).1, List.getElem?_set_self (by rw [hl]; exact oldCopy_lt s)]

theorem writeDone_idle (h : s.save.writing = none) (good : Bool) : s.writeDone good = s := by simp [State.writeDone, h]

end WriteDone

/-! ### `SY_SAVE.03` (R348) -/

section Asked
variable {s t : State} {rq : Req} {hw : HostWrite} {own : State → Status × State}

/-- A write that its object takes: the answer, and what comes after the object's own part. -/
theorem passed_stored (hp : s.passes rq hw = true) (ho : own s.stir = (.ok, t)) :
    Within Parts.plainly t (s.request rq hw own) ∧ (s.request rq hw own).replied hw.addr .ok :=
  ⟨passed_plain_within hp ho rfl, passed_replied hp ho (by decide)⟩

theorem flush_starts (hp : s.passes rq (putSave 1).1 = true) (hw : s.save.writing = none) :
    let t := s.request rq (putSave 1).1 (putSave 1).2
    t.save.writing = some s.nextImage ∧ t.fld F.SY_SAVE_WRITING 0 = 1 ∧ t.replied ⟨0x1028, 3, 0⟩ .ok := by
  have ho : (putSave 1).2 s.stir = (.ok, s.stir.startGen) := by simp [putSave, stir_save, hw]
  obtain ⟨hin, hr⟩ := passed_stored hp ho
  obtain ⟨hi, hf⟩ := startGen_started s.stir
  exact ⟨(congrArg SaveState.writing (hin.agrees.save rfl)).trans (hi.trans (congrArg some (nextImage_stir s))),
    (hin.fld_eq rfl 0).trans hf, hr⟩

theorem flush_busy (hp : s.passes rq (putSave 1).1 = true) (hw : s.save.writing.isSome = true) :
    let t := s.request rq (putSave 1).1 (putSave 1).2
    t.save = s.save ∧ t.replied ⟨0x1028, 3, 0⟩ .busy := by
  have ho : (putSave 1).2 s.stir = (.busy, s.stir) := by simp [putSave, stir_save, hw]
  obtain ⟨hin, hr⟩ := passed_refused hp ho rfl (by decide)
  exact ⟨hin.agrees.save rfl, hr⟩

/-- DEFAULTS and KEEP. -/
theorem restoration_set {v : W} (hv : v ≠ 1) (hp : s.passes rq (putSave v).1 = true) :
    let t := s.request rq (putSave v).1 (putSave v).2
    t.fld F.SY_SAVE_DEFAULTS 0 = flag (v == 2) ∧ t.replied ⟨0x1028, 3, 0⟩ .ok := by
  have ho : (putSave v).2 s.stir = (.ok, s.stir.setFld F.SY_SAVE_DEFAULTS 0 (flag (v == 2))) := if_neg hv
  obtain ⟨hin, hr⟩ := passed_stored hp ho
  refine ⟨(hin.fld_eq rfl 0).trans (fld_setFld_of_lt _ 0 _ rfl ?_), hr⟩
  unfold flag
  split <;> decide

end Asked

/-- Settles O29: the timer and FLUSH start a generation, and the read-back ends it; roles as O44 has them. -/
theorem theSettingsAreSaved : Obligations.TheSettingsAreSaved := by
  unfold Obligations.TheSettingsAreSaved
  refine ⟨?timer, ?done, ?flush, ?defaults, ?keep, ?role⟩
  case timer => exact fun due s => ⟨_, rfl, settingsTimer_starts, settingsTimer_idle⟩
  case done =>
    refine fun good img s => ⟨_, rfl, fun hw hl => ?_, fun hw => writeDone_idle hw good⟩
    obtain ⟨-, hn, hf⟩ := writeDone_store hw good
    refine ⟨writeDone_copied hw hl good, hn, hf, ?_⟩
    rintro rfl
    exact writeDone_bad hw
  case flush => exact fun rq s => ⟨_, rfl, flush_starts, flush_busy⟩
  case defaults => exact fun rq s => ⟨_, rfl, restoration_set (by decide)⟩
  case keep => exact fun rq s => ⟨_, rfl, restoration_set (by decide)⟩
  case role =>
    refine fun rq v s => ⟨_, rfl, fun hp hm ha => ?_, fun hp hm => ?_, fun hp hm ha => ?_⟩
    · obtain ⟨hr, hv, -⟩ := roleWrite_accepted hp hm ha
      exact ⟨(read_role _).symm.trans hv, hr⟩
    · obtain ⟨hr, hk, -⟩ := roleWrite_refused hp (putRole_otherMode (by simpa using hm)) rfl (by decide)
      exact ⟨hk ⟨0x1018, 0, 0⟩ (by decide), hr⟩
    · obtain ⟨hr, hk, -⟩ := roleWrite_refused hp (putRole_notAccepted (by simpa using hm) (by simpa using ha)) rfl (by decide)
      exact ⟨hk ⟨0x1018, 0, 0⟩ (by decide), hr⟩

end Sys2Proof.Machine
end

section
/-! Engines moved, retired, restored and tested (R360–R364). -/
namespace Sys2Proof.Machine

/-! ### A field of one element beside another element's -/

/-- A notified write of an element leaves the field of every other element. -/
theorem fld_setNotify_elsewhere (s : State) {f : Fld} {e d : Nat} (hd : d ≠ e) (m : takesIn Parts.notify f.ix = false) (v : Nat) :
    (s.setNotify f e v).fld f d = s.fld f d :=
  ((setNotify_keepsOthers s f rfl m v).word ⟨f.ix, d, f.w⟩ rfl hd).fld

/-- So a field that had the value of a notified write in one element has it in both. -/
theorem fld_setNotify_both (s : State) {f : Fld} {e d v : Nat} (h : f.fitsWord = true) (m : takesIn Parts.notify f.ix = false)
    (hv : v < 2 ^ f.len) (hd : s.fld f d = v) : (s.setNotify f e v).fld f d = v := by
  by_cases hde : d = e
  · rw [hde, fld_setNotify_same s e v h m, Nat.mod_eq_of_lt hv]
  · rw [fld_setNotify_elsewhere s hde m, hd]

/-! ### The state of an engine -/

section Engine
variable (s : State) (e : Nat)

theorem setEngine_engine {n : Nat} (hn : n < 16) : (s.setEngine e n).engine e = n :=
  (fld_setNotify_same s e n rfl rfl).trans (Nat.mod_eq_of_lt hn)

theorem setEngine_ic (n : Nat) : (s.setEngine e n).ic = s.ic := (setEngine_within ..).agrees.ic rfl

/-- The queue of hand-overs with one more. -/
def State.queueMove (s : State) (x : Nat × Nat × Bool) : State := { s with ic := { s.ic with moving := s.ic.moving ++ [x] } }

theorem beginMove_self (retire : Bool) : s.beginMove e e retire = (s.queueMove (e, e, retire)).setEngine e engMOVING := if_pos rfl

theorem beginMove_other {n : Nat} (hn : n ≠ e) (retire : Bool) :
    s.beginMove e n retire = ((s.queueMove (e, n, retire)).setEngine e engMOVING).setEngine n engMOVING := if_neg hn

theorem setEngine_both {n : Nat} : ((s.setEngine e engMOVING).setEngine n engMOVING).engine e = engMOVING :=
  fld_setNotify_both (s.setEngine e engMOVING) rfl rfl (by decide) (setEngine_engine s e (by decide))

theorem beginMove_moving (n : Nat) (retire : Bool) :
    (s.beginMove e n retire).engine e = engMOVING ∧ (s.beginMove e n retire).engine n = engMOVING ∧
      (s.beginMove e n retire).ic.moving = s.ic.moving ++ [(e, n, retire)] := by
  by_cases hn : n = e
  · subst hn
    have h := beginMove_self s n retire
    have hm : (s.beginMove n n retire).engine n = engMOVING := (congrArg (·.engine n) h).trans (setEngine_engine _ n (by decide))
    exact ⟨hm, hm, congrArg IcState.moving ((congrArg State.ic h).trans (setEngine_ic ..))⟩
  · have h := beginMove_other s e hn retire
    refine ⟨(congrArg (·.engine e) h).trans (setEngine_both _ e), (congrArg (·.engine n) h).trans (setEngine_engine _ n (by decide)), ?_⟩
    exact congrArg IcState.moving ((congrArg State.ic h).trans ((setEngine_ic ..).trans (setEngine_ic ..)))

/-- The mark of a failed engine among those kept, before the fields show it. -/
def State.retaining (s : State) (e : Nat) : State :=
  { s with ic := { s.ic with retained := if s.ic.retained.contains e then s.ic.retained else s.ic.retained ++ [e],
                             restoring := s.ic.restoring.filter (· != e) } }

theorem retain_eq : s.retain e = (((s.retaining e).setFld F.IC_ENGINE_RETAINED e 1).setEngine e engFAILED).markDirty := rfl

theorem retain_failed : (s.retain e).engine e = engFAILED ∧ (s.retain e).fld F.IC_ENGINE_RETAINED e = 1 := by
  rw [retain_eq]
  constructor
  · exact ((markDirty_within _).fld_eq (f := F.IC_ENGINE_STATE) rfl e).trans (setEngine_engine _ e (by decide))
  · exact ((markDirty_within _).fld_eq (f := F.IC_ENGINE_RETAINED) rfl e).trans
      ((fld_setNotify_apart _ e e engFAILED rfl rfl).trans (fld_setFld_of_lt (s.retaining e) e 1 rfl (by decide)))

theorem retain_ic : (s.retain e).ic = (s.retaining e).ic :=
  (congrArg State.ic (retain_eq s e)).trans (((markDirty_within _).agrees.ic rfl).trans (setEngine_ic ..))

theorem retain_place : (s.retain e).ic.place = s.ic.place :=
  (congrArg IcState.place (retain_ic s e)).trans rfl

end Engine

/-! ### `IC_ENG_CMD` (R363) -/

theorem engCmd_command (v : W) {c : Nat} (hc : c < 16) : F.IC_ENG_CMD_COMMAND.of (F.IC_ENG_CMD_COMMAND.put v c) = c :=
  (Fld.of_put_same rfl v c).trans (Nat.mod_eq_of_lt hc)

theorem stir_admits (s : State) : s.stir.admits = s.admits := by simp [State.admits]

theorem admits_awake {s : State} (h : s.admits = true) : s.stir = s := by
  refine stir_awake fun hm => ?_
  rw [State.admits, hm] at h
  exact absurd h (by decide)

theorem not_mix_of_essence {e : Nat} (h : isEssence e = true) : isMix e = false := by
  simp only [isEssence, isMix, decide_eq_true_eq, Bool.and_eq_false_iff, decide_eq_false_iff_not] at h ⊢
  omega

theorem not_essence_of_mix {e : Nat} (h : isMix e = true) : isEssence e = false :=
  Bool.not_eq_true _ ▸ fun he => Bool.noConfusion (h.symm.trans (not_mix_of_essence he))

section Command
variable {s : State} {rq : Req} {e n : Nat} {v : W}

theorem putEngCmd_mode (ha : s.admits = false) : (putEngCmd e v).2 s = (.mode, s) := by simp [putEngCmd, ha]

theorem putEngCmd_handing (ha : s.admits = true) (hh : s.handingOver = true) : (putEngCmd e v).2 s = (.busy, s) := by
  simp [putEngCmd, ha, hh]

theorem putEngCmd_move (ha : s.admits = true) (hh : s.handingOver = false) (he : s.engine e = engACTIVE)
    (hn : s.spareEngine (engDie e) = some n) :
    (putEngCmd e (F.IC_ENG_CMD_COMMAND.put v 1)).2 s = (.ok, s.beginMove e n false) := by
  simp [putEngCmd, engCmd_command, ha, hh, he, hn]

theorem putEngCmd_move_busy (ha : s.admits = true) (h : s.handingOver = true ∨ s.engine e ≠ engACTIVE ∨ s.spareEngine (engDie e) = none) :
    (putEngCmd e (F.IC_ENG_CMD_COMMAND.put v 1)).2 s = (.busy, s) := by
  rcases h with hh | he | hn
  · exact putEngCmd_handing ha hh
  · simp [putEngCmd, engCmd_command, ha, he]
  · simp [putEngCmd, engCmd_command, ha, hn]

theorem putEngCmd_retire (ha : s.admits = true) (hh : s.handingOver = false) (hn : s.spareEngine (engDie e) = some n)
    (hessence : isEssence e = true) (he : s.engine e = engACTIVE ∨ s.engine e = engSPARE) :
    (putEngCmd e (F.IC_ENG_CMD_COMMAND.put v 2)).2 s =
      (.ok, if s.engine e = engACTIVE then s.beginMove e n true else s.retain e) := by
  rcases he with he | he <;> simp [putEngCmd, engCmd_command, ha, hh, hn, hessence, he, not_mix_of_essence hessence]

theorem putEngCmd_retire_busy (ha : s.admits = true)
    (h : s.handingOver = true ∨ (isEssence e = true ∧ s.engine e ≠ engACTIVE ∧ s.engine e ≠ engSPARE) ∨ s.spareEngine (engDie e) = none) :
    (putEngCmd e (F.IC_ENG_CMD_COMMAND.put v 2)).2 s = (.busy, s) := by
  rcases h with hh | ⟨hessence, hactive, hspare⟩ | hn
  · exact putEngCmd_handing ha hh
  · simp [putEngCmd, engCmd_command, ha, hessence, hactive, hspare]
  · simp [putEngCmd, engCmd_command, ha, hn]

theorem putEngCmd_retire_mix (ha : s.admits = true) (hh : s.handingOver = false) (hn : s.spareEngine (engDie e) ≠ none)
    (hmix : isMix e = true) (he : s.engine e = engACTIVE) (h3 : 3 ≤ (s.mixes (engDie e)).length) :
    (putEngCmd e (F.IC_ENG_CMD_COMMAND.put v 2)).2 s = (.ok, s.beginMove e e true) := by
  obtain ⟨m, hm⟩ := Option.ne_none_iff_exists'.1 hn
  simp [putEngCmd, engCmd_command, ha, hh, hm, hmix, he, h3, not_essence_of_mix hmix]

/-- An engine that is restored is tested. -/
def State.beginRestore (s : State) (e : Nat) : State :=
  { s with ic := { s.ic with restoring := e :: s.ic.restoring.filter (· != e) } }.setEngine e engTESTING

theorem putEngCmd_restore (ha : s.admits = true) (hh : s.handingOver = false) (he : s.engine e = engFAILED) :
    (putEngCmd e (F.IC_ENG_CMD_COMMAND.put v 3)).2 s = (.ok, s.beginRestore e) := by
  simp [putEngCmd, engCmd_command, ha, hh, he, State.beginRestore]

theorem putEngCmd_restore_busy (ha : s.admits = true) (h : s.handingOver = true ∨ s.engine e ≠ engFAILED) :
    (putEngCmd e (F.IC_ENG_CMD_COMMAND.put v 3)).2 s = (.busy, s) := by
  rcases h with hh | he
  · exact putEngCmd_handing ha hh
  · simp [putEngCmd, engCmd_command, ha, he]

theorem putEngCmd_test (ha : s.admits = true) (hh : s.handingOver = false) (he : s.engine e = engSPARE) :
    (putEngCmd e (F.IC_ENG_CMD_COMMAND.put v 4)).2 s = (.ok, s.setEngine e engTESTING) := by
  simp [putEngCmd, engCmd_command, ha, hh, he]

theorem putEngCmd_test_busy (ha : s.admits = true) (h : s.handingOver = true ∨ s.engine e ≠ engSPARE) :
    (putEngCmd e (F.IC_ENG_CMD_COMMAND.put v 4)).2 s = (.busy, s) := by
  rcases h with hh | he
  · exact putEngCmd_handing ha hh
  · simp [putEngCmd, engCmd_command, ha, he]

/-- A refused command of an engine changes neither the engine nor the crossbar's part. -/
theorem engCmd_refused {st : Status} (hp : s.passes rq (putEngCmd e v).1 = true) (ho : (putEngCmd e v).2 s.stir = (st, s.stir))
    (hv : st.violation = false) (hf : st ≠ .forwarded) :
    let t := s.request rq (putEngCmd e v).1 (putEngCmd e v).2
    t.ic = s.ic ∧ t.engine e = s.engine e ∧ t.replied ⟨0x6828, 0, e⟩ st := by
  obtain ⟨hin, hr⟩ := passed_refused hp ho hv hf
  exact ⟨hin.agrees.ic rfl, hin.fld_eq rfl e, hr⟩

theorem engCmd_mode (hp : s.passes rq (putEngCmd e v).1 = true) (ha : s.admits = false) :
    let t := s.request rq (putEngCmd e v).1 (putEngCmd e v).2
    t.ic = s.ic ∧ t.engine e = s.engine e ∧ t.replied ⟨0x6828, 0, e⟩ .mode :=
  engCmd_refused hp (putEngCmd_mode (by rwa [stir_admits])) rfl (by decide)

theorem engCmd_busy (hp : s.passes rq (putEngCmd e v).1 = true) (ha : s.admits = true) (ho : (putEngCmd e v).2 s = (.busy, s)) :
    let t := s.request rq (putEngCmd e v).1 (putEngCmd e v).2
    t.ic = s.ic ∧ t.engine e = s.engine e ∧ t.replied ⟨0x6828, 0, e⟩ .busy :=
  engCmd_refused hp (by rw [admits_awake ha, ho]) rfl (by decide)

/-- What a command that is taken does to the engines, the answer leaves. -/
theorem engCmd_taken {u : State} (hp : s.passes rq (putEngCmd e v).1 = true) (ha : s.admits = true)
    (ho : (putEngCmd e v).2 s = (.ok, u)) :
    let t := s.request rq (putEngCmd e v).1 (putEngCmd e v).2
    t.ic = u.ic ∧ (∀ d, t.engine d = u.engine d) ∧ t.fld F.IC_ENGINE_RETAINED e = u.fld F.IC_ENGINE_RETAINED e ∧
      t.replied ⟨0x6828, 0, e⟩ .ok := by
  obtain ⟨hin, hr⟩ := passed_stored hp ((congrArg _ (admits_awake ha)).trans ho)
  exact ⟨hin.agrees.ic rfl, fun d => hin.fld_eq (f := F.IC_ENGINE_STATE) rfl d, hin.fld_eq (f := F.IC_ENGINE_RETAINED) rfl e, hr⟩

theorem engCmd_begins {r : Bool} (hp : s.passes rq (putEngCmd e v).1 = true) (ha : s.admits = true)
    (ho : (putEngCmd e v).2 s = (.ok, s.beginMove e n r)) :
    let t := s.request rq (putEngCmd e v).1 (putEngCmd e v).2
    t.engine e = engMOVING ∧ t.engine n = engMOVING ∧ t.ic.moving = s.ic.moving ++ [(e, n, r)] ∧ t.replied ⟨0x6828, 0, e⟩ .ok := by
  obtain ⟨hic, he, -, hr⟩ := engCmd_taken hp ha ho
  obtain ⟨hmoves, htakes, hqueue⟩ := beginMove_moving s e n r
  exact ⟨(he e).trans hmoves, (he n).trans htakes, (congrArg IcState.moving hic).trans hqueue, hr⟩

theorem engineRetire_taken (hp : s.passes rq (putEngCmd e (F.IC_ENG_CMD_COMMAND.put v 2)).1 = true) (ha : s.admits = true)
    (hh : s.handingOver = false) (hn : s.spareEngine (engDie e) = some n) (hessence : isEssence e = true)
    (he : s.engine e = engACTIVE ∨ s.engine e = engSPARE) :
    let x := putEngCmd e (F.IC_ENG_CMD_COMMAND.put v 2)
    let t := s.request rq x.1 x.2
    if s.engine e = engACTIVE then t.engine e = engMOVING ∧ t.ic.moving = s.ic.moving ++ [(e, n, true)]
    else t.engine e = engFAILED ∧ t.fld F.IC_ENGINE_RETAINED e = 1 ∧ t.replied ⟨0x6828, 0, e⟩ .ok := by
  have ho := putEngCmd_retire (v := v) ha hh hn hessence he
  intro x t
  split
  next hactive =>
    rw [if_pos hactive] at ho
    obtain ⟨hmoves, -, hqueue, -⟩ := engCmd_begins hp ha ho
    exact ⟨hmoves, hqueue⟩
  next hspare =>
    rw [if_neg hspare] at ho
    obtain ⟨-, heng, hret, hr⟩ := engCmd_taken hp ha ho
    obtain ⟨hfailed, hmark⟩ := retain_failed s e
    exact ⟨(heng e).trans hfailed, hret.trans hmark, hr⟩

theorem engineRestore_taken (hp : s.passes rq (putEngCmd e (F.IC_ENG_CMD_COMMAND.put v 3)).1 = true) (ha : s.admits = true)
    (hh : s.handingOver = false) (he : s.engine e = engFAILED) :
    let x := putEngCmd e (F.IC_ENG_CMD_COMMAND.put v 3)
    let t := s.request rq x.1 x.2
    t.engine e = engTESTING ∧ t.ic.restoring.contains e = true ∧ t.replied ⟨0x6828, 0, e⟩ .ok := by
  obtain ⟨hic, heng, -, hr⟩ := engCmd_taken hp ha (putEngCmd_restore ha hh he)
  refine ⟨(heng e).trans (setEngine_engine _ e (by decide)), ?_, hr⟩
  rw [hic, State.beginRestore, setEngine_ic]
  simp

theorem engineTest_taken (hp : s.passes rq (putEngCmd e (F.IC_ENG_CMD_COMMAND.put v 4)).1 = true) (ha : s.admits = true)
    (hh : s.handingOver = false) (he : s.engine e = engSPARE) :
    let x := putEngCmd e (F.IC_ENG_CMD_COMMAND.put v 4)
    let t := s.request rq x.1 x.2
    t.engine e = engTESTING ∧ t.replied ⟨0x6828, 0, e⟩ .ok := by
  obtain ⟨-, heng, -, hr⟩ := engCmd_taken hp ha (putEngCmd_test ha hh he)
  exact ⟨(heng e).trans (setEngine_engine _ e (by decide)), hr⟩

theorem engineMove_taken (hp : s.passes rq (putEngCmd e (F.IC_ENG_CMD_COMMAND.put v 1)).1 = true) (ha : s.admits = true)
    (hh : s.handingOver = false) (he : s.engine e = engACTIVE) (hn : s.spareEngine (engDie e) = some n) :
    let x := putEngCmd e (F.IC_ENG_CMD_COMMAND.put v 1)
    let t := s.request rq x.1 x.2
    t.engine e = engMOVING ∧ t.engine n = engMOVING ∧ t.ic.moving = s.ic.moving ++ [(e, n, false)] ∧ t.replied ⟨0x6828, 0, e⟩ .ok :=
  engCmd_begins hp ha (putEngCmd_move ha hh he hn)

theorem engineRetire_mix (hp : s.passes rq (putEngCmd e (F.IC_ENG_CMD_COMMAND.put v 2)).1 = true) (ha : s.admits = true)
    (hh : s.handingOver = false) (hn : s.spareEngine (engDie e) ≠ none) (hmix : isMix e = true) (he : s.engine e = engACTIVE)
    (h3 : 3 ≤ (s.mixes (engDie e)).length) :
    let x := putEngCmd e (F.IC_ENG_CMD_COMMAND.put v 2)
    let t := s.request rq x.1 x.2
    t.engine e = engMOVING ∧ t.ic.moving = s.ic.moving ++ [(e, e, true)] ∧ t.replied ⟨0x6828, 0, e⟩ .ok := by
  obtain ⟨hmoves, -, hqueue⟩ := engCmd_begins hp ha (putEngCmd_retire_mix ha hh hn hmix he h3)
  exact ⟨hmoves, hqueue⟩

theorem engineMove_busy (hp : s.passes rq (putEngCmd e (F.IC_ENG_CMD_COMMAND.put v 1)).1 = true) (ha : s.admits = true)
    (hb : s.handingOver = true ∨ s.engine e ≠ engACTIVE ∨ s.spareEngine (engDie e) = none) :
    let x := putEngCmd e (F.IC_ENG_CMD_COMMAND.put v 1)
    let t := s.request rq x.1 x.2
    t.ic = s.ic ∧ t.engine e = s.engine e ∧ t.replied ⟨0x6828, 0, e⟩ .busy :=
  engCmd_busy hp ha (putEngCmd_move_busy ha hb)

theorem engineRetire_busy (hp : s.passes rq (putEngCmd e (F.IC_ENG_CMD_COMMAND.put v 2)).1 = true) (ha : s.admits = true)
    (hb : s.handingOver = true ∨ (isEssence e = true ∧ s.engine e ≠ engACTIVE ∧ s.engine e ≠ engSPARE) ∨ s.spareEngine (engDie e) = none) :
    let x := putEngCmd e (F.IC_ENG_CMD_COMMAND.put v 2)
    let t := s.request rq x.1 x.2
    t.ic = s.ic ∧ t.engine e = s.engine e ∧ t.replied ⟨0x6828, 0, e⟩ .busy :=
  engCmd_busy hp ha (putEngCmd_retire_busy ha hb)

theorem engineRestore_busy (hp : s.passes rq (putEngCmd e (F.IC_ENG_CMD_COMMAND.put v 3)).1 = true) (ha : s.admits = true)
    (hb : s.handingOver = true ∨ s.engine e ≠ engFAILED) :
    let x := putEngCmd e (F.IC_ENG_CMD_COMMAND.put v 3)
    let t := s.request rq x.1 x.2
    t.ic = s.ic ∧ t.engine e = s.engine e ∧ t.replied ⟨0x6828, 0, e⟩ .busy :=
  engCmd_busy hp ha (putEngCmd_restore_busy ha hb)

theorem engineTest_busy (hp : s.passes rq (putEngCmd e (F.IC_ENG_CMD_COMMAND.put v 4)).1 = true) (ha : s.admits = true)
    (hb : s.handingOver = true ∨ s.engine e ≠ engSPARE) :
    let x := putEngCmd e (F.IC_ENG_CMD_COMMAND.put v 4)
    let t := s.request rq x.1 x.2
    t.ic = s.ic ∧ t.engine e = s.engine e ∧ t.replied ⟨0x6828, 0, e⟩ .busy :=
  engCmd_busy hp ha (putEngCmd_test_busy ha hb)

end Command

/-! ### Tests end, engines fail (R362, R363) -/

section Ends
variable {s : State} {e : Nat}

theorem engineTestDone_passes (ht : s.engine e = engTESTING) :
    (s.engineTestDone e true).engine e = if s.ic.restoring.contains e && isMix e then engACTIVE else engSPARE := by
  unfold State.engineTestDone
  rw [ht]
  simp only [bne_self_eq_false, Bool.false_eq_true, if_false, if_true]
  cases s.ic.restoring.contains e
  · exact setEngine_engine s e (by decide)
  · simp only [if_true, Bool.true_and]
    split <;> exact setEngine_engine _ e (by decide)

theorem engineTestDone_fails (ht : s.engine e = engTESTING) (hr : s.ic.restoring.contains e = true) :
    (s.engineTestDone e false).engine e = engFAILED := by
  unfold State.engineTestDone
  rw [ht, hr]
  exact setEngine_engine _ e (by decide)

theorem engineTestDone_idle (ht : s.engine e ≠ engTESTING) (pass : Bool) : s.engineTestDone e pass = s :=
  if_pos (bne_iff_ne.2 ht)

theorem engMaster_of_essence (h : isEssence e = true) : engMaster e = none := by
  have hlt : engNo e < 18 := of_decide_eq_true h
  unfold engMaster
  split <;> first | omega | rfl

/-- The queue of hand-overs without one. -/
def State.dropMove (s : State) (x : Nat × Nat × Bool) : State := { s with ic := { s.ic with moving := s.ic.moving.filter (· != x) } }

theorem dropMove_place (s : State) (x : Nat × Nat × Bool) : (s.dropMove x).ic.place = s.ic.place := rfl

theorem abandonMove_some {s : State} {e : Nat} {x : Nat × Nat × Bool} (h : (s.ic.moving.find? fun x => x.1 == e || x.2.1 == e) = some x) :
    s.abandonMove e = (if x.2.1 = x.1 then s.dropMove x else (s.dropMove x).setEngine x.2.1 engSPARE).setEngine x.1 engACTIVE := by
  unfold State.abandonMove
  rw [h]
  rfl

theorem abandonMove_none {s : State} {e : Nat} (h : (s.ic.moving.find? fun x => x.1 == e || x.2.1 == e) = none) :
    s.abandonMove e = s := by
  unfold State.abandonMove
  rw [h]

theorem abandonMove_place (s : State) (e : Nat) : (s.abandonMove e).ic.place = s.ic.place := by
  cases h : s.ic.moving.find? fun x => x.1 == e || x.2.1 == e with
  | none => rw [abandonMove_none h]
  | some x =>
    refine (congrArg (·.ic.place) (abandonMove_some h)).trans ((congrArg IcState.place (setEngine_ic ..)).trans ?_)
    split
    · exact dropMove_place s x
    · exact (congrArg IcState.place (setEngine_ic (s.dropMove x) ..)).trans (dropMove_place s x)

/-- A self-test that fails is counted, and a move that the engine was in is abandoned. -/
def State.leaveWork (s : State) (e c : Nat) : State := (if c = 3 then s.bump F.IC_ENGINE_STFAIL e 1 else s).abandonMove e

theorem leaveWork_place (s : State) (e c : Nat) : (s.leaveWork e c).ic.place = s.ic.place := by
  refine (abandonMove_place ..).trans ?_
  split
  · rfl
  · rfl

theorem engineOut_idle {report : State → Level → Nat → State} {c : Nat}
    (h : s.dies ≤ engDie e ∨ s.engine e = engFAILED ∨ s.sys.isolated.contains (engDie e) = true) : s.engineOut e c report = s :=
  if_pos (by rcases h with h | h | h <;> simp only [decide_eq_true_eq, Bool.or_eq_true, beq_iff_eq, h, true_or, or_true])

/-- An essence engine that carries no port fails. -/
theorem engineOut_unloaded {report : State → Level → Nat → State} {c : Nat} (hd : engDie e < s.dies) (hessence : isEssence e = true)
    (he : s.engine e ≠ engFAILED) (hi : s.sys.isolated.contains (engDie e) = false)
    (hp : (s.ic.place.any fun x => x.2.2 == e) = false) :
    s.engineOut e c report = report (((s.leaveWork e c).setEngine e engFAILED).retain e) .degrade 0xFFFF := by
  have hs : ¬ (s.dies ≤ engDie e || s.engine e == engFAILED || s.sys.isolated.contains (engDie e)) = true := by
    rw [hi]; simpa using ⟨hd, he⟩
  have hc : ((s.leaveWork e c).ic.place.any fun x => x.2.2 == e) = false := by rw [leaveWork_place, hp]
  refine (if_neg hs).trans ?_
  rw [engMaster_of_essence hessence]
  refine (if_pos hessence).trans (if_pos ?_)
  exact congrArg Bool.not hc

theorem engineFail_essence {c : Nat} (hd : engDie e < s.dies) (hessence : isEssence e = true) (he : s.engine e ≠ engFAILED)
    (hi : s.sys.isolated.contains (engDie e) = false) (hp : (s.ic.place.any fun x => x.2.2 == e) = false) :
    let t := s.engineFail e c
    t.engine e = engFAILED ∧ t.fld F.IC_ENGINE_RETAINED e = 1 ∧ t.ic.place = s.ic.place := by
  intro t
  have h : t = _ := engineOut_unloaded hd hessence he hi hp
  rw [h]
  obtain ⟨hfailed, hmark⟩ := retain_failed ((s.leaveWork e c).setEngine e engFAILED) e
  have hin := raiseAt_within (((s.leaveWork e c).setEngine e engFAILED).retain e) 0x6803 .degrade (engDie e) e c 0xFFFF false
  refine ⟨(hin.fld_eq (f := F.IC_ENGINE_STATE) rfl e).trans hfailed, (hin.fld_eq (f := F.IC_ENGINE_RETAINED) rfl e).trans hmark, ?_⟩
  refine (congrArg IcState.place (hin.agrees.ic rfl)).trans ((retain_place ..).trans ?_)
  exact (congrArg IcState.place (setEngine_ic ..)).trans (leaveWork_place s e c)

theorem engineFail_idle {c : Nat} (h : s.dies ≤ engDie e ∨ s.engine e = engFAILED ∨ s.sys.isolated.contains (engDie e) = true) :
    s.engineFail e c = s := engineOut_idle h

end Ends

end Sys2Proof.Machine
end

section
/-! Jobs of the CRC units (R366–R370), and the statement of engines and CRC units. -/
namespace Sys2Proof.Machine

theorem stir_crcSource (s : State) (rq : Req) (u : Nat) (ws : List (Nat × W)) : s.stir.crcSource rq u ws = s.crcSource rq u ws := by
  unfold State.stir
  split <;> rfl

/-- The words of a start begin with a word 0 whose OP is start. -/
theorem crcWrites_starts (s : State) (u : Nat) (ws : List W) : ∃ v l, s.crcWrites u ws = (0, F.IC_CRC_OP.put v 1) :: l := by
  cases ws with
  | nil => exact ⟨_, _, rfl⟩
  | cons w ws =>
    refine ⟨w, ((ws.take 6).zipIdx 1).map fun x => (x.2, if x.2 = 0 then F.IC_CRC_OP.put x.1 1 else x.1), ?_⟩
    simp [State.crcWrites]

theorem crcOp_put (v : W) {n : Nat} (hn : n < 4) : F.IC_CRC_OP.of (F.IC_CRC_OP.put v n) = n :=
  (Fld.of_put_same rfl v n).trans (Nat.mod_eq_of_lt hn)

/-- None of the checks on a job's source sends the request on. -/
theorem crcSource_not_forwarded (s : State) (rq : Req) (u : Nat) (ws : List (Nat × W)) : s.crcSource rq u ws ≠ some .forwarded := by
  simp only [State.crcSource]
  repeat' split
  all_goals exact fun h => nomatch h

/-- The job begun: its words stored, nothing done yet, and the unit running. -/
def State.startCrc (s : State) (u : Nat) (ws : List (Nat × W)) : State :=
  (((s.storeCrc u ws).setWord 0x6830 u 7 (F.IC_CRC_STATE.put 0 ((s.storeCrc u ws).fld F.IC_CRC_STATE u))).setWord 0x6830 u 8 0).setNotify
    F.IC_CRC_STATE u crRUNNING

section Job
variable {s : State} {rq : Req} {u : Nat} {ws : List W}

theorem putCrc_start (hc : s.crcSource rq u (s.crcWrites u ws) = none) (hr : s.fld F.IC_CRC_STATE u ≠ crRUNNING) :
    (putCrc s rq u (s.crcWrites u ws)).2 s.stir = (.ok, s.stir.startCrc u (s.crcWrites u ws)) := by
  obtain ⟨v, l, hw⟩ := crcWrites_starts s u ws
  rw [hw] at hc ⊢
  simp [putCrc, crcOp_put, stir_crcSource, hc, stir_fld, hr, State.startCrc]

theorem putCrc_start_busy (hc : s.crcSource rq u (s.crcWrites u ws) = none) (hr : s.fld F.IC_CRC_STATE u = crRUNNING) :
    (putCrc s rq u (s.crcWrites u ws)).2 s.stir = (.busy, s.stir) := by
  obtain ⟨v, l, hw⟩ := crcWrites_starts s u ws
  rw [hw] at hc ⊢
  simp [putCrc, crcOp_put, stir_crcSource, hc, stir_fld, hr]

theorem putCrc_start_barred {st : Status} (hc : s.crcSource rq u (s.crcWrites u ws) = some st) :
    (putCrc s rq u (s.crcWrites u ws)).2 s.stir = (st, s.stir) := by
  obtain ⟨v, l, hw⟩ := crcWrites_starts s u ws
  rw [hw] at hc ⊢
  simp [putCrc, crcOp_put, stir_crcSource, hc]

theorem startCrc_running (s : State) (u : Nat) (l : List (Nat × W)) :
    (s.startCrc u l).fld F.IC_CRC_STATE u = crRUNNING ∧ (s.startCrc u l).word 0x6830 u 8 = 0 := by
  constructor
  · exact (fld_setNotify_same _ u _ rfl rfl).trans rfl
  · exact Eq.trans (KeepsWord.setNotify _ (f := F.IC_CRC_STATE) (k := ⟨0x6830, u, 8⟩) (by simp) rfl) (word_setWord_same ..)

theorem crcStart_runs (hp : s.passes rq (putCrc s rq u (s.crcWrites u ws)).1 = true)
    (hc : s.crcSource rq u (s.crcWrites u ws) = none) (hr : s.fld F.IC_CRC_STATE u ≠ crRUNNING) :
    let x := putCrc s rq u (s.crcWrites u ws)
    let t := s.request rq x.1 x.2
    t.fld F.IC_CRC_STATE u = crRUNNING ∧ t.word 0x6830 u 8 = 0 ∧ t.replied ⟨0x6830, 0, u⟩ .ok := by
  obtain ⟨hin, hok⟩ := passed_stored hp (putCrc_start hc hr)
  obtain ⟨hrun, hzero⟩ := startCrc_running s.stir u (s.crcWrites u ws)
  exact ⟨(hin.fld_eq (f := F.IC_CRC_STATE) rfl u).trans hrun, (hin.word_eq rfl u 8).trans hzero, hok⟩

theorem crcStart_busy (hp : s.passes rq (putCrc s rq u (s.crcWrites u ws)).1 = true)
    (hc : s.crcSource rq u (s.crcWrites u ws) = none) (hr : s.fld F.IC_CRC_STATE u = crRUNNING) :
    let x := putCrc s rq u (s.crcWrites u ws)
    let t := s.request rq x.1 x.2
    t.fld F.IC_CRC_STATE u = crRUNNING ∧ t.replied ⟨0x6830, 0, u⟩ .busy := by
  obtain ⟨hin, hbusy⟩ := passed_refused hp (putCrc_start_busy hc hr) rfl (by decide)
  exact ⟨(hin.fld_eq (f := F.IC_CRC_STATE) rfl u).trans hr, hbusy⟩

theorem crcStart_barred (hp : s.passes rq (putCrc s rq u (s.crcWrites u ws)).1 = true)
    (hc : s.crcSource rq u (s.crcWrites u ws) ≠ none) :
    let x := putCrc s rq u (s.crcWrites u ws)
    let t := s.request rq x.1 x.2
    t.fld F.IC_CRC_STATE u = s.fld F.IC_CRC_STATE u ∧
      t.replied ⟨0x6830, 0, u⟩ ((s.crcSource rq u (s.crcWrites u ws)).getD .ok) := by
  obtain ⟨st, hst⟩ := Option.ne_none_iff_exists'.1 hc
  have hf : st ≠ .forwarded := fun h => crcSource_not_forwarded s rq u _ (h ▸ hst)
  have ho := putCrc_start_barred hst
  refine ⟨((passed_within hp ho).fld_eq (f := F.IC_CRC_STATE) rfl u).trans (stir_fld ..), ?_⟩
  rw [hst]
  exact passed_replied hp ho hf

/-- The state an abort leaves, before the answer. -/
def State.abortCrc (s : State) (u : Nat) : State :=
  (((s.crcProgress u).resetMaster (u / 4) 7).bump F.IC_CRC_USE_JOBS (u / 4) 1).setNotify F.IC_CRC_STATE u crABORTED

theorem putCrc_abort {w : W} (hr : s.fld F.IC_CRC_STATE u = crRUNNING) :
    (putCrc s rq u [(0, F.IC_CRC_OP.put w 2)]).2 s.stir = (.ok, s.stir.abortCrc u) := by
  simp [putCrc, crcOp_put, stir_fld, hr, State.abortCrc]

theorem putCrc_abort_busy {w : W} (hr : s.fld F.IC_CRC_STATE u ≠ crRUNNING) :
    (putCrc s rq u [(0, F.IC_CRC_OP.put w 2)]).2 s.stir = (.busy, s.stir) := by
  simp [putCrc, crcOp_put, stir_fld, hr]

theorem crcAbort_ends {w : W} (hp : s.passes rq (putCrc s rq u [(0, F.IC_CRC_OP.put w 2)]).1 = true)
    (hr : s.fld F.IC_CRC_STATE u = crRUNNING) :
    let x := putCrc s rq u [(0, F.IC_CRC_OP.put w 2)]
    let t := s.request rq x.1 x.2
    t.fld F.IC_CRC_STATE u = crABORTED ∧ t.replied ⟨0x6830, 0, u⟩ .ok := by
  obtain ⟨hin, hok⟩ := passed_stored hp (putCrc_abort hr)
  exact ⟨(hin.fld_eq (f := F.IC_CRC_STATE) rfl u).trans ((fld_setNotify_same _ u _ rfl rfl).trans rfl), hok⟩

theorem crcAbort_busy {w : W} (hp : s.passes rq (putCrc s rq u [(0, F.IC_CRC_OP.put w 2)]).1 = true)
    (hr : s.fld F.IC_CRC_STATE u ≠ crRUNNING) :
    let x := putCrc s rq u [(0, F.IC_CRC_OP.put w 2)]
    let t := s.request rq x.1 x.2
    t.fld F.IC_CRC_STATE u = s.fld F.IC_CRC_STATE u ∧ t.replied ⟨0x6830, 0, u⟩ .busy := by
  obtain ⟨hin, hbusy⟩ := passed_refused hp (putCrc_abort_busy hr) rfl (by decide)
  exact ⟨hin.fld_eq (f := F.IC_CRC_STATE) rfl u, hbusy⟩

end Job

/-! ### The end of a job (R370) -/

/-- What the end of a host job leaves, with its RESULT, the bytes done and the CRC. -/
def State.finishCrc (s : State) (d k result bytes : Nat) (v : W) : State :=
  let u := d * 4 + (k - 4)
  ((((s.setFld F.IC_CRC_RESULT u result).setFld F.IC_CRC_DONEBYTES u bytes).setWord 0x6830 u 8 v).countCrc d k result).setNotify
    F.IC_CRC_STATE u crDONE

theorem finishCrc_word7 (s : State) (d k result bytes : Nat) (v : W) {f : Fld} (hf : f.ix = 0x6830) (hw : f.w = 7)
    (ha : f.apart F.IC_CRC_STATE = true) :
    let u := d * 4 + (k - 4)
    (s.finishCrc d k result bytes v).fld f u = ((s.setFld F.IC_CRC_RESULT u result).setFld F.IC_CRC_DONEBYTES u bytes).fld f u := by
  intro u
  refine (fld_setNotify_apart _ u u _ ha (hf ▸ rfl)).trans (((countCrc_within ..).fld_eq (hf ▸ rfl) u).trans ?_)
  exact congrArg (getBits · f.lo f.len) (word_setWord_other _ v (by simp [hw]))

theorem finishCrc_done (s : State) (d k result bytes : Nat) (v : W) :
    let u := d * 4 + (k - 4)
    let t := s.finishCrc d k result bytes v
    t.fld F.IC_CRC_STATE u = crDONE ∧ t.fld F.IC_CRC_RESULT u = result % 2 ^ F.IC_CRC_RESULT.len ∧
      t.fld F.IC_CRC_DONEBYTES u = bytes % 2 ^ F.IC_CRC_DONEBYTES.len := by
  intro u t
  refine ⟨(fld_setNotify_same _ u _ rfl rfl).trans rfl, ?_, ?_⟩
  · exact (finishCrc_word7 s d k result bytes v rfl rfl rfl).trans
      ((fld_setFld_apart _ u u bytes rfl).trans (fld_setFld_fits s u result rfl))
  · exact (finishCrc_word7 s d k result bytes v rfl rfl rfl).trans (fld_setFld_fits _ u bytes rfl)

section End
variable {s : State} {d k : Nat} {x : CrcEnd}

theorem crcJobDone_idle (h : s.dies ≤ d ∨ 8 ≤ k ∨ (4 ≤ k ∧ s.fld F.IC_CRC_STATE (d * 4 + (k - 4)) ≠ crRUNNING)) :
    s.crcJobDone d k x = s := by
  unfold State.crcJobDone
  by_cases hout : s.dies ≤ d ∨ 8 ≤ k
  · exact if_pos (by simpa using hout)
  · obtain ⟨h4, hr⟩ : 4 ≤ k ∧ s.fld F.IC_CRC_STATE (d * 4 + (k - 4)) ≠ crRUNNING := by tauto
    rw [if_neg (by simpa using hout), if_neg (by omega)]
    exact if_pos (bne_iff_ne.2 hr)

/-- The CRC of a job's bytes, by the parameters that stand in its words. -/
def State.crcFound (s : State) (u : Nat) (x : CrcEnd) : Nat :=
  let w1 := s.word 0x6830 u 1
  crcOf (F.IC_CRC_WIDTH.of w1) (s.word 0x6830 u 2).toNat (s.word 0x6830 u 3).toNat (F.IC_CRC_REFIN.of w1 == 1)
    (F.IC_CRC_REFOUT.of w1 == 1) (F.IC_CRC_FINV.of w1 == 1) (s.crcInput u x)

theorem crcJobDone_runs (hd : d < s.dies) (h4 : 4 ≤ k) (h8 : k < 8) (hr : s.fld F.IC_CRC_STATE (d * 4 + (k - 4)) = crRUNNING) :
    let u := d * 4 + (k - 4)
    s.crcJobDone d k x = match x.readErr with
      | some n => s.takeFree.1.finishCrc d k 4 n s.takeFree.2
      | none => s.finishCrc d k
          (crcResult (s.fld F.IC_CRC_CMP u == 1) x.parity (s.crcFound u x == (s.word 0x6830 u 4).toNat))
          (s.crcInput u x).length (BitVec.ofNat 64 (s.crcFound u x)) := by
  intro u
  unfold State.crcJobDone
  rw [if_neg (by simp; omega), if_neg (by omega)]
  refine (if_neg (by simp [hr])).trans ?_
  cases x.readErr <;> rfl

theorem crcJobDone_done (hd : d < s.dies) (h4 : 4 ≤ k) (h8 : k < 8) (hr : s.fld F.IC_CRC_STATE (d * 4 + (k - 4)) = crRUNNING) :
    let u := d * 4 + (k - 4)
    let t := s.crcJobDone d k x
    t.fld F.IC_CRC_STATE u = crDONE ∧
      (if x.readErr.isSome then t.fld F.IC_CRC_RESULT u = 4
        else s.fld F.IC_CRC_CMP u = 0 → t.fld F.IC_CRC_RESULT u = 5) ∧
      t.fld F.IC_CRC_DONEBYTES u = x.readErr.getD (s.crcInput u x).length % 2 ^ F.IC_CRC_DONEBYTES.len := by
  intro u t
  have h : t = _ := crcJobDone_runs hd h4 h8 hr
  cases hx : x.readErr with
  | some n =>
    rw [hx] at h
    rw [h]
    obtain ⟨hdone, hres, hbytes⟩ := finishCrc_done s.takeFree.1 d k 4 n s.takeFree.2
    exact ⟨hdone, hres, hbytes⟩
  | none =>
    rw [hx] at h
    rw [h]
    obtain ⟨hdone, hres, hbytes⟩ := finishCrc_done s d k
      (crcResult (s.fld F.IC_CRC_CMP u == 1) x.parity (s.crcFound u x == (s.word 0x6830 u 4).toNat))
      (s.crcInput u x).length (BitVec.ofNat 64 (s.crcFound u x))
    refine ⟨hdone, fun hcmp => hres.trans ?_, hbytes⟩
    rw [hcmp]
    rfl

end End

/-- Settles O9: one lemma per outcome of each command. -/
theorem enginesAndCrcUnitsAnswer : Obligations.EnginesAndCrcUnitsAnswer := by
  unfold Obligations.EnginesAndCrcUnitsAnswer
  refine ⟨?move, ?retire, ?restore, ?test, ?testDone, ?fail, ?start, ?abort, ?done⟩
  case move =>
    refine fun rq e v n s => ⟨_, rfl, ?_, ?_, ?_⟩
    · exact engineMove_taken
    · exact engineMove_busy
    · exact engCmd_mode
  case retire =>
    refine fun rq e v n s => ⟨_, rfl, ?_, ?_, ?_, ?_⟩
    · exact engineRetire_taken
    · exact engineRetire_busy
    · exact engCmd_mode
    · exact engineRetire_mix
  case restore =>
    refine fun rq e v s => ⟨_, rfl, ?_, ?_, ?_⟩
    · exact engineRestore_taken
    · exact engineRestore_busy
    · exact engCmd_mode
  case test =>
    refine fun rq e v s => ⟨_, rfl, ?_, ?_, ?_⟩
    · exact engineTest_taken
    · exact engineTest_busy
    · exact engCmd_mode
  case testDone =>
    refine fun e pass s => ⟨_, rfl, ?_, ?_, ?_⟩
    · rintro ht rfl
      exact engineTestDone_passes ht
    · rintro ht rfl hr
      exact engineTestDone_fails ht hr
    · exact fun ht => engineTestDone_idle ht pass
  case fail =>
    refine fun e c s => ⟨_, rfl, ?_, ?_⟩
    · exact engineFail_essence
    · exact engineFail_idle
  case start =>
    refine fun rq u ws s => ⟨_, rfl, ?_, ?_, ?_⟩
    · exact crcStart_runs
    · exact crcStart_busy
    · exact crcStart_barred
  case abort =>
    refine fun rq u w s => ⟨_, rfl, ?_, ?_⟩
    · exact crcAbort_ends
    · exact crcAbort_busy
  case done =>
    refine fun d k x s => ⟨_, rfl, ?_, ?_⟩
    · exact crcJobDone_done
    · exact crcJobDone_idle

end Sys2Proof.Machine
end

section
/-! Switched domains and HOLD's control planes (R435–R440). -/
namespace Sys2Proof.Machine

/-! ### A field written and kept -/

theorem word_putFld (s : State) {f : Fld} (e v : Nat) (m : takesIn Parts.markDirty f.ix = false) :
    (s.putFld f e v).word f.ix e f.w = (s.setFld f e v).word f.ix e f.w :=
  (word_putWord_same s e f.w _ m).trans (word_setWord_same ..).symm

/-- A field that is written and kept reads as one that is written. -/
theorem fld_putFld (s : State) {f g : Fld} (e v : Nat) (hi : g.ix = f.ix) (hw : g.w = f.w)
    (m : takesIn Parts.markDirty f.ix = false) : (s.putFld f e v).fld g e = (s.setFld f e v).fld g e := by
  rw [State.fld, State.fld, hi, hw, word_putFld s e v m]

/-! ### What the steps of a domain leave in its word -/

section Domain
variable (s : State) (e : Nat)

theorem setDomain_domain {n : Nat} (hn : n < 16) : (s.setDomain e n).domain e = n :=
  (fld_setNotify_same s e n rfl rfl).trans (Nat.mod_eq_of_lt hn)

theorem setDomain_cmd (n : Nat) : (s.setDomain e n).fld F.PW_DOMAIN_CMD e = s.fld F.PW_DOMAIN_CMD e :=
  fld_setNotify_apart s e e n rfl rfl

theorem riseDomain_setDomain : Within [Part.pw] (s.setDomain e dmRISING) (s.riseDomain e) := by
  unfold State.riseDomain
  extract_lets rising
  split <;> exact withPw_within ..

theorem riseDomain_rising : (s.riseDomain e).domain e = dmRISING :=
  ((riseDomain_setDomain s e).fld_eq (f := F.PW_DOMAIN_STATE) rfl e).trans (setDomain_domain s e (by decide))

theorem riseDomain_cmd : (s.riseDomain e).fld F.PW_DOMAIN_CMD e = s.fld F.PW_DOMAIN_CMD e :=
  ((riseDomain_setDomain s e).fld_eq (f := F.PW_DOMAIN_CMD) rfl e).trans (setDomain_cmd s e dmRISING)

/-- A domain that is lowered falls, where its rise was not still waiting. -/
theorem fallDomain_falling (hw : e ∉ s.pw.waiting) : (s.fallDomain e).domain e = dmFALLING := by
  unfold State.fallDomain
  rw [if_neg (by simpa using hw)]
  exact setDomain_domain _ e (by decide)

theorem fallDomain_cmd : (s.fallDomain e).fld F.PW_DOMAIN_CMD e = s.fld F.PW_DOMAIN_CMD e := by
  unfold State.fallDomain
  split
  · exact (setDomain_cmd ..).trans ((withPw_within ..).fld_eq (f := F.PW_DOMAIN_CMD) rfl e)
  · extract_lets settled
    have hs : settled.fld F.PW_DOMAIN_CMD e = s.fld F.PW_DOMAIN_CMD e := by
      unfold settled
      split
      · exact (endRise_within s e).fld_eq (f := F.PW_DOMAIN_CMD) rfl e
      · rfl
    exact (setDomain_cmd ..).trans (((stopLanes_within settled e).fld_eq (f := F.PW_DOMAIN_CMD) rfl e).trans hs)

/-- A domain that follows its CMD keeps it. -/
theorem applyDomain_cmd : (s.applyDomain e).fld F.PW_DOMAIN_CMD e = s.fld F.PW_DOMAIN_CMD e := by
  unfold State.applyDomain
  extract_lets st
  split
  · rfl
  · split
    · split
      · exact riseDomain_cmd s e
      · rfl
    · split
      · exact fallDomain_cmd s e
      · rfl

variable {s e}

theorem applyDomain_rises (hm : s.mode ≠ HOLD) (hc : s.fld F.PW_DOMAIN_CMD e = 1) (hd : s.domain e = dmOFF ∨ s.domain e = dmFAULT) :
    (s.applyDomain e).domain e = dmRISING := by
  have h : s.applyDomain e = s.riseDomain e := by
    refine (if_neg ?_).trans ((if_pos hc).trans (if_pos hd))
    rintro (h | h)
    · exact hm h
    · rcases hd with hd | hd <;> exact absurd (hd.symm.trans h) (by decide)
  rw [h, riseDomain_rising]

theorem applyDomain_falls (hm : s.mode ≠ HOLD) (hc : s.fld F.PW_DOMAIN_CMD e = 0) (hd : s.domain e = dmON) (hw : e ∉ s.pw.waiting) :
    (s.applyDomain e).domain e = dmFALLING := by
  have h : s.applyDomain e = s.fallDomain e := by
    refine (if_neg ?_).trans ((if_neg (by simp [hc])).trans (if_pos (.inl hd)))
    rintro (h | h)
    · exact hm h
    · exact absurd (hd.symm.trans h) (by decide)
  rw [h, fallDomain_falling s e hw]

theorem applyDomain_hold (hm : s.mode = HOLD) : s.applyDomain e = s := if_pos (.inl hm)

/-- An off domain that nobody wants on stays off. -/
theorem applyDomain_rests (hc : s.fld F.PW_DOMAIN_CMD e ≠ 1) (hd : s.domain e = dmOFF) : s.applyDomain e = s := by
  have h : ¬ (s.domain e = dmON ∨ s.domain e = dmRISING ∨ s.domain e = dmFAULT) := by rw [hd]; decide
  unfold State.applyDomain
  simp only [hc, h, if_false, ite_self]

end Domain

/-! ### A write of CMD (R438) -/

theorem stir_activating (s : State) : s.stir.activating = s.activating := by simp only [State.activating, stir_fld]

theorem stir_domainInUse (s : State) (e : Nat) : s.stir.domainInUse e = s.domainInUse e := by
  unfold State.stir
  split <;> rfl

/-- A request changes of the domains' structure only what HOLD watches. -/
theorem stir_waiting (s : State) : s.stir.pw.waiting = s.pw.waiting := by
  unfold State.stir
  split <;> rfl

section Write
variable {s : State} {rq : Req} {e : Nat} {v : W}

/-- The state in which CMD has been stored and not yet been followed. -/
def State.commandDomain (s : State) (e : Nat) (v : W) : State := s.putFld F.PW_DOMAIN_CMD e (F.PW_DOMAIN_CMD.of v)

theorem commandDomain_cmd : (s.commandDomain e v).fld F.PW_DOMAIN_CMD e = F.PW_DOMAIN_CMD.of v :=
  (fld_putFld s e _ rfl rfl rfl).trans (fld_setFld_of_lt s e _ rfl (Fld.of_lt ..))

theorem commandDomain_domain : (s.commandDomain e v).domain e = s.domain e :=
  (fld_putFld s (f := F.PW_DOMAIN_CMD) (g := F.PW_DOMAIN_STATE) e (F.PW_DOMAIN_CMD.of v) rfl rfl rfl).trans
    (fld_setFld_apart (f := F.PW_DOMAIN_CMD) (g := F.PW_DOMAIN_STATE) s e e (F.PW_DOMAIN_CMD.of v) rfl)

theorem commandDomain_mode : (s.commandDomain e v).mode = s.mode := (putFld_within s _ e _).fld_eq (f := F.SY_MODE_MODE) rfl 0

theorem commandDomain_pw : (s.commandDomain e v).pw = s.pw := (putFld_within s _ e _).agrees.pw rfl

theorem putDomain_taken (hp : domainPresent s.caps e = true)
    (hb : ¬ (s.activating = true ∨ (F.PW_DOMAIN_CMD.of v = 0 ∧ s.domainInUse e = true))) :
    (putDomain e v).2 s.stir = (.ok, (s.stir.commandDomain e v).applyDomain e) := by
  simp only [not_or, not_and, Bool.not_eq_true] at hb
  simp [putDomain, stir_caps, stir_activating, stir_domainInUse, hp, hb.1, State.commandDomain]
  exact hb.2

theorem putDomain_busy (hp : domainPresent s.caps e = true)
    (hb : s.activating = true ∨ (F.PW_DOMAIN_CMD.of v = 0 ∧ s.domainInUse e = true)) : (putDomain e v).2 s.stir = (.busy, s.stir) := by
  have hbar : s.activating = false → F.PW_DOMAIN_CMD.of v = 0 ∧ s.domainInUse e = true := fun ha => hb.resolve_left (by simp [ha])
  simpa [putDomain, stir_caps, stir_activating, stir_domainInUse, hp] using hbar

theorem putDomain_absent (hp : domainPresent s.caps e = false) (hc : F.PW_DOMAIN_CMD.of v = 1) :
    (putDomain e v).2 s.stir = (.absent, s.stir) := by
  simp [putDomain, stir_caps, hp, hc]

theorem pwDomain_stored (hq : s.passes rq (putDomain e v).1 = true) (hp : domainPresent s.caps e = true)
    (hb : ¬ (s.activating = true ∨ (F.PW_DOMAIN_CMD.of v = 0 ∧ s.domainInUse e = true))) :
    let t := s.request rq (putDomain e v).1 (putDomain e v).2
    t.fld F.PW_DOMAIN_CMD e = F.PW_DOMAIN_CMD.of v ∧
      (F.PW_DOMAIN_CMD.of v = 1 → s.mode ≠ HOLD → (s.domain e = dmOFF ∨ s.domain e = dmFAULT) → t.domain e = dmRISING) ∧
      t.replied ⟨0x8810, 0, e⟩ .ok := by
  obtain ⟨hin, hr⟩ := passed_stored hq (putDomain_taken hp hb)
  refine ⟨(hin.fld_eq (f := F.PW_DOMAIN_CMD) rfl e).trans ((applyDomain_cmd ..).trans commandDomain_cmd), fun hc hm hd => ?_, hr⟩
  have hd' : s.stir.domain e = dmOFF ∨ s.stir.domain e = dmFAULT := by rwa [State.domain, stir_fld]
  refine (hin.fld_eq (f := F.PW_DOMAIN_STATE) rfl e).trans (applyDomain_rises ?_ (commandDomain_cmd.trans hc) ?_)
  · rwa [commandDomain_mode, stir_mode]
  · rwa [commandDomain_domain]

theorem pwDomain_falls (hq : s.passes rq (putDomain e v).1 = true) (hp : domainPresent s.caps e = true)
    (hb : ¬ (s.activating = true ∨ (F.PW_DOMAIN_CMD.of v = 0 ∧ s.domainInUse e = true))) (hc : F.PW_DOMAIN_CMD.of v = 0)
    (hm : s.mode ≠ HOLD) (hd : s.domain e = dmON) (hw : e ∉ s.pw.waiting) :
    let t := s.request rq (putDomain e v).1 (putDomain e v).2
    t.domain e = dmFALLING ∧ t.replied ⟨0x8810, 0, e⟩ .ok := by
  obtain ⟨hin, hr⟩ := passed_stored hq (putDomain_taken hp hb)
  refine ⟨(hin.fld_eq (f := F.PW_DOMAIN_STATE) rfl e).trans (applyDomain_falls ?_ (commandDomain_cmd.trans hc) ?_ ?_), hr⟩
  · rwa [commandDomain_mode, stir_mode]
  · exact commandDomain_domain.trans ((stir_fld ..).trans hd)
  · rwa [commandDomain_pw, stir_waiting]

/-- A refused write changes neither the domain nor its CMD. -/
theorem pwDomain_refused {st : Status} (hq : s.passes rq (putDomain e v).1 = true) (ho : (putDomain e v).2 s.stir = (st, s.stir))
    (hv : st.violation = false) (hf : st ≠ .forwarded) :
    let t := s.request rq (putDomain e v).1 (putDomain e v).2
    t.domain e = s.domain e ∧ t.fld F.PW_DOMAIN_CMD e = s.fld F.PW_DOMAIN_CMD e ∧ t.replied ⟨0x8810, 0, e⟩ st := by
  obtain ⟨hin, hr⟩ := passed_refused hq ho hv hf
  exact ⟨hin.fld_eq (f := F.PW_DOMAIN_STATE) rfl e, hin.fld_eq (f := F.PW_DOMAIN_CMD) rfl e, hr⟩

end Write

/-! ### The ends of a rise and of a fall (R437) -/

section Ends
variable {s : State} {e : Nat}

theorem domainOn_on (h : s.pw.rising.contains e = true) : (s.domainOn e).domain e = dmON := by
  rw [State.domainOn, if_pos h]
  exact ((startLanes_within ..).fld_eq (f := F.PW_DOMAIN_STATE) rfl e).trans (setDomain_domain _ e (by decide))

theorem domainOn_idle (h : s.pw.rising.contains e = false) : s.domainOn e = s := if_neg (Bool.eq_false_iff.1 h)

theorem domainFault_fault (h : s.pw.rising.contains e = true) : (s.domainFault e).domain e = dmFAULT := by
  rw [State.domainFault, if_pos h]
  exact ((raise_within ..).fld_eq (f := F.PW_DOMAIN_STATE) rfl e).trans (setDomain_domain _ e (by decide))

theorem domainFault_idle (h : s.pw.rising.contains e = false) : s.domainFault e = s := if_neg (Bool.eq_false_iff.1 h)

theorem domainOff_falling (h : s.domain e = dmFALLING ∧ domainPresent s.caps e = true) :
    s.domainOff e = (s.setDomain e dmOFF).applyDomain e := if_pos h

theorem setDomain_mode (n : Nat) : (s.setDomain e n).mode = s.mode := (setDomain_within s e n).fld_eq (f := F.SY_MODE_MODE) rfl 0

theorem domainOff_ends (h : s.domain e = dmFALLING ∧ domainPresent s.caps e = true) (hm : s.mode ≠ HOLD) :
    (s.domainOff e).domain e = if s.fld F.PW_DOMAIN_CMD e = 1 then dmRISING else dmOFF := by
  have hoff : (s.setDomain e dmOFF).domain e = dmOFF := setDomain_domain s e (by decide)
  rw [domainOff_falling h]
  split
  next hc => exact applyDomain_rises (by rwa [setDomain_mode]) ((setDomain_cmd ..).trans hc) (.inl hoff)
  next hc => rw [applyDomain_rests (by rwa [setDomain_cmd]) hoff, hoff]

theorem domainOff_hold (h : s.domain e = dmFALLING ∧ domainPresent s.caps e = true) (hm : s.mode = HOLD) :
    (s.domainOff e).domain e = dmOFF := by
  rw [domainOff_falling h, applyDomain_hold ((setDomain_mode _).trans hm)]
  exact setDomain_domain s e (by decide)

theorem domainOff_idle (h : ¬ (s.domain e = dmFALLING ∧ domainPresent s.caps e = true)) : s.domainOff e = s := if_neg h

theorem holdWake_wakes (h : s.mode = HOLD) : s.holdWake.pw.awake = true ∧ s.holdWake.pw.lastReq = s.now := by
  rw [State.holdWake, if_pos h]
  exact ⟨rfl, rfl⟩

/-- The control planes sleep; the clock stands. -/
theorem sleep_now (s : State) : (s.withPw fun x => { x with awake := false }).pw.awake = false ∧
    (s.withPw fun x => { x with awake := false }).now = s.now := ⟨rfl, rfl⟩

theorem holdRetention_sleeps (h : s.mode = HOLD ∧ s.pw.awake = true) :
    s.holdRetention.pw.awake = false ∧ s.pw.lastReq + secs 1 ≤ s.holdRetention.now := by
  rw [State.holdRetention, if_pos h]
  obtain ⟨hsleeps, hnow⟩ := sleep_now (s.waitUntil (s.pw.lastReq + secs 1))
  exact ⟨hsleeps, le_of_le_of_eq (le_now_waitUntil ..) hnow.symm⟩

end Ends

/-- Settles O37: CMD is followed by `applyDomain`, and every end of a rise or fall sets the domain's own STATE. -/
theorem domainsRiseAndFall : Obligations.DomainsRiseAndFall := by
  unfold Obligations.DomainsRiseAndFall
  refine ⟨?write, ?on, ?fault, ?off, ?wake, ?sleep⟩
  case write =>
    refine fun rq e v s => ⟨_, rfl, ?_, ?_, ?_, ?_⟩
    · exact pwDomain_stored
    · exact pwDomain_falls
    · exact fun hq hp hb => pwDomain_refused hq (putDomain_busy hp hb) rfl (by decide)
    · exact fun hq hp hc _ => pwDomain_refused hq (putDomain_absent hp hc) rfl (by decide)
  case on => exact fun e s => ⟨_, rfl, domainOn_on, domainOn_idle⟩
  case fault => exact fun e s => ⟨_, rfl, domainFault_fault, domainFault_idle⟩
  case off => exact fun e s => ⟨_, rfl, domainOff_ends, domainOff_hold, domainOff_idle⟩
  case wake => exact fun s => ⟨_, rfl, holdWake_wakes, fun h => if_neg h⟩
  case sleep => exact fun s => ⟨_, rfl, holdRetention_sleeps, fun h => if_neg h⟩

end Sys2Proof.Machine
end

section
/-! The margin planner, ageing and the core voltage (R452–R458). -/
namespace Sys2Proof.Machine

/-! ### The planner (R453, R454) -/

theorem showPlan_state (s : State) {n : Nat} (hn : n < 16) (r i : Nat) : (s.showPlan n r i).fld F.PW_PLAN_STATE 0 = n :=
  fld_setFld_of_lt _ 0 n rfl hn

/-- The items of a plan stand in elements of their own. -/
theorem showItems_state (s : State) (words : List W) : (s.showItems words).fld F.PW_PLAN_STATE 0 = s.fld F.PW_PLAN_STATE 0 :=
  KeepsWord.fld (f := F.PW_PLAN_STATE) (.foldl .refl fun _ i => word_setWord_other _ _ (by simp))

theorem propose_state (s : State) (fresh : Bool) : (s.propose fresh).fld F.PW_PLAN_STATE 0 = plPROPOSE := by
  unfold State.propose
  extract_lets p words old shown n d
  have hs : shown.fld F.PW_PLAN_STATE 0 = plPROPOSE := (showItems_state ..).trans (showPlan_state s (by decide) ..)
  split
  · refine ((notify_within ..).fld_eq rfl 0).trans (((raise_within ..).fld_eq rfl 0).trans ?_)
    exact (fld_setFld_apart shown 0 0 n rfl).trans hs
  · exact hs

/-- What the planner shows of a proposal, or of none. -/
def State.showOutcome (s : State) (warn prop : List Nat) (fresh : Bool) : State :=
  if prop.isEmpty then (s.showPlan (if warn.isEmpty then plNONE else plWARN) 0 0).showItems [] else s.propose fresh

theorem showOutcome_pw (s : State) (warn prop : List Nat) (fresh : Bool) : (s.showOutcome warn prop fresh).pw = s.pw := by
  unfold State.showOutcome
  split
  · exact ((showItems_within ..).agrees.pw rfl).trans ((showPlan_within ..).agrees.pw rfl)
  · exact (propose_within ..).agrees.pw rfl

theorem showOutcome_state (s : State) (warn prop : List Nat) (fresh : Bool) :
    (s.showOutcome warn prop fresh).fld F.PW_PLAN_STATE 0 = if prop = [] then if warn = [] then plNONE else plWARN else plPROPOSE := by
  unfold State.showOutcome
  simp only [List.isEmpty_iff]
  split
  · refine (showItems_state ..).trans ?_
    split <;> exact showPlan_state s (by decide) ..
  · exact propose_state s fresh

/-- Dies that read below one bound, or below another where they stood below before (R453). -/
def State.below (s : State) (l : List Nat) (lo hi : Nat) : List Nat :=
  s.paced.filter fun d => s.configured d < lo || (l.contains d && s.configured d < hi)

/-- An evaluation shows the outcome of the two lists that it stores. -/
theorem plannerEval_shows (s : State) : ∃ u : State, u.pw.warn = s.below s.pw.warn 1250 1300 ∧
    u.pw.propose = s.below s.pw.propose 1100 1150 ∧
      s.plannerEval = u.showOutcome (s.below s.pw.warn 1250 1300) (s.below s.pw.propose 1100 1150) s.pw.propose.isEmpty := by
  unfold State.plannerEval
  extract_lets m warn prop newly fresh stored raised
  have hr : raised.pw = stored.pw :=
    (Within.foldl (l := Parts.raise) (xs := newly) .refl fun _ d h => h.step (raise_within ..) rfl).agrees.pw rfl
  exact ⟨raised, congrArg PowerState.warn hr, congrArg PowerState.propose hr, rfl⟩

theorem plannerEval_pw (s : State) : s.plannerEval.pw.warn = s.below s.pw.warn 1250 1300 ∧
    s.plannerEval.pw.propose = s.below s.pw.propose 1100 1150 := by
  obtain ⟨u, hwarn, hprop, h⟩ := plannerEval_shows s
  rw [h, showOutcome_pw]
  exact ⟨hwarn, hprop⟩

theorem plannerEval_state (s : State) : s.plannerEval.fld F.PW_PLAN_STATE 0 =
    if s.plannerEval.pw.propose = [] then if s.plannerEval.pw.warn = [] then plNONE else plWARN else plPROPOSE := by
  obtain ⟨hwarn, hprop⟩ := plannerEval_pw s
  rw [hwarn, hprop]
  obtain ⟨u, -, -, h⟩ := plannerEval_shows s
  rw [h, showOutcome_state]

/-! ### Ageing (R452) -/

theorem project_history (s : State) (d : Nat) : (s.project d).pw.history = s.pw.history := by
  unfold State.project
  extract_lets +onlyGivenNames -merge o years proj due
  have hp : proj.pw.history = s.pw.history := rfl
  clear_value proj
  split
  · exact (congrArg PowerState.history ((raise_within ..).agrees.pw rfl)).trans hp
  · exact hp

theorem foldl_project_history (s : State) (l : List AgeInput) :
    (l.foldl (fun (s : State) (x : AgeInput) => s.project x.die) s).pw.history = s.pw.history := by
  induction l generalizing s with
  | nil => rfl
  | cons x l ih => exact (ih _).trans (project_history s x.die)

/-! ### The core voltage (R457, R458) -/

theorem range_of_passes {s : State} {rq : Req} {x : HostWrite} (h : s.passes rq x = true) : x.range = true := by
  unfold State.passes at h
  split at h
  · simp only [Bool.and_eq_true] at h
    obtain ⟨-, ⟨⟨⟨-, hr⟩, -⟩, -⟩, -⟩ := h
    exact hr
  · simp at h

/-- A request changes of the power structure only what HOLD watches. -/
theorem stir_written (s : State) : s.stir.pw.written = s.pw.written := by
  unfold State.stir
  split <;> rfl

section Vcore
variable {s : State}

theorem setVcore_vcore (s : State) {n : Nat} (hn : n < 256) : (s.setVcore n).vcore = n := fld_setFld_of_lt s 0 n rfl hn

theorem note_vcore (s : State) (code p1 p2 p3 : Nat) : (s.note code p1 p2 p3).vcore = s.vcore :=
  (note_within ..).fld_eq (f := F.PW_VCORE_STATE) rfl 0

theorem note_pw (s : State) (code p1 p2 p3 : Nat) : (s.note code p1 p2 p3).pw = s.pw := (note_within ..).agrees.pw rfl

theorem startWalk_vcore (h : s.pw.written ≠ s.coreTarget) : s.startWalk.vcore = vcSLEWING :=
  (congrArg State.vcore (if_neg h)).trans (setVcore_vcore s (by decide))

theorem startWalk_target (s : State) : s.startWalk.word 0x8840 0 2 = s.word 0x8840 0 2 := by
  unfold State.startWalk
  split
  · rfl
  · exact word_setWord_other _ _ (by simp)

theorem putTarget_own (s u : State) (rq : Req) (v : W) : (putTarget s rq v).2 u =
    (.ok, ((u.putWord 0x8840 0 2 v).startWalk).note 0x8808 u.coreTarget v.toNat rq.ctx.val) := rfl

theorem putTarget_stores {rq : Req} {v : W} (hp : s.passes rq (putTarget s rq v).1 = true) :
    let t := s.request rq (putTarget s rq v).1 (putTarget s rq v).2
    t.word 0x8840 0 2 = v ∧ (s.pw.written ≠ v.toNat → t.vcore = vcSLEWING) ∧ t.replied ⟨0x8840, 2, 0⟩ .ok := by
  have hrange := range_of_passes hp
  simp only [putTarget, Bool.and_eq_true, decide_eq_true_eq] at hrange
  obtain ⟨hin, hr⟩ := passed_stored hp (putTarget_own s s.stir rq v)
  have hput : (s.stir.putWord 0x8840 0 2 v).word 0x8840 0 2 = v := word_putWord_same _ 0 2 v rfl
  refine ⟨(hin.word_eq rfl 0 2).trans (((note_within ..).word_eq rfl 0 2).trans ((startWalk_target _).trans hput)), fun hw => ?_, hr⟩
  refine (hin.fld_eq (f := F.PW_VCORE_STATE) rfl 0).trans ((note_vcore ..).trans (startWalk_vcore ?_))
  have htarget : (s.stir.putWord 0x8840 0 2 v).coreTarget = v.toNat := by
    refine (fld_of_word (f := F.PW_VCORE_TARGET) hput).trans ?_
    show (v >>> 0).toNat % 2 ^ 16 = v.toNat
    rw [BitVec.ushiftRight_zero, Nat.mod_eq_of_lt (by omega)]
  have hpw : (s.stir.putWord 0x8840 0 2 v).pw.written = s.pw.written :=
    (congrArg PowerState.written ((putWord_within ..).agrees.pw rfl)).trans (stir_written s)
  rwa [htarget, hpw]

theorem writeVcore_now (s : State) (ack : Bool) : (s.writeVcore ack).now = s.now := by
  unfold State.writeVcore
  extract_lets t old unacked
  split
  · rfl
  · split
    · rfl
    · exact (note_keepsWatch ..).now

theorem writeVcore_acked (s : State) : (s.writeVcore true).pw.written = stepMv s.pw.written s.coreTarget ∧
    (s.writeVcore true).vcore = vcSLEWING := ⟨rfl, setVcore_vcore _ (by decide)⟩

theorem writeVcore_unacked (s : State) : (s.writeVcore false).pw.written = s.pw.written ∧ (s.writeVcore false).vcore = vcNOREG := by
  unfold State.writeVcore
  extract_lets +onlyGivenNames -merge t old unacked
  have hp : unacked.pw.written = s.pw.written := rfl
  have hv : unacked.vcore = vcNOREG := setVcore_vcore _ (by decide)
  clear_value unacked
  rw [if_neg Bool.false_ne_true]
  split
  · exact ⟨hp, hv⟩
  · exact ⟨(congrArg PowerState.written (note_pw unacked ..)).trans hp, (note_vcore ..).trans hv⟩

theorem waitUntil_pw (s : State) (t : Nat) : (s.waitUntil t).pw = s.pw := (waitUntil_within s t).agrees.pw rfl

theorem waitUntil_coreTarget (s : State) (t : Nat) : (s.waitUntil t).coreTarget = s.coreTarget :=
  (waitUntil_within s t).fld_eq (f := F.PW_VCORE_TARGET) rfl 0

/-- A write to the regulator once a time has come. -/
theorem writeVcore_waited (s : State) (w : Nat) (ack : Bool) :
    let t := (s.waitUntil w).writeVcore ack
    w ≤ t.now ∧ t.pw.written = (if ack then stepMv s.pw.written s.coreTarget else s.pw.written) ∧
      t.vcore = (if ack then vcSLEWING else vcNOREG) := by
  intro t
  refine ⟨le_of_le_of_eq (le_now_waitUntil ..) (writeVcore_now ..).symm, ?_⟩
  rw [← waitUntil_pw s w, ← waitUntil_coreTarget s w]
  cases ack
  · exact writeVcore_unacked (s.waitUntil w)
  · exact writeVcore_acked (s.waitUntil w)

theorem vcoreStep_eq {ack : Bool} (h : s.vcore = vcSLEWING) (hw : s.pw.written ≠ s.coreTarget) :
    s.vcoreStep ack = (s.waitUntil (s.pw.writeAt + us 100)).writeVcore ack := if_pos ⟨h, hw⟩

theorem vcoreStep_walks {ack : Bool} (h : s.vcore = vcSLEWING) (hw : s.pw.written ≠ s.coreTarget) :
    s.pw.writeAt + us 100 ≤ (s.vcoreStep ack).now ∧
      if ack then (s.vcoreStep ack).pw.written = stepMv s.pw.written s.coreTarget ∧ (s.vcoreStep ack).vcore = vcSLEWING
      else (s.vcoreStep ack).pw.written = s.pw.written ∧ (s.vcoreStep ack).vcore = vcNOREG := by
  obtain ⟨hnow, hwritten, hv⟩ := writeVcore_waited s (s.pw.writeAt + us 100) ack
  rw [vcoreStep_eq h hw]
  refine ⟨hnow, ?_⟩
  cases ack
  · exact ⟨hwritten, hv⟩
  · exact ⟨hwritten, hv⟩

theorem vcoreStep_idle {ack : Bool} (h : s.vcore ≠ vcSLEWING ∨ s.pw.written = s.coreTarget) : s.vcoreStep ack = s :=
  if_neg (by tauto)

/-- What a check finds, once the voltage read is stored. -/
def State.judgeVcore (s : State) (mv : Nat) (ack : Bool) : State :=
  if !ack then (s.setVcore vcNOREG).note 0x8809 s.coreTarget mv 2
  else if mv ≤ s.coreTarget + 15 ∧ s.coreTarget ≤ mv + 15 then s.setVcore vcSETTLED
  else if s.vcore = vcMISMATCH then s
  else (s.setVcore vcMISMATCH).note 0x8809 s.coreTarget mv 1

theorem judgeVcore_vcore (s : State) (mv : Nat) (ack : Bool) : (s.judgeVcore mv ack).vcore =
    if ack = false then vcNOREG else if mv ≤ s.coreTarget + 15 ∧ s.coreTarget ≤ mv + 15 then vcSETTLED else vcMISMATCH := by
  unfold State.judgeVcore
  cases ack with
  | false => exact (note_vcore ..).trans (setVcore_vcore s (by decide))
  | true =>
    simp only [Bool.not_true, Bool.false_eq_true, if_false, Bool.true_eq_false]
    split
    · exact setVcore_vcore s (by decide)
    · split
      · assumption
      · exact (note_vcore ..).trans (setVcore_vcore s (by decide))

theorem setVcore_read (s : State) (n : Nat) : (s.setVcore n).fld F.PW_VCORE_NOW 0 = s.fld F.PW_VCORE_NOW 0 :=
  fld_setFld_apart s 0 0 n rfl

theorem judgeVcore_kept (s : State) (mv : Nat) (ack : Bool) :
    (s.judgeVcore mv ack).fld F.PW_VCORE_NOW 0 = s.fld F.PW_VCORE_NOW 0 ∧ (s.judgeVcore mv ack).now = s.now := by
  have noted : ∀ n c : Nat, ((s.setVcore n).note 0x8809 s.coreTarget mv c).fld F.PW_VCORE_NOW 0 = s.fld F.PW_VCORE_NOW 0 ∧
      ((s.setVcore n).note 0x8809 s.coreTarget mv c).now = s.now := fun n c =>
    ⟨((note_within ..).fld_eq (f := F.PW_VCORE_NOW) rfl 0).trans (setVcore_read s n), (note_keepsWatch ..).now⟩
  unfold State.judgeVcore
  split
  · exact noted ..
  · split
    · exact ⟨setVcore_read s _, rfl⟩
    · split
      · exact ⟨rfl, rfl⟩
      · exact noted ..

theorem readVcore_judged (s : State) {mv : Nat} (ack : Bool) (hmv : mv < 65536) :
    let t := (s.setFld F.PW_VCORE_NOW 0 mv).judgeVcore mv ack
    t.fld F.PW_VCORE_NOW 0 = mv ∧
      t.vcore = (if ack = false then vcNOREG
        else if mv ≤ s.coreTarget + 15 ∧ s.coreTarget ≤ mv + 15 then vcSETTLED else vcMISMATCH) ∧ t.now = s.now := by
  have ht : (s.setFld F.PW_VCORE_NOW 0 mv).coreTarget = s.coreTarget := fld_setFld_apart s (g := F.PW_VCORE_TARGET) 0 0 mv rfl
  obtain ⟨hread, hnow⟩ := judgeVcore_kept (s.setFld F.PW_VCORE_NOW 0 mv) mv ack
  exact ⟨hread.trans (fld_setFld_of_lt s 0 mv rfl hmv), (judgeVcore_vcore ..).trans (by rw [ht]), hnow.trans rfl⟩

theorem vcoreCheck_eq {mv : Nat} {ack : Bool}
    (h : (s.vcore = vcSLEWING ∨ s.vcore = vcMISMATCH) ∧ s.pw.written = s.coreTarget ∧ (s.pw.droop.any fun x => x.active) = false) :
    s.vcoreCheck mv ack = ((s.waitUntil (s.pw.writeAt + ms 1)).setFld F.PW_VCORE_NOW 0 mv).judgeVcore mv ack := by
  obtain ⟨hv, ht, hd⟩ := h
  exact if_pos ⟨hv, ht, by rw [hd]; rfl⟩

theorem vcoreCheck_finds {mv : Nat} {ack : Bool}
    (h : (s.vcore = vcSLEWING ∨ s.vcore = vcMISMATCH) ∧ s.pw.written = s.coreTarget ∧ (s.pw.droop.any fun x => x.active) = false)
    (hmv : mv < 65536) :
    (s.vcoreCheck mv ack).fld F.PW_VCORE_NOW 0 = mv ∧
      (s.vcoreCheck mv ack).vcore = (if ack = false then vcNOREG
        else if mv ≤ s.coreTarget + 15 ∧ s.coreTarget ≤ mv + 15 then vcSETTLED else vcMISMATCH) ∧
      s.pw.writeAt + ms 1 ≤ (s.vcoreCheck mv ack).now := by
  rw [vcoreCheck_eq h, ← waitUntil_coreTarget s (s.pw.writeAt + ms 1)]
  obtain ⟨hread, hv, hnow⟩ := readVcore_judged (s.waitUntil (s.pw.writeAt + ms 1)) ack hmv
  exact ⟨hread, hv, le_of_le_of_eq (le_now_waitUntil s _) hnow.symm⟩

theorem vcoreCheck_idle {mv : Nat} {ack : Bool}
    (h : ¬ ((s.vcore = vcSLEWING ∨ s.vcore = vcMISMATCH) ∧ s.pw.written = s.coreTarget ∧ (s.pw.droop.any fun x => x.active) = false)) :
    s.vcoreCheck mv ack = s :=
  if_neg fun hc => h ⟨hc.1, hc.2.1, by simpa using hc.2.2⟩

theorem vcoreRetry_idle {ack : Bool} (h : ¬ (s.vcore = vcMISMATCH ∨ s.vcore = vcNOREG)) : s.vcoreRetry ack = s := if_neg h

theorem vcoreRetry_writes {ack : Bool} (h : s.vcore = vcMISMATCH ∨ s.vcore = vcNOREG) :
    s.vcoreRetry ack = if s.vcore = vcMISMATCH ∧ ack = true
      then ((s.waitUntil (s.pw.writeAt + secs 1)).writeVcore ack).setVcore vcMISMATCH
      else (s.waitUntil (s.pw.writeAt + secs 1)).writeVcore ack := if_pos h

theorem vcoreRetry_again {ack : Bool} (h : s.vcore = vcMISMATCH ∨ s.vcore = vcNOREG) :
    s.pw.writeAt + secs 1 ≤ (s.vcoreRetry ack).now ∧
      (s.vcoreRetry ack).pw.written = (if ack then stepMv s.pw.written s.coreTarget else s.pw.written) ∧
      (s.vcoreRetry ack).vcore = (if ack = false then vcNOREG else if s.vcore = vcMISMATCH then vcMISMATCH else vcSLEWING) := by
  obtain ⟨hnow, hwritten, hv⟩ := writeVcore_waited s (s.pw.writeAt + secs 1) ack
  rw [vcoreRetry_writes h]
  generalize (s.waitUntil (s.pw.writeAt + secs 1)).writeVcore ack = u at hnow hwritten hv ⊢
  split
  next hm =>
    obtain ⟨hm, rfl⟩ := hm
    exact ⟨hnow, hwritten, (setVcore_vcore u (by decide)).trans (by simp [hm])⟩
  next hm =>
    refine ⟨hnow, hwritten, hv.trans ?_⟩
    cases ack
    · rfl
    · simp [show s.vcore ≠ vcMISMATCH from fun h => hm ⟨h, rfl⟩]

end Vcore

/-- Settles O39: one lemma per event of the planner and of the regulator. -/
theorem marginsAndTheCoreVoltage : Obligations.MarginsAndTheCoreVoltage := by
  unfold Obligations.MarginsAndTheCoreVoltage
  refine ⟨?planner, ?ageing, ?target, ?step, ?check, ?retry⟩
  case planner =>
    refine fun s => ⟨_, rfl, ?_, ?_, ?_⟩
    · exact (plannerEval_pw s).1
    · exact (plannerEval_pw s).2
    · exact plannerEval_state s
  case ageing => exact fun inp s => ⟨_, rfl, foldl_project_history _ _⟩
  case target => exact fun rq v s => ⟨_, rfl, putTarget_stores⟩
  case step =>
    refine fun ack s => ⟨_, rfl, ?_, ?_, ?_⟩
    · exact vcoreStep_walks
    · rintro h hw rfl
      exact (vcoreStep_walks (ack := false) h hw).2.2
    · exact vcoreStep_idle
  case check => exact fun mv ack s => ⟨_, rfl, vcoreCheck_finds, vcoreCheck_idle⟩
  case retry => exact fun ack s => ⟨_, rfl, vcoreRetry_again, vcoreRetry_idle⟩

end Sys2Proof.Machine
end

section
/-! What a plan may shed, and the objects that say so (R454, R455). -/
namespace Sys2Proof.Machine

/-! ### A write that is out of range -/

section Range
variable {s : State} {rq : Req} {hw : HostWrite} {own : State → Status × State}

/-- A write that fails of the common checks the range alone is answered so, and only what a violation's record holds changes. -/
theorem outOfRange_answered (hp : s.passes rq { hw with range := true } = true) (hr : hw.range = false) :
    Within (Part.pw :: Parts.judged) s (s.request rq hw own) ∧ (s.request rq hw own).replied hw.addr .range := by
  have hj := judgeWrite_range own ((stir_passes s rq { hw with range := true }).trans hp) hr
  exact ⟨((stir_within s).mono rfl).step (request_judged_within (alive_of_passes hp) hj) rfl,
    request_replied (alive_of_passes hp) hj (by decide)⟩

end Range

/-! ### The objects of R455 -/

def shedObj : Obj := ⟨0x8848, 0, .u32, [.rw], 15, 6, [.saved], .base, .scalar, [0xC0000000], false⟩

def keepObj : Obj := ⟨0x884C, 0, .u8, [.rw], 15, 6, [.saved], .base, .keep, [0], false⟩

theorem findObj_shed : findObj 0x8848 0 = some shedObj := by decide +kernel

theorem findObj_keep : findObj 0x884C 0 = some keepObj := by decide +kernel

section Write
variable (s : State) (rq : Req) (e : Nat) (v : W)

theorem putWordOf_shed : putWordOf s rq ⟨0x8848, 0, 0⟩ 0 v =
    putTyped shedObj ⟨0x8848, 0, 0⟩ [(0, v)] (putScalar ⟨0x8848, 0, 0⟩ v (getBits v 0 30 == 0)) := by
  simp only [putWordOf, findObj_shed]
  rfl

theorem putWordOf_keep : putWordOf s rq ⟨0x884C, 0, e⟩ 0 v =
    putTyped keepObj ⟨0x884C, 0, e⟩ [(0, v)] (putScalar ⟨0x884C, 0, e⟩ v (v.toNat < 2)) := by
  simp only [putWordOf, findObj_keep]
  rfl

theorem putWordOf_shed_stores (u : State) : (putWordOf s rq ⟨0x8848, 0, 0⟩ 0 v).2 u = (.ok, u.putWord 0x8848 0 0 v) := by
  rw [putWordOf_shed]
  rfl

theorem putWordOf_keep_stores (u : State) : (putWordOf s rq ⟨0x884C, 0, e⟩ 0 v).2 u = (.ok, u.putWord 0x884C e 0 v) := by
  rw [putWordOf_keep]
  rfl

theorem putWordOf_shed_reserved (h : getBits v 0 30 ≠ 0) : (putWordOf s rq ⟨0x8848, 0, 0⟩ 0 v).1.range = false := by
  rw [putWordOf_shed]
  simp [putTyped, putScalar, h]

theorem putWordOf_keep_reserved (h : 2 ≤ v.toNat) : (putWordOf s rq ⟨0x884C, 0, e⟩ 0 v).1.range = false := by
  rw [putWordOf_keep]
  simp only [putTyped, putScalar, Bool.and_eq_false_imp, decide_eq_true_eq]
  omega

end Write

section Answer
variable {s : State} {rq : Req} {a : Addr} {v : W}

/-- A word that its object stores reads as written, and the write is answered OK. -/
theorem putWordOf_stored (hp : s.passes rq (putWordOf s rq a 0 v).1 = true)
    (ho : (putWordOf s rq a 0 v).2 s.stir = (.ok, s.stir.putWord a.ix a.e 0 v)) (hm : takesIn Parts.markDirty a.ix = false)
    (hj : takesIn Parts.plainly a.ix = false) :
    let t := s.request rq (putWordOf s rq a 0 v).1 (putWordOf s rq a 0 v).2
    t.word a.ix a.e 0 = v ∧ t.replied a .ok := by
  obtain ⟨hin, hr⟩ := passed_stored hp ho
  rw [putWordOf_addr] at hr
  exact ⟨(hin.word_eq hj a.e 0).trans (word_putWord_same _ a.e 0 v hm), hr⟩

/-- A word out of range is answered so, and not stored. -/
theorem putWordOf_outOfRange (hp : s.passes rq { (putWordOf s rq a 0 v).1 with range := true } = true)
    (hr : (putWordOf s rq a 0 v).1.range = false) (hj : takesIn (Part.pw :: Parts.judged) a.ix = false) :
    let t := s.request rq (putWordOf s rq a 0 v).1 (putWordOf s rq a 0 v).2
    t.replied a .range ∧ t.word a.ix a.e 0 = s.word a.ix a.e 0 := by
  obtain ⟨hin, hrange⟩ := outOfRange_answered (own := (putWordOf s rq a 0 v).2) hp hr
  rw [putWordOf_addr] at hrange
  exact ⟨hrange, hin.word_eq hj a.e 0⟩

end Answer

/-! ### The items of a plan -/

section Plan
variable {s : State} {d : Nat} {x : Nat × Nat}

/-- A layer that may be shed is of a head that is not kept. -/
theorem planCands_layer (hx : x ∈ s.planCands d) (hk : x.1 = kLAYER) :
    s.fld F.PW_SHED_LAYERS 0 = 1 ∧ s.fld F.PW_KEEP_KEEP (16384 + x.2 / 8) = 0 := by
  simp only [State.planCands, List.mem_append] at hx
  rcases hx with hx | hx
  · split at hx
    next hshed =>
      refine ⟨hshed, ?_⟩
      simp only [List.mem_flatMap, List.mem_filter, List.mem_map, List.mem_reverse, List.mem_range, Bool.and_eq_true, beq_iff_eq] at hx
      obtain ⟨h, ⟨-, -, hkeep⟩, l, ⟨⟨i, hi, rfl⟩, -⟩, rfl⟩ := hx
      rwa [show (h * 8 + i) / 8 = h by omega]
    next => simp at hx
  · split at hx
    · simp only [List.mem_map] at hx
      obtain ⟨y, -, rfl⟩ := hx
      exact absurd (show kFSYNC = kLAYER from hk) (by decide)
    · simp at hx

/-- A source that may be shed is of a port that is not kept. -/
theorem planCands_fsync (hx : x ∈ s.planCands d) (hk : x.1 = kFSYNC) :
    s.fld F.PW_SHED_FSYNC 0 = 1 ∧ s.fld F.PW_KEEP_KEEP x.2 = 0 := by
  simp only [State.planCands, List.mem_append] at hx
  rcases hx with hx | hx
  · split at hx
    · simp only [List.mem_flatMap, List.mem_map] at hx
      obtain ⟨h, -, l, -, rfl⟩ := hx
      exact absurd (show kLAYER = kFSYNC from hk) (by decide)
    · simp at hx
  · split at hx
    next hshed =>
      refine ⟨hshed, ?_⟩
      simp only [List.mem_map, List.mem_filter, Bool.and_eq_true, beq_iff_eq] at hx
      obtain ⟨y, ⟨-, -, hkeep⟩, rfl⟩ := hx
      exact hkeep
    next => simp at hx

theorem mem_of_mem_takeItems {reach : List (Nat × Nat) → Bool} {l t : List (Nat × Nat)} (h : x ∈ takeItems reach l t) : x ∈ t ∨ x ∈ l := by
  induction l generalizing t with
  | nil => exact .inl h
  | cons c l ih =>
    unfold takeItems at h
    split at h
    · exact .inl h
    · rcases ih h with h | h
      · simp only [List.mem_append, List.mem_singleton] at h
        exact h.imp_right fun h : x = c => h ▸ List.mem_cons_self
      · exact .inr (List.mem_cons_of_mem _ h)

/-- Every item of a proposal is a step of the voltage or one that its die may shed. -/
theorem planItems_shed (s : State) : ∀ x ∈ s.planItems.2, x.2.1 = kVSTEP ∨ x.2 ∈ s.planCands x.1 := by
  intro x hx
  have hx := List.mem_of_mem_take hx
  rcases List.mem_append.1 hx with hx | hx
  · split at hx
    · exact .inl (by rw [List.mem_singleton.1 hx])
    · simp at hx
  · obtain ⟨d, -, hx⟩ := List.mem_flatMap.1 hx
    obtain ⟨y, hy, rfl⟩ := List.mem_map.1 hx
    exact .inr ((mem_of_mem_takeItems hy).resolve_left (by simp))

end Plan

/-- Settles O43: both objects are plain scalars, and a plan's items come from `planCands`. -/
theorem plansKeepToTheirPermissions : Obligations.PlansKeepToTheirPermissions := by
  unfold Obligations.PlansKeepToTheirPermissions
  refine ⟨⟨findObj_shed, findObj_keep⟩, ?cands, ?items, ?shed, ?shedReserved, ?keep, ?keepReserved⟩
  case cands => exact fun s d x hx => ⟨planCands_layer hx, planCands_fsync hx⟩
  case items =>
    refine fun s => List.all_eq_true.2 fun x hx => ?_
    simpa using planItems_shed s x hx
  case shed =>
    refine fun rq v s => ⟨_, rfl, fun hp => ?_⟩
    obtain ⟨hword, hr⟩ := putWordOf_stored hp (putWordOf_shed_stores s rq v s.stir) rfl rfl
    exact ⟨hword, rfl, rfl, hr⟩
  case shedReserved =>
    refine fun rq v s => ⟨_, rfl, fun hp hv => ?_⟩
    exact putWordOf_outOfRange hp (putWordOf_shed_reserved s rq v hv) rfl
  case keep =>
    refine fun rq e v s => ⟨_, rfl, fun hp => ?_⟩
    obtain ⟨hword, hr⟩ := putWordOf_stored hp (putWordOf_keep_stores s rq e v s.stir) rfl rfl
    exact ⟨hword, rfl, hr⟩
  case keepReserved =>
    refine fun rq e v s => ⟨_, rfl, fun hp hv => ?_⟩
    exact putWordOf_outOfRange hp (putWordOf_keep_reserved s rq e v hv) rfl

end Sys2Proof.Machine
end

section
/-! Writing the flash (R424). -/
namespace Sys2Proof.Machine

/-! ### One byte written into a half -/

/-- A byte written: its sector is erased first, where it has not been since the half was staged. -/
def FlashHalf.put (h : FlashHalf) (o : Nat) (v : Byte) : FlashHalf :=
  let n := o / sector
  let h := if h.fresh.contains n then h
    else { h with fresh := n :: h.fresh, bytes := h.bytes.filter fun x => !(x.1 / sector == n) }
  { h with bytes := cellSet h.bytes o v }

/-- The first `n` bytes of `l` written from offset `off`. -/
def FlashHalf.puts (h : FlashHalf) (off : Nat) (l : List Byte) (n : Nat) : FlashHalf :=
  (List.range n).foldl (fun h i => h.put (off + i) (l.getD i 0)) h

theorem write_eq_puts (h : FlashHalf) (off : Nat) (l : List Byte) :
    h.write off l = FlashHalf.puts { h with kept := none } off l l.length := rfl

theorem puts_succ (h : FlashHalf) (off : Nat) (l : List Byte) (n : Nat) :
    h.puts off l (n + 1) = (h.puts off l n).put (off + n) (l.getD n 0) := by
  simp only [FlashHalf.puts, List.range_succ, List.foldl_append, List.foldl_cons, List.foldl_nil]

/-- A byte reads the same after cells that a rule passes are kept. -/
theorem cellGet_filter {p : Nat → Bool} (m : List Host.Cell) {a : Nat} (hp : p a = true) :
    cellGet (m.filter fun x => p x.1) a = cellGet m a := by
  induction m with
  | nil => rfl
  | cons x r ih =>
    obtain ⟨b, v⟩ := x
    by_cases hb : p b = true
    · rw [List.filter_cons_of_pos (p := fun x : Host.Cell => p x.1) hb, cellGet, cellGet, ih]
    · have hab : a ≠ b := fun h => hb (h ▸ hp)
      rw [List.filter_cons_of_neg (p := fun x : Host.Cell => p x.1) hb, cellGet, if_neg hab, ih]

section Put
variable {h : FlashHalf} {o a : Nat} {v : Byte}

theorem put_of_fresh (hf : h.fresh.contains (o / sector) = true) : h.put o v = { h with bytes := cellSet h.bytes o v } := by
  simp only [FlashHalf.put, hf, if_true]

theorem put_of_stale (hf : h.fresh.contains (o / sector) = false) : h.put o v =
    { h with fresh := o / sector :: h.fresh, bytes := cellSet (h.bytes.filter fun x => !(x.1 / sector == o / sector)) o v } := by
  simp only [FlashHalf.put, hf, Bool.false_eq_true, if_false]

theorem put_same : cellGet (h.put o v).bytes o = v := cellGet_cellSet_same ..

/-- A sector erased stays so. -/
theorem put_fresh_mono {n : Nat} (hn : h.fresh.contains n = true) : (h.put o v).fresh.contains n = true := by
  cases hf : h.fresh.contains (o / sector)
  · rw [put_of_stale hf]
    simpa using .inr (by simpa using hn)
  · rw [put_of_fresh hf]
    exact hn

theorem put_fresh : (h.put o v).fresh.contains (o / sector) = true := by
  cases hf : h.fresh.contains (o / sector)
  · rw [put_of_stale hf]
    simp
  · rw [put_of_fresh hf]
    exact hf

/-- Another byte stands, of a sector that is not erased now. -/
theorem put_other (ha : a ≠ o) (hk : h.fresh.contains (a / sector) = true ∨ a / sector ≠ o / sector) :
    cellGet (h.put o v).bytes a = cellGet h.bytes a := by
  cases hf : h.fresh.contains (o / sector)
  · have hs : a / sector ≠ o / sector := hk.elim (fun hk hs => by rw [hs, hf] at hk; exact Bool.noConfusion hk) id
    rw [put_of_stale hf]
    exact (cellGet_cellSet_other _ v ha).trans
      (cellGet_filter (p := fun x => !(x / sector == o / sector)) h.bytes (by simpa using hs))
  · rw [put_of_fresh hf]
    exact cellGet_cellSet_other _ v ha

theorem put_wf (hw : cellsWf h.bytes) : cellsWf (h.put o v).bytes := by
  cases hf : h.fresh.contains (o / sector)
  · obtain ⟨hord, hlisted⟩ := hw
    rw [put_of_stale hf]
    exact cellsWf_cellSet _ _ ⟨hord.sublist List.filter_sublist, fun x hx => hlisted x (List.mem_of_mem_filter hx)⟩
  · rw [put_of_fresh hf]
    exact cellsWf_cellSet _ _ hw

end Put

/-! ### Bytes written one after the other -/

section Puts
variable {h : FlashHalf} {off : Nat} {l : List Byte}

/-- What has been written reads so, and its sectors are erased. -/
theorem puts_written (n : Nat) : ∀ i < n, cellGet (h.puts off l n).bytes (off + i) = l.getD i 0 ∧
    (h.puts off l n).fresh.contains ((off + i) / sector) = true := by
  induction n with
  | zero => simp
  | succ n ih =>
    intro i hi
    rw [puts_succ]
    rcases Nat.lt_succ_iff_lt_or_eq.1 hi with hi | rfl
    · obtain ⟨hget, hfresh⟩ := ih i hi
      exact ⟨(put_other (by omega) (.inl hfresh)).trans hget, put_fresh_mono hfresh⟩
    · exact ⟨put_same, put_fresh⟩

/-- A byte beside those written stands, of a sector erased before or not touched. -/
theorem puts_beside {a : Nat} (n : Nat) (ha : ∀ i < n, a ≠ off + i)
    (hk : h.fresh.contains (a / sector) = true ∨ ∀ i < n, a / sector ≠ (off + i) / sector) :
    cellGet (h.puts off l n).bytes a = cellGet h.bytes a ∧
      (h.fresh.contains (a / sector) = true → (h.puts off l n).fresh.contains (a / sector) = true) := by
  induction n with
  | zero => exact ⟨rfl, id⟩
  | succ n ih =>
    obtain ⟨hget, hfresh⟩ := ih (fun i hi => ha i (by omega)) (hk.imp_right fun hk i hi => hk i (by omega))
    rw [puts_succ]
    refine ⟨(put_other (ha n (by omega)) (hk.imp hfresh fun hk => hk n (by omega))).trans hget, fun hf => put_fresh_mono (hfresh hf)⟩

theorem puts_wf (n : Nat) (hw : cellsWf h.bytes) : cellsWf (h.puts off l n).bytes := by
  induction n with
  | zero => exact hw
  | succ n ih => exact puts_succ h off l n ▸ put_wf ih

theorem write_span (h : FlashHalf) (off : Nat) (l : List Byte) : (h.write off l).span off l.length = l := by
  rw [write_eq_puts]
  refine List.ext_getElem (by simp [FlashHalf.span]) fun i hi _ => ?_
  have hi : i < l.length := by simpa [FlashHalf.span] using hi
  simp only [FlashHalf.span, List.getElem_map, List.getElem_range]
  rw [(puts_written l.length i hi).1, List.getD_eq_getElem _ _ hi]

theorem write_beside {a : Nat} (ha : ¬ (off ≤ a ∧ a < off + l.length))
    (hk : h.fresh.contains (a / sector) = true ∨ a / sector < off / sector ∨ (off + l.length - 1) / sector < a / sector) :
    cellGet (h.write off l).bytes a = cellGet h.bytes a := by
  rw [write_eq_puts]
  refine (puts_beside (h := { h with kept := none }) l.length (fun i hi => by omega) (hk.imp_right fun hk i hi => ?_)).1
  have hlo : off / sector ≤ (off + i) / sector := Nat.div_le_div_right (by omega)
  have hhi : (off + i) / sector ≤ (off + l.length - 1) / sector := Nat.div_le_div_right (by omega)
  omega

theorem write_wf (hw : cellsWf h.bytes) : cellsWf (h.write off l).bytes := puts_wf (h := { h with kept := none }) l.length hw

end Puts

/-! ### The halves of the state, and STATE -/

section Halves
variable {s : State}

theorem runHalf_lt (s : State) : s.runHalf < 2 := fld_lt s 0 F.FW_STATE_RUNHALF

theorem half_withHalf_other {h g : Nat} (f : FlashHalf → FlashHalf) (n : g ≠ h) : (s.withHalf h f).half g = s.half g := by
  simp only [State.half, State.withHalf, withFw_fw, List.getD_eq_getElem?_getD]
  rw [List.getElem?_modify_ne _ _ n.symm]

theorem half_withHalf_same {h : Nat} (f : FlashHalf → FlashHalf) (hh : h < s.fw.halves.length) :
    (s.withHalf h f).half h = f (s.half h) := by
  simp only [State.half, State.withHalf, withFw_fw, List.getD_eq_getElem?_getD, List.getElem?_modify_eq]
  rw [List.getElem?_eq_getElem hh]
  rfl

/-- A half that is not there stays so. -/
theorem half_withHalf_none {h : Nat} (f : FlashHalf → FlashHalf) (hh : s.fw.halves.length ≤ h) :
    (s.withHalf h f).half h = s.half h := by
  simp only [State.half, State.withHalf, withFw_fw, List.getD_eq_getElem?_getD, List.getElem?_modify_eq]
  rw [List.getElem?_eq_none hh]
  rfl

theorem setFw_state (s : State) {n : Nat} (hn : n < 16) : (s.setFw n).fwState = n := by
  unfold State.setFw
  extract_lets o forgot
  have hf : forgot.fwState = o := by
    unfold forgot
    split <;> rfl
  split
  · rwa [hf]
  · exact ((notify_within ..).fld_eq rfl 0).trans (fld_setFld_of_lt forgot 0 n rfl hn)

/-- Only from STAGED does a change of STATE touch the halves. -/
theorem setFw_fw {n : Nat} (hs : s.fwState ≠ fwSTAGED) : (s.setFw n).fw = s.fw := by
  unfold State.setFw
  extract_lets o forgot
  have hf : forgot = s := if_neg fun h => hs h.1
  rw [hf]
  split
  · rfl
  · exact (notify_within ..).agrees.fw rfl

theorem setFw_fld (s : State) {n : Nat} {g : Fld} (hg : g.apart F.FW_STATE_STATE = true) (hn : takesIn Parts.notify g.ix = false)
    (e : Nat) : (s.setFw n).fld g e = s.fld g e := by
  unfold State.setFw
  extract_lets o forgot
  have hf : forgot.fld g e = s.fld g e := by
    unfold forgot
    split <;> rfl
  split
  · exact hf
  · exact ((notify_within ..).fld_eq hn e).trans ((fld_setFld_apart forgot 0 e n hg).trans hf)

end Halves

/-! ### `FW_FLASH` (R424) -/

section Write
variable {s : State} {rq : Req} {off : Nat} {l : List Byte}

/-- Bytes written outside an update: they stand in the half that is written, and STATE is IDLE. -/
def State.flashed (s : State) (off : Nat) (l : List Byte) : State :=
  let u := s.withHalf s.writeHalf fun h => h.write off l
  if s.fwState = fwIDLE then u else u.setFw fwIDLE

theorem putFlash_writes (h : ¬ (1 ≤ s.fwState ∧ s.fwState ≤ 5)) : (putFlash off l).2 s = (.ok, s.flashed off l) := by
  have hs : 1 ≤ s.fwState → 5 < s.fwState := by simpa using h
  simpa [putFlash, State.flashed] using hs

theorem putFlash_busy (h : 1 ≤ s.fwState ∧ s.fwState ≤ 5) : (putFlash off l).2 s = (.busy, s) := by
  simp [putFlash, h.1, h.2]

theorem flashed_fw (h : ¬ (1 ≤ s.fwState ∧ s.fwState ≤ 5)) :
    (s.flashed off l).fw = (s.withHalf s.writeHalf fun h => h.write off l).fw := by
  unfold State.flashed
  extract_lets u
  split
  · rfl
  · exact setFw_fw fun hs : s.fwState = fwSTAGED => h (by rw [hs]; decide)

theorem flashed_half (h : ¬ (1 ≤ s.fwState ∧ s.fwState ≤ 5)) (g : Nat) :
    (s.flashed off l).half g = (s.withHalf s.writeHalf fun h => h.write off l).half g :=
  congrArg (fun x : FwState => x.halves.getD g _) (flashed_fw h)

theorem flashed_idle (s : State) (off : Nat) (l : List Byte) : (s.flashed off l).fwState = fwIDLE := by
  unfold State.flashed
  extract_lets u
  split
  · assumption
  · exact setFw_state u (by decide)

theorem stir_fw (s : State) : s.stir.fw = s.fw := (stir_within s).agrees.fw rfl

theorem stir_fwState (s : State) : s.stir.fwState = s.fwState := stir_fld ..

theorem stir_writeHalf (s : State) : s.stir.writeHalf = s.writeHalf := congrArg (1 - ·) (stir_fld ..)

theorem stir_half (s : State) (h : Nat) : s.stir.half h = s.half h := congrArg (fun x : FwState => x.halves.getD h _) (stir_fw s)

/-- A request that writes no word is answered without a change, or carried out by the object. -/
theorem judgeWrite_wordless {hw : HostWrite} {own : State → Status × State} (hn : hw.words = []) :
    (s.judgeWrite rq hw own).2 = s ∨ s.judgeWrite rq hw own = own s := by
  unfold State.judgeWrite
  rw [hn]
  split
  · exact .inl rfl
  · repeat' split
    case h_2.isFalse.isFalse.isFalse.isFalse.isFalse => exact .inr rfl
    all_goals exact .inl rfl

/-- Whatever answers a write of `FW_FLASH`, each half is as it was, or the bytes stand in the half that is written. -/
theorem fwFlash_half (s : State) (rq : Req) (off : Nat) (l : List Byte) (g : Nat) :
    let t := s.request rq (putFlash off l).1 (putFlash off l).2
    t.half g = s.half g ∨ (g = s.writeHalf ∧ t.half g = (s.half g).write off l) := by
  intro t
  by_cases ha : s.alive = true
  · have hin : Within Parts.judged (s.stir.judgeWrite rq (putFlash off l).1 (putFlash off l).2).2 t := request_judged_within ha rfl
    have ht : t.half g = (s.stir.judgeWrite rq (putFlash off l).1 (putFlash off l).2).2.half g :=
      congrArg (fun x : FwState => x.halves.getD g _) (hin.agrees.fw rfl)
    rw [ht, ← stir_half s g, ← stir_writeHalf s]
    rcases judgeWrite_wordless (s := s.stir) (rq := rq) (hw := (putFlash off l).1) (own := (putFlash off l).2) rfl with h | h
    · exact .inl (by rw [h])
    · rw [h]
      by_cases hs : 1 ≤ s.stir.fwState ∧ s.stir.fwState ≤ 5
      · exact .inl (by rw [putFlash_busy hs])
      · rw [putFlash_writes hs, flashed_half hs]
        by_cases hg : g = s.stir.writeHalf
        · by_cases hlen : g < s.stir.fw.halves.length
          · subst hg
            exact .inr ⟨rfl, half_withHalf_same _ hlen⟩
          · subst hg
            exact .inl (half_withHalf_none _ (Nat.le_of_not_lt hlen))
        · exact .inl (half_withHalf_other _ hg)
  · exact .inl (by rw [show t = s from request_silent (by simpa using ha) ..])

theorem writeHalf_ne_runHalf (s : State) : s.runHalf ≠ s.writeHalf := by
  have := runHalf_lt s
  unfold State.writeHalf
  omega

end Write

/-- The state after a write of `FW_FLASH`, where no die is isolated in the end. -/
theorem fwFlash_whole {rq : Req} {off : Nat} {l : List Byte} {s t : State} (h : exec (.fwFlashWrite rq off l) s = .next t)
    (hwhole : t.sys.isolated = []) : t = s.request rq (putFlash off l).1 (putFlash off l).2 := by
  have hd : exec (.fwFlashWrite rq off l) s = done (s.request rq (putFlash off l).1 (putFlash off l).2) := rfl
  obtain rfl := Host.Outcome.next.inj (hd.symm.trans h)
  exact settleIsolated_whole hwhole

/-- Settles O57: of a write, each half is as before or has the bytes, and a byte written touches its own sector. -/
theorem flashWritesKeepOtherBytes : Obligations.FlashWritesKeepOtherBytes := by
  unfold Obligations.FlashWritesKeepOtherBytes
  refine ⟨fun rq off l a s t h hwhole ha hk => ?kept, fun rq off l s t h hwhole hw => ?canonical⟩
  case kept =>
    rw [fwFlash_whole h hwhole]
    constructor
    · rcases fwFlash_half s rq off l s.writeHalf with hh | ⟨-, hh⟩
      · rw [hh]
      · rw [hh, write_beside ha hk]
    · exact (fwFlash_half s rq off l s.runHalf).resolve_right fun hr => writeHalf_ne_runHalf s hr.1
  case canonical =>
    rw [fwFlash_whole h hwhole]
    rcases fwFlash_half s rq off l s.writeHalf with hh | ⟨-, hh⟩
    · rwa [hh]
    · rw [hh]
      exact write_wf hw

end Sys2Proof.Machine
end

section
/-! The signature policy, quotes and staging (R415–R425). -/
namespace Sys2Proof.Machine

/-! ### The policy (R416) -/

section Policy
variable {s : State} {rq : Req} {v : W}

theorem attest_entries (s : State) (typ svn half event version : Nat) (hash : BitVec 512) :
    (s.attest typ svn half event version hash).fw.entries = s.fw.entries + 1 := by
  unfold State.attest
  extract_lets w0 w1 n stored bytes
  have hs : stored.fw.entries = s.fw.entries := by
    unfold stored
    split
    · exact congrArg FwState.entries ((setWide_within ..).agrees.fw rfl)
    · rfl
  exact congrArg (· + 1) hs

theorem putSigPolicy_own (s : State) (rq : Req) (v : W) : (putSigPolicy rq v).2 s =
    (.ok, ((s.putWord 0x8018 0 0 v).note 0x8009 v.toNat (s.fld F.FW_SIG_POLICY_POLICY 0) rq.ctx.val).attestPolicy v.toNat) := rfl

theorem sigPolicy_stored (hp : s.passes rq (putSigPolicy rq v).1 = true) :
    let t := s.request rq (putSigPolicy rq v).1 (putSigPolicy rq v).2
    t.word 0x8018 0 0 = v ∧ t.fw.entries = s.fw.entries + 1 ∧ t.replied ⟨0x8018, 0, 0⟩ .ok := by
  obtain ⟨hin, hr⟩ := passed_stored hp (putSigPolicy_own s.stir rq v)
  refine ⟨?_, ?_, hr⟩
  · refine (hin.word_eq rfl 0 0).trans (((attestPolicy_within ..).word_eq rfl 0 0).trans ?_)
    exact ((note_within ..).word_eq rfl 0 0).trans (word_putWord_same _ 0 0 v rfl)
  · refine (congrArg FwState.entries (hin.agrees.fw rfl)).trans ((attest_entries ..).trans (congrArg (· + 1) ?_))
    have hn : ((s.stir.putWord 0x8018 0 0 v).note 0x8009 v.toNat (s.stir.fld F.FW_SIG_POLICY_POLICY 0) rq.ctx.val).fw = s.fw :=
      ((note_within ..).agrees.fw rfl).trans (((putWord_within ..).agrees.fw rfl).trans (stir_fw s))
    exact congrArg FwState.entries hn

end Policy

/-! ### Quotes (R421) -/

section Quote
variable {s : State} {rq : Req} {nonce : List Byte}

theorem putNonce_free (h : s.fw.nonce = none) :
    (putNonce nonce).2 s = (.ok, s.withFw fun x => { x with nonce := some nonce }) := by simp [putNonce, h]

theorem putNonce_busy (h : s.fw.nonce.isSome = true) : (putNonce nonce).2 s = (.busy, s) := by simp [putNonce, h]

theorem quoteRequest_taken (hp : s.passes rq (putNonce nonce).1 = true) (h : s.fw.nonce = none) :
    let t := s.request rq (putNonce nonce).1 (putNonce nonce).2
    t.fw.nonce = some nonce ∧ t.replied ⟨0x8040, 1, 0⟩ .ok := by
  obtain ⟨hin, hr⟩ := passed_stored hp (putNonce_free ((congrArg FwState.nonce (stir_fw s)).trans h))
  exact ⟨congrArg FwState.nonce (hin.agrees.fw rfl), hr⟩

theorem quoteRequest_busy (hp : s.passes rq (putNonce nonce).1 = true) (h : s.fw.nonce.isSome = true) :
    let t := s.request rq (putNonce nonce).1 (putNonce nonce).2
    t.fw.nonce = s.fw.nonce ∧ t.replied ⟨0x8040, 1, 0⟩ .busy := by
  obtain ⟨hin, hr⟩ := passed_refused hp (putNonce_busy (by rwa [stir_fw])) rfl (by decide)
  exact ⟨congrArg FwState.nonce (hin.agrees.fw rfl), hr⟩

/-- The bytes of a signature, at their full length. -/
def State.quoteSignature (s : State) (nonce : List Byte) : List Byte :=
  (List.range 4723).map fun i =>
    (Config.quoteSign (match s.fw.idKey with | some k => k + 1 | none => 0) (s.quoteBody nonce)).getD i 0

theorem quoteReady_eq (h : s.fw.nonce = some nonce) : s.quoteReady =
    (s.withFw fun x => { x with nonce := none, quote := s.quoteBody nonce ++ s.quoteSignature nonce }).notifySub 0x8040 2 0 := by
  unfold State.quoteReady
  rw [h]
  rfl

theorem quoteReady_made (h : s.fw.nonce = some nonce) : s.quoteReady.fw.nonce = none ∧
    s.quoteReady.fw.quote.take (s.quoteBody nonce).length = s.quoteBody nonce := by
  have hfw : s.quoteReady.fw = { s.fw with nonce := none, quote := s.quoteBody nonce ++ s.quoteSignature nonce } :=
    (congrArg State.fw (quoteReady_eq h)).trans ((notifySub_within ..).agrees.fw rfl)
  exact ⟨congrArg FwState.nonce hfw, (congrArg (fun x : FwState => x.quote.take _) hfw).trans List.take_left⟩

theorem quoteReady_idle (h : s.fw.nonce = none) : s.quoteReady = s := by
  unfold State.quoteReady
  rw [h]

end Quote

/-! ### `FW_FLASH` -/

section Flash
variable {s : State} {rq : Req} {off : Nat} {l : List Byte}

theorem fwFlash_stands (hp : s.passes rq (putFlash off l).1 = true) (hlen : s.fw.halves.length = 2)
    (hs : ¬ (1 ≤ s.fwState ∧ s.fwState ≤ 5)) :
    let t := s.request rq (putFlash off l).1 (putFlash off l).2
    (t.half (1 - s.runHalf)).span off l.length = l ∧ t.fwState = fwIDLE ∧ t.replied ⟨0x8030, 0, off⟩ .ok := by
  have hs' : ¬ (1 ≤ s.stir.fwState ∧ s.stir.fwState ≤ 5) := by rwa [stir_fwState]
  obtain ⟨hin, hr⟩ := passed_stored hp (putFlash_writes (off := off) (l := l) hs')
  refine ⟨?_, (hin.fld_eq (f := F.FW_STATE_STATE) rfl 0).trans (flashed_idle ..), hr⟩
  have hlt : s.writeHalf < s.stir.fw.halves.length := by
    rw [stir_fw, hlen, State.writeHalf]
    omega
  have hhalf : (s.request rq (putFlash off l).1 (putFlash off l).2).half s.writeHalf = (s.stir.half s.writeHalf).write off l := by
    refine (congrArg (fun x : FwState => x.halves.getD s.writeHalf _) (hin.agrees.fw rfl)).trans ((flashed_half hs' s.writeHalf).trans ?_)
    rw [stir_writeHalf]
    exact half_withHalf_same _ hlt
  exact (congrArg (FlashHalf.span · off l.length) hhalf).trans (write_span ..)

theorem fwFlash_busy (hp : s.passes rq (putFlash off l).1 = true) (hs : 1 ≤ s.fwState ∧ s.fwState ≤ 5) :
    let t := s.request rq (putFlash off l).1 (putFlash off l).2
    t.fw = s.fw ∧ t.fwState = s.fwState ∧ t.replied ⟨0x8030, 0, off⟩ .busy := by
  obtain ⟨hin, hr⟩ := passed_refused hp (putFlash_busy (by rwa [stir_fwState])) rfl (by decide)
  exact ⟨hin.agrees.fw rfl, hin.fld_eq (f := F.FW_STATE_STATE) rfl 0, hr⟩

end Flash

/-! ### Staging (R425) -/

section Stage
variable {s : State} {flashOk : Bool} {x : Nat × Nat}

/-- What rejects a half: TYPE and CAUSE. -/
def State.stageFault (s : State) (flashOk : Bool) : Option (Nat × Nat) :=
  if !flashOk then some (0, cFLASH) else if !(s.half s.writeHalf).recordGood then some (0, cFORMAT) else s.halfFault s.writeHalf

theorem stageDone_rejects (h : s.fwState = fwVERIFYING) (hx : s.stageFault flashOk = some x) : s.stageDone flashOk =
    ((s.setFld F.FW_STATE_CAUSE 0 x.2).raise 0x8001 s.mastDie x.1 x.2 s.writeHalf).setFw fwREJECTED := by
  unfold State.stageDone
  rw [h]
  simp only [bne_self_eq_false, Bool.false_eq_true, if_false]
  rw [show (if !flashOk then some (0, cFLASH) else if !(s.half s.writeHalf).recordGood then some (0, cFORMAT) else s.halfFault s.writeHalf)
    = some x from hx]

/-- What staging shows in `FW_STATE`, before the half's record says so. -/
def State.showStaged (s : State) : State :=
  let l := (s.half s.writeHalf).images
  setWide ((((s.crcNotes l).setFld F.FW_STATE_STAGEDVER 0 (mainOf l)).setFld F.FW_STATE_STAGEDSCHEMA 0 (schemaOf l)).setFld
    F.FW_STATE_CAUSE 0 0) 0x8008 0 12 (bundleId l)

/-- The half's boot record reads STAGED. -/
def State.markStaged (s u : State) : State :=
  u.withHalf s.writeHalf fun x => { x with state := 1, ident := bundleId (s.half s.writeHalf).images }

theorem stageDone_stages (h : s.fwState = fwVERIFYING) (hx : s.stageFault flashOk = none) : s.stageDone flashOk =
    ((s.markStaged s.showStaged).note 0x8003 (mainOf (s.half s.writeHalf).images) s.writeHalf 0).setFw fwSTAGED := by
  unfold State.stageDone
  rw [h]
  simp only [bne_self_eq_false, Bool.false_eq_true, if_false]
  rw [show (if !flashOk then some (0, cFLASH) else if !(s.half s.writeHalf).recordGood then some (0, cFORMAT) else s.halfFault s.writeHalf)
    = none from hx]
  rfl

theorem stageDone_idle (h : s.fwState ≠ fwVERIFYING) : s.stageDone flashOk = s := if_pos (by simpa using h)

theorem stage_rejected (h : s.fwState = fwVERIFYING) (hx : s.stageFault flashOk = some x) :
    (s.stageDone flashOk).fwState = fwREJECTED ∧ (s.stageDone flashOk).fld F.FW_STATE_CAUSE 0 = x.2 % 2 ^ F.FW_STATE_CAUSE.len := by
  rw [stageDone_rejects h hx]
  refine ⟨setFw_state _ (by decide), (setFw_fld _ rfl rfl 0).trans ?_⟩
  exact ((raise_within ..).fld_eq (f := F.FW_STATE_CAUSE) rfl 0).trans (fld_setFld_fits s 0 x.2 rfl)

theorem crcNotes_fw (s : State) (l : List Image) : (s.crcNotes l).fw = s.fw := (crcNotes_within s l).agrees.fw rfl

theorem crcNotes_state (s : State) (l : List Image) : (s.crcNotes l).fwState = s.fwState :=
  (crcNotes_within s l).fld_eq (f := F.FW_STATE_STATE) rfl 0

/-- A wide value stands in words of its own. -/
theorem setWide_fld (s : State) {ix e w : Nat} (v : BitVec 512) {f : Fld} (hw : f.w < w) : (setWide s ix e w v).fld f e = s.fld f e :=
  KeepsWord.fld (f := f) (.foldl .refl fun _ i => word_setWord_other _ _ (by simp; omega))

theorem showStaged_fw (s : State) : s.showStaged.fw = s.fw :=
  ((setWide_within ..).agrees.fw rfl).trans (crcNotes_fw s _)

theorem showStaged_cause (s : State) : s.showStaged.fld F.FW_STATE_CAUSE 0 = 0 :=
  (setWide_fld (f := F.FW_STATE_CAUSE) _ _ (by decide)).trans (fld_setFld_of_lt _ 0 0 rfl (by decide))

theorem showStaged_state (s : State) : s.showStaged.fwState = s.fwState :=
  (setWide_fld (f := F.FW_STATE_STATE) _ _ (by decide)).trans ((fld_setFld_apart _ 0 0 0 rfl).trans
    ((fld_setFld_apart _ 0 0 _ rfl).trans ((fld_setFld_apart _ 0 0 _ rfl).trans (crcNotes_state s _))))

theorem markStaged_state (s : State) {u : State} (h : s.writeHalf < u.fw.halves.length) : ((s.markStaged u).half s.writeHalf).state = 1 :=
  congrArg FlashHalf.state (half_withHalf_same _ h)

theorem markStaged_fld (s u : State) (f : Fld) (e : Nat) : (s.markStaged u).fld f e = u.fld f e := rfl

theorem half_state_of_fw {s t : State} (h : t.fw = s.fw) (g : Nat) : (t.half g).state = (s.half g).state := by
  rw [State.half, State.half, h]

theorem stage_staged (hlen : s.fw.halves.length = 2) (h : s.fwState = fwVERIFYING) (hx : s.stageFault flashOk = none) :
    (s.stageDone flashOk).fwState = fwSTAGED ∧ (s.stageDone flashOk).fld F.FW_STATE_CAUSE 0 = 0 ∧
      ((s.stageDone flashOk).half (1 - s.runHalf)).state = 1 := by
  rw [stageDone_stages h hx]
  have hin := note_within (s.markStaged s.showStaged) 0x8003 (mainOf (s.half s.writeHalf).images) s.writeHalf 0
  refine ⟨setFw_state _ (by decide), (setFw_fld _ rfl rfl 0).trans ?_, ?_⟩
  · exact (hin.fld_eq (f := F.FW_STATE_CAUSE) rfl 0).trans ((markStaged_fld ..).trans (showStaged_cause s))
  · have hst : ((s.markStaged s.showStaged).note 0x8003 (mainOf (s.half s.writeHalf).images) s.writeHalf 0).fwState = fwVERIFYING :=
      (hin.fld_eq (f := F.FW_STATE_STATE) rfl 0).trans ((markStaged_fld ..).trans ((showStaged_state s).trans h))
    have hfw := (setFw_fw (n := fwSTAGED) (by rw [hst]; decide)).trans (hin.agrees.fw rfl)
    have hlt : s.writeHalf < s.showStaged.fw.halves.length := by
      rw [showStaged_fw, hlen, State.writeHalf]
      omega
    exact (half_state_of_fw hfw s.writeHalf).trans (markStaged_state s hlt)

theorem stageFault_good (hg : (s.half s.writeHalf).recordGood = true) : s.stageFault true = s.halfFault s.writeHalf := by
  simp [State.stageFault, hg]

end Stage

/-- Settles O34: the policy, the quote and the flash change what `agrees.fw` of their own parts leaves; staging by its fault. -/
theorem policyAttestationAndFlash : Obligations.PolicyAttestationAndFlash := by
  unfold Obligations.PolicyAttestationAndFlash
  refine ⟨?policy, ?request, ?ready, ?flash, ?stage⟩
  case policy => exact fun rq v s => ⟨_, rfl, sigPolicy_stored⟩
  case request => exact fun rq nonce s => ⟨_, rfl, quoteRequest_taken, quoteRequest_busy⟩
  case ready => exact fun nonce s => ⟨_, rfl, quoteReady_made, quoteReady_idle⟩
  case flash => exact fun rq off l s => ⟨_, rfl, fwFlash_stands, fwFlash_busy⟩
  case stage =>
    refine fun flashOk x s => ⟨_, rfl, ?_, ?_, ?_, stageDone_idle⟩
    · rintro hlen h rfl hg hf
      exact stage_staged hlen h ((stageFault_good hg).trans hf)
    · rintro h rfl
      exact stage_rejected (flashOk := false) h rfl
    · rintro h rfl hg hf
      exact stage_rejected h ((stageFault_good hg).trans hf)

end Sys2Proof.Machine
end

section
/-! The end of a rank's copy, as `MM_CHAN_STAT` holds it, which the statement about ranks denies (R379, R386). -/
namespace Sys2Proof.Machine

/-- A copy from rank 0 to rank 1 of channel 0, of which COPYPCT holds 5. -/
def copiedFive : State := Tests.copying.setFld F.MM_CHAN_STAT_COPYPCT 0 5

theorem copiedFive_copies : copiedFive.migration 0 = some ⟨0, 0, 1, 0, 0⟩ ∧ copiedFive.dramState 0 = chMIGRATING := by decide +kernel

/-- The end of the copy writes no COPYPCT: what a read of it shows is made of the copies that run. -/
theorem copiedFive_keeps : (copiedFive.migrationDone 0).fld F.MM_CHAN_STAT_COPYPCT 0 = 5 := by decide +kernel

/-- Refutes O31: COPYPCT is shown from the copy that runs, and the word behind it, here 5, is not written at the copy's end. -/
theorem not_ranksFailMoveAndReturn : ¬ Obligations.RanksFailMoveAndReturn := by
  unfold Obligations.RanksFailMoveAndReturn
  rintro ⟨-, -, -, -, -, -, hdone⟩
  obtain ⟨t, he, hends, -⟩ := hdone 0 ⟨0, 0, 1, 0, 0⟩ copiedFive
  obtain ⟨hcopy, hmigrating⟩ := copiedFive_copies
  obtain ⟨-, -, -, -, hzero, -⟩ := hends hcopy hmigrating (by decide)
  have hu : (copiedFive.migrationDone 0).settleIsolated = t.settleIsolated := Host.Outcome.next.inj he
  have hstays : t.fld F.MM_CHAN_STAT_COPYPCT 0 = 5 := calc
    t.fld F.MM_CHAN_STAT_COPYPCT 0 = t.settleIsolated.fld F.MM_CHAN_STAT_COPYPCT 0 := ((settleIsolated_within t).fld_eq rfl 0).symm
    _ = (copiedFive.migrationDone 0).settleIsolated.fld F.MM_CHAN_STAT_COPYPCT 0 := by rw [hu]
    _ = (copiedFive.migrationDone 0).fld F.MM_CHAN_STAT_COPYPCT 0 := (settleIsolated_within _).fld_eq rfl 0
    _ = 5 := copiedFive_keeps
  exact absurd (hzero.symm.trans hstays) (by decide)

end Sys2Proof.Machine
end

section
/-! The instant of an activation while house time is slewing back (R276, R427). -/
namespace Sys2Proof.Machine

/-- An activation that is being prepared for the house's first second, with H slewing back towards the counter, which it leads by 1 ms. -/
def slewingUpdate : State :=
  let s := slewingState.setFld F.FW_STATE_STATE 0 fwPREPARING
  s.withFw fun x => { x with actAt := some (secs 1) }

theorem slewingUpdate_prepares : slewingUpdate.fwState = fwPREPARING ∧ slewingUpdate.fw.actAt = some (secs 1) := by decide +kernel

/-- The wait for the instant is counted in steps of the counter; H, slewing back, falls short of it. -/
theorem slewingUpdate_falls_short : (slewingUpdate.activate []).house < secs 1 := by decide +kernel

/-- Refutes O36: an activation given up at its instant while house time slews back (R276) is given up before the house reads it. -/
theorem not_activationsAndTheLifeCycle : ¬ Obligations.ActivationsAndTheLifeCycle := by
  unfold Obligations.ActivationsAndTheLifeCycle
  rintro ⟨-, -, hinstant, -⟩
  obtain ⟨t, he, -, -, hlate, -⟩ := hinstant (secs 1) [] slewingUpdate
  obtain ⟨hprepares, hat⟩ := slewingUpdate_prepares
  obtain ⟨-, -, -, hreached⟩ := hlate hprepares hat
  have hu : (slewingUpdate.activate []).settleIsolated = t.settleIsolated := Host.Outcome.next.inj he
  have hh : t.house = (slewingUpdate.activate []).house := by
    rw [← (settleIsolated_steady t).house, ← hu, (settleIsolated_steady _).house]
  exact absurd (hh ▸ hreached) (Nat.not_le.2 slewingUpdate_falls_short)

end Sys2Proof.Machine
end

section
/-! Errors and aborts of the crossbar, and the time a monitor lasts (R351–R358). -/
namespace Sys2Proof.Machine

/-! ### What a crossbar's work leaves of the time since power-on -/

theorem logAbort_keepsWatch (s : State) (d : Nat) (b : Burst) (cleared : Bool) : KeepsWatch s (s.logAbort d b cleared) := by
  unfold State.logAbort
  extract_lets k w0 r logged
  have hl : KeepsWatch s logged := ((raiseSeq_keepsWatch ..).step (setWord_within ..) rfl).step (setWord_within ..) rfl
  exact hl.trans ⟨rfl, rfl⟩

theorem accessError_keepsWatch (s : State) (d master addr len : Nat) (write : Bool) :
    KeepsWatch s (s.accessError d master addr len write) := by
  unfold State.accessError
  extract_lets f t s1 s2
  have h1 : KeepsWatch s s1 := .ite .refl (.of_within (takeFree_within s) rfl)
  exact ((h1.step (bump_within ..) rfl).step (answered_within ..) rfl).trans (raise_keepsWatch ..)

theorem pieceFails_keepsWatch (s : State) (target : Nat) (x : Piece) : KeepsWatch s (s.pieceFails target x) := by
  unfold State.pieceFails
  extract_lets +onlyGivenNames -merge mine ic cut counted
  have hc : KeepsWatch s cut := .of_within (set_ic_within ..) rfl
  exact ((hc.step (bump_within ..) rfl).step (answered_within ..) rfl).trans (logAbort_keepsWatch ..)

theorem bridgePiece_keepsWatch (s : State) (t : Nat) (x : Piece) : KeepsWatch s (s.bridgePiece t x) := by
  unfold State.bridgePiece
  extract_lets +onlyGivenNames -merge d y
  exact .ite (.of_within (set_ic_within ..) rfl) (accessError_keepsWatch ..)

theorem grant_keepsWatch (s : State) (port t : Nat) (x : Piece) : KeepsWatch s (s.grant port t x) := by
  unfold State.grant
  extract_lets +onlyGivenNames -merge n wait aged counted longest older ic taken
  have ho : KeepsWatch s older := by
    have hl : KeepsWatch s longest := (KeepsWatch.of_within (bump_within ..) rfl).step (setFld_within ..) rfl
    exact .ite (hl.step (bump_within ..) rfl) hl
  have ht : KeepsWatch s taken := ho.step (set_ic_within ..) rfl
  exact ht.trans (.ite (bridgePiece_keepsWatch ..) (.ite (pieceFails_keepsWatch ..) (.of_within (carriedPiece_within ..) rfl)))

theorem runPort_keepsWatch (s : State) (port fuel : Nat) : KeepsWatch s (s.runPort port fuel) := by
  induction fuel generalizing s with
  | zero => exact .refl
  | succ fuel ih =>
    unfold State.runPort
    extract_lets p
    split
    · exact .refl
    · refine .ite .refl ?_
      split
      · exact .refl
      · exact (grant_keepsWatch ..).trans (ih _)

theorem runCrossbar_keepsWatch (s : State) : KeepsWatch s s.runCrossbar := .foldl .refl fun _ _ => runPort_keepsWatch ..

/-- Where no piece waits, the crossbar has nothing to do. -/
theorem runCrossbar_none {s : State} (h : s.ic.pieces = []) : s.runCrossbar = s := by
  unfold State.runCrossbar
  generalize (List.range (s.dies * 10)).filter (· % 10 == 4) ++ (List.range (s.dies * 10)).filter (· % 10 != 4) = ports
  induction ports with
  | nil => rfl
  | cons p ports ih =>
    have hp : s.runPort p s.ic.pieces.length = s := by rw [h]; rfl
    rw [List.foldl_cons, hp, ih]

/-! ### Decode errors (R351) -/

section Decode
variable {s : State} {d m g : Nat} {x : Access}

theorem decodeError_fails (hm : s.masterSilent m = false) (hd : d < s.dies) (hx : s.decodeFails d x = true) :
    s.decodeError d m x = s.accessError d m x.addr x.len x.write := by
  simp [State.decodeError, hm, hx, Nat.not_le.2 hd]

theorem decodeError_idle (h : s.masterSilent m = true ∨ s.dies ≤ d) : s.decodeError d m x = s := if_pos (by simpa using h)

/-- An access in error is counted at one target, and answered. -/
theorem accessError_counts (s : State) (d m addr len : Nat) (write : Bool) : ∃ (u : State) (g : Nat), u.ic = s.ic ∧
    (s.targetAt d addr).getD g = g ∧ (∀ n, s.targetAt d addr = some n → u = s) ∧
      s.accessError d m addr len write = ((u.bump F.IC_XBAR_STAT_ERRORS (d * 10 + g) 1).answered 1
        (if write then [] else List.replicate len 0xFF)).raise 0x6801 d m g (addr / 256 % 2 ^ 32) := by
  cases h : s.targetAt d addr with
  | none =>
    refine ⟨s.takeFree.1, s.takeFree.2.toNat % 10, rfl, rfl, by simp, ?_⟩
    simp only [State.accessError, h]
    rfl
  | some n =>
    refine ⟨s, n, rfl, rfl, fun _ _ => rfl, ?_⟩
    simp only [State.accessError, h]
    rfl

theorem accessError_answer (s : State) (d m addr len : Nat) (write : Bool) :
    (s.accessError d m addr len write).ic.answer = some (1, if write then [] else List.replicate len 0xFF) := by
  obtain ⟨u, g, -, -, -, h⟩ := accessError_counts s d m addr len write
  rw [h]
  exact (congrArg IcState.answer ((raise_within ..).agrees.ic rfl)).trans rfl

theorem accessError_counted {addr len : Nat} {write : Bool} (h : s.targetAt d addr = some g) :
    (s.accessError d m addr len write).fld F.IC_XBAR_STAT_ERRORS (d * 10 + g) =
      satAdd (2 ^ F.IC_XBAR_STAT_ERRORS.len - 1) (s.fld F.IC_XBAR_STAT_ERRORS (d * 10 + g)) 1 := by
  obtain ⟨u, n, -, hn, hu, he⟩ := accessError_counts s d m addr len write
  obtain rfl : g = n := by simpa [h] using hn
  obtain rfl := hu g h
  rw [he]
  exact ((raise_within ..).fld_eq rfl _).trans (fld_bump_same u (d * 10 + g) 1 rfl)

end Decode

/-! ### Aborts (R357, R358) -/

section Abort
variable {s : State} {d : Nat} {b : Burst}

theorem logAbort_next (s : State) (d : Nat) (b : Burst) (cleared : Bool) :
    (s.logAbort d b cleared).ic.abortNext = s.ic.abortNext.set d ((s.ic.abortNext.getD d 0 + 1) % 8) := by
  unfold State.logAbort
  extract_lets +onlyGivenNames -merge k w0 r logged
  have hr : r.1.ic = s.ic := (raiseSeq_within ..).agrees.ic rfl
  clear_value r
  have hl : logged.ic.abortNext = s.ic.abortNext := congrArg IcState.abortNext hr
  exact congrArg (List.set · d ((k + 1) % 8)) hl

theorem logAbort_address (s : State) (d : Nat) (b : Burst) (cleared : Bool) :
    (s.logAbort d b cleared).fld F.IC_ABORT_LOG_ADDRESS (d * 8 + s.ic.abortNext.getD d 0) = b.addr % 2 ^ F.IC_ABORT_LOG_ADDRESS.len := by
  unfold State.logAbort
  extract_lets +onlyGivenNames -merge k w0 r logged
  have ha : F.IC_ABORT_LOG_ADDRESS.of w0 = b.addr % 2 ^ F.IC_ABORT_LOG_ADDRESS.len := Fld.of_put_same rfl _ b.addr
  clear_value w0 r
  have hw : logged.word 0x6818 (d * 8 + k) 0 = w0 := (word_setWord_other _ _ (by simp)).trans (word_setWord_same ..)
  clear_value logged
  exact (fld_of_word (f := F.IC_ABORT_LOG_ADDRESS) hw).trans ha

/-- The burst's last beats before it was cut short. -/
def State.beforeAbort (s : State) (d : Nat) (b : Burst) : State := (s.runCrossbar.expireMonitors s.now).beatsDone d b

theorem burstAbort_idle (h : s.masterSilent b.master = true ∨ s.dies ≤ d ∨ 10 ≤ b.target) : s.burstAbort d b = s :=
  if_pos (by simpa [or_assoc] using h)

/-- The abort is logged in a state with the same log. -/
theorem burstAbort_logs (hm : s.masterSilent b.master = false) (hd : d < s.dies) (ht : b.target < 10) :
    ∃ (u : State) (cleared : Bool), u.ic.abortNext = (s.beforeAbort d b).ic.abortNext ∧ s.burstAbort d b = u.logAbort d b cleared := by
  unfold State.burstAbort
  rw [if_neg (by simp [hm]; omega)]
  extract_lets +onlyGivenNames -merge u mine gone ic cut answered
  refine ⟨answered, _, ?_, rfl⟩
  unfold answered
  split <;> rfl

theorem burstAbort_logged (hm : s.masterSilent b.master = false) (hd : d < s.dies) (ht : b.target < 10) :
    (s.burstAbort d b).ic.abortNext = (s.beforeAbort d b).ic.abortNext.set d (((s.beforeAbort d b).ic.abortNext.getD d 0 + 1) % 8) ∧
      (s.burstAbort d b).fld F.IC_ABORT_LOG_ADDRESS (d * 8 + (s.beforeAbort d b).ic.abortNext.getD d 0) =
        b.addr % 2 ^ F.IC_ABORT_LOG_ADDRESS.len := by
  obtain ⟨u, cleared, hu, he⟩ := burstAbort_logs hm hd ht
  rw [he, ← hu]
  exact ⟨logAbort_next .., logAbort_address ..⟩

end Abort

/-! ### Monitors (R355) -/

section Monitor
variable {s : State} {d m g : Nat} {x : Monitor}

theorem monitorExpire_idle (h : s.ic.monitors.find? (fun y => y.die == d && y.master == m && y.target == g) = none) :
    s.monitorExpire d m g = s := by
  simp only [State.monitorExpire, h]

theorem monitorExpire_drops (h : s.ic.monitors.find? (fun y => y.die == d && y.master == m && y.target == g) = some x) :
    s.monitorExpire d m g =
      ((s.waitUntil (x.set_ + 256 * nsUnits)).dropMonitors fun y => y.die == d && y.master == m && y.target == g).runCrossbar := by
  simp only [State.monitorExpire, h]

theorem dropMonitors_now (s : State) (p : Monitor → Bool) : (s.dropMonitors p).now = s.now := rfl

theorem dropMonitors_pieces (s : State) (p : Monitor → Bool) : (s.dropMonitors p).ic.pieces = s.ic.pieces := rfl

theorem dropMonitors_gone (s : State) (p : Monitor → Bool) : ∀ y ∈ (s.dropMonitors p).ic.monitors, p y = false := by
  intro y hy
  obtain ⟨-, hp⟩ := List.mem_filter.1 hy
  simpa using hp

theorem monitorExpire_now (h : s.ic.monitors.find? (fun y => y.die == d && y.master == m && y.target == g) = some x) :
    x.set_ + 256 * nsUnits ≤ (s.monitorExpire d m g).now := by
  rw [monitorExpire_drops h, (runCrossbar_keepsWatch _).now, dropMonitors_now]
  exact le_now_waitUntil ..

theorem monitorExpire_gone (h : s.ic.monitors.find? (fun y => y.die == d && y.master == m && y.target == g) = some x)
    (hn : s.ic.pieces = []) : ∀ y ∈ (s.monitorExpire d m g).ic.monitors, (y.die == d && y.master == m && y.target == g) = false := by
  have hw : (s.waitUntil (x.set_ + 256 * nsUnits)).ic = s.ic := (waitUntil_within ..).agrees.ic rfl
  have hgone := dropMonitors_gone (s.waitUntil (x.set_ + 256 * nsUnits)) fun y => y.die == d && y.master == m && y.target == g
  have hnone : ((s.waitUntil (x.set_ + 256 * nsUnits)).dropMonitors fun y => y.die == d && y.master == m && y.target == g).ic.pieces = [] :=
    (dropMonitors_pieces ..).trans ((congrArg IcState.pieces hw).trans hn)
  rwa [monitorExpire_drops h, runCrossbar_none hnone]

end Monitor

/-- Settles O10: an error is counted and answered at once, an abort is logged after what was due, and the crossbar takes no time. -/
theorem crossbarKeepsItsErrors : Obligations.CrossbarKeepsItsErrors := by
  unfold Obligations.CrossbarKeepsItsErrors
  refine ⟨?decode, ?abort, ?monitor⟩
  case decode =>
    refine fun d m g x s => ⟨_, rfl, fun hm hd hx hg => ?named, fun hm hd hx _ => ?other, decodeError_idle⟩
    case named =>
      rw [decodeError_fails hm hd hx]
      exact ⟨accessError_answer .., accessError_counted hg⟩
    case other =>
      rw [decodeError_fails hm hd hx]
      exact accessError_answer ..
  case abort =>
    refine fun d b s => ⟨_, rfl, ?_, burstAbort_idle⟩
    exact fun hm hd ht _ => burstAbort_logged hm hd ht
  case monitor => exact fun d m g x s => ⟨_, rfl, fun h => ⟨monitorExpire_now h, monitorExpire_gone h⟩, monitorExpire_idle⟩

end Sys2Proof.Machine
end

section
/-! Records and fault managers: what writing a record leaves, and a fault that neither takes a unit out nor isolates (R394, R399, R400). -/
namespace Sys2Proof.Machine

/-! ### The records of the package -/

theorem mem_insertRec {r x : Rec} {l : List Rec} : x ∈ insertRec r l ↔ x = r ∨ x ∈ l := by
  induction l with
  | nil => simp [insertRec]
  | cons y l ih =>
    unfold insertRec
    split
    · simp
    · simp only [List.mem_cons, ih]
      tauto

theorem mem_foldl_insertRec {x : Rec} {l r : List Rec} : x ∈ l.foldl (fun l r => insertRec r l) r ↔ x ∈ r ∨ x ∈ l := by
  induction l generalizing r with
  | nil => simp
  | cons y l ih =>
    simp only [List.foldl_cons, ih, mem_insertRec, List.mem_cons]
    tauto

/-- The package's records are those of its sillages. -/
theorem mem_records {s : State} {r : Rec} : r ∈ s.records ↔ ∃ l ∈ s.ev.sillage, r ∈ l := by
  simp [State.records, mem_foldl_insertRec]

/-! ### Fault managers -/

section Mgr
variable {s t : State} {d e : Nat} {f : FaultMgr → FaultMgr}

theorem faultMgr_withMgr_same (h : d < s.ev.mgr.length) : (s.withMgr d f).faultMgr d = f (s.faultMgr d) := by
  simp only [State.faultMgr, State.withMgr, withEv_ev, List.getD_eq_getElem?_getD, List.getElem?_modify_eq]
  rw [List.getElem?_eq_getElem h]
  rfl

theorem faultMgr_withMgr_other (h : e ≠ d) : (s.withMgr d f).faultMgr e = s.faultMgr e := by
  simp only [State.faultMgr, State.withMgr, withEv_ev, List.getD_eq_getElem?_getD]
  rw [List.getElem?_modify_ne _ _ h.symm]

theorem faultMgr_withMgr_none (h : s.ev.mgr.length ≤ d) : (s.withMgr d f).faultMgr d = s.faultMgr d := by
  simp only [State.faultMgr, State.withMgr, withEv_ev, List.getD_eq_getElem?_getD, List.getElem?_modify_eq]
  rw [List.getElem?_eq_none h]
  rfl

/-- What a change of a manager keeps of the open faults, it keeps of every die's. -/
theorem opened_withMgr (h : ∀ m, (f m).opened = m.opened) : ((s.withMgr d f).faultMgr e).opened = (s.faultMgr e).opened := by
  by_cases he : e = d
  · subst he
    by_cases hd : e < s.ev.mgr.length
    · rw [faultMgr_withMgr_same hd, h]
    · rw [faultMgr_withMgr_none (Nat.le_of_not_lt hd)]
  · rw [faultMgr_withMgr_other he]

theorem faultMgr_congr (h : t.ev.mgr = s.ev.mgr) (d : Nat) : t.faultMgr d = s.faultMgr d := by rw [State.faultMgr, h]; rfl

theorem accept_run (m : FaultMgr) (g : FaultRun) : (m.accept .run g).running = some g := by
  unfold FaultMgr.accept
  split <;> rfl

/-- A NOTICE is not among the open faults. -/
theorem accept_notice (m : FaultMgr) (k : Taken) {g : FaultRun} (h : g.level = .notice) : (m.accept k g).opened = m.opened := by
  unfold FaultMgr.accept
  rw [h]
  cases k <;> rfl

theorem taken_notice (m : FaultMgr) : m.taken .notice ≠ .escalate := by
  unfold FaultMgr.taken
  split
  · simp
  · repeat' split
    all_goals simp_all

theorem taken_idle {m : FaultMgr} (h : m.running = none) (l : Level) : m.taken l = .run := by
  unfold FaultMgr.taken
  rw [h]

end Mgr

/-! ### A record written changes the records alone -/

/-- From `s` to `t` the events' structure changes in its records alone. -/
def RecordsOnly (s t : State) : Prop := t.ev = { s.ev with sillage := t.ev.sillage, lastGasp := t.ev.lastGasp }

section RecordsOnly
variable {s t u : State}

theorem RecordsOnly.refl : RecordsOnly s s := rfl

theorem RecordsOnly.trans (h : RecordsOnly s t) (g : RecordsOnly t u) : RecordsOnly s u := by
  rw [RecordsOnly] at *
  rw [g, h]

theorem RecordsOnly.mgr (h : RecordsOnly s t) : t.ev.mgr = s.ev.mgr := by rw [show t.ev = _ from h]

theorem RecordsOnly.ite {c : Prop} [Decidable c] (ht : RecordsOnly s t) (hu : RecordsOnly s u) :
    RecordsOnly s (if c then t else u) := by split <;> assumption

end RecordsOnly

theorem missed_ev (s : State) (r : Rec) : (s.missed r).ev = s.ev := (missed_within s r).agrees.ev rfl

/-- A record as it is stored: whether the last-gasp store has it too, and whether it was relayed. -/
def Rec.asStored (r : Rec) (lg relayed : Bool) : Rec := { r with lg := lg, relayed := relayed }

/-- A record of the last-gasp store, where it is one. -/
def State.gasp (s : State) (r : Rec) : State := if r.lg then s.withEv fun e => { e with lastGasp := lastGaspPut e.lastGasp r } else s

/-- A record put at the end of a sillage. -/
def State.putRecord (s : State) (d : Nat) (r : Rec) : State :=
  let x := ringPut (s.sillageOf d) r
  let u := s.withEv fun e => { e with sillage := e.sillage.set d x.1 }
  match x.2 with | some old => u.missed old | none => u

theorem putRecord_ev (s : State) (d : Nat) (r : Rec) :
    (s.putRecord d r).ev = { s.ev with sillage := s.ev.sillage.set d (ringPut (s.sillageOf d) r).1 } := by
  unfold State.putRecord
  extract_lets x u
  split
  · exact missed_ev ..
  · rfl

theorem store_unheld {s : State} {r : Rec} (h : s.holder r.die = none) (lg : Bool) :
    s.store r lg = s.gasp (r.asStored true false) := by
  unfold State.store
  rw [h]
  cases lg <;> rfl

theorem store_held {s : State} {r : Rec} {d : Nat} {b : Bool} (h : s.holder r.die = some (d, b)) (lg : Bool) :
    s.store r lg = if r.code = 0x7801 then s.gasp (r.asStored lg b)
      else (s.gasp (r.asStored lg b)).putRecord d (r.asStored lg b) := by
  unfold State.store
  rw [h]
  cases lg <;> rfl

theorem gasp_recordsOnly (s : State) (r : Rec) : RecordsOnly s (s.gasp r) := .ite rfl .refl

theorem gasp_sillage (s : State) (r : Rec) : (s.gasp r).ev.sillage = s.ev.sillage := by
  unfold State.gasp
  split <;> rfl

theorem putRecord_recordsOnly (s : State) (d : Nat) (r : Rec) : RecordsOnly s (s.putRecord d r) := by
  rw [RecordsOnly, putRecord_ev]

theorem store_recordsOnly (s : State) (r : Rec) (lg : Bool) : RecordsOnly s (s.store r lg) := by
  cases h : s.holder r.die with
  | none =>
    rw [store_unheld h]
    exact gasp_recordsOnly ..
  | some x =>
    rw [store_held (d := x.1) (b := x.2) h]
    exact .ite (gasp_recordsOnly ..) ((gasp_recordsOnly ..).trans (putRecord_recordsOnly ..))

theorem writeRec_recordsOnly (s : State) (n : NewRec) : RecordsOnly s (s.writeRec n).1 := by
  unfold State.writeRec
  extract_lets +onlyGivenNames -merge merge
  clear_value merge
  split
  · split
    · exact .refl
    · extract_lets +onlyGivenNames -merge r merged
      have hm : RecordsOnly s merged := rfl
      exact .ite (hm.trans rfl) hm
  · extract_lets +onlyGivenNames -merge seq r clk counted stored
    have hs : RecordsOnly s stored := .trans (t := counted) rfl (store_recordsOnly ..)
    exact .ite (hs.trans rfl) hs

/-! ### Which record is written (R399, R400, R405) -/

section Record
variable {s : State} {n : NewRec} {d i : Nat} {b : Bool}

/-- A record of the code, the die and the first parameter of an event. -/
def NewRec.Names (n : NewRec) (r : Rec) : Prop := r.code = n.code ∧ r.die = n.die ∧ r.p1 = n.p1 % 2 ^ 32

/-- Only an open record of the event's code, die and first parameter is merged into. -/
theorem mergeable_some (h : s.mergeable n d = some i) : ∃ r, (s.sillageOf d)[i]? = some r ∧ n.Names r := by
  have hp := List.find?_some h
  split at hp
  next r hr =>
    simp only [Bool.and_eq_true, beq_iff_eq] at hp
    obtain ⟨⟨⟨-, hcode⟩, hp1⟩, hdie⟩ := hp
    exact ⟨r, hr, hcode, hdie, hp1⟩
  next => simp at hp

theorem mergeable_empty (h : s.sillageOf d = []) : s.mergeable n d = none := by
  unfold State.mergeable
  rw [h]
  rfl

/-- A new record, as it is before its place is found. -/
def NewRec.fresh (n : NewRec) (s : State) : Rec where
  code := n.code
  die := n.die
  level := n.level
  opened := n.level == .notice || n.level == .degrade
  merged := false
  lg := n.lg
  emerg := false
  esc := n.esc
  preempt := n.pre
  relayed := false
  seq := s.clk.pseq
  secs := secsOf s.clk.count % 2 ^ 32
  nanos := nanosOf s.clk.count
  epoch := s.clk.epoch
  rep := 0
  p1 := n.p1 % 2 ^ 32
  p2 := n.p2 % 2 ^ 32
  p3 := n.p3 % 2 ^ 32
  touched := s.now

/-- The package's sequence counter counts a record. -/
def State.countRec (s : State) : State := { s with clk := { s.clk with pseq := (s.clk.pseq + 1) % 2 ^ 32 } }

theorem writeRec_unheld (h : s.holder n.die = none) :
    (s.writeRec n).1.ev = (s.countRec.store (n.fresh s) (n.lg || n.level == .isolate)).ev := by
  unfold State.writeRec
  simp only [h]
  split <;> rfl

theorem writeRec_new (h : s.holder n.die = some (d, b)) (hm : s.mergeable n d = none) :
    (s.writeRec n).1.ev = (s.countRec.store (n.fresh s) (n.lg || n.level == .isolate)).ev := by
  unfold State.writeRec
  simp only [h, hm, Option.map_none]
  split <;> rfl

theorem writeRec_merges {old : Rec} (h : s.holder n.die = some (d, b)) (hm : s.mergeable n d = some i)
    (hi : (s.sillageOf d)[i]? = some old) :
    (s.writeRec n).1.ev.sillage = s.ev.sillage.modify d fun l => l.modify i fun _ => old.merge n s.now := by
  unfold State.writeRec
  simp only [h, hm, Option.map_some, hi]
  split <;> rfl

/-- The record that a sillage takes in stands at its end. -/
theorem writeRec_appends (h : s.holder n.die = some (d, b)) (hm : s.mergeable n d = none) (hc : n.code ≠ 0x7801) :
    ∃ r, n.Names r ∧ (s.writeRec n).1.ev.sillage = s.ev.sillage.set d (ringPut (s.sillageOf d) r).1 := by
  have hh : s.countRec.holder (n.fresh s).die = some (d, b) := h
  refine ⟨(n.fresh s).asStored (n.lg || n.level == .isolate) b, ⟨rfl, rfl, rfl⟩, ?_⟩
  rw [writeRec_new h hm, store_held hh, if_neg (show (n.fresh s).code ≠ 0x7801 from hc), putRecord_ev, State.sillageOf]
  dsimp only
  rw [gasp_sillage]
  rfl

theorem mem_ringPut (l : List Rec) (r : Rec) : r ∈ (ringPut l r).1 := by
  unfold ringPut
  split <;> simp

/-- A fault of a die whose records are held, by one of the sillages that there are, is recorded. -/
theorem writeRec_recorded (h : s.holder n.die = some (d, b)) (hd : d < s.ev.sillage.length) (hc : n.code ≠ 0x7801) :
    ∃ r ∈ (s.writeRec n).1.records, n.Names r := by
  cases hm : s.mergeable n d with
  | none =>
    obtain ⟨r, hr, he⟩ := writeRec_appends h hm hc
    refine ⟨r, mem_records.2 ⟨_, ?_, mem_ringPut (s.sillageOf d) r⟩, hr⟩
    rw [he]
    exact List.mem_set hd _
  | some i =>
    obtain ⟨old, hi, hcode, hdie, hp1⟩ := mergeable_some hm
    refine ⟨old.merge n s.now, mem_records.2 ⟨(s.sillageOf d).modify i fun _ => old.merge n s.now, ?_, ?_⟩, hcode, hdie, hp1⟩
    · rw [writeRec_merges h hm hi]
      refine List.mem_iff_getElem?.2 ⟨d, ?_⟩
      rw [List.getElem?_modify_eq, State.sillageOf, List.getD_eq_getElem?_getD, List.getElem?_eq_getElem hd]
      rfl
    · refine List.mem_iff_getElem?.2 ⟨i, ?_⟩
      rw [List.getElem?_modify_eq, hi]
      rfl

end Record

/-! ### A fault that neither takes a unit out of service nor isolates (R394) -/

def Parts.calm : List Part := [Part.ev, Part.host, Part.clk, 0x7820, 0x6048, 0x7808, Part.sys]

/-- What telling of a fault and counting it may change. -/
def Parts.told : List Part := [Part.host, 0x6048, 0x7808]

theorem Within.ite {l : List Part} {c : Prop} [Decidable c] {s t u : State} (ht : Within l s t) (hu : Within l s u) :
    Within l s (if c then t else u) := by split <;> assumption

/-- What a calm fault does: its record, and its manager's acceptance of it. -/
structure Calm (s t : State) (n : NewRec) (f : FaultRun) : Prop where
  within : Within Parts.calm s t
  isolated : t.sys.isolated = s.sys.isolated
  ev : t.ev = ((s.writeRec n).1.withMgr n.die fun m => m.accept ((s.faultMgr n.die).taken n.level) f).ev
  named : f.code = n.code ∧ f.p1 = n.p1 % 2 ^ 32 ∧ f.level = n.level

/-- A NOTICE or DEGRADE that no full queue escalates. -/
theorem raiseSeq_calm (s : State) (code : Nat) {l : Level} (die p1 p2 p3 : Nat) (hl : l = .notice ∨ l = .degrade)
    (ht : (s.faultMgr die).taken l ≠ .escalate) :
    ∃ n f, (n.code = code ∧ n.die = die ∧ n.p1 = p1 ∧ n.level = l) ∧ Calm s (s.raiseSeq code l die p1 p2 p3 false).1 n f := by
  unfold State.raiseSeq
  extract_lets u l1 m t l2 esc old w told written f accepted toldOf counted merged out isolated driven
  have hne : (t == Taken.escalate) = false := beq_eq_false_iff_ne.2 ht
  have hl2 : l2 = l := if_neg (by simp [hne])
  have hout : out = merged := if_neg (by rcases hl with rfl | rfl <;> simp [hl2])
  have hiso : isolated = merged := (if_neg (by rcases hl with rfl | rfl <;> simp [hl2])).trans hout
  have hw : Within Parts.calm s written := (writeRec_within ..).mono rfl
  have ha : Within Parts.calm s accepted := hw.step (withMgr_within ..) rfl
  have ht : Within Parts.told accepted toldOf := .ite ((tellRecord_within ..).mono rfl) .refl
  have hc : Within Parts.told accepted counted := .ite (ht.step (bump_within ..) rfl) ht
  have hm : Within Parts.told accepted merged := .ite (hc.step (bump_within ..) rfl) hc
  have hdriven : driven = merged.driveFault := congrArg State.driveFault hiso
  have hd : Within Parts.driveFault merged driven := hdriven ▸ driveFault_within merged
  have hfin : Within Parts.told driven (if driven.faultLevel die = old then driven else driven.notify 0x7808 die) :=
    .ite .refl ((notify_within ..).mono rfl)
  refine ⟨⟨code, l2, die, p1, p2, p3, esc, t == .preempt || t == .escalate, code == 0x7801 || code == 0x800A⟩, f,
    ⟨rfl, rfl, rfl, hl2⟩, ?_⟩
  refine ⟨((ha.step hm rfl).step hd rfl).step hfin rfl, ?_, ?_, rfl, rfl, rfl⟩
  · have hsys : driven.sys.isolated = merged.sys.isolated := congrArg (·.sys.isolated) hdriven
    exact (congrArg SysState.isolated (hfin.agrees.sys rfl)).trans (hsys.trans
      ((congrArg SysState.isolated (hm.agrees.sys rfl)).trans (congrArg SysState.isolated ((writeRec_within ..).agrees.sys rfl))))
  · show _ = (written.withMgr die fun m => m.accept ((s.faultMgr die).taken l2) f).ev
    rw [hl2]
    exact (hfin.agrees.ev rfl).trans ((hd.agrees.ev rfl).trans (hm.agrees.ev rfl))

end Sys2Proof.Machine
end

section
/-! Faults raised, handled and acknowledged; sillages tested and cleared (R392–R404). -/
namespace Sys2Proof.Machine

/-! ### A fault of no unit (R392, R394) -/

/-- What takes a unit out or isolates has a unit (R412). -/
theorem codeLevel_of_noUnit {c : Nat} (h : codeUnit c = .none) : codeLevel c = .notice ∨ codeLevel c = .degrade := by
  unfold codeLevel
  split
  next hc => rcases hc with rfl | rfl | rfl | rfl <;> exact absurd h (by decide)
  next =>
    split
    next hc => rcases hc with rfl | rfl <;> exact absurd h (by decide)
    next => split <;> simp

/-- The die whose sillage holds a record is one of the package. -/
theorem holder_lt {s : State} {d h : Nat} {b : Bool} (hh : s.holder d = some (h, b)) : h < s.dies := by
  simp only [State.holder, State.nextSillage, Option.map_eq_some_iff, Prod.mk.injEq] at hh
  obtain ⟨e, he, rfl, -⟩ := hh
  have hok := List.find?_some he
  simp only [State.sillageOk, Bool.and_eq_true, decide_eq_true_eq] at hok
  exact hok.2

section Raised
variable {s : State} {code die p1 p2 p3 : Nat} {own : Bool}

theorem faultRaised_idle (h : codeListed code = false ∨ s.dies ≤ die ∨ die ∈ s.sys.isolated) :
    s.faultRaised code die p1 p2 p3 own = s :=
  if_pos (by rcases h with h | h | h <;> simp [h])

theorem containUnit_none {u : State} (h : codeUnit code = .none) (p : Nat) : u.containUnit code die p = u := by
  unfold State.containUnit
  rw [h]

theorem faultRaised_noUnit (hl : codeListed code = true) (hu : codeUnit code = .none) (hc : code ≠ 0x7001) (hd : die < s.dies)
    (hi : die ∉ s.sys.isolated) (hr : (s.faultMgr die).running = none) :
    s.faultRaised code die p1 p2 p3 own = (s.raiseSeq code (codeLevel code) die p1 p2 p3 false).1 := by
  unfold State.faultRaised
  rw [if_neg (by simp [hl, hi, Nat.not_le.2 hd])]
  simp only [hc, if_false, hr, Bool.and_false, containUnit_none hu, ite_self]
  rfl

theorem faultRaised_recorded (hl : codeListed code = true) (hu : codeUnit code = .none) (hc : code ≠ 0x7001) (hd : die < s.dies)
    (hi : die ∉ s.sys.isolated) (hm : die < s.ev.mgr.length) (hs : s.dies ≤ s.ev.sillage.length) (hh : (s.holder die).isSome = true)
    (hr : (s.faultMgr die).running = none) :
    let t := s.faultRaised code die p1 p2 p3 own
    t.recorded code die (p1 % 2 ^ 32) ∧ ((t.faultMgr die).running.map fun f => (f.code, f.p1)) = some (code, p1 % 2 ^ 32) := by
  intro t
  have hrun := taken_idle hr (codeLevel code)
  obtain ⟨n, f, ⟨rfl, rfl, rfl, hlevel⟩, hcalm⟩ := raiseSeq_calm s code die p1 p2 p3 (codeLevel_of_noUnit hu) (by rw [hrun]; simp)
  have ht : t = _ := faultRaised_noUnit hl hu hc hd hi hr
  have hev : t.ev = ((s.writeRec n).1.withMgr n.die fun m => m.accept .run f).ev := by rw [ht, hcalm.ev, hlevel, hrun]
  obtain ⟨hcode, hp1, -⟩ := hcalm.named
  constructor
  · obtain ⟨⟨d, b⟩, hdb⟩ := Option.isSome_iff_exists.1 hh
    have hc' : n.code ≠ 0x7801 := fun h => by rw [h] at hu; exact absurd hu (by decide)
    obtain ⟨r, hmem, hn⟩ := writeRec_recorded hdb (lt_of_lt_of_le (holder_lt hdb) hs) hc'
    refine ⟨r, mem_records.2 ?_, hn⟩
    rw [hev]
    exact mem_records.1 hmem
  · have hlen : n.die < (s.writeRec n).1.ev.mgr.length := by rwa [(writeRec_recordsOnly s n).mgr]
    have hmgr : t.faultMgr n.die = ((s.writeRec n).1.faultMgr n.die).accept .run f :=
      (congrArg (fun e : EvState => e.mgr.getD n.die _) hev).trans (faultMgr_withMgr_same hlen)
    rw [hmgr, accept_run, Option.map_some, hcode, hp1]

end Raised

/-! ### Handlers (R394, R395) -/

section Handler
variable {s : State} {d : Nat} {f g : FaultRun} {l : List FaultRun}

theorem handlerEnd_idle (h : (s.faultMgr d).running = none) : s.handlerEnd d = s := if_pos (by simp [h])

theorem tellRecord_ev (s : State) (f : FaultRun) : (s.tellRecord f).ev = s.ev := (tellRecord_within s f).agrees.ev rfl

theorem notifyLevel_ev (s : State) (d old : Nat) : (s.notifyLevel d old).ev = s.ev := (notifyLevel_within s d old).agrees.ev rfl

theorem handlerEnd_ev (h : (s.faultMgr d).running = some f) : (s.handlerEnd d).ev = (s.withMgr d FaultMgr.ended).ev := by
  have hs : ¬ (s.faultMgr d).running.isNone = true := by simp [h]
  unfold State.handlerEnd
  extract_lets +onlyGivenNames -merge m
  rw [if_neg hs]
  extract_lets +onlyGivenNames -merge ended told
  have ht : told.ev = ended.ev := by
    unfold told
    split
    · split
      · exact tellRecord_ev ..
      · rfl
    · rfl
  exact (notifyLevel_ev ..).trans ht

/-- The end of a handler is its manager's. -/
theorem handlerEnd_mgr (hd : d < s.ev.mgr.length) (h : (s.faultMgr d).running = some f) :
    (s.handlerEnd d).faultMgr d = (s.faultMgr d).ended :=
  (congrArg (fun e : EvState => e.mgr.getD d _) (handlerEnd_ev h)).trans (faultMgr_withMgr_same hd)

theorem ended_resumes {m : FaultMgr} (h : m.suspended = g :: l) : m.ended.running = some g ∧ m.ended.suspended = l := by
  unfold FaultMgr.ended
  rw [h]
  exact ⟨rfl, rfl⟩

theorem ended_next {m : FaultMgr} (hs : m.suspended = []) (hq : m.queue = [g]) : m.ended.running = some g ∧ m.ended.queue = [] := by
  have hn : nextQueued [g] = some g := by simp [nextQueued]
  unfold FaultMgr.ended
  rw [hs, hq]
  dsimp only
  rw [hn]
  simp

theorem ended_idle {m : FaultMgr} (hs : m.suspended = []) (hq : m.queue = []) : m.ended.running = none := by
  unfold FaultMgr.ended
  rw [hs, hq]
  rfl

end Handler

/-! ### `EV_CMD` (R397) -/

section Cmd
variable {s : State} {rq : Req} {d : Nat} {pass : Bool}

theorem stir_ev (s : State) : s.stir.ev = s.ev := (stir_within s).agrees.ev rfl

theorem stir_sys (s : State) : s.stir.sys = s.sys := (stir_within s).agrees.sys rfl

/-- An open fault that ACK leaves: ISOLATE, or CONTAIN of a unit that is out. -/
def State.staysOpen (s : State) (d : Nat) (f : FaultRun) : Bool :=
  f.level == .isolate || (f.level == .contain && s.isOut f.ucls d f.p1)

theorem ack_opened (s : State) (d : Nat) : ((s.ack d).faultMgr d).opened = (s.faultMgr d).opened.filter (s.staysOpen d) := by
  have he : (s.ack d).faultMgr d = (s.withMgr d fun m => { m with opened := m.opened.filter (s.staysOpen d) }).faultMgr d :=
    congrArg (fun e : EvState => e.mgr.getD d _) (notifyLevel_ev ..)
  rw [he]
  by_cases hd : d < s.ev.mgr.length
  · rw [faultMgr_withMgr_same hd]
  · have hnone : s.faultMgr d = ⟨none, [], [], []⟩ := List.getD_eq_default _ _ (Nat.le_of_not_lt hd)
    rw [faultMgr_withMgr_none (Nat.le_of_not_lt hd), hnone]
    rfl

theorem putEvCmd_ack (s : State) (d : Nat) : (putEvCmd d 1 false).2 s = (.ok, s.ack d) := rfl

theorem stir_staysOpen (s : State) (d : Nat) : s.stir.staysOpen d = s.staysOpen d := by
  funext f
  rw [State.staysOpen, State.isOut, stir_ev]
  rfl

theorem faultAck_opened (hp : s.passes rq (putEvCmd d 1 false).1 = true) :
    let t := s.request rq (putEvCmd d 1 false).1 (putEvCmd d 1 false).2
    (t.faultMgr d).opened = (s.faultMgr d).opened.filter (s.staysOpen d) ∧ t.replied ⟨0x7840, 0, d⟩ .ok := by
  obtain ⟨hin, hr⟩ := passed_stored hp (putEvCmd_ack s.stir d)
  refine ⟨?_, hr⟩
  have ht := faultMgr_congr (congrArg EvState.mgr (hin.agrees.ev rfl)) d
  rw [ht, ack_opened, stir_staysOpen, faultMgr_congr (congrArg EvState.mgr (stir_ev s))]

/-- ACK leaves no DEGRADE open. -/
theorem staysOpen_degrade {f : FaultRun} (h : s.staysOpen d f = true) : f.level ≠ .degrade := by
  intro hl
  simp [State.staysOpen, hl] at h

/-- A sillage wiped for its test. -/
def State.wipeSillage (s : State) (d : Nat) : State := s.withEv fun e => { e with sillage := e.sillage.set d [] }

/-- A sillage back in service: its region good, its STATE OK, and it relays to none. -/
def State.restoreSillage (s : State) (d : Nat) : State :=
  let s := s.withEv fun e => { e with badRegion := e.badRegion.filter (· != d) }
  ((((s.setFld F.EV_SILLAGE_STATE d 0).setFld F.EV_SILLAGE_RELAYTO d 0).relays).putBack .sillage d d).notify 0x7810 d

theorem retest_busy (h : s.fld F.EV_SILLAGE_STATE d = 0) : s.retest d pass = (.busy, s) := if_pos h

theorem retest_fails (h : s.fld F.EV_SILLAGE_STATE d ≠ 0) (hp : ¬ (pass = true ∧ d ∉ s.sys.isolated)) :
    s.retest d pass = (.ok, s.wipeSillage d) := by
  refine (if_neg h).trans (if_neg ?_)
  rw [Bool.and_eq_true]
  rintro ⟨rfl, hi⟩
  exact hp ⟨rfl, by simpa using hi⟩

/-- A sillage wiped, tested good and back in service, with its record. -/
def State.retested (s : State) (d : Nat) : State := ((s.wipeSillage d).restoreSillage d).raise 0x7803 d d 0 0

theorem retest_passes (h : s.fld F.EV_SILLAGE_STATE d ≠ 0) (hi : d ∉ s.sys.isolated) : s.retest d true = (.ok, s.retested d) :=
  (if_neg h).trans (if_pos (by simpa using hi))

/-- RELAYTO is set for the sillages alone that do not read OK (R403). -/
theorem relays_ok (h : s.fld F.EV_SILLAGE_STATE d = 0) (hr : s.fld F.EV_SILLAGE_RELAYTO d = 0) :
    s.relays.fld F.EV_SILLAGE_STATE d = 0 ∧ s.relays.fld F.EV_SILLAGE_RELAYTO d = 0 := by
  unfold State.relays
  generalize List.range s.dies = l
  induction l generalizing s with
  | nil => exact ⟨h, hr⟩
  | cons e l ih =>
    rw [List.foldl_cons]
    split
    · exact ih h hr
    next he =>
      have hne : d ≠ e := fun hde => he (hde ▸ h)
      split
      · exact ih ((fld_setFld_elem s F.EV_SILLAGE_RELAYTO F.EV_SILLAGE_STATE _ hne).trans h)
          ((fld_setFld_elem s F.EV_SILLAGE_RELAYTO F.EV_SILLAGE_RELAYTO _ hne).trans hr)
      · exact ih h hr

theorem restoreSillage_ok (s : State) (d : Nat) :
    (s.restoreSillage d).fld F.EV_SILLAGE_STATE d = 0 ∧ (s.restoreSillage d).fld F.EV_SILLAGE_RELAYTO d = 0 := by
  unfold State.restoreSillage
  extract_lets u
  have hw : Within [Part.ev, Part.host, 0x6048] ((u.setFld F.EV_SILLAGE_STATE d 0).setFld F.EV_SILLAGE_RELAYTO d 0).relays
      (((((u.setFld F.EV_SILLAGE_STATE d 0).setFld F.EV_SILLAGE_RELAYTO d 0).relays).putBack .sillage d d).notify 0x7810 d) :=
    ((putBack_within ..).mono rfl).step (notify_within ..) rfl
  have hstate : ((u.setFld F.EV_SILLAGE_STATE d 0).setFld F.EV_SILLAGE_RELAYTO d 0).fld F.EV_SILLAGE_STATE d = 0 :=
    (fld_setFld_apart _ d d 0 rfl).trans (fld_setFld_of_lt u d 0 rfl (by decide))
  obtain ⟨hok, hrelay⟩ := relays_ok hstate (fld_setFld_of_lt _ d 0 rfl (by decide))
  exact ⟨(hw.fld_eq rfl d).trans hok, (hw.fld_eq rfl d).trans hrelay⟩

/-- SILLAGE-RESTORED, a NOTICE, is calm. -/
theorem retested_calm (s : State) (d : Nat) : ∃ n f, (n.code = 0x7803 ∧ n.die = d ∧ n.p1 = d ∧ n.level = .notice) ∧
    Calm ((s.wipeSillage d).restoreSillage d) (s.retested d) n f :=
  raiseSeq_calm _ 0x7803 d d 0 0 (.inl rfl) (taken_notice _)

theorem retested_ok (s : State) (d : Nat) :
    (s.retested d).fld F.EV_SILLAGE_STATE d = 0 ∧ (s.retested d).fld F.EV_SILLAGE_RELAYTO d = 0 := by
  obtain ⟨n, f, -, hcalm⟩ := retested_calm s d
  obtain ⟨hok, hrelay⟩ := restoreSillage_ok (s.wipeSillage d) d
  exact ⟨(hcalm.within.fld_eq (f := F.EV_SILLAGE_STATE) rfl d).trans hok,
    (hcalm.within.fld_eq (f := F.EV_SILLAGE_RELAYTO) rfl d).trans hrelay⟩

theorem stir_isolated (s : State) : s.stir.sys.isolated = s.sys.isolated := congrArg SysState.isolated (stir_sys s)

theorem putEvCmd_retest (s : State) (d : Nat) (pass : Bool) : (putEvCmd d 2 pass).2 s = s.retest d pass := rfl

theorem sillageRetest_passes (hp : s.passes rq (putEvCmd d 2 true).1 = true) (h : s.fld F.EV_SILLAGE_STATE d ≠ 0)
    (hi : d ∉ s.sys.isolated) :
    let t := s.request rq (putEvCmd d 2 true).1 (putEvCmd d 2 true).2
    Within Parts.plainly (s.stir.retested d) t ∧ t.fld F.EV_SILLAGE_STATE d = 0 ∧ t.fld F.EV_SILLAGE_RELAYTO d = 0 ∧
      t.replied ⟨0x7840, 0, d⟩ .ok := by
  have h' : s.stir.fld F.EV_SILLAGE_STATE d ≠ 0 := by rwa [stir_fld]
  have hi' : d ∉ s.stir.sys.isolated := by rwa [stir_isolated]
  obtain ⟨hin, hr⟩ := passed_stored hp ((putEvCmd_retest s.stir d true).trans (retest_passes h' hi'))
  obtain ⟨hok, hrelay⟩ := retested_ok s.stir d
  exact ⟨hin, (hin.fld_eq (f := F.EV_SILLAGE_STATE) rfl d).trans hok, (hin.fld_eq (f := F.EV_SILLAGE_RELAYTO) rfl d).trans hrelay, hr⟩

theorem sillageRetest_fails (hp : s.passes rq (putEvCmd d 2 pass).1 = true) (h : s.fld F.EV_SILLAGE_STATE d ≠ 0)
    (hf : ¬ (pass = true ∧ d ∉ s.sys.isolated)) :
    let t := s.request rq (putEvCmd d 2 pass).1 (putEvCmd d 2 pass).2
    t.fld F.EV_SILLAGE_STATE d = s.fld F.EV_SILLAGE_STATE d ∧ t.replied ⟨0x7840, 0, d⟩ .ok := by
  have ho := (putEvCmd_retest s.stir d pass).trans (retest_fails (by rwa [stir_fld]) (by rwa [stir_isolated]))
  obtain ⟨hin, hr⟩ := passed_stored hp ho
  exact ⟨(hin.fld_eq (f := F.EV_SILLAGE_STATE) rfl d).trans (stir_fld ..), hr⟩

theorem sillageRetest_busy (hp : s.passes rq (putEvCmd d 2 pass).1 = true) (h : s.fld F.EV_SILLAGE_STATE d = 0) :
    let t := s.request rq (putEvCmd d 2 pass).1 (putEvCmd d 2 pass).2
    t.ev = s.ev ∧ t.fld F.EV_SILLAGE_STATE d = 0 ∧ t.replied ⟨0x7840, 0, d⟩ .busy := by
  have ho := (putEvCmd_retest s.stir d pass).trans (retest_busy (by rwa [stir_fld]))
  obtain ⟨hin, hr⟩ := passed_refused hp ho rfl (by decide)
  exact ⟨hin.agrees.ev rfl, (hin.fld_eq (f := F.EV_SILLAGE_STATE) rfl d).trans h, hr⟩

end Cmd

/-! ### Records close, and cursors (R400, R401) -/

section Close
variable {s : State} {d n : Nat} {r : Rec} {rq : Req} {c : Nat} {v : W}

/-- A record shut by its sequence number. -/
def Rec.shut (n : Nat) (x : Rec) : Rec := if x.seq = n then { x with opened := false } else x

theorem shut_closed (n : Nat) (x : Rec) : ((x.shut n).seq != n || !(x.shut n).opened) = true := by
  unfold Rec.shut
  split
  · simp
  next h => simp [h]

theorem recordClose_open (h : (s.sillageOf d).find? (fun x => x.seq == n) = some r) (ho : r.opened = true) :
    s.recordClose d n =
      (s.waitUntil (r.touched + secs 10)).withEv fun e => { e with sillage := e.sillage.modify d fun l => l.map (Rec.shut n) } := by
  unfold State.recordClose
  rw [h]
  dsimp only
  rw [ho]
  rfl

theorem recordClose_idle (h : (((s.sillageOf d).find? fun x => x.seq == n).map (·.opened)).getD false = false) : s.recordClose d n = s := by
  unfold State.recordClose
  cases hf : (s.sillageOf d).find? fun x => x.seq == n with
  | none => rfl
  | some r =>
    rw [hf] at h
    exact if_pos (by simpa using h)

/-- What a sillage holds after a change of each of its records. -/
theorem sillageOf_map (s : State) (d : Nat) (f : Rec → Rec) :
    (s.withEv fun e => { e with sillage := e.sillage.modify d fun l => l.map f }).sillageOf d = (s.sillageOf d).map f := by
  simp only [State.sillageOf, withEv_ev, List.getD_eq_getElem?_getD, List.getElem?_modify_eq]
  cases s.ev.sillage[d]? <;> rfl

theorem withEv_now (s : State) (f : EvState → EvState) : (s.withEv f).now = s.now := rfl

theorem recordClose_closes (h : (s.sillageOf d).find? (fun x => x.seq == n) = some r) (ho : r.opened = true) :
    (((s.recordClose d n).sillageOf d).all fun x => x.seq != n || !x.opened) = true ∧
      r.touched + secs 10 ≤ (s.recordClose d n).now := by
  rw [recordClose_open h ho]
  refine ⟨?_, le_of_le_of_eq (le_now_waitUntil s _) (withEv_now ..).symm⟩
  rw [sillageOf_map, List.all_map]
  exact List.all_eq_true.2 fun x _ => shut_closed n x

theorem cursor_set (hp : s.passes rq (putCursor s c v).1 = true) :
    let t := s.request rq (putCursor s c v).1 (putCursor s c v).2
    t.fld F.EV_CURSOR_CURSOR c = F.EV_CURSOR_CURSOR.of v ∧ t.fld F.EV_CURSOR_MISSED c = 0 ∧ t.replied ⟨0x7820, 0, c⟩ .ok := by
  have ho : (putCursor s c v).2 s.stir =
      (.ok, (s.stir.setFld F.EV_CURSOR_CURSOR c (F.EV_CURSOR_CURSOR.of v)).setFld F.EV_CURSOR_MISSED c 0) :=
    rfl
  obtain ⟨hin, hr⟩ := passed_stored hp ho
  refine ⟨(hin.fld_eq (f := F.EV_CURSOR_CURSOR) rfl c).trans ?_, (hin.fld_eq (f := F.EV_CURSOR_MISSED) rfl c).trans ?_, hr⟩
  · exact (fld_setFld_apart _ c c 0 rfl).trans (fld_setFld_of_lt _ c _ rfl (Fld.of_lt ..))
  · exact fld_setFld_of_lt _ c 0 rfl (by decide)

end Close

/-! ### Reads that make a value (R404) -/

section Read
variable {s : State} {rq : Req} {a : Addr} {k : State → List W × State}

theorem judgeWire_answers {x : WireAddr} {st : Status} (h : s.judgeWire rq x = .error st) : st ≠ .forwarded := by
  simp only [State.judgeWire] at h
  split at h
  next hf => exact findElem_answers (Except.error.inj h ▸ hf)
  next =>
    repeat' split at h
    all_goals cases h
    all_goals simp

theorem hostRead_data (h : s.acceptsRead rq a = true) : (s.hostRead rq a k).repliedData a (k (s.stir.countMsg rq false)).1 := by
  simp only [State.acceptsRead, Bool.and_eq_true] at h
  obtain ⟨ha, hj⟩ := h
  unfold State.hostRead
  rw [if_neg (by simp [ha])]
  cases hr : s.judgeRead rq a with
  | error st => rw [hr] at hj; exact absurd hj (by simp)
  | ok o =>
    dsimp only
    rw [State.repliedData, State.answerData, (countMsg_within ..).agrees.host rfl]
    rfl

theorem hostRead_refused {st : Status} (ha : s.alive = true) (h : s.judgeRead rq a = .error st) : (s.hostRead rq a k).replied a st := by
  unfold State.hostRead
  rw [if_neg (by simp [ha]), h]
  simp only [State.replied, State.answer, beq_iff_eq, judgeWire_answers h, if_false]
  rw [(countMsg_within ..).agrees.host rfl]
  rfl

/-- A challenge is made of the free values and the time. -/
theorem clearChallenge_asked (s : State) (rq : Req) : (s.stir.countMsg rq false).clearChallenge.1 = s.clearChallenge.1 := by
  have hf : (s.stir.countMsg rq false).fresh = s.fresh :=
    ((countMsg_within ..).agrees.fresh rfl).trans ((stir_within s).agrees.fresh rfl)
  simp only [State.clearChallenge, State.newChallenge, hf]

end Read

end Sys2Proof.Machine
end

section
/-! The clearing of the sillages (R404), and the statements about faults. -/
namespace Sys2Proof.Machine

/-! ### What a record leaves of empty sillages -/

section Empty
variable {s : State} {n : NewRec}

theorem sillageOf_empty (h : ∀ l ∈ s.ev.sillage, l = []) (d : Nat) : s.sillageOf d = [] := by
  rw [State.sillageOf, List.getD_eq_getElem?_getD]
  cases hd : s.ev.sillage[d]? with
  | none => rfl
  | some l => exact h l (List.mem_of_getElem? hd)

/-- Where no sillage holds a record, the one written is the only one. -/
theorem writeRec_alone (h : ∀ l ∈ s.ev.sillage, l = []) (hc : n.code ≠ 0x7801) : ∀ r ∈ (s.writeRec n).1.records, r.code = n.code := by
  intro r hr
  obtain ⟨l, hl, hr⟩ := mem_records.1 hr
  cases hh : s.holder n.die with
  | none =>
    have hu : s.countRec.holder (n.fresh s).die = none := hh
    rw [writeRec_unheld hh, store_unheld hu, gasp_sillage] at hl
    simp [h l hl] at hr
  | some x =>
    obtain ⟨d, b⟩ := x
    obtain ⟨y, ⟨hcode, -, -⟩, he⟩ := writeRec_appends hh (mergeable_empty (sillageOf_empty h d)) hc
    rw [he, sillageOf_empty h] at hl
    rcases List.mem_or_eq_of_mem_set hl with hl | rfl
    · simp [h l hl] at hr
    · rw [show r = y by simpa [ringPut] using hr, hcode]

end Empty

/-! ### A clear (R404) -/

section Clear
variable {s : State} {rq : Req} {blob : List Byte}

/-- The sillages and the last gasps that a scope leaves. -/
def State.emptied (s : State) (scope : Nat) : State :=
  s.withEv fun e => { e with
    sillage := e.sillage.zipIdx.map fun (x : List Rec × Nat) => if scope % 16 == 15 || x.2 == scope % 16 then [] else x.1
    lastGasp := e.lastGasp.filter fun r => !(scope / 128 == 1 && r.emerg) }

theorem emptied_all {scope : Nat} (h : scope % 16 = 15) : ∀ l ∈ (s.emptied scope).ev.sillage, l = [] := by
  intro l hl
  simp only [State.emptied, withEv_ev, h, beq_self_eq_true, Bool.true_or, if_true, List.mem_map] at hl
  obtain ⟨-, -, rfl⟩ := hl
  rfl

/-- The clear's own record follows what it empties; the cursors are set after it. -/
theorem clearSillage_ev (s : State) (ctx scope : Nat) : ∃ k : Nat, (s.clearSillage ctx scope).ev =
    ((s.emptied scope).raiseSeq 0x7802 .notice (s.emptied scope).mastDie ctx scope k false).1.ev := by
  unfold State.clearSillage
  extract_lets +onlyGivenNames -merge hit lg k emptied r
  exact ⟨k, (Within.foldl (l := [0x7820]) .refl fun t c h => h.trans (setFld_within t F.EV_CURSOR_CURSOR c _)).agrees.ev rfl⟩

theorem clearSillage_records {ctx scope : Nat} (h : scope % 16 = 15) :
    ∀ r ∈ (s.clearSillage ctx scope).records, r.code = 0x7802 := by
  intro r hr
  obtain ⟨k, hk⟩ := clearSillage_ev s ctx scope
  obtain ⟨n, f, ⟨hcode, -, -, -⟩, hcalm⟩ :=
    raiseSeq_calm (s.emptied scope) 0x7802 (s.emptied scope).mastDie ctx scope k (.inl rfl) (taken_notice _)
  have he : (s.clearSillage ctx scope).ev.sillage = ((s.emptied scope).writeRec n).1.ev.sillage := by rw [hk, hcalm.ev]; rfl
  refine (writeRec_alone (s := s.emptied scope) (emptied_all h) (by rw [hcode]; decide) r (mem_records.2 ?_)).trans hcode
  rw [← he]
  exact mem_records.1 hr

/-- A clear's challenge and signature are good. -/
def State.clearGood (s : State) (blob : List Byte) : Prop :=
  (s.useChallenge s.ev.clearCh (blob.take 16)).1 = true ∧
    Config.ed25519 (s.contextKey (byteAt blob 16)) (blob.take 24) (blob.drop 24) = true

/-- The challenges left once the one named is used up. -/
def State.useClearCh (s : State) (blob : List Byte) : State :=
  s.withEv fun e => { e with clearCh := (s.useChallenge s.ev.clearCh (blob.take 16)).2 }

theorem stir_useChallenge (s : State) (l : List Challenge) (b : List Byte) : s.stir.useChallenge l b = s.useChallenge l b := by
  unfold State.stir
  split <;> rfl

theorem useClearCh_contextKey (s : State) (blob : List Byte) (c : Nat) : (s.stir.useClearCh blob).contextKey c = s.contextKey c := by
  have hw : ∀ w, (s.stir.useClearCh blob).word 0x6018 c w = s.word 0x6018 c w := fun w => stir_word s 0x6018 c w
  simp only [State.contextKey, hw]

theorem putClear_own (s : State) (blob : List Byte) : (putClear s blob).2 s.stir =
    if (s.useChallenge s.ev.clearCh (blob.take 16)).1 && Config.ed25519 (s.contextKey (byteAt blob 16)) (blob.take 24) (blob.drop 24)
    then (.ok, (s.stir.useClearCh blob).clearSillage (byteAt blob 16) (byteAt blob 17))
    else (.auth, (s.stir.useClearCh blob).note 0x7805 (byteAt blob 16) 0 0) := by
  rw [← useClearCh_contextKey s blob, ← stir_useChallenge, ← stir_ev]
  rfl

theorem putClear_good (h : s.clearGood blob) :
    (putClear s blob).2 s.stir = (.ok, (s.stir.useClearCh blob).clearSillage (byteAt blob 16) (byteAt blob 17)) :=
  (putClear_own s blob).trans (if_pos (Bool.and_eq_true_iff.2 h))

theorem putClear_bad (h : ¬ s.clearGood blob) :
    (putClear s blob).2 s.stir = (.auth, (s.stir.useClearCh blob).note 0x7805 (byteAt blob 16) 0 0) :=
  (putClear_own s blob).trans (if_neg fun hg => h (Bool.and_eq_true_iff.1 hg))

theorem records_congr {s t : State} (h : t.ev = s.ev) : t.records = s.records := by rw [State.records, h]; rfl

theorem clear_ok (hp : s.passes rq (putClear s blob).1 = true) (h : s.clearGood blob) :
    let t := s.request rq (putClear s blob).1 (putClear s blob).2
    t.replied ⟨0x7830, 2, 0⟩ .ok ∧ (byteAt blob 17 % 16 = 15 → (t.records.all fun r => r.code == 0x7802) = true) := by
  obtain ⟨hin, hr⟩ := passed_stored hp (putClear_good h)
  refine ⟨hr, fun hall => List.all_eq_true.2 fun r hmem => beq_iff_eq.2 ?_⟩
  rw [records_congr (hin.agrees.ev rfl)] at hmem
  exact clearSillage_records hall r hmem

theorem clear_refused (hp : s.passes rq (putClear s blob).1 = true) (h : ¬ s.clearGood blob) :
    (s.request rq (putClear s blob).1 (putClear s blob).2).replied ⟨0x7830, 2, 0⟩ .auth :=
  passed_replied hp (putClear_bad h) (by decide)

end Clear

/-- Settles O32: a fault without a unit is calm, an end of a handler its manager's, and a clear leaves its own record. -/
theorem faultsAreTakenAndClosed : Obligations.FaultsAreTakenAndClosed := by
  unfold Obligations.FaultsAreTakenAndClosed
  refine ⟨?raised, ?handler, ?ack, ?retest, ?close, ?cursor, ?challenge, ?clear⟩
  case raised =>
    refine fun code die p1 p2 p3 own s => ⟨_, rfl, ?_, ?_⟩
    · exact faultRaised_recorded
    · exact faultRaised_idle
  case handler =>
    refine fun d f g l s => ⟨_, rfl, fun hd hf hs => ?_, fun hd hf hs hq => ?_, fun hd hf hs hq => ?_, handlerEnd_idle⟩
    · rw [handlerEnd_mgr hd hf]
      exact ended_resumes hs
    · rw [handlerEnd_mgr hd hf]
      exact ended_next hs hq
    · rw [handlerEnd_mgr hd hf]
      exact ended_idle hs hq
  case ack =>
    refine fun rq d s => ⟨_, rfl, fun hp => ?_⟩
    obtain ⟨hopened, hr⟩ := faultAck_opened hp
    refine ⟨List.all_eq_true.2 fun f hf => bne_iff_ne.2 ?_, hr⟩
    rw [hopened] at hf
    exact staysOpen_degrade (List.mem_filter.1 hf).2
  case retest =>
    refine fun rq d pass s => ⟨_, rfl, fun hp h => ?_, fun hp h hf => ?_, fun hp h => ?_⟩
    · split
      next hpass =>
        obtain ⟨rfl, hi⟩ := hpass
        obtain ⟨-, hok, hrelay, hr⟩ := sillageRetest_passes hp h hi
        exact ⟨⟨hok, hrelay⟩, hr⟩
      next hf => exact sillageRetest_fails hp h hf
    · exact sillageRetest_fails hp h (by simp [hf])
    · exact (sillageRetest_busy hp h).2
  case close =>
    refine fun d n r s => ⟨_, rfl, ?_, ?_⟩
    · exact recordClose_closes
    · exact recordClose_idle
  case cursor => exact fun rq c v s => ⟨_, rfl, cursor_set⟩
  case challenge =>
    refine fun rq st s => ⟨_, rfl, fun h => ?_, fun ha h => hostRead_refused ha h⟩
    exact clearChallenge_asked s rq ▸ hostRead_data h
  case clear =>
    refine fun rq blob s => ⟨_, rfl, fun hp => ?_⟩
    split
    next h => exact clear_ok hp h
    next h => exact clear_refused hp h

end Sys2Proof.Machine
end

section
/-! EV_CMD as it is quoted (R397). -/
namespace Sys2Proof.Machine

section Quoted
variable {s : State} {rq : Req} {d e : Nat} {v : W} {hw : HostWrite} {own : State → Status × State}

/-- The sillage of a die in service whose own sillage is good holds its records. -/
theorem holder_self (hi : d ∉ s.sys.isolated) (hok : s.sillageOk d = true) : s.holder d = some (d, false) := by
  have hd : d < s.dies := by
    simp only [State.sillageOk, Bool.and_eq_true, decide_eq_true_eq] at hok
    exact hok.2
  obtain ⟨n, hn⟩ : ∃ n, s.dies = n + 1 := ⟨s.dies - 1, by omega⟩
  have hfirst : s.nextSillage d = some d := by
    rw [State.nextSillage, hn, List.range_succ_eq_map, List.map_cons, Nat.add_zero, ← hn, Nat.mod_eq_of_lt hd]
    exact List.find?_cons_of_pos hok
  simp [State.holder, hi, hfirst]

theorem restoreSillage_sys (s : State) (d : Nat) : (s.restoreSillage d).sys = s.sys := by
  unfold State.restoreSillage
  extract_lets u
  exact ((notify_within ..).agrees.sys rfl).trans (((putBack_within ..).agrees.sys rfl).trans ((relays_within _).agrees.sys rfl))

theorem restoreSillage_caps (s : State) (d : Nat) : (s.restoreSillage d).dies = s.dies := by
  unfold State.restoreSillage
  extract_lets u
  exact congrArg Caps.dies ((notify_within ..).caps.trans ((putBack_within ..).caps.trans (relays_within _).caps))

theorem putBack_sillage (s : State) (c : UnitCls) (e d : Nat) : (s.putBack c e d).ev.sillage = s.ev.sillage := rfl

theorem restoreSillage_sillage (s : State) (d : Nat) : (s.restoreSillage d).ev.sillage = s.ev.sillage := by
  unfold State.restoreSillage
  extract_lets u
  have hr : ((u.setFld F.EV_SILLAGE_STATE d 0).setFld F.EV_SILLAGE_RELAYTO d 0).relays.ev = u.ev := (relays_within _).agrees.ev rfl
  generalize ((u.setFld F.EV_SILLAGE_STATE d 0).setFld F.EV_SILLAGE_RELAYTO d 0).relays = v at hr
  have hn : ((v.putBack .sillage d d).notify 0x7810 d).ev = (v.putBack .sillage d d).ev := (notify_within ..).agrees.ev rfl
  rw [hn, putBack_sillage, hr]
  rfl

theorem withMgr_sillage (s : State) (d : Nat) (f : FaultMgr → FaultMgr) : (s.withMgr d f).ev.sillage = s.ev.sillage := rfl

/-- A sillage back in service holds SILLAGE-RESTORED alone. -/
theorem retested_holds (hd : d < s.dies) (hs : d < s.ev.sillage.length) (hi : d ∉ s.sys.isolated) :
    ((s.retested d).sillageOf d).map (·.code) = [0x7803] := by
  obtain ⟨n, f, ⟨hcode, rfl, -, -⟩, hcalm⟩ := retested_calm s d
  have hsil := restoreSillage_sillage (s.wipeSillage n.die) n.die
  have hok := (restoreSillage_ok (s.wipeSillage n.die) n.die).1
  have hdies := restoreSillage_caps (s.wipeSillage n.die) n.die
  have hsys := restoreSillage_sys (s.wipeSillage n.die) n.die
  have hev := (congrArg EvState.sillage hcalm.ev).trans (withMgr_sillage ..)
  generalize s.retested n.die = t at hev ⊢
  generalize (s.wipeSillage n.die).restoreSillage n.die = u at hsil hok hdies hsys hev
  have hsil : u.ev.sillage = s.ev.sillage.set n.die [] := hsil
  have hempty : u.sillageOf n.die = [] := by
    rw [State.sillageOf, hsil, List.getD_eq_getElem?_getD, List.getElem?_set_self hs]
    rfl
  have hh : u.holder n.die = some (n.die, false) := by
    refine holder_self (hsys ▸ hi) ?_
    rw [State.sillageOk, hok, show u.dies = s.dies from hdies]
    simp [hd]
  obtain ⟨r, ⟨hrcode, -, -⟩, he⟩ := writeRec_appends hh (mergeable_empty hempty) (by rw [hcode]; decide)
  have ht : t.ev.sillage = (s.ev.sillage.set n.die []).set n.die [r] := by
    rw [hev, he, hempty, hsil]
    rfl
  rw [State.sillageOf, ht, List.getD_eq_getElem?_getD, List.getElem?_set_self (by simpa using hs)]
  exact congrArg (fun c => [c]) (hrcode.trans hcode)

/-- A NOTICE opens no fault. -/
theorem raiseSeq_notice_opened (s : State) (code die p1 p2 p3 e : Nat) :
    ((s.raiseSeq code .notice die p1 p2 p3 false).1.faultMgr e).opened = (s.faultMgr e).opened := by
  obtain ⟨n, f, ⟨-, -, -, hl⟩, hcalm⟩ := raiseSeq_calm s code die p1 p2 p3 (.inl rfl) (taken_notice _)
  have hf : f.level = .notice := hcalm.named.2.2.trans hl
  rw [faultMgr_congr (congrArg EvState.mgr hcalm.ev), opened_withMgr fun m => accept_notice m _ hf,
    faultMgr_congr (writeRec_recordsOnly s n).mgr]

/-- A violation is recorded as a NOTICE (R335). -/
theorem recordViolation_opened (s : State) (rq : Req) (st : Status) (ix sub addr e : Nat) :
    ((s.recordViolation rq st ix sub addr).faultMgr e).opened = (s.faultMgr e).opened := by
  unfold State.recordViolation
  extract_lets n w0 r s1 s2 s3
  rw [faultMgr_congr (congrArg EvState.mgr ((withHost_ev ..).trans ((setWord_ev ..).trans ((setWord_ev ..).trans (setWord_ev ..)))))]
  exact raiseSeq_notice_opened ..

theorem settle_opened (s : State) (rq : Req) (a : Addr) (w : Nat) (st : Status) (e : Nat) :
    ((s.settle rq a w st).faultMgr e).opened = (s.faultMgr e).opened := by
  unfold State.settle State.settleAs
  extract_lets o u
  have hu : (u.faultMgr e).opened = (s.faultMgr e).opened := by
    show ((if _ then _ else s : State).faultMgr e).opened = _
    split
    · exact recordViolation_opened ..
    · rfl
  split
  · exact hu
  · exact hu

theorem outOfRange_opened (hp : s.passes rq { hw with range := true } = true) (hr : hw.range = false) :
    ((s.request rq hw own).faultMgr e).opened = (s.faultMgr e).opened := by
  obtain ⟨w, h⟩ := request_judged (alive_of_passes hp) (judgeWrite_range own ((stir_passes s rq { hw with range := true }).trans hp) hr)
  have hev := ((answer_within _ rq hw.addr .range).agrees.ev rfl).trans
    ((countMsg_within (s.stir.settle rq hw.addr w .range) rq false).agrees.ev rfl)
  rw [h, faultMgr_congr (congrArg EvState.mgr hev), settle_opened, faultMgr_congr (congrArg EvState.mgr (stir_ev s))]

def evCmdObj : Obj := ⟨0x7840, 0, .u8, [.wo], 0, 4, [.volatile], .base, .perDie 1, [0], false⟩

theorem findObj_evCmd : findObj 0x7840 0 = some evCmdObj := by decide +kernel

theorem evCmd_outOfRange (s : State) (rq : Req) (d : Nat) (h1 : v ≠ 1) (h2 : v ≠ 2) :
    (putWordOf s rq ⟨0x7840, 0, d⟩ 0 v).1.range = false := by
  have hput : (putWordOf s rq ⟨0x7840, 0, d⟩ 0 v).1.range = ((v == 1 || v == 2) && ([(0, v)].all fun y => evCmdObj.typ.fits y.2)) := by
    simp only [putWordOf, findObj_evCmd]
    rfl
  rw [hput, beq_false_of_ne h1, beq_false_of_ne h2]
  rfl

end Quoted

/-- Settles O42: a restored sillage is emptied before its one record, and a refused write records a NOTICE at most. -/
theorem faultCommandsDoWhatTheySay : Obligations.FaultCommandsDoWhatTheySay := by
  unfold Obligations.FaultCommandsDoWhatTheySay
  refine ⟨findObj_evCmd, ?ack, ?passes, ?fails, ?busy, ?range⟩
  case ack => exact fun rq d s => ⟨_, rfl, fun hp => faultAck_opened hp⟩
  case passes =>
    refine fun rq d s => ⟨_, rfl, fun hp hd hs h hi => ?_⟩
    obtain ⟨hin, hok, -, hr⟩ := sillageRetest_passes hp h hi
    refine ⟨hok, ?_, hr⟩
    rw [State.sillageOf, hin.agrees.ev rfl]
    exact retested_holds (by rwa [State.dies, stir_caps]) (by rwa [stir_ev]) (by rwa [stir_isolated])
  case fails => exact fun rq d s => ⟨_, rfl, fun hp h => sillageRetest_fails hp h (by simp)⟩
  case busy =>
    refine fun rq d pass s => ⟨_, rfl, fun hp h => ?_⟩
    obtain ⟨hev, -, hr⟩ := sillageRetest_busy hp h
    exact ⟨hr, hev⟩
  case range =>
    refine fun rq d v s => ⟨_, rfl, fun hp h1 h2 => ?_⟩
    have hr := evCmd_outOfRange s rq d h1 h2
    have hans := (outOfRange_answered (own := (putWordOf s rq ⟨0x7840, 0, d⟩ 0 v).2) hp hr).2
    rw [putWordOf_addr] at hans
    exact ⟨hans, outOfRange_opened hp hr⟩

end Sys2Proof.Machine
end

section
/-! What faults, works and salvos that end leave as it was: a relation that every raise upholds, they uphold (R74, R86, R391, R393); so they
leave the general-purpose inputs (R407) and the STATE of an isolated die's sillage. -/
namespace Sys2Proof.Machine

/-- The parts `l` hold neither the events, the clock, the role and the isolated dies, nor EV_SILLAGE. -/
def sparesFaults (l : List Part) : Bool := !takesIn l Part.ev && sparesWatch l && !takesIn l 0x7810

/-- A relation of states that every raise upholds, and every operation that spares what raises move. -/
structure Upheld (R : State → State → Prop) : Prop where
  refl : ∀ s, R s s
  trans : ∀ {s t u}, R s t → R t u → R s u
  beside : ∀ {l s t}, Within l s t → sparesFaults l = true → R s t
  raise : ∀ s code die p1 p2 p3, R s (s.raise code die p1 p2 p3)

namespace Upheld
variable {R : State → State → Prop} {s t u : State}

theorem step (hR : Upheld R) {l : List Part} (h : R s t) (g : Within l t u) (m : sparesFaults l = true) : R s u :=
  hR.trans h (hR.beside g m)

theorem ite {c : Prop} [Decidable c] (ht : R s t) (hu : R s u) : R s (if c then t else u) := by split <;> assumption

theorem foldl (hR : Upheld R) {α : Type} {f : State → α → State} {xs : List α} (ht : R s t) (hf : ∀ a x, R a (f a x)) :
    R s (xs.foldl f t) := by
  induction xs generalizing t with
  | nil => exact ht
  | cons x xs ih => exact ih (hR.trans ht (hf t x))

/-! ### Works and salvos -/

theorem finishAs (hR : Upheld R) (x : Work) (st : Nat) {out : State → State} (ho : ∀ a, R a (out a)) (s : State) :
    R s (s.finishAs x st out) := by
  unfold State.finishAs
  extract_lets ended counted dropped flat unmade
  have he : R s ended := hR.trans (hR.beside (dropWork_within ..) rfl) (ho _)
  have hc : R s counted := hR.step he (countTake_within ..) rfl
  have hd : R s dropped := ite hc (hR.step hc (dropImages_within ..) rfl)
  have hf : R s flat := ite (ite hd (hR.step hd (setFld_within ..) rfl)) hc
  have hu : R s unmade := ite hf (hR.step hf (unmake_within ..) rfl)
  exact ite (hR.trans hu (hR.raise ..)) (ite (hR.trans hu (hR.raise ..)) hu)

theorem finish (hR : Upheld R) (s : State) (x : Work) (st n : Nat) : R s (s.finish x st n) :=
  hR.finishAs _ _ (fun _ => hR.beside (setOutcome_within ..) rfl) s

theorem fail (hR : Upheld R) (s : State) (x : Work) (st : Nat) : R s (s.fail x st) :=
  ite (hR.finishAs _ _ (fun _ => hR.beside (openOutcome_within ..) rfl) s) (hR.finish ..)

theorem endSalvo (hR : Upheld R) (s : State) (n st result culprit : Nat) : R s (s.endSalvo n st result culprit) := by
  unfold State.endSalvo
  extract_lets worded told
  have hw : R s worded := hR.beside (((setFld_within ..).step (setFld_within ..) rfl).step (setFld_within ..) rfl) rfl
  have ht : R s told := hR.step (hR.step hw (dropSalvo_within ..) rfl) (notify_within ..) rfl
  exact ite (hR.trans ht (hR.raise ..)) ht

theorem failSalvo (hR : Upheld R) (s : State) (n result : Nat) (own : Work → Option Nat) (rest : Nat) :
    R s (s.failSalvo n result own rest) := by
  unfold State.failSalvo
  extract_lets l culprit failed
  have hf : R s failed := hR.foldl (hR.refl s) fun _ _ => hR.fail ..
  exact hR.trans hf (hR.endSalvo ..)

theorem failOn (hR : Upheld R) (s : State) (n : Nat) (y : Work) (st : Nat) : R s (s.failOn n y st) := hR.failSalvo ..

theorem supersede (hR : Upheld R) (s : State) (x : Work) (order : Nat) (f : Format) : R s (s.supersede x order f) :=
  hR.foldl (hR.refl s) fun _ _ => hR.fail ..

/-- A member put among the works, its status word written. -/
theorem putOutcome (hR : Upheld R) (s : State) (x y : Work) (st n : Nat) : R s ((s.putWork x).setOutcome y st n) :=
  hR.step (hR.beside (putWork_within ..) rfl) (setOutcome_within ..) rfl

theorem goSalvo (hR : Upheld R) (s : State) (n : Nat) (l : List Work) : R s (s.goSalvo n l) := by
  unfold State.goSalvo
  split
  · exact hR.failOn ..
  · refine hR.step (hR.step (hR.foldl (hR.refl s) fun a x => ?_) (setFld_within ..) rfl) (notify_within ..) rfl
    refine hR.trans ?_ (hR.putOutcome ..)
    split
    · exact hR.supersede ..
    · exact hR.refl a

theorem decideSalvo (hR : Upheld R) (s : State) (n : Nat) (again : Bool) : R s (s.decideSalvo n again) := by
  unfold State.decideSalvo
  extract_lets w0 c field t l rates bad due put late
  have hput : ∀ a, R a (put a) := fun a => hR.foldl (hR.refl a) fun _ _ => hR.beside (putWork_within ..) rfl
  clear_value put
  split
  next => exact hR.failOn ..
  next v hv =>
    refine hR.trans (hR.beside ((recheckMembers_within s l).get hv) rfl) ?_
    split
    next => exact hR.failOn ..
    next =>
      split
      next => exact hR.failOn ..
      next =>
        extract_lets held
        have hh : R v held := hR.foldl (hR.refl v) fun _ _ => hR.putOutcome ..
        refine ite (hR.failSalvo ..) (ite (hR.failSalvo ..) (ite ?held ?going))
        case held => exact ite hh (hR.step (hR.step hh (setFld_within ..) rfl) (notify_within ..) rfl)
        case going => exact ite (hR.trans (hput v) (hR.failSalvo ..)) (hR.trans (hput v) (hR.goSalvo ..))

theorem salvoArm (hR : Upheld R) (s : State) (ctx n : Nat) (w0 w1 : W) : R s (s.salvoArm ctx n w0 w1).2 := by
  unfold State.salvoArm
  extract_lets st u o v ordered decided
  have hu : R s u := hR.beside (storeCommit_within ..) rfl
  have hv : R s ordered := hR.step (hR.step hu (nextOrder_within u) rfl) (setSalvo_within ..) rfl
  have hw : R s decided := ite (hR.trans hv (hR.failSalvo ..)) (hR.trans hv (hR.decideSalvo ..))
  split
  · exact hR.beside (refuseWork_within ..) rfl
  · split
    · exact hR.beside (refuseWork_within ..) rfl
    · exact hR.step hw (tellTwin_within _) rfl

/-- A salvo armed in its owner's name (R409). -/
theorem gpiArm (hR : Upheld R) (s : State) (n : Nat) : R s (s.gpiArm n) := by
  unfold State.gpiArm
  extract_lets owner rq w0 t
  clear_value rq w0
  suffices h : R s t from hR.step h (set_tw_within ..) rfl
  show R s (s.decideHere rq 2 n fun s => s.salvoArm owner n w0 0).2
  unfold State.decideHere
  split
  · exact hR.salvoArm ..
  · split
    · exact hR.beside (sendOn_within ..) rfl
    · exact hR.beside (refuse_within ..) rfl

/-! ### What isolated dies held ends (R393) -/

theorem sourceLost (hR : Upheld R) (s : State) (p : Nat) : R s (s.sourceLost p) :=
  have hs {x : Src} : R s ((s.setSrc x).setAl p alLOST) := hR.step (hR.beside (setSrc_within ..) rfl) (setAl_within ..) rfl
  ite (hR.refl s) (ite (hR.refl s) (hR.trans hs (hR.raise ..)))

theorem memberEnded (hR : Upheld R) (s : State) (n : Nat) (late : Bool) (bad : Option (Nat × Nat)) : R s (s.memberEnded n late bad) := by
  unfold State.memberEnded
  extract_lets y counted y' kept
  have hc : R s counted := ite (hR.beside (bump_within ..) rfl) (hR.refl s)
  have hk : R s kept := hR.step hc (setSalvo_within ..) rfl
  refine ite (hR.refl s) (ite ?_ ?_)
  · split
    · exact ite (hR.step hk (setFld_within ..) rfl) hk
    · exact hk
  · split <;> exact hR.trans hk (hR.endSalvo ..)

theorem salvoLost (hR : Upheld R) (s : State) (n d : Nat) : R s (s.salvoLost n d) :=
  ite (hR.foldl (hR.refl s) fun _ _ => hR.trans (hR.finish ..) (hR.memberEnded ..)) (hR.failSalvo ..)

theorem settleIsolated (hR : Upheld R) (s : State) : R s s.settleIsolated := by
  unfold State.settleIsolated
  refine hR.foldl (hR.refl s) fun a d => ?_
  extract_lets on lost ns ended
  have hl : R a lost := hR.foldl (hR.refl a) fun b x => ite (hR.refl b) (hR.sourceLost ..)
  have he : R a ended := hR.foldl hl fun b n => hR.salvoLost ..
  exact ite hl (hR.foldl he fun b x => hR.finish ..)

end Upheld

/-! ### The inputs -/

/-- From `s` to `t` no input moves and no time passes since power-on. -/
structure KeepsInputs (s t : State) : Prop where
  gpi : t.ev.gpi = s.ev.gpi
  watch : KeepsWatch s t

/-- The parts `l` hold neither the inputs, the clock nor the role. -/
def sparesInputs (l : List Part) : Bool := !takesIn l Part.ev && sparesWatch l

section KeepsInputs
variable {s t u : State}

theorem KeepsInputs.refl : KeepsInputs s s := ⟨rfl, .refl⟩

theorem KeepsInputs.trans (h : KeepsInputs s t) (g : KeepsInputs t u) : KeepsInputs s u :=
  ⟨g.gpi.trans h.gpi, h.watch.trans g.watch⟩

theorem KeepsInputs.of_within {l : List Part} (h : Within l s t) (m : sparesInputs l = true) : KeepsInputs s t := by
  simp only [sparesInputs, Bool.and_eq_true, Bool.not_eq_true'] at m
  obtain ⟨hev, hwatch⟩ := m
  exact ⟨congrArg EvState.gpi (h.agrees.ev hev), .of_within h hwatch⟩

/-- One more operation, on parts that hold none of them. -/
theorem KeepsInputs.step {l : List Part} (h : KeepsInputs s t) (g : Within l t u) (m : sparesInputs l = true) : KeepsInputs s u :=
  h.trans (.of_within g m)

theorem KeepsInputs.ite {c : Prop} [Decidable c] (ht : KeepsInputs s t) (hu : KeepsInputs s u) :
    KeepsInputs s (if c then t else u) := by split <;> assumption

theorem KeepsInputs.foldl {α : Type} {f : State → α → State} {xs : List α} (ht : KeepsInputs s t)
    (hf : ∀ a x, KeepsInputs a (f a x)) : KeepsInputs s (xs.foldl f t) := by
  induction xs generalizing t with
  | nil => exact ht
  | cons x xs ih => exact ih (ht.trans (hf t x))

theorem KeepsInputs.input (h : KeepsInputs s t) (i : Nat) : t.gpi i = s.gpi i := by rw [State.gpi, h.gpi]; rfl

theorem RecordsOnly.gpi (h : RecordsOnly s t) : t.ev.gpi = s.ev.gpi := by rw [show t.ev = _ from h]

end KeepsInputs

/-! ### Records and faults -/

theorem withMgr_keepsInputs (s : State) (d : Nat) (f : FaultMgr → FaultMgr) : KeepsInputs s (s.withMgr d f) :=
  ⟨rfl, .of_within (withMgr_within ..) rfl⟩

theorem takeOut_keepsInputs (s : State) (c : UnitCls) (d p : Nat) : KeepsInputs s (s.takeOut c d p) :=
  ⟨by unfold State.takeOut; split <;> rfl, .of_within (takeOut_within ..) rfl⟩

theorem writeRec_keepsInputs (s : State) (n : NewRec) : KeepsInputs s (s.writeRec n).1 :=
  ⟨(writeRec_recordsOnly s n).gpi, writeRec_keepsWatch s n⟩

theorem driveFault_keepsInputs (s : State) : KeepsInputs s s.driveFault := ⟨rfl, driveFault_keepsWatch s⟩

theorem isolateDie_keepsInputs (s : State) (d code seq : Nat) (handed : Bool) : KeepsInputs s (s.isolateDie d code seq handed) := by
  unfold State.isolateDie
  extract_lets q s1 s2 s3 s4 w f s5
  have h2 : KeepsInputs s s2 := (withMgr_keepsInputs ..).step (bump_within ..) rfl
  have h3 : KeepsInputs s s3 := h2.trans ⟨rfl, rfl, rfl⟩
  have h4 : KeepsInputs s s4 := ((h3.step (setFld_within ..) rfl).step (relays_within _) rfl).step (notify_within ..) rfl
  have hw : KeepsInputs s w.1 := h4.trans (writeRec_keepsInputs ..)
  have h5 : KeepsInputs s s5 := (hw.trans (withMgr_keepsInputs ..)).step (tellRecord_within ..) rfl
  exact .ite .refl (h5.trans (driveFault_keepsInputs _))

theorem raiseSeq_keepsInputs (s : State) (code : Nat) (l : Level) (die p1 p2 p3 : Nat) (byHandler : Bool) :
    KeepsInputs s (s.raiseSeq code l die p1 p2 p3 byHandler).1 := by
  unfold State.raiseSeq
  extract_lets u l1 m t l2 esc old w told written f accepted toldOf counted merged out isolated driven
  have hw : KeepsInputs s written := writeRec_keepsInputs ..
  have ha : KeepsInputs s accepted := hw.trans (withMgr_keepsInputs ..)
  have ht : KeepsInputs s toldOf := .ite (ha.step (tellRecord_within ..) rfl) ha
  have hc : KeepsInputs s counted := .ite (ht.step (bump_within ..) rfl) ht
  have hm : KeepsInputs s merged := .ite (hc.step (bump_within ..) rfl) hc
  have ho : KeepsInputs s out := .ite (hm.trans (takeOut_keepsInputs ..)) hm
  have hi : KeepsInputs s isolated := .ite (ho.trans (isolateDie_keepsInputs ..)) ho
  have hd : KeepsInputs s driven := hi.trans (driveFault_keepsInputs _)
  exact .ite hd (hd.step (notify_within ..) rfl)

theorem raise_keepsInputs (s : State) (code die p1 p2 p3 : Nat) : KeepsInputs s (s.raise code die p1 p2 p3) :=
  raiseSeq_keepsInputs ..

theorem note_keepsInputs (s : State) (code p1 p2 p3 : Nat) : KeepsInputs s (s.note code p1 p2 p3) := raise_keepsInputs ..

theorem inputs_upheld : Upheld KeepsInputs where
  refl _ := .refl
  trans := .trans
  beside h m := .of_within h (by simp only [sparesFaults, sparesInputs, Bool.and_eq_true] at m ⊢; exact m.1)
  raise := raise_keepsInputs

theorem gpiArm_keepsInputs (s : State) (n : Nat) : KeepsInputs s (s.gpiArm n) := inputs_upheld.gpiArm s n

/-! ### The sillage of an isolated die -/

/-- From `s` to `t` an isolated die stays so, its sillage in its STATE. -/
structure KeepsShut (d : Nat) (s t : State) : Prop where
  isolated : s.sys.isolated ⊆ t.sys.isolated
  state : d ∈ s.sys.isolated → t.fld F.EV_SILLAGE_STATE d = s.fld F.EV_SILLAGE_STATE d

section KeepsShut
variable {d : Nat} {s t u : State}

theorem KeepsShut.refl : KeepsShut d s s := ⟨List.Subset.refl _, fun _ => rfl⟩

theorem KeepsShut.trans (h : KeepsShut d s t) (g : KeepsShut d t u) : KeepsShut d s u :=
  ⟨List.Subset.trans h.isolated g.isolated, fun hd => (g.state (h.isolated hd)).trans (h.state hd)⟩

theorem KeepsShut.of_within {l : List Part} (h : Within l s t) (hs : takesIn l Part.sys = false) (he : takesIn l 0x7810 = false) :
    KeepsShut d s t :=
  ⟨h.agrees.sys hs ▸ List.Subset.refl _, fun _ => h.fld_eq (f := F.EV_SILLAGE_STATE) he d⟩

theorem KeepsShut.ite {c : Prop} [Decidable c] (ht : KeepsShut d s t) (hu : KeepsShut d s u) : KeepsShut d s (if c then t else u) := by
  split <;> assumption

theorem driveFault_keepsShut (s : State) : KeepsShut d s s.driveFault := ⟨List.Subset.refl _, fun _ => rfl⟩

theorem relays_state (s : State) (d : Nat) : s.relays.fld F.EV_SILLAGE_STATE d = s.fld F.EV_SILLAGE_STATE d := by
  unfold State.relays
  generalize List.range s.dies = l
  induction l generalizing s with
  | nil => rfl
  | cons e l ih =>
    rw [List.foldl_cons, ih]
    split
    · rfl
    · split
      · exact fld_setFld_apart _ _ _ _ rfl
      · rfl

/-- The die that is isolated was none of the isolated ones. -/
theorem isolateDie_keepsShut (s : State) (e code seq : Nat) (handed : Bool) : KeepsShut d s (s.isolateDie e code seq handed) := by
  by_cases he : e ∈ s.sys.isolated
  · rw [State.isolateDie, if_pos (by simpa using he)]
    exact .refl
  refine ⟨(isolateDie_keepsIsolated ..).isolated, fun hd => ?_⟩
  have hde : d ≠ e := fun h => he (h ▸ hd)
  unfold State.isolateDie
  rw [if_neg (by simpa using he)]
  extract_lets q s1 s2 s3 s4 w f s5
  have h2 : KeepsShut d s s2 := (KeepsShut.of_within (withMgr_within ..) rfl rfl).trans (.of_within (bump_within ..) rfl rfl)
  have h3 : s3.fld F.EV_SILLAGE_STATE d = s.fld F.EV_SILLAGE_STATE d := h2.state hd
  have hs : (s3.setFld F.EV_SILLAGE_STATE e 2).fld F.EV_SILLAGE_STATE d = s.fld F.EV_SILLAGE_STATE d :=
    (fld_setFld_elem _ _ _ _ hde).trans h3
  have h4 : s4.fld F.EV_SILLAGE_STATE d = s.fld F.EV_SILLAGE_STATE d :=
    (fld_notify _ _ _ rfl _).trans ((relays_state _ d).trans hs)
  have hw : Within Parts.calm s4 w.1 := (writeRec_within ..).mono rfl
  have h5 : Within Parts.calm s4 s5 := (hw.step (withMgr_within ..) rfl).step (tellRecord_within ..) rfl
  have h6 : Within Parts.calm s4 s5.driveFault := h5.step (driveFault_within s5) rfl
  exact (h6.fld_eq (f := F.EV_SILLAGE_STATE) rfl d).trans h4

theorem raiseSeq_keepsShut (s : State) (code : Nat) (l : Level) (die p1 p2 p3 : Nat) (byHandler : Bool) :
    KeepsShut d s (s.raiseSeq code l die p1 p2 p3 byHandler).1 := by
  unfold State.raiseSeq
  extract_lets u l1 m t l2 esc old w told written f accepted toldOf counted merged out isolated driven
  have ha : KeepsShut d s accepted := (KeepsShut.of_within (writeRec_within ..) rfl rfl).trans (.of_within (withMgr_within ..) rfl rfl)
  have ht : KeepsShut d s toldOf := .ite (ha.trans (.of_within (tellRecord_within ..) rfl rfl)) ha
  have hc : KeepsShut d s counted := .ite (ht.trans (.of_within (bump_within ..) rfl rfl)) ht
  have hm : KeepsShut d s merged := .ite (hc.trans (.of_within (bump_within ..) rfl rfl)) hc
  have ho : KeepsShut d s out := .ite (hm.trans (.of_within (takeOut_within ..) rfl rfl)) hm
  have hi : KeepsShut d s isolated := .ite (ho.trans (isolateDie_keepsShut ..)) ho
  have hd : KeepsShut d s driven := hi.trans (driveFault_keepsShut _)
  exact .ite hd (hd.trans (.of_within (notify_within ..) rfl rfl))

theorem shut_upheld : Upheld (KeepsShut d) where
  refl _ := .refl
  trans := .trans
  beside h m := by
    simp only [sparesFaults, sparesWatch, Bool.and_eq_true, Bool.not_eq_true'] at m
    exact .of_within h m.1.2.2 m.2
  raise s code die p1 p2 p3 := raiseSeq_keepsShut s code _ die p1 p2 p3 false

end KeepsShut

end Sys2Proof.Machine
end

section
/-! The general-purpose and pulse inputs (R407 to R410). -/
namespace Sys2Proof.Machine

section Inputs
variable {s t : State} {i n e : Nat} {f : Fld} {rq : Req} {v : W}

theorem gpi_withGpi (h : i < s.ev.gpi.length) (g : GpiIn → GpiIn) : (s.withGpi i g).gpi i = g (s.gpi i) := by
  simp only [State.gpi, State.withGpi, withEv_ev, List.getD_eq_getElem?_getD, List.getElem?_modify_eq, List.getElem?_eq_getElem h]
  rfl

theorem withGpi_length (s : State) (i : Nat) (g : GpiIn → GpiIn) : (s.withGpi i g).ev.gpi.length = s.ev.gpi.length :=
  List.length_modify ..

/-! ### STATE of an input -/

def Parts.pulseRef : List Part := [Part.tm, 0x5018, 0x6048, Part.host]

/-- Beyond its STATE, an input that changes moves its pulse reference alone. -/
theorem setGpi_beyond (s : State) (i n : Nat) : Within Parts.pulseRef (s.setFld F.EV_GPI_STAT_STATE i n) (s.setGpi i n) := by
  unfold State.setGpi
  extract_lets o u
  refine .ite .refl (.ite ((refLost_within ..).mono rfl) (.ite (.ite ((beginQualify_within ..).mono rfl) .refl) .refl))

theorem gpiState_setGpi (h : n < 16) : (s.setGpi i n).gpiState i = n :=
  ((setGpi_beyond s i n).fld_eq (f := F.EV_GPI_STAT_STATE) rfl i).trans (fld_setFld_of_lt _ _ _ rfl h)

theorem fld_setGpi (hf : f.apart F.EV_GPI_STAT_STATE = true) (m : takesIn Parts.pulseRef f.ix = false) :
    (s.setGpi i n).fld f e = s.fld f e :=
  ((setGpi_beyond s i n).fld_eq m e).trans (fld_setFld_apart _ _ _ _ hf)

theorem setGpi_keepsInputs (s : State) (i n : Nat) : KeepsInputs s (s.setGpi i n) := .of_within (setGpi_within ..) rfl

/-- ACTIVE or INACTIVE, as the level is. -/
theorem gpActive_lt (on : Bool) : (if on = true then gpACTIVE else gpINACTIVE) < 16 := by cases on <;> decide

/-! ### An edge -/

theorem chatter_edge (s : State) (i : Nat) (hi : i < s.ev.gpi.length) :
    ((s.chatter i).gpi i).raw = (s.gpi i).raw ∧ (s.chatter i).fld F.EV_GPI_STAT_LEVEL i = s.fld F.EV_GPI_STAT_LEVEL i := by
  unfold State.chatter
  extract_lets g u w
  have hu : (u.gpi i).raw = (s.gpi i).raw := (congrArg GpiIn.raw (gpi_withGpi hi _)).trans rfl
  have hw : KeepsInputs u w := (setGpi_keepsInputs ..).step (bump_within ..) rfl
  have hn := (note_keepsInputs w 0x7807 i g.prevN g.prevMs).step (notify_within _ 0x7850 i) rfl
  refine ⟨(congrArg GpiIn.raw ((hw.trans hn).input i)).trans hu, ?_⟩
  calc ((w.note 0x7807 i g.prevN g.prevMs).notify 0x7850 i).fld F.EV_GPI_STAT_LEVEL i
    _ = w.fld F.EV_GPI_STAT_LEVEL i := ((note_within ..).step (notify_within ..) rfl).fld_eq (f := F.EV_GPI_STAT_LEVEL) rfl i
    _ = (u.setGpi i gpCHATTER).fld F.EV_GPI_STAT_LEVEL i := fld_bump_apart _ _ _ _ rfl
    _ = u.fld F.EV_GPI_STAT_LEVEL i := fld_setGpi rfl rfl

theorem gpiEdge_moves (hi : i < 36) (hl : i < s.ev.gpi.length) :
    ((s.gpiEdge i).gpi i).raw = !(s.gpi i).raw ∧ (s.gpiEdge i).fld F.EV_GPI_STAT_LEVEL i = flag (!(s.gpi i).raw) := by
  unfold State.gpiEdge
  rw [if_neg (Nat.not_le.2 hi)]
  extract_lets now win u w
  have hraw : (u.gpi i).raw = !(s.gpi i).raw := congrArg GpiIn.raw (gpi_withGpi hl _)
  have hwl : i < w.ev.gpi.length := (withGpi_length s i _).symm ▸ hl
  have hw : (w.gpi i).raw = !(s.gpi i).raw := hraw
  have hlevel : w.fld F.EV_GPI_STAT_LEVEL i = flag (!(s.gpi i).raw) := hraw ▸ fld_setFld_of_lt _ _ _ rfl (flag_lt _)
  split
  · exact ⟨(congrArg GpiIn.raw (gpi_withGpi hwl _)).trans hw, hlevel⟩
  · split
    · obtain ⟨hr, hf⟩ := chatter_edge w i hwl
      exact ⟨hr.trans hw, hf.trans hlevel⟩
    · exact ⟨hw, hlevel⟩

theorem gpiEdge_none (hi : 36 ≤ i) : s.gpiEdge i = s := if_pos hi

/-! ### The level held, the input stuck, the chatter over -/

/-- An input's qualified level is known, and its subscribers are told. -/
def State.levelQualified (s : State) (i : Nat) (on : Bool) (edgeNs : Nat) : State :=
  let s := (s.setFld F.EV_GPI_STAT_EDGETIME i edgeNs).bump F.EV_GPI_STAT_QEDGES i 1
  (s.setGpi i (if on then gpACTIVE else gpINACTIVE)).notify 0x7850 i

theorem levelQualified_keepsInputs (s : State) (i : Nat) (on : Bool) (edgeNs : Nat) : KeepsInputs s (s.levelQualified i on edgeNs) := by
  unfold State.levelQualified
  extract_lets w
  have hw : KeepsInputs s w := .of_within ((setFld_within ..).step (bump_within ..) rfl) rfl
  exact (hw.trans (setGpi_keepsInputs ..)).step (notify_within ..) rfl

theorem levelQualified_stat (s : State) (i : Nat) (on : Bool) (edgeNs : Nat) :
    (s.levelQualified i on edgeNs).gpiState i = (if on = true then gpACTIVE else gpINACTIVE) ∧
      (s.levelQualified i on edgeNs).fld F.EV_GPI_STAT_QEDGES i =
        satAdd (2 ^ F.EV_GPI_STAT_QEDGES.len - 1) (s.fld F.EV_GPI_STAT_QEDGES i) 1 := by
  unfold State.levelQualified
  extract_lets w
  refine ⟨(fld_notify _ _ _ rfl _).trans (gpiState_setGpi (gpActive_lt on)), ?_⟩
  calc ((w.setGpi i (if on then gpACTIVE else gpINACTIVE)).notify 0x7850 i).fld F.EV_GPI_STAT_QEDGES i
    _ = (w.setGpi i (if on then gpACTIVE else gpINACTIVE)).fld F.EV_GPI_STAT_QEDGES i := fld_notify _ _ _ rfl _
    _ = w.fld F.EV_GPI_STAT_QEDGES i := fld_setGpi rfl rfl
    _ = satAdd _ ((s.setFld F.EV_GPI_STAT_EDGETIME i edgeNs).fld F.EV_GPI_STAT_QEDGES i) 1 := fld_bump_same _ _ _ rfl
    _ = satAdd _ (s.fld F.EV_GPI_STAT_QEDGES i) 1 := congrArg (satAdd _ · 1) (fld_setFld_apart _ _ _ _ rfl)

/-- What a qualified active edge decides beyond the input (R409): triggers, and its salvo. -/
def State.gpiActs (s : State) (i : Nat) : State :=
  let s := s.trigGpi i s.house
  if s.fld F.EV_GPI_ACTION i = 1 then s.gpiArm (s.fld F.EV_GPI_SALVO i) else s

theorem gpiActs_keepsInputs (s : State) (i : Nat) : KeepsInputs s (s.gpiActs i) := by
  unfold State.gpiActs
  extract_lets u
  have hu : KeepsInputs s u := .of_within (trigGpi_within ..) rfl
  exact .ite (hu.trans (gpiArm_keepsInputs ..)) hu

theorem gpiActs_within (s : State) (i : Nat) : Within (Part.ap :: Parts.gpiArm) s (s.gpiActs i) := by
  unfold State.gpiActs
  extract_lets u
  have hu : Within (Part.ap :: Parts.gpiArm) s u := (trigGpi_within ..).mono rfl
  exact .ite (hu.step (gpiArm_within ..) rfl) hu

/-- What GPI_QUALIFY does once the level has been held. -/
def State.qualifyAs (s : State) (i : Nat) (on : Bool) : State :=
  let g := s.gpi i
  let s := (s.withGpi i fun x => { x with active := on, actSince := g.since }).levelQualified i on g.edgeNs
  if on && i < 32 then s.gpiActs i else s

theorem gpiQualify_held (hi : i < 36) (hc : s.gpiState i ≠ gpCHATTER) (ha : s.gpiLevel i ≠ (s.gpi i).active) :
    s.gpiQualify i = (s.waitUntil ((s.gpi i).since + us (s.fld F.EV_GPI_MINW i))).qualifyAs i (s.gpiLevel i) := by
  unfold State.gpiQualify
  rw [if_neg (by simp [Nat.not_le.2 hi, hc, ha])]
  generalize s.waitUntil ((s.gpi i).since + us (s.fld F.EV_GPI_MINW i)) = u
  rfl

theorem qualifyAs_qualified (hl : i < s.ev.gpi.length) (on : Bool) :
    let t := s.qualifyAs i on
    t.gpiState i = (if on = true then gpACTIVE else gpINACTIVE) ∧ (t.gpi i).active = on ∧
      t.fld F.EV_GPI_STAT_QEDGES i = satAdd (2 ^ F.EV_GPI_STAT_QEDGES.len - 1) (s.fld F.EV_GPI_STAT_QEDGES i) 1 ∧ t.now = s.now := by
  intro t
  let w := s.withGpi i fun x => { x with active := on, actSince := (s.gpi i).since }
  let q := w.levelQualified i on (s.gpi i).edgeNs
  have ht : Within (Part.ap :: Parts.gpiArm) q t := .ite (gpiActs_within q i) .refl
  have hkt : KeepsInputs q t := .ite (gpiActs_keepsInputs q i) .refl
  have hkeep : KeepsInputs w t := (levelQualified_keepsInputs ..).trans hkt
  have hact : (w.gpi i).active = on := congrArg GpiIn.active (gpi_withGpi hl _)
  obtain ⟨hstate, hedges⟩ := levelQualified_stat w i on (s.gpi i).edgeNs
  refine ⟨(ht.fld_eq (f := F.EV_GPI_STAT_STATE) rfl i).trans hstate, (congrArg GpiIn.active (hkeep.input i)).trans hact, ?_,
    hkeep.watch.now⟩
  exact (ht.fld_eq (f := F.EV_GPI_STAT_QEDGES) rfl i).trans hedges

theorem gpiQualify_qualified (hi : i < 36) (hc : s.gpiState i ≠ gpCHATTER) (ha : s.gpiLevel i ≠ (s.gpi i).active)
    (hl : i < s.ev.gpi.length) :
    let t := s.gpiQualify i
    t.gpiState i = (if s.gpiLevel i = true then gpACTIVE else gpINACTIVE) ∧ (t.gpi i).active = s.gpiLevel i ∧
      t.fld F.EV_GPI_STAT_QEDGES i = satAdd (2 ^ F.EV_GPI_STAT_QEDGES.len - 1) (s.fld F.EV_GPI_STAT_QEDGES i) 1 ∧
      (s.gpi i).since + us (s.fld F.EV_GPI_MINW i) ≤ t.now := by
  dsimp only
  rw [gpiQualify_held hi hc ha]
  have hw := waitUntil_within s ((s.gpi i).since + us (s.fld F.EV_GPI_MINW i))
  have hnow := le_now_waitUntil s ((s.gpi i).since + us (s.fld F.EV_GPI_MINW i))
  generalize s.waitUntil ((s.gpi i).since + us (s.fld F.EV_GPI_MINW i)) = u at hw hnow ⊢
  obtain ⟨hstate, hact, hedges, hclk⟩ := qualifyAs_qualified (s := u) (by rwa [hw.agrees.ev rfl]) (s.gpiLevel i)
  exact ⟨hstate, hact, hw.fld_eq (f := F.EV_GPI_STAT_QEDGES) rfl i ▸ hedges, hnow.trans_eq hclk.symm⟩

theorem gpiQualify_idle (h : ¬(i < 36 ∧ s.gpiState i ≠ gpCHATTER ∧ s.gpiLevel i ≠ (s.gpi i).active)) : s.gpiQualify i = s := by
  refine if_pos ?_
  simp only [Bool.or_eq_true, decide_eq_true_eq, beq_iff_eq]
  by_contra hn
  exact h (by simpa [not_or, and_assoc] using hn)

theorem gpiStuck_stuck (hi : i < 36) (hs : s.gpiState i = gpACTIVE) (hf : s.fld F.EV_GPI_STUCK i ≠ 0) :
    let t := s.gpiStuck i
    t.gpiState i = gpSTUCK ∧
      t.fld F.EV_GPI_STAT_STUCKS i = satAdd (2 ^ F.EV_GPI_STAT_STUCKS.len - 1) (s.fld F.EV_GPI_STAT_STUCKS i) 1 ∧
      (s.gpi i).actSince + secs (s.fld F.EV_GPI_STUCK i) ≤ t.now := by
  unfold State.gpiStuck
  rw [if_neg (by simp [Nat.not_le.2 hi, hs, hf])]
  extract_lets u w
  have hu : Within Parts.waitUntil s u := waitUntil_within ..
  have hnow : (s.gpi i).actSince + secs (s.fld F.EV_GPI_STUCK i) ≤ u.now := le_now_waitUntil ..
  clear_value u
  have hw : KeepsInputs u w := (setGpi_keepsInputs ..).step (bump_within ..) rfl
  have hn := (note_keepsInputs w 0x7806 i (flag (w.gpi i).raw) 0).step (notify_within _ 0x7850 i) rfl
  have ht := (note_within w 0x7806 i (flag (w.gpi i).raw) 0).step (notify_within _ 0x7850 i) rfl
  refine ⟨?_, ?_, hnow.trans_eq (hw.trans hn).watch.now.symm⟩
  · calc ((w.note 0x7806 i (flag (w.gpi i).raw) 0).notify 0x7850 i).gpiState i
      _ = w.fld F.EV_GPI_STAT_STATE i := ht.fld_eq (f := F.EV_GPI_STAT_STATE) rfl i
      _ = (u.setGpi i gpSTUCK).gpiState i := fld_bump_apart _ _ _ _ rfl
      _ = gpSTUCK := gpiState_setGpi (by decide)
  · calc ((w.note 0x7806 i (flag (w.gpi i).raw) 0).notify 0x7850 i).fld F.EV_GPI_STAT_STUCKS i
      _ = w.fld F.EV_GPI_STAT_STUCKS i := ht.fld_eq (f := F.EV_GPI_STAT_STUCKS) rfl i
      _ = satAdd _ ((u.setGpi i gpSTUCK).fld F.EV_GPI_STAT_STUCKS i) 1 := fld_bump_same _ _ _ rfl
      _ = satAdd _ (u.fld F.EV_GPI_STAT_STUCKS i) 1 := congrArg (satAdd _ · 1) (fld_setGpi rfl rfl)
      _ = satAdd _ (s.fld F.EV_GPI_STAT_STUCKS i) 1 := congrArg (satAdd _ · 1) (hu.fld_eq (f := F.EV_GPI_STAT_STUCKS) rfl i)

theorem gpiStuck_idle (h : ¬(i < 36 ∧ s.gpiState i = gpACTIVE ∧ s.fld F.EV_GPI_STUCK i ≠ 0)) : s.gpiStuck i = s := by
  refine if_pos ?_
  simp only [Bool.or_eq_true, decide_eq_true_eq, beq_iff_eq, bne_iff_ne]
  by_contra hn
  exact h (by simpa [not_or, and_assoc] using hn)

theorem gpiSettle_state (s : State) (i : Nat) :
    (s.gpiSettle i).gpiState i = (if s.gpiLevel i = true then gpACTIVE else gpINACTIVE) ∧ (s.gpiSettle i).now = s.now := by
  unfold State.gpiSettle
  extract_lets on now chattering u
  have hu : u.now = s.now := rfl
  exact ⟨gpiState_setGpi (gpActive_lt on), (setGpi_keepsInputs u i _).watch.now.trans hu⟩

/-- Time that passes leaves the level of an input. -/
theorem gpiLevel_waitUntil (s : State) (n i : Nat) : (s.waitUntil n).gpiLevel i = s.gpiLevel i := by
  have hw := waitUntil_within s n
  rw [State.gpiLevel, State.gpi, hw.agrees.ev rfl, hw.fld_eq (f := F.EV_GPI_POL) rfl, hw.fld_eq (f := F.TM_REF_POL) rfl]
  rfl

theorem gpiUnmask_returns (hi : i < 36) (hs : s.gpiState i = gpCHATTER) :
    let t := s.gpiUnmask i
    t.gpiState i = (if s.gpiLevel i = true then gpACTIVE else gpINACTIVE) ∧ (s.gpi i).since + ms (s.fld F.EV_GPI_HOLD i) ≤ t.now := by
  unfold State.gpiUnmask
  rw [if_neg (by simp [Nat.not_le.2 hi, hs])]
  have hlevel := gpiLevel_waitUntil s ((s.gpi i).since + ms (s.fld F.EV_GPI_HOLD i)) i
  have hnow := le_now_waitUntil s ((s.gpi i).since + ms (s.fld F.EV_GPI_HOLD i))
  generalize s.waitUntil ((s.gpi i).since + ms (s.fld F.EV_GPI_HOLD i)) = u at hlevel hnow
  obtain ⟨hstate, hclk⟩ := gpiSettle_state u i
  have hn := notify_within (u.gpiSettle i) 0x7850 i
  refine ⟨(hn.fld_eq (f := F.EV_GPI_STAT_STATE) rfl i).trans (hlevel ▸ hstate), ?_⟩
  exact hnow.trans_eq ((KeepsWatch.of_within hn rfl).now.trans hclk).symm

theorem gpiUnmask_idle (h : ¬(i < 36 ∧ s.gpiState i = gpCHATTER)) : s.gpiUnmask i = s := by
  refine if_pos ?_
  simp only [Bool.or_eq_true, decide_eq_true_eq, bne_iff_ne]
  by_contra hn
  exact h (by simpa [not_or, and_assoc] using hn)

/-! ### EV_GPI (R408) -/

theorem putGpi_word (s : State) (i : Nat) (v : W) : ((putGpi i v).2 s).2.word 0x7848 i 0 = v := by
  have hset : Within (Parts.gpiSettle ++ Parts.notify) (s.putWord 0x7848 i 0 v) ((s.putWord 0x7848 i 0 v).gpiSettle i) :=
    (gpiSettle_within ..).mono rfl
  have hown : Within (Parts.gpiSettle ++ Parts.notify) (s.putWord 0x7848 i 0 v) ((putGpi i v).2 s).2 :=
    .ite hset (hset.step (notify_within ..) rfl)
  exact (hown.word_eq (ix := 0x7848) rfl i 0).trans (word_putWord_same _ _ _ _ rfl)

theorem gpiWrite_stored (hp : s.passes rq (putGpi i v).1 = true) :
    let t := s.request rq (putGpi i v).1 (putGpi i v).2
    t.word 0x7848 i 0 = v ∧ t.replied ⟨0x7848, 0, i⟩ .ok := by
  obtain ⟨hin, hr⟩ := passed_stored (own := (putGpi i v).2) (t := ((putGpi i v).2 s.stir).2) hp rfl
  exact ⟨(hin.word_eq (ix := 0x7848) rfl i 0).trans (putGpi_word ..), hr⟩

end Inputs

/-- Settles O33: whatever an input's edge decides or records beyond the input leaves it. -/
theorem inputsAreQualified : Obligations.InputsAreQualified := by
  unfold Obligations.InputsAreQualified
  refine ⟨?edge, ?qualify, ?stuck, ?unmask, ?write⟩
  case edge => exact fun i s => ⟨_, rfl, gpiEdge_moves, gpiEdge_none⟩
  case qualify =>
    refine fun i s => ⟨_, rfl, ?_, gpiQualify_idle⟩
    rintro ⟨hi, hc, ha⟩ hl
    exact gpiQualify_qualified hi hc ha hl
  case stuck =>
    refine fun i s => ⟨_, rfl, ?_, gpiStuck_idle⟩
    rintro ⟨hi, hs, hf⟩
    exact gpiStuck_stuck hi hs hf
  case unmask =>
    refine fun i s => ⟨_, rfl, ?_, gpiUnmask_idle⟩
    rintro ⟨hi, hs⟩
    exact gpiUnmask_returns hi hs
  case write => exact fun rq i v s => ⟨_, rfl, gpiWrite_stored⟩

end Sys2Proof.Machine
end

section
/-! A sillage that fails while its die's fault manager has no room (R394, R405), which the statement about memory errors denies. -/
namespace Sys2Proof.Machine

/-- Die 0 stands, with its sillage. -/
theorem crowdedCore_sillage : crowdedCore.sillageOk 0 = true ∧ 0 < crowdedCore.dies := by decide +kernel

/-- An uncorrectable error of the sillage's region: SRAM-UE, a CONTAIN, preempts the handler, and SILLAGE-FAIL, for which the queue has no
room, is escalated to the ISOLATE of die 0 (R394), so that its sillage reads ISOLATED (R403). -/
def shutCore : State := crowdedCore.sramUe 0 5 0 0

theorem shutCore_isolated : shutCore.sys.isolated = [0] ∧ shutCore.fld F.EV_SILLAGE_STATE 0 = 2 := by decide +kernel

theorem shutCore_settled : shutCore.settleIsolated.sys.isolated = [0] := by decide +kernel

/-- A state that ends as that one does, when what isolated dies held has ended, has the same sillage ISOLATED. -/
theorem settlesAs_shutCore {t : State} (h : shutCore.settleIsolated = t.settleIsolated) : t.fld F.EV_SILLAGE_STATE 0 = 2 := by
  obtain ⟨hiso, hstate⟩ := shutCore_isolated
  have hend : t.settleIsolated.fld F.EV_SILLAGE_STATE 0 = 2 := by
    rw [← h, (shut_upheld.settleIsolated shutCore).state (by simp [hiso]), hstate]
  by_cases ht : 0 ∈ t.sys.isolated
  · exact ((shut_upheld.settleIsolated t).state ht).symm.trans hend
  · have hsub := (settleIsolated_keepsIsolated t).isolated
    rw [← h, shutCore_settled] at hsub
    have hnone : t.sys.isolated = [] :=
      List.eq_nil_iff_forall_not_mem.2 fun d hd => ht (List.mem_singleton.1 (hsub hd) ▸ hd)
    have hsame : t.settleIsolated = t := by rw [State.settleIsolated, hnone]; rfl
    rwa [hsame] at hend

/-- Refutes O30: where eight faults are queued, none of them a NOTICE, an error of the sillage's region isolates its die (R394); the sillage
then reads ISOLATED, not FAILED, although it stood before. -/
theorem not_memoryErrorsAreCounted : ¬ Obligations.MemoryErrorsAreCounted := by
  unfold Obligations.MemoryErrorsAreCounted
  rintro ⟨hue, -⟩
  obtain ⟨t, he, -, hfails, -⟩ := hue 0 5 0 0 crowdedCore
  have hfailed : t.fld F.EV_SILLAGE_STATE 0 = 1 := hfails crowdedCore_sillage.2 rfl crowdedCore_sillage.1
  have hu : shutCore.settleIsolated = t.settleIsolated := Host.Outcome.next.inj he
  exact absurd (hfailed.symm.trans (settlesAs_shutCore hu)) (by decide)

end Sys2Proof.Machine
end
